-- ==== Sys2Proof/Word.lean ====
section
/-! DEFINITION. The bit vectors of the machine: bytes, words, double words (R12, R13). -/

namespace Sys2Proof

/-- One byte. -/
abbrev Byte := BitVec 8
/-- One 32-bit word. -/
abbrev Word := BitVec 32
/-- One 64-bit word: an address register, a 64-bit register, a memory double word. -/
abbrev DWord := BitVec 64

end Sys2Proof
end

