-- ==== Sys2Proof/Kinds.lean ====
section
/-! DEFINITION. The named alternatives that commands carry and the state holds: steps, outcomes,
requesters and report kinds.  Each follows the table of the rule it cites. -/

namespace Sys2Proof

/-- The states of a power domain (R97). -/
inductive DomSt where
  | closed | railWait | ramping | clockWait | scrub | opened | closing | stoppage | disabled | retryWait
  deriving DecidableEq, Repr

/-- The ramp of a domain's switch: none asked for, waiting for the sequencer's grant, or running (R64). -/
inductive RampSt where
  | none | pending | active
  deriving DecidableEq, Repr

/-- What a domain's clock source reports in CLOCK_WAIT (R60): its source locks and its GTC copy is
loaded, or the memory port's interface training ends (PD10). -/
inductive ClockEvent where
  | locked | trained
  deriving DecidableEq, Repr

/-- The end of a domain's scrub (R76). -/
inductive ScrubEnd where
  /-- every line reads back clean, but for single-bit corrections in these tiles of the cluster or slices of the half -/
  | clean (corrected : List (BitVec 3))
  /-- an uncorrectable read-back at this tile and bank, or slice -/
  | uncorrectable (loc : BitVec 8)
  deriving DecidableEq, Repr

/-- The boot images of R75. -/
inductive Image where
  | kfw | dspm | watch
  deriving DecidableEq, Repr

/-- Who writes a register: the driver through the host port, the board controller over MGMT, or the
debug port over JTAG with JTAG_EN (R46, R70, R650). -/
inductive Source where
  | host | mgmt | jtag
  deriving DecidableEq, Repr

/-- The kinds of right an access needs (R416, R430). -/
inductive Access where
  | read | write | atomic | fetch
  deriving DecidableEq, Repr

/-- Who makes a memory request (R427, R432). -/
inductive Requester where
  | tile (n : Nat)
  | dma (n : Nat)
  | queueEngine
  | waitTable
  | dispatcher
  | engine
  | island
  | remote (die : Nat)
  deriving DecidableEq, Repr

/-- How a memory-port or basin access ends besides the owner check (R288, R441, R674). -/
inductive EccEnd where
  | clean | corrected | uncorrectable
  deriving DecidableEq, Repr

/-- An ECC error that a read of a tile store finds (R288): the address of its word, and whether it is uncorrectable. -/
structure TileHit where
  addr : BitVec 20
  bad : Bool
  deriving DecidableEq, Repr

/-- The kinds of monitor sample units keep locally and send as partials (R683). -/
structure Partial where
  slot : Nat
  min : Nat
  max : Nat
  count : Nat
  bins : List Nat
  /-- lowest minimum replica code reported with the samples of a RAIL_V slot, 63 when none (R551) -/
  minCode : Nat
  /-- an over-range sample was taken as 0xFFFF_FFFF (R682) -/
  isOver : Bool
  deriving DecidableEq, Repr

/-- Per-context increments that a partial carries (R686). -/
structure CtxPart where
  cid : Nat
  tasks : Nat
  misses : Nat
  runT : Nat
  bytes : Nat
  walks : Nat
  unwritten : Nat
  deriving DecidableEq, Repr

/-- A fault record on its way to the log (R671).  `cid` and `qid` are `none` where CID_V or QID_V
is 0.  `id` numbers the record from its raising on; `cause` is the `id` of the record that a
CONTEXT_LOST record names (R183). -/
structure FaultRec where
  id : Nat
  code : Nat
  unit : Nat
  src : Nat
  detail : Nat
  stamp : Nat
  cid : Option Nat
  qid : Option Nat
  cause : Option Nat
  deriving DecidableEq, Repr

/-- The reports that the fault concentrator accepts (R42). -/
inductive Report where
  | fault (r : FaultRec)
  | wake (cause reason : Nat)
  | demand (cluster : Nat)
  | phase (tile number : Nat)
  | samplePart (p : Partial)
  | sampleCtx (p : CtxPart)
  | sampleProbe (stop : Nat) (counts : List Nat)
  | sampleLink (port rtt : Nat)
  | sampleActivity (cluster activity : Nat)
  deriving DecidableEq, Repr

/-- What a unit sends as a sample report of its own (R42, R683): its partial for a monitor slot, the increments of a
context, or the activity count of a cluster. -/
inductive SampleOf where
  | slot (k : BitVec 8)
  | ctx (cid : BitVec 10)
  | activity (cluster : BitVec 4) (count : BitVec 32)
  deriving DecidableEq, Repr

/-- A report is a sample report (R44). -/
def Report.isSample : Report → Bool
  | .fault _ => false
  | .wake _ _ => false
  | .demand _ => false
  | .phase _ _ => false
  | .samplePart _ => true
  | .sampleCtx _ => true
  | .sampleProbe _ _ => true
  | .sampleLink _ _ => true
  | .sampleActivity _ _ => true

/-- A report is a fault report (R43). -/
def Report.isFault : Report → Bool
  | .fault _ => true
  | .wake _ _ => false
  | .demand _ => false
  | .phase _ _ => false
  | .samplePart _ => false
  | .sampleCtx _ => false
  | .sampleProbe _ _ => false
  | .sampleLink _ _ => false
  | .sampleActivity _ _ => false

/-- The states of a context (R157, R196). -/
inductive CtxSt where
  | free | opened | drainClose | drainReset | lost | closed
  deriving DecidableEq, Repr

/-- The states of a queue (R163, R198). -/
inductive QueueSt where
  | disabled | active | waiting | halted
  deriving DecidableEq, Repr

/-- How a packet ended (R225): its fence is signalled, set to error with a code, or cancelled. -/
inductive PktEnd where
  | ok
  /-- fault code, raising unit and the number of the fault record (`none`: no record, R183) -/
  | error (code unit : Nat) (rec_ : Option Nat)
  | cancelled
  deriving DecidableEq, Repr

/-- Which policy a missed queue applies (R246). -/
inductive MissPolicy where
  | report | abandon | lose
  deriving DecidableEq, Repr

/-- The states of a tile's control core (R311). -/
inductive CoreSt where
  | idle | running | fetchWait | wait | suspended | swapping | ending
  deriving DecidableEq, Repr

/-- Where a task instance stands once it has been sent (R256-R262). -/
inductive Place where
  /-- running, ending or suspended on tile `t` -/
  | onTile (t : Nat)
  /-- its state is being saved from tile `t` into slot `k` of partition `p` -/
  | saving (t p k : Nat)
  /-- switched out into slot `k` of partition `p`, waiting for the driver's answer to its mover fault -/
  | heldInSlot (p k : Nat)
  /-- switched out into slot `k` of partition `p`, in the ready pool again -/
  | inPool (p k : Nat)
  /-- its state is being loaded from slot `k` of partition `p` onto tile `t` -/
  | loading (t p k : Nat)
  deriving DecidableEq, Repr

/-- How far a fetched packet has got (R221, R238). -/
inductive PktSt where
  /-- fetched, not started -/
  | fetched
  /-- offered to the scheduler, to enter the pool at the next ENTER phase (R238) -/
  | offered
  /-- in the ready pool (R238); a group stays here while instances remain to start -/
  | pooled
  /-- at the head of its queue, holding the queue's waiter or a barrier (R180, R221) -/
  | atHead
  /-- started: on tiles, on a DMA engine, or reserved on a tile for a state packet -/
  | started
  deriving DecidableEq, Repr

/-- The dispatcher's view of a tile (R278); FENCED and CLOSED are derived from its cluster. -/
inductive TileSt where
  | idle | running | swapping | suspended | reserved
  deriving DecidableEq, Repr

/-- A mesh packet: the header fields of R465, the link fields of R517 and its data flits, the first line lowest
(R464). -/
structure Header where
  route : BitVec 32
  hops : BitVec 5
  epoch : Bool
  dst : BitVec 6
  src : BitVec 6
  unit : BitVec 2
  tag : BitVec 6
  /-- virtual network: 0 REQ, 1 RSP, 2 EVT -/
  vn : BitVec 2
  prompt : Bool
  poison : Bool
  len : BitVec 4
  op : BitVec 8
  cid : BitVec 10
  cpar : Bool
  qid : BitVec 15
  count : BitVec 4
  stride : Bool
  status : BitVec 8
  addr : BitVec 52
  mask : BitVec 64
  operand : BitVec 64
  operand2 : BitVec 64
  dstDie : BitVec 9
  srcDie : BitVec 9
  ttl : BitVec 5
  lclass : Bool
  origStop : BitVec 6
  origUnit : BitVec 2
  origTag : BitVec 6
  lfault : BitVec 8
  reqId : BitVec 20
  group : BitVec 8
  contrib : BitVec 16
  hold : BitVec 3
  data : BitVec 4096
  deriving DecidableEq, Repr

/-- The types of a link frame (R510). -/
inductive FrameTy where
  | idle | data | tag | time | pace | ident
  deriving DecidableEq, Repr

/-- A slot of a link frame (R510): a packet's header, which stands for the whole packet here with its data flits
behind it, or one of its data flits. -/
inductive Slot where
  | head (vc : BitVec 3) (h : Header)
  | flit (vc : BitVec 3)
  deriving DecidableEq, Repr

/-- A link frame (R510): its header fields and its filled slots, lowest first. -/
structure LFrame where
  ty : FrameTy
  seq : BitVec 12
  ack : BitVec 12
  ackv : Bool
  nak : Bool
  kepoch : Bool
  slots : List Slot
  /-- credit return: virtual channel and slots -/
  credit : Option (BitVec 3 × BitVec 7)
  deriving DecidableEq, Repr

/-- How a received frame's check went (R511, R534): the CRC is good; it failed; or a TAG frame's tag failed. -/
inductive FrameCheck where
  | good | crcBad | tagBad
  deriving DecidableEq, Repr

/-- The outcome of a training step (R507): what the port finds. -/
inductive TrainEnd where
  /-- lanes with a signal -/
  | detect (lanes : BitVec 8)
  | eq
  /-- inverted lanes, port reversed, miswired lanes -/
  | align (inverted : BitVec 8) (reversed : Bool) (miswired : BitVec 8)
  /-- lanes that are good in both directions -/
  | width (good : BitVec 8)
  | fecLock
  /-- peer die, peer port, peer's REQUIRE_ENC -/
  | ident (die : BitVec 9) (port : BitVec 3) (enc : Bool)
  | secure
  deriving DecidableEq, Repr

/-- Why a port retrains (R509): a lane lost lock or corrected too much, or the driver asked. -/
inductive RetrainCause where
  | lane (n : BitVec 3)
  | driver
  deriving DecidableEq, Repr

/-- How a retrain ends (R509): lanes in use again, or failure. -/
inductive RetrainFin where
  | lanes (good : BitVec 8)
  | failed
  deriving DecidableEq, Repr

/-- How a handshake message fares (R533): the peer is verified and its identity hash is on the list or not, or the
handshake ends past its limit. -/
inductive Handshake where
  | peer (die : BitVec 9) (hash : BitVec 384) (sigOk : Bool)
  | late
  deriving DecidableEq, Repr

/-- The lock outcome of a clock source (R543, R72). -/
inductive LockEnd where
  | locked | failed
  deriving DecidableEq, Repr

/-- Sources of a supply glitch (R658): VDD_SOC, VDD_AON or a cluster's rail. -/
inductive GlitchAt where
  | soc | aon
  | cluster (c : BitVec 4)
  deriving DecidableEq, Repr

/-- Sources of a Keeper integrity alarm (R658). -/
inductive KeeperFault where
  | kat | rom | kfw | keyStore | retention | watchdog
  deriving DecidableEq, Repr

/-- A CSI-2 packet as the receiver meets it (R121): a frame start, a line of payload with what its CRC check found, a
header with a double-bit error, or a packet that R119 accepts and ignores. -/
inductive CsiPacket where
  | frameStart (vc : BitVec 2)
  | line (vc : BitVec 2) (dt : BitVec 6) (crcOk : Bool) (payload : List (BitVec 8))
  | badHeader
  | other
  deriving DecidableEq, Repr

/-- What the lane monitors find on one line before a capture (R125 step 1). -/
inductive LineSt where
  | ok | shortLow | openLine
  deriving DecidableEq, Repr

/-- What a lane's first HS request shows (R125 step 2): a polarity, a line that stays high, or a pair that never
differs. -/
inductive LaneSt where
  | ok | shortHigh | stuck
  deriving DecidableEq, Repr

/-- What happens on the sensor's I3C bus (R115, R119, R123): a private write ends, is not acknowledged, or leaves the bus
stuck; a target takes or gives up its dynamic address; or a target asks for an in-band interrupt or a Hot-Join. -/
inductive I3cEnd where
  | done | failed | stuck
  /-- ENTDAA gives the next target a dynamic address -/
  | entdaa (address : BitVec 7)
  /-- SETDASA gives the target at a static address a dynamic one -/
  | setdasa (fixed address : BitVec 7)
  /-- RSTDAA: every target gives its dynamic address up -/
  | rstdaa
  | request (hotJoin : Bool)
  deriving DecidableEq, Repr

end Sys2Proof
end

