-- ==== Sys2Proof/Syntax.lean ====
section
/-! DEFINITION. The commands of the block: one constructor per row of the spec's table, in its order.  An operand is what
a party outside the block brings: a register value, a field of an encoded instruction (`u` names the tile, 64 the watch
island), a packet, or the outcome of an event that the block does not decide itself (log entry 37). -/

namespace Sys2Proof

/-- A command.  Each constructor's docstring gives its row and the rule that describes it. -/
inductive Instr where
  /-- REGISTER_WRITE (R16) -/
  | registerWrite (offset : BitVec 26) (size : BitVec 4) (value : BitVec 64)
  /-- CLEAR_ON_WRITE (R18) -/
  | clearOnWrite (offset : BitVec 26) (size : BitVec 4) (value : BitVec 64)
  /-- COLD_RESET (R90) -/
  | coldReset
  /-- RESET_N_ASSERT (R94) -/
  | resetNAssert
  /-- RESET_N_RISE (R90) -/
  | resetNRise
  /-- REFERENCE_PLL_LOCK (R72) -/
  | referencePllLock (fin : LockEnd)
  /-- RAMP_GRANT (R64) -/
  | rampGrant
  /-- RAIL_WAIT (R60) -/
  | railWait (dom : BitVec 5) (rise : BitVec 16)
  /-- RAMPING (R63) -/
  | ramping (dom : BitVec 5) (good : Bool)
  /-- CLOCK_WAIT (R60) -/
  | clockWait (dom : BitVec 5) (ev : ClockEvent)
  /-- SCRUB (R76) -/
  | scrub (dom : BitVec 5) (fin : ScrubEnd)
  /-- DOMAIN_OPEN (R60) -/
  | domainOpen (dom : BitVec 5)
  /-- STEP_TIMEOUT (R66) -/
  | stepTimeout (dom : BitVec 5)
  /-- RETRY_WAIT (R67) -/
  | retryWait (dom : BitVec 5)
  /-- REF_LOST (R73) -/
  | refLost
  /-- KEEPER_SELF_TEST (R74) -/
  | keeperSelfTest (fail : Option KeeperFault)
  /-- BUNDLE_TIMEOUT (R75) -/
  | bundleTimeout
  /-- BUNDLE_FETCH (R74) -/
  | bundleFetch
  /-- IMAGE_AUTHENTICATE (R631) -/
  | imageAuthenticate (img : Image) (sigOk : Bool)
  /-- FLIGHT_READY (R77) -/
  | flightReady
  /-- WARM (R90) -/
  | warm (src : Source) (value : BitVec 32)
  /-- CLUSTER (R92) -/
  | cluster (src : Source) (value : BitVec 32)
  /-- LINK_PORT (R90) -/
  | linkPort (src : Source) (value : BitVec 32)
  /-- CLUSTER_DRAIN_TIMEOUT (R92) -/
  | clusterDrainTimeout (cluster : BitVec 4)
  /-- DOMAIN_CLOSE (R40) -/
  | domainClose (dom : BitVec 5)
  /-- CLUSTER_OPEN_ON_DEMAND (R80) -/
  | clusterOpenOnDemand
  /-- STANDBY_REQ (R81) -/
  | standbyReq (src : Source) (value : BitVec 32)
  /-- STANDBY_DRAIN (R84) -/
  | standbyDrain
  /-- STANDBY_CLUSTERS_CLOSED (R84) -/
  | standbyClustersClosed
  /-- STANDBY_SAVE_DONE (R84) -/
  | standbySaveDone
  /-- KEY_STORE_WRAP (R84) -/
  | keyStoreWrap
  /-- STRAY_DOORBELL_WRITE (R86) -/
  | strayDoorbellWrite
  /-- WAKE (R103) -/
  | wake (src : Source) (value : BitVec 32)
  /-- KEY_STORE_UNWRAP (R88) -/
  | keyStoreUnwrap (tagOk : Bool)
  /-- DSPM_DIGEST_CHECK (R633) -/
  | dspmDigestCheck
  /-- STATE_RESTORE (R88) -/
  | stateRestore
  /-- REPORT_ARRIVE (R43) -/
  | reportArrive (k : BitVec 16)
  /-- CONCENTRATOR_PASS (R43) -/
  | concentratorPass
  /-- HELD_REPORT_ACCEPT (R44) -/
  | heldReportAccept
  /-- GTC_SYNC_WORD (R557) -/
  | gtcSyncWord
  /-- GTC_COPY_SYNC (R558) -/
  | gtcCopySync (copy : BitVec 8) (count : BitVec 64)
  /-- GTC_COPY_STALE (R558) -/
  | gtcCopyStale (copy : BitVec 8)
  /-- CAPTURE_START (R114) -/
  | captureStart (d0p d0n d1p d1n ckp ckn : LineSt)
  /-- CAPTURE_ORDER (R115) -/
  | captureOrder
  /-- TRIGGER_WRITE (R115) -/
  | triggerWrite (fin : I3cEnd)
  /-- I3C_BUS_RECOVERY (R123) -/
  | i3cBusRecovery (freed : Bool)
  /-- CSI2_PACKET (R121) -/
  | csi2Packet (swapped fixed : Bool) (p : CsiPacket)
  /-- HS_POLARITY (R125) -/
  | hsPolarity (lane : BitVec 2) (found : LaneSt) (nLine : Bool)
  /-- FRAME_END (R115) -/
  | frameEnd (vc : BitVec 2)
  /-- FRAME_WINDOW_EXPIRE (R116) -/
  | frameWindowExpire
  /-- PD11_CLOSE (R115) -/
  | pd11Close
  /-- WATCH_BUDGET_OVERRUN (R113) -/
  | watchBudgetOverrun
  /-- WATCH_EXCEPTION (R113) -/
  | watchException (ecc : EccEnd) (addr : BitVec 18)
  /-- WAKE_IN_WAKE (R130) -/
  | wakeInWake (level : Bool)
  /-- WAKE_IN_STUCK (R130) -/
  | wakeInStuck
  /-- WAKE_IN_REENABLE (R130) -/
  | wakeInReenable (value : BitVec 32)
  /-- PROGRAM_WAKE (R129) -/
  | programWake
  /-- PENDING_CLEAR (R131) -/
  | pendingClear (value : BitVec 32)
  /-- KEEP_CLEAR (R112) -/
  | keepClear (value : BitVec 32)
  /-- HANDOFF_NOW (R132) -/
  | handoffNow (value : BitVec 32)
  /-- ARM (R138) -/
  | arm (value : BitVec 32)
  /-- HANDOFF (R132) -/
  | handoff
  /-- CTX_OPEN (R157) -/
  | ctxOpen (cid pid : BitVec 16) (bad badArena : Bool)
  /-- CTX_CLOSE (R184) -/
  | ctxClose (cid : BitVec 16)
  /-- CTX_RELEASE (R157) -/
  | ctxRelease (cid : BitVec 16)
  /-- CTX_RESET (R184) -/
  | ctxReset (cid : BitVec 16)
  /-- CTX_LOSE (R183) -/
  | ctxLose (cid : BitVec 16)
  /-- GROUP_BIND (R161) -/
  | groupBind (group cid : BitVec 16)
  /-- GROUP_UNBIND (R161) -/
  | groupUnbind (group : BitVec 16)
  /-- QUEUE_ENABLE (R164) -/
  | queueEnable (qid : BitVec 16) (bad : Bool)
  /-- QUEUE_DISABLE (R165) -/
  | queueDisable (qid : BitVec 16)
  /-- QUEUE_RESUME (R163) -/
  | queueResume (qid : BitVec 16)
  /-- WAIT_HOST (R179) -/
  | waitHost (cid vector : BitVec 16)
  /-- WAIT_POKE (R180) -/
  | waitPoke (cid : BitVec 16)
  /-- WAIT_CANCEL (R180) -/
  | waitCancel (index : BitVec 16)
  /-- DRAIN_LIMIT_EXPIRE (R184) -/
  | drainLimitExpire (cid : BitVec 16)
  /-- DRAIN_END (R184) -/
  | drainEnd (cid : BitVec 16)
  /-- ABORT_COMPLETE (R183) -/
  | abortComplete (tile : BitVec 6)
  /-- DOORBELL (R205) -/
  | doorbell (qid : BitVec 16) (value : BitVec 64)
  /-- STAGE_READ_COMPLETE (R208) -/
  | stageReadComplete (qid : BitVec 16) (bad : Option (BitVec 3))
  /-- CANCEL (R227) -/
  | cancel (qid : BitVec 16) (value : BitVec 64) (blocks : BitVec 32)
  /-- PACKET_FETCH (R214) -/
  | packetFetch (qid : BitVec 16) (bad : Option (BitVec 3))
  /-- NOP (R221) -/
  | nop (qid : BitVec 16) (index : BitVec 32)
  /-- TASK (R238) -/
  | task (qid : BitVec 16) (index : BitVec 32)
  /-- TASK_GROUP (R223) -/
  | taskGroup (qid : BitVec 16) (index : BitVec 32)
  /-- FENCE_SIGNAL (R221) -/
  | fenceSignal (qid : BitVec 16) (index : BitVec 32)
  /-- FENCE_WAIT (R180) -/
  | fenceWait (qid : BitVec 16) (index : BitVec 32)
  /-- BARRIER (R221) -/
  | barrier (qid : BitVec 16) (index : BitVec 32)
  /-- COPY (R222) -/
  | copy (qid : BitVec 16) (index : BitVec 32)
  /-- FILL (R218) -/
  | fill (qid : BitVec 16) (index : BitVec 32)
  /-- PREFETCH (R444) -/
  | prefetch (qid : BitVec 16) (index : BitVec 32)
  /-- ADVISE (R444) -/
  | advise (qid : BitVec 16) (index : BitVec 32)
  /-- MIGRATE (R445) -/
  | migrate (qid : BitVec 16) (index : BitVec 32)
  /-- STATE_SAVE (R264) -/
  | stateSave (qid : BitVec 16) (index : BitVec 32)
  /-- STATE_LOAD (R265) -/
  | stateLoad (qid : BitVec 16) (index : BitVec 32)
  /-- TIMESTAMP (R222) -/
  | timestamp (qid : BitVec 16) (index : BitVec 32)
  /-- DMA_TRANSFER_COMPLETE (R221) -/
  | dmaTransferComplete (engine : BitVec 1)
  /-- PACKET_RETIRE (R224) -/
  | packetRetire (qid : BitVec 16) (index : BitVec 32) (bad : Option (BitVec 3))
  /-- DISPATCHER_CYCLE (R235) -/
  | dispatcherCycle
  /-- START_MISS (R248) -/
  | startMiss (qid inst : BitVec 16) (index : BitVec 32)
  /-- FINISH_MISS (R249) -/
  | finishMiss (qid : BitVec 16) (index : BitVec 32)
  /-- BUDGET_OVERRUN (R253) -/
  | budgetOverrun (qid inst : BitVec 16) (index : BitVec 32)
  /-- BUDGET_HARD (R253) -/
  | budgetHard (qid inst : BitVec 16) (index : BitVec 32)
  /-- HANDOVER (R307) -/
  | handover (tile : BitVec 6)
  /-- ISTORE_LINE_FILL (R296) -/
  | istoreLineFill (tile : BitVec 6) (pc : BitVec 32) (ecc : EccEnd)
  /-- TILE_EXCEPTION (R305) -/
  | tileException (tile : BitVec 6) (unit : BitVec 2) (word after : BitVec 32)
  /-- TASK_EXCEPTION_END (R305) -/
  | taskExceptionEnd (tile : BitVec 6)
  /-- TASK_END (R308) -/
  | taskEnd (tile : BitVec 6)
  /-- UNIT_INSTRUCTION_COMPLETE (R282) -/
  | unitInstructionComplete (tile : BitVec 7) (unit : BitVec 2)
  /-- BARGE_COMPLETE (R334) -/
  | bargeComplete (tile : BitVec 6) (id : BitVec 4) (tagOk : Bool) (hits : List TileHit)
  /-- MOVER_FAULT (R335) -/
  | moverFault (tile : BitVec 6) (id : BitVec 4) (code : BitVec 8)
  /-- SWAP_COMPLETE (R262) -/
  | swapComplete (tile : BitVec 6) (hits : List TileHit)
  /-- CLAIM_LAPSE (R266) -/
  | claimLapse (tile : BitVec 6)
  /-- FENCE_ORDER (R268) -/
  | fenceOrder (cluster : BitVec 4)
  /-- FENCE_LIMIT_EXPIRE (R268) -/
  | fenceLimitExpire (cluster : BitVec 4)
  /-- FENCE_ACK (R268) -/
  | fenceAck (cluster : BitVec 4)
  /-- FENCE_LIFT (R269) -/
  | fenceLift (cluster : BitVec 4)
  /-- CLEAR (R233) -/
  | clear
  /-- SCHED_CLEAR (R275) -/
  | schedClear
  /-- ISTORE_FLUSH (R312) -/
  | istoreFlush (tile : BitVec 6)
  /-- TILE_COUNTS_CLEAR (R312) -/
  | tileCountsClear (tile : BitVec 6)
  /-- ADD (R318) -/
  | add (u : BitVec 7) (rd rs1 rs2 : BitVec 5)
  /-- SUB (R318) -/
  | sub (u : BitVec 7) (rd rs1 rs2 : BitVec 5)
  /-- AND (R318) -/
  | and (u : BitVec 7) (rd rs1 rs2 : BitVec 5)
  /-- OR (R318) -/
  | or (u : BitVec 7) (rd rs1 rs2 : BitVec 5)
  /-- XOR (R318) -/
  | xor (u : BitVec 7) (rd rs1 rs2 : BitVec 5)
  /-- SLL (R318) -/
  | sll (u : BitVec 7) (rd rs1 rs2 : BitVec 5)
  /-- SRL (R318) -/
  | srl (u : BitVec 7) (rd rs1 rs2 : BitVec 5)
  /-- SRA (R318) -/
  | sra (u : BitVec 7) (rd rs1 rs2 : BitVec 5)
  /-- SLT (R318) -/
  | slt (u : BitVec 7) (rd rs1 rs2 : BitVec 5)
  /-- SLTU (R318) -/
  | sltu (u : BitVec 7) (rd rs1 rs2 : BitVec 5)
  /-- MUL (R318) -/
  | mul (u : BitVec 7) (rd rs1 rs2 : BitVec 5)
  /-- MULH (R318) -/
  | mulh (u : BitVec 7) (rd rs1 rs2 : BitVec 5)
  /-- MULHU (R318) -/
  | mulhu (u : BitVec 7) (rd rs1 rs2 : BitVec 5)
  /-- DIV (R319) -/
  | div (u : BitVec 7) (rd rs1 rs2 : BitVec 5)
  /-- DIVU (R319) -/
  | divu (u : BitVec 7) (rd rs1 rs2 : BitVec 5)
  /-- REM (R319) -/
  | rem (u : BitVec 7) (rd rs1 rs2 : BitVec 5)
  /-- REMU (R319) -/
  | remu (u : BitVec 7) (rd rs1 rs2 : BitVec 5)
  /-- MIN (R318) -/
  | min (u : BitVec 7) (rd rs1 rs2 : BitVec 5)
  /-- MAX (R318) -/
  | max (u : BitVec 7) (rd rs1 rs2 : BitVec 5)
  /-- MINU (R318) -/
  | minu (u : BitVec 7) (rd rs1 rs2 : BitVec 5)
  /-- MAXU (R318) -/
  | maxu (u : BitVec 7) (rd rs1 rs2 : BitVec 5)
  /-- CLZ (R318) -/
  | clz (u : BitVec 7) (rd rs1 rs2 : BitVec 5)
  /-- POPC (R318) -/
  | popc (u : BitVec 7) (rd rs1 rs2 : BitVec 5)
  /-- AMOV (R318) -/
  | amov (u : BitVec 7) (rd rs1 rs2 : BitVec 5)
  /-- AADD (R318) -/
  | aadd (u : BitVec 7) (rd rs1 rs2 : BitVec 5)
  /-- AADDU (R318) -/
  | aaddu (u : BitVec 7) (rd rs1 rs2 : BitVec 5)
  /-- APACK (R318) -/
  | apack (u : BitVec 7) (rd rs1 rs2 : BitVec 5)
  /-- ALO (R318) -/
  | alo (u : BitVec 7) (rd rs1 rs2 : BitVec 5)
  /-- AHI (R318) -/
  | ahi (u : BitVec 7) (rd rs1 rs2 : BitVec 5)
  /-- TSET (R320) -/
  | tset (u : BitVec 7) (f rd rs1 rs2 : BitVec 5)
  /-- TGET (R320) -/
  | tget (u : BitVec 7) (f rd rs1 rs2 : BitVec 5)
  /-- TMOV (R318) -/
  | tmov (u : BitVec 7) (rd rs1 rs2 : BitVec 5)
  /-- TZERO (R318) -/
  | tzero (u : BitVec 7) (rd rs1 rs2 : BitVec 5)
  /-- ADDI (R321) -/
  | addi (u : BitVec 7) (rd rs1 : BitVec 5) (imm : BitVec 16) (ext : Option (BitVec 26))
  /-- ANDI (R321) -/
  | andi (u : BitVec 7) (rd rs1 : BitVec 5) (imm : BitVec 16) (ext : Option (BitVec 26))
  /-- ORI (R321) -/
  | ori (u : BitVec 7) (rd rs1 : BitVec 5) (imm : BitVec 16) (ext : Option (BitVec 26))
  /-- XORI (R321) -/
  | xori (u : BitVec 7) (rd rs1 : BitVec 5) (imm : BitVec 16) (ext : Option (BitVec 26))
  /-- LUI (R321) -/
  | lui (u : BitVec 7) (rd rs1 : BitVec 5) (imm : BitVec 16) (ext : Option (BitVec 26))
  /-- SLTI (R321) -/
  | slti (u : BitVec 7) (rd rs1 : BitVec 5) (imm : BitVec 16) (ext : Option (BitVec 26))
  /-- ADDA (R321) -/
  | adda (u : BitVec 7) (rd rs1 : BitVec 5) (imm : BitVec 16) (ext : Option (BitVec 26))
  /-- LW (R322) -/
  | lw (u : BitVec 7) (rd rs1 : BitVec 5) (off : BitVec 14) (ext : Option (BitVec 26)) (hits : List TileHit)
  /-- SW (R322) -/
  | sw (u : BitVec 7) (rd rs1 : BitVec 5) (off : BitVec 14) (ext : Option (BitVec 26)) (hits : List TileHit)
  /-- LBU (R322) -/
  | lbu (u : BitVec 7) (rd rs1 : BitVec 5) (off : BitVec 14) (ext : Option (BitVec 26)) (hits : List TileHit)
  /-- SB (R322) -/
  | sb (u : BitVec 7) (rd rs1 : BitVec 5) (off : BitVec 14) (ext : Option (BitVec 26)) (hits : List TileHit)
  /-- BEQ (R323) -/
  | beq (u : BitVec 7) (rs1 rs2 : BitVec 5) (imm : BitVec 16) (ext : Option (BitVec 26))
  /-- BNE (R323) -/
  | bne (u : BitVec 7) (rs1 rs2 : BitVec 5) (imm : BitVec 16) (ext : Option (BitVec 26))
  /-- BLT (R323) -/
  | blt (u : BitVec 7) (rs1 rs2 : BitVec 5) (imm : BitVec 16) (ext : Option (BitVec 26))
  /-- BGE (R323) -/
  | bge (u : BitVec 7) (rs1 rs2 : BitVec 5) (imm : BitVec 16) (ext : Option (BitVec 26))
  /-- BLTU (R323) -/
  | bltu (u : BitVec 7) (rs1 rs2 : BitVec 5) (imm : BitVec 16) (ext : Option (BitVec 26))
  /-- BGEU (R323) -/
  | bgeu (u : BitVec 7) (rs1 rs2 : BitVec 5) (imm : BitVec 16) (ext : Option (BitVec 26))
  /-- JAL (R324) -/
  | jal (u : BitVec 7) (rs1 : BitVec 5) (imm : BitVec 16) (ext : Option (BitVec 26))
  /-- JALR (R324) -/
  | jalr (u : BitVec 7) (rs1 rs2 : BitVec 5) (imm : BitVec 16) (ext : Option (BitVec 26))
  /-- LOOP (R326) -/
  | loop (u : BitVec 7) (rs1 rs2 : BitVec 5) (imm : BitVec 16) (ext : Option (BitVec 26))
  /-- LBRK (R328) -/
  | lbrk (u : BitVec 7) (rs1 rs2 : BitVec 5) (ext : Bool)
  /-- TLD (R330) -/
  | tld (u : BitVec 7) (rd rs1 : BitVec 5) (imm : BitVec 15) (ext : Option (BitVec 26)) (hits : List TileHit)
  /-- TST (R330) -/
  | tst (u : BitVec 7) (rd rs1 : BitVec 5) (imm : BitVec 15) (ext : Option (BitVec 26))
  /-- XFER (R331) -/
  | xfer (u : BitVec 7) (a t : BitVec 4) (sf : BitVec 5) (func : BitVec 13)
  /-- WAIT_BARGE (R337) -/
  | waitBarge (u : BitVec 7) (imm : BitVec 16)
  /-- WAIT_UNITS (R337) -/
  | waitUnits (u : BitVec 7) (imm : BitVec 16)
  /-- WAIT_TICK (R337) -/
  | waitTick (u : BitVec 7) (imm : BitVec 16)
  /-- WAIT_FRAME (R111) -/
  | waitFrame (u : BitVec 7) (imm : BitVec 16)
  /-- ATOM_ADD (R339) -/
  | atomAdd (u : BitVec 7) (a t : BitVec 4) (sf : BitVec 5) (w64 : Bool) (rsv : BitVec 8)
  /-- ATOM_AND (R339) -/
  | atomAnd (u : BitVec 7) (a t : BitVec 4) (sf : BitVec 5) (w64 : Bool) (rsv : BitVec 8)
  /-- ATOM_OR (R339) -/
  | atomOr (u : BitVec 7) (a t : BitVec 4) (sf : BitVec 5) (w64 : Bool) (rsv : BitVec 8)
  /-- ATOM_XOR (R339) -/
  | atomXor (u : BitVec 7) (a t : BitVec 4) (sf : BitVec 5) (w64 : Bool) (rsv : BitVec 8)
  /-- ATOM_SMIN (R339) -/
  | atomSmin (u : BitVec 7) (a t : BitVec 4) (sf : BitVec 5) (w64 : Bool) (rsv : BitVec 8)
  /-- ATOM_SMAX (R339) -/
  | atomSmax (u : BitVec 7) (a t : BitVec 4) (sf : BitVec 5) (w64 : Bool) (rsv : BitVec 8)
  /-- ATOM_UMIN (R339) -/
  | atomUmin (u : BitVec 7) (a t : BitVec 4) (sf : BitVec 5) (w64 : Bool) (rsv : BitVec 8)
  /-- ATOM_UMAX (R339) -/
  | atomUmax (u : BitVec 7) (a t : BitVec 4) (sf : BitVec 5) (w64 : Bool) (rsv : BitVec 8)
  /-- ATOM_SWAP (R339) -/
  | atomSwap (u : BitVec 7) (a t : BitVec 4) (sf : BitVec 5) (w64 : Bool) (rsv : BitVec 8)
  /-- ATOM_CAS (R339) -/
  | atomCas (u : BitVec 7) (a t : BitVec 4) (sf : BitVec 5) (w64 : Bool) (rsv : BitVec 8)
  /-- ATOM_FADD (R339) -/
  | atomFadd (u : BitVec 7) (a t : BitVec 4) (sf : BitVec 5) (w64 : Bool) (rsv : BitVec 8)
  /-- ATOM_LOAD (R339) -/
  | atomLoad (u : BitVec 7) (a t : BitVec 4) (sf : BitVec 5) (w64 : Bool) (rsv : BitVec 8)
  /-- RSEND (R343) -/
  | rsend (u : BitVec 7) (a t : BitVec 4) (sf : BitVec 5) (lines : BitVec 2) (nb : Bool) (rsv : BitVec 9) (hits : List TileHit)
  /-- RRECV (R344) -/
  | rrecv (u : BitVec 7) (a t : BitVec 4) (sf : BitVec 5) (lines : BitVec 2) (nb : Bool) (rsv : BitVec 9)
  /-- ALLOC (R345) -/
  | alloc (u : BitVec 7) (a t : BitVec 4) (sf : BitVec 5) (zero try_ : Bool) (rsv : BitVec 10)
  /-- FREE (R346) -/
  | free (u : BitVec 7) (a t : BitVec 4) (sf : BitVec 5) (bits : BitVec 2) (rsv : BitVec 10)
  /-- SIGNAL_FENCE (R348) -/
  | signalFence (u : BitVec 7) (imm : BitVec 16)
  /-- SIGNAL_EVENT (R347) -/
  | signalEvent (u : BitVec 7) (imm : BitVec 16)
  /-- SIGNAL_WAKE (R112) -/
  | signalWake (u : BitVec 7) (imm : BitVec 16)
  /-- SIGNAL_KEEP (R112) -/
  | signalKeep (u : BitVec 7) (imm : BitVec 16)
  /-- PHASE (R349) -/
  | phase (u : BitVec 7) (imm : BitVec 16)
  /-- TIME (R350) -/
  | time (u : BitVec 7) (imm : BitVec 16)
  /-- CLIPSTAT (R384) -/
  | clipstat (u : BitVec 7) (imm : BitVec 16)
  /-- TMODE_READ (R351) -/
  | tmodeRead (u : BitVec 7) (imm : BitVec 16)
  /-- TMODE_WRITE (R351) -/
  | tmodeWrite (u : BitVec 7) (imm : BitVec 16)
  /-- END (R352) -/
  | end_ (u : BitVec 7) (imm : BitVec 16)
  /-- YIELD (R257) -/
  | yield (u : BitVec 7) (imm : BitVec 16)
  /-- TRAP (R352) -/
  | trap (u : BitVec 7) (imm : BitVec 16)
  /-- MMA (R360) -/
  | mma (u : BitVec 7) (acc : BitVec 3) (ta tb aux : BitVec 4) (zero neg : Bool) (rsv : BitVec 9) (hits : List TileHit)
  /-- CVT (R381) -/
  | cvt (u : BitVec 7) (acc : BitVec 3) (ta tb aux : BitVec 4) (rm : BitVec 3) (ieee rescale srcT : Bool) (rsv : BitVec 5) (hits : List TileHit)
  /-- REDUCE_SUM (R377) -/
  | reduceSum (u : BitVec 7) (acc : BitVec 3) (ta tb aux : BitVec 4) (axis : BitVec 2) (dst : BitVec 5)
  /-- REDUCE_MAX (R377) -/
  | reduceMax (u : BitVec 7) (acc : BitVec 3) (ta tb aux : BitVec 4) (axis : BitVec 2) (dst : BitVec 5)
  /-- REDUCE_MIN (R377) -/
  | reduceMin (u : BitVec 7) (acc : BitVec 3) (ta tb aux : BitVec 4) (axis : BitVec 2) (dst : BitVec 5)
  /-- REDUCE_ABSMAX (R377) -/
  | reduceAbsmax (u : BitVec 7) (acc : BitVec 3) (ta tb aux : BitVec 4) (axis : BitVec 2) (dst : BitVec 5)
  /-- VADD (R369) -/
  | vadd (u : BitVec 7) (vd vs1 vs2 : BitVec 5) (pd : BitVec 3) (scalar : Bool)
  /-- VSUB (R369) -/
  | vsub (u : BitVec 7) (vd vs1 vs2 : BitVec 5) (pd : BitVec 3) (scalar : Bool)
  /-- VMUL (R369) -/
  | vmul (u : BitVec 7) (vd vs1 vs2 : BitVec 5) (pd : BitVec 3) (scalar : Bool)
  /-- VMULH (R369) -/
  | vmulh (u : BitVec 7) (vd vs1 vs2 : BitVec 5) (pd : BitVec 3) (scalar : Bool)
  /-- VMULHU (R369) -/
  | vmulhu (u : BitVec 7) (vd vs1 vs2 : BitVec 5) (pd : BitVec 3) (scalar : Bool)
  /-- VMIN (R369) -/
  | vmin (u : BitVec 7) (vd vs1 vs2 : BitVec 5) (pd : BitVec 3) (scalar : Bool)
  /-- VMAX (R369) -/
  | vmax (u : BitVec 7) (vd vs1 vs2 : BitVec 5) (pd : BitVec 3) (scalar : Bool)
  /-- VMINU (R369) -/
  | vminu (u : BitVec 7) (vd vs1 vs2 : BitVec 5) (pd : BitVec 3) (scalar : Bool)
  /-- VMAXU (R369) -/
  | vmaxu (u : BitVec 7) (vd vs1 vs2 : BitVec 5) (pd : BitVec 3) (scalar : Bool)
  /-- VAND (R369) -/
  | vand (u : BitVec 7) (vd vs1 vs2 : BitVec 5) (pd : BitVec 3) (scalar : Bool)
  /-- VOR (R369) -/
  | vor (u : BitVec 7) (vd vs1 vs2 : BitVec 5) (pd : BitVec 3) (scalar : Bool)
  /-- VXOR (R369) -/
  | vxor (u : BitVec 7) (vd vs1 vs2 : BitVec 5) (pd : BitVec 3) (scalar : Bool)
  /-- VSLL (R369) -/
  | vsll (u : BitVec 7) (vd vs1 vs2 : BitVec 5) (pd : BitVec 3) (scalar : Bool)
  /-- VSRL (R369) -/
  | vsrl (u : BitVec 7) (vd vs1 vs2 : BitVec 5) (pd : BitVec 3) (scalar : Bool)
  /-- VSRA (R369) -/
  | vsra (u : BitVec 7) (vd vs1 vs2 : BitVec 5) (pd : BitVec 3) (scalar : Bool)
  /-- VABS (R369) -/
  | vabs (u : BitVec 7) (vd vs1 vs2 : BitVec 5) (pd : BitVec 3) (scalar : Bool)
  /-- VMADD (R369) -/
  | vmadd (u : BitVec 7) (vd vs1 vs2 : BitVec 5) (pd : BitVec 3) (scalar : Bool)
  /-- VSRAR (R369) -/
  | vsrar (u : BitVec 7) (vd vs1 vs2 : BitVec 5) (pd : BitVec 3) (scalar : Bool)
  /-- VFADD (R370) -/
  | vfadd (u : BitVec 7) (vd vs1 vs2 : BitVec 5) (pd : BitVec 3) (scalar : Bool)
  /-- VFSUB (R370) -/
  | vfsub (u : BitVec 7) (vd vs1 vs2 : BitVec 5) (pd : BitVec 3) (scalar : Bool)
  /-- VFMUL (R370) -/
  | vfmul (u : BitVec 7) (vd vs1 vs2 : BitVec 5) (pd : BitVec 3) (scalar : Bool)
  /-- VFMA (R370) -/
  | vfma (u : BitVec 7) (vd vs1 vs2 : BitVec 5) (pd : BitVec 3) (scalar : Bool)
  /-- VFMIN (R370) -/
  | vfmin (u : BitVec 7) (vd vs1 vs2 : BitVec 5) (pd : BitVec 3) (scalar : Bool)
  /-- VFMAX (R370) -/
  | vfmax (u : BitVec 7) (vd vs1 vs2 : BitVec 5) (pd : BitVec 3) (scalar : Bool)
  /-- VFABS (R370) -/
  | vfabs (u : BitVec 7) (vd vs1 vs2 : BitVec 5) (pd : BitVec 3) (scalar : Bool)
  /-- VFNEG (R370) -/
  | vfneg (u : BitVec 7) (vd vs1 vs2 : BitVec 5) (pd : BitVec 3) (scalar : Bool)
  /-- VFRCP (R370) -/
  | vfrcp (u : BitVec 7) (vd vs1 vs2 : BitVec 5) (pd : BitVec 3) (scalar : Bool)
  /-- VFRSQRT (R370) -/
  | vfrsqrt (u : BitVec 7) (vd vs1 vs2 : BitVec 5) (pd : BitVec 3) (scalar : Bool)
  /-- VFSQRT (R370) -/
  | vfsqrt (u : BitVec 7) (vd vs1 vs2 : BitVec 5) (pd : BitVec 3) (scalar : Bool)
  /-- VFEXP2 (R370) -/
  | vfexp2 (u : BitVec 7) (vd vs1 vs2 : BitVec 5) (pd : BitVec 3) (scalar : Bool)
  /-- VFLOG2 (R370) -/
  | vflog2 (u : BitVec 7) (vd vs1 vs2 : BitVec 5) (pd : BitVec 3) (scalar : Bool)
  /-- VFDIV (R370) -/
  | vfdiv (u : BitVec 7) (vd vs1 vs2 : BitVec 5) (pd : BitVec 3) (scalar : Bool)
  /-- VI2F (R370) -/
  | vi2f (u : BitVec 7) (vd vs1 vs2 : BitVec 5) (pd : BitVec 3) (scalar : Bool)
  /-- VU2F (R370) -/
  | vu2f (u : BitVec 7) (vd vs1 vs2 : BitVec 5) (pd : BitVec 3) (scalar : Bool)
  /-- VF2I (R370) -/
  | vf2i (u : BitVec 7) (vd vs1 vs2 : BitVec 5) (pd : BitVec 3) (scalar : Bool)
  /-- VCMPEQ (R371) -/
  | vcmpeq (u : BitVec 7) (vd vs1 vs2 : BitVec 5) (pd : BitVec 3) (scalar : Bool)
  /-- VCMPNE (R371) -/
  | vcmpne (u : BitVec 7) (vd vs1 vs2 : BitVec 5) (pd : BitVec 3) (scalar : Bool)
  /-- VCMPLT (R371) -/
  | vcmplt (u : BitVec 7) (vd vs1 vs2 : BitVec 5) (pd : BitVec 3) (scalar : Bool)
  /-- VCMPLE (R371) -/
  | vcmple (u : BitVec 7) (vd vs1 vs2 : BitVec 5) (pd : BitVec 3) (scalar : Bool)
  /-- VCMPLTU (R371) -/
  | vcmpltu (u : BitVec 7) (vd vs1 vs2 : BitVec 5) (pd : BitVec 3) (scalar : Bool)
  /-- VCMPLEU (R371) -/
  | vcmpleu (u : BitVec 7) (vd vs1 vs2 : BitVec 5) (pd : BitVec 3) (scalar : Bool)
  /-- VFCMPEQ (R371) -/
  | vfcmpeq (u : BitVec 7) (vd vs1 vs2 : BitVec 5) (pd : BitVec 3) (scalar : Bool)
  /-- VFCMPLT (R371) -/
  | vfcmplt (u : BitVec 7) (vd vs1 vs2 : BitVec 5) (pd : BitVec 3) (scalar : Bool)
  /-- VFCMPLE (R371) -/
  | vfcmple (u : BitVec 7) (vd vs1 vs2 : BitVec 5) (pd : BitVec 3) (scalar : Bool)
  /-- VFCMPUN (R371) -/
  | vfcmpun (u : BitVec 7) (vd vs1 vs2 : BitVec 5) (pd : BitVec 3) (scalar : Bool)
  /-- VPERM (R371) -/
  | vperm (u : BitVec 7) (vd vs1 vs2 : BitVec 5) (pd : BitVec 3)
  /-- VROT (R371) -/
  | vrot (u : BitVec 7) (vd vs1 vs2 : BitVec 5) (pd : BitVec 3)
  /-- VRED (R372) -/
  | vred (u : BitVec 7) (vd vs1 vs2 : BitVec 5) (pd : BitVec 3)
  /-- PAND (R371) -/
  | pand (u : BitVec 7) (vd vs1 vs2 : BitVec 5) (pd : BitVec 3)
  /-- POR (R371) -/
  | por (u : BitVec 7) (vd vs1 vs2 : BitVec 5) (pd : BitVec 3)
  /-- PXOR (R371) -/
  | pxor (u : BitVec 7) (vd vs1 vs2 : BitVec 5) (pd : BitVec 3)
  /-- PANDN (R371) -/
  | pandn (u : BitVec 7) (vd vs1 vs2 : BitVec 5) (pd : BitVec 3)
  /-- PSET (R371) -/
  | pset (u : BitVec 7) (vd vs1 vs2 : BitVec 5) (pd : BitVec 3)
  /-- PGET (R371) -/
  | pget (u : BitVec 7) (vd vs1 vs2 : BitVec 5) (pd : BitVec 3)
  /-- VLD (R373) -/
  | vld (u : BitVec 7) (vd vs1 vs2 : BitVec 5) (pd : BitVec 3) (hits : List TileHit)
  /-- VST (R373) -/
  | vst (u : BitVec 7) (vd vs1 vs2 : BitVec 5) (pd : BitVec 3) (hits : List TileHit)
  /-- VLDS (R373) -/
  | vlds (u : BitVec 7) (vd vs1 vs2 : BitVec 5) (pd : BitVec 3) (hits : List TileHit)
  /-- VSTS (R373) -/
  | vsts (u : BitVec 7) (vd vs1 vs2 : BitVec 5) (pd : BitVec 3) (hits : List TileHit)
  /-- VLD8 (R373) -/
  | vld8 (u : BitVec 7) (vd vs1 vs2 : BitVec 5) (pd : BitVec 3) (hits : List TileHit)
  /-- VLDU8 (R373) -/
  | vldu8 (u : BitVec 7) (vd vs1 vs2 : BitVec 5) (pd : BitVec 3) (hits : List TileHit)
  /-- VLD16 (R373) -/
  | vld16 (u : BitVec 7) (vd vs1 vs2 : BitVec 5) (pd : BitVec 3) (hits : List TileHit)
  /-- VLDH (R373) -/
  | vldh (u : BitVec 7) (vd vs1 vs2 : BitVec 5) (pd : BitVec 3) (hits : List TileHit)
  /-- VLDBF (R373) -/
  | vldbf (u : BitVec 7) (vd vs1 vs2 : BitVec 5) (pd : BitVec 3) (hits : List TileHit)
  /-- VST8 (R373) -/
  | vst8 (u : BitVec 7) (vd vs1 vs2 : BitVec 5) (pd : BitVec 3) (hits : List TileHit)
  /-- VST16 (R373) -/
  | vst16 (u : BitVec 7) (vd vs1 vs2 : BitVec 5) (pd : BitVec 3) (hits : List TileHit)
  /-- VBCAST (R373) -/
  | vbcast (u : BitVec 7) (vd vs1 vs2 : BitVec 5) (pd : BitVec 3)
  /-- VEXT (R373) -/
  | vext (u : BitVec 7) (vd vs1 vs2 : BitVec 5) (pd : BitVec 3)
  /-- VINS (R373) -/
  | vins (u : BitVec 7) (vd vs1 vs2 : BitVec 5) (pd : BitVec 3)
  /-- ACCRD (R373) -/
  | accrd (u : BitVec 7) (vd vs1 vs2 : BitVec 5) (pd : BitVec 3)
  /-- ACCWR (R373) -/
  | accwr (u : BitVec 7) (vd vs1 vs2 : BitVec 5) (pd : BitVec 3)
  /-- VMOV (R373) -/
  | vmov (u : BitVec 7) (vd vs1 vs2 : BitVec 5) (pd : BitVec 3)
  /-- RTLD (R375) -/
  | rtld (u : BitVec 7) (_vd vs1 vs2 : BitVec 5) (pd : BitVec 3) (hits : List TileHit)
  /-- RTST (R375) -/
  | rtst (u : BitVec 7) (vd vs1 vs2 : BitVec 5) (pd : BitVec 3)
  /-- XLT_LOOKUP (R421) -/
  | xltLookup (who : BitVec 8) (cid : BitVec 10) (va : BitVec 64) (acc : Access)
  /-- WALK_START (R423) -/
  | walkStart
  /-- WALK_READ (R415) -/
  | walkRead (cid : BitVec 10) (va : BitVec 64) (ecc : EccEnd)
  /-- WALK_WEIR_REFILL (R424) -/
  | walkWeirRefill
  /-- XLT_INVAL (R425) -/
  | xltInval (value : BitVec 32)
  /-- INVALIDATE_COMPLETE (R425) -/
  | invalidateComplete
  /-- RESUME (R431) -/
  | resume (token : BitVec 16)
  /-- KILL (R431) -/
  | kill (token : BitVec 16)
  /-- FQ_BASE_WRITE (R429) -/
  | fqBaseWrite (value : BitVec 64)
  /-- FQ_HEAD_WRITE (R429) -/
  | fqHeadWrite (value : BitVec 32)
  /-- MEMORY_REQUEST (R432) -/
  | memoryRequest (h : Header) (ecc : EccEnd)
  /-- BASIN_REQUEST (R440) -/
  | basinRequest (h : Header) (ecc : EccEnd)
  /-- PACKET_INJECT (R484) -/
  | packetInject (offer : Option Header) (stop : BitVec 6) (unit vn : BitVec 2) (prompt : Bool)
  /-- ROUTER_HEADER (R472) -/
  | routerHeader (stop : BitVec 6) (out : BitVec 3) (head body : EccEnd) (stalls : BitVec 32)
  /-- PACKET_EJECT (R487) -/
  | packetEject (stop : BitVec 6)
  /-- MESH_RESPONSE (R490) -/
  | meshResponse (h : Header)
  /-- REQ_TIMEOUT (R489) -/
  | reqTimeout (stop : BitVec 6) (unit : BitVec 2) (tag : BitVec 6)
  /-- SWITCH (R481) -/
  | switch (value : BitVec 32)
  /-- EPOCH_REQ_DRAINED (R481) -/
  | epochReqDrained
  /-- EPOCH_FLIP (R481) -/
  | epochFlip
  /-- EPOCH_ABANDON (R482) -/
  | epochAbandon
  /-- PROBE_SAMPLE (R491) -/
  | probeSample
  /-- WEIR_WRITE (R485) -/
  | weirWrite (stop : BitVec 6) (unit cls : BitVec 2) (value : BitVec 64)
  /-- LINK_PORT_ENABLE (R507) -/
  | linkPortEnable (port : BitVec 3) (value : BitVec 32)
  /-- TRAINING_STEP (R507) -/
  | trainingStep (port : BitVec 3) (fin : TrainEnd)
  /-- TRAINING_STEP_TIMEOUT (R507) -/
  | trainingStepTimeout (port : BitVec 3)
  /-- TRAINING_RETRY (R507) -/
  | trainingRetry (port : BitVec 3)
  /-- RETRAIN (R509) -/
  | retrain (port : BitVec 3) (cause : RetrainCause)
  /-- RETRAIN_END (R509) -/
  | retrainEnd (port : BitVec 3) (fin : RetrainFin)
  /-- LINK_FRAME_SEND (R510) -/
  | linkFrameSend (port : BitVec 3) (ty : FrameTy)
  /-- LINK_FRAME_RECEIVE (R511) -/
  | linkFrameReceive (port : BitVec 3) (frame : LFrame) (check : FrameCheck) (corrected : BitVec 16) (uncorr : Bool)
  /-- ACK_TIMEOUT (R511) -/
  | ackTimeout (port : BitVec 3)
  /-- PEER_SILENT (R535) -/
  | peerSilent (port : BitVec 3)
  /-- ZL_ROUTE (R515) -/
  | zlRoute (stop : BitVec 3) (h : Header)
  /-- L_READ (R518) -/
  | lRead (stop : BitVec 3) (h : Header)
  /-- L_WRITE (R518) -/
  | lWrite (stop : BitVec 3) (h : Header)
  /-- L_WRITE_MASKED (R518) -/
  | lWriteMasked (stop : BitVec 3) (h : Header)
  /-- L_ATOMIC (R522) -/
  | lAtomic (stop : BitVec 3) (h : Header)
  /-- L_MBOX_SEND (R518) -/
  | lMboxSend (stop : BitVec 3) (h : Header)
  /-- L_REDUCE (R527) -/
  | lReduce (stop : BitVec 3) (h : Header)
  /-- L_MBOX_RECV (R524) -/
  | lMboxRecv (h : Header)
  /-- L_RSP_DATA (R518) -/
  | lRspData (h : Header)
  /-- L_RSP_ACK (R518) -/
  | lRspAck (h : Header)
  /-- REMOTE_RESEND (R519) -/
  | remoteResend (stop : BitVec 3) (origStop : BitVec 6) (origUnit : BitVec 2) (origTag : BitVec 6)
  /-- REMOTE_WRITE_GIVEUP (R519) -/
  | remoteWriteGiveup (stop : BitVec 3) (origStop : BitVec 6) (origUnit : BitVec 2) (origTag : BitVec 6)
  /-- REDUCE_WAIT_EXPIRE (R527) -/
  | reduceWaitExpire (stop : BitVec 3) (die : BitVec 9) (group : BitVec 8) (offset : BitVec 17)
  /-- MAILBOX (R523) -/
  | mailbox (h : Header)
  /-- RSEND_RETRY (R523) -/
  | rsendRetry (tile : BitVec 6)
  /-- MBOX_BIND_WRITE (R525) -/
  | mboxBindWrite (mbox : BitVec 12) (value : BitVec 64)
  /-- TIME_SYNC_EXCHANGE (R530) -/
  | timeSyncExchange (t1 t2 t3 t4 : BitVec 64)
  /-- TIME_HOLDOVER (R531) -/
  | timeHoldover
  /-- SESSION_HANDSHAKE (R533) -/
  | sessionHandshake (port : BitVec 3) (fin : Handshake)
  /-- SESSION_REKEY (R534) -/
  | sessionRekey (port : BitVec 3)
  /-- PLL_LOCK_LOSS (R543) -/
  | pllLockLoss (src : BitVec 4) (fin : LockEnd)
  /-- DFO_TRIM (R546) -/
  | dfoTrim (cluster : BitVec 4) (fMeas : BitVec 12) (low : BitVec 6) (codes : BitVec 48)
  /-- DROOP (R547) -/
  | droop (cluster : BitVec 4) (freq : BitVec 12)
  /-- MARGIN_CRITICAL (R549) -/
  | marginCritical (cluster : BitVec 4) (codes : BitVec 48)
  /-- MARGIN_LOW (R549) -/
  | marginLow (cluster : BitVec 4) (code : BitVec 6) (skew : BitVec 8)
  /-- MARGIN_RECOVER (R549) -/
  | marginRecover (cluster : BitVec 4) (low : BitVec 6)
  /-- SKEW_CORRECT (R544) -/
  | skewCorrect (cluster : BitVec 4) (skew : BitVec 8)
  /-- AGEING_CHECK (R553) -/
  | ageingCheck (cluster : BitVec 4) (ran : BitVec 40) (mean : BitVec 10)
  /-- TELEMETRY_SAMPLE (R593) -/
  | telemetrySample (volts : List (BitVec 16)) (ests : List (BitVec 32))
  /-- SENSE_RETRY (R565) -/
  | senseRetry (rail : BitVec 5) (value : BitVec 64)
  /-- CEIL_CLEAR (R571) -/
  | ceilClear (rail : BitVec 5) (value : BitVec 64)
  /-- VOLTAGE_REACHED (R587) -/
  | voltageReached (rail : BitVec 4) (mv : BitVec 16)
  /-- VSET_TIMEOUT (R589) -/
  | vsetTimeout (rail : BitVec 4)
  /-- ESTIMATE_INTERVAL (R592) -/
  | estimateInterval (uncore : BitVec 20) (tiles : List (BitVec 32))
  /-- PHASE_REPORT (R607) -/
  | phaseReport
  /-- DEMAND_REPORT (R608) -/
  | demandReport
  /-- CLUSTER_IDLE_CLOSE (R608) -/
  | clusterIdleClose (cluster : BitVec 4)
  /-- UNMET_STEP (R609) -/
  | unmetStep
  /-- LEASE_WRITE (R599) -/
  | leaseWrite (src : Source) (value : BitVec 64)
  /-- LEASE_EXPIRE (R600) -/
  | leaseExpire
  /-- PHASE_CLEAR (R625) -/
  | phaseClear (value : BitVec 32)
  /-- SPILL_ASSERT (R610) -/
  | spillAssert
  /-- SPILL_RELEASE (R611) -/
  | spillRelease
  /-- SPILL_STUCK (R719) -/
  | spillStuck
  /-- PACE_SEND (R614) -/
  | paceSend
  /-- PACE_WORD_RECEIVE (R614) -/
  | paceWordReceive (port : BitVec 3) (word : BitVec 128)
  /-- PACE_APPLY (R615) -/
  | paceApply
  /-- NONCE (R640) -/
  | nonce (mbox : BitVec 1)
  /-- PROPOSE (R640) -/
  | propose (mbox : BitVec 1) (sigOk : Bool)
  /-- COUNTERSIGN (R641) -/
  | countersign (mbox : BitVec 1) (sigOk : Bool)
  /-- WITHDRAW (R643) -/
  | withdraw (mbox : BitVec 1)
  /-- QUERY (R635) -/
  | query (mbox : BitVec 1)
  /-- BUNDLE (R79) -/
  | bundle (mbox : BitVec 1)
  /-- KEY_LOAD (R649) -/
  | keyLoad (mbox : BitVec 1) (sigOk tagOk : Bool)
  /-- KEY_DROP (R649) -/
  | keyDrop (mbox : BitVec 1)
  /-- QUIESCE_ACK (R642) -/
  | quiesceAck
  /-- QUIESCE_TIMEOUT (R642) -/
  | quiesceTimeout
  /-- PROPOSAL_EXPIRE (R643) -/
  | proposalExpire (mbox : BitVec 1)
  /-- LOCKOUT_END (R645) -/
  | lockoutEnd
  /-- DEBUG_RELOCK (R651) -/
  | debugRelock
  /-- HALT (R653) -/
  | halt (tile : BitVec 6)
  /-- DBG_RESUME (R653) -/
  | dbgResume (tile : BitVec 6)
  /-- STEP (R653) -/
  | step (tile : BitVec 6)
  /-- READ (R654) -/
  | read (tile : BitVec 6)
  /-- WRITE (R654) -/
  | write (tile : BitVec 6)
  /-- BREAKPOINT (R656) -/
  | breakpoint (tile : BitVec 6)
  /-- JTAG_LOCKED_INSTRUCTION (R650) -/
  | jtagLockedInstruction (code : BitVec 8)
  /-- VGLITCH (R658) -/
  | vglitch (place : GlitchAt)
  /-- CGLITCH (R658) -/
  | cglitch (source : BitVec 2)
  /-- KINTEGRITY (R658) -/
  | kintegrity (fail : KeeperFault)
  /-- KFW_CHECK (R658) -/
  | kfwCheck (ok : Bool)
  /-- LOG_READ_WRITE (R677) -/
  | logReadWrite (value : BitVec 32)
  /-- EVENT_VECTOR (R679) -/
  | eventVector
  /-- VEC_UNMASK (R679) -/
  | vecUnmask (v : BitVec 12) (value : BitVec 64)
  /-- MONITOR_PARTIAL_SEND (R683) -/
  | monitorPartialSend (what : SampleOf)
  /-- MONITOR_PARTIAL_MERGE (R683) -/
  | monitorPartialMerge
  /-- MONITOR_WINDOW_CAPTURE (R684) -/
  | monitorWindowCapture (slot : BitVec 8)
  /-- SLOT_CFG_WRITE (R681) -/
  | slotCfgWrite (slot : BitVec 8) (value : BitVec 64)
  /-- CAP_BASE_WRITE (R695) -/
  | capBaseWrite (value : BitVec 64)
  /-- TRACE_BASE_WRITE (R695) -/
  | traceBaseWrite (value : BitVec 64)
  /-- TRACE_WRITE (R688) -/
  | traceWrite
  /-- STOP (R701) -/
  | stop (src : Source) (value : BitVec 32)
  /-- REOPEN (R709) -/
  | reopen (src : Source) (value : BitVec 32)
  /-- LINK_STOP_DRAIN_EXPIRE (R705) -/
  | linkStopDrainExpire
  /-- SENSOR_STOP_CAPTURE_END (R706) -/
  | sensorStopCaptureEnd
  /-- SELFTEST (R710) -/
  | selftest (pass : Bool)
  /-- ROUTE (R712) -/
  | route
  /-- DIODE_MEASURE (R718) -/
  | diodeMeasure (v10 v100 : BitVec 16) (reading : BitVec 10)
  /-- MGMT_BUS_CLEAR (R720) -/
  | mgmtBusClear (scl freed : Bool)
  /-- OUTPUT_FIGHT (R721) -/
  | outputFight (alarm : Bool)
  /-- THERMAL_READING (R751) -/
  | thermalReading (readings : List (BitVec 10))
  /-- THERMAL_TRIP (R752) -/
  | thermalTrip (sensor : BitVec 5)
  /-- THERMAL_WAIT_END (R752) -/
  | thermalWaitEnd
  /-- READ32 (R745) -/
  | read32 (offset : BitVec 32) (len : BitVec 8)
  /-- READ64 (R745) -/
  | read64 (offset : BitVec 32) (len : BitVec 8)
  /-- WRITE32 (R745) -/
  | write32 (offset : BitVec 32) (len : BitVec 8) (value : BitVec 32)
  /-- WRITE64 (R745) -/
  | write64 (offset : BitVec 32) (len : BitVec 8) (value : BitVec 64)
  /-- MGMT_STATUS_READ (R745) -/
  | mgmtStatusRead
  /-- ENTDAA (R744) -/
  | entdaa (addr : BitVec 7)
  /-- SETDASA (R744) -/
  | setdasa (static addr : BitVec 7)
  /-- RSTDAA (R744) -/
  | rstdaa
  /-- BYPASS (R650) -/
  | bypass
  /-- IDCODE (R743) -/
  | idcode
  /-- SAMPLE_PRELOAD (R650) -/
  | samplePreload (cells : BitVec 256)
  /-- EXTEST (R650) -/
  | extest
  /-- JTAG_TOWPATH_ACCESS (R650) -/
  | jtagTowpathAccess (write : Bool) (offset : BitVec 26) (size : BitVec 4) (value : BitVec 64) (code : BitVec 8)
  /-- WAIT_TICK_RELEASE (R337) -/
  | waitTickRelease (u : BitVec 7)
  /-- MGMT_STUCK_CLEAR (R720) -/
  | mgmtStuckClear
  /-- BAD_WIDTH_ACCESS (R202) -/
  | badWidthAccess (write : Bool) (offset : BitVec 21) (size : BitVec 4)
  /-- VDD_SOC_REMOVAL (R741) -/
  | vddSocRemoval
  deriving DecidableEq, Repr

end Sys2Proof
end

