-- ==== Sys2Proof/WellFormed.lean ====
section
/-! DEFINITION. Well-formed commands: the operands that name one of fewer things than their width has numbers, and the
accesses that their row takes.  The meanings answer for ill-formed commands too: they find nothing there. -/

namespace Sys2Proof

/-- A control core: T0-T63, and the watch island's at 64 (R1, R110). -/
def unitOk (u : BitVec 7) : Bool := decide (u.toNat ≤ 64)

/-- A power domain, PD0-PD27 (R33). -/
def domOk (d : BitVec 5) : Bool := decide (d.toNat ≤ 27)

/-- A link port, LNK0-LNK5 (R1). -/
def portOk (p : BitVec 3) : Bool := decide (p.toNat ≤ 5)

/-- A link stop, ZL0-ZL5 (R30). -/
def stopOk (z : BitVec 3) : Bool := decide (z.toNat ≤ 5)

/-- A rail, 0-19 (R561). -/
def railOk (r : BitVec 5) : Bool := decide (r.toNat ≤ 19)

/-- An on-die temperature sensor (R749). -/
def sensorOk (k : BitVec 5) : Bool := decide (k.toNat ≤ 16)

/-- An aligned access of 4 or 8 bytes (R20). -/
def accessOk (o n : Nat) : Bool := (n == 4 || n == 8) && o % n == 0

/-- An offset within the aperture, in a private write of the length that its command byte has (R745). -/
def mgmtOk (o n need : Nat) : Bool := decide (o < 2 ^ 26) && n == need

/-- A well-formed command. -/
def WellFormed (i : Instr) : Bool :=
  match i with
  | .registerWrite offset size _ => accessOk offset.toNat size.toNat
  | .clearOnWrite offset size _ => accessOk offset.toNat size.toNat
  | .coldReset => true
  | .resetNAssert => true
  | .resetNRise => true
  | .referencePllLock .. => true
  | .rampGrant => true
  | .railWait dom _ => domOk dom
  | .ramping dom _ => domOk dom
  | .clockWait dom _ => domOk dom
  | .scrub dom _ => domOk dom
  | .domainOpen dom => domOk dom
  | .stepTimeout dom => domOk dom
  | .retryWait dom => domOk dom
  | .refLost => true
  | .keeperSelfTest .. => true
  | .bundleTimeout => true
  | .bundleFetch => true
  | .imageAuthenticate .. => true
  | .flightReady => true
  | .warm .. => true
  | .cluster .. => true
  | .linkPort .. => true
  | .clusterDrainTimeout .. => true
  | .domainClose dom => domOk dom
  | .clusterOpenOnDemand => true
  | .standbyReq .. => true
  | .standbyDrain .. => true
  | .standbyClustersClosed => true
  | .standbySaveDone => true
  | .keyStoreWrap => true
  | .strayDoorbellWrite => true
  | .wake .. => true
  | .keyStoreUnwrap .. => true
  | .dspmDigestCheck => true
  | .stateRestore => true
  | .reportArrive .. => true
  | .concentratorPass => true
  | .heldReportAccept => true
  | .gtcSyncWord => true
  | .gtcCopySync .. => true
  | .gtcCopyStale .. => true
  | .captureStart .. => true
  | .captureOrder => true
  | .triggerWrite .. => true
  | .i3cBusRecovery .. => true
  | .csi2Packet .. => true
  | .hsPolarity .. => true
  | .frameEnd .. => true
  | .frameWindowExpire => true
  | .pd11Close => true
  | .watchBudgetOverrun => true
  | .watchException .. => true
  | .wakeInWake .. => true
  | .wakeInStuck => true
  | .wakeInReenable .. => true
  | .programWake => true
  | .pendingClear .. => true
  | .keepClear .. => true
  | .handoffNow .. => true
  | .arm .. => true
  | .handoff => true
  | .ctxOpen .. => true
  | .ctxClose .. => true
  | .ctxRelease .. => true
  | .ctxReset .. => true
  | .ctxLose .. => true
  | .groupBind .. => true
  | .groupUnbind .. => true
  | .queueEnable .. => true
  | .queueDisable .. => true
  | .queueResume .. => true
  | .waitHost .. => true
  | .waitPoke .. => true
  | .waitCancel .. => true
  | .drainLimitExpire .. => true
  | .drainEnd .. => true
  | .abortComplete .. => true
  | .doorbell .. => true
  | .stageReadComplete .. => true
  | .cancel .. => true
  | .packetFetch .. => true
  | .nop .. => true
  | .task .. => true
  | .taskGroup .. => true
  | .fenceSignal .. => true
  | .fenceWait .. => true
  | .barrier .. => true
  | .copy .. => true
  | .fill .. => true
  | .prefetch .. => true
  | .advise .. => true
  | .migrate .. => true
  | .stateSave .. => true
  | .stateLoad .. => true
  | .timestamp .. => true
  | .dmaTransferComplete .. => true
  | .packetRetire .. => true
  | .dispatcherCycle => true
  | .startMiss .. => true
  | .finishMiss .. => true
  | .budgetOverrun .. => true
  | .budgetHard .. => true
  | .handover .. => true
  | .istoreLineFill .. => true
  | .tileException .. => true
  | .taskExceptionEnd .. => true
  | .taskEnd .. => true
  | .unitInstructionComplete tile _ => unitOk tile
  | .bargeComplete .. => true
  | .moverFault .. => true
  | .swapComplete .. => true
  | .claimLapse .. => true
  | .fenceOrder .. => true
  | .fenceLimitExpire .. => true
  | .fenceAck .. => true
  | .fenceLift .. => true
  | .clear => true
  | .schedClear => true
  | .istoreFlush .. => true
  | .tileCountsClear .. => true
  | .add u _ _ _ => unitOk u
  | .sub u _ _ _ => unitOk u
  | .and u _ _ _ => unitOk u
  | .or u _ _ _ => unitOk u
  | .xor u _ _ _ => unitOk u
  | .sll u _ _ _ => unitOk u
  | .srl u _ _ _ => unitOk u
  | .sra u _ _ _ => unitOk u
  | .slt u _ _ _ => unitOk u
  | .sltu u _ _ _ => unitOk u
  | .mul u _ _ _ => unitOk u
  | .mulh u _ _ _ => unitOk u
  | .mulhu u _ _ _ => unitOk u
  | .div u _ _ _ => unitOk u
  | .divu u _ _ _ => unitOk u
  | .rem u _ _ _ => unitOk u
  | .remu u _ _ _ => unitOk u
  | .min u _ _ _ => unitOk u
  | .max u _ _ _ => unitOk u
  | .minu u _ _ _ => unitOk u
  | .maxu u _ _ _ => unitOk u
  | .clz u _ _ _ => unitOk u
  | .popc u _ _ _ => unitOk u
  | .amov u _ _ _ => unitOk u
  | .aadd u _ _ _ => unitOk u
  | .aaddu u _ _ _ => unitOk u
  | .apack u _ _ _ => unitOk u
  | .alo u _ _ _ => unitOk u
  | .ahi u _ _ _ => unitOk u
  | .tset u _ _ _ _ => unitOk u
  | .tget u _ _ _ _ => unitOk u
  | .tmov u _ _ _ => unitOk u
  | .tzero u _ _ _ => unitOk u
  | .addi u _ _ _ _ => unitOk u
  | .andi u _ _ _ _ => unitOk u
  | .ori u _ _ _ _ => unitOk u
  | .xori u _ _ _ _ => unitOk u
  | .lui u _ _ _ _ => unitOk u
  | .slti u _ _ _ _ => unitOk u
  | .adda u _ _ _ _ => unitOk u
  | .lw u _ _ _ _ _ => unitOk u
  | .sw u _ _ _ _ _ => unitOk u
  | .lbu u _ _ _ _ _ => unitOk u
  | .sb u _ _ _ _ _ => unitOk u
  | .beq u _ _ _ _ => unitOk u
  | .bne u _ _ _ _ => unitOk u
  | .blt u _ _ _ _ => unitOk u
  | .bge u _ _ _ _ => unitOk u
  | .bltu u _ _ _ _ => unitOk u
  | .bgeu u _ _ _ _ => unitOk u
  | .jal u _ _ _ => unitOk u
  | .jalr u _ _ _ _ => unitOk u
  | .loop u _ _ _ _ => unitOk u
  | .lbrk u _ _ _ => unitOk u
  | .tld u _ _ _ _ _ => unitOk u
  | .tst u _ _ _ _ => unitOk u
  | .xfer u _ _ _ _ => unitOk u
  | .waitBarge u _ => unitOk u
  | .waitUnits u _ => unitOk u
  | .waitTick u _ => unitOk u
  | .waitFrame u _ => unitOk u
  | .atomAdd u _ _ _ _ _ => unitOk u
  | .atomAnd u _ _ _ _ _ => unitOk u
  | .atomOr u _ _ _ _ _ => unitOk u
  | .atomXor u _ _ _ _ _ => unitOk u
  | .atomSmin u _ _ _ _ _ => unitOk u
  | .atomSmax u _ _ _ _ _ => unitOk u
  | .atomUmin u _ _ _ _ _ => unitOk u
  | .atomUmax u _ _ _ _ _ => unitOk u
  | .atomSwap u _ _ _ _ _ => unitOk u
  | .atomCas u _ _ _ _ _ => unitOk u
  | .atomFadd u _ _ _ _ _ => unitOk u
  | .atomLoad u _ _ _ _ _ => unitOk u
  | .rsend u _ _ _ _ _ _ _ => unitOk u
  | .rrecv u _ _ _ _ _ _ => unitOk u
  | .alloc u _ _ _ _ _ _ => unitOk u
  | .free u _ _ _ _ _ => unitOk u
  | .signalFence u _ => unitOk u
  | .signalEvent u _ => unitOk u
  | .signalWake u _ => unitOk u
  | .signalKeep u _ => unitOk u
  | .phase u _ => unitOk u
  | .time u _ => unitOk u
  | .clipstat u _ => unitOk u
  | .tmodeRead u _ => unitOk u
  | .tmodeWrite u _ => unitOk u
  | .end_ u _ => unitOk u
  | .yield u _ => unitOk u
  | .trap u _ => unitOk u
  | .mma u _ _ _ _ _ _ _ _ => unitOk u
  | .cvt u _ _ _ _ _ _ _ _ _ _ => unitOk u
  | .reduceSum u _ _ _ _ _ _ => unitOk u
  | .reduceMax u _ _ _ _ _ _ => unitOk u
  | .reduceMin u _ _ _ _ _ _ => unitOk u
  | .reduceAbsmax u _ _ _ _ _ _ => unitOk u
  | .vadd u _ _ _ _ _ => unitOk u
  | .vsub u _ _ _ _ _ => unitOk u
  | .vmul u _ _ _ _ _ => unitOk u
  | .vmulh u _ _ _ _ _ => unitOk u
  | .vmulhu u _ _ _ _ _ => unitOk u
  | .vmin u _ _ _ _ _ => unitOk u
  | .vmax u _ _ _ _ _ => unitOk u
  | .vminu u _ _ _ _ _ => unitOk u
  | .vmaxu u _ _ _ _ _ => unitOk u
  | .vand u _ _ _ _ _ => unitOk u
  | .vor u _ _ _ _ _ => unitOk u
  | .vxor u _ _ _ _ _ => unitOk u
  | .vsll u _ _ _ _ _ => unitOk u
  | .vsrl u _ _ _ _ _ => unitOk u
  | .vsra u _ _ _ _ _ => unitOk u
  | .vabs u _ _ _ _ _ => unitOk u
  | .vmadd u _ _ _ _ _ => unitOk u
  | .vsrar u _ _ _ _ _ => unitOk u
  | .vfadd u _ _ _ _ _ => unitOk u
  | .vfsub u _ _ _ _ _ => unitOk u
  | .vfmul u _ _ _ _ _ => unitOk u
  | .vfma u _ _ _ _ _ => unitOk u
  | .vfmin u _ _ _ _ _ => unitOk u
  | .vfmax u _ _ _ _ _ => unitOk u
  | .vfabs u _ _ _ _ _ => unitOk u
  | .vfneg u _ _ _ _ _ => unitOk u
  | .vfrcp u _ _ _ _ _ => unitOk u
  | .vfrsqrt u _ _ _ _ _ => unitOk u
  | .vfsqrt u _ _ _ _ _ => unitOk u
  | .vfexp2 u _ _ _ _ _ => unitOk u
  | .vflog2 u _ _ _ _ _ => unitOk u
  | .vfdiv u _ _ _ _ _ => unitOk u
  | .vi2f u _ _ _ _ _ => unitOk u
  | .vu2f u _ _ _ _ _ => unitOk u
  | .vf2i u _ _ _ _ _ => unitOk u
  | .vcmpeq u _ _ _ _ _ => unitOk u
  | .vcmpne u _ _ _ _ _ => unitOk u
  | .vcmplt u _ _ _ _ _ => unitOk u
  | .vcmple u _ _ _ _ _ => unitOk u
  | .vcmpltu u _ _ _ _ _ => unitOk u
  | .vcmpleu u _ _ _ _ _ => unitOk u
  | .vfcmpeq u _ _ _ _ _ => unitOk u
  | .vfcmplt u _ _ _ _ _ => unitOk u
  | .vfcmple u _ _ _ _ _ => unitOk u
  | .vfcmpun u _ _ _ _ _ => unitOk u
  | .vperm u _ _ _ _ => unitOk u
  | .vrot u _ _ _ _ => unitOk u
  | .vred u _ _ _ _ => unitOk u
  | .pand u _ _ _ _ => unitOk u
  | .por u _ _ _ _ => unitOk u
  | .pxor u _ _ _ _ => unitOk u
  | .pandn u _ _ _ _ => unitOk u
  | .pset u _ _ _ _ => unitOk u
  | .pget u _ _ _ _ => unitOk u
  | .vld u _ _ _ _ _ => unitOk u
  | .vst u _ _ _ _ _ => unitOk u
  | .vlds u _ _ _ _ _ => unitOk u
  | .vsts u _ _ _ _ _ => unitOk u
  | .vld8 u _ _ _ _ _ => unitOk u
  | .vldu8 u _ _ _ _ _ => unitOk u
  | .vld16 u _ _ _ _ _ => unitOk u
  | .vldh u _ _ _ _ _ => unitOk u
  | .vldbf u _ _ _ _ _ => unitOk u
  | .vst8 u _ _ _ _ _ => unitOk u
  | .vst16 u _ _ _ _ _ => unitOk u
  | .vbcast u _ _ _ _ => unitOk u
  | .vext u _ _ _ _ => unitOk u
  | .vins u _ _ _ _ => unitOk u
  | .accrd u _ _ _ _ => unitOk u
  | .accwr u _ _ _ _ => unitOk u
  | .vmov u _ _ _ _ => unitOk u
  | .rtld u _ _ _ _ _ => unitOk u
  | .rtst u _ _ _ _ => unitOk u
  | .xltLookup .. => true
  | .walkStart => true
  | .walkRead .. => true
  | .walkWeirRefill => true
  | .xltInval .. => true
  | .invalidateComplete => true
  | .resume .. => true
  | .kill .. => true
  | .fqBaseWrite .. => true
  | .fqHeadWrite .. => true
  | .memoryRequest .. => true
  | .basinRequest .. => true
  | .packetInject .. => true
  | .routerHeader stop out .. => decide (stop.toNat < 36) && decide (out.toNat < 5)
  | .packetEject stop => decide (stop.toNat < 36)
  | .meshResponse .. => true
  | .reqTimeout .. => true
  | .switch .. => true
  | .epochReqDrained => true
  | .epochFlip => true
  | .epochAbandon => true
  | .probeSample => true
  | .weirWrite .. => true
  | .linkPortEnable port _ => portOk port
  | .trainingStep port _ => portOk port
  | .trainingStepTimeout port => portOk port
  | .trainingRetry port => portOk port
  | .retrain port _ => portOk port
  | .retrainEnd port _ => portOk port
  | .linkFrameSend port _ => portOk port
  | .linkFrameReceive port _ _ _ _ => portOk port
  | .ackTimeout port => portOk port
  | .peerSilent port => portOk port
  | .zlRoute stop _ => stopOk stop
  | .lRead stop _ => stopOk stop
  | .lWrite stop _ => stopOk stop
  | .lWriteMasked stop _ => stopOk stop
  | .lAtomic stop _ => stopOk stop
  | .lMboxSend stop _ => stopOk stop
  | .lReduce stop _ => stopOk stop
  | .lMboxRecv .. => true
  | .lRspData .. => true
  | .lRspAck .. => true
  | .remoteResend stop _ _ _ => stopOk stop
  | .remoteWriteGiveup stop _ _ _ => stopOk stop
  | .reduceWaitExpire stop _ _ _ => stopOk stop
  | .mailbox .. => true
  | .rsendRetry .. => true
  | .mboxBindWrite .. => true
  | .timeSyncExchange .. => true
  | .timeHoldover => true
  | .sessionHandshake port _ => portOk port
  | .sessionRekey port => portOk port
  | .pllLockLoss .. => true
  | .dfoTrim .. => true
  | .droop .. => true
  | .marginCritical .. => true
  | .marginLow .. => true
  | .marginRecover .. => true
  | .skewCorrect .. => true
  | .ageingCheck .. => true
  | .telemetrySample .. => true
  | .senseRetry rail _ => railOk rail
  | .ceilClear rail _ => railOk rail
  | .voltageReached .. => true
  | .vsetTimeout .. => true
  | .estimateInterval .. => true
  | .phaseReport => true
  | .demandReport => true
  | .clusterIdleClose .. => true
  | .unmetStep => true
  | .leaseWrite .. => true
  | .leaseExpire => true
  | .phaseClear .. => true
  | .spillAssert => true
  | .spillRelease => true
  | .spillStuck => true
  | .paceSend => true
  | .paceWordReceive port _ => portOk port
  | .paceApply => true
  | .nonce .. => true
  | .propose .. => true
  | .countersign .. => true
  | .withdraw .. => true
  | .query .. => true
  | .bundle .. => true
  | .keyLoad .. => true
  | .keyDrop .. => true
  | .quiesceAck => true
  | .quiesceTimeout => true
  | .proposalExpire .. => true
  | .lockoutEnd => true
  | .debugRelock => true
  | .halt .. => true
  | .dbgResume .. => true
  | .step .. => true
  | .read .. => true
  | .write .. => true
  | .breakpoint .. => true
  | .jtagLockedInstruction .. => true
  | .vglitch .. => true
  | .cglitch .. => true
  | .kintegrity .. => true
  | .kfwCheck .. => true
  | .logReadWrite .. => true
  | .eventVector => true
  | .vecUnmask .. => true
  | .monitorPartialSend .. => true
  | .monitorPartialMerge => true
  | .monitorWindowCapture .. => true
  | .slotCfgWrite .. => true
  | .capBaseWrite .. => true
  | .traceBaseWrite .. => true
  | .traceWrite => true
  | .stop .. => true
  | .reopen .. => true
  | .linkStopDrainExpire => true
  | .sensorStopCaptureEnd => true
  | .selftest .. => true
  | .route => true
  | .diodeMeasure .. => true
  | .mgmtBusClear .. => true
  | .outputFight .. => true
  | .thermalReading .. => true
  | .thermalTrip sensor => sensorOk sensor
  | .thermalWaitEnd => true
  | .read32 offset len => mgmtOk offset.toNat len.toNat 5
  | .read64 offset len => mgmtOk offset.toNat len.toNat 5
  | .write32 offset len _ => mgmtOk offset.toNat len.toNat 9
  | .write64 offset len _ => mgmtOk offset.toNat len.toNat 13
  | .mgmtStatusRead => true
  | .entdaa .. => true
  | .setdasa .. => true
  | .rstdaa => true
  | .bypass => true
  | .idcode => true
  | .samplePreload .. => true
  | .extest => true
  | .jtagTowpathAccess _ offset size _ _ => accessOk offset.toNat size.toNat
  | .waitTickRelease u => unitOk u
  | .mgmtStuckClear => true
  | .badWidthAccess .. => true
  | .vddSocRemoval => true

end Sys2Proof
end

