-- ==== Sys2Proof/Decode.lean ====
section
/-! DEFINITION. The command that a word of bits spells.  The table gives none of its rows any bits: the block's commands
come from its ports, and the encoded fields of a tile instruction are operands of its command.  So no word spells one. -/

namespace Sys2Proof

/-- The command that `nbits` bits of value `w` spell by the table: none. -/
def decodeTableWord (_nbits _w : Nat) : Option Instr := none

end Sys2Proof
end

