-- ==== Sys2Proof/Config.lean ====
section
/-! DEFINITION. What the spec leaves to the implementation: free values, with no body, so that no
proof can see what they are.  Each is named in a log entry. -/

namespace Sys2Proof.Config

/-- A value the spec leaves open (log entry 3): the `n`-th such value of a run, at most `w` bits
wide where it is used.  `n` is the counter `freeCtr` of State, advanced at each use. -/
opaque freeValue : Nat → Nat

/-- The check syndrome that a SECDED code finds (R674 leaves the code to the implementation). -/
opaque syndrome : Nat → Nat

/-- What a line of memory reads as when it was written under one seal key (or none, 0) and is read
under another: line address, the two key identities and the bytes written (R435, R442, log entry 4). -/
opaque recipher : (wrote read line data : Nat) → Nat

/-- AES-256-GCM decryption of a protected tensor: key identity, IV and ciphertext bytes as one
number to plaintext as one number (R437, log entry 5). -/
opaque gcmOpen : (key iv data : Nat) → Nat

/-- What the engine computes with a cipher or hash of R629-R649 whose output the spec names only by
its standard: purpose number and input (log entry 5). -/
opaque cipher : (purpose input : Nat) → Nat

/-- A byte that another die's memory answers (R450): the counter `freeCtr` and the physical address.  The
other die's memory is not part of this block (log entry 6). -/
opaque remoteByte : (n pa : Nat) → Nat

/-- LEAK of a cluster at the voltage of an operating point and a temperature reading, in mW (R592, R605): the fused
leakage model, which the spec does not give. -/
opaque leak : (cluster op temp : Nat) → Nat

/-- What a cluster's activity of an interval costs at an on-die voltage in mV, in mW (R592): the energy weights, which the Keeper
loads from KFW and the spec does not give. -/
opaque energy : (cluster activity vDie : Nat) → Nat

end Sys2Proof.Config
end

