-- ==== Sys2Proof/Machine/Cells.lean ====
section
/-! DEFINITION. Memory as plain data: a list of (address, byte) cells in one canonical form,
addresses strictly rising and no cell equal to what an unlisted address reads as (log entry 2).
The same form holds the external memory, the tile stores, the island SRAM and the basin
carve-outs. -/

namespace Sys2Proof.Machine

/-- A memory. -/
abbrev Cells := List Host.Cell

/-- What an address that no cell lists reads as: zero (log entry 2). -/
def Cells.blank : Byte := 0

/-- The byte at address `a`. -/
def Cells.byte : Cells → Nat → Byte
  | [], _ => Cells.blank
  | (a', b) :: r, a => if a' = a then b else Cells.byte r a

/-- The memory with byte `b` at address `a`, in canonical form again. -/
def Cells.put : Cells → Nat → Byte → Cells
  | [], a, b => if b = Cells.blank then [] else [(a, b)]
  | (a', b') :: r, a, b =>
    if a < a' then (if b = Cells.blank then (a', b') :: r else (a, b) :: (a', b') :: r)
    else if a = a' then (if b = Cells.blank then r else (a, b) :: r)
    else (a', b') :: Cells.put r a b

/-- The memory with the bytes of `bs` from address `a` on. -/
def Cells.putList (m : Cells) (a : Nat) : List Byte → Cells
  | [] => m
  | b :: bs => Cells.putList (m.put a b) (a + 1) bs

/-- The memory with every address in `[a, a + n)` reading as blank. -/
def Cells.wipe (a n : Nat) : Cells → Cells
  | [] => []
  | (a', b) :: r =>
    if a ≤ a' ∧ a' < a + n then Cells.wipe a n r else (a', b) :: Cells.wipe a n r

/-- The `n` bytes from address `a`. -/
def Cells.bytes (m : Cells) (a : Nat) : Nat → List Byte
  | 0 => []
  | n + 1 => m.byte a :: Cells.bytes m (a + 1) n

/-- A list of bytes as one number, the first byte least significant (R13). -/
def leNat : List Byte → Nat
  | [] => 0
  | b :: bs => b.toNat + 256 * leNat bs

/-- The low `n` bytes of a number, least significant first (R13). -/
def leBytes : Nat → Nat → List Byte
  | 0, _ => []
  | n + 1, v => BitVec.ofNat 8 v :: leBytes n (v / 256)

/-- The little-endian number in the `n` bytes from address `a` (R13). -/
def Cells.le (m : Cells) (a n : Nat) : Nat := leNat (m.bytes a n)

/-- The memory with the low `n` bytes of `v` little-endian from address `a` (R13). -/
def Cells.putLe (m : Cells) (a n v : Nat) : Cells := m.putList a (leBytes n v)

/-- Every cell lies above address `lo`, addresses rise strictly and no cell is blank. -/
def Cells.wfFrom (lo : Option Nat) : Cells → Bool
  | [] => true
  | (a, b) :: r => (match lo with | none => true | some l => decide (l < a)) &&
      decide (b ≠ Cells.blank) && Cells.wfFrom (some a) r

/-- The canonical form of a memory. -/
def Memory.wf (m : Cells) : Bool := Cells.wfFrom none m

end Sys2Proof.Machine
end

