-- ==== Sys2Proof/Machine/Regs.lean ====
section
/-! DEFINITION. The register map: for every register of the engine aperture its aperture offset
(the block base of R46 plus the offset of its own description), its fields and their types
(R16), the fields a clear-on-write write clears (R18) and its reset value.  Generated from the
field tables of the chapters of `spec/`; a register with an index is a function of it. -/

namespace Sys2Proof.Machine

/-- A named field of one register: aperture offset of the register, bits `[hi:lo]` (R12) and the
reset value of its field table. -/
structure Fld where
  off : Nat
  hi : Nat
  lo : Nat
  reset : Nat
  deriving DecidableEq, Repr

/-- The number under which the table of register fields holds a field. -/
def Fld.key (f : Fld) : Nat := f.off * 64 + f.lo

/-- One more than the largest value of a field. -/
def Fld.size (f : Fld) : Nat := 2 ^ (f.hi + 1 - f.lo)

/-- The field types of R16. -/
inductive FType where
  | RW | RO | W1C | W1S | WO | RWL | KO
  deriving DecidableEq, Repr

/-- One row of a field table: bits, type and reset value. -/
structure FieldDesc where
  hi : Nat
  lo : Nat
  ty : FType
  reset : Nat
  deriving DecidableEq, Repr

/-- One register, or one indexed family of registers: first aperture offset, the (stride, count)
pair of each index, whether it is 64 bits wide, its fields and the mask of the bits that a write
to a clear-on-write register clears (R18).  Bits no field names are RSVD (R17). -/
structure RegDesc where
  name : String
  off : Nat
  dims : List (Nat × Nat)
  wide : Bool
  fields : List FieldDesc
  clr : Nat
  deriving DecidableEq, Repr

namespace Reg

/-- ENG_ID (R51, 32 bits). -/
abbrev ENG_ID : Nat := 0x01000000
abbrev ENG_ID_ID : Fld := ⟨ENG_ID, 31, 0, 0x2616⟩

/-- ENG_REV (R52, 32 bits). -/
abbrev ENG_REV : Nat := 0x01000004
abbrev ENG_REV_STEP_MAJOR : Fld := ⟨ENG_REV, 15, 8, 2⟩
abbrev ENG_REV_STEP_MINOR : Fld := ⟨ENG_REV, 7, 0, 1⟩

/-- ENG_CONFIG (R53, 32 bits). -/
abbrev ENG_CONFIG : Nat := 0x01000008
abbrev ENG_CONFIG_GRADE : Fld := ⟨ENG_CONFIG, 11, 8, 0⟩
abbrev ENG_CONFIG_CONFIG : Fld := ⟨ENG_CONFIG, 7, 4, 0⟩
abbrev ENG_CONFIG_PACKAGE : Fld := ⟨ENG_CONFIG, 3, 0, 0⟩

/-- ENG_CLUSTER_EN (R54, 32 bits). -/
abbrev ENG_CLUSTER_EN : Nat := 0x0100000C
abbrev ENG_CLUSTER_EN_CL_EN : Fld := ⟨ENG_CLUSTER_EN, 15, 0, 0⟩

/-- ENG_CAPS (R55, 32 bits). -/
abbrev ENG_CAPS : Nat := 0x01000010
abbrev ENG_CAPS_LINK : Fld := ⟨ENG_CAPS, 1, 1, 0⟩
abbrev ENG_CAPS_SENSOR : Fld := ⟨ENG_CAPS, 0, 0, 0⟩

/-- ENG_STATE (R56, 32 bits). -/
abbrev ENG_STATE : Nat := 0x01000014
abbrev ENG_STATE_STATE : Fld := ⟨ENG_STATE, 3, 0, 0⟩

/-- ENG_SERIAL (R57, 64 bits). -/
abbrev ENG_SERIAL : Nat := 0x01000018
abbrev ENG_SERIAL_SERIAL : Fld := ⟨ENG_SERIAL, 63, 0, 0⟩

/-- PWR_FLIGHT_STATUS (R96, 32 bits). -/
abbrev PWR_FLIGHT_STATUS : Nat := 0x01070000
abbrev PWR_FLIGHT_STATUS_REF_RC : Fld := ⟨PWR_FLIGHT_STATUS, 31, 31, 0⟩
abbrev PWR_FLIGHT_STATUS_KIND : Fld := ⟨PWR_FLIGHT_STATUS, 30, 28, 0⟩
abbrev PWR_FLIGHT_STATUS_PHASE : Fld := ⟨PWR_FLIGHT_STATUS, 27, 24, 0⟩
abbrev PWR_FLIGHT_STATUS_DOMAIN : Fld := ⟨PWR_FLIGHT_STATUS, 23, 19, 0⟩
abbrev PWR_FLIGHT_STATUS_STEP : Fld := ⟨PWR_FLIGHT_STATUS, 18, 16, 0⟩
abbrev PWR_FLIGHT_STATUS_ATTEMPT : Fld := ⟨PWR_FLIGHT_STATUS, 15, 14, 0⟩
abbrev PWR_FLIGHT_STATUS_STOPPED : Fld := ⟨PWR_FLIGHT_STATUS, 13, 9, 0⟩

/-- PWR_DOMAIN_STATE (R97, 32 bits). -/
abbrev PWR_DOMAIN_STATE (i : Nat) : Nat := 0x01070010 + 0x4 * i
abbrev PWR_DOMAIN_STATE_STATES (i : Nat) : Fld := ⟨PWR_DOMAIN_STATE i, 31, 0, 0⟩

/-- PWR_FLIGHT_CTRL (R98, 32 bits). -/
abbrev PWR_FLIGHT_CTRL : Nat := 0x01070020
abbrev PWR_FLIGHT_CTRL_RESUME_CL : Fld := ⟨PWR_FLIGHT_CTRL, 31, 16, 0⟩
abbrev PWR_FLIGHT_CTRL_STRAY : Fld := ⟨PWR_FLIGHT_CTRL, 15, 8, 0⟩
abbrev PWR_FLIGHT_CTRL_REFUSE_CAUSE : Fld := ⟨PWR_FLIGHT_CTRL, 5, 3, 0⟩
abbrev PWR_FLIGHT_CTRL_STANDBY_REFUSED : Fld := ⟨PWR_FLIGHT_CTRL, 2, 2, 0⟩
abbrev PWR_FLIGHT_CTRL_STANDBY_REQ : Fld := ⟨PWR_FLIGHT_CTRL, 1, 1, 0⟩

/-- PWR_RESET_CMD (R99, 32 bits). -/
abbrev PWR_RESET_CMD : Nat := 0x01070024
abbrev PWR_RESET_CMD_KEY : Fld := ⟨PWR_RESET_CMD, 31, 16, 0⟩
abbrev PWR_RESET_CMD_TARGET : Fld := ⟨PWR_RESET_CMD, 11, 8, 0⟩
abbrev PWR_RESET_CMD_KIND : Fld := ⟨PWR_RESET_CMD, 3, 0, 0⟩

/-- PWR_RESET_STATUS (R100, 32 bits). -/
abbrev PWR_RESET_STATUS : Nat := 0x01070028
abbrev PWR_RESET_STATUS_LAST_SOURCE : Fld := ⟨PWR_RESET_STATUS, 11, 8, 0⟩
abbrev PWR_RESET_STATUS_LAST_KIND : Fld := ⟨PWR_RESET_STATUS, 7, 4, 0⟩
abbrev PWR_RESET_STATUS_BUSY : Fld := ⟨PWR_RESET_STATUS, 3, 3, 0⟩

/-- PWR_STANDBY_SAVE (R101, 64 bits). -/
abbrev PWR_STANDBY_SAVE : Nat := 0x01070030
abbrev PWR_STANDBY_SAVE_BASE : Fld := ⟨PWR_STANDBY_SAVE, 51, 21, 0⟩
abbrev PWR_STANDBY_SAVE_VALID : Fld := ⟨PWR_STANDBY_SAVE, 0, 0, 0⟩

/-- PWR_READY_STAMP (R102, 64 bits). -/
abbrev PWR_READY_STAMP : Nat := 0x01070038
abbrev PWR_READY_STAMP_READY_T : Fld := ⟨PWR_READY_STAMP, 63, 0, 0⟩

/-- PWR_WAKE_CMD (R103, 32 bits). -/
abbrev PWR_WAKE_CMD : Nat := 0x01070040
abbrev PWR_WAKE_CMD_WAKE : Fld := ⟨PWR_WAKE_CMD, 0, 0, 0⟩

/-- PWR_STOP_CMD (R723, 32 bits). -/
abbrev PWR_STOP_CMD : Nat := 0x01070050
abbrev PWR_STOP_CMD_KEY : Fld := ⟨PWR_STOP_CMD, 31, 16, 0⟩
abbrev PWR_STOP_CMD_OP : Fld := ⟨PWR_STOP_CMD, 9, 8, 0⟩
abbrev PWR_STOP_CMD_KIND : Fld := ⟨PWR_STOP_CMD, 7, 4, 0⟩
abbrev PWR_STOP_CMD_INDEX : Fld := ⟨PWR_STOP_CMD, 3, 0, 0⟩

/-- PWR_STOP_STATUS (R724, 32 bits). -/
abbrev PWR_STOP_STATUS : Nat := 0x01070054
abbrev PWR_STOP_STATUS_BUSY : Fld := ⟨PWR_STOP_STATUS, 31, 31, 0⟩
abbrev PWR_STOP_STATUS_OVERRUN : Fld := ⟨PWR_STOP_STATUS, 30, 30, 0⟩
abbrev PWR_STOP_STATUS_RESULT : Fld := ⟨PWR_STOP_STATUS, 23, 16, 0⟩
abbrev PWR_STOP_STATUS_BANK_HELD : Fld := ⟨PWR_STOP_STATUS, 15, 12, 0⟩
abbrev PWR_STOP_STATUS_STEP : Fld := ⟨PWR_STOP_STATUS, 11, 9, 0⟩
abbrev PWR_STOP_STATUS_ATTEMPT : Fld := ⟨PWR_STOP_STATUS, 8, 7, 0⟩

/-- PWR_SERVICE (R725, 64 bits). -/
abbrev PWR_SERVICE : Nat := 0x01070058
abbrev PWR_SERVICE_BY_FAILURE : Fld := ⟨PWR_SERVICE, 60, 32, 0⟩
abbrev PWR_SERVICE_STOPPED : Fld := ⟨PWR_SERVICE, 28, 0, 0⟩

/-- PWR_STOP_KEEP (R726, 32 bits). -/
abbrev PWR_STOP_KEEP : Nat := 0x01070060
abbrev PWR_STOP_KEEP_UNITS : Fld := ⟨PWR_STOP_KEEP, 28, 0, 0⟩

/-- PWR_PIN_STATUS (R727, 32 bits). -/
abbrev PWR_PIN_STATUS : Nat := 0x01070064
abbrev PWR_PIN_STATUS_ALARM_FIGHT : Fld := ⟨PWR_PIN_STATUS, 7, 7, 0⟩
abbrev PWR_PIN_STATUS_WAKE_OUT_FIGHT : Fld := ⟨PWR_PIN_STATUS, 6, 6, 0⟩
abbrev PWR_PIN_STATUS_MGMT_STUCK : Fld := ⟨PWR_PIN_STATUS, 5, 5, 0⟩
abbrev PWR_PIN_STATUS_SPILL_STUCK : Fld := ⟨PWR_PIN_STATUS, 4, 4, 0⟩
abbrev PWR_PIN_STATUS_DIODE : Fld := ⟨PWR_PIN_STATUS, 1, 0, 0⟩

/-- PWR_PIN_CFG (R727, 32 bits). -/
abbrev PWR_PIN_CFG : Nat := 0x01070068
abbrev PWR_PIN_CFG_EN : Fld := ⟨PWR_PIN_CFG, 15, 15, 0⟩
abbrev PWR_PIN_CFG_VEC : Fld := ⟨PWR_PIN_CFG, 11, 0, 0⟩

/-- PWR_THERM_CFG (R756, 32 bits). -/
abbrev PWR_THERM_CFG : Nat := 0x01070070
abbrev PWR_THERM_CFG_LIMIT : Fld := ⟨PWR_THERM_CFG, 9, 0, 0⟩

/-- PWR_THERM_STATUS (R757, 32 bits). -/
abbrev PWR_THERM_STATUS : Nat := 0x01070074
abbrev PWR_THERM_STATUS_TRIPPED : Fld := ⟨PWR_THERM_STATUS, 31, 31, 0⟩
abbrev PWR_THERM_STATUS_THROTTLE : Fld := ⟨PWR_THERM_STATUS, 30, 30, 0⟩
abbrev PWR_THERM_STATUS_SOURCE : Fld := ⟨PWR_THERM_STATUS, 24, 20, 0⟩
abbrev PWR_THERM_STATUS_T_PEAK : Fld := ⟨PWR_THERM_STATUS, 19, 10, 0⟩
abbrev PWR_THERM_STATUS_T_HOT : Fld := ⟨PWR_THERM_STATUS, 9, 0, 0⟩

/-- PWR_CAP (R619, 32 bits). -/
abbrev PWR_CAP : Nat := 0x01070100
abbrev PWR_CAP_MW : Fld := ⟨PWR_CAP, 19, 0, 0⟩

/-- PWR_CAP_FLOOR (R619, 32 bits). -/
abbrev PWR_CAP_FLOOR : Nat := 0x01070104
abbrev PWR_CAP_FLOOR_MW : Fld := ⟨PWR_CAP_FLOOR, 19, 0, 0⟩

/-- PWR_FALLBACK_BUDGET (R619, 32 bits). -/
abbrev PWR_FALLBACK_BUDGET : Nat := 0x01070108
abbrev PWR_FALLBACK_BUDGET_MW : Fld := ⟨PWR_FALLBACK_BUDGET, 19, 0, 0⟩

/-- PWR_CTRL (R620, 32 bits). -/
abbrev PWR_CTRL : Nat := 0x0107010C
abbrev PWR_CTRL_GUARD_MW : Fld := ⟨PWR_CTRL, 31, 16, 0xc8⟩
abbrev PWR_CTRL_MODE : Fld := ⟨PWR_CTRL, 2, 1, 0⟩
abbrev PWR_CTRL_LEASE_EN : Fld := ⟨PWR_CTRL, 0, 0, 0⟩

/-- PWR_LEASE (R621, 64 bits). -/
abbrev PWR_LEASE : Nat := 0x01070110
abbrev PWR_LEASE_SEQ : Fld := ⟨PWR_LEASE, 63, 48, 0⟩
abbrev PWR_LEASE_TERM_MS : Fld := ⟨PWR_LEASE, 38, 32, 0⟩
abbrev PWR_LEASE_BUDGET_MW : Fld := ⟨PWR_LEASE, 19, 0, 0⟩

/-- PWR_LEASE_STATUS (R622, 32 bits). -/
abbrev PWR_LEASE_STATUS : Nat := 0x01070118
abbrev PWR_LEASE_STATUS_STATE : Fld := ⟨PWR_LEASE_STATUS, 31, 30, 0⟩
abbrev PWR_LEASE_STATUS_SOURCE : Fld := ⟨PWR_LEASE_STATUS, 29, 29, 0⟩
abbrev PWR_LEASE_STATUS_LEASE_DROP : Fld := ⟨PWR_LEASE_STATUS, 27, 16, 0⟩
abbrev PWR_LEASE_STATUS_LEFT_MS : Fld := ⟨PWR_LEASE_STATUS, 6, 0, 0⟩

/-- PWR_EFF_CAP (R622, 32 bits). -/
abbrev PWR_EFF_CAP : Nat := 0x0107011C
abbrev PWR_EFF_CAP_BOUND : Fld := ⟨PWR_EFF_CAP, 30, 28, 0⟩
abbrev PWR_EFF_CAP_UNMET : Fld := ⟨PWR_EFF_CAP, 27, 27, 0⟩
abbrev PWR_EFF_CAP_C_EFF : Fld := ⟨PWR_EFF_CAP, 19, 0, 0⟩

/-- PWR_ESTIMATE (R622, 64 bits). -/
abbrev PWR_ESTIMATE : Nat := 0x01070120
abbrev PWR_ESTIMATE_UNCORE : Fld := ⟨PWR_ESTIMATE, 51, 32, 0⟩
abbrev PWR_ESTIMATE_CLUSTERS : Fld := ⟨PWR_ESTIMATE, 19, 0, 0⟩

/-- PWR_ENERGY (R622, 64 bits). -/
abbrev PWR_ENERGY : Nat := 0x01070128
abbrev PWR_ENERGY_UJ : Fld := ⟨PWR_ENERGY, 63, 0, 0⟩

/-- PWR_TCAP (R622, 32 bits). -/
abbrev PWR_TCAP : Nat := 0x01070130
abbrev PWR_TCAP_TCAP : Fld := ⟨PWR_TCAP, 19, 0, 0⟩

/-- PWR_PART_FLOOR (R623, 32 bits). -/
abbrev PWR_PART_FLOOR (i : Nat) : Nat := 0x01070140 + 0x4 * i
abbrev PWR_PART_FLOOR_FLOOR_MW (i : Nat) : Fld := ⟨PWR_PART_FLOOR i, 19, 0, 0⟩

/-- PWR_CL_OP (R624, 32 bits). -/
abbrev PWR_CL_OP (i : Nat) : Nat := 0x01070180 + 0x4 * i
abbrev PWR_CL_OP_FIXED (i : Nat) : Fld := ⟨PWR_CL_OP i, 31, 31, 0⟩
abbrev PWR_CL_OP_FIX_OP (i : Nat) : Fld := ⟨PWR_CL_OP i, 26, 24, 0⟩
abbrev PWR_CL_OP_F_GROUP (i : Nat) : Fld := ⟨PWR_CL_OP i, 23, 12, 0⟩
abbrev PWR_CL_OP_OP (i : Nat) : Fld := ⟨PWR_CL_OP i, 10, 8, 0⟩
abbrev PWR_CL_OP_LIMIT (i : Nat) : Fld := ⟨PWR_CL_OP i, 7, 4, 0xf⟩
abbrev PWR_CL_OP_SPILLED (i : Nat) : Fld := ⟨PWR_CL_OP i, 0, 0, 0⟩

/-- PWR_CL_ALLOC (R622, 32 bits). -/
abbrev PWR_CL_ALLOC (i : Nat) : Nat := 0x010701C0 + 0x4 * i
abbrev PWR_CL_ALLOC_ALLOC (i : Nat) : Fld := ⟨PWR_CL_ALLOC i, 31, 16, 0⟩
abbrev PWR_CL_ALLOC_ESTIMATE (i : Nat) : Fld := ⟨PWR_CL_ALLOC i, 15, 0, 0⟩

/-- PWR_PHASE_CTRL (R625, 32 bits). -/
abbrev PWR_PHASE_CTRL : Nat := 0x01070200
abbrev PWR_PHASE_CTRL_CEFF_MAX : Fld := ⟨PWR_PHASE_CTRL, 31, 16, 0x320⟩
abbrev PWR_PHASE_CTRL_EN : Fld := ⟨PWR_PHASE_CTRL, 15, 15, 1⟩

/-- PWR_PHASE_CLEAR (R625, 32 bits). -/
abbrev PWR_PHASE_CLEAR : Nat := 0x01070204
abbrev PWR_PHASE_CLEAR_CLEAR : Fld := ⟨PWR_PHASE_CLEAR, 15, 0, 0⟩

/-- PWR_PACE_CTRL (R626, 32 bits). -/
abbrev PWR_PACE_CTRL : Nat := 0x01070210
abbrev PWR_PACE_CTRL_GROUP : Fld := ⟨PWR_PACE_CTRL, 31, 24, 0⟩
abbrev PWR_PACE_CTRL_PORTS : Fld := ⟨PWR_PACE_CTRL, 21, 16, 0⟩
abbrev PWR_PACE_CTRL_PACE_PERIOD : Fld := ⟨PWR_PACE_CTRL, 15, 0, 0xa⟩

/-- PWR_PACE_STATUS (R626, 32 bits). -/
abbrev PWR_PACE_STATUS : Nat := 0x01070214
abbrev PWR_PACE_STATUS_EXCLUDED : Fld := ⟨PWR_PACE_STATUS, 31, 22, 0⟩
abbrev PWR_PACE_STATUS_LAG : Fld := ⟨PWR_PACE_STATUS, 21, 21, 0⟩
abbrev PWR_PACE_STATUS_F_GROUP : Fld := ⟨PWR_PACE_STATUS, 11, 0, 0⟩

/-- PWR_PACE_MASK (R626, 32 bits). -/
abbrev PWR_PACE_MASK (i : Nat) : Nat := 0x01070220 + 0x4 * i
abbrev PWR_PACE_MASK_MEMBERS (i : Nat) : Fld := ⟨PWR_PACE_MASK i, 31, 0, 0⟩

/-- PWR_CLOSE_IDLE (R626, 32 bits). -/
abbrev PWR_CLOSE_IDLE : Nat := 0x01070260
abbrev PWR_CLOSE_IDLE_TICKS : Fld := ⟨PWR_CLOSE_IDLE, 31, 0, 0xf4240⟩

/-- PWR_KEEP_OPEN (R626, 32 bits). -/
abbrev PWR_KEEP_OPEN : Nat := 0x01070264
abbrev PWR_KEEP_OPEN_CL : Fld := ⟨PWR_KEEP_OPEN, 15, 0, 0⟩

/-- PWR_GOV_COUNTS (R622, 64 bits). -/
abbrev PWR_GOV_COUNTS : Nat := 0x01070270
abbrev PWR_GOV_COUNTS_SPILLS : Fld := ⟨PWR_GOV_COUNTS, 63, 48, 0⟩
abbrev PWR_GOV_COUNTS_LEASE_EXPIRED : Fld := ⟨PWR_GOV_COUNTS, 47, 32, 0⟩
abbrev PWR_GOV_COUNTS_UNMET_INT : Fld := ⟨PWR_GOV_COUNTS, 31, 16, 0⟩
abbrev PWR_GOV_COUNTS_FIXED_BREAK : Fld := ⟨PWR_GOV_COUNTS, 15, 0, 0⟩

/-- PWR_VREQ (R626, 32 bits). -/
abbrev PWR_VREQ (i : Nat) : Nat := 0x01070300 + 0x4 * i
abbrev PWR_VREQ_SEQ (i : Nat) : Fld := ⟨PWR_VREQ i, 31, 24, 0⟩
abbrev PWR_VREQ_MV (i : Nat) : Fld := ⟨PWR_VREQ i, 15, 0, 0⟩

/-- PWR_VREQ_PEND (R626, 32 bits). -/
abbrev PWR_VREQ_PEND : Nat := 0x01070340
abbrev PWR_VREQ_PEND_RAILS : Fld := ⟨PWR_VREQ_PEND, 15, 0, 0⟩

/-- PWR_VREQ_CFG (R626, 32 bits). -/
abbrev PWR_VREQ_CFG : Nat := 0x01070344
abbrev PWR_VREQ_CFG_NOTIFY : Fld := ⟨PWR_VREQ_CFG, 31, 31, 0⟩
abbrev PWR_VREQ_CFG_VEC : Fld := ⟨PWR_VREQ_CFG, 11, 0, 0⟩

/-- PWR_VSET_LIMIT (R626, 32 bits). -/
abbrev PWR_VSET_LIMIT : Nat := 0x01070348
abbrev PWR_VSET_LIMIT_TICKS : Fld := ⟨PWR_VSET_LIMIT, 31, 0, 0x4e20⟩

/-- PWR_RAIL_CFG (R582, 64 bits). -/
abbrev PWR_RAIL_CFG (i : Nat) : Nat := 0x01070400 + 0x8 * i
abbrev PWR_RAIL_CFG_CRACK_WINDOW (i : Nat) : Fld := ⟨PWR_RAIL_CFG i, 55, 48, 0x10⟩
abbrev PWR_RAIL_CFG_CRACK_MIN_I (i : Nat) : Fld := ⟨PWR_RAIL_CFG i, 39, 32, 4⟩
abbrev PWR_RAIL_CFG_CRACK_MARGIN (i : Nat) : Fld := ⟨PWR_RAIL_CFG i, 31, 16, 0x2710⟩
abbrev PWR_RAIL_CFG_PATH_UOHM (i : Nat) : Fld := ⟨PWR_RAIL_CFG i, 15, 0, 0x12c⟩

/-- PWR_RAIL_STATUS (R583, 64 bits). -/
abbrev PWR_RAIL_STATUS (i : Nat) : Nat := 0x01070500 + 0x8 * i
abbrev PWR_RAIL_STATUS_V_DIE (i : Nat) : Fld := ⟨PWR_RAIL_STATUS i, 63, 48, 0⟩
abbrev PWR_RAIL_STATUS_EXCESS (i : Nat) : Fld := ⟨PWR_RAIL_STATUS i, 47, 32, 0⟩
abbrev PWR_RAIL_STATUS_SENSE_RETRY (i : Nat) : Fld := ⟨PWR_RAIL_STATUS i, 10, 10, 0⟩
abbrev PWR_RAIL_STATUS_CEIL_CLEAR (i : Nat) : Fld := ⟨PWR_RAIL_STATUS i, 9, 9, 0⟩
abbrev PWR_RAIL_STATUS_NO_TEL (i : Nat) : Fld := ⟨PWR_RAIL_STATUS i, 8, 8, 0⟩
abbrev PWR_RAIL_STATUS_CRACK (i : Nat) : Fld := ⟨PWR_RAIL_STATUS i, 7, 7, 0⟩
abbrev PWR_RAIL_STATUS_CEILING (i : Nat) : Fld := ⟨PWR_RAIL_STATUS i, 6, 4, 7⟩
abbrev PWR_RAIL_STATUS_SENSE (i : Nat) : Fld := ⟨PWR_RAIL_STATUS i, 1, 0, 0⟩

/-- PWR_RAIL_STATUS16 (R583, 64 bits). -/
abbrev PWR_RAIL_STATUS16 (i : Nat) : Nat := 0x01070580 + 0x8 * i
abbrev PWR_RAIL_STATUS16_V_DIE (i : Nat) : Fld := ⟨PWR_RAIL_STATUS16 i, 63, 48, 0⟩
abbrev PWR_RAIL_STATUS16_EXCESS (i : Nat) : Fld := ⟨PWR_RAIL_STATUS16 i, 47, 32, 0⟩
abbrev PWR_RAIL_STATUS16_SENSE_RETRY (i : Nat) : Fld := ⟨PWR_RAIL_STATUS16 i, 10, 10, 0⟩
abbrev PWR_RAIL_STATUS16_CEIL_CLEAR (i : Nat) : Fld := ⟨PWR_RAIL_STATUS16 i, 9, 9, 0⟩
abbrev PWR_RAIL_STATUS16_NO_TEL (i : Nat) : Fld := ⟨PWR_RAIL_STATUS16 i, 8, 8, 0⟩
abbrev PWR_RAIL_STATUS16_CRACK (i : Nat) : Fld := ⟨PWR_RAIL_STATUS16 i, 7, 7, 0⟩
abbrev PWR_RAIL_STATUS16_CEILING (i : Nat) : Fld := ⟨PWR_RAIL_STATUS16 i, 6, 4, 0⟩
abbrev PWR_RAIL_STATUS16_SENSE (i : Nat) : Fld := ⟨PWR_RAIL_STATUS16 i, 1, 0, 0⟩

/-- PWR_TEL (R626, 64 bits). -/
abbrev PWR_TEL (i : Nat) : Nat := 0x01070600 + 0x8 * i
abbrev PWR_TEL_SEQ (i : Nat) : Fld := ⟨PWR_TEL i, 47, 32, 0⟩
abbrev PWR_TEL_VOUT (i : Nat) : Fld := ⟨PWR_TEL i, 31, 16, 0⟩
abbrev PWR_TEL_IOUT (i : Nat) : Fld := ⟨PWR_TEL i, 15, 0, 0⟩

/-- PWR_CAL (R622, 32 bits). -/
abbrev PWR_CAL (i : Nat) : Nat := 0x01070700 + 0x4 * i
abbrev PWR_CAL_GAIN (i : Nat) : Fld := ⟨PWR_CAL i, 15, 0, 0x1000⟩

/-- PWR_PHASE (R625, 32 bits). -/
abbrev PWR_PHASE (i j : Nat) : Nat := 0x01078000 + 0x400 * i + 0x4 * j
abbrev PWR_PHASE_VALID (i j : Nat) : Fld := ⟨PWR_PHASE i j, 31, 31, 0⟩
abbrev PWR_PHASE_SEEN (i j : Nat) : Fld := ⟨PWR_PHASE i j, 23, 16, 0⟩
abbrev PWR_PHASE_CEFF (i j : Nat) : Fld := ⟨PWR_PHASE i j, 15, 0, 0⟩

/-- CLK_GTC (R573, 64 bits). -/
abbrev CLK_GTC : Nat := 0x01080000
abbrev CLK_GTC_COUNT : Fld := ⟨CLK_GTC, 63, 0, 0⟩

/-- CLK_GTC_STATUS (R574, 32 bits). -/
abbrev CLK_GTC_STATUS : Nat := 0x01080008
abbrev CLK_GTC_STATUS_ON_RC : Fld := ⟨CLK_GTC_STATUS, 31, 31, 0⟩
abbrev CLK_GTC_STATUS_STEPPED : Fld := ⟨CLK_GTC_STATUS, 30, 30, 0⟩
abbrev CLK_GTC_STATUS_STEER : Fld := ⟨CLK_GTC_STATUS, 15, 0, 0⟩

/-- CLK_SRC_STATUS (R575, 32 bits). -/
abbrev CLK_SRC_STATUS : Nat := 0x0108000C
abbrev CLK_SRC_STATUS_LINK_PHY : Fld := ⟨CLK_SRC_STATUS, 9, 4, 0⟩
abbrev CLK_SRC_STATUS_MPORT : Fld := ⟨CLK_SRC_STATUS, 3, 3, 0⟩
abbrev CLK_SRC_STATUS_SPINE : Fld := ⟨CLK_SRC_STATUS, 2, 2, 0⟩
abbrev CLK_SRC_STATUS_KEEPER : Fld := ⟨CLK_SRC_STATUS, 1, 1, 0⟩
abbrev CLK_SRC_STATUS_REF : Fld := ⟨CLK_SRC_STATUS, 0, 0, 0⟩

/-- CLK_COPY_COUNTS (R576, 64 bits). -/
abbrev CLK_COPY_COUNTS : Nat := 0x01080010
abbrev CLK_COPY_COUNTS_CLUSTER : Fld := ⟨CLK_COPY_COUNTS, 63, 48, 0⟩
abbrev CLK_COPY_COUNTS_SPINE : Fld := ⟨CLK_COPY_COUNTS, 47, 32, 0⟩
abbrev CLK_COPY_COUNTS_OTHER : Fld := ⟨CLK_COPY_COUNTS, 31, 16, 0⟩
abbrev CLK_COPY_COUNTS_STALE : Fld := ⟨CLK_COPY_COUNTS, 15, 0, 0⟩

/-- WAT_CTRL (R138, 32 bits). -/
abbrev WAT_CTRL : Nat := 0x010A0000
abbrev WAT_CTRL_EVENT_VEC : Fld := ⟨WAT_CTRL, 31, 20, 0⟩
abbrev WAT_CTRL_HANDOFF_NOW : Fld := ⟨WAT_CTRL, 11, 11, 0⟩
abbrev WAT_CTRL_WAKE_ON_TRAP : Fld := ⟨WAT_CTRL, 10, 10, 1⟩
abbrev WAT_CTRL_EVENT_PIN : Fld := ⟨WAT_CTRL, 9, 9, 0⟩
abbrev WAT_CTRL_ARM : Fld := ⟨WAT_CTRL, 8, 8, 0⟩
abbrev WAT_CTRL_RUN : Fld := ⟨WAT_CTRL, 0, 0, 1⟩

/-- WAT_STATUS (R139, 32 bits). -/
abbrev WAT_STATUS : Nat := 0x010A0004
abbrev WAT_STATUS_PROG_STATE : Fld := ⟨WAT_STATUS, 15, 12, 0⟩
abbrev WAT_STATUS_SEQ_STATE : Fld := ⟨WAT_STATUS, 11, 9, 0⟩
abbrev WAT_STATUS_PORT_DOWN : Fld := ⟨WAT_STATUS, 8, 8, 0⟩
abbrev WAT_STATUS_KEEP_B : Fld := ⟨WAT_STATUS, 7, 7, 0⟩
abbrev WAT_STATUS_KEEP_A : Fld := ⟨WAT_STATUS, 6, 6, 0⟩
abbrev WAT_STATUS_HOLD_OVF : Fld := ⟨WAT_STATUS, 5, 5, 0⟩
abbrev WAT_STATUS_HELD : Fld := ⟨WAT_STATUS, 3, 0, 0⟩

/-- WAT_FRAME_PERIOD (R140, 32 bits). -/
abbrev WAT_FRAME_PERIOD : Nat := 0x010A0008
abbrev WAT_FRAME_PERIOD_TICKS : Fld := ⟨WAT_FRAME_PERIOD, 31, 0, 0x2faf080⟩

/-- WAT_FRAME_WINDOW (R140, 32 bits). -/
abbrev WAT_FRAME_WINDOW : Nat := 0x010A000C
abbrev WAT_FRAME_WINDOW_TICKS : Fld := ⟨WAT_FRAME_WINDOW, 31, 0, 0x1e8480⟩

/-- WAT_FRAME_FORMAT (R141, 32 bits). -/
abbrev WAT_FRAME_FORMAT : Nat := 0x010A0010
abbrev WAT_FRAME_FORMAT_VC : Fld := ⟨WAT_FRAME_FORMAT, 31, 30, 0⟩
abbrev WAT_FRAME_FORMAT_DT : Fld := ⟨WAT_FRAME_FORMAT, 29, 24, 0x2a⟩
abbrev WAT_FRAME_FORMAT_LANES : Fld := ⟨WAT_FRAME_FORMAT, 23, 23, 1⟩
abbrev WAT_FRAME_FORMAT_BIN : Fld := ⟨WAT_FRAME_FORMAT, 22, 21, 0⟩
abbrev WAT_FRAME_FORMAT_WIDTH : Fld := ⟨WAT_FRAME_FORMAT, 20, 10, 0xa0⟩
abbrev WAT_FRAME_FORMAT_HEIGHT : Fld := ⟨WAT_FRAME_FORMAT, 9, 0, 0x78⟩

/-- WAT_FRAME_BUF (R142, 32 bits). -/
abbrev WAT_FRAME_BUF : Nat := 0x010A0014
abbrev WAT_FRAME_BUF_BUF_B : Fld := ⟨WAT_FRAME_BUF, 27, 16, 0x800⟩
abbrev WAT_FRAME_BUF_BUF_A : Fld := ⟨WAT_FRAME_BUF, 11, 0, 0x400⟩

/-- WAT_PROG_BUDGET (R140, 32 bits). -/
abbrev WAT_PROG_BUDGET : Nat := 0x010A0018
abbrev WAT_PROG_BUDGET_CYCLES : Fld := ⟨WAT_PROG_BUDGET, 31, 0, 0x989680⟩

/-- WAT_TRIGGER (R143, 32 bits). -/
abbrev WAT_TRIGGER (i : Nat) : Nat := 0x010A0020 + 0x4 * i
abbrev WAT_TRIGGER_VALID (i : Nat) : Fld := ⟨WAT_TRIGGER i, 31, 31, 0⟩
abbrev WAT_TRIGGER_ADDR (i : Nat) : Fld := ⟨WAT_TRIGGER i, 30, 24, 0⟩
abbrev WAT_TRIGGER_REG (i : Nat) : Fld := ⟨WAT_TRIGGER i, 23, 8, 0⟩
abbrev WAT_TRIGGER_DATA (i : Nat) : Fld := ⟨WAT_TRIGGER i, 7, 0, 0⟩

/-- WAT_LANE (R144, 32 bits). -/
abbrev WAT_LANE : Nat := 0x010A0030
abbrev WAT_LANE_FORCE : Fld := ⟨WAT_LANE, 31, 31, 0⟩
abbrev WAT_LANE_REVERSED_CABLE : Fld := ⟨WAT_LANE, 27, 27, 0⟩
abbrev WAT_LANE_ORDER_SWAP : Fld := ⟨WAT_LANE, 26, 26, 0⟩
abbrev WAT_LANE_INV_CK : Fld := ⟨WAT_LANE, 25, 25, 0⟩
abbrev WAT_LANE_INV_D1 : Fld := ⟨WAT_LANE, 24, 24, 0⟩
abbrev WAT_LANE_INV_D0 : Fld := ⟨WAT_LANE, 23, 23, 0⟩
abbrev WAT_LANE_CK_ST : Fld := ⟨WAT_LANE, 19, 16, 5⟩
abbrev WAT_LANE_D1_ST : Fld := ⟨WAT_LANE, 15, 12, 5⟩
abbrev WAT_LANE_D0_ST : Fld := ⟨WAT_LANE, 11, 8, 5⟩
abbrev WAT_LANE_USABLE : Fld := ⟨WAT_LANE, 1, 0, 0⟩

/-- WAT_WAKE_CTRL (R145, 32 bits). -/
abbrev WAT_WAKE_CTRL : Nat := 0x010A0040
abbrev WAT_WAKE_CTRL_DEBOUNCE : Fld := ⟨WAT_WAKE_CTRL, 31, 20, 0x64⟩
abbrev WAT_WAKE_CTRL_STUCK_S : Fld := ⟨WAT_WAKE_CTRL, 19, 12, 0xa⟩
abbrev WAT_WAKE_CTRL_STUCK : Fld := ⟨WAT_WAKE_CTRL, 7, 7, 0⟩
abbrev WAT_WAKE_CTRL_POLARITY : Fld := ⟨WAT_WAKE_CTRL, 6, 6, 0⟩
abbrev WAT_WAKE_CTRL_WAKE_IN_EN : Fld := ⟨WAT_WAKE_CTRL, 5, 5, 1⟩

/-- WAT_WAKE_INFO (R146, 32 bits). -/
abbrev WAT_WAKE_INFO : Nat := 0x010A0044
abbrev WAT_WAKE_INFO_SEQ : Fld := ⟨WAT_WAKE_INFO, 31, 24, 0⟩
abbrev WAT_WAKE_INFO_REASON : Fld := ⟨WAT_WAKE_INFO, 23, 16, 0⟩
abbrev WAT_WAKE_INFO_CAUSE : Fld := ⟨WAT_WAKE_INFO, 15, 12, 0⟩
abbrev WAT_WAKE_INFO_PENDING : Fld := ⟨WAT_WAKE_INFO, 0, 0, 0⟩

/-- WAT_WAKE_STAMP (R146, 64 bits). -/
abbrev WAT_WAKE_STAMP : Nat := 0x010A0048
abbrev WAT_WAKE_STAMP_STAMP : Fld := ⟨WAT_WAKE_STAMP, 63, 0, 0⟩

/-- WAT_HANDOFF_BASE (R147, 64 bits). -/
abbrev WAT_HANDOFF_BASE : Nat := 0x010A0050
abbrev WAT_HANDOFF_BASE_BASE : Fld := ⟨WAT_HANDOFF_BASE, 51, 17, 0⟩
abbrev WAT_HANDOFF_BASE_CID : Fld := ⟨WAT_HANDOFF_BASE, 16, 7, 0⟩
abbrev WAT_HANDOFF_BASE_VALID : Fld := ⟨WAT_HANDOFF_BASE, 0, 0, 0⟩

/-- WAT_COUNTS (R148, 64 bits). -/
abbrev WAT_COUNTS : Nat := 0x010A0060
abbrev WAT_COUNTS_ERRORS : Fld := ⟨WAT_COUNTS, 63, 48, 0⟩
abbrev WAT_COUNTS_SKIPPED : Fld := ⟨WAT_COUNTS, 47, 32, 0⟩
abbrev WAT_COUNTS_FRAMES : Fld := ⟨WAT_COUNTS, 31, 0, 0⟩

/-- OBJ_CMD (R187, 32 bits). -/
abbrev OBJ_CMD : Nat := 0x01020000
abbrev OBJ_CMD_OPCODE : Fld := ⟨OBJ_CMD, 31, 24, 0⟩
abbrev OBJ_CMD_OPERAND : Fld := ⟨OBJ_CMD, 23, 0, 0⟩

/-- OBJ_CMD_STATUS (R188, 32 bits). -/
abbrev OBJ_CMD_STATUS : Nat := 0x01020004
abbrev OBJ_CMD_STATUS_BUSY : Fld := ⟨OBJ_CMD_STATUS, 31, 31, 0⟩
abbrev OBJ_CMD_STATUS_OVERRUN : Fld := ⟨OBJ_CMD_STATUS, 30, 30, 0⟩
abbrev OBJ_CMD_STATUS_RESULT : Fld := ⟨OBJ_CMD_STATUS, 23, 16, 0⟩
abbrev OBJ_CMD_STATUS_RESULT_DATA : Fld := ⟨OBJ_CMD_STATUS, 15, 0, 0⟩

/-- OBJ_CMD_ARG (R189, 64 bits). -/
abbrev OBJ_CMD_ARG (i : Nat) : Nat := 0x01020008 + 0x8 * i
abbrev OBJ_CMD_ARG_ARG (i : Nat) : Fld := ⟨OBJ_CMD_ARG i, 63, 0, 0⟩

/-- OBJ_TABLE_BASE (R190, 64 bits). -/
abbrev OBJ_TABLE_BASE : Nat := 0x01020018
abbrev OBJ_TABLE_BASE_BASE : Fld := ⟨OBJ_TABLE_BASE, 51, 12, 0⟩
abbrev OBJ_TABLE_BASE_SIZE_LOG2 : Fld := ⟨OBJ_TABLE_BASE, 4, 0, 8⟩

/-- OBJ_QTABLE_BASE (R191, 64 bits). -/
abbrev OBJ_QTABLE_BASE : Nat := 0x01020020
abbrev OBJ_QTABLE_BASE_BASE : Fld := ⟨OBJ_QTABLE_BASE, 51, 21, 0⟩

/-- OBJ_DRIVER_CID (R192, 32 bits). -/
abbrev OBJ_DRIVER_CID : Nat := 0x01020028
abbrev OBJ_DRIVER_CID_CID : Fld := ⟨OBJ_DRIVER_CID, 9, 0, 0⟩

/-- OBJ_DRAIN_LIMIT (R192, 32 bits). -/
abbrev OBJ_DRAIN_LIMIT : Nat := 0x0102002C
abbrev OBJ_DRAIN_LIMIT_TICKS : Fld := ⟨OBJ_DRAIN_LIMIT, 31, 0, 0x186a0⟩

/-- OBJ_WAIT_USE (R193, 32 bits). -/
abbrev OBJ_WAIT_USE : Nat := 0x01020030
abbrev OBJ_WAIT_USE_HOST_WAITS : Fld := ⟨OBJ_WAIT_USE, 31, 16, 0⟩
abbrev OBJ_WAIT_USE_QUEUE_WAITS : Fld := ⟨OBJ_WAIT_USE, 15, 0, 0⟩

/-- OBJ_COUNTS (R194, 64 bits). -/
abbrev OBJ_COUNTS : Nat := 0x01020038
abbrev OBJ_COUNTS_STRAY_DB : Fld := ⟨OBJ_COUNTS, 63, 32, 0⟩
abbrev OBJ_COUNTS_FENCE_DISCARD : Fld := ⟨OBJ_COUNTS, 31, 0, 0⟩

/-- OBJ_PART_CFG (R195, 64 bits). -/
abbrev OBJ_PART_CFG (i : Nat) : Nat := 0x01020200 + 0x8 * i
abbrev OBJ_PART_CFG_VALID (i : Nat) : Fld := ⟨OBJ_PART_CFG i, 63, 63, 0⟩
abbrev OBJ_PART_CFG_SEALED (i : Nat) : Fld := ⟨OBJ_PART_CFG i, 62, 62, 0⟩
abbrev OBJ_PART_CFG_CTX_LIMIT (i : Nat) : Fld := ⟨OBJ_PART_CFG i, 42, 32, 0⟩
abbrev OBJ_PART_CFG_BASIN_SCRATCH (i : Nat) : Fld := ⟨OBJ_PART_CFG i, 22, 16, 0⟩
abbrev OBJ_PART_CFG_CLUSTERS (i : Nat) : Fld := ⟨OBJ_PART_CFG i, 15, 0, 0⟩

/-- OBJ_CTX_STATE (R196, 32 bits). -/
abbrev OBJ_CTX_STATE (i : Nat) : Nat := 0x01020400 + 0x4 * i
abbrev OBJ_CTX_STATE_STATES (i : Nat) : Fld := ⟨OBJ_CTX_STATE i, 31, 0, 0⟩

/-- OBJ_GROUP_OWNER (R197, 32 bits). -/
abbrev OBJ_GROUP_OWNER (i : Nat) : Nat := 0x01021000 + 0x4 * i
abbrev OBJ_GROUP_OWNER_BOUND_HI (i : Nat) : Fld := ⟨OBJ_GROUP_OWNER i, 31, 31, 0⟩
abbrev OBJ_GROUP_OWNER_CID_HI (i : Nat) : Fld := ⟨OBJ_GROUP_OWNER i, 25, 16, 0⟩
abbrev OBJ_GROUP_OWNER_BOUND_LO (i : Nat) : Fld := ⟨OBJ_GROUP_OWNER i, 15, 15, 0⟩
abbrev OBJ_GROUP_OWNER_CID_LO (i : Nat) : Fld := ⟨OBJ_GROUP_OWNER i, 9, 0, 0⟩

/-- OBJ_QUEUE_STATE (R198, 32 bits). -/
abbrev OBJ_QUEUE_STATE (i : Nat) : Nat := 0x01028000 + 0x4 * i
abbrev OBJ_QUEUE_STATE_STATES (i : Nat) : Fld := ⟨OBJ_QUEUE_STATE i, 31, 0, 0⟩

/-- DSP_CTRL (R271, 32 bits). -/
abbrev DSP_CTRL : Nat := 0x01010000
abbrev DSP_CTRL_HOLD : Fld := ⟨DSP_CTRL, 0, 0, 0⟩

/-- DSP_SHARE_BURST (R272, 32 bits). -/
abbrev DSP_SHARE_BURST : Nat := 0x01010004
abbrev DSP_SHARE_BURST_TT : Fld := ⟨DSP_SHARE_BURST, 31, 0, 0x186a0⟩

/-- DSP_CLAIM_IDLE (R272, 32 bits). -/
abbrev DSP_CLAIM_IDLE : Nat := 0x01010008
abbrev DSP_CLAIM_IDLE_TICKS : Fld := ⟨DSP_CLAIM_IDLE, 31, 0, 0x186a0⟩

/-- DSP_FENCE_LIMIT (R272, 32 bits). -/
abbrev DSP_FENCE_LIMIT : Nat := 0x0101000C
abbrev DSP_FENCE_LIMIT_TICKS : Fld := ⟨DSP_FENCE_LIMIT, 31, 0, 0x186a0⟩

/-- DSP_MISS_COUNTS (R273, 64 bits). -/
abbrev DSP_MISS_COUNTS : Nat := 0x01010010
abbrev DSP_MISS_COUNTS_START_MISS : Fld := ⟨DSP_MISS_COUNTS, 63, 32, 0⟩
abbrev DSP_MISS_COUNTS_FINISH_MISS : Fld := ⟨DSP_MISS_COUNTS, 31, 0, 0⟩

/-- DSP_BUDGET_COUNTS (R273, 64 bits). -/
abbrev DSP_BUDGET_COUNTS : Nat := 0x01010018
abbrev DSP_BUDGET_COUNTS_OVERRUN : Fld := ⟨DSP_BUDGET_COUNTS, 63, 32, 0⟩
abbrev DSP_BUDGET_COUNTS_HARD : Fld := ⟨DSP_BUDGET_COUNTS, 31, 0, 0⟩

/-- DSP_SWAP_COUNTS (R273, 64 bits). -/
abbrev DSP_SWAP_COUNTS : Nat := 0x01010020
abbrev DSP_SWAP_COUNTS_SWAP_FULL : Fld := ⟨DSP_SWAP_COUNTS, 63, 48, 0⟩
abbrev DSP_SWAP_COUNTS_CLAIM_LAPSE : Fld := ⟨DSP_SWAP_COUNTS, 47, 32, 0⟩
abbrev DSP_SWAP_COUNTS_SWITCH_OUT : Fld := ⟨DSP_SWAP_COUNTS, 31, 0, 0⟩

/-- DSP_DISPATCHED (R274, 64 bits). -/
abbrev DSP_DISPATCHED : Nat := 0x01010028
abbrev DSP_DISPATCHED_COUNT : Fld := ⟨DSP_DISPATCHED, 63, 0, 0⟩

/-- DSP_SCHED_CLEAR (R275, 32 bits). -/
abbrev DSP_SCHED_CLEAR : Nat := 0x01010030
abbrev DSP_SCHED_CLEAR_CLEAR : Fld := ⟨DSP_SCHED_CLEAR, 0, 0, 0⟩

/-- DSP_SWAP_CFG (R276, 64 bits). -/
abbrev DSP_SWAP_CFG (i : Nat) : Nat := 0x01010100 + 0x8 * i
abbrev DSP_SWAP_CFG_BASE (i : Nat) : Fld := ⟨DSP_SWAP_CFG i, 51, 21, 0⟩
abbrev DSP_SWAP_CFG_CID (i : Nat) : Fld := ⟨DSP_SWAP_CFG i, 17, 8, 0⟩
abbrev DSP_SWAP_CFG_SLOTS (i : Nat) : Fld := ⟨DSP_SWAP_CFG i, 7, 0, 0⟩

/-- DSP_SWAP_USE (R277, 64 bits). -/
abbrev DSP_SWAP_USE (i : Nat) : Nat := 0x01010180 + 0x8 * i
abbrev DSP_SWAP_USE_SLOTS (i : Nat) : Fld := ⟨DSP_SWAP_USE i, 63, 0, 0⟩

/-- DSP_SWAP_OFF (R277, 32 bits). -/
abbrev DSP_SWAP_OFF : Nat := 0x01010190
abbrev DSP_SWAP_OFF_PARTS : Fld := ⟨DSP_SWAP_OFF, 15, 0, 0⟩

/-- DSP_TILE_STATE (R278, 32 bits). -/
abbrev DSP_TILE_STATE (i : Nat) : Nat := 0x01010400 + 0x4 * i
abbrev DSP_TILE_STATE_CLAIMED (i : Nat) : Fld := ⟨DSP_TILE_STATE i, 31, 31, 0⟩
abbrev DSP_TILE_STATE_CLAIM_QID (i : Nat) : Fld := ⟨DSP_TILE_STATE i, 30, 16, 0⟩
abbrev DSP_TILE_STATE_STATE (i : Nat) : Fld := ⟨DSP_TILE_STATE i, 15, 13, 0⟩
abbrev DSP_TILE_STATE_LAST_V (i : Nat) : Fld := ⟨DSP_TILE_STATE i, 10, 10, 0⟩
abbrev DSP_TILE_STATE_LAST_CID (i : Nat) : Fld := ⟨DSP_TILE_STATE i, 9, 0, 0⟩

/-- DSP_STAGE_USE (R231, 32 bits). -/
abbrev DSP_STAGE_USE : Nat := 0x01010800
abbrev DSP_STAGE_USE_CANCEL_USED : Fld := ⟨DSP_STAGE_USE, 28, 16, 0⟩
abbrev DSP_STAGE_USE_STAGE_USED : Fld := ⟨DSP_STAGE_USE, 8, 0, 0⟩

/-- DSP_SUBMIT_COUNTS (R232, 64 bits). -/
abbrev DSP_SUBMIT_COUNTS : Nat := 0x01010808
abbrev DSP_SUBMIT_COUNTS_CANCEL_DROP : Fld := ⟨DSP_SUBMIT_COUNTS, 63, 48, 0⟩
abbrev DSP_SUBMIT_COUNTS_CANCEL_MISS : Fld := ⟨DSP_SUBMIT_COUNTS, 47, 32, 0⟩
abbrev DSP_SUBMIT_COUNTS_STAGE_MISS : Fld := ⟨DSP_SUBMIT_COUNTS, 31, 16, 0⟩
abbrev DSP_SUBMIT_COUNTS_BAD_WIDTH : Fld := ⟨DSP_SUBMIT_COUNTS, 15, 0, 0⟩

/-- DSP_SUBMIT_CLEAR (R233, 32 bits). -/
abbrev DSP_SUBMIT_CLEAR : Nat := 0x01010810
abbrev DSP_SUBMIT_CLEAR_CLEAR : Fld := ⟨DSP_SUBMIT_CLEAR, 0, 0, 0⟩

/-- CLS_TILE_STATUS (R311, 32 bits). -/
abbrev CLS_TILE_STATUS (i : Nat) : Nat := 0x02000000 + 0x10000 * i
abbrev CLS_TILE_STATUS_CORE (i : Nat) : Fld := ⟨CLS_TILE_STATUS i, 31, 28, 0⟩
abbrev CLS_TILE_STATUS_BARGES (i : Nat) : Fld := ⟨CLS_TILE_STATUS i, 27, 23, 0⟩

/-- CLS_TILE_CTRL (R312, 32 bits). -/
abbrev CLS_TILE_CTRL (i : Nat) : Nat := 0x02000004 + 0x10000 * i
abbrev CLS_TILE_CTRL_CLEAR (i : Nat) : Fld := ⟨CLS_TILE_CTRL i, 1, 1, 0⟩
abbrev CLS_TILE_CTRL_ISTORE_FLUSH (i : Nat) : Fld := ⟨CLS_TILE_CTRL i, 0, 0, 0⟩

/-- CLS_TILE_EXC (R313, 64 bits). -/
abbrev CLS_TILE_EXC (i : Nat) : Nat := 0x02000008 + 0x10000 * i
abbrev CLS_TILE_EXC_PC (i : Nat) : Fld := ⟨CLS_TILE_EXC i, 63, 32, 0⟩
abbrev CLS_TILE_EXC_CID (i : Nat) : Fld := ⟨CLS_TILE_EXC i, 25, 16, 0⟩
abbrev CLS_TILE_EXC_CODE (i : Nat) : Fld := ⟨CLS_TILE_EXC i, 7, 0, 0⟩

/-- CLS_TILE_COUNTS (R314, 64 bits). -/
abbrev CLS_TILE_COUNTS (i : Nat) : Nat := 0x02000010 + 0x10000 * i
abbrev CLS_TILE_COUNTS_ECC_CORR (i : Nat) : Fld := ⟨CLS_TILE_COUNTS i, 63, 48, 0⟩
abbrev CLS_TILE_COUNTS_ISTORE_MISS (i : Nat) : Fld := ⟨CLS_TILE_COUNTS i, 47, 32, 0⟩
abbrev CLS_TILE_COUNTS_UNWRITTEN_READ (i : Nat) : Fld := ⟨CLS_TILE_COUNTS i, 31, 0, 0⟩

/-- CLS_FMAX (R577, 32 bits). -/
abbrev CLS_FMAX (i : Nat) : Nat := 0x02008000 + 0x40000 * i
abbrev CLS_FMAX_AGE_EXHAUSTED (i : Nat) : Fld := ⟨CLS_FMAX i, 31, 31, 0⟩
abbrev CLS_FMAX_AGE_STEPS (i : Nat) : Fld := ⟨CLS_FMAX i, 27, 24, 0⟩
abbrev CLS_FMAX_TEMPCO (i : Nat) : Fld := ⟨CLS_FMAX i, 21, 16, 0⟩
abbrev CLS_FMAX_BASE_CODE (i : Nat) : Fld := ⟨CLS_FMAX i, 15, 10, 0⟩
abbrev CLS_FMAX_FMAX_EFF (i : Nat) : Fld := ⟨CLS_FMAX i, 9, 5, 0⟩
abbrev CLS_FMAX_FMAX_FUSED (i : Nat) : Fld := ⟨CLS_FMAX i, 4, 0, 0⟩

/-- CLS_DFO_STATUS (R578, 32 bits). -/
abbrev CLS_DFO_STATUS (i : Nat) : Nat := 0x02008004 + 0x40000 * i
abbrev CLS_DFO_STATUS_MIN_CODE (i : Nat) : Fld := ⟨CLS_DFO_STATUS i, 31, 26, 0⟩
abbrev CLS_DFO_STATUS_FIXED (i : Nat) : Fld := ⟨CLS_DFO_STATUS i, 25, 25, 0⟩
abbrev CLS_DFO_STATUS_F_MEAS (i : Nat) : Fld := ⟨CLS_DFO_STATUS i, 23, 12, 0⟩
abbrev CLS_DFO_STATUS_F_T (i : Nat) : Fld := ⟨CLS_DFO_STATUS i, 11, 0, 0⟩

/-- CLS_MARGIN_CFG (R579, 32 bits). -/
abbrev CLS_MARGIN_CFG (i : Nat) : Nat := 0x02008008 + 0x40000 * i
abbrev CLS_MARGIN_CFG_RECOVER_T (i : Nat) : Fld := ⟨CLS_MARGIN_CFG i, 31, 16, 0x3e8⟩
abbrev CLS_MARGIN_CFG_MARGIN_CRIT (i : Nat) : Fld := ⟨CLS_MARGIN_CFG i, 13, 8, 3⟩
abbrev CLS_MARGIN_CFG_MARGIN_LO (i : Nat) : Fld := ⟨CLS_MARGIN_CFG i, 5, 0, 8⟩

/-- CLS_MARGIN (R580, 64 bits). -/
abbrev CLS_MARGIN (i : Nat) : Nat := 0x02008010 + 0x40000 * i
abbrev CLS_MARGIN_CODES (i : Nat) : Fld := ⟨CLS_MARGIN i, 47, 0, 0⟩

/-- CLS_DFO_COUNTS (R581, 64 bits). -/
abbrev CLS_DFO_COUNTS (i : Nat) : Nat := 0x02008018 + 0x40000 * i
abbrev CLS_DFO_COUNTS_DROOP (i : Nat) : Fld := ⟨CLS_DFO_COUNTS i, 63, 32, 0⟩
abbrev CLS_DFO_COUNTS_STEP_DOWN (i : Nat) : Fld := ⟨CLS_DFO_COUNTS i, 31, 16, 0⟩
abbrev CLS_DFO_COUNTS_CRIT (i : Nat) : Fld := ⟨CLS_DFO_COUNTS i, 15, 0, 0⟩

/-- XLT_INVAL (R452, 32 bits). -/
abbrev XLT_INVAL : Nat := 0x01030000
abbrev XLT_INVAL_CID : Fld := ⟨XLT_INVAL, 9, 0, 0⟩

/-- XLT_INVAL_SEQ (R452, 32 bits). -/
abbrev XLT_INVAL_SEQ : Nat := 0x01030004
abbrev XLT_INVAL_SEQ_SEQ : Fld := ⟨XLT_INVAL_SEQ, 31, 0, 0⟩

/-- XLT_INVAL_DONE (R452, 32 bits). -/
abbrev XLT_INVAL_DONE : Nat := 0x01030008
abbrev XLT_INVAL_DONE_SEQ : Fld := ⟨XLT_INVAL_DONE, 31, 0, 0⟩

/-- XLT_STATUS (R453, 32 bits). -/
abbrev XLT_STATUS : Nat := 0x0103000C
abbrev XLT_STATUS_INVAL_OVERRUN : Fld := ⟨XLT_STATUS, 31, 31, 0⟩
abbrev XLT_STATUS_FQ_BROKEN : Fld := ⟨XLT_STATUS, 30, 30, 0⟩
abbrev XLT_STATUS_PENDING : Fld := ⟨XLT_STATUS, 13, 0, 0⟩

/-- XLT_FQ_BASE (R454, 64 bits). -/
abbrev XLT_FQ_BASE : Nat := 0x01030010
abbrev XLT_FQ_BASE_BASE : Fld := ⟨XLT_FQ_BASE, 51, 12, 0⟩
abbrev XLT_FQ_BASE_SIZE_LOG2 : Fld := ⟨XLT_FQ_BASE, 3, 0, 0⟩

/-- XLT_FQ_HEAD (R455, 32 bits). -/
abbrev XLT_FQ_HEAD : Nat := 0x01030018
abbrev XLT_FQ_HEAD_INDEX : Fld := ⟨XLT_FQ_HEAD, 31, 0, 0⟩

/-- XLT_FQ_TAIL (R455, 32 bits). -/
abbrev XLT_FQ_TAIL : Nat := 0x0103001C
abbrev XLT_FQ_TAIL_INDEX : Fld := ⟨XLT_FQ_TAIL, 31, 0, 0⟩

/-- XLT_FQ_VEC (R455, 32 bits). -/
abbrev XLT_FQ_VEC : Nat := 0x01030020
abbrev XLT_FQ_VEC_EN : Fld := ⟨XLT_FQ_VEC, 15, 15, 0⟩
abbrev XLT_FQ_VEC_VEC : Fld := ⟨XLT_FQ_VEC, 11, 0, 0⟩

/-- XLT_FAULT_CMD (R456, 32 bits). -/
abbrev XLT_FAULT_CMD : Nat := 0x01030024
abbrev XLT_FAULT_CMD_OPCODE : Fld := ⟨XLT_FAULT_CMD, 31, 28, 0⟩
abbrev XLT_FAULT_CMD_TOKEN : Fld := ⟨XLT_FAULT_CMD, 15, 0, 0⟩

/-- XLT_FAULT_RESULT (R456, 32 bits). -/
abbrev XLT_FAULT_RESULT : Nat := 0x01030028
abbrev XLT_FAULT_RESULT_RESULT : Fld := ⟨XLT_FAULT_RESULT, 7, 0, 0⟩

/-- XLT_WALK_WEIR (R457, 32 bits). -/
abbrev XLT_WALK_WEIR : Nat := 0x01030030
abbrev XLT_WALK_WEIR_BURST : Fld := ⟨XLT_WALK_WEIR, 31, 16, 0x40⟩
abbrev XLT_WALK_WEIR_RATE : Fld := ⟨XLT_WALK_WEIR, 15, 0, 0x100⟩

/-- XLT_COUNTS (R458, 64 bits). -/
abbrev XLT_COUNTS : Nat := 0x01030038
abbrev XLT_COUNTS_WALKS : Fld := ⟨XLT_COUNTS, 63, 32, 0⟩
abbrev XLT_COUNTS_THROTTLED : Fld := ⟨XLT_COUNTS, 31, 16, 0⟩
abbrev XLT_COUNTS_HINT_SKIPPED : Fld := ⟨XLT_COUNTS, 15, 0, 0⟩

/-- XLT_TAG_CTRL (R459, 32 bits). -/
abbrev XLT_TAG_CTRL : Nat := 0x01030040
abbrev XLT_TAG_CTRL_REMOTE_OPEN : Fld := ⟨XLT_TAG_CTRL, 0, 0, 0⟩

/-- XLT_TAG_LO (R460, 64 bits). -/
abbrev XLT_TAG_LO (i : Nat) : Nat := 0x01030800 + 0x10 * i
abbrev XLT_TAG_LO_VALID (i : Nat) : Fld := ⟨XLT_TAG_LO i, 63, 63, 0⟩
abbrev XLT_TAG_LO_REMOTE (i : Nat) : Fld := ⟨XLT_TAG_LO i, 62, 62, 0⟩
abbrev XLT_TAG_LO_CACHE (i : Nat) : Fld := ⟨XLT_TAG_LO i, 61, 61, 0⟩
abbrev XLT_TAG_LO_KIND (i : Nat) : Fld := ⟨XLT_TAG_LO i, 60, 59, 0⟩
abbrev XLT_TAG_LO_BASE (i : Nat) : Fld := ⟨XLT_TAG_LO i, 42, 21, 0⟩
abbrev XLT_TAG_LO_PID (i : Nat) : Fld := ⟨XLT_TAG_LO i, 13, 10, 0⟩
abbrev XLT_TAG_LO_CID (i : Nat) : Fld := ⟨XLT_TAG_LO i, 9, 0, 0⟩

/-- XLT_TAG_HI (R460, 64 bits). -/
abbrev XLT_TAG_HI (i : Nat) : Nat := 0x01030808 + 0x10 * i
abbrev XLT_TAG_HI_LAST (i : Nat) : Fld := ⟨XLT_TAG_HI i, 42, 21, 0⟩

/-- XLT_SEG_V (R461, 64 bits). -/
abbrev XLT_SEG_V (i : Nat) : Nat := 0x01032000 + 0x10 * i
abbrev XLT_SEG_V_VALID (i : Nat) : Fld := ⟨XLT_SEG_V i, 63, 63, 0⟩
abbrev XLT_SEG_V_R (i : Nat) : Fld := ⟨XLT_SEG_V i, 62, 62, 0⟩
abbrev XLT_SEG_V_W (i : Nat) : Fld := ⟨XLT_SEG_V i, 61, 61, 0⟩
abbrev XLT_SEG_V_A (i : Nat) : Fld := ⟨XLT_SEG_V i, 60, 60, 0⟩
abbrev XLT_SEG_V_VBASE (i : Nat) : Fld := ⟨XLT_SEG_V i, 47, 21, 0⟩

/-- XLT_SEG_P (R461, 64 bits). -/
abbrev XLT_SEG_P (i : Nat) : Nat := 0x01032008 + 0x10 * i
abbrev XLT_SEG_P_PBASE (i : Nat) : Fld := ⟨XLT_SEG_P i, 51, 21, 0⟩
abbrev XLT_SEG_P_SIZE (i : Nat) : Fld := ⟨XLT_SEG_P i, 20, 0, 0⟩

/-- MSH_EPOCH (R494, 32 bits). -/
abbrev MSH_EPOCH : Nat := 0x01050000
abbrev MSH_EPOCH_INVALID : Fld := ⟨MSH_EPOCH, 8, 8, 0⟩
abbrev MSH_EPOCH_ABANDONED : Fld := ⟨MSH_EPOCH, 7, 7, 0⟩
abbrev MSH_EPOCH_STATE : Fld := ⟨MSH_EPOCH, 5, 4, 0⟩
abbrev MSH_EPOCH_SWITCH : Fld := ⟨MSH_EPOCH, 1, 1, 0⟩
abbrev MSH_EPOCH_CURRENT : Fld := ⟨MSH_EPOCH, 0, 0, 0⟩

/-- MSH_EPOCH_LIMIT (R495, 32 bits). -/
abbrev MSH_EPOCH_LIMIT : Nat := 0x01050004
abbrev MSH_EPOCH_LIMIT_TICKS : Fld := ⟨MSH_EPOCH_LIMIT, 31, 0, 0x2710⟩

/-- MSH_REQ_TIMEOUT (R495, 32 bits). -/
abbrev MSH_REQ_TIMEOUT : Nat := 0x01050008
abbrev MSH_REQ_TIMEOUT_TICKS : Fld := ⟨MSH_REQ_TIMEOUT, 31, 0, 0x30d40⟩

/-- MSH_SAMPLE_PERIOD (R495, 32 bits). -/
abbrev MSH_SAMPLE_PERIOD : Nat := 0x0105000C
abbrev MSH_SAMPLE_PERIOD_TICKS : Fld := ⟨MSH_SAMPLE_PERIOD, 31, 0, 0x186a0⟩

/-- MSH_COUNTS (R496, 64 bits). -/
abbrev MSH_COUNTS : Nat := 0x01050010
abbrev MSH_COUNTS_UNREACHABLE : Fld := ⟨MSH_COUNTS, 63, 48, 0⟩
abbrev MSH_COUNTS_ROUTE_ERR : Fld := ⟨MSH_COUNTS, 47, 32, 0⟩
abbrev MSH_COUNTS_LATE : Fld := ⟨MSH_COUNTS, 31, 16, 0⟩
abbrev MSH_COUNTS_TIMEOUTS : Fld := ⟨MSH_COUNTS, 15, 0, 0⟩

/-- MSH_PART_WEIR (R497, 64 bits). -/
abbrev MSH_PART_WEIR (i : Nat) : Nat := 0x01050100 + 0x8 * i
abbrev MSH_PART_WEIR_EN (i : Nat) : Fld := ⟨MSH_PART_WEIR i, 63, 63, 0⟩
abbrev MSH_PART_WEIR_RATE (i : Nat) : Fld := ⟨MSH_PART_WEIR i, 60, 48, 0⟩
abbrev MSH_PART_WEIR_BURST (i : Nat) : Fld := ⟨MSH_PART_WEIR i, 47, 32, 0⟩

/-- MSH_STOPMAP (R498, 64 bits). -/
abbrev MSH_STOPMAP (i : Nat) : Nat := 0x01050300 + 0x8 * i
abbrev MSH_STOPMAP_BS3 (i : Nat) : Fld := ⟨MSH_STOPMAP i, 61, 56, 0x1d⟩
abbrev MSH_STOPMAP_BS2 (i : Nat) : Fld := ⟨MSH_STOPMAP i, 53, 48, 0x17⟩
abbrev MSH_STOPMAP_BS1 (i : Nat) : Fld := ⟨MSH_STOPMAP i, 45, 40, 0x11⟩
abbrev MSH_STOPMAP_BS0 (i : Nat) : Fld := ⟨MSH_STOPMAP i, 37, 32, 0xb⟩
abbrev MSH_STOPMAP_MP3 (i : Nat) : Fld := ⟨MSH_STOPMAP i, 29, 24, 0x18⟩
abbrev MSH_STOPMAP_MP2 (i : Nat) : Fld := ⟨MSH_STOPMAP i, 21, 16, 0x12⟩
abbrev MSH_STOPMAP_MP1 (i : Nat) : Fld := ⟨MSH_STOPMAP i, 13, 8, 0xc⟩
abbrev MSH_STOPMAP_MP0 (i : Nat) : Fld := ⟨MSH_STOPMAP i, 5, 0, 6⟩

/-- MSH_DIEMAP (R499, 32 bits). -/
abbrev MSH_DIEMAP (i j : Nat) : Nat := 0x01050800 + 0x100 * i + 0x4 * j
abbrev MSH_DIEMAP_PORTS (i j : Nat) : Fld := ⟨MSH_DIEMAP i j, 31, 0, 0xffffffff⟩

/-- MSH_RT (R500, 64 bits). -/
abbrev MSH_RT (i j k : Nat) : Nat := 0x01051000 + 0x400 * i + 0x120 * j + 0x8 * k
abbrev MSH_RT_HOPS (i j k : Nat) : Fld := ⟨MSH_RT i j k, 36, 32, 0⟩
abbrev MSH_RT_ROUTE (i j k : Nat) : Fld := ⟨MSH_RT i j k, 31, 0, 0⟩

/-- MSH_PROBE (R501, 64 bits). -/
abbrev MSH_PROBE (i j : Nat) : Nat := 0x01051280 + 0x400 * i + 0x8 * j
abbrev MSH_PROBE_FLITS (i j : Nat) : Fld := ⟨MSH_PROBE i j, 63, 32, 0⟩
abbrev MSH_PROBE_STALLS (i j : Nat) : Fld := ⟨MSH_PROBE i j, 31, 0, 0⟩

/-- MSH_PROBE_FILT (R501, 64 bits). -/
abbrev MSH_PROBE_FILT (i : Nat) : Nat := 0x010512A8 + 0x400 * i
abbrev MSH_PROBE_FILT_EN (i : Nat) : Fld := ⟨MSH_PROBE_FILT i, 63, 63, 0⟩
abbrev MSH_PROBE_FILT_USE_CID (i : Nat) : Fld := ⟨MSH_PROBE_FILT i, 62, 62, 0⟩
abbrev MSH_PROBE_FILT_USE_SRC (i : Nat) : Fld := ⟨MSH_PROBE_FILT i, 61, 61, 0⟩
abbrev MSH_PROBE_FILT_VN (i : Nat) : Fld := ⟨MSH_PROBE_FILT i, 57, 56, 0⟩
abbrev MSH_PROBE_FILT_CH (i : Nat) : Fld := ⟨MSH_PROBE_FILT i, 55, 54, 0⟩
abbrev MSH_PROBE_FILT_SRC (i : Nat) : Fld := ⟨MSH_PROBE_FILT i, 45, 40, 0⟩
abbrev MSH_PROBE_FILT_UNIT (i : Nat) : Fld := ⟨MSH_PROBE_FILT i, 39, 38, 0⟩
abbrev MSH_PROBE_FILT_CID (i : Nat) : Fld := ⟨MSH_PROBE_FILT i, 9, 0, 0⟩

/-- MSH_PROBE_MATCH (R501, 64 bits). -/
abbrev MSH_PROBE_MATCH (i : Nat) : Nat := 0x010512B0 + 0x400 * i
abbrev MSH_PROBE_MATCH_COUNT (i : Nat) : Fld := ⟨MSH_PROBE_MATCH i, 31, 0, 0⟩

/-- MSH_WEIR (R502, 64 bits). -/
abbrev MSH_WEIR (i j k : Nat) : Nat := 0x01051300 + 0x400 * i + 0x20 * j + 0x8 * k
abbrev MSH_WEIR_EN (i j k : Nat) : Fld := ⟨MSH_WEIR i j k, 63, 63, 0⟩
abbrev MSH_WEIR_RATE (i j k : Nat) : Fld := ⟨MSH_WEIR i j k, 60, 48, 0⟩
abbrev MSH_WEIR_BURST (i j k : Nat) : Fld := ⟨MSH_WEIR i j k, 47, 32, 0⟩
abbrev MSH_WEIR_CREDIT (i j k : Nat) : Fld := ⟨MSH_WEIR i j k, 31, 0, 0⟩

/-- MSH_INIT_OUT (R503, 64 bits). -/
abbrev MSH_INIT_OUT (i j : Nat) : Nat := 0x01051380 + 0x400 * i + 0x20 * j
abbrev MSH_INIT_OUT_BYTES_OUT (i j : Nat) : Fld := ⟨MSH_INIT_OUT i j, 47, 0, 0⟩

/-- MSH_INIT_IN (R503, 64 bits). -/
abbrev MSH_INIT_IN (i j : Nat) : Nat := 0x01051388 + 0x400 * i + 0x20 * j
abbrev MSH_INIT_IN_BYTES_IN (i j : Nat) : Fld := ⟨MSH_INIT_IN i j, 47, 0, 0⟩

/-- MSH_INIT_ERR (R503, 64 bits). -/
abbrev MSH_INIT_ERR (i j : Nat) : Nat := 0x01051390 + 0x400 * i + 0x20 * j
abbrev MSH_INIT_ERR_HELD (i j : Nat) : Fld := ⟨MSH_INIT_ERR i j, 63, 32, 0⟩
abbrev MSH_INIT_ERR_TIMEOUTS (i j : Nat) : Fld := ⟨MSH_INIT_ERR i j, 31, 16, 0⟩
abbrev MSH_INIT_ERR_ERRORS (i j : Nat) : Fld := ⟨MSH_INIT_ERR i j, 15, 0, 0⟩

/-- LNK_PORT_CTRL (R537, 32 bits). -/
abbrev LNK_PORT_CTRL (i : Nat) : Nat := 0x01060000 + 0x1000 * i
abbrev LNK_PORT_CTRL_DIM (i : Nat) : Fld := ⟨LNK_PORT_CTRL i, 7, 6, 3⟩
abbrev LNK_PORT_CTRL_MIN_WIDTH (i : Nat) : Fld := ⟨LNK_PORT_CTRL i, 5, 4, 0⟩
abbrev LNK_PORT_CTRL_DATELINE (i : Nat) : Fld := ⟨LNK_PORT_CTRL i, 3, 3, 0⟩
abbrev LNK_PORT_CTRL_CHECK_PEER (i : Nat) : Fld := ⟨LNK_PORT_CTRL i, 2, 2, 0⟩
abbrev LNK_PORT_CTRL_RETRAIN (i : Nat) : Fld := ⟨LNK_PORT_CTRL i, 1, 1, 0⟩
abbrev LNK_PORT_CTRL_EN (i : Nat) : Fld := ⟨LNK_PORT_CTRL i, 0, 0, 0⟩

/-- LNK_PORT_STATUS (R538, 32 bits). -/
abbrev LNK_PORT_STATUS (i : Nat) : Nat := 0x01060004 + 0x1000 * i
abbrev LNK_PORT_STATUS_INV (i : Nat) : Fld := ⟨LNK_PORT_STATUS i, 31, 24, 0⟩
abbrev LNK_PORT_STATUS_LANE_OK (i : Nat) : Fld := ⟨LNK_PORT_STATUS i, 23, 16, 0⟩
abbrev LNK_PORT_STATUS_SECURE (i : Nat) : Fld := ⟨LNK_PORT_STATUS i, 15, 15, 0⟩
abbrev LNK_PORT_STATUS_REVERSED (i : Nat) : Fld := ⟨LNK_PORT_STATUS i, 14, 14, 0⟩
abbrev LNK_PORT_STATUS_WIDTH (i : Nat) : Fld := ⟨LNK_PORT_STATUS i, 13, 12, 0⟩
abbrev LNK_PORT_STATUS_STATE (i : Nat) : Fld := ⟨LNK_PORT_STATUS i, 3, 0, 0⟩

/-- LNK_PEER (R539, 32 bits). -/
abbrev LNK_PEER (i : Nat) : Nat := 0x01060008 + 0x1000 * i
abbrev LNK_PEER_VALID (i : Nat) : Fld := ⟨LNK_PEER i, 31, 31, 0⟩
abbrev LNK_PEER_PEER_PORT (i : Nat) : Fld := ⟨LNK_PEER i, 18, 16, 0⟩
abbrev LNK_PEER_PEER_DIE (i : Nat) : Fld := ⟨LNK_PEER i, 8, 0, 0⟩

/-- LNK_EXPECT (R539, 32 bits). -/
abbrev LNK_EXPECT (i : Nat) : Nat := 0x0106000C + 0x1000 * i
abbrev LNK_EXPECT_PORT (i : Nat) : Fld := ⟨LNK_EXPECT i, 18, 16, 0⟩
abbrev LNK_EXPECT_DIE (i : Nat) : Fld := ⟨LNK_EXPECT i, 8, 0, 0⟩

/-- LNK_LL_COUNTS (R539, 64 bits). -/
abbrev LNK_LL_COUNTS (i : Nat) : Nat := 0x01060010 + 0x1000 * i
abbrev LNK_LL_COUNTS_REPLAYS (i : Nat) : Fld := ⟨LNK_LL_COUNTS i, 63, 32, 0⟩
abbrev LNK_LL_COUNTS_CRC_ERR (i : Nat) : Fld := ⟨LNK_LL_COUNTS i, 31, 16, 0⟩
abbrev LNK_LL_COUNTS_DUP_FRAMES (i : Nat) : Fld := ⟨LNK_LL_COUNTS i, 15, 0, 0⟩

/-- LNK_FEC_COUNTS (R539, 64 bits). -/
abbrev LNK_FEC_COUNTS (i : Nat) : Nat := 0x01060018 + 0x1000 * i
abbrev LNK_FEC_COUNTS_CORRECTED (i : Nat) : Fld := ⟨LNK_FEC_COUNTS i, 63, 16, 0⟩
abbrev LNK_FEC_COUNTS_UNCORR (i : Nat) : Fld := ⟨LNK_FEC_COUNTS i, 15, 0, 0⟩

/-- LNK_TX_BYTES (R539, 64 bits). -/
abbrev LNK_TX_BYTES (i : Nat) : Nat := 0x01060020 + 0x1000 * i
abbrev LNK_TX_BYTES_BYTES (i : Nat) : Fld := ⟨LNK_TX_BYTES i, 47, 0, 0⟩

/-- LNK_RX_BYTES (R539, 64 bits). -/
abbrev LNK_RX_BYTES (i : Nat) : Nat := 0x01060028 + 0x1000 * i
abbrev LNK_RX_BYTES_BYTES (i : Nat) : Fld := ⟨LNK_RX_BYTES i, 47, 0, 0⟩

/-- LNK_TIME_OFFSET (R539, 32 bits). -/
abbrev LNK_TIME_OFFSET (i : Nat) : Nat := 0x01060030 + 0x1000 * i
abbrev LNK_TIME_OFFSET_OFFSET (i : Nat) : Fld := ⟨LNK_TIME_OFFSET i, 31, 0, 0⟩

/-- LNK_RTT (R539, 32 bits). -/
abbrev LNK_RTT (i : Nat) : Nat := 0x01060034 + 0x1000 * i
abbrev LNK_RTT_RTT (i : Nat) : Fld := ⟨LNK_RTT i, 31, 0, 0⟩

/-- LNK_DIE (R540, 32 bits). -/
abbrev LNK_DIE : Nat := 0x01068000
abbrev LNK_DIE_DIE : Fld := ⟨LNK_DIE, 8, 0, 0⟩

/-- LNK_CTRL (R540, 32 bits). -/
abbrev LNK_CTRL : Nat := 0x01068004
abbrev LNK_CTRL_TTL_INIT : Fld := ⟨LNK_CTRL, 4, 0, 0x10⟩

/-- LNK_ACK_TIMEOUT (R540, 32 bits). -/
abbrev LNK_ACK_TIMEOUT : Nat := 0x01068008
abbrev LNK_ACK_TIMEOUT_TICKS : Fld := ⟨LNK_ACK_TIMEOUT, 31, 0, 0x7d0⟩

/-- LNK_PEER_TIMEOUT (R540, 32 bits). -/
abbrev LNK_PEER_TIMEOUT : Nat := 0x0106800C
abbrev LNK_PEER_TIMEOUT_TICKS : Fld := ⟨LNK_PEER_TIMEOUT, 31, 0, 0x3e8⟩

/-- LNK_RESEND_T (R540, 32 bits). -/
abbrev LNK_RESEND_T : Nat := 0x01068010
abbrev LNK_RESEND_T_TICKS : Fld := ⟨LNK_RESEND_T, 31, 0, 0x9c40⟩

/-- LNK_RED_WAIT (R540, 32 bits). -/
abbrev LNK_RED_WAIT : Nat := 0x01068014
abbrev LNK_RED_WAIT_TICKS : Fld := ⟨LNK_RED_WAIT, 31, 0, 0x7d0⟩

/-- LNK_AMO_BASE (R540, 64 bits). -/
abbrev LNK_AMO_BASE : Nat := 0x01068018
abbrev LNK_AMO_BASE_BASE : Fld := ⟨LNK_AMO_BASE, 51, 25, 0⟩
abbrev LNK_AMO_BASE_VALID : Fld := ⟨LNK_AMO_BASE, 0, 0, 0⟩

/-- LNK_ADMIT (R540, 32 bits). -/
abbrev LNK_ADMIT : Nat := 0x01068020
abbrev LNK_ADMIT_REQUIRE_ENC : Fld := ⟨LNK_ADMIT, 0, 0, 0⟩

/-- LNK_TIME_CTRL (R540, 32 bits). -/
abbrev LNK_TIME_CTRL : Nat := 0x01068028
abbrev LNK_TIME_CTRL_STATE : Fld := ⟨LNK_TIME_CTRL, 10, 8, 0⟩
abbrev LNK_TIME_CTRL_UPSTREAM : Fld := ⟨LNK_TIME_CTRL, 6, 4, 0⟩
abbrev LNK_TIME_CTRL_ROLE : Fld := ⟨LNK_TIME_CTRL, 1, 0, 0⟩

/-- LNK_COUNTS (R540, 64 bits). -/
abbrev LNK_COUNTS : Nat := 0x01068030
abbrev LNK_COUNTS_DUP_ATOMIC : Fld := ⟨LNK_COUNTS, 63, 48, 0⟩
abbrev LNK_COUNTS_STALE_ATOMIC : Fld := ⟨LNK_COUNTS, 47, 32, 0⟩
abbrev LNK_COUNTS_RESENDS : Fld := ⟨LNK_COUNTS, 31, 16, 0⟩
abbrev LNK_COUNTS_TTL_DROP : Fld := ⟨LNK_COUNTS, 15, 0, 0⟩

/-- LNK_DEST (R540, 32 bits). -/
abbrev LNK_DEST (i : Nat) : Nat := 0x01069000 + 0x4 * i
abbrev LNK_DEST_ALT2 (i : Nat) : Fld := ⟨LNK_DEST i, 11, 8, 0xf⟩
abbrev LNK_DEST_ALT1 (i : Nat) : Fld := ⟨LNK_DEST i, 7, 4, 0xf⟩
abbrev LNK_DEST_PRIMARY (i : Nat) : Fld := ⟨LNK_DEST i, 3, 0, 0xf⟩

/-- LNK_RED_CFG (R540, 64 bits). -/
abbrev LNK_RED_CFG (i : Nat) : Nat := 0x0106A000 + 0x20 * i
abbrev LNK_RED_CFG_VALID (i : Nat) : Fld := ⟨LNK_RED_CFG i, 63, 63, 0⟩
abbrev LNK_RED_CFG_ROOT (i : Nat) : Fld := ⟨LNK_RED_CFG i, 62, 62, 0⟩
abbrev LNK_RED_CFG_LOCAL (i : Nat) : Fld := ⟨LNK_RED_CFG i, 61, 61, 0⟩
abbrev LNK_RED_CFG_FORMAT (i : Nat) : Fld := ⟨LNK_RED_CFG i, 60, 60, 0⟩
abbrev LNK_RED_CFG_HOME (i : Nat) : Fld := ⟨LNK_RED_CFG i, 59, 56, 0⟩
abbrev LNK_RED_CFG_FANIN (i : Nat) : Fld := ⟨LNK_RED_CFG i, 55, 52, 0⟩
abbrev LNK_RED_CFG_TOTAL (i : Nat) : Fld := ⟨LNK_RED_CFG i, 41, 32, 0⟩
abbrev LNK_RED_CFG_CID (i : Nat) : Fld := ⟨LNK_RED_CFG i, 9, 0, 0⟩

/-- LNK_RED_DEST (R540, 64 bits). -/
abbrev LNK_RED_DEST (i : Nat) : Nat := 0x0106A008 + 0x20 * i
abbrev LNK_RED_DEST_DEST (i : Nat) : Fld := ⟨LNK_RED_DEST i, 51, 17, 0⟩

/-- LNK_RED_DONE (R540, 64 bits). -/
abbrev LNK_RED_DONE (i : Nat) : Nat := 0x0106A010 + 0x20 * i
abbrev LNK_RED_DONE_DONE_PA (i : Nat) : Fld := ⟨LNK_RED_DONE i, 51, 3, 0⟩

/-- KPR_MB_CMD (R664, 32 bits). -/
abbrev KPR_MB_CMD (i : Nat) : Nat := 0x01090000 + 0x1000 * i
abbrev KPR_MB_CMD_OPCODE (i : Nat) : Fld := ⟨KPR_MB_CMD i, 31, 24, 0⟩

/-- KPR_MB_STATUS (R665, 32 bits). -/
abbrev KPR_MB_STATUS (i : Nat) : Nat := 0x01090004 + 0x1000 * i
abbrev KPR_MB_STATUS_BUSY (i : Nat) : Fld := ⟨KPR_MB_STATUS i, 31, 31, 0⟩
abbrev KPR_MB_STATUS_RESULT (i : Nat) : Fld := ⟨KPR_MB_STATUS i, 23, 16, 0⟩
abbrev KPR_MB_STATUS_PENDING_OWN (i : Nat) : Fld := ⟨KPR_MB_STATUS i, 1, 1, 0⟩
abbrev KPR_MB_STATUS_PENDING_PEER (i : Nat) : Fld := ⟨KPR_MB_STATUS i, 0, 0, 0⟩

/-- KPR_MB_CFG (R666, 32 bits). -/
abbrev KPR_MB_CFG (i : Nat) : Nat := 0x01090008 + 0x1000 * i
abbrev KPR_MB_CFG_EN (i : Nat) : Fld := ⟨KPR_MB_CFG i, 15, 15, 0⟩
abbrev KPR_MB_CFG_VEC (i : Nat) : Fld := ⟨KPR_MB_CFG i, 11, 0, 0⟩

/-- KPR_MB_DATA (R666, 64 bits). -/
abbrev KPR_MB_DATA (i j : Nat) : Nat := 0x01090100 + 0x1000 * i + 0x8 * j
abbrev KPR_MB_DATA_DATA (i j : Nat) : Fld := ⟨KPR_MB_DATA i j, 63, 0, 0⟩

/-- KPR_STATE (R667, 32 bits). -/
abbrev KPR_STATE : Nat := 0x01092000
abbrev KPR_STATE_QUARANTINE : Fld := ⟨KPR_STATE, 31, 16, 0⟩
abbrev KPR_STATE_LEVEL : Fld := ⟨KPR_STATE, 11, 10, 0⟩
abbrev KPR_STATE_LOCKOUT : Fld := ⟨KPR_STATE, 9, 9, 0⟩
abbrev KPR_STATE_DEBUG_OPEN : Fld := ⟨KPR_STATE, 8, 8, 0⟩
abbrev KPR_STATE_STATE : Fld := ⟨KPR_STATE, 3, 0, 0⟩

/-- KPR_GEN (R667, 32 bits). -/
abbrev KPR_GEN (i : Nat) : Nat := 0x01092004 + 0x4 * i
abbrev KPR_GEN_GEN (i : Nat) : Fld := ⟨KPR_GEN i, 31, 0, 0⟩

/-- KPR_ALARM_POLICY (R668, 32 bits). -/
abbrev KPR_ALARM_POLICY : Nat := 0x01092040
abbrev KPR_ALARM_POLICY_PIN_ON_A2 : Fld := ⟨KPR_ALARM_POLICY, 17, 17, 0⟩
abbrev KPR_ALARM_POLICY_THAW : Fld := ⟨KPR_ALARM_POLICY, 16, 16, 0⟩
abbrev KPR_ALARM_POLICY_TAG_ENGINE : Fld := ⟨KPR_ALARM_POLICY, 11, 10, 2⟩
abbrev KPR_ALARM_POLICY_DEBUG_ATTACK : Fld := ⟨KPR_ALARM_POLICY, 9, 8, 2⟩
abbrev KPR_ALARM_POLICY_COMMIT_ABUSE : Fld := ⟨KPR_ALARM_POLICY, 7, 6, 1⟩
abbrev KPR_ALARM_POLICY_KINTEGRITY : Fld := ⟨KPR_ALARM_POLICY, 5, 4, 3⟩
abbrev KPR_ALARM_POLICY_CGLITCH : Fld := ⟨KPR_ALARM_POLICY, 3, 2, 3⟩
abbrev KPR_ALARM_POLICY_VGLITCH : Fld := ⟨KPR_ALARM_POLICY, 1, 0, 3⟩

/-- KPR_ALARM_COUNTS (R669, 64 bits). -/
abbrev KPR_ALARM_COUNTS : Nat := 0x01092048
abbrev KPR_ALARM_COUNTS_COUNTS : Fld := ⟨KPR_ALARM_COUNTS, 63, 0, 0⟩

/-- KPR_DEBUG (R669, 32 bits). -/
abbrev KPR_DEBUG : Nat := 0x01092060
abbrev KPR_DEBUG_SCOPE : Fld := ⟨KPR_DEBUG, 31, 16, 0⟩
abbrev KPR_DEBUG_DBG_EN : Fld := ⟨KPR_DEBUG, 1, 1, 0⟩
abbrev KPR_DEBUG_JTAG_EN : Fld := ⟨KPR_DEBUG, 0, 0, 0⟩

/-- KPR_DEBUG_UNTIL (R669, 64 bits). -/
abbrev KPR_DEBUG_UNTIL : Nat := 0x01092068
abbrev KPR_DEBUG_UNTIL_GTC : Fld := ⟨KPR_DEBUG_UNTIL, 63, 0, 0⟩

/-- KPR_KEY_USE (R669, 32 bits). -/
abbrev KPR_KEY_USE : Nat := 0x01092080
abbrev KPR_KEY_USE_SLOTS : Fld := ⟨KPR_KEY_USE, 8, 0, 0⟩

/-- KPR_ID_PUB (R669, 64 bits). -/
abbrev KPR_ID_PUB (i : Nat) : Nat := 0x01092200 + 0x8 * i
abbrev KPR_ID_PUB_KEY (i : Nat) : Fld := ⟨KPR_ID_PUB i, 63, 0, 0⟩

/-- KPR_SEAL_POLICY (R669, 64 bits). -/
abbrev KPR_SEAL_POLICY (i : Nat) : Nat := 0x01092400 + 0x8 * i
abbrev KPR_SEAL_POLICY_MODEL_EN (i : Nat) : Fld := ⟨KPR_SEAL_POLICY i, 63, 63, 0⟩
abbrev KPR_SEAL_POLICY_REKEY (i : Nat) : Fld := ⟨KPR_SEAL_POLICY i, 62, 62, 0⟩
abbrev KPR_SEAL_POLICY_SIGNERS (i : Nat) : Fld := ⟨KPR_SEAL_POLICY i, 11, 8, 0⟩
abbrev KPR_SEAL_POLICY_MODEL_MAX (i : Nat) : Fld := ⟨KPR_SEAL_POLICY i, 7, 0, 0⟩

/-- KPR_SIGNER (R669, 64 bits). -/
abbrev KPR_SIGNER (i j : Nat) : Nat := 0x01092600 + 0x40 * i + 0x8 * j
abbrev KPR_SIGNER_HASH (i j : Nat) : Fld := ⟨KPR_SIGNER i j, 63, 0, 0⟩

/-- KPR_ADMIT (R669, 64 bits). -/
abbrev KPR_ADMIT (i : Nat) : Nat := 0x01093000 + 0x40 * i
abbrev KPR_ADMIT_VALID (i : Nat) : Fld := ⟨KPR_ADMIT i, 63, 63, 0⟩
abbrev KPR_ADMIT_ANY_DIE (i : Nat) : Fld := ⟨KPR_ADMIT i, 62, 62, 0⟩
abbrev KPR_ADMIT_DIE (i : Nat) : Fld := ⟨KPR_ADMIT i, 8, 0, 0⟩

/-- KPR_ADMIT_HASH (R669, 64 bits). -/
abbrev KPR_ADMIT_HASH (i j : Nat) : Nat := 0x01093008 + 0x40 * i + 0x8 * j
abbrev KPR_ADMIT_HASH_HASH (i j : Nat) : Fld := ⟨KPR_ADMIT_HASH i j, 63, 0, 0⟩

/-- KPR_MBOX_USE (R540, 32 bits). -/
abbrev KPR_MBOX_USE : Nat := 0x01097FF0
abbrev KPR_MBOX_USE_LINES : Fld := ⟨KPR_MBOX_USE, 11, 0, 0⟩

/-- KPR_MBOX_BIND (R540, 64 bits). -/
abbrev KPR_MBOX_BIND (i : Nat) : Nat := 0x01098000 + 0x8 * i
abbrev KPR_MBOX_BIND_VALID (i : Nat) : Fld := ⟨KPR_MBOX_BIND i, 63, 63, 0⟩
abbrev KPR_MBOX_BIND_SRC_MODE (i : Nat) : Fld := ⟨KPR_MBOX_BIND i, 62, 61, 0⟩
abbrev KPR_MBOX_BIND_SRC_DIE (i : Nat) : Fld := ⟨KPR_MBOX_BIND i, 56, 48, 0⟩
abbrev KPR_MBOX_BIND_DEPTHM1 (i : Nat) : Fld := ⟨KPR_MBOX_BIND i, 37, 32, 0⟩
abbrev KPR_MBOX_BIND_CID (i : Nat) : Fld := ⟨KPR_MBOX_BIND i, 9, 0, 0⟩

/-- KPR_MBOX_BIND4095 (R540, 64 bits). -/
abbrev KPR_MBOX_BIND4095 : Nat := 0x0109FFF8
abbrev KPR_MBOX_BIND4095_VALID : Fld := ⟨KPR_MBOX_BIND4095, 63, 63, 0⟩
abbrev KPR_MBOX_BIND4095_SRC_MODE : Fld := ⟨KPR_MBOX_BIND4095, 62, 61, 0⟩
abbrev KPR_MBOX_BIND4095_SRC_DIE : Fld := ⟨KPR_MBOX_BIND4095, 56, 48, 0⟩
abbrev KPR_MBOX_BIND4095_DEPTHM1 : Fld := ⟨KPR_MBOX_BIND4095, 37, 32, 0⟩
abbrev KPR_MBOX_BIND4095_CID : Fld := ⟨KPR_MBOX_BIND4095, 9, 0, 0⟩

/-- ERR_LOG_SEQ (R690, 32 bits). -/
abbrev ERR_LOG_SEQ : Nat := 0x010C0000
abbrev ERR_LOG_SEQ_NEXT : Fld := ⟨ERR_LOG_SEQ, 15, 0, 0⟩

/-- ERR_LOG_READ (R690, 32 bits). -/
abbrev ERR_LOG_READ : Nat := 0x010C0004
abbrev ERR_LOG_READ_READ : Fld := ⟨ERR_LOG_READ, 15, 0, 0⟩

/-- ERR_LOG_CTRL (R691, 32 bits). -/
abbrev ERR_LOG_CTRL : Nat := 0x010C0008
abbrev ERR_LOG_CTRL_ARMED : Fld := ⟨ERR_LOG_CTRL, 16, 16, 1⟩
abbrev ERR_LOG_CTRL_EN : Fld := ⟨ERR_LOG_CTRL, 15, 15, 0⟩
abbrev ERR_LOG_CTRL_VEC : Fld := ⟨ERR_LOG_CTRL, 11, 0, 0⟩

/-- ERR_LOG_OVF (R690, 32 bits). -/
abbrev ERR_LOG_OVF : Nat := 0x010C000C
abbrev ERR_LOG_OVF_OVF : Fld := ⟨ERR_LOG_OVF, 15, 0, 0⟩

/-- ERR_CONC (R692, 64 bits). -/
abbrev ERR_CONC : Nat := 0x010C0010
abbrev ERR_CONC_OCCUPANCY : Fld := ⟨ERR_CONC, 38, 32, 0⟩
abbrev ERR_CONC_SAMPLE_DROP : Fld := ⟨ERR_CONC, 31, 0, 0⟩

/-- ERR_VEC_DATA (R693, 32 bits). -/
abbrev ERR_VEC_DATA : Nat := 0x010C0020
abbrev ERR_VEC_DATA_DATA_HI : Fld := ⟨ERR_VEC_DATA, 31, 12, 0⟩

/-- ERR_VEC_COUNTS (R693, 32 bits). -/
abbrev ERR_VEC_COUNTS : Nat := 0x010C0028
abbrev ERR_VEC_COUNTS_VEC_NULL : Fld := ⟨ERR_VEC_COUNTS, 15, 0, 0⟩

/-- ERR_VEC (R694, 64 bits). -/
abbrev ERR_VEC (i : Nat) : Nat := 0x010C8000 + 0x8 * i
abbrev ERR_VEC_MASK (i : Nat) : Fld := ⟨ERR_VEC i, 63, 63, 0⟩
abbrev ERR_VEC_PENDING (i : Nat) : Fld := ⟨ERR_VEC i, 62, 62, 0⟩
abbrev ERR_VEC_ADDR (i : Nat) : Fld := ⟨ERR_VEC i, 51, 2, 0⟩

/-- MON_CTRL (R695, 32 bits). -/
abbrev MON_CTRL : Nat := 0x010B0000
abbrev MON_CTRL_REPORT_PERIOD : Fld := ⟨MON_CTRL, 31, 16, 0xa⟩
abbrev MON_CTRL_FREEZE : Fld := ⟨MON_CTRL, 0, 0, 0⟩

/-- MON_STATUS (R695, 32 bits). -/
abbrev MON_STATUS : Nat := 0x010B0004
abbrev MON_STATUS_TRACE_FULL : Fld := ⟨MON_STATUS, 4, 4, 0⟩
abbrev MON_STATUS_TRACE_BROKEN : Fld := ⟨MON_STATUS, 3, 3, 0⟩
abbrev MON_STATUS_CAP_BROKEN : Fld := ⟨MON_STATUS, 2, 2, 0⟩
abbrev MON_STATUS_CTX_LOSSY : Fld := ⟨MON_STATUS, 1, 1, 0⟩
abbrev MON_STATUS_REFUSED : Fld := ⟨MON_STATUS, 0, 0, 0⟩

/-- MON_DROPS (R695, 64 bits). -/
abbrev MON_DROPS : Nat := 0x010B0008
abbrev MON_DROPS_CAP_DROP : Fld := ⟨MON_DROPS, 63, 32, 0⟩
abbrev MON_DROPS_TRACE_DROP : Fld := ⟨MON_DROPS, 31, 0, 0⟩

/-- MON_DEMAND (R695, 32 bits). -/
abbrev MON_DEMAND (i : Nat) : Nat := 0x010B0040 + 0x4 * i
abbrev MON_DEMAND_COUNT (i : Nat) : Fld := ⟨MON_DEMAND i, 31, 0, 0⟩

/-- MON_CAP_BASE (R695, 64 bits). -/
abbrev MON_CAP_BASE : Nat := 0x010B0080
abbrev MON_CAP_BASE_BASE : Fld := ⟨MON_CAP_BASE, 51, 12, 0⟩
abbrev MON_CAP_BASE_SIZE_LOG2 : Fld := ⟨MON_CAP_BASE, 4, 0, 0⟩

/-- MON_CAP_HEAD (R695, 32 bits). -/
abbrev MON_CAP_HEAD : Nat := 0x010B0088
abbrev MON_CAP_HEAD_INDEX : Fld := ⟨MON_CAP_HEAD, 31, 0, 0⟩

/-- MON_CAP_TAIL (R695, 32 bits). -/
abbrev MON_CAP_TAIL : Nat := 0x010B008C
abbrev MON_CAP_TAIL_INDEX : Fld := ⟨MON_CAP_TAIL, 31, 0, 0⟩

/-- MON_TRACE_CTRL (R695, 32 bits). -/
abbrev MON_TRACE_CTRL : Nat := 0x010B00A0
abbrev MON_TRACE_CTRL_EN : Fld := ⟨MON_TRACE_CTRL, 31, 31, 0⟩
abbrev MON_TRACE_CTRL_MODE : Fld := ⟨MON_TRACE_CTRL, 30, 30, 0⟩
abbrev MON_TRACE_CTRL_CID_EN : Fld := ⟨MON_TRACE_CTRL, 29, 29, 0⟩
abbrev MON_TRACE_CTRL_CID : Fld := ⟨MON_TRACE_CTRL, 25, 16, 0⟩
abbrev MON_TRACE_CTRL_KINDS : Fld := ⟨MON_TRACE_CTRL, 10, 1, 0⟩

/-- MON_TRACE_BASE (R695, 64 bits). -/
abbrev MON_TRACE_BASE : Nat := 0x010B00A8
abbrev MON_TRACE_BASE_BASE : Fld := ⟨MON_TRACE_BASE, 51, 12, 0⟩
abbrev MON_TRACE_BASE_SIZE_LOG2 : Fld := ⟨MON_TRACE_BASE, 4, 0, 0⟩

/-- MON_TRACE_HEAD (R695, 32 bits). -/
abbrev MON_TRACE_HEAD : Nat := 0x010B00B0
abbrev MON_TRACE_HEAD_INDEX : Fld := ⟨MON_TRACE_HEAD, 31, 0, 0⟩

/-- MON_TRACE_TAIL (R695, 32 bits). -/
abbrev MON_TRACE_TAIL : Nat := 0x010B00B4
abbrev MON_TRACE_TAIL_INDEX : Fld := ⟨MON_TRACE_TAIL, 31, 0, 0⟩

/-- MON_SLOT_CFG (R695, 64 bits). -/
abbrev MON_SLOT_CFG (i : Nat) : Nat := 0x010B1000 + 0x8 * i
abbrev MON_SLOT_CFG_EN (i : Nat) : Fld := ⟨MON_SLOT_CFG i, 63, 63, 0⟩
abbrev MON_SLOT_CFG_KIND (i : Nat) : Fld := ⟨MON_SLOT_CFG i, 62, 60, 0⟩
abbrev MON_SLOT_CFG_SHIFT (i : Nat) : Fld := ⟨MON_SLOT_CFG i, 52, 48, 0⟩
abbrev MON_SLOT_CFG_WINDOW_MS (i : Nat) : Fld := ⟨MON_SLOT_CFG i, 47, 32, 0⟩
abbrev MON_SLOT_CFG_SUBJECT (i : Nat) : Fld := ⟨MON_SLOT_CFG i, 15, 0, 0⟩

/-- MON_SLOT_MIN (R696, 64 bits). -/
abbrev MON_SLOT_MIN (i : Nat) : Nat := 0x010B2000 + 0x60 * i
abbrev MON_SLOT_MIN_MAX (i : Nat) : Fld := ⟨MON_SLOT_MIN i, 63, 32, 0⟩
abbrev MON_SLOT_MIN_MIN (i : Nat) : Fld := ⟨MON_SLOT_MIN i, 31, 0, 0⟩

/-- MON_SLOT_SAMPLES (R696, 64 bits). -/
abbrev MON_SLOT_SAMPLES (i : Nat) : Nat := 0x010B2008 + 0x60 * i
abbrev MON_SLOT_SAMPLES_N (i : Nat) : Fld := ⟨MON_SLOT_SAMPLES i, 63, 0, 0⟩

/-- MON_SLOT_FLAGS (R696, 64 bits). -/
abbrev MON_SLOT_FLAGS (i : Nat) : Nat := 0x010B2010 + 0x60 * i
abbrev MON_SLOT_FLAGS_MIN_CODE (i : Nat) : Fld := ⟨MON_SLOT_FLAGS i, 13, 8, 0⟩
abbrev MON_SLOT_FLAGS_DROPPED (i : Nat) : Fld := ⟨MON_SLOT_FLAGS i, 2, 2, 0⟩
abbrev MON_SLOT_FLAGS_OVER (i : Nat) : Fld := ⟨MON_SLOT_FLAGS i, 1, 1, 0⟩
abbrev MON_SLOT_FLAGS_STICKY (i : Nat) : Fld := ⟨MON_SLOT_FLAGS i, 0, 0, 0⟩

/-- MON_SLOT_BIN (R696, 32 bits). -/
abbrev MON_SLOT_BIN (i j : Nat) : Nat := 0x010B2020 + 0x60 * i + 0x4 * j
abbrev MON_SLOT_BIN_N (i j : Nat) : Fld := ⟨MON_SLOT_BIN i j, 31, 0, 0⟩

/-- MON_CTX (R686, 64 bits). -/
abbrev MON_CTX (i j : Nat) : Nat := 0x010B8000 + 0x20 * i + 0x8 * j
abbrev MON_CTX_EVENTS (i j : Nat) : Fld := ⟨MON_CTX i j, 63, 48, 0⟩
abbrev MON_CTX_TOTAL (i j : Nat) : Fld := ⟨MON_CTX i j, 47, 0, 0⟩

/-- DBG_CMD (R657, 32 bits). -/
abbrev DBG_CMD : Nat := 0x010D0000
abbrev DBG_CMD_TILE : Fld := ⟨DBG_CMD, 29, 24, 0⟩
abbrev DBG_CMD_CMD : Fld := ⟨DBG_CMD, 3, 0, 0⟩

/-- DBG_STATUS (R657, 32 bits). -/
abbrev DBG_STATUS : Nat := 0x010D0004
abbrev DBG_STATUS_BUSY : Fld := ⟨DBG_STATUS, 31, 31, 0⟩
abbrev DBG_STATUS_RESULT : Fld := ⟨DBG_STATUS, 23, 16, 0⟩
abbrev DBG_STATUS_HALTED : Fld := ⟨DBG_STATUS, 8, 8, 0⟩
abbrev DBG_STATUS_HALT_CAUSE : Fld := ⟨DBG_STATUS, 2, 0, 0⟩

/-- DBG_ADDR (R657, 64 bits). -/
abbrev DBG_ADDR : Nat := 0x010D0008
abbrev DBG_ADDR_SPACE : Fld := ⟨DBG_ADDR, 63, 63, 0⟩
abbrev DBG_ADDR_OFFSET : Fld := ⟨DBG_ADDR, 19, 3, 0⟩

/-- DBG_DATA (R657, 64 bits). -/
abbrev DBG_DATA : Nat := 0x010D0010
abbrev DBG_DATA_DATA : Fld := ⟨DBG_DATA, 63, 0, 0⟩

/-- DBG_HALTED (R657, 64 bits). -/
abbrev DBG_HALTED : Nat := 0x010D0018
abbrev DBG_HALTED_TILES : Fld := ⟨DBG_HALTED, 63, 0, 0⟩

/-- DBG_BP (R657, 64 bits). -/
abbrev DBG_BP (i : Nat) : Nat := 0x010D0020 + 0x8 * i
abbrev DBG_BP_EN (i : Nat) : Fld := ⟨DBG_BP i, 63, 63, 0⟩
abbrev DBG_BP_TILE (i : Nat) : Fld := ⟨DBG_BP i, 61, 56, 0⟩
abbrev DBG_BP_PC (i : Nat) : Fld := ⟨DBG_BP i, 31, 0, 0⟩

/-- Rows of the register map in block ENG. -/
def tableEng : List RegDesc := [
  ⟨"ENG_ID", 0x01000000, [], false, [⟨31, 0, .RO, 0x2616⟩], 0⟩,
  ⟨"ENG_REV", 0x01000004, [], false, [⟨15, 8, .RO, 2⟩, ⟨7, 0, .RO, 1⟩], 0⟩,
  ⟨"ENG_CONFIG", 0x01000008, [], false, [⟨11, 8, .RO, 0⟩, ⟨7, 4, .RO, 0⟩, ⟨3, 0, .RO, 0⟩], 0⟩,
  ⟨"ENG_CLUSTER_EN", 0x0100000C, [], false, [⟨15, 0, .RO, 0⟩], 0⟩,
  ⟨"ENG_CAPS", 0x01000010, [], false, [⟨1, 1, .RO, 0⟩, ⟨0, 0, .RO, 0⟩], 0⟩,
  ⟨"ENG_STATE", 0x01000014, [], false, [⟨3, 0, .RO, 0⟩], 0⟩,
  ⟨"ENG_SERIAL", 0x01000018, [], true, [⟨63, 0, .RO, 0⟩], 0⟩]

/-- Rows of the register map in block PWR. -/
def tablePwr0 : List RegDesc := [
  ⟨"PWR_FLIGHT_STATUS", 0x01070000, [], false, [⟨31, 31, .RO, 0⟩, ⟨30, 28, .RO, 0⟩, ⟨27, 24, .RO, 0⟩, ⟨23, 19, .RO, 0⟩, ⟨18, 16, .RO, 0⟩, ⟨15, 14, .RO, 0⟩, ⟨13, 9, .RO, 0⟩], 0⟩,
  ⟨"PWR_DOMAIN_STATE", 0x01070010, [(0x4, 4)], false, [⟨31, 0, .RO, 0⟩], 0⟩,
  ⟨"PWR_FLIGHT_CTRL", 0x01070020, [], false, [⟨31, 16, .RW, 0⟩, ⟨15, 8, .RO, 0⟩, ⟨5, 3, .RO, 0⟩, ⟨2, 2, .W1C, 0⟩, ⟨1, 1, .W1S, 0⟩], 0⟩,
  ⟨"PWR_RESET_CMD", 0x01070024, [], false, [⟨31, 16, .WO, 0⟩, ⟨11, 8, .WO, 0⟩, ⟨3, 0, .WO, 0⟩], 0⟩,
  ⟨"PWR_RESET_STATUS", 0x01070028, [], false, [⟨11, 8, .RO, 0⟩, ⟨7, 4, .RO, 0⟩, ⟨3, 3, .RO, 0⟩], 0⟩,
  ⟨"PWR_STANDBY_SAVE", 0x01070030, [], true, [⟨51, 21, .RW, 0⟩, ⟨0, 0, .RW, 0⟩], 0⟩,
  ⟨"PWR_READY_STAMP", 0x01070038, [], true, [⟨63, 0, .RO, 0⟩], 0⟩,
  ⟨"PWR_WAKE_CMD", 0x01070040, [], false, [⟨0, 0, .WO, 0⟩], 0⟩,
  ⟨"PWR_STOP_CMD", 0x01070050, [], false, [⟨31, 16, .WO, 0⟩, ⟨9, 8, .WO, 0⟩, ⟨7, 4, .WO, 0⟩, ⟨3, 0, .WO, 0⟩], 0⟩,
  ⟨"PWR_STOP_STATUS", 0x01070054, [], false, [⟨31, 31, .RO, 0⟩, ⟨30, 30, .W1C, 0⟩, ⟨23, 16, .RO, 0⟩, ⟨15, 12, .RO, 0⟩, ⟨11, 9, .RO, 0⟩, ⟨8, 7, .RO, 0⟩], 0⟩,
  ⟨"PWR_SERVICE", 0x01070058, [], true, [⟨60, 32, .RO, 0⟩, ⟨28, 0, .RO, 0⟩], 0⟩,
  ⟨"PWR_STOP_KEEP", 0x01070060, [], false, [⟨28, 0, .RW, 0⟩], 0⟩,
  ⟨"PWR_PIN_STATUS", 0x01070064, [], false, [⟨7, 7, .W1C, 0⟩, ⟨6, 6, .W1C, 0⟩, ⟨5, 5, .RO, 0⟩, ⟨4, 4, .RO, 0⟩, ⟨1, 0, .RO, 0⟩], 0⟩,
  ⟨"PWR_PIN_CFG", 0x01070068, [], false, [⟨15, 15, .RW, 0⟩, ⟨11, 0, .RW, 0⟩], 0⟩]

/-- Rows of the register map in block PWR. -/
def tablePwr1 : List RegDesc := [
  ⟨"PWR_THERM_CFG", 0x01070070, [], false, [⟨9, 0, .RW, 0⟩], 0⟩,
  ⟨"PWR_THERM_STATUS", 0x01070074, [], false, [⟨31, 31, .W1C, 0⟩, ⟨30, 30, .RO, 0⟩, ⟨24, 20, .RO, 0⟩, ⟨19, 10, .RO, 0⟩, ⟨9, 0, .RO, 0⟩], 0⟩,
  ⟨"PWR_CAP", 0x01070100, [], false, [⟨19, 0, .RW, 0⟩], 0⟩,
  ⟨"PWR_CAP_FLOOR", 0x01070104, [], false, [⟨19, 0, .RWL, 0⟩], 0⟩,
  ⟨"PWR_FALLBACK_BUDGET", 0x01070108, [], false, [⟨19, 0, .RW, 0⟩], 0⟩,
  ⟨"PWR_CTRL", 0x0107010C, [], false, [⟨31, 16, .RW, 0xC8⟩, ⟨2, 1, .RW, 0⟩, ⟨0, 0, .RW, 0⟩], 0⟩,
  ⟨"PWR_LEASE", 0x01070110, [], true, [⟨63, 48, .RO, 0⟩, ⟨38, 32, .RO, 0⟩, ⟨19, 0, .RO, 0⟩], 0⟩,
  ⟨"PWR_LEASE_STATUS", 0x01070118, [], false, [⟨31, 30, .RO, 0⟩, ⟨29, 29, .RO, 0⟩, ⟨27, 16, .RO, 0⟩, ⟨6, 0, .RO, 0⟩], 0⟩,
  ⟨"PWR_EFF_CAP", 0x0107011C, [], false, [⟨30, 28, .RO, 0⟩, ⟨27, 27, .RO, 0⟩, ⟨19, 0, .RO, 0⟩], 0⟩,
  ⟨"PWR_ESTIMATE", 0x01070120, [], true, [⟨51, 32, .RO, 0⟩, ⟨19, 0, .RO, 0⟩], 0⟩,
  ⟨"PWR_ENERGY", 0x01070128, [], true, [⟨63, 0, .RO, 0⟩], 0⟩,
  ⟨"PWR_TCAP", 0x01070130, [], false, [⟨19, 0, .RO, 0⟩], 0⟩,
  ⟨"PWR_PART_FLOOR", 0x01070140, [(0x4, 16)], false, [⟨19, 0, .RWL, 0⟩], 0⟩,
  ⟨"PWR_CL_OP", 0x01070180, [(0x4, 16)], false, [⟨31, 31, .RW, 0⟩, ⟨26, 24, .RW, 0⟩, ⟨23, 12, .RO, 0⟩, ⟨10, 8, .RO, 0⟩, ⟨7, 4, .RO, 0xF⟩, ⟨0, 0, .RO, 0⟩], 0⟩]

/-- Rows of the register map in block PWR. -/
def tablePwr2 : List RegDesc := [
  ⟨"PWR_CL_ALLOC", 0x010701C0, [(0x4, 16)], false, [⟨31, 16, .RO, 0⟩, ⟨15, 0, .RO, 0⟩], 0⟩,
  ⟨"PWR_PHASE_CTRL", 0x01070200, [], false, [⟨31, 16, .RW, 0x320⟩, ⟨15, 15, .RW, 1⟩], 0⟩,
  ⟨"PWR_PHASE_CLEAR", 0x01070204, [], false, [⟨15, 0, .WO, 0⟩], 0⟩,
  ⟨"PWR_PACE_CTRL", 0x01070210, [], false, [⟨31, 24, .RW, 0⟩, ⟨21, 16, .RW, 0⟩, ⟨15, 0, .RW, 0xA⟩], 0⟩,
  ⟨"PWR_PACE_STATUS", 0x01070214, [], false, [⟨31, 22, .RO, 0⟩, ⟨21, 21, .RO, 0⟩, ⟨11, 0, .RO, 0⟩], 0⟩,
  ⟨"PWR_PACE_MASK", 0x01070220, [(0x4, 16)], false, [⟨31, 0, .RW, 0⟩], 0⟩,
  ⟨"PWR_CLOSE_IDLE", 0x01070260, [], false, [⟨31, 0, .RW, 0xF4240⟩], 0⟩,
  ⟨"PWR_KEEP_OPEN", 0x01070264, [], false, [⟨15, 0, .RW, 0⟩], 0⟩,
  ⟨"PWR_GOV_COUNTS", 0x01070270, [], true, [⟨63, 48, .RO, 0⟩, ⟨47, 32, .RO, 0⟩, ⟨31, 16, .RO, 0⟩, ⟨15, 0, .RO, 0⟩], 0xffffffffffffffff⟩,
  ⟨"PWR_VREQ", 0x01070300, [(0x4, 16)], false, [⟨31, 24, .RO, 0⟩, ⟨15, 0, .RO, 0⟩], 0⟩,
  ⟨"PWR_VREQ_PEND", 0x01070340, [], false, [⟨15, 0, .RO, 0⟩], 0⟩,
  ⟨"PWR_VREQ_CFG", 0x01070344, [], false, [⟨31, 31, .RW, 0⟩, ⟨11, 0, .RW, 0⟩], 0⟩,
  ⟨"PWR_VSET_LIMIT", 0x01070348, [], false, [⟨31, 0, .RW, 0x4E20⟩], 0⟩,
  ⟨"PWR_RAIL_CFG", 0x01070400, [(0x8, 17)], true, [⟨55, 48, .RW, 0x10⟩, ⟨39, 32, .RW, 4⟩, ⟨31, 16, .RW, 0x2710⟩, ⟨15, 0, .RW, 0x12C⟩], 0⟩]

/-- Rows of the register map in block PWR. -/
def tablePwr3 : List RegDesc := [
  ⟨"PWR_RAIL_STATUS", 0x01070500, [(0x8, 16)], true, [⟨63, 48, .RO, 0⟩, ⟨47, 32, .RO, 0⟩, ⟨10, 10, .WO, 0⟩, ⟨9, 9, .WO, 0⟩, ⟨8, 8, .RO, 0⟩, ⟨7, 7, .RO, 0⟩, ⟨6, 4, .RO, 7⟩, ⟨1, 0, .RO, 0⟩], 0⟩,
  ⟨"PWR_RAIL_STATUS16", 0x01070580, [(0x8, 4)], true, [⟨63, 48, .RO, 0⟩, ⟨47, 32, .RO, 0⟩, ⟨10, 10, .WO, 0⟩, ⟨9, 9, .WO, 0⟩, ⟨8, 8, .RO, 0⟩, ⟨7, 7, .RO, 0⟩, ⟨6, 4, .RO, 0⟩, ⟨1, 0, .RO, 0⟩], 0⟩,
  ⟨"PWR_TEL", 0x01070600, [(0x8, 17)], true, [⟨47, 32, .RW, 0⟩, ⟨31, 16, .RW, 0⟩, ⟨15, 0, .RW, 0⟩], 0⟩,
  ⟨"PWR_CAL", 0x01070700, [(0x4, 20)], false, [⟨15, 0, .RO, 0x1000⟩], 0⟩,
  ⟨"PWR_PHASE", 0x01078000, [(0x400, 16), (0x4, 256)], false, [⟨31, 31, .RO, 0⟩, ⟨23, 16, .RO, 0⟩, ⟨15, 0, .RO, 0⟩], 0⟩]

/-- Rows of the register map in block CLK. -/
def tableClk : List RegDesc := [
  ⟨"CLK_GTC", 0x01080000, [], true, [⟨63, 0, .RO, 0⟩], 0⟩,
  ⟨"CLK_GTC_STATUS", 0x01080008, [], false, [⟨31, 31, .RO, 0⟩, ⟨30, 30, .RO, 0⟩, ⟨15, 0, .RO, 0⟩], 0⟩,
  ⟨"CLK_SRC_STATUS", 0x0108000C, [], false, [⟨9, 4, .RO, 0⟩, ⟨3, 3, .RO, 0⟩, ⟨2, 2, .RO, 0⟩, ⟨1, 1, .RO, 0⟩, ⟨0, 0, .RO, 0⟩], 0⟩,
  ⟨"CLK_COPY_COUNTS", 0x01080010, [], true, [⟨63, 48, .RO, 0⟩, ⟨47, 32, .RO, 0⟩, ⟨31, 16, .RO, 0⟩, ⟨15, 0, .RO, 0⟩], 0xffffffffffffffff⟩]

/-- Rows of the register map in block WAT. -/
def tableWat : List RegDesc := [
  ⟨"WAT_CTRL", 0x010A0000, [], false, [⟨31, 20, .RW, 0⟩, ⟨11, 11, .W1S, 0⟩, ⟨10, 10, .RW, 1⟩, ⟨9, 9, .RW, 0⟩, ⟨8, 8, .W1S, 0⟩, ⟨0, 0, .RW, 1⟩], 0⟩,
  ⟨"WAT_STATUS", 0x010A0004, [], false, [⟨15, 12, .RO, 0⟩, ⟨11, 9, .RO, 0⟩, ⟨8, 8, .RO, 0⟩, ⟨7, 7, .W1C, 0⟩, ⟨6, 6, .W1C, 0⟩, ⟨5, 5, .W1C, 0⟩, ⟨3, 0, .RO, 0⟩], 0⟩,
  ⟨"WAT_FRAME_PERIOD", 0x010A0008, [], false, [⟨31, 0, .RW, 0x2FAF080⟩], 0⟩,
  ⟨"WAT_FRAME_WINDOW", 0x010A000C, [], false, [⟨31, 0, .RW, 0x1E8480⟩], 0⟩,
  ⟨"WAT_FRAME_FORMAT", 0x010A0010, [], false, [⟨31, 30, .RW, 0⟩, ⟨29, 24, .RW, 0x2A⟩, ⟨23, 23, .RW, 1⟩, ⟨22, 21, .RW, 0⟩, ⟨20, 10, .RW, 0xA0⟩, ⟨9, 0, .RW, 0x78⟩], 0⟩,
  ⟨"WAT_FRAME_BUF", 0x010A0014, [], false, [⟨27, 16, .RW, 0x800⟩, ⟨11, 0, .RW, 0x400⟩], 0⟩,
  ⟨"WAT_PROG_BUDGET", 0x010A0018, [], false, [⟨31, 0, .RW, 0x989680⟩], 0⟩,
  ⟨"WAT_TRIGGER", 0x010A0020, [(0x4, 4)], false, [⟨31, 31, .RW, 0⟩, ⟨30, 24, .RW, 0⟩, ⟨23, 8, .RW, 0⟩, ⟨7, 0, .RW, 0⟩], 0⟩,
  ⟨"WAT_LANE", 0x010A0030, [], false, [⟨31, 31, .RW, 0⟩, ⟨27, 27, .RO, 0⟩, ⟨26, 26, .RW, 0⟩, ⟨25, 25, .RW, 0⟩, ⟨24, 24, .RW, 0⟩, ⟨23, 23, .RW, 0⟩, ⟨19, 16, .RO, 5⟩, ⟨15, 12, .RO, 5⟩, ⟨11, 8, .RO, 5⟩, ⟨1, 0, .RO, 0⟩], 0⟩,
  ⟨"WAT_WAKE_CTRL", 0x010A0040, [], false, [⟨31, 20, .RW, 0x64⟩, ⟨19, 12, .RW, 0xA⟩, ⟨7, 7, .W1C, 0⟩, ⟨6, 6, .RW, 0⟩, ⟨5, 5, .RW, 1⟩], 0⟩,
  ⟨"WAT_WAKE_INFO", 0x010A0044, [], false, [⟨31, 24, .RO, 0⟩, ⟨23, 16, .RO, 0⟩, ⟨15, 12, .RO, 0⟩, ⟨0, 0, .W1C, 0⟩], 0⟩,
  ⟨"WAT_WAKE_STAMP", 0x010A0048, [], true, [⟨63, 0, .RO, 0⟩], 0⟩,
  ⟨"WAT_HANDOFF_BASE", 0x010A0050, [], true, [⟨51, 17, .RW, 0⟩, ⟨16, 7, .RW, 0⟩, ⟨0, 0, .RW, 0⟩], 0⟩,
  ⟨"WAT_COUNTS", 0x010A0060, [], true, [⟨63, 48, .RO, 0⟩, ⟨47, 32, .RO, 0⟩, ⟨31, 0, .RO, 0⟩], 0⟩]

/-- Rows of the register map in block OBJ. -/
def tableObj : List RegDesc := [
  ⟨"OBJ_CMD", 0x01020000, [], false, [⟨31, 24, .WO, 0⟩, ⟨23, 0, .WO, 0⟩], 0⟩,
  ⟨"OBJ_CMD_STATUS", 0x01020004, [], false, [⟨31, 31, .RO, 0⟩, ⟨30, 30, .W1C, 0⟩, ⟨23, 16, .RO, 0⟩, ⟨15, 0, .RO, 0⟩], 0⟩,
  ⟨"OBJ_CMD_ARG", 0x01020008, [(0x8, 2)], true, [⟨63, 0, .RW, 0⟩], 0⟩,
  ⟨"OBJ_TABLE_BASE", 0x01020018, [], true, [⟨51, 12, .RW, 0⟩, ⟨4, 0, .RW, 8⟩], 0⟩,
  ⟨"OBJ_QTABLE_BASE", 0x01020020, [], true, [⟨51, 21, .RW, 0⟩], 0⟩,
  ⟨"OBJ_DRIVER_CID", 0x01020028, [], false, [⟨9, 0, .RW, 0⟩], 0⟩,
  ⟨"OBJ_DRAIN_LIMIT", 0x0102002C, [], false, [⟨31, 0, .RW, 0x186A0⟩], 0⟩,
  ⟨"OBJ_WAIT_USE", 0x01020030, [], false, [⟨31, 16, .RO, 0⟩, ⟨15, 0, .RO, 0⟩], 0⟩,
  ⟨"OBJ_COUNTS", 0x01020038, [], true, [⟨63, 32, .RO, 0⟩, ⟨31, 0, .RO, 0⟩], 0xffffffffffffffff⟩,
  ⟨"OBJ_PART_CFG", 0x01020200, [(0x8, 16)], true, [⟨63, 63, .RWL, 0⟩, ⟨62, 62, .RWL, 0⟩, ⟨42, 32, .RWL, 0⟩, ⟨22, 16, .RWL, 0⟩, ⟨15, 0, .RWL, 0⟩], 0⟩,
  ⟨"OBJ_CTX_STATE", 0x01020400, [(0x4, 128)], false, [⟨31, 0, .RO, 0⟩], 0⟩,
  ⟨"OBJ_GROUP_OWNER", 0x01021000, [(0x4, 256)], false, [⟨31, 31, .RO, 0⟩, ⟨25, 16, .RO, 0⟩, ⟨15, 15, .RO, 0⟩, ⟨9, 0, .RO, 0⟩], 0⟩,
  ⟨"OBJ_QUEUE_STATE", 0x01028000, [(0x4, 4096)], false, [⟨31, 0, .RO, 0⟩], 0⟩]

/-- Rows of the register map in block DSP. -/
def tableDsp0 : List RegDesc := [
  ⟨"DSP_CTRL", 0x01010000, [], false, [⟨0, 0, .RW, 0⟩], 0⟩,
  ⟨"DSP_SHARE_BURST", 0x01010004, [], false, [⟨31, 0, .RW, 0x186A0⟩], 0⟩,
  ⟨"DSP_CLAIM_IDLE", 0x01010008, [], false, [⟨31, 0, .RW, 0x186A0⟩], 0⟩,
  ⟨"DSP_FENCE_LIMIT", 0x0101000C, [], false, [⟨31, 0, .RW, 0x186A0⟩], 0⟩,
  ⟨"DSP_MISS_COUNTS", 0x01010010, [], true, [⟨63, 32, .RO, 0⟩, ⟨31, 0, .RO, 0⟩], 0⟩,
  ⟨"DSP_BUDGET_COUNTS", 0x01010018, [], true, [⟨63, 32, .RO, 0⟩, ⟨31, 0, .RO, 0⟩], 0⟩,
  ⟨"DSP_SWAP_COUNTS", 0x01010020, [], true, [⟨63, 48, .RO, 0⟩, ⟨47, 32, .RO, 0⟩, ⟨31, 0, .RO, 0⟩], 0⟩,
  ⟨"DSP_DISPATCHED", 0x01010028, [], true, [⟨63, 0, .RO, 0⟩], 0⟩,
  ⟨"DSP_SCHED_CLEAR", 0x01010030, [], false, [⟨0, 0, .WO, 0⟩], 0⟩,
  ⟨"DSP_SWAP_CFG", 0x01010100, [(0x8, 16)], true, [⟨51, 21, .RWL, 0⟩, ⟨17, 8, .RWL, 0⟩, ⟨7, 0, .RWL, 0⟩], 0⟩,
  ⟨"DSP_SWAP_USE", 0x01010180, [(0x8, 2)], true, [⟨63, 0, .RO, 0⟩], 0⟩,
  ⟨"DSP_SWAP_OFF", 0x01010190, [], false, [⟨15, 0, .RO, 0⟩], 0⟩,
  ⟨"DSP_TILE_STATE", 0x01010400, [(0x4, 64)], false, [⟨31, 31, .RO, 0⟩, ⟨30, 16, .RO, 0⟩, ⟨15, 13, .RO, 0⟩, ⟨10, 10, .RO, 0⟩, ⟨9, 0, .RO, 0⟩], 0⟩,
  ⟨"DSP_STAGE_USE", 0x01010800, [], false, [⟨28, 16, .RO, 0⟩, ⟨8, 0, .RO, 0⟩], 0⟩]

/-- Rows of the register map in block DSP. -/
def tableDsp1 : List RegDesc := [
  ⟨"DSP_SUBMIT_COUNTS", 0x01010808, [], true, [⟨63, 48, .RO, 0⟩, ⟨47, 32, .RO, 0⟩, ⟨31, 16, .RO, 0⟩, ⟨15, 0, .RO, 0⟩], 0⟩,
  ⟨"DSP_SUBMIT_CLEAR", 0x01010810, [], false, [⟨0, 0, .WO, 0⟩], 0⟩]

/-- Rows of the register map in block CLS. -/
def tableCls : List RegDesc := [
  ⟨"CLS_TILE_STATUS", 0x02000000, [(0x10000, 64)], false, [⟨31, 28, .RO, 0⟩, ⟨27, 23, .RO, 0⟩], 0⟩,
  ⟨"CLS_TILE_CTRL", 0x02000004, [(0x10000, 64)], false, [⟨1, 1, .WO, 0⟩, ⟨0, 0, .W1S, 0⟩], 0⟩,
  ⟨"CLS_TILE_EXC", 0x02000008, [(0x10000, 64)], true, [⟨63, 32, .RO, 0⟩, ⟨25, 16, .RO, 0⟩, ⟨7, 0, .RO, 0⟩], 0⟩,
  ⟨"CLS_TILE_COUNTS", 0x02000010, [(0x10000, 64)], true, [⟨63, 48, .RO, 0⟩, ⟨47, 32, .RO, 0⟩, ⟨31, 0, .RO, 0⟩], 0⟩,
  ⟨"CLS_FMAX", 0x02008000, [(0x40000, 16)], false, [⟨31, 31, .RO, 0⟩, ⟨27, 24, .RO, 0⟩, ⟨21, 16, .RO, 0⟩, ⟨15, 10, .RO, 0⟩, ⟨9, 5, .RO, 0⟩, ⟨4, 0, .RO, 0⟩], 0⟩,
  ⟨"CLS_DFO_STATUS", 0x02008004, [(0x40000, 16)], false, [⟨31, 26, .RO, 0⟩, ⟨25, 25, .RO, 0⟩, ⟨23, 12, .RO, 0⟩, ⟨11, 0, .RO, 0⟩], 0⟩,
  ⟨"CLS_MARGIN_CFG", 0x02008008, [(0x40000, 16)], false, [⟨31, 16, .RW, 0x3E8⟩, ⟨13, 8, .RW, 3⟩, ⟨5, 0, .RW, 8⟩], 0⟩,
  ⟨"CLS_MARGIN", 0x02008010, [(0x40000, 16)], true, [⟨47, 0, .RO, 0⟩], 0⟩,
  ⟨"CLS_DFO_COUNTS", 0x02008018, [(0x40000, 16)], true, [⟨63, 32, .RO, 0⟩, ⟨31, 16, .RO, 0⟩, ⟨15, 0, .RO, 0⟩], 0xffffffffffffffff⟩]

/-- Rows of the register map in block XLT. -/
def tableXlt0 : List RegDesc := [
  ⟨"XLT_INVAL", 0x01030000, [], false, [⟨9, 0, .WO, 0⟩], 0⟩,
  ⟨"XLT_INVAL_SEQ", 0x01030004, [], false, [⟨31, 0, .RO, 0⟩], 0⟩,
  ⟨"XLT_INVAL_DONE", 0x01030008, [], false, [⟨31, 0, .RO, 0⟩], 0⟩,
  ⟨"XLT_STATUS", 0x0103000C, [], false, [⟨31, 31, .W1C, 0⟩, ⟨30, 30, .W1C, 0⟩, ⟨13, 0, .RO, 0⟩], 0⟩,
  ⟨"XLT_FQ_BASE", 0x01030010, [], true, [⟨51, 12, .RW, 0⟩, ⟨3, 0, .RW, 0⟩], 0⟩,
  ⟨"XLT_FQ_HEAD", 0x01030018, [], false, [⟨31, 0, .RW, 0⟩], 0⟩,
  ⟨"XLT_FQ_TAIL", 0x0103001C, [], false, [⟨31, 0, .RO, 0⟩], 0⟩,
  ⟨"XLT_FQ_VEC", 0x01030020, [], false, [⟨15, 15, .RW, 0⟩, ⟨11, 0, .RW, 0⟩], 0⟩,
  ⟨"XLT_FAULT_CMD", 0x01030024, [], false, [⟨31, 28, .WO, 0⟩, ⟨15, 0, .WO, 0⟩], 0⟩,
  ⟨"XLT_FAULT_RESULT", 0x01030028, [], false, [⟨7, 0, .RO, 0⟩], 0⟩,
  ⟨"XLT_WALK_WEIR", 0x01030030, [], false, [⟨31, 16, .RW, 0x40⟩, ⟨15, 0, .RW, 0x100⟩], 0⟩,
  ⟨"XLT_COUNTS", 0x01030038, [], true, [⟨63, 32, .RO, 0⟩, ⟨31, 16, .RO, 0⟩, ⟨15, 0, .RO, 0⟩], 0xffffffffffffffff⟩,
  ⟨"XLT_TAG_CTRL", 0x01030040, [], false, [⟨0, 0, .RWL, 0⟩], 0⟩,
  ⟨"XLT_TAG_LO", 0x01030800, [(0x10, 256)], true, [⟨63, 63, .RWL, 0⟩, ⟨62, 62, .RWL, 0⟩, ⟨61, 61, .RWL, 0⟩, ⟨60, 59, .RWL, 0⟩, ⟨42, 21, .RWL, 0⟩, ⟨13, 10, .RWL, 0⟩, ⟨9, 0, .RWL, 0⟩], 0⟩]

/-- Rows of the register map in block XLT. -/
def tableXlt1 : List RegDesc := [
  ⟨"XLT_TAG_HI", 0x01030808, [(0x10, 256)], true, [⟨42, 21, .RWL, 0⟩], 0⟩,
  ⟨"XLT_SEG_V", 0x01032000, [(0x10, 128)], true, [⟨63, 63, .RWL, 0⟩, ⟨62, 62, .RWL, 0⟩, ⟨61, 61, .RWL, 0⟩, ⟨60, 60, .RWL, 0⟩, ⟨47, 21, .RWL, 0⟩], 0⟩,
  ⟨"XLT_SEG_P", 0x01032008, [(0x10, 128)], true, [⟨51, 21, .RWL, 0⟩, ⟨20, 0, .RWL, 0⟩], 0⟩]

/-- Rows of the register map in block MSH. -/
def tableMsh0 : List RegDesc := [
  ⟨"MSH_EPOCH", 0x01050000, [], false, [⟨8, 8, .W1C, 0⟩, ⟨7, 7, .W1C, 0⟩, ⟨5, 4, .RO, 0⟩, ⟨1, 1, .W1S, 0⟩, ⟨0, 0, .RO, 0⟩], 0⟩,
  ⟨"MSH_EPOCH_LIMIT", 0x01050004, [], false, [⟨31, 0, .RW, 0x2710⟩], 0⟩,
  ⟨"MSH_REQ_TIMEOUT", 0x01050008, [], false, [⟨31, 0, .RW, 0x30D40⟩], 0⟩,
  ⟨"MSH_SAMPLE_PERIOD", 0x0105000C, [], false, [⟨31, 0, .RW, 0x186A0⟩], 0⟩,
  ⟨"MSH_COUNTS", 0x01050010, [], true, [⟨63, 48, .RO, 0⟩, ⟨47, 32, .RO, 0⟩, ⟨31, 16, .RO, 0⟩, ⟨15, 0, .RO, 0⟩], 0xffffffffffffffff⟩,
  ⟨"MSH_PART_WEIR", 0x01050100, [(0x8, 64)], true, [⟨63, 63, .RWL, 0⟩, ⟨60, 48, .RWL, 0⟩, ⟨47, 32, .RWL, 0⟩], 0⟩,
  ⟨"MSH_STOPMAP", 0x01050300, [(0x8, 2)], true, [⟨61, 56, .RW, 0x1D⟩, ⟨53, 48, .RW, 0x17⟩, ⟨45, 40, .RW, 0x11⟩, ⟨37, 32, .RW, 0xB⟩, ⟨29, 24, .RW, 0x18⟩, ⟨21, 16, .RW, 0x12⟩, ⟨13, 8, .RW, 0xC⟩, ⟨5, 0, .RW, 6⟩], 0⟩,
  ⟨"MSH_DIEMAP", 0x01050800, [(0x100, 2), (0x4, 64)], false, [⟨31, 0, .RW, 0xFFFFFFFF⟩], 0⟩,
  ⟨"MSH_RT", 0x01051000, [(0x400, 36), (0x120, 2), (0x8, 36)], true, [⟨36, 32, .RW, 0⟩, ⟨31, 0, .RW, 0⟩], 0⟩,
  ⟨"MSH_PROBE", 0x01051280, [(0x400, 36), (0x8, 5)], true, [⟨63, 32, .RO, 0⟩, ⟨31, 0, .RO, 0⟩], 0⟩,
  ⟨"MSH_PROBE_FILT", 0x010512A8, [(0x400, 36)], true, [⟨63, 63, .RW, 0⟩, ⟨62, 62, .RW, 0⟩, ⟨61, 61, .RW, 0⟩, ⟨57, 56, .RW, 0⟩, ⟨55, 54, .RW, 0⟩, ⟨45, 40, .RW, 0⟩, ⟨39, 38, .RW, 0⟩, ⟨9, 0, .RW, 0⟩], 0⟩,
  ⟨"MSH_PROBE_MATCH", 0x010512B0, [(0x400, 36)], true, [⟨31, 0, .RO, 0⟩], 0⟩,
  ⟨"MSH_WEIR", 0x01051300, [(0x400, 36), (0x20, 4), (0x8, 4)], true, [⟨63, 63, .RW, 0⟩, ⟨60, 48, .RW, 0⟩, ⟨47, 32, .RW, 0⟩, ⟨31, 0, .RO, 0⟩], 0⟩,
  ⟨"MSH_INIT_OUT", 0x01051380, [(0x400, 36), (0x20, 4)], true, [⟨47, 0, .RO, 0⟩], 0⟩]

/-- Rows of the register map in block MSH. -/
def tableMsh1 : List RegDesc := [
  ⟨"MSH_INIT_IN", 0x01051388, [(0x400, 36), (0x20, 4)], true, [⟨47, 0, .RO, 0⟩], 0⟩,
  ⟨"MSH_INIT_ERR", 0x01051390, [(0x400, 36), (0x20, 4)], true, [⟨63, 32, .RO, 0⟩, ⟨31, 16, .RO, 0⟩, ⟨15, 0, .RO, 0⟩], 0xffffffffffffffff⟩]

/-- Rows of the register map in block LNK. -/
def tableLnk0 : List RegDesc := [
  ⟨"LNK_PORT_CTRL", 0x01060000, [(0x1000, 6)], false, [⟨7, 6, .RW, 3⟩, ⟨5, 4, .RW, 0⟩, ⟨3, 3, .RW, 0⟩, ⟨2, 2, .RW, 0⟩, ⟨1, 1, .W1S, 0⟩, ⟨0, 0, .RW, 0⟩], 0⟩,
  ⟨"LNK_PORT_STATUS", 0x01060004, [(0x1000, 6)], false, [⟨31, 24, .RO, 0⟩, ⟨23, 16, .RO, 0⟩, ⟨15, 15, .RO, 0⟩, ⟨14, 14, .RO, 0⟩, ⟨13, 12, .RO, 0⟩, ⟨3, 0, .RO, 0⟩], 0⟩,
  ⟨"LNK_PEER", 0x01060008, [(0x1000, 6)], false, [⟨31, 31, .RO, 0⟩, ⟨18, 16, .RO, 0⟩, ⟨8, 0, .RO, 0⟩], 0⟩,
  ⟨"LNK_EXPECT", 0x0106000C, [(0x1000, 6)], false, [⟨18, 16, .RW, 0⟩, ⟨8, 0, .RW, 0⟩], 0⟩,
  ⟨"LNK_LL_COUNTS", 0x01060010, [(0x1000, 6)], true, [⟨63, 32, .RO, 0⟩, ⟨31, 16, .RO, 0⟩, ⟨15, 0, .RO, 0⟩], 0xffffffffffffffff⟩,
  ⟨"LNK_FEC_COUNTS", 0x01060018, [(0x1000, 6)], true, [⟨63, 16, .RO, 0⟩, ⟨15, 0, .RO, 0⟩], 0⟩,
  ⟨"LNK_TX_BYTES", 0x01060020, [(0x1000, 6)], true, [⟨47, 0, .RO, 0⟩], 0⟩,
  ⟨"LNK_RX_BYTES", 0x01060028, [(0x1000, 6)], true, [⟨47, 0, .RO, 0⟩], 0⟩,
  ⟨"LNK_TIME_OFFSET", 0x01060030, [(0x1000, 6)], false, [⟨31, 0, .RO, 0⟩], 0⟩,
  ⟨"LNK_RTT", 0x01060034, [(0x1000, 6)], false, [⟨31, 0, .RO, 0⟩], 0⟩,
  ⟨"LNK_DIE", 0x01068000, [], false, [⟨8, 0, .RWL, 0⟩], 0⟩,
  ⟨"LNK_CTRL", 0x01068004, [], false, [⟨4, 0, .RW, 0x10⟩], 0⟩,
  ⟨"LNK_ACK_TIMEOUT", 0x01068008, [], false, [⟨31, 0, .RW, 0x7D0⟩], 0⟩,
  ⟨"LNK_PEER_TIMEOUT", 0x0106800C, [], false, [⟨31, 0, .RW, 0x3E8⟩], 0⟩]

/-- Rows of the register map in block LNK. -/
def tableLnk1 : List RegDesc := [
  ⟨"LNK_RESEND_T", 0x01068010, [], false, [⟨31, 0, .RW, 0x9C40⟩], 0⟩,
  ⟨"LNK_RED_WAIT", 0x01068014, [], false, [⟨31, 0, .RW, 0x7D0⟩], 0⟩,
  ⟨"LNK_AMO_BASE", 0x01068018, [], true, [⟨51, 25, .RW, 0⟩, ⟨0, 0, .RW, 0⟩], 0⟩,
  ⟨"LNK_ADMIT", 0x01068020, [], false, [⟨0, 0, .RWL, 0⟩], 0⟩,
  ⟨"LNK_TIME_CTRL", 0x01068028, [], false, [⟨10, 8, .RO, 0⟩, ⟨6, 4, .RW, 0⟩, ⟨1, 0, .RW, 0⟩], 0⟩,
  ⟨"LNK_COUNTS", 0x01068030, [], true, [⟨63, 48, .RO, 0⟩, ⟨47, 32, .RO, 0⟩, ⟨31, 16, .RO, 0⟩, ⟨15, 0, .RO, 0⟩], 0xffffffffffffffff⟩,
  ⟨"LNK_DEST", 0x01069000, [(0x4, 512)], false, [⟨11, 8, .RW, 0xF⟩, ⟨7, 4, .RW, 0xF⟩, ⟨3, 0, .RW, 0xF⟩], 0⟩,
  ⟨"LNK_RED_CFG", 0x0106A000, [(0x20, 256)], true, [⟨63, 63, .RW, 0⟩, ⟨62, 62, .RW, 0⟩, ⟨61, 61, .RW, 0⟩, ⟨60, 60, .RW, 0⟩, ⟨59, 56, .RW, 0⟩, ⟨55, 52, .RW, 0⟩, ⟨41, 32, .RW, 0⟩, ⟨9, 0, .RW, 0⟩], 0⟩,
  ⟨"LNK_RED_DEST", 0x0106A008, [(0x20, 256)], true, [⟨51, 17, .RW, 0⟩], 0⟩,
  ⟨"LNK_RED_DONE", 0x0106A010, [(0x20, 256)], true, [⟨51, 3, .RW, 0⟩], 0⟩]

/-- Rows of the register map in block KPR. -/
def tableKpr0 : List RegDesc := [
  ⟨"KPR_MB_CMD", 0x01090000, [(0x1000, 2)], false, [⟨31, 24, .WO, 0⟩], 0⟩,
  ⟨"KPR_MB_STATUS", 0x01090004, [(0x1000, 2)], false, [⟨31, 31, .RO, 0⟩, ⟨23, 16, .RO, 0⟩, ⟨1, 1, .RO, 0⟩, ⟨0, 0, .RO, 0⟩], 0⟩,
  ⟨"KPR_MB_CFG", 0x01090008, [(0x1000, 2)], false, [⟨15, 15, .RW, 0⟩, ⟨11, 0, .RW, 0⟩], 0⟩,
  ⟨"KPR_MB_DATA", 0x01090100, [(0x1000, 2), (0x8, 32)], true, [⟨63, 0, .RW, 0⟩], 0⟩,
  ⟨"KPR_STATE", 0x01092000, [], false, [⟨31, 16, .RO, 0⟩, ⟨11, 10, .RO, 0⟩, ⟨9, 9, .RO, 0⟩, ⟨8, 8, .RO, 0⟩, ⟨3, 0, .RO, 0⟩], 0⟩,
  ⟨"KPR_GEN", 0x01092004, [(0x4, 7)], false, [⟨31, 0, .RO, 0⟩], 0⟩,
  ⟨"KPR_ALARM_POLICY", 0x01092040, [], false, [⟨17, 17, .RWL, 0⟩, ⟨16, 16, .RWL, 0⟩, ⟨11, 10, .RWL, 2⟩, ⟨9, 8, .RWL, 2⟩, ⟨7, 6, .RWL, 1⟩, ⟨5, 4, .RO, 3⟩, ⟨3, 2, .RWL, 3⟩, ⟨1, 0, .RWL, 3⟩], 0⟩,
  ⟨"KPR_ALARM_COUNTS", 0x01092048, [], true, [⟨63, 0, .RO, 0⟩], 0⟩,
  ⟨"KPR_DEBUG", 0x01092060, [], false, [⟨31, 16, .RWL, 0⟩, ⟨1, 1, .RWL, 0⟩, ⟨0, 0, .RWL, 0⟩], 0⟩,
  ⟨"KPR_DEBUG_UNTIL", 0x01092068, [], true, [⟨63, 0, .RWL, 0⟩], 0⟩,
  ⟨"KPR_KEY_USE", 0x01092080, [], false, [⟨8, 0, .RO, 0⟩], 0⟩,
  ⟨"KPR_ID_PUB", 0x01092200, [(0x8, 8)], true, [⟨63, 0, .RO, 0⟩], 0⟩,
  ⟨"KPR_SEAL_POLICY", 0x01092400, [(0x8, 16)], true, [⟨63, 63, .RWL, 0⟩, ⟨62, 62, .RWL, 0⟩, ⟨11, 8, .RWL, 0⟩, ⟨7, 0, .RWL, 0⟩], 0⟩,
  ⟨"KPR_SIGNER", 0x01092600, [(0x40, 4), (0x8, 6)], true, [⟨63, 0, .RWL, 0⟩], 0⟩]

/-- Rows of the register map in block KPR. -/
def tableKpr1 : List RegDesc := [
  ⟨"KPR_ADMIT", 0x01093000, [(0x40, 64)], true, [⟨63, 63, .RWL, 0⟩, ⟨62, 62, .RWL, 0⟩, ⟨8, 0, .RWL, 0⟩], 0⟩,
  ⟨"KPR_ADMIT_HASH", 0x01093008, [(0x40, 64), (0x8, 6)], true, [⟨63, 0, .RWL, 0⟩], 0⟩,
  ⟨"KPR_MBOX_USE", 0x01097FF0, [], false, [⟨11, 0, .RO, 0⟩], 0⟩,
  ⟨"KPR_MBOX_BIND", 0x01098000, [(0x8, 4095)], true, [⟨63, 63, .RW, 0⟩, ⟨62, 61, .RW, 0⟩, ⟨56, 48, .RW, 0⟩, ⟨37, 32, .RW, 0⟩, ⟨9, 0, .RW, 0⟩], 0⟩,
  ⟨"KPR_MBOX_BIND4095", 0x0109FFF8, [], true, [⟨63, 63, .RO, 0⟩, ⟨62, 61, .RO, 0⟩, ⟨56, 48, .RO, 0⟩, ⟨37, 32, .RO, 0⟩, ⟨9, 0, .RO, 0⟩], 0⟩]

/-- Rows of the register map in block ERR. -/
def tableErr : List RegDesc := [
  ⟨"ERR_LOG_SEQ", 0x010C0000, [], false, [⟨15, 0, .RO, 0⟩], 0⟩,
  ⟨"ERR_LOG_READ", 0x010C0004, [], false, [⟨15, 0, .RW, 0⟩], 0⟩,
  ⟨"ERR_LOG_CTRL", 0x010C0008, [], false, [⟨16, 16, .RO, 1⟩, ⟨15, 15, .RW, 0⟩, ⟨11, 0, .RW, 0⟩], 0⟩,
  ⟨"ERR_LOG_OVF", 0x010C000C, [], false, [⟨15, 0, .RO, 0⟩], 0xffff⟩,
  ⟨"ERR_CONC", 0x010C0010, [], true, [⟨38, 32, .RO, 0⟩, ⟨31, 0, .RO, 0⟩], 0xffffffff⟩,
  ⟨"ERR_VEC_DATA", 0x010C0020, [], false, [⟨31, 12, .RW, 0⟩], 0⟩,
  ⟨"ERR_VEC_COUNTS", 0x010C0028, [], false, [⟨15, 0, .RO, 0⟩], 0xffff⟩,
  ⟨"ERR_VEC", 0x010C8000, [(0x8, 4096)], true, [⟨63, 63, .RW, 0⟩, ⟨62, 62, .RO, 0⟩, ⟨51, 2, .RW, 0⟩], 0⟩]

/-- Rows of the register map in block MON. -/
def tableMon0 : List RegDesc := [
  ⟨"MON_CTRL", 0x010B0000, [], false, [⟨31, 16, .RW, 0xA⟩, ⟨0, 0, .RW, 0⟩], 0⟩,
  ⟨"MON_STATUS", 0x010B0004, [], false, [⟨4, 4, .RO, 0⟩, ⟨3, 3, .W1C, 0⟩, ⟨2, 2, .W1C, 0⟩, ⟨1, 1, .W1C, 0⟩, ⟨0, 0, .W1C, 0⟩], 0⟩,
  ⟨"MON_DROPS", 0x010B0008, [], true, [⟨63, 32, .RO, 0⟩, ⟨31, 0, .RO, 0⟩], 0xffffffffffffffff⟩,
  ⟨"MON_DEMAND", 0x010B0040, [(0x4, 16)], false, [⟨31, 0, .RO, 0⟩], 0⟩,
  ⟨"MON_CAP_BASE", 0x010B0080, [], true, [⟨51, 12, .RW, 0⟩, ⟨4, 0, .RW, 0⟩], 0⟩,
  ⟨"MON_CAP_HEAD", 0x010B0088, [], false, [⟨31, 0, .RW, 0⟩], 0⟩,
  ⟨"MON_CAP_TAIL", 0x010B008C, [], false, [⟨31, 0, .RO, 0⟩], 0⟩,
  ⟨"MON_TRACE_CTRL", 0x010B00A0, [], false, [⟨31, 31, .RW, 0⟩, ⟨30, 30, .RW, 0⟩, ⟨29, 29, .RW, 0⟩, ⟨25, 16, .RW, 0⟩, ⟨10, 1, .RW, 0⟩], 0⟩,
  ⟨"MON_TRACE_BASE", 0x010B00A8, [], true, [⟨51, 12, .RW, 0⟩, ⟨4, 0, .RW, 0⟩], 0⟩,
  ⟨"MON_TRACE_HEAD", 0x010B00B0, [], false, [⟨31, 0, .RW, 0⟩], 0⟩,
  ⟨"MON_TRACE_TAIL", 0x010B00B4, [], false, [⟨31, 0, .RO, 0⟩], 0⟩,
  ⟨"MON_SLOT_CFG", 0x010B1000, [(0x8, 256)], true, [⟨63, 63, .RW, 0⟩, ⟨62, 60, .RW, 0⟩, ⟨52, 48, .RW, 0⟩, ⟨47, 32, .RW, 0⟩, ⟨15, 0, .RW, 0⟩], 0⟩,
  ⟨"MON_SLOT_MIN", 0x010B2000, [(0x60, 256)], true, [⟨63, 32, .RO, 0⟩, ⟨31, 0, .RO, 0⟩], 0⟩,
  ⟨"MON_SLOT_SAMPLES", 0x010B2008, [(0x60, 256)], true, [⟨63, 0, .RO, 0⟩], 0⟩]

/-- Rows of the register map in block MON. -/
def tableMon1 : List RegDesc := [
  ⟨"MON_SLOT_FLAGS", 0x010B2010, [(0x60, 256)], true, [⟨13, 8, .RO, 0⟩, ⟨2, 2, .RO, 0⟩, ⟨1, 1, .RO, 0⟩, ⟨0, 0, .RO, 0⟩], 0⟩,
  ⟨"MON_SLOT_BIN", 0x010B2020, [(0x60, 256), (0x4, 16)], false, [⟨31, 0, .RO, 0⟩], 0⟩,
  ⟨"MON_CTX", 0x010B8000, [(0x20, 1024), (0x8, 4)], true, [⟨63, 48, .RO, 0⟩, ⟨47, 0, .RO, 0⟩], 0⟩]

/-- Rows of the register map in block DBG. -/
def tableDbg : List RegDesc := [
  ⟨"DBG_CMD", 0x010D0000, [], false, [⟨29, 24, .RW, 0⟩, ⟨3, 0, .WO, 0⟩], 0⟩,
  ⟨"DBG_STATUS", 0x010D0004, [], false, [⟨31, 31, .RO, 0⟩, ⟨23, 16, .RO, 0⟩, ⟨8, 8, .RO, 0⟩, ⟨2, 0, .RO, 0⟩], 0⟩,
  ⟨"DBG_ADDR", 0x010D0008, [], true, [⟨63, 63, .RW, 0⟩, ⟨19, 3, .RW, 0⟩], 0⟩,
  ⟨"DBG_DATA", 0x010D0010, [], true, [⟨63, 0, .RW, 0⟩], 0⟩,
  ⟨"DBG_HALTED", 0x010D0018, [], true, [⟨63, 0, .RO, 0⟩], 0⟩,
  ⟨"DBG_BP", 0x010D0020, [(0x8, 4)], true, [⟨63, 63, .RW, 0⟩, ⟨61, 56, .RW, 0⟩, ⟨31, 0, .RW, 0⟩], 0⟩]

/-- The whole register map. -/
def regTable : List RegDesc :=
  tableEng ++ tablePwr0 ++ tablePwr1 ++ tablePwr2 ++ tablePwr3 ++ tableClk ++ tableWat ++ tableObj ++ tableDsp0 ++ tableDsp1 ++ tableCls ++ tableXlt0 ++ tableXlt1 ++ tableMsh0 ++ tableMsh1 ++ tableLnk0 ++ tableLnk1 ++ tableKpr0 ++ tableKpr1 ++ tableErr ++ tableMon0 ++ tableMon1 ++ tableDbg

end Reg

/-- Offsets of a family at `off` inside its strided indices: true when `o` names one member. -/
def dimsHit : List (Nat × Nat) → Nat → Bool
  | [], o => o == 0
  | (s, n) :: r, o => if o / s < n then dimsHit r (o % s) else false

/-- `o` is the first offset of a register of the description. -/
def RegDesc.hits (d : RegDesc) (o : Nat) : Bool :=
  d.off ≤ o && dimsHit d.dims (o - d.off)

/-- The register that begins at aperture offset `o`, if one does (R21). -/
def regAt (o : Nat) : Option RegDesc := Reg.regTable.find? (·.hits o)

/-- The reset value the field table of a register gives. -/
def RegDesc.resetValue (d : RegDesc) : Nat :=
  d.fields.foldl (fun a f => a + f.reset * 2 ^ f.lo) 0

/-- Mask of the bits of a register whose field has one of the given types. -/
def RegDesc.maskOf (d : RegDesc) (p : FType → Bool) : Nat :=
  d.fields.foldl (fun a f => if p f.ty then a + (2 ^ (f.hi + 1) - 2 ^ f.lo) else a) 0

end Sys2Proof.Machine
end

