-- ==== Sys2Proof/Machine/Tab.lean ====
section
/-! DEFINITION. Finite tables: a list of (number, value) pairs read with a default.  They hold the
indexed state of the block (queues, contexts, tiles, vector lanes, register fields): one entry per
number that something has written, every other number at its default. -/

namespace Sys2Proof.Machine

/-- A table from numbers to values. -/
abbrev Tab (α : Type) := List (Nat × α)

/-- The value of entry `k`, or `d` where nothing has been written. -/
def Tab.get {α : Type} (d : α) : Tab α → Nat → α
  | [], _ => d
  | (k', v) :: r, k => if k' = k then v else Tab.get d r k

/-- The table with entry `k` set to `v`. -/
def Tab.set {α : Type} : Tab α → Nat → α → Tab α
  | [], k, v => [(k, v)]
  | (k', v') :: r, k, v => if k' = k then (k, v) :: r else (k', v') :: Tab.set r k v

/-- The table without the entries whose number satisfies `p`; they read as the default again. -/
def Tab.drop {α : Type} (p : Nat → Bool) : Tab α → Tab α
  | [] => []
  | (k', v) :: r => if p k' then Tab.drop p r else (k', v) :: Tab.drop p r

/-- Entry `k` changed by `f`. -/
def Tab.upd {α : Type} (d : α) (m : Tab α) (k : Nat) (f : α → α) : Tab α :=
  m.set k (f (Tab.get d m k))

/-- The numbers below `n` whose entry satisfies `p`, in ascending order. -/
def Tab.where_ {α : Type} (d : α) (m : Tab α) (n : Nat) (p : α → Bool) : List Nat :=
  (List.range n).filter fun k => p (Tab.get d m k)

end Sys2Proof.Machine
end

