-- ==== Sys2Proof/Machine/State.lean ====
section
/-! DEFINITION. The state of the block as plain data: every register, FIFO, buffer, counter, mode
and pin that the spec gives the die, and the queue of the commands that wait.  Registers whose
value the spec describes field by field live in `regs`, one number per field; state that the spec
describes as records (contexts, queues, packets, tiles, ports, ...) has a structure of its own.
INVENTORY.md lists each piece with its rule. -/

namespace Sys2Proof.Machine

/-- Why the block would stop with a fault.  The block reports every fault as a record (R671) and
goes on, so no meaning raises one: safe. -/
inductive Fault where
  /-- raised by no meaning; kept so that the type names what the model does not do.  Safe. -/
  | blockStops
  deriving DecidableEq, Repr

/-- Why the model would not give a command a meaning. -/
inductive Refusal where
  /-- raised by `exec` for a command whose meaning is not written; safe -/
  | notModelled (mnemonic : String)
  deriving DecidableEq, Repr

/-! ## Fuses and configuration (R2-R10, R53-R57) -/

/-- What the fuses hold (R10): the identification that ENG reads, per-cluster frequencies, the
monotonic counters of R632 and the Keeper's secrets, by identity. -/
structure Fuses where
  /-- 0x1 Narno N7, 0x2 Yard module (R53) -/
  package : Nat
  /-- 0x1 C8, 0x2 C12, 0x3 C16, 0x4 Y (R53) -/
  config : Nat
  /-- 0x0 S, 0x1 X (R53) -/
  grade : Nat
  /-- bit c: cluster c enabled (R54) -/
  clusterEn : Nat
  serial : Nat
  /-- FMAX_FUSED of each cluster, 25 MHz units above 1,600 MHz as CLS_FMAX reads it (R577) -/
  fmax : Tab Nat
  /-- ageing steps blown for each cluster (R553) -/
  ageSteps : Tab Nat
  /-- BASE_CODE and TEMPCO of each cluster (R577) -/
  baseCode : Tab Nat
  tempco : Tab Nat
  /-- thermometer counters of the images' security versions: KFW, DSPM, WATCH (R632) -/
  svn : Tab Nat
  deriving DecidableEq, Repr

/-! ## The flight (chapter 02) -/

/-- A power domain (R33, R60): its state, the attempt of its present step (R67), its ramp (R64), and
whether every step before OPEN has passed.  `trainDue` is set between PD10's lock and the end of its
interface training.  `since` is the GTC at which its present step, wait or closing began (R66, R67, R92). -/
structure Dom where
  st : DomSt
  attempt : Nat
  ramp : RampSt
  trainDue : Bool
  ready : Bool
  since : Nat
  deriving DecidableEq, Repr

def Dom.reset : Dom := ⟨.closed, 0, .none, false, false, 0⟩

/-- A domain gate in its present gate cycle (R39): the tick at which it last acted, the rank of the command it carried
out, and the acknowledgements it gave at that tick, each with its command's rank and whether it was carried out. -/
structure Gate where
  at_ : Option Nat
  rank : Nat
  acks : List (Nat × Bool)
  deriving DecidableEq, Repr

def Gate.reset : Gate := ⟨none, 0, []⟩

/-- The flight sequencer in PD0 (R59): whether a flight runs, the domains still to open, and what the
Keeper has done for it.  The register fields KIND, PHASE, DOMAIN, STEP, ATTEMPT, STOPPED and REF_RC
live in `regs`. -/
structure FlightSeq where
  running : Bool
  /-- the next RESET_N rise starts a cold flight: nothing but power-on has happened (R90), or VDD_SOC
  was lost and the Keeper derives its keys afresh (R741) -/
  coldNext : Bool
  deriveNext : Bool
  todo : List Nat
  /-- GTC at which the last cluster ramp started (R65) -/
  lastClRamp : Option Nat
  /-- domain that the flight started last -/
  lastDom : Option Nat
  /-- waiting for T_hot to fall before its first step (R752) -/
  heatWait : Bool
  /-- GTC at which the fuse shadow began to load (R96), and at which the Keeper began to wait for a bundle (R74) -/
  fuseAt : Nat
  waitAt : Nat
  katDone : Bool
  otpDone : Bool
  bundleFetched : Bool
  kfwLoaded : Bool
  dspmLoaded : Bool
  watchFailed : Bool
  /-- image bundle held in PD0: address, CID, total length (R79) -/
  bundle : Option (Nat × Nat × Nat)
  /-- image entries of the bundle fetched: type, SVN, offset, length (R630), and its COMMIT_SVN flag -/
  images : List (Nat × Nat × Nat × Nat)
  commitSvn : Bool
  /-- SVNs of the loaded KFW (1) and DSPM (2) -/
  svn : Tab Nat
  /-- at a resume flight: key store unwrapped, DSPM checked, state restored (R88) -/
  unwrapped : Bool
  dspmChecked : Bool
  restored : Bool
  /-- step reached in the entry into watch standby (R84), 0 when no entry runs, and the GTC of the request -/
  entryStep : Nat
  entryAt : Nat
  /-- a wake arrived from step 5 of the entry on; the resume flight follows at once (R85) -/
  wakeDue : Bool
  deriving DecidableEq, Repr

def FlightSeq.reset : FlightSeq :=
  ⟨false, true, true, [], none, none, false, 0, 0, false, false, false, false, false, false, none, [], false, [],
   false, false, false, 0, 0, false⟩

/-! ## Reports, the fault log and events (chapters 01 and 17) -/

/-- A trace record (R687). -/
structure TraceRec where
  stamp : Nat
  kind : Nat
  unit : Nat
  cid : Option Nat
  data : Nat
  deriving DecidableEq, Repr

/-- The fault concentrator (R43, R44), the always-on entry of PD0 (R128) and what is on its way. -/
structure Conc where
  /-- reports sent and not yet arrived or held at their senders (R44), oldest first -/
  sent : List Report
  /-- the 64 places, oldest first -/
  fifo : List Report
  /-- always-on entry: the flight sequencer's reserve and the other part, 8 places each -/
  aonSeq : List FaultRec
  aonOther : List FaultRec
  /-- number of the next fault record -/
  nextId : Nat
  /-- log sequence of each record entered, by its number -/
  seqOf : Tab (Option Nat)
  /-- count of records entered and not yet consumed (R677) -/
  unread : Nat
  /-- the 512 log entries, 32 bytes each (R675): entry i at +32i -/
  log : Cells
  /-- reports held back at their senders (R44), in the order in which they enter -/
  held : List Report
  /-- wake, demand, phase and sample reports passed on and not yet taken by their receivers (R42) -/
  inbox : List Report
  /-- the last tick at which reports entered, and the senders' keys of those that did, in order (R43) -/
  enteredAt : Nat
  enteredKeys : List Nat
  /-- trace records waiting for the ring (R688), oldest first -/
  trace : List TraceRec
  /-- a write to the capture or trace ring failed and its base has not been written since (R684, R688) -/
  capStop : Bool
  traceStop : Bool
  deriving DecidableEq, Repr

def Conc.reset : Conc := ⟨[], [], [], [], 1, [], 0, [], [], [], 0, [], [], false, false⟩

/-- What the monitors hold beside their registers (R42, R683): the partial that a unit gathers for each slot and the
GTC at which it last sent one; the same for each context's counts; the last counter snapshot of each router and link
port; the last activity count of each cluster; the window that each slot last captured (R684); and the bytes that each
initiator has moved in the present 1,000 t (R681), by `4 stop + unit`. -/
structure Mon where
  part : Tab Partial
  partAt : Tab Nat
  ctx : Tab CtxPart
  ctxAt : Tab Nat
  probes : Tab (List Nat)
  rtt : Tab Nat
  activity : Tab Nat
  window : Tab Nat
  moved : Tab Nat
  deriving DecidableEq, Repr

def Mon.reset : Mon := ⟨[], [], [], [], [], [], [], [], []⟩

/-- A write to a DOORBELL or CANCEL register (R200): for a cancel, with the 512-byte blocks that a transfer under way still
moves before it stops. -/
structure DbWrite where
  cancel : Bool
  qid : Nat
  value : Nat
  blocks : Nat
  deriving DecidableEq, Repr

/-- The host interface of the host port (R679): event packets on their way and the 32-bit writes
made to the host, oldest first. -/
structure HostOut where
  events : List Nat
  writes : List (Nat × Nat)
  /-- MGMT in-band interrupts raised (R588): the rail of each -/
  ibi : List Nat
  /-- doorbell and cancel writes accepted and not yet taken by the queue engine, at most 64, oldest first, and writes whose
  acceptance the host port withholds (R204) -/
  places : List DbWrite
  withheld : List DbWrite
  deriving DecidableEq, Repr

def HostOut.reset : HostOut := ⟨[], [], [], [], []⟩

/-! ## Contexts, queues and waiters (chapters 04 and 05) -/

/-- A wharf arena descriptor (R447). -/
structure Arena where
  va : Nat
  chunks : Nat
  statePa : Nat
  deriving DecidableEq, Repr

/-- A context (R155, R157): the engine's copy of its descriptor and its state. -/
structure Ctx where
  st : CtxSt
  pid : Nat
  transRoot : Nat
  /-- TRANS_MODE 0x01: segments -/
  segments : Bool
  trapUnwritten : Bool
  lossVec : Nat
  closeVec : Nat
  vecBase : Nat
  vecCount : Nat
  arena : Option Arena
  /-- LOSS_VEC still to be written (R183 step 6) -/
  lossDue : Bool
  /-- number of its 0x0E record -/
  lossRec : Option Nat
  /-- walk weir bucket (R424) -/
  walks : Nat
  /-- GTC at which its drain took effect (R184) -/
  drainAt : Nat
  deriving DecidableEq, Repr

def Ctx.reset : Ctx := ⟨.free, 0, 0, false, false, 0, 0, 0, 0, none, false, none, 0, 0⟩

/-- Counts of a task that its tile keeps (R226, R384): elements converted, clipped, flushed, NaNs produced and reads of
unwritten lines. -/
structure RunStats where
  converted : Nat
  clipped : Nat
  flushed : Nat
  nan : Nat
  unwritten : Nat
  deriving DecidableEq, Repr

def RunStats.zero : RunStats := ⟨0, 0, 0, 0, 0⟩

/-- A task instance that has been sent (R223, R253, R259). -/
structure Run where
  inst : Nat
  place : Place
  /-- ticks on tiles, summed over placements (R253) -/
  runT : Nat
  /-- the GTC at its last SEND (R244) and at its last hand-over (R253) -/
  sentAt : Nat
  since : Nat
  /-- dispatcher cycle of its last entry into the pool (R240 key 5, R259) -/
  entry : Nat
  /-- fault 0x22 was recorded for it -/
  overrun : Bool
  /-- the outcome its abort gives it, once the tile is free (R183, R227) -/
  abort : Option PktEnd
  /-- counts saved with its state, while a slot holds it -/
  stats : RunStats
  deriving DecidableEq, Repr

/-- A reference taken to a memory object (R171): place of the handle in the packet, the handle, and the
object's ADDR, SIZE, GEN and owning CID. -/
structure Ref where
  off : Nat
  handle : Nat
  addr : Nat
  size : Nat
  gen : Nat
  owner : Nat
  deriving DecidableEq, Repr

/-- A packet the queue engine holds (R214): the context under which it was fetched, its 64 bytes, the handles whose
references it took, and how far it has got. -/
structure Pkt where
  cid : Nat
  index : Nat
  raw : Nat
  refs : List Ref
  /-- address of its fence, when it has one, and the context whose fence it is (R176) -/
  fenceVa : Option Nat
  fenceCid : Nat
  st : PktSt
  /-- dispatcher cycle of its entry into the pool (R240 key 5) -/
  entry : Nat
  /-- instances already sent -/
  nextInst : Nat
  runs : List Run
  /-- no further instance starts (R223, R227, R247) -/
  noMore : Bool
  /-- first failing outcome of an instance (R223) -/
  firstEnd : Option PktEnd
  /-- the packet's outcome is decided; it retires next (R224) -/
  ended : Option PktEnd
  startMissed : List Nat
  startMiss : Bool
  finishMiss : Bool
  startT : Nat
  endT : Nat
  /-- tile of a TASK, 0xFF otherwise (R226) -/
  tile : Nat
  runT : Nat
  converted : Nat
  clipped : Nat
  flushed : Nat
  nan : Nat
  unwritten : Nat
  /-- DMA engine it runs on, and bytes done -/
  dma : Option Nat
  done : Nat
  /-- suspended by a fault under this token (R428) -/
  token : Option Nat
  deriving DecidableEq, Repr

/-- A packet held in a stage slot (R207-R209). -/
structure Staged where
  index : Nat
  raw : Nat
  refs : List Ref
  deriving DecidableEq, Repr

/-- A queue (R163, R200, R211): the fields of its descriptor, its counters, its stage slot, its cancel
horizon, its dispatch weir and the packets it holds, oldest first. -/
structure Queue where
  st : QueueSt
  ringVa : Nat
  recVa : Nat
  head : Nat
  tail : Nat
  seq : Nat
  ringLog2 : Nat
  recLog2 : Nat
  band : Nat
  prompt : Bool
  stage : Bool
  priv : Bool
  missPolicy : Nat
  prefetch : Nat
  share : Nat
  recNo : Nat
  dups : Nat
  tailErrs : Nat
  stageSlot : Bool
  staged : Option Staged
  /-- index whose stage read is under way (R208) -/
  staging : Option Nat
  /-- cancel horizon: the last index that a range cancel covered (R227) -/
  horizon : Option Nat
  /-- dispatch weir credit in tile-ticks with 12 fraction bits (R244) -/
  credit : Int
  pkts : List Pkt
  deriving DecidableEq, Repr

def Queue.reset : Queue :=
  ⟨.disabled, 0, 0, 0, 0, 0, 0, 0, 0, false, false, false, 0, 0, 0, 0, 0, 0, false, none, none,
   none, 0, []⟩

/-- A waiter (R180): the context whose waiter it is, and the CID under which its fence is read.  Entries below 32,768
belong to the queue of their number; `barrier` marks one that a BARRIER holds (R221). -/
structure Waiter where
  ctx : Nat
  cid : Nat
  fence : Nat
  target : Nat
  vector : Nat
  barrier : Bool
  deriving DecidableEq, Repr

/-! ## The dispatcher (chapter 06) -/

/-- The dispatcher's view of a tile (R278): its state, its claim, its last context and PROGRAM handle
(R241), the instance or packet it holds, the GTC since which it is idle (R266), and the task that takes the place of one
that yields: queue, index, instance and whether it was switched out (R257). -/
structure DTile where
  st : TileSt
  claim : Option Nat
  lastCid : Option Nat
  lastProg : Nat
  cur : Option (Nat × Nat × Nat)
  idleSince : Nat
  next : Option (Nat × Nat × Nat × Bool)
  deriving DecidableEq, Repr

def DTile.reset : DTile := ⟨.idle, none, none, 0, none, 0, none⟩

/-- A fenced cluster (R268): its former partition, whether the fence was acknowledged, and the GTC of the order. -/
structure Fenced where
  cluster : Nat
  former : Nat
  acked : Bool
  at_ : Nat
  deriving DecidableEq, Repr

/-- A pick that awaits SEND (R235): the packet and the (tile, instance) pairs; `resume` for a
switched-out instance. -/
structure Pick where
  qid : Nat
  index : Nat
  tiles : List (Nat × Nat)
  resume : Bool
  deriving DecidableEq, Repr

/-- The dispatcher in PD3 (R235-R269). -/
structure Disp where
  /-- dispatches: between READY or DEGRADED and the next reset or standby entry (R84, R252) -/
  on : Bool
  /-- number of the present dispatcher cycle, and of the last pick (R236) -/
  cycle : Nat
  lastPick : Option Nat
  pick : Option Pick
  /-- hand-overs sent and not yet received: tile, queue, index, instance (R38, R307) -/
  handovers : List (Nat × Nat × Nat × Nat)
  /-- the shared cancel list: (queue, index) (R227) -/
  cancels : List (Nat × Nat)
  tiles : Tab DTile
  /-- occupied slots: (partition, slot) (R260) -/
  slots : List (Nat × Nat)
  /-- demand reports sent and not answered: (cluster, GTC) (R243) -/
  demands : List (Nat × Nat)
  fences : List Fenced
  /-- packets waiting for each DMA engine, (queue, index), oldest first (R221) -/
  dma : Tab (List (Nat × Nat))
  deriving DecidableEq, Repr

def Disp.reset : Disp := ⟨false, 0, none, none, [], [], [], [], [], [], []⟩

/-! ## The tile machine (chapters 07 to 10) -/

/-- A hardware loop register (R283, R309). -/
structure LoopReg where
  count : Nat
  start : Nat
  stop : Nat
  deriving DecidableEq, Repr

def LoopReg.reset : LoopReg := ⟨0, 0, 0⟩

/-- A barge in the mover queue (R281, R331, R336): the fields of a mover-queue entry. -/
structure Barge where
  va : Nat
  desc : BitVec 256
  m1 : Word
  m2 : Word
  m3 : Word
  /-- elements below this index are moved -/
  done : Nat
  /-- `[12:0]` func of the XFER -/
  func : BitVec 13
  faulted : Bool
  deriving DecidableEq, Repr

/-- A tile exception not yet recorded (R305): code, detail, the PC of its instruction and the instruction's
place in issue order (R304). -/
structure TileExc where
  code : Nat
  detail : Nat
  pc : Nat
  order : Nat
  deriving DecidableEq, Repr

/-- A matrix, vector or conversion instruction under way (R282): its unit, the tile-store ranges it
reads or writes and the registers it writes. -/
structure UnitOp where
  /-- 0 matrix, 1 vector, 2 conversion (R280) -/
  unit : Nat
  reads : List (Nat × Nat)
  writes : List (Nat × Nat)
  /-- register numbers written, as `Tile` numbers them for interlocks -/
  regs : List Nat
  /-- the exception that the unit meets in it (R304) -/
  exc : Option TileExc
  deriving DecidableEq, Repr

/-- An instruction-store line (R296): context, object entry index, generation and line offset. -/
structure ILine where
  cid : Nat
  entry : Nat
  gen : Nat
  off : Nat
  deriving DecidableEq, Repr

/-- What a waiting control core waits for (R337, R111). -/
inductive WaitFor where
  | barges (mask : Nat)
  | units
  | tick (at_ : Nat)
  | frame
  deriving DecidableEq, Repr

/-- What a control core blocked by an instruction waits for (R341-R344): the answer to a mailbox send, with the
message to send again after FULL; a message; or the old word of another die's atomic. -/
inductive Call where
  | send (die mbox sreg : Nat) (msg : List Nat) (nb : Bool) (again : Option Nat)
  | recv (mbox sreg lines addr : Nat)
  | atom (pa sreg : Nat) (w64 : Bool)
  deriving DecidableEq, Repr

/-- A tile (R283), or the watch island's core with the same register files (R110). -/
structure Tile where
  core : CoreSt
  /-- task it runs: queue, ring index, instance; and its context -/
  task : Option (Nat × Nat × Nat)
  cid : Nat
  s : Tab Word
  a : Tab DWord
  t : Tab (BitVec 256)
  /-- lane `i` of register `k` at `64 k + i` -/
  v : Tab Word
  /-- element (row r, column c) of accumulator `k` at `4096 k + 64 r + c` -/
  acc : Tab Word
  /-- type tag of each accumulator: true FP32 (R284) -/
  accFp : Tab Bool
  p : Tab DWord
  loops : Tab LoopReg
  depth : Nat
  pc : Nat
  tmode : Word
  /-- rescale table (R285) -/
  rescale : Tab DWord
  /-- stochastic rounding state of each lane (R396) -/
  stoch : Tab (BitVec 16)
  converted : Nat
  clipped : Nat
  flushed : Nat
  nan : Nat
  unwritten : Nat
  store : Cells
  /-- lines whose written bit is 1 (R289) -/
  written : Tab Bool
  /-- instruction store: most recently used first within the whole store (R296) -/
  istore : List ILine
  /-- line fetch under way -/
  fetch : Option ILine
  barges : List Barge
  units : List UnitOp
  /-- instructions issued by the control core to units, for the order of R304 -/
  issueNo : Nat
  wait : Option WaitFor
  call : Option Call
  exc : Option TileExc
  /-- draining after END (true) or an abort or exception (false) (R305, R308) -/
  atEnd : Bool
  /-- the program: entry index, GEN, ADDR and SIZE of its object (R295) -/
  progEntry : Nat
  progGen : Nat
  progVa : Nat
  progSize : Nat
  /-- trapUnwritten of the task's context (R291) -/
  trapUnwritten : Bool
  /-- phase number of the last PHASE (R349) -/
  phase : Nat
  /-- yields: waiting for the dispatcher's comparison (R257) -/
  yielding : Bool
  /-- stopped by debug (R653) -/
  halted : Bool
  haltCause : Nat
  stepping : Bool
  /-- breakpoint passed at this PC: the next instruction issues although a breakpoint names it -/
  bpSkip : Bool
  deriving DecidableEq, Repr

def Tile.reset : Tile :=
  ⟨.idle, none, 0, [], [], [], [], [], [], [], [], 0, 0, 0, [], [], 0, 0, 0, 0, 0, [], [], [], none,
   [], [], 0, none, none, none, false, 0, 0, 0, 0, false, 0, false, false, 0, false, false⟩

/-! ## Translation and the basin (chapter 11) -/

/-- A TLB entry (R420): context, first virtual address, page size in bits (21 or 30), frame and rights,
and the CACHE attribute. -/
structure TlbEntry where
  cid : Nat
  va : Nat
  bits : Nat
  pa : Nat
  r : Bool
  w : Bool
  a : Bool
  cache : Bool
  deriving DecidableEq, Repr

/-- A walk-cache entry (R420): the table that level `level` of the walk of this prefix reads, with the
permits seen above it. -/
structure WalkEntry where
  cid : Nat
  level : Nat
  prefix_ : Nat
  table : Nat
  hw : Bool
  ua : Bool
  deriving DecidableEq, Repr

/-- A requester of a walk: number of its first-level TLB (tile 0-63, DMA0 64, DMA1 65, 255 none). -/
abbrev Walker := Nat

/-- A walk, pending or in progress (R421-R423). -/
structure Walk where
  cid : Nat
  /-- 2 MiB page of the request -/
  page : Nat
  va : Nat
  who : List Nat
  band : Nat
  order : Nat
  started : Bool
  level : Nat
  table : Nat
  hw : Bool
  ua : Bool
  /-- table pointers read on the way, for the walk cache (R421) -/
  path : List WalkEntry
  deriving DecidableEq, Repr

/-- A suspension awaiting the driver's answer (R429, R430). -/
structure Susp where
  token : Nat
  cid : Nat
  qid : Nat
  index : Nat
  inst : Nat
  va : Nat
  stamp : Nat
  code : Nat
  access : Nat
  unit : Nat
  level : Nat
  entry : Nat
  fault : Nat
  /-- its fault-queue entry has been written -/
  written : Bool
  deriving DecidableEq, Repr

/-- Translation in PD4 (R420-R431). -/
structure Xlt where
  tlb1 : Tab (List TlbEntry)
  tlb2 : List TlbEntry
  cache : List WalkEntry
  walks : List Walk
  order : Nat
  /-- invalidations accepted and not complete: (sequence, CID) (R425) -/
  invals : List (Nat × Nat)
  susp : List Susp
  nextToken : Nat
  /-- token of the last fault-queue entry written or whose write failed, written again after
  XLT_FQ_BASE is rewritten (R429) -/
  failed : Option Nat
  /-- XLT's GTC at the last refill of the walk weirs, and the RATE and BURST that hold since (R424, R457) -/
  refillAt : Nat
  rate : Nat
  burst : Nat
  deriving DecidableEq, Repr

def Xlt.reset : Xlt := ⟨[], [], [], [], 0, [], [], 0, none, 0, 0x100, 0x40⟩

/-- The basin (R438-R441): resident cache lines (line address, brought by PREFETCH), most recently used
first, and the contents of the carve-outs by offset in the basin window. -/
structure Basin where
  lines : List (Nat × Bool)
  scratch : Cells
  deriving DecidableEq, Repr

def Basin.reset : Basin := ⟨[], []⟩

/-! ## The watch island (chapter 03) -/

/-- A complete frame in a buffer (R115, R134): number, GTC at its start, stored extents and flags
`[1]` CRC_ERR, `[2]` TRUNCATED, `[3]` SHORT. -/
structure Frame where
  no : Nat
  stamp : Nat
  width : Nat
  height : Nat
  flags : Nat
  deriving DecidableEq, Repr

/-- The capture order (R115 step 3): format, buffer, trigger list and lane map as they stood when it was sent. -/
structure Order where
  width : Nat
  height : Nat
  bin : Nat
  vc : Nat
  dt : Nat
  addr : Nat
  /-- VALID trigger entries still to be sent, in order: target address, register and data (R143) -/
  triggers : List (Nat × Nat × Nat)
  /-- the map fields of WAT_LANE -/
  map : Nat
  /-- GTC at which it was sent -/
  at_ : Nat
  deriving DecidableEq, Repr

/-- A capture under way (R115): its buffer, its order once sent, the next line, whether the frame start has arrived, its
stamp and the flags gathered. -/
structure Capture where
  buf : Nat
  /-- link-up runs with this capture (R125) -/
  linkUp : Bool
  order : Option Order
  line : Nat
  stamp : Option Nat
  crc : Bool
  trunc : Bool
  short : Bool
  /-- a header failed in this frame (R121) -/
  header : Bool
  /-- lines received for the next stored line, under binning (R120) -/
  rows : List (List Nat)
  deriving DecidableEq, Repr

/-- A handoff that is due (R132, R134): for HANDOFF_NOW or for a wake, with the wake's stamp, cause, reason and result
mailbox, and the buffer it kept. -/
structure HandoffReq where
  now : Bool
  stamp : Nat
  cause : Nat
  reason : Nat
  mailbox : Nat
  buf : Option Nat
  deriving DecidableEq, Repr

/-- A target of the sensor's I3C bus (R119): its static address, if it has one, and its dynamic one. -/
structure I3cTarget where
  fixed : Option Nat
  address : Option Nat
  deriving DecidableEq, Repr

/-- What the I3C controller has driven on the sensor's bus (R115, R119, R123). -/
inductive I3cBus where
  | write (target reg data : Nat)
  | busClear
  | entdaa (address : Nat)
  | setdasa (fixed address : Nat)
  | rstdaa
  | nack (hotJoin : Bool)
  deriving DecidableEq, Repr

/-- The island beside its core's registers (R106-R134). -/
structure Island where
  sram : Cells
  capture : Option Capture
  /-- the complete frame in buffers A (0) and B (1) -/
  frames : Tab (Option Frame)
  /-- buffers with a frame posted to the core and not taken, oldest first -/
  ready : List Nat
  /-- buffer the program holds (R111) -/
  held : Option Nat
  /-- GTC of the last WAIT FRAME release (R113) -/
  releasedAt : Option Nat
  /-- GTC at which the present capture period began (R114), and at which the last capture ended (R115 step 7) -/
  periodAt : Option Nat
  endedAt : Nat
  /-- link-up at the next capture (R125) -/
  linkUp : Bool
  /-- consecutive frames with fault 0x66 (R125) -/
  headerRun : Nat
  /-- headers with a single-bit error, corrected (R121) -/
  fixedHeaders : Nat
  /-- the I3C bus stays stuck: no capture until ARM (R123) -/
  i3cStop : Bool
  /-- the sensor bus: its targets, at most 4, and what the controller has driven, oldest first (R119) -/
  targets : List I3cTarget
  i3cOut : List I3cBus
  /-- lanes as physically measured: state codes of D0, D1 and CK (R144) -/
  lanes : Tab Nat
  /-- faults of the lines that the link-up under way has found, in order (R125 step 4) -/
  lineFaults : List Nat
  /-- lanes whose HS termination is enabled (R124) -/
  terminated : List Nat
  /-- handoffs that are due, oldest first (R132) -/
  handoffs : List HandoffReq
  /-- the wake that a resume flight follows (R87, R132) -/
  resumeReq : Option HandoffReq
  /-- program wakes held until a flight ends (R129), oldest first -/
  heldWakes : List HandoffReq
  /-- buffer kept at the last SIGNAL WAKE -/
  kept : Option Nat
  /-- result mailbox as it stood at the last wake (R134) -/
  mailbox : Nat
  /-- SEQ of the last handoff (R134) -/
  seq : Nat
  deriving DecidableEq, Repr

def Island.reset : Island :=
  ⟨[], none, [], [], none, none, none, 0, true, 0, 0, false, [], [], [], [], [], [], none, [], none, 0, 0⟩

/-! ## Mailboxes (R523-R525) -/

/-- A message in a mailbox: the sending die and its lines of 64 bytes. -/
structure Msg where
  src : Nat
  lines : List Nat
  deriving DecidableEq, Repr

/-- The mailbox store: messages of each mailbox, oldest first, and the tiles whose blocking receives it holds,
in arrival order, with their mailbox. -/
structure Mail where
  boxes : Tab (List Msg)
  recvs : List (Nat × Nat)
  deriving DecidableEq, Repr

def Mail.reset : Mail := ⟨[], []⟩

/-! ## The mesh (chapter 12) -/

/-- A request that expects a response, from the injection of its header (R489). -/
structure OutReq where
  h : Header
  since : Nat
  deriving DecidableEq, Repr

/-- What the queue engine, the dispatcher or the host port gives to its NI as one access (R203, R213). -/
inductive UseKind where
  | doorbell | cancel | ringRead | stageRead | handOver | record | fence
  deriving DecidableEq, Repr

/-- One such access: what it is, the queue it serves, and whether it travels on the PROMPT channel of its network or on
BULK (R203, R213). -/
structure MeshUse where
  kind : UseKind
  qid : Nat
  prompt : Bool
  deriving DecidableEq, Repr

/-- A packet at a router: the stop, the input port it came in by (0 north, 1 east, 2 south, 3 west, 4 local), the spine
cycles it has waited at its output, and its header (R472, R476). -/
structure Flit where
  stop : Nat
  port : Nat
  waited : Nat
  h : Header
  deriving DecidableEq, Repr

/-- The mesh (R464-R492): packets waiting at their NIs in arrival order, packets on their way with the stop of the
router they stand at, packets ejected and not yet served, requests outstanding, tags freed by a timeout with its
time, the weir buckets in units of 1/4096 flit by `16 stop + 4 unit + class`, and the GTC since which an epoch
switch holds injection. -/
structure Mesh where
  waiting : List Header
  flying : List Flit
  arrived : List Header
  out : List OutReq
  freed : List (Nat × Nat × Nat × Nat)
  credit : Tab Int
  holdSince : Option Nat
  /-- requests of the dispatcher that failed once, each with the count from which it may be sent again (R490) -/
  retried : List (Header × Nat)
  /-- fault record that names a failed request, by `256 stop + 64 unit + tag` -/
  errRec : Tab (Option Nat)
  /-- accesses of the queue engine, the dispatcher and the host port with their channels, oldest first (R203, R213) -/
  uses : List MeshUse
  /-- input port that a router's output last granted on a virtual channel, by `64 stop + 8 output + channel` (R476) -/
  turn : Tab Nat
  /-- count at which the routers last sent their sample reports (R491) -/
  probeAt : Nat
  /-- count at which a request reached its memory-port stop (R681), by `256 stop + 64 unit + tag` of its initiator -/
  mpAt : Tab Nat
  deriving DecidableEq, Repr

def Mesh.reset : Mesh := ⟨[], [], [], [], [], [], none, [], [], [], [], 0, []⟩

/-! ## The link (chapter 13) -/

/-- An entry of a ZL stop's outstanding table (R517, R519): the request as sent, the GTC at which it was first and
last sent and how often it was resent. -/
structure LinkReq where
  h : Header
  first : Nat
  last : Nat
  resends : Nat
  deriving DecidableEq, Repr

/-- A link port (R505-R511, R533-R535).  STATE, WIDTH, LANE_OK, INV, REVERSED, SECURE and the counters live in
`regs`. -/
structure Port where
  /-- attempts of the present training that failed (R507) -/
  attempts : Nat
  /-- training step that failed last -/
  failStep : Nat
  lanes : Nat
  inverted : Nat
  reversed : Bool
  /-- lanes excluded by a retrain (R509) -/
  excluded : Nat
  peerEnc : Bool
  /-- SEQ of the next frame, the last SEQ acknowledged, the next SEQ expected (R511) -/
  txSeq : Nat
  acked : Nat
  rxSeq : Nat
  rxAny : Bool
  /-- unacknowledged frames, oldest first, and frames still to be sent again -/
  replay : List LFrame
  again : List LFrame
  /-- a NAK is due; one has been sent and no frame accepted since -/
  nakDue : Bool
  nakSent : Bool
  /-- replays in a row without progress -/
  stalls : Nat
  /-- slots waiting to be sent, in order, by virtual channel (R512) -/
  tx : Tab (List Slot)
  /-- slots sent and not returned, and slots to return, by virtual channel -/
  used : Tab Nat
  owed : Tab Nat
  /-- a packet partly received: its header and the flits still to come -/
  rx : Tab (Option (Header × Nat))
  /-- frames each virtual channel's first packet has waited (R512) -/
  waits : Tab Nat
  /-- session keys are loaded (R533) -/
  keyed : Bool
  /-- frames of a protected group not yet verified (R534) -/
  group : List LFrame
  groupLen : Nat
  tagFails : Nat
  groups : Nat
  kepoch : Bool
  /-- frames put on the line, oldest first -/
  sent : List LFrame
  /-- GTC at which the port took its present state (R507), last received a frame (R535), and last made progress with
  acknowledgements (R511) -/
  since : Nat
  heard : Nat
  ackAt : Nat
  deriving DecidableEq, Repr

def Port.reset : Port :=
  ⟨0, 0, 0, 0, false, 0, false, 0, 4095, 0, false, [], [], false, false, 0, [], [], [], [], [], false, [], 0, 0, 0,
   false, [], 0, 0, 0⟩

/-- A combine entry (R527): the stop that holds it, its key, the own die's packet, the packets that arrived with their
port, the sum of CONTRIB and the GTC since which it waits. -/
structure Combine where
  stop : Nat
  die : Nat
  group : Nat
  offset : Nat
  own : Option Header
  got : List (Nat × Header)
  contrib : Nat
  since : Nat
  deriving DecidableEq, Repr

/-- The link controller and its ports. -/
structure Link where
  ports : Tab Port
  out : List LinkReq
  reqId : Nat
  combine : List Combine
  /-- (group, offset) pairs whose sum the root has written (R528) -/
  written : List (Nat × Nat)
  /-- packets received over a port and not yet served, with the port -/
  arrived : List (Nat × Header)
  /-- consecutive offsets within one tick, the first step made, and the GTC of the last exchange of TIME frames (R530,
  R531) -/
  goodSync : Nat
  acquired : Bool
  timeAt : Nat
  deriving DecidableEq, Repr

def Link.reset : Link := ⟨[], [], 0, [], [], [], 0, false, 0⟩

/-! ## Clocks and power (chapters 14 and 15) -/

/-- A cluster's clock and power control (R546-R554, R585-R611). -/
structure Clus where
  /-- f_T in MHz and the frequency it ramps toward (R548) -/
  ft : Nat
  target : Nat
  /-- an operating point waits for its voltage; a lowering has its voltage still to post (R587) -/
  raiseTo : Option Nat
  lowerDue : Bool
  /-- the frequency in MHz at which the replica paths hold f_T (R549) -/
  held : Option Nat
  /-- a replica halving since the last interval boundary (R549, R606) -/
  halved : Bool
  /-- GTC of the last lowering -/
  cutAt : Option Nat
  /-- GTC of the CRIT events of the last 10 ms, and of the last record 0x59 (R550) -/
  crits : List Nat
  critAt : Option Nat
  /-- consecutive checks with a shortfall of 4 or more (R553) -/
  shortfalls : Nat
  exhausted : Bool
  /-- consecutive intervals over the allocation at limiter 1/16 in fixed-frequency mode (R591) -/
  overRun : Nat
  /-- below FIX_OP in fixed-frequency mode (R591) -/
  broken : Bool
  /-- the frequency that lockstep sets at APPLY_AT (R615) -/
  paceTo : Option Nat
  /-- GTC of the last trim (R546), skew correction (R544) and ageing check (R553), and that since which the least code has
  stayed at MARGIN_LO + 4 or above (R549) -/
  trimAt : Nat
  skewAt : Nat
  ageAt : Nat
  goodAt : Nat
  deriving DecidableEq, Repr

def Clus.reset : Clus := ⟨400, 400, none, false, none, false, none, [], none, 0, false, 0, false, none, 0, 0, 0, 0⟩

/-- A rail (R561-R571, R588-R594). -/
structure Rail where
  /-- set point in mV, the request it replaced, and the GTC of the last change -/
  mv : Nat
  prev : Nat
  setAt : Nat
  /-- telemetry SEQ last taken, samples missing in a row (R569) -/
  seq : Nat
  missing : Nat
  /-- the crack window: sum of excess in uV and samples (R568) -/
  sum : Int
  samples : Nat
  /-- samples in a row that show an open pair (R564), and ratios out of range (R594) -/
  openRun : Nat
  gainRun : Nat
  gainAt : Option Nat
  /-- a set point was not reached: no new raise until its bit clears (R589) -/
  noRaise : Bool
  /-- the sense switch is closed (R562) -/
  sensed : Bool
  deriving DecidableEq, Repr

def Rail.reset : Rail := ⟨0, 0, 0, 0, 0, 0, 0, 0, 0, none, false, false⟩

/-- A pace word received or sent (R613). -/
structure PaceWord where
  origin : Nat
  at_ : Nat
  f : Nat
  lag : Bool
  hops : Nat
  deriving DecidableEq, Repr

/-- Power control beside its registers. -/
structure Power where
  clus : Tab Clus
  rails : Tab Rail
  /-- GTC at which the ACTIVE lease ends; SEQ last accepted (R599) -/
  leaseEnd : Option Nat
  leaseSeq : Option Nat
  /-- current phase of each tile and the GTC since which it holds it (R605, R606) -/
  phase : Tab (Option Nat × Nat)
  /-- clusters with a demand not yet served, ascending (R80, R608) -/
  demands : List Nat
  /-- consecutive intervals over and within the budget (R609) -/
  overRun : Nat
  fitRun : Nat
  unmetAt : Option Nat
  /-- the clamp holds; GTC of the last falling edge, length of the assertion before, GTC of the last record (R610, R611) -/
  clamp : Bool
  spillAt : Option Nat
  spillLen : Nat
  spillRec : Option Nat
  /-- words sent by the ports and words received for coming APPLY_ATs (R614) -/
  paceOut : List (Nat × PaceWord)
  paceIn : List PaceWord
  lastF : Tab Nat
  absent : Tab Nat
  excluded : List Nat
  lagNext : Bool
  /-- GTC of the last 0x53 on VDD_SOC and of the last 0x5E (R570, R609) -/
  socAt : Option Nat
  capAt : Option Nat
  /-- clusters that close for stoppage after a suspicion at OP0 (R570) -/
  condemned : List Nat
  /-- hundredths of a µJ not yet in PWR_ENERGY (R595) -/
  energyRem : Nat
  /-- a stuck SPILL_N holds every cluster at OP0 until an interval boundary (R719) -/
  stuckCap : Bool
  /-- GTC of the last estimate (R592) and of the last telemetry sample (R593) -/
  estAt : Nat
  telAt : Nat
  /-- GTC since which the clamp holds (R94, R610) -/
  clampAt : Nat
  /-- GTC of the last APPLY_AT that was applied (R615) -/
  paceAt : Nat
  deriving DecidableEq, Repr

def Power.reset : Power :=
  ⟨[], [], none, none, [], [], 0, 0, none, false, none, 0, none, [], [], [], [], [], false, none, none, [], 0, false,
   0, 0, 0, 0⟩

/-! ## The Keeper (chapter 16) -/

/-- A pending proposal (R640). -/
structure Proposal where
  id : Nat
  cls : Nat
  pa : Nat
  cid : Nat
  baseGen : Nat
  until_ : Nat
  nonce : Nat
  digest : Nat
  /-- offset, width, value and mask of each entry (R637) -/
  entries : List (Nat × Nat × Nat × Nat)
  deriving DecidableEq, Repr

/-- The Keeper beside its registers (R628-R651).  Mailbox 0 is HOST, 1 PLAT. -/
structure Keeper where
  /-- the key store is in place: derived or unwrapped, and not erased (R629, R661) -/
  keys : Bool
  /-- the retention store holds a wrapped key store (R84) -/
  wrapped : Bool
  /-- the seal keys and model keys that the retention store holds, by identity -/
  wrappedSeal : Tab Nat
  wrappedModel : List (Nat × Nat × Nat)
  /-- KFW in the firmware SRAM and the dispatcher's microcode, and the digests of both kept in PD0 (R628, R633) -/
  kfw : List Byte
  dspm : List Byte
  digests : Nat × Nat
  /-- number of the next fresh secret: a seal key, model key or nonce by identity -/
  nextKey : Nat
  props : Tab (Option Proposal)
  /-- the nonce last issued to each mailbox with its expiry, unless used (R640) -/
  nonces : Tab (Option (Nat × Nat))
  nextId : Nat
  /-- GTC of the commit failures of the last second, and the end of the lockout (R645) -/
  fails : List Nat
  lockEnd : Option Nat
  /-- the commit being quiesced: the countersigning mailbox (R642) -/
  applying : Option Nat
  /-- model-key slots in use: slot, partition, KEY_ID (R629) -/
  slots : List (Nat × Nat × Nat)
  /-- GTC of the locked JTAG instructions of the last second (R658) -/
  jtag : List Nat
  /-- command that waits in each mailbox while the Keeper serves the other: opcode, time of its write, and whether its
  signature and its tag verify (R635) -/
  waiting : Tab (Option (Nat × Nat × Bool × Bool))
  /-- commit ID of each mailbox's proposal that expired last (R641) -/
  lapsed : Tab (Option Nat)
  /-- GTC at which the quiesce under way began (R642), and of the last check of KFW (R658) -/
  quiesceAt : Nat
  kfwAt : Nat
  deriving DecidableEq, Repr

def Keeper.reset : Keeper :=
  ⟨false, false, [], [], [], [], (0, 0), 1, [], [], 1, [], none, none, [], [], [], [], 0, 0⟩

/-! ## Stoppages, pins and MGMT (chapters 18 and 20) -/

/-- A command of PWR_STOP_CMD or a cluster or link-port reset under way (R700): kind and index of the unit, whether it
reopens, whether it is a reset, and whether a failed unit stands behind it. -/
structure StopCmd where
  kind : Nat
  index : Nat
  reopen : Bool
  reset : Bool
  /-- BY_FAILURE bit of the unit before the command -/
  failed : Bool
  /-- GTC at which its present step or wait began (R67, R705, R710, R711) -/
  since : Nat
  /-- a link port to be stopped has no outstanding request left to answer (R705) -/
  drained : Bool
  deriving DecidableEq, Repr

/-- The pins and the MGMT target (R716-R722, R744-R746). -/
structure Pins where
  resetN : Bool
  wakeOut : Bool
  alarmOut : Bool
  /-- GTC of the WAKE_IN wakes of the last second (R130) -/
  wakeIns : List Nat
  /-- WAKE_IN as last sampled, the GTC of its assertion edge, and whether that edge has made its wake (R130) -/
  wakeIn : Bool
  wakeEdge : Option Nat
  wakeMade : Bool
  /-- diode readings out of line, and plausible, in a row (R718) -/
  diodeBad : Nat
  diodeGood : Nat
  /-- GTC of the last measurement of the diode -/
  diodeAt : Nat
  /-- GTC of the MGMT bus-clears of the last second (R720) -/
  clears : List Nat
  /-- readings in 1/4 degree above -64 by sensor (R749), and the GTC of the last reading -/
  temps : Tab Nat
  tempAt : Nat
  /-- dynamic address of the MGMT target, its answer to the next private read: status and data (R744, R745) -/
  address : Option Nat
  answer : Nat × List Byte
  /-- what the last private read returned: status and data -/
  answered : Nat × List Byte
  /-- a trip in watch standby suspends captures and wakes of cause WATCH (R753) -/
  heatHold : Bool
  /-- JTAG instruction in force (R650): 0 BYPASS, 1 IDCODE, 2 SAMPLE/PRELOAD, 3 EXTEST, 4 towpath access -/
  ir : Nat
  /-- boundary-scan cells preloaded, the outputs that EXTEST drives from them, and what was last shifted out -/
  preload : Nat
  scan : Option Nat
  jtagOut : Nat
  deriving DecidableEq, Repr

def Pins.reset : Pins := ⟨false, false, false, [], false, none, false, 0, 0, 0, [], [], 0, none, (0, []), (0, []), false, 1, 0, none, 0⟩

/-- The GTC copies (R45, R557-R559): each copy's offset from the master's count, the copies that hold until the master
reaches them, those that read STALE, the GTC of each copy's last record 0x5B and of the last sync word it took, and the
count of the last sync word; and
the master's 32-bit fraction (R555) and the forward step still to be added (R531, R556). -/
structure Copies where
  off : Tab Int
  hold : List Nat
  stale : List Nat
  recAt : Tab Nat
  syncAt : Tab Nat
  word : Option Nat
  frac : Nat
  stepBy : Nat
  deriving DecidableEq, Repr

def Copies.reset : Copies := ⟨[], [], [], [], [], none, 0, 0⟩

/-! ## The whole block -/

/-- The state of the block. -/
structure State where
  /-- the count of the GTC master (R556) -/
  gtc : Nat
  /-- register fields, by `Fld.key` -/
  regs : Tab Nat
  /-- the memory that the memory port and the link reach, by 52-bit physical address (R411), as the
  engine reads it under the key that wrote it -/
  mem : Cells
  /-- key identity under which each 64-byte line of `mem` was last written, 0 for none (R435) -/
  sealTag : Tab Nat
  fuses : Fuses
  doms : Tab Dom
  /-- the domain gates, by domain (R39) -/
  gates : Tab Gate
  flight : FlightSeq
  conc : Conc
  mon : Mon
  host : HostOut
  ctxs : Tab Ctx
  /-- context that owns each berth group (R161) -/
  groups : Tab (Option Nat)
  queues : Tab Queue
  waiters : Tab (Option Waiter)
  disp : Disp
  /-- T0-T63, and the island core at 64 -/
  tiles : Tab Tile
  xlt : Xlt
  basin : Basin
  island : Island
  mail : Mail
  mesh : Mesh
  link : Link
  power : Power
  keeper : Keeper
  stop : Option StopCmd
  pins : Pins
  /-- the GTC master runs on the RC oscillator (R72) -/
  onRc : Bool
  /-- identity of each partition's seal key, 0 when absent (R436) -/
  sealKeys : Tab Nat
  /-- model keys that the Keeper holds: partition, KEY_ID and key identity (R437) -/
  modelKeys : List (Nat × Nat × Nat)
  /-- bytes sent to other dies' memory, oldest first (R450) -/
  linkOut : List (Nat × Byte)
  copies : Copies
  freeCtr : Nat
  pending : List Instr
  deriving DecidableEq, Repr

/-- The part that the model takes at reset (log entry 30): an N7 C16 of grade S with all clusters enabled, FMAX_FUSED
2.000 GHz on each, no fuse blown. -/
def Fuses.reset : Fuses := ⟨1, 3, 0, 0xFFFF, 0, (List.range 16).map fun c => (c, 16), [], [], [], []⟩

/-- The machine right after VDD_AON power-on (R90, R93): PD0 OPEN and nothing else, the GTC at 0 on the RC
oscillator, RESET_N low, every register at its reset value, every memory empty. -/
def State.reset : State :=
  { gtc := 0, regs := [], mem := [], sealTag := [], fuses := Fuses.reset,
    doms := [(0, { Dom.reset with st := .opened })], gates := [], flight := FlightSeq.reset, conc := Conc.reset,
    mon := Mon.reset,
    host := HostOut.reset, ctxs := [], groups := [], queues := [], waiters := [], disp := Disp.reset, tiles := [],
    xlt := Xlt.reset, basin := Basin.reset, island := Island.reset, mail := Mail.reset, mesh := Mesh.reset,
    link := Link.reset, power := Power.reset, keeper := Keeper.reset, stop := none, pins := Pins.reset, onRc := true,
    sealKeys := [], modelKeys := [], linkOut := [], copies := Copies.reset, freeCtr := 0, pending := [] }

end Sys2Proof.Machine
end

