-- ==== Sys2Proof/Machine/Ops.lean ====
section
/-! DEFINITION. The named operations over the state that every chapter uses: register fields, power
domains, time stamps, fault records and reports, event vectors, the memory port with its owner
check and sealing, and translation. -/

namespace Sys2Proof.Machine

/-! ## Numbers -/

/-- Bits `[hi:lo]` of a number (R12). -/
def bits (v hi lo : Nat) : Nat := v / 2 ^ lo % 2 ^ (hi + 1 - lo)

/-- Bit `i` of a number (R12). -/
def bitAt (v i : Nat) : Bool := v / 2 ^ i % 2 == 1

/-- The number with bit `i` set (`b`) or clear. -/
def setBit (v i : Nat) (b : Bool) : Nat :=
  if bitAt v i == b then v else if b then v + 2 ^ i else v - 2 ^ i

/-- 1 or 0. -/
def b2n (b : Bool) : Nat := if b then 1 else 0

/-- Serial comparison on `n` bits (R15): `a` is newer than `b`. -/
def newer (a b n : Nat) : Bool :=
  let d := (a + 2 ^ n - b % 2 ^ n) % 2 ^ n
  d != 0 && decide (d < 2 ^ (n - 1))

/-- A value of 0 acts as 1. -/
def atLeast1 (v : Nat) : Nat := if v = 0 then 1 else v

/-- Two's-complement reading of the low `n` bits. -/
def asSigned (n v : Nat) : Int :=
  let w := v % 2 ^ n
  if w < 2 ^ (n - 1) then (w : Int) else (w : Int) - (2 ^ n : Nat)

/-! ## Register fields (R16) -/

/-- The value of a register field. -/
def State.get (s : State) (f : Fld) : Nat := Tab.get f.reset s.regs f.key

/-- The register field set to a value, cut to the field's width. -/
def State.put (s : State) (f : Fld) (v : Nat) : State :=
  { s with regs := s.regs.set f.key (v % f.size) }

/-- A one-bit field is 1. -/
def State.on (s : State) (f : Fld) : Bool := s.get f == 1

/-- A saturating counter field plus `n`. -/
def State.sat (s : State) (f : Fld) (n : Nat) : State :=
  s.put f (min (s.get f + n) (f.size - 1))

/-- A wrapping counter field plus `n`. -/
def State.wrap (s : State) (f : Fld) (n : Nat) : State := s.put f (s.get f + n)

/-- The register fields whose aperture offset satisfies `p` back at their reset values. -/
def State.resetRegs (s : State) (p : Nat → Bool) : State :=
  { s with regs := s.regs.drop fun k => p (k / 64) }

/-- The next free value, cut to `w` bits (log entry 3). -/
def State.freeVal (s : State) (w : Nat) : Nat := Config.freeValue s.freeCtr % 2 ^ w

/-- The counter of free values advanced by one. -/
def State.tookFree (s : State) : State := { s with freeCtr := s.freeCtr + 1 }

/-! ## The part (R2-R6) -/

/-- The package is the Yard module. -/
def State.yard (s : State) : Bool := s.fuses.package == 2

/-- Cluster `c` is enabled by fuse (R5). -/
def State.clEnabled (s : State) (c : Nat) : Bool := decide (c < 16) && bitAt s.fuses.clusterEn c

/-! ## Power domains (R33, R97) -/

def State.dom (s : State) (d : Nat) : Dom := Tab.get Dom.reset s.doms d

def State.setDom (s : State) (d : Nat) (x : Dom) : State := { s with doms := s.doms.set d x }

def State.domOpen (s : State) (d : Nat) : Bool := (s.dom d).st == .opened

/-- The domain's logic still works: OPEN, or CLOSING and not yet closed (R40). -/
def State.domLive (s : State) (d : Nat) : Bool :=
  (s.dom d).st == .opened || (s.dom d).st == .closing

/-- Cluster `c`'s domain (R27). -/
def clDom (c : Nat) : Nat := 12 + c

/-- Code of a domain state (R97). -/
def domCode : DomSt → Nat
  | .closed => 0
  | .railWait => 1
  | .ramping => 2
  | .clockWait => 3
  | .scrub => 4
  | .opened => 5
  | .closing => 6
  | .stoppage => 7
  | .disabled => 8
  | .retryWait => 9

/-- The values of ENG_STATE (R56). -/
def engFlight : Nat := 0
def engReady : Nat := 1
def engDegraded : Nat := 2
def engFailed : Nat := 3
def engStandby : Nat := 4
def engAlarmed : Nat := 5

def State.eng (s : State) : Nat := s.get Reg.ENG_STATE_STATE

/-- ENG_STATE reads READY or DEGRADED. -/
def State.isReady (s : State) : Bool := s.eng == engReady || s.eng == engDegraded

/-! ## Units, stops and time stamps -/

/-- Unit codes (R672). -/
def uSEQ : Nat := 0x01
def uPWR : Nat := 0x02
def uCLK : Nat := 0x03
def uKPR : Nat := 0x04
def uWAT : Nat := 0x05
def uDSP : Nat := 0x06
def uXLT : Nat := 0x07
def uDMA (n : Nat) : Nat := 0x08 + n
def uHPT : Nat := 0x0A
def uMSH : Nat := 0x0B
def uERR : Nat := 0x0C
def uCLS (c : Nat) : Nat := 0x10 + c
def uLNK (p : Nat) : Nat := 0x20 + p
def uLNKC : Nat := 0x26
def uMP (k : Nat) : Nat := 0x28 + k
def uBS (k : Nat) : Nat := 0x2C + k

/-- Stop of cluster `c` (R30). -/
def clStop (c : Nat) : Nat := 6 * (1 + c / 4) + 1 + c % 4

/-- Stop of basin stop `k` and of memory stop `k` (R30). -/
def bsStop (k : Nat) : Nat := 6 * (k + 1) + 5
def mpStop (k : Nat) : Nat := 6 * (k + 1)

/-- Domain of the NI at stop `n`: a cluster's lies in its cluster, every other in PD5 (R27, R30). -/
def stopDom (n : Nat) : Nat :=
  if 6 ≤ n ∧ n < 30 ∧ n % 6 ≠ 0 ∧ n % 6 ≠ 5 then clDom (4 * (n / 6 - 1) + n % 6 - 1) else 5

/-- SRC of a record for a unit without a stop (R671). -/
def srcNone : Nat := 0x3F

/-- SRC of tile `n`: its cluster's stop, and the tile within the cluster (R671). -/
def srcTile (n : Nat) : Nat := clStop (n / 4) + 64 * (n % 4)

/-- The GTC copy that unit `k` stamps with (R45); chapter 14 gives its count. -/
def copyDsp : Nat := 200
def copyTow : Nat := 201
def copyIsland : Nat := 202
def copyMem : Nat := 203
def copyLink (p : Nat) : Nat := 210 + p
def copyNi (n : Nat) : Nat := 100 + n
/-- What every NI does in one common spine cycle (R481) goes by the copy of the Keeper's NI (log entry 110). -/
def copySpine : Nat := copyNi 35
def copyMaster : Nat := 255

/-- The count of the GTC copy `k`: the master's count and the copy's offset from it, which a copy that
holds or lags carries (R557-R559). -/
def State.time (s : State) (k : Nat) : Nat :=
  ((s.gtc : Int) + Tab.get 0 s.copies.off k).toNat % 2 ^ 64

/-- Which GTC copy a record of a unit is stamped from (R671). -/
def stampCopy (unit src : Nat) : Nat :=
  if unit = uDSP then copyDsp
  else if 0x10 ≤ unit ∧ unit < 0x20 then 4 * (unit - 0x10) + src / 64
  else if 0x20 ≤ unit ∧ unit < 0x26 then copyLink (unit - 0x20)
  else if 0x28 ≤ unit ∧ unit < 0x2C then copyMem
  else if unit = uXLT then copyNi 31
  else if unit = 0x08 ∨ unit = 0x09 then copyNi (24 + unit)
  else if unit = uHPT then copyNi 34
  else if unit = uMSH then copyNi (src % 64)
  else if 0x2C ≤ unit ∧ unit < 0x30 then copyNi (bsStop (unit - 0x2C))
  else if unit = uWAT then copyIsland
  else if unit = uSEQ then copyMaster
  else copyTow

/-- Initiator of a request: a cluster stop (R30). -/
def isClStop (n : Nat) : Bool := decide (6 ≤ n) && decide (n < 30) && n % 6 != 0 && n % 6 != 5

/-- Cluster of a cluster stop. -/
def stopCl (n : Nat) : Nat := 4 * (n / 6 - 1) + n % 6 - 1

/-! ## Reports and fault records (R42-R44, R128, R671) -/

/-- Place of a report's sender in the order of reports that arrive in one cycle (R43): its stop number, then its tile
within the cluster.  A unit without a stop comes after every stop (log entry 79). -/
def reportKey : Report → Nat
  | .fault r => 4 * (r.src % 64) + r.src / 64
  | .wake _ _ => 4 * 0x3F
  | .demand _ => 4 * 30
  | .phase t _ => 4 * clStop (t / 4) + t % 4
  | .samplePart _ => 4 * 0x3F
  | .sampleCtx _ => 4 * 30
  | .sampleProbe n _ => 4 * n
  | .sampleLink _ _ => 4 * 0x3F
  | .sampleActivity c _ => 4 * clStop c

/-- A sender stalls (R44): it holds one report that found no place, and has to send a second that cannot wait. -/
def State.stalled (s : State) (key : Nat) : Bool :=
  (s.conc.held.any fun r => reportKey r == key) && s.conc.sent.any fun r => reportKey r == key && !r.isSample

/-- A report is sent to the concentrator (R42). -/
def State.send (s : State) (r : Report) : State :=
  { s with conc := { s.conc with sent := s.conc.sent ++ [r] } }

/-- A fault record of a unit that runs while PD1 is closed goes to the always-on entry (R128): the
flight sequencer's reserve or the other part, 8 places each; one that finds its part full is
discarded and sets HOLD_OVF. -/
def State.hold (s : State) (r : FaultRec) : State :=
  if r.unit = uSEQ then
    if s.conc.aonSeq.length < 8 then
      { s with conc := { s.conc with aonSeq := s.conc.aonSeq ++ [r] } }
    else s.put Reg.WAT_STATUS_HOLD_OVF 1
  else if s.conc.aonOther.length < 8 then
    ({ s with conc := { s.conc with aonOther := s.conc.aonOther ++ [r] } }).put
      Reg.WAT_STATUS_HELD (s.conc.aonOther.length + 1)
  else s.put Reg.WAT_STATUS_HOLD_OVF 1

/-- Codes for whose records no rule states a detail (R137): it is left open (log entry 49). -/
def detailOpen (code : Nat) : Bool :=
  [0x60, 0x61, 0x62, 0x64, 0x65, 0x66, 0x67, 0x68, 0x69, 0x6B, 0x6D].contains code

/-- A unit raises a fault record (R671): it takes the next record number and the stamp of the unit's
GTC copy, and goes to the concentrator, or to the always-on entry while PD1 is closed. -/
def State.faultC (s : State) (code unit src detail : Nat) (cid qid cause : Option Nat) : State :=
  let detail := if detailOpen code then s.freeVal 64 else detail
  let s := if detailOpen code then s.tookFree else s
  let r : FaultRec := ⟨s.conc.nextId, code, unit, src, detail % 2 ^ 64, s.time (stampCopy unit src),
    cid, qid, cause⟩
  let s := { s with conc := { s.conc with nextId := s.conc.nextId + 1 } }
  if s.domLive 1 then s.send (.fault r) else s.hold r

/-- A fault record without context. -/
def State.fault (s : State) (code unit src detail : Nat) : State :=
  s.faultC code unit src detail none none none

/-- Detail of an ECC record (R674): LOCATION, MEMORY and RECOVERED; the syndrome is the implementation's and never 0 (log
entry 3). -/
def State.eccDetail (s : State) (loc mem : Nat) (recovered : Bool) : Nat :=
  (Config.syndrome s.freeCtr % 255 + 1) * 2 ^ 56 + loc % 2 ^ 48 * 2 ^ 8 + mem * 16 + b2n recovered

/-- The record of an ECC error (R674): `code` 0x81 for a corrected one, 0x80 for an uncorrectable one. -/
def State.eccFault (s : State) (code unit src mem loc : Nat) (recovered : Bool) (cid : Option Nat) : State :=
  (s.faultC code unit src (s.eccDetail loc mem recovered) cid none none).tookFree

/-- A corrected error in tile `t`'s store counts and is recorded (R288, R674): `a` is an address of its line. -/
def State.tileCorrected (s : State) (t a : Nat) : State :=
  (s.sat (Reg.CLS_TILE_COUNTS_ECC_CORR t) 1).eccFault 0x81 (uCLS (t / 4)) (srcTile t) 1 (a / 64 * 64) false none

/-- The number that the next fault record takes. -/
def State.recId (s : State) : Nat := s.conc.nextId

/-! ## Samples for the monitors (R681-R683, R686) -/

/-- A partial without samples. -/
def partFresh (slot : Nat) : Partial := ⟨slot, 0, 0, 0, List.replicate 16 0, 63, false⟩

/-- The bin of a value (R682). -/
def binOf (v shift : Nat) : Nat :=
  let w := v / 2 ^ shift
  if w = 0 then 0 else if 0x4000 ≤ w then 15 else w.log2 + 1

/-- A sample joins a partial (R682): `code` is the replica code that comes with it, 63 for none. -/
def partAdd (p : Partial) (shift raw code : Nat) : Partial :=
  let v := min raw (2 ^ 32 - 1)
  { p with
    min := if p.count = 0 then v else min v p.min, max := max v p.max, count := p.count + 1,
    bins := p.bins.modify (binOf v shift) (· + 1), minCode := min code p.minCode,
    isOver := p.isOver || decide (2 ^ 32 ≤ raw) }

/-- The monitor slot whose EN a register key names. -/
def slotOfKey (key : Nat) : Option Nat :=
  let o := key / 64
  if key % 64 = 63 ∧ 0x010B1000 ≤ o ∧ o < 0x010B1800 ∧ o % 8 = 0 then some ((o - 0x010B1000) / 8) else none

/-- The enabled slots of a kind whose subject satisfies `p` (R681). -/
def State.slotsOf (s : State) (kind : Nat) (p : Nat → Bool) : List Nat :=
  (s.regs.filterMap fun e => if e.2 = 1 then slotOfKey e.1 else none).filter fun k =>
    s.on (Reg.MON_SLOT_CFG_EN k) && s.get (Reg.MON_SLOT_CFG_KIND k) == kind && p (s.get (Reg.MON_SLOT_CFG_SUBJECT k))

/-- The partial that a slot's unit has gathered. -/
def State.partOf (s : State) (k : Nat) : Partial := Tab.get (partFresh k) s.mon.part k

/-- A partial leaves its unit as a sample report, and the next starts (R683). -/
def State.sendPart (s : State) (k : Nat) : State :=
  ({ s with mon := { s.mon with part := s.mon.part.set k (partFresh k), partAt := s.mon.partAt.set k s.gtc } }).send
    (.samplePart (s.partOf k))

/-- A sample reaches the partial of slot `k`; a local bin that fills sends it (R683). -/
def State.sampleSlot (s : State) (raw code k : Nat) : State :=
  let p := partAdd (s.partOf k) (s.get (Reg.MON_SLOT_CFG_SHIFT k)) raw code
  let s := { s with mon := { s.mon with part := s.mon.part.set k p } }
  if p.bins.any fun n => decide (0xFFFF ≤ n) then s.sendPart k else s

/-- A sample of a kind reaches every enabled slot whose subject it belongs to (R681). -/
def State.sample (s : State) (kind raw code : Nat) (p : Nat → Bool) : State :=
  (s.slotsOf kind p).foldl (fun s k => s.sampleSlot raw code k) s

/-- Increments of a context that no partial has carried yet. -/
def ctxFresh (cid : Nat) : CtxPart := ⟨cid, 0, 0, 0, 0, 0, 0⟩

def State.ctxPart (s : State) (cid : Nat) : CtxPart := Tab.get (ctxFresh cid) s.mon.ctx cid

/-- The units count for a context (R686). -/
def State.countFor (s : State) (cid : Nat) (f : CtxPart → CtxPart) : State :=
  { s with mon := { s.mon with ctx := s.mon.ctx.set cid (f (s.ctxPart cid)) } }

/-! ## Domain gates (R39) -/

def State.gateOf (s : State) (d : Nat) : Gate := Tab.get Gate.reset s.gates d

/-- A command of a rank of R39 (1 reset, 2 close or stoppage, 3 clamp, 4 operating point or limit, 5 load) reaches the
gate of domain `d`: it is carried out, unless the gate carried out one of a higher place at the same tick; then it is
acknowledged as discarded.  Commands that the model takes one after another at one tick are in that order in one gate
cycle or in following ones (log entry 80). -/
def State.gateAct (s : State) (d rank : Nat) (act : State → State) : State :=
  let g := s.gateOf d
  let same := g.at_ == some s.gtc
  let acks := if same then g.acks else []
  if same ∧ g.rank < rank then { s with gates := s.gates.set d { g with acks := acks ++ [(rank, false)] } }
  else act { s with gates := s.gates.set d ⟨some s.gtc, rank, acks ++ [(rank, true)]⟩ }

/-- The gate of domain `d` discards a command of a rank and acknowledges it so: a raise under the clamp (R39, R610). -/
def State.gateDrop (s : State) (d rank : Nat) : State :=
  let g := s.gateOf d
  let acks := if g.at_ == some s.gtc then g.acks else []
  { s with gates := s.gates.set d { g with at_ := some s.gtc, rank := if g.at_ == some s.gtc then g.rank else 5, acks := acks ++ [(rank, false)] } }

/-! ## Event vectors (R679) -/

/-- An event for vector `v` leaves for the host port as an EVT packet (R679). -/
def State.event (s : State) (v : Nat) : State :=
  { s with host := { s.host with events := s.host.events ++ [v] } }

/-- The event of a vector register whose EN is 1. -/
def State.eventIf (s : State) (en vec : Fld) : State :=
  if s.on en then s.event (s.get vec) else s

/-! ## Contexts and partitions -/

def State.ctx (s : State) (c : Nat) : Ctx := Tab.get Ctx.reset s.ctxs c

def State.setCtx (s : State) (c : Nat) (x : Ctx) : State := { s with ctxs := s.ctxs.set c x }

/-- Partition `p` is VALID (R195). -/
def State.partValid (s : State) (p : Nat) : Bool := s.on (Reg.OBJ_PART_CFG_VALID p)

/-- Clusters of partition `p`; bits that name clusters disabled by fuse are taken as 0 (R153). -/
def State.partClusters (s : State) (p : Nat) : Nat :=
  if s.partValid p then s.get (Reg.OBJ_PART_CFG_CLUSTERS p) &&& s.fuses.clusterEn else 0

/-- The partition of a CID: the PID its context has held since CTX_OPEN (R158); a FREE context has
none (R171). -/
def State.cidPart (s : State) (c : Nat) : Option Nat :=
  if (s.ctx c).st = .free then none else some (s.ctx c).pid

/-! ## The owner check and the memory port (R432-R436) -/

/-- First offset of the basin window within a die's addresses (R412). -/
def basinBase : Nat := 0x7FFFE000000

/-- Die ID and die-local part of a physical address (R411). -/
def paDie (pa : Nat) : Nat := pa / 2 ^ 43 % 512
def paLocal (pa : Nat) : Nat := pa % 2 ^ 43

/-- The engine's own die ID (R411, R540). -/
def State.ownDie (s : State) : Nat := if s.yard then s.get Reg.LNK_DIE_DIE else 0

/-- Does owner-tag entry `k` cover the 2 MiB unit `u` (R432, R460)? -/
def State.tagCovers (s : State) (u k : Nat) : Bool :=
  s.on (Reg.XLT_TAG_LO_VALID k) && decide (s.get (Reg.XLT_TAG_LO_BASE k) ≤ u) &&
    decide (u ≤ s.get (Reg.XLT_TAG_HI_LAST k))

/-- The owner-tag entry that decides for a physical address: the lowest-numbered VALID one that
covers it (R432). -/
def State.tagOf (s : State) (pa : Nat) : Option Nat :=
  (List.range 256).find? fun k => s.tagCovers (paLocal pa / 2 ^ 21) k

/-- The sealed partition whose memory holds a physical address, if one does (R435). -/
def State.sealedPart (s : State) (pa : Nat) : Option Nat :=
  if paDie pa ≠ s.ownDie then none else match s.tagOf pa with
  | none => none
  | some k =>
    let p := s.get (Reg.XLT_TAG_LO_PID k)
    if s.get (Reg.XLT_TAG_LO_KIND k) = 0 ∧ s.on (Reg.OBJ_PART_CFG_SEALED p) then some p else none

/-- First byte of partition `p`'s carve-out within the basin window (R438). -/
def State.carveBase (s : State) (p : Nat) : Nat :=
  (List.range p).foldl
    (fun a q => if s.partValid q then a + s.get (Reg.OBJ_PART_CFG_BASIN_SCRATCH q) * 2 ^ 19 else a) 0

/-- Size of partition `p`'s carve-out in bytes (R438). -/
def State.carveSize (s : State) (p : Nat) : Nat :=
  if s.partValid p then s.get (Reg.OBJ_PART_CFG_BASIN_SCRATCH p) * 2 ^ 19 else 0

/-- The partition whose carve-out holds offset `o` of the basin window (R438). -/
def State.carveOwner (s : State) (o : Nat) : Option Nat :=
  (List.range 16).find? fun p => decide (s.carveBase p ≤ o) && decide (o < s.carveBase p + s.carveSize p)

/-- Domain of a basin slice: slices 0-7 in PD6, 8-15 in PD7 (R27). -/
def sliceDom (sl : Nat) : Nat := if sl < 8 then 6 else 7

/-- Does a request under `cid` pass the owner check at `pa` (R432)?  `remote`: it came over the link.  Another
die's memory is checked there; its basin window admits no request (R450). -/
def State.ownerOk (s : State) (cid pa : Nat) (remote : Bool) : Bool :=
  if paDie pa ≠ s.ownDie then decide (paLocal pa < basinBase)
  else if basinBase ≤ paLocal pa then
    !remote && (match s.carveOwner (paLocal pa - basinBase), s.cidPart cid with
      | some p, some q => p == q
      | _, _ => false)
  else match s.tagOf pa with
    | none => if remote then s.on Reg.XLT_TAG_CTRL_REMOTE_OPEN else true
    | some k =>
      let kind := s.get (Reg.XLT_TAG_LO_KIND k)
      if kind = 0 then
        if remote then s.on (Reg.XLT_TAG_LO_REMOTE k) &&
            !(s.on (Reg.OBJ_PART_CFG_SEALED (s.get (Reg.XLT_TAG_LO_PID k))))
        else s.cidPart cid == some (s.get (Reg.XLT_TAG_LO_PID k))
      else if kind = 1 then
        if remote then s.on (Reg.XLT_TAG_LO_REMOTE k) else cid == s.get (Reg.XLT_TAG_LO_CID k)
      else false

/-- Identity of the key under which the memory port reads and writes the line of `pa`: 0 for memory
that is not sealed (R435). -/
def State.lineKey (s : State) (pa : Nat) : Nat :=
  match s.sealedPart pa with
  | none => 0
  | some p => Tab.get 0 s.sealKeys p

/-- The seal key of the line of `pa` is absent (R436). -/
def State.keyAbsent (s : State) (pa : Nat) : Bool :=
  match s.sealedPart pa with
  | none => false
  | some p => Tab.get 0 s.sealKeys p == 0

/-- A byte of external memory as the memory port answers it: decrypted under the line's present key
(R435).  A line written under another key, or never written while sealed, reads as bytes that the
spec leaves open (R442, log entry 4). -/
def State.memByte (s : State) (pa : Nat) : Byte :=
  let w := Tab.get 0 s.sealTag (pa / 64)
  let r := s.lineKey pa
  if w = r then s.mem.byte pa
  else BitVec.ofNat 8 (Config.recipher w r (pa / 64) (s.mem.le (pa / 64 * 64) 64) / 256 ^ (pa % 64))

/-- The line of `pa` taken under its present key: a write of part of a line reads, decrypts,
modifies and re-encrypts the whole line (R435). -/
def State.rekeyLine (s : State) (pa : Nat) : State :=
  let l := pa / 64
  let w := Tab.get 0 s.sealTag l
  let r := s.lineKey pa
  if w = r then s
  else { s with mem := s.mem.putLe (l * 64) 64 (Config.recipher w r l (s.mem.le (l * 64) 64)),
                sealTag := s.sealTag.set l r }

/-- A byte read at a physical address: another die's memory, the basin carve-outs or the memory (R411, R412). -/
def State.physByte (s : State) (pa : Nat) : Byte :=
  if paDie pa ≠ s.ownDie then BitVec.ofNat 8 (Config.remoteByte s.freeCtr pa)
  else if basinBase ≤ paLocal pa then s.basin.scratch.byte (paLocal pa - basinBase) else s.memByte pa

/-- A byte written at a physical address (R412, R435). -/
def State.physPut (s : State) (pa : Nat) (b : Byte) : State :=
  if paDie pa ≠ s.ownDie then { s with linkOut := s.linkOut ++ [(pa, b)] }
  else if basinBase ≤ paLocal pa then
    { s with basin := { s.basin with scratch := s.basin.scratch.put (paLocal pa - basinBase) b } }
  else
    let s := s.rekeyLine pa
    { s with mem := s.mem.put pa b }

/-- `n` bytes from physical address `pa`. -/
def State.physBytes (s : State) (pa : Nat) : Nat → List Byte
  | 0 => []
  | n + 1 => s.physByte pa :: State.physBytes s (pa + 1) n

/-- Bytes written from physical address `pa` on. -/
def State.physPutList (s : State) (pa : Nat) : List Byte → State
  | [] => s
  | b :: bs => State.physPutList (s.physPut pa b) (pa + 1) bs

/-- The little-endian number in the `n` bytes at physical address `pa` (R13). -/
def State.physLe (s : State) (pa n : Nat) : Nat := leNat (s.physBytes pa n)

/-- The low `n` bytes of `v` written little-endian at physical address `pa` (R13). -/
def State.physPutLe (s : State) (pa n v : Nat) : State := s.physPutList pa (leBytes n v)

/-! ## Translation (R410-R422) -/

/-- Why an access was refused: fault code, detail, walk level and page-table entry (R415, R430). -/
structure XErr where
  code : Nat
  detail : Nat
  level : Nat
  entry : Nat
  /-- the physical address refused, for codes 0x04, 0x06, 0x08 and 0x09 -/
  pa : Nat
  deriving DecidableEq, Repr

/-- A translation: frame of the page, page size in bits and rights (R416). -/
structure Xlat where
  va : Nat
  pa : Nat
  bits : Nat
  r : Bool
  w : Bool
  a : Bool
  /-- level and value of the leaf read, 0 in segment mode -/
  level : Nat
  leaf : Nat
  deriving DecidableEq, Repr

/-- An access that passed: its value, or why it did not. -/
inductive Xres (α : Type) where
  | ok (v : α)
  | err (e : XErr)
  deriving DecidableEq, Repr

/-- Code of an access right (R430). -/
def accCode : Access → Nat
  | .read => 0
  | .write => 1
  | .atomic => 2
  | .fetch => 3

/-- The right an access needs (R416). -/
def Xlat.grants (x : Xlat) : Access → Bool
  | .read => x.r
  | .fetch => x.r
  | .write => x.w
  | .atomic => x.a

/-- A virtual address is canonical (R410). -/
def canonical (va : Nat) : Bool := bits va 63 48 == (if bitAt va 47 then 0xFFFF else 0)

/-- The walk from a table of the given level on (R413-R416): `hw` and `ua` gather the permits seen
above.  The entry is read under the context's CID; `acc` is the access, for the detail of 0x02. -/
def State.walkFrom (s : State) (cid va : Nat) (acc : Access) : List Nat → Nat → Bool → Bool → Xres Xlat
  | [], _, _, _ => .err ⟨0x03, va % 2 ^ 48, 2, 0, 0⟩
  | lvl :: rest, table, hw, ua =>
    let ea := table + 8 * bits va (12 + 9 * lvl - 1) (12 + 9 * (lvl - 1))
    if !(s.ownerOk cid ea false) || s.keyAbsent ea then
      .err ⟨0x06, ea % 2 ^ 52 + lvl * 2 ^ 52, lvl, 0, ea⟩
    else
      let e := s.physLe ea 8
      let ty := bits e 2 1
      let hw := hw && bitAt e 3
      let ua := ua && bitAt e 4
      if !(bitAt e 0) || ty == 0 || ty == 3 || (ty == 2 && lvl == 4) then
        .err ⟨0x01, va % 2 ^ 48 + lvl * 2 ^ 48, lvl, e, 0⟩
      else if ty == 1 then
        if lvl == 2 then .err ⟨0x03, va % 2 ^ 48, lvl, e, 0⟩
        else s.walkFrom cid va acc rest (bits e 51 12 * 2 ^ 12) hw ua
      else if !ua || !(bitAt e 53) then .err ⟨0x02, va % 2 ^ 48 + accCode acc * 2 ^ 48, lvl, e, 0⟩
      else
        let n := 12 + 9 * (lvl - 1)
        .ok ⟨va / 2 ^ n * 2 ^ n, bits e 51 n * 2 ^ n, n, true, hw, hw && bitAt e 54, lvl, e⟩

/-- The lowest-numbered matching segment of a partition (R418). -/
def State.segOf (s : State) (p va : Nat) : Option Nat :=
  (List.range 8).find? fun k =>
    let i := 8 * p + k
    s.on (Reg.XLT_SEG_V_VALID i) && decide (s.get (Reg.XLT_SEG_V_VBASE i) ≤ bits va 47 21) &&
      decide (bits va 47 21 < s.get (Reg.XLT_SEG_V_VBASE i) + s.get (Reg.XLT_SEG_P_SIZE i))

/-- A translation from the tables or segments of the context, with no TLB (R413-R418). -/
def State.freshXlat (s : State) (cid va : Nat) (acc : Access) : Xres Xlat :=
  let c := s.ctx cid
  if c.segments then
    match s.segOf c.pid va with
    | none => .err ⟨0x05, va % 2 ^ 48 + 2 ^ 48, 0, 0, 0⟩
    | some k =>
      let i := 8 * c.pid + k
      .ok ⟨va / 2 ^ 21 * 2 ^ 21,
        (s.get (Reg.XLT_SEG_P_PBASE i) + (bits va 47 21 - s.get (Reg.XLT_SEG_V_VBASE i))) * 2 ^ 21, 21,
        s.on (Reg.XLT_SEG_V_R i), s.on (Reg.XLT_SEG_V_R i) && s.on (Reg.XLT_SEG_V_W i),
        s.on (Reg.XLT_SEG_V_R i) && s.on (Reg.XLT_SEG_V_W i) && s.on (Reg.XLT_SEG_V_A i), 0, 0⟩
  else s.walkFrom cid va acc [4, 3, 2] (bits c.transRoot 51 12 * 2 ^ 12) true true

/-- A TLB entry serves a virtual address of its context (R420). -/
def TlbEntry.hits (e : TlbEntry) (cid va : Nat) : Bool :=
  e.cid == cid && e.va / 2 ^ e.bits == va / 2 ^ e.bits

/-- The entry grants a right (R416). -/
def TlbEntry.grants (e : TlbEntry) (acc : Access) : Bool :=
  Xlat.grants ⟨e.va, e.pa, e.bits, e.r, e.w, e.a, 0, 0⟩ acc

/-- The contexts under which XLT translates (R421). -/
def ctxTranslates : CtxSt → Bool
  | .free => false
  | .closed => false
  | .opened => true
  | .drainClose => true
  | .drainReset => true
  | .lost => true

/-- The translation that serves an access of requester `who` (R421, R422): the entry of its first-level TLB
(tile number, 64 DMA0, 65 DMA1, 255 none) or of the second-level TLB where it grants the right, else a
fresh walk. -/
def State.xlat (s : State) (who cid va : Nat) (acc : Access) : Xres Nat :=
  if !(canonical va) then .err ⟨0x05, va % 2 ^ 48, 0, 0, 0⟩
  else if !(ctxTranslates (s.ctx cid).st) then .err ⟨0x06, 0, 0, 0, 0⟩
  else
    let fresh := fun (_ : Unit) =>
      match s.freshXlat cid va acc with
      | .err e => Xres.err e
      | .ok x =>
        if x.grants acc then
          let pa := x.pa + va % 2 ^ x.bits
          if !s.yard && paDie pa != 0 then .err ⟨0x08, pa % 2 ^ 52, x.level, x.leaf, pa⟩ else .ok pa
        else .err ⟨0x02, va % 2 ^ 48 + accCode acc * 2 ^ 48, x.level, x.leaf, 0⟩
    match (Tab.get [] s.xlt.tlb1 who ++ s.xlt.tlb2).find? fun e => e.hits cid va && e.grants acc with
    | some e => .ok (e.pa + va % 2 ^ e.bits)
    | none => fresh ()

/-- The TLB entry of a translation, with the CACHE attribute of the owner-tag entry that decides for its first
byte (R420). -/
def State.entryOf (s : State) (cid : Nat) (x : Xlat) : TlbEntry :=
  ⟨cid, x.va, x.bits, x.pa, x.r, x.w, x.a, match s.tagOf x.pa with
    | none => false
    | some k => s.on (Reg.XLT_TAG_LO_CACHE k)⟩

/-- Set of an entry of the second-level TLB (R420). -/
def TlbEntry.set (e : TlbEntry) : Nat := e.va / 2 ^ (if e.bits = 30 then 30 else 21) % 512

/-- A translation entered in the second-level TLB (R420, R421): where its set holds 8 others already, a free
value names the one that goes (log entry 3). -/
def State.fillTlb2 (s : State) (cid : Nat) (x : Xlat) : State :=
  let e := s.entryOf cid x
  let others := s.xlt.tlb2.filter fun (y : TlbEntry) => !(y.hits cid x.va)
  let same := others.filter fun (y : TlbEntry) => y.set == e.set
  if same.length < 8 then { s with xlt := { s.xlt with tlb2 := e :: others } }
  else
    let gone := same.drop (s.freeVal 3) |>.head?
    ({ s with xlt := { s.xlt with tlb2 := e :: others.filter fun (y : TlbEntry) => some y != gone } }).tookFree

/-- A translation entered in a first-level TLB of 64 entries, the least recently used going (R420, R421). -/
def State.fillTlb1 (s : State) (who cid : Nat) (x : Xlat) : State :=
  if who < 66 then
    let e := s.entryOf cid x
    let others := (Tab.get [] s.xlt.tlb1 who).filter fun (y : TlbEntry) => !(y.hits cid x.va)
    { s with xlt := { s.xlt with tlb1 := s.xlt.tlb1.set who (e :: others.take 63) } }
  else s

/-- First and last offset of the reduce window within a die's addresses (R526). -/
def reduceBase : Nat := 0x7FFFC000000
def inReduce (pa : Nat) : Bool := decide (reduceBase ≤ paLocal pa) && decide (paLocal pa < basinBase)

/-- The ZL port that the die map of the current bank names for a die; values above 5 name none (R499). -/
def State.diePort (s : State) (die : Nat) : Option Nat :=
  let v := s.get (Reg.MSH_DIEMAP_PORTS (s.get Reg.MSH_EPOCH_CURRENT) (die / 8)) / 16 ^ (die % 8) % 16
  if v < 6 then some v else none

/-- The basin stop that the stop map of the current bank names for slices `4 k` to `4 k + 3`; 0x3F names none (R498,
R707). -/
def State.bsStopOf (s : State) (k : Nat) : Nat :=
  let e := s.get Reg.MSH_EPOCH_CURRENT
  match k with
  | 0 => s.get (Reg.MSH_STOPMAP_BS0 e)
  | 1 => s.get (Reg.MSH_STOPMAP_BS1 e)
  | 2 => s.get (Reg.MSH_STOPMAP_BS2 e)
  | _ => s.get (Reg.MSH_STOPMAP_BS3 e)

/-- The check that answers a request at a physical address under a CID: reduce window (R526), die map (R499),
basin window layout (R439), owner check (R432) and seal key (R436).  The detail of an unreachable die
holds the operation. -/
def State.paCheck (s : State) (cid pa va : Nat) (acc : Access) : Option XErr :=
  let op := match acc with
    | .read => 1
    | .fetch => 1
    | .write => 2
    | .atomic => 4
  if inReduce pa && (paDie pa == s.ownDie || op != 2) then some ⟨0x05, va % 2 ^ 48 + 3 * 2 ^ 48, 0, 0, 0⟩
  else if paDie pa ≠ s.ownDie then
    if (s.diePort (paDie pa)).isNone then some ⟨0x31, op * 2 ^ 16, 0, 0, pa⟩
    else if basinBase ≤ paLocal pa then some ⟨0x04, pa % 2 ^ 52, 0, 0, pa⟩ else none
  else
  if basinBase ≤ paLocal pa then
    let o := paLocal pa - basinBase
    match s.carveOwner o with
    | none => some ⟨0x05, va % 2 ^ 48 + 2 * 2 ^ 48, 0, 0, 0⟩
    | some p =>
      if !(s.domOpen (sliceDom (o / 2 ^ 21))) || s.bsStopOf (o / 2 ^ 23) == 0x3F then
        some ⟨0x05, va % 2 ^ 48 + 2 * 2 ^ 48, 0, 0, 0⟩
      else if s.cidPart cid == some p then none else some ⟨0x04, pa % 2 ^ 52, 0, 0, pa⟩
  else if !(s.ownerOk cid pa false) then some ⟨0x04, pa % 2 ^ 52, 0, 0, pa⟩
  else if s.keyAbsent pa then some ⟨0x09, (s.sealedPart pa).getD 0, 0, 0, pa⟩
  else none

/-- Translation and check of an access of requester `who`: the physical address it reaches (R410-R439). -/
def State.reachBy (s : State) (who cid va : Nat) (acc : Access) : Xres Nat :=
  match s.xlat who cid va acc with
  | .err e => .err e
  | .ok pa => match s.paCheck cid pa va acc with
    | some e => .err e
    | none => .ok pa

/-- The same for a requester without a first-level TLB. -/
def State.reach (s : State) (cid va : Nat) (acc : Access) : Xres Nat := s.reachBy 255 cid va acc

/-- A write reached the memory port: the basin drops or updates its copy; here the line stays
resident, for the cache is write-through (R440). -/
def State.reachWrite (s : State) (cid va : Nat) (bs : List Byte) : Xres State :=
  match s.reach cid va .write with
  | .err e => .err e
  | .ok pa => .ok (s.physPutList pa bs)

/-- An access of an engine unit under OBJ_DRIVER_CID or a CID a register names, at a physical address
(R433, R759): read. -/
def State.ownRead (s : State) (cid pa n : Nat) : Option (List Byte) :=
  if s.ownerOk cid pa false && !(s.keyAbsent pa) then some (s.physBytes pa n) else none

/-- The same: write. -/
def State.ownWrite (s : State) (cid pa : Nat) (bs : List Byte) : Option State :=
  if s.ownerOk cid pa false && !(s.keyAbsent pa) then some (s.physPutList pa bs) else none

/-- OBJ_DRIVER_CID (R192). -/
def State.driverCid (s : State) : Nat := s.get Reg.OBJ_DRIVER_CID_CID

/-- The memory-port stop that a physical address goes to: `MP_MAP[L]` of the current bank, with
L = PA[7:6] XOR PA[9:8] (R471, R498). -/
def State.mpStopOf (s : State) (pa : Nat) : Nat :=
  let e := s.get Reg.MSH_EPOCH_CURRENT
  match (pa / 64 % 4) ^^^ (pa / 256 % 4) with
  | 0 => s.get (Reg.MSH_STOPMAP_MP0 e)
  | 1 => s.get (Reg.MSH_STOPMAP_MP1 e)
  | 2 => s.get (Reg.MSH_STOPMAP_MP2 e)
  | _ => s.get (Reg.MSH_STOPMAP_MP3 e)

/-- Its number among the memory ports. -/
def State.mportOf (s : State) (pa : Nat) : Nat := (s.mpStopOf pa / 6 - 1) % 4

/-- Stops of row 5 (R30). -/
def dspStop : Nat := 30
def xltStop : Nat := 31
def dmaStop (n : Nat) : Nat := 32 + n
def hptStop : Nat := 34
def kprStop : Nat := 35

/-- The record of a failed access (R451): 0x04 and 0x09 name the answering memory or basin stop, 0x06
names XLT, every other code the requester.  An unreachable die's record comes from the requester's NI; it
names no stop, so that field is left open (R493, R499). -/
def State.recordX (s : State) (unit src : Nat) (cid : Nat) (qid : Option Nat) (e : XErr) : State :=
  if e.code = 6 then s.faultC 6 uXLT xltStop e.detail (some cid) qid none
  else if e.code = 0x31 then
    (s.faultC 0x31 uMSH (src % 64) (s.freeVal 6 + src % 64 * 2 ^ 8 + min 2 (src / 64) * 2 ^ 14 + e.detail)
      (some cid) qid none).tookFree
  else if e.code = 4 ∧ basinBase ≤ paLocal e.pa then
    let k := (paLocal e.pa - basinBase) / 2 ^ 23
    s.faultC 4 (uBS k) (bsStop k) e.detail (some cid) qid none
  else if e.code = 4 ∨ e.code = 9 then
    s.faultC e.code (uMP (s.mportOf e.pa)) (mpStop (s.mportOf e.pa)) e.detail (some cid) qid none
  else s.faultC e.code unit src e.detail (some cid) qid none

/-- The record of an access that an engine unit made at a physical address under a CID that a register
or command names, and that was refused (R433). -/
def State.refusedRec (s : State) (cid : Nat) (qid : Option Nat) (pa : Nat) : State :=
  if s.ownerOk cid pa false then
    s.recordX uDSP dspStop cid qid ⟨9, (s.sealedPart pa).getD 0, 0, 0, pa⟩
  else s.recordX uDSP dspStop cid qid ⟨4, pa % 2 ^ 52, 0, 0, pa⟩

/-- The record of uncorrectable data that a memory port returns (R759, R674); the record's detail is left
open for such a memory (log entry 3). -/
def State.badDataRec (s : State) (cid pa : Nat) : State :=
  (s.faultC 0x80 (uMP (s.mportOf pa)) (mpStop (s.mportOf pa)) (s.freeVal 64) (some cid) none none).tookFree

end Sys2Proof.Machine
end

