-- ==== Sys2Proof/Machine/Objects.lean ====
section
/-! DEFINITION. Chapter 04: contexts, berth groups, queues, memory objects, fences and the wait
table.  First the operations that every unit shares (references, fence updates, waiters, the loss of
a context), then the meaning of each OBJ_CMD command and of the drain's events. -/

namespace Sys2Proof.Machine

/-- What a meaning answers. -/
abbrev Out := Host.Outcome State Fault Refusal

/-- What a command does to a unit in domain `d`: a unit in a domain that is not open neither sends nor accepts
anything, and a write to its registers is ignored (R41, R49). -/
def whenLive (d : Nat) (s : State) (f : State → Out) : Out := if s.domLive d then f s else .next s

/-! ## Queues, waiters and packets -/

def State.queue (s : State) (q : Nat) : Queue := Tab.get Queue.reset s.queues q

def State.setQueue (s : State) (q : Nat) (x : Queue) : State := { s with queues := s.queues.set q x }

def State.updQueue (s : State) (q : Nat) (f : Queue → Queue) : State := s.setQueue q (f (s.queue q))

/-- The context that owns queue `q`'s berth group (R160, R161). -/
def State.queueCid (s : State) (q : Nat) : Option Nat := Tab.get none s.groups (q / 64)

/-- The queues of the groups bound to a context that are not DISABLED. -/
def State.queuesOf (s : State) (cid : Nat) : List Nat :=
  (s.queues.map (·.1)).filter fun q => s.queueCid q == some cid && (s.queue q).st != .disabled

/-- Every queue of the context, and every queue that still holds packets of it: a DISABLED queue runs those that were
fetched before to retirement, even once its group is unbound (R161, R165). -/
def State.heldQueuesOf (s : State) (cid : Nat) : List Nat :=
  (s.queues.map (·.1)).filter fun q => s.queueCid q == some cid || (s.queue q).pkts.any (·.cid == cid)

def State.waiter (s : State) (i : Nat) : Option Waiter := Tab.get none s.waiters i

def State.setWaiter (s : State) (i : Nat) (w : Option Waiter) : State :=
  { s with waiters := s.waiters.set i w }

/-- Indexes of the waiters that satisfy `p`, ascending. -/
def State.waitersWhere (s : State) (p : Waiter → Bool) : List Nat :=
  let l := s.waiters.filterMap fun e => match e.2 with
    | some w => if p w then some e.1 else none
    | none => none
  l.foldl (fun acc i => acc.takeWhile (· < i) ++ i :: acc.dropWhile (· < i)) []

/-- A packet's update within its queue, by ring index. -/
def Queue.updPkt (q : Queue) (i : Nat) (f : Pkt → Pkt) : Queue :=
  { q with pkts := q.pkts.map fun p => if p.index = i then f p else p }

def Queue.pkt (q : Queue) (i : Nat) : Option Pkt := q.pkts.find? (·.index == i)

def State.updPkt (s : State) (q i : Nat) (f : Pkt → Pkt) : State := s.updQueue q (·.updPkt i f)

/-- A packet that queue `q` holds, with the context under which it was fetched. -/
def State.heldPkt (s : State) (q i : Nat) : Option (Nat × Pkt) := ((s.queue q).pkt i).map fun p => (p.cid, p)

/-- An access of queue `q` travels on the PROMPT channel of its network, or on BULK (R213). -/
def State.useFor (s : State) (kind : UseKind) (q : Nat) : State :=
  { s with mesh := { s.mesh with uses := s.mesh.uses ++ [⟨kind, q, (s.queue q).prompt⟩] } }

/-- An outcome of a whole packet, not of one instance of a group: a cancel, the loss of the context, a miss under ABANDON,
the loss of the reference, an A2 or an A3 (R73, R183, R227, R247, R660, R661). -/
def endsWhole : PktEnd → Bool
  | .ok => false
  | .cancelled => true
  | .error c _ _ => [0x0E, 0x20, 0x21, 0x54, 0x79, 0x7A].contains c

/-- Nothing that happens later changes the packet's outcome: it has ended, or only waits for tiles to be free. -/
def Pkt.decided (p : Pkt) : Bool :=
  p.ended.isSome || (p.noMore && (p.runs.all (·.abort.isSome) || p.firstEnd.any endsWhole))

/-- A task's counts and ticks join its packet's (R226). -/
def Pkt.addRun (p : Pkt) (st : RunStats) (n : Nat) : Pkt :=
  { p with converted := p.converted + st.converted, clipped := p.clipped + st.clipped, flushed := p.flushed + st.flushed,
           nan := p.nan + st.nan, unwritten := p.unwritten + st.unwritten, runT := p.runT + n }

/-- The packet's outcome is decided, unless it was already; it retires next (R224). -/
def Pkt.finish (e : PktEnd) (p : Pkt) : Pkt := if p.ended.isSome then p else { p with ended := some e }

/-- The little-endian field of `n` bytes at offset `o` of a 64-byte packet. -/
def pfld (raw o n : Nat) : Nat := raw / 256 ^ o % 256 ^ n

/-! ## The object table (R168-R174) -/

/-- Number of entries (R190). -/
def State.objCount (s : State) : Nat := 2 ^ (max 8 (min 20 (s.get Reg.OBJ_TABLE_BASE_SIZE_LOG2)))

def State.objEntry (s : State) (h : Nat) : Nat :=
  s.get Reg.OBJ_TABLE_BASE_BASE * 2 ^ 12 + 32 * (h % 2 ^ 20)

/-- Object kinds (R168). -/
def kMemory : Nat := 1
def kProgram : Nat := 2
def kFence : Nat := 3

/-- What the engine finds when it tries to take a reference (R171): the reference, or the fault code.
The REFS limit is tried last, for 0x0D is the code only when it alone fails. -/
def State.lookRef (s : State) (cid kind off h : Nat) : Except Nat Ref :=
  let ea := s.objEntry h
  if s.objCount ≤ h % 2 ^ 20 then .error 0x0C
  else match s.ownRead s.driverCid ea 32 with
    | none => .error 0x0C
    | some bs =>
      let e := leNat bs
      let fl := pfld e 4 2
      let ow := pfld e 6 2
      let r : Ref := ⟨off, h, pfld e 8 8, pfld e 16 8, pfld e 24 4, ow % 1024⟩
      if r.gen % 4096 ≠ h / 2 ^ 20 % 4096 ∨ fl % 8 ≠ 1 ∨ bits ow 13 10 ≠ kind then .error 0x0C
      else if kind = kFence ∧ r.addr % 16 ≠ 0 then .error 0x0C
      else if ow % 1024 = cid ∨
          (bitAt fl 3 ∧ (s.cidPart (ow % 1024)).isSome ∧ s.cidPart (ow % 1024) = s.cidPart cid) then
        if e % 2 ^ 32 = 2 ^ 32 - 1 then .error 0x0D else .ok r
      else .error 0x0C

/-- The REFS word of an object set, at the memory port (R170). -/
def State.putRefs (s : State) (h v : Nat) : State :=
  match s.ownWrite s.driverCid (s.objEntry h) (leBytes 4 v) with
  | some s' => s'
  | none => s

/-- One reference taken (R171): REFS gains 1.  An access that is refused, or that returns uncorrectable data (`bad`), is
recorded by the memory port (R759). -/
def State.takeRef (s : State) (cid kind off h : Nat) (bad : Bool) : State × Except Nat Ref :=
  let ea := s.objEntry h
  if h % 2 ^ 20 < s.objCount ∧ s.ownRead s.driverCid ea 32 = none then (s.refusedRec s.driverCid none ea, .error 0x0C)
  else if bad ∧ h % 2 ^ 20 < s.objCount then (s.badDataRec s.driverCid ea, .error 0x0C)
  else match s.lookRef cid kind off h with
    | .ok r => (s.putRefs h (s.physLe ea 4 + 1), .ok r)
    | .error c => (s, .error c)

/-- How a release ends (R172, R174); a destruction with the entry's EVENT word. -/
inductive RelEnd where
  | done | dead (event : Nat) | underflow (owner : Nat) | refused
  deriving DecidableEq, Repr

/-- One reference released by one compare-and-swap (R172): REFS loses 1, and DEAD is set when it
reaches 0 under CLOSING; at 0 already the word stays and the owner is lost (R174).  An access that is refused, or that
returns uncorrectable data (`bad`), is recorded by the memory port (R759). -/
def State.relRef (s : State) (r : Ref) (bad : Bool) : State × RelEnd :=
  let ea := s.objEntry r.handle
  match s.ownRead s.driverCid ea 32 with
  | none => (s.refusedRec s.driverCid none ea, .refused)
  | some bs =>
    let e := leNat bs
    let w := e % 2 ^ 64
    let refs := w % 2 ^ 32
    let fl := w / 2 ^ 32 % 2 ^ 16
    if bad then (s.badDataRec s.driverCid ea, .refused)
    else if refs = 0 then (s, .underflow (w / 2 ^ 48 % 1024))
    else
      let dead := refs == 1 && bitAt fl 1
      let w' := w - 1 + (if dead && !(bitAt fl 2) then 4 * 2 ^ 32 else 0)
      match s.ownWrite s.driverCid ea (leBytes 8 w') with
      | some s' => (s', if dead then .dead (pfld e 28 2) else .done)
      | none => (s, .refused)

/-! ## Abort of runs (R183 step 2) -/

/-- The tile is ordered to abort: it issues nothing more, its issued requests complete, and it is then
free (R183). -/
def Tile.abortOrder (t : Tile) : Tile :=
  { t with core := .ending, atEnd := false, wait := none, call := none, fetch := none, yielding := false }

def State.tile (s : State) (n : Nat) : Tile := Tab.get Tile.reset s.tiles n

def State.setTile (s : State) (n : Nat) (t : Tile) : State := { s with tiles := s.tiles.set n t }

def State.updTile (s : State) (n : Nat) (f : Tile → Tile) : State := s.setTile n (f (s.tile n))

/-- Swap slot `k` of partition `p` is given back (R260). -/
def State.freeSlot (s : State) (p k : Nat) : State :=
  { s with disp := { s.disp with slots := s.disp.slots.filter (· != (p, k)) } }

/-- Suspensions of an instance are discarded: a later command for their token is stale (R431). -/
def State.dropSusp (s : State) (q i : Nat) (inst : Option Nat) : State :=
  { s with xlt := { s.xlt with
      susp := s.xlt.susp.filter fun x =>
        !(x.qid == q && x.index == i && (inst == none || inst == some x.inst)) } }

/-- Tile ticks of a task of packet `i` join its context's count (R686). -/
def State.countRun (s : State) (q i n : Nat) : State := match (s.queue q).pkt i with
  | some p => s.countFor p.cid fun c => { c with runT := c.runT + n }
  | none => s

/-- One run is aborted with an outcome: on a tile the tile is ordered to abort and the run ends when it
is free, as does one whose state a swap still moves; a switched-out copy is discarded at once (R183, R246), and its ticks
count for the packet (R226) and the context (R686). -/
def State.abortRun (s : State) (q i : Nat) (r : Run) (e : PktEnd) : State :=
  let mark := fun (s : State) => s.updPkt q i fun p =>
    { p with runs := p.runs.map fun x =>
        if x.inst = r.inst then { x with abort := if x.abort.isSome then x.abort else some e } else x }
  let gone := fun (s : State) (pt k : Nat) =>
    (((s.countRun q i r.runT).freeSlot pt k).dropSusp q i (some r.inst)).updPkt q i fun p =>
      let p := { p.addRun r.stats r.runT with
        runs := p.runs.filter (·.inst != r.inst), firstEnd := if p.firstEnd.isSome then p.firstEnd else some e }
      if p.runs.isEmpty then Pkt.finish (p.firstEnd.getD e) p else p
  match r.place with
  | .onTile t => ((mark s).updTile t Tile.abortOrder).dropSusp q i (some r.inst)
  | .saving _ _ _ => (mark s).dropSusp q i (some r.inst)
  | .loading _ _ _ => (mark s).dropSusp q i (some r.inst)
  | .heldInSlot pt k => gone s pt k
  | .inPool pt k => gone s pt k

/-- Every run of a packet is aborted with an outcome, no further instance starts, and a packet with no
run left ends with it (R227, R246, R247), although an instance of a group failed before. -/
def State.abortPkt (s : State) (q i : Nat) (e : PktEnd) : State :=
  match (s.queue q).pkt i with
  | none => s
  | some p =>
    let s := s.updPkt q i fun p =>
      { p with noMore := true, firstEnd := if p.decided then p.firstEnd else some e }
    let s := p.runs.foldl (fun s r => s.abortRun q i r e) s
    s.updPkt q i fun p => if p.runs.isEmpty then Pkt.finish (p.firstEnd.getD e) p else p

/-! ## Waiters (R180) -/

/-- The packet that holds queue `q`'s waiter ends with an outcome. -/
def State.endHead (s : State) (q : Nat) (e : PktEnd) : State :=
  s.updQueue q fun x =>
    { x with pkts := x.pkts.map fun p => if p.st = .atHead then Pkt.finish e p else p }

/-- State of a queue whose waiter goes: WAITING returns to ACTIVE; a FENCE_WAIT or BARRIER fetched before its queue was
disabled or halted changes that state no more (R163, log entry 102). -/
def qResumed : QueueSt → QueueSt
  | .waiting => .active
  | .active => .active
  | .disabled => .disabled
  | .halted => .halted

/-- State of a queue whose waiter is broken (R163). -/
def qBroken : QueueSt → QueueSt
  | .waiting => .halted
  | .active => .halted
  | .disabled => .disabled
  | .halted => .halted

/-- State of a queue that a FENCE_WAIT or BARRIER makes wait (R163). -/
def qWaits : QueueSt → QueueSt
  | .active => .waiting
  | .waiting => .waiting
  | .disabled => .disabled
  | .halted => .halted

/-- The waiter in entry `i` is satisfied (R180). -/
def State.satisfy (s : State) (i : Nat) : State :=
  match s.waiter i with
  | none => s
  | some w =>
    let s := s.setWaiter i none
    if i < 32768 then (s.endHead i .ok).updQueue i fun x => { x with st := qResumed x.st }
    else s.event w.vector

/-- The waiter in entry `i` is broken (R180, R181): a queue's packet retires with the code and the
queue halts; a host wait is treated as satisfied.  `rec_` is the record already made, or none where
0x0F is to be recorded with the status found. -/
def State.breakWaiter (s : State) (i code : Nat) (rec_ : Option Nat) (status : Nat) : State :=
  match s.waiter i with
  | none => s
  | some w =>
    let s := s.setWaiter i none
    if i < 32768 then
      let id := rec_.getD s.recId
      let s := if rec_.isSome then s else
        s.faultC 0x0F uDSP dspStop (w.fence % 2 ^ 48 + status * 2 ^ 48) (some w.ctx) (some i) none
      (s.endHead i (.error code uDSP (some id))).updQueue i fun x => { x with st := qBroken x.st }
    else s.event w.vector

/-- One evaluation of a waiter against a fence word (R180). -/
def State.evalWaiter (s : State) (i word : Nat) : State :=
  match s.waiter i with
  | none => s
  | some w =>
    let st := word / 2 ^ 62 % 4
    if st = 1 ∧ w.target ≤ word % 2 ^ 62 then s.satisfy i
    else if st = 2 ∨ st = 3 then s.breakWaiter i 0x0F none st
    else s

/-- Every waiter that names the fence under the CID is evaluated, in ascending order (R180). -/
def State.evalFence (s : State) (cid va word : Nat) : State :=
  (s.waitersWhere fun w => w.cid == cid && w.fence == va && !w.barrier).foldl
    (fun s i => s.evalWaiter i word) s

/-! ## The loss of a context (R183) -/

/-- The waiters of a lost context are broken: their packets end with 0x0E and their queues stay as they
are (R183 step 4). -/
def State.breakAll (s : State) (cid : Nat) (e : PktEnd) : State :=
  (s.waitersWhere (·.ctx == cid)).foldl
    (fun s i => match s.waiter i with
      | none => s
      | some w =>
        let s := s.setWaiter i none
        if i < 32768 then s.endHead i e else s.event w.vector) s

/-- A packet that has not started and is not at the head of its queue (R183 step 5, R184 step 4). -/
def Pkt.waiting (p : Pkt) : Bool :=
  p.ended.isNone && p.runs.isEmpty &&
    (match p.st with
      | .fetched => true
      | .offered => true
      | .pooled => true
      | .atHead => false
      | .started => false)

/-- A suspended DMA packet of a context ends with an outcome and its token is discarded (R184 step 5). -/
def State.endSuspended (s : State) (q cid : Nat) (e : PktEnd) : State :=
  (s.queue q).pkts.foldl (fun s p =>
    if p.cid = cid ∧ p.token.isSome ∧ p.ended.isNone then
      (s.dropSusp q p.index none).updPkt q p.index fun p => Pkt.finish e { p with token := none }
    else s) s

/-- The packets of a context that a queue holds and that have not started end with an outcome. -/
def State.endWaiting (s : State) (q cid : Nat) (e : PktEnd) : State :=
  s.updQueue q fun x => { x with pkts := x.pkts.map fun p => if p.cid = cid ∧ p.waiting then Pkt.finish e p else p }

/-- Every run of the context's queues is aborted with an outcome (R183 steps 2 and 3). -/
def State.abortCtx (s : State) (cid : Nat) (e : PktEnd) : State :=
  (s.heldQueuesOf cid).foldl (fun s q =>
    ((s.queue q).pkts.foldl (fun s p => if p.cid ≠ cid ∨ p.runs.isEmpty then s else s.abortPkt q p.index e) s).endSuspended
      q cid e) s

/-- The staged copies of a context's queues are discarded (R210); the answer lists their references. -/
def State.dropStaged (s : State) (qs : List Nat) : State × List Ref :=
  qs.foldl (fun (s, rs) q =>
    match (s.queue q).staged with
    | none => (s.updQueue q fun x => { x with staging := none }, rs)
    | some g => (s.updQueue q fun x => { x with staged := none, staging := none }, rs ++ g.refs)) (s, [])

/-- Claims of the context's queues end: their tiles' written bits are cleared (R266). -/
def State.endClaims (s : State) (p : Nat → Nat → Bool) : State :=
  (List.range 64).foldl (fun s t =>
    let d := Tab.get DTile.reset s.disp.tiles t
    match d.claim with
    | none => s
    | some q => if p t q then
        ({ s with disp := { s.disp with tiles := s.disp.tiles.set t { d with claim := none } } }).updTile t
          fun x => { x with written := [] }
      else s) s

/-- LOSS_VEC is written once the work of the lost context is done: no packet of it is left to retire
and every queue has been swept (R183 step 6). -/
def State.settleLoss (s : State) (cid : Nat) : State :=
  let c := s.ctx cid
  if c.lossDue ∧ (s.queuesOf cid).all (fun q => (s.queue q).head == (s.queue q).tail) ∧
      (s.heldQueuesOf cid).all (fun q => (s.queue q).pkts.all fun p => p.cid != cid || (p.dma.isSome && p.ended.isNone)) then
    (s.setCtx cid { c with lossDue := false }).event c.lossVec
  else s

/-- The marks of a loss (R183, R157): state LOST from OPEN or a reset drain, the record 0x0E, aborts,
broken waiters and failed packets; in a close drain the running tasks are aborted, LOSS_VEC is written
and the drain goes on.  `cause` is the causing record.  The answer lists references to release. -/
def State.loseMark (s : State) (cid code : Nat) (cause : Option Nat) (byCmd : Bool) : State × List Ref :=
  let c := s.ctx cid
  let live := fun (close : Bool) =>
    let s := if close then s else s.setCtx cid { c with st := .lost, lossDue := true }
    let id := s.recId
    let s := s.setCtx cid { s.ctx cid with lossRec := some id }
    let s := s.faultC 0x0E uDSP dspStop (if byCmd then 2 ^ 32 else code) (some cid) none cause
    let e := PktEnd.error 0x0E uDSP (some id)
    let s := s.abortCtx cid e
    if close then (s.event c.lossVec, [])
    else
      let s := s.breakAll cid e
      let s := (s.heldQueuesOf cid).foldl (fun s q => s.endWaiting q cid e) s
      let s := s.endClaims fun _ q => s.queueCid q == some cid
      let (s, rs) := s.dropStaged (s.heldQueuesOf cid)
      (s.settleLoss cid, rs)
  match c.st with
  | .opened => live false
  | .drainReset => live false
  | .drainClose => live true
  | .free => (s, [])
  | .lost => (s, [])
  | .closed => (s, [])

/-- Work of the object-table engine: a reference to release, whose access may return uncorrectable data, or a context to
lose. -/
inductive ObjWork where
  | release (r : Ref) (bad : Bool)
  | lose (cid code : Nat) (cause : Option Nat) (byCmd : Bool)
  deriving DecidableEq, Repr

/-- The object-table engine works off a list: a release that finds REFS at 0 loses the owning context
(R174), and a loss releases the references of its staged copies (R210). -/
def State.settle : Nat → List ObjWork → State → State
  | 0, _, s => s
  | _ + 1, [], s => s
  | n + 1, .release r bad :: ws, s =>
    match s.relRef r bad with
    | (s, .done) => State.settle n ws s
    | (s, .dead event) => State.settle n ws (if bitAt event 15 then s.event (event % 4096) else s)
    | (s, .refused) => State.settle n ws (s.fault 0x0D uDSP dspStop (r.handle + 2 ^ 62))
    | (s, .underflow o) =>
      let id := s.recId
      State.settle n (.lose o 0x0D (some id) false :: ws)
        (s.faultC 0x0D uDSP dspStop (r.handle + 2 ^ 63) (some o) none none)
  | n + 1, .lose cid code cause byCmd :: ws, s =>
    let (s, rs) := s.loseMark cid code cause byCmd
    State.settle n (rs.map (.release · false) ++ ws) s

/-- Bound on the work of one call: every context lost once and every reference of every staged copy
released once is below it. -/
def settleFuel : Nat := 4096

/-- References released (R172). -/
def State.release (s : State) (rs : List Ref) : State := State.settle settleFuel (rs.map (.release · false)) s

/-- The same, where the access for the handle at place `bad` of the list returns uncorrectable data. -/
def State.releaseBad (s : State) (rs : List Ref) (bad : Option Nat) : State :=
  State.settle settleFuel (rs.zipIdx.map fun e => .release e.1 (bad == some e.2)) s

/-- A context is lost by a fault with a code and its record (R182, R183). -/
def State.lose (s : State) (cid code : Nat) (cause : Option Nat) : State :=
  State.settle settleFuel [.lose cid code cause false] s

/-- The failure of an access whose outcome is the loss of the context (R182, R427): recorded by the
unit that refused it, then the loss. -/
def State.loseX (s : State) (unit src cid : Nat) (qid : Option Nat) (e : XErr) : State :=
  let id := s.recId
  (s.recordX unit src cid qid e).lose cid e.code (some id)

/-! ## Fences (R175-R177) -/

/-- An update of a fence (R176). -/
inductive FenceUp where
  | signal (v : Nat)
  | error (companion : Nat)
  | cancel
  deriving DecidableEq, Repr

/-- The companion word (R177). -/
def companion (seq cid qid unit code : Nat) : Nat :=
  seq % 2 ^ 16 * 2 ^ 42 + cid % 2 ^ 10 * 2 ^ 32 + qid % 2 ^ 15 * 2 ^ 16 + unit % 256 * 256 + code % 256

/-- The fence transitions table (R176): the fence word and companion after an update, or `none` where
the table does not allow it. -/
def fenceStep (word comp : Nat) (u : FenceUp) : Option (Nat × Nat) :=
  let st := word / 2 ^ 62 % 4
  let cnt := word % 2 ^ 62
  if st = 0 ∨ st = 1 then
    match u with
    | .signal v => if st = 0 ∨ cnt < v then some (2 ^ 62 + v % 2 ^ 62, comp) else none
    | .error c => some (2 * 2 ^ 62 + cnt, c)
    | .cancel => some (3 * 2 ^ 62 + cnt, comp)
  else none

/-- A fence update by the dispatcher (R176): one 16-byte atomic under the fence's CID that needs the
write right; refused, it loses the context whose fence it is (R182, log entry 103); not allowed, it counts in FENCE_DISCARD; done, the
waiters of the fence are evaluated (R180). -/
def State.fence (s : State) (cid va : Nat) (qid : Option Nat) (u : FenceUp) : State :=
  match s.reach cid va .write with
  | .err e => s.loseX uDSP dspStop cid qid e
  | .ok pa =>
    match fenceStep (s.physLe pa 8) (s.physLe (pa + 8) 8) u with
    | none => s.sat Reg.OBJ_COUNTS_FENCE_DISCARD 1
    | some (w, c) => ((s.physPutLe pa 8 w).physPutLe (pa + 8) 8 c).evalFence cid va w

/-! ## OBJ_CMD (R187, R188, R760) -/

/-- The result of a command. -/
def State.result (s : State) (r d : Nat) : State :=
  (s.put Reg.OBJ_CMD_STATUS_RESULT r).put Reg.OBJ_CMD_STATUS_RESULT_DATA d

def rDone : Nat := 0
def rBadState : Nat := 1
def rBadPartition : Nat := 2
def rLimit : Nat := 3
def rBound : Nat := 4
def rFull : Nat := 5
def rBadDesc : Nat := 6
def rVecOverlap : Nat := 7
def rBadVector : Nat := 8
def rBadOpcode : Nat := 9
def rBadAddr : Nat := 10

/-- An object command (R187): ignored with OVERRUN while another is in progress.  It acts at once, and BUSY falls at the next
advance of the GTC, which lies within its limit (log entry 104). -/
def objCommand (s : State) (f : State → State) : Out := whenLive 3 s fun s =>
  .next (if s.on Reg.OBJ_CMD_STATUS_BUSY then s.put Reg.OBJ_CMD_STATUS_OVERRUN 1
    else (f s).put Reg.OBJ_CMD_STATUS_BUSY 1)

/-- Partition `p` is quarantined (R660). -/
def State.quarantined (s : State) (p : Nat) : Bool := bitAt (s.get Reg.KPR_STATE_QUARANTINE) p

/-- Contexts of partition `p` that are not FREE. -/
def State.ctxCount (s : State) (p : Nat) : Nat :=
  (s.ctxs.filter fun e => e.2.st != .free && e.2.pid == p).length

/-- Is vector `v` within the context's range (R155)? -/
def Ctx.hasVec (c : Ctx) (v : Nat) : Bool := decide (c.vecBase ≤ v) && decide (v < c.vecBase + c.vecCount)

/-- A context descriptor as the engine reads it (R155, R413, R417): the context that it describes, or
`none` where it is malformed. -/
def State.parseCtx (s : State) (d pid : Nat) : Option Ctx :=
  let root := pfld d 0 8
  let mode := pfld d 8 1
  let fl := pfld d 9 1
  let vb := pfld d 0x0E 2
  let vc := pfld d 0x10 2
  let hasSeg := (List.range 8).any fun k =>
    s.on (Reg.XLT_SEG_V_VALID (8 * pid + k)) && s.get (Reg.XLT_SEG_P_SIZE (8 * pid + k)) != 0
  if mode > 1 ∨ fl > 1 ∨ pfld d 0x0A 2 ≥ 4096 ∨ pfld d 0x0C 2 ≥ 4096 ∨ vb ≥ 4096 ∨
      pfld d 0x12 6 ≠ 0 ∨ pfld d 0x20 32 ≠ 0 ∨ vc = 0 ∨ vb + vc > 4096 then none
  else if mode = 0 ∧ (root % 4096 ≠ 0 ∨ root ≥ 2 ^ 52) then none
  else if mode = 1 ∧ (root ≠ pid ∨ !hasSeg) then none
  else some { Ctx.reset with
    st := .opened, pid := pid, transRoot := root, segments := mode == 1, trapUnwritten := fl == 1,
    lossVec := pfld d 0x0A 2, closeVec := pfld d 0x0C 2, vecBase := vb, vecCount := vc,
    walks := s.xlt.burst }

/-- A wharf arena descriptor (R447). -/
def parseArena (d : Nat) : Option Arena :=
  let va := pfld d 0 8
  let n := pfld d 8 4
  let st := pfld d 0x10 8
  if va % 2 ^ 24 ≠ 0 ∨ n = 0 ∨ n > 4096 ∨ pfld d 12 4 ≠ 0 ∨ st % 4096 ≠ 0 ∨ pfld d 0x18 40 ≠ 0 then none
  else some ⟨va, n, st⟩

/-- The descriptor of CTX_OPEN read and checked (R155, R447); `bad` and `badArena`: its read, or its arena descriptor's,
returns uncorrectable data.  Refused reads are recorded by the memory port (R759). -/
def State.readCtx (s : State) (pid : Nat) (bad badArena : Bool) : State × Option Ctx :=
  let a := s.get (Reg.OBJ_CMD_ARG_ARG 0)
  if a % 64 ≠ 0 then (s, none)
  else if bad then (s.badDataRec s.driverCid a, none)
  else match s.ownRead s.driverCid a 64 with
    | none => (s.refusedRec s.driverCid none a, none)
    | some bs =>
      match s.parseCtx (leNat bs) pid with
      | none => (s, none)
      | some c =>
        let wh := pfld (leNat bs) 0x18 8
        if wh = 0 then (s, some c)
        else if badArena then (s.badDataRec s.driverCid wh, none)
        else match s.ownRead s.driverCid wh 64 with
          | none => (s.refusedRec s.driverCid none wh, none)
          | some ar =>
            match parseArena (leNat ar) with
            | none => (s, none)
            | some x => (s, some { c with arena := some x })

/-- The context's range, its LOSS_VEC or its CLOSE_VEC meets the range of another context that is not FREE (R156). -/
def State.vecOverlap (s : State) (cid : Nat) (c : Ctx) : Bool :=
  s.ctxs.any fun e => e.1 != cid && e.2.st != .free &&
    (decide (c.vecBase < e.2.vecBase + e.2.vecCount ∧ e.2.vecBase < c.vecBase + c.vecCount) ||
      e.2.hasVec c.lossVec || e.2.hasVec c.closeVec)

/-- CTX_OPEN (R155-R158, R760). -/
def execCtxOpen (cid pid : BitVec 16) (bad badArena : Bool) (s : State) : Out := objCommand s fun s =>
  let c := cid.toNat % 1024
  let p := pid.toNat % 16
  if (s.ctx c).st ≠ .free ∨ s.quarantined p then s.result rBadState 0
  else if !(s.partValid p) then s.result rBadPartition 0
  else if min 1024 (s.get (Reg.OBJ_PART_CFG_CTX_LIMIT p)) ≤ s.ctxCount p then s.result rLimit 0
  else match s.readCtx p bad badArena with
    | (s, none) => s.result rBadDesc 0
    | (s, some x) =>
      if s.vecOverlap c x then s.result rVecOverlap 0 else (s.setCtx c x).result rDone 0

/-- Removal of every waiter of a context without writing its vector; the waiting packets retire
cancelled (R184 step 3).  Their queues' states wait for step 8. -/
def State.dropWaiters (s : State) (cid : Nat) : State :=
  (s.waitersWhere (·.ctx == cid)).foldl (fun s i =>
    let s := s.setWaiter i none
    if i < 32768 then s.endHead i .cancelled else s) s

/-- A run is suspended: on its tile, or with its state on the way into a slot (R258, R429). -/
def State.runSuspended (s : State) (q i : Nat) (r : Run) : Bool := match r.place with
  | .heldInSlot _ _ => true
  | .inPool _ _ => false
  | .onTile t => (s.tile t).core == .suspended
  | .saving _ _ _ => s.xlt.susp.any fun x => x.qid == q && x.index == i && x.inst == r.inst
  | .loading _ _ _ => false

/-- The start of a drain (R184 steps 1 to 5): waiters removed, packets that have not started and
suspended ones cancelled, staged copies discarded, claims ended.  Running tasks run on.  A LOSS_VEC still due is written
when the work of the loss is done. -/
def State.startDrain (s : State) (cid : Nat) (st : CtxSt) : State :=
  let s := s.setCtx cid { s.ctx cid with st := st, drainAt := s.time copyDsp }
  let s := s.dropWaiters cid
  let s := (s.heldQueuesOf cid).foldl (fun s q =>
    let s := (s.queue q).pkts.foldl (fun s p =>
      if p.cid = cid then
        p.runs.foldl (fun s r => if s.runSuspended q p.index r then s.abortRun q p.index r .cancelled else s) s
      else s) s
    (s.endWaiting q cid .cancelled).endSuspended q cid .cancelled) s
  let s := s.endClaims fun _ q => s.queueCid q == some cid
  let (s, rs) := s.dropStaged (s.heldQueuesOf cid)
  s.release rs

/-- CTX_CLOSE (R157, R184). -/
def execCtxClose (cid : BitVec 16) (s : State) : Out := objCommand s fun s =>
  let c := cid.toNat % 1024
  match (s.ctx c).st with
    | .opened => (s.startDrain c .drainClose).result rDone 0
    | .drainReset => (s.startDrain c .drainClose).result rDone 0
    | .lost => (s.startDrain c .drainClose).result rDone 0
    | .free => s.result rBadState 0
    | .drainClose => s.result rBadState 0
    | .closed => s.result rBadState 0

/-- CTX_RELEASE (R157): the groups bound to the CID are unbound. -/
def execCtxRelease (cid : BitVec 16) (s : State) : Out := objCommand s fun s =>
  let c := cid.toNat % 1024
  if (s.ctx c).st = .closed then
    ({ s.setCtx c Ctx.reset with
        groups := s.groups.map fun (g : Nat × Option Nat) => if g.2 = some c then (g.1, none) else g }).result rDone 0
  else s.result rBadState 0

/-- CTX_RESET (R184). -/
def execCtxReset (cid : BitVec 16) (s : State) : Out := objCommand s fun s =>
  let c := cid.toNat % 1024
  if (s.ctx c).st = .opened then (s.startDrain c .drainReset).result rDone 0 else s.result rBadState 0

/-- CTX_LOSE (R183): allowed in OPEN and DRAINING. -/
def execCtxLose (cid : BitVec 16) (s : State) : Out := objCommand s fun s =>
  let c := cid.toNat % 1024
  let go := fun (_ : Unit) => (State.settle settleFuel [.lose c 0 none true] s).result rDone 0
  match (s.ctx c).st with
    | .opened => go ()
    | .drainReset => go ()
    | .drainClose => go ()
    | .free => s.result rBadState 0
    | .lost => s.result rBadState 0
    | .closed => s.result rBadState 0

/-- GROUP_BIND (R161). -/
def execGroupBind (group cid : BitVec 16) (s : State) : Out := objCommand s fun s =>
  let g := group.toNat % 512
  let c := cid.toNat % 1024
  if (Tab.get none s.groups g).isSome then s.result rBound 0
  else if (s.ctx c).st ≠ .opened then s.result rBadState 0
  else ({ s with groups := s.groups.set g (some c) }).result rDone 0

/-- GROUP_UNBIND (R161): refused while any queue of the group is not DISABLED. -/
def execGroupUnbind (group : BitVec 16) (s : State) : Out := objCommand s fun s =>
  let g := group.toNat % 512
  if s.queues.any fun e => e.1 / 64 == g && e.2.st != .disabled then s.result rBadState 0
  else if (Tab.get none s.groups g).isNone then s.result rDone 0
  else ({ s with groups := s.groups.set g none }).result rDone 0

/-- Physical address of queue `q`'s descriptor (R162, R191). -/
def State.qdesc (s : State) (q : Nat) : Nat := s.get Reg.OBJ_QTABLE_BASE_BASE * 2 ^ 21 + 64 * q

/-- A queue descriptor as the engine reads it (R211, R212), without its slot: `none` where invalid. -/
def State.parseQueue (s : State) (cid d : Nat) : Option Queue :=
  let ring := pfld d 0 8
  let rec_ := pfld d 8 8
  let head := pfld d 0x10 4
  let tail := pfld d 0x14 4
  let rl := pfld d 0x1C 1
  let cl := pfld d 0x1D 1
  let band := pfld d 0x1E 1
  let fl := pfld d 0x1F 1
  let share := pfld d 0x22 2
  if band > 3 ∨ fl > 7 ∨ share ≥ 4096 ∨ pfld d 0x28 24 ≠ 0 ∨ rl < 6 ∨ rl > 16 ∨
      (rec_ = 0 ∧ cl ≠ 0) ∨ (rec_ ≠ 0 ∧ (cl < 6 ∨ cl > 16)) ∨ ring % 4096 ≠ 0 ∨ rec_ % 4096 ≠ 0 ∨
      (tail + 2 ^ 32 - head) % 2 ^ 32 > 2 ^ rl ∨ (bitAt fl 1 ∧ !(bitAt fl 0)) ∨
      (bitAt fl 2 ∧ cid ≠ s.driverCid) ∨ pfld d 0x20 1 > 3 ∨ pfld d 0x21 1 = 0 ∨ pfld d 0x21 1 > 16 then none
  else some { Queue.reset with
    st := .active, ringVa := ring, recVa := rec_, head := head, tail := tail, seq := pfld d 0x18 4,
    ringLog2 := rl, recLog2 := cl, band := band, prompt := bitAt fl 0, stage := bitAt fl 1,
    priv := bitAt fl 2, missPolicy := pfld d 0x20 1, prefetch := pfld d 0x21 1, share := share,
    recNo := pfld d 0x24 4 }

/-- Occupied stage slots (R231). -/
def State.stageUsed (s : State) : Nat := (s.queues.filter fun e => e.2.stageSlot).length

/-- QUEUE_ENABLE (R164, R207, R211, R212, R244). -/
def execQueueEnable (qid : BitVec 16) (bad : Bool) (s : State) : Out := objCommand s fun s =>
  let q := qid.toNat % 32768
  match s.queueCid q with
  | none => s.result rBadState 0
  | some c =>
    if (s.ctx c).st ≠ .opened ∨ (s.queue q).st ≠ .disabled then s.result rBadState 0
    else if bad then (s.badDataRec s.driverCid (s.qdesc q)).result rBadDesc 0
    else match s.ownRead s.driverCid (s.qdesc q) 64 with
      | none => (s.refusedRec s.driverCid none (s.qdesc q)).result rBadDesc 0
      | some bs =>
        match s.parseQueue c (leNat bs) with
        | none => s.result rBadDesc 0
        | some x =>
          let slot := x.stage && decide (s.stageUsed < 256)
          (s.setQueue q { x with
            stageSlot := slot, pkts := (s.queue q).pkts,
            credit := (atLeast1 (s.get Reg.DSP_SHARE_BURST_TT) * 4096 : Nat) }).result rDone 0

/-- The counters written back to the queue descriptor at the disabling of a queue (R211). -/
def State.writeBack (s : State) (q : Nat) : State :=
  let x := s.queue q
  let d := s.qdesc q
  match s.ownWrite s.driverCid (d + 0x10) (leBytes 4 x.head ++ leBytes 4 x.tail ++ leBytes 4 x.seq) with
  | none => s.refusedRec s.driverCid none d
  | some s => (s.ownWrite s.driverCid (d + 0x24) (leBytes 4 x.recNo)).getD s

/-- A queue becomes DISABLED (R165, R207, R210, R211, R228, R266): its staged copy is discarded, its waiter
removed without retiring its packet, which stands at the head again, its cancel entries and claims go,
and its counters are written back.  A queue already DISABLED is left alone. -/
def State.disableQueue (s : State) (q : Nat) : State :=
  let x := s.queue q
  if x.st = .disabled then s
  else
    let held := x.pkts.filter fun p => p.st == .atHead && p.ended.isNone
    let (s, rs) := s.dropStaged [q]
    let s := if held.isEmpty then s else s.setWaiter q none
    let s := s.updQueue q fun x =>
      { x with st := .disabled, stageSlot := false, horizon := none,
               pkts := x.pkts.filter fun p => !(p.st == .atHead && p.ended.isNone),
               head := match held with
                 | [] => x.head
                 | p :: _ => p.index }
    let s := { s with disp := { s.disp with cancels := s.disp.cancels.filter (·.1 != q) } }
    let s := s.endClaims fun _ q' => q' == q
    (s.writeBack q).release (rs ++ (held.map (·.refs)).flatten)

/-- QUEUE_DISABLE (R165). -/
def execQueueDisable (qid : BitVec 16) (s : State) : Out := objCommand s fun s =>
  (s.disableQueue (qid.toNat % 32768)).result rDone 0

/-- QUEUE_RESUME (R163). -/
def execQueueResume (qid : BitVec 16) (s : State) : Out := objCommand s fun s =>
  let q := qid.toNat % 32768
  if (s.queue q).st = .halted then (s.updQueue q fun x => { x with st := .active }).result rDone 0
  else s.result rBadState 0

/-- A waiter's fence read (R180, R181, R427): evaluation, a broken waiter under the translation code, or
the loss of the context. -/
def State.readWaiter (s : State) (i : Nat) (e : XErr) : State :=
  match s.waiter i with
  | none => s
  | some w =>
    if e.code = 4 ∨ e.code = 6 ∨ e.code = 9 then s.loseX uDSP dspStop w.cid (if i < 32768 then some i else none) e
    else
      let id := s.recId
      (s.recordX uDSP dspStop w.cid (if i < 32768 then some i else none) e).breakWaiter i e.code (some id) 0

/-- A waiter entered in the table, then evaluated at its fence read (R180). -/
def State.enterWaiter (s : State) (i : Nat) (w : Waiter) : State :=
  let s := s.setWaiter i (some w)
  match s.reach w.cid w.fence .read with
  | .ok pa => s.evalWaiter i (s.physLe pa 8)
  | .err e => s.readWaiter i e

/-- The lowest free host entry of the wait table (R179). -/
def State.freeHostWait (s : State) : Option Nat :=
  ((List.range 32768).map (· + 32768)).find? fun i => (s.waiter i).isNone

/-- WAIT_HOST (R179, R187, R760). -/
def execWaitHost (cid vector : BitVec 16) (s : State) : Out := objCommand s fun s =>
  let c := cid.toNat % 1024
  let v := vector.toNat % 4096
  let fence := s.get (Reg.OBJ_CMD_ARG_ARG 0)
  if (s.ctx c).st ≠ .opened then s.result rBadState 0
  else if fence % 16 ≠ 0 then s.result rBadAddr 0
  else if !((s.ctx c).hasVec v) then s.result rBadVector 0
  else match s.freeHostWait with
    | none => s.result rFull 0
    | some i =>
      (s.enterWaiter i ⟨c, c, fence, s.get (Reg.OBJ_CMD_ARG_ARG 1) % 2 ^ 62, v, false⟩).result rDone i

/-- WAIT_POKE (R180): one read of the fence, at which every waiter that names it is evaluated. -/
def execWaitPoke (cid : BitVec 16) (s : State) : Out := objCommand s fun s =>
  let c := cid.toNat % 1024
  let fence := s.get (Reg.OBJ_CMD_ARG_ARG 0)
  if fence % 16 ≠ 0 then s.result rBadAddr 0
  else
    let l := s.waitersWhere fun w => w.cid == c && w.fence == fence && !w.barrier
    if l.isEmpty then s.result rDone 0
    else match s.reach c fence .read with
      | .ok pa => (s.evalFence c fence (s.physLe pa 8)).result rDone 0
      | .err e =>
        if e.code = 4 ∨ e.code = 6 ∨ e.code = 9 then (s.loseX uDSP dspStop c none e).result rDone 0
        else
          let id := s.recId
          (l.foldl (fun s i => s.breakWaiter i e.code (some id) 0)
            (s.recordX uDSP dspStop c none e)).result rDone 0

/-- WAIT_CANCEL (R180). -/
def execWaitCancel (index : BitVec 16) (s : State) : Out := objCommand s fun s =>
  let i := index.toNat
  if i < 32768 then s.result rBadState 0 else (s.setWaiter i none).result rDone 0

/-- OBJ_DRAIN_LIMIT has passed since the drain took effect (R184 step 5, R192): the tasks still running are aborted and
their fences cancelled. -/
def execDrainLimitExpire (cid : BitVec 16) (s : State) : Out := whenLive 3 s fun s =>
  let c := cid.toNat % 1024
  .next <|
    if ((s.ctx c).st = .drainClose ∨ (s.ctx c).st = .drainReset) ∧
        (s.ctx c).drainAt + atLeast1 (s.get Reg.OBJ_DRAIN_LIMIT_TICKS) ≤ s.time copyDsp then s.abortCtx c .cancelled else s

/-- Every TLB and walk-cache entry of a CID is dropped (R425 step 1, R184 step 7). -/
def State.invalCid (s : State) (cid : Nat) : State :=
  { s with xlt := { s.xlt with
      tlb1 := s.xlt.tlb1.map fun e => (e.1, e.2.filter (·.cid != cid)),
      tlb2 := s.xlt.tlb2.filter (·.cid != cid),
      cache := s.xlt.cache.filter (·.cid != cid) } }

/-- The MON counters of a context at zero (R184 step 8, R686). -/
def State.zeroCtxMon (s : State) (cid : Nat) : State :=
  (List.range 4).foldl (fun s j =>
    (s.put (Reg.MON_CTX_EVENTS cid j) 0).put (Reg.MON_CTX_TOTAL cid j) 0) s

/-- Nothing of the context is left to drain (R184 steps 4 to 6). -/
def State.drained (s : State) (cid : Nat) : Bool :=
  (s.heldQueuesOf cid).all (fun q => (s.queue q).pkts.all (·.cid != cid)) &&
    (s.queuesOf cid).all (fun q => (s.queue q).head == (s.queue q).tail)

/-- The drain ends (R184 steps 7 and 8): a close leaves every queue DISABLED and the context CLOSED, a reset
leaves HALTED and WAITING queues ACTIVE, the context OPEN and its MON counters zero; CLOSE_VEC is
written. -/
def execDrainEnd (cid : BitVec 16) (s : State) : Out := whenLive 3 s fun s =>
  let c := cid.toNat % 1024
  .next <|
    if !(s.drained c) then s
    else
      let s := s.settleLoss c
      match (s.ctx c).st with
      | .drainClose =>
        let s := (s.queuesOf c).foldl (fun s q => s.disableQueue q) (s.invalCid c)
        (s.setCtx c { s.ctx c with st := .closed }).event (s.ctx c).closeVec
      | .drainReset =>
        let s := (s.queuesOf c).foldl (fun s q => s.updQueue q fun x => { x with st := .active }) (s.invalCid c)
        ((s.setCtx c { s.ctx c with st := .opened }).zeroCtxMon c).event (s.ctx c).closeVec
      | .free => s
      | .opened => s
      | .lost => s
      | .closed => s

end Sys2Proof.Machine
end

