-- ==== Sys2Proof/Machine/Suspend.lean ====
section
/-! DEFINITION. Suspensions and the driver fault queue (R429, R430), and reads and writes of ranges of
virtual memory, which the movers, the DMA engines and the dispatcher share. -/

namespace Sys2Proof.Machine

/-- Codes whose outcome for a mover or DMA engine is a suspension (R427). -/
def suspends (code : Nat) : Bool := code == 1 || code == 2 || code == 3 || code == 5 || code == 8

/-- Codes of the mesh (R493): an initiator that meets one fails without loss of its context (R490). -/
def meshCode (code : Nat) : Bool := decide (0x30 ≤ code) && decide (code ≤ 0x3F)

/-! ## Ranges of virtual memory -/

/-- The bytes of a range that requester `who` reads, or the failure of the first byte that fails. -/
def State.readVaBy (s : State) (who cid va : Nat) : Nat → Xres (List Byte)
  | 0 => .ok []
  | n + 1 =>
    match s.reachBy who cid va .read with
    | .err e => .err e
    | .ok pa =>
      match State.readVaBy s who cid (va + 1) n with
      | .err e => .err e
      | .ok bs => .ok (s.physByte pa :: bs)

/-- The state with bytes written over a range by requester `who`; the failure of the first byte that fails,
in which case nothing is written. -/
def State.writeVaBy (s : State) (who cid va : Nat) : List Byte → Xres State
  | [] => .ok s
  | b :: bs =>
    match s.reachBy who cid va .write with
    | .err e => .err e
    | .ok pa =>
      match State.writeVaBy s who cid (va + 1) bs with
      | .err e => .err e
      | .ok s' => .ok (s'.physPut pa b)

/-- The same for requesters without a first-level TLB. -/
def State.readVa (s : State) (cid va n : Nat) : Xres (List Byte) := s.readVaBy 255 cid va n
def State.writeVa (s : State) (cid va : Nat) (bs : List Byte) : Xres State := s.writeVaBy 255 cid va bs

/-! ## The driver fault queue (R429, R430) -/

/-- Entries that the queue holds, 0 for none (R454). -/
def State.fqSize (s : State) : Nat :=
  let z := s.get Reg.XLT_FQ_BASE_SIZE_LOG2
  if z = 0 then 0 else 2 ^ (max 6 (min 12 z))

/-- The 64 bytes of a fault-queue entry (R430). -/
def Susp.bytes (x : Susp) (seq : Nat) : List Byte :=
  leBytes 8 x.va ++ leBytes 8 x.stamp ++ leBytes 2 x.cid ++ leBytes 2 x.qid ++ leBytes 4 x.index ++
    leBytes 1 x.code ++ leBytes 1 x.access ++ leBytes 1 x.unit ++ leBytes 1 x.level ++
    leBytes 2 x.token ++ leBytes 2 seq ++ leBytes 8 x.entry ++ leBytes 24 0

/-- One fault-queue entry is written, or its write fails and delivery stops (R429). -/
def State.fqWrite (s : State) (x : Susp) (seq : Nat) : State :=
  let tail := s.get Reg.XLT_FQ_TAIL_INDEX
  let a := s.get Reg.XLT_FQ_BASE_BASE * 2 ^ 12 + tail % s.fqSize * 64
  match s.ownWrite s.driverCid a (x.bytes seq) with
  | none =>
    let s := (s.refusedRec s.driverCid none a).put Reg.XLT_STATUS_FQ_BROKEN 1
    { s with xlt := { s.xlt with failed := some x.token } }
  | some s =>
    let s := s.wrap Reg.XLT_FQ_TAIL_INDEX 1
    let s := { s with xlt := { s.xlt with
      susp := s.xlt.susp.map fun (y : Susp) => if y.token = x.token then { y with written := true } else y } }
    s.eventIf Reg.XLT_FQ_VEC_EN Reg.XLT_FQ_VEC_VEC

/-- The entries due are written in the order in which their suspensions arose, while the queue has room,
is not broken and the fault record's SEQ is known (R429). -/
def State.fqPump (s : State) : List Susp → State
  | [] => s
  | x :: r =>
    if x.written then State.fqPump s r
    else if s.on Reg.XLT_STATUS_FQ_BROKEN ∨ s.fqSize = 0 ∨
        (s.get Reg.XLT_FQ_TAIL_INDEX + 2 ^ 32 - s.get Reg.XLT_FQ_HEAD_INDEX) % 2 ^ 32 ≥ s.fqSize then s
    else match Tab.get none s.conc.seqOf x.fault with
      | none => s
      | some q => State.fqPump (s.fqWrite x q) r

/-- Every fault-queue entry that can be written is written (R429). -/
def State.fqServe (s : State) : State := s.fqPump s.xlt.susp

/-- The lowest free token from the next one on (R429). -/
def State.freeToken (s : State) : Nat :=
  ((List.range 65536).map fun k => (s.xlt.nextToken + k) % 65536).find?
    (fun t => s.xlt.susp.all (·.token != t)) |>.getD 0

/-- A suspension is created for a fault (R429): the record of the fault, a token and its fault-queue
entry, written once the record has its SEQ. -/
def State.suspend (s : State) (unit src cid qid index inst va : Nat) (acc : Access) (fqUnit : Nat)
    (e : XErr) : State × Nat :=
  let id := s.recId
  let tok := s.freeToken
  let s := s.recordX unit src cid (some qid) e
  let x : Susp := { token := tok, cid := cid, qid := qid, index := index, inst := inst, va := va % 2 ^ 64, stamp := s.time (stampCopy unit src), code := e.code, access := accCode acc, unit := fqUnit, level := e.level, entry := e.entry, fault := id, written := false }
  ({ s with xlt := { s.xlt with susp := s.xlt.susp ++ [x], nextToken := (tok + 1) % 65536 } }.fqServe, tok)

end Sys2Proof.Machine
end

