-- ==== Sys2Proof/Machine/Submission.lean ====
section
/-! DEFINITION. Chapter 05: doorbells, staging, fetching and validating packets, the packets' starts,
cancelling and retirement. -/

namespace Sys2Proof.Machine

/-! ## Packets (R216-R219) -/

def opOf (raw : Nat) : Nat := pfld raw 0 1
def flagsOf (raw : Nat) : Nat := pfld raw 1 1
def hasFence (raw : Nat) : Bool := bitAt (flagsOf raw) 0
def hasEvent (raw : Nat) : Bool := bitAt (flagsOf raw) 1
def hasRecord (raw : Nat) : Bool := bitAt (flagsOf raw) 2
def isSerial (raw : Nat) : Bool := bitAt (flagsOf raw) 3
def noDeadline (raw : Nat) : Bool := bitAt (flagsOf raw) 4

/-- TASK or TASK_GROUP. -/
def isTask (raw : Nat) : Bool := opOf raw == 0x10 || opOf raw == 0x11

/-- STATE_SAVE or STATE_LOAD. -/
def isStateOp (raw : Nat) : Bool := opOf raw == 0x40 || opOf raw == 0x41

/-- COPY, FILL, PREFETCH, ADVISE or MIGRATE. -/
def isDma (raw : Nat) : Bool := decide (0x30 ≤ opOf raw) && decide (opOf raw ≤ 0x34)

/-- Number of bits set below `n`. -/
def popcount (v : Nat) : Nat → Nat
  | 0 => 0
  | n + 1 => b2n (bitAt v n) + popcount v n

/-- The checks of R219 that need no object, each with the byte offset of its field, in ascending offset
(R230): the first that holds makes the packet invalid. -/
def packetChecks (raw : Nat) (q : Queue) (clusters : Nat) : List (Nat × Bool) :=
  let op := opOf raw
  let rsv := fun (o n : Nat) => (o, pfld raw o n != 0)
  let need := fun (o : Nat) => (o, pfld raw o 4 == 0)
  let len := fun (o : Nat) => (o, decide (2 ^ 40 ≤ pfld raw o 8))
  let aff := (0x38, pfld raw 0x38 2 != 0 && (pfld raw 0x38 2 &&& clusters) == 0)
  let head := [
    (0, !([0x00, 0x10, 0x11, 0x20, 0x21, 0x22, 0x30, 0x31, 0x32, 0x33, 0x34, 0x40, 0x41, 0x50].contains op) ||
      (op == 0x34 && !q.priv)),
    (1, decide (32 ≤ flagsOf raw) || (hasRecord raw && q.recVa == 0) || (op == 0x20 && !(hasFence raw))),
    (2, decide (4096 ≤ pfld raw 2 2)),
    (8, (pfld raw 8 4 == 0) == hasFence raw),
    rsv 0x0C 4,
    (0x10, decide (2 ^ 62 ≤ pfld raw 0x10 8))]
  let body := match op with
    | 0x00 => [rsv 0x18 40]
    | 0x10 => [need 0x18, (0x1C, pfld raw 0x1C 4 % 4 != 0), (0x20, pfld raw 0x20 8 % 64 != 0),
        (0x2E, pfld raw 0x2E 2 == 0), aff, rsv 0x3A 2]
    | 0x11 => [need 0x18, (0x1C, pfld raw 0x1C 4 % 4 != 0), (0x20, pfld raw 0x20 8 % 64 != 0),
        (0x2E, pfld raw 0x2E 2 == 0), (0x34, pfld raw 0x34 2 == 0 || decide (4096 < pfld raw 0x34 2)),
        aff, rsv 0x3A 6]
    | 0x20 => [(0x18, decide (1 < pfld raw 0x18 1)), rsv 0x19 39]
    | 0x21 => [need 0x18, rsv 0x1C 4, (0x20, decide (2 ^ 62 ≤ pfld raw 0x20 8)), rsv 0x28 24]
    | 0x22 => [rsv 0x18 40]
    | 0x30 => [len 0x28, (0x38, decide (2 < pfld raw 0x38 1)), rsv 0x39 7]
    | 0x31 => [len 0x20, rsv 0x34 4, (0x38, decide (2 < pfld raw 0x38 1)), rsv 0x39 7]
    | 0x32 => [len 0x20, rsv 0x29 3, rsv 0x30 16]
    | 0x33 => [len 0x20, rsv 0x29 3, rsv 0x30 16]
    | 0x34 => [(0x18, pfld raw 0x18 8 % 2 ^ 21 != 0), (0x20, pfld raw 0x20 8 % 2 ^ 21 != 0),
        (0x28, pfld raw 0x28 8 % 2 ^ 21 != 0 || decide (2 ^ 40 ≤ pfld raw 0x28 8)), rsv 0x34 12]
    | 0x50 => [(0x18, pfld raw 0x18 8 % 8 != 0), rsv 0x20 32]
    | _ => [need 0x18, rsv 0x1C 4, (0x20, pfld raw 0x20 8 % 4096 != 0),
        (0x28, decide (64 ≤ pfld raw 0x28 1) || !(bitAt clusters (pfld raw 0x28 1 / 4))),
        (0x29, decide (1 < pfld raw 0x29 1) || (pfld raw 0x29 1 == 0 && pfld raw 0x2A 2 == 0)),
        rsv 0x2C 20]
  head ++ body

/-- The byte offset of the first failing field, if the packet is invalid (R219). -/
def packetBad (raw : Nat) (q : Queue) (clusters : Nat) : Option Nat :=
  ((packetChecks raw q clusters).find? (·.2)).map (·.1)

/-- The handles of a packet: byte offset, KIND required and index in the packet (R217, R218).  FENCE_H has
index 0, the body's handles follow in ascending offset (log entry 21). -/
def packetHandles (raw : Nat) : List (Nat × Nat × Nat) :=
  let body := match opOf raw with
    | 0x10 => [(0x18, kProgram, 1), (0x30, kMemory, 2), (0x34, kMemory, 3), (0x3C, kMemory, 4)]
    | 0x11 => [(0x18, kProgram, 1), (0x30, kMemory, 2)]
    | 0x21 => [(0x18, kFence, 1)]
    | 0x30 => [(0x30, kMemory, 1), (0x34, kMemory, 2)]
    | 0x31 => [(0x30, kMemory, 1)]
    | 0x32 => [(0x2C, kMemory, 1)]
    | 0x33 => [(0x2C, kMemory, 1)]
    | 0x34 => [(0x30, kMemory, 1)]
    | 0x40 => [(0x18, kMemory, 1)]
    | 0x41 => [(0x18, kMemory, 1)]
    | _ => []
  ((if hasFence raw then [(8, kFence, 0)] else []) ++ body).filter fun h => pfld raw h.1 4 != 0

/-- Size of a state image (R218). -/
def imageSize (raw : Nat) : Nat := pfld raw 0x29 1 * 0x30000 + popcount (pfld raw 0x2A 2) 16 * 0x10000

/-- The reference at byte offset `o`. -/
def refAt (rs : List Ref) (o : Nat) : Option Ref := rs.find? (·.off == o)

/-- The checks that need an object's SIZE, made after the references are taken (R219). -/
def sizeBad (raw : Nat) (rs : List Ref) : Option Nat :=
  if isTask raw then
    match refAt rs 0x18 with
    | some r => if r.size ≤ pfld raw 0x1C 4 then some 0x1C else none
    | none => none
  else if isStateOp raw then
    match refAt rs 0x18 with
    | some r =>
      if pfld raw 0x20 8 < r.addr ∨ r.addr + r.size < pfld raw 0x20 8 + imageSize raw then some 0x20 else none
    | none => none
  else none

/-- References taken in order (R171): all of them, or the failing handle with its code and index, in which
case those already taken are released.  `bad`: index of the handle whose access returns uncorrectable data. -/
def State.takeRefs (s : State) (cid raw : Nat) (bad : Option Nat) :
    List (Nat × Nat × Nat) → List Ref → State × Except (Nat × Nat × Nat) (List Ref)
  | [], got => (s, .ok got)
  | (o, k, i) :: hs, got =>
    match s.takeRef cid k o (pfld raw o 4) (bad == some i) with
    | (s, .ok r) => State.takeRefs s cid raw bad hs (got ++ [r])
    | (s, .error c) => (s.release got, .error (c, pfld raw o 4, i))

/-- The fence's reference alone, taken without a record of failure (R220). -/
def State.takeFence (s : State) (cid raw : Nat) (bad : Option Nat) : State × Option Ref :=
  if hasFence raw ∧ pfld raw 8 4 ≠ 0 then
    match s.takeRef cid kFence 8 (pfld raw 8 4) (bad == some 0) with
    | (s, .ok r) => (s, some r)
    | (s, .error _) => (s, none)
  else (s, none)

/-- The fence of a lost context's packet, found without taking a reference (R183 step 5). -/
def State.peekFence (s : State) (cid raw : Nat) : Option Ref :=
  if hasFence raw ∧ pfld raw 8 4 ≠ 0 then
    match s.lookRef cid kFence 8 (pfld raw 8 4) with
    | .ok r => some r
    | .error _ => none
  else none

/-- A packet just fetched under a context. -/
def Pkt.fresh (cid index raw : Nat) : Pkt :=
  { cid := cid, index := index, raw := raw, refs := [], fenceVa := none, fenceCid := 0, st := .fetched, entry := 0, nextInst := 0, runs := [], noMore := false, firstEnd := none, ended := none, startMissed := [], startMiss := false, finishMiss := false, startT := 0, endT := 0, tile := 0xFF, runT := 0, converted := 0, clipped := 0, flushed := 0, nan := 0, unwritten := 0, dma := none, done := 0, token := none }

/-- The packet signals the fence of a reference, in the context that owns it (R176). -/
def Pkt.withFence (p : Pkt) : Option Ref → Pkt
  | none => p
  | some r => { p with fenceVa := some r.addr, fenceCid := r.owner }

def Pkt.withRefs (p : Pkt) (rs : List Ref) : Pkt := { p.withFence (refAt rs 8) with refs := rs }

/-- What is done with a fetched packet (R214, R166). -/
inductive FetchMode where
  | normal | cancel | lost
  deriving DecidableEq, Repr

/-- The packet that the queue holds after validation and references (R156, R171, R219, R220): fetched, or
decided already. -/
def State.admitEntry (s : State) (q cid index raw : Nat) (bad : Option Nat) : State × Pkt :=
  let p := Pkt.fresh cid index raw
  let x := s.queue q
  let clusters := s.partClusters (s.ctx cid).pid
  let detail := fun (off : Nat) => opOf raw + off * 2 ^ 8 + index % 2 ^ 32 * 2 ^ 16
  match packetBad raw x clusters with
  | some off =>
    let id := s.recId
    let s := s.faultC 0x0B uDSP dspStop (detail off) (some cid) (some q) none
    match s.takeFence cid raw bad with
    | (s, some r) => (s, Pkt.finish (.error 0x0B uDSP (some id)) (p.withRefs [r]))
    | (s, none) =>
      if hasFence raw ∧ pfld raw 8 4 ≠ 0 then
        let id := s.recId
        (s.faultC 0x0C uDSP dspStop (pfld raw 8 4) (some cid) (some q) none,
          Pkt.finish (.error 0x0C uDSP (some id)) p)
      else (s, Pkt.finish (.error 0x0B uDSP (some id)) p)
  | none =>
    match s.takeRefs cid raw bad (packetHandles raw) [] with
    | (s, .error (c, h, i)) =>
      let id := s.recId
      let s := s.faultC c uDSP dspStop (h + i * 2 ^ 32) (some cid) (some q) none
      let (s, f) := if i = 0 then (s, none) else s.takeFence cid raw none
      (s, Pkt.finish (.error c uDSP (some id)) (p.withRefs f.toList))
    | (s, .ok rs) =>
      match sizeBad raw rs with
      | some off =>
        let id := s.recId
        let s := s.faultC 0x0B uDSP dspStop (detail off) (some cid) (some q) none
        (s.release (rs.filter (·.off != 8)),
          Pkt.finish (.error 0x0B uDSP (some id)) (p.withRefs (rs.filter (·.off == 8))))
      | none =>
        if hasEvent raw ∧ !((s.ctx cid).hasVec (pfld raw 2 2)) then
          let id := s.recId
          let s := s.faultC 0x0C uDSP dspStop (pfld raw 2 2) (some cid) (some q) none
          (s.release (rs.filter (·.off != 8)),
            Pkt.finish (.error 0x0C uDSP (some id)) (p.withRefs (rs.filter (·.off == 8))))
        else (s, p.withRefs rs)

/-- A packet that is cancelled at fetch: it takes its references and retires cancelled (R227, R184). -/
def State.admitCancelled (s : State) (cid index raw : Nat) (bad : Option Nat) : State × Pkt :=
  let p := Pkt.finish .cancelled (Pkt.fresh cid index raw)
  match s.takeRefs cid raw bad (packetHandles raw) [] with
  | (s, .ok rs) => (s, p.withRefs rs)
  | (s, .error _) =>
    let (s, f) := s.takeFence cid raw bad
    (s, p.withRefs f.toList)

/-! ## Doorbells and staging (R205-R210) -/

/-- What the engine does with doorbells of queue `q` (R166): its context when the write counts. -/
def State.doorbellCid (s : State) (q : Nat) : Option Nat :=
  match s.queueCid q with
  | none => none
  | some c =>
    if (s.queue q).st = .disabled then none
    else match (s.ctx c).st with
      | .opened => some c
      | .lost => some c
      | .drainReset => some c
      | .free => none
      | .drainClose => none
      | .closed => none

/-- A stage doorbell (R208). -/
def State.stage (s : State) (q cid : Nat) : State :=
  let x := s.queue q
  if x.stageSlot ∧ (x.st = .active ∨ x.st = .waiting) ∧ (s.ctx cid).st = .opened then
    let (s, rs) := s.dropStaged [q]
    ((s.release rs).updQueue q fun x => { x with staging := some x.tail }).useFor .stageRead q
  else s

/-- The queue engine takes a doorbell write (R205). -/
def State.takeDoorbell (s : State) (q value : Nat) : State :=
  let seq := value / 2 ^ 32
  let tail := value % 2 ^ 32
  match s.doorbellCid q with
  | none => s.sat Reg.OBJ_COUNTS_STRAY_DB 1
  | some cid =>
    let x := s.queue q
    if !(newer seq x.seq 32) then s.updQueue q fun x => { x with dups := min 0xFFFF (x.dups + 1) }
    else
      let s := s.updQueue q fun x => { x with seq := seq }
      let adv := (tail + 2 ^ 32 - x.tail) % 2 ^ 32
      if adv ≥ 2 ^ 31 ∨ (tail + 2 ^ 32 - x.head) % 2 ^ 32 > 2 ^ x.ringLog2 then
        (s.updQueue q fun x => { x with tailErrs := min 0xFF (x.tailErrs + 1) }).faultC 0x0A uDSP dspStop
          (tail + seq * 2 ^ 32) (some cid) (some q) none
      else if adv = 0 then s.stage q cid
      else s.updQueue q fun x => { x with tail := tail }

/-- Ring slot of an entry (R205). -/
def Queue.slotVa (x : Queue) (i : Nat) : Nat := x.ringVa + i % 2 ^ x.ringLog2 * 64

/-- A ring read of queue `q` fails (R215, R427): the record, and the queue halts with HEAD unchanged, or the context is
lost; in the sweep of a LOST or DRAINING context the sweep of that queue ends (log entry 22). -/
def State.ringFailed (s : State) (q cid : Nat) (e : XErr) : State :=
  if suspends e.code ∨ meshCode e.code then
    (s.recordX uDSP dspStop cid (some q) e).updQueue q fun x =>
      if (s.ctx cid).st = .opened then { x with st := .halted } else { x with tail := x.head }
  else (s.loseX uDSP dspStop cid (some q) e).updQueue q fun x => { x with tail := x.head }

/-- The stage read returns (R208): the copy's references are taken, or the copy is discarded silently.  A read that fails
is a ring read's failure (R215).  `bad`: index of the handle whose access returns uncorrectable data. -/
def execStageReadComplete (qid : BitVec 16) (bad : Option (BitVec 3)) (s : State) : Out := whenLive 3 s fun s =>
  let q := qid.toNat % 32768
  let x := s.queue q
  .next <| match x.staging, s.queueCid q with
    | some i, some cid =>
      let s := s.updQueue q fun x => { x with staging := none }
      let miss := fun (s : State) => s.sat Reg.DSP_SUBMIT_COUNTS_STAGE_MISS 1
      match s.readVa cid (x.slotVa i) 64 with
      | .err e => s.ringFailed q cid e
      | .ok bs =>
        let raw := leNat bs
        if (packetBad raw x (s.partClusters (s.ctx cid).pid)).isSome then miss s
        else match s.takeRefs cid raw (bad.map (·.toNat)) (packetHandles raw) [] with
          | (s, .error _) => miss s
          | (s, .ok rs) =>
            if (sizeBad raw rs).isSome ∨ (hasEvent raw ∧ !((s.ctx cid).hasVec (pfld raw 2 2))) then
              miss (s.release rs)
            else s.updQueue q fun x => { x with staged := some ⟨i, raw, rs⟩ }
    | _, _ => s

/-! ## Fetching (R214, R215) -/

/-- Fetched and not yet started: counts against PREFETCH (R214). -/
def Pkt.unstarted (p : Pkt) : Bool :=
  p.ended.isNone && (match p.st with
    | .fetched => true
    | .offered => true
    | .pooled => p.runs.isEmpty
    | .atHead => true
    | .started => false)

/-- Fetched packets not yet started, across all queues (R214). -/
def State.unstarted (s : State) : Nat :=
  s.queues.foldl (fun n e => n + (e.2.pkts.filter Pkt.unstarted).length) 0

/-- How the next entry of a queue is taken (R166, R183, R184, R227): by the context's state, the cancel
list and the cancel horizon. -/
def State.fetchMode (s : State) (q cid : Nat) : FetchMode :=
  let x := s.queue q
  match (s.ctx cid).st with
  | .lost => .lost
  | .opened =>
    if s.disp.cancels.contains (q, x.head) then .cancel
    else match x.horizon with
      | none => .normal
      | some h => if newer x.head h 32 then .normal else .cancel
  | .free => .cancel
  | .drainClose => .cancel
  | .drainReset => .cancel
  | .closed => .cancel

/-- May the queue engine fetch from the queue now (R163, R214, R221, R660)?  The queues of a LOST or
DRAINING context are swept whatever their state.  A packet of the same index that ran on over a disabling retires first
(log entry 102). -/
def State.mayFetch (s : State) (q cid : Nat) : Bool :=
  let x := s.queue q
  x.head != x.tail && x.st != .disabled && x.staging != some x.head && x.pkts.all (·.index != x.head) &&
    ((s.ctx cid).st != .opened ||
      (x.st == .active && !(s.quarantined (s.ctx cid).pid) &&
        decide ((x.pkts.filter Pkt.unstarted).length < x.prefetch) && decide (s.unstarted < 16384) &&
        x.pkts.all fun p => p.ended.isSome || p.st == .started || (opOf p.raw != 0x21 && opOf p.raw != 0x22)))

/-- The next ring entry: the staged copy, or one ring read (R209, R214). -/
def State.nextEntry (s : State) (q cid : Nat) : Xres (Nat × List Ref × Bool) :=
  let x := s.queue q
  match x.staged with
  | some g =>
    if g.index = x.head then .ok (g.raw, g.refs, true)
    else match s.readVa cid (x.slotVa x.head) 64 with
      | .ok bs => .ok (leNat bs, [], false)
      | .err e => .err e
  | none =>
    match s.readVa cid (x.slotVa x.head) 64 with
    | .ok bs => .ok (leNat bs, [], false)
    | .err e => .err e

/-- The queue engine takes the next entry of a queue with room (R214): it is validated and its references
are taken, or it retires with its error, cancelled, or with 0x0E.  A failed ring read halts the queue
with HEAD unchanged (R215).  `bad`: index of the handle whose access returns uncorrectable data (R759). -/
def execPacketFetch (qid : BitVec 16) (bad : Option (BitVec 3)) (s : State) : Out := whenLive 3 s fun s =>
  let q := qid.toNat % 32768
  .next <| match s.queueCid q with
    | none => s
    | some cid =>
      if !(s.mayFetch q cid) then s
      else
        let x := s.queue q
        match s.nextEntry q cid with
        | .err e => (s.useFor .ringRead q).ringFailed q cid e
        | .ok (raw, refs, staged) =>
          let s := if staged then s else s.useFor .ringRead q
          let bad := bad.map (·.toNat)
          let mode := s.fetchMode q cid
          let i := x.head
          let s := { s with disp := { s.disp with cancels := s.disp.cancels.filter (· != (q, i)) } }
          let s := s.updQueue q fun x =>
            { x with head := (i + 1) % 2 ^ 32, staged := if staged then none else x.staged,
                     horizon := if x.horizon = some i then none else x.horizon }
          let (s, p) :=
            match mode with
            | .normal => if staged then (s, (Pkt.fresh cid i raw).withRefs refs) else s.admitEntry q cid i raw bad
            | .cancel =>
              if staged then (s, Pkt.finish .cancelled ((Pkt.fresh cid i raw).withRefs refs))
              else s.admitCancelled cid i raw bad
            | .lost =>
              (s.release refs, Pkt.finish (.error 0x0E uDSP (s.ctx cid).lossRec)
                ((Pkt.fresh cid i raw).withFence (s.peekFence cid raw)))
          s.updQueue q fun x => { x with pkts := x.pkts ++ [p] }

/-! ## Starts (R221, R222) -/

/-- Every earlier packet of the queue has retired: the packet is the oldest held. -/
def Queue.oldest (x : Queue) (i : Nat) : Bool :=
  match x.pkts with
  | [] => false
  | p :: _ => p.index == i

/-- The packet `i` of queue `q`, when it has the opcode and may start now (R221): fetched, undecided, and,
with SERIAL, every earlier packet retired. -/
def State.startable (s : State) (q i : Nat) (op : Nat → Bool) : Option (Nat × Pkt) :=
  match s.heldPkt q i with
  | some (cid, p) =>
    if p.st = .fetched ∧ p.ended.isNone ∧ op (opOf p.raw) ∧ (isSerial p.raw → (s.queue q).oldest i) then
      some (cid, p)
    else none
  | none => none

/-- The dispatcher's GTC copy. -/
def State.dspTime (s : State) : Nat := s.time copyDsp

/-- The packet starts now (R226 START). -/
def State.started (s : State) (q i : Nat) (f : Pkt → Pkt) : State :=
  s.updPkt q i fun p => f { p with st := .started, startT := s.dspTime }

/-- A NOP starts at fetch and retires at once (R221). -/
def execNop (qid : BitVec 16) (index : BitVec 32) (s : State) : Out := whenLive 3 s fun s =>
  let q := qid.toNat % 32768
  .next <| match s.startable q index.toNat (· == 0x00) with
    | none => s
    | some _ => s.started q index.toNat (Pkt.finish .ok)

/-- A TASK is offered to the scheduler (R238). -/
def execTask (qid : BitVec 16) (index : BitVec 32) (s : State) : Out := whenLive 3 s fun s =>
  let q := qid.toNat % 32768
  .next <| match s.startable q index.toNat (· == 0x10) with
    | none => s
    | some _ => s.updPkt q index.toNat fun p => { p with st := .offered }

/-- A TASK_GROUP is offered to the scheduler; it holds one place in the pool (R223, R238). -/
def execTaskGroup (qid : BitVec 16) (index : BitVec 32) (s : State) : Out := whenLive 3 s fun s =>
  let q := qid.toNat % 32768
  .next <| match s.startable q index.toNat (· == 0x11) with
    | none => s
    | some _ => s.updPkt q index.toNat fun p => { p with st := .offered }

/-- A FENCE_SIGNAL starts after every earlier packet of the queue has retired (R221); its fence is written
at retirement, by its MODE (R218). -/
def execFenceSignal (qid : BitVec 16) (index : BitVec 32) (s : State) : Out := whenLive 3 s fun s =>
  let q := qid.toNat % 32768
  .next <| match s.startable q index.toNat (· == 0x20) with
    | none => s
    | some _ => if (s.queue q).oldest index.toNat then s.started q index.toNat (Pkt.finish .ok) else s

/-- A FENCE_WAIT at the head holds the queue's waiter, which is entered before the fence is read (R180,
R221), under the CID whose fence it is.  Fetched before its queue was disabled or halted, it leaves that state (log entry
102). -/
def execFenceWait (qid : BitVec 16) (index : BitVec 32) (s : State) : Out := whenLive 3 s fun s =>
  let q := qid.toNat % 32768
  .next <| match s.startable q index.toNat (· == 0x21) with
    | none => s
    | some (cid, p) =>
      match refAt p.refs 0x18 with
      | none => s
      | some r =>
        let s := s.updPkt q index.toNat fun p => { p with st := .atHead, startT := s.dspTime }
        (s.updQueue q fun x => { x with st := qWaits x.st }).enterWaiter q
          ⟨cid, r.owner, r.addr, pfld p.raw 0x20 8 % 2 ^ 62, 0, false⟩

/-- A BARRIER at the head: the queue is WAITING until every earlier packet has retired (R221). -/
def execBarrier (qid : BitVec 16) (index : BitVec 32) (s : State) : Out := whenLive 3 s fun s =>
  let q := qid.toNat % 32768
  .next <| match s.startable q index.toNat (· == 0x22) with
    | none => s
    | some (cid, _) =>
      if (s.queue q).oldest index.toNat then s.started q index.toNat (Pkt.finish .ok)
      else
        let s := s.updPkt q index.toNat fun p => { p with st := .atHead, startT := s.dspTime }
        (s.updQueue q fun x => { x with st := qWaits x.st }).setWaiter q (some ⟨cid, cid, 0, 0, 0, true⟩)

/-- The undecided packets that DMA engine `n` holds, in the order in which it received them. -/
def State.dmaQueue (s : State) (n : Nat) : List (Nat × Nat) :=
  (Tab.get [] s.disp.dma n).filter fun e => match (s.queue e.1).pkt e.2 with
    | some p => p.ended.isNone && p.dma == some n
    | none => false

def State.setDma (s : State) (n : Nat) (l : List (Nat × Nat)) : State :=
  { s with disp := { s.disp with dma := s.disp.dma.set n l } }

/-- The DMA engine of a packet: the one named, or the less loaded one (R221). -/
def State.dmaFor (s : State) (raw : Nat) : Nat :=
  let named := if opOf raw = 0x30 ∨ opOf raw = 0x31 then pfld raw 0x38 1 else 0
  if named = 1 then 0 else if named = 2 then 1
  else if (s.dmaQueue 0).length ≤ (s.dmaQueue 1).length then 0 else 1

/-- Packets of DMA engine `n` that run: started and not suspended. -/
def State.dmaRunning (s : State) (n : Nat) : List (Nat × Nat) :=
  (s.dmaQueue n).filter fun e => match (s.queue e.1).pkt e.2 with
    | some p => p.st == .started && p.token.isNone
    | none => false

/-- A DMA engine that holds 64 suspended packets stalls (R428). -/
def State.dmaStalled (s : State) (n : Nat) : Bool := decide (64 ≤ (s.xlt.susp.filter fun x => x.unit == 0x40 + n).length)

/-- A DMA engine with no packet running starts the next it received (R221, R428, log entry 105). -/
def State.dmaStart (s : State) (n : Nat) : State :=
  if s.dmaStalled n ∨ !(s.dmaRunning n).isEmpty then s
  else match (s.dmaQueue n).find? fun e => ((s.queue e.1).pkt e.2).any (·.st != .started) with
    | none => s
    | some (q, i) => s.started q i id

/-- A packet goes to a DMA engine, which starts its packets in the order it receives them (R221). -/
def State.toDma (s : State) (q i raw : Nat) : State :=
  let n := s.dmaFor raw
  ((s.updPkt q i fun p => { p with st := .offered, dma := some n }).setDma n (s.dmaQueue n ++ [(q, i)])).dmaStart n

/-- A COPY or FILL of LENGTH 0 retires at once and succeeds (R222). -/
def execCopy (qid : BitVec 16) (index : BitVec 32) (s : State) : Out := whenLive 3 s fun s =>
  let q := qid.toNat % 32768
  .next <| match s.startable q index.toNat (· == 0x30) with
    | none => s
    | some (_, p) =>
      if pfld p.raw 0x28 8 = 0 then s.started q index.toNat (Pkt.finish .ok) else s.toDma q index.toNat p.raw

/-- FILL (R218, R222). -/
def execFill (qid : BitVec 16) (index : BitVec 32) (s : State) : Out := whenLive 3 s fun s =>
  let q := qid.toNat % 32768
  .next <| match s.startable q index.toNat (· == 0x31) with
    | none => s
    | some (_, p) =>
      if pfld p.raw 0x20 8 = 0 then s.started q index.toNat (Pkt.finish .ok) else s.toDma q index.toNat p.raw

/-- PREFETCH goes to the less loaded DMA engine (R221, R444). -/
def execPrefetch (qid : BitVec 16) (index : BitVec 32) (s : State) : Out := whenLive 3 s fun s =>
  let q := qid.toNat % 32768
  .next <| match s.startable q index.toNat (· == 0x32) with
    | none => s
    | some (_, p) => s.toDma q index.toNat p.raw

/-- ADVISE goes to the less loaded DMA engine (R221, R444). -/
def execAdvise (qid : BitVec 16) (index : BitVec 32) (s : State) : Out := whenLive 3 s fun s =>
  let q := qid.toNat % 32768
  .next <| match s.startable q index.toNat (· == 0x33) with
    | none => s
    | some (_, p) => s.toDma q index.toNat p.raw

/-- MIGRATE goes to the less loaded DMA engine (R221, R445). -/
def execMigrate (qid : BitVec 16) (index : BitVec 32) (s : State) : Out := whenLive 3 s fun s =>
  let q := qid.toNat % 32768
  .next <| match s.startable q index.toNat (· == 0x34) with
    | none => s
    | some (_, p) => s.toDma q index.toNat p.raw

/-- TIMESTAMP writes the dispatcher's GTC copy to DST and retires (R222).  A write that fails translation
ends the packet with that code; a refused one loses the context (R427, log entry 23). -/
def execTimestamp (qid : BitVec 16) (index : BitVec 32) (s : State) : Out := whenLive 3 s fun s =>
  let q := qid.toNat % 32768
  let i := index.toNat
  .next <| match s.startable q i (· == 0x50) with
    | none => s
    | some (cid, p) =>
      match s.writeVa cid (pfld p.raw 0x18 8) (leBytes 8 s.dspTime) with
      | .ok s => s.started q i (Pkt.finish .ok)
      | .err e =>
        let id := s.recId
        if suspends e.code then
          (s.recordX uDSP dspStop cid (some q) e).started q i (Pkt.finish (.error e.code uDSP (some id)))
        else (s.started q i (Pkt.finish (.error e.code uDSP (some id)))).loseX uDSP dspStop cid (some q) e

/-! ## The DMA engines (R221, R222, R427, R428, R444, R445) -/

/-- Does a COPY run from the high end down, so that it writes as if the whole source had been read first
(R222)? -/
def copyDown (src dst len : Nat) : Bool := decide (src < dst) && decide (dst < src + len)

/-- One block of at most 512 bytes of a COPY, FILL or MIGRATE on engine `en` after `done` bytes; its length, or its
failure with the address and access. -/
def State.dmaBlock (s : State) (en cid raw done : Nat) : Except (XErr × Nat × Access) (State × Nat) :=
  let op := opOf raw
  let len := if op = 0x31 then pfld raw 0x20 8 else pfld raw 0x28 8
  let n := min 512 (len - done)
  let src := pfld raw 0x18 8
  let dst := pfld raw 0x20 8
  if op = 0x31 then
    let a := src + done
    let pat := pfld raw 0x28 8
    match s.writeVaBy (64 + en) cid a ((List.range n).map fun k => BitVec.ofNat 8 (pat / 256 ^ ((a + k) % 8))) with
    | .ok s => .ok (s, n)
    | .err e => .error (e, a, .write)
  else
    let o := if op = 0x30 ∧ copyDown src dst len then len - done - n else done
    match s.readVaBy (64 + en) cid (src + o) n with
    | .err e => .error (e, src + o, .read)
    | .ok bs =>
      if op = 0x34 then
        match s.paCheck cid (dst + o) (src + o) .write with
        | some e => .error (e, src + o, .write)
        | none => .ok ({ s with basin := { s.basin with
            lines := s.basin.lines.filter fun (l : Nat × Bool) => !(decide ((dst + o) / 64 ≤ l.1) && decide (l.1 ≤ (dst + o + n) / 64)) } }.physPutList
              (dst + o) bs, n)
      else
        match s.writeVaBy (64 + en) cid (dst + o) bs with
        | .ok s => .ok (s, n)
        | .err e => .error (e, dst + o, .write)

/-- At most `k` blocks of a running transfer (R221): the bytes moved so far, which count for the context (R686), and the
failure, if one ended it. -/
def State.dmaBlocks (s : State) (en cid raw done : Nat) : Nat → State × Nat × Option (XErr × Nat × Access)
  | 0 => (s, done, none)
  | k + 1 =>
    let len := if opOf raw = 0x31 then pfld raw 0x20 8 else pfld raw 0x28 8
    if len ≤ done then (s, done, none)
    else match s.dmaBlock en cid raw done with
      | .error e => (s, done, some e)
      | .ok (s', n) =>
        State.dmaBlocks (s'.countFor cid fun c => { c with bytes := c.bytes + n }) en cid raw (done + n) k

/-- The 2 MiB pages that a range meets. -/
def pagesOf (a len : Nat) : List Nat :=
  if len = 0 then [] else (List.range ((a + len - 1) / 2 ^ 21 - a / 2 ^ 21 + 1)).map fun k => a / 2 ^ 21 + k

/-- The 64-byte lines that a range meets. -/
def linesOf (a len : Nat) : List Nat :=
  if len = 0 then [] else (List.range ((a + len - 1) / 64 - a / 64 + 1)).map fun k => a / 64 + k

/-- PREFETCH and ADVISE take their hint (R444): pages or lines that fault are skipped and counted. -/
def State.takeHint (s : State) (en cid raw : Nat) : State :=
  let a := pfld raw 0x18 8
  let len := pfld raw 0x20 8
  let hint := pfld raw 0x28 1
  let skip := fun (s : State) => s.sat Reg.XLT_COUNTS_HINT_SKIPPED 1
  let tlb := fun (s : State) => (pagesOf a len).foldl (fun s p =>
    match s.freshXlat cid (p * 2 ^ 21) .read with
    | .ok x => s.fillTlb2 cid x
    | .err _ => skip s) s
  let lines := fun (s : State) (f : State → Nat → State) =>
    let bad := (pagesOf a len).filter fun p => match s.xlat (64 + en) cid (max a (p * 2 ^ 21)) .read with
      | .ok _ => false
      | .err _ => true
    let s := bad.foldl (fun s _ => skip s) s
    (linesOf a len).foldl (fun s l =>
      if bad.contains (l * 64 / 2 ^ 21) then s
      else match s.reachBy (64 + en) cid (l * 64) .read with
        | .ok pa => f s (pa / 64)
        | .err _ => skip s) s
  let bring := fun (s : State) (l : Nat) =>
    { s with basin := { s.basin with lines := (l, true) :: s.basin.lines.filter fun (y : Nat × Bool) => y.1 != l } }
  let drop := fun (s : State) (l : Nat) =>
    { s with basin := { s.basin with lines := s.basin.lines.filter fun (y : Nat × Bool) => y.1 != l } }
  let demote := fun (s : State) (l : Nat) =>
    { s with basin := { s.basin with
        lines := (s.basin.lines.filter fun (y : Nat × Bool) => y.1 != l) ++ s.basin.lines.filter fun (y : Nat × Bool) => y.1 == l } }
  if opOf raw = 0x32 then
    if hint = 0 then lines s bring
    else if hint = 1 then tlb s
    else if hint = 2 then lines (tlb s) bring
    else skip s
  else if hint = 0 then lines s drop
  else if hint = 1 then lines s demote
  else skip s

/-- The packet leaves its DMA engine's list, decided by `f`, and the engine starts its next. -/
def State.dmaLeave (s : State) (n q i : Nat) (f : Pkt → Pkt) : State :=
  ((s.updPkt q i f).setDma n ((s.dmaQueue n).filter (· != (q, i)))).dmaStart n

/-- A DMA engine runs its packet to its end, to a suspension, or to the loss of its context (R221, R427).  It stalls while it
holds 64 suspended packets (R428). -/
def State.dmaRun (s : State) (n : Nat) : State :=
  match (s.dmaRunning n).head? with
  | none => s
  | some (q, i) =>
    match s.heldPkt q i with
    | none => s
    | some (cid, p) =>
      if s.dmaStalled n then s
      else if opOf p.raw = 0x32 ∨ opOf p.raw = 0x33 then (s.takeHint n cid p.raw).dmaLeave n q i (Pkt.finish .ok)
      else
        match s.dmaBlocks n cid p.raw p.done (2 ^ 31) with
        | (s, d, none) => s.dmaLeave n q i fun p => Pkt.finish .ok { p with done := d }
        | (s, d, some (e, va, acc)) =>
          let s := s.updPkt q i fun p => { p with done := d }
          if suspends e.code then
            let (s, tok) := s.suspend (uDMA n) (dmaStop n) cid q i 0 va acc (0x40 + n) e
            (s.updPkt q i fun p => { p with token := some tok }).dmaStart n
          else
            let id := s.recId
            let s := s.dmaLeave n q i (Pkt.finish (.error e.code (uDMA n) (some id)))
            if meshCode e.code then s.recordX (uDMA n) (dmaStop n) cid (some q) e
            else s.loseX (uDMA n) (dmaStop n) cid (some q) e

/-- A DMA engine writes the last byte of its front packet or takes its hint, and the packet's outcome is
decided (R221). -/
def execDmaTransferComplete (engine : BitVec 1) (s : State) : Out := whenLive 4 s fun s => .next (s.dmaRun engine.toNat)

/-! ## Cancelling (R227, R228) -/

/-- A cancel reaches a held packet (R227).  `blocks`: 512-byte blocks that a running transfer still moves
before it stops.  A packet that waits for its DMA engine has not started. -/
def State.cancelPkt (s : State) (q blocks : Nat) (p : Pkt) : State × Bool :=
  let i := p.index
  if p.ended.isSome then (s, false)
  else if p.runs.isEmpty ∧ p.st = .atHead then
    (((s.setWaiter q none).updQueue q fun x => { x with st := qResumed x.st }).updPkt q i (Pkt.finish .cancelled), true)
  else if isTask p.raw ∨ p.waiting then
    if p.runs.isEmpty then (s.updPkt q i (Pkt.finish .cancelled), true)
    else (s.abortPkt q i .cancelled, true)
  else match p.dma with
    | some n =>
      if opOf p.raw = 0x32 ∨ opOf p.raw = 0x33 then (s, false)
      else
        let (s, d, _) := if p.token.isSome then (s, p.done, none) else s.dmaBlocks n p.cid p.raw p.done blocks
        ((s.dropSusp q i none).dmaLeave n q i fun p => Pkt.finish .cancelled { p with done := d, token := none }, true)
    | none => (s, false)

/-- The index lies in `[lo, last]` on the 32-bit circle. -/
def inSpan (lo last i : Nat) : Bool :=
  !(newer lo last 32) && decide ((i + 2 ^ 32 - lo) % 2 ^ 32 ≤ (last + 2 ^ 32 - lo) % 2 ^ 32)

/-- A pick awaiting SEND that holds the packet is withdrawn (R254, R255). -/
def State.withdraw (s : State) (q i : Nat) : State :=
  match s.disp.pick with
  | some k => if k.qid = q ∧ k.index = i then { s with disp := { s.disp with pick := none } } else s
  | none => s

/-- The queue engine takes a write to CANCEL (R227): it acts on held packets, on the staged copy, on a stage read under way
and on entries not yet fetched; with no effect anywhere it counts in CANCEL_MISS. -/
def State.takeCancel (s : State) (q value blocks : Nat) : State :=
  let index := value % 2 ^ 32
  let range := bitAt value 32
  let miss := fun (s : State) => s.sat Reg.DSP_SUBMIT_COUNTS_CANCEL_MISS 1
  let x := s.queue q
  if (s.queueCid q).isNone ∧ x.pkts.isEmpty then miss s
  else if x.st = .disabled ∧ x.pkts.isEmpty then miss s
  else
    let lo := match x.pkts with
      | [] => x.head
      | p :: _ => p.index
    let named := fun (i : Nat) => if range then inSpan lo index i else i == index
    let (s, hit) := x.pkts.foldl (fun (s, hit) p =>
      if named p.index then
        let (s, h) := (s.withdraw q p.index).cancelPkt q blocks p
        (s, hit || h)
      else (s, hit)) (s, false)
    let reading := match x.staging with
      | none => false
      | some i => named i
    let s := if reading then s.updQueue q fun x => { x with staging := none } else s
    let hit := hit || reading
    let (s, hit) := match x.staged with
      | none => (s, hit)
      | some g =>
        if named g.index then
          let (s, rs) := s.dropStaged [q]
          (s.release rs, true)
        else (s, hit)
    let unfetched := (x.tail + 2 ^ 32 - x.head) % 2 ^ 32
    let rel := (index + 2 ^ 32 - x.head) % 2 ^ 32
    if x.st = .disabled then (if hit then s else miss s)
    else if !range then
      if rel < unfetched then
        if s.disp.cancels.contains (q, index) then s
        else if s.disp.cancels.length ≥ 4096 then s.sat Reg.DSP_SUBMIT_COUNTS_CANCEL_DROP 1
        else { s with disp := { s.disp with cancels := s.disp.cancels ++ [(q, index)] } }
      else if hit then s else miss s
    else if unfetched ≠ 0 ∧ !(newer x.head index 32) then
      let last := if rel < unfetched then index else (x.tail + 2 ^ 32 - 1) % 2 ^ 32
      s.updQueue q fun x => { x with horizon :=
        match x.horizon with
        | none => some last
        | some h => if newer last h 32 then some last else some h }
    else if hit then s else miss s

/-! ## The host port's places (R203, R204) -/

/-- The queue engine takes a write that the host port holds. -/
def State.takeWrite (s : State) (w : DbWrite) : State :=
  if w.cancel then s.takeCancel w.qid w.value w.blocks else s.takeDoorbell w.qid w.value

/-- The queue engine takes every write that waits at the host port, in the order in which it accepted them. -/
def State.takeWrites (s : State) : State :=
  let l := s.host.places ++ s.host.withheld
  l.foldl State.takeWrite ({ s with host := { s.host with places := [], withheld := [] } } : State)

/-- The host port accepts a doorbell or cancel write, which travels on the REQ network's PROMPT channel (R203), or withholds
acceptance while its 64 places are full (R204).  The queue engine takes a write at once, unless an epoch switch holds
injection (R481, log entry 106). -/
def State.hostDoorbell (s : State) (w : DbWrite) : State :=
  let u : MeshUse := ⟨if w.cancel then .cancel else .doorbell, w.qid, true⟩
  let s := { s with mesh := { s.mesh with uses := s.mesh.uses ++ [u] } }
  if s.mesh.holdSince.isNone then s.takeWrite w
  else if s.host.places.length < 64 then { s with host := { s.host with places := s.host.places ++ [w] } }
  else { s with host := { s.host with withheld := s.host.withheld ++ [w] } }

/-- A doorbell write (R205).  From step 4 of the entry into watch standby on the host port takes none (R84): it is a
stray write. -/
def execDoorbell (qid : BitVec 16) (value : BitVec 64) (s : State) : Out := whenLive 3 s fun s =>
  .next (if 4 ≤ s.flight.entryStep then s else s.hostDoorbell ⟨false, qid.toNat % 32768, value.toNat, 0⟩)

/-- A write to CANCEL (R227). -/
def execCancel (qid : BitVec 16) (value : BitVec 64) (blocks : BitVec 32) (s : State) : Out := whenLive 3 s fun s =>
  .next (if 4 ≤ s.flight.entryStep then s else s.hostDoorbell ⟨true, qid.toNat % 32768, value.toNat, blocks.toNat⟩)

/-! ## Retirement (R224-R226) -/

/-- STATUS and CODE of a completion record (R226). -/
def endCode : PktEnd → Nat
  | .ok => 0
  | .error c _ _ => c
  | .cancelled => 0

def endStatus : PktEnd → Nat
  | .ok => 0
  | .error _ _ _ => 1
  | .cancelled => 2

/-- The SEQ of the record behind an outcome: `some 0` where there is none, `none` while the record has not
reached the log (log entry 7). -/
def State.endSeq (s : State) : PktEnd → Option Nat
  | .ok => some 0
  | .cancelled => some 0
  | .error _ _ none => some 0
  | .error _ _ (some id) => Tab.get none s.conc.seqOf id

def sat32 (v : Nat) : Nat := min (2 ^ 32 - 1) v

/-- The 64 bytes of a completion record (R226). -/
def recordBytes (x : Queue) (p : Pkt) (e : PktEnd) (seq now : Nat) : List Byte :=
  let task := isTask p.raw
  let fl := x.recNo / 2 ^ x.recLog2 % 2 + 2 * b2n p.startMiss + 4 * b2n p.finishMiss + 8 * b2n task
  let stats :=
    if task then leBytes 8 p.converted ++ leBytes 4 (sat32 p.clipped) ++ leBytes 4 (sat32 p.flushed) ++
      leBytes 4 (sat32 p.nan) ++ leBytes 4 (sat32 p.runT) ++ leBytes 4 (sat32 p.unwritten)
    else leBytes 28 0
  leBytes 4 (pfld p.raw 4 4) ++ leBytes 4 p.index ++ leBytes 1 (opOf p.raw) ++ leBytes 1 (endStatus e) ++
    leBytes 1 (endCode e) ++ leBytes 1 (if opOf p.raw = 0x10 then p.tile else 0xFF) ++ leBytes 2 seq ++
    leBytes 1 fl ++ leBytes 1 0 ++ leBytes 8 p.startT ++ leBytes 8 now ++ stats ++ leBytes 4 0

/-- The completion record is written, when the packet asks for one (R226); a failed write loses the context
(R182). -/
def State.writeRecord (s : State) (q cid : Nat) (p : Pkt) (e : PktEnd) (seq : Nat) : State :=
  let x := s.queue q
  if hasRecord p.raw ∧ x.recVa ≠ 0 then
    let a := x.recVa + x.recNo % 2 ^ x.recLog2 * 64
    let s := s.useFor .record q
    match s.writeVa cid a (recordBytes x p e seq s.dspTime) with
    | .ok s => s.updQueue q fun x => { x with recNo := (x.recNo + 1) % 2 ^ 32 }
    | .err er => (s.loseX uDSP dspStop cid (some q) er).updQueue q fun x => { x with recNo := (x.recNo + 1) % 2 ^ 32 }
  else s

/-- The fence update of an outcome (R225, R218 MODE). -/
def fenceUpOf (p : Pkt) (e : PktEnd) (seq cid q : Nat) : FenceUp :=
  match e with
  | .ok => if opOf p.raw = 0x20 ∧ pfld p.raw 0x18 1 = 1 then .cancel else .signal (pfld p.raw 0x10 8)
  | .error c u _ => .error (companion seq cid q u c)
  | .cancelled => .cancel

/-- A BARRIER whose earlier packets have all retired is satisfied (R221). -/
def State.serveBarrier (s : State) (q : Nat) : State :=
  match (s.queue q).pkts with
  | [] => s
  | p :: _ =>
    if p.st = .atHead ∧ opOf p.raw = 0x22 ∧ p.ended.isNone then
      ((s.setWaiter q none).updPkt q p.index (Pkt.finish .ok)).updQueue q fun x => { x with st := qResumed x.st }
    else s

/-- A packet retires (R224): its completion record, its fence, its event vector, then its references, once
the SEQ of its fault record is known.  `bad`: place of the handle whose release returns uncorrectable data (R172). -/
def execPacketRetire (qid : BitVec 16) (index : BitVec 32) (bad : Option (BitVec 3)) (s : State) : Out := whenLive 3 s fun s =>
  let q := qid.toNat % 32768
  .next <| match s.heldPkt q index.toNat with
    | none => s
    | some (cid, p) =>
      match p.ended with
      | none => s
      | some e =>
        match s.endSeq e with
        | none => s
        | some seq =>
          let s := s.writeRecord q cid p e seq
          let s := match p.fenceVa with
            | none => s
            | some va => (s.useFor .fence q).fence p.fenceCid va (some q) (fenceUpOf p e seq cid q)
          let s := if hasEvent p.raw ∧ (s.ctx cid).hasVec (pfld p.raw 2 2) then s.event (pfld p.raw 2 2) else s
          let s := s.updQueue q fun x => { x with pkts := x.pkts.filter (·.index != p.index) }
          ((s.releaseBad p.refs (bad.map (·.toNat))).serveBarrier q).settleLoss cid

end Sys2Proof.Machine
end

