-- ==== Sys2Proof/Machine/Area.lean ====
section
/-! DEFINITION. The register area of a tile (R309, R336), the swap slot and the state image (R218, R261):
how a tile's state is laid out in bytes and read back. -/

namespace Sys2Proof.Machine

/-! ## Tile registers -/

/-- A scalar register; s0 reads 0 (R283). -/
def Tile.sreg (t : Tile) (k : Nat) : Word := if k = 0 then 0 else Tab.get 0 t.s k

/-- A scalar register written; s0 discards it (R283). -/
def Tile.setS (t : Tile) (k : Nat) (v : Word) : Tile := if k = 0 then t else { t with s := t.s.set k v }

/-- An address register (R283). -/
def Tile.areg (t : Tile) (k : Nat) : DWord := Tab.get 0 t.a k

def Tile.setA (t : Tile) (k : Nat) (v : DWord) : Tile := { t with a := t.a.set k v }

/-- A tensor-descriptor register (R283). -/
def Tile.treg (t : Tile) (k : Nat) : BitVec 256 := Tab.get 0 t.t k

def Tile.setT (t : Tile) (k : Nat) (v : BitVec 256) : Tile := { t with t := t.t.set k v }

/-- A lane of a vector register (R283). -/
def Tile.vlane (t : Tile) (k i : Nat) : Word := Tab.get 0 t.v (64 * k + i)

def Tile.setLane (t : Tile) (k i : Nat) (w : Word) : Tile := { t with v := t.v.set (64 * k + i) w }

/-- A predicate register; p0 reads all ones (R283). -/
def Tile.preg (t : Tile) (k : Nat) : DWord := if k = 0 then BitVec.allOnes 64 else Tab.get 0 t.p k

/-- A predicate register written; p0 discards it (R283). -/
def Tile.setP (t : Tile) (k : Nat) (v : DWord) : Tile := if k = 0 then t else { t with p := t.p.set k v }

/-- Element (row, column) of an accumulator (R283). -/
def Tile.accEl (t : Tile) (k r c : Nat) : Word := Tab.get 0 t.acc (4096 * k + 64 * r + c)

def Tile.setAcc (t : Tile) (k r c : Nat) (w : Word) : Tile := { t with acc := t.acc.set (4096 * k + 64 * r + c) w }

/-- Type tag of an accumulator: true FP32 (R284). -/
def Tile.accIsFp (t : Tile) (k : Nat) : Bool := Tab.get false t.accFp k

/-- A hardware loop register (R283). -/
def Tile.loopReg (t : Tile) (k : Nat) : LoopReg := Tab.get LoopReg.reset t.loops k

/-- A line of the tile store has been written (R289). -/
def Tile.isWritten (t : Tile) (l : Nat) : Bool := Tab.get false t.written l

/-- A byte of the tile store: zero in a line whose written bit is 0 (R291). -/
def Tile.rd (t : Tile) (a : Nat) : Byte := if t.isWritten (a / 64) then t.store.byte a else 0

/-- A byte written to the tile store: the first write of a line writes zeros to the rest of it (R289). -/
def Tile.wr (t : Tile) (a : Nat) (b : Byte) : Tile :=
  if t.isWritten (a / 64) then { t with store := t.store.put a b }
  else { t with store := (t.store.wipe (a / 64 * 64) 64).put a b, written := t.written.set (a / 64) true }

def Tile.wrList (t : Tile) (a : Nat) : List Byte → Tile
  | [] => t
  | b :: bs => Tile.wrList (t.wr a b) (a + 1) bs

def Tile.rdList (t : Tile) (a : Nat) : Nat → List Byte
  | 0 => []
  | n + 1 => t.rd a :: Tile.rdList t (a + 1) n

/-- The little-endian number in `n` bytes of the tile store (R13). -/
def Tile.rdLe (t : Tile) (a n : Nat) : Nat := leNat (t.rdList a n)

def Tile.wrLe (t : Tile) (a n v : Nat) : Tile := t.wrList a (leBytes n v)

/-- Initial stochastic rounding state of a lane (R396). -/
def stochSeed (qid index inst i : Nat) : BitVec 16 :=
  let v := (qid * 0x9E37 + index * 0x85EB + inst * 0xC2B3 + i * 0x6A09) % 2 ^ 16
  if v = 0 then 0xACE1 else BitVec.ofNat 16 v

/-! ## The register area (R309, R336) -/

/-- Fields laid into an area: (offset, size, value) of every entry of a table. -/
def areaPut (c : Cells) (n : Nat) (l : List (Nat × Nat)) : Cells :=
  l.foldl (fun c e => c.putLe e.1 n e.2) c

/-- A mover-queue entry (R336). -/
def bargeBytes (b : Barge) : List Byte :=
  leBytes 8 b.va ++ leBytes 32 b.desc.toNat ++ leBytes 4 b.m1.toNat ++ leBytes 4 b.m2.toNat ++
    leBytes 4 b.m3.toNat ++ leBytes 4 b.done ++ leBytes 2 b.func.toNat ++
    leBytes 1 (if b.faulted then 2 else 1) ++ leBytes 5 0

/-- Type tags as one byte (R309). -/
def Tile.tagByte (t : Tile) : Nat := (List.range 8).foldl (fun n k => n + b2n (t.accIsFp k) * 2 ^ k) 0

/-- The register area of a tile (R309); `queue`: its mover queue is saved, as in a slot written for a
mover fault (R310). -/
def Tile.area (t : Tile) (queue : Bool) : Cells :=
  let c := areaPut [] 4 (t.acc.map fun e => (4 * e.1, e.2.toNat))
  let c := areaPut c 4 (t.v.map fun e => (0x20000 + 4 * e.1, e.2.toNat))
  let c := areaPut c 8 (t.rescale.map fun e => (0x22000 + 8 * e.1, e.2.toNat))
  let c := areaPut c 32 (t.t.map fun e => (0x24000 + 32 * e.1, e.2.toNat))
  let c := areaPut c 8 (t.a.map fun e => (0x24200 + 8 * e.1, e.2.toNat))
  let c := areaPut c 4 ((List.range 32).map fun k => (0x24280 + 4 * k, (t.sreg k).toNat))
  let c := areaPut c 8 ((List.range 8).map fun k => (0x24300 + 8 * k, (t.preg k).toNat))
  let c := areaPut c 16 ((List.range 4).map fun k =>
    (0x24340 + 16 * k, (t.loopReg k).count + (t.loopReg k).start * 2 ^ 32 + (t.loopReg k).stop * 2 ^ 64))
  let c := (((c.putLe 0x24380 4 t.pc).putLe 0x24384 1 t.depth).putLe 0x24385 1 t.tagByte).putLe 0x24388 4 t.tmode.toNat
  let c := areaPut c 2 ((List.range 64).map fun i => (0x243C0 + 2 * i, (Tab.get (0 : BitVec 16) t.stoch i).toNat))
  let c := ((((c.putLe 0x24440 8 t.converted).putLe 0x24448 4 (sat32 t.clipped)).putLe 0x2444C 4
    (sat32 t.flushed)).putLe 0x24450 4 (sat32 t.nan)).putLe 0x24454 4 (sat32 t.unwritten)
  if queue then
    (t.barges.foldl (fun (c, k) b => (c.putList (0x24800 + 64 * k) (bargeBytes b), k + 1)) (c, 0)).1
  else c

/-- The bytes of the register area. -/
def Tile.areaBytes (t : Tile) (queue : Bool) : List Byte := (t.area queue).bytes 0 0x30000

/-- A mover-queue entry read back (R336); `none` where it is empty. -/
def bargeOf (m : Cells) (o : Nat) : Option Barge :=
  let st := m.le (o + 0x3A) 1
  if st = 1 ∨ st = 2 then
    some ⟨m.le o 8, BitVec.ofNat 256 (m.le (o + 8) 32), BitVec.ofNat 32 (m.le (o + 0x28) 4),
      BitVec.ofNat 32 (m.le (o + 0x2C) 4), BitVec.ofNat 32 (m.le (o + 0x30) 4), m.le (o + 0x34) 4,
      BitVec.ofNat 13 (m.le (o + 0x38) 2), false⟩
  else none

/-- A tile with its register area loaded (R310): every field the table names is set. -/
def Tile.loadArea (t : Tile) (m : Cells) : Tile :=
  let tab := fun (α : Type) (base n count : Nat) (f : Nat → α) =>
    (List.range count).map fun k => (k, f (m.le (base + n * k) n))
  { t with
    acc := tab Word 0 4 32768 (BitVec.ofNat 32),
    v := tab Word 0x20000 4 2048 (BitVec.ofNat 32),
    rescale := tab DWord 0x22000 8 1024 (BitVec.ofNat 64),
    t := tab (BitVec 256) 0x24000 32 16 (BitVec.ofNat 256),
    a := tab DWord 0x24200 8 16 (BitVec.ofNat 64),
    s := tab Word 0x24280 4 32 (BitVec.ofNat 32),
    p := tab DWord 0x24300 8 8 (BitVec.ofNat 64),
    loops := (List.range 4).map fun k =>
      (k, ⟨m.le (0x24340 + 16 * k) 4, m.le (0x24344 + 16 * k) 4, m.le (0x24348 + 16 * k) 4⟩),
    pc := m.le 0x24380 4, depth := m.le 0x24384 1,
    accFp := (List.range 8).map fun k => (k, bitAt (m.le 0x24385 1) k),
    tmode := BitVec.ofNat 32 (m.le 0x24388 4),
    stoch := tab (BitVec 16) 0x243C0 2 64 (BitVec.ofNat 16),
    converted := m.le 0x24440 8, clipped := m.le 0x24448 4, flushed := m.le 0x2444C 4,
    nan := m.le 0x24450 4, unwritten := m.le 0x24454 4,
    barges := (List.range 16).filterMap fun k => bargeOf m (0x24800 + 64 * k) }

/-- The tile store with the selected banks loaded from bytes: loaded lines are written, every other line
is unwritten (R262). -/
def Tile.loadBanks (t : Tile) (banks : Nat) (bank : Nat → List Byte) : Tile :=
  (List.range 16).foldl (fun t b =>
    if bitAt banks b then t.wrList (b * 0x10000) (bank b) else t) { t with store := [], written := [] }

/-- Banks that hold at least one written line (R261). -/
def Tile.usedBanks (t : Tile) : Nat :=
  (List.range 16).foldl (fun n b =>
    n + b2n (t.written.any fun e => e.2 && e.1 / 1024 == b) * 2 ^ b) 0

/-- The bytes of a bank; unwritten lines save as zeros (R267). -/
def Tile.bankBytes (t : Tile) (b : Nat) : List Byte := t.rdList (b * 0x10000) 0x10000

/-- Header of a swap slot (R261). -/
def slotHeader (qid cid index inst banks runT deadline reason : Nat) : List Byte :=
  leBytes 2 qid ++ leBytes 2 cid ++ leBytes 4 index ++ leBytes 2 inst ++ leBytes 2 banks ++
    leBytes 4 runT ++ leBytes 8 deadline ++ leBytes 1 reason ++ leBytes 39 0

/-- A state image (R218): the register area, when included, and the selected banks in ascending order. -/
def Tile.image (t : Tile) (regs : Bool) (banks : Nat) : List Byte :=
  (if regs then t.areaBytes false else []) ++
    ((List.range 16).map fun b => if bitAt banks b then t.bankBytes b else []).flatten

/-- A tile with a state image loaded (R218, R262, R310). -/
def Tile.loadImage (t : Tile) (regs : Bool) (banks : Nat) (img : List Byte) : Tile :=
  let t' := if regs then t.loadArea (Cells.putList [] 0 (img.take 0x30000)) else t
  let rest := if regs then img.drop 0x30000 else img
  let order := (List.range 16).filter (bitAt banks ·)
  { t'.loadBanks banks (fun b => (rest.drop (0x10000 * (order.takeWhile (· != b)).length)).take 0x10000) with
    barges := t.barges }

end Sys2Proof.Machine
end

