-- ==== Sys2Proof/Machine/Dispatcher.lean ====
section
/-! DEFINITION. Chapter 06 and the start and end of tasks (R307, R308): eligibility, ranking, placing,
misses and budgets, switch-out and swap, claims and fencing. -/

namespace Sys2Proof.Machine

/-! ## Tiles as the dispatcher sees them -/

def State.dtile (s : State) (t : Nat) : DTile := Tab.get DTile.reset s.disp.tiles t

def State.setDtile (s : State) (t : Nat) (d : DTile) : State :=
  { s with disp := { s.disp with tiles := s.disp.tiles.set t d } }

/-- Cluster `c` is fenced (R268). -/
def State.fenced (s : State) (c : Nat) : Bool := s.disp.fences.any (·.cluster == c)

/-- Queue `q` holds a claim (R265). -/
def State.holdsClaim (s : State) (q : Nat) : Bool := (List.range 64).any fun t => (s.dtile t).claim == some q

/-- Cluster `c` may receive work of partition `p` under an AFFINITY (R152, R239, R660). -/
def State.clusterServes (s : State) (p aff c : Nat) : Bool :=
  bitAt (s.partClusters p) c && (aff == 0 || bitAt aff c) && !(s.fenced c)

/-- Tile `t` is idle and eligible for a task of queue `q` (R239), claims apart. -/
def State.tileFree (s : State) (p aff t : Nat) : Bool :=
  (s.dtile t).st == .idle && (s.dtile t).cur.isNone && s.domOpen (clDom (t / 4)) && !((s.tile t).halted) &&
    !(s.on (Reg.CLS_TILE_CTRL_ISTORE_FLUSH t)) && s.clusterServes p aff (t / 4)

/-- The claim rule of R239. -/
def State.claimOk (s : State) (q t : Nat) : Bool :=
  (s.dtile t).claim == some q || ((s.dtile t).claim.isNone && !(s.holdsClaim q))

/-- A state packet waits in the pool for tile `t` and nothing but the tile's work keeps it from starting
(R264): it goes ahead of the tasks whose placement it would block. -/
def State.stateWaits (s : State) (t : Nat) : Bool :=
  s.queues.any fun e => e.2.pkts.any fun p =>
    isStateOp p.raw && p.ended.isNone && (match p.st with
      | .pooled => true
      | .fetched => false
      | .offered => false
      | .atHead => false
      | .started => false) &&
    pfld p.raw 0x28 1 == t && ((s.dtile t).claim == none || (s.dtile t).claim == some e.1)

/-! ## The ready pool (R238, R240) -/

/-- A task in the ready pool: a packet's next instance, or a switched-out one, with its context. -/
structure Cand where
  qid : Nat
  index : Nat
  inst : Nat
  /-- the slot that holds it, when switched out: partition and slot -/
  slot : Option (Nat × Nat)
  entry : Nat
  cid : Nat
  deriving DecidableEq, Repr

/-- Instances of a packet (R223). -/
def instCount (raw : Nat) : Nat := if opOf raw = 0x11 then pfld raw 0x34 2 else 1

/-- The tasks in the pool. -/
def State.pool (s : State) : List Cand :=
  (s.queues.map fun e => (e.2.pkts.map fun p =>
    (if isTask p.raw ∧ p.st = .pooled ∧ p.ended.isNone ∧ !p.noMore ∧ p.nextInst < instCount p.raw then
      [(⟨e.1, p.index, p.nextInst, none, p.entry, p.cid⟩ : Cand)] else []) ++
    p.runs.filterMap fun r => match r.place with
      | .inPool pt k => if r.abort.isNone ∧ p.ended.isNone then some ⟨e.1, p.index, r.inst, some (pt, k), r.entry, p.cid⟩ else none
      | .onTile _ => none
      | .saving _ _ _ => none
      | .heldInSlot _ _ => none
      | .loading _ _ _ => none).flatten).flatten

/-- The deadline of a packet on 48 bits, when it has one (R250). -/
def deadlineOf (raw : Nat) : Option Nat := if noDeadline raw then none else some (pfld raw 0x28 6)

/-- In debt (R244). -/
def State.inDebt (s : State) (q : Nat) : Bool := (s.queue q).share != 0 && decide ((s.queue q).credit < 0)

def State.candRaw (s : State) (c : Cand) : Nat := match (s.queue c.qid).pkt c.index with
  | some p => p.raw
  | none => 0

/-- The keys of R240: does `a` rank ahead of `b`? -/
def State.ranksAhead (s : State) (a b : Cand) : Bool :=
  let da := s.inDebt a.qid
  let db := s.inDebt b.qid
  if da != db then db
  else if (s.queue a.qid).band ≠ (s.queue b.qid).band then decide ((s.queue a.qid).band < (s.queue b.qid).band)
  else
    let last := fun (_ : Unit) =>
      if a.entry ≠ b.entry then decide (a.entry < b.entry)
      else if a.qid ≠ b.qid then decide (a.qid < b.qid)
      else if a.index ≠ b.index then decide (a.index < b.index)
      else decide (a.inst < b.inst)
    match deadlineOf (s.candRaw a), deadlineOf (s.candRaw b) with
    | some _, none => true
    | none, some _ => false
    | none, none => last ()
    | some x, some y => if newer y x 48 then true else if newer x y 48 then false else last ()

/-- The highest-ranked of a list. -/
def State.bestOf (s : State) (l : List Cand) : Option Cand :=
  l.foldl (fun b c => match b with
    | none => some c
    | some x => if s.ranksAhead c x then some c else some x) none

/-- AFFINITY of a packet (R218). -/
def affOf (raw : Nat) : Nat := pfld raw 0x38 2

/-- The idle eligible tiles of a task, in ascending number (R239). -/
def State.tilesFor (s : State) (c : Cand) : List Nat :=
  let p := (s.ctx c.cid).pid
  if s.quarantined p ∨ s.eng = engAlarmed then []
  else (List.range 64).filter fun t =>
    s.tileFree p (affOf (s.candRaw c)) t && s.claimOk c.qid t && !(s.stateWaits t)

/-- The PROGRAM handle of a packet. -/
def progOf (raw : Nat) : Nat := pfld raw 0x18 4

/-- The tile chosen among the idle eligible ones (R241). -/
def State.chooseTile (s : State) (c : Cand) (l : List Nat) : Option Nat :=
  match l.find? fun t => (s.dtile t).claim == some c.qid with
  | some t => some t
  | none =>
    match l.find? fun t => (s.dtile t).lastCid.isSome && (s.dtile t).lastProg == progOf (s.candRaw c) with
    | some t => some t
    | none =>
      match l.find? fun t => (s.dtile t).lastCid == some c.cid with
      | some t => some t
      | none => l.head?

/-- Up to `k` tiles for consecutive instances, chosen one after another in one cluster (R236). -/
def State.chooseTiles (s : State) (c : Cand) : Nat → List Nat → List Nat
  | 0, _ => []
  | k + 1, l =>
    match s.chooseTile c l with
    | none => []
    | some t => t :: State.chooseTiles s c k (l.filter fun u => u != t && u / 4 == t / 4)

/-- The PICK phase (R235, R236, R241): the highest-ranked task that entered in an earlier cycle and has an idle eligible
tile. -/
def State.pickPhase (s : State) : State :=
  let spaced := match s.disp.lastPick with
    | none => true
    | some c => decide (c + 7 ≤ s.disp.cycle)
  if !s.disp.on || s.on Reg.DSP_CTRL_HOLD || !spaced || s.disp.pick.isSome then s
  else match s.bestOf (s.pool.filter fun c => decide (c.entry < s.disp.cycle) && !(s.tilesFor c).isEmpty) with
    | none => s
    | some c =>
      let raw := s.candRaw c
      let n := if c.slot.isSome ∨ opOf raw ≠ 0x11 then 1 else min 4 (instCount raw - c.inst)
      let ts := s.chooseTiles c n (s.tilesFor c)
      { s with disp := { s.disp with
          lastPick := some s.disp.cycle,
          pick := some ⟨c.qid, c.index, (List.range ts.length).map fun k => (ts.getD k 0, c.inst + k),
            c.slot.isSome⟩ } }

/-- One instance is sent to a tile (R38): a new instance is handed over, a switched-out one begins to load its state
(R259).  A new one counts in DSP_DISPATCHED, for its context and as a sample of dispatch latency (R681, R686). -/
def State.sendOne (s : State) (q i t inst : Nat) (resume : Bool) : State :=
  let now := s.dspTime
  let d := s.dtile t
  match (s.queue q).pkt i with
  | none => s
  | some p =>
    if resume then
      match p.runs.find? (·.inst == inst) with
      | some r =>
        match r.place with
        | .inPool pt k =>
          (s.setDtile t { d with st := .swapping, cur := some (q, i, inst) }).updPkt q i fun p =>
            { p with runs := p.runs.map fun x =>
                if x.inst = inst then { x with place := .loading t pt k, sentAt := now } else x }
        | .onTile _ => s
        | .saving _ _ _ => s
        | .heldInSlot _ _ => s
        | .loading _ _ _ => s
      | none => s
    else
      let s := (s.setDtile t { d with st := .running, cur := some (q, i, inst) }).useFor .handOver q
      let s := { s with disp := { s.disp with handovers := s.disp.handovers ++ [(t, q, i, inst)] } }
      let s := (s.wrap Reg.DSP_DISPATCHED_COUNT 1).countFor p.cid fun c => { c with tasks := c.tasks + 1 }
      let s := s.sample 1 (s.disp.cycle - p.entry) 63 fun sub =>
        if bitAt sub 15 then sub % 1024 == p.cid else sub % 32768 == q
      s.updPkt q i fun p =>
        { p with
          startT := if p.nextInst = 0 then now else p.startT,
          tile := if opOf p.raw = 0x10 then t else p.tile,
          nextInst := inst + 1,
          st := if inst + 1 = instCount p.raw then .started else p.st,
          runs := p.runs ++ [⟨inst, .onTile t, 0, now, now, p.entry, false, none, RunStats.zero⟩] }

/-- One tile of the pick receives its hand-over, if its task is still in the pool and the tile still eligible: SEND sees what
the earlier phases of its cycle, and what happened since the pick, have done (R235, R40, R254).  The instances of a group
go to the tiles that remain, in order. -/
def State.sendTo (s : State) (k : Pick) (t inst : Nat) : State :=
  match s.pool.find? fun c => c.qid == k.qid && c.index == k.index && c.slot.isSome == k.resume &&
      (!k.resume || c.inst == inst) with
  | none => s
  | some c => if (s.tilesFor c).contains t then s.sendOne c.qid c.index t c.inst k.resume else s

/-- The SEND phase: the hand-overs of the previous cycle's pick (R235). -/
def State.sendPhase (s : State) (pick : Option Pick) : State :=
  match pick with
  | none => s
  | some k => if s.disp.on then k.tiles.foldl (fun s e => s.sendTo k e.1 e.2) s else s

/-- The ENTER phase (R238): offered tasks, their SERIAL condition met, enter the pool. -/
def State.enterPhase (s : State) : State :=
  s.queues.foldl (fun s e => e.2.pkts.foldl (fun s p =>
    if p.st = .offered ∧ isTask p.raw ∧ p.ended.isNone ∧ (isSerial p.raw → e.2.oldest p.index) then
      s.updPkt e.1 p.index fun p => { p with st := .pooled, entry := s.disp.cycle }
    else s) s) s

/-! ## Misses and budgets (R246-R253) -/

/-- Effective policy: 1 REPORT, 2 ABANDON, 3 LOSE (R246). -/
def Queue.policy (x : Queue) : Nat :=
  if x.missPolicy ≠ 0 then x.missPolicy else if x.band = 0 then 2 else 1

/-- A 48-bit time has passed (R237). -/
def State.passed (s : State) (x : Nat) : Bool := !(newer x (s.dspTime % 2 ^ 48) 48)

/-- The packet is known to the scheduler: it has entered the pool. -/
def Pkt.entered (p : Pkt) : Bool := match p.st with
  | .pooled => true
  | .started => true
  | .fetched => false
  | .offered => false
  | .atHead => false

/-- A fault 0x20 to 0x23 counts for the context (R686). -/
def State.missFor (s : State) (cid : Nat) : State := s.countFor cid fun c => { c with misses := c.misses + 1 }

/-- Latest start (R248). -/
def latestStart (raw : Nat) : Nat := (pfld raw 0x28 6 + 2 ^ 48 - pfld raw 0x2E 2 * 100) % 2 ^ 48

/-- A start-miss of one instance (R246-R248). -/
def State.startMissOf (s : State) (q i inst : Nat) : State :=
  match s.heldPkt q i with
  | none => s
  | some (cid, p) =>
    let ls := latestStart p.raw
    if s.disp.on ∧ isTask p.raw ∧ !(noDeadline p.raw) ∧ p.st = .pooled ∧ p.ended.isNone ∧ !p.noMore ∧
        p.nextInst ≤ inst ∧ inst < instCount p.raw ∧ !(p.startMissed.contains inst) ∧ s.passed ls then
      let pol := (s.queue q).policy
      let id := s.recId
      let s := s.faultC 0x20 uDSP dspStop (pol * 2 ^ 60 + inst * 2 ^ 48 + ls) (some cid) (some q) none
      let s := ((s.sat Reg.DSP_MISS_COUNTS_START_MISS 1).missFor cid).updPkt q i fun p =>
        { p with startMiss := true, startMissed := inst :: p.startMissed }
      if pol = 1 then s
      else if pol = 2 then
        let e := PktEnd.error 0x20 uDSP (some id)
        (s.withdraw q i).updPkt q i fun p =>
          let p := { p with noMore := true, firstEnd := if p.firstEnd.isSome then p.firstEnd else some e }
          if p.runs.isEmpty then Pkt.finish (p.firstEnd.getD e) p else p
      else s.lose cid 0x20 (some id)
    else s

/-- A finish-miss (R246, R249).  A packet whose end is decided, by a cancel or an earlier event, has none (R252, R254, log
entry 9). -/
def State.finishMissOf (s : State) (q i : Nat) : State :=
  match s.heldPkt q i with
  | none => s
  | some (cid, p) =>
    let d := pfld p.raw 0x28 6
    if s.disp.on ∧ isTask p.raw ∧ !(noDeadline p.raw) ∧ p.entered ∧ !p.decided ∧ !p.finishMiss ∧ s.passed d then
      let pol := (s.queue q).policy
      let id := s.recId
      let s := s.faultC 0x21 uDSP dspStop (pol * 2 ^ 60 + d) (some cid) (some q) none
      let s := ((s.sat Reg.DSP_MISS_COUNTS_FINISH_MISS 1).missFor cid).updPkt q i fun p => { p with finishMiss := true }
      if pol = 1 then s
      else if pol = 2 then (s.withdraw q i).abortPkt q i (.error 0x21 uDSP (some id))
      else s.lose cid 0x21 (some id)
    else s

/-- Does the core of a tile hold the tile for its task (R253)? -/
def coreHolds : CoreSt → Bool
  | .running => true
  | .fetchWait => true
  | .wait => true
  | .ending => true
  | .idle => false
  | .suspended => false
  | .swapping => false

/-- Run ticks of an instance (R253); they do not advance while its tile is halted (R655). -/
def State.runCount (s : State) (r : Run) : Nat :=
  match r.place with
  | .onTile t => if coreHolds (s.tile t).core ∧ !((s.tile t).halted) then r.runT + (s.time t - r.since) else r.runT
  | .saving _ _ _ => r.runT
  | .heldInSlot _ _ => r.runT
  | .inPool _ _ => r.runT
  | .loading _ _ _ => r.runT

/-- A budget overrun of one instance (R246, R253). -/
def State.budgetOf (s : State) (q i inst : Nat) : State :=
  match s.heldPkt q i with
  | none => s
  | some (cid, p) =>
    match p.runs.find? (·.inst == inst) with
    | some r =>
      if s.disp.on ∧ !p.decided ∧ !r.overrun ∧ r.abort.isNone ∧ pfld p.raw 0x2E 2 * 100 ≤ s.runCount r then
        let pol := (s.queue q).policy
        let id := s.recId
        let s := s.faultC 0x22 uDSP dspStop
          (pol * 2 ^ 60 + inst * 2 ^ 48 + s.dspTime % 2 ^ 48) (some cid) (some q) none
        let s := ((s.sat Reg.DSP_BUDGET_COUNTS_OVERRUN 1).missFor cid).updPkt q i fun p =>
          { p with runs := p.runs.map fun x => if x.inst = inst then { x with overrun := true } else x }
        if pol = 1 then s
        else if pol = 2 then
          let s := s.updPkt q i fun p => { p with noMore := true }
          s.abortRun q i r (.error 0x22 uDSP (some id))
        else s.lose cid 0x22 (some id)
      else s
    | none => s

/-- The hard limit of a REPORT task: four times its budget (R253). -/
def State.budgetHardOf (s : State) (q i inst : Nat) : State :=
  match s.heldPkt q i with
  | none => s
  | some (cid, p) =>
    match p.runs.find? (·.inst == inst) with
    | some r =>
      if s.disp.on ∧ !p.decided ∧ r.overrun ∧ r.abort.isNone ∧ (s.queue q).policy = 1 ∧
          4 * (pfld p.raw 0x2E 2 * 100) ≤ s.runCount r then
        let id := s.recId
        let s := s.faultC 0x23 uDSP dspStop (inst * 2 ^ 48 + s.dspTime % 2 ^ 48) (some cid) (some q) none
        let s := ((s.sat Reg.DSP_BUDGET_COUNTS_HARD 1).missFor cid).updPkt q i fun p => { p with noMore := true }
        s.abortRun q i r (.error 0x23 uDSP (some id))
      else s
    | none => s

/-- The events of one packet in a TIME phase, in the order start-miss, finish-miss, budget overrun, up to one whose policy
ends the task (R252). -/
def State.timeOf (s : State) (q : Nat) (p : Pkt) : State :=
  let insts := ((List.range (instCount p.raw)).drop p.nextInst)
  let s := if isTask p.raw then insts.foldl (fun s k => s.startMissOf q p.index k) s else s
  let s := s.finishMissOf q p.index
  if ((s.queue q).pkt p.index).any fun x => x.noMore && !p.noMore then s
  else p.runs.foldl (fun s r => (s.budgetOf q p.index r.inst).budgetHardOf q p.index r.inst) s

/-- The TIME phase (R235, R252). -/
def State.timePhase (s : State) : State :=
  if s.disp.on then s.queues.foldl (fun s e => e.2.pkts.foldl (fun s p => s.timeOf e.1 p) s) s else s

/-! ## Demand (R243) -/

/-- The cluster for which a ready task needs a demand report: the lowest CLOSED one that could serve it,
when no cluster that could serve it is anything but CLOSED. -/
def State.demandFor (s : State) (c : Cand) : Option Nat :=
  let could := (List.range 16).filter fun k =>
    s.clusterServes (s.ctx c.cid).pid (affOf (s.candRaw c)) k && s.clEnabled k &&
      (s.dom (clDom k)).st != .stoppage && (s.dom (clDom k)).st != .disabled
  if s.holdsClaim c.qid then none
  else if could.all fun k => (s.dom (clDom k)).st == .closed then could.head? else none

/-- A demand report for cluster `c`, unless one sent within 100,000 t still stands (R243): it falls when the cluster
opens. -/
def State.sendDemand (s : State) (c : Nat) : State :=
  let stands := s.disp.demands.any fun e => e.1 == c && decide (s.dspTime < e.2 + 100000)
  if stands then s
  else { (s.send (.demand c)) with
    disp := { s.disp with demands := (c, s.dspTime) :: s.disp.demands.filter (·.1 != c) } }

/-- The demands of the tasks in the pool (R243). -/
def State.demandPhase (s : State) : State :=
  if s.disp.on then
    (s.pool.filterMap s.demandFor).foldl (fun s c => s.sendDemand c) s
  else s

/-- One dispatcher cycle (R235), unless the dispatcher stalls on a report (R44): TIME, PICK among the tasks that entered earlier, ENTER, and SEND of the
previous cycle's pick.  Cancels act at their own command, ahead of every later cycle (R254). -/
def execDispatcherCycle (s : State) : Out := whenLive 3 s fun s =>
  if s.stalled (4 * dspStop) then .next s
  else
  let s := { s with disp := { s.disp with cycle := s.disp.cycle + 1 } }
  let s := s.timePhase
  let due := s.disp.pick
  let s := { s with disp := { s.disp with pick := none } }
  let s := s.sendPhase due
  let s := s.pickPhase
  .next (s.demandPhase.enterPhase)

def execStartMiss (qid inst : BitVec 16) (index : BitVec 32) (s : State) : Out := whenLive 3 s fun s =>
  .next (s.startMissOf (qid.toNat % 32768) index.toNat inst.toNat)

def execFinishMiss (qid : BitVec 16) (index : BitVec 32) (s : State) : Out := whenLive 3 s fun s =>
  .next (s.finishMissOf (qid.toNat % 32768) index.toNat)

def execBudgetOverrun (qid inst : BitVec 16) (index : BitVec 32) (s : State) : Out := whenLive 3 s fun s =>
  .next (s.budgetOf (qid.toNat % 32768) index.toNat inst.toNat)

def execBudgetHard (qid inst : BitVec 16) (index : BitVec 32) (s : State) : Out := whenLive 3 s fun s =>
  .next (s.budgetHardOf (qid.toNat % 32768) index.toNat inst.toNat)

/-! ## Starting a task (R242, R307) -/

/-- A tile whose task's context differs from its last, or that has had none since its domain opened:
registers zero, tags INT32, rescale table zero and written bits cleared (R307). -/
def Tile.fresh (t : Tile) : Tile :=
  { t with s := [], a := [], t := [], v := [], acc := [], accFp := [], p := [], rescale := [], written := [] }

/-- The state at the start of a new task (R307). -/
def Tile.begin (t : Tile) (tile q index inst cid raw : Nat) (refs : List Ref) (trap : Bool) : Tile :=
  let adr := fun (o : Nat) => BitVec.ofNat 64 (match refAt refs o with
    | some r => r.addr
    | none => 0)
  let grp := opOf raw == 0x11
  let stride := if grp then pfld raw 0x36 2 else 0
  let prog := refAt refs 0x18
  let t := ((((t.setS 1 (BitVec.ofNat 32 inst)).setS 2 (BitVec.ofNat 32 (instCount raw))).setS 3
    (BitVec.ofNat 32 tile)).setA 0 (BitVec.ofNat 64 (pfld raw 0x20 8 + inst * stride * 64)))
  let t := (((t.setA 1 (adr 0x30)).setA 2 (if grp then 0 else adr 0x34)).setA 3
    (if grp then 0 else adr 0x3C)).setA 4 (adr 0x18)
  { t with
    core := .running, task := some (q, index, inst), cid := cid, loops := [], depth := 0,
    pc := pfld raw 0x1C 4, tmode := 0, stoch := (List.range 64).map fun i => (i, stochSeed q index inst i),
    converted := 0, clipped := 0, flushed := 0, nan := 0, unwritten := 0, fetch := none, barges := [],
    units := [], wait := none, call := none, exc := none, atEnd := false, progEntry := progOf raw % 2 ^ 20,
    progGen := (prog.map (·.gen)).getD 0, progVa := (prog.map (·.addr)).getD 0,
    progSize := (prog.map (·.size)).getD 0, trapUnwritten := trap, phase := 0, yielding := false,
    halted := false, stepping := false, bpSkip := false }

/-- A tile takes up a task: its current phase at power control is phase 0 (R605). -/
def State.phaseZero (s : State) (t : Nat) : State :=
  { s with power := { s.power with phase := s.power.phase.set t (some 0, s.gtc) } }

/-- A tile's dispatch port receives a hand-over and the task begins (R38, R242, R307). -/
def execHandover (tile : BitVec 6) (s : State) : Out := whenLive 3 s fun s =>
  let t := tile.toNat
  .next <| match s.disp.handovers.find? (·.1 == t) with
    | none => s
    | some (_, q, i, inst) =>
      if !(s.domLive (clDom (t / 4))) ∨ (s.tile t).core ≠ .idle then s
      else
        let s := { s with disp := { s.disp with
          handovers := s.disp.handovers.filter fun (e : Nat × Nat × Nat × Nat) => e != (t, q, i, inst) } }
        match s.heldPkt q i with
        | none => s
        | some (cid, p) =>
          let d := s.dtile t
          let x := s.tile t
          let x := if d.lastCid = some cid then x else x.fresh
          let s := (s.setTile t (x.begin t q i inst cid p.raw p.refs (s.ctx cid).trapUnwritten)).phaseZero t
          let s := s.setDtile t { d with lastCid := some cid, lastProg := progOf p.raw }
          let s := s.updPkt q i fun p =>
            { p with runs := p.runs.map fun r => if r.inst = inst then { r with since := s.time t } else r }
          match p.runs.find? (·.inst == inst) with
          | some r => if r.abort.isSome then s.updTile t Tile.abortOrder else s
          | none => s

/-! ## Leaving a tile (R244, R256-R259) -/

/-- The instance that tile `t` holds: queue, index, packet and run. -/
def State.holder (s : State) (t : Nat) : Option (Nat × Nat × Pkt × Run) :=
  match (s.dtile t).cur with
  | none => none
  | some (q, i, inst) =>
    match (s.queue q).pkt i with
    | none => none
    | some p => (p.runs.find? (·.inst == inst)).map fun r => (q, i, p, r)

/-- The core of tile `t` halts with a cause (R653, R656): the run ticks of its task stand still. -/
def State.haltTile (s : State) (t cause : Nat) : State :=
  let s := match s.holder t with
    | some (q, i, _, r) =>
      let n := s.runCount r
      s.updPkt q i fun p => { p with runs := p.runs.map fun (x : Run) => if x.inst = r.inst then { x with runT := n } else x }
    | none => s
  s.updTile t fun x => { x with halted := true, haltCause := cause, stepping := false }

/-- The core of tile `t` goes on (R653): the run ticks of its task advance again. -/
def State.unhaltTile (s : State) (t : Nat) : State :=
  let s := match s.holder t with
    | some (q, i, _, r) => s.updPkt q i fun p =>
      { p with runs := p.runs.map fun (x : Run) => if x.inst = r.inst then { x with since := s.time t } else x }
    | none => s
  s.updTile t fun x => { x with halted := false, bpSkip := x.haltCause == 3, haltCause := 0 }

/-- The dispatch weir pays for a task that leaves its tile (R244). -/
def State.payWeir (s : State) (q sentAt : Nat) : State :=
  if (s.queue q).share = 0 then s
  else s.updQueue q fun x =>
    { x with credit := max (-(2 ^ 43 : Int)) (x.credit - ((s.dspTime - sentAt) * 4096 : Nat)) }

/-- The tile is free: it keeps its registers and tile store (R308), and a flush asked for takes place
(R312). -/
def State.freeTile (s : State) (t : Nat) : State :=
  let s := s.setDtile t { s.dtile t with st := .idle, cur := none, idleSince := s.dspTime, next := none }
  let flush := s.on (Reg.CLS_TILE_CTRL_ISTORE_FLUSH t)
  let s := s.updTile t fun x =>
    { x with core := .idle, task := none, wait := none, call := none, fetch := none, exc := none, atEnd := false,
             barges := [], units := [], yielding := false, halted := false,
             istore := if flush then [] else x.istore }
  s.put (Reg.CLS_TILE_CTRL_ISTORE_FLUSH t) 0

/-- Counts that a tile keeps for its task. -/
def Tile.stats (x : Tile) : RunStats := ⟨x.converted, x.clipped, x.flushed, x.nan, x.unwritten⟩

/-- An instance ends with an outcome after `n` ticks on tiles (R223): its statistics join the packet's and its ticks the
context's (R686), and the packet ends when no instance runs and none will start. -/
def State.endRun (s : State) (q i inst : Nat) (e : PktEnd) (st : RunStats) (n : Nat) : State :=
  (s.countRun q i n).updPkt q i fun p =>
    let bad := e != .ok
    let p := { p.addRun st n with
      runs := p.runs.filter (·.inst != inst), noMore := p.noMore || bad,
      firstEnd := if p.firstEnd.isSome then p.firstEnd else if bad then some e else none }
    if p.runs.isEmpty && (p.noMore || p.nextInst == instCount p.raw) then
      Pkt.finish (p.firstEnd.getD .ok) p else p

/-- The task of tile `t` leaves it for good with an outcome. -/
def State.leave (s : State) (t : Nat) (e : PktEnd) : State :=
  match s.holder t with
  | none => s.freeTile t
  | some (q, i, p, r) =>
    let x := s.tile t
    let n := s.runCount r
    let s := (s.payWeir q r.sentAt).freeTile t
    let s := s.dropSusp q i (some r.inst)
    (s.endRun q i r.inst e x.stats n).settleLoss p.cid

/-- An aborted tile's issued requests complete and the tile becomes free; the run ends with the outcome its
abort gave it (R183, R227, R306). -/
def execAbortComplete (tile : BitVec 6) (s : State) : Out := whenLive 3 s fun s =>
  let t := tile.toNat
  .next <| match s.holder t with
    | some (_, _, _, r) =>
      match r.abort with
      | some e => if (s.tile t).core = .ending ∧ (s.tile t).exc.isNone then s.leave t e else s
      | none => s
    | none => s

/-- After END the units and barges have drained: the task ends (R308). -/
def execTaskEnd (tile : BitVec 6) (s : State) : Out := whenLive 3 s fun s =>
  let t := tile.toNat
  let x := s.tile t
  .next <|
    if x.core = .ending ∧ x.atEnd ∧ x.exc.isNone ∧ x.barges.isEmpty ∧ x.units.isEmpty then s.leave t .ok else s

/-- Unit code and SRC of tile `t` (R451, R671). -/
def State.tileFault (s : State) (t code detail cid : Nat) (qid : Option Nat) : State :=
  s.faultC code (uCLS (t / 4)) (srcTile t) detail (some cid) qid none

/-- After an exception the units and barges have drained: the exception is recorded in CLS_TILE_EXC and the
fault log and the task ends with its code; a cancel wins (R305, R306). -/
def execTaskExceptionEnd (tile : BitVec 6) (s : State) : Out := whenLive 3 s fun s =>
  let t := tile.toNat
  let x := s.tile t
  .next <| match x.exc, s.holder t with
    | some e, some (q, _, _, r) =>
      if x.core = .ending ∧ x.barges.isEmpty ∧ x.units.isEmpty then
        let id := s.recId
        let s := s.tileFault t e.code (e.pc * 2 ^ 32 + t * 2 ^ 26 + e.detail) x.cid (some q)
        let s := ((s.put (Reg.CLS_TILE_EXC_PC t) e.pc).put (Reg.CLS_TILE_EXC_CID t) x.cid).put
          (Reg.CLS_TILE_EXC_CODE t) e.code
        s.leave t (if r.abort = some .cancelled then .cancelled else .error e.code (uCLS (t / 4)) (some id))
      else s
    | _, _ => s

/-! ## Swap slots (R257-R263, R276) -/

/-- Slots of partition `p` in use (R277). -/
def State.slotsUsed (s : State) (p : Nat) : Nat := (s.disp.slots.filter fun e => e.1 == p).length

/-- The lowest free slot of partition `p`, when its swap is on (R257, R260, R263). -/
def State.freeSlotOf (s : State) (p : Nat) : Option Nat :=
  if bitAt (s.get Reg.DSP_SWAP_OFF_PARTS) p then none
  else (List.range (s.get (Reg.DSP_SWAP_CFG_SLOTS p))).find? fun k => !(s.disp.slots.contains (p, k))

/-- Physical address of a slot (R260). -/
def State.slotBase (s : State) (p k : Nat) : Nat := s.get (Reg.DSP_SWAP_CFG_BASE p) * 2 ^ 21 + k * 2 ^ 21

/-- The task of tile `t` begins to be saved into a swap slot (R257, R258); with no free slot SWAP_FULL
counts and nothing else happens. -/
def State.switchOut (s : State) (t : Nat) : State × Bool :=
  match s.holder t with
  | none => (s, false)
  | some (q, i, _, r) =>
    let p := (s.ctx (s.tile t).cid).pid
    match s.freeSlotOf p with
    | none => (s.sat Reg.DSP_SWAP_COUNTS_SWAP_FULL 1, false)
    | some k =>
      let n := s.runCount r
      let s := { s with disp := { s.disp with slots := s.disp.slots ++ [(p, k)] } }
      let s := (s.sat Reg.DSP_SWAP_COUNTS_SWITCH_OUT 1).setDtile t { s.dtile t with st := .swapping }
      let s := s.updTile t fun x => { x with core := .swapping, yielding := false }
      (s.updPkt q i fun p' => { p' with runs := p'.runs.map fun x =>
        if x.inst = r.inst then { x with place := .saving t p k, runT := n } else x }, true)

/-- A write of bytes at a physical address under a CID that a register names (R260, R433). -/
def State.slotWrite (s : State) (cid : Nat) (l : List (Nat × List Byte)) : Option State :=
  l.foldl (fun s e => match s with
    | none => none
    | some s => s.ownWrite cid e.1 e.2) (some s)

/-- A slot access failed the check (R263): fault 0x25, the partition's swap goes off, and the task leaves its tile, which its
queue's weir pays for (R244), and retires with fence error 0x25. -/
def State.swapFailed (s : State) (t p k : Nat) (q i : Nat) (r : Run) (st : RunStats) (cid : Nat) (load : Bool) : State :=
  let s := s.refusedRec (s.get (Reg.DSP_SWAP_CFG_CID p)) (some q) (s.slotBase p k)
  let id := s.recId
  let s := s.faultC 0x25 uDSP dspStop (p + k * 2 ^ 8 + b2n load * 2 ^ 16) (some cid) (some q) none
  let s := s.put Reg.DSP_SWAP_OFF_PARTS (setBit (s.get Reg.DSP_SWAP_OFF_PARTS) p true)
  let s := (((s.payWeir q r.sentAt).freeSlot p k).freeTile t).dropSusp q i (some r.inst)
  s.endRun q i r.inst (.error 0x25 uDSP (some id)) st r.runT

/-- The task for which one yielded takes its place on the tile, if it still waits (R257). -/
def State.placeNext (s : State) (t : Nat) (next : Option (Nat × Nat × Nat × Bool)) : State :=
  match next with
  | none => s
  | some (q, i, inst, resume) => if s.disp.on then s.sendTo ⟨q, i, [], resume⟩ t inst else s

/-- A save into a slot finishes (R261, R262): the tile is free and the task waits in its slot, in the pool
again unless the driver still owes an answer to its mover fault (R238, R431).  The task for which it yielded takes the
tile (R257). -/
def State.saveDone (s : State) (t p k q i : Nat) (r : Run) : State :=
  let x := s.tile t
  let raw := match (s.queue q).pkt i with
    | some p => p.raw
    | none => 0
  let faulted := s.xlt.susp.any fun y => y.qid == q && y.index == i && y.inst == r.inst
  let b := s.slotBase p k
  let banks := x.usedBanks
  let parts := [(b, x.areaBytes (!x.barges.isEmpty))] ++
    ((List.range 16).filterMap fun n => if bitAt banks n then some (b + 0x30000 + n * 0x10000, x.bankBytes n) else none) ++
    [(b + 0x130000, slotHeader q x.cid i r.inst banks r.runT (pfld raw 0x28 6) (if faulted then 2 else 1))]
  match s.slotWrite (s.get (Reg.DSP_SWAP_CFG_CID p)) parts with
  | none => s.swapFailed t p k q i r x.stats x.cid false
  | some s' =>
    let next := (s.dtile t).next
    let s := ((s'.payWeir q r.sentAt).freeTile t).updTile t fun y => { y with halted := x.halted, haltCause := x.haltCause }
    let s := match r.abort with
      | some e => ((s.freeSlot p k).dropSusp q i (some r.inst)).endRun q i r.inst e x.stats r.runT
      | none => s.updPkt q i fun p' => { p' with runs := p'.runs.map fun (y : Run) =>
          if y.inst = r.inst then
            { y with place := if faulted then .heldInSlot p k else .inPool p k, entry := s.disp.cycle + 1, stats := x.stats }
          else y }
    s.placeNext t next

/-- A load from a slot finishes (R259, R261, R262, R307): the task continues on the tile with its whole
register area, its program's and task's identity as the dispatcher holds them. -/
def State.loadDone (s : State) (t p k q i : Nat) (r : Run) : State :=
  match s.queueCid q, (s.queue q).pkt i with
  | some cid, some pk =>
    let b := s.slotBase p k
    let scid := s.get (Reg.DSP_SWAP_CFG_CID p)
    match s.ownRead scid (b + 0x130000) 64, s.ownRead scid b 0x30000 with
    | some h, some ar =>
      let banks := leNat ((h.drop 0x0A).take 2)
      let rd := fun (n : Nat) => (s.ownRead scid (b + 0x30000 + n * 0x10000) 0x10000).getD []
      let x := ((s.tile t).begin t q i r.inst cid pk.raw pk.refs (s.ctx cid).trapUnwritten).loadArea
        (Cells.putList [] 0 ar)
      let s := ((s.setTile t (x.loadBanks banks rd)).freeSlot p k).phaseZero t
      let s := s.setDtile t { s.dtile t with st := .running, lastCid := some cid, lastProg := progOf pk.raw }
      let s := s.updPkt q i fun p' => { p' with runs := p'.runs.map fun y =>
        if y.inst = r.inst then { y with place := .onTile t, since := s.time t } else y }
      if r.abort.isSome then s.updTile t Tile.abortOrder else s
    | _, _ => s.swapFailed t p k q i r r.stats cid true
  | _, _ => s

/-- A state packet finishes (R218, R264, R265, R267): the image is saved or loaded under the packet's CID,
and the claim passes or ends.  A failed access ends the packet with its code, or loses the context
(log entry 24). -/
def State.stateDone (s : State) (t q i : Nat) : State :=
  match s.heldPkt q i with
  | none => s
  | some (cid, p) =>
    let raw := p.raw
    let regs := pfld raw 0x29 1 == 1
    let banks := pfld raw 0x2A 2
    let va := pfld raw 0x20 8
    let d := s.dtile t
    let last := fun (s : State) (x : DTile) => s.setDtile t { x with st := .idle, cur := none, idleSince := s.dspTime }
    let bad := fun (e : XErr) =>
      let id := s.recId
      let s := (last s d).updPkt q i (Pkt.finish (.error e.code uDSP (some id)))
      if suspends e.code then s.recordX uDSP dspStop cid (some q) e else s.loseX uDSP dspStop cid (some q) e
    if opOf raw = 0x40 then
      match s.writeVa cid va ((s.tile t).image regs banks) with
      | .err e => bad e
      | .ok s =>
        (last s { d with claim := if d.claim = some q then none else d.claim }).updPkt q i (Pkt.finish .ok)
    else match s.readVa cid va (imageSize raw) with
      | .err e => bad e
      | .ok img =>
        let s := s.updTile t fun x => x.loadImage regs banks img
        (last s { d with claim := some q }).updPkt q i (Pkt.finish .ok)

/-! ### ECC of the tile store (R288) -/

/-- Two ranges meet. -/
def meets (a b : Nat × Nat) : Bool := decide (a.1 < b.1 + b.2) && decide (b.1 < a.1 + a.2)

/-- An ECC error that a read of tile `u`'s store finds for context `cid` (R288): corrected, counted and recorded, or recorded
with the loss of the context (R182). -/
def State.tileError (s : State) (u cid : Nat) (h : TileHit) : State :=
  if h.bad then
    let id := s.recId
    (s.eccFault 0x80 (uCLS (u / 4)) (srcTile u) 1 (h.addr.toNat / 64 * 64) false (some cid)).lose cid 0x80 (some id)
  else s.tileCorrected u h.addr.toNat

/-- A read of ranges of core `u`'s store for a context meets the errors `hits`, of which those in written lines that the
ranges meet count (R288, R291), and whether one was uncorrectable.  The island SRAM has its own rule (R113). -/
def State.readEcc (s : State) (u cid : Nat) (rs : List (Nat × Nat)) (hits : List TileHit) : State × Bool :=
  if 64 ≤ u then (s, false)
  else
    let l := hits.filter fun (h : TileHit) =>
      (rs.any fun r => meets r (h.addr.toNat / 8 * 8, 8)) && (s.tile u).isWritten (h.addr.toNat / 64)
    (l.foldl (fun s h => s.tileError u cid h) s, l.any (·.bad))

/-- The parts of ranges that meet a 64-bit word without covering it, which a write reads first (R288). -/
def partialWords (rs : List (Nat × Nat)) : List (Nat × Nat) :=
  (rs.flatMap fun r => [(r.1 / 8 * 8, r), ((r.1 + r.2) / 8 * 8, r)]).filterMap fun (w, r) =>
    if r.1 ≤ w ∧ w + 8 ≤ r.1 + r.2 then none else if meets r (w, 8) then some (w, 8) else none

/-- Errors that a save finds in the whole store of tile `t` cost the task or state packet its context (R288). -/
def State.saveEcc (s : State) (t : Nat) (hits : List TileHit) : State :=
  (s.readEcc t ((s.dtile t).lastCid.getD 0) [(0, 2 ^ 20)] hits).1

/-- A swap save or load on a tile finishes, or a state packet's transfer (R262, R264): `hits` are the ECC errors that a save
finds.  A save waits for the barges issued before a faulted one (R335). -/
def execSwapComplete (tile : BitVec 6) (hits : List TileHit) (s : State) : Out := whenLive 3 s fun s =>
  let t := tile.toNat
  .next <| match (s.dtile t).cur with
    | none => s
    | some (q, i, inst) =>
      match (s.queue q).pkt i with
      | none => s
      | some p =>
        if (s.dtile t).st = .reserved then
          if opOf p.raw = 0x40 then (s.saveEcc t hits).stateDone t q i else s.stateDone t q i
        else match p.runs.find? (·.inst == inst) with
          | none => s
          | some r =>
            match r.place with
            | .saving _ pt k =>
              if (s.tile t).units.isEmpty ∧ ((s.tile t).barges.isEmpty ∨ (s.tile t).barges.head?.any (·.faulted)) then
                let s := s.saveEcc t hits
                match ((s.queue q).pkt i).bind fun p => p.runs.find? (·.inst == inst) with
                | none => s
                | some r => s.saveDone t pt k q i r
              else s
            | .loading _ pt k => s.loadDone t pt k q i r
            | .onTile _ => s
            | .heldInSlot _ _ => s
            | .inPool _ _ => s

/-- A state packet reserves its tile when the tile is idle, its cluster OPEN and in the context's partition (R152), and the
tile unclaimed or claimed by the packet's queue; until then it waits in the pool (R264).  The written bits are cleared first where the
packet's context is not the tile's last (R267, R290). -/
def State.startState (s : State) (q i : Nat) (op : Nat) : State :=
  match s.heldPkt q i with
  | none => s
  | some (cid, p) =>
    let t := pfld p.raw 0x28 1
    let d := s.dtile t
    let ready := match p.st with
      | .fetched => true
      | .pooled => true
      | .offered => false
      | .atHead => false
      | .started => false
    if !ready ∨ opOf p.raw ≠ op ∨ p.ended.isSome ∨ (isSerial p.raw ∧ !((s.queue q).oldest i)) then s
    else if d.st = .idle ∧ d.cur.isNone ∧ !((s.tile t).halted) ∧ s.domOpen (clDom (t / 4)) ∧ s.clusterServes (s.ctx cid).pid 0 (t / 4) ∧
        (d.claim = none ∨ d.claim = some q) ∧ s.disp.on then
      let s := s.started q i id
      let s := if d.lastCid = some cid then s else s.updTile t Tile.fresh
      s.setDtile t { d with st := .reserved, cur := some (q, i, 0), lastCid := some cid }
    else s.updPkt q i fun p => { p with st := .pooled }

/-- STATE_SAVE (R264, R267). -/
def execStateSave (qid : BitVec 16) (index : BitVec 32) (s : State) : Out := whenLive 3 s fun s =>
  .next (s.startState (qid.toNat % 32768) index.toNat 0x40)

/-- STATE_LOAD (R264, R265). -/
def execStateLoad (qid : BitVec 16) (index : BitVec 32) (s : State) : Out := whenLive 3 s fun s =>
  .next (s.startState (qid.toNat % 32768) index.toNat 0x41)

/-! ## Claims (R265, R266) -/

/-- Another queue waits for the claimed tile `t`: a state packet for it, or a ready task that only the claim
keeps from it (R266); a queue that holds claims elsewhere waits for those (R239). -/
def State.claimContested (s : State) (t : Nat) : Bool :=
  match (s.dtile t).claim with
  | none => false
  | some q =>
    (s.queues.any fun e => e.1 != q && e.2.pkts.any fun p =>
      isStateOp p.raw && p.ended.isNone && p.st == .pooled && pfld p.raw 0x28 1 == t) ||
    s.pool.any fun c => c.qid != q && !(s.holdsClaim c.qid) && s.tileFree (s.ctx c.cid).pid (affOf (s.candRaw c)) t

/-- A claim lapses (R266). -/
def execClaimLapse (tile : BitVec 6) (s : State) : Out := whenLive 3 s fun s =>
  let t := tile.toNat
  let d := s.dtile t
  .next <|
    if s.claimContested t ∧ d.st = .idle ∧
        d.idleSince + atLeast1 (s.get Reg.DSP_CLAIM_IDLE_TICKS) ≤ s.dspTime then
      ((s.setDtile t { d with claim := none }).updTile t fun x => { x with written := [] }).sat
        Reg.DSP_SWAP_COUNTS_CLAIM_LAPSE 1
    else s

/-! ## Fencing (R268, R269) -/

/-- The partition of a cluster (R153): the VALID partition whose mask holds it. -/
def State.clusterPart (s : State) (c : Nat) : Option Nat :=
  (List.range 16).find? fun p => bitAt (s.partClusters p) c

/-- The fence order reaches the dispatcher (R268 step 2). -/
def State.fenceCluster (s : State) (c : Nat) : State :=
  if s.fenced c then s
  else
    let s := s.endClaims fun t _ => t / 4 == c
    { s with disp := { s.disp with fences := s.disp.fences ++ [⟨c, (s.clusterPart c).getD 0, false, s.dspTime⟩] } }

def execFenceOrder (cluster : BitVec 4) (s : State) : Out := whenLive 3 s fun s => .next (s.fenceCluster cluster.toNat)

/-- A task still running on a cluster is aborted with a fault (R92, R268). -/
def State.abortOn (s : State) (c code unit src detail : Nat) : State :=
  (List.range 4).foldl (fun s k =>
    match s.holder (4 * c + k) with
    | none => s
    | some (q, i, p, r) =>
      if r.abort.isSome then s
      else
        let id := s.recId
        let s := s.faultC code unit src detail (some p.cid) (some q) none
        (s.updPkt q i fun p => { p with noMore := true }).abortRun q i r (.error code unit (some id))) s

/-- DSP_FENCE_LIMIT has passed since the fence order (R268 step 3, R272). -/
def execFenceLimitExpire (cluster : BitVec 4) (s : State) : Out := whenLive 3 s fun s =>
  let c := cluster.toNat
  .next <| match s.disp.fences.find? (·.cluster == c) with
    | none => s
    | some f =>
      if f.acked ∨ s.dspTime < f.at_ + atLeast1 (s.get Reg.DSP_FENCE_LIMIT_TICKS) then s
      else s.abortOn c 0x24 uDSP dspStop (c + f.former * 2 ^ 8)

/-- The four tiles of cluster `c` are idle. -/
def State.clusterIdle (s : State) (c : Nat) : Bool :=
  (List.range 4).all fun k => (s.dtile (4 * c + k)).st == .idle && (s.dtile (4 * c + k)).cur.isNone

/-- The fenced cluster's tile stores are zeroed and the order is acknowledged (R268 steps 4 and 5). -/
def execFenceAck (cluster : BitVec 4) (s : State) : Out := whenLive 3 s fun s =>
  let c := cluster.toNat
  .next <|
    if s.fenced c ∧ s.clusterIdle c then
      let s := (List.range 4).foldl (fun s k =>
        s.updTile (4 * c + k) fun x => { x with store := [], written := [] }) s
      { s with disp := { s.disp with
          fences := s.disp.fences.map fun (e : Fenced) => if e.cluster = c then { e with acked := true } else e } }
    else s

/-- A fence is lifted (R268 step 6, R269). -/
def State.liftFence (s : State) (c : Nat) : State :=
  { s with disp := { s.disp with fences := s.disp.fences.filter fun (e : Fenced) => e.cluster != c } }

def execFenceLift (cluster : BitVec 4) (s : State) : Out := whenLive 3 s fun s => .next (s.liftFence cluster.toNat)

/-! ## Counters (R233, R275, R312) -/

/-- DSP_SUBMIT_CLEAR (R233). -/
def execClear (s : State) : Out := whenLive 3 s fun s =>
  .next ((((s.put Reg.DSP_SUBMIT_COUNTS_CANCEL_DROP 0).put Reg.DSP_SUBMIT_COUNTS_CANCEL_MISS 0).put
    Reg.DSP_SUBMIT_COUNTS_STAGE_MISS 0).put Reg.DSP_SUBMIT_COUNTS_BAD_WIDTH 0)

/-- DSP_SCHED_CLEAR (R275). -/
def execSchedClear (s : State) : Out := whenLive 3 s fun s =>
  .next (((((((s.put Reg.DSP_MISS_COUNTS_START_MISS 0).put Reg.DSP_MISS_COUNTS_FINISH_MISS 0).put
    Reg.DSP_BUDGET_COUNTS_OVERRUN 0).put Reg.DSP_BUDGET_COUNTS_HARD 0).put
    Reg.DSP_SWAP_COUNTS_SWAP_FULL 0).put Reg.DSP_SWAP_COUNTS_CLAIM_LAPSE 0).put
    Reg.DSP_SWAP_COUNTS_SWITCH_OUT 0)

/-- ISTORE_FLUSH written 1 (R312): the instruction store is invalidated when the tile is idle, before any
hand-over. -/
def State.flushIstore (s : State) (t : Nat) : State :=
  if (s.tile t).core = .idle then
    (s.updTile t fun x => { x with istore := [] }).put (Reg.CLS_TILE_CTRL_ISTORE_FLUSH t) 0
  else s.put (Reg.CLS_TILE_CTRL_ISTORE_FLUSH t) 1

def execIstoreFlush (tile : BitVec 6) (s : State) : Out := whenLive (clDom (tile.toNat / 4)) s fun s =>
  .next (if s.domLive (clDom (tile.toNat / 4)) then s.flushIstore tile.toNat else s)

/-- CLEAR in CLS_TILE_CTRL written 1 (R312). -/
def execTileCountsClear (tile : BitVec 6) (s : State) : Out := whenLive (clDom (tile.toNat / 4)) s fun s =>
  let t := tile.toNat
  .next <| if s.domLive (clDom (t / 4)) then
    ((s.put (Reg.CLS_TILE_COUNTS_ECC_CORR t) 0).put (Reg.CLS_TILE_COUNTS_ISTORE_MISS t) 0).put
      (Reg.CLS_TILE_COUNTS_UNWRITTEN_READ t) 0
    else s

end Sys2Proof.Machine
end

