-- ==== Sys2Proof/Machine/Operands.lean ====
section
/-! DEFINITION. Operand forms of the tile machine: tensor descriptors with their checks (R292-R294, R761),
tile-store accesses, immediates (R298, R300) and exception values (R302, R303). -/

namespace Sys2Proof.Machine

/-- An exception of an instruction: code and detail `[25:0]` (R302). -/
structure Exc where
  code : Nat
  detail : Nat
  deriving DecidableEq, Repr

def excEncoding : Exc := ⟨0x10, 0⟩
def excDescriptor : Exc := ⟨0x10, 1⟩
def excOperand : Exc := ⟨0x10, 2⟩
def excAccType : Exc := ⟨0x10, 3⟩

/-- MISALIGNED_TENSOR for a descriptor register (R302). -/
def excMisaligned (reg kind : Nat) : Exc := ⟨0x11, reg % 16 + kind * 16⟩

/-- TILE_STORE_RANGE with the offending address, saturated (R761). -/
def excRange (a : Int) : Exc := ⟨0x12, if a < 0 ∨ 0x1FFFFF ≤ a then 0x1FFFFF else a.toNat⟩

/-- UNWRITTEN_READ of a line (R302). -/
def excUnwritten (line : Nat) : Exc := ⟨0x15, line⟩

/-- Highest tile-store address (R286). -/
def storeTop : Nat := 0xFFFFF

/-! ## Storage formats (R388) -/

inductive Fmt where
  | fp32 | bf16 | fp16 | e4m3 | e5m2 | e2m1 | int16 | int8 | uint8 | int4
  deriving DecidableEq, Repr

/-- The format of a FORMAT code; 0xA-0xF name none (R294, R388). -/
def fmtOf : Nat → Option Fmt
  | 0 => some .fp32
  | 1 => some .bf16
  | 2 => some .fp16
  | 3 => some .e4m3
  | 4 => some .e5m2
  | 5 => some .e2m1
  | 6 => some .int16
  | 7 => some .int8
  | 8 => some .uint8
  | 9 => some .int4
  | _ => none

/-- Bits of one element. -/
def Fmt.bits : Fmt → Nat
  | .fp32 => 32
  | .bf16 => 16
  | .fp16 => 16
  | .e4m3 => 8
  | .e5m2 => 8
  | .e2m1 => 4
  | .int16 => 16
  | .int8 => 8
  | .uint8 => 8
  | .int4 => 4

/-- A 4-bit format. -/
def Fmt.is4 (f : Fmt) : Bool := f.bits == 4

/-- A format that may be block-scaled (R294). -/
def Fmt.mayScale : Fmt → Bool
  | .e4m3 => true
  | .e5m2 => true
  | .e2m1 => true
  | .int4 => true
  | .fp32 => false
  | .bf16 => false
  | .fp16 => false
  | .int16 => false
  | .int8 => false
  | .uint8 => false

/-! ## Tensor descriptors (R292-R294) -/

/-- The fields of a descriptor (R292); extents are the true ones. -/
structure Desc where
  base : Nat
  fmt : Fmt
  bscale : Bool
  bsPtr : Nat
  d0 : Nat
  d1 : Nat
  d2 : Nat
  d3 : Nat
  st1 : Nat
  st2 : Nat
  st3 : Nat
  deriving DecidableEq, Repr

/-- Byte offset of element `i0` within its row (R293). -/
def Desc.off0 (d : Desc) (i0 : Nat) : Nat := i0 * d.fmt.bits / 8

/-- Address of an element (R293). -/
def Desc.addr (d : Desc) (i0 i1 i2 i3 : Nat) : Nat :=
  d.base + d.off0 i0 + i1 * d.st1 + i2 * d.st2 + i3 * d.st3

/-- Address of an element's block scale (R293). -/
def Desc.scaleAddr (d : Desc) (i0 i1 i2 i3 : Nat) : Nat :=
  d.bsPtr + ((i3 * d.d2 + i2) * d.d1 + i1) * (d.d0 / 32) + i0 / 32

/-- Bytes of one row of dimension 0. -/
def Desc.rowBytes (d : Desc) : Nat := d.d0 * d.fmt.bits / 8

/-- Rows, in element order: (i1, i2, i3). -/
def Desc.rows (d : Desc) : List (Nat × Nat × Nat) :=
  ((List.range d.d3).map fun i3 => ((List.range d.d2).map fun i2 =>
    (List.range d.d1).map fun i1 => (i1, i2, i3)).flatten).flatten

/-- Elements of the tensor. -/
def Desc.count (d : Desc) : Nat := d.d0 * d.d1 * d.d2 * d.d3

/-- Scales of the tensor: one per 32 elements of dimension 0 (R293). -/
def Desc.scaleCount (d : Desc) : Nat := if d.bscale then d.d0 / 32 * d.d1 * d.d2 * d.d3 else 0

/-- Highest byte address of an element, and of a scale (R294). -/
def Desc.top (d : Desc) : Nat :=
  d.base + (d.rowBytes - 1) + (d.d1 - 1) * d.st1 + (d.d2 - 1) * d.st2 + (d.d3 - 1) * d.st3

/-- The lowest address above the tile store among all elements and scales (R761).  Element addresses and the
top of the tile store are multiples of the element size, so a row that passes the top has an element just
above it. -/
def Desc.firstBad (d : Desc) : Nat :=
  let rows := d.rows.filterMap fun (i1, i2, i3) =>
    let a := d.addr 0 i1 i2 i3
    if a + d.rowBytes - 1 ≤ storeTop then none else some (max a (storeTop + 1))
  let scales := if d.bscale ∧ storeTop < d.bsPtr + d.scaleCount - 1 then [max d.bsPtr (storeTop + 1)] else []
  (rows ++ scales).foldl (fun m a => if m = 0 then a else min m a) 0

/-- The fields of a descriptor (R292), `none` where R294 calls it illegal. -/
def descFields (v : BitVec 256) : Option Desc :=
  let n := v.toNat
  match fmtOf (Machine.bits n 23 20) with
  | none => none
  | some f =>
    let bs := bitAt n 24
    if Machine.bits n 255 188 ≠ 0 ∨ Machine.bits n 63 52 ≠ 0 ∨ Machine.bits n 31 25 ≠ 0 ∨ (bs ∧ !f.mayScale) then none
    else
      some ⟨Machine.bits n 19 0, f, bs, Machine.bits n 51 32, Machine.bits n 79 64 + 1,
        Machine.bits n 95 80 + 1, Machine.bits n 111 96 + 1, Machine.bits n 127 112 + 1,
        Machine.bits n 147 128, Machine.bits n 167 148, Machine.bits n 187 168⟩

/-- Alignment and range of a descriptor in register `reg` (R294). -/
def Desc.place (d : Desc) (reg : Nat) : Option Exc :=
  let e := if d.fmt.is4 then 1 else d.fmt.bits / 8
  if d.base % e ≠ 0 then some (excMisaligned reg 0)
  else if d.st1 % e ≠ 0 ∨ d.st2 % e ≠ 0 ∨ d.st3 % e ≠ 0 then some (excMisaligned reg 1)
  else if (d.fmt.is4 ∧ d.d0 % 2 ≠ 0) ∨ (d.bscale ∧ d.d0 % 32 ≠ 0) then some (excMisaligned reg 2)
  else if storeTop < d.top ∨ (d.bscale ∧ storeTop < d.bsPtr + d.scaleCount - 1) then some (excRange d.firstBad)
  else none

/-- The exceptions that the checks of R294 raise on a descriptor register. -/
def descExcsOf (v : BitVec 256) (reg : Nat) : List (Option Exc) := match descFields v with
  | none => [some excDescriptor]
  | some d => [d.place reg]

/-- The tile-store ranges of a tensor: (first address, bytes) of each row and of its scales (R282). -/
def Desc.ranges (d : Desc) : List (Nat × Nat) :=
  (d.rows.map fun (i1, i2, i3) => (d.addr 0 i1 i2 i3, d.rowBytes)) ++
    (if d.bscale then [(d.bsPtr, d.scaleCount)] else [])

/-- The interlock of R282: an unfinished unit instruction reads or writes a range that this one uses, or
writes a register that this one reads or writes. -/
def Tile.blocked (t : Tile) (ranges : List (Nat × Nat)) (regs : List Nat) : Bool :=
  t.units.any fun u =>
    ((u.reads ++ u.writes).any fun r => ranges.any (meets r)) || u.regs.any fun k => regs.contains k

/-- Register numbers for interlocks (R282): s 0-31, a 32-47, t 48-63, v 64-95, acc 96-103, p 104-111 and the
rescale table 112. -/
def rS (k : Nat) : Nat := k
def rA (k : Nat) : Nat := 32 + k
def rT (k : Nat) : Nat := 48 + k
def rV (k : Nat) : Nat := 64 + k
def rAcc (k : Nat) : Nat := 96 + k
def rP (k : Nat) : Nat := 104 + k
def rTable : Nat := 112

/-- Sign extension of the low `n` bits into `w` bits. -/
def sext (n w v : Nat) : BitVec w := BitVec.ofInt w (asSigned n v)

/-- The immediate of an SI or B word, extended by an EXT prefix when it has one (R300). -/
def immOf (imm : BitVec 16) : Option (BitVec 26) → Int
  | none => asSigned 16 imm.toNat
  | some e => asSigned 42 (e.toNat * 2 ^ 16 + imm.toNat)

/-! ## Tile-store reads that count (R291) -/

/-- The lines that a range meets. -/
def linesAt (a n : Nat) : List Nat := linesOf a n

/-- The unwritten lines of a list of ranges, each line once per instruction (R291). -/
def Tile.unwrittenIn (t : Tile) (rs : List (Nat × Nat)) : List Nat :=
  (((rs.map fun r => linesAt r.1 r.2).flatten).filter fun l => !(t.isWritten l)).eraseDups

/-- The UNWRITTEN counts of the task and its context, and UNWRITTEN_READ of the tile, gain the unwritten lines read (R291,
R686). -/
def State.countUnwritten (s : State) (u n : Nat) : State :=
  if n = 0 then s
  else
    let s := s.updTile u fun t => { t with unwritten := t.unwritten + n }
    if u < 64 then
      (s.sat (Reg.CLS_TILE_COUNTS_UNWRITTEN_READ u) n).countFor (s.tile u).cid fun c => { c with unwritten := c.unwritten + n }
    else s

/-- A read of ranges by a unit that may trap (R291): the exception of its first unwritten line, or the
count. -/
def State.readRanges (s : State) (u : Nat) (rs : List (Nat × Nat)) : Except Exc State :=
  let t := s.tile u
  let l := t.unwrittenIn rs
  match l with
  | [] => .ok s
  | x :: _ => if t.trapUnwritten then .error (excUnwritten x) else .ok (s.countUnwritten u l.length)

end Sys2Proof.Machine
end

