-- ==== Sys2Proof/Machine/Encoding.lean ====
section
/-! DEFINITION. The words of a program (R298-R301): the fields of a word by its format and the instruction it names, by the
tables of chapters 07 to 09.  Instructions reach the block as commands (log entry 117); what a word names decides whether a
fetched word is illegal. -/

namespace Sys2Proof.Machine

/-- A word's fields by the format of its major opcode (R298, R300); `reserved` where the major opcode is. -/
inductive Form where
  | s3 (rd rs1 rs2 : BitVec 5) (func : BitVec 11)
  | si (rd rs1 : BitVec 5) (imm : BitVec 16)
  | b (rs1 rs2 : BitVec 5) (imm : BitVec 16)
  | tm (acc : BitVec 3) (ta tb aux : BitVec 4) (func : BitVec 11)
  | v (vd vs1 vs2 : BitVec 5) (pd : BitVec 3) (func : BitVec 8)
  | x (a t : BitVec 4) (sf : BitVec 5) (func : BitVec 13)
  | sys (sub : BitVec 10) (imm : BitVec 16)
  | ext (imm : BitVec 26)
  | reserved
  deriving DecidableEq, Repr

/-- Bits `[lo + n - 1:lo]` of a word. -/
def fld (w : Word) (lo n : Nat) : BitVec n := w.extractLsb' lo n

/-- Major opcode of a word (R298). -/
def major (w : Word) : Nat := (fld w 26 6).toNat

/-- The fields of a word (R298, R299). -/
def formOf (w : Word) : Form :=
  let m := major w
  if m = 0x01 then .s3 (fld w 21 5) (fld w 16 5) (fld w 11 5) (fld w 0 11)
  else if (0x02 ≤ m ∧ m ≤ 0x09) ∨ m = 0x18 then .si (fld w 21 5) (fld w 16 5) (fld w 0 16)
  else if 0x10 ≤ m ∧ m ≤ 0x17 then .b (fld w 21 5) (fld w 16 5) (fld w 0 16)
  else if 0x20 ≤ m ∧ m ≤ 0x22 then .tm (fld w 23 3) (fld w 19 4) (fld w 15 4) (fld w 11 4) (fld w 0 11)
  else if 0x24 ≤ m ∧ m ≤ 0x27 then .v (fld w 21 5) (fld w 16 5) (fld w 11 5) (fld w 8 3) (fld w 0 8)
  else if 0x30 ≤ m ∧ m ≤ 0x33 then .x (fld w 22 4) (fld w 18 4) (fld w 13 5) (fld w 0 13)
  else if 0x38 ≤ m ∧ m ≤ 0x3D then .sys (fld w 16 10) (fld w 0 16)
  else if m = 0x3F then .ext (fld w 0 26)
  else .reserved

/-- A word is an EXT prefix (R300). -/
def isExt (w : Word) : Bool := major w == 0x3F

/-- Place `n` of a list of names that starts at `base`. -/
def nameAt (base : Nat) (l : List String) (n : Nat) : Option String := if base ≤ n then l[n - base]? else none

/-- Register forms from func 0x000 on (R318). -/
def s3Names : List String :=
  ["ADD", "SUB", "AND", "OR", "XOR", "SLL", "SRL", "SRA", "SLT", "SLTU", "MUL", "MULH", "MULHU", "DIV", "DIVU",
   "REM", "REMU", "MIN", "MAX", "MINU", "MAXU", "CLZ", "POPC"]

/-- The register form that a func names (R318, R320). -/
def s3Name (n : Nat) : Option String :=
  (nameAt 0 s3Names n).or <| (nameAt 0x40 ["AMOV", "AADD", "AADDU", "APACK", "ALO", "AHI"] n).or <|
  if 0x60 ≤ n ∧ n ≤ 0x6A then some "TSET"
  else if 0x80 ≤ n ∧ n ≤ 0x8A then some "TGET"
  else nameAt 0xA0 ["TMOV", "TZERO"] n

/-- The form of majors 0x02-0x09 and 0x18 (R321, R322, R330). -/
def siName (m : Nat) (imm : BitVec 16) : Option String :=
  if m = 0x18 then some (if imm.getLsbD 0 then "TST" else "TLD")
  else if m = 0x09 then nameAt 0 ["LW", "SW", "LBU", "SB"] (imm.toNat % 4)
  else nameAt 2 ["ADDI", "ANDI", "ORI", "XORI", "LUI", "SLTI", "ADDA"] m

/-- The form of majors 0x10-0x17, `imm` with its EXT (R323, R324, R326). -/
def bName (m : Nat) (rs2 : BitVec 5) (imm : Int) : Option String :=
  if m = 0x16 then some (if rs2 = 0 then "JAL" else "JALR")
  else if m = 0x17 then some (if imm = 0 then "LBRK" else "LOOP")
  else nameAt 0x10 ["BEQ", "BNE", "BLT", "BGE", "BLTU", "BGEU"] m

/-- The form of majors 0x20-0x22 (R359, R376, R378). -/
def tmName (m : Nat) (func : BitVec 11) : Option String :=
  if m = 0x20 then some "MMA"
  else if m = 0x21 then some "CVT"
  else nameAt 0 ["REDUCE_SUM", "REDUCE_MAX", "REDUCE_MIN", "REDUCE_ABSMAX"] (func.toNat % 16)

/-- Integer lane operations, major 0x24 (R369). -/
def vIntNames : List String :=
  ["VADD", "VSUB", "VMUL", "VMULH", "VMULHU", "VMIN", "VMAX", "VMINU", "VMAXU", "VAND", "VOR", "VXOR", "VSLL",
   "VSRL", "VSRA", "VABS", "VMADD", "VSRAR"]

/-- FP32 lane operations, major 0x25 (R370). -/
def vFpNames : List String :=
  ["VFADD", "VFSUB", "VFMUL", "VFMA", "VFMIN", "VFMAX", "VFABS", "VFNEG", "VFRCP", "VFRSQRT", "VFSQRT",
   "VFEXP2", "VFLOG2", "VFDIV"]

/-- Loads and stores, major 0x27 (R373). -/
def vMoveNames : List String :=
  ["VLD", "VST", "VLDS", "VSTS", "VLD8", "VLDU8", "VLD16", "VLDH", "VLDBF", "VST8", "VST16"]

/-- The form of majors 0x24-0x27 (R368-R373): func`[7]` is SCALAR in 0x24, 0x25 and the comparisons, and 0 elsewhere. -/
def vName (m : Nat) (func : BitVec 8) : Option String :=
  let n := func.toNat % 128
  if m = 0x24 then nameAt 0 vIntNames n
  else if m = 0x25 then (nameAt 0 vFpNames n).or (nameAt 0x10 ["VI2F", "VU2F", "VF2I"] n)
  else if m = 0x26 then
    (nameAt 0 ["VCMPEQ", "VCMPNE", "VCMPLT", "VCMPLE", "VCMPLTU", "VCMPLEU"] n).or <|
    (nameAt 0x08 ["VFCMPEQ", "VFCMPLT", "VFCMPLE", "VFCMPUN"] n).or <|
    if func.getLsbD 7 then none
    else (nameAt 0x11 ["VPERM", "VROT", "VRED"] n).or (nameAt 0x18 ["PAND", "POR", "PXOR", "PANDN", "PSET", "PGET"] n)
  else if func.getLsbD 7 then none
  else (nameAt 0 vMoveNames n).or <| (nameAt 0x10 ["VBCAST", "VEXT", "VINS", "ACCRD", "ACCWR"] n).or <|
    (nameAt 0x16 ["VMOV"] n).or (nameAt 0x18 ["RTLD", "RTST"] n)

/-- Atomic operations (R339). -/
def atomNames : List String :=
  ["ATOM_ADD", "ATOM_AND", "ATOM_OR", "ATOM_XOR", "ATOM_SMIN", "ATOM_SMAX", "ATOM_UMIN", "ATOM_UMAX",
   "ATOM_SWAP", "ATOM_CAS", "ATOM_FADD", "ATOM_LOAD"]

/-- The form of majors 0x30-0x33 (R331, R339, R342, R345). -/
def xName (m : Nat) (func : BitVec 13) : Option String :=
  if m = 0x30 then some "XFER"
  else if m = 0x31 then nameAt 0 atomNames (func.toNat % 16)
  else if m = 0x32 then some (if func.getLsbD 0 then "RRECV" else "RSEND")
  else some (if func.getLsbD 0 then "FREE" else "ALLOC")

/-- Subs of the SYS majors from 0x38 on (R337, R347, R349-R352, R384). -/
def sysNames : List (List String) :=
  [["WAIT_BARGE", "WAIT_UNITS", "WAIT_TICK", "WAIT_FRAME"],
   ["SIGNAL_FENCE", "SIGNAL_EVENT", "SIGNAL_WAKE", "SIGNAL_KEEP"],
   ["PHASE"], ["TIME", "CLIPSTAT"], ["END", "YIELD", "TRAP"], ["TMODE_READ", "TMODE_WRITE"]]

/-- The instruction a word names, none where the word is illegal (R299): the all-zero word, a reserved major opcode, or a func or
sub that names no instruction.  Behind an EXT it must be of format SI or B (R301). -/
def wordName (w : Word) (ext : Option (BitVec 26)) : Option String :=
  let m := major w
  match formOf w with
  | .si _ _ imm => siName m imm
  | .b _ rs2 imm => bName m rs2 (immOf imm ext)
  | f =>
    if ext.isSome then none
    else match f with
      | .s3 _ _ _ func => s3Name func.toNat
      | .tm _ _ _ _ func => tmName m func
      | .v _ _ _ _ func => vName m func
      | .x _ _ _ func => xName m func
      | .sys sub _ => nameAt 0 (sysNames.getD (m - 0x38) []) sub.toNat
      | _ => none

/-- A word fetched with the word after it: an EXT pair (R301) or a single word. -/
def pairName (w after : Word) : Option String :=
  if isExt w then wordName after (some (fld w 0 26)) else wordName w none

/-- The exception that an illegal word raises (R299, R303, R339): an ATOM of no operation, with its t field and its reserved
bits 0, is an operand out of its range; every other one is an encoding. -/
def wordExc (w : Word) : Exc :=
  if major w = 0x31 ∧ fld w 18 4 = 0 ∧ fld w 5 8 = 0 then excOperand else excEncoding

end Sys2Proof.Machine
end

