-- ==== Sys2Proof/Machine/Translation.lean ====
section
/-! DEFINITION. Chapter 11: lookups, walks, invalidations, and the driver's answers to suspensions.  An access of
a mover, DMA engine or other initiator carries its own translation (`State.reachBy`); the commands of this file are
what XLT itself does, and what they enter in the TLBs serves the accesses that follow. -/

namespace Sys2Proof.Machine

/-- The domain of XLT and the DMA engines (R27). -/
def pdXlt : Nat := 4

/-- Band and queue of a requester: the queue of the tile's task or of the DMA engine's front packet; the
dispatcher's own reads rank as REALTIME (R423). -/
def State.whoQueue (s : State) (who : Nat) : Option Nat :=
  if who < 64 then (s.tile who).task.map (·.1)
  else if who < 66 then (s.dmaQueue (who - 64)).head?.map (·.1) else none

def State.whoBand (s : State) (who : Nat) : Nat := match s.whoQueue who with
  | some q => (s.queue q).band
  | none => 0

/-- The DMA engine's front packet only hints (R427). -/
def State.whoHints (s : State) (who : Nat) : Bool :=
  decide (64 ≤ who) && decide (who < 66) && (match (s.dmaQueue (who - 64)).head? with
    | some (q, i) => (match (s.queue q).pkt i with
      | some p => opOf p.raw == 0x32 || opOf p.raw == 0x33
      | none => false)
    | none => false)

/-- Virtual address bits above those that levels `level` and below index (R413). -/
def walkPrefix (va level : Nat) : Nat := bits va 47 (12 + 9 * level)

/-- Where a walk of an address begins: the deepest table that the walk cache supplies, else the root (R421). -/
def State.walkBegin (s : State) (cid va : Nat) : Nat × Nat × Bool × Bool :=
  let at_ := fun (lvl : Nat) => s.xlt.cache.find? fun (e : WalkEntry) =>
    e.cid == cid && e.level == lvl && e.prefix_ == walkPrefix va lvl
  match at_ 2 with
  | some e => (2, e.table, e.hw, e.ua)
  | none => match at_ 3 with
    | some e => (3, e.table, e.hw, e.ua)
    | none => (4, bits (s.ctx cid).transRoot 51 12 * 2 ^ 12, true, true)

/-- A walk is queued, or joined by one more requester (R421, R423): the higher band ranks it at once. -/
def State.queueWalk (s : State) (who cid va : Nat) : State :=
  let page := va / 2 ^ 21
  let band := s.whoBand who
  if s.xlt.walks.any fun (w : Walk) => w.cid == cid && w.page == page then
    { s with xlt := { s.xlt with walks := s.xlt.walks.map fun (w : Walk) =>
        if w.cid = cid ∧ w.page = page then
          { w with who := if w.who.contains who then w.who else w.who ++ [who], band := min w.band band }
        else w } }
  else
    let b := s.walkBegin cid va
    let w : Walk := { cid := cid, page := page, va := va, who := [who], band := band, order := s.xlt.order,
                      started := false, level := b.1, table := b.2.1, hw := b.2.2.1, ua := b.2.2.2, path := [] }
    { s with xlt := { s.xlt with walks := s.xlt.walks ++ [w], order := s.xlt.order + 1 } }

/-- A miss at XLT: segment mode translates at once (R418), table mode walks (R421). -/
def State.missLookup (s : State) (who cid va : Nat) (acc : Access) : State :=
  if (s.ctx cid).segments then
    match s.freshXlat cid va acc with
    | .ok x => (s.fillTlb2 cid x).fillTlb1 who cid x
    | .err _ => s
  else s.queueWalk who cid va

/-- The probe at XLT (R421). -/
def State.secondLookup (s : State) (who cid va : Nat) (acc : Access) : State :=
  match s.xlt.tlb2.find? (·.hits cid va) with
  | some e =>
    if e.grants acc then s.fillTlb1 who cid ⟨e.va, e.pa, e.bits, e.r, e.w, e.a, 0, 0⟩
    else
      let s := { s with xlt := { s.xlt with tlb2 := s.xlt.tlb2.filter fun (y : TlbEntry) => y != e } }
      State.missLookup s who cid va acc
  | none => State.missLookup s who cid va acc

/-- A lookup of a requester (R421, R422).  An entry of its first-level TLB that grants the right serves it; one
that does not is dropped, and so is such an entry of the second-level TLB; a miss is answered from the
segments of the context, or starts or joins a walk.  `acc` is the access. -/
def State.lookup (s : State) (who cid va : Nat) (acc : Access) : State :=
  if !(canonical va) then s
  else if !(ctxTranslates (s.ctx cid).st) then
    s.recordX (if who < 64 then uCLS (who / 4) else uXLT) xltStop cid (s.whoQueue who) ⟨0x06, 0, 0, 0, 0⟩
  else
    let l1 := Tab.get [] s.xlt.tlb1 who
    match l1.find? (·.hits cid va) with
    | some e =>
      if e.grants acc then
        { s with xlt := { s.xlt with tlb1 := s.xlt.tlb1.set who (e :: l1.filter fun (y : TlbEntry) => y != e) } }
      else
        let s := { s with xlt := { s.xlt with tlb1 := s.xlt.tlb1.set who (l1.filter fun (y : TlbEntry) => y != e) } }
        s.secondLookup who cid va acc
    | none => s.secondLookup who cid va acc

/-- A first-level TLB miss reaches XLT (R421, R422). -/
def execXltLookup (who : BitVec 8) (cid : BitVec 10) (va : BitVec 64) (acc : Access) (s : State) : Out :=
  whenLive pdXlt s fun s => .next (s.lookup who.toNat cid.toNat va.toNat acc)

/-! ## Walks (R415, R421-R424) -/

/-- The context's walk weir is in debt (R424). -/
def State.walkDebt (s : State) (cid : Nat) : Bool :=
  s.xlt.rate != 0 && (s.ctx cid).walks == 0

/-- Walk `a` is taken before walk `b` (R423). -/
def State.walkBefore (s : State) (a b : Walk) : Bool :=
  if s.walkDebt a.cid != s.walkDebt b.cid then !(s.walkDebt a.cid)
  else if a.band ≠ b.band then decide (a.band < b.band)
  else decide (a.order < b.order)

/-- The pending walk that a free walker takes first (R423). -/
def State.nextWalk (s : State) : Option Walk :=
  s.xlt.walks.foldl (fun (m : Option Walk) (w : Walk) =>
    if w.started then m else match m with
      | none => some w
      | some v => if s.walkBefore w v then some w else m) none

/-- A free walker takes the first pending walk (R423, R424): one of 16; the walk counts, for its context too (R686), takes
one from the context's weir, and counts in THROTTLED when the context is in debt. -/
def State.startWalk (s : State) : State :=
  if 16 ≤ (s.xlt.walks.filter fun (w : Walk) => w.started).length then s
  else match s.nextWalk with
    | none => s
    | some w =>
      let s := if s.walkDebt w.cid then s.sat Reg.XLT_COUNTS_THROTTLED 1 else s
      let c := s.ctx w.cid
      let s := ((s.setCtx w.cid { c with walks := c.walks - 1 }).sat Reg.XLT_COUNTS_WALKS 1).countFor w.cid
        fun p => { p with walks := p.walks + 1 }
      { s with xlt := { s.xlt with walks := s.xlt.walks.map fun (y : Walk) =>
          if y.order = w.order then { y with started := true } else y } }

/-- A walker starts a walk (R423). -/
def execWalkStart (s : State) : Out := whenLive pdXlt s fun s => .next s.startWalk

/-- The walk is over: it leaves XLT. -/
def State.endWalk (s : State) (w : Walk) : State :=
  { s with xlt := { s.xlt with walks := s.xlt.walks.filter fun (y : Walk) => y.order != w.order } }

/-- A walk-cache entry entered; of 256 others a free value names the one that goes (R420, log entry 3). -/
def State.fillCache (s : State) (e : WalkEntry) : State :=
  let others := s.xlt.cache.filter fun (y : WalkEntry) =>
    !(y.cid == e.cid && y.level == e.level && y.prefix_ == e.prefix_)
  if others.length < 256 then { s with xlt := { s.xlt with cache := e :: others } }
  else
    let gone := others.drop (s.freeVal 8) |>.head?
    ({ s with xlt := { s.xlt with cache := e :: others.filter fun (y : WalkEntry) => some y != gone } }).tookFree

/-- A table read of a walk is refused or uncorrectable (R415 order 1, R427): fault 0x06 and the loss of the
context, but for an engine that only hints. -/
def State.walkFailed (s : State) (w : Walk) (ea : Nat) : State :=
  let e : XErr := ⟨0x06, ea % 2 ^ 52 + w.level * 2 ^ 52, w.level, 0, ea⟩
  let who := w.who.headD 255
  let s := s.endWalk w
  if w.who.all s.whoHints then s.sat Reg.XLT_COUNTS_HINT_SKIPPED 1
  else s.loseX uXLT xltStop w.cid (s.whoQueue who) e

/-- A walk ends in a translation (R415 order 5, R421): it fills the second-level TLB, the walk cache and the
first-level TLB of every requester, whatever rights it grants (R422). -/
def State.walkOk (s : State) (w : Walk) (x : Xlat) : State :=
  let s := (s.endWalk w).fillTlb2 w.cid x
  let s := w.path.foldl (fun s e => s.fillCache e) s
  w.who.foldl (fun s who => s.fillTlb1 who w.cid x) s

/-- The entry as read decides (R415). -/
def State.walkEntry (s : State) (w : Walk) (e : Nat) : State :=
  let ty := bits e 2 1
  let hw := w.hw && bitAt e 3
  let ua := w.ua && bitAt e 4
  if !(bitAt e 0) || ty == 0 || ty == 3 || (ty == 2 && w.level == 4) then s.endWalk w
  else if ty == 1 then
    if w.level ≤ 2 then s.endWalk w
    else
      let t := bits e 51 12 * 2 ^ 12
      let c : WalkEntry := ⟨w.cid, w.level - 1, walkPrefix w.va (w.level - 1), t, hw, ua⟩
      { s with xlt := { s.xlt with walks := s.xlt.walks.map fun (y : Walk) =>
          if y.order = w.order then
            { y with level := w.level - 1, table := t, hw := hw, ua := ua, path := y.path ++ [c] }
          else y } }
  else if !ua || !(bitAt e 53) then s.endWalk w
  else
    let n := 12 + 9 * (w.level - 1)
    s.walkOk w ⟨w.va / 2 ^ n * 2 ^ n, bits e 51 n * 2 ^ n, n, true, hw, hw && bitAt e 54, w.level, e⟩

/-- One page-table entry of a started walk is read (R413-R416, R421).  A walk that ends in orders 2 to 4 enters
nothing; the fault falls on its requesters at their own accesses (R422, R427). -/
def State.walkRead (s : State) (w : Walk) (ecc : EccEnd) : State :=
  let ea := w.table + 8 * bits w.va (12 + 9 * w.level - 1) (12 + 9 * (w.level - 1))
  if !(s.ownerOk w.cid ea false) || s.keyAbsent ea then s.walkFailed w ea
  else match ecc with
    | .uncorrectable => s.walkFailed w ea
    | .clean => s.walkEntry w (s.physLe ea 8)
    | .corrected => s.walkEntry w (s.physLe ea 8)

/-- A page-table entry read returns (R415): `cid` and `va` name the walk. -/
def execWalkRead (cid : BitVec 10) (va : BitVec 64) (ecc : EccEnd) (s : State) : Out :=
  whenLive pdXlt s fun s => .next <|
    match s.xlt.walks.find? fun (w : Walk) => w.started && w.cid == cid.toNat && w.page == va.toNat / 2 ^ 21 with
    | none => s
    | some w => s.walkRead w ecc

/-- The walk weir of each context that is not FREE gains RATE walks up to BURST (R424), once in each 10,000 t of XLT's count; the
RATE and BURST that XLT_WALK_WEIR holds now apply from this boundary (R457). -/
def execWalkWeirRefill (s : State) : Out :=
  whenLive pdXlt s fun s =>
    let now := s.time (copyNi xltStop)
    let x := s.xlt
    .next <| if now / 10000 = max x.refillAt (s.dom pdXlt).since / 10000 then s
      else
        let rate := s.get Reg.XLT_WALK_WEIR_RATE
        let burst := atLeast1 (s.get Reg.XLT_WALK_WEIR_BURST)
        { s with
          xlt := { x with refillAt := now, rate := rate, burst := burst }
          ctxs := s.ctxs.map fun e =>
            if e.2.st = .free then e else (e.1, { e.2 with walks := min burst (e.2.walks + rate) }) }

/-! ## Invalidation (R425) -/

/-- A write to XLT_INVAL: the next sequence number, the CID's entries dropped and its walks restarted from the
root; a 17th one pending is ignored and sets INVAL_OVERRUN. -/
def State.invalidate (s : State) (cid : Nat) : State :=
  if 16 ≤ s.xlt.invals.length then s.put Reg.XLT_STATUS_INVAL_OVERRUN 1
  else
    let s := (s.wrap Reg.XLT_INVAL_SEQ_SEQ 1).invalCid cid
    let root := bits (s.ctx cid).transRoot 51 12 * 2 ^ 12
    let ws := s.xlt.walks.map fun (w : Walk) =>
      if w.cid = cid then { w with level := 4, table := root, hw := true, ua := true, path := [] } else w
    { s with xlt := { s.xlt with walks := ws, invals := s.xlt.invals ++ [(s.get Reg.XLT_INVAL_SEQ_SEQ, cid)] } }

def execXltInval (value : BitVec 32) (s : State) : Out :=
  whenLive pdXlt s fun s => .next (s.invalidate (value.toNat % 1024))

/-- The oldest invalidation completes (R425 steps 3 and 4): every request translated under a dropped entry has
been accepted. -/
def execInvalidateComplete (s : State) : Out :=
  whenLive pdXlt s fun s => .next <| match s.xlt.invals with
    | [] => s
    | (n, _) :: r => ({ s with xlt := { s.xlt with invals := r } }).put Reg.XLT_INVAL_DONE_SEQ n

/-! ## The driver's answers (R429, R431, R454-R456) -/

def frDone : Nat := 0
def frStale : Nat := 1
def frBadOpcode : Nat := 2

def State.faultResult (s : State) (r : Nat) : State := s.put Reg.XLT_FAULT_RESULT_RESULT r

/-- The live suspension of a token. -/
def State.suspOf (s : State) (tok : Nat) : Option Susp := s.xlt.susp.find? fun (x : Susp) => x.token == tok

/-- The suspension leaves XLT, its token free; entries behind it may now be written (R429). -/
def State.freeSusp (s : State) (tok : Nat) : State :=
  ({ s with xlt := { s.xlt with susp := s.xlt.susp.filter fun (x : Susp) => x.token != tok } }).fqServe

/-- The run that a suspension names. -/
def State.suspRun (s : State) (x : Susp) : Option Run :=
  ((s.queue x.qid).pkt x.index).bind fun p => p.runs.find? fun (r : Run) => r.inst == x.inst

/-- RESUME of a task or DMA packet (R431): a switched-out task returns to the pool, a task suspended on its tile
reissues its barges there, a DMA packet continues from where it stopped. -/
def State.resumeSusp (s : State) (x : Susp) : State :=
  if 64 ≤ x.unit then s.updPkt x.qid x.index fun p => { p with token := none }
  else match s.suspRun x with
    | none => s
    | some r => match r.place with
      | .heldInSlot p k =>
        s.updPkt x.qid x.index fun (y : Pkt) => { y with runs := y.runs.map fun (z : Run) =>
          if z.inst = r.inst then { z with place := .inPool p k, entry := s.disp.cycle + 1 } else z }
      | .onTile t =>
        let s := s.updPkt x.qid x.index fun (y : Pkt) => { y with runs := y.runs.map fun (z : Run) =>
          if z.inst = r.inst then { z with since := s.time t } else z }
        let s := s.updTile t fun (y : Tile) =>
          { y with core := if y.core = .suspended then .running else y.core,
                   barges := y.barges.map fun (b : Barge) => { b with faulted := false } }
        s.setDtile t { s.dtile t with st := .running }
      | .saving _ _ _ => s
      | .inPool _ _ => s
      | .loading _ _ _ => s

/-- KILL of a task or DMA packet (R431): it ends with fence error carrying the fault's code. -/
def State.killSusp (s : State) (x : Susp) : State :=
  let e := PktEnd.error x.code (if 64 ≤ x.unit then uDMA (x.unit - 64) else uCLS (x.unit / 4)) (some x.fault)
  if 64 ≤ x.unit then
    s.dmaLeave (x.unit - 64) x.qid x.index fun p => Pkt.finish e { p with token := none }
  else match s.suspRun x with
    | none => s
    | some r => (s.updPkt x.qid x.index fun p => { p with noMore := true }).abortRun x.qid x.index r e

/-- XLT_FAULT_CMD RESUME (R431, R456). -/
def execResume (token : BitVec 16) (s : State) : Out :=
  whenLive pdXlt s fun s => .next <| match s.suspOf token.toNat with
    | none => s.faultResult frStale
    | some x => ((s.freeSusp token.toNat).resumeSusp x).faultResult frDone

/-- XLT_FAULT_CMD KILL (R431, R456). -/
def execKill (token : BitVec 16) (s : State) : Out :=
  whenLive pdXlt s fun s => .next <| match s.suspOf token.toNat with
    | none => s.faultResult frStale
    | some x => ((s.freeSusp token.toNat).killSusp x).faultResult frDone

/-- A write to XLT_FQ_BASE (R429, R454): HEAD and TAIL return to 0, FQ_BROKEN clears, and the entry whose write
failed, then every other entry not yet written, goes to the new queue. -/
def execFqBaseWrite (value : BitVec 64) (s : State) : Out :=
  whenLive pdXlt s fun s =>
    let s := (s.put Reg.XLT_FQ_BASE_BASE (bits value.toNat 51 12)).put Reg.XLT_FQ_BASE_SIZE_LOG2 (bits value.toNat 3 0)
    let s := ((s.put Reg.XLT_FQ_HEAD_INDEX 0).put Reg.XLT_FQ_TAIL_INDEX 0).put Reg.XLT_STATUS_FQ_BROKEN 0
    .next ({ s with xlt := { s.xlt with failed := none } }).fqServe

/-- A write to XLT_FQ_HEAD (R429, R455): held entries are written as the queue has room. -/
def execFqHeadWrite (value : BitVec 32) (s : State) : Out :=
  whenLive pdXlt s fun s => .next (s.put Reg.XLT_FQ_HEAD_INDEX value.toNat).fqServe

end Sys2Proof.Machine
end

