-- ==== Sys2Proof/Machine/Domains.lean ====
section
/-! DEFINITION. Power domains as every chapter uses them: their states and trace records (R33, R97, R687), units
in stoppage (R698, R699), what a domain loses when it is switched off (R93), the flight sequencer's start of a
domain and the outcome of a failed step (R60-R69, R711), and the end of work on units that close. -/

namespace Sys2Proof.Machine

/-! ## Towpath -/

/-- What a command does to the towpath and the management units behind it: PD1 must be open (R49). -/
def whenTow (s : State) (f : State → Out) : Out := whenLive 1 s f

/-- Does a write of `src` reach the registers that PD0 serves (R70, R650)? -/
def State.srcReaches (s : State) : Source → Bool
  | .host => s.domLive 1 && s.domLive 5
  | .mgmt => true
  | .jtag => s.domLive 1 && s.on Reg.KPR_DEBUG_JTAG_EN

/-! ## Trace records (R687, R688) -/

/-- An event reaches the trace unit: KINDS and the CID filter select it, and one of 16 places takes it. -/
def State.trace (s : State) (kind unit : Nat) (cid : Option Nat) (data stamp : Nat) : State :=
  let other := match cid with
    | some c => s.on Reg.MON_TRACE_CTRL_CID_EN && c != s.get Reg.MON_TRACE_CTRL_CID
    | none => false
  if !(s.domLive 1) || !(s.on Reg.MON_TRACE_CTRL_EN) || s.conc.traceStop || other ||
      !(bitAt (s.get Reg.MON_TRACE_CTRL_KINDS) (kind - 1)) then s
  else if s.conc.trace.length < 16 then
    { s with conc := { s.conc with trace := s.conc.trace ++ [⟨stamp, kind, unit, cid, data⟩] } }
  else s.sat Reg.MON_DROPS_TRACE_DROP 1

/-- What the dispatcher does as a cluster's domain changes: a demand for one that opens stands no longer (R243), and the claims
on the tiles of one that begins to close end (R266). -/
def State.clusterTurns (s : State) (d : Nat) (st : DomSt) : State :=
  if d < 12 then s
  else if st = .opened then
    { s with disp := { s.disp with demands := s.disp.demands.filter (·.1 != d - 12) } }
  else if st = .closing then s.endClaims fun t _ => t / 4 == d - 12
  else s

/-- The state of a domain changes, with its trace record (R97, R687); its step limits count from here (R66). -/
def State.setSt (s : State) (d : Nat) (st : DomSt) : State :=
  if (s.dom d).st = st then s
  else
    let s := s.clusterTurns d st
    (s.setDom d { s.dom d with st := st, since := s.gtc }).trace 6 uSEQ none (d + domCode st * 256) s.gtc

/-- The alarm latch holds A3 (R659): only a cold power-up clears it (R662). -/
def State.alarmed (s : State) : Bool := s.get Reg.KPR_STATE_LEVEL == 3

/-! ## Step limits (R61, R66, R67) -/

/-- Ramp time of a domain's switch (R61). -/
def rampTime (d : Nat) : Nat := match d with
  | 1 => 50
  | 2 => 50
  | 5 => 150
  | 10 => 150
  | 8 => 50
  | 11 => 20
  | _ => if 12 ≤ d then 150 else 100

/-- Ticks since the domain's present step began. -/
def State.elapsed (s : State) (d : Nat) : Nat := s.gtc - (s.dom d).since

/-- A step's limit has been reached; limits are suspended under the SPILL_N clamp (R66, R94). -/
def State.late (s : State) (d limit : Nat) : Bool := !s.power.clamp && decide (limit ≤ s.elapsed d)

/-- A step can still pass. -/
def State.inLimit (s : State) (d limit : Nat) : Bool := s.power.clamp || decide (s.elapsed d ≤ limit)

/-- Limit of CLOCK_WAIT (R66): a lock, or PD10's training after its lock. -/
def State.clockLimit (s : State) (d : Nat) : Nat := if (s.dom d).trainDue then 10000 else 2000

/-- The steps under way have stood still for `n` ticks (R94). -/
def State.shiftSteps (s : State) (n : Nat) : State :=
  { s with doms := s.doms.map fun (e : Nat × Dom) => match e.2.st with
    | .railWait => (e.1, { e.2 with since := e.2.since + n })
    | .ramping => (e.1, { e.2 with since := e.2.since + n })
    | .clockWait => (e.1, { e.2 with since := e.2.since + n })
    | .scrub => (e.1, { e.2 with since := e.2.since + n })
    | .closed => e
    | .opened => e
    | .closing => e
    | .stoppage => e
    | .disabled => e
    | .retryWait => e }

/-! ## Pins that the engine drives -/

/-- A change of a PWR_PIN_STATUS field or of a thermal bit writes the vector of PWR_PIN_CFG (R728, R754). -/
def State.pinEvent (s : State) : State := s.eventIf Reg.PWR_PIN_CFG_EN Reg.PWR_PIN_CFG_VEC

/-- ALARM_OUT_N follows the latch: A3, or, while RESET_N is high, a quarantine with PIN_ON_A2 (R661, R662, R736). -/
def State.alarmPin (s : State) : State :=
  { s with pins := { s.pins with
      alarmOut := s.get Reg.KPR_STATE_LEVEL == 3 ||
        (s.pins.resetN && s.get Reg.KPR_STATE_QUARANTINE != 0 && s.on Reg.KPR_ALARM_POLICY_PIN_ON_A2) } }

/-! ## Engine state and service bits (R56, R699, R725) -/

/-- ENG_STATE takes a value; READY and DEGRADED stamp PWR_READY_STAMP (R102). -/
def State.setEng (s : State) (v : Nat) : State :=
  let s := s.put Reg.ENG_STATE_STATE v
  if v = engReady ∨ v = engDegraded then s.put Reg.PWR_READY_STAMP_READY_T s.gtc else s

/-- Bit of a unit in the unit layout (R698, R725). -/
def unitBit (kind index : Nat) : Nat := match kind with
  | 1 => index
  | 2 => 16 + index
  | 3 => 18 + index
  | 4 => 22 + index
  | _ => 28

/-- The stoppable unit that a domain closes as a whole (R698). -/
def unitOfDom (d : Nat) : Option (Nat × Nat) :=
  if d = 6 then some (2, 0) else if d = 7 then some (2, 1) else if d = 11 then some (5, 0)
  else if 12 ≤ d then some (1, d - 12) else none

def State.inStoppage (s : State) (kind index : Nat) : Bool :=
  bitAt (s.get Reg.PWR_SERVICE_STOPPED) (unitBit kind index)

def State.byFailure (s : State) (kind index : Nat) : Bool :=
  bitAt (s.get Reg.PWR_SERVICE_BY_FAILURE) (unitBit kind index)

/-- ENG_STATE follows BY_FAILURE while the engine is ready (R77, R699). -/
def State.followFailures (s : State) : State :=
  if s.eng = engReady ∧ s.get Reg.PWR_SERVICE_BY_FAILURE ≠ 0 then s.setEng engDegraded
  else if s.eng = engDegraded ∧ s.get Reg.PWR_SERVICE_BY_FAILURE = 0 then s.setEng engReady
  else s

/-- A unit enters stoppage, by failure or otherwise (R699). -/
def State.enterStop (s : State) (kind index : Nat) (failure : Bool) : State :=
  let b := unitBit kind index
  let s := s.put Reg.PWR_SERVICE_STOPPED (setBit (s.get Reg.PWR_SERVICE_STOPPED) b true)
  let s := s.put Reg.PWR_SERVICE_BY_FAILURE (setBit (s.get Reg.PWR_SERVICE_BY_FAILURE) b failure)
  s.followFailures

/-- A unit returns to service (R709 step 5). -/
def State.leaveStop (s : State) (kind index : Nat) : State :=
  let b := unitBit kind index
  let s := s.put Reg.PWR_SERVICE_STOPPED (setBit (s.get Reg.PWR_SERVICE_STOPPED) b false)
  let s := s.put Reg.PWR_SERVICE_BY_FAILURE (setBit (s.get Reg.PWR_SERVICE_BY_FAILURE) b false)
  s.followFailures

/-! ## Rails and remote sense (R561-R565) -/

/-- The rail of a domain (R33, R561). -/
def railOf (d : Nat) : Nat := if d = 0 ∨ d = 11 then 17 else if d = 9 then 18 else if 12 ≤ d then d - 12 else 16

def railSense (r : Nat) : Fld := if r < 16 then Reg.PWR_RAIL_STATUS_SENSE r else Reg.PWR_RAIL_STATUS16_SENSE (r - 16)
def railCrack (r : Nat) : Fld := if r < 16 then Reg.PWR_RAIL_STATUS_CRACK r else Reg.PWR_RAIL_STATUS16_CRACK (r - 16)
def railNoTel (r : Nat) : Fld := if r < 16 then Reg.PWR_RAIL_STATUS_NO_TEL r else Reg.PWR_RAIL_STATUS16_NO_TEL (r - 16)
def railVdie (r : Nat) : Fld := if r < 16 then Reg.PWR_RAIL_STATUS_V_DIE r else Reg.PWR_RAIL_STATUS16_V_DIE (r - 16)
def railExcess (r : Nat) : Fld := if r < 16 then Reg.PWR_RAIL_STATUS_EXCESS r else Reg.PWR_RAIL_STATUS16_EXCESS (r - 16)

def State.rail (s : State) (r : Nat) : Rail := Tab.get Rail.reset s.power.rails r

def State.setRail (s : State) (r : Nat) (x : Rail) : State :=
  { s with power := { s.power with rails := s.power.rails.set r x } }

def State.clus (s : State) (c : Nat) : Clus := Tab.get Clus.reset s.power.clus c

def State.setClus (s : State) (c : Nat) (x : Clus) : State :=
  { s with power := { s.power with clus := s.power.clus.set c x } }

/-- A set voltage is posted for cluster rail `c` (R588): PWR_VREQ, PEND, and the notice that PWR_VREQ_CFG names, which
a stuck MGMT bus cannot carry (R720). -/
def State.postVolt (s : State) (c mv : Nat) : State :=
  let r := s.rail c
  let s := s.setRail c { r with mv := mv, prev := r.mv, setAt := s.gtc }
  if !(s.domLive 1) then s
  else
    let s := (s.put (Reg.PWR_VREQ_MV c) mv).wrap (Reg.PWR_VREQ_SEQ c) 1
    let s := s.put Reg.PWR_VREQ_PEND_RAILS (setBit (s.get Reg.PWR_VREQ_PEND_RAILS) c true)
    if s.on Reg.PWR_VREQ_CFG_NOTIFY then s.event (s.get Reg.PWR_VREQ_CFG_VEC)
    else if s.on Reg.PWR_PIN_STATUS_MGMT_STUCK then s
    else { s with host := { s.host with ibi := s.host.ibi ++ [s.get Reg.PWR_VREQ_PEND_RAILS] } }

/-- Another open domain already runs from the same supply (R60). -/
def State.supplied (s : State) (d : Nat) : Bool :=
  (List.range 28).any fun e => e != d && railOf e == railOf d && s.domOpen e

/-- A sense pair is found faulty (R563-R565): the switch opens, 1 OPEN or 2 REVERSED, fault 0x52; a cluster rail's
CEILING falls to OP4. -/
def State.senseFault (s : State) (r v : Nat) : State :=
  let s := (s.put (railSense r) v).setRail r { s.rail r with sensed := false, openRun := 0 }
  let s := s.fault 0x52 uPWR srcNone (r + b2n (v == 2) * 256)
  if r < 16 then
    s.put (Reg.PWR_RAIL_STATUS_CEILING r) (min 4 (s.get (Reg.PWR_RAIL_STATUS_CEILING r)))
  else s

/-- The check of RAIL_WAIT on a rail with a sense pair (R563): `rise` is the rail's rise above its set point in
mV once the switch is closed; more than 3 % of it marks the pair REVERSED.  A pair already found faulty
stays open (R565). -/
def State.senseCheck (s : State) (r rise : Nat) : State :=
  if 16 < r ∨ s.get (railSense r) = 1 ∨ s.get (railSense r) = 2 then s
  else
    let mv := if r = 16 then 750 else max (s.rail r).mv 600
    if 3 * mv < 100 * rise then s.senseFault r 2
    else (s.put (railSense r) 0).setRail r { s.rail r with sensed := true, openRun := 0 }

/-! ## Which domain holds a register (R27, R46, R70) -/

/-- Domain of the register at an aperture offset; 28 where none is. -/
def regDom (o : Nat) : Nat :=
  let b := o / 2 ^ 16
  if b = 0x100 then (if o = Reg.ENG_STATE then 0 else 1)
  else if b = 0x101 ∨ b = 0x102 then 3
  else if b = 0x103 ∨ b = 0x104 then 4
  else if b = 0x105 then 5
  else if b = 0x106 then 8
  else if b = 0x107 then (if o < 0x01070100 then 0 else 1)
  else if b = 0x108 ∨ b = 0x10B ∨ b = 0x10C ∨ b = 0x10D then 1
  else if b = 0x109 then 2
  else if b = 0x10A then 0
  else if 0x200 ≤ b ∧ b < 0x240 then 12 + (b - 0x200) / 4
  else 28

/-- A register of a guarded setting: some field of it is RWL (R636). -/
def guardedOff (o : Nat) : Bool := match regAt o with
  | some r => r.fields.any (·.ty == .RWL)
  | none => false

/-- Register fields that outlive the domain that shows them (R93, R646, R658-R669, R675): the guarded settings, the
alarm latch, the class generations and identity, the fault log's pointers, the energy count and phase
tables, fused values and the step mark of the GTC. -/
def survives (o lo : Nat) : Bool :=
  guardedOff o ||
    (o == 0x01092000 && (lo == 16 || lo == 10)) || (decide (0x01092004 ≤ o) && decide (o < 0x01092020)) ||
    o == Reg.KPR_ALARM_COUNTS || o == Reg.KPR_KEY_USE || (decide (0x01092200 ≤ o) && decide (o < 0x01092240)) ||
    o == Reg.ERR_LOG_SEQ || o == Reg.ERR_LOG_READ || o == Reg.ERR_LOG_OVF || o == Reg.PWR_ENERGY ||
    (decide (0x01070500 ≤ o) && decide (o < 0x010705A0)) || (decide (0x01078000 ≤ o) && decide (o < 0x0107C000)) || o == Reg.CLK_GTC_STATUS ||
    (decide (0x02000000 ≤ o) && decide (o % 0x40000 = 0x8000))

/-- Registers that watch standby keeps in place beside the save region (log entry 31): the object engine's. -/
def keptInStandby (o : Nat) : Bool := o / 2 ^ 16 == 0x102

/-- The registers of a domain return to their reset values, but for those that outlive it. -/
def State.closeRegs (s : State) (standby : Bool) (d : Nat) : State :=
  { s with regs := s.regs.drop fun k => regDom (k / 64) == d && !(survives (k / 64) (k % 64)) &&
      !(standby && keptInStandby (k / 64)) }

/-! ## What a domain loses when it is switched off (R93) -/

/-- A cluster's tiles, first-level TLBs and the dispatcher's view of them. -/
def State.clearCluster (s : State) (c : Nat) : State :=
  (List.range 4).foldl (fun s k =>
    let t := 4 * c + k
    let s := (s.setTile t Tile.reset).setDtile t DTile.reset
    { s with xlt := { s.xlt with tlb1 := s.xlt.tlb1.set t [] } }) s

/-- Slice of the basin that holds a cached line (R440). -/
def lineSlice (a : Nat) : Nat := (a / 64 % 16) ^^^ (a / 1024 % 16)

/-- Basin half 0 or 1 loses its lines and its share of the carve-outs (R703). -/
def State.clearHalf (s : State) (h : Nat) : State :=
  { s with basin :=
      ⟨s.basin.lines.filter fun l => lineSlice l.1 / 8 != h, s.basin.scratch.wipe (h * 2 ^ 24) (2 ^ 24)⟩ }

/-- A wake report. -/
def isWake : Report → Bool
  | .wake _ _ => true
  | .fault _ => false
  | .demand _ => false
  | .phase _ _ => false
  | .samplePart _ => false
  | .sampleCtx _ => false
  | .sampleProbe _ _ => false
  | .sampleLink _ _ => false
  | .sampleActivity _ _ => false

/-- The concentrator without what it had not yet entered in the log; the always-on entry and the wake controller lie
in PD0. -/
def Conc.closed (c : Conc) : Conc :=
  { Conc.reset with inbox := (c.inbox ++ c.fifo ++ c.held ++ c.sent).filter isWake, aonSeq := c.aonSeq, aonOther := c.aonOther, nextId := c.nextId, seqOf := c.seqOf,
                    unread := c.unread, log := c.log }

/-- The Keeper after PD2 closed: its stores stay, its mailboxes and proposals go. -/
def Keeper.closed (k : Keeper) : Keeper :=
  { k with props := [], nonces := [], fails := [], lockEnd := none, applying := none, jtag := [], waiting := [],
           lapsed := [] }

/-- Domain that holds a GTC copy (R27, R45). -/
def copyDom (k : Nat) : Nat :=
  if k < 64 then clDom (k / 4)
  else if 100 ≤ k ∧ k < 136 then stopDom (k - 100)
  else if k = copyDsp then 3 else if k = copyTow then 1 else if k = copyMem then 10
  else if 210 ≤ k ∧ k < 216 then 9 else 0

/-- The copies of a domain are loaded afresh when it opens again (R60). -/
def State.dropCopies (s : State) (d : Nat) : State :=
  let p := fun (k : Nat) => copyDom k == d
  { s with copies := { s.copies with off := s.copies.off.drop p, hold := s.copies.hold.filter (!p ·),
                                     stale := s.copies.stale.filter (!p ·) } }

/-- Domain `d` is switched off: what its units hold is lost, but for what R93 keeps; `standby`: the contexts and the
packets that queues hold stay (log entry 31), and what R83 names comes back from the save region. -/
def State.closeFx (s : State) (standby : Bool) (d : Nat) : State :=
  let s := (s.closeRegs standby d).dropCopies d
  let s := if 12 ≤ d then
      let x := s.clus (d - 12)
      ((((s.clearCluster (d - 12)).setClus (d - 12) { Clus.reset with
        shortfalls := x.shortfalls, exhausted := x.exhausted, ageAt := x.ageAt }).put (Reg.PWR_CL_OP_OP (d - 12)) 0).put
        (Reg.PWR_CL_OP_LIMIT (d - 12)) 15).postVolt (d - 12) 0
    else match d with
    | 1 => { s with conc := s.conc.closed, mon := Mon.reset, power := { Power.reset with
        clus := s.power.clus, rails := s.power.rails, clamp := s.power.clamp, spillAt := s.power.spillAt,
        spillLen := s.power.spillLen, spillRec := s.power.spillRec, energyRem := s.power.energyRem,
        stuckCap := s.power.stuckCap, clampAt := s.power.clampAt } }
    | 2 => { s with keeper := s.keeper.closed, mail := Mail.reset }
    | 3 => if standby then { s with waiters := [], disp := { s.disp with
               on := false, pick := none, handovers := [], demands := [], cancels := [], slots := [], tiles := [] } }
           else { s with ctxs := [], groups := [], queues := [], waiters := [], disp := Disp.reset }
    | 4 => { s with xlt := Xlt.reset }
    | 5 => { s with mesh := Mesh.reset, host := { s.host with events := [], places := [], withheld := [] } }
    | 6 => s.clearHalf 0
    | 7 => s.clearHalf 1
    | 8 => { s with link := Link.reset }
    | 9 => { s with link := { s.link with ports := [] } }
    | _ => s
  if (railOf d < 17) && s.get (railSense (railOf d)) == 0 && !(s.supplied d) then
    (s.put (railSense (railOf d)) 3).setRail (railOf d) { s.rail (railOf d) with sensed := false }
  else s

/-- Domain `d` is switched off and reads `st`. -/
def State.switchOff (s : State) (standby : Bool) (d : Nat) (st : DomSt) : State :=
  let x := s.dom d
  let s := s.setDom d { x with ramp := .none, trainDue := false, ready := false }
  (s.setSt d st).closeFx standby d

/-- The frame sequencer has no capture under way: SEQ_STATE reads IDLE (R114, R142). -/
def State.dropCapture (s : State) : State :=
  ({ s with island := { s.island with capture := none } }).put Reg.WAT_STATUS_SEQ_STATE 0

/-- Several domains are switched off in an order; those in stoppage or disabled keep that state. -/
def State.switchOffAll (s : State) (standby : Bool) (ds : List Nat) : State :=
  ds.foldl (fun s d =>
    let s := if d = 11 ∧ (s.dom d).st != .closed then s.dropCapture else s
    match (s.dom d).st with
    | .stoppage => s
    | .disabled => s
    | .closed => s
    | .railWait => (s.switchOff standby d .closed).setDom d Dom.reset
    | .ramping => (s.switchOff standby d .closed).setDom d Dom.reset
    | .clockWait => (s.switchOff standby d .closed).setDom d Dom.reset
    | .scrub => (s.switchOff standby d .closed).setDom d Dom.reset
    | .opened => (s.switchOff standby d .closed).setDom d Dom.reset
    | .closing => (s.switchOff standby d .closed).setDom d Dom.reset
    | .retryWait => (s.switchOff standby d .closed).setDom d Dom.reset) s

/-- The flight order (R61); clusters follow in ascending number. -/
def flightOrder : List Nat := [1, 2, 5, 3, 4, 10, 6, 7, 8, 9]

/-- Clusters' domains, ascending. -/
def clusterDoms : List Nat := (List.range 16).map clDom

/-- Every domain but PD0, in the reverse of the flight order. -/
def reverseOrder : List Nat := [11] ++ clusterDoms.reverse ++ flightOrder.reverse

/-! ## Starting domains (R59-R66) -/

/-- PWR_FLIGHT_STATUS names the step under way (R96). -/
def State.note (s : State) (d step : Nat) : State :=
  if s.flight.running ∧ d ≠ 11 then
    ((s.put Reg.PWR_FLIGHT_STATUS_DOMAIN d).put Reg.PWR_FLIGHT_STATUS_STEP step).put
      Reg.PWR_FLIGHT_STATUS_ATTEMPT (s.dom d).attempt
  else s

/-- A domain starts at RAIL_WAIT, which completes at once where its supply already serves an open domain (R60). -/
def State.startDomain (s : State) (d : Nat) : State :=
  let s := { s with gates := s.gates.drop (· == d) }
  let s := s.setDom d { s.dom d with
    ramp := if s.supplied d then .pending else .none, trainDue := false, ready := false }
  let s := if 12 ≤ d then s.postVolt (d - 12) 600 else s
  (s.setSt d .railWait).note d 1

/-- Essential domains (R61). -/
def essential (d : Nat) : Bool := d == 1 || d == 2 || d == 3 || d == 4 || d == 5 || d == 10

/-- The flight may start the domain after `d` (R59, R64, R68): an essential one is OPEN, another has ended its ramp or
gone into stoppage. -/
def State.stepOver (s : State) (d : Nat) : Bool := match (s.dom d).st with
  | .opened => true
  | .stoppage => true
  | .disabled => true
  | .clockWait => !(essential d)
  | .scrub => !(essential d)
  | .closed => false
  | .railWait => false
  | .ramping => false
  | .closing => false
  | .retryWait => false

/-- The flight starts its next domain when the last one lets it.  A flight of an ALARMED die ends with its last domain
(R78). -/
def State.advance (s : State) : State :=
  let go : Bool := match s.flight.lastDom with
    | none => true
    | some d => s.stepOver d
  if s.flight.running ∧ !s.flight.heatWait ∧ s.get Reg.PWR_FLIGHT_STATUS_PHASE = 2 ∧ go then
    match s.flight.todo with
    | [] =>
      if s.alarmed then
        { s with flight := { s.flight with running := false, lastDom := none } }.put Reg.PWR_FLIGHT_STATUS_PHASE 5
      else s.put Reg.PWR_FLIGHT_STATUS_PHASE (if s.get Reg.PWR_FLIGHT_STATUS_KIND = 2 then 4 else 3)
    | d :: r => ({ s with flight := { s.flight with todo := r, lastDom := some d } }).startDomain d
  else s

/-! ## Failed steps (R66-R69, R711) -/

/-- Detail of a flight fault (R95). -/
def State.stepDetail (s : State) (d step : Nat) : Nat := d + step * 2 ^ 8 + (s.dom d).attempt * 2 ^ 16

/-- A fault record of the flight sequencer. -/
def State.seqFault (s : State) (code detail : Nat) : State := s.fault code uSEQ srcNone detail

/-- The flight fails: ENG_STATE reads FLIGHT_FAILED, and every domain the flight opened closes but PD0, PD1 and PD5 (R69).
PD11 is the island's to open (R62).  In the warm flight of an ALARMED die ENG_STATE stays ALARMED (R78, log entry 81). -/
def State.flightFailed (s : State) : State :=
  let s := { s with flight := { s.flight with running := false, todo := [], lastDom := none, images := [] } }
  let s := s.put Reg.PWR_FLIGHT_STATUS_PHASE 6
  let s := if s.alarmed then s else s.setEng engFailed
  s.switchOffAll false (reverseOrder.filter fun d => d != 1 && d != 5 && d != 11)

/-- The command of PWR_STOP_CMD or PWR_RESET_CMD under way ends with a result (R700, R724). -/
def State.endStop (s : State) (result : Nat) : State :=
  match s.stop with
  | none => s
  | some x =>
    let s := { s with stop := none }
    let s := ((s.put Reg.PWR_STOP_STATUS_BUSY 0).put Reg.PWR_STOP_STATUS_STEP 0).put Reg.PWR_STOP_STATUS_ATTEMPT 0
    if x.reset then s.put Reg.PWR_RESET_STATUS_BUSY 0 else s.put Reg.PWR_STOP_STATUS_RESULT result

/-- The unit that a reopening under way opens, if domain `d` is that unit's. -/
def State.reopening (s : State) (d : Nat) : Option StopCmd := match s.stop with
  | some x => if x.reopen ∧ unitOfDom d = some (x.kind, x.index) then some x else none
  | none => none

/-- A non-essential domain goes into stoppage by failure (R68, R711): PD8 or PD9 takes every link port with it. -/
def State.stopByFailure (s : State) (d step : Nat) : State :=
  let det := s.stepDetail d step
  let s := match s.reopening d with
    | some x => ((s.seqFault 0x50 (det + x.index * 2 ^ 24 + x.kind * 2 ^ 28)).endStop 0x0A)
    | none => s.seqFault 0x50 det
  let s := s.switchOff false d .stoppage
  let s := s.setDom d { s.dom d with attempt := 0 }
  let s := if d = 11 then s.dropCapture else s
  let s := if s.flight.running then
      s.put Reg.PWR_FLIGHT_STATUS_STOPPED (s.get Reg.PWR_FLIGHT_STATUS_STOPPED + 1) else s
  match unitOfDom d with
  | some (k, i) => s.enterStop k i true
  | none => (List.range 6).foldl (fun s i => if s.inStoppage 4 i then s else s.enterStop 4 i true) s

/-- Both route banks exclude a basin half that the flight stops (R715). -/
def State.excludeHalf (s : State) (h : Nat) : State :=
  (List.range 2).foldl (fun s e =>
    if h = 0 then (s.put (Reg.MSH_STOPMAP_BS0 e) 0x3F).put (Reg.MSH_STOPMAP_BS1 e) 0x3F
    else (s.put (Reg.MSH_STOPMAP_BS2 e) 0x3F).put (Reg.MSH_STOPMAP_BS3 e) 0x3F) s

/-- A step of domain `d` fails (R67-R69, R117, R711): retry after 100,000 t, stoppage, or FLIGHT_FAILED. -/
def State.failStep (s : State) (d step : Nat) : State :=
  let a := (s.dom d).attempt
  let s := s.note d step
  if a < 2 then
    let s := s.seqFault 0x57 (s.stepDetail d step)
    let s := s.switchOff false d .retryWait
    let s := s.setDom d { s.dom d with attempt := a + 1 }
    if (s.reopening d).isSome then s.put Reg.PWR_STOP_STATUS_ATTEMPT (a + 1) else s
  else if essential d then
    ((s.seqFault 0x51 (s.stepDetail d step)).switchOff false d .closed).flightFailed
  else
    let flight := s.flight.running
    let s := s.stopByFailure d step
    (if flight ∧ d = 6 then s.excludeHalf 0 else if flight ∧ d = 7 then s.excludeHalf 1 else s).advance

/-! ## Ending the work of units that close -/

/-- Every run that still stands on tile `t` leaves it with the outcome of its abort, else with `e`. -/
def State.evict (s : State) (t : Nat) (e : PktEnd) : State :=
  match s.holder t with
  | none => s
  | some (q, i, _, r) =>
    (s.updPkt q i fun p => { p with noMore := true }).leave t (r.abort.getD e)

/-- Every running task of the contexts that `p` names aborts with one record's outcome (R73, R660, R661). -/
def State.abortAll (s : State) (code unit : Nat) (rec_ : Option Nat) (p : Nat → Bool) : State :=
  s.queues.foldl (fun s e => e.2.pkts.foldl (fun s k =>
    if k.runs.isEmpty ∨ k.ended.isSome ∨ !(p k.cid) then s
    else s.abortPkt e.1 k.index (.error code unit rec_)) s) s

/-- The dispatcher stops dispatching (R73, R84). -/
def State.stopDispatch (s : State) : State := { s with disp := { s.disp with on := false, pick := none } }

/-- Every open domain that `p` names begins to close (R40): each reads CLOSING until its gate closes it. -/
def State.beginClose (s : State) (p : Nat → Bool) : State :=
  reverseOrder.foldl (fun s d => if p d ∧ s.domOpen d then s.gateAct d 2 fun s => s.setSt d .closing else s) s

/-- The domains that `p` names wind down (R73, R661, R752): one not yet OPEN is switched off, an OPEN one begins to
close. -/
def State.windDown (s : State) (p : Nat → Bool) : State :=
  (s.switchOffAll false (reverseOrder.filter fun d => p d && !(s.domLive d))).beginClose p

end Sys2Proof.Machine
end

