-- ==== Sys2Proof/Machine/Alarm.lean ====
section
/-! DEFINITION. The alarm (R658-R662): levels, quarantine and the erasure of keys, and the end of proposals that an
alarm brings.  One operation, `State.alarm`, raises every source. -/

namespace Sys2Proof.Machine

/-- The Keeper's mailbox `m` (0 HOST, 1 PLAT) completes a command (R665, R666). -/
def State.mbDone (s : State) (m result : Nat) : State :=
  let s := (s.put (Reg.KPR_MB_STATUS_RESULT m) result).put (Reg.KPR_MB_STATUS_BUSY m) 0
  s.eventIf (Reg.KPR_MB_CFG_EN m) (Reg.KPR_MB_CFG_VEC m)

def State.prop (s : State) (m : Nat) : Option Proposal := Tab.get none s.keeper.props m

/-- The proposal of mailbox `m` ends (R643): its PENDING bits clear. -/
def State.endProp (s : State) (m : Nat) : State :=
  let s := { s with keeper := { s.keeper with props := s.keeper.props.set m none } }
  (s.put (Reg.KPR_MB_STATUS_PENDING_OWN m) 0).put (Reg.KPR_MB_STATUS_PENDING_PEER (1 - m)) 0

/-- The quiesce orders of a commit are lifted (R642): fences with no owner other than the commit lift (R269). -/
def State.liftAll (s : State) : State := { s with disp := { s.disp with fences := [] } }

/-- Every proposal ends without being applied, a commit in its quiesce with them (R643, R670).  The RESULT that its
COUNTERSIGN then shows is left open (log entry 3). -/
def State.endProps (s : State) : State :=
  let s := match s.keeper.applying with
    | none => s
    | some m =>
      let s := { s with keeper := { s.keeper with applying := none } }
      ((s.mbDone m (s.freeVal 8)).tookFree).liftAll
  (s.endProp 0).endProp 1

/-- Alarm sources in the order of R658. -/
def aVglitch : Nat := 0
def aCglitch : Nat := 1
def aKintegrity : Nat := 2
def aCommitAbuse : Nat := 3
def aDebugAttack : Nat := 4
def aTagEngine : Nat := 5

/-- Level of a source: its field of KPR_ALARM_POLICY, or the source's minimum where that reads 0 (R658, R668). -/
def State.alarmLevel (s : State) (src : Nat) : Nat :=
  let v := match src with
    | 0 => s.get Reg.KPR_ALARM_POLICY_VGLITCH
    | 1 => s.get Reg.KPR_ALARM_POLICY_CGLITCH
    | 2 => 3
    | 3 => s.get Reg.KPR_ALARM_POLICY_COMMIT_ABUSE
    | 4 => s.get Reg.KPR_ALARM_POLICY_DEBUG_ATTACK
    | _ => s.get Reg.KPR_ALARM_POLICY_TAG_ENGINE
  let least := match src with
    | 0 => 2
    | 1 => 2
    | 2 => 3
    | _ => 1
  if v = 0 then least else v

/-- Every VALID partition, as a mask. -/
def State.validMask (s : State) : Nat :=
  (List.range 16).foldl (fun m p => if s.partValid p then m + 2 ^ p else m) 0

/-- A2: the partitions join QUARANTINE, their running tasks abort with fence error 0x79, and pending proposals end
(R643, R660). -/
def State.quarantine (s : State) (parts : Nat) : State :=
  let old := s.get Reg.KPR_STATE_QUARANTINE
  let new := old ||| parts
  let id := s.recId
  let s := s.fault 0x79 uKPR kprStop (new - old)
  let s := s.put Reg.KPR_STATE_QUARANTINE new
  let s := s.abortAll 0x79 uKPR (some id) fun c => bitAt parts (s.ctx c).pid
  s.endProps.alarmPin

/-- The key store, the retention store, the seal keys and the session keys are erased (R661 steps 2 and 3). -/
def State.eraseKeys (s : State) : State :=
  let s := { s with
    keeper := { s.keeper with keys := false, wrapped := false, wrappedSeal := [], wrappedModel := [], slots := [] },
    sealKeys := [], modelKeys := [] }
  let s := s.put Reg.KPR_KEY_USE_SLOTS 0
  (List.range 6).foldl (fun s p => s.put (Reg.LNK_PORT_STATUS_SECURE p) 0) s

/-- A flight or a standby entry stops (R94), its request with it (R98). -/
def State.haltFlight (s : State) : State :=
  { s with flight := { s.flight with running := false, todo := [], lastDom := none, images := [], entryStep := 0 } }.put
    Reg.PWR_FLIGHT_CTRL_STANDBY_REQ 0

/-- A3 (R661): keys erased, proposals ended, ALARMED; in a flight every domain but PD0, PD1, PD2 and PD5 is closed at
once (R94), else running tasks abort with fence error 0x7A and those domains begin to close. -/
def State.alarmA3 (s : State) (src : Nat) : State :=
  let flight := s.eng == engFlight
  let s := s.eraseKeys.endProps
  let id := s.recId
  let s := s.fault 0x7A uKPR kprStop src
  let s := (s.setEng engAlarmed).put Reg.KPR_STATE_STATE 2
  let s := ((s.endStop 0x0B).stopDispatch).haltFlight
  let keep := fun (d : Nat) => d == 1 || d == 2 || d == 5
  if flight then s.switchOffAll false (reverseOrder.filter fun d => !(keep d))
  else
    let s := s.abortAll 0x7A uKPR (some id) fun _ => true
    s.windDown fun d => !(keep d)

/-- An alarm of a source (R658, R659): its record with the level, its count, LEVEL, and what the level brings.
`parts` are the partitions that an A2 affects. -/
def State.alarm (s : State) (src code detail parts : Nat) : State :=
  let lvl := s.alarmLevel src
  let s := s.fault code uKPR kprStop (detail + lvl * 2 ^ 60)
  let n := s.get Reg.KPR_ALARM_COUNTS_COUNTS
  let s := if n / 256 ^ src % 256 = 255 then s else s.put Reg.KPR_ALARM_COUNTS_COUNTS (n + 256 ^ src)
  let s := s.put Reg.KPR_STATE_LEVEL (max lvl (s.get Reg.KPR_STATE_LEVEL))
  let s := s.alarmPin
  if lvl = 2 then s.quarantine parts else if lvl = 3 then s.alarmA3 src else s

/-- VGLITCH, CGLITCH and the detail of each are the commands' own (R663); a source without partitions of its own
affects every VALID one (R660). -/
def State.alarmWide (s : State) (src code detail : Nat) : State := s.alarm src code detail s.validMask

/-- A supply leaves its bounds (R658): VDD_SOC, VDD_AON or an OPEN cluster's rail. -/
def execVglitch (place : GlitchAt) (s : State) : Out :=
  .next <| match place with
    | .soc => if flightOrder.any fun d => d != 9 && (s.domOpen d || (s.dom d).st == .ramping) then
        s.alarmWide aVglitch 0x74 16 else s
    | .aon => s.alarmWide aVglitch 0x74 17
    | .cluster c =>
      let c := c.toNat
      if s.domOpen (clDom c) then
        s.alarm aVglitch 0x74 c (match s.clusterPart c with
          | some p => 2 ^ p
          | none => 0)
      else s

/-- A short pulse of REFCLK (0), the reference PLL (1) or the spine PLL (2) (R658); the detectors lie in the Keeper's
domain. -/
def execCglitch (source : BitVec 2) (s : State) : Out := whenLive 2 s fun s =>
  .next (if source.toNat < 3 then s.alarmWide aCglitch 0x75 source.toNat else s)

/-- Code of a Keeper integrity failure (R663). -/
def keeperFaultCode : KeeperFault → Nat
  | .kat => 1
  | .rom => 2
  | .kfw => 3
  | .keyStore => 4
  | .retention => 5
  | .watchdog => 6

/-- The Keeper fails one of its own checks (R658). -/
def State.kintegrity (s : State) (f : KeeperFault) : State := s.alarmWide aKintegrity 0x76 (keeperFaultCode f)

def execKintegrity (fail : KeeperFault) (s : State) : Out := whenLive 2 s fun s => .next (s.kintegrity fail)

/-- The check of KFW, an hour (360,000,000,000 t) after the last one or after PD2 opened (R658). -/
def execKfwCheck (ok : Bool) (s : State) : Out := whenLive 2 s fun s =>
  .next <| if s.gtc < max s.keeper.kfwAt (s.dom 2).since + 360000000000 then s
  else
    let s := { s with keeper := { s.keeper with kfwAt := s.gtc } }
    if ok then s else s.kintegrity .kfw

/-- A JTAG instruction beyond the public set while locked acts as BYPASS and counts; the fourth within 1 s raises
DEBUG_ATTACK (R650, R658). -/
def State.jtagLocked (s : State) (code : Nat) : State :=
  let l := (s.keeper.jtag.filter fun t => s.gtc < t + 100000000) ++ [s.gtc]
  let s := { s with keeper := { s.keeper with jtag := if 4 ≤ l.length then [] else l },
                    pins := { s.pins with ir := 0, scan := none } }
  if 4 ≤ l.length then s.alarmWide aDebugAttack 0x77 code else s

def execJtagLockedInstruction (code : BitVec 8) (s : State) : Out :=
  .next (if s.on Reg.KPR_DEBUG_JTAG_EN then s else s.jtagLocked code.toNat)

end Sys2Proof.Machine
end

