-- ==== Sys2Proof/Machine/SaveRegion.lean ====
section
/-! DEFINITION. The save region of watch standby (R82-R84, R88): what the dispatcher, the NIs and ERR write there at entry
and read back at a resume flight, with the weirs that an NI saves (R483-R486).  R83 places the areas; how the dispatcher and
NI areas and a wait-table entry are encoded within theirs is the model's choice (log entry 31). -/

namespace Sys2Proof.Machine

/-! ## Accesses -/

/-- Physical address of an offset of the save region (R83, R101). -/
def State.saveAt (s : State) (o : Nat) : Nat := s.get Reg.PWR_STANDBY_SAVE_BASE * 2 ^ 21 + o

/-- A write to the save region under OBJ_DRIVER_CID (R83); refused, it is recorded by the memory port. -/
def State.savePut (s : State) (o : Nat) (bs : List Byte) : State :=
  (s.ownWrite s.driverCid (s.saveAt o) bs).getD (s.refusedRec s.driverCid none (s.saveAt o))

/-- A read of the save region under OBJ_DRIVER_CID (R83), as a number; refused, it is recorded and reads as 0. -/
def State.saveLe (s : State) (o n : Nat) : Nat := leNat ((s.ownRead s.driverCid (s.saveAt o) n).getD [])

/-- The record of a refused read of an area of the save region (R36, R83). -/
def State.saveChecked (s : State) (o : Nat) : State :=
  if (s.ownRead s.driverCid (s.saveAt o) 1).isSome then s else s.refusedRec s.driverCid none (s.saveAt o)

/-- Numbers of a list in little-endian places of `n` bytes. -/
def words (n : Nat) (l : List Nat) : List Byte := l.flatMap (leBytes n)

/-! ## The dispatcher area -/

/-- A queue's record of 128 bytes: its number, counters, state, stage slot and staged copy, and cancel horizon. -/
def queueSave (q : Nat) (x : Queue) : List Byte :=
  let code := match x.st with
    | .disabled => 0
    | .active => 1
    | .waiting => 2
    | .halted => 3
  words 4 [q, x.head, x.tail, x.seq, x.recNo,
    code + b2n x.stageSlot * 2 ^ 8 + b2n x.staged.isSome * 2 ^ 9 + b2n x.horizon.isSome * 2 ^ 10,
    x.horizon.getD 0, (match x.staged with
      | some g => g.index
      | none => 0)] ++
  leBytes 64 (match x.staged with
    | some g => g.raw
    | none => 0) ++ leBytes 32 0

/-- The queue as its record in `r` gives it; what a record does not hold stands. -/
def queueRestore (x : Queue) (r : Nat) : Queue :=
  let f := pfld r 20 4
  { x with
    head := pfld r 4 4, tail := pfld r 8 4, seq := pfld r 12 4, recNo := pfld r 16 4,
    st := (match f % 4 with
      | 1 => .active
      | 2 => .waiting
      | 3 => .halted
      | _ => .disabled),
    stageSlot := bitAt f 8,
    horizon := if bitAt f 10 then some (pfld r 24 4) else none,
    staged := if bitAt f 9 then some ⟨pfld r 28 4, pfld r 32 64, match x.staged with
      | some g => g.refs
      | none => []⟩ else none }

/-- A register field of the DSP block (R46). -/
def isDsp (key : Nat) : Bool := key / 64 / 2 ^ 16 == 0x101

/-- The register field of number `key` takes a saved value, cut to its width. -/
def State.putKey (s : State) (key v : Nat) : State :=
  match (regAt (key / 64)).bind fun d => d.fields.find? fun f => f.lo == key % 64 with
  | some f => { s with regs := s.regs.set key (v % 2 ^ (f.hi + 1 - f.lo)) }
  | none => s

/-- The DSP registers that hold another value than at reset, by key. -/
def State.dspRegs (s : State) : List (Nat × Nat) := s.regs.filter fun e => isDsp e.1

/-- The dispatcher area (R83): the counts of its parts, then queues not DISABLED, the cancel list, swap-slot occupancy,
tile claims and the DSP registers. -/
def State.dspArea (s : State) : List Byte :=
  let qs := s.queues.filter fun e => e.2.st != .disabled
  let claims := s.disp.tiles.filterMap fun e => e.2.claim.map fun q => (e.1, q)
  let pairs := fun (n : Nat) (l : List (Nat × Nat)) => words n (l.flatMap fun e => [e.1, e.2])
  words 4 [qs.length, s.disp.cancels.length, s.disp.slots.length, claims.length, s.dspRegs.length, 0, 0, 0] ++
    (qs.flatMap fun e => queueSave e.1 e.2) ++ pairs 4 s.disp.cancels ++ pairs 4 s.disp.slots ++ pairs 4 claims ++
    pairs 8 s.dspRegs

/-- `n` pairs of `w`-byte numbers of an area from offset `o` on. -/
def areaPairs (a o w n : Nat) : List (Nat × Nat) :=
  (List.range n).map fun k => (pfld a (o + 2 * w * k) w, pfld a (o + 2 * w * k + w) w)

/-- The dispatcher takes its area back (R88): `a` is the area's content as one number. -/
def State.restoreDsp (s : State) (a : Nat) : State :=
  let n := fun (k : Nat) => pfld a (4 * k) 4
  let o1 := 32 + 128 * n 0
  let o2 := o1 + 8 * n 1
  let o3 := o2 + 8 * n 2
  let o4 := o3 + 8 * n 3
  let s := (List.range (n 0)).foldl (fun (s : State) k =>
    let r := pfld a (32 + 128 * k) 128
    s.updQueue (pfld r 0 4) fun x => queueRestore x r) s
  let s := { s with disp := { s.disp with cancels := areaPairs a o1 4 (n 1), slots := areaPairs a o2 4 (n 2) } }
  let s := (areaPairs a o3 4 (n 3)).foldl (fun (s : State) e =>
    s.setDtile e.1 { s.dtile e.1 with claim := some e.2 }) s
  (areaPairs a o4 8 (n 4)).foldl (fun (s : State) e => if isDsp e.1 then s.putKey e.1 e.2 else s) s

/-! ## The wait table -/

/-- A waiter in 16 bytes: the CID that reads its fence, fence address bits `[47:4]`, target, and in the last 12 bits a host
waiter's vector, or 1 with the BARRIER bit and the context for a queue's. -/
def waiterSave (i : Nat) (w : Waiter) : Nat :=
  w.cid % 1024 + w.fence / 16 % 2 ^ 44 * 2 ^ 10 + w.target % 2 ^ 62 * 2 ^ 54 +
    (if i < 32768 then 1 + 2 * b2n w.barrier + 4 * (w.ctx % 1024) else w.vector % 4096) * 2 ^ 116

/-- The waiter that 16 bytes hold; zero is a free entry.  The context of a host waiter is the one that `own` gives its
vector. -/
def waiterRestore (own : Nat → Nat) (i v : Nat) : Option Waiter :=
  if v = 0 then none
  else
    let f := v / 2 ^ 10 % 2 ^ 44 * 16
    let x := v / 2 ^ 116 % 4096
    some ⟨if i < 32768 then x / 4 else own x, v % 1024, if bitAt f 47 then f + 0xFFFF * 2 ^ 48 else f,
      v / 2 ^ 54 % 2 ^ 62, if i < 32768 then 0 else x, i < 32768 && bitAt x 1⟩

/-- The context whose vectors hold `v` (R156). -/
def State.vecOwner (s : State) (v : Nat) : Nat :=
  match s.ctxs.find? fun e => e.2.st != .free && e.2.hasVec v with
  | some e => e.1
  | none => 0

/-- The wait table (R83): every entry of 16 bytes, free ones zero. -/
def State.waitArea (s : State) : List Byte :=
  (List.range 65536).flatMap fun i => leBytes 16 (match Tab.get none s.waiters i with
    | some w => waiterSave i w
    | none => 0)

/-- The wait table is read back (R88). -/
def waitRestore (own : Nat → Nat) (bs : List Byte) : Nat → Nat → Tab (Option Waiter)
  | _, 0 => []
  | i, n + 1 => match waiterRestore own i (leNat (bs.take 16)) with
    | some w => (i, some w) :: waitRestore own (bs.drop 16) (i + 1) n
    | none => waitRestore own (bs.drop 16) (i + 1) n

/-! ## Weirs (R483-R486) -/

/-- Number of a weir: stop, UNIT and class. -/
def weirKey (n u k : Nat) : Nat := 16 * n + 4 * u + k

/-- EN, RATE and BURST of a weir (R484, R486): a tile's from its cluster's partition, else partition 0. -/
def State.weir (s : State) (n u k : Nat) : Bool × Nat × Nat :=
  let r := if isClStop n then
      let i := 4 * (s.clusterPart (stopCl n)).getD 0 + k
      (s.on (Reg.MSH_PART_WEIR_EN i), s.get (Reg.MSH_PART_WEIR_RATE i), s.get (Reg.MSH_PART_WEIR_BURST i))
    else (s.on (Reg.MSH_WEIR_EN n u k), s.get (Reg.MSH_WEIR_RATE n u k), s.get (Reg.MSH_WEIR_BURST n u k))
  (r.1, min 4096 r.2.1, if r.2.2 = 0 then 9 else r.2.2)

/-- CREDIT of a weir in 1/4096 flit; a bucket that nothing has used yet is full (R485). -/
def State.credit (s : State) (n u k : Nat) : Int :=
  Tab.get (((s.weir n u k).2.2 * 4096 : Nat) : Int) s.mesh.credit (weirKey n u k)

def State.setCredit (s : State) (n u k : Nat) (c : Int) : State :=
  { s with mesh := { s.mesh with credit := s.mesh.credit.set (weirKey n u k) c } }

/-! ## The NI area -/

/-- Fields of the NI of stop `n` that its area holds (R83), one of 8 bytes after the other: both route banks, the stop and
die maps, CURRENT, and every weir register of the stop. -/
def niFields (n : Nat) : List Fld :=
  let pairs := fun (a b : Nat) => (List.range a).flatMap fun i => (List.range b).map fun j => (i, j)
  (pairs 2 36).flatMap (fun e => [Reg.MSH_RT_HOPS n e.1 e.2, Reg.MSH_RT_ROUTE n e.1 e.2]) ++
    (List.range 2).flatMap (fun i => [Reg.MSH_STOPMAP_BS3 i, Reg.MSH_STOPMAP_BS2 i, Reg.MSH_STOPMAP_BS1 i,
      Reg.MSH_STOPMAP_BS0 i, Reg.MSH_STOPMAP_MP3 i, Reg.MSH_STOPMAP_MP2 i, Reg.MSH_STOPMAP_MP1 i, Reg.MSH_STOPMAP_MP0 i]) ++
    (pairs 2 64).map (fun e => Reg.MSH_DIEMAP_PORTS e.1 e.2) ++ [Reg.MSH_EPOCH_CURRENT] ++
    (pairs 4 4).flatMap fun e => [Reg.MSH_WEIR_EN n e.1 e.2, Reg.MSH_WEIR_RATE n e.1 e.2, Reg.MSH_WEIR_BURST n e.1 e.2]

/-- The numbers of a stop's 16 weirs, UNIT and class: their buckets stand after the fields. -/
def niWeirs : List (Nat × Nat) := (List.range 16).map fun i => (i / 4, i % 4)

/-- The area of one NI: its fields, then its weir buckets. -/
def State.niArea (s : State) (n : Nat) : List Byte :=
  words 8 ((niFields n).map s.get ++ niWeirs.map fun w => (s.credit n w.1 w.2 % (2 ^ 64 : Int)).toNat)

/-- A field takes a saved value. -/
def State.takeBack (s : State) (f : Fld) (v : Nat) : State := if s.get f = v then s else s.put f v

/-- An NI takes its area back (R88): `a` is the area's content. -/
def State.restoreNi (s : State) (n : Nat) (a : List Byte) : State :=
  let fs := niFields n
  let s := (fs.zipIdx).foldl (fun (s : State) e => s.takeBack e.1 (leNat ((a.drop (8 * e.2)).take 8))) s
  niWeirs.zipIdx.foldl (fun (s : State) e =>
    if (s.weir n e.1.1 e.1.2).1 then
      s.setCredit n e.1.1 e.1.2 (asSigned 64 (leNat ((a.drop (8 * (fs.length + e.2))).take 8)))
    else s) s

/-! ## Saving and restoring -/

/-- The ERR_VEC entry `v` as its 64-bit register reads (R694). -/
def State.vecWord (s : State) (v : Nat) : Nat :=
  s.get (Reg.ERR_VEC_ADDR v) * 4 + s.get (Reg.ERR_VEC_PENDING v) * 2 ^ 62 + s.get (Reg.ERR_VEC_MASK v) * 2 ^ 63

/-- Records that the fault log holds: its entries whose VALID is 1 (R671). -/
def State.logHeld (s : State) : Nat := ((List.range 512).filter fun i => bitAt (s.conc.log.byte (32 * i + 0x19)).toNat 0).length

/-- Step 4 of the entry (R83, R84): the dispatcher, every NI and ERR write their areas.  The header's stamp is that of the
dispatcher's GTC copy (R45). -/
def State.saveState (s : State) : State :=
  let a := s.dspArea
  let s := s.savePut 0 (leBytes 4 0x56425453 ++ leBytes 2 1 ++ leBytes 2 0 ++ leBytes 8 (s.time copyDsp) ++
    leBytes 4 a.length ++ leBytes 4 (s.waiters.filter fun e => e.2.isSome).length ++ leBytes 4 s.logHeld ++ leBytes 36 0)
  let s := (s.savePut 0x10000 a).savePut 0x100000 s.waitArea
  let s := (List.range 36).foldl (fun (s : State) n => s.savePut (0x200000 + 4096 * n) (s.niArea n)) s
  let s := s.savePut 0x224000 (s.conc.log.bytes 0 0x4000)
  let s := s.savePut 0x228000 (words 8 ((List.range 4096).map s.vecWord))
  s.savePut 0x230000 (words 8 [s.get Reg.ERR_LOG_SEQ_NEXT, s.get Reg.ERR_LOG_READ_READ,
    s.get Reg.ERR_LOG_CTRL_VEC + s.get Reg.ERR_LOG_CTRL_EN * 2 ^ 15 + s.get Reg.ERR_LOG_CTRL_ARMED * 2 ^ 16,
    s.get Reg.ERR_LOG_OVF_OVF, s.get Reg.ERR_VEC_DATA_DATA_HI * 2 ^ 12, 0, 0, 0])

/-- ERR restores its log, vectors and registers from the save region (R83, R88). -/
def State.restoreErr (s : State) : State :=
  let rd := fun (o n : Nat) => (s.ownRead s.driverCid (s.saveAt o) n).getD []
  let r := s.saveLe 0x230000 64
  let vec := rd 0x228000 0x8000
  let next := pfld r 0 8 % 2 ^ 16
  let read := pfld r 8 8 % 2 ^ 16
  let ctrl := pfld r 16 8
  let s := { s with conc := { s.conc with log := Cells.putList [] 0 (rd 0x224000 0x4000), unread := (next + 2 ^ 16 - read) % 2 ^ 16 } }
  let s := ((s.put Reg.ERR_LOG_SEQ_NEXT next).put Reg.ERR_LOG_READ_READ read).put Reg.ERR_LOG_OVF_OVF (pfld r 24 8)
  let s := ((s.put Reg.ERR_LOG_CTRL_VEC (bits ctrl 11 0)).put Reg.ERR_LOG_CTRL_EN (bits ctrl 15 15)).put
    Reg.ERR_LOG_CTRL_ARMED (bits ctrl 16 16)
  let s := s.put Reg.ERR_VEC_DATA_DATA_HI (pfld r 32 8 / 2 ^ 12)
  (List.range 4096).foldl (fun s v =>
    let w := leNat ((vec.drop (8 * v)).take 8)
    if w = s.vecWord v then s
    else ((s.put (Reg.ERR_VEC_ADDR v) (bits w 51 2)).put (Reg.ERR_VEC_PENDING v) (bits w 62 62)).put
      (Reg.ERR_VEC_MASK v) (bits w 63 63)) s

/-- The dispatcher, the NIs and ERR restore their state from the save region (R83, R88), reading only the bytes that the
header counts of the dispatcher area.  XLT refills the walk weir of every context that is not FREE (R424). -/
def State.restoreState (s : State) : State :=
  let used := min (s.saveLe 0x10 4) 0xF0000
  let s := ((s.saveChecked 0).restoreDsp (s.saveLe 0x10000 used))
  let s := { s with waiters := waitRestore s.vecOwner ((s.ownRead s.driverCid (s.saveAt 0x100000) 0x100000).getD []) 0 65536 }
  let s := (List.range 36).foldl (fun (s : State) n =>
    s.restoreNi n ((s.ownRead s.driverCid (s.saveAt (0x200000 + 4096 * n)) 4096).getD [])) s
  let burst := atLeast1 (s.get Reg.XLT_WALK_WEIR_BURST)
  let s := { s with
    xlt := { s.xlt with rate := s.get Reg.XLT_WALK_WEIR_RATE, burst := burst }
    ctxs := s.ctxs.map fun (e : Nat × Ctx) => if e.2.st = CtxSt.free then e else (e.1, { e.2 with walks := burst }) }
  (s.saveChecked 0x200000).restoreErr

end Sys2Proof.Machine
end

