-- ==== Sys2Proof/Machine/Flight.lean ====
section
/-! DEFINITION. Chapter 02: the flight, resets, and watch standby (R59-R104), with the wakes that end standby
(R85-R87, R129-R131) and the heat wait (R752). -/

namespace Sys2Proof.Machine

/-! ## Temperature (R749, R750, R752) -/

/-- LIMIT in force: the register, never above the grade's limit (R756). -/
def State.thermLimit (s : State) : Nat :=
  let g := if s.fuses.grade = 0 then 0x2A4 else 0x2CC
  min g (Tab.get g s.regs Reg.PWR_THERM_CFG_LIMIT.key)

def State.temp (s : State) (sensor : Nat) : Nat := Tab.get 0 s.pins.temps sensor

/-- The SoC sensor and the diode stand above L - 40; a faulty diode is replaced by the sensor plus 5 degrees (R718,
R752). -/
def State.tooHot (s : State) : Bool :=
  let d := if s.get Reg.PWR_PIN_STATUS_DIODE = 0 then s.temp 17 else s.temp 16 + 20
  decide (s.thermLimit < max (s.temp 16) d + 40)

/-! ## The start of a flight -/

/-- The unit bits that PWR_STOP_KEEP harvests (R726): those that name no unit of the part are 0, and a value that
would harvest every memory stop harvests none. -/
def State.keepUnits (s : State) : Nat :=
  let v := s.get Reg.PWR_STOP_KEEP_UNITS
  let m := (List.range 29).foldl (fun m b =>
    let ok := if b < 16 then s.clEnabled b else if b < 22 then true else if b < 28 then s.yard else !s.yard
    if bitAt v b ∧ ok then m + 2 ^ b else m) 0
  if bits m 21 18 = 15 then m - 15 * 2 ^ 18 else m

/-- The next memory stop in service after `k`, ascending and wrapping (R715). -/
def nextMp (kept k : Nat) : Nat :=
  (((List.range 4).map fun j => (k + 1 + j) % 4).find? fun j => !(bitAt kept (18 + j))).getD k

/-- Both route banks exclude every harvested unit (R715). -/
def State.harvestBanks (s : State) (kept : Nat) : State :=
  let s := if bitAt kept 16 then s.excludeHalf 0 else s
  let s := if bitAt kept 17 then s.excludeHalf 1 else s
  (List.range 2).foldl (fun s e =>
    let dest := fun (k : Nat) => mpStop (if bitAt kept (18 + k) then nextMp kept k else k)
    let s := if bitAt kept 18 then s.put (Reg.MSH_STOPMAP_MP0 e) (dest 0) else s
    let s := if bitAt kept 19 then s.put (Reg.MSH_STOPMAP_MP1 e) (dest 1) else s
    let s := if bitAt kept 20 then s.put (Reg.MSH_STOPMAP_MP2 e) (dest 2) else s
    if bitAt kept 21 then s.put (Reg.MSH_STOPMAP_MP3 e) (dest 3) else s) s

/-- Domains that take their state from fuses, package and harvest at the start of a cold or warm flight (R4, R5,
R715). -/
def State.markUnits (s : State) (kept : Nat) : State :=
  let s := (s.put Reg.PWR_SERVICE_STOPPED kept).put Reg.PWR_SERVICE_BY_FAILURE 0
  let s := (List.range 16).foldl (fun s c =>
    s.setSt (clDom c) (if !(s.clEnabled c) then .disabled else if bitAt kept c then .stoppage else .closed)) s
  let s := s.setSt 6 (if bitAt kept 16 then .stoppage else .closed)
  let s := s.setSt 7 (if bitAt kept 17 then .stoppage else .closed)
  let s := s.setSt 11 (if s.yard ∨ bitAt kept 28 then .stoppage else .closed)
  s.harvestBanks kept

/-- Domains that a cold or warm flight opens, in order (R3, R61, R62, R78, R715). -/
def State.flightDomains (s : State) (kept : Nat) : List Nat :=
  if s.alarmed then [1, 2, 5]
  else
    let links := s.yard && bits kept 27 22 != 0x3F
    [1, 2, 5, 3, 4, 10] ++ (if bitAt kept 16 then [] else [6]) ++ (if bitAt kept 17 then [] else [7]) ++
      (if links then [8, 9] else [])

/-- A cold (0) or warm (1) flight starts (R61, R78, R90): the reference PLL comes first unless it is locked already, then
the fuse shadow loads (R96). -/
def State.startFlight (s : State) (kind : Nat) : State :=
  let kept := s.keepUnits
  let s := s.markUnits kept
  let f := s.flight
  let s := { s with flight := { f with
    running := true, coldNext := false, deriveNext := false, todo := s.flightDomains kept, lastClRamp := none,
    lastDom := none, heatWait := kind == 1 && s.tooHot, fuseAt := s.gtc, katDone := false,
    otpDone := kind == 1 && !f.deriveNext, bundleFetched := false, kfwLoaded := false, dspmLoaded := false,
    watchFailed := false, images := [], commitSvn := false, svn := [], unwrapped := false, dspmChecked := false,
    restored := false, entryStep := 0, wakeDue := false } }
  let s := if kind = 0 then { s with island := { s.island with linkUp := true } } else s
  let s := (((((s.put Reg.PWR_FLIGHT_STATUS_KIND kind).put Reg.PWR_FLIGHT_STATUS_DOMAIN 0).put
    Reg.PWR_FLIGHT_STATUS_STEP 0).put Reg.PWR_FLIGHT_STATUS_ATTEMPT 0).put Reg.PWR_FLIGHT_STATUS_STOPPED 0).put
    Reg.PWR_FLIGHT_STATUS_PHASE (if s.onRc then 0 else 1)
  s

/-- The fuse shadow is loaded (R96): the domains follow.  The load takes the 5,000 t of the cold flight's timeline (log
entry 82). -/
def State.fusesLoaded (s : State) : State :=
  if s.flight.running ∧ s.get Reg.PWR_FLIGHT_STATUS_PHASE = 1 ∧ s.flight.fuseAt + 5000 ≤ s.gtc then
    (s.put Reg.PWR_FLIGHT_STATUS_PHASE 2).advance
  else s

/-! ## Resets (R90-R93) -/

/-- Cold reset: VDD_AON power-on (R90, R93).  Fuses and the memory behind the memory port are not the die's; what the
block has already written outside stays written. -/
def State.coldReset (s : State) : State :=
  { State.reset with
    fuses := s.fuses, mem := s.mem, sealTag := s.sealTag, linkOut := s.linkOut, freeCtr := s.freeCtr,
    host := { HostOut.reset with writes := s.host.writes, ibi := s.host.ibi }, pending := s.pending }

def execColdReset (s : State) : Out := .next s.coldReset

/-- A key store in the retention store is back in the Keeper (R88): at a resume flight, or at a warm reset out of
watch standby, which keeps it (R93, log entry 32). -/
def State.unwrapKeys (s : State) : State :=
  if s.keeper.wrapped then
    { s with keeper := { s.keeper with keys := true, wrapped := false, wrappedSeal := [], wrappedModel := [] },
             sealKeys := s.keeper.wrappedSeal, modelKeys := s.keeper.wrappedModel }
  else s

/-- What follows only a cold or warm reset: CRACK, CEILING and the sense marks clear (R565, R571). -/
def State.resetRails (s : State) : State :=
  let s := s.resetRegs fun o => decide (0x01070500 ≤ o) && decide (o < 0x010705A0)
  { s with power := { s.power with rails := [] } }

/-- A warm reset (R90, R93, R131): every domain but PD0 is switched off, a command under way is superseded, and ENG_STATE
reads FLIGHT unless the die is ALARMED (R662).  PENDING in WAT_WAKE_INFO stays although WAKE_OUT falls: R131 lowers the
pin at a reset, and R107 keeps the WAT registers (log entry 83). -/
def State.warmReset (s : State) (source : Nat) : State :=
  let s := (s.endStop 0x0B).haltFlight
  let s := (((s.put Reg.PWR_RESET_STATUS_LAST_SOURCE source).put Reg.PWR_RESET_STATUS_LAST_KIND 1).put
    Reg.PWR_RESET_STATUS_BUSY 1)
  let s := s.setEng (if s.alarmed then engAlarmed else engFlight)
  let s := reverseOrder.foldl (fun s d => if s.domLive d then s.gateAct d 1 id else s) s
  let s := s.switchOffAll false reverseOrder
  let s := { s with doms := s.doms.map fun (e : Nat × Dom) =>
    if e.1 = 0 ∨ e.2.st = DomSt.disabled then e else (e.1, Dom.reset) }
  let s := ((s.closeFx false 3).closeFx false 5).resetRails.unwrapKeys
  let s := { s with pins := { s.pins with wakeOut := false },
                    flight := { s.flight with wakeDue := false },
                    island := { s.island with heldWakes := [], resumeReq := none } }
  (((s.put Reg.PWR_FLIGHT_STATUS_KIND 1).put Reg.PWR_FLIGHT_STATUS_PHASE 0).put
    Reg.PWR_FLIGHT_CTRL_STANDBY_REQ 0)

/-- RESET_N held low for at least 100 t (R91, R94). -/
def execResetNAssert (s : State) : Out :=
  let s := s.warmReset 1
  .next ({ s with pins := { s.pins with resetN := false } }).alarmPin

/-- RESET_N rises (R90). -/
def execResetNRise (s : State) : Out :=
  .next <| if s.pins.resetN then s
  else
    let s := ({ s with pins := { s.pins with resetN := true } }).alarmPin
    (s.startFlight (if s.flight.coldNext then 0 else 1)).put Reg.PWR_RESET_STATUS_BUSY 0

/-- Fields of a PWR_RESET_CMD value: the key is right and KIND is `k` (R99). -/
def resetCmdIs (value : BitVec 32) (k : Nat) : Bool :=
  value.toNat / 2 ^ 16 == 0xA5C3 && value.toNat % 16 == k

/-- TARGET of a PWR_RESET_CMD value (R99). -/
def resetTarget (value : BitVec 32) : Nat := bits value.toNat 11 8

/-- LAST_SOURCE of a writer (R100); JTAG counts as the driver. -/
def sourceCode : Source → Nat
  | .host => 2
  | .mgmt => 3
  | .jtag => 2

/-- PWR_RESET_CMD with KIND WARM (R90, R91): it supersedes whatever is in progress. -/
def execWarm (src : Source) (value : BitVec 32) (s : State) : Out :=
  .next <| if !(s.srcReaches src) ∨ !(resetCmdIs value 1) then s
  else
    let s := s.warmReset (sourceCode src)
    if s.pins.resetN then (s.startFlight 1).put Reg.PWR_RESET_STATUS_BUSY 0 else s

/-- VDD_SOC leaves its range with no domain open that it feeds (R741): what it fed is lost, the key store with it. -/
def execVddSocRemoval (s : State) : Out :=
  .next <| if flightOrder.any fun d => d != 9 && s.domLive d then s
  else if s.eng = engStandby then s
  else
    let s := s.resetRegs fun o => guardedOff o || (regDom o != 0 && regDom o != 28 && !(o == Reg.KPR_STATE) &&
      !(o == Reg.KPR_ALARM_COUNTS) && !(decide (0x02000000 ≤ o) && decide (o % 0x40000 = 0x8000)))
    { s with
      flight := { s.flight with coldNext := false, deriveNext := true },
      conc := { Conc.reset with aonSeq := s.conc.aonSeq, aonOther := s.conc.aonOther, nextId := s.conc.nextId },
      ctxs := [], groups := [], queues := [], waiters := [], disp := Disp.reset, sealKeys := [], modelKeys := [],
      keeper := { Keeper.reset with nextKey := s.keeper.nextKey, wrapped := s.keeper.wrapped,
                                    wrappedSeal := s.keeper.wrappedSeal, wrappedModel := s.keeper.wrappedModel,
                                    digests := s.keeper.digests } }

/-! ## The reference PLL (R72, R73) -/

/-- The reference PLL locks, or fails its three attempts (R72, R128). -/
def execReferencePllLock (fin : LockEnd) (s : State) : Out :=
  .next <| if !s.flight.running ∨ s.get Reg.PWR_FLIGHT_STATUS_PHASE ≠ 0 then s
  else match fin with
    | .locked =>
      { s with onRc := false, flight := { s.flight with fuseAt := s.gtc } }.put Reg.PWR_FLIGHT_STATUS_REF_RC 0 |>.put
        Reg.PWR_FLIGHT_STATUS_PHASE 1
    | .failed =>
      let s := { s with onRc := true }
      let det := fun (a : Nat) => 3 * 2 ^ 8 + a * 2 ^ 16
      let s := ((s.seqFault 0x57 (det 0)).seqFault 0x57 (det 1)).seqFault 0x54 (det 2)
      let s := (((s.put Reg.PWR_FLIGHT_STATUS_REF_RC 1).put Reg.PWR_FLIGHT_STATUS_DOMAIN 0).put
        Reg.PWR_FLIGHT_STATUS_STEP 3).put Reg.PWR_FLIGHT_STATUS_ATTEMPT 2
      s.flightFailed

/-- The reference PLL loses lock while domains are open (R73): tasks end with fault 0x54 and every domain but PD0, PD1
and PD5 begins to close.  In watch standby PD0 alone runs, and only the GTC moves to the RC oscillator.  In ALARMED the
same happens, and the alarm latch stays (R662).  LAST_SOURCE takes 4 here and nowhere else, and LAST_KIND stays: R100
gives the code without saying when it is set (log entry 84). -/
def execRefLost (s : State) : Out :=
  .next <| if s.onRc then s
  else
    let s := { s with onRc := true }.put Reg.PWR_FLIGHT_STATUS_REF_RC 1
    let id := s.recId
    let s := s.seqFault 0x54 0
    if s.eng = engStandby then s
    else
      let s := (s.put Reg.PWR_RESET_STATUS_LAST_SOURCE 4).stopDispatch
      let s := s.abortAll 0x54 uSEQ (some id) fun _ => true
      let s := (s.endStop 0x0B).haltFlight
      let s := (s.setEng engFailed).put Reg.PWR_FLIGHT_STATUS_PHASE 6
      s.windDown fun d => d != 1 && d != 5

/-! ## The steps of a domain (R60-R67) -/

/-- Domains that may wait for a ramp, in the order of R64: the flight's current step, PD11, the domains that a reopening
starts, then clusters.  R64 places no reopening (log entry 85). -/
def State.rampOrder (s : State) : List Nat :=
  (match s.flight.lastDom with
    | some d => if s.flight.running then [d] else []
    | none => []) ++ [11] ++ flightOrder ++ clusterDoms

/-- The sequencer grants the next ramp (R64, R65, R94): one at a time, clusters 300 t apart, none under the SPILL_N
clamp. -/
def execRampGrant (s : State) : Out :=
  .next <| if s.power.clamp ∨ (List.range 28).any fun d => (s.dom d).ramp == .active then s
  else
    let spaced := match s.flight.lastClRamp with
      | none => true
      | some t => decide (t + 300 ≤ s.gtc)
    match s.rampOrder.find? fun d => (s.dom d).ramp == .pending && (decide (d < 12) || spaced) with
    | none => s
    | some d =>
      let s := s.setDom d { s.dom d with ramp := .active }
      let s := if 12 ≤ d then { s with flight := { s.flight with lastClRamp := some s.gtc } } else s
      ((s.setSt d .ramping).note d 2)

/-- The rail of a domain is good (R60, R63): `rise` is what the sense check sees, in mV. -/
def execRailWait (dom : BitVec 5) (rise : BitVec 16) (s : State) : Out :=
  let d := dom.toNat
  .next <| if (s.dom d).st = .railWait ∧ (s.dom d).ramp = .none ∧ s.inLimit d 20000 then
      let s := s.senseCheck (railOf d) rise.toNat
      s.setDom d { s.dom d with ramp := .pending }
    else s

/-- A reopening of the unit of `x` starts with three fresh attempts (R711). -/
def State.beginReopen (s : State) (x : StopCmd) (d : Nat) : State :=
  let s := { s with stop := some { x with reopen := true, since := s.gtc } }
  let s := (s.put Reg.PWR_STOP_STATUS_STEP 1).put Reg.PWR_STOP_STATUS_ATTEMPT 0
  (s.setDom d { Dom.reset with st := (s.dom d).st }).startDomain d

/-- The domain of a cluster or basin half that a STOP closed reads STOPPAGE (R701, R702); a cluster reset puts the
cluster in stoppage in the same way and reopens it (R92). -/
def State.stopped (s : State) (x : StopCmd) (d : Nat) : State :=
  let s := (s.switchOff false d .stoppage).enterStop x.kind x.index (x.reset && x.failed)
  if x.reset then s.beginReopen x d else s.endStop 0

/-- The gate closes a CLOSING domain (R40, R58, R608); a cluster condemned by a crack suspicion goes into stoppage (R570). -/
def State.gateClose (s : State) (d : Nat) : State :=
  if 12 ≤ d ∧ s.power.condemned.contains (d - 12) then
    let s := { s with power := { s.power with condemned := s.power.condemned.erase (d - 12) } }
    let s := (s.switchOff false d .stoppage).enterStop 1 (d - 12) true
    match s.stop with
    | some x => if unitOfDom d = some (x.kind, x.index) then s.endStop 0x0A else s
    | none => s
  else match s.stop with
  | some x => if unitOfDom d = some (x.kind, x.index) ∧ !x.reopen then s.stopped x d
    else (s.switchOff false d .closed).setDom d Dom.reset
  | none => (s.switchOff false d .closed).setDom d Dom.reset

/-- A STOP or reset of the unit of domain `d` waits for a ramp to end, which no command interrupts (R64). -/
def State.stopWaits (s : State) (d : Nat) : Bool := match s.stop with
  | some x => unitOfDom d == some (x.kind, x.index) && !x.reopen
  | none => false

/-- The 16 finger groups have closed and the voltage is judged (R63): it may rise until 50 t after the last group closes. -/
def execRamping (dom : BitVec 5) (good : Bool) (s : State) : Out :=
  let d := dom.toNat
  .next <| if (s.dom d).st ≠ .ramping ∨ s.elapsed d < rampTime d then s
  else if good then
    if s.inLimit d (rampTime d + 50) then
      let s := s.setDom d { s.dom d with ramp := .none }
      if s.stopWaits d then s.gateClose d else ((s.setSt d .clockWait).note d 3).advance
    else s
  else if s.late d (rampTime d + 50) then
    let s := s.setDom d { s.dom d with ramp := .none }
    if s.stopWaits d then s.gateClose d else s.failStep d 2
  else s

/-- Domains that SCRUB covers (R76). -/
def scrubs (d : Nat) : Bool := d == 6 || d == 7 || decide (12 ≤ d)

/-- Step 3 of a reopening begins: the unit's self-test (R709, R710). -/
def State.testStep (s : State) : State :=
  { s with stop := s.stop.map fun (x : StopCmd) => { x with since := s.gtc } }.put Reg.PWR_STOP_STATUS_STEP 3

/-- The memory stop that a reopening under way opens (R709): its channel retrains at step 1. -/
def State.memReopening (s : State) : Option StopCmd := match s.stop with
  | some x => if x.reopen ∧ x.kind = 3 then some x else none
  | none => none

/-- A step of a memory stop's reopening fails (R67, R711): a further attempt after the wait, or stoppage by failure. -/
def State.memStopFail (s : State) (x : StopCmd) (step : Nat) : State :=
  let a := s.get Reg.PWR_STOP_STATUS_ATTEMPT
  let det := 10 + step * 2 ^ 8 + a * 2 ^ 16
  if a < 2 then
    let s := { s with stop := some { x with since := s.gtc } }
    ((s.seqFault 0x57 det).put Reg.PWR_STOP_STATUS_ATTEMPT (a + 1)).put Reg.PWR_STOP_STATUS_STEP 0
  else ((s.seqFault 0x50 (det + x.index * 2 ^ 24 + 3 * 2 ^ 28)).enterStop 3 x.index true).endStop 0x0A

/-- The domain's clock source locks and its GTC copy is loaded, or PD10's interface training ends (R60, R61). -/
def execClockWait (dom : BitVec 5) (ev : ClockEvent) (s : State) : Out :=
  let d := dom.toNat
  let x := s.dom d
  let past := fun (s : State) =>
    if scrubs d then
      let s := (s.setSt d .scrub).note d 4
      if (s.reopening d).isSome then s.put Reg.PWR_STOP_STATUS_STEP 2 else s
    else s.setDom d { s.dom d with ready := true, trainDue := false }
  .next <| if d = 10 ∧ ev = .trained ∧ s.memReopening.isSome ∧ s.get Reg.PWR_STOP_STATUS_STEP = 1 then
      s.testStep
  else if x.st ≠ .clockWait ∨ x.ready ∨ !(s.inLimit d (s.clockLimit d)) then s
  else match ev with
    | .locked => if d = 10 then (if x.trainDue then s else s.setDom d { x with trainDue := true, since := s.gtc }) else past s
    | .trained => if x.trainDue then past s else s

/-- The scrub of a domain ends (R76): its memories are zero and every written bit clear; a corrected read-back counts and
is recorded as R674 gives.  In a reopening the self-test comes next (R709). -/
def execScrub (dom : BitVec 5) (fin : ScrubEnd) (s : State) : Out :=
  let d := dom.toNat
  .next <| if (s.dom d).st ≠ .scrub ∨ (s.dom d).ready then s
  else match fin with
    | .clean l =>
      let s := if 12 ≤ d then
          let s := (List.range 4).foldl (fun s k =>
            s.updTile (4 * (d - 12) + k) fun x => { x with store := [], written := [] }) s
          l.foldl (fun s k => s.tileCorrected (4 * (d - 12) + k.toNat % 4) (s.freeVal 20)) s
        else l.foldl (fun s k =>
          let sl := 8 * (d - 6) + k.toNat
          s.eccFault 0x81 (uBS (sl / 4)) (bsStop (sl / 4)) 2 (s.freeVal 15 * 2 ^ 6 + sl * 2 ^ 24) false none)
          (s.clearHalf (d - 6))
      let s := s.setDom d { s.dom d with ready := true }
      if (s.reopening d).isSome then s.testStep else s
    | .uncorrectable loc => (s.seqFault 0x56 (s.stepDetail d 4 + loc.toNat * 2 ^ 24)).failStep d 4

/-- The always-on entry passes its reports on when PD1 opens (R128): the sequencer's reserve first. -/
def State.passHeld (s : State) : State :=
  let l := (s.conc.aonSeq ++ s.conc.aonOther).map Report.fault
  let room := 64 - s.conc.fifo.length
  ({ s with conc := { s.conc with fifo := s.conc.fifo ++ l.take room, held := l.drop room ++ s.conc.held,
                                  aonSeq := [], aonOther := [] } }).put Reg.WAT_STATUS_HELD 0

/-- Isolation is released (R60): the domain reads OPEN.  A cluster or basin half being reopened opens at step 5 instead;
the sensor ingress, which has no steps between, enters service here (R709). -/
def execDomainOpen (dom : BitVec 5) (s : State) : Out :=
  let d := dom.toNat
  .next <| if !(s.dom d).ready ∨ ((s.dom d).st ≠ .clockWait ∧ (s.dom d).st ≠ .scrub) ∨
      (d ≠ 11 ∧ (s.reopening d).isSome) then s
  else
    let s := s.setDom d { s.dom d with ready := false, attempt := 0 }
    let s := s.setSt d .opened
    let s := if d = 1 then s.passHeld
      else if d = 2 ∧ s.alarmed then s.put Reg.KPR_STATE_STATE 2
      else if 12 ≤ d then
        (List.range 4).foldl (fun s k => s.setDtile (4 * (d - 12) + k)
          { s.dtile (4 * (d - 12) + k) with idleSince := s.time copyDsp }) s
      else if (s.reopening d).isSome then
        (({ s with island := { s.island with linkUp := true } }).leaveStop 5 0).endStop 0
      else s
    s.advance

/-- A step outlasts its limit (R66, R67); limits are suspended under the SPILL_N clamp (R94). -/
def execStepTimeout (dom : BitVec 5) (s : State) : Out :=
  let d := dom.toNat
  .next <| match s.memReopening, decide (d = 10) && s.get Reg.PWR_STOP_STATUS_STEP == 1 with
  | some x, true => if !s.power.clamp && decide (x.since + 10000 ≤ s.gtc) then s.memStopFail x 1 else s
  | _, _ => match (s.dom d).st with
    | .railWait => if (s.dom d).ramp = .none ∧ s.late d 20000 then s.failStep d 1 else s
    | .ramping =>
      if s.late d (rampTime d + 50) then
        let s := s.setDom d { s.dom d with ramp := .none }
        if s.stopWaits d then s.gateClose d else s.failStep d 2
      else s
    | .clockWait => if (s.dom d).ready ∨ !(s.late d (s.clockLimit d)) then s else s.failStep d 3
    | .closed => s
    | .scrub => s
    | .opened => s
    | .closing => s
    | .stoppage => s
    | .disabled => s
    | .retryWait => s

/-- The wait of 100,000 t after a failed attempt ends (R67). -/
def execRetryWait (dom : BitVec 5) (s : State) : Out :=
  let d := dom.toNat
  .next <| match s.memReopening, decide (d = 10) && s.get Reg.PWR_STOP_STATUS_STEP == 0 with
  | some x, true =>
    if x.since + 100000 ≤ s.gtc then
      ({ s with stop := some { x with since := s.gtc } }).put Reg.PWR_STOP_STATUS_STEP 1
    else s
  | _, _ =>
    if (s.dom d).st = .retryWait ∧ 100000 ≤ s.elapsed d then
      let s := if (s.reopening d).isSome then s.put Reg.PWR_STOP_STATUS_STEP 1 else s
      s.startDomain d
    else s

/-! ## The Keeper's part (R74-R79, R630-R632) -/

/-- The Keeper's tests end; at a cold flight, or after VDD_SOC was lost, the OTP read and the derivation follow (R74,
R629, R741). -/
def execKeeperSelfTest (fail : Option KeeperFault) (s : State) : Out := whenLive 2 s fun s =>
  .next <| if !s.flight.running ∨ s.flight.katDone then s
  else match fail with
    | some f => s.kintegrity f
    | none =>
      let s := { s with flight := { s.flight with katDone := true, waitAt := s.gtc } }
      if s.flight.otpDone then s
      else
        let s := { s with flight := { s.flight with otpDone := true }, keeper := { s.keeper with keys := true } }
        (List.range 8).foldl (fun s k =>
          s.put (Reg.KPR_ID_PUB_KEY k) (Config.cipher 1 (s.fuses.serial * 8 + k))) s

/-- An image fails or is absent (R75): 0x1 KFW, 0x2 DSPM, 0x3 WATCH, 0xFF no bundle.  The record names step IMAGE, and
the code where other records name a domain (R95).  WATCH puts PD11 in stoppage; the others end the flight. -/
def State.imageFailed (s : State) (code : Nat) : State :=
  let s := (s.put Reg.PWR_FLIGHT_STATUS_STEP 5).seqFault 0x55 (code + 5 * 2 ^ 8)
  if code = 3 then
    let s := { s with flight := { s.flight with watchFailed := true } }
    let s := s.put Reg.PWR_FLIGHT_STATUS_STOPPED (s.get Reg.PWR_FLIGHT_STATUS_STOPPED + 1)
    (s.switchOff false 11 .stoppage).enterStop 5 0 true
  else s.flightFailed

/-- No bundle is posted within 1,000,000,000 t (10 s) of the Keeper's wait (R74, R75). -/
def execBundleTimeout (s : State) : Out :=
  .next (if s.flight.running ∧ s.flight.katDone ∧ s.flight.otpDone ∧ s.flight.bundle = none ∧ !s.alarmed ∧
      s.flight.waitAt + 1000000000 ≤ s.gtc then
    s.imageFailed 0xFF else s)

/-- Image entries of a bundle header (R630): type, SVN, offset and length; `none` where the header is malformed. -/
def parseBundle (h total : Nat) : Option (List (Nat × Nat × Nat × Nat)) :=
  let n := pfld h 6 1
  if pfld h 0 4 ≠ 0x4E425256 ∨ pfld h 4 2 ≠ 1 ∨ n < 2 ∨ 3 < n ∨ pfld h 8 4 ≠ total then none
  else some ((List.range n).map fun k =>
    (pfld h (0x80 + 32 * k) 1, pfld h (0x81 + 32 * k) 1, pfld h (0x84 + 32 * k) 4, pfld h (0x88 + 32 * k) 4))

/-- The Keeper fetches the posted or held bundle's header (R74, R79, R630).  One that cannot be fetched, or that lacks a
required image, fails that image (R75). -/
def execBundleFetch (s : State) : Out := whenLive 2 s fun s =>
  .next <| if !s.flight.running ∨ !s.flight.otpDone ∨ !s.flight.katDone ∨ s.flight.bundleFetched ∨ !(s.domOpen 10) then s
  else match s.flight.bundle with
    | none => s
    | some (pa, cid, total) =>
      match s.ownRead cid pa 256 with
      | none => (s.refusedRec cid none pa).imageFailed 1
      | some bs =>
        match parseBundle (leNat bs) total with
        | none => s.imageFailed 1
        | some l =>
          let l := if s.yard then l.filter fun e => e.1 != 3 else l
          if !(l.any fun e => e.1 == 1) then s.imageFailed 1
          else if !(l.any fun e => e.1 == 2) then s.imageFailed 2
          else { s with flight := { s.flight with
            bundleFetched := true, images := l, commitSvn := bitAt (pfld (leNat bs) 7 1) 0 } }

def imageCode : Image → Nat
  | .kfw => 1
  | .dspm => 2
  | .watch => 3

/-- The WATCH image is loaded and the island's core starts at 0 with every register zero (R107).  A warm flight leaves
the running program as it is (R93). -/
def State.loadWatch (s : State) (img : List Byte) : State :=
  if s.get Reg.PWR_FLIGHT_STATUS_KIND ≠ 0 then s
  else
    let s := { s with island := { s.island with sram := s.island.sram.putList 0 img } }
    (s.setTile 64 { Tile.reset with core := .running }).put Reg.WAT_STATUS_PROG_STATE 1

/-- The Keeper finishes authenticating an image in a flight (R94, R631): `sigOk` covers the signer's slot, the signature and the points'
validity; SVN, length and the difference of the party keys are checked here. -/
def execImageAuthenticate (img : Image) (sigOk : Bool) (s : State) : Out := whenLive 2 s fun s =>
  let c := imageCode img
  .next <| if !s.flight.running then s else match s.flight.images.find? (fun e => e.1 == c), s.flight.bundle with
    | some (_, svn, off, len), some (pa, cid, _) =>
      let s := { s with flight := { s.flight with
        images := s.flight.images.filter fun (e : Nat × Nat × Nat × Nat) => e.1 != c } }
      let lim := if c = 3 then 2 ^ 16 else 2 ^ 18
      match s.ownRead cid (pa + off) (min len lim) with
      | none => (s.refusedRec cid none (pa + off)).imageFailed c
      | some bs =>
        let keys := c != 1 || bs.take 0x40 != (bs.drop 0x40).take 0x40
        let fresh := c == 3 || decide (Tab.get 0 s.fuses.svn c ≤ svn)
        if !sigOk ∨ lim < len ∨ !fresh ∨ !keys then s.imageFailed c
        else match img with
          | .kfw =>
            let f := { s.flight with kfwLoaded := true, svn := s.flight.svn.set 1 svn }
            ({ s with flight := f, keeper := { s.keeper with kfw := bs } }).put Reg.KPR_STATE_STATE 1
          | .dspm =>
            let f := { s.flight with dspmLoaded := true, svn := s.flight.svn.set 2 svn }
            s.gateAct 3 5 fun s => { s with flight := f, keeper := { s.keeper with dspm := bs } }
          | .watch => s.loadWatch bs
    | _, _ => s

/-- The guarded settings' cold defaults (R195, R434, R598, R646), with every class generation at 0 (R636). -/
def State.coldGuarded (s : State) : State :=
  let s := s.resetRegs fun o => guardedOff o || (decide (0x01092004 ≤ o) && decide (o < 0x01092020))
  ((s.put (Reg.OBJ_PART_CFG_VALID 0) 1).put (Reg.OBJ_PART_CFG_CTX_LIMIT 0) 1024).put
    (Reg.OBJ_PART_CFG_CLUSTERS 0) s.fuses.clusterEn

/-- No domain of the flight is still on its way (R77). -/
def State.settled (s : State) : Bool :=
  s.flight.todo.isEmpty && (flightOrder ++ clusterDoms).all fun d => match (s.dom d).st with
    | .closed => true
    | .opened => true
    | .stoppage => true
    | .disabled => true
    | .railWait => false
    | .ramping => false
    | .clockWait => false
    | .scrub => false
    | .closing => false
    | .retryWait => false

/-- Thermometer fuses are blown up to the loaded SVNs (R632). -/
def State.commitSvns (s : State) : State :=
  if s.flight.commitSvn then
    { s with fuses := { s.fuses with svn := [1, 2].foldl (fun (t : Tab Nat) (c : Nat) =>
        t.set c (min 32 (max (Tab.get 0 t c) (Tab.get 0 s.flight.svn c)))) s.fuses.svn } }
  else s

/-! ## Wakes (R85-R87, R129-R131) -/

/-- Wake causes (R87, R146). -/
def wWatch : Nat := 1
def wWakeIn : Nat := 2
def wMgmt : Nat := 3
def wHost : Nat := 4

/-- Each wake updates WAT_WAKE_INFO and WAT_WAKE_STAMP (R129, R146).  REASON is the program's or 0xFF; for a wake of another
cause R146 gives none, and the model writes 0 (log entry 91). -/
def State.wakeInfo (s : State) (cause reason : Nat) : State :=
  (((s.wrap Reg.WAT_WAKE_INFO_SEQ 1).put Reg.WAT_WAKE_INFO_CAUSE cause).put Reg.WAT_WAKE_INFO_REASON reason).put
    Reg.WAT_WAKE_STAMP_STAMP s.gtc

/-- PENDING is set and WAKE_OUT rises (R131). -/
def State.wakeOutRise (s : State) : State :=
  { s.put Reg.WAT_WAKE_INFO_PENDING 1 with pins := { s.pins with wakeOut := true } }

/-- The result mailbox of the island is noted at the wake (R134). -/
def State.noteMailbox (s : State) : State :=
  { s with island := { s.island with mailbox := s.island.sram.le 0x3FFE0 32 } }

/-- A handoff for the last wake, or for HANDOFF_NOW, which has no wake of its own: its record names CAUSE, REASON and the
mailbox of the last wake (log entry 50). -/
def State.handoffReq (s : State) (now : Bool) : HandoffReq :=
  ⟨now, if now then 0 else s.get Reg.WAT_WAKE_STAMP_STAMP, s.get Reg.WAT_WAKE_INFO_CAUSE, s.get Reg.WAT_WAKE_INFO_REASON,
    s.island.mailbox, if now then none else s.island.kept⟩

/-- A handoff falls due (R132). -/
def State.askHandoff (s : State) (r : HandoffReq) : State :=
  { s with island := { s.island with handoffs := s.island.handoffs ++ [r] } }

/-- A resume flight starts (R87, R88): domains and RESUME_CL clusters that are not in stoppage. -/
def State.startResume (s : State) : State :=
  let cl := (List.range 16).filter fun c =>
    bitAt (s.get Reg.PWR_FLIGHT_CTRL_RESUME_CL) c && s.clEnabled c && !(s.inStoppage 1 c)
  let ds := ([1, 2, 5, 3, 4, 10, 6, 7].filter fun d => (s.dom d).st != .stoppage) ++ cl.map clDom
  let s := { s with flight := { s.flight with
    running := true, todo := ds, lastDom := none, lastClRamp := none, heatWait := s.tooHot, unwrapped := false,
    dspmChecked := false, restored := false, entryStep := 0, wakeDue := false } }
  let s := (((((s.put Reg.PWR_FLIGHT_STATUS_KIND 2).put Reg.PWR_FLIGHT_STATUS_PHASE 2).put
    Reg.PWR_FLIGHT_STATUS_DOMAIN 0).put Reg.PWR_FLIGHT_STATUS_STEP 0).put Reg.PWR_FLIGHT_STATUS_STOPPED 0).setEng engFlight
  s.wakeOutRise.advance

/-- The entry into watch standby is abandoned (R84, R85): the engine dispatches again. -/
def State.abandonEntry (s : State) (cause : Nat) : State :=
  let s := { s with flight := { s.flight with entryStep := 0 }, disp := { s.disp with on := true } }
  (((s.put Reg.PWR_FLIGHT_CTRL_STANDBY_REFUSED 1).put Reg.PWR_FLIGHT_CTRL_REFUSE_CAUSE cause).put
    Reg.PWR_FLIGHT_CTRL_STANDBY_REQ 0)

/-- The wake that a resume flight follows is noted for its handoff, the first where several arrive (R87, R132). -/
def State.noteResume (s : State) : State :=
  { s with island := { s.island with resumeReq := some (s.island.resumeReq.getD (s.handoffReq false)) } }

/-- A wake while the engine enters or holds watch standby, or resumes from it (R85, R87, R94). -/
def State.standbyWake (s : State) : State :=
  if s.eng = engStandby then s.noteResume.startResume
  else if 1 ≤ s.flight.entryStep ∧ s.flight.entryStep < 5 then s.abandonEntry 4
  else if 5 ≤ s.flight.entryStep then { s.noteResume with flight := { s.flight with wakeDue := true } }
  else s

/-- A program wake takes effect in READY or DEGRADED (R129): event vector, WAKE_OUT and a handoff. -/
def State.readyWake (s : State) (r : HandoffReq) : State :=
  let s := s.event (s.get Reg.WAT_CTRL_EVENT_VEC)
  let s := if s.on Reg.WAT_CTRL_EVENT_PIN then s.wakeOutRise else s
  s.askHandoff r

/-- PWR_WAKE_CMD (R103): a wake of cause MGMT in WATCH_STANDBY. -/
def execWake (src : Source) (value : BitVec 32) (s : State) : Out :=
  .next <| if s.srcReaches src ∧ bitAt value.toNat 0 ∧ s.eng = engStandby then
    ((s.wakeInfo wMgmt 0).noteMailbox).standbyWake else s

/-- A host write into the doorbell region in standby, or from step 4 of the entry on (R84, R86). -/
def execStrayDoorbellWrite (s : State) : Out :=
  .next <| if s.eng = engStandby ∨ 4 ≤ s.flight.entryStep then
    (((s.sat Reg.PWR_FLIGHT_CTRL_STRAY 1).wakeInfo wHost 0).noteMailbox).standbyWake else s

/-! ## The end of a flight (R77, R88) -/

/-- The engine is ready: it dispatches, ENG_STATE follows BY_FAILURE, and a program wake held during the flight takes
effect (R77, R129). -/
def State.ready (s : State) : State :=
  let s := { s with disp := { s.disp with on := true },
                    flight := { s.flight with running := false, lastDom := none } }
  let s := (s.put Reg.PWR_FLIGHT_STATUS_PHASE 5).put Reg.PWR_FLIGHT_STATUS_STEP 0
  let s := s.setEng (if s.get Reg.PWR_SERVICE_BY_FAILURE = 0 then engReady else engDegraded)
  s.island.heldWakes.foldl State.readyWake { s with island := { s.island with heldWakes := [] } }

/-- A cold or warm flight ends (R77, R93, R632): guarded settings at a lock cycle, cold defaults or as kept. -/
def execFlightReady (s : State) : Out :=
  let f := s.flight
  .next <| if !f.running ∨ s.get Reg.PWR_FLIGHT_STATUS_KIND ≥ 2 ∨ s.alarmed ∨ !s.settled ∨ !f.kfwLoaded ∨
      !f.dspmLoaded ∨ !f.images.isEmpty then s
  else
    let s := if s.get Reg.PWR_FLIGHT_STATUS_KIND = 0 ∨ !(s.partValid 0 || s.validMask != 0) then s.coldGuarded else s
    s.commitSvns.ready

/-! ## Clusters on demand, and closing (R40, R80, R92) -/

/-- The monitors of a cluster clear with its reset (R686). -/
def State.clusterMon (s : State) (c : Nat) : State :=
  let s := s.put (Reg.MON_DEMAND_COUNT c) 0
  (List.range 256).foldl (fun s k =>
    let kind := s.get (Reg.MON_SLOT_CFG_KIND k)
    let sub := s.get (Reg.MON_SLOT_CFG_SUBJECT k)
    if ((kind = 2 ∨ kind = 3) ∧ sub % 64 = clStop c) ∨ (kind = 6 ∧ sub % 32 = c) ∨ (kind = 7 ∧ sub % 32 = c) then
      s.resetRegs fun o => decide (0x010B2000 + 0x60 * k ≤ o) && decide (o < 0x010B2060 + 0x60 * k)
    else s) s

/-- A cluster's domain closes once its tiles are idle and its NI holds no packet, sent or received; at the entry into watch
standby clusters close in descending number (R84).  Another domain closes once every domain that closes before it has
closed (R40, R73, R661). -/
def execDomainClose (dom : BitVec 5) (s : State) : Out :=
  let d := dom.toNat
  .next <| if (s.dom d).st ≠ .closing then s
  else if 12 ≤ d then
    let n := clStop (d - 12)
    let higher := s.flight.entryStep == 3 && (List.range 16).any fun c => d - 12 < c && s.domLive (clDom c)
    if s.clusterIdle (d - 12) ∧ !higher ∧ !(s.mesh.waiting.any fun h => h.src.toNat == n) ∧
        !(s.mesh.arrived.any fun h => h.dst.toNat == n) then s.gateClose d else s
  else if (reverseOrder.takeWhile (· != d)).any fun e => (s.dom e).st == .closing then s
  else s.gateClose d

/-- A cluster begins to close (R40, R266): CLOSING where it is OPEN, after its ramp where one is under way (R64), else at
once. -/
def State.closeCluster (s : State) (c : Nat) : State :=
  let s := s.endClaims fun t _ => t / 4 == c
  match (s.dom (clDom c)).st with
  | .opened => s.gateAct (clDom c) 2 fun s => s.setSt (clDom c) .closing
  | .closing => s
  | .ramping => s
  | .closed => s.gateClose (clDom c)
  | .railWait => s.gateClose (clDom c)
  | .clockWait => s.gateClose (clDom c)
  | .scrub => s.gateClose (clDom c)
  | .stoppage => s.gateClose (clDom c)
  | .disabled => s.gateClose (clDom c)
  | .retryWait => s.gateClose (clDom c)

/-- PWR_RESET_CMD with KIND CLUSTER (R91, R92, R700). -/
def execCluster (src : Source) (value : BitVec 32) (s : State) : Out :=
  let c := resetTarget value
  .next <| if !(s.srcReaches src) ∨ !(resetCmdIs value 2) ∨ s.on Reg.PWR_RESET_STATUS_BUSY ∨ s.stop.isSome ∨
      s.flight.running ∨ !s.isReady ∨ !(s.clEnabled c) then s
  else
    let s := ((s.put Reg.PWR_RESET_STATUS_LAST_SOURCE (sourceCode src)).put Reg.PWR_RESET_STATUS_LAST_KIND 2).put
      Reg.PWR_RESET_STATUS_BUSY 1
    let x : StopCmd := ⟨1, c, false, true, s.byFailure 1 c, s.gtc, false⟩
    let s := ({ s with stop := some x }.clusterMon c).put Reg.PWR_STOP_STATUS_BUSY 1
    if (s.dom (clDom c)).st = .stoppage then s.beginReopen x (clDom c) else s.closeCluster c

/-- 100,000 t after a cluster began to close for a reset or STOP, tasks still running end with fault 0x58 and the
domain closes (R92, R701). -/
def execClusterDrainTimeout (cluster : BitVec 4) (s : State) : Out :=
  let c := cluster.toNat
  .next <| if (s.dom (clDom c)).st ≠ .closing ∨ !(s.stopWaits (clDom c)) ∨ s.elapsed (clDom c) < 100000 then s
  else
    let s := s.abortOn c 0x58 uSEQ srcNone (clDom c)
    let s := (List.range 4).foldl (fun s k => s.evict (4 * c + k) (.error 0x58 uSEQ none)) s
    s.gateClose (clDom c)

/-! ## Watch standby (R81-R89) -/

/-- A request for watch standby (R81, R98).  Where several causes of a refusal hold, REFUSE_CAUSE shows the first in R81's
list; the spec ranks none (log entry 86).  A request while an entry runs changes nothing. -/
def State.standbyRequest (s : State) : State :=
  let refuse := fun (c : Nat) =>
    (s.put Reg.PWR_FLIGHT_CTRL_STANDBY_REFUSED 1).put Reg.PWR_FLIGHT_CTRL_REFUSE_CAUSE c
  if s.on Reg.PWR_FLIGHT_CTRL_STANDBY_REQ then s
  else if s.yard then refuse 1
  else if !(s.on Reg.PWR_STANDBY_SAVE_VALID) then refuse 2
  else if !s.isReady then refuse 5
  else if s.on Reg.PWR_RESET_STATUS_BUSY ∨ s.on Reg.PWR_STOP_STATUS_BUSY ∨ s.get Reg.MSH_EPOCH_STATE ≠ 0 then refuse 6
  else
    let s := ({ s with flight := { s.flight with entryStep := 1, entryAt := s.gtc } }).stopDispatch
    (((s.put Reg.PWR_FLIGHT_CTRL_STANDBY_REQ 1).put Reg.PWR_FLIGHT_CTRL_REFUSE_CAUSE 0).put
      Reg.PWR_FLIGHT_CTRL_STRAY 0).put Reg.PWR_FLIGHT_STATUS_KIND 3

def execStandbyReq (src : Source) (value : BitVec 32) (s : State) : Out :=
  let v := value.toNat
  .next <| if !(s.srcReaches src) then s
  else
    let s := s.put Reg.PWR_FLIGHT_CTRL_RESUME_CL (bits v 31 16)
    let s := if bitAt v 2 then s.put Reg.PWR_FLIGHT_CTRL_STANDBY_REFUSED 0 else s
    if bitAt v 1 then s.standbyRequest else s

/-- Power control closes every open cluster (R84 step 3): each reads CLOSING from the highest number down. -/
def State.closeClusters (s : State) : State := s.beginClose fun d => decide (12 ≤ d)

/-- Step 2 of the entry (R84): every tile is idle and the clusters begin to close, or 100,000 t have passed since the
request and the entry is abandoned. -/
def execStandbyDrain (s : State) : Out :=
  .next <| if s.flight.entryStep ≠ 1 then s
  else if (List.range 16).all s.clusterIdle then
    ({ s with flight := { s.flight with entryStep := 3 } }).closeClusters
  else if s.flight.entryAt + 100000 ≤ s.gtc then s.abandonEntry 3 else s

/-- No cluster is open or on its way (R84). -/
def State.clustersShut (s : State) : Bool := clusterDoms.all fun d => match (s.dom d).st with
  | .closed => true
  | .stoppage => true
  | .disabled => true
  | .opened => false
  | .closing => false
  | .railWait => false
  | .ramping => false
  | .clockWait => false
  | .scrub => false
  | .retryWait => false

/-- Steps 3 and 4 of the entry (R84): the clusters are closed, one that opened meanwhile after closing too, and the units
save their state. -/
def execStandbyClustersClosed (s : State) : Out :=
  .next <| if s.flight.entryStep ≠ 3 then s
  else if s.clustersShut then ({ s with flight := { s.flight with entryStep := 4 } }).saveState
  else s.closeClusters

/-- The digest of an image (R633). -/
def digestOf (img : List Byte) : Nat := Config.cipher 384 (leNat img)

/-- The save is complete (R84, R633): KFW and DSPM are copied, their digests kept, and the wrap begins. -/
def execStandbySaveDone (s : State) : Out :=
  .next <| if s.flight.entryStep ≠ 4 then s
  else
    let s := (s.savePut 0x300000 s.keeper.kfw).savePut 0x340000 s.keeper.dspm
    { s with flight := { s.flight with entryStep := 5 },
             keeper := { s.keeper with digests := (digestOf s.keeper.kfw, digestOf s.keeper.dspm) } }

/-- Order in which the sequencer closes the domains of watch standby (R84 step 6). -/
def standbyOrder : List Nat := [11, 9, 8, 7, 6, 10, 4, 3, 5, 2, 1]

/-- The wrap completes and the domains close (R84 steps 5 and 6); a wake since then resumes at once (R85). -/
def execKeyStoreWrap (s : State) : Out :=
  .next <| if s.flight.entryStep ≠ 5 then s
  else
    let k := s.keeper
    let s := { s with
      keeper := { k with wrapped := true, keys := false, wrappedSeal := s.sealKeys, wrappedModel := s.modelKeys },
      sealKeys := [], modelKeys := [] }
    let s := s.switchOffAll true (standbyOrder.filter (· != 11))
    let s := { s with flight := { s.flight with entryStep := 0 } }
    let s := ((s.setEng engStandby).put Reg.PWR_FLIGHT_STATUS_PHASE 7).put Reg.PWR_FLIGHT_CTRL_STANDBY_REQ 0
    if s.flight.wakeDue then s.startResume else s

/-- The key store is unwrapped at a resume flight (R88), or the tag fails (R89). -/
def execKeyStoreUnwrap (tagOk : Bool) (s : State) : Out := whenLive 2 s fun s =>
  .next <| if !s.flight.running ∨ s.get Reg.PWR_FLIGHT_STATUS_KIND ≠ 2 ∨ s.flight.unwrapped then s
  else if tagOk then { s.unwrapKeys with flight := { s.flight with unwrapped := true } }
  else s.kintegrity .retention

/-- KFW and DSPM are fetched from the save region and their digests compared (R88, R89, R633). -/
def execDspmDigestCheck (s : State) : Out := whenLive 2 s fun s =>
  .next <| if !s.flight.running ∨ !s.flight.unwrapped ∨ s.flight.dspmChecked ∨ !(s.domOpen 10) ∨ !(s.domOpen 3) then s
  else
    let rd := fun (o n : Nat) => (s.ownRead s.driverCid (s.saveAt o) n).getD []
    let k := rd 0x300000 s.keeper.kfw.length
    let d := rd 0x340000 s.keeper.dspm.length
    if digestOf k ≠ s.keeper.digests.1 then s.imageFailed 1
    else if digestOf d ≠ s.keeper.digests.2 then s.imageFailed 2
    else ({ s with flight := { s.flight with dspmChecked := true },
                   keeper := { s.keeper with kfw := k, dspm := d } }).put Reg.KPR_STATE_STATE 1

/-- The restore ends and the dispatcher dispatches (R88): READY or DEGRADED, and the resume flight's handoff (R132). -/
def execStateRestore (s : State) : Out := whenTow s fun s =>
  let f := s.flight
  .next <| if !f.running ∨ s.get Reg.PWR_FLIGHT_STATUS_KIND ≠ 2 ∨ !f.unwrapped ∨ !f.dspmChecked ∨ !s.settled then s
  else
    let s := { s.restoreState with flight := { f with restored := true } }
    let s := s.ready
    let r := s.island.resumeReq.getD (s.handoffReq false)
    ({ s with island := { s.island with resumeReq := none } }).askHandoff r

end Sys2Proof.Machine
end

