-- ==== Sys2Proof/Machine/TileControl.lean ====
section
/-! DEFINITION. The tile machine beside its instructions (chapters 07 and 08): the instruction store, barges
and mover faults, exceptions and the completion of unit instructions. -/

namespace Sys2Proof.Machine

/-! ## Exceptions (R302-R305) -/

/-- An exception arises: the core stops issuing and the tile drains (R305).  Of several instructions of one
task, the earliest in program order stands (R304). -/
def Tile.raiseAt (t : Tile) (e : TileExc) : Tile :=
  { t with core := .ending, atEnd := false, wait := none, call := none,
           exc := match t.exc with
             | some x => if e.order < x.order then some e else some x
             | none => some e }

/-- An instruction of the control core raises an exception at its issue. -/
def Tile.raise (t : Tile) (e : Exc) : Tile := t.raiseAt ⟨e.code, e.detail, t.pc, t.issueNo⟩

/-- Loops closed at `next` (R327): the loop state and the PC.  `n` bounds the nesting. -/
def Tile.closeLoops (next : Nat) : Nat → Tile → Tile
  | 0, t => { t with pc := next }
  | n + 1, t =>
    if t.depth = 0 then { t with pc := next }
    else
      let k := t.depth - 1
      let l := t.loopReg k
      if (l.stop + 4) % 2 ^ 32 ≠ next then { t with pc := next }
      else if 1 < l.count then { t with loops := t.loops.set k { l with count := l.count - 1 }, pc := l.start }
      else Tile.closeLoops next n { t with loops := t.loops.set k { l with count := 0 }, depth := k }

/-- After a stepped instruction the tile halts, at once or with its last unit instruction (R653). -/
def State.stepped (s : State) (u : Nat) : State :=
  if (s.tile u).stepping then
    if (s.tile u).units.isEmpty then s.haltTile u 2 else s.updTile u fun t => { t with haltCause := 2 }
  else s

/-- Bytes of the instruction: 8 for an EXT pair (R301). -/
def wordsLen (ext : Bool) : Nat := if ext then 8 else 4

/-- Core `u`'s instruction completes without transferring control (R327): loops close and the PC moves on. -/
def State.complete (s : State) (u : Nat) (ext : Bool) : State :=
  (s.updTile u fun x => x.closeLoops ((x.pc + wordsLen ext) % 2 ^ 32) 4).stepped u

/-- A WAIT releases (R337): the core runs on from Next. -/
def State.waitDone (s : State) (u : Nat) : State :=
  let s := s.updTile u fun t => { t with wait := none, core := if t.core = .wait then .running else t.core }
  let s := if u = 64 then s.put Reg.WAT_STATUS_PROG_STATE 1 else s
  s.complete u false

/-! ## Mover faults (R258, R335, R427) -/

/-- The tile whose core and task are live. -/
def State.tileTask (s : State) (u : Nat) : Option (Nat × Nat × Nat) := (s.tile u).task

/-- The task of a tile ends with a code outside the exceptions, whose record `id` has been raised: the tile
aborts (R437, R490). -/
def State.failWith (s : State) (u code id : Nat) : State :=
  match s.holder u with
  | none => s
  | some (q, i, _, r) =>
    (s.updPkt q i fun p => { p with noMore := true }).abortRun q i r (.error code (uCLS (u / 4)) (some id))

/-- The same with the record of a decryption failure (R437). -/
def State.failTask (s : State) (u code detail : Nat) : State :=
  match s.holder u with
  | none => s
  | some (q, _, _, _) => (s.tileFault u code detail (s.tile u).cid (some q)).failWith u code s.recId

/-- A request of tile `u`'s mover failed (R335, R427).  A suspending code creates a suspension and the task is
switched out, or stays suspended on its tile when no slot is free; a mesh code ends the task (R490); another
code loses the context; during
the drain after an exception the fault is recorded and nothing else (R305). -/
def State.moverFault (s : State) (u va : Nat) (acc : Access) (e : XErr) : State :=
  let x := s.tile u
  match x.task with
  | none => s
  | some (q, i, inst) =>
    let unit := uCLS (u / 4)
    let src := srcTile u
    if x.core = .ending ∧ !x.atEnd then s.recordX unit src x.cid (some q) e
    else if suspends e.code ∨ (0x40 ≤ e.code ∧ e.code ≤ 0x4F) then
      let n := match s.holder u with
        | some (_, _, _, r) => s.runCount r
        | none => 0
      let (s, _) := s.suspend unit src x.cid q i inst va acc u e
      let s := (s.updTile u fun x => { x with core := .suspended, wait := none, call := none, fetch := none, atEnd := false }).updPkt q i
        fun p => { p with runs := p.runs.map fun r => if r.inst = inst then { r with runT := n } else r }
      let s := s.setDtile u { s.dtile u with st := .suspended }
      (s.switchOut u).1
    else if meshCode e.code then (s.recordX unit src x.cid (some q) e).failWith u e.code s.recId
    else s.loseX unit src x.cid (some q) e

/-! ## The instruction store (R295, R296) -/

/-- Set of an instruction-store line (R296). -/
def ILine.set (l : ILine) : Nat := (l.off / 2 ^ 8 % 64) ^^^ (l.entry % 64)

/-- The line that holds offset `pc` of the tile's program. -/
def Tile.lineFor (t : Tile) (pc : Nat) : ILine := ⟨t.cid, t.progEntry, t.progGen, pc / 256 * 256⟩

/-- The instruction store with a line brought in, least recently used way of its set replaced (R296). -/
def Tile.fillLine (t : Tile) (l : ILine) : Tile :=
  let others := t.istore.filter (· != l)
  let same := others.filter fun m => m.set == l.set
  let keep := same.take 3
  { t with istore := l :: others.filter fun m => m.set != l.set || keep.contains m }

/-- A line is used: it is the most recently used of its set. -/
def Tile.touchLine (t : Tile) (l : ILine) : Tile :=
  if t.istore.contains l then { t with istore := l :: t.istore.filter (· != l) } else t

/-- The 64-byte parts of a line that hold bytes below SIZE (R296). -/
def lineParts (off size : Nat) : List Nat := (List.range 4).filter fun k => off + 64 * k < size

/-- An instruction-store miss's line read returns (R296): the line joins the store and the miss counts, or the fetch faults.
`ecc`: a resident line found uncorrectable is discarded and fetched again (R674). -/
def execIstoreLineFill (tile : BitVec 6) (pc : BitVec 32) (ecc : EccEnd) (s : State) : Out :=
  let u := tile.toNat
  let x := s.tile u
  let l := x.lineFor pc.toNat
  .next <|
    if x.task.isNone ∨ (x.core ≠ .running ∧ x.core ≠ .fetchWait) ∨ x.progSize ≤ pc.toNat then s
    else
      let s := match ecc with
        | .clean => s
        | .corrected => s.eccFault 0x81 (uCLS (u / 4)) (srcTile u) 5 l.off false (some x.cid)
        | .uncorrectable =>
          (s.eccFault 0x80 (uCLS (u / 4)) (srcTile u) 5 l.off true (some x.cid)).updTile u
            fun x => { x with istore := x.istore.filter (· != l) }
      let x := s.tile u
      if x.istore.contains l then (s.updTile u fun x => { x.touchLine l with core := .running, fetch := none })
      else
        let bad := (lineParts l.off x.progSize).findSome? fun k =>
          match s.readVaBy u x.cid (x.progVa + l.off + 64 * k) 64 with
          | .err e => some (e, x.progVa + l.off + 64 * k)
          | .ok _ => none
        match bad with
        | some (e, va) => s.moverFault u va .fetch e
        | none => (s.sat (Reg.CLS_TILE_COUNTS_ISTORE_MISS u) 1).updTile u fun x =>
            { x.fillLine l with core := .running, fetch := none }

/-! ## Barges (R281, R331-R336, R437) -/

/-- Identifier, DIR, STRIDED and SEALED of a barge's func (R331). -/
def Barge.id (b : Barge) : Nat := b.func.toNat / 16 % 16
def Barge.store (b : Barge) : Bool := bitAt b.func.toNat 0
def Barge.strided (b : Barge) : Bool := bitAt b.func.toNat 1
def Barge.sealed (b : Barge) : Bool := bitAt b.func.toNat 2

/-- The byte moves of a barge from element `done` on: (element index, tile-store address, memory address) in
element order, then the scales (R333). -/
def Barge.moves (b : Barge) (d : Desc) : List (Nat × Nat × Nat) :=
  let per := if d.fmt.is4 then 2 else 1
  let eb := if d.fmt.is4 then 1 else d.fmt.bits / 8
  let units := d.d0 / per
  let sx := fun (w : Word) => w.toInt
  let els := (d.rows.zip (List.range d.rows.length)).map fun ((i1, i2, i3), row) =>
    ((List.range units).map fun k =>
      (List.range eb).map fun j =>
        let mem : Nat :=
          if b.strided then
            ((b.va + k * eb + j : Nat) + (i1 : Int) * sx b.m1 + (i2 : Int) * sx b.m2 + (i3 : Int) * sx b.m3).emod (2 ^ 64) |>.toNat
          else (b.va + (row * units + k) * eb + j) % 2 ^ 64
        (row * d.d0 + k * per, d.addr 0 i1 i2 i3 + k * eb + j, mem)).flatten
  let scales := (List.range d.scaleCount).map fun k =>
    (d.count, d.bsPtr + k, (b.va + d.rowBytes * d.rows.length + k) % 2 ^ 64)
  (els.flatten ++ scales).filter fun e => b.done ≤ e.1

/-- Which of two bytes a place written twice holds is not specified (R333, log entry 3): a free bit chooses
whether the later write lands. -/
def State.chooseLater (s : State) : State × Bool := (s.tookFree, s.freeVal 1 == 1)

/-- The bytes of a load barge moved in order, to the first failure: the element, address and fault. -/
def State.loadMoves (s : State) (u : Nat) (seen : List Nat) :
    List (Nat × Nat × Nat) → State × Option (Nat × Nat × XErr)
  | [] => (s, none)
  | (el, ta, va) :: ms =>
    match s.reachBy u (s.tile u).cid va .read with
    | .err e => (s, some (el, va, e))
    | .ok pa =>
      let b := s.physByte pa
      let (s, go) := if seen.contains ta then s.chooseLater else (s, true)
      let s := if go then s.updTile u fun t => t.wr ta b else s
      State.loadMoves s u (ta :: seen) ms

/-- The bytes of a store barge moved in order, to the first failure. -/
def State.storeMoves (s : State) (u : Nat) (seen : List Nat) :
    List (Nat × Nat × Nat) → State × Option (Nat × Nat × XErr)
  | [] => (s, none)
  | (el, ta, va) :: ms =>
    match s.reachBy u (s.tile u).cid va .write with
    | .err e => (s, some (el, va, e))
    | .ok pa =>
      let (s, go) := if seen.contains va then s.chooseLater else (s, true)
      let s := if go then s.physPut pa ((s.tile u).rd ta) else s
      State.storeMoves s u (va :: seen) ms

/-- The barge leaves the mover queue. -/
def Tile.dropBarge (t : Tile) (id : Nat) : Tile := { t with barges := t.barges.filter fun b => b.id != id }

/-- A load barge of a protected tensor (R437): the header is read first, the key looked up, the ciphertext
decrypted into the tile store; `tagOk` is the outcome of the tag check. -/
def State.sealedLoad (s : State) (u : Nat) (b : Barge) (d : Desc) (tagOk : Bool) : State :=
  let cid := (s.tile u).cid
  let ms := { b with done := 0 }.moves d
  match s.readVaBy u cid b.va 32 with
  | .err e => (s.updTile u fun t => { t with barges := t.barges.map fun c => if c.id = b.id then { c with faulted := true } else c }).moverFault u b.va .read e
  | .ok h =>
    let keyId := leNat ((h.drop 12).take 4)
    match s.modelKeys.find? fun k => k.1 == (s.ctx cid).pid && k.2.1 == keyId with
    | none => (s.updTile u (·.dropBarge b.id)).failTask u 0x07 (keyId + 2 ^ 32)
    | some (_, _, key) =>
      match s.readVaBy u cid (b.va + 32) ms.length with
      | .err e => (s.updTile u fun t => { t with barges := t.barges.map fun c => if c.id = b.id then { c with faulted := true } else c }).moverFault u (b.va + 32) .read e
      | .ok ct =>
        if tagOk then
          let pt := leBytes ms.length (Config.gcmOpen key (leNat (h.take 12)) (leNat ct))
          (s.countFor cid fun c => { c with bytes := c.bytes + ms.length }).updTile u fun t =>
            ((ms.zip pt).foldl (fun t e => t.wr e.1.2.1 e.2) t).dropBarge b.id
        else
          let s := s.updTile u fun t =>
            let ls := (ms.map fun e => e.2.1 / 64).eraseDups
            { (ls.foldl (fun t l => { t with store := t.store.wipe (l * 64) 64, written := t.written.set l false }) t) with
              barges := t.barges.filter fun c => c.id != b.id }
          s.failTask u 0x07 keyId

/-- A barge runs to its end or its fault (R334, R335).  What it moved counts for its context (R686), and the unwritten lines
that a store sent as zeros count as read (R291).  A barge behind a faulted one stays stopped. -/
def State.runBarge (s : State) (u id : Nat) (tagOk : Bool) : State :=
  let t := s.tile u
  let before := t.barges.takeWhile fun b => b.id != id
  match t.barges.find? fun b => b.id == id with
  | none => s
  | some b =>
    if before.any (·.faulted) ∨ b.faulted then s
    else match descFields b.desc with
      | none => s.updTile u (·.dropBarge id)
      | some d =>
        if b.sealed then s.sealedLoad u b d tagOk
        else
          let ms := b.moves d
          let (s', err) := if b.store then s.storeMoves u [] ms else s.loadMoves u [] ms
          let moved := match err with
            | none => ms
            | some (el, _, _) => ms.filter fun e => e.1 < el
          let s' := s'.countFor t.cid fun c => { c with bytes := c.bytes + moved.length }
          let s' := if b.store then
              s'.countUnwritten u (t.unwrittenIn (moved.map fun e => (e.2.1, 1))).length
            else s'
          match err with
          | none =>
            let s' := s'.updTile u (·.dropBarge id)
            match (s'.tile u).wait with
            | some (.barges m) =>
              if (s'.tile u).barges.any fun c => bitAt m c.id then s'
              else s'.waitDone u
            | _ => s'
          | some (el, va, e) =>
            if (s'.tile u).core = .ending ∧ !(s'.tile u).atEnd then
              (s'.updTile u (·.dropBarge id)).moverFault u va (if b.store then .write else .read) e
            else
              let s' := s'.updTile u fun t => { t with barges := t.barges.map fun c =>
                if c.id = id then { c with done := el, faulted := true } else c }
              s'.moverFault u va (if b.store then .write else .read) e

/-- Ranges of the tile store that a barge reads (R288): what it stores, or the words that its loads write in part. -/
def Tile.bargeReads (t : Tile) (id : Nat) : List (Nat × Nat) :=
  match t.barges.find? fun b => b.id == id with
  | none => []
  | some b => match descFields b.desc with
    | none => []
    | some d => if b.store then d.ranges else partialWords d.ranges

/-- A barge completes, or ends in its fault (R334, R335, R437).  One that meets an uncorrectable word of the tile store moves
nothing more (R288, log entry 113). -/
def execBargeComplete (tile : BitVec 6) (id : BitVec 4) (tagOk : Bool) (hits : List TileHit) (s : State) : Out :=
  let u := tile.toNat
  .next <| match s.readEcc u (s.tile u).cid ((s.tile u).bargeReads id.toNat) hits with
    | (s, true) => s.updTile u (·.dropBarge id.toNat)
    | (s, false) => s.runBarge u id.toNat tagOk

/-- A mover request faults on the way to another die (R335, R519): `code` is the link's fault, for the barge
`id`, which stops at its first element not yet moved. -/
def execMoverFault (tile : BitVec 6) (id : BitVec 4) (code : BitVec 8) (s : State) : Out :=
  let u := tile.toNat
  .next <| match (s.tile u).barges.find? fun b => b.id == id.toNat && !b.faulted with
    | none => s
    | some b =>
      if 0x40 ≤ code.toNat ∧ code.toNat ≤ 0x4F then
        (s.updTile u fun t => { t with barges := t.barges.map fun c =>
          if c.id = b.id then { c with faulted := true } else c }).moverFault u b.va
            (if b.store then .write else .read) ⟨code.toNat, b.va % 2 ^ 48, 0, 0, 0⟩
      else s

/-! ## Unit instructions (R280, R282) -/

/-- The oldest unfinished instruction of a unit. -/
def Tile.frontOp (t : Tile) (unit : Nat) : Option UnitOp := t.units.find? fun (o : UnitOp) => o.unit == unit

/-- The exception of a unit's oldest instruction arises, when it has one and none of its task is being aborted
(R304, R305). -/
def Tile.opRaise (t : Tile) (unit : Nat) : Tile := match (t.frontOp unit).bind (·.exc) with
  | some e => if coreHolds t.core then t.raiseAt e else t
  | none => t

/-- The tile without the oldest unfinished instruction of a unit (R282). -/
def Tile.unitDone (t : Tile) (unit : Nat) : Tile :=
  { t with units := t.units.takeWhile (fun (o : UnitOp) => o.unit != unit) ++
      (t.units.dropWhile fun (o : UnitOp) => o.unit != unit).drop 1 }

/-- The oldest unfinished instruction of a unit completes, with the exception it met, and releases its
interlocks (R282); with the last, a WAIT UNITS releases (R337) and a stepped tile halts (R653). -/
def execUnitInstructionComplete (tile : BitVec 7) (unit : BitVec 2) (s : State) : Out :=
  let u := min tile.toNat 64
  let s := s.updTile u fun t => (t.opRaise unit.toNat).unitDone unit.toNat
  let s := if (s.tile u).wait = some .units ∧ (s.tile u).units.isEmpty then s.waitDone u else s
  .next <|
    if (s.tile u).stepping ∧ (s.tile u).haltCause = 2 ∧ (s.tile u).units.isEmpty then s.haltTile u 2 else s

end Sys2Proof.Machine
end

