-- ==== Sys2Proof/Machine/Flags.lean ====
section
/-! DEFINITION. Number formats, rounding and the numeric conditions (chapter 10, R358, R393-R401): exact
values, the grid of each format, the rounding modes, the overflow rule and what an element's conversion
counts and meets. -/

namespace Sys2Proof.Machine

/-! ## Exact values -/

/-- An exact value: a NaN, an infinity, or a signed multiple of a power of two. -/
inductive Num where
  | nan
  | inf (neg : Bool)
  | fin (neg : Bool) (m : Nat) (e : Int)
  deriving DecidableEq, Repr

/-- Layout of a floating-point format (R388, R389): exponent and fraction bits, bias, code of the largest
finite magnitude, code of infinity and of the NaN written. -/
structure Flt where
  eb : Nat
  fb : Nat
  bias : Nat
  maxCode : Nat
  infCode : Option Nat
  nanCode : Option Nat
  deriving DecidableEq, Repr

def fltFp32 : Flt := ⟨8, 23, 127, 0x7F7FFFFF, some 0x7F800000, some 0x7FC00000⟩

/-- The layout of a format, `none` for an integer format (R388, R389). -/
def Fmt.flt : Fmt → Option Flt
  | .fp32 => some fltFp32
  | .bf16 => some ⟨8, 7, 127, 0x7F7F, some 0x7F80, some 0x7FC0⟩
  | .fp16 => some ⟨5, 10, 15, 0x7BFF, some 0x7C00, some 0x7E00⟩
  | .e4m3 => some ⟨4, 3, 7, 0x7E, none, some 0x7F⟩
  | .e5m2 => some ⟨5, 2, 15, 0x7B, some 0x7C, some 0x7E⟩
  | .e2m1 => some ⟨2, 1, 1, 0x7, none, none⟩
  | .int16 => none
  | .int8 => none
  | .uint8 => none
  | .int4 => none

/-- Range of an integer format (R388). -/
def Fmt.range : Fmt → Int × Int
  | .int16 => (-32768, 32767)
  | .int8 => (-128, 127)
  | .uint8 => (0, 255)
  | .int4 => (-8, 7)
  | .fp32 => (0, 0)
  | .bf16 => (0, 0)
  | .fp16 => (0, 0)
  | .e4m3 => (0, 0)
  | .e5m2 => (0, 0)
  | .e2m1 => (0, 0)

/-- Value of a code of a floating-point format (R388, R389). -/
def Flt.val (f : Flt) (c : Nat) : Num :=
  let neg := bitAt c (f.eb + f.fb)
  let mag := c % 2 ^ (f.eb + f.fb)
  let ex := mag / 2 ^ f.fb
  let fr := mag % 2 ^ f.fb
  if some mag = f.infCode then .inf neg
  else if f.maxCode < mag then .nan
  else if ex = 0 then .fin neg fr (1 - (f.bias : Int) - f.fb)
  else .fin neg (2 ^ f.fb + fr) ((ex : Int) - f.bias - f.fb)

/-- Value of a whole number. -/
def Num.ofInt (v : Int) : Num := .fin (decide (v < 0)) v.natAbs 0

/-- Value of a code of a storage format (R388). -/
def Fmt.val (f : Fmt) (c : Nat) : Num := match f.flt with
  | some l => l.val c
  | none => if f = .uint8 then .fin false (c % 256) 0 else .ofInt (asSigned f.bits c)

/-- Value of a 32-bit word as FP32. -/
def f32 (w : Word) : Num := fltFp32.val w.toNat

/-- A NaN. -/
def Num.isNan (x : Num) : Bool := x == .nan

/-- The signed multiple of `2 ^ e` of a finite value, for `e` at most its own exponent. -/
def Num.at_ (x : Num) (e : Int) : Int := match x with
  | .fin n m ex => (if n then -1 else 1) * (m : Int) * 2 ^ (ex - e).toNat
  | .nan => 0
  | .inf _ => 0

/-- Exponent of a finite value. -/
def Num.exp : Num → Int
  | .fin _ _ e => e
  | .nan => 0
  | .inf _ => 0

def Num.neg : Num → Num
  | .nan => .nan
  | .inf n => .inf !n
  | .fin n m e => .fin (!n) m e

def Num.abs : Num → Num
  | .nan => .nan
  | .inf _ => .inf false
  | .fin _ m e => .fin false m e

def Num.sign : Num → Bool
  | .nan => false
  | .inf n => n
  | .fin n _ _ => n

def Num.isZero : Num → Bool
  | .nan => false
  | .inf _ => false
  | .fin _ m _ => m == 0

/-- Exact product (IEEE 754 signs; infinity times zero is a NaN). -/
def Num.mul : Num → Num → Num
  | .nan, _ => .nan
  | _, .nan => .nan
  | .inf a, .inf b => .inf (a != b)
  | .inf a, .fin b m _ => if m = 0 then .nan else .inf (a != b)
  | .fin a m _, .inf b => if m = 0 then .nan else .inf (a != b)
  | .fin a m e, .fin b n f => .fin (a != b) (m * n) (e + f)

/-- Exact sum (IEEE 754 under round to nearest even: a zero sum is −0 only of two −0). -/
def Num.add : Num → Num → Num
  | .nan, _ => .nan
  | _, .nan => .nan
  | .inf a, .inf b => if a == b then .inf a else .nan
  | .inf a, .fin _ _ _ => .inf a
  | .fin _ _ _, .inf b => .inf b
  | .fin a m e, .fin b n f =>
    let g := min e f
    let s := (Num.fin a m e).at_ g + (Num.fin b n f).at_ g
    .fin (if s = 0 then a && b else decide (s < 0)) s.natAbs g

/-- Value times a power of two. -/
def Num.scale (k : Int) : Num → Num
  | .nan => .nan
  | .inf n => .inf n
  | .fin n m e => .fin n m (e + k)

/-- Numeric order, with −0 below +0; NaNs are not ordered. -/
def Num.lt : Num → Num → Bool
  | .nan, _ => false
  | _, .nan => false
  | .inf a, .inf b => a && !b
  | .inf a, .fin _ _ _ => a
  | .fin _ _ _, .inf b => !b
  | .fin a m e, .fin b n f =>
    if m = 0 ∧ n = 0 then a && !b
    else
      let g := min e f
      decide ((Num.fin a m e).at_ g < (Num.fin b n f).at_ g)

/-- Exponent of the binade of a non-zero magnitude. -/
def topExp (m : Nat) (e : Int) : Int := (Nat.log2 m : Int) + e

/-! ## Rounding (R393-R395) -/

/-- The rounding modes of R394. -/
inductive RMode where
  | near | zero | down | up | stoch
  deriving DecidableEq, Repr

/-- The rounding mode of an RM code; 0x5-0x7 are illegal (R378). -/
def rmodeOf : Nat → Option RMode
  | 0 => some .near
  | 1 => some .zero
  | 2 => some .down
  | 3 => some .up
  | 4 => some .stoch
  | _ => none

/-- A magnitude rounded onto the multiples of `2 ^ g` (R394, R395): the number of grid steps.  `r` is the
lane's random number. -/
def roundTo (rm : RMode) (r : Nat) (neg : Bool) (m : Nat) (e g : Int) : Nat :=
  if g ≤ e then m * 2 ^ (e - g).toNat
  else
    let d := 2 ^ (g - e).toNat
    let q := m / d
    let rem := m % d
    if rem = 0 then q
    else match rm with
      | .near => if 2 * rem < d then q else if d < 2 * rem then q + 1 else q + q % 2
      | .zero => q
      | .down => if neg then q + 1 else q
      | .up => if neg then q else q + 1
      | .stoch =>
        let f16 := (if neg then d - rem else rem) * 65536 / d
        if (65536 ≤ f16 + r) == neg then q else q + 1

/-- Exponent of the grid step of a format at a magnitude (R393). -/
def Flt.grid (f : Flt) (m : Nat) (e : Int) : Int := max (topExp m e) (1 - (f.bias : Int)) - f.fb

/-- Magnitude code of `q` grid steps of `2 ^ g`; above the largest finite value it goes on with an unbounded
exponent (R393). -/
def Flt.code (f : Flt) (q : Nat) (g : Int) : Nat :=
  if q < 2 ^ f.fb then q else ((g + f.bias + f.fb - 1).toNat) * 2 ^ f.fb + q

/-- A finite magnitude rounded into a format: its magnitude code, unbounded (R393, R394). -/
def Flt.round (f : Flt) (rm : RMode) (r : Nat) (neg : Bool) (m : Nat) (e : Int) : Nat :=
  if m = 0 then 0 else f.code (roundTo rm r neg m e (f.grid m e)) (f.grid m e)

/-- An exact value as an FP32 word, rounded to nearest even with IEEE overflow (R362, R370). -/
def toF32 : Num → Word
  | .nan => 0x7FC00000
  | .inf n => if n then 0xFF800000 else 0x7F800000
  | .fin n m e => BitVec.ofNat 32 (b2n n * 2 ^ 31 + min (fltFp32.round .near 0 n m e) 0x7F800000)

/-- A word holds a subnormal FP32 number. -/
def isSubnormal (w : Word) : Bool := let m := w.toNat % 2 ^ 31; m != 0 && decide (m < 2 ^ 23)

/-- One step of the stochastic rounding state (R395). -/
def lfsrNext (s : BitVec 16) : BitVec 16 := if s.getLsbD 0 then (s >>> 1) ^^^ 0xB400 else s >>> 1

/-- The number a lane gives: a lane holding 0 is read as 0xACE1 (R395). -/
def laneRand (s : BitVec 16) : BitVec 16 := if s = 0 then 0xACE1 else s

/-! ## Block scales (R391) -/

/-- An element read under a block scale code (R391). -/
def scaled (c : Nat) (x : Num) : Num := if c = 0xFF then .nan else x.scale ((c : Int) - 127)

/-! ## Conversion of one element (R397-R401) -/

/-- The numeric conditions (R358). -/
def cNan : Nat := 0
def cClip : Nat := 1
def cFlush : Nat := 2
def cOverflow : Nat := 3

/-- A converted element: the code written, what it counts (R398-R401), and whether a NaN came from inputs
that are none. -/
structure Elem where
  code : Nat
  clip : Bool
  flush : Bool
  nan : Bool
  newNan : Bool
  deriving DecidableEq, Repr

/-- The lowest-numbered enabled condition that an element meets (R358, R408). -/
def Elem.trap (x : Elem) (tmode : Word) : Option Nat :=
  if x.newNan && tmode.getLsbD cNan then some cNan
  else if x.clip && tmode.getLsbD cClip then some cClip
  else if x.flush && tmode.getLsbD cFlush then some cFlush
  else none

/-- Zero-point and clamp of a rescale entry for an integer destination (R402, R405). -/
structure Post where
  zp : Int
  clampEn : Bool
  lo : Int
  hi : Int
  deriving DecidableEq, Repr

def Post.none_ : Post := ⟨0, false, 0, 0⟩

/-- The clamp of step 5 (R405), brought back into the destination's range. -/
def Post.clamp (p : Post) (f : Fmt) (y : Int) : Int :=
  if p.clampEn then max f.range.1 (min f.range.2 (min (max y p.lo) p.hi)) else y

/-- A value as a code of an integer format. -/
def Fmt.intCode (f : Fmt) (y : Int) : Nat := (y.emod (2 ^ f.bits : Nat)).toNat

/-- Step 2 to 5 of R397 for an integer destination (R398, R399, R405). -/
def toIntElem (f : Fmt) (rm : RMode) (r : Nat) (p : Post) : Num → Elem
  | .nan => ⟨f.intCode (p.clamp f 0), true, false, false, false⟩
  | .inf n => ⟨f.intCode (p.clamp f (if n then f.range.1 else f.range.2)), true, false, false, false⟩
  | .fin n m e =>
    let q : Int := roundTo rm r n m e 0
    let y := (if n then -q else q) + p.zp
    let c := max f.range.1 (min f.range.2 y)
    ⟨f.intCode (p.clamp f c), y ≠ c, false, false, false⟩

/-- Step 2 and 4 of R397 for a floating-point destination (R398-R401); `ieee` is OVF; `inNan`: an input of
the value is a NaN. -/
def toFltElem (l : Flt) (rm : RMode) (r : Nat) (ieee inNan : Bool) (x : Num) : Elem :=
  let sgn := fun (n : Bool) => b2n n * 2 ^ (l.eb + l.fb)
  let beyond := fun (n : Bool) => match ieee, l.infCode, l.nanCode with
    | true, some i, _ => (sgn n + i, false)
    | true, none, some c => (c, true)
    | _, _, _ => (sgn n + l.maxCode, false)
  match x with
  | .nan => match l.nanCode with
    | some c => ⟨c, false, false, true, !inNan⟩
    | none => ⟨0, true, false, false, false⟩
  | .inf n =>
    let o := beyond n
    ⟨o.1, !(ieee && l.infCode.isSome), false, o.2, o.2 && !inNan⟩
  | .fin n m e =>
    let c := l.round rm r n m e
    if l.maxCode < c then
      let o := beyond n
      ⟨o.1, true, false, o.2, o.2 && !inNan⟩
    else ⟨sgn n + c, false, m != 0 && c == 0, false, false⟩

/-- One element converted (R397). -/
def toElem (f : Fmt) (rm : RMode) (r : Nat) (ieee inNan : Bool) (p : Post) (x : Num) : Elem :=
  match f.flt with
  | some l => toFltElem l rm r ieee inNan x
  | none => toIntElem f rm r p x

/-! ## Functions of the vector unit (R370) -/

/-- Integer square root of a number below `2 ^ (2 b)`. -/
def isqrt (b n : Nat) : Nat :=
  ((List.range b).reverse).foldl (fun r i => if (r + 2 ^ i) * (r + 2 ^ i) ≤ n then r + 2 ^ i else r) 0

/-- A truncated magnitude with what was cut off as one sticky bit below it. -/
def sticky (neg : Bool) (m : Nat) (e : Int) (more : Bool) : Num := .fin neg (2 * m + b2n more) (e - 1)

/-- Quotient, truncated far below every FP32 grid with a sticky bit. -/
def Num.div : Num → Num → Num
  | .nan, _ => .nan
  | _, .nan => .nan
  | .inf _, .inf _ => .nan
  | .inf a, .fin b _ _ => .inf (a != b)
  | .fin a _ _, .inf b => .fin (a != b) 0 0
  | .fin a m e, .fin b n f =>
    if n = 0 then if m = 0 then .nan else .inf (a != b)
    else
      let k := 64 + Nat.log2 n
      sticky (a != b) (m * 2 ^ k / n) (e - f - k) (m * 2 ^ k % n != 0)

/-- Square root, truncated with a sticky bit. -/
def Num.sqrt : Num → Num
  | .nan => .nan
  | .inf n => if n then .nan else .inf false
  | .fin n m e =>
    if m = 0 then .fin n 0 e
    else if n then .nan
    else
      let (m, e) := if e.emod 2 = 0 then (m, e) else (2 * m, e - 1)
      let r := isqrt 64 (m * 2 ^ 96)
      sticky false r (e / 2 - 48) (r * r != m * 2 ^ 96)

/-- Reciprocal square root, truncated with a sticky bit. -/
def Num.rsqrt : Num → Num
  | .nan => .nan
  | .inf n => if n then .nan else .fin false 0 0
  | .fin n m e =>
    if m = 0 then .inf n
    else if n then .nan
    else
      let (m, e) := if e.emod 2 = 0 then (m, e) else (2 * m, e - 1)
      let r := isqrt 65 (2 ^ 128 / m)
      sticky false r (-(e / 2) - 64) (r * r * m != 2 ^ 128)

/-- Product of the powers 2^(2^-i) over the set bits of a fraction of `n` bits, most significant first, with
`p` bits below the point; `root` is 2^(2^-i) for the next bit. -/
def expBits (p : Nat) : Nat → Nat → Nat → Nat → Nat
  | 0, _, _, acc => acc
  | n + 1, frac, root, acc =>
    let root := isqrt (p + 1) (root * 2 ^ p)
    let acc := if frac / 2 ^ n % 2 = 1 then acc * root / 2 ^ p else acc
    expBits p n frac root acc

/-- Power of two (R370): exact for a whole number; else truncated with a sticky bit, for such a power is
irrational. -/
def Num.exp2 : Num → Num
  | .nan => .nan
  | .inf n => if n then .fin false 0 0 else .inf false
  | .fin n m e =>
    if m = 0 then .fin false 1 0
    else if 9 < topExp m e then if n then sticky false 0 (-1000) true else .inf false
    else if topExp m e < -30 then
      if n then sticky false (2 ^ 60 - 1) (-60) true else sticky false (2 ^ 60) (-60) true
    else
      let x := (Num.fin n m e).at_ (min e (-54))
      let w := (-(min e (-54))).toNat
      let whole := x / (2 ^ w : Nat)
      let frac := (x.emod (2 ^ w : Nat)).toNat
      if frac = 0 then .fin false 1 whole
      else sticky false (expBits 160 w frac (2 * 2 ^ 160) (2 ^ 160)) (whole - 160) true

/-- Bits of the base-2 logarithm of `f / 2 ^ p` in [1, 2), by squaring. -/
def logBits (p : Nat) : Nat → Nat → Nat → Nat
  | 0, _, acc => acc
  | n + 1, f, acc =>
    let f := f * f / 2 ^ p
    if 2 * 2 ^ p ≤ f then logBits p n (f / 2) (2 * acc + 1) else logBits p n f (2 * acc)

/-- Base-2 logarithm (R370): exact for a power of two, else truncated with a sticky bit. -/
def Num.log2 : Num → Num
  | .nan => .nan
  | .inf n => if n then .nan else .inf false
  | .fin n m e =>
    if m = 0 then .inf true
    else if n then .nan
    else
      let k := Nat.log2 m
      let t := (k : Int) + e
      if m = 2 ^ k then Num.ofInt t
      else
        let v := t * (2 ^ 110 : Nat) + logBits 300 110 (m * 2 ^ (300 - k)) 0
        if 0 ≤ v then sticky false v.toNat (-110) true else sticky true (-v - 1).toNat (-110) true

/-- FP32 to INT32, rounded to nearest even and saturated; a NaN gives 0 (R370). -/
def toI32 : Num → Word
  | .nan => 0
  | .inf n => if n then 0x80000000 else 0x7FFFFFFF
  | .fin n m e =>
    let q : Int := roundTo .near 0 n m e 0
    BitVec.ofInt 32 (max (-(2 ^ 31)) (min (2 ^ 31 - 1) (if n then -q else q)))

/-- The smaller of two values, −0 below +0, the other one where one is a NaN (R370). -/
def Num.minOf (a b : Num) : Num := if a.isNan then b else if b.isNan then a else if b.lt a then b else a

/-- The larger of two values, likewise. -/
def Num.maxOf (a b : Num) : Num := if a.isNan then b else if b.isNan then a else if a.lt b then b else a

/-- Equality of values for comparisons: −0 equals +0, a NaN equals nothing (R371). -/
def Num.eqv (a b : Num) : Bool :=
  !a.isNan && !b.isNan && ((a.isZero && b.isZero) || (!(a.lt b) && !(b.lt a)))

/-- Less than, −0 equal to +0 (R371). -/
def Num.below (a b : Num) : Bool := !(a.isZero && b.isZero) && a.lt b

end Sys2Proof.Machine
end

