-- ==== Sys2Proof/Machine/Issue.lean ====
section
/-! DEFINITION. Issue of one instruction by a control core (chapters 07, 08 and 03): what must hold before
it, what its outcome does to the PC and the loops, and the watch island's restrictions.  Core 0-63 is the
tile's, core 64 the island's. -/

namespace Sys2Proof.Machine

/-- The island's core among `tiles`. -/
def isleCore : Nat := 64

/-- Core that a command names. -/
def coreOf (u : BitVec 7) : Nat := min u.toNat isleCore

/-! ## The island core (R109-R113) -/

/-- Size of the island SRAM and of its program part (R106). -/
def sramSize : Nat := 0x40000
def sramData : Nat := 0x10000

/-- A wake report leaves for the wake controller (R128, R129): cause and reason.  While PD1 is closed it reaches the
controller, which lies in PD0, at once. -/
def State.wakeReport (s : State) (cause reason : Nat) : State :=
  if s.domLive 1 then s.send (.wake cause reason)
  else { s with conc := { s.conc with inbox := s.conc.inbox ++ [.wake cause reason] } }

/-- The island core halts and tells the driver (R113): PROG_STATE, the end of a wait, and the wake.  The frame sequencer
stops: it starts no further capture, and one in progress runs to its end (log entry 101). -/
def State.islandHalt (s : State) : State :=
  let s := s.put Reg.WAT_STATUS_PROG_STATE 3
  let s := s.updTile isleCore fun t => { t with wait := none }
  if s.on Reg.WAT_CTRL_WAKE_ON_TRAP then s.wakeReport 1 0xFF else s

/-- The island core takes an exception (R113).  The record's detail holds the kind, whose code the spec does
not give (log entry 3), and the address, here the PC (log entry 25). -/
def State.islandTrap (s : State) : State :=
  let d := s.freeVal 8 + (s.tile isleCore).pc % 2 ^ 16 * 2 ^ 16
  (s.fault 0x6C uWAT srcNone d).tookFree.islandHalt

/-- The island core runs its program. -/
def State.islandRuns (s : State) : Bool := s.get Reg.WAT_STATUS_PROG_STATE == 1 && !s.yard

/-! ## Debug scope (R652) -/

/-- Tile `t` lies in the debug scope: DBG_EN is 1, the engine is not ALARMED, and a partition in SCOPE holds
its cluster, whose domain is open (R652). -/
def State.inScope (s : State) (t : Nat) : Bool :=
  s.on Reg.KPR_DEBUG_DBG_EN && s.eng != engAlarmed && s.domOpen (clDom (t / 4)) &&
    (List.range 16).any fun p => bitAt (s.get Reg.KPR_DEBUG_SCOPE) p && bitAt (s.partClusters p) (t / 4)

/-- A breakpoint names the instruction that tile `t` is about to issue (R656). -/
def State.breaks (s : State) (t : Nat) : Bool :=
  s.inScope t && !(s.tile t).bpSkip && (List.range 4).any fun k =>
    s.on (Reg.DBG_BP_EN k) && s.get (Reg.DBG_BP_TILE k) == t && s.get (Reg.DBG_BP_PC k) == (s.tile t).pc

/-! ## Outcomes of one instruction -/

/-- What an instruction does. -/
inductive Fx where
  /-- it completes and control goes on at Next -/
  | done (s : State)
  /-- it completes and transfers control (R329) -/
  | jump (s : State) (pc : Nat)
  /-- it completes, and the core does not go on from Next by itself -/
  | hold (s : State)
  /-- it raises an exception after these effects (R304) -/
  | exc (s : State) (e : Exc)

/-- The instruction does not begin yet: an interlock, a shared barge identifier or a full mailbox holds it
(R282, R334). -/
def Fx.stall (s : State) : Fx := .hold s

/-- An exception of the core itself (R304, R113). -/
def State.raise (s : State) (u : Nat) (e : Exc) : State :=
  if u = isleCore then s.islandTrap
  else s.updTile u (·.raise e)

/-- The outcome takes effect. -/
def settleFx (u : Nat) (ext : Bool) : Fx → State
  | .done t => t.complete u ext
  | .jump t pc => (t.updTile u fun x => { x with pc := pc % 2 ^ 32 }).stepped u
  | .hold t => t
  | .exc t e => t.raise u e

/-- Instruction-store lines that an instruction at `pc` is fetched from (R296, R301). -/
def Tile.fetchLines (t : Tile) (ext : Bool) : List ILine :=
  t.lineFor t.pc :: if ext then [t.lineFor (t.pc + 4)] else []

/-- One instruction of core `u` issues (R280, R295, R296, R301, R656).  The core must run a task, be neither
halted nor stepped already, nor stall on a report (R44); a breakpoint halts it; an offset at or beyond SIZE raises fetch range; a line
that is not resident sends the core to fetch it. -/
def State.issue (s : State) (u : Nat) (ext : Bool) (fx : State → Fx) : State :=
  let x := s.tile u
  if u = isleCore then
    if !s.islandRuns then s
    else if sramData < x.pc + wordsLen ext then s.islandTrap
    else settleFx u ext (fx s)
  else if x.task.isNone ∨ x.core ≠ .running ∨ x.halted ∨ x.yielding ∨ (x.stepping ∧ x.haltCause = 2) then s
  else if s.stalled (4 * clStop (u / 4) + u % 4) then s
  else if s.breaks u then s.haltTile u 3
  else if x.progSize ≤ x.pc + 4 * b2n ext then (s.updTile u fun t => { t with bpSkip := false }).raise u ⟨0x17, 0⟩
  else match (x.fetchLines ext).find? fun l => !(x.istore.contains l) with
    | some l => s.updTile u fun t => { t with core := .fetchWait, fetch := some l }
    | none =>
      let s := s.updTile u fun t => { ((t.fetchLines ext).foldl Tile.touchLine t) with bpSkip := false }
      settleFx u ext (fx s)

/-! ## Operand checks -/

/-- Registers of a file that a core has (R109, R283). -/
def fileSize (u : Nat) (tile isle : Nat) : Nat := if u = isleCore then isle else tile

/-- A field names a register of a file that this core has: a, t and l fields with high bits set do not
(R109, R298). -/
def aOk (u k : Nat) : Bool := decide (k < fileSize u 16 8)
def tOk (u k : Nat) : Bool := decide (k < fileSize u 16 8)

/-- Rank of an exception in the order of R303. -/
def Exc.rank (e : Exc) : Nat :=
  if e.code = 0x17 then 0
  else if e.code = 0x10 then 1 + e.detail
  else if e.code = 0x11 then 10
  else if e.code = 0x12 then 11
  else if e.code = 0x15 then 12
  else if e.code = 0x13 then 13
  else 14

/-- The exception raised of those that an instruction meets: the first in R303's order. -/
def firstExc : List (Option Exc) → Option Exc
  | [] => none
  | none :: l => firstExc l
  | some e :: l => match firstExc l with
    | none => some e
    | some f => if f.rank < e.rank then some f else some e

/-- An exception where a condition holds. -/
def excIf (b : Bool) (e : Exc) : Option Exc := if b then some e else none

/-- An instruction with its operand checks and interlocked registers: it raises the first exception, waits
while a unit's instruction holds a register, or has its effect.  Exceptions of operand encoding come before
the wait. -/
def State.checked (s : State) (u : Nat) (regs : List Nat) (ranges : List (Nat × Nat)) (e : List (Option Exc))
    (fx : State → Fx) : Fx :=
  if (s.tile u).blocked ranges regs then .stall s
  else match firstExc e with
    | some x => .exc s x
    | none => fx s

end Sys2Proof.Machine
end

