-- ==== Sys2Proof/Machine/Scalar.lean ====
section
/-! DEFINITION. Scalar ALU, immediate forms and scalar tile-store accesses (R318-R322, R330). -/

namespace Sys2Proof.Machine

/-- An instruction that writes a scalar register from two scalar registers (R318). -/
def State.sss (s : State) (u : BitVec 7) (rd rs1 rs2 : BitVec 5) (f : Word → Word → Word) : Out :=
  let c := coreOf u
  .next <| s.issue c false fun s =>
    s.checked c [rS rd.toNat, rS rs1.toNat, rS rs2.toNat] [] [] fun s =>
      .done (s.updTile c fun t => t.setS rd.toNat (f (t.sreg rs1.toNat) (t.sreg rs2.toNat)))

/-- The same of one scalar register; rs2 is 0 (R316, R318). -/
def State.ss0 (s : State) (u : BitVec 7) (rd rs1 rs2 : BitVec 5) (f : Word → Word) : Out :=
  let c := coreOf u
  .next <| s.issue c false fun s =>
    s.checked c [rS rd.toNat, rS rs1.toNat] [] [excIf (rs2 != 0) excEncoding] fun s =>
      .done (s.updTile c fun t => t.setS rd.toNat (f (t.sreg rs1.toNat)))

/-- An instruction that writes an address register from an address register and a scalar (R318). -/
def State.aas (s : State) (u : BitVec 7) (rd rs1 rs2 : BitVec 5) (f : DWord → Word → DWord) : Out :=
  let c := coreOf u
  .next <| s.issue c false fun s =>
    s.checked c [rA rd.toNat, rA rs1.toNat, rS rs2.toNat] []
        [excIf (!(aOk c rd.toNat) || !(aOk c rs1.toNat)) excEncoding] fun s =>
      .done (s.updTile c fun t => t.setA rd.toNat (f (t.areg rs1.toNat) (t.sreg rs2.toNat)))

/-- An instruction that writes a scalar from an address register; rs2 is 0 (R318). -/
def State.sa0 (s : State) (u : BitVec 7) (rd rs1 rs2 : BitVec 5) (f : DWord → Word) : Out :=
  let c := coreOf u
  .next <| s.issue c false fun s =>
    s.checked c [rS rd.toNat, rA rs1.toNat] []
        [excIf (!(aOk c rs1.toNat) || rs2 != 0) excEncoding] fun s =>
      .done (s.updTile c fun t => t.setS rd.toNat (f (t.areg rs1.toNat)))

/-- An immediate form that writes a scalar register (R321). -/
def State.ssi (s : State) (u : BitVec 7) (rd rs1 : BitVec 5) (imm : BitVec 16) (ext : Option (BitVec 26))
    (zero : Bool) (f : Word → Int → Word) : Out :=
  let c := coreOf u
  .next <| s.issue c ext.isSome fun s =>
    s.checked c [rS rd.toNat, rS rs1.toNat] [] [excIf (zero && rs1 != 0) excEncoding] fun s =>
      .done (s.updTile c fun t => t.setS rd.toNat (f (t.sreg rs1.toNat) (immOf imm ext)))

/-- 1 or 0 as a word. -/
def flagWord (b : Bool) : Word := if b then 1 else 0

/-- Signed quotient of R319. -/
def divS (a b : Word) : Word :=
  if b = 0 then 0xFFFFFFFF else BitVec.ofInt 32 (a.toInt.tdiv b.toInt)

/-- Unsigned quotient of R319. -/
def divU (a b : Word) : Word := if b = 0 then 0xFFFFFFFF else BitVec.ofNat 32 (a.toNat / b.toNat)

/-- Signed remainder of R319. -/
def remS (a b : Word) : Word := if b = 0 then a else BitVec.ofInt 32 (a.toInt.tmod b.toInt)

/-- Unsigned remainder of R319. -/
def remU (a b : Word) : Word := if b = 0 then a else BitVec.ofNat 32 (a.toNat % b.toNat)

/-- Leading zeros of a word, 32 for 0 (R318). -/
def clz (a : Word) : Nat := if a = 0 then 32 else 31 - Nat.log2 a.toNat

/-- High words of the signed and unsigned products (R318). -/
def mulHi (a b : Word) : Word := BitVec.ofInt 32 (a.toInt * b.toInt / 2 ^ 32)
def mulHiU (a b : Word) : Word := BitVec.ofNat 32 (a.toNat * b.toNat / 2 ^ 32)

/-- Shift count of a word: its low five bits. -/
def shamt (b : Word) : Nat := b.toNat % 32

/-! ## Register forms (R318) -/

/-- Scalar sum (R318). -/
def execAdd (u : BitVec 7) (rd rs1 rs2 : BitVec 5) (s : State) : Out :=
  s.sss u rd rs1 rs2 fun a b => a + b

/-- Scalar difference (R318). -/
def execSub (u : BitVec 7) (rd rs1 rs2 : BitVec 5) (s : State) : Out :=
  s.sss u rd rs1 rs2 fun a b => a - b

/-- Bitwise AND (R318). -/
def execAnd (u : BitVec 7) (rd rs1 rs2 : BitVec 5) (s : State) : Out :=
  s.sss u rd rs1 rs2 fun a b => a &&& b

/-- Bitwise OR (R318). -/
def execOr (u : BitVec 7) (rd rs1 rs2 : BitVec 5) (s : State) : Out :=
  s.sss u rd rs1 rs2 fun a b => a ||| b

/-- Bitwise XOR (R318). -/
def execXor (u : BitVec 7) (rd rs1 rs2 : BitVec 5) (s : State) : Out :=
  s.sss u rd rs1 rs2 fun a b => a ^^^ b

/-- Left shift (R318). -/
def execSll (u : BitVec 7) (rd rs1 rs2 : BitVec 5) (s : State) : Out :=
  s.sss u rd rs1 rs2 fun a b => a <<< shamt b

/-- Logical right shift (R318). -/
def execSrl (u : BitVec 7) (rd rs1 rs2 : BitVec 5) (s : State) : Out :=
  s.sss u rd rs1 rs2 fun a b => a >>> shamt b

/-- Arithmetic right shift (R318). -/
def execSra (u : BitVec 7) (rd rs1 rs2 : BitVec 5) (s : State) : Out :=
  s.sss u rd rs1 rs2 fun a b => a.sshiftRight (shamt b)

/-- Signed comparison (R318). -/
def execSlt (u : BitVec 7) (rd rs1 rs2 : BitVec 5) (s : State) : Out :=
  s.sss u rd rs1 rs2 fun a b => flagWord (a.slt b)

/-- Unsigned comparison (R318). -/
def execSltu (u : BitVec 7) (rd rs1 rs2 : BitVec 5) (s : State) : Out :=
  s.sss u rd rs1 rs2 fun a b => flagWord (a.ult b)

/-- Low word of the product (R318). -/
def execMul (u : BitVec 7) (rd rs1 rs2 : BitVec 5) (s : State) : Out :=
  s.sss u rd rs1 rs2 fun a b => a * b

/-- High word of the signed product (R318). -/
def execMulh (u : BitVec 7) (rd rs1 rs2 : BitVec 5) (s : State) : Out :=
  s.sss u rd rs1 rs2 fun a b => mulHi a b

/-- High word of the unsigned product (R318). -/
def execMulhu (u : BitVec 7) (rd rs1 rs2 : BitVec 5) (s : State) : Out :=
  s.sss u rd rs1 rs2 fun a b => mulHiU a b

/-- Signed quotient (R319) (R318). -/
def execDiv (u : BitVec 7) (rd rs1 rs2 : BitVec 5) (s : State) : Out :=
  s.sss u rd rs1 rs2 fun a b => divS a b

/-- Unsigned quotient (R319) (R318). -/
def execDivu (u : BitVec 7) (rd rs1 rs2 : BitVec 5) (s : State) : Out :=
  s.sss u rd rs1 rs2 fun a b => divU a b

/-- Signed remainder (R319) (R318). -/
def execRem (u : BitVec 7) (rd rs1 rs2 : BitVec 5) (s : State) : Out :=
  s.sss u rd rs1 rs2 fun a b => remS a b

/-- Unsigned remainder (R319) (R318). -/
def execRemu (u : BitVec 7) (rd rs1 rs2 : BitVec 5) (s : State) : Out :=
  s.sss u rd rs1 rs2 fun a b => remU a b

/-- Signed minimum (R318). -/
def execMin (u : BitVec 7) (rd rs1 rs2 : BitVec 5) (s : State) : Out :=
  s.sss u rd rs1 rs2 fun a b => if b.slt a then b else a

/-- Signed maximum (R318). -/
def execMax (u : BitVec 7) (rd rs1 rs2 : BitVec 5) (s : State) : Out :=
  s.sss u rd rs1 rs2 fun a b => if a.slt b then b else a

/-- Unsigned minimum (R318). -/
def execMinu (u : BitVec 7) (rd rs1 rs2 : BitVec 5) (s : State) : Out :=
  s.sss u rd rs1 rs2 fun a b => if b.ult a then b else a

/-- Unsigned maximum (R318). -/
def execMaxu (u : BitVec 7) (rd rs1 rs2 : BitVec 5) (s : State) : Out :=
  s.sss u rd rs1 rs2 fun a b => if a.ult b then b else a

/-- Leading zeros (R318). -/
def execClz (u : BitVec 7) (rd rs1 rs2 : BitVec 5) (s : State) : Out :=
  s.ss0 u rd rs1 rs2 fun a => BitVec.ofNat 32 (clz a)

/-- Number of 1 bits (R318). -/
def execPopc (u : BitVec 7) (rd rs1 rs2 : BitVec 5) (s : State) : Out :=
  s.ss0 u rd rs1 rs2 fun a => BitVec.ofNat 32 (popcount a.toNat 32)

/-- Address register move; rs2 is 0 (R318). -/
def execAmov (u : BitVec 7) (rd rs1 rs2 : BitVec 5) (s : State) : Out :=
  let c := coreOf u
  .next <| s.issue c false fun s =>
    s.checked c [rA rd.toNat, rA rs1.toNat] []
        [excIf (!(aOk c rd.toNat) || !(aOk c rs1.toNat) || rs2 != 0) excEncoding] fun s =>
      .done (s.updTile c fun t => t.setA rd.toNat (t.areg rs1.toNat))

/-- Address plus a sign-extended scalar (R318). -/
def execAadd (u : BitVec 7) (rd rs1 rs2 : BitVec 5) (s : State) : Out :=
  s.aas u rd rs1 rs2 fun a b => a + b.signExtend 64

/-- Address plus a zero-extended scalar (R318). -/
def execAaddu (u : BitVec 7) (rd rs1 rs2 : BitVec 5) (s : State) : Out :=
  s.aas u rd rs1 rs2 fun a b => a + b.setWidth 64

/-- Two scalars packed into an address register, rs2 in the high half (R318). -/
def execApack (u : BitVec 7) (rd rs1 rs2 : BitVec 5) (s : State) : Out :=
  let c := coreOf u
  .next <| s.issue c false fun s =>
    s.checked c [rA rd.toNat, rS rs1.toNat, rS rs2.toNat] [] [excIf (!(aOk c rd.toNat)) excEncoding] fun s =>
      .done (s.updTile c fun t => t.setA rd.toNat (t.sreg rs2.toNat ++ t.sreg rs1.toNat))

/-- Low half of an address register (R318). -/
def execAlo (u : BitVec 7) (rd rs1 rs2 : BitVec 5) (s : State) : Out :=
  s.sa0 u rd rs1 rs2 fun a => a.extractLsb' 0 32

/-- High half of an address register (R318). -/
def execAhi (u : BitVec 7) (rd rs1 rs2 : BitVec 5) (s : State) : Out :=
  s.sa0 u rd rs1 rs2 fun a => a.extractLsb' 32 32

/-- Lowest bit and width of a descriptor field (R320, R292). -/
def descField : Nat → Option (Nat × Nat)
  | 0 => some (0, 20)
  | 1 => some (20, 4)
  | 2 => some (24, 1)
  | 3 => some (32, 20)
  | 4 => some (64, 16)
  | 5 => some (80, 16)
  | 6 => some (96, 16)
  | 7 => some (112, 16)
  | 8 => some (128, 20)
  | 9 => some (148, 20)
  | 10 => some (168, 20)
  | _ => none

/-- A descriptor with a field replaced by the low bits of a word (R320). -/
def setField (d : BitVec 256) (lo w : Nat) (v : Word) : BitVec 256 :=
  BitVec.ofNat 256 (d.toNat - d.toNat / 2 ^ lo % 2 ^ w * 2 ^ lo + v.toNat % 2 ^ w * 2 ^ lo)

/-- Descriptor field f set from a scalar; rs2 is 0 (R318, R320). -/
def execTset (u : BitVec 7) (f rd rs1 rs2 : BitVec 5) (s : State) : Out :=
  let c := coreOf u
  .next <| s.issue c false fun s =>
    s.checked c [rT rd.toNat, rS rs1.toNat] []
        [excIf (!(tOk c rd.toNat) || rs2 != 0 || (descField f.toNat).isNone) excEncoding] fun s =>
      match descField f.toNat with
      | some (lo, w) => .done (s.updTile c fun t => t.setT rd.toNat (setField (t.treg rd.toNat) lo w (t.sreg rs1.toNat)))
      | none => .exc s excEncoding

/-- Descriptor field f read into a scalar, zero-extended; rs2 is 0 (R318, R320). -/
def execTget (u : BitVec 7) (f rd rs1 rs2 : BitVec 5) (s : State) : Out :=
  let c := coreOf u
  .next <| s.issue c false fun s =>
    s.checked c [rS rd.toNat, rT rs1.toNat] []
        [excIf (!(tOk c rs1.toNat) || rs2 != 0 || (descField f.toNat).isNone) excEncoding] fun s =>
      match descField f.toNat with
      | some (lo, w) => .done (s.updTile c fun t =>
          t.setS rd.toNat (BitVec.ofNat 32 ((t.treg rs1.toNat).toNat / 2 ^ lo % 2 ^ w)))
      | none => .exc s excEncoding

/-- Descriptor register move; rs2 is 0 (R318). -/
def execTmov (u : BitVec 7) (rd rs1 rs2 : BitVec 5) (s : State) : Out :=
  let c := coreOf u
  .next <| s.issue c false fun s =>
    s.checked c [rT rd.toNat, rT rs1.toNat] []
        [excIf (!(tOk c rd.toNat) || !(tOk c rs1.toNat) || rs2 != 0) excEncoding] fun s =>
      .done (s.updTile c fun t => t.setT rd.toNat (t.treg rs1.toNat))

/-- Descriptor register zeroed; rs1 and rs2 are 0 (R318). -/
def execTzero (u : BitVec 7) (rd rs1 rs2 : BitVec 5) (s : State) : Out :=
  let c := coreOf u
  .next <| s.issue c false fun s =>
    s.checked c [rT rd.toNat] [] [excIf (!(tOk c rd.toNat) || rs1 != 0 || rs2 != 0) excEncoding] fun s =>
      .done (s.updTile c fun t => t.setT rd.toNat 0)

/-! ## Immediate forms (R321) -/

/-- Add immediate. -/
def execAddi (u : BitVec 7) (rd rs1 : BitVec 5) (imm : BitVec 16) (ext : Option (BitVec 26)) (s : State) : Out :=
  s.ssi u rd rs1 imm ext false fun a i => a + BitVec.ofInt 32 i

/-- AND immediate. -/
def execAndi (u : BitVec 7) (rd rs1 : BitVec 5) (imm : BitVec 16) (ext : Option (BitVec 26)) (s : State) : Out :=
  s.ssi u rd rs1 imm ext false fun a i => a &&& BitVec.ofInt 32 i

/-- OR immediate. -/
def execOri (u : BitVec 7) (rd rs1 : BitVec 5) (imm : BitVec 16) (ext : Option (BitVec 26)) (s : State) : Out :=
  s.ssi u rd rs1 imm ext false fun a i => a ||| BitVec.ofInt 32 i

/-- XOR immediate. -/
def execXori (u : BitVec 7) (rd rs1 : BitVec 5) (imm : BitVec 16) (ext : Option (BitVec 26)) (s : State) : Out :=
  s.ssi u rd rs1 imm ext false fun a i => a ^^^ BitVec.ofInt 32 i

/-- Load upper immediate; rs1 is 0. -/
def execLui (u : BitVec 7) (rd rs1 : BitVec 5) (imm : BitVec 16) (ext : Option (BitVec 26)) (s : State) : Out :=
  s.ssi u rd rs1 imm ext true fun _ i => BitVec.ofInt 32 (i * 2 ^ 16)

/-- Signed comparison with an immediate. -/
def execSlti (u : BitVec 7) (rd rs1 : BitVec 5) (imm : BitVec 16) (ext : Option (BitVec 26)) (s : State) : Out :=
  s.ssi u rd rs1 imm ext false fun a i => flagWord (decide (a.toInt < i))

/-- Address plus an immediate sign-extended to 64 bits. -/
def execAdda (u : BitVec 7) (rd rs1 : BitVec 5) (imm : BitVec 16) (ext : Option (BitVec 26)) (s : State) : Out :=
  let c := coreOf u
  .next <| s.issue c ext.isSome fun s =>
    s.checked c [rA rd.toNat, rA rs1.toNat] []
        [excIf (!(aOk c rd.toNat) || !(aOk c rs1.toNat)) excEncoding] fun s =>
      .done (s.updTile c fun t => t.setA rd.toNat (t.areg rs1.toNat + BitVec.ofInt 64 (immOf imm ext)))

/-! ## Scalar accesses to the tile store or island SRAM (R322, R330, R106) -/

/-- Misalignment of an address that a register gives (R317). -/
def excAddress (field : Nat) : Exc := ⟨0x11, field % 16 + 3 * 16⟩

/-- The address of a scalar access is misaligned, outside the store, or on the island in the program when it
is written (R322, R317, R286, R113). -/
def accessExcs (c : Nat) (a : Int) (n : Nat) (write : Bool) (mis : Exc) : List (Option Exc) :=
  let top : Int := if c = isleCore then (sramSize : Int) - n else (storeTop : Int) + 1 - n
  [excIf (a.emod n != 0) mis, excIf (decide (a < 0) || decide (top < a)) (excRange a),
   excIf (c == isleCore && write && decide (a < (sramData : Int))) (excRange a)]

/-- The island SRAM changed. -/
def State.setSram (s : State) (m : Cells) : State := { s with island := { s.island with sram := m } }

/-- A control-core read of `n` bytes at `a`, with the unwritten-read rule on a tile (R291). -/
def State.coreRead (s : State) (c a n : Nat) : Except Exc (State × Nat) :=
  if c = isleCore then .ok (s, s.island.sram.le a n)
  else match s.readRanges c [(a, n)] with
    | .error e => .error e
    | .ok s => .ok (s, (s.tile c).rdLe a n)

/-- A control-core write of `n` bytes at `a` (R322). -/
def State.coreWrite (s : State) (c a n v : Nat) : State :=
  if c = isleCore then s.setSram (s.island.sram.putLe a n v) else s.updTile c fun t => t.wrLe a n v

/-- Address of a scalar access: the unsigned register plus the immediate with its kind bits as 0 (R322). -/
def scalarAddr (t : Tile) (rs1 : Nat) (off : BitVec 14) (ext : Option (BitVec 26)) : Int :=
  ((t.sreg rs1).toNat : Int) + immOf (off ++ (0 : BitVec 2)) ext

/-- An instruction's access to ranges of its core's store, which may meet ECC errors: after an uncorrectable one it has no
effect (R288, log entry 113). -/
def State.withEcc (s : State) (c : Nat) (rs : List (Nat × Nat)) (hits : List TileHit) (fx : State → Fx) : Fx :=
  match s.readEcc c (s.tile c).cid rs hits with
  | (s, true) => .hold s
  | (s, false) => fx s

/-- A scalar load of `n` bytes, zero-extended (R322). -/
def State.loadS (s : State) (u : BitVec 7) (rd rs1 : BitVec 5) (off : BitVec 14) (ext : Option (BitVec 26))
    (hits : List TileHit) (n : Nat) : Out :=
  let c := coreOf u
  .next <| s.issue c ext.isSome fun s =>
    let a := scalarAddr (s.tile c) rs1.toNat off ext
    s.checked c [rS rd.toNat, rS rs1.toNat] [(a.toNat, n)]
        (accessExcs c a n false (excAddress rs1.toNat)) fun s =>
      match s.coreRead c a.toNat n with
      | .error e => .exc s e
      | .ok (s, v) => s.withEcc c [(a.toNat, n)] hits fun s => .done (s.updTile c fun t => t.setS rd.toNat (BitVec.ofNat 32 v))

/-- A scalar store of the low `n` bytes of a register (R322), which reads the word first (R288). -/
def State.storeS (s : State) (u : BitVec 7) (rd rs1 : BitVec 5) (off : BitVec 14) (ext : Option (BitVec 26))
    (hits : List TileHit) (n : Nat) : Out :=
  let c := coreOf u
  .next <| s.issue c ext.isSome fun s =>
    let a := scalarAddr (s.tile c) rs1.toNat off ext
    s.checked c [rS rd.toNat, rS rs1.toNat] [(a.toNat, n)]
        (accessExcs c a n true (excAddress rs1.toNat)) fun s =>
      s.withEcc c [(a.toNat, n)] hits fun s => .done (s.coreWrite c a.toNat n ((s.tile c).sreg rd.toNat).toNat)

/-- Load word (R322). -/
def execLw (u : BitVec 7) (rd rs1 : BitVec 5) (off : BitVec 14) (ext : Option (BitVec 26)) (hits : List TileHit)
    (s : State) : Out :=
  s.loadS u rd rs1 off ext hits 4

/-- Store word (R322). -/
def execSw (u : BitVec 7) (rd rs1 : BitVec 5) (off : BitVec 14) (ext : Option (BitVec 26)) (hits : List TileHit)
    (s : State) : Out :=
  s.storeS u rd rs1 off ext hits 4

/-- Load byte, zero-extended (R322). -/
def execLbu (u : BitVec 7) (rd rs1 : BitVec 5) (off : BitVec 14) (ext : Option (BitVec 26)) (hits : List TileHit)
    (s : State) : Out :=
  s.loadS u rd rs1 off ext hits 1

/-- Store byte (R322). -/
def execSb (u : BitVec 7) (rd rs1 : BitVec 5) (off : BitVec 14) (ext : Option (BitVec 26)) (hits : List TileHit)
    (s : State) : Out :=
  s.storeS u rd rs1 off ext hits 1

/-- Address of a descriptor access: the register plus the immediate with `[4:0]` as 0 (R330).  `imm` is
imm16 `[15:1]`; bit 0 selects the instruction. -/
def descAddr (t : Tile) (rs1 : Nat) (imm : BitVec 15) (ext : Option (BitVec 26)) : Int :=
  ((t.sreg rs1).toNat : Int) + immOf (imm.extractLsb' 4 11 ++ (0 : BitVec 5)) ext

/-- Exceptions of a descriptor access (R330). -/
def descExcs (c : Nat) (a : Int) (rd : Nat) (imm : BitVec 15) (write : Bool) : List (Option Exc) :=
  excIf (!(tOk c rd) || imm.extractLsb' 0 4 != 0) excEncoding :: accessExcs c a 32 write (excMisaligned rd 0)

/-- Load a descriptor (R330). -/
def execTld (u : BitVec 7) (rd rs1 : BitVec 5) (imm : BitVec 15) (ext : Option (BitVec 26)) (hits : List TileHit)
    (s : State) : Out :=
  let c := coreOf u
  .next <| s.issue c ext.isSome fun s =>
    let a := descAddr (s.tile c) rs1.toNat imm ext
    s.checked c [rT rd.toNat, rS rs1.toNat] [(a.toNat, 32)] (descExcs c a rd.toNat imm false) fun s =>
      match s.coreRead c a.toNat 32 with
      | .error e => .exc s e
      | .ok (s, v) => s.withEcc c [(a.toNat, 32)] hits fun s =>
          .done (s.updTile c fun t => t.setT rd.toNat (BitVec.ofNat 256 v))

/-- Store a descriptor (R330). -/
def execTst (u : BitVec 7) (rd rs1 : BitVec 5) (imm : BitVec 15) (ext : Option (BitVec 26)) (s : State) : Out :=
  let c := coreOf u
  .next <| s.issue c ext.isSome fun s =>
    let a := descAddr (s.tile c) rs1.toNat imm ext
    s.checked c [rT rd.toNat, rS rs1.toNat] [(a.toNat, 32)] (descExcs c a rd.toNat imm true) fun s =>
      .done (s.coreWrite c a.toNat 32 ((s.tile c).treg rd.toNat).toNat)

end Sys2Proof.Machine
end

