-- ==== Sys2Proof/Machine/Control.lean ====
section
/-! DEFINITION. Branches, jumps and hardware loops (R323-R329). -/

namespace Sys2Proof.Machine

/-- A branch: to P + 4 × imm when the condition holds (R323). -/
def State.branch (s : State) (u : BitVec 7) (rs1 rs2 : BitVec 5) (imm : BitVec 16) (ext : Option (BitVec 26))
    (cond : Word → Word → Bool) : Out :=
  let c := coreOf u
  .next <| s.issue c ext.isSome fun s =>
    s.checked c [rS rs1.toNat, rS rs2.toNat] [] [] fun s =>
      let t := s.tile c
      if cond (t.sreg rs1.toNat) (t.sreg rs2.toNat) then
        .jump s (((t.pc : Int) + 4 * immOf imm ext).emod (2 ^ 32)).toNat
      else .done s

/-- Branch if equal (R323). -/
def execBeq (u : BitVec 7) (rs1 rs2 : BitVec 5) (imm : BitVec 16) (ext : Option (BitVec 26)) (s : State) : Out :=
  s.branch u rs1 rs2 imm ext fun a b => a == b

/-- Branch if not equal (R323). -/
def execBne (u : BitVec 7) (rs1 rs2 : BitVec 5) (imm : BitVec 16) (ext : Option (BitVec 26)) (s : State) : Out :=
  s.branch u rs1 rs2 imm ext fun a b => a != b

/-- Branch if signed less than (R323). -/
def execBlt (u : BitVec 7) (rs1 rs2 : BitVec 5) (imm : BitVec 16) (ext : Option (BitVec 26)) (s : State) : Out :=
  s.branch u rs1 rs2 imm ext fun a b => a.slt b

/-- Branch if signed greater than or equal (R323). -/
def execBge (u : BitVec 7) (rs1 rs2 : BitVec 5) (imm : BitVec 16) (ext : Option (BitVec 26)) (s : State) : Out :=
  s.branch u rs1 rs2 imm ext fun a b => !(a.slt b)

/-- Branch if unsigned less than (R323). -/
def execBltu (u : BitVec 7) (rs1 rs2 : BitVec 5) (imm : BitVec 16) (ext : Option (BitVec 26)) (s : State) : Out :=
  s.branch u rs1 rs2 imm ext fun a b => a.ult b

/-- Branch if unsigned greater than or equal (R323). -/
def execBgeu (u : BitVec 7) (rs1 rs2 : BitVec 5) (imm : BitVec 16) (ext : Option (BitVec 26)) (s : State) : Out :=
  s.branch u rs1 rs2 imm ext fun a b => !(a.ult b)

/-- Jump and link (R324): rs2 0 is JAL, another rs2 JALR. -/
def State.jumpLink (s : State) (u : BitVec 7) (rs1 rs2 : BitVec 5) (imm : BitVec 16) (ext : Option (BitVec 26)) : Out :=
  let c := coreOf u
  .next <| s.issue c ext.isSome fun s =>
    let t := s.tile c
    let base : Int := if rs2 = 0 then t.pc else (t.sreg rs2.toNat).toNat
    let target := ((base + 4 * immOf imm ext).emod (2 ^ 32)).toNat
    s.checked c [rS rs1.toNat, rS rs2.toNat] [] [excIf (rs2 != 0 && target % 4 != 0) excOperand] fun s =>
      .jump (s.updTile c fun t => t.setS rs1.toNat (BitVec.ofNat 32 (t.pc + wordsLen ext.isSome))) target

/-- Jump and link, relative to the instruction (R324). -/
def execJal (u : BitVec 7) (rs1 : BitVec 5) (imm : BitVec 16) (ext : Option (BitVec 26)) (s : State) : Out :=
  s.jumpLink u rs1 0 imm ext

/-- Jump and link through a register (R324). -/
def execJalr (u : BitVec 7) (rs1 rs2 : BitVec 5) (imm : BitVec 16) (ext : Option (BitVec 26)) (s : State) : Out :=
  s.jumpLink u rs1 rs2 imm ext

/-- LOOP, or LBRK where the immediate is 0 (R326, R328). -/
def State.loopOp (s : State) (u : BitVec 7) (rs1 rs2 : BitVec 5) (imm : BitVec 16) (ext : Option (BitVec 26)) : Out :=
  let c := coreOf u
  let i := immOf imm ext
  .next <| s.issue c ext.isSome fun s =>
    let t := s.tile c
    let d := t.depth
    let top := fileSize c 4 2
    if i = 0 then
      s.checked c [] [] [excIf (rs1 != 0 || !(decide (rs2.toNat < top))) excEncoding,
          excIf (d == 0 || rs2.toNat + 1 != d) excOperand] fun s =>
        let l := t.loopReg (d - 1)
        .jump (s.updTile c fun t => { t with loops := t.loops.set (d - 1) { l with count := 0 }, depth := d - 1 })
          ((l.stop + 4) % 2 ^ 32)
    else
      s.checked c [rS rs1.toNat] [] [excIf (!(decide (rs2.toNat < top))) excEncoding,
          excIf (decide (top ≤ d) || rs2.toNat != d || decide (i < 1) || decide (2 ^ 30 < i)) excOperand] fun s =>
        let stop := (t.pc + 4 * i.toNat) % 2 ^ 32
        let count := (t.sreg rs1.toNat).toNat
        if count = 0 then .jump s ((stop + 4) % 2 ^ 32)
        else .done (s.updTile c fun t => { t with
          loops := t.loops.set d ⟨count, (t.pc + wordsLen ext.isSome) % 2 ^ 32, stop⟩, depth := d + 1 })

/-- Start a hardware loop, or skip it for a count of 0 (R326). -/
def execLoop (u : BitVec 7) (rs1 rs2 : BitVec 5) (imm : BitVec 16) (ext : Option (BitVec 26)) (s : State) : Out :=
  s.loopOp u rs1 rs2 imm ext

/-- Leave the innermost loop (R328); `ext`: the word stands behind an EXT of immediate 0. -/
def execLbrk (u : BitVec 7) (rs1 rs2 : BitVec 5) (ext : Bool) (s : State) : Out :=
  s.loopOp u rs1 rs2 0 (if ext then some 0 else none)

end Sys2Proof.Machine
end

