-- ==== Sys2Proof/Machine/Mail.lean ====
section
/-! DEFINITION. The mailbox store (R523-R525) and the wharf (R447-R449). -/

namespace Sys2Proof.Machine

/-! ## The mailbox store (R523-R525) -/

/-- The binding of a mailbox (R540): VALID, SRC_MODE, SRC_DIE, DEPTHM1 and CID. -/
structure Bind where
  valid : Bool
  mode : Nat
  die : Nat
  depth : Nat
  cid : Nat
  deriving DecidableEq, Repr

def State.mboxBind (s : State) (m : Nat) : Bind :=
  if m = 4095 then
    ⟨s.on Reg.KPR_MBOX_BIND4095_VALID, s.get Reg.KPR_MBOX_BIND4095_SRC_MODE, s.get Reg.KPR_MBOX_BIND4095_SRC_DIE,
      s.get Reg.KPR_MBOX_BIND4095_DEPTHM1 + 1, s.get Reg.KPR_MBOX_BIND4095_CID⟩
  else
    ⟨s.on (Reg.KPR_MBOX_BIND_VALID m), s.get (Reg.KPR_MBOX_BIND_SRC_MODE m), s.get (Reg.KPR_MBOX_BIND_SRC_DIE m),
      s.get (Reg.KPR_MBOX_BIND_DEPTHM1 m) + 1, s.get (Reg.KPR_MBOX_BIND_CID m)⟩

/-- Messages of a mailbox, oldest first. -/
def State.mbox (s : State) (m : Nat) : List Msg := Tab.get [] s.mail.boxes m

/-- Lines that a list of messages holds. -/
def msgLines (l : List Msg) : Nat := l.foldl (fun n (x : Msg) => n + x.lines.length) 0

/-- The messages of a mailbox replaced; KPR_MBOX_USE follows (R540). -/
def State.setMbox (s : State) (m : Nat) (l : List Msg) : State :=
  let s := { s with mail := { s.mail with boxes := s.mail.boxes.set m l } }
  s.put Reg.KPR_MBOX_USE_LINES (s.mail.boxes.foldl (fun n e => n + msgLines e.2) 0)

/-- Results of the mailbox store (R523, R524). -/
def mAccepted : Nat := 0
def mFull : Nat := 1
def mRefused : Nat := 2

/-- Status words of RSEND and RRECV (R343, R344). -/
def sentWord (r : Nat) : Word := BitVec.ofNat 32 (r * 2 ^ 28)

/-- A tile's receive is answered (R344): the message, cut to the lines asked for, and the status. -/
def State.giveMsg (s : State) (t sreg lines addr : Nat) (m : Msg) : State :=
  let n := min lines m.lines.length
  let s := s.updTile t fun x =>
    let x := ((List.range n).foldl (fun (x : Tile) k => x.wrLe (addr + 64 * k) 64 (m.lines.getD k 0)) x)
    { x.setS sreg (BitVec.ofNat 32 (b2n (decide (lines < m.lines.length)) * 2 ^ 27 + (n - 1) * 2 ^ 24 + m.src % 512)) with call := none }
  s.complete t false

/-- A blocked mailbox instruction completes with a status (R343, R344). -/
def State.endCall (s : State) (t sreg : Nat) (r : Nat) : State :=
  (s.updTile t fun x => { x.setS sreg (sentWord r) with call := none }).complete t false

/-- The oldest receive that the store holds for a mailbox takes its oldest message (R524); `n` bounds the
receives. -/
def State.serveRecv (s : State) (m : Nat) : Nat → State
  | 0 => s
  | n + 1 =>
    match s.mail.recvs.find? (·.2 == m), s.mbox m with
    | some (t, _), x :: rest =>
      let s := { s with mail := { s.mail with recvs := s.mail.recvs.filter (· != (t, m)) } }
      match (s.tile t).call with
      | some (.recv b sreg lines addr) =>
        if b = m then State.serveRecv ((s.setMbox m rest).giveMsg t sreg lines addr x) m n
        else State.serveRecv s m n
      | _ => State.serveRecv s m n
    | _, _ => s

/-- A mailbox send reaches the store (R523): the result, and the message appended where it is accepted. -/
def State.mboxSend (s : State) (m src : Nat) (lines : List Nat) : State × Nat :=
  let b := s.mboxBind m
  let admits := if b.mode = 0 then true else if b.mode = 1 then src == b.die else src == s.ownDie
  if !b.valid ∨ !admits ∨ m = 4095 then (s, mRefused)
  else if b.depth < msgLines (s.mbox m) + lines.length ∨ 2048 < s.get Reg.KPR_MBOX_USE_LINES + lines.length then (s, mFull)
  else ((s.setMbox m (s.mbox m ++ [⟨src, lines⟩])).serveRecv m 64, mAccepted)

/-- A blocked send of tile `t` is answered by the store (R523, R343). -/
def State.sendAnswer (s : State) (t sreg : Nat) (nb : Bool) (die m : Nat) (msg : List Nat) (r : Nat) : State :=
  if r = mFull ∧ !nb then s.updTile t fun x => { x with call := some (.send die m sreg msg nb (some (s.time t + 50))) }
  else s.endCall t sreg r

/-! ## The wharf (R447-R449)

The split bitmap fills the first half of a chunk's 2 KiB and the used bitmap the second, bit `n` for node
`n`, the root node 0 and the halves of node `n` nodes `2 n + 1` and `2 n + 2` (log entry 26). -/

/-- Size of a chunk, and of the smallest block. -/
def chunkSize : Nat := 2 ^ 24

/-- A bit of a chunk's state area. -/
def State.wharfBit (s : State) (a : Arena) (chunk half n : Nat) : Bool :=
  bitAt (s.physByte (a.statePa + chunk * 2048 + half * 1024 + n / 8)).toNat (n % 8)

def State.setWharfBit (s : State) (a : Arena) (chunk half n : Nat) (b : Bool) : State :=
  let pa := a.statePa + chunk * 2048 + half * 1024 + n / 8
  s.physPut pa (BitVec.ofNat 8 (setBit (s.physByte pa).toNat (n % 8) b))

/-- Node `n` is a free block: neither split nor used, with its parent split. -/
def State.wharfFree (s : State) (a : Arena) (chunk n : Nat) : Bool :=
  !(s.wharfBit a chunk 0 n) && !(s.wharfBit a chunk 1 n) && (n == 0 || s.wharfBit a chunk 0 ((n - 1) / 2))

/-- The lowest-addressed free block of depth `d`: chunk and index among the blocks of that depth. -/
def State.wharfAt (s : State) (a : Arena) (d : Nat) : Option (Nat × Nat) :=
  (List.range a.chunks).findSome? fun c =>
    ((List.range (2 ^ d)).find? fun i => s.wharfFree a c (2 ^ d - 1 + i)).map fun i => (c, i)

/-- A free block of depth `d`, or the smallest larger one: its depth, chunk and index (R448). -/
def State.wharfFind (s : State) (a : Arena) (d : Nat) : Option (Nat × Nat × Nat) :=
  (List.range (d + 1)).findSome? fun k => (s.wharfAt a (d - k)).map fun e => (d - k, e.1, e.2)

/-- A block of depth `d0` split down to depth `d0 + k` along its lowest address. -/
def State.wharfSplit (s : State) (a : Arena) (chunk d0 i : Nat) : Nat → State
  | 0 => s
  | k + 1 => State.wharfSplit (s.setWharfBit a chunk 0 (2 ^ d0 - 1 + i) true) a chunk (d0 + 1) (2 * i) k

/-- ALLOC's size in bytes rounded up to a power of two from 4 KiB (R345). -/
def allocSize (n : Nat) : Nat :=
  ((List.range 13).map fun k => 2 ^ (12 + k)).find? (n ≤ ·) |>.getD 0

/-- Bytes of the block zeroed where the context may write them (R345, R448, log entry 27). -/
def State.zeroVa (s : State) (cid va : Nat) : Nat → State
  | 0 => s
  | n + 1 =>
    State.zeroVa (match s.reach cid va .write with
      | .ok pa => s.physPut pa 0
      | .err _ => s) cid (va + 1) n

/-- The state area of an arena passes the check under the driver's CID (R448). -/
def State.wharfReach (s : State) (a : Arena) : Bool :=
  s.ownerOk s.driverCid a.statePa false && !(s.keyAbsent a.statePa)

/-- ALLOC of a number of bytes (R345, R448): the block's address, or `none`. -/
def State.wharfAlloc (s : State) (cid size : Nat) (zero : Bool) : Option (State × Nat) :=
  match (s.ctx cid).arena with
  | none => none
  | some a =>
    if size = 0 ∨ chunkSize < size ∨ !(s.wharfReach a) then none
    else
      let n := allocSize size
      let d := 24 - Nat.log2 n
      match s.wharfFind a d with
      | none => none
      | some (d0, c, i) =>
        let s := s.wharfSplit a c d0 i (d - d0)
        let i := i * 2 ^ (d - d0)
        let s := s.setWharfBit a c 1 (2 ^ d - 1 + i) true
        let va := a.va + c * chunkSize + i * n
        some (if zero then s.zeroVa cid va n else s, va)

/-- Buddies of node `n` merge upward while the other half is free (R448); `k` bounds the depth. -/
def State.wharfMerge (s : State) (a : Arena) (chunk n : Nat) : Nat → State
  | 0 => s
  | k + 1 =>
    let buddy := if n % 2 = 1 then n + 1 else n - 1
    if n = 0 ∨ s.wharfBit a chunk 0 buddy ∨ s.wharfBit a chunk 1 buddy then s
    else State.wharfMerge (s.setWharfBit a chunk 0 ((n - 1) / 2) false) a chunk ((n - 1) / 2) k

/-- FREE of a block (R346, R448): `none` where the address is not the start of a live block. -/
def State.wharfDrop (s : State) (cid va : Nat) : Option State :=
  match (s.ctx cid).arena with
  | none => none
  | some a =>
    if va < a.va ∨ a.va + a.chunks * chunkSize ≤ va ∨ !(s.wharfReach a) then none
    else
      let c := (va - a.va) / chunkSize
      let o := (va - a.va) % chunkSize
      match (List.range 13).find? fun d => o % (chunkSize / 2 ^ d) == 0 &&
          s.wharfBit a c 1 (2 ^ d - 1 + o / (chunkSize / 2 ^ d)) with
      | none => none
      | some d =>
        let n := 2 ^ d - 1 + o / (chunkSize / 2 ^ d)
        some ((s.setWharfBit a c 1 n false).wharfMerge a c n 12)

end Sys2Proof.Machine
end

