-- ==== Sys2Proof/Machine/Movement.lean ====
section
/-! DEFINITION. Movement and system instructions (R331-R353, R384): XFER, WAIT, ATOM, RSEND, RRECV, ALLOC,
FREE, SIGNAL, PHASE, TIME, CLIPSTAT, TMODE, END, YIELD and TRAP. -/

namespace Sys2Proof.Machine

/-- The instruction is not provided on the island core (R110). -/
def tileOnly (c : Nat) : Option Exc := excIf (c == isleCore) excEncoding

/-- The instruction is provided on the island core only (R337, R347). -/
def isleOnly (c : Nat) : Option Exc := excIf (c != isleCore) excEncoding

/-! ## XFER (R331-R334) -/

/-- Operand rules of R332. -/
def xferBad (func : BitVec 13) (sf : Nat) (d : Option Desc) : Bool :=
  let strided := func.getLsbD 1
  let sealed := func.getLsbD 2
  let bscale := (d.map (·.bscale)).getD false
  (!strided && sf != 0) || (strided && (sf == 0 || decide (29 < sf))) || (strided && bscale) ||
    (sealed && (func.getLsbD 0 || strided))

/-- XFER issues one barge (R331-R334); a shared identifier or 16 barges outstanding stall it (R281, R334). -/
def execXfer (u : BitVec 7) (a t : BitVec 4) (sf : BitVec 5) (func : BitVec 13) (s : State) : Out :=
  let c := coreOf u
  .next <| s.issue c false fun s =>
    let x := s.tile c
    let d := x.treg t.toNat
    let k := sf.toNat
    s.checked c [rA a.toNat, rT t.toNat, rS k, rS (k + 1), rS (k + 2)] []
        ([tileOnly c, excIf (func.toNat / 256 != 0) excEncoding,
          excIf (xferBad func k (descFields d)) excOperand] ++ descExcsOf d t.toNat) fun s =>
      let b : Barge := ⟨(x.areg a.toNat).toNat, d, x.sreg k, x.sreg (k + 1), x.sreg (k + 2), 0, func, false⟩
      let b := if func.getLsbD 1 then b else { b with m1 := 0, m2 := 0, m3 := 0 }
      if x.barges.any (fun (y : Barge) => y.id == b.id) ∨ 16 ≤ x.barges.length then .stall s
      else .done (s.updTile c fun x => { x with barges := x.barges ++ [b] })

/-! ## WAIT (R337, R111) -/

/-- The core waits (R337); the island reads WAITING (R139). -/
def State.await (s : State) (c : Nat) (w : WaitFor) : State :=
  if c = isleCore then (s.updTile c fun t => { t with wait := some w }).put Reg.WAT_STATUS_PROG_STATE 2
  else s.updTile c fun t => { t with core := .wait, wait := some w }

/-- WAIT BARGE: no outstanding barge has its bit in the mask (R337). -/
def execWaitBarge (u : BitVec 7) (imm : BitVec 16) (s : State) : Out :=
  let c := coreOf u
  .next <| s.issue c false fun s =>
    s.checked c [] [] [tileOnly c] fun s =>
      if (s.tile c).barges.any fun (b : Barge) => imm.getLsbD b.id then .hold (s.await c (.barges imm.toNat)) else .done s

/-- WAIT UNITS (R337). -/
def execWaitUnits (u : BitVec 7) (imm : BitVec 16) (s : State) : Out :=
  let c := coreOf u
  .next <| s.issue c false fun s =>
    match firstExc [tileOnly c, excIf (imm != 0) excEncoding] with
    | some e => .exc s e
    | none => if (s.tile c).units.isEmpty then .done s else .hold (s.await c .units)

/-- The count of the GTC copy of core `c` (R350, R111). -/
def State.coreTime (s : State) (c : Nat) : Nat := s.time (if c = isleCore then copyIsland else c)

/-- WAIT TICK: the unit's GTC copy is at or above a2 (R337, R111). -/
def execWaitTick (u : BitVec 7) (imm : BitVec 16) (s : State) : Out :=
  let c := coreOf u
  .next <| s.issue c false fun s =>
    s.checked c [rA 2] [] [excIf (imm != 0) excEncoding] fun s =>
      let at_ := ((s.tile c).areg 2).toNat
      if at_ ≤ s.coreTime c then .done s else .hold (s.await c (.tick at_))

/-- A waiting WAIT TICK releases once its GTC copy reaches its value (R337, R111). -/
def execWaitTickRelease (u : BitVec 7) (s : State) : Out :=
  let c := coreOf u
  .next <| match (s.tile c).wait with
    | some (.tick n) => if n ≤ s.coreTime c then s.waitDone c else s
    | _ => s

/-- Island address of buffer A (0) or B (1) (R142). -/
def State.bufAddr (s : State) (b : Nat) : Nat :=
  64 * s.get (if b = 0 then Reg.WAT_FRAME_BUF_BUF_A else Reg.WAT_FRAME_BUF_BUF_B)

/-- The frame in a buffer. -/
def State.frameIn (s : State) (b : Nat) : Option Frame := Tab.get none s.island.frames b

/-- A WAIT FRAME takes the oldest ready frame but the one whose buffer a capture has chosen (R111, R114): s1 the buffer's
address, s2 the frame number, s3 its flags; the program holds the buffer. -/
def State.takeFrame (s : State) : State :=
  let chosen := s.island.capture.map (·.buf)
  match s.island.ready.find? fun b => some b != chosen with
  | none => s
  | some b =>
    match s.frameIn b with
    | none => { s with island := { s.island with ready := s.island.ready.erase b } }
    | some f =>
      let s := { s with island := { s.island with
        ready := s.island.ready.erase b, held := some b, releasedAt := some (s.time copyIsland) } }
      let a := s.bufAddr b
      (s.updTile isleCore fun t =>
        ((t.setS 1 (BitVec.ofNat 32 a)).setS 2 (BitVec.ofNat 32 f.no)).setS 3 (BitVec.ofNat 32 (1 + f.flags))).waitDone isleCore

/-- WAIT FRAME (R111, R138): the buffer held is given up; with RUN 0 the core halts. -/
def execWaitFrame (u : BitVec 7) (imm : BitVec 16) (s : State) : Out :=
  let c := coreOf u
  .next <| s.issue c false fun s =>
    s.checked c [] [] [isleOnly c, excIf (imm != 0) excEncoding] fun s =>
      let s := { s with island := { s.island with held := none, releasedAt := none } }
      if !(s.on Reg.WAT_CTRL_RUN) then .hold (s.put Reg.WAT_STATUS_PROG_STATE 5)
      else .hold ((s.await c .frame).takeFrame)

/-! ## Requests to another die (R465-R468) -/

/-- A header with every field 0. -/
def blankHeader : Header :=
  ⟨0, 0, false, 0, 0, 0, 0, 0, false, false, 0, 0, 0, false, 0, 0, false, 0, 0, 0, 0, 0, 0, 0, 0, false, 0, 0, 0, 0, 0, 0, 0,
   0, 0⟩

/-- Tile `t`'s NI takes up the request of a blocked instruction (R466, R468): the initiator of the tile, a tag that none
of its requests holds, the task's context and queue.  Another die's route is the ZL stop that the die map names. -/
def State.callOut (s : State) (t : Nat) (h : Header) : State :=
  let x := s.tile t
  let q := (x.task.map (·.1)).getD 0
  let stop := clStop (t / 4)
  let busy := fun (k : Nat) (o : Header) => o.src.toNat == stop && o.unit.toNat == t % 4 && o.tag.toNat == k
  let tag := ((List.range 64).find? fun k => !(s.mesh.out.any fun (o : OutReq) => busy k o.h) && !(s.mesh.waiting.any (busy k))).getD 0
  let h := { h with
    src := BitVec.ofNat 6 stop, unit := BitVec.ofNat 2 t, tag := BitVec.ofNat 6 tag, cid := BitVec.ofNat 10 x.cid,
    qid := BitVec.ofNat 15 q, prompt := (s.queue q).prompt }
  { s with mesh := { s.mesh with waiting := s.mesh.waiting ++ [h] } }

/-- A message to another die's mailbox leaves (R467, R342): the die among the address bits that hold it. -/
def State.sendOut (s : State) (t die m port : Nat) (msg : List Nat) : State :=
  s.callOut t { blankHeader with
    op := 0x30, dst := BitVec.ofNat 6 port, addr := BitVec.ofNat 52 (die * 2 ^ 43 + m), dstDie := BitVec.ofNat 9 die,
    len := BitVec.ofNat 4 msg.length, count := BitVec.ofNat 4 msg.length,
    data := BitVec.ofNat 4096 (msg.foldr (fun l w => l + 2 ^ 512 * w) 0) }

/-! ## ATOM (R339-R341) -/

/-- The operations of R339 that exist. -/
inductive AtomOp where
  | add | and_ | or_ | xor_ | smin | smax | umin | umax | swap | cas | fadd | load
  deriving DecidableEq, Repr

/-- Code of an operation (R339). -/
def AtomOp.code : AtomOp → Nat
  | .add => 0
  | .and_ => 1
  | .or_ => 2
  | .xor_ => 3
  | .smin => 4
  | .smax => 5
  | .umin => 6
  | .umax => 7
  | .swap => 8
  | .cas => 9
  | .fadd => 10
  | .load => 11

/-- The new word of an atomic on words of `w` bits (R339). -/
def atomNew (op : AtomOp) (w old x new : Nat) : Nat := match op with
  | .add => (old + x) % 2 ^ w
  | .and_ => old &&& x
  | .or_ => old ||| x
  | .xor_ => old ^^^ x
  | .smin => if asSigned w x < asSigned w old then x else old
  | .smax => if asSigned w old < asSigned w x then x else old
  | .umin => min old x
  | .umax => max old x
  | .swap => x
  | .cas => if old = x then new else old
  | .fadd => (toF32 ((f32 (BitVec.ofNat 32 old)).add (f32 (BitVec.ofNat 32 x)))).toNat
  | .load => old

/-- The old word goes to s[s], and for 64 bits its high half to s[s+1] (R340). -/
def Tile.takeOld (t : Tile) (k : Nat) (w64 : Bool) (old : Nat) : Tile :=
  let t := t.setS k (BitVec.ofNat 32 old)
  if w64 then t.setS (k + 1) (BitVec.ofNat 32 (old / 2 ^ 32)) else t

/-- One atomic operation (R339-R341).  A refused request is a mover fault, after which the resumed task issues
the instruction again; another die's word is answered over the link (R519). -/
def State.atom (s : State) (u : BitVec 7) (op : AtomOp) (w64 : Bool) (a t : BitVec 4) (sf : BitVec 5)
    (rsv : BitVec 8) : Out :=
  let c := coreOf u
  let k := sf.toNat
  let cas := op == .cas
  let regs := if w64 then (if cas then 4 else 2) else (if cas then 2 else 1)
  .next <| s.issue c false fun s =>
    let x := s.tile c
    let va := (x.areg a.toNat).toNat
    s.checked c (rA a.toNat :: (List.range regs).map fun i => rS (k + i)) []
        [tileOnly c, excIf (t != 0 || rsv != 0) excEncoding,
          excIf ((op == .fadd && w64) || (w64 && k % 2 != 0) || (w64 && cas && k % 4 != 0) || decide (32 < k + regs)) excOperand,
          excIf (va % (if w64 then 8 else 4) != 0) (excAddress a.toNat)] fun s =>
      match s.reachBy u.toNat x.cid va .atomic with
      | .err e => .hold (s.moverFault c va .atomic e)
      | .ok pa =>
        let n := if w64 then 8 else 4
        let word := fun (j : Nat) => if w64 then (x.sreg j).toNat + (x.sreg (j + 1)).toNat * 2 ^ 32 else (x.sreg j).toNat
        if paDie pa ≠ s.ownDie then
          let s := s.updTile c fun t => { t with call := some (.atom pa k w64) }
          .hold (s.callOut c { blankHeader with
            op := 4, addr := BitVec.ofNat 52 pa, mask := BitVec.ofNat 64 (op.code + b2n w64 * 16), count := 1,
            operand := BitVec.ofNat 64 (word k), operand2 := BitVec.ofNat 64 (if cas then word (k + (if w64 then 2 else 1)) else 0) })
        else
          let old := s.physLe pa n
          let s := s.physPutLe pa n (atomNew op (8 * n) old (word k) (word (k + (if w64 then 2 else 1))))
          .done (s.updTile c fun t => t.takeOld k w64 old)

/-- Atomic ADD (R339). -/
def execAtomAdd (u : BitVec 7) (a t : BitVec 4) (sf : BitVec 5) (w64 : Bool) (rsv : BitVec 8) (s : State) : Out :=
  s.atom u .add w64 a t sf rsv

/-- Atomic AND (R339). -/
def execAtomAnd (u : BitVec 7) (a t : BitVec 4) (sf : BitVec 5) (w64 : Bool) (rsv : BitVec 8) (s : State) : Out :=
  s.atom u .and_ w64 a t sf rsv

/-- Atomic OR (R339). -/
def execAtomOr (u : BitVec 7) (a t : BitVec 4) (sf : BitVec 5) (w64 : Bool) (rsv : BitVec 8) (s : State) : Out :=
  s.atom u .or_ w64 a t sf rsv

/-- Atomic XOR (R339). -/
def execAtomXor (u : BitVec 7) (a t : BitVec 4) (sf : BitVec 5) (w64 : Bool) (rsv : BitVec 8) (s : State) : Out :=
  s.atom u .xor_ w64 a t sf rsv

/-- Atomic signed minimum (R339). -/
def execAtomSmin (u : BitVec 7) (a t : BitVec 4) (sf : BitVec 5) (w64 : Bool) (rsv : BitVec 8) (s : State) : Out :=
  s.atom u .smin w64 a t sf rsv

/-- Atomic signed maximum (R339). -/
def execAtomSmax (u : BitVec 7) (a t : BitVec 4) (sf : BitVec 5) (w64 : Bool) (rsv : BitVec 8) (s : State) : Out :=
  s.atom u .smax w64 a t sf rsv

/-- Atomic unsigned minimum (R339). -/
def execAtomUmin (u : BitVec 7) (a t : BitVec 4) (sf : BitVec 5) (w64 : Bool) (rsv : BitVec 8) (s : State) : Out :=
  s.atom u .umin w64 a t sf rsv

/-- Atomic unsigned maximum (R339). -/
def execAtomUmax (u : BitVec 7) (a t : BitVec 4) (sf : BitVec 5) (w64 : Bool) (rsv : BitVec 8) (s : State) : Out :=
  s.atom u .umax w64 a t sf rsv

/-- Atomic SWAP (R339). -/
def execAtomSwap (u : BitVec 7) (a t : BitVec 4) (sf : BitVec 5) (w64 : Bool) (rsv : BitVec 8) (s : State) : Out :=
  s.atom u .swap w64 a t sf rsv

/-- Atomic CAS (R339). -/
def execAtomCas (u : BitVec 7) (a t : BitVec 4) (sf : BitVec 5) (w64 : Bool) (rsv : BitVec 8) (s : State) : Out :=
  s.atom u .cas w64 a t sf rsv

/-- Atomic FP32 sum (R339). -/
def execAtomFadd (u : BitVec 7) (a t : BitVec 4) (sf : BitVec 5) (w64 : Bool) (rsv : BitVec 8) (s : State) : Out :=
  s.atom u .fadd w64 a t sf rsv

/-- Atomic LOAD (R339). -/
def execAtomLoad (u : BitVec 7) (a t : BitVec 4) (sf : BitVec 5) (w64 : Bool) (rsv : BitVec 8) (s : State) : Out :=
  s.atom u .load w64 a t sf rsv

/-! ## RSEND and RRECV (R342-R344) -/

/-- Exceptions of a mailbox instruction (R342). -/
def mailExcs (c : Nat) (x : Tile) (a t : BitVec 4) (sf : BitVec 5) (lines : Nat) (rsv : BitVec 9) : List (Option Exc) :=
  let mb := (x.areg a.toNat).toNat
  let addr := (x.sreg sf.toNat).toNat
  [tileOnly c, excIf (t != 0 || rsv != 0) excEncoding,
    excIf (mb != mb / 2 ^ 32 % 512 * 2 ^ 32 + mb % 4096) excOperand,
    excIf (addr % 64 != 0) (excAddress sf.toNat),
    excIf (decide (storeTop < addr + 64 * lines - 1)) (excRange addr)]

/-- RSEND (R343): to the own die's store at once; to another die over the link, unless its die map names no
port. -/
def execRsend (u : BitVec 7) (a t : BitVec 4) (sf : BitVec 5) (lines : BitVec 2) (nb : Bool) (rsv : BitVec 9)
    (hits : List TileHit) (s : State) : Out :=
  let c := coreOf u
  let n := lines.toNat + 1
  .next <| s.issue c false fun s =>
    let x := s.tile c
    let mb := (x.areg a.toNat).toNat
    let addr := (x.sreg sf.toNat).toNat
    let die := mb / 2 ^ 32 % 512
    s.checked c [rA a.toNat, rS sf.toNat] [(addr, 64 * n)] (mailExcs c x a t sf n rsv) fun s =>
      match s.readRanges c [(addr, 64 * n)] with
      | .error e => .exc s e
      | .ok s => s.withEcc c [(addr, 64 * n)] hits fun s =>
        let msg := (List.range n).map fun k => x.rdLe (addr + 64 * k) 64
        if die = s.ownDie then
          let (s, r) := s.mboxSend (mb % 4096) s.ownDie msg
          .hold (s.sendAnswer c sf.toNat nb die (mb % 4096) msg r)
        else match s.diePort die with
          | none => .done (s.updTile c fun t => t.setS sf.toNat (sentWord 3))
          | some p =>
            let s := s.updTile c fun t => { t with call := some (.send die (mb % 4096) sf.toNat msg nb none) }
            .hold (s.sendOut c die (mb % 4096) p msg)

/-- A blocking RSEND that was answered FULL sends again 50 t later (R523). -/
def execRsendRetry (tile : BitVec 6) (s : State) : Out :=
  let c := tile.toNat
  .next <| match (s.tile c).call with
    | some (.send die m sreg msg nb (some due)) =>
      if s.time c < due then s
      else if die = s.ownDie then
        let (s, r) := s.mboxSend m s.ownDie msg
        s.sendAnswer c sreg nb die m msg r
      else match s.diePort die with
        | none => s.endCall c sreg 3
        | some p => (s.updTile c fun t => { t with call := some (.send die m sreg msg nb none) }).sendOut c die m p msg
    | _ => s

/-- RRECV (R344, R524). -/
def execRrecv (u : BitVec 7) (a t : BitVec 4) (sf : BitVec 5) (lines : BitVec 2) (nb : Bool) (rsv : BitVec 9)
    (s : State) : Out :=
  let c := coreOf u
  let n := lines.toNat + 1
  .next <| s.issue c false fun s =>
    let x := s.tile c
    let mb := (x.areg a.toNat).toNat
    let addr := (x.sreg sf.toNat).toNat
    let m := mb % 4096
    s.checked c [rA a.toNat, rS sf.toNat] [(addr, 64 * n)] (mailExcs c x a t sf n rsv) fun s =>
      let b := s.mboxBind m
      if mb / 2 ^ 32 % 512 ≠ s.ownDie ∨ !b.valid ∨ b.cid ≠ x.cid then
        .done (s.updTile c fun t => t.setS sf.toNat (sentWord mRefused))
      else match s.mbox m with
        | g :: rest => .hold ((s.setMbox m rest).giveMsg c sf.toNat n addr g)
        | [] =>
          if nb then .done (s.updTile c fun t => t.setS sf.toNat (sentWord 1))
          else
            let s := s.updTile c fun t => { t with call := some (.recv m sf.toNat n addr) }
            .hold { s with mail := { s.mail with recvs := s.mail.recvs ++ [(c, m)] } }

/-! ## ALLOC and FREE (R345, R346) -/

/-- Size that ALLOC_FAILED records, in 4 KiB units, saturated (R761). -/
def allocUnits (size : Nat) : Nat :=
  if size = 0 then 0 else if size ≤ chunkSize then allocSize size / 4096 else min 0xFFFFF ((size + 4095) / 4096)

/-- ALLOC (R345). -/
def execAlloc (u : BitVec 7) (a t : BitVec 4) (sf : BitVec 5) (zero try_ : Bool) (rsv : BitVec 10) (s : State) : Out :=
  let c := coreOf u
  .next <| s.issue c false fun s =>
    let x := s.tile c
    let size := (x.sreg sf.toNat).toNat
    s.checked c [rA a.toNat, rS sf.toNat] [] [tileOnly c, excIf (t != 0 || rsv != 0) excEncoding] fun s =>
      match s.wharfAlloc x.cid size zero with
      | some (s, va) => .done (s.updTile c fun t => t.setA a.toNat (BitVec.ofNat 64 va))
      | none =>
        if try_ then .done (s.updTile c fun t => t.setA a.toNat 0) else .exc s ⟨0x14, allocUnits size⟩

/-- FREE (R346). -/
def execFree (u : BitVec 7) (a t : BitVec 4) (sf : BitVec 5) (bits : BitVec 2) (rsv : BitVec 10) (s : State) : Out :=
  let c := coreOf u
  .next <| s.issue c false fun s =>
    s.checked c [rA a.toNat] []
        [tileOnly c, excIf (t != 0 || sf != 0 || bits != 0 || rsv != 0) excEncoding] fun s =>
      match s.wharfDrop (s.tile c).cid ((s.tile c).areg a.toNat).toNat with
      | some s => .done s
      | none => .exc s excOperand

/-! ## SIGNAL (R347, R348, R112) -/

/-- A barge or unit instruction of the core is unfinished (R338). -/
def Tile.busy (t : Tile) : Bool := !t.barges.isEmpty || !t.units.isEmpty

/-- SIGNAL FENCE (R347, R348): a signal or a cancel, once every earlier barge and unit instruction is done. -/
def execSignalFence (u : BitVec 7) (imm : BitVec 16) (s : State) : Out :=
  let c := coreOf u
  let ra := imm.toNat % 16
  let rv := imm.toNat / 16 % 16
  let cancel := imm.getLsbD 8
  .next <| s.issue c false fun s =>
    let x := s.tile c
    let va := (x.areg ra).toNat
    let v := (x.areg rv).toNat
    s.checked c (rA ra :: if cancel then [] else [rA rv]) []
        [tileOnly c, excIf (imm.toNat / 2 ^ 9 != 0) excEncoding, excIf (!cancel && v / 2 ^ 62 != 0) excOperand,
          excIf (va % 16 != 0) (excAddress ra)] fun s =>
      if x.busy then .stall s
      else match x.task with
        | none => .done s
        | some (q, _, _) => .done (s.fence x.cid va (some q) (if cancel then .cancel else .signal v))

/-- SIGNAL EVENT (R347, R348). -/
def execSignalEvent (u : BitVec 7) (imm : BitVec 16) (s : State) : Out :=
  let c := coreOf u
  let vec := imm.toNat % 4096
  .next <| s.issue c false fun s =>
    s.checked c [] [] [tileOnly c, excIf (imm.toNat / 4096 != 0) excEncoding,
        excIf (!((s.ctx (s.tile c).cid).hasVec vec)) excOperand] fun s =>
      if (s.tile c).busy then .stall s else .done (s.event vec)

/-- The buffer that the program holds is kept (R112, R139). -/
def State.keepHeld (s : State) : State := match s.island.held with
  | none => s
  | some b => s.put (if b = 0 then Reg.WAT_STATUS_KEEP_A else Reg.WAT_STATUS_KEEP_B) 1

/-- SIGNAL WAKE: a wake report with a reason, and the held buffer kept (R112). -/
def execSignalWake (u : BitVec 7) (imm : BitVec 16) (s : State) : Out :=
  let c := coreOf u
  .next <| s.issue c false fun s =>
    s.checked c [] [] [isleOnly c, excIf (imm.toNat / 256 != 0) excEncoding] fun s =>
      let s := s.keepHeld
      .done (({ s with island := { s.island with kept := s.island.held } }).wakeReport 1 (imm.toNat % 256))

/-- SIGNAL KEEP (R112). -/
def execSignalKeep (u : BitVec 7) (imm : BitVec 16) (s : State) : Out :=
  let c := coreOf u
  .next <| s.issue c false fun s =>
    s.checked c [] [] [isleOnly c, excIf (imm != 0) excEncoding] fun s => .done s.keepHeld

/-! ## PHASE, TIME, CLIPSTAT and TMODE (R349-R351, R384) -/

/-- A phase report of a tile leaves, in place of one it holds unsent (R349). -/
def State.phaseReport (s : State) (t n : Nat) : State :=
  let mine := fun (r : Report) => match r with
    | .phase k _ => k == t
    | .fault _ => false
    | .wake _ _ => false
    | .demand _ => false
    | .samplePart _ => false
    | .sampleCtx _ => false
    | .sampleProbe _ _ => false
    | .sampleLink _ _ => false
    | .sampleActivity _ _ => false
  if s.conc.sent.any mine then
    { s with conc := { s.conc with sent := s.conc.sent.map fun r => if mine r then .phase t n else r } }
  else s.send (.phase t n)

/-- PHASE (R349). -/
def execPhase (u : BitVec 7) (imm : BitVec 16) (s : State) : Out :=
  let c := coreOf u
  .next <| s.issue c false fun s =>
    s.checked c [] [] [tileOnly c, excIf (imm.toNat / 256 != 0) excEncoding] fun s =>
      .done ((s.updTile c fun t => { t with phase := imm.toNat % 256 }).phaseReport c (imm.toNat % 256))

/-- TIME (R350). -/
def execTime (u : BitVec 7) (imm : BitVec 16) (s : State) : Out :=
  let c := coreOf u
  let k := imm.toNat % 16
  .next <| s.issue c false fun s =>
    s.checked c [rA k] [] [excIf (imm.toNat / 16 != 0 || !(aOk c k)) excEncoding] fun s =>
      .done (s.updTile c fun t => t.setA k (BitVec.ofNat 64 (s.coreTime c)))

/-- The count that CLIPSTAT's selector names; 0x6 and 0x7 name none (R384). -/
def Tile.clipStat (t : Tile) : Nat → Option Nat
  | 0 => some (t.converted % 2 ^ 32)
  | 1 => some (t.converted / 2 ^ 32 % 2 ^ 32)
  | 2 => some (sat32 t.clipped)
  | 3 => some (sat32 t.flushed)
  | 4 => some (sat32 t.nan)
  | 5 => some (sat32 t.unwritten)
  | _ => none

/-- CLIPSTAT, once every earlier unit instruction is done (R384). -/
def execClipstat (u : BitVec 7) (imm : BitVec 16) (s : State) : Out :=
  let c := coreOf u
  let rd := imm.toNat % 32
  let sel := imm.toNat / 32 % 8
  .next <| s.issue c false fun s =>
    s.checked c [rS rd] [] [tileOnly c, excIf (imm.toNat / 256 != 0) excEncoding, excIf (decide (5 < sel)) excOperand] fun s =>
      if !((s.tile c).units.isEmpty) then .stall s
      else match (s.tile c).clipStat sel with
        | some v => .done (s.updTile c fun t => t.setS rd (BitVec.ofNat 32 v))
        | none => .exc s excOperand

/-- TMODE read (R351). -/
def execTmodeRead (u : BitVec 7) (imm : BitVec 16) (s : State) : Out :=
  let c := coreOf u
  let k := imm.toNat % 32
  .next <| s.issue c false fun s =>
    s.checked c [rS k] [] [tileOnly c, excIf (imm.toNat / 32 != 0) excEncoding] fun s =>
      .done (s.updTile c fun t => t.setS k t.tmode)

/-- TMODE write; a reserved bit set is refused (R351, R357). -/
def execTmodeWrite (u : BitVec 7) (imm : BitVec 16) (s : State) : Out :=
  let c := coreOf u
  let k := imm.toNat % 32
  .next <| s.issue c false fun s =>
    let v := (s.tile c).sreg k
    s.checked c [rS k] [] [tileOnly c, excIf (imm.toNat / 32 != 0) excEncoding,
        excIf (v &&& 0xFFFFFF70 != 0) excOperand] fun s =>
      .done (s.updTile c fun t => { t with tmode := v })

/-! ## END, YIELD and TRAP (R352, R353, R308, R257) -/

/-- END (R308): the core stops issuing with its PC at the END; the island's program stops (R113). -/
def execEnd (u : BitVec 7) (imm : BitVec 16) (s : State) : Out :=
  let c := coreOf u
  .next <| s.issue c false fun s =>
    s.checked c [] [] [excIf (imm != 0) excEncoding] fun s =>
      if c = isleCore then .hold (s.put Reg.WAT_STATUS_PROG_STATE 4)
      else .hold (s.updTile c fun t => { t with core := .ending, atEnd := true })

/-- The best ready task for which tile `t` is eligible, if it outranks the task that yields (R239, R257). -/
def State.outranked (s : State) (t q i : Nat) (r : Run) : Option Cand :=
  let me : Cand := ⟨q, i, r.inst, none, r.entry, (s.tile t).cid⟩
  let fits := fun (k : Cand) =>
    let p := (s.ctx k.cid).pid
    s.domOpen (clDom (t / 4)) && s.clusterServes p (affOf (s.candRaw k)) (t / 4) && s.claimOk k.qid t &&
      !(s.quarantined p) && !(s.stateWaits t)
  (s.bestOf (s.pool.filter fits)).filter fun k => s.ranksAhead k me

/-- A task that yields to a better one is switched out, and that one takes the tile (R257). -/
def State.yieldTo (s : State) (t : Nat) (k : Cand) : State :=
  match s.switchOut t with
  | (s, false) => s
  | (s, true) => s.setDtile t { s.dtile t with next := some (k.qid, k.index, k.inst, k.slot.isSome) }

/-- YIELD: loops close, then the tile is offered (R257, R352, R353). -/
def execYield (u : BitVec 7) (imm : BitVec 16) (s : State) : Out :=
  let c := coreOf u
  .next <| s.issue c false fun s =>
    s.checked c [] [] [tileOnly c, excIf (imm != 0) excEncoding] fun s =>
      if (s.tile c).busy then .stall s
      else
        let s := s.complete c false
        match s.holder c with
        | none => .hold s
        | some (q, i, _, r) => .hold (match s.outranked c q i r with
          | some k => s.yieldTo c k
          | none => s)

/-- TRAP (R352). -/
def execTrap (u : BitVec 7) (imm : BitVec 16) (s : State) : Out :=
  let c := coreOf u
  .next <| s.issue c false fun s => .exc s ⟨0x16, imm.toNat⟩

end Sys2Proof.Machine
end

