-- ==== Sys2Proof/Machine/Memory.lean ====
section
/-! DEFINITION. What a memory-port stop and a basin stop do with a request that the mesh brings (R427-R441, R467-R470,
R490): the owner check, sealing, the access and its response packet.  A command of an initiator carries its own whole
accesses; a packet served here is one that PACKET_EJECT left or that its sender names. -/

namespace Sys2Proof.Machine

/-! ## Headers and responses (R465-R469) -/

/-- Even parity over the CID (R465). -/
def cidParity (cid : Nat) : Bool := ((List.range 10).filter fun i => bitAt cid i).length % 2 == 1

def hCparOk (h : Header) : Bool := h.cpar == cidParity h.cid.toNat

/-- Operations (R467). -/
def opRead : Nat := 0x01
def opWrite : Nat := 0x02
def opMasked : Nat := 0x03
def opAtomic : Nat := 0x04
def opHandover : Nat := 0x10
def opDoorbell : Nat := 0x11
def opCancel : Nat := 0x12
def opRegRead : Nat := 0x20
def opRegWrite : Nat := 0x21
def opMailbox : Nat := 0x30
def opEvent : Nat := 0x40
def opReport : Nat := 0x41
def opRspData : Nat := 0x80
def opRspAck : Nat := 0x81

/-- The operation answers with data (R467). -/
def opReads (op : Nat) : Bool := op == 0x01 || op == 0x04 || op == 0x20

/-- Response status values (R469). -/
def stOk : Nat := 0
def stUnreachable : Nat := 1
def stMisdirected : Nat := 2
def stPoison : Nat := 3
def stRefused : Nat := 4

/-- The lines that a READ, WRITE or WRITE_MASKED names (R470). -/
def hLines (h : Header) : List Nat :=
  (List.range h.count.toNat).map fun k => h.addr.toNat + k * (if h.stride then 256 else 64)

/-- The response to a request (R467-R469): `lines` of data, none with a status that is not OK but for the zeros of a
refused read. -/
def respond (h : Header) (status lines data : Nat) : Header :=
  { h with
    route := 0, hops := 0, dst := h.src, src := h.dst, vn := 1, poison := false, len := BitVec.ofNat 4 lines,
    op := BitVec.ofNat 8 (if opReads h.op.toNat then opRspData else opRspAck), count := BitVec.ofNat 4 lines,
    stride := false, status := BitVec.ofNat 8 status, addr := 0, mask := 0, operand := 0, operand2 := 0,
    data := BitVec.ofNat 4096 data }

/-- A packet waits at its NI (R484). -/
def State.enqueue (s : State) (h : Header) : State :=
  { s with mesh := { s.mesh with waiting := s.mesh.waiting ++ [h] } }

/-- A unit takes a packet that had ejected at its stop. -/
def State.takeArrived (s : State) (h : Header) : State :=
  { s with mesh := { s.mesh with arrived := s.mesh.arrived.erase h } }

/-- The response of a request that ends without data (R469). -/
def State.answerBare (s : State) (h : Header) (status : Nat) : State := s.enqueue (respond h status 0 0)

/-- The record `id` will name the failure of a request (R490). -/
def State.noteErr (s : State) (h : Header) (id : Nat) : State :=
  { s with mesh := { s.mesh with
      errRec := s.mesh.errRec.set (256 * h.src.toNat + 64 * h.unit.toNat + h.tag.toNat) (some id) } }

/-- The record that names the failure of a request. -/
def State.errOf (s : State) (h : Header) : Option Nat :=
  Tab.get none s.mesh.errRec (256 * h.src.toNat + 64 * h.unit.toNat + h.tag.toNat)

/-- Unit behind a mesh stop (R30, R672). -/
def stopUnit (n : Nat) : Nat :=
  if n < 6 then uLNK n
  else if n = 30 then uDSP else if n = 31 then uXLT else if n = 32 then uDMA 0 else if n = 33 then uDMA 1
  else if n = 34 then uHPT else if n = 35 then uKPR
  else if n % 6 = 0 then uMP (n / 6 - 1)
  else if n % 6 = 5 then uBS (n / 6 - 1)
  else uCLS (4 * (n / 6 - 1) + n % 6 - 1)

/-- A stop receives a request that it does not serve (R490): fault 0x32 and MISDIRECTED. -/
def State.misdirected (s : State) (h : Header) : State :=
  let n := h.dst.toNat
  let s := s.noteErr h s.recId
  (s.faultC 0x32 (stopUnit n) n (h.addr.toNat + n * 2 ^ 52) (some h.cid.toNat) (some h.qid.toNat) none).answerBare h
    stMisdirected

/-! ## Refusals (R433) -/

/-- A memory-port stop (R30). -/
def isMpStop (n : Nat) : Bool := decide (6 ≤ n) && decide (n < 30) && n % 6 == 0

/-- The tile of a cluster's initiator (R483). -/
def unitTile (stop unit : Nat) : Nat := 4 * stopCl stop + unit

/-- CID that the tile of an initiator is bound to (R38). -/
def State.boundCid (s : State) (h : Header) : Option Nat :=
  let x := s.tile (unitTile h.src.toNat h.unit.toNat)
  match x.task with
  | some _ => some x.cid
  | none => none

/-- The mismatch originated inside the engine (R433): the CID's parity fails, or a tile's request carries a CID
other than the tile's binding. -/
def State.engineOrigin (s : State) (h : Header) : Bool :=
  !(hCparOk h) || (isClStop h.src.toNat && s.boundCid h != some h.cid.toNat)

/-- TAG_ENGINE (R433, R658, R660): the carried CID and the bound one, whose partitions an A2 affects. -/
def State.tagEngine (s : State) (h : Header) : State :=
  let c := h.cid.toNat
  let b := (s.boundCid h).getD c
  let parts := [c, b].foldl (fun m x => match s.cidPart x with
    | some p => setBit m p true
    | none => m) 0
  s.alarm aTagEngine 0x78 (c + b * 2 ^ 16) parts

/-- The request is an engine unit's own, which loses no context (R433): under the driver's CID, or of the swap
engine, the island's side port or the Keeper. -/
def State.ownAccess (s : State) (h : Header) : Bool :=
  let n := h.src.toNat
  !(isClStop n) && (h.cid.toNat == s.driverCid || (n == dspStop && h.unit == 1) || (n == dmaStop 0 && h.unit == 1) ||
    n == kprStop || decide (n < 6))

/-- A request is refused (R433): fault 0x04 by the answering stop, zeros for a read, and the loss of its context or,
where the mismatch is the engine's, the alarm. -/
def State.refuse (s : State) (h : Header) (unit pa : Nat) : State :=
  let c := h.cid.toNat
  let eng := s.engineOrigin h
  let far := decide (h.src.toNat < 6)
  let id := s.recId
  let s := s.faultC 4 unit h.dst.toNat (pa % 2 ^ 52 + b2n far * 2 ^ 62 + b2n eng * 2 ^ 63) (some c) (some h.qid.toNat) none
  let s := if eng then s.tagEngine h else if far || s.ownAccess h then s else s.lose c 4 (some id)
  let n := if opReads h.op.toNat then max 1 h.count.toNat else 0
  s.enqueue (respond h stRefused n 0)

/-! ## The access -/

/-- The atomic operation of a code (R339). -/
def atomOf : Nat → Option AtomOp
  | 0 => some .add
  | 1 => some .and_
  | 2 => some .or_
  | 3 => some .xor_
  | 4 => some .smin
  | 5 => some .smax
  | 6 => some .umin
  | 7 => some .umax
  | 8 => some .swap
  | 9 => some .cas
  | 10 => some .fadd
  | 11 => some .load
  | _ => none

/-- Bytes of a line written under a byte mask (R467). -/
def State.physMasked (s : State) (pa mask data : Nat) : State :=
  (List.range 64).foldl (fun s k => if bitAt mask k then s.physPut (pa + k) (BitVec.ofNat 8 (data / 256 ^ k)) else s) s

/-- The lines that a write touches leave no stale copy: the basin's copy is updated in place (R440); an atomic drops
it. -/
def State.dropLine (s : State) (pa : Nat) : State :=
  { s with basin := { s.basin with lines := s.basin.lines.filter fun (y : Nat × Bool) => y.1 != pa / 64 } }

/-- A request that passed its checks takes effect and is answered (R467). -/
def State.serveMem (s : State) (h : Header) : State :=
  let op := h.op.toNat
  if op = opRead then
    s.enqueue (respond h stOk h.count.toNat (leNat ((hLines h).flatMap fun a => s.physBytes a 64)))
  else if op = opWrite then
    (((hLines h).zipIdx).foldl (fun s e => s.physPutLe e.1 64 (h.data.toNat / 2 ^ (512 * e.2))) s).answerBare h stOk
  else if op = opMasked then (s.physMasked h.addr.toNat h.mask.toNat h.data.toNat).answerBare h stOk
  else match atomOf (h.mask.toNat % 16) with
    | none => s.misdirected h
    | some op =>
      let n := if bitAt h.mask.toNat 4 then 8 else 4
      let pa := h.addr.toNat
      let old := s.physLe pa n
      let s := s.physPutLe pa n (atomNew op (8 * n) old (h.operand.toNat % 256 ^ n) (h.operand2.toNat % 256 ^ n))
      (s.dropLine pa).enqueue (respond h stOk 1 old)

/-- The addresses of a request. -/
def hPlaces (h : Header) : List Nat := if h.op.toNat = opAtomic then [h.addr.toNat] else (hLines h)

/-- The operations that memory serves, in a form R465 to R470 give. -/
def hIsMemOp (h : Header) : Bool :=
  let op := h.op.toNat
  if op = opAtomic then (atomOf (h.mask.toNat % 16)).isSome
  else (op == opRead || op == opWrite || op == opMasked) && h.addr.toNat % 64 == 0 && decide (1 ≤ h.count.toNat) &&
    decide (h.count.toNat ≤ 8) && (op != opMasked || h.count == 1)

/-! ## MEMORY_REQUEST and BASIN_REQUEST -/

/-- A memory-port stop serves the address (R411, R412, R471, R704). -/
def State.mpServes (s : State) (n pa : Nat) : Bool :=
  paDie pa == s.ownDie && decide (paLocal pa < reduceBase) && s.mpStopOf pa == n

/-- A memory-port stop takes a request (R432-R436, R488, R490).  External memory that returns uncorrectable data
records 0x80 (R759) and the line is answered as poisoned (R488). -/
def execMemoryRequest (h : Header) (ecc : EccEnd) (s : State) : Out := whenLive 10 s fun s =>
  let s := s.takeArrived h
  let n := h.dst.toNat
  let far := decide (h.src.toNat < 6)
  let c := h.cid.toNat
  .next <|
    if !(hIsMemOp h) || (hPlaces h).any (fun a => !(s.mpServes n a || (far && decide (basinBase ≤ paLocal a)))) then
      s.misdirected h
    else if h.poison then s.answerBare h stPoison
    else if s.engineOrigin h then s.refuse h (stopUnit n) h.addr.toNat
    else match (hPlaces h).find? fun a => !(s.ownerOk c a far) with
      | some a => s.refuse h (stopUnit n) a
      | none => match (hPlaces h).find? fun a => s.keyAbsent a with
        | some a =>
          let id := s.recId
          let s := s.faultC 9 (stopUnit n) n ((s.sealedPart a).getD 0) (some c) (some h.qid.toNat) none
          let s := if far || s.ownAccess h then s else s.lose c 9 (some id)
          if opReads h.op.toNat then s.enqueue (respond h stOk (max 1 h.count.toNat) 0) else s.answerBare h stOk
        | none => match ecc with
          | .clean => s.serveMem h
          | .corrected => ((s.faultC 0x81 (stopUnit n) n (s.freeVal 64) none none none).tookFree).serveMem h
          | .uncorrectable => (s.badDataRec c h.addr.toNat).answerBare h stPoison

/-- Slice of a basin request: of the window by offset, of the cache by address (R438). -/
def sliceOf (pa : Nat) : Nat :=
  if basinBase ≤ paLocal pa then (paLocal pa - basinBase) / 2 ^ 21 else lineSlice pa

/-- A slice has cache capacity: some of it lies above every carve-out (R438). -/
def State.sliceCaches (s : State) (sl : Nat) : Bool :=
  decide (s.carveBase 16 < (sl + 1) * 2 ^ 21) && s.domOpen (sliceDom sl)

/-- A basin stop serves the address (R471). -/
def bsServes (own : Nat) (n pa : Nat) : Bool :=
  paDie pa == own && (decide (paLocal pa < reduceBase) || decide (basinBase ≤ paLocal pa)) && bsStop (sliceOf pa / 4) == n

/-- A line becomes resident, most recently used (R440). -/
def State.bring (s : State) (pa : Nat) : State :=
  if s.sliceCaches (lineSlice pa) then
    let l := pa / 64
    { s with basin := { s.basin with
        lines := (l, (s.basin.lines.any fun (y : Nat × Bool) => y.1 == l && y.2)) ::
          s.basin.lines.filter fun (y : Nat × Bool) => y.1 != l } }
  else s

/-- A read through the cache (R440, R441): an uncorrectable resident line is dropped, recorded as recovered and read
from memory; a miss allocates. -/
def State.cacheRead (s : State) (h : Header) (ecc : EccEnd) : State :=
  let n := h.dst.toNat
  let hit := (hLines h).any fun a => s.basin.lines.any fun (y : Nat × Bool) => y.1 == a / 64
  let loc := fun (s : State) => lineSlice h.addr.toNat * 2 ^ 24 + s.freeVal 15 * 64
  let s := match ecc with
    | .clean => s
    | .corrected => if hit then (s.fault 0x81 (stopUnit n) n (s.eccDetail (loc s) 2 false)).tookFree else s
    | .uncorrectable =>
      if hit then
        let s := (s.fault 0x80 (stopUnit n) n (s.eccDetail (loc s) 2 true)).tookFree
        (hLines h).foldl (fun s a => s.dropLine a) s
      else s
  ((hLines h).foldl (fun s a => s.bring a) s).serveMem h

/-- A carve-out line that reads back uncorrectable loses the context that reads it (R441). -/
def State.carveEcc (s : State) (h : Header) (ecc : EccEnd) : State :=
  let o := paLocal h.addr.toNat - basinBase
  let n := h.dst.toNat
  let loc := o / 2 ^ 21 * 2 ^ 24 + o % 2 ^ 21 / 64 * 64
  match ecc with
  | .clean => s.serveMem h
  | .corrected => ((s.fault 0x81 (stopUnit n) n (s.eccDetail loc 2 false)).tookFree).serveMem h
  | .uncorrectable =>
    let id := s.recId
    let s := (s.faultC 0x80 (stopUnit n) n (s.eccDetail loc 2 false) (some h.cid.toNat) (some h.qid.toNat) none).tookFree
    (s.lose h.cid.toNat 0x80 (some id)).answerBare h stPoison

/-- A basin stop takes a request (R432, R439-R441): the carve-outs, or the cache, from which a miss and every write
pass on to the memory port. -/
def execBasinRequest (h : Header) (ecc : EccEnd) (s : State) : Out :=
  whenLive (if h.dst.toNat < 18 then 6 else 7) s fun s =>
  let s := s.takeArrived h
  let n := h.dst.toNat
  let c := h.cid.toNat
  let win := decide (basinBase ≤ paLocal h.addr.toNat)
  .next <|
    if !(hIsMemOp h) || (hPlaces h).any (fun a => !(bsServes s.ownDie n a)) || (!win && h.op.toNat == opAtomic) then
      s.misdirected h
    else if h.poison then s.answerBare h stPoison
    else if s.engineOrigin h then s.refuse h (stopUnit n) h.addr.toNat
    else match (hPlaces h).find? fun a => !(s.ownerOk c a (decide (h.src.toNat < 6))) with
      | some a => s.refuse h (stopUnit n) a
      | none =>
        if win then s.carveEcc h ecc
        else match (hPlaces h).find? fun a => s.keyAbsent a with
          | some a =>
            let id := s.recId
            let u := uMP (s.mportOf a)
            let s := s.faultC 9 u (s.mpStopOf a) ((s.sealedPart a).getD 0) (some c) (some h.qid.toNat) none
            let s := if s.ownAccess h then s else s.lose c 9 (some id)
            if opReads h.op.toNat then s.enqueue (respond h stOk (max 1 h.count.toNat) 0) else s.answerBare h stOk
          | none => if h.op.toNat = opRead then s.cacheRead h ecc else s.serveMem h

end Sys2Proof.Machine
end

