-- ==== Sys2Proof/Machine/Faults.lean ====
section
/-! DEFINITION. The fault concentrator (R42-R44), the fault log and event vectors (R675-R680), monitors and trace
(R681-R696), and the time tap (R556-R560). -/

namespace Sys2Proof.Machine

/-! ## The concentrator (R42-R44) -/

/-- MON marks what a dropped sample report loses (R683, R686). -/
def State.sampleLost (s : State) : Report → State
  | .samplePart p => s.put (Reg.MON_SLOT_FLAGS_DROPPED p.slot) 1
  | .sampleCtx _ => s.put Reg.MON_STATUS_CTX_LOSSY 1
  | .sampleProbe _ _ => s
  | .sampleLink _ _ => s
  | .sampleActivity _ _ => s
  | .fault _ => s
  | .wake _ _ => s
  | .demand _ => s
  | .phase _ _ => s

/-- A report enters the 64 places: behind every report of an earlier tick, and among those that entered at this tick in the
order of their senders (R43). -/
def State.enterFifo (s : State) (r : Report) : State :=
  let c := s.conc
  let keys := if c.enteredAt = s.gtc then c.enteredKeys else []
  let after := min (keys.filter fun k => decide (reportKey r < k)).length c.fifo.length
  let place := c.fifo.length - after
  { s with conc := { c with
      fifo := c.fifo.take place ++ r :: c.fifo.drop place, enteredAt := s.gtc,
      enteredKeys := (keys.filter fun k => decide (k ≤ reportKey r)) ++ reportKey r ::
        keys.filter fun k => decide (reportKey r < k) } }

/-- A report reaches the concentrator (R43, R44). -/
def State.arrive (s : State) (r : Report) : State :=
  if s.conc.fifo.length < 64 then s.enterFifo r
  else if r.isSample then (s.sat Reg.ERR_CONC_SAMPLE_DROP 1).sampleLost r
  else { s with conc := { s.conc with held := s.conc.held ++ [r] } }

/-- The record that a CONTEXT_LOST record names has not entered the log yet (R183). -/
def State.awaitsCause (s : State) : Report → Bool
  | .fault r => match r.cause with
    | some id => (Tab.get none s.conc.seqOf id).isNone
    | none => false
  | .wake _ _ => false
  | .demand _ => false
  | .phase _ _ => false
  | .samplePart _ => false
  | .sampleCtx _ => false
  | .sampleProbe _ _ => false
  | .sampleLink _ _ => false
  | .sampleActivity _ _ => false

/-- A report sent reaches the concentrator: the one at place `k` of those on their way.  A sender's reports arrive in the
order in which it sent them; a sender that holds a report stalls with its next (R44); and a record that names another
record's SEQ arrives after it (R183, log entry 87). -/
def execReportArrive (k : BitVec 16) (s : State) : Out := whenTow s fun s =>
  .next <| match s.conc.sent[k.toNat]? with
    | none => s
    | some r =>
      let same := fun (x : Report) => reportKey x == reportKey r
      if (s.conc.sent.take k.toNat).any same ∨ (!r.isSample ∧ s.conc.held.any same) ∨ s.awaitsCause r then s
      else ({ s with conc := { s.conc with sent := s.conc.sent.eraseIdx k.toNat } }).arrive r

/-- A place frees and the report held longest enters (R44). -/
def execHeldReportAccept (s : State) : Out := whenTow s fun s =>
  .next <| match s.conc.held with
    | [] => s
    | r :: rest =>
      if s.conc.fifo.length < 64 then ({ s with conc := { s.conc with held := rest } }).enterFifo r else s

/-- The detail of a record as the log takes it: a CONTEXT_LOST record names the SEQ of its cause in `[31:16]` (R183,
R186). -/
def State.logDetail (s : State) (r : FaultRec) : Nat := match r.cause with
  | some id => match Tab.get none s.conc.seqOf id with
    | some q => r.detail / 2 ^ 32 * 2 ^ 32 + q % 2 ^ 16 * 2 ^ 16 + r.detail % 2 ^ 16
    | none => r.detail
  | none => r.detail

/-- The 32 bytes of a fault record (R671). -/
def FaultRec.bytes (r : FaultRec) (detail seq : Nat) : List Byte :=
  leBytes 8 r.stamp ++ leBytes 8 detail ++ leBytes 1 r.code ++ leBytes 1 r.unit ++ leBytes 2 (r.cid.getD 0) ++
    leBytes 2 (r.qid.getD 0) ++ leBytes 2 seq ++ leBytes 1 r.src ++
    leBytes 1 (1 + 2 * b2n r.cid.isSome + 4 * b2n r.qid.isSome) ++ leBytes 6 0

/-- A record enters the log (R675-R678, R686). -/
def State.enter (s : State) (r : FaultRec) : State :=
  let q := s.get Reg.ERR_LOG_SEQ_NEXT
  let s := if 512 ≤ s.conc.unread then s.sat Reg.ERR_LOG_OVF_OVF 1 else s
  let s := { s with conc := { s.conc with
    log := s.conc.log.putList (32 * (q % 512)) (FaultRec.bytes r (s.logDetail r) q),
    unread := min (s.conc.unread + 1) (2 ^ 32 - 1), seqOf := s.conc.seqOf.set r.id (some q) } }
  let s := s.wrap Reg.ERR_LOG_SEQ_NEXT 1
  let s := match r.cid with
    | some c => s.sat (Reg.MON_CTX_EVENTS c 1) 1
    | none => s
  let s := if s.on Reg.ERR_LOG_CTRL_EN ∧ s.on Reg.ERR_LOG_CTRL_ARMED then
      (s.event (s.get Reg.ERR_LOG_CTRL_VEC)).put Reg.ERR_LOG_CTRL_ARMED 0 else s
  (s.trace 1 r.unit r.cid (r.code + q * 2 ^ 16) r.stamp).fqServe

/-- A report other than a fault is passed on to its receiver, with its trace record (R42, R687). -/
def State.passOn (s : State) (r : Report) : State :=
  let s := { s with conc := { s.conc with inbox := s.conc.inbox ++ [r] } }
  let t := s.time copyTow
  match r with
  | .wake c w => s.trace 2 uWAT none (c + w * 256) t
  | .demand c => s.trace 3 uDSP none c t
  | .phase k n => s.trace 4 (uCLS (k / 4)) (match (s.tile k).task with
      | some _ => some (s.tile k).cid
      | none => none) (n + k * 256) t
  | .samplePart _ => s
  | .sampleCtx _ => s
  | .sampleProbe _ _ => s
  | .sampleLink _ _ => s
  | .sampleActivity _ _ => s
  | .fault _ => s

/-- One towpath cycle (R43): at most `n` reports from the head, of which at most one is a fault report. -/
def State.concPass (s : State) (faulted : Bool) : Nat → State
  | 0 => s
  | n + 1 => match s.conc.fifo with
    | [] => s
    | .fault r :: rest =>
      if faulted then s
      else State.concPass (({ s with conc := { s.conc with fifo := rest } }).enter r) true n
    | r :: rest => State.concPass (({ s with conc := { s.conc with fifo := rest } }).passOn r) faulted n

/-- One towpath cycle.  In a resume flight nothing enters the log before ERR has restored it (R88, log entry 88). -/
def execConcentratorPass (s : State) : Out := whenTow s fun s =>
  .next (if s.flight.running ∧ s.get Reg.PWR_FLIGHT_STATUS_KIND = 2 ∧ !s.flight.restored then s else s.concPass false 8)

/-! ## The log and the vectors (R677-R680) -/

/-- A write to ERR_LOG_READ consumes records (R677, R678). -/
def execLogReadWrite (value : BitVec 32) (s : State) : Out := whenTow s fun s =>
  let r := value.toNat % 2 ^ 16
  let next := s.get Reg.ERR_LOG_SEQ_NEXT
  let n := if newer r next 16 then 0 else (next + 2 ^ 16 - r) % 2 ^ 16
  let s := (s.put Reg.ERR_LOG_READ_READ r).put Reg.ERR_LOG_CTRL_ARMED 1
  .next { s with conc := { s.conc with unread := n } }

/-- An event for vector `v` takes its entry's effect (R679). -/
def State.deliver (s : State) (v : Nat) : State :=
  if s.get (Reg.ERR_VEC_ADDR v) = 0 then s.sat Reg.ERR_VEC_COUNTS_VEC_NULL 1
  else if s.on (Reg.ERR_VEC_MASK v) then s.put (Reg.ERR_VEC_PENDING v) 1
  else { s with host := { s.host with writes := s.host.writes ++
      [(4 * s.get (Reg.ERR_VEC_ADDR v), s.get Reg.ERR_VEC_DATA_DATA_HI * 4096 + v)] } }

/-- An event packet reaches the host port (R679). -/
def execEventVector (s : State) : Out := whenLive 5 s fun s =>
  .next <| match s.host.events with
    | [] => s
    | v :: rest => ({ s with host := { s.host with events := rest } }).deliver v

/-- A write to ERR_VEC `v` (R679, R694): clearing MASK treats a held event as new. -/
def State.writeVec (s : State) (v value : Nat) : State :=
  let s := (s.put (Reg.ERR_VEC_ADDR v) (bits value 51 2)).put (Reg.ERR_VEC_MASK v) (bits value 63 63)
  if !(bitAt value 63) ∧ s.on (Reg.ERR_VEC_PENDING v) then (s.put (Reg.ERR_VEC_PENDING v) 0).deliver v else s

def execVecUnmask (v : BitVec 12) (value : BitVec 64) (s : State) : Out := whenTow s fun s =>
  .next (s.writeVec v.toNat value.toNat)

/-! ## Monitors (R681-R686, R695) -/

/-- A slot's data words (R696). -/
def slotData (k o : Nat) : Bool := decide (0x010B2000 + 0x60 * k ≤ o) && decide (o < 0x010B2060 + 0x60 * k)

/-- A slot is cleared (R685). -/
def State.clearSlot (s : State) (k : Nat) : State := s.resetRegs (slotData k)

/-- A slot's subject exists (R681). -/
def State.subjectOk (s : State) (k : Nat) : Bool :=
  let sub := s.get (Reg.MON_SLOT_CFG_SUBJECT k)
  match s.get (Reg.MON_SLOT_CFG_KIND k) with
  | 1 => true
  | 2 => decide (sub % 64 < 36) && (!(isClStop (sub % 64)) ||
      s.clEnabled (stopCl (sub % 64)))
  | 3 => decide (sub % 64 < 36) && (!(isClStop (sub % 64)) ||
      s.clEnabled (stopCl (sub % 64)))
  | 4 => true
  | 5 => s.yard && decide (sub % 8 < 6)
  | 6 => decide (sub % 32 < 20) && (16 ≤ sub % 32 || s.clEnabled (sub % 32))
  | 7 => decide (sub % 32 < 18) && (16 ≤ sub % 32 || s.clEnabled (sub % 32))
  | _ => false

/-- Domain of the unit that samples for slot `k` (R41, R681). -/
def State.slotDom (s : State) (k : Nat) : Nat :=
  let sub := s.get (Reg.MON_SLOT_CFG_SUBJECT k)
  match s.get (Reg.MON_SLOT_CFG_KIND k) with
  | 1 => 3
  | 2 => stopDom (sub % 64)
  | 3 => stopDom (sub % 64)
  | 4 => 10
  | 5 => 9
  | 7 => if sub % 32 < 16 then clDom (sub % 32) else 1
  | _ => 1

/-- REPORT_PERIOD in ticks (R695): 0 acts as 1. -/
def State.reportPeriod (s : State) : Nat := 100 * atLeast1 (s.get Reg.MON_CTRL_REPORT_PERIOD)

/-- A unit sends what it has gathered (R42, R683): a slot's partial or a context's counts at every REPORT_PERIOD, or a
cluster's activity count.  A unit whose domain is not open sends nothing (R41). -/
def execMonitorPartialSend (what : SampleOf) (s : State) : Out := whenTow s fun s =>
  .next <| match what with
    | .slot n =>
      let k := n.toNat
      if s.on (Reg.MON_SLOT_CFG_EN k) ∧ s.subjectOk k ∧ s.domLive (s.slotDom k) ∧
          Tab.get 0 s.mon.partAt k + s.reportPeriod ≤ s.gtc then s.sendPart k else s
    | .ctx n =>
      let c := n.toNat
      if s.domLive 3 ∧ Tab.get 0 s.mon.ctxAt c + s.reportPeriod ≤ s.gtc then
        ({ s with mon := { s.mon with ctx := s.mon.ctx.set c (ctxFresh c), ctxAt := s.mon.ctxAt.set c s.gtc } }).send
          (.sampleCtx (s.ctxPart c))
      else s
    | .activity c n =>
      if s.domLive (clDom c.toNat) then s.send (.sampleActivity c.toNat n.toNat) else s

/-- A partial merges into its slot (R682, R683, R685). -/
def State.mergePart (s : State) (p : Partial) : State :=
  let k := p.slot
  if s.on Reg.MON_CTRL_FREEZE ∧ s.get (Reg.MON_SLOT_CFG_WINDOW_MS k) = 0 then s.put (Reg.MON_SLOT_FLAGS_DROPPED k) 1
  else if p.count = 0 ∨ !(s.on (Reg.MON_SLOT_CFG_EN k)) then s
  else
    let empty := s.get (Reg.MON_SLOT_SAMPLES_N k) == 0
    let lo := if empty then p.min else min p.min (s.get (Reg.MON_SLOT_MIN_MIN k))
    let hi := if empty then p.max else max p.max (s.get (Reg.MON_SLOT_MIN_MAX k))
    let code := min p.minCode (if empty then 63 else s.get (Reg.MON_SLOT_FLAGS_MIN_CODE k))
    let s := (((s.put (Reg.MON_SLOT_MIN_MIN k) (min lo (2 ^ 32 - 1))).put (Reg.MON_SLOT_MIN_MAX k) (min hi (2 ^ 32 - 1))).wrap
      (Reg.MON_SLOT_SAMPLES_N k) p.count).put (Reg.MON_SLOT_FLAGS_MIN_CODE k) code
    let s := if p.isOver then s.put (Reg.MON_SLOT_FLAGS_OVER k) 1 else s
    (List.range 16).foldl (fun s j =>
      let n := s.get (Reg.MON_SLOT_BIN_N k j) + p.bins.getD j 0
      if n < 2 ^ 32 then s.put (Reg.MON_SLOT_BIN_N k j) n
      else (s.put (Reg.MON_SLOT_BIN_N k j) (2 ^ 32 - 1)).put (Reg.MON_SLOT_FLAGS_STICKY k) 1) s

/-- Context increments merge into the words of MON_CTX (R686). -/
def State.mergeCtx (s : State) (p : CtxPart) : State :=
  let c := p.cid
  let s := (s.wrap (Reg.MON_CTX_TOTAL c 0) p.tasks).sat (Reg.MON_CTX_EVENTS c 0) p.misses
  let s := s.wrap (Reg.MON_CTX_TOTAL c 1) p.runT
  let s := (s.wrap (Reg.MON_CTX_TOTAL c 2) p.bytes).sat (Reg.MON_CTX_EVENTS c 2) p.walks
  s.put (Reg.MON_CTX_TOTAL c 3) (min (s.get (Reg.MON_CTX_TOTAL c 3) + p.unwritten) (2 ^ 32 - 1))

/-- The oldest sample report passed on reaches MON or the power estimator (R42, R683, R686): a router's or link port's
counts and a cluster's activity stand as the last snapshot. -/
def execMonitorPartialMerge (s : State) : Out := whenTow s fun s =>
  .next <| match s.conc.inbox.find? Report.isSample with
    | none => s
    | some r =>
      let s := { s with conc := { s.conc with inbox := s.conc.inbox.erase r } }
      match r with
      | .samplePart p => s.mergePart p
      | .sampleCtx p => s.mergeCtx p
      | .sampleProbe n l => { s with mon := { s.mon with probes := s.mon.probes.set n l } }
      | .sampleLink p v => { s with mon := { s.mon with rtt := s.mon.rtt.set p v } }
      | .sampleActivity c v => { s with mon := { s.mon with activity := s.mon.activity.set c v } }
      | .fault _ => s
      | .wake _ _ => s
      | .demand _ => s
      | .phase _ _ => s

/-- The 96 bytes of a slot's data (R696). -/
def State.slotBytes (s : State) (k : Nat) : List Byte :=
  leBytes 4 (s.get (Reg.MON_SLOT_MIN_MIN k)) ++ leBytes 4 (s.get (Reg.MON_SLOT_MIN_MAX k)) ++
    leBytes 8 (s.get (Reg.MON_SLOT_SAMPLES_N k)) ++
    leBytes 4 (s.get (Reg.MON_SLOT_FLAGS_STICKY k) + 2 * s.get (Reg.MON_SLOT_FLAGS_OVER k) +
      4 * s.get (Reg.MON_SLOT_FLAGS_DROPPED k) + 256 * s.get (Reg.MON_SLOT_FLAGS_MIN_CODE k)) ++ leBytes 12 0 ++
    ((List.range 16).flatMap fun j => leBytes 4 (s.get (Reg.MON_SLOT_BIN_N k j)))

/-- Records that the capture ring holds; none without a ring (R684, R695). -/
def State.capSize (s : State) : Nat :=
  let z := s.get Reg.MON_CAP_BASE_SIZE_LOG2
  if z = 0 then 0 else 2 ^ (max 6 (min 16 z))

/-- A capture record of the boundary at `at_` is written, dropped when the ring is full, or fails (R684). -/
def State.capture (s : State) (k at_ : Nat) : State :=
  let tail := s.get Reg.MON_CAP_TAIL_INDEX
  if s.conc.capStop then s
  else if (tail + 2 ^ 32 - s.get Reg.MON_CAP_HEAD_INDEX) % 2 ^ 32 = s.capSize ∨ s.capSize = 0 then
    s.sat Reg.MON_DROPS_CAP_DROP 1
  else
    let a := s.get Reg.MON_CAP_BASE_BASE * 2 ^ 12 + tail % s.capSize * 128
    let bs := leBytes 8 at_ ++ leBytes 2 k ++ leBytes 6 0 ++ s.slotBytes k ++ leBytes 16 0
    match s.ownWrite s.driverCid a bs with
    | some s => s.wrap Reg.MON_CAP_TAIL_INDEX 1
    | none =>
      let s := (s.refusedRec s.driverCid none a).put Reg.MON_STATUS_CAP_BROKEN 1
      { s with conc := { s.conc with capStop := true } }

/-- Length of a slot's window in ticks (R684); 0 is continuous. -/
def State.windowT (s : State) (k : Nat) : Nat := s.get (Reg.MON_SLOT_CFG_WINDOW_MS k) * 100000

/-- A slot's window ends (R684): its capture record, then a clear slot, once for each boundary that MON's count reaches. -/
def execMonitorWindowCapture (slot : BitVec 8) (s : State) : Out := whenTow s fun s =>
  let k := slot.toNat
  let w := s.windowT k
  let n := s.time copyTow / w
  .next <| if w = 0 ∨ !(s.on (Reg.MON_SLOT_CFG_EN k)) ∨ n = Tab.get 0 s.mon.window k then s
  else
    let s := (s.capture k (n * w)).clearSlot k
    { s with mon := { s.mon with window := s.mon.window.set k n } }

/-- Slots of a kind that may be enabled at once (R681). -/
def slotLimit (kind : Nat) : Nat := match kind with
  | 1 => 64
  | 2 => 128
  | 3 => 128
  | _ => 256

/-- A write to MON_SLOT_CFG (R681, R685, R695).  The slot's unit starts a new partial (log entry 89). -/
def execSlotCfgWrite (slot : BitVec 8) (value : BitVec 64) (s : State) : Out := whenTow s fun s =>
  let k := slot.toNat
  let v := value.toNat
  let kind := bits v 62 60
  let others := (List.range 256).filter fun j =>
    j != k && s.on (Reg.MON_SLOT_CFG_EN j) && s.get (Reg.MON_SLOT_CFG_KIND j) == kind
  let ok := decide (others.length < slotLimit kind)
  let s := ((((s.put (Reg.MON_SLOT_CFG_KIND k) kind).put (Reg.MON_SLOT_CFG_SHIFT k) (bits v 52 48)).put
    (Reg.MON_SLOT_CFG_WINDOW_MS k) (bits v 47 32)).put (Reg.MON_SLOT_CFG_SUBJECT k) (bits v 15 0)).clearSlot k
  let s := s.put (Reg.MON_SLOT_CFG_EN k) (if ok then bits v 63 63 else 0)
  let s := { s with mon := { s.mon with
    part := s.mon.part.set k (partFresh k), partAt := s.mon.partAt.set k s.gtc,
    window := s.mon.window.set k (s.time copyTow / s.windowT k) } }
  .next (if ok ∨ !(bitAt v 63) then s else s.put Reg.MON_STATUS_REFUSED 1)

/-- A write to MON_CAP_BASE (R684, R695). -/
def execCapBaseWrite (value : BitVec 64) (s : State) : Out := whenTow s fun s =>
  let v := value.toNat
  let s := (((s.put Reg.MON_CAP_BASE_BASE (bits v 51 12)).put Reg.MON_CAP_BASE_SIZE_LOG2 (bits v 4 0)).put
    Reg.MON_CAP_HEAD_INDEX 0).put Reg.MON_CAP_TAIL_INDEX 0
  .next { s with conc := { s.conc with capStop := false } }

/-- A write to MON_TRACE_BASE (R688, R695). -/
def execTraceBaseWrite (value : BitVec 64) (s : State) : Out := whenTow s fun s =>
  let v := value.toNat
  let s := ((((s.put Reg.MON_TRACE_BASE_BASE (bits v 51 12)).put Reg.MON_TRACE_BASE_SIZE_LOG2 (bits v 4 0)).put
    Reg.MON_TRACE_HEAD_INDEX 0).put Reg.MON_TRACE_TAIL_INDEX 0).put Reg.MON_STATUS_TRACE_FULL 0
  .next { s with conc := { s.conc with traceStop := false } }

/-- Records that the trace ring holds (R695). -/
def State.traceSize (s : State) : Nat := 2 ^ (max 8 (min 24 (s.get Reg.MON_TRACE_BASE_SIZE_LOG2)))

/-- The 16 bytes of a trace record (R687). -/
def TraceRec.bytes (r : TraceRec) : List Byte :=
  leBytes 8 r.stamp ++ leBytes 1 r.kind ++ leBytes 1 r.unit ++ leBytes 2 (r.cid.getD 0) ++ leBytes 4 r.data

/-- The trace unit writes the record that waits longest (R688). -/
def execTraceWrite (s : State) : Out := whenTow s fun s =>
  .next <| match s.conc.trace with
    | [] => s
    | r :: rest =>
      let s := { s with conc := { s.conc with trace := rest } }
      let tail := s.get Reg.MON_TRACE_TAIL_INDEX
      if s.conc.traceStop then s
      else if s.on Reg.MON_TRACE_CTRL_MODE ∧
          s.traceSize ≤ (tail + 2 ^ 32 - s.get Reg.MON_TRACE_HEAD_INDEX) % 2 ^ 32 then
        s.put Reg.MON_STATUS_TRACE_FULL 1
      else
        let a := s.get Reg.MON_TRACE_BASE_BASE * 2 ^ 12 + tail % s.traceSize * 16
        match s.ownWrite s.driverCid a (TraceRec.bytes r) with
        | some s => s.wrap Reg.MON_TRACE_TAIL_INDEX 1
        | none =>
          let s := (s.refusedRec s.driverCid none a).put Reg.MON_STATUS_TRACE_BROKEN 1
          { s with conc := { s.conc with traceStop := true } }

/-! ## The time tap (R557-R559) -/

/-- The master sends a sync word (R557): for the next multiple of 1,024 at least 64 t ahead, or on the RC oscillator for
the new count. -/
def execGtcSyncWord (s : State) : Out := whenTow s fun s =>
  .next { s with copies := { s.copies with
    word := some (if s.onRc then s.gtc else ((s.gtc + 63) / 1024 + 1) * 1024) } }

/-- Stop, and tile within the cluster, of a copy's unit, as detail bits `[7:0]` of 0x5B (R671). -/
def copyPlace (k : Nat) : Nat :=
  if k < 64 then srcTile k
  else if 100 ≤ k ∧ k < 136 then k - 100
  else if k = copyDsp then dspStop else if k = copyMem then mpStop 0
  else if 210 ≤ k ∧ k < 216 then k - 210 else srcNone

/-- A copy's correction counts in its class (R576). -/
def copyClass (k : Nat) : Fld :=
  if 12 ≤ copyDom k then Reg.CLK_COPY_COUNTS_CLUSTER
  else if k = copyMem ∨ k = copyIsland ∨ (210 ≤ k ∧ k < 216) then Reg.CLK_COPY_COUNTS_OTHER
  else Reg.CLK_COPY_COUNTS_SPINE

/-- Fault 0x5B of a copy, at most once in 1 s (R558). -/
def State.copyFault (s : State) (k detail : Nat) : State :=
  match (s.copies.recAt.find? fun e => e.1 == k) with
  | some e => if s.gtc < e.2 + 100000000 then s else
      { s.fault 0x5B uCLK srcNone (detail + copyPlace k) with copies := { s.copies with recAt := s.copies.recAt.set k s.gtc } }
  | none =>
      { s.fault 0x5B uCLK srcNone (detail + copyPlace k) with copies := { s.copies with recAt := s.copies.recAt.set k s.gtc } }

/-- A copy compares its count with the sync word once the master reaches the word's count (R558): behind, it loads the
word's count; ahead, it holds until the master reaches it. -/
def execGtcCopySync (copy : BitVec 8) (count : BitVec 64) (s : State) : Out := whenTow s fun s =>
  let k := copy.toNat
  .next <| match s.copies.word with
    | none => s
    | some w =>
      if !(s.domLive (copyDom k)) ∨ k = copyMaster ∨ s.gtc < w then s
      else
        let w := s.gtc
        let s := { s with copies := { s.copies with
          stale := s.copies.stale.filter (· != k), syncAt := s.copies.syncAt.set k s.gtc } }
        let n := count.toNat
        if n + 1 < w then
          let s := { s with copies := { s.copies with off := s.copies.off.set k 0, hold := s.copies.hold.filter (· != k) } }
          (s.copyFault k (min (w - n) (2 ^ 32 - 1) * 2 ^ 32)).sat (copyClass k) 1
        else if w + 1 < n then
          let h := k :: s.copies.hold.filter (· != k)
          let s := { s with copies := { s.copies with off := s.copies.off.set k ((n : Int) - w), hold := h } }
          (s.copyFault k (256 + min (n - w) (2 ^ 32 - 1) * 2 ^ 32)).sat (copyClass k) 1
        else { s with copies := { s.copies with off := s.copies.off.set k ((n : Int) - w) } }

/-- A copy has received no sync word for 4,096 t, nor been loaded in that time (R558, R60). -/
def execGtcCopyStale (copy : BitVec 8) (s : State) : Out := whenTow s fun s =>
  let k := copy.toNat
  let last := max (Tab.get 0 s.copies.syncAt k) (s.dom (copyDom k)).since
  .next <| if !(s.domLive (copyDom k)) ∨ k = copyMaster ∨ s.copies.stale.contains k ∨ s.gtc < last + 4096 then s
  else
    let s := { s with copies := { s.copies with stale := k :: s.copies.stale } }
    (s.fault 0x5B uCLK srcNone (512 + copyPlace k)).sat Reg.CLK_COPY_COUNTS_STALE 1

end Sys2Proof.Machine
end

