-- ==== Sys2Proof/Machine/Island.lean ====
section
/-! DEFINITION. The watch island's frame sequencer, sensor port, wake controller and handoff (R114-R134, R138-R148).
On Yard the island runs no program and captures nothing (R108). -/

namespace Sys2Proof.Machine

/-! ## Captures (R114-R118) -/

def seqIdle : Nat := 0
def seqOpening : Nat := 1
def seqTrigger : Nat := 2
def seqCapture : Nat := 3
def seqClosing : Nat := 4

def State.seqState (s : State) : Nat := s.get Reg.WAT_STATUS_SEQ_STATE

/-- What acts only on the N7 (R108). -/
def whenN7 (s : State) (f : State → State) : Out := .next (if s.yard then s else f s)

/-- The capture in progress ends; PD11 is to close (R115 step 7).  Two consecutive frames with a failed header bring a
link-up (R125): a capture that met no packet at all counts neither way (log entry 92). -/
def State.endCapture (s : State) : State :=
  let i := s.island
  let seen := match i.capture with
    | some c => c.header || c.stamp.isSome
    | none => false
  let run := match i.capture with
    | some c => if c.header then i.headerRun + 1 else 0
    | none => 0
  let i := if seen then
      { i with headerRun := if 2 ≤ run then 0 else run, linkUp := i.linkUp || decide (2 ≤ run) } else i
  ({ s with island := { i with capture := none, endedAt := s.time copyIsland } }).put Reg.WAT_STATUS_SEQ_STATE seqClosing

/-- A capture ends with one of the faults that ERRORS counts (R148). -/
def State.captureError (s : State) : State := (s.sat Reg.WAT_COUNTS_ERRORS 1).endCapture

/-- The buffer that a capture takes (R114): neither held nor kept, A first. -/
def State.freeBuf (s : State) : Option Nat :=
  [0, 1].find? fun b => s.island.held != some b &&
    !(s.on (if b = 0 then Reg.WAT_STATUS_KEEP_A else Reg.WAT_STATUS_KEEP_B))

/-- Kind of a line's finding (R144). -/
def lineCode : LineSt → Nat
  | .ok => 0
  | .shortLow => 1
  | .openLine => 3

/-- State code of a lane (R144): its kind and, in bit 3, the line; with both lines faulty it shows line P's (log entry
93). -/
def laneCode (p n : LineSt) : Nat := if p = .ok then lineCode n + 8 * b2n (n != .ok) else lineCode p

/-- A lane's finding of the link-up under way; bit 4 marks an inverted lane. -/
def State.laneFound (s : State) (l : Nat) : Nat := Tab.get 5 s.island.lanes l

/-- A lane takes a state; its HS termination is enabled while that is OK (R124). -/
def State.setLane (s : State) (l v : Nat) : State :=
  let others := s.island.terminated.filter (· != l)
  { s with island := { s.island with
      lanes := s.island.lanes.set l v, terminated := if v % 8 = 0 then l :: others else others } }

/-- Fault of a line's kind (R125, R137). -/
def laneFault : Nat → Option Nat
  | 1 => some 0x60
  | 2 => some 0x61
  | 3 => some 0x62
  | 4 => some 0x64
  | _ => none

/-- Link-up has found a line, or a pair, of a kind: its fault is recorded when link-up ends (R125 step 4). -/
def State.lineFound (s : State) (kind : Nat) : State := match laneFault kind with
  | some c => { s with island := { s.island with lineFaults := s.island.lineFaults ++ [c] } }
  | none => s

/-- Usable data lanes (R127). -/
def State.usableLanes (s : State) : List Nat := [0, 1].filter fun l => s.laneFound l % 8 == 0

/-- The clock lane is not OK, or fewer data lanes are usable than LANES selects (R127). -/
def State.lanesShort (s : State) : Bool :=
  s.laneFound 2 % 8 != 0 || decide (s.usableLanes.length < s.get Reg.WAT_FRAME_FORMAT_LANES + 1)

/-- The states of the lanes stand in WAT_LANE. -/
def State.laneStates (s : State) : State :=
  (((s.put Reg.WAT_LANE_D0_ST (s.laneFound 0 % 16)).put Reg.WAT_LANE_D1_ST (s.laneFound 1 % 16)).put
    Reg.WAT_LANE_CK_ST (s.laneFound 2 % 16)).put Reg.WAT_LANE_USABLE s.usableLanes.length

/-- WAT_LANE as one word (R144). -/
def State.laneWord (s : State) : Nat :=
  s.get Reg.WAT_LANE_FORCE * 2 ^ 31 + s.get Reg.WAT_LANE_REVERSED_CABLE * 2 ^ 27 + s.get Reg.WAT_LANE_ORDER_SWAP * 2 ^ 26 +
    s.get Reg.WAT_LANE_INV_CK * 2 ^ 25 + s.get Reg.WAT_LANE_INV_D1 * 2 ^ 24 + s.get Reg.WAT_LANE_INV_D0 * 2 ^ 23 +
    s.get Reg.WAT_LANE_CK_ST * 2 ^ 16 + s.get Reg.WAT_LANE_D1_ST * 2 ^ 12 + s.get Reg.WAT_LANE_D0_ST * 2 ^ 8 +
    s.get Reg.WAT_LANE_USABLE

/-- A record of the island or the sensor port (R137). -/
def State.watFault (s : State) (code detail : Nat) : State := s.fault code uWAT srcNone detail

/-- Link-up ends (R125 step 4, R126, R127): the result, unless FORCE keeps the map, its faults, and PORT_DOWN.  ARM reads 0
again from here on (log entry 94). -/
def State.linkUpDone (s : State) (swapped : Bool) : State :=
  let inv := fun (l : Nat) => bitAt (s.laneFound l) 4
  let swap := swapped || (s.get Reg.WAT_FRAME_FORMAT_LANES == 0 && s.usableLanes == [1])
  let force := s.on Reg.WAT_LANE_FORCE
  let rev := swapped && inv 0 && inv 1 && inv 2
  let s := s.laneStates
  let s := if force then s else
    ((((s.put Reg.WAT_LANE_ORDER_SWAP (b2n swap)).put Reg.WAT_LANE_INV_D0 (b2n (inv 0))).put
      Reg.WAT_LANE_INV_D1 (b2n (inv 1))).put Reg.WAT_LANE_INV_CK (b2n (inv 2))).put Reg.WAT_LANE_REVERSED_CABLE (b2n rev)
  let s := if !force ∧ (swapped ∨ inv 0 ∨ inv 1 ∨ inv 2) then s.watFault 0x63 s.laneWord else s
  let s := s.island.lineFaults.foldl (fun s c => s.watFault c 0) s
  let s := if s.lanesShort then (s.put Reg.WAT_STATUS_PORT_DOWN 1).watFault 0x65 0 else s
  let s := s.put Reg.WAT_CTRL_ARM 0
  { s with island := { s.island with linkUp := false, lineFaults := [], capture := s.island.capture.map fun (c : Capture) =>
      { c with linkUp := false } } }

/-- A trip in watch standby suspends captures and wakes of cause WATCH until T_hot has fallen (R753). -/
def State.heldByHeat (s : State) : Bool := s.pins.heatHold && s.eng == engStandby

/-- Captures of this time count as skipped (R118, R753): on the RC oscillator, or while a cold or warm flight has not yet
opened PD1, an ALARMED die's warm flight among them (R78). -/
def State.capturesSuspended (s : State) : Bool :=
  s.onRc || s.heldByHeat ||
    ((s.eng == engFlight || s.eng == engAlarmed) && decide (s.get Reg.PWR_FLIGHT_STATUS_KIND < 2) && !(s.domLive 1))

/-- Ticks between captures (R140): at least 100,000. -/
def State.framePeriod (s : State) : Nat := max 100000 (s.get Reg.WAT_FRAME_PERIOD_TICKS)

/-- A capture period has passed since the last one began (R114). -/
def State.periodOver (s : State) : Bool := match s.island.periodAt with
  | none => true
  | some t => decide (t + s.framePeriod ≤ s.time copyIsland)

/-- A capture period begins (R114-R118, R125 step 1): each operand is what the lane monitors find on one of the six lines
at a link-up.  A period that ends while a capture is still under way waits for its end (log entry 95). -/
def execCaptureStart (d0p d0n d1p d1n ckp ckn : LineSt) (s : State) : Out := whenN7 s fun s =>
  let p := s.get Reg.WAT_STATUS_PROG_STATE
  let ready := s.on Reg.WAT_CTRL_RUN && (p == 1 || p == 2) && !(s.on Reg.WAT_STATUS_PORT_DOWN) && !s.island.i3cStop &&
    !(s.inStoppage 5 0) && s.seqState == seqIdle && s.periodOver
  if !ready then s
  else
    let s := { s with island := { s.island with periodAt := some (s.time copyIsland) } }
    if s.capturesSuspended then s.sat Reg.WAT_COUNTS_SKIPPED 1
    else match s.freeBuf with
    | none => s.sat Reg.WAT_COUNTS_SKIPPED 1
    | some b =>
      let up := s.island.linkUp
      let s := if up then
          let s := { s with island := { s.island with lineFaults := [] } }
          let s := [d0p, d0n, d1p, d1n, ckp, ckn].foldl (fun s l => s.lineFound (lineCode l)) s
          ((s.setLane 0 (laneCode d0p d0n)).setLane 1 (laneCode d1p d1n)).setLane 2 (laneCode ckp ckn)
        else s
      if up ∧ s.lanesShort then s.linkUpDone false
      else
        let c : Capture := { buf := b, linkUp := up, order := none, line := 0, stamp := none, crc := false, trunc := false,
                             short := false, header := false, rows := [] }
        let s : State := ({ s with island := { s.island with capture := some c } }).put Reg.WAT_STATUS_SEQ_STATE seqOpening
        if (s.dom 11).st = .closed then s.startDomain 11 else s

/-- The order that the frame sequencer sends (R115 step 3): what its registers hold at that time. -/
def State.orderNow (s : State) (buf : Nat) : Order :=
  { width := s.get Reg.WAT_FRAME_FORMAT_WIDTH, height := s.get Reg.WAT_FRAME_FORMAT_HEIGHT,
    bin := 2 ^ s.get Reg.WAT_FRAME_FORMAT_BIN, vc := s.get Reg.WAT_FRAME_FORMAT_VC, dt := s.get Reg.WAT_FRAME_FORMAT_DT,
    addr := s.bufAddr buf,
    triggers := (List.range 4).filterMap fun k =>
      if s.on (Reg.WAT_TRIGGER_VALID k) then
        some (s.get (Reg.WAT_TRIGGER_ADDR k), s.get (Reg.WAT_TRIGGER_REG k), s.get (Reg.WAT_TRIGGER_DATA k))
      else none,
    map := s.laneWord, at_ := s.time copyIsland }

/-- The format and the buffers can be met (R122). -/
def State.frameOk (s : State) : Bool :=
  let n := s.get Reg.WAT_FRAME_FORMAT_WIDTH * s.get Reg.WAT_FRAME_FORMAT_HEIGHT
  let a := s.bufAddr 0
  let b := s.bufAddr 1
  decide (0 < n) && decide (n ≤ 65536) && s.get Reg.WAT_FRAME_FORMAT_BIN != 3 &&
    decide (0x10000 ≤ a) && decide (a + n ≤ 0x3FFE0) && decide (0x10000 ≤ b) && decide (b + n ≤ 0x3FFE0) &&
    (decide (a + n ≤ b) || decide (b + n ≤ a))

/-- The capture under way stands as `c`. -/
def State.setCapture (s : State) (c : Capture) : State := { s with island := { s.island with capture := some c } }

/-- SEQ_STATE while the order's triggers last, and once none is left (R115 steps 4 and 5). -/
def State.toTrigger (s : State) (o : Order) : State :=
  s.put Reg.WAT_STATUS_SEQ_STATE (if o.triggers.isEmpty then seqCapture else seqTrigger)

/-- The capture order goes through PD11's gate as a configuration load, 10 t after PD11 opens (R115 step 3, R122). -/
def execCaptureOrder (s : State) : Out := whenN7 s fun s =>
  match s.island.capture with
  | none => s
  | some c =>
    if s.seqState ≠ seqOpening ∨ !(s.domOpen 11) ∨ s.elapsed 11 < 10 then s
    else if !s.frameOk then (s.watFault 0x69 0).endCapture
    else s.gateAct 11 5 fun s =>
      let o := s.orderNow c.buf
      let i := { s.island with
        frames := s.island.frames.set c.buf none, ready := s.island.ready.filter (· != c.buf) }
      (({ s with island := i }).setCapture { c with order := some o }).toTrigger o

/-- The I3C controller has driven something on the sensor's bus (R119). -/
def State.i3cDrives (s : State) (b : I3cBus) : State := { s with island := { s.island with i3cOut := s.island.i3cOut ++ [b] } }

/-- The first trigger of the order is done (R115 step 4). -/
def State.triggerDone (s : State) (c : Capture) (o : Order) : State :=
  let o := { o with triggers := o.triggers.drop 1 }
  (s.setCapture { c with order := some o }).toTrigger o

/-- The next target without a dynamic address takes one at ENTDAA; at most 4 targets (R119). -/
def entdaa (l : List I3cTarget) (a : Nat) : List I3cTarget :=
  match l.findIdx? fun t => t.address.isNone with
  | some k => l.modify k fun t => { t with address := some a }
  | none => if l.length < 4 then l ++ [⟨none, some a⟩] else l

/-- The target at a static address takes a dynamic one (R119). -/
def setdasa (l : List I3cTarget) (f a : Nat) : List I3cTarget :=
  match l.findIdx? fun t => t.fixed == some f with
  | some k => l.modify k fun t => { t with address := some a }
  | none => if l.length < 4 then l ++ [⟨some f, some a⟩] else l

/-- What happens on the sensor's I3C bus (R115 step 4, R116, R119): a trigger write ends or fails, a target takes or gives
up its dynamic address, or a target's in-band interrupt or Hot-Join is answered with NACK.  The detail's code for NACK is
left open (log entry 3); a stuck bus is recovered next (R123). -/
def execTriggerWrite (fin : I3cEnd) (s : State) : Out := whenN7 s fun s =>
  match s.island.capture.bind fun c => c.order.map fun o => (c, o) with
  | none => s
  | some (c, o) =>
    if !(s.domOpen 11) then s
    else match fin with
      | .request h => s.i3cDrives (.nack h)
      | .entdaa a => ({ s with island := { s.island with targets := entdaa s.island.targets a.toNat } }).i3cDrives (.entdaa a.toNat)
      | .setdasa f a =>
        ({ s with island := { s.island with targets := setdasa s.island.targets f.toNat a.toNat } }).i3cDrives
          (.setdasa f.toNat a.toNat)
      | .rstdaa =>
        let l := s.island.targets.map fun (t : I3cTarget) => { t with address := none }
        ({ s with island := { s.island with targets := l } }).i3cDrives .rstdaa
      | .done => match s.seqState == seqTrigger, o.triggers with
        | true, (a, r, d) :: _ => (s.i3cDrives (.write a r d)).triggerDone c o
        | _, _ => s
      | .failed => if s.seqState = seqTrigger then ((s.watFault 0x6A (s.freeVal 64)).tookFree).captureError else s
      | .stuck => s

/-- SDA stays low after a transfer (R123): bus-clears of 9 pulses and a STOP, at most three, free it, or the capture fails
and none starts until ARM.  Freed, the transfer that left the bus stuck counts as sent (log entry 96). -/
def execI3cBusRecovery (freed : Bool) (s : State) : Out := whenN7 s fun s =>
  match s.island.capture.bind fun c => c.order.map fun o => (c, o) with
  | none => s
  | some (c, o) =>
    if s.seqState ≠ seqTrigger then s
    else if freed then match o.triggers with
      | (a, r, d) :: _ => ((s.i3cDrives (.write a r d)).i3cDrives .busClear).triggerDone c o
      | [] => s
    else
      let s := ((s.i3cDrives .busClear).i3cDrives .busClear).i3cDrives .busClear
      let s := ((s.watFault 0x6A (s.freeVal 64)).tookFree).captureError
      { s with island := { s.island with i3cStop := true } }

/-! ## The receiver (R120, R121, R125) -/

/-- The pixel bytes of a payload (R120): each byte of RAW8, the high eight bits of RAW10's, the Y bytes of YUV422. -/
def pixels (dt : Nat) (l : List Nat) : List Nat :=
  if dt = 0x2B then (l.zipIdx).filterMap fun e => if e.2 % 5 < 4 then some e.1 else none
  else if dt = 0x1E then (l.zipIdx).filterMap fun e => if e.2 % 2 = 1 then some e.1 else none
  else l

/-- The mean of each block of `b` by `b` pixels, rounded to nearest with ties upward (R120).  Columns, and at a frame's end
lines, that fill no whole block are dropped (log entry 97). -/
def binRow (b : Nat) (rows : List (List Nat)) : List Nat :=
  let w := rows.foldl (fun m r => min m r.length) (rows.headD []).length
  (List.range (w / b)).map fun j =>
    let sum := rows.foldl (fun a r => ((r.drop (b * j)).take b).foldl (· + ·) a) 0
    (sum + b * b / 2) / (b * b)

/-- A line is stored (R120, R121): what lies beyond WIDTH or HEIGHT is cut off; what a short line leaves open is free
(log entry 3). -/
def State.storeRow (s : State) (c : Capture) (o : Order) (row : List Nat) : State :=
  let w := o.width
  if o.height ≤ c.line then s.setCapture { c with trunc := true, rows := [] }
  else
    let miss := w - row.length
    let fill := (List.range miss).map fun k => s.freeVal (8 * miss) / 256 ^ k % 256
    let bs := (row.take w ++ fill).map (BitVec.ofNat 8)
    let c := { c with line := c.line + 1, trunc := c.trunc || decide (w < row.length), rows := [] }
    let i := { s.island with sram := s.island.sram.putList (o.addr + (c.line - 1) * w) bs, capture := some c }
    if miss = 0 then { s with island := i } else ({ s with island := i }).tookFree

/-- A line of pixels joins its block (R120). -/
def State.takeRow (s : State) (c : Capture) (o : Order) (row : List Nat) : State :=
  let rows := c.rows ++ [row]
  if rows.length < o.bin then s.setCapture { c with rows := rows } else s.storeRow c o (binRow o.bin rows)

/-- One packet reaches the receiver (R121, R125 step 3): at a link-up's first header, `swapped` tells that it passes
only with the data lanes swapped; `fixed`, that a single-bit error of its header was corrected. -/
def execCsi2Packet (swapped fixed : Bool) (p : CsiPacket) (s : State) : Out := whenN7 s fun s =>
  match s.island.capture.bind fun c => c.order.map fun o => (c, o) with
  | none => s
  | some (c0, o) =>
    if s.seqState ≠ seqCapture then s
    else
      let bad : Bool := match p with
        | .badHeader => true
        | .frameStart _ => false
        | .line _ _ _ _ => false
        | .other => false
      let s := if c0.linkUp && !bad then s.linkUpDone swapped else s
      let s := if fixed && !bad then { s with island := { s.island with fixedHeaders := s.island.fixedHeaders + 1 } } else s
      let c := if bad then c0 else { c0 with linkUp := false }
      match p with
      | .other => s.setCapture c
      | .frameStart vc =>
        if vc.toNat ≠ o.vc then s.setCapture c
        else s.setCapture { c with stamp := some (s.time copyIsland), line := 0, rows := [] }
      | .badHeader =>
        let s := s.watFault 0x66 0
        let c := { c with header := true }
        if c.stamp.isNone then s.setCapture c
        else s.takeRow { c with short := true } o (List.replicate (o.width * o.bin) 0)
      | .line vc dt ok payload =>
        if vc.toNat ≠ o.vc ∨ dt.toNat ≠ o.dt ∨ c.stamp.isNone ∨
            !(dt.toNat = 0x2A ∨ dt.toNat = 0x2B ∨ dt.toNat = 0x1E) then s.setCapture c
        else
          let s := if ok || c.crc then s else s.watFault 0x67 0
          s.takeRow { c with crc := c.crc || !ok } o (pixels dt.toNat (payload.map (·.toNat)))

/-- At a lane's first HS request of a link-up (R125 step 2): the line that fell first, `nLine` for N, a line stuck high, or
a pair that never differs; lane 0 and 1 are data, 2 the clock. -/
def execHsPolarity (lane : BitVec 2) (found : LaneSt) (nLine : Bool) (s : State) : Out := whenN7 s fun s =>
  match s.island.capture with
  | none => s
  | some c =>
    let faulty := fun (kind : Nat) =>
      let s := (s.setLane lane.toNat (kind + 8 * b2n nLine)).lineFound kind
      if s.lanesShort then s.linkUpDone false else s
    if !c.linkUp ∨ s.seqState ≠ seqCapture ∨ lane.toNat = 3 ∨ s.laneFound lane.toNat % 8 ≠ 0 then s
    else match found with
      | .ok => s.setLane lane.toNat (if nLine then 16 else 0)
      | .shortHigh => faulty 2
      | .stuck => faulty 4

/-- The frame window is still open (R116). -/
def State.inWindow (s : State) (o : Order) : Bool := decide (s.time copyIsland ≤ o.at_ + s.get Reg.WAT_FRAME_WINDOW_TICKS)

/-- The frame end (R115 step 6, R121, R125): missing lines stored as zeros, FRAME posted, PD11 to close.  The frame's
number is the count of frames completed. -/
def execFrameEnd (vc : BitVec 2) (s : State) : Out := whenN7 s fun s =>
  match s.island.capture.bind fun c => c.order.bind fun o => c.stamp.map fun t => (c, o, t) with
  | none => s
  | some (c, o, t) =>
      if s.seqState ≠ seqCapture ∨ vc.toNat ≠ o.vc ∨ !(s.inWindow o) then s
      else
        let w := o.width
        let h := o.height
        let short := c.short || decide (c.line < h)
        let sram := s.island.sram.wipe (o.addr + c.line * w) ((h - c.line) * w)
        let s := s.wrap Reg.WAT_COUNTS_FRAMES 1
        let f : Frame := ⟨s.get Reg.WAT_COUNTS_FRAMES, t, w, h, 2 * b2n c.crc + 4 * b2n c.trunc + 8 * b2n short⟩
        let s := if c.crc ∨ c.header then s.sat Reg.WAT_COUNTS_ERRORS 1 else s
        let s := ({ s with island := { s.island with
          sram := sram, frames := s.island.frames.set c.buf (some f), ready := s.island.ready ++ [c.buf] } }).endCapture
        match (s.tile isleCore).wait with
        | some .frame => s.takeFrame
        | some (.barges _) => s
        | some .units => s
        | some (.tick _) => s
        | none => s

/-- No frame end within WAT_FRAME_WINDOW ticks of the capture order (R116). -/
def execFrameWindowExpire (s : State) : Out := whenN7 s fun s =>
  match s.island.capture.bind fun (c : Capture) => c.order with
  | none => s
  | some o =>
    if o.at_ + s.get Reg.WAT_FRAME_WINDOW_TICKS ≤ s.time copyIsland then (s.watFault 0x68 0).captureError else s

/-- 10 t after the capture PD11 closes (R115 step 7). -/
def execPd11Close (s : State) : Out := whenN7 s fun s =>
  if s.seqState ≠ seqClosing ∨ s.time copyIsland < s.island.endedAt + 10 then s
  else
    let s := s.put Reg.WAT_STATUS_SEQ_STATE seqIdle
    if (s.dom 11).st = .stoppage then s else s.switchOff false 11 .closed

/-! ## The island's core (R113) -/

/-- More than WAT_PROG_BUDGET cycles since the last WAIT FRAME release (R113). -/
def execWatchBudgetOverrun (s : State) : Out := whenN7 s fun s =>
  match s.island.releasedAt with
  | none => s
  | some t =>
    let b := s.get Reg.WAT_PROG_BUDGET_CYCLES
    let p := s.get Reg.WAT_STATUS_PROG_STATE
    if b = 0 ∨ s.time copyIsland ≤ t + b ∨ (p ≠ 1 ∧ p ≠ 2) then s else s.islandTrap

/-- The island core's PC lies outside the program part of the SRAM, or the word there spells no instruction (R113, R299). -/
def State.islandFetchBad (s : State) : Bool :=
  let pc := (s.tile isleCore).pc
  let w := BitVec.ofNat 32 (s.island.sram.le pc 4)
  decide (sramData < pc + wordsLen (isExt w)) ||
    (pairName w (BitVec.ofNat 32 (s.island.sram.le (pc + 4) 4))).isNone

/-- The core takes an exception (R113): at a fetch that finds no instruction (`clean`; an instruction's own exceptions come with
that instruction), or an SRAM read that comes back corrected or uncorrectable at an island address (R674). -/
def execWatchException (ecc : EccEnd) (addr : BitVec 18) (s : State) : Out := whenN7 s fun s =>
  let p := s.get Reg.WAT_STATUS_PROG_STATE
  let line := addr.toNat / 64 * 64
  if p ≠ 1 ∧ p ≠ 2 then s
  else match ecc with
    | .clean => if p = 1 ∧ s.islandFetchBad then s.islandTrap else s
    | .corrected => (s.watFault 0x81 (s.eccDetail line 4 false)).tookFree
    | .uncorrectable => ((s.watFault 0x80 (s.eccDetail line 4 false)).tookFree).islandHalt

/-! ## The wake controller (R87, R129-R131) -/

/-- WAKE_IN is sampled at a level (R130): an assertion edge, as POLARITY gives it, makes one wake once the pin has held the
asserted level for the debounce time; more than 16 within 1 s disable the pin.  While WAKE_IN_EN is 0 or STUCK is 1 no edge
counts, and a level already asserted when they change is no edge (log entry 98). -/
def execWakeInWake (level : Bool) (s : State) : Out := whenN7 s fun s =>
  let on := level != s.on Reg.WAT_WAKE_CTRL_POLARITY
  let off := !(s.on Reg.WAT_WAKE_CTRL_WAKE_IN_EN) || s.on Reg.WAT_WAKE_CTRL_STUCK
  let edge := if off || !on then none else if s.pins.wakeIn then s.pins.wakeEdge else some s.gtc
  let made := s.pins.wakeIn && s.pins.wakeMade
  let s := { s with pins := { s.pins with wakeIn := on, wakeEdge := edge, wakeMade := made } }
  match edge with
  | none => s
  | some t =>
    if made ∨ s.gtc < t + atLeast1 (s.get Reg.WAT_WAKE_CTRL_DEBOUNCE) * 1000 then s
    else
      let l := (s.pins.wakeIns.filter fun t => s.gtc < t + 100000000) ++ [s.gtc]
      let s := { s with pins := { s.pins with wakeIns := l, wakeMade := true } }
      let s := ((s.wakeInfo wWakeIn 0).noteMailbox).standbyWake
      if 16 < l.length then (s.put Reg.WAT_WAKE_CTRL_STUCK 1).watFault 0x6B 0 else s

/-- WAKE_IN has stayed asserted for STUCK_S seconds since its edge (R130). -/
def execWakeInStuck (s : State) : Out := whenN7 s fun s =>
  match s.pins.wakeEdge with
  | none => s
  | some t =>
    if !(s.on Reg.WAT_WAKE_CTRL_WAKE_IN_EN) ∨ s.on Reg.WAT_WAKE_CTRL_STUCK ∨
        s.gtc < t + atLeast1 (s.get Reg.WAT_WAKE_CTRL_STUCK_S) * 100000000 then s
    else
      ({ s with pins := { s.pins with wakeEdge := none } }.put Reg.WAT_WAKE_CTRL_STUCK 1).watFault 0x6B 0

/-- A write to WAT_WAKE_CTRL (R130, R145). -/
def State.writeWakeCtrl (s : State) (v : Nat) : State :=
  let s := (((s.put Reg.WAT_WAKE_CTRL_DEBOUNCE (bits v 31 20)).put Reg.WAT_WAKE_CTRL_STUCK_S (bits v 19 12)).put
    Reg.WAT_WAKE_CTRL_POLARITY (bits v 6 6)).put Reg.WAT_WAKE_CTRL_WAKE_IN_EN (bits v 5 5)
  if bitAt v 7 then
    ({ s with pins := { s.pins with wakeIns := [] } }).put Reg.WAT_WAKE_CTRL_STUCK 0
  else s

/-- A register write that the N7's island takes and Yard ignores (R108). -/
def watWrite (s : State) (f : State → State) : Out := whenTow s fun s => whenN7 s f

def execWakeInReenable (value : BitVec 32) (s : State) : Out := watWrite s fun s => s.writeWakeCtrl value.toNat

/-- The oldest wake report reaches the wake controller and takes effect according to ENG_STATE (R129). -/
def execProgramWake (s : State) : Out := whenN7 s fun s =>
  match s.conc.inbox.find? isWake with
  | some (.wake cause reason) =>
    if s.heldByHeat ∧ cause = wWatch then s else
    let s := { s with conc := { s.conc with inbox := s.conc.inbox.erase (.wake cause reason) } }
    let s := (s.wakeInfo cause reason).noteMailbox
    if s.eng = engStandby ∨ s.flight.entryStep ≠ 0 then s.standbyWake
    else if s.isReady then s.readyWake (s.handoffReq false)
    else if s.eng = engFlight ∧ s.get Reg.PWR_FLIGHT_STATUS_KIND < 2 then
      { s with island := { s.island with heldWakes := s.island.heldWakes ++ [s.handoffReq false] } }
    else s
  | some (.fault _) => s
  | some (.demand _) => s
  | some (.phase _ _) => s
  | some (.samplePart _) => s
  | some (.sampleCtx _) => s
  | some (.sampleProbe _ _) => s
  | some (.sampleLink _ _) => s
  | some (.sampleActivity _ _) => s
  | none => s

/-- A write to WAT_WAKE_INFO (R131, R146). -/
def State.writeWakeInfo (s : State) (v : Nat) : State :=
  if bitAt v 0 then
    { s.put Reg.WAT_WAKE_INFO_PENDING 0 with pins := { s.pins with wakeOut := false } }
  else s

def execPendingClear (value : BitVec 32) (s : State) : Out := watWrite s fun s => s.writeWakeInfo value.toNat

/-- A write to WAT_STATUS (R112, R139): the W1C bits; on Yard HOLD_OVF alone.  R108 has HOLD_OVF report there as on the N7
and every WAT register ignore writes; that a 1 still clears the bit is the model's choice (log entry 99). -/
def State.writeWatStatus (s : State) (v : Nat) : State :=
  let s := if bitAt v 5 then s.put Reg.WAT_STATUS_HOLD_OVF 0 else s
  if s.yard then s
  else
    let s := if bitAt v 6 then s.put Reg.WAT_STATUS_KEEP_A 0 else s
    if bitAt v 7 then s.put Reg.WAT_STATUS_KEEP_B 0 else s

def execKeepClear (value : BitVec 32) (s : State) : Out := whenTow s fun s => .next (s.writeWatStatus value.toNat)

/-- A write to WAT_CTRL (R138): ARM asks for link-up and clears PORT_DOWN and an I3C stop; HANDOFF_NOW asks for a
handoff. -/
def State.writeWatCtrl (s : State) (v : Nat) : State :=
  let s := (((s.put Reg.WAT_CTRL_EVENT_VEC (bits v 31 20)).put Reg.WAT_CTRL_WAKE_ON_TRAP (bits v 10 10)).put
    Reg.WAT_CTRL_EVENT_PIN (bits v 9 9)).put Reg.WAT_CTRL_RUN (bits v 0 0)
  let s := if bitAt v 8 then
      ({ s with island := { s.island with linkUp := true, i3cStop := false } }.put Reg.WAT_CTRL_ARM 1).put
        Reg.WAT_STATUS_PORT_DOWN 0
    else s
  if bitAt v 11 ∧ !(s.on Reg.WAT_CTRL_HANDOFF_NOW) then
    (s.askHandoff (s.handoffReq true)).put Reg.WAT_CTRL_HANDOFF_NOW 1
  else s

def execHandoffNow (value : BitVec 32) (s : State) : Out := watWrite s fun s => s.writeWatCtrl value.toNat

def execArm (value : BitVec 32) (s : State) : Out := watWrite s fun s => s.writeWatCtrl value.toNat

/-! ## Handoff (R132-R134) -/

/-- The buffer that a handoff takes (R132): the latest complete frame's for HANDOFF_NOW; else a kept one: the wake's own
while that is kept, or A before B (log entry 100). -/
def State.handoffBuf (s : State) (r : HandoffReq) : Option Nat :=
  let kept := fun (b : Nat) => s.on (if b = 0 then Reg.WAT_STATUS_KEEP_A else Reg.WAT_STATUS_KEEP_B)
  if r.now then match s.frameIn 0, s.frameIn 1 with
    | some a, some b => some (if newer b.no a.no 32 then 1 else 0)
    | some _, none => some 0
    | none, some _ => some 1
    | none, none => none
  else match r.buf with
    | some b => if kept b then some b else [0, 1].find? kept
    | none => [0, 1].find? kept

/-- The handoff record (R134).  Of a HANDOFF_NOW, which has no wake, CAUSE, REASON and the mailbox are the last wake's (log
entry 50). -/
def State.handoffRecord (s : State) (r : HandoffReq) (f : Option Frame) : List Byte :=
  let g := f.getD ⟨0, 0, 0, 0, 0⟩
  leBytes 8 r.stamp ++ leBytes 8 g.stamp ++ leBytes 4 g.no ++ leBytes 2 g.width ++ leBytes 2 g.height ++
    leBytes 1 r.cause ++ leBytes 1 r.reason ++ leBytes 1 (g.flags + b2n f.isSome) ++ leBytes 1 s.island.seq ++
    leBytes 4 (g.width * g.height) ++ leBytes 32 r.mailbox

/-- The oldest handoff that is due goes, HANDOFF_NOW with it where it asked. -/
def State.dropHandoff (s : State) : State :=
  let s := if s.island.handoffs.head?.any (·.now) then s.put Reg.WAT_CTRL_HANDOFF_NOW 0 else s
  { s with island := { s.island with handoffs := s.island.handoffs.drop 1 } }

/-- A handoff of buffer `b` is over: its KEEP clears (R132 step 4, R133). -/
def State.handoffOver (s : State) (b : Option Nat) : State :=
  let s := s.dropHandoff
  match b with
  | none => s
  | some b => s.put (if b = 0 then Reg.WAT_STATUS_KEEP_A else Reg.WAT_STATUS_KEEP_B) 0

/-- A write of the handoff fails (R133). -/
def State.handoffFailed (s : State) : State :=
  match s.island.handoffs with
  | [] => s
  | r :: _ => (s.watFault 0x6D 0).handoffOver (s.handoffBuf r)

/-- The side port writes the frame and the record, then the event vector (R132, R133). -/
def execHandoff (s : State) : Out := whenN7 s fun s =>
  match s.island.handoffs with
  | [] => s
  | r :: _ =>
    if !s.isReady ∨ !(s.domLive 4) ∨ !(s.domLive 10) then s
    else if !(s.on Reg.WAT_HANDOFF_BASE_VALID) then s.dropHandoff
    else
      let cid := s.get Reg.WAT_HANDOFF_BASE_CID
      let base := s.get Reg.WAT_HANDOFF_BASE_BASE * 2 ^ 17
      let b := s.handoffBuf r
      let f := b.bind fun k => s.frameIn k
      let image := match b, f with
        | some k, some g => s.island.sram.bytes (s.bufAddr k) (g.width * g.height)
        | _, _ => []
      let s := { s with island := { s.island with seq := (s.island.seq + 1) % 256 } }
      match s.ownWrite cid (base + 0x1000) image with
      | none => (s.refusedRec cid none (base + 0x1000)).handoffFailed
      | some s => match s.ownWrite cid base (s.handoffRecord r f) with
        | none => (s.refusedRec cid none base).handoffFailed
        | some s => (s.event (s.get Reg.WAT_CTRL_EVENT_VEC)).handoffOver b

end Sys2Proof.Machine
end

