-- ==== Sys2Proof/Machine/LinkOps.lean ====
section
/-! DEFINITION. What the stops and ports of the Zhevuno Link share (R505-R535): ports, link packets, the choice of an
egress port, link faults, and the replay window of atomics. -/

namespace Sys2Proof.Machine

/-! ## Ports -/

def State.port (s : State) (n : Nat) : Port := Tab.get Port.reset s.link.ports n

def State.setPort (s : State) (n : Nat) (x : Port) : State :=
  { s with link := { s.link with ports := s.link.ports.set n x } }

/-- The states of a port (R538). -/
def pDisabled : Nat := 0
def pDetect : Nat := 1
def pEq : Nat := 2
def pAlign : Nat := 3
def pWidth : Nat := 4
def pFecLock : Nat := 5
def pIdent : Nat := 6
def pSecure : Nat := 7
def pActive : Nat := 8
def pRetrain : Nat := 9
def pDown : Nat := 10
def pRetryWait : Nat := 11

def State.portState (s : State) (n : Nat) : Nat := s.get (Reg.LNK_PORT_STATUS_STATE n)

/-- The port takes a state: its limits and its silence run from now (R507, R511, R535). -/
def State.setPortState (s : State) (n v : Nat) : State :=
  let now := s.time (copyLink n)
  (s.setPort n { s.port n with since := now, heard := now, ackAt := now }).put (Reg.LNK_PORT_STATUS_STATE n) v

/-- Ticks since the port took its state. -/
def State.portAge (s : State) (n : Nat) : Nat := s.time (copyLink n) - (s.port n).since

/-- The port is ACTIVE, its PHY open (R505, R515). -/
def State.portActive (s : State) (n : Nat) : Bool := decide (n < 6) && s.portState n == pActive && s.domLive 9

/-- What a command does to a link port or the link controller: Yard only, with PD8 open (R27, R505). -/
def whenLink (s : State) (f : State → Out) : Out := if s.yard then whenLive 8 s f else .next s

/-! ## Link packets (R512, R513, R517) -/

/-- Link operations (R517). -/
def opLRead : Nat := 0x50
def opLWrite : Nat := 0x51
def opLMasked : Nat := 0x52
def opLAtomic : Nat := 0x53
def opLSend : Nat := 0x54
def opLReduce : Nat := 0x55
def opLRecv : Nat := 0x56
def opLData : Nat := 0x58
def opLAck : Nat := 0x59

/-- A request of R517, which a response answers. -/
def isLReq (op : Nat) : Bool := decide (0x50 ≤ op) && decide (op ≤ 0x54)

/-- A link response. -/
def isLRsp (op : Nat) : Bool := op == opLData || op == opLAck

/-- The link operation formed from a mesh operation (R517), 0 for none. -/
def linkOp (op : Nat) : Nat :=
  if op = opRead then opLRead else if op = opWrite then opLWrite else if op = opMasked then opLMasked
  else if op = opAtomic then opLAtomic else if op = opMailbox then opLSend else 0

/-- The operation that a link request was formed from (R518). -/
def formedFrom (op : Nat) : Nat :=
  if op = opLRead then opRead else if op = opLWrite then opWrite else if op = opLMasked then opMasked
  else if op = opLAtomic then opAtomic else opMailbox

/-- Link virtual channel of a packet (R512, R517). -/
def linkVc (h : Header) : Nat :=
  (if isLRsp h.op.toNat then 2 else if h.op.toNat = opLReduce then 4 else 0) + b2n h.lclass

/-- The slots of a packet (R512). -/
def linkSlots (h : Header) : List Slot :=
  let vc := BitVec.ofNat 3 (linkVc h)
  .head vc h :: List.replicate h.len.toNat (.flit vc)

/-- The first slot of a BULK packet. -/
def bulkHead : Slot → Bool
  | .head _ h => !h.prompt
  | .flit _ => false

/-- A packet joins those that wait on its channel: PROMPT ahead of BULK (R512). -/
def joinSlots (q : List Slot) (h : Header) : List Slot :=
  if h.prompt then
    let front := q.takeWhile fun x => !(bulkHead x)
    front ++ linkSlots h ++ q.drop front.length
  else q ++ linkSlots h

/-- A packet waits to leave port `n`. -/
def State.offerTx (s : State) (n : Nat) (h : Header) : State :=
  let p := s.port n
  let vc := linkVc h
  s.setPort n { p with tx := p.tx.set vc (joinSlots (Tab.get [] p.tx vc) h) }

/-! ## The choice of port (R513, R515) -/

/-- The egress port that LNK_DEST gives for a die. -/
def State.destPort (s : State) (d : Nat) : Option Nat :=
  [s.get (Reg.LNK_DEST_PRIMARY d), s.get (Reg.LNK_DEST_ALT1 d), s.get (Reg.LNK_DEST_ALT2 d)].find? s.portActive

/-- Class of a packet on the link of port `p` (R513); `ing`: the port on which it arrived. -/
def State.linkClass (s : State) (p : Nat) (ing : Option Nat) (h : Header) : Bool :=
  s.on (Reg.LNK_PORT_CTRL_DATELINE p) || (h.srcDie.toNat != s.ownDie && (match ing with
    | none => h.lclass
    | some q => s.get (Reg.LNK_PORT_CTRL_DIM p) == s.get (Reg.LNK_PORT_CTRL_DIM q) && h.lclass))

/-- TTL with which this die sends a packet on (R515). -/
def State.sendTtl (s : State) (h : Header) : Nat :=
  if h.srcDie.toNat = s.ownDie then h.ttl.toNat else h.ttl.toNat - 1

/-- Stop `n` sends a link packet on (R515): on its own link, or over the mesh to the stop of the chosen port; `none`
where no port is ACTIVE or TTL runs out. -/
def State.sendOn (s : State) (n : Nat) (ing : Option Nat) (h : Header) : Option State :=
  match s.destPort h.dstDie.toNat with
  | none => none
  | some p =>
    if s.sendTtl h = 0 then none
    else if p = n then
      some (s.offerTx n { h with lclass := s.linkClass n ing h, ttl := BitVec.ofNat 5 (s.sendTtl h) })
    else some (s.enqueue { h with
      src := BitVec.ofNat 6 n, unit := 0, dst := BitVec.ofNat 6 p, vn := if isLRsp h.op.toNat then 1 else 0 })

/-- TTL_INIT (R540). -/
def State.ttlInit (s : State) : Nat := atLeast1 (s.get Reg.LNK_CTRL_TTL_INIT)

/-- The link response to a link request (R518), from this die. -/
def State.linkRsp (s : State) (h : Header) (status lfault lines data operand : Nat) : Header :=
  { h with
    op := BitVec.ofNat 8 (if h.op.toNat = opLRead ∨ h.op.toNat = opLAtomic then opLData else opLAck), vn := 1,
    poison := false, len := BitVec.ofNat 4 lines, count := BitVec.ofNat 4 lines, stride := false,
    status := BitVec.ofNat 8 status, addr := 0, mask := 0, operand := BitVec.ofNat 64 operand, operand2 := 0,
    dstDie := h.srcDie, srcDie := BitVec.ofNat 9 s.ownDie, ttl := BitVec.ofNat 5 s.ttlInit, lclass := false,
    lfault := BitVec.ofNat 8 lfault, data := BitVec.ofNat 4096 data }

/-- The HOLD stop delivers a response to the initiator of a request (R518, R519). -/
def State.answerOrig (s : State) (h : Header) (status lines data operand : Nat) : State :=
  s.enqueue { h with
    route := 0, hops := 0, src := BitVec.ofNat 6 h.hold.toNat, dst := h.origStop, unit := h.origUnit, tag := h.origTag,
    vn := 1, poison := false, len := BitVec.ofNat 4 lines, count := BitVec.ofNat 4 lines, stride := false,
    op := BitVec.ofNat 8 (if h.op.toNat = opLRead ∨ h.op.toNat = opLAtomic ∨ h.op.toNat = opLData then opRspData else opRspAck),
    status := BitVec.ofNat 8 status, addr := 0, mask := 0, operand := BitVec.ofNat 64 operand, operand2 := 0,
    data := BitVec.ofNat 4096 data }

/-- A link fault is delivered (R519): UNREACHABLE with the code and 1 in OPERAND. -/
def State.faultOrig (s : State) (h : Header) (code : Nat) : State := s.answerOrig h stUnreachable 0 0 (code + 256)

/-- An entry leaves the outstanding table (R518, R519). -/
def State.dropOut (s : State) (r : LinkReq) : State :=
  { s with link := { s.link with out := s.link.out.erase r } }

/-- The entry that a packet belongs to: same HOLD, ORIG, ORIG_TAG and REQ_ID. -/
def State.entryFor (s : State) (h : Header) : Option LinkReq :=
  s.link.out.find? fun (r : LinkReq) => r.h.hold == h.hold && r.h.origStop == h.origStop && r.h.origUnit == h.origUnit &&
    r.h.origTag == h.origTag && r.h.reqId == h.reqId

/-- A fault record of the link with its port (R536). -/
def State.linkFault (s : State) (code n detail : Nat) : State := s.fault code (uLNK n) n (n + detail)

/-- Stop `n` sends a link packet on, or discards it (R515): TTL_DROP, fault 0x47, and to a request the link fault. -/
def State.forward (s : State) (n : Nat) (ing : Option Nat) (h : Header) : State :=
  match s.sendOn n ing h with
  | some s => s
  | none =>
    let s := (s.sat Reg.LNK_COUNTS_TTL_DROP 1).faultC 0x47 (uLNK n) n (n + h.dstDie.toNat * 2 ^ 16) (some h.cid.toNat)
      (some h.qid.toNat) none
    if !(isLReq h.op.toNat) then s
    else if h.srcDie.toNat = s.ownDie then
      match s.entryFor h with
      | none => s
      | some r => (s.dropOut r).faultOrig h 0x47
    else (s.sendOn n none (s.linkRsp h stUnreachable 0x47 0 0 0)).getD s

/-! ## The replay window (R521, R522) -/

/-- Address of the entry of a source die and REQ_ID. -/
def State.amoAt (s : State) (src r : Nat) : Nat :=
  s.get Reg.LNK_AMO_BASE_BASE * 2 ^ 25 + (src * 4096 + r % 4096) * 16

/-- The entry, where the window can be read. -/
def State.amoRead (s : State) (src r : Nat) : Option Nat :=
  if s.on Reg.LNK_AMO_BASE_VALID then (s.ownRead s.driverCid (s.amoAt src r) 16).map leNat else none

/-- The window is not usable (R522): fault 0x4F to the source die. -/
def State.amoFails (s : State) (n : Nat) (h : Header) : State :=
  let s := if s.on Reg.LNK_AMO_BASE_VALID then
      s.refusedRec s.driverCid none (s.amoAt h.srcDie.toNat h.reqId.toNat) else s
  (s.linkFault 0x4F n (h.srcDie.toNat * 2 ^ 16)).forward n none (s.linkRsp h stUnreachable 0x4F 0 0 0)

/-- The answer of this die's memory or mailbox store to a re-issued request returns to the source die (R518); an
atomic first fills its entry (R522).  `req`: the request as stop `n` injected it, its link operation in `lop`. -/
def State.returnAnswer (s : State) (n : Nat) (req rsp : Header) : State :=
  let lop := linkOp req.op.toNat
  let st := if rsp.poison then stPoison else rsp.status.toNat
  let l := { req with op := BitVec.ofNat 8 lop }
  let answer := fun (s : State) =>
    s.forward n none (s.linkRsp l st 0 rsp.len.toNat rsp.data.toNat rsp.operand.toNat)
  if lop = opLAtomic then
    let src := req.srcDie.toNat
    let r := req.reqId.toNat
    let e := r + 2 ^ 31 + st * 2 ^ 32 + rsp.data.toNat % 2 ^ 64 * 2 ^ 64
    match if s.on Reg.LNK_AMO_BASE_VALID then s.ownWrite s.driverCid (s.amoAt src r) (leBytes 16 e) else none with
    | some s => answer s
    | none => s.amoFails n l
  else answer s

end Sys2Proof.Machine
end

