-- ==== Sys2Proof/Machine/Mesh.lean ====
section
/-! DEFINITION. The mesh (R464-R504): source routes, weirs, routers, responses and their outcomes, timeouts, and the
epoch switch with what a stoppage or reopening does at its end (R701-R713). -/

namespace Sys2Proof.Machine

/-! ## Routes and stops (R470-R474) -/

/-- The default route from stop `a` to stop `b` (R474): every west hop, then every north or south hop, then every east
hop; hops and route word. -/
def defaultRoute (a b : Nat) : Nat × Nat :=
  let x := a % 6
  let y := a / 6
  let x2 := b % 6
  let y2 := b / 6
  let dirs := List.replicate (x - x2) 3 ++ List.replicate (y - y2) 0 ++ List.replicate (y2 - y) 2 ++
    List.replicate (x2 - x) 1
  (dirs.length, dirs.foldr (fun d w => d + 4 * w) 0)

/-- Route entry `d` of bank `e` at stop `n` (R474, R500): hops and route word. -/
def State.rt (s : State) (n e d : Nat) : Nat × Nat :=
  let def_ := defaultRoute n d
  (Tab.get def_.1 s.regs (Reg.MSH_RT_HOPS n e d).key, Tab.get def_.2 s.regs (Reg.MSH_RT_ROUTE n e d).key)

/-- The stop that a hop in a direction leads to (R472), or `none` off the mesh. -/
def hopTo (n dir : Nat) : Option Nat := match dir with
  | 0 => if n / 6 = 0 then none else some (n - 6)
  | 1 => if n % 6 = 5 then none else some (n + 1)
  | 2 => if n / 6 = 5 then none else some (n + 6)
  | _ => if n % 6 = 0 then none else some (n - 1)

/-- Every hop stays on the mesh, the last ends at `d`, and no west hop follows another direction (R473). -/
def routeOk (d : Nat) : Nat → Nat → Nat → Bool → Bool
  | 0, n, _, _ => n == d
  | k + 1, n, w, turned =>
    !(turned && w % 4 == 3) && (match hopTo n (w % 4) with
      | some m => routeOk d k m (w / 4) (turned || w % 4 != 3)
      | none => false)

/-- A route entry is valid (R473). -/
def entryOk (n d : Nat) (r : Nat × Nat) : Bool := decide (r.1 ≤ 16) && routeOk d r.1 n r.2 false

/-- Domain of the unit behind a stop (R27, R30). -/
def unitDom (n : Nat) : Nat :=
  if n < 6 then 9
  else if n = 30 then 3 else if n < 34 ∧ 30 < n then 4 else if n = 34 then 5 else if n = 35 then 2
  else if n % 6 = 0 then 10
  else if n % 6 = 5 then (if n < 18 then 6 else 7)
  else clDom (stopCl n)

/-- The unit behind a stop is OPEN (R31, R487). -/
def State.unitOpen (s : State) (n : Nat) : Bool :=
  s.domOpen (unitDom n) && (decide (6 ≤ n) || (s.domOpen 8 && !(s.inStoppage 4 n)))

/-- The memory stop that the current bank's map names for `L` (R498). -/
def State.mpMap (s : State) (e l : Nat) : Nat := match l with
  | 0 => s.get (Reg.MSH_STOPMAP_MP0 e)
  | 1 => s.get (Reg.MSH_STOPMAP_MP1 e)
  | 2 => s.get (Reg.MSH_STOPMAP_MP2 e)
  | _ => s.get (Reg.MSH_STOPMAP_MP3 e)

def State.bsMap (s : State) (e k : Nat) : Nat := match k with
  | 0 => s.get (Reg.MSH_STOPMAP_BS0 e)
  | 1 => s.get (Reg.MSH_STOPMAP_BS1 e)
  | 2 => s.get (Reg.MSH_STOPMAP_BS2 e)
  | _ => s.get (Reg.MSH_STOPMAP_BS3 e)

/-- Port of a die in bank `e`'s die map (R499). -/
def State.dieMap (s : State) (e d : Nat) : Nat := s.get (Reg.MSH_DIEMAP_PORTS e (d / 8)) / 16 ^ (d % 8) % 16

/-- A request goes to the basin (R440, R438, R707). -/
def State.toBasin (s : State) (pa : Nat) : Bool :=
  let sl := lineSlice pa
  let cache := match s.tagOf pa with
    | some k => s.on (Reg.XLT_TAG_LO_CACHE k)
    | none => false
  (cache || s.basin.lines.any fun (y : Nat × Bool) => y.1 == pa / 64 && y.2) && s.sliceCaches sl && s.bsStopOf (sl / 4) != 0x3F

/-- The destination stop of a request (R471); of one that is not a memory access, the stop that its sender names. -/
def State.destOf (s : State) (h : Header) : Option Nat :=
  let pa := h.addr.toNat
  let op := h.op.toNat
  if op = 0 ∨ 4 < op then some h.dst.toNat
  else if paDie pa ≠ s.ownDie then s.diePort (paDie pa)
  else if basinBase ≤ paLocal pa ∧ 6 ≤ h.src.toNat then some (bsStop (sliceOf pa / 4))
  else if op ≠ opAtomic ∧ s.toBasin pa ∧ 6 ≤ h.src.toNat ∧ !(h.src.toNat % 6 == 5) then some (bsStop (lineSlice pa / 4))
  else some (s.mpStopOf pa)

/-! ## Weirs (R483-R486, R502) -/

/-- Class of a packet at its weir (R483). -/
def weirClass (h : Header) : Nat := 2 * b2n (h.vn.toNat == 2) + b2n h.prompt

/-- UNITs that a stop has (R483). -/
def unitsAt (n : Nat) : Nat :=
  if isClStop n then 4 else if n = 30 ∨ n = 31 ∨ n = 32 then 2
  else if 6 ≤ n ∧ n < 30 ∧ n % 6 = 0 then 0 else if n < 36 then 1 else 0

/-- A weir changed from `old` (EN, RATE, BURST) to its present setting (R485). -/
def State.weirChanged (s : State) (n u k : Nat) (old : Bool × Nat × Nat) (oldCredit : Int) : State :=
  let new := s.weir n u k
  let full := ((new.2.2 * 4096 : Nat) : Int)
  if !new.1 then { s with mesh := { s.mesh with credit := s.mesh.credit.drop (· == weirKey n u k) } }
  else if !old.1 then s.setCredit n u k full
  else s.setCredit n u k (min oldCredit full)

/-- A write to MSH_WEIR (R485, R502): read-only at cluster stops and absent for a UNIT that the stop lacks. -/
def State.writeWeir (s : State) (n u k v : Nat) : State :=
  if isClStop n ∨ unitsAt n ≤ u then s
  else
    let old := s.weir n u k
    let c := s.credit n u k
    let s := ((s.put (Reg.MSH_WEIR_EN n u k) (bits v 63 63)).put (Reg.MSH_WEIR_RATE n u k) (bits v 60 48)).put
      (Reg.MSH_WEIR_BURST n u k) (bits v 47 32)
    s.weirChanged n u k old c

def execWeirWrite (stop : BitVec 6) (unit : BitVec 2) (cls : BitVec 2) (value : BitVec 64) (s : State) : Out :=
  whenLive 5 s fun s => .next (s.writeWeir stop.toNat unit.toNat cls.toNat value.toNat)

/-- One tick of 18 spine cycles at the weirs (R484): credit accrues, and a class that waits only for credit counts in
HELD. -/
def State.weirTick (s : State) : State :=
  s.mesh.credit.foldl (fun (s : State) (e : Nat × Int) =>
    let n := e.1 / 16
    let u := e.1 / 4 % 4
    let k := e.1 % 4
    let w := s.weir n u k
    if !w.1 then s
    else
      let waits := (e.2 < 0 || w.2.1 == 0) && s.mesh.waiting.any fun (h : Header) =>
        h.vn.toNat != 1 && h.src.toNat == n && h.unit.toNat == u && weirClass h == k
      let cycles := if w.2.1 = 0 then 18 else min 18 (((-e.2).toNat + w.2.1 - 1) / w.2.1)
      let s := if waits then s.sat (Reg.MSH_INIT_ERR_HELD n u) cycles else s
      s.setCredit n u k (min ((w.2.2 * 4096 : Nat) : Int) (e.2 + ((18 * w.2.1 : Nat) : Int)))) s

/-! ## Outcomes at the initiator (R490, R519) -/

/-- A tile's request failed in the mesh (R490): RSEND and RRECV complete, any other ends the task. -/
def State.tileFailed (s : State) (t code : Nat) (h : Header) : State :=
  match (s.tile t).call with
  | some (.send _ _ sreg _ _ _) => s.endCall t sreg 3
  | some (.recv _ sreg _ _) =>
    let s := { s with mail := { s.mail with recvs := s.mail.recvs.filter fun e => e.1 != t } }
    s.endCall t sreg 2
  | some (.atom _ _ _) => s.failWith t code ((s.errOf h).getD 0)
  | none => s.failWith t code ((s.errOf h).getD 0)

/-- A DMA engine's request failed (R490): a hint skips its lines, any other packet retires with the code. -/
def State.dmaFailed (s : State) (n code : Nat) (h : Header) : State :=
  match (s.dmaQueue n).find? fun e => e.1 == h.qid.toNat with
  | none => s
  | some (q, i) => match (s.queue q).pkt i with
    | none => s
    | some p =>
      if opOf p.raw = 0x32 ∨ opOf p.raw = 0x33 then s.sat Reg.XLT_COUNTS_HINT_SKIPPED (max 1 h.count.toNat)
      else s.dmaLeave n q i (Pkt.finish (.error code (uDMA n) (s.errOf h)))

/-- The request reads a ring entry of its queue, at HEAD or to be staged (R208, R214). -/
def State.ringRead (s : State) (h : Header) : Bool :=
  let q := h.qid.toNat
  let x := s.queue q
  h.op.toNat == opRead && (match s.queueCid q with
    | none => false
    | some cid => (x.head :: x.staging.toList).any fun i => s.reach cid (x.slotVa i) .read == .ok h.addr.toNat)

/-- The dispatcher's request failed (R490): a ring read halts the queue with its HEAD unchanged; any other waits 100 t to be
sent once more, and then loses its context. -/
def State.dspFailed (s : State) (code : Nat) (h : Header) : State :=
  if s.ringRead h then s.updQueue h.qid.toNat fun x => { x with st := .halted, staging := none }
  else if s.mesh.retried.any (·.1 == h) then
    ({ s with mesh := { s.mesh with retried := s.mesh.retried.filter (·.1 != h) } }).lose h.cid.toNat code (s.errOf h)
  else
    ({ s with mesh := { s.mesh with retried := (h, s.time (copyNi dspStop) + 100) :: s.mesh.retried } }).enqueue h

/-- The swap engine's request failed (R263, R490): as a slot access that fails the check. -/
def State.swapLost (s : State) (h : Header) : State :=
  let pa := h.addr.toNat
  match (List.range 16).findSome? fun p => ((List.range (s.get (Reg.DSP_SWAP_CFG_SLOTS p))).find? fun k =>
      decide (s.slotBase p k ≤ pa) && decide (pa < s.slotBase p k + 2 ^ 21)).map fun k => (p, k) with
  | none => s
  | some (p, k) =>
    match s.queues.findSome? fun e => e.2.pkts.findSome? fun (x : Pkt) => x.runs.findSome? fun (r : Run) =>
        match r.place with
        | .saving t p' k' => if p' = p ∧ k' = k then some (e.1, x.index, r, t, false) else none
        | .loading t p' k' => if p' = p ∧ k' = k then some (e.1, x.index, r, t, true) else none
        | .onTile _ => none
        | .heldInSlot _ _ => none
        | .inPool _ _ => none with
    | none => s
    | some (q, i, r, t, load) =>
      s.swapFailed t p k q i r (if load then r.stats else (s.tile t).stats) (s.tile t).cid load

/-- A walker's table read failed (R415, R490). -/
def State.walkLost (s : State) (h : Header) : State :=
  match s.xlt.walks.find? fun (w : Walk) => w.started && w.cid == h.cid.toNat with
  | none => s
  | some w => s.walkFailed w h.addr.toNat

/-- The initiator of a request acts on UNREACHABLE, MISDIRECTED, POISON or TIMEOUT, as code 0x31, 0x32, 0x80 or 0x35
(R490).  Requests of the wharf, the host port, the basin, the ZL stops and the Keeper leave nothing to undo here. -/
def State.meshFailed (s : State) (h : Header) (code : Nat) : State :=
  let n := h.src.toNat
  let u := h.unit.toNat
  if isClStop n then s.tileFailed (unitTile n u) code h
  else if n = dspStop then (if u = 1 then s.swapLost h else s.dspFailed code h)
  else if n = dmaStop 0 ∧ u = 1 then
    s.handoffFailed
  else if n = dmaStop 0 then s.dmaFailed 0 code h
  else if n = dmaStop 1 then s.dmaFailed 1 code h
  else if n = xltStop ∧ u = 0 then s.walkLost h
  else s

/-- A link fault reaches the initiator (R519): a mover fault, or the suspension of a DMA packet as for code 0x01; any
other acts as for UNREACHABLE. -/
def State.linkFaulted (s : State) (h : Header) (code : Nat) : State :=
  let n := h.src.toNat
  let acc : Access := if h.op.toNat = opRead then .read else if h.op.toNat = opAtomic then .atomic else .write
  if isClStop n then
    let t := unitTile n h.unit.toNat
    match (s.tile t).call with
    | some (.send _ _ sreg _ _ _) => s.endCall t sreg 3
    | some (.recv _ sreg _ _) => s.endCall t sreg 2
    | some (.atom pa _ _) => s.moverFault t pa acc ⟨code, 0, 0, 0, pa⟩
    | none => s.moverFault t h.addr.toNat acc ⟨code, 0, 0, 0, h.addr.toNat⟩
  else if (n = dmaStop 0 ∧ h.unit = 0) ∨ n = dmaStop 1 then
    let en := n - dmaStop 0
    match (s.dmaQueue en).find? fun e => e.1 == h.qid.toNat with
    | none => s
    | some (q, i) =>
      let (s, tok) := s.suspend (uDMA en) (dmaStop en) h.cid.toNat q i 0 h.addr.toNat acc (0x40 + en)
        ⟨code, 0, 0, 0, h.addr.toNat⟩
      s.updPkt q i fun p => { p with token := some tok }
  else s.meshFailed h 0x31

/-! ## Injection (R477-R484, R489) -/

/-- A request expects a response (R467). -/
def expects (h : Header) : Bool :=
  let op := h.op.toNat
  h.vn.toNat == 0 && (op == 1 || op == 2 || op == 3 || op == 4 || op == 0x10 || op == 0x20 || op == 0x21 || op == 0x30 || op == 0x56)

/-- A switch holds the packet (R481). -/
def State.heldBySwitch (s : State) (h : Header) : Bool :=
  (s.get Reg.MSH_EPOCH_STATE == 1 && h.vn.toNat != 1) || s.get Reg.MSH_EPOCH_STATE == 2

/-- The tag is free: no request under it is outstanding, nor was one freed by a timeout within MSH_REQ_TIMEOUT (R489). -/
def State.tagFree (s : State) (h : Header) : Bool :=
  let k := (h.src.toNat, h.unit.toNat, h.tag.toNat)
  !(s.mesh.out.any fun (o : OutReq) => (o.h.src.toNat, o.h.unit.toNat, o.h.tag.toNat) == k) &&
    !(s.mesh.freed.any fun f => (f.1, f.2.1, f.2.2.1) == k &&
      decide (s.time (copyNi h.src.toNat) < f.2.2.2 + atLeast1 (s.get Reg.MSH_REQ_TIMEOUT_TICKS)))

/-- Spine cycles since a count, by the copy of stop `n` (R464): whole ticks, of 18 cycles each (log entry 108). -/
def State.cyclesSince (s : State) (n t : Nat) : Nat := 18 * (s.time (copyNi n) - t)

/-- Does a mesh monitor's subject name initiator `u` of stop `n` (R681)? -/
def ofInit (n u subject : Nat) : Bool :=
  subject % 64 == n && (bitAt subject 8 || subject / 64 % 4 == u)

/-- A memory-port stop's response leaves for its requester: a sample of the stop's latency (R681). -/
def State.sampleMport (s : State) (n : Nat) (h : Header) : State :=
  match s.mesh.mpAt.find? (·.1 == 256 * h.dst.toNat + 64 * h.unit.toNat + h.tag.toNat) with
  | none => s
  | some (_, t) => s.sample 4 (s.cyclesSince n t) 63 fun sub => bitAt sub 2 || sub % 4 == n / 6 - 1

/-- Bytes that initiator `u` of stop `n` moves join the count of the present 1,000 t (R681). -/
def State.moveBytes (s : State) (n u bytes : Nat) : State :=
  { s with mon := { s.mon with moved := s.mon.moved.set (4 * n + u) (Tab.get 0 s.mon.moved (4 * n + u) + bytes) } }

/-- A NI injects a packet (R466, R474, R489, R492): its route and EPOCH, CPAR, the initiator's bytes, and the start
of its timeout. -/
def State.injectAt (s : State) (h : Header) (d : Nat) : State :=
  let n := h.src.toNat
  let u := h.unit.toNat
  let e := s.get Reg.MSH_EPOCH_CURRENT
  let r := s.rt n e d
  let h := { h with
    dst := BitVec.ofNat 6 d, route := BitVec.ofNat 32 r.2, hops := BitVec.ofNat 5 r.1, epoch := e == 1,
    cpar := cidParity h.cid.toNat }
  let s := if h.vn.toNat = 0 then (s.wrap (Reg.MSH_INIT_OUT_BYTES_OUT n u) (64 * h.len.toNat)).moveBytes n u (64 * h.len.toNat)
    else s
  let s := if isMpStop n ∧ h.vn.toNat = 1 then s.sampleMport n h else s
  let out := if expects h then s.mesh.out ++ [⟨h, s.time (copyNi n)⟩] else s.mesh.out
  { s with mesh := { s.mesh with flying := s.mesh.flying ++ [⟨n, 4, 0, h⟩], out := out } }

/-- A packet that the dispatcher sends again waits its 100 t (R490). -/
def State.retryWaits (s : State) (h : Header) : Bool :=
  s.mesh.retried.any fun e => e.1 == h && decide (s.time (copyNi dspStop) < e.2)

/-- A waiting packet leaves its NI (R484, R499), unless its class is in debt or its RATE is 0: to a die with no port it completes as UNREACHABLE without injection, a
mailbox message without a record. -/
def State.inject (s : State) (h : Header) : State :=
  let n := h.src.toNat
  let u := h.unit.toNat
  let k := weirClass h
  let w := s.weir n u k
  if s.heldBySwitch h ∨ s.retryWaits h ∨ (expects h ∧ !(s.tagFree h)) ∨ !(s.unitOpen n || (h.vn.toNat == 1 && s.domLive (stopDom n))) then s
  else if h.vn.toNat ≠ 1 ∧ w.1 ∧ (s.credit n u k < 0 ∨ w.2.1 = 0) then s
  else
    let s := { s with mesh := { s.mesh with waiting := s.mesh.waiting.erase h } }
    match s.destOf h with
    | none =>
      let s := s.noteErr h s.recId
      let s := s.recordX uMSH (n + 64 * min u 3) h.cid.toNat (some h.qid.toNat)
        ⟨0x31, h.op.toNat * 2 ^ 16, 0, 0, h.addr.toNat⟩
      s.meshFailed h 0x31
    | some d =>
      let s := if h.vn.toNat ≠ 1 ∧ w.1 then s.setCredit n u k (s.credit n u k - (((1 + h.len.toNat) * 4096 : Nat) : Int)) else s
      s.injectAt h d

/-- A NI injects the oldest packet that waits in a class of an initiator, behind which `offer` first queues (R484). -/
def execPacketInject (offer : Option Header) (stop : BitVec 6) (unit vn : BitVec 2) (prompt : Bool) (s : State) : Out :=
  whenLive 5 s fun s =>
  let s := match offer with
    | some h => s.enqueue h
    | none => s
  .next <| match s.mesh.waiting.find? fun (h : Header) =>
      h.src == stop && h.unit == unit && h.vn == vn && h.prompt == prompt with
    | none => s
    | some h => s.inject h

/-! ## Routers (R472, R476, R487, R488, R491) -/

/-- The output at which a packet waits: 0 north, 1 east, 2 south, 3 west, 4 local (R472). -/
def Flit.out (f : Flit) : Nat := if f.h.hops = 0 then 4 else f.h.route.toNat % 4

/-- Its virtual channel (R477): the network, on BULK or PROMPT. -/
def Flit.channel (f : Flit) : Nat := 2 * f.h.vn.toNat + b2n f.h.prompt

/-- Place of a network in the order RSP, EVT, REQ (R476). -/
def vnPlace (vn : Nat) : Nat := match vn with
  | 1 => 0
  | 2 => 1
  | _ => 2

/-- Place of a packet in the order of grants of R476: BULK that has waited 16 cycles, then PROMPT, then BULK. -/
def Flit.rank (f : Flit) : Nat :=
  (if f.h.prompt then 3 else if 16 ≤ f.waited then 0 else 6) + vnPlace f.h.vn.toNat

/-- The packets that wait at output `out` of router `n` at the front of their buffers, by place in the list: one of an
input port and virtual channel only when no other arrived there before it (R477, R478). -/
def State.atOutput (s : State) (n out : Nat) : List (Nat × Flit) :=
  (s.mesh.flying.zipIdx.filter fun e => e.1.stop == n && e.1.out == out &&
    (s.mesh.flying.take e.2).all fun (g : Flit) => g.stop != n || g.port != e.1.port || g.channel != e.1.channel).map
      fun e => (e.2, e.1)

/-- Key of a router output's turn on a virtual channel. -/
def turnKey (n out ch : Nat) : Nat := 64 * n + 8 * out + ch

/-- Ports between the one last granted on the packet's channel and its own: round robin (R476). -/
def State.turnOf (s : State) (f : Flit) : Nat :=
  (f.port + 4 - Tab.get 4 s.mesh.turn (turnKey f.stop f.out f.channel)) % 5

/-- The packet that output `out` of router `n` grants (R476), with its place in the list. -/
def State.grant (s : State) (n out : Nat) : Option (Nat × Flit) :=
  (s.atOutput n out).foldl (fun b e => match b with
    | none => some e
    | some x => if (e.2.rank < x.2.rank) ∨ (e.2.rank = x.2.rank ∧ (s.turnOf e.2 < s.turnOf x.2)) then some e else b) none

/-- The packets at the front of an output's buffers wait `c` cycles more, each of them a stall cycle of the output where
any waits (R476, R491). -/
def State.waitAt (s : State) (n out c : Nat) : State :=
  let l := (s.atOutput n out).map (·.1)
  if l.isEmpty ∨ c = 0 then s
  else
    let older := fun (e : Flit × Nat) => if l.contains e.2 then { e.1 with waited := e.1.waited + c } else e.1
    ({ s with mesh := { s.mesh with flying := s.mesh.flying.zipIdx.map older } }).sat (Reg.MSH_PROBE_STALLS n out) c

/-- An output grants the packet at place `k`, which leaves for `1 + LEN` cycles, while the others wait (R465, R475, R476).
Whole packets take turns; that flits of several channels interleave is left out (log entry 109). -/
def State.landed (s : State) (k : Nat) (f : Flit) : State :=
  let s := { s with mesh := { s.mesh with
    flying := s.mesh.flying.eraseIdx k, turn := s.mesh.turn.set (turnKey f.stop f.out f.channel) f.port } }
  (s.waitAt f.stop f.out (1 + f.h.len.toNat)).wrap (Reg.MSH_PROBE_FLITS f.stop f.out) (1 + f.h.len.toNat)

/-- A packet ejects at a stop (R487): to its unit, or, where that is not OPEN, answered UNREACHABLE or dropped.  The
router's answer takes the default route. -/
def State.eject (s : State) (n : Nat) (h : Header) : State :=
  if s.unitOpen n then
    let at_ := if isMpStop n ∧ expects h then
        s.mesh.mpAt.set (256 * h.src.toNat + 64 * h.unit.toNat + h.tag.toNat) (s.time (copyNi n))
      else s.mesh.mpAt
    { s with mesh := { s.mesh with arrived := s.mesh.arrived ++ [h], mpAt := at_ } }
  else if h.vn.toNat = 1 then s.sat Reg.MSH_COUNTS_UNREACHABLE 1
  else
    let s := if expects h then s.noteErr h s.recId else s
    let s := s.faultC 0x31 uMSH n (n + h.src.toNat * 2 ^ 8 + h.unit.toNat * 2 ^ 14 + h.op.toNat * 2 ^ 16)
      (some h.cid.toNat) (some h.qid.toNat) none
    if expects h then
      let r := defaultRoute n h.src.toNat
      let a := { respond h stUnreachable 0 0 with
        src := BitVec.ofNat 6 n, route := BitVec.ofNat 32 r.2, hops := BitVec.ofNat 5 r.1 }
      { s with mesh := { s.mesh with flying := s.mesh.flying ++ [⟨n, 4, 0, a⟩] } }
    else s

/-- The filter of a router matches a header (R491, R501). -/
def State.probeMatch (s : State) (n : Nat) (h : Header) : Bool :=
  let vn := s.get (Reg.MSH_PROBE_FILT_VN n)
  let ch := s.get (Reg.MSH_PROBE_FILT_CH n)
  s.on (Reg.MSH_PROBE_FILT_EN n) && (vn == 3 || vn == h.vn.toNat) && (decide (2 ≤ ch) || ch == b2n h.prompt) &&
    (!(s.on (Reg.MSH_PROBE_FILT_USE_CID n)) || s.get (Reg.MSH_PROBE_FILT_CID n) == h.cid.toNat) &&
    (!(s.on (Reg.MSH_PROBE_FILT_USE_SRC n)) ||
      (s.get (Reg.MSH_PROBE_FILT_SRC n) == h.src.toNat && s.get (Reg.MSH_PROBE_FILT_UNIT n) == h.unit.toNat))

/-- Detail of a flit's ECC record (R674): input port; the number of the virtual channel is left open (log entry 3). -/
def State.flitDetail (s : State) (port : Nat) : Nat := s.eccDetail (port * 2 ^ 8 + s.freeVal 5 * 2 ^ 11) 3 false

/-- Input port of the next router for a packet that leaves by an output (R472). -/
def facing (out : Nat) : Nat := (out + 2) % 4

/-- The packet goes on, poisoned where a data flit is uncorrectable. -/
def State.passFlit (s : State) (f : Flit) (body : EccEnd) : State :=
  let n := f.stop
  let h := f.h
  let s := if s.probeMatch n h then s.wrap (Reg.MSH_PROBE_MATCH_COUNT n) 1 else s
  let bad := body == .uncorrectable && h.len != 0
  let s := match body with
    | .clean => s
    | .corrected => (s.fault 0x81 uMSH n (s.flitDetail f.port)).tookFree
    | .uncorrectable => if h.len = 0 then s else
        ((s.noteErr h s.recId).fault 0x80 uMSH n (s.flitDetail f.port)).tookFree
  let h := { h with poison := h.poison || bad }
  if h.hops = 0 then s.eject n h
  else match hopTo n f.out with
    | none => s
    | some m => { s with mesh := { s.mesh with
        flying := s.mesh.flying ++ [⟨m, facing f.out, 0, { h with route := h.route >>> 2, hops := h.hops - 1 }⟩] } }

/-- Output `out` of router `n` has waited `stalls` cycles for credits from the next buffer and grants a packet (R472, R476,
R488, R491): `head` and `body` are what the ECC finds in its header and in its data flits. -/
def State.route (s : State) (n out : Nat) (head body : EccEnd) (stalls : Nat) : State :=
  let s := s.waitAt n out stalls
  match s.grant n out with
  | none => s
  | some (k, f) =>
    let s := s.landed k f
    match head with
    | .uncorrectable => (s.sat Reg.MSH_COUNTS_ROUTE_ERR 1).fault 0x34 uMSH n (n + f.port * 2 ^ 8)
    | .corrected => ((s.fault 0x81 uMSH n (s.flitDetail f.port)).tookFree).passFlit f body
    | .clean => s.passFlit f body

/-- A router takes the header of the packet that an output grants (R472, R476). -/
def execRouterHeader (stop : BitVec 6) (out : BitVec 3) (head body : EccEnd) (stalls : BitVec 32) (s : State) : Out :=
  whenLive 5 s fun s => .next (s.route stop.toNat out.toNat head body stalls.toNat)

/-- A router's local output grants a packet whose hops are done, which ejects (R472, R487). -/
def execPacketEject (stop : BitVec 6) (s : State) : Out :=
  whenLive 5 s fun s => .next (s.route stop.toNat 4 .clean .clean 0)

/-! ## Responses and timeouts (R489, R490) -/

/-- The outstanding request that a response answers. -/
def State.outOf (s : State) (h : Header) : Option OutReq :=
  s.mesh.out.find? fun (o : OutReq) => o.h.src == h.dst && o.h.unit == h.unit && o.h.tag == h.tag

/-- The answer that a tile's blocked instruction waits for (R343, R344, R341): the store's result, a message, or the old
word of another die's memory. -/
def State.callAnswered (s : State) (req rsp : Header) : State :=
  let t := unitTile req.src.toNat req.unit.toNat
  let r := rsp.operand.toNat
  match (s.tile t).call with
  | some (.send die m sreg msg nb _) =>
    if req.op.toNat = opMailbox then s.sendAnswer t sreg nb die m msg (r % 16) else s
  | some (.recv _ sreg lines addr) =>
    if req.op.toNat ≠ opLRecv then s
    else
      let s := { s with mail := { s.mail with recvs := s.mail.recvs.filter fun e => e.1 != t } }
      if r % 16 ≠ 0 then s.endCall t sreg (r % 16)
      else
        let got := (List.range rsp.len.toNat).map fun k => rsp.data.toNat / 2 ^ (512 * k) % 2 ^ 512
        let spare := if bitAt r 4 then List.replicate (lines + 1 - got.length) 0 else []
        s.giveMsg t sreg lines addr ⟨bits r 13 5, got ++ spare⟩
  | some (.atom _ sreg w64) =>
    if req.op.toNat ≠ opAtomic then s
    else ((s.updTile t fun x => { x.takeOld sreg w64 (rsp.data.toNat % 2 ^ 64) with call := none }).complete t false)
  | none => s

/-- A response reaches its initiator's NI (R489, R490, R492, R519).  At a ZL stop it returns to the source die (R518). -/
def execMeshResponse (h : Header) (s : State) : Out := whenLive 5 s fun s =>
  let s := s.takeArrived h
  .next <| match s.outOf h with
    | none => s.sat Reg.MSH_COUNTS_LATE 1
    | some o =>
      let n := h.dst.toNat
      let u := h.unit.toNat
      let s := { s with mesh := { s.mesh with out := s.mesh.out.erase o } }
      let s := (s.wrap (Reg.MSH_INIT_IN_BYTES_IN n u) (64 * h.len.toNat)).moveBytes n u (64 * h.len.toNat)
      let st := if h.poison then stPoison else h.status.toNat
      let s := if st = stOk then s else s.sat (Reg.MSH_INIT_ERR_ERRORS n u) 1
      let s := s.sample 2 (s.cyclesSince n o.since) 63 (ofInit n u)
      if n < 6 then s.returnAnswer n o.h h
      else if st = stUnreachable then
        if bitAt h.operand.toNat 8 then s.linkFaulted o.h (h.operand.toNat % 256) else s.meshFailed o.h 0x31
      else if st = stMisdirected then s.meshFailed o.h 0x32
      else if st = stPoison then s.meshFailed o.h 0x80
      else
        let s := { s with mesh := { s.mesh with retried := s.mesh.retried.filter (·.1 != o.h) } }
        if st = stOk ∧ isClStop n then s.callAnswered o.h h else s

/-- A request goes unanswered for MSH_REQ_TIMEOUT (R489). -/
def execReqTimeout (stop : BitVec 6) (unit : BitVec 2) (tag : BitVec 6) (s : State) : Out := whenLive 5 s fun s =>
  .next <| match s.mesh.out.find? fun (o : OutReq) => o.h.src == stop && o.h.unit == unit && o.h.tag == tag with
    | none => s
    | some o =>
      if s.time (copyNi stop.toNat) < o.since + atLeast1 (s.get Reg.MSH_REQ_TIMEOUT_TICKS) then s
      else
        let n := stop.toNat
        let u := unit.toNat
        let s := { s with mesh := { s.mesh with
          out := s.mesh.out.erase o, freed := s.mesh.freed ++ [(n, u, tag.toNat, s.time (copyNi n))] } }
        let s := ((s.sat Reg.MSH_COUNTS_TIMEOUTS 1).sat (Reg.MSH_INIT_ERR_TIMEOUTS n u) 1).noteErr o.h s.recId
        let s := s.faultC 0x35 uMSH (n + 64 * u)
          (o.h.dst.toNat + u * 2 ^ 6 + tag.toNat * 2 ^ 8 + o.h.op.toNat * 2 ^ 14)
          (some o.h.cid.toNat) (some o.h.qid.toNat) none
        s.meshFailed o.h 0x35

/-! ## Epoch switches (R480-R482, R701-R713) -/

/-- Both ends of a basin half, as a bank maps them, agree (R707). -/
def State.halfOk (s : State) (e h : Nat) : Bool :=
  let a := s.bsMap e (2 * h)
  let b := s.bsMap e (2 * h + 1)
  (a == 0x3F && b == 0x3F) || (a == bsStop (2 * h) && b == bsStop (2 * h + 1))

/-- A unit counts as out of service at step 1 of a switch (R708): in stoppage, and not being reopened. -/
def State.outOfService (s : State) (kind index : Nat) : Bool :=
  s.inStoppage kind index && !(match s.stop with
    | some x => x.reopen && x.kind == kind && x.index == index && decide (4 ≤ s.get Reg.PWR_STOP_STATUS_STEP)
    | none => false)

/-- A bank's stop map names only stops of the right kind and units in service (R498, R707, R708). -/
def State.mapOk (s : State) (e : Nat) : Bool :=
  ((List.range 4).all fun l => (List.range 4).any fun k => s.mpMap e l == mpStop k && !(s.outOfService 3 k)) &&
    ((List.range 2).all fun h => s.halfOk e h && (s.bsMap e (2 * h) == 0x3F || !(s.outOfService 2 h))) &&
    ((List.range 512).all fun d => !(decide (s.dieMap e d < 6)) || !(s.outOfService 4 (s.dieMap e d)))

/-- The first invalid route entry of a bank: NI stop and destination (R473, R481). -/
def State.badRoute (s : State) (e : Nat) : Option (Nat × Nat) :=
  (List.range 36).findSome? fun n => ((List.range 36).find? fun d => !(entryOk n d (s.rt n e d))).map fun d => (n, d)

/-- SWITCH is written in MSH_EPOCH (R481): every NI checks the other bank, and REQ and EVT injection is held; the
switch was taken up, or refused with INVALID and fault 0x30.  A bad map's record names no NI or entry, so those fields
are free (log entry 3). -/
def State.startSwitch (s : State) : State × Bool :=
  let e := 1 - s.get Reg.MSH_EPOCH_CURRENT
  let bad : Option Nat := match s.badRoute e with
    | some (n, d) => some (n + d * 2 ^ 8)
    | none => if s.mapOk e then none else some (s.freeVal 6 + s.freeVal 12 / 64 * 2 ^ 8)
  match bad with
  | some d =>
    let s := (s.put Reg.MSH_EPOCH_INVALID 1).sat Reg.MSH_COUNTS_ROUTE_ERR 1
    ((s.fault 0x30 uMSH srcNone (d + e * 2 ^ 16)).tookFree, false)
  | none =>
    let s := (s.put Reg.MSH_EPOCH_SWITCH 1).put Reg.MSH_EPOCH_STATE 1
    ({ s with mesh := { s.mesh with holdSince := some (s.time copySpine) } }, true)

/-- The switch ends; every injection resumes, that of the writes that the host port holds among them (R204). -/
def State.endSwitch (s : State) : State :=
  let s := (s.put Reg.MSH_EPOCH_SWITCH 0).put Reg.MSH_EPOCH_STATE 0
  ({ s with mesh := { s.mesh with holdSince := none } }).takeWrites

/-- A write to MSH_EPOCH (R481, R494, R700). -/
def State.writeEpoch (s : State) (v : Nat) : State :=
  let s := if bitAt v 8 then s.put Reg.MSH_EPOCH_INVALID 0 else s
  let s := if bitAt v 7 then s.put Reg.MSH_EPOCH_ABANDONED 0 else s
  if !(bitAt v 1) ∨ s.on Reg.MSH_EPOCH_SWITCH ∨ s.on Reg.PWR_STOP_STATUS_BUSY then s
  else s.startSwitch.1

def execSwitch (value : BitVec 32) (s : State) : Out := whenLive 5 s fun s => .next (s.writeEpoch value.toNat)

/-- No REQ or EVT flit of the old epoch remains (R481 step 3). -/
def execEpochReqDrained (s : State) : Out := whenLive 5 s fun s =>
  .next <| if s.get Reg.MSH_EPOCH_STATE = 1 ∧ s.mesh.flying.all (fun (f : Flit) => f.h.vn.toNat == 1) then
    s.put Reg.MSH_EPOCH_STATE 2 else s

/-- A link port is disabled: its replay buffer and session go, and it reads DISABLED (R507, R705). -/
def State.disablePort (s : State) (n : Nat) : State :=
  let s := s.resetRegs fun o => o == Reg.LNK_PORT_STATUS n || o == Reg.LNK_PEER n
  let s := (s.put (Reg.LNK_PORT_CTRL_EN n) 0).put (Reg.LNK_PORT_CTRL_RETRAIN n) 0
  { s with link := { s.link with ports := s.link.ports.drop (· == n) } }

/-- What a STOP's link port still has to do (R705): with no outstanding request left to answer it sends on, and with nothing
left unacknowledged it goes into stoppage. -/
def State.portStopped (s : State) : State :=
  match s.stop with
  | none => s
  | some x =>
    if x.kind = 4 ∧ !x.reopen ∧ s.get Reg.MSH_EPOCH_STATE = 0 ∧ s.get Reg.PWR_STOP_STATUS_STEP = 6 ∧
        !(s.link.out.any fun (r : LinkReq) => r.h.hold.toNat == x.index) then
      let s := if x.drained then s
        else { s with stop := some { x with drained := true, since := s.time (copyLink x.index) } }
      if (s.port x.index).replay.isEmpty then ((s.disablePort x.index).enterStop 4 x.index false).endStop 0 else s
    else s

/-- After the flip (R702 steps 3 and 4, R709 step 5): the unit of a STOP closes, a link port once it has finished; the
unit of a REOPEN enters service. -/
def State.afterFlip (s : State) : State :=
  match s.stop with
  | none => s
  | some x =>
    if x.reopen then
      let s := if x.kind = 2 then
          (s.setDom (6 + x.index) { s.dom (6 + x.index) with ready := false, attempt := 0 }).setSt (6 + x.index) .opened
        else s
      if x.kind = 2 ∨ x.kind = 3 ∨ x.kind = 4 then (s.leaveStop x.kind x.index).endStop 0 else s
    else if x.kind = 2 then s.stopped x (6 + x.index)
    else if x.kind = 3 then (s.enterStop 3 x.index false).endStop 0
    else if x.kind = 4 then
      ({ s with stop := some { x with since := s.time (copyLink x.index) } }.put Reg.PWR_STOP_STATUS_STEP 6).portStopped
    else s

/-- The switch of a STOP or REOPEN was refused or abandoned (R702, R713): ROUTE_FAILED; a unit being reopened closes
again with the cause it had before. -/
def State.switchFailed (s : State) : State :=
  match s.stop with
  | none => s
  | some x =>
    if x.kind ≠ 2 ∧ x.kind ≠ 3 ∧ x.kind ≠ 4 then s
    else if !x.reopen then s.endStop 9
    else
      let s := if x.kind = 2 then s.switchOff false (6 + x.index) .stoppage
        else if x.kind = 4 then s.disablePort x.index else s
      (s.enterStop x.kind x.index x.failed).endStop 9

/-- No RSP flit of the old epoch remains (R481 step 5): CURRENT flips. -/
def execEpochFlip (s : State) : Out := whenLive 5 s fun s =>
  .next <| if s.get Reg.MSH_EPOCH_STATE = 2 ∧ s.mesh.flying.isEmpty then
    let e := 1 - s.get Reg.MSH_EPOCH_CURRENT
    (((s.put Reg.MSH_EPOCH_CURRENT e).endSwitch).trace 8 uMSH none e (s.time copySpine)).afterFlip
  else s

/-- MSH_EPOCH_LIMIT passes before the flip (R482). -/
def execEpochAbandon (s : State) : Out := whenLive 5 s fun s =>
  .next <| match s.mesh.holdSince with
    | none => s
    | some t =>
      if s.time copySpine < t + atLeast1 (s.get Reg.MSH_EPOCH_LIMIT_TICKS) ∨ s.get Reg.MSH_EPOCH_STATE = 0 then s
      else
        let s := (s.put Reg.MSH_EPOCH_ABANDONED 1).fault 0x33 uMSH srcNone (s.get Reg.MSH_EPOCH_STATE)
        ((s.endSwitch).trace 8 uMSH none (s.get Reg.MSH_EPOCH_CURRENT + 2) (s.time copySpine)).switchFailed

/-- The counts of router `n`: FLITS and STALLS of each output, and the filter's matches (R491). -/
def State.probeCounts (s : State) (n : Nat) : List Nat :=
  ((List.range 5).flatMap fun q => [s.get (Reg.MSH_PROBE_FLITS n q), s.get (Reg.MSH_PROBE_STALLS n q)]) ++
    [s.get (Reg.MSH_PROBE_MATCH_COUNT n)]

/-- Every MSH_SAMPLE_PERIOD ticks, counted from the opening of PD5, every router sends a sample report of its counts
(R491, R495). -/
def execProbeSample (s : State) : Out := whenLive 5 s fun s =>
  .next <|
    let now := s.time copySpine
    if now < max s.mesh.probeAt (s.dom 5).since + atLeast1 (s.get Reg.MSH_SAMPLE_PERIOD_TICKS) then s
    else (List.range 36).foldl (fun s n => s.send (.sampleProbe n (s.probeCounts n)))
      { s with mesh := { s.mesh with probeAt := now } }

end Sys2Proof.Machine
end

