-- ==== Sys2Proof/Machine/Link.lean ====
section
/-! DEFINITION. The Zhevuno Link (R505-R541): training, frames and replay, routing between dies, remote operations,
reduction, time across dies and sessions. -/

namespace Sys2Proof.Machine

/-! ## Training and retraining (R507-R509, R535) -/

/-- Groups of lanes by width, the lowest-numbered first (R507), with the code of the width (R538). -/
def laneGroups : List (Nat × Nat) :=
  [(0xFF, 3), (0x0F, 2), (0xF0, 2), (0x03, 1), (0x0C, 1), (0x30, 1), (0xC0, 1)]

/-- The widest group of good lanes, and its width. -/
def widest (good : Nat) : Option (Nat × Nat) := laneGroups.find? fun g => g.1 &&& good == g.1

/-- Lanes in logical order: a reversed port's lane `i` is logical lane `7 - i` (R507). -/
def logical (reversed : Bool) (m : Nat) : Nat :=
  if reversed then (List.range 8).foldl (fun a i => if bitAt m i then a + 2 ^ (7 - i) else a) 0 else m

/-- Least width code that MIN_WIDTH admits (R537). -/
def State.minWidth (s : State) (n : Nat) : Nat := min 3 (s.get (Reg.LNK_PORT_CTRL_MIN_WIDTH n) + 1)

/-- The reopening of link port `n` under way. -/
def State.portReopening (s : State) (n : Nat) : Bool := match s.stop with
  | some x => x.reopen && x.kind == 4 && x.index == n
  | none => false

/-- Training begins at DETECT, with the port's lanes and session forgotten. -/
def State.train (s : State) (n : Nat) : State :=
  let p := s.port n
  let s := s.setPort n { p with lanes := 0, inverted := 0, reversed := false, excluded := 0, keyed := false }
  s.setPortState n pDetect

/-- The follower holds its last rate (R531): HOLDOVER and fault 0x4C. -/
def State.holdover (s : State) : State :=
  let n := s.get Reg.LNK_TIME_CTRL_UPSTREAM
  if s.get Reg.LNK_TIME_CTRL_ROLE ≠ 2 ∨ s.get Reg.LNK_TIME_CTRL_STATE = 3 then s
  else
    let s := { s with link := { s.link with goodSync := 0 } }
    (s.put Reg.LNK_TIME_CTRL_STATE 3).linkFault 0x4C n 0

/-- Packets that wait whole at a port. -/
def Port.waiting (p : Port) : List Header :=
  (List.range 6).flatMap fun vc => (Tab.get [] p.tx vc).filterMap fun x => match x with
    | .head _ h => some h
    | .flit _ => none

/-- The port goes to DOWN (R535): its replay buffer, session and keys go, the packets that wait for it are rerouted, and
a follower's upstream enters HOLDOVER. -/
def State.portDown (s : State) (n : Nat) : State :=
  let p := s.port n
  let s := s.setPort n { Port.reset with attempts := p.attempts, failStep := p.failStep }
  let s := ((s.put (Reg.LNK_PORT_STATUS_WIDTH n) 0).put (Reg.LNK_PORT_STATUS_LANE_OK n) 0).put
    (Reg.LNK_PORT_STATUS_SECURE n) 0
  let s := (s.put (Reg.LNK_PORT_CTRL_RETRAIN n) 0).setPortState n pDown
  let s := p.waiting.foldl (fun s h =>
    s.forward n none (if h.srcDie.toNat = s.ownDie then h else { h with ttl := h.ttl + 1 })) s
  if s.get Reg.LNK_TIME_CTRL_UPSTREAM = n then s.holdover else s

/-- The peer is lost (R535): fault 0x43 with the peer die last seen. -/
def State.peerLost (s : State) (n : Nat) : State :=
  (s.linkFault 0x43 n (s.get (Reg.LNK_PEER_PEER_DIE n) * 2 ^ 16)).portDown n

/-- A reopening port fails its third attempt (R711): stoppage by failure. -/
def State.portFailed (s : State) (n : Nat) : State :=
  let s := s.seqFault 0x50 (9 + 3 * 2 ^ 8 + 2 * 2 ^ 16 + n * 2 ^ 24 + 4 * 2 ^ 28)
  ((s.disablePort n).enterStop 4 n true).endStop 0x0A

/-- An attempt fails at a step (R507): wait for the next, or after the third fault 0x40 and DOWN. -/
def State.trainFail (s : State) (n step : Nat) : State :=
  let p := s.port n
  let s := s.setPort n { p with attempts := p.attempts + 1, failStep := step }
  if p.attempts < 2 then s.setPortState n pRetryWait
  else
    let s := if p.attempts = 2 then s.linkFault 0x40 n (step * 2 ^ 4 + p.lanes * 2 ^ 8) else s
    let s := s.portDown n
    if s.portReopening n then s.portFailed n else s

/-- The port takes up a group of lanes: WIDTH and LANE_OK. -/
def State.useLanes (s : State) (n : Nat) (g : Nat × Nat) : State :=
  (s.put (Reg.LNK_PORT_STATUS_LANE_OK n) g.1).put (Reg.LNK_PORT_STATUS_WIDTH n) g.2

/-- Fault 0x41 where the width is below ×8 (R508, R536). -/
def State.narrow (s : State) (n : Nat) : State :=
  let w := s.get (Reg.LNK_PORT_STATUS_WIDTH n)
  if w = 3 then s
  else s.linkFault 0x41 n (w * 2 ^ 8 + (255 - s.get (Reg.LNK_PORT_STATUS_LANE_OK n)) * 2 ^ 16)

/-- Step 4 of a port's reopening (R709): power control writes SWITCH. -/
def State.routeStep (s : State) : State :=
  let (s, ok) := (s.put Reg.PWR_STOP_STATUS_STEP 4).startSwitch
  if ok then s else s.switchFailed

/-- Training ends and the port is ACTIVE (R507, R508): faults 0x42 and 0x41. -/
def State.trained (s : State) (n : Nat) (secure : Bool) : State :=
  let p := s.port n
  let s := (s.setPort n { p with attempts := 0 }).setPortState n pActive
  let s := ((s.put (Reg.LNK_PORT_STATUS_INV n) p.inverted).put (Reg.LNK_PORT_STATUS_REVERSED n) (b2n p.reversed)).put
    (Reg.LNK_PORT_STATUS_SECURE n) (b2n secure)
  let s := if p.inverted ≠ 0 ∨ p.reversed then
      s.linkFault 0x42 n (p.inverted * 2 ^ 8 + b2n p.reversed * 2 ^ 16) else s
  let s := s.narrow n
  if s.portReopening n then s.routeStep else s

/-- IDENT (R507): CHECK_PEER, then SECURE where either side requires encryption. -/
def State.identified (s : State) (n die port : Nat) (enc : Bool) : State :=
  if s.on (Reg.LNK_PORT_CTRL_CHECK_PEER n) ∧
      (die ≠ s.get (Reg.LNK_EXPECT_DIE n) ∨ port ≠ s.get (Reg.LNK_EXPECT_PORT n)) then
    (s.linkFault 0x4D n (die * 2 ^ 16)).trainFail n pIdent
  else
    let s := ((s.put (Reg.LNK_PEER_VALID n) 1).put (Reg.LNK_PEER_PEER_DIE n) die).put (Reg.LNK_PEER_PEER_PORT n) port
    let s := s.setPort n { s.port n with peerEnc := enc }
    if enc ∨ s.on Reg.LNK_ADMIT_REQUIRE_ENC then s.setPortState n pSecure else s.trained n false

/-- Limit of a training step (R507), and of a retrain (R509). -/
def stepLimit (st : Nat) : Nat := match st with
  | 1 => 10000
  | 2 => 20000
  | 3 => 2000
  | 4 => 1000
  | 5 => 1000
  | 6 => 1000
  | 7 => 500000
  | _ => 20000

/-- A training step completes within its limit with what it finds (R507). -/
def execTrainingStep (port : BitVec 3) (fin : TrainEnd) (s : State) : Out := whenLink s fun s =>
  let n := port.toNat
  let p := s.port n
  let st := s.portState n
  .next <| if stepLimit st < s.portAge n then s
  else match fin with
    | .detect lanes => if st = pDetect then (s.setPort n { p with lanes := lanes.toNat }).setPortState n pEq else s
    | .eq => if st = pEq then s.setPortState n pAlign else s
    | .align inv rev mis =>
      if st = pAlign then
        let l := logical rev (p.lanes &&& (255 - mis.toNat))
        (s.setPort n { p with lanes := l, inverted := inv.toNat &&& p.lanes, reversed := rev }).setPortState n pWidth
      else s
    | .width good =>
      if st = pWidth then
        let l := p.lanes &&& good.toNat
        let s := s.setPort n { p with lanes := l }
        match widest l with
        | none => s.trainFail n pWidth
        | some g => if g.2 < s.minWidth n then s.trainFail n pWidth else (s.useLanes n g).setPortState n pFecLock
      else s
    | .fecLock => if st = pFecLock then s.setPortState n pIdent else s
    | .ident die peer enc => if st = pIdent then s.identified n die.toNat peer.toNat enc else s
    | .secure => if st = pSecure ∧ p.keyed then s.trained n true else s

/-- A training step exceeds its limit (R507); in SECURE the session fails as well (R536). -/
def execTrainingStepTimeout (port : BitVec 3) (s : State) : Out := whenLink s fun s =>
  let n := port.toNat
  let st := s.portState n
  .next <| if st = 0 ∨ 7 < st ∨ s.portAge n ≤ stepLimit st then s
  else (if st = pSecure then s.linkFault 0x46 n 0 else s).trainFail n st

/-- The wait of 1 ms between attempts, or of 1 s for a DOWN port, ends (R507). -/
def execTrainingRetry (port : BitVec 3) (s : State) : Out := whenLink s fun s =>
  let n := port.toNat
  .next <| if !(s.on (Reg.LNK_PORT_CTRL_EN n)) then s
  else if s.portState n = pRetryWait then (if s.portAge n < 100000 then s else s.train n)
  else if s.portState n = pDown ∧ 100000000 ≤ s.portAge n then (s.setPort n { s.port n with attempts := 3 }).train n
  else s

/-- A retrain begins (R509); the lane that caused it is excluded. -/
def State.retrain (s : State) (n mask : Nat) : State :=
  if s.portState n = pActive then
    (s.setPort n { s.port n with excluded := (s.port n).excluded ||| mask }).setPortState n pRetrain
  else s

/-- RETRAIN reads 1 from its write on (R16), although only an ACTIVE port retrains (log entry 114). -/
def execRetrain (port : BitVec 3) (cause : RetrainCause) (s : State) : Out := whenLink s fun s =>
  let n := port.toNat
  .next <| match cause with
    | .lane l => s.retrain n (2 ^ l.toNat)
    | .driver => if n < 6 then (s.put (Reg.LNK_PORT_CTRL_RETRAIN n) 1).retrain n 0 else s

/-- A retrain ends (R509): within 20,000 t the port carries on and replays, or it goes to DOWN. -/
def execRetrainEnd (port : BitVec 3) (fin : RetrainFin) (s : State) : Out := whenLink s fun s =>
  let n := port.toNat
  .next <| if s.portState n ≠ pRetrain then s
  else match fin with
    | .failed => s.peerLost n
    | .lanes good => if stepLimit pRetrain < s.portAge n then s.peerLost n else
      let p := s.port n
      let l := good.toNat &&& (255 - p.excluded)
      let dead := fun (s : State) => (s.linkFault 0x40 n (pWidth * 2 ^ 4 + l * 2 ^ 8)).portDown n
      match widest l with
      | none => dead s
      | some g =>
        if g.2 < s.minWidth n then dead s
        else
          let s := s.setPort n { p with lanes := l, again := p.replay }
          let s := if p.replay.isEmpty then s else s.sat (Reg.LNK_LL_COUNTS_REPLAYS n) 1
          ((s.useLanes n g).narrow n).put (Reg.LNK_PORT_CTRL_RETRAIN n) 0 |>.setPortState n pActive

/-- No frame arrives for LNK_PEER_TIMEOUT (R535). -/
def execPeerSilent (port : BitVec 3) (s : State) : Out := whenLink s fun s =>
  let n := port.toNat
  .next (if s.time (copyLink n) < (s.port n).heard + atLeast1 (s.get Reg.LNK_PEER_TIMEOUT_TICKS) then s else s.retrain n 0)

/-- A write to LNK_PORT_CTRL (R507, R537, R705): EN is not taken while the port is in stoppage. -/
def State.writePortCtrl (s : State) (n v : Nat) : State :=
  let s := (((s.put (Reg.LNK_PORT_CTRL_DIM n) (bits v 7 6)).put (Reg.LNK_PORT_CTRL_MIN_WIDTH n) (bits v 5 4)).put
    (Reg.LNK_PORT_CTRL_DATELINE n) (bits v 3 3)).put (Reg.LNK_PORT_CTRL_CHECK_PEER n) (bits v 2 2)
  let en := s.on (Reg.LNK_PORT_CTRL_EN n)
  let s := if s.inStoppage 4 n then s
    else if bitAt v 0 ∧ !en then ((s.put (Reg.LNK_PORT_CTRL_EN n) 1).setPort n Port.reset).train n
    else if !(bitAt v 0) ∧ en then s.disablePort n else s
  if bitAt v 1 then (s.put (Reg.LNK_PORT_CTRL_RETRAIN n) 1).retrain n 0 else s

def execLinkPortEnable (port : BitVec 3) (value : BitVec 32) (s : State) : Out := whenLink s fun s =>
  .next (if port.toNat < 6 then s.writePortCtrl port.toNat value.toNat else s)

/-- Link round-trip slots of a port clear with its reset (R686). -/
def State.portMon (s : State) (n : Nat) : State :=
  (List.range 256).foldl (fun s k =>
    if s.get (Reg.MON_SLOT_CFG_KIND k) = 5 ∧ s.get (Reg.MON_SLOT_CFG_SUBJECT k) % 8 = n then
      s.resetRegs fun o => decide (0x010B2000 + 0x60 * k ≤ o) && decide (o < 0x010B2060 + 0x60 * k)
    else s) s

/-- PWR_RESET_CMD with KIND LINK_PORT (R90, R91, R535): the peer's loss, then training from DETECT. -/
def execLinkPort (src : Source) (value : BitVec 32) (s : State) : Out :=
  let n := resetTarget value
  .next <| if !(s.srcReaches src) ∨ !(resetCmdIs value 3) ∨ !s.yard ∨ 6 ≤ n ∨ s.on Reg.PWR_RESET_STATUS_BUSY ∨
      s.flight.running then s
  else
    let s := (s.put Reg.PWR_RESET_STATUS_LAST_SOURCE (sourceCode src)).put Reg.PWR_RESET_STATUS_LAST_KIND 3
    let s := s.portMon n
    if !(s.domLive 8) ∨ s.portState n = pDisabled then s
    else ((s.peerLost n).setPort n Port.reset).train n

/-! ## Frames (R510-R512, R534) -/

/-- A virtual channel with a slot to send and credit for it. -/
def Port.canSend (p : Port) (vc : Nat) : Bool := !(Tab.get [] p.tx vc).isEmpty && decide (Tab.get 0 p.used vc < 512)

/-- The channel of the next slot (R512): one that has waited 64 frames, the longest wait first; else RSP ahead of REQ
ahead of RED.  `b` chooses between the two classes, which R512 leaves open. -/
def Port.pick (p : Port) (b : Bool) : Option Nat :=
  let old := (List.range 6).filter fun vc => p.canSend vc && decide (64 ≤ Tab.get 0 p.waits vc)
  match old with
  | v :: r => some (r.foldl (fun a vc => if Tab.get 0 p.waits a < Tab.get 0 p.waits vc then vc else a) v)
  | [] => [2, 0, 4].findSome? fun vc =>
      let order := if b then [vc + 1, vc] else [vc, vc + 1]
      order.find? p.canSend

/-- Up to `k` slots filled. -/
def Port.fill (f : Nat) : Nat → Port → Port × List Slot
  | 0, p => (p, [])
  | k + 1, p => match p.pick (bitAt f k) with
    | none => (p, [])
    | some vc => match Tab.get [] p.tx vc with
      | [] => (p, [])
      | x :: r =>
        let q := { p with
          tx := p.tx.set vc r, used := p.used.set vc (Tab.get 0 p.used vc + 1), waits := p.waits.set vc 0 }
        let (q, xs) := Port.fill f k q
        (q, x :: xs)

/-- Channels that got no slot of a frame wait one frame longer. -/
def Port.aged (p before : Port) : Port :=
  (List.range 6).foldl (fun p vc =>
    if (Tab.get [] p.tx vc).isEmpty then { p with waits := p.waits.set vc 0 }
    else if Tab.get 0 p.used vc = Tab.get 0 before.used vc then
      { p with waits := p.waits.set vc (Tab.get 0 p.waits vc + 1) }
    else p) p

/-- The SEQ that a frame acknowledges (R511): the last accepted, but none of a group that is not yet verified. -/
def Port.ackNow (p : Port) : Nat := match p.group with
  | f :: _ => (f.seq.toNat + 4095) % 4096
  | [] => (p.rxSeq + 4095) % 4096

/-- Header fields that go out with every frame (R511): ACK, ACKV, NAK and KEPOCH. -/
def Port.stampFrame (p : Port) (f : LFrame) : LFrame :=
  { f with ack := BitVec.ofNat 12 p.ackNow, ackv := p.rxAny, nak := p.nakDue, kepoch := p.kepoch }

/-- A frame leaves; a NAK that was due has been sent. -/
def Port.emit (p : Port) (f : LFrame) : Port :=
  { p with sent := p.sent ++ [p.stampFrame f], nakSent := p.nakSent || p.nakDue, nakDue := false }

/-- Slots to return in a frame (R510). -/
def Port.creditOut (p : Port) : Port × Option (BitVec 3 × BitVec 7) :=
  match (List.range 6).find? fun vc => decide (0 < Tab.get 0 p.owed vc) with
  | none => (p, none)
  | some vc =>
    let n := min 127 (Tab.get 0 p.owed vc)
    ({ p with owed := p.owed.set vc (Tab.get 0 p.owed vc - n) }, some (BitVec.ofNat 3 vc, BitVec.ofNat 7 n))

/-- A sequenced frame takes the next SEQ and stays in the replay buffer (R511). -/
def Port.sequence (p : Port) (ty : FrameTy) (slots : List Slot) : Port :=
  let (p, c) := p.creditOut
  let f : LFrame := ⟨ty, BitVec.ofNat 12 p.txSeq, 0, false, false, p.kepoch, slots, c⟩
  { p with txSeq := (p.txSeq + 1) % 4096, replay := p.replay ++ [f] }.emit f

/-- The port's next frame (R511, R534): a replayed one, a TAG that closes a group, DATA, or IDLE; the bytes of its
slots. -/
def Port.nextFrame (p : Port) (secure : Bool) (f : Nat) : Port × Nat :=
  let idle : LFrame := ⟨.idle, 0, 0, false, false, p.kepoch, [], none⟩
  match p.again with
  | x :: r => ({ p with again := r }.emit x, 0)
  | [] =>
    if 512 ≤ p.replay.length then (p.emit idle, 0)
    else
      let (q, xs) := p.fill f 4
      if secure ∧ (p.groupLen = 16 ∨ (xs.isEmpty ∧ p.groupLen ≠ 0)) then
        ({ p with groupLen := 0, groups := p.groups + 1 }.sequence .tag [], 0)
      else if xs.isEmpty then (p.emit idle, 0)
      else ({ q.aged p with groupLen := if secure then p.groupLen + 1 else 0 }.sequence .data xs, 64 * xs.length)

/-- A port sends its next frame (R510-R512, R534): a TIME, PACE or IDENT frame where `ty` says so, else the next of
the link layer. -/
def execLinkFrameSend (port : BitVec 3) (ty : FrameTy) (s : State) : Out := whenLink s fun s =>
  let n := port.toNat
  let p := s.port n
  let plain := fun (s : State) => s.setPort n (p.emit ⟨ty, 0, 0, false, false, p.kepoch, [], none⟩)
  let next := fun (s : State) =>
    let (q, b) := p.nextFrame (s.on (Reg.LNK_PORT_STATUS_SECURE n)) (s.freeVal 4)
    let q := if p.replay.isEmpty then { q with ackAt := s.time (copyLink n) } else q
    ((s.setPort n q).wrap (Reg.LNK_TX_BYTES_BYTES n) b).tookFree
  .next <| match ty with
    | .ident => if s.portState n = pIdent then plain s else s
    | .time => if s.portState n = pActive then plain s else s
    | .pace => if s.portState n = pActive then plain s else s
    | .idle => if s.portState n = pActive then next s else s
    | .data => if s.portState n = pActive then next s else s
    | .tag => if s.portState n = pActive then next s else s

/-- The sender takes an acknowledgement (R511). -/
def Port.takeAck (p : Port) (f : LFrame) : Port :=
  let a := f.ack.toNat
  if f.ackv && newer a p.acked 12 then
    let later := fun (x : LFrame) => newer x.seq.toNat a 12
    { p with acked := a, replay := p.replay.filter later, again := p.again.filter later, stalls := 0 }
  else p

/-- Every unacknowledged frame is to be sent again (R511); the eighth replay without progress records 0x44 and
retrains. -/
def State.replayAll (s : State) (n : Nat) : State :=
  let p := s.port n
  if p.replay.isEmpty then s
  else
    let s := (s.setPort n { p with again := p.replay, stalls := p.stalls + 1, ackAt := s.time (copyLink n) }).sat (Reg.LNK_LL_COUNTS_REPLAYS n) 1
    if p.stalls + 1 < 8 then s
    else ((s.setPort n { s.port n with stalls := 0 }).linkFault 0x44 n (p.acked * 2 ^ 16)).retrain n 0

/-- One slot of an accepted frame: the port's partial packets, and the packets complete (R512). -/
def takeSlot (a : Port × List Header) (x : Slot) : Port × List Header := match x with
  | .head vc h =>
    if h.len = 0 then (a.1, a.2 ++ [h])
    else ({ a.1 with rx := a.1.rx.set vc.toNat (some (h, h.len.toNat)) }, a.2)
  | .flit vc => match Tab.get none a.1.rx vc.toNat with
    | none => a
    | some (h, k) =>
      if k ≤ 1 then ({ a.1 with rx := a.1.rx.set vc.toNat none }, a.2 ++ [h])
      else ({ a.1 with rx := a.1.rx.set vc.toNat (some (h, k - 1)) }, a.2)

/-- The packets of verified frames reach the stop. -/
def State.deliverFrames (s : State) (n : Nat) (fs : List LFrame) : State :=
  let (p, hs) := (fs.flatMap (·.slots)).foldl takeSlot (s.port n, [])
  let s := s.setPort n p
  { s with link := { s.link with arrived := s.link.arrived ++ hs.map fun h => (n, h) } }

/-- A NAK is due unless one was sent since the last accepted frame (R511). -/
def Port.wantNak (p : Port) : Port := if p.nakSent then p else { p with nakDue := true }

/-- A group's tag fails (R534): the group is discarded and its first frame NAKed; the third failure ends the session. -/
def State.tagFailed (s : State) (n : Nat) : State :=
  let p := s.port n
  let first := match p.group with
    | f :: _ => f.seq.toNat
    | [] => p.rxSeq
  let s := s.setPort n { p with group := [], rxSeq := first, tagFails := p.tagFails + 1, nakDue := true }
  if p.tagFails < 2 then s else (s.linkFault 0x46 n 256).portDown n

/-- A sequenced frame whose CRC is good and whose SEQ is the next expected (R511, R534). -/
def State.acceptFrame (s : State) (n : Nat) (f : LFrame) (tagBad : Bool) : State :=
  let p := s.port n
  let used := match f.credit with
    | some (vc, k) => p.used.set vc.toNat (Tab.get 0 p.used vc.toNat - k.toNat)
    | none => p.used
  let p := { p with rxSeq := (p.rxSeq + 1) % 4096, rxAny := true, nakSent := false, used := used }
  let s := (s.setPort n p).wrap (Reg.LNK_RX_BYTES_BYTES n) (64 * f.slots.length)
  if !(s.on (Reg.LNK_PORT_STATUS_SECURE n)) then s.deliverFrames n [f]
  else if f.ty = .tag then
    if tagBad then (s.setPort n { p with group := p.group ++ [f] }).tagFailed n
    else (s.setPort n { p with group := [], tagFails := 0 }).deliverFrames n p.group
  else s.setPort n { p with group := p.group ++ [f] }

/-- A port receives a frame (R511, R534): `corrected` symbols were corrected in the codewords that end with it, and
`uncorr` says that one of them could not be (R539). -/
def execLinkFrameReceive (port : BitVec 3) (frame : LFrame) (check : FrameCheck) (corrected : BitVec 16) (uncorr : Bool)
    (s : State) : Out := whenLink s fun s =>
  let n := port.toNat
  let s := if s.portState n ≠ pActive then s
    else (s.wrap (Reg.LNK_FEC_COUNTS_CORRECTED n) corrected.toNat).sat (Reg.LNK_FEC_COUNTS_UNCORR n) (b2n uncorr)
  let now := s.time (copyLink n)
  let s := s.setPort n { s.port n with heard := now }
  let bad := fun (s : State) => s.setPort n (s.port n).wantNak
  .next <| if s.portState n ≠ pActive then s
  else if check = .crcBad then (bad s).sat (Reg.LNK_LL_COUNTS_CRC_ERR n) 1
  else
    let p := (s.port n).takeAck frame
    let s := s.setPort n (if p.acked = (s.port n).acked then p else { p with ackAt := now })
    let s := if frame.nak then s.replayAll n else s
    if frame.ty ≠ .data ∧ frame.ty ≠ .tag then s
    else
      let want := (s.port n).rxSeq
      if frame.seq.toNat = want then s.acceptFrame n frame (check == .tagBad)
      else if newer frame.seq.toNat ((want + 4095) % 4096) 12 then bad s
      else s.sat (Reg.LNK_LL_COUNTS_DUP_FRAMES n) 1

/-- No ACK progress for LNK_ACK_TIMEOUT (R511). -/
def execAckTimeout (port : BitVec 3) (s : State) : Out := whenLink s fun s =>
  let n := port.toNat
  .next (if s.portState n ≠ pActive ∨ s.time (copyLink n) < (s.port n).ackAt + atLeast1 (s.get Reg.LNK_ACK_TIMEOUT_TICKS) then s
    else s.replayAll n)

/-! ## Packets at a ZL stop (R515-R520) -/

/-- A stop takes a link packet from its port, whose slots it returns (R512), or from its mesh. -/
def State.takeLink (s : State) (h : Header) : State :=
  match s.link.arrived.find? fun e => e.2 == h with
  | none => s.takeArrived h
  | some (q, _) =>
    let p := s.port q
    let vc := linkVc h
    let s := s.setPort q { p with owed := p.owed.set vc (Tab.get 0 p.owed vc + 1 + h.len.toNat) }
    { s with link := { s.link with arrived := s.link.arrived.erase (q, h) } }

/-- The port on which a packet reached this die (R513): its own stop's, or the stop's that passed it over the mesh. -/
def State.ingress (s : State) (h : Header) : Option Nat :=
  match s.link.arrived.find? fun e => e.2 == h with
  | some (q, _) => some q
  | none => if h.src.toNat < 6 ∧ h.srcDie.toNat ≠ s.ownDie then some h.src.toNat else none

/-- The lowest tag that no request of an initiator holds (R489). -/
def State.freeTag (s : State) (n u : Nat) : Nat :=
  let busy := fun (k : Nat) (o : Header) => o.src.toNat == n && o.unit.toNat == u && o.tag.toNat == k
  ((List.range 64).find? fun k => !(s.mesh.out.any fun (o : OutReq) => busy k o.h) && !(s.mesh.waiting.any (busy k))).getD 0

/-! ### Reduction (R526-R529) -/

/-- Element `i` of a reduction packet as an FP32 word. -/
def redElem (bf : Bool) (h : Header) (i : Nat) : Word :=
  if bf then BitVec.ofNat 32 (h.data.toNat / 2 ^ (16 * i) % 2 ^ 16 * 2 ^ 16)
  else BitVec.ofNat 32 (h.data.toNat / 2 ^ (32 * i))

/-- Sum of one element over the packets in order, in FP32 with round to nearest even; one rounding to BF16 (R527). -/
def redSum (bf : Bool) (hs : List Header) (i : Nat) : Nat :=
  match hs with
  | [] => 0
  | h :: r =>
    let w := r.foldl (fun (a : Word) x => toF32 ((f32 a).add (f32 (redElem bf x i)))) (redElem bf h i)
    if bf then (toElem .bf16 .near 0 true true Post.none_ (f32 w)).code else w.toNat

/-- The packets of an entry in the order of summation (R527): the die's own, then by port, then by arrival. -/
def Combine.ordered (e : Combine) : List Header :=
  e.own.toList ++ (List.range 7).flatMap fun p => (e.got.filter fun x => x.1 == p).map (·.2)

/-- Lines and data of an entry's sum. -/
def Combine.sum (e : Combine) (bf : Bool) : Nat × Nat :=
  let hs := e.ordered
  let lines := hs.foldl (fun n (h : Header) => max n h.len.toNat) 0
  let w := if bf then 16 else 32
  (lines, (List.range (512 * lines / w)).foldr (fun i a => redSum bf hs i + 2 ^ w * a) 0)

/-- The packet that an entry sends on. -/
def Combine.packet (e : Combine) (bf : Bool) : Header :=
  let r := e.sum bf
  { (e.ordered.head?).getD blankHeader with
    len := BitVec.ofNat 4 r.1, count := BitVec.ofNat 4 r.1, contrib := BitVec.ofNat 16 e.contrib, data := BitVec.ofNat 4096 r.2 }

/-- An entry leaves the combine table. -/
def State.dropCombine (s : State) (e : Combine) : State :=
  { s with link := { s.link with combine := s.link.combine.erase e } }

/-- Fault 0x4A of a group and offset (R536). -/
def State.redFault (s : State) (n g off : Nat) : State := s.linkFault 0x4A n (g * 2 ^ 8 + off * 2 ^ 16)

/-- The group's sums are of BF16 (R540). -/
def State.redBf (s : State) (g : Nat) : Bool := s.on (Reg.LNK_RED_CFG_FORMAT g)

/-- The root writes a sum and counts its lines in the DONE word (R528); a refused write is recorded and abandoned
(R433). -/
def State.rootWrite (s : State) (e : Combine) (partial_ : Bool) : State :=
  let g := e.group
  let cid := s.get (Reg.LNK_RED_CFG_CID g)
  let pa := s.get (Reg.LNK_RED_DEST_DEST g) * 2 ^ 17 + e.offset
  let done := s.get (Reg.LNK_RED_DONE_DONE_PA g) * 8
  let r := e.sum (s.redBf g)
  let s := s.dropCombine e
  let s := { s with link := { s.link with written := s.link.written ++ [(g, e.offset)] } }
  let s := match s.ownWrite cid pa (leBytes (64 * r.1) r.2) with
    | none => s.refusedRec cid none pa
    | some s =>
      if !(s.ownerOk cid done false) ∨ s.keyAbsent done then s.refusedRec cid none done
      else
        let w := (s.physLe done 8 + r.1) % 2 ^ 64
        s.physPutLe done 8 (if partial_ then w ||| 2 ^ 63 else w)
  if partial_ then s.redFault e.stop g e.offset else s

/-- An entry has all it expects (R527). -/
def State.combined (s : State) (e : Combine) : Bool :=
  let g := e.group
  if e.die = s.ownDie then
    let t := s.get (Reg.LNK_RED_CFG_TOTAL g)
    decide ((if t = 0 then 512 else t) ≤ e.contrib)
  else decide (s.get (Reg.LNK_RED_CFG_FANIN g) ≤ e.got.length) && (!(s.on (Reg.LNK_RED_CFG_LOCAL g)) || e.own.isSome)

/-- An entry is sent on or written, whole or by LNK_RED_WAIT. -/
def State.closeCombine (s : State) (e : Combine) (partial_ : Bool) : State :=
  if e.die = s.ownDie then s.rootWrite e partial_
  else (s.dropCombine e).forward e.stop none (e.packet (s.redBf e.group))

/-- A packet joins its entry at stop `n`, or takes a free one of 64; `none`: it waits (R527). -/
def State.joinCombine (s : State) (n : Nat) (ing : Option Nat) (h : Header) : Option State :=
  let key := fun (e : Combine) =>
    e.stop == n && e.die == h.dstDie.toNat && e.group == h.group.toNat && e.offset == h.addr.toNat
  let old := s.link.combine.find? key
  if old.isNone ∧ 64 ≤ (s.link.combine.filter fun (e : Combine) => e.stop == n).length then none
  else
    let e := old.getD ⟨n, h.dstDie.toNat, h.group.toNat, h.addr.toNat, none, [], 0, s.time (copyLink n)⟩
    let own := ing.isNone && h.srcDie.toNat == s.ownDie && e.own.isNone
    let e := if own then { e with own := some h } else { e with got := e.got ++ [(ing.getD 6, h)] }
    let e := { e with contrib := e.contrib + h.contrib.toNat }
    let s := { s with link := { s.link with combine := s.link.combine.filter (fun x => !(key x)) ++ [e] } }
    some (if s.combined e then s.closeCombine e false else s)

/-- A reduction packet at stop `n` (R527, R528): toward HOME, toward the egress stop, or combined; `none`: it waits. -/
def State.reduceAt (s : State) (n : Nat) (ing : Option Nat) (h : Header) : Option State :=
  let g := h.group.toNat
  let drop := some (s.redFault n g h.addr.toNat)
  let pass := fun (p : Nat) => some (s.enqueue { h with src := BitVec.ofNat 6 n, unit := 0, dst := BitVec.ofNat 6 p, vn := 0 })
  if !(s.on (Reg.LNK_RED_CFG_VALID g)) then drop
  else if h.dstDie.toNat = s.ownDie then
    let home := s.get (Reg.LNK_RED_CFG_HOME g)
    if 6 ≤ home then drop
    else if home ≠ n then pass home
    else if s.link.written.contains (g, h.addr.toNat) then drop
    else s.joinCombine n ing h
  else match s.destPort h.dstDie.toNat with
    | none => some (s.forward n ing h)
    | some p => if p = n then s.joinCombine n ing h else pass p

/-- A reduction packet reaches a ZL stop (R527). -/
def execLReduce (stop : BitVec 3) (h : Header) (s : State) : Out := whenLink s fun s =>
  .next <| if h.op.toNat ≠ opLReduce ∨ 6 ≤ stop.toNat then s
  else ((s.takeLink h).reduceAt stop.toNat (s.ingress h) h).getD s

/-- A combine entry waits LNK_RED_WAIT ticks (R527, R528). -/
def execReduceWaitExpire (stop : BitVec 3) (die : BitVec 9) (group : BitVec 8) (offset : BitVec 17) (s : State) : Out :=
  whenLink s fun s =>
  .next <| match s.link.combine.find? fun (e : Combine) =>
      e.stop == stop.toNat && e.die == die.toNat && e.group == group.toNat && e.offset == offset.toNat with
    | none => s
    | some e =>
      if s.time (copyLink stop.toNat) < e.since + atLeast1 (s.get Reg.LNK_RED_WAIT_TICKS) then s else s.closeCombine e true

/-! ### Requests and transit (R515, R517, R520) -/

/-- A request of this die for another becomes a link operation at stop `n` (R517, R520, R526); `none`: it waits.  A write
into a reduce window is answered by the stop. -/
def State.originate (s : State) (n : Nat) (h : Header) : Option State :=
  let op := h.op.toNat
  let pa := h.addr.toNat
  let own := BitVec.ofNat 9 s.ownDie
  let ttl := BitVec.ofNat 5 s.ttlInit
  if op = opWrite ∧ inReduce pa then
    let r := { h with
      op := 0x55, dstDie := BitVec.ofNat 9 (paDie pa), srcDie := own, ttl := ttl, lclass := false, lfault := 0,
      contrib := 1, group := BitVec.ofNat 8 (pa / 2 ^ 17), addr := BitVec.ofNat 52 (pa % 2 ^ 17) }
    (s.answerBare h stOk).reduceAt n none r
  else
    let lop := linkOp op
    let clash := lop == opLAtomic && s.link.out.any fun (r : LinkReq) =>
      r.h.op.toNat == opLAtomic && r.h.reqId.toNat % 4096 == s.link.reqId % 4096
    if 1024 ≤ (s.link.out.filter fun (r : LinkReq) => r.h.hold.toNat == n).length ∨ clash then none
    else
      let id := if lop = opLAtomic then s.link.reqId else s.freeVal 20
      let s := if lop = opLAtomic then { s with link := { s.link with reqId := (s.link.reqId + 1) % 2 ^ 20 } } else s.tookFree
      let l := { h with
        op := BitVec.ofNat 8 lop, dstDie := if op = opMailbox then h.dstDie else BitVec.ofNat 9 (paDie pa), srcDie := own,
        ttl := ttl, lclass := false, origStop := h.src, origUnit := h.unit, origTag := h.tag, lfault := 0,
        reqId := BitVec.ofNat 20 id, group := 0, contrib := 0, hold := BitVec.ofNat 3 n }
      let r : LinkReq := ⟨l, s.time (copyLink n), s.time (copyLink n), 0⟩
      let s := { s with link := { s.link with out := s.link.out ++ [r] } }
      some (s.forward n none l)

/-- A packet for another die at ZL stop `stop` (R515, R517, R520). -/
def execZlRoute (stop : BitVec 3) (h : Header) (s : State) : Out := whenLink s fun s =>
  let n := stop.toNat
  let op := h.op.toNat
  .next <| if 6 ≤ n then s
  else if linkOp op ≠ 0 then ((s.takeArrived h).originate n h).getD s
  else if op = opLReduce then ((s.takeLink h).reduceAt n (s.ingress h) h).getD s
  else if isLReq op ∨ isLRsp op then
    if h.dstDie.toNat = s.ownDie then s else (s.takeLink h).forward n (s.ingress h) h
  else (s.takeLink h).misdirected h

/-! ### At the destination die (R518, R522) -/

/-- A request is re-issued at its destination (R518): as initiator (ZL, 0), to the memory stop of the stop map or to the
KPR stop. -/
def State.reissue (s : State) (n : Nat) (h : Header) : State :=
  let op := formedFrom h.op.toNat
  let s := s.takeLink h
  s.enqueue { h with
    op := BitVec.ofNat 8 op, src := BitVec.ofNat 6 n, unit := 0, tag := BitVec.ofNat 6 (s.freeTag n 0), vn := 0,
    dst := BitVec.ofNat 6 (if op = opMailbox then kprStop else s.mpStopOf h.addr.toNat) }

/-- A link request of one operation at its destination. -/
def State.arrives (s : State) (stop : BitVec 3) (h : Header) (op : Nat) : Bool :=
  decide (stop.toNat < 6) && h.op.toNat == op && h.dstDie.toNat == s.ownDie

/-- A remote read is re-issued (R518). -/
def execLRead (stop : BitVec 3) (h : Header) (s : State) : Out := whenLink s fun s =>
  .next (if s.arrives stop h opLRead then s.reissue stop.toNat h else s)

/-- A remote write is re-issued (R518). -/
def execLWrite (stop : BitVec 3) (h : Header) (s : State) : Out := whenLink s fun s =>
  .next (if s.arrives stop h opLWrite then s.reissue stop.toNat h else s)

/-- A remote masked write is re-issued (R518). -/
def execLWriteMasked (stop : BitVec 3) (h : Header) (s : State) : Out := whenLink s fun s =>
  .next (if s.arrives stop h opLMasked then s.reissue stop.toNat h else s)

/-- A remote mailbox send is re-issued to the KPR stop (R518). -/
def execLMboxSend (stop : BitVec 3) (h : Header) (s : State) : Out := whenLink s fun s =>
  .next (if s.arrives stop h opLSend then s.reissue stop.toNat h else s)

/-- An atomic for the same entry of the window is under way (R522). -/
def State.amoBusy (s : State) (h : Header) : Bool :=
  let same := fun (o : Header) => decide (o.src.toNat < 6) && o.op.toNat == opAtomic && o.srcDie == h.srcDie &&
    o.reqId.toNat % 4096 == h.reqId.toNat % 4096
  s.mesh.waiting.any same || s.mesh.out.any fun (o : OutReq) => same o.h

/-- A remote atomic consults the replay window (R522). -/
def State.remoteAtomic (s : State) (n : Nat) (h : Header) : State :=
  let r := h.reqId.toNat
  match s.amoRead h.srcDie.toNat r with
  | none => (s.takeLink h).amoFails n h
  | some e =>
    if bitAt e 31 ∧ e % 2 ^ 20 = r then
      let s := (s.takeLink h).sat Reg.LNK_COUNTS_DUP_ATOMIC 1
      let st := bits e 39 32
      s.forward n none (s.linkRsp h st 0 (if st = stOk then 1 else 0) (e / 2 ^ 64) 0)
    else if !(bitAt e 31) ∨ newer r (e % 2 ^ 20) 20 then s.reissue n h
    else
      let s := ((s.takeLink h).sat Reg.LNK_COUNTS_STALE_ATOMIC 1).faultC 0x48 (uLNK n) n
        (n + h.dstDie.toNat * 2 ^ 16 + r * 2 ^ 32) (some h.cid.toNat) (some h.qid.toNat) none
      s.forward n none (s.linkRsp h stUnreachable 0x48 0 0 0)

def execLAtomic (stop : BitVec 3) (h : Header) (s : State) : Out := whenLink s fun s =>
  .next (if s.arrives stop h opLAtomic ∧ !(s.amoBusy h) then s.remoteAtomic stop.toNat h else s)

/-! ### At the source die (R518, R519) -/

/-- A response reaches its HOLD stop (R518, R519): the entry clears and the response is delivered; a remote refusal is
the sending context's (R433). -/
def State.linkAnswer (s : State) (h : Header) : State :=
  let s := s.takeLink h
  match s.entryFor h with
  | none => s
  | some r =>
    let s := s.dropOut r
    let s := if h.lfault ≠ 0 then s.faultOrig r.h h.lfault.toNat
      else
        let s := s.answerOrig r.h h.status.toNat h.len.toNat h.data.toNat h.operand.toNat
        if h.status.toNat ≠ stRefused then s
        else
          let id := s.recId
          let n := h.hold.toNat
          let s := s.faultC 4 (uLNK n) n (r.h.addr.toNat + 2 ^ 62) (some r.h.cid.toNat) (some r.h.qid.toNat) none
          if s.ownAccess { r.h with src := r.h.origStop, unit := r.h.origUnit } then s else s.lose r.h.cid.toNat 4 (some id)
    s.portStopped

/-- A remote data response (R518). -/
def execLRspData (h : Header) (s : State) : Out := whenLink s fun s =>
  .next (if h.op.toNat = opLData ∧ h.dstDie.toNat = s.ownDie then s.linkAnswer h else s)

/-- A remote acknowledgement (R518). -/
def execLRspAck (h : Header) (s : State) : Out := whenLink s fun s =>
  .next (if h.op.toNat = opLAck ∧ h.dstDie.toNat = s.ownDie then s.linkAnswer h else s)

/-- The entry of an initiator's request that stop `n` holds. -/
def State.heldReq (s : State) (n os ou ot : Nat) : Option LinkReq :=
  s.link.out.find? fun (r : LinkReq) => r.h.hold.toNat == n && r.h.origStop.toNat == os && r.h.origUnit.toNat == ou &&
    r.h.origTag.toNat == ot

/-- A link request may be sent twice (R519). -/
def resends (op : Nat) : Bool := op == opLRead || op == opLAtomic

/-- Give up on an entry (R519): 0x48 for a read or atomic, 0x49 for a write. -/
def State.giveUp (s : State) (r : LinkReq) : State :=
  let n := r.h.hold.toNat
  let again := resends r.h.op.toNat
  let code := if again then 0x48 else 0x49
  let s := s.faultC code (uLNK n) n
    (n + r.h.dstDie.toNat * 2 ^ 16 + (if again then r.h.reqId.toNat * 2 ^ 32 else 0)) (some r.h.cid.toNat)
    (some r.h.qid.toNat) none
  ((s.dropOut r).faultOrig r.h code).portStopped

/-- LNK_RESEND_T passes without an answer (R519). -/
def execRemoteResend (stop : BitVec 3) (origStop : BitVec 6) (origUnit : BitVec 2) (origTag : BitVec 6) (s : State) : Out :=
  whenLink s fun s =>
  .next <| match s.heldReq stop.toNat origStop.toNat origUnit.toNat origTag.toNat with
    | none => s
    | some r =>
      if !(resends r.h.op.toNat) ∨ s.time (copyLink stop.toNat) < r.last + atLeast1 (s.get Reg.LNK_RESEND_T_TICKS) then s
      else if 3 ≤ r.resends then s.giveUp r
      else
        let out := s.link.out.map fun (x : LinkReq) => if x = r then { r with last := s.time (copyLink stop.toNat), resends := r.resends + 1 } else x
        let s := { s with link := { s.link with out := out } }
        (s.sat Reg.LNK_COUNTS_RESENDS 1).forward stop.toNat none r.h

/-- A write has no answer for 4 × LNK_RESEND_T (R519). -/
def execRemoteWriteGiveup (stop : BitVec 3) (origStop : BitVec 6) (origUnit : BitVec 2) (origTag : BitVec 6) (s : State) :
    Out := whenLink s fun s =>
  .next <| match s.heldReq stop.toNat origStop.toNat origUnit.toNat origTag.toNat with
    | none => s
    | some r =>
      if resends r.h.op.toNat ∨ s.time (copyLink stop.toNat) < r.first + 4 * atLeast1 (s.get Reg.LNK_RESEND_T_TICKS) then s else s.giveUp r

/-! ## The mailbox store (R523-R525) -/

/-- A message reaches the store (R523): answered OK with its result. -/
def execMailbox (h : Header) (s : State) : Out := whenLive 2 s fun s =>
  let s := s.takeArrived h
  .next <| if h.op.toNat ≠ opMailbox ∨ h.dst.toNat ≠ kprStop then s.misdirected h
  else if h.poison then s.answerBare h stPoison
  else
    let src := if h.src.toNat < 6 then h.srcDie.toNat else s.ownDie
    let lines := (List.range h.len.toNat).map fun k => h.data.toNat / 2 ^ (512 * k) % 2 ^ 512
    let (s, r) := s.mboxSend (h.addr.toNat % 4096) src lines
    s.enqueue { respond h stOk 0 0 with operand := BitVec.ofNat 64 r }

/-- A receive reaches the store (R524): answered, or held until a message arrives, up to 64 of them. -/
def execLMboxRecv (h : Header) (s : State) : Out := whenLive 2 s fun s =>
  let s0 := s
  let s := s.takeArrived h
  let m := h.addr.toNat % 4096
  let b := s.mboxBind m
  let answer := fun (s : State) (lines data operand : Nat) =>
    s.enqueue { respond h stOk lines data with op := 0x80, operand := BitVec.ofNat 64 operand }
  let t := unitTile h.src.toNat h.unit.toNat
  .next <| if h.op.toNat ≠ opLRecv ∨ h.dst.toNat ≠ kprStop then s.misdirected h
  else if !b.valid ∨ b.cid ≠ h.cid.toNat then answer s 0 0 mRefused
  else match s.mbox m with
    | g :: rest =>
      let n := min h.count.toNat g.lines.length
      let data := (g.lines.take n).foldr (fun l w => l + 2 ^ 512 * w) 0
      answer (s.setMbox m rest) n data (b2n (decide (n < g.lines.length)) * 16 + g.src * 32)
    | [] =>
      if bitAt h.operand.toNat 0 then answer s 0 0 1
      else if s.mail.recvs.contains (t, m) then s
      else if 64 ≤ s.mail.recvs.length then s0
      else { s with mail := { s.mail with recvs := s.mail.recvs ++ [(t, m)] } }

/-- A write to KPR_MBOX_BIND (R525): where VALID or CID changes, the messages go and the receives are refused. -/
def State.writeBind (s : State) (m v : Nat) : State :=
  if 4095 ≤ m then s
  else
    let old := s.mboxBind m
    let s := ((((s.put (Reg.KPR_MBOX_BIND_VALID m) (bits v 63 63)).put (Reg.KPR_MBOX_BIND_SRC_MODE m) (bits v 62 61)).put
      (Reg.KPR_MBOX_BIND_SRC_DIE m) (bits v 56 48)).put (Reg.KPR_MBOX_BIND_DEPTHM1 m) (bits v 37 32)).put
      (Reg.KPR_MBOX_BIND_CID m) (bits v 9 0)
    let new := s.mboxBind m
    if old.valid = new.valid ∧ old.cid = new.cid then s
    else
      let waits := s.mail.recvs.filter fun e => e.2 == m
      let s := s.setMbox m []
      let s := { s with mail := { s.mail with recvs := s.mail.recvs.filter fun e => e.2 != m } }
      waits.foldl (fun s e => match (s.tile e.1).call with
        | some (.recv _ sreg _ _) => s.endCall e.1 sreg mRefused
        | _ => s) s

def execMboxBindWrite (mbox : BitVec 12) (value : BitVec 64) (s : State) : Out := whenLive 2 s fun s =>
  .next (s.writeBind mbox.toNat value.toNat)

/-! ## Time across dies (R530, R531) -/

/-- A stamp difference in sixty-fourths of a tick. -/
def stampDiff (a b : BitVec 64) : Int := (a.toNat : Int) - b.toNat

/-- The new STEER (R531, R555, R574) in two's complement: its value within ±500 ppm is the time-sync engine's, free but for
its sign, which is the offset's. -/
def State.steer (s : State) (offset : Int) : State :=
  let k := s.freeVal 16 % 16001
  if offset = 0 then s
  else (s.put Reg.CLK_GTC_STATUS_STEER (if 0 < offset then k else (65536 - k) % 65536)).tookFree

/-- The follower treats an offset (R531). -/
def State.timeOffset (s : State) (offset : Int) : State :=
  if !s.link.acquired ∧ 64000 < offset then
    let s := { s with link := { s.link with acquired := true, goodSync := 0 },
                      copies := { s.copies with stepBy := (offset / 64).toNat } }
    s.put Reg.LNK_TIME_CTRL_STATE 1
  else
    let good := if offset.natAbs ≤ 64 then s.link.goodSync + 1 else 0
    let s := ({ s with link := { s.link with acquired := true, goodSync := min 8 good } }).steer offset
    let st := s.get Reg.LNK_TIME_CTRL_STATE
    s.put Reg.LNK_TIME_CTRL_STATE (if 8 ≤ good ∨ st = 2 then 2 else 1)

/-- The exchange of R530 with the upstream peer, every 10,000 t; the four stamps in sixty-fourths of a tick.  Its round trip
is a LINK_RTT sample (R539, R681). -/
def execTimeSyncExchange (t1 t2 t3 t4 : BitVec 64) (s : State) : Out := whenLink s fun s =>
  let n := s.get Reg.LNK_TIME_CTRL_UPSTREAM
  .next <| if s.get Reg.LNK_TIME_CTRL_ROLE ≠ 2 ∨ !(s.portActive n) ∨ s.gtc < s.link.timeAt + 10000 then s
  else
    let s := { s with link := { s.link with timeAt := s.gtc } }
    let offset := Int.tdiv (stampDiff t2 t1 - stampDiff t4 t3) 2
    let rtt := stampDiff t4 t1 - stampDiff t3 t2
    let s := s.put (Reg.LNK_TIME_OFFSET_OFFSET n) (offset.emod (2 ^ 32)).toNat
    let s := s.put (Reg.LNK_RTT_RTT n) (rtt.emod (2 ^ 32)).toNat
    let s := s.sample 5 (s.get (Reg.LNK_RTT_RTT n)) 63 fun sub => sub % 8 == n
    (s.send (.sampleLink n (s.get (Reg.LNK_RTT_RTT n)))).timeOffset offset

/-- TIME frames stop for 10 periods (R531). -/
def execTimeHoldover (s : State) : Out := whenLink s fun s =>
  .next (if s.gtc < s.link.timeAt + 100000 then s else s.holdover)

/-! ## Sessions (R533, R534) -/

/-- The pair is on the admission list (R533, R669). -/
def State.admits (s : State) (die hash : Nat) : Bool :=
  (List.range 64).any fun i => s.on (Reg.KPR_ADMIT_VALID i) &&
    (s.on (Reg.KPR_ADMIT_ANY_DIE i) || s.get (Reg.KPR_ADMIT_DIE i) == die) &&
    (List.range 6).all fun j => s.get (Reg.KPR_ADMIT_HASH_HASH i j) == hash / 2 ^ (64 * j) % 2 ^ 64

/-- New keys go into a port (R533 step 4): the other KEPOCH, and a fresh count of groups. -/
def State.loadSession (s : State) (n : Nat) : State :=
  let p := s.port n
  s.setPort n { p with keyed := true, kepoch := !p.kepoch, groups := 0 }

/-- A message of the handshake reaches the Keeper (R533). -/
def execSessionHandshake (port : BitVec 3) (fin : Handshake) (s : State) : Out := whenLink s fun s =>
  let n := port.toNat
  let fails := fun (s : State) => if s.portState n = pSecure then s.trainFail n pSecure else s.portDown n
  .next <| if !(s.domLive 2) ∨ (s.portState n ≠ pSecure ∧ s.portState n ≠ pActive) then s
  else match fin with
    | .late => if s.portState n = pSecure ∧ stepLimit pSecure < s.portAge n then (s.linkFault 0x46 n 0).trainFail n pSecure else s
    | .peer die hash ok =>
      if !ok then s
      else if !(s.admits die.toNat hash.toNat) then fails (s.linkFault 0x45 n (die.toNat * 2 ^ 16))
      else if s.portState n = pSecure then s.loadSession n else s

/-- After 2^31 groups the Keepers run the handshake again (R534). -/
def execSessionRekey (port : BitVec 3) (s : State) : Out := whenLink s fun s =>
  let n := port.toNat
  .next <| if s.portState n ≠ pActive ∨ !(s.on (Reg.LNK_PORT_STATUS_SECURE n)) ∨ (s.port n).groups < 2 ^ 31 ∨
      (s.port n).groupLen ≠ 0 ∨ !(s.domLive 2) then s
  else s.loadSession n

end Sys2Proof.Machine
end

