-- ==== Sys2Proof/Machine/Clocks.lean ====
section
/-! DEFINITION. Clock islands, operating points and the supply rails (R542-R589): lock loss, the droop-following
oscillator and its margin, ageing, telemetry, remote sense and cracked connections.  What a monitor measures (a
frequency, a code, a voltage, an estimate) comes with the command. -/

namespace Sys2Proof.Machine

/-! ## Operating points (R552, R585-R587) -/

/-- FMAX_EFF of cluster `c` in MHz (R552). -/
def State.fmaxEff (s : State) (c : Nat) : Nat :=
  max 1600 (1600 + 25 * Tab.get 0 s.fuses.fmax c - 25 * Tab.get 0 s.fuses.ageSteps c)

/-- Frequency of an operating point in MHz (R585). -/
def State.opFreq (s : State) (c k : Nat) : Nat :=
  if 7 ≤ k then s.fmaxEff c else (400 + k * (s.fmaxEff c - 400) / 7) / 25 * 25

/-- Set voltage of an operating point in mV (R585). -/
def opVolt : Nat → Nat
  | 0 => 600
  | 1 => 645
  | 2 => 690
  | 3 => 730
  | 4 => 770
  | 5 => 815
  | 6 => 860
  | _ => 900

def State.op (s : State) (c : Nat) : Nat := s.get (Reg.PWR_CL_OP_OP c)

/-- The die runs in lockstep mode (R612). -/
def State.lockstep (s : State) : Bool := s.yard && s.get Reg.PWR_CTRL_MODE == 1

/-- Cluster `c` runs in fixed-frequency mode (R591, R612). -/
def State.fixedMode (s : State) (c : Nat) : Bool := s.on (Reg.PWR_CL_OP_FIXED c) || s.lockstep

/-- The lowest of a cluster's ceilings (R586, R719). -/
def State.ceiling (s : State) (c : Nat) : Nat :=
  let k := s.get (Reg.PWR_RAIL_STATUS_CEILING c)
  let k := if s.on (Reg.PWR_CL_OP_FIXED c) ∧ !s.lockstep then min k (s.get (Reg.PWR_CL_OP_FIX_OP c)) else k
  if s.power.stuckCap || s.on Reg.PWR_PIN_STATUS_SPILL_STUCK then 0 else k

/-- f_T takes a value (R578). -/
def State.setFt (s : State) (c f : Nat) : State :=
  (s.setClus c { s.clus c with ft := f }).put (Reg.CLS_DFO_STATUS_F_T c) f

/-- The frequency toward which f_T ramps: the operating point's, or the replica paths' where lower (R549, R586). -/
def State.rampTo (s : State) (c : Nat) : Nat :=
  let x := s.clus c
  max 400 (min x.target (x.held.getD x.target))

/-- Operating point and limiter as a trace record holds them (R687). -/
def State.traceOp (s : State) (c : Nat) : State :=
  s.trace 5 uPWR none (c + s.op c * 16 + s.get (Reg.PWR_CL_OP_LIMIT c) * 256) (s.time copyTow)

/-- The gate sets the limiter of a cluster, as `n` - 1 (R590). -/
def State.limitTo (s : State) (c n : Nat) : State :=
  if s.get (Reg.PWR_CL_OP_LIMIT c) = n then s else (s.put (Reg.PWR_CL_OP_LIMIT c) n).traceOp c

/-- Power control sends a limiter through the domain gate (R39, R590). -/
def State.setLimit (s : State) (c n : Nat) : State :=
  if s.get (Reg.PWR_CL_OP_LIMIT c) = n then s else s.gateAct (clDom c) 4 fun s => s.limitTo c n

/-- The domain gate carries out an operating point at `f` MHz (R586, R587, R603): f_T ramps, and a lowering has its
voltage still to post. -/
def State.setOp (s : State) (c k f : Nat) : State :=
  let old := s.op c
  let x := s.clus c
  let s := s.setClus c { x with target := f, raiseTo := none, paceTo := none, lowerDue := x.lowerDue || decide (k < old) }
  if k = old then s
  else
    let s := s.put (Reg.PWR_CL_OP_OP c) k
    (if 0 < k then s.put (Reg.PWR_CL_OP_LIMIT c) 15 else s).traceOp c

/-- Power control sends an operating point at `f` MHz through the domain gate (R39, R587); one already in force is not sent
again. -/
def State.sendOp (s : State) (c k f : Nat) : State :=
  let x := s.clus c
  if k = s.op c ∧ f = x.target ∧ x.raiseTo.isNone ∧ x.paceTo.isNone then s
  else s.gateAct (clDom c) 4 fun s => s.setOp c k f

/-- Power control decides on operating point `k` at `f` MHz (R587, R589, R611): a lowering at once; a raise first posts
its voltage.  The gate discards a raise under the SPILL_N clamp, and none starts after a set point that was not reached. -/
def State.changeOp (s : State) (c k f : Nat) : State :=
  let x := s.clus c
  if k < s.op c ∨ (k = s.op c ∧ f ≤ x.target) then
    let s := s.sendOp c k f
    if x.raiseTo.isSome ∧ !(s.clus c).lowerDue then s.postVolt c (opVolt k) else s
  else if s.power.clamp then s.gateDrop (clDom c) 4
  else if k = s.op c then s.sendOp c k f
  else if (s.rail c).noRaise ∨ x.raiseTo = some k then s
  else (s.postVolt c (opVolt k)).setClus c { x with raiseTo := some k, lowerDue := false }

/-! ## Clock sources (R542, R543) -/

/-- Domain of a source by its bit in CLK_SRC_STATUS (R575). -/
def pllDom (src : Nat) : Option Nat :=
  if src = 2 then some 5 else if src = 3 then some 10 else if 4 ≤ src ∧ src < 10 then some 9 else none

/-- A PLL loses lock while its domain is OPEN, or a relock is tried again after R67's wait (R543): the attempt's record, and
after a third failed relock the consequence of R68 or R69. -/
def execPllLockLoss (src : BitVec 4) (fin : LockEnd) (s : State) : Out :=
  .next <| match pllDom src.toNat with
    | none => s
    | some d =>
      let x := s.dom d
      if !(s.domOpen d) ∨ (0 < x.attempt ∧ s.elapsed d < 100000) then s
      else match fin with
        | .locked => (s.seqFault 0x57 (s.stepDetail d 3)).setDom d { x with attempt := 0 }
        | .failed =>
          if x.attempt < 2 then
            (s.seqFault 0x57 (s.stepDetail d 3)).setDom d { x with attempt := x.attempt + 1, since := s.gtc }
          else s.failStep d 3

/-! ## The droop-following oscillator and margin (R544-R551) -/

/-- The DFO's upper clamp in MHz (R547). -/
def State.dfoClamp (s : State) (c : Nat) : Nat :=
  let f := (s.clus c).ft
  if s.fixedMode c then f else min (103 * f / 100) (s.fmaxEff c)

/-- Code of replica path `j` among the codes of R580. -/
def pathCode (codes : BitVec 48) (j : Nat) : Nat := codes.toNat / 64 ^ j % 64

/-- The least of the eight codes. -/
def minCode (codes : BitVec 48) : Nat := (List.range 8).foldl (fun m j => min m (pathCode codes j)) 63

/-- Every 100 t (R546, R548, R578, R580): f_T moves at most 25 MHz toward its goal, and the measured frequency, the codes
and the least code of the last 100 t show.  A lowering that has ended posts its voltage (R587). -/
def execDfoTrim (cluster : BitVec 4) (fMeas : BitVec 12) (low : BitVec 6) (codes : BitVec 48) (s : State) : Out :=
  let c := cluster.toNat
  whenLive (clDom c) s fun s =>
  let f := (s.clus c).ft
  let goal := s.rampTo c
  if s.gtc < (s.clus c).trimAt + 100 then .next s else
  let s := s.setClus c { s.clus c with trimAt := s.gtc }
  let s := s.setFt c (if f < goal then min goal (f + 25) else max goal (f - 25))
  let s := ((s.put (Reg.CLS_DFO_STATUS_F_MEAS c) (min fMeas.toNat (s.dfoClamp c))).put (Reg.CLS_MARGIN_CODES c) codes.toNat).put
    (Reg.CLS_DFO_STATUS_MIN_CODE c) low.toNat
  .next <| if (s.clus c).lowerDue ∧ (s.clus c).ft ≤ (s.clus c).target then
      (s.setClus c { s.clus c with lowerDue := false }).postVolt c (opVolt (s.op c))
    else s

/-- A cycle of `freq` MHz (R547): a droop event where its period exceeds 1.02 times that of f_T. -/
def execDroop (cluster : BitVec 4) (freq : BitVec 12) (s : State) : Out :=
  let c := cluster.toNat
  whenLive (clDom c) s fun s =>
  .next <| if 102 * freq.toNat < 100 * (s.clus c).ft then s.wrap (Reg.CLS_DFO_COUNTS_DROOP c) 1 else s

def State.marginCrit (s : State) (c : Nat) : Nat := s.get (Reg.CLS_MARGIN_CFG_MARGIN_CRIT c)

/-- MARGIN_LO in force (R579). -/
def State.marginLo (s : State) (c : Nat) : Nat := max (s.get (Reg.CLS_MARGIN_CFG_MARGIN_LO c)) (s.marginCrit c + 2)

/-- The least code is at or below MARGIN_CRIT (R549, R550): the halving counts, and more than 16 in 10 ms record 0x59. -/
def execMarginCritical (cluster : BitVec 4) (codes : BitVec 48) (s : State) : Out :=
  let c := cluster.toNat
  whenLive (clDom c) s fun s =>
  .next <| if s.marginCrit c < minCode codes then s
  else
    let s := (s.sat (Reg.CLS_DFO_COUNTS_CRIT c) 1).put (Reg.CLS_MARGIN_CODES c) codes.toNat
    let x := s.clus c
    let l := s.gtc :: x.crits.filter fun t => decide (s.gtc < t + 1000000)
    let due : Bool := match x.critAt with
      | some t => decide (t + 1000000 ≤ s.gtc)
      | none => true
    let fire := decide (16 < l.length) && due
    let s := s.setClus c { x with halved := true, goodAt := s.gtc, crits := l, critAt := if fire then some s.gtc else x.critAt }
    if fire then
      s.fault 0x59 (uCLS c) (clStop c) (c + minCode codes * 2 ^ 4 + (x.ft - 400) / 25 * 2 ^ 10)
    else s

/-- A low-margin event (R549): f_T falls 25 MHz, at most once in 100 t, but not in fixed-frequency mode. -/
def State.marginEvent (s : State) (c : Nat) : State :=
  let s := s.sat (Reg.CLS_DFO_COUNTS_STEP_DOWN c) 1
  let x := { s.clus c with goodAt := s.gtc }
  let held : Bool := match x.cutAt with
    | some t => decide (s.gtc < t + 100)
    | none => false
  if s.fixedMode c ∨ held then s.setClus c x
  else
    let f := max 400 (x.ft - 25)
    (s.setClus c { x with held := some f, cutAt := some s.gtc }).setFt c f

def execMarginLow (cluster : BitVec 4) (code : BitVec 6) (skew : BitVec 8) (s : State) : Out :=
  let c := cluster.toNat
  whenLive (clDom c) s fun s =>
  .next (if code.toNat ≤ s.marginLo c ∨ 20 < skew.toNat then s.marginEvent c else s)

/-- The least code has stayed at MARGIN_LO + 4 or above for RECOVER_T (R549, R579): f_T rises 25 MHz, up to the operating
point's frequency.  A lower code `low` in that time starts it anew. -/
def execMarginRecover (cluster : BitVec 4) (low : BitVec 6) (s : State) : Out :=
  let c := cluster.toNat
  whenLive (clDom c) s fun s =>
  let x := s.clus c
  .next <| match x.held with
    | none => s
    | some h =>
      if low.toNat < s.marginLo c + 4 then s.setClus c { x with goodAt := s.gtc }
      else if s.gtc < x.goodAt + atLeast1 (s.get (Reg.CLS_MARGIN_CFG_RECOVER_T c)) then s
      else
        let f := min x.target (h + 25)
        let s := s.setClus c { x with goodAt := s.gtc, held := if x.target ≤ h + 25 then none else some f }
        if x.ft < f then s.setFt c (min f (x.ft + 25)) else s

/-- Every 1,000 t the skew monitors correct the mesh delays (R544): a skew that stays above 20 ps is a margin event. -/
def execSkewCorrect (cluster : BitVec 4) (skew : BitVec 8) (s : State) : Out :=
  let c := cluster.toNat
  whenLive (clDom c) s fun s =>
  .next <| if s.gtc < (s.clus c).skewAt + 1000 then s
  else
    let s := s.setClus c { s.clus c with skewAt := s.gtc }
    if 20 < skew.toNat then s.marginEvent c else s

/-! ## Ageing (R553, R554) -/

/-- The shortfall of R553 in 1/640 code: `mean` in 1/16 code, corrected to 85 °C by TEMPCO. -/
def State.shortfall (s : State) (c mean : Nat) : Int :=
  let tempco := asSigned 6 (Tab.get 0 s.fuses.tempco c)
  640 * ((Tab.get 0 s.fuses.baseCode c + Tab.get 0 s.fuses.ageSteps c : Nat) : Int) - 40 * (mean : Int) +
    16 * tempco * (((Tab.get 0 s.pins.temps c : Nat) : Int) - 596)

/-- The check asks for the next ageing fuse (R553, R554). -/
def State.derate (s : State) (c : Nat) : State :=
  let n := Tab.get 0 s.fuses.ageSteps c
  let x := s.clus c
  let s := s.setClus c { x with shortfalls := 0, exhausted := x.exhausted || decide (8 ≤ n) }
  if n < 8 then
    let s := { s with fuses := { s.fuses with ageSteps := s.fuses.ageSteps.set c (n + 1) } }
    s.fault 0x5A (uCLS c) (clStop c) (c + (n + 1) * 2 ^ 4)
  else if x.exhausted then s
  else s.fault 0x5A (uCLS c) (clStop c) (c + n * 2 ^ 4 + 2 ^ 8)

/-- The ageing check of every 60 s (R553): `ran`, ticks at OP7 since the last check; `mean`, the mean least code there. -/
def execAgeingCheck (cluster : BitVec 4) (ran : BitVec 40) (mean : BitVec 10) (s : State) : Out :=
  let c := cluster.toNat
  whenLive (clDom c) s fun s =>
  if s.gtc < (s.clus c).ageAt + 6000000000 then .next s else
  let s := s.setClus c { s.clus c with ageAt := s.gtc }
  let x := s.clus c
  .next <| if ran.toNat < 10000 then s
  else if s.shortfall c mean.toNat < 4 * 640 then s.setClus c { x with shortfalls := 0 }
  else if x.shortfalls < 15 then s.setClus c { x with shortfalls := x.shortfalls + 1 }
  else s.derate c

/-! ## Telemetry (R564, R568-R571, R593, R594) -/

/-- Set point of a rail in mV (R561, R739): while a cluster rail's request is pending, the higher of it and the one it
replaced. -/
def State.setPoint (s : State) (r : Nat) : Nat :=
  if r < 16 then
    let x := s.rail r
    if bitAt (s.get Reg.PWR_VREQ_PEND_RAILS) r then max x.mv x.prev else x.mv
  else if r = 16 then 750 else if r = 17 then 700 else if r = 18 then 850 else 1800

/-- The last time is 1 s ago or never was. -/
def State.secondOver (s : State) (last : Option Nat) : Bool := match last with
  | some t => decide (t + 100000000 ≤ s.gtc)
  | none => true

/-- A suspicion on a cluster rail (R570): two steps below, or stoppage from OP0. -/
def State.crackCluster (s : State) (c mean : Nat) : State :=
  let old := s.get (Reg.PWR_RAIL_STATUS_CEILING c)
  let det := fun (k a : Nat) => c + k * 2 ^ 8 + a * 2 ^ 16 + mean % 2 ^ 32 * 2 ^ 32
  if old = 0 then
    let s := s.fault 0x53 uPWR srcNone (det 0 2)
    let s := { s with power := { s.power with condemned := c :: s.power.condemned.erase c } }
    if s.domOpen (clDom c) then s.closeCluster c
    else if (s.reopening (clDom c)).isSome then s.gateClose (clDom c) else s
  else
    let k := min (s.op c) old - 2
    let s := (s.put (Reg.PWR_RAIL_STATUS_CEILING c) k).fault 0x53 uPWR srcNone (det k 0)
    if k < s.op c then s.changeOp c k (s.opFreq c k) else s

/-- A suspicion (R568, R570). -/
def State.suspicion (s : State) (r mean : Nat) : State :=
  let s := s.put (railCrack r) 1
  if r < 16 then s.crackCluster r mean
  else if s.secondOver s.power.socAt then
    { s with power := { s.power with socAt := some s.gtc } }.fault 0x53 uPWR srcNone (r + 2 ^ 16 + mean % 2 ^ 32 * 2 ^ 32)
  else s

/-- Reported current in mA, and VOUT in µV (R626). -/
def State.iout (s : State) (r : Nat) : Nat := 10 * s.get (Reg.PWR_TEL_IOUT r)
def State.vout (s : State) (r : Nat) : Nat := 250 * s.get (Reg.PWR_TEL_VOUT r)

/-- I × PATH_UOHM in µV. -/
def State.pathDrop (s : State) (r : Nat) : Nat := s.iout r * s.get (Reg.PWR_RAIL_CFG_PATH_UOHM r) / 1000

/-- The rail draws at least CRACK_MIN_I. -/
def State.loaded (s : State) (r : Nat) : Bool := decide (500 * s.get (Reg.PWR_RAIL_CFG_CRACK_MIN_I r) ≤ s.iout r)

/-- The sense pair is connected and not in fault. -/
def State.senseOn (s : State) (r : Nat) : Bool := (s.rail r).sensed && s.get (railSense r) == 0

/-- The watch for an open pair (R564): four samples in a row with the die more than 8 mV and more than half the path drop
below the set point. -/
def State.senseWatch (s : State) (r v : Nat) : State :=
  let x := s.rail r
  if !(s.senseOn r) ∨ !(s.loaded r) then s
  else
    let low := s.setPoint r - v
    let bad := decide (8 < low) && decide (s.iout r * s.get (Reg.PWR_RAIL_CFG_PATH_UOHM r) < 2000000 * low)
    if !bad then s.setRail r { x with openRun := 0 }
    else if x.openRun < 3 then s.setRail r { x with openRun := x.openRun + 1 }
    else s.senseFault r 1

/-- One sample of the crack window (R568). -/
def State.crackSample (s : State) (r : Nat) : State :=
  let x := s.rail r
  if !(s.senseOn r) ∨ !(s.loaded r) ∨ s.get (Reg.PWR_RAIL_CFG_PATH_UOHM r) = 0 ∨ s.gtc < x.setAt + 100000 then s
  else
    let e : Int := (s.vout r : Int) - 1000 * s.setPoint r - s.pathDrop r
    let n := x.samples + 1
    let w := atLeast1 (s.get (Reg.PWR_RAIL_CFG_CRACK_WINDOW r))
    if n < w then s.setRail r { x with sum := x.sum + e, samples := n }
    else
      let mean := (x.sum + e) / (n : Int)
      let beyond := decide ((s.get (Reg.PWR_RAIL_CFG_CRACK_MARGIN r) : Int) * n < x.sum + e)
      let s := (s.setRail r { x with sum := 0, samples := 0 }).put (railExcess r) (mean.emod (2 ^ 16)).toNat
      if beyond then s.suspicion r mean.toNat else s

/-- The calibration gain (R594): `est`, the uncalibrated estimate of the millisecond in mW. -/
def State.calibrate (s : State) (r v est : Nat) : State :=
  if est = 0 then s
  else
    let x := s.rail r
    let p := v * s.iout r
    let q := p * 4096 / (1000 * est)
    let g := s.get (Reg.PWR_CAL_GAIN r)
    let g' := (g : Int) + ((q : Int) - g) / 8
    let s := s.put (Reg.PWR_CAL_GAIN r) (min 8192 (max 2048 g')).toNat
    if 500 * est ≤ p ∧ p ≤ 2000 * est then s.setRail r { x with gainRun := 0 }
    else if x.gainRun < 7 then s.setRail r { x with gainRun := x.gainRun + 1 }
    else if s.secondOver x.gainAt then
      (s.setRail r { x with gainAt := some s.gtc }).fault 0x5F uPWR srcNone (2 + r * 2 ^ 4)
    else s

/-- The sample of one rail (R569, R583, R593). -/
def State.railSample (s : State) (r v est : Nat) : State :=
  let s := s.put (railVdie r) v
  let x := s.rail r
  let q := s.get (Reg.PWR_TEL_SEQ r)
  if 17 ≤ r then s
  else if q = x.seq then
    let s := s.setRail r { x with missing := x.missing + 1 }
    if 10 ≤ x.missing + 1 then s.put (railNoTel r) 1 else s
  else
    let s := (s.setRail r { x with seq := q, missing := 0 }).put (railNoTel r) 0
    ((s.senseWatch r v).crackSample r).calibrate r v est

/-- At each 1 ms boundary, taken once it has passed, the engine takes every rail's telemetry (R593): the on-die voltage of
each rail in mV and its uncalibrated estimate in mW.  Rails 17 to 19 bear no telemetry. -/
def execTelemetrySample (volts : List (BitVec 16)) (ests : List (BitVec 32)) (s : State) : Out := whenTow s fun s =>
  .next <| if s.gtc / 100000 = s.power.telAt / 100000 then s
  else (List.range 20).foldl (fun s r => s.railSample r (volts.getD r 0).toNat (ests.getD r 0).toNat)
    { s with power := { s.power with telAt := s.gtc } }

/-- A rail serves an open domain. -/
def State.railInUse (s : State) (r : Nat) : Bool := (List.range 28).any fun d => railOf d == r && s.domOpen d

/-- A write to PWR_RAIL_STATUS (R565, R571, R583): SENSE_RETRY closes the switch of a faulty pair again and the check is
repeated, CEIL_CLEAR sets CEILING to OP7 and clears CRACK. -/
def State.writeRailStatus (s : State) (r v : Nat) : State :=
  let s := if bitAt v 10 ∧ r < 17 ∧ (s.get (railSense r) = 1 ∨ s.get (railSense r) = 2) then
      (s.put (railSense r) (if s.railInUse r then 0 else 3)).setRail r
        { s.rail r with sensed := s.railInUse r, openRun := 0 }
    else s
  if bitAt v 9 then
    if r < 16 then (s.put (Reg.PWR_RAIL_STATUS_CEILING r) 7).put (railCrack r) 0
    else if r = 16 then s.put (railCrack r) 0 else s
  else s

def execSenseRetry (rail : BitVec 5) (value : BitVec 64) (s : State) : Out := whenTow s fun s =>
  .next (if rail.toNat < 20 ∧ bitAt value.toNat 10 then s.writeRailStatus rail.toNat value.toNat else s)

def execCeilClear (rail : BitVec 5) (value : BitVec 64) (s : State) : Out := whenTow s fun s =>
  .next (if rail.toNat < 20 ∧ bitAt value.toNat 9 then s.writeRailStatus rail.toNat value.toNat else s)

/-! ## Set points (R587-R589) -/

/-- Frequency at which a raise to `k` runs: the group's in lockstep (R615). -/
def State.raiseFreq (s : State) (c k : Nat) : Nat := match (s.clus c).paceTo with
  | some f => min f (s.opFreq c k)
  | none => s.opFreq c k

/-- V_DIE of a cluster rail lies within 10 mV of its request (R587, R589). -/
def execVoltageReached (rail : BitVec 4) (mv : BitVec 16) (s : State) : Out := whenTow s fun s =>
  let r := rail.toNat
  let s := s.put (Reg.PWR_RAIL_STATUS_V_DIE r) mv.toNat
  let want := (s.rail r).mv
  .next <| if want + 10 < mv.toNat ∨ mv.toNat + 10 < want ∨ !(bitAt (s.get Reg.PWR_VREQ_PEND_RAILS) r) then s
  else
    let s := s.put Reg.PWR_VREQ_PEND_RAILS (setBit (s.get Reg.PWR_VREQ_PEND_RAILS) r false)
    let s := s.setRail r { s.rail r with noRaise := false }
    match (s.clus r).raiseTo with
    | some k => if s.power.clamp ∨ !(s.domOpen (clDom r)) ∨ s.ceiling r < k then
        s.setClus r { s.clus r with raiseTo := none } else s.sendOp r k (s.raiseFreq r k)
    | none => s

/-- A request stays pending for VSET_LIMIT (R589): fault 0x5F, and a raise is abandoned. -/
def execVsetTimeout (rail : BitVec 4) (s : State) : Out := whenTow s fun s =>
  let r := rail.toNat
  .next <| if !(bitAt (s.get Reg.PWR_VREQ_PEND_RAILS) r) ∨ (s.rail r).noRaise ∨
      s.gtc < (s.rail r).setAt + atLeast1 (s.get Reg.PWR_VSET_LIMIT_TICKS) then s
  else
    let s := s.fault 0x5F uPWR srcNone (1 + r * 2 ^ 4)
    let s := if (s.clus r).raiseTo.isSome then
        (s.setClus r { s.clus r with raiseTo := none, paceTo := none }).postVolt r (opVolt (s.op r)) else s
    s.setRail r { s.rail r with noRaise := true }

end Sys2Proof.Machine
end

