-- ==== Sys2Proof/Machine/Power.lean ====
section
/-! DEFINITION. Power control (R590-R627, R719): the estimate, the effective cap, leases, apportioning, the learned phase
controller, idle clusters and demands, UNMET, SPILL_N and the pace group.  What a unit's activity costs comes with the
command, uncalibrated; the fused leakage model is a constant of Config. -/

namespace Sys2Proof.Machine

/-! ## The effective cap (R596, R598, R619) -/

/-- ENV_MAX in mW (R596). -/
def State.envMax (s : State) : Nat := match s.fuses.config with
  | 1 => 15000
  | 2 => 22000
  | 3 => 30000
  | _ => 180000

/-- Bottom of the envelope in mW (R598). -/
def State.envBottom (s : State) : Nat := if s.yard then 40000 else 1500

/-- UNCORE_RESERVE (R598). -/
def State.uncoreReserve (s : State) : Nat := if s.yard then 30000 else 1000

def State.capMw (s : State) : Nat := Tab.get s.envMax s.regs Reg.PWR_CAP_MW.key
def State.floorMw (s : State) : Nat := Tab.get s.envBottom s.regs Reg.PWR_CAP_FLOOR_MW.key
def State.fallbackMw (s : State) : Nat := Tab.get s.envBottom s.regs Reg.PWR_FALLBACK_BUDGET_MW.key

/-- TCAP (R751): ENV_MAX while nothing throttles. -/
def State.tcap (s : State) : Nat :=
  if s.on Reg.PWR_THERM_STATUS_THROTTLE then Tab.get s.envMax s.regs Reg.PWR_TCAP_TCAP.key else s.envMax

/-- LEASE_TERM with its code in BOUND (R596, R622). -/
def State.leaseTerm (s : State) : Option (Nat × Nat) :=
  if !(s.on Reg.PWR_CTRL_LEASE_EN) then none
  else match s.get Reg.PWR_LEASE_STATUS_STATE with
    | 1 => some (s.get Reg.PWR_LEASE_BUDGET_MW, 1)
    | 2 => some (s.fallbackMw, 2)
    | _ => none

/-- The effective cap and the term that bounds it (R596, R622). -/
def State.effCap (s : State) : Nat × Nat :=
  let terms := [(s.capMw, 0)] ++ s.leaseTerm.toList ++ [(s.tcap, 3), (s.envMax, 4)]
  let m := terms.foldl (fun (a : Nat × Nat) x => if x.1 < a.1 then x else a) (s.capMw, 0)
  if m.1 < s.floorMw then (s.floorMw, 5) else m

/-- PWR_EFF_CAP follows (R622). -/
def State.showCap (s : State) : State :=
  (s.put Reg.PWR_EFF_CAP_C_EFF s.effCap.1).put Reg.PWR_EFF_CAP_BOUND s.effCap.2

/-- The clusters' budget (R601). -/
def State.clBudget (s : State) : Nat :=
  s.effCap.1 - s.get Reg.PWR_ESTIMATE_UNCORE - s.get Reg.PWR_CTRL_GUARD_MW

/-! ## Predictions (R605) -/

/-- The fused leakage model at the cluster's present temperature (R605). -/
def State.leak (s : State) (c k : Nat) : Nat := Config.leak c k (Tab.get 0 s.pins.temps c)

/-- The current phase of a tile (R605). -/
def State.tilePhase (s : State) (t : Nat) : Option Nat :=
  if (s.tile t).task.isNone then none else (Tab.get (none, 0) s.power.phase t).1

/-- CEFF in pF with which a tile's prediction goes (R605). -/
def State.tileCeff (s : State) (t : Nat) : Nat :=
  let top := s.get Reg.PWR_PHASE_CTRL_CEFF_MAX
  let c := t / 4
  if (s.tile t).task.isNone then 0
  else if !(s.on Reg.PWR_PHASE_CTRL_EN) then top
  else match s.tilePhase t with
    | none => 0
    | some k => if s.on (Reg.PWR_PHASE_VALID c k) then s.get (Reg.PWR_PHASE_CEFF c k) else top

/-- The prediction for a cluster at an operating point in mW (R605). -/
def State.predict (s : State) (c k : Nat) : Nat :=
  let ceff := (List.range 4).foldl (fun n j => n + s.tileCeff (4 * c + j)) 0
  s.leak c k + ceff * opVolt k * opVolt k * s.opFreq c k / 1000000000

/-! ## Apportioning (R601-R604) -/

/-- Open clusters, with one that a demand would open. -/
def State.openClusters (s : State) (extra : Option Nat) : List Nat :=
  (List.range 16).filter fun c => s.domOpen (clDom c) || extra == some c

/-- The sum of a function over a list. -/
def sumOf (l : List Nat) (f : Nat → Nat) : Nat := l.foldl (fun n x => n + f x) 0

/-- Allocations of the open clusters (R601): cluster and mW. -/
def State.shares (s : State) (extra : Option Nat) : List (Nat × Nat) :=
  let opens := s.openClusters extra
  let parts := (List.range 16).filter s.partValid
  let dc := opens.map fun c => (c, s.predict c (s.ceiling c))
  let demC := fun (c : Nat) => Tab.get 0 dc c
  let inPart := fun (p : Nat) => opens.filter fun c => bitAt (s.partClusters p) c
  let demand := parts.map fun p => (p, sumOf (inPart p) demC)
  let dem := fun (p : Nat) => Tab.get 0 demand p
  let floor := fun (p : Nat) => s.get (Reg.PWR_PART_FLOOR_FLOOR_MW p)
  let budget := s.clBudget
  let fsum := sumOf parts floor
  let give1 := parts.map fun p => (p, min (dem p) (if budget < fsum then floor p * budget / fsum else floor p))
  let g1 := fun (p : Nat) => Tab.get 0 give1 p
  let rem := budget - sumOf parts g1
  let want := sumOf parts fun p => dem p - g1 p
  let give := fun (p : Nat) => if 0 < rem ∧ 0 < want then
      g1 p + min (dem p - g1 p) ((dem p - g1 p) * rem / want) else g1 p
  parts.flatMap fun p => (inPart p).map fun c => (c, if dem p = 0 then 0 else give p * demC c / dem p)

/-- The operating point that R602 chooses for an allocation; `none`: none fits. -/
def State.chooseOp (s : State) (c alloc : Nat) : Option Nat :=
  let top := s.ceiling c
  let beyond := decide (11 * alloc < 10 * s.get (Reg.PWR_CL_ALLOC_ESTIMATE c))
  let top := if beyond then min top (s.op c - 1) else top
  (List.range (top + 1)).reverse.find? fun k => decide (s.predict c k ≤ alloc)

/-- The operating point a pass sets, and whether none fits (R591, R602, R604): fixed-frequency mode keeps FIX_OP, below it
only while its prediction does not fit; OP0 with a limiter below 16 stays. -/
def State.nextOp (s : State) (c alloc : Nat) : Nat × Bool :=
  let x := s.clus c
  if s.on (Reg.PWR_CL_OP_FIXED c) then
    let k := s.ceiling c
    if x.broken ∧ alloc < s.predict c k then (min k (s.op c), false) else (k, false)
  else match s.chooseOp c alloc with
    | none => (0, true)
    | some k => if s.op c = 0 ∧ s.get (Reg.PWR_CL_OP_LIMIT c) < 15 then (0, false) else (k, false)

/-- The feedback rule of R604. -/
def State.adjustLimit (s : State) (c alloc : Nat) : State :=
  let n := s.get (Reg.PWR_CL_OP_LIMIT c)
  let e := s.get (Reg.PWR_CL_ALLOC_ESTIMATE c)
  if s.power.clamp then s
  else if alloc < e then s.setLimit c (n - 1)
  else if 10 * e < 9 * alloc then s.setLimit c (min 15 (n + 1)) else s

/-- A fixed-frequency cluster at limiter 1/16 that stays over its allocation for 10 intervals breaks by one operating
point (R591). -/
def State.fixedBreak (s : State) (c alloc : Nat) : State :=
  let x := s.clus c
  if alloc < s.get (Reg.PWR_CL_ALLOC_ESTIMATE c) ∧ s.get (Reg.PWR_CL_OP_LIMIT c) = 0 then
    if x.overRun < 9 then s.setClus c { x with overRun := x.overRun + 1 }
    else
      let s := (s.setClus c { x with overRun := 0, broken := true }).sat Reg.PWR_GOV_COUNTS_FIXED_BREAK 1
      s.changeOp c (s.op c - 1) (s.opFreq c (s.op c - 1))
  else s.setClus c { x with overRun := 0 }

/-- The feedback that an interval boundary applies to one cluster. -/
def State.feedback (s : State) (c alloc : Nat) : State :=
  if s.fixedMode c then (s.fixedBreak c alloc).adjustLimit c alloc
  else if s.op c = 0 ∧ (s.get (Reg.PWR_CL_OP_LIMIT c) < 15 ∨ (s.nextOp c alloc).2) then s.adjustLimit c alloc else s

/-- One pass over the open clusters (R601, R607): lowerings before raises.  `interval`: at an interval boundary. -/
def State.apportion (s : State) (interval : Bool) : State :=
  let s := s.showCap
  let l := s.shares none
  let s := (List.range 16).foldl (fun s c => s.put (Reg.PWR_CL_ALLOC_ALLOC c) (min 65535 (Tab.get 0 l c))) s
  let s := if interval then (s.openClusters none).foldl (fun s c => s.feedback c (Tab.get 0 l c)) s else s
  if s.lockstep then s
  else
    let want := (s.openClusters none).map fun c => (c, (s.nextOp c (Tab.get 0 l c)).1)
    let lower := want.filter fun e => decide (e.2 < s.op e.1)
    let higher := want.filter fun e => !(decide (e.2 < s.op e.1))
    (lower ++ higher).foldl (fun s e =>
      let s := s.changeOp e.1 e.2 (s.opFreq e.1 e.2)
      let x := s.clus e.1
      if x.broken ∧ s.on (Reg.PWR_CL_OP_FIXED e.1) ∧ s.op e.1 = s.ceiling e.1 then s.setClus e.1 { x with broken := false } else s) s

/-! ## The learned phase controller (R605-R607, R625) -/

/-- C_obs in pF as a fraction (R606): `uw`, the tile's dynamic estimate in µW, calibrated. -/
def State.observed (s : State) (c uw : Nat) : Nat × Nat :=
  let v := s.get (Reg.PWR_RAIL_STATUS_V_DIE c)
  (uw * 1000000, v * v * s.get (Reg.CLS_DFO_STATUS_F_MEAS c))

/-- The controller learns from one tile (R606). -/
def State.learn (s : State) (t uw : Nat) : State :=
  let c := t / 4
  match s.tilePhase t, Tab.get (none, 0) s.power.phase t with
  | some k, (_, since) =>
    let (n, d) := s.observed c uw
    if s.gtc < since + 1000 ∨ s.get (Reg.PWR_CL_OP_LIMIT c) ≠ 15 ∨ s.power.clamp ∨ (s.clus c).halved ∨ d = 0 ∨
        !(s.domOpen (clDom c)) then s
    else
      let seen := s.get (Reg.PWR_PHASE_SEEN c k)
      let old := s.get (Reg.PWR_PHASE_CEFF c k)
      let ceff := if seen = 0 then (2 * n + d) / (2 * d) else (2 * (15 * old * d + n) + 16 * d) / (32 * d)
      let s := (s.put (Reg.PWR_PHASE_CEFF c k) (min 65535 ceff)).sat (Reg.PWR_PHASE_SEEN c k) 1
      if 4 ≤ s.get (Reg.PWR_PHASE_SEEN c k) then s.put (Reg.PWR_PHASE_VALID c k) 1 else s
  | none, _ => s

/-! ## UNMET (R609) -/

/-- Every open cluster stands at OP0 and limiter 1/16. -/
def State.allLowest (s : State) : Bool :=
  (s.openClusters none).all fun c => s.op c == 0 && s.get (Reg.PWR_CL_OP_LIMIT c) == 0

/-- UNMET begins and ends at interval boundaries (R609). -/
def State.unmetCheck (s : State) : State :=
  let e := s.get Reg.PWR_ESTIMATE_CLUSTERS
  let b := s.clBudget
  let p := s.power
  if s.on Reg.PWR_EFF_CAP_UNMET then
    let s := s.sat Reg.PWR_GOV_COUNTS_UNMET_INT 1
    if 10 * e ≤ 9 * b then
      if p.fitRun < 99 then { s with power := { s.power with fitRun := p.fitRun + 1 } }
      else { s with power := { s.power with fitRun := 0, overRun := 0 } }.put Reg.PWR_EFF_CAP_UNMET 0
    else { s with power := { s.power with fitRun := 0 } }
  else if b < e ∧ s.allLowest then
    if p.overRun < 9 then { s with power := { p with overRun := p.overRun + 1 } }
    else
      let s := { s with power := { p with overRun := 0, fitRun := 0, unmetAt := none } }.put Reg.PWR_EFF_CAP_UNMET 1
      let s := s.sat Reg.PWR_GOV_COUNTS_UNMET_INT 1
      if s.secondOver p.capAt then
        { s with power := { s.power with capAt := some s.gtc } }.fault 0x5E uPWR srcNone (s.effCap.1 + e * 2 ^ 32)
      else s
  else { s with power := { p with overRun := 0 } }

/-! ## The interval (R592, R595) -/

/-- The calibrated part of an estimate (R592): the gain is in units of 1/4096. -/
def State.calibrated (s : State) (r est : Nat) : Nat := est * s.get (Reg.PWR_CAL_GAIN r) / 4096

/-- The uncalibrated estimate of a cluster (R592): what its activity costs by the energy weights at its on-die voltage, and
its leakage. -/
def State.rawEstimate (s : State) (c : Nat) : Nat :=
  Config.energy c (Tab.get 0 s.mon.activity c) (s.get (Reg.PWR_RAIL_STATUS_V_DIE c)) + s.leak c (s.op c)

/-- At each 1,000 t boundary, taken once it has passed (R592): a cluster's estimate comes of the activity that its samples
last reported (R42); `uncore`, everything else's, uncalibrated; `tiles`, each tile's uncalibrated dynamic estimate in µW. -/
def execEstimateInterval (uncore : BitVec 20) (tiles : List (BitVec 32)) (s : State) : Out :=
  whenTow s fun s =>
  if s.gtc / 1000 = s.power.estAt / 1000 then .next s else
  let est := (List.range 16).map fun c => (c, if s.domOpen (clDom c) then s.calibrated c (s.rawEstimate c) else 0)
  let total := sumOf (est.map (·.2)) id
  let un := s.calibrated 16 uncore.toNat
  let s := (s.put Reg.PWR_ESTIMATE_CLUSTERS (min (2 ^ 20 - 1) total)).put Reg.PWR_ESTIMATE_UNCORE un
  let s := est.foldl (fun s e => s.put (Reg.PWR_CL_ALLOC_ESTIMATE e.1) (min 65535 e.2)) s
  let e := total + un + s.power.energyRem
  let s := { s.wrap Reg.PWR_ENERGY_UJ (e / 100) with power := { s.power with energyRem := e % 100, estAt := s.gtc } }
  let s := (List.range 64).foldl (fun s t => s.learn t (s.calibrated (t / 4) (tiles.getD t 0).toNat)) s
  let s := (List.range 16).foldl (fun s c => if (s.clus c).halved then s.setClus c { s.clus c with halved := false } else s) s
  let s := { s with power := { s.power with stuckCap := s.on Reg.PWR_PIN_STATUS_SPILL_STUCK } }
  .next ((s.unmetCheck).apportion true)

/-! ## Reports (R605, R607, R608) -/

/-- The first report of a kind leaves the inbox. -/
def takeReport {α : Type} (f : Report → Option α) : List Report → Option (α × List Report)
  | [] => none
  | r :: rest => match f r with
    | some a => some (a, rest)
    | none => (takeReport f rest).map fun x => (x.1, r :: x.2)

def asPhase : Report → Option (Nat × Nat)
  | .phase t k => some (t, k)
  | .fault _ => none
  | .wake _ _ => none
  | .demand _ => none
  | .samplePart _ => none
  | .sampleCtx _ => none
  | .sampleProbe _ _ => none
  | .sampleLink _ _ => none
  | .sampleActivity _ _ => none

def asDemand : Report → Option Nat
  | .demand c => some c
  | .phase _ _ => none
  | .fault _ => none
  | .wake _ _ => none
  | .samplePart _ => none
  | .sampleCtx _ => none
  | .sampleProbe _ _ => none
  | .sampleLink _ _ => none
  | .sampleActivity _ _ => none

/-- A phase report reaches power control (R605, R607). -/
def execPhaseReport (s : State) : Out := whenTow s fun s =>
  .next <| match takeReport asPhase s.conc.inbox with
    | none => s
    | some ((t, k), rest) =>
      let s := { s with conc := { s.conc with inbox := rest },
                        power := { s.power with phase := s.power.phase.set t (some k, s.gtc) } }
      s.apportion false

/-- A demand report reaches power control (R80, R608, R686): it waits to be served, in ascending cluster order. -/
def execDemandReport (s : State) : Out := whenTow s fun s =>
  .next <| match takeReport asDemand s.conc.inbox with
    | none => s
    | some (c, rest) =>
      let d := s.power.demands
      let d := if d.contains c then d else d.takeWhile (· < c) ++ c :: d.dropWhile (· < c)
      { s with conc := { s.conc with inbox := rest }, power := { s.power with demands := d } }.wrap (Reg.MON_DEMAND_COUNT c) 1

/-- The allocation would cover the cluster's leakage at OP0 (R608). -/
def State.covers (s : State) (c : Nat) : Bool := decide (s.leak c 0 ≤ Tab.get 0 (s.shares (some c)) c)

/-- Power control serves the lowest pending demand that it need not hold (R80, R608, R609). -/
def execClusterOpenOnDemand (s : State) : Out := whenTow s fun s =>
  .next <| if !s.isReady ∨ s.on Reg.PWR_EFF_CAP_UNMET then s
  else
    match s.power.demands.find? s.covers with
    | none => s
    | some c =>
      let s := { s with power := { s.power with demands := s.power.demands.erase c } }
      if s.clEnabled c ∧ (s.dom (clDom c)).st = .closed then
        ((s.setDom (clDom c) Dom.reset).startDomain (clDom c)).apportion false
      else s

/-- The four tiles of an open cluster are idle and unclaimed. -/
def State.clusterFree (s : State) (c : Nat) : Bool :=
  s.domOpen (clDom c) && s.clusterIdle c && (List.range 4).all fun k => (s.dtile (4 * c + k)).claim.isNone

/-- A cluster idle for CLOSE_IDLE closes (R608). -/
def execClusterIdleClose (cluster : BitVec 4) (s : State) : Out := whenTow s fun s =>
  let c := cluster.toNat
  .next <| if !(s.clusterFree c) ∨ bitAt (s.get Reg.PWR_KEEP_OPEN_CL) c ∨ (List.range 4).any (fun k =>
      decide (s.dspTime < (s.dtile (4 * c + k)).idleSince + atLeast1 (s.get Reg.PWR_CLOSE_IDLE_TICKS))) then s
  else s.closeCluster c

/-- The cluster that R609 step 2 parks. -/
def State.toPark (s : State) : Option Nat :=
  let opens := fun (p : Nat) => (s.openClusters none).filter fun c => bitAt (s.partClusters p) c
  match (List.range 16).reverse.find? fun p => decide (1 < (opens p).length) with
  | none => none
  | some p => (opens p).reverse.head?

/-- One step of UNMET, every 100,000 t (R609). -/
def execUnmetStep (s : State) : Out := whenTow s fun s =>
  let due : Bool := match s.power.unmetAt with
    | some t => decide (t + 100000 ≤ s.gtc)
    | none => true
  .next <| if !(s.on Reg.PWR_EFF_CAP_UNMET) ∨ !due ∨ s.get Reg.PWR_ESTIMATE_CLUSTERS ≤ s.clBudget then s
  else
    let s := { s with power := { s.power with unmetAt := some s.gtc } }
    let free := (List.range 16).filter s.clusterFree
    if !free.isEmpty then free.foldl (fun s c => s.closeCluster c) s
    else match s.toPark with
      | some c => s.closeCluster c
      | none => s

/-! ## Leases (R599, R600, R621) -/

/-- A lease event as a trace record (R687). -/
def State.traceLease (s : State) : State :=
  s.trace 9 uPWR none (((s.leaseTerm.map (·.1)).getD s.capMw) % 2 ^ 20 + s.get Reg.PWR_LEASE_STATUS_STATE * 2 ^ 20) (s.time copyTow)

/-- A write to PWR_LEASE is decided (R599). -/
def State.writeLease (s : State) (src : Source) (v : Nat) : State :=
  let seq := bits v 63 48
  let term := bits v 38 32
  let fresh : Bool := match s.power.leaseSeq with
    | none => true
    | some old => newer seq old 16
  if !(s.on Reg.PWR_CTRL_LEASE_EN) ∨ !fresh ∨ term = 0 ∨ 100 < term then s.sat Reg.PWR_LEASE_STATUS_LEASE_DROP 1
  else
    let s := ((s.put Reg.PWR_LEASE_SEQ seq).put Reg.PWR_LEASE_TERM_MS term).put Reg.PWR_LEASE_BUDGET_MW (bits v 19 0)
    let s := { s with power := { s.power with leaseSeq := some seq, leaseEnd := some (s.gtc + term * 100000) } }
    let s := (s.put Reg.PWR_LEASE_STATUS_STATE 1).put Reg.PWR_LEASE_STATUS_SOURCE (b2n (src != .mgmt))
    s.traceLease.apportion false

def execLeaseWrite (src : Source) (value : BitVec 64) (s : State) : Out := whenTow s fun s =>
  .next (if s.srcReaches src then s.writeLease src value.toNat else s)

/-- The term of the lease passes without renewal (R600). -/
def execLeaseExpire (s : State) : Out := whenTow s fun s =>
  .next <| match s.power.leaseEnd with
    | none => s
    | some t =>
      if s.gtc < t ∨ s.get Reg.PWR_LEASE_STATUS_STATE ≠ 1 then s
      else
        let s := { s with power := { s.power with leaseEnd := none } }.put Reg.PWR_LEASE_STATUS_STATE 2
        let s := (s.sat Reg.PWR_GOV_COUNTS_LEASE_EXPIRED 1).fault 0x5D uPWR srcNone
          (1 + s.ownDie * 2 ^ 16 + s.fallbackMw * 2 ^ 32)
        s.traceLease.apportion false

/-- A write to PWR_CTRL (R599, R600, R612, R620). -/
def State.writePwrCtrl (s : State) (v : Nat) : State :=
  let was := s.on Reg.PWR_CTRL_LEASE_EN
  let s := ((s.put Reg.PWR_CTRL_GUARD_MW (bits v 31 16)).put Reg.PWR_CTRL_MODE (bits v 2 1)).put Reg.PWR_CTRL_LEASE_EN (bits v 0 0)
  let s := if s.lockstep then s
    else ((List.range 16).foldl (fun s c => s.put (Reg.PWR_CL_OP_F_GROUP c) 0) s).put Reg.PWR_PACE_STATUS_F_GROUP 0
  let s := if was ∧ !(bitAt v 0) then
      let s := { s with power := { s.power with leaseEnd := none, leaseSeq := none } }
      (((s.put Reg.PWR_LEASE_STATUS_STATE 0).put Reg.PWR_LEASE_SEQ 0).put Reg.PWR_LEASE_TERM_MS 0).put Reg.PWR_LEASE_BUDGET_MW 0
    else if !was ∧ bitAt v 0 then { s with power := { s.power with leaseSeq := none } } else s
  s.apportion false

/-! ## Phase tables (R625) -/

/-- The phase tables of the clusters of a mask are emptied. -/
def State.clearPhases (s : State) (mask : Nat) : State :=
  s.resetRegs fun o => decide (0x01078000 ≤ o) && decide (o < 0x0107C000) && bitAt mask ((o - 0x01078000) / 0x400)

def execPhaseClear (value : BitVec 32) (s : State) : Out := whenTow s fun s => .next (s.clearPhases (value.toNat % 65536))

/-! ## SPILL_N (R610, R611, R719) -/

/-- Every open cluster's gate applies the clamp, at place 3 of R39 (R610): limiter 1/16, SPILLED. -/
def State.clampOn (s : State) : State :=
  let s := { s with power := { s.power with clamp := true, clampAt := if s.power.clamp then s.power.clampAt else s.gtc } }
  (List.range 16).foldl (fun s c =>
    if s.domLive (clDom c) then s.gateAct (clDom c) 3 fun s => (s.limitTo c 0).put (Reg.PWR_CL_OP_SPILLED c) 1
    else s) s

/-- Power control then sets every open cluster to OP0, in a later gate cycle than the clamp, and its raises are discarded
(R610). -/
def State.allToOp0 (s : State) : State :=
  (List.range 16).foldl (fun s c =>
    if s.domLive (clDom c) then
      (s.setOp c 0 400).setClus c { (s.setOp c 0 400).clus c with raiseTo := none, paceTo := none }
    else s) s

/-- SPILL_N has been low for 1 t (R610, R611). -/
def execSpillAssert (s : State) : Out :=
  .next <| if s.on Reg.PWR_PIN_STATUS_SPILL_STUCK then s
  else
    let p := s.power
    let len := match p.spillAt with
      | some t => if p.clamp then s.gtc - t else p.spillLen
      | none => p.spillLen
    let fire := s.domLive 1 && s.secondOver p.spillRec
    let s := { s with power := { p with
      spillAt := some s.gtc, spillLen := len, spillRec := if fire then some s.gtc else p.spillRec } }
    let s := if s.domLive 1 then s.sat Reg.PWR_GOV_COUNTS_SPILLS 1 else s
    let s := if fire then s.fault 0x5C uPWR srcNone (min len (2 ^ 32 - 1) * 2 ^ 16) else s
    let s := if p.clamp then s else s.trace 10 uPWR none 1 (s.time copyTow)
    s.clampOn.allToOp0

/-- The gates lift the clamp: SPILLED clears and step limits count on (R94, R714); clusters stay at OP0 and limiter 1/16 until the next interval. -/
def State.clampOff (s : State) : State :=
  let n := s.gtc - s.power.clampAt
  let s := s.shiftSteps n
  let s := { s with
    power := { s.power with clamp := false },
    stop := s.stop.map fun (x : StopCmd) => { x with since := x.since + n } }
  (List.range 16).foldl (fun s c => s.put (Reg.PWR_CL_OP_SPILLED c) 0) s

/-- At least `n` t have passed since SPILL_N last fell. -/
def State.spillOver (s : State) (n : Nat) : Bool := match s.power.spillAt with
  | some t => decide (t + n ≤ s.gtc)
  | none => true

/-- SPILL_N has stayed high for 10,000 t (R611, R719). -/
def execSpillRelease (s : State) : Out :=
  .next <| if !(s.spillOver 10000) then s
  else if s.on Reg.PWR_PIN_STATUS_SPILL_STUCK then (s.put Reg.PWR_PIN_STATUS_SPILL_STUCK 0).pinEvent
  else if !s.power.clamp then s
  else
    let len := match s.power.spillAt with
      | some t => s.gtc - t - 10000
      | none => s.power.spillLen
    let s := { s with power := { s.power with spillLen := len, spillAt := none } }
    (s.clampOff).trace 10 uPWR none 0 (s.time copyTow)

/-- SPILL_N has been held low for 10 ms (R719). -/
def execSpillStuck (s : State) : Out :=
  .next <| if s.on Reg.PWR_PIN_STATUS_SPILL_STUCK ∨ !s.power.clamp ∨ !(s.spillOver 1000000) then s
  else
    let s := (s.put Reg.PWR_PIN_STATUS_SPILL_STUCK 1).pinEvent
    let s := s.fault 0x5C uPWR srcNone (1 + min s.power.spillLen (2 ^ 32 - 1) * 2 ^ 16)
    let s := { s with power := { s.power with stuckCap := true, spillAt := some s.gtc } }
    (s.clampOff).trace 10 uPWR none 0 (s.time copyTow)

/-! ## The pace group (R612-R616) -/

/-- PACE_PERIOD in ticks (R626). -/
def State.pacePeriod (s : State) : Nat := 1000 * atLeast1 (s.get Reg.PWR_PACE_CTRL_PACE_PERIOD)

/-- `[41:10]` of a count, as APPLY_AT holds it (R613). -/
def applyKey (t : Nat) : Nat := t / 1024 % 2 ^ 32

/-- F_SELF in 25 MHz units (R614), `none` with no open cluster. -/
def State.fSelf (s : State) : Option Nat :=
  let l := s.shares none
  let f := (s.openClusters none).map fun c => s.opFreq c ((s.chooseOp c (Tab.get 0 l c)).getD 0) / 25
  match f with
  | [] => none
  | x :: r => some (r.foldl min x)

/-- A word leaves by the ports of PORTS but one (R614). -/
def State.paceSendOn (s : State) (w : PaceWord) (not_ : Option Nat) : State :=
  let ports := (List.range 6).filter fun n => bitAt (s.get Reg.PWR_PACE_CTRL_PORTS) n && some n != not_
  { s with power := { s.power with paceOut := s.power.paceOut ++ ports.map fun n => (n, w) } }

/-- A word is kept for its APPLY_AT, and as its origin's last. -/
def State.keepPace (s : State) (w : PaceWord) : State :=
  { s with power := { s.power with paceIn := s.power.paceIn ++ [w], lastF := s.power.lastF.set w.origin w.f } }

/-- Members of the group in ascending order. -/
def State.paceMembers (s : State) : List Nat :=
  (List.range 512).filter fun d => bitAt (s.get (Reg.PWR_PACE_MASK_MEMBERS (d / 32))) (d % 32)

/-- The word of a member for an APPLY_AT. -/
def State.paceWord (s : State) (d key : Nat) : Option PaceWord :=
  s.power.paceIn.find? fun (w : PaceWord) => w.origin == d && w.at_ == key

/-- F_GROUP in 25 MHz units for an APPLY_AT (R615). -/
def State.fGroup (s : State) (key : Nat) : Option Nat :=
  let m := s.paceMembers.filter fun d => !(s.power.excluded.contains d)
  let f := m.filterMap fun d => match s.paceWord d key with
    | some w => some w.f
    | none => (s.power.lastF.find? fun e => e.1 == d).map (·.2)
  match f with
  | [] => none
  | x :: r => some (r.foldl min x)

/-- The lowest operating point whose frequency is at or above `f` MHz (R615), under the cluster's ceilings. -/
def State.paceOp (s : State) (c f : Nat) : Nat :=
  min (s.ceiling c) (((List.range 8).find? fun k => decide (f ≤ s.opFreq c k)).getD 7)

/-- For a raise, the voltage is posted as soon as F_GROUP is known (R615). -/
def State.pacePrepare (s : State) (f : Nat) : State :=
  (s.openClusters none).foldl (fun s c =>
    let k := s.paceOp c f
    let x := s.clus c
    if s.op c < k ∧ !s.power.clamp ∧ !(s.rail c).noRaise ∧ (s.rail c).mv < opVolt k then
      (s.postVolt c (opVolt k)).setClus c { x with lowerDue := false }
    else s) s

/-- At a PACE_PERIOD boundary a member hands its word to its ports (R614). -/
def execPaceSend (s : State) : Out := whenTow s fun s =>
  .next <| if !s.lockstep ∨ s.gtc % s.pacePeriod ≠ 0 ∨ (s.paceWord s.ownDie (applyKey (s.gtc + 2 * s.pacePeriod))).isSome then s
  else
    let f := s.fSelf.getD (s.freeVal 16)
    let w : PaceWord := ⟨s.ownDie, applyKey (s.gtc + 2 * s.pacePeriod), f, s.power.lagNext, 16⟩
    let s := { s.tookFree with power := { s.power with lagNext := false } }
    (s.keepPace w).paceSendOn w none

/-- A pace word arrives over a port (R613-R616): taken, and relayed once. -/
def execPaceWordReceive (port : BitVec 3) (word : BitVec 128) (s : State) : Out := whenTow s fun s =>
  let v := word.toNat
  let n := port.toNat
  let origin := bits v 24 16
  let key := bits v 63 32
  let hops := bits v 87 80
  .next <| if !s.lockstep ∨ bits v 7 0 ≠ s.get Reg.PWR_PACE_CTRL_GROUP ∨ (s.paceWord origin key).isSome then s
  else
    let w : PaceWord := ⟨origin, key, bits v 79 64, bitAt v 8, hops - 1⟩
    let early := decide (applyKey (s.gtc + s.pacePeriod / 2) ≤ key)
    let s := s.keepPace w
    let s := if early ∧ s.power.excluded.contains origin then
        { s with power := { s.power with
            excluded := s.power.excluded.erase origin, absent := s.power.absent.set origin 0 } }.put
          Reg.PWR_PACE_STATUS_EXCLUDED (s.power.excluded.length - 1)
      else s
    let s := if 1 < hops then s.paceSendOn w (some n) else s
    let all := s.paceMembers.all fun d => s.power.excluded.contains d || (s.paceWord d key).isSome
    match all, s.fGroup key with
    | true, some f => s.pacePrepare (25 * f)
    | _, _ => s

/-- A member's word for an APPLY_AT came or is missing (R616). -/
def State.paceAbsence (s : State) (key d : Nat) : State :=
  if s.power.excluded.contains d then s
  else if (s.paceWord d key).isSome then { s with power := { s.power with absent := s.power.absent.set d 0 } }
  else
    let n := Tab.get 0 s.power.absent d + 1
    let s := { s with power := { s.power with absent := s.power.absent.set d n } }
    if n < 8 then s
    else
      let s := { s with power := { s.power with excluded := s.power.excluded ++ [d] } }
      (s.put Reg.PWR_PACE_STATUS_EXCLUDED s.power.excluded.length).fault 0x5D uPWR srcNone
        (2 + d * 2 ^ 16 + s.effCap.1 * 2 ^ 32)

/-- A cluster ramps to the group's frequency, or waits for its voltage (R615); the second component: it starts late. -/
def State.paceCluster (s : State) (c f : Nat) : State × Bool :=
  let k := s.paceOp c f
  let f := min f (s.opFreq c k)
  let s := s.put (Reg.PWR_CL_OP_F_GROUP c) f
  let up := decide (s.op c < k) || (decide (k = s.op c) && decide ((s.clus c).target < f))
  if !up then (s.changeOp c k f, false)
  else if s.power.clamp ∨ (s.rail c).noRaise then (s, false)
  else if opVolt k ≤ s.get (Reg.PWR_RAIL_STATUS_V_DIE c) + 10 then (s.sendOp c k f, false)
  else
    let s := if (s.rail c).mv < opVolt k then s.postVolt c (opVolt k) else s
    (s.setClus c { s.clus c with raiseTo := some k, paceTo := some f, lowerDue := false }, true)

/-- At APPLY_AT a member takes the group's frequency (R615, R616). -/
def execPaceApply (s : State) : Out := whenTow s fun s =>
  let key := applyKey s.gtc
  .next <| if !s.lockstep ∨ s.gtc % s.pacePeriod ≠ 0 ∨ s.gtc = s.power.paceAt then s
  else
    let s := { s with power := { s.power with paceAt := s.gtc } }
    let s := s.paceMembers.foldl (fun s d => s.paceAbsence key d) s
    match s.fGroup key with
    | none => s
    | some f =>
      let (s, late) := (s.openClusters none).foldl (fun (a : State × Bool) c =>
        let r := a.1.paceCluster c (25 * f)
        (r.1, a.2 || r.2)) (s, false)
      let s := (s.put Reg.PWR_PACE_STATUS_F_GROUP f).put Reg.PWR_PACE_STATUS_LAG (b2n late)
      let s := { s with power := { s.power with
        lagNext := s.power.lagNext || late, paceIn := s.power.paceIn.filter fun (w : PaceWord) => w.at_ != key } }
      if late then s.fault 0x5D uPWR srcNone (3 + s.ownDie * 2 ^ 16 + s.effCap.1 * 2 ^ 32) else s

end Sys2Proof.Machine
end

