-- ==== Sys2Proof/Machine/Keeper.lean ====
section
/-! DEFINITION. The Keeper's mailboxes (R634-R635, R664-R666), the two-keeper commit (R636-R646), seal and model keys
(R647-R649) and the relock of debug (R651).  Mailbox 0 is HOST, 1 PLAT.  Whether a signature or a tag verifies is an
operand of the command that carries it. -/

namespace Sys2Proof.Machine

/-! ## Mailbox data and results (R635, R665, R666) -/

/-- Results of R665. -/
def kDone : Nat := 0
def kBadOpcode : Nat := 1
def kBadSig : Nat := 2
def kBadDigest : Nat := 3
def kNoNonce : Nat := 4
def kPending : Nat := 5
def kNonePending : Nat := 6
def kExpired : Nat := 7
def kRefused : Nat := 8
def kStale : Nat := 9
def kBadBlob : Nat := 0x0A
def kQuiesceTimeout : Nat := 0x0B
def kNotAllowed : Nat := 0x0C
def kFetchFailed : Nat := 0x0D

/-- KPR_MB_DATA of mailbox `m` as one little-endian number (R666). -/
def State.mbData (s : State) (m : Nat) : Nat :=
  (List.range 32).foldl (fun a j => a + s.get (Reg.KPR_MB_DATA_DATA m j) * 2 ^ (64 * j)) 0

/-- `n` bytes of the arguments at offset `o`. -/
def State.mbArg (s : State) (m o n : Nat) : Nat := pfld (s.mbData m) o n

/-- The Keeper writes `n` bytes of results at offset `o`; the other bytes keep what they hold. -/
def State.mbPut (s : State) (m o n v : Nat) : State :=
  let d := s.mbData m
  let d := d - pfld d o n * 256 ^ o + v % 256 ^ n * 256 ^ o
  (List.range 32).foldl (fun s j => s.put (Reg.KPR_MB_DATA_DATA m j) (d / 2 ^ (64 * j))) s

/-- Commit ID of the mailbox's proposal that expired last (R641). -/
def State.ownLapsed (s : State) (m : Nat) : Option Nat := Tab.get none s.keeper.lapsed m

/-! ## Commit failures (R645) -/

/-- A commit failure counts; the eighth within 1 s raises COMMIT_ABUSE, locks commits out and ends every proposal. -/
def State.commitFailure (s : State) : State :=
  let l := (s.keeper.fails.filter fun t => s.gtc < t + 100000000) ++ [s.gtc]
  if l.length < 8 then { s with keeper := { s.keeper with fails := l } }
  else
    let s := { s with keeper := { s.keeper with fails := [], lockEnd := some (s.gtc + 100000000) } }
    ((s.put Reg.KPR_STATE_LOCKOUT 1).endProps).alarmWide aCommitAbuse 0x73 0

/-- A command refused for its signature, its digest or its nonce (R645, R663). -/
def State.authFailure (s : State) (m cls result : Nat) : State :=
  ((s.fault 0x71 uKPR kprStop (cls % 8 + m * 2 ^ 8 + result * 2 ^ 9)).mbDone m result).commitFailure

/-! ## Change blobs (R636-R638) -/

/-- The class of a guarded register (R636), by its name in the register map. -/
def guardedClass (name : String) : Option Nat :=
  if name = "OBJ_PART_CFG" ∨ name = "DSP_SWAP_CFG" ∨ name = "MSH_PART_WEIR" then some 1
  else if name = "XLT_SEG_V" ∨ name = "XLT_SEG_P" ∨ name = "XLT_TAG_LO" ∨ name = "XLT_TAG_HI" ∨
      name = "XLT_TAG_CTRL" then some 2
  else if name = "KPR_SEAL_POLICY" ∨ name = "KPR_SIGNER" then some 3
  else if name = "KPR_ADMIT" ∨ name = "KPR_ADMIT_HASH" ∨ name = "LNK_DIE" ∨ name = "LNK_ADMIT" then some 4
  else if name = "KPR_ALARM_POLICY" then some 5
  else if name = "PWR_CAP_FLOOR" ∨ name = "PWR_PART_FLOOR" then some 6
  else if name = "KPR_DEBUG" ∨ name = "KPR_DEBUG_UNTIL" then some 7
  else none

/-- An entry of a blob (R637, R638): offset, width, value and mask, when its reserved bytes are 0, its register is one
of the class with that width, and its mask sets RWL bits only. -/
def parseEntry (cls raw : Nat) : Option (Nat × Nat × Nat × Nat) :=
  let o := pfld raw 0 4
  let w := pfld raw 4 1
  let mask := pfld raw 0x10 8
  match regAt o with
  | none => none
  | some d =>
    let rwl := d.maskOf fun t => t == .RWL
    if pfld raw 5 3 ≠ 0 ∨ guardedClass d.name ≠ some cls ∨ w ≠ (if d.wide then 8 else 4) ∨ o % w ≠ 0 ∨
        mask ||| rwl ≠ rwl then none
    else some (o, w, pfld raw 8 8, mask)

/-- A blob whose header and entries R638 admits: class, BASE_GEN and entries. -/
def parseBlob (raw : Nat) : Option (Nat × Nat × List (Nat × Nat × Nat × Nat)) :=
  let cls := pfld raw 4 1
  let n := pfld raw 0x0C 2
  if pfld raw 0 4 ≠ 0x424C424B ∨ cls < 1 ∨ 7 < cls ∨ n < 1 ∨ 1024 < n ∨ pfld raw 5 3 ≠ 0 ∨ pfld raw 0x0E 50 ≠ 0 then none
  else
    let es := (List.range n).map fun k => parseEntry cls (pfld raw (64 + 24 * k) 24)
    if es.any (·.isNone) then none
    else
      let l := es.filterMap id
      if (l.map (·.1)).eraseDups.length ≠ n then none else some (cls, pfld raw 8 4, l)

/-- The blob at `pa` (R637, R640 step 2): its header, then its whole length.  `none` where the fetch is refused. -/
def State.fetchBlob (s : State) (cid pa : Nat) : Option (List Byte) :=
  match s.ownRead cid pa 64 with
  | none => none
  | some h => s.ownRead cid pa (64 + 24 * min 1024 (pfld (leNat h) 0x0C 2))

/-! ## The guarded settings (R636, R637) -/

/-- One entry at the lock cycle: each register becomes (old & ~MASK) | (VALUE & MASK).  THAW and REKEY act at the lock
cycle and read 0 (R668, R669). -/
def State.applyEntry (s : State) (e : Nat × Nat × Nat × Nat) : State :=
  match regAt e.1 with
  | none => s
  | some d => d.fields.foldl (fun s f =>
      let fld : Fld := ⟨e.1, f.hi, f.lo, f.reset⟩
      let m := bits e.2.2.2 f.hi f.lo
      if m = 0 then s
      else if d.name = "KPR_ALARM_POLICY" ∧ f.lo = 16 ∨ d.name = "KPR_SEAL_POLICY" ∧ f.lo = 62 then s.put fld 0
      else
        let old := if d.name = "PWR_CAP_FLOOR" then s.floorMw else s.get fld
        s.put fld ((old - (old &&& m)) + (bits e.2.2.1 f.hi f.lo &&& m))) s

def State.applyEntries (s : State) (l : List (Nat × Nat × Nat × Nat)) : State := l.foldl State.applyEntry s

/-- Does a blob write 1 to bit `b` of the register at `o`? -/
def entrySets (l : List (Nat × Nat × Nat × Nat)) (o b : Nat) : Bool :=
  l.any fun e => e.1 == o && bitAt e.2.2.1 b && bitAt e.2.2.2 b

/-- A commit that rewrites DSP_SWAP_CFG of a partition turns its swap on again (R263). -/
def State.swapsOn (s : State) (l : List (Nat × Nat × Nat × Nat)) : State :=
  let off := (List.range 16).foldl (fun m p =>
    if l.any fun e => e.1 == Reg.DSP_SWAP_CFG p && e.2.2.2 != 0 then setBit m p false else m)
    (s.get Reg.DSP_SWAP_OFF_PARTS)
  s.put Reg.DSP_SWAP_OFF_PARTS off

def State.sealed (s : State) (p : Nat) : Bool := s.on (Reg.OBJ_PART_CFG_SEALED p)

/-- Model keys that partition `p` holds (R649). -/
def State.modelKeyCount (s : State) (p : Nat) : Nat := (s.modelKeys.filter fun k => k.1 == p).length

/-- Two masks name no bit in common, pairwise. -/
def disjointMasks : List Nat → Bool
  | [] => true
  | m :: r => r.all (fun n => m &&& n == 0) && disjointMasks r

/-- No partition in the debug scope is SEALED (R636). -/
def State.scopeClean (s : State) : Bool :=
  (List.range 16).all fun p => !(bitAt (s.get Reg.KPR_DEBUG_SCOPE) p && s.sealed p)

/-- R153, on the settings as they would stand. -/
def State.partsOk (s : State) : Bool :=
  s.partValid 0 && disjointMasks ((List.range 16).map s.partClusters) &&
  decide (((List.range 16).foldl (fun a p =>
    if s.partValid p then a + s.get (Reg.OBJ_PART_CFG_BASIN_SCRATCH p) else a) 0) ≤ 64) &&
  (List.range 16).all fun p =>
    if s.partValid p then decide (s.ctxCount p ≤ min 1024 (s.get (Reg.OBJ_PART_CFG_CTX_LIMIT p)))
    else s.ctxCount p == 0

/-- R598, on the settings as they would stand. -/
def State.floorsOk (s : State) : Bool :=
  decide (s.envBottom ≤ s.floorMw) && decide (s.floorMw ≤ s.envMax) &&
  decide (((List.range 16).foldl (fun a p =>
    if s.partValid p then a + s.get (Reg.PWR_PART_FLOOR_FLOOR_MW p) else a) 0) + s.uncoreReserve ≤ s.floorMw)

/-- A level at or above its source's minimum (R636); 0 acts as the minimum (R668). -/
def State.levelsOk (s : State) : Bool :=
  s.get Reg.KPR_ALARM_POLICY_VGLITCH != 1 && s.get Reg.KPR_ALARM_POLICY_CGLITCH != 1

/-- The content rules of a class (R636), on the settings as they would stand. -/
def State.contentOk (s : State) (cls : Nat) : Bool :=
  if cls = 1 then s.partsOk && s.scopeClean
  else if cls = 3 then
    decide (((List.range 16).foldl (fun a p =>
      if s.partValid p then a + s.get (Reg.KPR_SEAL_POLICY_MODEL_MAX p) else a) 0) ≤ 256) &&
    (List.range 16).all fun p => decide (s.modelKeyCount p ≤ s.get (Reg.KPR_SEAL_POLICY_MODEL_MAX p))
  else if cls = 4 then s.yard
  else if cls = 5 then s.levelsOk
  else if cls = 6 then s.floorsOk
  else if cls = 7 then s.scopeClean
  else true

/-! ## Quiescing (R636, R642) -/

/-- Clusters that a change removes from a partition (R268). -/
def State.removed (s t : State) : List Nat :=
  (List.range 16).filter fun c => (s.clusterPart c).isSome && s.clusterPart c != t.clusterPart c

/-- 512 KiB units of the basin window whose owning partition a change alters (R439). -/
def State.movedScratch (s t : State) : List Nat :=
  (List.range 64).filter fun k => s.carveOwner (k * 2 ^ 19) != t.carveOwner (k * 2 ^ 19)

/-- Partitions that a SEAL_POLICY change rekeys (R647). -/
def State.rekeys (s : State) (l : List (Nat × Nat × Nat × Nat)) : List Nat :=
  (List.range 16).filter fun p => entrySets l (Reg.KPR_SEAL_POLICY p) 62 && s.sealed p

/-- The change waits for units to quiesce (R636). -/
def State.mustQuiesce (s : State) (p : Proposal) : Bool :=
  let t := s.applyEntries p.entries
  if p.cls = 1 then !(s.removed t).isEmpty || !(s.movedScratch t).isEmpty
  else if p.cls = 2 then true
  else if p.cls = 3 then !(s.rekeys p.entries).isEmpty
  else if p.cls = 4 then (List.range 6).any s.portActive
  else false

/-! ## Keys (R647) -/

/-- A fresh seal key for partition `p`. -/
def State.freshSeal (s : State) (p : Nat) : State :=
  { s with sealKeys := s.sealKeys.set p s.keeper.nextKey, keeper := { s.keeper with nextKey := s.keeper.nextKey + 1 } }

/-- KPR_KEY_USE follows the slots (R669). -/
def State.countSlots (s : State) : State := s.put Reg.KPR_KEY_USE_SLOTS s.keeper.slots.length

/-- The seal key and the model keys of partition `p` are erased. -/
def State.erasePart (s : State) (p : Nat) : State :=
  let k := { s.keeper with slots := s.keeper.slots.filter fun (e : Nat × Nat × Nat) => e.2.1 != p }
  ({ s with keeper := k, sealKeys := s.sealKeys.set p 0, modelKeys := s.modelKeys.filter fun (e : Nat × Nat × Nat) =>
    e.1 != p }).countSlots

/-- Keys at the lock cycle that turns the partition table of `s` into that of `t` (R647). -/
def State.partKeys (s : State) (old : State) : State :=
  (List.range 16).foldl (fun s p =>
    let a := old.sealed p
    let b := s.sealed p
    let v := old.partValid p
    let w := s.partValid p
    if a && !b || v && !w then
      let s := s.erasePart p
      if b && !a then s.freshSeal p else s
    else if b && (!a || (w && !v)) then s.freshSeal p
    else s) s

/-! ## Debug (R651, R655) -/

/-- Debug changed from the settings of `old`: halted tiles that left the scope resume and their breakpoints clear; a lock
cycle that opens or closes debug is recorded. -/
def State.debugChanged (s : State) (old : State) : State :=
  let out := (List.range 64).filter fun t => (s.tile t).halted && !(s.inScope t)
  let s := out.foldl State.unhaltTile s
  let s := (List.range 4).foldl (fun s k =>
    if out.contains (s.get (Reg.DBG_BP_TILE k)) then
      ((s.put (Reg.DBG_BP_EN k) 0).put (Reg.DBG_BP_TILE k) 0).put (Reg.DBG_BP_PC k) 0
    else s) s
  if s.get Reg.KPR_DEBUG_DBG_EN ≠ old.get Reg.KPR_DEBUG_DBG_EN ∨
      s.get Reg.KPR_DEBUG_JTAG_EN ≠ old.get Reg.KPR_DEBUG_JTAG_EN then
    s.fault 0x7C uKPR kprStop (s.get Reg.KPR_DEBUG_SCOPE + s.get Reg.KPR_DEBUG_JTAG_EN * 2 ^ 16 +
      s.get Reg.KPR_DEBUG_DBG_EN * 2 ^ 17)
  else s

/-! ## The lock cycle (R642) -/

/-- What the units do at the lock cycle of a class, from the settings of `old` to those of `s`. -/
def State.lockFx (s : State) (cls : Nat) (l : List (Nat × Nat × Nat × Nat)) (old : State) : State :=
  if cls = 1 then
    let moved := old.movedScratch s
    let s := { s with basin := { s.basin with
      scratch := moved.foldl (fun (m : Cells) k => m.wipe (k * 2 ^ 19) (2 ^ 19)) s.basin.scratch } }
    let s := (s.partKeys old).swapsOn l
    (List.range 16).foldl (fun s c => (List.range 16).foldl (fun s i =>
      let n := clStop c
      let u := i / 4
      let k := i % 4
      if old.weir n u k = s.weir n u k then s
      else s.weirChanged n u k (old.weir n u k) (old.credit n u k)) s) s
  else if cls = 2 then { s with xlt := { s.xlt with tlb1 := [], tlb2 := [], cache := [] } }
  else if cls = 3 then (s.rekeys l).foldl State.freshSeal s
  else if cls = 5 then
    (if entrySets l Reg.KPR_ALARM_POLICY 16 then s.put Reg.KPR_STATE_QUARANTINE 0 else s).alarmPin
  else if cls = 6 then s.apportion false
  else if cls = 7 then s.debugChanged old
  else s

/-- Every entry is written in one towpath cycle and the class generation rises (R636, R642 step 4). -/
def State.lockCycle (s : State) (cls : Nat) (l : List (Nat × Nat × Nat × Nat)) : State :=
  let t := (s.applyEntries l).lockFx cls l s
  let g := (t.get (Reg.KPR_GEN_GEN (cls - 1)) + 1) % 2 ^ 32
  (t.put (Reg.KPR_GEN_GEN (cls - 1)) g).trace 7 uKPR none (cls + g % 2 ^ 16 * 2 ^ 16) (s.time copyTow)

/-- A countersigned commit ends without applying (R642, R663). -/
def State.commitEnds (s : State) (m : Nat) (p : Proposal) (result : Nat) : State :=
  let s := { s with keeper := { s.keeper with applying := none } }
  let s := s.fault 0x70 uKPR kprStop (p.cls + result * 2 ^ 8 + p.id * 2 ^ 32)
  ((s.endProp (1 - m)).mbDone m result).liftAll

/-- Steps 3 to 6 of R642: the content rules again, the lock cycle, and both vectors. -/
def State.applyCommit (s : State) (m : Nat) (p : Proposal) : State :=
  if !((s.applyEntries p.entries).contentOk p.cls) then s.commitEnds m p kRefused
  else
    let s := { s with keeper := { s.keeper with applying := none } }
    let s := (s.lockCycle p.cls p.entries).liftAll
    let s := s.mbPut m 0 4 (s.get (Reg.KPR_GEN_GEN (p.cls - 1)))
    let s := (s.endProp (1 - m)).mbDone m kDone
    s.eventIf (Reg.KPR_MB_CFG_EN (1 - m)) (Reg.KPR_MB_CFG_VEC (1 - m))

/-! ## The commands (R635, R640-R649) -/

/-- NONCE (R640): a fresh nonce, valid for 1,000,000 t. -/
def State.kNonce (s : State) (m : Nat) : State :=
  let n := s.freeVal 256
  let until_ := s.gtc + 1000000
  let k := { s.keeper with nonces := s.keeper.nonces.set m (some (n, until_)) }
  let s := ({ s with keeper := k }).tookFree
  ((s.mbPut m 0 32 n).mbPut m 0x20 8 until_).mbDone m kDone

/-- PROPOSE (R640). -/
def State.kPropose (s : State) (m at_ : Nat) (sigOk : Bool) : State :=
  if s.on Reg.KPR_STATE_LOCKOUT then s.mbDone m kNotAllowed
  else if (s.prop m).isSome then s.mbDone m kPending
  else
    let nonce := match Tab.get none s.keeper.nonces m with
      | some (n, e) => if at_ ≤ e then some n else none
      | none => none
    match nonce with
    | none => s.authFailure m 0 kNoNonce
    | some n =>
      let k := { s.keeper with nonces := s.keeper.nonces.set m none }
      let s := { s with keeper := k }
      let pa := s.mbArg m 0 8 % 2 ^ 52
      let cid := s.mbArg m 8 2
      match s.fetchBlob cid pa with
      | none => (s.refusedRec cid none pa).mbDone m kFetchFailed
      | some bs =>
        match parseBlob (leNat bs) with
        | none => s.mbDone m kBadBlob
        | some (cls, gen, l) =>
          let dig := digestOf bs % 2 ^ 384
          if s.mbArg m 0x10 48 ≠ dig then s.authFailure m cls kBadDigest
          else if !sigOk then s.authFailure m cls kBadSig
          else
            let id := s.keeper.nextId
            let until_ := s.gtc + 1000000
            let p : Proposal := ⟨id, cls, pa, cid, gen, until_, n, dig, l⟩
            let k := { s.keeper with
              props := s.keeper.props.set m (some p), nextId := (id + 1) % 2 ^ 32, lapsed := s.keeper.lapsed.set m none }
            let s := { s with keeper := k }
            let s := (s.put (Reg.KPR_MB_STATUS_PENDING_OWN m) 1).put (Reg.KPR_MB_STATUS_PENDING_PEER (1 - m)) 1
            let s := ((s.mbPut m 0 4 id).mbPut m 8 8 until_).mbDone m kDone
            s.eventIf (Reg.KPR_MB_CFG_EN (1 - m)) (Reg.KPR_MB_CFG_VEC (1 - m))

/-- COUNTERSIGN (R641): a change whose units need no quiesce is applied at once, any other waits for them (R642). -/
def State.kCountersign (s : State) (m at_ : Nat) (sigOk : Bool) : State :=
  let id := s.mbArg m 0 4
  if s.on Reg.KPR_STATE_LOCKOUT then s.mbDone m kNotAllowed
  else if (s.prop m).any (·.id == id) then s.mbDone m kNotAllowed
  else match s.prop (1 - m) with
    | none => s.mbDone m (if s.ownLapsed (1 - m) = some id then kExpired else kNonePending)
    | some p =>
      if p.id ≠ id then s.mbDone m (if s.ownLapsed (1 - m) = some id then kExpired else kNonePending)
      else if p.until_ < at_ then s.mbDone m kExpired
      else if s.mbArg m 0x10 48 ≠ p.digest then (s.endProp (1 - m)).authFailure m p.cls kBadDigest
      else if !sigOk then (s.endProp (1 - m)).authFailure m p.cls kBadSig
      else if p.baseGen ≠ s.get (Reg.KPR_GEN_GEN (p.cls - 1)) then s.commitEnds m p kStale
      else if !((s.applyEntries p.entries).contentOk p.cls) then s.commitEnds m p kRefused
      else if s.mustQuiesce p then
        ({ s with keeper := { s.keeper with applying := some m, quiesceAt := s.gtc } }).put (Reg.KPR_MB_STATUS_BUSY m) 1
      else s.applyCommit m p

/-- WITHDRAW (R643, R644). -/
def State.kWithdraw (s : State) (m : Nat) : State :=
  if (s.prop m).any (·.id == s.mbArg m 0 4) then (s.endProp m).mbDone m kDone else s.mbDone m kNonePending

/-- QUERY (R635); with nothing pending the spec gives no result, and RESULT is a free value (log entry 3). -/
def State.kQuery (s : State) (m : Nat) : State :=
  match s.prop (1 - m) with
  | none => (s.mbDone m (s.freeVal 8)).tookFree
  | some p =>
    let s := (((s.mbPut m 0 4 p.id).mbPut m 4 4 p.cls).mbPut m 8 8 p.pa).mbPut m 0x10 4 p.cid
    ((((s.mbPut m 0x14 4 p.baseGen).mbPut m 0x18 8 p.until_).mbPut m 0x20 32 p.nonce).mbPut m 0x40 48 p.digest).mbDone
      m kDone

/-- BUNDLE (R79): the arguments are held in PD0 and replace those held.  It belongs to PLAT. -/
def State.kBundle (s : State) (m : Nat) : State :=
  if m ≠ 1 then s.mbDone m kNotAllowed
  else
    let b := (s.mbArg m 0 8 % 2 ^ 52, s.mbArg m 8 2, s.mbArg m 0x10 4)
    ({ s with flight := { s.flight with bundle := some b } }).mbDone m kDone

/-- A model-key blob whose signer, serial, partition and policy R649 admits. -/
def State.keyBlobOk (s : State) (raw : Nat) : Bool :=
  let p := pfld raw 4 1
  let hash := digestOf (leBytes 64 (pfld raw 0x98 64)) % 2 ^ 384
  pfld raw 0 4 == 0x594B444D && pfld raw 0x10 8 == s.fuses.serial && decide (p < 16) && s.partValid p && s.sealed p &&
  s.on (Reg.KPR_SEAL_POLICY_MODEL_EN p) &&
  (List.range 4).any fun k => bitAt (s.get (Reg.KPR_SEAL_POLICY_SIGNERS p)) k && hash != 0 &&
    (List.range 6).all fun j => s.get (Reg.KPR_SIGNER_HASH k j) == hash / 2 ^ (64 * j) % 2 ^ 64

/-- KEY_LOAD is refused (R649): fault 0x7B, and nothing changes. -/
def State.keyRefused (s : State) (m detail : Nat) : State := (s.fault 0x7B uKPR kprStop detail).mbDone m kRefused

/-- KEY_LOAD (R649).  The slot is any that is free. -/
def State.kKeyLoad (s : State) (m : Nat) (sigOk tagOk : Bool) : State :=
  let pa := s.mbArg m 0 8 % 2 ^ 52
  let cid := s.mbArg m 8 2
  match s.ownRead cid pa 280 with
  | none =>
    let d := s.freeVal 4 + s.freeVal 36 / 16 * 2 ^ 32
    ((s.refusedRec cid none pa).keyRefused m d).tookFree
  | some bs =>
    let raw := leNat bs
    let p := pfld raw 4 1
    let id := pfld raw 8 4
    let detail := p % 16 + id * 2 ^ 32
    if !(s.keyBlobOk raw && sigOk && tagOk) then s.keyRefused m detail
    else
      let key := s.keeper.nextKey
      let keys := (s.modelKeys.filter fun (e : Nat × Nat × Nat) => !(e.1 == p && e.2.1 == id)) ++ [(p, id, key)]
      match s.keeper.slots.find? fun e => e.2.1 == p && e.2.2 == id with
      | some e =>
        let k := { s.keeper with nextKey := key + 1 }
        (({ s with keeper := k, modelKeys := keys }).mbPut m 0 4 e.1).mbDone m kDone
      | none =>
        let free := (List.range 256).filter fun i => !(s.keeper.slots.any (·.1 == i))
        if s.get (Reg.KPR_SEAL_POLICY_MODEL_MAX p) ≤ s.modelKeyCount p ∨ free.isEmpty then s.keyRefused m detail
        else
          let slot := free.getD (s.freeVal 16 % free.length) 0
          let k := { s.keeper with nextKey := key + 1, slots := s.keeper.slots ++ [(slot, p, id)] }
          let s := (({ s with keeper := k, modelKeys := keys }).tookFree).countSlots
          (s.mbPut m 0 4 slot).mbDone m kDone

/-- KEY_DROP (R649): a KEY_ID that is not loaded is ignored. -/
def State.kKeyDrop (s : State) (m : Nat) : State :=
  let p := s.mbArg m 0 4
  let id := s.mbArg m 4 4
  let k := { s.keeper with slots := s.keeper.slots.filter fun (e : Nat × Nat × Nat) => !(e.2.1 == p && e.2.2 == id) }
  let s := { s with keeper := k, modelKeys := s.modelKeys.filter fun (e : Nat × Nat × Nat) => !(e.1 == p && e.2.1 == id) }
  s.countSlots.mbDone m kDone

/-- The Keeper serves a command written at `at_` (R635).  In ALARMED it refuses all but QUERY (R662). -/
def State.serve (s : State) (m op at_ : Nat) (sigOk tagOk : Bool) : State :=
  if s.eng = engAlarmed ∧ op ≠ 5 then s.mbDone m kNotAllowed
  else if op = 1 then s.kNonce m
  else if op = 2 then s.kPropose m at_ sigOk
  else if op = 3 then s.kCountersign m at_ sigOk
  else if op = 4 then s.kWithdraw m
  else if op = 5 then s.kQuery m
  else if op = 0x10 then s.kBundle m
  else if op = 0x11 then s.kKeyLoad m sigOk tagOk
  else if op = 0x12 then s.kKeyDrop m
  else s.mbDone m kBadOpcode

/-- Waiting commands are served, HOST's first, while the Keeper is free (R635). -/
def State.serveWaiting (s : State) : State :=
  [0, 1].foldl (fun s m =>
    match s.keeper.applying, Tab.get none s.keeper.waiting m with
    | none, some (op, at_, sigOk, tagOk) =>
      let k := { s.keeper with waiting := s.keeper.waiting.set m none }
      ({ s with keeper := k }).serve m op at_ sigOk tagOk
    | _, _ => s) s

/-- A write of an opcode to KPR_MB_CMD of mailbox `m` (R635, R664): ignored while BUSY; it waits while the Keeper
serves the other mailbox. -/
def State.mailboxCmd (s : State) (m op : Nat) (sigOk tagOk : Bool) : State :=
  let s := s.serveWaiting
  if s.on (Reg.KPR_MB_STATUS_BUSY m) then s
  else if s.keeper.applying.isSome then
    let k := { s.keeper with waiting := s.keeper.waiting.set m (some (op, s.gtc, sigOk, tagOk)) }
    ({ s with keeper := k }).put (Reg.KPR_MB_STATUS_BUSY m) 1
  else s.serve m op s.gtc sigOk tagOk

def execNonce (mbox : BitVec 1) (s : State) : Out := whenLive 2 s fun s => .next (s.mailboxCmd mbox.toNat 1 false false)

/-- `sigOk`: the signature verifies over the commit statement (R639, R640 step 3). -/
def execPropose (mbox : BitVec 1) (sigOk : Bool) (s : State) : Out := whenLive 2 s fun s =>
  .next (s.mailboxCmd mbox.toNat 2 sigOk false)

/-- `sigOk`: the signature verifies over the commit statement with the countersigner's role (R639, R641 step 2). -/
def execCountersign (mbox : BitVec 1) (sigOk : Bool) (s : State) : Out := whenLive 2 s fun s =>
  .next (s.mailboxCmd mbox.toNat 3 sigOk false)

def execWithdraw (mbox : BitVec 1) (s : State) : Out := whenLive 2 s fun s =>
  .next (s.mailboxCmd mbox.toNat 4 false false)

def execQuery (mbox : BitVec 1) (s : State) : Out := whenLive 2 s fun s => .next (s.mailboxCmd mbox.toNat 5 false false)

def execBundle (mbox : BitVec 1) (s : State) : Out := whenLive 2 s fun s =>
  .next (s.mailboxCmd mbox.toNat 0x10 false false)

/-- `sigOk` and `tagOk`: the blob's signature and its GCM tag verify (R649). -/
def execKeyLoad (mbox : BitVec 1) (sigOk tagOk : Bool) (s : State) : Out := whenLive 2 s fun s =>
  .next (s.mailboxCmd mbox.toNat 0x11 sigOk tagOk)

def execKeyDrop (mbox : BitVec 1) (s : State) : Out := whenLive 2 s fun s =>
  .next (s.mailboxCmd mbox.toNat 0x12 false false)

/-- The commit in its quiesce: countersigning mailbox and proposal. -/
def State.quiescing (s : State) : Option (Nat × Proposal) :=
  match s.keeper.applying with
  | none => none
  | some m => (s.prop (1 - m)).map fun p => (m, p)

/-- Every removed cluster's fence is acknowledged (R268, R642 step 2). -/
def State.fencesHold (s : State) (p : Proposal) : Bool :=
  (s.removed (s.applyEntries p.entries)).all fun c => s.disp.fences.any fun e => e.cluster == c && e.acked

/-- Every quiesced unit has acknowledged (R642): the change is applied. -/
def execQuiesceAck (s : State) : Out := whenLive 2 s fun s =>
  .next <| match s.quiescing with
    | none => s
    | some (m, p) => if s.keeper.quiesceAt + 1000000 < s.gtc ∨ (p.cls = 1 ∧ !(s.fencesHold p)) then s
      else (s.applyCommit m p).serveWaiting

/-- A unit has not acknowledged within 1,000,000 t (R642). -/
def execQuiesceTimeout (s : State) : Out := whenLive 2 s fun s =>
  .next <| match s.quiescing with
    | none => s
    | some (m, p) => if s.gtc ≤ s.keeper.quiesceAt + 1000000 then s
      else (s.commitEnds m p kQuiesceTimeout).serveWaiting

/-- A COUNTERSIGN written in time waits in mailbox `m` while the Keeper serves the other (R635, R641). -/
def State.countersignWaits (s : State) (m : Nat) (p : Proposal) : Bool := match Tab.get none s.keeper.waiting m with
  | some (op, at_, _, _) => op == 3 && decide (at_ ≤ p.until_)
  | none => false

/-- The window of a mailbox's proposal has ended uncountersigned (R643): a COUNTERSIGN written by its end, served or waiting,
still counts (R641). -/
def execProposalExpire (mbox : BitVec 1) (s : State) : Out := whenLive 2 s fun s =>
  let m := mbox.toNat
  .next <| match s.prop m with
    | none => s
    | some p =>
      if s.gtc ≤ p.until_ ∨ s.keeper.applying = some (1 - m) ∨ s.countersignWaits (1 - m) p then s
      else
        let k := { s.keeper with lapsed := s.keeper.lapsed.set m (some p.id) }
        let s := ({ s with keeper := k }).fault 0x72 uKPR kprStop (p.cls + p.id * 2 ^ 32)
        ((s.endProp m).put (Reg.KPR_MB_STATUS_RESULT m) kExpired).commitFailure

/-- The lockout ends 100,000,000 t after the failure that set it (R645). -/
def execLockoutEnd (s : State) : Out := whenLive 2 s fun s =>
  .next <| match s.keeper.lockEnd with
    | none => s
    | some t => if s.gtc < t then s
      else ({ s with keeper := { s.keeper with lockEnd := none } }).put Reg.KPR_STATE_LOCKOUT 0

/-- The GTC reaches KPR_DEBUG_UNTIL (R651): the Keeper closes debug at a lock cycle of its own. -/
def execDebugRelock (s : State) : Out := whenLive 2 s fun s =>
  let u := s.get Reg.KPR_DEBUG_UNTIL_GTC
  .next (if u = 0 ∨ s.gtc < u then s
    else s.lockCycle 7 [(Reg.KPR_DEBUG, 4, 0, 2 ^ 32 - 1), (Reg.KPR_DEBUG_UNTIL, 8, 0, 2 ^ 64 - 1)])

end Sys2Proof.Machine
end

