-- ==== Sys2Proof/Machine/Debug.lean ====
section
/-! DEFINITION. The DBG block (R652-R657): one tile at a time is halted, stepped, inspected and changed. -/

namespace Sys2Proof.Machine

/-- Results of DBG_STATUS (R657). -/
def dDone : Nat := 0
def dOutOfScope : Nat := 1
def dNotHalted : Nat := 2
def dBadAddr : Nat := 3
def dBadCmd : Nat := 4

def State.dbgResult (s : State) (r : Nat) : State := s.put Reg.DBG_STATUS_RESULT r

/-- The DBG block answers at all (R650, R652). -/
def State.dbgOn (s : State) : Bool := s.on Reg.KPR_DEBUG_DBG_EN && s.eng != engAlarmed

/-- The address in DBG_ADDR: tile store or register area, and the byte offset (R654, R657). -/
def State.dbgAddr (s : State) : Bool × Nat := (s.on Reg.DBG_ADDR_SPACE, 8 * s.get Reg.DBG_ADDR_OFFSET)

/-- The address lies in its space: 192 KiB of register area (R309), 1 MiB of tile store. -/
def State.dbgAddrOk (s : State) : Bool := s.dbgAddr.1 || decide (s.dbgAddr.2 < 0x30000)

/-- Eight bytes of a tile (R654). -/
def Tile.dbgRead (t : Tile) (store : Bool) (o : Nat) : Nat :=
  if store then t.rdLe o 8 else (t.area true).le o 8

/-- Eight bytes of a tile set (R654): a register-area field under the rules of R310, or the tile store (R289). -/
def Tile.dbgWrite (t : Tile) (store : Bool) (o v : Nat) : Tile :=
  if store then t.wrLe o 8 v
  else
    let n := t.loadArea ((t.area true).putLe o 8 v)
    if 0x24800 ≤ o ∧ o < 0x24C00 then n else { n with barges := t.barges }

/-- HALT (R653). -/
def State.dbgHalt (s : State) (t : Nat) : State := (s.haltTile t 1).dbgResult dDone

/-- RESUME (R653, R656). -/
def State.dbgResume (s : State) (t : Nat) : State := (s.unhaltTile t).dbgResult dDone

/-- STEP (R653, R656): the next instruction of the tile's task issues, and the tile halts again after it.  A tile without
a task has none to issue. -/
def State.dbgStep (s : State) (t : Nat) : State :=
  let s := if (s.tile t).task.isNone then s.updTile t fun x => { x with haltCause := 2 }
    else (s.unhaltTile t).updTile t fun x => { x with stepping := true }
  s.dbgResult dDone

/-- READ (R654). -/
def State.dbgRead (s : State) (t : Nat) : State :=
  if s.dbgAddrOk then
    (s.put Reg.DBG_DATA_DATA ((s.tile t).dbgRead s.dbgAddr.1 s.dbgAddr.2)).dbgResult dDone
  else s.dbgResult dBadAddr

/-- WRITE (R654). -/
def State.dbgWrite (s : State) (t : Nat) : State :=
  if s.dbgAddrOk then
    (s.updTile t fun x => x.dbgWrite s.dbgAddr.1 s.dbgAddr.2 (s.get Reg.DBG_DATA_DATA)).dbgResult dDone
  else s.dbgResult dBadAddr

/-- A write to DBG_CMD (R652, R653): ignored while debug is closed or BUSY is 1; the tile must lie in the scope, and be halted
but for HALT.  The command acts at once, and BUSY falls at the next advance of the count (log entry 104). -/
def State.dbgCmd (s : State) (t cmd : Nat) : State :=
  if !s.dbgOn ∨ s.on Reg.DBG_STATUS_BUSY then s
  else
    let s := (s.put Reg.DBG_CMD_TILE t).put Reg.DBG_STATUS_BUSY 1
    if cmd < 1 ∨ 5 < cmd then s.dbgResult dBadCmd
    else if !(s.inScope t) then s.dbgResult dOutOfScope
    else if cmd = 1 then s.dbgHalt t
    else if !((s.tile t).halted) then s.dbgResult dNotHalted
    else if cmd = 2 then s.dbgResume t
    else if cmd = 3 then s.dbgStep t
    else if cmd = 4 then s.dbgRead t
    else s.dbgWrite t

def execHalt (tile : BitVec 6) (s : State) : Out := whenTow s fun s => .next (s.dbgCmd tile.toNat 1)

def execDbgResume (tile : BitVec 6) (s : State) : Out := whenTow s fun s => .next (s.dbgCmd tile.toNat 2)

def execStep (tile : BitVec 6) (s : State) : Out := whenTow s fun s => .next (s.dbgCmd tile.toNat 3)

def execRead (tile : BitVec 6) (s : State) : Out := whenTow s fun s => .next (s.dbgCmd tile.toNat 4)

def execWrite (tile : BitVec 6) (s : State) : Out := whenTow s fun s => .next (s.dbgCmd tile.toNat 5)

/-- A tile is about to issue the instruction that a breakpoint names (R656). -/
def execBreakpoint (tile : BitVec 6) (s : State) : Out :=
  let t := tile.toNat
  let x := s.tile t
  .next (if x.task.isSome ∧ x.core = .running ∧ !x.halted ∧ s.breaks t then s.haltTile t 3 else s)

end Sys2Proof.Machine
end

