-- ==== Sys2Proof/Machine/Stoppage.lean ====
section
/-! DEFINITION. Stoppages and reopenings by command (R698-R715, R723-R726). -/

namespace Sys2Proof.Machine

/-- Results of PWR_STOP_STATUS (R724). -/
def pDone : Nat := 0
def pAlarmed : Nat := 1
def pPackage : Nat := 2
def pBadUnit : Nat := 3
def pNotStopped : Nat := 4
def pAlready : Nat := 5
def pSwitching : Nat := 6
def pLastMemory : Nat := 7
def pBadBank : Nat := 8

/-- Units of each kind (R698). -/
def unitCount (kind : Nat) : Nat := match kind with
  | 1 => 16
  | 2 => 2
  | 3 => 4
  | 4 => 6
  | 5 => 1
  | _ => 0

/-- A unit that receives traffic through the maps of the route banks (R698). -/
def mapped (kind : Nat) : Bool := kind == 2 || kind == 3 || kind == 4

/-- The inactive bank is fit for a STOP of a mapped unit (R702): no NI's bank names it. -/
def State.bankClear (s : State) (kind i : Nat) : Bool :=
  let e := 1 - s.get Reg.MSH_EPOCH_CURRENT
  match kind with
  | 2 => s.bsMap e (2 * i) == 0x3F && s.bsMap e (2 * i + 1) == 0x3F
  | 3 => (List.range 4).all fun l => s.mpMap e l != mpStop i
  | _ => (List.range 512).all fun d => s.dieMap e d != i

/-- The inactive bank names a mapped unit again (R709). -/
def State.bankNames (s : State) (kind i : Nat) : Bool :=
  let e := 1 - s.get Reg.MSH_EPOCH_CURRENT
  match kind with
  | 2 => s.bsMap e (2 * i) == bsStop (2 * i) && s.bsMap e (2 * i + 1) == bsStop (2 * i + 1)
  | 3 => (List.range 4).any fun l => s.mpMap e l == mpStop i
  | _ => (List.range 512).any fun d => s.dieMap e d == i

/-- Why a command is refused (R700), in the order of its list. -/
def State.stopRefusal (s : State) (op kind i : Nat) : Option Nat :=
  if s.eng = engFlight ∨ s.eng = engFailed ∨ s.eng = engAlarmed then some pAlarmed
  else if (kind = 4 ∧ !s.yard) ∨ (kind = 5 ∧ s.yard) then some pPackage
  else if unitCount kind ≤ i ∨ (kind = 1 ∧ !(s.clEnabled i)) then some pBadUnit
  else if op = 2 ∧ !(s.inStoppage kind i) then some pNotStopped
  else if op = 1 ∧ s.inStoppage kind i then some pAlready
  else if s.get Reg.MSH_EPOCH_STATE ≠ 0 then some pSwitching
  else if op = 1 ∧ kind = 3 ∧ (List.range 4).all (fun k => k == i || s.inStoppage 3 k) then some pLastMemory
  else if op = 1 ∧ mapped kind ∧ !(s.bankClear kind i) then some pBadBank
  else if op = 2 ∧ mapped kind ∧ !(s.bankNames kind i) then some pBadBank
  else none

/-- PD11 is held closed (R706): the sensor ingress goes into stoppage by command. -/
def State.sensorStopped (s : State) : State :=
  let s := s.dropCapture
  ((s.switchOff false 11 .stoppage).enterStop 5 0 false).endStop pDone

/-- A STOP that is not refused begins (R701, R702, R706). -/
def State.stopUnit (s : State) (kind i : Nat) : State :=
  let s := s.put Reg.PWR_STOP_STATUS_STEP 6
  match kind with
  | 1 => s.closeCluster i
  | 5 => if s.island.capture.isSome then s else s.sensorStopped
  | _ =>
    let (s, ok) := s.startSwitch
    if ok then s else s.switchFailed

/-- A REOPEN that is not refused begins (R709): the unit's first step. -/
def State.reopenUnit (s : State) (x : StopCmd) : State :=
  match x.kind with
  | 1 => s.beginReopen x (clDom x.index)
  | 2 => s.beginReopen x (6 + x.index)
  | 5 => s.beginReopen x 11
  | 3 => ({ s with stop := some { x with reopen := true, since := s.gtc } }).put Reg.PWR_STOP_STATUS_STEP 1
  | _ =>
    let s := ({ s with stop := some { x with reopen := true } }).put Reg.PWR_STOP_STATUS_STEP 1
    let s := (s.put (Reg.LNK_PORT_CTRL_EN x.index) 1).setPort x.index Port.reset
    s.train x.index

/-- A write to PWR_STOP_CMD (R700, R723). -/
def State.stopCmd (s : State) (v : Nat) : State :=
  let op := bits v 9 8
  let kind := bits v 7 4
  let i := bits v 3 0
  if bits v 31 16 ≠ 0xA5C3 ∨ (op ≠ 1 ∧ op ≠ 2) then s
  else if s.on Reg.PWR_STOP_STATUS_BUSY ∨ s.stop.isSome then s.put Reg.PWR_STOP_STATUS_OVERRUN 1
  else
    let s := s.put Reg.PWR_STOP_STATUS_BANK_HELD 0
    match s.stopRefusal op kind i with
    | some r => s.put Reg.PWR_STOP_STATUS_RESULT r
    | none =>
      let x : StopCmd := ⟨kind, i, false, false, s.byFailure kind i, s.gtc, false⟩
      let s := (({ s with stop := some x }).put Reg.PWR_STOP_STATUS_BUSY 1).put Reg.PWR_STOP_STATUS_ATTEMPT 0
      if op = 1 then s.stopUnit kind i else s.reopenUnit x

/-- PWR_STOP_CMD written with OP STOP (R701, R702, R706). -/
def execStop (src : Source) (value : BitVec 32) (s : State) : Out :=
  .next (if s.srcReaches src ∧ bits value.toNat 9 8 = 1 then s.stopCmd value.toNat else s)

/-- PWR_STOP_CMD written with OP REOPEN (R709). -/
def execReopen (src : Source) (value : BitVec 32) (s : State) : Out :=
  .next (if s.srcReaches src ∧ bits value.toNat 9 8 = 2 then s.stopCmd value.toNat else s)

/-- 4 × LNK_RESEND_T after the flip, the port answers the entries still outstanding; 8 × LNK_ACK_TIMEOUT after none is left
it is disabled whatever remains unacknowledged (R705). -/
def execLinkStopDrainExpire (s : State) : Out :=
  .next <| match s.stop with
    | none => s
    | some x =>
      let age := s.time (copyLink x.index) - x.since
      if x.kind ≠ 4 ∨ x.reopen ∨ s.get Reg.PWR_STOP_STATUS_STEP ≠ 6 ∨ s.get Reg.MSH_EPOCH_STATE ≠ 0 then s
      else if !x.drained then
        if age < 4 * atLeast1 (s.get Reg.LNK_RESEND_T_TICKS) then s
        else (s.link.out.filter fun (r : LinkReq) => r.h.hold.toNat == x.index).foldl State.giveUp s
      else if age < 8 * atLeast1 (s.get Reg.LNK_ACK_TIMEOUT_TICKS) then s
      else ((s.disablePort x.index).enterStop 4 x.index false).endStop pDone

/-- The capture in progress at a STOP of the sensor ingress has ended, or has taken WAT_FRAME_WINDOW from the command on
(R706). -/
def execSensorStopCaptureEnd (s : State) : Out :=
  .next <| match s.stop with
    | some x =>
      if x.kind = 5 ∧ !x.reopen ∧
          (s.island.capture.isNone ∨ x.since + s.get Reg.WAT_FRAME_WINDOW_TICKS ≤ s.gtc) then s.sensorStopped
      else s
    | none => s

/-- Limit of a unit's self-test (R710), doubled where SPILL_N asserted during the test (R714). -/
def State.testLimit (s : State) (x : StopCmd) : Nat :=
  let n := match x.kind with
    | 1 => 4000
    | 2 => 1000
    | _ => 2000
  if s.power.clamp || s.power.spillAt.any (x.since ≤ ·) then 2 * n else n

/-- The self-test of the unit being reopened ends (R709-R711): it passes within its limit, or a mismatch or the limit fails
step 6.  A cluster's tile stores are zeroed with the test. -/
def execSelftest (pass : Bool) (s : State) : Out :=
  .next <| match s.stop with
    | none => s
    | some x =>
      if !x.reopen ∨ s.get Reg.PWR_STOP_STATUS_STEP ≠ 3 ∨ (pass ∧ x.since + s.testLimit x < s.gtc) then s
      else match x.kind with
        | 1 =>
          if !pass then s.failStep (clDom x.index) 6
          else
            let s := (List.range 4).foldl (fun s k =>
              s.updTile (4 * x.index + k) fun t => { t with store := [], written := [] }) s
            s.put Reg.PWR_STOP_STATUS_STEP 4
        | 2 => if pass then s.routeStep else s.failStep (6 + x.index) 6
        | 3 => if pass then s.routeStep else s.memStopFail x 6
        | _ => s

/-- Step 4 of a cluster's reopening (R712): its NI loads its banks and CURRENT with its weir buckets full, and the
cluster enters service, OPEN (R709 step 5). -/
def execRoute (s : State) : Out :=
  .next <| match s.stop with
    | none => s
    | some x =>
      if x.kind ≠ 1 ∨ !x.reopen ∨ s.get Reg.PWR_STOP_STATUS_STEP ≠ 4 then s
      else
        let d := clDom x.index
        let n := clStop x.index
        let s := { s with mesh := { s.mesh with credit := s.mesh.credit.drop fun k => k / 16 == n } }
        let s := (s.setDom d { s.dom d with ready := false, attempt := 0 }).setSt d .opened
        let s := (List.range 4).foldl (fun s k =>
          s.setDtile (4 * x.index + k) { s.dtile (4 * x.index + k) with idleSince := s.time copyDsp }) s
        (s.leaveStop 1 x.index).endStop pDone

end Sys2Proof.Machine
end

