-- ==== Sys2Proof/Machine/Pins.lean ====
section
/-! DEFINITION. The thermal diode and the driven pins (R718, R720, R721), temperature, throttling and the trip
(R749-R754), the dynamic address of the MGMT target (R744) and the public JTAG instructions (R650). -/

namespace Sys2Proof.Machine

/-! ## Temperature (R749, R751-R754) -/

/-- On-die sensors that read: those of OPEN clusters, and the SoC sensor in PD1 (R749). -/
def State.liveSensors (s : State) : List Nat :=
  ((List.range 16).filter fun c => s.domOpen (clDom c)) ++ (if s.domLive 1 then [16] else [])

/-- The hottest on-die reading, where one reads. -/
def State.hottest (s : State) : Option Nat :=
  s.liveSensors.foldl (fun m k => some (max (m.getD 0) (s.temp k))) none

/-- T_hot (R749, R718): the highest on-die reading and the diode's; with DIODE in fault, the hottest on-die sensor plus
5 degrees.  Where no on-die sensor reads and the diode is in fault, the spec gives no reading (log entry 33). -/
def State.tHot (s : State) : Nat :=
  if s.get Reg.PWR_PIN_STATUS_DIODE = 0 then max (s.hottest.getD 0) (s.temp 17)
  else match s.hottest with
    | some t => min 1023 (t + 20)
    | none => s.freeVal 10

/-- SOURCE (R757): a sensor that reads the highest, never the diode while it is in fault (R758).  Of several equal ones
the spec names none. -/
def State.hotSource (s : State) : Nat :=
  let l := s.liveSensors ++ (if s.get Reg.PWR_PIN_STATUS_DIODE = 0 then [17] else [])
  let top := l.foldl (fun m k => max m (s.temp k)) 0
  let eq := l.filter fun k => s.temp k == top
  eq.getD (s.freeVal 5 % max 1 eq.length) (s.freeVal 4)

/-- TEMP units of 125 degrees (R681, R752). -/
def tripTemp : Nat := 756

/-- A reading of sensor `k` is a TEMP sample (R681). -/
def State.sampleTemp (s : State) (k : Nat) : State := s.sample 7 (s.temp k) 63 fun sub => sub % 32 == k

/-- A trip (R752, R753): the clamp net reaches every cluster and TRIPPED is set; running tasks end without fence, record or
event as their units are switched off, PD11 among them.  In watch standby the trip only suspends captures and watch wakes.
A die in ALARMED keeps that state (R662). -/
def State.trip (s : State) : State :=
  let was := s.on Reg.PWR_THERM_STATUS_TRIPPED
  let s := s.clampOn.put Reg.PWR_THERM_STATUS_TRIPPED 1
  let s := if was then s else s.pinEvent
  if s.eng = engStandby then { s with pins := { s.pins with heatHold := true } }
  else
    let s := ((s.endStop 0x0B).stopDispatch.haltFlight).put Reg.PWR_FLIGHT_CTRL_STANDBY_REQ 0
    (s.switchOffAll false [11]).flightFailed

/-- E of R751: the calibrated estimate of the last interval, clusters and uncore together. -/
def State.lastEstimate (s : State) : Nat := s.get Reg.PWR_ESTIMATE_CLUSTERS + s.get Reg.PWR_ESTIMATE_UNCORE

/-- TCAP and THROTTLE after a reading of `t` (R751). -/
def State.throttle (s : State) (t : Nat) : State :=
  let l := s.thermLimit
  let on := s.on Reg.PWR_THERM_STATUS_THROTTLE
  let cut := fun (x : Nat) => max s.envBottom (x * 15 / 16)
  if l ≤ t then
    let s := s.put Reg.PWR_TCAP_TCAP (if on then cut s.tcap else cut (min s.envMax s.lastEstimate))
    if on then s else (s.put Reg.PWR_THERM_STATUS_THROTTLE 1).pinEvent
  else if on ∧ t + 12 ≤ l then
    let x := min s.envMax (s.tcap + s.envMax / 64)
    let s := s.put Reg.PWR_TCAP_TCAP x
    if x = s.envMax then (s.put Reg.PWR_THERM_STATUS_THROTTLE 0).pinEvent else s
  else s

/-- Every 1,000 t the sensors read (R749, R751, R753): `readings` from sensor 0 on, in TEMP units; the SoC sensor is number
16.  A reading at 125 degrees acts as the trip alone (R752, R754); a suspension of R753 ends once T_hot is at L - 40. -/
def execThermalReading (readings : List (BitVec 10)) (s : State) : Out :=
  .next <| if s.gtc < s.pins.tempAt + 1000 then s
  else
    let s : State := { s with pins := { s.pins with tempAt := s.gtc } }
    let s : State := s.liveSensors.foldl (fun (s : State) k => match readings[k]? with
      | some r => { s with pins := { s.pins with temps := s.pins.temps.set k r.toNat } }.sampleTemp k
      | none => s) s
    let t : Nat := s.tHot
    let s : State := (((s.put Reg.PWR_THERM_STATUS_SOURCE s.hotSource).put Reg.PWR_THERM_STATUS_T_HOT t).put
      Reg.PWR_THERM_STATUS_T_PEAK (max t (s.get Reg.PWR_THERM_STATUS_T_PEAK))).tookFree
    let s := if t + 40 ≤ s.thermLimit then { s with pins := { s.pins with heatHold := false } } else s
    if s.liveSensors.any fun k => decide (tripTemp ≤ s.temp k) then s.trip
    else if !(s.domLive 1) then s
    else
      let before := s.effCap
      let s := s.throttle t
      if s.effCap = before then s else s.apportion false

/-- A trip comparator finds 125 degrees at an on-die sensor (R752). -/
def execThermalTrip (sensor : BitVec 5) (s : State) : Out :=
  .next (if s.liveSensors.contains sensor.toNat then s.trip else s)

/-- A warm or resume flight that waits at its first step goes on once T_hot has fallen to L - 40 (R752, R753). -/
def execThermalWaitEnd (s : State) : Out :=
  .next <| if !s.flight.heatWait ∨ s.tooHot then s
  else ({ s with flight := { s.flight with heatWait := false } }).advance

/-! ## The thermal diode (R718) -/

/-- DIODE takes a value; a change writes the vector (R728). -/
def State.setDiode (s : State) (v : Nat) : State :=
  let s := { s with pins := { s.pins with diodeBad := 0, diodeGood := 0 } }
  if s.get Reg.PWR_PIN_STATUS_DIODE = v then s else (s.put Reg.PWR_PIN_STATUS_DIODE v).pinEvent

/-- Every 1,000 t the diode is measured (R718, R755): the voltages at 10 and 100 uA in units of 0.1 mV, and the temperature derived from
their difference in TEMP units.  A diode that reads OK trips at 125 degrees (R752). -/
def execDiodeMeasure (v10 v100 : BitVec 16) (reading : BitVec 10) (s : State) : Out :=
  .next <|
    if s.gtc < s.pins.diodeAt + 1000 then s
    else
    let s := { s with pins := { s.pins with diodeAt := s.gtc } }
    if 9000 < v10.toNat then s.setDiode 1
    else if v100.toNat < 2000 then s.setDiode 2
    else
      let s := { s with pins := { s.pins with temps := s.pins.temps.set 17 reading.toNat } }
      let bad : Bool := match s.hottest with
        | some t => decide (80 < t - reading.toNat) || decide (80 < reading.toNat - t)
        | none => false
      let p := s.pins
      let s : State := if bad then
          let s := { s with pins := { p with diodeBad := min 100 (p.diodeBad + 1), diodeGood := 0 } }
          if 100 ≤ s.pins.diodeBad then s.setDiode 3 else s
        else
          let s := { s with pins := { p with diodeGood := min 100 (p.diodeGood + 1), diodeBad := 0 } }
          if 100 ≤ s.pins.diodeGood then s.setDiode 0 else s
      let s := if s.get Reg.PWR_PIN_STATUS_DIODE = 0 then s.sampleTemp 17 else s
      if s.get Reg.PWR_PIN_STATUS_DIODE = 0 ∧ tripTemp ≤ reading.toNat then s.trip else s

/-! ## MGMT bus and driven pins (R720, R721) -/

/-- SDA has been held low for 1 ms, or SCL (`scl`) for 10 ms (R720): at most three bus-clears in 1 s; `freed` tells
whether SDA is high after the one made now. -/
def execMgmtBusClear (scl freed : Bool) (s : State) : Out :=
  .next <|
    let stuck := fun (s : State) => (s.put Reg.PWR_PIN_STATUS_MGMT_STUCK 1).pinEvent
    if s.on Reg.PWR_PIN_STATUS_MGMT_STUCK then s
    else if scl then stuck s
    else
      let l := s.pins.clears.filter fun t => s.gtc < t + 100000000
      if 3 ≤ l.length then stuck s
      else
        let s := { s with pins := { s.pins with clears := l ++ [s.gtc] } }
        if !freed ∧ l.length = 2 then stuck s else s

/-- Both MGMT lines have stayed high for 1,000 t (R720). -/
def execMgmtStuckClear (s : State) : Out :=
  .next <| if s.on Reg.PWR_PIN_STATUS_MGMT_STUCK then (s.put Reg.PWR_PIN_STATUS_MGMT_STUCK 0).pinEvent else s

/-- WAKE_OUT, or ALARM_OUT_N (`alarm`), has differed from its drive for 1,000 t (R721). -/
def execOutputFight (alarm : Bool) (s : State) : Out :=
  let f := if alarm then Reg.PWR_PIN_STATUS_ALARM_FIGHT else Reg.PWR_PIN_STATUS_WAKE_OUT_FIGHT
  .next <| if s.on f then s else (s.put f 1).pinEvent

/-! ## The address of the MGMT target (R744) -/

/-- ENTDAA assigns a dynamic address to a target that has none. -/
def execEntdaa (addr : BitVec 7) (s : State) : Out :=
  .next <| if s.on Reg.PWR_PIN_STATUS_MGMT_STUCK ∨ s.pins.address.isSome then s
  else { s with pins := { s.pins with address := some addr.toNat } }

/-- SETDASA gives the target at static address 0x3A a dynamic address. -/
def execSetdasa (static addr : BitVec 7) (s : State) : Out :=
  .next <| if s.on Reg.PWR_PIN_STATUS_MGMT_STUCK ∨ static.toNat ≠ 0x3A ∨ s.pins.address.isSome then s
  else { s with pins := { s.pins with address := some addr.toNat } }

/-- RSTDAA drops the dynamic address. -/
def execRstdaa (s : State) : Out :=
  .next <| if s.on Reg.PWR_PIN_STATUS_MGMT_STUCK then s else { s with pins := { s.pins with address := none } }

/-! ## JTAG (R650, R743) -/

/-- A JTAG instruction takes effect; outputs that EXTEST drove are the functions' again. -/
def State.jtagIr (s : State) (ir out : Nat) : State :=
  { s with pins := { s.pins with ir := ir, scan := none, jtagOut := out } }

/-- BYPASS: one bit of 0 is shifted out. -/
def execBypass (s : State) : Out := .next (s.jtagIr 0 0)

def execIdcode (s : State) : Out := .next (s.jtagIr 1 0x22616D2B)

/-- SAMPLE/PRELOAD: the pins as they stand are shifted out and `cells` is held for EXTEST.  The spec gives the boundary
register no order of cells, so what is sampled is left open (log entry 34). -/
def execSamplePreload (cells : BitVec 256) (s : State) : Out :=
  .next ({ s.jtagIr 2 (s.freeVal 256) with pins := { (s.jtagIr 2 (s.freeVal 256)).pins with preload := cells.toNat } }).tookFree

/-- EXTEST: the outputs are driven from the boundary register. -/
def execExtest (s : State) : Out :=
  .next ({ s.jtagIr 3 (s.freeVal 256) with
    pins := { (s.jtagIr 3 (s.freeVal 256)).pins with scan := some s.pins.preload } }).tookFree

end Sys2Proof.Machine
end

