-- ==== Sys2Proof/Machine/Reads.lean ====
section
/-! DEFINITION. Reads of registers (R16-R22, R46, R49): a register's fields as they are held, and the registers that show
state held elsewhere. -/

namespace Sys2Proof.Machine

/-! ## The composition of a register -/

/-- The index of an offset in a family's first, second and third dimension. -/
def dimIdx : List (Nat × Nat) → Nat → List Nat
  | [], _ => []
  | (st, _) :: r, o => o / st :: dimIdx r (o % st)

/-- Index `k` of the register at offset `o` within its family. -/
def RegDesc.idx (d : RegDesc) (o k : Nat) : Nat := (dimIdx d.dims (o - d.off)).getD k 0

/-- The fields of the register at `o` whose type `p` admits, each in its place. -/
def State.fieldsOf (s : State) (d : RegDesc) (o : Nat) (p : FType → Bool) : Nat :=
  d.fields.foldl (fun a f => if p f.ty then a + s.get ⟨o, f.hi, f.lo, f.reset⟩ * 2 ^ f.lo else a) 0

/-- Types that a read returns (R16): WO and KO fields read 0. -/
def FType.readable : FType → Bool
  | .WO => false
  | .KO => false
  | .RW => true
  | .RO => true
  | .W1C => true
  | .W1S => true
  | .RWL => true

/-! ## Registers that show state held elsewhere -/

/-- The sum of `f k` in 4-bit or wider places. -/
def packed (n w : Nat) (f : Nat → Nat) : Nat := (List.range n).foldl (fun a k => a + f k * 2 ^ (w * k)) 0

/-- A domain's state (R97): a cluster disabled by fuse reads DISABLED. -/
def State.domState (s : State) (d : Nat) : Nat :=
  if 28 ≤ d then 0 else if 12 ≤ d ∧ !(s.clEnabled (d - 12)) then 8 else domCode (s.dom d).st

/-- A context's state (R196). -/
def ctxCode : CtxSt → Nat
  | .free => 0
  | .opened => 1
  | .drainClose => 2
  | .drainReset => 3
  | .lost => 4
  | .closed => 5

/-- A queue's state (R198). -/
def queueCode : QueueSt → Nat
  | .disabled => 0
  | .active => 1
  | .waiting => 2
  | .halted => 3

/-- A control core's state (R311). -/
def coreCode : CoreSt → Nat
  | .idle => 0
  | .running => 1
  | .fetchWait => 2
  | .wait => 3
  | .suspended => 4
  | .swapping => 5
  | .ending => 6

/-- A tile's state in the dispatcher (R278): an idle one reads FENCED in a fenced cluster (R268), CLOSED in a closing one (log
entry 74); what still runs, swaps or is reserved in a CLOSING cluster (R40) reads so. -/
def State.tileState (s : State) (t : Nat) : Nat :=
  if !(s.domLive (clDom (t / 4))) then 5
  else match (s.dtile t).st with
    | .idle => if s.fenced (t / 4) then 4 else if s.domOpen (clDom (t / 4)) then 0 else 5
    | .running => 1
    | .swapping => 2
    | .suspended => 3
    | .reserved => 6

/-- The group's half of OBJ_GROUP_OWNER (R197). -/
def State.groupHalf (s : State) (g : Nat) : Nat := match Tab.get none s.groups g with
  | none => 0
  | some c => 2 ^ 15 + c % 1024

/-- What a register that is not a plain set of fields reads, by its offset; `none` for a plain one. -/
def State.shown (s : State) (d : RegDesc) (o : Nat) : Option Nat :=
  let i := d.idx o 0
  let f := s.fieldsOf d o FType.readable
  let b := d.off
  if b = Reg.ENG_CONFIG then some (s.fuses.package + s.fuses.config * 2 ^ 4 + s.fuses.grade * 2 ^ 8)
  else if b = Reg.ENG_CLUSTER_EN then some s.fuses.clusterEn
  else if b = Reg.ENG_CAPS then some (if s.yard then 2 else 1)
  else if b = Reg.ENG_SERIAL then some s.fuses.serial
  else if b = Reg.PWR_DOMAIN_STATE 0 then some (packed 8 4 fun j => s.domState (8 * i + j))
  else if b = Reg.PWR_CAP then some s.capMw
  else if b = Reg.PWR_CAP_FLOOR then some s.floorMw
  else if b = Reg.PWR_FALLBACK_BUDGET then some s.fallbackMw
  else if b = Reg.PWR_TCAP then some s.tcap
  else if b = Reg.PWR_LEASE_STATUS then
    some (f + (match s.power.leaseEnd with
      | some t => if s.get Reg.PWR_LEASE_STATUS_STATE = 1 then (t - s.gtc) / 100000 else 0
      | none => 0))
  else if b = Reg.PWR_THERM_CFG then
    some (Tab.get (if s.fuses.grade = 0 then 0x2A4 else 0x2CC) s.regs Reg.PWR_THERM_CFG_LIMIT.key)
  else if b = Reg.CLK_GTC then some (s.time copyTow)
  else if b = Reg.CLK_GTC_STATUS then some (f % 2 ^ 31 + b2n s.onRc * 2 ^ 31)
  else if b = Reg.CLK_SRC_STATUS then
    let locked := fun (d : Nat) => s.domOpen d && (s.dom d).attempt == 0
    some (b2n (!s.onRc) + b2n (s.domOpen 2) * 2 + b2n (locked 5) * 4 + b2n (locked 10) * 8 +
      (if locked 9 then 63 * 16 else 0))
  else if b = Reg.OBJ_WAIT_USE then
    some ((s.waiters.filter fun e => e.2.isSome && decide (32768 ≤ e.1)).length * 2 ^ 16 +
      (s.waiters.filter fun e => e.2.isSome && decide (e.1 < 32768)).length)
  else if b = Reg.OBJ_CTX_STATE 0 then some (packed 8 4 fun j => ctxCode (s.ctx (8 * i + j)).st)
  else if b = Reg.OBJ_GROUP_OWNER 0 then some (s.groupHalf (2 * i) + s.groupHalf (2 * i + 1) * 2 ^ 16)
  else if b = Reg.OBJ_QUEUE_STATE 0 then some (packed 8 4 fun j => queueCode (s.queue (8 * i + j)).st)
  else if b = Reg.DSP_SWAP_USE 0 then some (packed 8 8 fun j => min 255 (s.slotsUsed (8 * i + j)))
  else if b = Reg.DSP_TILE_STATE 0 then
    let x := s.dtile i
    some ((match x.lastCid with | some c => 2 ^ 10 + c % 1024 | none => 0) + s.tileState i * 2 ^ 13 +
      (match x.claim with | some q => 2 ^ 31 + q % 32768 * 2 ^ 16 | none => 0))
  else if b = Reg.DSP_STAGE_USE then some (s.stageUsed + s.disp.cancels.length * 2 ^ 16)
  else if b = Reg.CLS_TILE_STATUS 0 then
    some (coreCode (s.tile i).core * 2 ^ 28 + (s.tile i).barges.length * 2 ^ 23)
  else if b = Reg.CLS_FMAX 0 then
    some (Tab.get 0 s.fuses.fmax i % 32 + (s.fmaxEff i - 1600) / 25 % 32 * 2 ^ 5 +
      Tab.get 0 s.fuses.baseCode i % 64 * 2 ^ 10 + Tab.get 0 s.fuses.tempco i % 64 * 2 ^ 16 +
      Tab.get 0 s.fuses.ageSteps i % 16 * 2 ^ 24 + b2n (s.clus i).exhausted * 2 ^ 31)
  else if b = Reg.CLS_DFO_STATUS 0 then some (f + b2n (s.fixedMode i && !(s.on (Reg.CLS_DFO_STATUS_FIXED i))) * 2 ^ 25)
  else if b = Reg.XLT_STATUS then some (f + (s.xlt.susp.filter fun (x : Susp) => !x.written).length)
  else if b = Reg.MSH_RT 0 0 0 then
    let r := s.rt i (d.idx o 1) (d.idx o 2)
    some (r.2 % 2 ^ 32 + r.1 % 32 * 2 ^ 32)
  else if b = Reg.MSH_WEIR 0 0 0 then
    let u := d.idx o 1
    let k := d.idx o 2
    if unitsAt i ≤ u then some 0
    else
      let w := s.weir i u k
      some ((if isClStop i then w.2.2 * 2 ^ 32 + w.2.1 * 2 ^ 48 + b2n w.1 * 2 ^ 63 else f) +
        (if w.1 then ((s.credit i u k).emod (2 ^ 32)).toNat else 0))
  else if b = Reg.KPR_STATE then some (f + b2n (s.on Reg.KPR_DEBUG_DBG_EN || s.on Reg.KPR_DEBUG_JTAG_EN) * 2 ^ 8)
  else if b = Reg.ERR_CONC then some (f % 2 ^ 32 + min 64 s.conc.fifo.length * 2 ^ 32)
  else if b = Reg.DBG_STATUS then
    let x := s.tile (s.get Reg.DBG_CMD_TILE)
    some (f + b2n x.halted * 2 ^ 8 + (if x.halted then x.haltCause else 0))
  else if b = Reg.DBG_HALTED then some (packed 64 1 fun t => b2n (s.tile t).halted)
  else none

/-- The value of a register (R16, R17). -/
def State.regValue (s : State) (d : RegDesc) (o : Nat) : Nat := match s.shown d o with
  | some v => v
  | none => s.fieldsOf d o FType.readable

/-! ## Reach (R46, R49, R650, R746) -/

/-- A block that the towpath serves (R46). -/
def onTowpath (o : Nat) : Bool :=
  let b := o / 2 ^ 16
  b == 0x100 || b == 0x107 || b == 0x108 || b == 0x109 || b == 0x10A || b == 0x10B || b == 0x10C || b == 0x10D

/-- The words of KPR_MB_DATA, which no debug access reaches (R650). -/
def isMbData (o : Nat) : Bool :=
  decide (0x01090000 ≤ o) && decide (o < 0x01092000) && decide (0x100 ≤ o % 0x1000) && decide (o % 0x1000 < 0x200)

/-- The domains that an access of a source needs are open (R46, R49, R70). -/
def State.reaches (s : State) (src : Source) (o : Nat) : Bool := match src with
  | .host => s.domLive 5 && s.domLive (regDom o) && (s.domLive 1 || !(onTowpath o))
  | .mgmt => s.domLive (regDom o) && (s.domLive 1 || regDom o == 0)
  | .jtag => s.domLive 1 && s.domLive (regDom o) && onTowpath o && !(isMbData o)

/-- The block answers: DBG only while debug is open (R652), WAT on Yard only in WAT_STATUS (R108). -/
def State.answers (s : State) (o : Nat) : Bool :=
  if o / 2 ^ 16 = 0x10D then s.dbgOn else if o / 2 ^ 16 = 0x10A then !s.yard || o == Reg.WAT_STATUS else true

/-- The 64-bit word of the fault log at an offset of the ERR block (R675). -/
def State.logWord (s : State) (o : Nat) : Option Nat :=
  if 0x010C4000 ≤ o ∧ o < 0x010C8000 then some (s.conc.log.le (o - 0x010C4000) 8) else none

/-- A 32-bit read of one register or half (R20, R21). -/
def State.read32 (s : State) (o : Nat) : Nat :=
  if !(s.answers o) then 0
  else match s.logWord o with
  | some _ => s.conc.log.le (o - 0x010C4000) 4
  | none => match regAt o with
    | some d => s.regValue d o % 2 ^ 32
    | none => match regAt (o - 4) with
      | some d => if d.wide then s.regValue d (o - 4) / 2 ^ 32 else 0
      | none => 0

/-- The part of an access at offset `o` reaches its block (R46, R49). -/
def State.reachedRead (s : State) (src : Source) (o : Nat) : Nat := if s.reaches src o then s.read32 o else 0

/-- A read of `size` bytes (R20, R49): 0 where it is misaligned, of another width or does not reach the block.  A 64-bit
read where two 32-bit registers lie reads each as a 32-bit read would (R25). -/
def State.readAt (s : State) (src : Source) (o size : Nat) : Nat :=
  if o % size ≠ 0 then 0
  else if size = 4 then s.reachedRead src o
  else if size = 8 then s.reachedRead src o + s.reachedRead src (o + 4) * 2 ^ 32
  else 0

/-! ## The doorbell region (R200-R202) -/

/-- A 64-bit read of a doorbell line (R200, R201): SEQ_SHADOW at +0x10, STATUS at +0x18; every other offset reads 0. -/
def State.doorbellWord (s : State) (o : Nat) : Nat :=
  let x := s.queue (o / 64)
  match o % 64 with
  | 0x10 => x.tail * 2 ^ 32 + x.seq
  | 0x18 => x.head + x.dups * 2 ^ 32 + x.tailErrs * 2 ^ 48 + b2n x.stageSlot * 2 ^ 58 + b2n x.staged.isSome * 2 ^ 59 +
      queueCode x.st * 2 ^ 60
  | _ => 0

/-- A read in the doorbell region: 64 bits and aligned, with the queue engine's domain open (R49, R202). -/
def State.readDoorbell (s : State) (o size : Nat) : Nat :=
  if size ≠ 8 ∨ o % 8 ≠ 0 ∨ !(s.domLive 3) ∨ !(s.domLive 5) then 0 else s.doorbellWord o

end Sys2Proof.Machine
end

