-- ==== Sys2Proof/Machine/Writes.lean ====
section
/-! DEFINITION. Writes of registers (R16-R21, R46-R50): field by field, clear-on-write (R18), and the writes that have an
effect of their own, each routed to the command that gives it. -/

namespace Sys2Proof.Machine

/-! ## Plain writes (R16, R20) -/

/-- Which part of a register a write reaches (R20). -/
inductive Part where
  | whole | low | high
  deriving DecidableEq, Repr

/-- The written value in the register's own bit places, bits outside the part 0. -/
def Part.lay (p : Part) (v : Nat) : Nat := match p with
  | .whole => v
  | .low => v % 2 ^ 32
  | .high => v % 2 ^ 32 * 2 ^ 32

/-- The part reaches some bit of `[hi:lo]`. -/
def Part.touches (p : Part) (f : FieldDesc) : Bool := match p with
  | .whole => true
  | .low => decide (f.lo < 32)
  | .high => decide (32 ≤ f.hi)

/-- The register's new content were every bit writable: the written part over the present value. -/
def Part.onto (p : Part) (old v : Nat) : Nat := match p with
  | .whole => v
  | .low => old / 2 ^ 32 * 2 ^ 32 + v % 2 ^ 32
  | .high => v % 2 ^ 32 * 2 ^ 32 + old % 2 ^ 32

/-- One field of a register takes a write by its type (R16): RO, RWL, KO and WO fields hold still. -/
def State.writeField (s : State) (o : Nat) (p : Part) (old v : Nat) (f : FieldDesc) : State :=
  let fld : Fld := ⟨o, f.hi, f.lo, f.reset⟩
  if !(p.touches f) then s
  else match f.ty with
    | .RW => s.put fld (bits (p.onto old v) f.hi f.lo)
    | .W1C => if bits (p.lay v) f.hi f.lo ≠ 0 then s.put fld 0 else s
    | .W1S => if bits (p.lay v) f.hi f.lo ≠ 0 then s.put fld (2 ^ (f.hi + 1 - f.lo) - 1) else s
    | .RO => s
    | .WO => s
    | .RWL => s
    | .KO => s

/-- Every field of a register takes a write (R16, R17). -/
def State.writePlain (s : State) (d : RegDesc) (o : Nat) (p : Part) (v : Nat) : State :=
  d.fields.foldl (fun s f => s.writeField o p (s.fieldsOf d o fun _ => true) v f) s

/-! ## Clear-on-write registers (R18) -/

/-- The fields of a register that a mask names return to 0. -/
def State.clearMask (s : State) (d : RegDesc) (o mask : Nat) : State :=
  d.fields.foldl (fun s f => if bitAt mask f.lo then s.put ⟨o, f.hi, f.lo, f.reset⟩ 0 else s) s

/-- Every count of a router (R501). -/
def State.clearProbe (s : State) (n : Nat) : State :=
  let s := (List.range 5).foldl (fun s q =>
    (s.put (Reg.MSH_PROBE_FLITS n q) 0).put (Reg.MSH_PROBE_STALLS n q) 0) s
  s.put (Reg.MSH_PROBE_MATCH_COUNT n) 0

/-- A clear-on-write register and what a write to it clears (R18), or `none`.  A slot's MIN and MAX are one 64-bit word of
the register map: R685 has a write to the MIN word clear the slot, and the model lets a write to either half of that word
do so (log entry 90). -/
def State.clearOnWrite (s : State) (d : RegDesc) (o : Nat) : Option State :=
  let i := d.idx o 0
  if d.off = Reg.MSH_PROBE 0 0 then (if d.idx o 1 = 0 then some (s.clearProbe i) else none)
  else if d.off = Reg.MSH_INIT_ERR 0 0 then
    let u := d.idx o 1
    some (((s.clearMask d o d.clr).put (Reg.MSH_INIT_OUT_BYTES_OUT i u) 0).put (Reg.MSH_INIT_IN_BYTES_IN i u) 0)
  else if d.off = Reg.MON_SLOT_MIN 0 then some (s.clearSlot i)
  else if d.clr = 0 then none else some (s.clearMask d o d.clr)

/-! ## Writes with an effect of their own -/

/-- The state that a command leaves; one that does not go on leaves the state as it was. -/
def Out.after (o : Out) (s : State) : State := match o with
  | .next t => t
  | .fault _ => s
  | .refused _ => s

/-- A write to OBJ_CMD (R187). -/
def State.objCmd (s : State) (v : Nat) : State :=
  let w := fun (hi lo : Nat) => BitVec.ofNat 16 (bits v hi lo)
  match bits v 31 24 with
  | 0x01 => (execCtxOpen (w 9 0) (w 13 10) false false s).after s
  | 0x02 => (execCtxClose (w 9 0) s).after s
  | 0x03 => (execCtxRelease (w 9 0) s).after s
  | 0x04 => (execCtxReset (w 9 0) s).after s
  | 0x05 => (execCtxLose (w 9 0) s).after s
  | 0x10 => (execGroupBind (w 8 0) (w 18 9) s).after s
  | 0x11 => (execGroupUnbind (w 8 0) s).after s
  | 0x18 => (execQueueEnable (w 14 0) false s).after s
  | 0x19 => (execQueueDisable (w 14 0) s).after s
  | 0x1A => (execQueueResume (w 14 0) s).after s
  | 0x20 => (execWaitHost (w 9 0) (w 21 10) s).after s
  | 0x21 => (execWaitPoke (w 9 0) s).after s
  | 0x22 => (execWaitCancel (w 15 0) s).after s
  | _ => (objCommand s fun s => s.result rBadOpcode 0).after s

/-- A write to XLT_FAULT_CMD (R456). -/
def State.faultCmd (s : State) (v : Nat) : State := match bits v 31 28 with
  | 1 => (execResume (BitVec.ofNat 16 v) s).after s
  | 2 => (execKill (BitVec.ofNat 16 v) s).after s
  | _ => s.faultResult frBadOpcode

/-- A write to a mailbox's KPR_MB_CMD (R635, R664): whether its signature and tag verify is not the register's to say. -/
def State.mbCmd (s : State) (m v : Nat) : State :=
  let r := s.freeVal 2
  s.tookFree.mailboxCmd m (bits v 31 24) (bitAt r 0) (bitAt r 1)

/-- A write to a route bank (R480, R498-R500, R700): the active bank ignores it, and while BUSY the inactive one does and
counts it. -/
def State.bankWrite (s : State) (d : RegDesc) (o bank : Nat) (p : Part) (v : Nat) : State :=
  if bank = s.get Reg.MSH_EPOCH_CURRENT then s
  else if s.on Reg.PWR_STOP_STATUS_BUSY then s.sat Reg.PWR_STOP_STATUS_BANK_HELD 1
  else s.writePlain d o p v

/-- Registers of one word each with an effect of their own (R16, R20): `v` is the register's new content, and `old` and
`p` tell a half of a 64-bit register. -/
def State.writeOwn (s : State) (src : Source) (d : RegDesc) (o : Nat) (p : Part) (raw : Nat) : Option State :=
  let i := d.idx o 0
  let b := d.off
  let v := p.onto (s.fieldsOf d o FType.readable) raw
  let w32 := BitVec.ofNat 32 raw
  if b = Reg.PWR_FLIGHT_CTRL then some ((execStandbyReq src w32 s).after s)
  else if b = Reg.PWR_RESET_CMD then
    some ((execLinkPort src w32 ((execCluster src w32 ((execWarm src w32 s).after s)).after s)).after s)
  else if b = Reg.PWR_WAKE_CMD then some ((execWake src w32 s).after s)
  else if b = Reg.PWR_STOP_CMD then some (s.stopCmd raw)
  else if b = Reg.PWR_PHASE_CLEAR then some (s.clearPhases (raw % 2 ^ 16))
  else if b = Reg.PWR_LEASE then
    some (if p = .whole then s.writeLease src raw else s.sat Reg.PWR_LEASE_STATUS_LEASE_DROP 1)
  else if b = Reg.PWR_CTRL then some (s.writePwrCtrl raw)
  else if b = Reg.PWR_CL_OP 0 then
    some (if s.clEnabled i then (s.writePlain d o p raw).apportion false else s)
  else if b = Reg.PWR_RAIL_STATUS 0 then some (s.writeRailStatus i (p.lay raw))
  else if b = Reg.PWR_RAIL_STATUS16 0 then some (s.writeRailStatus (16 + i) (p.lay raw))
  else if b = Reg.WAT_CTRL then some (if s.yard then s else s.writeWatCtrl raw)
  else if b = Reg.WAT_STATUS then some (s.writeWatStatus raw)
  else if b = Reg.WAT_WAKE_CTRL then some (if s.yard then s else s.writeWakeCtrl raw)
  else if b = Reg.WAT_WAKE_INFO then some (if s.yard then s else s.writeWakeInfo raw)
  else if b = Reg.OBJ_CMD then some (s.objCmd raw)
  else if b = Reg.DSP_SUBMIT_CLEAR then some (if bitAt raw 0 then (execClear s).after s else s)
  else if b = Reg.DSP_SCHED_CLEAR then some (if bitAt raw 0 then (execSchedClear s).after s else s)
  else if b = Reg.CLS_TILE_CTRL 0 then
    let s := if bitAt raw 1 then (execTileCountsClear (BitVec.ofNat 6 i) s).after s else s
    some (if bitAt raw 0 then s.flushIstore i else s)
  else if b = Reg.XLT_INVAL then some (s.invalidate (raw % 1024))
  else if b = Reg.XLT_FQ_BASE then some ((execFqBaseWrite (BitVec.ofNat 64 v) s).after s)
  else if b = Reg.XLT_FQ_HEAD then some ((execFqHeadWrite w32 s).after s)
  else if b = Reg.XLT_FAULT_CMD then some (s.faultCmd raw)
  else if b = Reg.MSH_EPOCH then some (s.writeEpoch raw)
  else if b = Reg.MSH_WEIR 0 0 0 then some (s.writeWeir i (d.idx o 1) (d.idx o 2) v)
  else if b = Reg.MSH_STOPMAP 0 then some (s.bankWrite d o i p raw)
  else if b = Reg.MSH_DIEMAP 0 0 then some (s.bankWrite d o i p raw)
  else if b = Reg.MSH_RT 0 0 0 then some (s.bankWrite d o (d.idx o 1) p raw)
  else if b = Reg.LNK_PORT_CTRL 0 then some (s.writePortCtrl i raw)
  else if b = Reg.KPR_MB_CMD 0 then some (s.mbCmd i raw)
  else if b = Reg.KPR_MBOX_BIND 0 then some (s.writeBind i v)
  else if b = Reg.ERR_LOG_READ then some (if src = .mgmt then s else (execLogReadWrite w32 s).after s)
  else if b = Reg.ERR_VEC 0 then some (s.writeVec i v)
  else if b = Reg.MON_CAP_BASE then some ((execCapBaseWrite (BitVec.ofNat 64 v) s).after s)
  else if b = Reg.MON_TRACE_BASE then some ((execTraceBaseWrite (BitVec.ofNat 64 v) s).after s)
  else if b = Reg.MON_SLOT_CFG 0 then some ((execSlotCfgWrite (BitVec.ofNat 8 i) (BitVec.ofNat 64 v) s).after s)
  else if b = Reg.DBG_CMD then some (s.dbgCmd (bits raw 29 24) (bits raw 3 0))
  else none

/-- What follows a plain write of a register: the cap, phases and operating points are apportioned anew (R601), a cleared
pin or thermal bit writes the vector (R728, R754), a link that changes its role starts FREE (R540), and a reduction
group begins anew (R528). -/
def State.wroteFx (s : State) (old : State) (d : RegDesc) (o : Nat) : State :=
  let b := d.off
  if b = Reg.PWR_CAP ∨ b = Reg.PWR_FALLBACK_BUDGET ∨ b = Reg.PWR_PHASE_CTRL then s.apportion false
  else if b = Reg.PWR_PIN_STATUS then
    (if old.get Reg.PWR_PIN_STATUS_ALARM_FIGHT = s.get Reg.PWR_PIN_STATUS_ALARM_FIGHT ∧
        old.get Reg.PWR_PIN_STATUS_WAKE_OUT_FIGHT = s.get Reg.PWR_PIN_STATUS_WAKE_OUT_FIGHT then s else s.pinEvent)
  else if b = Reg.PWR_THERM_STATUS then
    (if old.on Reg.PWR_THERM_STATUS_TRIPPED ∧ !(s.on Reg.PWR_THERM_STATUS_TRIPPED) then s.pinEvent else s)
  else if b = Reg.LNK_TIME_CTRL then
    (if old.get Reg.LNK_TIME_CTRL_ROLE = s.get Reg.LNK_TIME_CTRL_ROLE then s
     else ({ s with link := { s.link with goodSync := 0 } }).put Reg.LNK_TIME_CTRL_STATE 0)
  else if b = Reg.LNK_RED_CFG 0 ∨ b = Reg.LNK_RED_DEST 0 ∨ b = Reg.LNK_RED_DONE 0 then
    { s with link := { s.link with written := s.link.written.filter fun (e : Nat × Nat) => e.1 != d.idx o 0 } }
  else s

/-- A write to (a part of) one register. -/
def State.regWrite (s : State) (src : Source) (d : RegDesc) (o : Nat) (p : Part) (v : Nat) : State :=
  match s.clearOnWrite d o with
  | some t => t
  | none => match s.writeOwn src d o p v with
    | some t => t
    | none => (s.writePlain d o p v).wroteFx s d o

/-! ## Accesses (R20, R21, R49) -/

/-- A 32-bit write of one register or half. -/
def State.write32 (s : State) (src : Source) (o v : Nat) : State :=
  if !(s.answers o) then s
  else match regAt o with
    | some d => s.regWrite src d o (if d.wide then .low else .whole) (v % 2 ^ 32)
    | none => match regAt (o - 4) with
      | some d => if d.wide ∧ 4 ≤ o then s.regWrite src d (o - 4) .high (v % 2 ^ 32) else s
      | none => s

/-- A 32-bit write that reaches its block; one that does not is discarded (R49). -/
def State.reachedWrite (s : State) (src : Source) (o v : Nat) : State := if s.reaches src o then s.write32 src o v else s

/-- A write of `size` bytes: discarded where it is misaligned, of another width or does not reach the block; 64 bits at an
offset where no 64-bit register begins act as two halves, the lower first, each as a 32-bit write (R20, R25). -/
def State.writeAt (s : State) (src : Source) (o size v : Nat) : State :=
  if o % size ≠ 0 then s
  else if size = 4 then s.reachedWrite src o v
  else if size = 8 then
    match (regAt o).filter (·.wide) with
    | some d => if s.reaches src o ∧ s.answers o then s.regWrite src d o .whole (v % 2 ^ 64) else s
    | none => (s.reachedWrite src o v).reachedWrite src (o + 4) (v / 2 ^ 32)
  else s

/-- A host write to a privileged register (R16, R20, R46): `size` in bytes. -/
def execRegisterWrite (offset : BitVec 26) (size : BitVec 4) (value : BitVec 64) (s : State) : Out :=
  .next (s.writeAt .host offset.toNat size.toNat value.toNat)

/-- The write at an offset reaches a clear-on-write register (R18). -/
def isClearOnWrite (o : Nat) : Bool :=
  let at_ := fun (d : RegDesc) (o : Nat) =>
    if d.off = Reg.MSH_PROBE 0 0 then d.idx o 1 == 0 else d.clr != 0 || d.off == Reg.MON_SLOT_MIN 0
  match regAt o with
  | some d => at_ d o
  | none => match regAt (o - 4) with
    | some d => d.wide && at_ d (o - 4)
    | none => false

/-- A host write to a clear-on-write register (R18). -/
def execClearOnWrite (offset : BitVec 26) (size : BitVec 4) (value : BitVec 64) (s : State) : Out :=
  .next (if isClearOnWrite offset.toNat then s.writeAt .host offset.toNat size.toNat value.toNat else s)

/-- An access to the doorbell region that does not count in BAD_WIDTH (R202): one that the host port accepts; a read of
DOORBELL or CANCEL; and a write where no writable register lies, which has no effect (R234, log entry 107). -/
def acceptsDoorbell (write : Bool) (o size : Nat) : Bool :=
  let whole := size == 8 && o % 8 == 0
  if write then whole || decide (0x10 ≤ o % 64) else decide (o % 64 < 0x10) || (whole && decide (o % 64 < 0x20))

def execBadWidthAccess (write : Bool) (offset : BitVec 21) (size : BitVec 4) (s : State) : Out :=
  .next (if acceptsDoorbell write offset.toNat size.toNat ∨ !(s.domLive 3) ∨ !(s.domLive 5) then s
    else s.sat Reg.DSP_SUBMIT_COUNTS_BAD_WIDTH 1)

end Sys2Proof.Machine
end

