-- ==== Sys2Proof/Machine/Mgmt.lean ====
section
/-! DEFINITION. Register accesses over MGMT (R744-R746) and JTAG (R650), and one advance of the GTC master, which passes when
no command waits (R72, R244, R484, R555-R558, R635). -/

namespace Sys2Proof.Machine

/-! ## MGMT (R745, R746) -/

/-- Within MGMT's reach (R746): ENG, PWR, CLK, WAT, MON, ERR and the PLAT mailbox. -/
def mgmtReach (o : Nat) : Bool :=
  let b := o / 2 ^ 16
  b == 0x100 || b == 0x107 || b == 0x108 || b == 0x10A || b == 0x10B || b == 0x10C ||
    (decide (0x01091000 ≤ o) && decide (o < 0x01092000))

/-- The answer that the next private read returns (R745). -/
def State.mgmtAnswer (s : State) (status : Nat) (data : List Byte) : State :=
  { s with pins := { s.pins with answer := (status, data) } }

/-- A register read over MGMT of `n` bytes, in a private write of `len` bytes (R745); a stuck bus carries none (R720). -/
def State.mgmtRead (s : State) (o n len : Nat) : State :=
  if s.on Reg.PWR_PIN_STATUS_MGMT_STUCK then s
  else if len ≠ 5 then s.mgmtAnswer 1 (List.replicate n 0)
  else if !(mgmtReach o) then s.mgmtAnswer 2 (List.replicate n 0)
  else s.mgmtAnswer 0 (leBytes n (s.readAt .mgmt o n))

/-- A register write over MGMT of `n` bytes. -/
def State.mgmtWrite (s : State) (o n len v : Nat) : State :=
  if s.on Reg.PWR_PIN_STATUS_MGMT_STUCK then s
  else if len ≠ 5 + n then s.mgmtAnswer 1 []
  else if !(mgmtReach o) then s.mgmtAnswer 2 []
  else (s.writeAt .mgmt o n v).mgmtAnswer 0 []

def execRead32 (offset : BitVec 32) (len : BitVec 8) (s : State) : Out := .next (s.mgmtRead offset.toNat 4 len.toNat)

def execRead64 (offset : BitVec 32) (len : BitVec 8) (s : State) : Out := .next (s.mgmtRead offset.toNat 8 len.toNat)

def execWrite32 (offset : BitVec 32) (len : BitVec 8) (value : BitVec 32) (s : State) : Out :=
  .next (s.mgmtWrite offset.toNat 4 len.toNat value.toNat)

def execWrite64 (offset : BitVec 32) (len : BitVec 8) (value : BitVec 64) (s : State) : Out :=
  .next (s.mgmtWrite offset.toNat 8 len.toNat value.toNat)

/-- A private read returns the status and data of the last access (R745). -/
def execMgmtStatusRead (s : State) : Out :=
  .next (if s.on Reg.PWR_PIN_STATUS_MGMT_STUCK then s
    else { s with pins := { s.pins with answered := s.pins.answer } })

/-! ## JTAG (R650) -/

/-- An access to the towpath from the JTAG port: with JTAG_EN 0 its instruction is a locked one. -/
def execJtagTowpathAccess (write : Bool) (offset : BitVec 26) (size : BitVec 4) (value : BitVec 64) (code : BitVec 8)
    (s : State) : Out :=
  .next (if !(s.on Reg.KPR_DEBUG_JTAG_EN) then s.jtagLocked code.toNat
    else if write then (s.jtagIr 4 0).writeAt .jtag offset.toNat size.toNat value.toNat
    else s.jtagIr 4 (s.readAt .jtag offset.toNat size.toNat))

/-! ## One advance of the GTC master -/

/-- The GTC copies (R45). -/
def copyIds : List Nat :=
  List.range 64 ++ (List.range 36).map (· + 100) ++ [copyDsp, copyTow, copyIsland, copyMem] ++ (List.range 6).map (· + 210)

/-- The master's count moves by `n` while copies that receive no pulse stay behind (R556-R558). -/
def State.leaveCopies (s : State) (n : Nat) (p : Nat → Bool) : State :=
  { s with copies := { s.copies with
      off := copyIds.foldl (fun (m : Tab Int) k =>
        if p k && s.domLive (copyDom k) then m.set k (Tab.get 0 s.copies.off k - n) else m) s.copies.off } }

/-- Copies that hold have waited `n` pulses; one that the master has reached counts again (R558, R559). -/
def State.holdCopies (s : State) (n : Nat) : State :=
  s.copies.hold.foldl (fun (s : State) k =>
    let x := Tab.get 0 s.copies.off k - n
    if x ≤ 0 then { s with copies := { s.copies with off := s.copies.off.set k 0, hold := s.copies.hold.filter (· != k) } }
    else { s with copies := { s.copies with off := s.copies.off.set k x } }) s

/-- INC of R555: 2^31 × (1 + STEER), STEER in units of 1/32 ppm. -/
def State.gtcInc (s : State) : Nat :=
  (2 ^ 31 + 2 ^ 31 * asSigned 16 (s.get Reg.CLK_GTC_STATUS_STEER) / 32000000).toNat

/-- Every queue's dispatch weir gains a tick's credit (R244). -/
def State.shareTick (s : State) : State :=
  let full : Int := (atLeast1 (s.get Reg.DSP_SHARE_BURST_TT) * 4096 : Nat)
  { s with queues := s.queues.map fun (e : Nat × Queue) =>
      if e.2.share = 0 then e
      else
        let tiles := match s.queueCid e.1 with
          | none => 0
          | some c => match s.cidPart c with
            | none => 0
            | some p => 4 * ((List.range 16).filter fun c => bitAt (s.partClusters p) c && s.domOpen (clDom c)).length
        (e.1, { e.2 with credit := min full (e.2.credit + (e.2.share * tiles : Nat)) }) }

/-! ## Samples that time brings (R681) -/

/-- Bytes that the initiators a MESH_BW subject names moved in the present 1,000 t: one UNIT's, or every UNIT's of the stop
together (log entry 112). -/
def State.movedBy (s : State) (sub : Nat) : Nat :=
  let n := bits sub 5 0
  let of := fun (u : Nat) => Tab.get 0 s.mon.moved (4 * n + u)
  if bitAt sub 8 then of 0 + of 1 + of 2 + of 3 else of (bits sub 7 6)

/-- 1,000 t end: each MESH_BW slot gets its sample, of a stop whose domain is open. -/
def State.sampleBw (s : State) : State :=
  let s := (s.slotsOf 3 fun sub => s.domOpen (stopDom (bits sub 5 0))).foldl
    (fun (s : State) k => s.sampleSlot (s.movedBy (s.get (Reg.MON_SLOT_CFG_SUBJECT k))) 63 k) s
  { s with mon := { s.mon with moved := [] } }

/-- The least of a cluster's eight replica codes (R549, R551); other rails report none. -/
def State.minCode (s : State) (r : Nat) : Nat :=
  if 16 ≤ r then 63
  else (List.range 8).foldl (fun m j => min m (bits (s.get (Reg.CLS_MARGIN_CODES r)) (6 * j + 5) (6 * j))) 63

/-- The domain whose opening a rail's samples follow: a cluster rail's, PD1's, PD9's, and PD0's, which never closes (R561). -/
def railDom (r : Nat) : Nat := if r < 16 then clDom r else if r = 16 then 1 else if r = 18 then 9 else 0

/-- 10 t end: each RAIL_V slot gets the voltage last sensed, while the rail's domain is open. -/
def State.sampleRails (s : State) : State :=
  (s.slotsOf 6 fun sub => decide (bits sub 4 0 < 20) && s.domOpen (railDom (bits sub 4 0))).foldl
    (fun (s : State) k =>
      let r := bits (s.get (Reg.MON_SLOT_CFG_SUBJECT k)) 4 0
      s.sampleSlot (s.get (railVdie r)) (s.minCode r) k) s

/-- The samples due once the count has moved on from `old`: one for each multiple of 10 t passed, and one of MESH_BW where a
multiple of 1,000 t has passed. -/
def State.sampleDue (s : State) (old : Nat) : State :=
  let s := if s.gtc / 1000 = old / 1000 then s else s.sampleBw
  (List.range (s.gtc / 10 - old / 10)).foldl (fun s _ => s.sampleRails) s

/-- Two cycles of the reference PLL's 200 MHz output, 10 ns (R555, R556): the fraction carries into the count, the forward
step falls due at a multiple of 1,024, and the weirs gain a tick's credit. -/
def State.pllTick (s : State) : State :=
  let f := s.copies.frac + 2 * s.gtcInc
  let n := f / 2 ^ 32
  let due := s.copies.stepBy != 0 && s.gtc / 1024 != (s.gtc + n) / 1024
  let s := { s with gtc := s.gtc + n, copies := { s.copies with frac := f % 2 ^ 32 } }
  let s := s.holdCopies n
  let s := if due then
      let k := s.copies.stepBy
      (({ s with gtc := s.gtc + k, copies := { s.copies with stepBy := 0 } }).leaveCopies k fun _ => true).put
        Reg.CLK_GTC_STATUS_STEPPED 1
    else s
  let s := if s.domLive 5 then s.weirTick else s
  if s.domLive 3 then s.shareTick else s

/-- One period of the RC oscillator (R72, R556, R557): the count gains 3,125 t, and no copy receives a pulse. -/
def State.rcTick (s : State) : State :=
  { s with gtc := s.gtc + 3125 }.leaveCopies 3125 fun _ => true

/-- The master advances once (log entries 35 and 36): samples fall due, an object or debug command under way ends (log entry 104), the
Keeper serves a mailbox command that waits, and a fuse shadow load may end (log entry 82). -/
def State.tick (s : State) : State :=
  let old := s.gtc
  let s := if s.onRc then s.rcTick else s.pllTick
  let s := s.sampleDue old
  let s := if s.domLive 3 then s.put Reg.OBJ_CMD_STATUS_BUSY 0 else s
  let s := if s.domLive 1 then s.put Reg.DBG_STATUS_BUSY 0 else s
  let s := if s.domLive 2 then s.serveWaiting else s
  s.fusesLoaded

end Sys2Proof.Machine
end

