-- ==== Sys2Proof/Machine/Tensor.lean ====
section
/-! DEFINITION. Matrix multiply-accumulate, conversion and reductions (R356-R367, R376-R383, R391-R407). -/

namespace Sys2Proof.Machine

/-! ## Unit instructions (R280, R282, R304) -/

/-- A unit instruction of core `c` issues: it runs in its unit until UNIT_INSTRUCTION_COMPLETE, holding its
ranges and the registers it writes, with the exception it meets.  On the island the exception arises at
once. -/
def State.unitFx (s : State) (c unit : Nat) (reads writes : List (Nat × Nat)) (regs : List Nat)
    (e : Option Exc) : Fx :=
  match e with
  | some x =>
    if c = isleCore then .exc s x
    else .done (s.updTile c fun t => { t with issueNo := t.issueNo + 1, units := t.units ++ [⟨unit, reads, writes, regs, some ⟨x.code, x.detail, t.pc, t.issueNo⟩⟩] })
  | none => .done (s.updTile c fun t => { t with issueNo := t.issueNo + 1, units := t.units ++ [⟨unit, reads, writes, regs, none⟩] })

/-- A unit instruction with its checks: interlocked by R282, stopped by its first exception, else its effect
with the exception it meets on the way. -/
def State.unitOp (s : State) (c unit : Nat) (reads writes : List (Nat × Nat)) (srcs dsts : List Nat)
    (e : List (Option Exc)) (fx : State → State × Option Exc) : Fx :=
  if (s.tile c).blocked (reads ++ writes) (srcs ++ dsts) then .stall s
  else match firstExc e with
    | some x => s.unitFx c unit reads writes dsts (some x)
    | none => (fx s).1.unitFx c unit reads writes dsts (fx s).2

/-- Matrix, vector and conversion units (R280). -/
def unitM : Nat := 0
def unitV : Nat := 1
def unitC : Nat := 2

/-- A compute unit's access to ranges of its core's store, which may meet ECC errors: after an uncorrectable one it has no
effect (R288, log entry 113). -/
def State.unitEcc (s : State) (c : Nat) (rs : List (Nat × Nat)) (hits : List TileHit)
    (fx : State → State × Option Exc) : State × Option Exc :=
  match s.readEcc c (s.tile c).cid rs hits with
  | (s, true) => (s, none)
  | (s, false) => fx s

/-- A byte of the tile store or the island SRAM. -/
def State.storeByte (s : State) (c a : Nat) : Byte :=
  if c = isleCore then s.island.sram.byte a else (s.tile c).rd a

/-- Bytes written to the tile store or the island SRAM. -/
def State.storeLe (s : State) (c a n v : Nat) : State := s.coreWrite c a n v

/-- Code of an element of a tensor (R293). -/
def State.elemCode (s : State) (c : Nat) (d : Desc) (i0 i1 i2 i3 : Nat) : Nat :=
  let a := d.addr i0 i1 i2 i3
  if d.fmt.is4 then (s.storeByte c a).toNat / 16 ^ (i0 % 2) % 16
  else leNat ((List.range (d.fmt.bits / 8)).map fun k => s.storeByte c (a + k))

/-- Scale code of an element (R293, R391). -/
def State.scaleCode (s : State) (c : Nat) (d : Desc) (i0 i1 i2 i3 : Nat) : Nat :=
  if d.bscale then (s.storeByte c (d.scaleAddr i0 i1 i2 i3)).toNat else 0x7F

/-- Value of an element under its block scale (R391). -/
def State.elemNum (s : State) (c : Nat) (d : Desc) (i0 i1 i2 i3 : Nat) : Num :=
  let v := d.fmt.val (s.elemCode c d i0 i1 i2 i3)
  if d.bscale then scaled (s.scaleCode c d i0 i1 i2 i3) v else v

/-- A tensor that leaves the island SRAM, or that would be written over the island's program (R113). -/
def isleRange (c : Nat) (d : Desc) (write : Bool) : Option Exc :=
  excIf (c == isleCore && (decide (sramSize ≤ d.top) || (d.bscale && decide (sramSize < d.bsPtr + d.scaleCount)) ||
    (write && decide (d.base < sramData)))) (excRange d.top)

/-- An accumulator this core has (R109). -/
def accOk (c k : Nat) : Bool := decide (k < fileSize c 8 2)

/-! ## MMA (R359-R367) -/

/-- The accumulator type of a pair of formats (R361): true FP32; `none` for a pair that is none. -/
def mmaPair (a b : Fmt) : Option Bool :=
  let i8 := fun (f : Fmt) => f == .int8 || f == .uint8
  let f8 := fun (f : Fmt) => f == .e4m3 || f == .e5m2
  if i8 a && i8 b then some false
  else if f8 a && f8 b then some true
  else if a != b then none
  else match a with
    | .int4 => some false
    | .e2m1 => some true
    | .int16 => some false
    | .fp16 => some true
    | .bf16 => some true
    | .fp32 => some true
    | .e4m3 => none
    | .e5m2 => none
    | .int8 => none
    | .uint8 => none

/-- Shape rules of R360, and the island's (R110). -/
def mmaShapeBad (c : Nat) (a b : Desc) : Bool :=
  a.d0 != b.d0 || decide (64 < a.d1) || decide (64 < b.d1) || a.d2 != 1 || a.d3 != 1 || b.d2 != 1 || b.d3 != 1 ||
    (mmaPair a.fmt b.fmt).isNone ||
    (c == isleCore && (a.d1 != 8 || b.d1 != 8 || a.d0 % 8 != 0 || decide (4096 < a.d0) ||
      !(a.fmt == .int8 || a.fmt == .uint8)))

/-- Ranges that native step `j` reads of an operand (R365). -/
def Desc.stepRanges (d : Desc) (j : Nat) : List (Nat × Nat) :=
  let lo := 64 * j
  let n := min 64 (d.d0 - lo)
  ((List.range d.d1).map fun r => (d.addr lo r 0 0, (n * d.fmt.bits + 7) / 8)) ++
    (if d.bscale then (List.range d.d1).map fun r => (d.scaleAddr lo r 0 0, (n + 31) / 32) else [])

/-- Exact sum of the products over `ks`, each negated for NEG (R362). -/
def dotNum (a b : Nat → Num) (neg : Bool) (ks : List Nat) : Num :=
  ks.foldl (fun s k => s.add (let p := (a k).mul (b k); if neg then p.neg else p)) (.fin false 0 0)

/-- One block of up to 32 values added to an FP32 element (R362), and whether NAN is met (R367). -/
def mmaBlock (a b : Nat → Num) (neg : Bool) (ks : List Nat) (c : Word) : Word × Bool :=
  let sum := dotNum a b neg ks
  let nanIn := ks.any fun k => (a k).isNan || (b k).isNan
  let r := toF32 sum
  let w := toF32 ((f32 c).add (f32 r))
  (w, (sum.isNan && !nanIn) || (!sum.isNan && !(f32 c).isNan && (f32 w).isNan))

/-- A native step on one element: the new element and the condition met (R362, R365, R367). -/
def mmaElem (fp neg : Bool) (a b : Nat → Num) (lo n : Nat) (c : Word) : Word × Option Nat :=
  if fp then
    let one := mmaBlock a b neg ((List.range (min 32 n)).map (lo + ·)) c
    if 32 < n then
      let two := mmaBlock a b neg ((List.range (n - 32)).map (lo + 32 + ·)) one.1
      (two.1, if one.2 || two.2 then some cNan else none)
    else (one.1, if one.2 then some cNan else none)
  else
    let sum := (List.range n).foldl (fun (s : Int) k => s + (a (lo + k)).at_ 0 * (b (lo + k)).at_ 0) 0
    let v := c.toInt + if neg then -sum else sum
    (BitVec.ofInt 32 v, if v < -(2 ^ 31) ∨ 2 ^ 31 ≤ v then some cOverflow else none)

/-- A scale code that the INT4 pair refuses is read in native step `j` (R392). -/
def State.badScale (s : State) (c : Nat) (d : Desc) (j : Nat) : Bool :=
  d.bscale && d.fmt == .int4 && (List.range d.d1).any fun r =>
    (List.range (min 64 (d.d0 - 64 * j))).any fun k =>
      let v := s.scaleCode c d (64 * j + k) r 0 0
      decide (v < 0x7F) || decide (0x9D < v)

/-- Native steps from `j` on (R365), to the first exception (R304, R367) and the step that met it. -/
def State.mmaSteps (s : State) (c k : Nat) (a b : Desc) (fp neg : Bool) (j : Nat) : Nat → State × Option (Exc × Nat)
  | 0 => (s, none)
  | n + 1 =>
    let t := s.tile c
    let unw := if c = isleCore ∨ !t.trapUnwritten then [] else t.unwrittenIn (a.stepRanges j ++ b.stepRanges j)
    let els := ((List.range a.d1).map fun m => (List.range b.d1).map fun q =>
      (m, q, mmaElem fp neg (fun i => s.elemNum c a i m 0 0) (fun i => s.elemNum c b i q 0 0) (64 * j)
        (min 64 (a.d0 - 64 * j)) (t.accEl k m q))).flatten
    let cond := [cNan, cOverflow].find? fun e => t.tmode.getLsbD e && els.any fun x => x.2.2.2 == some e
    match firstExc [excIf (s.badScale c a j || s.badScale c b j) excOperand, unw.head?.map excUnwritten,
        cond.map fun e => ⟨0x13, e⟩] with
    | some e => (s, some (e, j))
    | none =>
      State.mmaSteps (s.updTile c fun t => els.foldl (fun t x => t.setAcc k x.1 x.2.1 x.2.2.1) t) c k a b fp neg (j + 1) n

/-- A unit instruction that read the lines `ls` ends with an exception, or none: unwritten lines count unless it is the
unwritten-read exception (R291). -/
def State.countRead (s : State) (c : Nat) (ls : List Nat) (e : Option Exc) : State × Option Exc :=
  (if c = isleCore ∨ e.any (·.code == 0x15) then s else s.countUnwritten c ls.length, e)

/-- Accumulator rows and columns of a region set to zero bits (R360). -/
def Tile.zeroAcc (t : Tile) (k m n : Nat) : Tile :=
  ((List.range m).map fun r => (List.range n).map fun q => (r, q)).flatten.foldl (fun t e => t.setAcc k e.1 e.2 0) t

/-- MMA (R359-R367): C initialised or accumulated, plus or minus the products. -/
def execMma (u : BitVec 7) (acc : BitVec 3) (ta tb aux : BitVec 4) (zero neg : Bool) (rsv : BitVec 9) (hits : List TileHit)
    (s : State) : Out :=
  let c := coreOf u
  let k := acc.toNat
  .next <| s.issue c false fun s =>
    let t := s.tile c
    let va := t.treg ta.toNat
    let vb := t.treg tb.toNat
    let enc := excIf (aux != 0 || rsv != 0 || !(tOk c ta.toNat) || !(tOk c tb.toNat) || !(accOk c k)) excEncoding
    match descFields va, descFields vb with
    | some a, some b =>
      let fp := (mmaPair a.fmt b.fmt).getD false
      let last := (t.units.filter fun (o : UnitOp) => o.unit == unitM).getLast?
      let chain := (last.map fun (o : UnitOp) => o.regs == [rAcc k]).getD false
      let es := [enc, excIf (mmaShapeBad c a b) excOperand, excIf (!zero && t.accIsFp k != fp) excAccType,
        a.place ta.toNat, b.place tb.toNat, isleRange c a false, isleRange c b false]
      let go := fun (s : State) => s.unitEcc c (a.ranges ++ b.ranges) hits fun s =>
        let s := if zero then s.updTile c fun t => { t.zeroAcc k a.d1 b.d1 with accFp := t.accFp.set k fp } else s
        match s.mmaSteps c k a b fp neg 0 ((a.d0 + 63) / 64) with
        | (s, some (e, j)) =>
          s.countRead c ((s.tile c).unwrittenIn
            ((List.range (j + 1)).flatMap fun i => a.stepRanges i ++ b.stepRanges i)) (some e)
        | (s, none) => s.countRead c ((s.tile c).unwrittenIn (a.ranges ++ b.ranges)) none
      let f := s.unitOp c unitM (a.ranges ++ b.ranges) [] [rT ta.toNat, rT tb.toNat] [rAcc k] es go
      if chain && !(t.blocked (a.ranges ++ b.ranges) [rT ta.toNat, rT tb.toNat]) then
        match firstExc es with
        | some e => s.unitFx c unitM (a.ranges ++ b.ranges) [] [rAcc k] (some e)
        | none => (go s).1.unitFx c unitM (a.ranges ++ b.ranges) [] [rAcc k] (go s).2
      else f
    | _, _ => s.unitOp c unitM [] [] [rT ta.toNat, rT tb.toNat] [rAcc k] [enc, some excDescriptor] fun s => (s, none)

/-! ## CVT (R378-R383, R397-R407) -/

/-- The element conversions of one CVT: descriptors, source and modes. -/
structure Cvt where
  dst : Desc
  /-- source tensor, `none` for the accumulator -/
  src : Option Desc
  acc : Nat
  fp : Bool
  rescale : Bool
  group : Nat
  rm : RMode
  ieee : Bool
  deriving Repr

/-- What one element brings to the conversion: its exact value after step 1, whether an input is a NaN, and
its zero-point and clamp; or the refused entry (R403, R404). -/
structure Input where
  x : Num
  nanIn : Bool
  post : Post
  bad : Bool
  deriving Repr

/-- A byte bound of a rescale entry, unsigned for UINT8 (R405). -/
def boundOf (f : Fmt) (b : Nat) : Int := if f = .uint8 then (b : Int) else asSigned 8 b

/-- Step 1 of R397 with a rescale entry (R402-R404). -/
def rescaleIn (f : Fmt) (fp : Bool) (e : DWord) (a : Num) : Input :=
  let n := e.toNat
  let w1 := n / 2 ^ 32
  let post : Post := ⟨boundOf f (bits w1 7 0), bitAt w1 24, boundOf f (bits w1 15 8), boundOf f (bits w1 23 16)⟩
  let kind := bits w1 31 30
  if kind = 0 then
    let sc := f32 (BitVec.ofNat 32 n)
    ⟨a.mul sc, a.isNan || sc.isNan, post, false⟩
  else if kind = 1 ∧ !fp ∧ f.flt.isNone then
    ⟨(a.mul (.fin false (bits n 23 0) 0)).scale (-(bits n 29 24 : Int)), false, post, false⟩
  else ⟨.nan, true, post, true⟩

/-- The input of destination element (i0, i1, i2, i3) (R379, R380, R404).  `s` is the state that the whole source
is read from. -/
def State.cvtIn (s : State) (c : Nat) (v : Cvt) (i0 i1 i2 i3 : Nat) : Input :=
  match v.src with
  | some d => let x := s.elemNum c d i0 i1 i2 i3; ⟨x, x.isNan, Post.none_, false⟩
  | none =>
    let w := (s.tile c).accEl v.acc i1 i0
    let a := if v.fp then f32 w else Num.ofInt w.toInt
    if v.rescale then rescaleIn v.dst.fmt v.fp (Tab.get 0 (s.tile c).rescale (64 * v.group + i0)) a
    else ⟨a, a.isNan, Post.none_, false⟩

/-- Code of element `e` written at its place (R293). -/
def State.putElem (s : State) (c : Nat) (d : Desc) (i0 i1 i2 i3 code : Nat) : State :=
  let a := d.addr i0 i1 i2 i3
  if d.fmt.is4 then
    let b := (s.storeByte c a).toNat
    s.storeLe c a 1 (if i0 % 2 = 0 then b / 16 * 16 + code else b % 16 + code * 16)
  else s.storeLe c a (d.fmt.bits / 8) code

/-- A converted element counts (R382, R407). -/
def Tile.countElem (t : Tile) (x : Elem) : Tile :=
  { t with converted := (t.converted + 1) % 2 ^ 64, clipped := sat32 (t.clipped + b2n x.clip),
           flushed := sat32 (t.flushed + b2n x.flush), nan := sat32 (t.nan + b2n x.nan) }

/-- Lane of element `e`: its random number, and the state advanced (R381, R395). -/
def Tile.laneR (t : Tile) (e : Nat) : Nat := (laneRand (Tab.get 0 t.stoch (e % 64))).toNat

def Tile.advance (t : Tile) (rm : RMode) (e : Nat) : Tile :=
  if rm = .stoch then
    { t with stoch := t.stoch.set (e % 64) (lfsrNext (laneRand (Tab.get 0 t.stoch (e % 64)))) }
  else t

/-- The elements of a tensor in element order: number and indices. -/
def Desc.elems (d : Desc) : List (Nat × Nat × Nat × Nat × Nat) :=
  let l := (d.rows.map fun r => (List.range d.d0).map fun i0 => (i0, r.1, r.2.1, r.2.2)).flatten
  (List.range l.length).zip l

/-- The exception of an element: a refused entry, or the lowest enabled condition (R303, R403, R408). -/
def elemExc (i : Input) (x : Elem) (tmode : Word) : Option Exc :=
  if i.bad then some excOperand else (x.trap tmode).map fun n => ⟨0x13, n⟩

/-- Elements without block scales, in element order, to the first exception and the elements read by then (R381, R382,
R304). -/
def State.cvtElems (src s : State) (c : Nat) (v : Cvt) (tmode : Word) :
    List (Nat × Nat × Nat × Nat × Nat) → State × Option (Exc × Nat)
  | [] => (s, none)
  | (e, i0, i1, i2, i3) :: r =>
    let i := src.cvtIn c v i0 i1 i2 i3
    let x := toElem v.dst.fmt v.rm ((s.tile c).laneR e) v.ieee i.nanIn i.post i.x
    match elemExc i x tmode with
    | some q => (s, some (q, e + 1))
    | none =>
      let s := s.putElem c v.dst i0 i1 i2 i3 x.code
      State.cvtElems src (s.updTile c fun t => (t.countElem x).advance v.rm e) c v tmode r

/-- Block-scale choice (R406): E and the codes allowed. -/
def scaleTop (f : Fmt) : Int := match f with
  | .e4m3 => 8
  | .e5m2 => 15
  | .e2m1 => 2
  | .int4 => 2
  | .fp32 => 0
  | .bf16 => 0
  | .fp16 => 0
  | .int16 => 0
  | .int8 => 0
  | .uint8 => 0

/-- The scale code chosen for a block (R406). -/
def chooseScale (f : Fmt) (xs : List Num) : Nat :=
  let lo : Int := if f = .int4 then 0x7F else 0
  let hi : Int := if f = .int4 then 0x9D else 0xFE
  if xs.any Num.isNan then 0xFF
  else
    let m := xs.foldl (fun (m : Num) x => m.maxOf x.abs) (Num.fin false 0 0)
    match m with
    | .nan => 0xFF
    | .inf _ => hi.toNat
    | .fin _ n e => if n = 0 then 0x7F else (max lo (min hi (topExp n e - scaleTop f + 127))).toNat

/-- One block of up to 32 elements (R406, R762): every element is formed and judged before any is
written; of several conditions in the block the lowest-numbered is raised (R408, log entry 28). -/
def State.cvtBlock (src s : State) (c : Nat) (v : Cvt) (tmode : Word)
    (es : List (Nat × Nat × Nat × Nat × Nat)) : State × Option Exc :=
  let ins := es.map fun e => (e, src.cvtIn c v e.2.1 e.2.2.1 e.2.2.2.1 e.2.2.2.2)
  let sc := chooseScale v.dst.fmt (ins.map fun i => i.2.x)
  let newNan := !(ins.any fun i => i.2.nanIn)
  let outs := ins.map fun (e, i) =>
    (e, i, if sc = 0xFF then (⟨0, false, false, true, newNan⟩ : Elem)
      else toElem v.dst.fmt v.rm ((s.tile c).laneR e.1) v.ieee i.nanIn { i.post with clampEn := false }
        (i.x.scale (127 - (sc : Int))))
  let conds := [cNan, cClip, cFlush].find? fun n => outs.any fun o => o.2.2.trap (tmode &&& BitVec.ofNat 32 (2 ^ n)) == some n
  match if outs.any (fun o => o.2.1.bad) then some excOperand else conds.map fun n => ⟨0x13, n⟩ with
  | some q => (s, some q)
  | none => match es with
    | [] => (s, none)
    | (_, i0, i1, i2, i3) :: _ =>
      let s := s.storeLe c (v.dst.scaleAddr i0 i1 i2 i3) 1 sc
      (outs.foldl (fun s (e, _, x) =>
        (s.putElem c v.dst e.2.1 e.2.2.1 e.2.2.2.1 e.2.2.2.2 x.code).updTile c fun t =>
          (t.countElem x).advance v.rm e.1) s, none)

/-- Blocks in order, to the first exception and the elements read by then (R762); `n` bounds their number. -/
def State.cvtBlocks (src s : State) (c : Nat) (v : Cvt) (tmode : Word) :
    Nat → List (Nat × Nat × Nat × Nat × Nat) → State × Option (Exc × Nat)
  | 0, _ => (s, none)
  | n + 1, es => match es with
    | [] => (s, none)
    | x :: _ => match State.cvtBlock src s c v tmode (es.take 32) with
      | (s, some q) => (s, some (q, x.1 + (es.take 32).length))
      | (s, none) => State.cvtBlocks src s c v tmode n (es.drop 32)

/-- Source bytes of the first `n` elements of a CVT from a tensor `e` to a tensor of `d`'s shape. -/
def Desc.firstRanges (e d : Desc) (n : Nat) : List (Nat × Nat) :=
  (d.elems.take n).flatMap fun (_, i0, i1, i2, i3) =>
    (e.addr i0 i1 i2 i3, (e.fmt.bits + 7) / 8) :: if e.bscale then [(e.scaleAddr i0 i1 i2 i3, 1)] else []

/-- CVT (R378-R383). -/
def execCvt (u : BitVec 7) (acc : BitVec 3) (ta tb aux : BitVec 4) (rm : BitVec 3) (ieee rescale srcT : Bool)
    (rsv : BitVec 5) (hits : List TileHit) (s : State) : Out :=
  let c := coreOf u
  let isle := c == isleCore
  .next <| s.issue c false fun s =>
    let t := s.tile c
    let enc := excIf (rsv != 0 || (srcT && acc != 0) || (!srcT && tb != 0) || (!rescale && aux != 0) ||
      !(tOk c ta.toNat) || !(tOk c tb.toNat) || !(accOk c acc.toNat)) excEncoding
    let srcs := rT ta.toNat :: if srcT then [rT tb.toNat] else [rAcc acc.toNat]
    match descFields (t.treg ta.toNat), if srcT then descFields (t.treg tb.toNat) else descFields 0 with
    | some d, some e =>
      let v : Cvt := ⟨d, if srcT then some e else none, acc.toNat, t.accIsFp acc.toNat, rescale, aux.toNat,
        (rmodeOf rm.toNat).getD .near, ieee⟩
      let shape := if srcT then d.d0 != e.d0 || d.d1 != e.d1 || d.d2 != e.d2 || d.d3 != e.d3
        else decide (64 < d.d0) || decide (64 < d.d1) || d.d2 != 1 || d.d3 != 1
      let isleBad := isle && (srcT || v.fp || ieee || rm != 0 || !(d.fmt == .int8 || d.fmt == .uint8))
      let srcR := if srcT then e.ranges else []
      s.unitOp c unitC srcR d.ranges (srcs ++ if rescale then [rTable] else []) []
        [enc, excIf ((rmodeOf rm.toNat).isNone || (srcT && rescale) || shape || isleBad) excOperand,
          d.place ta.toNat, if srcT then e.place tb.toNat else none, isleRange c d true] fun s =>
        let unw := if isle then [] else t.unwrittenIn srcR
        match if t.trapUnwritten then unw.head? else none with
        | some l => (s, some (excUnwritten l))
        | none => s.unitEcc c (srcR ++ partialWords d.ranges) hits fun s =>
          let kindBad := fun (i0 : Nat) => isle && rescale && bits (Tab.get (0 : DWord) t.rescale (64 * v.group + i0)).toNat 63 62 != 1
          let els := d.elems
          let r := if isle && els.any (fun x => kindBad x.2.1) then (s, some (excOperand, 0))
            else if d.bscale then State.cvtBlocks s s c v t.tmode els.length els
            else State.cvtElems s s c v t.tmode els
          match r with
          | (s, some (q, n)) => s.countRead c (if srcT then t.unwrittenIn (e.firstRanges d n) else []) (some q)
          | (s, none) => s.countRead c unw none
    | _, _ => s.unitOp c unitC [] [] srcs [] [enc, some excDescriptor] fun s => (s, none)

/-! ## Reductions (R376, R377) -/

/-- The operations of R376. -/
inductive RedOp where
  | sum | max | min | absmax
  deriving DecidableEq, Repr

/-- Reduction of INT32 elements: result and exact value of a sum out of range (R377). -/
def redInt (op : RedOp) (l : List Word) : Word × Option Nat := match op with
  | .sum =>
    let v := l.foldl (fun (n : Int) w => n + w.toInt) 0
    (BitVec.ofInt 32 v, if v < -(2 ^ 31) ∨ 2 ^ 31 ≤ v then some cOverflow else none)
  | .max => (l.tail.foldl (fun m w => if m.slt w then w else m) (l.headD 0), none)
  | .min => (l.tail.foldl (fun m w => if w.slt m then w else m) (l.headD 0), none)
  | .absmax => (BitVec.ofNat 32 (min (2 ^ 31 - 1) (l.foldl (fun n w => max n w.toInt.natAbs) 0)), none)

/-- Reduction of FP32 elements: result and NAN met (R377, R358). -/
def redFp (op : RedOp) (l : List Word) : Word × Option Nat :=
  let xs := l.map f32
  match op with
  | .sum =>
    let r := match xs with
      | [] => Num.fin false 0 0
      | x :: r => r.foldl Num.add x
    (toF32 r, if r.isNan && !(xs.any Num.isNan) then some cNan else none)
  | .max => (toF32 (xs.foldl Num.maxOf .nan), none)
  | .min => (toF32 (xs.foldl Num.minOf .nan), none)
  | .absmax => (toF32 ((xs.map Num.abs).foldl Num.maxOf .nan), none)

/-- A reduction (R376, R377): ALL into a scalar register, ROWS and COLS into lanes of a vector register. -/
def State.reduce (s : State) (u : BitVec 7) (op : RedOp) (acc : BitVec 3) (ta tb aux : BitVec 4) (axis : BitVec 2)
    (dst : BitVec 5) : Out :=
  let c := coreOf u
  let k := acc.toNat
  let shaped := aux.getLsbD 0
  let isle := c == isleCore
  .next <| s.issue c false fun s =>
    let t := s.tile c
    let d := (t.treg ta.toNat).toNat
    let full := if isle then 8 else 64
    let rows := if shaped then bits d 95 80 + 1 else full
    let cols := if shaped then bits d 79 64 + 1 else full
    let dstReg := if axis = 0 then rS dst.toNat else rV dst.toNat
    let es := [excIf (tb != 0 || aux.toNat / 2 != 0 || axis == 3 || (!shaped && ta != 0) || !(tOk c ta.toNat) ||
        !(accOk c k) || (isle && (axis != 0 || op == .absmax))) excEncoding,
      excIf (decide (full < rows) || decide (full < cols)) excOperand]
    s.unitOp c unitV [] [] (rAcc k :: if shaped then [rT ta.toNat] else []) [dstReg] es fun s =>
      let one := fun (l : List (Nat × Nat)) =>
        let ws := l.map fun e => t.accEl k e.1 e.2
        if t.accIsFp k then redFp op ws else redInt op ws
      let stop := fun (r : Word × Option Nat) => match r.2 with
        | some n => t.tmode.getLsbD n
        | none => false
      if axis = 0 then
        let r := one ((List.range rows).map fun i => (List.range cols).map fun j => (i, j)).flatten
        if stop r then (s, r.2.map fun n => ⟨0x13, n⟩) else (s.updTile c fun t => t.setS dst.toNat r.1, none)
      else
        let rs := (List.range (if axis = 1 then rows else cols)).map fun i =>
          (i, one ((List.range (if axis = 1 then cols else rows)).map fun j => if axis = 1 then (i, j) else (j, i)))
        let good := rs.takeWhile fun r => !(stop r.2)
        let s := s.updTile c fun t => good.foldl (fun t r => t.setLane dst.toNat r.1 r.2.1) t
        (s, ((rs.drop good.length).head?.bind fun r => r.2.2).map fun n => ⟨0x13, n⟩)

/-- Sum of an accumulator region (R377). -/
def execReduceSum (u : BitVec 7) (acc : BitVec 3) (ta tb aux : BitVec 4) (axis : BitVec 2) (dst : BitVec 5) (s : State) : Out :=
  s.reduce u .sum acc ta tb aux axis dst

/-- Maximum of an accumulator region (R377). -/
def execReduceMax (u : BitVec 7) (acc : BitVec 3) (ta tb aux : BitVec 4) (axis : BitVec 2) (dst : BitVec 5) (s : State) : Out :=
  s.reduce u .max acc ta tb aux axis dst

/-- Minimum of an accumulator region (R377). -/
def execReduceMin (u : BitVec 7) (acc : BitVec 3) (ta tb aux : BitVec 4) (axis : BitVec 2) (dst : BitVec 5) (s : State) : Out :=
  s.reduce u .min acc ta tb aux axis dst

/-- Largest magnitude of an accumulator region (R377). -/
def execReduceAbsmax (u : BitVec 7) (acc : BitVec 3) (ta tb aux : BitVec 4) (axis : BitVec 2) (dst : BitVec 5) (s : State) : Out :=
  s.reduce u .absmax acc ta tb aux axis dst

end Sys2Proof.Machine
end

