-- ==== Sys2Proof/Machine/Vector.lean ====
section
/-! DEFINITION. Vector, predicate and rescale-table instructions (R368-R375). -/

namespace Sys2Proof.Machine

/-! ## Shared forms (R368) -/

/-- A vector instruction: not on the island, checked and run by the vector unit. -/
def State.vec (s : State) (u : BitVec 7) (reads writes : List (Nat × Nat)) (srcs dsts : List Nat)
    (es : List (Option Exc)) (fx : State → State × Option Exc) : Fx :=
  s.unitOp (coreOf u) unitV reads writes srcs dsts (tileOnly (coreOf u) :: es) fx

/-- Lanes whose bit in p[pd] is 1 (R298). -/
def Tile.lanes (t : Tile) (pd : Nat) : List Nat := (List.range 64).filter fun i => (t.preg pd).getLsbD i

/-- Selected lanes of a vector register written (R368). -/
def Tile.setLanes (t : Tile) (vd pd : Nat) (f : Nat → Word) : Tile :=
  (t.lanes pd).foldl (fun x i => x.setLane vd i (f i)) t

/-- Second operand in a lane: v[vs2], or the scalar s[vs2] (R368). -/
def Tile.second (t : Tile) (vs2 : Nat) (scalar : Bool) (i : Nat) : Word :=
  if scalar then t.sreg vs2 else t.vlane vs2 i

/-- Register of the second operand, for interlocks. -/
def secondReg (vs2 : Nat) (scalar : Bool) : Nat := if scalar then rS vs2 else rV vs2

/-- An integer lane operation of vd, vs1 and the second operand (R369). -/
def State.vecInt (s : State) (u : BitVec 7) (vd vs1 vs2 : BitVec 5) (pd : BitVec 3) (scalar : Bool)
    (es : List (Option Exc)) (f : Word → Word → Word → Word) : Out :=
  let c := coreOf u
  .next <| s.issue c false fun s =>
    s.vec u [] [] [rV vs1.toNat, secondReg vs2.toNat scalar, rP pd.toNat] [rV vd.toNat] es fun s =>
      (s.updTile c fun t => t.setLanes vd.toNat pd.toNat fun i =>
        f (t.vlane vd.toNat i) (t.vlane vs1.toNat i) (t.second vs2.toNat scalar i), none)

/-- A unary instruction's vs2 and SCALAR are 0 (R368). -/
def unaryExc (vs2 : BitVec 5) (scalar : Bool) : List (Option Exc) := [excIf (vs2 != 0 || scalar) excEncoding]

/-- An FP32 lane result (R357, R358, R370): the word written, flushed under FTZ, and the conditions met. -/
def fpLane (ftz : Bool) (nanIn : Bool) (w : Word) : Word × List Nat :=
  if ftz && isSubnormal w then (w &&& 0x80000000, [cFlush])
  else (w, if (f32 w).isNan && !nanIn then [cNan] else [])

/-- The lowest enabled condition of a list (R358, R408). -/
def trapOf (tmode : Word) (l : List Nat) : Option Exc :=
  ([cNan, cClip, cFlush, cOverflow].find? fun n => tmode.getLsbD n && l.contains n).map fun n => ⟨0x13, n⟩

/-- An FP32 lane operation of vd, vs1 and the second operand (R370); `third`: vd is an operand. -/
def State.vecFp (s : State) (u : BitVec 7) (vd vs1 vs2 : BitVec 5) (pd : BitVec 3) (scalar : Bool)
    (es : List (Option Exc)) (nanIn : Word → Word → Word → Bool) (f : Word → Word → Word → Word) : Out :=
  let c := coreOf u
  .next <| s.issue c false fun s =>
    s.vec u [] [] [rV vs1.toNat, secondReg vs2.toNat scalar, rP pd.toNat] [rV vd.toNat] es fun s =>
      let t := s.tile c
      let r := (t.lanes pd.toNat).map fun i =>
        let a := t.vlane vd.toNat i
        let x := t.vlane vs1.toNat i
        let y := t.second vs2.toNat scalar i
        (i, fpLane (t.tmode.getLsbD 7) (nanIn a x y) (f a x y))
      match trapOf t.tmode (r.map fun e => e.2.2).flatten with
      | some e => (s, some e)
      | none => (s.updTile c fun t => r.foldl (fun t e => t.setLane vd.toNat e.1 e.2.1) t, none)

/-- NaN inputs of an operation of two operands, of one, and of three. -/
def nan2 (_ x y : Word) : Bool := (f32 x).isNan || (f32 y).isNan
def nan1 (_ x _ : Word) : Bool := (f32 x).isNan
def nan3 (a x y : Word) : Bool := (f32 a).isNan || (f32 x).isNan || (f32 y).isNan
def nan0 (_ _ _ : Word) : Bool := true

/-! ## Integer operations (R369) -/

/-- Sum of lanes (R369). -/
def execVadd (u : BitVec 7) (vd vs1 vs2 : BitVec 5) (pd : BitVec 3) (scalar : Bool) (s : State) : Out :=
  s.vecInt u vd vs1 vs2 pd scalar [] fun _ x y => x + y

/-- Difference of lanes (R369). -/
def execVsub (u : BitVec 7) (vd vs1 vs2 : BitVec 5) (pd : BitVec 3) (scalar : Bool) (s : State) : Out :=
  s.vecInt u vd vs1 vs2 pd scalar [] fun _ x y => x - y

/-- Low word of the product of lanes (R369). -/
def execVmul (u : BitVec 7) (vd vs1 vs2 : BitVec 5) (pd : BitVec 3) (scalar : Bool) (s : State) : Out :=
  s.vecInt u vd vs1 vs2 pd scalar [] fun _ x y => x * y

/-- High word of the signed product of lanes (R369). -/
def execVmulh (u : BitVec 7) (vd vs1 vs2 : BitVec 5) (pd : BitVec 3) (scalar : Bool) (s : State) : Out :=
  s.vecInt u vd vs1 vs2 pd scalar [] fun _ x y => mulHi x y

/-- High word of the unsigned product of lanes (R369). -/
def execVmulhu (u : BitVec 7) (vd vs1 vs2 : BitVec 5) (pd : BitVec 3) (scalar : Bool) (s : State) : Out :=
  s.vecInt u vd vs1 vs2 pd scalar [] fun _ x y => mulHiU x y

/-- Signed minimum of lanes (R369). -/
def execVmin (u : BitVec 7) (vd vs1 vs2 : BitVec 5) (pd : BitVec 3) (scalar : Bool) (s : State) : Out :=
  s.vecInt u vd vs1 vs2 pd scalar [] fun _ x y => if y.slt x then y else x

/-- Signed maximum of lanes (R369). -/
def execVmax (u : BitVec 7) (vd vs1 vs2 : BitVec 5) (pd : BitVec 3) (scalar : Bool) (s : State) : Out :=
  s.vecInt u vd vs1 vs2 pd scalar [] fun _ x y => if x.slt y then y else x

/-- Unsigned minimum of lanes (R369). -/
def execVminu (u : BitVec 7) (vd vs1 vs2 : BitVec 5) (pd : BitVec 3) (scalar : Bool) (s : State) : Out :=
  s.vecInt u vd vs1 vs2 pd scalar [] fun _ x y => if y.ult x then y else x

/-- Unsigned maximum of lanes (R369). -/
def execVmaxu (u : BitVec 7) (vd vs1 vs2 : BitVec 5) (pd : BitVec 3) (scalar : Bool) (s : State) : Out :=
  s.vecInt u vd vs1 vs2 pd scalar [] fun _ x y => if x.ult y then y else x

/-- Bitwise AND of lanes (R369). -/
def execVand (u : BitVec 7) (vd vs1 vs2 : BitVec 5) (pd : BitVec 3) (scalar : Bool) (s : State) : Out :=
  s.vecInt u vd vs1 vs2 pd scalar [] fun _ x y => x &&& y

/-- Bitwise OR of lanes (R369). -/
def execVor (u : BitVec 7) (vd vs1 vs2 : BitVec 5) (pd : BitVec 3) (scalar : Bool) (s : State) : Out :=
  s.vecInt u vd vs1 vs2 pd scalar [] fun _ x y => x ||| y

/-- Bitwise XOR of lanes (R369). -/
def execVxor (u : BitVec 7) (vd vs1 vs2 : BitVec 5) (pd : BitVec 3) (scalar : Bool) (s : State) : Out :=
  s.vecInt u vd vs1 vs2 pd scalar [] fun _ x y => x ^^^ y

/-- Left shift of lanes (R369). -/
def execVsll (u : BitVec 7) (vd vs1 vs2 : BitVec 5) (pd : BitVec 3) (scalar : Bool) (s : State) : Out :=
  s.vecInt u vd vs1 vs2 pd scalar [] fun _ x y => x <<< shamt y

/-- Logical right shift of lanes (R369). -/
def execVsrl (u : BitVec 7) (vd vs1 vs2 : BitVec 5) (pd : BitVec 3) (scalar : Bool) (s : State) : Out :=
  s.vecInt u vd vs1 vs2 pd scalar [] fun _ x y => x >>> shamt y

/-- Arithmetic right shift of lanes (R369). -/
def execVsra (u : BitVec 7) (vd vs1 vs2 : BitVec 5) (pd : BitVec 3) (scalar : Bool) (s : State) : Out :=
  s.vecInt u vd vs1 vs2 pd scalar [] fun _ x y => x.sshiftRight (shamt y)

/-- Absolute value of lanes, with 0x8000_0000 unchanged (R369). -/
def execVabs (u : BitVec 7) (vd vs1 vs2 : BitVec 5) (pd : BitVec 3) (scalar : Bool) (s : State) : Out :=
  s.vecInt u vd vs1 vs2 pd scalar (unaryExc vs2 scalar) fun _ x _ => if x.slt 0 then -x else x

/-- Multiply-add of lanes (R369). -/
def execVmadd (u : BitVec 7) (vd vs1 vs2 : BitVec 5) (pd : BitVec 3) (scalar : Bool) (s : State) : Out :=
  s.vecInt u vd vs1 vs2 pd scalar [] fun a x y => a + x * y

/-- Rounding arithmetic right shift, formed in 33 bits (R369). -/
def roundShift (x : Word) (n : Nat) : Word :=
  if n = 0 then x else BitVec.ofInt 32 ((x.toInt + 2 ^ (n - 1)) / 2 ^ n)

/-- Rounding arithmetic right shift of lanes (R369). -/
def execVsrar (u : BitVec 7) (vd vs1 vs2 : BitVec 5) (pd : BitVec 3) (scalar : Bool) (s : State) : Out :=
  s.vecInt u vd vs1 vs2 pd scalar [] fun _ x y => roundShift x (shamt y)

/-! ## FP32 operations (R370) -/

/-- Sum of lanes (R370). -/
def execVfadd (u : BitVec 7) (vd vs1 vs2 : BitVec 5) (pd : BitVec 3) (scalar : Bool) (s : State) : Out :=
  s.vecFp u vd vs1 vs2 pd scalar [] nan2 fun _ x y => toF32 ((f32 x).add (f32 y))

/-- Difference of lanes (R370). -/
def execVfsub (u : BitVec 7) (vd vs1 vs2 : BitVec 5) (pd : BitVec 3) (scalar : Bool) (s : State) : Out :=
  s.vecFp u vd vs1 vs2 pd scalar [] nan2 fun _ x y => toF32 ((f32 x).add (f32 y).neg)

/-- Product of lanes (R370). -/
def execVfmul (u : BitVec 7) (vd vs1 vs2 : BitVec 5) (pd : BitVec 3) (scalar : Bool) (s : State) : Out :=
  s.vecFp u vd vs1 vs2 pd scalar [] nan2 fun _ x y => toF32 ((f32 x).mul (f32 y))

/-- Fused multiply-add of lanes (R370). -/
def execVfma (u : BitVec 7) (vd vs1 vs2 : BitVec 5) (pd : BitVec 3) (scalar : Bool) (s : State) : Out :=
  s.vecFp u vd vs1 vs2 pd scalar [] nan3 fun a x y => toF32 ((f32 a).add ((f32 x).mul (f32 y)))

/-- Minimum of lanes (R370). -/
def execVfmin (u : BitVec 7) (vd vs1 vs2 : BitVec 5) (pd : BitVec 3) (scalar : Bool) (s : State) : Out :=
  s.vecFp u vd vs1 vs2 pd scalar [] nan2 fun _ x y => toF32 ((f32 x).minOf (f32 y))

/-- Maximum of lanes (R370). -/
def execVfmax (u : BitVec 7) (vd vs1 vs2 : BitVec 5) (pd : BitVec 3) (scalar : Bool) (s : State) : Out :=
  s.vecFp u vd vs1 vs2 pd scalar [] nan2 fun _ x y => toF32 ((f32 x).maxOf (f32 y))

/-- Reciprocal of lanes (R370). -/
def execVfrcp (u : BitVec 7) (vd vs1 vs2 : BitVec 5) (pd : BitVec 3) (scalar : Bool) (s : State) : Out :=
  s.vecFp u vd vs1 vs2 pd scalar (unaryExc vs2 scalar) nan1 fun _ x _ => toF32 ((Num.fin false 1 0).div (f32 x))

/-- Reciprocal square root of lanes (R370). -/
def execVfrsqrt (u : BitVec 7) (vd vs1 vs2 : BitVec 5) (pd : BitVec 3) (scalar : Bool) (s : State) : Out :=
  s.vecFp u vd vs1 vs2 pd scalar (unaryExc vs2 scalar) nan1 fun _ x _ => toF32 (f32 x).rsqrt

/-- Square root of lanes (R370). -/
def execVfsqrt (u : BitVec 7) (vd vs1 vs2 : BitVec 5) (pd : BitVec 3) (scalar : Bool) (s : State) : Out :=
  s.vecFp u vd vs1 vs2 pd scalar (unaryExc vs2 scalar) nan1 fun _ x _ => toF32 (f32 x).sqrt

/-- Power of two of lanes (R370). -/
def execVfexp2 (u : BitVec 7) (vd vs1 vs2 : BitVec 5) (pd : BitVec 3) (scalar : Bool) (s : State) : Out :=
  s.vecFp u vd vs1 vs2 pd scalar (unaryExc vs2 scalar) nan1 fun _ x _ => toF32 (f32 x).exp2

/-- Base-2 logarithm of lanes (R370). -/
def execVflog2 (u : BitVec 7) (vd vs1 vs2 : BitVec 5) (pd : BitVec 3) (scalar : Bool) (s : State) : Out :=
  s.vecFp u vd vs1 vs2 pd scalar (unaryExc vs2 scalar) nan1 fun _ x _ => toF32 (f32 x).log2

/-- Quotient of lanes (R370). -/
def execVfdiv (u : BitVec 7) (vd vs1 vs2 : BitVec 5) (pd : BitVec 3) (scalar : Bool) (s : State) : Out :=
  s.vecFp u vd vs1 vs2 pd scalar [] nan2 fun _ x y => toF32 ((f32 x).div (f32 y))

/-- Signed integer to FP32 of lanes (R370). -/
def execVi2f (u : BitVec 7) (vd vs1 vs2 : BitVec 5) (pd : BitVec 3) (scalar : Bool) (s : State) : Out :=
  s.vecFp u vd vs1 vs2 pd scalar (unaryExc vs2 scalar) nan0 fun _ x _ => toF32 (Num.ofInt x.toInt)

/-- Unsigned integer to FP32 of lanes (R370). -/
def execVu2f (u : BitVec 7) (vd vs1 vs2 : BitVec 5) (pd : BitVec 3) (scalar : Bool) (s : State) : Out :=
  s.vecFp u vd vs1 vs2 pd scalar (unaryExc vs2 scalar) nan0 fun _ x _ => toF32 (Num.ofInt x.toNat)

/-- Sign cleared, a NaN included; never flushed (R370). -/
def execVfabs (u : BitVec 7) (vd vs1 vs2 : BitVec 5) (pd : BitVec 3) (scalar : Bool) (s : State) : Out :=
  s.vecInt u vd vs1 vs2 pd scalar (unaryExc vs2 scalar) fun _ x _ => x &&& 0x7FFFFFFF

/-- Sign inverted, a NaN included; never flushed (R370). -/
def execVfneg (u : BitVec 7) (vd vs1 vs2 : BitVec 5) (pd : BitVec 3) (scalar : Bool) (s : State) : Out :=
  s.vecInt u vd vs1 vs2 pd scalar (unaryExc vs2 scalar) fun _ x _ => x ^^^ 0x80000000

/-- FP32 to saturated INT32 (R370). -/
def execVf2i (u : BitVec 7) (vd vs1 vs2 : BitVec 5) (pd : BitVec 3) (scalar : Bool) (s : State) : Out :=
  s.vecInt u vd vs1 vs2 pd scalar (unaryExc vs2 scalar) fun _ x _ => toI32 (f32 x)

/-! ## Comparisons and predicates (R371) -/

/-- A field that names a predicate register has its high bits 0 (R371). -/
def pOk (k : BitVec 5) : Bool := decide (k.toNat < 8)

/-- Bits of a predicate register, those that p[pd] selects (R371). -/
def Tile.setPBits (t : Tile) (k pd : Nat) (f : Nat → Bool) : Tile :=
  t.setP k (BitVec.ofNat 64 ((List.range 64).foldl (fun n i =>
    n + b2n (if (t.preg pd).getLsbD i then f i else (t.preg k).getLsbD i) * 2 ^ i) 0))

/-- A comparison of lanes into a predicate (R371). -/
def State.vecCmp (s : State) (u : BitVec 7) (vd vs1 vs2 : BitVec 5) (pd : BitVec 3) (scalar : Bool)
    (f : Word → Word → Bool) : Out :=
  let c := coreOf u
  .next <| s.issue c false fun s =>
    s.vec u [] [] [rV vs1.toNat, secondReg vs2.toNat scalar, rP pd.toNat] [rP vd.toNat]
        [excIf (!(pOk vd)) excEncoding] fun s =>
      (s.updTile c fun t => t.setPBits vd.toNat pd.toNat fun i => f (t.vlane vs1.toNat i) (t.second vs2.toNat scalar i), none)

/-- CMPEQ of lanes (R371). -/
def execVcmpeq (u : BitVec 7) (vd vs1 vs2 : BitVec 5) (pd : BitVec 3) (scalar : Bool) (s : State) : Out :=
  s.vecCmp u vd vs1 vs2 pd scalar fun x y => x == y

/-- CMPNE of lanes (R371). -/
def execVcmpne (u : BitVec 7) (vd vs1 vs2 : BitVec 5) (pd : BitVec 3) (scalar : Bool) (s : State) : Out :=
  s.vecCmp u vd vs1 vs2 pd scalar fun x y => x != y

/-- CMPLT of lanes (R371). -/
def execVcmplt (u : BitVec 7) (vd vs1 vs2 : BitVec 5) (pd : BitVec 3) (scalar : Bool) (s : State) : Out :=
  s.vecCmp u vd vs1 vs2 pd scalar fun x y => x.slt y

/-- CMPLE of lanes (R371). -/
def execVcmple (u : BitVec 7) (vd vs1 vs2 : BitVec 5) (pd : BitVec 3) (scalar : Bool) (s : State) : Out :=
  s.vecCmp u vd vs1 vs2 pd scalar fun x y => !(y.slt x)

/-- CMPLTU of lanes (R371). -/
def execVcmpltu (u : BitVec 7) (vd vs1 vs2 : BitVec 5) (pd : BitVec 3) (scalar : Bool) (s : State) : Out :=
  s.vecCmp u vd vs1 vs2 pd scalar fun x y => x.ult y

/-- CMPLEU of lanes (R371). -/
def execVcmpleu (u : BitVec 7) (vd vs1 vs2 : BitVec 5) (pd : BitVec 3) (scalar : Bool) (s : State) : Out :=
  s.vecCmp u vd vs1 vs2 pd scalar fun x y => !(y.ult x)

/-- FCMPEQ of lanes (R371). -/
def execVfcmpeq (u : BitVec 7) (vd vs1 vs2 : BitVec 5) (pd : BitVec 3) (scalar : Bool) (s : State) : Out :=
  s.vecCmp u vd vs1 vs2 pd scalar fun x y => (f32 x).eqv (f32 y)

/-- FCMPLT of lanes (R371). -/
def execVfcmplt (u : BitVec 7) (vd vs1 vs2 : BitVec 5) (pd : BitVec 3) (scalar : Bool) (s : State) : Out :=
  s.vecCmp u vd vs1 vs2 pd scalar fun x y => (f32 x).below (f32 y)

/-- FCMPLE of lanes (R371). -/
def execVfcmple (u : BitVec 7) (vd vs1 vs2 : BitVec 5) (pd : BitVec 3) (scalar : Bool) (s : State) : Out :=
  s.vecCmp u vd vs1 vs2 pd scalar fun x y => (f32 x).below (f32 y) || (f32 x).eqv (f32 y)

/-- FCMPUN of lanes (R371). -/
def execVfcmpun (u : BitVec 7) (vd vs1 vs2 : BitVec 5) (pd : BitVec 3) (scalar : Bool) (s : State) : Out :=
  s.vecCmp u vd vs1 vs2 pd scalar fun x y => (f32 x).isNan || (f32 y).isNan

/-- Lane permute (R371). -/
def execVperm (u : BitVec 7) (vd vs1 vs2 : BitVec 5) (pd : BitVec 3) (s : State) : Out :=
  let c := coreOf u
  .next <| s.issue c false fun s =>
    s.vec u [] [] [rV vs1.toNat, rV vs2.toNat, rP pd.toNat] [rV vd.toNat] [] fun s =>
      (s.updTile c fun t => t.setLanes vd.toNat pd.toNat fun i =>
        t.vlane vs1.toNat ((t.vlane vs2.toNat i).toNat % 64), none)

/-- Lane rotate by a scalar (R371). -/
def execVrot (u : BitVec 7) (vd vs1 vs2 : BitVec 5) (pd : BitVec 3) (s : State) : Out :=
  let c := coreOf u
  .next <| s.issue c false fun s =>
    s.vec u [] [] [rV vs1.toNat, rS vs2.toNat, rP pd.toNat] [rV vd.toNat] [] fun s =>
      (s.updTile c fun t => t.setLanes vd.toNat pd.toNat fun i =>
        t.vlane vs1.toNat ((i + (t.sreg vs2.toNat).toNat) % 64), none)

/-- The reduction kinds of R372 on the selected lanes: result and whether NAN is met. -/
def vredOf (kind : Nat) (l : List Word) : Option (Word × Bool) :=
  let xs := l.map f32
  let fp := fun (x : Num) => (toF32 x, x.isNan && !(xs.any Num.isNan))
  match kind with
  | 0 => some (l.foldl (· + ·) 0, false)
  | 1 => some (l.foldl (fun m w => if m.slt w then w else m) 0x80000000, false)
  | 2 => some (l.foldl (fun m w => if w.slt m then w else m) 0x7FFFFFFF, false)
  | 3 => some (match xs with
    | [] => (0, false)
    | x :: r => fp (r.foldl Num.add x))
  | 4 => some (if l.isEmpty then (0xFF800000, false) else (toF32 (xs.foldl Num.maxOf .nan), false))
  | 5 => some (if l.isEmpty then (0x7F800000, false) else (toF32 (xs.foldl Num.minOf .nan), false))
  | _ => none

/-- Reduction of the selected lanes into a scalar (R371, R372); FTZ acts on its FP32 results (log entry 29). -/
def execVred (u : BitVec 7) (vd vs1 vs2 : BitVec 5) (pd : BitVec 3) (s : State) : Out :=
  let c := coreOf u
  .next <| s.issue c false fun s =>
    s.vec u [] [] [rV vs1.toNat, rP pd.toNat] [rS vd.toNat] [excIf (decide (5 < vs2.toNat)) excOperand] fun s =>
      let t := s.tile c
      match vredOf vs2.toNat ((t.lanes pd.toNat).map (t.vlane vs1.toNat)) with
      | none => (s, some excOperand)
      | some (w, n) =>
        let r := fpLane (t.tmode.getLsbD 7 && decide (3 ≤ vs2.toNat)) (!n) w
        match trapOf t.tmode r.2 with
        | some e => (s, some e)
        | none => (s.updTile c fun t => t.setS vd.toNat r.1, none)

/-- A predicate operation (R371). -/
def State.predOp (s : State) (u : BitVec 7) (vd vs1 vs2 : BitVec 5) (pd : BitVec 3) (f : Bool → Bool → Bool) : Out :=
  let c := coreOf u
  .next <| s.issue c false fun s =>
    s.vec u [] [] [rP vs1.toNat, rP vs2.toNat, rP pd.toNat] [rP vd.toNat]
        [excIf (!(pOk vd) || !(pOk vs1) || !(pOk vs2)) excEncoding] fun s =>
      (s.updTile c fun t => t.setPBits vd.toNat pd.toNat fun i =>
        f ((t.preg vs1.toNat).getLsbD i) ((t.preg vs2.toNat).getLsbD i), none)

/-- Predicate AND (R371). -/
def execPand (u : BitVec 7) (vd vs1 vs2 : BitVec 5) (pd : BitVec 3) (s : State) : Out :=
  s.predOp u vd vs1 vs2 pd fun a b => a && b

/-- Predicate OR (R371). -/
def execPor (u : BitVec 7) (vd vs1 vs2 : BitVec 5) (pd : BitVec 3) (s : State) : Out :=
  s.predOp u vd vs1 vs2 pd fun a b => a || b

/-- Predicate XOR (R371). -/
def execPxor (u : BitVec 7) (vd vs1 vs2 : BitVec 5) (pd : BitVec 3) (s : State) : Out :=
  s.predOp u vd vs1 vs2 pd fun a b => a != b

/-- Predicate ANDN (R371). -/
def execPandn (u : BitVec 7) (vd vs1 vs2 : BitVec 5) (pd : BitVec 3) (s : State) : Out :=
  s.predOp u vd vs1 vs2 pd fun a b => a && !b

/-- Predicate set from two scalars (R371). -/
def execPset (u : BitVec 7) (vd vs1 vs2 : BitVec 5) (pd : BitVec 3) (s : State) : Out :=
  let c := coreOf u
  .next <| s.issue c false fun s =>
    s.vec u [] [] [rS vs1.toNat, rS vs2.toNat, rP pd.toNat] [rP vd.toNat] [excIf (!(pOk vd)) excEncoding] fun s =>
      (s.updTile c fun t => t.setPBits vd.toNat pd.toNat fun i => (t.sreg vs2.toNat ++ t.sreg vs1.toNat).getLsbD i, none)

/-- Half of a predicate into a scalar (R371). -/
def execPget (u : BitVec 7) (vd vs1 vs2 : BitVec 5) (pd : BitVec 3) (s : State) : Out :=
  let c := coreOf u
  .next <| s.issue c false fun s =>
    s.vec u [] [] [rP vs1.toNat] [rS vd.toNat]
        [excIf (!(pOk vs1) || decide (1 < vs2.toNat) || pd != 0) excEncoding] fun s =>
      (s.updTile c fun t => t.setS vd.toNat ((t.preg vs1.toNat).extractLsb' (32 * vs2.toNat) 32), none)

/-! ## Loads and stores (R373, R374) -/

/-- A lane access: address step from the base register, element bytes and alignment (R373). -/
structure Lanes where
  base : Int
  step : Int
  bytes : Nat
  deriving DecidableEq, Repr

def Lanes.addr (l : Lanes) (i : Nat) : Int := l.base + i * l.step

/-- The exception of a lane (R374): the alignment rule of address and stride, then R286. -/
def Lanes.exc (l : Lanes) (field i : Nat) : Option Exc :=
  if l.base.emod l.bytes ≠ 0 ∨ l.step.emod l.bytes ≠ 0 then some (excAddress field)
  else if l.addr i < 0 ∨ (storeTop : Int) + 1 - l.bytes < l.addr i then some (excRange (l.addr i))
  else none

/-- Tile-store ranges of the lanes given. -/
def Lanes.ranges (l : Lanes) (is : List Nat) : List (Nat × Nat) := is.map fun i => ((l.addr i).toNat, l.bytes)

/-- A vector load (R373, R374): a failing lane or an unwritten line that traps writes no lane. -/
def State.vload (s : State) (u : BitVec 7) (vd vs1 vs2 : BitVec 5) (pd : BitVec 3) (hits : List TileHit) (strided : Bool)
    (bytes : Nat) (widen : Nat → Word) : Out :=
  let c := coreOf u
  .next <| s.issue c false fun s =>
    let t := s.tile c
    let l : Lanes := ⟨(t.sreg vs1.toNat).toNat, if strided then (t.sreg vs2.toNat).toInt else bytes, bytes⟩
    let is := t.lanes pd.toNat
    s.vec u (l.ranges is) [] ([rS vs1.toNat, rP pd.toNat] ++ if strided then [rS vs2.toNat] else []) [rV vd.toNat]
        [is.findSome? (l.exc vs1.toNat)] fun s =>
      match s.readRanges c (l.ranges is) with
      | .error e => (s, some e)
      | .ok s => s.unitEcc c (l.ranges is) hits fun s =>
          (s.updTile c fun t => is.foldl (fun x i => x.setLane vd.toNat i (widen (t.rdLe (l.addr i).toNat bytes))) t, none)

/-- A vector store (R373, R374): lanes before the first failing one are written, each to a word that is read first (R288). -/
def State.vstore (s : State) (u : BitVec 7) (vd vs1 vs2 : BitVec 5) (pd : BitVec 3) (hits : List TileHit) (strided : Bool)
    (bytes : Nat) : Out :=
  let c := coreOf u
  .next <| s.issue c false fun s =>
    let t := s.tile c
    let l : Lanes := ⟨(t.sreg vs1.toNat).toNat, if strided then (t.sreg vs2.toNat).toInt else bytes, bytes⟩
    let is := t.lanes pd.toNat
    let good := is.takeWhile fun i => (l.exc vs1.toNat i).isNone
    s.vec u [] (l.ranges good) ([rS vs1.toNat, rP pd.toNat, rV vd.toNat] ++ if strided then [rS vs2.toNat] else []) []
        [] fun s => s.unitEcc c (l.ranges good) hits fun s =>
      (s.updTile c fun t => good.foldl (fun x i => x.wrLe (l.addr i).toNat bytes (t.vlane vd.toNat i).toNat) t,
        is.findSome? (l.exc vs1.toNat))

/-- Words loaded into lanes (R373). -/
def execVld (u : BitVec 7) (vd vs1 vs2 : BitVec 5) (pd : BitVec 3) (hits : List TileHit) (s : State) : Out :=
  s.vload u vd vs1 vs2 pd hits false 4 fun v => BitVec.ofNat 32 v

/-- Strided words loaded into lanes (R373). -/
def execVlds (u : BitVec 7) (vd vs1 vs2 : BitVec 5) (pd : BitVec 3) (hits : List TileHit) (s : State) : Out :=
  s.vload u vd vs1 vs2 pd hits true 4 fun v => BitVec.ofNat 32 v

/-- Bytes, sign-extended loaded into lanes (R373). -/
def execVld8 (u : BitVec 7) (vd vs1 vs2 : BitVec 5) (pd : BitVec 3) (hits : List TileHit) (s : State) : Out :=
  s.vload u vd vs1 vs2 pd hits false 1 fun v => sext 8 32 v

/-- Bytes, zero-extended loaded into lanes (R373). -/
def execVldu8 (u : BitVec 7) (vd vs1 vs2 : BitVec 5) (pd : BitVec 3) (hits : List TileHit) (s : State) : Out :=
  s.vload u vd vs1 vs2 pd hits false 1 fun v => BitVec.ofNat 32 v

/-- Halfwords, sign-extended loaded into lanes (R373). -/
def execVld16 (u : BitVec 7) (vd vs1 vs2 : BitVec 5) (pd : BitVec 3) (hits : List TileHit) (s : State) : Out :=
  s.vload u vd vs1 vs2 pd hits false 2 fun v => sext 16 32 v

/-- FP16 widened loaded into lanes (R373). -/
def execVldh (u : BitVec 7) (vd vs1 vs2 : BitVec 5) (pd : BitVec 3) (hits : List TileHit) (s : State) : Out :=
  s.vload u vd vs1 vs2 pd hits false 2 fun v => toF32 (Fmt.fp16.val v)

/-- BF16 widened loaded into lanes (R373). -/
def execVldbf (u : BitVec 7) (vd vs1 vs2 : BitVec 5) (pd : BitVec 3) (hits : List TileHit) (s : State) : Out :=
  s.vload u vd vs1 vs2 pd hits false 2 fun v => toF32 (Fmt.bf16.val v)

/-- Words of lanes stored (R373). -/
def execVst (u : BitVec 7) (vd vs1 vs2 : BitVec 5) (pd : BitVec 3) (hits : List TileHit) (s : State) : Out :=
  s.vstore u vd vs1 vs2 pd hits false 4

/-- Strided words of lanes stored (R373). -/
def execVsts (u : BitVec 7) (vd vs1 vs2 : BitVec 5) (pd : BitVec 3) (hits : List TileHit) (s : State) : Out :=
  s.vstore u vd vs1 vs2 pd hits true 4

/-- Low bytes of lanes stored (R373). -/
def execVst8 (u : BitVec 7) (vd vs1 vs2 : BitVec 5) (pd : BitVec 3) (hits : List TileHit) (s : State) : Out :=
  s.vstore u vd vs1 vs2 pd hits false 1

/-- Low halfwords of lanes stored (R373). -/
def execVst16 (u : BitVec 7) (vd vs1 vs2 : BitVec 5) (pd : BitVec 3) (hits : List TileHit) (s : State) : Out :=
  s.vstore u vd vs1 vs2 pd hits false 2

/-! ## Moves (R373) -/

/-- Broadcast of a scalar (R373). -/
def execVbcast (u : BitVec 7) (vd vs1 vs2 : BitVec 5) (pd : BitVec 3) (s : State) : Out :=
  let c := coreOf u
  .next <| s.issue c false fun s =>
    s.vec u [] [] [rS vs1.toNat, rP pd.toNat] [rV vd.toNat] [excIf (vs2 != 0) excEncoding] fun s =>
      (s.updTile c fun t => t.setLanes vd.toNat pd.toNat fun _ => t.sreg vs1.toNat, none)

/-- One lane into a scalar (R373). -/
def execVext (u : BitVec 7) (vd vs1 vs2 : BitVec 5) (pd : BitVec 3) (s : State) : Out :=
  let c := coreOf u
  .next <| s.issue c false fun s =>
    s.vec u [] [] [rV vs1.toNat, rS vs2.toNat] [rS vd.toNat] [excIf (pd != 0) excEncoding] fun s =>
      (s.updTile c fun t => t.setS vd.toNat (t.vlane vs1.toNat ((t.sreg vs2.toNat).toNat % 64)), none)

/-- A scalar into one lane, if its predicate bit is 1 (R373). -/
def execVins (u : BitVec 7) (vd vs1 vs2 : BitVec 5) (pd : BitVec 3) (s : State) : Out :=
  let c := coreOf u
  .next <| s.issue c false fun s =>
    s.vec u [] [] [rS vs1.toNat, rS vs2.toNat, rP pd.toNat] [rV vd.toNat] [] fun s =>
      (s.updTile c fun t =>
        let i := (t.sreg vs2.toNat).toNat % 64
        if (t.preg pd.toNat).getLsbD i then t.setLane vd.toNat i (t.sreg vs1.toNat) else t, none)

/-- An accumulator row into lanes (R373). -/
def execAccrd (u : BitVec 7) (vd vs1 vs2 : BitVec 5) (pd : BitVec 3) (s : State) : Out :=
  let c := coreOf u
  let k := vs2.toNat % 8
  .next <| s.issue c false fun s =>
    s.vec u [] [] [rS vs1.toNat, rAcc k, rP pd.toNat] [rV vd.toNat] [excIf (decide (7 < vs2.toNat)) excEncoding] fun s =>
      (s.updTile c fun t => t.setLanes vd.toNat pd.toNat fun i => t.accEl k ((t.sreg vs1.toNat).toNat % 64) i, none)

/-- Lanes into an accumulator row; the tag stays (R373). -/
def execAccwr (u : BitVec 7) (vd vs1 vs2 : BitVec 5) (pd : BitVec 3) (s : State) : Out :=
  let c := coreOf u
  let k := vs2.toNat % 8
  .next <| s.issue c false fun s =>
    s.vec u [] [] [rS vs1.toNat, rV vd.toNat, rP pd.toNat] [rAcc k] [excIf (decide (7 < vs2.toNat)) excEncoding] fun s =>
      (s.updTile c fun t =>
        (t.lanes pd.toNat).foldl (fun x i => x.setAcc k ((t.sreg vs1.toNat).toNat % 64) i (t.vlane vd.toNat i)) t, none)

/-- Vector move (R373). -/
def execVmov (u : BitVec 7) (vd vs1 vs2 : BitVec 5) (pd : BitVec 3) (s : State) : Out :=
  let c := coreOf u
  .next <| s.issue c false fun s =>
    s.vec u [] [] [rV vs1.toNat, rP pd.toNat] [rV vd.toNat] [excIf (vs2 != 0) excEncoding] fun s =>
      (s.updTile c fun t => t.setLanes vd.toNat pd.toNat fun i => t.vlane vs1.toNat i, none)

/-! ## The rescale table (R373-R375) -/

/-- Exceptions of the 512-byte access of RTLD and RTST (R373). -/
def tableExcs (a field : Nat) : List (Option Exc) :=
  [excIf (a % 64 != 0) (excAddress field), excIf (decide (storeTop < a + 511)) (excRange a)]

/-- 64 entries loaded from the tile store (R373). -/
def execRtld (u : BitVec 7) (_vd vs1 vs2 : BitVec 5) (pd : BitVec 3) (hits : List TileHit) (s : State) : Out :=
  let c := coreOf u
  .next <| s.issue c false fun s =>
    let t := s.tile c
    let a := (t.sreg vs1.toNat).toNat
    let g := (t.sreg vs2.toNat).toNat % 16
    s.vec u [(a, 512)] [] [rS vs1.toNat, rS vs2.toNat] [rTable] (excIf (pd != 0) excEncoding :: tableExcs a vs1.toNat) fun s =>
      match s.readRanges c [(a, 512)] with
      | .error e => (s, some e)
      | .ok s => s.unitEcc c [(a, 512)] hits fun s => (s.updTile c fun t => (List.range 64).foldl (fun (x : Tile) j =>
          { x with rescale := x.rescale.set (64 * g + j) (BitVec.ofNat 64 (t.rdLe (a + 8 * j) 8)) }) t, none)

/-- 64 entries stored to the tile store (R373). -/
def execRtst (u : BitVec 7) (vd vs1 vs2 : BitVec 5) (pd : BitVec 3) (s : State) : Out :=
  let c := coreOf u
  .next <| s.issue c false fun s =>
    let t := s.tile c
    let a := (t.sreg vs1.toNat).toNat
    let g := (t.sreg vs2.toNat).toNat % 16
    s.vec u [] [(a, 512)] [rS vs1.toNat, rS vs2.toNat, rTable] []
        (excIf (vd != 0 || pd != 0) excEncoding :: tableExcs a vs1.toNat) fun s =>
      (s.updTile c fun t => (List.range 64).foldl (fun (x : Tile) j =>
        x.wrLe (a + 8 * j) 8 (Tab.get 0 x.rescale (64 * g + j)).toNat) t, none)

/-! ## Exceptions that a unit or the core meets (R302-R305) -/

/-- A tile's instruction raises an exception (R305): units 0-2, the exception of the unit's oldest instruction
arises; 3, the core meets `word`, `after` the one behind it, and R298, R299 or R301 makes them no instruction. -/
def execTileException (tile : BitVec 6) (unit : BitVec 2) (word after : BitVec 32) (s : State) : Out :=
  let c := tile.toNat
  .next <|
    if unit = 3 then
      if (pairName word after).isSome then s
      else s.issue c (isExt word) fun s =>
        .exc s (if isExt word then excEncoding else wordExc word)
    else s.updTile c fun t => { t.opRaise unit.toNat with
      units := t.units.map fun (o : UnitOp) => if some o = t.frontOp unit.toNat then { o with exc := none } else o }

end Sys2Proof.Machine
end

