-- ==== Sys2Proof/Machine/Dispatch.lean ====
section
/-! DEFINITION. One arm per command: each calls the meaning of its row. -/

namespace Sys2Proof.Machine

/-- The effect of a command on everything but the queue. -/
def exec (i : Instr) (s : State) : Host.Outcome State Fault Refusal :=
  match i with
  | .registerWrite offset size value => Sys2Proof.Machine.execRegisterWrite offset size value s
  | .clearOnWrite offset size value => Sys2Proof.Machine.execClearOnWrite offset size value s
  | .coldReset => Sys2Proof.Machine.execColdReset s
  | .resetNAssert => Sys2Proof.Machine.execResetNAssert s
  | .resetNRise => Sys2Proof.Machine.execResetNRise s
  | .referencePllLock fin => Sys2Proof.Machine.execReferencePllLock fin s
  | .rampGrant => Sys2Proof.Machine.execRampGrant s
  | .railWait dom rise => Sys2Proof.Machine.execRailWait dom rise s
  | .ramping dom good => Sys2Proof.Machine.execRamping dom good s
  | .clockWait dom ev => Sys2Proof.Machine.execClockWait dom ev s
  | .scrub dom fin => Sys2Proof.Machine.execScrub dom fin s
  | .domainOpen dom => Sys2Proof.Machine.execDomainOpen dom s
  | .stepTimeout dom => Sys2Proof.Machine.execStepTimeout dom s
  | .retryWait dom => Sys2Proof.Machine.execRetryWait dom s
  | .refLost => Sys2Proof.Machine.execRefLost s
  | .keeperSelfTest fail => Sys2Proof.Machine.execKeeperSelfTest fail s
  | .bundleTimeout => Sys2Proof.Machine.execBundleTimeout s
  | .bundleFetch => Sys2Proof.Machine.execBundleFetch s
  | .imageAuthenticate img sigOk => Sys2Proof.Machine.execImageAuthenticate img sigOk s
  | .flightReady => Sys2Proof.Machine.execFlightReady s
  | .warm src value => Sys2Proof.Machine.execWarm src value s
  | .cluster src value => Sys2Proof.Machine.execCluster src value s
  | .linkPort src value => Sys2Proof.Machine.execLinkPort src value s
  | .clusterDrainTimeout cluster => Sys2Proof.Machine.execClusterDrainTimeout cluster s
  | .domainClose dom => Sys2Proof.Machine.execDomainClose dom s
  | .clusterOpenOnDemand => Sys2Proof.Machine.execClusterOpenOnDemand s
  | .standbyReq src value => Sys2Proof.Machine.execStandbyReq src value s
  | .standbyDrain => Sys2Proof.Machine.execStandbyDrain s
  | .standbyClustersClosed => Sys2Proof.Machine.execStandbyClustersClosed s
  | .standbySaveDone => Sys2Proof.Machine.execStandbySaveDone s
  | .keyStoreWrap => Sys2Proof.Machine.execKeyStoreWrap s
  | .strayDoorbellWrite => Sys2Proof.Machine.execStrayDoorbellWrite s
  | .wake src value => Sys2Proof.Machine.execWake src value s
  | .keyStoreUnwrap tagOk => Sys2Proof.Machine.execKeyStoreUnwrap tagOk s
  | .dspmDigestCheck => Sys2Proof.Machine.execDspmDigestCheck s
  | .stateRestore => Sys2Proof.Machine.execStateRestore s
  | .reportArrive k => Sys2Proof.Machine.execReportArrive k s
  | .concentratorPass => Sys2Proof.Machine.execConcentratorPass s
  | .heldReportAccept => Sys2Proof.Machine.execHeldReportAccept s
  | .gtcSyncWord => Sys2Proof.Machine.execGtcSyncWord s
  | .gtcCopySync copy count => Sys2Proof.Machine.execGtcCopySync copy count s
  | .gtcCopyStale copy => Sys2Proof.Machine.execGtcCopyStale copy s
  | .captureStart d0p d0n d1p d1n ckp ckn => Sys2Proof.Machine.execCaptureStart d0p d0n d1p d1n ckp ckn s
  | .captureOrder => Sys2Proof.Machine.execCaptureOrder s
  | .triggerWrite fin => Sys2Proof.Machine.execTriggerWrite fin s
  | .i3cBusRecovery freed => Sys2Proof.Machine.execI3cBusRecovery freed s
  | .csi2Packet swapped fixed p => Sys2Proof.Machine.execCsi2Packet swapped fixed p s
  | .hsPolarity lane found nLine => Sys2Proof.Machine.execHsPolarity lane found nLine s
  | .frameEnd vc => Sys2Proof.Machine.execFrameEnd vc s
  | .frameWindowExpire => Sys2Proof.Machine.execFrameWindowExpire s
  | .pd11Close => Sys2Proof.Machine.execPd11Close s
  | .watchBudgetOverrun => Sys2Proof.Machine.execWatchBudgetOverrun s
  | .watchException ecc addr => Sys2Proof.Machine.execWatchException ecc addr s
  | .wakeInWake level => Sys2Proof.Machine.execWakeInWake level s
  | .wakeInStuck => Sys2Proof.Machine.execWakeInStuck s
  | .wakeInReenable value => Sys2Proof.Machine.execWakeInReenable value s
  | .programWake => Sys2Proof.Machine.execProgramWake s
  | .pendingClear value => Sys2Proof.Machine.execPendingClear value s
  | .keepClear value => Sys2Proof.Machine.execKeepClear value s
  | .handoffNow value => Sys2Proof.Machine.execHandoffNow value s
  | .arm value => Sys2Proof.Machine.execArm value s
  | .handoff => Sys2Proof.Machine.execHandoff s
  | .ctxOpen cid pid bad badArena => Sys2Proof.Machine.execCtxOpen cid pid bad badArena s
  | .ctxClose cid => Sys2Proof.Machine.execCtxClose cid s
  | .ctxRelease cid => Sys2Proof.Machine.execCtxRelease cid s
  | .ctxReset cid => Sys2Proof.Machine.execCtxReset cid s
  | .ctxLose cid => Sys2Proof.Machine.execCtxLose cid s
  | .groupBind group cid => Sys2Proof.Machine.execGroupBind group cid s
  | .groupUnbind group => Sys2Proof.Machine.execGroupUnbind group s
  | .queueEnable qid bad => Sys2Proof.Machine.execQueueEnable qid bad s
  | .queueDisable qid => Sys2Proof.Machine.execQueueDisable qid s
  | .queueResume qid => Sys2Proof.Machine.execQueueResume qid s
  | .waitHost cid vector => Sys2Proof.Machine.execWaitHost cid vector s
  | .waitPoke cid => Sys2Proof.Machine.execWaitPoke cid s
  | .waitCancel index => Sys2Proof.Machine.execWaitCancel index s
  | .drainLimitExpire cid => Sys2Proof.Machine.execDrainLimitExpire cid s
  | .drainEnd cid => Sys2Proof.Machine.execDrainEnd cid s
  | .abortComplete tile => Sys2Proof.Machine.execAbortComplete tile s
  | .doorbell qid value => Sys2Proof.Machine.execDoorbell qid value s
  | .stageReadComplete qid bad => Sys2Proof.Machine.execStageReadComplete qid bad s
  | .cancel qid value blocks => Sys2Proof.Machine.execCancel qid value blocks s
  | .packetFetch qid bad => Sys2Proof.Machine.execPacketFetch qid bad s
  | .nop qid index => Sys2Proof.Machine.execNop qid index s
  | .task qid index => Sys2Proof.Machine.execTask qid index s
  | .taskGroup qid index => Sys2Proof.Machine.execTaskGroup qid index s
  | .fenceSignal qid index => Sys2Proof.Machine.execFenceSignal qid index s
  | .fenceWait qid index => Sys2Proof.Machine.execFenceWait qid index s
  | .barrier qid index => Sys2Proof.Machine.execBarrier qid index s
  | .copy qid index => Sys2Proof.Machine.execCopy qid index s
  | .fill qid index => Sys2Proof.Machine.execFill qid index s
  | .prefetch qid index => Sys2Proof.Machine.execPrefetch qid index s
  | .advise qid index => Sys2Proof.Machine.execAdvise qid index s
  | .migrate qid index => Sys2Proof.Machine.execMigrate qid index s
  | .stateSave qid index => Sys2Proof.Machine.execStateSave qid index s
  | .stateLoad qid index => Sys2Proof.Machine.execStateLoad qid index s
  | .timestamp qid index => Sys2Proof.Machine.execTimestamp qid index s
  | .dmaTransferComplete engine => Sys2Proof.Machine.execDmaTransferComplete engine s
  | .packetRetire qid index bad => Sys2Proof.Machine.execPacketRetire qid index bad s
  | .dispatcherCycle => Sys2Proof.Machine.execDispatcherCycle s
  | .startMiss qid inst index => Sys2Proof.Machine.execStartMiss qid inst index s
  | .finishMiss qid index => Sys2Proof.Machine.execFinishMiss qid index s
  | .budgetOverrun qid inst index => Sys2Proof.Machine.execBudgetOverrun qid inst index s
  | .budgetHard qid inst index => Sys2Proof.Machine.execBudgetHard qid inst index s
  | .handover tile => Sys2Proof.Machine.execHandover tile s
  | .istoreLineFill tile pc ecc => Sys2Proof.Machine.execIstoreLineFill tile pc ecc s
  | .tileException tile unit word after => Sys2Proof.Machine.execTileException tile unit word after s
  | .taskExceptionEnd tile => Sys2Proof.Machine.execTaskExceptionEnd tile s
  | .taskEnd tile => Sys2Proof.Machine.execTaskEnd tile s
  | .unitInstructionComplete tile unit => Sys2Proof.Machine.execUnitInstructionComplete tile unit s
  | .bargeComplete tile id tagOk hits => Sys2Proof.Machine.execBargeComplete tile id tagOk hits s
  | .moverFault tile id code => Sys2Proof.Machine.execMoverFault tile id code s
  | .swapComplete tile hits => Sys2Proof.Machine.execSwapComplete tile hits s
  | .claimLapse tile => Sys2Proof.Machine.execClaimLapse tile s
  | .fenceOrder cluster => Sys2Proof.Machine.execFenceOrder cluster s
  | .fenceLimitExpire cluster => Sys2Proof.Machine.execFenceLimitExpire cluster s
  | .fenceAck cluster => Sys2Proof.Machine.execFenceAck cluster s
  | .fenceLift cluster => Sys2Proof.Machine.execFenceLift cluster s
  | .clear => Sys2Proof.Machine.execClear s
  | .schedClear => Sys2Proof.Machine.execSchedClear s
  | .istoreFlush tile => Sys2Proof.Machine.execIstoreFlush tile s
  | .tileCountsClear tile => Sys2Proof.Machine.execTileCountsClear tile s
  | .add u rd rs1 rs2 => Sys2Proof.Machine.execAdd u rd rs1 rs2 s
  | .sub u rd rs1 rs2 => Sys2Proof.Machine.execSub u rd rs1 rs2 s
  | .and u rd rs1 rs2 => Sys2Proof.Machine.execAnd u rd rs1 rs2 s
  | .or u rd rs1 rs2 => Sys2Proof.Machine.execOr u rd rs1 rs2 s
  | .xor u rd rs1 rs2 => Sys2Proof.Machine.execXor u rd rs1 rs2 s
  | .sll u rd rs1 rs2 => Sys2Proof.Machine.execSll u rd rs1 rs2 s
  | .srl u rd rs1 rs2 => Sys2Proof.Machine.execSrl u rd rs1 rs2 s
  | .sra u rd rs1 rs2 => Sys2Proof.Machine.execSra u rd rs1 rs2 s
  | .slt u rd rs1 rs2 => Sys2Proof.Machine.execSlt u rd rs1 rs2 s
  | .sltu u rd rs1 rs2 => Sys2Proof.Machine.execSltu u rd rs1 rs2 s
  | .mul u rd rs1 rs2 => Sys2Proof.Machine.execMul u rd rs1 rs2 s
  | .mulh u rd rs1 rs2 => Sys2Proof.Machine.execMulh u rd rs1 rs2 s
  | .mulhu u rd rs1 rs2 => Sys2Proof.Machine.execMulhu u rd rs1 rs2 s
  | .div u rd rs1 rs2 => Sys2Proof.Machine.execDiv u rd rs1 rs2 s
  | .divu u rd rs1 rs2 => Sys2Proof.Machine.execDivu u rd rs1 rs2 s
  | .rem u rd rs1 rs2 => Sys2Proof.Machine.execRem u rd rs1 rs2 s
  | .remu u rd rs1 rs2 => Sys2Proof.Machine.execRemu u rd rs1 rs2 s
  | .min u rd rs1 rs2 => Sys2Proof.Machine.execMin u rd rs1 rs2 s
  | .max u rd rs1 rs2 => Sys2Proof.Machine.execMax u rd rs1 rs2 s
  | .minu u rd rs1 rs2 => Sys2Proof.Machine.execMinu u rd rs1 rs2 s
  | .maxu u rd rs1 rs2 => Sys2Proof.Machine.execMaxu u rd rs1 rs2 s
  | .clz u rd rs1 rs2 => Sys2Proof.Machine.execClz u rd rs1 rs2 s
  | .popc u rd rs1 rs2 => Sys2Proof.Machine.execPopc u rd rs1 rs2 s
  | .amov u rd rs1 rs2 => Sys2Proof.Machine.execAmov u rd rs1 rs2 s
  | .aadd u rd rs1 rs2 => Sys2Proof.Machine.execAadd u rd rs1 rs2 s
  | .aaddu u rd rs1 rs2 => Sys2Proof.Machine.execAaddu u rd rs1 rs2 s
  | .apack u rd rs1 rs2 => Sys2Proof.Machine.execApack u rd rs1 rs2 s
  | .alo u rd rs1 rs2 => Sys2Proof.Machine.execAlo u rd rs1 rs2 s
  | .ahi u rd rs1 rs2 => Sys2Proof.Machine.execAhi u rd rs1 rs2 s
  | .tset u f rd rs1 rs2 => Sys2Proof.Machine.execTset u f rd rs1 rs2 s
  | .tget u f rd rs1 rs2 => Sys2Proof.Machine.execTget u f rd rs1 rs2 s
  | .tmov u rd rs1 rs2 => Sys2Proof.Machine.execTmov u rd rs1 rs2 s
  | .tzero u rd rs1 rs2 => Sys2Proof.Machine.execTzero u rd rs1 rs2 s
  | .addi u rd rs1 imm ext => Sys2Proof.Machine.execAddi u rd rs1 imm ext s
  | .andi u rd rs1 imm ext => Sys2Proof.Machine.execAndi u rd rs1 imm ext s
  | .ori u rd rs1 imm ext => Sys2Proof.Machine.execOri u rd rs1 imm ext s
  | .xori u rd rs1 imm ext => Sys2Proof.Machine.execXori u rd rs1 imm ext s
  | .lui u rd rs1 imm ext => Sys2Proof.Machine.execLui u rd rs1 imm ext s
  | .slti u rd rs1 imm ext => Sys2Proof.Machine.execSlti u rd rs1 imm ext s
  | .adda u rd rs1 imm ext => Sys2Proof.Machine.execAdda u rd rs1 imm ext s
  | .lw u rd rs1 off ext hits => Sys2Proof.Machine.execLw u rd rs1 off ext hits s
  | .sw u rd rs1 off ext hits => Sys2Proof.Machine.execSw u rd rs1 off ext hits s
  | .lbu u rd rs1 off ext hits => Sys2Proof.Machine.execLbu u rd rs1 off ext hits s
  | .sb u rd rs1 off ext hits => Sys2Proof.Machine.execSb u rd rs1 off ext hits s
  | .beq u rs1 rs2 imm ext => Sys2Proof.Machine.execBeq u rs1 rs2 imm ext s
  | .bne u rs1 rs2 imm ext => Sys2Proof.Machine.execBne u rs1 rs2 imm ext s
  | .blt u rs1 rs2 imm ext => Sys2Proof.Machine.execBlt u rs1 rs2 imm ext s
  | .bge u rs1 rs2 imm ext => Sys2Proof.Machine.execBge u rs1 rs2 imm ext s
  | .bltu u rs1 rs2 imm ext => Sys2Proof.Machine.execBltu u rs1 rs2 imm ext s
  | .bgeu u rs1 rs2 imm ext => Sys2Proof.Machine.execBgeu u rs1 rs2 imm ext s
  | .jal u rs1 imm ext => Sys2Proof.Machine.execJal u rs1 imm ext s
  | .jalr u rs1 rs2 imm ext => Sys2Proof.Machine.execJalr u rs1 rs2 imm ext s
  | .loop u rs1 rs2 imm ext => Sys2Proof.Machine.execLoop u rs1 rs2 imm ext s
  | .lbrk u rs1 rs2 ext => Sys2Proof.Machine.execLbrk u rs1 rs2 ext s
  | .tld u rd rs1 imm ext hits => Sys2Proof.Machine.execTld u rd rs1 imm ext hits s
  | .tst u rd rs1 imm ext => Sys2Proof.Machine.execTst u rd rs1 imm ext s
  | .xfer u a t sf func => Sys2Proof.Machine.execXfer u a t sf func s
  | .waitBarge u imm => Sys2Proof.Machine.execWaitBarge u imm s
  | .waitUnits u imm => Sys2Proof.Machine.execWaitUnits u imm s
  | .waitTick u imm => Sys2Proof.Machine.execWaitTick u imm s
  | .waitFrame u imm => Sys2Proof.Machine.execWaitFrame u imm s
  | .atomAdd u a t sf w64 rsv => Sys2Proof.Machine.execAtomAdd u a t sf w64 rsv s
  | .atomAnd u a t sf w64 rsv => Sys2Proof.Machine.execAtomAnd u a t sf w64 rsv s
  | .atomOr u a t sf w64 rsv => Sys2Proof.Machine.execAtomOr u a t sf w64 rsv s
  | .atomXor u a t sf w64 rsv => Sys2Proof.Machine.execAtomXor u a t sf w64 rsv s
  | .atomSmin u a t sf w64 rsv => Sys2Proof.Machine.execAtomSmin u a t sf w64 rsv s
  | .atomSmax u a t sf w64 rsv => Sys2Proof.Machine.execAtomSmax u a t sf w64 rsv s
  | .atomUmin u a t sf w64 rsv => Sys2Proof.Machine.execAtomUmin u a t sf w64 rsv s
  | .atomUmax u a t sf w64 rsv => Sys2Proof.Machine.execAtomUmax u a t sf w64 rsv s
  | .atomSwap u a t sf w64 rsv => Sys2Proof.Machine.execAtomSwap u a t sf w64 rsv s
  | .atomCas u a t sf w64 rsv => Sys2Proof.Machine.execAtomCas u a t sf w64 rsv s
  | .atomFadd u a t sf w64 rsv => Sys2Proof.Machine.execAtomFadd u a t sf w64 rsv s
  | .atomLoad u a t sf w64 rsv => Sys2Proof.Machine.execAtomLoad u a t sf w64 rsv s
  | .rsend u a t sf lines nb rsv hits => Sys2Proof.Machine.execRsend u a t sf lines nb rsv hits s
  | .rrecv u a t sf lines nb rsv => Sys2Proof.Machine.execRrecv u a t sf lines nb rsv s
  | .alloc u a t sf zero try_ rsv => Sys2Proof.Machine.execAlloc u a t sf zero try_ rsv s
  | .free u a t sf bits rsv => Sys2Proof.Machine.execFree u a t sf bits rsv s
  | .signalFence u imm => Sys2Proof.Machine.execSignalFence u imm s
  | .signalEvent u imm => Sys2Proof.Machine.execSignalEvent u imm s
  | .signalWake u imm => Sys2Proof.Machine.execSignalWake u imm s
  | .signalKeep u imm => Sys2Proof.Machine.execSignalKeep u imm s
  | .phase u imm => Sys2Proof.Machine.execPhase u imm s
  | .time u imm => Sys2Proof.Machine.execTime u imm s
  | .clipstat u imm => Sys2Proof.Machine.execClipstat u imm s
  | .tmodeRead u imm => Sys2Proof.Machine.execTmodeRead u imm s
  | .tmodeWrite u imm => Sys2Proof.Machine.execTmodeWrite u imm s
  | .end_ u imm => Sys2Proof.Machine.execEnd u imm s
  | .yield u imm => Sys2Proof.Machine.execYield u imm s
  | .trap u imm => Sys2Proof.Machine.execTrap u imm s
  | .mma u acc ta tb aux zero neg rsv hits => Sys2Proof.Machine.execMma u acc ta tb aux zero neg rsv hits s
  | .cvt u acc ta tb aux rm ieee rescale srcT rsv hits => Sys2Proof.Machine.execCvt u acc ta tb aux rm ieee rescale srcT rsv hits s
  | .reduceSum u acc ta tb aux axis dst => Sys2Proof.Machine.execReduceSum u acc ta tb aux axis dst s
  | .reduceMax u acc ta tb aux axis dst => Sys2Proof.Machine.execReduceMax u acc ta tb aux axis dst s
  | .reduceMin u acc ta tb aux axis dst => Sys2Proof.Machine.execReduceMin u acc ta tb aux axis dst s
  | .reduceAbsmax u acc ta tb aux axis dst => Sys2Proof.Machine.execReduceAbsmax u acc ta tb aux axis dst s
  | .vadd u vd vs1 vs2 pd scalar => Sys2Proof.Machine.execVadd u vd vs1 vs2 pd scalar s
  | .vsub u vd vs1 vs2 pd scalar => Sys2Proof.Machine.execVsub u vd vs1 vs2 pd scalar s
  | .vmul u vd vs1 vs2 pd scalar => Sys2Proof.Machine.execVmul u vd vs1 vs2 pd scalar s
  | .vmulh u vd vs1 vs2 pd scalar => Sys2Proof.Machine.execVmulh u vd vs1 vs2 pd scalar s
  | .vmulhu u vd vs1 vs2 pd scalar => Sys2Proof.Machine.execVmulhu u vd vs1 vs2 pd scalar s
  | .vmin u vd vs1 vs2 pd scalar => Sys2Proof.Machine.execVmin u vd vs1 vs2 pd scalar s
  | .vmax u vd vs1 vs2 pd scalar => Sys2Proof.Machine.execVmax u vd vs1 vs2 pd scalar s
  | .vminu u vd vs1 vs2 pd scalar => Sys2Proof.Machine.execVminu u vd vs1 vs2 pd scalar s
  | .vmaxu u vd vs1 vs2 pd scalar => Sys2Proof.Machine.execVmaxu u vd vs1 vs2 pd scalar s
  | .vand u vd vs1 vs2 pd scalar => Sys2Proof.Machine.execVand u vd vs1 vs2 pd scalar s
  | .vor u vd vs1 vs2 pd scalar => Sys2Proof.Machine.execVor u vd vs1 vs2 pd scalar s
  | .vxor u vd vs1 vs2 pd scalar => Sys2Proof.Machine.execVxor u vd vs1 vs2 pd scalar s
  | .vsll u vd vs1 vs2 pd scalar => Sys2Proof.Machine.execVsll u vd vs1 vs2 pd scalar s
  | .vsrl u vd vs1 vs2 pd scalar => Sys2Proof.Machine.execVsrl u vd vs1 vs2 pd scalar s
  | .vsra u vd vs1 vs2 pd scalar => Sys2Proof.Machine.execVsra u vd vs1 vs2 pd scalar s
  | .vabs u vd vs1 vs2 pd scalar => Sys2Proof.Machine.execVabs u vd vs1 vs2 pd scalar s
  | .vmadd u vd vs1 vs2 pd scalar => Sys2Proof.Machine.execVmadd u vd vs1 vs2 pd scalar s
  | .vsrar u vd vs1 vs2 pd scalar => Sys2Proof.Machine.execVsrar u vd vs1 vs2 pd scalar s
  | .vfadd u vd vs1 vs2 pd scalar => Sys2Proof.Machine.execVfadd u vd vs1 vs2 pd scalar s
  | .vfsub u vd vs1 vs2 pd scalar => Sys2Proof.Machine.execVfsub u vd vs1 vs2 pd scalar s
  | .vfmul u vd vs1 vs2 pd scalar => Sys2Proof.Machine.execVfmul u vd vs1 vs2 pd scalar s
  | .vfma u vd vs1 vs2 pd scalar => Sys2Proof.Machine.execVfma u vd vs1 vs2 pd scalar s
  | .vfmin u vd vs1 vs2 pd scalar => Sys2Proof.Machine.execVfmin u vd vs1 vs2 pd scalar s
  | .vfmax u vd vs1 vs2 pd scalar => Sys2Proof.Machine.execVfmax u vd vs1 vs2 pd scalar s
  | .vfabs u vd vs1 vs2 pd scalar => Sys2Proof.Machine.execVfabs u vd vs1 vs2 pd scalar s
  | .vfneg u vd vs1 vs2 pd scalar => Sys2Proof.Machine.execVfneg u vd vs1 vs2 pd scalar s
  | .vfrcp u vd vs1 vs2 pd scalar => Sys2Proof.Machine.execVfrcp u vd vs1 vs2 pd scalar s
  | .vfrsqrt u vd vs1 vs2 pd scalar => Sys2Proof.Machine.execVfrsqrt u vd vs1 vs2 pd scalar s
  | .vfsqrt u vd vs1 vs2 pd scalar => Sys2Proof.Machine.execVfsqrt u vd vs1 vs2 pd scalar s
  | .vfexp2 u vd vs1 vs2 pd scalar => Sys2Proof.Machine.execVfexp2 u vd vs1 vs2 pd scalar s
  | .vflog2 u vd vs1 vs2 pd scalar => Sys2Proof.Machine.execVflog2 u vd vs1 vs2 pd scalar s
  | .vfdiv u vd vs1 vs2 pd scalar => Sys2Proof.Machine.execVfdiv u vd vs1 vs2 pd scalar s
  | .vi2f u vd vs1 vs2 pd scalar => Sys2Proof.Machine.execVi2f u vd vs1 vs2 pd scalar s
  | .vu2f u vd vs1 vs2 pd scalar => Sys2Proof.Machine.execVu2f u vd vs1 vs2 pd scalar s
  | .vf2i u vd vs1 vs2 pd scalar => Sys2Proof.Machine.execVf2i u vd vs1 vs2 pd scalar s
  | .vcmpeq u vd vs1 vs2 pd scalar => Sys2Proof.Machine.execVcmpeq u vd vs1 vs2 pd scalar s
  | .vcmpne u vd vs1 vs2 pd scalar => Sys2Proof.Machine.execVcmpne u vd vs1 vs2 pd scalar s
  | .vcmplt u vd vs1 vs2 pd scalar => Sys2Proof.Machine.execVcmplt u vd vs1 vs2 pd scalar s
  | .vcmple u vd vs1 vs2 pd scalar => Sys2Proof.Machine.execVcmple u vd vs1 vs2 pd scalar s
  | .vcmpltu u vd vs1 vs2 pd scalar => Sys2Proof.Machine.execVcmpltu u vd vs1 vs2 pd scalar s
  | .vcmpleu u vd vs1 vs2 pd scalar => Sys2Proof.Machine.execVcmpleu u vd vs1 vs2 pd scalar s
  | .vfcmpeq u vd vs1 vs2 pd scalar => Sys2Proof.Machine.execVfcmpeq u vd vs1 vs2 pd scalar s
  | .vfcmplt u vd vs1 vs2 pd scalar => Sys2Proof.Machine.execVfcmplt u vd vs1 vs2 pd scalar s
  | .vfcmple u vd vs1 vs2 pd scalar => Sys2Proof.Machine.execVfcmple u vd vs1 vs2 pd scalar s
  | .vfcmpun u vd vs1 vs2 pd scalar => Sys2Proof.Machine.execVfcmpun u vd vs1 vs2 pd scalar s
  | .vperm u vd vs1 vs2 pd => Sys2Proof.Machine.execVperm u vd vs1 vs2 pd s
  | .vrot u vd vs1 vs2 pd => Sys2Proof.Machine.execVrot u vd vs1 vs2 pd s
  | .vred u vd vs1 vs2 pd => Sys2Proof.Machine.execVred u vd vs1 vs2 pd s
  | .pand u vd vs1 vs2 pd => Sys2Proof.Machine.execPand u vd vs1 vs2 pd s
  | .por u vd vs1 vs2 pd => Sys2Proof.Machine.execPor u vd vs1 vs2 pd s
  | .pxor u vd vs1 vs2 pd => Sys2Proof.Machine.execPxor u vd vs1 vs2 pd s
  | .pandn u vd vs1 vs2 pd => Sys2Proof.Machine.execPandn u vd vs1 vs2 pd s
  | .pset u vd vs1 vs2 pd => Sys2Proof.Machine.execPset u vd vs1 vs2 pd s
  | .pget u vd vs1 vs2 pd => Sys2Proof.Machine.execPget u vd vs1 vs2 pd s
  | .vld u vd vs1 vs2 pd hits => Sys2Proof.Machine.execVld u vd vs1 vs2 pd hits s
  | .vst u vd vs1 vs2 pd hits => Sys2Proof.Machine.execVst u vd vs1 vs2 pd hits s
  | .vlds u vd vs1 vs2 pd hits => Sys2Proof.Machine.execVlds u vd vs1 vs2 pd hits s
  | .vsts u vd vs1 vs2 pd hits => Sys2Proof.Machine.execVsts u vd vs1 vs2 pd hits s
  | .vld8 u vd vs1 vs2 pd hits => Sys2Proof.Machine.execVld8 u vd vs1 vs2 pd hits s
  | .vldu8 u vd vs1 vs2 pd hits => Sys2Proof.Machine.execVldu8 u vd vs1 vs2 pd hits s
  | .vld16 u vd vs1 vs2 pd hits => Sys2Proof.Machine.execVld16 u vd vs1 vs2 pd hits s
  | .vldh u vd vs1 vs2 pd hits => Sys2Proof.Machine.execVldh u vd vs1 vs2 pd hits s
  | .vldbf u vd vs1 vs2 pd hits => Sys2Proof.Machine.execVldbf u vd vs1 vs2 pd hits s
  | .vst8 u vd vs1 vs2 pd hits => Sys2Proof.Machine.execVst8 u vd vs1 vs2 pd hits s
  | .vst16 u vd vs1 vs2 pd hits => Sys2Proof.Machine.execVst16 u vd vs1 vs2 pd hits s
  | .vbcast u vd vs1 vs2 pd => Sys2Proof.Machine.execVbcast u vd vs1 vs2 pd s
  | .vext u vd vs1 vs2 pd => Sys2Proof.Machine.execVext u vd vs1 vs2 pd s
  | .vins u vd vs1 vs2 pd => Sys2Proof.Machine.execVins u vd vs1 vs2 pd s
  | .accrd u vd vs1 vs2 pd => Sys2Proof.Machine.execAccrd u vd vs1 vs2 pd s
  | .accwr u vd vs1 vs2 pd => Sys2Proof.Machine.execAccwr u vd vs1 vs2 pd s
  | .vmov u vd vs1 vs2 pd => Sys2Proof.Machine.execVmov u vd vs1 vs2 pd s
  | .rtld u _vd vs1 vs2 pd hits => Sys2Proof.Machine.execRtld u _vd vs1 vs2 pd hits s
  | .rtst u vd vs1 vs2 pd => Sys2Proof.Machine.execRtst u vd vs1 vs2 pd s
  | .xltLookup who cid va acc => Sys2Proof.Machine.execXltLookup who cid va acc s
  | .walkStart => Sys2Proof.Machine.execWalkStart s
  | .walkRead cid va ecc => Sys2Proof.Machine.execWalkRead cid va ecc s
  | .walkWeirRefill => Sys2Proof.Machine.execWalkWeirRefill s
  | .xltInval value => Sys2Proof.Machine.execXltInval value s
  | .invalidateComplete => Sys2Proof.Machine.execInvalidateComplete s
  | .resume token => Sys2Proof.Machine.execResume token s
  | .kill token => Sys2Proof.Machine.execKill token s
  | .fqBaseWrite value => Sys2Proof.Machine.execFqBaseWrite value s
  | .fqHeadWrite value => Sys2Proof.Machine.execFqHeadWrite value s
  | .memoryRequest h ecc => Sys2Proof.Machine.execMemoryRequest h ecc s
  | .basinRequest h ecc => Sys2Proof.Machine.execBasinRequest h ecc s
  | .packetInject offer stop unit vn prompt => Sys2Proof.Machine.execPacketInject offer stop unit vn prompt s
  | .routerHeader stop out head body stalls => Sys2Proof.Machine.execRouterHeader stop out head body stalls s
  | .packetEject stop => Sys2Proof.Machine.execPacketEject stop s
  | .meshResponse h => Sys2Proof.Machine.execMeshResponse h s
  | .reqTimeout stop unit tag => Sys2Proof.Machine.execReqTimeout stop unit tag s
  | .switch value => Sys2Proof.Machine.execSwitch value s
  | .epochReqDrained => Sys2Proof.Machine.execEpochReqDrained s
  | .epochFlip => Sys2Proof.Machine.execEpochFlip s
  | .epochAbandon => Sys2Proof.Machine.execEpochAbandon s
  | .probeSample => Sys2Proof.Machine.execProbeSample s
  | .weirWrite stop unit cls value => Sys2Proof.Machine.execWeirWrite stop unit cls value s
  | .linkPortEnable port value => Sys2Proof.Machine.execLinkPortEnable port value s
  | .trainingStep port fin => Sys2Proof.Machine.execTrainingStep port fin s
  | .trainingStepTimeout port => Sys2Proof.Machine.execTrainingStepTimeout port s
  | .trainingRetry port => Sys2Proof.Machine.execTrainingRetry port s
  | .retrain port cause => Sys2Proof.Machine.execRetrain port cause s
  | .retrainEnd port fin => Sys2Proof.Machine.execRetrainEnd port fin s
  | .linkFrameSend port ty => Sys2Proof.Machine.execLinkFrameSend port ty s
  | .linkFrameReceive port frame check corrected uncorr => Sys2Proof.Machine.execLinkFrameReceive port frame check corrected uncorr s
  | .ackTimeout port => Sys2Proof.Machine.execAckTimeout port s
  | .peerSilent port => Sys2Proof.Machine.execPeerSilent port s
  | .zlRoute stop h => Sys2Proof.Machine.execZlRoute stop h s
  | .lRead stop h => Sys2Proof.Machine.execLRead stop h s
  | .lWrite stop h => Sys2Proof.Machine.execLWrite stop h s
  | .lWriteMasked stop h => Sys2Proof.Machine.execLWriteMasked stop h s
  | .lAtomic stop h => Sys2Proof.Machine.execLAtomic stop h s
  | .lMboxSend stop h => Sys2Proof.Machine.execLMboxSend stop h s
  | .lReduce stop h => Sys2Proof.Machine.execLReduce stop h s
  | .lMboxRecv h => Sys2Proof.Machine.execLMboxRecv h s
  | .lRspData h => Sys2Proof.Machine.execLRspData h s
  | .lRspAck h => Sys2Proof.Machine.execLRspAck h s
  | .remoteResend stop origStop origUnit origTag => Sys2Proof.Machine.execRemoteResend stop origStop origUnit origTag s
  | .remoteWriteGiveup stop origStop origUnit origTag => Sys2Proof.Machine.execRemoteWriteGiveup stop origStop origUnit origTag s
  | .reduceWaitExpire stop die group offset => Sys2Proof.Machine.execReduceWaitExpire stop die group offset s
  | .mailbox h => Sys2Proof.Machine.execMailbox h s
  | .rsendRetry tile => Sys2Proof.Machine.execRsendRetry tile s
  | .mboxBindWrite mbox value => Sys2Proof.Machine.execMboxBindWrite mbox value s
  | .timeSyncExchange t1 t2 t3 t4 => Sys2Proof.Machine.execTimeSyncExchange t1 t2 t3 t4 s
  | .timeHoldover => Sys2Proof.Machine.execTimeHoldover s
  | .sessionHandshake port fin => Sys2Proof.Machine.execSessionHandshake port fin s
  | .sessionRekey port => Sys2Proof.Machine.execSessionRekey port s
  | .pllLockLoss src fin => Sys2Proof.Machine.execPllLockLoss src fin s
  | .dfoTrim cluster fMeas low codes => Sys2Proof.Machine.execDfoTrim cluster fMeas low codes s
  | .droop cluster freq => Sys2Proof.Machine.execDroop cluster freq s
  | .marginCritical cluster codes => Sys2Proof.Machine.execMarginCritical cluster codes s
  | .marginLow cluster code skew => Sys2Proof.Machine.execMarginLow cluster code skew s
  | .marginRecover cluster low => Sys2Proof.Machine.execMarginRecover cluster low s
  | .skewCorrect cluster skew => Sys2Proof.Machine.execSkewCorrect cluster skew s
  | .ageingCheck cluster ran mean => Sys2Proof.Machine.execAgeingCheck cluster ran mean s
  | .telemetrySample volts ests => Sys2Proof.Machine.execTelemetrySample volts ests s
  | .senseRetry rail value => Sys2Proof.Machine.execSenseRetry rail value s
  | .ceilClear rail value => Sys2Proof.Machine.execCeilClear rail value s
  | .voltageReached rail mv => Sys2Proof.Machine.execVoltageReached rail mv s
  | .vsetTimeout rail => Sys2Proof.Machine.execVsetTimeout rail s
  | .estimateInterval uncore tiles => Sys2Proof.Machine.execEstimateInterval uncore tiles s
  | .phaseReport => Sys2Proof.Machine.execPhaseReport s
  | .demandReport => Sys2Proof.Machine.execDemandReport s
  | .clusterIdleClose cluster => Sys2Proof.Machine.execClusterIdleClose cluster s
  | .unmetStep => Sys2Proof.Machine.execUnmetStep s
  | .leaseWrite src value => Sys2Proof.Machine.execLeaseWrite src value s
  | .leaseExpire => Sys2Proof.Machine.execLeaseExpire s
  | .phaseClear value => Sys2Proof.Machine.execPhaseClear value s
  | .spillAssert => Sys2Proof.Machine.execSpillAssert s
  | .spillRelease => Sys2Proof.Machine.execSpillRelease s
  | .spillStuck => Sys2Proof.Machine.execSpillStuck s
  | .paceSend => Sys2Proof.Machine.execPaceSend s
  | .paceWordReceive port word => Sys2Proof.Machine.execPaceWordReceive port word s
  | .paceApply => Sys2Proof.Machine.execPaceApply s
  | .nonce mbox => Sys2Proof.Machine.execNonce mbox s
  | .propose mbox sigOk => Sys2Proof.Machine.execPropose mbox sigOk s
  | .countersign mbox sigOk => Sys2Proof.Machine.execCountersign mbox sigOk s
  | .withdraw mbox => Sys2Proof.Machine.execWithdraw mbox s
  | .query mbox => Sys2Proof.Machine.execQuery mbox s
  | .bundle mbox => Sys2Proof.Machine.execBundle mbox s
  | .keyLoad mbox sigOk tagOk => Sys2Proof.Machine.execKeyLoad mbox sigOk tagOk s
  | .keyDrop mbox => Sys2Proof.Machine.execKeyDrop mbox s
  | .quiesceAck => Sys2Proof.Machine.execQuiesceAck s
  | .quiesceTimeout => Sys2Proof.Machine.execQuiesceTimeout s
  | .proposalExpire mbox => Sys2Proof.Machine.execProposalExpire mbox s
  | .lockoutEnd => Sys2Proof.Machine.execLockoutEnd s
  | .debugRelock => Sys2Proof.Machine.execDebugRelock s
  | .halt tile => Sys2Proof.Machine.execHalt tile s
  | .dbgResume tile => Sys2Proof.Machine.execDbgResume tile s
  | .step tile => Sys2Proof.Machine.execStep tile s
  | .read tile => Sys2Proof.Machine.execRead tile s
  | .write tile => Sys2Proof.Machine.execWrite tile s
  | .breakpoint tile => Sys2Proof.Machine.execBreakpoint tile s
  | .jtagLockedInstruction code => Sys2Proof.Machine.execJtagLockedInstruction code s
  | .vglitch place => Sys2Proof.Machine.execVglitch place s
  | .cglitch source => Sys2Proof.Machine.execCglitch source s
  | .kintegrity fail => Sys2Proof.Machine.execKintegrity fail s
  | .kfwCheck ok => Sys2Proof.Machine.execKfwCheck ok s
  | .logReadWrite value => Sys2Proof.Machine.execLogReadWrite value s
  | .eventVector => Sys2Proof.Machine.execEventVector s
  | .vecUnmask v value => Sys2Proof.Machine.execVecUnmask v value s
  | .monitorPartialSend sample => Sys2Proof.Machine.execMonitorPartialSend sample s
  | .monitorPartialMerge => Sys2Proof.Machine.execMonitorPartialMerge s
  | .monitorWindowCapture slot => Sys2Proof.Machine.execMonitorWindowCapture slot s
  | .slotCfgWrite slot value => Sys2Proof.Machine.execSlotCfgWrite slot value s
  | .capBaseWrite value => Sys2Proof.Machine.execCapBaseWrite value s
  | .traceBaseWrite value => Sys2Proof.Machine.execTraceBaseWrite value s
  | .traceWrite => Sys2Proof.Machine.execTraceWrite s
  | .stop src value => Sys2Proof.Machine.execStop src value s
  | .reopen src value => Sys2Proof.Machine.execReopen src value s
  | .linkStopDrainExpire => Sys2Proof.Machine.execLinkStopDrainExpire s
  | .sensorStopCaptureEnd => Sys2Proof.Machine.execSensorStopCaptureEnd s
  | .selftest pass => Sys2Proof.Machine.execSelftest pass s
  | .route => Sys2Proof.Machine.execRoute s
  | .diodeMeasure v10 v100 reading => Sys2Proof.Machine.execDiodeMeasure v10 v100 reading s
  | .mgmtBusClear scl freed => Sys2Proof.Machine.execMgmtBusClear scl freed s
  | .outputFight alarm => Sys2Proof.Machine.execOutputFight alarm s
  | .thermalReading readings => Sys2Proof.Machine.execThermalReading readings s
  | .thermalTrip sensor => Sys2Proof.Machine.execThermalTrip sensor s
  | .thermalWaitEnd => Sys2Proof.Machine.execThermalWaitEnd s
  | .read32 offset len => Sys2Proof.Machine.execRead32 offset len s
  | .read64 offset len => Sys2Proof.Machine.execRead64 offset len s
  | .write32 offset len value => Sys2Proof.Machine.execWrite32 offset len value s
  | .write64 offset len value => Sys2Proof.Machine.execWrite64 offset len value s
  | .mgmtStatusRead => Sys2Proof.Machine.execMgmtStatusRead s
  | .entdaa addr => Sys2Proof.Machine.execEntdaa addr s
  | .setdasa static addr => Sys2Proof.Machine.execSetdasa static addr s
  | .rstdaa => Sys2Proof.Machine.execRstdaa s
  | .bypass => Sys2Proof.Machine.execBypass s
  | .idcode => Sys2Proof.Machine.execIdcode s
  | .samplePreload cells => Sys2Proof.Machine.execSamplePreload cells s
  | .extest => Sys2Proof.Machine.execExtest s
  | .jtagTowpathAccess write offset size value code => Sys2Proof.Machine.execJtagTowpathAccess write offset size value code s
  | .waitTickRelease u => Sys2Proof.Machine.execWaitTickRelease u s
  | .mgmtStuckClear => Sys2Proof.Machine.execMgmtStuckClear s
  | .badWidthAccess write offset size => Sys2Proof.Machine.execBadWidthAccess write offset size s
  | .vddSocRemoval => Sys2Proof.Machine.execVddSocRemoval s

end Sys2Proof.Machine
end

