-- ==== Sys2Proof/Safety.lean ====
section
/-! DEFINITION. The terms in which claims about the block are stated: what a command gives, when a control core issues,
what a tile instruction leaves alone, and the invariants that every step keeps. -/

namespace Sys2Proof.Machine

/-- The command has a next state, of which `P` holds. -/
def Gives (i : Instr) (s : State) (P : State → Prop) : Prop := ∃ t : State, exec i s = .next t ∧ P t

/-! ## Tile instructions -/

/-- The tile as an instruction that issues finds it: its lines used, its breakpoint passed. -/
def Tile.issued (x : Tile) (c : Nat) (ext : Bool) : Tile :=
  if c = isleCore then x else { (x.fetchLines ext).foldl Tile.touchLine x with bpSkip := false }

/-- The state as an instruction that issues finds it. -/
def State.issued (s : State) (c : Nat) (ext : Bool) : State :=
  if c = isleCore then s else s.updTile c fun x => x.issued c ext

/-- Core `c` issues its next instruction at once (R44, R280, R295, R296, R301, R656): a tile's core runs a task, does not
stall on a report, is not stopped or stepped by debug, stands at no breakpoint and holds every line of the instruction; the island's core runs its
program. -/
def State.canIssue (s : State) (c : Nat) (ext : Bool) : Bool :=
  let x := s.tile c
  if c = isleCore then s.islandRuns && decide (x.pc + wordsLen ext ≤ sramData) && !x.stepping
  else x.task.isSome && x.core == .running && !x.halted && !x.yielding && !x.stepping && !(s.breaks c) &&
    !(s.stalled (4 * clStop (c / 4) + c % 4)) && decide (x.pc + 4 * b2n ext < x.progSize) && (x.fetchLines ext).all fun l => x.istore.contains l

/-- Nothing but the record of core `c` differs. -/
def OnlyCore (s t : State) (c : Nat) : Prop :=
  { t with tiles := s.tiles } = s ∧ ∀ k, k ≠ c → t.tile k = s.tile k

/-- A tile without what issue and control flow change: the PC, the loops, the order in which instruction-store lines
were used, and the breakpoint passed. -/
def Tile.bare (x : Tile) : Tile := { x with pc := 0, loops := [], depth := 0, istore := [], bpSkip := false }

/-- Of a tile's registers and store, only scalar register `rd` differs. -/
def OnlyS (x y : Tile) (rd : Nat) : Prop :=
  { y.bare with s := x.s } = x.bare ∧ ∀ k, k ≠ rd → y.sreg k = x.sreg k

/-- Only address register `rd` differs. -/
def OnlyA (x y : Tile) (rd : Nat) : Prop :=
  { y.bare with a := x.a } = x.bare ∧ ∀ k, k ≠ rd → y.areg k = x.areg k

/-- Only tensor-descriptor register `rd` differs. -/
def OnlyT (x y : Tile) (rd : Nat) : Prop :=
  { y.bare with t := x.t } = x.bare ∧ ∀ k, k ≠ rd → y.treg k = x.treg k

/-- Lanes of vector register `vd` and the vector unit's queue differ: one more instruction runs there. -/
def OnlyLanes (x y : Tile) (vd : Nat) (op : UnitOp) : Prop :=
  { y.bare with v := x.v, units := x.units, issueNo := x.issueNo } = x.bare ∧ y.units = x.units ++ [op] ∧
    ∀ k i, k ≠ vd → i < 64 → y.vlane k i = x.vlane k i

/-- Predicate register `pd` and the vector unit's queue differ. -/
def OnlyPred (x y : Tile) (pd : Nat) (op : UnitOp) : Prop :=
  { y.bare with p := x.p, units := x.units, issueNo := x.issueNo } = x.bare ∧ y.units = x.units ++ [op] ∧
    ∀ k, k ≠ pd → y.preg k = x.preg k

/-- Scalar register `rd` and a unit's queue differ. -/
def OnlyScalar (x y : Tile) (rd : Nat) (op : UnitOp) : Prop :=
  { y.bare with s := x.s, units := x.units, issueNo := x.issueNo } = x.bare ∧ y.units = x.units ++ [op] ∧
    ∀ k, k ≠ rd → y.sreg k = x.sreg k

/-- Only the tile store differs, and of it only the `n` bytes from `a` on (the written bits of their lines with them). -/
def OnlyStore (x y : Tile) (a n : Nat) : Prop :=
  { y.bare with store := x.store, written := x.written } = x.bare ∧
    ∀ b, ¬(a ≤ b ∧ b < a + n) → y.rd b = x.rd b

/-- None of the ECC errors `hits` lies in a 64-bit word that the ranges meet (R288). -/
def eccFree (rs : List (Nat × Nat)) (hits : List TileHit) : Bool :=
  hits.all fun (h : TileHit) => rs.all fun r => !meets r (h.addr.toNat / 8 * 8, 8)

/-- Of the ECC errors `hits` those in words that the ranges meet are corrected (R288). -/
def eccMild (rs : List (Nat × Nat)) (hits : List TileHit) : Bool :=
  hits.all fun (h : TileHit) => !h.bad || rs.all fun r => !meets r (h.addr.toNat / 8 * 8, 8)

/-- The tile's core `c` raises exception `e` at its next instruction (R304, R305): it stops issuing and drains, and no
register and no byte of its tile store changes. -/
def Raises (i : Instr) (s : State) (c : Nat) (e : Exc) : Prop :=
  Gives i s fun t => OnlyCore s t c ∧
    let x := s.tile c
    let y := t.tile c
    y.core = .ending ∧ y.atEnd = false ∧ y.exc = some ⟨e.code, e.detail, x.pc, x.issueNo⟩ ∧
    { y.bare with core := x.core, atEnd := x.atEnd, wait := x.wait, call := x.call, exc := x.exc } = x.bare

/-! ## Invariants of every step -/

/-- The block's own byte memories keep their canonical form: the fault log, the basin scratch, the island SRAM and every
tile store. -/
def State.storesWf (s : State) : Prop :=
  Memory.wf s.conc.log = true ∧ Memory.wf s.basin.scratch = true ∧ Memory.wf s.island.sram = true ∧
    ∀ k, Memory.wf (s.tile k).store = true

/-- No thermometer fuse stands above 32 and no cluster has more than 8 ageing fuses blown (R553, R554, R632). -/
def Fuses.inRange (f : Fuses) : Prop := ∀ c, Tab.get 0 f.svn c ≤ 32 ∧ Tab.get 0 f.ageSteps c ≤ 8

end Sys2Proof.Machine
end

