-- ==== Sys2Proof/Certificates/Slice0/Obligations.lean ====
section
/-! DEFINITION. The statements for the provers, one `Obligations.<Name>` each.  A rule list at the head of a docstring names what
the statement is drawn from. -/

open Sys2Proof Sys2Proof.Machine

/-- R318, R319: every register form of the scalar ALU completes on every core and every pair of scalar registers, with the
value of the table; CLZ and POPC take rs2 = 0.  s0 keeps reading 0, and nothing but rd and the flow of control changes.
Commands shown to complete: add, sub, and, or, xor, sll, srl, sra, slt, sltu, mul, mulh, mulhu, div, divu, rem, remu, min,
max, minu, maxu, clz, popc. -/
def Obligations.ScalarRegisterForms : Prop :=
  ∀ (s : State) (u : BitVec 7) (rd rs1 rs2 : BitVec 5), s.canIssue (coreOf u) false = true →
    (s.tile (coreOf u)).blocked [] [rS rd.toNat, rS rs1.toNat, rS rs2.toNat] = false →
    let x := s.tile (coreOf u)
    let a := x.sreg rs1.toNat
    let b := x.sreg rs2.toNat
    let lands := fun (i : Instr) (v : Word) => Gives i s fun t => OnlyCore s t (coreOf u) ∧
      OnlyS x (t.tile (coreOf u)) rd.toNat ∧ (t.tile (coreOf u)).sreg rd.toNat = if rd = 0 then 0 else v
    lands (.add u rd rs1 rs2) (a + b) ∧ lands (.sub u rd rs1 rs2) (a - b) ∧
    lands (.and u rd rs1 rs2) (a &&& b) ∧ lands (.or u rd rs1 rs2) (a ||| b) ∧ lands (.xor u rd rs1 rs2) (a ^^^ b) ∧
    lands (.sll u rd rs1 rs2) (a <<< (b.toNat % 32)) ∧ lands (.srl u rd rs1 rs2) (a >>> (b.toNat % 32)) ∧
    lands (.sra u rd rs1 rs2) (a.sshiftRight (b.toNat % 32)) ∧
    lands (.slt u rd rs1 rs2) (if a.toInt < b.toInt then 1 else 0) ∧
    lands (.sltu u rd rs1 rs2) (if a.toNat < b.toNat then 1 else 0) ∧
    lands (.mul u rd rs1 rs2) (BitVec.ofNat 32 (a.toNat * b.toNat)) ∧
    lands (.mulh u rd rs1 rs2) (BitVec.ofInt 32 (a.toInt * b.toInt / 2 ^ 32)) ∧
    lands (.mulhu u rd rs1 rs2) (BitVec.ofNat 32 (a.toNat * b.toNat / 2 ^ 32)) ∧
    lands (.div u rd rs1 rs2) (if b = 0 then 0xFFFFFFFF else BitVec.ofInt 32 (a.toInt.tdiv b.toInt)) ∧
    lands (.divu u rd rs1 rs2) (if b = 0 then 0xFFFFFFFF else BitVec.ofNat 32 (a.toNat / b.toNat)) ∧
    lands (.rem u rd rs1 rs2) (if b = 0 then a else BitVec.ofInt 32 (a.toInt.tmod b.toInt)) ∧
    lands (.remu u rd rs1 rs2) (if b = 0 then a else BitVec.ofNat 32 (a.toNat % b.toNat)) ∧
    lands (.min u rd rs1 rs2) (if a.toInt ≤ b.toInt then a else b) ∧
    lands (.max u rd rs1 rs2) (if b.toInt ≤ a.toInt then a else b) ∧
    lands (.minu u rd rs1 rs2) (if a.toNat ≤ b.toNat then a else b) ∧
    lands (.maxu u rd rs1 rs2) (if b.toNat ≤ a.toNat then a else b) ∧
    (rs2 = 0 → lands (.clz u rd rs1 rs2) (BitVec.ofNat 32 (clz a)) ∧
      lands (.popc u rd rs1 rs2) (BitVec.ofNat 32 (popcount a.toNat 32)))

/-- R318, R320, R292: the address-register and descriptor-register forms complete on every register the core has, with rs2 = 0
where the table says so.  TSET replaces one field of R292 by the low bits of a scalar, TGET reads one, zero-extended.
Commands shown to complete: amov, aadd, aaddu, apack, alo, ahi, tset, tget, tmov, tzero. -/
def Obligations.AddressAndDescriptorForms : Prop :=
  ∀ (s : State) (u : BitVec 7) (rd rs1 rs2 f : BitVec 5), s.canIssue (coreOf u) false = true →
    (s.tile (coreOf u)).units = [] →
    let c := coreOf u
    let x := s.tile c
    let toA := fun (i : Instr) (v : DWord) => Gives i s fun t => OnlyCore s t c ∧
      OnlyA x (t.tile c) rd.toNat ∧ (t.tile c).areg rd.toNat = v
    let toS := fun (i : Instr) (v : Word) => Gives i s fun t => OnlyCore s t c ∧
      OnlyS x (t.tile c) rd.toNat ∧ (t.tile c).sreg rd.toNat = if rd = 0 then 0 else v
    let toT := fun (i : Instr) (v : BitVec 256) => Gives i s fun t => OnlyCore s t c ∧
      OnlyT x (t.tile c) rd.toNat ∧ (t.tile c).treg rd.toNat = v
    (aOk c rd.toNat = true → aOk c rs1.toNat = true →
      toA (.amov u rd rs1 0) (x.areg rs1.toNat) ∧
      toA (.aadd u rd rs1 rs2) (x.areg rs1.toNat + (x.sreg rs2.toNat).signExtend 64) ∧
      toA (.aaddu u rd rs1 rs2) (x.areg rs1.toNat + (x.sreg rs2.toNat).setWidth 64)) ∧
    (aOk c rd.toNat = true → toA (.apack u rd rs1 rs2) (x.sreg rs2.toNat ++ x.sreg rs1.toNat)) ∧
    (aOk c rs1.toNat = true → toS (.alo u rd rs1 0) ((x.areg rs1.toNat).setWidth 32) ∧
      toS (.ahi u rd rs1 0) ((x.areg rs1.toNat >>> 32).setWidth 32)) ∧
    (tOk c rd.toNat = true → toT (.tzero u rd 0 0) 0 ∧
      (tOk c rs1.toNat = true → toT (.tmov u rd rs1 0) (x.treg rs1.toNat)) ∧
      ∀ lo w, descField f.toNat = some (lo, w) →
        toT (.tset u f rd rs1 0) (setField (x.treg rd.toNat) lo w (x.sreg rs1.toNat))) ∧
    (tOk c rs1.toNat = true → ∀ lo w, descField f.toNat = some (lo, w) →
      toS (.tget u f rd rs1 0) (BitVec.ofNat 32 ((x.treg rs1.toNat).toNat / 2 ^ lo % 2 ^ w)))

/-- R321, R300: the immediate forms complete with the 16-bit immediate or, behind an EXT word, the 42-bit one, sign-extended;
LUI takes rs1 = 0.
Commands shown to complete: addi, andi, ori, xori, lui, slti, adda. -/
def Obligations.ImmediateForms : Prop :=
  ∀ (s : State) (u : BitVec 7) (rd rs1 : BitVec 5) (imm : BitVec 16) (ext : Option (BitVec 26)),
    s.canIssue (coreOf u) ext.isSome = true → (s.tile (coreOf u)).units = [] →
    let c := coreOf u
    let x := s.tile c
    let a := x.sreg rs1.toNat
    let i : Int := match ext with
      | none => imm.toInt
      | some e => (e ++ imm).toInt
    let toS := fun (k : Instr) (v : Word) => Gives k s fun t => OnlyCore s t c ∧
      OnlyS x (t.tile c) rd.toNat ∧ (t.tile c).sreg rd.toNat = if rd = 0 then 0 else v
    toS (.addi u rd rs1 imm ext) (BitVec.ofInt 32 (a.toInt + i)) ∧
    toS (.andi u rd rs1 imm ext) (a &&& BitVec.ofInt 32 i) ∧
    toS (.ori u rd rs1 imm ext) (a ||| BitVec.ofInt 32 i) ∧
    toS (.xori u rd rs1 imm ext) (a ^^^ BitVec.ofInt 32 i) ∧
    toS (.slti u rd rs1 imm ext) (if a.toInt < i then 1 else 0) ∧
    toS (.lui u rd 0 imm ext) (BitVec.ofInt 32 i <<< 16) ∧
    (aOk c rd.toNat = true → aOk c rs1.toNat = true → Gives (.adda u rd rs1 imm ext) s fun t => OnlyCore s t c ∧
      OnlyA x (t.tile c) rd.toNat ∧ (t.tile c).areg rd.toNat = x.areg rs1.toNat + BitVec.ofInt 64 i)

/-- R322, R330, R286, R288, R291: a tile's scalar and descriptor loads complete at every aligned address of the tile store (the
immediate's kind bits count as 0) when no line they read traps, over any ECC error that the store corrects; where every line
is written and no error found nothing but rd changes.
Commands shown to complete: lw, lbu, tld. -/
def Obligations.TileStoreLoads : Prop :=
  ∀ (s : State) (u : BitVec 7) (rd rs1 : BitVec 5) (off : BitVec 14) (imm : BitVec 15) (ext : Option (BitVec 26)) (a : Nat)
    (hits : List TileHit),
    coreOf u ≠ isleCore → s.canIssue (coreOf u) ext.isSome = true → (s.tile (coreOf u)).units = [] →
    let c := coreOf u
    let x := s.tile c
    let clean := fun (n : Nat) => x.unwrittenIn [(a, n)] = []
    let loads := fun (i : Instr) (n : Nat) (P Q : Tile → Prop) => clean n ∨ x.trapUnwritten = false →
      eccMild [(a, n)] hits = true →
      Gives i s fun t => P (t.tile c) ∧ (clean n → eccFree [(a, n)] hits = true → OnlyCore s t c ∧ Q (t.tile c))
    let toS := fun (i : Instr) (n : Nat) => loads i n
      (fun y => y.sreg rd.toNat = if rd = 0 then 0 else BitVec.ofNat 32 (x.rdLe a n)) (fun y => OnlyS x y rd.toNat)
    (scalarAddr x rs1.toNat off ext = a →
      (a % 4 = 0 → a + 4 ≤ 2 ^ 20 → toS (.lw u rd rs1 off ext hits) 4) ∧
      (a < 2 ^ 20 → toS (.lbu u rd rs1 off ext hits) 1)) ∧
    (descAddr x rs1.toNat imm ext = a → imm.extractLsb' 0 4 = 0 → tOk c rd.toNat = true → a % 32 = 0 → a + 32 ≤ 2 ^ 20 →
      loads (.tld u rd rs1 imm ext hits) 32 (fun y => y.treg rd.toNat = BitVec.ofNat 256 (x.rdLe a 32))
        (fun y => OnlyT x y rd.toNat))

/-- R322, R330, R288, R289, R13: a tile's scalar and descriptor stores complete at every aligned address of the tile store.  The
bytes stored are the register's, lowest first, at the address the register and the immediate give, over any ECC error that the
store corrects; every other byte of the store reads as before, and without an error no register and no memory changes.  A
store narrower than a 64-bit word that reads an uncorrectable one writes nothing and costs the context.
Commands shown to complete: sw, sb, tst. -/
def Obligations.TileStoreStores : Prop :=
  ∀ (s : State) (u : BitVec 7) (rd rs1 : BitVec 5) (off : BitVec 14) (imm : BitVec 15) (ext : Option (BitVec 26)) (a : Nat)
    (hits : List TileHit),
    coreOf u ≠ isleCore → s.canIssue (coreOf u) ext.isSome = true → (s.tile (coreOf u)).units = [] →
    Memory.wf (s.tile (coreOf u)).store = true →
    let c := coreOf u
    let x := s.tile c
    let stores := fun (i : Instr) (n v : Nat) (mild free : Prop) => mild → Gives i s fun t => (free → OnlyCore s t c ∧
      OnlyStore x (t.tile c) a n) ∧
      (∀ b, ¬(a ≤ b ∧ b < a + n) → (t.tile c).rd b = x.rd b) ∧
      ∀ j, j < n → (t.tile c).rd (a + j) = BitVec.ofNat 8 (v / 256 ^ j)
    let narrow := fun (i : List TileHit → Instr) (n : Nat) =>
      stores (i hits) n (x.sreg rd.toNat).toNat (eccMild [(a, n)] hits = true) (eccFree [(a, n)] hits = true) ∧
      ((s.ctx x.cid).st = .opened → x.isWritten (a / 64) = true → Gives (i [⟨BitVec.ofNat 20 a, true⟩]) s fun t =>
        (t.tile c).store = x.store ∧ (t.tile c).s = x.s ∧ (t.ctx x.cid).st = .lost)
    (scalarAddr x rs1.toNat off ext = a →
      (a % 4 = 0 → a + 4 ≤ 2 ^ 20 → narrow (.sw u rd rs1 off ext) 4) ∧
      (a < 2 ^ 20 → narrow (.sb u rd rs1 off ext) 1)) ∧
    (descAddr x rs1.toNat imm ext = a → imm.extractLsb' 0 4 = 0 → tOk c rd.toNat = true → a % 32 = 0 → a + 32 ≤ 2 ^ 20 →
      stores (.tst u rd rs1 imm ext) 32 (x.treg rd.toNat).toNat True True)

/-- R323, R324, R327: branches and jumps complete.  A taken branch goes to P + 4 × imm modulo 2³², one not taken goes on at
Next (outside any loop); JAL and JALR write Next to rs1 and go to P or the register, plus 4 × imm.
Commands shown to complete: beq, bne, blt, bge, bltu, bgeu, jal, jalr. -/
def Obligations.BranchesAndJumps : Prop :=
  ∀ (s : State) (u : BitVec 7) (rs1 rs2 : BitVec 5) (imm : BitVec 16) (ext : Option (BitVec 26)),
    s.canIssue (coreOf u) ext.isSome = true → (s.tile (coreOf u)).units = [] →
    let c := coreOf u
    let x := s.tile c
    let a := x.sreg rs1.toNat
    let b := x.sreg rs2.toNat
    let dest := fun (base : Int) => ((base + 4 * immOf imm ext).emod (2 ^ 32)).toNat
    let branch := fun (i : Instr) (taken : Prop) => Gives i s fun t => OnlyCore s t c ∧ (t.tile c).bare = x.bare ∧
      (taken → (t.tile c).pc = dest x.pc ∧ (t.tile c).loops = x.loops ∧ (t.tile c).depth = x.depth) ∧
      (¬taken → x.depth = 0 → (t.tile c).pc = (x.pc + if ext.isSome then 8 else 4) % 2 ^ 32)
    let link := fun (i : Instr) (target : Nat) => Gives i s fun t => OnlyCore s t c ∧ OnlyS x (t.tile c) rs1.toNat ∧
      (t.tile c).sreg rs1.toNat = (if rs1 = 0 then 0 else BitVec.ofNat 32 (x.pc + if ext.isSome then 8 else 4)) ∧
      (t.tile c).pc = target
    branch (.beq u rs1 rs2 imm ext) (a = b) ∧ branch (.bne u rs1 rs2 imm ext) (a ≠ b) ∧
    branch (.blt u rs1 rs2 imm ext) (a.toInt < b.toInt) ∧ branch (.bge u rs1 rs2 imm ext) (b.toInt ≤ a.toInt) ∧
    branch (.bltu u rs1 rs2 imm ext) (a.toNat < b.toNat) ∧ branch (.bgeu u rs1 rs2 imm ext) (b.toNat ≤ a.toNat) ∧
    link (.jal u rs1 imm ext) (dest x.pc) ∧
    (rs2 ≠ 0 → dest b.toNat % 4 = 0 → link (.jalr u rs1 rs2 imm ext) (dest b.toNat))

/-- R326, R327, R328: LOOP takes the loop register that its nesting names, with the count of the scalar, its body from Next to
P + 4 × imm, or for a count of 0 goes on behind the body; LBRK leaves the innermost loop and goes on behind its body.
Either raises illegal instruction where it names another register, and LBRK where its rs1 is not 0.
Commands shown to complete: loop, lbrk. -/
def Obligations.HardwareLoops : Prop :=
  ∀ (s : State) (u : BitVec 7) (rs1 l : BitVec 5) (imm : BitVec 16) (ext : Option (BitVec 26)),
    (s.tile (coreOf u)).units = [] →
    let c := coreOf u
    let x := s.tile c
    let top := if c = isleCore then 2 else 4
    let stop := (x.pc + 4 * (immOf imm ext).toNat) % 2 ^ 32
    (s.canIssue c ext.isSome = true → l.toNat = x.depth → x.depth < top → 1 ≤ immOf imm ext → immOf imm ext ≤ 2 ^ 30 →
      Gives (.loop u rs1 l imm ext) s fun t => OnlyCore s t c ∧ (t.tile c).bare = x.bare ∧
        (x.sreg rs1.toNat = 0 → (t.tile c).pc = (stop + 4) % 2 ^ 32 ∧ (t.tile c).depth = x.depth) ∧
        (x.sreg rs1.toNat ≠ 0 → (stop + 4) % 2 ^ 32 ≠ (x.pc + if ext.isSome then 8 else 4) % 2 ^ 32 →
          (t.tile c).depth = x.depth + 1 ∧ (t.tile c).pc = (x.pc + if ext.isSome then 8 else 4) % 2 ^ 32 ∧
          (t.tile c).loopReg x.depth = ⟨(x.sreg rs1.toNat).toNat, (x.pc + if ext.isSome then 8 else 4) % 2 ^ 32, stop⟩)) ∧
    (s.canIssue c false = true → l.toNat < top → l.toNat + 1 = x.depth →
      Gives (.lbrk u 0 l false) s fun t => OnlyCore s t c ∧ (t.tile c).bare = x.bare ∧ (t.tile c).depth = l.toNat ∧
        (t.tile c).pc = ((x.loopReg l.toNat).stop + 4) % 2 ^ 32 ∧
        (t.tile c).loopReg l.toNat = { x.loopReg l.toNat with count := 0 }) ∧
    (s.canIssue c false = true → c ≠ isleCore → x.exc = none →
      (rs1 ≠ 0 → Raises (.lbrk u rs1 l false) s c ⟨0x10, 0⟩) ∧
      (rs1 = 0 → l.toNat < top → l.toNat + 1 ≠ x.depth → Raises (.lbrk u rs1 l false) s c ⟨0x10, 2⟩)) ∧
    (s.canIssue c ext.isSome = true → c ≠ isleCore → x.exc = none → l.toNat < top → immOf imm ext ≠ 0 →
      l.toNat ≠ x.depth ∨ top ≤ x.depth →
      Raises (.loop u rs1 l imm ext) s c ⟨0x10, 2⟩)

/-- R331-R334, R337, R281: on a tile, XFER with legal operands and a free place puts one barge with the registers' values at the
end of the mover queue; WAIT BARGE and WAIT UNITS go on at once where nothing they wait for is outstanding, and otherwise
the core waits.
Commands shown to complete: xfer, waitBarge, waitUnits. -/
def Obligations.BargesAndWaits : Prop :=
  ∀ (s : State) (u : BitVec 7) (a td : BitVec 4) (sf : BitVec 5) (func : BitVec 13) (imm : BitVec 16),
    coreOf u ≠ isleCore → s.canIssue (coreOf u) false = true →
    let c := coreOf u
    let x := s.tile c
    let next := (x.pc + 4) % 2 ^ 32
    let goesOn := fun (i : Instr) => Gives i s fun t => OnlyCore s t c ∧ (t.tile c).bare = x.bare ∧
      (x.depth = 0 → (t.tile c).pc = next)
    let waits := fun (i : Instr) (w : WaitFor) => Gives i s fun t => OnlyCore s t c ∧
      (t.tile c).bare = { x.bare with core := .wait, wait := some w } ∧ (t.tile c).pc = x.pc
    (x.units = [] → func.toNat < 256 → xferBad func sf.toNat (descFields (x.treg td.toNat)) = false →
      firstExc (descExcsOf (x.treg td.toNat) td.toNat) = none → x.barges.length < 16 →
      (∀ b ∈ x.barges, b.id ≠ func.toNat / 16 % 16) →
      Gives (.xfer u a td sf func) s fun t => OnlyCore s t c ∧
        { (t.tile c).bare with barges := x.barges } = x.bare ∧
        ∃ b : Barge, (t.tile c).barges = x.barges ++ [b] ∧ b.va = (x.areg a.toNat).toNat ∧ b.desc = x.treg td.toNat ∧
          b.func = func ∧ b.done = 0 ∧ b.faulted = false ∧
          (func.getLsbD 1 = true → b.m1 = x.sreg sf.toNat ∧ b.m2 = x.sreg (sf.toNat + 1) ∧ b.m3 = x.sreg (sf.toNat + 2))) ∧
    ((∀ b ∈ x.barges, imm.getLsbD b.id = false) → goesOn (.waitBarge u imm)) ∧
    ((∃ b ∈ x.barges, imm.getLsbD b.id = true) → waits (.waitBarge u imm) (.barges imm.toNat)) ∧
    (x.units = [] → goesOn (.waitUnits u 0)) ∧
    (x.units ≠ [] → waits (.waitUnits u 0) .units)

/-- R337, R350, R111: WAIT TICK goes on once the core's GTC copy has reached a2 and waits before; a waiting one is released at
its count; TIME writes the copy's count to an address register.  On the island a wait shows WAITING.
Commands shown to complete: waitTick, time, waitTickRelease. -/
def Obligations.TickWaitsAndTime : Prop :=
  ∀ (s : State) (u : BitVec 7), (s.tile (coreOf u)).units = [] →
    let c := coreOf u
    let x := s.tile c
    let now := s.time (if c = isleCore then copyIsland else c)
    (s.canIssue c false = true →
      ((x.areg 2).toNat ≤ now → Gives (.waitTick u 0) s fun t => OnlyCore s t c ∧ (t.tile c).bare = x.bare ∧
        (x.depth = 0 → (t.tile c).pc = (x.pc + 4) % 2 ^ 32)) ∧
      (now < (x.areg 2).toNat → Gives (.waitTick u 0) s fun t => (t.tile c).wait = some (.tick (x.areg 2).toNat) ∧
        (t.tile c).pc = x.pc ∧ (c = isleCore → t.get Reg.WAT_STATUS_PROG_STATE = 2) ∧
        (c ≠ isleCore → OnlyCore s t c ∧ (t.tile c).core = .wait)) ∧
      (∀ k : BitVec 16, k.toNat < 16 → aOk c k.toNat = true → Gives (.time u k) s fun t => OnlyCore s t c ∧
        OnlyA x (t.tile c) k.toNat ∧ (t.tile c).areg k.toNat = BitVec.ofNat 64 now)) ∧
    (∀ n : Nat, x.wait = some (.tick n) → n ≤ now → x.stepping = false → c ≠ isleCore → x.core = .wait →
      Gives (.waitTickRelease u) s fun t => OnlyCore s t c ∧ (t.tile c).wait = none ∧ (t.tile c).core = .running ∧
        (x.depth = 0 → (t.tile c).pc = (x.pc + 4) % 2 ^ 32))

/-- R339-R341: every atomic on a word of the own die's memory that the context may reach replaces the word by the table's result
and returns the old word to s[s] (and its high half to s[s+1] for 64 bits).
Commands shown to complete: atomAdd, atomAnd, atomOr, atomXor, atomSmin, atomSmax, atomUmin, atomUmax, atomSwap, atomCas,
atomFadd, atomLoad. -/
def Obligations.AtomicOperations : Prop :=
  ∀ (s : State) (u : BitVec 7) (a : BitVec 4) (sf : BitVec 5) (w64 : Bool) (pa : Nat),
    coreOf u ≠ isleCore → s.canIssue (coreOf u) false = true → (s.tile (coreOf u)).units = [] →
    let c := coreOf u
    let r := s.issued c false
    let x := s.tile c
    let n := if w64 then 8 else 4
    let k := sf.toNat
    let reg := fun (j : Nat) => if w64 then (x.sreg j).toNat + (x.sreg (j + 1)).toNat * 2 ^ 32 else (x.sreg j).toNat
    (x.areg a.toNat).toNat % n = 0 → r.reachBy u.toNat x.cid (x.areg a.toNat).toNat .atomic = .ok pa →
    paDie pa = r.ownDie → (w64 = true → k % 2 = 0) →
    let old := r.physLe pa n
    let v := reg k
    let lands := fun (i : Instr) (w : Nat) => Gives i s fun t =>
      t.mem = (r.physPutLe pa n w).mem ∧ t.basin = (r.physPutLe pa n w).basin ∧ t.regs = s.regs ∧
      (k ≠ 0 → (t.tile c).sreg k = BitVec.ofNat 32 old) ∧
      (w64 = true → (t.tile c).sreg (k + 1) = BitVec.ofNat 32 (old / 2 ^ 32))
    let i := fun (m : BitVec 7 → BitVec 4 → BitVec 4 → BitVec 5 → Bool → BitVec 8 → Instr) => m u a 0 sf w64 0
    lands (i .atomAdd) ((old + v) % 256 ^ n) ∧ lands (i .atomAnd) (old &&& v) ∧ lands (i .atomOr) (old ||| v) ∧
    lands (i .atomXor) (old ^^^ v) ∧ lands (i .atomUmin) (min old v) ∧ lands (i .atomUmax) (max old v) ∧
    lands (i .atomSmin) (if asSigned (8 * n) v < asSigned (8 * n) old then v else old) ∧
    lands (i .atomSmax) (if asSigned (8 * n) old < asSigned (8 * n) v then v else old) ∧
    lands (i .atomSwap) v ∧ lands (i .atomLoad) old ∧
    (w64 = false → lands (i .atomFadd)
      (toF32 ((f32 (BitVec.ofNat 32 old)).add (f32 (BitVec.ofNat 32 v)))).toNat) ∧
    (k + n / 2 ≤ 32 → (w64 = true → k % 4 = 0) →
      lands (i .atomCas) (if old = v then reg (k + n / 4) else old))

/-- R288, R342-R344, R523, R524: RSEND to a mailbox of the own die that is bound, admits the die and has room appends the lines
of the tile store and reads ACCEPTED where no receive waits for them, over any ECC error that the store corrects; RRECV from a
bound mailbox of its context takes the oldest
message, and without one reads EMPTY when it does not block; a send that was answered FULL is sent again once its 50 t are over, and
not before.
Commands shown to complete: rsend, rrecv, rsendRetry. -/
def Obligations.MailboxInstructions : Prop :=
  ∀ (s : State) (u : BitVec 7) (a : BitVec 4) (sf : BitVec 5) (lines : BitVec 2) (nb : Bool) (hits : List TileHit),
    coreOf u ≠ isleCore → s.ownDie < 512 →
    let c := coreOf u
    let x := s.tile c
    let n := lines.toNat + 1
    let m := (x.areg a.toNat).toNat % 4096
    let addr := (x.sreg sf.toNat).toNat
    let b := s.mboxBind m
    let line := fun (k : Nat) => x.rdLe (addr + 64 * k) 64
    let msg : Msg := ⟨s.ownDie, (List.range n).map line⟩
    let status := fun (t : State) => (t.tile c).sreg sf.toNat
    let takes := b.valid = true ∧ b.mode = 0 ∧ m ≠ 4095 ∧ (∀ r ∈ s.mail.recvs, r.2 ≠ m) ∧
      msgLines (s.mbox m) + n ≤ b.depth ∧ s.get Reg.KPR_MBOX_USE_LINES + n ≤ 2048
    (s.canIssue c false = true → x.units = [] → addr % 64 = 0 → addr + 64 * n ≤ 2 ^ 20 → sf ≠ 0 →
      (x.areg a.toNat).toNat = s.ownDie * 2 ^ 32 + m →
      (x.unwrittenIn [(addr, 64 * n)] = [] → takes → eccMild [(addr, 64 * n)] hits = true →
        Gives (.rsend u a 0 sf lines nb 0 hits) s fun t => t.mbox m = s.mbox m ++ [msg] ∧ status t = 0) ∧
      (b.valid = true → b.cid = x.cid → s.mbox m = [] →
        Gives (.rrecv u a 0 sf lines true 0) s fun t => OnlyCore s t c ∧ status t = 0x10000000) ∧
      (∀ g rest, b.valid = true → b.cid = x.cid → s.mbox m = g :: rest → g.lines ≠ [] →
        Gives (.rrecv u a 0 sf lines nb 0) s fun t => t.mbox m = rest ∧
          status t = BitVec.ofNat 32 ((if n < g.lines.length then 2 ^ 27 else 0) +
            (min n g.lines.length - 1) * 2 ^ 24 + g.src % 512))) ∧
    (∀ sreg l due, u.toNat < 64 → x.call = some (.send s.ownDie m sreg l nb (some due)) →
      (s.time c < due → Gives (.rsendRetry (u.setWidth 6)) s fun t => t = s) ∧
      (due ≤ s.time c → sreg ≠ 0 → x.stepping = false → takes → l.length = n →
        Gives (.rsendRetry (u.setWidth 6)) s fun t => t.mbox m = s.mbox m ++ [⟨s.ownDie, l⟩] ∧
        (t.tile c).sreg sreg = 0 ∧ (t.tile c).call = none))

/-- R345, R346, R448: ALLOC gives the address that the wharf finds, or 0 with TRY where it finds none, and FREE gives a live
block back; an ALLOC without TRY that fails raises ALLOC_FAILED.
Commands shown to complete: alloc, free. -/
def Obligations.WharfInstructions : Prop :=
  ∀ (s : State) (u : BitVec 7) (a : BitVec 4) (sf : BitVec 5) (zero try_ : Bool),
    coreOf u ≠ isleCore → s.canIssue (coreOf u) false = true → (s.tile (coreOf u)).units = [] →
    let c := coreOf u
    let r := s.issued c false
    let x := s.tile c
    let size := (x.sreg sf.toNat).toNat
    (∀ w va, r.wharfAlloc x.cid size zero = some (w, va) → Gives (.alloc u a 0 sf zero try_ 0) s fun t =>
      t.mem = w.mem ∧ t.basin = w.basin ∧ (t.tile c).areg a.toNat = BitVec.ofNat 64 va) ∧
    (r.wharfAlloc x.cid size zero = none →
      Gives (.alloc u a 0 sf zero true 0) s (fun t => OnlyCore s t c ∧ OnlyA x (t.tile c) a.toNat ∧
        (t.tile c).areg a.toNat = 0) ∧
      (x.exc = none → Gives (.alloc u a 0 sf zero false 0) s fun t => OnlyCore s t c ∧ (t.tile c).core = .ending ∧
        (t.tile c).exc.map (·.code) = some 0x14)) ∧
    (∀ w, r.wharfDrop x.cid (x.areg a.toNat).toNat = some w → Gives (.free u a 0 0 0 0) s fun t =>
      t.mem = w.mem ∧ t.basin = w.basin ∧ t.regs = w.regs)

/-- R347-R351, R384, R112: with no barge or unit instruction unfinished, SIGNAL FENCE does the fence operation of its registers,
SIGNAL EVENT sends a vector of the context, PHASE reports its number, CLIPSTAT reads a count and TMODE reads and writes the
mode; on the island, SIGNAL WAKE keeps the held buffer and reports the wake, and SIGNAL KEEP keeps the buffer.
Commands shown to complete: signalFence, signalEvent, signalWake, signalKeep, phase, clipstat, tmodeRead, tmodeWrite. -/
def Obligations.SignalsPhasesAndModes : Prop :=
  ∀ (s : State) (u : BitVec 7), s.canIssue (coreOf u) false = true → (s.tile (coreOf u)).units = [] →
    let c := coreOf u
    let r := s.issued c false
    let x := s.tile c
    (c ≠ isleCore →
      (x.barges = [] →
        (∀ (ra rv : BitVec 4) (q i inst : Nat), x.task = some (q, i, inst) → (x.areg ra.toNat).toNat % 16 = 0 →
          (x.areg rv.toNat).toNat < 2 ^ 62 →
          Gives (.signalFence u ((0 : BitVec 8) ++ rv ++ ra)) s fun t =>
            t.mem = (r.fence x.cid (x.areg ra.toNat).toNat (some q) (.signal (x.areg rv.toNat).toNat)).mem) ∧
        (∀ v : BitVec 12, (r.ctx x.cid).hasVec v.toNat = true → Gives (.signalEvent u (v.setWidth 16)) s fun t =>
          t.host.events = s.host.events ++ [v.toNat] ∧ t.mem = s.mem ∧ t.regs = s.regs ∧ (t.tile c).bare = x.bare)) ∧
      (∀ k : BitVec 8, Gives (.phase u (k.setWidth 16)) s fun t => (t.tile c).phase = k.toNat ∧
        Report.phase c k.toNat ∈ t.conc.sent ∧ t.regs = s.regs ∧ t.mem = s.mem) ∧
      (∀ (rd : BitVec 5) (sel : BitVec 3) (v : Nat), x.clipStat sel.toNat = some v →
        Gives (.clipstat u ((0 : BitVec 8) ++ sel ++ rd)) s fun t => OnlyCore s t c ∧ OnlyS x (t.tile c) rd.toNat ∧
          (t.tile c).sreg rd.toNat = if rd = 0 then 0 else BitVec.ofNat 32 v) ∧
      (∀ rd : BitVec 5, Gives (.tmodeRead u (rd.setWidth 16)) s fun t => OnlyCore s t c ∧ OnlyS x (t.tile c) rd.toNat ∧
        (t.tile c).sreg rd.toNat = if rd = 0 then 0 else x.tmode) ∧
      (∀ rs : BitVec 5, x.sreg rs.toNat &&& 0xFFFFFF70 = 0 → Gives (.tmodeWrite u (rs.setWidth 16)) s fun t =>
        OnlyCore s t c ∧ (t.tile c).bare = { x.bare with tmode := x.sreg rs.toNat })) ∧
    (c = isleCore →
      (∀ k : BitVec 8, Gives (.signalWake u (k.setWidth 16)) s fun t =>
        (s.island.held = some 0 → t.get Reg.WAT_STATUS_KEEP_A = 1) ∧ t.island.kept = s.island.held ∧
        (s.domLive 1 = true → Report.wake 1 k.toNat ∈ t.conc.sent) ∧
        (s.domLive 1 = false → Report.wake 1 k.toNat ∈ t.conc.inbox)) ∧
      Gives (.signalKeep u 0) s fun t => (s.island.held = some 0 → t.get Reg.WAT_STATUS_KEEP_A = 1) ∧
        (s.island.held = some 1 → t.get Reg.WAT_STATUS_KEEP_B = 1) ∧ (s.island.held = none → t.regs = s.regs))

/-- R308, R352, R353, R257, R302, R304, R111, R138: END stops a tile's core to drain, and the island's program; TRAP raises TRAP
with its immediate; a YIELD that nothing outranks goes on; WAIT FRAME gives the held buffer up, halts with RUN 0, waits
without a frame and takes the oldest one, with its address, number and flags in s1 to s3.
Commands shown to complete: waitFrame, end_, yield, trap. -/
def Obligations.EndYieldTrapAndFrames : Prop :=
  ∀ (s : State) (u : BitVec 7), s.canIssue (coreOf u) false = true → (s.tile (coreOf u)).units = [] →
    let c := coreOf u
    let r := s.issued c false
    let x := s.tile c
    (c ≠ isleCore →
      Gives (.end_ u 0) s (fun t => OnlyCore s t c ∧ (t.tile c).bare = { x.bare with core := .ending, atEnd := true } ∧
        (t.tile c).pc = x.pc) ∧
      (∀ k : BitVec 16, x.exc = none → Gives (.trap u k) s fun t => OnlyCore s t c ∧ (t.tile c).core = .ending ∧
        (t.tile c).exc = some ⟨0x16, k.toNat, x.pc, x.issueNo⟩) ∧
      (x.barges = [] → (∀ q i p k, (r.complete c false).holder c = some (q, i, p, k) →
        (r.complete c false).outranked c q i k = none) → Gives (.yield u 0) s fun t =>
        OnlyCore s t c ∧ (t.tile c).bare = x.bare ∧ (x.depth = 0 → (t.tile c).pc = (x.pc + 4) % 2 ^ 32))) ∧
    (c = isleCore →
      Gives (.end_ u 0) s (fun t => t.get Reg.WAT_STATUS_PROG_STATE = 4 ∧ t.tiles = s.tiles) ∧
      (s.get Reg.WAT_CTRL_RUN = 0 → Gives (.waitFrame u 0) s fun t => t.get Reg.WAT_STATUS_PROG_STATE = 5 ∧
        t.island.held = none ∧ t.tiles = s.tiles) ∧
      (s.get Reg.WAT_CTRL_RUN = 1 → s.island.ready = [] → Gives (.waitFrame u 0) s fun t =>
        t.get Reg.WAT_STATUS_PROG_STATE = 2 ∧ t.island.held = none ∧ (t.tile c).wait = some .frame) ∧
      (∀ b rest f, s.get Reg.WAT_CTRL_RUN = 1 → s.island.ready = b :: rest → s.frameIn b = some f →
        Gives (.waitFrame u 0) s fun t => t.island.held = some b ∧ t.island.ready = rest ∧
          t.get Reg.WAT_STATUS_PROG_STATE = 1 ∧ (t.tile c).sreg 1 = BitVec.ofNat 32 (s.bufAddr b) ∧
          (t.tile c).sreg 2 = BitVec.ofNat 32 f.no ∧ (t.tile c).sreg 3 = BitVec.ofNat 32 (1 + f.flags)))

/-- R359-R362, R365, R288: an MMA of an integer pair of up to 64 elements of depth, without block scales, gives every element of its
region the old value (0 when it initialises), plus or minus the sum of the products, modulo 2³², over any ECC error that
the store corrects; other accumulators stay.
Commands shown to complete: mma. -/
def Obligations.IntegerMatrixMultiply : Prop :=
  ∀ (s : State) (u : BitVec 7) (acc : BitVec 3) (ta tb : BitVec 4) (zero neg : Bool) (a b : Desc)
    (hits : List TileHit),
    s.canIssue (coreOf u) false = true → (s.tile (coreOf u)).units = [] →
    let c := coreOf u
    let x := s.tile c
    let k := acc.toNat
    descFields (x.treg ta.toNat) = some a → descFields (x.treg tb.toNat) = some b →
    tOk c ta.toNat = true → tOk c tb.toNat = true → accOk c k = true → mmaShapeBad c a b = false →
    mmaPair a.fmt b.fmt = some false → (zero = false → x.accIsFp k = false) → a.bscale = false → b.bscale = false →
    a.d0 ≤ 64 → a.place ta.toNat = none → b.place tb.toNat = none → isleRange c a false = none →
    isleRange c b false = none → x.trapUnwritten = false → x.tmode = 0 →
    eccMild (a.ranges ++ b.ranges) hits = true →
    let dot := fun (m n : Nat) => ((List.range a.d0).map fun i =>
      (s.elemNum c a i m 0 0).at_ 0 * (s.elemNum c b i n 0 0).at_ 0).sum
    let old := fun (m n : Nat) => if zero then 0 else (x.accEl k m n).toInt
    Gives (.mma u acc ta tb 0 zero neg 0 hits) s fun t =>
      (t.tile c).units = [⟨unitM, a.ranges ++ b.ranges, [], [rAcc k], none⟩] ∧ (t.tile c).accIsFp k = false ∧
      (∀ m n, m < a.d1 → n < b.d1 →
        (t.tile c).accEl k m n = BitVec.ofInt 32 (if neg then old m n - dot m n else old m n + dot m n)) ∧
      (∀ j m n, j ≠ k → m < 64 → n < 64 → (t.tile c).accEl j m n = x.accEl j m n)

/-- R378-R383, R407, R288: a CVT of an accumulator or a tensor to a tensor without block scales, with no trap enabled, converts every
element, over any ECC error that the store corrects: it counts each, and a tensor of one element of 8 bits holds its code.
Commands shown to complete: cvt. -/
def Obligations.ConversionCountsAndStores : Prop :=
  ∀ (s : State) (u : BitVec 7) (acc : BitVec 3) (ta tb : BitVec 4) (rm : BitVec 3) (ieee srcT : Bool) (d e : Desc) (m : RMode)
    (hits : List TileHit),
    coreOf u ≠ isleCore → s.canIssue (coreOf u) false = true → (s.tile (coreOf u)).units = [] →
    let c := coreOf u
    let x := s.tile c
    descFields (x.treg ta.toNat) = some d → (if srcT then descFields (x.treg tb.toNat) else descFields 0) = some e →
    rmodeOf rm.toNat = some m → d.bscale = false → d.place ta.toNat = none → x.tmode = 0 → x.trapUnwritten = false →
    (if srcT then acc = 0 ∧ e.place tb.toNat = none ∧ d.d0 = e.d0 ∧ d.d1 = e.d1 ∧ d.d2 = e.d2 ∧ d.d3 = e.d3
      else tb = 0 ∧ d.d0 ≤ 64 ∧ d.d1 ≤ 64 ∧ d.d2 = 1 ∧ d.d3 = 1) →
    eccMild (d.ranges ++ e.ranges) hits = true →
    let v : Cvt := ⟨d, if srcT then some e else none, acc.toNat, x.accIsFp acc.toNat, false, 0, m, ieee⟩
    let i := s.cvtIn c v 0 0 0 0
    Gives (.cvt u acc ta tb 0 rm ieee false srcT 0 hits) s fun t =>
      (t.tile c).units = [⟨unitC, if srcT then e.ranges else [], d.ranges, [], none⟩] ∧
      (t.tile c).converted = (x.converted + d.count) % 2 ^ 64 ∧
      (d.count = 1 → d.fmt.bits = 8 → Memory.wf x.store = true →
        (t.tile c).rd d.base = BitVec.ofNat 8 (toElem d.fmt m (x.laneR 0) ieee i.nanIn i.post i.x).code)

/-- R376, R377: reductions of a whole INT32 accumulator: SUM, MAX, MIN and ABSMAX of all 4,096 elements into a scalar register,
and of each row into its lane of a vector register.
Commands shown to complete: reduceSum, reduceMax, reduceMin, reduceAbsmax. -/
def Obligations.AccumulatorReductions : Prop :=
  ∀ (s : State) (u : BitVec 7) (acc : BitVec 3) (dst : BitVec 5), coreOf u ≠ isleCore →
    s.canIssue (coreOf u) false = true → (s.tile (coreOf u)).units = [] →
    let c := coreOf u
    let x := s.tile c
    let k := acc.toNat
    let el := fun (i j : Nat) => x.accEl k i j
    let row := fun (i : Nat) => (List.range 64).map fun j => (el i j).toInt
    let all := ((List.range 64).map row).flatten
    let top := fun (l : List Int) (w : Word) => w.toInt ∈ l ∧ ∀ v ∈ l, v ≤ w.toInt
    let low := fun (l : List Int) (w : Word) => w.toInt ∈ l ∧ ∀ v ∈ l, w.toInt ≤ v
    let mag := fun (l : List Int) (w : Word) => ∃ v ∈ l, (∀ z ∈ l, z.natAbs ≤ v.natAbs) ∧ w.toNat = min (2 ^ 31 - 1) v.natAbs
    let sum := fun (l : List Int) (w : Word) => w = BitVec.ofInt 32 l.sum
    let op := fun (r : Nat) => (⟨unitV, [], [], [r], none⟩ : UnitOp)
    let whole := fun (m : BitVec 7 → BitVec 3 → BitVec 4 → BitVec 4 → BitVec 4 → BitVec 2 → BitVec 5 → Instr)
        (p : List Int → Word → Prop) =>
      (dst ≠ 0 → Gives (m u acc 0 0 0 0 dst) s fun t => OnlyCore s t c ∧
        OnlyScalar x (t.tile c) dst.toNat (op (rS dst.toNat)) ∧ p all ((t.tile c).sreg dst.toNat)) ∧
      (Gives (m u acc 0 0 0 1 dst) s fun t => OnlyCore s t c ∧ OnlyLanes x (t.tile c) dst.toNat (op (rV dst.toNat)) ∧
        ∀ i, i < 64 → p (row i) ((t.tile c).vlane dst.toNat i))
    x.accIsFp k = false → x.tmode = 0 →
    whole .reduceSum sum ∧ whole .reduceMax top ∧ whole .reduceMin low ∧ whole .reduceAbsmax mag

/-- R368, R369, R298: the integer lane operations complete on a tile.  Each lane that the predicate selects holds the
operation's value of vs1 and of vs2 or, with SCALAR, the scalar register; every other lane and register stays.
Commands shown to complete: vadd, vsub, vmul, vmulh, vmulhu, vmin, vmax, vminu, vmaxu, vand, vor, vxor, vsll, vsrl, vsra,
vabs, vmadd, vsrar, vfabs, vfneg, vf2i. -/
def Obligations.IntegerLaneOperations : Prop :=
  ∀ (s : State) (u : BitVec 7) (vd vs1 vs2 : BitVec 5) (pd : BitVec 3) (sc : Bool), coreOf u ≠ isleCore →
    s.canIssue (coreOf u) false = true → (s.tile (coreOf u)).units = [] →
    let c := coreOf u
    let x := s.tile c
    let lands := fun (i : Instr) (f : Word → Word → Word → Word) => Gives i s fun t => OnlyCore s t c ∧
      OnlyLanes x (t.tile c) vd.toNat ⟨unitV, [], [], [rV vd.toNat], none⟩ ∧
      ∀ k, k < 64 → (t.tile c).vlane vd.toNat k =
        if (x.preg pd.toNat).getLsbD k then
          f (x.vlane vd.toNat k) (x.vlane vs1.toNat k) (if sc then x.sreg vs2.toNat else x.vlane vs2.toNat k)
        else x.vlane vd.toNat k
    lands (.vadd u vd vs1 vs2 pd sc) (fun _ a b => a + b) ∧ lands (.vsub u vd vs1 vs2 pd sc) (fun _ a b => a - b) ∧
    lands (.vmul u vd vs1 vs2 pd sc) (fun _ a b => BitVec.ofNat 32 (a.toNat * b.toNat)) ∧
    lands (.vmulh u vd vs1 vs2 pd sc) (fun _ a b => BitVec.ofInt 32 (a.toInt * b.toInt / 2 ^ 32)) ∧
    lands (.vmulhu u vd vs1 vs2 pd sc) (fun _ a b => BitVec.ofNat 32 (a.toNat * b.toNat / 2 ^ 32)) ∧
    lands (.vmin u vd vs1 vs2 pd sc) (fun _ a b => if a.toInt ≤ b.toInt then a else b) ∧
    lands (.vmax u vd vs1 vs2 pd sc) (fun _ a b => if b.toInt ≤ a.toInt then a else b) ∧
    lands (.vminu u vd vs1 vs2 pd sc) (fun _ a b => if a.toNat ≤ b.toNat then a else b) ∧
    lands (.vmaxu u vd vs1 vs2 pd sc) (fun _ a b => if b.toNat ≤ a.toNat then a else b) ∧
    lands (.vand u vd vs1 vs2 pd sc) (fun _ a b => a &&& b) ∧ lands (.vor u vd vs1 vs2 pd sc) (fun _ a b => a ||| b) ∧
    lands (.vxor u vd vs1 vs2 pd sc) (fun _ a b => a ^^^ b) ∧
    lands (.vsll u vd vs1 vs2 pd sc) (fun _ a b => a <<< (b.toNat % 32)) ∧
    lands (.vsrl u vd vs1 vs2 pd sc) (fun _ a b => a >>> (b.toNat % 32)) ∧
    lands (.vsra u vd vs1 vs2 pd sc) (fun _ a b => a.sshiftRight (b.toNat % 32)) ∧
    lands (.vsrar u vd vs1 vs2 pd sc) (fun _ a b => BitVec.ofInt 32
      ((a.toInt + (if b.toNat % 32 = 0 then 0 else 2 ^ (b.toNat % 32 - 1))) / 2 ^ (b.toNat % 32))) ∧
    lands (.vmadd u vd vs1 vs2 pd sc) (fun d a b => d + a * b) ∧
    (vs2 = 0 → sc = false →
      lands (.vabs u vd vs1 vs2 pd sc) (fun _ a _ => if a.toInt < 0 then -a else a) ∧
      lands (.vfabs u vd vs1 vs2 pd sc) (fun _ a _ => a &&& 0x7FFFFFFF) ∧
      lands (.vfneg u vd vs1 vs2 pd sc) (fun _ a _ => a ^^^ 0x80000000) ∧
      lands (.vf2i u vd vs1 vs2 pd sc) (fun _ a _ => toI32 (f32 a)))

/-- R357, R358, R370: the FP32 lane operations complete on a tile while no trap is enabled.  Each selected lane holds the
correctly rounded result, a subnormal one flushed to a zero of its sign under FTZ; everything else stays.
Commands shown to complete: vfadd, vfsub, vfmul, vfma, vfmin, vfmax, vfrcp, vfrsqrt, vfsqrt, vfexp2, vflog2, vfdiv, vi2f,
vu2f. -/
def Obligations.FloatLaneOperations : Prop :=
  ∀ (s : State) (u : BitVec 7) (vd vs1 vs2 : BitVec 5) (pd : BitVec 3) (sc : Bool), coreOf u ≠ isleCore →
    s.canIssue (coreOf u) false = true → (s.tile (coreOf u)).units = [] →
    let c := coreOf u
    let x := s.tile c
    let ftz := fun (w : Word) => if x.tmode.getLsbD 7 && isSubnormal w then w &&& 0x80000000 else w
    let lands := fun (i : Instr) (f : Machine.Num → Machine.Num → Machine.Num →
      Machine.Num) => Gives i s fun t => OnlyCore s t c ∧
      OnlyLanes x (t.tile c) vd.toNat ⟨unitV, [], [], [rV vd.toNat], none⟩ ∧
      ∀ k, k < 64 → (t.tile c).vlane vd.toNat k =
        if (x.preg pd.toNat).getLsbD k then
          ftz (toF32 (f (f32 (x.vlane vd.toNat k)) (f32 (x.vlane vs1.toNat k))
            (f32 (if sc then x.sreg vs2.toNat else x.vlane vs2.toNat k))))
        else x.vlane vd.toNat k
    let converts := fun (i : Instr) (f : Word → Int) => Gives i s fun t => OnlyCore s t c ∧
      OnlyLanes x (t.tile c) vd.toNat ⟨unitV, [], [], [rV vd.toNat], none⟩ ∧
      ∀ k, k < 64 → (t.tile c).vlane vd.toNat k =
        if (x.preg pd.toNat).getLsbD k then ftz (toF32 (Machine.Num.ofInt (f (x.vlane vs1.toNat k)))) else x.vlane vd.toNat k
    (∀ n, n < 4 → x.tmode.getLsbD n = false) →
    lands (.vfadd u vd vs1 vs2 pd sc) (fun _ a b => a.add b) ∧ lands (.vfsub u vd vs1 vs2 pd sc) (fun _ a b => a.add b.neg) ∧
    lands (.vfmul u vd vs1 vs2 pd sc) (fun _ a b => a.mul b) ∧ lands (.vfdiv u vd vs1 vs2 pd sc) (fun _ a b => a.div b) ∧
    lands (.vfma u vd vs1 vs2 pd sc) (fun d a b => d.add (a.mul b)) ∧
    lands (.vfmin u vd vs1 vs2 pd sc) (fun _ a b => a.minOf b) ∧ lands (.vfmax u vd vs1 vs2 pd sc) (fun _ a b => a.maxOf b) ∧
    (vs2 = 0 → sc = false →
      lands (.vfrcp u vd vs1 vs2 pd sc) (fun _ a _ => (Machine.Num.fin false 1 0).div a) ∧
      lands (.vfrsqrt u vd vs1 vs2 pd sc) (fun _ a _ => a.rsqrt) ∧ lands (.vfsqrt u vd vs1 vs2 pd sc) (fun _ a _ => a.sqrt) ∧
      lands (.vfexp2 u vd vs1 vs2 pd sc) (fun _ a _ => a.exp2) ∧ lands (.vflog2 u vd vs1 vs2 pd sc) (fun _ a _ => a.log2) ∧
      converts (.vi2f u vd vs1 vs2 pd sc) (fun w => w.toInt) ∧ converts (.vu2f u vd vs1 vs2 pd sc) (fun w => w.toNat))

/-- R371, R283: comparisons and predicate operations complete on a tile.  Each bit that p[pd] selects holds the comparison of
its lane or the operation of its bits; a write to p0 is discarded and p0 keeps reading ones.
Commands shown to complete: vcmpeq, vcmpne, vcmplt, vcmple, vcmpltu, vcmpleu, vfcmpeq, vfcmplt, vfcmple, vfcmpun, pand, por,
pxor, pandn, pset. -/
def Obligations.ComparisonsAndPredicates : Prop :=
  ∀ (s : State) (u : BitVec 7) (vd vs1 vs2 : BitVec 5) (pd : BitVec 3) (sc : Bool), coreOf u ≠ isleCore →
    s.canIssue (coreOf u) false = true → (s.tile (coreOf u)).units = [] → vd.toNat < 8 →
    let c := coreOf u
    let x := s.tile c
    let lands := fun (i : Instr) (f : Nat → Bool) => Gives i s fun t => OnlyCore s t c ∧
      OnlyPred x (t.tile c) vd.toNat ⟨unitV, [], [], [rP vd.toNat], none⟩ ∧
      ∀ k, k < 64 → ((t.tile c).preg vd.toNat).getLsbD k =
        if vd = 0 then true else if (x.preg pd.toNat).getLsbD k then f k else (x.preg vd.toNat).getLsbD k
    let a := fun (k : Nat) => x.vlane vs1.toNat k
    let b := fun (k : Nat) => if sc then x.sreg vs2.toNat else x.vlane vs2.toNat k
    lands (.vcmpeq u vd vs1 vs2 pd sc) (fun k => decide (a k = b k)) ∧
    lands (.vcmpne u vd vs1 vs2 pd sc) (fun k => decide (a k ≠ b k)) ∧
    lands (.vcmplt u vd vs1 vs2 pd sc) (fun k => decide ((a k).toInt < (b k).toInt)) ∧
    lands (.vcmple u vd vs1 vs2 pd sc) (fun k => decide ((a k).toInt ≤ (b k).toInt)) ∧
    lands (.vcmpltu u vd vs1 vs2 pd sc) (fun k => decide ((a k).toNat < (b k).toNat)) ∧
    lands (.vcmpleu u vd vs1 vs2 pd sc) (fun k => decide ((a k).toNat ≤ (b k).toNat)) ∧
    lands (.vfcmpeq u vd vs1 vs2 pd sc) (fun k => (f32 (a k)).eqv (f32 (b k))) ∧
    lands (.vfcmplt u vd vs1 vs2 pd sc) (fun k => (f32 (a k)).below (f32 (b k))) ∧
    lands (.vfcmple u vd vs1 vs2 pd sc) (fun k => (f32 (a k)).below (f32 (b k)) || (f32 (a k)).eqv (f32 (b k))) ∧
    lands (.vfcmpun u vd vs1 vs2 pd sc) (fun k => (f32 (a k)).isNan || (f32 (b k)).isNan) ∧
    lands (.pset u vd vs1 vs2 pd) (fun k =>
      if k < 32 then (x.sreg vs1.toNat).getLsbD k else (x.sreg vs2.toNat).getLsbD (k - 32)) ∧
    (vs1.toNat < 8 → vs2.toNat < 8 →
      let p := fun (r : BitVec 5) (k : Nat) => (x.preg r.toNat).getLsbD k
      lands (.pand u vd vs1 vs2 pd) (fun k => p vs1 k && p vs2 k) ∧ lands (.por u vd vs1 vs2 pd) (fun k => p vs1 k || p vs2 k) ∧
      lands (.pxor u vd vs1 vs2 pd) (fun k => p vs1 k != p vs2 k) ∧
        lands (.pandn u vd vs1 vs2 pd) (fun k => p vs1 k && !p vs2 k))

/-- R371-R373: permute, rotate, broadcast, insert, move and the accumulator rows complete lane by lane under the predicate;
PGET, VEXT and VRED of integers write a scalar register.
Commands shown to complete: vperm, vrot, vred, pget, vbcast, vext, vins, accrd, accwr, vmov. -/
def Obligations.LaneMovesAndExtracts : Prop :=
  ∀ (s : State) (u : BitVec 7) (vd vs1 vs2 : BitVec 5) (pd : BitVec 3), coreOf u ≠ isleCore →
    s.canIssue (coreOf u) false = true → (s.tile (coreOf u)).units = [] →
    let c := coreOf u
    let x := s.tile c
    let on := fun (k : Nat) => (x.preg pd.toNat).getLsbD k
    let picked := (List.range 64).filter on
    let lanes := fun (i : Instr) (f : Nat → Word) => Gives i s fun t => OnlyCore s t c ∧
      OnlyLanes x (t.tile c) vd.toNat ⟨unitV, [], [], [rV vd.toNat], none⟩ ∧
      ∀ k, k < 64 → (t.tile c).vlane vd.toNat k = if on k then f k else x.vlane vd.toNat k
    let scalar := fun (i : Instr) (w : Word) => Gives i s fun t => OnlyCore s t c ∧
      OnlyScalar x (t.tile c) vd.toNat ⟨unitV, [], [], [rS vd.toNat], none⟩ ∧
      (t.tile c).sreg vd.toNat = if vd = 0 then 0 else w
    lanes (.vperm u vd vs1 vs2 pd) (fun k => x.vlane vs1.toNat ((x.vlane vs2.toNat k).toNat % 64)) ∧
    lanes (.vrot u vd vs1 vs2 pd) (fun k => x.vlane vs1.toNat ((k + (x.sreg vs2.toNat).toNat) % 64)) ∧
    lanes (.vbcast u vd vs1 0 pd) (fun _ => x.sreg vs1.toNat) ∧ lanes (.vmov u vd vs1 0 pd) (fun k => x.vlane vs1.toNat k) ∧
    lanes (.vins u vd vs1 vs2 pd) (fun k =>
      if k = (x.sreg vs2.toNat).toNat % 64 then x.sreg vs1.toNat else x.vlane vd.toNat k) ∧
    (vs2.toNat < 8 → lanes (.accrd u vd vs1 vs2 pd) (fun k => x.accEl vs2.toNat ((x.sreg vs1.toNat).toNat % 64) k) ∧
      Gives (.accwr u vd vs1 vs2 pd) s fun t => OnlyCore s t c ∧ (t.tile c).accFp = x.accFp ∧ (t.tile c).v = x.v ∧
        ∀ j r k, r < 64 → k < 64 → (t.tile c).accEl j r k =
          if j = vs2.toNat ∧ r = (x.sreg vs1.toNat).toNat % 64 ∧ on k = true then x.vlane vd.toNat k else x.accEl j r k) ∧
    scalar (.vext u vd vs1 vs2 0) (x.vlane vs1.toNat ((x.sreg vs2.toNat).toNat % 64)) ∧
    (vs1.toNat < 8 → scalar (.pget u vd vs1 0 0) ((x.preg vs1.toNat).extractLsb' 0 32) ∧
      scalar (.pget u vd vs1 1 0) ((x.preg vs1.toNat).extractLsb' 32 32)) ∧
    scalar (.vred u vd vs1 0 pd) ((picked.map fun k => x.vlane vs1.toNat k).foldl (· + ·) 0)

/-- R373, R374, R288, R289: vector loads and stores at addresses that every selected lane may use complete.  A load fills each selected
lane from its own address, over any ECC error that the store corrects, widened as the table says; a store writes the low bytes of each selected lane, and every byte
outside the selected lanes' places reads as before.
Commands shown to complete: vld, vst, vlds, vsts, vld8, vldu8, vld16, vldh, vldbf, vst8, vst16. -/
def Obligations.VectorLoadsAndStores : Prop :=
  ∀ (s : State) (u : BitVec 7) (vd vs1 vs2 : BitVec 5) (pd : BitVec 3) (hits : List TileHit), coreOf u ≠ isleCore →
    s.canIssue (coreOf u) false = true → (s.tile (coreOf u)).units = [] →
    let c := coreOf u
    let x := s.tile c
    let on := fun (k : Nat) => (x.preg pd.toNat).getLsbD k
    let at_ := fun (strided : Bool) (n k : Nat) =>
      ((x.sreg vs1.toNat).toNat : Int) + k * (if strided then (x.sreg vs2.toNat).toInt else n)
    let fits := fun (strided : Bool) (n : Nat) => (x.sreg vs1.toNat).toNat % n = 0 ∧
      (strided = true → (x.sreg vs2.toNat).toInt % n = 0) ∧
      ∀ k, k < 64 → on k = true → 0 ≤ at_ strided n k ∧ at_ strided n k + n ≤ 2 ^ 20
    let written := fun (strided : Bool) (n : Nat) => ∀ k, k < 64 → on k = true →
      x.unwrittenIn [((at_ strided n k).toNat, n)] = []
    let mild := fun (strided : Bool) (n : Nat) => ∀ k, k < 64 → on k = true → eccMild [((at_ strided n k).toNat, n)] hits = true
    let loads := fun (i : Instr) (strided : Bool) (n : Nat) (widen : Nat → Word) =>
      fits strided n → written strided n → mild strided n → Gives i s fun t => (hits = [] → OnlyCore s t c) ∧
        (t.tile c).store = x.store ∧ (t.tile c).s = x.s ∧
        ∀ k, k < 64 → (t.tile c).vlane vd.toNat k =
          if on k then widen (x.rdLe (at_ strided n k).toNat n) else x.vlane vd.toNat k
    let stores := fun (i : Instr) (strided : Bool) (n : Nat) =>
      fits strided n → Memory.wf x.store = true → mild strided n → Gives i s fun t => (hits = [] → OnlyCore s t c) ∧
        (t.tile c).v = x.v ∧ (t.tile c).s = x.s ∧
        (∀ b : Nat, (∀ k, k < 64 → on k = true → ¬(at_ strided n k ≤ b ∧ b < at_ strided n k + n)) →
          (t.tile c).rd b = x.rd b) ∧
        (strided = false → ∀ k j, k < 64 → on k = true → j < n →
          (t.tile c).rd ((at_ strided n k).toNat + j) = BitVec.ofNat 8 ((x.vlane vd.toNat k).toNat / 256 ^ j))
    loads (.vld u vd vs1 vs2 pd hits) false 4 (fun v => BitVec.ofNat 32 v) ∧
    loads (.vlds u vd vs1 vs2 pd hits) true 4 (fun v => BitVec.ofNat 32 v) ∧
    loads (.vld8 u vd vs1 vs2 pd hits) false 1 (fun v => (BitVec.ofNat 8 v).signExtend 32) ∧
    loads (.vldu8 u vd vs1 vs2 pd hits) false 1 (fun v => BitVec.ofNat 32 v) ∧
    loads (.vld16 u vd vs1 vs2 pd hits) false 2 (fun v => (BitVec.ofNat 16 v).signExtend 32) ∧
    loads (.vldh u vd vs1 vs2 pd hits) false 2 (fun v => toF32 (Fmt.fp16.val v)) ∧
    loads (.vldbf u vd vs1 vs2 pd hits) false 2 (fun v => toF32 (Fmt.bf16.val v)) ∧
    stores (.vst u vd vs1 vs2 pd hits) false 4 ∧ stores (.vsts u vd vs1 vs2 pd hits) true 4 ∧
    stores (.vst8 u vd vs1 vs2 pd hits) false 1 ∧ stores (.vst16 u vd vs1 vs2 pd hits) false 2

/-- R373-R375, R285, R288: RTLD fills the 64 entries of a group of the rescale table from 512 written bytes of the tile store, over any ECC error
that the store corrects, and RTST
stores them; the other entries and every byte outside the 512 stay.
Commands shown to complete: rtld, rtst. -/
def Obligations.RescaleTableMoves : Prop :=
  ∀ (s : State) (u : BitVec 7) (vs1 vs2 : BitVec 5) (hits : List TileHit), coreOf u ≠ isleCore →
    s.canIssue (coreOf u) false = true → (s.tile (coreOf u)).units = [] →
    let c := coreOf u
    let x := s.tile c
    let a := (x.sreg vs1.toNat).toNat
    let g := (x.sreg vs2.toNat).toNat % 16
    let entry := fun (y : Tile) (j : Nat) => Tab.get (0 : DWord) y.rescale j
    a % 64 = 0 → a + 512 ≤ 2 ^ 20 →
    (x.unwrittenIn [(a, 512)] = [] → eccMild [(a, 512)] hits = true → Gives (.rtld u 0 vs1 vs2 0 hits) s fun t =>
      (hits = [] → OnlyCore s t c) ∧
      (t.tile c).store = x.store ∧ (∀ j, j < 64 → entry (t.tile c) (64 * g + j) = BitVec.ofNat 64 (x.rdLe (a + 8 * j) 8)) ∧
      ∀ j, ¬(64 * g ≤ j ∧ j < 64 * g + 64) → entry (t.tile c) j = entry x j) ∧
    (Memory.wf x.store = true → Gives (.rtst u 0 vs1 vs2 0) s fun t => OnlyCore s t c ∧
      (t.tile c).rescale = x.rescale ∧ (∀ b, ¬(a ≤ b ∧ b < a + 512) → (t.tile c).rd b = x.rd b) ∧
      ∀ j k, j < 64 → k < 8 → (t.tile c).rd (a + 8 * j + k) = BitVec.ofNat 8 ((entry x (64 * g + j)).toNat / 256 ^ k))

/-- R40, R60-R67, R76, R94: the steps of a power domain.  A good rail within 20,000 t makes the domain wait for its ramp; the
grant starts the one ramp that waits, and none under the SPILL_N clamp; a good voltage after the ramp time leads to CLOCK_WAIT,
the lock within its limit to the scrub, to PD10's training or to the end of the steps, and the release of isolation to OPEN; a
failed or overlong step waits 100,000 t for a further attempt; an idle CLOSING cluster whose NI holds no packet closes.
Commands shown to complete: rampGrant, railWait, ramping, clockWait, scrub, domainOpen, stepTimeout, retryWait, domainClose. -/
def Obligations.DomainSteps : Prop :=
  ∀ (s : State) (dom : BitVec 5),
    let d := dom.toNat
    let x := s.dom d
    let others := fun (t : State) => ∀ e, e ≠ d → t.dom e = s.dom e
    let again := fun (t : State) => (t.dom d).st = .retryWait ∧ (t.dom d).attempt = x.attempt + 1 ∧
      t.conc.nextId = s.conc.nextId + 1 ∧ others t
    (∀ rise, x.st = .railWait → x.ramp = .none → s.inLimit d 20000 = true →
      Gives (.railWait dom rise) s fun t => t.dom d = { x with ramp := .pending } ∧ others t) ∧
    (s.power.clamp = true → Gives .rampGrant s (· = s)) ∧
    (s.power.clamp = false → 0 < d → d < 28 → x.st = .railWait → x.ramp = .pending →
      (∀ e, e ≠ d → (s.dom e).ramp = .none) → (12 ≤ d → ∀ g, s.flight.lastClRamp = some g → g + 300 ≤ s.gtc) →
      Gives .rampGrant s fun t => t.dom d = { x with st := .ramping, ramp := .active, since := s.gtc } ∧ others t ∧
        (12 ≤ d → t.flight.lastClRamp = some s.gtc)) ∧
    (x.st = .ramping → rampTime d ≤ s.elapsed d → s.inLimit d (rampTime d + 50) = true → s.stopWaits d = false →
      d ∉ s.flight.todo →
      Gives (.ramping dom true) s fun t => t.dom d = { x with st := .clockWait, ramp := .none, since := s.gtc }) ∧
    (x.st = .ramping → s.late d (rampTime d + 50) = true → s.stopWaits d = false → x.attempt < 2 →
      Gives (.ramping dom false) s again ∧ Gives (.stepTimeout dom) s again) ∧
    (x.st = .clockWait → x.ready = false → s.inLimit d (s.clockLimit d) = true →
      (d < 12 → d ≠ 6 → d ≠ 7 → d ≠ 10 →
        Gives (.clockWait dom .locked) s fun t => t.dom d = { x with ready := true, trainDue := false } ∧ others t) ∧
      (d = 6 ∨ d = 7 ∨ 12 ≤ d →
        Gives (.clockWait dom .locked) s fun t => t.dom d = { x with st := .scrub, since := s.gtc } ∧ others t) ∧
      (d = 10 → s.memReopening = none →
        (x.trainDue = false → Gives (.clockWait dom .locked) s fun t =>
          t.dom d = { x with trainDue := true, since := s.gtc } ∧ others t) ∧
        (x.trainDue = true → Gives (.clockWait dom .trained) s fun t =>
          t.dom d = { x with ready := true, trainDue := false } ∧ others t))) ∧
    (x.st = .scrub → x.ready = false → 12 ≤ d → ∀ l, Gives (.scrub dom (.clean l)) s fun t =>
      t.dom d = { x with ready := true } ∧ others t ∧
        ∀ k, k < 4 → (t.tile (4 * (d - 12) + k)).store = [] ∧ (t.tile (4 * (d - 12) + k)).written = []) ∧
    (x.st = .scrub → x.ready = false → x.attempt < 2 → ∀ l, Gives (.scrub dom (.uncorrectable l)) s fun t =>
      (t.dom d).st = .retryWait ∧ (t.dom d).attempt = x.attempt + 1 ∧ others t) ∧
    (x.st = .clockWait ∨ x.st = .scrub → x.ready = true → s.reopening d = none → d ∉ s.flight.todo →
      Gives (.domainOpen dom) s fun t =>
        t.dom d = { x with st := .opened, ready := false, attempt := 0, since := s.gtc }) ∧
    (s.memReopening = none → x.st = .railWait → x.ramp = .none → x.attempt < 2 → s.late d 20000 = true →
      Gives (.stepTimeout dom) s again) ∧
    (x.st = .retryWait → s.memReopening = none → 100000 ≤ s.elapsed d →
      Gives (.retryWait dom) s fun t => (t.dom d).st = .railWait ∧ (t.dom d).attempt = x.attempt ∧ others t) ∧
    (x.st = .closing → 12 ≤ d → s.clusterIdle (d - 12) = true → s.flight.entryStep ≠ 3 →
      (∀ h ∈ s.mesh.waiting, h.src.toNat ≠ clStop (d - 12)) → (∀ h ∈ s.mesh.arrived, h.dst.toNat ≠ clStop (d - 12)) →
      s.stop = none → d - 12 ∉ s.power.condemned →
      Gives (.domainClose dom) s fun t => t.dom d = Dom.reset ∧ others t)

/-- R90-R94, R73, R741: resets.  Power-on leaves every register at its reset value and PD0 alone open; RESET_N low and WARM
switch every other domain off; RESET_N's rise and WARM start a flight, whose reference PLL locks or fails it; a cluster reset
begins to close an open cluster whose gate is free, and its drain ends at the limit of 100,000 t; the loss of the reference
outside watch standby fails the engine; the loss of VDD_SOC loses what it fed.
Commands shown to complete: coldReset, resetNAssert, resetNRise, referencePllLock, refLost, warm, cluster,
clusterDrainTimeout, vddSocRemoval. -/
def Obligations.ResetCommands : Prop :=
  ∀ (s : State) (src : Source) (value : BitVec 32) (cl : BitVec 4),
    let c := cl.toNat
    let off := fun (t : State) => ∀ d, 0 < d → d < 28 → (t.dom d).st = .closed ∨ (t.dom d).st = .disabled
    let flies := fun (t : State) (kind : Nat) => t.flight.running = true ∧ t.get Reg.PWR_FLIGHT_STATUS_KIND = kind ∧
      t.get Reg.PWR_RESET_STATUS_BUSY = 0
    (Gives .coldReset s fun t => t.regs = [] ∧ t.gtc = 0 ∧ t.onRc = true ∧ t.flight.running = false ∧
      (t.dom 0).st = .opened ∧ off t ∧ t.fuses = s.fuses ∧ t.mem = s.mem ∧ t.tiles = [] ∧ t.sealKeys = []) ∧
    (Gives .resetNAssert s fun t => t.pins.resetN = false ∧ t.pins.wakeOut = false ∧ t.flight.running = false ∧ off t ∧
      t.get Reg.PWR_RESET_STATUS_LAST_SOURCE = 1 ∧ t.get Reg.PWR_RESET_STATUS_LAST_KIND = 1 ∧
      t.get Reg.PWR_RESET_STATUS_BUSY = 1 ∧ t.mem = s.mem) ∧
    (s.pins.resetN = false → Gives .resetNRise s fun t => t.pins.resetN = true ∧
      flies t (if s.flight.coldNext then 0 else 1)) ∧
    (s.srcReaches src = true → resetCmdIs value 1 = true → s.pins.resetN = true →
      Gives (.warm src value) s fun t => flies t 1 ∧ t.get Reg.PWR_RESET_STATUS_LAST_SOURCE = sourceCode src ∧
        t.get Reg.PWR_RESET_STATUS_LAST_KIND = 1) ∧
    (s.flight.running = true → s.get Reg.PWR_FLIGHT_STATUS_PHASE = 0 →
      (Gives (.referencePllLock .locked) s fun t => t.onRc = false ∧ t.get Reg.PWR_FLIGHT_STATUS_REF_RC = 0 ∧
        t.get Reg.PWR_FLIGHT_STATUS_PHASE = 1 ∧ t.flight = { s.flight with fuseAt := s.gtc } ∧ t.doms = s.doms) ∧
      (s.alarmed = false → Gives (.referencePllLock .failed) s fun t => t.onRc = true ∧
        t.get Reg.PWR_FLIGHT_STATUS_REF_RC = 1 ∧
        t.eng = engFailed ∧ t.flight.running = false ∧ t.conc.nextId = s.conc.nextId + 3)) ∧
    (s.onRc = false → s.eng = engStandby → Gives .refLost s fun t => t.onRc = true ∧ t.eng = engStandby ∧
      t.doms = s.doms ∧ t.conc.nextId = s.conc.nextId + 1) ∧
    (s.onRc = false → s.eng ≠ engStandby →
      (∀ d, 0 < d → d < 28 → (s.gateOf d).at_ ≠ some s.gtc) → Gives .refLost s fun t => t.eng = engFailed ∧
        t.get Reg.PWR_FLIGHT_STATUS_PHASE = 6 ∧
        t.flight.running = false ∧ ∀ d, 0 < d → d < 28 → d ≠ 1 → d ≠ 5 → (t.dom d).st ≠ .opened) ∧
    (s.srcReaches src = true → resetCmdIs value 2 = true → resetTarget value = c →
      s.get Reg.PWR_RESET_STATUS_BUSY = 0 → s.stop = none → s.flight.running = false → s.isReady = true →
      s.clEnabled c = true → s.domOpen (clDom c) = true → (s.gateOf (clDom c)).at_ ≠ some s.gtc →
      Gives (.cluster src value) s fun t => (t.dom (clDom c)).st = .closing ∧ t.get Reg.PWR_RESET_STATUS_BUSY = 1 ∧
        t.get Reg.PWR_RESET_STATUS_LAST_KIND = 2 ∧ t.stop = some ⟨1, c, false, true, s.byFailure 1 c, s.gtc, false⟩) ∧
    ((s.dom (clDom c)).st = .closing → s.stopWaits (clDom c) = true → 100000 ≤ s.elapsed (clDom c) →
      Gives (.clusterDrainTimeout cl) s fun t => (t.dom (clDom c)).st ≠ .closing) ∧
    ((∀ d ∈ flightOrder, d ≠ 9 → s.domLive d = false) → s.eng ≠ engStandby →
      Gives .vddSocRemoval s fun t => t.flight.coldNext = false ∧ t.flight.deriveNext = true ∧ t.keeper.keys = false ∧
        t.sealKeys = [] ∧ t.ctxs = [] ∧ t.queues = [] ∧ t.mem = s.mem ∧ ∀ d, t.dom d = s.dom d)

/-- R74-R79, R630-R632: the Keeper's part of a flight.  Its tests pass and the keys are derived; no bundle within 10 s
fails the flight; the bundle's images are listed, authenticated and loaded, and a bad signature of DSPM fails the flight;
while PD3's gate is free; with every domain settled and both images loaded the engine is READY, or DEGRADED with a unit in stoppage by failure.
Commands shown to complete: keeperSelfTest, bundleTimeout, bundleFetch, imageAuthenticate, flightReady. -/
def Obligations.KeeperFlight : Prop :=
  ∀ (s : State), s.flight.running = true → s.domLive 2 = true →
    let f := s.flight
    (f.katDone = false → Gives (.keeperSelfTest none) s fun t => t.flight.katDone = true ∧ t.flight.otpDone = true ∧
      (f.otpDone = false → t.keeper.keys = true) ∧ (f.otpDone = true → t.keeper = s.keeper)) ∧
    (f.katDone = false → s.eng = engFlight → ∀ k, Gives (.keeperSelfTest (some k)) s fun t =>
      t.eng = engAlarmed ∧ t.keeper.keys = false ∧ t.sealKeys = [] ∧ t.flight.running = false) ∧
    (f.katDone = true → f.otpDone = true → f.bundle = none → s.alarmed = false → f.waitAt + 1000000000 ≤ s.gtc →
      Gives .bundleTimeout s fun t =>
      t.eng = engFailed ∧ t.flight.running = false ∧ t.conc.nextId = s.conc.nextId + 1) ∧
    (∀ pa cid total bs l, f.katDone = true → f.otpDone = true → f.bundleFetched = false → s.domOpen 10 = true →
      f.bundle = some (pa, cid, total) → s.ownRead cid pa 256 = some bs → parseBundle (leNat bs) total = some l →
      (∃ e ∈ l, e.1 = 1) → (∃ e ∈ l, e.1 = 2) → s.yard = false →
      Gives .bundleFetch s fun t => { t with flight := f } = s ∧ t.flight.bundleFetched = true ∧ t.flight.images = l) ∧
    (∀ pa cid total svn off len bs, f.bundle = some (pa, cid, total) →
      f.images.find? (fun e => e.1 == 2) = some (2, svn, off, len) → len ≤ 2 ^ 18 →
      s.ownRead cid (pa + off) len = some bs → Tab.get 0 s.fuses.svn 2 ≤ svn →
      ((s.gateOf 3).at_ ≠ some s.gtc → Gives (.imageAuthenticate .dspm true) s fun t => t.flight.dspmLoaded = true ∧
        t.keeper.dspm = bs ∧
        (∀ e ∈ t.flight.images, e.1 ≠ 2)) ∧
      (s.alarmed = false → Gives (.imageAuthenticate .dspm false) s fun t => t.eng = engFailed ∧ t.flight.running = false ∧
        t.conc.nextId = s.conc.nextId + 1)) ∧
    (s.get Reg.PWR_FLIGHT_STATUS_KIND < 2 → s.eng ≠ engAlarmed → s.settled = true → f.kfwLoaded = true →
      f.dspmLoaded = true → f.images = [] → Gives .flightReady s fun t => t.disp.on = true ∧ t.flight.running = false ∧
        t.get Reg.PWR_FLIGHT_STATUS_PHASE = 5 ∧ t.get Reg.PWR_READY_STAMP_READY_T = s.gtc % 2 ^ 64 ∧
        t.eng = if s.get Reg.PWR_SERVICE_BY_FAILURE = 0 then engReady else engDegraded)

/-- R81-R89, R98, R633: watch standby.  STANDBY_REQ on the N7 in READY with a valid save region and no operation under way starts the
entry and stops the dispatcher; it is refused with its cause on Yard, without a save region, outside READY and during an
operation.  Idle tiles let the clusters begin to close, tiles still busy after 100,000 t abandon the entry; with the clusters
shut the units save into the region and nowhere else; with the save complete the images' digests are kept; the wrap takes the keys
into the retention store and closes the domains.  MGMT and host wakes start a resume flight, and a host write during the save
abandons the entry.  A resume flight unwraps the keys, checks the images and restores the state.
Commands shown to complete: standbyReq, standbyDrain, standbyClustersClosed, standbySaveDone, keyStoreWrap,
strayDoorbellWrite, wake, keyStoreUnwrap, dspmDigestCheck, stateRestore. -/
def Obligations.WatchStandby : Prop :=
  ∀ (s : State) (src : Source) (value : BitVec 32),
    let f := s.flight
    let cause := fun (t : State) => t.get Reg.PWR_FLIGHT_CTRL_REFUSE_CAUSE
    let resumes := fun (t : State) (cause : Nat) => t.flight.running = true ∧ t.get Reg.PWR_FLIGHT_STATUS_KIND = 2 ∧
      t.eng = engFlight ∧ t.pins.wakeOut = true ∧ t.get Reg.WAT_WAKE_INFO_CAUSE = cause ∧
      t.get Reg.WAT_WAKE_STAMP_STAMP = s.gtc % 2 ^ 64
    let refused := fun (t : State) (c : Nat) => t.get Reg.PWR_FLIGHT_CTRL_STANDBY_REFUSED = 1 ∧ cause t = c ∧
      t.flight = f ∧ t.disp = s.disp
    let abandoned := fun (t : State) (c : Nat) => t.flight = { f with entryStep := 0 } ∧ t.disp.on = true ∧ cause t = c ∧
      t.get Reg.PWR_FLIGHT_CTRL_STANDBY_REFUSED = 1 ∧ t.get Reg.PWR_FLIGHT_CTRL_STANDBY_REQ = 0
    let saved := fun (t : State) (n : Nat) => t.queues = s.queues ∧ t.ctxs = s.ctxs ∧ t.tiles = s.tiles ∧ t.doms = s.doms ∧
      ∀ a : Nat, ¬(s.saveAt 0 ≤ a ∧ a < s.saveAt 0 + n) → t.mem.byte a = s.mem.byte a
    (s.srcReaches src = true → value.getLsbD 1 = true → s.get Reg.PWR_FLIGHT_CTRL_STANDBY_REQ = 0 →
      (s.yard = true → Gives (.standbyReq src value) s fun t => refused t 1) ∧
      (s.yard = false → s.get Reg.PWR_STANDBY_SAVE_VALID = 0 → Gives (.standbyReq src value) s fun t => refused t 2) ∧
      (s.yard = false → s.get Reg.PWR_STANDBY_SAVE_VALID = 1 →
        (s.isReady = false → Gives (.standbyReq src value) s fun t => refused t 5) ∧
        (s.isReady = true →
          s.get Reg.PWR_RESET_STATUS_BUSY = 1 ∨ s.get Reg.PWR_STOP_STATUS_BUSY = 1 ∨ s.get Reg.MSH_EPOCH_STATE ≠ 0 →
          Gives (.standbyReq src value) s fun t => refused t 6) ∧
        (s.isReady = true → s.get Reg.PWR_RESET_STATUS_BUSY = 0 → s.get Reg.PWR_STOP_STATUS_BUSY = 0 →
          s.get Reg.MSH_EPOCH_STATE = 0 →
          Gives (.standbyReq src value) s fun t => t.flight = { f with entryStep := 1, entryAt := s.gtc } ∧
            t.disp.on = false ∧ t.get Reg.PWR_FLIGHT_CTRL_STANDBY_REQ = 1 ∧ cause t = 0 ∧
            t.get Reg.PWR_FLIGHT_CTRL_RESUME_CL = value.toNat / 2 ^ 16))) ∧
    (f.entryStep = 1 → (∀ c, c < 16 → s.clusterIdle c = true) → Gives .standbyDrain s fun t =>
      t.flight = { f with entryStep := 3 } ∧ ∀ c, c < 16 → (s.gateOf (clDom c)).at_ ≠ some s.gtc →
        (t.dom (clDom c)).st = if (s.dom (clDom c)).st = .opened then .closing else (s.dom (clDom c)).st) ∧
    (f.entryStep = 1 → (∃ c ∈ List.range 16, s.clusterIdle c = false) →
      (f.entryAt + 100000 ≤ s.gtc → Gives .standbyDrain s fun t => abandoned t 3 ∧ t.doms = s.doms) ∧
      (s.gtc < f.entryAt + 100000 → Gives .standbyDrain s (· = s))) ∧
    (f.entryStep = 3 → s.clustersShut = true → Gives .standbyClustersClosed s fun t =>
      t.flight = { f with entryStep := 4 } ∧ saved t 0x231000) ∧
    (f.entryStep = 3 → s.clustersShut = false → Gives .standbyClustersClosed s fun t => t.flight = f ∧
      ∀ c, c < 16 → (s.gateOf (clDom c)).at_ ≠ some s.gtc →
        (t.dom (clDom c)).st = if (s.dom (clDom c)).st = .opened then .closing else (s.dom (clDom c)).st) ∧
    (f.entryStep = 4 → s.keeper.kfw.length ≤ 2 ^ 18 → s.keeper.dspm.length ≤ 2 ^ 18 → Gives .standbySaveDone s fun t =>
      t.flight = { f with entryStep := 5 } ∧
      t.keeper = { s.keeper with digests := (digestOf s.keeper.kfw, digestOf s.keeper.dspm) } ∧ saved t 0x380000) ∧
    (f.entryStep = 5 → f.wakeDue = false → Gives .keyStoreWrap s fun t => t.eng = engStandby ∧
      t.get Reg.PWR_FLIGHT_STATUS_PHASE = 7 ∧ t.get Reg.PWR_FLIGHT_CTRL_STANDBY_REQ = 0 ∧ t.keeper.keys = false ∧
      t.keeper.wrapped = true ∧ t.keeper.wrappedSeal = s.sealKeys ∧ t.sealKeys = [] ∧ t.flight.entryStep = 0 ∧
      ∀ d ∈ standbyOrder, d ≠ 11 → (t.dom d).st = .closed ∨ (t.dom d).st = .stoppage ∨ (t.dom d).st = .disabled) ∧
    (s.srcReaches src = true → value.getLsbD 0 = true → s.eng = engStandby →
      Gives (.wake src value) s fun t => resumes t wMgmt) ∧
    (s.eng = engStandby → Gives .strayDoorbellWrite s fun t => resumes t wHost ∧
      t.get Reg.PWR_FLIGHT_CTRL_STRAY = min (s.get Reg.PWR_FLIGHT_CTRL_STRAY + 1) 255) ∧
    (s.eng ≠ engStandby → f.entryStep = 4 → Gives .strayDoorbellWrite s fun t => abandoned t 4) ∧
    (s.domLive 2 = true → f.running = true → s.get Reg.PWR_FLIGHT_STATUS_KIND = 2 → f.unwrapped = false →
      Gives (.keyStoreUnwrap true) s fun t => t.flight.unwrapped = true ∧ t.keeper.wrapped = false ∧
        (s.keeper.wrapped = true → t.keeper.keys = true ∧ t.sealKeys = s.keeper.wrappedSeal)) ∧
    (∀ k d, s.domLive 2 = true → f.running = true → f.unwrapped = true → f.dspmChecked = false →
      s.domOpen 10 = true → s.domOpen 3 = true →
      s.ownRead s.driverCid (s.saveAt 0x300000) s.keeper.kfw.length = some k →
      s.ownRead s.driverCid (s.saveAt 0x340000) s.keeper.dspm.length = some d →
      digestOf k = s.keeper.digests.1 → digestOf d = s.keeper.digests.2 →
      Gives .dspmDigestCheck s fun t => t.flight.dspmChecked = true ∧ t.keeper.kfw = k ∧ t.keeper.dspm = d ∧
        t.get Reg.KPR_STATE_STATE = 1) ∧
    (s.domLive 1 = true → f.running = true → s.get Reg.PWR_FLIGHT_STATUS_KIND = 2 → f.unwrapped = true →
      f.dspmChecked = true → s.settled = true → Gives .stateRestore s fun t => t.disp.on = true ∧
        t.flight.running = false ∧ t.isReady = true ∧ t.get Reg.PWR_FLIGHT_STATUS_PHASE = 5 ∧
        t.island.resumeReq = none ∧ ∀ r, s.island.resumeReq = some r → t.island.handoffs.getLast? = some r)

/-- R42-R44, R183, R675-R679, R687, R688, R694: reports, the fault log, event vectors and the trace.  A sender's oldest report takes a
free place, behind those of earlier ticks and before one of the same tick from a later stop or tile; with none, a sample report is dropped and counted and every other held.  A towpath cycle takes at most one fault report,
which enters the log under the next sequence number; the driver's read index rearms the vector; an event is written,
held by MASK or counted; the trace unit writes its oldest record at the ring's tail.
Commands shown to complete: reportArrive, concentratorPass, heldReportAccept, logReadWrite, eventVector, vecUnmask,
traceWrite. -/
def Obligations.FaultReports : Prop :=
  ∀ s : State, s.domLive 1 = true →
    let c := s.conc
    let sat := fun (t : State) (f : Fld) => t.get f = min (s.get f + 1) (f.size - 1)
    let vecWrite := fun (v addr : Nat) => (4 * addr, s.get Reg.ERR_VEC_DATA_DATA_HI * 4096 + v)
    let enters := fun (r : Report) (t : State) => (t.gtc = s.gtc ∧ t.regs = s.regs ∧ t.mem = s.mem) ∧
      (c.enteredAt ≠ s.gtc → t.conc.fifo = c.fifo ++ [r]) ∧
      ∀ key x pre, c.enteredAt = s.gtc → c.enteredKeys = [key] → c.fifo = pre ++ [x] →
        t.conc.fifo = if reportKey r < key then pre ++ [r, x] else pre ++ [x, r]
    (∀ (k : BitVec 16) (r : Report), c.sent[k.toNat]? = some r →
      (∀ x ∈ c.sent.take k.toNat, reportKey x ≠ reportKey r) → (∀ x ∈ c.held, reportKey x ≠ reportKey r) →
      s.awaitsCause r = false →
      (c.fifo.length < 64 → Gives (.reportArrive k) s fun t => enters r t ∧ t.conc.sent = c.sent.eraseIdx k.toNat ∧
        t.conc.held = c.held) ∧
      (64 ≤ c.fifo.length → r.isSample = false → Gives (.reportArrive k) s fun t =>
        t = { s with conc := { c with sent := c.sent.eraseIdx k.toNat, held := c.held ++ [r] } }) ∧
      (64 ≤ c.fifo.length → r.isSample = true → Gives (.reportArrive k) s fun t =>
        t.conc = { c with sent := c.sent.eraseIdx k.toNat } ∧ sat t Reg.ERR_CONC_SAMPLE_DROP)) ∧
    (∀ r rest, c.held = r :: rest → c.fifo.length < 64 → Gives .heldReportAccept s fun t =>
      enters r t ∧ t.conc.held = rest ∧ t.conc.sent = c.sent) ∧
    (s.flight.running = false ∨ s.get Reg.PWR_FLIGHT_STATUS_KIND ≠ 2 →
      ∀ r r2 rest, c.fifo = .fault r :: .fault r2 :: rest → Memory.wf c.log = true → Gives .concentratorPass s fun t =>
      let q := s.get Reg.ERR_LOG_SEQ_NEXT
      t.conc.fifo = .fault r2 :: rest ∧ t.get Reg.ERR_LOG_SEQ_NEXT = (q + 1) % 2 ^ 16 ∧
      t.conc.unread = min (c.unread + 1) (2 ^ 32 - 1) ∧
      t.conc.log.bytes (32 * (q % 512)) 32 = Machine.FaultRec.bytes r (s.logDetail r) q ∧
      ∀ a, ¬(32 * (q % 512) ≤ a ∧ a < 32 * (q % 512) + 32) → t.conc.log.byte a = c.log.byte a) ∧
    (s.flight.running = false ∨ s.get Reg.PWR_FLIGHT_STATUS_KIND ≠ 2 → ∀ n, c.fifo = [.demand n] →
      Gives .concentratorPass s fun t => t.conc.fifo = [] ∧ t.conc.inbox = c.inbox ++ [.demand n]) ∧
    (∀ v : BitVec 32, Gives (.logReadWrite v) s fun t =>
      let r := v.toNat % 2 ^ 16
      let next := s.get Reg.ERR_LOG_SEQ_NEXT
      t.get Reg.ERR_LOG_READ_READ = r ∧ t.get Reg.ERR_LOG_CTRL_ARMED = 1 ∧
        t.conc.unread = if newer r next 16 then 0 else (next + 2 ^ 16 - r) % 2 ^ 16) ∧
    (∀ v rest, s.domLive 5 = true → s.host.events = v :: rest →
      (s.get (Reg.ERR_VEC_ADDR v) = 0 → Gives .eventVector s fun t => t.host = { s.host with events := rest } ∧
        sat t Reg.ERR_VEC_COUNTS_VEC_NULL) ∧
      (s.get (Reg.ERR_VEC_ADDR v) ≠ 0 → s.get (Reg.ERR_VEC_MASK v) = 1 → Gives .eventVector s fun t =>
        t.host = { s.host with events := rest } ∧ t.get (Reg.ERR_VEC_PENDING v) = 1) ∧
      (s.get (Reg.ERR_VEC_ADDR v) ≠ 0 → s.get (Reg.ERR_VEC_MASK v) = 0 → Gives .eventVector s fun t =>
        t = { s with host := { s.host with
          events := rest, writes := s.host.writes ++ [vecWrite v (s.get (Reg.ERR_VEC_ADDR v))] } })) ∧
    (∀ (v : BitVec 12) (w : BitVec 64), Gives (.vecUnmask v w) s fun t =>
      t.get (Reg.ERR_VEC_ADDR v.toNat) = bits w.toNat 51 2 ∧ t.get (Reg.ERR_VEC_MASK v.toNat) = bits w.toNat 63 63 ∧
        (w.getLsbD 63 = false → s.get (Reg.ERR_VEC_PENDING v.toNat) = 1 → bits w.toNat 51 2 ≠ 0 →
          t.get (Reg.ERR_VEC_PENDING v.toNat) = 0 ∧
          t.host.writes = s.host.writes ++ [vecWrite v.toNat (bits w.toNat 51 2)])) ∧
    (∀ r rest, c.trace = r :: rest → c.traceStop = false → s.get Reg.MON_TRACE_CTRL_MODE = 0 →
      let a := s.get Reg.MON_TRACE_BASE_BASE * 2 ^ 12 + s.get Reg.MON_TRACE_TAIL_INDEX % s.traceSize * 16
      s.ownerOk s.driverCid a false = true → s.keyAbsent a = false → Gives .traceWrite s fun t =>
        t.conc = { c with trace := rest } ∧ t.get Reg.MON_TRACE_TAIL_INDEX = (s.get Reg.MON_TRACE_TAIL_INDEX + 1) % 2 ^ 32)

/-- R555-R558, R681-R686, R695: monitor slots and the GTC copies.  What a unit has gathered for an enabled slot or a context goes out every
REPORT_PERIOD and a cluster's activity when counted; a partial that arrives
adds to its slot's samples and bins; at a window's end the slot's record is entered in the capture ring and its sums clear; a
written slot holds KIND and SUBJECT and is enabled only within its kind's limit; a written ring base resets its ring.  A sync word
names the first multiple of 1,024 at least 64 t off; once the master reaches it a copy behind loads it and one ahead stops
counting, and a copy without a word for 4,096 t is stale, counted and recorded.
Commands shown to complete: gtcSyncWord, gtcCopySync, gtcCopyStale, monitorPartialSend, monitorPartialMerge,
monitorWindowCapture, slotCfgWrite, capBaseWrite, traceBaseWrite. -/
def Obligations.MonitorsAndCopies : Prop :=
  ∀ s : State, s.domLive 1 = true →
    let c := s.conc
    let sat := fun (t : State) (f : Fld) => t.get f = min (s.get f + 1) (f.size - 1)
    (∀ k : BitVec 8, s.get (Reg.MON_SLOT_CFG_EN k.toNat) = 1 → s.subjectOk k.toNat = true →
      s.domLive (s.slotDom k.toNat) = true →
      (Tab.get 0 s.mon.partAt k.toNat + s.reportPeriod ≤ s.gtc → Gives (.monitorPartialSend (.slot k)) s fun t =>
        t.conc = { c with sent := c.sent ++ [.samplePart (s.partOf k.toNat)] } ∧ t.partOf k.toNat = partFresh k.toNat ∧
          t.regs = s.regs) ∧
      (s.gtc < Tab.get 0 s.mon.partAt k.toNat + s.reportPeriod → Gives (.monitorPartialSend (.slot k)) s (· = s))) ∧
    (∀ n : BitVec 10, s.domLive 3 = true → Tab.get 0 s.mon.ctxAt n.toNat + s.reportPeriod ≤ s.gtc →
      Gives (.monitorPartialSend (.ctx n)) s fun t =>
        t.conc = { c with sent := c.sent ++ [.sampleCtx (s.ctxPart n.toNat)] } ∧ t.ctxPart n.toNat = ctxFresh n.toNat) ∧
    (∀ (n : BitVec 4) (v : BitVec 32), s.domLive (clDom n.toNat) = true →
      Gives (.monitorPartialSend (.activity n v)) s fun t =>
        t = { s with conc := { c with sent := c.sent ++ [.sampleActivity n.toNat v.toNat] } }) ∧
    (∀ p rest, c.inbox = .samplePart p :: rest → s.get Reg.MON_CTRL_FREEZE = 0 →
      s.get (Reg.MON_SLOT_CFG_EN p.slot) = 1 → 0 < p.count → Gives .monitorPartialMerge s fun t =>
        t.conc = { c with inbox := rest } ∧
        t.get (Reg.MON_SLOT_SAMPLES_N p.slot) = (s.get (Reg.MON_SLOT_SAMPLES_N p.slot) + p.count) % 2 ^ 64 ∧
        (0 < s.get (Reg.MON_SLOT_SAMPLES_N p.slot) → t.get (Reg.MON_SLOT_MIN_MIN p.slot) =
          min (min p.min (s.get (Reg.MON_SLOT_MIN_MIN p.slot))) (2 ^ 32 - 1)) ∧
        ∀ j, j < 16 → t.get (Reg.MON_SLOT_BIN_N p.slot j) =
          min (s.get (Reg.MON_SLOT_BIN_N p.slot j) + p.bins.getD j 0) (2 ^ 32 - 1)) ∧
    (∀ k : BitVec 8,
      let w := s.get (Reg.MON_SLOT_CFG_WINDOW_MS k.toNat)
      let tail := s.get Reg.MON_CAP_TAIL_INDEX
      let a := s.get Reg.MON_CAP_BASE_BASE * 2 ^ 12 + tail % s.capSize * 128
      0 < w → s.get (Reg.MON_SLOT_CFG_EN k.toNat) = 1 → s.time copyTow / (w * 100000) ≠ Tab.get 0 s.mon.window k.toNat →
      c.capStop = false →
      0 < s.capSize → (tail + 2 ^ 32 - s.get Reg.MON_CAP_HEAD_INDEX) % 2 ^ 32 ≠ s.capSize →
      s.ownerOk s.driverCid a false = true → s.keyAbsent a = false → Gives (.monitorWindowCapture k) s fun t =>
        t.get Reg.MON_CAP_TAIL_INDEX = (tail + 1) % 2 ^ 32 ∧ t.get (Reg.MON_SLOT_SAMPLES_N k.toNat) = 0 ∧
          Tab.get 0 t.mon.window k.toNat = s.time copyTow / (w * 100000) ∧
          ∀ j, j < 16 → t.get (Reg.MON_SLOT_BIN_N k.toNat j) = 0) ∧
    (∀ (k : BitVec 8) (v : BitVec 64),
      let kind := bits v.toNat 62 60
      let n := ((List.range 256).filter fun j => j != k.toNat && s.on (Reg.MON_SLOT_CFG_EN j) &&
        s.get (Reg.MON_SLOT_CFG_KIND j) == kind).length
      Gives (.slotCfgWrite k v) s fun t => t.get (Reg.MON_SLOT_CFG_KIND k.toNat) = kind ∧
        t.get (Reg.MON_SLOT_CFG_SUBJECT k.toNat) = bits v.toNat 15 0 ∧ t.get (Reg.MON_SLOT_SAMPLES_N k.toNat) = 0 ∧
        (n < slotLimit kind → t.get (Reg.MON_SLOT_CFG_EN k.toNat) = bits v.toNat 63 63) ∧
        (slotLimit kind ≤ n → t.get (Reg.MON_SLOT_CFG_EN k.toNat) = 0 ∧
          (v.getLsbD 63 = true → t.get Reg.MON_STATUS_REFUSED = 1))) ∧
    (∀ v : BitVec 64,
      (Gives (.capBaseWrite v) s fun t => t.get Reg.MON_CAP_BASE_BASE = bits v.toNat 51 12 ∧
        t.get Reg.MON_CAP_BASE_SIZE_LOG2 = bits v.toNat 4 0 ∧ t.get Reg.MON_CAP_HEAD_INDEX = 0 ∧
        t.get Reg.MON_CAP_TAIL_INDEX = 0 ∧ t.conc = { c with capStop := false }) ∧
      (Gives (.traceBaseWrite v) s fun t => t.get Reg.MON_TRACE_BASE_BASE = bits v.toNat 51 12 ∧
        t.get Reg.MON_TRACE_BASE_SIZE_LOG2 = bits v.toNat 4 0 ∧ t.get Reg.MON_TRACE_HEAD_INDEX = 0 ∧
        t.get Reg.MON_TRACE_TAIL_INDEX = 0 ∧ t.get Reg.MON_STATUS_TRACE_FULL = 0 ∧
        t.conc = { c with traceStop := false })) ∧
    (s.onRc = false → Gives .gtcSyncWord s fun t =>
      t = { s with copies := { s.copies with word := some (((s.gtc + 63) / 1024 + 1) * 1024) } }) ∧
    (s.onRc = true → Gives .gtcSyncWord s fun t => t = { s with copies := { s.copies with word := some s.gtc } }) ∧
    (∀ (k : BitVec 8) (n : BitVec 64), s.domLive (copyDom k.toNat) = true → k.toNat ≠ copyMaster →
      let off := fun (t : State) => Tab.get (0 : Int) t.copies.off k.toNat
      let now := s.gtc
      (∀ w, s.copies.word = some w → w ≤ now →
        (n.toNat + 1 < now → Gives (.gtcCopySync k n) s fun t => off t = 0 ∧ k.toNat ∉ t.copies.hold ∧
          k.toNat ∉ t.copies.stale ∧ sat t (copyClass k.toNat)) ∧
        (now + 1 < n.toNat → Gives (.gtcCopySync k n) s fun t => off t = n.toNat - now ∧ k.toNat ∈ t.copies.hold ∧
          k.toNat ∉ t.copies.stale ∧ sat t (copyClass k.toNat)) ∧
        (n.toNat ≤ now + 1 → now ≤ n.toNat + 1 → Gives (.gtcCopySync k n) s fun t => off t = n.toNat - now ∧
          t.copies.hold = s.copies.hold ∧ k.toNat ∉ t.copies.stale ∧ t.conc = c)) ∧
      (k.toNat ∉ s.copies.stale → Tab.get 0 s.copies.syncAt k.toNat + 4096 ≤ now →
        (s.dom (copyDom k.toNat)).since + 4096 ≤ now →
        Gives (.gtcCopyStale k) s fun t => k.toNat ∈ t.copies.stale ∧
        t.conc.nextId = c.nextId + 1 ∧ sat t Reg.CLK_COPY_COUNTS_STALE))

/-- R114-R127: the frame sequencer and the sensor port on the N7.  A capture period that is due takes a free buffer and opens PD11,
else it is skipped; the order, sent 10 t after PD11 opened, carries what the registers hold and passes to the triggers and to the
receiver; trigger writes go out on the sensor's bus, targets take and lose addresses, and requests are refused; lines are stored at
their places; a lane shows its polarity or its fault; the frame end within the window counts and posts the frame; a failed trigger,
a stuck bus or a missed window ends the capture as an error; PD11 closes 10 t after it.
Commands shown to complete: railWait, captureStart, captureOrder, triggerWrite, i3cBusRecovery, csi2Packet, hsPolarity,
frameEnd, frameWindowExpire, pd11Close, write, entdaa. -/
def Obligations.IslandCaptures : Prop :=
  ∀ s : State, s.yard = false →
    let i := s.island
    let now := s.time copyIsland
    let sat := fun (t : State) (f : Fld) => t.get f = min (s.get f + 1) (f.size - 1)
    let failed := fun (t : State) => t.island.capture = none ∧ t.seqState = seqClosing ∧ sat t Reg.WAT_COUNTS_ERRORS ∧
      t.conc.nextId = s.conc.nextId + 1
    (∀ p0 n0 p1 n1 pc nc, s.get Reg.WAT_CTRL_RUN = 1 →
      s.get Reg.WAT_STATUS_PROG_STATE = 1 ∨ s.get Reg.WAT_STATUS_PROG_STATE = 2 → s.get Reg.WAT_STATUS_PORT_DOWN = 0 →
      i.i3cStop = false → s.inStoppage 5 0 = false → s.seqState = seqIdle →
      (s.periodOver = false → Gives (.captureStart p0 n0 p1 n1 pc nc) s (· = s)) ∧
      (s.periodOver = true → s.capturesSuspended = true ∨ s.freeBuf = none →
        Gives (.captureStart p0 n0 p1 n1 pc nc) s fun t => t.island = { i with periodAt := some now } ∧
          sat t Reg.WAT_COUNTS_SKIPPED) ∧
      (∀ b, s.periodOver = true → s.capturesSuspended = false → s.freeBuf = some b → i.linkUp = false →
        Gives (.captureStart p0 n0 p1 n1 pc nc) s fun t => t.seqState = seqOpening ∧
          t.island = { i with periodAt := some now, capture := some ⟨b, false, none, 0, none, false, false, false, false, []⟩ } ∧
          ((s.dom 11).st = .closed → (t.dom 11).st = .railWait))) ∧
    (∀ c, i.capture = some c →
      (s.seqState = seqOpening → s.domOpen 11 = true → 10 ≤ s.elapsed 11 →
        (s.frameOk = true → (s.gateOf 11).at_ ≠ some s.gtc → Gives .captureOrder s fun t =>
          t.island.capture = some { c with order := some (s.orderNow c.buf) } ∧ t.frameIn c.buf = none ∧
          c.buf ∉ t.island.ready ∧
          t.seqState = if (s.orderNow c.buf).triggers = [] then seqCapture else seqTrigger) ∧
        (s.frameOk = false → Gives .captureOrder s fun t => t.island.capture = none ∧ t.seqState = seqClosing ∧
          t.conc.nextId = s.conc.nextId + 1)) ∧
      (∀ o, c.order = some o →
        (s.seqState = seqTrigger → s.domOpen 11 = true →
          (∀ e rest, o.triggers = e :: rest →
            let goesOn := fun (l : List I3cBus) (t : State) => t.seqState = (if rest = [] then seqCapture else seqTrigger) ∧
              t.island = { i with i3cOut := i.i3cOut ++ .write e.1 e.2.1 e.2.2 :: l,
                                  capture := some { c with order := some { o with triggers := rest } } }
            (Gives (.triggerWrite .done) s (goesOn [])) ∧ (Gives (.i3cBusRecovery true) s (goesOn [.busClear]))) ∧
          (Gives (.triggerWrite .failed) s failed) ∧
          (∀ a : BitVec 7, Gives (.triggerWrite (.entdaa a)) s fun t =>
            t.island = { i with i3cOut := i.i3cOut ++ [.entdaa a.toNat], targets := entdaa i.targets a.toNat }) ∧
          (∀ h, Gives (.triggerWrite (.request h)) s fun t => t.island = { i with i3cOut := i.i3cOut ++ [.nack h] }) ∧
          (Gives (.i3cBusRecovery false) s fun t => failed t ∧ t.island.i3cStop = true)) ∧
        (s.seqState = seqCapture → c.linkUp = false →
          (∀ b fixed (vc : BitVec 2), vc.toNat = o.vc → Gives (.csi2Packet b fixed (.frameStart vc)) s fun t =>
            t.island = { i with capture := some { c with stamp := some now, line := 0, rows := [] },
                                fixedHeaders := i.fixedHeaders + if fixed then 1 else 0 } ∧ t.regs = s.regs) ∧
          (∀ b fixed, c.stamp = none → Gives (.csi2Packet b fixed .badHeader) s fun t =>
            t.island = { i with capture := some { c with header := true } } ∧ t.conc.nextId = s.conc.nextId + 1) ∧
          (∀ b (p : List (BitVec 8)) (vc : BitVec 2), c.stamp.isSome = true → c.rows = [] →
            vc.toNat = o.vc → o.dt = 0x2A → o.bin = 1 → c.line < o.height → p.length = o.width →
            Memory.wf i.sram = true → Gives (.csi2Packet b false (.line vc 0x2A true p)) s fun t =>
              t.island.capture = some { c with line := c.line + 1 } ∧
              t.island.sram.bytes (o.addr + c.line * o.width) o.width = p ∧
              ∀ a, ¬(o.addr + c.line * o.width ≤ a ∧ a < o.addr + (c.line + 1) * o.width) →
                t.island.sram.byte a = i.sram.byte a)) ∧
        (∀ (vc : BitVec 2) (n : Nat), s.seqState = seqCapture → c.stamp = some n → vc.toNat = o.vc → s.inWindow o = true →
          (s.tile isleCore).wait = none → Gives (.frameEnd vc) s fun t =>
            t.seqState = seqClosing ∧ t.island.capture = none ∧ t.island.ready = i.ready ++ [c.buf] ∧
            t.get Reg.WAT_COUNTS_FRAMES = (s.get Reg.WAT_COUNTS_FRAMES + 1) % 2 ^ 32 ∧
            ∃ f, t.frameIn c.buf = some f ∧ f.no = t.get Reg.WAT_COUNTS_FRAMES ∧ f.stamp = n ∧ f.width = o.width ∧
              f.height = o.height) ∧
        (o.at_ + s.get Reg.WAT_FRAME_WINDOW_TICKS ≤ now → Gives .frameWindowExpire s failed)) ∧
      (∀ (l : BitVec 2) (nLine : Bool), s.seqState = seqCapture → c.linkUp = true → l.toNat ≠ 3 →
        s.laneFound l.toNat % 8 = 0 →
        (Gives (.hsPolarity l .ok nLine) s fun t => t.laneFound l.toNat = if nLine then 16 else 0) ∧
        ((s.setLane l.toNat (4 + if nLine then 8 else 0)).lanesShort = false → Gives (.hsPolarity l .stuck nLine) s fun t =>
          t.laneFound l.toNat = (4 + if nLine then 8 else 0) ∧ t.island.lineFaults = i.lineFaults ++ [0x64] ∧
          l.toNat ∉ t.island.terminated))) ∧
    (s.seqState = seqClosing → i.endedAt + 10 ≤ now → (s.dom 11).st ≠ .stoppage → Gives .pd11Close s fun t =>
      t.seqState = seqIdle ∧ (t.dom 11).st = .closed)

/-- R112, R113, R129-R134, R138-R146: the island's core, wakes and handoffs on the N7.  A fetch that finds no instruction, an
uncorrectable word or an overrun budget halts the core; a wake updates WAT_WAKE_INFO, resumes from standby or raises the event;
WAKE_IN wakes once it has held its asserted level for the debounce time, and stuck or too frequent is disabled until it is enabled
again; a handoff writes its record and image and posts its vector.
Commands shown to complete: wake, watchBudgetOverrun, watchException, wakeInWake, wakeInStuck, wakeInReenable, programWake,
pendingClear, keepClear, handoffNow, arm, handoff. -/
def Obligations.IslandWakesAndHandoff : Prop :=
  ∀ (s : State) (value : BitVec 32), s.yard = false →
    let i := s.island
    let runs := s.get Reg.WAT_STATUS_PROG_STATE = 1 ∨ s.get Reg.WAT_STATUS_PROG_STATE = 2
    let halts := fun (t : State) => t.get Reg.WAT_STATUS_PROG_STATE = 3 ∧ t.conc.nextId = s.conc.nextId + 1
    let off := fun (t : State) => t.get Reg.WAT_WAKE_CTRL_STUCK = 1 ∧ t.conc.nextId = s.conc.nextId + 1
    let asserted := s.get Reg.WAT_WAKE_CTRL_POLARITY = 0
    let debounce := max 1 (s.get Reg.WAT_WAKE_CTRL_DEBOUNCE) * 1000
    (runs → ∀ n, i.releasedAt = some n → 0 < s.get Reg.WAT_PROG_BUDGET_CYCLES →
      n + s.get Reg.WAT_PROG_BUDGET_CYCLES < s.time copyIsland → Gives .watchBudgetOverrun s halts) ∧
    (runs → ∀ a, Gives (.watchException .uncorrectable a) s halts ∧
      Gives (.watchException .corrected a) s fun t => t.conc.nextId = s.conc.nextId + 1 ∧ t.tiles = s.tiles) ∧
    (s.get Reg.WAT_STATUS_PROG_STATE = 1 → ∀ a,
      (s.islandFetchBad = true → Gives (.watchException .clean a) s halts) ∧
      (s.islandFetchBad = false → Gives (.watchException .clean a) s (· = s))) ∧
    (s.get Reg.WAT_WAKE_CTRL_WAKE_IN_EN = 1 → s.get Reg.WAT_WAKE_CTRL_STUCK = 0 →
      (∀ n, s.pins.wakeEdge = some n → n + max 1 (s.get Reg.WAT_WAKE_CTRL_STUCK_S) * 100000000 ≤ s.gtc →
        Gives .wakeInStuck s fun t => off t ∧ t.pins.wakeEdge = none) ∧
      (Gives (.wakeInWake (!decide asserted)) s fun t => t.pins = { s.pins with wakeIn := false, wakeEdge := none, wakeMade := false } ∧
        t.regs = s.regs) ∧
      (s.pins.wakeIn = false → Gives (.wakeInWake (decide asserted)) s fun t =>
        t.pins = { s.pins with wakeIn := true, wakeEdge := some s.gtc, wakeMade := false } ∧ t.regs = s.regs) ∧
      (∀ n, s.pins.wakeIn = true → s.pins.wakeEdge = some n → s.pins.wakeMade = false → n + debounce ≤ s.gtc →
        (Gives (.wakeInWake (decide asserted)) s fun t => t.get Reg.WAT_WAKE_INFO_CAUSE = wWakeIn ∧
          t.get Reg.WAT_WAKE_STAMP_STAMP = s.gtc % 2 ^ 64 ∧ t.pins.wakeMade = true ∧
          (s.eng = engStandby → t.flight.running = true ∧ t.get Reg.PWR_FLIGHT_STATUS_KIND = 2)) ∧
        (16 ≤ (s.pins.wakeIns.filter fun n => s.gtc < n + 100000000).length → s.eng ≠ engStandby → s.flight.entryStep = 0 →
          Gives (.wakeInWake (decide asserted)) s off))) ∧
    (s.domLive 1 = true →
      (value.getLsbD 7 = true → Gives (.wakeInReenable value) s fun t => t.get Reg.WAT_WAKE_CTRL_STUCK = 0 ∧
        t.pins.wakeIns = [] ∧ t.get Reg.WAT_WAKE_CTRL_WAKE_IN_EN = bits value.toNat 5 5 ∧
        t.get Reg.WAT_WAKE_CTRL_DEBOUNCE = bits value.toNat 31 20) ∧
      (value.getLsbD 0 = true → Gives (.pendingClear value) s fun t => t.get Reg.WAT_WAKE_INFO_PENDING = 0 ∧
        t.pins = { s.pins with wakeOut := false }) ∧
      (value.getLsbD 6 = true → Gives (.keepClear value) s fun t => t.get Reg.WAT_STATUS_KEEP_A = 0 ∧
        (value.getLsbD 7 = false → t.get Reg.WAT_STATUS_KEEP_B = s.get Reg.WAT_STATUS_KEEP_B)) ∧
      (value.getLsbD 11 = true → s.get Reg.WAT_CTRL_HANDOFF_NOW = 0 → Gives (.handoffNow value) s fun t =>
        (∃ r, t.island.handoffs = i.handoffs ++ [r] ∧ r.now = true) ∧ t.get Reg.WAT_CTRL_HANDOFF_NOW = 1) ∧
      (value.getLsbD 8 = true → Gives (.arm value) s fun t => t.island.linkUp = true ∧ t.island.i3cStop = false ∧
        t.get Reg.WAT_CTRL_ARM = 1 ∧ t.get Reg.WAT_STATUS_PORT_DOWN = 0)) ∧
    (∀ c r rest, s.conc.inbox = .wake c r :: rest → s.heldByHeat = false → s.flight.entryStep = 0 →
      (s.isReady = true → Gives .programWake s fun t => t.conc.inbox = rest ∧ t.get Reg.WAT_WAKE_INFO_CAUSE = c % 16 ∧
        (∃ q, t.island.handoffs = i.handoffs ++ [q] ∧ q.now = false ∧ q.cause = c % 16 ∧ q.reason = r % 256) ∧
        t.host.events = s.host.events ++ [s.get Reg.WAT_CTRL_EVENT_VEC]) ∧
      (s.eng = engFlight → s.get Reg.PWR_FLIGHT_STATUS_KIND < 2 → Gives .programWake s fun t => t.conc.inbox = rest ∧
        t.host = s.host ∧ ∃ q, t.island.heldWakes = i.heldWakes ++ [q] ∧ q.cause = c % 16)) ∧
    (∀ r rest, i.handoffs = r :: rest → s.isReady = true → s.domLive 4 = true → s.domLive 10 = true →
      let cid := s.get Reg.WAT_HANDOFF_BASE_CID
      let base := s.get Reg.WAT_HANDOFF_BASE_BASE * 2 ^ 17
      (s.get Reg.WAT_HANDOFF_BASE_VALID = 0 → Gives .handoff s fun t => t.island.handoffs = rest ∧ t.mem = s.mem ∧
        t.host = s.host) ∧
      (s.get Reg.WAT_HANDOFF_BASE_VALID = 1 → s.ownerOk cid base false = true → s.keyAbsent base = false →
        s.ownerOk cid (base + 0x1000) false = true → s.keyAbsent (base + 0x1000) = false →
        Gives .handoff s fun t => t.island.handoffs = rest ∧ t.island.seq = (i.seq + 1) % 256 ∧
          t.host.events = s.host.events ++ [s.get Reg.WAT_CTRL_EVENT_VEC] ∧ t.conc = s.conc))

/-- R155-R161, R183, R184, R187, R192: contexts and berth groups.  A command while another is
busy only sets OVERRUN; otherwise CTX_OPEN installs the described context; CTX_CLOSE and
CTX_RESET begin a drain, CTX_LOSE loses the context, CTX_RELEASE frees it and its groups; a group binds to an OPEN context
and unbinds once its queues are DISABLED; OBJ_DRAIN_LIMIT ticks after the drain began the limit aborts what still runs and the drain's end writes CLOSE_VEC.
Commands shown to complete: ctxOpen, ctxClose, ctxRelease, ctxReset, ctxLose, groupBind, groupUnbind, drainLimitExpire,
drainEnd, free. -/
def Obligations.ContextCommands : Prop :=
  ∀ (s : State) (cid pid group : BitVec 16), s.domLive 3 = true →
    let c := cid.toNat % 1024
    let p := pid.toNat % 16
    let g := group.toNat % 512
    let x := s.ctx c
    let answers := fun (t : State) (r : Nat) => t.get Reg.OBJ_CMD_STATUS_RESULT = r ∧ t.get Reg.OBJ_CMD_STATUS_BUSY = 1
    let idle := s.get Reg.OBJ_CMD_STATUS_BUSY = 0
    let overrun := fun (i : Instr) => Gives i s fun t => t.get Reg.OBJ_CMD_STATUS_OVERRUN = 1 ∧ { t with regs := s.regs } = s
    let refusal := fun (i : Instr) (r : Nat) => Gives i s fun t => answers t r ∧ { t with regs := s.regs } = s
    (s.get Reg.OBJ_CMD_STATUS_BUSY = 1 → overrun (.ctxOpen cid pid false false) ∧ overrun (.ctxClose cid) ∧
      overrun (.ctxRelease cid) ∧ overrun (.ctxReset cid) ∧ overrun (.ctxLose cid) ∧ overrun (.groupBind group cid) ∧
      overrun (.groupUnbind group)) ∧
    (idle → (x.st = .free → s.quarantined p = false → s.partValid p = true →
      (min 1024 (s.get (Reg.OBJ_PART_CFG_CTX_LIMIT p)) ≤ s.ctxCount p → refusal (.ctxOpen cid pid false false) rLimit) ∧
      (s.ctxCount p < min 1024 (s.get (Reg.OBJ_PART_CFG_CTX_LIMIT p)) → ∀ y, s.readCtx p false false = (s, some y) →
        (s.vecOverlap c y = true → refusal (.ctxOpen cid pid false false) rVecOverlap) ∧
        (s.vecOverlap c y = false → Gives (.ctxOpen cid pid false false) s fun t => answers t rDone ∧
          { t with regs := s.regs, ctxs := s.ctxs } = s ∧ t.ctx c = y ∧ ∀ d, d ≠ c → t.ctx d = s.ctx d))) ∧
    (x.st ≠ .free → refusal (.ctxOpen cid pid false false) rBadState) ∧
    (x.st = .opened ∨ x.st = .drainReset ∨ x.st = .lost → Gives (.ctxClose cid) s fun t => answers t rDone ∧
      (t.ctx c).st = .drainClose) ∧
    (x.st = .free ∨ x.st = .drainClose ∨ x.st = .closed → refusal (.ctxClose cid) rBadState) ∧
    (x.st = .closed → Gives (.ctxRelease cid) s fun t => answers t rDone ∧ t.ctx c = Ctx.reset ∧
      (∀ k, Tab.get none s.groups k = some c → Tab.get none t.groups k = none) ∧ t.queues = s.queues) ∧
    (x.st ≠ .closed → refusal (.ctxRelease cid) rBadState) ∧
    (x.st = .opened → (∀ q, (s.queue q).staged = none) → Gives (.ctxReset cid) s fun t => answers t rDone ∧
      (t.ctx c).st = .drainReset) ∧
    (x.st ≠ .opened → refusal (.ctxReset cid) rBadState) ∧
    (x.st = .opened → Gives (.ctxLose cid) s fun t => answers t rDone ∧ (t.ctx c).st = .lost) ∧
    (Tab.get none s.groups g = none → x.st = .opened → Gives (.groupBind group cid) s fun t => answers t rDone ∧
      Tab.get none t.groups g = some c ∧ (∀ k, k ≠ g → Tab.get none t.groups k = Tab.get none s.groups k) ∧
      t.ctxs = s.ctxs ∧ t.queues = s.queues) ∧
    (Tab.get none s.groups g ≠ none → refusal (.groupBind group cid) rBound) ∧
    ((∀ e ∈ s.queues, e.1 / 64 = g → e.2.st = .disabled) → Gives (.groupUnbind group) s fun t => answers t rDone ∧
      Tab.get none t.groups g = none ∧ t.queues = s.queues) ∧
    ((∃ e ∈ s.queues, e.1 / 64 = g ∧ e.2.st ≠ .disabled) → refusal (.groupUnbind group) rBadState)) ∧
    (∀ q k r n, x.st = .drainClose ∨ x.st = .drainReset → s.heldQueuesOf c = [q] → (s.queue q).pkts = [k] → k.cid = c →
      x.drainAt + max 1 (s.get Reg.OBJ_DRAIN_LIMIT_TICKS) ≤ s.time copyDsp → k.runs = [r] → r.place = .onTile n →
        Gives (.drainLimitExpire cid) s fun t =>
        (t.tile n).core = .ending ∧ t.ctxs = s.ctxs) ∧
    (s.drained c = true → x.st = .drainClose → Gives (.drainEnd cid) s fun t => (t.ctx c).st = .closed ∧
      t.host.events.getLast? = some x.closeVec) ∧
    (s.drained c = true → x.st = .drainReset → Gives (.drainEnd cid) s fun t => (t.ctx c).st = .opened ∧
      t.host.events = s.host.events ++ [x.closeVec] ∧
      ∀ j, j < 4 → t.get (Reg.MON_CTX_TOTAL c j) = 0 ∧ t.get (Reg.MON_CTX_EVENTS c j) = 0)

/-- R163-R165, R179-R181, R187, R211: queues and waits.  A command while another is busy only sets
OVERRUN; otherwise QUEUE_ENABLE installs the descriptor and keeps held packets,
QUEUE_DISABLE disables, QUEUE_RESUME leaves HALTED; WAIT_HOST enters a waiter or finds its fence signalled, WAIT_POKE
evaluates the waiters of a fence, WAIT_CANCEL removes one.
Commands shown to complete: queueEnable, queueDisable, queueResume, waitHost, waitPoke, waitCancel, read. -/
def Obligations.QueueAndWaitCommands : Prop :=
  ∀ (s : State) (qid cid vec : BitVec 16), s.domLive 3 = true →
    let q := qid.toNat % 32768
    let c := cid.toNat % 1024
    let v := vec.toNat % 4096
    let fence := s.get (Reg.OBJ_CMD_ARG_ARG 0)
    let target := s.get (Reg.OBJ_CMD_ARG_ARG 1) % 2 ^ 62
    let answers := fun (t : State) (r : Nat) => t.get Reg.OBJ_CMD_STATUS_RESULT = r ∧ t.get Reg.OBJ_CMD_STATUS_BUSY = 1
    let overrun := fun (i : Instr) => Gives i s fun t => t.get Reg.OBJ_CMD_STATUS_OVERRUN = 1 ∧ { t with regs := s.regs } = s
    let refusal := fun (i : Instr) (r : Nat) => Gives i s fun t => answers t r ∧ { t with regs := s.regs } = s
    (s.get Reg.OBJ_CMD_STATUS_BUSY = 1 → overrun (.queueEnable qid false) ∧ overrun (.queueDisable qid) ∧
      overrun (.queueResume qid) ∧ overrun (.waitHost cid vec) ∧ overrun (.waitPoke cid) ∧ overrun (.waitCancel qid)) ∧
    (s.get Reg.OBJ_CMD_STATUS_BUSY = 0 → (∀ d bs x, s.queueCid q = some d → (s.ctx d).st = .opened →
      (s.queue q).st = .disabled →
      s.ownRead s.driverCid (s.qdesc q) 64 = some bs → s.parseQueue d (leNat bs) = some x →
      Gives (.queueEnable qid false) s fun t => answers t rDone ∧ { t with regs := s.regs, queues := s.queues } = s ∧
        (t.queue q).st = .active ∧ (t.queue q).head = x.head ∧ (t.queue q).tail = x.tail ∧ (t.queue q).seq = x.seq ∧
        (t.queue q).pkts = (s.queue q).pkts ∧ (t.queue q).stageSlot = (x.stage && decide (s.stageUsed < 256)) ∧
        ∀ k, k ≠ q → t.queue k = s.queue k) ∧
    (s.queueCid q = none → refusal (.queueEnable qid false) rBadState) ∧
    ((s.queue q).st = .disabled → refusal (.queueDisable qid) rDone) ∧
    ((s.queue q).st ≠ .disabled → Gives (.queueDisable qid) s fun t => answers t rDone ∧ (t.queue q).st = .disabled ∧
      (t.queue q).stageSlot = false) ∧
    ((s.queue q).st = .halted → Gives (.queueResume qid) s fun t => answers t rDone ∧
      t.queue q = { s.queue q with st := .active } ∧ ∀ k, k ≠ q → t.queue k = s.queue k) ∧
    ((s.queue q).st ≠ .halted → refusal (.queueResume qid) rBadState) ∧
    ((s.ctx c).st = .opened → fence % 16 = 0 → (s.ctx c).hasVec v = true → ∀ i pa, s.freeHostWait = some i →
      s.reach c fence .read = .ok pa →
      (s.physLe pa 8 / 2 ^ 62 = 0 → Gives (.waitHost cid vec) s fun t => answers t rDone ∧
        t.get Reg.OBJ_CMD_STATUS_RESULT_DATA = i ∧ t.waiter i = some ⟨c, c, fence, target, v, false⟩ ∧
        t.host = s.host ∧ ∀ k, k ≠ i → t.waiter k = s.waiter k) ∧
      (s.physLe pa 8 / 2 ^ 62 = 1 → target ≤ s.physLe pa 8 % 2 ^ 62 → Gives (.waitHost cid vec) s fun t =>
        answers t rDone ∧ t.waiter i = none ∧ t.host.events = s.host.events ++ [v])) ∧
    ((s.ctx c).st ≠ .opened → refusal (.waitHost cid vec) rBadState) ∧
    ((s.ctx c).st = .opened → fence % 16 ≠ 0 → refusal (.waitHost cid vec) rBadAddr) ∧
    (fence % 16 = 0 →
      let named := s.waitersWhere fun w => w.cid == c && w.fence == fence && !w.barrier
      (named = [] → refusal (.waitPoke cid) rDone) ∧
      (∀ i w pa, named = [i] → s.waiter i = some w → 32768 ≤ i → s.reach c fence .read = .ok pa →
        s.physLe pa 8 / 2 ^ 62 = 1 → w.target ≤ s.physLe pa 8 % 2 ^ 62 → Gives (.waitPoke cid) s fun t =>
          answers t rDone ∧ t.waiter i = none ∧ t.host.events = s.host.events ++ [w.vector])) ∧
    (32768 ≤ qid.toNat → Gives (.waitCancel qid) s fun t => answers t rDone ∧ t.waiter qid.toNat = none ∧
      (∀ k, k ≠ qid.toNat → t.waiter k = s.waiter k) ∧ t.host = s.host) ∧
    (qid.toNat < 32768 → refusal (.waitCancel qid) rBadState))

/-- R432-R441, R467-R470, R488, R490: memory and basin stops.  A request that passes its checks is served and answered: a
read with the bytes of its line, a write by storing its line and nothing else; a form that the stop does not serve is
answered MISDIRECTED with a record, a poisoned one POISON, one that the owner check refuses REFUSED.
Commands shown to complete: memoryRequest, basinRequest. -/
def Obligations.MemoryAndBasinStops : Prop :=
  ∀ (s : State) (h : Header),
    let a := h.addr.toNat
    let far := decide (h.src.toNat < 6)
    let answered := fun (t : State) (r : Header) =>
      t.mesh.waiting = s.mesh.waiting ++ [r] ∧ t.mesh.arrived = s.mesh.arrived.erase h
    let reads := fun (i : Instr) => Gives i s fun t =>
      answered t (respond h stOk 1 (leNat (s.physBytes a 64))) ∧ t.mem = s.mem ∧ t.basin.scratch = s.basin.scratch
    let writes := fun (i : Instr) => Gives i s fun t => answered t (respond h stOk 0 0) ∧
      t.physBytes a 64 = leBytes 64 h.data.toNat ∧
      ∀ b, paDie b = s.ownDie → ¬(a ≤ b ∧ b < a + 64) → t.physByte b = s.physByte b
    let bad := fun (i : Instr) => Gives i s fun t => answered t (respond h stMisdirected 0 0) ∧ t.mem = s.mem ∧
      t.basin = s.basin ∧ t.conc.nextId = s.conc.nextId + 1
    (s.domLive 10 = true → ∀ ecc,
      (hIsMemOp h = false → bad (.memoryRequest h ecc)) ∧
      (hIsMemOp h = true → (∀ b ∈ hPlaces h, s.mpServes h.dst.toNat b = true) →
        (h.poison = true → Gives (.memoryRequest h ecc) s fun t => answered t (respond h stPoison 0 0) ∧ t.mem = s.mem) ∧
        (h.poison = false → s.engineOrigin h = false →
          ((∃ b ∈ hPlaces h, s.ownerOk h.cid.toNat b far = false) → Gives (.memoryRequest h ecc) s fun t =>
            t.mesh.waiting.getLast? = some (respond h stRefused (if opReads h.op.toNat then max 1 h.count.toNat else 0) 0)) ∧
          (Memory.wf s.mem = true → h.count = 1 → (∀ b ∈ hPlaces h, s.ownerOk h.cid.toNat b far = true ∧
            s.keyAbsent b = false) →
            (h.op.toNat = opRead → reads (.memoryRequest h .clean)) ∧
            (h.op.toNat = opWrite → writes (.memoryRequest h .clean)))))) ∧
    (s.domLive (if h.dst.toNat < 18 then 6 else 7) = true → ∀ ecc,
      (hIsMemOp h = false → bad (.basinRequest h ecc)) ∧
      (hIsMemOp h = true → (∀ b ∈ hPlaces h, bsServes s.ownDie h.dst.toNat b = true) → h.poison = false →
        s.engineOrigin h = false → (∀ b ∈ hPlaces h, s.ownerOk h.cid.toNat b far = true ∧ s.keyAbsent b = false) →
        h.count = 1 →
        (h.op.toNat = opRead → reads (.basinRequest h .clean)) ∧
        (h.op.toNat = opWrite → Memory.wf s.mem = true → Memory.wf s.basin.scratch = true → writes (.basinRequest h .clean))))

/-- R176, R203-R210, R214, R219, R221, R224-R228: submission and retirement.  A doorbell and a cancel travel on the PROMPT
channel; while an epoch switch holds injection the host port keeps 64 of them, in order, and withholds the rest.  A doorbell moves
SEQ and TAIL, or is counted; a stage read keeps the copy; a fetch takes the entry at HEAD, valid or with fault 0x0B; a cancel
reaches a held packet, a stage read under way or an entry not yet fetched; a DMA transfer ends its packet; a retiring packet
updates its fence, raises its event and leaves.
Commands shown to complete: doorbell, stageReadComplete, cancel, packetFetch, dmaTransferComplete, packetRetire, write. -/
def Obligations.SubmissionAndRetirement : Prop :=
  ∀ (s : State) (qid : BitVec 16) (value : BitVec 64) (blocks : BitVec 32), s.domLive 3 = true →
    let q := qid.toNat % 32768
    let x := s.queue q
    let seq := value.toNat / 2 ^ 32
    let low := value.toNat % 2 ^ 32
    let adv := (low + 2 ^ 32 - x.tail) % 2 ^ 32
    let sat := fun (t : State) (f : Fld) => t.get f = min (s.get f + 1) (f.size - 1)
    let sent := fun (k : UseKind) => { s.mesh with uses := s.mesh.uses ++ [⟨k, q, true⟩] }
    let write : DbWrite := ⟨false, q, value.toNat, 0⟩
    let cancel : DbWrite := ⟨true, q, value.toNat, blocks.toNat⟩
    (4 ≤ s.flight.entryStep → Gives (.doorbell qid value) s (· = s) ∧ Gives (.cancel qid value blocks) s (· = s)) ∧
    (s.flight.entryStep < 4 →
      (s.mesh.holdSince ≠ none →
        (s.host.places.length < 64 → Gives (.doorbell qid value) s (· =
            { s with mesh := sent .doorbell, host := { s.host with places := s.host.places ++ [write] } }) ∧
          Gives (.cancel qid value blocks) s (· =
            { s with mesh := sent .cancel, host := { s.host with places := s.host.places ++ [cancel] } })) ∧
        (64 ≤ s.host.places.length → Gives (.doorbell qid value) s (· =
            { s with mesh := sent .doorbell, host := { s.host with withheld := s.host.withheld ++ [write] } }) ∧
          Gives (.cancel qid value blocks) s (· =
            { s with mesh := sent .cancel, host := { s.host with withheld := s.host.withheld ++ [cancel] } }))) ∧
      (s.mesh.holdSince = none →
        (s.doorbellCid q = none → Gives (.doorbell qid value) s fun t => sat t Reg.OBJ_COUNTS_STRAY_DB ∧
          { t with regs := s.regs, mesh := s.mesh } = s) ∧
        (∀ c, s.doorbellCid q = some c →
          (newer seq x.seq 32 = false → Gives (.doorbell qid value) s fun t =>
            t.queue q = { x with dups := min 0xFFFF (x.dups + 1) }) ∧
          (newer seq x.seq 32 = true → 0 < adv → adv < 2 ^ 31 → (low + 2 ^ 32 - x.head) % 2 ^ 32 ≤ 2 ^ x.ringLog2 →
            Gives (.doorbell qid value) s fun t => t.queue q = { x with seq := seq, tail := low } ∧
              { t with queues := s.queues, mesh := s.mesh } = s ∧ t.mesh = sent .doorbell ∧
              ∀ k, k ≠ q → t.queue k = s.queue k) ∧
          (newer seq x.seq 32 = true → 2 ^ 31 ≤ adv → Gives (.doorbell qid value) s fun t =>
            t.queue q = { x with seq := seq, tailErrs := min 0xFF (x.tailErrs + 1) } ∧
            t.conc.nextId = s.conc.nextId + 1)) ∧
        (s.queueCid q = none → x.pkts = [] → Gives (.cancel qid value blocks) s fun t =>
          sat t Reg.DSP_SUBMIT_COUNTS_CANCEL_MISS ∧ { t with regs := s.regs, mesh := s.mesh } = s) ∧
        (∀ p, s.queueCid q ≠ none → value.toNat < 2 ^ 32 → x.st ≠ .disabled → x.tail = x.head → x.staged = none →
          x.staging = none → x.pkts = [p] → p.index = value.toNat → p.ended = none → p.runs = [] → p.st = .fetched →
          Gives (.cancel qid value blocks) s fun t => (t.queue q).pkts = [Pkt.finish .cancelled p]) ∧
        (∀ i, s.queueCid q ≠ none → value.toNat < 2 ^ 32 → x.st ≠ .disabled → x.staged = none → x.pkts = [] →
          (value.toNat + 2 ^ 32 - x.head) % 2 ^ 32 < (x.tail + 2 ^ 32 - x.head) % 2 ^ 32 →
          (q, value.toNat) ∉ s.disp.cancels → s.disp.cancels.length < 4096 → x.staging = some i → i = value.toNat →
          Gives (.cancel qid value blocks) s fun t => t.queue q = { x with staging := none } ∧
            t.disp = { s.disp with cancels := s.disp.cancels ++ [(q, value.toNat)] }) ∧
        (s.queueCid q ≠ none → value.toNat < 2 ^ 32 → x.st ≠ .disabled → x.staged = none → x.staging = none → x.pkts = [] →
          (value.toNat + 2 ^ 32 - x.head) % 2 ^ 32 < (x.tail + 2 ^ 32 - x.head) % 2 ^ 32 →
          (q, value.toNat) ∉ s.disp.cancels → s.disp.cancels.length < 4096 → Gives (.cancel qid value blocks) s (· =
            { s with mesh := sent .cancel, disp := { s.disp with cancels := s.disp.cancels ++ [(q, value.toNat)] } })))) ∧
    (∀ i c bs u rs, x.staging = some i → s.queueCid q = some c →
      let s1 := s.updQueue q fun x => { x with staging := none }
      let raw := leNat bs
      s1.readVa c (x.slotVa i) 64 = .ok bs → packetBad raw x (s.partClusters (s.ctx c).pid) = none →
      s1.takeRefs c raw none (packetHandles raw) [] = (u, .ok rs) → sizeBad raw rs = none → hasEvent raw = false →
      Gives (.stageReadComplete qid none) s (· = u.updQueue q fun x => { x with staged := some ⟨i, raw, rs⟩ })) ∧
    (∀ c raw, s.queueCid q = some c → s.mayFetch q c = true → s.nextEntry q c = .ok (raw, [], false) →
      s.fetchMode q c = .normal → hasEvent raw = false → hasFence raw = false →
      (packetBad raw x (s.partClusters (s.ctx c).pid) = none → packetHandles raw = [] → Gives (.packetFetch qid none) s fun t =>
        (t.queue q).head = (x.head + 1) % 2 ^ 32 ∧ (t.queue q).pkts = x.pkts ++ [Pkt.fresh c x.head raw] ∧
        t.conc = s.conc ∧ t.mesh.uses = s.mesh.uses ++ [⟨.ringRead, q, x.prompt⟩]) ∧
      (∀ o, packetBad raw x (s.partClusters (s.ctx c).pid) = some o → Gives (.packetFetch qid none) s fun t =>
        (t.queue q).head = (x.head + 1) % 2 ^ 32 ∧ t.conc.nextId = s.conc.nextId + 1 ∧
        (t.queue q).pkts = x.pkts ++ [Pkt.finish (.error 0x0B uDSP (some s.conc.nextId)) (Pkt.fresh c x.head raw)])) ∧
    (∀ (n : BitVec 1) i p u d, s.domLive 4 = true → s.dmaQueue n.toNat = [(q, i)] → x.pkt i = some p → p.st = .started →
      p.token = none → p.ended = none → opOf p.raw ≠ 0x32 → opOf p.raw ≠ 0x33 → s.dmaStalled n.toNat = false →
      p.dma = some n.toNat → s.dmaBlocks n.toNat p.cid p.raw p.done (2 ^ 31) = (u, d, none) →
      Gives (.dmaTransferComplete n) s fun t => t.dmaQueue n.toNat = [] ∧
        (t.queue q).pkt i = some (Pkt.finish .ok { p with done := d }) ∧ t.mem = u.mem) ∧
    (∀ (i : BitVec 32) p e n, x.pkt i.toNat = some p → p.ended = some e → s.endSeq e = some n →
      hasRecord p.raw = false → p.refs = [] →
      (p.fenceVa = none → (s.ctx p.cid).lossDue = false → Gives (.packetRetire qid i none) s fun t =>
        (t.queue q).pkt i.toNat = none ∧
        t.host.events = if hasEvent p.raw ∧ (s.ctx p.cid).hasVec (pfld p.raw 2 2) = true then
          s.host.events ++ [pfld p.raw 2 2] else s.host.events) ∧
      (∀ va pa w k, p.fenceVa = some va → s.reach p.fenceCid va .write = .ok pa → paDie pa = s.ownDie → pa % 16 = 0 →
        Memory.wf s.mem = true → Memory.wf s.basin.scratch = true →
        fenceStep (s.physLe pa 8) (s.physLe (pa + 8) 8) (fenceUpOf p e n p.cid q) = some (w, k) →
        Gives (.packetRetire qid i none) s fun t => (t.queue q).pkt i.toNat = none ∧ t.physLe pa 8 = w % 2 ^ 64 ∧
          t.mesh.uses = s.mesh.uses ++ [⟨.fence, q, x.prompt⟩]))

/-- R152, R163, R180, R218, R221, R222, R238, R264, R428: how a fetched packet starts, by its operation.  NOP, FENCE_SIGNAL and
TIMESTAMP end at once; a task is offered to the scheduler; FENCE_WAIT and a BARRIER behind others make an ACTIVE queue wait,
and leave a DISABLED or HALTED one as it is; data movements go to a DMA engine, which starts them in order; a state packet
reserves its idle tile, or waits in the pool for it.
Commands shown to complete: nop, task, taskGroup, fenceSignal, fenceWait, barrier, copy, fill, prefetch, advise, migrate,
stateSave, stateLoad, timestamp, read. -/
def Obligations.PacketStarts : Prop :=
  ∀ (s : State) (qid : BitVec 16) (index : BitVec 32) (p : Pkt), s.domLive 3 = true →
    let q := qid.toNat % 32768
    let i := index.toNat
    let x := s.queue q
    x.pkt i = some p → p.st = .fetched → p.ended = none → (isSerial p.raw = true → x.oldest i = true) →
    let op := opOf p.raw
    let run := { p with st := PktSt.started, startT := s.dspTime }
    let only := fun (t : State) => { t with queues := s.queues } = s ∧ ∀ k, k ≠ q → t.queue k = s.queue k
    let ends := fun (i' : Instr) => Gives i' s fun t => (t.queue q).pkt i = some (Pkt.finish .ok run) ∧ only t
    let offers := fun (i' : Instr) => Gives i' s fun t => (t.queue q).pkt i = some { p with st := .offered } ∧ only t
    let n := s.dmaFor p.raw
    let moves := fun (i' : Instr) =>
      (s.dmaQueue n = [] → s.dmaStalled n = false → Gives i' s fun t =>
        (t.queue q).pkt i = some { run with dma := some n } ∧ t.dmaQueue n = [(q, i)] ∧
        { t with queues := s.queues, disp := { t.disp with dma := s.disp.dma } } = s) ∧
      (s.dmaRunning n ≠ [] → Gives i' s fun t => (t.queue q).pkt i = some { p with st := .offered, dma := some n } ∧
        t.dmaQueue n = s.dmaQueue n ++ [(q, i)] ∧ { t with queues := s.queues, disp := { t.disp with dma := s.disp.dma } } = s)
    let waits := fun (i' : Instr) (w : Waiter) => Gives i' s fun t =>
      (t.queue q).st = (if x.st = .active then .waiting else x.st) ∧
      t.waiter q = some w ∧ (t.queue q).pkt i = some { p with st := .atHead, startT := s.dspTime } ∧
      t.mem = s.mem ∧ ∀ k, k ≠ q → t.queue k = s.queue k
    (op = 0x00 → ends (.nop qid index)) ∧ (op = 0x10 → offers (.task qid index)) ∧ (op = 0x11 → offers (.taskGroup qid index)) ∧
    (op = 0x20 → x.oldest i = true → ends (.fenceSignal qid index)) ∧
    (op = 0x20 → x.oldest i = false → Gives (.fenceSignal qid index) s (· = s)) ∧
    (∀ r pa, op = 0x21 → refAt p.refs 0x18 = some r → s.reach r.owner r.addr .read = .ok pa → s.physLe pa 8 / 2 ^ 62 = 0 →
      waits (.fenceWait qid index) ⟨p.cid, r.owner, r.addr, pfld p.raw 0x20 8 % 2 ^ 62, 0, false⟩) ∧
    (op = 0x22 → x.oldest i = true → ends (.barrier qid index)) ∧
    (op = 0x22 → x.oldest i = false → waits (.barrier qid index) ⟨p.cid, p.cid, 0, 0, 0, true⟩) ∧
    (op = 0x30 → pfld p.raw 0x28 8 = 0 → ends (.copy qid index)) ∧
    (op = 0x30 → pfld p.raw 0x28 8 ≠ 0 → moves (.copy qid index)) ∧
    (op = 0x31 → pfld p.raw 0x20 8 = 0 → ends (.fill qid index)) ∧
    (op = 0x31 → pfld p.raw 0x20 8 ≠ 0 → moves (.fill qid index)) ∧
    (op = 0x32 → moves (.prefetch qid index)) ∧ (op = 0x33 → moves (.advise qid index)) ∧
    (op = 0x34 → moves (.migrate qid index)) ∧
    (let n := pfld p.raw 0x28 1
     let d := s.dtile n
     (d.st = .idle → d.cur = none → (s.tile n).halted = false → s.domOpen (clDom (n / 4)) = true →
       s.clusterServes (s.ctx p.cid).pid 0 (n / 4) = true → d.claim = none ∨ d.claim = some q → s.disp.on = true →
       let reserves := fun (t : State) => t.dtile n = { d with st := .reserved, cur := some (q, i, 0), lastCid := some p.cid } ∧
         (t.queue q).pkt i = some run ∧ t.tile n = if d.lastCid = some p.cid then s.tile n else (s.tile n).fresh
       (op = 0x40 → Gives (.stateSave qid index) s reserves) ∧ (op = 0x41 → Gives (.stateLoad qid index) s reserves)) ∧
     (d.st ≠ .idle ∨ s.clusterServes (s.ctx p.cid).pid 0 (n / 4) = false →
       let pools := fun (t : State) => (t.queue q).pkt i = some { p with st := .pooled } ∧ only t
       (op = 0x40 → Gives (.stateSave qid index) s pools) ∧ (op = 0x41 → Gives (.stateLoad qid index) s pools))) ∧
    (∀ u, op = 0x50 → s.writeVa p.cid (pfld p.raw 0x18 8) (leBytes 8 s.dspTime) = .ok u →
      Gives (.timestamp qid index) s fun t => (t.queue q).pkt i = some (Pkt.finish .ok run) ∧ t.mem = u.mem)

/-- R235-R267, R305-R308, R40, R44: the dispatcher.  A cycle enters an offered task in the pool, picks one that entered earlier,
and hands the last pick over to the tiles still eligible; misses and overruns are recorded and counted, and end the task under ABANDON; a
hand-over starts its task; a task that ended, was aborted or excepted leaves its tile idle; a STATE_LOAD claims its tile and a
STATE_SAVE of the claiming queue gives it up; a contested claim lapses.
Commands shown to complete: abortComplete, dispatcherCycle, startMiss, finishMiss, budgetOverrun, budgetHard, handover,
taskExceptionEnd, taskEnd, swapComplete, claimLapse. -/
def Obligations.DispatcherEvents : Prop :=
  ∀ (s : State) (tile : BitVec 6), s.domLive 3 = true →
    let n := tile.toNat
    let d := s.dtile n
    let y := s.tile n
    let now := s.disp.cycle + 1
    let sat := fun (t : State) (f : Fld) => t.get f = min (s.get f + 1) (f.size - 1)
    let leaves := fun (t : State) => (t.tile n).core = .idle ∧ (t.tile n).task = none ∧ (t.dtile n).st = .idle ∧
      (t.dtile n).cur = none ∧ (t.tile n).s = y.s ∧ (t.tile n).store = y.store
    (s.stalled (4 * dspStop) = true → Gives .dispatcherCycle s (· = s)) ∧
    (∀ q x p, s.stalled (4 * dspStop) = false → s.disp.on = true → s.queues = [(q, x)] → x.pkts = [p] → isTask p.raw = true →
      noDeadline p.raw = true → p.ended = none → p.runs = [] → p.noMore = false → p.nextInst = 0 →
      let tiles := s.tilesFor ⟨q, p.index, 0, none, p.entry, p.cid⟩
      (p.st = .offered → s.disp.pick = none → Gives .dispatcherCycle s fun t => t.disp.cycle = now ∧ t.disp.pick = none ∧
        t.queues = [(q, { x with pkts := [{ p with st := .pooled, entry := now }] })]) ∧
      (p.st = .pooled → p.entry < now → opOf p.raw = 0x10 → s.disp.pick = none → s.get Reg.DSP_CTRL_HOLD = 0 →
        s.disp.lastPick = none → tiles ≠ [] → Gives .dispatcherCycle s fun t =>
          t.disp.lastPick = some now ∧ ∃ m, t.disp.pick = some ⟨q, p.index, [(m, 0)], false⟩ ∧ m ∈ tiles) ∧
      (p.st = .pooled → opOf p.raw = 0x10 → s.disp.pick = some ⟨q, p.index, [(n, 0)], false⟩ →
        (n ∈ tiles → Gives .dispatcherCycle s fun t => (t.dtile n).st = .running ∧ (t.dtile n).cur = some (q, p.index, 0) ∧
          t.disp.handovers = s.disp.handovers ++ [(n, q, p.index, 0)] ∧
          t.get Reg.DSP_DISPATCHED_COUNT = (s.get Reg.DSP_DISPATCHED_COUNT + 1) % Reg.DSP_DISPATCHED_COUNT.size) ∧
        (n ∉ tiles → Gives .dispatcherCycle s fun t => t.disp.handovers = s.disp.handovers ∧ t.dtile n = d))) ∧
    (∀ (qid inst : BitVec 16) (index : BitVec 32) p,
      let q := qid.toNat % 32768
      (s.queue q).pkt index.toNat = some p → s.disp.on = true → p.decided = false →
      let id := s.conc.nextId
      let named := fun (t : State) => t.conc.nextId = id + 1
      let report := (s.queue q).policy = 1
      let abandon := (s.queue q).policy = 2
      (isTask p.raw = true → noDeadline p.raw = false →
        (p.st = .pooled → p.noMore = false → p.nextInst ≤ inst.toNat → inst.toNat < instCount p.raw →
          inst.toNat ∉ p.startMissed → s.passed (latestStart p.raw) = true →
          let miss := { p with startMiss := true, startMissed := inst.toNat :: p.startMissed }
          (report → Gives (.startMiss qid inst index) s fun t => named t ∧ sat t Reg.DSP_MISS_COUNTS_START_MISS ∧
            (t.queue q).pkt index.toNat = some miss) ∧
          (abandon → p.runs = [] → p.firstEnd = none → Gives (.startMiss qid inst index) s fun t => named t ∧
            sat t Reg.DSP_MISS_COUNTS_START_MISS ∧ (t.queue q).pkt index.toNat = some { miss with
              noMore := true, firstEnd := some (.error 0x20 uDSP (some id)), ended := some (.error 0x20 uDSP (some id)) })) ∧
        (p.entered = true → p.finishMiss = false → s.passed (pfld p.raw 0x28 6) = true →
          (report → Gives (.finishMiss qid index) s fun t => named t ∧ sat t Reg.DSP_MISS_COUNTS_FINISH_MISS ∧
            (t.queue q).pkt index.toNat = some { p with finishMiss := true }) ∧
          (∀ r, abandon → p.runs = [r] → r.abort = none → r.place = .onTile n → Gives (.finishMiss qid index) s fun t =>
            named t ∧ sat t Reg.DSP_MISS_COUNTS_FINISH_MISS ∧ (t.tile n).core = .ending))) ∧
      (∀ r, report → p.runs = [r] → r.inst = inst.toNat → r.abort = none →
        (r.overrun = false → pfld p.raw 0x2E 2 * 100 ≤ s.runCount r → Gives (.budgetOverrun qid inst index) s fun t =>
          named t ∧ sat t Reg.DSP_BUDGET_COUNTS_OVERRUN ∧
          (t.queue q).pkt index.toNat = some { p with runs := [{ r with overrun := true }] }) ∧
        (r.overrun = true → 4 * (pfld p.raw 0x2E 2 * 100) ≤ s.runCount r → r.place = .onTile n →
          Gives (.budgetHard qid inst index) s fun t => named t ∧ sat t Reg.DSP_BUDGET_COUNTS_HARD ∧
            (t.tile n).core = .ending) ∧
        (s.runCount r < pfld p.raw 0x2E 2 * 100 → Gives (.budgetOverrun qid inst index) s (· = s) ∧
          Gives (.budgetHard qid inst index) s (· = s)))) ∧
    (∀ q i k p, s.disp.handovers.find? (·.1 == n) = some (n, q, i, k) → s.domLive (clDom (n / 4)) = true →
      y.core = .idle → (s.queue q).pkt i = some p → (∀ r ∈ p.runs, r.abort = none) →
      Gives (.handover tile) s fun t => (t.tile n).core = .running ∧ (t.tile n).task = some (q, i, k) ∧
        (t.tile n).cid = p.cid ∧ (t.tile n).pc = pfld p.raw 0x1C 4 ∧ (t.tile n).tmode = 0 ∧ (t.tile n).depth = 0 ∧
        (t.tile n).sreg 1 = BitVec.ofNat 32 k ∧ (t.tile n).sreg 2 = BitVec.ofNat 32 (instCount p.raw) ∧
        (t.tile n).sreg 3 = BitVec.ofNat 32 n ∧ (n, q, i, k) ∉ t.disp.handovers ∧
        (∀ j, 3 < j → (t.tile n).sreg j = if d.lastCid = some p.cid then y.sreg j else 0)) ∧
    (∀ q i p r e, s.holder n = some (q, i, p, r) → r.abort = some e → y.core = .ending → y.exc = none →
      Gives (.abortComplete tile) s leaves) ∧
    (y.core = .ending → y.atEnd = true → y.exc = none → y.barges = [] → y.units = [] → Gives (.taskEnd tile) s leaves) ∧
    (∀ q i p r e, s.holder n = some (q, i, p, r) → y.exc = some e → y.core = .ending → y.barges = [] → y.units = [] →
      Gives (.taskExceptionEnd tile) s fun t => leaves t ∧ t.conc.nextId = s.conc.nextId + 1 ∧
        t.get (Reg.CLS_TILE_EXC_PC n) = e.pc % (Reg.CLS_TILE_EXC_PC n).size ∧
        t.get (Reg.CLS_TILE_EXC_CODE n) = e.code % (Reg.CLS_TILE_EXC_CODE n).size) ∧
    (∀ q i k p hits, d.cur = some (q, i, k) → d.st = .reserved → (s.queue q).pkt i = some p → p.ended = none →
      (∀ img, opOf p.raw = 0x41 → s.readVa p.cid (pfld p.raw 0x20 8) (imageSize p.raw) = .ok img →
        Gives (.swapComplete tile hits) s fun t => (t.dtile n).st = .idle ∧ (t.dtile n).cur = none ∧
          (t.dtile n).claim = some q ∧
          t.tile n = y.loadImage (pfld p.raw 0x29 1 == 1) (pfld p.raw 0x2A 2) img ∧
          (t.queue q).pkt i = some (Pkt.finish .ok p)) ∧
      (∀ u, opOf p.raw = 0x40 → s.writeVa p.cid (pfld p.raw 0x20 8)
          (y.image (pfld p.raw 0x29 1 == 1) (pfld p.raw 0x2A 2)) = .ok u →
        Gives (.swapComplete tile []) s fun t => (t.dtile n).st = .idle ∧ (t.dtile n).cur = none ∧
          (t.dtile n).claim = (if d.claim = some q then none else d.claim) ∧ t.tile n = y ∧ t.mem = u.mem ∧
          (t.queue q).pkt i = some (Pkt.finish .ok p))) ∧
    (s.claimContested n = true → d.st = .idle →
      let due := d.idleSince + atLeast1 (s.get Reg.DSP_CLAIM_IDLE_TICKS)
      (due ≤ s.dspTime → Gives (.claimLapse tile) s fun t => t.dtile n = { d with claim := none } ∧ (t.tile n).written = [] ∧
        sat t Reg.DSP_SWAP_COUNTS_CLAIM_LAPSE) ∧
      (s.dspTime < due → Gives (.claimLapse tile) s (· = s)))

/-- R233, R268, R269, R275, R282, R295, R296, R298, R304, R305, R312, R334, R335, R490: fences of clusters, and what a tile does
beside its instructions.  An order fences a cluster, DSP_FENCE_LIMIT ticks later what still runs there is aborted, its
acknowledgement zeroes the stores, its lifting ends it; a line read fills the store; a unit's oldest instruction completes, or
its exception ends the task; a word that is no instruction raises ILLEGAL_INSTRUCTION; a barge that moves all its bytes leaves
the queue; a fault on the way to another die suspends the task.
Commands shown to complete: istoreLineFill, tileException, unitInstructionComplete, bargeComplete, moverFault, fenceOrder,
fenceLimitExpire, fenceAck, fenceLift, clear, schedClear, istoreFlush, tileCountsClear. -/
def Obligations.FencesAndTileEvents : Prop :=
  ∀ (s : State) (tile : BitVec 6) (cl : BitVec 4),
    let n := tile.toNat
    let y := s.tile n
    let c := cl.toNat
    (s.domLive 3 = true →
      (s.fenced c = false → Gives (.fenceOrder cl) s fun t => t.fenced c = true ∧
        t.disp.fences = s.disp.fences ++ [⟨c, (s.clusterPart c).getD 0, false, s.dspTime⟩]) ∧
      (∀ f, s.disp.fences.find? (·.cluster == c) = some f → f.acked = false →
        let due := f.at_ + atLeast1 (s.get Reg.DSP_FENCE_LIMIT_TICKS)
        (s.dspTime < due → Gives (.fenceLimitExpire cl) s (· = s)) ∧
        (∀ q i p r, due ≤ s.dspTime → s.holder (4 * c) = some (q, i, p, r) → r.abort = none → r.place = .onTile (4 * c) →
          Gives (.fenceLimitExpire cl) s fun t => (t.tile (4 * c)).core = .ending)) ∧
      (s.fenced c = true → s.clusterIdle c = true → Gives (.fenceAck cl) s fun t =>
        (∀ k, k < 4 → (t.tile (4 * c + k)).store = [] ∧ (t.tile (4 * c + k)).written = []) ∧
        ∀ e ∈ t.disp.fences, e.cluster = c → e.acked = true) ∧
      (Gives (.fenceLift cl) s fun t => t.fenced c = false ∧
        { t with disp := { t.disp with fences := s.disp.fences } } = s ∧
        ∀ k, k ≠ c → t.fenced k = s.fenced k) ∧
      (Gives .clear s fun t => t.get Reg.DSP_SUBMIT_COUNTS_CANCEL_DROP = 0 ∧ t.get Reg.DSP_SUBMIT_COUNTS_CANCEL_MISS = 0 ∧
        t.get Reg.DSP_SUBMIT_COUNTS_STAGE_MISS = 0 ∧ t.get Reg.DSP_SUBMIT_COUNTS_BAD_WIDTH = 0 ∧
        { t with regs := s.regs } = s) ∧
      (Gives .schedClear s fun t => t.get Reg.DSP_MISS_COUNTS_START_MISS = 0 ∧
        t.get Reg.DSP_MISS_COUNTS_FINISH_MISS = 0 ∧ t.get Reg.DSP_BUDGET_COUNTS_OVERRUN = 0 ∧
        t.get Reg.DSP_BUDGET_COUNTS_HARD = 0 ∧ t.get Reg.DSP_SWAP_COUNTS_SWAP_FULL = 0 ∧
        t.get Reg.DSP_SWAP_COUNTS_CLAIM_LAPSE = 0 ∧ t.get Reg.DSP_SWAP_COUNTS_SWITCH_OUT = 0 ∧
        { t with regs := s.regs } = s)) ∧
    (s.domLive (clDom (n / 4)) = true →
      (y.core = .idle → Gives (.istoreFlush tile) s fun t => (t.tile n).istore = [] ∧
        t.get (Reg.CLS_TILE_CTRL_ISTORE_FLUSH n) = 0) ∧
      (y.core ≠ .idle → Gives (.istoreFlush tile) s fun t => t.tiles = s.tiles ∧
        t.get (Reg.CLS_TILE_CTRL_ISTORE_FLUSH n) = 1) ∧
      (Gives (.tileCountsClear tile) s fun t => t.get (Reg.CLS_TILE_COUNTS_ECC_CORR n) = 0 ∧
        t.get (Reg.CLS_TILE_COUNTS_ISTORE_MISS n) = 0 ∧ t.get (Reg.CLS_TILE_COUNTS_UNWRITTEN_READ n) = 0 ∧
        { t with regs := s.regs } = s)) ∧
    (∀ pc : BitVec 32, y.task ≠ none → y.core = .running ∨ y.core = .fetchWait → pc.toNat < y.progSize →
      (∀ k, k < 4 → ∃ bs, s.readVaBy n y.cid (y.progVa + pc.toNat / 256 * 256 + 64 * k) 64 = .ok bs) →
      y.lineFor pc.toNat ∉ y.istore → Gives (.istoreLineFill tile pc .clean) s fun t =>
        (t.tile n).istore.head? = some (y.lineFor pc.toNat) ∧ (t.tile n).core = .running ∧ (t.tile n).fetch = none ∧
        t.get (Reg.CLS_TILE_COUNTS_ISTORE_MISS n) = min (s.get (Reg.CLS_TILE_COUNTS_ISTORE_MISS n) + 1)
          ((Reg.CLS_TILE_COUNTS_ISTORE_MISS n).size - 1)) ∧
    (∀ (u : BitVec 2) o e, u.toNat < 3 → y.frontOp u.toNat = some o → o.exc = some e → coreHolds y.core = true →
      y.exc = none → Gives (.tileException tile u 0 0) s fun t => (t.tile n).core = .ending ∧ (t.tile n).exc = some e ∧
        ∀ k, k ≠ n → t.tile k = s.tile k) ∧
    (∀ word after : BitVec 32,
      ((pairName word after).isSome = true → Gives (.tileException tile 3 word after) s (· = s)) ∧
      (pairName word after = none → s.canIssue n (isExt word) = true → Raises (.tileException tile 3 word after) s n
        (if isExt word then excEncoding else wordExc word))) ∧
    (∀ (u : BitVec 2) o rest, y.units = o :: rest → o.unit = u.toNat → o.exc = none → y.wait = none → y.stepping = false →
      Gives (.unitInstructionComplete (tile.setWidth 7) u) s fun t => t.tile n = { y with units := rest }) ∧
    (∀ (id : BitVec 4) b d hits, y.barges = [b] → b.id = id.toNat → b.faulted = false → b.sealed = false →
      descFields b.desc = some d → y.wait = none → eccFree (y.bargeReads id.toNat) hits = true →
      (∀ u, b.store = false → s.loadMoves n [] (b.moves d) = (u, none) → Gives (.bargeComplete tile id true hits) s fun t =>
        (t.tile n).barges = [] ∧ (t.tile n).store = (u.tile n).store ∧ t.mem = s.mem) ∧
      (∀ u, b.store = true → s.storeMoves n [] (b.moves d) = (u, none) → Gives (.bargeComplete tile id true hits) s fun t =>
        (t.tile n).barges = [] ∧ (t.tile n).store = y.store ∧ t.mem = u.mem)) ∧
    (∀ (id : BitVec 4) (code : BitVec 8) b q i k, y.barges = [b] → b.id = id.toNat → b.faulted = false →
      y.task = some (q, i, k) →
      y.core = .running → 0x40 ≤ code.toNat → code.toNat ≤ 0x4F →
      Gives (.moverFault tile id code) s fun t => (t.tile n).core = .suspended ∨ (t.tile n).core = .swapping)

/-- R415, R421, R422, R423, R424, R425, R427, R429, R431, R454, R455, R456: what XLT does.  A first-level hit becomes the most
recent entry and changes nothing else; a miss starts a walk or joins one; a free walker takes the pending walk that R423 ranks
first; the walk weir gains RATE once in each 10,000 t; a table pointer goes down one level, a valid leaf ends the walk in a translation; an invalidation drops every entry of
its CID, and at its end shows its number; RESUME and KILL free the token, and a dead token gives STALE.
Commands shown to complete: free, xltLookup, walkStart, walkRead, walkWeirRefill, xltInval, invalidateComplete, resume,
kill, fqBaseWrite, fqHeadWrite. -/
def Obligations.TranslationUnit : Prop :=
  ∀ (s : State) (who : BitVec 8) (cid : BitVec 10) (va : BitVec 64) (acc : Access), s.domLive 4 = true →
    let c := cid.toNat
    let v := va.toNat
    let w := who.toNat
    let l1 := Tab.get [] s.xlt.tlb1 w
    (∀ e, canonical v = true → ctxTranslates (s.ctx c).st = true → l1.find? (·.hits c v) = some e → e.grants acc = true →
      Gives (.xltLookup who cid va acc) s fun t =>
        Tab.get [] t.xlt.tlb1 w = e :: l1.filter (· != e) ∧ (∀ k, k ≠ w → Tab.get [] t.xlt.tlb1 k = Tab.get [] s.xlt.tlb1 k) ∧
        { t with xlt := { t.xlt with tlb1 := s.xlt.tlb1 } } = s) ∧
    (canonical v = true → ctxTranslates (s.ctx c).st = true → l1.find? (·.hits c v) = none →
      s.xlt.tlb2.find? (·.hits c v) = none → (s.ctx c).segments = false →
      Gives (.xltLookup who cid va acc) s fun t =>
        { t with xlt := { t.xlt with walks := s.xlt.walks, order := s.xlt.order } } = s ∧
        ∃ x ∈ t.xlt.walks, x.cid = c ∧ x.page = v / 2 ^ 21 ∧ w ∈ x.who ∧ x.band ≤ s.whoBand w) ∧
    (canonical v = true → ctxTranslates (s.ctx c).st = false →
      Gives (.xltLookup who cid va acc) s fun t => t.xlt = s.xlt ∧ t.ctxs = s.ctxs ∧ t.conc.nextId = s.conc.nextId + 1) ∧
    ((s.xlt.walks.filter (·.started)).length < 16 → s.xlt.walks.Pairwise (fun a b => a.order ≠ b.order) →
      (∃ x ∈ s.xlt.walks, x.started = false) → Gives .walkStart s fun t =>
        ∃ x ∈ s.xlt.walks, x.started = false ∧
          (∀ y ∈ s.xlt.walks, y.started = false → y ≠ x → s.walkBefore x y = true) ∧
          t.xlt.walks = s.xlt.walks.map (fun y => if y = x then { y with started := true } else y) ∧
          t.get Reg.XLT_COUNTS_WALKS = min (s.get Reg.XLT_COUNTS_WALKS + 1) (2 ^ 32 - 1) ∧
          (t.ctx x.cid).walks = (s.ctx x.cid).walks - 1) ∧
    (∀ x : Walk, s.xlt.walks = [x] → x.started = true → x.cid = c → x.page = v / 2 ^ 21 →
      let ea := x.table + 8 * bits x.va (12 + 9 * x.level - 1) (12 + 9 * (x.level - 1))
      let e := s.physLe ea 8
      s.ownerOk x.cid ea false = true → s.keyAbsent ea = false →
      (bitAt e 0 = true → bits e 2 1 = 1 → 2 < x.level → Gives (.walkRead cid va .clean) s fun t =>
        ∃ y, t.xlt.walks = [y] ∧ y.level = x.level - 1 ∧ y.table = bits e 51 12 * 2 ^ 12 ∧ y.hw = (x.hw && bitAt e 3) ∧
          y.ua = (x.ua && bitAt e 4) ∧ y.va = x.va ∧ y.who = x.who) ∧
      (bitAt e 0 = true → bits e 2 1 = 2 → x.level ≠ 4 → x.ua = true → bitAt e 4 = true → bitAt e 53 = true →
        Gives (.walkRead cid va .clean) s fun t => t.xlt.walks = [] ∧ ∃ y ∈ t.xlt.tlb2, y.cid = x.cid ∧
          let n := 12 + 9 * (x.level - 1)
          y.bits = n ∧ y.va = x.va / 2 ^ n * 2 ^ n ∧ y.pa = bits e 51 n * 2 ^ n ∧ y.r = true ∧
          y.w = (x.hw && bitAt e 3)) ∧
      (bitAt e 0 = false → Gives (.walkRead cid va .clean) s fun t => t = { s with xlt := { s.xlt with walks := [] } })) ∧
    (let now := s.time (copyNi xltStop)
     let last := max s.xlt.refillAt (s.dom 4).since
     (now / 10000 = last / 10000 → Gives .walkWeirRefill s (· = s)) ∧
     (now / 10000 ≠ last / 10000 → Gives .walkWeirRefill s fun t => t.xlt.refillAt = now ∧
       t.xlt.rate = s.get Reg.XLT_WALK_WEIR_RATE ∧ t.xlt.burst = max 1 (s.get Reg.XLT_WALK_WEIR_BURST) ∧
       { t with xlt := s.xlt, ctxs := s.ctxs } = s ∧ (∀ k, (s.ctx k).st ≠ .free → (t.ctx k).walks =
         min (max 1 (s.get Reg.XLT_WALK_WEIR_BURST)) ((s.ctx k).walks + s.get Reg.XLT_WALK_WEIR_RATE)) ∧
       ∀ k, (s.ctx k).st = .free → t.ctx k = s.ctx k)) ∧
    (∀ value : BitVec 32, (s.xlt.invals.length < 16 → Gives (.xltInval value) s fun t =>
        let k := value.toNat % 1024
        t.get Reg.XLT_INVAL_SEQ_SEQ = (s.get Reg.XLT_INVAL_SEQ_SEQ + 1) % 2 ^ 32 ∧
        t.xlt.invals = s.xlt.invals ++ [(t.get Reg.XLT_INVAL_SEQ_SEQ, k)] ∧
        (∀ e ∈ t.xlt.tlb2, e.cid ≠ k) ∧ (∀ j, ∀ e ∈ Tab.get [] t.xlt.tlb1 j, e.cid ≠ k) ∧ (∀ e ∈ t.xlt.cache, e.cid ≠ k) ∧
        (∀ x ∈ t.xlt.walks, x.cid = k → x.level = 4 ∧ x.path = []) ∧ t.mem = s.mem) ∧
      (16 ≤ s.xlt.invals.length → Gives (.xltInval value) s fun t => t.get Reg.XLT_STATUS_INVAL_OVERRUN = 1 ∧
        { t with regs := s.regs } = s)) ∧
    (∀ n k r, s.xlt.invals = (n, k) :: r → n < 2 ^ 32 → Gives .invalidateComplete s fun t =>
      t.get Reg.XLT_INVAL_DONE_SEQ = n ∧ t.xlt.invals = r ∧ t.xlt.tlb2 = s.xlt.tlb2) ∧
    (∀ (tok : BitVec 16) (x : Susp), (s.suspOf tok.toNat = none →
        (Gives (.resume tok) s fun t => t.get Reg.XLT_FAULT_RESULT_RESULT = 1 ∧ { t with regs := s.regs } = s) ∧
        (Gives (.kill tok) s fun t => t.get Reg.XLT_FAULT_RESULT_RESULT = 1 ∧ { t with regs := s.regs } = s)) ∧
      (s.suspOf tok.toNat = some x → 64 ≤ x.unit → (∀ y ∈ s.xlt.susp, y.written = true) →
        (Gives (.resume tok) s fun t => t.get Reg.XLT_FAULT_RESULT_RESULT = 0 ∧ t.suspOf tok.toNat = none ∧
          ∀ p, (s.queue x.qid).pkt x.index = some p → (t.queue x.qid).pkt x.index = some { p with token := none }) ∧
        (Gives (.kill tok) s fun t => t.get Reg.XLT_FAULT_RESULT_RESULT = 0 ∧ t.suspOf tok.toNat = none ∧
          ∀ p, (s.queue x.qid).pkt x.index = some p → (t.queue x.qid).pkt x.index =
            some (Pkt.finish (.error x.code (uDMA (x.unit - 64)) (some x.fault)) { p with token := none })))) ∧
    (∀ value : BitVec 64, (∀ y ∈ s.xlt.susp, y.written = true) → Gives (.fqBaseWrite value) s fun t =>
      t.get Reg.XLT_FQ_BASE_BASE = bits value.toNat 51 12 ∧ t.get Reg.XLT_FQ_BASE_SIZE_LOG2 = value.toNat % 16 ∧
      t.get Reg.XLT_FQ_HEAD_INDEX = 0 ∧ t.get Reg.XLT_FQ_TAIL_INDEX = 0 ∧ t.get Reg.XLT_STATUS_FQ_BROKEN = 0) ∧
    (∀ value : BitVec 32, (∀ y ∈ s.xlt.susp, y.written = true) → Gives (.fqHeadWrite value) s fun t =>
      t.get Reg.XLT_FQ_HEAD_INDEX = value.toNat ∧ t.get Reg.XLT_FQ_TAIL_INDEX = s.get Reg.XLT_FQ_TAIL_INDEX)

/-- R204, R465, R466, R472, R474, R476, R480, R481, R482, R484, R485, R487, R488, R489, R490, R491, R494, R495, R500, R502: the
mesh.  A NI gives a packet its route and EPOCH and charges its weir, which holds it while in debt or at RATE 0; a router's output
grants one of the packets that wait there, BULK aged before PROMPT before BULK, and drops a packet whose header is lost; a packet
ejects to an OPEN unit, else is dropped or answered UNREACHABLE; a response frees its request, a late one counts; a timeout
frees the tag and is recorded; an epoch switch holds, drains, flips, with the host port's writes taken again, or is abandoned;
probes report every MSH_SAMPLE_PERIOD.
Commands shown to complete: packetInject, routerHeader, packetEject, meshResponse, reqTimeout, switch, epochReqDrained,
epochFlip, epochAbandon, probeSample, weirWrite. -/
def Obligations.MeshTransport : Prop :=
  ∀ s : State, s.domLive 5 = true →
    let m := s.mesh
    let sat := fun (t : State) (f : Fld) => t.get f = min (s.get f + 1) (f.size - 1)
    let bank := s.get Reg.MSH_EPOCH_CURRENT
    (∀ (stop : BitVec 6) (unit vn : BitVec 2) (prompt : Bool) (h : Header) (d : Nat),
      m.waiting.find? (fun h => h.src == stop && h.unit == unit && h.vn == vn && h.prompt == prompt) = some h →
      let n := stop.toNat
      let u := unit.toNat
      let k := weirClass h
      let w := s.weir n u k
      s.heldBySwitch h = false → s.retryWaits h = false → (expects h = true → s.tagFree h = true) → s.unitOpen n = true →
      s.destOf h = some d → d < 36 →
      (vn ≠ 1 → w.1 = true → s.credit n u k < 0 ∨ w.2.1 = 0 → Gives (.packetInject none stop unit vn prompt) s (· = s)) ∧
      ((vn ≠ 1 → w.1 = true → 0 ≤ s.credit n u k ∧ w.2.1 ≠ 0) →
        let p : Header := { h with
          dst := BitVec.ofNat 6 d, route := BitVec.ofNat 32 (s.rt n bank d).2, hops := BitVec.ofNat 5 (s.rt n bank d).1,
          epoch := bank == 1, cpar := cidParity h.cid.toNat }
        Gives (.packetInject none stop unit vn prompt) s fun t =>
        t.mesh.waiting = m.waiting.erase h ∧ t.mesh.flying = m.flying ++ [⟨n, 4, 0, p⟩] ∧
          t.mesh.out = (if expects h then m.out ++ [⟨p, s.time (copyNi n)⟩] else m.out) ∧
        (vn = 0 → t.get (Reg.MSH_INIT_OUT_BYTES_OUT n u) =
          (s.get (Reg.MSH_INIT_OUT_BYTES_OUT n u) + 64 * h.len.toNat) % 2 ^ 48) ∧
        (vn ≠ 1 → w.1 = true → t.credit n u k = s.credit n u k - (((1 + h.len.toNat) * 4096 : Nat) : Int)))) ∧
    (∀ (stop : BitVec 6) (out : BitVec 3) (stalls : BitVec 32) (body : EccEnd),
      let n := stop.toNat
      let o := out.toNat
      (s.grant n o = none → s.atOutput n o = [] → Gives (.routerHeader stop out .clean body stalls) s (· = s)) ∧
      (∀ f, m.flying = [f] → s.grant n o = some (0, f) → Gives (.routerHeader stop out .clean .clean stalls) s fun t =>
        t.get (Reg.MSH_PROBE_STALLS n o) =
          min (s.get (Reg.MSH_PROBE_STALLS n o) + stalls.toNat) ((Reg.MSH_PROBE_STALLS n o).size - 1)) ∧
      (∀ k f, s.grant n o = some (k, f) →
        let left := fun (t : State) => t.mesh.flying.length + 1 = m.flying.length
        (∀ e ∈ s.atOutput n o, f.rank ≤ e.2.rank) ∧
        (∀ j, o < 4 → hopTo n o = some j → Gives (.routerHeader stop out .clean .clean 0) s fun t =>
          t.mesh.flying.length = m.flying.length ∧ t.mesh.flying.getLast? =
            some ⟨j, facing o, 0, { f.h with route := f.h.route >>> 2, hops := f.h.hops - 1 }⟩ ∧
          Tab.get 4 t.mesh.turn (turnKey n o f.channel) = f.port ∧
          t.get (Reg.MSH_PROBE_FLITS n o) = (s.get (Reg.MSH_PROBE_FLITS n o) + 1 + f.h.len.toNat) % 2 ^ 32 ∧
          { t with mesh := m, regs := s.regs } = s) ∧
        (Gives (.routerHeader stop out .uncorrectable body 0) s fun t => left t ∧ t.mesh.arrived = m.arrived ∧
          sat t Reg.MSH_COUNTS_ROUTE_ERR ∧ t.conc.nextId = s.conc.nextId + 1) ∧
        (o = 4 → s.unitOpen n = true → Gives (.packetEject stop) s fun t => left t ∧ t.mesh.arrived = m.arrived ++ [f.h] ∧
          { t with mesh := m, regs := s.regs } = s) ∧
        (o = 4 → s.unitOpen n = false → f.h.vn = 1 → Gives (.packetEject stop) s fun t => left t ∧
          t.mesh.arrived = m.arrived ∧ sat t Reg.MSH_COUNTS_UNREACHABLE) ∧
        (o = 4 → s.unitOpen n = false → f.h.vn = 0 → expects f.h = true → Gives (.packetEject stop) s fun t =>
          t.mesh.arrived = m.arrived ∧ t.mesh.flying.length = m.flying.length ∧ ∀ a ∈ t.mesh.flying.getLast?, a.stop = n ∧
            a.h.vn = 1 ∧ a.h.status.toNat = stUnreachable ∧ a.h.dst = f.h.src ∧ a.h.unit = f.h.unit ∧ a.h.tag = f.h.tag ∧
            a.h.len = 0))) ∧
    (∀ h : Header, s.outOf h = none → Gives (.meshResponse h) s fun t =>
      sat t Reg.MSH_COUNTS_LATE ∧ t.mesh = { m with arrived := m.arrived.erase h }) ∧
    (∀ (h : Header) (o : OutReq), s.outOf h = some o → 30 ≤ h.dst.toNat → h.poison = false → h.status.toNat = stOk →
      Gives (.meshResponse h) s fun t => t.mesh.out = m.out.erase o ∧ t.mesh.waiting = m.waiting ∧
        t.get (Reg.MSH_INIT_IN_BYTES_IN h.dst.toNat h.unit.toNat) =
          (s.get (Reg.MSH_INIT_IN_BYTES_IN h.dst.toNat h.unit.toNat) + 64 * h.len.toNat) % 2 ^ 48 ∧
        { t with mesh := m, regs := s.regs, mon := s.mon } = s) ∧
    (∀ (stop tag : BitVec 6) (unit : BitVec 2) (o : OutReq),
      m.out.find? (fun o => o.h.src == stop && o.h.unit == unit && o.h.tag == tag) = some o →
      let n := stop.toNat
      let now := s.time (copyNi n)
      let late := o.since + max 1 (s.get Reg.MSH_REQ_TIMEOUT_TICKS)
      (now < late → Gives (.reqTimeout stop unit tag) s (· = s)) ∧
      (late ≤ now → n < 6 ∨ 34 ≤ n → Gives (.reqTimeout stop unit tag) s fun t =>
        t.mesh.out = m.out.erase o ∧ t.mesh.freed = m.freed ++ [(n, unit.toNat, tag.toNat, now)] ∧
        sat t Reg.MSH_COUNTS_TIMEOUTS ∧ sat t (Reg.MSH_INIT_ERR_TIMEOUTS n unit.toNat) ∧
        t.conc.nextId = s.conc.nextId + 1)) ∧
    (∀ value : BitVec 32, value.getLsbD 1 = true → s.on Reg.MSH_EPOCH_SWITCH = false → s.on Reg.PWR_STOP_STATUS_BUSY = false →
      (s.badRoute (1 - bank) = none → s.mapOk (1 - bank) = true → Gives (.switch value) s fun t =>
        t.get Reg.MSH_EPOCH_SWITCH = 1 ∧ t.get Reg.MSH_EPOCH_STATE = 1 ∧ t.get Reg.MSH_EPOCH_CURRENT = bank ∧
        t.mesh = { m with holdSince := some (s.time copySpine) }) ∧
      (s.badRoute (1 - bank) ≠ none → Gives (.switch value) s fun t =>
        t.get Reg.MSH_EPOCH_INVALID = 1 ∧ t.on Reg.MSH_EPOCH_SWITCH = false ∧
        t.get Reg.MSH_EPOCH_STATE = s.get Reg.MSH_EPOCH_STATE ∧ sat t Reg.MSH_COUNTS_ROUTE_ERR ∧ t.mesh = m ∧
        t.conc.nextId = s.conc.nextId + 1)) ∧
    (s.get Reg.MSH_EPOCH_STATE = 1 → (∀ f ∈ m.flying, f.h.vn = 1) →
      Gives .epochReqDrained s fun t => t.get Reg.MSH_EPOCH_STATE = 2 ∧ { t with regs := s.regs } = s) ∧
    (s.stop = none → s.host.withheld = [] →
      let flips := s.get Reg.MSH_EPOCH_STATE = 2 ∧ m.flying = []
      (flips → s.host.places = [] → Gives .epochFlip s fun t => t.get Reg.MSH_EPOCH_CURRENT = 1 - bank ∧
        t.get Reg.MSH_EPOCH_STATE = 0 ∧ t.get Reg.MSH_EPOCH_SWITCH = 0 ∧ t.mesh = { m with holdSince := none }) ∧
      (∀ w, flips → s.host.places = [w] → w.cancel = false → s.doorbellCid w.qid = none → Gives .epochFlip s fun t =>
        t.get Reg.MSH_EPOCH_CURRENT = 1 - bank ∧ t.host.places = [] ∧ sat t Reg.OBJ_COUNTS_STRAY_DB) ∧
      (∀ t0, m.holdSince = some t0 →
        let due := t0 + max 1 (s.get Reg.MSH_EPOCH_LIMIT_TICKS)
        (s.time copySpine < due → Gives .epochAbandon s (· = s)) ∧
        (due ≤ s.time copySpine → s.get Reg.MSH_EPOCH_STATE ≠ 0 → s.host.places = [] → Gives .epochAbandon s fun t =>
          t.get Reg.MSH_EPOCH_ABANDONED = 1 ∧ t.get Reg.MSH_EPOCH_STATE = 0 ∧ t.get Reg.MSH_EPOCH_CURRENT = bank ∧
          t.mesh = { m with holdSince := none } ∧ t.conc.nextId = s.conc.nextId + 1))) ∧
    (let due := max m.probeAt (s.dom 5).since + max 1 (s.get Reg.MSH_SAMPLE_PERIOD_TICKS)
     (s.time copySpine < due → Gives .probeSample s (· = s)) ∧
     (due ≤ s.time copySpine → Gives .probeSample s fun t => t.mesh = { m with probeAt := s.time copySpine } ∧
       t.conc.sent = s.conc.sent ++ (List.range 36).map (fun n => Report.sampleProbe n (s.probeCounts n)) ∧
       { t with mesh := m, conc := s.conc } = s)) ∧
    (∀ (stop : BitVec 6) (unit cls : BitVec 2) (value : BitVec 64), isClStop stop.toNat = false →
      unit.toNat < unitsAt stop.toNat → Gives (.weirWrite stop unit cls value) s fun t =>
        let n := stop.toNat
        let u := unit.toNat
        let k := cls.toNat
        t.get (Reg.MSH_WEIR_EN n u k) = bits value.toNat 63 63 ∧ t.get (Reg.MSH_WEIR_RATE n u k) = bits value.toNat 60 48 ∧
        t.get (Reg.MSH_WEIR_BURST n u k) = bits value.toNat 47 32 ∧
        (value.getLsbD 63 = true → s.on (Reg.MSH_WEIR_EN n u k) = false →
          t.credit n u k = (((if bits value.toNat 47 32 = 0 then 9 else bits value.toNat 47 32) * 4096 : Nat) : Int)))

/-- R507, R508, R509, R535, R537, R538, R705: a link port trains.  EN starts it in DETECT and clearing EN disables it; the steps
pass one to the next within their limits, with the lanes they find, to SECURE or ACTIVE; a failed step waits for the next
attempt, the third goes to DOWN with a record; a retrain keeps the link layer and replays, or takes the port down; a port on
which nothing arrives for LNK_PEER_TIMEOUT retrains.  No other port changes.
Commands shown to complete: linkPortEnable, trainingStep, trainingStepTimeout, trainingRetry, retrain, retrainEnd,
peerSilent. -/
def Obligations.LinkTraining : Prop :=
  ∀ (s : State) (port : BitVec 3), s.yard = true → s.domLive 8 = true → port.toNat < 6 →
    let n := port.toNat
    let p := s.port n
    let st := s.portState n
    let now := s.time (copyLink n)
    let from_ := fun (x : Port) => { x with since := now, heard := now, ackAt := now }
    let inTime := s.portAge n ≤ stepLimit st
    let others := fun (t : State) => ∀ k, k ≠ n → t.port k = s.port k
    let goes := fun (v : Nat) (x : Port) (t : State) => t.portState n = v ∧ t.port n = from_ x ∧ others t
    (∀ v : BitVec 32, v.getLsbD 1 = false →
      (s.inStoppage 4 n = false → v.getLsbD 0 = true → s.get (Reg.LNK_PORT_CTRL_EN n) = 0 →
        Gives (.linkPortEnable port v) s fun t => goes pDetect Port.reset t ∧ t.get (Reg.LNK_PORT_CTRL_EN n) = 1 ∧
          t.get (Reg.LNK_PORT_CTRL_DIM n) = bits v.toNat 7 6 ∧ t.get (Reg.LNK_PORT_CTRL_MIN_WIDTH n) = bits v.toNat 5 4) ∧
      (s.inStoppage 4 n = false → v.getLsbD 0 = false → s.on (Reg.LNK_PORT_CTRL_EN n) = true →
        Gives (.linkPortEnable port v) s fun t =>
          t.portState n = pDisabled ∧ t.port n = Port.reset ∧ t.get (Reg.LNK_PORT_CTRL_EN n) = 0 ∧ others t) ∧
      (s.inStoppage 4 n = true → Gives (.linkPortEnable port v) s fun t => t.portState n = st ∧ t.link = s.link ∧
        t.get (Reg.LNK_PORT_CTRL_EN n) = s.get (Reg.LNK_PORT_CTRL_EN n))) ∧
    (∀ fin : TrainEnd, stepLimit st < s.portAge n → Gives (.trainingStep port fin) s (· = s)) ∧
    (∀ lanes : BitVec 8, inTime → st = pDetect →
      Gives (.trainingStep port (.detect lanes)) s (goes pEq { p with lanes := lanes.toNat })) ∧
    (inTime → st = pEq → Gives (.trainingStep port .eq) s (goes pAlign p)) ∧
    (∀ (inv mis : BitVec 8) (rev : Bool), inTime → st = pAlign → Gives (.trainingStep port (.align inv rev mis)) s
      (goes pWidth { p with lanes := logical rev (p.lanes &&& (255 - mis.toNat)), inverted := inv.toNat &&& p.lanes, reversed := rev })) ∧
    (∀ good : BitVec 8, inTime → st = pWidth →
      (∀ g, widest (p.lanes &&& good.toNat) = some g → s.minWidth n ≤ g.2 → Gives (.trainingStep port (.width good)) s fun t =>
        t.portState n = pFecLock ∧ t.get (Reg.LNK_PORT_STATUS_WIDTH n) = g.2 ∧ t.get (Reg.LNK_PORT_STATUS_LANE_OK n) = g.1 ∧
        others t) ∧
      ((∀ g, widest (p.lanes &&& good.toNat) = some g → g.2 < s.minWidth n) → p.attempts < 2 →
        Gives (.trainingStep port (.width good)) s fun t => t.portState n = pRetryWait ∧
          (t.port n).attempts = p.attempts + 1 ∧ (t.port n).failStep = pWidth ∧ others t)) ∧
    (inTime → st = pFecLock → Gives (.trainingStep port .fecLock) s (goes pIdent p)) ∧
    (∀ (die : BitVec 9) (peer : BitVec 3), inTime → st = pIdent → s.on (Reg.LNK_PORT_CTRL_CHECK_PEER n) = false →
      s.stop = none →
      (Gives (.trainingStep port (.ident die peer true)) s fun t => goes pSecure { p with peerEnc := true } t ∧
        t.get (Reg.LNK_PEER_VALID n) = 1 ∧ t.get (Reg.LNK_PEER_PEER_DIE n) = die.toNat ∧
        t.get (Reg.LNK_PEER_PEER_PORT n) = peer.toNat) ∧
      (s.on Reg.LNK_ADMIT_REQUIRE_ENC = false → Gives (.trainingStep port (.ident die peer false)) s fun t =>
        goes pActive { p with peerEnc := false, attempts := 0 } t ∧ t.get (Reg.LNK_PORT_STATUS_SECURE n) = 0 ∧
        t.get (Reg.LNK_PEER_PEER_DIE n) = die.toNat)) ∧
    (∀ (die : BitVec 9) (peer : BitVec 3) (enc : Bool), inTime → st = pIdent → s.on (Reg.LNK_PORT_CTRL_CHECK_PEER n) = true →
      die.toNat ≠ s.get (Reg.LNK_EXPECT_DIE n) → p.attempts < 2 →
      Gives (.trainingStep port (.ident die peer enc)) s fun t =>
        goes pRetryWait { p with attempts := p.attempts + 1, failStep := pIdent } t ∧ t.conc.nextId = s.conc.nextId + 1) ∧
    (inTime → st = pSecure → p.keyed = true → s.stop = none → Gives (.trainingStep port .secure) s fun t =>
      goes pActive { p with attempts := 0 } t ∧ t.get (Reg.LNK_PORT_STATUS_SECURE n) = 1) ∧
    (1 ≤ st → st ≤ pSecure →
      (inTime → Gives (.trainingStepTimeout port) s (· = s)) ∧
      (stepLimit st < s.portAge n → st ≠ pSecure → p.attempts < 2 → Gives (.trainingStepTimeout port) s
        (goes pRetryWait { p with attempts := p.attempts + 1, failStep := st })) ∧
      (stepLimit st < s.portAge n → st = pSecure → p.attempts < 2 → Gives (.trainingStepTimeout port) s fun t =>
        goes pRetryWait { p with attempts := p.attempts + 1, failStep := st } t ∧ t.conc.nextId = s.conc.nextId + 1) ∧
      (stepLimit st < s.portAge n → st ≠ pSecure → p.attempts = 2 → p.tx = [] → s.stop = none →
        s.get Reg.LNK_TIME_CTRL_UPSTREAM ≠ n →
        Gives (.trainingStepTimeout port) s fun t => t.portState n = pDown ∧ t.conc.nextId = s.conc.nextId + 1 ∧
          t.get (Reg.LNK_PORT_STATUS_WIDTH n) = 0 ∧ (t.port n).attempts = 3 ∧ others t)) ∧
    (s.on (Reg.LNK_PORT_CTRL_EN n) = true →
      let fresh := { p with lanes := 0, inverted := 0, reversed := false, excluded := 0, keyed := false }
      (st = pRetryWait → s.portAge n < 100000 → Gives (.trainingRetry port) s (· = s)) ∧
      (st = pRetryWait → 100000 ≤ s.portAge n → Gives (.trainingRetry port) s (goes pDetect fresh)) ∧
      (st = pDown → s.portAge n < 100000000 → Gives (.trainingRetry port) s (· = s)) ∧
      (st = pDown → 100000000 ≤ s.portAge n → Gives (.trainingRetry port) s (goes pDetect { fresh with attempts := 3 }))) ∧
    (∀ l : BitVec 3,
      (st = pActive → Gives (.retrain port (.lane l)) s (goes pRetrain { p with excluded := p.excluded ||| 2 ^ l.toNat })) ∧
      (st ≠ pActive → Gives (.retrain port (.lane l)) s (· = s))) ∧
    (st = pActive → Gives (.retrain port .driver) s fun t => goes pRetrain p t ∧ t.get (Reg.LNK_PORT_CTRL_RETRAIN n) = 1) ∧
    (let due := p.heard + max 1 (s.get Reg.LNK_PEER_TIMEOUT_TICKS)
     (now < due → Gives (.peerSilent port) s (· = s)) ∧
     (due ≤ now → st = pActive → Gives (.peerSilent port) s (goes pRetrain p))) ∧
    (∀ (good : BitVec 8) (g : Nat × Nat), inTime → st = pRetrain → widest (good.toNat &&& (255 - p.excluded)) = some g →
      s.minWidth n ≤ g.2 → Gives (.retrainEnd port (.lanes good)) s fun t =>
        goes pActive { p with lanes := good.toNat &&& (255 - p.excluded), again := p.replay } t ∧
        t.get (Reg.LNK_PORT_STATUS_WIDTH n) = g.2 ∧ t.get (Reg.LNK_PORT_STATUS_LANE_OK n) = g.1 ∧
        t.get (Reg.LNK_PORT_CTRL_RETRAIN n) = 0) ∧
    (∀ fin : RetrainFin, st = pRetrain → fin = .failed ∨ stepLimit st < s.portAge n → p.tx = [] →
      s.get Reg.LNK_TIME_CTRL_UPSTREAM ≠ n →
      Gives (.retrainEnd port fin) s fun t =>
        t.portState n = pDown ∧ (t.port n).replay = [] ∧ t.conc.nextId = s.conc.nextId + 1 ∧ others t)

/-- R510, R511, R512, R533, R534, R539: frames and sessions.  An ACTIVE port sends one frame at a time, a replayed one first,
never more slots of a channel than the peer has room for, and a lone packet in the next DATA frame, kept until acknowledged;
it accepts the frame it expects next and delivers its packets, NAKs a bad one once, counts a duplicate; LNK_ACK_TIMEOUT ticks
without progress replay all; an admitted peer's handshake loads fresh keys under the other KEPOCH.
Commands shown to complete: linkFrameSend, linkFrameReceive, ackTimeout, sessionHandshake, sessionRekey. -/
def Obligations.LinkFrames : Prop :=
  ∀ (s : State) (port : BitVec 3), s.yard = true → s.domLive 8 = true → port.toNat < 6 →
    let n := port.toNat
    let p := s.port n
    let sat := fun (t : State) (f : Fld) => t.get f = min (s.get f + 1) (f.size - 1)
    let room := fun (q : Port) => ∀ vc, Tab.get 0 q.used vc ≤ 512
    let now := s.time (copyLink n)
    let others := fun (t : State) => ∀ k, k ≠ n → t.port k = s.port k
    (s.portState n = pActive →
      (∀ ty : FrameTy, Gives (.linkFrameSend port ty) s fun t => (ty ≠ .ident →
        ∃ f : LFrame, (t.port n).sent = p.sent ++ [f] ∧ f.ack.toNat = p.ackNow % 4096 ∧ f.ackv = p.rxAny ∧ f.nak = p.nakDue) ∧
        (room p → room (t.port n)) ∧ others t) ∧
      (∀ f r, p.again = f :: r → Gives (.linkFrameSend port .data) s fun t => (t.port n).again = r ∧
        (t.port n).sent = p.sent ++ [p.stampFrame f] ∧ (t.port n).replay = p.replay ∧ (t.port n).tx = p.tx) ∧
      (∀ (h : Header) (vc : BitVec 3), vc.toNat < 6 → h.len = 0 → p.again = [] → p.replay.length < 512 →
        p.tx = [(vc.toNat, [.head vc h])] → Tab.get 0 p.used vc.toNat < 512 → s.on (Reg.LNK_PORT_STATUS_SECURE n) = false →
        Gives (.linkFrameSend port .data) s fun t => ∃ f : LFrame,
          f.ty = .data ∧ f.seq = BitVec.ofNat 12 p.txSeq ∧ f.slots = [.head vc h] ∧ (t.port n).replay = p.replay ++ [f] ∧
          (t.port n).sent = p.sent ++ [p.stampFrame f] ∧ (t.port n).txSeq = (p.txSeq + 1) % 4096 ∧
          t.get (Reg.LNK_TX_BYTES_BYTES n) = (s.get (Reg.LNK_TX_BYTES_BYTES n) + 64) % 2 ^ 48) ∧
      (∀ (f : LFrame) (vc : BitVec 3) (h : Header) (c : BitVec 16), f.ty = .data → f.nak = false → f.ackv = false →
        f.slots = [.head vc h] → h.len = 0 → s.on (Reg.LNK_PORT_STATUS_SECURE n) = false →
        (f.seq.toNat = p.rxSeq → Gives (.linkFrameReceive port f .good c false) s fun t =>
          t.link.arrived = s.link.arrived ++ [(n, h)] ∧ (t.port n).rxSeq = (p.rxSeq + 1) % 4096 ∧
          t.get (Reg.LNK_RX_BYTES_BYTES n) = (s.get (Reg.LNK_RX_BYTES_BYTES n) + 64) % 2 ^ 48 ∧
          t.get (Reg.LNK_FEC_COUNTS_CORRECTED n) = (s.get (Reg.LNK_FEC_COUNTS_CORRECTED n) + c.toNat) % 2 ^ 48 ∧ others t) ∧
        (f.seq.toNat ≠ p.rxSeq → newer f.seq.toNat ((p.rxSeq + 4095) % 4096) 12 = false →
          Gives (.linkFrameReceive port f .good c false) s fun t => sat t (Reg.LNK_LL_COUNTS_DUP_FRAMES n) ∧
            t.link.arrived = s.link.arrived ∧ t.port n = { p with heard := now } ∧ others t) ∧
        (f.seq.toNat ≠ p.rxSeq → newer f.seq.toNat ((p.rxSeq + 4095) % 4096) 12 = true →
          Gives (.linkFrameReceive port f .good c false) s fun t => t.link.arrived = s.link.arrived ∧
            t.port n = { p with heard := now, nakDue := !p.nakSent || p.nakDue } ∧ others t)) ∧
      (∀ (f : LFrame) (c : BitVec 16) (u : Bool), Gives (.linkFrameReceive port f .crcBad c u) s fun t =>
        sat t (Reg.LNK_LL_COUNTS_CRC_ERR n) ∧ t.port n = { p with heard := now, nakDue := !p.nakSent || p.nakDue } ∧
        t.link.arrived = s.link.arrived ∧ others t) ∧
      (let due := p.ackAt + max 1 (s.get Reg.LNK_ACK_TIMEOUT_TICKS)
       (now < due → Gives (.ackTimeout port) s (· = s)) ∧
       (due ≤ now → p.replay ≠ [] → p.stalls + 1 < 8 → Gives (.ackTimeout port) s fun t =>
         t.port n = { p with again := p.replay, stalls := p.stalls + 1, ackAt := now } ∧ sat t (Reg.LNK_LL_COUNTS_REPLAYS n) ∧
         others t) ∧
       (due ≤ now → p.replay ≠ [] → 8 ≤ p.stalls + 1 → Gives (.ackTimeout port) s fun t => t.portState n = pRetrain ∧
         (t.port n).again = p.replay ∧ t.conc.nextId = s.conc.nextId + 1 ∧ others t)) ∧
      (s.domLive 2 = true → s.on (Reg.LNK_PORT_STATUS_SECURE n) = true → 2 ^ 31 ≤ p.groups → p.groupLen = 0 →
        Gives (.sessionRekey port) s fun t => t.port n = { p with keyed := true, kepoch := !p.kepoch, groups := 0 } ∧
          others t)) ∧
    (s.domLive 2 = true → s.portState n = pSecure → ∀ (die : BitVec 9) (hash : BitVec 384),
      (s.admits die.toNat hash.toNat = true → Gives (.sessionHandshake port (.peer die hash true)) s fun t =>
        t.port n = { p with keyed := true, kepoch := !p.kepoch, groups := 0 } ∧ others t) ∧
      (s.admits die.toNat hash.toNat = false → p.attempts < 2 → Gives (.sessionHandshake port (.peer die hash true)) s fun t =>
        t.portState n = pRetryWait ∧ (t.port n).keyed = p.keyed ∧ t.conc.nextId = s.conc.nextId + 1 ∧ others t))

/-- R513, R515, R517, R518, R519, R520, R522, R526, R527, R528: packets between dies.  A request for another die becomes a link
operation that its stop holds and sends by the port LNK_DEST names; one with no port left is discarded and counted; at its
destination it is issued again, an atomic once only; the response clears the entry and answers the initiator; a read or atomic
is sent again up to three times, and an entry given up answers with the link fault; reductions combine, or end partial.
Commands shown to complete: zlRoute, lRead, lWrite, lWriteMasked, lAtomic, lMboxSend, lReduce, lRspData, lRspAck,
remoteResend, remoteWriteGiveup, reduceWaitExpire. -/
def Obligations.LinkPackets : Prop :=
  ∀ (s : State) (stop : BitVec 3) (h : Header), s.yard = true → s.domLive 8 = true → stop.toNat < 6 → s.ownDie < 512 →
    let n := stop.toNat
    let op := h.op.toNat
    let own := BitVec.ofNat 9 s.ownDie
    let l := s.link
    let now := s.time (copyLink n)
    let sat := fun (t : State) (f : Fld) => t.get f = min (s.get f + 1) (f.size - 1)
    let offered := fun (t : State) (q : Header) => .head (BitVec.ofNat 3 (linkVc q)) q ∈ Tab.get [] (t.port n).tx (linkVc q)
    let issued := fun (t : State) (o dst : Nat) => t.mesh.waiting = s.mesh.waiting ++ [{ h with
      op := BitVec.ofNat 8 o, src := BitVec.ofNat 6 n, unit := 0, tag := BitVec.ofNat 6 (s.freeTag n 0), vn := 0,
      dst := BitVec.ofNat 6 dst }]
    let either := fun (t : State) (q : Header) => offered t q ∨ offered t { q with lclass := !q.lclass }
    let answered := fun (t : State) (q : Header) (status lf : Nat) =>
      let p := t.mesh.waiting.getLast?.getD h
      t.mesh.waiting = s.mesh.waiting ++ [p] ∧ p.dst = q.origStop ∧ p.unit = q.origUnit ∧ p.tag = q.origTag ∧ p.vn = 1 ∧
      p.status.toNat = status ∧ (lf ≠ 0 → p.operand.toNat = lf + 256)
    (op = opRead ∨ op = opWrite ∨ op = opMasked → inReduce h.addr.toNat = false →
      (l.out.filter fun r => r.h.hold.toNat == n).length < 1024 → s.destPort (paDie h.addr.toNat) = some n →
      0 < s.get Reg.LNK_CTRL_TTL_INIT → s.get Reg.LNK_CTRL_TTL_INIT < 32 →
      Gives (.zlRoute stop h) s fun t =>
        let r : LinkReq := t.link.out.getLast?.getD ⟨h, 0, 0, 0⟩
        t.link.out = l.out ++ [r] ∧ r.first = now ∧ r.last = now ∧ r.resends = 0 ∧ r.h.op.toNat = linkOp op ∧
          r.h.dstDie.toNat = paDie h.addr.toNat ∧ r.h.srcDie = own ∧
        r.h.origStop = h.src ∧ r.h.origUnit = h.unit ∧ r.h.origTag = h.tag ∧ r.h.hold = stop ∧ r.h.addr = h.addr ∧
        r.h.data = h.data ∧ either t r.h) ∧
    (isLReq op = true → h.dstDie ≠ own → h.srcDie ≠ own → s.destPort h.dstDie.toNat = none →
      Gives (.zlRoute stop h) s fun t => sat t Reg.LNK_COUNTS_TTL_DROP ∧ t.conc.nextId = s.conc.nextId + 1 ∧
        t.link.out = l.out) ∧
    (h.dstDie = own →
      (op = opLRead → Gives (.lRead stop h) s fun t => issued t opRead (s.mpStopOf h.addr.toNat)) ∧
      (op = opLWrite → Gives (.lWrite stop h) s fun t => issued t opWrite (s.mpStopOf h.addr.toNat)) ∧
      (op = opLMasked → Gives (.lWriteMasked stop h) s fun t => issued t opMasked (s.mpStopOf h.addr.toNat)) ∧
      (op = opLSend → Gives (.lMboxSend stop h) s fun t => issued t opMailbox kprStop) ∧
      (op = opLAtomic → s.amoBusy h = false → ∀ e, s.amoRead h.srcDie.toNat h.reqId.toNat = some e →
        (bitAt e 31 = false → Gives (.lAtomic stop h) s fun t => issued t opAtomic (s.mpStopOf h.addr.toNat)) ∧
        (bitAt e 31 = true → e % 2 ^ 20 = h.reqId.toNat → Gives (.lAtomic stop h) s fun t =>
          sat t Reg.LNK_COUNTS_DUP_ATOMIC ∧ t.mem = s.mem)) ∧
      (∀ r, s.entryFor h = some r → h.lfault = 0 → h.status.toNat = stOk → s.stop = none →
        (op = opLData → Gives (.lRspData h) s fun t => t.link.out = l.out.erase r ∧ answered t r.h stOk 0) ∧
        (op = opLAck → Gives (.lRspAck h) s fun t => t.link.out = l.out.erase r ∧ answered t r.h stOk 0)) ∧
      (∀ r, s.entryFor h = some r → h.lfault ≠ 0 → s.stop = none → op = opLAck → Gives (.lRspAck h) s fun t =>
        t.link.out = l.out.erase r ∧ answered t r.h stUnreachable h.lfault.toNat)) ∧
    (∀ (os : BitVec 6) (ou : BitVec 2) (ot : BitVec 6) (r : LinkReq), s.heldReq n os.toNat ou.toNat ot.toNat = some r →
      s.stop = none →
      (resends r.h.op.toNat = true → now < r.last + max 1 (s.get Reg.LNK_RESEND_T_TICKS) →
        Gives (.remoteResend stop os ou ot) s (· = s)) ∧
      (resends r.h.op.toNat = false → now < r.first + 4 * max 1 (s.get Reg.LNK_RESEND_T_TICKS) →
        Gives (.remoteWriteGiveup stop os ou ot) s (· = s)) ∧
      (resends r.h.op.toNat = true → r.last + max 1 (s.get Reg.LNK_RESEND_T_TICKS) ≤ now →
        (r.resends < 3 → s.destPort r.h.dstDie.toNat = some n → r.h.srcDie = own → r.h.ttl ≠ 0 →
          Gives (.remoteResend stop os ou ot) s fun t => sat t Reg.LNK_COUNTS_RESENDS ∧
            t.heldReq n os.toNat ou.toNat ot.toNat = some { r with last := now, resends := r.resends + 1 } ∧
            either t r.h) ∧
        (3 ≤ r.resends → Gives (.remoteResend stop os ou ot) s fun t => t.link.out = l.out.erase r ∧
          t.conc.nextId = s.conc.nextId + 1 ∧ answered t r.h stUnreachable 0x48)) ∧
      (resends r.h.op.toNat = false → r.first + 4 * max 1 (s.get Reg.LNK_RESEND_T_TICKS) ≤ now →
        Gives (.remoteWriteGiveup stop os ou ot) s fun t => t.link.out = l.out.erase r ∧
          t.conc.nextId = s.conc.nextId + 1 ∧ answered t r.h stUnreachable 0x49)) ∧
    (op = opLReduce → h.dstDie ≠ own → h.srcDie ≠ own → s.on (Reg.LNK_RED_CFG_VALID h.group.toNat) = true →
      s.on (Reg.LNK_RED_CFG_LOCAL h.group.toNat) = false → s.destPort h.dstDie.toNat = some n →
      let fan := s.get (Reg.LNK_RED_CFG_FANIN h.group.toNat)
      let from_ := (s.ingress h).getD 6
      (l.combine = [] → 1 < fan → Gives (.lReduce stop h) s fun t => t.link.combine =
        [⟨n, h.dstDie.toNat, h.group.toNat, h.addr.toNat, none, [(from_, h)], h.contrib.toNat, now⟩]) ∧
      (∀ (g : Header) (p : Nat), l.combine = [⟨n, h.dstDie.toNat, h.group.toNat, h.addr.toNat, none, [(p, g)],
          g.contrib.toNat, now⟩] → fan = 2 → p < from_ → g.dstDie = h.dstDie → g.srcDie ≠ own → 1 < g.ttl.toNat → from_ ≤ 6 →
        Gives (.lReduce stop h) s fun t => t.link.combine = [] ∧ ∃ q ∈ (t.port n).waiting, q.dstDie = h.dstDie ∧
          q.contrib = g.contrib + h.contrib ∧ q.len = BitVec.ofNat 4 (max g.len.toNat h.len.toNat) ∧
          (s.redBf h.group.toNat = false → max g.len.toNat h.len.toNat ≤ 8 → ∀ i, i < 16 * max g.len.toNat h.len.toNat →
            q.data.toNat / 2 ^ (32 * i) % 2 ^ 32 = redSum false [g, h] i))) ∧
    (∀ (die : BitVec 9) (group : BitVec 8) (offset : BitVec 17) (e : Combine),
      l.combine.find? (fun e => e.stop == n && e.die == die.toNat && e.group == group.toNat && e.offset == offset.toNat) =
        some e →
      (now < e.since + max 1 (s.get Reg.LNK_RED_WAIT_TICKS) → Gives (.reduceWaitExpire stop die group offset) s (· = s)) ∧
      (e.since + max 1 (s.get Reg.LNK_RED_WAIT_TICKS) ≤ now → Gives (.reduceWaitExpire stop die group offset) s fun t =>
        t.link.combine = l.combine.erase e ∧ (die = own → t.link.written = l.written ++ [(group.toNat, offset.toNat)] ∧
          s.conc.nextId + 1 ≤ t.conc.nextId)))

/-- R90, R91, R523, R524, R525, R530, R531, R535: the mailbox store, time across dies, and a link port's reset.  A send is
accepted, refused or finds its box full; a receive takes the oldest message, waits, or returns at once; a new binding drops the
messages.  Every 10,000 t a time exchange shows offset and round trip and steers or steps the clock; with no TIME frames for 10 periods the follower holds.  A
port's reset is a lost peer and training anew.
Commands shown to complete: linkPort, lMboxRecv, mailbox, mboxBindWrite, timeSyncExchange, timeHoldover. -/
def Obligations.MailboxesAndDieTime : Prop :=
  ∀ s : State,
    (s.domLive 2 = true → ∀ h : Header,
      let m := h.addr.toNat % 4096
      let b := s.mboxBind m
      let src := if h.src.toNat < 6 then h.srcDie.toNat else s.ownDie
      let lines := (List.range h.len.toNat).map fun k => h.data.toNat / 2 ^ (512 * k) % 2 ^ 512
      let told := fun (t : State) (r : Nat) => ∃ p : Header, t.mesh.waiting = s.mesh.waiting ++ [p] ∧ p.dst = h.src ∧
        p.unit = h.unit ∧ p.tag = h.tag ∧ p.vn = 1 ∧ p.status.toNat = stOk ∧ p.operand.toNat = r
      (h.op.toNat = opMailbox → h.dst.toNat = kprStop → h.poison = false →
        (b.valid = true → b.mode = 0 → m ≠ 4095 → msgLines (s.mbox m) + lines.length ≤ b.depth →
          s.get Reg.KPR_MBOX_USE_LINES + lines.length ≤ 2048 → s.mail.recvs = [] → Gives (.mailbox h) s fun t =>
            t.mbox m = s.mbox m ++ [⟨src, lines⟩] ∧ (∀ k, k ≠ m → t.mbox k = s.mbox k) ∧ told t mAccepted) ∧
        (b.valid = true → b.mode = 0 → m ≠ 4095 → b.depth < msgLines (s.mbox m) + lines.length →
          Gives (.mailbox h) s fun t => t.mail = s.mail ∧ told t mFull) ∧
        (b.valid = false → Gives (.mailbox h) s fun t => t.mail = s.mail ∧ told t mRefused)) ∧
      (h.op.toNat = opLRecv → h.dst.toNat = kprStop →
        (∀ g rest, b.valid = true → b.cid = h.cid.toNat → s.mbox m = g :: rest → Gives (.lMboxRecv h) s fun t =>
          t.mbox m = rest ∧ (∀ k, k ≠ m → t.mbox k = s.mbox k) ∧ ∃ p : Header, t.mesh.waiting = s.mesh.waiting ++ [p] ∧
            p.dst = h.src ∧ p.len = BitVec.ofNat 4 (min h.count.toNat g.lines.length)) ∧
        (b.valid = true → b.cid = h.cid.toNat → s.mbox m = [] → h.operand.getLsbD 0 = true →
          Gives (.lMboxRecv h) s fun t => t.mail = s.mail ∧ told t 1) ∧
        (b.valid = true → b.cid = h.cid.toNat → s.mbox m = [] → h.operand.getLsbD 0 = false → s.mail.recvs = [] →
          Gives (.lMboxRecv h) s fun t => t.mesh.waiting = s.mesh.waiting ∧
            t.mail = { s.mail with recvs := [(unitTile h.src.toNat h.unit.toNat, m)] }) ∧
        (b.valid = false → Gives (.lMboxRecv h) s fun t => t.mail = s.mail ∧ told t mRefused)) ∧
      (∀ (k : BitVec 12) (v : BitVec 64), k.toNat < 4095 → s.mail.recvs = [] → Gives (.mboxBindWrite k v) s fun t =>
        let new := t.mboxBind k.toNat
        new = ⟨v.getLsbD 63, bits v.toNat 62 61, bits v.toNat 56 48, bits v.toNat 37 32 + 1, v.toNat % 1024⟩ ∧
        (new.valid ≠ (s.mboxBind k.toNat).valid ∨ new.cid ≠ (s.mboxBind k.toNat).cid → t.mbox k.toNat = []) ∧
        (new.valid = (s.mboxBind k.toNat).valid → new.cid = (s.mboxBind k.toNat).cid → t.mail = s.mail))) ∧
    (s.yard = true → s.domLive 8 = true →
      let up := s.get Reg.LNK_TIME_CTRL_UPSTREAM
      (s.get Reg.LNK_TIME_CTRL_ROLE = 2 → s.portActive up = true → ∀ t1 t2 t3 t4 : BitVec 64,
        let offset := Int.tdiv (((t2.toNat : Int) - t1.toNat) - ((t4.toNat : Int) - t3.toNat)) 2
        let rtt := ((t4.toNat : Int) - t1.toNat) - ((t3.toNat : Int) - t2.toNat)
        (s.gtc < s.link.timeAt + 10000 → Gives (.timeSyncExchange t1 t2 t3 t4) s (· = s)) ∧
        (s.link.timeAt + 10000 ≤ s.gtc → Gives (.timeSyncExchange t1 t2 t3 t4) s fun t => t.link.timeAt = s.gtc ∧
          t.get (Reg.LNK_TIME_OFFSET_OFFSET up) = (offset.emod (2 ^ 32)).toNat ∧
          t.get (Reg.LNK_RTT_RTT up) = (rtt.emod (2 ^ 32)).toNat ∧
          t.conc.sent = s.conc.sent ++ [.sampleLink up (rtt.emod (2 ^ 32)).toNat] ∧ t.link.acquired = true ∧
          (s.link.acquired = false → 64000 < offset → t.copies = { s.copies with stepBy := (offset / 64).toNat } ∧
            t.get Reg.LNK_TIME_CTRL_STATE = 1) ∧
          (s.link.acquired = true → offset.natAbs ≤ 64 → 7 ≤ s.link.goodSync → t.get Reg.LNK_TIME_CTRL_STATE = 2) ∧
          (s.link.acquired = true → offset = 0 → t.get Reg.CLK_GTC_STATUS_STEER = s.get Reg.CLK_GTC_STATUS_STEER))) ∧
      (s.gtc < s.link.timeAt + 100000 → Gives .timeHoldover s (· = s)) ∧
      (s.link.timeAt + 100000 ≤ s.gtc → s.get Reg.LNK_TIME_CTRL_ROLE = 2 → s.get Reg.LNK_TIME_CTRL_STATE ≠ 3 →
        Gives .timeHoldover s fun t =>
        t.get Reg.LNK_TIME_CTRL_STATE = 3 ∧ t.conc.nextId = s.conc.nextId + 1 ∧
        t.get Reg.CLK_GTC_STATUS_STEER = s.get Reg.CLK_GTC_STATUS_STEER) ∧
      (∀ (src : Source) (value : BitVec 32), s.srcReaches src = true → resetCmdIs value 3 = true →
        let n := resetTarget value
        n < 6 → s.on Reg.PWR_RESET_STATUS_BUSY = false → s.flight.running = false → s.portState n ≠ pDisabled →
        (s.port n).tx = [] → up ≠ n → (∀ k, k < 256 → s.get (Reg.MON_SLOT_CFG_KIND k) ≠ 5) →
        Gives (.linkPort src value) s fun t => t.portState n = pDetect ∧ t.port n =
          { Port.reset with since := s.time (copyLink n), heard := s.time (copyLink n), ackAt := s.time (copyLink n) } ∧
          t.get Reg.PWR_RESET_STATUS_LAST_KIND = 3 ∧ t.get Reg.PWR_RESET_STATUS_LAST_SOURCE = sourceCode src ∧
          t.conc.nextId = s.conc.nextId + 1 ∧ ∀ k, k ≠ n → t.port k = s.port k))

/-- R39, R543, R544, R546, R547, R548, R549, R550, R553, R554, R565, R569, R571, R578, R579, R580, R583, R587, R589, R593: clocks, margin and
rails.  every 100 t f_T moves at most 25 MHz toward its goal; a droop, a critical code and a low margin count, the last lowering f_T
but in fixed-frequency mode; a high margin gives it back; sixteen checks with a shortfall burn an ageing fuse; a missing sample
counts; a set voltage reached lets the raise proceed, one not reached within PWR_VSET_LIMIT abandons it.
Commands shown to complete: pllLockLoss, dfoTrim, droop, marginCritical, marginLow, marginRecover, skewCorrect, ageingCheck,
telemetrySample, senseRetry, ceilClear, voltageReached, vsetTimeout. -/
def Obligations.ClocksMarginRails : Prop :=
  ∀ (s : State) (cl : BitVec 4),
    let c := cl.toNat
    let x := s.clus c
    let sat := fun (t : State) (f : Fld) => t.get f = min (s.get f + 1) (f.size - 1)
    (∀ (src : BitVec 4) (d : Nat), pllDom src.toNat = some d → s.domOpen d = true →
      (0 < (s.dom d).attempt → s.elapsed d < 100000 → ∀ fin, Gives (.pllLockLoss src fin) s (· = s)) ∧
      ((s.dom d).attempt = 0 ∨ 100000 ≤ s.elapsed d →
      (Gives (.pllLockLoss src .locked) s fun t => (t.dom d).attempt = 0 ∧ (t.dom d).st = .opened ∧
        t.conc.nextId = s.conc.nextId + 1) ∧
      ((s.dom d).attempt < 2 → Gives (.pllLockLoss src .failed) s fun t => (t.dom d).attempt = (s.dom d).attempt + 1 ∧
        (t.dom d).st = .opened ∧ t.conc.nextId = s.conc.nextId + 1))) ∧
    (s.domLive (clDom c) = true →
      (∀ (fm : BitVec 12) (low : BitVec 6) (codes : BitVec 48),
        (s.gtc < x.trimAt + 100 → Gives (.dfoTrim cl fm low codes) s (· = s)) ∧
        (x.trimAt + 100 ≤ s.gtc → x.lowerDue = false → Gives (.dfoTrim cl fm low codes) s fun t =>
        let goal := max 400 (min x.target (x.held.getD x.target))
        (t.clus c).ft = (if x.ft < goal then min goal (x.ft + 25) else max goal (x.ft - 25)) ∧
        { t.clus c with ft := x.ft, trimAt := x.trimAt } = x ∧ (t.clus c).trimAt = s.gtc ∧
        t.get (Reg.CLS_DFO_STATUS_F_MEAS c) = min fm.toNat (t.dfoClamp c) ∧
        t.get (Reg.CLS_MARGIN_CODES c) = codes.toNat ∧ t.get (Reg.CLS_DFO_STATUS_MIN_CODE c) = low.toNat)) ∧
      (∀ f : BitVec 12, (102 * f.toNat < 100 * x.ft → Gives (.droop cl f) s fun t =>
          t.get (Reg.CLS_DFO_COUNTS_DROOP c) = (s.get (Reg.CLS_DFO_COUNTS_DROOP c) + 1) % (Reg.CLS_DFO_COUNTS_DROOP c).size ∧
          { t with regs := s.regs } = s) ∧
        (100 * x.ft ≤ 102 * f.toNat → Gives (.droop cl f) s (· = s))) ∧
      (∀ codes : BitVec 48, (s.marginCrit c < minCode codes → Gives (.marginCritical cl codes) s (· = s)) ∧
        (minCode codes ≤ s.marginCrit c → x.crits = [] → Gives (.marginCritical cl codes) s fun t =>
          sat t (Reg.CLS_DFO_COUNTS_CRIT c) ∧ t.clus c = { x with halved := true, crits := [s.gtc], goodAt := s.gtc } ∧
          t.conc.nextId = s.conc.nextId)) ∧
      (∀ (code : BitVec 6) (skew : BitVec 8), code.toNat ≤ s.marginLo c ∨ 20 < skew.toNat →
        (s.fixedMode c = false → x.cutAt = none → Gives (.marginLow cl code skew) s fun t =>
          sat t (Reg.CLS_DFO_COUNTS_STEP_DOWN c) ∧ (t.clus c).ft = max 400 (x.ft - 25) ∧
          (t.clus c).held = some (max 400 (x.ft - 25)) ∧ (t.clus c).cutAt = some s.gtc ∧ (t.clus c).goodAt = s.gtc) ∧
        (s.fixedMode c = true → Gives (.marginLow cl code skew) s fun t =>
          sat t (Reg.CLS_DFO_COUNTS_STEP_DOWN c) ∧ t.clus c = { x with goodAt := s.gtc })) ∧
      (∀ (low : BitVec 6) (h : Nat), x.held = some h →
        let due := x.goodAt + max 1 (s.get (Reg.CLS_MARGIN_CFG_RECOVER_T c))
        (low.toNat < s.marginLo c + 4 → Gives (.marginRecover cl low) s fun t => t.clus c = { x with goodAt := s.gtc } ∧
          t.regs = s.regs) ∧
        (s.marginLo c + 4 ≤ low.toNat → s.gtc < due → Gives (.marginRecover cl low) s (· = s)) ∧
        (s.marginLo c + 4 ≤ low.toNat → due ≤ s.gtc → Gives (.marginRecover cl low) s fun t =>
          (t.clus c).held = (if x.target ≤ h + 25 then none else some (h + 25)) ∧ (t.clus c).goodAt = s.gtc ∧
          (t.clus c).ft ≤ max x.ft x.target ∧ x.ft ≤ (t.clus c).ft ∧ (t.clus c).ft ≤ x.ft + 25)) ∧
      (∀ skew : BitVec 8, (s.gtc < x.skewAt + 1000 → Gives (.skewCorrect cl skew) s (· = s)) ∧
        (x.skewAt + 1000 ≤ s.gtc → skew.toNat ≤ 20 → Gives (.skewCorrect cl skew) s fun t =>
          t.clus c = { x with skewAt := s.gtc } ∧ t.regs = s.regs) ∧
        (x.skewAt + 1000 ≤ s.gtc → 20 < skew.toNat → Gives (.skewCorrect cl skew) s fun t =>
          sat t (Reg.CLS_DFO_COUNTS_STEP_DOWN c) ∧ (t.clus c).skewAt = s.gtc)) ∧
      (∀ (ran : BitVec 40) (mean : BitVec 10),
        let n := Tab.get 0 s.fuses.ageSteps c
        (s.gtc < x.ageAt + 6000000000 → Gives (.ageingCheck cl ran mean) s (· = s)) ∧
        (x.ageAt + 6000000000 ≤ s.gtc →
          let y := { x with ageAt := s.gtc }
          (ran.toNat < 10000 → Gives (.ageingCheck cl ran mean) s fun t => t.clus c = y ∧ t.fuses = s.fuses) ∧
          (10000 ≤ ran.toNat → s.shortfall c mean.toNat < 2560 → Gives (.ageingCheck cl ran mean) s fun t =>
            t.clus c = { y with shortfalls := 0 } ∧ t.fuses = s.fuses) ∧
          (10000 ≤ ran.toNat → 2560 ≤ s.shortfall c mean.toNat → x.shortfalls < 15 → Gives (.ageingCheck cl ran mean) s fun t =>
            t.clus c = { y with shortfalls := x.shortfalls + 1 } ∧ t.fuses = s.fuses) ∧
          (10000 ≤ ran.toNat → 2560 ≤ s.shortfall c mean.toNat → x.shortfalls = 15 → n < 8 →
            Gives (.ageingCheck cl ran mean) s fun t => Tab.get 0 t.fuses.ageSteps c = n + 1 ∧ (t.clus c).shortfalls = 0 ∧
              t.fmaxEff c ≤ s.fmaxEff c ∧ t.conc.nextId = s.conc.nextId + 1)))) ∧
    (s.domLive 1 = true →
      (∀ (volts : List (BitVec 16)) (ests : List (BitVec 32)),
        (s.gtc / 100000 = s.power.telAt / 100000 → Gives (.telemetrySample volts ests) s (· = s)) ∧
        (s.gtc / 100000 ≠ s.power.telAt / 100000 → (∀ r, r < 17 → s.get (Reg.PWR_TEL_SEQ r) = (s.rail r).seq) →
        Gives (.telemetrySample volts ests) s fun t => t.power.telAt = s.gtc ∧ ∀ r, r < 17 →
          t.get (railVdie r) = (volts.getD r 0).toNat ∧
          t.rail r = { s.rail r with missing := (s.rail r).missing + 1 } ∧
          (9 ≤ (s.rail r).missing → t.get (railNoTel r) = 1))) ∧
      (∀ (rail : BitVec 5) (v : BitVec 64), rail.toNat < 16 →
        let r := rail.toNat
        (v.getLsbD 10 = true → v.getLsbD 9 = false → s.get (railSense r) = 1 → s.railInUse r = true →
          Gives (.senseRetry rail v) s fun t => t.get (railSense r) = 0 ∧
            t.rail r = { s.rail r with sensed := true, openRun := 0 }) ∧
        (v.getLsbD 9 = true → v.getLsbD 10 = false → Gives (.ceilClear rail v) s fun t =>
          t.get (Reg.PWR_RAIL_STATUS_CEILING r) = 7 ∧ t.get (railCrack r) = 0 ∧ { t with regs := s.regs } = s)) ∧
      (bitAt (s.get Reg.PWR_VREQ_PEND_RAILS) c = true →
        (∀ (mv : BitVec 16) (k : Nat), mv.toNat ≤ (s.rail c).mv + 10 → (s.rail c).mv ≤ mv.toNat + 10 → x.raiseTo = some k →
          s.power.clamp = false → s.domOpen (clDom c) = true → k ≤ s.ceiling c → k < 8 →
          let reached := fun (t : State) => bitAt (t.get Reg.PWR_VREQ_PEND_RAILS) c = false ∧ (t.rail c).noRaise = false ∧
            t.get (Reg.PWR_RAIL_STATUS_V_DIE c) = mv.toNat
          let g := s.gateOf (clDom c)
          (g.at_ ≠ some s.gtc → Gives (.voltageReached cl mv) s fun t => reached t ∧ t.op c = k ∧ (t.clus c).raiseTo = none) ∧
          (g.at_ = some s.gtc → g.rank < 4 → Gives (.voltageReached cl mv) s fun t => reached t ∧ t.op c = s.op c ∧
            (4, false) ∈ (t.gateOf (clDom c)).acks)) ∧
        (let due := (s.rail c).setAt + max 1 (s.get Reg.PWR_VSET_LIMIT_TICKS)
         (s.gtc < due → Gives (.vsetTimeout cl) s (· = s)) ∧
         ((s.rail c).noRaise = false → due ≤ s.gtc → Gives (.vsetTimeout cl) s fun t => (t.rail c).noRaise = true ∧
           (t.clus c).raiseTo = none ∧
            t.conc.nextId = s.conc.nextId + 1 ∧ t.op c = s.op c))))

/-- R592, R595, R599, R600, R605, R608, R609, R610, R611, R613, R614, R615, R616, R621, R625, R686, R719: power control.  Estimates
and energy add up each interval; a phase or demand report is taken; a demand opens a cluster, idleness and UNMET close one; a
lease of a newer SEQ takes force and ends in FALLBACK; SPILL_N clamps every live cluster to OP0 and limiter 1/16 until released
or found stuck; pace words go out, are relayed once, and set the group's frequency.  Where a pass over the clusters follows,
the clause has no cluster open or the group in lockstep, so that the pass moves nothing else.
Commands shown to complete: railWait, clusterOpenOnDemand, phase, estimateInterval, phaseReport, demandReport,
clusterIdleClose, unmetStep, leaseWrite, leaseExpire, phaseClear, spillAssert, spillRelease, spillStuck, paceSend,
paceWordReceive, paceApply. -/
def Obligations.PowerControl : Prop :=
  ∀ s : State,
    let p := s.power
    let sat := fun (t : State) (f : Fld) => t.get f = min (s.get f + 1) (f.size - 1)
    let still := s.lockstep = true ∨ s.openClusters none = []
    (s.domLive 1 = true →
      (∀ (un : BitVec 20) (tiles : List (BitVec 32)),
        (s.gtc / 1000 = p.estAt / 1000 → Gives (.estimateInterval un tiles) s (· = s)) ∧
        (s.gtc / 1000 ≠ p.estAt / 1000 → s.calibrated 16 un.toNat < 2 ^ 20 → Gives (.estimateInterval un tiles) s fun t =>
          let cls := sumOf (List.range 16) fun c => if s.domOpen (clDom c) then s.calibrated c (s.rawEstimate c) else 0
          let e := cls + s.calibrated 16 un.toNat + p.energyRem
          t.get Reg.PWR_ESTIMATE_CLUSTERS = min (2 ^ 20 - 1) cls ∧
          t.get Reg.PWR_ESTIMATE_UNCORE = s.calibrated 16 un.toNat ∧ t.power.estAt = s.gtc ∧
          t.get Reg.PWR_ENERGY_UJ = (s.get Reg.PWR_ENERGY_UJ + e / 100) % 2 ^ 64 ∧ t.power.energyRem = e % 100)) ∧
      (∀ t0 k rest, s.conc.inbox = .phase t0 k :: rest → still → Gives .phaseReport s fun t =>
        t.conc.inbox = rest ∧ Tab.get (none, 0) t.power.phase t0 = (some k, s.gtc)) ∧
      (∀ c rest, s.conc.inbox = .demand c :: rest → Gives .demandReport s fun t => t.conc.inbox = rest ∧
        c ∈ t.power.demands ∧ (∀ d ∈ t.power.demands, d = c ∨ d ∈ p.demands) ∧
        t.get (Reg.MON_DEMAND_COUNT c) = (s.get (Reg.MON_DEMAND_COUNT c) + 1) % (Reg.MON_DEMAND_COUNT c).size) ∧
      (∀ c, s.isReady = true → s.on Reg.PWR_EFF_CAP_UNMET = false → p.demands.find? s.covers = some c → s.clEnabled c = true →
        (s.dom (clDom c)).st = .closed → still → Gives .clusterOpenOnDemand s fun t => (t.dom (clDom c)).st = .railWait ∧
          t.power.demands = p.demands.erase c ∧ (t.rail c).mv = 600 ∧ ∀ d, d ≠ clDom c → t.dom d = s.dom d) ∧
      (s.on Reg.PWR_EFF_CAP_UNMET = true → Gives .clusterOpenOnDemand s (· = s)) ∧
      (∀ cl : BitVec 4, s.clusterFree cl.toNat = true → bitAt (s.get Reg.PWR_KEEP_OPEN_CL) cl.toNat = false →
        let due := fun (k : Nat) => (s.dtile (4 * cl.toNat + k)).idleSince + max 1 (s.get Reg.PWR_CLOSE_IDLE_TICKS)
        ((∃ k, k < 4 ∧ s.dspTime < due k) → Gives (.clusterIdleClose cl) s (· = s)) ∧
        ((∀ k, k < 4 → due k ≤ s.dspTime) → (s.gateOf (clDom cl.toNat)).at_ ≠ some s.gtc →
          Gives (.clusterIdleClose cl) s fun t => (t.dom (clDom cl.toNat)).st = .closing ∧
            ∀ d, d ≠ clDom cl.toNat → t.dom d = s.dom d)) ∧
      (s.on Reg.PWR_EFF_CAP_UNMET = false → Gives .unmetStep s (· = s)) ∧
      (∀ c, s.on Reg.PWR_EFF_CAP_UNMET = true → p.unmetAt = none → s.clBudget < s.get Reg.PWR_ESTIMATE_CLUSTERS →
        (∀ k, k < 16 → s.clusterFree k = false) → s.toPark = some c →
        (s.gateOf (clDom c)).at_ ≠ some s.gtc → Gives .unmetStep s fun t =>
          (t.dom (clDom c)).st = .closing ∧ t.power.unmetAt = some s.gtc) ∧
      (∀ (src : Source) (v : BitVec 64), s.srcReaches src = true →
        (s.on Reg.PWR_CTRL_LEASE_EN = true → (∀ q, p.leaseSeq = some q → newer (bits v.toNat 63 48) q 16 = true) →
          0 < bits v.toNat 38 32 → bits v.toNat 38 32 ≤ 100 → still → Gives (.leaseWrite src v) s fun t =>
            t.get Reg.PWR_LEASE_SEQ = bits v.toNat 63 48 ∧ t.get Reg.PWR_LEASE_TERM_MS = bits v.toNat 38 32 ∧
            t.get Reg.PWR_LEASE_BUDGET_MW = bits v.toNat 19 0 ∧ t.get Reg.PWR_LEASE_STATUS_STATE = 1 ∧
            t.get Reg.PWR_LEASE_STATUS_SOURCE = b2n (src != .mgmt) ∧ t.power.leaseSeq = some (bits v.toNat 63 48) ∧
            t.power.leaseEnd = some (s.gtc + bits v.toNat 38 32 * 100000)) ∧
        (s.on Reg.PWR_CTRL_LEASE_EN = false ∨ (∃ q, p.leaseSeq = some q ∧ newer (bits v.toNat 63 48) q 16 = false) ∨
            bits v.toNat 38 32 = 0 ∨ 100 < bits v.toNat 38 32 →
          Gives (.leaseWrite src v) s fun t => sat t Reg.PWR_LEASE_STATUS_LEASE_DROP ∧ { t with regs := s.regs } = s ∧
            t.get Reg.PWR_LEASE_SEQ = s.get Reg.PWR_LEASE_SEQ)) ∧
      (∀ t0, p.leaseEnd = some t0 → s.get Reg.PWR_LEASE_STATUS_STATE = 1 →
        (s.gtc < t0 → Gives .leaseExpire s (· = s)) ∧
        (t0 ≤ s.gtc → still → Gives .leaseExpire s fun t => t.get Reg.PWR_LEASE_STATUS_STATE = 2 ∧
          sat t Reg.PWR_GOV_COUNTS_LEASE_EXPIRED ∧ t.power.leaseEnd = none ∧ t.conc.nextId = s.conc.nextId + 1)) ∧
      (∀ v : BitVec 32, Gives (.phaseClear v) s fun t => { t with regs := s.regs } = s ∧ ∀ c k, c < 16 → k < 256 →
        (v.getLsbD c = true → t.get (Reg.PWR_PHASE_VALID c k) = 0 ∧ t.get (Reg.PWR_PHASE_SEEN c k) = 0 ∧
          t.get (Reg.PWR_PHASE_CEFF c k) = 0) ∧
        (v.getLsbD c = false → t.get (Reg.PWR_PHASE_VALID c k) = s.get (Reg.PWR_PHASE_VALID c k) ∧
          t.get (Reg.PWR_PHASE_CEFF c k) = s.get (Reg.PWR_PHASE_CEFF c k))) ∧
      (s.lockstep = true →
        (s.gtc % s.pacePeriod ≠ 0 ∨ (s.paceWord s.ownDie (applyKey (s.gtc + 2 * s.pacePeriod))).isSome = true →
          Gives .paceSend s (· = s)) ∧
        (∀ f, s.gtc % s.pacePeriod = 0 → s.paceWord s.ownDie (applyKey (s.gtc + 2 * s.pacePeriod)) = none →
          s.fSelf = some f → Gives .paceSend s fun t =>
          let w : PaceWord := ⟨s.ownDie, applyKey (s.gtc + 2 * s.pacePeriod), f, p.lagNext, 16⟩
          t.power.paceIn = p.paceIn ++ [w] ∧ t.power.lagNext = false ∧
          ∀ n, n < 6 → bitAt (s.get Reg.PWR_PACE_CTRL_PORTS) n = true → (n, w) ∈ t.power.paceOut) ∧
        (∀ (port : BitVec 3) (word : BitVec 128),
          let v := word.toNat
          let w : PaceWord := ⟨bits v 24 16, bits v 63 32, bits v 79 64, bitAt v 8, bits v 87 80 - 1⟩
          (s.paceWord (bits v 24 16) (bits v 63 32) ≠ none → Gives (.paceWordReceive port word) s (· = s)) ∧
          (bits v 7 0 = s.get Reg.PWR_PACE_CTRL_GROUP → s.paceWord (bits v 24 16) (bits v 63 32) = none →
            s.openClusters none = [] → Gives (.paceWordReceive port word) s fun t => t.power.paceIn = p.paceIn ++ [w] ∧
              (1 < bits v 87 80 → ∀ n, n < 6 → n ≠ port.toNat → bitAt (s.get Reg.PWR_PACE_CTRL_PORTS) n = true →
                (n, w) ∈ t.power.paceOut) ∧
              (bits v 87 80 ≤ 1 → t.power.paceOut = p.paceOut))) ∧
        (s.gtc = p.paceAt → Gives .paceApply s (· = s)) ∧
        (∀ f, s.gtc % s.pacePeriod = 0 → s.gtc ≠ p.paceAt → s.openClusters none = [] → f < 4096 → p.excluded = [] →
          (∀ d ∈ s.paceMembers, s.paceWord d (applyKey s.gtc) ≠ none) → s.fGroup (applyKey s.gtc) = some f →
          Gives .paceApply s fun t => t.get Reg.PWR_PACE_STATUS_F_GROUP = f ∧ t.get Reg.PWR_PACE_STATUS_LAG = 0 ∧
            t.power.paceAt = s.gtc ∧ ∀ w ∈ t.power.paceIn, w.at_ ≠ applyKey s.gtc)) ∧
      (s.lockstep = false → (Gives .paceSend s (· = s)) ∧ (Gives .paceApply s (· = s)))) ∧
    (s.on Reg.PWR_PIN_STATUS_SPILL_STUCK = false →
      ((∀ c, c < 16 → (s.gateOf (clDom c)).at_ ≠ some s.gtc) → Gives .spillAssert s fun t => t.power.clamp = true ∧
        t.power.spillAt = some s.gtc ∧ ∀ c, c < 16 → s.domLive (clDom c) = true →
          t.get (Reg.PWR_CL_OP_LIMIT c) = 0 ∧ t.get (Reg.PWR_CL_OP_SPILLED c) = 1 ∧ t.op c = 0) ∧
      (s.spillOver 10000 = false → Gives .spillRelease s (· = s)) ∧
      (s.spillOver 10000 = true → p.clamp = true → Gives .spillRelease s fun t => t.power.clamp = false ∧
        t.power.spillAt = none ∧ ∀ c, c < 16 → t.get (Reg.PWR_CL_OP_SPILLED c) = 0 ∧ t.op c = s.op c ∧
          t.get (Reg.PWR_CL_OP_LIMIT c) = s.get (Reg.PWR_CL_OP_LIMIT c)) ∧
      (s.spillOver 1000000 = false → Gives .spillStuck s (· = s)) ∧
      (s.spillOver 1000000 = true → p.clamp = true → Gives .spillStuck s fun t => t.get Reg.PWR_PIN_STATUS_SPILL_STUCK = 1 ∧
        t.power.clamp = false ∧ t.power.stuckCap = true ∧ t.conc.nextId = s.conc.nextId + 1)) ∧
    (s.on Reg.PWR_PIN_STATUS_SPILL_STUCK = true → s.spillOver 10000 = true → Gives .spillRelease s fun t =>
      t.get Reg.PWR_PIN_STATUS_SPILL_STUCK = 0 ∧ t.power = p)

/-- R635, R639, R640, R641, R642, R643, R644, R645, R649, R664, R665, R666, R79: the Keeper's mailboxes and the two-keeper commit.
NONCE is valid for 10 ms; PROPOSE needs it, a sound blob and a good signature and leaves one pending proposal; COUNTERSIGN by
the other mailbox applies it in one lock cycle that raises the generation, or waits for the units; WITHDRAW, expiry and a
quiesce timeout end it unapplied; KEY_LOAD and KEY_DROP change model keys; a busy mailbox ignores a command.
Commands shown to complete: nonce, propose, countersign, withdraw, query, bundle, keyLoad, keyDrop, quiesceAck,
quiesceTimeout, proposalExpire, lockoutEnd. -/
def Obligations.KeeperCommands : Prop :=
  ∀ (s : State) (mb : BitVec 1) (sig tag : Bool), s.domLive 2 = true → s.keeper.waiting = [] →
    let m := mb.toNat
    let o := 1 - m
    let k := s.keeper
    let result := fun (t : State) (r : Nat) => t.get (Reg.KPR_MB_STATUS_RESULT m) = r ∧ t.get (Reg.KPR_MB_STATUS_BUSY m) = 0
    let recorded := fun (t : State) => t.conc.nextId = s.conc.nextId + 1
    (s.on (Reg.KPR_MB_STATUS_BUSY m) = true → (Gives (.nonce mb) s (· = s)) ∧
      (Gives (.countersign mb sig) s (· = s))) ∧
    (s.on (Reg.KPR_MB_STATUS_BUSY m) = false → k.applying ≠ none → Gives (.withdraw mb) s fun t =>
      t.get (Reg.KPR_MB_STATUS_BUSY m) = 1 ∧ Tab.get none t.keeper.waiting m = some (4, s.gtc, false, false) ∧
      t.keeper.props = k.props) ∧
    (s.on (Reg.KPR_MB_STATUS_BUSY m) = false → k.applying = none → s.eng = engAlarmed →
      (Gives (.propose mb sig) s fun t => result t kNotAllowed ∧ t.keeper = k) ∧
      (Gives (.keyLoad mb sig tag) s fun t => result t kNotAllowed ∧ t.keeper = k ∧ t.modelKeys = s.modelKeys)) ∧
    (s.on (Reg.KPR_MB_STATUS_BUSY m) = false → k.applying = none → s.eng ≠ engAlarmed →
      (Gives (.nonce mb) s fun t => result t kDone ∧ t.mbArg m 0x20 8 = (s.gtc + 1000000) % 2 ^ 64 ∧
        ∃ n, Tab.get none t.keeper.nonces m = some (n, s.gtc + 1000000)) ∧
      (s.on Reg.KPR_STATE_LOCKOUT = false →
        (s.prop m ≠ none → Gives (.propose mb sig) s fun t => result t kPending ∧ t.keeper = k) ∧
        (s.prop m = none → Tab.get none k.nonces m = none → k.fails = [] → Gives (.propose mb sig) s fun t =>
          result t kNoNonce ∧ recorded t ∧ t.keeper = { k with fails := [s.gtc] }) ∧
        (∀ n e bs cls gen l, s.prop m = none → Tab.get none k.nonces m = some (n, e) → s.gtc ≤ e →
          s.fetchBlob (s.mbArg m 8 2) (s.mbArg m 0 8 % 2 ^ 52) = some bs → parseBlob (leNat bs) = some (cls, gen, l) →
          s.mbArg m 0x10 48 = digestOf bs % 2 ^ 384 →
          (Gives (.propose mb true) s fun t => result t kDone ∧ t.get (Reg.KPR_MB_STATUS_PENDING_OWN m) = 1 ∧
            t.get (Reg.KPR_MB_STATUS_PENDING_PEER o) = 1 ∧ Tab.get none t.keeper.nonces m = none ∧
            t.prop m = some ⟨k.nextId, cls, s.mbArg m 0 8 % 2 ^ 52, s.mbArg m 8 2, gen, s.gtc + 1000000, n,
              digestOf bs % 2 ^ 384, l⟩) ∧
          (k.fails = [] → Gives (.propose mb false) s fun t => result t kBadSig ∧ recorded t ∧ t.prop m = none ∧
            t.keeper.fails = [s.gtc])) ∧
        (s.prop o = none → s.prop m = none → s.ownLapsed o = none → Gives (.countersign mb sig) s fun t =>
          result t kNonePending ∧ t.keeper = k) ∧
        (∀ p, s.prop m = none → s.prop o = some p → p.id = s.mbArg m 0 4 → s.gtc ≤ p.until_ → s.mbArg m 0x10 48 = p.digest →
          (k.fails = [] → Gives (.countersign mb false) s fun t => result t kBadSig ∧ t.prop o = none ∧ recorded t) ∧
          (p.baseGen ≠ s.get (Reg.KPR_GEN_GEN (p.cls - 1)) → Gives (.countersign mb true) s fun t => result t kStale ∧
            t.prop o = none ∧ recorded t ∧ t.get (Reg.KPR_GEN_GEN (p.cls - 1)) = s.get (Reg.KPR_GEN_GEN (p.cls - 1))) ∧
          (p.baseGen = s.get (Reg.KPR_GEN_GEN (p.cls - 1)) → (s.applyEntries p.entries).contentOk p.cls = true →
            (s.mustQuiesce p = true → Gives (.countersign mb true) s fun t => t.get (Reg.KPR_MB_STATUS_BUSY m) = 1 ∧
              t.keeper = { k with applying := some m, quiesceAt := s.gtc }) ∧
            (s.mustQuiesce p = false → Gives (.countersign mb true) s fun t => result t kDone ∧ t.prop o = none ∧
              t.get (Reg.KPR_MB_STATUS_PENDING_OWN o) = 0 ∧ t.get (Reg.KPR_MB_STATUS_PENDING_PEER m) = 0) ∧
            (∀ (q : BitVec 4) (v : BitVec 8), p.cls = 3 → p.entries = [(Reg.KPR_SEAL_POLICY q.toNat, 8, v.toNat, 0xFF)] →
              Gives (.countersign mb true) s fun t => t.get (Reg.KPR_SEAL_POLICY_MODEL_MAX q.toNat) = v.toNat ∧
                t.get (Reg.KPR_SEAL_POLICY_MODEL_EN q.toNat) = s.get (Reg.KPR_SEAL_POLICY_MODEL_EN q.toNat) ∧
                t.get (Reg.KPR_GEN_GEN 2) = (s.get (Reg.KPR_GEN_GEN 2) + 1) % 2 ^ 32)))) ∧
      (∀ p, s.prop m = some p → p.id = s.mbArg m 0 4 → Gives (.withdraw mb) s fun t => result t kDone ∧ t.prop m = none ∧
        t.get (Reg.KPR_MB_STATUS_PENDING_OWN m) = 0) ∧
      (s.prop m = none → Gives (.withdraw mb) s fun t => result t kNonePending ∧ t.keeper = k) ∧
      (∀ p, s.prop o = some p → Gives (.query mb) s fun t => result t kDone ∧ t.mbArg m 0 4 = p.id % 2 ^ 32 ∧
        t.mbArg m 4 4 = p.cls % 2 ^ 32 ∧ t.keeper = k) ∧
      (m = 1 → Gives (.bundle mb) s fun t => result t kDone ∧
        t.flight.bundle = some (s.mbArg m 0 8 % 2 ^ 52, s.mbArg m 8 2, s.mbArg m 0x10 4)) ∧
      (m = 0 → Gives (.bundle mb) s fun t => result t kNotAllowed ∧ t.flight = s.flight) ∧
      (∀ bs, s.ownRead (s.mbArg m 8 2) (s.mbArg m 0 8 % 2 ^ 52) 280 = some bs →
        let raw := leNat bs
        let part := pfld raw 4 1
        let id := pfld raw 8 4
        (s.keyBlobOk raw = false ∨ sig = false ∨ tag = false → Gives (.keyLoad mb sig tag) s fun t => result t kRefused ∧
          recorded t ∧ t.modelKeys = s.modelKeys ∧ t.keeper = k) ∧
        (s.keyBlobOk raw = true → (∀ e ∈ k.slots, ¬(e.2.1 = part ∧ e.2.2 = id)) →
          s.modelKeyCount part < s.get (Reg.KPR_SEAL_POLICY_MODEL_MAX part) → (∃ i, i < 256 ∧ ∀ e ∈ k.slots, e.1 ≠ i) →
          Gives (.keyLoad mb true true) s fun t => result t kDone ∧ (part, id, k.nextKey) ∈ t.modelKeys ∧
            t.get Reg.KPR_KEY_USE_SLOTS = (k.slots.length + 1) % 2 ^ 9 ∧
            ∃ i, i < 256 ∧ (∀ e ∈ k.slots, e.1 ≠ i) ∧ t.keeper.slots = k.slots ++ [(i, part, id)])) ∧
      (Gives (.keyDrop mb) s fun t => result t kDone ∧
        (∀ e ∈ t.modelKeys, ¬(e.1 = s.mbArg m 0 4 ∧ e.2.1 = s.mbArg m 4 4)) ∧
        ∀ e ∈ s.modelKeys, ¬(e.1 = s.mbArg m 0 4 ∧ e.2.1 = s.mbArg m 4 4) → e ∈ t.modelKeys)) ∧
    (∀ p, k.applying = some m → s.prop o = some p →
      let due := k.quiesceAt + 1000000
      (s.gtc ≤ due → p.cls = 2 → (s.applyEntries p.entries).contentOk p.cls = true → Gives .quiesceAck s fun t =>
        result t kDone ∧ t.prop o = none ∧ t.keeper.applying = none ∧ t.xlt.tlb1 = [] ∧ t.xlt.tlb2 = [] ∧ t.xlt.cache = []) ∧
      (due < s.gtc → Gives .quiesceAck s (· = s)) ∧
      (p.cls = 1 → s.fencesHold p = false → Gives .quiesceAck s (· = s)) ∧
      (s.gtc ≤ due → Gives .quiesceTimeout s (· = s)) ∧
      (due < s.gtc → Gives .quiesceTimeout s fun t => result t kQuiesceTimeout ∧ t.prop o = none ∧ t.keeper.applying = none ∧
        t.disp.fences = [] ∧ recorded t)) ∧
    (∀ p, s.prop m = some p → k.applying = none →
      (s.gtc ≤ p.until_ → Gives (.proposalExpire mb) s (· = s)) ∧
      (p.until_ < s.gtc → k.fails = [] → Gives (.proposalExpire mb) s fun t =>
        t.get (Reg.KPR_MB_STATUS_RESULT m) = kExpired ∧ t.prop m = none ∧ t.ownLapsed m = some p.id ∧ recorded t ∧
        t.keeper.fails = [s.gtc])) ∧
    (∀ e, k.lockEnd = some e → (s.gtc < e → Gives .lockoutEnd s (· = s)) ∧
      (e ≤ s.gtc → Gives .lockoutEnd s fun t => t.get Reg.KPR_STATE_LOCKOUT = 0 ∧ t.keeper = { k with lockEnd := none }))

/-- R650, R651, R652, R653, R654, R656, R657, R658, R659, R660, R661, R662, R663, R668: debug and alarms.  The DBG block halts,
steps, resumes, reads and changes a tile in scope, and refuses with the result that names why, one
command at a time; debug closes by itself at its
time.  KFW is checked once an hour.  An alarm counts, records and raises LEVEL: at A2 the partitions are quarantined, at A3 every key is erased and the
engine is ALARMED; the fourth locked JTAG instruction within a second is an attack.
Commands shown to complete: cluster, debugRelock, halt, dbgResume, step, read, write, breakpoint, jtagLockedInstruction,
vglitch, cglitch, kintegrity, kfwCheck. -/
def Obligations.DebugAndAlarms : Prop :=
  ∀ (s : State) (tile : BitVec 6),
    let n := tile.toNat
    let x := s.tile n
    let result := fun (t : State) => t.get Reg.DBG_STATUS_RESULT
    let due := max s.keeper.kfwAt (s.dom 2).since + 360000000000
    let level := s.get Reg.KPR_STATE_LEVEL
    let offs := 8 * s.get Reg.DBG_ADDR_OFFSET
    (s.domLive 1 = true →
      (s.dbgOn = false ∨ s.get Reg.DBG_STATUS_BUSY = 1 → Gives (.halt tile) s (· = s) ∧ Gives (.dbgResume tile) s (· = s) ∧
        Gives (.step tile) s (· = s) ∧ Gives (.read tile) s (· = s) ∧ Gives (.write tile) s (· = s)) ∧
      (s.dbgOn = true → s.get Reg.DBG_STATUS_BUSY = 0 →
        (s.inScope n = false → (Gives (.halt tile) s fun t => result t = dOutOfScope ∧ t.tiles = s.tiles) ∧
          (Gives (.write tile) s fun t => result t = dOutOfScope ∧ t.tiles = s.tiles)) ∧
        (s.inScope n = true →
          (Gives (.halt tile) s fun t => result t = dDone ∧
            t.tile n = { x with halted := true, haltCause := 1, stepping := false } ∧ ∀ k, k ≠ n → t.tile k = s.tile k) ∧
          (x.halted = false → Gives (.step tile) s fun t => result t = dNotHalted ∧ t.tiles = s.tiles) ∧
          (x.halted = true →
            (Gives (.dbgResume tile) s fun t => result t = dDone ∧
              t.tile n = { x with halted := false, bpSkip := x.haltCause == 3, haltCause := 0 } ∧
              ∀ k, k ≠ n → t.tile k = s.tile k) ∧
            (x.task ≠ none → Gives (.step tile) s fun t => result t = dDone ∧ (t.tile n).stepping = true ∧
              (t.tile n).halted = false ∧ ∀ k, k ≠ n → t.tile k = s.tile k) ∧
            (s.on Reg.DBG_ADDR_SPACE = true →
              (Gives (.read tile) s fun t => result t = dDone ∧ t.get Reg.DBG_DATA_DATA = x.rdLe offs 8 % 2 ^ 64 ∧
                t.tiles = s.tiles) ∧
              (Gives (.write tile) s fun t => result t = dDone ∧ t.tile n = x.wrLe offs 8 (s.get Reg.DBG_DATA_DATA) ∧
                ∀ k, k ≠ n → t.tile k = s.tile k)) ∧
            (s.on Reg.DBG_ADDR_SPACE = false → 0x30000 ≤ offs →
              (Gives (.read tile) s fun t => result t = dBadAddr ∧ t.tiles = s.tiles) ∧
              (Gives (.write tile) s fun t => result t = dBadAddr ∧ t.tiles = s.tiles)))))) ∧
    (x.task ≠ none → x.core = .running → x.halted = false → s.breaks n = true → Gives (.breakpoint tile) s fun t =>
      t.tile n = { x with halted := true, haltCause := 3, stepping := false } ∧ ∀ k, k ≠ n → t.tile k = s.tile k) ∧
    (s.breaks n = false → Gives (.breakpoint tile) s (· = s)) ∧
    (s.domLive 2 = true →
      (s.get Reg.KPR_DEBUG_UNTIL_GTC = 0 ∨ s.gtc < s.get Reg.KPR_DEBUG_UNTIL_GTC → Gives .debugRelock s (· = s)) ∧
      (0 < s.get Reg.KPR_DEBUG_UNTIL_GTC → s.get Reg.KPR_DEBUG_UNTIL_GTC ≤ s.gtc → (∀ k, k < 64 → (s.tile k).halted = false) →
        Gives .debugRelock s fun t => t.get Reg.KPR_DEBUG_DBG_EN = 0 ∧ t.get Reg.KPR_DEBUG_JTAG_EN = 0 ∧
          t.get Reg.KPR_DEBUG_SCOPE = 0 ∧ t.get Reg.KPR_DEBUG_UNTIL_GTC = 0 ∧
          t.get (Reg.KPR_GEN_GEN 6) = (s.get (Reg.KPR_GEN_GEN 6) + 1) % 2 ^ 32 ∧
          (s.get Reg.KPR_DEBUG_DBG_EN = 1 → t.conc.nextId = s.conc.nextId + 1)) ∧
      (∀ ok, s.gtc < due → Gives (.kfwCheck ok) s (· = s)) ∧
      (due ≤ s.gtc → Gives (.kfwCheck true) s (· = { s with keeper := { s.keeper with kfwAt := s.gtc } })) ∧
      (∀ source : BitVec 2, source ≠ 3 → s.alarmLevel aCglitch = 2 → s.queues = [] → s.keeper.applying = none →
        Gives (.cglitch source) s fun t => t.get Reg.KPR_STATE_LEVEL = max 2 level % 4 ∧ t.conc.nextId = s.conc.nextId + 2 ∧
          t.get Reg.KPR_STATE_QUARANTINE = (s.get Reg.KPR_STATE_QUARANTINE ||| s.validMask) % 2 ^ 16 ∧
          t.prop 0 = none ∧ t.prop 1 = none) ∧
      (level ≤ 3 → s.queues = [] → s.stop = none → s.eng ≠ engFlight →
        (∀ d, d < 28 → s.domLive d = true ∨ (s.dom d).st = .closed) →
        let erased := fun (t : State) => t.eng = engAlarmed ∧ t.get Reg.KPR_STATE_LEVEL = 3 ∧ t.keeper.keys = false ∧
          t.keeper.wrapped = false ∧ t.sealKeys = [] ∧ t.modelKeys = [] ∧ t.prop 0 = none ∧ t.prop 1 = none
        (∀ f : KeeperFault, Gives (.kintegrity f) s erased) ∧ (due ≤ s.gtc → Gives (.kfwCheck false) s erased))) ∧
    (∀ c : BitVec 4, s.domOpen (clDom c.toNat) = false → Gives (.vglitch (.cluster c)) s (· = s)) ∧
    (∀ c : BitVec 4, s.domOpen (clDom c.toNat) = true → s.alarmLevel aVglitch = 2 → s.queues = [] → s.keeper.applying = none →
      Gives (.vglitch (.cluster c)) s fun t => t.get Reg.KPR_STATE_LEVEL = max 2 level % 4 ∧
        t.conc.nextId = s.conc.nextId + 2 ∧ ∀ p, s.clusterPart c.toNat = some p → p < 16 →
          bitAt (t.get Reg.KPR_STATE_QUARANTINE) p = true) ∧
    (∀ code : BitVec 8, (s.on Reg.KPR_DEBUG_JTAG_EN = true → Gives (.jtagLockedInstruction code) s (· = s)) ∧
      (s.on Reg.KPR_DEBUG_JTAG_EN = false →
        (s.keeper.jtag.length < 3 → Gives (.jtagLockedInstruction code) s fun t => t.pins = { s.pins with ir := 0, scan := none } ∧
          s.gtc ∈ t.keeper.jtag ∧ t.get Reg.KPR_STATE_LEVEL = level ∧ t.conc = s.conc) ∧
        (3 ≤ s.keeper.jtag.length → (∀ t0 ∈ s.keeper.jtag, s.gtc < t0 + 100000000) → s.alarmLevel aDebugAttack = 1 →
          Gives (.jtagLockedInstruction code) s fun t => t.get Reg.KPR_STATE_LEVEL = max 1 level % 4 ∧ t.keeper.jtag = [] ∧
            t.conc.nextId = s.conc.nextId + 1)))

/-- R698, R699, R700, R701, R705, R706, R709, R710, R711, R712, R718, R720, R721, R723, R724, R728, R749, R751, R752, R753, R754:
stoppages, pins and heat.  A STOP or REOPEN is ignored without its key, overrun, refused by name or begun; a cluster closes, is
tested and returns to service; a link port or the sensor ingress goes into stoppage.  The diode, the MGMT bus and the driven
pins show their faults; sensors give T_HOT and T_PEAK every 1,000 t, and 125 degrees trips the die.  A step whose time has
not come leaves the state as it is.
Commands shown to complete: railWait, retryWait, stop, reopen, linkStopDrainExpire, sensorStopCaptureEnd, selftest, route,
diodeMeasure, mgmtBusClear, outputFight, thermalReading, thermalTrip, thermalWaitEnd, mgmtStuckClear. -/
def Obligations.StoppagesPinsHeat : Prop :=
  ∀ s : State,
    let inTrip := fun (t : State) => t.eng = (if s.alarmed then s.eng else engFailed) ∧ t.flight.running = false ∧
      t.get Reg.PWR_THERM_STATUS_TRIPPED = 1 ∧
      ∀ d, 0 < d → d < 28 → d ≠ 1 → d ≠ 5 → (t.dom d).st ≠ .opened
    let stopped := fun (t : State) (kind i : Nat) => t.inStoppage kind i = true ∧ t.stop = none ∧
      t.get Reg.PWR_STOP_STATUS_BUSY = 0 ∧ t.get Reg.PWR_STOP_STATUS_RESULT = pDone
    (∀ (src : Source) (v : BitVec 32), s.srcReaches src = true →
      let kind := bits v.toNat 7 4
      let i := bits v.toNat 3 0
      (bits v.toNat 31 16 ≠ 0xA5C3 → (Gives (.stop src v) s (· = s)) ∧ (Gives (.reopen src v) s (· = s))) ∧
      (bits v.toNat 31 16 = 0xA5C3 →
        (bits v.toNat 9 8 = 1 → s.on Reg.PWR_STOP_STATUS_BUSY = true → Gives (.stop src v) s fun t =>
          t.get Reg.PWR_STOP_STATUS_OVERRUN = 1 ∧ { t with regs := s.regs } = s) ∧
        (s.on Reg.PWR_STOP_STATUS_BUSY = false → s.stop = none →
          (∀ r, bits v.toNat 9 8 = 1 → s.stopRefusal 1 kind i = some r → Gives (.stop src v) s fun t =>
            t.get Reg.PWR_STOP_STATUS_RESULT = r ∧ { t with regs := s.regs } = s) ∧
          (∀ r, bits v.toNat 9 8 = 2 → s.stopRefusal 2 kind i = some r → Gives (.reopen src v) s fun t =>
            t.get Reg.PWR_STOP_STATUS_RESULT = r ∧ { t with regs := s.regs } = s) ∧
          (bits v.toNat 9 8 = 1 → kind = 1 → s.stopRefusal 1 1 i = none → s.domOpen (clDom i) = true →
            (s.gateOf (clDom i)).at_ ≠ some s.gtc →
            Gives (.stop src v) s fun t => t.get Reg.PWR_STOP_STATUS_BUSY = 1 ∧ t.get Reg.PWR_STOP_STATUS_STEP = 6 ∧
              t.stop = some ⟨1, i, false, false, s.byFailure 1 i, s.gtc, false⟩ ∧ (t.dom (clDom i)).st = .closing) ∧
          (bits v.toNat 9 8 = 2 → kind = 1 → s.stopRefusal 2 1 i = none → Gives (.reopen src v) s fun t =>
            t.get Reg.PWR_STOP_STATUS_BUSY = 1 ∧ t.get Reg.PWR_STOP_STATUS_STEP = 1 ∧
            t.stop = some ⟨1, i, true, false, s.byFailure 1 i, s.gtc, false⟩ ∧ (t.dom (clDom i)).st = .railWait)))) ∧
    (∀ x : StopCmd, s.stop = some x → x.reset = false →
      (x.kind = 4 → x.index < 6 → x.reopen = false → s.get Reg.PWR_STOP_STATUS_STEP = 6 → s.get Reg.MSH_EPOCH_STATE = 0 →
        let age := s.time (copyLink x.index) - x.since
        let answer := 4 * atLeast1 (s.get Reg.LNK_RESEND_T_TICKS)
        let confirm := 8 * atLeast1 (s.get Reg.LNK_ACK_TIMEOUT_TICKS)
        (age < (if x.drained then confirm else answer) → Gives .linkStopDrainExpire s (· = s)) ∧
        (∀ r : LinkReq, x.drained = false → answer ≤ age → s.link.out = [r] → r.h.hold.toNat = x.index →
          Gives .linkStopDrainExpire s fun t => t.link.out = [] ∧
            ((s.port x.index).replay ≠ [] → t.stop = some { x with drained := true, since := s.time (copyLink x.index) }) ∧
            ((s.port x.index).replay = [] → stopped t 4 x.index)) ∧
        (x.drained = true → confirm ≤ age → Gives .linkStopDrainExpire s fun t => stopped t 4 x.index ∧
          t.portState x.index = pDisabled ∧ t.port x.index = Port.reset)) ∧
      (x.kind = 5 → x.reopen = false →
        (s.island.capture ≠ none → s.gtc < x.since + s.get Reg.WAT_FRAME_WINDOW_TICKS →
          Gives .sensorStopCaptureEnd s (· = s)) ∧
        (s.island.capture = none ∨ x.since + s.get Reg.WAT_FRAME_WINDOW_TICKS ≤ s.gtc → Gives .sensorStopCaptureEnd s fun t =>
          stopped t 5 0 ∧ (t.dom 11).st = .stoppage ∧ t.island.capture = none)) ∧
      (x.kind = 1 → x.index < 16 → x.reopen = true →
        (s.get Reg.PWR_STOP_STATUS_STEP = 3 →
          (x.since + s.testLimit x < s.gtc → Gives (.selftest true) s (· = s)) ∧
          (s.gtc ≤ x.since + s.testLimit x → Gives (.selftest true) s fun t => t.get Reg.PWR_STOP_STATUS_STEP = 4 ∧
            t.stop = s.stop ∧
            ∀ k, k < 4 → (t.tile (4 * x.index + k)).store = [] ∧ (t.tile (4 * x.index + k)).written = []) ∧
          ((s.dom (clDom x.index)).attempt < 2 → Gives (.selftest false) s fun t =>
            (t.dom (clDom x.index)).st = .retryWait ∧
            (t.dom (clDom x.index)).attempt = (s.dom (clDom x.index)).attempt + 1)) ∧
        (s.get Reg.PWR_STOP_STATUS_STEP = 4 → Gives .route s fun t => (t.dom (clDom x.index)).st = .opened ∧
          t.inStoppage 1 x.index = false ∧ t.stop = none ∧ t.get Reg.PWR_STOP_STATUS_RESULT = pDone))) ∧
    (∀ (v10 v100 : BitVec 16) (reading : BitVec 10),
      (s.gtc < s.pins.diodeAt + 1000 → Gives (.diodeMeasure v10 v100 reading) s (· = s)) ∧
      (s.pins.diodeAt + 1000 ≤ s.gtc →
        (9000 < v10.toNat → Gives (.diodeMeasure v10 v100 reading) s fun t => t.get Reg.PWR_PIN_STATUS_DIODE = 1 ∧
          t.pins.diodeAt = s.gtc) ∧
        (v10.toNat ≤ 9000 → v100.toNat < 2000 → Gives (.diodeMeasure v10 v100 reading) s fun t =>
          t.get Reg.PWR_PIN_STATUS_DIODE = 2 ∧ t.pins.diodeAt = s.gtc) ∧
        (∀ t0, v10.toNat ≤ 9000 → 2000 ≤ v100.toNat → s.hottest = some t0 →
          (reading.toNat ≤ t0 + 80 → t0 ≤ reading.toNat + 80 → reading.toNat < tripTemp →
            (s.pins.diodeGood < 99 → Gives (.diodeMeasure v10 v100 reading) s fun t => t.temp 17 = reading.toNat ∧
              t.pins.diodeGood = s.pins.diodeGood + 1 ∧ t.pins.diodeBad = 0 ∧ t.pins.diodeAt = s.gtc ∧
              t.get Reg.PWR_PIN_STATUS_DIODE = s.get Reg.PWR_PIN_STATUS_DIODE) ∧
            (s.pins.diodeGood = 99 → Gives (.diodeMeasure v10 v100 reading) s fun t =>
              t.get Reg.PWR_PIN_STATUS_DIODE = 0)) ∧
          (t0 + 80 < reading.toNat → s.pins.diodeBad = 99 → Gives (.diodeMeasure v10 v100 reading) s fun t =>
            t.get Reg.PWR_PIN_STATUS_DIODE = 3)))) ∧
    (∀ freed : Bool, s.on Reg.PWR_PIN_STATUS_MGMT_STUCK = false →
      (Gives (.mgmtBusClear true freed) s fun t => t.get Reg.PWR_PIN_STATUS_MGMT_STUCK = 1) ∧
      (s.pins.clears = [] → Gives (.mgmtBusClear false freed) s (· = { s with pins := { s.pins with clears := [s.gtc] } })) ∧
      (s.pins.clears.length = 2 → (∀ c ∈ s.pins.clears, s.gtc < c + 100000000) →
        (Gives (.mgmtBusClear false false) s fun t => t.get Reg.PWR_PIN_STATUS_MGMT_STUCK = 1) ∧
        Gives (.mgmtBusClear false true) s fun t => t.get Reg.PWR_PIN_STATUS_MGMT_STUCK = 0 ∧
          t.pins.clears = s.pins.clears ++ [s.gtc])) ∧
    (s.on Reg.PWR_PIN_STATUS_MGMT_STUCK = true → Gives .mgmtStuckClear s fun t => t.get Reg.PWR_PIN_STATUS_MGMT_STUCK = 0) ∧
    (Gives (.outputFight true) s fun t => t.get Reg.PWR_PIN_STATUS_ALARM_FIGHT = 1 ∧
      t.get Reg.PWR_PIN_STATUS_WAKE_OUT_FIGHT = s.get Reg.PWR_PIN_STATUS_WAKE_OUT_FIGHT) ∧
    (Gives (.outputFight false) s fun t => t.get Reg.PWR_PIN_STATUS_WAKE_OUT_FIGHT = 1) ∧
    (∀ readings : List (BitVec 10), s.on Reg.PWR_THERM_STATUS_THROTTLE = false → s.get Reg.PWR_PIN_STATUS_DIODE = 0 →
      s.get Reg.PWR_THERM_STATUS_T_PEAK < 1024 → s.temp 17 < min tripTemp s.thermLimit →
      (∀ k ∈ s.liveSensors, ∃ r, readings[k]? = some r ∧ r.toNat < min tripTemp s.thermLimit) →
      s.pins.tempAt + 1000 ≤ s.gtc → Gives (.thermalReading readings) s fun t =>
        (∀ k ∈ s.liveSensors, ∀ r, readings[k]? = some r → t.temp k = r.toNat) ∧
        t.get Reg.PWR_THERM_STATUS_T_HOT = max (t.hottest.getD 0) (s.temp 17) ∧
        t.get Reg.PWR_THERM_STATUS_T_PEAK = max (t.get Reg.PWR_THERM_STATUS_T_HOT) (s.get Reg.PWR_THERM_STATUS_T_PEAK) ∧
        t.on Reg.PWR_THERM_STATUS_THROTTLE = false ∧ t.doms = s.doms ∧ t.pins.tempAt = s.gtc) ∧
    (∀ readings : List (BitVec 10), s.gtc < s.pins.tempAt + 1000 → Gives (.thermalReading readings) s (· = s)) ∧
    (∀ sensor : BitVec 5,
      (sensor.toNat ∉ s.liveSensors → Gives (.thermalTrip sensor) s (· = s)) ∧
      (sensor.toNat ∈ s.liveSensors → s.eng ≠ engStandby → Gives (.thermalTrip sensor) s inTrip) ∧
      (sensor.toNat ∈ s.liveSensors → s.eng = engStandby → Gives (.thermalTrip sensor) s fun t =>
        t.pins.heatHold = true ∧ t.get Reg.PWR_THERM_STATUS_TRIPPED = 1 ∧ t.doms = s.doms)) ∧
    (s.flight.heatWait = true →
      (s.tooHot = true → Gives .thermalWaitEnd s (· = s)) ∧
      (∀ d r, s.tooHot = false → s.flight.running = true → s.get Reg.PWR_FLIGHT_STATUS_PHASE = 2 → s.flight.lastDom = none →
        s.flight.todo = d :: r → Gives .thermalWaitEnd s fun t => t.flight.heatWait = false ∧ (t.dom d).st = .railWait ∧
          t.flight.lastDom = some d ∧ t.flight.todo = r))

/-- R16, R18, R20, R21, R46, R49, R202, R650, R720, R743, R744, R745, R746: registers, MGMT and JTAG.  A write reaches the fields
that its type lets it, in whole or by halves; a clear-on-write register returns to 0; an access of another width counts; the
MGMT target answers with status and data and takes or drops its address; the public JTAG instructions shift out what R650
gives, and the towpath answers only while JTAG is enabled.
Commands shown to complete: registerWrite, clearOnWrite, read32, read64, write32, write64, mgmtStatusRead, entdaa, setdasa,
rstdaa, bypass, idcode, samplePreload, extest, jtagTowpathAccess, badWidthAccess. -/
def Obligations.RegistersManagementJtag : Prop :=
  ∀ s : State,
    let cfg := fun (t : State) (r : Nat) => (t.get (Reg.PWR_RAIL_CFG_CRACK_WINDOW r), t.get (Reg.PWR_RAIL_CFG_CRACK_MIN_I r),
      t.get (Reg.PWR_RAIL_CFG_CRACK_MARGIN r), t.get (Reg.PWR_RAIL_CFG_PATH_UOHM r))
    let onlyPins := fun (t : State) => { t with pins := s.pins } = s
    (∀ (v : BitVec 64) (r : BitVec 4), s.domLive 5 = true → s.domLive 1 = true →
      let o := BitVec.ofNat 26 (Reg.PWR_RAIL_CFG r.toNat)
      let high := fun (x : Nat) => (bits x 23 16, bits x 7 0)
      let low := fun (x : Nat) => (bits x 31 16, bits x 15 0)
      (Gives (.registerWrite o 8 v) s fun t => { t with regs := s.regs } = s ∧
        cfg t r.toNat = (bits v.toNat 55 48, bits v.toNat 39 32, bits v.toNat 31 16, bits v.toNat 15 0)) ∧
      (Gives (.registerWrite o 4 v) s fun t => cfg t r.toNat =
        ((cfg s r.toNat).1, (cfg s r.toNat).2.1, (low v.toNat).1, (low v.toNat).2)) ∧
      (Gives (.registerWrite (o + 4) 4 v) s fun t => cfg t r.toNat =
        ((high v.toNat).1, (high v.toNat).2, (cfg s r.toNat).2.2.1, (cfg s r.toNat).2.2.2)) ∧
      (Gives (.registerWrite (o + 4) 8 v) s fun t => t = s) ∧
      (Gives (.registerWrite o 2 v) s fun t => t = s) ∧
      (v.getLsbD 30 = true → Gives (.registerWrite (BitVec.ofNat 26 Reg.PWR_STOP_STATUS) 4 v) s fun t =>
        t.get Reg.PWR_STOP_STATUS_OVERRUN = 0 ∧ t.get Reg.PWR_STOP_STATUS_RESULT = s.get Reg.PWR_STOP_STATUS_RESULT) ∧
      (s.domLive 2 = true → Gives (.registerWrite (BitVec.ofNat 26 Reg.KPR_DEBUG) 4 v) s fun t => t = s) ∧
      (Gives (.clearOnWrite (BitVec.ofNat 26 Reg.MSH_COUNTS) 8 v) s fun t => t.get Reg.MSH_COUNTS_UNREACHABLE = 0 ∧
        t.get Reg.MSH_COUNTS_ROUTE_ERR = 0 ∧ t.get Reg.MSH_COUNTS_LATE = 0 ∧ t.get Reg.MSH_COUNTS_TIMEOUTS = 0 ∧
        { t with regs := s.regs } = s) ∧
      (Gives (.clearOnWrite o 8 v) s fun t => t = s)) ∧
    (∀ (o : BitVec 26) (n : BitVec 4) (v : BitVec 64), s.domLive 5 = false → Gives (.registerWrite o n v) s fun t => t = s) ∧
    (∀ (write : Bool) (o : BitVec 21) (n : BitVec 4), s.domLive 3 = true → s.domLive 5 = true →
      (acceptsDoorbell write o.toNat n.toNat = true → Gives (.badWidthAccess write o n) s fun t => t = s) ∧
      (acceptsDoorbell write o.toNat n.toNat = false → Gives (.badWidthAccess write o n) s fun t =>
        t.get Reg.DSP_SUBMIT_COUNTS_BAD_WIDTH =
          min (s.get Reg.DSP_SUBMIT_COUNTS_BAD_WIDTH + 1) (Reg.DSP_SUBMIT_COUNTS_BAD_WIDTH.size - 1) ∧
        { t with regs := s.regs } = s)) ∧
    (s.on Reg.PWR_PIN_STATUS_MGMT_STUCK = false →
      (∀ o : BitVec 32, mgmtReach o.toNat = true →
        (Gives (.read32 o 5) s fun t => t.pins.answer = (0, leBytes 4 (s.readAt .mgmt o.toNat 4)) ∧ onlyPins t) ∧
        (Gives (.read64 o 5) s fun t => t.pins.answer = (0, leBytes 8 (s.readAt .mgmt o.toNat 8)) ∧ onlyPins t) ∧
        (∀ v : BitVec 32, Gives (.write32 o 9 v) s fun t => t.pins.answer = (0, []))) ∧
      (∀ (o : BitVec 32) (len : BitVec 8), len ≠ 5 →
        Gives (.read32 o len) s fun t => t.pins.answer = (1, List.replicate 4 0) ∧ onlyPins t) ∧
      (∀ o : BitVec 32, mgmtReach o.toNat = false →
        (Gives (.read64 o 5) s fun t => t.pins.answer = (2, List.replicate 8 0) ∧ onlyPins t) ∧
        (∀ v : BitVec 64, Gives (.write64 o 13 v) s fun t => t.pins.answer = (2, []) ∧ onlyPins t)) ∧
      (∀ (v : BitVec 64) (r : BitVec 4), s.domLive 1 = true →
        Gives (.write64 (BitVec.ofNat 32 (Reg.PWR_RAIL_CFG r.toNat)) 13 v) s fun t => t.pins.answer = (0, []) ∧
          cfg t r.toNat = (bits v.toNat 55 48, bits v.toNat 39 32, bits v.toNat 31 16, bits v.toNat 15 0)) ∧
      (s.domLive 1 = true → s.get Reg.ENG_ID_ID = 0x2616 → Gives (.read32 (BitVec.ofNat 32 Reg.ENG_ID) 5) s fun t =>
        t.pins.answer = (0, leBytes 4 0x2616)) ∧
      (s.domLive 1 = false → Gives (.read64 (BitVec.ofNat 32 Reg.ENG_CAPS) 5) s fun t =>
        t.pins.answer = (0, List.replicate 4 0 ++ leBytes 4 (s.readAt .mgmt Reg.ENG_STATE 4))) ∧
      (Gives .mgmtStatusRead s fun t => t = { s with pins := { s.pins with answered := s.pins.answer } }) ∧
      (∀ a b : BitVec 7, s.pins.address = none →
        (Gives (.entdaa a) s fun t => t = { s with pins := { s.pins with address := some a.toNat } }) ∧
        (Gives (.setdasa 0x3A a) s fun t => t = { s with pins := { s.pins with address := some a.toNat } }) ∧
        (b ≠ 0x3A → Gives (.setdasa b a) s fun t => t = s)) ∧
      (Gives .rstdaa s fun t => t = { s with pins := { s.pins with address := none } })) ∧
    (s.on Reg.PWR_PIN_STATUS_MGMT_STUCK = true → ∀ (o : BitVec 32) (len : BitVec 8) (a : BitVec 7),
      (Gives (.read32 o len) s fun t => t = s) ∧ (Gives (.entdaa a) s fun t => t = s)) ∧
    (Gives .bypass s fun t => t = { s with pins := { s.pins with ir := 0, scan := none, jtagOut := 0 } }) ∧
    (Gives .idcode s fun t => t = { s with pins := { s.pins with ir := 1, scan := none, jtagOut := 0x22616D2B } }) ∧
    (∀ cells : BitVec 256, Gives (.samplePreload cells) s fun t => t.pins.ir = 2 ∧ t.pins.preload = cells.toNat ∧
      t.pins.scan = none ∧ t.regs = s.regs) ∧
    (Gives .extest s fun t => t.pins.ir = 3 ∧ t.pins.scan = some s.pins.preload ∧ t.regs = s.regs) ∧
    (∀ (o : BitVec 26) (n : BitVec 4) (v : BitVec 64) (code : BitVec 8),
      (s.on Reg.KPR_DEBUG_JTAG_EN = true → Gives (.jtagTowpathAccess false o n v code) s fun t =>
        t = { s with pins := { s.pins with ir := 4, scan := none, jtagOut := s.readAt .jtag o.toNat n.toNat } }) ∧
      (s.on Reg.KPR_DEBUG_JTAG_EN = false → s.keeper.jtag = [] → ∀ w : Bool, Gives (.jtagTowpathAccess w o n v code) s fun t =>
        t.pins = { s.pins with ir := 0, scan := none } ∧ t.regs = s.regs ∧ t.keeper.jtag = [s.gtc]))

/-- The queue (log entry 35, the model's choice): a step runs the command at the front of the queue, with the rest waiting, and
answers what it answers; with none waiting it is one advance of the GTC master. -/
def Obligations.StepRunsTheFrontCommand : Prop :=
  (∀ (c : Instr) (rest : List Instr) (s : State), step { s with pending := c :: rest } = exec c { s with pending := rest }) ∧
  (∀ s : State, s.pending = [] → step s = .next s.tick)

/-- R90, R93, R531, R555, R556: the GTC.  Power-on sets the count to 0, and no other command moves it; it advances only in a step
with no command waiting (log entry 35, the model's choice: 10 ns of the reference PLL, or one period of the RC oscillator), and
never back.  On the PLL it gains its rate, one tick with STEER 0, and a step of R531 only where the count passes a multiple of
1,024; on the RC oscillator it gains 3,125. -/
def Obligations.CountNeverGoesBack : Prop :=
  State.reset.gtc = 0 ∧ (∀ s : State, Gives .coldReset s fun t => t.gtc = 0) ∧
  (∀ (c : Instr) (s t : State), c ≠ .coldReset → exec c s = .next t → t.gtc = s.gtc) ∧
  (∀ s t : State, s.pending = [] → step s = .next t → s.gtc ≤ t.gtc ∧
    (s.onRc = true → t.gtc = s.gtc + 3125) ∧
    (s.onRc = false →
      let n := (s.copies.frac + 2 * s.gtcInc) / 2 ^ 32
      (s.copies.stepBy = 0 ∨ s.gtc / 1024 = (s.gtc + n) / 1024 → t.gtc = s.gtc + n ∧ t.copies.stepBy = s.copies.stepBy) ∧
      (s.copies.stepBy ≠ 0 → s.gtc / 1024 ≠ (s.gtc + n) / 1024 → t.gtc = s.gtc + n + s.copies.stepBy ∧ t.copies.stepBy = 0) ∧
      (s.get Reg.CLK_GTC_STATUS_STEER = 0 → s.copies.frac < 2 ^ 32 → n = 1)))

/-- R90, R93: the cold column of the table of states after reset, and PD0 alone OPEN, at `State.reset`.  Values of registers for
which the spec gives none, and the part taken, are the model's (log entry 30). -/
def Obligations.StateAfterPowerOn : Prop :=
  let s := State.reset
  s.gtc = 0 ∧ s.onRc = true ∧ s.get Reg.KPR_STATE_LEVEL = 0 ∧ s.get Reg.KPR_STATE_QUARANTINE = 0 ∧ s.conc.log = [] ∧
  (∀ c, (s.ctx c).st = .free) ∧ s.queues = [] ∧ s.waiters = [] ∧ s.xlt.tlb1 = [] ∧ s.xlt.tlb2 = [] ∧
  s.xlt.cache = [] ∧ s.basin.scratch = [] ∧ s.island.sram = [] ∧ (∀ k, (s.tile k).store = []) ∧
  (∀ c, c < 16 → s.get (Reg.PWR_CL_OP_OP c) = 0) ∧ (s.dom 0).st = .opened ∧ (∀ d, d ≠ 0 → (s.dom d).st = .closed) ∧
  s.get Reg.ENG_ID_ID = 0x2616 ∧ s.get Reg.WAT_FRAME_PERIOD_TICKS = 50000000 ∧ s.get Reg.WAT_FRAME_WINDOW_TICKS = 2000000 ∧
  (∀ d, d < 512 → s.get (Reg.LNK_DEST_PRIMARY d) = 0xF) ∧ s.pending = []

/-- Every command has a next state in every state (R3, R18, R21 and R49 among the rules: what may not act is ignored), and
none touches the queue.  Safety of the block: no run of it stops. -/
def Obligations.EveryCommandCompletes : Prop :=
  ∀ (c : Instr) (s : State), Gives c s fun t => t.pending = s.pending

/-- R632, with R553 and R554: the fuses.  A flight with COMMIT_SVN that ends ready blows the thermometers of KFW and DSPM up to the
loaded images' SVN, never past 32; no step unblows a fuse, and none changes another fuse than a thermometer or an ageing step. -/
def Obligations.FusesOnlyBlow : Prop :=
  (∀ s t : State, exec .flightReady s = .next t → s.isReady = false → t.isReady = true → ∀ c,
    Tab.get 0 t.fuses.svn c = if s.flight.commitSvn = true ∧ (c = 1 ∨ c = 2) then
      min 32 (max (Tab.get 0 s.fuses.svn c) (Tab.get 0 s.flight.svn c)) else Tab.get 0 s.fuses.svn c) ∧
  (∀ s t : State, s.fuses.inRange → step s = .next t → t.fuses.inRange ∧
    (∀ c, Tab.get 0 s.fuses.svn c ≤ Tab.get 0 t.fuses.svn c ∧ Tab.get 0 s.fuses.ageSteps c ≤ Tab.get 0 t.fuses.ageSteps c) ∧
    { t.fuses with svn := s.fuses.svn, ageSteps := s.fuses.ageSteps } = s.fuses)

/-- The canonical form of system memory (the model's, log entry 2): addresses rising, no byte listed that reads as an unlisted
one does.  Every step keeps it, so equal memories are equal data. -/
def Obligations.SystemMemoryStaysCanonical : Prop :=
  ∀ s t : State, Memory.wf s.mem = true → step s = .next t → Memory.wf t.mem = true

/-- The block's own memories (in the model's canonical form, log entry 2): the fault log, the basin scratch, the island SRAM and
every tile store keep that form at every step. -/
def Obligations.BlockMemoriesStayCanonical : Prop :=
  ∀ s t : State, s.storesWf → step s = .next t → t.storesWf

/-- The invariants that steps keep hold at reset (the model's canonical form of memory, log entry 2, and its part, log entry 30):
every memory is canonical, the fuses are in range and LEVEL is a level. -/
def Obligations.ResetHoldsInvariants : Prop :=
  Memory.wf State.reset.mem = true ∧ State.reset.storesWf ∧ State.reset.fuses.inRange ∧ State.reset.get Reg.KPR_STATE_LEVEL < 4

/-- R659, R662: LEVEL holds the highest level since power-up.  No step lowers it, a command of any sender, a reset, a flight or a
commit of the Keeper among them, but VDD_AON power-on; it reads 0 after that. -/
def Obligations.AlarmLevelNeverFalls : Prop :=
  (∀ (c : Instr) (s t : State), c ≠ .coldReset → exec c s = .next t → s.get Reg.KPR_STATE_LEVEL ≤ t.get Reg.KPR_STATE_LEVEL) ∧
  (∀ s t : State, s.pending = [] → step s = .next t → s.get Reg.KPR_STATE_LEVEL ≤ t.get Reg.KPR_STATE_LEVEL) ∧
  (∀ s : State, Gives .coldReset s fun t => t.get Reg.KPR_STATE_LEVEL = 0)

/-- R286, R295, R298, R302, R303, R305, R316, R317, R761: where a control-core instruction of a tile raises an exception.  A
register field with unused bits set, a field that must be 0 and is not, and a reserved bit of TMODE are illegal instructions; a
misaligned address comes before one outside the store; a fetch at or beyond SIZE raises fetch range whatever the instruction.
The core stops issuing, the exception's code, detail and offset stand, and no register and no byte changes. -/
def Obligations.TileExceptions : Prop :=
  ∀ (s : State) (u : BitVec 7) (rd rs1 rs2 : BitVec 5) (imm : BitVec 16) (off : BitVec 14) (ext : Option (BitVec 26))
    (hits : List TileHit),
    (s.tile (coreOf u)).units = [] → (s.tile (coreOf u)).exc = none → coreOf u ≠ isleCore →
    let c := coreOf u
    let x := s.tile c
    (s.canIssue c false = true →
      (rs2 ≠ 0 → Raises (.clz u rd rs1 rs2) s c ⟨0x10, 0⟩ ∧ Raises (.popc u rd rs1 rs2) s c ⟨0x10, 0⟩) ∧
      (16 ≤ rd.toNat ∨ 16 ≤ rs1.toNat ∨ rs2 ≠ 0 → Raises (.amov u rd rs1 rs2) s c ⟨0x10, 0⟩) ∧
      (16 ≤ rd.toNat ∨ 16 ≤ rs1.toNat → Raises (.aadd u rd rs1 rs2) s c ⟨0x10, 0⟩) ∧
      (16 ≤ rd.toNat ∨ rs1 ≠ 0 ∨ rs2 ≠ 0 → Raises (.tzero u rd rs1 rs2) s c ⟨0x10, 0⟩) ∧
      (256 ≤ imm.toNat → Raises (.phase u imm) s c ⟨0x10, 0⟩) ∧
      (16 ≤ imm.toNat → Raises (.time u imm) s c ⟨0x10, 0⟩) ∧
      (imm.toNat < 32 → x.sreg imm.toNat &&& 0xFFFFFF70 ≠ 0 → Raises (.tmodeWrite u imm) s c ⟨0x10, 2⟩)) ∧
    (s.canIssue c ext.isSome = true →
      (rs2 ≠ 0 → (((x.sreg rs2.toNat).toNat : Int) + 4 * immOf imm ext).emod 4 ≠ 0 →
        Raises (.jalr u rs1 rs2 imm ext) s c ⟨0x10, 2⟩) ∧
      (∀ a : Nat, scalarAddr x rs1.toNat off ext = a →
        (a % 4 ≠ 0 → Raises (.lw u rd rs1 off ext hits) s c ⟨0x11, rs1.toNat % 16 + 0x30⟩ ∧
          Raises (.sw u rd rs1 off ext hits) s c ⟨0x11, rs1.toNat % 16 + 0x30⟩) ∧
        (a % 4 = 0 → 2 ^ 20 ≤ a → Raises (.lw u rd rs1 off ext hits) s c ⟨0x12, min a 0x1FFFFF⟩ ∧
          Raises (.sw u rd rs1 off ext hits) s c ⟨0x12, min a 0x1FFFFF⟩) ∧
        (2 ^ 20 ≤ a → Raises (.lbu u rd rs1 off ext hits) s c ⟨0x12, min a 0x1FFFFF⟩ ∧
          Raises (.sb u rd rs1 off ext hits) s c ⟨0x12, min a 0x1FFFFF⟩)) ∧
      (scalarAddr x rs1.toNat off ext < 0 → Raises (.lbu u rd rs1 off ext hits) s c ⟨0x12, 0x1FFFFF⟩)) ∧
    (x.task.isSome = true → x.core = .running → x.halted = false → x.yielding = false → x.stepping = false →
      s.stalled (4 * clStop (c / 4) + c % 4) = false →
      s.breaks c = false → x.progSize ≤ x.pc → Raises (.add u rd rs1 rs2) s c ⟨0x17, 0⟩ ∧
        Raises (.sw u rd rs1 off none hits) s c ⟨0x17, 0⟩ ∧ Raises (.trap u imm) s c ⟨0x17, 0⟩)
end

