-- ==== Sys2Proof/Laws/Tab.lean ====
section
/-! SUPPORT. Laws of tables and memories: read after write, and the canonical form of a memory kept by every operation. -/

namespace Sys2Proof.Machine

@[simp] theorem Tab.get_nil {α : Type} (d : α) (k : Nat) : Tab.get d [] k = d := rfl

theorem Tab.get_set {α : Type} (d : α) (m : Tab α) (k j : Nat) (v : α) :
    Tab.get d (Tab.set m k v) j = if j = k then v else Tab.get d m j := by
  induction m with
  | nil =>
    by_cases h : j = k
    · simp [Tab.set, Tab.get, h]
    · have h' : ¬(k = j) := fun e => h e.symm
      simp [Tab.set, Tab.get, h, h']
  | cons e r ih =>
    obtain ⟨k', v'⟩ := e
    by_cases hk : k' = k
    · subst hk
      by_cases h : j = k'
      · simp [Tab.set, Tab.get, h]
      · have h' : ¬(k' = j) := fun e => h e.symm
        simp [Tab.set, Tab.get, h, h']
    · by_cases h : k' = j
      · subst h; simp [Tab.set, Tab.get, hk]
      · simp [Tab.set, Tab.get, hk, h, ih]

@[simp] theorem Tab.get_set_self {α : Type} (d : α) (m : Tab α) (k : Nat) (v : α) :
    Tab.get d (Tab.set m k v) k = v := by simp [Tab.get_set]

@[simp] theorem Tab.get_set_ne {α : Type} (d : α) (m : Tab α) {k j : Nat} (v : α) (h : j ≠ k) :
    Tab.get d (Tab.set m k v) j = Tab.get d m j := by simp [Tab.get_set, h]

theorem Tab.get_drop {α : Type} (d : α) (p : Nat → Bool) (m : Tab α) (k : Nat) :
    Tab.get d (Tab.drop p m) k = if p k then d else Tab.get d m k := by
  induction m with
  | nil => simp [Tab.drop]
  | cons e r ih =>
    obtain ⟨k', v'⟩ := e
    by_cases hp : p k' = true
    · simp only [Tab.drop, hp, ↓reduceIte, ih, Tab.get]
      by_cases h : k' = k
      · subst h; simp [hp]
      · simp [h]
    · simp only [Tab.drop, hp, Bool.false_eq_true, ↓reduceIte, ih, Tab.get]
      by_cases h : k' = k
      · subst h; simp [hp]
      · simp [h]

/-! ## Memories -/

/-- Bounds under which a memory is canonical. -/
def Cells.above (lo : Option Nat) (a : Nat) : Prop := match lo with
  | none => True
  | some l => l < a

theorem Cells.wfFrom_cons (lo : Option Nat) (a : Nat) (b : Byte) (r : Cells) :
    Cells.wfFrom lo ((a, b) :: r) = true ↔ Cells.above lo a ∧ b ≠ Cells.blank ∧ Cells.wfFrom (some a) r = true := by
  cases lo <;> simp [Cells.wfFrom, Cells.above, and_assoc]

theorem Cells.wfFrom_mono (m : Cells) : ∀ (lo : Option Nat) (l : Nat), Cells.above lo l → Cells.wfFrom (some l) m = true →
    Cells.wfFrom lo m = true := by
  intro lo l hl h
  cases m with
  | nil => rfl
  | cons e r =>
    obtain ⟨a, b⟩ := e
    rw [Cells.wfFrom_cons] at h ⊢
    refine ⟨?_, h.2⟩
    have h1 : l < a := h.1
    cases lo with
    | none => trivial
    | some x => exact Nat.lt_trans (show x < l from hl) h1

theorem Cells.put_wf (m : Cells) : ∀ (lo : Option Nat) (a : Nat) (b : Byte), Cells.above lo a →
    Cells.wfFrom lo m = true → Cells.wfFrom lo (Cells.put m a b) = true := by
  induction m with
  | nil =>
    intro lo a b h _
    simp only [Cells.put]
    split
    · rfl
    · rw [Cells.wfFrom_cons]; exact ⟨h, by assumption, rfl⟩
  | cons e r ih =>
    obtain ⟨a', b'⟩ := e
    intro lo a b h hm
    have hm' := (Cells.wfFrom_cons lo a' b' r).1 hm
    simp only [Cells.put]
    split
    · split
      · exact hm
      · rw [Cells.wfFrom_cons]
        exact ⟨h, by assumption, (Cells.wfFrom_cons _ _ _ _).2 ⟨by assumption, hm'.2⟩⟩
    · split
      · split
        · exact Cells.wfFrom_mono r lo a' hm'.1 hm'.2.2
        · next he _ => subst he; rw [Cells.wfFrom_cons]; exact ⟨h, by assumption, hm'.2.2⟩
      · rw [Cells.wfFrom_cons]
        exact ⟨hm'.1, hm'.2.1, ih (some a') a b (show a' < a by omega) hm'.2.2⟩

theorem Cells.wipe_wf (x n : Nat) (m : Cells) : ∀ lo : Option Nat, Cells.wfFrom lo m = true →
    Cells.wfFrom lo (Cells.wipe x n m) = true := by
  induction m with
  | nil => intro lo _; rfl
  | cons e r ih =>
    obtain ⟨a, b⟩ := e
    intro lo h
    have h' := (Cells.wfFrom_cons lo a b r).1 h
    simp only [Cells.wipe]
    split
    · exact ih lo (Cells.wfFrom_mono r lo a h'.1 h'.2.2)
    · rw [Cells.wfFrom_cons]; exact ⟨h'.1, h'.2.1, ih _ h'.2.2⟩

/-- Writing a byte keeps the canonical form. -/
theorem Memory.wf_put (m : Cells) (a : Nat) (b : Byte) (h : Memory.wf m = true) : Memory.wf (m.put a b) = true :=
  Cells.put_wf m none a b trivial h

/-- Writing a list of bytes keeps the canonical form. -/
theorem Memory.wf_putList (bs : List Byte) : ∀ (m : Cells) (a : Nat), Memory.wf m = true →
    Memory.wf (m.putList a bs) = true := by
  induction bs with
  | nil => intro m a h; exact h
  | cons b bs ih => intro m a h; exact ih _ _ (Memory.wf_put m a b h)

/-- Writing a number keeps the canonical form. -/
theorem Memory.wf_putLe (m : Cells) (a n v : Nat) (h : Memory.wf m = true) : Memory.wf (m.putLe a n v) = true :=
  Memory.wf_putList _ m a h

/-- Clearing a range keeps the canonical form. -/
theorem Memory.wf_wipe (m : Cells) (a n : Nat) (h : Memory.wf m = true) : Memory.wf (m.wipe a n) = true :=
  Cells.wipe_wf a n m none h

theorem Cells.byte_below (m : Cells) : ∀ (l a : Nat), Cells.wfFrom (some l) m = true → a ≤ l →
    Cells.byte m a = Cells.blank := by
  induction m with
  | nil => intros; rfl
  | cons e r ih =>
    obtain ⟨a', b'⟩ := e
    intro l a h ha
    have h' := (Cells.wfFrom_cons (some l) a' b' r).1 h
    have hl : l < a' := h'.1
    have : a' ≠ a := by omega
    simp only [Cells.byte, this, ↓reduceIte]
    exact ih a' a h'.2.2 (by omega)

theorem Cells.byte_put_from (m : Cells) : ∀ (lo : Option Nat) (a : Nat) (b : Byte) (x : Nat), Cells.wfFrom lo m = true →
    Cells.byte (Cells.put m a b) x = if x = a then b else Cells.byte m x := by
  induction m with
  | nil =>
    intro lo a b x _
    simp only [Cells.put]
    have ha : x ≠ a → ¬(a = x) := fun h e => h e.symm
    by_cases hb : b = Cells.blank <;> by_cases hx : x = a <;> simp [Cells.byte, hb, hx, ha]
  | cons e r ih =>
    obtain ⟨a', b'⟩ := e
    intro lo a b x h
    have h' := (Cells.wfFrom_cons lo a' b' r).1 h
    simp only [Cells.put]
    split
    · next hlt =>
      split
      · next hb =>
        by_cases hx : x = a
        · subst hx
          have h1 : a' ≠ x := by omega
          simp only [Cells.byte, h1, ↓reduceIte, hb]
          exact Cells.byte_below r a' x h'.2.2 (by omega)
        · simp [hx]
      · by_cases hx : x = a
        · subst hx; simp [Cells.byte]
        · have h2 : a ≠ x := fun h => hx h.symm
          simp [Cells.byte, h2, hx]
    · split
      · next he =>
        subst he
        split
        · next hb =>
          by_cases hx : x = a
          · subst hx; simp only [↓reduceIte, hb]; exact Cells.byte_below r x x h'.2.2 (Nat.le_refl _)
          · have h2 : a ≠ x := fun h => hx h.symm
            simp [Cells.byte, h2, hx]
        · by_cases hx : x = a
          · subst hx; simp [Cells.byte]
          · have h2 : a ≠ x := fun h => hx h.symm
            simp [Cells.byte, h2, hx]
      · next hne =>
        by_cases hx : a' = x
        · subst hx
          have h2 : a' ≠ a := fun h => hne h.symm
          simp [Cells.byte, h2]
        · simp only [Cells.byte, hx, ↓reduceIte]
          exact ih (some a') a b x h'.2.2

/-- A byte read after a byte is written. -/
theorem Cells.byte_put (m : Cells) (a : Nat) (b : Byte) (x : Nat) (h : Memory.wf m = true) :
    (m.put a b).byte x = if x = a then b else m.byte x :=
  Cells.byte_put_from m none a b x h

theorem Cells.byte_wipe (a n : Nat) (m : Cells) (x : Nat) :
    Cells.byte (Cells.wipe a n m) x = if a ≤ x ∧ x < a + n then Cells.blank else Cells.byte m x := by
  induction m with
  | nil => simp [Cells.wipe, Cells.byte]
  | cons e r ih =>
    obtain ⟨a', b'⟩ := e
    simp only [Cells.wipe]
    split
    · next h =>
      rw [ih]
      by_cases hx : a' = x
      · subst hx; simp [h]
      · simp [Cells.byte, hx]
    · next h =>
      by_cases hx : a' = x
      · subst hx; simp [Cells.byte, h]
      · simp only [Cells.byte, hx, ↓reduceIte, ih]

end Sys2Proof.Machine
end

