-- ==== Sys2Proof/Laws/State.lean ====
section
/-! SUPPORT. What each named update of the state leaves alone and what it sets: one lemma per field per update, each true by
computation, so that no proof unfolds a record update. -/

namespace Sys2Proof.Machine

/-! ## `State.put` -/

@[simp] theorem State.put_gtc (s : State) (f : Fld) (v : Nat) : (s.put f v).gtc = s.gtc := rfl
@[simp] theorem State.put_mem (s : State) (f : Fld) (v : Nat) : (s.put f v).mem = s.mem := rfl
@[simp] theorem State.put_sealTag (s : State) (f : Fld) (v : Nat) : (s.put f v).sealTag = s.sealTag := rfl
@[simp] theorem State.put_fuses (s : State) (f : Fld) (v : Nat) : (s.put f v).fuses = s.fuses := rfl
@[simp] theorem State.put_doms (s : State) (f : Fld) (v : Nat) : (s.put f v).doms = s.doms := rfl
@[simp] theorem State.put_gates (s : State) (f : Fld) (v : Nat) : (s.put f v).gates = s.gates := rfl
@[simp] theorem State.put_flight (s : State) (f : Fld) (v : Nat) : (s.put f v).flight = s.flight := rfl
@[simp] theorem State.put_conc (s : State) (f : Fld) (v : Nat) : (s.put f v).conc = s.conc := rfl
@[simp] theorem State.put_mon (s : State) (f : Fld) (v : Nat) : (s.put f v).mon = s.mon := rfl
@[simp] theorem State.put_host (s : State) (f : Fld) (v : Nat) : (s.put f v).host = s.host := rfl
@[simp] theorem State.put_ctxs (s : State) (f : Fld) (v : Nat) : (s.put f v).ctxs = s.ctxs := rfl
@[simp] theorem State.put_groups (s : State) (f : Fld) (v : Nat) : (s.put f v).groups = s.groups := rfl
@[simp] theorem State.put_queues (s : State) (f : Fld) (v : Nat) : (s.put f v).queues = s.queues := rfl
@[simp] theorem State.put_waiters (s : State) (f : Fld) (v : Nat) : (s.put f v).waiters = s.waiters := rfl
@[simp] theorem State.put_disp (s : State) (f : Fld) (v : Nat) : (s.put f v).disp = s.disp := rfl
@[simp] theorem State.put_tiles (s : State) (f : Fld) (v : Nat) : (s.put f v).tiles = s.tiles := rfl
@[simp] theorem State.put_xlt (s : State) (f : Fld) (v : Nat) : (s.put f v).xlt = s.xlt := rfl
@[simp] theorem State.put_basin (s : State) (f : Fld) (v : Nat) : (s.put f v).basin = s.basin := rfl
@[simp] theorem State.put_island (s : State) (f : Fld) (v : Nat) : (s.put f v).island = s.island := rfl
@[simp] theorem State.put_mail (s : State) (f : Fld) (v : Nat) : (s.put f v).mail = s.mail := rfl
@[simp] theorem State.put_mesh (s : State) (f : Fld) (v : Nat) : (s.put f v).mesh = s.mesh := rfl
@[simp] theorem State.put_link (s : State) (f : Fld) (v : Nat) : (s.put f v).link = s.link := rfl
@[simp] theorem State.put_power (s : State) (f : Fld) (v : Nat) : (s.put f v).power = s.power := rfl
@[simp] theorem State.put_keeper (s : State) (f : Fld) (v : Nat) : (s.put f v).keeper = s.keeper := rfl
@[simp] theorem State.put_stop (s : State) (f : Fld) (v : Nat) : (s.put f v).stop = s.stop := rfl
@[simp] theorem State.put_pins (s : State) (f : Fld) (v : Nat) : (s.put f v).pins = s.pins := rfl
@[simp] theorem State.put_onRc (s : State) (f : Fld) (v : Nat) : (s.put f v).onRc = s.onRc := rfl
@[simp] theorem State.put_sealKeys (s : State) (f : Fld) (v : Nat) : (s.put f v).sealKeys = s.sealKeys := rfl
@[simp] theorem State.put_modelKeys (s : State) (f : Fld) (v : Nat) : (s.put f v).modelKeys = s.modelKeys := rfl
@[simp] theorem State.put_linkOut (s : State) (f : Fld) (v : Nat) : (s.put f v).linkOut = s.linkOut := rfl
@[simp] theorem State.put_copies (s : State) (f : Fld) (v : Nat) : (s.put f v).copies = s.copies := rfl
@[simp] theorem State.put_freeCtr (s : State) (f : Fld) (v : Nat) : (s.put f v).freeCtr = s.freeCtr := rfl
@[simp] theorem State.put_pending (s : State) (f : Fld) (v : Nat) : (s.put f v).pending = s.pending := rfl
@[simp] theorem State.put_dom (s : State) (f : Fld) (v : Nat) (e : Nat) : (s.put f v).dom e = s.dom e := rfl
@[simp] theorem State.put_domLive (s : State) (f : Fld) (v : Nat) (e : Nat) : (s.put f v).domLive e = s.domLive e := rfl
@[simp] theorem State.put_ctx (s : State) (f : Fld) (v : Nat) (e : Nat) : (s.put f v).ctx e = s.ctx e := rfl
@[simp] theorem State.put_queue (s : State) (f : Fld) (v : Nat) (e : Nat) : (s.put f v).queue e = s.queue e := rfl
@[simp] theorem State.put_tile (s : State) (f : Fld) (v : Nat) (e : Nat) : (s.put f v).tile e = s.tile e := rfl
@[simp] theorem State.put_dtile (s : State) (f : Fld) (v : Nat) (e : Nat) : (s.put f v).dtile e = s.dtile e := rfl
@[simp] theorem State.put_rail (s : State) (f : Fld) (v : Nat) (e : Nat) : (s.put f v).rail e = s.rail e := rfl
@[simp] theorem State.put_clus (s : State) (f : Fld) (v : Nat) (e : Nat) : (s.put f v).clus e = s.clus e := rfl
@[simp] theorem State.put_port (s : State) (f : Fld) (v : Nat) (e : Nat) : (s.put f v).port e = s.port e := rfl

/-! ## `State.setDom` -/

@[simp] theorem State.setDom_gtc (s : State) (d : Nat) (x : Dom) : (s.setDom d x).gtc = s.gtc := rfl
@[simp] theorem State.setDom_regs (s : State) (d : Nat) (x : Dom) : (s.setDom d x).regs = s.regs := rfl
@[simp] theorem State.setDom_mem (s : State) (d : Nat) (x : Dom) : (s.setDom d x).mem = s.mem := rfl
@[simp] theorem State.setDom_sealTag (s : State) (d : Nat) (x : Dom) : (s.setDom d x).sealTag = s.sealTag := rfl
@[simp] theorem State.setDom_fuses (s : State) (d : Nat) (x : Dom) : (s.setDom d x).fuses = s.fuses := rfl
@[simp] theorem State.setDom_gates (s : State) (d : Nat) (x : Dom) : (s.setDom d x).gates = s.gates := rfl
@[simp] theorem State.setDom_flight (s : State) (d : Nat) (x : Dom) : (s.setDom d x).flight = s.flight := rfl
@[simp] theorem State.setDom_conc (s : State) (d : Nat) (x : Dom) : (s.setDom d x).conc = s.conc := rfl
@[simp] theorem State.setDom_mon (s : State) (d : Nat) (x : Dom) : (s.setDom d x).mon = s.mon := rfl
@[simp] theorem State.setDom_host (s : State) (d : Nat) (x : Dom) : (s.setDom d x).host = s.host := rfl
@[simp] theorem State.setDom_ctxs (s : State) (d : Nat) (x : Dom) : (s.setDom d x).ctxs = s.ctxs := rfl
@[simp] theorem State.setDom_groups (s : State) (d : Nat) (x : Dom) : (s.setDom d x).groups = s.groups := rfl
@[simp] theorem State.setDom_queues (s : State) (d : Nat) (x : Dom) : (s.setDom d x).queues = s.queues := rfl
@[simp] theorem State.setDom_waiters (s : State) (d : Nat) (x : Dom) : (s.setDom d x).waiters = s.waiters := rfl
@[simp] theorem State.setDom_disp (s : State) (d : Nat) (x : Dom) : (s.setDom d x).disp = s.disp := rfl
@[simp] theorem State.setDom_tiles (s : State) (d : Nat) (x : Dom) : (s.setDom d x).tiles = s.tiles := rfl
@[simp] theorem State.setDom_xlt (s : State) (d : Nat) (x : Dom) : (s.setDom d x).xlt = s.xlt := rfl
@[simp] theorem State.setDom_basin (s : State) (d : Nat) (x : Dom) : (s.setDom d x).basin = s.basin := rfl
@[simp] theorem State.setDom_island (s : State) (d : Nat) (x : Dom) : (s.setDom d x).island = s.island := rfl
@[simp] theorem State.setDom_mail (s : State) (d : Nat) (x : Dom) : (s.setDom d x).mail = s.mail := rfl
@[simp] theorem State.setDom_mesh (s : State) (d : Nat) (x : Dom) : (s.setDom d x).mesh = s.mesh := rfl
@[simp] theorem State.setDom_link (s : State) (d : Nat) (x : Dom) : (s.setDom d x).link = s.link := rfl
@[simp] theorem State.setDom_power (s : State) (d : Nat) (x : Dom) : (s.setDom d x).power = s.power := rfl
@[simp] theorem State.setDom_keeper (s : State) (d : Nat) (x : Dom) : (s.setDom d x).keeper = s.keeper := rfl
@[simp] theorem State.setDom_stop (s : State) (d : Nat) (x : Dom) : (s.setDom d x).stop = s.stop := rfl
@[simp] theorem State.setDom_pins (s : State) (d : Nat) (x : Dom) : (s.setDom d x).pins = s.pins := rfl
@[simp] theorem State.setDom_onRc (s : State) (d : Nat) (x : Dom) : (s.setDom d x).onRc = s.onRc := rfl
@[simp] theorem State.setDom_sealKeys (s : State) (d : Nat) (x : Dom) : (s.setDom d x).sealKeys = s.sealKeys := rfl
@[simp] theorem State.setDom_modelKeys (s : State) (d : Nat) (x : Dom) : (s.setDom d x).modelKeys = s.modelKeys := rfl
@[simp] theorem State.setDom_linkOut (s : State) (d : Nat) (x : Dom) : (s.setDom d x).linkOut = s.linkOut := rfl
@[simp] theorem State.setDom_copies (s : State) (d : Nat) (x : Dom) : (s.setDom d x).copies = s.copies := rfl
@[simp] theorem State.setDom_freeCtr (s : State) (d : Nat) (x : Dom) : (s.setDom d x).freeCtr = s.freeCtr := rfl
@[simp] theorem State.setDom_pending (s : State) (d : Nat) (x : Dom) : (s.setDom d x).pending = s.pending := rfl
@[simp] theorem State.setDom_get (s : State) (d : Nat) (x : Dom) (g : Fld) : (s.setDom d x).get g = s.get g := rfl
@[simp] theorem State.setDom_ctx (s : State) (d : Nat) (x : Dom) (e : Nat) : (s.setDom d x).ctx e = s.ctx e := rfl
@[simp] theorem State.setDom_queue (s : State) (d : Nat) (x : Dom) (e : Nat) : (s.setDom d x).queue e = s.queue e := rfl
@[simp] theorem State.setDom_tile (s : State) (d : Nat) (x : Dom) (e : Nat) : (s.setDom d x).tile e = s.tile e := rfl
@[simp] theorem State.setDom_dtile (s : State) (d : Nat) (x : Dom) (e : Nat) : (s.setDom d x).dtile e = s.dtile e := rfl
@[simp] theorem State.setDom_rail (s : State) (d : Nat) (x : Dom) (e : Nat) : (s.setDom d x).rail e = s.rail e := rfl
@[simp] theorem State.setDom_clus (s : State) (d : Nat) (x : Dom) (e : Nat) : (s.setDom d x).clus e = s.clus e := rfl
@[simp] theorem State.setDom_port (s : State) (d : Nat) (x : Dom) (e : Nat) : (s.setDom d x).port e = s.port e := rfl

/-! ## `State.tookFree` -/

@[simp] theorem State.tookFree_gtc (s : State) : (s.tookFree).gtc = s.gtc := rfl
@[simp] theorem State.tookFree_regs (s : State) : (s.tookFree).regs = s.regs := rfl
@[simp] theorem State.tookFree_mem (s : State) : (s.tookFree).mem = s.mem := rfl
@[simp] theorem State.tookFree_sealTag (s : State) : (s.tookFree).sealTag = s.sealTag := rfl
@[simp] theorem State.tookFree_fuses (s : State) : (s.tookFree).fuses = s.fuses := rfl
@[simp] theorem State.tookFree_doms (s : State) : (s.tookFree).doms = s.doms := rfl
@[simp] theorem State.tookFree_gates (s : State) : (s.tookFree).gates = s.gates := rfl
@[simp] theorem State.tookFree_flight (s : State) : (s.tookFree).flight = s.flight := rfl
@[simp] theorem State.tookFree_conc (s : State) : (s.tookFree).conc = s.conc := rfl
@[simp] theorem State.tookFree_mon (s : State) : (s.tookFree).mon = s.mon := rfl
@[simp] theorem State.tookFree_host (s : State) : (s.tookFree).host = s.host := rfl
@[simp] theorem State.tookFree_ctxs (s : State) : (s.tookFree).ctxs = s.ctxs := rfl
@[simp] theorem State.tookFree_groups (s : State) : (s.tookFree).groups = s.groups := rfl
@[simp] theorem State.tookFree_queues (s : State) : (s.tookFree).queues = s.queues := rfl
@[simp] theorem State.tookFree_waiters (s : State) : (s.tookFree).waiters = s.waiters := rfl
@[simp] theorem State.tookFree_disp (s : State) : (s.tookFree).disp = s.disp := rfl
@[simp] theorem State.tookFree_tiles (s : State) : (s.tookFree).tiles = s.tiles := rfl
@[simp] theorem State.tookFree_xlt (s : State) : (s.tookFree).xlt = s.xlt := rfl
@[simp] theorem State.tookFree_basin (s : State) : (s.tookFree).basin = s.basin := rfl
@[simp] theorem State.tookFree_island (s : State) : (s.tookFree).island = s.island := rfl
@[simp] theorem State.tookFree_mail (s : State) : (s.tookFree).mail = s.mail := rfl
@[simp] theorem State.tookFree_mesh (s : State) : (s.tookFree).mesh = s.mesh := rfl
@[simp] theorem State.tookFree_link (s : State) : (s.tookFree).link = s.link := rfl
@[simp] theorem State.tookFree_power (s : State) : (s.tookFree).power = s.power := rfl
@[simp] theorem State.tookFree_keeper (s : State) : (s.tookFree).keeper = s.keeper := rfl
@[simp] theorem State.tookFree_stop (s : State) : (s.tookFree).stop = s.stop := rfl
@[simp] theorem State.tookFree_pins (s : State) : (s.tookFree).pins = s.pins := rfl
@[simp] theorem State.tookFree_onRc (s : State) : (s.tookFree).onRc = s.onRc := rfl
@[simp] theorem State.tookFree_sealKeys (s : State) : (s.tookFree).sealKeys = s.sealKeys := rfl
@[simp] theorem State.tookFree_modelKeys (s : State) : (s.tookFree).modelKeys = s.modelKeys := rfl
@[simp] theorem State.tookFree_linkOut (s : State) : (s.tookFree).linkOut = s.linkOut := rfl
@[simp] theorem State.tookFree_copies (s : State) : (s.tookFree).copies = s.copies := rfl
@[simp] theorem State.tookFree_pending (s : State) : (s.tookFree).pending = s.pending := rfl
@[simp] theorem State.tookFree_get (s : State) (g : Fld) : (s.tookFree).get g = s.get g := rfl
@[simp] theorem State.tookFree_dom (s : State) (e : Nat) : (s.tookFree).dom e = s.dom e := rfl
@[simp] theorem State.tookFree_domLive (s : State) (e : Nat) : (s.tookFree).domLive e = s.domLive e := rfl
@[simp] theorem State.tookFree_ctx (s : State) (e : Nat) : (s.tookFree).ctx e = s.ctx e := rfl
@[simp] theorem State.tookFree_queue (s : State) (e : Nat) : (s.tookFree).queue e = s.queue e := rfl
@[simp] theorem State.tookFree_tile (s : State) (e : Nat) : (s.tookFree).tile e = s.tile e := rfl
@[simp] theorem State.tookFree_dtile (s : State) (e : Nat) : (s.tookFree).dtile e = s.dtile e := rfl
@[simp] theorem State.tookFree_rail (s : State) (e : Nat) : (s.tookFree).rail e = s.rail e := rfl
@[simp] theorem State.tookFree_clus (s : State) (e : Nat) : (s.tookFree).clus e = s.clus e := rfl
@[simp] theorem State.tookFree_port (s : State) (e : Nat) : (s.tookFree).port e = s.port e := rfl

/-! ## `State.send` -/

@[simp] theorem State.send_gtc (s : State) (r : Report) : (s.send r).gtc = s.gtc := rfl
@[simp] theorem State.send_regs (s : State) (r : Report) : (s.send r).regs = s.regs := rfl
@[simp] theorem State.send_mem (s : State) (r : Report) : (s.send r).mem = s.mem := rfl
@[simp] theorem State.send_sealTag (s : State) (r : Report) : (s.send r).sealTag = s.sealTag := rfl
@[simp] theorem State.send_fuses (s : State) (r : Report) : (s.send r).fuses = s.fuses := rfl
@[simp] theorem State.send_doms (s : State) (r : Report) : (s.send r).doms = s.doms := rfl
@[simp] theorem State.send_gates (s : State) (r : Report) : (s.send r).gates = s.gates := rfl
@[simp] theorem State.send_flight (s : State) (r : Report) : (s.send r).flight = s.flight := rfl
@[simp] theorem State.send_mon (s : State) (r : Report) : (s.send r).mon = s.mon := rfl
@[simp] theorem State.send_host (s : State) (r : Report) : (s.send r).host = s.host := rfl
@[simp] theorem State.send_ctxs (s : State) (r : Report) : (s.send r).ctxs = s.ctxs := rfl
@[simp] theorem State.send_groups (s : State) (r : Report) : (s.send r).groups = s.groups := rfl
@[simp] theorem State.send_queues (s : State) (r : Report) : (s.send r).queues = s.queues := rfl
@[simp] theorem State.send_waiters (s : State) (r : Report) : (s.send r).waiters = s.waiters := rfl
@[simp] theorem State.send_disp (s : State) (r : Report) : (s.send r).disp = s.disp := rfl
@[simp] theorem State.send_tiles (s : State) (r : Report) : (s.send r).tiles = s.tiles := rfl
@[simp] theorem State.send_xlt (s : State) (r : Report) : (s.send r).xlt = s.xlt := rfl
@[simp] theorem State.send_basin (s : State) (r : Report) : (s.send r).basin = s.basin := rfl
@[simp] theorem State.send_island (s : State) (r : Report) : (s.send r).island = s.island := rfl
@[simp] theorem State.send_mail (s : State) (r : Report) : (s.send r).mail = s.mail := rfl
@[simp] theorem State.send_mesh (s : State) (r : Report) : (s.send r).mesh = s.mesh := rfl
@[simp] theorem State.send_link (s : State) (r : Report) : (s.send r).link = s.link := rfl
@[simp] theorem State.send_power (s : State) (r : Report) : (s.send r).power = s.power := rfl
@[simp] theorem State.send_keeper (s : State) (r : Report) : (s.send r).keeper = s.keeper := rfl
@[simp] theorem State.send_stop (s : State) (r : Report) : (s.send r).stop = s.stop := rfl
@[simp] theorem State.send_pins (s : State) (r : Report) : (s.send r).pins = s.pins := rfl
@[simp] theorem State.send_onRc (s : State) (r : Report) : (s.send r).onRc = s.onRc := rfl
@[simp] theorem State.send_sealKeys (s : State) (r : Report) : (s.send r).sealKeys = s.sealKeys := rfl
@[simp] theorem State.send_modelKeys (s : State) (r : Report) : (s.send r).modelKeys = s.modelKeys := rfl
@[simp] theorem State.send_linkOut (s : State) (r : Report) : (s.send r).linkOut = s.linkOut := rfl
@[simp] theorem State.send_copies (s : State) (r : Report) : (s.send r).copies = s.copies := rfl
@[simp] theorem State.send_freeCtr (s : State) (r : Report) : (s.send r).freeCtr = s.freeCtr := rfl
@[simp] theorem State.send_pending (s : State) (r : Report) : (s.send r).pending = s.pending := rfl
@[simp] theorem State.send_get (s : State) (r : Report) (g : Fld) : (s.send r).get g = s.get g := rfl
@[simp] theorem State.send_dom (s : State) (r : Report) (e : Nat) : (s.send r).dom e = s.dom e := rfl
@[simp] theorem State.send_domLive (s : State) (r : Report) (e : Nat) : (s.send r).domLive e = s.domLive e := rfl
@[simp] theorem State.send_ctx (s : State) (r : Report) (e : Nat) : (s.send r).ctx e = s.ctx e := rfl
@[simp] theorem State.send_queue (s : State) (r : Report) (e : Nat) : (s.send r).queue e = s.queue e := rfl
@[simp] theorem State.send_tile (s : State) (r : Report) (e : Nat) : (s.send r).tile e = s.tile e := rfl
@[simp] theorem State.send_dtile (s : State) (r : Report) (e : Nat) : (s.send r).dtile e = s.dtile e := rfl
@[simp] theorem State.send_rail (s : State) (r : Report) (e : Nat) : (s.send r).rail e = s.rail e := rfl
@[simp] theorem State.send_clus (s : State) (r : Report) (e : Nat) : (s.send r).clus e = s.clus e := rfl
@[simp] theorem State.send_port (s : State) (r : Report) (e : Nat) : (s.send r).port e = s.port e := rfl

/-! ## `State.event` -/

@[simp] theorem State.event_gtc (s : State) (v : Nat) : (s.event v).gtc = s.gtc := rfl
@[simp] theorem State.event_regs (s : State) (v : Nat) : (s.event v).regs = s.regs := rfl
@[simp] theorem State.event_mem (s : State) (v : Nat) : (s.event v).mem = s.mem := rfl
@[simp] theorem State.event_sealTag (s : State) (v : Nat) : (s.event v).sealTag = s.sealTag := rfl
@[simp] theorem State.event_fuses (s : State) (v : Nat) : (s.event v).fuses = s.fuses := rfl
@[simp] theorem State.event_doms (s : State) (v : Nat) : (s.event v).doms = s.doms := rfl
@[simp] theorem State.event_gates (s : State) (v : Nat) : (s.event v).gates = s.gates := rfl
@[simp] theorem State.event_flight (s : State) (v : Nat) : (s.event v).flight = s.flight := rfl
@[simp] theorem State.event_conc (s : State) (v : Nat) : (s.event v).conc = s.conc := rfl
@[simp] theorem State.event_mon (s : State) (v : Nat) : (s.event v).mon = s.mon := rfl
@[simp] theorem State.event_ctxs (s : State) (v : Nat) : (s.event v).ctxs = s.ctxs := rfl
@[simp] theorem State.event_groups (s : State) (v : Nat) : (s.event v).groups = s.groups := rfl
@[simp] theorem State.event_queues (s : State) (v : Nat) : (s.event v).queues = s.queues := rfl
@[simp] theorem State.event_waiters (s : State) (v : Nat) : (s.event v).waiters = s.waiters := rfl
@[simp] theorem State.event_disp (s : State) (v : Nat) : (s.event v).disp = s.disp := rfl
@[simp] theorem State.event_tiles (s : State) (v : Nat) : (s.event v).tiles = s.tiles := rfl
@[simp] theorem State.event_xlt (s : State) (v : Nat) : (s.event v).xlt = s.xlt := rfl
@[simp] theorem State.event_basin (s : State) (v : Nat) : (s.event v).basin = s.basin := rfl
@[simp] theorem State.event_island (s : State) (v : Nat) : (s.event v).island = s.island := rfl
@[simp] theorem State.event_mail (s : State) (v : Nat) : (s.event v).mail = s.mail := rfl
@[simp] theorem State.event_mesh (s : State) (v : Nat) : (s.event v).mesh = s.mesh := rfl
@[simp] theorem State.event_link (s : State) (v : Nat) : (s.event v).link = s.link := rfl
@[simp] theorem State.event_power (s : State) (v : Nat) : (s.event v).power = s.power := rfl
@[simp] theorem State.event_keeper (s : State) (v : Nat) : (s.event v).keeper = s.keeper := rfl
@[simp] theorem State.event_stop (s : State) (v : Nat) : (s.event v).stop = s.stop := rfl
@[simp] theorem State.event_pins (s : State) (v : Nat) : (s.event v).pins = s.pins := rfl
@[simp] theorem State.event_onRc (s : State) (v : Nat) : (s.event v).onRc = s.onRc := rfl
@[simp] theorem State.event_sealKeys (s : State) (v : Nat) : (s.event v).sealKeys = s.sealKeys := rfl
@[simp] theorem State.event_modelKeys (s : State) (v : Nat) : (s.event v).modelKeys = s.modelKeys := rfl
@[simp] theorem State.event_linkOut (s : State) (v : Nat) : (s.event v).linkOut = s.linkOut := rfl
@[simp] theorem State.event_copies (s : State) (v : Nat) : (s.event v).copies = s.copies := rfl
@[simp] theorem State.event_freeCtr (s : State) (v : Nat) : (s.event v).freeCtr = s.freeCtr := rfl
@[simp] theorem State.event_pending (s : State) (v : Nat) : (s.event v).pending = s.pending := rfl
@[simp] theorem State.event_get (s : State) (v : Nat) (g : Fld) : (s.event v).get g = s.get g := rfl
@[simp] theorem State.event_dom (s : State) (v : Nat) (e : Nat) : (s.event v).dom e = s.dom e := rfl
@[simp] theorem State.event_domLive (s : State) (v : Nat) (e : Nat) : (s.event v).domLive e = s.domLive e := rfl
@[simp] theorem State.event_ctx (s : State) (v : Nat) (e : Nat) : (s.event v).ctx e = s.ctx e := rfl
@[simp] theorem State.event_queue (s : State) (v : Nat) (e : Nat) : (s.event v).queue e = s.queue e := rfl
@[simp] theorem State.event_tile (s : State) (v : Nat) (e : Nat) : (s.event v).tile e = s.tile e := rfl
@[simp] theorem State.event_dtile (s : State) (v : Nat) (e : Nat) : (s.event v).dtile e = s.dtile e := rfl
@[simp] theorem State.event_rail (s : State) (v : Nat) (e : Nat) : (s.event v).rail e = s.rail e := rfl
@[simp] theorem State.event_clus (s : State) (v : Nat) (e : Nat) : (s.event v).clus e = s.clus e := rfl
@[simp] theorem State.event_port (s : State) (v : Nat) (e : Nat) : (s.event v).port e = s.port e := rfl

/-! ## `State.setCtx` -/

@[simp] theorem State.setCtx_gtc (s : State) (c : Nat) (x : Ctx) : (s.setCtx c x).gtc = s.gtc := rfl
@[simp] theorem State.setCtx_regs (s : State) (c : Nat) (x : Ctx) : (s.setCtx c x).regs = s.regs := rfl
@[simp] theorem State.setCtx_mem (s : State) (c : Nat) (x : Ctx) : (s.setCtx c x).mem = s.mem := rfl
@[simp] theorem State.setCtx_sealTag (s : State) (c : Nat) (x : Ctx) : (s.setCtx c x).sealTag = s.sealTag := rfl
@[simp] theorem State.setCtx_fuses (s : State) (c : Nat) (x : Ctx) : (s.setCtx c x).fuses = s.fuses := rfl
@[simp] theorem State.setCtx_doms (s : State) (c : Nat) (x : Ctx) : (s.setCtx c x).doms = s.doms := rfl
@[simp] theorem State.setCtx_gates (s : State) (c : Nat) (x : Ctx) : (s.setCtx c x).gates = s.gates := rfl
@[simp] theorem State.setCtx_flight (s : State) (c : Nat) (x : Ctx) : (s.setCtx c x).flight = s.flight := rfl
@[simp] theorem State.setCtx_conc (s : State) (c : Nat) (x : Ctx) : (s.setCtx c x).conc = s.conc := rfl
@[simp] theorem State.setCtx_mon (s : State) (c : Nat) (x : Ctx) : (s.setCtx c x).mon = s.mon := rfl
@[simp] theorem State.setCtx_host (s : State) (c : Nat) (x : Ctx) : (s.setCtx c x).host = s.host := rfl
@[simp] theorem State.setCtx_groups (s : State) (c : Nat) (x : Ctx) : (s.setCtx c x).groups = s.groups := rfl
@[simp] theorem State.setCtx_queues (s : State) (c : Nat) (x : Ctx) : (s.setCtx c x).queues = s.queues := rfl
@[simp] theorem State.setCtx_waiters (s : State) (c : Nat) (x : Ctx) : (s.setCtx c x).waiters = s.waiters := rfl
@[simp] theorem State.setCtx_disp (s : State) (c : Nat) (x : Ctx) : (s.setCtx c x).disp = s.disp := rfl
@[simp] theorem State.setCtx_tiles (s : State) (c : Nat) (x : Ctx) : (s.setCtx c x).tiles = s.tiles := rfl
@[simp] theorem State.setCtx_xlt (s : State) (c : Nat) (x : Ctx) : (s.setCtx c x).xlt = s.xlt := rfl
@[simp] theorem State.setCtx_basin (s : State) (c : Nat) (x : Ctx) : (s.setCtx c x).basin = s.basin := rfl
@[simp] theorem State.setCtx_island (s : State) (c : Nat) (x : Ctx) : (s.setCtx c x).island = s.island := rfl
@[simp] theorem State.setCtx_mail (s : State) (c : Nat) (x : Ctx) : (s.setCtx c x).mail = s.mail := rfl
@[simp] theorem State.setCtx_mesh (s : State) (c : Nat) (x : Ctx) : (s.setCtx c x).mesh = s.mesh := rfl
@[simp] theorem State.setCtx_link (s : State) (c : Nat) (x : Ctx) : (s.setCtx c x).link = s.link := rfl
@[simp] theorem State.setCtx_power (s : State) (c : Nat) (x : Ctx) : (s.setCtx c x).power = s.power := rfl
@[simp] theorem State.setCtx_keeper (s : State) (c : Nat) (x : Ctx) : (s.setCtx c x).keeper = s.keeper := rfl
@[simp] theorem State.setCtx_stop (s : State) (c : Nat) (x : Ctx) : (s.setCtx c x).stop = s.stop := rfl
@[simp] theorem State.setCtx_pins (s : State) (c : Nat) (x : Ctx) : (s.setCtx c x).pins = s.pins := rfl
@[simp] theorem State.setCtx_onRc (s : State) (c : Nat) (x : Ctx) : (s.setCtx c x).onRc = s.onRc := rfl
@[simp] theorem State.setCtx_sealKeys (s : State) (c : Nat) (x : Ctx) : (s.setCtx c x).sealKeys = s.sealKeys := rfl
@[simp] theorem State.setCtx_modelKeys (s : State) (c : Nat) (x : Ctx) : (s.setCtx c x).modelKeys = s.modelKeys := rfl
@[simp] theorem State.setCtx_linkOut (s : State) (c : Nat) (x : Ctx) : (s.setCtx c x).linkOut = s.linkOut := rfl
@[simp] theorem State.setCtx_copies (s : State) (c : Nat) (x : Ctx) : (s.setCtx c x).copies = s.copies := rfl
@[simp] theorem State.setCtx_freeCtr (s : State) (c : Nat) (x : Ctx) : (s.setCtx c x).freeCtr = s.freeCtr := rfl
@[simp] theorem State.setCtx_pending (s : State) (c : Nat) (x : Ctx) : (s.setCtx c x).pending = s.pending := rfl
@[simp] theorem State.setCtx_get (s : State) (c : Nat) (x : Ctx) (g : Fld) : (s.setCtx c x).get g = s.get g := rfl
@[simp] theorem State.setCtx_dom (s : State) (c : Nat) (x : Ctx) (e : Nat) : (s.setCtx c x).dom e = s.dom e := rfl
@[simp] theorem State.setCtx_domLive (s : State) (c : Nat) (x : Ctx) (e : Nat) : (s.setCtx c x).domLive e = s.domLive e := rfl
@[simp] theorem State.setCtx_queue (s : State) (c : Nat) (x : Ctx) (e : Nat) : (s.setCtx c x).queue e = s.queue e := rfl
@[simp] theorem State.setCtx_tile (s : State) (c : Nat) (x : Ctx) (e : Nat) : (s.setCtx c x).tile e = s.tile e := rfl
@[simp] theorem State.setCtx_dtile (s : State) (c : Nat) (x : Ctx) (e : Nat) : (s.setCtx c x).dtile e = s.dtile e := rfl
@[simp] theorem State.setCtx_rail (s : State) (c : Nat) (x : Ctx) (e : Nat) : (s.setCtx c x).rail e = s.rail e := rfl
@[simp] theorem State.setCtx_clus (s : State) (c : Nat) (x : Ctx) (e : Nat) : (s.setCtx c x).clus e = s.clus e := rfl
@[simp] theorem State.setCtx_port (s : State) (c : Nat) (x : Ctx) (e : Nat) : (s.setCtx c x).port e = s.port e := rfl

/-! ## `State.setQueue` -/

@[simp] theorem State.setQueue_gtc (s : State) (q : Nat) (x : Queue) : (s.setQueue q x).gtc = s.gtc := rfl
@[simp] theorem State.setQueue_regs (s : State) (q : Nat) (x : Queue) : (s.setQueue q x).regs = s.regs := rfl
@[simp] theorem State.setQueue_mem (s : State) (q : Nat) (x : Queue) : (s.setQueue q x).mem = s.mem := rfl
@[simp] theorem State.setQueue_sealTag (s : State) (q : Nat) (x : Queue) : (s.setQueue q x).sealTag = s.sealTag := rfl
@[simp] theorem State.setQueue_fuses (s : State) (q : Nat) (x : Queue) : (s.setQueue q x).fuses = s.fuses := rfl
@[simp] theorem State.setQueue_doms (s : State) (q : Nat) (x : Queue) : (s.setQueue q x).doms = s.doms := rfl
@[simp] theorem State.setQueue_gates (s : State) (q : Nat) (x : Queue) : (s.setQueue q x).gates = s.gates := rfl
@[simp] theorem State.setQueue_flight (s : State) (q : Nat) (x : Queue) : (s.setQueue q x).flight = s.flight := rfl
@[simp] theorem State.setQueue_conc (s : State) (q : Nat) (x : Queue) : (s.setQueue q x).conc = s.conc := rfl
@[simp] theorem State.setQueue_mon (s : State) (q : Nat) (x : Queue) : (s.setQueue q x).mon = s.mon := rfl
@[simp] theorem State.setQueue_host (s : State) (q : Nat) (x : Queue) : (s.setQueue q x).host = s.host := rfl
@[simp] theorem State.setQueue_ctxs (s : State) (q : Nat) (x : Queue) : (s.setQueue q x).ctxs = s.ctxs := rfl
@[simp] theorem State.setQueue_groups (s : State) (q : Nat) (x : Queue) : (s.setQueue q x).groups = s.groups := rfl
@[simp] theorem State.setQueue_waiters (s : State) (q : Nat) (x : Queue) : (s.setQueue q x).waiters = s.waiters := rfl
@[simp] theorem State.setQueue_disp (s : State) (q : Nat) (x : Queue) : (s.setQueue q x).disp = s.disp := rfl
@[simp] theorem State.setQueue_tiles (s : State) (q : Nat) (x : Queue) : (s.setQueue q x).tiles = s.tiles := rfl
@[simp] theorem State.setQueue_xlt (s : State) (q : Nat) (x : Queue) : (s.setQueue q x).xlt = s.xlt := rfl
@[simp] theorem State.setQueue_basin (s : State) (q : Nat) (x : Queue) : (s.setQueue q x).basin = s.basin := rfl
@[simp] theorem State.setQueue_island (s : State) (q : Nat) (x : Queue) : (s.setQueue q x).island = s.island := rfl
@[simp] theorem State.setQueue_mail (s : State) (q : Nat) (x : Queue) : (s.setQueue q x).mail = s.mail := rfl
@[simp] theorem State.setQueue_mesh (s : State) (q : Nat) (x : Queue) : (s.setQueue q x).mesh = s.mesh := rfl
@[simp] theorem State.setQueue_link (s : State) (q : Nat) (x : Queue) : (s.setQueue q x).link = s.link := rfl
@[simp] theorem State.setQueue_power (s : State) (q : Nat) (x : Queue) : (s.setQueue q x).power = s.power := rfl
@[simp] theorem State.setQueue_keeper (s : State) (q : Nat) (x : Queue) : (s.setQueue q x).keeper = s.keeper := rfl
@[simp] theorem State.setQueue_stop (s : State) (q : Nat) (x : Queue) : (s.setQueue q x).stop = s.stop := rfl
@[simp] theorem State.setQueue_pins (s : State) (q : Nat) (x : Queue) : (s.setQueue q x).pins = s.pins := rfl
@[simp] theorem State.setQueue_onRc (s : State) (q : Nat) (x : Queue) : (s.setQueue q x).onRc = s.onRc := rfl
@[simp] theorem State.setQueue_sealKeys (s : State) (q : Nat) (x : Queue) : (s.setQueue q x).sealKeys = s.sealKeys := rfl
@[simp] theorem State.setQueue_modelKeys (s : State) (q : Nat) (x : Queue) : (s.setQueue q x).modelKeys = s.modelKeys := rfl
@[simp] theorem State.setQueue_linkOut (s : State) (q : Nat) (x : Queue) : (s.setQueue q x).linkOut = s.linkOut := rfl
@[simp] theorem State.setQueue_copies (s : State) (q : Nat) (x : Queue) : (s.setQueue q x).copies = s.copies := rfl
@[simp] theorem State.setQueue_freeCtr (s : State) (q : Nat) (x : Queue) : (s.setQueue q x).freeCtr = s.freeCtr := rfl
@[simp] theorem State.setQueue_pending (s : State) (q : Nat) (x : Queue) : (s.setQueue q x).pending = s.pending := rfl
@[simp] theorem State.setQueue_get (s : State) (q : Nat) (x : Queue) (g : Fld) : (s.setQueue q x).get g = s.get g := rfl
@[simp] theorem State.setQueue_dom (s : State) (q : Nat) (x : Queue) (e : Nat) : (s.setQueue q x).dom e = s.dom e := rfl
@[simp] theorem State.setQueue_domLive (s : State) (q : Nat) (x : Queue) (e : Nat) : (s.setQueue q x).domLive e = s.domLive e := rfl
@[simp] theorem State.setQueue_ctx (s : State) (q : Nat) (x : Queue) (e : Nat) : (s.setQueue q x).ctx e = s.ctx e := rfl
@[simp] theorem State.setQueue_tile (s : State) (q : Nat) (x : Queue) (e : Nat) : (s.setQueue q x).tile e = s.tile e := rfl
@[simp] theorem State.setQueue_dtile (s : State) (q : Nat) (x : Queue) (e : Nat) : (s.setQueue q x).dtile e = s.dtile e := rfl
@[simp] theorem State.setQueue_rail (s : State) (q : Nat) (x : Queue) (e : Nat) : (s.setQueue q x).rail e = s.rail e := rfl
@[simp] theorem State.setQueue_clus (s : State) (q : Nat) (x : Queue) (e : Nat) : (s.setQueue q x).clus e = s.clus e := rfl
@[simp] theorem State.setQueue_port (s : State) (q : Nat) (x : Queue) (e : Nat) : (s.setQueue q x).port e = s.port e := rfl

/-! ## `State.updQueue` -/

@[simp] theorem State.updQueue_gtc (s : State) (q : Nat) (f : Queue → Queue) : (s.updQueue q f).gtc = s.gtc := rfl
@[simp] theorem State.updQueue_regs (s : State) (q : Nat) (f : Queue → Queue) : (s.updQueue q f).regs = s.regs := rfl
@[simp] theorem State.updQueue_mem (s : State) (q : Nat) (f : Queue → Queue) : (s.updQueue q f).mem = s.mem := rfl
@[simp] theorem State.updQueue_sealTag (s : State) (q : Nat) (f : Queue → Queue) : (s.updQueue q f).sealTag = s.sealTag := rfl
@[simp] theorem State.updQueue_fuses (s : State) (q : Nat) (f : Queue → Queue) : (s.updQueue q f).fuses = s.fuses := rfl
@[simp] theorem State.updQueue_doms (s : State) (q : Nat) (f : Queue → Queue) : (s.updQueue q f).doms = s.doms := rfl
@[simp] theorem State.updQueue_gates (s : State) (q : Nat) (f : Queue → Queue) : (s.updQueue q f).gates = s.gates := rfl
@[simp] theorem State.updQueue_flight (s : State) (q : Nat) (f : Queue → Queue) : (s.updQueue q f).flight = s.flight := rfl
@[simp] theorem State.updQueue_conc (s : State) (q : Nat) (f : Queue → Queue) : (s.updQueue q f).conc = s.conc := rfl
@[simp] theorem State.updQueue_mon (s : State) (q : Nat) (f : Queue → Queue) : (s.updQueue q f).mon = s.mon := rfl
@[simp] theorem State.updQueue_host (s : State) (q : Nat) (f : Queue → Queue) : (s.updQueue q f).host = s.host := rfl
@[simp] theorem State.updQueue_ctxs (s : State) (q : Nat) (f : Queue → Queue) : (s.updQueue q f).ctxs = s.ctxs := rfl
@[simp] theorem State.updQueue_groups (s : State) (q : Nat) (f : Queue → Queue) : (s.updQueue q f).groups = s.groups := rfl
@[simp] theorem State.updQueue_waiters (s : State) (q : Nat) (f : Queue → Queue) : (s.updQueue q f).waiters = s.waiters := rfl
@[simp] theorem State.updQueue_disp (s : State) (q : Nat) (f : Queue → Queue) : (s.updQueue q f).disp = s.disp := rfl
@[simp] theorem State.updQueue_tiles (s : State) (q : Nat) (f : Queue → Queue) : (s.updQueue q f).tiles = s.tiles := rfl
@[simp] theorem State.updQueue_xlt (s : State) (q : Nat) (f : Queue → Queue) : (s.updQueue q f).xlt = s.xlt := rfl
@[simp] theorem State.updQueue_basin (s : State) (q : Nat) (f : Queue → Queue) : (s.updQueue q f).basin = s.basin := rfl
@[simp] theorem State.updQueue_island (s : State) (q : Nat) (f : Queue → Queue) : (s.updQueue q f).island = s.island := rfl
@[simp] theorem State.updQueue_mail (s : State) (q : Nat) (f : Queue → Queue) : (s.updQueue q f).mail = s.mail := rfl
@[simp] theorem State.updQueue_mesh (s : State) (q : Nat) (f : Queue → Queue) : (s.updQueue q f).mesh = s.mesh := rfl
@[simp] theorem State.updQueue_link (s : State) (q : Nat) (f : Queue → Queue) : (s.updQueue q f).link = s.link := rfl
@[simp] theorem State.updQueue_power (s : State) (q : Nat) (f : Queue → Queue) : (s.updQueue q f).power = s.power := rfl
@[simp] theorem State.updQueue_keeper (s : State) (q : Nat) (f : Queue → Queue) : (s.updQueue q f).keeper = s.keeper := rfl
@[simp] theorem State.updQueue_stop (s : State) (q : Nat) (f : Queue → Queue) : (s.updQueue q f).stop = s.stop := rfl
@[simp] theorem State.updQueue_pins (s : State) (q : Nat) (f : Queue → Queue) : (s.updQueue q f).pins = s.pins := rfl
@[simp] theorem State.updQueue_onRc (s : State) (q : Nat) (f : Queue → Queue) : (s.updQueue q f).onRc = s.onRc := rfl
@[simp] theorem State.updQueue_sealKeys (s : State) (q : Nat) (f : Queue → Queue) : (s.updQueue q f).sealKeys = s.sealKeys := rfl
@[simp] theorem State.updQueue_modelKeys (s : State) (q : Nat) (f : Queue → Queue) : (s.updQueue q f).modelKeys = s.modelKeys := rfl
@[simp] theorem State.updQueue_linkOut (s : State) (q : Nat) (f : Queue → Queue) : (s.updQueue q f).linkOut = s.linkOut := rfl
@[simp] theorem State.updQueue_copies (s : State) (q : Nat) (f : Queue → Queue) : (s.updQueue q f).copies = s.copies := rfl
@[simp] theorem State.updQueue_freeCtr (s : State) (q : Nat) (f : Queue → Queue) : (s.updQueue q f).freeCtr = s.freeCtr := rfl
@[simp] theorem State.updQueue_pending (s : State) (q : Nat) (f : Queue → Queue) : (s.updQueue q f).pending = s.pending := rfl
@[simp] theorem State.updQueue_get (s : State) (q : Nat) (f : Queue → Queue) (g : Fld) : (s.updQueue q f).get g = s.get g := rfl
@[simp] theorem State.updQueue_dom (s : State) (q : Nat) (f : Queue → Queue) (e : Nat) : (s.updQueue q f).dom e = s.dom e := rfl
@[simp] theorem State.updQueue_domLive (s : State) (q : Nat) (f : Queue → Queue) (e : Nat) : (s.updQueue q f).domLive e = s.domLive e := rfl
@[simp] theorem State.updQueue_ctx (s : State) (q : Nat) (f : Queue → Queue) (e : Nat) : (s.updQueue q f).ctx e = s.ctx e := rfl
@[simp] theorem State.updQueue_tile (s : State) (q : Nat) (f : Queue → Queue) (e : Nat) : (s.updQueue q f).tile e = s.tile e := rfl
@[simp] theorem State.updQueue_dtile (s : State) (q : Nat) (f : Queue → Queue) (e : Nat) : (s.updQueue q f).dtile e = s.dtile e := rfl
@[simp] theorem State.updQueue_rail (s : State) (q : Nat) (f : Queue → Queue) (e : Nat) : (s.updQueue q f).rail e = s.rail e := rfl
@[simp] theorem State.updQueue_clus (s : State) (q : Nat) (f : Queue → Queue) (e : Nat) : (s.updQueue q f).clus e = s.clus e := rfl
@[simp] theorem State.updQueue_port (s : State) (q : Nat) (f : Queue → Queue) (e : Nat) : (s.updQueue q f).port e = s.port e := rfl

/-! ## `State.setWaiter` -/

@[simp] theorem State.setWaiter_gtc (s : State) (i : Nat) (w : Option Waiter) : (s.setWaiter i w).gtc = s.gtc := rfl
@[simp] theorem State.setWaiter_regs (s : State) (i : Nat) (w : Option Waiter) : (s.setWaiter i w).regs = s.regs := rfl
@[simp] theorem State.setWaiter_mem (s : State) (i : Nat) (w : Option Waiter) : (s.setWaiter i w).mem = s.mem := rfl
@[simp] theorem State.setWaiter_sealTag (s : State) (i : Nat) (w : Option Waiter) : (s.setWaiter i w).sealTag = s.sealTag := rfl
@[simp] theorem State.setWaiter_fuses (s : State) (i : Nat) (w : Option Waiter) : (s.setWaiter i w).fuses = s.fuses := rfl
@[simp] theorem State.setWaiter_doms (s : State) (i : Nat) (w : Option Waiter) : (s.setWaiter i w).doms = s.doms := rfl
@[simp] theorem State.setWaiter_gates (s : State) (i : Nat) (w : Option Waiter) : (s.setWaiter i w).gates = s.gates := rfl
@[simp] theorem State.setWaiter_flight (s : State) (i : Nat) (w : Option Waiter) : (s.setWaiter i w).flight = s.flight := rfl
@[simp] theorem State.setWaiter_conc (s : State) (i : Nat) (w : Option Waiter) : (s.setWaiter i w).conc = s.conc := rfl
@[simp] theorem State.setWaiter_mon (s : State) (i : Nat) (w : Option Waiter) : (s.setWaiter i w).mon = s.mon := rfl
@[simp] theorem State.setWaiter_host (s : State) (i : Nat) (w : Option Waiter) : (s.setWaiter i w).host = s.host := rfl
@[simp] theorem State.setWaiter_ctxs (s : State) (i : Nat) (w : Option Waiter) : (s.setWaiter i w).ctxs = s.ctxs := rfl
@[simp] theorem State.setWaiter_groups (s : State) (i : Nat) (w : Option Waiter) : (s.setWaiter i w).groups = s.groups := rfl
@[simp] theorem State.setWaiter_queues (s : State) (i : Nat) (w : Option Waiter) : (s.setWaiter i w).queues = s.queues := rfl
@[simp] theorem State.setWaiter_disp (s : State) (i : Nat) (w : Option Waiter) : (s.setWaiter i w).disp = s.disp := rfl
@[simp] theorem State.setWaiter_tiles (s : State) (i : Nat) (w : Option Waiter) : (s.setWaiter i w).tiles = s.tiles := rfl
@[simp] theorem State.setWaiter_xlt (s : State) (i : Nat) (w : Option Waiter) : (s.setWaiter i w).xlt = s.xlt := rfl
@[simp] theorem State.setWaiter_basin (s : State) (i : Nat) (w : Option Waiter) : (s.setWaiter i w).basin = s.basin := rfl
@[simp] theorem State.setWaiter_island (s : State) (i : Nat) (w : Option Waiter) : (s.setWaiter i w).island = s.island := rfl
@[simp] theorem State.setWaiter_mail (s : State) (i : Nat) (w : Option Waiter) : (s.setWaiter i w).mail = s.mail := rfl
@[simp] theorem State.setWaiter_mesh (s : State) (i : Nat) (w : Option Waiter) : (s.setWaiter i w).mesh = s.mesh := rfl
@[simp] theorem State.setWaiter_link (s : State) (i : Nat) (w : Option Waiter) : (s.setWaiter i w).link = s.link := rfl
@[simp] theorem State.setWaiter_power (s : State) (i : Nat) (w : Option Waiter) : (s.setWaiter i w).power = s.power := rfl
@[simp] theorem State.setWaiter_keeper (s : State) (i : Nat) (w : Option Waiter) : (s.setWaiter i w).keeper = s.keeper := rfl
@[simp] theorem State.setWaiter_stop (s : State) (i : Nat) (w : Option Waiter) : (s.setWaiter i w).stop = s.stop := rfl
@[simp] theorem State.setWaiter_pins (s : State) (i : Nat) (w : Option Waiter) : (s.setWaiter i w).pins = s.pins := rfl
@[simp] theorem State.setWaiter_onRc (s : State) (i : Nat) (w : Option Waiter) : (s.setWaiter i w).onRc = s.onRc := rfl
@[simp] theorem State.setWaiter_sealKeys (s : State) (i : Nat) (w : Option Waiter) : (s.setWaiter i w).sealKeys = s.sealKeys := rfl
@[simp] theorem State.setWaiter_modelKeys (s : State) (i : Nat) (w : Option Waiter) : (s.setWaiter i w).modelKeys = s.modelKeys := rfl
@[simp] theorem State.setWaiter_linkOut (s : State) (i : Nat) (w : Option Waiter) : (s.setWaiter i w).linkOut = s.linkOut := rfl
@[simp] theorem State.setWaiter_copies (s : State) (i : Nat) (w : Option Waiter) : (s.setWaiter i w).copies = s.copies := rfl
@[simp] theorem State.setWaiter_freeCtr (s : State) (i : Nat) (w : Option Waiter) : (s.setWaiter i w).freeCtr = s.freeCtr := rfl
@[simp] theorem State.setWaiter_pending (s : State) (i : Nat) (w : Option Waiter) : (s.setWaiter i w).pending = s.pending := rfl
@[simp] theorem State.setWaiter_get (s : State) (i : Nat) (w : Option Waiter) (g : Fld) : (s.setWaiter i w).get g = s.get g := rfl
@[simp] theorem State.setWaiter_dom (s : State) (i : Nat) (w : Option Waiter) (e : Nat) : (s.setWaiter i w).dom e = s.dom e := rfl
@[simp] theorem State.setWaiter_domLive (s : State) (i : Nat) (w : Option Waiter) (e : Nat) : (s.setWaiter i w).domLive e = s.domLive e := rfl
@[simp] theorem State.setWaiter_ctx (s : State) (i : Nat) (w : Option Waiter) (e : Nat) : (s.setWaiter i w).ctx e = s.ctx e := rfl
@[simp] theorem State.setWaiter_queue (s : State) (i : Nat) (w : Option Waiter) (e : Nat) : (s.setWaiter i w).queue e = s.queue e := rfl
@[simp] theorem State.setWaiter_tile (s : State) (i : Nat) (w : Option Waiter) (e : Nat) : (s.setWaiter i w).tile e = s.tile e := rfl
@[simp] theorem State.setWaiter_dtile (s : State) (i : Nat) (w : Option Waiter) (e : Nat) : (s.setWaiter i w).dtile e = s.dtile e := rfl
@[simp] theorem State.setWaiter_rail (s : State) (i : Nat) (w : Option Waiter) (e : Nat) : (s.setWaiter i w).rail e = s.rail e := rfl
@[simp] theorem State.setWaiter_clus (s : State) (i : Nat) (w : Option Waiter) (e : Nat) : (s.setWaiter i w).clus e = s.clus e := rfl
@[simp] theorem State.setWaiter_port (s : State) (i : Nat) (w : Option Waiter) (e : Nat) : (s.setWaiter i w).port e = s.port e := rfl

/-! ## `State.setTile` -/

@[simp] theorem State.setTile_gtc (s : State) (n : Nat) (x : Tile) : (s.setTile n x).gtc = s.gtc := rfl
@[simp] theorem State.setTile_regs (s : State) (n : Nat) (x : Tile) : (s.setTile n x).regs = s.regs := rfl
@[simp] theorem State.setTile_mem (s : State) (n : Nat) (x : Tile) : (s.setTile n x).mem = s.mem := rfl
@[simp] theorem State.setTile_sealTag (s : State) (n : Nat) (x : Tile) : (s.setTile n x).sealTag = s.sealTag := rfl
@[simp] theorem State.setTile_fuses (s : State) (n : Nat) (x : Tile) : (s.setTile n x).fuses = s.fuses := rfl
@[simp] theorem State.setTile_doms (s : State) (n : Nat) (x : Tile) : (s.setTile n x).doms = s.doms := rfl
@[simp] theorem State.setTile_gates (s : State) (n : Nat) (x : Tile) : (s.setTile n x).gates = s.gates := rfl
@[simp] theorem State.setTile_flight (s : State) (n : Nat) (x : Tile) : (s.setTile n x).flight = s.flight := rfl
@[simp] theorem State.setTile_conc (s : State) (n : Nat) (x : Tile) : (s.setTile n x).conc = s.conc := rfl
@[simp] theorem State.setTile_mon (s : State) (n : Nat) (x : Tile) : (s.setTile n x).mon = s.mon := rfl
@[simp] theorem State.setTile_host (s : State) (n : Nat) (x : Tile) : (s.setTile n x).host = s.host := rfl
@[simp] theorem State.setTile_ctxs (s : State) (n : Nat) (x : Tile) : (s.setTile n x).ctxs = s.ctxs := rfl
@[simp] theorem State.setTile_groups (s : State) (n : Nat) (x : Tile) : (s.setTile n x).groups = s.groups := rfl
@[simp] theorem State.setTile_queues (s : State) (n : Nat) (x : Tile) : (s.setTile n x).queues = s.queues := rfl
@[simp] theorem State.setTile_waiters (s : State) (n : Nat) (x : Tile) : (s.setTile n x).waiters = s.waiters := rfl
@[simp] theorem State.setTile_disp (s : State) (n : Nat) (x : Tile) : (s.setTile n x).disp = s.disp := rfl
@[simp] theorem State.setTile_xlt (s : State) (n : Nat) (x : Tile) : (s.setTile n x).xlt = s.xlt := rfl
@[simp] theorem State.setTile_basin (s : State) (n : Nat) (x : Tile) : (s.setTile n x).basin = s.basin := rfl
@[simp] theorem State.setTile_island (s : State) (n : Nat) (x : Tile) : (s.setTile n x).island = s.island := rfl
@[simp] theorem State.setTile_mail (s : State) (n : Nat) (x : Tile) : (s.setTile n x).mail = s.mail := rfl
@[simp] theorem State.setTile_mesh (s : State) (n : Nat) (x : Tile) : (s.setTile n x).mesh = s.mesh := rfl
@[simp] theorem State.setTile_link (s : State) (n : Nat) (x : Tile) : (s.setTile n x).link = s.link := rfl
@[simp] theorem State.setTile_power (s : State) (n : Nat) (x : Tile) : (s.setTile n x).power = s.power := rfl
@[simp] theorem State.setTile_keeper (s : State) (n : Nat) (x : Tile) : (s.setTile n x).keeper = s.keeper := rfl
@[simp] theorem State.setTile_stop (s : State) (n : Nat) (x : Tile) : (s.setTile n x).stop = s.stop := rfl
@[simp] theorem State.setTile_pins (s : State) (n : Nat) (x : Tile) : (s.setTile n x).pins = s.pins := rfl
@[simp] theorem State.setTile_onRc (s : State) (n : Nat) (x : Tile) : (s.setTile n x).onRc = s.onRc := rfl
@[simp] theorem State.setTile_sealKeys (s : State) (n : Nat) (x : Tile) : (s.setTile n x).sealKeys = s.sealKeys := rfl
@[simp] theorem State.setTile_modelKeys (s : State) (n : Nat) (x : Tile) : (s.setTile n x).modelKeys = s.modelKeys := rfl
@[simp] theorem State.setTile_linkOut (s : State) (n : Nat) (x : Tile) : (s.setTile n x).linkOut = s.linkOut := rfl
@[simp] theorem State.setTile_copies (s : State) (n : Nat) (x : Tile) : (s.setTile n x).copies = s.copies := rfl
@[simp] theorem State.setTile_freeCtr (s : State) (n : Nat) (x : Tile) : (s.setTile n x).freeCtr = s.freeCtr := rfl
@[simp] theorem State.setTile_pending (s : State) (n : Nat) (x : Tile) : (s.setTile n x).pending = s.pending := rfl
@[simp] theorem State.setTile_get (s : State) (n : Nat) (x : Tile) (g : Fld) : (s.setTile n x).get g = s.get g := rfl
@[simp] theorem State.setTile_dom (s : State) (n : Nat) (x : Tile) (e : Nat) : (s.setTile n x).dom e = s.dom e := rfl
@[simp] theorem State.setTile_domLive (s : State) (n : Nat) (x : Tile) (e : Nat) : (s.setTile n x).domLive e = s.domLive e := rfl
@[simp] theorem State.setTile_ctx (s : State) (n : Nat) (x : Tile) (e : Nat) : (s.setTile n x).ctx e = s.ctx e := rfl
@[simp] theorem State.setTile_queue (s : State) (n : Nat) (x : Tile) (e : Nat) : (s.setTile n x).queue e = s.queue e := rfl
@[simp] theorem State.setTile_dtile (s : State) (n : Nat) (x : Tile) (e : Nat) : (s.setTile n x).dtile e = s.dtile e := rfl
@[simp] theorem State.setTile_rail (s : State) (n : Nat) (x : Tile) (e : Nat) : (s.setTile n x).rail e = s.rail e := rfl
@[simp] theorem State.setTile_clus (s : State) (n : Nat) (x : Tile) (e : Nat) : (s.setTile n x).clus e = s.clus e := rfl
@[simp] theorem State.setTile_port (s : State) (n : Nat) (x : Tile) (e : Nat) : (s.setTile n x).port e = s.port e := rfl

/-! ## `State.updTile` -/

@[simp] theorem State.updTile_gtc (s : State) (n : Nat) (f : Tile → Tile) : (s.updTile n f).gtc = s.gtc := rfl
@[simp] theorem State.updTile_regs (s : State) (n : Nat) (f : Tile → Tile) : (s.updTile n f).regs = s.regs := rfl
@[simp] theorem State.updTile_mem (s : State) (n : Nat) (f : Tile → Tile) : (s.updTile n f).mem = s.mem := rfl
@[simp] theorem State.updTile_sealTag (s : State) (n : Nat) (f : Tile → Tile) : (s.updTile n f).sealTag = s.sealTag := rfl
@[simp] theorem State.updTile_fuses (s : State) (n : Nat) (f : Tile → Tile) : (s.updTile n f).fuses = s.fuses := rfl
@[simp] theorem State.updTile_doms (s : State) (n : Nat) (f : Tile → Tile) : (s.updTile n f).doms = s.doms := rfl
@[simp] theorem State.updTile_gates (s : State) (n : Nat) (f : Tile → Tile) : (s.updTile n f).gates = s.gates := rfl
@[simp] theorem State.updTile_flight (s : State) (n : Nat) (f : Tile → Tile) : (s.updTile n f).flight = s.flight := rfl
@[simp] theorem State.updTile_conc (s : State) (n : Nat) (f : Tile → Tile) : (s.updTile n f).conc = s.conc := rfl
@[simp] theorem State.updTile_mon (s : State) (n : Nat) (f : Tile → Tile) : (s.updTile n f).mon = s.mon := rfl
@[simp] theorem State.updTile_host (s : State) (n : Nat) (f : Tile → Tile) : (s.updTile n f).host = s.host := rfl
@[simp] theorem State.updTile_ctxs (s : State) (n : Nat) (f : Tile → Tile) : (s.updTile n f).ctxs = s.ctxs := rfl
@[simp] theorem State.updTile_groups (s : State) (n : Nat) (f : Tile → Tile) : (s.updTile n f).groups = s.groups := rfl
@[simp] theorem State.updTile_queues (s : State) (n : Nat) (f : Tile → Tile) : (s.updTile n f).queues = s.queues := rfl
@[simp] theorem State.updTile_waiters (s : State) (n : Nat) (f : Tile → Tile) : (s.updTile n f).waiters = s.waiters := rfl
@[simp] theorem State.updTile_disp (s : State) (n : Nat) (f : Tile → Tile) : (s.updTile n f).disp = s.disp := rfl
@[simp] theorem State.updTile_xlt (s : State) (n : Nat) (f : Tile → Tile) : (s.updTile n f).xlt = s.xlt := rfl
@[simp] theorem State.updTile_basin (s : State) (n : Nat) (f : Tile → Tile) : (s.updTile n f).basin = s.basin := rfl
@[simp] theorem State.updTile_island (s : State) (n : Nat) (f : Tile → Tile) : (s.updTile n f).island = s.island := rfl
@[simp] theorem State.updTile_mail (s : State) (n : Nat) (f : Tile → Tile) : (s.updTile n f).mail = s.mail := rfl
@[simp] theorem State.updTile_mesh (s : State) (n : Nat) (f : Tile → Tile) : (s.updTile n f).mesh = s.mesh := rfl
@[simp] theorem State.updTile_link (s : State) (n : Nat) (f : Tile → Tile) : (s.updTile n f).link = s.link := rfl
@[simp] theorem State.updTile_power (s : State) (n : Nat) (f : Tile → Tile) : (s.updTile n f).power = s.power := rfl
@[simp] theorem State.updTile_keeper (s : State) (n : Nat) (f : Tile → Tile) : (s.updTile n f).keeper = s.keeper := rfl
@[simp] theorem State.updTile_stop (s : State) (n : Nat) (f : Tile → Tile) : (s.updTile n f).stop = s.stop := rfl
@[simp] theorem State.updTile_pins (s : State) (n : Nat) (f : Tile → Tile) : (s.updTile n f).pins = s.pins := rfl
@[simp] theorem State.updTile_onRc (s : State) (n : Nat) (f : Tile → Tile) : (s.updTile n f).onRc = s.onRc := rfl
@[simp] theorem State.updTile_sealKeys (s : State) (n : Nat) (f : Tile → Tile) : (s.updTile n f).sealKeys = s.sealKeys := rfl
@[simp] theorem State.updTile_modelKeys (s : State) (n : Nat) (f : Tile → Tile) : (s.updTile n f).modelKeys = s.modelKeys := rfl
@[simp] theorem State.updTile_linkOut (s : State) (n : Nat) (f : Tile → Tile) : (s.updTile n f).linkOut = s.linkOut := rfl
@[simp] theorem State.updTile_copies (s : State) (n : Nat) (f : Tile → Tile) : (s.updTile n f).copies = s.copies := rfl
@[simp] theorem State.updTile_freeCtr (s : State) (n : Nat) (f : Tile → Tile) : (s.updTile n f).freeCtr = s.freeCtr := rfl
@[simp] theorem State.updTile_pending (s : State) (n : Nat) (f : Tile → Tile) : (s.updTile n f).pending = s.pending := rfl
@[simp] theorem State.updTile_get (s : State) (n : Nat) (f : Tile → Tile) (g : Fld) : (s.updTile n f).get g = s.get g := rfl
@[simp] theorem State.updTile_dom (s : State) (n : Nat) (f : Tile → Tile) (e : Nat) : (s.updTile n f).dom e = s.dom e := rfl
@[simp] theorem State.updTile_domLive (s : State) (n : Nat) (f : Tile → Tile) (e : Nat) : (s.updTile n f).domLive e = s.domLive e := rfl
@[simp] theorem State.updTile_ctx (s : State) (n : Nat) (f : Tile → Tile) (e : Nat) : (s.updTile n f).ctx e = s.ctx e := rfl
@[simp] theorem State.updTile_queue (s : State) (n : Nat) (f : Tile → Tile) (e : Nat) : (s.updTile n f).queue e = s.queue e := rfl
@[simp] theorem State.updTile_dtile (s : State) (n : Nat) (f : Tile → Tile) (e : Nat) : (s.updTile n f).dtile e = s.dtile e := rfl
@[simp] theorem State.updTile_rail (s : State) (n : Nat) (f : Tile → Tile) (e : Nat) : (s.updTile n f).rail e = s.rail e := rfl
@[simp] theorem State.updTile_clus (s : State) (n : Nat) (f : Tile → Tile) (e : Nat) : (s.updTile n f).clus e = s.clus e := rfl
@[simp] theorem State.updTile_port (s : State) (n : Nat) (f : Tile → Tile) (e : Nat) : (s.updTile n f).port e = s.port e := rfl

/-! ## `State.setDtile` -/

@[simp] theorem State.setDtile_gtc (s : State) (n : Nat) (x : DTile) : (s.setDtile n x).gtc = s.gtc := rfl
@[simp] theorem State.setDtile_regs (s : State) (n : Nat) (x : DTile) : (s.setDtile n x).regs = s.regs := rfl
@[simp] theorem State.setDtile_mem (s : State) (n : Nat) (x : DTile) : (s.setDtile n x).mem = s.mem := rfl
@[simp] theorem State.setDtile_sealTag (s : State) (n : Nat) (x : DTile) : (s.setDtile n x).sealTag = s.sealTag := rfl
@[simp] theorem State.setDtile_fuses (s : State) (n : Nat) (x : DTile) : (s.setDtile n x).fuses = s.fuses := rfl
@[simp] theorem State.setDtile_doms (s : State) (n : Nat) (x : DTile) : (s.setDtile n x).doms = s.doms := rfl
@[simp] theorem State.setDtile_gates (s : State) (n : Nat) (x : DTile) : (s.setDtile n x).gates = s.gates := rfl
@[simp] theorem State.setDtile_flight (s : State) (n : Nat) (x : DTile) : (s.setDtile n x).flight = s.flight := rfl
@[simp] theorem State.setDtile_conc (s : State) (n : Nat) (x : DTile) : (s.setDtile n x).conc = s.conc := rfl
@[simp] theorem State.setDtile_mon (s : State) (n : Nat) (x : DTile) : (s.setDtile n x).mon = s.mon := rfl
@[simp] theorem State.setDtile_host (s : State) (n : Nat) (x : DTile) : (s.setDtile n x).host = s.host := rfl
@[simp] theorem State.setDtile_ctxs (s : State) (n : Nat) (x : DTile) : (s.setDtile n x).ctxs = s.ctxs := rfl
@[simp] theorem State.setDtile_groups (s : State) (n : Nat) (x : DTile) : (s.setDtile n x).groups = s.groups := rfl
@[simp] theorem State.setDtile_queues (s : State) (n : Nat) (x : DTile) : (s.setDtile n x).queues = s.queues := rfl
@[simp] theorem State.setDtile_waiters (s : State) (n : Nat) (x : DTile) : (s.setDtile n x).waiters = s.waiters := rfl
@[simp] theorem State.setDtile_tiles (s : State) (n : Nat) (x : DTile) : (s.setDtile n x).tiles = s.tiles := rfl
@[simp] theorem State.setDtile_xlt (s : State) (n : Nat) (x : DTile) : (s.setDtile n x).xlt = s.xlt := rfl
@[simp] theorem State.setDtile_basin (s : State) (n : Nat) (x : DTile) : (s.setDtile n x).basin = s.basin := rfl
@[simp] theorem State.setDtile_island (s : State) (n : Nat) (x : DTile) : (s.setDtile n x).island = s.island := rfl
@[simp] theorem State.setDtile_mail (s : State) (n : Nat) (x : DTile) : (s.setDtile n x).mail = s.mail := rfl
@[simp] theorem State.setDtile_mesh (s : State) (n : Nat) (x : DTile) : (s.setDtile n x).mesh = s.mesh := rfl
@[simp] theorem State.setDtile_link (s : State) (n : Nat) (x : DTile) : (s.setDtile n x).link = s.link := rfl
@[simp] theorem State.setDtile_power (s : State) (n : Nat) (x : DTile) : (s.setDtile n x).power = s.power := rfl
@[simp] theorem State.setDtile_keeper (s : State) (n : Nat) (x : DTile) : (s.setDtile n x).keeper = s.keeper := rfl
@[simp] theorem State.setDtile_stop (s : State) (n : Nat) (x : DTile) : (s.setDtile n x).stop = s.stop := rfl
@[simp] theorem State.setDtile_pins (s : State) (n : Nat) (x : DTile) : (s.setDtile n x).pins = s.pins := rfl
@[simp] theorem State.setDtile_onRc (s : State) (n : Nat) (x : DTile) : (s.setDtile n x).onRc = s.onRc := rfl
@[simp] theorem State.setDtile_sealKeys (s : State) (n : Nat) (x : DTile) : (s.setDtile n x).sealKeys = s.sealKeys := rfl
@[simp] theorem State.setDtile_modelKeys (s : State) (n : Nat) (x : DTile) : (s.setDtile n x).modelKeys = s.modelKeys := rfl
@[simp] theorem State.setDtile_linkOut (s : State) (n : Nat) (x : DTile) : (s.setDtile n x).linkOut = s.linkOut := rfl
@[simp] theorem State.setDtile_copies (s : State) (n : Nat) (x : DTile) : (s.setDtile n x).copies = s.copies := rfl
@[simp] theorem State.setDtile_freeCtr (s : State) (n : Nat) (x : DTile) : (s.setDtile n x).freeCtr = s.freeCtr := rfl
@[simp] theorem State.setDtile_pending (s : State) (n : Nat) (x : DTile) : (s.setDtile n x).pending = s.pending := rfl
@[simp] theorem State.setDtile_get (s : State) (n : Nat) (x : DTile) (g : Fld) : (s.setDtile n x).get g = s.get g := rfl
@[simp] theorem State.setDtile_dom (s : State) (n : Nat) (x : DTile) (e : Nat) : (s.setDtile n x).dom e = s.dom e := rfl
@[simp] theorem State.setDtile_domLive (s : State) (n : Nat) (x : DTile) (e : Nat) : (s.setDtile n x).domLive e = s.domLive e := rfl
@[simp] theorem State.setDtile_ctx (s : State) (n : Nat) (x : DTile) (e : Nat) : (s.setDtile n x).ctx e = s.ctx e := rfl
@[simp] theorem State.setDtile_queue (s : State) (n : Nat) (x : DTile) (e : Nat) : (s.setDtile n x).queue e = s.queue e := rfl
@[simp] theorem State.setDtile_tile (s : State) (n : Nat) (x : DTile) (e : Nat) : (s.setDtile n x).tile e = s.tile e := rfl
@[simp] theorem State.setDtile_rail (s : State) (n : Nat) (x : DTile) (e : Nat) : (s.setDtile n x).rail e = s.rail e := rfl
@[simp] theorem State.setDtile_clus (s : State) (n : Nat) (x : DTile) (e : Nat) : (s.setDtile n x).clus e = s.clus e := rfl
@[simp] theorem State.setDtile_port (s : State) (n : Nat) (x : DTile) (e : Nat) : (s.setDtile n x).port e = s.port e := rfl

/-! ## `State.setDma` -/

@[simp] theorem State.setDma_gtc (s : State) (n : Nat) (l : List (Nat × Nat)) : (s.setDma n l).gtc = s.gtc := rfl
@[simp] theorem State.setDma_regs (s : State) (n : Nat) (l : List (Nat × Nat)) : (s.setDma n l).regs = s.regs := rfl
@[simp] theorem State.setDma_mem (s : State) (n : Nat) (l : List (Nat × Nat)) : (s.setDma n l).mem = s.mem := rfl
@[simp] theorem State.setDma_sealTag (s : State) (n : Nat) (l : List (Nat × Nat)) : (s.setDma n l).sealTag = s.sealTag := rfl
@[simp] theorem State.setDma_fuses (s : State) (n : Nat) (l : List (Nat × Nat)) : (s.setDma n l).fuses = s.fuses := rfl
@[simp] theorem State.setDma_doms (s : State) (n : Nat) (l : List (Nat × Nat)) : (s.setDma n l).doms = s.doms := rfl
@[simp] theorem State.setDma_gates (s : State) (n : Nat) (l : List (Nat × Nat)) : (s.setDma n l).gates = s.gates := rfl
@[simp] theorem State.setDma_flight (s : State) (n : Nat) (l : List (Nat × Nat)) : (s.setDma n l).flight = s.flight := rfl
@[simp] theorem State.setDma_conc (s : State) (n : Nat) (l : List (Nat × Nat)) : (s.setDma n l).conc = s.conc := rfl
@[simp] theorem State.setDma_mon (s : State) (n : Nat) (l : List (Nat × Nat)) : (s.setDma n l).mon = s.mon := rfl
@[simp] theorem State.setDma_host (s : State) (n : Nat) (l : List (Nat × Nat)) : (s.setDma n l).host = s.host := rfl
@[simp] theorem State.setDma_ctxs (s : State) (n : Nat) (l : List (Nat × Nat)) : (s.setDma n l).ctxs = s.ctxs := rfl
@[simp] theorem State.setDma_groups (s : State) (n : Nat) (l : List (Nat × Nat)) : (s.setDma n l).groups = s.groups := rfl
@[simp] theorem State.setDma_queues (s : State) (n : Nat) (l : List (Nat × Nat)) : (s.setDma n l).queues = s.queues := rfl
@[simp] theorem State.setDma_waiters (s : State) (n : Nat) (l : List (Nat × Nat)) : (s.setDma n l).waiters = s.waiters := rfl
@[simp] theorem State.setDma_tiles (s : State) (n : Nat) (l : List (Nat × Nat)) : (s.setDma n l).tiles = s.tiles := rfl
@[simp] theorem State.setDma_xlt (s : State) (n : Nat) (l : List (Nat × Nat)) : (s.setDma n l).xlt = s.xlt := rfl
@[simp] theorem State.setDma_basin (s : State) (n : Nat) (l : List (Nat × Nat)) : (s.setDma n l).basin = s.basin := rfl
@[simp] theorem State.setDma_island (s : State) (n : Nat) (l : List (Nat × Nat)) : (s.setDma n l).island = s.island := rfl
@[simp] theorem State.setDma_mail (s : State) (n : Nat) (l : List (Nat × Nat)) : (s.setDma n l).mail = s.mail := rfl
@[simp] theorem State.setDma_mesh (s : State) (n : Nat) (l : List (Nat × Nat)) : (s.setDma n l).mesh = s.mesh := rfl
@[simp] theorem State.setDma_link (s : State) (n : Nat) (l : List (Nat × Nat)) : (s.setDma n l).link = s.link := rfl
@[simp] theorem State.setDma_power (s : State) (n : Nat) (l : List (Nat × Nat)) : (s.setDma n l).power = s.power := rfl
@[simp] theorem State.setDma_keeper (s : State) (n : Nat) (l : List (Nat × Nat)) : (s.setDma n l).keeper = s.keeper := rfl
@[simp] theorem State.setDma_stop (s : State) (n : Nat) (l : List (Nat × Nat)) : (s.setDma n l).stop = s.stop := rfl
@[simp] theorem State.setDma_pins (s : State) (n : Nat) (l : List (Nat × Nat)) : (s.setDma n l).pins = s.pins := rfl
@[simp] theorem State.setDma_onRc (s : State) (n : Nat) (l : List (Nat × Nat)) : (s.setDma n l).onRc = s.onRc := rfl
@[simp] theorem State.setDma_sealKeys (s : State) (n : Nat) (l : List (Nat × Nat)) : (s.setDma n l).sealKeys = s.sealKeys := rfl
@[simp] theorem State.setDma_modelKeys (s : State) (n : Nat) (l : List (Nat × Nat)) : (s.setDma n l).modelKeys = s.modelKeys := rfl
@[simp] theorem State.setDma_linkOut (s : State) (n : Nat) (l : List (Nat × Nat)) : (s.setDma n l).linkOut = s.linkOut := rfl
@[simp] theorem State.setDma_copies (s : State) (n : Nat) (l : List (Nat × Nat)) : (s.setDma n l).copies = s.copies := rfl
@[simp] theorem State.setDma_freeCtr (s : State) (n : Nat) (l : List (Nat × Nat)) : (s.setDma n l).freeCtr = s.freeCtr := rfl
@[simp] theorem State.setDma_pending (s : State) (n : Nat) (l : List (Nat × Nat)) : (s.setDma n l).pending = s.pending := rfl
@[simp] theorem State.setDma_get (s : State) (n : Nat) (l : List (Nat × Nat)) (g : Fld) : (s.setDma n l).get g = s.get g := rfl
@[simp] theorem State.setDma_dom (s : State) (n : Nat) (l : List (Nat × Nat)) (e : Nat) : (s.setDma n l).dom e = s.dom e := rfl
@[simp] theorem State.setDma_domLive (s : State) (n : Nat) (l : List (Nat × Nat)) (e : Nat) : (s.setDma n l).domLive e = s.domLive e := rfl
@[simp] theorem State.setDma_ctx (s : State) (n : Nat) (l : List (Nat × Nat)) (e : Nat) : (s.setDma n l).ctx e = s.ctx e := rfl
@[simp] theorem State.setDma_queue (s : State) (n : Nat) (l : List (Nat × Nat)) (e : Nat) : (s.setDma n l).queue e = s.queue e := rfl
@[simp] theorem State.setDma_tile (s : State) (n : Nat) (l : List (Nat × Nat)) (e : Nat) : (s.setDma n l).tile e = s.tile e := rfl
@[simp] theorem State.setDma_dtile (s : State) (n : Nat) (l : List (Nat × Nat)) (e : Nat) : (s.setDma n l).dtile e = s.dtile e := rfl
@[simp] theorem State.setDma_rail (s : State) (n : Nat) (l : List (Nat × Nat)) (e : Nat) : (s.setDma n l).rail e = s.rail e := rfl
@[simp] theorem State.setDma_clus (s : State) (n : Nat) (l : List (Nat × Nat)) (e : Nat) : (s.setDma n l).clus e = s.clus e := rfl
@[simp] theorem State.setDma_port (s : State) (n : Nat) (l : List (Nat × Nat)) (e : Nat) : (s.setDma n l).port e = s.port e := rfl

/-! ## `State.setRail` -/

@[simp] theorem State.setRail_gtc (s : State) (r : Nat) (x : Rail) : (s.setRail r x).gtc = s.gtc := rfl
@[simp] theorem State.setRail_regs (s : State) (r : Nat) (x : Rail) : (s.setRail r x).regs = s.regs := rfl
@[simp] theorem State.setRail_mem (s : State) (r : Nat) (x : Rail) : (s.setRail r x).mem = s.mem := rfl
@[simp] theorem State.setRail_sealTag (s : State) (r : Nat) (x : Rail) : (s.setRail r x).sealTag = s.sealTag := rfl
@[simp] theorem State.setRail_fuses (s : State) (r : Nat) (x : Rail) : (s.setRail r x).fuses = s.fuses := rfl
@[simp] theorem State.setRail_doms (s : State) (r : Nat) (x : Rail) : (s.setRail r x).doms = s.doms := rfl
@[simp] theorem State.setRail_gates (s : State) (r : Nat) (x : Rail) : (s.setRail r x).gates = s.gates := rfl
@[simp] theorem State.setRail_flight (s : State) (r : Nat) (x : Rail) : (s.setRail r x).flight = s.flight := rfl
@[simp] theorem State.setRail_conc (s : State) (r : Nat) (x : Rail) : (s.setRail r x).conc = s.conc := rfl
@[simp] theorem State.setRail_mon (s : State) (r : Nat) (x : Rail) : (s.setRail r x).mon = s.mon := rfl
@[simp] theorem State.setRail_host (s : State) (r : Nat) (x : Rail) : (s.setRail r x).host = s.host := rfl
@[simp] theorem State.setRail_ctxs (s : State) (r : Nat) (x : Rail) : (s.setRail r x).ctxs = s.ctxs := rfl
@[simp] theorem State.setRail_groups (s : State) (r : Nat) (x : Rail) : (s.setRail r x).groups = s.groups := rfl
@[simp] theorem State.setRail_queues (s : State) (r : Nat) (x : Rail) : (s.setRail r x).queues = s.queues := rfl
@[simp] theorem State.setRail_waiters (s : State) (r : Nat) (x : Rail) : (s.setRail r x).waiters = s.waiters := rfl
@[simp] theorem State.setRail_disp (s : State) (r : Nat) (x : Rail) : (s.setRail r x).disp = s.disp := rfl
@[simp] theorem State.setRail_tiles (s : State) (r : Nat) (x : Rail) : (s.setRail r x).tiles = s.tiles := rfl
@[simp] theorem State.setRail_xlt (s : State) (r : Nat) (x : Rail) : (s.setRail r x).xlt = s.xlt := rfl
@[simp] theorem State.setRail_basin (s : State) (r : Nat) (x : Rail) : (s.setRail r x).basin = s.basin := rfl
@[simp] theorem State.setRail_island (s : State) (r : Nat) (x : Rail) : (s.setRail r x).island = s.island := rfl
@[simp] theorem State.setRail_mail (s : State) (r : Nat) (x : Rail) : (s.setRail r x).mail = s.mail := rfl
@[simp] theorem State.setRail_mesh (s : State) (r : Nat) (x : Rail) : (s.setRail r x).mesh = s.mesh := rfl
@[simp] theorem State.setRail_link (s : State) (r : Nat) (x : Rail) : (s.setRail r x).link = s.link := rfl
@[simp] theorem State.setRail_keeper (s : State) (r : Nat) (x : Rail) : (s.setRail r x).keeper = s.keeper := rfl
@[simp] theorem State.setRail_stop (s : State) (r : Nat) (x : Rail) : (s.setRail r x).stop = s.stop := rfl
@[simp] theorem State.setRail_pins (s : State) (r : Nat) (x : Rail) : (s.setRail r x).pins = s.pins := rfl
@[simp] theorem State.setRail_onRc (s : State) (r : Nat) (x : Rail) : (s.setRail r x).onRc = s.onRc := rfl
@[simp] theorem State.setRail_sealKeys (s : State) (r : Nat) (x : Rail) : (s.setRail r x).sealKeys = s.sealKeys := rfl
@[simp] theorem State.setRail_modelKeys (s : State) (r : Nat) (x : Rail) : (s.setRail r x).modelKeys = s.modelKeys := rfl
@[simp] theorem State.setRail_linkOut (s : State) (r : Nat) (x : Rail) : (s.setRail r x).linkOut = s.linkOut := rfl
@[simp] theorem State.setRail_copies (s : State) (r : Nat) (x : Rail) : (s.setRail r x).copies = s.copies := rfl
@[simp] theorem State.setRail_freeCtr (s : State) (r : Nat) (x : Rail) : (s.setRail r x).freeCtr = s.freeCtr := rfl
@[simp] theorem State.setRail_pending (s : State) (r : Nat) (x : Rail) : (s.setRail r x).pending = s.pending := rfl
@[simp] theorem State.setRail_get (s : State) (r : Nat) (x : Rail) (g : Fld) : (s.setRail r x).get g = s.get g := rfl
@[simp] theorem State.setRail_dom (s : State) (r : Nat) (x : Rail) (e : Nat) : (s.setRail r x).dom e = s.dom e := rfl
@[simp] theorem State.setRail_domLive (s : State) (r : Nat) (x : Rail) (e : Nat) : (s.setRail r x).domLive e = s.domLive e := rfl
@[simp] theorem State.setRail_ctx (s : State) (r : Nat) (x : Rail) (e : Nat) : (s.setRail r x).ctx e = s.ctx e := rfl
@[simp] theorem State.setRail_queue (s : State) (r : Nat) (x : Rail) (e : Nat) : (s.setRail r x).queue e = s.queue e := rfl
@[simp] theorem State.setRail_tile (s : State) (r : Nat) (x : Rail) (e : Nat) : (s.setRail r x).tile e = s.tile e := rfl
@[simp] theorem State.setRail_dtile (s : State) (r : Nat) (x : Rail) (e : Nat) : (s.setRail r x).dtile e = s.dtile e := rfl
@[simp] theorem State.setRail_clus (s : State) (r : Nat) (x : Rail) (e : Nat) : (s.setRail r x).clus e = s.clus e := rfl
@[simp] theorem State.setRail_port (s : State) (r : Nat) (x : Rail) (e : Nat) : (s.setRail r x).port e = s.port e := rfl

/-! ## `State.setClus` -/

@[simp] theorem State.setClus_gtc (s : State) (c : Nat) (x : Clus) : (s.setClus c x).gtc = s.gtc := rfl
@[simp] theorem State.setClus_regs (s : State) (c : Nat) (x : Clus) : (s.setClus c x).regs = s.regs := rfl
@[simp] theorem State.setClus_mem (s : State) (c : Nat) (x : Clus) : (s.setClus c x).mem = s.mem := rfl
@[simp] theorem State.setClus_sealTag (s : State) (c : Nat) (x : Clus) : (s.setClus c x).sealTag = s.sealTag := rfl
@[simp] theorem State.setClus_fuses (s : State) (c : Nat) (x : Clus) : (s.setClus c x).fuses = s.fuses := rfl
@[simp] theorem State.setClus_doms (s : State) (c : Nat) (x : Clus) : (s.setClus c x).doms = s.doms := rfl
@[simp] theorem State.setClus_gates (s : State) (c : Nat) (x : Clus) : (s.setClus c x).gates = s.gates := rfl
@[simp] theorem State.setClus_flight (s : State) (c : Nat) (x : Clus) : (s.setClus c x).flight = s.flight := rfl
@[simp] theorem State.setClus_conc (s : State) (c : Nat) (x : Clus) : (s.setClus c x).conc = s.conc := rfl
@[simp] theorem State.setClus_mon (s : State) (c : Nat) (x : Clus) : (s.setClus c x).mon = s.mon := rfl
@[simp] theorem State.setClus_host (s : State) (c : Nat) (x : Clus) : (s.setClus c x).host = s.host := rfl
@[simp] theorem State.setClus_ctxs (s : State) (c : Nat) (x : Clus) : (s.setClus c x).ctxs = s.ctxs := rfl
@[simp] theorem State.setClus_groups (s : State) (c : Nat) (x : Clus) : (s.setClus c x).groups = s.groups := rfl
@[simp] theorem State.setClus_queues (s : State) (c : Nat) (x : Clus) : (s.setClus c x).queues = s.queues := rfl
@[simp] theorem State.setClus_waiters (s : State) (c : Nat) (x : Clus) : (s.setClus c x).waiters = s.waiters := rfl
@[simp] theorem State.setClus_disp (s : State) (c : Nat) (x : Clus) : (s.setClus c x).disp = s.disp := rfl
@[simp] theorem State.setClus_tiles (s : State) (c : Nat) (x : Clus) : (s.setClus c x).tiles = s.tiles := rfl
@[simp] theorem State.setClus_xlt (s : State) (c : Nat) (x : Clus) : (s.setClus c x).xlt = s.xlt := rfl
@[simp] theorem State.setClus_basin (s : State) (c : Nat) (x : Clus) : (s.setClus c x).basin = s.basin := rfl
@[simp] theorem State.setClus_island (s : State) (c : Nat) (x : Clus) : (s.setClus c x).island = s.island := rfl
@[simp] theorem State.setClus_mail (s : State) (c : Nat) (x : Clus) : (s.setClus c x).mail = s.mail := rfl
@[simp] theorem State.setClus_mesh (s : State) (c : Nat) (x : Clus) : (s.setClus c x).mesh = s.mesh := rfl
@[simp] theorem State.setClus_link (s : State) (c : Nat) (x : Clus) : (s.setClus c x).link = s.link := rfl
@[simp] theorem State.setClus_keeper (s : State) (c : Nat) (x : Clus) : (s.setClus c x).keeper = s.keeper := rfl
@[simp] theorem State.setClus_stop (s : State) (c : Nat) (x : Clus) : (s.setClus c x).stop = s.stop := rfl
@[simp] theorem State.setClus_pins (s : State) (c : Nat) (x : Clus) : (s.setClus c x).pins = s.pins := rfl
@[simp] theorem State.setClus_onRc (s : State) (c : Nat) (x : Clus) : (s.setClus c x).onRc = s.onRc := rfl
@[simp] theorem State.setClus_sealKeys (s : State) (c : Nat) (x : Clus) : (s.setClus c x).sealKeys = s.sealKeys := rfl
@[simp] theorem State.setClus_modelKeys (s : State) (c : Nat) (x : Clus) : (s.setClus c x).modelKeys = s.modelKeys := rfl
@[simp] theorem State.setClus_linkOut (s : State) (c : Nat) (x : Clus) : (s.setClus c x).linkOut = s.linkOut := rfl
@[simp] theorem State.setClus_copies (s : State) (c : Nat) (x : Clus) : (s.setClus c x).copies = s.copies := rfl
@[simp] theorem State.setClus_freeCtr (s : State) (c : Nat) (x : Clus) : (s.setClus c x).freeCtr = s.freeCtr := rfl
@[simp] theorem State.setClus_pending (s : State) (c : Nat) (x : Clus) : (s.setClus c x).pending = s.pending := rfl
@[simp] theorem State.setClus_get (s : State) (c : Nat) (x : Clus) (g : Fld) : (s.setClus c x).get g = s.get g := rfl
@[simp] theorem State.setClus_dom (s : State) (c : Nat) (x : Clus) (e : Nat) : (s.setClus c x).dom e = s.dom e := rfl
@[simp] theorem State.setClus_domLive (s : State) (c : Nat) (x : Clus) (e : Nat) : (s.setClus c x).domLive e = s.domLive e := rfl
@[simp] theorem State.setClus_ctx (s : State) (c : Nat) (x : Clus) (e : Nat) : (s.setClus c x).ctx e = s.ctx e := rfl
@[simp] theorem State.setClus_queue (s : State) (c : Nat) (x : Clus) (e : Nat) : (s.setClus c x).queue e = s.queue e := rfl
@[simp] theorem State.setClus_tile (s : State) (c : Nat) (x : Clus) (e : Nat) : (s.setClus c x).tile e = s.tile e := rfl
@[simp] theorem State.setClus_dtile (s : State) (c : Nat) (x : Clus) (e : Nat) : (s.setClus c x).dtile e = s.dtile e := rfl
@[simp] theorem State.setClus_rail (s : State) (c : Nat) (x : Clus) (e : Nat) : (s.setClus c x).rail e = s.rail e := rfl
@[simp] theorem State.setClus_port (s : State) (c : Nat) (x : Clus) (e : Nat) : (s.setClus c x).port e = s.port e := rfl

/-! ## `State.setPort` -/

@[simp] theorem State.setPort_gtc (s : State) (n : Nat) (x : Port) : (s.setPort n x).gtc = s.gtc := rfl
@[simp] theorem State.setPort_regs (s : State) (n : Nat) (x : Port) : (s.setPort n x).regs = s.regs := rfl
@[simp] theorem State.setPort_mem (s : State) (n : Nat) (x : Port) : (s.setPort n x).mem = s.mem := rfl
@[simp] theorem State.setPort_sealTag (s : State) (n : Nat) (x : Port) : (s.setPort n x).sealTag = s.sealTag := rfl
@[simp] theorem State.setPort_fuses (s : State) (n : Nat) (x : Port) : (s.setPort n x).fuses = s.fuses := rfl
@[simp] theorem State.setPort_doms (s : State) (n : Nat) (x : Port) : (s.setPort n x).doms = s.doms := rfl
@[simp] theorem State.setPort_gates (s : State) (n : Nat) (x : Port) : (s.setPort n x).gates = s.gates := rfl
@[simp] theorem State.setPort_flight (s : State) (n : Nat) (x : Port) : (s.setPort n x).flight = s.flight := rfl
@[simp] theorem State.setPort_conc (s : State) (n : Nat) (x : Port) : (s.setPort n x).conc = s.conc := rfl
@[simp] theorem State.setPort_mon (s : State) (n : Nat) (x : Port) : (s.setPort n x).mon = s.mon := rfl
@[simp] theorem State.setPort_host (s : State) (n : Nat) (x : Port) : (s.setPort n x).host = s.host := rfl
@[simp] theorem State.setPort_ctxs (s : State) (n : Nat) (x : Port) : (s.setPort n x).ctxs = s.ctxs := rfl
@[simp] theorem State.setPort_groups (s : State) (n : Nat) (x : Port) : (s.setPort n x).groups = s.groups := rfl
@[simp] theorem State.setPort_queues (s : State) (n : Nat) (x : Port) : (s.setPort n x).queues = s.queues := rfl
@[simp] theorem State.setPort_waiters (s : State) (n : Nat) (x : Port) : (s.setPort n x).waiters = s.waiters := rfl
@[simp] theorem State.setPort_disp (s : State) (n : Nat) (x : Port) : (s.setPort n x).disp = s.disp := rfl
@[simp] theorem State.setPort_tiles (s : State) (n : Nat) (x : Port) : (s.setPort n x).tiles = s.tiles := rfl
@[simp] theorem State.setPort_xlt (s : State) (n : Nat) (x : Port) : (s.setPort n x).xlt = s.xlt := rfl
@[simp] theorem State.setPort_basin (s : State) (n : Nat) (x : Port) : (s.setPort n x).basin = s.basin := rfl
@[simp] theorem State.setPort_island (s : State) (n : Nat) (x : Port) : (s.setPort n x).island = s.island := rfl
@[simp] theorem State.setPort_mail (s : State) (n : Nat) (x : Port) : (s.setPort n x).mail = s.mail := rfl
@[simp] theorem State.setPort_mesh (s : State) (n : Nat) (x : Port) : (s.setPort n x).mesh = s.mesh := rfl
@[simp] theorem State.setPort_power (s : State) (n : Nat) (x : Port) : (s.setPort n x).power = s.power := rfl
@[simp] theorem State.setPort_keeper (s : State) (n : Nat) (x : Port) : (s.setPort n x).keeper = s.keeper := rfl
@[simp] theorem State.setPort_stop (s : State) (n : Nat) (x : Port) : (s.setPort n x).stop = s.stop := rfl
@[simp] theorem State.setPort_pins (s : State) (n : Nat) (x : Port) : (s.setPort n x).pins = s.pins := rfl
@[simp] theorem State.setPort_onRc (s : State) (n : Nat) (x : Port) : (s.setPort n x).onRc = s.onRc := rfl
@[simp] theorem State.setPort_sealKeys (s : State) (n : Nat) (x : Port) : (s.setPort n x).sealKeys = s.sealKeys := rfl
@[simp] theorem State.setPort_modelKeys (s : State) (n : Nat) (x : Port) : (s.setPort n x).modelKeys = s.modelKeys := rfl
@[simp] theorem State.setPort_linkOut (s : State) (n : Nat) (x : Port) : (s.setPort n x).linkOut = s.linkOut := rfl
@[simp] theorem State.setPort_copies (s : State) (n : Nat) (x : Port) : (s.setPort n x).copies = s.copies := rfl
@[simp] theorem State.setPort_freeCtr (s : State) (n : Nat) (x : Port) : (s.setPort n x).freeCtr = s.freeCtr := rfl
@[simp] theorem State.setPort_pending (s : State) (n : Nat) (x : Port) : (s.setPort n x).pending = s.pending := rfl
@[simp] theorem State.setPort_get (s : State) (n : Nat) (x : Port) (g : Fld) : (s.setPort n x).get g = s.get g := rfl
@[simp] theorem State.setPort_dom (s : State) (n : Nat) (x : Port) (e : Nat) : (s.setPort n x).dom e = s.dom e := rfl
@[simp] theorem State.setPort_domLive (s : State) (n : Nat) (x : Port) (e : Nat) : (s.setPort n x).domLive e = s.domLive e := rfl
@[simp] theorem State.setPort_ctx (s : State) (n : Nat) (x : Port) (e : Nat) : (s.setPort n x).ctx e = s.ctx e := rfl
@[simp] theorem State.setPort_queue (s : State) (n : Nat) (x : Port) (e : Nat) : (s.setPort n x).queue e = s.queue e := rfl
@[simp] theorem State.setPort_tile (s : State) (n : Nat) (x : Port) (e : Nat) : (s.setPort n x).tile e = s.tile e := rfl
@[simp] theorem State.setPort_dtile (s : State) (n : Nat) (x : Port) (e : Nat) : (s.setPort n x).dtile e = s.dtile e := rfl
@[simp] theorem State.setPort_rail (s : State) (n : Nat) (x : Port) (e : Nat) : (s.setPort n x).rail e = s.rail e := rfl
@[simp] theorem State.setPort_clus (s : State) (n : Nat) (x : Port) (e : Nat) : (s.setPort n x).clus e = s.clus e := rfl

/-! ## `State.enqueue` -/

@[simp] theorem State.enqueue_gtc (s : State) (h : Header) : (s.enqueue h).gtc = s.gtc := rfl
@[simp] theorem State.enqueue_regs (s : State) (h : Header) : (s.enqueue h).regs = s.regs := rfl
@[simp] theorem State.enqueue_mem (s : State) (h : Header) : (s.enqueue h).mem = s.mem := rfl
@[simp] theorem State.enqueue_sealTag (s : State) (h : Header) : (s.enqueue h).sealTag = s.sealTag := rfl
@[simp] theorem State.enqueue_fuses (s : State) (h : Header) : (s.enqueue h).fuses = s.fuses := rfl
@[simp] theorem State.enqueue_doms (s : State) (h : Header) : (s.enqueue h).doms = s.doms := rfl
@[simp] theorem State.enqueue_gates (s : State) (h : Header) : (s.enqueue h).gates = s.gates := rfl
@[simp] theorem State.enqueue_flight (s : State) (h : Header) : (s.enqueue h).flight = s.flight := rfl
@[simp] theorem State.enqueue_conc (s : State) (h : Header) : (s.enqueue h).conc = s.conc := rfl
@[simp] theorem State.enqueue_mon (s : State) (h : Header) : (s.enqueue h).mon = s.mon := rfl
@[simp] theorem State.enqueue_host (s : State) (h : Header) : (s.enqueue h).host = s.host := rfl
@[simp] theorem State.enqueue_ctxs (s : State) (h : Header) : (s.enqueue h).ctxs = s.ctxs := rfl
@[simp] theorem State.enqueue_groups (s : State) (h : Header) : (s.enqueue h).groups = s.groups := rfl
@[simp] theorem State.enqueue_queues (s : State) (h : Header) : (s.enqueue h).queues = s.queues := rfl
@[simp] theorem State.enqueue_waiters (s : State) (h : Header) : (s.enqueue h).waiters = s.waiters := rfl
@[simp] theorem State.enqueue_disp (s : State) (h : Header) : (s.enqueue h).disp = s.disp := rfl
@[simp] theorem State.enqueue_tiles (s : State) (h : Header) : (s.enqueue h).tiles = s.tiles := rfl
@[simp] theorem State.enqueue_xlt (s : State) (h : Header) : (s.enqueue h).xlt = s.xlt := rfl
@[simp] theorem State.enqueue_basin (s : State) (h : Header) : (s.enqueue h).basin = s.basin := rfl
@[simp] theorem State.enqueue_island (s : State) (h : Header) : (s.enqueue h).island = s.island := rfl
@[simp] theorem State.enqueue_mail (s : State) (h : Header) : (s.enqueue h).mail = s.mail := rfl
@[simp] theorem State.enqueue_link (s : State) (h : Header) : (s.enqueue h).link = s.link := rfl
@[simp] theorem State.enqueue_power (s : State) (h : Header) : (s.enqueue h).power = s.power := rfl
@[simp] theorem State.enqueue_keeper (s : State) (h : Header) : (s.enqueue h).keeper = s.keeper := rfl
@[simp] theorem State.enqueue_stop (s : State) (h : Header) : (s.enqueue h).stop = s.stop := rfl
@[simp] theorem State.enqueue_pins (s : State) (h : Header) : (s.enqueue h).pins = s.pins := rfl
@[simp] theorem State.enqueue_onRc (s : State) (h : Header) : (s.enqueue h).onRc = s.onRc := rfl
@[simp] theorem State.enqueue_sealKeys (s : State) (h : Header) : (s.enqueue h).sealKeys = s.sealKeys := rfl
@[simp] theorem State.enqueue_modelKeys (s : State) (h : Header) : (s.enqueue h).modelKeys = s.modelKeys := rfl
@[simp] theorem State.enqueue_linkOut (s : State) (h : Header) : (s.enqueue h).linkOut = s.linkOut := rfl
@[simp] theorem State.enqueue_copies (s : State) (h : Header) : (s.enqueue h).copies = s.copies := rfl
@[simp] theorem State.enqueue_freeCtr (s : State) (h : Header) : (s.enqueue h).freeCtr = s.freeCtr := rfl
@[simp] theorem State.enqueue_pending (s : State) (h : Header) : (s.enqueue h).pending = s.pending := rfl
@[simp] theorem State.enqueue_get (s : State) (h : Header) (g : Fld) : (s.enqueue h).get g = s.get g := rfl
@[simp] theorem State.enqueue_dom (s : State) (h : Header) (e : Nat) : (s.enqueue h).dom e = s.dom e := rfl
@[simp] theorem State.enqueue_domLive (s : State) (h : Header) (e : Nat) : (s.enqueue h).domLive e = s.domLive e := rfl
@[simp] theorem State.enqueue_ctx (s : State) (h : Header) (e : Nat) : (s.enqueue h).ctx e = s.ctx e := rfl
@[simp] theorem State.enqueue_queue (s : State) (h : Header) (e : Nat) : (s.enqueue h).queue e = s.queue e := rfl
@[simp] theorem State.enqueue_tile (s : State) (h : Header) (e : Nat) : (s.enqueue h).tile e = s.tile e := rfl
@[simp] theorem State.enqueue_dtile (s : State) (h : Header) (e : Nat) : (s.enqueue h).dtile e = s.dtile e := rfl
@[simp] theorem State.enqueue_rail (s : State) (h : Header) (e : Nat) : (s.enqueue h).rail e = s.rail e := rfl
@[simp] theorem State.enqueue_clus (s : State) (h : Header) (e : Nat) : (s.enqueue h).clus e = s.clus e := rfl
@[simp] theorem State.enqueue_port (s : State) (h : Header) (e : Nat) : (s.enqueue h).port e = s.port e := rfl

/-! ## `State.setCredit` -/

@[simp] theorem State.setCredit_gtc (s : State) (n u k : Nat) (c : Int) : (s.setCredit n u k c).gtc = s.gtc := rfl
@[simp] theorem State.setCredit_regs (s : State) (n u k : Nat) (c : Int) : (s.setCredit n u k c).regs = s.regs := rfl
@[simp] theorem State.setCredit_mem (s : State) (n u k : Nat) (c : Int) : (s.setCredit n u k c).mem = s.mem := rfl
@[simp] theorem State.setCredit_sealTag (s : State) (n u k : Nat) (c : Int) : (s.setCredit n u k c).sealTag = s.sealTag := rfl
@[simp] theorem State.setCredit_fuses (s : State) (n u k : Nat) (c : Int) : (s.setCredit n u k c).fuses = s.fuses := rfl
@[simp] theorem State.setCredit_doms (s : State) (n u k : Nat) (c : Int) : (s.setCredit n u k c).doms = s.doms := rfl
@[simp] theorem State.setCredit_gates (s : State) (n u k : Nat) (c : Int) : (s.setCredit n u k c).gates = s.gates := rfl
@[simp] theorem State.setCredit_flight (s : State) (n u k : Nat) (c : Int) : (s.setCredit n u k c).flight = s.flight := rfl
@[simp] theorem State.setCredit_conc (s : State) (n u k : Nat) (c : Int) : (s.setCredit n u k c).conc = s.conc := rfl
@[simp] theorem State.setCredit_mon (s : State) (n u k : Nat) (c : Int) : (s.setCredit n u k c).mon = s.mon := rfl
@[simp] theorem State.setCredit_host (s : State) (n u k : Nat) (c : Int) : (s.setCredit n u k c).host = s.host := rfl
@[simp] theorem State.setCredit_ctxs (s : State) (n u k : Nat) (c : Int) : (s.setCredit n u k c).ctxs = s.ctxs := rfl
@[simp] theorem State.setCredit_groups (s : State) (n u k : Nat) (c : Int) : (s.setCredit n u k c).groups = s.groups := rfl
@[simp] theorem State.setCredit_queues (s : State) (n u k : Nat) (c : Int) : (s.setCredit n u k c).queues = s.queues := rfl
@[simp] theorem State.setCredit_waiters (s : State) (n u k : Nat) (c : Int) : (s.setCredit n u k c).waiters = s.waiters := rfl
@[simp] theorem State.setCredit_disp (s : State) (n u k : Nat) (c : Int) : (s.setCredit n u k c).disp = s.disp := rfl
@[simp] theorem State.setCredit_tiles (s : State) (n u k : Nat) (c : Int) : (s.setCredit n u k c).tiles = s.tiles := rfl
@[simp] theorem State.setCredit_xlt (s : State) (n u k : Nat) (c : Int) : (s.setCredit n u k c).xlt = s.xlt := rfl
@[simp] theorem State.setCredit_basin (s : State) (n u k : Nat) (c : Int) : (s.setCredit n u k c).basin = s.basin := rfl
@[simp] theorem State.setCredit_island (s : State) (n u k : Nat) (c : Int) : (s.setCredit n u k c).island = s.island := rfl
@[simp] theorem State.setCredit_mail (s : State) (n u k : Nat) (c : Int) : (s.setCredit n u k c).mail = s.mail := rfl
@[simp] theorem State.setCredit_link (s : State) (n u k : Nat) (c : Int) : (s.setCredit n u k c).link = s.link := rfl
@[simp] theorem State.setCredit_power (s : State) (n u k : Nat) (c : Int) : (s.setCredit n u k c).power = s.power := rfl
@[simp] theorem State.setCredit_keeper (s : State) (n u k : Nat) (c : Int) : (s.setCredit n u k c).keeper = s.keeper := rfl
@[simp] theorem State.setCredit_stop (s : State) (n u k : Nat) (c : Int) : (s.setCredit n u k c).stop = s.stop := rfl
@[simp] theorem State.setCredit_pins (s : State) (n u k : Nat) (c : Int) : (s.setCredit n u k c).pins = s.pins := rfl
@[simp] theorem State.setCredit_onRc (s : State) (n u k : Nat) (c : Int) : (s.setCredit n u k c).onRc = s.onRc := rfl
@[simp] theorem State.setCredit_sealKeys (s : State) (n u k : Nat) (c : Int) : (s.setCredit n u k c).sealKeys = s.sealKeys := rfl
@[simp] theorem State.setCredit_modelKeys (s : State) (n u k : Nat) (c : Int) : (s.setCredit n u k c).modelKeys = s.modelKeys := rfl
@[simp] theorem State.setCredit_linkOut (s : State) (n u k : Nat) (c : Int) : (s.setCredit n u k c).linkOut = s.linkOut := rfl
@[simp] theorem State.setCredit_copies (s : State) (n u k : Nat) (c : Int) : (s.setCredit n u k c).copies = s.copies := rfl
@[simp] theorem State.setCredit_freeCtr (s : State) (n u k : Nat) (c : Int) : (s.setCredit n u k c).freeCtr = s.freeCtr := rfl
@[simp] theorem State.setCredit_pending (s : State) (n u k : Nat) (c : Int) : (s.setCredit n u k c).pending = s.pending := rfl
@[simp] theorem State.setCredit_get (s : State) (n u k : Nat) (c : Int) (g : Fld) : (s.setCredit n u k c).get g = s.get g := rfl
@[simp] theorem State.setCredit_dom (s : State) (n u k : Nat) (c : Int) (e : Nat) : (s.setCredit n u k c).dom e = s.dom e := rfl
@[simp] theorem State.setCredit_domLive (s : State) (n u k : Nat) (c : Int) (e : Nat) : (s.setCredit n u k c).domLive e = s.domLive e := rfl
@[simp] theorem State.setCredit_ctx (s : State) (n u k : Nat) (c : Int) (e : Nat) : (s.setCredit n u k c).ctx e = s.ctx e := rfl
@[simp] theorem State.setCredit_queue (s : State) (n u k : Nat) (c : Int) (e : Nat) : (s.setCredit n u k c).queue e = s.queue e := rfl
@[simp] theorem State.setCredit_tile (s : State) (n u k : Nat) (c : Int) (e : Nat) : (s.setCredit n u k c).tile e = s.tile e := rfl
@[simp] theorem State.setCredit_dtile (s : State) (n u k : Nat) (c : Int) (e : Nat) : (s.setCredit n u k c).dtile e = s.dtile e := rfl
@[simp] theorem State.setCredit_rail (s : State) (n u k : Nat) (c : Int) (e : Nat) : (s.setCredit n u k c).rail e = s.rail e := rfl
@[simp] theorem State.setCredit_clus (s : State) (n u k : Nat) (c : Int) (e : Nat) : (s.setCredit n u k c).clus e = s.clus e := rfl
@[simp] theorem State.setCredit_port (s : State) (n u k : Nat) (c : Int) (e : Nat) : (s.setCredit n u k c).port e = s.port e := rfl

/-! ## `State.setSram` -/

@[simp] theorem State.setSram_gtc (s : State) (m : Cells) : (s.setSram m).gtc = s.gtc := rfl
@[simp] theorem State.setSram_regs (s : State) (m : Cells) : (s.setSram m).regs = s.regs := rfl
@[simp] theorem State.setSram_mem (s : State) (m : Cells) : (s.setSram m).mem = s.mem := rfl
@[simp] theorem State.setSram_sealTag (s : State) (m : Cells) : (s.setSram m).sealTag = s.sealTag := rfl
@[simp] theorem State.setSram_fuses (s : State) (m : Cells) : (s.setSram m).fuses = s.fuses := rfl
@[simp] theorem State.setSram_doms (s : State) (m : Cells) : (s.setSram m).doms = s.doms := rfl
@[simp] theorem State.setSram_gates (s : State) (m : Cells) : (s.setSram m).gates = s.gates := rfl
@[simp] theorem State.setSram_flight (s : State) (m : Cells) : (s.setSram m).flight = s.flight := rfl
@[simp] theorem State.setSram_conc (s : State) (m : Cells) : (s.setSram m).conc = s.conc := rfl
@[simp] theorem State.setSram_mon (s : State) (m : Cells) : (s.setSram m).mon = s.mon := rfl
@[simp] theorem State.setSram_host (s : State) (m : Cells) : (s.setSram m).host = s.host := rfl
@[simp] theorem State.setSram_ctxs (s : State) (m : Cells) : (s.setSram m).ctxs = s.ctxs := rfl
@[simp] theorem State.setSram_groups (s : State) (m : Cells) : (s.setSram m).groups = s.groups := rfl
@[simp] theorem State.setSram_queues (s : State) (m : Cells) : (s.setSram m).queues = s.queues := rfl
@[simp] theorem State.setSram_waiters (s : State) (m : Cells) : (s.setSram m).waiters = s.waiters := rfl
@[simp] theorem State.setSram_disp (s : State) (m : Cells) : (s.setSram m).disp = s.disp := rfl
@[simp] theorem State.setSram_tiles (s : State) (m : Cells) : (s.setSram m).tiles = s.tiles := rfl
@[simp] theorem State.setSram_xlt (s : State) (m : Cells) : (s.setSram m).xlt = s.xlt := rfl
@[simp] theorem State.setSram_basin (s : State) (m : Cells) : (s.setSram m).basin = s.basin := rfl
@[simp] theorem State.setSram_mail (s : State) (m : Cells) : (s.setSram m).mail = s.mail := rfl
@[simp] theorem State.setSram_mesh (s : State) (m : Cells) : (s.setSram m).mesh = s.mesh := rfl
@[simp] theorem State.setSram_link (s : State) (m : Cells) : (s.setSram m).link = s.link := rfl
@[simp] theorem State.setSram_power (s : State) (m : Cells) : (s.setSram m).power = s.power := rfl
@[simp] theorem State.setSram_keeper (s : State) (m : Cells) : (s.setSram m).keeper = s.keeper := rfl
@[simp] theorem State.setSram_stop (s : State) (m : Cells) : (s.setSram m).stop = s.stop := rfl
@[simp] theorem State.setSram_pins (s : State) (m : Cells) : (s.setSram m).pins = s.pins := rfl
@[simp] theorem State.setSram_onRc (s : State) (m : Cells) : (s.setSram m).onRc = s.onRc := rfl
@[simp] theorem State.setSram_sealKeys (s : State) (m : Cells) : (s.setSram m).sealKeys = s.sealKeys := rfl
@[simp] theorem State.setSram_modelKeys (s : State) (m : Cells) : (s.setSram m).modelKeys = s.modelKeys := rfl
@[simp] theorem State.setSram_linkOut (s : State) (m : Cells) : (s.setSram m).linkOut = s.linkOut := rfl
@[simp] theorem State.setSram_copies (s : State) (m : Cells) : (s.setSram m).copies = s.copies := rfl
@[simp] theorem State.setSram_freeCtr (s : State) (m : Cells) : (s.setSram m).freeCtr = s.freeCtr := rfl
@[simp] theorem State.setSram_pending (s : State) (m : Cells) : (s.setSram m).pending = s.pending := rfl
@[simp] theorem State.setSram_get (s : State) (m : Cells) (g : Fld) : (s.setSram m).get g = s.get g := rfl
@[simp] theorem State.setSram_dom (s : State) (m : Cells) (e : Nat) : (s.setSram m).dom e = s.dom e := rfl
@[simp] theorem State.setSram_domLive (s : State) (m : Cells) (e : Nat) : (s.setSram m).domLive e = s.domLive e := rfl
@[simp] theorem State.setSram_ctx (s : State) (m : Cells) (e : Nat) : (s.setSram m).ctx e = s.ctx e := rfl
@[simp] theorem State.setSram_queue (s : State) (m : Cells) (e : Nat) : (s.setSram m).queue e = s.queue e := rfl
@[simp] theorem State.setSram_tile (s : State) (m : Cells) (e : Nat) : (s.setSram m).tile e = s.tile e := rfl
@[simp] theorem State.setSram_dtile (s : State) (m : Cells) (e : Nat) : (s.setSram m).dtile e = s.dtile e := rfl
@[simp] theorem State.setSram_rail (s : State) (m : Cells) (e : Nat) : (s.setSram m).rail e = s.rail e := rfl
@[simp] theorem State.setSram_clus (s : State) (m : Cells) (e : Nat) : (s.setSram m).clus e = s.clus e := rfl
@[simp] theorem State.setSram_port (s : State) (m : Cells) (e : Nat) : (s.setSram m).port e = s.port e := rfl

/-! ## What an update sets -/

theorem State.get_put (s : State) (f g : Fld) (v : Nat) :
    (s.put f v).get g = if g.key = f.key then v % f.size else s.get g := Tab.get_set g.reset s.regs f.key g.key _

@[simp] theorem State.get_put_self (s : State) (f : Fld) (v : Nat) : (s.put f v).get f = v % f.size := by
  rw [State.get_put]; exact if_pos rfl

@[simp] theorem State.get_put_ne (s : State) (f g : Fld) (v : Nat) (h : g.key ≠ f.key) : (s.put f v).get g = s.get g := by
  rw [State.get_put]; exact if_neg h

theorem State.dom_setDom (s : State) (d e : Nat) (x : Dom) : (s.setDom d x).dom e = if e = d then x else s.dom e :=
  Tab.get_set Dom.reset s.doms d e x

theorem State.ctx_setCtx (s : State) (c e : Nat) (x : Ctx) : (s.setCtx c x).ctx e = if e = c then x else s.ctx e :=
  Tab.get_set Ctx.reset s.ctxs c e x

theorem State.queue_setQueue (s : State) (q e : Nat) (x : Queue) :
    (s.setQueue q x).queue e = if e = q then x else s.queue e := Tab.get_set Queue.reset s.queues q e x

theorem State.dtile_setDtile (s : State) (n e : Nat) (x : DTile) :
    (s.setDtile n x).dtile e = if e = n then x else s.dtile e := Tab.get_set DTile.reset s.disp.tiles n e x

theorem State.rail_setRail (s : State) (r e : Nat) (x : Rail) : (s.setRail r x).rail e = if e = r then x else s.rail e :=
  Tab.get_set Rail.reset s.power.rails r e x

theorem State.clus_setClus (s : State) (c e : Nat) (x : Clus) : (s.setClus c x).clus e = if e = c then x else s.clus e :=
  Tab.get_set Clus.reset s.power.clus c e x

theorem State.port_setPort (s : State) (n e : Nat) (x : Port) : (s.setPort n x).port e = if e = n then x else s.port e :=
  Tab.get_set Port.reset s.link.ports n e x

@[simp] theorem State.enqueue_waiting (s : State) (h : Header) : (s.enqueue h).mesh.waiting = s.mesh.waiting ++ [h] := rfl

@[simp] theorem State.send_sent (s : State) (r : Report) : (s.send r).conc.sent = s.conc.sent ++ [r] := rfl

@[simp] theorem State.send_nextId (s : State) (r : Report) : (s.send r).conc.nextId = s.conc.nextId := rfl

/-! ## Commands of a unit whose domain is closed (R49) -/

theorem whenLive_open {d : Nat} {s : State} (f : State → Out) (h : s.domLive d = true) : whenLive d s f = f s := if_pos h

theorem whenLive_closed {d : Nat} {s : State} (f : State → Out) (h : s.domLive d = false) : whenLive d s f = .next s :=
  if_neg (by simp [h])

/-! ## A fault record (R671): it takes the next number, and beside the reports only WAT_STATUS can change -/

theorem State.hold_shape (s : State) (r : FaultRec) : ∃ c v, s.hold r = { s with conc := c, regs := v } ∧
    c.nextId = s.conc.nextId ∧ c.log = s.conc.log ∧ c.inbox = s.conc.inbox := by
  unfold State.hold
  repeat' split
  all_goals exact ⟨_, _, rfl, rfl, rfl, rfl⟩

theorem State.faultC_shape (s : State) (code unit src detail : Nat) (cid qid cause : Option Nat) :
    ∃ c v, s.faultC code unit src detail cid qid cause =
        { s with conc := c, regs := v, freeCtr := s.freeCtr + if detailOpen code then 1 else 0 } ∧
      c.nextId = s.conc.nextId + 1 ∧ c.log = s.conc.log ∧ c.inbox = s.conc.inbox := by
  have key : ∀ (s₀ : State) (r : FaultRec), s₀.conc.nextId = s.conc.nextId →
      s₀.conc.log = s.conc.log → s₀.conc.inbox = s.conc.inbox →
      ∃ c v, (let s₁ := { s₀ with conc := { s₀.conc with nextId := s₀.conc.nextId + 1 } }
        if s₁.domLive 1 then s₁.send (.fault r) else s₁.hold r) = { s₀ with conc := c, regs := v } ∧
      c.nextId = s.conc.nextId + 1 ∧ c.log = s.conc.log ∧ c.inbox = s.conc.inbox := by
    intro s₀ r h₁ h₂ h₃
    dsimp only
    split
    · exact ⟨_, _, rfl, by simp [h₁], h₂, h₃⟩
    · obtain ⟨c, v, e, g₁, g₂, g₃⟩ := State.hold_shape
        { s₀ with conc := { s₀.conc with nextId := s₀.conc.nextId + 1 } } r
      exact ⟨c, v, e, g₁.trans (by simp [h₁]), g₂.trans h₂, g₃.trans h₃⟩
  unfold State.faultC
  cases detailOpen code
  · exact key s _ rfl rfl rfl
  · exact key s.tookFree _ rfl rfl rfl

@[simp] theorem State.fault_nextId (s : State) (code unit src detail : Nat) :
    (s.fault code unit src detail).conc.nextId = s.conc.nextId + 1 := by
  obtain ⟨c, v, e, h, -⟩ := s.faultC_shape code unit src detail none none none
  rw [State.fault, e]; exact h

@[simp] theorem State.fault_gtc (s : State) (code unit src detail : Nat) :
    (s.fault code unit src detail).gtc = s.gtc := by
  obtain ⟨c, v, e, -⟩ := s.faultC_shape code unit src detail none none none; rw [State.fault, e]

@[simp] theorem State.fault_mem (s : State) (code unit src detail : Nat) :
    (s.fault code unit src detail).mem = s.mem := by
  obtain ⟨c, v, e, -⟩ := s.faultC_shape code unit src detail none none none; rw [State.fault, e]

@[simp] theorem State.fault_sealTag (s : State) (code unit src detail : Nat) :
    (s.fault code unit src detail).sealTag = s.sealTag := by
  obtain ⟨c, v, e, -⟩ := s.faultC_shape code unit src detail none none none; rw [State.fault, e]

@[simp] theorem State.fault_fuses (s : State) (code unit src detail : Nat) :
    (s.fault code unit src detail).fuses = s.fuses := by
  obtain ⟨c, v, e, -⟩ := s.faultC_shape code unit src detail none none none; rw [State.fault, e]

@[simp] theorem State.fault_doms (s : State) (code unit src detail : Nat) :
    (s.fault code unit src detail).doms = s.doms := by
  obtain ⟨c, v, e, -⟩ := s.faultC_shape code unit src detail none none none; rw [State.fault, e]

@[simp] theorem State.fault_gates (s : State) (code unit src detail : Nat) :
    (s.fault code unit src detail).gates = s.gates := by
  obtain ⟨c, v, e, -⟩ := s.faultC_shape code unit src detail none none none; rw [State.fault, e]

@[simp] theorem State.fault_flight (s : State) (code unit src detail : Nat) :
    (s.fault code unit src detail).flight = s.flight := by
  obtain ⟨c, v, e, -⟩ := s.faultC_shape code unit src detail none none none; rw [State.fault, e]

@[simp] theorem State.fault_mon (s : State) (code unit src detail : Nat) :
    (s.fault code unit src detail).mon = s.mon := by
  obtain ⟨c, v, e, -⟩ := s.faultC_shape code unit src detail none none none; rw [State.fault, e]

@[simp] theorem State.fault_host (s : State) (code unit src detail : Nat) :
    (s.fault code unit src detail).host = s.host := by
  obtain ⟨c, v, e, -⟩ := s.faultC_shape code unit src detail none none none; rw [State.fault, e]

@[simp] theorem State.fault_ctxs (s : State) (code unit src detail : Nat) :
    (s.fault code unit src detail).ctxs = s.ctxs := by
  obtain ⟨c, v, e, -⟩ := s.faultC_shape code unit src detail none none none; rw [State.fault, e]

@[simp] theorem State.fault_groups (s : State) (code unit src detail : Nat) :
    (s.fault code unit src detail).groups = s.groups := by
  obtain ⟨c, v, e, -⟩ := s.faultC_shape code unit src detail none none none; rw [State.fault, e]

@[simp] theorem State.fault_queues (s : State) (code unit src detail : Nat) :
    (s.fault code unit src detail).queues = s.queues := by
  obtain ⟨c, v, e, -⟩ := s.faultC_shape code unit src detail none none none; rw [State.fault, e]

@[simp] theorem State.fault_waiters (s : State) (code unit src detail : Nat) :
    (s.fault code unit src detail).waiters = s.waiters := by
  obtain ⟨c, v, e, -⟩ := s.faultC_shape code unit src detail none none none; rw [State.fault, e]

@[simp] theorem State.fault_disp (s : State) (code unit src detail : Nat) :
    (s.fault code unit src detail).disp = s.disp := by
  obtain ⟨c, v, e, -⟩ := s.faultC_shape code unit src detail none none none; rw [State.fault, e]

@[simp] theorem State.fault_tiles (s : State) (code unit src detail : Nat) :
    (s.fault code unit src detail).tiles = s.tiles := by
  obtain ⟨c, v, e, -⟩ := s.faultC_shape code unit src detail none none none; rw [State.fault, e]

@[simp] theorem State.fault_xlt (s : State) (code unit src detail : Nat) :
    (s.fault code unit src detail).xlt = s.xlt := by
  obtain ⟨c, v, e, -⟩ := s.faultC_shape code unit src detail none none none; rw [State.fault, e]

@[simp] theorem State.fault_basin (s : State) (code unit src detail : Nat) :
    (s.fault code unit src detail).basin = s.basin := by
  obtain ⟨c, v, e, -⟩ := s.faultC_shape code unit src detail none none none; rw [State.fault, e]

@[simp] theorem State.fault_island (s : State) (code unit src detail : Nat) :
    (s.fault code unit src detail).island = s.island := by
  obtain ⟨c, v, e, -⟩ := s.faultC_shape code unit src detail none none none; rw [State.fault, e]

@[simp] theorem State.fault_mail (s : State) (code unit src detail : Nat) :
    (s.fault code unit src detail).mail = s.mail := by
  obtain ⟨c, v, e, -⟩ := s.faultC_shape code unit src detail none none none; rw [State.fault, e]

@[simp] theorem State.fault_mesh (s : State) (code unit src detail : Nat) :
    (s.fault code unit src detail).mesh = s.mesh := by
  obtain ⟨c, v, e, -⟩ := s.faultC_shape code unit src detail none none none; rw [State.fault, e]

@[simp] theorem State.fault_link (s : State) (code unit src detail : Nat) :
    (s.fault code unit src detail).link = s.link := by
  obtain ⟨c, v, e, -⟩ := s.faultC_shape code unit src detail none none none; rw [State.fault, e]

@[simp] theorem State.fault_power (s : State) (code unit src detail : Nat) :
    (s.fault code unit src detail).power = s.power := by
  obtain ⟨c, v, e, -⟩ := s.faultC_shape code unit src detail none none none; rw [State.fault, e]

@[simp] theorem State.fault_keeper (s : State) (code unit src detail : Nat) :
    (s.fault code unit src detail).keeper = s.keeper := by
  obtain ⟨c, v, e, -⟩ := s.faultC_shape code unit src detail none none none; rw [State.fault, e]

@[simp] theorem State.fault_stop (s : State) (code unit src detail : Nat) :
    (s.fault code unit src detail).stop = s.stop := by
  obtain ⟨c, v, e, -⟩ := s.faultC_shape code unit src detail none none none; rw [State.fault, e]

@[simp] theorem State.fault_pins (s : State) (code unit src detail : Nat) :
    (s.fault code unit src detail).pins = s.pins := by
  obtain ⟨c, v, e, -⟩ := s.faultC_shape code unit src detail none none none; rw [State.fault, e]

@[simp] theorem State.fault_onRc (s : State) (code unit src detail : Nat) :
    (s.fault code unit src detail).onRc = s.onRc := by
  obtain ⟨c, v, e, -⟩ := s.faultC_shape code unit src detail none none none; rw [State.fault, e]

@[simp] theorem State.fault_sealKeys (s : State) (code unit src detail : Nat) :
    (s.fault code unit src detail).sealKeys = s.sealKeys := by
  obtain ⟨c, v, e, -⟩ := s.faultC_shape code unit src detail none none none; rw [State.fault, e]

@[simp] theorem State.fault_modelKeys (s : State) (code unit src detail : Nat) :
    (s.fault code unit src detail).modelKeys = s.modelKeys := by
  obtain ⟨c, v, e, -⟩ := s.faultC_shape code unit src detail none none none; rw [State.fault, e]

@[simp] theorem State.fault_linkOut (s : State) (code unit src detail : Nat) :
    (s.fault code unit src detail).linkOut = s.linkOut := by
  obtain ⟨c, v, e, -⟩ := s.faultC_shape code unit src detail none none none; rw [State.fault, e]

@[simp] theorem State.fault_copies (s : State) (code unit src detail : Nat) :
    (s.fault code unit src detail).copies = s.copies := by
  obtain ⟨c, v, e, -⟩ := s.faultC_shape code unit src detail none none none; rw [State.fault, e]

@[simp] theorem State.fault_pending (s : State) (code unit src detail : Nat) :
    (s.fault code unit src detail).pending = s.pending := by
  obtain ⟨c, v, e, -⟩ := s.faultC_shape code unit src detail none none none; rw [State.fault, e]

@[simp] theorem State.fault_freeCtr (s : State) (code unit src detail : Nat) :
    (s.fault code unit src detail).freeCtr = s.freeCtr + if detailOpen code then 1 else 0 := by
  obtain ⟨c, v, e, -⟩ := s.faultC_shape code unit src detail none none none; rw [State.fault, e]

end Sys2Proof.Machine
end

