-- ==== Sys2Proof/Laws/Memory.lean ====
section
/-! SUPPORT. What a write at a physical address does: it keeps every memory's canonical form, and changes no register. -/

namespace Sys2Proof.Machine

theorem State.rekeyLine_wf (s : State) (pa : Nat) (h : Memory.wf s.mem = true) : Memory.wf (s.rekeyLine pa).mem = true := by
  unfold State.rekeyLine
  by_cases e : Tab.get 0 s.sealTag (pa / 64) = s.lineKey pa
  · simp only [e, ↓reduceIte]; exact h
  · simp only [e, ↓reduceIte]
    generalize Config.recipher _ _ _ _ = v
    generalize pa / 64 * 64 = a
    exact Memory.wf_putLe s.mem a 64 v h

/-- A byte written at a physical address leaves all but the memory behind it: system memory with its seal tags, the basin
scratch, or the writes that leave for another die. -/
theorem State.physPut_shape (s : State) (pa : Nat) (b : Byte) : ∃ m t x l,
    s.physPut pa b = { s with mem := m, sealTag := t, basin := { s.basin with scratch := x }, linkOut := l } := by
  unfold State.physPut State.rekeyLine
  dsimp only
  repeat' split
  all_goals exact ⟨_, _, _, _, rfl⟩

theorem State.physPut_mem_wf (s : State) (pa : Nat) (b : Byte) (h : Memory.wf s.mem = true) :
    Memory.wf (s.physPut pa b).mem = true := by
  unfold State.physPut
  split
  · exact h
  · split
    · exact h
    · exact Memory.wf_put _ _ _ (s.rekeyLine_wf pa h)

theorem State.physPut_scratch_wf (s : State) (pa : Nat) (b : Byte) (h : Memory.wf s.basin.scratch = true) :
    Memory.wf (s.physPut pa b).basin.scratch = true := by
  unfold State.physPut
  split
  · exact h
  · split
    · exact Memory.wf_put _ _ _ h
    · unfold State.rekeyLine
      dsimp only
      split <;> exact h

theorem State.physPutList_mem_wf (bs : List Byte) : ∀ (s : State) (pa : Nat), Memory.wf s.mem = true →
    Memory.wf (s.physPutList pa bs).mem = true := by
  induction bs with
  | nil => intro s pa h; exact h
  | cons b bs ih => intro s pa h; exact ih _ _ (s.physPut_mem_wf pa b h)

theorem State.physPutList_scratch_wf (bs : List Byte) : ∀ (s : State) (pa : Nat), Memory.wf s.basin.scratch = true →
    Memory.wf (s.physPutList pa bs).basin.scratch = true := by
  induction bs with
  | nil => intro s pa h; exact h
  | cons b bs ih => intro s pa h; exact ih _ _ (s.physPut_scratch_wf pa b h)

@[simp] theorem State.physPut_tiles (s : State) (pa : Nat) (b : Byte) : (s.physPut pa b).tiles = s.tiles := by
  obtain ⟨m, t, x, l, e⟩ := s.physPut_shape pa b; rw [e]

@[simp] theorem State.physPut_regs (s : State) (pa : Nat) (b : Byte) : (s.physPut pa b).regs = s.regs := by
  obtain ⟨m, t, x, l, e⟩ := s.physPut_shape pa b; rw [e]

@[simp] theorem State.physPut_conc (s : State) (pa : Nat) (b : Byte) : (s.physPut pa b).conc = s.conc := by
  obtain ⟨m, t, x, l, e⟩ := s.physPut_shape pa b; rw [e]

@[simp] theorem State.physPut_pending (s : State) (pa : Nat) (b : Byte) : (s.physPut pa b).pending = s.pending := by
  obtain ⟨m, t, x, l, e⟩ := s.physPut_shape pa b; rw [e]

end Sys2Proof.Machine
end

