-- ==== Sys2Proof/Laws/Tile.lean ====
section
/-! SUPPORT. Laws of tiles: register files and the store read after write, and what the issue of one instruction does. -/

namespace Sys2Proof.Machine

/-! ## Tiles of the state -/

@[simp] theorem State.tile_setTile (s : State) (n k : Nat) (t : Tile) :
    (s.setTile n t).tile k = if k = n then t else s.tile k := Tab.get_set _ _ _ _ _

@[simp] theorem State.tile_updTile_self (s : State) (n : Nat) (f : Tile → Tile) :
    (s.updTile n f).tile n = f (s.tile n) := by simp [State.updTile]

theorem State.tile_updTile_ne (s : State) (n k : Nat) (f : Tile → Tile) (h : k ≠ n) :
    (s.updTile n f).tile k = s.tile k := by simp [State.updTile, h]

/-- A change of one tile leaves the rest of the state. -/
theorem State.updTile_rest (s : State) (n : Nat) (f : Tile → Tile) (l : Tab Tile) :
    { s.updTile n f with tiles := l } = { s with tiles := l } := rfl

theorem OnlyCore.refl (s : State) (c : Nat) : OnlyCore s s c := ⟨rfl, fun _ _ => rfl⟩

theorem OnlyCore.trans {s t r : State} {c : Nat} (h : OnlyCore s t c) (g : OnlyCore t r c) : OnlyCore s r c := by
  refine ⟨?_, fun k hk => (g.2 k hk).trans (h.2 k hk)⟩
  have h1 := h.1
  have g1 := g.1
  rw [← h1, ← g1]

theorem OnlyCore.upd (s : State) (c : Nat) (f : Tile → Tile) : OnlyCore s (s.updTile c f) c :=
  ⟨rfl, fun k hk => s.tile_updTile_ne c k f hk⟩

/-! ## Registers -/

theorem Tile.sreg_setS (t : Tile) (k j : Nat) (v : Word) :
    (t.setS k v).sreg j = if j = 0 then 0 else if j = k then v else t.sreg j := by
  by_cases hk : k = 0
  · subst hk
    by_cases hj : j = 0
    · simp [Tile.sreg, hj]
    · simp [Tile.setS, hj]
  · by_cases hj : j = 0
    · simp [Tile.sreg, hj]
    · simp [Tile.setS, Tile.sreg, hk, hj, Tab.get_set]

@[simp] theorem Tile.areg_setA (t : Tile) (k j : Nat) (v : DWord) :
    (t.setA k v).areg j = if j = k then v else t.areg j := Tab.get_set _ _ _ _ _

@[simp] theorem Tile.treg_setT (t : Tile) (k j : Nat) (v : BitVec 256) :
    (t.setT k v).treg j = if j = k then v else t.treg j := Tab.get_set _ _ _ _ _

theorem Tile.preg_setP (t : Tile) (k j : Nat) (v : DWord) :
    (t.setP k v).preg j = if j = 0 then BitVec.allOnes 64 else if j = k then v else t.preg j := by
  by_cases hk : k = 0
  · subst hk
    by_cases hj : j = 0
    · simp [Tile.preg, hj]
    · simp [Tile.setP, hj]
  · by_cases hj : j = 0
    · simp [Tile.preg, hj]
    · simp [Tile.setP, Tile.preg, hk, hj, Tab.get_set]

@[simp] theorem Tile.sreg_bare (t : Tile) (k : Nat) : t.bare.sreg k = t.sreg k := rfl
@[simp] theorem Tile.areg_bare (t : Tile) (k : Nat) : t.bare.areg k = t.areg k := rfl
@[simp] theorem Tile.treg_bare (t : Tile) (k : Nat) : t.bare.treg k = t.treg k := rfl

theorem Tile.sreg_of_bare {x y : Tile} (h : x.bare = y.bare) (k : Nat) : x.sreg k = y.sreg k := by
  rw [← Tile.sreg_bare, h, Tile.sreg_bare]

theorem OnlyS.set (t : Tile) (k : Nat) (v : Word) : OnlyS t (t.setS k v) k := by
  constructor
  · unfold Tile.setS; split <;> rfl
  · intro j hj
    rw [Tile.sreg_setS]
    by_cases h0 : j = 0
    · simp [h0, Tile.sreg]
    · simp [h0, hj]

theorem OnlyA.set (t : Tile) (k : Nat) (v : DWord) : OnlyA t (t.setA k v) k :=
  ⟨rfl, fun j hj => by simp [hj]⟩

theorem OnlyT.set (t : Tile) (k : Nat) (v : BitVec 256) : OnlyT t (t.setT k v) k :=
  ⟨rfl, fun j hj => by simp [hj]⟩

/-! ## Issue -/

theorem Tile.closeLoops_bare (next : Nat) : ∀ (n : Nat) (t : Tile), (Tile.closeLoops next n t).bare = t.bare := by
  intro n
  induction n with
  | zero => intro t; rfl
  | succ n ih =>
    intro t
    simp only [Tile.closeLoops]
    split
    · rfl
    · split
      · rfl
      · split
        · rfl
        · rw [ih]; rfl

/-- Outside a loop that ends here, control goes on at the next instruction. -/
theorem Tile.closeLoops_depth0 (next n : Nat) (t : Tile) (h : t.depth = 0) : (Tile.closeLoops next n t).pc = next := by
  cases n with
  | zero => rfl
  | succ n => simp [Tile.closeLoops, h]

/-- A tile that is not stepped goes on. -/
theorem State.stepped_of_not (s : State) (c : Nat) (h : (s.tile c).stepping = false) : s.stepped c = s := by
  simp [State.stepped, h]

theorem Tile.touch_bare (ls : List ILine) : ∀ x : Tile, (ls.foldl Tile.touchLine x).bare = x.bare := by
  induction ls with
  | nil => intro x; rfl
  | cons l ls ih =>
    intro x
    rw [List.foldl_cons, ih]
    unfold Tile.touchLine
    split <;> rfl

theorem Tile.issued_bare (x : Tile) (c : Nat) (ext : Bool) : (x.issued c ext).bare = x.bare := by
  unfold Tile.issued
  split
  · rfl
  · exact Tile.touch_bare _ x

theorem State.issued_only (s : State) (c : Nat) (ext : Bool) : OnlyCore s (s.issued c ext) c := by
  unfold State.issued
  split
  · exact OnlyCore.refl s c
  · exact OnlyCore.upd s c _

theorem State.issued_tile (s : State) (c : Nat) (ext : Bool) : ((s.issued c ext).tile c).bare = (s.tile c).bare := by
  unfold State.issued
  split
  · rfl
  · simp [Tile.issued_bare]

/-- An instruction of a core that issues has its effect. -/
theorem State.issue_eq (s : State) (c : Nat) (ext : Bool) (fx : State → Fx) (h : s.canIssue c ext = true) :
    s.issue c ext fx = settleFx c ext (fx (s.issued c ext)) := by
  unfold State.canIssue at h
  unfold State.issue State.issued
  by_cases hc : c = isleCore
  · simp only [hc, ↓reduceIte, Bool.and_eq_true, decide_eq_true_eq] at h ⊢
    have h1 : ¬(sramData < (s.tile isleCore).pc + wordsLen ext) := by omega
    simp [h.1.1, h1]
  · simp only [hc, ↓reduceIte, Bool.and_eq_true, decide_eq_true_eq, Bool.not_eq_true', beq_iff_eq] at h ⊢
    obtain ⟨⟨⟨⟨⟨⟨⟨⟨h1, h2⟩, h3⟩, h4⟩, h5⟩, h6⟩, hst⟩, h7⟩, h8⟩ := h
    have h9 : ¬((s.tile c).progSize ≤ (s.tile c).pc + 4 * b2n ext) := by omega
    have h10 : (((s.tile c).fetchLines ext).find? fun l => !((s.tile c).istore.contains l)) = none := by
      rw [List.find?_eq_none]
      intro l hl
      have := List.all_eq_true.1 h8 l hl
      rw [this]
      decide
    have h11 : ¬((s.tile c).task.isNone = true) := by
      cases ht : (s.tile c).task <;> simp_all
    simp only [h11, h2, h3, h4, h5, h6, hst, h9, h10]
    simp [Tile.issued, hc]

theorem State.stepping_issued (s : State) (c : Nat) (ext : Bool) (h : s.canIssue c ext = true) :
    ((s.issued c ext).tile c).stepping = false := by
  have hb := congrArg Tile.stepping (s.issued_tile c ext)
  have hs : ((s.issued c ext).tile c).stepping = (s.tile c).stepping := hb
  rw [hs]
  unfold State.canIssue at h
  by_cases hc : c = isleCore
  · simp only [hc, ↓reduceIte, Bool.and_eq_true, Bool.not_eq_true'] at h ⊢
    exact h.2
  · simp only [hc, ↓reduceIte, Bool.and_eq_true, Bool.not_eq_true'] at h
    exact h.1.1.1.1.2

/-- An instruction that completes moves on to the next. -/
theorem settle_done (t : State) (c : Nat) (ext : Bool) (h : (t.tile c).stepping = false) :
    settleFx c ext (.done t) = t.updTile c fun x => x.closeLoops ((x.pc + wordsLen ext) % 2 ^ 32) 4 := by
  have hs : ∀ x : Tile, x.stepping = x.bare.stepping := fun _ => rfl
  simp only [settleFx, State.complete]
  apply State.stepped_of_not
  simp only [State.tile_updTile_self]
  rw [hs, Tile.closeLoops_bare, ← hs, h]

/-- Interlocks look at nothing that issue changes. -/
theorem Tile.blocked_of_bare {x y : Tile} (h : x.bare = y.bare) (ranges : List (Nat × Nat)) (regs : List Nat) :
    x.blocked ranges regs = y.blocked ranges regs := by
  have hu : ∀ z : Tile, z.units = z.bare.units := fun _ => rfl
  unfold Tile.blocked
  rw [hu x, h, ← hu y]

/-- What an instruction that only computes a scalar does, once it may issue and nothing it reads is blocked: it writes `rd`
with the value (s0 stays 0), and of the tile nothing else changes but issue and control flow. -/
theorem State.issue_setS (s : State) (c : Nat) (ext : Bool) (rd : Nat) (regs : List Nat) (es : List (Option Exc)) (g : Tile → Word)
    (hi : s.canIssue c ext = true) (hb : (s.tile c).blocked [] regs = false) (he : firstExc es = none)
    (hg : ∀ x y : Tile, x.bare = y.bare → g x = g y) :
    ∃ t, s.issue c ext (fun s => s.checked c regs [] es fun s => .done (s.updTile c fun t => t.setS rd (g t))) = t ∧
      OnlyCore s t c ∧ OnlyS (s.tile c) (t.tile c) rd ∧ (t.tile c).sreg rd = if rd = 0 then 0 else g (s.tile c) := by
  refine ⟨_, rfl, ?_⟩
  rw [State.issue_eq s c ext _ hi]
  unfold State.checked
  rw [Tile.blocked_of_bare (s.issued_tile c ext), hb]
  simp only [he, Bool.false_eq_true, ↓reduceIte]
  have hst := State.stepping_issued s c ext hi
  rw [settle_done _ c ext (by simp only [State.tile_updTile_self]; unfold Tile.setS; split <;> exact hst)]
  have hbare : ((((s.issued c ext).updTile c fun t => t.setS rd (g t)).updTile c fun x => x.closeLoops ((x.pc + wordsLen ext) % 2 ^ 32) 4).tile c).bare
      = (((s.issued c ext).tile c).setS rd (g ((s.issued c ext).tile c))).bare := by
    simp only [State.tile_updTile_self, Tile.closeLoops_bare]
  have hgg := hg _ _ (s.issued_tile c ext)
  refine ⟨(s.issued_only c ext).trans ((OnlyCore.upd _ c _).trans (OnlyCore.upd _ c _)), ?_, ?_⟩
  · have h1 := OnlyS.set ((s.issued c ext).tile c) rd (g ((s.issued c ext).tile c))
    constructor
    · rw [hbare]
      have h2 := h1.1
      have h3 : ((s.issued c ext).tile c).s = (s.tile c).s := by
        have h := congrArg (fun z : Tile => z.s) (s.issued_tile c ext)
        exact h
      rw [h3, s.issued_tile] at h2
      exact h2
    · intro k hk
      rw [Tile.sreg_of_bare hbare, h1.2 k hk, Tile.sreg_of_bare (s.issued_tile c ext)]
  · rw [Tile.sreg_of_bare hbare, Tile.sreg_setS, hgg]
    split <;> simp

end Sys2Proof.Machine
end

