-- ==== Sys2Proof/Tests/Slice0.lean ====
section
/-! SUPPORT. Tests: the well-formedness checks refuse an ill-formed command each, single steps against worked examples and
tables of the spec, and, per obligation with hypotheses, a witness: concrete states and operands that meet them together,
clause by clause. -/

namespace Sys2Proof.Tests
set_option Elab.async false
open Sys2Proof Sys2Proof.Machine

/-! ## States and small facts that the tests share -/

def openDoms : Tab Dom := (List.range 28).map fun d => (d, { Dom.reset with st := .opened })
def iline (o : Nat) : ILine := ⟨5, 9, 1, o⟩
/-- a tile in the middle of a task, its program held -/
def busyTile : Tile :=
  { Tile.reset with
    core := .running, task := some (3, 7, 0), cid := 5, progEntry := 9, progGen := 1, progVa := 0x200000,
    progSize := 0x4000, istore := (List.range 8).map fun k => iline (256 * k), pc := 0x40,
    s := [(1, 0x12345678), (2, 0x80000000), (3, 0xFFFFFFFF), (4, 7), (5, 0x100), (6, 33)],
    a := [(1, 0x300000), (2, 0xFFFFFFFFFFFFFFF8)], t := [(1, 0x1234567890ABCDEF1234567890ABCDEF)],
    v := (List.range 256).map fun k => (k, BitVec.ofNat 32 (k * 0x9E3779B1)), p := [(1, 0xAAAA5555F0F00F0F), (2, 0xFF)],
    store := [(0x100, 1), (0x101, 2), (0x103, 0x80), (0x140, 0xFF)], written := [(4, true), (5, true)] }
def w00 : State :=
  ({ State.reset with
     doms := openDoms, onRc := false, gtc := 1000000,
     tiles := [(0, busyTile), (1, busyTile), (64, { busyTile with task := none })],
     pins := { Pins.reset with resetN := true },
     disp := { Disp.reset with on := true } }.put Reg.ENG_STATE_STATE 1).put Reg.WAT_STATUS_PROG_STATE 1

def putAll (s : State) (l : List (Fld × Nat)) : State := l.foldl (fun s e => s.put e.1 e.2) s
def ctx5 : Ctx := { Ctx.reset with st := .opened, pid := 2, segments := true, lossVec := 40, closeVec := 41, vecBase := 48, vecCount := 16 }
def w0 : State :=
  putAll { w00 with
    ctxs := [(5, ctx5)], groups := [(0, some 5)],
    mem := (List.range 64).map fun k => (0x300000 + k, BitVec.ofNat 8 (k * 37 + 1)) }
   [(Reg.OBJ_PART_CFG_VALID 2, 1), (Reg.OBJ_PART_CFG_CLUSTERS 2, 3), (Reg.XLT_SEG_V_VALID 16, 1), (Reg.XLT_SEG_V_R 16, 1),
       (Reg.XLT_SEG_V_W 16, 1),
    (Reg.XLT_SEG_V_A 16, 1), (Reg.XLT_SEG_V_VBASE 16, 0), (Reg.XLT_SEG_P_PBASE 16, 0), (Reg.XLT_SEG_P_SIZE 16, 0x1000),
    (Reg.OBJ_PART_CFG_CTX_LIMIT 2, 8)]
def upT (s : State) (c : Nat) (f : Tile → Tile) : State := s.updTile c f

def h0 : Header := ⟨0, 0, false, 1, 2, 0, 5, 0, false, false, 0, 0, 0, false, 0, 1, false, 0, 0, 0, 0, 0, 0, 0, 0, false, 0,
    0, 0, 0, 0, 0, 0, 0, 0⟩

def mkDesc (base fmt d0 d1 d2 d3 st1 st2 st3 : Nat) : BitVec 256 :=
  BitVec.ofNat 256 (base + fmt * 2 ^ 20 + (d0 - 1) * 2 ^ 64 + (d1 - 1) * 2 ^ 80 + (d2 - 1) * 2 ^ 96 + (d3 - 1) * 2 ^ 112 + st1 * 2 ^ 128 + st2 * 2 ^ 148 + st3 * 2 ^ 168)

def nth (l : List State) (k : Nat) : State := l.getD k State.reset

theorem ok_ex {α : Type} {e : Xres α} (h : (match e with | .ok _ => true | .err _ => false) = true) : ∃ x, e = .ok x := by
  cases e with
  | ok x => exact ⟨x, rfl⟩
  | err x => cases h

theorem some_ex {α : Type} {e : Option α} (h : e.isSome = true) : ∃ x, e = some x := Option.isSome_iff_exists.mp h

theorem next_ex {o : Host.Outcome State Fault Refusal} (h : (match o with | .next _ => true | _ => false) = true) :
    ∃ t, o = .next t := by
  cases o with
  | next t => exact ⟨t, rfl⟩
  | fault r => cases h
  | refused r => cases h

theorem except_ok {ε α : Type} {e : Except ε α} {x : α} (h : e.toOption = some x) : e = .ok x := by
  cases e with
  | ok y => cases h; rfl
  | error y => cases h

theorem next_and {o : Host.Outcome State Fault Refusal} {P : State → Prop} (p : State → Bool)
    (h : (match o with | .next t => p t | _ => false) = true) (hp : ∀ t, p t = true → P t) : ∃ t, o = .next t ∧ P t := by
  cases o with
  | next t => exact ⟨t, rfl, hp t h⟩
  | fault r => cases h
  | refused r => cases h

def okOr {α : Type} (d : α) : Xres α → α
  | .ok x => x
  | .err _ => d

theorem ok_is {α : Type} (d : α) {e : Xres α} (h : (match e with | .ok _ => true | .err _ => false) = true) :
    e = .ok (okOr d e) := by
  cases e with
  | ok x => rfl
  | err x => cases h

theorem fst_is {α β : Type} {f : α × β} {y : β} (h : f.2 = y) : f = (f.1, y) := by rw [← h]

/-! ## Well-formedness -/

theorem test_wf_unit : WellFormed (.cvt 65 0 0 0 0 0 false false false 0 []) = false ∧
    WellFormed (.cvt 64 0 0 0 0 0 false false false 0 []) = true := by decide
theorem test_wf_domain : WellFormed (.domainOpen 28) = false ∧ WellFormed (.domainOpen 27) = true := by decide
theorem test_wf_access : WellFormed (.registerWrite 2 4 0) = false ∧ WellFormed (.registerWrite 4 8 0) = false ∧
    WellFormed (.registerWrite 0 2 0) = false ∧ WellFormed (.registerWrite 4 4 0) = true := by decide
theorem test_wf_mgmt : WellFormed (.read32 0x4000000 5) = false ∧ WellFormed (.write32 0 8 0) = false ∧
    WellFormed (.write32 0x3FFFFFC 9 0) = true := by decide
theorem test_wf_port : WellFormed (.trainingRetry 6) = false ∧ WellFormed (.trainingRetry 5) = true := by decide
theorem test_wf_stop : WellFormed (.zlRoute 6 h0) = false ∧ WellFormed (.zlRoute 5 h0) = true := by decide
theorem test_wf_rail : WellFormed (.ceilClear 20 0) = false ∧ WellFormed (.ceilClear 19 0) = true := by decide
theorem test_wf_sensor : WellFormed (.thermalTrip 17) = false ∧ WellFormed (.thermalTrip 16) = true := by decide

/-! ## Worked examples of the spec -/

/-- Chapter 7: EXT before an ADDI, then TLD, MMA and CVT; a word that is all zero is illegal, and so is EXT before END. -/
theorem test_words : pairName 0xFC000001 0x08808000 = some "ADDI" ∧ pairName 0x60040000 0 = some "TLD" ∧
    pairName 0x80090001 0 = some "MMA" ∧ pairName 0x84180010 0 = some "CVT" ∧ pairName 0x80A28001 0 = some "MMA" ∧
    pairName 0 0 = none ∧ pairName 0xFC000001 0xF0000000 = none := by decide
/-- Chapter 8: the words of the load and store loop. -/
theorem test_loop_words : [0x08A00008, 0x5CA00006, 0xE0000002, 0xC0440000, 0xC0840011, 0x20211000, 0xF0000000].map
      (fun w => pairName (BitVec.ofNat 32 w) 0) =
    [some "ADDI", some "LOOP", some "WAIT_BARGE", some "XFER", some "XFER", some "ADDA", some "END"] := by decide
/-- Chapter 10: CVT of 464.0 to E4M3 under RNE rounds the tie to 448. -/
theorem test_e4m3_tie : toElem .e4m3 .near 0 false false Post.none_ (f32 0x43E80000) =
    ⟨0x7E, false, false, false, false⟩ := by decide +kernel
/-- Chapter 10: 465.0 is clipped; SAT writes 0x7E, IEEE 0x7F, a NaN produced. -/
theorem test_e4m3_over : toElem .e4m3 .near 0 false false Post.none_ (f32 0x43E88000) =
    ⟨0x7E, true, false, false, false⟩ ∧
    toElem .e4m3 .near 0 true false Post.none_ (f32 0x43E88000) = ⟨0x7F, true, false, true, true⟩ := by decide +kernel
/-- Chapter 10: the three requantised elements, a product scaled by 2^-31, zero-point 3, clamp 3 to 255. -/
theorem test_requantise : toElem .uint8 .near 0 false false ⟨3, true, 3, 255⟩ (.fin false 291089961015 (-31)) =
      ⟨0x8B, false, false, false, false⟩ ∧
    toElem .uint8 .near 0 false false ⟨3, true, 3, 255⟩ (.fin false 565131780000 (-31)) =
      ⟨0xFF, true, false, false, false⟩ ∧
    toElem .uint8 .near 0 false false ⟨3, true, 3, 255⟩ (.fin true 6593204100 (-31)) =
      ⟨0x03, false, false, false, false⟩ := by decide +kernel
/-- Chapter 12: T9's stop, in CL2 at (3, 1), to MP1 at (0, 2) and back. -/
theorem test_routes : defaultRoute 9 12 = (4, 0xBF) ∧ defaultRoute 12 9 = (4, 0x54) := by decide
/-- Chapter 13: the die ID of a physical address. -/
theorem test_die : paDie 0x6280020001000 = 0x0C5 := by decide
/-- Chapter 17: MON_SLOT3_CFG = 0x9002_03E8_0000_0085 has EN 1, KIND 1, SHIFT 2, WINDOW_MS 1,000 and SUBJECT 0x0085. -/
theorem test_slot_fields : (match exec (.registerWrite (BitVec.ofNat 26 (Reg.MON_SLOT_CFG 3)) 8 0x900203E800000085) w0 with
    | .next t => [t.get (Reg.MON_SLOT_CFG_EN 3), t.get (Reg.MON_SLOT_CFG_KIND 3), t.get (Reg.MON_SLOT_CFG_SHIFT 3),
        t.get (Reg.MON_SLOT_CFG_WINDOW_MS 3), t.get (Reg.MON_SLOT_CFG_SUBJECT 3)]
    | _ => []) = [1, 1, 2, 1000, 0x85] := by decide +kernel

/-! ## Witnesses -/

namespace W01

def sts : List State := [w0]

/-- Obligations.ScalarRegisterForms: states and operands that meet its hypotheses, clause by clause. -/
theorem wit_ScalarRegisterForms :
    ∃ (s : State) (u : BitVec 7) (rd : BitVec 5) (rs1 : BitVec 5) (rs2 : BitVec 5), s.canIssue (coreOf u) false = true ∧
    (s.tile (coreOf u)).blocked [] [rS rd.toNat, rS rs1.toNat, rS rs2.toNat] = false ∧ rs2 = 0 :=
  ⟨(nth sts 0), 0x7c, 0x1d, 1, 0, by decide +kernel⟩

end W01

namespace W02

def sts : List State := [w0]

/-- Obligations.AddressAndDescriptorForms: states and operands that meet its hypotheses, clause by clause. -/
theorem wit_AddressAndDescriptorForms :
    (∃ (s : State) (u : BitVec 7) (rd : BitVec 5) (rs1 : BitVec 5), s.canIssue (coreOf u) false = true ∧ (s.tile (coreOf
    u)).units = [] ∧ aOk (coreOf u) rd.toNat = true ∧ aOk (coreOf u) rs1.toNat = true) ∧
    (∃ (s : State) (u : BitVec 7) (rd : BitVec 5) (rs1 : BitVec 5), s.canIssue (coreOf u) false = true ∧ (s.tile (coreOf
    u)).units = [] ∧ tOk (coreOf u) rd.toNat = true ∧ tOk (coreOf u) rs1.toNat = true) ∧
    (∃ (s : State) (u : BitVec 7) (rd : BitVec 5) (f : BitVec 5) (lo : Nat) (w : Nat), s.canIssue (coreOf u) false = true ∧
    (s.tile (coreOf u)).units = [] ∧ tOk (coreOf u) rd.toNat = true ∧ descField f.toNat = some (lo, w)) ∧
    (∃ (s : State) (u : BitVec 7) (rs1 : BitVec 5) (f : BitVec 5) (lo : Nat) (w : Nat), s.canIssue (coreOf u) false = true ∧
    (s.tile (coreOf u)).units = [] ∧ tOk (coreOf u) rs1.toNat = true ∧ descField f.toNat = some (lo, w)) :=
  ⟨⟨(nth sts 0), 0x7f, 3, 3, by decide +kernel⟩,
    ⟨(nth sts 0), 0x7f, 3, 3, by decide +kernel⟩,
    ⟨(nth sts 0), 0x78, 1, 9, 148, 20, by decide +kernel⟩,
    ⟨(nth sts 0), 0x78, 0, 0xa, 168, 20, by decide +kernel⟩⟩

end W02

namespace W03

def sts : List State := [w0]

/-- Obligations.ImmediateForms: states and operands that meet its hypotheses, clause by clause. -/
theorem wit_ImmediateForms :
    ∃ (s : State) (u : BitVec 7) (rd : BitVec 5) (rs1 : BitVec 5) (ext : Option (BitVec 26)), s.canIssue (coreOf u)
    ext.isSome = true ∧ (s.tile (coreOf u)).units = [] ∧ aOk (coreOf u) rd.toNat = true ∧ aOk (coreOf u) rs1.toNat = true :=
  ⟨(nth sts 0), 0x7f, 3, 3, none, by decide +kernel⟩

end W03

namespace W04

def sts : List State := [upT w0 0 fun x => { x with s := [(1, 0x100), (2, 32)], store := [(0x100, 1), (0x101, 2), (0x103, 0x80), (0x140, 0xFF), (64,7),(65,8),(0,3),(31,5)], written := [(4,true),(1,true),(0,true)] },
    
   upT (upT w0 0 fun x => { x with s := [(1, 0x40)], trapUnwritten := true, written := [(1,true)] }) 1 fun x => {x with trapUnwritten := false}]

/-- Obligations.TileStoreLoads: states and operands that meet its hypotheses, clause by clause. -/
theorem wit_TileStoreLoads :
    (∃ (s : State) (u : BitVec 7) (rs1 : BitVec 5) (off : BitVec 14) (ext : Option (BitVec 26)) (a : Nat) (hits : List
    TileHit), coreOf u ≠ isleCore ∧ s.canIssue (coreOf u) ext.isSome = true ∧ (s.tile (coreOf u)).units = [] ∧ scalarAddr
    (s.tile (coreOf u)) rs1.toNat off ext = ↑a ∧ a % 4 = 0 ∧ a + 4 ≤ 2 ^ 20 ∧ ((s.tile (coreOf u)).unwrittenIn [(a, 4)] = []
    ∨ (s.tile (coreOf u)).trapUnwritten = false) ∧ eccMild [(a, 4)] hits = true) ∧
    (∃ (s : State) (u : BitVec 7) (rs1 : BitVec 5) (off : BitVec 14) (ext : Option (BitVec 26)) (a : Nat) (hits : List
    TileHit), coreOf u ≠ isleCore ∧ s.canIssue (coreOf u) ext.isSome = true ∧ (s.tile (coreOf u)).units = [] ∧ scalarAddr
    (s.tile (coreOf u)) rs1.toNat off ext = ↑a ∧ a < 2 ^ 20 ∧ ((s.tile (coreOf u)).unwrittenIn [(a, 1)] = [] ∨ (s.tile
    (coreOf u)).trapUnwritten = false) ∧ eccMild [(a, 1)] hits = true) ∧
    (∃ (s : State) (u : BitVec 7) (rd : BitVec 5) (rs1 : BitVec 5) (imm : BitVec 15) (ext : Option (BitVec 26)) (a : Nat)
    (hits : List TileHit), coreOf u ≠ isleCore ∧ s.canIssue (coreOf u) ext.isSome = true ∧ (s.tile (coreOf u)).units = [] ∧
    descAddr (s.tile (coreOf u)) rs1.toNat imm ext = ↑a ∧ BitVec.extractLsb' 0 4 imm = 0 ∧ tOk (coreOf u) rd.toNat = true ∧
    a % 32 = 0 ∧ a + 32 ≤ 2 ^ 20 ∧ ((s.tile (coreOf u)).unwrittenIn [(a, 32)] = [] ∨ (s.tile (coreOf u)).trapUnwritten =
    false) ∧ eccMild [(a, 32)] hits = true) :=
  ⟨⟨(nth sts 0), 0, 0x16, 0x40, none, 256, [⟨0xb984, false⟩, ⟨0, false⟩], by decide +kernel⟩,
    ⟨(nth sts 1), 1, 0x1d, 0x40, none, 256, [], by decide +kernel⟩,
    ⟨(nth sts 0), 0, 8, 0x10, 0x80, none, 256, [⟨0x20, false⟩], by decide +kernel⟩⟩

end W04

namespace W05

def sts : List State := [upT w0 0 fun x => { x with s := [(1, 0x100), (2, 32)], store := [(0x100, 1), (0x101, 2), (0x103, 0x80), (0x140, 0xFF), (64,7),(65,8),(0,3),(31,5)], written := [(4,true),(1,true),(0,true)] },
    
   upT (upT w0 0 fun x => { x with s := [(1, 0x40)], trapUnwritten := true, written := [(1,true)] }) 1 fun x => {x with trapUnwritten := false}]

/-- Obligations.TileStoreStores: states and operands that meet its hypotheses, clause by clause. -/
theorem wit_TileStoreStores :
    (∃ (s : State) (u : BitVec 7) (rs1 : BitVec 5) (off : BitVec 14) (ext : Option (BitVec 26)) (a : Nat) (hits : List
    TileHit), coreOf u ≠ isleCore ∧ s.canIssue (coreOf u) ext.isSome = true ∧ (s.tile (coreOf u)).units = [] ∧ Memory.wf
    (s.tile (coreOf u)).store = true ∧ scalarAddr (s.tile (coreOf u)) rs1.toNat off ext = ↑a ∧ a % 4 = 0 ∧ a + 4 ≤ 2 ^ 20 ∧
    eccMild [(a, 4)] hits = true) ∧
    (∃ (s : State) (u : BitVec 7) (rs1 : BitVec 5) (off : BitVec 14) (ext : Option (BitVec 26)) (a : Nat), coreOf u ≠
    isleCore ∧ s.canIssue (coreOf u) ext.isSome = true ∧ (s.tile (coreOf u)).units = [] ∧ Memory.wf (s.tile (coreOf
    u)).store = true ∧ scalarAddr (s.tile (coreOf u)) rs1.toNat off ext = ↑a ∧ a % 4 = 0 ∧ a + 4 ≤ 2 ^ 20 ∧ (s.ctx (s.tile
    (coreOf u)).cid).st = CtxSt.opened ∧ (s.tile (coreOf u)).isWritten (a / 64) = true) ∧
    (∃ (s : State) (u : BitVec 7) (rs1 : BitVec 5) (off : BitVec 14) (ext : Option (BitVec 26)) (a : Nat) (hits : List
    TileHit), coreOf u ≠ isleCore ∧ s.canIssue (coreOf u) ext.isSome = true ∧ (s.tile (coreOf u)).units = [] ∧ Memory.wf
    (s.tile (coreOf u)).store = true ∧ scalarAddr (s.tile (coreOf u)) rs1.toNat off ext = ↑a ∧ a < 2 ^ 20 ∧ eccMild [(a, 1)]
    hits = true) ∧
    (∃ (s : State) (u : BitVec 7) (rs1 : BitVec 5) (off : BitVec 14) (ext : Option (BitVec 26)) (a : Nat), coreOf u ≠
    isleCore ∧ s.canIssue (coreOf u) ext.isSome = true ∧ (s.tile (coreOf u)).units = [] ∧ Memory.wf (s.tile (coreOf
    u)).store = true ∧ scalarAddr (s.tile (coreOf u)) rs1.toNat off ext = ↑a ∧ a < 2 ^ 20 ∧ (s.ctx (s.tile (coreOf
    u)).cid).st = CtxSt.opened ∧ (s.tile (coreOf u)).isWritten (a / 64) = true) ∧
    (∃ (s : State) (u : BitVec 7) (rd : BitVec 5) (rs1 : BitVec 5) (imm : BitVec 15) (ext : Option (BitVec 26)) (a : Nat),
    coreOf u ≠ isleCore ∧ s.canIssue (coreOf u) ext.isSome = true ∧ (s.tile (coreOf u)).units = [] ∧ Memory.wf (s.tile
    (coreOf u)).store = true ∧ descAddr (s.tile (coreOf u)) rs1.toNat imm ext = ↑a ∧ BitVec.extractLsb' 0 4 imm = 0 ∧ tOk
    (coreOf u) rd.toNat = true ∧ a % 32 = 0 ∧ a + 32 ≤ 2 ^ 20 ∧ True) :=
  ⟨⟨(nth sts 1), 0, 8, 0x40, some 0, 256, [], by decide +kernel⟩,
    ⟨(nth sts 1), 1, 0x1d, 0x40, none, 256, by decide +kernel⟩,
    ⟨(nth sts 1), 0, 8, 0x40, some 0, 256, [⟨1, false⟩], by decide +kernel⟩,
    ⟨(nth sts 1), 1, 0, 0x40, none, 256, by decide +kernel⟩,
    ⟨(nth sts 1), 0, 0, 0x11, 0x80, none, 256, by decide +kernel⟩⟩

end W05

namespace W06

def sts : List State := [w0]

/-- Obligations.BranchesAndJumps: states and operands that meet its hypotheses, clause by clause. -/
theorem wit_BranchesAndJumps :
    ∃ (s : State) (u : BitVec 7) (rs2 : BitVec 5) (imm : BitVec 16) (ext : Option (BitVec 26)), s.canIssue (coreOf u)
    ext.isSome = true ∧ (s.tile (coreOf u)).units = [] ∧ rs2 ≠ 0 ∧ ((↑(BitVec.toNat ((s.tile (coreOf u)).sreg rs2.toNat)) +
    4 * immOf imm ext).emod (2 ^ 32)).toNat % 4 = 0 :=
  ⟨(nth sts 0), 1, 2, 0xffdf, some 0, by decide +kernel⟩

end W06

namespace W07

def lp : Tile → Tile := fun x => { x with s := [(2, 5)], depth := 2, loops := [(0,⟨3,0x20,0x80⟩),(1,⟨9,0x30,0x60⟩)] }
def sts : List State := [upT w0 0 lp, upT w0 64 (fun x => {lp x with depth := 1}), w0,
    upT w0 0 (fun x => {lp x with depth := 4, loops := [(3,⟨1,2,0x40⟩)]}),
    upT w0 0 (fun x => {lp x with depth := 1, loops := [(0,⟨5,0x10,0x40⟩)]})]

/-- Obligations.HardwareLoops: states and operands that meet its hypotheses, clause by clause. -/
theorem wit_HardwareLoops :
    (∃ (s : State) (u : BitVec 7) (l : BitVec 5) (imm : BitVec 16) (ext : Option (BitVec 26)), (s.tile (coreOf u)).units = []
    ∧ s.canIssue (coreOf u) ext.isSome = true ∧ l.toNat = (s.tile (coreOf u)).depth ∧ ((s.tile (coreOf u)).depth < if coreOf
    u = isleCore then 2 else 4) ∧ 1 ≤ immOf imm ext ∧ immOf imm ext ≤ 2 ^ 30) ∧
    (∃ (s : State) (u : BitVec 7) (l : BitVec 5), (s.tile (coreOf u)).units = [] ∧ s.canIssue (coreOf u) false = true ∧
    (l.toNat < if coreOf u = isleCore then 2 else 4) ∧ l.toNat + 1 = (s.tile (coreOf u)).depth) ∧
    (∃ (s : State) (u : BitVec 7) (rs1 : BitVec 5), (s.tile (coreOf u)).units = [] ∧ s.canIssue (coreOf u) false = true ∧
    coreOf u ≠ isleCore ∧ (s.tile (coreOf u)).exc = none ∧ rs1 ≠ 0) ∧
    (∃ (s : State) (u : BitVec 7) (rs1 : BitVec 5) (l : BitVec 5), (s.tile (coreOf u)).units = [] ∧ s.canIssue (coreOf u)
    false = true ∧ coreOf u ≠ isleCore ∧ (s.tile (coreOf u)).exc = none ∧ rs1 = 0 ∧ (l.toNat < if coreOf u = isleCore then 2
    else 4) ∧ l.toNat + 1 ≠ (s.tile (coreOf u)).depth) ∧
    (∃ (s : State) (u : BitVec 7) (l : BitVec 5) (imm : BitVec 16) (ext : Option (BitVec 26)), (s.tile (coreOf u)).units = []
    ∧ s.canIssue (coreOf u) ext.isSome = true ∧ coreOf u ≠ isleCore ∧ (s.tile (coreOf u)).exc = none ∧ (l.toNat < if coreOf
    u = isleCore then 2 else 4) ∧ immOf imm ext ≠ 0 ∧ (l.toNat ≠ (s.tile (coreOf u)).depth ∨ (if coreOf u = isleCore then 2
    else 4) ≤ (s.tile (coreOf u)).depth)) :=
  ⟨⟨(nth sts 4), 0, 1, 0xffdf, some 0, by decide +kernel⟩,
    ⟨(nth sts 1), 0x7e, 0, by decide +kernel⟩,
    ⟨(nth sts 0), 1, 0x1f, by decide +kernel⟩,
    ⟨(nth sts 1), 1, 0, 3, by decide +kernel⟩,
    ⟨(nth sts 4), 0, 0, 0xffd0, none, by decide +kernel⟩⟩

end W07

namespace W08

def b (k : Nat) : Barge := { va := 0, desc := 0, m1 := 0, m2 := 0, m3 := 0, done := 0, func := BitVec.ofNat 13 (16 * k), faulted := false }
def sts : List State := [upT w0 0 fun x => { x with barges := [b 3, b 5] }, w0,
    upT w0 0 fun x => { x with units := [⟨1, [], [], [], none⟩] },
  upT w0 0 fun x => { x with t := [(1, 0x00000000000000000000000000010003000000000000000000000001001)], s := [(1,5),(2,6),(3,7)] } ]

/-- Obligations.BargesAndWaits: states and operands that meet its hypotheses, clause by clause. -/
theorem wit_BargesAndWaits :
    (∃ (s : State) (u : BitVec 7) (td : BitVec 4) (sf : BitVec 5) (func : BitVec 13), coreOf u ≠ isleCore ∧ s.canIssue
    (coreOf u) false = true ∧ (s.tile (coreOf u)).units = [] ∧ func.toNat < 256 ∧ xferBad func sf.toNat (descFields ((s.tile
    (coreOf u)).treg td.toNat)) = false ∧ firstExc (descExcsOf ((s.tile (coreOf u)).treg td.toNat) td.toNat) = none ∧
    (s.tile (coreOf u)).barges.length < 16 ∧ ∀ (b : Barge), b ∈ (s.tile (coreOf u)).barges → b.id ≠ func.toNat / 16 % 16) ∧
    (∃ (s : State) (u : BitVec 7) (imm : BitVec 16), coreOf u ≠ isleCore ∧ s.canIssue (coreOf u) false = true ∧ ∀ (b :
    Barge), b ∈ (s.tile (coreOf u)).barges → imm.getLsbD b.id = false) ∧
    (∃ (s : State) (u : BitVec 7) (imm : BitVec 16), coreOf u ≠ isleCore ∧ s.canIssue (coreOf u) false = true ∧ ∃ b, b ∈
    (s.tile (coreOf u)).barges ∧ imm.getLsbD b.id = true) ∧
    (∃ (s : State) (u : BitVec 7), coreOf u ≠ isleCore ∧ s.canIssue (coreOf u) false = true ∧ (s.tile (coreOf u)).units ≠ []) :=
  ⟨⟨(nth sts 3), 0, 0, 1, 0xaa, by decide +kernel⟩,
    ⟨(nth sts 2), 1, 0xffc7, by decide +kernel⟩,
    ⟨(nth sts 0), 0, 0xfefb, by decide +kernel⟩,
    ⟨(nth sts 2), 0, by decide +kernel⟩⟩

end W08

namespace W09

def sts : List State := [upT w0 0 fun x => { x with core := .wait, wait := some (.tick 5), a := [(2, 5)] },
    upT w0 0 fun x => { x with a := [(2, 5)] }, w0, upT w0 64 fun x => { x with a := [(2, 5)] }]

/-- Obligations.TickWaitsAndTime: states and operands that meet its hypotheses, clause by clause. -/
theorem wit_TickWaitsAndTime :
    (∃ (s : State) (u : BitVec 7), (s.tile (coreOf u)).units = [] ∧ s.canIssue (coreOf u) false = true ∧ BitVec.toNat
    ((s.tile (coreOf u)).areg 2) ≤ s.time (if coreOf u = isleCore then copyIsland else coreOf u)) ∧
    (∃ (s : State) (u : BitVec 7), (s.tile (coreOf u)).units = [] ∧ s.canIssue (coreOf u) false = true ∧ s.time (if coreOf u
    = isleCore then copyIsland else coreOf u) < BitVec.toNat ((s.tile (coreOf u)).areg 2)) ∧
    (∃ (s : State) (u : BitVec 7) (k : BitVec 16), (s.tile (coreOf u)).units = [] ∧ s.canIssue (coreOf u) false = true ∧
    k.toNat < 16 ∧ aOk (coreOf u) k.toNat = true) ∧
    (∃ (s : State) (u : BitVec 7) (n : Nat), (s.tile (coreOf u)).units = [] ∧ (s.tile (coreOf u)).wait = some (WaitFor.tick
    n) ∧ n ≤ s.time (if coreOf u = isleCore then copyIsland else coreOf u) ∧ (s.tile (coreOf u)).stepping = false ∧ coreOf u
    ≠ isleCore ∧ (s.tile (coreOf u)).core = CoreSt.wait) :=
  ⟨⟨(nth sts 3), 0x7f, by decide +kernel⟩,
    ⟨(nth sts 1), 0x7f, by decide +kernel⟩,
    ⟨(nth sts 0), 0x7f, 5, by decide +kernel⟩,
    ⟨(nth sts 0), 0, 5, by decide +kernel⟩⟩

end W09

namespace W10

def m := (w0.mem)
def sts : List State := [upT w0 0 fun x => { x with a := [(1,0x300000),(2,0x300008),(3,0x300004)], s := [(1,3),(2,0x85604B26),(3,1),(4,0x6F4A2501),(5,0xDEB9946F),(6,1)] },
  { (upT w0 0 fun x => { x with a := [(1,0x300000),(2,0x300008)], s := [(2,0x3f800000),(4,1)] }) with mem := [(0x300003, 0x3f),(0x300002,0x80), (0x300009, 7), (0x300009, 8)] },
      w0]

/-- Obligations.AtomicOperations: states and operands that meet its hypotheses, clause by clause. -/
theorem wit_AtomicOperations :
    (∃ (s : State) (u : BitVec 7) (a : BitVec 4) (sf : BitVec 5) (w64 : Bool) (pa : Nat), coreOf u ≠ isleCore ∧ s.canIssue
    (coreOf u) false = true ∧ (s.tile (coreOf u)).units = [] ∧ (BitVec.toNat ((s.tile (coreOf u)).areg a.toNat) % if w64 =
    true then 8 else 4) = 0 ∧ (s.issued (coreOf u) false).reachBy u.toNat (s.tile (coreOf u)).cid (BitVec.toNat ((s.tile
    (coreOf u)).areg a.toNat)) Access.atomic = Xres.ok pa ∧ paDie pa = (s.issued (coreOf u) false).ownDie ∧ (w64 = true →
    sf.toNat % 2 = 0) ∧ w64 = false) ∧
    (∃ (s : State) (u : BitVec 7) (a : BitVec 4) (sf : BitVec 5) (w64 : Bool) (pa : Nat), coreOf u ≠ isleCore ∧ s.canIssue
    (coreOf u) false = true ∧ (s.tile (coreOf u)).units = [] ∧ (BitVec.toNat ((s.tile (coreOf u)).areg a.toNat) % if w64 =
    true then 8 else 4) = 0 ∧ (s.issued (coreOf u) false).reachBy u.toNat (s.tile (coreOf u)).cid (BitVec.toNat ((s.tile
    (coreOf u)).areg a.toNat)) Access.atomic = Xres.ok pa ∧ paDie pa = (s.issued (coreOf u) false).ownDie ∧ (w64 = true →
    sf.toNat % 2 = 0) ∧ sf.toNat + (if w64 = true then 8 else 4) / 2 ≤ 32 ∧ (w64 = true → sf.toNat % 4 = 0)) :=
  ⟨⟨(nth sts 0), 0, 2, 0x1f, false, 3145736, by decide +kernel⟩,
    ⟨(nth sts 1), 0, 2, 0x1e, false, 3145736, by decide +kernel⟩⟩

end W10

namespace W11

def bound (s : State) : State := putAll s [(Reg.KPR_MBOX_BIND_VALID 7, 1), (Reg.KPR_MBOX_BIND_DEPTHM1 7, 7),
    (Reg.KPR_MBOX_BIND_CID 7, 5), (Reg.KPR_MBOX_USE_LINES, 2)]
def tl : Tile → Tile := fun x => { x with a := [(1, 7)], s := [(2, 0x100)], written := [(4,true),(5,true),(6,true),(7,true)] }
def sts : List State := [bound (upT w0 0 tl), { bound (upT w0 0 tl) with mail := ⟨[(7, [⟨0, [1, 2, 3]⟩, ⟨3, [9]⟩])], []⟩ },
  bound (upT w0 0 fun x => { tl x with core := .wait, call := some (.send 0 7 2 [4, 5] false (some 5)) }),
      bound (upT w0 1 fun x => { tl x with units := [⟨1,[],[],[],none⟩], core := .wait, call := some (.send 0 7 2 [4, 5] false (some 5)) })]

/-- Obligations.MailboxInstructions: states and operands that meet its hypotheses, clause by clause. -/
theorem wit_MailboxInstructions :
    (∃ (s : State) (u : BitVec 7) (a : BitVec 4) (sf : BitVec 5) (lines : BitVec 2) (hits : List TileHit), coreOf u ≠
    isleCore ∧ s.ownDie < 512 ∧ s.canIssue (coreOf u) false = true ∧ (s.tile (coreOf u)).units = [] ∧ BitVec.toNat ((s.tile
    (coreOf u)).sreg sf.toNat) % 64 = 0 ∧ BitVec.toNat ((s.tile (coreOf u)).sreg sf.toNat) + 64 * (lines.toNat + 1) ≤ 2 ^ 20
    ∧ sf ≠ 0 ∧ BitVec.toNat ((s.tile (coreOf u)).areg a.toNat) = s.ownDie * 2 ^ 32 + BitVec.toNat ((s.tile (coreOf u)).areg
    a.toNat) % 4096 ∧ (s.tile (coreOf u)).unwrittenIn [(BitVec.toNat ((s.tile (coreOf u)).sreg sf.toNat), 64 * (lines.toNat
    + 1))] = [] ∧ ((s.mboxBind (BitVec.toNat ((s.tile (coreOf u)).areg a.toNat) % 4096)).valid = true ∧ (s.mboxBind
    (BitVec.toNat ((s.tile (coreOf u)).areg a.toNat) % 4096)).mode = 0 ∧ BitVec.toNat ((s.tile (coreOf u)).areg a.toNat) %
    4096 ≠ 4095 ∧ (∀ (r : Nat × Nat), r ∈ s.mail.recvs → r.snd ≠ BitVec.toNat ((s.tile (coreOf u)).areg a.toNat) % 4096) ∧
    msgLines (s.mbox (BitVec.toNat ((s.tile (coreOf u)).areg a.toNat) % 4096)) + (lines.toNat + 1) ≤ (s.mboxBind
    (BitVec.toNat ((s.tile (coreOf u)).areg a.toNat) % 4096)).depth ∧ s.get Reg.KPR_MBOX_USE_LINES + (lines.toNat + 1) ≤
    2048) ∧ eccMild [(BitVec.toNat ((s.tile (coreOf u)).sreg sf.toNat), 64 * (lines.toNat + 1))] hits = true) ∧
    (∃ (s : State) (u : BitVec 7) (a : BitVec 4) (sf : BitVec 5) (lines : BitVec 2), coreOf u ≠ isleCore ∧ s.ownDie < 512 ∧
    s.canIssue (coreOf u) false = true ∧ (s.tile (coreOf u)).units = [] ∧ BitVec.toNat ((s.tile (coreOf u)).sreg sf.toNat) %
    64 = 0 ∧ BitVec.toNat ((s.tile (coreOf u)).sreg sf.toNat) + 64 * (lines.toNat + 1) ≤ 2 ^ 20 ∧ sf ≠ 0 ∧ BitVec.toNat
    ((s.tile (coreOf u)).areg a.toNat) = s.ownDie * 2 ^ 32 + BitVec.toNat ((s.tile (coreOf u)).areg a.toNat) % 4096 ∧
    (s.mboxBind (BitVec.toNat ((s.tile (coreOf u)).areg a.toNat) % 4096)).valid = true ∧ (s.mboxBind (BitVec.toNat ((s.tile
    (coreOf u)).areg a.toNat) % 4096)).cid = (s.tile (coreOf u)).cid ∧ s.mbox (BitVec.toNat ((s.tile (coreOf u)).areg
    a.toNat) % 4096) = []) ∧
    (∃ (s : State) (u : BitVec 7) (a : BitVec 4) (sf : BitVec 5) (lines : BitVec 2) (g : Msg) (rest : List Msg), coreOf u ≠
    isleCore ∧ s.ownDie < 512 ∧ s.canIssue (coreOf u) false = true ∧ (s.tile (coreOf u)).units = [] ∧ BitVec.toNat ((s.tile
    (coreOf u)).sreg sf.toNat) % 64 = 0 ∧ BitVec.toNat ((s.tile (coreOf u)).sreg sf.toNat) + 64 * (lines.toNat + 1) ≤ 2 ^ 20
    ∧ sf ≠ 0 ∧ BitVec.toNat ((s.tile (coreOf u)).areg a.toNat) = s.ownDie * 2 ^ 32 + BitVec.toNat ((s.tile (coreOf u)).areg
    a.toNat) % 4096 ∧ (s.mboxBind (BitVec.toNat ((s.tile (coreOf u)).areg a.toNat) % 4096)).valid = true ∧ (s.mboxBind
    (BitVec.toNat ((s.tile (coreOf u)).areg a.toNat) % 4096)).cid = (s.tile (coreOf u)).cid ∧ s.mbox (BitVec.toNat ((s.tile
    (coreOf u)).areg a.toNat) % 4096) = g :: rest ∧ g.lines ≠ []) ∧
    (∃ (s : State) (u : BitVec 7) (a : BitVec 4) (lines : BitVec 2) (nb : Bool) (sreg : Nat) (l : List Nat) (due : Nat),
    coreOf u ≠ isleCore ∧ s.ownDie < 512 ∧ u.toNat < 64 ∧ (s.tile (coreOf u)).call = some (Call.send s.ownDie (BitVec.toNat
    ((s.tile (coreOf u)).areg a.toNat) % 4096) sreg l nb (some due)) ∧ due ≤ s.time (coreOf u) ∧ sreg ≠ 0 ∧ (s.tile (coreOf
    u)).stepping = false ∧ ((s.mboxBind (BitVec.toNat ((s.tile (coreOf u)).areg a.toNat) % 4096)).valid = true ∧ (s.mboxBind
    (BitVec.toNat ((s.tile (coreOf u)).areg a.toNat) % 4096)).mode = 0 ∧ BitVec.toNat ((s.tile (coreOf u)).areg a.toNat) %
    4096 ≠ 4095 ∧ (∀ (r : Nat × Nat), r ∈ s.mail.recvs → r.snd ≠ BitVec.toNat ((s.tile (coreOf u)).areg a.toNat) % 4096) ∧
    msgLines (s.mbox (BitVec.toNat ((s.tile (coreOf u)).areg a.toNat) % 4096)) + (lines.toNat + 1) ≤ (s.mboxBind
    (BitVec.toNat ((s.tile (coreOf u)).areg a.toNat) % 4096)).depth ∧ s.get Reg.KPR_MBOX_USE_LINES + (lines.toNat + 1) ≤
    2048) ∧ l.length = lines.toNat + 1) :=
  ⟨⟨(nth sts 1), 0, 1, 2, 3, [⟨2, false⟩, ⟨2, true⟩], by decide +kernel⟩,
    ⟨(nth sts 0), 0, 1, 0x1e, 2, by decide +kernel⟩,
    ⟨(nth sts 1), 0, 1, 0x1f, 1, ⟨0, [1, 2, 3]⟩, [⟨3, [9]⟩], by decide +kernel⟩,
    ⟨(nth sts 3), 1, 1, 1, false, 2, [4, 5], 5, by decide +kernel⟩⟩

theorem wit_MailboxInstructions_1 : ∃ (s : State) (u : BitVec 7) (a : BitVec 4) (nb : Bool) (sreg : Nat) (l : List Nat) (due : Nat),
    coreOf u ≠ isleCore ∧ s.ownDie < 512 ∧ u.toNat < 64 ∧ (s.tile (coreOf u)).call =
      some (Call.send s.ownDie (BitVec.toNat ((s.tile (coreOf u)).areg a.toNat) % 4096) sreg l nb (some due)) ∧
    s.time (coreOf u) < due :=
  ⟨bound (upT w0 0 fun x => { tl x with core := .wait, call := some (.send 0 7 2 [4, 5] false (some 2000000)) }),
    0, 1, false, 2, [4, 5], 2000000, by decide +kernel⟩

end W11

namespace W12

def s1 : State := upT { w0 with ctxs := [(5, { ctx5 with arena := some ⟨0x40000000, 2, 0x800000⟩ })] } 0 fun x =>
  { x with s := [(1, 0x1000000), (2, 0x1000001)], a := [(1, 0x40000000)] }
def s3 : State := match s1.wharfAlloc 5 0x1000000 false with
  | some (w, _) => w
  | none => s1

theorem wit_WharfInstructions_1 : ∃ (s : State) (u : BitVec 7) (sf : BitVec 5) (zero : Bool), coreOf u ≠ isleCore ∧
    s.canIssue (coreOf u) false = true ∧ (s.tile (coreOf u)).units = [] ∧
    ∃ r, (s.issued (coreOf u) false).wharfAlloc (s.tile (coreOf u)).cid ((s.tile (coreOf u)).sreg sf.toNat).toNat zero =
      some r :=
  ⟨s1, 0, 1, false, by decide, by decide +kernel, by decide +kernel, some_ex (by decide +kernel)⟩

theorem wit_WharfInstructions_2 : ∃ (s : State) (u : BitVec 7) (sf : BitVec 5) (zero : Bool), coreOf u ≠ isleCore ∧
    s.canIssue (coreOf u) false = true ∧ (s.tile (coreOf u)).units = [] ∧
    (s.issued (coreOf u) false).wharfAlloc (s.tile (coreOf u)).cid ((s.tile (coreOf u)).sreg sf.toNat).toNat zero =
      none ∧ (s.tile (coreOf u)).exc = none :=
  ⟨s1, 0, 2, false, by decide +kernel⟩

theorem wit_WharfInstructions_3 : ∃ (s : State) (u : BitVec 7) (a : BitVec 4), coreOf u ≠ isleCore ∧
    s.canIssue (coreOf u) false = true ∧
    (s.tile (coreOf u)).units = [] ∧
    ∃ w, (s.issued (coreOf u) false).wharfDrop (s.tile (coreOf u)).cid ((s.tile (coreOf u)).areg a.toNat).toNat =
      some w :=
  ⟨s3, 0, 1, by decide, by decide +kernel, by decide +kernel, some_ex (by decide +kernel)⟩

end W12

namespace W13

def sts : List State := [upT w0 0 fun x => { x with a := [(1,0x300000),(2,3),(3,0x400000)], s := [(1,0x0F),(2,0x8F),(3,0x70)], clipped := 2^40+3, converted := 7 },
    
  { upT w0 0 (fun x => { x with a := [(1,0x300000),(2,9)], s:=[(1,0x8A)], units := [] }) with mem := [(0x300000,5)], waiters := [(40000, some ⟨5,5,0x300000,7,50,false⟩),(3, some ⟨5,5,0x300000,8,0,false⟩)], queues := [(3,{Queue.reset with st := .waiting})] },
  { upT w0 64 id with island := { Island.reset with held := some 0 } },
      { upT w0 64 id with island := { Island.reset with held := some 1 }, doms := (0,{Dom.reset with st:=.opened})::(1,Dom.reset)::[] }]

/-- Obligations.SignalsPhasesAndModes: states and operands that meet its hypotheses, clause by clause. -/
theorem wit_SignalsPhasesAndModes :
    (∃ (s : State) (u : BitVec 7) (ra : BitVec 4) (rv : BitVec 4) (q : Nat) (i : Nat) (inst : Nat), s.canIssue (coreOf u)
    false = true ∧ (s.tile (coreOf u)).units = [] ∧ coreOf u ≠ isleCore ∧ (s.tile (coreOf u)).barges = [] ∧ (s.tile (coreOf
    u)).task = some (q, i, inst) ∧ BitVec.toNat ((s.tile (coreOf u)).areg ra.toNat) % 16 = 0 ∧ BitVec.toNat ((s.tile (coreOf
    u)).areg rv.toNat) < 2 ^ 62) ∧
    (∃ (s : State) (u : BitVec 7) (v : BitVec 12), s.canIssue (coreOf u) false = true ∧ (s.tile (coreOf u)).units = [] ∧
    coreOf u ≠ isleCore ∧ (s.tile (coreOf u)).barges = [] ∧ ((s.issued (coreOf u) false).ctx (s.tile (coreOf u)).cid).hasVec
    v.toNat = true) ∧
    (∃ (s : State) (u : BitVec 7) (sel : BitVec 3) (v : Nat), s.canIssue (coreOf u) false = true ∧ (s.tile (coreOf u)).units
    = [] ∧ coreOf u ≠ isleCore ∧ (s.tile (coreOf u)).clipStat sel.toNat = some v) ∧
    (∃ (s : State) (u : BitVec 7) (rs : BitVec 5), s.canIssue (coreOf u) false = true ∧ (s.tile (coreOf u)).units = [] ∧
    coreOf u ≠ isleCore ∧ (s.tile (coreOf u)).sreg rs.toNat &&& 4294967152 = 0) ∧
    (∃ (s : State) (u : BitVec 7), s.canIssue (coreOf u) false = true ∧ (s.tile (coreOf u)).units = [] ∧ coreOf u = isleCore) :=
  ⟨⟨(nth sts 2), 1, 0xe, 0xf, 3, 7, 0, by decide +kernel⟩,
    ⟨(nth sts 3), 0, 0x3d, by decide +kernel⟩,
    ⟨(nth sts 0), 0, 2, 4294967295, by decide +kernel⟩,
    ⟨(nth sts 1), 1, 0x1f, by decide +kernel⟩,
    ⟨(nth sts 1), 0x7f, by decide +kernel⟩⟩

end W13

namespace W14

def fr : Frame := ⟨77, 5, 8, 8, 6⟩
def isl (s : State) (r : Nat) : State := s.put Reg.WAT_CTRL_RUN r
def sts : List State := [w0, isl w0 0,  isl { w0 with island := { Island.reset with held := some 0 } } 1,
    isl { w0 with island := { Island.reset with held := some 0, ready := [1, 0], frames := [(1, some fr)] } } 1,
  isl { w0 with island := { Island.reset with held := none, ready := [0], frames := [(0, some fr)] } } 1]

/-- Obligations.EndYieldTrapAndFrames: states and operands that meet its hypotheses, clause by clause. -/
theorem wit_EndYieldTrapAndFrames :
    (∃ (s : State) (u : BitVec 7), s.canIssue (coreOf u) false = true ∧ (s.tile (coreOf u)).units = [] ∧ coreOf u ≠ isleCore
    ∧ (s.tile (coreOf u)).exc = none) ∧
    (∃ (s : State) (u : BitVec 7), s.canIssue (coreOf u) false = true ∧ (s.tile (coreOf u)).units = [] ∧ coreOf u = isleCore
    ∧ s.get Reg.WAT_CTRL_RUN = 0) ∧
    (∃ (s : State) (u : BitVec 7), s.canIssue (coreOf u) false = true ∧ (s.tile (coreOf u)).units = [] ∧ coreOf u = isleCore
    ∧ s.get Reg.WAT_CTRL_RUN = 1 ∧ s.island.ready = []) ∧
    (∃ (s : State) (u : BitVec 7) (b : Nat) (rest : List Nat) (f : Frame), s.canIssue (coreOf u) false = true ∧ (s.tile
    (coreOf u)).units = [] ∧ coreOf u = isleCore ∧ s.get Reg.WAT_CTRL_RUN = 1 ∧ s.island.ready = b :: rest ∧ s.frameIn b =
    some f) :=
  ⟨⟨(nth sts 4), 1, by decide +kernel⟩,
    ⟨(nth sts 1), 0x7f, by decide +kernel⟩,
    ⟨(nth sts 0), 0x7f, by decide +kernel⟩,
    ⟨(nth sts 3), 0x7f, 1, [0], ⟨77, 5, 8, 8, 6⟩, by decide +kernel⟩⟩

theorem wit_EndYieldTrapAndFrames_1 : ∃ (s : State) (u : BitVec 7), s.canIssue (coreOf u) false = true ∧
    (s.tile (coreOf u)).units = [] ∧
    coreOf u ≠ isleCore ∧ (s.tile (coreOf u)).barges = [] ∧ ∀ (q i : Nat) (p : Pkt) (k : Run),
      ((s.issued (coreOf u) false).complete (coreOf u) false).holder (coreOf u) = some (q, i, p, k) →
      ((s.issued (coreOf u) false).complete (coreOf u) false).outranked (coreOf u) q i k = none := by
  refine ⟨nth sts 1, 1, by decide +kernel, by decide +kernel, by decide, by decide +kernel, ?_⟩
  intro q i p k h
  have e : (((nth sts 1).issued (coreOf 1) false).complete (coreOf 1) false).holder (coreOf 1) = none := by
    decide +kernel
  rw [e] at h; cases h

end W14

namespace W15

def dd : List (BitVec 256) := [mkDesc 0 7 8 8 1 1 8 0 0, mkDesc 0x40 8 8 8 1 1 8 0 0, mkDesc 0x80 6 3 2 1 1 6 0 0,
    mkDesc 0x80 9 4 5 1 1 2 0 0, mkDesc 0 8 8 8 1 1 8 0 0]
def tl : Tile → Tile := fun x => { x with t := dd.zipIdx.map fun (d, i) => (i, d), store := (List.range 512).map fun k => (k, BitVec.ofNat 8 (k * 31 + 7 * (k / 5) + 1)), written := (List.range 8).map fun k => (k, true), acc := [(0, 5), (65, 0xFFFFFFFF), (4096, 7)], accFp := [(1, true)] }
def sts : List State := [upT w0 0 fun x => { tl x with store := (tl x).store.filter fun e => e.2 != 0 }]

/-- Obligations.IntegerMatrixMultiply: states and operands that meet its hypotheses, clause by clause. -/
theorem wit_IntegerMatrixMultiply :
    ∃ (s : State) (u : BitVec 7) (acc : BitVec 3) (ta : BitVec 4) (tb : BitVec 4) (zero : Bool) (a : Desc) (b : Desc) (hits
    : List TileHit), s.canIssue (coreOf u) false = true ∧ (s.tile (coreOf u)).units = [] ∧ descFields ((s.tile (coreOf
    u)).treg ta.toNat) = some a ∧ descFields ((s.tile (coreOf u)).treg tb.toNat) = some b ∧ tOk (coreOf u) ta.toNat = true ∧
    tOk (coreOf u) tb.toNat = true ∧ accOk (coreOf u) acc.toNat = true ∧ mmaShapeBad (coreOf u) a b = false ∧ mmaPair a.fmt
    b.fmt = some false ∧ (zero = false → (s.tile (coreOf u)).accIsFp acc.toNat = false) ∧ a.bscale = false ∧ b.bscale =
    false ∧ a.d0 ≤ 64 ∧ a.place ta.toNat = none ∧ b.place tb.toNat = none ∧ isleRange (coreOf u) a false = none ∧ isleRange
    (coreOf u) b false = none ∧ (s.tile (coreOf u)).trapUnwritten = false ∧ (s.tile (coreOf u)).tmode = 0 ∧ eccMild
    (a.ranges ++ b.ranges) hits = true :=
  ⟨(nth sts 0), 0, 6, 4, 4, false, ⟨0, Fmt.uint8, false, 0, 8, 8, 1, 1, 8, 0, 0⟩, ⟨0, Fmt.uint8, false, 0, 8, 8, 1, 1,
  8, 0, 0⟩, [], by decide +kernel⟩

end W15

namespace W16

def dd : List (BitVec 256) := [mkDesc 0x200 7 8 8 1 1 8 0 0, mkDesc 0x40 0 8 8 1 1 32 0 0, mkDesc 0x80 7 1 1 1 1 6 0 0,
    mkDesc 0x80 3 1 1 1 1 2 0 0, mkDesc 0 1 1 1 1 1 8 0 0]
def tl : Tile → Tile := fun x => { x with t := dd.zipIdx.map fun (d, i) => (i, d), store := ((List.range 512).map fun k => (k, BitVec.ofNat 8 (k * 31 + 7 * (k / 5) + 1))).filter fun e => e.2 != 0, written := (List.range 8).map fun k => (k, true), acc := [(0, 5), (65, 0xFFFFFFFF), (4096, 0x3fc00000)], accFp := [(1, true)] }
def sts : List State := [upT w0 0 tl]

/-- Obligations.ConversionCountsAndStores: states and operands that meet its hypotheses, clause by clause. -/
theorem wit_ConversionCountsAndStores :
    ∃ (s : State) (u : BitVec 7) (acc : BitVec 3) (ta : BitVec 4) (tb : BitVec 4) (rm : BitVec 3) (srcT : Bool) (d : Desc)
    (e : Desc) (m : RMode) (hits : List TileHit), coreOf u ≠ isleCore ∧ s.canIssue (coreOf u) false = true ∧ (s.tile (coreOf
    u)).units = [] ∧ descFields ((s.tile (coreOf u)).treg ta.toNat) = some d ∧ (if srcT = true then descFields ((s.tile
    (coreOf u)).treg tb.toNat) else descFields 0) = some e ∧ rmodeOf rm.toNat = some m ∧ d.bscale = false ∧ d.place ta.toNat
    = none ∧ (s.tile (coreOf u)).tmode = 0 ∧ (s.tile (coreOf u)).trapUnwritten = false ∧ (if srcT = true then acc = 0 ∧
    e.place tb.toNat = none ∧ d.d0 = e.d0 ∧ d.d1 = e.d1 ∧ d.d2 = e.d2 ∧ d.d3 = e.d3 else tb = 0 ∧ d.d0 ≤ 64 ∧ d.d1 ≤ 64 ∧
    d.d2 = 1 ∧ d.d3 = 1) ∧ eccMild (d.ranges ++ e.ranges) hits = true :=
  ⟨(nth sts 0), 0, 0, 0xa, 0xf, 0, true, ⟨0, Fmt.fp32, false, 0, 1, 1, 1, 1, 0, 0, 0⟩, ⟨0, Fmt.fp32, false, 0, 1, 1, 1,
  1, 0, 0, 0⟩, RMode.near, [], by decide +kernel⟩

end W16

namespace W17

def sts : List State := [w0]

/-- Obligations.AccumulatorReductions: states and operands that meet its hypotheses, clause by clause. -/
theorem wit_AccumulatorReductions :
    ∃ (s : State) (u : BitVec 7) (acc : BitVec 3) (dst : BitVec 5), coreOf u ≠ isleCore ∧ s.canIssue (coreOf u) false = true
    ∧ (s.tile (coreOf u)).units = [] ∧ (s.tile (coreOf u)).accIsFp acc.toNat = false ∧ (s.tile (coreOf u)).tmode = 0 ∧ dst ≠
    0 :=
  ⟨(nth sts 0), 0, 7, 0x1f, by decide +kernel⟩

end W17

namespace W18

def sts : List State := [w0]

/-- Obligations.IntegerLaneOperations: states and operands that meet its hypotheses, clause by clause. -/
theorem wit_IntegerLaneOperations :
    ∃ (s : State) (u : BitVec 7) (vs2 : BitVec 5) (sc : Bool), coreOf u ≠ isleCore ∧ s.canIssue (coreOf u) false = true ∧
    (s.tile (coreOf u)).units = [] ∧ vs2 = 0 ∧ sc = false :=
  ⟨(nth sts 0), 1, 0, false, by decide +kernel⟩

end W18

namespace W19

def sts : List State := [w0]

/-- Obligations.FloatLaneOperations: states and operands that meet its hypotheses, clause by clause. -/
theorem wit_FloatLaneOperations :
    ∃ (s : State) (u : BitVec 7) (vs2 : BitVec 5) (sc : Bool), coreOf u ≠ isleCore ∧ s.canIssue (coreOf u) false = true ∧
    (s.tile (coreOf u)).units = [] ∧ (∀ (n : Nat), n < 4 → BitVec.getLsbD (s.tile (coreOf u)).tmode n = false) ∧ vs2 = 0 ∧
    sc = false :=
  ⟨(nth sts 0), 1, 0, false, by decide +kernel⟩

end W19

namespace W20

def sts : List State := [w0]

/-- Obligations.ComparisonsAndPredicates: states and operands that meet its hypotheses, clause by clause. -/
theorem wit_ComparisonsAndPredicates :
    ∃ (s : State) (u : BitVec 7) (vd : BitVec 5) (vs1 : BitVec 5) (vs2 : BitVec 5), coreOf u ≠ isleCore ∧ s.canIssue (coreOf
    u) false = true ∧ (s.tile (coreOf u)).units = [] ∧ vd.toNat < 8 ∧ vs1.toNat < 8 ∧ vs2.toNat < 8 :=
  ⟨(nth sts 0), 1, 6, 2, 6, by decide +kernel⟩

end W20

namespace W21

def sts : List State := [w0]

/-- Obligations.LaneMovesAndExtracts: states and operands that meet its hypotheses, clause by clause. -/
theorem wit_LaneMovesAndExtracts :
    (∃ (s : State) (u : BitVec 7) (vs2 : BitVec 5), coreOf u ≠ isleCore ∧ s.canIssue (coreOf u) false = true ∧ (s.tile
    (coreOf u)).units = [] ∧ vs2.toNat < 8) ∧
    (∃ (s : State) (u : BitVec 7) (vs1 : BitVec 5), coreOf u ≠ isleCore ∧ s.canIssue (coreOf u) false = true ∧ (s.tile
    (coreOf u)).units = [] ∧ vs1.toNat < 8) :=
  ⟨⟨(nth sts 0), 1, 7, by decide +kernel⟩,
    ⟨(nth sts 0), 1, 7, by decide +kernel⟩⟩

end W21

namespace W22

def tl : Tile → Tile := fun x => { x with s := [(1, 0x100), (2, 8), (3, 0xFFFFFFFC), (4,0xFFE00)], p := [(1, 0xAAAA5555F0F00F0F), (2, 0xFF), (3, 3)], store := ((List.range 512).map fun k => (k, BitVec.ofNat 8 (k * 31 + 7 * (k / 5) + 1))).filter fun e => e.2 != 0, written := (List.range 64).map fun k => (k, true) }
def sts : List State := [upT w0 0 tl]

/-- Obligations.VectorLoadsAndStores: states and operands that meet its hypotheses, clause by clause. -/
theorem wit_VectorLoadsAndStores :
    (∃ (s : State) (u : BitVec 7) (vs1 : BitVec 5) (vs2 : BitVec 5) (pd : BitVec 3) (hits : List TileHit), coreOf u ≠
    isleCore ∧ s.canIssue (coreOf u) false = true ∧ (s.tile (coreOf u)).units = [] ∧ (BitVec.toNat ((s.tile (coreOf u)).sreg
    vs1.toNat) % 4 = 0 ∧ (false = true → BitVec.toInt ((s.tile (coreOf u)).sreg vs2.toNat) % ↑4 = 0) ∧ ∀ (k : Nat), k < 64 →
    BitVec.getLsbD ((s.tile (coreOf u)).preg pd.toNat) k = true → (0 ≤ ↑(BitVec.toNat ((s.tile (coreOf u)).sreg vs1.toNat))
    + ↑k * if false = true then BitVec.toInt ((s.tile (coreOf u)).sreg vs2.toNat) else ↑4) ∧ (↑(BitVec.toNat ((s.tile
    (coreOf u)).sreg vs1.toNat)) + ↑k * if false = true then BitVec.toInt ((s.tile (coreOf u)).sreg vs2.toNat) else ↑4) + ↑4
    ≤ 2 ^ 20) ∧ (∀ (k : Nat), k < 64 → BitVec.getLsbD ((s.tile (coreOf u)).preg pd.toNat) k = true → (s.tile (coreOf
    u)).unwrittenIn [((↑(BitVec.toNat ((s.tile (coreOf u)).sreg vs1.toNat)) + ↑k * if false = true then BitVec.toInt
    ((s.tile (coreOf u)).sreg vs2.toNat) else ↑4).toNat, 4)] = []) ∧ ∀ (k : Nat), k < 64 → BitVec.getLsbD ((s.tile (coreOf
    u)).preg pd.toNat) k = true → eccMild [((↑(BitVec.toNat ((s.tile (coreOf u)).sreg vs1.toNat)) + ↑k * if false = true
    then BitVec.toInt ((s.tile (coreOf u)).sreg vs2.toNat) else ↑4).toNat, 4)] hits = true) ∧
    (∃ (s : State) (u : BitVec 7) (vs1 : BitVec 5) (vs2 : BitVec 5) (pd : BitVec 3) (hits : List TileHit), coreOf u ≠
    isleCore ∧ s.canIssue (coreOf u) false = true ∧ (s.tile (coreOf u)).units = [] ∧ (BitVec.toNat ((s.tile (coreOf u)).sreg
    vs1.toNat) % 4 = 0 ∧ (true = true → BitVec.toInt ((s.tile (coreOf u)).sreg vs2.toNat) % ↑4 = 0) ∧ ∀ (k : Nat), k < 64 →
    BitVec.getLsbD ((s.tile (coreOf u)).preg pd.toNat) k = true → (0 ≤ ↑(BitVec.toNat ((s.tile (coreOf u)).sreg vs1.toNat))
    + ↑k * if true = true then BitVec.toInt ((s.tile (coreOf u)).sreg vs2.toNat) else ↑4) ∧ (↑(BitVec.toNat ((s.tile (coreOf
    u)).sreg vs1.toNat)) + ↑k * if true = true then BitVec.toInt ((s.tile (coreOf u)).sreg vs2.toNat) else ↑4) + ↑4 ≤ 2 ^
    20) ∧ (∀ (k : Nat), k < 64 → BitVec.getLsbD ((s.tile (coreOf u)).preg pd.toNat) k = true → (s.tile (coreOf
    u)).unwrittenIn [((↑(BitVec.toNat ((s.tile (coreOf u)).sreg vs1.toNat)) + ↑k * if true = true then BitVec.toInt ((s.tile
    (coreOf u)).sreg vs2.toNat) else ↑4).toNat, 4)] = []) ∧ ∀ (k : Nat), k < 64 → BitVec.getLsbD ((s.tile (coreOf u)).preg
    pd.toNat) k = true → eccMild [((↑(BitVec.toNat ((s.tile (coreOf u)).sreg vs1.toNat)) + ↑k * if true = true then
    BitVec.toInt ((s.tile (coreOf u)).sreg vs2.toNat) else ↑4).toNat, 4)] hits = true) ∧
    (∃ (s : State) (u : BitVec 7) (vs1 : BitVec 5) (vs2 : BitVec 5) (pd : BitVec 3) (hits : List TileHit), coreOf u ≠
    isleCore ∧ s.canIssue (coreOf u) false = true ∧ (s.tile (coreOf u)).units = [] ∧ (BitVec.toNat ((s.tile (coreOf u)).sreg
    vs1.toNat) % 1 = 0 ∧ (false = true → BitVec.toInt ((s.tile (coreOf u)).sreg vs2.toNat) % ↑1 = 0) ∧ ∀ (k : Nat), k < 64 →
    BitVec.getLsbD ((s.tile (coreOf u)).preg pd.toNat) k = true → (0 ≤ ↑(BitVec.toNat ((s.tile (coreOf u)).sreg vs1.toNat))
    + ↑k * if false = true then BitVec.toInt ((s.tile (coreOf u)).sreg vs2.toNat) else ↑1) ∧ (↑(BitVec.toNat ((s.tile
    (coreOf u)).sreg vs1.toNat)) + ↑k * if false = true then BitVec.toInt ((s.tile (coreOf u)).sreg vs2.toNat) else ↑1) + ↑1
    ≤ 2 ^ 20) ∧ (∀ (k : Nat), k < 64 → BitVec.getLsbD ((s.tile (coreOf u)).preg pd.toNat) k = true → (s.tile (coreOf
    u)).unwrittenIn [((↑(BitVec.toNat ((s.tile (coreOf u)).sreg vs1.toNat)) + ↑k * if false = true then BitVec.toInt
    ((s.tile (coreOf u)).sreg vs2.toNat) else ↑1).toNat, 1)] = []) ∧ ∀ (k : Nat), k < 64 → BitVec.getLsbD ((s.tile (coreOf
    u)).preg pd.toNat) k = true → eccMild [((↑(BitVec.toNat ((s.tile (coreOf u)).sreg vs1.toNat)) + ↑k * if false = true
    then BitVec.toInt ((s.tile (coreOf u)).sreg vs2.toNat) else ↑1).toNat, 1)] hits = true) ∧
    (∃ (s : State) (u : BitVec 7) (vs1 : BitVec 5) (vs2 : BitVec 5) (pd : BitVec 3) (hits : List TileHit), coreOf u ≠
    isleCore ∧ s.canIssue (coreOf u) false = true ∧ (s.tile (coreOf u)).units = [] ∧ (BitVec.toNat ((s.tile (coreOf u)).sreg
    vs1.toNat) % 2 = 0 ∧ (false = true → BitVec.toInt ((s.tile (coreOf u)).sreg vs2.toNat) % ↑2 = 0) ∧ ∀ (k : Nat), k < 64 →
    BitVec.getLsbD ((s.tile (coreOf u)).preg pd.toNat) k = true → (0 ≤ ↑(BitVec.toNat ((s.tile (coreOf u)).sreg vs1.toNat))
    + ↑k * if false = true then BitVec.toInt ((s.tile (coreOf u)).sreg vs2.toNat) else ↑2) ∧ (↑(BitVec.toNat ((s.tile
    (coreOf u)).sreg vs1.toNat)) + ↑k * if false = true then BitVec.toInt ((s.tile (coreOf u)).sreg vs2.toNat) else ↑2) + ↑2
    ≤ 2 ^ 20) ∧ (∀ (k : Nat), k < 64 → BitVec.getLsbD ((s.tile (coreOf u)).preg pd.toNat) k = true → (s.tile (coreOf
    u)).unwrittenIn [((↑(BitVec.toNat ((s.tile (coreOf u)).sreg vs1.toNat)) + ↑k * if false = true then BitVec.toInt
    ((s.tile (coreOf u)).sreg vs2.toNat) else ↑2).toNat, 2)] = []) ∧ ∀ (k : Nat), k < 64 → BitVec.getLsbD ((s.tile (coreOf
    u)).preg pd.toNat) k = true → eccMild [((↑(BitVec.toNat ((s.tile (coreOf u)).sreg vs1.toNat)) + ↑k * if false = true
    then BitVec.toInt ((s.tile (coreOf u)).sreg vs2.toNat) else ↑2).toNat, 2)] hits = true) ∧
    (∃ (s : State) (u : BitVec 7) (vs1 : BitVec 5) (vs2 : BitVec 5) (pd : BitVec 3) (hits : List TileHit), coreOf u ≠
    isleCore ∧ s.canIssue (coreOf u) false = true ∧ (s.tile (coreOf u)).units = [] ∧ (BitVec.toNat ((s.tile (coreOf u)).sreg
    vs1.toNat) % 4 = 0 ∧ (false = true → BitVec.toInt ((s.tile (coreOf u)).sreg vs2.toNat) % ↑4 = 0) ∧ ∀ (k : Nat), k < 64 →
    BitVec.getLsbD ((s.tile (coreOf u)).preg pd.toNat) k = true → (0 ≤ ↑(BitVec.toNat ((s.tile (coreOf u)).sreg vs1.toNat))
    + ↑k * if false = true then BitVec.toInt ((s.tile (coreOf u)).sreg vs2.toNat) else ↑4) ∧ (↑(BitVec.toNat ((s.tile
    (coreOf u)).sreg vs1.toNat)) + ↑k * if false = true then BitVec.toInt ((s.tile (coreOf u)).sreg vs2.toNat) else ↑4) + ↑4
    ≤ 2 ^ 20) ∧ Memory.wf (s.tile (coreOf u)).store = true ∧ ∀ (k : Nat), k < 64 → BitVec.getLsbD ((s.tile (coreOf u)).preg
    pd.toNat) k = true → eccMild [((↑(BitVec.toNat ((s.tile (coreOf u)).sreg vs1.toNat)) + ↑k * if false = true then
    BitVec.toInt ((s.tile (coreOf u)).sreg vs2.toNat) else ↑4).toNat, 4)] hits = true) ∧
    (∃ (s : State) (u : BitVec 7) (vs1 : BitVec 5) (vs2 : BitVec 5) (pd : BitVec 3) (hits : List TileHit), coreOf u ≠
    isleCore ∧ s.canIssue (coreOf u) false = true ∧ (s.tile (coreOf u)).units = [] ∧ (BitVec.toNat ((s.tile (coreOf u)).sreg
    vs1.toNat) % 4 = 0 ∧ (true = true → BitVec.toInt ((s.tile (coreOf u)).sreg vs2.toNat) % ↑4 = 0) ∧ ∀ (k : Nat), k < 64 →
    BitVec.getLsbD ((s.tile (coreOf u)).preg pd.toNat) k = true → (0 ≤ ↑(BitVec.toNat ((s.tile (coreOf u)).sreg vs1.toNat))
    + ↑k * if true = true then BitVec.toInt ((s.tile (coreOf u)).sreg vs2.toNat) else ↑4) ∧ (↑(BitVec.toNat ((s.tile (coreOf
    u)).sreg vs1.toNat)) + ↑k * if true = true then BitVec.toInt ((s.tile (coreOf u)).sreg vs2.toNat) else ↑4) + ↑4 ≤ 2 ^
    20) ∧ Memory.wf (s.tile (coreOf u)).store = true ∧ ∀ (k : Nat), k < 64 → BitVec.getLsbD ((s.tile (coreOf u)).preg
    pd.toNat) k = true → eccMild [((↑(BitVec.toNat ((s.tile (coreOf u)).sreg vs1.toNat)) + ↑k * if true = true then
    BitVec.toInt ((s.tile (coreOf u)).sreg vs2.toNat) else ↑4).toNat, 4)] hits = true) ∧
    (∃ (s : State) (u : BitVec 7) (vs1 : BitVec 5) (vs2 : BitVec 5) (pd : BitVec 3) (hits : List TileHit), coreOf u ≠
    isleCore ∧ s.canIssue (coreOf u) false = true ∧ (s.tile (coreOf u)).units = [] ∧ (BitVec.toNat ((s.tile (coreOf u)).sreg
    vs1.toNat) % 1 = 0 ∧ (false = true → BitVec.toInt ((s.tile (coreOf u)).sreg vs2.toNat) % ↑1 = 0) ∧ ∀ (k : Nat), k < 64 →
    BitVec.getLsbD ((s.tile (coreOf u)).preg pd.toNat) k = true → (0 ≤ ↑(BitVec.toNat ((s.tile (coreOf u)).sreg vs1.toNat))
    + ↑k * if false = true then BitVec.toInt ((s.tile (coreOf u)).sreg vs2.toNat) else ↑1) ∧ (↑(BitVec.toNat ((s.tile
    (coreOf u)).sreg vs1.toNat)) + ↑k * if false = true then BitVec.toInt ((s.tile (coreOf u)).sreg vs2.toNat) else ↑1) + ↑1
    ≤ 2 ^ 20) ∧ Memory.wf (s.tile (coreOf u)).store = true ∧ ∀ (k : Nat), k < 64 → BitVec.getLsbD ((s.tile (coreOf u)).preg
    pd.toNat) k = true → eccMild [((↑(BitVec.toNat ((s.tile (coreOf u)).sreg vs1.toNat)) + ↑k * if false = true then
    BitVec.toInt ((s.tile (coreOf u)).sreg vs2.toNat) else ↑1).toNat, 1)] hits = true) ∧
    (∃ (s : State) (u : BitVec 7) (vs1 : BitVec 5) (vs2 : BitVec 5) (pd : BitVec 3) (hits : List TileHit), coreOf u ≠
    isleCore ∧ s.canIssue (coreOf u) false = true ∧ (s.tile (coreOf u)).units = [] ∧ (BitVec.toNat ((s.tile (coreOf u)).sreg
    vs1.toNat) % 2 = 0 ∧ (false = true → BitVec.toInt ((s.tile (coreOf u)).sreg vs2.toNat) % ↑2 = 0) ∧ ∀ (k : Nat), k < 64 →
    BitVec.getLsbD ((s.tile (coreOf u)).preg pd.toNat) k = true → (0 ≤ ↑(BitVec.toNat ((s.tile (coreOf u)).sreg vs1.toNat))
    + ↑k * if false = true then BitVec.toInt ((s.tile (coreOf u)).sreg vs2.toNat) else ↑2) ∧ (↑(BitVec.toNat ((s.tile
    (coreOf u)).sreg vs1.toNat)) + ↑k * if false = true then BitVec.toInt ((s.tile (coreOf u)).sreg vs2.toNat) else ↑2) + ↑2
    ≤ 2 ^ 20) ∧ Memory.wf (s.tile (coreOf u)).store = true ∧ ∀ (k : Nat), k < 64 → BitVec.getLsbD ((s.tile (coreOf u)).preg
    pd.toNat) k = true → eccMild [((↑(BitVec.toNat ((s.tile (coreOf u)).sreg vs1.toNat)) + ↑k * if false = true then
    BitVec.toInt ((s.tile (coreOf u)).sreg vs2.toNat) else ↑2).toNat, 2)] hits = true) :=
  ⟨⟨(nth sts 0), 0, 0x1e, 0x1f, 4, [], by decide +kernel⟩,
    ⟨(nth sts 0), 1, 0x1d, 0x1f, 4, [], by decide +kernel⟩,
    ⟨(nth sts 0), 0, 0x1e, 0x1d, 4, [⟨4, false⟩], by decide +kernel⟩,
    ⟨(nth sts 0), 0, 0x1c, 0x1f, 5, [], by decide +kernel⟩,
    ⟨(nth sts 0), 1, 0x1e, 0x1d, 4, [⟨2, false⟩], by decide +kernel⟩,
    ⟨(nth sts 0), 0, 0x1f, 0x1e, 1, [], by decide +kernel⟩,
    ⟨(nth sts 0), 0, 0x1e, 0x1b, 4, [], by decide +kernel⟩,
    ⟨(nth sts 0), 1, 0x1f, 0x1f, 4, [⟨3, false⟩, ⟨0, false⟩], by decide +kernel⟩⟩

end W22

namespace W23

def tl : Tile → Tile := fun x => { x with s := [(1, 0x100), (2, 8)], store := ((List.range 900).map fun k => (k, BitVec.ofNat 8 (k * 31 + 7 * (k / 5) + 1))).filter fun e => e.2 != 0, written := (List.range 64).map fun k => (k, true), rescale := [(65, 0x1234567890),(513,0xDEADBEEF01234567)] }
def sts : List State := [upT w0 0 tl]

/-- Obligations.RescaleTableMoves: states and operands that meet its hypotheses, clause by clause. -/
theorem wit_RescaleTableMoves :
    (∃ (s : State) (u : BitVec 7) (vs1 : BitVec 5) (hits : List TileHit), coreOf u ≠ isleCore ∧ s.canIssue (coreOf u) false =
    true ∧ (s.tile (coreOf u)).units = [] ∧ BitVec.toNat ((s.tile (coreOf u)).sreg vs1.toNat) % 64 = 0 ∧ BitVec.toNat
    ((s.tile (coreOf u)).sreg vs1.toNat) + 512 ≤ 2 ^ 20 ∧ (s.tile (coreOf u)).unwrittenIn [(BitVec.toNat ((s.tile (coreOf
    u)).sreg vs1.toNat), 512)] = [] ∧ eccMild [(BitVec.toNat ((s.tile (coreOf u)).sreg vs1.toNat), 512)] hits = true) ∧
    (∃ (s : State) (u : BitVec 7) (vs1 : BitVec 5), coreOf u ≠ isleCore ∧ s.canIssue (coreOf u) false = true ∧ (s.tile
    (coreOf u)).units = [] ∧ BitVec.toNat ((s.tile (coreOf u)).sreg vs1.toNat) % 64 = 0 ∧ BitVec.toNat ((s.tile (coreOf
    u)).sreg vs1.toNat) + 512 ≤ 2 ^ 20 ∧ Memory.wf (s.tile (coreOf u)).store = true) :=
  ⟨⟨(nth sts 0), 0, 0x1f, [⟨0x100, false⟩], by decide +kernel⟩,
    ⟨(nth sts 0), 1, 0x1f, by decide +kernel⟩⟩

end W23

namespace W24

def sd (s : State) (d : Nat) (x : Dom) : State := s.setDom d x
def cl (s : State) (p : Bool) : State := { s with power := { s.power with clamp := p } }
def D (st : DomSt) (a : Nat) (r : RampSt) (t y : Bool) (n := 999900) : Dom := ⟨st, a, r, t, y, n⟩
def sts : List State := [cl w0 true, sd w0 12 (D .railWait 0 .none false false),
    sd w0 12 (D .railWait 1 .pending false false), sd w0 3 (D .railWait 0 .pending false false),
 { sd w0 13 (D .railWait 0 .pending false false) with flight := { FlightSeq.reset with lastClRamp := some 5 } },
     sd w0 12 (D .ramping 1 .active false false), sd w0 4 (D .ramping 0 .active false false),
     sd w0 12 (D .ramping 0 .active false false 999830), sd w0 4 (D .ramping 0 .active false false 900000),
     sd w0 10 (D .clockWait 0 .none false false),
     sd w0 10 (D .clockWait 0 .none true false),sd w0 4 (D .railWait 0 .none false false 0),sd w0 12 (D .retryWait 1 .none false false 0),
 sd w0 4 (D .clockWait 0 .none false false), sd w0 12 (D .clockWait 0 .none false false),
     sd w0 6 (D .clockWait 0 .none false false), sd w0 12 (D .scrub 0 .none false false),
     sd w0 13 (D .scrub 1 .none false true), sd w0 4 (D .clockWait 1 .none true true),
 sd w0 4 (D .railWait 0 .none false false), sd w0 12 (D .retryWait 1 .none false false),
     sd w0 4 (D .retryWait 1 .none false false), sd w0 12 (D .closing 0 .none false false),
 sd { w0 with flight := { FlightSeq.reset with running := true, todo := [1, 12] } } 4 (D .ramping 0 .active false false)]

/-- Obligations.DomainSteps: states and operands that meet its hypotheses, clause by clause. -/
theorem wit_DomainSteps :
    (∃ (s : State) (dom : BitVec 5), (s.dom dom.toNat).st = DomSt.railWait ∧ (s.dom dom.toNat).ramp = RampSt.none ∧ s.inLimit
    dom.toNat 20000 = true) ∧
    (∃ (s : State), s.power.clamp = true) ∧
    (∃ (s : State) (dom : BitVec 5), (s.dom dom.toNat).st = DomSt.ramping ∧ rampTime dom.toNat ≤ s.elapsed dom.toNat ∧
    s.inLimit dom.toNat (rampTime dom.toNat + 50) = true ∧ s.stopWaits dom.toNat = false ∧ ¬dom.toNat ∈ s.flight.todo) ∧
    (∃ (s : State) (dom : BitVec 5), (s.dom dom.toNat).st = DomSt.ramping ∧ s.late dom.toNat (rampTime dom.toNat + 50) = true
    ∧ s.stopWaits dom.toNat = false ∧ (s.dom dom.toNat).attempt < 2) ∧
    (∃ (s : State) (dom : BitVec 5), (s.dom dom.toNat).st = DomSt.clockWait ∧ (s.dom dom.toNat).ready = false ∧ s.inLimit
    dom.toNat (s.clockLimit dom.toNat) = true ∧ dom.toNat < 12 ∧ dom.toNat ≠ 6 ∧ dom.toNat ≠ 7 ∧ dom.toNat ≠ 10) ∧
    (∃ (s : State) (dom : BitVec 5), (s.dom dom.toNat).st = DomSt.clockWait ∧ (s.dom dom.toNat).ready = false ∧ s.inLimit
    dom.toNat (s.clockLimit dom.toNat) = true ∧ (dom.toNat = 6 ∨ dom.toNat = 7 ∨ 12 ≤ dom.toNat)) ∧
    (∃ (s : State) (dom : BitVec 5), (s.dom dom.toNat).st = DomSt.clockWait ∧ (s.dom dom.toNat).ready = false ∧ s.inLimit
    dom.toNat (s.clockLimit dom.toNat) = true ∧ dom.toNat = 10 ∧ s.memReopening = none ∧ (s.dom dom.toNat).trainDue = false) ∧
    (∃ (s : State) (dom : BitVec 5), (s.dom dom.toNat).st = DomSt.clockWait ∧ (s.dom dom.toNat).ready = false ∧ s.inLimit
    dom.toNat (s.clockLimit dom.toNat) = true ∧ dom.toNat = 10 ∧ s.memReopening = none ∧ (s.dom dom.toNat).trainDue = true) ∧
    (∃ (s : State) (dom : BitVec 5), (s.dom dom.toNat).st = DomSt.scrub ∧ (s.dom dom.toNat).ready = false ∧ 12 ≤ dom.toNat) ∧
    (∃ (s : State) (dom : BitVec 5), (s.dom dom.toNat).st = DomSt.scrub ∧ (s.dom dom.toNat).ready = false ∧ (s.dom
    dom.toNat).attempt < 2) ∧
    (∃ (s : State) (dom : BitVec 5), ((s.dom dom.toNat).st = DomSt.clockWait ∨ (s.dom dom.toNat).st = DomSt.scrub) ∧ (s.dom
    dom.toNat).ready = true ∧ s.reopening dom.toNat = none ∧ ¬dom.toNat ∈ s.flight.todo) ∧
    (∃ (s : State) (dom : BitVec 5), s.memReopening = none ∧ (s.dom dom.toNat).st = DomSt.railWait ∧ (s.dom dom.toNat).ramp =
    RampSt.none ∧ (s.dom dom.toNat).attempt < 2 ∧ s.late dom.toNat 20000 = true) ∧
    (∃ (s : State) (dom : BitVec 5), (s.dom dom.toNat).st = DomSt.retryWait ∧ s.memReopening = none ∧ 100000 ≤ s.elapsed
    dom.toNat) ∧
    (∃ (s : State) (dom : BitVec 5), (s.dom dom.toNat).st = DomSt.closing ∧ 12 ≤ dom.toNat ∧ s.clusterIdle (dom.toNat - 12) =
    true ∧ s.flight.entryStep ≠ 3 ∧ (∀ (h : Header), h ∈ s.mesh.waiting → h.src.toNat ≠ clStop (dom.toNat - 12)) ∧ (∀ (h :
    Header), h ∈ s.mesh.arrived → h.dst.toNat ≠ clStop (dom.toNat - 12)) ∧ s.stop = none ∧ ¬dom.toNat - 12 ∈
    s.power.condemned) :=
  ⟨⟨(nth sts 1), 0xc, by decide +kernel⟩,
    ⟨(nth sts 0), by decide +kernel⟩,
    ⟨(nth sts 7), 0xc, by decide +kernel⟩,
    ⟨(nth sts 8), 4, by decide +kernel⟩,
    ⟨(nth sts 13), 4, by decide +kernel⟩,
    ⟨(nth sts 14), 0xc, by decide +kernel⟩,
    ⟨(nth sts 9), 0xa, by decide +kernel⟩,
    ⟨(nth sts 10), 0xa, by decide +kernel⟩,
    ⟨(nth sts 16), 0xc, by decide +kernel⟩,
    ⟨(nth sts 16), 0xc, by decide +kernel⟩,
    ⟨(nth sts 17), 0xd, by decide +kernel⟩,
    ⟨(nth sts 11), 4, by decide +kernel⟩,
    ⟨(nth sts 12), 0xc, by decide +kernel⟩,
    ⟨(nth sts 22), 0xc, by decide +kernel⟩⟩

def oneRamp (d : Nat) : State := { w00 with doms := [(d, { Dom.reset with st := .railWait, ramp := .pending })] }

theorem wit_DomainSteps_1 : ∃ (s : State) (dom : BitVec 5), s.power.clamp = false ∧ 0 < dom.toNat ∧ dom.toNat < 28 ∧
    (s.dom dom.toNat).st = DomSt.railWait ∧ (s.dom dom.toNat).ramp = RampSt.pending ∧
    (∀ (e : Nat), e ≠ dom.toNat → (s.dom e).ramp = RampSt.none) ∧
    (12 ≤ dom.toNat → ∀ (g : Nat), s.flight.lastClRamp = some g → g + 300 ≤ s.gtc) := by
  refine ⟨oneRamp 27, 27, by decide +kernel, by decide, by decide, by decide +kernel, by decide +kernel, ?_, ?_⟩
  · intro e h
    have h' : ¬(27 = e) := fun k => h k.symm
    simp [oneRamp, State.dom, Tab.get, h', Dom.reset]
  · intro _ g h
    have e : (oneRamp 27).flight.lastClRamp = none := by decide +kernel
    rw [e] at h; cases h

end W24

namespace W25

def fl (s : State) : State := { s with flight := { FlightSeq.reset with running := true, coldNext := false } }
def sts : List State := [w0, { w0 with pins := { w0.pins with resetN := false } }, fl (w0.put Reg.ENG_STATE_STATE 0), 
  { fl (w0.put Reg.ENG_STATE_STATE 0) with flight := { FlightSeq.reset with running := true, coldNext := false, todo := [1, 2, 5] }, onRc := true, doms := [(0, { Dom.reset with st := .opened })] },
  w0.setDom 14 { Dom.reset with st := .closing }, { w0 with doms := [(0, { Dom.reset with st := .opened })] },
      { w0.setDom 14 { Dom.reset with st := .closing } with stop := some ⟨1, 2, false, true, false, 5, false⟩ },
      w0.put Reg.ENG_STATE_STATE 4]

/-- Obligations.ResetCommands: states and operands that meet its hypotheses, clause by clause. -/
theorem wit_ResetCommands :
    (∃ (s : State), s.pins.resetN = false) ∧
    (∃ (s : State) (src : Source) (value : BitVec 32), s.srcReaches src = true ∧ resetCmdIs value 1 = true ∧ s.pins.resetN =
    true) ∧
    (∃ (s : State), s.flight.running = true ∧ s.get Reg.PWR_FLIGHT_STATUS_PHASE = 0 ∧ s.alarmed = false) ∧
    (∃ (s : State), s.onRc = false ∧ s.eng = engStandby) ∧
    (∃ (s : State) (src : Source) (value : BitVec 32) (cl : BitVec 4), s.srcReaches src = true ∧ resetCmdIs value 2 = true ∧
    resetTarget value = cl.toNat ∧ s.get Reg.PWR_RESET_STATUS_BUSY = 0 ∧ s.stop = none ∧ s.flight.running = false ∧
    s.isReady = true ∧ s.clEnabled cl.toNat = true ∧ s.domOpen (clDom cl.toNat) = true ∧ (s.gateOf (clDom cl.toNat)).at_ ≠
    some s.gtc) ∧
    (∃ (s : State) (cl : BitVec 4), (s.dom (clDom cl.toNat)).st = DomSt.closing ∧ s.stopWaits (clDom cl.toNat) = true ∧
    100000 ≤ s.elapsed (clDom cl.toNat)) ∧
    (∃ (s : State), (∀ (d : Nat), d ∈ flightOrder → d ≠ 9 → s.domLive d = false) ∧ s.eng ≠ engStandby) :=
  ⟨⟨(nth sts 1), by decide +kernel⟩,
    ⟨(nth sts 5), Source.mgmt, 0xa5c30001, by decide +kernel⟩,
    ⟨(nth sts 2), by decide +kernel⟩,
    ⟨(nth sts 7), by decide +kernel⟩,
    ⟨(nth sts 1), Source.mgmt, 0xa5c30202, 2, by decide +kernel⟩,
    ⟨(nth sts 6), 2, by decide +kernel⟩,
    ⟨(nth sts 3), by decide +kernel⟩⟩

theorem wit_ResetCommands_1 : ∃ (s : State), s.onRc = false ∧ s.eng ≠ engStandby ∧
    ∀ (d : Nat), 0 < d → d < 28 → (s.gateOf d).at_ ≠ some s.gtc := by
  refine ⟨w0, by decide +kernel, by decide +kernel, ?_⟩
  intro d _ _ h
  have e : w0.gates = [] := by decide +kernel
  rw [State.gateOf, e] at h
  cases h

end W25

namespace W26

def hd : List Byte := leBytes 4 0x4E425256 ++ leBytes 2 1 ++ [2,
    0] ++ leBytes 4 0x1000 ++ List.replicate (0x80 - 12) 0 ++ ([1, 3, 0,
    0] ++ leBytes 4 0x200 ++ leBytes 4 0x40 ++ leBytes 4 0x300 ++ List.replicate 16 0) ++ ([2, 3, 0,
    0] ++ leBytes 4 0x240 ++ leBytes 4 0x40 ++ leBytes 4 0x300 ++ List.replicate 16 0)
def base : State := (w0.put Reg.ENG_STATE_STATE 0)
def f (s : State) (g : FlightSeq → FlightSeq) : State := { s with flight := g { FlightSeq.reset with running := true, coldNext := false } }
def sts : List State := [f base id,
    { f base (fun x => { x with otpDone := true }) with keeper := { Keeper.reset with keys := true } },
    f base (fun x => { x with katDone := true, otpDone := true }),{ f base (fun x => { x with katDone := true, otpDone := true }) with gtc := 2000000000 },
    f { base with ctxs := (7, { ctx5 with pid := 3 }) :: base.ctxs, mem := Cells.putList [] 0x600000 hd } (fun x => { x with katDone := true, otpDone := true, bundle := some (0x600000, 5, 0x1000) }),
  f base (fun x => { x with images := [(2, 3, 0x240, 0x40)], bundle := some (0x600000, 5, 0x1000), katDone := true, otpDone := true, bundleFetched := true, kfwLoaded := true }),
  f base (fun x => { x with images := [], bundle := some (0x600000, 5, 0x1000), katDone := true, otpDone := true, bundleFetched := true, kfwLoaded := true, dspmLoaded := true }),
  f (base.put Reg.PWR_SERVICE_BY_FAILURE 4) (fun x => { x with images := [], bundle := some (0x600000, 5, 0x1000), katDone := true, otpDone := true, bundleFetched := true, kfwLoaded := true, dspmLoaded := true, commitSvn := true, svn := [(1, 4), (2, 40)] })]

/-- Obligations.KeeperFlight: states and operands that meet its hypotheses, clause by clause. -/
theorem wit_KeeperFlight :
    (∃ (s : State), s.flight.running = true ∧ s.domLive 2 = true ∧ s.flight.katDone = false ∧ s.eng = engFlight) ∧
    (∃ (s : State), s.flight.running = true ∧ s.domLive 2 = true ∧ s.flight.katDone = true ∧ s.flight.otpDone = true ∧
    s.flight.bundle = none ∧ s.alarmed = false ∧ s.flight.waitAt + 1000000000 ≤ s.gtc) ∧
    (∃ (s : State) (pa : Nat) (cid : Nat) (total : Nat) (bs : List Byte) (l : List (Nat × Nat × Nat × Nat)), s.flight.running
    = true ∧ s.domLive 2 = true ∧ s.flight.katDone = true ∧ s.flight.otpDone = true ∧ s.flight.bundleFetched = false ∧
    s.domOpen 10 = true ∧ s.flight.bundle = some (pa, cid, total) ∧ s.ownRead cid pa 256 = some bs ∧ parseBundle (leNat bs)
    total = some l ∧ (∃ e, e ∈ l ∧ e.fst = 1) ∧ (∃ e, e ∈ l ∧ e.fst = 2) ∧ s.yard = false) ∧
    (∃ (s : State) (pa : Nat) (cid : Nat) (total : Nat) (svn : Nat) (off : Nat) (len : Nat) (bs : List Byte),
    s.flight.running = true ∧ s.domLive 2 = true ∧ s.flight.bundle = some (pa, cid, total) ∧ List.find? (fun e => e.fst ==
    2) s.flight.images = some (2, svn, off, len) ∧ len ≤ 2 ^ 18 ∧ s.ownRead cid (pa + off) len = some bs ∧ Tab.get 0
    s.fuses.svn 2 ≤ svn ∧ (s.gateOf 3).at_ ≠ some s.gtc) ∧
    (∃ (s : State) (pa : Nat) (cid : Nat) (total : Nat) (svn : Nat) (off : Nat) (len : Nat) (bs : List Byte),
    s.flight.running = true ∧ s.domLive 2 = true ∧ s.flight.bundle = some (pa, cid, total) ∧ List.find? (fun e => e.fst ==
    2) s.flight.images = some (2, svn, off, len) ∧ len ≤ 2 ^ 18 ∧ s.ownRead cid (pa + off) len = some bs ∧ Tab.get 0
    s.fuses.svn 2 ≤ svn ∧ s.alarmed = false) ∧
    (∃ (s : State), s.flight.running = true ∧ s.domLive 2 = true ∧ s.get Reg.PWR_FLIGHT_STATUS_KIND < 2 ∧ s.eng ≠ engAlarmed
    ∧ s.settled = true ∧ s.flight.kfwLoaded = true ∧ s.flight.dspmLoaded = true ∧ s.flight.images = []) :=
  ⟨⟨(nth sts 0), by decide +kernel⟩,
    ⟨(nth sts 3), by decide +kernel⟩,
    ⟨(nth sts 4), 6291456, 5, 4096, ([0x56, 0x52, 0x42, 0x4e, 0x1, 0x0, 0x2, 0x0, 0x0, 0x10] ++ List.replicate 118 0x0
    ++ [0x1, 0x3, 0x0, 0x0, 0x0, 0x2, 0x0, 0x0, 0x40, 0x0, 0x0, 0x0, 0x0, 0x3] ++ List.replicate 18 0x0 ++ [0x2, 0x3,
    0x0, 0x0, 0x40, 0x2, 0x0, 0x0, 0x40, 0x0, 0x0, 0x0, 0x0, 0x3] ++ List.replicate 82 0x0), [(1, 3, 512, 64), (2, 3,
    576, 64)], by decide +kernel⟩,
    ⟨(nth sts 5), 6291456, 5, 4096, 3, 576, 64, (List.replicate 64 0x0), by decide +kernel⟩,
    ⟨(nth sts 5), 6291456, 5, 4096, 3, 576, 64, (List.replicate 64 0x0), by decide +kernel⟩,
    ⟨(nth sts 6), by decide +kernel⟩⟩

end W26

namespace W27

def idl (s : State) : State := { s with disp := { s.disp with tiles := [(9, ⟨.running, none, none, 0, some (1, 2, 0), 7, none⟩)] } }
def f (s : State) (g : FlightSeq → FlightSeq) : State := { s with flight := g { FlightSeq.reset with coldNext := false } }
def sb (s : State) : State := s.put Reg.ENG_STATE_STATE 4
def k : Keeper := { Keeper.reset with keys := true, kfw := [1, 2, 3], dspm := [4, 5] }
def sv (s : State) : State := putAll s [(Reg.PWR_STANDBY_SAVE_VALID, 1), (Reg.PWR_STANDBY_SAVE_BASE, 8)]
def st5 : State := { sv w0 with keeper := { k with digests := (digestOf [1, 2, 3], digestOf [4, 5]), wrapped := true, wrappedSeal := [(2, 7)] }, mem := (Cells.putList [] (8 * 2 ^ 21 + 0x300000) [1, 2, 3]).putList (8 * 2 ^ 21 + 0x340000) [4, 5] }
def sts : List State := [w0, sv w0, { w0 with fuses := { w0.fuses with package := 2 } },
    f w0 (fun x => { x with entryStep := 1 }), idl (f w0 (fun x => { x with entryStep := 1 })),
    idl (f w0 (fun x => { x with entryStep := 1, entryAt := 950000 })), (sv w0).put Reg.ENG_STATE_STATE 3,
    (sv w0).put Reg.PWR_STOP_STATUS_BUSY 1,  f w0 (fun x => { x with entryStep := 3 }), 
  { f (sv w0) (fun x => { x with entryStep := 5 }) with keeper := k, sealKeys := [(2, 9)] }, sb w0,
      f st5 (fun x => { x with running := true }) |>.put Reg.PWR_FLIGHT_STATUS_KIND 2,
      f st5 (fun x => { x with running := true, unwrapped := true }) |>.put Reg.PWR_FLIGHT_STATUS_KIND 2,
      f st5 (fun x => { x with running := true, unwrapped := true, dspmChecked := true }) |>.put Reg.PWR_FLIGHT_STATUS_KIND 2]

/-- Obligations.WatchStandby: states and operands that meet its hypotheses, clause by clause. -/
theorem wit_WatchStandby :
    (∃ (s : State) (src : Source) (value : BitVec 32), s.srcReaches src = true ∧ value.getLsbD 1 = true ∧ s.get
    Reg.PWR_FLIGHT_CTRL_STANDBY_REQ = 0 ∧ s.yard = true) ∧
    (∃ (s : State) (src : Source) (value : BitVec 32), s.srcReaches src = true ∧ value.getLsbD 1 = true ∧ s.get
    Reg.PWR_FLIGHT_CTRL_STANDBY_REQ = 0 ∧ s.yard = false ∧ s.get Reg.PWR_STANDBY_SAVE_VALID = 0) ∧
    (∃ (s : State) (src : Source) (value : BitVec 32), s.srcReaches src = true ∧ value.getLsbD 1 = true ∧ s.get
    Reg.PWR_FLIGHT_CTRL_STANDBY_REQ = 0 ∧ s.yard = false ∧ s.get Reg.PWR_STANDBY_SAVE_VALID = 1 ∧ s.isReady = false) ∧
    (∃ (s : State) (src : Source) (value : BitVec 32), s.srcReaches src = true ∧ value.getLsbD 1 = true ∧ s.get
    Reg.PWR_FLIGHT_CTRL_STANDBY_REQ = 0 ∧ s.yard = false ∧ s.get Reg.PWR_STANDBY_SAVE_VALID = 1 ∧ s.isReady = true ∧ (s.get
    Reg.PWR_RESET_STATUS_BUSY = 1 ∨ s.get Reg.PWR_STOP_STATUS_BUSY = 1 ∨ s.get Reg.MSH_EPOCH_STATE ≠ 0)) ∧
    (∃ (s : State) (src : Source) (value : BitVec 32), s.srcReaches src = true ∧ value.getLsbD 1 = true ∧ s.get
    Reg.PWR_FLIGHT_CTRL_STANDBY_REQ = 0 ∧ s.yard = false ∧ s.get Reg.PWR_STANDBY_SAVE_VALID = 1 ∧ s.isReady = true ∧ s.get
    Reg.PWR_RESET_STATUS_BUSY = 0 ∧ s.get Reg.PWR_STOP_STATUS_BUSY = 0 ∧ s.get Reg.MSH_EPOCH_STATE = 0) ∧
    (∃ (s : State), s.flight.entryStep = 1 ∧ ∀ (c : Nat), c < 16 → s.clusterIdle c = true) ∧
    (∃ (s : State), s.flight.entryStep = 1 ∧ (∃ c, c ∈ List.range 16 ∧ s.clusterIdle c = false) ∧ s.flight.entryAt + 100000 ≤
    s.gtc) ∧
    (∃ (s : State), s.flight.entryStep = 1 ∧ (∃ c, c ∈ List.range 16 ∧ s.clusterIdle c = false) ∧ s.gtc < s.flight.entryAt +
    100000) ∧
    (∃ (s : State), s.flight.entryStep = 3 ∧ s.clustersShut = false) ∧
    (∃ (s : State), s.flight.entryStep = 5 ∧ s.flight.wakeDue = false) ∧
    (∃ (s : State) (src : Source) (value : BitVec 32), s.srcReaches src = true ∧ value.getLsbD 0 = true ∧ s.eng = engStandby) ∧
    (∃ (s : State), s.domLive 2 = true ∧ s.flight.running = true ∧ s.get Reg.PWR_FLIGHT_STATUS_KIND = 2 ∧ s.flight.unwrapped
    = false) ∧
    (∃ (s : State), s.domLive 1 = true ∧ s.flight.running = true ∧ s.get Reg.PWR_FLIGHT_STATUS_KIND = 2 ∧ s.flight.unwrapped
    = true ∧ s.flight.dspmChecked = true ∧ s.settled = true) :=
  ⟨⟨(nth sts 2), Source.mgmt, 0x50002, by decide +kernel⟩,
    ⟨(nth sts 4), Source.mgmt, 0x50002, by decide +kernel⟩,
    ⟨(nth sts 6), Source.host, 0x50002, by decide +kernel⟩,
    ⟨(nth sts 7), Source.mgmt, 0x50002, by decide +kernel⟩,
    ⟨(nth sts 9), Source.mgmt, 0x50002, by decide +kernel⟩,
    ⟨(nth sts 3), by decide +kernel⟩,
    ⟨(nth sts 4), by decide +kernel⟩,
    ⟨(nth sts 5), by decide +kernel⟩,
    ⟨(nth sts 8), by decide +kernel⟩,
    ⟨(nth sts 9), by decide +kernel⟩,
    ⟨(nth sts 10), Source.mgmt, 0xf511, by decide +kernel⟩,
    ⟨(nth sts 11), by decide +kernel⟩,
    ⟨(nth sts 13), by decide +kernel⟩⟩

def sealedIsland : State :=
  let s := nth sts 12
  { s with keeper := { s.keeper with digests := (digestOf [1, 2, 3], digestOf [4, 5]) } }

theorem wit_WatchStandby_1 : ∃ (s : State), s.flight.entryStep = 3 ∧ s.clustersShut = true :=
  ⟨{ f w0 (fun x => { x with entryStep := 3 }) with doms := openDoms.take 12 }, by decide +kernel⟩

theorem wit_WatchStandby_2 : ∃ (s : State), s.flight.entryStep = 4 ∧ s.keeper.kfw.length ≤ 2 ^ 18 ∧ s.keeper.dspm.length ≤ 2 ^ 18 :=
  ⟨{ f w0 (fun x => { x with entryStep := 4 }) with keeper := k }, by decide +kernel⟩

theorem wit_WatchStandby_3 : ∃ (s : State), s.eng ≠ engStandby ∧ s.flight.entryStep = 4 :=
  ⟨f w0 (fun x => { x with entryStep := 4 }), by decide +kernel⟩

theorem wit_WatchStandby_4 : ∃ (s : State) (k : List Byte) (d : List Byte), s.domLive 2 = true ∧ s.flight.running = true ∧
    s.flight.unwrapped = true ∧ s.flight.dspmChecked = false ∧ s.domOpen 10 = true ∧ s.domOpen 3 = true ∧
    s.ownRead s.driverCid (s.saveAt 3145728) s.keeper.kfw.length = some k ∧
    s.ownRead s.driverCid (s.saveAt 3407872) s.keeper.dspm.length = some d ∧ digestOf k = s.keeper.digests.fst ∧
    digestOf d = s.keeper.digests.snd := by
  refine ⟨sealedIsland, [1, 2, 3], [4, 5], ?_, ?_, ?_, ?_, ?_, ?_, ?_, ?_, rfl, rfl⟩ <;> decide +kernel

end W27

namespace W28

def cn (s : State) (f : Conc → Conc) : State := { s with conc := f s.conc }
def fr (i : Nat) : FaultRec := ⟨i, 0x20, 5, 3, 2^40+7, 12345678, some 5, if i = 1 then some 77 else none, none⟩
def sts : List State := [cn w0 (fun c => { c with sent := [.demand 1, .fault (fr 1)], held := [.wake 1 2], fifo := [.demand 4], enteredAt := 1000000, enteredKeys := [100] }),
    cn w0 (fun c => { c with sent := [.demand 1, .fault (fr 1)], held := [.wake 1 2], fifo := [.demand 4], enteredAt := 1000000, enteredKeys := [2] }),
    cn w0 (fun c => { c with sent := [.demand 1, .sampleProbe 3 [1], .fault (fr 1)], held := [.wake 1 2, .demand 3] }),
    cn w0 (fun c => { c with sent := [.demand 1, .sampleProbe 3 [1], .fault (fr 1)], fifo := List.replicate 64 (.demand 2) }),
  cn w0 (fun c => { c with fifo := [.fault (fr 1), .fault (fr 2), .demand 3], log := [(3, 7), (32, 9)] }),
      (cn w0 (fun c => { c with fifo := [.fault (fr 1), .fault (fr 2)], unread := 600, trace := [⟨5, 1, 2, some 5, 7⟩, ⟨6, 2, 3, none, 9⟩] })).put Reg.ERR_LOG_SEQ_NEXT 65535,
      cn w0 (fun c => { c with fifo := [.demand 3] }),
  { w0 with host := { w0.host with events := [3, 4] } },
      putAll { w0 with host := { w0.host with events := [3, 4] } } [(Reg.ERR_VEC_ADDR 3, 0x1000)],
      putAll { w0 with host := { w0.host with events := [3, 4] } } [(Reg.ERR_VEC_ADDR 3, 0x1000), (Reg.ERR_VEC_MASK 3, 1),
      (Reg.ERR_VEC_PENDING 3, 1)]]

/-- Obligations.FaultReports: states and operands that meet its hypotheses, clause by clause. -/
theorem wit_FaultReports :
    (∃ (s : State) (k : BitVec 16) (r : Report), s.domLive 1 = true ∧ s.conc.sent[k.toNat]? = some r ∧ (∀ (x : Report), x ∈
    List.take k.toNat s.conc.sent → reportKey x ≠ reportKey r) ∧ (∀ (x : Report), x ∈ s.conc.held → reportKey x ≠ reportKey
    r) ∧ s.awaitsCause r = false ∧ s.conc.fifo.length < 64) ∧
    (∃ (s : State) (k : BitVec 16) (r : Report), s.domLive 1 = true ∧ s.conc.sent[k.toNat]? = some r ∧ (∀ (x : Report), x ∈
    List.take k.toNat s.conc.sent → reportKey x ≠ reportKey r) ∧ (∀ (x : Report), x ∈ s.conc.held → reportKey x ≠ reportKey
    r) ∧ s.awaitsCause r = false ∧ 64 ≤ s.conc.fifo.length ∧ r.isSample = false) ∧
    (∃ (s : State) (k : BitVec 16) (r : Report), s.domLive 1 = true ∧ s.conc.sent[k.toNat]? = some r ∧ (∀ (x : Report), x ∈
    List.take k.toNat s.conc.sent → reportKey x ≠ reportKey r) ∧ (∀ (x : Report), x ∈ s.conc.held → reportKey x ≠ reportKey
    r) ∧ s.awaitsCause r = false ∧ 64 ≤ s.conc.fifo.length ∧ r.isSample = true) ∧
    (∃ (s : State) (r : Report) (rest : List Report), s.domLive 1 = true ∧ s.conc.held = r :: rest ∧ s.conc.fifo.length < 64) ∧
    (∃ (s : State) (r : FaultRec) (r2 : FaultRec) (rest : List Report), s.domLive 1 = true ∧ (s.flight.running = false ∨
    s.get Reg.PWR_FLIGHT_STATUS_KIND ≠ 2) ∧ s.conc.fifo = Report.fault r :: Report.fault r2 :: rest ∧ Memory.wf s.conc.log =
    true) ∧
    (∃ (s : State) (n : Nat), s.domLive 1 = true ∧ (s.flight.running = false ∨ s.get Reg.PWR_FLIGHT_STATUS_KIND ≠ 2) ∧
    s.conc.fifo = [Report.demand n]) ∧
    (∃ (s : State) (v : Nat) (rest : List Nat), s.domLive 1 = true ∧ s.domLive 5 = true ∧ s.host.events = v :: rest ∧ s.get
    (Reg.ERR_VEC_ADDR v) = 0) ∧
    (∃ (s : State) (v : Nat) (rest : List Nat), s.domLive 1 = true ∧ s.domLive 5 = true ∧ s.host.events = v :: rest ∧ s.get
    (Reg.ERR_VEC_ADDR v) ≠ 0 ∧ s.get (Reg.ERR_VEC_MASK v) = 1) ∧
    (∃ (s : State) (v : Nat) (rest : List Nat), s.domLive 1 = true ∧ s.domLive 5 = true ∧ s.host.events = v :: rest ∧ s.get
    (Reg.ERR_VEC_ADDR v) ≠ 0 ∧ s.get (Reg.ERR_VEC_MASK v) = 0) ∧
    (∃ (s : State) (r : TraceRec) (rest : List TraceRec), s.domLive 1 = true ∧ s.conc.trace = r :: rest ∧ s.conc.traceStop =
    false ∧ s.get Reg.MON_TRACE_CTRL_MODE = 0 ∧ s.ownerOk s.driverCid (s.get Reg.MON_TRACE_BASE_BASE * 2 ^ 12 + s.get
    Reg.MON_TRACE_TAIL_INDEX % s.traceSize * 16) false = true ∧ s.keyAbsent (s.get Reg.MON_TRACE_BASE_BASE * 2 ^ 12 + s.get
    Reg.MON_TRACE_TAIL_INDEX % s.traceSize * 16) = false) :=
  ⟨⟨(nth sts 2), 1, Report.sampleProbe 3 [1], by decide +kernel⟩,
    ⟨(nth sts 3), 0, Report.demand 1, by decide +kernel⟩,
    ⟨(nth sts 3), 1, Report.sampleProbe 3 [1], by decide +kernel⟩,
    ⟨(nth sts 2), Report.wake 1 2, [Report.demand 3], by decide +kernel⟩,
    ⟨(nth sts 5), ⟨1, 32, 5, 3, 1099511627783, 12345678, some 5, some 77, none⟩, ⟨2, 32, 5, 3, 1099511627783, 12345678,
    some 5, none, none⟩, [], by decide +kernel⟩,
    ⟨(nth sts 1), 4, by decide +kernel⟩,
    ⟨(nth sts 7), 3, [4], by decide +kernel⟩,
    ⟨(nth sts 9), 3, [4], by decide +kernel⟩,
    ⟨(nth sts 8), 3, [4], by decide +kernel⟩,
    ⟨(nth sts 5), ⟨5, 1, 2, some 5, 7⟩, [⟨6, 2, 3, none, 9⟩], by decide +kernel⟩⟩

end W28

namespace W29

def sl (s : State) : State := putAll s [(Reg.MON_SLOT_CFG_EN 1, 1), (Reg.MON_SLOT_CFG_KIND 1, 1), (Reg.MON_SLOT_CFG_EN 2, 1),
    (Reg.MON_SLOT_CFG_KIND 2, 2), (Reg.MON_SLOT_CFG_SUBJECT 2, 3), (Reg.MON_SLOT_CFG_WINDOW_MS 1, 10),
    (Reg.MON_SLOT_CFG_WINDOW_MS 2, 2), (Reg.MON_CAP_BASE_SIZE_LOG2, 6), (Reg.MON_CAP_BASE_BASE, 0x300),
    (Reg.MON_SLOT_SAMPLES_N 1, 7), (Reg.MON_SLOT_MIN_MIN 1, 50), (Reg.MON_SLOT_BIN_N 1 0, 2^32-1)]
def pt : Partial := ⟨1, 40, 90, 5, [3, 4], 63, false⟩
def sts : List State := [sl w0, { sl w0 with conc := { w0.conc with inbox := [.samplePart pt] } },
    { sl w0 with conc := { w0.conc with inbox := [.samplePart { pt with slot := 2 }, .wake 1 2] } },
  { sl w0 with copies := { Copies.reset with word := some 999424 } },
      { sl w0 with copies := { Copies.reset with word := some 999424, stale := [3, 100], hold := [3, 7], off := [(3, -20), (7, 5)] } },
      { sl w0 with copies := { Copies.reset with word := some 100 } },
  ((List.range 64).foldl (fun s k => putAll s [(Reg.MON_SLOT_CFG_EN (k+10), 1), (Reg.MON_SLOT_CFG_KIND (k+10), 1)]) w0)]

/-- Obligations.MonitorsAndCopies: states and operands that meet its hypotheses, clause by clause. -/
theorem wit_MonitorsAndCopies :
    (∃ (s : State) (k : BitVec 8), s.domLive 1 = true ∧ s.get (Reg.MON_SLOT_CFG_EN k.toNat) = 1 ∧ s.subjectOk k.toNat = true
    ∧ s.domLive (s.slotDom k.toNat) = true ∧ Tab.get 0 s.mon.partAt k.toNat + s.reportPeriod ≤ s.gtc) ∧
    (∃ (s : State) (n : BitVec 10), s.domLive 1 = true ∧ s.domLive 3 = true ∧ Tab.get 0 s.mon.ctxAt n.toNat + s.reportPeriod
    ≤ s.gtc) ∧
    (∃ (s : State) (n : BitVec 4), s.domLive 1 = true ∧ s.domLive (clDom n.toNat) = true) ∧
    (∃ (s : State) (p : Partial) (rest : List Report), s.domLive 1 = true ∧ s.conc.inbox = Report.samplePart p :: rest ∧
    s.get Reg.MON_CTRL_FREEZE = 0 ∧ s.get (Reg.MON_SLOT_CFG_EN p.slot) = 1 ∧ 0 < p.count) ∧
    (∃ (s : State) (k : BitVec 8), s.domLive 1 = true ∧ 0 < s.get (Reg.MON_SLOT_CFG_WINDOW_MS k.toNat) ∧ s.get
    (Reg.MON_SLOT_CFG_EN k.toNat) = 1 ∧ s.time copyTow / (s.get (Reg.MON_SLOT_CFG_WINDOW_MS k.toNat) * 100000) ≠ Tab.get 0
    s.mon.window k.toNat ∧ s.conc.capStop = false ∧ 0 < s.capSize ∧ (s.get Reg.MON_CAP_TAIL_INDEX + 2 ^ 32 - s.get
    Reg.MON_CAP_HEAD_INDEX) % 2 ^ 32 ≠ s.capSize ∧ s.ownerOk s.driverCid (s.get Reg.MON_CAP_BASE_BASE * 2 ^ 12 + s.get
    Reg.MON_CAP_TAIL_INDEX % s.capSize * 128) false = true ∧ s.keyAbsent (s.get Reg.MON_CAP_BASE_BASE * 2 ^ 12 + s.get
    Reg.MON_CAP_TAIL_INDEX % s.capSize * 128) = false) ∧
    (∃ (s : State), s.domLive 1 = true ∧ s.onRc = false) ∧
    (∃ (s : State) (k : BitVec 8) (n : BitVec 64) (w : Nat), s.domLive 1 = true ∧ s.domLive (copyDom k.toNat) = true ∧
    k.toNat ≠ copyMaster ∧ s.copies.word = some w ∧ w ≤ s.gtc ∧ n.toNat + 1 < s.gtc) ∧
    (∃ (s : State) (k : BitVec 8) (n : BitVec 64) (w : Nat), s.domLive 1 = true ∧ s.domLive (copyDom k.toNat) = true ∧
    k.toNat ≠ copyMaster ∧ s.copies.word = some w ∧ w ≤ s.gtc ∧ s.gtc + 1 < n.toNat) ∧
    (∃ (s : State) (k : BitVec 8) (n : BitVec 64) (w : Nat), s.domLive 1 = true ∧ s.domLive (copyDom k.toNat) = true ∧
    k.toNat ≠ copyMaster ∧ s.copies.word = some w ∧ w ≤ s.gtc ∧ n.toNat ≤ s.gtc + 1 ∧ s.gtc ≤ n.toNat + 1) ∧
    (∃ (s : State) (k : BitVec 8), s.domLive 1 = true ∧ s.domLive (copyDom k.toNat) = true ∧ k.toNat ≠ copyMaster ∧ ¬k.toNat
    ∈ s.copies.stale ∧ Tab.get 0 s.copies.syncAt k.toNat + 4096 ≤ s.gtc ∧ (s.dom (copyDom k.toNat)).since + 4096 ≤ s.gtc) :=
  ⟨⟨(nth sts 6), 0x49, by decide +kernel⟩,
    ⟨(nth sts 1), 0x3ff, by decide +kernel⟩,
    ⟨(nth sts 5), 0xf, by decide +kernel⟩,
    ⟨(nth sts 1), ⟨1, 40, 90, 5, [3, 4], 63, false⟩, [], by decide +kernel⟩,
    ⟨(nth sts 5), 2, by decide +kernel⟩,
    ⟨(nth sts 5), by decide +kernel⟩,
    ⟨(nth sts 4), 1, 0xffeb, 999424, by decide +kernel⟩,
    ⟨(nth sts 3), 0xfe, 0xa000000000000005, 999424, by decide +kernel⟩,
    ⟨(nth sts 3), 0xf5, 0xf4241, 999424, by decide +kernel⟩,
    ⟨(nth sts 2), 0xfe, by decide +kernel⟩⟩

theorem wit_MonitorsAndCopies_1 : ∃ (s : State) (k : BitVec 8), s.domLive 1 = true ∧ s.get (Reg.MON_SLOT_CFG_EN k.toNat) = 1 ∧
    s.subjectOk k.toNat = true ∧ s.domLive (s.slotDom k.toNat) = true ∧
    s.gtc < Tab.get 0 s.mon.partAt k.toNat + s.reportPeriod :=
  ⟨let s := nth sts 6; { s with mon := { s.mon with partAt := [(0x49, s.gtc)] } }, 0x49, by decide +kernel⟩

theorem wit_MonitorsAndCopies_2 : ∃ (s : State), s.domLive 1 = true ∧ s.onRc = true := ⟨{ w0 with onRc := true }, by decide +kernel⟩

end W29

namespace W30

def ii (s : State) (f : Island → Island) : State := { s with island := f s.island }
def b0 (s : State) : State := putAll s [(Reg.WAT_CTRL_RUN, 1), (Reg.WAT_STATUS_PROG_STATE, 2), (Reg.WAT_FRAME_FORMAT_WIDTH,
    2), (Reg.WAT_FRAME_FORMAT_HEIGHT, 3), (Reg.WAT_TRIGGER_VALID 1, 1)]
def sq (s : State) (k : Nat) : State := s.put Reg.WAT_STATUS_SEQ_STATE k
def od : Order := ⟨2, 3, 1, 0, 0x2A, 0x10000, [(1, 2, 3), (4, 5, 6)], 0, 999000⟩
def cp : Capture := ⟨0, false, some od, 0, none, false, false, false, false, []⟩
def p11 (s : State) : State := s.setDom 11 Dom.reset
def sts : List State := [b0 w0, p11 (ii (b0 w0) fun i => { i with linkUp := false }), putAll (b0 w0) [(Reg.WAT_STATUS_KEEP_A,
    1), (Reg.WAT_STATUS_KEEP_B, 1)], ii (b0 w0) fun i => { i with periodAt := some 999999 },
  sq (ii (b0 w0) fun i => { i with capture := some { cp with order := none }, linkUp := false, ready := [0, 1], frames := [(0, some ⟨1,2,3,4,5⟩)] }) 1,
      (sq (ii (b0 w0) fun i => { i with capture := some { cp with order := none } }) 1).put Reg.WAT_FRAME_FORMAT_WIDTH 0,
      sq (ii (b0 w0) fun i => { i with capture := some cp }) 2,
      sq (ii (b0 w0) fun i => { i with capture := some { cp with order := some { od with triggers := [(1,2,3)] } } }) 2,
  sq (ii (b0 w0) fun i => { i with capture := some cp }) 3,
      sq (ii (b0 w0) fun i => { i with capture := some { cp with stamp := some 9, line := 1 } }) 3,
      sq (ii (b0 w0) fun i => { i with capture := some { cp with linkUp := true } }) 3, 
  sq (ii (b0 w0) fun i => { i with capture := some { cp with linkUp := true }, lanes := [(0,0),(1,0),(2,0)] }) 3,
      (sq (ii (b0 w0) fun i => { i with capture := some { cp with linkUp := true }, lanes := [(0,0),(1,0),(2,0)] }) 3).put Reg.WAT_FRAME_FORMAT_LANES 0,
      sq (b0 w0) 4, { sq (ii (b0 w0) fun i => { i with capture := some { cp with stamp := some 9, line := 3 } }) 3 with tiles := [] },
  { sq (ii (b0 w0) fun i => { i with capture := some { cp with stamp := some 9, line := 3 } }) 3 with tiles := [] }.put Reg.WAT_FRAME_WINDOW_TICKS 2000]

/-- Obligations.IslandCaptures: states and operands that meet its hypotheses, clause by clause. -/
theorem wit_IslandCaptures :
    (∃ (s : State), s.yard = false ∧ s.get Reg.WAT_CTRL_RUN = 1 ∧ (s.get Reg.WAT_STATUS_PROG_STATE = 1 ∨ s.get
    Reg.WAT_STATUS_PROG_STATE = 2) ∧ s.get Reg.WAT_STATUS_PORT_DOWN = 0 ∧ s.island.i3cStop = false ∧ s.inStoppage 5 0 =
    false ∧ s.seqState = seqIdle ∧ s.periodOver = false) ∧
    (∃ (s : State), s.yard = false ∧ s.get Reg.WAT_CTRL_RUN = 1 ∧ (s.get Reg.WAT_STATUS_PROG_STATE = 1 ∨ s.get
    Reg.WAT_STATUS_PROG_STATE = 2) ∧ s.get Reg.WAT_STATUS_PORT_DOWN = 0 ∧ s.island.i3cStop = false ∧ s.inStoppage 5 0 =
    false ∧ s.seqState = seqIdle ∧ s.periodOver = true ∧ (s.capturesSuspended = true ∨ s.freeBuf = none)) ∧
    (∃ (s : State) (b : Nat), s.yard = false ∧ s.get Reg.WAT_CTRL_RUN = 1 ∧ (s.get Reg.WAT_STATUS_PROG_STATE = 1 ∨ s.get
    Reg.WAT_STATUS_PROG_STATE = 2) ∧ s.get Reg.WAT_STATUS_PORT_DOWN = 0 ∧ s.island.i3cStop = false ∧ s.inStoppage 5 0 =
    false ∧ s.seqState = seqIdle ∧ s.periodOver = true ∧ s.capturesSuspended = false ∧ s.freeBuf = some b ∧ s.island.linkUp
    = false) ∧
    (∃ (s : State) (c : Capture), s.yard = false ∧ s.island.capture = some c ∧ s.seqState = seqOpening ∧ s.domOpen 11 = true
    ∧ 10 ≤ s.elapsed 11 ∧ s.frameOk = true ∧ (s.gateOf 11).at_ ≠ some s.gtc) ∧
    (∃ (s : State) (c : Capture), s.yard = false ∧ s.island.capture = some c ∧ s.seqState = seqOpening ∧ s.domOpen 11 = true
    ∧ 10 ≤ s.elapsed 11 ∧ s.frameOk = false) ∧
    (∃ (s : State) (c : Capture) (o : Order) (e : Nat × Nat × Nat) (rest : List (Nat × Nat × Nat)), s.yard = false ∧
    s.island.capture = some c ∧ c.order = some o ∧ s.seqState = seqTrigger ∧ s.domOpen 11 = true ∧ o.triggers = e :: rest) ∧
    (∃ (s : State) (c : Capture) (o : Order) (vc : BitVec 2), s.yard = false ∧ s.island.capture = some c ∧ c.order = some o ∧
    s.seqState = seqCapture ∧ c.linkUp = false ∧ vc.toNat = o.vc) ∧
    (∃ (s : State) (c : Capture) (o : Order), s.yard = false ∧ s.island.capture = some c ∧ c.order = some o ∧ s.seqState =
    seqCapture ∧ c.linkUp = false ∧ c.stamp = none) ∧
    (∃ (s : State) (c : Capture) (o : Order) (p : List (BitVec 8)) (vc : BitVec 2), s.yard = false ∧ s.island.capture = some
    c ∧ c.order = some o ∧ s.seqState = seqCapture ∧ c.linkUp = false ∧ c.stamp.isSome = true ∧ c.rows = [] ∧ vc.toNat =
    o.vc ∧ o.dt = 42 ∧ o.bin = 1 ∧ c.line < o.height ∧ p.length = o.width ∧ Memory.wf s.island.sram = true) ∧
    (∃ (s : State) (c : Capture) (o : Order) (vc : BitVec 2) (n : Nat), s.yard = false ∧ s.island.capture = some c ∧ c.order
    = some o ∧ s.seqState = seqCapture ∧ c.stamp = some n ∧ vc.toNat = o.vc ∧ s.inWindow o = true ∧ (s.tile isleCore).wait =
    none) ∧
    (∃ (s : State) (c : Capture) (l : BitVec 2) (nLine : Bool), s.yard = false ∧ s.island.capture = some c ∧ s.seqState =
    seqCapture ∧ c.linkUp = true ∧ l.toNat ≠ 3 ∧ s.laneFound l.toNat % 8 = 0 ∧ (s.setLane l.toNat (4 + if nLine = true then
    8 else 0)).lanesShort = false) ∧
    (∃ (s : State), s.yard = false ∧ s.seqState = seqClosing ∧ s.island.endedAt + 10 ≤ s.time copyIsland ∧ (s.dom 11).st ≠
    DomSt.stoppage) :=
  ⟨⟨(nth sts 3), by decide +kernel⟩,
    ⟨(nth sts 2), by decide +kernel⟩,
    ⟨(nth sts 1), 0, by decide +kernel⟩,
    ⟨(nth sts 4), ⟨0, false, none, 0, none, false, false, false, false, []⟩, by decide +kernel⟩,
    ⟨(nth sts 5), ⟨0, false, none, 0, none, false, false, false, false, []⟩, by decide +kernel⟩,
    ⟨(nth sts 7), ⟨0, false, some ⟨2, 3, 1, 0, 42, 65536, [(1, 2, 3)], 0, 999000⟩, 0, none, false, false, false, false,
    []⟩, ⟨2, 3, 1, 0, 42, 65536, [(1, 2, 3)], 0, 999000⟩, (1, 2, 3), [], by decide +kernel⟩,
    ⟨(nth sts 15), ⟨0, false, some ⟨2, 3, 1, 0, 42, 65536, [(1, 2, 3), (4, 5, 6)], 0, 999000⟩, 3, some 9, false, false,
    false, false, []⟩, ⟨2, 3, 1, 0, 42, 65536, [(1, 2, 3), (4, 5, 6)], 0, 999000⟩, 0, by decide +kernel⟩,
    ⟨(nth sts 8), ⟨0, false, some ⟨2, 3, 1, 0, 42, 65536, [(1, 2, 3), (4, 5, 6)], 0, 999000⟩, 0, none, false, false,
    false, false, []⟩, ⟨2, 3, 1, 0, 42, 65536, [(1, 2, 3), (4, 5, 6)], 0, 999000⟩, by decide +kernel⟩,
    ⟨(nth sts 9), ⟨0, false, some ⟨2, 3, 1, 0, 42, 65536, [(1, 2, 3), (4, 5, 6)], 0, 999000⟩, 1, some 9, false, false,
    false, false, []⟩, ⟨2, 3, 1, 0, 42, 65536, [(1, 2, 3), (4, 5, 6)], 0, 999000⟩, [0x2, 0x3], 0, by decide +kernel⟩,
    ⟨(nth sts 15), ⟨0, false, some ⟨2, 3, 1, 0, 42, 65536, [(1, 2, 3), (4, 5, 6)], 0, 999000⟩, 3, some 9, false, false,
    false, false, []⟩, ⟨2, 3, 1, 0, 42, 65536, [(1, 2, 3), (4, 5, 6)], 0, 999000⟩, 0, 9, by decide +kernel⟩,
    ⟨(nth sts 12), ⟨0, true, some ⟨2, 3, 1, 0, 42, 65536, [(1, 2, 3), (4, 5, 6)], 0, 999000⟩, 0, none, false, false,
    false, false, []⟩, 1, true, by decide +kernel⟩,
    ⟨(nth sts 13), by decide +kernel⟩⟩

theorem wit_IslandCaptures_1 : ∃ (s : State) (c : Capture) (o : Order), s.yard = false ∧ s.island.capture = some c ∧
    c.order = some o ∧
    o.at_ + s.get Reg.WAT_FRAME_WINDOW_TICKS ≤ s.time copyIsland :=
  ⟨{ ii (b0 w0) (fun i => { i with capture := some cp }) with gtc := 999000 + 2000000 }, cp, od, by decide +kernel⟩

end W30

namespace W31

def ii (s : State) (f : Island → Island) : State := { s with island := f s.island }
def sb (s : State) : State := s.put Reg.ENG_STATE_STATE 4
def wk (s : State) : State := putAll s [(Reg.WAT_WAKE_CTRL_WAKE_IN_EN, 1)]
def sts : List State := [ii w0 fun i => { i with releasedAt := some 5 },
    ii (w0.put Reg.WAT_PROG_BUDGET_CYCLES 100) fun i => { i with releasedAt := some 5 }, wk w0, sb (wk w0),
    { wk w0 with pins := { w0.pins with wakeIns := List.replicate 17 1000000, wakeIn := true, wakeEdge := some 5 } },{ sb (wk w0) with pins := { w0.pins with wakeIn := true, wakeEdge := some 5 } },{ wk w0 with gtc := 1000000000, pins := { w0.pins with wakeIn := true, wakeEdge := some 5 } },{ w0 with conc := { w0.conc with inbox := [.wake 1 7, .wake 3 3] } }.put Reg.ENG_STATE_STATE 0,{ (w0.put Reg.WAT_STATUS_PROG_STATE 1) with island := { w0.island with sram := Cells.putList [] 0x40 [1, 0, 0, 0xFC, 0, 0x80, 0x80, 8]} },
  { w0 with conc := { w0.conc with inbox := [.wake 1 7, .wake 3 3] } },
      { ii w0 (fun i => { i with held := some 1, frames := [(1, some ⟨1, 2, 3, 4, 5⟩)] }) with conc := { w0.conc with inbox := [.wake 1 7, .wake 3 3] } },
  ii w0 fun i => { i with handoffs := [⟨true, 1, 2, 3, 4, none⟩] },
      putAll (ii w0 fun i => { i with handoffs := [⟨false, 1, 2, 3, 4, some 0⟩], kept := some 0, frames := [(0, some ⟨1, 2, 2, 2, 5⟩)] }) [(Reg.WAT_HANDOFF_BASE_VALID,
      1), (Reg.WAT_HANDOFF_BASE_CID, 5), (Reg.WAT_HANDOFF_BASE_BASE, 3), (Reg.WAT_FRAME_FORMAT_WIDTH, 2),
      (Reg.WAT_FRAME_FORMAT_HEIGHT, 2)]]

/-- Obligations.IslandWakesAndHandoff: states and operands that meet its hypotheses, clause by clause. -/
theorem wit_IslandWakesAndHandoff :
    (∃ (s : State) (n : Nat), s.yard = false ∧ (s.get Reg.WAT_STATUS_PROG_STATE = 1 ∨ s.get Reg.WAT_STATUS_PROG_STATE = 2) ∧
    s.island.releasedAt = some n ∧ 0 < s.get Reg.WAT_PROG_BUDGET_CYCLES ∧ n + s.get Reg.WAT_PROG_BUDGET_CYCLES < s.time
    copyIsland) ∧
    (∃ (s : State), s.yard = false ∧ s.get Reg.WAT_STATUS_PROG_STATE = 1 ∧ s.islandFetchBad = true) ∧
    (∃ (s : State), s.yard = false ∧ s.get Reg.WAT_STATUS_PROG_STATE = 1 ∧ s.islandFetchBad = false) ∧
    (∃ (s : State), s.yard = false ∧ s.get Reg.WAT_WAKE_CTRL_WAKE_IN_EN = 1 ∧ s.get Reg.WAT_WAKE_CTRL_STUCK = 0 ∧
    s.pins.wakeIn = false) ∧
    (∃ (s : State) (n : Nat), s.yard = false ∧ s.get Reg.WAT_WAKE_CTRL_WAKE_IN_EN = 1 ∧ s.get Reg.WAT_WAKE_CTRL_STUCK = 0 ∧
    s.pins.wakeIn = true ∧ s.pins.wakeEdge = some n ∧ s.pins.wakeMade = false ∧ n + max 1 (s.get Reg.WAT_WAKE_CTRL_DEBOUNCE)
    * 1000 ≤ s.gtc ∧ 16 ≤ (List.filter (fun n => decide (s.gtc < n + 100000000)) s.pins.wakeIns).length ∧ s.eng ≠ engStandby
    ∧ s.flight.entryStep = 0) ∧
    (∃ (s : State) (value : BitVec 32), s.yard = false ∧ s.domLive 1 = true ∧ value.getLsbD 7 = true) ∧
    (∃ (s : State) (value : BitVec 32), s.yard = false ∧ s.domLive 1 = true ∧ value.getLsbD 0 = true) ∧
    (∃ (s : State) (value : BitVec 32), s.yard = false ∧ s.domLive 1 = true ∧ value.getLsbD 6 = true) ∧
    (∃ (s : State) (value : BitVec 32), s.yard = false ∧ s.domLive 1 = true ∧ value.getLsbD 11 = true ∧ s.get
    Reg.WAT_CTRL_HANDOFF_NOW = 0) ∧
    (∃ (s : State) (value : BitVec 32), s.yard = false ∧ s.domLive 1 = true ∧ value.getLsbD 8 = true) ∧
    (∃ (s : State) (c : Nat) (r : Nat) (rest : List Report), s.yard = false ∧ s.conc.inbox = Report.wake c r :: rest ∧
    s.heldByHeat = false ∧ s.flight.entryStep = 0 ∧ s.isReady = true) ∧
    (∃ (s : State) (c : Nat) (r : Nat) (rest : List Report), s.yard = false ∧ s.conc.inbox = Report.wake c r :: rest ∧
    s.heldByHeat = false ∧ s.flight.entryStep = 0 ∧ s.eng = engFlight ∧ s.get Reg.PWR_FLIGHT_STATUS_KIND < 2) ∧
    (∃ (s : State) (r : HandoffReq) (rest : List HandoffReq), s.yard = false ∧ s.island.handoffs = r :: rest ∧ s.isReady =
    true ∧ s.domLive 4 = true ∧ s.domLive 10 = true ∧ s.get Reg.WAT_HANDOFF_BASE_VALID = 0) ∧
    (∃ (s : State) (r : HandoffReq) (rest : List HandoffReq), s.yard = false ∧ s.island.handoffs = r :: rest ∧ s.isReady =
    true ∧ s.domLive 4 = true ∧ s.domLive 10 = true ∧ s.get Reg.WAT_HANDOFF_BASE_VALID = 1 ∧ s.ownerOk (s.get
    Reg.WAT_HANDOFF_BASE_CID) (s.get Reg.WAT_HANDOFF_BASE_BASE * 2 ^ 17) false = true ∧ s.keyAbsent (s.get
    Reg.WAT_HANDOFF_BASE_BASE * 2 ^ 17) = false ∧ s.ownerOk (s.get Reg.WAT_HANDOFF_BASE_CID) (s.get
    Reg.WAT_HANDOFF_BASE_BASE * 2 ^ 17 + 4096) false = true ∧ s.keyAbsent (s.get Reg.WAT_HANDOFF_BASE_BASE * 2 ^ 17 + 4096)
    = false) :=
  ⟨⟨(nth sts 1), 5, by decide +kernel⟩,
    ⟨(nth sts 1), by decide +kernel⟩,
    ⟨(nth sts 8), by decide +kernel⟩,
    ⟨(nth sts 7), by decide +kernel⟩,
    ⟨(nth sts 4), 5, by decide +kernel⟩,
    ⟨(nth sts 7), 0xffff, by decide +kernel⟩,
    ⟨(nth sts 12), 0xfff9, by decide +kernel⟩,
    ⟨(nth sts 12), 0xfff3, by decide +kernel⟩,
    ⟨(nth sts 2), 0xffff, by decide +kernel⟩,
    ⟨(nth sts 3), 0xfff9, by decide +kernel⟩,
    ⟨(nth sts 9), 1, 7, [Report.wake 3 3], by decide +kernel⟩,
    ⟨(nth sts 7), 1, 7, [Report.wake 3 3], by decide +kernel⟩,
    ⟨(nth sts 11), ⟨true, 1, 2, 3, 4, none⟩, [], by decide +kernel⟩,
    ⟨(nth sts 12), ⟨false, 1, 2, 3, 4, some 0⟩, [], by decide +kernel⟩⟩

theorem wit_IslandWakesAndHandoff_1 : ∃ (s : State) (n : Nat), s.yard = false ∧ s.get Reg.WAT_WAKE_CTRL_WAKE_IN_EN = 1 ∧
    s.get Reg.WAT_WAKE_CTRL_STUCK = 0 ∧ s.pins.wakeEdge = some n ∧
    n + max 1 (s.get Reg.WAT_WAKE_CTRL_STUCK_S) * 100000000 ≤ s.gtc :=
  ⟨{ w0.put Reg.WAT_WAKE_CTRL_WAKE_IN_EN 1 with pins := { w0.pins with wakeEdge := some 5 }, gtc := 100000000000 }, 5,
    by decide +kernel⟩

end W31

namespace W32

def pk (s : State) (l : List (Nat × Nat × Nat)) (a : Nat) : State := { s with mem := l.foldl (fun m e => m.putLe (a + e.1) e.2.1 e.2.2) s.mem }
def cd : List (Nat × Nat × Nat) := [(0, 8, 2), (8, 1, 1), (9, 1, 1), (0x0A, 2, 90), (0x0C, 2, 91), (0x0E, 2, 100), (0x10, 2, 8)]
def cx (s : State) (c : Nat) (st : CtxSt) : State := s.setCtx c { ctx5 with st := st }
def drv (s : State) : State := putAll (pk s cd 0x700000) [(Reg.OBJ_CMD_ARG_ARG 0, 0x700000), (Reg.OBJ_DRIVER_CID_CID, 1)]
def P (st : PktSt) (runs : List Run) : Pkt := ⟨5, 4, 0x10, [], none, 5, st, 9, 0, runs, false, none, none, [], false, false,
    5, 6, 7, 8, 0, 0, 0, 0, 0, none, 0, none⟩
def R (pl : Place) : Run := ⟨0, pl, 5, 6, 7, 8, false, none, ⟨0,0,0,0,0⟩⟩
def q (s : State) (x : Queue) : State := { s with queues := [(3, x)] }
def sts : List State := [w0.put Reg.OBJ_CMD_STATUS_BUSY 1, drv w0, (drv w0).put (Reg.OBJ_PART_CFG_CTX_LIMIT 2) 1,
    drv (w0.setCtx 9 { ctx5 with vecBase := 104 }), cx w0 5 .drainClose, cx w0 5 .drainReset, cx w0 5 .lost, cx w0 5 .closed, 
  q (cx w0 5 .drainClose) { Queue.reset with st := .active, pkts := [P .started [R (.onTile 1)]] },
      q w0 { Queue.reset with st := .active, pkts := [P .started [R (.onTile 1)]] }, q w0 { Queue.reset with st := .disabled },
  q (cx w0 5 .drainReset) { Queue.reset with st := .halted, head := 3, tail := 3 },
      q (cx w0 5 .drainReset) { Queue.reset with st := .halted, head := 3, tail := 3, pkts := [P .started [R (.onTile 1)]] } ]

/-- Obligations.ContextCommands: states and operands that meet its hypotheses, clause by clause. -/
theorem wit_ContextCommands :
    (∃ (s : State), s.domLive 3 = true ∧ s.get Reg.OBJ_CMD_STATUS_BUSY = 1) ∧
    (∃ (s : State) (cid : BitVec 16) (pid : BitVec 16), s.domLive 3 = true ∧ s.get Reg.OBJ_CMD_STATUS_BUSY = 0 ∧ (s.ctx
    (cid.toNat % 1024)).st = CtxSt.free ∧ s.quarantined (pid.toNat % 16) = false ∧ s.partValid (pid.toNat % 16) = true ∧ min
    1024 (s.get (Reg.OBJ_PART_CFG_CTX_LIMIT (pid.toNat % 16))) ≤ s.ctxCount (pid.toNat % 16)) ∧
    (∃ (s : State) (cid : BitVec 16) (pid : BitVec 16) (y : Ctx), s.domLive 3 = true ∧ s.get Reg.OBJ_CMD_STATUS_BUSY = 0 ∧
    (s.ctx (cid.toNat % 1024)).st = CtxSt.free ∧ s.quarantined (pid.toNat % 16) = false ∧ s.partValid (pid.toNat % 16) =
    true ∧ s.ctxCount (pid.toNat % 16) < min 1024 (s.get (Reg.OBJ_PART_CFG_CTX_LIMIT (pid.toNat % 16))) ∧ s.readCtx
    (pid.toNat % 16) false false = (s, some y) ∧ s.vecOverlap (cid.toNat % 1024) y = true) ∧
    (∃ (s : State) (cid : BitVec 16) (pid : BitVec 16) (y : Ctx), s.domLive 3 = true ∧ s.get Reg.OBJ_CMD_STATUS_BUSY = 0 ∧
    (s.ctx (cid.toNat % 1024)).st = CtxSt.free ∧ s.quarantined (pid.toNat % 16) = false ∧ s.partValid (pid.toNat % 16) =
    true ∧ s.ctxCount (pid.toNat % 16) < min 1024 (s.get (Reg.OBJ_PART_CFG_CTX_LIMIT (pid.toNat % 16))) ∧ s.readCtx
    (pid.toNat % 16) false false = (s, some y) ∧ s.vecOverlap (cid.toNat % 1024) y = false) ∧
    (∃ (s : State) (cid : BitVec 16), s.domLive 3 = true ∧ s.get Reg.OBJ_CMD_STATUS_BUSY = 0 ∧ (s.ctx (cid.toNat % 1024)).st
    ≠ CtxSt.free) ∧
    (∃ (s : State) (cid : BitVec 16), s.domLive 3 = true ∧ s.get Reg.OBJ_CMD_STATUS_BUSY = 0 ∧ ((s.ctx (cid.toNat % 1024)).st
    = CtxSt.opened ∨ (s.ctx (cid.toNat % 1024)).st = CtxSt.drainReset ∨ (s.ctx (cid.toNat % 1024)).st = CtxSt.lost)) ∧
    (∃ (s : State) (cid : BitVec 16), s.domLive 3 = true ∧ s.get Reg.OBJ_CMD_STATUS_BUSY = 0 ∧ ((s.ctx (cid.toNat % 1024)).st
    = CtxSt.free ∨ (s.ctx (cid.toNat % 1024)).st = CtxSt.drainClose ∨ (s.ctx (cid.toNat % 1024)).st = CtxSt.closed)) ∧
    (∃ (s : State) (cid : BitVec 16), s.domLive 3 = true ∧ s.get Reg.OBJ_CMD_STATUS_BUSY = 0 ∧ (s.ctx (cid.toNat % 1024)).st
    = CtxSt.closed) ∧
    (∃ (s : State) (cid : BitVec 16), s.domLive 3 = true ∧ s.get Reg.OBJ_CMD_STATUS_BUSY = 0 ∧ (s.ctx (cid.toNat % 1024)).st
    ≠ CtxSt.closed) ∧
    (∃ (s : State) (cid : BitVec 16), s.domLive 3 = true ∧ s.get Reg.OBJ_CMD_STATUS_BUSY = 0 ∧ (s.ctx (cid.toNat % 1024)).st
    ≠ CtxSt.opened) ∧
    (∃ (s : State) (cid : BitVec 16) (group : BitVec 16), s.domLive 3 = true ∧ s.get Reg.OBJ_CMD_STATUS_BUSY = 0 ∧ Tab.get
    none s.groups (group.toNat % 512) = none ∧ (s.ctx (cid.toNat % 1024)).st = CtxSt.opened) ∧
    (∃ (s : State) (group : BitVec 16), s.domLive 3 = true ∧ s.get Reg.OBJ_CMD_STATUS_BUSY = 0 ∧ Tab.get none s.groups
    (group.toNat % 512) ≠ none) ∧
    (∃ (s : State) (group : BitVec 16), s.domLive 3 = true ∧ s.get Reg.OBJ_CMD_STATUS_BUSY = 0 ∧ ∀ (e : Nat × Queue), e ∈
    s.queues → e.fst / 64 = group.toNat % 512 → e.snd.st = QueueSt.disabled) ∧
    (∃ (s : State) (group : BitVec 16), s.domLive 3 = true ∧ s.get Reg.OBJ_CMD_STATUS_BUSY = 0 ∧ ∃ e, e ∈ s.queues ∧ e.fst /
    64 = group.toNat % 512 ∧ e.snd.st ≠ QueueSt.disabled) ∧
    (∃ (s : State) (cid : BitVec 16) (q : Nat) (k : Pkt) (r : Run) (n : Nat), s.domLive 3 = true ∧ ((s.ctx (cid.toNat %
    1024)).st = CtxSt.drainClose ∨ (s.ctx (cid.toNat % 1024)).st = CtxSt.drainReset) ∧ s.heldQueuesOf (cid.toNat % 1024) =
    [q] ∧ (s.queue q).pkts = [k] ∧ k.cid = cid.toNat % 1024 ∧ (s.ctx (cid.toNat % 1024)).drainAt + max 1 (s.get
    Reg.OBJ_DRAIN_LIMIT_TICKS) ≤ s.time copyDsp ∧ k.runs = [r] ∧ r.place = Place.onTile n) ∧
    (∃ (s : State) (cid : BitVec 16), s.domLive 3 = true ∧ s.drained (cid.toNat % 1024) = true ∧ (s.ctx (cid.toNat %
    1024)).st = CtxSt.drainClose) ∧
    (∃ (s : State) (cid : BitVec 16), s.domLive 3 = true ∧ s.drained (cid.toNat % 1024) = true ∧ (s.ctx (cid.toNat %
    1024)).st = CtxSt.drainReset) :=
  ⟨⟨(nth sts 0), by decide +kernel⟩,
    ⟨(nth sts 2), 0x357c, 0xf302, by decide +kernel⟩,
    ⟨(nth sts 3), 0xcafa, 0xe222, ⟨CtxSt.opened, 2, 2, true, true, 90, 91, 100, 8, none, false, none, 64, 0⟩,
    by decide +kernel⟩,
    ⟨(nth sts 1), 2, 0xfed2, ⟨CtxSt.opened, 2, 2, true, true, 90, 91, 100, 8, none, false, none, 64, 0⟩,
    by decide +kernel⟩,
    ⟨(nth sts 11), 0xf805, by decide +kernel⟩,
    ⟨(nth sts 9), 0xe405, by decide +kernel⟩,
    ⟨(nth sts 7), 0xffff, by decide +kernel⟩,
    ⟨(nth sts 7), 0xd805, by decide +kernel⟩,
    ⟨(nth sts 12), 0xfff3, by decide +kernel⟩,
    ⟨(nth sts 3), 0xfff9, by decide +kernel⟩,
    ⟨(nth sts 1), 5, 0xfe46, by decide +kernel⟩,
    ⟨(nth sts 5), 0xec00, by decide +kernel⟩,
    ⟨(nth sts 11), 0xfff9, by decide +kernel⟩,
    ⟨(nth sts 12), 0x2600, by decide +kernel⟩,
    ⟨(nth sts 12), 5, 3, ⟨5, 4, 16, [], none, 5, PktSt.started, 9, 0, [⟨0, Place.onTile 1, 5, 6, 7, 8, false, none, ⟨0,
    0, 0, 0, 0⟩⟩], false, none, none, [], false, false, 5, 6, 7, 8, 0, 0, 0, 0, 0, none, 0, none⟩, ⟨0, Place.onTile 1,
    5, 6, 7, 8, false, none, ⟨0, 0, 0, 0, 0⟩⟩, 1, by decide +kernel⟩,
    ⟨(nth sts 4), 5, by decide +kernel⟩,
    ⟨(nth sts 11), 0xb005, by decide +kernel⟩⟩

theorem wit_ContextCommands_1 : ∃ (s : State) (cid : BitVec 16), s.domLive 3 = true ∧ s.get Reg.OBJ_CMD_STATUS_BUSY = 0 ∧
    (s.ctx (cid.toNat % 1024)).st = CtxSt.opened ∧ ∀ (q : Nat), (s.queue q).staged = none :=
  by refine ⟨{ w0 with queues := [], ctxs := [(1023, ctx5)] }, 0xFFFF, ?_, ?_, ?_, fun _ => rfl⟩ <;> decide +kernel

end W32

namespace W33

def pk (s : State) (l : List (Nat × Nat × Nat)) (a : Nat) : State := { s with mem := l.foldl (fun m e => m.putLe (a + e.1) e.2.1 e.2.2) s.mem }
def qd : List (Nat × Nat × Nat) := [(0, 8, 0x900000), (8, 8, 0), (0x10, 4, 3), (0x14, 4, 5), (0x18, 4, 9), (0x1C, 1, 6),
    (0x1E, 1, 1), (0x1F, 1, 3), (0x20, 1, 1), (0x21, 1, 4), (0x22, 2, 7)]
def b (s : State) : State := putAll (pk (pk s qd (4 * 2^21 + 64 * 3)) qd (4 * 2^21)) [(Reg.OBJ_QTABLE_BASE_BASE, 4),
    (Reg.OBJ_CMD_ARG_ARG 0, 0x300010), (Reg.OBJ_CMD_ARG_ARG 1, 7)]
def q (s : State) (x : Queue) : State := { s with queues := [(3, x)] }
def f1 (s : State) (v : Nat) : State := { s with mem := (s.mem.putLe 0x300010 8 v).putLe 0x300018 8 0 }
def sts : List State := [w0.put Reg.OBJ_CMD_STATUS_BUSY 1, f1 (b w0) 4, q (f1 (b w0) 4) { Queue.reset with st := .disabled },
    q (f1 (b w0) (2^62 + 9)) { Queue.reset with st := .active, stageSlot := true },
    q (b w0) { Queue.reset with st := .halted },
    { f1 (b w0) (2^62 + 9) with waiters := [(40000, some ⟨5, 5, 0x300010, 8, 50, false⟩)] },
  { f1 (b w0) (2^62 + 9) with waiters := [(40000, some ⟨5, 5, 0x300010, 80, 50, false⟩), (40001, some ⟨5, 5, 0x300020, 80, 50, false⟩)] },
      (b w0).put (Reg.OBJ_CMD_ARG_ARG 0) 0x300011]

/-- Obligations.QueueAndWaitCommands: states and operands that meet its hypotheses, clause by clause. -/
theorem wit_QueueAndWaitCommands :
    (∃ (s : State), s.domLive 3 = true ∧ s.get Reg.OBJ_CMD_STATUS_BUSY = 1) ∧
    (∃ (s : State) (qid : BitVec 16) (d : Nat) (bs : List Byte) (x : Queue), s.domLive 3 = true ∧ s.get
    Reg.OBJ_CMD_STATUS_BUSY = 0 ∧ s.queueCid (qid.toNat % 32768) = some d ∧ (s.ctx d).st = CtxSt.opened ∧ (s.queue
    (qid.toNat % 32768)).st = QueueSt.disabled ∧ s.ownRead s.driverCid (s.qdesc (qid.toNat % 32768)) 64 = some bs ∧
    s.parseQueue d (leNat bs) = some x) ∧
    (∃ (s : State) (qid : BitVec 16), s.domLive 3 = true ∧ s.get Reg.OBJ_CMD_STATUS_BUSY = 0 ∧ s.queueCid (qid.toNat % 32768)
    = none) ∧
    (∃ (s : State) (qid : BitVec 16), s.domLive 3 = true ∧ s.get Reg.OBJ_CMD_STATUS_BUSY = 0 ∧ (s.queue (qid.toNat %
    32768)).st ≠ QueueSt.disabled) ∧
    (∃ (s : State) (qid : BitVec 16), s.domLive 3 = true ∧ s.get Reg.OBJ_CMD_STATUS_BUSY = 0 ∧ (s.queue (qid.toNat %
    32768)).st = QueueSt.halted) ∧
    (∃ (s : State) (qid : BitVec 16), s.domLive 3 = true ∧ s.get Reg.OBJ_CMD_STATUS_BUSY = 0 ∧ (s.queue (qid.toNat %
    32768)).st ≠ QueueSt.halted) ∧
    (∃ (s : State) (cid : BitVec 16) (vec : BitVec 16) (i : Nat) (pa : Nat), s.domLive 3 = true ∧ s.get
    Reg.OBJ_CMD_STATUS_BUSY = 0 ∧ (s.ctx (cid.toNat % 1024)).st = CtxSt.opened ∧ s.get (Reg.OBJ_CMD_ARG_ARG 0) % 16 = 0 ∧
    (s.ctx (cid.toNat % 1024)).hasVec (vec.toNat % 4096) = true ∧ s.freeHostWait = some i ∧ s.reach (cid.toNat % 1024)
    (s.get (Reg.OBJ_CMD_ARG_ARG 0)) Access.read = Xres.ok pa ∧ s.physLe pa 8 / 2 ^ 62 = 0) ∧
    (∃ (s : State) (cid : BitVec 16) (vec : BitVec 16) (i : Nat) (pa : Nat), s.domLive 3 = true ∧ s.get
    Reg.OBJ_CMD_STATUS_BUSY = 0 ∧ (s.ctx (cid.toNat % 1024)).st = CtxSt.opened ∧ s.get (Reg.OBJ_CMD_ARG_ARG 0) % 16 = 0 ∧
    (s.ctx (cid.toNat % 1024)).hasVec (vec.toNat % 4096) = true ∧ s.freeHostWait = some i ∧ s.reach (cid.toNat % 1024)
    (s.get (Reg.OBJ_CMD_ARG_ARG 0)) Access.read = Xres.ok pa ∧ s.physLe pa 8 / 2 ^ 62 = 1 ∧ s.get (Reg.OBJ_CMD_ARG_ARG 1) %
    2 ^ 62 ≤ s.physLe pa 8 % 2 ^ 62) ∧
    (∃ (s : State) (cid : BitVec 16), s.domLive 3 = true ∧ s.get Reg.OBJ_CMD_STATUS_BUSY = 0 ∧ (s.ctx (cid.toNat % 1024)).st
    ≠ CtxSt.opened) ∧
    (∃ (s : State) (cid : BitVec 16), s.domLive 3 = true ∧ s.get Reg.OBJ_CMD_STATUS_BUSY = 0 ∧ (s.ctx (cid.toNat % 1024)).st
    = CtxSt.opened ∧ s.get (Reg.OBJ_CMD_ARG_ARG 0) % 16 ≠ 0) ∧
    (∃ (s : State) (cid : BitVec 16), s.domLive 3 = true ∧ s.get Reg.OBJ_CMD_STATUS_BUSY = 0 ∧ s.get (Reg.OBJ_CMD_ARG_ARG 0)
    % 16 = 0 ∧ (s.waitersWhere fun w => w.cid == cid.toNat % 1024 && w.fence == s.get (Reg.OBJ_CMD_ARG_ARG 0) && !w.barrier)
    = []) ∧
    (∃ (s : State) (cid : BitVec 16) (i : Nat) (w : Waiter) (pa : Nat), s.domLive 3 = true ∧ s.get Reg.OBJ_CMD_STATUS_BUSY =
    0 ∧ s.get (Reg.OBJ_CMD_ARG_ARG 0) % 16 = 0 ∧ (s.waitersWhere fun w => w.cid == cid.toNat % 1024 && w.fence == s.get
    (Reg.OBJ_CMD_ARG_ARG 0) && !w.barrier) = [i] ∧ s.waiter i = some w ∧ 32768 ≤ i ∧ s.reach (cid.toNat % 1024) (s.get
    (Reg.OBJ_CMD_ARG_ARG 0)) Access.read = Xres.ok pa ∧ s.physLe pa 8 / 2 ^ 62 = 1 ∧ w.target ≤ s.physLe pa 8 % 2 ^ 62) ∧
    (∃ (s : State) (qid : BitVec 16), s.domLive 3 = true ∧ s.get Reg.OBJ_CMD_STATUS_BUSY = 0 ∧ 32768 ≤ qid.toNat) ∧
    (∃ (s : State) (qid : BitVec 16), s.domLive 3 = true ∧ s.get Reg.OBJ_CMD_STATUS_BUSY = 0 ∧ qid.toNat < 32768) :=
  ⟨⟨(nth sts 0), by decide +kernel⟩,
    ⟨(nth sts 6), 3, 5, ([0x0, 0x0, 0x90] ++ List.replicate 13 0x0 ++ [0x3, 0x0, 0x0, 0x0, 0x5, 0x0, 0x0, 0x0, 0x9, 0x0,
    0x0, 0x0, 0x6, 0x0, 0x1, 0x3, 0x1, 0x4, 0x7] ++ List.replicate 29 0x0), ⟨QueueSt.active, 9437184, 0, 3, 5, 9, 6, 0,
    1, true, true, false, 1, 4, 7, 0, 0, 0, false, none, none, none, 0, []⟩, by decide +kernel⟩,
    ⟨(nth sts 1), 0xff87, by decide +kernel⟩,
    ⟨(nth sts 4), 3, by decide +kernel⟩,
    ⟨(nth sts 4), 3, by decide +kernel⟩,
    ⟨(nth sts 6), 0xffef, by decide +kernel⟩,
    ⟨(nth sts 2), 5, 0xb030, 32768, 3145744, by decide +kernel⟩,
    ⟨(nth sts 5), 5, 0x32, 32768, 3145744, by decide +kernel⟩,
    ⟨(nth sts 2), 0xfff3, by decide +kernel⟩,
    ⟨(nth sts 7), 5, by decide +kernel⟩,
    ⟨(nth sts 1), 0xffdf, by decide +kernel⟩,
    ⟨(nth sts 5), 0xc405, 40000, ⟨5, 5, 3145744, 8, 50, false⟩, 3145744, by decide +kernel⟩,
    ⟨(nth sts 3), 0xfffe, by decide +kernel⟩,
    ⟨(nth sts 7), 0x7ffc, by decide +kernel⟩⟩

end W33

namespace W34

def H (op dst src cid addr : Nat) (count : Nat) : Header := { h0 with op := BitVec.ofNat 8 op, dst := BitVec.ofNat 6 dst, src := BitVec.ofNat 6 src, cid := BitVec.ofNat 10 cid, cpar := false, addr := BitVec.ofNat 52 addr, count := BitVec.ofNat 4 count, vn := 0, mask := 0, data := 0x1234567890ABCDEF1122334455667788 }
def hs (s : State) : List Header := (List.range 4).flatMap fun m => [H 1 (s.mpStopOf (0x300000 + 64 * m)) 2 5 (0x300000 + 64 * m) 1,
    H 2 (s.mpStopOf (0x300000 + 64 * m)) 2 5 (0x300000 + 64 * m) 1,
    H 1 (s.mpStopOf (0x300000 + 64 * m)) 31 5 (0x300000 + 64 * m) 1] ++
   [H 1 12 31 5 (0x300000 + 64 * m) 1, H 1 18 31 5 (0x300000 + 64 * m) 1, H 2 17 31 5 (0x300000 + 64 * m) 1,
       H 2 23 30 5 (0x300000+64*m) 1, H 1 24 31 5 (0x300000 + 64 * m) 1, H 2 29 31 5 (0x300000 + 64 * m) 1] ++ 
   [H 2 12 31 5 (0x300000 + 64 * m) 1, H 2 18 31 5 (0x300000 + 64 * m) 1,  H 9 23 30 5 (0x300000+64*m) 1,
       H 2 24 31 5 (0x300000 + 64 * m) 1, H 2 30 31 5 (0x300000 + 64 * m) 1,
       { H 1 (s.mpStopOf (0x300000 + 64 * m)) 31 5 (0x300000 + 64 * m) 1 with poison := true }]
def hdrs0 : List Header := hs w0 ++ (List.range 4).flatMap fun m => let a := 0x300000 + 64 * m; [H 1 (bsStop (sliceOf a / 4)) 31 5 a 1,
    H 2 (bsStop (sliceOf a / 4)) 31 5 a 1, H 7 (bsStop (sliceOf a / 4)) 31 5 a 1, H 1 (bsStop (sliceOf a / 4)) 31 5 a 1]
def flipPar (h : Header) : List Header := [h, { h with cpar := true }]
def sts : List State := [{ w0 with mesh := { Mesh.reset with arrived := hdrs0.take 5 } }, putAll w0 [(Reg.XLT_TAG_LO_VALID 0,
    1), (Reg.XLT_TAG_LO_BASE 0, 0), (Reg.XLT_TAG_HI_LAST 0, 5), (Reg.XLT_TAG_LO_PID 0, 3)],
    putAll w0 [(Reg.XLT_TAG_LO_VALID 0, 1), (Reg.XLT_TAG_LO_CACHE 0, 1), (Reg.XLT_TAG_LO_BASE 0, 0), (Reg.XLT_TAG_HI_LAST 0,
    5), (Reg.XLT_TAG_LO_PID 0, 2), (Reg.OBJ_PART_CFG_SEALED 2, 1)],
  { putAll w0 [(Reg.XLT_TAG_LO_VALID 0, 1), (Reg.XLT_TAG_LO_CACHE 0, 1), (Reg.XLT_TAG_LO_BASE 0, 0), (Reg.XLT_TAG_HI_LAST 0, 5), (Reg.XLT_TAG_LO_PID 0, 2), (Reg.OBJ_PART_CFG_SEALED 2, 1)] with sealKeys := [(2, 7)] }]

/-- Obligations.MemoryAndBasinStops: states and operands that meet its hypotheses, clause by clause. -/
theorem wit_MemoryAndBasinStops :
    (∃ (s : State) (h : Header), s.domLive 10 = true ∧ hIsMemOp h = false) ∧
    (∃ (s : State) (h : Header), s.domLive 10 = true ∧ hIsMemOp h = true ∧ (∀ (b : Nat), b ∈ hPlaces h → s.mpServes
    h.dst.toNat b = true) ∧ h.poison = true) ∧
    (∃ (s : State) (h : Header), s.domLive 10 = true ∧ hIsMemOp h = true ∧ (∀ (b : Nat), b ∈ hPlaces h → s.mpServes
    h.dst.toNat b = true) ∧ h.poison = false ∧ s.engineOrigin h = false ∧ ∃ b, b ∈ hPlaces h ∧ s.ownerOk h.cid.toNat b
    (decide (h.src.toNat < 6)) = false) ∧
    (∃ (s : State) (h : Header), s.domLive 10 = true ∧ hIsMemOp h = true ∧ (∀ (b : Nat), b ∈ hPlaces h → s.mpServes
    h.dst.toNat b = true) ∧ h.poison = false ∧ s.engineOrigin h = false ∧ Memory.wf s.mem = true ∧ h.count = 1 ∧ (∀ (b :
    Nat), b ∈ hPlaces h → s.ownerOk h.cid.toNat b (decide (h.src.toNat < 6)) = true ∧ s.keyAbsent b = false) ∧ h.op.toNat =
    opRead) ∧
    (∃ (s : State) (h : Header), s.domLive 10 = true ∧ hIsMemOp h = true ∧ (∀ (b : Nat), b ∈ hPlaces h → s.mpServes
    h.dst.toNat b = true) ∧ h.poison = false ∧ s.engineOrigin h = false ∧ Memory.wf s.mem = true ∧ h.count = 1 ∧ (∀ (b :
    Nat), b ∈ hPlaces h → s.ownerOk h.cid.toNat b (decide (h.src.toNat < 6)) = true ∧ s.keyAbsent b = false) ∧ h.op.toNat =
    opWrite) ∧
    (∃ (s : State) (h : Header), s.domLive (if h.dst.toNat < 18 then 6 else 7) = true ∧ hIsMemOp h = false) ∧
    (∃ (s : State) (h : Header), s.domLive (if h.dst.toNat < 18 then 6 else 7) = true ∧ hIsMemOp h = true ∧ (∀ (b : Nat), b ∈
    hPlaces h → bsServes s.ownDie h.dst.toNat b = true) ∧ h.poison = false ∧ s.engineOrigin h = false ∧ (∀ (b : Nat), b ∈
    hPlaces h → s.ownerOk h.cid.toNat b (decide (h.src.toNat < 6)) = true ∧ s.keyAbsent b = false) ∧ h.count = 1 ∧
    h.op.toNat = opRead) ∧
    (∃ (s : State) (h : Header), s.domLive (if h.dst.toNat < 18 then 6 else 7) = true ∧ hIsMemOp h = true ∧ (∀ (b : Nat), b ∈
    hPlaces h → bsServes s.ownDie h.dst.toNat b = true) ∧ h.poison = false ∧ s.engineOrigin h = false ∧ (∀ (b : Nat), b ∈
    hPlaces h → s.ownerOk h.cid.toNat b (decide (h.src.toNat < 6)) = true ∧ s.keyAbsent b = false) ∧ h.count = 1 ∧
    h.op.toNat = opWrite ∧ Memory.wf s.mem = true ∧ Memory.wf s.basin.scratch = true) :=
  ⟨⟨(nth sts 3), ⟨0, 0, false, 0xb, 0x1f, 3, 5, 0, false, false, 0, 7, 5, false, 0, 1, false, 0, 0x3000c0, 0, 0, 0, 0,
    0, 0, false, 0, 0, 0, 0, 0, 0, 0, 0, 0x1234567890abcdef1122334455667788⟩, by decide +kernel⟩,
    ⟨(nth sts 0), ⟨0, 0, false, 0xc, 0x1f, 0, 0x1a, 0, false, true, 0, 1, 5, true, 0, 1, false, 0, 0x300040, 0, 0, 0, 0,
    0, 0, false, 0, 0, 0, 0, 0, 0, 0, 0, 0x1234567890abcdef1122334455667788⟩, by decide +kernel⟩,
    ⟨(nth sts 0), ⟨0, 0, false, 0x18, 2, 3, 5, 0, false, false, 0, 2, 5, false, 0, 1, false, 0, 0x3000c0, 0, 0, 0, 0, 0,
    0, false, 0, 0, 0, 0, 0, 0, 0, 0, 0x1234567890abcdef1122334455667788⟩, by decide +kernel⟩,
    ⟨(nth sts 3), ⟨0, 0, false, 0xc, 0x1f, 0, 5, 0, false, false, 0, 1, 5, false, 0, 1, false, 0, 0x300040, 0, 0, 0, 0,
    0, 0, false, 0, 0, 0, 0, 0, 0, 0, 0, 0x1234567890abcdef1122334455667788⟩, by decide +kernel⟩,
    ⟨(nth sts 0), ⟨0, 0, false, 0xc, 0x1f, 0, 5, 0, false, false, 0, 2, 5, false, 0, 1, false, 0, 0x300040, 0, 0, 0, 0,
    0, 0, false, 0, 0, 0, 0, 0, 0, 0, 0, 0x1234567890abcdef1122334455667788⟩, by decide +kernel⟩,
    ⟨(nth sts 0), ⟨0, 0, false, 0x17, 0x1e, 0, 0, 0, false, false, 0, 9, 5, false, 0, 1, false, 0, 0x300040, 0, 0, 0, 0,
    0, 0, false, 0, 0, 0, 0, 0, 0, 0, 0, 0x1234567890abcdef1122334455667788⟩, by decide +kernel⟩,
    ⟨(nth sts 0), ⟨0, 0, false, 0xb, 0x1f, 0, 0x14, 0, false, false, 0, 1, 5, false, 0, 1, false, 0, 0x3000c0, 0, 0, 0,
    0, 0, 0, false, 0, 0, 0, 0, 0, 0, 0, 0, 0x1234567890abcdef1122334455667788⟩, by decide +kernel⟩,
    ⟨(nth sts 0), ⟨0, 0, false, 0xb, 0x1f, 0, 5, 0, false, false, 0, 2, 5, false, 0, 1, false, 0, 0x3000c0, 0x300040, 0,
    0, 0, 0, 0, false, 0, 0, 0, 0, 0, 0, 0, 0, 0x1234567890abcdef1122334455667788⟩, by decide +kernel⟩⟩

end W34

namespace W35

def pk (s : State) (l : List (Nat × Nat × Nat)) (a : Nat) : State := { s with mem := l.foldl (fun m e => m.putLe (a + e.1) e.2.1 e.2.2) s.mem }
def raw (l : List (Nat × Nat × Nat)) : Nat := l.foldl (fun n e => n + e.2.2 * 256 ^ e.1) 0
def q (s : State) (x : Queue) : State := { s with queues := [(3, x)] }
def Q : Queue := { Queue.reset with st := .active, ringVa := 0x900000, ringLog2 := 6, head := 4, tail := 6, seq := 9, prefetch := 4, stageSlot := true, prompt := true }
def P (op : Nat) (st : PktSt) : Pkt := { Pkt.fresh 5 4 op with st := st }
def nopR : List (Nat × Nat × Nat) := [(0, 1, 0)]
def hold (s : State) (n : Nat) : State := { s with mesh := { s.mesh with holdSince := some 0 }, host := { s.host with places := List.replicate n ⟨false, 3, 7, 0⟩ } }
def cpy : Nat := raw [(0, 1, 0x30), (0x18, 8, 0x300000), (0x20, 8, 0x310000), (0x28, 8, 0x1050)]
def sts : List State := [q w0 Q, pk (q w0 { Q with staging := some 5, tail := 7 }) nopR (0x900000 + 64 * 5),
    pk (q w0 Q) nopR (0x900000 + 64 * 4), pk (q w0 Q) [(0, 1, 0x77)] (0x900000 + 64 * 4), pk (q w0 Q) [(0, 1, 0x10), (0x20, 8,
    3)] (0x900000 + 64 * 4),
  q w0 { Q with tail := 4, pkts := [P 0x10 .fetched] }, q w0 { Q with tail := 7 },
      { q w0 { Q with tail := 4, pkts := [{ P cpy .started with dma := some 1 }] } with disp := { w0.disp with dma := [(1, [(3, 4)])] } },
  { q w0 { Q with tail := 4, pkts := [{ P (raw [(0, 1, 0x31), (0x18, 8, 0x300010), (0x20, 8, 70), (0x30, 1, 7)]) .started with dma := some 0 }] } with disp := { w0.disp with dma := [(0, [(3, 4)])] } },
  q w0 { Q with pkts := [{ P (0x10 + 2 * 256 + 50 * 65536) .started with ended := some .ok }] },
      q w0 { Q with pkts := [{ P (0x10 + 2 * 256 + 5 * 65536) .started with ended := some (.error 0x20 1 none) }] }, 
  q w0 { Q with pkts := [{ P (0x10 + 256 + 9 * 256 ^ 16) .started with fenceVa := some 0x340000, fenceCid := 5, ended := some .ok }] },
      { q w0 { Q with pkts := [{ P (0x10 + 256 + 9 * 256 ^ 16) .started with fenceVa := some 0x340000, fenceCid := 5, ended := some (.error 0x20 1 (some 6)) }] } with conc := { w0.conc with seqOf := [(6, some 12)] }, waiters := [(40000, some ⟨5, 5, 0x340000, 3, 50, false⟩)] },
  hold (q w0 Q) 0, hold (q w0 Q) 64, { q w0 Q with flight := { w0.flight with entryStep := 5 } },
      q w0 { Q with staging := some 10, tail := 20 }, { w0 with groups := [] }]

/-- Obligations.SubmissionAndRetirement: states and operands that meet its hypotheses, clause by clause. -/
theorem wit_SubmissionAndRetirement :
    (∃ (s : State), s.domLive 3 = true ∧ 4 ≤ s.flight.entryStep) ∧
    (∃ (s : State), s.domLive 3 = true ∧ s.flight.entryStep < 4 ∧ s.mesh.holdSince ≠ none ∧ s.host.places.length < 64) ∧
    (∃ (s : State), s.domLive 3 = true ∧ s.flight.entryStep < 4 ∧ s.mesh.holdSince ≠ none ∧ 64 ≤ s.host.places.length) ∧
    (∃ (s : State) (qid : BitVec 16), s.domLive 3 = true ∧ s.flight.entryStep < 4 ∧ s.mesh.holdSince = none ∧ s.doorbellCid
    (qid.toNat % 32768) = none) ∧
    (∃ (s : State) (qid : BitVec 16) (value : BitVec 64) (c : Nat), s.domLive 3 = true ∧ s.flight.entryStep < 4 ∧
    s.mesh.holdSince = none ∧ s.doorbellCid (qid.toNat % 32768) = some c ∧ newer (value.toNat / 2 ^ 32) (s.queue (qid.toNat
    % 32768)).seq 32 = false) ∧
    (∃ (s : State) (qid : BitVec 16) (value : BitVec 64) (c : Nat), s.domLive 3 = true ∧ s.flight.entryStep < 4 ∧
    s.mesh.holdSince = none ∧ s.doorbellCid (qid.toNat % 32768) = some c ∧ newer (value.toNat / 2 ^ 32) (s.queue (qid.toNat
    % 32768)).seq 32 = true ∧ 0 < (value.toNat % 2 ^ 32 + 2 ^ 32 - (s.queue (qid.toNat % 32768)).tail) % 2 ^ 32 ∧
    (value.toNat % 2 ^ 32 + 2 ^ 32 - (s.queue (qid.toNat % 32768)).tail) % 2 ^ 32 < 2 ^ 31 ∧ (value.toNat % 2 ^ 32 + 2 ^ 32
    - (s.queue (qid.toNat % 32768)).head) % 2 ^ 32 ≤ 2 ^ (s.queue (qid.toNat % 32768)).ringLog2) ∧
    (∃ (s : State) (qid : BitVec 16) (value : BitVec 64) (c : Nat), s.domLive 3 = true ∧ s.flight.entryStep < 4 ∧
    s.mesh.holdSince = none ∧ s.doorbellCid (qid.toNat % 32768) = some c ∧ newer (value.toNat / 2 ^ 32) (s.queue (qid.toNat
    % 32768)).seq 32 = true ∧ 2 ^ 31 ≤ (value.toNat % 2 ^ 32 + 2 ^ 32 - (s.queue (qid.toNat % 32768)).tail) % 2 ^ 32) ∧
    (∃ (s : State) (qid : BitVec 16), s.domLive 3 = true ∧ s.flight.entryStep < 4 ∧ s.mesh.holdSince = none ∧ s.queueCid
    (qid.toNat % 32768) = none ∧ (s.queue (qid.toNat % 32768)).pkts = []) ∧
    (∃ (s : State) (qid : BitVec 16) (value : BitVec 64) (p : Pkt), s.domLive 3 = true ∧ s.flight.entryStep < 4 ∧
    s.mesh.holdSince = none ∧ s.queueCid (qid.toNat % 32768) ≠ none ∧ value.toNat < 2 ^ 32 ∧ (s.queue (qid.toNat %
    32768)).st ≠ QueueSt.disabled ∧ (s.queue (qid.toNat % 32768)).tail = (s.queue (qid.toNat % 32768)).head ∧ (s.queue
    (qid.toNat % 32768)).staged = none ∧ (s.queue (qid.toNat % 32768)).staging = none ∧ (s.queue (qid.toNat % 32768)).pkts =
    [p] ∧ p.index = value.toNat ∧ p.ended = none ∧ p.runs = [] ∧ p.st = PktSt.fetched) ∧
    (∃ (s : State) (qid : BitVec 16) (value : BitVec 64) (i : Nat), s.domLive 3 = true ∧ s.flight.entryStep < 4 ∧
    s.mesh.holdSince = none ∧ s.queueCid (qid.toNat % 32768) ≠ none ∧ value.toNat < 2 ^ 32 ∧ (s.queue (qid.toNat %
    32768)).st ≠ QueueSt.disabled ∧ (s.queue (qid.toNat % 32768)).staged = none ∧ (s.queue (qid.toNat % 32768)).pkts = [] ∧
    (value.toNat + 2 ^ 32 - (s.queue (qid.toNat % 32768)).head) % 2 ^ 32 < ((s.queue (qid.toNat % 32768)).tail + 2 ^ 32 -
    (s.queue (qid.toNat % 32768)).head) % 2 ^ 32 ∧ ¬(qid.toNat % 32768, value.toNat) ∈ s.disp.cancels ∧
    s.disp.cancels.length < 4096 ∧ (s.queue (qid.toNat % 32768)).staging = some i ∧ i = value.toNat) ∧
    (∃ (s : State) (qid : BitVec 16) (value : BitVec 64), s.domLive 3 = true ∧ s.flight.entryStep < 4 ∧ s.mesh.holdSince =
    none ∧ s.queueCid (qid.toNat % 32768) ≠ none ∧ value.toNat < 2 ^ 32 ∧ (s.queue (qid.toNat % 32768)).st ≠
    QueueSt.disabled ∧ (s.queue (qid.toNat % 32768)).staged = none ∧ (s.queue (qid.toNat % 32768)).staging = none ∧ (s.queue
    (qid.toNat % 32768)).pkts = [] ∧ (value.toNat + 2 ^ 32 - (s.queue (qid.toNat % 32768)).head) % 2 ^ 32 < ((s.queue
    (qid.toNat % 32768)).tail + 2 ^ 32 - (s.queue (qid.toNat % 32768)).head) % 2 ^ 32 ∧ ¬(qid.toNat % 32768, value.toNat) ∈
    s.disp.cancels ∧ s.disp.cancels.length < 4096) ∧
    (∃ (s : State) (qid : BitVec 16) (c : Nat) (raw : Nat), s.domLive 3 = true ∧ s.queueCid (qid.toNat % 32768) = some c ∧
    s.mayFetch (qid.toNat % 32768) c = true ∧ s.nextEntry (qid.toNat % 32768) c = Xres.ok (raw, [], false) ∧ s.fetchMode
    (qid.toNat % 32768) c = FetchMode.normal ∧ hasEvent raw = false ∧ hasFence raw = false ∧ packetBad raw (s.queue
    (qid.toNat % 32768)) (s.partClusters (s.ctx c).pid) = none ∧ packetHandles raw = []) ∧
    (∃ (s : State) (qid : BitVec 16) (c : Nat) (raw : Nat) (o : Nat), s.domLive 3 = true ∧ s.queueCid (qid.toNat % 32768) =
    some c ∧ s.mayFetch (qid.toNat % 32768) c = true ∧ s.nextEntry (qid.toNat % 32768) c = Xres.ok (raw, [], false) ∧
    s.fetchMode (qid.toNat % 32768) c = FetchMode.normal ∧ hasEvent raw = false ∧ hasFence raw = false ∧ packetBad raw
    (s.queue (qid.toNat % 32768)) (s.partClusters (s.ctx c).pid) = some o) ∧
    (∃ (s : State) (qid : BitVec 16) (i : BitVec 32) (p : Pkt) (e : PktEnd) (n : Nat), s.domLive 3 = true ∧ (s.queue
    (qid.toNat % 32768)).pkt i.toNat = some p ∧ p.ended = some e ∧ s.endSeq e = some n ∧ hasRecord p.raw = false ∧ p.refs =
    [] ∧ p.fenceVa = none ∧ (s.ctx p.cid).lossDue = false) ∧
    (∃ (s : State) (qid : BitVec 16) (i : BitVec 32) (p : Pkt) (e : PktEnd) (n : Nat) (va : Nat) (pa : Nat) (w : Nat) (k :
    Nat), s.domLive 3 = true ∧ (s.queue (qid.toNat % 32768)).pkt i.toNat = some p ∧ p.ended = some e ∧ s.endSeq e = some n ∧
    hasRecord p.raw = false ∧ p.refs = [] ∧ p.fenceVa = some va ∧ s.reach p.fenceCid va Access.write = Xres.ok pa ∧ paDie pa
    = s.ownDie ∧ pa % 16 = 0 ∧ Memory.wf s.mem = true ∧ Memory.wf s.basin.scratch = true ∧ fenceStep (s.physLe pa 8)
    (s.physLe (pa + 8) 8) (fenceUpOf p e n p.cid (qid.toNat % 32768)) = some (w, k)) :=
  ⟨⟨(nth sts 15), by decide +kernel⟩,
    ⟨(nth sts 13), by decide +kernel⟩,
    ⟨(nth sts 14), by decide +kernel⟩,
    ⟨(nth sts 9), 0xff81, by decide +kernel⟩,
    ⟨(nth sts 10), 3, 0x900000007, 5, by decide +kernel⟩,
    ⟨(nth sts 0), 3, 0xa00000007, 5, by decide +kernel⟩,
    ⟨(nth sts 6), 3, 0xa00000003, 5, by decide +kernel⟩,
    ⟨(nth sts 12), 0xfff4, by decide +kernel⟩,
    ⟨(nth sts 5), 3, 4, ⟨5, 4, 16, [], none, 0, PktSt.fetched, 0, 0, [], false, none, none, [], false, false, 0, 0, 255,
    0, 0, 0, 0, 0, 0, none, 0, none⟩, by decide +kernel⟩,
    ⟨(nth sts 16), 3, 0xa, 10, by decide +kernel⟩,
    ⟨(nth sts 0), 3, 5, by decide +kernel⟩,
    ⟨(nth sts 1), 3, 5, 0, by decide +kernel⟩,
    ⟨(nth sts 3), 3, 5, 119, 0, by decide +kernel⟩,
    ⟨(nth sts 10), 3, 4, ⟨5, 4, 328208, [], none, 0, PktSt.started, 0, 0, [], false, none, some (PktEnd.error 32 1
    none), [], false, false, 0, 0, 255, 0, 0, 0, 0, 0, 0, none, 0, none⟩, PktEnd.error 32 1 none, 0, by decide +kernel⟩,
    ⟨(nth sts 12), 3, 4, ⟨5, 4, 3062541302288446171170371466885913903376, [], some 3407872, 5, PktSt.started, 0, 0, [],
    false, none, some (PktEnd.error 32 1 (some 6)), [], false, false, 0, 0, 255, 0, 0, 0, 0, 0, 0, none, 0, none⟩,
    PktEnd.error 32 1 (some 6), 12, 3407872, 3407872, 9223372036854775808, 52798033166624, by decide +kernel⟩⟩

theorem wit_SubmissionAndRetirement_1 :
    ∃ (s : State) (qid : BitVec 16) (i : Nat) (c : Nat) (bs : List Byte) (u : State) (rs : List Ref), s.domLive 3 = true ∧
    (s.queue (qid.toNat % 32768)).staging = some i ∧ s.queueCid (qid.toNat % 32768) = some c ∧ (s.updQueue (qid.toNat %
    32768) fun x => { x with staging := none }).readVa c ((s.queue (qid.toNat % 32768)).slotVa i) 64 = Xres.ok bs ∧
    packetBad (leNat bs) (s.queue (qid.toNat % 32768)) (s.partClusters (s.ctx c).pid) = none ∧ (s.updQueue (qid.toNat %
    32768) fun x => { x with staging := none }).takeRefs c (leNat bs) none (packetHandles (leNat bs)) [] = (u, Except.ok rs)
    ∧ sizeBad (leNat bs) rs = none ∧ hasEvent (leNat bs) = false := by
  refine ⟨nth sts 16, 0x3#16, 10, 5, List.replicate 64 0, _, [], ?_, ?_, ?_, ?_, ?_, fst_is (except_ok (by decide +kernel)),
      ?_, ?_⟩ <;> decide +kernel

theorem wit_SubmissionAndRetirement_2 :
    ∃ (s : State) (qid : BitVec 16) (n : BitVec 1) (i : Nat) (p : Pkt) (u : State) (d : Nat), s.domLive 3 = true ∧ s.domLive
    4 = true ∧ s.dmaQueue n.toNat = [(qid.toNat % 32768, i)] ∧ (s.queue (qid.toNat % 32768)).pkt i = some p ∧ p.st =
    PktSt.started ∧ p.token = none ∧ p.ended = none ∧ opOf p.raw ≠ 50 ∧ opOf p.raw ≠ 51 ∧ s.dmaStalled n.toNat = false ∧
    p.dma = some n.toNat ∧ s.dmaBlocks n.toNat p.cid p.raw p.done (2 ^ 31) = (u, d, none) := by
  refine ⟨nth sts 8, 0x3#16, 0x0#1, 4,
      { cid := 5, index := 4, raw := 275814043374761354485953280701005296643663621139870280101443144262566898702060936525472085722444465656270099742457905, refs := [], fenceVa := none, fenceCid := 0, st := PktSt.started, entry := 0, nextInst := 0, runs := [], noMore := false, firstEnd := none, ended := none, startMissed := [], startMiss := false, finishMiss := false, startT := 0, endT := 0, tile := 255, runT := 0, converted := 0, clipped := 0, flushed := 0, nan := 0, unwritten := 0, dma := some 0, done := 0, token := none },
      _, 70, ?_, ?_, ?_, ?_, ?_, ?_, ?_, ?_, ?_, ?_, ?_, fst_is (by decide +kernel)⟩ <;> decide +kernel

end W35

namespace W36

def raw (l : List (Nat × Nat × Nat)) : Nat := l.foldl (fun n e => n + e.2.2 * 256 ^ e.1) 0
def q (s : State) (x : Queue) : State := { s with queues := [(3, x)] }
def Q : Queue := { Queue.reset with st := .active, ringVa := 0x900000, ringLog2 := 6, head := 4, tail := 6, seq := 9, prefetch := 4, stageSlot := true }
def P (op : Nat) : Pkt := { Pkt.fresh 5 4 op with st := .fetched }
def one (op : Nat) (l : List (Nat × Nat × Nat)) : State := q w0 { Q with pkts := [P (op + raw l)] }
def two (op : Nat) (l : List (Nat × Nat × Nat)) : State := q w0 { Q with pkts := [{ Pkt.fresh 5 3 0x10 with st := .started }, P (op + raw l)] }
def thr (op : Nat) (l : List (Nat × Nat × Nat)) : State := { q w0 { Q with pkts := [{ Pkt.fresh 5 3 0x32 with st := .started, dma := some 1 }, P (op + raw l)] } with disp := { w0.disp with dma := [(1, [(3, 3)])] } }
def rf (a : Nat) : Ref := ⟨0x18, 0x111, a, 16, 1, 5⟩
def sts : List State := [0x00, 0x10, 0x11, 0x20, 0x22, 0x30, 0x31, 0x32, 0x33, 0x34, 0x40, 0x41,
    0x50].flatMap (fun op => [one op [(0x28, 2, 5)], two op [(0x20, 8, 3), (0x28, 1, 5), (0x18, 8, 0x350000)]])
 ++ [one 0x30 [], q w0 { Q with pkts := [{ P (0x21 + 7 * 256 ^ 0x20) with refs := [rf 0x380000] }] }] ++ [thr 0x30 [(0x28, 2,
     5), (0x38, 1, 2)], thr 0x31 [(0x20, 2, 5), (0x38, 1, 2)]] ++
 [0x32, 0x33, 0x34].map (fun op => { q w0 { Q with pkts := [{ Pkt.fresh 5 3 0x32 with st := .started, dma := some 0 }, { Pkt.fresh 5 2 0x32 with st := .started, dma := some 1 }, { Pkt.fresh 5 1 0x32 with st := .offered, dma := some 1 }, P op] } with disp := { w0.disp with dma := [(0, [(3, 3)]), (1, [(3, 2), (3, 1)])] } }) ++ 
 [q w0 { Q with st := .disabled, pkts := [{ P (0x21 + 7 * 256 ^ 0x20) with refs := [rf 0x380000] }] },
     { one 0x40 [(0x28, 1, 5)] with disp := { w0.disp with tiles := [(5, { DTile.reset with st := .running })] } },
     { one 0x41 [(0x28, 1, 5)] with disp := { w0.disp with tiles := [(5, { DTile.reset with st := .running })] } }]

/-- Obligations.PacketStarts: states and operands that meet its hypotheses, clause by clause. -/
theorem wit_PacketStarts :
    (∃ (s : State) (qid : BitVec 16) (index : BitVec 32) (p : Pkt), s.domLive 3 = true ∧ (s.queue (qid.toNat % 32768)).pkt
    index.toNat = some p ∧ p.st = PktSt.fetched ∧ p.ended = none ∧ (isSerial p.raw = true → (s.queue (qid.toNat %
    32768)).oldest index.toNat = true) ∧ opOf p.raw = 0) ∧
    (∃ (s : State) (qid : BitVec 16) (index : BitVec 32) (p : Pkt), s.domLive 3 = true ∧ (s.queue (qid.toNat % 32768)).pkt
    index.toNat = some p ∧ p.st = PktSt.fetched ∧ p.ended = none ∧ (isSerial p.raw = true → (s.queue (qid.toNat %
    32768)).oldest index.toNat = true) ∧ opOf p.raw = 16) ∧
    (∃ (s : State) (qid : BitVec 16) (index : BitVec 32) (p : Pkt), s.domLive 3 = true ∧ (s.queue (qid.toNat % 32768)).pkt
    index.toNat = some p ∧ p.st = PktSt.fetched ∧ p.ended = none ∧ (isSerial p.raw = true → (s.queue (qid.toNat %
    32768)).oldest index.toNat = true) ∧ opOf p.raw = 17) ∧
    (∃ (s : State) (qid : BitVec 16) (index : BitVec 32) (p : Pkt), s.domLive 3 = true ∧ (s.queue (qid.toNat % 32768)).pkt
    index.toNat = some p ∧ p.st = PktSt.fetched ∧ p.ended = none ∧ (isSerial p.raw = true → (s.queue (qid.toNat %
    32768)).oldest index.toNat = true) ∧ opOf p.raw = 32 ∧ (s.queue (qid.toNat % 32768)).oldest index.toNat = true) ∧
    (∃ (s : State) (qid : BitVec 16) (index : BitVec 32) (p : Pkt), s.domLive 3 = true ∧ (s.queue (qid.toNat % 32768)).pkt
    index.toNat = some p ∧ p.st = PktSt.fetched ∧ p.ended = none ∧ (isSerial p.raw = true → (s.queue (qid.toNat %
    32768)).oldest index.toNat = true) ∧ opOf p.raw = 32 ∧ (s.queue (qid.toNat % 32768)).oldest index.toNat = false) ∧
    (∃ (s : State) (qid : BitVec 16) (index : BitVec 32) (p : Pkt) (r : Ref) (pa : Nat), s.domLive 3 = true ∧ (s.queue
    (qid.toNat % 32768)).pkt index.toNat = some p ∧ p.st = PktSt.fetched ∧ p.ended = none ∧ (isSerial p.raw = true →
    (s.queue (qid.toNat % 32768)).oldest index.toNat = true) ∧ opOf p.raw = 33 ∧ refAt p.refs 24 = some r ∧ s.reach r.owner
    r.addr Access.read = Xres.ok pa ∧ s.physLe pa 8 / 2 ^ 62 = 0) ∧
    (∃ (s : State) (qid : BitVec 16) (index : BitVec 32) (p : Pkt), s.domLive 3 = true ∧ (s.queue (qid.toNat % 32768)).pkt
    index.toNat = some p ∧ p.st = PktSt.fetched ∧ p.ended = none ∧ (isSerial p.raw = true → (s.queue (qid.toNat %
    32768)).oldest index.toNat = true) ∧ opOf p.raw = 34 ∧ (s.queue (qid.toNat % 32768)).oldest index.toNat = true) ∧
    (∃ (s : State) (qid : BitVec 16) (index : BitVec 32) (p : Pkt), s.domLive 3 = true ∧ (s.queue (qid.toNat % 32768)).pkt
    index.toNat = some p ∧ p.st = PktSt.fetched ∧ p.ended = none ∧ (isSerial p.raw = true → (s.queue (qid.toNat %
    32768)).oldest index.toNat = true) ∧ opOf p.raw = 34 ∧ (s.queue (qid.toNat % 32768)).oldest index.toNat = false) ∧
    (∃ (s : State) (qid : BitVec 16) (index : BitVec 32) (p : Pkt), s.domLive 3 = true ∧ (s.queue (qid.toNat % 32768)).pkt
    index.toNat = some p ∧ p.st = PktSt.fetched ∧ p.ended = none ∧ (isSerial p.raw = true → (s.queue (qid.toNat %
    32768)).oldest index.toNat = true) ∧ opOf p.raw = 48 ∧ pfld p.raw 40 8 = 0) ∧
    (∃ (s : State) (qid : BitVec 16) (index : BitVec 32) (p : Pkt), s.domLive 3 = true ∧ (s.queue (qid.toNat % 32768)).pkt
    index.toNat = some p ∧ p.st = PktSt.fetched ∧ p.ended = none ∧ (isSerial p.raw = true → (s.queue (qid.toNat %
    32768)).oldest index.toNat = true) ∧ opOf p.raw = 48 ∧ pfld p.raw 40 8 ≠ 0 ∧ s.dmaQueue (s.dmaFor p.raw) = [] ∧
    s.dmaStalled (s.dmaFor p.raw) = false) ∧
    (∃ (s : State) (qid : BitVec 16) (index : BitVec 32) (p : Pkt), s.domLive 3 = true ∧ (s.queue (qid.toNat % 32768)).pkt
    index.toNat = some p ∧ p.st = PktSt.fetched ∧ p.ended = none ∧ (isSerial p.raw = true → (s.queue (qid.toNat %
    32768)).oldest index.toNat = true) ∧ opOf p.raw = 48 ∧ pfld p.raw 40 8 ≠ 0 ∧ s.dmaRunning (s.dmaFor p.raw) ≠ []) ∧
    (∃ (s : State) (qid : BitVec 16) (index : BitVec 32) (p : Pkt), s.domLive 3 = true ∧ (s.queue (qid.toNat % 32768)).pkt
    index.toNat = some p ∧ p.st = PktSt.fetched ∧ p.ended = none ∧ (isSerial p.raw = true → (s.queue (qid.toNat %
    32768)).oldest index.toNat = true) ∧ opOf p.raw = 49 ∧ pfld p.raw 32 8 = 0) ∧
    (∃ (s : State) (qid : BitVec 16) (index : BitVec 32) (p : Pkt), s.domLive 3 = true ∧ (s.queue (qid.toNat % 32768)).pkt
    index.toNat = some p ∧ p.st = PktSt.fetched ∧ p.ended = none ∧ (isSerial p.raw = true → (s.queue (qid.toNat %
    32768)).oldest index.toNat = true) ∧ opOf p.raw = 49 ∧ pfld p.raw 32 8 ≠ 0 ∧ s.dmaQueue (s.dmaFor p.raw) = [] ∧
    s.dmaStalled (s.dmaFor p.raw) = false) ∧
    (∃ (s : State) (qid : BitVec 16) (index : BitVec 32) (p : Pkt), s.domLive 3 = true ∧ (s.queue (qid.toNat % 32768)).pkt
    index.toNat = some p ∧ p.st = PktSt.fetched ∧ p.ended = none ∧ (isSerial p.raw = true → (s.queue (qid.toNat %
    32768)).oldest index.toNat = true) ∧ opOf p.raw = 49 ∧ pfld p.raw 32 8 ≠ 0 ∧ s.dmaRunning (s.dmaFor p.raw) ≠ []) ∧
    (∃ (s : State) (qid : BitVec 16) (index : BitVec 32) (p : Pkt), s.domLive 3 = true ∧ (s.queue (qid.toNat % 32768)).pkt
    index.toNat = some p ∧ p.st = PktSt.fetched ∧ p.ended = none ∧ (isSerial p.raw = true → (s.queue (qid.toNat %
    32768)).oldest index.toNat = true) ∧ opOf p.raw = 50 ∧ s.dmaQueue (s.dmaFor p.raw) = [] ∧ s.dmaStalled (s.dmaFor p.raw)
    = false) ∧
    (∃ (s : State) (qid : BitVec 16) (index : BitVec 32) (p : Pkt), s.domLive 3 = true ∧ (s.queue (qid.toNat % 32768)).pkt
    index.toNat = some p ∧ p.st = PktSt.fetched ∧ p.ended = none ∧ (isSerial p.raw = true → (s.queue (qid.toNat %
    32768)).oldest index.toNat = true) ∧ opOf p.raw = 50 ∧ s.dmaRunning (s.dmaFor p.raw) ≠ []) ∧
    (∃ (s : State) (qid : BitVec 16) (index : BitVec 32) (p : Pkt), s.domLive 3 = true ∧ (s.queue (qid.toNat % 32768)).pkt
    index.toNat = some p ∧ p.st = PktSt.fetched ∧ p.ended = none ∧ (isSerial p.raw = true → (s.queue (qid.toNat %
    32768)).oldest index.toNat = true) ∧ opOf p.raw = 51 ∧ s.dmaQueue (s.dmaFor p.raw) = [] ∧ s.dmaStalled (s.dmaFor p.raw)
    = false) ∧
    (∃ (s : State) (qid : BitVec 16) (index : BitVec 32) (p : Pkt), s.domLive 3 = true ∧ (s.queue (qid.toNat % 32768)).pkt
    index.toNat = some p ∧ p.st = PktSt.fetched ∧ p.ended = none ∧ (isSerial p.raw = true → (s.queue (qid.toNat %
    32768)).oldest index.toNat = true) ∧ opOf p.raw = 51 ∧ s.dmaRunning (s.dmaFor p.raw) ≠ []) ∧
    (∃ (s : State) (qid : BitVec 16) (index : BitVec 32) (p : Pkt), s.domLive 3 = true ∧ (s.queue (qid.toNat % 32768)).pkt
    index.toNat = some p ∧ p.st = PktSt.fetched ∧ p.ended = none ∧ (isSerial p.raw = true → (s.queue (qid.toNat %
    32768)).oldest index.toNat = true) ∧ opOf p.raw = 52 ∧ s.dmaQueue (s.dmaFor p.raw) = [] ∧ s.dmaStalled (s.dmaFor p.raw)
    = false) ∧
    (∃ (s : State) (qid : BitVec 16) (index : BitVec 32) (p : Pkt), s.domLive 3 = true ∧ (s.queue (qid.toNat % 32768)).pkt
    index.toNat = some p ∧ p.st = PktSt.fetched ∧ p.ended = none ∧ (isSerial p.raw = true → (s.queue (qid.toNat %
    32768)).oldest index.toNat = true) ∧ opOf p.raw = 52 ∧ s.dmaRunning (s.dmaFor p.raw) ≠ []) ∧
    (∃ (s : State) (qid : BitVec 16) (index : BitVec 32) (p : Pkt), s.domLive 3 = true ∧ (s.queue (qid.toNat % 32768)).pkt
    index.toNat = some p ∧ p.st = PktSt.fetched ∧ p.ended = none ∧ (isSerial p.raw = true → (s.queue (qid.toNat %
    32768)).oldest index.toNat = true) ∧ (s.dtile (pfld p.raw 40 1)).st = TileSt.idle ∧ (s.dtile (pfld p.raw 40 1)).cur =
    none ∧ (s.tile (pfld p.raw 40 1)).halted = false ∧ s.domOpen (clDom (pfld p.raw 40 1 / 4)) = true ∧ s.clusterServes
    (s.ctx p.cid).pid 0 (pfld p.raw 40 1 / 4) = true ∧ ((s.dtile (pfld p.raw 40 1)).claim = none ∨ (s.dtile (pfld p.raw 40
    1)).claim = some (qid.toNat % 32768)) ∧ s.disp.on = true ∧ opOf p.raw = 64) ∧
    (∃ (s : State) (qid : BitVec 16) (index : BitVec 32) (p : Pkt), s.domLive 3 = true ∧ (s.queue (qid.toNat % 32768)).pkt
    index.toNat = some p ∧ p.st = PktSt.fetched ∧ p.ended = none ∧ (isSerial p.raw = true → (s.queue (qid.toNat %
    32768)).oldest index.toNat = true) ∧ (s.dtile (pfld p.raw 40 1)).st = TileSt.idle ∧ (s.dtile (pfld p.raw 40 1)).cur =
    none ∧ (s.tile (pfld p.raw 40 1)).halted = false ∧ s.domOpen (clDom (pfld p.raw 40 1 / 4)) = true ∧ s.clusterServes
    (s.ctx p.cid).pid 0 (pfld p.raw 40 1 / 4) = true ∧ ((s.dtile (pfld p.raw 40 1)).claim = none ∨ (s.dtile (pfld p.raw 40
    1)).claim = some (qid.toNat % 32768)) ∧ s.disp.on = true ∧ opOf p.raw = 65) ∧
    (∃ (s : State) (qid : BitVec 16) (index : BitVec 32) (p : Pkt), s.domLive 3 = true ∧ (s.queue (qid.toNat % 32768)).pkt
    index.toNat = some p ∧ p.st = PktSt.fetched ∧ p.ended = none ∧ (isSerial p.raw = true → (s.queue (qid.toNat %
    32768)).oldest index.toNat = true) ∧ ((s.dtile (pfld p.raw 40 1)).st ≠ TileSt.idle ∨ s.clusterServes (s.ctx p.cid).pid 0
    (pfld p.raw 40 1 / 4) = false) ∧ opOf p.raw = 64) ∧
    (∃ (s : State) (qid : BitVec 16) (index : BitVec 32) (p : Pkt), s.domLive 3 = true ∧ (s.queue (qid.toNat % 32768)).pkt
    index.toNat = some p ∧ p.st = PktSt.fetched ∧ p.ended = none ∧ (isSerial p.raw = true → (s.queue (qid.toNat %
    32768)).oldest index.toNat = true) ∧ ((s.dtile (pfld p.raw 40 1)).st ≠ TileSt.idle ∨ s.clusterServes (s.ctx p.cid).pid 0
    (pfld p.raw 40 1 / 4) = false) ∧ opOf p.raw = 65) :=
  ⟨⟨(nth sts 1), 3, 4, ⟨5, 4,
    10679935179604550412322484798559730962219620072789386126636686878002211342271795147071739192672256, [], none, 0,
    PktSt.fetched, 0, 0, [], false, none, none, [], false, false, 0, 0, 255, 0, 0, 0, 0, 0, 0, none, 0, none⟩,
    by decide +kernel⟩,
    ⟨(nth sts 3), 3, 4, ⟨5, 4,
    10679935179604550412322484798559730962219620072789386126636686878002211342271795147071739192672272, [], none, 0,
    PktSt.fetched, 0, 0, [], false, none, none, [], false, false, 0, 0, 255, 0, 0, 0, 0, 0, 0, none, 0, none⟩,
    by decide +kernel⟩,
    ⟨(nth sts 5), 3, 4, ⟨5, 4,
    10679935179604550412322484798559730962219620072789386126636686878002211342271795147071739192672273, [], none, 0,
    PktSt.fetched, 0, 0, [], false, none, none, [], false, false, 0, 0, 255, 0, 0, 0, 0, 0, 0, none, 0, none⟩,
    by decide +kernel⟩,
    ⟨(nth sts 6), 3, 4, ⟨5, 4,
    10679935179604550411975108530847760573013522611783263849735208039111098628903202750114810434682912, [], none, 0,
    PktSt.fetched, 0, 0, [], false, none, none, [], false, false, 0, 0, 255, 0, 0, 0, 0, 0, 0, none, 0, none⟩,
    by decide +kernel⟩,
    ⟨(nth sts 7), 3, 4, ⟨5, 4,
    10679935179604550412322484798559730962219620072789386126636686878002211342271795147071739192672288, [], none, 0,
    PktSt.fetched, 0, 0, [], false, none, none, [], false, false, 0, 0, 255, 0, 0, 0, 0, 0, 0, none, 0, none⟩,
    by decide +kernel⟩,
    ⟨(nth sts 33), 3, 4, ⟨5, 4, 810544624661213367964996895060815354972889892659483948276203088055391907479585, [⟨24,
    273, 3670016, 16, 1, 5⟩], none, 0, PktSt.fetched, 0, 0, [], false, none, none, [], false, false, 0, 0, 255, 0, 0, 0,
    0, 0, 0, none, 0, none⟩, ⟨24, 273, 3670016, 16, 1, 5⟩, 3670016, by decide +kernel⟩,
    ⟨(nth sts 8), 3, 4, ⟨5, 4,
    10679935179604550411975108530847760573013522611783263849735208039111098628903202750114810434682914, [], none, 0,
    PktSt.fetched, 0, 0, [], false, none, none, [], false, false, 0, 0, 255, 0, 0, 0, 0, 0, 0, none, 0, none⟩,
    by decide +kernel⟩,
    ⟨(nth sts 9), 3, 4, ⟨5, 4,
    10679935179604550412322484798559730962219620072789386126636686878002211342271795147071739192672290, [], none, 0,
    PktSt.fetched, 0, 0, [], false, none, none, [], false, false, 0, 0, 255, 0, 0, 0, 0, 0, 0, none, 0, none⟩,
    by decide +kernel⟩,
    ⟨(nth sts 26), 3, 4, ⟨5, 4, 48, [], none, 0, PktSt.fetched, 0, 0, [], false, none, none, [], false, false, 0, 0,
    255, 0, 0, 0, 0, 0, 0, none, 0, none⟩, by decide +kernel⟩,
    ⟨(nth sts 11), 3, 4, ⟨5, 4,
    10679935179604550412322484798559730962219620072789386126636686878002211342271795147071739192672304, [], none, 0,
    PktSt.fetched, 0, 0, [], false, none, none, [], false, false, 0, 0, 255, 0, 0, 0, 0, 0, 0, none, 0, none⟩,
    by decide +kernel⟩,
    ⟨(nth sts 28), 3, 4, ⟨5, 4,
    1453677448591213781098647615776009068717962656554240670974955506892126336799809369264165365277262339160636141841435558617184013691912240,
    [], none, 0, PktSt.fetched, 0, 0, [], false, none, none, [], false, false, 0, 0, 255, 0, 0, 0, 0, 0, 0, none, 0,
    none⟩, by decide +kernel⟩,
    ⟨(nth sts 12), 3, 4, ⟨5, 4,
    10679935179604550411975108530847760573013522611783263849735208039111098628903202750114810434682929, [], none, 0,
    PktSt.fetched, 0, 0, [], false, none, none, [], false, false, 0, 0, 255, 0, 0, 0, 0, 0, 0, none, 0, none⟩,
    by decide +kernel⟩,
    ⟨(nth sts 13), 3, 4, ⟨5, 4,
    10679935179604550412322484798559730962219620072789386126636686878002211342271795147071739192672305, [], none, 0,
    PktSt.fetched, 0, 0, [], false, none, none, [], false, false, 0, 0, 255, 0, 0, 0, 0, 0, 0, none, 0, none⟩,
    by decide +kernel⟩,
    ⟨(nth sts 29), 3, 4, ⟨5, 4,
    1453677448591213781098647615776009068707282721374636120563559358807465157203913701577425540966793481044853246032729643787108768905429041,
    [], none, 0, PktSt.fetched, 0, 0, [], false, none, none, [], false, false, 0, 0, 255, 0, 0, 0, 0, 0, 0, none, 0,
    none⟩, by decide +kernel⟩,
    ⟨(nth sts 15), 3, 4, ⟨5, 4,
    10679935179604550412322484798559730962219620072789386126636686878002211342271795147071739192672306, [], none, 0,
    PktSt.fetched, 0, 0, [], false, none, none, [], false, false, 0, 0, 255, 0, 0, 0, 0, 0, 0, none, 0, none⟩,
    by decide +kernel⟩,
    ⟨(nth sts 30), 3, 4, ⟨5, 4, 50, [], none, 0, PktSt.fetched, 0, 0, [], false, none, none, [], false, false, 0, 0,
    255, 0, 0, 0, 0, 0, 0, none, 0, none⟩, by decide +kernel⟩,
    ⟨(nth sts 17), 3, 4, ⟨5, 4,
    10679935179604550412322484798559730962219620072789386126636686878002211342271795147071739192672307, [], none, 0,
    PktSt.fetched, 0, 0, [], false, none, none, [], false, false, 0, 0, 255, 0, 0, 0, 0, 0, 0, none, 0, none⟩,
    by decide +kernel⟩,
    ⟨(nth sts 31), 3, 4, ⟨5, 4, 51, [], none, 0, PktSt.fetched, 0, 0, [], false, none, none, [], false, false, 0, 0,
    255, 0, 0, 0, 0, 0, 0, none, 0, none⟩, by decide +kernel⟩,
    ⟨(nth sts 18), 3, 4, ⟨5, 4,
    10679935179604550411975108530847760573013522611783263849735208039111098628903202750114810434682932, [], none, 0,
    PktSt.fetched, 0, 0, [], false, none, none, [], false, false, 0, 0, 255, 0, 0, 0, 0, 0, 0, none, 0, none⟩,
    by decide +kernel⟩,
    ⟨(nth sts 32), 3, 4, ⟨5, 4, 52, [], none, 0, PktSt.fetched, 0, 0, [], false, none, none, [], false, false, 0, 0,
    255, 0, 0, 0, 0, 0, 0, none, 0, none⟩, by decide +kernel⟩,
    ⟨(nth sts 20), 3, 4, ⟨5, 4,
    10679935179604550411975108530847760573013522611783263849735208039111098628903202750114810434682944, [], none, 0,
    PktSt.fetched, 0, 0, [], false, none, none, [], false, false, 0, 0, 255, 0, 0, 0, 0, 0, 0, none, 0, none⟩,
    by decide +kernel⟩,
    ⟨(nth sts 22), 3, 4, ⟨5, 4,
    10679935179604550411975108530847760573013522611783263849735208039111098628903202750114810434682945, [], none, 0,
    PktSt.fetched, 0, 0, [], false, none, none, [], false, false, 0, 0, 255, 0, 0, 0, 0, 0, 0, none, 0, none⟩,
    by decide +kernel⟩,
    ⟨(nth sts 34), 3, 4, ⟨5, 4,
    10679935179604550411975108530847760573013522611783263849735208039111098628903202750114810434682944, [], none, 0,
    PktSt.fetched, 0, 0, [], false, none, none, [], false, false, 0, 0, 255, 0, 0, 0, 0, 0, 0, none, 0, none⟩,
    by decide +kernel⟩,
    ⟨(nth sts 35), 3, 4, ⟨5, 4,
    10679935179604550411975108530847760573013522611783263849735208039111098628903202750114810434682945, [], none, 0,
    PktSt.fetched, 0, 0, [], false, none, none, [], false, false, 0, 0, 255, 0, 0, 0, 0, 0, 0, none, 0, none⟩,
    by decide +kernel⟩⟩

theorem wit_PacketStarts_1 :
    ∃ (s : State) (qid : BitVec 16) (index : BitVec 32) (p : Pkt) (u : State), s.domLive 3 = true ∧ (s.queue (qid.toNat %
    32768)).pkt index.toNat = some p ∧ p.st = PktSt.fetched ∧ p.ended = none ∧ (isSerial p.raw = true → (s.queue (qid.toNat
    % 32768)).oldest index.toNat = true) ∧ opOf p.raw = 80 ∧ s.writeVa p.cid (pfld p.raw 24 8) (leBytes 8 s.dspTime) =
    Xres.ok u := by
  refine ⟨nth sts 24, 0x3#16, 0x4#32,
      { cid := 5, index := 4, raw := 10679935179604550411975108530847760573013522611783263849735208039111098628903202750114810434682960, refs := [], fenceVa := none, fenceCid := 0, st := PktSt.fetched, entry := 0, nextInst := 0, runs := [], noMore := false, firstEnd := none, ended := none, startMissed := [], startMiss := false, finishMiss := false, startT := 0, endT := 0, tile := 255, runT := 0, converted := 0, clipped := 0, flushed := 0, nan := 0, unwritten := 0, dma := none, done := 0, token := none },
      _, ?_, ?_, ?_, ?_, ?_, ?_, ok_is w0 (by decide +kernel)⟩ <;> decide +kernel

end W36

namespace W37

def raw (l : List (Nat × Nat × Nat)) : Nat := l.foldl (fun n e => n + e.2.2 * 256 ^ e.1) 0
def q (s : State) (x : Queue) : State := { s with queues := [(3, x)], tiles := [(0, { busyTile with core := .idle, task := none }), (1, busyTile)] }
def Q : Queue := { Queue.reset with st := .active, ringVa := 0x900000, ringLog2 := 6, head := 4, tail := 6, seq := 9, prefetch := 4, missPolicy := 1 }
def P (l : List (Nat × Nat × Nat)) (st : PktSt) : Pkt := { Pkt.fresh 5 4 (raw l) with st := st }
def nd : Nat := (List.range 8).foldl (fun a b => if noDeadline (2 ^ (8 + b)) then a + 2 ^ b else a) 0
def task (st : PktSt) (dl : Bool) : Pkt := P [(0, 1, 0x10), (1, 1, if dl then 0 else nd), (0x18, 4, 0x20009), (0x1C, 4, 0x80),
    (0x28, 6, 900), (0x2E, 2, 3)] st
def grp (st : PktSt) : Pkt := P [(0, 1, 0x11), (0x18, 4, 0x20009), (0x1C, 4, 0x80), (0x28, 6, 900), (0x2E, 2, 3), (0x34, 2, 9)] st
def R (i : Nat) (pl : Place) (o : Bool) : Run := ⟨i, pl, 5, 6, 7, 8, o, none, ⟨0,0,0,0,0⟩⟩
def withP (p : Pkt) : State := q w0 { Q with pkts := [p] }
def cur (s : State) (n : Nat) (i : Nat) (st : TileSt) : State := s.setDtile n { DTile.reset with st := st, cur := some (3, 4, i), lastCid := some 5, lastProg := 3 }
def ti (s : State) (n : Nat) (f : Tile → Tile) : State := s.updTile n f
def ab (s : State) : State := { s with queues := s.queues.map fun e => (e.1, { e.2 with missPolicy := 2 }) }
def hold (n : Nat) (a : Option PktEnd) : State := cur (withP { task .started false with runs := [{ R 0 (.onTile n) false with abort := a }] }) n 0 .running
def sts : List State := [withP (task .offered false), withP (task .pooled false),
    { withP (task .pooled false) with disp := { w0.disp with pick := some ⟨3, 4, [(1, 0)], false⟩ } },
    withP (task .pooled true), withP (grp .pooled),
  withP { task .started false with runs := [R 0 (.onTile 1) false] },
      withP { task .started true with runs := [R 0 (.onTile 1) true] },
  { cur (withP { task .started false with runs := [R 0 (.onTile 0) false] }) 0 0 .running with disp := { (cur w0 0 0 .running).disp with handovers := [(0, 3, 4, 0)] } },
  { withP { grp .started with runs := [R 2 (.onTile 0) false] } with disp := { w0.disp with handovers := [(1, 3, 4, 1), (0, 3, 4, 2)] } },
  ti (hold 1 (some .cancelled)) 1 (fun x => { x with core := .ending }),
      ti (hold 1 none) 1 (fun x => { x with core := .ending, atEnd := true }),
      ti (hold 1 none) 1 (fun x => { x with core := .ending, exc := some ⟨0x16, 3, 0x40, 9⟩ }),
  withP (task .offered false),
  withP (task .pooled false) |>.setDtile 1 { DTile.reset with claim := some 9, idleSince := 0 },
      withP (task .pooled false) |>.setDtile 1 { DTile.reset with claim := some 9, idleSince := 2000000 },
      ti (withP (task .offered false)) 1 (fun x => { x with core := .ending, atEnd := true }),
  ab (withP (task .pooled true)), ab (withP { task .started true with runs := [R 0 (.onTile 1) false] }),
  { withP (task .pooled false) with disp := { w0.disp with pick := some ⟨3, 4, [(2, 0)], false⟩ } },
      { withP (task .pooled false) with conc := { w0.conc with held := [.demand 3], sent := [.demand 4] } }]

/-- Obligations.DispatcherEvents: states and operands that meet its hypotheses, clause by clause. -/
theorem wit_DispatcherEvents :
    (∃ (s : State), s.domLive 3 = true ∧ s.stalled (4 * dspStop) = true) ∧
    (∃ (s : State) (q : Nat) (x : Queue) (p : Pkt), s.domLive 3 = true ∧ s.stalled (4 * dspStop) = false ∧ s.disp.on = true ∧
    s.queues = [(q, x)] ∧ x.pkts = [p] ∧ isTask p.raw = true ∧ noDeadline p.raw = true ∧ p.ended = none ∧ p.runs = [] ∧
    p.noMore = false ∧ p.nextInst = 0 ∧ p.st = PktSt.offered ∧ s.disp.pick = none) ∧
    (∃ (s : State) (q : Nat) (x : Queue) (p : Pkt), s.domLive 3 = true ∧ s.stalled (4 * dspStop) = false ∧ s.disp.on = true ∧
    s.queues = [(q, x)] ∧ x.pkts = [p] ∧ isTask p.raw = true ∧ noDeadline p.raw = true ∧ p.ended = none ∧ p.runs = [] ∧
    p.noMore = false ∧ p.nextInst = 0 ∧ p.st = PktSt.pooled ∧ p.entry < s.disp.cycle + 1 ∧ opOf p.raw = 16 ∧ s.disp.pick =
    none ∧ s.get Reg.DSP_CTRL_HOLD = 0 ∧ s.disp.lastPick = none ∧ s.tilesFor
    { qid := q, index := p.index, inst := 0, slot := none, entry := p.entry, cid := p.cid } ≠ []) ∧
    (∃ (s : State) (tile : BitVec 6) (q : Nat) (x : Queue) (p : Pkt), s.domLive 3 = true ∧ s.stalled (4 * dspStop) = false ∧
    s.disp.on = true ∧ s.queues = [(q, x)] ∧ x.pkts = [p] ∧ isTask p.raw = true ∧ noDeadline p.raw = true ∧ p.ended = none ∧
    p.runs = [] ∧ p.noMore = false ∧ p.nextInst = 0 ∧ p.st = PktSt.pooled ∧ opOf p.raw = 16 ∧ s.disp.pick = some
    { qid := q, index := p.index, tiles := [(tile.toNat, 0)], resume := false } ∧ tile.toNat ∈ s.tilesFor
    { qid := q, index := p.index, inst := 0, slot := none, entry := p.entry, cid := p.cid }) ∧
    (∃ (s : State) (qid : BitVec 16) (inst : BitVec 16) (index : BitVec 32) (p : Pkt), s.domLive 3 = true ∧ (s.queue
    (qid.toNat % 32768)).pkt index.toNat = some p ∧ s.disp.on = true ∧ p.decided = false ∧ isTask p.raw = true ∧ noDeadline
    p.raw = false ∧ p.st = PktSt.pooled ∧ p.noMore = false ∧ p.nextInst ≤ inst.toNat ∧ inst.toNat < instCount p.raw ∧
    ¬inst.toNat ∈ p.startMissed ∧ s.passed (latestStart p.raw) = true ∧ (s.queue (qid.toNat % 32768)).policy = 1) ∧
    (∃ (s : State) (qid : BitVec 16) (index : BitVec 32) (p : Pkt), s.domLive 3 = true ∧ (s.queue (qid.toNat % 32768)).pkt
    index.toNat = some p ∧ s.disp.on = true ∧ p.decided = false ∧ isTask p.raw = true ∧ noDeadline p.raw = false ∧ p.entered
    = true ∧ p.finishMiss = false ∧ s.passed (pfld p.raw 40 6) = true ∧ (s.queue (qid.toNat % 32768)).policy = 1) ∧
    (∃ (s : State) (tile : BitVec 6) (qid : BitVec 16) (index : BitVec 32) (p : Pkt) (r : Run), s.domLive 3 = true ∧ (s.queue
    (qid.toNat % 32768)).pkt index.toNat = some p ∧ s.disp.on = true ∧ p.decided = false ∧ isTask p.raw = true ∧ noDeadline
    p.raw = false ∧ p.entered = true ∧ p.finishMiss = false ∧ s.passed (pfld p.raw 40 6) = true ∧ (s.queue (qid.toNat %
    32768)).policy = 2 ∧ p.runs = [r] ∧ r.abort = none ∧ r.place = Place.onTile tile.toNat) ∧
    (∃ (s : State) (qid : BitVec 16) (inst : BitVec 16) (index : BitVec 32) (p : Pkt) (r : Run), s.domLive 3 = true ∧
    (s.queue (qid.toNat % 32768)).pkt index.toNat = some p ∧ s.disp.on = true ∧ p.decided = false ∧ (s.queue (qid.toNat %
    32768)).policy = 1 ∧ p.runs = [r] ∧ r.inst = inst.toNat ∧ r.abort = none ∧ r.overrun = false ∧ pfld p.raw 46 2 * 100 ≤
    s.runCount r) ∧
    (∃ (s : State) (tile : BitVec 6) (qid : BitVec 16) (inst : BitVec 16) (index : BitVec 32) (p : Pkt) (r : Run), s.domLive
    3 = true ∧ (s.queue (qid.toNat % 32768)).pkt index.toNat = some p ∧ s.disp.on = true ∧ p.decided = false ∧ (s.queue
    (qid.toNat % 32768)).policy = 1 ∧ p.runs = [r] ∧ r.inst = inst.toNat ∧ r.abort = none ∧ r.overrun = true ∧ 4 * (pfld
    p.raw 46 2 * 100) ≤ s.runCount r ∧ r.place = Place.onTile tile.toNat) ∧
    (∃ (s : State) (qid : BitVec 16) (inst : BitVec 16) (index : BitVec 32) (p : Pkt) (r : Run), s.domLive 3 = true ∧
    (s.queue (qid.toNat % 32768)).pkt index.toNat = some p ∧ s.disp.on = true ∧ p.decided = false ∧ (s.queue (qid.toNat %
    32768)).policy = 1 ∧ p.runs = [r] ∧ r.inst = inst.toNat ∧ r.abort = none ∧ s.runCount r < pfld p.raw 46 2 * 100) ∧
    (∃ (s : State) (tile : BitVec 6) (q : Nat) (i : Nat) (k : Nat) (p : Pkt), s.domLive 3 = true ∧ List.find? (fun x => x.fst
    == tile.toNat) s.disp.handovers = some (tile.toNat, q, i, k) ∧ s.domLive (clDom (tile.toNat / 4)) = true ∧ (s.tile
    tile.toNat).core = CoreSt.idle ∧ (s.queue q).pkt i = some p ∧ ∀ (r : Run), r ∈ p.runs → r.abort = none) ∧
    (∃ (s : State) (tile : BitVec 6) (q : Nat) (i : Nat) (p : Pkt) (r : Run) (e : PktEnd), s.domLive 3 = true ∧ s.holder
    tile.toNat = some (q, i, p, r) ∧ r.abort = some e ∧ (s.tile tile.toNat).core = CoreSt.ending ∧ (s.tile tile.toNat).exc =
    none) ∧
    (∃ (s : State) (tile : BitVec 6), s.domLive 3 = true ∧ (s.tile tile.toNat).core = CoreSt.ending ∧ (s.tile
    tile.toNat).atEnd = true ∧ (s.tile tile.toNat).exc = none ∧ (s.tile tile.toNat).barges = [] ∧ (s.tile tile.toNat).units
    = []) ∧
    (∃ (s : State) (tile : BitVec 6) (q : Nat) (i : Nat) (p : Pkt) (r : Run) (e : TileExc), s.domLive 3 = true ∧ s.holder
    tile.toNat = some (q, i, p, r) ∧ (s.tile tile.toNat).exc = some e ∧ (s.tile tile.toNat).core = CoreSt.ending ∧ (s.tile
    tile.toNat).barges = [] ∧ (s.tile tile.toNat).units = []) ∧
    (∃ (s : State) (tile : BitVec 6), s.domLive 3 = true ∧ s.claimContested tile.toNat = true ∧ (s.dtile tile.toNat).st =
    TileSt.idle ∧ (s.dtile tile.toNat).idleSince + atLeast1 (s.get Reg.DSP_CLAIM_IDLE_TICKS) ≤ s.dspTime) ∧
    (∃ (s : State) (tile : BitVec 6), s.domLive 3 = true ∧ s.claimContested tile.toNat = true ∧ (s.dtile tile.toNat).st =
    TileSt.idle ∧ s.dspTime < (s.dtile tile.toNat).idleSince + atLeast1 (s.get Reg.DSP_CLAIM_IDLE_TICKS)) :=
  ⟨⟨(nth sts 19), by decide +kernel⟩,
    ⟨(nth sts 15), 3, ⟨QueueSt.active, 9437184, 0, 4, 6, 9, 6, 0, 0, false, false, false, 1, 4, 0, 0, 0, 0, false, none,
    none, none, 0, [⟨5, 4,
    1803680703572226307351449917408366356560080245338728298827790392508824366361168992009298605301816401176865804304,
    [], none, 0, PktSt.offered, 0, 0, [], false, none, none, [], false, false, 0, 0, 255, 0, 0, 0, 0, 0, 0, none, 0,
    none⟩]⟩, ⟨5, 4,
    1803680703572226307351449917408366356560080245338728298827790392508824366361168992009298605301816401176865804304,
    [], none, 0, PktSt.offered, 0, 0, [], false, none, none, [], false, false, 0, 0, 255, 0, 0, 0, 0, 0, 0, none, 0,
    none⟩, by decide +kernel⟩,
    ⟨(nth sts 13), 3, ⟨QueueSt.active, 9437184, 0, 4, 6, 9, 6, 0, 0, false, false, false, 1, 4, 0, 0, 0, 0, false, none,
    none, none, 0, [⟨5, 4,
    1803680703572226307351449917408366356560080245338728298827790392508824366361168992009298605301816401176865804304,
    [], none, 0, PktSt.pooled, 0, 0, [], false, none, none, [], false, false, 0, 0, 255, 0, 0, 0, 0, 0, 0, none, 0,
    none⟩]⟩, ⟨5, 4,
    1803680703572226307351449917408366356560080245338728298827790392508824366361168992009298605301816401176865804304,
    [], none, 0, PktSt.pooled, 0, 0, [], false, none, none, [], false, false, 0, 0, 255, 0, 0, 0, 0, 0, 0, none, 0,
    none⟩, by decide +kernel⟩,
    ⟨(nth sts 18), 2, 3, ⟨QueueSt.active, 9437184, 0, 4, 6, 9, 6, 0, 0, false, false, false, 1, 4, 0, 0, 0, 0, false,
    none, none, none, 0, [⟨5, 4,
    1803680703572226307351449917408366356560080245338728298827790392508824366361168992009298605301816401176865804304,
    [], none, 0, PktSt.pooled, 0, 0, [], false, none, none, [], false, false, 0, 0, 255, 0, 0, 0, 0, 0, 0, none, 0,
    none⟩]⟩, ⟨5, 4,
    1803680703572226307351449917408366356560080245338728298827790392508824366361168992009298605301816401176865804304,
    [], none, 0, PktSt.pooled, 0, 0, [], false, none, none, [], false, false, 0, 0, 255, 0, 0, 0, 0, 0, 0, none, 0,
    none⟩, by decide +kernel⟩,
    ⟨(nth sts 4), 3, 6, 4, ⟨5, 4,
    1523072952092734575665916441933811827214561797916060489312076163040529770798853849605602302022096025587455454322054994398806033,
    [], none, 0, PktSt.pooled, 0, 0, [], false, none, none, [], false, false, 0, 0, 255, 0, 0, 0, 0, 0, 0, none, 0,
    none⟩, by decide +kernel⟩,
    ⟨(nth sts 4), 3, 4, ⟨5, 4,
    1523072952092734575665916441933811827214561797916060489312076163040529770798853849605602302022096025587455454322054994398806033,
    [], none, 0, PktSt.pooled, 0, 0, [], false, none, none, [], false, false, 0, 0, 255, 0, 0, 0, 0, 0, 0, none, 0,
    none⟩, by decide +kernel⟩,
    ⟨(nth sts 17), 1, 3, 4, ⟨5, 4,
    1803680703572226307351449917408366356560080245338728298827790392508824366361168992009298605301816401176865800208,
    [], none, 0, PktSt.started, 0, 0, [⟨0, Place.onTile 1, 5, 6, 7, 8, false, none, ⟨0, 0, 0, 0, 0⟩⟩], false, none,
    none, [], false, false, 0, 0, 255, 0, 0, 0, 0, 0, 0, none, 0, none⟩, ⟨0, Place.onTile 1, 5, 6, 7, 8, false, none,
    ⟨0, 0, 0, 0, 0⟩⟩, by decide +kernel⟩,
    ⟨(nth sts 5), 3, 0, 4, ⟨5, 4,
    1803680703572226307351449917408366356560080245338728298827790392508824366361168992009298605301816401176865804304,
    [], none, 0, PktSt.started, 0, 0, [⟨0, Place.onTile 1, 5, 6, 7, 8, false, none, ⟨0, 0, 0, 0, 0⟩⟩], false, none,
    none, [], false, false, 0, 0, 255, 0, 0, 0, 0, 0, 0, none, 0, none⟩, ⟨0, Place.onTile 1, 5, 6, 7, 8, false, none,
    ⟨0, 0, 0, 0, 0⟩⟩, by decide +kernel⟩,
    ⟨(nth sts 6), 1, 3, 0, 4, ⟨5, 4,
    1803680703572226307351449917408366356560080245338728298827790392508824366361168992009298605301816401176865800208,
    [], none, 0, PktSt.started, 0, 0, [⟨0, Place.onTile 1, 5, 6, 7, 8, true, none, ⟨0, 0, 0, 0, 0⟩⟩], false, none, none,
    [], false, false, 0, 0, 255, 0, 0, 0, 0, 0, 0, none, 0, none⟩, ⟨0, Place.onTile 1, 5, 6, 7, 8, true, none, ⟨0, 0, 0,
    0, 0⟩⟩, by decide +kernel⟩,
    ⟨(nth sts 8), 3, 2, 4, ⟨5, 4,
    1523072952092734575665916441933811827214561797916060489312076163040529770798853849605602302022096025587455454322054994398806033,
    [], none, 0, PktSt.started, 0, 0, [⟨2, Place.onTile 0, 5, 6, 7, 8, false, none, ⟨0, 0, 0, 0, 0⟩⟩], false, none,
    none, [], false, false, 0, 0, 255, 0, 0, 0, 0, 0, 0, none, 0, none⟩, ⟨2, Place.onTile 0, 5, 6, 7, 8, false, none,
    ⟨0, 0, 0, 0, 0⟩⟩, by decide +kernel⟩,
    ⟨(nth sts 8), 0, 3, 4, 2, ⟨5, 4,
    1523072952092734575665916441933811827214561797916060489312076163040529770798853849605602302022096025587455454322054994398806033,
    [], none, 0, PktSt.started, 0, 0, [⟨2, Place.onTile 0, 5, 6, 7, 8, false, none, ⟨0, 0, 0, 0, 0⟩⟩], false, none,
    none, [], false, false, 0, 0, 255, 0, 0, 0, 0, 0, 0, none, 0, none⟩, by decide +kernel⟩,
    ⟨(nth sts 9), 1, 3, 4, ⟨5, 4,
    1803680703572226307351449917408366356560080245338728298827790392508824366361168992009298605301816401176865804304,
    [], none, 0, PktSt.started, 0, 0, [⟨0, Place.onTile 1, 5, 6, 7, 8, false, some (PktEnd.cancelled), ⟨0, 0, 0, 0,
    0⟩⟩], false, none, none, [], false, false, 0, 0, 255, 0, 0, 0, 0, 0, 0, none, 0, none⟩, ⟨0, Place.onTile 1, 5, 6, 7,
    8, false, some (PktEnd.cancelled), ⟨0, 0, 0, 0, 0⟩⟩, PktEnd.cancelled, by decide +kernel⟩,
    ⟨(nth sts 15), 1, by decide +kernel⟩,
    ⟨(nth sts 11), 1, 3, 4, ⟨5, 4,
    1803680703572226307351449917408366356560080245338728298827790392508824366361168992009298605301816401176865804304,
    [], none, 0, PktSt.started, 0, 0, [⟨0, Place.onTile 1, 5, 6, 7, 8, false, none, ⟨0, 0, 0, 0, 0⟩⟩], false, none,
    none, [], false, false, 0, 0, 255, 0, 0, 0, 0, 0, 0, none, 0, none⟩, ⟨0, Place.onTile 1, 5, 6, 7, 8, false, none,
    ⟨0, 0, 0, 0, 0⟩⟩, ⟨22, 3, 64, 9⟩, by decide +kernel⟩,
    ⟨(nth sts 13), 1, by decide +kernel⟩,
    ⟨(nth sts 14), 1, by decide +kernel⟩⟩

theorem wit_DispatcherEvents_1 : ∃ (s : State) (tile : BitVec 6) (q : Nat) (x : Queue) (p : Pkt), s.domLive 3 = true ∧
    s.stalled (4 * dspStop) = false ∧ s.disp.on = true ∧ s.queues = [(q, x)] ∧ x.pkts = [p] ∧ isTask p.raw = true ∧
    noDeadline p.raw = true ∧ p.ended = none ∧ p.runs = [] ∧ p.noMore = false ∧ p.nextInst = 0 ∧ p.st = PktSt.pooled ∧
    opOf p.raw = 16 ∧ s.disp.pick = some ⟨q, p.index, [(tile.toNat, 0)], false⟩ ∧
    ¬tile.toNat ∈ s.tilesFor ⟨q, p.index, 0, none, p.entry, p.cid⟩ :=
  ⟨{ withP (task .pooled false) with disp := { w0.disp with pick := some ⟨3, 4, [(60, 0)], false⟩ } }, 60, 3,
    { Q with pkts := [task .pooled false] }, task .pooled false, by decide +kernel⟩

theorem wit_DispatcherEvents_2 : ∃ (s : State) (qid : BitVec 16) (inst : BitVec 16) (index : BitVec 32) (p : Pkt),
    s.domLive 3 = true ∧
    (s.queue (qid.toNat % 32768)).pkt index.toNat = some p ∧ s.disp.on = true ∧ p.decided = false ∧ isTask p.raw = true ∧
    noDeadline p.raw = false ∧ p.st = PktSt.pooled ∧ p.noMore = false ∧ p.nextInst ≤ inst.toNat ∧
    inst.toNat < instCount p.raw ∧ ¬inst.toNat ∈ p.startMissed ∧ s.passed (latestStart p.raw) = true ∧
    (s.queue (qid.toNat % 32768)).policy = 2 ∧ p.runs = [] ∧ p.firstEnd = none :=
  ⟨ab (withP (task .pooled true)), 3, 0, 4, task .pooled true, by decide +kernel⟩

/-- a state packet of class 0 (`op` 0x40 saves, 0x41 loads), of no bank -/
def swapPkt (op : Nat) : Pkt := P [(0, 1, op), (0x20, 8, 0x300000), (0x28, 1, 1)] .started

theorem wit_DispatcherEvents_3 : ∃ (s : State) (tile : BitVec 6) (q : Nat) (i : Nat) (k : Nat) (p : Pkt) (img : List Byte),
    s.domLive 3 = true ∧ (s.dtile tile.toNat).cur = some (q, i, k) ∧ (s.dtile tile.toNat).st = TileSt.reserved ∧
    (s.queue q).pkt i = some p ∧ p.ended = none ∧ opOf p.raw = 65 ∧
    s.readVa p.cid (pfld p.raw 32 8) (imageSize p.raw) = Xres.ok img := by
  refine ⟨{ cur (withP (swapPkt 0x41)) 1 0 .reserved with mem := [] }, 1, 3, 4, 0, swapPkt 0x41, _, ?_, ?_, ?_, ?_, ?_, ?_,
    ok_is [] (by decide +kernel)⟩ <;> decide +kernel

theorem wit_DispatcherEvents_4 : ∃ (s : State) (tile : BitVec 6) (q : Nat) (i : Nat) (k : Nat) (p : Pkt) (u : State),
    s.domLive 3 = true ∧ (s.dtile tile.toNat).cur = some (q, i, k) ∧ (s.dtile tile.toNat).st = TileSt.reserved ∧
    (s.queue q).pkt i = some p ∧ p.ended = none ∧ opOf p.raw = 64 ∧
    s.writeVa p.cid (pfld p.raw 32 8) ((s.tile tile.toNat).image (pfld p.raw 41 1 == 1) (pfld p.raw 42 2)) =
      Xres.ok u := by
  refine ⟨{ cur (withP (swapPkt 0x40)) 1 0 .reserved with mem := [] }, 1, 3, 4, 0, swapPkt 0x40, _, ?_, ?_, ?_, ?_, ?_, ?_,
    ok_is w0 (by decide +kernel)⟩ <;> decide +kernel

end W37

namespace W38

def b (k : Nat) (d : BitVec 256) (f : Nat) : Barge := { va := 0x300000, desc := d, m1 := 0, m2 := 0, m3 := 0, done := 0, func := BitVec.ofNat 13 (16 * k + f), faulted := false }
def R (i : Nat) (pl : Place) (o : Bool) : Run := ⟨i, pl, 5, 6, 7, 8, o, none, ⟨0,0,0,0,0⟩⟩
def task (n : Nat) : Pkt := { Pkt.fresh 5 7 0x10 with st := .started, runs := [R 0 (.onTile n) false] }
def q (s : State) (n : Nat) : State := { s with queues := [(3, { Queue.reset with st := .active, pkts := [task n] })], disp := { s.disp with tiles := [(n, { DTile.reset with st := .running, cur := some (3, 7, 0) })] } }
def d1 : BitVec 256 := mkDesc 0x200 7 40 2 1 1 64 0 0
def fn (s : State) (l : List Fenced) : State := { s with disp := { s.disp with fences := l } }
def pgm (s : State) : State := { s with mem := s.mem.putList 0x200000 [1, 2, 3, 4] }
def sts : List State := [w0, fn w0 [⟨1, 2, false, 7⟩], fn (q w0 0) [⟨0, 2, false, 3⟩], fn (q w0 0) [⟨0, 2, false, 1000000⟩],
    upT w0 0 (fun x => { x with core := .idle, task := none }),
    pgm (upT w0 0 fun x => { x with core := .fetchWait, fetch := some (iline 0), istore := [], pc := 0 }), 
  upT w0 0 (fun x => { x with units := [⟨1, [], [], [], some ⟨0x12, 3, 4, 5⟩⟩], }),
      upT w0 0 (fun x => { x with units := [⟨1, [], [], [], none⟩, ⟨2, [], [], [], none⟩] }),
      upT w0 0 (fun x => { x with barges := [b 3 d1 0] }), upT w0 0 (fun x => { x with barges := [b 3 d1 1] }),
      q (upT w0 0 fun x => { x with barges := [b 3 d1 0] }) 0]

/-- Obligations.FencesAndTileEvents: states and operands that meet its hypotheses, clause by clause. -/
theorem wit_FencesAndTileEvents :
    (∃ (s : State) (cl : BitVec 4), s.domLive 3 = true ∧ s.fenced cl.toNat = false) ∧
    (∃ (s : State) (cl : BitVec 4) (f : Fenced), s.domLive 3 = true ∧ List.find? (fun x => x.cluster == cl.toNat)
    s.disp.fences = some f ∧ f.acked = false ∧ s.dspTime < f.at_ + atLeast1 (s.get Reg.DSP_FENCE_LIMIT_TICKS)) ∧
    (∃ (s : State) (cl : BitVec 4) (f : Fenced) (q : Nat) (i : Nat) (p : Pkt) (r : Run), s.domLive 3 = true ∧ List.find? (fun
    x => x.cluster == cl.toNat) s.disp.fences = some f ∧ f.acked = false ∧ f.at_ + atLeast1 (s.get
    Reg.DSP_FENCE_LIMIT_TICKS) ≤ s.dspTime ∧ s.holder (4 * cl.toNat) = some (q, i, p, r) ∧ r.abort = none ∧ r.place =
    Place.onTile (4 * cl.toNat)) ∧
    (∃ (s : State) (cl : BitVec 4), s.domLive 3 = true ∧ s.fenced cl.toNat = true ∧ s.clusterIdle cl.toNat = true) ∧
    (∃ (s : State) (tile : BitVec 6), s.domLive (clDom (tile.toNat / 4)) = true ∧ (s.tile tile.toNat).core = CoreSt.idle) ∧
    (∃ (s : State) (tile : BitVec 6), s.domLive (clDom (tile.toNat / 4)) = true ∧ (s.tile tile.toNat).core ≠ CoreSt.idle) ∧
    (∃ (s : State) (tile : BitVec 6) (u : BitVec 2) (o : UnitOp) (e : TileExc), u.toNat < 3 ∧ (s.tile tile.toNat).frontOp
    u.toNat = some o ∧ o.exc = some e ∧ coreHolds (s.tile tile.toNat).core = true ∧ (s.tile tile.toNat).exc = none) ∧
    (∃ (word : BitVec 32) (after : BitVec 32), (pairName word after).isSome = true) ∧
    (∃ (s : State) (tile : BitVec 6) (word : BitVec 32) (after : BitVec 32), pairName word after = none ∧ s.canIssue
    tile.toNat (isExt word) = true) ∧
    (∃ (s : State) (tile : BitVec 6) (u : BitVec 2) (o : UnitOp) (rest : List UnitOp), (s.tile tile.toNat).units = o :: rest
    ∧ o.unit = u.toNat ∧ o.exc = none ∧ (s.tile tile.toNat).wait = none ∧ (s.tile tile.toNat).stepping = false) ∧
    (∃ (s : State) (tile : BitVec 6) (id : BitVec 4) (code : BitVec 8) (b : Barge) (q : Nat) (i : Nat) (k : Nat), (s.tile
    tile.toNat).barges = [b] ∧ b.id = id.toNat ∧ b.faulted = false ∧ (s.tile tile.toNat).task = some (q, i, k) ∧ (s.tile
    tile.toNat).core = CoreSt.running ∧ 64 ≤ code.toNat ∧ code.toNat ≤ 79) :=
  ⟨⟨(nth sts 3), 0xf, by decide +kernel⟩,
    ⟨(nth sts 3), 0, ⟨0, 2, false, 1000000⟩, by decide +kernel⟩,
    ⟨(nth sts 2), 0, ⟨0, 2, false, 3⟩, 3, 7, ⟨5, 7, 16, [], none, 0, PktSt.started, 0, 0, [⟨0, Place.onTile 0, 5, 6, 7,
    8, false, none, ⟨0, 0, 0, 0, 0⟩⟩], false, none, none, [], false, false, 0, 0, 255, 0, 0, 0, 0, 0, 0, none, 0, none⟩,
    ⟨0, Place.onTile 0, 5, 6, 7, 8, false, none, ⟨0, 0, 0, 0, 0⟩⟩, by decide +kernel⟩,
    ⟨(nth sts 1), 1, by decide +kernel⟩,
    ⟨(nth sts 3), 0x3f, by decide +kernel⟩,
    ⟨(nth sts 8), 1, by decide +kernel⟩,
    ⟨(nth sts 6), 0, 1, ⟨1, [], [], [], some ⟨18, 3, 4, 5⟩⟩, ⟨18, 3, 4, 5⟩, by decide +kernel⟩,
    ⟨0x8808000, 0x8808000, by decide +kernel⟩,
    ⟨(nth sts 8), 1, 0xfc000001, 0xfc000001, by decide +kernel⟩,
    ⟨(nth sts 7), 0, 1, ⟨1, [], [], [], none⟩, [⟨2, [], [], [], none⟩], by decide +kernel⟩,
    ⟨(nth sts 8), 0, 3, 0x4e, ⟨3145728, 0x4000000000000100270000000000700200, 0, 0, 0, 0, 0x30, false⟩, 3, 7, 0,
    by decide +kernel⟩⟩

theorem wit_FencesAndTileEvents_1 : ∃ (s : State) (tile : BitVec 6) (pc : BitVec 32), (s.tile tile.toNat).task ≠ none ∧
    ((s.tile tile.toNat).core = CoreSt.running ∨ (s.tile tile.toNat).core = CoreSt.fetchWait) ∧
    pc.toNat < (s.tile tile.toNat).progSize ∧
    (∀ (k : Nat), k < 4 → ∃ bs, s.readVaBy tile.toNat (s.tile tile.toNat).cid
      ((s.tile tile.toNat).progVa + pc.toNat / 256 * 256 + 64 * k) 64 = Xres.ok bs) ∧
    ¬(s.tile tile.toNat).lineFor pc.toNat ∈ (s.tile tile.toNat).istore := by
  refine ⟨nth sts 10, 0, 0x3fef, ?_, ?_, ?_, ?_, ?_⟩
  case refine_4 =>
    intro k hk
    obtain rfl | rfl | rfl | rfl : k = 0 ∨ k = 1 ∨ k = 2 ∨ k = 3 := by omega
    all_goals exact ok_ex (by decide +kernel)
  all_goals decide +kernel

theorem wit_FencesAndTileEvents_2 :
    ∃ (s : State) (tile : BitVec 6) (id : BitVec 4) (b : Barge) (d : Desc) (hits : List TileHit) (u : State), (s.tile
    tile.toNat).barges = [b] ∧ b.id = id.toNat ∧ b.faulted = false ∧ b.sealed = false ∧ descFields b.desc = some d ∧ (s.tile
    tile.toNat).wait = none ∧ eccFree ((s.tile tile.toNat).bargeReads id.toNat) hits = true ∧ b.store = false ∧ s.loadMoves
    tile.toNat [] (b.moves d) = (u, none) := by
  refine ⟨nth sts 8, 0x0#6, 0x3#4,
      { va := 3145728, desc := 0x4000000000000100270000000000700200#256, m1 := 0x0#32, m2 := 0x0#32, m3 := 0x0#32, done := 0, func := 0x30#13, faulted := false },
      { base := 512, fmt := Fmt.int8, bscale := false, bsPtr := 0, d0 := 40, d1 := 2, d2 := 1, d3 := 1, st1 := 64, st2 := 0, st3 := 0 },
      [], _, ?_, ?_, ?_, ?_, ?_, ?_, ?_, ?_, fst_is (by decide +kernel)⟩ <;> decide +kernel

theorem wit_FencesAndTileEvents_3 :
    ∃ (s : State) (tile : BitVec 6) (id : BitVec 4) (b : Barge) (d : Desc) (hits : List TileHit) (u : State), (s.tile
    tile.toNat).barges = [b] ∧ b.id = id.toNat ∧ b.faulted = false ∧ b.sealed = false ∧ descFields b.desc = some d ∧ (s.tile
    tile.toNat).wait = none ∧ eccFree ((s.tile tile.toNat).bargeReads id.toNat) hits = true ∧ b.store = true ∧ s.storeMoves
    tile.toNat [] (b.moves d) = (u, none) := by
  refine ⟨nth sts 9, 0x0#6, 0x3#4,
      { va := 3145728, desc := 0x4000000000000100270000000000700200#256, m1 := 0x0#32, m2 := 0x0#32, m3 := 0x0#32, done := 0, func := 0x31#13, faulted := false },
      { base := 512, fmt := Fmt.int8, bscale := false, bsPtr := 0, d0 := 40, d1 := 2, d2 := 1, d3 := 1, st1 := 64, st2 := 0, st3 := 0 },
      [{ addr := 0x3e03#20, bad := false }], _, ?_, ?_, ?_, ?_, ?_, ?_, ?_, ?_, fst_is (by decide +kernel)⟩ <;> decide +kernel

end W38

namespace W39

def te (va : Nat) (w : Bool) : TlbEntry := ⟨5, va, 21, 0x300000 / 2^21 * 2^21, true, w, w, false⟩
def xl (s : State) (f : Xlt → Xlt) : State := { s with xlt := f s.xlt }
def pgd (s : State) : State := s.setCtx 5 { ctx5 with segments := false, transRoot := 0x500000, walks := 3 }
def wkk (st : Bool) (lv tb : Nat) : Walk := ⟨5, 1, 0x300000, [3, 4], 2, 0, st, lv, tb, true, true, []⟩
def pte (s : State) (a v : Nat) : State := { s with mem := s.mem.putLe a 8 v }
def q (s : State) (x : Queue) : State := { s with queues := [(3, x)] }
def su (s : State) : State := xl (q s { Queue.reset with st := .active, pkts := [{ Pkt.fresh 5 4 0x30 with st := .started, token := some 7, dma := some 0 }] }) fun x => { x with susp := [⟨7, 5, 3, 4, 0, 0x300000, 1, 0x01, 0, 64, 3, 0, 9, true⟩], nextToken := 8 }
def sts : List State := [w0,
    xl w0 fun x => { x with tlb1 := [(3, [te 0 true, te 0x200000 true])], tlb2 := [te 0x200000 true] },
    xl (pgd w0) fun x => { x with walks := [{ wkk false 4 0x500000 with page := 3 }], order := 5 },
    xl (pgd w0) fun x => { x with walks := [wkk false 4 0x500000, { wkk true 3 0x501000 with order := 1, page := 9 }, { wkk false 4 0x500000 with order := 2, page := 7, band := 1 }], order := 5, cache := [⟨5, 4, 0, 0x501000, true, true⟩] },
  pte (xl (pgd w0) fun x => { x with walks := [wkk true 4 0x500000] }) 0x500000 (1 + 2 + 8 + 16 + 0x501000),
      pte (xl (pgd w0) fun x => { x with walks := [wkk true 2 0x500000] }) 0x500008 (1 + 4 + 8 + 16 + 0x600000 + 2^53 + 2^54),
      pte (xl (pgd w0) fun x => { x with walks := [wkk true 3 0x500000] }) 0x500000 (1 + 4 + 16 + 2^53),
      xl (pgd w0) fun x => { x with walks := [wkk true 4 0x500000] },
  xl w0 fun x => { x with invals := (List.range 16).map fun k => (k, k) },
      xl w0 fun x => { x with invals := [(4, 5), (5, 6)] }, su w0, xl w0 (fun x => { x with refillAt := 1000000 }),
      { w0 with gtc := 1234567 }]

/-- Obligations.TranslationUnit: states and operands that meet its hypotheses, clause by clause. -/
theorem wit_TranslationUnit :
    (∃ (s : State) (who : BitVec 8) (cid : BitVec 10) (va : BitVec 64) (acc : Access) (e : TlbEntry), s.domLive 4 = true ∧
    canonical va.toNat = true ∧ ctxTranslates (s.ctx cid.toNat).st = true ∧ List.find? (fun x => x.hits cid.toNat va.toNat)
    (Tab.get [] s.xlt.tlb1 who.toNat) = some e ∧ e.grants acc = true) ∧
    (∃ (s : State) (who : BitVec 8) (cid : BitVec 10) (va : BitVec 64), s.domLive 4 = true ∧ canonical va.toNat = true ∧
    ctxTranslates (s.ctx cid.toNat).st = true ∧ List.find? (fun x => x.hits cid.toNat va.toNat) (Tab.get [] s.xlt.tlb1
    who.toNat) = none ∧ List.find? (fun x => x.hits cid.toNat va.toNat) s.xlt.tlb2 = none ∧ (s.ctx cid.toNat).segments =
    false) ∧
    (∃ (s : State) (cid : BitVec 10) (va : BitVec 64), s.domLive 4 = true ∧ canonical va.toNat = true ∧ ctxTranslates (s.ctx
    cid.toNat).st = false) ∧
    (∃ (s : State), s.domLive 4 = true ∧ (List.filter (fun x => x.started) s.xlt.walks).length < 16 ∧ List.Pairwise (fun a b
    => a.order ≠ b.order) s.xlt.walks ∧ ∃ x, x ∈ s.xlt.walks ∧ x.started = false) ∧
    (∃ (s : State) (cid : BitVec 10) (va : BitVec 64) (x : Walk), s.domLive 4 = true ∧ s.xlt.walks = [x] ∧ x.started = true ∧
    x.cid = cid.toNat ∧ x.page = va.toNat / 2 ^ 21 ∧ s.ownerOk x.cid (x.table + 8 * bits x.va (12 + 9 * x.level - 1) (12 + 9
    * (x.level - 1))) false = true ∧ s.keyAbsent (x.table + 8 * bits x.va (12 + 9 * x.level - 1) (12 + 9 * (x.level - 1))) =
    false ∧ bitAt (s.physLe (x.table + 8 * bits x.va (12 + 9 * x.level - 1) (12 + 9 * (x.level - 1))) 8) 0 = true ∧ bits
    (s.physLe (x.table + 8 * bits x.va (12 + 9 * x.level - 1) (12 + 9 * (x.level - 1))) 8) 2 1 = 1 ∧ 2 < x.level) ∧
    (∃ (s : State) (cid : BitVec 10) (va : BitVec 64) (x : Walk), s.domLive 4 = true ∧ s.xlt.walks = [x] ∧ x.started = true ∧
    x.cid = cid.toNat ∧ x.page = va.toNat / 2 ^ 21 ∧ s.ownerOk x.cid (x.table + 8 * bits x.va (12 + 9 * x.level - 1) (12 + 9
    * (x.level - 1))) false = true ∧ s.keyAbsent (x.table + 8 * bits x.va (12 + 9 * x.level - 1) (12 + 9 * (x.level - 1))) =
    false ∧ bitAt (s.physLe (x.table + 8 * bits x.va (12 + 9 * x.level - 1) (12 + 9 * (x.level - 1))) 8) 0 = true ∧ bits
    (s.physLe (x.table + 8 * bits x.va (12 + 9 * x.level - 1) (12 + 9 * (x.level - 1))) 8) 2 1 = 2 ∧ x.level ≠ 4 ∧ x.ua =
    true ∧ bitAt (s.physLe (x.table + 8 * bits x.va (12 + 9 * x.level - 1) (12 + 9 * (x.level - 1))) 8) 4 = true ∧ bitAt
    (s.physLe (x.table + 8 * bits x.va (12 + 9 * x.level - 1) (12 + 9 * (x.level - 1))) 8) 53 = true) ∧
    (∃ (s : State) (cid : BitVec 10) (va : BitVec 64) (x : Walk), s.domLive 4 = true ∧ s.xlt.walks = [x] ∧ x.started = true ∧
    x.cid = cid.toNat ∧ x.page = va.toNat / 2 ^ 21 ∧ s.ownerOk x.cid (x.table + 8 * bits x.va (12 + 9 * x.level - 1) (12 + 9
    * (x.level - 1))) false = true ∧ s.keyAbsent (x.table + 8 * bits x.va (12 + 9 * x.level - 1) (12 + 9 * (x.level - 1))) =
    false ∧ bitAt (s.physLe (x.table + 8 * bits x.va (12 + 9 * x.level - 1) (12 + 9 * (x.level - 1))) 8) 0 = false) ∧
    (∃ (s : State), s.domLive 4 = true ∧ s.time (copyNi xltStop) / 10000 = max s.xlt.refillAt (s.dom 4).since / 10000) ∧
    (∃ (s : State), s.domLive 4 = true ∧ s.time (copyNi xltStop) / 10000 ≠ max s.xlt.refillAt (s.dom 4).since / 10000) ∧
    (∃ (s : State), s.domLive 4 = true ∧ s.xlt.invals.length < 16) ∧
    (∃ (s : State), s.domLive 4 = true ∧ 16 ≤ s.xlt.invals.length) ∧
    (∃ (s : State) (n : Nat) (k : Nat) (r : List (Nat × Nat)), s.domLive 4 = true ∧ s.xlt.invals = (n, k) :: r ∧ n < 2 ^ 32) ∧
    (∃ (s : State) (tok : BitVec 16), s.domLive 4 = true ∧ s.suspOf tok.toNat = none) ∧
    (∃ (s : State) (tok : BitVec 16) (x : Susp), s.domLive 4 = true ∧ s.suspOf tok.toNat = some x ∧ 64 ≤ x.unit ∧ ∀ (y :
    Susp), y ∈ s.xlt.susp → y.written = true) :=
  ⟨⟨(nth sts 1), 3, 5, 0x300000, Access.read, ⟨5, 2097152, 21, 2097152, true, true, true, false⟩, by decide +kernel⟩,
    ⟨(nth sts 3), 0xed, 5, 0x300000, by decide +kernel⟩,
    ⟨(nth sts 9), 0x3ff, 0x200000, by decide +kernel⟩,
    ⟨(nth sts 2), by decide +kernel⟩,
    ⟨(nth sts 4), 5, 0x200000, ⟨5, 1, 3145728, [3, 4], 2, 0, true, 4, 5242880, true, true, []⟩, by decide +kernel⟩,
    ⟨(nth sts 5), 5, 0x300000, ⟨5, 1, 3145728, [3, 4], 2, 0, true, 2, 5242880, true, true, []⟩, by decide +kernel⟩,
    ⟨(nth sts 7), 5, 0x200000, ⟨5, 1, 3145728, [3, 4], 2, 0, true, 4, 5242880, true, true, []⟩, by decide +kernel⟩,
    ⟨(nth sts 11), by decide +kernel⟩,
    ⟨(nth sts 0), by decide +kernel⟩,
    ⟨(nth sts 0), by decide +kernel⟩,
    ⟨(nth sts 8), by decide +kernel⟩,
    ⟨(nth sts 9), 4, 5, [(5, 6)], by decide +kernel⟩,
    ⟨(nth sts 6), 0xfffe, by decide +kernel⟩,
    ⟨(nth sts 10), 7, ⟨7, 5, 3, 4, 0, 3145728, 1, 1, 0, 64, 3, 0, 9, true⟩, by decide +kernel⟩⟩

end W39

namespace W40

def HH (src dst unit vn hops route : Nat) : Header := { h0 with src := BitVec.ofNat 6 src, dst := BitVec.ofNat 6 dst, unit := BitVec.ofNat 2 unit, vn := BitVec.ofNat 2 vn, hops := BitVec.ofNat 5 hops, route := BitVec.ofNat 32 route, op := 1, addr := 0x300040, cid := 5, count := 1, len := 0, tag := 3 }
def ms (s : State) (f : Mesh → Mesh) : State := { s with mesh := f s.mesh }
def sts : List State := [w0, putAll w0 [(Reg.MSH_RT_HOPS 13 1 9, 31), (Reg.MSH_STOPMAP_MP0 1, 17)],
    ms w0 fun m => { m with waiting := [HH 34 31 1 0 0 0, HH 13 31 0 0 0 0, HH 13 31 0 1 0 0, HH 13 31 0 2 0 0] },
    ms (putAll w0 [(Reg.MSH_WEIR_EN 13 0 1, 1), (Reg.MSH_WEIR_EN 13 0 2, 1), (Reg.MSH_WEIR_EN 13 0 0, 1),
    (Reg.MSH_WEIR_EN 13 0 3, 1)]) fun m => { m with waiting := [HH 13 31 0 0 0 0] },
  ms w0 (fun m => { m with flying := [⟨13, 4, 0, HH 31 13 0 0 2 1⟩, ⟨14, 3, 17, HH 31 13 0 0 2 2⟩, ⟨14, 1, 2, { HH 31 13 0 0 2 2 with prompt := true }⟩, ⟨20, 1, 0, HH 31 13 0 0 0 0⟩, ⟨20, 1, 0, HH 31 13 0 1 0 0⟩, ⟨20, 1, 0, HH 31 13 0 2 0 0⟩] }),
      
  ms w0 (fun m => { m with flying := [⟨13, 4, 0, HH 31 13 0 0 2 1⟩] }),
  (ms w0 fun m => { m with flying := [⟨13, 3, 0, HH 31 13 0 0 0 1⟩] }).setDom 18 Dom.reset |>.setDom 16 Dom.reset |>.setDom 12 Dom.reset |>.setDom 13 Dom.reset |>.setDom 14 Dom.reset,
  (ms w0 fun m => { m with flying := [⟨13, 3, 0, HH 31 13 0 1 0 0⟩] }).setDom 18 Dom.reset |>.setDom 16 Dom.reset |>.setDom 12 Dom.reset |>.setDom 13 Dom.reset |>.setDom 14 Dom.reset,
  ms (w0.put Reg.MSH_REQ_TIMEOUT_TICKS 100) (fun m => { m with out := [⟨HH 31 14 0 0 0 0, 5⟩, ⟨HH 34 14 1 0 0 0, 5⟩, ⟨HH 3 14 0 0 0 0, 5⟩, ⟨{ HH 31 14 0 0 0 0 with tag := 9 }, 999999⟩] }),
      ms (w0.put Reg.MSH_REQ_TIMEOUT_TICKS 100) (fun m => { m with out := [⟨HH 31 14 0 0 0 0, 999999⟩] }),
      ms (putAll w0 [(Reg.MSH_WEIR_EN 31 0 0, 1), (Reg.MSH_WEIR_RATE 31 0 0,
      5)]) (fun m => { m with waiting := [HH 31 13 0 0 0 0] }), ms (putAll w0 [(Reg.MSH_WEIR_EN 31 0 0, 1),
      (Reg.MSH_WEIR_RATE 31 0 0, 5), (Reg.MSH_WEIR_EN 31 0 1, 1), (Reg.MSH_WEIR_RATE 31 0 1,
      0)]) (fun m => { m with credit := [(weirKey 31 0 0, -5), (weirKey 31 0 1, 5)], waiting := [HH 31 13 0 0 0 0, { HH 31 13 0 0 0 0 with prompt := true }] }),
      ms (w0.put Reg.MSH_EPOCH_STATE 1) (fun m => { m with holdSince := some 5, flying := [⟨13, 2, 3, HH 31 13 0 1 0 0⟩] }),
      ms (w0.put Reg.MSH_EPOCH_STATE 2) (fun m => { m with holdSince := some 5 }),
  { ms (w0.put Reg.MSH_EPOCH_STATE 2) (fun m => { m with holdSince := some 999999 }) with host := { w0.host with places := [⟨false, 99, 7, 0⟩] } },
      ms (w0.put Reg.MSH_SAMPLE_PERIOD_TICKS 100) (fun m => { m with probeAt := 999990 })]

/-- Obligations.MeshTransport: states and operands that meet its hypotheses, clause by clause. -/
theorem wit_MeshTransport :
    (∃ (s : State) (stop : BitVec 6) (unit : BitVec 2) (vn : BitVec 2) (prompt : Bool) (h : Header) (d : Nat), s.domLive 5 =
    true ∧ List.find? (fun h => h.src == stop && h.unit == unit && h.vn == vn && h.prompt == prompt) s.mesh.waiting = some h
    ∧ s.heldBySwitch h = false ∧ s.retryWaits h = false ∧ (expects h = true → s.tagFree h = true) ∧ s.unitOpen stop.toNat =
    true ∧ s.destOf h = some d ∧ d < 36 ∧ vn ≠ 1 ∧ (s.weir stop.toNat unit.toNat (weirClass h)).fst = true ∧ (s.credit
    stop.toNat unit.toNat (weirClass h) < 0 ∨ (s.weir stop.toNat unit.toNat (weirClass h)).snd.fst = 0)) ∧
    (∃ (s : State) (stop : BitVec 6) (unit : BitVec 2) (vn : BitVec 2) (prompt : Bool) (h : Header) (d : Nat), s.domLive 5 =
    true ∧ List.find? (fun h => h.src == stop && h.unit == unit && h.vn == vn && h.prompt == prompt) s.mesh.waiting = some h
    ∧ s.heldBySwitch h = false ∧ s.retryWaits h = false ∧ (expects h = true → s.tagFree h = true) ∧ s.unitOpen stop.toNat =
    true ∧ s.destOf h = some d ∧ d < 36 ∧ (vn ≠ 1 → (s.weir stop.toNat unit.toNat (weirClass h)).fst = true → 0 ≤ s.credit
    stop.toNat unit.toNat (weirClass h) ∧ (s.weir stop.toNat unit.toNat (weirClass h)).snd.fst ≠ 0)) ∧
    (∃ (s : State) (stop : BitVec 6) (out : BitVec 3), s.domLive 5 = true ∧ s.grant stop.toNat out.toNat = none ∧ s.atOutput
    stop.toNat out.toNat = []) ∧
    (∃ (s : State) (stop : BitVec 6) (out : BitVec 3) (f : Flit), s.domLive 5 = true ∧ s.mesh.flying = [f] ∧ s.grant
    stop.toNat out.toNat = some (0, f)) ∧
    (∃ (s : State) (stop : BitVec 6) (out : BitVec 3) (k : Nat) (f : Flit) (j : Nat), s.domLive 5 = true ∧ s.grant stop.toNat
    out.toNat = some (k, f) ∧ out.toNat < 4 ∧ hopTo stop.toNat out.toNat = some j) ∧
    (∃ (s : State) (stop : BitVec 6) (out : BitVec 3) (k : Nat) (f : Flit), s.domLive 5 = true ∧ s.grant stop.toNat out.toNat
    = some (k, f) ∧ out.toNat = 4 ∧ s.unitOpen stop.toNat = true) ∧
    (∃ (s : State) (stop : BitVec 6) (out : BitVec 3) (k : Nat) (f : Flit), s.domLive 5 = true ∧ s.grant stop.toNat out.toNat
    = some (k, f) ∧ out.toNat = 4 ∧ s.unitOpen stop.toNat = false ∧ f.h.vn = 1) ∧
    (∃ (s : State) (stop : BitVec 6) (out : BitVec 3) (k : Nat) (f : Flit), s.domLive 5 = true ∧ s.grant stop.toNat out.toNat
    = some (k, f) ∧ out.toNat = 4 ∧ s.unitOpen stop.toNat = false ∧ f.h.vn = 0 ∧ expects f.h = true) ∧
    (∃ (s : State) (h : Header), s.domLive 5 = true ∧ s.outOf h = none) ∧
    (∃ (s : State) (h : Header) (o : OutReq), s.domLive 5 = true ∧ s.outOf h = some o ∧ 30 ≤ h.dst.toNat ∧ h.poison = false ∧
    h.status.toNat = stOk) ∧
    (∃ (s : State) (stop : BitVec 6) (tag : BitVec 6) (unit : BitVec 2) (o : OutReq), s.domLive 5 = true ∧ List.find? (fun o
    => o.h.src == stop && o.h.unit == unit && o.h.tag == tag) s.mesh.out = some o ∧ s.time (copyNi stop.toNat) < o.since +
    max 1 (s.get Reg.MSH_REQ_TIMEOUT_TICKS)) ∧
    (∃ (s : State) (stop : BitVec 6) (tag : BitVec 6) (unit : BitVec 2) (o : OutReq), s.domLive 5 = true ∧ List.find? (fun o
    => o.h.src == stop && o.h.unit == unit && o.h.tag == tag) s.mesh.out = some o ∧ o.since + max 1 (s.get
    Reg.MSH_REQ_TIMEOUT_TICKS) ≤ s.time (copyNi stop.toNat) ∧ (stop.toNat < 6 ∨ 34 ≤ stop.toNat)) ∧
    (∃ (s : State) (value : BitVec 32), s.domLive 5 = true ∧ value.getLsbD 1 = true ∧ s.on Reg.MSH_EPOCH_SWITCH = false ∧
    s.on Reg.PWR_STOP_STATUS_BUSY = false ∧ s.badRoute (1 - s.get Reg.MSH_EPOCH_CURRENT) = none ∧ s.mapOk (1 - s.get
    Reg.MSH_EPOCH_CURRENT) = true) ∧
    (∃ (s : State) (value : BitVec 32), s.domLive 5 = true ∧ value.getLsbD 1 = true ∧ s.on Reg.MSH_EPOCH_SWITCH = false ∧
    s.on Reg.PWR_STOP_STATUS_BUSY = false ∧ s.badRoute (1 - s.get Reg.MSH_EPOCH_CURRENT) ≠ none) ∧
    (∃ (s : State), s.domLive 5 = true ∧ s.get Reg.MSH_EPOCH_STATE = 1 ∧ ∀ (f : Flit), f ∈ s.mesh.flying → f.h.vn = 1) ∧
    (∃ (s : State), s.domLive 5 = true ∧ s.stop = none ∧ s.host.withheld = [] ∧ (s.get Reg.MSH_EPOCH_STATE = 2 ∧
    s.mesh.flying = []) ∧ s.host.places = []) ∧
    (∃ (s : State) (w : DbWrite), s.domLive 5 = true ∧ s.stop = none ∧ s.host.withheld = [] ∧ (s.get Reg.MSH_EPOCH_STATE = 2
    ∧ s.mesh.flying = []) ∧ s.host.places = [w] ∧ w.cancel = false ∧ s.doorbellCid w.qid = none) ∧
    (∃ (s : State) (t0 : Nat), s.domLive 5 = true ∧ s.stop = none ∧ s.host.withheld = [] ∧ s.mesh.holdSince = some t0 ∧
    s.time copySpine < t0 + max 1 (s.get Reg.MSH_EPOCH_LIMIT_TICKS)) ∧
    (∃ (s : State) (t0 : Nat), s.domLive 5 = true ∧ s.stop = none ∧ s.host.withheld = [] ∧ s.mesh.holdSince = some t0 ∧ t0 +
    max 1 (s.get Reg.MSH_EPOCH_LIMIT_TICKS) ≤ s.time copySpine ∧ s.get Reg.MSH_EPOCH_STATE ≠ 0 ∧ s.host.places = []) ∧
    (∃ (s : State), s.domLive 5 = true ∧ s.time copySpine < max s.mesh.probeAt (s.dom 5).since + max 1 (s.get
    Reg.MSH_SAMPLE_PERIOD_TICKS)) ∧
    (∃ (s : State), s.domLive 5 = true ∧ max s.mesh.probeAt (s.dom 5).since + max 1 (s.get Reg.MSH_SAMPLE_PERIOD_TICKS) ≤
    s.time copySpine) ∧
    (∃ (s : State) (stop : BitVec 6) (unit : BitVec 2), s.domLive 5 = true ∧ isClStop stop.toNat = false ∧ unit.toNat <
    unitsAt stop.toNat) :=
  ⟨⟨(nth sts 11), 0x1f, 0, 0, true, ⟨0, 0, false, 0xd, 0x1f, 0, 3, 0, true, false, 0, 1, 5, false, 0, 1, false, 0,
    0x300040, 0, 0, 0, 0, 0, 0, false, 0, 0, 0, 0, 0, 0, 0, 0, 0⟩, 12, by decide +kernel⟩,
    ⟨(nth sts 2), 0x22, 1, 0, false, ⟨0, 0, false, 0x1f, 0x22, 1, 3, 0, false, false, 0, 1, 5, false, 0, 1, false, 0,
    0x300040, 0, 0, 0, 0, 0, 0, false, 0, 0, 0, 0, 0, 0, 0, 0, 0⟩, 12, by decide +kernel⟩,
    ⟨(nth sts 0), 0x3f, 7, by decide +kernel⟩,
    ⟨(nth sts 7), 0xd, 4, ⟨13, 3, 0, ⟨0, 0, false, 0xd, 0x1f, 0, 3, 1, false, false, 0, 1, 5, false, 0, 1, false, 0,
    0x300040, 0, 0, 0, 0, 0, 0, false, 0, 0, 0, 0, 0, 0, 0, 0, 0⟩⟩, by decide +kernel⟩,
    ⟨(nth sts 4), 0xe, 2, 1, ⟨14, 3, 17, ⟨2, 2, false, 0xd, 0x1f, 0, 3, 0, false, false, 0, 1, 5, false, 0, 1, false, 0,
    0x300040, 0, 0, 0, 0, 0, 0, false, 0, 0, 0, 0, 0, 0, 0, 0, 0⟩⟩, 20, by decide +kernel⟩,
    ⟨(nth sts 4), 0x14, 4, 4, ⟨20, 1, 0, ⟨0, 0, false, 0xd, 0x1f, 0, 3, 1, false, false, 0, 1, 5, false, 0, 1, false, 0,
    0x300040, 0, 0, 0, 0, 0, 0, false, 0, 0, 0, 0, 0, 0, 0, 0, 0⟩⟩, by decide +kernel⟩,
    ⟨(nth sts 7), 0xd, 4, 0, ⟨13, 3, 0, ⟨0, 0, false, 0xd, 0x1f, 0, 3, 1, false, false, 0, 1, 5, false, 0, 1, false, 0,
    0x300040, 0, 0, 0, 0, 0, 0, false, 0, 0, 0, 0, 0, 0, 0, 0, 0⟩⟩, by decide +kernel⟩,
    ⟨(nth sts 6), 0xd, 4, 0, ⟨13, 3, 0, ⟨1, 0, false, 0xd, 0x1f, 0, 3, 0, false, false, 0, 1, 5, false, 0, 1, false, 0,
    0x300040, 0, 0, 0, 0, 0, 0, false, 0, 0, 0, 0, 0, 0, 0, 0, 0⟩⟩, by decide +kernel⟩,
    ⟨(nth sts 0), ⟨0, 0, false, 0xd, 0x1f, 0, 2, 1, false, false, 0, 1, 5, false, 0, 1, false, 0, 0x300040, 0, 0, 0, 0,
    0, 0, false, 0, 0, 0, 0, 0, 0, 0, 0, 0⟩, by decide +kernel⟩,
    ⟨(nth sts 9), ⟨0, 0, false, 0x1f, 0xd, 0, 3, 0, false, false, 0, 1, 5, false, 0, 1, false, 0, 0x300040, 3, 0, 0, 0,
    0, 0, false, 0, 0, 0, 0, 0, 0, 0, 0, 0⟩, ⟨⟨0, 0, false, 0xe, 0x1f, 0, 3, 0, false, false, 0, 1, 5, false, 0, 1,
    false, 0, 0x300040, 0, 0, 0, 0, 0, 0, false, 0, 0, 0, 0, 0, 0, 0, 0, 0⟩, 999999⟩, by decide +kernel⟩,
    ⟨(nth sts 9), 0x1f, 3, 0, ⟨⟨0, 0, false, 0xe, 0x1f, 0, 3, 0, false, false, 0, 1, 5, false, 0, 1, false, 0, 0x300040,
    0, 0, 0, 0, 0, 0, false, 0, 0, 0, 0, 0, 0, 0, 0, 0⟩, 999999⟩, by decide +kernel⟩,
    ⟨(nth sts 8), 0x22, 3, 1, ⟨⟨0, 0, false, 0xe, 0x22, 1, 3, 0, false, false, 0, 1, 5, false, 0, 1, false, 0, 0x300040,
    0, 0, 0, 0, 0, 0, false, 0, 0, 0, 0, 0, 0, 0, 0, 0⟩, 5⟩, by decide +kernel⟩,
    ⟨(nth sts 5), 0xffe3, by decide +kernel⟩,
    ⟨(nth sts 1), 0xffb3, by decide +kernel⟩,
    ⟨(nth sts 12), by decide +kernel⟩,
    ⟨(nth sts 13), by decide +kernel⟩,
    ⟨(nth sts 14), ⟨false, 99, 7, 0⟩, by decide +kernel⟩,
    ⟨(nth sts 14), 999999, by decide +kernel⟩,
    ⟨(nth sts 12), 5, by decide +kernel⟩,
    ⟨(nth sts 15), by decide +kernel⟩,
    ⟨(nth sts 9), by decide +kernel⟩,
    ⟨(nth sts 8), 0x23, 0, by decide +kernel⟩⟩

theorem wit_MeshTransport_1 : ∃ (s : State) (stop : BitVec 6) (out : BitVec 3) (k : Nat) (f : Flit) (e : Nat × Flit),
    s.domLive 5 = true ∧
    s.grant stop.toNat out.toNat = some (k, f) ∧ e ∈ s.atOutput stop.toNat out.toNat :=
  ⟨nth sts 7, 13, 4, 0, ⟨13, 3, 0, HH 31 13 0 1 0 0⟩, (0, ⟨13, 3, 0, HH 31 13 0 1 0 0⟩), by decide +kernel⟩

end W40

namespace W41

def up (f : Port → Port) (st : Nat) (s : State) : State :=
  let s := { s with fuses := { s.fuses with package := 2 }, link := { s.link with ports := (List.range 6).map fun k => (k, f (s.port k)) } }
  (List.range 6).foldl (fun s k => (s.put (Reg.LNK_PORT_STATUS_STATE k) st).put (Reg.LNK_PORT_CTRL_EN k) 1) s
def w1 : State := up id 0 w0
def noEn (s : State) : State := (List.range 6).foldl (fun s k => s.put (Reg.LNK_PORT_CTRL_EN k) 0) s
def lan (p : Port) : Port := { p with lanes := 0xFF, attempts := 1, since := 999500, heard := 900000, ackAt := 5 }
def old (p : Port) : Port := { lan p with since := 5, heard := 999990 }
def chk (s : State) : State := (List.range 6).foldl (fun s k => (s.put (Reg.LNK_PORT_CTRL_CHECK_PEER k) 1).put (Reg.LNK_EXPECT_DIE k) 77) s
def minw (v : Nat) (s : State) : State := (List.range 6).foldl (fun s k => s.put (Reg.LNK_PORT_CTRL_MIN_WIDTH k) v) s
def fr : LFrame := ⟨.data, 5, 0, false, false, false, [.flit 1], none⟩
def sts : List State := [w1, noEn (up id 0 w0), up lan 2 w0, up lan 3 w0, up lan 4 w0, minw 2 (up lan 4 w0),
    up (fun p => { lan p with lanes := 0x0F, attempts := 1 }) 4 w0,
  minw 2 (up (fun p => { lan p with lanes := 0x0F, attempts := 1 }) 4 w0), up lan 5 w0, up lan 6 w0,
  (up lan 6 w0).put Reg.LNK_ADMIT_REQUIRE_ENC 1, chk (up lan 6 w0), up (fun p => { lan p with keyed := true }) 7 w0, up lan 7 w0,
  (up (fun p => { lan p with attempts := 2 }) 5 w0).put Reg.LNK_TIME_CTRL_UPSTREAM 7,
      up (fun p => { lan p with attempts := 2 }) 1 w0, up lan 1 w0, up lan 11 w0, up lan 10 w0,
      up (fun p => { lan p with replay := [fr] }) 8 w0, up (fun p => { lan p with replay := [fr] }) 9 w0,
  (up (fun p => { lan p with replay := [fr] }) 9 w0).put Reg.LNK_TIME_CTRL_UPSTREAM 7,
      minw 2 (up (fun p => { lan p with replay := [fr], excluded := 1 }) 9 w0),
      minw 1 (up (fun p => { lan p with replay := [fr], excluded := 1 }) 9 w0), up old 1 w0, up old 2 w0, up old 7 w0,
      (up (fun p => { old p with attempts := 2 }) 5 w0).put Reg.LNK_TIME_CTRL_UPSTREAM 7, up old 11 w0, up lan 11 w0,
      { up (fun p => { old p with since := 4 }) 10 w0 with gtc := 200000000 }, up old 8 w0,
      (up old 9 w0).put Reg.LNK_TIME_CTRL_UPSTREAM 7, up lan 10 w0,
  (up lan 8 w0) |> fun s => (List.range 6).foldl (fun s k => s.enterStop 4 k false) s]

/-- Obligations.LinkTraining: states and operands that meet its hypotheses, clause by clause. -/
theorem wit_LinkTraining :
    (∃ (s : State) (port : BitVec 3) (v : BitVec 32), s.yard = true ∧ s.domLive 8 = true ∧ port.toNat < 6 ∧ v.getLsbD 1 =
    false ∧ s.inStoppage 4 port.toNat = false ∧ v.getLsbD 0 = true ∧ s.get (Reg.LNK_PORT_CTRL_EN port.toNat) = 0) ∧
    (∃ (s : State) (port : BitVec 3) (v : BitVec 32), s.yard = true ∧ s.domLive 8 = true ∧ port.toNat < 6 ∧ v.getLsbD 1 =
    false ∧ s.inStoppage 4 port.toNat = false ∧ v.getLsbD 0 = false ∧ s.on (Reg.LNK_PORT_CTRL_EN port.toNat) = true) ∧
    (∃ (s : State) (port : BitVec 3) (v : BitVec 32), s.yard = true ∧ s.domLive 8 = true ∧ port.toNat < 6 ∧ v.getLsbD 1 =
    false ∧ s.inStoppage 4 port.toNat = true) ∧
    (∃ (s : State) (port : BitVec 3), s.yard = true ∧ s.domLive 8 = true ∧ port.toNat < 6 ∧ s.portAge port.toNat ≤ stepLimit
    (s.portState port.toNat) ∧ s.portState port.toNat = pDetect) ∧
    (∃ (s : State) (port : BitVec 3), s.yard = true ∧ s.domLive 8 = true ∧ port.toNat < 6 ∧ s.portAge port.toNat ≤ stepLimit
    (s.portState port.toNat) ∧ s.portState port.toNat = pEq) ∧
    (∃ (s : State) (port : BitVec 3), s.yard = true ∧ s.domLive 8 = true ∧ port.toNat < 6 ∧ s.portAge port.toNat ≤ stepLimit
    (s.portState port.toNat) ∧ s.portState port.toNat = pAlign) ∧
    (∃ (s : State) (port : BitVec 3) (good : BitVec 8) (g : Nat × Nat), s.yard = true ∧ s.domLive 8 = true ∧ port.toNat < 6 ∧
    s.portAge port.toNat ≤ stepLimit (s.portState port.toNat) ∧ s.portState port.toNat = pWidth ∧ widest ((s.port
    port.toNat).lanes &&& good.toNat) = some g ∧ s.minWidth port.toNat ≤ g.snd) ∧
    (∃ (s : State) (port : BitVec 3) (good : BitVec 8), s.yard = true ∧ s.domLive 8 = true ∧ port.toNat < 6 ∧ s.portAge
    port.toNat ≤ stepLimit (s.portState port.toNat) ∧ s.portState port.toNat = pWidth ∧ (∀ (g : Nat × Nat), widest ((s.port
    port.toNat).lanes &&& good.toNat) = some g → g.snd < s.minWidth port.toNat) ∧ (s.port port.toNat).attempts < 2) ∧
    (∃ (s : State) (port : BitVec 3), s.yard = true ∧ s.domLive 8 = true ∧ port.toNat < 6 ∧ s.portAge port.toNat ≤ stepLimit
    (s.portState port.toNat) ∧ s.portState port.toNat = pFecLock) ∧
    (∃ (s : State) (port : BitVec 3), s.yard = true ∧ s.domLive 8 = true ∧ port.toNat < 6 ∧ s.portAge port.toNat ≤ stepLimit
    (s.portState port.toNat) ∧ s.portState port.toNat = pIdent ∧ s.on (Reg.LNK_PORT_CTRL_CHECK_PEER port.toNat) = false ∧
    s.stop = none ∧ s.on Reg.LNK_ADMIT_REQUIRE_ENC = false) ∧
    (∃ (s : State) (port : BitVec 3) (die : BitVec 9), s.yard = true ∧ s.domLive 8 = true ∧ port.toNat < 6 ∧ s.portAge
    port.toNat ≤ stepLimit (s.portState port.toNat) ∧ s.portState port.toNat = pIdent ∧ s.on (Reg.LNK_PORT_CTRL_CHECK_PEER
    port.toNat) = true ∧ die.toNat ≠ s.get (Reg.LNK_EXPECT_DIE port.toNat) ∧ (s.port port.toNat).attempts < 2) ∧
    (∃ (s : State) (port : BitVec 3), s.yard = true ∧ s.domLive 8 = true ∧ port.toNat < 6 ∧ s.portAge port.toNat ≤ stepLimit
    (s.portState port.toNat) ∧ s.portState port.toNat = pSecure ∧ (s.port port.toNat).keyed = true ∧ s.stop = none) ∧
    (∃ (s : State) (port : BitVec 3), s.yard = true ∧ s.domLive 8 = true ∧ port.toNat < 6 ∧ 1 ≤ s.portState port.toNat ∧
    s.portState port.toNat ≤ pSecure ∧ s.portAge port.toNat ≤ stepLimit (s.portState port.toNat)) ∧
    (∃ (s : State) (port : BitVec 3), s.yard = true ∧ s.domLive 8 = true ∧ port.toNat < 6 ∧ 1 ≤ s.portState port.toNat ∧
    s.portState port.toNat ≤ pSecure ∧ stepLimit (s.portState port.toNat) < s.portAge port.toNat ∧ s.portState port.toNat ≠
    pSecure ∧ (s.port port.toNat).attempts < 2) ∧
    (∃ (s : State) (port : BitVec 3), s.yard = true ∧ s.domLive 8 = true ∧ port.toNat < 6 ∧ 1 ≤ s.portState port.toNat ∧
    s.portState port.toNat ≤ pSecure ∧ stepLimit (s.portState port.toNat) < s.portAge port.toNat ∧ s.portState port.toNat =
    pSecure ∧ (s.port port.toNat).attempts < 2) ∧
    (∃ (s : State) (port : BitVec 3), s.yard = true ∧ s.domLive 8 = true ∧ port.toNat < 6 ∧ 1 ≤ s.portState port.toNat ∧
    s.portState port.toNat ≤ pSecure ∧ stepLimit (s.portState port.toNat) < s.portAge port.toNat ∧ s.portState port.toNat ≠
    pSecure ∧ (s.port port.toNat).attempts = 2 ∧ (s.port port.toNat).tx = [] ∧ s.stop = none ∧ s.get
    Reg.LNK_TIME_CTRL_UPSTREAM ≠ port.toNat) ∧
    (∃ (s : State) (port : BitVec 3), s.yard = true ∧ s.domLive 8 = true ∧ port.toNat < 6 ∧ s.on (Reg.LNK_PORT_CTRL_EN
    port.toNat) = true ∧ s.portState port.toNat = pRetryWait ∧ s.portAge port.toNat < 100000) ∧
    (∃ (s : State) (port : BitVec 3), s.yard = true ∧ s.domLive 8 = true ∧ port.toNat < 6 ∧ s.on (Reg.LNK_PORT_CTRL_EN
    port.toNat) = true ∧ s.portState port.toNat = pRetryWait ∧ 100000 ≤ s.portAge port.toNat) ∧
    (∃ (s : State) (port : BitVec 3), s.yard = true ∧ s.domLive 8 = true ∧ port.toNat < 6 ∧ s.on (Reg.LNK_PORT_CTRL_EN
    port.toNat) = true ∧ s.portState port.toNat = pDown ∧ s.portAge port.toNat < 100000000) ∧
    (∃ (s : State) (port : BitVec 3), s.yard = true ∧ s.domLive 8 = true ∧ port.toNat < 6 ∧ s.on (Reg.LNK_PORT_CTRL_EN
    port.toNat) = true ∧ s.portState port.toNat = pDown ∧ 100000000 ≤ s.portAge port.toNat) ∧
    (∃ (s : State) (port : BitVec 3), s.yard = true ∧ s.domLive 8 = true ∧ port.toNat < 6 ∧ s.portState port.toNat ≠ pActive) ∧
    (∃ (s : State) (port : BitVec 3), s.yard = true ∧ s.domLive 8 = true ∧ port.toNat < 6 ∧ s.time (copyLink port.toNat) <
    (s.port port.toNat).heard + max 1 (s.get Reg.LNK_PEER_TIMEOUT_TICKS)) ∧
    (∃ (s : State) (port : BitVec 3), s.yard = true ∧ s.domLive 8 = true ∧ port.toNat < 6 ∧ (s.port port.toNat).heard + max 1
    (s.get Reg.LNK_PEER_TIMEOUT_TICKS) ≤ s.time (copyLink port.toNat) ∧ s.portState port.toNat = pActive) ∧
    (∃ (s : State) (port : BitVec 3) (good : BitVec 8) (g : Nat × Nat), s.yard = true ∧ s.domLive 8 = true ∧ port.toNat < 6 ∧
    s.portAge port.toNat ≤ stepLimit (s.portState port.toNat) ∧ s.portState port.toNat = pRetrain ∧ widest (good.toNat &&&
    255 - (s.port port.toNat).excluded) = some g ∧ s.minWidth port.toNat ≤ g.snd) ∧
    (∃ (s : State) (port : BitVec 3) (fin : RetrainFin), s.yard = true ∧ s.domLive 8 = true ∧ port.toNat < 6 ∧ s.portState
    port.toNat = pRetrain ∧ (fin = RetrainFin.failed ∨ stepLimit (s.portState port.toNat) < s.portAge port.toNat) ∧ (s.port
    port.toNat).tx = [] ∧ s.get Reg.LNK_TIME_CTRL_UPSTREAM ≠ port.toNat) :=
  ⟨⟨(nth sts 1), 3, 0xfc65, by decide +kernel⟩,
    ⟨(nth sts 2), 0, 0xffb0, by decide +kernel⟩,
    ⟨(nth sts 34), 5, 0xff31, by decide +kernel⟩,
    ⟨(nth sts 15), 5, by decide +kernel⟩,
    ⟨(nth sts 2), 5, by decide +kernel⟩,
    ⟨(nth sts 3), 5, by decide +kernel⟩,
    ⟨(nth sts 6), 5, 0xff, (15, 2), by decide +kernel⟩,
    ⟨(nth sts 7), 5, 0xff, by decide +kernel⟩,
    ⟨(nth sts 14), 5, by decide +kernel⟩,
    ⟨(nth sts 9), 5, by decide +kernel⟩,
    ⟨(nth sts 11), 4, 0x1fe, by decide +kernel⟩,
    ⟨(nth sts 12), 5, by decide +kernel⟩,
    ⟨(nth sts 10), 5, by decide +kernel⟩,
    ⟨(nth sts 25), 5, by decide +kernel⟩,
    ⟨(nth sts 26), 5, by decide +kernel⟩,
    ⟨(nth sts 27), 5, by decide +kernel⟩,
    ⟨(nth sts 29), 5, by decide +kernel⟩,
    ⟨(nth sts 28), 5, by decide +kernel⟩,
    ⟨(nth sts 33), 5, by decide +kernel⟩,
    ⟨(nth sts 30), 5, by decide +kernel⟩,
    ⟨(nth sts 12), 5, by decide +kernel⟩,
    ⟨(nth sts 32), 5, by decide +kernel⟩,
    ⟨(nth sts 19), 5, by decide +kernel⟩,
    ⟨(nth sts 20), 5, 0xff, (255, 3), by decide +kernel⟩,
    ⟨(nth sts 32), 5, RetrainFin.lanes 0xff, by decide +kernel⟩⟩

end W41

namespace W42

def up (f : Port → Port) (st : Nat) (s : State) : State :=
  let s := { s with fuses := { s.fuses with package := 2 }, link := { s.link with ports := (List.range 6).map fun k => (k, f (s.port k)) } }
  (List.range 6).foldl (fun s k => (s.put (Reg.LNK_PORT_STATUS_STATE k) st).put (Reg.LNK_PORT_CTRL_EN k) 1) s
def fr (n : Nat) : LFrame := ⟨.data, BitVec.ofNat 12 n, 0, false, false, false, [.flit 1], none⟩
def hq : Header := { h0 with len := 0, tag := 4 }
def sec (s : State) : State := (List.range 6).foldl (fun s k => s.put (Reg.LNK_PORT_STATUS_SECURE k) 1) s
def p1 (p : Port) : Port := { p with txSeq := 9, acked := 6, rxSeq := 3, rxAny := true, replay := [fr 7, fr 8], again := [fr 7, fr 8] }
def p2 (p : Port) : Port := { p with tx := [(0, [.head 0 hq])], rxSeq := 3 }
def p3 (p : Port) : Port := { p with tx := [(2, [.head 2 { hq with len := 3 }, .flit 2, .flit 2])], rxSeq := 3, nakDue := true, replay := [fr 7] }
def p4 (p : Port) : Port := { p with tx := [(2, [.head 2 hq]), (3, [.flit 3])], rxSeq := 0, rxAny := true, owed := [(2, 40)], replay := [fr 7], stalls := 7, used := [(2, 512)] }
def p5 (p : Port) : Port := { p with keyed := true, groups := 2 ^ 31, rxSeq := 3, replay := [fr 7] }
def adm (s : State) : State := (s.put (Reg.KPR_ADMIT_VALID 0) 1).put (Reg.KPR_ADMIT_ANY_DIE 0) 1
def sts : List State := [up p1 8 w0, up p2 8 w0, up p3 8 w0, up p4 8 w0, sec (up p5 8 w0), up p5 8 w0, adm (up p5 7 w0),
    up p1 7 w0, up id 8 w0, sec (up p1 8 w0), sec (up p2 8 w0), up id 5 w0, up (fun p => { p4 p with ackAt := 1000000 }) 8 w0,
    up (fun p => { p1 p with ackAt := 1000000 }) 8 w0]

/-- Obligations.LinkFrames: states and operands that meet its hypotheses, clause by clause. -/
theorem wit_LinkFrames :
    (∃ (s : State) (port : BitVec 3) (f : LFrame) (r : List LFrame), s.yard = true ∧ s.domLive 8 = true ∧ port.toNat < 6 ∧
    s.portState port.toNat = pActive ∧ (s.port port.toNat).again = f :: r) ∧
    (∃ (s : State) (port : BitVec 3) (h : Header) (vc : BitVec 3), s.yard = true ∧ s.domLive 8 = true ∧ port.toNat < 6 ∧
    s.portState port.toNat = pActive ∧ vc.toNat < 6 ∧ h.len = 0 ∧ (s.port port.toNat).again = [] ∧ (s.port
    port.toNat).replay.length < 512 ∧ (s.port port.toNat).tx = [(vc.toNat, [Slot.head vc h])] ∧ Tab.get 0 (s.port
    port.toNat).used vc.toNat < 512 ∧ s.on (Reg.LNK_PORT_STATUS_SECURE port.toNat) = false) ∧
    (∃ (s : State) (port : BitVec 3) (f : LFrame) (vc : BitVec 3) (h : Header), s.yard = true ∧ s.domLive 8 = true ∧
    port.toNat < 6 ∧ s.portState port.toNat = pActive ∧ f.ty = FrameTy.data ∧ f.nak = false ∧ f.ackv = false ∧ f.slots =
    [Slot.head vc h] ∧ h.len = 0 ∧ s.on (Reg.LNK_PORT_STATUS_SECURE port.toNat) = false ∧ f.seq.toNat = (s.port
    port.toNat).rxSeq) ∧
    (∃ (s : State) (port : BitVec 3) (f : LFrame) (vc : BitVec 3) (h : Header), s.yard = true ∧ s.domLive 8 = true ∧
    port.toNat < 6 ∧ s.portState port.toNat = pActive ∧ f.ty = FrameTy.data ∧ f.nak = false ∧ f.ackv = false ∧ f.slots =
    [Slot.head vc h] ∧ h.len = 0 ∧ s.on (Reg.LNK_PORT_STATUS_SECURE port.toNat) = false ∧ f.seq.toNat ≠ (s.port
    port.toNat).rxSeq ∧ newer f.seq.toNat (((s.port port.toNat).rxSeq + 4095) % 4096) 12 = false) ∧
    (∃ (s : State) (port : BitVec 3) (f : LFrame) (vc : BitVec 3) (h : Header), s.yard = true ∧ s.domLive 8 = true ∧
    port.toNat < 6 ∧ s.portState port.toNat = pActive ∧ f.ty = FrameTy.data ∧ f.nak = false ∧ f.ackv = false ∧ f.slots =
    [Slot.head vc h] ∧ h.len = 0 ∧ s.on (Reg.LNK_PORT_STATUS_SECURE port.toNat) = false ∧ f.seq.toNat ≠ (s.port
    port.toNat).rxSeq ∧ newer f.seq.toNat (((s.port port.toNat).rxSeq + 4095) % 4096) 12 = true) ∧
    (∃ (s : State) (port : BitVec 3), s.yard = true ∧ s.domLive 8 = true ∧ port.toNat < 6 ∧ s.portState port.toNat = pActive
    ∧ s.time (copyLink port.toNat) < (s.port port.toNat).ackAt + max 1 (s.get Reg.LNK_ACK_TIMEOUT_TICKS)) ∧
    (∃ (s : State) (port : BitVec 3), s.yard = true ∧ s.domLive 8 = true ∧ port.toNat < 6 ∧ s.portState port.toNat = pActive
    ∧ (s.port port.toNat).ackAt + max 1 (s.get Reg.LNK_ACK_TIMEOUT_TICKS) ≤ s.time (copyLink port.toNat) ∧ (s.port
    port.toNat).replay ≠ [] ∧ (s.port port.toNat).stalls + 1 < 8) ∧
    (∃ (s : State) (port : BitVec 3), s.yard = true ∧ s.domLive 8 = true ∧ port.toNat < 6 ∧ s.portState port.toNat = pActive
    ∧ (s.port port.toNat).ackAt + max 1 (s.get Reg.LNK_ACK_TIMEOUT_TICKS) ≤ s.time (copyLink port.toNat) ∧ (s.port
    port.toNat).replay ≠ [] ∧ 8 ≤ (s.port port.toNat).stalls + 1) ∧
    (∃ (s : State) (port : BitVec 3), s.yard = true ∧ s.domLive 8 = true ∧ port.toNat < 6 ∧ s.portState port.toNat = pActive
    ∧ s.domLive 2 = true ∧ s.on (Reg.LNK_PORT_STATUS_SECURE port.toNat) = true ∧ 2 ^ 31 ≤ (s.port port.toNat).groups ∧
    (s.port port.toNat).groupLen = 0) ∧
    (∃ (s : State) (port : BitVec 3) (die : BitVec 9) (hash : BitVec 384), s.yard = true ∧ s.domLive 8 = true ∧ port.toNat <
    6 ∧ s.domLive 2 = true ∧ s.portState port.toNat = pSecure ∧ s.admits die.toNat hash.toNat = true) ∧
    (∃ (s : State) (port : BitVec 3) (die : BitVec 9) (hash : BitVec 384), s.yard = true ∧ s.domLive 8 = true ∧ port.toNat <
    6 ∧ s.domLive 2 = true ∧ s.portState port.toNat = pSecure ∧ s.admits die.toNat hash.toNat = false ∧ (s.port
    port.toNat).attempts < 2) :=
  ⟨⟨(nth sts 9), 5, ⟨FrameTy.data, 7, 0, false, false, false, [Slot.flit 1], none⟩, [⟨FrameTy.data, 8, 0, false, false,
    false, [Slot.flit 1], none⟩], by decide +kernel⟩,
    ⟨(nth sts 1), 5, ⟨0, 0, false, 1, 2, 0, 4, 0, false, false, 0, 0, 0, false, 0, 1, false, 0, 0, 0, 0, 0, 0, 0, 0,
    false, 0, 0, 0, 0, 0, 0, 0, 0, 0⟩, 0, by decide +kernel⟩,
    ⟨(nth sts 13), 5, ⟨FrameTy.data, 3, 0, false, false, false, [Slot.head 5 ⟨0, 0, false, 1, 2, 0, 4, 0, false, false,
    0, 0, 0, false, 0, 1, false, 0, 0, 0, 0, 0, 0, 0, 0, false, 0, 0, 0, 0, 0, 0, 0, 0, 0⟩], none⟩, 5, ⟨0, 0, false, 1,
    2, 0, 4, 0, false, false, 0, 0, 0, false, 0, 1, false, 0, 0, 0, 0, 0, 0, 0, 0, false, 0, 0, 0, 0, 0, 0, 0, 0, 0⟩,
    by decide +kernel⟩,
    ⟨(nth sts 1), 5, ⟨FrameTy.data, 2, 0, false, false, false, [Slot.head 5 ⟨0, 0, false, 1, 2, 0, 4, 0, false, false,
    0, 0, 0, false, 0, 1, false, 0, 0, 0, 0, 0, 0, 0, 0, false, 0, 0, 0, 0, 0, 0, 0, 0, 0⟩], none⟩, 5, ⟨0, 0, false, 1,
    2, 0, 4, 0, false, false, 0, 0, 0, false, 0, 1, false, 0, 0, 0, 0, 0, 0, 0, 0, false, 0, 0, 0, 0, 0, 0, 0, 0, 0⟩,
    by decide +kernel⟩,
    ⟨(nth sts 8), 5, ⟨FrameTy.data, 3, 0, false, false, false, [Slot.head 5 ⟨0, 0, false, 1, 2, 0, 4, 0, false, false,
    0, 0, 0, false, 0, 1, false, 0, 0, 0, 0, 0, 0, 0, 0, false, 0, 0, 0, 0, 0, 0, 0, 0, 0⟩], none⟩, 5, ⟨0, 0, false, 1,
    2, 0, 4, 0, false, false, 0, 0, 0, false, 0, 1, false, 0, 0, 0, 0, 0, 0, 0, 0, false, 0, 0, 0, 0, 0, 0, 0, 0, 0⟩,
    by decide +kernel⟩,
    ⟨(nth sts 12), 5, by decide +kernel⟩,
    ⟨(nth sts 5), 5, by decide +kernel⟩,
    ⟨(nth sts 3), 5, by decide +kernel⟩,
    ⟨(nth sts 4), 5, by decide +kernel⟩,
    ⟨(nth sts 6), 3, 0x1f4, 0, by decide +kernel⟩,
    ⟨(nth sts 7), 5, 0x1fd, 3, by decide +kernel⟩⟩

end W42

namespace W43

def own : Nat := 3
def up (st : Nat) (s : State) : State :=
  let s := { s with fuses := { s.fuses with package := 2 } }
  let s := (List.range 6).foldl (fun s k => (s.put (Reg.LNK_PORT_STATUS_STATE k) st).put (Reg.LNK_PORT_CTRL_EN k) 1) s
  putAll s [(Reg.LNK_DIE_DIE, own), (Reg.LNK_CTRL_TTL_INIT, 12)]
def dest (n : Nat) (s : State) : State := putAll s [(Reg.LNK_DEST_PRIMARY 20, n), (Reg.LNK_DEST_PRIMARY 21, n)]
def A (d : Nat) : BitVec 52 := BitVec.ofNat 52 (d * 2 ^ 43 + 0x300040)
def hm (op : Nat) : Header := { h0 with op := BitVec.ofNat 8 op, addr := A 20, src := 13, unit := 1, tag := 9, len := if op == 2 then 1 else 0, count := 1, data := 0x1234567890ABCDEF }
def hl (op : Nat) (sd dd hold : Nat) : Header := { hm op with dstDie := BitVec.ofNat 9 dd, srcDie := BitVec.ofNat 9 sd, hold := BitVec.ofNat 3 hold, origStop := 14, origUnit := 1, origTag := 5, reqId := 7, ttl := 6, group := 4, contrib := 2, src := 2, addr := if op == 0x55 then 256 else 0x300040 }
def rq (op n first resend : Nat) : LinkReq := ⟨{ hl op own 20 n with ttl := 12 }, first, first, resend⟩
def sts : List State := [up 8 w0, dest 0 (up 8 w0), dest 2 (up 8 w0), up 8 w0,
  ((dest 2 (up 8 w0)).put Reg.LNK_AMO_BASE_VALID 1).put Reg.LNK_AMO_BASE_BASE (3 * 2 ^ 18),
  { ((dest 2 (up 8 w0)).put Reg.LNK_AMO_BASE_VALID 1).put Reg.LNK_AMO_BASE_BASE (3 * 2 ^ 18) with mem := [(26388279656560, 7), (26388279656563, 0x80)] },
  { ((dest 2 (up 8 w0)).put Reg.LNK_AMO_BASE_VALID 1).put Reg.LNK_AMO_BASE_BASE (3 * 2 ^ 18) with mem := [(26388279656560, 7), (26388279656563, 0x80)], link := { Link.reset with arrived := [(4, hl 0x53 9 own 0)] } } ] ++
  ([0, 1, 2, 3, 4].flatMap fun n => [rq 0x50 n 5 0, rq 0x51 n 5 0, rq 0x53 n 5 3, rq 0x50 n 999999 0, rq 0x51 n 999999 0,
      rq 0x59 n 5 0].map fun r => 
    { dest n (up 8 w0) with link := { Link.reset with out := [r] } }) ++
  ([0, 1, 2, 3].flatMap fun n =>
    let s := putAll (dest n (up 8 w0)) [(Reg.LNK_RED_CFG_VALID 4, 1), (Reg.LNK_RED_CFG_FANIN 4, 2)]
    let c (since : Nat) : Combine := ⟨n, 20, 4, 256, none, [(1, hl 0x55 9 20 0)], 2, since⟩
    [s, { s with link := { Link.reset with combine := [c 1000000] } },
        { s with link := { Link.reset with combine := [c 5] } },
        { s with link := { Link.reset with combine := [{ c 5 with die := 3 }] } },
        { s.put (Reg.LNK_RED_CFG_FORMAT 4) 1 with link := { Link.reset with combine := [c 1000000] } }])

/-- Obligations.LinkPackets: states and operands that meet its hypotheses, clause by clause. -/
theorem wit_LinkPackets :
    (∃ (s : State) (stop : BitVec 3) (h : Header), s.yard = true ∧ s.domLive 8 = true ∧ stop.toNat < 6 ∧ s.ownDie < 512 ∧
    (h.op.toNat = opRead ∨ h.op.toNat = opWrite ∨ h.op.toNat = opMasked) ∧ inReduce h.addr.toNat = false ∧ (List.filter (fun
    r => r.h.hold.toNat == stop.toNat) s.link.out).length < 1024 ∧ s.destPort (paDie h.addr.toNat) = some stop.toNat ∧ 0 <
    s.get Reg.LNK_CTRL_TTL_INIT ∧ s.get Reg.LNK_CTRL_TTL_INIT < 32) ∧
    (∃ (s : State) (stop : BitVec 3) (h : Header), s.yard = true ∧ s.domLive 8 = true ∧ stop.toNat < 6 ∧ s.ownDie < 512 ∧
    isLReq h.op.toNat = true ∧ h.dstDie ≠ BitVec.ofNat 9 s.ownDie ∧ h.srcDie ≠ BitVec.ofNat 9 s.ownDie ∧ s.destPort
    h.dstDie.toNat = none) ∧
    (∃ (s : State) (stop : BitVec 3) (h : Header), s.yard = true ∧ s.domLive 8 = true ∧ stop.toNat < 6 ∧ s.ownDie < 512 ∧
    h.dstDie = BitVec.ofNat 9 s.ownDie ∧ h.op.toNat = opLRead) ∧
    (∃ (s : State) (stop : BitVec 3) (h : Header), s.yard = true ∧ s.domLive 8 = true ∧ stop.toNat < 6 ∧ s.ownDie < 512 ∧
    h.dstDie = BitVec.ofNat 9 s.ownDie ∧ h.op.toNat = opLWrite) ∧
    (∃ (s : State) (stop : BitVec 3) (h : Header), s.yard = true ∧ s.domLive 8 = true ∧ stop.toNat < 6 ∧ s.ownDie < 512 ∧
    h.dstDie = BitVec.ofNat 9 s.ownDie ∧ h.op.toNat = opLMasked) ∧
    (∃ (s : State) (stop : BitVec 3) (h : Header), s.yard = true ∧ s.domLive 8 = true ∧ stop.toNat < 6 ∧ s.ownDie < 512 ∧
    h.dstDie = BitVec.ofNat 9 s.ownDie ∧ h.op.toNat = opLSend) ∧
    (∃ (s : State) (stop : BitVec 3) (h : Header) (e : Nat), s.yard = true ∧ s.domLive 8 = true ∧ stop.toNat < 6 ∧ s.ownDie <
    512 ∧ h.dstDie = BitVec.ofNat 9 s.ownDie ∧ h.op.toNat = opLAtomic ∧ s.amoBusy h = false ∧ s.amoRead h.srcDie.toNat
    h.reqId.toNat = some e ∧ bitAt e 31 = false) ∧
    (∃ (s : State) (stop : BitVec 3) (h : Header) (e : Nat), s.yard = true ∧ s.domLive 8 = true ∧ stop.toNat < 6 ∧ s.ownDie <
    512 ∧ h.dstDie = BitVec.ofNat 9 s.ownDie ∧ h.op.toNat = opLAtomic ∧ s.amoBusy h = false ∧ s.amoRead h.srcDie.toNat
    h.reqId.toNat = some e ∧ bitAt e 31 = true ∧ e % 2 ^ 20 = h.reqId.toNat) ∧
    (∃ (s : State) (stop : BitVec 3) (h : Header) (r : LinkReq), s.yard = true ∧ s.domLive 8 = true ∧ stop.toNat < 6 ∧
    s.ownDie < 512 ∧ h.dstDie = BitVec.ofNat 9 s.ownDie ∧ s.entryFor h = some r ∧ h.lfault = 0 ∧ h.status.toNat = stOk ∧
    s.stop = none ∧ h.op.toNat = opLData) ∧
    (∃ (s : State) (stop : BitVec 3) (h : Header) (r : LinkReq), s.yard = true ∧ s.domLive 8 = true ∧ stop.toNat < 6 ∧
    s.ownDie < 512 ∧ h.dstDie = BitVec.ofNat 9 s.ownDie ∧ s.entryFor h = some r ∧ h.lfault = 0 ∧ h.status.toNat = stOk ∧
    s.stop = none ∧ h.op.toNat = opLAck) ∧
    (∃ (s : State) (stop : BitVec 3) (h : Header) (r : LinkReq), s.yard = true ∧ s.domLive 8 = true ∧ stop.toNat < 6 ∧
    s.ownDie < 512 ∧ h.dstDie = BitVec.ofNat 9 s.ownDie ∧ s.entryFor h = some r ∧ h.lfault ≠ 0 ∧ s.stop = none ∧ h.op.toNat
    = opLAck) ∧
    (∃ (s : State) (stop : BitVec 3) (os : BitVec 6) (ou : BitVec 2) (ot : BitVec 6) (r : LinkReq), s.yard = true ∧ s.domLive
    8 = true ∧ stop.toNat < 6 ∧ s.ownDie < 512 ∧ s.heldReq stop.toNat os.toNat ou.toNat ot.toNat = some r ∧ s.stop = none ∧
    resends r.h.op.toNat = false ∧ s.time (copyLink stop.toNat) < r.first + 4 * max 1 (s.get Reg.LNK_RESEND_T_TICKS)) ∧
    (∃ (s : State) (stop : BitVec 3) (os : BitVec 6) (ou : BitVec 2) (ot : BitVec 6) (r : LinkReq), s.yard = true ∧ s.domLive
    8 = true ∧ stop.toNat < 6 ∧ s.ownDie < 512 ∧ s.heldReq stop.toNat os.toNat ou.toNat ot.toNat = some r ∧ s.stop = none ∧
    resends r.h.op.toNat = true ∧ r.last + max 1 (s.get Reg.LNK_RESEND_T_TICKS) ≤ s.time (copyLink stop.toNat) ∧ r.resends <
    3 ∧ s.destPort r.h.dstDie.toNat = some stop.toNat ∧ r.h.srcDie = BitVec.ofNat 9 s.ownDie ∧ r.h.ttl ≠ 0) ∧
    (∃ (s : State) (stop : BitVec 3) (os : BitVec 6) (ou : BitVec 2) (ot : BitVec 6) (r : LinkReq), s.yard = true ∧ s.domLive
    8 = true ∧ stop.toNat < 6 ∧ s.ownDie < 512 ∧ s.heldReq stop.toNat os.toNat ou.toNat ot.toNat = some r ∧ s.stop = none ∧
    resends r.h.op.toNat = true ∧ r.last + max 1 (s.get Reg.LNK_RESEND_T_TICKS) ≤ s.time (copyLink stop.toNat) ∧ 3 ≤
    r.resends) ∧
    (∃ (s : State) (stop : BitVec 3) (os : BitVec 6) (ou : BitVec 2) (ot : BitVec 6) (r : LinkReq), s.yard = true ∧ s.domLive
    8 = true ∧ stop.toNat < 6 ∧ s.ownDie < 512 ∧ s.heldReq stop.toNat os.toNat ou.toNat ot.toNat = some r ∧ s.stop = none ∧
    resends r.h.op.toNat = false ∧ r.first + 4 * max 1 (s.get Reg.LNK_RESEND_T_TICKS) ≤ s.time (copyLink stop.toNat)) ∧
    (∃ (s : State) (stop : BitVec 3) (h : Header), s.yard = true ∧ s.domLive 8 = true ∧ stop.toNat < 6 ∧ s.ownDie < 512 ∧
    h.op.toNat = opLReduce ∧ h.dstDie ≠ BitVec.ofNat 9 s.ownDie ∧ h.srcDie ≠ BitVec.ofNat 9 s.ownDie ∧ s.on
    (Reg.LNK_RED_CFG_VALID h.group.toNat) = true ∧ s.on (Reg.LNK_RED_CFG_LOCAL h.group.toNat) = false ∧ s.destPort
    h.dstDie.toNat = some stop.toNat ∧ s.link.combine = [] ∧ 1 < s.get (Reg.LNK_RED_CFG_FANIN h.group.toNat)) ∧
    (∃ (s : State) (stop : BitVec 3) (h : Header) (g : Header) (p : Nat), s.yard = true ∧ s.domLive 8 = true ∧ stop.toNat < 6
    ∧ s.ownDie < 512 ∧ h.op.toNat = opLReduce ∧ h.dstDie ≠ BitVec.ofNat 9 s.ownDie ∧ h.srcDie ≠ BitVec.ofNat 9 s.ownDie ∧
    s.on (Reg.LNK_RED_CFG_VALID h.group.toNat) = true ∧ s.on (Reg.LNK_RED_CFG_LOCAL h.group.toNat) = false ∧ s.destPort
    h.dstDie.toNat = some stop.toNat ∧ s.link.combine =
    [{ stop := stop.toNat, die := h.dstDie.toNat, group := h.group.toNat, offset := h.addr.toNat, own := none, got := [(p, g)], contrib := g.contrib.toNat, since := s.time (copyLink stop.toNat) }]
    ∧ s.get (Reg.LNK_RED_CFG_FANIN h.group.toNat) = 2 ∧ p < (s.ingress h).getD 6 ∧ g.dstDie = h.dstDie ∧ g.srcDie ≠
    BitVec.ofNat 9 s.ownDie ∧ 1 < g.ttl.toNat ∧ (s.ingress h).getD 6 ≤ 6) :=
  ⟨⟨(nth sts 33), 4, ⟨0, 0, false, 1, 0xd, 1, 9, 0, false, false, 0xe, 2, 0, false, 0, 1, false, 0, 0xa00000300040, 0,
    0, 0, 0, 0, 0, false, 0, 0, 0, 0, 0, 0, 0, 0, 0x1234567890abcdef⟩, by decide +kernel⟩,
    ⟨(nth sts 0), 5, ⟨0, 0, false, 1, 2, 1, 9, 0, false, false, 0, 0x50, 0, false, 0, 1, false, 0, 0x300040, 0, 0, 0,
    0x14, 9, 6, false, 0xe, 1, 5, 0, 7, 4, 2, 0, 0x1234567890abcdef⟩, by decide +kernel⟩,
    ⟨(nth sts 15), 5, ⟨0, 0, false, 1, 2, 1, 9, 0, false, false, 0, 0x50, 0, false, 0, 1, false, 0, 0x300040, 0, 0, 0,
    3, 9, 6, false, 0xe, 1, 5, 0, 7, 4, 2, 0, 0x1234567890abcdef⟩, by decide +kernel⟩,
    ⟨(nth sts 52), 5, ⟨0, 0, false, 1, 2, 1, 9, 0, false, false, 0, 0x51, 0, false, 0, 1, false, 0, 0x300040, 0, 0, 0,
    3, 9, 6, false, 0xe, 1, 5, 0, 7, 4, 2, 0, 0x1234567890abcdef⟩, by decide +kernel⟩,
    ⟨(nth sts 54), 5, ⟨0, 0, false, 1, 2, 1, 9, 0, false, false, 0, 0x52, 0, false, 0, 1, false, 0, 0x300040, 0, 0, 0,
    3, 9, 6, false, 0xe, 1, 5, 0, 7, 4, 2, 0, 0x1234567890abcdef⟩, by decide +kernel⟩,
    ⟨(nth sts 42), 5, ⟨0, 0, false, 1, 2, 1, 9, 0, false, false, 0, 0x54, 0, false, 0, 1, false, 0, 0x300040, 0, 0, 0,
    3, 9, 6, false, 0xe, 1, 5, 0, 7, 4, 2, 0, 0x1234567890abcdef⟩, by decide +kernel⟩,
    ⟨(nth sts 4), 5, ⟨0, 0, false, 1, 2, 1, 9, 0, false, false, 0, 0x53, 0, false, 0, 1, false, 0, 0x300040, 0, 0, 0, 3,
    9, 6, false, 0xe, 1, 5, 0, 7, 4, 2, 0, 0x1234567890abcdef⟩, 0, by decide +kernel⟩,
    ⟨(nth sts 5), 5, ⟨0, 0, false, 1, 2, 1, 9, 0, false, false, 0, 0x53, 0, false, 0, 1, false, 0, 0x300040, 0, 0, 0, 3,
    9, 6, false, 0xe, 1, 5, 0, 7, 4, 2, 0, 0x1234567890abcdef⟩, 2147483655, by decide +kernel⟩,
    ⟨(nth sts 20), 5, ⟨0, 0, false, 1, 2, 1, 9, 0, false, false, 0, 0x58, 0, false, 0, 1, false, 0, 0x300040, 0, 0, 0,
    3, 0x14, 6, false, 0xe, 1, 5, 0, 7, 4, 2, 2, 0x1234567890abcdef⟩, ⟨⟨0, 0, false, 1, 2, 1, 9, 0, false, false, 0,
    0x51, 0, false, 0, 1, false, 0, 0x300040, 0, 0, 0, 0x14, 3, 0xc, false, 0xe, 1, 5, 0, 7, 4, 2, 2,
    0x1234567890abcdef⟩, 5, 5, 0⟩, by decide +kernel⟩,
    ⟨(nth sts 19), 5, ⟨0, 0, false, 1, 2, 1, 9, 0, false, false, 0, 0x59, 0, false, 0, 1, false, 0, 0x300040, 0, 0, 0,
    3, 0x14, 6, false, 0xe, 1, 5, 0, 7, 4, 2, 2, 0x1234567890abcdef⟩, ⟨⟨0, 0, false, 1, 2, 1, 9, 0, false, false, 0,
    0x50, 0, false, 0, 1, false, 0, 0x300040, 0, 0, 0, 0x14, 3, 0xc, false, 0xe, 1, 5, 0, 7, 4, 2, 2,
    0x1234567890abcdef⟩, 5, 5, 0⟩, by decide +kernel⟩,
    ⟨(nth sts 24), 5, ⟨0, 0, false, 1, 2, 1, 9, 0, false, false, 0, 0x59, 0, false, 0, 1, false, 0, 0x300040, 0, 0, 0,
    3, 0x14, 6, false, 0xe, 1, 5, 0x47, 7, 4, 2, 2, 0x1234567890abcdef⟩, ⟨⟨0, 0, false, 1, 2, 1, 9, 0, false, false, 0,
    0x59, 0, false, 0, 1, false, 0, 0x300040, 0, 0, 0, 0x14, 3, 0xc, false, 0xe, 1, 5, 0, 7, 4, 2, 2,
    0x1234567890abcdef⟩, 5, 5, 0⟩, by decide +kernel⟩,
    ⟨(nth sts 17), 1, 0xe, 1, 5, ⟨⟨0, 0, false, 1, 2, 1, 9, 0, false, false, 0, 0x51, 0, false, 0, 1, false, 0,
    0x300040, 0, 0, 0, 0x14, 3, 0xc, false, 0xe, 1, 5, 0, 7, 4, 2, 1, 0x1234567890abcdef⟩, 999999, 999999, 0⟩,
    by decide +kernel⟩,
    ⟨(nth sts 19), 2, 0xe, 1, 5, ⟨⟨0, 0, false, 1, 2, 1, 9, 0, false, false, 0, 0x50, 0, false, 0, 1, false, 0,
    0x300040, 0, 0, 0, 0x14, 3, 0xc, false, 0xe, 1, 5, 0, 7, 4, 2, 2, 0x1234567890abcdef⟩, 5, 5, 0⟩, by decide +kernel⟩,
    ⟨(nth sts 21), 2, 0xe, 1, 5, ⟨⟨0, 0, false, 1, 2, 1, 9, 0, false, false, 0, 0x53, 0, false, 0, 1, false, 0,
    0x300040, 0, 0, 0, 0x14, 3, 0xc, false, 0xe, 1, 5, 0, 7, 4, 2, 2, 0x1234567890abcdef⟩, 5, 5, 3⟩, by decide +kernel⟩,
    ⟨(nth sts 14), 1, 0xe, 1, 5, ⟨⟨0, 0, false, 1, 2, 1, 9, 0, false, false, 0, 0x51, 0, false, 0, 1, false, 0,
    0x300040, 0, 0, 0, 0x14, 3, 0xc, false, 0xe, 1, 5, 0, 7, 4, 2, 1, 0x1234567890abcdef⟩, 5, 5, 0⟩, by decide +kernel⟩,
    ⟨(nth sts 52), 3, ⟨0, 0, false, 1, 2, 1, 9, 0, false, false, 0, 0x55, 0, false, 0, 1, false, 0, 0x100, 0, 0, 0,
    0x14, 9, 6, false, 0xe, 1, 5, 0, 7, 4, 2, 0, 0x1234567890abcdef⟩, by decide +kernel⟩,
    ⟨(nth sts 51), 2, ⟨0, 0, false, 1, 2, 1, 9, 0, false, false, 1, 0x55, 0, false, 0, 1, false, 0, 0x100, 0, 0, 0,
    0x14, 9, 6, false, 0xe, 1, 5, 0, 7, 4, 2, 0, 0x404000003f800000⟩, ⟨0, 0, false, 1, 2, 1, 9, 0, false, false, 0,
    0x55, 0, false, 0, 1, false, 0, 0x100, 0, 0, 0, 0x14, 9, 6, false, 0xe, 1, 5, 0, 7, 4, 2, 0, 0x1234567890abcdef⟩, 1,
    by decide +kernel⟩⟩

/-- stop 0 combines a reduction since 5 -/
def combining : State :=
  { putAll (dest 0 (up 8 w0)) [(Reg.LNK_RED_CFG_VALID 4, 1), (Reg.LNK_RED_CFG_FANIN 4, 2)] with
    link := { Link.reset with combine := [⟨0, 20, 4, 256, none, [(1, hl 0x55 9 20 0)], 2, 5⟩] } }

theorem wit_LinkPackets_1 : ∃ (s : State) (stop : BitVec 3) (os : BitVec 6) (ou : BitVec 2) (ot : BitVec 6) (r : LinkReq),
    s.yard = true ∧ s.domLive 8 = true ∧ stop.toNat < 6 ∧ s.ownDie < 512 ∧
    s.heldReq stop.toNat os.toNat ou.toNat ot.toNat = some r ∧ s.stop = none ∧ resends r.h.op.toNat = true ∧
    s.time (copyLink stop.toNat) < r.last + max 1 (s.get Reg.LNK_RESEND_T_TICKS) :=
  ⟨{ dest 0 (up 8 w0) with link := { Link.reset with out := [rq 0x50 0 999999 0] } }, 0, 14, 1, 5, rq 0x50 0 999999 0,
    by decide +kernel⟩

theorem wit_LinkPackets_2 : ∃ (s : State) (stop : BitVec 3) (die : BitVec 9) (group : BitVec 8) (offset : BitVec 17) (e : Combine),
    s.yard = true ∧ s.domLive 8 = true ∧ stop.toNat < 6 ∧ s.ownDie < 512 ∧
    List.find? (fun e => e.stop == stop.toNat && e.die == die.toNat && e.group == group.toNat &&
      e.offset == offset.toNat) s.link.combine = some e ∧
    s.time (copyLink stop.toNat) < e.since + max 1 (s.get Reg.LNK_RED_WAIT_TICKS) :=
  ⟨{ combining with gtc := 6 }, 0, 20, 4, 256, ⟨0, 20, 4, 256, none, [(1, hl 0x55 9 20 0)], 2, 5⟩, by decide +kernel⟩

theorem wit_LinkPackets_3 : ∃ (s : State) (stop : BitVec 3) (die : BitVec 9) (group : BitVec 8) (offset : BitVec 17) (e : Combine),
    s.yard = true ∧ s.domLive 8 = true ∧ stop.toNat < 6 ∧ s.ownDie < 512 ∧
    List.find? (fun e => e.stop == stop.toNat && e.die == die.toNat && e.group == group.toNat &&
      e.offset == offset.toNat) s.link.combine = some e ∧
    e.since + max 1 (s.get Reg.LNK_RED_WAIT_TICKS) ≤ s.time (copyLink stop.toNat) :=
  ⟨combining, 0, 20, 4, 256, ⟨0, 20, 4, 256, none, [(1, hl 0x55 9 20 0)], 2, 5⟩, by decide +kernel⟩

end W43

namespace W44

def hm (op : Nat) : Header := { h0 with op := BitVec.ofNat 8 op, addr := 3, dst := 35, src := 13, unit := 1, tag := 9, len := 2, cid := 7, count := 3, data := 0x1234567890ABCDEF }
def bind (s : State) (m mode depth cid : Nat) : State := putAll s [(Reg.KPR_MBOX_BIND_VALID m, 1),
    (Reg.KPR_MBOX_BIND_SRC_MODE m, mode), (Reg.KPR_MBOX_BIND_DEPTHM1 m, depth - 1), (Reg.KPR_MBOX_BIND_CID m, cid)]
def w1 : State := bind (bind (bind w0 3 0 3 7) 5 0 4 7) 6 0 64 7
def box (s : State) (m : Nat) (l : List (List Nat)) : State := { s with mail := { s.mail with boxes := (s.mail.boxes.set m (l.map fun x => ⟨3, x⟩)) } }
def y (st : Nat) (s : State) : State :=
  let s := { s with fuses := { s.fuses with package := 2 }, pins := { s.pins with resetN := true } }
  let s := (List.range 6).foldl (fun s k => (s.put (Reg.LNK_PORT_STATUS_STATE k) st).put (Reg.LNK_PORT_CTRL_EN k) 1) s
  putAll s [(Reg.LNK_DIE_DIE, 3), (Reg.LNK_TIME_CTRL_ROLE, 2), (Reg.LNK_TIME_CTRL_UPSTREAM, 4), (Reg.LNK_TIME_CTRL_STATE, 1)]
def ac (g : Nat) (s : State) : State := { s with link := { s.link with acquired := true, goodSync := g } }
def sts : List State := [w0, w1, box w1 3 [[1, 2], [3]], box (box w1 3 [[1, 2]]) 6 [[5, 6, 7]],
    { w1 with mail := { w1.mail with recvs := [(3, 3)] } }, y 8 w0, ac 7 (y 8 w0), ac 7 (y 8 w0), ac 2 (y 8 w0), y 10 w0,
    (y 8 w0).put Reg.LNK_TIME_CTRL_ROLE 1, { ac 7 (y 8 w0) with link := { (ac 7 (y 8 w0)).link with timeAt := 995000 } }]

/-- Obligations.MailboxesAndDieTime: states and operands that meet its hypotheses, clause by clause. -/
theorem wit_MailboxesAndDieTime :
    (∃ (s : State) (h : Header), s.domLive 2 = true ∧ h.op.toNat = opMailbox ∧ h.dst.toNat = kprStop ∧ h.poison = false ∧
    (s.mboxBind (h.addr.toNat % 4096)).valid = true ∧ (s.mboxBind (h.addr.toNat % 4096)).mode = 0 ∧ h.addr.toNat % 4096 ≠
    4095 ∧ msgLines (s.mbox (h.addr.toNat % 4096)) + (List.map (fun k => h.data.toNat / 2 ^ (512 * k) % 2 ^ 512) (List.range
    h.len.toNat)).length ≤ (s.mboxBind (h.addr.toNat % 4096)).depth ∧ s.get Reg.KPR_MBOX_USE_LINES + (List.map (fun k =>
    h.data.toNat / 2 ^ (512 * k) % 2 ^ 512) (List.range h.len.toNat)).length ≤ 2048 ∧ s.mail.recvs = []) ∧
    (∃ (s : State) (h : Header), s.domLive 2 = true ∧ h.op.toNat = opMailbox ∧ h.dst.toNat = kprStop ∧ h.poison = false ∧
    (s.mboxBind (h.addr.toNat % 4096)).valid = true ∧ (s.mboxBind (h.addr.toNat % 4096)).mode = 0 ∧ h.addr.toNat % 4096 ≠
    4095 ∧ (s.mboxBind (h.addr.toNat % 4096)).depth < msgLines (s.mbox (h.addr.toNat % 4096)) + (List.map (fun k =>
    h.data.toNat / 2 ^ (512 * k) % 2 ^ 512) (List.range h.len.toNat)).length) ∧
    (∃ (s : State) (h : Header), s.domLive 2 = true ∧ h.op.toNat = opMailbox ∧ h.dst.toNat = kprStop ∧ h.poison = false ∧
    (s.mboxBind (h.addr.toNat % 4096)).valid = false) ∧
    (∃ (s : State) (h : Header) (g : Msg) (rest : List Msg), s.domLive 2 = true ∧ h.op.toNat = opLRecv ∧ h.dst.toNat =
    kprStop ∧ (s.mboxBind (h.addr.toNat % 4096)).valid = true ∧ (s.mboxBind (h.addr.toNat % 4096)).cid = h.cid.toNat ∧
    s.mbox (h.addr.toNat % 4096) = g :: rest) ∧
    (∃ (s : State) (h : Header), s.domLive 2 = true ∧ h.op.toNat = opLRecv ∧ h.dst.toNat = kprStop ∧ (s.mboxBind
    (h.addr.toNat % 4096)).valid = true ∧ (s.mboxBind (h.addr.toNat % 4096)).cid = h.cid.toNat ∧ s.mbox (h.addr.toNat %
    4096) = [] ∧ h.operand.getLsbD 0 = true) ∧
    (∃ (s : State) (h : Header), s.domLive 2 = true ∧ h.op.toNat = opLRecv ∧ h.dst.toNat = kprStop ∧ (s.mboxBind
    (h.addr.toNat % 4096)).valid = true ∧ (s.mboxBind (h.addr.toNat % 4096)).cid = h.cid.toNat ∧ s.mbox (h.addr.toNat %
    4096) = [] ∧ h.operand.getLsbD 0 = false ∧ s.mail.recvs = []) ∧
    (∃ (s : State) (h : Header), s.domLive 2 = true ∧ h.op.toNat = opLRecv ∧ h.dst.toNat = kprStop ∧ (s.mboxBind
    (h.addr.toNat % 4096)).valid = false) ∧
    (∃ (s : State) (k : BitVec 12), s.domLive 2 = true ∧ k.toNat < 4095 ∧ s.mail.recvs = []) ∧
    (∃ (s : State), s.yard = true ∧ s.domLive 8 = true ∧ s.get Reg.LNK_TIME_CTRL_ROLE = 2 ∧ s.portActive (s.get
    Reg.LNK_TIME_CTRL_UPSTREAM) = true ∧ s.gtc < s.link.timeAt + 10000) ∧
    (∃ (s : State), s.yard = true ∧ s.domLive 8 = true ∧ s.get Reg.LNK_TIME_CTRL_ROLE = 2 ∧ s.portActive (s.get
    Reg.LNK_TIME_CTRL_UPSTREAM) = true ∧ s.link.timeAt + 10000 ≤ s.gtc) ∧
    (∃ (s : State), s.yard = true ∧ s.domLive 8 = true ∧ s.gtc < s.link.timeAt + 100000) ∧
    (∃ (s : State), s.yard = true ∧ s.domLive 8 = true ∧ s.link.timeAt + 100000 ≤ s.gtc ∧ s.get Reg.LNK_TIME_CTRL_ROLE = 2 ∧
    s.get Reg.LNK_TIME_CTRL_STATE ≠ 3) ∧
    (∃ (s : State) (src : Source) (value : BitVec 32), s.yard = true ∧ s.domLive 8 = true ∧ s.srcReaches src = true ∧
    resetCmdIs value 3 = true ∧ resetTarget value < 6 ∧ s.on Reg.PWR_RESET_STATUS_BUSY = false ∧ s.flight.running = false ∧
    s.portState (resetTarget value) ≠ pDisabled ∧ (s.port (resetTarget value)).tx = [] ∧ s.get Reg.LNK_TIME_CTRL_UPSTREAM ≠
    resetTarget value ∧ ∀ (k : Nat), k < 256 → s.get (Reg.MON_SLOT_CFG_KIND k) ≠ 5) :=
  ⟨⟨(nth sts 1), ⟨0, 0, false, 0x23, 0xd, 1, 9, 0, false, false, 3, 0x30, 7, false, 0, 3, false, 0, 0x1003, 0xf42a4, 0,
    0, 0, 0, 0, false, 0, 0, 0, 0, 0, 0, 0, 0, 0x1234567890abcdef⟩, by decide +kernel⟩,
    ⟨(nth sts 3), ⟨0, 0, false, 0x23, 0xd, 1, 0, 0, false, false, 2, 0x30, 7, false, 0, 3, false, 0, 3, 0, 0, 0, 0, 0,
    0, false, 0, 0, 0, 0, 0, 0, 0, 0, 0x1234567890abcdef⟩, by decide +kernel⟩,
    ⟨(nth sts 8), ⟨0, 0, false, 0x23, 0xd, 1, 9, 0, false, false, 2, 0x30, 7, false, 0, 3, false, 0, 3, 0xf4240, 0, 0,
    0, 0, 0, false, 0, 0, 0, 0, 0, 0, 0, 0, 0x1234567890abcdef⟩, by decide +kernel⟩,
    ⟨(nth sts 3), ⟨0, 0, false, 0x23, 0xd, 1, 9, 0, false, false, 2, 0x56, 7, false, 0, 3, false, 0, 6, 0xa5c30503, 1,
    0, 0, 0, 0, false, 0, 0, 0, 0, 0, 0, 0, 0, 0x1234567890abcdef⟩, ⟨3, [5, 6, 7]⟩, [], by decide +kernel⟩,
    ⟨(nth sts 1), ⟨0, 0, false, 0x23, 0xd, 1, 3, 0, false, false, 2, 0x56, 7, false, 0, 3, false, 0, 6, 0, 1, 0, 0, 0,
    0, false, 0, 0, 0, 0, 0, 0, 0, 0, 0x1234567890abcdef⟩, by decide +kernel⟩,
    ⟨(nth sts 2), ⟨0, 0, false, 0x23, 0xd, 1, 0xa, 0, false, false, 2, 0x56, 7, false, 0, 3, false, 0, 5, 0, 0, 0, 0, 0,
    0, false, 0, 0, 0, 0, 0, 0, 0, 0, 0x1234567890abcdef⟩, by decide +kernel⟩,
    ⟨(nth sts 9), ⟨0, 0, false, 0x23, 0xd, 1, 0x30, 0, false, false, 2, 0x56, 7, false, 0, 3, false, 0, 3, 0, 0, 0, 0,
    0, 0, false, 0, 0, 0, 0, 0, 0, 0, 0, 0x1234567890abcdef⟩, by decide +kernel⟩,
    ⟨(nth sts 0), 0xffb, by decide +kernel⟩,
    ⟨(nth sts 11), by decide +kernel⟩,
    ⟨(nth sts 8), by decide +kernel⟩,
    ⟨(nth sts 11), by decide +kernel⟩,
    ⟨(nth sts 7), by decide +kernel⟩,
    ⟨(nth sts 8), Source.mgmt, 0xa5c30503, by decide +kernel⟩⟩

end W44

namespace W45

def upc (f : Clus → Clus) (s : State) : State := { s with power := { s.power with clus := (List.range 16).map fun k => (k, f (s.clus k)) } }
def upr (f : Nat → Rail → Rail) (s : State) : State := { s with power := { s.power with rails := (List.range 17).map fun k => (k, f k (s.rail k)) } }
def all (f : Nat → Fld) (v : Nat) (s : State) : State := (List.range 16).foldl (fun s k => s.put (f k) v) s
def marg (s : State) : State := all Reg.CLS_MARGIN_CFG_MARGIN_LO 12 (all Reg.CLS_MARGIN_CFG_MARGIN_CRIT 6 s)
def sts : List State := [w0, upc (fun x => { x with ft := 1000, target := 1500 }) (marg w0),
    upc (fun x => { x with ft := 1000, target := 900, held := some 950 }) (marg w0),
  upc (fun x => { x with ft := 1000, target := 1500, held := some 1000 }) (all Reg.PWR_CL_OP_FIXED 1 (marg w0)),
      upc (fun x => { x with ft := 410, target := 1500, held := some 410, halved := true }) (marg w0),
  upc (fun x => { x with ft := 1000, target := 1500, held := some 1480, shortfalls := 15 }) { w0 with fuses := { w0.fuses with baseCode := (List.range 16).map fun k => (k, 60) } },
  upc (fun x => { x with ft := 1000, target := 1500, shortfalls := 14, crits := [5] }) { w0 with fuses := { w0.fuses with baseCode := (List.range 16).map fun k => (k, 60), ageSteps := (List.range 16).map fun k => (k, 7) } },
  upc (fun x => { x with ft := 1000, target := 1500, shortfalls := 15, crits := [5], raiseTo := some 3 }) { w0 with fuses := { w0.fuses with baseCode := (List.range 16).map fun k => (k, 60), ageSteps := (List.range 16).map fun k => (k, 7) } },
  upr (fun r x => { x with seq := 0, missing := 8 + r % 3 }) w0, all Reg.PWR_RAIL_STATUS_SENSE 1 w0,
      (all Reg.PWR_RAIL_STATUS_SENSE 2 (all Reg.PWR_RAIL_STATUS_CRACK 1 w0)),
  upr (fun _ x => { x with mv := 700, prev := 650, setAt := 999990 }) (upc (fun x => { x with ft := 1000, target := 1500, raiseTo := some 3 }) (w0.put Reg.PWR_VREQ_PEND_RAILS 0xFFFF)),
  all Reg.PWR_RAIL_STATUS_CEILING 7 (upr (fun _ x => { x with mv := 700, prev := 650, setAt := 5 }) (upc (fun x => { x with ft := 1000, target := 1500, raiseTo := some 3 }) (w0.put Reg.PWR_VREQ_PEND_RAILS 0xFFFF))),
      upc (fun x => { x with ft := 1000, target := 1500, held := some 950, trimAt := 999950, skewAt := 999500, goodAt := 999999, ageAt := 5 }) (marg w0),
  { upc (fun x => { x with ft := 1000, target := 1500, held := some 1480, shortfalls := 15 }) { w0 with fuses := { w0.fuses with baseCode := (List.range 16).map fun k => (k, 60) } } with gtc := 7000000000 },
  { upc (fun x => { x with ft := 1000, target := 1500, held := some 1480, shortfalls := 3 }) { w0 with fuses := { w0.fuses with baseCode := (List.range 16).map fun k => (k, 60) } } with gtc := 7000000000 },
  w0.setDom 5 { w0.dom 5 with attempt := 1, since := 999000 }, w0.setDom 5 { w0.dom 5 with attempt := 1, since := 0 },
      { upr (fun r x => { x with seq := 0, missing := 8 + r % 3 }) w0 with power := { (upr (fun r x => { x with seq := 0, missing := 8 + r % 3 }) w0).power with telAt := 1000000 } },
  (let s := upr (fun _ x => { x with mv := 700, prev := 650, setAt := 999990 }) (upc (fun x => { x with ft := 1000, target := 1500, raiseTo := some 3 }) (all Reg.PWR_RAIL_STATUS_CEILING 7 (w0.put Reg.PWR_VREQ_PEND_RAILS 0xFFFF))); { s with gates := (List.range 28).map fun d => (d, ⟨some 1000000, 2, []⟩) }) ]

/-- Obligations.ClocksMarginRails: states and operands that meet its hypotheses, clause by clause. -/
theorem wit_ClocksMarginRails :
    (∃ (s : State) (src : BitVec 4) (d : Nat), pllDom src.toNat = some d ∧ s.domOpen d = true ∧ 0 < (s.dom d).attempt ∧
    s.elapsed d < 100000) ∧
    (∃ (s : State) (src : BitVec 4) (d : Nat), pllDom src.toNat = some d ∧ s.domOpen d = true ∧ ((s.dom d).attempt = 0 ∨
    100000 ≤ s.elapsed d) ∧ (s.dom d).attempt < 2) ∧
    (∃ (s : State) (cl : BitVec 4), s.domLive (clDom cl.toNat) = true ∧ s.gtc < (s.clus cl.toNat).trimAt + 100) ∧
    (∃ (s : State) (cl : BitVec 4), s.domLive (clDom cl.toNat) = true ∧ (s.clus cl.toNat).trimAt + 100 ≤ s.gtc ∧ (s.clus
    cl.toNat).lowerDue = false) ∧
    (∃ (s : State) (cl : BitVec 4) (f : BitVec 12), s.domLive (clDom cl.toNat) = true ∧ 102 * f.toNat < 100 * (s.clus
    cl.toNat).ft) ∧
    (∃ (s : State) (cl : BitVec 4) (f : BitVec 12), s.domLive (clDom cl.toNat) = true ∧ 100 * (s.clus cl.toNat).ft ≤ 102 *
    f.toNat) ∧
    (∃ (s : State) (cl : BitVec 4) (codes : BitVec 48), s.domLive (clDom cl.toNat) = true ∧ s.marginCrit cl.toNat < minCode
    codes) ∧
    (∃ (s : State) (cl : BitVec 4) (codes : BitVec 48), s.domLive (clDom cl.toNat) = true ∧ minCode codes ≤ s.marginCrit
    cl.toNat ∧ (s.clus cl.toNat).crits = []) ∧
    (∃ (s : State) (cl : BitVec 4) (code : BitVec 6) (skew : BitVec 8), s.domLive (clDom cl.toNat) = true ∧ (code.toNat ≤
    s.marginLo cl.toNat ∨ 20 < skew.toNat) ∧ s.fixedMode cl.toNat = false ∧ (s.clus cl.toNat).cutAt = none) ∧
    (∃ (s : State) (cl : BitVec 4) (code : BitVec 6) (skew : BitVec 8), s.domLive (clDom cl.toNat) = true ∧ (code.toNat ≤
    s.marginLo cl.toNat ∨ 20 < skew.toNat) ∧ s.fixedMode cl.toNat = true) ∧
    (∃ (s : State) (cl : BitVec 4) (low : BitVec 6) (h : Nat), s.domLive (clDom cl.toNat) = true ∧ (s.clus cl.toNat).held =
    some h ∧ low.toNat < s.marginLo cl.toNat + 4) ∧
    (∃ (s : State) (cl : BitVec 4) (low : BitVec 6) (h : Nat), s.domLive (clDom cl.toNat) = true ∧ (s.clus cl.toNat).held =
    some h ∧ s.marginLo cl.toNat + 4 ≤ low.toNat ∧ s.gtc < (s.clus cl.toNat).goodAt + max 1 (s.get
    (Reg.CLS_MARGIN_CFG_RECOVER_T cl.toNat))) ∧
    (∃ (s : State) (cl : BitVec 4) (low : BitVec 6) (h : Nat), s.domLive (clDom cl.toNat) = true ∧ (s.clus cl.toNat).held =
    some h ∧ s.marginLo cl.toNat + 4 ≤ low.toNat ∧ (s.clus cl.toNat).goodAt + max 1 (s.get (Reg.CLS_MARGIN_CFG_RECOVER_T
    cl.toNat)) ≤ s.gtc) ∧
    (∃ (s : State) (cl : BitVec 4), s.domLive (clDom cl.toNat) = true ∧ s.gtc < (s.clus cl.toNat).skewAt + 1000) ∧
    (∃ (s : State) (cl : BitVec 4) (skew : BitVec 8), s.domLive (clDom cl.toNat) = true ∧ (s.clus cl.toNat).skewAt + 1000 ≤
    s.gtc ∧ skew.toNat ≤ 20) ∧
    (∃ (s : State) (cl : BitVec 4) (skew : BitVec 8), s.domLive (clDom cl.toNat) = true ∧ (s.clus cl.toNat).skewAt + 1000 ≤
    s.gtc ∧ 20 < skew.toNat) ∧
    (∃ (s : State) (cl : BitVec 4), s.domLive (clDom cl.toNat) = true ∧ s.gtc < (s.clus cl.toNat).ageAt + 6000000000) ∧
    (∃ (s : State) (cl : BitVec 4) (ran : BitVec 40), s.domLive (clDom cl.toNat) = true ∧ (s.clus cl.toNat).ageAt +
    6000000000 ≤ s.gtc ∧ ran.toNat < 10000) ∧
    (∃ (s : State) (cl : BitVec 4) (ran : BitVec 40) (mean : BitVec 10), s.domLive (clDom cl.toNat) = true ∧ (s.clus
    cl.toNat).ageAt + 6000000000 ≤ s.gtc ∧ 10000 ≤ ran.toNat ∧ s.shortfall cl.toNat mean.toNat < 2560) ∧
    (∃ (s : State) (cl : BitVec 4) (ran : BitVec 40) (mean : BitVec 10), s.domLive (clDom cl.toNat) = true ∧ (s.clus
    cl.toNat).ageAt + 6000000000 ≤ s.gtc ∧ 10000 ≤ ran.toNat ∧ 2560 ≤ s.shortfall cl.toNat mean.toNat ∧ (s.clus
    cl.toNat).shortfalls < 15) ∧
    (∃ (s : State) (cl : BitVec 4) (ran : BitVec 40) (mean : BitVec 10), s.domLive (clDom cl.toNat) = true ∧ (s.clus
    cl.toNat).ageAt + 6000000000 ≤ s.gtc ∧ 10000 ≤ ran.toNat ∧ 2560 ≤ s.shortfall cl.toNat mean.toNat ∧ (s.clus
    cl.toNat).shortfalls = 15 ∧ Tab.get 0 s.fuses.ageSteps cl.toNat < 8) ∧
    (∃ (s : State), s.domLive 1 = true ∧ s.gtc / 100000 = s.power.telAt / 100000) ∧
    (∃ (s : State), s.domLive 1 = true ∧ s.gtc / 100000 ≠ s.power.telAt / 100000 ∧ ∀ (r : Nat), r < 17 → s.get
    (Reg.PWR_TEL_SEQ r) = (s.rail r).seq) ∧
    (∃ (s : State) (rail : BitVec 5) (v : BitVec 64), s.domLive 1 = true ∧ rail.toNat < 16 ∧ v.getLsbD 10 = true ∧ v.getLsbD
    9 = false ∧ s.get (railSense rail.toNat) = 1 ∧ s.railInUse rail.toNat = true) ∧
    (∃ (s : State) (rail : BitVec 5) (v : BitVec 64), s.domLive 1 = true ∧ rail.toNat < 16 ∧ v.getLsbD 9 = true ∧ v.getLsbD
    10 = false) ∧
    (∃ (s : State) (cl : BitVec 4) (mv : BitVec 16) (k : Nat), s.domLive 1 = true ∧ bitAt (s.get Reg.PWR_VREQ_PEND_RAILS)
    cl.toNat = true ∧ mv.toNat ≤ (s.rail cl.toNat).mv + 10 ∧ (s.rail cl.toNat).mv ≤ mv.toNat + 10 ∧ (s.clus
    cl.toNat).raiseTo = some k ∧ s.power.clamp = false ∧ s.domOpen (clDom cl.toNat) = true ∧ k ≤ s.ceiling cl.toNat ∧ k < 8
    ∧ (s.gateOf (clDom cl.toNat)).at_ ≠ some s.gtc) ∧
    (∃ (s : State) (cl : BitVec 4) (mv : BitVec 16) (k : Nat), s.domLive 1 = true ∧ bitAt (s.get Reg.PWR_VREQ_PEND_RAILS)
    cl.toNat = true ∧ mv.toNat ≤ (s.rail cl.toNat).mv + 10 ∧ (s.rail cl.toNat).mv ≤ mv.toNat + 10 ∧ (s.clus
    cl.toNat).raiseTo = some k ∧ s.power.clamp = false ∧ s.domOpen (clDom cl.toNat) = true ∧ k ≤ s.ceiling cl.toNat ∧ k < 8
    ∧ (s.gateOf (clDom cl.toNat)).at_ = some s.gtc ∧ (s.gateOf (clDom cl.toNat)).rank < 4) ∧
    (∃ (s : State) (cl : BitVec 4), s.domLive 1 = true ∧ bitAt (s.get Reg.PWR_VREQ_PEND_RAILS) cl.toNat = true ∧ s.gtc <
    (s.rail cl.toNat).setAt + max 1 (s.get Reg.PWR_VSET_LIMIT_TICKS)) ∧
    (∃ (s : State) (cl : BitVec 4), s.domLive 1 = true ∧ bitAt (s.get Reg.PWR_VREQ_PEND_RAILS) cl.toNat = true ∧ (s.rail
    cl.toNat).noRaise = false ∧ (s.rail cl.toNat).setAt + max 1 (s.get Reg.PWR_VSET_LIMIT_TICKS) ≤ s.gtc) :=
  ⟨⟨(nth sts 16), 2, 5, by decide +kernel⟩,
    ⟨(nth sts 1), 9, 9, by decide +kernel⟩,
    ⟨(nth sts 13), 0xf, by decide +kernel⟩,
    ⟨(nth sts 17), 0xf, by decide +kernel⟩,
    ⟨(nth sts 1), 0xf, 0x3ce, by decide +kernel⟩,
    ⟨(nth sts 11), 0xf, 0xfff, by decide +kernel⟩,
    ⟨(nth sts 11), 0xf, 0xffffffffffff, by decide +kernel⟩,
    ⟨(nth sts 17), 0xf, 0xffffff, by decide +kernel⟩,
    ⟨(nth sts 11), 0xf, 0x3f, 0xff, by decide +kernel⟩,
    ⟨(nth sts 3), 0xf, 0x3f, 0xff, by decide +kernel⟩,
    ⟨(nth sts 14), 0xf, 0xb, 1480, by decide +kernel⟩,
    ⟨(nth sts 13), 0xf, 0x3f, 950, by decide +kernel⟩,
    ⟨(nth sts 15), 0xf, 0x3f, 1480, by decide +kernel⟩,
    ⟨(nth sts 13), 0xf, by decide +kernel⟩,
    ⟨(nth sts 11), 0xf, 0x14, by decide +kernel⟩,
    ⟨(nth sts 5), 0xf, 0xff, by decide +kernel⟩,
    ⟨(nth sts 18), 0xf, by decide +kernel⟩,
    ⟨(nth sts 14), 0xf, 0x270f, by decide +kernel⟩,
    ⟨(nth sts 15), 0xf, 0xffffffffff, 0x3ff, by decide +kernel⟩,
    ⟨(nth sts 15), 0xe, 0xffffffffff, 0x30f, by decide +kernel⟩,
    ⟨(nth sts 14), 0xc, 0xffffffffff, 0x30f, by decide +kernel⟩,
    ⟨(nth sts 18), by decide +kernel⟩,
    ⟨(nth sts 17), by decide +kernel⟩,
    ⟨(nth sts 9), 0xa, 0xf5e7, by decide +kernel⟩,
    ⟨(nth sts 9), 5, 0xfbd7, by decide +kernel⟩,
    ⟨(nth sts 12), 0xf, 0x2c1, 3, by decide +kernel⟩,
    ⟨(nth sts 19), 0xf, 0x2c1, 3, by decide +kernel⟩,
    ⟨(nth sts 11), 0xf, by decide +kernel⟩,
    ⟨(nth sts 12), 0xf, by decide +kernel⟩⟩

end W45

namespace W46

def closed (s : State) : State := (List.range 16).foldl (fun s c => s.setDom (12 + c) Dom.reset) s
def inb (l : List Report) (s : State) : State := { s with conc := { s.conc with inbox := l } }
def pw (f : Power → Power) (s : State) : State := { s with power := f s.power }
def lock (s : State) : State := putAll { s with fuses := { s.fuses with package := 2 } } [(Reg.PWR_CTRL_MODE, 1),
    (Reg.LNK_DIE_DIE, 3), (Reg.PWR_PACE_CTRL_PORTS, 0x15), (Reg.PWR_PACE_CTRL_GROUP, 9), (Reg.PWR_PACE_MASK_MEMBERS 0, 0x48)]
def wd (o k f : Nat) : PaceWord := ⟨o, k, f, false, 9⟩
def idle (s : State) : State := { s with tiles := [] }
def sts : List State := [w0, closed w0, inb [.phase 3 5, .demand 4] (closed w0), inb [.phase 3 5, .demand 4] (lock w0),
    inb [.demand 4, .phase 3 5] w0, inb [.demand 2, .phase 3 5] (pw (fun p => { p with demands := [2] }) w0),
  pw (fun p => { p with demands := [2, 5] }) (closed w0), pw (fun p => { p with demands := [5] }) (closed w0),
      pw (fun p => { p with demands := [2, 5] }) (lock ((w0.setDom 14 Dom.reset).setDom 17 Dom.reset)),
      w0.put Reg.PWR_EFF_CAP_UNMET 1,
  idle w0, (idle w0).put Reg.PWR_CLOSE_IDLE_TICKS 5, putAll w0 [(Reg.PWR_EFF_CAP_UNMET, 1), (Reg.PWR_ESTIMATE_CLUSTERS,
      5000)], putAll { w0 with tiles := (List.range 64).map fun k => (k, busyTile) } [(Reg.PWR_EFF_CAP_UNMET, 1),
      (Reg.PWR_ESTIMATE_CLUSTERS, 900000), (Reg.OBJ_PART_CFG_CLUSTERS 2, 0xFFFF)],
  putAll { w0 with disp := { w0.disp with tiles := (List.range 64).map fun k => (k, { DTile.reset with claim := some 0 }) } } [(Reg.PWR_EFF_CAP_UNMET,
      1), (Reg.PWR_ESTIMATE_CLUSTERS, 900000), (Reg.OBJ_PART_CFG_CLUSTERS 2, 0xFFFF)],
  closed (w0.put Reg.PWR_CTRL_LEASE_EN 1), lock (w0.put Reg.PWR_CTRL_LEASE_EN 1),
      pw (fun p => { p with leaseSeq := some 7, leaseEnd := some 5 }) (closed (putAll w0 [(Reg.PWR_CTRL_LEASE_EN, 1),
      (Reg.PWR_LEASE_STATUS_STATE, 1)])),
  pw (fun p => { p with leaseSeq := some 7, leaseEnd := some 5000000 }) (closed (putAll w0 [(Reg.PWR_CTRL_LEASE_EN, 1),
      (Reg.PWR_LEASE_STATUS_STATE, 1)])),
  putAll w0 [(Reg.PWR_PHASE_VALID 1 3, 1), (Reg.PWR_PHASE_CEFF 1 3, 77), (Reg.PWR_PHASE_SEEN 1 3, 9)],
  closed (lock w0), pw (fun p => { p with lagNext := true, paceIn := [wd 3 976 60, wd 6 976 50, wd 3 975 7] }) (closed (lock w0)),
      pw (fun p => { p with lagNext := true, paceIn := [wd 5 976 60, wd 6 976 50] }) (closed (lock w0)),
  pw (fun p => { p with clamp := true, spillAt := some 99 }) w0,
      (pw (fun p => { p with clamp := false }) w0).put Reg.PWR_PIN_STATUS_SPILL_STUCK 1,
  pw (fun p => { p with clamp := true, spillAt := some 999000 }) w0,
      { pw (fun p => { p with clamp := true, spillAt := some 99 }) w0 with gtc := 5000000 },
      { closed (lock w0) with gtc := 1000500 },
      (pw (fun p => { p with clamp := false, spillAt := some 5 }) w0).put Reg.PWR_PIN_STATUS_SPILL_STUCK 1, 
  pw (fun p => { p with estAt := 999000, paceAt := 1000000 }) (closed (lock w0)),
      { idle w0 with disp := { w0.disp with tiles := (List.range 64).map fun k => (k, { DTile.reset with idleSince := 999999 }) } },
  pw (fun p => { p with estAt := 1000000 }) w0 ]
def pwords : Array Nat := #[9 + 5 * 2 ^ 16 + 976 * 2 ^ 32 + 60 * 2 ^ 64 + 9 * 2 ^ 80,
    9 + 6 * 2 ^ 16 + 976 * 2 ^ 32 + 60 * 2 ^ 64 + 9 * 2 ^ 80, 9 + 5 * 2 ^ 16 + 976 * 2 ^ 32 + 60 * 2 ^ 64 + 2 ^ 80]
def leases : Array Nat := #[8 * 2 ^ 48 + 50 * 2 ^ 32 + 90000, 6 * 2 ^ 48 + 50 * 2 ^ 32 + 90000,
    8 * 2 ^ 48 + 101 * 2 ^ 32 + 90000, 250000]

/-- Obligations.PowerControl: states and operands that meet its hypotheses, clause by clause. -/
theorem wit_PowerControl :
    (∃ (s : State), s.domLive 1 = true ∧ s.gtc / 1000 = s.power.estAt / 1000) ∧
    (∃ (s : State) (un : BitVec 20), s.domLive 1 = true ∧ s.gtc / 1000 ≠ s.power.estAt / 1000 ∧ s.calibrated 16 un.toNat < 2
    ^ 20) ∧
    (∃ (s : State) (t0 : Nat) (k : Nat) (rest : List Report), s.domLive 1 = true ∧ s.conc.inbox = Report.phase t0 k :: rest ∧
    (s.lockstep = true ∨ s.openClusters none = [])) ∧
    (∃ (s : State) (c : Nat) (rest : List Report), s.domLive 1 = true ∧ s.conc.inbox = Report.demand c :: rest) ∧
    (∃ (s : State) (cl : BitVec 4), s.domLive 1 = true ∧ s.clusterFree cl.toNat = true ∧ bitAt (s.get Reg.PWR_KEEP_OPEN_CL)
    cl.toNat = false ∧ ∃ k, k < 4 ∧ s.dspTime < (s.dtile (4 * cl.toNat + k)).idleSince + max 1 (s.get
    Reg.PWR_CLOSE_IDLE_TICKS)) ∧
    (∃ (s : State) (cl : BitVec 4), s.domLive 1 = true ∧ s.clusterFree cl.toNat = true ∧ bitAt (s.get Reg.PWR_KEEP_OPEN_CL)
    cl.toNat = false ∧ (∀ (k : Nat), k < 4 → (s.dtile (4 * cl.toNat + k)).idleSince + max 1 (s.get Reg.PWR_CLOSE_IDLE_TICKS)
    ≤ s.dspTime) ∧ (s.gateOf (clDom cl.toNat)).at_ ≠ some s.gtc) ∧
    (∃ (s : State) (c : Nat), s.domLive 1 = true ∧ s.on Reg.PWR_EFF_CAP_UNMET = true ∧ s.power.unmetAt = none ∧ s.clBudget <
    s.get Reg.PWR_ESTIMATE_CLUSTERS ∧ (∀ (k : Nat), k < 16 → s.clusterFree k = false) ∧ s.toPark = some c ∧ (s.gateOf (clDom
    c)).at_ ≠ some s.gtc) ∧
    (∃ (s : State) (src : Source) (v : BitVec 64), s.domLive 1 = true ∧ s.srcReaches src = true ∧ s.on Reg.PWR_CTRL_LEASE_EN
    = true ∧ (∀ (q : Nat), s.power.leaseSeq = some q → newer (bits v.toNat 63 48) q 16 = true) ∧ 0 < bits v.toNat 38 32 ∧
    bits v.toNat 38 32 ≤ 100 ∧ (s.lockstep = true ∨ s.openClusters none = [])) ∧
    (∃ (s : State) (src : Source) (v : BitVec 64), s.domLive 1 = true ∧ s.srcReaches src = true ∧ (s.on Reg.PWR_CTRL_LEASE_EN
    = false ∨ (∃ q, s.power.leaseSeq = some q ∧ newer (bits v.toNat 63 48) q 16 = false) ∨ bits v.toNat 38 32 = 0 ∨ 100 <
    bits v.toNat 38 32)) ∧
    (∃ (s : State) (t0 : Nat), s.domLive 1 = true ∧ s.power.leaseEnd = some t0 ∧ s.get Reg.PWR_LEASE_STATUS_STATE = 1 ∧ s.gtc
    < t0) ∧
    (∃ (s : State) (t0 : Nat), s.domLive 1 = true ∧ s.power.leaseEnd = some t0 ∧ s.get Reg.PWR_LEASE_STATUS_STATE = 1 ∧ t0 ≤
    s.gtc ∧ (s.lockstep = true ∨ s.openClusters none = [])) ∧
    (∃ (s : State), s.domLive 1 = true ∧ s.lockstep = true ∧ (s.gtc % s.pacePeriod ≠ 0 ∨ (s.paceWord s.ownDie (applyKey
    (s.gtc + 2 * s.pacePeriod))).isSome = true)) ∧
    (∃ (s : State) (word : BitVec 128), s.domLive 1 = true ∧ s.lockstep = true ∧ s.paceWord (bits word.toNat 24 16) (bits
    word.toNat 63 32) ≠ none) ∧
    (∃ (s : State) (word : BitVec 128), s.domLive 1 = true ∧ s.lockstep = true ∧ bits word.toNat 7 0 = s.get
    Reg.PWR_PACE_CTRL_GROUP ∧ s.paceWord (bits word.toNat 24 16) (bits word.toNat 63 32) = none ∧ s.openClusters none = []) ∧
    (∃ (s : State), s.domLive 1 = true ∧ s.lockstep = true ∧ s.gtc = s.power.paceAt) ∧
    (∃ (s : State) (f : Nat), s.domLive 1 = true ∧ s.lockstep = true ∧ s.gtc % s.pacePeriod = 0 ∧ s.gtc ≠ s.power.paceAt ∧
    s.openClusters none = [] ∧ f < 4096 ∧ s.power.excluded = [] ∧ (∀ (d : Nat), d ∈ s.paceMembers → s.paceWord d (applyKey
    s.gtc) ≠ none) ∧ s.fGroup (applyKey s.gtc) = some f) ∧
    (∃ (s : State), s.domLive 1 = true ∧ s.lockstep = false) ∧
    (∃ (s : State), s.on Reg.PWR_PIN_STATUS_SPILL_STUCK = false ∧ ∀ (c : Nat), c < 16 → (s.gateOf (clDom c)).at_ ≠ some s.gtc) ∧
    (∃ (s : State), s.on Reg.PWR_PIN_STATUS_SPILL_STUCK = false ∧ s.spillOver 10000 = false) ∧
    (∃ (s : State), s.on Reg.PWR_PIN_STATUS_SPILL_STUCK = false ∧ s.spillOver 10000 = true ∧ s.power.clamp = true) ∧
    (∃ (s : State), s.on Reg.PWR_PIN_STATUS_SPILL_STUCK = false ∧ s.spillOver 1000000 = false) ∧
    (∃ (s : State), s.on Reg.PWR_PIN_STATUS_SPILL_STUCK = false ∧ s.spillOver 1000000 = true ∧ s.power.clamp = true) ∧
    (∃ (s : State), s.on Reg.PWR_PIN_STATUS_SPILL_STUCK = true ∧ s.spillOver 10000 = true) :=
  ⟨⟨(nth sts 31), by decide +kernel⟩,
    ⟨(nth sts 15), 0xff8d, by decide +kernel⟩,
    ⟨(nth sts 3), 3, 5, [Report.demand 4], by decide +kernel⟩,
    ⟨(nth sts 4), 4, [Report.phase 3 5], by decide +kernel⟩,
    ⟨(nth sts 30), 0xf, by decide +kernel⟩,
    ⟨(nth sts 0), 0xf, by decide +kernel⟩,
    ⟨(nth sts 14), 15, by decide +kernel⟩,
    ⟨(nth sts 16), Source.host, 0x8003200015f90, by decide +kernel⟩,
    ⟨(nth sts 1), Source.mgmt, 0x8003200015f90, by decide +kernel⟩,
    ⟨(nth sts 18), 5000000, by decide +kernel⟩,
    ⟨(nth sts 17), 5, by decide +kernel⟩,
    ⟨(nth sts 27), by decide +kernel⟩,
    ⟨(nth sts 22), 0x1003c000003d000050009, by decide +kernel⟩,
    ⟨(nth sts 29), 0x9003c000003d000060009, by decide +kernel⟩,
    ⟨(nth sts 29), by decide +kernel⟩,
    ⟨(nth sts 21), 50, by decide +kernel⟩,
    ⟨(nth sts 12), by decide +kernel⟩,
    ⟨(nth sts 10), by decide +kernel⟩,
    ⟨(nth sts 25), by decide +kernel⟩,
    ⟨(nth sts 23), by decide +kernel⟩,
    ⟨(nth sts 25), by decide +kernel⟩,
    ⟨(nth sts 26), by decide +kernel⟩,
    ⟨(nth sts 24), by decide +kernel⟩⟩

/-- Cluster 5's demand waits, and the fused leakage model gives it no more than its share. -/
theorem wit_PowerControl_1 (h : (nth sts 7).covers 5 = true) : ∃ (s : State) (c : Nat), s.domLive 1 = true ∧ s.isReady = true ∧
    s.on Reg.PWR_EFF_CAP_UNMET = false ∧ List.find? s.covers s.power.demands = some c ∧ s.clEnabled c = true ∧
    (s.dom (clDom c)).st = DomSt.closed ∧ (s.lockstep = true ∨ s.openClusters none = []) := by
  have d : (nth sts 7).power.demands = [5] := by decide +kernel
  refine ⟨nth sts 7, 5, ?_, ?_, ?_, by rw [d, List.find?_cons_of_pos h], ?_, ?_, ?_⟩ <;> decide +kernel

theorem wit_PowerControl_2 : ∃ (s : State) (f : Nat), s.domLive 1 = true ∧ s.lockstep = true ∧ s.gtc % s.pacePeriod = 0 ∧
    s.paceWord s.ownDie (applyKey (s.gtc + 2 * s.pacePeriod)) = none ∧ s.fSelf = some f := by
  obtain ⟨f, h⟩ := some_ex (e := (nth sts 16).fSelf) (by decide +kernel)
  refine ⟨nth sts 16, f, ?_, ?_, ?_, ?_, h⟩ <;> decide +kernel

end W46

namespace W47

def blob (cls gen : Nat) (es : List (Nat × Nat × Nat × Nat)) : List Byte :=
  leBytes 64 (0x424C424B + cls * 2 ^ 32 + gen * 2 ^ 64 + es.length * 2 ^ 96) ++ es.flatMap fun e => leBytes 24 (e.1 + e.2.1 * 2 ^ 32 + e.2.2.1 * 2 ^ 64 + e.2.2.2 * 2 ^ 128)
def kb (part id : Nat) : List Byte := leBytes 280 (0x594B444D + part * 2 ^ 32 + id * 2 ^ 64)
def at_ (pa : Nat) (bs : List Byte) (s : State) : State := { s with mem := s.mem ++ (bs.zipIdx.filterMap fun (b, i) => if b = 0 then none else some (pa + i, b)) }
def args (w : List Nat) (s : State) : State := (List.range 2).foldl (fun s m => (w.zipIdx).foldl (fun s e => s.put (Reg.KPR_MB_DATA_DATA m e.2) e.1) s) s
def kp (f : Keeper → Keeper) (s : State) : State := { s with keeper := f s.keeper }
def nonce (s : State) : State := kp (fun k => { k with nonces := [(0, some (7, 1000000)), (1, some (8, 2000000))] }) s
def pr (cls gen : Nat) (es : List (Nat × Nat × Nat × Nat)) : Proposal := ⟨9, cls, 0x500000, 5, gen, 1500000, 7, 0, es⟩
def propAt (m : Nat) (p : Proposal) (s : State) : State := kp (fun k => { k with props := [(m, some p)] }) ((args [9] s).put (Reg.KPR_MB_STATUS_PENDING_OWN m) 1)
def sp (q v : Nat) : Nat × Nat × Nat × Nat := (Reg.KPR_SEAL_POLICY q, 8, v, 0xFF)
def w1 : State := { w0 with mem := [] }
def wp : State := args [0x500000, 5] w1
def valid (s : State) : State := putAll s [(Reg.OBJ_PART_CFG_VALID 0, 1), (Reg.OBJ_PART_CFG_CLUSTERS 2, 3),
    (Reg.OBJ_PART_CFG_CLUSTERS 0, 12)]
def seg : Nat × Nat × Nat × Nat := (Reg.XLT_SEG_V 3, 8, 0, 0)
def sts : List State := [w1, propAt 0 (pr 3 0 [sp 2 5]) (valid w1), propAt 1 (pr 3 0 [sp 2 5]) (valid w1),
    propAt 0 (pr 3 1 [sp 2 5]) (valid w1), propAt 1 (pr 7 0 []) (valid w1), propAt 1 (pr 2 0 [seg]) (valid w1),
    propAt 0 (pr 2 0 [seg]) (valid w1),
  kp (fun k => { k with applying := some 0 }) (propAt 1 (pr 2 0 [seg]) (valid w1)),
      kp (fun k => { k with applying := some 1 }) (propAt 0 (pr 2 0 [seg]) (valid w1)),
  nonce wp, at_ 0x500000 (blob 3 0 [sp 2 5]) (nonce wp), at_ 0x500000 (blob 2 0 [seg]) (nonce wp),
      at_ 0x500000 (blob 3 0 [sp 2 5, sp 2 6]) (nonce wp),
  at_ 0x500000 (kb 2 11) wp,
      kp (fun k => { k with slots := [(0, 2, 4), (3, 1, 1)], lockEnd := some 5 }) { args [2 + 4 * 2 ^ 32] w1 with modelKeys := [(2, 4, 6), (2, 5, 7), (1, 4, 8)] },
  (w1.put (Reg.KPR_MB_STATUS_BUSY 0) 1).put (Reg.KPR_MB_STATUS_BUSY 1) 1, w1.put Reg.ENG_STATE_STATE 4,
      w1.put Reg.ENG_STATE_STATE 3, w1.put Reg.ENG_STATE_STATE 5, (valid w1).put Reg.KPR_STATE_LOCKOUT 1,
      { kp (fun k => { k with applying := some 0, quiesceAt := 5 }) (propAt 1 (pr 2 0 [seg]) (valid w1)) with gtc := 2000000 },
      { propAt 1 (pr 2 0 [seg]) (valid w1) with gtc := 2000000 }, { propAt 0 (pr 2 0 [seg]) (valid w1) with gtc := 2000000 },
      kp (fun k => { k with applying := some 1, quiesceAt := 999000 }) (propAt 0 (pr 1 0 [(Reg.OBJ_PART_CFG 2, 8, 1,
      0xFFFF)]) (valid w1)), kp (fun k => { k with lockEnd := some 5000000 }) w1]

/-- Obligations.KeeperCommands: states and operands that meet its hypotheses, clause by clause. -/
theorem wit_KeeperCommands :
    (∃ (s : State) (mb : BitVec 1), s.domLive 2 = true ∧ s.keeper.waiting = [] ∧ s.on (Reg.KPR_MB_STATUS_BUSY mb.toNat) =
    true) ∧
    (∃ (s : State) (mb : BitVec 1), s.domLive 2 = true ∧ s.keeper.waiting = [] ∧ s.on (Reg.KPR_MB_STATUS_BUSY mb.toNat) =
    false ∧ s.keeper.applying ≠ none) ∧
    (∃ (s : State) (mb : BitVec 1), s.domLive 2 = true ∧ s.keeper.waiting = [] ∧ s.on (Reg.KPR_MB_STATUS_BUSY mb.toNat) =
    false ∧ s.keeper.applying = none ∧ s.eng = engAlarmed) ∧
    (∃ (s : State) (mb : BitVec 1), s.domLive 2 = true ∧ s.keeper.waiting = [] ∧ s.on (Reg.KPR_MB_STATUS_BUSY mb.toNat) =
    false ∧ s.keeper.applying = none ∧ s.eng ≠ engAlarmed ∧ s.on Reg.KPR_STATE_LOCKOUT = false ∧ s.prop mb.toNat ≠ none) ∧
    (∃ (s : State) (mb : BitVec 1), s.domLive 2 = true ∧ s.keeper.waiting = [] ∧ s.on (Reg.KPR_MB_STATUS_BUSY mb.toNat) =
    false ∧ s.keeper.applying = none ∧ s.eng ≠ engAlarmed ∧ s.on Reg.KPR_STATE_LOCKOUT = false ∧ s.prop mb.toNat = none ∧
    Tab.get none s.keeper.nonces mb.toNat = none ∧ s.keeper.fails = []) ∧
    (∃ (s : State) (mb : BitVec 1), s.domLive 2 = true ∧ s.keeper.waiting = [] ∧ s.on (Reg.KPR_MB_STATUS_BUSY mb.toNat) =
    false ∧ s.keeper.applying = none ∧ s.eng ≠ engAlarmed ∧ s.on Reg.KPR_STATE_LOCKOUT = false ∧ s.prop (1 - mb.toNat) =
    none ∧ s.prop mb.toNat = none ∧ s.ownLapsed (1 - mb.toNat) = none) ∧
    (∃ (s : State) (mb : BitVec 1) (p : Proposal), s.domLive 2 = true ∧ s.keeper.waiting = [] ∧ s.on (Reg.KPR_MB_STATUS_BUSY
    mb.toNat) = false ∧ s.keeper.applying = none ∧ s.eng ≠ engAlarmed ∧ s.on Reg.KPR_STATE_LOCKOUT = false ∧ s.prop mb.toNat
    = none ∧ s.prop (1 - mb.toNat) = some p ∧ p.id = s.mbArg mb.toNat 0 4 ∧ s.gtc ≤ p.until_ ∧ s.mbArg mb.toNat 16 48 =
    p.digest ∧ s.keeper.fails = []) ∧
    (∃ (s : State) (mb : BitVec 1) (p : Proposal), s.domLive 2 = true ∧ s.keeper.waiting = [] ∧ s.on (Reg.KPR_MB_STATUS_BUSY
    mb.toNat) = false ∧ s.keeper.applying = none ∧ s.eng ≠ engAlarmed ∧ s.on Reg.KPR_STATE_LOCKOUT = false ∧ s.prop mb.toNat
    = none ∧ s.prop (1 - mb.toNat) = some p ∧ p.id = s.mbArg mb.toNat 0 4 ∧ s.gtc ≤ p.until_ ∧ s.mbArg mb.toNat 16 48 =
    p.digest ∧ p.baseGen ≠ s.get (Reg.KPR_GEN_GEN (p.cls - 1))) ∧
    (∃ (s : State) (mb : BitVec 1) (p : Proposal), s.domLive 2 = true ∧ s.keeper.waiting = [] ∧ s.on (Reg.KPR_MB_STATUS_BUSY
    mb.toNat) = false ∧ s.keeper.applying = none ∧ s.eng ≠ engAlarmed ∧ s.on Reg.KPR_STATE_LOCKOUT = false ∧ s.prop mb.toNat
    = none ∧ s.prop (1 - mb.toNat) = some p ∧ p.id = s.mbArg mb.toNat 0 4 ∧ s.gtc ≤ p.until_ ∧ s.mbArg mb.toNat 16 48 =
    p.digest ∧ p.baseGen = s.get (Reg.KPR_GEN_GEN (p.cls - 1)) ∧ (s.applyEntries p.entries).contentOk p.cls = true ∧
    s.mustQuiesce p = true) ∧
    (∃ (s : State) (mb : BitVec 1) (p : Proposal), s.domLive 2 = true ∧ s.keeper.waiting = [] ∧ s.on (Reg.KPR_MB_STATUS_BUSY
    mb.toNat) = false ∧ s.keeper.applying = none ∧ s.eng ≠ engAlarmed ∧ s.on Reg.KPR_STATE_LOCKOUT = false ∧ s.prop mb.toNat
    = none ∧ s.prop (1 - mb.toNat) = some p ∧ p.id = s.mbArg mb.toNat 0 4 ∧ s.gtc ≤ p.until_ ∧ s.mbArg mb.toNat 16 48 =
    p.digest ∧ p.baseGen = s.get (Reg.KPR_GEN_GEN (p.cls - 1)) ∧ (s.applyEntries p.entries).contentOk p.cls = true ∧
    s.mustQuiesce p = false) ∧
    (∃ (s : State) (mb : BitVec 1) (p : Proposal) (q : BitVec 4) (v : BitVec 8), s.domLive 2 = true ∧ s.keeper.waiting = [] ∧
    s.on (Reg.KPR_MB_STATUS_BUSY mb.toNat) = false ∧ s.keeper.applying = none ∧ s.eng ≠ engAlarmed ∧ s.on
    Reg.KPR_STATE_LOCKOUT = false ∧ s.prop mb.toNat = none ∧ s.prop (1 - mb.toNat) = some p ∧ p.id = s.mbArg mb.toNat 0 4 ∧
    s.gtc ≤ p.until_ ∧ s.mbArg mb.toNat 16 48 = p.digest ∧ p.baseGen = s.get (Reg.KPR_GEN_GEN (p.cls - 1)) ∧ (s.applyEntries
    p.entries).contentOk p.cls = true ∧ p.cls = 3 ∧ p.entries = [(Reg.KPR_SEAL_POLICY q.toNat, 8, v.toNat, 255)]) ∧
    (∃ (s : State) (mb : BitVec 1) (p : Proposal), s.domLive 2 = true ∧ s.keeper.waiting = [] ∧ s.on (Reg.KPR_MB_STATUS_BUSY
    mb.toNat) = false ∧ s.keeper.applying = none ∧ s.eng ≠ engAlarmed ∧ s.prop mb.toNat = some p ∧ p.id = s.mbArg mb.toNat 0
    4) ∧
    (∃ (s : State) (mb : BitVec 1) (p : Proposal), s.domLive 2 = true ∧ s.keeper.waiting = [] ∧ s.on (Reg.KPR_MB_STATUS_BUSY
    mb.toNat) = false ∧ s.keeper.applying = none ∧ s.eng ≠ engAlarmed ∧ s.prop (1 - mb.toNat) = some p) ∧
    (∃ (s : State) (mb : BitVec 1), s.domLive 2 = true ∧ s.keeper.waiting = [] ∧ s.on (Reg.KPR_MB_STATUS_BUSY mb.toNat) =
    false ∧ s.keeper.applying = none ∧ s.eng ≠ engAlarmed ∧ mb.toNat = 1) ∧
    (∃ (s : State) (mb : BitVec 1), s.domLive 2 = true ∧ s.keeper.waiting = [] ∧ s.on (Reg.KPR_MB_STATUS_BUSY mb.toNat) =
    false ∧ s.keeper.applying = none ∧ s.eng ≠ engAlarmed ∧ mb.toNat = 0) ∧
    (∃ (s : State) (mb : BitVec 1) (sig : Bool) (tag : Bool) (bs : List Byte), s.domLive 2 = true ∧ s.keeper.waiting = [] ∧
    s.on (Reg.KPR_MB_STATUS_BUSY mb.toNat) = false ∧ s.keeper.applying = none ∧ s.eng ≠ engAlarmed ∧ s.ownRead (s.mbArg
    mb.toNat 8 2) (s.mbArg mb.toNat 0 8 % 2 ^ 52) 280 = some bs ∧ (s.keyBlobOk (leNat bs) = false ∨ sig = false ∨ tag =
    false)) ∧
    (∃ (s : State) (mb : BitVec 1) (p : Proposal), s.domLive 2 = true ∧ s.keeper.waiting = [] ∧ s.keeper.applying = some
    mb.toNat ∧ s.prop (1 - mb.toNat) = some p ∧ s.gtc ≤ s.keeper.quiesceAt + 1000000 ∧ p.cls = 2 ∧ (s.applyEntries
    p.entries).contentOk p.cls = true) ∧
    (∃ (s : State) (mb : BitVec 1) (p : Proposal), s.domLive 2 = true ∧ s.keeper.waiting = [] ∧ s.keeper.applying = some
    mb.toNat ∧ s.prop (1 - mb.toNat) = some p ∧ s.keeper.quiesceAt + 1000000 < s.gtc) ∧
    (∃ (s : State) (mb : BitVec 1) (p : Proposal), s.domLive 2 = true ∧ s.keeper.waiting = [] ∧ s.keeper.applying = some
    mb.toNat ∧ s.prop (1 - mb.toNat) = some p ∧ p.cls = 1 ∧ s.fencesHold p = false) ∧
    (∃ (s : State) (mb : BitVec 1) (p : Proposal), s.domLive 2 = true ∧ s.keeper.waiting = [] ∧ s.prop mb.toNat = some p ∧
    s.keeper.applying = none ∧ s.gtc ≤ p.until_) ∧
    (∃ (s : State) (mb : BitVec 1) (p : Proposal), s.domLive 2 = true ∧ s.keeper.waiting = [] ∧ s.prop mb.toNat = some p ∧
    s.keeper.applying = none ∧ p.until_ < s.gtc ∧ s.keeper.fails = []) ∧
    (∃ (s : State) (e : Nat), s.domLive 2 = true ∧ s.keeper.waiting = [] ∧ s.keeper.lockEnd = some e ∧ s.gtc < e) ∧
    (∃ (s : State) (e : Nat), s.domLive 2 = true ∧ s.keeper.waiting = [] ∧ s.keeper.lockEnd = some e ∧ e ≤ s.gtc) :=
  ⟨⟨(nth sts 15), 1, by decide +kernel⟩,
    ⟨(nth sts 8), 1, by decide +kernel⟩,
    ⟨(nth sts 18), 1, by decide +kernel⟩,
    ⟨(nth sts 5), 1, by decide +kernel⟩,
    ⟨(nth sts 0), 1, by decide +kernel⟩,
    ⟨(nth sts 17), 1, by decide +kernel⟩,
    ⟨(nth sts 6), 1, ⟨9, 2, 5242880, 5, 0, 1500000, 7, 0, [(16982064, 8, 0, 0)]⟩, by decide +kernel⟩,
    ⟨(nth sts 3), 1, ⟨9, 3, 5242880, 5, 1, 1500000, 7, 0, [(17376272, 8, 5, 255)]⟩, by decide +kernel⟩,
    ⟨(nth sts 6), 1, ⟨9, 2, 5242880, 5, 0, 1500000, 7, 0, [(16982064, 8, 0, 0)]⟩, by decide +kernel⟩,
    ⟨(nth sts 1), 1, ⟨9, 3, 5242880, 5, 0, 1500000, 7, 0, [(17376272, 8, 5, 255)]⟩, by decide +kernel⟩,
    ⟨(nth sts 1), 1, ⟨9, 3, 5242880, 5, 0, 1500000, 7, 0, [(17376272, 8, 5, 255)]⟩, 2, 5, by decide +kernel⟩,
    ⟨(nth sts 5), 1, ⟨9, 2, 5242880, 5, 0, 1500000, 7, 0, [(16982064, 8, 0, 0)]⟩, by decide +kernel⟩,
    ⟨(nth sts 3), 1, ⟨9, 3, 5242880, 5, 1, 1500000, 7, 0, [(17376272, 8, 5, 255)]⟩, by decide +kernel⟩,
    ⟨(nth sts 6), 1, by decide +kernel⟩,
    ⟨(nth sts 0), 0, by decide +kernel⟩,
    ⟨(nth sts 24), 1, true, false, (List.replicate 280 0x0), by decide +kernel⟩,
    ⟨(nth sts 8), 1, ⟨9, 2, 5242880, 5, 0, 1500000, 7, 0, [(16982064, 8, 0, 0)]⟩, by decide +kernel⟩,
    ⟨(nth sts 20), 0, ⟨9, 2, 5242880, 5, 0, 1500000, 7, 0, [(16982064, 8, 0, 0)]⟩, by decide +kernel⟩,
    ⟨(nth sts 23), 1, ⟨9, 1, 5242880, 5, 0, 1500000, 7, 0, [(16908816, 8, 1, 65535)]⟩, by decide +kernel⟩,
    ⟨(nth sts 2), 1, ⟨9, 3, 5242880, 5, 0, 1500000, 7, 0, [(17376272, 8, 5, 255)]⟩, by decide +kernel⟩,
    ⟨(nth sts 21), 1, ⟨9, 2, 5242880, 5, 0, 1500000, 7, 0, [(16982064, 8, 0, 0)]⟩, by decide +kernel⟩,
    ⟨(nth sts 24), 5000000, by decide +kernel⟩,
    ⟨(nth sts 14), 5, by decide +kernel⟩⟩

/-- mailbox 1 holds a blob's address, its CID and the digest d -/
def boxRegs (d : Nat) (r : Tab Nat) : Tab Nat :=
  (1111769088, 0x500000) :: (1111769600, 5) :: (1111770112, d % 2 ^ 64) :: (1111770624, d / 2 ^ 64 % 2 ^ 64) ::
  (1111771136, d / 2 ^ 128 % 2 ^ 64) :: (1111771648, d / 2 ^ 192 % 2 ^ 64) :: (1111772160, d / 2 ^ 256 % 2 ^ 64) ::
  (1111772672, d / 2 ^ 320 % 2 ^ 64) :: r

def theBlob : List Byte := blob 3 0 [sp 2 5]
def proposing (d : Nat) : State := let s := at_ 0x500000 theBlob (nonce w1); { s with regs := boxRegs d s.regs }

theorem box_key (j : Nat) : (Reg.KPR_MB_DATA_DATA 1 j).key = 1111769088 + 512 * j := by
  simp [Fld.key, Reg.KPR_MB_DATA]; omega

theorem rest_zero : ∀ j < 24, Tab.get 0 (at_ 0x500000 theBlob (nonce w1)).regs (1111773184 + 512 * j) = 0 := by
  decide +kernel

theorem box_get (d j : Nat) : (proposing d).get (Reg.KPR_MB_DATA_DATA 1 j) =
    Tab.get 0 (boxRegs d (at_ 0x500000 theBlob (nonce w1)).regs) (1111769088 + 512 * j) := by
  rw [← box_key]; rfl

theorem box_zero (d j : Nat) (h : 8 ≤ j) (h' : j < 32) : (proposing d).get (Reg.KPR_MB_DATA_DATA 1 j) = 0 := by
  have r := rest_zero (j - 8) (by omega)
  rw [box_get]
  have e : 1111769088 + 512 * j = 1111773184 + 512 * (j - 8) := by omega
  rw [e]
  simp only [boxRegs, Tab.get]
  repeat rw [if_neg (by omega)]
  exact r

theorem foldl_32 (f g : Nat → Nat) (z : ∀ j, 8 ≤ j → j < 32 → f j = 0) :
    (List.range 32).foldl (fun a j => a + f j * g j) 0 =
      0 + f 0 * g 0 + f 1 * g 1 + f 2 * g 2 + f 3 * g 3 + f 4 * g 4 +
        f 5 * g 5 + f 6 * g 6 + f 7 * g 7 := by
  have e : List.range 32 = List.range 8 ++ (List.range 24).map (8 + ·) := rfl
  have zz : ∀ (l : List Nat) (a : Nat), (∀ j ∈ l, 8 ≤ j ∧ j < 32) →
      l.foldl (fun a j => a + f j * g j) a = a := by
    intro l
    induction l with
    | nil => intro a _; rfl
    | cons x r ih =>
      intro a h
      have hx := h x (List.mem_cons_self ..)
      rw [List.foldl_cons, z x hx.1 hx.2, Nat.zero_mul, Nat.add_zero]
      exact ih a fun j hj => h j (List.mem_cons_of_mem _ hj)
  rw [e, List.foldl_append, zz _ _ (by intro j hj; simp at hj; omega)]
  rfl

theorem mod_step (d k : Nat) : d % 2 ^ (k + 64) = d % 2 ^ k + 2 ^ k * (d / 2 ^ k % 2 ^ 64) := by
  rw [Nat.pow_add, Nat.mod_mul]

set_option exponentiation.threshold 2000 in
theorem words_of (a0 a1 a2 a3 a4 a5 d : Nat) (h0 : a0 = d % 2 ^ 64) (h1 : a1 = d / 2 ^ 64 % 2 ^ 64)
    (h2 : a2 = d / 2 ^ 128 % 2 ^ 64) (h3 : a3 = d / 2 ^ 192 % 2 ^ 64) (h4 : a4 = d / 2 ^ 256 % 2 ^ 64)
    (h5 : a5 = d / 2 ^ 320 % 2 ^ 64) :
    d % 2 ^ 384 = a0 + 2 ^ 64 * a1 + 2 ^ 128 * a2 + 2 ^ 192 * a3 + 2 ^ 256 * a4 + 2 ^ 320 * a5 ∧ d % 2 ^ 384 < 2 ^ 384 := by
  have e1 := mod_step d 64
  have e2 := mod_step d 128
  have e3 := mod_step d 192
  have e4 := mod_step d 256
  have e5 := mod_step d 320
  simp only [Nat.reduceAdd] at e1 e2 e3 e4 e5
  rw [← h1] at e1
  rw [← h2, e1] at e2
  rw [← h3, e2] at e3
  rw [← h4, e3] at e4
  rw [← h5, e4, ← h0] at e5
  exact ⟨e5, Nat.mod_lt _ (Nat.two_pow_pos 384)⟩

set_option exponentiation.threshold 2000 in
theorem args_of (a0 a1 a2 a3 a4 a5 d x : Nat) (hd : d = a0 + 2 ^ 64 * a1 + 2 ^ 128 * a2 + 2 ^ 192 * a3 + 2 ^ 256 * a4 + 2 ^ 320 * a5)
    (hl : d < 2 ^ 384) (hx : x = 0 + 0x500000 * 2 ^ (64 * 0) + 5 * 2 ^ (64 * 1) + a0 * 2 ^ (64 * 2) + a1 * 2 ^ (64 * 3) + a2 * 2 ^ (64 * 4) +
      a3 * 2 ^ (64 * 5) + a4 * 2 ^ (64 * 6) + a5 * 2 ^ (64 * 7)) :
    pfld x 0 8 = 0x500000 ∧ pfld x 8 2 = 5 ∧ pfld x 0x10 48 = d := by
  have e : x = 0x500000 + 5 * 2 ^ 64 + 2 ^ 128 * d := by
    simp only [Nat.reduceMul, Nat.reducePow] at *; omega
  clear hx hd
  simp only [pfld]
  simp only [Nat.reducePow] at *
  refine ⟨?_, ?_, ?_⟩ <;> omega

def mailbox : State := proposing (digestOf theBlob)

theorem box_word (d : Nat) : (proposing d).get (Reg.KPR_MB_DATA_DATA 1 0) = 0x500000 ∧
    (proposing d).get (Reg.KPR_MB_DATA_DATA 1 1) = 5 ∧ (proposing d).get (Reg.KPR_MB_DATA_DATA 1 2) = d % 2 ^ 64 ∧
    (proposing d).get (Reg.KPR_MB_DATA_DATA 1 3) = d / 2 ^ 64 % 2 ^ 64 ∧
    (proposing d).get (Reg.KPR_MB_DATA_DATA 1 4) = d / 2 ^ 128 % 2 ^ 64 ∧
    (proposing d).get (Reg.KPR_MB_DATA_DATA 1 5) = d / 2 ^ 192 % 2 ^ 64 ∧
    (proposing d).get (Reg.KPR_MB_DATA_DATA 1 6) = d / 2 ^ 256 % 2 ^ 64 ∧
    (proposing d).get (Reg.KPR_MB_DATA_DATA 1 7) = d / 2 ^ 320 % 2 ^ 64 := by
  simp only [box_get]
  generalize (at_ 0x500000 theBlob (nonce w1)).regs = r
  refine ⟨?_, ?_, ?_, ?_, ?_, ?_, ?_, ?_⟩ <;> simp only [boxRegs, Tab.get] <;> rfl

theorem args_hold (s : State) (d : Nat) (w : s.get (Reg.KPR_MB_DATA_DATA 1 0) = 0x500000 ∧
    s.get (Reg.KPR_MB_DATA_DATA 1 1) = 5 ∧ s.get (Reg.KPR_MB_DATA_DATA 1 2) = d % 2 ^ 64 ∧
    s.get (Reg.KPR_MB_DATA_DATA 1 3) = d / 2 ^ 64 % 2 ^ 64 ∧
    s.get (Reg.KPR_MB_DATA_DATA 1 4) = d / 2 ^ 128 % 2 ^ 64 ∧
    s.get (Reg.KPR_MB_DATA_DATA 1 5) = d / 2 ^ 192 % 2 ^ 64 ∧
    s.get (Reg.KPR_MB_DATA_DATA 1 6) = d / 2 ^ 256 % 2 ^ 64 ∧
    s.get (Reg.KPR_MB_DATA_DATA 1 7) = d / 2 ^ 320 % 2 ^ 64)
    (z : ∀ j, 8 ≤ j → j < 32 → s.get (Reg.KPR_MB_DATA_DATA 1 j) = 0) :
    s.mbArg 1 0 8 = 0x500000 ∧ s.mbArg 1 8 2 = 5 ∧ s.mbArg 1 0x10 48 = d % 2 ^ 384 := by
  obtain ⟨g0, g1, g2, g3, g4, g5, g6, g7⟩ := w
  have w := words_of _ _ _ _ _ _ d g2 g3 g4 g5 g6 g7
  refine args_of _ _ _ _ _ _ _ (s.mbData 1) w.1 w.2 ?_
  rw [State.mbData, foldl_32 (fun j => s.get (Reg.KPR_MB_DATA_DATA 1 j)) (fun j => 2 ^ (64 * j)) z, g0, g1]

theorem mailbox_args : mailbox.mbArg 1 0 8 = 0x500000 ∧ mailbox.mbArg 1 8 2 = 5 ∧
    mailbox.mbArg 1 0x10 48 = digestOf theBlob % 2 ^ 384 := args_hold _ _ (box_word _) (box_zero _)

def signerRegs (h : Nat) (r : Tab Nat) : Tab Nat :=
  (1112113152, h % 2 ^ 64) :: (1112113664, h / 2 ^ 64 % 2 ^ 64) :: (1112114176, h / 2 ^ 128 % 2 ^ 64) ::
  (1112114688, h / 2 ^ 192 % 2 ^ 64) :: (1112115200, h / 2 ^ 256 % 2 ^ 64) :: (1112115712, h / 2 ^ 320 % 2 ^ 64) :: r

theorem wit_KeeperCommands_1 : ∃ (s : State) (mb : BitVec 1) (n e : Nat) (bs : List Byte) (cls gen : Nat)
    (l : List (Nat × Nat × Nat × Nat)), s.domLive 2 = true ∧ s.keeper.waiting = [] ∧
    s.on (Reg.KPR_MB_STATUS_BUSY mb.toNat) = false ∧ s.keeper.applying = none ∧ s.eng ≠ engAlarmed ∧
    s.on Reg.KPR_STATE_LOCKOUT = false ∧ s.prop mb.toNat = none ∧
    Tab.get none s.keeper.nonces mb.toNat = some (n, e) ∧ s.gtc ≤ e ∧
    s.fetchBlob (s.mbArg mb.toNat 8 2) (s.mbArg mb.toNat 0 8 % 2 ^ 52) = some bs ∧
    parseBlob (leNat bs) = some (cls, gen, l) ∧ s.mbArg mb.toNat 16 48 = digestOf bs % 2 ^ 384 ∧ s.keeper.fails = [] := by
  have f : mailbox.fetchBlob 5 (0x500000 % 2 ^ 52) = some theBlob := by decide +kernel
  have p : (parseBlob (leNat theBlob)).isSome = true := by decide +kernel
  obtain ⟨⟨cls, gen, l⟩, p⟩ := some_ex p
  have a : (1 : BitVec 1).toNat = 1 := rfl
  have w : mailbox.fetchBlob (mailbox.mbArg (1 : BitVec 1).toNat 8 2) (mailbox.mbArg (1 : BitVec 1).toNat 0 8 % 2 ^ 52) =
      some theBlob := by rw [a, mailbox_args.1, mailbox_args.2.1]; exact f
  refine ⟨mailbox, 1, 8, 2000000, theBlob, cls, gen, l, ?_, ?_, ?_, ?_, ?_, ?_, ?_, ?_, ?_, w, p, mailbox_args.2.2, ?_⟩ <;>
    decide +kernel

def keyBlob : List Byte := kb 2 11
def keyHash : Nat := digestOf (leBytes 64 (pfld (leNat keyBlob) 0x98 64)) % 2 ^ 384

/-- the blob's signer in signer slot 0; partition 2 sealed, with room for one model key -/
def loading : State :=
  let s := at_ 0x500000 keyBlob wp
  let s := putAll s [(Reg.OBJ_PART_CFG_SEALED 2, 1), (Reg.KPR_SEAL_POLICY_MODEL_EN 2, 1),
    (Reg.KPR_SEAL_POLICY_SIGNERS 2, 1), (Reg.KPR_SEAL_POLICY_MODEL_MAX 2, 1)]
  { s with regs := signerRegs keyHash s.regs }

theorem signer_words (h : Nat) (r : Tab Nat) : (List.range 6).all (fun j =>
    Tab.get 0 (signerRegs h r) (1112113152 + 512 * j) == h / 2 ^ (64 * j) % 2 ^ 64) = true := by
  simp [List.range, List.range.loop, signerRegs, Tab.get]

theorem signer_key (j : Nat) : (Reg.KPR_SIGNER_HASH 0 j).key = 1112113152 + 512 * j := by
  simp [Fld.key, Reg.KPR_SIGNER]; omega

theorem loading_ok (hz : keyHash ≠ 0) : loading.keyBlobOk (leNat keyBlob) = true := by
  have e : ∀ j, loading.get (Reg.KPR_SIGNER_HASH 0 j) = Tab.get 0 (signerRegs keyHash (putAll (at_ 0x500000 keyBlob wp)
      [(Reg.OBJ_PART_CFG_SEALED 2, 1), (Reg.KPR_SEAL_POLICY_MODEL_EN 2, 1), (Reg.KPR_SEAL_POLICY_SIGNERS 2, 1),
       (Reg.KPR_SEAL_POLICY_MODEL_MAX 2, 1)]).regs) (1112113152 + 512 * j) := by
    intro j; rw [← signer_key]; rfl
  have p : (pfld (leNat keyBlob) 0 4 == 0x594B444D && pfld (leNat keyBlob) 0x10 8 == loading.fuses.serial &&
      decide (pfld (leNat keyBlob) 4 1 < 16) && loading.partValid (pfld (leNat keyBlob) 4 1) &&
      loading.sealed (pfld (leNat keyBlob) 4 1) &&
      loading.on (Reg.KPR_SEAL_POLICY_MODEL_EN (pfld (leNat keyBlob) 4 1))) = true := by decide +kernel
  have b : bitAt (loading.get (Reg.KPR_SEAL_POLICY_SIGNERS (pfld (leNat keyBlob) 4 1))) 0 = true := by decide +kernel
  have w : (List.range 6).all (fun j => loading.get (Reg.KPR_SIGNER_HASH 0 j) == keyHash / 2 ^ (64 * j) % 2 ^ 64) = true := by
    simp only [e]; exact signer_words _ _
  unfold State.keyBlobOk
  have h : (keyHash != 0) = true := bne_iff_ne.mpr hz
  dsimp only
  rw [p, Bool.true_and, List.any_eq_true]
  exact ⟨0, by decide, by
    rw [b]
    show (true && keyHash != 0 && _) = true
    rw [h]; exact w⟩

theorem wit_KeeperCommands_2 (hz : keyHash ≠ 0) : ∃ (s : State) (mb : BitVec 1) (bs : List Byte), s.domLive 2 = true ∧
    s.keeper.waiting = [] ∧ s.on (Reg.KPR_MB_STATUS_BUSY mb.toNat) = false ∧ s.keeper.applying = none ∧
    s.eng ≠ engAlarmed ∧ s.ownRead (s.mbArg mb.toNat 8 2) (s.mbArg mb.toNat 0 8 % 2 ^ 52) 280 = some bs ∧
    s.keyBlobOk (leNat bs) = true ∧
    (∀ e ∈ s.keeper.slots, ¬(e.2.1 = pfld (leNat bs) 4 1 ∧ e.2.2 = pfld (leNat bs) 8 4)) ∧
    s.modelKeyCount (pfld (leNat bs) 4 1) < s.get (Reg.KPR_SEAL_POLICY_MODEL_MAX (pfld (leNat bs) 4 1)) ∧
    ∃ i, i < 256 ∧ ∀ e ∈ s.keeper.slots, e.1 ≠ i :=
  by refine ⟨loading, 0, keyBlob, ?_, ?_, ?_, ?_, ?_, ?_, loading_ok hz, ?_, ?_, 255, ?_, ?_⟩ <;> decide +kernel

end W47

namespace W48

def dbg (s : State) : State := putAll s [(Reg.KPR_DEBUG_DBG_EN, 1), (Reg.KPR_DEBUG_SCOPE, 4)]
def hal (c : Nat) (s : State) : State := upT (upT s 0 fun x => { x with halted := true, haltCause := c }) 1 fun x => { x with halted := true, haltCause := c, task := none }
def bp (s : State) : State := putAll (dbg s) [(Reg.DBG_BP_EN 1, 1), (Reg.DBG_BP_TILE 1, 0), (Reg.DBG_BP_PC 1, 0x40)]
def pol (v c d : Nat) (s : State) : State := putAll { s with queues := [] } [(Reg.KPR_ALARM_POLICY_VGLITCH, v),
    (Reg.KPR_ALARM_POLICY_CGLITCH, c), (Reg.KPR_ALARM_POLICY_DEBUG_ATTACK, d)]
def jt (l : List Nat) (s : State) : State := { s with keeper := { s.keeper with jtag := l } }
def sts : List State := [w0, dbg w0, hal 1 (dbg w0), hal 3 (dbg w0), putAll (hal 1 (dbg w0)) [(Reg.DBG_ADDR_SPACE, 1),
    (Reg.DBG_ADDR_OFFSET, 32), (Reg.DBG_DATA_DATA, 0x123456789ABCDEF0)], putAll (hal 1 (dbg w0)) [(Reg.DBG_ADDR_OFFSET, 0x6000)],
  bp w0, upT (bp w0) 0 (fun x => { x with bpSkip := true }), (dbg w0).put Reg.KPR_DEBUG_UNTIL_GTC 5,
      ((dbg w0).put Reg.KPR_DEBUG_JTAG_EN 1).put Reg.KPR_DEBUG_UNTIL_GTC 1000001,
      ((w0).put Reg.KPR_DEBUG_JTAG_EN 1).put Reg.KPR_DEBUG_UNTIL_GTC 1000000, pol 2 2 1 w0, { pol 2 2 1 w0 with doms := [] } ,
      { pol 2 2 1 w0 with doms := openDoms.take 14 }, jt [999999, 999998, 5] (pol 2 2 1 w0), jt [999999,
      999998] (pol 2 2 1 w0), jt [999999, 999998, 5] (putAll (pol 1 1 1 w0) [(Reg.KPR_STATE_LEVEL, 2)]),
      { pol 2 2 1 w0 with gtc := 400000000000 }, (dbg w0).put Reg.DBG_STATUS_BUSY 1]

/-- Obligations.DebugAndAlarms: states and operands that meet its hypotheses, clause by clause. -/
theorem wit_DebugAndAlarms :
    (∃ (s : State), s.domLive 1 = true ∧ (s.dbgOn = false ∨ s.get Reg.DBG_STATUS_BUSY = 1)) ∧
    (∃ (s : State) (tile : BitVec 6), s.domLive 1 = true ∧ s.dbgOn = true ∧ s.get Reg.DBG_STATUS_BUSY = 0 ∧ s.inScope
    tile.toNat = false) ∧
    (∃ (s : State) (tile : BitVec 6), s.domLive 1 = true ∧ s.dbgOn = true ∧ s.get Reg.DBG_STATUS_BUSY = 0 ∧ s.inScope
    tile.toNat = true ∧ (s.tile tile.toNat).halted = false) ∧
    (∃ (s : State) (tile : BitVec 6), s.domLive 1 = true ∧ s.dbgOn = true ∧ s.get Reg.DBG_STATUS_BUSY = 0 ∧ s.inScope
    tile.toNat = true ∧ (s.tile tile.toNat).halted = true ∧ (s.tile tile.toNat).task ≠ none) ∧
    (∃ (s : State) (tile : BitVec 6), s.domLive 1 = true ∧ s.dbgOn = true ∧ s.get Reg.DBG_STATUS_BUSY = 0 ∧ s.inScope
    tile.toNat = true ∧ (s.tile tile.toNat).halted = true ∧ s.on Reg.DBG_ADDR_SPACE = true) ∧
    (∃ (s : State) (tile : BitVec 6), s.domLive 1 = true ∧ s.dbgOn = true ∧ s.get Reg.DBG_STATUS_BUSY = 0 ∧ s.inScope
    tile.toNat = true ∧ (s.tile tile.toNat).halted = true ∧ s.on Reg.DBG_ADDR_SPACE = false ∧ 196608 ≤ 8 * s.get
    Reg.DBG_ADDR_OFFSET) ∧
    (∃ (s : State) (tile : BitVec 6), (s.tile tile.toNat).task ≠ none ∧ (s.tile tile.toNat).core = CoreSt.running ∧ (s.tile
    tile.toNat).halted = false ∧ s.breaks tile.toNat = true) ∧
    (∃ (s : State) (tile : BitVec 6), s.breaks tile.toNat = false) ∧
    (∃ (s : State), s.domLive 2 = true ∧ (s.get Reg.KPR_DEBUG_UNTIL_GTC = 0 ∨ s.gtc < s.get Reg.KPR_DEBUG_UNTIL_GTC)) ∧
    (∃ (s : State), s.domLive 2 = true ∧ 0 < s.get Reg.KPR_DEBUG_UNTIL_GTC ∧ s.get Reg.KPR_DEBUG_UNTIL_GTC ≤ s.gtc ∧ ∀ (k :
    Nat), k < 64 → (s.tile k).halted = false) ∧
    (∃ (s : State), s.domLive 2 = true ∧ s.gtc < max s.keeper.kfwAt (s.dom 2).since + 360000000000) ∧
    (∃ (s : State) (source : BitVec 2), s.domLive 2 = true ∧ source ≠ 3 ∧ s.alarmLevel aCglitch = 2 ∧ s.queues = [] ∧
    s.keeper.applying = none) ∧
    (∃ (s : State), s.domLive 2 = true ∧ s.get Reg.KPR_STATE_LEVEL ≤ 3 ∧ s.queues = [] ∧ s.stop = none ∧ s.eng ≠ engFlight ∧
    (∀ (d : Nat), d < 28 → s.domLive d = true ∨ (s.dom d).st = DomSt.closed) ∧ max s.keeper.kfwAt (s.dom 2).since +
    360000000000 ≤ s.gtc) ∧
    (∃ (s : State) (c : BitVec 4), s.domOpen (clDom c.toNat) = false) ∧
    (∃ (s : State) (c : BitVec 4), s.domOpen (clDom c.toNat) = true ∧ s.alarmLevel aVglitch = 2 ∧ s.queues = [] ∧
    s.keeper.applying = none) ∧
    (∃ (s : State), s.on Reg.KPR_DEBUG_JTAG_EN = true) ∧
    (∃ (s : State), s.on Reg.KPR_DEBUG_JTAG_EN = false ∧ s.keeper.jtag.length < 3) ∧
    (∃ (s : State), s.on Reg.KPR_DEBUG_JTAG_EN = false ∧ 3 ≤ s.keeper.jtag.length ∧ (∀ (t0 : Nat), t0 ∈ s.keeper.jtag → s.gtc
    < t0 + 100000000) ∧ s.alarmLevel aDebugAttack = 1) :=
  ⟨⟨(nth sts 16), by decide +kernel⟩,
    ⟨(nth sts 1), 0x3f, by decide +kernel⟩,
    ⟨(nth sts 4), 7, by decide +kernel⟩,
    ⟨(nth sts 3), 0, by decide +kernel⟩,
    ⟨(nth sts 4), 1, by decide +kernel⟩,
    ⟨(nth sts 5), 1, by decide +kernel⟩,
    ⟨(nth sts 6), 0, by decide +kernel⟩,
    ⟨(nth sts 0), 0x3f, by decide +kernel⟩,
    ⟨(nth sts 11), by decide +kernel⟩,
    ⟨(nth sts 8), by decide +kernel⟩,
    ⟨(nth sts 4), by decide +kernel⟩,
    ⟨(nth sts 13), 2, by decide +kernel⟩,
    ⟨(nth sts 17), by decide +kernel⟩,
    ⟨(nth sts 12), 0xf, by decide +kernel⟩,
    ⟨(nth sts 15), 0xf, by decide +kernel⟩,
    ⟨(nth sts 9), by decide +kernel⟩,
    ⟨(nth sts 5), by decide +kernel⟩,
    ⟨(nth sts 16), by decide +kernel⟩⟩

end W48

namespace W49

def stopc (k i : Nat) (re : Bool) (st : Nat) (s : State) : State := putAll { s with stop := some ⟨k, i, re, false, false, 999000, false⟩ } [(Reg.PWR_STOP_STATUS_BUSY,
    1), (Reg.PWR_STOP_STATUS_STEP, st)]
def y (s : State) : State := { s with fuses := { s.fuses with package := 2 } }
def temps (v : Nat) (s : State) : State := { s with pins := { s.pins with temps := (List.range 18).map fun k => (k, v + k) } }
def dg (n : Nat) (s : State) : State := { s with pins := { s.pins with diodeGood := n } }
def db (n : Nat) (s : State) : State := { s with pins := { s.pins with diodeBad := n } }
def stz (s : State) (z : Nat) : State := { s with stop := s.stop.map fun x => { x with since := z } }
def std (b : Bool) (z : Nat) (s : State) : State := { s with stop := s.stop.map fun x => { x with since := z, drained := b } }
def cap0 : Capture := ⟨0, false, none, 0, none, false, false, false, false, []⟩
def fr : LFrame := ⟨.data, 5, 0, false, false, false, [.flit 1], none⟩
def rq1 : LinkReq := ⟨{ h0 with op := 0x50, dstDie := 20, hold := 2, ttl := 12 }, 0, 0, 0⟩
def o1 (s : State) : State := { s with link := { s.link with out := [rq1] } }
def sts : List State := [w0, putAll w0 [(Reg.KPR_STATE_LEVEL, 3), (Reg.ENG_STATE_STATE, 6)], w0.put Reg.KPR_STATE_LEVEL 3,
    w0.put Reg.PWR_STOP_STATUS_BUSY 1, w0.put Reg.PWR_SERVICE_STOPPED 0xFFFFFFFF,
    (w0.put Reg.PWR_SERVICE_STOPPED 2).setDom 13 { Dom.reset with st := .stoppage },
    (w0.put Reg.PWR_SERVICE_STOPPED 4).setDom 14 { Dom.reset with st := .stoppage }, w0.put Reg.ENG_STATE_STATE 3,
    w0.put Reg.ENG_STATE_STATE 5, y w0, w0.put Reg.MSH_EPOCH_STATE 1,
  stopc 4 2 false 6 ((y w0).put (Reg.LNK_PORT_STATUS_STATE 2) 8),
      stopc 5 0 false 6 { w0 with island := { w0.island with capture := none } },
      stopc 1 2 true 3 (w0.setDom 14 { Dom.reset with st := .scrub, attempt := 1 }),
      stopc 1 2 true 4 (putAll (w0.setDom 14 { Dom.reset with st := .scrub, attempt := 1 }) [(Reg.PWR_SERVICE_STOPPED, 4)]),
  temps 400 w0, db 99 (temps 400 w0),
      stz { (stopc 5 0 false 6 w0) with island := { w0.island with capture := some cap0 } } 999999,
      stz { (stopc 5 0 false 6 w0) with island := { w0.island with capture := some cap0 } } 1,
      std true 900 (stopc 4 2 false 6 ((y w0).put (Reg.LNK_PORT_STATUS_STATE 2) 8)),
      std true 999999 (stopc 4 2 false 6 ((y w0).put (Reg.LNK_PORT_STATUS_STATE 2) 8)),
      o1 (std false 900 (stopc 4 2 false 6 ((y w0).put (Reg.LNK_PORT_STATUS_STATE 2) 8))),
      (o1 (std false 900 (stopc 4 2 false 6 ((y w0).put (Reg.LNK_PORT_STATUS_STATE 2) 8)))).setPort 2 { Port.reset with replay := [fr] },
      stz (stopc 1 2 true 3 (w0.setDom 14 { Dom.reset with st := .scrub, attempt := 1 })) 900,
      stz (stopc 1 2 true 3 (w0.setDom 14 { Dom.reset with st := .scrub, attempt := 1 })) 999999,
      { w0 with pins := { w0.pins with diodeAt := 999900, tempAt := 999900 } },
      { w0 with pins := { w0.pins with clears := [1,2] } }, dg 99 (temps 400 (w0.put Reg.PWR_PIN_STATUS_DIODE 1)),
      dg 98 (temps 400 w0), w0.put Reg.PWR_PIN_STATUS_MGMT_STUCK 1, temps 500 (w0.put Reg.PWR_THERM_STATUS_T_PEAK 900),
  { w0 with doms := openDoms.take 10 }, w0.put Reg.ENG_STATE_STATE 6, w0.put Reg.ENG_STATE_STATE 4,
      { w0 with flight := { w0.flight with heatWait := true, running := true, todo := [12, 13], lastDom := none } }.put Reg.PWR_FLIGHT_STATUS_PHASE 2,
      temps 900 { w0 with flight := { w0.flight with heatWait := true, running := true, todo := [12, 13], lastDom := none } }]
def cmds : Array Nat := (Array.range 40).map fun k => 0xA5C30000 + 0x100 * (1 + k % 2) + 0x10 * (1 + (k / 2) % 5) + k / 10

/-- Obligations.StoppagesPinsHeat: states and operands that meet its hypotheses, clause by clause. -/
theorem wit_StoppagesPinsHeat :
    (∃ (s : State) (src : Source) (v : BitVec 32), s.srcReaches src = true ∧ bits v.toNat 31 16 ≠ 42435) ∧
    (∃ (s : State) (src : Source) (v : BitVec 32), s.srcReaches src = true ∧ bits v.toNat 31 16 = 42435 ∧ bits v.toNat 9 8 =
    1 ∧ s.on Reg.PWR_STOP_STATUS_BUSY = true) ∧
    (∃ (s : State) (src : Source) (v : BitVec 32) (r : Nat), s.srcReaches src = true ∧ bits v.toNat 31 16 = 42435 ∧ s.on
    Reg.PWR_STOP_STATUS_BUSY = false ∧ s.stop = none ∧ bits v.toNat 9 8 = 1 ∧ s.stopRefusal 1 (bits v.toNat 7 4) (bits
    v.toNat 3 0) = some r) ∧
    (∃ (s : State) (src : Source) (v : BitVec 32) (r : Nat), s.srcReaches src = true ∧ bits v.toNat 31 16 = 42435 ∧ s.on
    Reg.PWR_STOP_STATUS_BUSY = false ∧ s.stop = none ∧ bits v.toNat 9 8 = 2 ∧ s.stopRefusal 2 (bits v.toNat 7 4) (bits
    v.toNat 3 0) = some r) ∧
    (∃ (s : State) (src : Source) (v : BitVec 32), s.srcReaches src = true ∧ bits v.toNat 31 16 = 42435 ∧ s.on
    Reg.PWR_STOP_STATUS_BUSY = false ∧ s.stop = none ∧ bits v.toNat 9 8 = 1 ∧ bits v.toNat 7 4 = 1 ∧ s.stopRefusal 1 1 (bits
    v.toNat 3 0) = none ∧ s.domOpen (clDom (bits v.toNat 3 0)) = true ∧ (s.gateOf (clDom (bits v.toNat 3 0))).at_ ≠ some
    s.gtc) ∧
    (∃ (s : State) (src : Source) (v : BitVec 32), s.srcReaches src = true ∧ bits v.toNat 31 16 = 42435 ∧ s.on
    Reg.PWR_STOP_STATUS_BUSY = false ∧ s.stop = none ∧ bits v.toNat 9 8 = 2 ∧ bits v.toNat 7 4 = 1 ∧ s.stopRefusal 2 1 (bits
    v.toNat 3 0) = none) ∧
    (∃ (s : State) (x : StopCmd), s.stop = some x ∧ x.reset = false ∧ x.kind = 4 ∧ x.index < 6 ∧ x.reopen = false ∧ s.get
    Reg.PWR_STOP_STATUS_STEP = 6 ∧ s.get Reg.MSH_EPOCH_STATE = 0 ∧ s.time (copyLink x.index) - x.since < if x.drained = true
    then 8 * atLeast1 (s.get Reg.LNK_ACK_TIMEOUT_TICKS) else 4 * atLeast1 (s.get Reg.LNK_RESEND_T_TICKS)) ∧
    (∃ (s : State) (x : StopCmd) (r : LinkReq), s.stop = some x ∧ x.reset = false ∧ x.kind = 4 ∧ x.index < 6 ∧ x.reopen =
    false ∧ s.get Reg.PWR_STOP_STATUS_STEP = 6 ∧ s.get Reg.MSH_EPOCH_STATE = 0 ∧ x.drained = false ∧ 4 * atLeast1 (s.get
    Reg.LNK_RESEND_T_TICKS) ≤ s.time (copyLink x.index) - x.since ∧ s.link.out = [r] ∧ r.h.hold.toNat = x.index) ∧
    (∃ (s : State) (x : StopCmd), s.stop = some x ∧ x.reset = false ∧ x.kind = 4 ∧ x.index < 6 ∧ x.reopen = false ∧ s.get
    Reg.PWR_STOP_STATUS_STEP = 6 ∧ s.get Reg.MSH_EPOCH_STATE = 0 ∧ x.drained = true ∧ 8 * atLeast1 (s.get
    Reg.LNK_ACK_TIMEOUT_TICKS) ≤ s.time (copyLink x.index) - x.since) ∧
    (∃ (s : State) (x : StopCmd), s.stop = some x ∧ x.reset = false ∧ x.kind = 5 ∧ x.reopen = false ∧ s.island.capture ≠ none
    ∧ s.gtc < x.since + s.get Reg.WAT_FRAME_WINDOW_TICKS) ∧
    (∃ (s : State) (x : StopCmd), s.stop = some x ∧ x.reset = false ∧ x.kind = 5 ∧ x.reopen = false ∧ (s.island.capture =
    none ∨ x.since + s.get Reg.WAT_FRAME_WINDOW_TICKS ≤ s.gtc)) ∧
    (∃ (s : State) (x : StopCmd), s.stop = some x ∧ x.reset = false ∧ x.kind = 1 ∧ x.index < 16 ∧ x.reopen = true ∧ s.get
    Reg.PWR_STOP_STATUS_STEP = 3 ∧ x.since + s.testLimit x < s.gtc) ∧
    (∃ (s : State) (x : StopCmd), s.stop = some x ∧ x.reset = false ∧ x.kind = 1 ∧ x.index < 16 ∧ x.reopen = true ∧ s.get
    Reg.PWR_STOP_STATUS_STEP = 3 ∧ s.gtc ≤ x.since + s.testLimit x) ∧
    (∃ (s : State) (x : StopCmd), s.stop = some x ∧ x.reset = false ∧ x.kind = 1 ∧ x.index < 16 ∧ x.reopen = true ∧ s.get
    Reg.PWR_STOP_STATUS_STEP = 3 ∧ (s.dom (clDom x.index)).attempt < 2) ∧
    (∃ (s : State) (x : StopCmd), s.stop = some x ∧ x.reset = false ∧ x.kind = 1 ∧ x.index < 16 ∧ x.reopen = true ∧ s.get
    Reg.PWR_STOP_STATUS_STEP = 4) ∧
    (∃ (s : State), s.gtc < s.pins.diodeAt + 1000) ∧
    (∃ (s : State) (v10 : BitVec 16), s.pins.diodeAt + 1000 ≤ s.gtc ∧ 9000 < v10.toNat) ∧
    (∃ (s : State) (v10 : BitVec 16) (v100 : BitVec 16), s.pins.diodeAt + 1000 ≤ s.gtc ∧ v10.toNat ≤ 9000 ∧ v100.toNat < 2000) ∧
    (∃ (s : State) (v10 : BitVec 16) (v100 : BitVec 16) (reading : BitVec 10) (t0 : Nat), s.pins.diodeAt + 1000 ≤ s.gtc ∧
    v10.toNat ≤ 9000 ∧ 2000 ≤ v100.toNat ∧ s.hottest = some t0 ∧ reading.toNat ≤ t0 + 80 ∧ t0 ≤ reading.toNat + 80 ∧
    reading.toNat < tripTemp ∧ s.pins.diodeGood < 99) ∧
    (∃ (s : State) (v10 : BitVec 16) (v100 : BitVec 16) (reading : BitVec 10) (t0 : Nat), s.pins.diodeAt + 1000 ≤ s.gtc ∧
    v10.toNat ≤ 9000 ∧ 2000 ≤ v100.toNat ∧ s.hottest = some t0 ∧ reading.toNat ≤ t0 + 80 ∧ t0 ≤ reading.toNat + 80 ∧
    reading.toNat < tripTemp ∧ s.pins.diodeGood = 99) ∧
    (∃ (s : State) (v10 : BitVec 16) (v100 : BitVec 16) (reading : BitVec 10) (t0 : Nat), s.pins.diodeAt + 1000 ≤ s.gtc ∧
    v10.toNat ≤ 9000 ∧ 2000 ≤ v100.toNat ∧ s.hottest = some t0 ∧ t0 + 80 < reading.toNat ∧ s.pins.diodeBad = 99) ∧
    (∃ (s : State), s.on Reg.PWR_PIN_STATUS_MGMT_STUCK = false ∧ s.pins.clears = []) ∧
    (∃ (s : State), s.on Reg.PWR_PIN_STATUS_MGMT_STUCK = false ∧ s.pins.clears.length = 2 ∧ ∀ (c : Nat), c ∈ s.pins.clears →
    s.gtc < c + 100000000) ∧
    (∃ (s : State), s.on Reg.PWR_PIN_STATUS_MGMT_STUCK = true) ∧
    (∃ (s : State) (readings : List (BitVec 10)), s.on Reg.PWR_THERM_STATUS_THROTTLE = false ∧ s.get Reg.PWR_PIN_STATUS_DIODE
    = 0 ∧ s.get Reg.PWR_THERM_STATUS_T_PEAK < 1024 ∧ s.temp 17 < min tripTemp s.thermLimit ∧ (∀ (k : Nat), k ∈ s.liveSensors
    → ∃ r, readings[k]? = some r ∧ r.toNat < min tripTemp s.thermLimit) ∧ s.pins.tempAt + 1000 ≤ s.gtc) ∧
    (∃ (s : State), s.gtc < s.pins.tempAt + 1000) ∧
    (∃ (s : State) (sensor : BitVec 5), ¬sensor.toNat ∈ s.liveSensors) ∧
    (∃ (s : State) (sensor : BitVec 5), sensor.toNat ∈ s.liveSensors ∧ s.eng ≠ engStandby) ∧
    (∃ (s : State) (sensor : BitVec 5), sensor.toNat ∈ s.liveSensors ∧ s.eng = engStandby) ∧
    (∃ (s : State), s.flight.heatWait = true ∧ s.tooHot = true) ∧
    (∃ (s : State) (d : Nat) (r : List Nat), s.flight.heatWait = true ∧ s.tooHot = false ∧ s.flight.running = true ∧ s.get
    Reg.PWR_FLIGHT_STATUS_PHASE = 2 ∧ s.flight.lastDom = none ∧ s.flight.todo = d :: r) :=
  ⟨⟨(nth sts 16), Source.mgmt, 0xffef, by decide +kernel⟩,
    ⟨(nth sts 21), Source.mgmt, 0xa5c30133, by decide +kernel⟩,
    ⟨(nth sts 0), Source.mgmt, 0xa5c30121, 8, by decide +kernel⟩,
    ⟨(nth sts 35), Source.mgmt, 0xa5c30211, 4, by decide +kernel⟩,
    ⟨(nth sts 6), Source.mgmt, 0xa5c30113, by decide +kernel⟩,
    ⟨(nth sts 4), Source.host, 0xa5c30213, by decide +kernel⟩,
    ⟨(nth sts 20), ⟨4, 2, false, false, false, 999999, true⟩, by decide +kernel⟩,
    ⟨(nth sts 22), ⟨4, 2, false, false, false, 900, false⟩, ⟨⟨0, 0, false, 1, 2, 0, 5, 0, false, false, 0, 0x50, 0,
    false, 0, 1, false, 0, 0, 0, 0, 0, 0x14, 0, 0xc, false, 0, 0, 0, 0, 0, 0, 0, 2, 0⟩, 0, 0, 0⟩, by decide +kernel⟩,
    ⟨(nth sts 19), ⟨4, 2, false, false, false, 900, true⟩, by decide +kernel⟩,
    ⟨(nth sts 18), ⟨5, 0, false, false, false, 1, false⟩, by decide +kernel⟩,
    ⟨(nth sts 12), ⟨5, 0, false, false, false, 999000, false⟩, by decide +kernel⟩,
    ⟨(nth sts 23), ⟨1, 2, true, false, false, 900, false⟩, by decide +kernel⟩,
    ⟨(nth sts 13), ⟨1, 2, true, false, false, 999000, false⟩, by decide +kernel⟩,
    ⟨(nth sts 23), ⟨1, 2, true, false, false, 900, false⟩, by decide +kernel⟩,
    ⟨(nth sts 14), ⟨1, 2, true, false, false, 999000, false⟩, by decide +kernel⟩,
    ⟨(nth sts 25), by decide +kernel⟩,
    ⟨(nth sts 3), 0xffe3, by decide +kernel⟩,
    ⟨(nth sts 23), 0x2328, 0x7cf, by decide +kernel⟩,
    ⟨(nth sts 30), 0x212, 0xfcf3, 0x232, 516, by decide +kernel⟩,
    ⟨(nth sts 27), 0x151, 0x9cfc, 0x190, 416, by decide +kernel⟩,
    ⟨(nth sts 16), 0x140, 0xde90, 0x329, 416, by decide +kernel⟩,
    ⟨(nth sts 33), by decide +kernel⟩,
    ⟨(nth sts 26), by decide +kernel⟩,
    ⟨(nth sts 29), by decide +kernel⟩,
    ⟨(nth sts 0), [0x27, 0x2e, 0x35, 0x3c, 0x43, 0x4a, 0x29, 0x30, 0x37, 0x3e, 0x45, 0x4c, 0x2b, 0x32, 0x39, 0x40,
    0x47], by decide +kernel⟩,
    ⟨(nth sts 25), by decide +kernel⟩,
    ⟨(nth sts 26), 0x1f, by decide +kernel⟩,
    ⟨(nth sts 10), 0x10, by decide +kernel⟩,
    ⟨(nth sts 33), 0x10, by decide +kernel⟩,
    ⟨(nth sts 35), by decide +kernel⟩,
    ⟨(nth sts 34), 12, [13], by decide +kernel⟩⟩

end W49

namespace W50

def sts : List State := [w0, { w0 with doms := openDoms.take 5 }, { w0 with doms := [] },
    w0.put Reg.PWR_PIN_STATUS_MGMT_STUCK 1, w0.put Reg.KPR_DEBUG_JTAG_EN 1,
    { w0 with keeper := { w0.keeper with jtag := [5] } }, { w0 with pins := { w0.pins with address := some 3 } },
    w0.put Reg.ENG_ID_ID 0x2616]

/-- Obligations.RegistersManagementJtag: states and operands that meet its hypotheses, clause by clause. -/
theorem wit_RegistersManagementJtag :
    (∃ (s : State) (v : BitVec 64), s.domLive 5 = true ∧ s.domLive 1 = true ∧ v.getLsbD 30 = true) ∧
    (∃ (s : State), s.domLive 5 = true ∧ s.domLive 1 = true ∧ s.domLive 2 = true) ∧
    (∃ (s : State), s.domLive 5 = false) ∧
    (∃ (s : State) (write : Bool) (o : BitVec 21) (n : BitVec 4), s.domLive 3 = true ∧ s.domLive 5 = true ∧ acceptsDoorbell
    write o.toNat n.toNat = true) ∧
    (∃ (s : State) (write : Bool) (o : BitVec 21) (n : BitVec 4), s.domLive 3 = true ∧ s.domLive 5 = true ∧ acceptsDoorbell
    write o.toNat n.toNat = false) ∧
    (∃ (s : State) (o : BitVec 32), s.on Reg.PWR_PIN_STATUS_MGMT_STUCK = false ∧ mgmtReach o.toNat = true) ∧
    (∃ (s : State) (len : BitVec 8), s.on Reg.PWR_PIN_STATUS_MGMT_STUCK = false ∧ len ≠ 5) ∧
    (∃ (s : State) (o : BitVec 32), s.on Reg.PWR_PIN_STATUS_MGMT_STUCK = false ∧ mgmtReach o.toNat = false) ∧
    (∃ (s : State), s.on Reg.PWR_PIN_STATUS_MGMT_STUCK = false ∧ s.domLive 1 = true ∧ s.get Reg.ENG_ID_ID = 9750) ∧
    (∃ (s : State), s.on Reg.PWR_PIN_STATUS_MGMT_STUCK = false ∧ s.domLive 1 = false) ∧
    (∃ (s : State) (b : BitVec 7), s.on Reg.PWR_PIN_STATUS_MGMT_STUCK = false ∧ s.pins.address = none ∧ b ≠ 58) ∧
    (∃ (s : State), s.on Reg.PWR_PIN_STATUS_MGMT_STUCK = true) ∧
    (∃ (s : State), s.on Reg.KPR_DEBUG_JTAG_EN = true) ∧
    (∃ (s : State), s.on Reg.KPR_DEBUG_JTAG_EN = false ∧ s.keeper.jtag = []) :=
  ⟨⟨(nth sts 7), 0x40000000, by decide +kernel⟩,
    ⟨(nth sts 4), by decide +kernel⟩,
    ⟨(nth sts 1), by decide +kernel⟩,
    ⟨(nth sts 7), false, 0x70000, 0xf, by decide +kernel⟩,
    ⟨(nth sts 7), false, 0x70054, 0xf, by decide +kernel⟩,
    ⟨(nth sts 4), 0x1070150, by decide +kernel⟩,
    ⟨(nth sts 2), 0xd, by decide +kernel⟩,
    ⟨(nth sts 2), 0x9abcdef0, by decide +kernel⟩,
    ⟨(nth sts 0), by decide +kernel⟩,
    ⟨(nth sts 2), by decide +kernel⟩,
    ⟨(nth sts 7), 0x7f, by decide +kernel⟩,
    ⟨(nth sts 3), by decide +kernel⟩,
    ⟨(nth sts 4), by decide +kernel⟩,
    ⟨(nth sts 6), by decide +kernel⟩⟩

end W50

namespace W51

def sts : List State := [w0]

/-- Obligations.StepRunsTheFrontCommand: states and operands that meet its hypotheses, clause by clause. -/
theorem wit_StepRunsTheFrontCommand :
    ∃ (s : State), s.pending = [] :=
  ⟨(nth sts 0), by decide +kernel⟩

end W51

namespace W52

def onRc : State := { w0 with onRc := true }
def steered : State := { w0 with gtc := 1023, copies := { w0.copies with stepBy := 3 } }

theorem wit_CountNeverGoesBack_1 : ∃ (c : Instr) (s t : State), c ≠ .coldReset ∧ exec c s = .next t := by
  obtain ⟨t, h⟩ := next_ex (o := exec .concentratorPass w0) (by decide +kernel)
  exact ⟨.concentratorPass, w0, t, nofun, h⟩

theorem wit_CountNeverGoesBack_2 : ∃ s t : State, s.pending = [] ∧ s.onRc = true ∧ step s = .next t := by
  obtain ⟨t, h⟩ := next_ex (o := step onRc) (by decide +kernel)
  exact ⟨onRc, t, by decide +kernel, by decide +kernel, h⟩

theorem wit_CountNeverGoesBack_3 : ∃ s t : State, s.pending = [] ∧ s.onRc = false ∧ s.copies.stepBy = 0 ∧
    s.get Reg.CLK_GTC_STATUS_STEER = 0 ∧
    s.copies.frac < 2 ^ 32 ∧ step s = .next t := by
  obtain ⟨t, h⟩ := next_ex (o := step w0) (by decide +kernel)
  refine ⟨w0, t, ?_, ?_, ?_, ?_, ?_, h⟩ <;> decide +kernel

theorem wit_CountNeverGoesBack_4 : ∃ s t : State, s.pending = [] ∧ s.onRc = false ∧ s.copies.stepBy ≠ 0 ∧
    s.gtc / 1024 ≠ (s.gtc + (s.copies.frac + 2 * s.gtcInc) / 2 ^ 32) / 1024 ∧ step s = .next t := by
  obtain ⟨t, h⟩ := next_ex (o := step steered) (by decide +kernel)
  refine ⟨steered, t, ?_, ?_, ?_, ?_, h⟩ <;> decide +kernel

end W52

namespace W53

/-- Obligations.StateAfterPowerOn: states and operands that meet its hypotheses, clause by clause. -/
theorem wit_StateAfterPowerOn :
    (∃ (c : Nat), c < 16) ∧
    (∃ (d : Nat), d ≠ 0) ∧
    (∃ (d : Nat), d < 512) :=
  ⟨⟨3, by decide +kernel⟩,
    ⟨65429, by decide +kernel⟩,
    ⟨483, by decide +kernel⟩⟩

end W53

namespace W55

def base : State := (w0.put Reg.ENG_STATE_STATE 0)
def f (s : State) (g : FlightSeq → FlightSeq) : State := { s with flight := g { FlightSeq.reset with running := true, coldNext := false } }
def ending : State := f (base.put Reg.PWR_SERVICE_BY_FAILURE 4) (fun x => { x with images := [], bundle := some (0x600000, 5, 0x1000), katDone := true, otpDone := true, bundleFetched := true, kfwLoaded := true, dspmLoaded := true, commitSvn := true, svn := [(1, 4), (2, 40)] })

theorem wit_FusesOnlyBlow_1 : ∃ s t : State, s.flight.commitSvn = true ∧ s.isReady = false ∧ exec .flightReady s = .next t ∧
    t.isReady = true := by
  obtain ⟨t, h, r⟩ := next_and (o := exec .flightReady ending) (P := fun t => t.isReady = true) State.isReady
    (by decide +kernel) (fun _ h => h)
  exact ⟨ending, t, by decide +kernel, by decide +kernel, h, r⟩

theorem wit_FusesOnlyBlow_2 : ∃ s t : State, s.fuses.inRange ∧ s.pending ≠ [] ∧ step s = .next t := by
  obtain ⟨t, h⟩ := next_ex (o := step { ending with pending := [.flightReady] }) (by decide +kernel)
  refine ⟨_, t, ?_, by decide +kernel, h⟩
  intro c
  have e1 : ending.fuses.svn = [] := by decide +kernel
  have e2 : ending.fuses.ageSteps = [] := by decide +kernel
  show Tab.get 0 ending.fuses.svn c ≤ 32 ∧ Tab.get 0 ending.fuses.ageSteps c ≤ 8
  rw [e1, e2]
  exact ⟨Nat.zero_le _, Nat.zero_le _⟩

end W55

namespace W56

theorem wit_SystemMemoryStaysCanonical_1 : ∃ s t : State, Memory.wf s.mem = true ∧ s.mem ≠ [] ∧ step s = .next t := by
  obtain ⟨t, h⟩ := next_ex (o := step w0) (by decide +kernel)
  exact ⟨w0, t, by decide +kernel, by decide +kernel, h⟩

end W56

namespace W57

theorem wit_BlockMemoriesStayCanonical_1 : ∃ s t : State, s.storesWf ∧ (s.tile 0).store ≠ [] ∧ step s = .next t := by
  obtain ⟨t, h⟩ := next_ex (o := step w0) (by decide +kernel)
  refine ⟨w0, t, ⟨by decide +kernel, by decide +kernel, by decide +kernel, ?_⟩, by decide +kernel, h⟩
  have e : w0.tiles = [(0, busyTile), (1, busyTile), (64, { busyTile with task := none })] := by decide +kernel
  have w : Memory.wf busyTile.store = true := by decide +kernel
  intro k
  show Memory.wf (Tab.get Tile.reset w0.tiles k).store = true
  rw [e]
  simp only [Tab.get]
  split
  · exact w
  · split
    · exact w
    · split
      · exact w
      · rfl

end W57

namespace W59

theorem wit_AlarmLevelNeverFalls_1 : ∃ (c : Instr) (s t : State), c ≠ .coldReset ∧ 0 < s.get Reg.KPR_STATE_LEVEL ∧
    exec c s = .next t := by
  obtain ⟨t, h⟩ := next_ex (o := exec .concentratorPass (w0.put Reg.KPR_STATE_LEVEL 3)) (by decide +kernel)
  exact ⟨.concentratorPass, _, t, nofun, by decide +kernel, h⟩

theorem wit_AlarmLevelNeverFalls_2 : ∃ s t : State, s.pending = [] ∧ 0 < s.get Reg.KPR_STATE_LEVEL ∧ step s = .next t := by
  obtain ⟨t, h⟩ := next_ex (o := step (w0.put Reg.KPR_STATE_LEVEL 3)) (by decide +kernel)
  exact ⟨_, t, by decide +kernel, by decide +kernel, h⟩

end W59

namespace W60

def sts : List State := [w0, upT w0 0 (fun x => { x with pc := 0x3FFE, s := [(1, 0xFFFFF), (2, 0x100000), (3, 0x200001)] }),
    upT w0 0 (fun x => { x with pc := 0x4000 }),
    upT w0 0 (fun x => { x with s := [(1, 0xFFFFF), (2, 0x100000), (3, 0x200001), (0, 5), (4, 0x80000000)] })]

/-- Obligations.TileExceptions: states and operands that meet its hypotheses, clause by clause. -/
theorem wit_TileExceptions :
    (∃ (s : State) (u : BitVec 7) (rs2 : BitVec 5), (s.tile (coreOf u)).units = [] ∧ (s.tile (coreOf u)).exc = none ∧ coreOf
    u ≠ isleCore ∧ s.canIssue (coreOf u) false = true ∧ rs2 ≠ 0) ∧
    (∃ (s : State) (u : BitVec 7) (rd : BitVec 5) (rs1 : BitVec 5) (rs2 : BitVec 5), (s.tile (coreOf u)).units = [] ∧ (s.tile
    (coreOf u)).exc = none ∧ coreOf u ≠ isleCore ∧ s.canIssue (coreOf u) false = true ∧ (16 ≤ rd.toNat ∨ 16 ≤ rs1.toNat ∨
    rs2 ≠ 0)) ∧
    (∃ (s : State) (u : BitVec 7) (rd : BitVec 5) (rs1 : BitVec 5), (s.tile (coreOf u)).units = [] ∧ (s.tile (coreOf u)).exc
    = none ∧ coreOf u ≠ isleCore ∧ s.canIssue (coreOf u) false = true ∧ (16 ≤ rd.toNat ∨ 16 ≤ rs1.toNat)) ∧
    (∃ (s : State) (u : BitVec 7) (rd : BitVec 5) (rs1 : BitVec 5) (rs2 : BitVec 5), (s.tile (coreOf u)).units = [] ∧ (s.tile
    (coreOf u)).exc = none ∧ coreOf u ≠ isleCore ∧ s.canIssue (coreOf u) false = true ∧ (16 ≤ rd.toNat ∨ rs1 ≠ 0 ∨ rs2 ≠ 0)) ∧
    (∃ (s : State) (u : BitVec 7) (imm : BitVec 16), (s.tile (coreOf u)).units = [] ∧ (s.tile (coreOf u)).exc = none ∧ coreOf
    u ≠ isleCore ∧ s.canIssue (coreOf u) false = true ∧ 256 ≤ imm.toNat) ∧
    (∃ (s : State) (u : BitVec 7) (imm : BitVec 16), (s.tile (coreOf u)).units = [] ∧ (s.tile (coreOf u)).exc = none ∧ coreOf
    u ≠ isleCore ∧ s.canIssue (coreOf u) false = true ∧ 16 ≤ imm.toNat) ∧
    (∃ (s : State) (u : BitVec 7) (imm : BitVec 16), (s.tile (coreOf u)).units = [] ∧ (s.tile (coreOf u)).exc = none ∧ coreOf
    u ≠ isleCore ∧ s.canIssue (coreOf u) false = true ∧ imm.toNat < 32 ∧ (s.tile (coreOf u)).sreg imm.toNat &&& 4294967152 ≠
    0) ∧
    (∃ (s : State) (u : BitVec 7) (rs2 : BitVec 5) (imm : BitVec 16) (ext : Option (BitVec 26)), (s.tile (coreOf u)).units =
    [] ∧ (s.tile (coreOf u)).exc = none ∧ coreOf u ≠ isleCore ∧ s.canIssue (coreOf u) ext.isSome = true ∧ rs2 ≠ 0 ∧
    (↑(BitVec.toNat ((s.tile (coreOf u)).sreg rs2.toNat)) + 4 * immOf imm ext).emod 4 ≠ 0) ∧
    (∃ (s : State) (u : BitVec 7) (rs1 : BitVec 5) (off : BitVec 14) (ext : Option (BitVec 26)) (a : Nat), (s.tile (coreOf
    u)).units = [] ∧ (s.tile (coreOf u)).exc = none ∧ coreOf u ≠ isleCore ∧ s.canIssue (coreOf u) ext.isSome = true ∧
    scalarAddr (s.tile (coreOf u)) rs1.toNat off ext = ↑a ∧ a % 4 ≠ 0) ∧
    (∃ (s : State) (u : BitVec 7) (rs1 : BitVec 5) (off : BitVec 14) (ext : Option (BitVec 26)), (s.tile (coreOf u)).units =
    [] ∧ (s.tile (coreOf u)).exc = none ∧ coreOf u ≠ isleCore ∧ s.canIssue (coreOf u) ext.isSome = true ∧ scalarAddr (s.tile
    (coreOf u)) rs1.toNat off ext < 0) ∧
    (∃ (s : State) (u : BitVec 7), (s.tile (coreOf u)).units = [] ∧ (s.tile (coreOf u)).exc = none ∧ coreOf u ≠ isleCore ∧
    (s.tile (coreOf u)).task.isSome = true ∧ (s.tile (coreOf u)).core = CoreSt.running ∧ (s.tile (coreOf u)).halted = false
    ∧ (s.tile (coreOf u)).yielding = false ∧ (s.tile (coreOf u)).stepping = false ∧ s.stalled (4 * clStop (coreOf u / 4) +
    coreOf u % 4) = false ∧ s.breaks (coreOf u) = false ∧ (s.tile (coreOf u)).progSize ≤ (s.tile (coreOf u)).pc) :=
  ⟨⟨(nth sts 3), 1, 0x1f, by decide +kernel⟩,
    ⟨(nth sts 0), 1, 0x1f, 0x1f, 0x1f, by decide +kernel⟩,
    ⟨(nth sts 3), 1, 0x1f, 0x1f, by decide +kernel⟩,
    ⟨(nth sts 0), 1, 0x1f, 0x1f, 0x1f, by decide +kernel⟩,
    ⟨(nth sts 2), 1, 0xff43, by decide +kernel⟩,
    ⟨(nth sts 0), 1, 0xffaa, by decide +kernel⟩,
    ⟨(nth sts 2), 1, 3, by decide +kernel⟩,
    ⟨(nth sts 0), 0, 4, 0xfd63, none, by decide +kernel⟩,
    ⟨(nth sts 1), 1, 4, 0x3fff, none, 3, by decide +kernel⟩,
    ⟨(nth sts 3), 1, 0x1f, 0x3fff, none, by decide +kernel⟩,
    ⟨(nth sts 2), 0, by decide +kernel⟩⟩

theorem wit_TileExceptions_1 : ∃ (s : State) (u : BitVec 7) (rs1 : BitVec 5) (off : BitVec 14) (ext : Option (BitVec 26)) (a : Nat),
    (s.tile (coreOf u)).units = [] ∧ (s.tile (coreOf u)).exc = none ∧ coreOf u ≠ isleCore ∧
    s.canIssue (coreOf u) ext.isSome = true ∧ scalarAddr (s.tile (coreOf u)) rs1.toNat off ext = ↑a ∧ a % 4 = 0 ∧
    2 ^ 20 ≤ a :=
  ⟨nth sts 0, 0, 0, 0, some 16, 1048576, by decide +kernel⟩

end W60

end Sys2Proof.Tests
end

namespace Sys2Proof.Machine

/-! ## Scalar writes: the spec's table of values (R318, R319) -/

/-- `i` completes and writes `v` to scalar register `rd`, where s0 keeps reading 0; of the rest of the block only issue and
control flow of the core change. -/
def WritesS (i : Instr) (s : State) (u : BitVec 7) (rd : BitVec 5) (v : Word) : Prop :=
  Gives i s fun t => OnlyCore s t (coreOf u) ∧ OnlyS (s.tile (coreOf u)) (t.tile (coreOf u)) rd.toNat ∧
    (t.tile (coreOf u)).sreg rd.toNat = if rd = 0 then 0 else v

/-- An interlock free on some registers is free on fewer. -/
theorem Tile.blocked_of_subset {x : Tile} {ranges : List (Nat × Nat)} {regs more : List Nat} (hsub : regs ⊆ more)
    (h : x.blocked ranges more = false) : x.blocked ranges regs = false := by
  simp only [Tile.blocked, List.any_eq_false, Bool.or_eq_true, not_or, List.any_eq_true, List.contains_iff_mem,
    not_exists, not_and] at h ⊢
  intro op hop
  obtain ⟨hranges, hregs⟩ := h op hop
  exact ⟨hranges, fun k hk hmem => hregs k hk (hsub hmem)⟩

section
variable {s : State} {u : BitVec 7} {rd rs1 rs2 : BitVec 5} {i : Instr} {v : Word}

/-- The rule of issue for a scalar write, with s0 named as the register field 0. -/
theorem writesS_of_issue {regs : List Nat} {es : List (Option Exc)} (g : Tile → Word)
    (hexec : exec i s = .next (s.issue (coreOf u) false fun s => s.checked (coreOf u) regs [] es fun s =>
      .done (s.updTile (coreOf u) fun t => t.setS rd.toNat (g t))))
    (hi : s.canIssue (coreOf u) false = true) (hb : (s.tile (coreOf u)).blocked [] regs = false)
    (hes : firstExc es = none) (hg : ∀ x y : Tile, x.bare = y.bare → g x = g y) :
    WritesS i s u rd (g (s.tile (coreOf u))) := by
  obtain ⟨t, ht, hcore, honly, hval⟩ := State.issue_setS s (coreOf u) false rd.toNat regs es g hi hb hes hg
  have hzero : rd.toNat = 0 ↔ rd = 0 := by simp [← BitVec.toNat_inj]
  exact ⟨t, by rw [hexec, ht], hcore, honly, by simpa only [hzero] using hval⟩

/-- An ALU form of two scalars writes its value (R318). -/
theorem writesS_of_sss (f : Word → Word → Word) (hexec : exec i s = s.sss u rd rs1 rs2 f)
    (hi : s.canIssue (coreOf u) false = true)
    (hb : (s.tile (coreOf u)).blocked [] [rS rd.toNat, rS rs1.toNat, rS rs2.toNat] = false)
    (hv : f ((s.tile (coreOf u)).sreg rs1.toNat) ((s.tile (coreOf u)).sreg rs2.toNat) = v) : WritesS i s u rd v := by
  subst hv
  exact writesS_of_issue (fun t => f (t.sreg rs1.toNat) (t.sreg rs2.toNat)) hexec hi hb rfl
    fun x y h => by simp only [Tile.sreg_of_bare h]

/-- An ALU form of one scalar, whose rs2 is 0, writes its value (R316, R318). -/
theorem writesS_of_ss0 (f : Word → Word) (hexec : exec i s = s.ss0 u rd rs1 0 f)
    (hi : s.canIssue (coreOf u) false = true)
    (hb : (s.tile (coreOf u)).blocked [] [rS rd.toNat, rS rs1.toNat] = false) :
    WritesS i s u rd (f ((s.tile (coreOf u)).sreg rs1.toNat)) :=
  writesS_of_issue (fun t => f (t.sreg rs1.toNat)) hexec hi hb rfl fun x y h => by simp only [Tile.sreg_of_bare h]

end

/-- The low word of the product is the product modulo 2³² (R318). -/
theorem mul_eq_ofNat (a b : Word) : a * b = BitVec.ofNat 32 (a.toNat * b.toNat) := by
  simp [BitVec.ofNat_mul]

theorem flagWord_slt (a b : Word) : flagWord (a.slt b) = if a.toInt < b.toInt then 1 else 0 := by
  simp [flagWord, BitVec.slt]

theorem flagWord_ult (a b : Word) : flagWord (a.ult b) = if a.toNat < b.toNat then 1 else 0 := by
  simp [flagWord, BitVec.ult]

/-- A choice by `a < b` is the opposite choice by `b ≤ a`: MIN and MAX of R318 against the model's comparison. -/
theorem ite_slt_swap (a b p q : Word) : (if a.slt b then p else q) = if b.toInt ≤ a.toInt then q else p := by
  simp only [BitVec.slt, decide_eq_true_eq, ← Int.not_le, ite_not]

theorem ite_ult_swap (a b p q : Word) : (if a.ult b then p else q) = if b.toNat ≤ a.toNat then q else p := by
  simp only [BitVec.ult, decide_eq_true_eq, ← Nat.not_le, ite_not]

/-- Settles O1: every register form is one of the two shared ALU forms, each with the table's value. -/
theorem scalarRegisterForms : Obligations.ScalarRegisterForms := by
  intro s u rd rs1 rs2 hi hb x a b lands
  have two {i : Instr} {v : Word} (f : Word → Word → Word) (hexec : exec i s = s.sss u rd rs1 rs2 f) (hv : f a b = v) :
      lands i v := writesS_of_sss f hexec hi hb hv
  have hb1 : x.blocked [] [rS rd.toNat, rS rs1.toNat] = false := Tile.blocked_of_subset (by simp) hb
  refine ⟨two (· + ·) rfl rfl, two (· - ·) rfl rfl, two (· &&& ·) rfl rfl, two (· ||| ·) rfl rfl, two (· ^^^ ·) rfl rfl,
    two (fun p q => p <<< shamt q) rfl rfl, two (fun p q => p >>> shamt q) rfl rfl,
    two (fun p q => p.sshiftRight (shamt q)) rfl rfl,
    two (fun p q => flagWord (p.slt q)) rfl (flagWord_slt a b), two (fun p q => flagWord (p.ult q)) rfl (flagWord_ult a b),
    two (· * ·) rfl (mul_eq_ofNat a b), two mulHi rfl rfl, two mulHiU rfl rfl,
    two divS rfl rfl, two divU rfl rfl, two remS rfl rfl, two remU rfl rfl,
    two (fun p q => if q.slt p then q else p) rfl (ite_slt_swap b a b a),
    two (fun p q => if p.slt q then q else p) rfl (ite_slt_swap a b b a),
    two (fun p q => if q.ult p then q else p) rfl (ite_ult_swap b a b a),
    two (fun p q => if p.ult q then q else p) rfl (ite_ult_swap a b b a), ?_⟩
  rintro rfl
  exact ⟨writesS_of_ss0 (fun p => BitVec.ofNat 32 (clz p)) rfl hi hb1,
    writesS_of_ss0 (fun p => BitVec.ofNat 32 (popcount p.toNat 32)) rfl hi hb1⟩

/-! ## What issue leaves of a tile -/

theorem Tile.touch_only_istore (ls : List ILine) (x : Tile) :
    ls.foldl Tile.touchLine x = { x with istore := (ls.foldl Tile.touchLine x).istore } := by
  induction ls generalizing x with
  | nil => rfl
  | cons l ls ih =>
    have hhead : x.touchLine l = { x with istore := (x.touchLine l).istore } := by
      unfold Tile.touchLine
      split <;> rfl
    exact (ih _).trans (congrArg (fun y : Tile => { y with istore := ((l :: ls).foldl Tile.touchLine x).istore }) hhead)

/-- Issue changes the order of the instruction-store lines and the breakpoint passed, nothing else (R296, R656). -/
theorem Tile.issued_only_fetch (x : Tile) (c : Nat) (ext : Bool) :
    x.issued c ext = { x with istore := (x.issued c ext).istore, bpSkip := (x.issued c ext).bpSkip } := by
  unfold Tile.issued
  split
  · rfl
  · exact congrArg (fun y : Tile => { y with bpSkip := false }) (Tile.touch_only_istore _ x)

section
variable (x : Tile) (c : Nat) (ext : Bool)

@[simp] theorem Tile.issued_pc : (x.issued c ext).pc = x.pc := by rw [issued_only_fetch]
@[simp] theorem Tile.issued_depth : (x.issued c ext).depth = x.depth := by rw [issued_only_fetch]
@[simp] theorem Tile.issued_units : (x.issued c ext).units = x.units := by rw [issued_only_fetch]
@[simp] theorem Tile.issued_exc : (x.issued c ext).exc = x.exc := by rw [issued_only_fetch]
@[simp] theorem Tile.issued_issueNo : (x.issued c ext).issueNo = x.issueNo := by
  rw [issued_only_fetch]
@[simp] theorem Tile.issued_sreg (k : Nat) : (x.issued c ext).sreg k = x.sreg k := by
  rw [issued_only_fetch]
  rfl
@[simp] theorem Tile.issued_loopReg (k : Nat) : (x.issued c ext).loopReg k = x.loopReg k := by
  rw [issued_only_fetch]
  rfl

end

@[simp] theorem State.tile_issued (s : State) (c : Nat) (ext : Bool) :
    (s.issued c ext).tile c = (s.tile c).issued c ext := by
  unfold State.issued Tile.issued
  split <;> simp

/-! ## Outcomes of one instruction -/

/-- With no unit instruction outstanding nothing is interlocked (R282): the operand checks decide. -/
theorem State.checked_of_no_units {s : State} {c : Nat} (hu : (s.tile c).units = []) (regs : List Nat)
    (ranges : List (Nat × Nat)) (es : List (Option Exc)) (fx : State → Fx) :
    s.checked c regs ranges es fx = (firstExc es).elim (fx s) (.exc s) := by
  have hfree : (s.tile c).blocked ranges regs = false := by simp [Tile.blocked, hu]
  unfold State.checked
  rw [hfree]
  cases firstExc es <;> rfl

/-- Of the two illegal-instruction checks of LOOP and LBRK the encoding comes first (R303). -/
theorem firstExc_encoding_operand (p q : Bool) : firstExc [excIf p excEncoding, excIf q excOperand] =
    if p then some excEncoding else if q then some excOperand else none := by
  cases p <;> cases q <;> rfl

/-- A LOOP of the register that its nesting names, with an immediate in range, meets no exception (R326). -/
theorem firstExc_loop_legal {top d l : Nat} {k : Int} (hl : l = d) (htop : d < top) (h1 : 1 ≤ k) (h2 : k ≤ 2 ^ 30) :
    firstExc [excIf (!decide (l < top)) excEncoding,
      excIf (decide (top ≤ d) || l != d || decide (k < 1) || decide (2 ^ 30 < k)) excOperand] = none := by
  have henc : (!decide (l < top)) = false := by simp [hl, htop]
  have hop : (decide (top ≤ d) || l != d || decide (k < 1) || decide (2 ^ 30 < k)) = false := by
    simp only [Bool.or_eq_false_iff, decide_eq_false_iff_not, bne_eq_false_iff_eq]
    exact ⟨⟨⟨Nat.not_le.2 htop, hl⟩, Int.not_lt.2 h1⟩, Int.not_lt.2 h2⟩
  rw [firstExc_encoding_operand, henc, hop]
  rfl

/-- An exception of a core that has none standing is recorded with the instruction's place, and stops the core (R304, R305). -/
theorem Tile.raise_eq {x : Tile} (e : Exc) (hx : x.exc = none) : x.raise e =
    { x with core := .ending, atEnd := false, wait := none, call := none,
             exc := some ⟨e.code, e.detail, x.pc, x.issueNo⟩ } := by
  simp [Tile.raise, Tile.raiseAt, hx]

section
variable {i : Instr} {s t : State} {c : Nat} {ext : Bool} {fx : State → Fx}

/-- An instruction that transfers control (R329) has its effect on the core's record and sets its PC. -/
theorem gives_of_jump {pc : Nat} (hexec : exec i s = .next (s.issue c ext fx)) (hi : s.canIssue c ext = true)
    (hfx : fx (s.issued c ext) = .jump t pc) (ht : OnlyCore (s.issued c ext) t c) (hst : (t.tile c).stepping = false) :
    Gives i s fun r => OnlyCore s r c ∧ r.tile c = { t.tile c with pc := pc % 2 ^ 32 } := by
  have hsettle : s.issue c ext fx = t.updTile c fun x => { x with pc := pc % 2 ^ 32 } := by
    rw [State.issue_eq s c ext fx hi, hfx]
    exact State.stepped_of_not _ c (by simpa using hst)
  exact ⟨_, hexec.trans (congrArg _ hsettle), ((s.issued_only c ext).trans ht).trans (OnlyCore.upd t c _),
    t.tile_updTile_self c _⟩

/-- An instruction that completes has its effect on the core's record; control goes on at Next, closing loops (R327). -/
theorem gives_of_done (hexec : exec i s = .next (s.issue c ext fx)) (hi : s.canIssue c ext = true)
    (hfx : fx (s.issued c ext) = .done t) (ht : OnlyCore (s.issued c ext) t c) (hst : (t.tile c).stepping = false) :
    Gives i s fun r => OnlyCore s r c ∧
      r.tile c = (t.tile c).closeLoops (((t.tile c).pc + wordsLen ext) % 2 ^ 32) 4 := by
  have hsettle := (State.issue_eq s c ext fx hi).trans ((congrArg _ hfx).trans (settle_done t c ext hst))
  exact ⟨_, hexec.trans (congrArg _ hsettle), ((s.issued_only c ext).trans ht).trans (OnlyCore.upd t c _),
    t.tile_updTile_self c _⟩

/-- An instruction of a tile that ends in an exception has no effect but to raise it (R303-R305). -/
theorem raises_of_exc {e : Exc} (hexec : exec i s = .next (s.issue c ext fx)) (hi : s.canIssue c ext = true)
    (hc : c ≠ isleCore) (hx : (s.tile c).exc = none) (hfx : fx (s.issued c ext) = .exc (s.issued c ext) e) :
    Raises i s c e := by
  have hsettle : s.issue c ext fx = (s.issued c ext).updTile c (·.raise e) := by
    rw [State.issue_eq s c ext fx hi, hfx]
    simp [settleFx, State.raise, hc]
  refine ⟨_, hexec.trans (congrArg _ hsettle), (s.issued_only c ext).trans (OnlyCore.upd _ c _), ?_⟩
  rw [State.tile_updTile_self, State.tile_issued, Tile.raise_eq e (by simpa using hx)]
  refine ⟨rfl, rfl, by simp, ?_⟩
  rw [Tile.issued_only_fetch]
  rfl

end

/-! ## Hardware loops (R326-R328) -/

/-- The tile with its next loop register taken, for `count` passes from `start` to `stop` (R326). -/
def Tile.enterLoop (x : Tile) (count start stop : Nat) : Tile :=
  { x with loops := x.loops.set x.depth ⟨count, start, stop⟩, depth := x.depth + 1 }

/-- The tile out of its innermost loop, whose count is 0 (R328). -/
def Tile.leaveLoop (x : Tile) : Tile :=
  { x with loops := x.loops.set (x.depth - 1) { x.loopReg (x.depth - 1) with count := 0 }, depth := x.depth - 1 }

section
variable (x : Tile) (count start stop : Nat)

@[simp] theorem Tile.enterLoop_bare : (x.enterLoop count start stop).bare = x.bare := rfl
@[simp] theorem Tile.enterLoop_pc : (x.enterLoop count start stop).pc = x.pc := rfl
@[simp] theorem Tile.enterLoop_depth : (x.enterLoop count start stop).depth = x.depth + 1 := rfl
@[simp] theorem Tile.enterLoop_loopReg : (x.enterLoop count start stop).loopReg x.depth = ⟨count, start, stop⟩ :=
  Tab.get_set_self _ _ _ _
@[simp] theorem Tile.leaveLoop_bare : x.leaveLoop.bare = x.bare := rfl
@[simp] theorem Tile.leaveLoop_depth : x.leaveLoop.depth = x.depth - 1 := rfl
@[simp] theorem Tile.leaveLoop_loopReg :
    x.leaveLoop.loopReg (x.depth - 1) = { x.loopReg (x.depth - 1) with count := 0 } := Tab.get_set_self _ _ _ _

/-- Control goes on at Next inside the loop just entered, where its body goes on behind the instruction (R327). -/
theorem Tile.closeLoops_enterLoop {next : Nat} (n : Nat) (hstop : (stop + 4) % 2 ^ 32 ≠ next) :
    (x.enterLoop count start stop).closeLoops next (n + 1) = { x.enterLoop count start stop with pc := next } := by
  simp only [Tile.closeLoops, Tile.enterLoop_depth, Nat.add_sub_cancel, Tile.enterLoop_loopReg, ne_eq, hstop,
    not_false_eq_true, ↓reduceIte, Nat.add_eq_zero_iff, Nat.one_ne_zero, and_false]

end

section
variable {s : State} {u : BitVec 7} {rs1 l : BitVec 5} {imm : BitVec 16} {ext : Option (BitVec 26)} {i : Instr}
  (hexec : exec i s = s.loopOp u rs1 l imm ext) (hi : s.canIssue (coreOf u) ext.isSome = true)
  (hu : (s.tile (coreOf u)).units = [])
include hexec hi hu

/-- LBRK of the innermost loop leaves it and goes on behind its body (R328). -/
theorem loopOp_leaves (h0 : immOf imm ext = 0) (hrs1 : rs1 = 0) (hl : l.toNat < fileSize (coreOf u) 4 2)
    (hd : l.toNat + 1 = (s.tile (coreOf u)).depth) :
    Gives i s fun t => OnlyCore s t (coreOf u) ∧ t.tile (coreOf u) =
      { ((s.tile (coreOf u)).issued (coreOf u) ext.isSome).leaveLoop with
        pc := (((s.tile (coreOf u)).loopReg l.toNat).stop + 4) % 2 ^ 32 } := by
  let x' := (s.issued (coreOf u) ext.isSome).tile (coreOf u)
  have henc : (rs1 != 0 || !decide (l.toNat < fileSize (coreOf u) 4 2)) = false := by simp [hrs1, hl]
  have hop : (x'.depth == 0 || l.toNat + 1 != x'.depth) = false := by simp [x', ← hd]
  have h := gives_of_jump (t := (s.issued (coreOf u) ext.isSome).updTile (coreOf u) Tile.leaveLoop)
    (pc := ((x'.loopReg (x'.depth - 1)).stop + 4) % 2 ^ 32) hexec hi ?_ (OnlyCore.upd _ _ _)
    (by rw [State.tile_updTile_self]; exact State.stepping_issued s _ _ hi)
  · simpa [x', ← hd] using h
  · simp only [h0, ↓reduceIte]
    rw [State.checked_of_no_units (by simpa using hu), firstExc_encoding_operand, henc, hop]
    rfl

/-- LBRK meets the checks of its fields: rs1 is 0, the register exists and is the innermost loop's (R328). -/
theorem loopOp_raises_lbrk {e : Exc} (hc : coreOf u ≠ isleCore) (hx : (s.tile (coreOf u)).exc = none)
    (h0 : immOf imm ext = 0)
    (he : (if (rs1 != 0 || !decide (l.toNat < fileSize (coreOf u) 4 2)) = true then some excEncoding
      else if ((s.tile (coreOf u)).depth == 0 || l.toNat + 1 != (s.tile (coreOf u)).depth) = true then some excOperand
      else none) = some e) : Raises i s (coreOf u) e := by
  refine raises_of_exc hexec hi hc hx ?_
  simp only [h0, ↓reduceIte]
  rw [State.checked_of_no_units (by simpa using hu), firstExc_encoding_operand, State.tile_issued, Tile.issued_depth, he]
  rfl

/-- LOOP of a register that its nesting does not name, or beyond the deepest nesting, is illegal (R326, R328). -/
theorem loopOp_raises_loop (hc : coreOf u ≠ isleCore) (hx : (s.tile (coreOf u)).exc = none) (h0 : immOf imm ext ≠ 0)
    (hl : l.toNat < fileSize (coreOf u) 4 2)
    (hd : l.toNat ≠ (s.tile (coreOf u)).depth ∨ fileSize (coreOf u) 4 2 ≤ (s.tile (coreOf u)).depth) :
    Raises i s (coreOf u) excOperand := by
  refine raises_of_exc hexec hi hc hx ?_
  have hop : (decide (fileSize (coreOf u) 4 2 ≤ (s.tile (coreOf u)).depth) || l.toNat != (s.tile (coreOf u)).depth ||
      decide (immOf imm ext < 1) || decide (2 ^ 30 < immOf imm ext)) = true := by
    rcases hd with hd | hd <;> simp [hd]
  simp only [h0, ↓reduceIte]
  rw [State.checked_of_no_units (by simpa using hu), firstExc_encoding_operand, State.tile_issued, Tile.issued_depth, hop]
  simp [hl]

section
variable (hd : l.toNat = (s.tile (coreOf u)).depth) (htop : (s.tile (coreOf u)).depth < fileSize (coreOf u) 4 2)
  (h1 : 1 ≤ immOf imm ext) (h2 : immOf imm ext ≤ 2 ^ 30)

include hd htop h1 h2

/-- LOOP with a count of 0 goes on behind the body (R326). -/
theorem loopOp_skips (hcount : (s.tile (coreOf u)).sreg rs1.toNat = 0) :
    Gives i s fun t => OnlyCore s t (coreOf u) ∧ t.tile (coreOf u) =
      { (s.tile (coreOf u)).issued (coreOf u) ext.isSome with
        pc := (((s.tile (coreOf u)).pc + 4 * (immOf imm ext).toNat) % 2 ^ 32 + 4) % 2 ^ 32 } := by
  have h0 : immOf imm ext ≠ 0 := by omega
  have h := gives_of_jump (pc := (((s.tile (coreOf u)).pc + 4 * (immOf imm ext).toNat) % 2 ^ 32 + 4) % 2 ^ 32)
    hexec hi ?_ (OnlyCore.refl _ _) (State.stepping_issued s _ _ hi)
  · simpa using h
  · simp only [h0, ↓reduceIte]
    rw [State.checked_of_no_units (by simpa using hu), State.tile_issued, Tile.issued_depth,
      firstExc_loop_legal hd htop h1 h2]
    simp [hcount]

/-- LOOP with another count takes the next loop register, and control goes on at Next as for every instruction (R326, R327). -/
theorem loopOp_enters (hcount : ((s.tile (coreOf u)).sreg rs1.toNat).toNat ≠ 0) :
    Gives i s fun t => OnlyCore s t (coreOf u) ∧ t.tile (coreOf u) =
      (((s.tile (coreOf u)).issued (coreOf u) ext.isSome).enterLoop ((s.tile (coreOf u)).sreg rs1.toNat).toNat
        (((s.tile (coreOf u)).pc + wordsLen ext.isSome) % 2 ^ 32)
        (((s.tile (coreOf u)).pc + 4 * (immOf imm ext).toNat) % 2 ^ 32)).closeLoops
          (((s.tile (coreOf u)).pc + wordsLen ext.isSome) % 2 ^ 32) 4 := by
  have h0 : immOf imm ext ≠ 0 := by omega
  have h := gives_of_done (t := (s.issued (coreOf u) ext.isSome).updTile (coreOf u) fun x =>
      x.enterLoop ((s.tile (coreOf u)).sreg rs1.toNat).toNat (((s.tile (coreOf u)).pc + wordsLen ext.isSome) % 2 ^ 32)
        (((s.tile (coreOf u)).pc + 4 * (immOf imm ext).toNat) % 2 ^ 32))
    hexec hi ?_ (OnlyCore.upd _ _ _) (by rw [State.tile_updTile_self]; exact State.stepping_issued s _ _ hi)
  · simpa using h
  · simp only [h0, ↓reduceIte]
    rw [State.checked_of_no_units (by simpa using hu), State.tile_issued, Tile.issued_depth,
      firstExc_loop_legal hd htop h1 h2]
    simp [State.updTile, Tile.enterLoop, hcount]

end

end

/-- Settles O7, form by form: LOOP skipped and entered, LBRK, and the exceptions of both. -/
theorem hardwareLoops : Obligations.HardwareLoops := by
  intro s u rs1 l imm ext hu c x top stop
  have hlbrk (rs1 : BitVec 5) : exec (.lbrk u rs1 l false) s = s.loopOp u rs1 l 0 none := rfl
  have hloop : exec (.loop u rs1 l imm ext) s = s.loopOp u rs1 l imm ext := rfl
  have h0 : immOf 0 none = 0 := rfl
  refine ⟨fun hi hd htop h1 h2 => ?_, fun hi hl hd => ?_, fun hi hc hx => ⟨fun hrs1 => ?_, fun hrs1 hl hd => ?_⟩,
    fun hi hc hx hl himm hd => loopOp_raises_loop hloop hi hu hc hx himm hl hd⟩
  · by_cases hcount : x.sreg rs1.toNat = 0
    · obtain ⟨t, ht, hcore, htile⟩ := loopOp_skips hloop hi hu hd htop h1 h2 hcount
      refine ⟨t, ht, hcore, ?_, fun _ => ⟨?_, ?_⟩, fun hne => absurd hcount hne⟩ <;> rw [htile]
      · exact Tile.issued_bare _ _ _
      · exact Tile.issued_depth _ _ _
    · have hpos : (x.sreg rs1.toNat).toNat ≠ 0 := by simpa [← BitVec.toNat_inj] using hcount
      obtain ⟨t, ht, hcore, htile⟩ := loopOp_enters hloop hi hu hd htop h1 h2 hpos
      refine ⟨t, ht, hcore, ?_, fun hz => absurd hz hcount, fun _ hstop => ?_⟩
      · rw [htile, Tile.closeLoops_bare, Tile.enterLoop_bare, Tile.issued_bare]
      · have hreg := ((s.tile c).issued c ext.isSome).enterLoop_loopReg (x.sreg rs1.toNat).toNat
          ((x.pc + wordsLen ext.isSome) % 2 ^ 32) stop
        rw [Tile.issued_depth] at hreg
        rw [htile.trans (Tile.closeLoops_enterLoop _ _ _ _ 3 hstop)]
        exact ⟨congrArg (· + 1) (Tile.issued_depth _ _ _), rfl, hreg⟩
  · obtain ⟨t, ht, hcore, htile⟩ := loopOp_leaves (hlbrk 0) hi hu h0 rfl hl hd
    have hdepth : (x.issued c false).depth - 1 = l.toNat := by rw [Tile.issued_depth, ← hd, Nat.add_sub_cancel]
    have hreg := (x.issued c false).leaveLoop_loopReg
    rw [hdepth, Tile.issued_loopReg] at hreg
    refine ⟨t, ht, hcore, ?_⟩
    rw [htile]
    exact ⟨Tile.issued_bare _ _ _, hdepth, rfl, hreg⟩
  · exact loopOp_raises_lbrk (hlbrk rs1) hi hu hc hx h0 (if_pos (by rw [bne_iff_ne.mpr hrs1, Bool.true_or]))
  · have hlt : l.toNat < fileSize c 4 2 := hl
    exact loopOp_raises_lbrk (hlbrk rs1) hi hu hc hx h0
      ((if_neg (by simp [hrs1, hlt, c])).trans (if_pos (by simp [hd, c, x])))

end Sys2Proof.Machine

namespace Sys2Proof.Machine

/-! # The fuses (R632)

Two operations of the model write fuses: the commit of the SVNs at the end of a flight, and an ageing step.  Of every
other operation the lemmas below say that it leaves them alone, in the order of the model: `f_fuses` where `f` gives a
state (or a state and more), `f_fuses?` where it gives the outcome of a command. -/

/-! ## Outcomes, choices and repetitions -/

/-- The fuses of the state that an outcome gives. -/
def Out.fuses? : Out → Option Fuses
  | .next t => some t.fuses
  | .fault _ => none
  | .refused _ => none

@[simp] theorem Out.fuses?_next (t : State) : Out.fuses? (.next t) = some t.fuses := rfl

@[simp] theorem Out.fuses?_ite (p : Prop) [Decidable p] (a b : Out) :
    Out.fuses? (if p then a else b) = if p then a.fuses? else b.fuses? := apply_ite _ _ _ _

/-- A command that works inside another gives its state, or the other's own where it gives none. -/
@[simp] theorem Out.after_fuses (o : Out) (s : State) : (o.after s).fuses = o.fuses?.getD s.fuses := by
  cases o <;> rfl

@[simp] theorem State.fuses_ite (p : Prop) [Decidable p] (a b : State) :
    (if p then a else b).fuses = if p then a.fuses else b.fuses := apply_ite _ _ _ _

@[simp] theorem fst_ite_fuses {α : Type} (p : Prop) [Decidable p] (a b : State × α) :
    (if p then a else b).1.fuses = if p then a.1.fuses else b.1.fuses :=
  apply_ite (fun x : State × α => x.1.fuses) _ _ _

theorem fst_fuses {α : Type} {p : State × α} {t : State} {x : α} (h : p = (t, x)) : t.fuses = p.1.fuses := by rw [h]

theorem getD_fuses {o : Option State} {d : State} {f : Fuses} (h : ∀ t, o = some t → t.fuses = f) (hd : d.fuses = f) :
    (o.getD d).fuses = f := by
  cases o with
  | none => exact hd
  | some t => exact h t rfl

/-- The state that the effect of a tile instruction ends in. -/
def Fx.state : Fx → State
  | .done t => t
  | .jump t _ => t
  | .hold t => t
  | .exc t _ => t

@[simp] theorem Fx.state_done (t : State) : (Fx.done t).state = t := rfl
@[simp] theorem Fx.state_jump (t : State) (n : Nat) : (Fx.jump t n).state = t := rfl
@[simp] theorem Fx.state_hold (t : State) : (Fx.hold t).state = t := rfl
@[simp] theorem Fx.state_stall (t : State) : (Fx.stall t).state = t := rfl
@[simp] theorem Fx.state_exc (t : State) (e : Exc) : (Fx.exc t e).state = t := rfl

@[simp] theorem Fx.state_ite (p : Prop) [Decidable p] (a b : Fx) :
    (if p then a else b).state = if p then a.state else b.state := apply_ite _ _ _ _

/-- `f` leaves the fuses alone. -/
def KeepsFuses (f : State → State) : Prop := ∀ t, (f t).fuses = t.fuses

@[simp] theorem keepsFuses_iff (f : State → State) : KeepsFuses f ↔ ∀ t, (f t).fuses = t.fuses := Iff.rfl

/-- The command `f` ends in a state with the fuses it found. -/
def KeepsFuses? (f : State → Out) : Prop := ∀ t, (f t).fuses? = some t.fuses

@[simp] theorem keepsFuses?_iff (f : State → Out) : KeepsFuses? f ↔ ∀ t, (f t).fuses? = some t.fuses := Iff.rfl

/-- The effect `fx` of a tile instruction leaves the fuses alone. -/
def KeepsFx (fx : State → Fx) : Prop := ∀ t, (fx t).state.fuses = t.fuses

@[simp] theorem keepsFx_iff (fx : State → Fx) : KeepsFx fx ↔ ∀ t, (fx t).state.fuses = t.fuses := Iff.rfl

@[simp] theorem foldl_fuses {α : Type} (f : State → α → State) (l : List α) (s : State)
    (h : ∀ a, KeepsFuses (f · a)) : (l.foldl f s).fuses = s.fuses := by
  induction l generalizing s with
  | nil => rfl
  | cons a l ih => exact (ih (f s a)).trans (h a s)

theorem foldl_fst_fuses {α β : Type} (f : State × β → α → State × β) (h : ∀ p a, (f p a).1.fuses = p.1.fuses)
    (l : List α) (p : State × β) : (l.foldl f p).1.fuses = p.1.fuses := by
  induction l generalizing p with
  | nil => rfl
  | cons a l ih => exact (ih (f p a)).trans (h p a)

/-- `t` has the fuses of `s`.  A definition of its own, so that the states of a long chain are compared as states and
never evaluated for their fuses.  The few operations that read a whole range of memory are unfolded by `delta`, their
parts named by `extract_lets`, and where need be the read itself stands behind a variable: the kernel would otherwise
evaluate it. -/
def SameFuses (s t : State) : Prop := t.fuses = s.fuses

theorem SameFuses.trans {s t r : State} (h : SameFuses t r) (g : SameFuses s t) : SameFuses s r := Eq.trans h g

theorem SameFuses.foldl {α : Type} {f : State → α → State} (h : ∀ t a, SameFuses t (f t a)) (l : List α) (s : State) :
    SameFuses s (l.foldl f s) := foldl_fuses f l s fun a t => h t a

/-! ## The guards of the commands -/

@[simp] theorem whenLive_fuses? (d : Nat) (s : State) (f : State → Out) (h : KeepsFuses? f) :
    (whenLive d s f).fuses? = some s.fuses := by
  unfold whenLive
  split
  · exact h s
  · rfl

@[simp] theorem whenTow_fuses? (s : State) (f : State → Out) (h : KeepsFuses? f) :
    (whenTow s f).fuses? = some s.fuses :=
  whenLive_fuses? _ _ _ h

@[simp] theorem whenLink_fuses? (s : State) (f : State → Out) (h : KeepsFuses? f) :
    (whenLink s f).fuses? = some s.fuses := by
  unfold whenLink
  split
  · exact whenLive_fuses? _ _ _ h
  · rfl

@[simp] theorem whenN7_fuses? (s : State) (f : State → State) (h : KeepsFuses f) :
    (whenN7 s f).fuses? = some s.fuses := by
  unfold whenN7
  split
  · rfl
  · exact congrArg some (h s)

@[simp] theorem objCommand_fuses? (s : State) (f : State → State) (h : KeepsFuses f) :
    (objCommand s f).fuses? = some s.fuses := by
  refine whenLive_fuses? _ _ _ fun t => congrArg some ?_
  split
  · rfl
  · exact h t

/-! ## The shared operations of the block -/

@[simp] theorem State.sat_fuses (s : State) (f : Fld) (n : Nat) : (s.sat f n).fuses = s.fuses := rfl

@[simp] theorem State.wrap_fuses (s : State) (f : Fld) (n : Nat) : (s.wrap f n).fuses = s.fuses := rfl

@[simp] theorem State.resetRegs_fuses (s : State) (p : Nat → Bool) : (s.resetRegs p).fuses = s.fuses := rfl

@[simp] theorem State.hold_fuses (s : State) (r : FaultRec) : (s.hold r).fuses = s.fuses := by simp [State.hold]

@[simp] theorem State.faultC_fuses (s : State) (code unit src detail : Nat) (cid qid cause : Option Nat) :
    (s.faultC code unit src detail cid qid cause).fuses = s.fuses := by simp [State.faultC]

@[simp] theorem State.eccFault_fuses (s : State) (code unit src mem loc : Nat) (recovered : Bool) (cid : Option Nat) :
    (s.eccFault code unit src mem loc recovered cid).fuses = s.fuses := by simp [State.eccFault]

@[simp] theorem State.tileCorrected_fuses (s : State) (t a : Nat) :
    (s.tileCorrected t a).fuses = s.fuses := by simp [State.tileCorrected]

@[simp] theorem State.sendPart_fuses (s : State) (k : Nat) : (s.sendPart k).fuses = s.fuses := rfl

@[simp] theorem State.sampleSlot_fuses (s : State) (raw code k : Nat) :
    (s.sampleSlot raw code k).fuses = s.fuses := by simp [State.sampleSlot]

@[simp] theorem State.sample_fuses (s : State) (kind raw code : Nat) (p : Nat → Bool) :
    (s.sample kind raw code p).fuses = s.fuses := by simp [State.sample]

@[simp] theorem State.countFor_fuses (s : State) (cid : Nat) (f : CtxPart → CtxPart) :
    (s.countFor cid f).fuses = s.fuses := rfl

@[simp] theorem State.gateAct_fuses (s : State) (d rank : Nat) (act : State → State) (h : KeepsFuses act) :
    (s.gateAct d rank act).fuses = s.fuses := by
  unfold State.gateAct
  dsimp only
  split
  · rfl
  · exact h _

@[simp] theorem State.gateDrop_fuses (s : State) (d rank : Nat) : (s.gateDrop d rank).fuses = s.fuses := rfl

@[simp] theorem State.eventIf_fuses (s : State) (en vec : Fld) :
    (s.eventIf en vec).fuses = s.fuses := by simp [State.eventIf]

@[simp] theorem State.rekeyLine_fuses (s : State) (pa : Nat) :
    (s.rekeyLine pa).fuses = s.fuses := by simp [State.rekeyLine]

@[simp] theorem State.physPut_fuses (s : State) (pa : Nat) (b : Byte) :
    (s.physPut pa b).fuses = s.fuses := by simp [State.physPut]

@[simp] theorem State.physPutList_fuses (s : State) (pa : Nat) (bs : List Byte) :
    (s.physPutList pa bs).fuses = s.fuses := by
  induction bs generalizing s pa with
  | nil => rfl
  | cons b bs ih => exact (ih _ _).trans (s.physPut_fuses pa b)

@[simp] theorem State.physPutLe_fuses (s : State) (pa n v : Nat) :
    (s.physPutLe pa n v).fuses = s.fuses := by simp [State.physPutLe]

@[simp] theorem State.fillTlb2_fuses (s : State) (cid : Nat) (x : Xlat) :
    (s.fillTlb2 cid x).fuses = s.fuses := by simp [State.fillTlb2]

@[simp] theorem State.fillTlb1_fuses (s : State) (who cid : Nat) (x : Xlat) :
    (s.fillTlb1 who cid x).fuses = s.fuses := by simp [State.fillTlb1]

theorem State.ownWrite_fuses {s t : State} {cid pa : Nat} {bs : List Byte} (h : s.ownWrite cid pa bs = some t) :
    t.fuses = s.fuses := by
  unfold State.ownWrite at h
  split at h
  · cases h
    simp
  · cases h

@[simp] theorem State.ownWrite_getD_fuses (s d : State) (cid pa : Nat) (bs : List Byte) (hd : d.fuses = s.fuses) :
    ((s.ownWrite cid pa bs).getD d).fuses = s.fuses := by
  cases h : s.ownWrite cid pa bs with
  | none => exact hd
  | some t => exact State.ownWrite_fuses h

@[simp] theorem State.recordX_fuses (s : State) (unit src cid : Nat) (qid : Option Nat) (e : XErr) :
    (s.recordX unit src cid qid e).fuses = s.fuses := by simp [State.recordX]

@[simp] theorem State.refusedRec_fuses (s : State) (cid : Nat) (qid : Option Nat) (pa : Nat) :
    (s.refusedRec cid qid pa).fuses = s.fuses := by simp [State.refusedRec]

@[simp] theorem State.badDataRec_fuses (s : State) (cid pa : Nat) :
    (s.badDataRec cid pa).fuses = s.fuses := by simp [State.badDataRec]

/-! ## Contexts, groups, queues and waiters -/

@[simp] theorem State.updPkt_fuses (s : State) (q i : Nat) (f : Pkt → Pkt) : (s.updPkt q i f).fuses = s.fuses := rfl

@[simp] theorem State.useFor_fuses (s : State) (kind : UseKind) (q : Nat) : (s.useFor kind q).fuses = s.fuses := rfl

@[simp] theorem State.putRefs_fuses (s : State) (h v : Nat) : (s.putRefs h v).fuses = s.fuses := by
  unfold State.putRefs
  split
  · next hw => exact State.ownWrite_fuses hw
  · rfl

@[simp] theorem State.takeRef_fuses (s : State) (cid kind off h : Nat) (bad : Bool) :
    (s.takeRef cid kind off h bad).1.fuses = s.fuses := by
  unfold State.takeRef
  dsimp only
  repeat' split
  all_goals simp

@[simp] theorem State.relRef_fuses (s : State) (r : Ref) (bad : Bool) : (s.relRef r bad).1.fuses = s.fuses := by
  unfold State.relRef
  dsimp only
  split
  · simp
  · split
    · simp
    · split
      · rfl
      · split
        · next hw => exact State.ownWrite_fuses hw
        · rfl

@[simp] theorem State.freeSlot_fuses (s : State) (p k : Nat) : (s.freeSlot p k).fuses = s.fuses := rfl

@[simp] theorem State.dropSusp_fuses (s : State) (q i : Nat) (inst : Option Nat) :
    (s.dropSusp q i inst).fuses = s.fuses := rfl

@[simp] theorem State.countRun_fuses (s : State) (q i n : Nat) : (s.countRun q i n).fuses = s.fuses := by
  unfold State.countRun
  split <;> simp

@[simp] theorem State.abortRun_fuses (s : State) (q i : Nat) (r : Run) (e : PktEnd) :
    (s.abortRun q i r e).fuses = s.fuses := by
  unfold State.abortRun
  split <;> simp

@[simp] theorem State.abortPkt_fuses (s : State) (q i : Nat) (e : PktEnd) : (s.abortPkt q i e).fuses = s.fuses := by
  unfold State.abortPkt
  split <;> simp

@[simp] theorem State.endHead_fuses (s : State) (q : Nat) (e : PktEnd) : (s.endHead q e).fuses = s.fuses := rfl

@[simp] theorem State.satisfy_fuses (s : State) (i : Nat) : (s.satisfy i).fuses = s.fuses := by
  unfold State.satisfy
  split <;> simp

@[simp] theorem State.breakWaiter_fuses (s : State) (i code : Nat) (rec_ : Option Nat) (status : Nat) :
    (s.breakWaiter i code rec_ status).fuses = s.fuses := by
  unfold State.breakWaiter
  split <;> simp

@[simp] theorem State.evalWaiter_fuses (s : State) (i word : Nat) : (s.evalWaiter i word).fuses = s.fuses := by
  unfold State.evalWaiter
  split <;> simp

@[simp] theorem State.evalFence_fuses (s : State) (cid va word : Nat) :
    (s.evalFence cid va word).fuses = s.fuses := by simp [State.evalFence]

@[simp] theorem State.breakAll_fuses (s : State) (cid : Nat) (e : PktEnd) : (s.breakAll cid e).fuses = s.fuses := by
  unfold State.breakAll
  refine foldl_fuses _ _ _ fun t a => ?_
  dsimp only
  repeat' split
  all_goals simp

@[simp] theorem State.endSuspended_fuses (s : State) (q cid : Nat) (e : PktEnd) :
    (s.endSuspended q cid e).fuses = s.fuses := by simp [State.endSuspended]

@[simp] theorem State.endWaiting_fuses (s : State) (q cid : Nat) (e : PktEnd) :
    (s.endWaiting q cid e).fuses = s.fuses := rfl

@[simp] theorem State.abortCtx_fuses (s : State) (cid : Nat) (e : PktEnd) :
    (s.abortCtx cid e).fuses = s.fuses := by simp [State.abortCtx]

@[simp] theorem State.dropStaged_fuses (s : State) (qs : List Nat) : (s.dropStaged qs).1.fuses = s.fuses := by
  refine foldl_fst_fuses _ (fun p q => ?_) _ _
  dsimp only
  split <;> rfl

@[simp] theorem State.endClaims_fuses (s : State) (p : Nat → Nat → Bool) : (s.endClaims p).fuses = s.fuses := by
  unfold State.endClaims
  refine foldl_fuses _ _ _ fun t a => ?_
  dsimp only
  repeat' split
  all_goals simp

@[simp] theorem State.settleLoss_fuses (s : State) (cid : Nat) :
    (s.settleLoss cid).fuses = s.fuses := by simp [State.settleLoss]

@[simp] theorem State.loseMark_fuses (s : State) (cid code : Nat) (cause : Option Nat) (byCmd : Bool) :
    (s.loseMark cid code cause byCmd).1.fuses = s.fuses := by
  unfold State.loseMark
  dsimp only
  repeat' split
  all_goals simp

@[simp] theorem State.settle_fuses (n : Nat) (ws : List ObjWork) (s : State) :
    (State.settle n ws s).fuses = s.fuses := by
  fun_induction State.settle n ws s with
  | case1 => rfl
  | case2 => rfl
  | case3 n r bad ws s t h ih => rw [ih, fst_fuses h, State.relRef_fuses]
  | case4 n r bad ws s t event h ih => rw [ih, ← State.relRef_fuses s r bad, ← fst_fuses h]; split <;> simp
  | case5 n r bad ws s t h ih => rw [ih, State.fault_fuses, fst_fuses h, State.relRef_fuses]
  | case6 n r bad ws s t o h id ih => rw [ih, State.faultC_fuses, fst_fuses h, State.relRef_fuses]
  | case7 n cid code cause byCmd ws s t rs h ih => rw [ih, fst_fuses h, State.loseMark_fuses]

@[simp] theorem State.release_fuses (s : State) (rs : List Ref) :
    (s.release rs).fuses = s.fuses := by simp [State.release]

@[simp] theorem State.releaseBad_fuses (s : State) (rs : List Ref) (bad : Option Nat) :
    (s.releaseBad rs bad).fuses = s.fuses := by simp [State.releaseBad]

@[simp] theorem State.lose_fuses (s : State) (cid code : Nat) (cause : Option Nat) :
    (s.lose cid code cause).fuses = s.fuses := by simp [State.lose]

@[simp] theorem State.loseX_fuses (s : State) (unit src cid : Nat) (qid : Option Nat) (e : XErr) :
    (s.loseX unit src cid qid e).fuses = s.fuses := by simp [State.loseX]

@[simp] theorem State.fence_fuses (s : State) (cid va : Nat) (qid : Option Nat) (u : FenceUp) :
    (s.fence cid va qid u).fuses = s.fuses := by
  unfold State.fence
  repeat' split
  all_goals simp

@[simp] theorem State.result_fuses (s : State) (r d : Nat) : (s.result r d).fuses = s.fuses := rfl

@[simp] theorem State.readCtx_fuses (s : State) (pid : Nat) (bad badArena : Bool) :
    (s.readCtx pid bad badArena).1.fuses = s.fuses := by
  unfold State.readCtx
  dsimp only
  repeat' split
  all_goals simp

@[simp] theorem execCtxOpen_fuses? (cid pid : BitVec 16) (bad badArena : Bool) (s : State) :
    (execCtxOpen cid pid bad badArena s).fuses? = some s.fuses := by
  unfold execCtxOpen
  refine objCommand_fuses? _ _ fun t => ?_
  dsimp only
  split
  · simp
  · split
    · simp
    · split
      · simp
      · split
        · next h => simp [fst_fuses h]
        · next h => split <;> simp [fst_fuses h]

@[simp] theorem State.dropWaiters_fuses (s : State) (cid : Nat) :
    (s.dropWaiters cid).fuses = s.fuses := by simp [State.dropWaiters]

@[simp] theorem State.startDrain_fuses (s : State) (cid : Nat) (st : CtxSt) :
    (s.startDrain cid st).fuses = s.fuses := by
  unfold State.startDrain
  dsimp only
  rw [State.release_fuses, State.dropStaged_fuses, State.endClaims_fuses]
  refine (foldl_fuses _ _ _ fun q t => ?_).trans (by simp)
  simp

@[simp] theorem execCtxClose_fuses? (cid : BitVec 16) (s : State) : (execCtxClose cid s).fuses? = some s.fuses := by
  unfold execCtxClose
  refine whenLive_fuses? _ _ _ fun t => ?_
  dsimp only
  repeat' split
  all_goals simp

@[simp] theorem execCtxRelease_fuses? (cid : BitVec 16) (s : State) :
    (execCtxRelease cid s).fuses? = some s.fuses := by simp [execCtxRelease]

@[simp] theorem execCtxReset_fuses? (cid : BitVec 16) (s : State) :
    (execCtxReset cid s).fuses? = some s.fuses := by simp [execCtxReset]

@[simp] theorem execCtxLose_fuses? (cid : BitVec 16) (s : State) : (execCtxLose cid s).fuses? = some s.fuses := by
  unfold execCtxLose
  refine whenLive_fuses? _ _ _ fun t => ?_
  dsimp only
  repeat' split
  all_goals simp

@[simp] theorem execGroupBind_fuses? (group cid : BitVec 16) (s : State) :
    (execGroupBind group cid s).fuses? = some s.fuses := by simp [execGroupBind]

@[simp] theorem execGroupUnbind_fuses? (group : BitVec 16) (s : State) :
    (execGroupUnbind group s).fuses? = some s.fuses := by simp [execGroupUnbind]

@[simp] theorem execQueueEnable_fuses? (qid : BitVec 16) (bad : Bool) (s : State) :
    (execQueueEnable qid bad s).fuses? = some s.fuses := by
  rw [show execQueueEnable = _ from by delta execQueueEnable; rfl]
  refine objCommand_fuses? _ _ fun t => ?_
  change SameFuses t _
  have hresult (r : State) (c d : Nat) : SameFuses r (r.result c d) := State.result_fuses ..
  have hbad (r : State) (c va : Nat) : SameFuses r (r.badDataRec c va) := State.badDataRec_fuses ..
  have hrefused (r : State) (c va : Nat) : SameFuses r (r.refusedRec c none va) := State.refusedRec_fuses ..
  have hset (r : State) (q : Nat) (x : Queue) : SameFuses r (r.setQueue q x) := State.setQueue_fuses ..
  extract_lets +onlyGivenNames q
  split
  · exact hresult ..
  · split
    · exact hresult ..
    · split
      · exact .trans (hresult ..) (hbad ..)
      · split
        · exact .trans (hresult ..) (hrefused ..)
        · split
          · exact hresult ..
          · exact .trans (hresult ..) (hset ..)

@[simp] theorem State.writeBack_fuses (s : State) (q : Nat) : (s.writeBack q).fuses = s.fuses := by
  change SameFuses s (s.writeBack q)
  rw [show State.writeBack = _ from by delta State.writeBack; rfl]
  dsimp only
  split
  · exact State.refusedRec_fuses _ _ _ _
  · next h => exact .trans (State.ownWrite_getD_fuses _ _ _ _ _ rfl) (State.ownWrite_fuses h)

@[simp] theorem State.disableQueue_fuses (s : State) (q : Nat) :
    (s.disableQueue q).fuses = s.fuses := by simp [State.disableQueue]

@[simp] theorem execQueueDisable_fuses? (qid : BitVec 16) (s : State) :
    (execQueueDisable qid s).fuses? = some s.fuses := by simp [execQueueDisable]

@[simp] theorem execQueueResume_fuses? (qid : BitVec 16) (s : State) :
    (execQueueResume qid s).fuses? = some s.fuses := by simp [execQueueResume]

@[simp] theorem State.readWaiter_fuses (s : State) (i : Nat) (e : XErr) : (s.readWaiter i e).fuses = s.fuses := by
  unfold State.readWaiter
  split <;> simp

@[simp] theorem State.enterWaiter_fuses (s : State) (i : Nat) (w : Waiter) : (s.enterWaiter i w).fuses = s.fuses := by
  unfold State.enterWaiter
  dsimp only
  repeat' split
  all_goals simp

@[simp] theorem execWaitHost_fuses? (cid vector : BitVec 16) (s : State) :
    (execWaitHost cid vector s).fuses? = some s.fuses := by
  unfold execWaitHost
  refine whenLive_fuses? _ _ _ fun t => ?_
  dsimp only
  repeat' split
  all_goals simp

@[simp] theorem execWaitPoke_fuses? (cid : BitVec 16) (s : State) : (execWaitPoke cid s).fuses? = some s.fuses := by
  unfold execWaitPoke
  refine whenLive_fuses? _ _ _ fun t => ?_
  dsimp only
  repeat' split
  all_goals simp

@[simp] theorem execWaitCancel_fuses? (index : BitVec 16) (s : State) :
    (execWaitCancel index s).fuses? = some s.fuses := by simp [execWaitCancel]

@[simp] theorem execDrainLimitExpire_fuses? (cid : BitVec 16) (s : State) :
    (execDrainLimitExpire cid s).fuses? = some s.fuses := by simp [execDrainLimitExpire]

@[simp] theorem State.invalCid_fuses (s : State) (cid : Nat) : (s.invalCid cid).fuses = s.fuses := rfl

@[simp] theorem State.zeroCtxMon_fuses (s : State) (cid : Nat) : (s.zeroCtxMon cid).fuses = s.fuses := rfl

@[simp] theorem execDrainEnd_fuses? (cid : BitVec 16) (s : State) : (execDrainEnd cid s).fuses? = some s.fuses := by
  unfold execDrainEnd
  refine whenLive_fuses? _ _ _ fun t => ?_
  dsimp only
  repeat' split
  all_goals simp

/-! ## Suspended translations -/

@[simp] theorem State.fqWrite_fuses (s : State) (x : Susp) (seq : Nat) : (s.fqWrite x seq).fuses = s.fuses := by
  unfold State.fqWrite
  dsimp only
  split
  · simp
  · next h => simp [State.ownWrite_fuses h]

@[simp] theorem State.fqPump_fuses (s : State) (l : List Susp) : (s.fqPump l).fuses = s.fuses := by
  induction l generalizing s with
  | nil => rfl
  | cons x r ih =>
    unfold State.fqPump
    repeat' split
    all_goals simp [ih]

@[simp] theorem State.fqServe_fuses (s : State) : (s.fqServe).fuses = s.fuses := by simp [State.fqServe]

@[simp] theorem State.suspend_fuses (s : State) (unit src cid qid index inst va : Nat) (acc : Access) (fqUnit : Nat)
    (e : XErr) :
    (s.suspend unit src cid qid index inst va acc fqUnit e).1.fuses = s.fuses := by simp [State.suspend]

/-! ## Submission: queues, packets and their completion -/

@[simp] theorem State.takeRefs_fuses (s : State) (cid raw : Nat) (bad : Option Nat) (hs : List (Nat × Nat × Nat))
    (got : List Ref) :
    (s.takeRefs cid raw bad hs got).1.fuses = s.fuses := by
  induction hs generalizing s got with
  | nil => rfl
  | cons x hs ih =>
    unfold State.takeRefs
    split <;> next h => simp [ih, fst_fuses h]

@[simp] theorem State.takeFence_fuses (s : State) (cid raw : Nat) (bad : Option Nat) :
    (s.takeFence cid raw bad).1.fuses = s.fuses := by
  unfold State.takeFence
  split
  · split <;> next h => simp [fst_fuses h]
  · rfl

@[simp] theorem State.admitEntry_fuses (s : State) (q cid index raw : Nat) (bad : Option Nat) :
    (s.admitEntry q cid index raw bad).1.fuses = s.fuses := by
  unfold State.admitEntry
  dsimp only
  split
  · split
    · next h => simp [fst_fuses h]
    · next h => split <;> simp [fst_fuses h]
  · split
    · next h => split <;> simp [fst_fuses h]
    · next h =>
      split
      · simp [fst_fuses h]
      · split <;> simp [fst_fuses h]

@[simp] theorem State.admitCancelled_fuses (s : State) (cid index raw : Nat) (bad : Option Nat) :
    (s.admitCancelled cid index raw bad).1.fuses = s.fuses := by
  unfold State.admitCancelled
  dsimp only
  split <;> next h => simp [fst_fuses h]

@[simp] theorem State.stage_fuses (s : State) (q cid : Nat) : (s.stage q cid).fuses = s.fuses := by simp [State.stage]

@[simp] theorem State.takeDoorbell_fuses (s : State) (q value : Nat) : (s.takeDoorbell q value).fuses = s.fuses := by
  unfold State.takeDoorbell
  split <;> simp

@[simp] theorem State.ringFailed_fuses (s : State) (q cid : Nat) (e : XErr) :
    (s.ringFailed q cid e).fuses = s.fuses := by simp [State.ringFailed]

theorem State.writeVaBy_fuses {s t : State} {who cid va : Nat} {bs : List Byte}
    (h : s.writeVaBy who cid va bs = .ok t) :
    t.fuses = s.fuses := by
  induction bs generalizing va t with
  | nil =>
    cases h
    rfl
  | cons b bs ih =>
    unfold State.writeVaBy at h
    split at h
    · cases h
    · split at h
      · cases h
      · next hw =>
        cases h
        simp [ih hw]

@[simp] theorem execStageReadComplete_fuses? (qid : BitVec 16) (bad : Option (BitVec 3)) (s : State) :
    (execStageReadComplete qid bad s).fuses? = some s.fuses := by
  unfold execStageReadComplete
  refine whenLive_fuses? _ _ _ fun t => congrArg some ?_
  dsimp only
  split
  · split
    · simp
    · split
      · simp
      · split
        · next h => simp [fst_fuses h]
        · next h => split <;> simp [fst_fuses h]
  · rfl

@[simp] theorem execPacketFetch_fuses? (qid : BitVec 16) (bad : Option (BitVec 3)) (s : State) :
    (execPacketFetch qid bad s).fuses? = some s.fuses := by
  unfold execPacketFetch
  refine whenLive_fuses? _ _ _ fun t => ?_
  dsimp only
  repeat' split
  all_goals simp

@[simp] theorem State.started_fuses (s : State) (q i : Nat) (f : Pkt → Pkt) : (s.started q i f).fuses = s.fuses := rfl

@[simp] theorem execNop_fuses? (qid : BitVec 16) (index : BitVec 32) (s : State) :
    (execNop qid index s).fuses? = some s.fuses := by
  unfold execNop
  refine whenLive_fuses? _ _ _ fun t => ?_
  dsimp only
  split <;> simp

@[simp] theorem execTask_fuses? (qid : BitVec 16) (index : BitVec 32) (s : State) :
    (execTask qid index s).fuses? = some s.fuses := by
  unfold execTask
  refine whenLive_fuses? _ _ _ fun t => ?_
  dsimp only
  split <;> simp

@[simp] theorem execTaskGroup_fuses? (qid : BitVec 16) (index : BitVec 32) (s : State) :
    (execTaskGroup qid index s).fuses? = some s.fuses := by
  unfold execTaskGroup
  refine whenLive_fuses? _ _ _ fun t => ?_
  dsimp only
  split <;> simp

@[simp] theorem execFenceSignal_fuses? (qid : BitVec 16) (index : BitVec 32) (s : State) :
    (execFenceSignal qid index s).fuses? = some s.fuses := by
  unfold execFenceSignal
  refine whenLive_fuses? _ _ _ fun t => ?_
  dsimp only
  split <;> simp

@[simp] theorem execFenceWait_fuses? (qid : BitVec 16) (index : BitVec 32) (s : State) :
    (execFenceWait qid index s).fuses? = some s.fuses := by
  unfold execFenceWait
  refine whenLive_fuses? _ _ _ fun t => ?_
  dsimp only
  repeat' split
  all_goals simp

@[simp] theorem execBarrier_fuses? (qid : BitVec 16) (index : BitVec 32) (s : State) :
    (execBarrier qid index s).fuses? = some s.fuses := by
  unfold execBarrier
  refine whenLive_fuses? _ _ _ fun t => ?_
  dsimp only
  split <;> simp

@[simp] theorem State.dmaStart_fuses (s : State) (n : Nat) : (s.dmaStart n).fuses = s.fuses := by
  unfold State.dmaStart
  repeat' split
  all_goals simp

@[simp] theorem State.toDma_fuses (s : State) (q i raw : Nat) :
    (s.toDma q i raw).fuses = s.fuses := by simp [State.toDma]

@[simp] theorem execCopy_fuses? (qid : BitVec 16) (index : BitVec 32) (s : State) :
    (execCopy qid index s).fuses? = some s.fuses := by
  unfold execCopy
  refine whenLive_fuses? _ _ _ fun t => ?_
  dsimp only
  split <;> simp

@[simp] theorem execFill_fuses? (qid : BitVec 16) (index : BitVec 32) (s : State) :
    (execFill qid index s).fuses? = some s.fuses := by
  unfold execFill
  refine whenLive_fuses? _ _ _ fun t => ?_
  dsimp only
  split <;> simp

@[simp] theorem execPrefetch_fuses? (qid : BitVec 16) (index : BitVec 32) (s : State) :
    (execPrefetch qid index s).fuses? = some s.fuses := by
  unfold execPrefetch
  refine whenLive_fuses? _ _ _ fun t => ?_
  dsimp only
  split <;> simp

@[simp] theorem execAdvise_fuses? (qid : BitVec 16) (index : BitVec 32) (s : State) :
    (execAdvise qid index s).fuses? = some s.fuses := by
  unfold execAdvise
  refine whenLive_fuses? _ _ _ fun t => ?_
  dsimp only
  split <;> simp

@[simp] theorem execMigrate_fuses? (qid : BitVec 16) (index : BitVec 32) (s : State) :
    (execMigrate qid index s).fuses? = some s.fuses := by
  unfold execMigrate
  refine whenLive_fuses? _ _ _ fun t => ?_
  dsimp only
  split <;> simp

@[simp] theorem execTimestamp_fuses? (qid : BitVec 16) (index : BitVec 32) (s : State) :
    (execTimestamp qid index s).fuses? = some s.fuses := by
  unfold execTimestamp
  refine whenLive_fuses? _ _ _ fun t => congrArg some ?_
  dsimp only
  split
  · rfl
  · split
    · next h => simp [State.writeVaBy_fuses h]
    · split <;> simp

theorem State.dmaBlock_fuses {s t : State} {en cid raw done n : Nat} (h : s.dmaBlock en cid raw done = .ok (t, n)) :
    t.fuses = s.fuses := by
  unfold State.dmaBlock at h
  dsimp only at h
  split at h
  · split at h
    · next hw =>
      cases h
      exact State.writeVaBy_fuses hw
    · cases h
  · split at h
    · cases h
    · split at h
      · split at h <;> cases h
        simp
      · split at h
        · next hw =>
          cases h
          exact State.writeVaBy_fuses hw
        · cases h

@[simp] theorem State.dmaBlocks_fuses (s : State) (en cid raw done k : Nat) :
    (s.dmaBlocks en cid raw done k).1.fuses = s.fuses := by
  induction k generalizing s done with
  | zero => rfl
  | succ k ih =>
    unfold State.dmaBlocks
    extract_lets len
    split
    · rfl
    · split
      · rfl
      · next h => simp [ih, State.dmaBlock_fuses h]

@[simp] theorem State.takeHint_fuses (s : State) (en cid raw : Nat) : (s.takeHint en cid raw).fuses = s.fuses := by
  unfold State.takeHint
  extract_lets a len hint skip tlb lines bring drop demote
  have hskip (t : State) : (skip t).fuses = t.fuses := State.sat_fuses _ _ _
  have htlb (t : State) : (tlb t).fuses = t.fuses := foldl_fuses _ _ _ fun p t => by
    dsimp only
    split
    · simp
    · exact hskip t
  have hlines (t : State) (f : State → Nat → State) (hf : ∀ t l, (f t l).fuses = t.fuses) :
      (lines t f).fuses = t.fuses := by
    refine (foldl_fuses _ _ _ fun l t => ?_).trans (foldl_fuses _ _ _ fun _ t => hskip t)
    dsimp only
    split
    · rfl
    · split
      · exact hf _ _
      · exact hskip t
  repeat' split
  · exact hlines s bring fun _ _ => rfl
  · exact htlb s
  · exact (hlines _ bring fun _ _ => rfl).trans (htlb s)
  · exact hskip s
  · exact hlines s drop fun _ _ => rfl
  · exact hlines s demote fun _ _ => rfl
  · exact hskip s

@[simp] theorem State.dmaLeave_fuses (s : State) (n q i : Nat) (f : Pkt → Pkt) :
    (s.dmaLeave n q i f).fuses = s.fuses := by simp [State.dmaLeave]

@[simp] theorem State.dmaRun_fuses (s : State) (n : Nat) : (s.dmaRun n).fuses = s.fuses := by
  unfold State.dmaRun
  split
  · rfl
  · split
    · rfl
    · split
      · rfl
      · split
        · simp
        · split
          · next h => simp [fst_fuses h]
          · next h =>
            dsimp only
            split
            · simp [fst_fuses h]
            · split <;> simp [fst_fuses h]

@[simp] theorem execDmaTransferComplete_fuses? (engine : BitVec 1) (s : State) :
    (execDmaTransferComplete engine s).fuses? = some s.fuses := by simp [execDmaTransferComplete]

@[simp] theorem State.cancelPkt_fuses (s : State) (q blocks : Nat) (p : Pkt) :
    (s.cancelPkt q blocks p).1.fuses = s.fuses := by
  unfold State.cancelPkt
  dsimp only
  repeat' split
  all_goals simp

@[simp] theorem State.withdraw_fuses (s : State) (q i : Nat) : (s.withdraw q i).fuses = s.fuses := by
  unfold State.withdraw
  split <;> simp

@[simp] theorem State.takeCancel_fuses (s : State) (q value blocks : Nat) :
    (s.takeCancel q value blocks).fuses = s.fuses := by
  change SameFuses s _
  rw [show State.takeCancel = _ from by delta State.takeCancel; rfl]
  have hsat (u : State) (n : Nat) : SameFuses u (u.sat Reg.DSP_SUBMIT_COUNTS_CANCEL_DROP n) := State.sat_fuses ..
  have hdisp (u : State) (d : Disp) : SameFuses u { u with disp := d } := rfl
  have hupd (u : State) (f : Queue → Queue) : SameFuses u (u.updQueue q f) := State.updQueue_fuses ..
  extract_lets +onlyGivenNames index range miss x
  have hmiss (r : State) : SameFuses r (miss r) := State.sat_fuses ..
  clear_value miss
  split
  · exact hmiss _
  · split
    · exact hmiss _
    · extract_lets +onlyGivenNames lo named
      split
      next t hit hfold =>
      have ht : t.fuses = s.fuses := by
        rw [fst_fuses hfold]
        exact foldl_fst_fuses _ (fun p a => by simp) _ _
      clear hfold
      extract_lets +onlyGivenNames reading t1 hit1
      have ht1 : t1.fuses = s.fuses := by simp [t1, ht]
      clear_value t1
      split
      next r last hstaged =>
      have hr : SameFuses s r := by
        refine (fst_fuses hstaged).trans ?_
        split <;> simp [ht1]
      clear hstaged
      have hlast : SameFuses s (if last = true then r else miss r) := by
        split
        · exact hr
        · exact .trans (hmiss r) hr
      extract_lets +onlyGivenNames unfetched rel
      split
      · exact hlast
      · split
        · split
          · split
            · exact hr
            · split
              · exact .trans (hsat ..) hr
              · exact .trans (hdisp ..) hr
          · exact hlast
        · split
          · exact .trans (hupd ..) hr
          · exact hlast

@[simp] theorem State.takeWrite_fuses (s : State) (w : DbWrite) :
    (s.takeWrite w).fuses = s.fuses := by simp [State.takeWrite]

@[simp] theorem State.takeWrites_fuses (s : State) : (s.takeWrites).fuses = s.fuses := by simp [State.takeWrites]

@[simp] theorem State.hostDoorbell_fuses (s : State) (w : DbWrite) :
    (s.hostDoorbell w).fuses = s.fuses := by simp [State.hostDoorbell]

@[simp] theorem execDoorbell_fuses? (qid : BitVec 16) (value : BitVec 64) (s : State) :
    (execDoorbell qid value s).fuses? = some s.fuses := by simp [execDoorbell]

@[simp] theorem execCancel_fuses? (qid : BitVec 16) (value : BitVec 64) (blocks : BitVec 32) (s : State) :
    (execCancel qid value blocks s).fuses? = some s.fuses := by simp [execCancel]

@[simp] theorem State.writeRecord_fuses (s : State) (q cid : Nat) (p : Pkt) (e : PktEnd) (seq : Nat) :
    (s.writeRecord q cid p e seq).fuses = s.fuses := by
  unfold State.writeRecord
  dsimp only
  split
  · split
    · next h => simp [State.writeVaBy_fuses h]
    · simp
  · rfl

@[simp] theorem State.serveBarrier_fuses (s : State) (q : Nat) : (s.serveBarrier q).fuses = s.fuses := by
  unfold State.serveBarrier
  split <;> simp

@[simp] theorem execPacketRetire_fuses? (qid : BitVec 16) (index : BitVec 32) (bad : Option (BitVec 3)) (s : State) :
    (execPacketRetire qid index bad s).fuses? = some s.fuses := by
  unfold execPacketRetire
  refine whenLive_fuses? _ _ _ fun t => ?_
  dsimp only
  repeat' split
  all_goals simp

/-! ## The dispatcher -/

@[simp] theorem State.pickPhase_fuses (s : State) : (s.pickPhase).fuses = s.fuses := by
  unfold State.pickPhase
  repeat' split
  all_goals simp

@[simp] theorem State.sendOne_fuses (s : State) (q i t inst : Nat) (resume : Bool) :
    (s.sendOne q i t inst resume).fuses = s.fuses := by
  unfold State.sendOne
  repeat' split
  all_goals simp

@[simp] theorem State.sendTo_fuses (s : State) (k : Pick) (t inst : Nat) : (s.sendTo k t inst).fuses = s.fuses := by
  unfold State.sendTo
  split <;> simp

@[simp] theorem State.sendPhase_fuses (s : State) (pick : Option Pick) : (s.sendPhase pick).fuses = s.fuses := by
  unfold State.sendPhase
  split <;> simp

@[simp] theorem State.enterPhase_fuses (s : State) : (s.enterPhase).fuses = s.fuses := by simp [State.enterPhase]

@[simp] theorem State.missFor_fuses (s : State) (cid : Nat) : (s.missFor cid).fuses = s.fuses := rfl

@[simp] theorem State.startMissOf_fuses (s : State) (q i inst : Nat) : (s.startMissOf q i inst).fuses = s.fuses := by
  unfold State.startMissOf
  split <;> simp

@[simp] theorem State.finishMissOf_fuses (s : State) (q i : Nat) : (s.finishMissOf q i).fuses = s.fuses := by
  unfold State.finishMissOf
  split <;> simp

@[simp] theorem State.budgetOf_fuses (s : State) (q i inst : Nat) : (s.budgetOf q i inst).fuses = s.fuses := by
  unfold State.budgetOf
  repeat' split
  all_goals simp

@[simp] theorem State.budgetHardOf_fuses (s : State) (q i inst : Nat) : (s.budgetHardOf q i inst).fuses = s.fuses := by
  unfold State.budgetHardOf
  repeat' split
  all_goals simp

@[simp] theorem State.timeOf_fuses (s : State) (q : Nat) (p : Pkt) :
    (s.timeOf q p).fuses = s.fuses := by simp [State.timeOf]

@[simp] theorem State.timePhase_fuses (s : State) : (s.timePhase).fuses = s.fuses := by simp [State.timePhase]

@[simp] theorem State.sendDemand_fuses (s : State) (c : Nat) :
    (s.sendDemand c).fuses = s.fuses := by simp [State.sendDemand]

@[simp] theorem State.demandPhase_fuses (s : State) : (s.demandPhase).fuses = s.fuses := by simp [State.demandPhase]

@[simp] theorem execDispatcherCycle_fuses? (s : State) :
    (execDispatcherCycle s).fuses? = some s.fuses := by simp [execDispatcherCycle]

@[simp] theorem execStartMiss_fuses? (qid inst : BitVec 16) (index : BitVec 32) (s : State) :
    (execStartMiss qid inst index s).fuses? = some s.fuses := by simp [execStartMiss]

@[simp] theorem execFinishMiss_fuses? (qid : BitVec 16) (index : BitVec 32) (s : State) :
    (execFinishMiss qid index s).fuses? = some s.fuses := by simp [execFinishMiss]

@[simp] theorem execBudgetOverrun_fuses? (qid inst : BitVec 16) (index : BitVec 32) (s : State) :
    (execBudgetOverrun qid inst index s).fuses? = some s.fuses := by simp [execBudgetOverrun]

@[simp] theorem execBudgetHard_fuses? (qid inst : BitVec 16) (index : BitVec 32) (s : State) :
    (execBudgetHard qid inst index s).fuses? = some s.fuses := by simp [execBudgetHard]

@[simp] theorem State.phaseZero_fuses (s : State) (t : Nat) : (s.phaseZero t).fuses = s.fuses := rfl

@[simp] theorem execHandover_fuses? (tile : BitVec 6) (s : State) : (execHandover tile s).fuses? = some s.fuses := by
  unfold execHandover
  refine whenLive_fuses? _ _ _ fun t => ?_
  dsimp only
  repeat' split
  all_goals simp

@[simp] theorem State.haltTile_fuses (s : State) (t cause : Nat) : (s.haltTile t cause).fuses = s.fuses := by
  unfold State.haltTile
  split <;> simp

@[simp] theorem State.unhaltTile_fuses (s : State) (t : Nat) : (s.unhaltTile t).fuses = s.fuses := by
  unfold State.unhaltTile
  split <;> simp

@[simp] theorem State.payWeir_fuses (s : State) (q sentAt : Nat) :
    (s.payWeir q sentAt).fuses = s.fuses := by simp [State.payWeir]

@[simp] theorem State.freeTile_fuses (s : State) (t : Nat) : (s.freeTile t).fuses = s.fuses := rfl

@[simp] theorem State.endRun_fuses (s : State) (q i inst : Nat) (e : PktEnd) (st : RunStats) (n : Nat) :
    (s.endRun q i inst e st n).fuses = s.fuses := by simp [State.endRun]

@[simp] theorem State.leave_fuses (s : State) (t : Nat) (e : PktEnd) : (s.leave t e).fuses = s.fuses := by
  unfold State.leave
  split <;> simp

@[simp] theorem execAbortComplete_fuses? (tile : BitVec 6) (s : State) :
    (execAbortComplete tile s).fuses? = some s.fuses := by
  unfold execAbortComplete
  refine whenLive_fuses? _ _ _ fun t => ?_
  dsimp only
  repeat' split
  all_goals simp

@[simp] theorem execTaskEnd_fuses? (tile : BitVec 6) (s : State) :
    (execTaskEnd tile s).fuses? = some s.fuses := by simp [execTaskEnd]

@[simp] theorem State.tileFault_fuses (s : State) (t code detail cid : Nat) (qid : Option Nat) :
    (s.tileFault t code detail cid qid).fuses = s.fuses := by simp [State.tileFault]

@[simp] theorem execTaskExceptionEnd_fuses? (tile : BitVec 6) (s : State) :
    (execTaskExceptionEnd tile s).fuses? = some s.fuses := by
  unfold execTaskExceptionEnd
  refine whenLive_fuses? _ _ _ fun t => ?_
  dsimp only
  split <;> simp

@[simp] theorem State.switchOut_fuses (s : State) (t : Nat) : (s.switchOut t).1.fuses = s.fuses := by
  unfold State.switchOut
  dsimp only
  repeat' split
  all_goals simp

theorem State.slotWrite_fuses {s t : State} {cid : Nat} {l : List (Nat × List Byte)} (h : s.slotWrite cid l = some t) :
    t.fuses = s.fuses := by
  refine List.foldlRecOn (motive := fun o => ∀ r, o = some r → r.fuses = s.fuses) l _ ?_ ?_ t h
  · rintro _ ⟨⟩
    rfl
  · intro o ho e _ r hr
    cases o with
    | none => cases hr
    | some u => exact (State.ownWrite_fuses hr).trans (ho u rfl)

@[simp] theorem State.swapFailed_fuses (s : State) (t p k q i : Nat) (r : Run) (st : RunStats) (cid : Nat)
    (load : Bool) :
    (s.swapFailed t p k q i r st cid load).fuses = s.fuses :=
  calc (s.swapFailed t p k q i r st cid load).fuses
    _ = _ := State.endRun_fuses ..
    _ = _ := State.dropSusp_fuses ..
    _ = _ := State.freeTile_fuses ..
    _ = _ := State.freeSlot_fuses ..
    _ = _ := State.payWeir_fuses ..
    _ = _ := State.put_fuses ..
    _ = _ := State.faultC_fuses ..
    _ = s.fuses := State.refusedRec_fuses ..

@[simp] theorem State.placeNext_fuses (s : State) (t : Nat) (next : Option (Nat × Nat × Nat × Bool)) :
    (s.placeNext t next).fuses = s.fuses := by
  unfold State.placeNext
  split <;> simp

@[simp] theorem State.saveDone_fuses (s : State) (t p k q i : Nat) (r : Run) :
    (s.saveDone t p k q i r).fuses = s.fuses := by
  unfold State.saveDone
  extract_lets x raw faulted b banks parts
  split
  · simp
  · next h =>
    dsimp only
    split <;> simp [State.slotWrite_fuses h]

@[simp] theorem State.loadDone_fuses (s : State) (t p k q i : Nat) (r : Run) :
    (s.loadDone t p k q i r).fuses = s.fuses := by
  have hload (u : State) (x : Tile) : SameFuses u (((u.setTile t x).freeSlot p k).phaseZero t) :=
    .trans (State.phaseZero_fuses ..) (.trans (State.freeSlot_fuses ..) (State.setTile_fuses ..))
  have hdtile (u : State) (d : DTile) : SameFuses u (u.setDtile t d) := State.setDtile_fuses ..
  have hpkt (u : State) (f : Pkt → Pkt) : SameFuses u (u.updPkt q i f) := State.updPkt_fuses ..
  have habort (u : State) : SameFuses u (u.updTile t Tile.abortOrder) := State.updTile_fuses ..
  have hfailed (u : State) (st : RunStats) (cid : Nat) : SameFuses u (u.swapFailed t p k q i r st cid true) :=
    State.swapFailed_fuses ..
  have hrfl (u : State) : SameFuses u u := rfl
  change SameFuses s _
  rw [show State.loadDone = _ from by delta State.loadDone; rfl]
  obtain ⟨read, hread⟩ : ∃ f, f = State.ownRead := ⟨_, rfl⟩
  rw [← hread]
  split
  · extract_lets +onlyGivenNames b scid
    split
    · extract_lets +onlyGivenNames banks rd x s1 d s2 s3
      have h3 : SameFuses s s3 := .trans (hpkt s2 _) (.trans (hdtile s1 _) (hload s _))
      clear_value s3
      split
      · exact .trans (habort _) h3
      · exact h3
    · exact hfailed ..
  · exact hrfl _

@[simp] theorem State.stateDone_fuses (s : State) (t q i : Nat) : (s.stateDone t q i).fuses = s.fuses := by
  unfold State.stateDone
  split
  · rfl
  · dsimp only
    split
    · split
      · split <;> simp
      · next h => simp [State.writeVaBy_fuses h]
    · split
      · split <;> simp
      · simp

@[simp] theorem State.tileError_fuses (s : State) (u cid : Nat) (h : TileHit) :
    (s.tileError u cid h).fuses = s.fuses := by simp [State.tileError]

@[simp] theorem State.readEcc_fuses (s : State) (u cid : Nat) (rs : List (Nat × Nat)) (hits : List TileHit) :
    (s.readEcc u cid rs hits).1.fuses = s.fuses := by
  unfold State.readEcc
  split <;> simp

@[simp] theorem State.saveEcc_fuses (s : State) (t : Nat) (hits : List TileHit) :
    (s.saveEcc t hits).fuses = s.fuses := by simp [State.saveEcc]

@[simp] theorem execSwapComplete_fuses? (tile : BitVec 6) (hits : List TileHit) (s : State) :
    (execSwapComplete tile hits s).fuses? = some s.fuses := by
  unfold execSwapComplete
  refine whenLive_fuses? _ _ _ fun t => ?_
  dsimp only
  repeat' split
  all_goals simp

@[simp] theorem State.startState_fuses (s : State) (q i op : Nat) : (s.startState q i op).fuses = s.fuses := by
  unfold State.startState
  split <;> simp

@[simp] theorem execStateSave_fuses? (qid : BitVec 16) (index : BitVec 32) (s : State) :
    (execStateSave qid index s).fuses? = some s.fuses := by simp [execStateSave]

@[simp] theorem execStateLoad_fuses? (qid : BitVec 16) (index : BitVec 32) (s : State) :
    (execStateLoad qid index s).fuses? = some s.fuses := by simp [execStateLoad]

@[simp] theorem execClaimLapse_fuses? (tile : BitVec 6) (s : State) :
    (execClaimLapse tile s).fuses? = some s.fuses := by simp [execClaimLapse]

@[simp] theorem State.fenceCluster_fuses (s : State) (c : Nat) :
    (s.fenceCluster c).fuses = s.fuses := by simp [State.fenceCluster]

@[simp] theorem execFenceOrder_fuses? (cluster : BitVec 4) (s : State) :
    (execFenceOrder cluster s).fuses? = some s.fuses := by simp [execFenceOrder]

@[simp] theorem State.abortOn_fuses (s : State) (c code unit src detail : Nat) :
    (s.abortOn c code unit src detail).fuses = s.fuses := by
  unfold State.abortOn
  refine foldl_fuses _ _ _ fun t a => ?_
  dsimp only
  repeat' split
  all_goals simp

@[simp] theorem execFenceLimitExpire_fuses? (cluster : BitVec 4) (s : State) :
    (execFenceLimitExpire cluster s).fuses? = some s.fuses := by
  unfold execFenceLimitExpire
  refine whenLive_fuses? _ _ _ fun t => ?_
  dsimp only
  split <;> simp

@[simp] theorem execFenceAck_fuses? (cluster : BitVec 4) (s : State) :
    (execFenceAck cluster s).fuses? = some s.fuses := by simp [execFenceAck]

@[simp] theorem State.liftFence_fuses (s : State) (c : Nat) : (s.liftFence c).fuses = s.fuses := rfl

@[simp] theorem execFenceLift_fuses? (cluster : BitVec 4) (s : State) :
    (execFenceLift cluster s).fuses? = some s.fuses := by simp [execFenceLift]

@[simp] theorem execClear_fuses? (s : State) : (execClear s).fuses? = some s.fuses := by
  unfold execClear whenLive
  repeat' split
  all_goals simp

@[simp] theorem execSchedClear_fuses? (s : State) : (execSchedClear s).fuses? = some s.fuses := by
  unfold execSchedClear whenLive
  repeat' split
  all_goals simp

@[simp] theorem State.flushIstore_fuses (s : State) (t : Nat) :
    (s.flushIstore t).fuses = s.fuses := by simp [State.flushIstore]

@[simp] theorem execIstoreFlush_fuses? (tile : BitVec 6) (s : State) :
    (execIstoreFlush tile s).fuses? = some s.fuses := by simp [execIstoreFlush]

@[simp] theorem execTileCountsClear_fuses? (tile : BitVec 6) (s : State) :
    (execTileCountsClear tile s).fuses? = some s.fuses := by simp [execTileCountsClear]

/-! ## Operands -/

@[simp] theorem State.countUnwritten_fuses (s : State) (u n : Nat) :
    (s.countUnwritten u n).fuses = s.fuses := by simp [State.countUnwritten]

/-! ## Translation -/

@[simp] theorem State.queueWalk_fuses (s : State) (who cid va : Nat) :
    (s.queueWalk who cid va).fuses = s.fuses := by simp [State.queueWalk]

@[simp] theorem State.missLookup_fuses (s : State) (who cid va : Nat) (acc : Access) :
    (s.missLookup who cid va acc).fuses = s.fuses := by
  unfold State.missLookup
  repeat' split
  all_goals simp

@[simp] theorem State.secondLookup_fuses (s : State) (who cid va : Nat) (acc : Access) :
    (s.secondLookup who cid va acc).fuses = s.fuses := by
  unfold State.secondLookup
  split <;> simp

@[simp] theorem State.lookup_fuses (s : State) (who cid va : Nat) (acc : Access) :
    (s.lookup who cid va acc).fuses = s.fuses := by
  unfold State.lookup
  dsimp only
  repeat' split
  all_goals simp

@[simp] theorem execXltLookup_fuses? (who : BitVec 8) (cid : BitVec 10) (va : BitVec 64) (acc : Access) (s : State) :
    (execXltLookup who cid va acc s).fuses? = some s.fuses := by simp [execXltLookup]

@[simp] theorem State.startWalk_fuses (s : State) : (s.startWalk).fuses = s.fuses := by
  unfold State.startWalk
  repeat' split
  all_goals simp

@[simp] theorem execWalkStart_fuses? (s : State) : (execWalkStart s).fuses? = some s.fuses := by simp [execWalkStart]

@[simp] theorem State.endWalk_fuses (s : State) (w : Walk) : (s.endWalk w).fuses = s.fuses := rfl

@[simp] theorem State.fillCache_fuses (s : State) (e : WalkEntry) :
    (s.fillCache e).fuses = s.fuses := by simp [State.fillCache]

@[simp] theorem State.walkFailed_fuses (s : State) (w : Walk) (ea : Nat) :
    (s.walkFailed w ea).fuses = s.fuses := by simp [State.walkFailed]

@[simp] theorem State.walkOk_fuses (s : State) (w : Walk) (x : Xlat) :
    (s.walkOk w x).fuses = s.fuses := by simp [State.walkOk]

@[simp] theorem State.walkEntry_fuses (s : State) (w : Walk) (e : Nat) :
    (s.walkEntry w e).fuses = s.fuses := by simp [State.walkEntry]

@[simp] theorem State.walkRead_fuses (s : State) (w : Walk) (ecc : EccEnd) : (s.walkRead w ecc).fuses = s.fuses := by
  unfold State.walkRead
  split <;> simp

@[simp] theorem execWalkRead_fuses? (cid : BitVec 10) (va : BitVec 64) (ecc : EccEnd) (s : State) :
    (execWalkRead cid va ecc s).fuses? = some s.fuses := by
  unfold execWalkRead
  refine whenLive_fuses? _ _ _ fun t => ?_
  repeat' split
  all_goals simp

@[simp] theorem execWalkWeirRefill_fuses? (s : State) :
    (execWalkWeirRefill s).fuses? = some s.fuses := by simp [execWalkWeirRefill]

@[simp] theorem State.invalidate_fuses (s : State) (cid : Nat) :
    (s.invalidate cid).fuses = s.fuses := by simp [State.invalidate]

@[simp] theorem execXltInval_fuses? (value : BitVec 32) (s : State) :
    (execXltInval value s).fuses? = some s.fuses := by simp [execXltInval]

@[simp] theorem execInvalidateComplete_fuses? (s : State) : (execInvalidateComplete s).fuses? = some s.fuses := by
  unfold execInvalidateComplete
  refine whenLive_fuses? _ _ _ fun t => ?_
  dsimp only
  split <;> simp

@[simp] theorem State.faultResult_fuses (s : State) (r : Nat) : (s.faultResult r).fuses = s.fuses := rfl

@[simp] theorem State.freeSusp_fuses (s : State) (tok : Nat) :
    (s.freeSusp tok).fuses = s.fuses := by simp [State.freeSusp]

@[simp] theorem State.resumeSusp_fuses (s : State) (x : Susp) : (s.resumeSusp x).fuses = s.fuses := by
  unfold State.resumeSusp
  repeat' split
  all_goals simp

@[simp] theorem State.killSusp_fuses (s : State) (x : Susp) : (s.killSusp x).fuses = s.fuses := by
  unfold State.killSusp
  repeat' split
  all_goals simp

@[simp] theorem execResume_fuses? (token : BitVec 16) (s : State) : (execResume token s).fuses? = some s.fuses := by
  unfold execResume
  refine whenLive_fuses? _ _ _ fun t => ?_
  repeat' split
  all_goals simp

@[simp] theorem execKill_fuses? (token : BitVec 16) (s : State) : (execKill token s).fuses? = some s.fuses := by
  unfold execKill
  refine whenLive_fuses? _ _ _ fun t => ?_
  repeat' split
  all_goals simp

@[simp] theorem execFqBaseWrite_fuses? (value : BitVec 64) (s : State) :
    (execFqBaseWrite value s).fuses? = some s.fuses := by simp [execFqBaseWrite]

@[simp] theorem execFqHeadWrite_fuses? (value : BitVec 32) (s : State) :
    (execFqHeadWrite value s).fuses? = some s.fuses := by simp [execFqHeadWrite]

/-! ## Power domains -/

@[simp] theorem State.trace_fuses (s : State) (kind unit : Nat) (cid : Option Nat) (data stamp : Nat) :
    (s.trace kind unit cid data stamp).fuses = s.fuses := by simp [State.trace]

@[simp] theorem State.clusterTurns_fuses (s : State) (d : Nat) (st : DomSt) :
    (s.clusterTurns d st).fuses = s.fuses := by simp [State.clusterTurns]

@[simp] theorem State.setSt_fuses (s : State) (d : Nat) (st : DomSt) :
    (s.setSt d st).fuses = s.fuses := by simp [State.setSt]

@[simp] theorem State.shiftSteps_fuses (s : State) (n : Nat) : (s.shiftSteps n).fuses = s.fuses := rfl

@[simp] theorem State.pinEvent_fuses (s : State) : (s.pinEvent).fuses = s.fuses := by simp [State.pinEvent]

@[simp] theorem State.alarmPin_fuses (s : State) : (s.alarmPin).fuses = s.fuses := rfl

@[simp] theorem State.setEng_fuses (s : State) (v : Nat) : (s.setEng v).fuses = s.fuses := by simp [State.setEng]

@[simp] theorem State.followFailures_fuses (s : State) :
    (s.followFailures).fuses = s.fuses := by simp [State.followFailures]

@[simp] theorem State.enterStop_fuses (s : State) (kind index : Nat) (failure : Bool) :
    (s.enterStop kind index failure).fuses = s.fuses := by simp [State.enterStop]

@[simp] theorem State.leaveStop_fuses (s : State) (kind index : Nat) :
    (s.leaveStop kind index).fuses = s.fuses := by simp [State.leaveStop]

@[simp] theorem State.postVolt_fuses (s : State) (c mv : Nat) :
    (s.postVolt c mv).fuses = s.fuses := by simp [State.postVolt]

@[simp] theorem State.senseFault_fuses (s : State) (r v : Nat) :
    (s.senseFault r v).fuses = s.fuses := by simp [State.senseFault]

@[simp] theorem State.senseCheck_fuses (s : State) (r rise : Nat) :
    (s.senseCheck r rise).fuses = s.fuses := by simp [State.senseCheck]

@[simp] theorem State.closeRegs_fuses (s : State) (standby : Bool) (d : Nat) :
    (s.closeRegs standby d).fuses = s.fuses := rfl

@[simp] theorem State.clearCluster_fuses (s : State) (c : Nat) :
    (s.clearCluster c).fuses = s.fuses := by simp [State.clearCluster]

@[simp] theorem State.clearHalf_fuses (s : State) (h : Nat) : (s.clearHalf h).fuses = s.fuses := rfl

@[simp] theorem State.dropCopies_fuses (s : State) (d : Nat) : (s.dropCopies d).fuses = s.fuses := rfl

@[simp] theorem State.closeFx_fuses (s : State) (standby : Bool) (d : Nat) : (s.closeFx standby d).fuses = s.fuses := by
  unfold State.closeFx
  repeat' split
  all_goals simp

@[simp] theorem State.switchOff_fuses (s : State) (standby : Bool) (d : Nat) (st : DomSt) :
    (s.switchOff standby d st).fuses = s.fuses := by simp [State.switchOff]

@[simp] theorem State.dropCapture_fuses (s : State) : (s.dropCapture).fuses = s.fuses := rfl

@[simp] theorem State.switchOffAll_fuses (s : State) (standby : Bool) (ds : List Nat) :
    (s.switchOffAll standby ds).fuses = s.fuses := by
  unfold State.switchOffAll
  refine foldl_fuses _ _ _ fun t a => ?_
  dsimp only
  repeat' split
  all_goals simp

@[simp] theorem State.note_fuses (s : State) (d step : Nat) : (s.note d step).fuses = s.fuses := by simp [State.note]

@[simp] theorem State.startDomain_fuses (s : State) (d : Nat) :
    (s.startDomain d).fuses = s.fuses := by simp [State.startDomain]

@[simp] theorem State.advance_fuses (s : State) : (s.advance).fuses = s.fuses := by
  unfold State.advance
  repeat' split
  all_goals simp

@[simp] theorem State.seqFault_fuses (s : State) (code detail : Nat) :
    (s.seqFault code detail).fuses = s.fuses := by simp [State.seqFault]

@[simp] theorem State.flightFailed_fuses (s : State) : (s.flightFailed).fuses = s.fuses := by simp [State.flightFailed]

@[simp] theorem State.endStop_fuses (s : State) (result : Nat) : (s.endStop result).fuses = s.fuses := by
  unfold State.endStop
  split <;> simp

@[simp] theorem State.stopByFailure_fuses (s : State) (d step : Nat) : (s.stopByFailure d step).fuses = s.fuses := by
  unfold State.stopByFailure
  dsimp only
  repeat' split
  all_goals simp

@[simp] theorem State.excludeHalf_fuses (s : State) (h : Nat) :
    (s.excludeHalf h).fuses = s.fuses := by simp [State.excludeHalf]

@[simp] theorem State.failStep_fuses (s : State) (d step : Nat) :
    (s.failStep d step).fuses = s.fuses := by simp [State.failStep]

@[simp] theorem State.evict_fuses (s : State) (t : Nat) (e : PktEnd) : (s.evict t e).fuses = s.fuses := by
  unfold State.evict
  split <;> simp

@[simp] theorem State.abortAll_fuses (s : State) (code unit : Nat) (rec_ : Option Nat) (p : Nat → Bool) :
    (s.abortAll code unit rec_ p).fuses = s.fuses := by simp [State.abortAll]

@[simp] theorem State.stopDispatch_fuses (s : State) : (s.stopDispatch).fuses = s.fuses := rfl

@[simp] theorem State.beginClose_fuses (s : State) (p : Nat → Bool) :
    (s.beginClose p).fuses = s.fuses := by simp [State.beginClose]

@[simp] theorem State.windDown_fuses (s : State) (p : Nat → Bool) :
    (s.windDown p).fuses = s.fuses := by simp [State.windDown]

/-! ## The alarm -/

@[simp] theorem State.mbDone_fuses (s : State) (m result : Nat) :
    (s.mbDone m result).fuses = s.fuses := by simp [State.mbDone]

@[simp] theorem State.endProp_fuses (s : State) (m : Nat) : (s.endProp m).fuses = s.fuses := rfl

@[simp] theorem State.liftAll_fuses (s : State) : (s.liftAll).fuses = s.fuses := rfl

@[simp] theorem State.endProps_fuses (s : State) : (s.endProps).fuses = s.fuses := by
  unfold State.endProps
  split <;> simp

@[simp] theorem State.quarantine_fuses (s : State) (parts : Nat) :
    (s.quarantine parts).fuses = s.fuses := by simp [State.quarantine]

@[simp] theorem State.eraseKeys_fuses (s : State) : (s.eraseKeys).fuses = s.fuses := rfl

@[simp] theorem State.haltFlight_fuses (s : State) : (s.haltFlight).fuses = s.fuses := rfl

@[simp] theorem State.alarmA3_fuses (s : State) (src : Nat) : (s.alarmA3 src).fuses = s.fuses := by simp [State.alarmA3]

@[simp] theorem State.alarm_fuses (s : State) (src code detail parts : Nat) :
    (s.alarm src code detail parts).fuses = s.fuses := by simp [State.alarm]

@[simp] theorem State.alarmWide_fuses (s : State) (src code detail : Nat) :
    (s.alarmWide src code detail).fuses = s.fuses := by simp [State.alarmWide]

@[simp] theorem execVglitch_fuses? (place : GlitchAt) (s : State) : (execVglitch place s).fuses? = some s.fuses := by
  unfold execVglitch
  split <;> simp

@[simp] theorem execCglitch_fuses? (source : BitVec 2) (s : State) :
    (execCglitch source s).fuses? = some s.fuses := by simp [execCglitch]

@[simp] theorem State.kintegrity_fuses (s : State) (f : KeeperFault) :
    (s.kintegrity f).fuses = s.fuses := by simp [State.kintegrity]

@[simp] theorem execKintegrity_fuses? (fail : KeeperFault) (s : State) :
    (execKintegrity fail s).fuses? = some s.fuses := by simp [execKintegrity]

@[simp] theorem execKfwCheck_fuses? (ok : Bool) (s : State) :
    (execKfwCheck ok s).fuses? = some s.fuses := by simp [execKfwCheck]

@[simp] theorem State.jtagLocked_fuses (s : State) (code : Nat) :
    (s.jtagLocked code).fuses = s.fuses := by simp [State.jtagLocked]

@[simp] theorem execJtagLockedInstruction_fuses? (code : BitVec 8) (s : State) :
    (execJtagLockedInstruction code s).fuses? = some s.fuses := by simp [execJtagLockedInstruction]

/-! ## The save region -/

@[simp] theorem State.savePut_fuses (s : State) (o : Nat) (bs : List Byte) :
    (s.savePut o bs).fuses = s.fuses := by simp [State.savePut]

@[simp] theorem State.saveChecked_fuses (s : State) (o : Nat) :
    (s.saveChecked o).fuses = s.fuses := by simp [State.saveChecked]

@[simp] theorem State.putKey_fuses (s : State) (key v : Nat) : (s.putKey key v).fuses = s.fuses := by
  unfold State.putKey
  split <;> simp

@[simp] theorem State.restoreDsp_fuses (s : State) (a : Nat) :
    (s.restoreDsp a).fuses = s.fuses := by simp [State.restoreDsp]

@[simp] theorem State.takeBack_fuses (s : State) (f : Fld) (v : Nat) :
    (s.takeBack f v).fuses = s.fuses := by simp [State.takeBack]

@[simp] theorem State.restoreNi_fuses (s : State) (n : Nat) (a : List Byte) :
    (s.restoreNi n a).fuses = s.fuses := by simp [State.restoreNi]

@[simp] theorem State.saveState_fuses (s : State) : (s.saveState).fuses = s.fuses := by
  change SameFuses s _
  have hput (t : State) (o : Nat) (bs : List Byte) : SameFuses t (t.savePut o bs) := State.savePut_fuses t o bs
  have hni (t : State) (n : Nat) : SameFuses t (t.savePut (0x200000 + 4096 * n) (t.niArea n)) := hput ..
  unfold State.saveState
  dsimp only
  exact .trans (hput ..) (.trans (hput ..) (.trans (hput ..) (.trans (.foldl hni _ _)
    (.trans (hput ..) (.trans (hput ..) (hput ..))))))

@[simp] theorem State.restoreErr_fuses (s : State) : (s.restoreErr).fuses = s.fuses := by simp [State.restoreErr]

@[simp] theorem State.restoreState_fuses (s : State) : (s.restoreState).fuses = s.fuses := by simp [State.restoreState]

/-! ## The flight, resets and standby -/

@[simp] theorem State.harvestBanks_fuses (s : State) (kept : Nat) :
    (s.harvestBanks kept).fuses = s.fuses := by simp [State.harvestBanks]

@[simp] theorem State.markUnits_fuses (s : State) (kept : Nat) :
    (s.markUnits kept).fuses = s.fuses := by simp [State.markUnits]

@[simp] theorem State.startFlight_fuses (s : State) (kind : Nat) :
    (s.startFlight kind).fuses = s.fuses := by simp [State.startFlight]

@[simp] theorem State.fusesLoaded_fuses (s : State) : (s.fusesLoaded).fuses = s.fuses := by simp [State.fusesLoaded]

@[simp] theorem State.coldReset_fuses (s : State) : (s.coldReset).fuses = s.fuses := rfl

@[simp] theorem execColdReset_fuses? (s : State) : (execColdReset s).fuses? = some s.fuses := rfl

@[simp] theorem State.unwrapKeys_fuses (s : State) : (s.unwrapKeys).fuses = s.fuses := by simp [State.unwrapKeys]

@[simp] theorem State.resetRails_fuses (s : State) : (s.resetRails).fuses = s.fuses := rfl

@[simp] theorem State.warmReset_fuses (s : State) (source : Nat) :
    (s.warmReset source).fuses = s.fuses := by simp [State.warmReset]

@[simp] theorem execResetNAssert_fuses? (s : State) :
    (execResetNAssert s).fuses? = some s.fuses := by simp [execResetNAssert]

@[simp] theorem execResetNRise_fuses? (s : State) : (execResetNRise s).fuses? = some s.fuses := by simp [execResetNRise]

@[simp] theorem execWarm_fuses? (src : Source) (value : BitVec 32) (s : State) :
    (execWarm src value s).fuses? = some s.fuses := by simp [execWarm]

@[simp] theorem execVddSocRemoval_fuses? (s : State) :
    (execVddSocRemoval s).fuses? = some s.fuses := by simp [execVddSocRemoval]

@[simp] theorem execReferencePllLock_fuses? (fin : LockEnd) (s : State) :
    (execReferencePllLock fin s).fuses? = some s.fuses := by
  unfold execReferencePllLock
  repeat' split
  all_goals simp

@[simp] theorem execRefLost_fuses? (s : State) : (execRefLost s).fuses? = some s.fuses := by simp [execRefLost]

@[simp] theorem execRampGrant_fuses? (s : State) : (execRampGrant s).fuses? = some s.fuses := by
  unfold execRampGrant
  dsimp only
  repeat' split
  all_goals simp

@[simp] theorem execRailWait_fuses? (dom : BitVec 5) (rise : BitVec 16) (s : State) :
    (execRailWait dom rise s).fuses? = some s.fuses := by simp [execRailWait]

@[simp] theorem State.beginReopen_fuses (s : State) (x : StopCmd) (d : Nat) :
    (s.beginReopen x d).fuses = s.fuses := by simp [State.beginReopen]

@[simp] theorem State.stopped_fuses (s : State) (x : StopCmd) (d : Nat) :
    (s.stopped x d).fuses = s.fuses := by simp [State.stopped]

@[simp] theorem State.gateClose_fuses (s : State) (d : Nat) : (s.gateClose d).fuses = s.fuses := by
  unfold State.gateClose
  dsimp only
  repeat' split
  all_goals simp

@[simp] theorem execRamping_fuses? (dom : BitVec 5) (good : Bool) (s : State) :
    (execRamping dom good s).fuses? = some s.fuses := by simp [execRamping]

@[simp] theorem State.testStep_fuses (s : State) : (s.testStep).fuses = s.fuses := rfl

@[simp] theorem State.memStopFail_fuses (s : State) (x : StopCmd) (step : Nat) :
    (s.memStopFail x step).fuses = s.fuses := by simp [State.memStopFail]

@[simp] theorem execClockWait_fuses? (dom : BitVec 5) (ev : ClockEvent) (s : State) :
    (execClockWait dom ev s).fuses? = some s.fuses := by
  unfold execClockWait
  split <;> simp

@[simp] theorem execScrub_fuses? (dom : BitVec 5) (fin : ScrubEnd) (s : State) :
    (execScrub dom fin s).fuses? = some s.fuses := by
  unfold execScrub
  split <;> simp

@[simp] theorem State.passHeld_fuses (s : State) : (s.passHeld).fuses = s.fuses := rfl

@[simp] theorem execDomainOpen_fuses? (dom : BitVec 5) (s : State) :
    (execDomainOpen dom s).fuses? = some s.fuses := by simp [execDomainOpen]

@[simp] theorem execStepTimeout_fuses? (dom : BitVec 5) (s : State) :
    (execStepTimeout dom s).fuses? = some s.fuses := by
  unfold execStepTimeout
  dsimp only
  repeat' split
  all_goals simp

@[simp] theorem execRetryWait_fuses? (dom : BitVec 5) (s : State) : (execRetryWait dom s).fuses? = some s.fuses := by
  unfold execRetryWait
  dsimp only
  repeat' split
  all_goals simp

@[simp] theorem execKeeperSelfTest_fuses? (fail : Option KeeperFault) (s : State) :
    (execKeeperSelfTest fail s).fuses? = some s.fuses := by
  unfold execKeeperSelfTest
  split <;> simp

@[simp] theorem State.imageFailed_fuses (s : State) (code : Nat) :
    (s.imageFailed code).fuses = s.fuses := by simp [State.imageFailed]

@[simp] theorem execBundleTimeout_fuses? (s : State) :
    (execBundleTimeout s).fuses? = some s.fuses := by simp [execBundleTimeout]

@[simp] theorem execBundleFetch_fuses? (s : State) : (execBundleFetch s).fuses? = some s.fuses := by
  unfold execBundleFetch
  refine whenLive_fuses? _ _ _ fun t => ?_
  dsimp only
  repeat' split
  all_goals simp

@[simp] theorem State.loadWatch_fuses (s : State) (img : List Byte) :
    (s.loadWatch img).fuses = s.fuses := by simp [State.loadWatch]

@[simp] theorem execImageAuthenticate_fuses? (img : Image) (sigOk : Bool) (s : State) :
    (execImageAuthenticate img sigOk s).fuses? = some s.fuses := by
  unfold execImageAuthenticate
  refine whenLive_fuses? _ _ _ fun t => ?_
  dsimp only
  repeat' split
  all_goals simp

@[simp] theorem State.coldGuarded_fuses (s : State) : (s.coldGuarded).fuses = s.fuses := rfl

@[simp] theorem State.wakeInfo_fuses (s : State) (cause reason : Nat) : (s.wakeInfo cause reason).fuses = s.fuses := rfl

@[simp] theorem State.wakeOutRise_fuses (s : State) : (s.wakeOutRise).fuses = s.fuses := rfl

@[simp] theorem State.noteMailbox_fuses (s : State) : (s.noteMailbox).fuses = s.fuses := by simp [State.noteMailbox]

@[simp] theorem State.askHandoff_fuses (s : State) (r : HandoffReq) : (s.askHandoff r).fuses = s.fuses := rfl

@[simp] theorem State.startResume_fuses (s : State) : (s.startResume).fuses = s.fuses := by simp [State.startResume]

@[simp] theorem State.abandonEntry_fuses (s : State) (cause : Nat) : (s.abandonEntry cause).fuses = s.fuses := rfl

@[simp] theorem State.noteResume_fuses (s : State) : (s.noteResume).fuses = s.fuses := rfl

@[simp] theorem State.standbyWake_fuses (s : State) : (s.standbyWake).fuses = s.fuses := by simp [State.standbyWake]

@[simp] theorem State.readyWake_fuses (s : State) (r : HandoffReq) :
    (s.readyWake r).fuses = s.fuses := by simp [State.readyWake]

@[simp] theorem execWake_fuses? (src : Source) (value : BitVec 32) (s : State) :
    (execWake src value s).fuses? = some s.fuses := by simp [execWake]

@[simp] theorem execStrayDoorbellWrite_fuses? (s : State) :
    (execStrayDoorbellWrite s).fuses? = some s.fuses := by simp [execStrayDoorbellWrite]

@[simp] theorem State.ready_fuses (s : State) : (s.ready).fuses = s.fuses := by simp [State.ready]

@[simp] theorem State.clusterMon_fuses (s : State) (c : Nat) :
    (s.clusterMon c).fuses = s.fuses := by simp [State.clusterMon]

@[simp] theorem execDomainClose_fuses? (dom : BitVec 5) (s : State) :
    (execDomainClose dom s).fuses? = some s.fuses := by simp [execDomainClose]

@[simp] theorem State.closeCluster_fuses (s : State) (c : Nat) : (s.closeCluster c).fuses = s.fuses := by
  unfold State.closeCluster
  dsimp only
  repeat' split
  all_goals simp

@[simp] theorem execCluster_fuses? (src : Source) (value : BitVec 32) (s : State) :
    (execCluster src value s).fuses? = some s.fuses := by
  unfold execCluster
  dsimp only
  repeat' split
  all_goals simp

@[simp] theorem execClusterDrainTimeout_fuses? (cluster : BitVec 4) (s : State) :
    (execClusterDrainTimeout cluster s).fuses? = some s.fuses := by simp [execClusterDrainTimeout]

@[simp] theorem State.standbyRequest_fuses (s : State) :
    (s.standbyRequest).fuses = s.fuses := by simp [State.standbyRequest]

@[simp] theorem execStandbyReq_fuses? (src : Source) (value : BitVec 32) (s : State) :
    (execStandbyReq src value s).fuses? = some s.fuses := by simp [execStandbyReq]

@[simp] theorem State.closeClusters_fuses (s : State) :
    (s.closeClusters).fuses = s.fuses := by simp [State.closeClusters]

@[simp] theorem execStandbyDrain_fuses? (s : State) :
    (execStandbyDrain s).fuses? = some s.fuses := by simp [execStandbyDrain]

@[simp] theorem execStandbyClustersClosed_fuses? (s : State) :
    (execStandbyClustersClosed s).fuses? = some s.fuses := by simp [execStandbyClustersClosed]

@[simp] theorem execStandbySaveDone_fuses? (s : State) :
    (execStandbySaveDone s).fuses? = some s.fuses := by simp [execStandbySaveDone]

@[simp] theorem execKeyStoreWrap_fuses? (s : State) :
    (execKeyStoreWrap s).fuses? = some s.fuses := by simp [execKeyStoreWrap]

@[simp] theorem execKeyStoreUnwrap_fuses? (tagOk : Bool) (s : State) :
    (execKeyStoreUnwrap tagOk s).fuses? = some s.fuses := by simp [execKeyStoreUnwrap]

@[simp] theorem execDspmDigestCheck_fuses? (s : State) :
    (execDspmDigestCheck s).fuses? = some s.fuses := by simp [execDspmDigestCheck]

@[simp] theorem execStateRestore_fuses? (s : State) : (execStateRestore s).fuses? = some s.fuses := by
  rw [show execStateRestore = _ from by delta execStateRestore; rfl]
  refine whenTow_fuses? _ _ fun t => congrArg some ?_
  change SameFuses t _
  have hrestore (r : State) : SameFuses r r.restoreState := State.restoreState_fuses r
  have hflight (r : State) (f : FlightSeq) : SameFuses r { r with flight := f } := rfl
  have hready (r : State) : SameFuses r r.ready := State.ready_fuses r
  have hask (r : State) (i : Island) (q : HandoffReq) :
      SameFuses r (({ r with island := i } : State).askHandoff q) := rfl
  have hrfl (r : State) : SameFuses r r := rfl
  split
  · exact hrfl _
  · extract_lets +onlyGivenNames f' s1
    have h1 : SameFuses t s1 := .trans (hflight ..) (hrestore _)
    clear_value s1
    extract_lets +onlyGivenNames s2
    have h2 : SameFuses t s2 := .trans (hready _) h1
    clear_value s2
    exact .trans (hask ..) h2

/-! ## The tile machine beside its instructions -/

@[simp] theorem State.stepped_fuses (s : State) (u : Nat) : (s.stepped u).fuses = s.fuses := by simp [State.stepped]

@[simp] theorem State.complete_fuses (s : State) (u : Nat) (ext : Bool) :
    (s.complete u ext).fuses = s.fuses := by simp [State.complete]

@[simp] theorem State.waitDone_fuses (s : State) (u : Nat) : (s.waitDone u).fuses = s.fuses := by simp [State.waitDone]

@[simp] theorem State.failWith_fuses (s : State) (u code id : Nat) : (s.failWith u code id).fuses = s.fuses := by
  unfold State.failWith
  split <;> simp

@[simp] theorem State.failTask_fuses (s : State) (u code detail : Nat) :
    (s.failTask u code detail).fuses = s.fuses := by
  unfold State.failTask
  split <;> simp

@[simp] theorem State.moverFault_fuses (s : State) (u va : Nat) (acc : Access) (e : XErr) :
    (s.moverFault u va acc e).fuses = s.fuses := by
  unfold State.moverFault
  dsimp only
  repeat' split
  all_goals simp

@[simp] theorem execIstoreLineFill_fuses? (tile : BitVec 6) (pc : BitVec 32) (ecc : EccEnd) (s : State) :
    (execIstoreLineFill tile pc ecc s).fuses? = some s.fuses := by
  unfold execIstoreLineFill
  dsimp only
  repeat' split
  all_goals simp

@[simp] theorem State.chooseLater_fuses (s : State) : (s.chooseLater).1.fuses = s.fuses := rfl

@[simp] theorem State.loadMoves_fuses (s : State) (u : Nat) (seen : List Nat) (ms : List (Nat × Nat × Nat)) :
    (s.loadMoves u seen ms).1.fuses = s.fuses := by
  induction ms generalizing s seen with
  | nil => rfl
  | cons m ms ih =>
    unfold State.loadMoves
    dsimp only
    split
    · rfl
    · exact (ih _ _).trans (by simp)

@[simp] theorem State.storeMoves_fuses (s : State) (u : Nat) (seen : List Nat) (ms : List (Nat × Nat × Nat)) :
    (s.storeMoves u seen ms).1.fuses = s.fuses := by
  induction ms generalizing s seen with
  | nil => rfl
  | cons m ms ih =>
    unfold State.storeMoves
    dsimp only
    split
    · rfl
    · exact (ih _ _).trans (by simp)

@[simp] theorem State.sealedLoad_fuses (s : State) (u : Nat) (b : Barge) (d : Desc) (tagOk : Bool) :
    (s.sealedLoad u b d tagOk).fuses = s.fuses := by
  unfold State.sealedLoad
  dsimp only
  repeat' split
  all_goals simp

@[simp] theorem State.runBarge_fuses (s : State) (u id : Nat) (tagOk : Bool) :
    (s.runBarge u id tagOk).fuses = s.fuses := by
  unfold State.runBarge
  dsimp only
  repeat' split
  all_goals simp

@[simp] theorem execBargeComplete_fuses? (tile : BitVec 6) (id : BitVec 4) (tagOk : Bool) (hits : List TileHit)
    (s : State) :
    (execBargeComplete tile id tagOk hits s).fuses? = some s.fuses := by
  unfold execBargeComplete
  dsimp only
  split <;> next h => simp [fst_fuses h]

@[simp] theorem execMoverFault_fuses? (tile : BitVec 6) (id : BitVec 4) (code : BitVec 8) (s : State) :
    (execMoverFault tile id code s).fuses? = some s.fuses := by
  unfold execMoverFault
  dsimp only
  repeat' split
  all_goals simp

@[simp] theorem execUnitInstructionComplete_fuses? (tile : BitVec 7) (unit : BitVec 2) (s : State) :
    (execUnitInstructionComplete tile unit s).fuses? = some s.fuses := by simp [execUnitInstructionComplete]

/-! ## Issue of a tile instruction -/

@[simp] theorem State.wakeReport_fuses (s : State) (cause reason : Nat) :
    (s.wakeReport cause reason).fuses = s.fuses := by simp [State.wakeReport]

@[simp] theorem State.islandHalt_fuses (s : State) : (s.islandHalt).fuses = s.fuses := by simp [State.islandHalt]

@[simp] theorem State.islandTrap_fuses (s : State) : (s.islandTrap).fuses = s.fuses := by simp [State.islandTrap]

@[simp] theorem Fx.stall_fuses (s : State) : (Fx.stall s).state.fuses = s.fuses := rfl

@[simp] theorem State.raise_fuses (s : State) (u : Nat) (e : Exc) :
    (s.raise u e).fuses = s.fuses := by simp [State.raise]

@[simp] theorem settleFx_fuses (u : Nat) (ext : Bool) (x : Fx) : (settleFx u ext x).fuses = x.state.fuses := by
  cases x <;> simp [settleFx, Fx.state]

@[simp] theorem State.issue_fuses (s : State) (u : Nat) (ext : Bool) (fx : State → Fx) (h : KeepsFx fx) :
    (s.issue u ext fx).fuses = s.fuses := by
  have hfx (t : State) : (fx t).state.fuses = t.fuses := h t
  unfold State.issue
  dsimp only
  repeat' split
  all_goals simp [hfx]

/-- A command that only issues an instruction whose effect keeps the fuses keeps them. -/
theorem next_issue_fuses? {s : State} {u : Nat} {ext : Bool} {fx : State → Fx} (h : KeepsFx fx) :
    Out.fuses? (.next (s.issue u ext fx)) = some s.fuses := congrArg some (State.issue_fuses s u ext fx h)

@[simp] theorem State.checked_fuses (s : State) (u : Nat) (regs : List Nat) (ranges : List (Nat × Nat))
    (e : List (Option Exc)) (fx : State → Fx) (h : KeepsFx fx) :
    (s.checked u regs ranges e fx).state.fuses = s.fuses := by
  unfold State.checked
  repeat' split
  · rfl
  · rfl
  · exact h s

/-! ## Scalar instructions -/

@[simp] theorem State.sss_fuses? (s : State) (u : BitVec 7) (rd rs1 rs2 : BitVec 5) (f : Word → Word → Word) :
    (s.sss u rd rs1 rs2 f).fuses? = some s.fuses := by simp [State.sss]

@[simp] theorem State.ss0_fuses? (s : State) (u : BitVec 7) (rd rs1 rs2 : BitVec 5) (f : Word → Word) :
    (s.ss0 u rd rs1 rs2 f).fuses? = some s.fuses := by simp [State.ss0]

@[simp] theorem State.aas_fuses? (s : State) (u : BitVec 7) (rd rs1 rs2 : BitVec 5) (f : DWord → Word → DWord) :
    (s.aas u rd rs1 rs2 f).fuses? = some s.fuses := by simp [State.aas]

@[simp] theorem State.sa0_fuses? (s : State) (u : BitVec 7) (rd rs1 rs2 : BitVec 5) (f : DWord → Word) :
    (s.sa0 u rd rs1 rs2 f).fuses? = some s.fuses := by simp [State.sa0]

@[simp] theorem State.ssi_fuses? (s : State) (u : BitVec 7) (rd rs1 : BitVec 5) (imm : BitVec 16)
    (ext : Option (BitVec 26)) (zero : Bool) (f : Word → Int → Word) :
    (s.ssi u rd rs1 imm ext zero f).fuses? = some s.fuses := by simp [State.ssi]

@[simp] theorem execAmov_fuses? (u : BitVec 7) (rd rs1 rs2 : BitVec 5) (s : State) :
    (execAmov u rd rs1 rs2 s).fuses? = some s.fuses := by simp [execAmov]

@[simp] theorem execApack_fuses? (u : BitVec 7) (rd rs1 rs2 : BitVec 5) (s : State) :
    (execApack u rd rs1 rs2 s).fuses? = some s.fuses := by simp [execApack]

@[simp] theorem execTset_fuses? (u : BitVec 7) (f rd rs1 rs2 : BitVec 5) (s : State) :
    (execTset u f rd rs1 rs2 s).fuses? = some s.fuses :=
  next_issue_fuses? fun t => State.checked_fuses _ _ _ _ _ _ fun t => by
    split <;> simp

@[simp] theorem execTget_fuses? (u : BitVec 7) (f rd rs1 rs2 : BitVec 5) (s : State) :
    (execTget u f rd rs1 rs2 s).fuses? = some s.fuses :=
  next_issue_fuses? fun t => State.checked_fuses _ _ _ _ _ _ fun t => by
    split <;> simp

@[simp] theorem execTmov_fuses? (u : BitVec 7) (rd rs1 rs2 : BitVec 5) (s : State) :
    (execTmov u rd rs1 rs2 s).fuses? = some s.fuses := by simp [execTmov]

@[simp] theorem execTzero_fuses? (u : BitVec 7) (rd rs1 rs2 : BitVec 5) (s : State) :
    (execTzero u rd rs1 rs2 s).fuses? = some s.fuses := by simp [execTzero]

@[simp] theorem execAdda_fuses? (u : BitVec 7) (rd rs1 : BitVec 5) (imm : BitVec 16) (ext : Option (BitVec 26))
    (s : State) :
    (execAdda u rd rs1 imm ext s).fuses? = some s.fuses := by simp [execAdda]

@[simp] theorem State.coreWrite_fuses (s : State) (c a n v : Nat) :
    (s.coreWrite c a n v).fuses = s.fuses := by simp [State.coreWrite]

@[simp] theorem State.withEcc_fuses (s : State) (c : Nat) (rs : List (Nat × Nat)) (hits : List TileHit)
    (fx : State → Fx) (h : KeepsFx fx) :
    (s.withEcc c rs hits fx).state.fuses = s.fuses := by
  unfold State.withEcc
  split
  · next he => simp [fst_fuses he]
  · next t he => exact (h t).trans (by simp [fst_fuses he])

theorem State.readRanges_fuses {s t : State} {c : Nat} {rs : List (Nat × Nat)} (h : s.readRanges c rs = .ok t) :
    t.fuses = s.fuses := by
  unfold State.readRanges at h
  dsimp only at h
  repeat' split at h
  all_goals cases h
  · rfl
  · simp

theorem State.coreRead_fuses {s t : State} {c a n v : Nat} (h : s.coreRead c a n = .ok (t, v)) : t.fuses = s.fuses := by
  unfold State.coreRead at h
  split at h
  · cases h
    rfl
  · split at h
    · cases h
    · next hr =>
      cases h
      exact State.readRanges_fuses hr

@[simp] theorem State.loadS_fuses? (s : State) (u : BitVec 7) (rd rs1 : BitVec 5) (off : BitVec 14)
    (ext : Option (BitVec 26)) (hits : List TileHit) (n : Nat) :
    (s.loadS u rd rs1 off ext hits n).fuses? = some s.fuses :=
  next_issue_fuses? fun t => State.checked_fuses _ _ _ _ _ _ fun t => by
    split
    · rfl
    · next h => simp [State.coreRead_fuses h]

@[simp] theorem State.storeS_fuses? (s : State) (u : BitVec 7) (rd rs1 : BitVec 5) (off : BitVec 14)
    (ext : Option (BitVec 26)) (hits : List TileHit) (n : Nat) :
    (s.storeS u rd rs1 off ext hits n).fuses? = some s.fuses :=
  next_issue_fuses? fun t => State.checked_fuses _ _ _ _ _ _ fun t => by simp

@[simp] theorem execTld_fuses? (u : BitVec 7) (rd rs1 : BitVec 5) (imm : BitVec 15) (ext : Option (BitVec 26))
    (hits : List TileHit) (s : State) :
    (execTld u rd rs1 imm ext hits s).fuses? = some s.fuses :=
  next_issue_fuses? fun t => State.checked_fuses _ _ _ _ _ _ fun t => by
    split
    · rfl
    · next h => simp [State.coreRead_fuses h]

@[simp] theorem execTst_fuses? (u : BitVec 7) (rd rs1 : BitVec 5) (imm : BitVec 15) (ext : Option (BitVec 26))
    (s : State) :
    (execTst u rd rs1 imm ext s).fuses? = some s.fuses := by simp [execTst]

/-! ## Branches and loops -/

@[simp] theorem State.branch_fuses? (s : State) (u : BitVec 7) (rs1 rs2 : BitVec 5) (imm : BitVec 16)
    (ext : Option (BitVec 26)) (cond : Word → Word → Bool) :
    (s.branch u rs1 rs2 imm ext cond).fuses? = some s.fuses := by simp [State.branch]

@[simp] theorem State.jumpLink_fuses? (s : State) (u : BitVec 7) (rs1 rs2 : BitVec 5) (imm : BitVec 16)
    (ext : Option (BitVec 26)) :
    (s.jumpLink u rs1 rs2 imm ext).fuses? = some s.fuses := by simp [State.jumpLink]

@[simp] theorem State.loopOp_fuses? (s : State) (u : BitVec 7) (rs1 rs2 : BitVec 5) (imm : BitVec 16)
    (ext : Option (BitVec 26)) :
    (s.loopOp u rs1 rs2 imm ext).fuses? = some s.fuses := by simp [State.loopOp]

/-! ## Messages between tiles -/

@[simp] theorem State.setMbox_fuses (s : State) (m : Nat) (l : List Msg) : (s.setMbox m l).fuses = s.fuses := rfl

@[simp] theorem State.giveMsg_fuses (s : State) (t sreg lines addr : Nat) (m : Msg) :
    (s.giveMsg t sreg lines addr m).fuses = s.fuses := by simp [State.giveMsg]

@[simp] theorem State.endCall_fuses (s : State) (t sreg r : Nat) :
    (s.endCall t sreg r).fuses = s.fuses := by simp [State.endCall]

@[simp] theorem State.serveRecv_fuses (s : State) (m n : Nat) : (s.serveRecv m n).fuses = s.fuses := by
  induction n generalizing s with
  | zero => rfl
  | succ n ih =>
    unfold State.serveRecv
    split
    · dsimp only
      split
      · split
        · simp [ih]
        · exact ih _
      · exact ih _
    · rfl

@[simp] theorem State.mboxSend_fuses (s : State) (m src : Nat) (lines : List Nat) :
    (s.mboxSend m src lines).1.fuses = s.fuses := by
  unfold State.mboxSend
  dsimp only
  repeat' split
  all_goals simp

@[simp] theorem State.sendAnswer_fuses (s : State) (t sreg : Nat) (nb : Bool) (die m : Nat) (msg : List Nat) (r : Nat) :
    (s.sendAnswer t sreg nb die m msg r).fuses = s.fuses := by simp [State.sendAnswer]

@[simp] theorem State.setWharfBit_fuses (s : State) (a : Arena) (chunk half n : Nat) (b : Bool) :
    (s.setWharfBit a chunk half n b).fuses = s.fuses := by simp [State.setWharfBit]

@[simp] theorem State.wharfSplit_fuses (s : State) (a : Arena) (chunk d0 i k : Nat) :
    (s.wharfSplit a chunk d0 i k).fuses = s.fuses := by
  induction k generalizing s d0 i with
  | zero => rfl
  | succ k ih => exact (ih _ _ _).trans (by simp)

@[simp] theorem State.zeroVa_fuses (s : State) (cid va n : Nat) : (s.zeroVa cid va n).fuses = s.fuses := by
  induction n generalizing s va with
  | zero => rfl
  | succ n ih =>
    unfold State.zeroVa
    split <;> simp [ih]

@[simp] theorem State.wharfMerge_fuses (s : State) (a : Arena) (chunk n k : Nat) :
    (s.wharfMerge a chunk n k).fuses = s.fuses := by
  induction k generalizing s n with
  | zero => rfl
  | succ k ih =>
    unfold State.wharfMerge
    dsimp only
    split <;> simp [ih]

theorem State.wharfDrop_fuses {s t : State} {cid va : Nat} (h : s.wharfDrop cid va = some t) : t.fuses = s.fuses := by
  unfold State.wharfDrop at h
  dsimp only at h
  repeat' split at h
  all_goals cases h
  simp

/-! ## Data movement, waits and calls -/

@[simp] theorem execXfer_fuses? (u : BitVec 7) (a t : BitVec 4) (sf : BitVec 5) (func : BitVec 13) (s : State) :
    (execXfer u a t sf func s).fuses? = some s.fuses := by simp [execXfer]

@[simp] theorem State.await_fuses (s : State) (c : Nat) (w : WaitFor) :
    (s.await c w).fuses = s.fuses := by simp [State.await]

@[simp] theorem execWaitBarge_fuses? (u : BitVec 7) (imm : BitVec 16) (s : State) :
    (execWaitBarge u imm s).fuses? = some s.fuses := by simp [execWaitBarge]

@[simp] theorem execWaitUnits_fuses? (u : BitVec 7) (imm : BitVec 16) (s : State) :
    (execWaitUnits u imm s).fuses? = some s.fuses :=
  next_issue_fuses? fun t => by
    split <;> simp

@[simp] theorem execWaitTick_fuses? (u : BitVec 7) (imm : BitVec 16) (s : State) :
    (execWaitTick u imm s).fuses? = some s.fuses := by simp [execWaitTick]

@[simp] theorem execWaitTickRelease_fuses? (u : BitVec 7) (s : State) :
    (execWaitTickRelease u s).fuses? = some s.fuses := by
  unfold execWaitTickRelease
  dsimp only
  repeat' split
  all_goals simp

@[simp] theorem State.takeFrame_fuses (s : State) : (s.takeFrame).fuses = s.fuses := by
  unfold State.takeFrame
  dsimp only
  repeat' split
  all_goals simp

@[simp] theorem execWaitFrame_fuses? (u : BitVec 7) (imm : BitVec 16) (s : State) :
    (execWaitFrame u imm s).fuses? = some s.fuses := by simp [execWaitFrame]

@[simp] theorem State.callOut_fuses (s : State) (t : Nat) (h : Header) : (s.callOut t h).fuses = s.fuses := rfl

@[simp] theorem State.sendOut_fuses (s : State) (t die m port : Nat) (msg : List Nat) :
    (s.sendOut t die m port msg).fuses = s.fuses := rfl

@[simp] theorem State.atom_fuses? (s : State) (u : BitVec 7) (op : AtomOp) (w64 : Bool) (a t : BitVec 4)
    (sf : BitVec 5) (rsv : BitVec 8) :
    (s.atom u op w64 a t sf rsv).fuses? = some s.fuses :=
  next_issue_fuses? fun t => State.checked_fuses _ _ _ _ _ _ fun t => by
    dsimp only
    split
    · simp
    · split <;> simp

@[simp] theorem execRsend_fuses? (u : BitVec 7) (a t : BitVec 4) (sf : BitVec 5) (lines : BitVec 2) (nb : Bool)
    (rsv : BitVec 9) (hits : List TileHit) (s : State) :
    (execRsend u a t sf lines nb rsv hits s).fuses? = some s.fuses :=
  next_issue_fuses? fun t => State.checked_fuses _ _ _ _ _ _ fun t => by
    dsimp only
    split
    · rfl
    · next h =>
      refine (State.withEcc_fuses _ _ _ _ _ fun t => ?_).trans (State.readRanges_fuses h)
      split
      · simp
      · split <;> simp

@[simp] theorem execRsendRetry_fuses? (tile : BitVec 6) (s : State) :
    (execRsendRetry tile s).fuses? = some s.fuses := by
  unfold execRsendRetry
  dsimp only
  repeat' split
  all_goals simp

@[simp] theorem execRrecv_fuses? (u : BitVec 7) (a t : BitVec 4) (sf : BitVec 5) (lines : BitVec 2) (nb : Bool)
    (rsv : BitVec 9) (s : State) :
    (execRrecv u a t sf lines nb rsv s).fuses? = some s.fuses :=
  next_issue_fuses? fun t => State.checked_fuses _ _ _ _ _ _ fun t => by
    dsimp only
    split
    · simp
    · split <;> simp

theorem State.wharfAlloc_fuses {s t : State} {cid size va : Nat} {zero : Bool}
    (h : s.wharfAlloc cid size zero = some (t, va)) :
    t.fuses = s.fuses := by
  unfold State.wharfAlloc at h
  dsimp only at h
  repeat' split at h
  all_goals cases h
  all_goals simp

@[simp] theorem execAlloc_fuses? (u : BitVec 7) (a t : BitVec 4) (sf : BitVec 5) (zero try_ : Bool) (rsv : BitVec 10)
    (s : State) :
    (execAlloc u a t sf zero try_ rsv s).fuses? = some s.fuses :=
  next_issue_fuses? fun t => State.checked_fuses _ _ _ _ _ _ fun t => by
    split
    · next h => simp [State.wharfAlloc_fuses h]
    · simp

@[simp] theorem execFree_fuses? (u : BitVec 7) (a t : BitVec 4) (sf : BitVec 5) (bits : BitVec 2) (rsv : BitVec 10)
    (s : State) :
    (execFree u a t sf bits rsv s).fuses? = some s.fuses :=
  next_issue_fuses? fun t => State.checked_fuses _ _ _ _ _ _ fun t => by
    split
    · next h => exact State.wharfDrop_fuses h
    · rfl

@[simp] theorem execSignalFence_fuses? (u : BitVec 7) (imm : BitVec 16) (s : State) :
    (execSignalFence u imm s).fuses? = some s.fuses :=
  next_issue_fuses? fun t => State.checked_fuses _ _ _ _ _ _ fun t => by
    split
    · rfl
    · split <;> simp

@[simp] theorem execSignalEvent_fuses? (u : BitVec 7) (imm : BitVec 16) (s : State) :
    (execSignalEvent u imm s).fuses? = some s.fuses := by simp [execSignalEvent]

@[simp] theorem State.keepHeld_fuses (s : State) : (s.keepHeld).fuses = s.fuses := by
  unfold State.keepHeld
  split <;> simp

@[simp] theorem execSignalWake_fuses? (u : BitVec 7) (imm : BitVec 16) (s : State) :
    (execSignalWake u imm s).fuses? = some s.fuses := by simp [execSignalWake]

@[simp] theorem execSignalKeep_fuses? (u : BitVec 7) (imm : BitVec 16) (s : State) :
    (execSignalKeep u imm s).fuses? = some s.fuses := by simp [execSignalKeep]

@[simp] theorem State.phaseReport_fuses (s : State) (t n : Nat) :
    (s.phaseReport t n).fuses = s.fuses := by simp [State.phaseReport]

@[simp] theorem execPhase_fuses? (u : BitVec 7) (imm : BitVec 16) (s : State) :
    (execPhase u imm s).fuses? = some s.fuses := by simp [execPhase]

@[simp] theorem execTime_fuses? (u : BitVec 7) (imm : BitVec 16) (s : State) :
    (execTime u imm s).fuses? = some s.fuses := by simp [execTime]

@[simp] theorem execClipstat_fuses? (u : BitVec 7) (imm : BitVec 16) (s : State) :
    (execClipstat u imm s).fuses? = some s.fuses :=
  next_issue_fuses? fun t => State.checked_fuses _ _ _ _ _ _ fun t => by
    split
    · rfl
    · split <;> simp

@[simp] theorem execTmodeRead_fuses? (u : BitVec 7) (imm : BitVec 16) (s : State) :
    (execTmodeRead u imm s).fuses? = some s.fuses := by simp [execTmodeRead]

@[simp] theorem execTmodeWrite_fuses? (u : BitVec 7) (imm : BitVec 16) (s : State) :
    (execTmodeWrite u imm s).fuses? = some s.fuses := by simp [execTmodeWrite]

@[simp] theorem execEnd_fuses? (u : BitVec 7) (imm : BitVec 16) (s : State) :
    (execEnd u imm s).fuses? = some s.fuses := by simp [execEnd]

@[simp] theorem State.yieldTo_fuses (s : State) (t : Nat) (k : Cand) : (s.yieldTo t k).fuses = s.fuses := by
  unfold State.yieldTo
  split <;> next h => simp [fst_fuses h]

@[simp] theorem execYield_fuses? (u : BitVec 7) (imm : BitVec 16) (s : State) :
    (execYield u imm s).fuses? = some s.fuses :=
  next_issue_fuses? fun t => State.checked_fuses _ _ _ _ _ _ fun t => by
    dsimp only
    split
    · rfl
    · split
      · simp
      · split <;> simp

@[simp] theorem execTrap_fuses? (u : BitVec 7) (imm : BitVec 16) (s : State) :
    (execTrap u imm s).fuses? = some s.fuses := by simp [execTrap]

/-! ## The basin and memory requests -/

@[simp] theorem State.takeArrived_fuses (s : State) (h : Header) : (s.takeArrived h).fuses = s.fuses := rfl

@[simp] theorem State.answerBare_fuses (s : State) (h : Header) (status : Nat) :
    (s.answerBare h status).fuses = s.fuses := rfl

@[simp] theorem State.noteErr_fuses (s : State) (h : Header) (id : Nat) : (s.noteErr h id).fuses = s.fuses := rfl

@[simp] theorem State.misdirected_fuses (s : State) (h : Header) :
    (s.misdirected h).fuses = s.fuses := by simp [State.misdirected]

@[simp] theorem State.tagEngine_fuses (s : State) (h : Header) :
    (s.tagEngine h).fuses = s.fuses := by simp [State.tagEngine]

@[simp] theorem State.refuse_fuses (s : State) (h : Header) (unit pa : Nat) :
    (s.refuse h unit pa).fuses = s.fuses := by simp [State.refuse]

@[simp] theorem State.physMasked_fuses (s : State) (pa mask data : Nat) :
    (s.physMasked pa mask data).fuses = s.fuses := by simp [State.physMasked]

@[simp] theorem State.dropLine_fuses (s : State) (pa : Nat) : (s.dropLine pa).fuses = s.fuses := rfl

@[simp] theorem State.serveMem_fuses (s : State) (h : Header) : (s.serveMem h).fuses = s.fuses := by
  unfold State.serveMem
  split <;> simp

@[simp] theorem execMemoryRequest_fuses? (h : Header) (ecc : EccEnd) (s : State) :
    (execMemoryRequest h ecc s).fuses? = some s.fuses := by
  unfold execMemoryRequest
  refine whenLive_fuses? _ _ _ fun t => ?_
  dsimp only
  repeat' split
  all_goals simp

@[simp] theorem State.bring_fuses (s : State) (pa : Nat) : (s.bring pa).fuses = s.fuses := by simp [State.bring]

@[simp] theorem State.cacheRead_fuses (s : State) (h : Header) (ecc : EccEnd) :
    (s.cacheRead h ecc).fuses = s.fuses := by
  change SameFuses s _
  have hmem (t : State) : SameFuses t (t.serveMem h) := State.serveMem_fuses ..
  have hbring (t : State) (a : Nat) : SameFuses t (t.bring a) := State.bring_fuses ..
  have hdrop (t : State) (a : Nat) : SameFuses t (t.dropLine a) := State.dropLine_fuses ..
  have hrec (t : State) (code unit src detail : Nat) : SameFuses t (t.fault code unit src detail).tookFree :=
    State.fault_fuses ..
  have hrfl (t : State) : SameFuses t t := rfl
  unfold State.cacheRead
  dsimp only
  refine .trans (hmem _) (.trans (.foldl hbring _ _) ?_)
  split
  · exact hrfl _
  · split
    · exact hrec ..
    · exact hrfl _
  · split
    · exact .trans (.foldl hdrop _ _) (hrec ..)
    · exact hrfl _

@[simp] theorem State.carveEcc_fuses (s : State) (h : Header) (ecc : EccEnd) : (s.carveEcc h ecc).fuses = s.fuses := by
  unfold State.carveEcc
  split <;> simp

@[simp] theorem execBasinRequest_fuses? (h : Header) (ecc : EccEnd) (s : State) :
    (execBasinRequest h ecc s).fuses? = some s.fuses := by
  unfold execBasinRequest
  refine whenLive_fuses? _ _ _ fun t => ?_
  dsimp only
  repeat' split
  all_goals simp

/-! ## Faults, events and monitors -/

@[simp] theorem State.sampleLost_fuses (s : State) (a : Report) : (s.sampleLost a).fuses = s.fuses := by
  unfold State.sampleLost
  split <;> simp

@[simp] theorem State.enterFifo_fuses (s : State) (r : Report) : (s.enterFifo r).fuses = s.fuses := rfl

@[simp] theorem State.arrive_fuses (s : State) (r : Report) : (s.arrive r).fuses = s.fuses := by simp [State.arrive]

@[simp] theorem execReportArrive_fuses? (k : BitVec 16) (s : State) : (execReportArrive k s).fuses? = some s.fuses := by
  unfold execReportArrive
  refine whenLive_fuses? _ _ _ fun t => ?_
  dsimp only
  split <;> simp

@[simp] theorem execHeldReportAccept_fuses? (s : State) : (execHeldReportAccept s).fuses? = some s.fuses := by
  unfold execHeldReportAccept
  refine whenLive_fuses? _ _ _ fun t => ?_
  dsimp only
  split <;> simp

@[simp] theorem State.enter_fuses (s : State) (r : FaultRec) : (s.enter r).fuses = s.fuses := by
  unfold State.enter
  dsimp only
  repeat' split
  all_goals simp

@[simp] theorem State.passOn_fuses (s : State) (r : Report) : (s.passOn r).fuses = s.fuses := by
  unfold State.passOn
  split <;> simp

@[simp] theorem State.concPass_fuses (s : State) (faulted : Bool) (n : Nat) :
    (s.concPass faulted n).fuses = s.fuses := by
  induction n generalizing s faulted with
  | zero => rfl
  | succ n ih =>
    unfold State.concPass
    repeat' split
    all_goals simp [ih]

@[simp] theorem execConcentratorPass_fuses? (s : State) :
    (execConcentratorPass s).fuses? = some s.fuses := by simp [execConcentratorPass]

@[simp] theorem execLogReadWrite_fuses? (value : BitVec 32) (s : State) :
    (execLogReadWrite value s).fuses? = some s.fuses := by simp [execLogReadWrite]

@[simp] theorem State.deliver_fuses (s : State) (v : Nat) : (s.deliver v).fuses = s.fuses := by simp [State.deliver]

@[simp] theorem execEventVector_fuses? (s : State) : (execEventVector s).fuses? = some s.fuses := by
  unfold execEventVector
  refine whenLive_fuses? _ _ _ fun t => ?_
  dsimp only
  split <;> simp

@[simp] theorem State.writeVec_fuses (s : State) (v value : Nat) :
    (s.writeVec v value).fuses = s.fuses := by simp [State.writeVec]

@[simp] theorem execVecUnmask_fuses? (v : BitVec 12) (value : BitVec 64) (s : State) :
    (execVecUnmask v value s).fuses? = some s.fuses := by simp [execVecUnmask]

@[simp] theorem State.clearSlot_fuses (s : State) (k : Nat) : (s.clearSlot k).fuses = s.fuses := rfl

@[simp] theorem execMonitorPartialSend_fuses? (what : SampleOf) (s : State) :
    (execMonitorPartialSend what s).fuses? = some s.fuses := by
  unfold execMonitorPartialSend
  split <;> simp

@[simp] theorem State.mergePart_fuses (s : State) (p : Partial) :
    (s.mergePart p).fuses = s.fuses := by simp [State.mergePart]

@[simp] theorem State.mergeCtx_fuses (s : State) (p : CtxPart) : (s.mergeCtx p).fuses = s.fuses := rfl

@[simp] theorem execMonitorPartialMerge_fuses? (s : State) : (execMonitorPartialMerge s).fuses? = some s.fuses := by
  unfold execMonitorPartialMerge
  refine whenLive_fuses? _ _ _ fun t => ?_
  dsimp only
  repeat' split
  all_goals simp

@[simp] theorem State.capture_fuses (s : State) (k at_ : Nat) : (s.capture k at_).fuses = s.fuses := by
  unfold State.capture
  dsimp only
  split
  · rfl
  · split
    · simp
    · split
      · next h => simp [State.ownWrite_fuses h]
      · simp

@[simp] theorem execMonitorWindowCapture_fuses? (slot : BitVec 8) (s : State) :
    (execMonitorWindowCapture slot s).fuses? = some s.fuses := by simp [execMonitorWindowCapture]

@[simp] theorem execSlotCfgWrite_fuses? (slot : BitVec 8) (value : BitVec 64) (s : State) :
    (execSlotCfgWrite slot value s).fuses? = some s.fuses := by simp [execSlotCfgWrite]

@[simp] theorem execCapBaseWrite_fuses? (value : BitVec 64) (s : State) :
    (execCapBaseWrite value s).fuses? = some s.fuses := by simp [execCapBaseWrite]

@[simp] theorem execTraceBaseWrite_fuses? (value : BitVec 64) (s : State) :
    (execTraceBaseWrite value s).fuses? = some s.fuses := by simp [execTraceBaseWrite]

@[simp] theorem execTraceWrite_fuses? (s : State) : (execTraceWrite s).fuses? = some s.fuses := by
  unfold execTraceWrite
  refine whenTow_fuses? _ _ fun t => congrArg some ?_
  dsimp only
  split
  · rfl
  · split
    · rfl
    · split
      · simp
      · split
        · next h => simp [State.ownWrite_fuses h]
        · simp

@[simp] theorem execGtcSyncWord_fuses? (s : State) :
    (execGtcSyncWord s).fuses? = some s.fuses := by simp [execGtcSyncWord]

@[simp] theorem State.copyFault_fuses (s : State) (k detail : Nat) : (s.copyFault k detail).fuses = s.fuses := by
  unfold State.copyFault
  split <;> simp

@[simp] theorem execGtcCopySync_fuses? (copy : BitVec 8) (count : BitVec 64) (s : State) :
    (execGtcCopySync copy count s).fuses? = some s.fuses := by
  unfold execGtcCopySync
  refine whenLive_fuses? _ _ _ fun t => ?_
  dsimp only
  split <;> simp

@[simp] theorem execGtcCopyStale_fuses? (copy : BitVec 8) (s : State) :
    (execGtcCopyStale copy s).fuses? = some s.fuses := by simp [execGtcCopyStale]

/-! ## The sensor island -/

@[simp] theorem State.endCapture_fuses (s : State) : (s.endCapture).fuses = s.fuses := rfl

@[simp] theorem State.captureError_fuses (s : State) : (s.captureError).fuses = s.fuses := rfl

@[simp] theorem State.setLane_fuses (s : State) (l v : Nat) : (s.setLane l v).fuses = s.fuses := rfl

@[simp] theorem State.lineFound_fuses (s : State) (kind : Nat) : (s.lineFound kind).fuses = s.fuses := by
  unfold State.lineFound
  split <;> simp

@[simp] theorem State.laneStates_fuses (s : State) : (s.laneStates).fuses = s.fuses := rfl

@[simp] theorem State.watFault_fuses (s : State) (code detail : Nat) :
    (s.watFault code detail).fuses = s.fuses := by simp [State.watFault]

@[simp] theorem State.linkUpDone_fuses (s : State) (swapped : Bool) :
    (s.linkUpDone swapped).fuses = s.fuses := by simp [State.linkUpDone]

@[simp] theorem execCaptureStart_fuses? (d0p d0n d1p d1n ckp ckn : LineSt) (s : State) :
    (execCaptureStart d0p d0n d1p d1n ckp ckn s).fuses? = some s.fuses := by
  unfold execCaptureStart
  refine whenN7_fuses? _ _ fun t => ?_
  dsimp only
  repeat' split
  all_goals simp

@[simp] theorem State.setCapture_fuses (s : State) (c : Capture) : (s.setCapture c).fuses = s.fuses := rfl

@[simp] theorem State.toTrigger_fuses (s : State) (o : Order) : (s.toTrigger o).fuses = s.fuses := rfl

@[simp] theorem execCaptureOrder_fuses? (s : State) : (execCaptureOrder s).fuses? = some s.fuses := by
  unfold execCaptureOrder
  refine whenN7_fuses? _ _ fun t => ?_
  dsimp only
  split <;> simp

@[simp] theorem State.i3cDrives_fuses (s : State) (b : I3cBus) : (s.i3cDrives b).fuses = s.fuses := rfl

@[simp] theorem State.triggerDone_fuses (s : State) (c : Capture) (o : Order) :
    (s.triggerDone c o).fuses = s.fuses := rfl

@[simp] theorem execTriggerWrite_fuses? (fin : I3cEnd) (s : State) :
    (execTriggerWrite fin s).fuses? = some s.fuses := by
  unfold execTriggerWrite
  refine whenN7_fuses? _ _ fun t => ?_
  dsimp only
  repeat' split
  all_goals simp

@[simp] theorem execI3cBusRecovery_fuses? (freed : Bool) (s : State) :
    (execI3cBusRecovery freed s).fuses? = some s.fuses := by
  unfold execI3cBusRecovery
  refine whenN7_fuses? _ _ fun t => ?_
  dsimp only
  repeat' split
  all_goals simp

@[simp] theorem State.storeRow_fuses (s : State) (c : Capture) (o : Order) (row : List Nat) :
    (s.storeRow c o row).fuses = s.fuses := by simp [State.storeRow]

@[simp] theorem State.takeRow_fuses (s : State) (c : Capture) (o : Order) (row : List Nat) :
    (s.takeRow c o row).fuses = s.fuses := by simp [State.takeRow]

@[simp] theorem execCsi2Packet_fuses? (swapped fixed : Bool) (p : CsiPacket) (s : State) :
    (execCsi2Packet swapped fixed p s).fuses? = some s.fuses := by
  unfold execCsi2Packet
  refine whenN7_fuses? _ _ fun t => ?_
  repeat' split
  all_goals simp

@[simp] theorem execHsPolarity_fuses? (lane : BitVec 2) (found : LaneSt) (nLine : Bool) (s : State) :
    (execHsPolarity lane found nLine s).fuses? = some s.fuses := by
  unfold execHsPolarity
  refine whenN7_fuses? _ _ fun t => ?_
  dsimp only
  repeat' split
  all_goals simp

@[simp] theorem execFrameEnd_fuses? (vc : BitVec 2) (s : State) : (execFrameEnd vc s).fuses? = some s.fuses := by
  unfold execFrameEnd
  refine whenN7_fuses? _ _ fun t => ?_
  dsimp only
  repeat' split
  all_goals simp

@[simp] theorem execFrameWindowExpire_fuses? (s : State) : (execFrameWindowExpire s).fuses? = some s.fuses := by
  unfold execFrameWindowExpire
  refine whenN7_fuses? _ _ fun t => ?_
  repeat' split
  all_goals simp

@[simp] theorem execPd11Close_fuses? (s : State) : (execPd11Close s).fuses? = some s.fuses := by
  unfold execPd11Close
  refine whenN7_fuses? _ _ fun t => ?_
  dsimp only
  repeat' split
  all_goals simp

@[simp] theorem execWatchBudgetOverrun_fuses? (s : State) : (execWatchBudgetOverrun s).fuses? = some s.fuses := by
  unfold execWatchBudgetOverrun
  refine whenN7_fuses? _ _ fun t => ?_
  dsimp only
  split <;> simp

@[simp] theorem execWatchException_fuses? (ecc : EccEnd) (addr : BitVec 18) (s : State) :
    (execWatchException ecc addr s).fuses? = some s.fuses := by
  unfold execWatchException
  split <;> simp

@[simp] theorem execWakeInWake_fuses? (level : Bool) (s : State) : (execWakeInWake level s).fuses? = some s.fuses := by
  unfold execWakeInWake
  refine whenN7_fuses? _ _ fun t => ?_
  dsimp only
  split <;> simp

@[simp] theorem execWakeInStuck_fuses? (s : State) : (execWakeInStuck s).fuses? = some s.fuses := by
  unfold execWakeInStuck
  refine whenN7_fuses? _ _ fun t => ?_
  dsimp only
  split <;> simp

@[simp] theorem State.writeWakeCtrl_fuses (s : State) (v : Nat) :
    (s.writeWakeCtrl v).fuses = s.fuses := by simp [State.writeWakeCtrl]

@[simp] theorem watWrite_fuses? (s : State) (f : State → State) (h : KeepsFuses f) :
    (watWrite s f).fuses? = some s.fuses := whenTow_fuses? _ _ fun t => whenN7_fuses? t f h

@[simp] theorem execWakeInReenable_fuses? (value : BitVec 32) (s : State) :
    (execWakeInReenable value s).fuses? = some s.fuses := by simp [execWakeInReenable]

@[simp] theorem execProgramWake_fuses? (s : State) : (execProgramWake s).fuses? = some s.fuses := by
  unfold execProgramWake
  refine whenN7_fuses? _ _ fun t => ?_
  dsimp only
  split <;> simp

@[simp] theorem State.writeWakeInfo_fuses (s : State) (v : Nat) :
    (s.writeWakeInfo v).fuses = s.fuses := by simp [State.writeWakeInfo]

@[simp] theorem execPendingClear_fuses? (value : BitVec 32) (s : State) :
    (execPendingClear value s).fuses? = some s.fuses := by simp [execPendingClear]

@[simp] theorem State.writeWatStatus_fuses (s : State) (v : Nat) :
    (s.writeWatStatus v).fuses = s.fuses := by simp [State.writeWatStatus]

@[simp] theorem execKeepClear_fuses? (value : BitVec 32) (s : State) :
    (execKeepClear value s).fuses? = some s.fuses := by simp [execKeepClear]

@[simp] theorem State.writeWatCtrl_fuses (s : State) (v : Nat) :
    (s.writeWatCtrl v).fuses = s.fuses := by simp [State.writeWatCtrl]

@[simp] theorem execHandoffNow_fuses? (value : BitVec 32) (s : State) :
    (execHandoffNow value s).fuses? = some s.fuses := by simp [execHandoffNow]

@[simp] theorem execArm_fuses? (value : BitVec 32) (s : State) :
    (execArm value s).fuses? = some s.fuses := by simp [execArm]

@[simp] theorem State.dropHandoff_fuses (s : State) : (s.dropHandoff).fuses = s.fuses := by simp [State.dropHandoff]

@[simp] theorem State.handoffOver_fuses (s : State) (b : Option Nat) : (s.handoffOver b).fuses = s.fuses := by
  unfold State.handoffOver
  split <;> simp

@[simp] theorem State.handoffFailed_fuses (s : State) : (s.handoffFailed).fuses = s.fuses := by
  unfold State.handoffFailed
  split <;> simp

@[simp] theorem execHandoff_fuses? (s : State) : (execHandoff s).fuses? = some s.fuses := by
  unfold execHandoff
  refine whenN7_fuses? _ _ fun t => ?_
  dsimp only
  split
  · rfl
  · split
    · rfl
    · split
      · simp
      · split
        · simp
        · next h =>
          split
          · simp [State.ownWrite_fuses h]
          · next h' => simp [State.ownWrite_fuses h', State.ownWrite_fuses h]

/-! ## Requests that leave the die -/

@[simp] theorem State.setPortState_fuses (s : State) (n v : Nat) : (s.setPortState n v).fuses = s.fuses := rfl

@[simp] theorem State.offerTx_fuses (s : State) (n : Nat) (h : Header) : (s.offerTx n h).fuses = s.fuses := rfl

theorem State.sendOn_fuses {s t : State} {n : Nat} {ing : Option Nat} {h : Header} (hs : s.sendOn n ing h = some t) :
    t.fuses = s.fuses := by
  unfold State.sendOn at hs
  repeat' split at hs
  all_goals cases hs
  all_goals simp

@[simp] theorem State.answerOrig_fuses (s : State) (h : Header) (status lines data operand : Nat) :
    (s.answerOrig h status lines data operand).fuses = s.fuses := rfl

@[simp] theorem State.faultOrig_fuses (s : State) (h : Header) (code : Nat) :
    (s.faultOrig h code).fuses = s.fuses := rfl

@[simp] theorem State.dropOut_fuses (s : State) (r : LinkReq) : (s.dropOut r).fuses = s.fuses := rfl

@[simp] theorem State.linkFault_fuses (s : State) (code n detail : Nat) :
    (s.linkFault code n detail).fuses = s.fuses := by simp [State.linkFault]

@[simp] theorem State.forward_fuses (s : State) (n : Nat) (ing : Option Nat) (h : Header) :
    (s.forward n ing h).fuses = s.fuses := by
  unfold State.forward
  split
  · next hs => exact State.sendOn_fuses hs
  · dsimp only
    split
    · simp
    · split
      · split <;> simp
      · exact getD_fuses (fun t ht => (State.sendOn_fuses ht).trans (by simp)) (by simp)

@[simp] theorem State.amoFails_fuses (s : State) (n : Nat) (h : Header) :
    (s.amoFails n h).fuses = s.fuses := by simp [State.amoFails]

@[simp] theorem State.returnAnswer_fuses (s : State) (n : Nat) (req rsp : Header) :
    (s.returnAnswer n req rsp).fuses = s.fuses := by
  unfold State.returnAnswer
  dsimp only
  split
  · split
    · next h =>
      split at h
      · simp [State.ownWrite_fuses h]
      · cases h
    · simp
  · simp

/-! ## The mesh -/

@[simp] theorem State.weirChanged_fuses (s : State) (n u k : Nat) (old : Bool × Nat × Nat) (oldCredit : Int) :
    (s.weirChanged n u k old oldCredit).fuses = s.fuses := by simp [State.weirChanged]

@[simp] theorem State.writeWeir_fuses (s : State) (n u k v : Nat) :
    (s.writeWeir n u k v).fuses = s.fuses := by simp [State.writeWeir]

@[simp] theorem execWeirWrite_fuses? (stop : BitVec 6) (unit cls : BitVec 2) (value : BitVec 64) (s : State) :
    (execWeirWrite stop unit cls value s).fuses? = some s.fuses := by simp [execWeirWrite]

@[simp] theorem State.weirTick_fuses (s : State) : (s.weirTick).fuses = s.fuses := by simp [State.weirTick]

@[simp] theorem State.tileFailed_fuses (s : State) (t code : Nat) (h : Header) :
    (s.tileFailed t code h).fuses = s.fuses := by
  unfold State.tileFailed
  split <;> simp

@[simp] theorem State.dmaFailed_fuses (s : State) (n code : Nat) (h : Header) :
    (s.dmaFailed n code h).fuses = s.fuses := by
  unfold State.dmaFailed
  repeat' split
  all_goals simp

@[simp] theorem State.dspFailed_fuses (s : State) (code : Nat) (h : Header) :
    (s.dspFailed code h).fuses = s.fuses := by simp [State.dspFailed]

@[simp] theorem State.swapLost_fuses (s : State) (h : Header) : (s.swapLost h).fuses = s.fuses := by
  unfold State.swapLost
  dsimp only
  repeat' split
  all_goals simp

@[simp] theorem State.walkLost_fuses (s : State) (h : Header) : (s.walkLost h).fuses = s.fuses := by
  unfold State.walkLost
  split <;> simp

@[simp] theorem State.meshFailed_fuses (s : State) (h : Header) (code : Nat) :
    (s.meshFailed h code).fuses = s.fuses := by simp [State.meshFailed]

@[simp] theorem State.linkFaulted_fuses (s : State) (h : Header) (code : Nat) :
    (s.linkFaulted h code).fuses = s.fuses := by
  unfold State.linkFaulted
  dsimp only
  repeat' split
  all_goals simp

@[simp] theorem State.sampleMport_fuses (s : State) (n : Nat) (h : Header) : (s.sampleMport n h).fuses = s.fuses := by
  unfold State.sampleMport
  split <;> simp

@[simp] theorem State.moveBytes_fuses (s : State) (n u bytes : Nat) : (s.moveBytes n u bytes).fuses = s.fuses := rfl

@[simp] theorem State.injectAt_fuses (s : State) (h : Header) (d : Nat) :
    (s.injectAt h d).fuses = s.fuses := by simp [State.injectAt]

@[simp] theorem State.inject_fuses (s : State) (h : Header) : (s.inject h).fuses = s.fuses := by
  unfold State.inject
  dsimp only
  repeat' split
  all_goals simp

@[simp] theorem execPacketInject_fuses? (offer : Option Header) (stop : BitVec 6) (unit vn : BitVec 2) (prompt : Bool)
    (s : State) :
    (execPacketInject offer stop unit vn prompt s).fuses? = some s.fuses := by
  unfold execPacketInject
  refine whenLive_fuses? _ _ _ fun t => ?_
  dsimp only
  repeat' split
  all_goals simp

@[simp] theorem State.waitAt_fuses (s : State) (n out c : Nat) :
    (s.waitAt n out c).fuses = s.fuses := by simp [State.waitAt]

@[simp] theorem State.landed_fuses (s : State) (k : Nat) (f : Flit) :
    (s.landed k f).fuses = s.fuses := by simp [State.landed]

@[simp] theorem State.eject_fuses (s : State) (n : Nat) (h : Header) :
    (s.eject n h).fuses = s.fuses := by simp [State.eject]

@[simp] theorem State.passFlit_fuses (s : State) (f : Flit) (body : EccEnd) : (s.passFlit f body).fuses = s.fuses := by
  unfold State.passFlit
  dsimp only
  repeat' split
  all_goals simp

@[simp] theorem State.route_fuses (s : State) (n out : Nat) (head body : EccEnd) (stalls : Nat) :
    (s.route n out head body stalls).fuses = s.fuses := by
  unfold State.route
  dsimp only
  repeat' split
  all_goals simp

@[simp] theorem execRouterHeader_fuses? (stop : BitVec 6) (out : BitVec 3) (head body : EccEnd) (stalls : BitVec 32)
    (s : State) :
    (execRouterHeader stop out head body stalls s).fuses? = some s.fuses := by simp [execRouterHeader]

@[simp] theorem execPacketEject_fuses? (stop : BitVec 6) (s : State) :
    (execPacketEject stop s).fuses? = some s.fuses := by simp [execPacketEject]

@[simp] theorem State.callAnswered_fuses (s : State) (req rsp : Header) : (s.callAnswered req rsp).fuses = s.fuses := by
  unfold State.callAnswered
  dsimp only
  repeat' split
  all_goals simp

@[simp] theorem execMeshResponse_fuses? (h : Header) (s : State) : (execMeshResponse h s).fuses? = some s.fuses := by
  unfold execMeshResponse
  refine whenLive_fuses? _ _ _ fun t => ?_
  dsimp only
  split <;> simp

@[simp] theorem execReqTimeout_fuses? (stop : BitVec 6) (unit : BitVec 2) (tag : BitVec 6) (s : State) :
    (execReqTimeout stop unit tag s).fuses? = some s.fuses := by
  unfold execReqTimeout
  refine whenLive_fuses? _ _ _ fun t => ?_
  dsimp only
  split <;> simp

@[simp] theorem State.startSwitch_fuses (s : State) : (s.startSwitch).1.fuses = s.fuses := by
  unfold State.startSwitch
  dsimp only
  repeat' split
  all_goals simp

@[simp] theorem State.endSwitch_fuses (s : State) : (s.endSwitch).fuses = s.fuses := by simp [State.endSwitch]

@[simp] theorem State.writeEpoch_fuses (s : State) (v : Nat) :
    (s.writeEpoch v).fuses = s.fuses := by simp [State.writeEpoch]

@[simp] theorem execSwitch_fuses? (value : BitVec 32) (s : State) :
    (execSwitch value s).fuses? = some s.fuses := by simp [execSwitch]

@[simp] theorem execEpochReqDrained_fuses? (s : State) :
    (execEpochReqDrained s).fuses? = some s.fuses := by simp [execEpochReqDrained]

@[simp] theorem State.disablePort_fuses (s : State) (n : Nat) : (s.disablePort n).fuses = s.fuses := rfl

@[simp] theorem State.portStopped_fuses (s : State) : (s.portStopped).fuses = s.fuses := by
  unfold State.portStopped
  split <;> simp

@[simp] theorem State.afterFlip_fuses (s : State) : (s.afterFlip).fuses = s.fuses := by
  unfold State.afterFlip
  split <;> simp

@[simp] theorem State.switchFailed_fuses (s : State) : (s.switchFailed).fuses = s.fuses := by
  unfold State.switchFailed
  split <;> simp

@[simp] theorem execEpochFlip_fuses? (s : State) : (execEpochFlip s).fuses? = some s.fuses := by simp [execEpochFlip]

@[simp] theorem execEpochAbandon_fuses? (s : State) : (execEpochAbandon s).fuses? = some s.fuses := by
  unfold execEpochAbandon
  refine whenLive_fuses? _ _ _ fun t => ?_
  dsimp only
  split <;> simp

@[simp] theorem execProbeSample_fuses? (s : State) :
    (execProbeSample s).fuses? = some s.fuses := by simp [execProbeSample]

/-! ## The link -/

@[simp] theorem State.train_fuses (s : State) (n : Nat) : (s.train n).fuses = s.fuses := rfl

@[simp] theorem State.holdover_fuses (s : State) : (s.holdover).fuses = s.fuses := by simp [State.holdover]

@[simp] theorem State.portDown_fuses (s : State) (n : Nat) : (s.portDown n).fuses = s.fuses := by simp [State.portDown]

@[simp] theorem State.peerLost_fuses (s : State) (n : Nat) : (s.peerLost n).fuses = s.fuses := by simp [State.peerLost]

@[simp] theorem State.portFailed_fuses (s : State) (n : Nat) :
    (s.portFailed n).fuses = s.fuses := by simp [State.portFailed]

@[simp] theorem State.trainFail_fuses (s : State) (n step : Nat) :
    (s.trainFail n step).fuses = s.fuses := by simp [State.trainFail]

@[simp] theorem State.useLanes_fuses (s : State) (n : Nat) (g : Nat × Nat) : (s.useLanes n g).fuses = s.fuses := rfl

@[simp] theorem State.narrow_fuses (s : State) (n : Nat) : (s.narrow n).fuses = s.fuses := by simp [State.narrow]

@[simp] theorem State.routeStep_fuses (s : State) : (s.routeStep).fuses = s.fuses := by simp [State.routeStep]

@[simp] theorem State.trained_fuses (s : State) (n : Nat) (secure : Bool) :
    (s.trained n secure).fuses = s.fuses := by simp [State.trained]

@[simp] theorem State.identified_fuses (s : State) (n die port : Nat) (enc : Bool) :
    (s.identified n die port enc).fuses = s.fuses := by
  unfold State.identified
  dsimp only
  repeat' split
  all_goals simp

@[simp] theorem execTrainingStep_fuses? (port : BitVec 3) (fin : TrainEnd) (s : State) :
    (execTrainingStep port fin s).fuses? = some s.fuses := by
  unfold execTrainingStep
  refine whenLink_fuses? _ _ fun t => ?_
  dsimp only
  repeat' split
  all_goals simp

@[simp] theorem execTrainingStepTimeout_fuses? (port : BitVec 3) (s : State) :
    (execTrainingStepTimeout port s).fuses? = some s.fuses := by simp [execTrainingStepTimeout]

@[simp] theorem execTrainingRetry_fuses? (port : BitVec 3) (s : State) :
    (execTrainingRetry port s).fuses? = some s.fuses := by simp [execTrainingRetry]

@[simp] theorem State.retrain_fuses (s : State) (n mask : Nat) :
    (s.retrain n mask).fuses = s.fuses := by simp [State.retrain]

@[simp] theorem execRetrain_fuses? (port : BitVec 3) (cause : RetrainCause) (s : State) :
    (execRetrain port cause s).fuses? = some s.fuses := by
  unfold execRetrain
  split <;> simp

@[simp] theorem execRetrainEnd_fuses? (port : BitVec 3) (fin : RetrainFin) (s : State) :
    (execRetrainEnd port fin s).fuses? = some s.fuses := by
  unfold execRetrainEnd
  refine whenLink_fuses? _ _ fun t => ?_
  dsimp only
  repeat' split
  all_goals simp

@[simp] theorem execPeerSilent_fuses? (port : BitVec 3) (s : State) :
    (execPeerSilent port s).fuses? = some s.fuses := by simp [execPeerSilent]

@[simp] theorem State.writePortCtrl_fuses (s : State) (n v : Nat) :
    (s.writePortCtrl n v).fuses = s.fuses := by simp [State.writePortCtrl]

@[simp] theorem execLinkPortEnable_fuses? (port : BitVec 3) (value : BitVec 32) (s : State) :
    (execLinkPortEnable port value s).fuses? = some s.fuses := by simp [execLinkPortEnable]

@[simp] theorem State.portMon_fuses (s : State) (n : Nat) : (s.portMon n).fuses = s.fuses := by simp [State.portMon]

@[simp] theorem execLinkPort_fuses? (src : Source) (value : BitVec 32) (s : State) :
    (execLinkPort src value s).fuses? = some s.fuses := by simp [execLinkPort]

@[simp] theorem execLinkFrameSend_fuses? (port : BitVec 3) (ty : FrameTy) (s : State) :
    (execLinkFrameSend port ty s).fuses? = some s.fuses := by
  unfold execLinkFrameSend
  split <;> simp

@[simp] theorem State.replayAll_fuses (s : State) (n : Nat) :
    (s.replayAll n).fuses = s.fuses := by simp [State.replayAll]

@[simp] theorem State.deliverFrames_fuses (s : State) (n : Nat) (fs : List LFrame) :
    (s.deliverFrames n fs).fuses = s.fuses := rfl

@[simp] theorem State.tagFailed_fuses (s : State) (n : Nat) :
    (s.tagFailed n).fuses = s.fuses := by simp [State.tagFailed]

@[simp] theorem State.acceptFrame_fuses (s : State) (n : Nat) (f : LFrame) (tagBad : Bool) :
    (s.acceptFrame n f tagBad).fuses = s.fuses := by simp [State.acceptFrame]

@[simp] theorem execLinkFrameReceive_fuses? (port : BitVec 3) (frame : LFrame) (check : FrameCheck)
    (corrected : BitVec 16) (uncorr : Bool) (s : State) :
    (execLinkFrameReceive port frame check corrected uncorr s).fuses? = some s.fuses := by simp [execLinkFrameReceive]

@[simp] theorem execAckTimeout_fuses? (port : BitVec 3) (s : State) :
    (execAckTimeout port s).fuses? = some s.fuses := by simp [execAckTimeout]

@[simp] theorem State.takeLink_fuses (s : State) (h : Header) : (s.takeLink h).fuses = s.fuses := by
  unfold State.takeLink
  split <;> simp

@[simp] theorem State.dropCombine_fuses (s : State) (e : Combine) : (s.dropCombine e).fuses = s.fuses := rfl

@[simp] theorem State.redFault_fuses (s : State) (n g off : Nat) :
    (s.redFault n g off).fuses = s.fuses := by simp [State.redFault]

@[simp] theorem State.rootWrite_fuses (s : State) (e : Combine) (partial_ : Bool) :
    (s.rootWrite e partial_).fuses = s.fuses := by
  have hred (c : Bool) (t : State) (n g off : Nat) : (if c then t.redFault n g off else t).fuses = t.fuses := by simp
  unfold State.rootWrite
  refine (hred _ _ _ _ _).trans ?_
  dsimp only
  split
  · simp
  · next h => simp [State.ownWrite_fuses h]

@[simp] theorem State.closeCombine_fuses (s : State) (e : Combine) (partial_ : Bool) :
    (s.closeCombine e partial_).fuses = s.fuses := by simp [State.closeCombine]

theorem State.joinCombine_fuses {s t : State} {n : Nat} {ing : Option Nat} {h : Header}
    (hs : s.joinCombine n ing h = some t) :
    t.fuses = s.fuses := by
  unfold State.joinCombine at hs
  dsimp only at hs
  split at hs <;> cases hs
  simp

theorem State.reduceAt_fuses {s t : State} {n : Nat} {ing : Option Nat} {h : Header}
    (hs : s.reduceAt n ing h = some t) :
    t.fuses = s.fuses := by
  unfold State.reduceAt at hs
  extract_lets g drop pass at hs
  have hdrop (hd : drop = some t) : t.fuses = s.fuses := by
    obtain rfl := Option.some.inj hd
    simp
  have hpass (p : Nat) (hp : pass p = some t) : t.fuses = s.fuses := by
    obtain rfl := Option.some.inj hp
    rfl
  split at hs
  · exact hdrop hs
  · split at hs
    · split at hs
      · exact hdrop hs
      · split at hs
        · exact hpass _ hs
        · split at hs
          · exact hdrop hs
          · exact State.joinCombine_fuses hs
    · split at hs
      · cases hs
        simp
      · split at hs
        · exact State.joinCombine_fuses hs
        · exact hpass _ hs

@[simp] theorem execLReduce_fuses? (stop : BitVec 3) (h : Header) (s : State) :
    (execLReduce stop h s).fuses? = some s.fuses := by
  unfold execLReduce
  refine whenLink_fuses? _ _ fun t => congrArg some ?_
  split
  · rfl
  · exact getD_fuses (fun r hr => (State.reduceAt_fuses hr).trans (by simp)) rfl

@[simp] theorem execReduceWaitExpire_fuses? (stop : BitVec 3) (die : BitVec 9) (group : BitVec 8) (offset : BitVec 17)
    (s : State) :
    (execReduceWaitExpire stop die group offset s).fuses? = some s.fuses := by
  unfold execReduceWaitExpire
  refine whenLink_fuses? _ _ fun t => ?_
  repeat' split
  all_goals simp

theorem State.originate_fuses {s t : State} {n : Nat} {h : Header} (hs : s.originate n h = some t) :
    t.fuses = s.fuses := by
  unfold State.originate at hs
  dsimp only at hs
  split at hs
  · exact (State.reduceAt_fuses hs).trans (by simp)
  · split at hs <;> cases hs
    simp

@[simp] theorem execZlRoute_fuses? (stop : BitVec 3) (h : Header) (s : State) :
    (execZlRoute stop h s).fuses? = some s.fuses := by
  unfold execZlRoute
  refine whenLink_fuses? _ _ fun t => congrArg some ?_
  split
  · rfl
  · split
    · exact getD_fuses (fun r hr => (State.originate_fuses hr).trans (by simp)) rfl
    · split
      · exact getD_fuses (fun r hr => (State.reduceAt_fuses hr).trans (by simp)) rfl
      · split
        · split <;> simp
        · simp

@[simp] theorem State.reissue_fuses (s : State) (n : Nat) (h : Header) :
    (s.reissue n h).fuses = s.fuses := by simp [State.reissue]

@[simp] theorem execLRead_fuses? (stop : BitVec 3) (h : Header) (s : State) :
    (execLRead stop h s).fuses? = some s.fuses := by simp [execLRead]

@[simp] theorem execLWrite_fuses? (stop : BitVec 3) (h : Header) (s : State) :
    (execLWrite stop h s).fuses? = some s.fuses := by simp [execLWrite]

@[simp] theorem execLWriteMasked_fuses? (stop : BitVec 3) (h : Header) (s : State) :
    (execLWriteMasked stop h s).fuses? = some s.fuses := by simp [execLWriteMasked]

@[simp] theorem execLMboxSend_fuses? (stop : BitVec 3) (h : Header) (s : State) :
    (execLMboxSend stop h s).fuses? = some s.fuses := by simp [execLMboxSend]

@[simp] theorem State.remoteAtomic_fuses (s : State) (n : Nat) (h : Header) : (s.remoteAtomic n h).fuses = s.fuses := by
  unfold State.remoteAtomic
  dsimp only
  repeat' split
  all_goals simp

@[simp] theorem execLAtomic_fuses? (stop : BitVec 3) (h : Header) (s : State) :
    (execLAtomic stop h s).fuses? = some s.fuses := by simp [execLAtomic]

@[simp] theorem State.linkAnswer_fuses (s : State) (h : Header) : (s.linkAnswer h).fuses = s.fuses := by
  unfold State.linkAnswer
  dsimp only
  repeat' split
  all_goals simp

@[simp] theorem execLRspData_fuses? (h : Header) (s : State) :
    (execLRspData h s).fuses? = some s.fuses := by simp [execLRspData]

@[simp] theorem execLRspAck_fuses? (h : Header) (s : State) :
    (execLRspAck h s).fuses? = some s.fuses := by simp [execLRspAck]

@[simp] theorem State.giveUp_fuses (s : State) (r : LinkReq) : (s.giveUp r).fuses = s.fuses := by simp [State.giveUp]

@[simp] theorem execRemoteResend_fuses? (stop : BitVec 3) (origStop : BitVec 6) (origUnit : BitVec 2)
    (origTag : BitVec 6) (s : State) :
    (execRemoteResend stop origStop origUnit origTag s).fuses? = some s.fuses := by
  unfold execRemoteResend
  refine whenLink_fuses? _ _ fun t => ?_
  dsimp only
  split <;> simp

@[simp] theorem execRemoteWriteGiveup_fuses? (stop : BitVec 3) (origStop : BitVec 6) (origUnit : BitVec 2)
    (origTag : BitVec 6) (s : State) :
    (execRemoteWriteGiveup stop origStop origUnit origTag s).fuses? = some s.fuses := by
  unfold execRemoteWriteGiveup
  refine whenLink_fuses? _ _ fun t => ?_
  repeat' split
  all_goals simp

@[simp] theorem execMailbox_fuses? (h : Header) (s : State) :
    (execMailbox h s).fuses? = some s.fuses := by simp [execMailbox]

@[simp] theorem execLMboxRecv_fuses? (h : Header) (s : State) : (execLMboxRecv h s).fuses? = some s.fuses := by
  unfold execLMboxRecv
  refine whenLive_fuses? _ _ _ fun t => ?_
  dsimp only
  repeat' split
  all_goals simp

@[simp] theorem State.writeBind_fuses (s : State) (m v : Nat) : (s.writeBind m v).fuses = s.fuses := by
  unfold State.writeBind
  dsimp only
  split
  · rfl
  · split
    · simp
    · refine (foldl_fuses _ _ _ fun e t => ?_).trans (by simp)
      dsimp only
      split <;> simp

@[simp] theorem execMboxBindWrite_fuses? (mbox : BitVec 12) (value : BitVec 64) (s : State) :
    (execMboxBindWrite mbox value s).fuses? = some s.fuses := by simp [execMboxBindWrite]

@[simp] theorem State.steer_fuses (s : State) (offset : Int) : (s.steer offset).fuses = s.fuses := by simp [State.steer]

@[simp] theorem State.timeOffset_fuses (s : State) (offset : Int) :
    (s.timeOffset offset).fuses = s.fuses := by simp [State.timeOffset]

@[simp] theorem execTimeSyncExchange_fuses? (t1 t2 t3 t4 : BitVec 64) (s : State) :
    (execTimeSyncExchange t1 t2 t3 t4 s).fuses? = some s.fuses := by simp [execTimeSyncExchange]

@[simp] theorem execTimeHoldover_fuses? (s : State) :
    (execTimeHoldover s).fuses? = some s.fuses := by simp [execTimeHoldover]

@[simp] theorem State.loadSession_fuses (s : State) (n : Nat) : (s.loadSession n).fuses = s.fuses := rfl

@[simp] theorem execSessionHandshake_fuses? (port : BitVec 3) (fin : Handshake) (s : State) :
    (execSessionHandshake port fin s).fuses? = some s.fuses := by
  unfold execSessionHandshake
  split <;> simp

@[simp] theorem execSessionRekey_fuses? (port : BitVec 3) (s : State) :
    (execSessionRekey port s).fuses? = some s.fuses := by simp [execSessionRekey]

/-! ## Clocks, time and ageing -/

@[simp] theorem State.setFt_fuses (s : State) (c f : Nat) : (s.setFt c f).fuses = s.fuses := rfl

@[simp] theorem State.traceOp_fuses (s : State) (c : Nat) : (s.traceOp c).fuses = s.fuses := by simp [State.traceOp]

@[simp] theorem State.limitTo_fuses (s : State) (c n : Nat) : (s.limitTo c n).fuses = s.fuses := by simp [State.limitTo]

@[simp] theorem State.setLimit_fuses (s : State) (c n : Nat) :
    (s.setLimit c n).fuses = s.fuses := by simp [State.setLimit]

@[simp] theorem State.setOp_fuses (s : State) (c k f : Nat) : (s.setOp c k f).fuses = s.fuses := by simp [State.setOp]

@[simp] theorem State.sendOp_fuses (s : State) (c k f : Nat) :
    (s.sendOp c k f).fuses = s.fuses := by simp [State.sendOp]

@[simp] theorem State.changeOp_fuses (s : State) (c k f : Nat) :
    (s.changeOp c k f).fuses = s.fuses := by simp [State.changeOp]

@[simp] theorem execPllLockLoss_fuses? (src : BitVec 4) (fin : LockEnd) (s : State) :
    (execPllLockLoss src fin s).fuses? = some s.fuses := by
  unfold execPllLockLoss
  repeat' split
  all_goals simp

@[simp] theorem execDfoTrim_fuses? (cluster : BitVec 4) (fMeas : BitVec 12) (low : BitVec 6) (codes : BitVec 48)
    (s : State) :
    (execDfoTrim cluster fMeas low codes s).fuses? = some s.fuses := by
  unfold execDfoTrim
  refine whenLive_fuses? _ _ _ fun t => ?_
  dsimp only
  repeat' split
  all_goals simp

@[simp] theorem execDroop_fuses? (cluster : BitVec 4) (freq : BitVec 12) (s : State) :
    (execDroop cluster freq s).fuses? = some s.fuses := by simp [execDroop]

@[simp] theorem execMarginCritical_fuses? (cluster : BitVec 4) (codes : BitVec 48) (s : State) :
    (execMarginCritical cluster codes s).fuses? = some s.fuses := by
  unfold execMarginCritical
  refine whenLive_fuses? _ _ _ fun t => ?_
  dsimp only
  repeat' split
  all_goals simp

@[simp] theorem State.marginEvent_fuses (s : State) (c : Nat) :
    (s.marginEvent c).fuses = s.fuses := by simp [State.marginEvent]

@[simp] theorem execMarginLow_fuses? (cluster : BitVec 4) (code : BitVec 6) (skew : BitVec 8) (s : State) :
    (execMarginLow cluster code skew s).fuses? = some s.fuses := by simp [execMarginLow]

@[simp] theorem execMarginRecover_fuses? (cluster : BitVec 4) (low : BitVec 6) (s : State) :
    (execMarginRecover cluster low s).fuses? = some s.fuses := by
  unfold execMarginRecover
  refine whenLive_fuses? _ _ _ fun t => ?_
  dsimp only
  split <;> simp

@[simp] theorem execSkewCorrect_fuses? (cluster : BitVec 4) (skew : BitVec 8) (s : State) :
    (execSkewCorrect cluster skew s).fuses? = some s.fuses := by simp [execSkewCorrect]

@[simp] theorem State.crackCluster_fuses (s : State) (c mean : Nat) :
    (s.crackCluster c mean).fuses = s.fuses := by simp [State.crackCluster]

@[simp] theorem State.suspicion_fuses (s : State) (r mean : Nat) : (s.suspicion r mean).fuses = s.fuses := by
  unfold State.suspicion
  dsimp only
  repeat' split
  all_goals simp

@[simp] theorem State.senseWatch_fuses (s : State) (r v : Nat) :
    (s.senseWatch r v).fuses = s.fuses := by simp [State.senseWatch]

@[simp] theorem State.crackSample_fuses (s : State) (r : Nat) :
    (s.crackSample r).fuses = s.fuses := by simp [State.crackSample]

@[simp] theorem State.calibrate_fuses (s : State) (r v est : Nat) :
    (s.calibrate r v est).fuses = s.fuses := by simp [State.calibrate]

@[simp] theorem State.railSample_fuses (s : State) (r v est : Nat) :
    (s.railSample r v est).fuses = s.fuses := by simp [State.railSample]

@[simp] theorem execTelemetrySample_fuses? (volts : List (BitVec 16)) (ests : List (BitVec 32)) (s : State) :
    (execTelemetrySample volts ests s).fuses? = some s.fuses := by simp [execTelemetrySample]

@[simp] theorem State.writeRailStatus_fuses (s : State) (r v : Nat) :
    (s.writeRailStatus r v).fuses = s.fuses := by simp [State.writeRailStatus]

@[simp] theorem execSenseRetry_fuses? (rail : BitVec 5) (value : BitVec 64) (s : State) :
    (execSenseRetry rail value s).fuses? = some s.fuses := by simp [execSenseRetry]

@[simp] theorem execCeilClear_fuses? (rail : BitVec 5) (value : BitVec 64) (s : State) :
    (execCeilClear rail value s).fuses? = some s.fuses := by simp [execCeilClear]

@[simp] theorem execVoltageReached_fuses? (rail : BitVec 4) (mv : BitVec 16) (s : State) :
    (execVoltageReached rail mv s).fuses? = some s.fuses := by
  unfold execVoltageReached
  refine whenLive_fuses? _ _ _ fun t => ?_
  dsimp only
  repeat' split
  all_goals simp

@[simp] theorem execVsetTimeout_fuses? (rail : BitVec 4) (s : State) :
    (execVsetTimeout rail s).fuses? = some s.fuses := by simp [execVsetTimeout]

/-! ## Power -/

@[simp] theorem State.showCap_fuses (s : State) : (s.showCap).fuses = s.fuses := rfl

@[simp] theorem State.adjustLimit_fuses (s : State) (c alloc : Nat) :
    (s.adjustLimit c alloc).fuses = s.fuses := by simp [State.adjustLimit]

@[simp] theorem State.fixedBreak_fuses (s : State) (c alloc : Nat) :
    (s.fixedBreak c alloc).fuses = s.fuses := by simp [State.fixedBreak]

@[simp] theorem State.feedback_fuses (s : State) (c alloc : Nat) :
    (s.feedback c alloc).fuses = s.fuses := by simp [State.feedback]

@[simp] theorem State.apportion_fuses (s : State) (interval : Bool) :
    (s.apportion interval).fuses = s.fuses := by simp [State.apportion]

@[simp] theorem State.learn_fuses (s : State) (t uw : Nat) : (s.learn t uw).fuses = s.fuses := by
  unfold State.learn
  split <;> simp

@[simp] theorem State.unmetCheck_fuses (s : State) : (s.unmetCheck).fuses = s.fuses := by simp [State.unmetCheck]

@[simp] theorem execEstimateInterval_fuses? (uncore : BitVec 20) (tiles : List (BitVec 32)) (s : State) :
    (execEstimateInterval uncore tiles s).fuses? = some s.fuses := by simp [execEstimateInterval]

@[simp] theorem execPhaseReport_fuses? (s : State) : (execPhaseReport s).fuses? = some s.fuses := by
  unfold execPhaseReport
  refine whenLive_fuses? _ _ _ fun t => ?_
  dsimp only
  split <;> simp

@[simp] theorem execDemandReport_fuses? (s : State) : (execDemandReport s).fuses? = some s.fuses := by
  unfold execDemandReport
  refine whenLive_fuses? _ _ _ fun t => ?_
  dsimp only
  split <;> simp

@[simp] theorem execClusterOpenOnDemand_fuses? (s : State) : (execClusterOpenOnDemand s).fuses? = some s.fuses := by
  unfold execClusterOpenOnDemand
  refine whenLive_fuses? _ _ _ fun t => ?_
  dsimp only
  repeat' split
  all_goals simp

@[simp] theorem execClusterIdleClose_fuses? (cluster : BitVec 4) (s : State) :
    (execClusterIdleClose cluster s).fuses? = some s.fuses := by simp [execClusterIdleClose]

@[simp] theorem execUnmetStep_fuses? (s : State) : (execUnmetStep s).fuses? = some s.fuses := by
  unfold execUnmetStep
  refine whenLive_fuses? _ _ _ fun t => ?_
  dsimp only
  repeat' split
  all_goals simp

@[simp] theorem State.traceLease_fuses (s : State) : (s.traceLease).fuses = s.fuses := by simp [State.traceLease]

@[simp] theorem State.writeLease_fuses (s : State) (src : Source) (v : Nat) :
    (s.writeLease src v).fuses = s.fuses := by simp [State.writeLease]

@[simp] theorem execLeaseWrite_fuses? (src : Source) (value : BitVec 64) (s : State) :
    (execLeaseWrite src value s).fuses? = some s.fuses := by simp [execLeaseWrite]

@[simp] theorem execLeaseExpire_fuses? (s : State) : (execLeaseExpire s).fuses? = some s.fuses := by
  unfold execLeaseExpire
  refine whenLive_fuses? _ _ _ fun t => ?_
  dsimp only
  split <;> simp

@[simp] theorem State.writePwrCtrl_fuses (s : State) (v : Nat) :
    (s.writePwrCtrl v).fuses = s.fuses := by simp [State.writePwrCtrl]

@[simp] theorem State.clearPhases_fuses (s : State) (mask : Nat) : (s.clearPhases mask).fuses = s.fuses := rfl

@[simp] theorem execPhaseClear_fuses? (value : BitVec 32) (s : State) :
    (execPhaseClear value s).fuses? = some s.fuses := by simp [execPhaseClear]

@[simp] theorem State.clampOn_fuses (s : State) : (s.clampOn).fuses = s.fuses := by simp [State.clampOn]

@[simp] theorem State.allToOp0_fuses (s : State) : (s.allToOp0).fuses = s.fuses := by simp [State.allToOp0]

@[simp] theorem execSpillAssert_fuses? (s : State) :
    (execSpillAssert s).fuses? = some s.fuses := by simp [execSpillAssert]

@[simp] theorem State.clampOff_fuses (s : State) : (s.clampOff).fuses = s.fuses := by simp [State.clampOff]

@[simp] theorem execSpillRelease_fuses? (s : State) :
    (execSpillRelease s).fuses? = some s.fuses := by simp [execSpillRelease]

@[simp] theorem execSpillStuck_fuses? (s : State) : (execSpillStuck s).fuses? = some s.fuses := by simp [execSpillStuck]

@[simp] theorem State.paceSendOn_fuses (s : State) (w : PaceWord) (not_ : Option Nat) :
    (s.paceSendOn w not_).fuses = s.fuses := rfl

@[simp] theorem State.keepPace_fuses (s : State) (w : PaceWord) : (s.keepPace w).fuses = s.fuses := rfl

@[simp] theorem State.pacePrepare_fuses (s : State) (f : Nat) :
    (s.pacePrepare f).fuses = s.fuses := by simp [State.pacePrepare]

@[simp] theorem execPaceSend_fuses? (s : State) : (execPaceSend s).fuses? = some s.fuses := by simp [execPaceSend]

@[simp] theorem execPaceWordReceive_fuses? (port : BitVec 3) (word : BitVec 128) (s : State) :
    (execPaceWordReceive port word s).fuses? = some s.fuses := by
  unfold execPaceWordReceive
  refine whenLive_fuses? _ _ _ fun t => ?_
  dsimp only
  repeat' split
  all_goals simp

@[simp] theorem State.paceAbsence_fuses (s : State) (key d : Nat) :
    (s.paceAbsence key d).fuses = s.fuses := by simp [State.paceAbsence]

@[simp] theorem State.paceCluster_fuses (s : State) (c f : Nat) : (s.paceCluster c f).1.fuses = s.fuses := by
  unfold State.paceCluster
  dsimp only
  repeat' split
  all_goals simp

@[simp] theorem execPaceApply_fuses? (s : State) : (execPaceApply s).fuses? = some s.fuses := by
  unfold execPaceApply
  refine whenTow_fuses? _ _ fun t => congrArg some ?_
  dsimp only
  split
  · rfl
  · split
    · simp
    · next f _ =>
      have hfold (l : List Nat) (r : State) : (l.foldl (fun (a : State × Bool) c =>
          ((a.1.paceCluster c (25 * f)).1, a.2 || (a.1.paceCluster c (25 * f)).2)) (r, false)).1.fuses = r.fuses := by
        refine foldl_fst_fuses _ (fun a c => ?_) _ _
        exact State.paceCluster_fuses ..
      split <;> simp [hfold]

/-! ## The Keeper -/

@[simp] theorem State.mbPut_fuses (s : State) (m o n v : Nat) :
    (s.mbPut m o n v).fuses = s.fuses := by simp [State.mbPut]

@[simp] theorem State.commitFailure_fuses (s : State) :
    (s.commitFailure).fuses = s.fuses := by simp [State.commitFailure]

@[simp] theorem State.authFailure_fuses (s : State) (m cls result : Nat) :
    (s.authFailure m cls result).fuses = s.fuses := by simp [State.authFailure]

@[simp] theorem State.applyEntry_fuses (s : State) (e : Nat × Nat × Nat × Nat) : (s.applyEntry e).fuses = s.fuses := by
  unfold State.applyEntry
  split <;> simp

@[simp] theorem State.applyEntries_fuses (s : State) (l : List (Nat × Nat × Nat × Nat)) :
    (s.applyEntries l).fuses = s.fuses := by simp [State.applyEntries]

@[simp] theorem State.swapsOn_fuses (s : State) (l : List (Nat × Nat × Nat × Nat)) :
    (s.swapsOn l).fuses = s.fuses := rfl

@[simp] theorem State.freshSeal_fuses (s : State) (p : Nat) : (s.freshSeal p).fuses = s.fuses := rfl

@[simp] theorem State.countSlots_fuses (s : State) : (s.countSlots).fuses = s.fuses := rfl

@[simp] theorem State.erasePart_fuses (s : State) (p : Nat) : (s.erasePart p).fuses = s.fuses := rfl

@[simp] theorem State.partKeys_fuses (s old : State) : (s.partKeys old).fuses = s.fuses := by simp [State.partKeys]

@[simp] theorem State.debugChanged_fuses (s old : State) :
    (s.debugChanged old).fuses = s.fuses := by simp [State.debugChanged]

@[simp] theorem State.lockFx_fuses (s : State) (cls : Nat) (l : List (Nat × Nat × Nat × Nat)) (old : State) :
    (s.lockFx cls l old).fuses = s.fuses := by simp [State.lockFx]

@[simp] theorem State.lockCycle_fuses (s : State) (cls : Nat) (l : List (Nat × Nat × Nat × Nat)) :
    (s.lockCycle cls l).fuses = s.fuses := by simp [State.lockCycle]

@[simp] theorem State.commitEnds_fuses (s : State) (m : Nat) (p : Proposal) (result : Nat) :
    (s.commitEnds m p result).fuses = s.fuses := by simp [State.commitEnds]

@[simp] theorem State.applyCommit_fuses (s : State) (m : Nat) (p : Proposal) : (s.applyCommit m p).fuses = s.fuses := by
  change SameFuses s _
  unfold State.applyCommit
  dsimp only
  split
  · exact State.commitEnds_fuses ..
  · exact .trans (State.eventIf_fuses ..) (.trans (State.mbDone_fuses ..) (.trans (State.endProp_fuses ..)
      (.trans (State.mbPut_fuses ..) (.trans (State.liftAll_fuses ..) (.trans (State.lockCycle_fuses ..) rfl)))))

@[simp] theorem State.kNonce_fuses (s : State) (m : Nat) : (s.kNonce m).fuses = s.fuses := by simp [State.kNonce]

@[simp] theorem State.kPropose_fuses (s : State) (m at_ : Nat) (sigOk : Bool) :
    (s.kPropose m at_ sigOk).fuses = s.fuses := by
  have hdone (t : State) (c : Nat) : SameFuses t (t.mbDone m c) := State.mbDone_fuses ..
  have hauth (t : State) (c d : Nat) : SameFuses t (t.authFailure m c d) := State.authFailure_fuses ..
  have hrefused (t : State) (c pa : Nat) : SameFuses t ((t.refusedRec c none pa).mbDone m kFetchFailed) :=
    .trans (hdone ..) (State.refusedRec_fuses ..)
  have hkeeper (t : State) (k : Keeper) : SameFuses t { t with keeper := k } := rfl
  have hpending (t : State) (own peer : Nat) : SameFuses t ((t.put (Reg.KPR_MB_STATUS_PENDING_OWN m) own).put
      (Reg.KPR_MB_STATUS_PENDING_PEER (1 - m)) peer) := .trans (State.put_fuses ..) (State.put_fuses ..)
  have hanswer (t : State) (id till : Nat) : SameFuses t (((t.mbPut m 0 4 id).mbPut m 8 8 till).mbDone m kDone) :=
    .trans (hdone ..) (.trans (State.mbPut_fuses ..) (State.mbPut_fuses ..))
  have hevent (t : State) (en vec : Fld) : SameFuses t (t.eventIf en vec) := State.eventIf_fuses ..
  change SameFuses s _
  rw [show State.kPropose = _ from by delta State.kPropose; rfl]
  obtain ⟨fetch, hfetch⟩ : ∃ f, f = State.fetchBlob := ⟨_, rfl⟩
  rw [← hfetch]
  split
  · exact hdone ..
  · split
    · exact hdone ..
    · extract_lets +onlyGivenNames nonce
      clear_value nonce
      split
      · exact hauth ..
      · extract_lets +onlyGivenNames k1 k s1 pa cid
        have h1 : SameFuses s s1 := hkeeper ..
        clear_value s1 pa cid
        split
        · exact .trans (hrefused s1 _ _) h1
        · split
          · exact .trans (hdone s1 _) h1
          · extract_lets +onlyGivenNames dig
            split
            · exact .trans (hauth s1 _ _) h1
            · split
              · exact .trans (hauth s1 _ _) h1
              · extract_lets +onlyGivenNames id till p k3 k2 s2 s3 s4
                have h2 : SameFuses s s2 := .trans (hkeeper s1 _) h1
                exact .trans (hevent s4 _ _) (.trans (hanswer s3 _ _) (.trans (hpending s2 _ _) h2))

@[simp] theorem State.kCountersign_fuses (s : State) (m at_ : Nat) (sigOk : Bool) :
    (s.kCountersign m at_ sigOk).fuses = s.fuses := by
  unfold State.kCountersign
  dsimp only
  repeat' split
  all_goals simp

@[simp] theorem State.kWithdraw_fuses (s : State) (m : Nat) :
    (s.kWithdraw m).fuses = s.fuses := by simp [State.kWithdraw]

@[simp] theorem State.kQuery_fuses (s : State) (m : Nat) : (s.kQuery m).fuses = s.fuses := by
  unfold State.kQuery
  split <;> simp

@[simp] theorem State.kBundle_fuses (s : State) (m : Nat) : (s.kBundle m).fuses = s.fuses := by simp [State.kBundle]

@[simp] theorem State.keyRefused_fuses (s : State) (m detail : Nat) :
    (s.keyRefused m detail).fuses = s.fuses := by simp [State.keyRefused]

@[simp] theorem State.kKeyLoad_fuses (s : State) (m : Nat) (sigOk tagOk : Bool) :
    (s.kKeyLoad m sigOk tagOk).fuses = s.fuses := by
  have hrefused (t : State) (d : Nat) : SameFuses t (t.keyRefused m d) := State.keyRefused_fuses ..
  have hfetch (t : State) (c pa d : Nat) : SameFuses t ((t.refusedRec c none pa).keyRefused m d).tookFree :=
    .trans (State.tookFree_fuses _) (.trans (hrefused ..) (State.refusedRec_fuses ..))
  have hdone (t : State) (slot : Nat) : SameFuses t ((t.mbPut m 0 4 slot).mbDone m kDone) :=
    .trans (State.mbDone_fuses ..) (State.mbPut_fuses ..)
  have hkeeper (t : State) (k : Keeper) (keys : List (Nat × Nat × Nat)) :
      SameFuses t { t with keeper := k, modelKeys := keys } := rfl
  have hcount (t : State) : SameFuses t t.tookFree.countSlots := State.countSlots_fuses ..
  change SameFuses s _
  rw [show State.kKeyLoad = _ from by delta State.kKeyLoad; rfl]
  extract_lets +onlyGivenNames pa cid
  split
  · extract_lets +onlyGivenNames d
    exact hfetch ..
  · extract_lets +onlyGivenNames raw p id detail
    split
    · exact hrefused ..
    · extract_lets +onlyGivenNames key keys
      split
      · extract_lets +onlyGivenNames k
        exact .trans (hdone ..) (hkeeper ..)
      · extract_lets +onlyGivenNames free
        split
        · exact hrefused ..
        · extract_lets +onlyGivenNames slot k s'
          exact .trans (hdone ..) (.trans (hcount _) (hkeeper ..))

@[simp] theorem State.kKeyDrop_fuses (s : State) (m : Nat) : (s.kKeyDrop m).fuses = s.fuses := by simp [State.kKeyDrop]

@[simp] theorem State.serve_fuses (s : State) (m op at_ : Nat) (sigOk tagOk : Bool) :
    (s.serve m op at_ sigOk tagOk).fuses = s.fuses := by simp [State.serve]

@[simp] theorem State.serveWaiting_fuses (s : State) : (s.serveWaiting).fuses = s.fuses := by
  unfold State.serveWaiting
  refine foldl_fuses _ _ _ fun t a => ?_
  dsimp only
  repeat' split
  all_goals simp

@[simp] theorem State.mailboxCmd_fuses (s : State) (m op : Nat) (sigOk tagOk : Bool) :
    (s.mailboxCmd m op sigOk tagOk).fuses = s.fuses := by simp [State.mailboxCmd]

@[simp] theorem execNonce_fuses? (mbox : BitVec 1) (s : State) :
    (execNonce mbox s).fuses? = some s.fuses := by simp [execNonce]

@[simp] theorem execPropose_fuses? (mbox : BitVec 1) (sigOk : Bool) (s : State) :
    (execPropose mbox sigOk s).fuses? = some s.fuses := by simp [execPropose]

@[simp] theorem execCountersign_fuses? (mbox : BitVec 1) (sigOk : Bool) (s : State) :
    (execCountersign mbox sigOk s).fuses? = some s.fuses := by simp [execCountersign]

@[simp] theorem execWithdraw_fuses? (mbox : BitVec 1) (s : State) :
    (execWithdraw mbox s).fuses? = some s.fuses := by simp [execWithdraw]

@[simp] theorem execQuery_fuses? (mbox : BitVec 1) (s : State) :
    (execQuery mbox s).fuses? = some s.fuses := by simp [execQuery]

@[simp] theorem execBundle_fuses? (mbox : BitVec 1) (s : State) :
    (execBundle mbox s).fuses? = some s.fuses := by simp [execBundle]

@[simp] theorem execKeyLoad_fuses? (mbox : BitVec 1) (sigOk tagOk : Bool) (s : State) :
    (execKeyLoad mbox sigOk tagOk s).fuses? = some s.fuses := by simp [execKeyLoad]

@[simp] theorem execKeyDrop_fuses? (mbox : BitVec 1) (s : State) :
    (execKeyDrop mbox s).fuses? = some s.fuses := by simp [execKeyDrop]

@[simp] theorem execQuiesceAck_fuses? (s : State) : (execQuiesceAck s).fuses? = some s.fuses := by
  unfold execQuiesceAck
  refine whenLive_fuses? _ _ _ fun t => ?_
  repeat' split
  all_goals simp

@[simp] theorem execQuiesceTimeout_fuses? (s : State) : (execQuiesceTimeout s).fuses? = some s.fuses := by
  unfold execQuiesceTimeout
  refine whenLive_fuses? _ _ _ fun t => ?_
  repeat' split
  all_goals simp

@[simp] theorem execProposalExpire_fuses? (mbox : BitVec 1) (s : State) :
    (execProposalExpire mbox s).fuses? = some s.fuses := by
  unfold execProposalExpire
  refine whenLive_fuses? _ _ _ fun t => ?_
  dsimp only
  split <;> simp

@[simp] theorem execLockoutEnd_fuses? (s : State) : (execLockoutEnd s).fuses? = some s.fuses := by
  unfold execLockoutEnd
  refine whenLive_fuses? _ _ _ fun t => ?_
  dsimp only
  split <;> simp

@[simp] theorem execDebugRelock_fuses? (s : State) :
    (execDebugRelock s).fuses? = some s.fuses := by simp [execDebugRelock]

/-! ## Debug -/

@[simp] theorem State.dbgResult_fuses (s : State) (r : Nat) : (s.dbgResult r).fuses = s.fuses := rfl

@[simp] theorem State.dbgHalt_fuses (s : State) (t : Nat) : (s.dbgHalt t).fuses = s.fuses := by simp [State.dbgHalt]

@[simp] theorem State.dbgResume_fuses (s : State) (t : Nat) :
    (s.dbgResume t).fuses = s.fuses := by simp [State.dbgResume]

@[simp] theorem State.dbgStep_fuses (s : State) (t : Nat) : (s.dbgStep t).fuses = s.fuses := by simp [State.dbgStep]

@[simp] theorem State.dbgRead_fuses (s : State) (t : Nat) : (s.dbgRead t).fuses = s.fuses := by simp [State.dbgRead]

@[simp] theorem State.dbgWrite_fuses (s : State) (t : Nat) : (s.dbgWrite t).fuses = s.fuses := by simp [State.dbgWrite]

@[simp] theorem State.dbgCmd_fuses (s : State) (t cmd : Nat) :
    (s.dbgCmd t cmd).fuses = s.fuses := by simp [State.dbgCmd]

@[simp] theorem execHalt_fuses? (tile : BitVec 6) (s : State) :
    (execHalt tile s).fuses? = some s.fuses := by simp [execHalt]

@[simp] theorem execDbgResume_fuses? (tile : BitVec 6) (s : State) :
    (execDbgResume tile s).fuses? = some s.fuses := by simp [execDbgResume]

@[simp] theorem execStep_fuses? (tile : BitVec 6) (s : State) :
    (execStep tile s).fuses? = some s.fuses := by simp [execStep]

@[simp] theorem execRead_fuses? (tile : BitVec 6) (s : State) :
    (execRead tile s).fuses? = some s.fuses := by simp [execRead]

@[simp] theorem execWrite_fuses? (tile : BitVec 6) (s : State) :
    (execWrite tile s).fuses? = some s.fuses := by simp [execWrite]

@[simp] theorem execBreakpoint_fuses? (tile : BitVec 6) (s : State) :
    (execBreakpoint tile s).fuses? = some s.fuses := by simp [execBreakpoint]

/-! ## Stoppages -/

@[simp] theorem State.sensorStopped_fuses (s : State) :
    (s.sensorStopped).fuses = s.fuses := by simp [State.sensorStopped]

@[simp] theorem State.stopUnit_fuses (s : State) (kind i : Nat) : (s.stopUnit kind i).fuses = s.fuses := by
  unfold State.stopUnit
  dsimp only
  repeat' split
  all_goals simp

@[simp] theorem State.reopenUnit_fuses (s : State) (x : StopCmd) : (s.reopenUnit x).fuses = s.fuses := by
  unfold State.reopenUnit
  split <;> simp

@[simp] theorem State.stopCmd_fuses (s : State) (v : Nat) : (s.stopCmd v).fuses = s.fuses := by
  unfold State.stopCmd
  dsimp only
  repeat' split
  all_goals simp

@[simp] theorem execStop_fuses? (src : Source) (value : BitVec 32) (s : State) :
    (execStop src value s).fuses? = some s.fuses := by simp [execStop]

@[simp] theorem execReopen_fuses? (src : Source) (value : BitVec 32) (s : State) :
    (execReopen src value s).fuses? = some s.fuses := by simp [execReopen]

@[simp] theorem execLinkStopDrainExpire_fuses? (s : State) : (execLinkStopDrainExpire s).fuses? = some s.fuses := by
  unfold execLinkStopDrainExpire
  split <;> simp

@[simp] theorem execSensorStopCaptureEnd_fuses? (s : State) : (execSensorStopCaptureEnd s).fuses? = some s.fuses := by
  unfold execSensorStopCaptureEnd
  split <;> simp

@[simp] theorem execSelftest_fuses? (pass : Bool) (s : State) : (execSelftest pass s).fuses? = some s.fuses := by
  unfold execSelftest
  repeat' split
  all_goals simp

@[simp] theorem execRoute_fuses? (s : State) : (execRoute s).fuses? = some s.fuses := by
  unfold execRoute
  split <;> simp

/-! ## Pins and temperature -/

@[simp] theorem State.sampleTemp_fuses (s : State) (k : Nat) :
    (s.sampleTemp k).fuses = s.fuses := by simp [State.sampleTemp]

@[simp] theorem State.trip_fuses (s : State) : (s.trip).fuses = s.fuses := by simp [State.trip]

@[simp] theorem State.throttle_fuses (s : State) (t : Nat) : (s.throttle t).fuses = s.fuses := by simp [State.throttle]

@[simp] theorem execThermalReading_fuses? (readings : List (BitVec 10)) (s : State) :
    (execThermalReading readings s).fuses? = some s.fuses := by
  unfold execThermalReading
  refine congrArg some ?_
  split
  · rfl
  · extract_lets +onlyGivenNames pins s1 s2
    have h2 : s2.fuses = s.fuses := foldl_fuses _ _ s1 fun k t => by
      dsimp only
      split <;> simp
    clear_value s2
    extract_lets +onlyGivenNames hot s3 cool s4
    have h4 : s4.fuses = s.fuses := by
      simp only [s4, s3, State.fuses_ite, State.tookFree_fuses, State.put_fuses, h2, ite_self]
    clear_value s4
    split
    · simp [h4]
    · split
      · exact h4
      · extract_lets before s5
        split <;> simp [s5, h4]

@[simp] theorem execThermalTrip_fuses? (sensor : BitVec 5) (s : State) :
    (execThermalTrip sensor s).fuses? = some s.fuses := by simp [execThermalTrip]

@[simp] theorem execThermalWaitEnd_fuses? (s : State) :
    (execThermalWaitEnd s).fuses? = some s.fuses := by simp [execThermalWaitEnd]

@[simp] theorem State.setDiode_fuses (s : State) (v : Nat) : (s.setDiode v).fuses = s.fuses := by simp [State.setDiode]

@[simp] theorem execDiodeMeasure_fuses? (v10 v100 : BitVec 16) (reading : BitVec 10) (s : State) :
    (execDiodeMeasure v10 v100 reading s).fuses? = some s.fuses := by simp [execDiodeMeasure]

@[simp] theorem execMgmtBusClear_fuses? (scl freed : Bool) (s : State) :
    (execMgmtBusClear scl freed s).fuses? = some s.fuses := by simp [execMgmtBusClear]

@[simp] theorem execMgmtStuckClear_fuses? (s : State) :
    (execMgmtStuckClear s).fuses? = some s.fuses := by simp [execMgmtStuckClear]

@[simp] theorem execOutputFight_fuses? (alarm : Bool) (s : State) :
    (execOutputFight alarm s).fuses? = some s.fuses := by simp [execOutputFight]

@[simp] theorem execEntdaa_fuses? (addr : BitVec 7) (s : State) :
    (execEntdaa addr s).fuses? = some s.fuses := by simp [execEntdaa]

@[simp] theorem execSetdasa_fuses? (static addr : BitVec 7) (s : State) :
    (execSetdasa static addr s).fuses? = some s.fuses := by simp [execSetdasa]

@[simp] theorem execRstdaa_fuses? (s : State) : (execRstdaa s).fuses? = some s.fuses := by simp [execRstdaa]

@[simp] theorem State.jtagIr_fuses (s : State) (ir out : Nat) : (s.jtagIr ir out).fuses = s.fuses := rfl

@[simp] theorem execBypass_fuses? (s : State) : (execBypass s).fuses? = some s.fuses := rfl

@[simp] theorem execIdcode_fuses? (s : State) : (execIdcode s).fuses? = some s.fuses := rfl

@[simp] theorem execSamplePreload_fuses? (cells : BitVec 256) (s : State) :
    (execSamplePreload cells s).fuses? = some s.fuses := rfl

@[simp] theorem execExtest_fuses? (s : State) : (execExtest s).fuses? = some s.fuses := rfl

/-! ## Register writes -/

@[simp] theorem State.writeField_fuses (s : State) (o : Nat) (p : Part) (old v : Nat) (f : FieldDesc) :
    (s.writeField o p old v f).fuses = s.fuses := by
  unfold State.writeField
  repeat' split
  all_goals simp

@[simp] theorem State.writePlain_fuses (s : State) (d : RegDesc) (o : Nat) (p : Part) (v : Nat) :
    (s.writePlain d o p v).fuses = s.fuses := by simp [State.writePlain]

@[simp] theorem State.clearMask_fuses (s : State) (d : RegDesc) (o mask : Nat) :
    (s.clearMask d o mask).fuses = s.fuses := by simp [State.clearMask]

@[simp] theorem State.clearProbe_fuses (s : State) (n : Nat) :
    (s.clearProbe n).fuses = s.fuses := by simp [State.clearProbe]

theorem State.clearOnWrite_fuses {s t : State} {d : RegDesc} {o : Nat} (h : s.clearOnWrite d o = some t) :
    t.fuses = s.fuses := by
  unfold State.clearOnWrite at h
  dsimp only at h
  repeat' split at h
  all_goals cases h
  all_goals simp

@[simp] theorem State.objCmd_fuses (s : State) (v : Nat) : (s.objCmd v).fuses = s.fuses := by
  unfold State.objCmd
  split <;> simp

@[simp] theorem State.faultCmd_fuses (s : State) (v : Nat) : (s.faultCmd v).fuses = s.fuses := by
  unfold State.faultCmd
  split <;> simp

@[simp] theorem State.mbCmd_fuses (s : State) (m v : Nat) : (s.mbCmd m v).fuses = s.fuses := by simp [State.mbCmd]

@[simp] theorem State.bankWrite_fuses (s : State) (d : RegDesc) (o bank : Nat) (p : Part) (v : Nat) :
    (s.bankWrite d o bank p v).fuses = s.fuses := by simp [State.bankWrite]

/-- A choice of results leaves the fuses alone where each of the two does. -/
theorem fuses_of_ite_some {c : Prop} [Decidable c] {a t : State} {o : Option State} {f : Fuses} (ha : a.fuses = f)
    (ho : o = some t → t.fuses = f) (h : (if c then some a else o) = some t) :
    t.fuses = f := by
  split at h
  · cases h
    exact ha
  · exact ho h

theorem State.writeOwn_fuses {s t : State} {src : Source} {d : RegDesc} {o : Nat} {p : Part} {raw : Nat}
    (h : s.writeOwn src d o p raw = some t) :
    t.fuses = s.fuses := by
  unfold State.writeOwn at h
  dsimp only at h
  revert h
  repeat refine fuses_of_ite_some (by simp) ?_
  exact nofun

@[simp] theorem State.wroteFx_fuses (s old : State) (d : RegDesc) (o : Nat) :
    (s.wroteFx old d o).fuses = s.fuses := by simp [State.wroteFx]

@[simp] theorem State.regWrite_fuses (s : State) (src : Source) (d : RegDesc) (o : Nat) (p : Part) (v : Nat) :
    (s.regWrite src d o p v).fuses = s.fuses := by
  unfold State.regWrite
  split
  · next h => exact State.clearOnWrite_fuses h
  · split
    · next h => exact State.writeOwn_fuses h
    · simp

@[simp] theorem State.write32_fuses (s : State) (src : Source) (o v : Nat) : (s.write32 src o v).fuses = s.fuses := by
  unfold State.write32
  repeat' split
  all_goals simp

@[simp] theorem State.reachedWrite_fuses (s : State) (src : Source) (o v : Nat) :
    (s.reachedWrite src o v).fuses = s.fuses := by simp [State.reachedWrite]

@[simp] theorem State.writeAt_fuses (s : State) (src : Source) (o size v : Nat) :
    (s.writeAt src o size v).fuses = s.fuses := by
  unfold State.writeAt
  repeat' split
  all_goals simp

@[simp] theorem execRegisterWrite_fuses? (offset : BitVec 26) (size : BitVec 4) (value : BitVec 64) (s : State) :
    (execRegisterWrite offset size value s).fuses? = some s.fuses := by simp [execRegisterWrite]

@[simp] theorem execClearOnWrite_fuses? (offset : BitVec 26) (size : BitVec 4) (value : BitVec 64) (s : State) :
    (execClearOnWrite offset size value s).fuses? = some s.fuses := by simp [execClearOnWrite]

@[simp] theorem execBadWidthAccess_fuses? (write : Bool) (offset : BitVec 21) (size : BitVec 4) (s : State) :
    (execBadWidthAccess write offset size s).fuses? = some s.fuses := by simp [execBadWidthAccess]

/-! ## The management port and JTAG -/

@[simp] theorem State.mgmtAnswer_fuses (s : State) (status : Nat) (data : List Byte) :
    (s.mgmtAnswer status data).fuses = s.fuses := rfl

@[simp] theorem State.mgmtRead_fuses (s : State) (o n len : Nat) :
    (s.mgmtRead o n len).fuses = s.fuses := by simp [State.mgmtRead]

@[simp] theorem State.mgmtWrite_fuses (s : State) (o n len v : Nat) :
    (s.mgmtWrite o n len v).fuses = s.fuses := by simp [State.mgmtWrite]

@[simp] theorem execRead32_fuses? (offset : BitVec 32) (len : BitVec 8) (s : State) :
    (execRead32 offset len s).fuses? = some s.fuses := by simp [execRead32]

@[simp] theorem execRead64_fuses? (offset : BitVec 32) (len : BitVec 8) (s : State) :
    (execRead64 offset len s).fuses? = some s.fuses := by simp [execRead64]

@[simp] theorem execWrite32_fuses? (offset : BitVec 32) (len : BitVec 8) (value : BitVec 32) (s : State) :
    (execWrite32 offset len value s).fuses? = some s.fuses := by simp [execWrite32]

@[simp] theorem execWrite64_fuses? (offset : BitVec 32) (len : BitVec 8) (value : BitVec 64) (s : State) :
    (execWrite64 offset len value s).fuses? = some s.fuses := by simp [execWrite64]

@[simp] theorem execMgmtStatusRead_fuses? (s : State) :
    (execMgmtStatusRead s).fuses? = some s.fuses := by simp [execMgmtStatusRead]

@[simp] theorem execJtagTowpathAccess_fuses? (write : Bool) (offset : BitVec 26) (size : BitVec 4) (value : BitVec 64)
    (code : BitVec 8) (s : State) :
    (execJtagTowpathAccess write offset size value code s).fuses? = some s.fuses := by simp [execJtagTowpathAccess]

@[simp] theorem State.leaveCopies_fuses (s : State) (n : Nat) (p : Nat → Bool) :
    (s.leaveCopies n p).fuses = s.fuses := rfl

@[simp] theorem State.holdCopies_fuses (s : State) (n : Nat) :
    (s.holdCopies n).fuses = s.fuses := by simp [State.holdCopies]

@[simp] theorem State.shareTick_fuses (s : State) : (s.shareTick).fuses = s.fuses := rfl

@[simp] theorem State.sampleBw_fuses (s : State) : (s.sampleBw).fuses = s.fuses := by simp [State.sampleBw]

@[simp] theorem State.sampleRails_fuses (s : State) : (s.sampleRails).fuses = s.fuses := by simp [State.sampleRails]

@[simp] theorem State.sampleDue_fuses (s : State) (old : Nat) :
    (s.sampleDue old).fuses = s.fuses := by simp [State.sampleDue]

@[simp] theorem State.pllTick_fuses (s : State) : (s.pllTick).fuses = s.fuses := by simp [State.pllTick]

@[simp] theorem State.rcTick_fuses (s : State) : (s.rcTick).fuses = s.fuses := rfl

@[simp] theorem State.tick_fuses (s : State) : (s.tick).fuses = s.fuses := by simp [State.tick]

/-! ## Tensor instructions -/

@[simp] theorem State.unitFx_fuses (s : State) (c unit : Nat) (reads writes : List (Nat × Nat)) (regs : List Nat)
    (e : Option Exc) :
    (s.unitFx c unit reads writes regs e).state.fuses = s.fuses := by
  unfold State.unitFx
  split <;> simp

@[simp] theorem State.unitOp_fuses (s : State) (c unit : Nat) (reads writes : List (Nat × Nat)) (srcs dsts : List Nat)
    (e : List (Option Exc)) (fx : State → State × Option Exc) (h : KeepsFuses fun t => (fx t).1) :
    (s.unitOp c unit reads writes srcs dsts e fx).state.fuses = s.fuses := by
  unfold State.unitOp
  repeat' split
  · rfl
  · simp
  · exact (State.unitFx_fuses _ _ _ _ _ _ _).trans (h s)

@[simp] theorem State.unitEcc_fuses (s : State) (c : Nat) (rs : List (Nat × Nat)) (hits : List TileHit)
    (fx : State → State × Option Exc) (h : KeepsFuses fun t => (fx t).1) :
    (s.unitEcc c rs hits fx).1.fuses = s.fuses := by
  unfold State.unitEcc
  split
  · next he => simp [fst_fuses he]
  · next t he => exact (h t).trans (by simp [fst_fuses he])

@[simp] theorem State.storeLe_fuses (s : State) (c a n v : Nat) :
    (s.storeLe c a n v).fuses = s.fuses := by simp [State.storeLe]

@[simp] theorem State.mmaSteps_fuses (s : State) (c k : Nat) (a b : Desc) (fp neg : Bool) (j n : Nat) :
    (s.mmaSteps c k a b fp neg j n).1.fuses = s.fuses := by
  induction n generalizing s j with
  | zero => rfl
  | succ n ih =>
    unfold State.mmaSteps
    dsimp only
    split
    · rfl
    · exact (ih _ _).trans (by simp)

@[simp] theorem State.countRead_fuses (s : State) (c : Nat) (ls : List Nat) (e : Option Exc) :
    (s.countRead c ls e).1.fuses = s.fuses := by simp [State.countRead]

@[simp] theorem execMma_fuses? (u : BitVec 7) (acc : BitVec 3) (ta tb aux : BitVec 4) (zero neg : Bool)
    (rsv : BitVec 9) (hits : List TileHit) (s : State) :
    (execMma u acc ta tb aux zero neg rsv hits s).fuses? = some s.fuses := by
  refine next_issue_fuses? fun t => ?_
  extract_lets +onlyGivenNames tile va vb enc
  split
  · extract_lets +onlyGivenNames fp last chain es go f
    have hgo (r : State) : (go r).1.fuses = r.fuses := State.unitEcc_fuses _ _ _ _ _ fun r => by
      dsimp only
      split <;> next h => simp [fst_fuses h]
    split
    · split
      · exact State.unitFx_fuses ..
      · exact (State.unitFx_fuses ..).trans (hgo t)
    · exact State.unitOp_fuses _ _ _ _ _ _ _ _ _ hgo
  · exact State.unitOp_fuses _ _ _ _ _ _ _ _ _ fun _ => rfl

@[simp] theorem State.putElem_fuses (s : State) (c : Nat) (d : Desc) (i0 i1 i2 i3 code : Nat) :
    (s.putElem c d i0 i1 i2 i3 code).fuses = s.fuses := by simp [State.putElem]

@[simp] theorem State.cvtElems_fuses (src s : State) (c : Nat) (v : Cvt) (tmode : Word)
    (es : List (Nat × Nat × Nat × Nat × Nat)) :
    (State.cvtElems src s c v tmode es).1.fuses = s.fuses := by
  induction es generalizing s with
  | nil => rfl
  | cons e es ih =>
    unfold State.cvtElems
    dsimp only
    split
    · rfl
    · exact (ih _).trans (by simp)

@[simp] theorem State.cvtBlock_fuses (src s : State) (c : Nat) (v : Cvt) (tmode : Word)
    (es : List (Nat × Nat × Nat × Nat × Nat)) :
    (State.cvtBlock src s c v tmode es).1.fuses = s.fuses := by
  unfold State.cvtBlock
  dsimp only
  split
  · rfl
  · split
    · rfl
    · exact (foldl_fuses _ _ _ fun e t => by simp).trans (by simp)

@[simp] theorem State.cvtBlocks_fuses (src s : State) (c : Nat) (v : Cvt) (tmode : Word) (n : Nat)
    (es : List (Nat × Nat × Nat × Nat × Nat)) :
    (State.cvtBlocks src s c v tmode n es).1.fuses = s.fuses := by
  induction n generalizing s es with
  | zero => rfl
  | succ n ih =>
    unfold State.cvtBlocks
    split
    · rfl
    · split
      · next h => rw [fst_fuses h, State.cvtBlock_fuses]
      · next h => rw [ih, fst_fuses h, State.cvtBlock_fuses]

@[simp] theorem execCvt_fuses? (u : BitVec 7) (acc : BitVec 3) (ta tb aux : BitVec 4) (rm : BitVec 3)
    (ieee rescale srcT : Bool) (rsv : BitVec 5) (hits : List TileHit) (s : State) :
    (execCvt u acc ta tb aux rm ieee rescale srcT rsv hits s).fuses? = some s.fuses := by
  refine next_issue_fuses? fun t => ?_
  extract_lets +onlyGivenNames tile enc srcs
  split
  · next d e _ _ =>
    extract_lets +onlyGivenNames v shape isleBad srcR
    refine State.unitOp_fuses _ _ _ _ _ _ _ _ _ fun t => ?_
    extract_lets +onlyGivenNames unw
    split
    · rfl
    · refine State.unitEcc_fuses _ _ _ _ _ fun r => ?_
      extract_lets +onlyGivenNames kindBad els
      split
      · simp
      · split
        · dsimp only
          split <;> next h => simp [fst_fuses h]
        · dsimp only
          split <;> next h => simp [fst_fuses h]
  · exact State.unitOp_fuses _ _ _ _ _ _ _ _ _ fun _ => rfl

@[simp] theorem State.reduce_fuses? (s : State) (u : BitVec 7) (op : RedOp) (acc : BitVec 3) (ta tb aux : BitVec 4)
    (axis : BitVec 2) (dst : BitVec 5) :
    (s.reduce u op acc ta tb aux axis dst).fuses? = some s.fuses := by simp [State.reduce]

/-! ## Vector instructions -/

@[simp] theorem State.vec_fuses (s : State) (u : BitVec 7) (reads writes : List (Nat × Nat)) (srcs dsts : List Nat)
    (es : List (Option Exc)) (fx : State → State × Option Exc) (h : KeepsFuses fun t => (fx t).1) :
    (s.vec u reads writes srcs dsts es fx).state.fuses = s.fuses := State.unitOp_fuses _ _ _ _ _ _ _ _ _ h

@[simp] theorem State.vecInt_fuses? (s : State) (u : BitVec 7) (vd vs1 vs2 : BitVec 5) (pd : BitVec 3) (scalar : Bool)
    (es : List (Option Exc)) (f : Word → Word → Word → Word) :
    (s.vecInt u vd vs1 vs2 pd scalar es f).fuses? = some s.fuses := by simp [State.vecInt]

@[simp] theorem State.vecFp_fuses? (s : State) (u : BitVec 7) (vd vs1 vs2 : BitVec 5) (pd : BitVec 3) (scalar : Bool)
    (es : List (Option Exc)) (nanIn : Word → Word → Word → Bool) (f : Word → Word → Word → Word) :
    (s.vecFp u vd vs1 vs2 pd scalar es nanIn f).fuses? = some s.fuses :=
  next_issue_fuses? fun t => State.vec_fuses _ _ _ _ _ _ _ _ fun t => by
    dsimp only
    split <;> simp

@[simp] theorem State.vecCmp_fuses? (s : State) (u : BitVec 7) (vd vs1 vs2 : BitVec 5) (pd : BitVec 3) (scalar : Bool)
    (f : Word → Word → Bool) :
    (s.vecCmp u vd vs1 vs2 pd scalar f).fuses? = some s.fuses := by simp [State.vecCmp]

@[simp] theorem execVperm_fuses? (u : BitVec 7) (vd vs1 vs2 : BitVec 5) (pd : BitVec 3) (s : State) :
    (execVperm u vd vs1 vs2 pd s).fuses? = some s.fuses := by simp [execVperm]

@[simp] theorem execVrot_fuses? (u : BitVec 7) (vd vs1 vs2 : BitVec 5) (pd : BitVec 3) (s : State) :
    (execVrot u vd vs1 vs2 pd s).fuses? = some s.fuses := by simp [execVrot]

@[simp] theorem execVred_fuses? (u : BitVec 7) (vd vs1 vs2 : BitVec 5) (pd : BitVec 3) (s : State) :
    (execVred u vd vs1 vs2 pd s).fuses? = some s.fuses :=
  next_issue_fuses? fun t => State.vec_fuses _ _ _ _ _ _ _ _ fun t => by
    dsimp only
    split
    · rfl
    · split <;> simp

@[simp] theorem State.predOp_fuses? (s : State) (u : BitVec 7) (vd vs1 vs2 : BitVec 5) (pd : BitVec 3)
    (f : Bool → Bool → Bool) :
    (s.predOp u vd vs1 vs2 pd f).fuses? = some s.fuses := by simp [State.predOp]

@[simp] theorem execPset_fuses? (u : BitVec 7) (vd vs1 vs2 : BitVec 5) (pd : BitVec 3) (s : State) :
    (execPset u vd vs1 vs2 pd s).fuses? = some s.fuses := by simp [execPset]

@[simp] theorem execPget_fuses? (u : BitVec 7) (vd vs1 vs2 : BitVec 5) (pd : BitVec 3) (s : State) :
    (execPget u vd vs1 vs2 pd s).fuses? = some s.fuses := by simp [execPget]

@[simp] theorem State.vload_fuses? (s : State) (u : BitVec 7) (vd vs1 vs2 : BitVec 5) (pd : BitVec 3)
    (hits : List TileHit) (strided : Bool) (bytes : Nat) (widen : Nat → Word) :
    (s.vload u vd vs1 vs2 pd hits strided bytes widen).fuses? = some s.fuses :=
  next_issue_fuses? fun t => State.vec_fuses _ _ _ _ _ _ _ _ fun t => by
    dsimp only
    split
    · rfl
    · next h => exact (State.unitEcc_fuses _ _ _ _ _ fun t => by simp).trans (State.readRanges_fuses h)

@[simp] theorem State.vstore_fuses? (s : State) (u : BitVec 7) (vd vs1 vs2 : BitVec 5) (pd : BitVec 3)
    (hits : List TileHit) (strided : Bool) (bytes : Nat) :
    (s.vstore u vd vs1 vs2 pd hits strided bytes).fuses? = some s.fuses :=
  next_issue_fuses? fun t => State.vec_fuses _ _ _ _ _ _ _ _ fun t => by simp

@[simp] theorem execVbcast_fuses? (u : BitVec 7) (vd vs1 vs2 : BitVec 5) (pd : BitVec 3) (s : State) :
    (execVbcast u vd vs1 vs2 pd s).fuses? = some s.fuses := by simp [execVbcast]

@[simp] theorem execVext_fuses? (u : BitVec 7) (vd vs1 vs2 : BitVec 5) (pd : BitVec 3) (s : State) :
    (execVext u vd vs1 vs2 pd s).fuses? = some s.fuses := by simp [execVext]

@[simp] theorem execVins_fuses? (u : BitVec 7) (vd vs1 vs2 : BitVec 5) (pd : BitVec 3) (s : State) :
    (execVins u vd vs1 vs2 pd s).fuses? = some s.fuses := by simp [execVins]

@[simp] theorem execAccrd_fuses? (u : BitVec 7) (vd vs1 vs2 : BitVec 5) (pd : BitVec 3) (s : State) :
    (execAccrd u vd vs1 vs2 pd s).fuses? = some s.fuses := by simp [execAccrd]

@[simp] theorem execAccwr_fuses? (u : BitVec 7) (vd vs1 vs2 : BitVec 5) (pd : BitVec 3) (s : State) :
    (execAccwr u vd vs1 vs2 pd s).fuses? = some s.fuses := by simp [execAccwr]

@[simp] theorem execVmov_fuses? (u : BitVec 7) (vd vs1 vs2 : BitVec 5) (pd : BitVec 3) (s : State) :
    (execVmov u vd vs1 vs2 pd s).fuses? = some s.fuses := by simp [execVmov]

@[simp] theorem execRtld_fuses? (u : BitVec 7) (vd vs1 vs2 : BitVec 5) (pd : BitVec 3) (hits : List TileHit)
    (s : State) :
    (execRtld u vd vs1 vs2 pd hits s).fuses? = some s.fuses :=
  next_issue_fuses? fun t => State.vec_fuses _ _ _ _ _ _ _ _ fun t => by
    dsimp only
    split
    · rfl
    · next h => exact (State.unitEcc_fuses _ _ _ _ _ fun t => by simp).trans (State.readRanges_fuses h)

@[simp] theorem execRtst_fuses? (u : BitVec 7) (vd vs1 vs2 : BitVec 5) (pd : BitVec 3) (s : State) :
    (execRtst u vd vs1 vs2 pd s).fuses? = some s.fuses := by simp [execRtst]

@[simp] theorem execTileException_fuses? (tile : BitVec 6) (unit : BitVec 2) (word after : BitVec 32) (s : State) :
    (execTileException tile unit word after s).fuses? = some s.fuses := by
  unfold execTileException
  dsimp only
  split
  · split
    · rfl
    · exact next_issue_fuses? fun t => rfl
  · rfl

/-! ## Every command but two -/

/-- Each command but the two that blow fuses ends in a state with the fuses it found. -/
theorem exec_fuses? {c : Instr} (s : State) (hready : c ≠ .flightReady)
    (hage : ∀ cluster ran mean, c ≠ .ageingCheck cluster ran mean) : Out.fuses? (exec c s) = some s.fuses := by
  cases c
  case flightReady => exact absurd rfl hready
  case ageingCheck => exact absurd rfl (hage _ _ _)
  case add | sub | and | or | xor | sll | srl | sra | slt | sltu | mul | mulh | mulhu | div | divu | rem | remu | min |
      max | minu | maxu =>
    simp only [exec, execAdd, execSub, execAnd, execOr, execXor, execSll, execSrl, execSra, execSlt, execSltu, execMul,
      execMulh, execMulhu, execDiv, execDivu, execRem, execRemu, execMin, execMax, execMinu, execMaxu, State.sss_fuses?]
  case clz | popc =>
    simp only [exec, execClz, execPopc, State.ss0_fuses?]
  case aadd | aaddu =>
    simp only [exec, execAadd, execAaddu, State.aas_fuses?]
  case alo | ahi =>
    simp only [exec, execAlo, execAhi, State.sa0_fuses?]
  case addi | andi | ori | xori | lui | slti =>
    simp only [exec, execAddi, execAndi, execOri, execXori, execLui, execSlti, State.ssi_fuses?]
  case lw | lbu =>
    simp only [exec, execLw, execLbu, State.loadS_fuses?]
  case sw | sb =>
    simp only [exec, execSw, execSb, State.storeS_fuses?]
  case beq | bne | blt | bge | bltu | bgeu =>
    simp only [exec, execBeq, execBne, execBlt, execBge, execBltu, execBgeu, State.branch_fuses?]
  case jal | jalr =>
    simp only [exec, execJal, execJalr, State.jumpLink_fuses?]
  case loop | lbrk =>
    simp only [exec, execLoop, execLbrk, State.loopOp_fuses?]
  case atomAdd | atomAnd | atomOr | atomXor | atomSmin | atomSmax | atomUmin | atomUmax | atomSwap | atomCas | atomFadd
      | atomLoad =>
    simp only [exec, execAtomAdd, execAtomAnd, execAtomOr, execAtomXor, execAtomSmin, execAtomSmax, execAtomUmin,
      execAtomUmax, execAtomSwap, execAtomCas, execAtomFadd, execAtomLoad, State.atom_fuses?]
  case reduceSum | reduceMax | reduceMin | reduceAbsmax =>
    simp only [exec, execReduceSum, execReduceMax, execReduceMin, execReduceAbsmax, State.reduce_fuses?]
  case vadd | vsub | vmul | vmulh | vmulhu | vmin | vmax | vminu | vmaxu | vand | vor | vxor | vsll | vsrl | vsra | vabs
      | vmadd | vsrar | vfabs | vfneg | vf2i =>
    simp only [exec, execVadd, execVsub, execVmul, execVmulh, execVmulhu, execVmin, execVmax, execVminu, execVmaxu,
      execVand, execVor, execVxor, execVsll, execVsrl, execVsra, execVabs, execVmadd, execVsrar, execVfabs, execVfneg,
      execVf2i, State.vecInt_fuses?]
  case vfadd | vfsub | vfmul | vfma | vfmin | vfmax | vfrcp | vfrsqrt | vfsqrt | vfexp2 | vflog2 | vfdiv | vi2f | vu2f
      =>
    simp only [exec, execVfadd, execVfsub, execVfmul, execVfma, execVfmin, execVfmax, execVfrcp, execVfrsqrt,
      execVfsqrt, execVfexp2, execVflog2, execVfdiv, execVi2f, execVu2f, State.vecFp_fuses?]
  case vcmpeq | vcmpne | vcmplt | vcmple | vcmpltu | vcmpleu | vfcmpeq | vfcmplt | vfcmple | vfcmpun =>
    simp only [exec, execVcmpeq, execVcmpne, execVcmplt, execVcmple, execVcmpltu, execVcmpleu, execVfcmpeq, execVfcmplt,
      execVfcmple, execVfcmpun, State.vecCmp_fuses?]
  case pand | por | pxor | pandn =>
    simp only [exec, execPand, execPor, execPxor, execPandn, State.predOp_fuses?]
  case vld | vlds | vld8 | vldu8 | vld16 | vldh | vldbf =>
    simp only [exec, execVld, execVlds, execVld8, execVldu8, execVld16, execVldh, execVldbf, State.vload_fuses?]
  case vst | vsts | vst8 | vst16 =>
    simp only [exec, execVst, execVsts, execVst8, execVst16, State.vstore_fuses?]
  all_goals simp [exec]

/-! ## The two commands that blow fuses (R553, R554, R632) -/

/-- `g` is `f` but for fuses blown since: thermometers and ageing steps in range, none unblown, every other fuse as it
was. -/
def Fuses.OnlyBlow (f g : Fuses) : Prop :=
  g.inRange ∧
    (∀ c, Tab.get 0 f.svn c ≤ Tab.get 0 g.svn c ∧ Tab.get 0 f.ageSteps c ≤ Tab.get 0 g.ageSteps c) ∧
    { g with svn := f.svn, ageSteps := f.ageSteps } = f

theorem Fuses.OnlyBlow.refl {f : Fuses} (h : f.inRange) : f.OnlyBlow f :=
  ⟨h, fun _ => ⟨Nat.le_refl _, Nat.le_refl _⟩, rfl⟩

/-- The thermometers `svn` of the fuses, blown up to the images' SVNs (R632). -/
def blownSvns (svn images : Tab Nat) : Tab Nat :=
  [1, 2].foldl (fun t c => t.set c (min 32 (max (Tab.get 0 t c) (Tab.get 0 images c)))) svn

theorem get_blownSvns (svn images : Tab Nat) (c : Nat) :
    Tab.get 0 (blownSvns svn images) c =
      if c = 1 ∨ c = 2 then min 32 (max (Tab.get 0 svn c) (Tab.get 0 images c)) else Tab.get 0 svn c := by
  simp only [blownSvns, List.foldl_cons, List.foldl_nil]
  by_cases h2 : c = 2
  · simp [h2, Tab.get_set_self, Tab.get_set_ne]
  · by_cases h1 : c = 1
    · simp [h1, Tab.get_set_self, Tab.get_set_ne]
    · simp [h1, h2, Tab.get_set_ne]

theorem Fuses.OnlyBlow.svns {f : Fuses} (images : Tab Nat) (h : f.inRange) :
    f.OnlyBlow { f with svn := blownSvns f.svn images } := by
  refine ⟨fun c => ⟨?_, (h c).2⟩, fun c => ⟨?_, Nat.le_refl _⟩, rfl⟩
  all_goals
    have hc := (h c).1
    simp only [get_blownSvns]
    split <;> omega

theorem Fuses.OnlyBlow.ageStep {f : Fuses} {n : Nat} (h : f.inRange) (hn : Tab.get 0 f.ageSteps n < 8) :
    f.OnlyBlow { f with ageSteps := f.ageSteps.set n (Tab.get 0 f.ageSteps n + 1) } := by
  refine ⟨fun c => ⟨(h c).1, ?_⟩, fun c => ⟨Nat.le_refl _, ?_⟩, rfl⟩
  all_goals
    have hc := (h c).2
    by_cases hcn : c = n
    · simp only [hcn, Tab.get_set_self]
      omega
    · simp [Tab.get_set_ne, hcn, hc]

/-- The fuses after the SVNs of the flight's images are committed (R632). -/
def Fuses.committed (f : Fuses) (q : FlightSeq) : Fuses :=
  if q.commitSvn then { f with svn := blownSvns f.svn q.svn } else f

/-- The fuses after an ageing step is asked for in cluster `c`: 8 steps are all there are (R554). -/
def Fuses.aged (f : Fuses) (c : Nat) : Fuses :=
  if Tab.get 0 f.ageSteps c < 8 then { f with ageSteps := f.ageSteps.set c (Tab.get 0 f.ageSteps c + 1) } else f

theorem Fuses.onlyBlow_committed {f : Fuses} (h : f.inRange) (q : FlightSeq) : f.OnlyBlow (f.committed q) := by
  unfold Fuses.committed
  split
  · exact .svns _ h
  · exact .refl h

theorem Fuses.onlyBlow_aged {f : Fuses} (h : f.inRange) (c : Nat) : f.OnlyBlow (f.aged c) := by
  unfold Fuses.aged
  split
  · next hn => exact .ageStep h hn
  · exact .refl h

theorem Fuses.get_committed (f : Fuses) (q : FlightSeq) (c : Nat) :
    Tab.get 0 (f.committed q).svn c =
      if q.commitSvn = true ∧ (c = 1 ∨ c = 2) then min 32 (max (Tab.get 0 f.svn c) (Tab.get 0 q.svn c))
      else Tab.get 0 f.svn c := by
  unfold Fuses.committed
  split
  · next hq => simp [hq, get_blownSvns]
  · next hq => simp [hq]

theorem State.commitSvns_fuses (s : State) : s.commitSvns.fuses = s.fuses.committed s.flight := by
  unfold State.commitSvns Fuses.committed
  split <;> rfl

@[simp] theorem State.coldGuarded_flight (s : State) : s.coldGuarded.flight = s.flight := rfl

/-- The end of a flight that does not go on changes nothing; one that does commits the SVNs. -/
theorem execFlightReady_eq (s : State) :
    ∃ t, execFlightReady s = .next t ∧ (t = s ∨ t.fuses = s.fuses.committed s.flight) := by
  refine ⟨_, rfl, ?_⟩
  split
  · exact .inl rfl
  · refine .inr ?_
    dsimp only
    split <;> simp [State.commitSvns_fuses]

theorem State.derate_fuses (s : State) (c : Nat) : (s.derate c).fuses = s.fuses.aged c := by
  unfold State.derate Fuses.aged
  dsimp only
  split
  · simp
  · split <;> simp

/-- The ageing check leaves the fuses alone or asks for the next ageing step of its cluster. -/
theorem execAgeingCheck_eq (cluster : BitVec 4) (ran : BitVec 40) (mean : BitVec 10) (s : State) :
    ∃ t, execAgeingCheck cluster ran mean s = .next t ∧
      (t.fuses = s.fuses ∨ t.fuses = s.fuses.aged cluster.toNat) := by
  unfold execAgeingCheck whenLive
  dsimp only
  split
  · split
    · exact ⟨_, rfl, .inl rfl⟩
    · refine ⟨_, rfl, ?_⟩
      split
      · exact .inl rfl
      · split
        · exact .inl rfl
        · split
          · exact .inl rfl
          · exact .inr (by rw [State.derate_fuses, State.setClus_fuses])
  · exact ⟨_, rfl, .inl rfl⟩

/-! ## Every step -/

theorem Out.fuses_of_next {o : Out} {t : State} {f : Fuses} (ho : o.fuses? = some f) (ht : o = .next t) :
    t.fuses = f := by
  subst ht
  exact Option.some.inj ho

theorem onlyBlow_exec {c : Instr} {s t : State} (h : s.fuses.inRange) (ht : exec c s = .next t) :
    s.fuses.OnlyBlow t.fuses := by
  by_cases hready : c = .flightReady
  · subst hready
    obtain ⟨u, hu, hfuses⟩ := execFlightReady_eq s
    obtain rfl : u = t := Host.Outcome.next.inj (hu.symm.trans ht)
    obtain rfl | hfuses := hfuses
    · exact .refl h
    · rw [hfuses]
      exact Fuses.onlyBlow_committed h _
  by_cases hage : ∃ cluster ran mean, c = .ageingCheck cluster ran mean
  · obtain ⟨cluster, ran, mean, rfl⟩ := hage
    obtain ⟨u, hu, hfuses⟩ := execAgeingCheck_eq cluster ran mean s
    obtain rfl : u = t := Host.Outcome.next.inj (hu.symm.trans ht)
    obtain hfuses | hfuses := hfuses <;> rw [hfuses]
    · exact .refl h
    · exact Fuses.onlyBlow_aged h _
  · have hkept := exec_fuses? s hready fun a b d hc => hage ⟨a, b, d, hc⟩
    rw [Out.fuses_of_next hkept ht]
    exact .refl h

theorem onlyBlow_step {s t : State} (h : s.fuses.inRange) (ht : step s = .next t) : s.fuses.OnlyBlow t.fuses := by
  unfold step at ht
  split at ht
  · obtain rfl : s.tick = t := Host.Outcome.next.inj ht
    rw [State.tick_fuses]
    exact .refl h
  · next c rest _ => exact onlyBlow_exec (s := { s with pending := rest }) h ht

/-- Settles O55: the thermometers by the one command that commits SVNs, the step by the two commands that blow fuses and
the frame lemmas of all others. -/
theorem fusesOnlyBlow : Obligations.FusesOnlyBlow := by
  refine ⟨fun s t ht hs hr c => ?_, fun s t h ht => onlyBlow_step h ht⟩
  obtain ⟨u, hu, hfuses⟩ := execFlightReady_eq s
  obtain rfl : u = t := Host.Outcome.next.inj (hu.symm.trans ht)
  obtain rfl | hfuses := hfuses
  · exact absurd (hs.symm.trans hr) Bool.false_ne_true
  · rw [hfuses, Fuses.get_committed]

end Sys2Proof.Machine

namespace Sys2Proof.Machine

/-! # What every command but a power-on leaves in place (R531, R556, log entries 2 and 35)

Beside `coldReset` no command moves the master's count, none touches the queue of commands, and the forward step that waits is
set by the time exchange alone.  The byte memories change through the writes of `Cells` only, which keep their canonical form.
The core of a state is that part of it.  Most operations leave the core as it is (`f_core`, or `f_core?` where `f` gives the
outcome of a command); of those that write memory the lemmas say that they keep it (`f_kept`). -/

/-- The count, the queue, the step that waits, and every byte memory. -/
structure Core where
  gtc : Nat
  pending : List Instr
  stepBy : Nat
  mem : Cells
  log : Cells
  scratch : Cells
  sram : Cells
  stores : Nat → Cells

/-- The core of a state. -/
def State.core (s : State) : Core :=
  ⟨s.gtc, s.pending, s.copies.stepBy, s.mem, s.conc.log, s.basin.scratch, s.island.sram, fun k => (s.tile k).store⟩

/-- A change of state that no memory is part of leaves the core as it is. -/
@[simp] theorem State.core_update (s : State) {regs : Tab Nat} {sealTag : Tab Nat} {fuses : Fuses} {doms : Tab Dom}
    {gates : Tab Gate} {flight : FlightSeq} {conc : Conc} {mon : Mon} {host : HostOut} {ctxs : Tab Ctx}
    {groups : Tab (Option Nat)} {queues : Tab Queue} {waiters : Tab (Option Waiter)} {disp : Disp} {xlt : Xlt}
    {basin : Basin} {island : Island} {mail : Mail} {mesh : Mesh} {link : Link} {power : Power} {keeper : Keeper}
    {stop : Option StopCmd} {pins : Pins} {onRc : Bool} {sealKeys : Tab Nat} {modelKeys : List (Nat × Nat × Nat)}
    {linkOut : List (Nat × Byte)} {copies : Copies} {freeCtr : Nat} (hl : conc.log = s.conc.log)
    (hs : basin.scratch = s.basin.scratch) (hr : island.sram = s.island.sram) (hc : copies.stepBy = s.copies.stepBy) :
    State.core ⟨s.gtc, regs, s.mem, sealTag, fuses, doms, gates, flight, conc, mon, host, ctxs, groups, queues, waiters, disp,
      s.tiles, xlt, basin, island, mail, mesh, link, power, keeper, stop, pins, onRc, sealKeys, modelKeys, linkOut, copies,
      freeCtr, s.pending⟩ = s.core := by
  simp only [State.core, State.tile, hl, hs, hr, hc]

/-! ## Tiles whose store stays -/

@[simp] theorem Tile.setS_store (t : Tile) (k : Nat) (v : Word) : (t.setS k v).store = t.store := by
  unfold Tile.setS
  split <;> rfl

@[simp] theorem Tile.setP_store (t : Tile) (k : Nat) (v : DWord) : (t.setP k v).store = t.store := by
  unfold Tile.setP
  split <;> rfl

@[simp] theorem Tile.setA_store (t : Tile) (k : Nat) (v : DWord) : (t.setA k v).store = t.store := (rfl)
@[simp] theorem Tile.setT_store (t : Tile) (k : Nat) (v : BitVec 256) : (t.setT k v).store = t.store := (rfl)
@[simp] theorem Tile.setAcc_store (t : Tile) (k r c : Nat) (w : Word) : (t.setAcc k r c w).store = t.store := (rfl)
@[simp] theorem Tile.setLane_store (t : Tile) (k i : Nat) (w : Word) : (t.setLane k i w).store = t.store := (rfl)
@[simp] theorem Tile.setPBits_store (t : Tile) (k pd : Nat) (f : Nat → Bool) : (t.setPBits k pd f).store = t.store :=
  t.setP_store k _

@[simp] theorem Tile.closeLoops_store (next n : Nat) (t : Tile) : (Tile.closeLoops next n t).store = t.store :=
  show (Tile.closeLoops next n t).bare.store = t.bare.store by rw [Tile.closeLoops_bare]

@[simp] theorem Tile.touchLine_store (t : Tile) (l : ILine) : (t.touchLine l).store = t.store :=
  show (t.touchLine l).bare.store = t.bare.store from congrArg Tile.store (Tile.touch_bare [l] t)

@[simp] theorem Tile.store_ite (p : Prop) [Decidable p] (a b : Tile) :
    (if p then a else b).store = if p then a.store else b.store := apply_ite _ _ _ _

/-- A fold over steps that leave the store as it is. -/
@[simp] theorem Tile.foldl_store {α : Type} {f : Tile → α → Tile} (h : ∀ t a, (f t a).store = t.store) (l : List α) (t : Tile) :
    (l.foldl f t).store = t.store := by
  induction l generalizing t with
  | nil => rfl
  | cons a l ih => exact (ih (f t a)).trans (h t a)

@[simp] theorem Tile.setAccs_store {α : Type} (t : Tile) (l : List α) (k r c : α → Nat) (w : α → Word) :
    (l.foldl (fun t a => t.setAcc (k a) (r a) (c a) (w a)) t).store = t.store :=
  Tile.foldl_store (fun t a => t.setAcc_store (k a) (r a) (c a) (w a)) l t

@[simp] theorem Tile.touchLines_store (t : Tile) (ls : List ILine) : (ls.foldl Tile.touchLine t).store = t.store :=
  Tile.foldl_store Tile.touchLine_store ls t

@[simp] theorem Tile.setLanes_store (t : Tile) (vd pd : Nat) (f : Nat → Word) : (t.setLanes vd pd f).store = t.store :=
  Tile.foldl_store (f := fun x i => x.setLane vd i (f i)) (fun _ _ => rfl) _ t

@[simp] theorem Tile.zeroAcc_store (t : Tile) (k m n : Nat) : (t.zeroAcc k m n).store = t.store :=
  Tile.foldl_store (f := fun t (e : Nat × Nat) => t.setAcc k e.1 e.2 0) (fun _ _ => rfl) _ t

@[simp] theorem Tile.raise_store (t : Tile) (e : Exc) : (t.raise e).store = t.store := (rfl)

@[simp] theorem Tile.raiseAt_store (t : Tile) (e : TileExc) : (t.raiseAt e).store = t.store := (rfl)

@[simp] theorem Tile.opRaise_store (t : Tile) (unit : Nat) : (t.opRaise unit).store = t.store := by
  unfold Tile.opRaise
  split
  · split <;> rfl
  · rfl

@[simp] theorem Tile.unitDone_store (t : Tile) (unit : Nat) : (t.unitDone unit).store = t.store := (rfl)

@[simp] theorem Tile.takeOld_store (t : Tile) (k : Nat) (w64 : Bool) (old : Nat) : (t.takeOld k w64 old).store = t.store := by
  unfold Tile.takeOld
  split <;> simp

@[simp] theorem Tile.countElem_store (t : Tile) (x : Elem) : (t.countElem x).store = t.store := (rfl)

@[simp] theorem Tile.fillLine_store (t : Tile) (l : ILine) : (t.fillLine l).store = t.store := (rfl)

@[simp] theorem Tile.dropBarge_store (t : Tile) (id : Nat) : (t.dropBarge id).store = t.store := (rfl)

@[simp] theorem Tile.abortOrder_store (t : Tile) : t.abortOrder.store = t.store := (rfl)

@[simp] theorem Tile.advance_store (t : Tile) (rm : RMode) (e : Nat) : (t.advance rm e).store = t.store := by
  unfold Tile.advance
  split <;> rfl

@[simp] theorem Tile.fresh_store (t : Tile) : t.fresh.store = t.store := (rfl)

@[simp] theorem Tile.begin_store (t : Tile) (tile q index inst cid raw : Nat) (refs : List Ref) (trap : Bool) :
    (t.begin tile q index inst cid raw refs trap).store = t.store := by
  simp [Tile.begin]

@[simp] theorem Tile.loadArea_store (t : Tile) (m : Cells) : (t.loadArea m).store = t.store := (rfl)

@[simp] theorem State.send_log (s : State) (x : Report) : (s.send x).conc.log = s.conc.log := (rfl)

@[simp] theorem State.fault_log (s : State) (code unit src detail : Nat) :
    (s.fault code unit src detail).conc.log = s.conc.log := by
  obtain ⟨c, v, e, -, hl, -⟩ := s.faultC_shape code unit src detail none none none
  rw [State.fault, e]
  exact hl

theorem State.setTile_core (s : State) (n : Nat) (x : Tile) (h : x.store = (Tab.get Tile.reset s.tiles n).store) :
    (s.setTile n x).core = s.core := by
  have hx : ∀ k, ((s.setTile n x).tile k).store = (s.tile k).store := fun k => by
    rw [State.tile_setTile]
    split
    · next hk => rw [h, hk, State.tile]
    · rfl
  simp only [State.core, hx]
  rfl

@[simp] theorem State.updTile_core (s : State) (n : Nat) (f : Tile → Tile) (h : ∀ x, (f x).store = x.store) :
    (s.updTile n f).core = s.core := s.setTile_core n _ (h _)

@[simp] theorem State.put_core (s : State) (f : Fld) (v : Nat) : (s.put f v).core = s.core := (rfl)
@[simp] theorem State.setDom_core (s : State) (d : Nat) (x : Dom) : (s.setDom d x).core = s.core := (rfl)
@[simp] theorem State.tookFree_core (s : State) : (s.tookFree).core = s.core := (rfl)
@[simp] theorem State.send_core (s : State) (r : Report) : (s.send r).core = s.core := (rfl)
@[simp] theorem State.event_core (s : State) (v : Nat) : (s.event v).core = s.core := (rfl)
@[simp] theorem State.setCtx_core (s : State) (c : Nat) (x : Ctx) : (s.setCtx c x).core = s.core := (rfl)
@[simp] theorem State.setQueue_core (s : State) (q : Nat) (x : Queue) : (s.setQueue q x).core = s.core := (rfl)
@[simp] theorem State.updQueue_core (s : State) (q : Nat) (f : Queue → Queue) : (s.updQueue q f).core = s.core := (rfl)
@[simp] theorem State.setWaiter_core (s : State) (i : Nat) (w : Option Waiter) : (s.setWaiter i w).core = s.core := (rfl)
@[simp] theorem State.setDtile_core (s : State) (n : Nat) (x : DTile) : (s.setDtile n x).core = s.core := (rfl)
@[simp] theorem State.setDma_core (s : State) (n : Nat) (l : List (Nat × Nat)) : (s.setDma n l).core = s.core := (rfl)
@[simp] theorem State.setRail_core (s : State) (r : Nat) (x : Rail) : (s.setRail r x).core = s.core := (rfl)
@[simp] theorem State.setClus_core (s : State) (c : Nat) (x : Clus) : (s.setClus c x).core = s.core := (rfl)
@[simp] theorem State.setPort_core (s : State) (n : Nat) (x : Port) : (s.setPort n x).core = s.core := (rfl)
@[simp] theorem State.enqueue_core (s : State) (h : Header) : (s.enqueue h).core = s.core := (rfl)
@[simp] theorem State.setCredit_core (s : State) (n u k : Nat) (c : Int) : (s.setCredit n u k c).core = s.core := (rfl)
@[simp] theorem State.fault_core (s : State) (code unit src detail : Nat) : (s.fault code unit src detail).core = s.core := by
  obtain ⟨c, v, e, -, hl, -⟩ := s.faultC_shape code unit src detail none none none
  rw [State.fault, e]
  simp [hl]

/-! ## Outcomes, choices and repetitions -/

/-- The core of the state that an outcome gives. -/
def Out.core? : Out → Option Core
  | .next t => some t.core
  | .fault _ => none
  | .refused _ => none

@[simp] theorem Out.core?_next (t : State) : Out.core? (.next t) = some t.core := rfl

@[simp] theorem Out.core?_ite (p : Prop) [Decidable p] (a b : Out) :
    Out.core? (if p then a else b) = if p then a.core? else b.core? := apply_ite _ _ _ _

/-- A command that works inside another gives its state, or the other's own where it gives none. -/
@[simp] theorem Out.after_core (o : Out) (s : State) : (o.after s).core = o.core?.getD s.core := by
  cases o <;> rfl

@[simp] theorem State.core_ite (p : Prop) [Decidable p] (a b : State) :
    (if p then a else b).core = if p then a.core else b.core := apply_ite _ _ _ _

@[simp] theorem fst_ite_core {α : Type} (p : Prop) [Decidable p] (a b : State × α) :
    (if p then a else b).1.core = if p then a.1.core else b.1.core :=
  apply_ite (fun x : State × α => x.1.core) _ _ _

theorem fst_core {α : Type} {p : State × α} {t : State} {x : α} (h : p = (t, x)) : t.core = p.1.core := by rw [h]

theorem getD_core {o : Option State} {d : State} {f : Core} (h : ∀ t, o = some t → t.core = f) (hd : d.core = f) :
    (o.getD d).core = f := by
  cases o with
  | none => exact hd
  | some t => exact h t rfl

/-- `f` leaves the core alone. -/
def KeepsCore (f : State → State) : Prop := ∀ t, (f t).core = t.core

@[simp] theorem keepsCore_iff (f : State → State) : KeepsCore f ↔ ∀ t, (f t).core = t.core := Iff.rfl

/-- The command `f` ends in a state with the core it found. -/
def KeepsCore? (f : State → Out) : Prop := ∀ t, (f t).core? = some t.core

@[simp] theorem keepsCore?_iff (f : State → Out) : KeepsCore? f ↔ ∀ t, (f t).core? = some t.core := Iff.rfl

/-- The effect `fx` of a tile instruction leaves the core alone. -/
def KeepsFxCore (fx : State → Fx) : Prop := ∀ t, (fx t).state.core = t.core

@[simp] theorem keepsFxCore_iff (fx : State → Fx) : KeepsFxCore fx ↔ ∀ t, (fx t).state.core = t.core := Iff.rfl

@[simp] theorem foldl_core {α : Type} (f : State → α → State) (l : List α) (s : State)
    (h : ∀ a, KeepsCore (f · a)) : (l.foldl f s).core = s.core := by
  induction l generalizing s with
  | nil => rfl
  | cons a l ih => exact (ih (f s a)).trans (h a s)

theorem foldl_fst_core {α β : Type} (f : State × β → α → State × β) (h : ∀ p a, (f p a).1.core = p.1.core)
    (l : List α) (p : State × β) : (l.foldl f p).1.core = p.1.core := by
  induction l generalizing p with
  | nil => rfl
  | cons a l ih => exact (ih (f p a)).trans (h p a)

/-- `t` has the core of `s`.  A definition of its own, so that the states of a long chain are compared as states and
never evaluated for their core.  The few operations that read a whole range of memory are unfolded by `delta`, their
parts named by `extract_lets`, and where need be the read itself stands behind a variable: the kernel would otherwise
evaluate it. -/
def SameCore (s t : State) : Prop := t.core = s.core

theorem SameCore.trans {s t r : State} (h : SameCore t r) (g : SameCore s t) : SameCore s r := Eq.trans h g

theorem SameCore.foldl {α : Type} {f : State → α → State} (h : ∀ t a, SameCore t (f t a)) (l : List α) (s : State) :
    SameCore s (l.foldl f s) := foldl_core f l s fun a t => h t a

/-! ## The guards of the commands -/

@[simp] theorem whenLive_core? (d : Nat) (s : State) (f : State → Out) (h : KeepsCore? f) :
    (whenLive d s f).core? = some s.core := by
  unfold whenLive
  split
  · exact h s
  · rfl

@[simp] theorem whenTow_core? (s : State) (f : State → Out) (h : KeepsCore? f) :
    (whenTow s f).core? = some s.core :=
  whenLive_core? _ _ _ h

@[simp] theorem whenLink_core? (s : State) (f : State → Out) (h : KeepsCore? f) :
    (whenLink s f).core? = some s.core := by
  unfold whenLink
  split
  · exact whenLive_core? _ _ _ h
  · rfl

@[simp] theorem whenN7_core? (s : State) (f : State → State) (h : KeepsCore f) :
    (whenN7 s f).core? = some s.core := by
  unfold whenN7
  split
  · rfl
  · exact congrArg some (h s)

@[simp] theorem objCommand_core? (s : State) (f : State → State) (h : KeepsCore f) :
    (objCommand s f).core? = some s.core := by
  refine whenLive_core? _ _ _ fun t => congrArg some ?_
  split
  · rfl
  · exact h t

/-! ## The shared operations of the block -/

@[simp] theorem State.sat_core (s : State) (f : Fld) (n : Nat) : (s.sat f n).core = s.core := (rfl)

@[simp] theorem State.wrap_core (s : State) (f : Fld) (n : Nat) : (s.wrap f n).core = s.core := (rfl)

@[simp] theorem State.resetRegs_core (s : State) (p : Nat → Bool) : (s.resetRegs p).core = s.core := (rfl)

@[simp] theorem State.hold_core (s : State) (r : FaultRec) : (s.hold r).core = s.core := by simp [State.hold]

@[simp] theorem State.faultC_core (s : State) (code unit src detail : Nat) (cid qid cause : Option Nat) :
    (s.faultC code unit src detail cid qid cause).core = s.core := by simp [State.faultC]

@[simp] theorem State.eccFault_core (s : State) (code unit src mem loc : Nat) (recovered : Bool) (cid : Option Nat) :
    (s.eccFault code unit src mem loc recovered cid).core = s.core := by simp [State.eccFault]

@[simp] theorem State.tileCorrected_core (s : State) (t a : Nat) :
    (s.tileCorrected t a).core = s.core := by simp [State.tileCorrected]

@[simp] theorem State.sendPart_core (s : State) (k : Nat) : (s.sendPart k).core = s.core := (rfl)

@[simp] theorem State.sampleSlot_core (s : State) (raw code k : Nat) :
    (s.sampleSlot raw code k).core = s.core := by simp [State.sampleSlot]

@[simp] theorem State.sample_core (s : State) (kind raw code : Nat) (p : Nat → Bool) :
    (s.sample kind raw code p).core = s.core := by simp [State.sample]

@[simp] theorem State.countFor_core (s : State) (cid : Nat) (f : CtxPart → CtxPart) :
    (s.countFor cid f).core = s.core := (rfl)

@[simp] theorem State.gateAct_core (s : State) (d rank : Nat) (act : State → State) (h : KeepsCore act) :
    (s.gateAct d rank act).core = s.core := by
  unfold State.gateAct
  dsimp only
  split
  · rfl
  · exact h _

@[simp] theorem State.gateDrop_core (s : State) (d rank : Nat) : (s.gateDrop d rank).core = s.core := (rfl)

@[simp] theorem State.eventIf_core (s : State) (en vec : Fld) :
    (s.eventIf en vec).core = s.core := by simp [State.eventIf]

@[simp] theorem State.fillTlb2_core (s : State) (cid : Nat) (x : Xlat) :
    (s.fillTlb2 cid x).core = s.core := by simp [State.fillTlb2]

@[simp] theorem State.fillTlb1_core (s : State) (who cid : Nat) (x : Xlat) :
    (s.fillTlb1 who cid x).core = s.core := by simp [State.fillTlb1]

@[simp] theorem State.recordX_core (s : State) (unit src cid : Nat) (qid : Option Nat) (e : XErr) :
    (s.recordX unit src cid qid e).core = s.core := by simp [State.recordX]

@[simp] theorem State.refusedRec_core (s : State) (cid : Nat) (qid : Option Nat) (pa : Nat) :
    (s.refusedRec cid qid pa).core = s.core := by simp [State.refusedRec]

@[simp] theorem State.badDataRec_core (s : State) (cid pa : Nat) :
    (s.badDataRec cid pa).core = s.core := by simp [State.badDataRec]

/-! ## Contexts, groups, queues and waiters -/

@[simp] theorem State.updPkt_core (s : State) (q i : Nat) (f : Pkt → Pkt) : (s.updPkt q i f).core = s.core := (rfl)

@[simp] theorem State.useFor_core (s : State) (kind : UseKind) (q : Nat) : (s.useFor kind q).core = s.core := (rfl)

@[simp] theorem State.freeSlot_core (s : State) (p k : Nat) : (s.freeSlot p k).core = s.core := (rfl)

@[simp] theorem State.dropSusp_core (s : State) (q i : Nat) (inst : Option Nat) :
    (s.dropSusp q i inst).core = s.core := (rfl)

@[simp] theorem State.countRun_core (s : State) (q i n : Nat) : (s.countRun q i n).core = s.core := by
  unfold State.countRun
  split <;> simp

@[simp] theorem State.abortRun_core (s : State) (q i : Nat) (r : Run) (e : PktEnd) :
    (s.abortRun q i r e).core = s.core := by
  unfold State.abortRun
  split <;> simp

@[simp] theorem State.abortPkt_core (s : State) (q i : Nat) (e : PktEnd) : (s.abortPkt q i e).core = s.core := by
  unfold State.abortPkt
  split <;> simp

@[simp] theorem State.endHead_core (s : State) (q : Nat) (e : PktEnd) : (s.endHead q e).core = s.core := (rfl)

@[simp] theorem State.satisfy_core (s : State) (i : Nat) : (s.satisfy i).core = s.core := by
  unfold State.satisfy
  split <;> simp

@[simp] theorem State.breakWaiter_core (s : State) (i code : Nat) (rec_ : Option Nat) (status : Nat) :
    (s.breakWaiter i code rec_ status).core = s.core := by
  unfold State.breakWaiter
  split <;> simp

@[simp] theorem State.evalWaiter_core (s : State) (i word : Nat) : (s.evalWaiter i word).core = s.core := by
  unfold State.evalWaiter
  split <;> simp

@[simp] theorem State.evalFence_core (s : State) (cid va word : Nat) :
    (s.evalFence cid va word).core = s.core := by simp [State.evalFence]

@[simp] theorem State.breakAll_core (s : State) (cid : Nat) (e : PktEnd) : (s.breakAll cid e).core = s.core := by
  unfold State.breakAll
  refine foldl_core _ _ _ fun t a => ?_
  dsimp only
  repeat' split
  all_goals simp

@[simp] theorem State.endSuspended_core (s : State) (q cid : Nat) (e : PktEnd) :
    (s.endSuspended q cid e).core = s.core := by simp [State.endSuspended]

@[simp] theorem State.endWaiting_core (s : State) (q cid : Nat) (e : PktEnd) :
    (s.endWaiting q cid e).core = s.core := (rfl)

@[simp] theorem State.abortCtx_core (s : State) (cid : Nat) (e : PktEnd) :
    (s.abortCtx cid e).core = s.core := by simp [State.abortCtx]

@[simp] theorem State.dropStaged_core (s : State) (qs : List Nat) : (s.dropStaged qs).1.core = s.core := by
  refine foldl_fst_core _ (fun p q => ?_) _ _
  dsimp only
  split <;> rfl

@[simp] theorem State.endClaims_core (s : State) (p : Nat → Nat → Bool) : (s.endClaims p).core = s.core := by
  unfold State.endClaims
  refine foldl_core _ _ _ fun t a => ?_
  dsimp only
  repeat' split
  all_goals simp

@[simp] theorem State.settleLoss_core (s : State) (cid : Nat) :
    (s.settleLoss cid).core = s.core := by simp [State.settleLoss]

@[simp] theorem State.loseMark_core (s : State) (cid code : Nat) (cause : Option Nat) (byCmd : Bool) :
    (s.loseMark cid code cause byCmd).1.core = s.core := by
  unfold State.loseMark
  dsimp only
  repeat' split
  all_goals simp

@[simp] theorem State.result_core (s : State) (r d : Nat) : (s.result r d).core = s.core := (rfl)

@[simp] theorem State.readCtx_core (s : State) (pid : Nat) (bad badArena : Bool) :
    (s.readCtx pid bad badArena).1.core = s.core := by
  unfold State.readCtx
  dsimp only
  repeat' split
  all_goals simp

@[simp] theorem execCtxOpen_core? (cid pid : BitVec 16) (bad badArena : Bool) (s : State) :
    (execCtxOpen cid pid bad badArena s).core? = some s.core := by
  unfold execCtxOpen
  refine objCommand_core? _ _ fun t => ?_
  dsimp only
  split
  · simp
  · split
    · simp
    · split
      · simp
      · split
        · next h => simp [fst_core h]
        · next h => split <;> simp [fst_core h]

@[simp] theorem State.dropWaiters_core (s : State) (cid : Nat) :
    (s.dropWaiters cid).core = s.core := by simp [State.dropWaiters]

@[simp] theorem execCtxRelease_core? (cid : BitVec 16) (s : State) :
    (execCtxRelease cid s).core? = some s.core := by simp [execCtxRelease]

@[simp] theorem execGroupBind_core? (group cid : BitVec 16) (s : State) :
    (execGroupBind group cid s).core? = some s.core := by simp [execGroupBind]

@[simp] theorem execGroupUnbind_core? (group : BitVec 16) (s : State) :
    (execGroupUnbind group s).core? = some s.core := by simp [execGroupUnbind]

@[simp] theorem execQueueEnable_core? (qid : BitVec 16) (bad : Bool) (s : State) :
    (execQueueEnable qid bad s).core? = some s.core := by
  rw [show execQueueEnable = _ from by delta execQueueEnable; rfl]
  refine objCommand_core? _ _ fun t => ?_
  change SameCore t _
  have hresult (r : State) (c d : Nat) : SameCore r (r.result c d) := State.result_core ..
  have hbad (r : State) (c va : Nat) : SameCore r (r.badDataRec c va) := State.badDataRec_core ..
  have hrefused (r : State) (c va : Nat) : SameCore r (r.refusedRec c none va) := State.refusedRec_core ..
  have hset (r : State) (q : Nat) (x : Queue) : SameCore r (r.setQueue q x) := State.setQueue_core ..
  extract_lets +onlyGivenNames q
  split
  · exact hresult ..
  · split
    · exact hresult ..
    · split
      · exact .trans (hresult ..) (hbad ..)
      · split
        · exact .trans (hresult ..) (hrefused ..)
        · split
          · exact hresult ..
          · exact .trans (hresult ..) (hset ..)

@[simp] theorem execQueueResume_core? (qid : BitVec 16) (s : State) :
    (execQueueResume qid s).core? = some s.core := by simp [execQueueResume]

@[simp] theorem execWaitCancel_core? (index : BitVec 16) (s : State) :
    (execWaitCancel index s).core? = some s.core := by simp [execWaitCancel]

@[simp] theorem execDrainLimitExpire_core? (cid : BitVec 16) (s : State) :
    (execDrainLimitExpire cid s).core? = some s.core := by simp [execDrainLimitExpire]

@[simp] theorem State.invalCid_core (s : State) (cid : Nat) : (s.invalCid cid).core = s.core := (rfl)

@[simp] theorem State.zeroCtxMon_core (s : State) (cid : Nat) : (s.zeroCtxMon cid).core = s.core := (rfl)

/-! ## Suspended translations -/

/-! ## Submission: queues, packets and their completion -/

@[simp] theorem State.started_core (s : State) (q i : Nat) (f : Pkt → Pkt) : (s.started q i f).core = s.core := (rfl)

@[simp] theorem execNop_core? (qid : BitVec 16) (index : BitVec 32) (s : State) :
    (execNop qid index s).core? = some s.core := by
  unfold execNop
  refine whenLive_core? _ _ _ fun t => ?_
  dsimp only
  split <;> simp

@[simp] theorem execTask_core? (qid : BitVec 16) (index : BitVec 32) (s : State) :
    (execTask qid index s).core? = some s.core := by
  unfold execTask
  refine whenLive_core? _ _ _ fun t => ?_
  dsimp only
  split <;> simp

@[simp] theorem execTaskGroup_core? (qid : BitVec 16) (index : BitVec 32) (s : State) :
    (execTaskGroup qid index s).core? = some s.core := by
  unfold execTaskGroup
  refine whenLive_core? _ _ _ fun t => ?_
  dsimp only
  split <;> simp

@[simp] theorem execFenceSignal_core? (qid : BitVec 16) (index : BitVec 32) (s : State) :
    (execFenceSignal qid index s).core? = some s.core := by
  unfold execFenceSignal
  refine whenLive_core? _ _ _ fun t => ?_
  dsimp only
  split <;> simp

@[simp] theorem execBarrier_core? (qid : BitVec 16) (index : BitVec 32) (s : State) :
    (execBarrier qid index s).core? = some s.core := by
  unfold execBarrier
  refine whenLive_core? _ _ _ fun t => ?_
  dsimp only
  split <;> simp

@[simp] theorem State.dmaStart_core (s : State) (n : Nat) : (s.dmaStart n).core = s.core := by
  unfold State.dmaStart
  repeat' split
  all_goals simp

@[simp] theorem State.toDma_core (s : State) (q i raw : Nat) :
    (s.toDma q i raw).core = s.core := by simp [State.toDma]

@[simp] theorem execCopy_core? (qid : BitVec 16) (index : BitVec 32) (s : State) :
    (execCopy qid index s).core? = some s.core := by
  unfold execCopy
  refine whenLive_core? _ _ _ fun t => ?_
  dsimp only
  split <;> simp

@[simp] theorem execFill_core? (qid : BitVec 16) (index : BitVec 32) (s : State) :
    (execFill qid index s).core? = some s.core := by
  unfold execFill
  refine whenLive_core? _ _ _ fun t => ?_
  dsimp only
  split <;> simp

@[simp] theorem execPrefetch_core? (qid : BitVec 16) (index : BitVec 32) (s : State) :
    (execPrefetch qid index s).core? = some s.core := by
  unfold execPrefetch
  refine whenLive_core? _ _ _ fun t => ?_
  dsimp only
  split <;> simp

@[simp] theorem execAdvise_core? (qid : BitVec 16) (index : BitVec 32) (s : State) :
    (execAdvise qid index s).core? = some s.core := by
  unfold execAdvise
  refine whenLive_core? _ _ _ fun t => ?_
  dsimp only
  split <;> simp

@[simp] theorem execMigrate_core? (qid : BitVec 16) (index : BitVec 32) (s : State) :
    (execMigrate qid index s).core? = some s.core := by
  unfold execMigrate
  refine whenLive_core? _ _ _ fun t => ?_
  dsimp only
  split <;> simp

@[simp] theorem State.takeHint_core (s : State) (en cid raw : Nat) : (s.takeHint en cid raw).core = s.core := by
  unfold State.takeHint
  extract_lets a len hint skip tlb lines bring drop demote
  have hskip (t : State) : (skip t).core = t.core := State.sat_core _ _ _
  have htlb (t : State) : (tlb t).core = t.core := foldl_core _ _ _ fun p t => by
    dsimp only
    split
    · simp
    · exact hskip t
  have hlines (t : State) (f : State → Nat → State) (hf : ∀ t l, (f t l).core = t.core) :
      (lines t f).core = t.core := by
    refine (foldl_core _ _ _ fun l t => ?_).trans (foldl_core _ _ _ fun _ t => hskip t)
    dsimp only
    split
    · rfl
    · split
      · exact hf _ _
      · exact hskip t
  repeat' split
  · exact hlines s bring fun _ _ => rfl
  · exact htlb s
  · exact (hlines _ bring fun _ _ => rfl).trans (htlb s)
  · exact hskip s
  · exact hlines s drop fun _ _ => rfl
  · exact hlines s demote fun _ _ => rfl
  · exact hskip s

@[simp] theorem State.dmaLeave_core (s : State) (n q i : Nat) (f : Pkt → Pkt) :
    (s.dmaLeave n q i f).core = s.core := by simp [State.dmaLeave]

@[simp] theorem State.withdraw_core (s : State) (q i : Nat) : (s.withdraw q i).core = s.core := by
  unfold State.withdraw
  split <;> simp

@[simp] theorem State.serveBarrier_core (s : State) (q : Nat) : (s.serveBarrier q).core = s.core := by
  unfold State.serveBarrier
  split <;> simp

/-! ## The dispatcher -/

@[simp] theorem State.pickPhase_core (s : State) : (s.pickPhase).core = s.core := by
  unfold State.pickPhase
  repeat' split
  all_goals simp

@[simp] theorem State.sendOne_core (s : State) (q i t inst : Nat) (resume : Bool) :
    (s.sendOne q i t inst resume).core = s.core := by
  unfold State.sendOne
  repeat' split
  all_goals simp

@[simp] theorem State.sendTo_core (s : State) (k : Pick) (t inst : Nat) : (s.sendTo k t inst).core = s.core := by
  unfold State.sendTo
  split <;> simp

@[simp] theorem State.sendPhase_core (s : State) (pick : Option Pick) : (s.sendPhase pick).core = s.core := by
  unfold State.sendPhase
  split <;> simp

@[simp] theorem State.enterPhase_core (s : State) : (s.enterPhase).core = s.core := by simp [State.enterPhase]

@[simp] theorem State.missFor_core (s : State) (cid : Nat) : (s.missFor cid).core = s.core := (rfl)

@[simp] theorem State.budgetHardOf_core (s : State) (q i inst : Nat) : (s.budgetHardOf q i inst).core = s.core := by
  unfold State.budgetHardOf
  repeat' split
  all_goals simp

@[simp] theorem State.sendDemand_core (s : State) (c : Nat) :
    (s.sendDemand c).core = s.core := by simp [State.sendDemand]

@[simp] theorem State.demandPhase_core (s : State) : (s.demandPhase).core = s.core := by simp [State.demandPhase]

@[simp] theorem execBudgetHard_core? (qid inst : BitVec 16) (index : BitVec 32) (s : State) :
    (execBudgetHard qid inst index s).core? = some s.core := by simp [execBudgetHard]

@[simp] theorem State.phaseZero_core (s : State) (t : Nat) : (s.phaseZero t).core = s.core := (rfl)

@[simp] theorem execHandover_core? (tile : BitVec 6) (s : State) : (execHandover tile s).core? = some s.core := by
  unfold execHandover
  refine whenLive_core? _ _ _ fun t => ?_
  dsimp only
  repeat' split
  all_goals simp [State.setTile_core, State.tile]

@[simp] theorem State.haltTile_core (s : State) (t cause : Nat) : (s.haltTile t cause).core = s.core := by
  unfold State.haltTile
  split <;> simp

@[simp] theorem State.unhaltTile_core (s : State) (t : Nat) : (s.unhaltTile t).core = s.core := by
  unfold State.unhaltTile
  split <;> simp

@[simp] theorem State.payWeir_core (s : State) (q sentAt : Nat) :
    (s.payWeir q sentAt).core = s.core := by simp [State.payWeir]

@[simp] theorem State.freeTile_core (s : State) (t : Nat) : (s.freeTile t).core = s.core := by simp [State.freeTile]

@[simp] theorem State.endRun_core (s : State) (q i inst : Nat) (e : PktEnd) (st : RunStats) (n : Nat) :
    (s.endRun q i inst e st n).core = s.core := by simp [State.endRun]

@[simp] theorem State.leave_core (s : State) (t : Nat) (e : PktEnd) : (s.leave t e).core = s.core := by
  unfold State.leave
  split <;> simp

@[simp] theorem execAbortComplete_core? (tile : BitVec 6) (s : State) :
    (execAbortComplete tile s).core? = some s.core := by
  unfold execAbortComplete
  refine whenLive_core? _ _ _ fun t => ?_
  dsimp only
  repeat' split
  all_goals simp

@[simp] theorem execTaskEnd_core? (tile : BitVec 6) (s : State) :
    (execTaskEnd tile s).core? = some s.core := by simp [execTaskEnd]

@[simp] theorem State.tileFault_core (s : State) (t code detail cid : Nat) (qid : Option Nat) :
    (s.tileFault t code detail cid qid).core = s.core := by simp [State.tileFault]

@[simp] theorem execTaskExceptionEnd_core? (tile : BitVec 6) (s : State) :
    (execTaskExceptionEnd tile s).core? = some s.core := by
  unfold execTaskExceptionEnd
  refine whenLive_core? _ _ _ fun t => ?_
  dsimp only
  split <;> simp

@[simp] theorem State.switchOut_core (s : State) (t : Nat) : (s.switchOut t).1.core = s.core := by
  unfold State.switchOut
  dsimp only
  repeat' split
  all_goals simp

@[simp] theorem State.swapFailed_core (s : State) (t p k q i : Nat) (r : Run) (st : RunStats) (cid : Nat)
    (load : Bool) :
    (s.swapFailed t p k q i r st cid load).core = s.core :=
  calc (s.swapFailed t p k q i r st cid load).core
    _ = _ := State.endRun_core ..
    _ = _ := State.dropSusp_core ..
    _ = _ := State.freeTile_core ..
    _ = _ := State.freeSlot_core ..
    _ = _ := State.payWeir_core ..
    _ = _ := State.put_core ..
    _ = _ := State.faultC_core ..
    _ = s.core := State.refusedRec_core ..

@[simp] theorem State.placeNext_core (s : State) (t : Nat) (next : Option (Nat × Nat × Nat × Bool)) :
    (s.placeNext t next).core = s.core := by
  unfold State.placeNext
  split <;> simp

@[simp] theorem State.startState_core (s : State) (q i op : Nat) : (s.startState q i op).core = s.core := by
  unfold State.startState
  split <;> simp

@[simp] theorem execStateSave_core? (qid : BitVec 16) (index : BitVec 32) (s : State) :
    (execStateSave qid index s).core? = some s.core := by simp [execStateSave]

@[simp] theorem execStateLoad_core? (qid : BitVec 16) (index : BitVec 32) (s : State) :
    (execStateLoad qid index s).core? = some s.core := by simp [execStateLoad]

@[simp] theorem execClaimLapse_core? (tile : BitVec 6) (s : State) :
    (execClaimLapse tile s).core? = some s.core := by simp [execClaimLapse]

@[simp] theorem State.fenceCluster_core (s : State) (c : Nat) :
    (s.fenceCluster c).core = s.core := by simp [State.fenceCluster]

@[simp] theorem execFenceOrder_core? (cluster : BitVec 4) (s : State) :
    (execFenceOrder cluster s).core? = some s.core := by simp [execFenceOrder]

@[simp] theorem State.abortOn_core (s : State) (c code unit src detail : Nat) :
    (s.abortOn c code unit src detail).core = s.core := by
  unfold State.abortOn
  refine foldl_core _ _ _ fun t a => ?_
  dsimp only
  repeat' split
  all_goals simp

@[simp] theorem execFenceLimitExpire_core? (cluster : BitVec 4) (s : State) :
    (execFenceLimitExpire cluster s).core? = some s.core := by
  unfold execFenceLimitExpire
  refine whenLive_core? _ _ _ fun t => ?_
  dsimp only
  split <;> simp

@[simp] theorem State.liftFence_core (s : State) (c : Nat) : (s.liftFence c).core = s.core := (rfl)

@[simp] theorem execFenceLift_core? (cluster : BitVec 4) (s : State) :
    (execFenceLift cluster s).core? = some s.core := by simp [execFenceLift]

@[simp] theorem execClear_core? (s : State) : (execClear s).core? = some s.core := by
  unfold execClear whenLive
  repeat' split
  all_goals simp

@[simp] theorem execSchedClear_core? (s : State) : (execSchedClear s).core? = some s.core := by
  unfold execSchedClear whenLive
  repeat' split
  all_goals simp

@[simp] theorem State.flushIstore_core (s : State) (t : Nat) :
    (s.flushIstore t).core = s.core := by simp [State.flushIstore]

@[simp] theorem execIstoreFlush_core? (tile : BitVec 6) (s : State) :
    (execIstoreFlush tile s).core? = some s.core := by simp [execIstoreFlush]

@[simp] theorem execTileCountsClear_core? (tile : BitVec 6) (s : State) :
    (execTileCountsClear tile s).core? = some s.core := by simp [execTileCountsClear]

/-! ## Operands -/

@[simp] theorem State.countUnwritten_core (s : State) (u n : Nat) :
    (s.countUnwritten u n).core = s.core := by simp [State.countUnwritten]

/-! ## Translation -/

@[simp] theorem State.queueWalk_core (s : State) (who cid va : Nat) :
    (s.queueWalk who cid va).core = s.core := by simp [State.queueWalk]

@[simp] theorem State.missLookup_core (s : State) (who cid va : Nat) (acc : Access) :
    (s.missLookup who cid va acc).core = s.core := by
  unfold State.missLookup
  repeat' split
  all_goals simp

@[simp] theorem State.secondLookup_core (s : State) (who cid va : Nat) (acc : Access) :
    (s.secondLookup who cid va acc).core = s.core := by
  unfold State.secondLookup
  split <;> simp

@[simp] theorem State.lookup_core (s : State) (who cid va : Nat) (acc : Access) :
    (s.lookup who cid va acc).core = s.core := by
  unfold State.lookup
  dsimp only
  repeat' split
  all_goals simp

@[simp] theorem execXltLookup_core? (who : BitVec 8) (cid : BitVec 10) (va : BitVec 64) (acc : Access) (s : State) :
    (execXltLookup who cid va acc s).core? = some s.core := by simp [execXltLookup]

@[simp] theorem State.startWalk_core (s : State) : (s.startWalk).core = s.core := by
  unfold State.startWalk
  repeat' split
  all_goals simp

@[simp] theorem execWalkStart_core? (s : State) : (execWalkStart s).core? = some s.core := by simp [execWalkStart]

@[simp] theorem State.endWalk_core (s : State) (w : Walk) : (s.endWalk w).core = s.core := (rfl)

@[simp] theorem State.fillCache_core (s : State) (e : WalkEntry) :
    (s.fillCache e).core = s.core := by simp [State.fillCache]

@[simp] theorem State.walkOk_core (s : State) (w : Walk) (x : Xlat) :
    (s.walkOk w x).core = s.core := by simp [State.walkOk]

@[simp] theorem State.walkEntry_core (s : State) (w : Walk) (e : Nat) :
    (s.walkEntry w e).core = s.core := by simp [State.walkEntry]

@[simp] theorem execWalkWeirRefill_core? (s : State) :
    (execWalkWeirRefill s).core? = some s.core := by simp [execWalkWeirRefill]

@[simp] theorem State.invalidate_core (s : State) (cid : Nat) :
    (s.invalidate cid).core = s.core := by simp [State.invalidate]

@[simp] theorem execXltInval_core? (value : BitVec 32) (s : State) :
    (execXltInval value s).core? = some s.core := by simp [execXltInval]

@[simp] theorem execInvalidateComplete_core? (s : State) : (execInvalidateComplete s).core? = some s.core := by
  unfold execInvalidateComplete
  refine whenLive_core? _ _ _ fun t => ?_
  dsimp only
  split <;> simp

@[simp] theorem State.faultResult_core (s : State) (r : Nat) : (s.faultResult r).core = s.core := (rfl)

@[simp] theorem State.resumeSusp_core (s : State) (x : Susp) : (s.resumeSusp x).core = s.core := by
  unfold State.resumeSusp
  repeat' split
  all_goals simp

@[simp] theorem State.killSusp_core (s : State) (x : Susp) : (s.killSusp x).core = s.core := by
  unfold State.killSusp
  repeat' split
  all_goals simp

/-! ## Power domains -/

@[simp] theorem State.trace_core (s : State) (kind unit : Nat) (cid : Option Nat) (data stamp : Nat) :
    (s.trace kind unit cid data stamp).core = s.core := by simp [State.trace]

@[simp] theorem State.clusterTurns_core (s : State) (d : Nat) (st : DomSt) :
    (s.clusterTurns d st).core = s.core := by simp [State.clusterTurns]

@[simp] theorem State.setSt_core (s : State) (d : Nat) (st : DomSt) :
    (s.setSt d st).core = s.core := by simp [State.setSt]

@[simp] theorem State.shiftSteps_core (s : State) (n : Nat) : (s.shiftSteps n).core = s.core := (rfl)

@[simp] theorem State.pinEvent_core (s : State) : (s.pinEvent).core = s.core := by simp [State.pinEvent]

@[simp] theorem State.alarmPin_core (s : State) : (s.alarmPin).core = s.core := (rfl)

@[simp] theorem State.setEng_core (s : State) (v : Nat) : (s.setEng v).core = s.core := by simp [State.setEng]

@[simp] theorem State.followFailures_core (s : State) :
    (s.followFailures).core = s.core := by simp [State.followFailures]

@[simp] theorem State.enterStop_core (s : State) (kind index : Nat) (failure : Bool) :
    (s.enterStop kind index failure).core = s.core := by simp [State.enterStop]

@[simp] theorem State.leaveStop_core (s : State) (kind index : Nat) :
    (s.leaveStop kind index).core = s.core := by simp [State.leaveStop]

@[simp] theorem State.postVolt_core (s : State) (c mv : Nat) :
    (s.postVolt c mv).core = s.core := by simp [State.postVolt]

@[simp] theorem State.senseFault_core (s : State) (r v : Nat) :
    (s.senseFault r v).core = s.core := by simp [State.senseFault]

@[simp] theorem State.senseCheck_core (s : State) (r rise : Nat) :
    (s.senseCheck r rise).core = s.core := by simp [State.senseCheck]

@[simp] theorem State.closeRegs_core (s : State) (standby : Bool) (d : Nat) :
    (s.closeRegs standby d).core = s.core := (rfl)

@[simp] theorem State.dropCopies_core (s : State) (d : Nat) : (s.dropCopies d).core = s.core := (rfl)

@[simp] theorem State.dropCapture_core (s : State) : (s.dropCapture).core = s.core := (rfl)

@[simp] theorem State.note_core (s : State) (d step : Nat) : (s.note d step).core = s.core := by simp [State.note]

@[simp] theorem State.startDomain_core (s : State) (d : Nat) :
    (s.startDomain d).core = s.core := by simp [State.startDomain]

@[simp] theorem State.advance_core (s : State) : (s.advance).core = s.core := by
  unfold State.advance
  repeat' split
  all_goals simp

@[simp] theorem State.seqFault_core (s : State) (code detail : Nat) :
    (s.seqFault code detail).core = s.core := by simp [State.seqFault]

@[simp] theorem State.endStop_core (s : State) (result : Nat) : (s.endStop result).core = s.core := by
  unfold State.endStop
  split <;> simp

@[simp] theorem State.excludeHalf_core (s : State) (h : Nat) :
    (s.excludeHalf h).core = s.core := by simp [State.excludeHalf]

@[simp] theorem State.evict_core (s : State) (t : Nat) (e : PktEnd) : (s.evict t e).core = s.core := by
  unfold State.evict
  split <;> simp

@[simp] theorem State.abortAll_core (s : State) (code unit : Nat) (rec_ : Option Nat) (p : Nat → Bool) :
    (s.abortAll code unit rec_ p).core = s.core := by simp [State.abortAll]

@[simp] theorem State.stopDispatch_core (s : State) : (s.stopDispatch).core = s.core := (rfl)

@[simp] theorem State.beginClose_core (s : State) (p : Nat → Bool) :
    (s.beginClose p).core = s.core := by simp [State.beginClose]

/-! ## The alarm -/

@[simp] theorem State.mbDone_core (s : State) (m result : Nat) :
    (s.mbDone m result).core = s.core := by simp [State.mbDone]

@[simp] theorem State.endProp_core (s : State) (m : Nat) : (s.endProp m).core = s.core := (rfl)

@[simp] theorem State.liftAll_core (s : State) : (s.liftAll).core = s.core := (rfl)

@[simp] theorem State.endProps_core (s : State) : (s.endProps).core = s.core := by
  unfold State.endProps
  split <;> simp

@[simp] theorem State.quarantine_core (s : State) (parts : Nat) :
    (s.quarantine parts).core = s.core := by simp [State.quarantine]

@[simp] theorem State.eraseKeys_core (s : State) : (s.eraseKeys).core = s.core := (rfl)

@[simp] theorem State.haltFlight_core (s : State) : (s.haltFlight).core = s.core := (rfl)

/-! ## The save region -/

@[simp] theorem State.saveChecked_core (s : State) (o : Nat) :
    (s.saveChecked o).core = s.core := by simp [State.saveChecked]

@[simp] theorem State.putKey_core (s : State) (key v : Nat) : (s.putKey key v).core = s.core := by
  unfold State.putKey
  split <;> simp

@[simp] theorem State.restoreDsp_core (s : State) (a : Nat) :
    (s.restoreDsp a).core = s.core := by simp [State.restoreDsp]

@[simp] theorem State.takeBack_core (s : State) (f : Fld) (v : Nat) :
    (s.takeBack f v).core = s.core := by simp [State.takeBack]

@[simp] theorem State.restoreNi_core (s : State) (n : Nat) (a : List Byte) :
    (s.restoreNi n a).core = s.core := by simp [State.restoreNi]

/-! ## The flight, resets and standby -/

@[simp] theorem State.harvestBanks_core (s : State) (kept : Nat) :
    (s.harvestBanks kept).core = s.core := by simp [State.harvestBanks]

@[simp] theorem State.markUnits_core (s : State) (kept : Nat) :
    (s.markUnits kept).core = s.core := by simp [State.markUnits]

@[simp] theorem State.startFlight_core (s : State) (kind : Nat) :
    (s.startFlight kind).core = s.core := by simp [State.startFlight]

@[simp] theorem State.fusesLoaded_core (s : State) : (s.fusesLoaded).core = s.core := by simp [State.fusesLoaded]

@[simp] theorem State.unwrapKeys_core (s : State) : (s.unwrapKeys).core = s.core := by simp [State.unwrapKeys]

@[simp] theorem State.resetRails_core (s : State) : (s.resetRails).core = s.core := (rfl)

@[simp] theorem execResetNRise_core? (s : State) : (execResetNRise s).core? = some s.core := by simp [execResetNRise]

@[simp] theorem execRampGrant_core? (s : State) : (execRampGrant s).core? = some s.core := by
  unfold execRampGrant
  dsimp only
  repeat' split
  all_goals simp

@[simp] theorem execRailWait_core? (dom : BitVec 5) (rise : BitVec 16) (s : State) :
    (execRailWait dom rise s).core? = some s.core := by simp [execRailWait]

@[simp] theorem State.beginReopen_core (s : State) (x : StopCmd) (d : Nat) :
    (s.beginReopen x d).core = s.core := by simp [State.beginReopen]

@[simp] theorem State.testStep_core (s : State) : (s.testStep).core = s.core := (rfl)

@[simp] theorem State.memStopFail_core (s : State) (x : StopCmd) (step : Nat) :
    (s.memStopFail x step).core = s.core := by simp [State.memStopFail]

@[simp] theorem execClockWait_core? (dom : BitVec 5) (ev : ClockEvent) (s : State) :
    (execClockWait dom ev s).core? = some s.core := by
  unfold execClockWait
  split <;> simp

@[simp] theorem State.passHeld_core (s : State) : (s.passHeld).core = s.core := (rfl)

@[simp] theorem execDomainOpen_core? (dom : BitVec 5) (s : State) :
    (execDomainOpen dom s).core? = some s.core := by simp [execDomainOpen]

@[simp] theorem execRetryWait_core? (dom : BitVec 5) (s : State) : (execRetryWait dom s).core? = some s.core := by
  unfold execRetryWait
  dsimp only
  repeat' split
  all_goals simp

@[simp] theorem State.coldGuarded_core (s : State) : (s.coldGuarded).core = s.core := (rfl)

@[simp] theorem State.wakeInfo_core (s : State) (cause reason : Nat) : (s.wakeInfo cause reason).core = s.core := (rfl)

@[simp] theorem State.wakeOutRise_core (s : State) : (s.wakeOutRise).core = s.core := (rfl)

@[simp] theorem State.noteMailbox_core (s : State) : (s.noteMailbox).core = s.core := by simp [State.noteMailbox]

@[simp] theorem State.askHandoff_core (s : State) (r : HandoffReq) : (s.askHandoff r).core = s.core := (rfl)

@[simp] theorem State.startResume_core (s : State) : (s.startResume).core = s.core := by simp [State.startResume]

@[simp] theorem State.abandonEntry_core (s : State) (cause : Nat) : (s.abandonEntry cause).core = s.core := (rfl)

@[simp] theorem State.noteResume_core (s : State) : (s.noteResume).core = s.core := (rfl)

@[simp] theorem State.standbyWake_core (s : State) : (s.standbyWake).core = s.core := by simp [State.standbyWake]

@[simp] theorem State.readyWake_core (s : State) (r : HandoffReq) :
    (s.readyWake r).core = s.core := by simp [State.readyWake]

@[simp] theorem execWake_core? (src : Source) (value : BitVec 32) (s : State) :
    (execWake src value s).core? = some s.core := by simp [execWake]

@[simp] theorem execStrayDoorbellWrite_core? (s : State) :
    (execStrayDoorbellWrite s).core? = some s.core := by simp [execStrayDoorbellWrite]

@[simp] theorem State.ready_core (s : State) : (s.ready).core = s.core := by simp [State.ready]

@[simp] theorem State.clusterMon_core (s : State) (c : Nat) :
    (s.clusterMon c).core = s.core := by simp [State.clusterMon]

@[simp] theorem State.standbyRequest_core (s : State) :
    (s.standbyRequest).core = s.core := by simp [State.standbyRequest]

@[simp] theorem execStandbyReq_core? (src : Source) (value : BitVec 32) (s : State) :
    (execStandbyReq src value s).core? = some s.core := by simp [execStandbyReq]

@[simp] theorem State.closeClusters_core (s : State) :
    (s.closeClusters).core = s.core := by simp [State.closeClusters]

@[simp] theorem execStandbyDrain_core? (s : State) :
    (execStandbyDrain s).core? = some s.core := by simp [execStandbyDrain]

/-! ## The tile machine beside its instructions -/

@[simp] theorem State.stepped_core (s : State) (u : Nat) : (s.stepped u).core = s.core := by simp [State.stepped]

@[simp] theorem State.complete_core (s : State) (u : Nat) (ext : Bool) :
    (s.complete u ext).core = s.core := by simp [State.complete]

@[simp] theorem State.waitDone_core (s : State) (u : Nat) : (s.waitDone u).core = s.core := by simp [State.waitDone]

@[simp] theorem State.failWith_core (s : State) (u code id : Nat) : (s.failWith u code id).core = s.core := by
  unfold State.failWith
  split <;> simp

@[simp] theorem State.failTask_core (s : State) (u code detail : Nat) :
    (s.failTask u code detail).core = s.core := by
  unfold State.failTask
  split <;> simp

@[simp] theorem State.chooseLater_core (s : State) : (s.chooseLater).1.core = s.core := (rfl)

@[simp] theorem execUnitInstructionComplete_core? (tile : BitVec 7) (unit : BitVec 2) (s : State) :
    (execUnitInstructionComplete tile unit s).core? = some s.core := by simp [execUnitInstructionComplete]

/-! ## Issue of a tile instruction -/

@[simp] theorem State.wakeReport_core (s : State) (cause reason : Nat) :
    (s.wakeReport cause reason).core = s.core := by simp [State.wakeReport]

@[simp] theorem State.islandHalt_core (s : State) : (s.islandHalt).core = s.core := by simp [State.islandHalt]

@[simp] theorem State.islandTrap_core (s : State) : (s.islandTrap).core = s.core := by simp [State.islandTrap]

@[simp] theorem Fx.stall_core (s : State) : (Fx.stall s).state.core = s.core := (rfl)

@[simp] theorem State.raise_core (s : State) (u : Nat) (e : Exc) :
    (s.raise u e).core = s.core := by simp [State.raise]

@[simp] theorem settleFx_core (u : Nat) (ext : Bool) (x : Fx) : (settleFx u ext x).core = x.state.core := by
  cases x <;> simp [settleFx, Fx.state]

@[simp] theorem State.issue_core (s : State) (u : Nat) (ext : Bool) (fx : State → Fx) (h : KeepsFxCore fx) :
    (s.issue u ext fx).core = s.core := by
  have hfx (t : State) : (fx t).state.core = t.core := h t
  unfold State.issue
  dsimp only
  repeat' split
  all_goals simp [hfx]

/-- A command that only issues an instruction whose effect keeps the core keeps them. -/
theorem next_issue_core? {s : State} {u : Nat} {ext : Bool} {fx : State → Fx} (h : KeepsFxCore fx) :
    Out.core? (.next (s.issue u ext fx)) = some s.core := congrArg some (State.issue_core s u ext fx h)

@[simp] theorem State.checked_core (s : State) (u : Nat) (regs : List Nat) (ranges : List (Nat × Nat))
    (e : List (Option Exc)) (fx : State → Fx) (h : KeepsFxCore fx) :
    (s.checked u regs ranges e fx).state.core = s.core := by
  unfold State.checked
  repeat' split
  · rfl
  · rfl
  · exact h s

@[simp] theorem State.issue_checked_core (s : State) (u : Nat) (ext : Bool) (regs : State → List Nat)
    (ranges : State → List (Nat × Nat)) (e : State → List (Option Exc)) (fx : State → State → Fx)
    (h : ∀ t, KeepsFxCore (fx t)) :
    (s.issue u ext fun t => t.checked u (regs t) (ranges t) (e t) (fx t)).core = s.core :=
  s.issue_core u ext _ fun t => t.checked_core u _ _ _ _ (h t)

/-! ## Scalar instructions -/

@[simp] theorem State.sss_core? (s : State) (u : BitVec 7) (rd rs1 rs2 : BitVec 5) (f : Word → Word → Word) :
    (s.sss u rd rs1 rs2 f).core? = some s.core := by simp [State.sss]

@[simp] theorem State.ss0_core? (s : State) (u : BitVec 7) (rd rs1 rs2 : BitVec 5) (f : Word → Word) :
    (s.ss0 u rd rs1 rs2 f).core? = some s.core := by simp [State.ss0]

@[simp] theorem State.aas_core? (s : State) (u : BitVec 7) (rd rs1 rs2 : BitVec 5) (f : DWord → Word → DWord) :
    (s.aas u rd rs1 rs2 f).core? = some s.core := by simp [State.aas]

@[simp] theorem State.sa0_core? (s : State) (u : BitVec 7) (rd rs1 rs2 : BitVec 5) (f : DWord → Word) :
    (s.sa0 u rd rs1 rs2 f).core? = some s.core := by simp [State.sa0]

@[simp] theorem State.ssi_core? (s : State) (u : BitVec 7) (rd rs1 : BitVec 5) (imm : BitVec 16)
    (ext : Option (BitVec 26)) (zero : Bool) (f : Word → Int → Word) :
    (s.ssi u rd rs1 imm ext zero f).core? = some s.core := by simp [State.ssi]

@[simp] theorem execAmov_core? (u : BitVec 7) (rd rs1 rs2 : BitVec 5) (s : State) :
    (execAmov u rd rs1 rs2 s).core? = some s.core := by simp [execAmov]

@[simp] theorem execApack_core? (u : BitVec 7) (rd rs1 rs2 : BitVec 5) (s : State) :
    (execApack u rd rs1 rs2 s).core? = some s.core := by simp [execApack]

@[simp] theorem execTset_core? (u : BitVec 7) (f rd rs1 rs2 : BitVec 5) (s : State) :
    (execTset u f rd rs1 rs2 s).core? = some s.core :=
  next_issue_core? fun t => State.checked_core _ _ _ _ _ _ fun t => by
    split <;> simp

@[simp] theorem execTget_core? (u : BitVec 7) (f rd rs1 rs2 : BitVec 5) (s : State) :
    (execTget u f rd rs1 rs2 s).core? = some s.core :=
  next_issue_core? fun t => State.checked_core _ _ _ _ _ _ fun t => by
    split <;> simp

@[simp] theorem execTmov_core? (u : BitVec 7) (rd rs1 rs2 : BitVec 5) (s : State) :
    (execTmov u rd rs1 rs2 s).core? = some s.core := by simp [execTmov]

@[simp] theorem execTzero_core? (u : BitVec 7) (rd rs1 rs2 : BitVec 5) (s : State) :
    (execTzero u rd rs1 rs2 s).core? = some s.core := by simp [execTzero]

@[simp] theorem execAdda_core? (u : BitVec 7) (rd rs1 : BitVec 5) (imm : BitVec 16) (ext : Option (BitVec 26))
    (s : State) :
    (execAdda u rd rs1 imm ext s).core? = some s.core := by simp [execAdda]

theorem State.readRanges_core {s t : State} {c : Nat} {rs : List (Nat × Nat)} (h : s.readRanges c rs = .ok t) :
    t.core = s.core := by
  unfold State.readRanges at h
  dsimp only at h
  repeat' split at h
  all_goals cases h
  · rfl
  · simp

theorem State.coreRead_core {s t : State} {c a n v : Nat} (h : s.coreRead c a n = .ok (t, v)) : t.core = s.core := by
  unfold State.coreRead at h
  split at h
  · cases h
    rfl
  · split at h
    · cases h
    · next hr =>
      cases h
      exact State.readRanges_core hr

/-! ## Branches and loops -/

@[simp] theorem State.branch_core? (s : State) (u : BitVec 7) (rs1 rs2 : BitVec 5) (imm : BitVec 16)
    (ext : Option (BitVec 26)) (cond : Word → Word → Bool) :
    (s.branch u rs1 rs2 imm ext cond).core? = some s.core := by simp [State.branch]

@[simp] theorem State.jumpLink_core? (s : State) (u : BitVec 7) (rs1 rs2 : BitVec 5) (imm : BitVec 16)
    (ext : Option (BitVec 26)) :
    (s.jumpLink u rs1 rs2 imm ext).core? = some s.core := by simp [State.jumpLink]

@[simp] theorem State.loopOp_core? (s : State) (u : BitVec 7) (rs1 rs2 : BitVec 5) (imm : BitVec 16)
    (ext : Option (BitVec 26)) : (s.loopOp u rs1 rs2 imm ext).core? = some s.core :=
  next_issue_core? fun t => by
    dsimp only
    split <;> simp

/-! ## Messages between tiles -/

@[simp] theorem State.setMbox_core (s : State) (m : Nat) (l : List Msg) : (s.setMbox m l).core = s.core := (rfl)

@[simp] theorem State.endCall_core (s : State) (t sreg r : Nat) :
    (s.endCall t sreg r).core = s.core := by simp [State.endCall]

@[simp] theorem State.sendAnswer_core (s : State) (t sreg : Nat) (nb : Bool) (die m : Nat) (msg : List Nat) (r : Nat) :
    (s.sendAnswer t sreg nb die m msg r).core = s.core := by simp [State.sendAnswer]

/-! ## Data movement, waits and calls -/

@[simp] theorem execXfer_core? (u : BitVec 7) (a t : BitVec 4) (sf : BitVec 5) (func : BitVec 13) (s : State) :
    (execXfer u a t sf func s).core? = some s.core := by simp [execXfer]

@[simp] theorem State.await_core (s : State) (c : Nat) (w : WaitFor) :
    (s.await c w).core = s.core := by simp [State.await]

@[simp] theorem execWaitBarge_core? (u : BitVec 7) (imm : BitVec 16) (s : State) :
    (execWaitBarge u imm s).core? = some s.core := by simp [execWaitBarge]

@[simp] theorem execWaitUnits_core? (u : BitVec 7) (imm : BitVec 16) (s : State) :
    (execWaitUnits u imm s).core? = some s.core :=
  next_issue_core? fun t => by
    split <;> simp

@[simp] theorem execWaitTick_core? (u : BitVec 7) (imm : BitVec 16) (s : State) :
    (execWaitTick u imm s).core? = some s.core := by simp [execWaitTick]

@[simp] theorem execWaitTickRelease_core? (u : BitVec 7) (s : State) :
    (execWaitTickRelease u s).core? = some s.core := by
  unfold execWaitTickRelease
  dsimp only
  repeat' split
  all_goals simp

@[simp] theorem State.takeFrame_core (s : State) : (s.takeFrame).core = s.core := by
  unfold State.takeFrame
  dsimp only
  repeat' split
  all_goals simp

@[simp] theorem execWaitFrame_core? (u : BitVec 7) (imm : BitVec 16) (s : State) :
    (execWaitFrame u imm s).core? = some s.core := by simp [execWaitFrame]

@[simp] theorem State.callOut_core (s : State) (t : Nat) (h : Header) : (s.callOut t h).core = s.core := (rfl)

@[simp] theorem State.sendOut_core (s : State) (t die m port : Nat) (msg : List Nat) :
    (s.sendOut t die m port msg).core = s.core := (rfl)

@[simp] theorem execSignalEvent_core? (u : BitVec 7) (imm : BitVec 16) (s : State) :
    (execSignalEvent u imm s).core? = some s.core := by simp [execSignalEvent]

@[simp] theorem State.keepHeld_core (s : State) : (s.keepHeld).core = s.core := by
  unfold State.keepHeld
  split <;> simp

@[simp] theorem execSignalWake_core? (u : BitVec 7) (imm : BitVec 16) (s : State) :
    (execSignalWake u imm s).core? = some s.core := by simp [execSignalWake]

@[simp] theorem execSignalKeep_core? (u : BitVec 7) (imm : BitVec 16) (s : State) :
    (execSignalKeep u imm s).core? = some s.core := by simp [execSignalKeep]

@[simp] theorem State.phaseReport_core (s : State) (t n : Nat) :
    (s.phaseReport t n).core = s.core := by simp [State.phaseReport]

@[simp] theorem execPhase_core? (u : BitVec 7) (imm : BitVec 16) (s : State) :
    (execPhase u imm s).core? = some s.core := by simp [execPhase]

@[simp] theorem execTime_core? (u : BitVec 7) (imm : BitVec 16) (s : State) :
    (execTime u imm s).core? = some s.core := by simp [execTime]

@[simp] theorem execClipstat_core? (u : BitVec 7) (imm : BitVec 16) (s : State) :
    (execClipstat u imm s).core? = some s.core :=
  next_issue_core? fun t => State.checked_core _ _ _ _ _ _ fun t => by
    split
    · rfl
    · split <;> simp

@[simp] theorem execTmodeRead_core? (u : BitVec 7) (imm : BitVec 16) (s : State) :
    (execTmodeRead u imm s).core? = some s.core := by simp [execTmodeRead]

@[simp] theorem execTmodeWrite_core? (u : BitVec 7) (imm : BitVec 16) (s : State) :
    (execTmodeWrite u imm s).core? = some s.core := by simp [execTmodeWrite]

@[simp] theorem execEnd_core? (u : BitVec 7) (imm : BitVec 16) (s : State) :
    (execEnd u imm s).core? = some s.core := by simp [execEnd]

@[simp] theorem State.yieldTo_core (s : State) (t : Nat) (k : Cand) : (s.yieldTo t k).core = s.core := by
  unfold State.yieldTo
  split <;> next h => simp [fst_core h]

@[simp] theorem execYield_core? (u : BitVec 7) (imm : BitVec 16) (s : State) :
    (execYield u imm s).core? = some s.core :=
  next_issue_core? fun t => State.checked_core _ _ _ _ _ _ fun t => by
    dsimp only
    split
    · rfl
    · split
      · simp
      · split <;> simp

@[simp] theorem execTrap_core? (u : BitVec 7) (imm : BitVec 16) (s : State) :
    (execTrap u imm s).core? = some s.core := by simp [execTrap]

/-! ## The basin and memory requests -/

@[simp] theorem State.takeArrived_core (s : State) (h : Header) : (s.takeArrived h).core = s.core := (rfl)

@[simp] theorem State.answerBare_core (s : State) (h : Header) (status : Nat) :
    (s.answerBare h status).core = s.core := (rfl)

@[simp] theorem State.noteErr_core (s : State) (h : Header) (id : Nat) : (s.noteErr h id).core = s.core := (rfl)

@[simp] theorem State.misdirected_core (s : State) (h : Header) :
    (s.misdirected h).core = s.core := by simp [State.misdirected]

@[simp] theorem State.dropLine_core (s : State) (pa : Nat) : (s.dropLine pa).core = s.core := (rfl)

@[simp] theorem State.bring_core (s : State) (pa : Nat) : (s.bring pa).core = s.core := by simp [State.bring]

/-! ## Faults, events and monitors -/

@[simp] theorem State.sampleLost_core (s : State) (a : Report) : (s.sampleLost a).core = s.core := by
  unfold State.sampleLost
  split <;> simp

@[simp] theorem State.enterFifo_core (s : State) (r : Report) : (s.enterFifo r).core = s.core := (rfl)

@[simp] theorem State.arrive_core (s : State) (r : Report) : (s.arrive r).core = s.core := by simp [State.arrive]

@[simp] theorem execReportArrive_core? (k : BitVec 16) (s : State) : (execReportArrive k s).core? = some s.core := by
  unfold execReportArrive
  refine whenLive_core? _ _ _ fun t => ?_
  dsimp only
  split <;> simp

@[simp] theorem execHeldReportAccept_core? (s : State) : (execHeldReportAccept s).core? = some s.core := by
  unfold execHeldReportAccept
  refine whenLive_core? _ _ _ fun t => ?_
  dsimp only
  split <;> simp

@[simp] theorem State.passOn_core (s : State) (r : Report) : (s.passOn r).core = s.core := by
  unfold State.passOn
  split <;> simp

@[simp] theorem execLogReadWrite_core? (value : BitVec 32) (s : State) :
    (execLogReadWrite value s).core? = some s.core := by simp [execLogReadWrite]

@[simp] theorem State.deliver_core (s : State) (v : Nat) : (s.deliver v).core = s.core := by simp [State.deliver]

@[simp] theorem execEventVector_core? (s : State) : (execEventVector s).core? = some s.core := by
  unfold execEventVector
  refine whenLive_core? _ _ _ fun t => ?_
  dsimp only
  split <;> simp

@[simp] theorem State.writeVec_core (s : State) (v value : Nat) :
    (s.writeVec v value).core = s.core := by simp [State.writeVec]

@[simp] theorem execVecUnmask_core? (v : BitVec 12) (value : BitVec 64) (s : State) :
    (execVecUnmask v value s).core? = some s.core := by simp [execVecUnmask]

@[simp] theorem State.clearSlot_core (s : State) (k : Nat) : (s.clearSlot k).core = s.core := (rfl)

@[simp] theorem execMonitorPartialSend_core? (what : SampleOf) (s : State) :
    (execMonitorPartialSend what s).core? = some s.core := by
  unfold execMonitorPartialSend
  split <;> simp

@[simp] theorem State.mergePart_core (s : State) (p : Partial) :
    (s.mergePart p).core = s.core := by simp [State.mergePart]

@[simp] theorem State.mergeCtx_core (s : State) (p : CtxPart) : (s.mergeCtx p).core = s.core := (rfl)

@[simp] theorem execMonitorPartialMerge_core? (s : State) : (execMonitorPartialMerge s).core? = some s.core := by
  unfold execMonitorPartialMerge
  refine whenLive_core? _ _ _ fun t => ?_
  dsimp only
  repeat' split
  all_goals simp

@[simp] theorem execSlotCfgWrite_core? (slot : BitVec 8) (value : BitVec 64) (s : State) :
    (execSlotCfgWrite slot value s).core? = some s.core := by simp [execSlotCfgWrite]

@[simp] theorem execCapBaseWrite_core? (value : BitVec 64) (s : State) :
    (execCapBaseWrite value s).core? = some s.core := by simp [execCapBaseWrite]

@[simp] theorem execTraceBaseWrite_core? (value : BitVec 64) (s : State) :
    (execTraceBaseWrite value s).core? = some s.core := by simp [execTraceBaseWrite]

@[simp] theorem execGtcSyncWord_core? (s : State) :
    (execGtcSyncWord s).core? = some s.core := by simp [execGtcSyncWord]

@[simp] theorem State.copyFault_core (s : State) (k detail : Nat) : (s.copyFault k detail).core = s.core := by
  unfold State.copyFault
  split <;> simp

@[simp] theorem execGtcCopySync_core? (copy : BitVec 8) (count : BitVec 64) (s : State) :
    (execGtcCopySync copy count s).core? = some s.core := by
  unfold execGtcCopySync
  refine whenLive_core? _ _ _ fun t => ?_
  dsimp only
  split <;> simp

@[simp] theorem execGtcCopyStale_core? (copy : BitVec 8) (s : State) :
    (execGtcCopyStale copy s).core? = some s.core := by simp [execGtcCopyStale]

/-! ## The sensor island -/

@[simp] theorem Island.sram_ite (p : Prop) [Decidable p] (a b : Island) :
    (if p then a else b).sram = if p then a.sram else b.sram := apply_ite _ _ _ _

@[simp] theorem State.endCapture_core (s : State) : (s.endCapture).core = s.core := by
  unfold State.endCapture
  dsimp only
  split <;> simp

@[simp] theorem State.captureError_core (s : State) : (s.captureError).core = s.core := by simp [State.captureError]

@[simp] theorem State.setLane_core (s : State) (l v : Nat) : (s.setLane l v).core = s.core := (rfl)

@[simp] theorem State.lineFound_core (s : State) (kind : Nat) : (s.lineFound kind).core = s.core := by
  unfold State.lineFound
  split <;> simp

@[simp] theorem State.laneStates_core (s : State) : (s.laneStates).core = s.core := (rfl)

@[simp] theorem State.watFault_core (s : State) (code detail : Nat) :
    (s.watFault code detail).core = s.core := by simp [State.watFault]

@[simp] theorem State.linkUpDone_core (s : State) (swapped : Bool) :
    (s.linkUpDone swapped).core = s.core := by simp [State.linkUpDone]

@[simp] theorem execCaptureStart_core? (d0p d0n d1p d1n ckp ckn : LineSt) (s : State) :
    (execCaptureStart d0p d0n d1p d1n ckp ckn s).core? = some s.core := by
  unfold execCaptureStart
  refine whenN7_core? _ _ fun t => ?_
  dsimp only
  repeat' split
  all_goals simp

@[simp] theorem State.setCapture_core (s : State) (c : Capture) : (s.setCapture c).core = s.core := (rfl)

@[simp] theorem State.toTrigger_core (s : State) (o : Order) : (s.toTrigger o).core = s.core := (rfl)

@[simp] theorem execCaptureOrder_core? (s : State) : (execCaptureOrder s).core? = some s.core := by
  unfold execCaptureOrder
  refine whenN7_core? _ _ fun t => ?_
  dsimp only
  split <;> simp

@[simp] theorem State.i3cDrives_core (s : State) (b : I3cBus) : (s.i3cDrives b).core = s.core := (rfl)

@[simp] theorem State.triggerDone_core (s : State) (c : Capture) (o : Order) :
    (s.triggerDone c o).core = s.core := (rfl)

@[simp] theorem execTriggerWrite_core? (fin : I3cEnd) (s : State) :
    (execTriggerWrite fin s).core? = some s.core := by
  unfold execTriggerWrite
  refine whenN7_core? _ _ fun t => ?_
  dsimp only
  repeat' split
  all_goals simp

@[simp] theorem execI3cBusRecovery_core? (freed : Bool) (s : State) :
    (execI3cBusRecovery freed s).core? = some s.core := by
  unfold execI3cBusRecovery
  refine whenN7_core? _ _ fun t => ?_
  dsimp only
  repeat' split
  all_goals simp

@[simp] theorem execHsPolarity_core? (lane : BitVec 2) (found : LaneSt) (nLine : Bool) (s : State) :
    (execHsPolarity lane found nLine s).core? = some s.core := by
  unfold execHsPolarity
  refine whenN7_core? _ _ fun t => ?_
  dsimp only
  repeat' split
  all_goals simp

@[simp] theorem execFrameWindowExpire_core? (s : State) : (execFrameWindowExpire s).core? = some s.core := by
  unfold execFrameWindowExpire
  refine whenN7_core? _ _ fun t => ?_
  repeat' split
  all_goals simp

@[simp] theorem execWatchBudgetOverrun_core? (s : State) : (execWatchBudgetOverrun s).core? = some s.core := by
  unfold execWatchBudgetOverrun
  refine whenN7_core? _ _ fun t => ?_
  dsimp only
  split <;> simp

@[simp] theorem execWatchException_core? (ecc : EccEnd) (addr : BitVec 18) (s : State) :
    (execWatchException ecc addr s).core? = some s.core := by
  unfold execWatchException
  split <;> simp

@[simp] theorem execWakeInWake_core? (level : Bool) (s : State) : (execWakeInWake level s).core? = some s.core := by
  unfold execWakeInWake
  refine whenN7_core? _ _ fun t => ?_
  dsimp only
  split <;> simp

@[simp] theorem execWakeInStuck_core? (s : State) : (execWakeInStuck s).core? = some s.core := by
  unfold execWakeInStuck
  refine whenN7_core? _ _ fun t => ?_
  dsimp only
  split <;> simp

@[simp] theorem State.writeWakeCtrl_core (s : State) (v : Nat) :
    (s.writeWakeCtrl v).core = s.core := by simp [State.writeWakeCtrl]

@[simp] theorem watWrite_core? (s : State) (f : State → State) (h : KeepsCore f) :
    (watWrite s f).core? = some s.core := whenTow_core? _ _ fun t => whenN7_core? t f h

@[simp] theorem execWakeInReenable_core? (value : BitVec 32) (s : State) :
    (execWakeInReenable value s).core? = some s.core := by simp [execWakeInReenable]

@[simp] theorem execProgramWake_core? (s : State) : (execProgramWake s).core? = some s.core := by
  unfold execProgramWake
  refine whenN7_core? _ _ fun t => ?_
  dsimp only
  split <;> simp

@[simp] theorem State.writeWakeInfo_core (s : State) (v : Nat) :
    (s.writeWakeInfo v).core = s.core := by simp [State.writeWakeInfo]

@[simp] theorem execPendingClear_core? (value : BitVec 32) (s : State) :
    (execPendingClear value s).core? = some s.core := by simp [execPendingClear]

@[simp] theorem State.writeWatStatus_core (s : State) (v : Nat) :
    (s.writeWatStatus v).core = s.core := by simp [State.writeWatStatus]

@[simp] theorem execKeepClear_core? (value : BitVec 32) (s : State) :
    (execKeepClear value s).core? = some s.core := by simp [execKeepClear]

@[simp] theorem State.writeWatCtrl_core (s : State) (v : Nat) :
    (s.writeWatCtrl v).core = s.core := by simp [State.writeWatCtrl]

@[simp] theorem execHandoffNow_core? (value : BitVec 32) (s : State) :
    (execHandoffNow value s).core? = some s.core := by simp [execHandoffNow]

@[simp] theorem execArm_core? (value : BitVec 32) (s : State) :
    (execArm value s).core? = some s.core := by simp [execArm]

@[simp] theorem State.dropHandoff_core (s : State) : (s.dropHandoff).core = s.core := by simp [State.dropHandoff]

@[simp] theorem State.handoffOver_core (s : State) (b : Option Nat) : (s.handoffOver b).core = s.core := by
  unfold State.handoffOver
  split <;> simp

@[simp] theorem State.handoffFailed_core (s : State) : (s.handoffFailed).core = s.core := by
  unfold State.handoffFailed
  split <;> simp

/-! ## Requests that leave the die -/

@[simp] theorem State.setPortState_core (s : State) (n v : Nat) : (s.setPortState n v).core = s.core := (rfl)

@[simp] theorem State.offerTx_core (s : State) (n : Nat) (h : Header) : (s.offerTx n h).core = s.core := (rfl)

theorem State.sendOn_core {s t : State} {n : Nat} {ing : Option Nat} {h : Header} (hs : s.sendOn n ing h = some t) :
    t.core = s.core := by
  unfold State.sendOn at hs
  repeat' split at hs
  all_goals cases hs
  all_goals simp

@[simp] theorem State.answerOrig_core (s : State) (h : Header) (status lines data operand : Nat) :
    (s.answerOrig h status lines data operand).core = s.core := (rfl)

@[simp] theorem State.faultOrig_core (s : State) (h : Header) (code : Nat) :
    (s.faultOrig h code).core = s.core := (rfl)

@[simp] theorem State.dropOut_core (s : State) (r : LinkReq) : (s.dropOut r).core = s.core := (rfl)

@[simp] theorem State.linkFault_core (s : State) (code n detail : Nat) :
    (s.linkFault code n detail).core = s.core := by simp [State.linkFault]

@[simp] theorem State.forward_core (s : State) (n : Nat) (ing : Option Nat) (h : Header) :
    (s.forward n ing h).core = s.core := by
  unfold State.forward
  split
  · next hs => exact State.sendOn_core hs
  · dsimp only
    split
    · simp
    · split
      · split <;> simp
      · exact getD_core (fun t ht => (State.sendOn_core ht).trans (by simp)) (by simp)

@[simp] theorem State.amoFails_core (s : State) (n : Nat) (h : Header) :
    (s.amoFails n h).core = s.core := by simp [State.amoFails]

/-! ## The mesh -/

@[simp] theorem State.weirChanged_core (s : State) (n u k : Nat) (old : Bool × Nat × Nat) (oldCredit : Int) :
    (s.weirChanged n u k old oldCredit).core = s.core := by simp [State.weirChanged]

@[simp] theorem State.writeWeir_core (s : State) (n u k v : Nat) :
    (s.writeWeir n u k v).core = s.core := by simp [State.writeWeir]

@[simp] theorem execWeirWrite_core? (stop : BitVec 6) (unit cls : BitVec 2) (value : BitVec 64) (s : State) :
    (execWeirWrite stop unit cls value s).core? = some s.core := by simp [execWeirWrite]

@[simp] theorem State.weirTick_core (s : State) : (s.weirTick).core = s.core := by simp [State.weirTick]

@[simp] theorem State.tileFailed_core (s : State) (t code : Nat) (h : Header) :
    (s.tileFailed t code h).core = s.core := by
  unfold State.tileFailed
  split <;> simp

@[simp] theorem State.dmaFailed_core (s : State) (n code : Nat) (h : Header) :
    (s.dmaFailed n code h).core = s.core := by
  unfold State.dmaFailed
  repeat' split
  all_goals simp

@[simp] theorem State.swapLost_core (s : State) (h : Header) : (s.swapLost h).core = s.core := by
  unfold State.swapLost
  dsimp only
  repeat' split
  all_goals simp

@[simp] theorem State.sampleMport_core (s : State) (n : Nat) (h : Header) : (s.sampleMport n h).core = s.core := by
  unfold State.sampleMport
  split <;> simp

@[simp] theorem State.moveBytes_core (s : State) (n u bytes : Nat) : (s.moveBytes n u bytes).core = s.core := (rfl)

@[simp] theorem State.injectAt_core (s : State) (h : Header) (d : Nat) :
    (s.injectAt h d).core = s.core := by simp [State.injectAt]

@[simp] theorem State.waitAt_core (s : State) (n out c : Nat) :
    (s.waitAt n out c).core = s.core := by simp [State.waitAt]

@[simp] theorem State.landed_core (s : State) (k : Nat) (f : Flit) :
    (s.landed k f).core = s.core := by simp [State.landed]

@[simp] theorem State.eject_core (s : State) (n : Nat) (h : Header) :
    (s.eject n h).core = s.core := by simp [State.eject]

@[simp] theorem State.passFlit_core (s : State) (f : Flit) (body : EccEnd) : (s.passFlit f body).core = s.core := by
  unfold State.passFlit
  dsimp only
  repeat' split
  all_goals simp

@[simp] theorem State.route_core (s : State) (n out : Nat) (head body : EccEnd) (stalls : Nat) :
    (s.route n out head body stalls).core = s.core := by
  unfold State.route
  dsimp only
  repeat' split
  all_goals simp

@[simp] theorem execRouterHeader_core? (stop : BitVec 6) (out : BitVec 3) (head body : EccEnd) (stalls : BitVec 32)
    (s : State) :
    (execRouterHeader stop out head body stalls s).core? = some s.core := by simp [execRouterHeader]

@[simp] theorem execPacketEject_core? (stop : BitVec 6) (s : State) :
    (execPacketEject stop s).core? = some s.core := by simp [execPacketEject]

@[simp] theorem State.startSwitch_core (s : State) : (s.startSwitch).1.core = s.core := by
  unfold State.startSwitch
  dsimp only
  repeat' split
  all_goals simp

@[simp] theorem State.writeEpoch_core (s : State) (v : Nat) :
    (s.writeEpoch v).core = s.core := by simp [State.writeEpoch]

@[simp] theorem execSwitch_core? (value : BitVec 32) (s : State) :
    (execSwitch value s).core? = some s.core := by simp [execSwitch]

@[simp] theorem execEpochReqDrained_core? (s : State) :
    (execEpochReqDrained s).core? = some s.core := by simp [execEpochReqDrained]

@[simp] theorem State.disablePort_core (s : State) (n : Nat) : (s.disablePort n).core = s.core := (rfl)

@[simp] theorem State.portStopped_core (s : State) : (s.portStopped).core = s.core := by
  unfold State.portStopped
  split <;> simp

@[simp] theorem execProbeSample_core? (s : State) :
    (execProbeSample s).core? = some s.core := by simp [execProbeSample]

/-! ## The link -/

@[simp] theorem State.train_core (s : State) (n : Nat) : (s.train n).core = s.core := (rfl)

@[simp] theorem State.holdover_core (s : State) : (s.holdover).core = s.core := by simp [State.holdover]

@[simp] theorem State.portDown_core (s : State) (n : Nat) : (s.portDown n).core = s.core := by simp [State.portDown]

@[simp] theorem State.peerLost_core (s : State) (n : Nat) : (s.peerLost n).core = s.core := by simp [State.peerLost]

@[simp] theorem State.portFailed_core (s : State) (n : Nat) :
    (s.portFailed n).core = s.core := by simp [State.portFailed]

@[simp] theorem State.trainFail_core (s : State) (n step : Nat) :
    (s.trainFail n step).core = s.core := by simp [State.trainFail]

@[simp] theorem State.useLanes_core (s : State) (n : Nat) (g : Nat × Nat) : (s.useLanes n g).core = s.core := (rfl)

@[simp] theorem State.narrow_core (s : State) (n : Nat) : (s.narrow n).core = s.core := by simp [State.narrow]

@[simp] theorem execTrainingStepTimeout_core? (port : BitVec 3) (s : State) :
    (execTrainingStepTimeout port s).core? = some s.core := by simp [execTrainingStepTimeout]

@[simp] theorem execTrainingRetry_core? (port : BitVec 3) (s : State) :
    (execTrainingRetry port s).core? = some s.core := by simp [execTrainingRetry]

@[simp] theorem State.retrain_core (s : State) (n mask : Nat) :
    (s.retrain n mask).core = s.core := by simp [State.retrain]

@[simp] theorem execRetrain_core? (port : BitVec 3) (cause : RetrainCause) (s : State) :
    (execRetrain port cause s).core? = some s.core := by
  unfold execRetrain
  split <;> simp

@[simp] theorem execRetrainEnd_core? (port : BitVec 3) (fin : RetrainFin) (s : State) :
    (execRetrainEnd port fin s).core? = some s.core := by
  unfold execRetrainEnd
  refine whenLink_core? _ _ fun t => ?_
  dsimp only
  repeat' split
  all_goals simp

@[simp] theorem execPeerSilent_core? (port : BitVec 3) (s : State) :
    (execPeerSilent port s).core? = some s.core := by simp [execPeerSilent]

@[simp] theorem State.writePortCtrl_core (s : State) (n v : Nat) :
    (s.writePortCtrl n v).core = s.core := by simp [State.writePortCtrl]

@[simp] theorem execLinkPortEnable_core? (port : BitVec 3) (value : BitVec 32) (s : State) :
    (execLinkPortEnable port value s).core? = some s.core := by simp [execLinkPortEnable]

@[simp] theorem State.portMon_core (s : State) (n : Nat) : (s.portMon n).core = s.core := by simp [State.portMon]

@[simp] theorem execLinkPort_core? (src : Source) (value : BitVec 32) (s : State) :
    (execLinkPort src value s).core? = some s.core := by simp [execLinkPort]

@[simp] theorem execLinkFrameSend_core? (port : BitVec 3) (ty : FrameTy) (s : State) :
    (execLinkFrameSend port ty s).core? = some s.core := by
  unfold execLinkFrameSend
  split <;> simp

@[simp] theorem State.replayAll_core (s : State) (n : Nat) :
    (s.replayAll n).core = s.core := by simp [State.replayAll]

@[simp] theorem State.deliverFrames_core (s : State) (n : Nat) (fs : List LFrame) :
    (s.deliverFrames n fs).core = s.core := (rfl)

@[simp] theorem State.tagFailed_core (s : State) (n : Nat) :
    (s.tagFailed n).core = s.core := by simp [State.tagFailed]

@[simp] theorem State.acceptFrame_core (s : State) (n : Nat) (f : LFrame) (tagBad : Bool) :
    (s.acceptFrame n f tagBad).core = s.core := by simp [State.acceptFrame]

@[simp] theorem execLinkFrameReceive_core? (port : BitVec 3) (frame : LFrame) (check : FrameCheck)
    (corrected : BitVec 16) (uncorr : Bool) (s : State) :
    (execLinkFrameReceive port frame check corrected uncorr s).core? = some s.core := by simp [execLinkFrameReceive]

@[simp] theorem execAckTimeout_core? (port : BitVec 3) (s : State) :
    (execAckTimeout port s).core? = some s.core := by simp [execAckTimeout]

@[simp] theorem State.takeLink_core (s : State) (h : Header) : (s.takeLink h).core = s.core := by
  unfold State.takeLink
  split <;> simp

@[simp] theorem State.dropCombine_core (s : State) (e : Combine) : (s.dropCombine e).core = s.core := (rfl)

@[simp] theorem State.redFault_core (s : State) (n g off : Nat) :
    (s.redFault n g off).core = s.core := by simp [State.redFault]

@[simp] theorem State.reissue_core (s : State) (n : Nat) (h : Header) :
    (s.reissue n h).core = s.core := by simp [State.reissue]

@[simp] theorem execLRead_core? (stop : BitVec 3) (h : Header) (s : State) :
    (execLRead stop h s).core? = some s.core := by simp [execLRead]

@[simp] theorem execLWrite_core? (stop : BitVec 3) (h : Header) (s : State) :
    (execLWrite stop h s).core? = some s.core := by simp [execLWrite]

@[simp] theorem execLWriteMasked_core? (stop : BitVec 3) (h : Header) (s : State) :
    (execLWriteMasked stop h s).core? = some s.core := by simp [execLWriteMasked]

@[simp] theorem execLMboxSend_core? (stop : BitVec 3) (h : Header) (s : State) :
    (execLMboxSend stop h s).core? = some s.core := by simp [execLMboxSend]

@[simp] theorem State.remoteAtomic_core (s : State) (n : Nat) (h : Header) : (s.remoteAtomic n h).core = s.core := by
  unfold State.remoteAtomic
  dsimp only
  repeat' split
  all_goals simp

@[simp] theorem execLAtomic_core? (stop : BitVec 3) (h : Header) (s : State) :
    (execLAtomic stop h s).core? = some s.core := by simp [execLAtomic]

@[simp] theorem State.giveUp_core (s : State) (r : LinkReq) : (s.giveUp r).core = s.core := by simp [State.giveUp]

@[simp] theorem execRemoteResend_core? (stop : BitVec 3) (origStop : BitVec 6) (origUnit : BitVec 2)
    (origTag : BitVec 6) (s : State) :
    (execRemoteResend stop origStop origUnit origTag s).core? = some s.core := by
  unfold execRemoteResend
  refine whenLink_core? _ _ fun t => ?_
  dsimp only
  split <;> simp

@[simp] theorem execRemoteWriteGiveup_core? (stop : BitVec 3) (origStop : BitVec 6) (origUnit : BitVec 2)
    (origTag : BitVec 6) (s : State) :
    (execRemoteWriteGiveup stop origStop origUnit origTag s).core? = some s.core := by
  unfold execRemoteWriteGiveup
  refine whenLink_core? _ _ fun t => ?_
  repeat' split
  all_goals simp

@[simp] theorem execLMboxRecv_core? (h : Header) (s : State) : (execLMboxRecv h s).core? = some s.core := by
  unfold execLMboxRecv
  refine whenLive_core? _ _ _ fun t => ?_
  dsimp only
  repeat' split
  all_goals simp

@[simp] theorem State.writeBind_core (s : State) (m v : Nat) : (s.writeBind m v).core = s.core := by
  unfold State.writeBind
  dsimp only
  split
  · rfl
  · split
    · simp
    · refine (foldl_core _ _ _ fun e t => ?_).trans (by simp)
      dsimp only
      split <;> simp

@[simp] theorem execMboxBindWrite_core? (mbox : BitVec 12) (value : BitVec 64) (s : State) :
    (execMboxBindWrite mbox value s).core? = some s.core := by simp [execMboxBindWrite]

@[simp] theorem State.steer_core (s : State) (offset : Int) : (s.steer offset).core = s.core := by simp [State.steer]

@[simp] theorem execTimeHoldover_core? (s : State) :
    (execTimeHoldover s).core? = some s.core := by simp [execTimeHoldover]

@[simp] theorem State.loadSession_core (s : State) (n : Nat) : (s.loadSession n).core = s.core := (rfl)

@[simp] theorem execSessionHandshake_core? (port : BitVec 3) (fin : Handshake) (s : State) :
    (execSessionHandshake port fin s).core? = some s.core := by
  unfold execSessionHandshake
  split <;> simp

@[simp] theorem execSessionRekey_core? (port : BitVec 3) (s : State) :
    (execSessionRekey port s).core? = some s.core := by simp [execSessionRekey]

/-! ## Clocks, time and ageing -/

@[simp] theorem State.setFt_core (s : State) (c f : Nat) : (s.setFt c f).core = s.core := (rfl)

@[simp] theorem State.traceOp_core (s : State) (c : Nat) : (s.traceOp c).core = s.core := by simp [State.traceOp]

@[simp] theorem State.limitTo_core (s : State) (c n : Nat) : (s.limitTo c n).core = s.core := by simp [State.limitTo]

@[simp] theorem State.setLimit_core (s : State) (c n : Nat) :
    (s.setLimit c n).core = s.core := by simp [State.setLimit]

@[simp] theorem State.setOp_core (s : State) (c k f : Nat) : (s.setOp c k f).core = s.core := by simp [State.setOp]

@[simp] theorem State.sendOp_core (s : State) (c k f : Nat) :
    (s.sendOp c k f).core = s.core := by simp [State.sendOp]

@[simp] theorem State.changeOp_core (s : State) (c k f : Nat) :
    (s.changeOp c k f).core = s.core := by simp [State.changeOp]

@[simp] theorem execDfoTrim_core? (cluster : BitVec 4) (fMeas : BitVec 12) (low : BitVec 6) (codes : BitVec 48)
    (s : State) :
    (execDfoTrim cluster fMeas low codes s).core? = some s.core := by
  unfold execDfoTrim
  refine whenLive_core? _ _ _ fun t => ?_
  dsimp only
  repeat' split
  all_goals simp

@[simp] theorem execDroop_core? (cluster : BitVec 4) (freq : BitVec 12) (s : State) :
    (execDroop cluster freq s).core? = some s.core := by simp [execDroop]

@[simp] theorem execMarginCritical_core? (cluster : BitVec 4) (codes : BitVec 48) (s : State) :
    (execMarginCritical cluster codes s).core? = some s.core := by
  unfold execMarginCritical
  refine whenLive_core? _ _ _ fun t => ?_
  dsimp only
  repeat' split
  all_goals simp

@[simp] theorem State.marginEvent_core (s : State) (c : Nat) :
    (s.marginEvent c).core = s.core := by simp [State.marginEvent]

@[simp] theorem execMarginLow_core? (cluster : BitVec 4) (code : BitVec 6) (skew : BitVec 8) (s : State) :
    (execMarginLow cluster code skew s).core? = some s.core := by simp [execMarginLow]

@[simp] theorem execMarginRecover_core? (cluster : BitVec 4) (low : BitVec 6) (s : State) :
    (execMarginRecover cluster low s).core? = some s.core := by
  unfold execMarginRecover
  refine whenLive_core? _ _ _ fun t => ?_
  dsimp only
  split <;> simp

@[simp] theorem execSkewCorrect_core? (cluster : BitVec 4) (skew : BitVec 8) (s : State) :
    (execSkewCorrect cluster skew s).core? = some s.core := by simp [execSkewCorrect]

@[simp] theorem State.senseWatch_core (s : State) (r v : Nat) :
    (s.senseWatch r v).core = s.core := by simp [State.senseWatch]

@[simp] theorem State.calibrate_core (s : State) (r v est : Nat) :
    (s.calibrate r v est).core = s.core := by simp [State.calibrate]

@[simp] theorem State.writeRailStatus_core (s : State) (r v : Nat) :
    (s.writeRailStatus r v).core = s.core := by simp [State.writeRailStatus]

@[simp] theorem execSenseRetry_core? (rail : BitVec 5) (value : BitVec 64) (s : State) :
    (execSenseRetry rail value s).core? = some s.core := by simp [execSenseRetry]

@[simp] theorem execCeilClear_core? (rail : BitVec 5) (value : BitVec 64) (s : State) :
    (execCeilClear rail value s).core? = some s.core := by simp [execCeilClear]

@[simp] theorem execVoltageReached_core? (rail : BitVec 4) (mv : BitVec 16) (s : State) :
    (execVoltageReached rail mv s).core? = some s.core := by
  unfold execVoltageReached
  refine whenLive_core? _ _ _ fun t => ?_
  dsimp only
  repeat' split
  all_goals simp

@[simp] theorem execVsetTimeout_core? (rail : BitVec 4) (s : State) :
    (execVsetTimeout rail s).core? = some s.core := by simp [execVsetTimeout]

/-! ## Power -/

@[simp] theorem State.showCap_core (s : State) : (s.showCap).core = s.core := (rfl)

@[simp] theorem State.adjustLimit_core (s : State) (c alloc : Nat) :
    (s.adjustLimit c alloc).core = s.core := by simp [State.adjustLimit]

@[simp] theorem State.fixedBreak_core (s : State) (c alloc : Nat) :
    (s.fixedBreak c alloc).core = s.core := by simp [State.fixedBreak]

@[simp] theorem State.feedback_core (s : State) (c alloc : Nat) :
    (s.feedback c alloc).core = s.core := by simp [State.feedback]

@[simp] theorem State.apportion_core (s : State) (interval : Bool) :
    (s.apportion interval).core = s.core := by simp [State.apportion]

@[simp] theorem State.learn_core (s : State) (t uw : Nat) : (s.learn t uw).core = s.core := by
  unfold State.learn
  split <;> simp

@[simp] theorem State.unmetCheck_core (s : State) : (s.unmetCheck).core = s.core := by simp [State.unmetCheck]

@[simp] theorem execEstimateInterval_core? (uncore : BitVec 20) (tiles : List (BitVec 32)) (s : State) :
    (execEstimateInterval uncore tiles s).core? = some s.core := by simp [execEstimateInterval]

@[simp] theorem execPhaseReport_core? (s : State) : (execPhaseReport s).core? = some s.core := by
  unfold execPhaseReport
  refine whenLive_core? _ _ _ fun t => ?_
  dsimp only
  split <;> simp

@[simp] theorem execDemandReport_core? (s : State) : (execDemandReport s).core? = some s.core := by
  unfold execDemandReport
  refine whenLive_core? _ _ _ fun t => ?_
  dsimp only
  split <;> simp

@[simp] theorem execClusterOpenOnDemand_core? (s : State) : (execClusterOpenOnDemand s).core? = some s.core := by
  unfold execClusterOpenOnDemand
  refine whenLive_core? _ _ _ fun t => ?_
  dsimp only
  repeat' split
  all_goals simp

@[simp] theorem State.traceLease_core (s : State) : (s.traceLease).core = s.core := by simp [State.traceLease]

@[simp] theorem State.writeLease_core (s : State) (src : Source) (v : Nat) :
    (s.writeLease src v).core = s.core := by simp [State.writeLease]

@[simp] theorem execLeaseWrite_core? (src : Source) (value : BitVec 64) (s : State) :
    (execLeaseWrite src value s).core? = some s.core := by simp [execLeaseWrite]

@[simp] theorem execLeaseExpire_core? (s : State) : (execLeaseExpire s).core? = some s.core := by
  unfold execLeaseExpire
  refine whenLive_core? _ _ _ fun t => ?_
  dsimp only
  split <;> simp

@[simp] theorem State.writePwrCtrl_core (s : State) (v : Nat) :
    (s.writePwrCtrl v).core = s.core := by simp [State.writePwrCtrl]

@[simp] theorem State.clearPhases_core (s : State) (mask : Nat) : (s.clearPhases mask).core = s.core := (rfl)

@[simp] theorem execPhaseClear_core? (value : BitVec 32) (s : State) :
    (execPhaseClear value s).core? = some s.core := by simp [execPhaseClear]

@[simp] theorem State.clampOn_core (s : State) : (s.clampOn).core = s.core := by simp [State.clampOn]

@[simp] theorem State.allToOp0_core (s : State) : (s.allToOp0).core = s.core := by simp [State.allToOp0]

@[simp] theorem execSpillAssert_core? (s : State) :
    (execSpillAssert s).core? = some s.core := by simp [execSpillAssert]

@[simp] theorem State.clampOff_core (s : State) : (s.clampOff).core = s.core := by simp [State.clampOff]

@[simp] theorem execSpillRelease_core? (s : State) :
    (execSpillRelease s).core? = some s.core := by simp [execSpillRelease]

@[simp] theorem execSpillStuck_core? (s : State) : (execSpillStuck s).core? = some s.core := by simp [execSpillStuck]

@[simp] theorem State.paceSendOn_core (s : State) (w : PaceWord) (not_ : Option Nat) :
    (s.paceSendOn w not_).core = s.core := (rfl)

@[simp] theorem State.keepPace_core (s : State) (w : PaceWord) : (s.keepPace w).core = s.core := (rfl)

@[simp] theorem State.pacePrepare_core (s : State) (f : Nat) :
    (s.pacePrepare f).core = s.core := by simp [State.pacePrepare]

@[simp] theorem execPaceSend_core? (s : State) : (execPaceSend s).core? = some s.core := by simp [execPaceSend]

@[simp] theorem execPaceWordReceive_core? (port : BitVec 3) (word : BitVec 128) (s : State) :
    (execPaceWordReceive port word s).core? = some s.core := by
  unfold execPaceWordReceive
  refine whenLive_core? _ _ _ fun t => ?_
  dsimp only
  repeat' split
  all_goals simp

@[simp] theorem State.paceAbsence_core (s : State) (key d : Nat) :
    (s.paceAbsence key d).core = s.core := by simp [State.paceAbsence]

@[simp] theorem State.paceCluster_core (s : State) (c f : Nat) : (s.paceCluster c f).1.core = s.core := by
  unfold State.paceCluster
  dsimp only
  repeat' split
  all_goals simp

@[simp] theorem execPaceApply_core? (s : State) : (execPaceApply s).core? = some s.core := by
  unfold execPaceApply
  refine whenTow_core? _ _ fun t => congrArg some ?_
  dsimp only
  split
  · rfl
  · split
    · simp
    · next f _ =>
      have hfold (l : List Nat) (r : State) : (l.foldl (fun (a : State × Bool) c =>
          ((a.1.paceCluster c (25 * f)).1, a.2 || (a.1.paceCluster c (25 * f)).2)) (r, false)).1.core = r.core := by
        refine foldl_fst_core _ (fun a c => ?_) _ _
        exact State.paceCluster_core ..
      split <;> simp [hfold]

/-! ## The Keeper -/

@[simp] theorem State.mbPut_core (s : State) (m o n v : Nat) :
    (s.mbPut m o n v).core = s.core := by simp [State.mbPut]

@[simp] theorem State.applyEntry_core (s : State) (e : Nat × Nat × Nat × Nat) : (s.applyEntry e).core = s.core := by
  unfold State.applyEntry
  split <;> simp

@[simp] theorem State.applyEntries_core (s : State) (l : List (Nat × Nat × Nat × Nat)) :
    (s.applyEntries l).core = s.core := by simp [State.applyEntries]

@[simp] theorem State.swapsOn_core (s : State) (l : List (Nat × Nat × Nat × Nat)) :
    (s.swapsOn l).core = s.core := (rfl)

@[simp] theorem State.freshSeal_core (s : State) (p : Nat) : (s.freshSeal p).core = s.core := (rfl)

@[simp] theorem State.countSlots_core (s : State) : (s.countSlots).core = s.core := (rfl)

@[simp] theorem State.erasePart_core (s : State) (p : Nat) : (s.erasePart p).core = s.core := (rfl)

@[simp] theorem State.partKeys_core (s old : State) : (s.partKeys old).core = s.core := by simp [State.partKeys]

@[simp] theorem State.debugChanged_core (s old : State) :
    (s.debugChanged old).core = s.core := by simp [State.debugChanged]

@[simp] theorem State.commitEnds_core (s : State) (m : Nat) (p : Proposal) (result : Nat) :
    (s.commitEnds m p result).core = s.core := by simp [State.commitEnds]

@[simp] theorem State.kNonce_core (s : State) (m : Nat) : (s.kNonce m).core = s.core := by simp [State.kNonce]

@[simp] theorem State.kWithdraw_core (s : State) (m : Nat) :
    (s.kWithdraw m).core = s.core := by simp [State.kWithdraw]

@[simp] theorem State.kQuery_core (s : State) (m : Nat) : (s.kQuery m).core = s.core := by
  unfold State.kQuery
  split <;> simp

@[simp] theorem State.kBundle_core (s : State) (m : Nat) : (s.kBundle m).core = s.core := by simp [State.kBundle]

@[simp] theorem State.keyRefused_core (s : State) (m detail : Nat) :
    (s.keyRefused m detail).core = s.core := by simp [State.keyRefused]

@[simp] theorem State.kKeyLoad_core (s : State) (m : Nat) (sigOk tagOk : Bool) :
    (s.kKeyLoad m sigOk tagOk).core = s.core := by
  have hrefused (t : State) (d : Nat) : SameCore t (t.keyRefused m d) := State.keyRefused_core ..
  have hfetch (t : State) (c pa d : Nat) : SameCore t ((t.refusedRec c none pa).keyRefused m d).tookFree :=
    .trans (State.tookFree_core _) (.trans (hrefused ..) (State.refusedRec_core ..))
  have hdone (t : State) (slot : Nat) : SameCore t ((t.mbPut m 0 4 slot).mbDone m kDone) :=
    .trans (State.mbDone_core ..) (State.mbPut_core ..)
  have hkeeper (t : State) (k : Keeper) (keys : List (Nat × Nat × Nat)) :
      SameCore t { t with keeper := k, modelKeys := keys } := rfl
  have hcount (t : State) : SameCore t t.tookFree.countSlots := State.countSlots_core ..
  change SameCore s _
  rw [show State.kKeyLoad = _ from by delta State.kKeyLoad; rfl]
  extract_lets +onlyGivenNames pa cid
  split
  · extract_lets +onlyGivenNames d
    exact hfetch ..
  · extract_lets +onlyGivenNames raw p id detail
    split
    · exact hrefused ..
    · extract_lets +onlyGivenNames key keys
      split
      · extract_lets +onlyGivenNames k
        exact .trans (hdone ..) (hkeeper ..)
      · extract_lets +onlyGivenNames free
        split
        · exact hrefused ..
        · extract_lets +onlyGivenNames slot k s'
          exact .trans (hdone ..) (.trans (hcount _) (hkeeper ..))

@[simp] theorem State.kKeyDrop_core (s : State) (m : Nat) : (s.kKeyDrop m).core = s.core := by simp [State.kKeyDrop]

@[simp] theorem execLockoutEnd_core? (s : State) : (execLockoutEnd s).core? = some s.core := by
  unfold execLockoutEnd
  refine whenLive_core? _ _ _ fun t => ?_
  dsimp only
  split <;> simp

/-! ## Debug -/

@[simp] theorem State.dbgResult_core (s : State) (r : Nat) : (s.dbgResult r).core = s.core := (rfl)

@[simp] theorem State.dbgHalt_core (s : State) (t : Nat) : (s.dbgHalt t).core = s.core := by simp [State.dbgHalt]

@[simp] theorem State.dbgResume_core (s : State) (t : Nat) :
    (s.dbgResume t).core = s.core := by simp [State.dbgResume]

@[simp] theorem State.dbgStep_core (s : State) (t : Nat) : (s.dbgStep t).core = s.core := by simp [State.dbgStep]

@[simp] theorem State.dbgRead_core (s : State) (t : Nat) : (s.dbgRead t).core = s.core := by simp [State.dbgRead]

@[simp] theorem execBreakpoint_core? (tile : BitVec 6) (s : State) :
    (execBreakpoint tile s).core? = some s.core := by simp [execBreakpoint]

/-! ## Stoppages -/

@[simp] theorem State.reopenUnit_core (s : State) (x : StopCmd) : (s.reopenUnit x).core = s.core := by
  unfold State.reopenUnit
  split <;> simp

@[simp] theorem execLinkStopDrainExpire_core? (s : State) : (execLinkStopDrainExpire s).core? = some s.core := by
  unfold execLinkStopDrainExpire
  split <;> simp

@[simp] theorem execRoute_core? (s : State) : (execRoute s).core? = some s.core := by
  unfold execRoute
  split <;> simp

/-! ## Pins and temperature -/

@[simp] theorem State.sampleTemp_core (s : State) (k : Nat) :
    (s.sampleTemp k).core = s.core := by simp [State.sampleTemp]

@[simp] theorem State.throttle_core (s : State) (t : Nat) : (s.throttle t).core = s.core := by simp [State.throttle]

@[simp] theorem execThermalWaitEnd_core? (s : State) :
    (execThermalWaitEnd s).core? = some s.core := by simp [execThermalWaitEnd]

@[simp] theorem State.setDiode_core (s : State) (v : Nat) : (s.setDiode v).core = s.core := by simp [State.setDiode]

@[simp] theorem execMgmtBusClear_core? (scl freed : Bool) (s : State) :
    (execMgmtBusClear scl freed s).core? = some s.core := by simp [execMgmtBusClear]

@[simp] theorem execMgmtStuckClear_core? (s : State) :
    (execMgmtStuckClear s).core? = some s.core := by simp [execMgmtStuckClear]

@[simp] theorem execOutputFight_core? (alarm : Bool) (s : State) :
    (execOutputFight alarm s).core? = some s.core := by simp [execOutputFight]

@[simp] theorem execEntdaa_core? (addr : BitVec 7) (s : State) :
    (execEntdaa addr s).core? = some s.core := by simp [execEntdaa]

@[simp] theorem execSetdasa_core? (static addr : BitVec 7) (s : State) :
    (execSetdasa static addr s).core? = some s.core := by simp [execSetdasa]

@[simp] theorem execRstdaa_core? (s : State) : (execRstdaa s).core? = some s.core := by simp [execRstdaa]

@[simp] theorem State.jtagIr_core (s : State) (ir out : Nat) : (s.jtagIr ir out).core = s.core := (rfl)

@[simp] theorem execBypass_core? (s : State) : (execBypass s).core? = some s.core := (rfl)

@[simp] theorem execIdcode_core? (s : State) : (execIdcode s).core? = some s.core := (rfl)

@[simp] theorem execSamplePreload_core? (cells : BitVec 256) (s : State) :
    (execSamplePreload cells s).core? = some s.core := (rfl)

@[simp] theorem execExtest_core? (s : State) : (execExtest s).core? = some s.core := (rfl)

/-! ## Register writes -/

@[simp] theorem State.writeField_core (s : State) (o : Nat) (p : Part) (old v : Nat) (f : FieldDesc) :
    (s.writeField o p old v f).core = s.core := by
  unfold State.writeField
  repeat' split
  all_goals simp

@[simp] theorem State.writePlain_core (s : State) (d : RegDesc) (o : Nat) (p : Part) (v : Nat) :
    (s.writePlain d o p v).core = s.core := by simp [State.writePlain]

@[simp] theorem State.clearMask_core (s : State) (d : RegDesc) (o mask : Nat) :
    (s.clearMask d o mask).core = s.core := by simp [State.clearMask]

@[simp] theorem State.clearProbe_core (s : State) (n : Nat) :
    (s.clearProbe n).core = s.core := by simp [State.clearProbe]

theorem State.clearOnWrite_core {s t : State} {d : RegDesc} {o : Nat} (h : s.clearOnWrite d o = some t) :
    t.core = s.core := by
  unfold State.clearOnWrite at h
  dsimp only at h
  repeat' split at h
  all_goals cases h
  all_goals simp

@[simp] theorem State.bankWrite_core (s : State) (d : RegDesc) (o bank : Nat) (p : Part) (v : Nat) :
    (s.bankWrite d o bank p v).core = s.core := by simp [State.bankWrite]

/-- A choice of results leaves the core alone where each of the two does. -/
theorem core_of_ite_some {c : Prop} [Decidable c] {a t : State} {o : Option State} {f : Core} (ha : a.core = f)
    (ho : o = some t → t.core = f) (h : (if c then some a else o) = some t) :
    t.core = f := by
  split at h
  · cases h
    exact ha
  · exact ho h

@[simp] theorem State.wroteFx_core (s old : State) (d : RegDesc) (o : Nat) :
    (s.wroteFx old d o).core = s.core := by simp [State.wroteFx]

@[simp] theorem execBadWidthAccess_core? (write : Bool) (offset : BitVec 21) (size : BitVec 4) (s : State) :
    (execBadWidthAccess write offset size s).core? = some s.core := by simp [execBadWidthAccess]

/-! ## The management port and JTAG -/

@[simp] theorem State.mgmtAnswer_core (s : State) (status : Nat) (data : List Byte) :
    (s.mgmtAnswer status data).core = s.core := (rfl)

@[simp] theorem State.mgmtRead_core (s : State) (o n len : Nat) :
    (s.mgmtRead o n len).core = s.core := by simp [State.mgmtRead]

@[simp] theorem execRead32_core? (offset : BitVec 32) (len : BitVec 8) (s : State) :
    (execRead32 offset len s).core? = some s.core := by simp [execRead32]

@[simp] theorem execRead64_core? (offset : BitVec 32) (len : BitVec 8) (s : State) :
    (execRead64 offset len s).core? = some s.core := by simp [execRead64]

@[simp] theorem execMgmtStatusRead_core? (s : State) :
    (execMgmtStatusRead s).core? = some s.core := by simp [execMgmtStatusRead]

@[simp] theorem State.leaveCopies_core (s : State) (n : Nat) (p : Nat → Bool) :
    (s.leaveCopies n p).core = s.core := (rfl)

@[simp] theorem State.holdCopies_core (s : State) (n : Nat) :
    (s.holdCopies n).core = s.core := by simp [State.holdCopies]

@[simp] theorem State.shareTick_core (s : State) : (s.shareTick).core = s.core := (rfl)

@[simp] theorem State.sampleBw_core (s : State) : (s.sampleBw).core = s.core := by simp [State.sampleBw]

@[simp] theorem State.sampleRails_core (s : State) : (s.sampleRails).core = s.core := by simp [State.sampleRails]

@[simp] theorem State.sampleDue_core (s : State) (old : Nat) :
    (s.sampleDue old).core = s.core := by simp [State.sampleDue]

/-! ## Tensor instructions -/

@[simp] theorem State.unitFx_core (s : State) (c unit : Nat) (reads writes : List (Nat × Nat)) (regs : List Nat)
    (e : Option Exc) :
    (s.unitFx c unit reads writes regs e).state.core = s.core := by
  unfold State.unitFx
  split <;> simp

@[simp] theorem State.unitOp_core (s : State) (c unit : Nat) (reads writes : List (Nat × Nat)) (srcs dsts : List Nat)
    (e : List (Option Exc)) (fx : State → State × Option Exc) (h : KeepsCore fun t => (fx t).1) :
    (s.unitOp c unit reads writes srcs dsts e fx).state.core = s.core := by
  unfold State.unitOp
  repeat' split
  · rfl
  · simp
  · exact (State.unitFx_core _ _ _ _ _ _ _).trans (h s)

@[simp] theorem State.mmaSteps_core (s : State) (c k : Nat) (a b : Desc) (fp neg : Bool) (j n : Nat) :
    (s.mmaSteps c k a b fp neg j n).1.core = s.core := by
  induction n generalizing s j with
  | zero => rfl
  | succ n ih =>
    unfold State.mmaSteps
    dsimp only
    split
    · rfl
    · exact (ih _ _).trans (by simp)

@[simp] theorem State.countRead_core (s : State) (c : Nat) (ls : List Nat) (e : Option Exc) :
    (s.countRead c ls e).1.core = s.core := by simp [State.countRead]

@[simp] theorem State.reduce_core? (s : State) (u : BitVec 7) (op : RedOp) (acc : BitVec 3) (ta tb aux : BitVec 4)
    (axis : BitVec 2) (dst : BitVec 5) : (s.reduce u op acc ta tb aux axis dst).core? = some s.core :=
  next_issue_core? fun t => State.unitOp_core _ _ _ _ _ _ _ _ _ fun r => by
    dsimp only
    repeat' split
    all_goals simp

/-! ## Vector instructions -/

@[simp] theorem State.vec_core (s : State) (u : BitVec 7) (reads writes : List (Nat × Nat)) (srcs dsts : List Nat)
    (es : List (Option Exc)) (fx : State → State × Option Exc) (h : KeepsCore fun t => (fx t).1) :
    (s.vec u reads writes srcs dsts es fx).state.core = s.core := State.unitOp_core _ _ _ _ _ _ _ _ _ h

@[simp] theorem State.issue_vec_core (s : State) (u : BitVec 7) (reads writes : State → List (Nat × Nat))
    (srcs dsts : State → List Nat) (es : State → List (Option Exc)) (fx : State → State → State × Option Exc)
    (h : ∀ t, KeepsCore fun r => (fx t r).1) :
    (s.issue (coreOf u) false fun t => t.vec u (reads t) (writes t) (srcs t) (dsts t) (es t) (fx t)).core = s.core :=
  s.issue_core _ _ _ fun t => t.vec_core u _ _ _ _ _ _ (h t)

@[simp] theorem State.vecInt_core? (s : State) (u : BitVec 7) (vd vs1 vs2 : BitVec 5) (pd : BitVec 3) (scalar : Bool)
    (es : List (Option Exc)) (f : Word → Word → Word → Word) :
    (s.vecInt u vd vs1 vs2 pd scalar es f).core? = some s.core := by simp [State.vecInt]

@[simp] theorem State.vecFp_core? (s : State) (u : BitVec 7) (vd vs1 vs2 : BitVec 5) (pd : BitVec 3) (scalar : Bool)
    (es : List (Option Exc)) (nanIn : Word → Word → Word → Bool) (f : Word → Word → Word → Word) :
    (s.vecFp u vd vs1 vs2 pd scalar es nanIn f).core? = some s.core :=
  next_issue_core? fun t => State.vec_core _ _ _ _ _ _ _ _ fun t => by
    dsimp only
    split <;> simp

@[simp] theorem State.vecCmp_core? (s : State) (u : BitVec 7) (vd vs1 vs2 : BitVec 5) (pd : BitVec 3) (scalar : Bool)
    (f : Word → Word → Bool) :
    (s.vecCmp u vd vs1 vs2 pd scalar f).core? = some s.core := by simp [State.vecCmp]

@[simp] theorem execVperm_core? (u : BitVec 7) (vd vs1 vs2 : BitVec 5) (pd : BitVec 3) (s : State) :
    (execVperm u vd vs1 vs2 pd s).core? = some s.core := by simp [execVperm]

@[simp] theorem execVrot_core? (u : BitVec 7) (vd vs1 vs2 : BitVec 5) (pd : BitVec 3) (s : State) :
    (execVrot u vd vs1 vs2 pd s).core? = some s.core := by simp [execVrot]

@[simp] theorem execVred_core? (u : BitVec 7) (vd vs1 vs2 : BitVec 5) (pd : BitVec 3) (s : State) :
    (execVred u vd vs1 vs2 pd s).core? = some s.core :=
  next_issue_core? fun t => State.vec_core _ _ _ _ _ _ _ _ fun t => by
    dsimp only
    split
    · rfl
    · split <;> simp

@[simp] theorem State.predOp_core? (s : State) (u : BitVec 7) (vd vs1 vs2 : BitVec 5) (pd : BitVec 3)
    (f : Bool → Bool → Bool) :
    (s.predOp u vd vs1 vs2 pd f).core? = some s.core := by simp [State.predOp]

@[simp] theorem execPset_core? (u : BitVec 7) (vd vs1 vs2 : BitVec 5) (pd : BitVec 3) (s : State) :
    (execPset u vd vs1 vs2 pd s).core? = some s.core := by simp [execPset]

@[simp] theorem execPget_core? (u : BitVec 7) (vd vs1 vs2 : BitVec 5) (pd : BitVec 3) (s : State) :
    (execPget u vd vs1 vs2 pd s).core? = some s.core := by simp [execPget]

@[simp] theorem execVbcast_core? (u : BitVec 7) (vd vs1 vs2 : BitVec 5) (pd : BitVec 3) (s : State) :
    (execVbcast u vd vs1 vs2 pd s).core? = some s.core := by simp [execVbcast]

@[simp] theorem execVext_core? (u : BitVec 7) (vd vs1 vs2 : BitVec 5) (pd : BitVec 3) (s : State) :
    (execVext u vd vs1 vs2 pd s).core? = some s.core := by simp [execVext]

@[simp] theorem execVins_core? (u : BitVec 7) (vd vs1 vs2 : BitVec 5) (pd : BitVec 3) (s : State) :
    (execVins u vd vs1 vs2 pd s).core? = some s.core := by simp [execVins]

@[simp] theorem execAccrd_core? (u : BitVec 7) (vd vs1 vs2 : BitVec 5) (pd : BitVec 3) (s : State) :
    (execAccrd u vd vs1 vs2 pd s).core? = some s.core := by simp [execAccrd]

@[simp] theorem execAccwr_core? (u : BitVec 7) (vd vs1 vs2 : BitVec 5) (pd : BitVec 3) (s : State) :
    (execAccwr u vd vs1 vs2 pd s).core? = some s.core := by simp [execAccwr]

@[simp] theorem execVmov_core? (u : BitVec 7) (vd vs1 vs2 : BitVec 5) (pd : BitVec 3) (s : State) :
    (execVmov u vd vs1 vs2 pd s).core? = some s.core := by simp [execVmov]

@[simp] theorem execTileException_core? (tile : BitVec 6) (unit : BitVec 2) (word after : BitVec 32) (s : State) :
    (execTileException tile unit word after s).core? = some s.core := by
  unfold execTileException
  dsimp only
  split
  · split
    · simp
    · exact next_issue_core? fun t => rfl
  · simp

/-- What the core `d` has of `c`: the count, the queue and the step that waits, and the canonical form of each memory. -/
structure Core.Kept (c d : Core) : Prop where
  gtc : d.gtc = c.gtc
  pending : d.pending = c.pending
  stepBy : d.stepBy = c.stepBy
  mem : Memory.wf c.mem = true → Memory.wf d.mem = true
  log : Memory.wf c.log = true → Memory.wf d.log = true
  scratch : Memory.wf c.scratch = true → Memory.wf d.scratch = true
  sram : Memory.wf c.sram = true → Memory.wf d.sram = true
  stores : (∀ k, Memory.wf (c.stores k) = true) → ∀ k, Memory.wf (d.stores k) = true

theorem Core.Kept.refl (c : Core) : c.Kept c := ⟨rfl, rfl, rfl, id, id, id, id, id⟩

theorem Core.Kept.trans {b c d : Core} (h : b.Kept c) (g : c.Kept d) : b.Kept d :=
  ⟨g.gtc.trans h.gtc, g.pending.trans h.pending, g.stepBy.trans h.stepBy, g.mem ∘ h.mem, g.log ∘ h.log,
    g.scratch ∘ h.scratch, g.sram ∘ h.sram, g.stores ∘ h.stores⟩

/-- A state with the same core keeps what the first one keeps. -/
theorem Core.Kept.of {κ : Core} {s t : State} (h : κ.Kept s.core) (e : t.core = s.core) : κ.Kept t.core := e ▸ h

/-- The core of `t` keeps `κ`.  A definition of its own, as `SameCore` is: the states of a long chain are then compared as
states. -/
def State.Keeps (κ : Core) (t : State) : Prop := κ.Kept t.core

/-- The command ends in a state whose core keeps `κ`. -/
def Out.Kept (κ : Core) (o : Out) : Prop := ∃ t, o = .next t ∧ κ.Kept t.core

@[simp] theorem Out.kept_next {κ : Core} {t : State} : Out.Kept κ (.next t) ↔ κ.Kept t.core := by
  simp [Out.Kept]

@[simp] theorem Core.kept_ite {κ d e : Core} {p : Prop} [Decidable p] :
    κ.Kept (if p then d else e) ↔ if p then κ.Kept d else κ.Kept e := by
  split <;> rfl

@[simp] theorem Out.kept_ite {κ : Core} {p : Prop} [Decidable p] {a b : Out} :
    Out.Kept κ (if p then a else b) ↔ if p then a.Kept κ else b.Kept κ := by
  split <;> rfl

/-- A command that leaves the core as it is keeps it. -/
theorem Out.kept_of_core? {κ : Core} {s : State} {o : Out} (h : κ.Kept s.core) (ho : o.core? = some s.core) : o.Kept κ := by
  cases o with
  | next t =>
    have ht : t.core = s.core := Option.some.inj ho
    exact ⟨t, rfl, ht ▸ h⟩
  | fault f => cases ho
  | refused r => cases ho

@[simp] theorem Out.after_kept {κ : Core} {o : Out} {s : State} (h : o.Kept κ) : κ.Kept (o.after s).core := by
  obtain ⟨t, rfl, ht⟩ := h
  exact ht

@[simp] theorem Out.getD_kept {κ : Core} {o : Out} {d : Core} (h : o.Kept κ) : κ.Kept (o.core?.getD d) := by
  obtain ⟨t, rfl, ht⟩ := h
  exact ht

theorem fst_kept {α : Type} {κ : Core} {t : State} {p : State × α} {x : α} (e : p = (t, x)) (h : κ.Kept p.1.core) :
    κ.Kept t.core := by
  rw [e] at h
  exact h

theorem getD_kept {κ : Core} {o : Option State} {d : State} (h : ∀ t, o = some t → κ.Kept t.core) (hd : κ.Kept d.core) :
    κ.Kept (o.getD d).core := by
  cases o with
  | none => exact hd
  | some t => exact h t rfl

theorem foldl_kept {α : Type} {κ : Core} {f : State → α → State} {l : List α} {s : State} (h : κ.Kept s.core)
    (hf : ∀ t a, κ.Kept t.core → κ.Kept (f t a).core) : κ.Kept (l.foldl f s).core := by
  induction l generalizing s with
  | nil => exact h
  | cons a l ih => exact ih (hf s a h)

theorem foldl_fst_kept {α β : Type} {κ : Core} {f : State × β → α → State × β} {l : List α} {p : State × β}
    (h : κ.Kept p.1.core) (hf : ∀ p a, κ.Kept p.1.core → κ.Kept (f p a).1.core) : κ.Kept (l.foldl f p).1.core := by
  induction l generalizing p with
  | nil => exact h
  | cons a l ih => exact ih (hf p a h)

theorem whenLive_kept {κ : Core} {d : Nat} {s : State} {f : State → Out} (h : κ.Kept s.core)
    (hf : ∀ t, κ.Kept t.core → (f t).Kept κ) : (whenLive d s f).Kept κ := by
  unfold whenLive
  split
  · exact hf s h
  · exact Out.kept_next.2 h

theorem whenTow_kept {κ : Core} {s : State} {f : State → Out} (h : κ.Kept s.core)
    (hf : ∀ t, κ.Kept t.core → (f t).Kept κ) : (whenTow s f).Kept κ := whenLive_kept h hf

theorem whenLink_kept {κ : Core} {s : State} {f : State → Out} (h : κ.Kept s.core)
    (hf : ∀ t, κ.Kept t.core → (f t).Kept κ) : (whenLink s f).Kept κ := by
  unfold whenLink
  split
  · exact whenLive_kept h hf
  · exact Out.kept_next.2 h

theorem whenN7_kept {κ : Core} {s : State} {f : State → State} (h : κ.Kept s.core)
    (hf : ∀ t, κ.Kept t.core → κ.Kept (f t).core) : (whenN7 s f).Kept κ := by
  unfold whenN7
  split
  · exact Out.kept_next.2 h
  · exact Out.kept_next.2 (hf s h)

theorem objCommand_kept {κ : Core} {s : State} {f : State → State} (h : κ.Kept s.core)
    (hf : ∀ t, κ.Kept t.core → κ.Kept (f t).core) : (objCommand s f).Kept κ :=
  whenLive_kept h fun t h => by
    split
    · simp [h]
    · simp [hf _ h]

theorem State.gateAct_kept {κ : Core} {s : State} {d rank : Nat} {act : State → State} (h : κ.Kept s.core)
    (hact : ∀ t, κ.Kept t.core → κ.Kept (act t).core) : κ.Kept (s.gateAct d rank act).core := by
  unfold State.gateAct
  dsimp only
  split
  · simp [h]
  · exact hact _ (by simp [h])

/-! ## Tile stores -/

theorem Tile.wf_wr {t : Tile} (a : Nat) (b : Byte) (h : Memory.wf t.store = true) : Memory.wf (t.wr a b).store = true := by
  unfold Tile.wr
  split
  · exact Memory.wf_put _ _ _ h
  · exact Memory.wf_put _ _ _ (Memory.wf_wipe _ _ _ h)

theorem Tile.wf_wrList {t : Tile} (a : Nat) (bs : List Byte) (h : Memory.wf t.store = true) :
    Memory.wf (t.wrList a bs).store = true := by
  induction bs generalizing t a with
  | nil => exact h
  | cons b bs ih => exact ih _ (Tile.wf_wr a b h)

theorem Tile.wf_wrLe {t : Tile} (a n v : Nat) (h : Memory.wf t.store = true) : Memory.wf (t.wrLe a n v).store = true :=
  Tile.wf_wrList a _ h

theorem Tile.wf_foldl {α : Type} {f : Tile → α → Tile} {l : List α} {t : Tile} (h : Memory.wf t.store = true)
    (hf : ∀ t a, Memory.wf t.store = true → Memory.wf (f t a).store = true) : Memory.wf (l.foldl f t).store = true := by
  induction l generalizing t with
  | nil => exact h
  | cons a l ih => exact ih (hf t a h)

theorem Tile.wf_loadBanks (t : Tile) (banks : Nat) (bank : Nat → List Byte) : Memory.wf (t.loadBanks banks bank).store = true :=
  Tile.wf_foldl rfl fun t b h => by
    split
    · exact Tile.wf_wrList _ _ h
    · exact h

theorem Tile.wf_loadImage (t : Tile) (regs : Bool) (banks : Nat) (img : List Byte) :
    Memory.wf (t.loadImage regs banks img).store = true := by
  unfold Tile.loadImage
  dsimp only
  exact Tile.wf_loadBanks _ _ _

theorem Tile.wf_dbgWrite {t : Tile} (store : Bool) (o v : Nat) (h : Memory.wf t.store = true) :
    Memory.wf (t.dbgWrite store o v).store = true := by
  unfold Tile.dbgWrite
  dsimp only
  split
  · exact Tile.wf_wrLe _ _ _ h
  · split <;> exact h

theorem State.setTile_kept {κ : Core} {s : State} (n : Nat) (x : Tile) (hk : κ.Kept s.core)
    (hx : Memory.wf (s.tile n).store = true → Memory.wf x.store = true) : κ.Kept (s.setTile n x).core :=
  hk.trans ⟨rfl, rfl, rfl, id, id, id, id, fun h k => by
    simp only [State.core, State.tile_setTile]
    split
    · exact hx (h n)
    · exact h k⟩

theorem State.updTile_kept {κ : Core} {s : State} (n : Nat) {f : Tile → Tile} (hk : κ.Kept s.core)
    (hf : ∀ x, Memory.wf x.store = true → Memory.wf (f x).store = true) : κ.Kept (s.updTile n f).core :=
  State.setTile_kept n _ hk (hf _)

theorem State.setSram_kept {κ : Core} {s : State} {m : Cells} (hk : κ.Kept s.core)
    (hm : Memory.wf s.island.sram = true → Memory.wf m = true) : κ.Kept (s.setSram m).core :=
  hk.trans ⟨rfl, rfl, rfl, id, id, id, hm, id⟩

/-! ## Instructions whose effect keeps the core -/

theorem State.issue_kept {κ : Core} {s : State} (u : Nat) (ext : Bool) {fx : State → Fx} (hk : κ.Kept s.core)
    (hfx : ∀ t, κ.Kept t.core → κ.Kept (fx t).state.core) : κ.Kept (s.issue u ext fx).core := by
  unfold State.issue
  dsimp only
  repeat' split
  all_goals simp [hk, hfx]

theorem next_issue_kept {κ : Core} {s : State} {u : Nat} {ext : Bool} {fx : State → Fx} (hk : κ.Kept s.core)
    (hfx : ∀ t, κ.Kept t.core → κ.Kept (fx t).state.core) : Out.Kept κ (.next (s.issue u ext fx)) :=
  Out.kept_next.2 (State.issue_kept u ext hk hfx)

theorem State.checked_kept {κ : Core} {s : State} {u : Nat} {regs : List Nat} {ranges : List (Nat × Nat)}
    {e : List (Option Exc)} {fx : State → Fx} (hk : κ.Kept s.core) (hfx : κ.Kept (fx s).state.core) :
    κ.Kept (s.checked u regs ranges e fx).state.core := by
  unfold State.checked
  repeat' split
  · exact hk
  · exact hk
  · exact hfx

theorem State.unitOp_kept {κ : Core} {s : State} {c unit : Nat} {reads writes : List (Nat × Nat)} {srcs dsts : List Nat}
    {e : List (Option Exc)} {fx : State → State × Option Exc} (hk : κ.Kept s.core) (hfx : κ.Kept (fx s).1.core) :
    κ.Kept (s.unitOp c unit reads writes srcs dsts e fx).state.core := by
  unfold State.unitOp
  repeat' split
  · exact hk
  · simp [hk]
  · simp [hfx]

theorem State.vec_kept {κ : Core} {s : State} {u : BitVec 7} {reads writes : List (Nat × Nat)} {srcs dsts : List Nat}
    {e : List (Option Exc)} {fx : State → State × Option Exc} (hk : κ.Kept s.core) (hfx : κ.Kept (fx s).1.core) :
    κ.Kept (s.vec u reads writes srcs dsts e fx).state.core := State.unitOp_kept hk hfx

@[simp] theorem State.rekeyLine_kept {κ : Core} {s : State} (pa : Nat) (hk : κ.Kept s.core) :
    κ.Kept (s.rekeyLine pa).core := by
  have hput (m : Cells) (tags : Tab Nat) (hm : Memory.wf s.mem = true → Memory.wf m = true) :
      κ.Kept ({ s with mem := m, sealTag := tags } : State).core := hk.trans ⟨rfl, rfl, rfl, hm, id, id, id, id⟩
  unfold State.rekeyLine
  dsimp only
  split
  · exact hk
  · generalize Config.recipher _ _ _ _ = v
    exact hput _ _ (Memory.wf_putLe _ _ _ _)

@[simp] theorem State.physPut_kept {κ : Core} {s : State} (pa : Nat) (b : Byte) (hk : κ.Kept s.core) :
    κ.Kept (s.physPut pa b).core := by
  have hm := s.physPut_mem_wf pa b
  have hs := s.physPut_scratch_wf pa b
  obtain ⟨m, t, x, l, e⟩ := s.physPut_shape pa b
  rw [e] at hm hs ⊢
  exact hk.trans ⟨rfl, rfl, rfl, hm, id, hs, id, id⟩

@[simp] theorem State.physPutList_kept {κ : Core} {s : State} (pa : Nat) (bs : List Byte) (hk : κ.Kept s.core) :
    κ.Kept (s.physPutList pa bs).core := by
  induction bs generalizing s pa with
  | nil => exact hk
  | cons b bs ih => exact ih _ (State.physPut_kept pa b hk)

@[simp] theorem State.physPutLe_kept {κ : Core} {s : State} (pa n v : Nat) (hk : κ.Kept s.core) :
    κ.Kept (s.physPutLe pa n v).core := by simp [hk, State.physPutLe]

theorem State.ownWrite_kept {κ : Core} {s : State} {t : State} {cid pa : Nat} {bs : List Byte}
    (h : s.ownWrite cid pa bs = some t) (hk : κ.Kept s.core) : κ.Kept t.core := by
  unfold State.ownWrite at h
  split at h
  · cases h
    simp [hk]
  · cases h

@[simp] theorem State.ownWrite_getD_kept {κ : Core} {s : State} (d : State) (cid pa : Nat) (bs : List Byte)
    (hk : κ.Kept s.core) (hd : κ.Kept d.core) : κ.Kept ((s.ownWrite cid pa bs).getD d).core :=
  getD_kept (fun _ h => State.ownWrite_kept h hk) hd

@[simp] theorem State.putRefs_kept {κ : Core} {s : State} (h v : Nat) (hk : κ.Kept s.core) :
    κ.Kept (s.putRefs h v).core := by
  unfold State.putRefs
  split
  · next hw => exact State.ownWrite_kept hw hk
  · exact hk

@[simp] theorem State.takeRef_kept {κ : Core} {s : State} (cid kind off h : Nat) (bad : Bool) (hk : κ.Kept s.core) :
    κ.Kept (s.takeRef cid kind off h bad).1.core := by
  unfold State.takeRef
  dsimp only
  repeat' split
  all_goals simp [hk]

@[simp] theorem State.relRef_kept {κ : Core} {s : State} (r : Ref) (bad : Bool) (hk : κ.Kept s.core) :
    κ.Kept (s.relRef r bad).1.core := by
  unfold State.relRef
  dsimp only
  split
  · simp [hk]
  · split
    · simp [hk]
    · split
      · exact hk
      · split
        · next hw => exact State.ownWrite_kept hw hk
        · exact hk

@[simp] theorem State.settle_kept {κ : Core} {s : State} (n : Nat) (ws : List ObjWork) (hk : κ.Kept s.core) :
    κ.Kept (State.settle n ws s).core := by
  fun_induction State.settle n ws s with
  | case1 => exact hk
  | case2 => exact hk
  | case3 n r bad ws s t h ih => exact ih (fst_kept h (State.relRef_kept r bad hk))
  | case4 n r bad ws s t event h ih =>
    have ht := fst_kept h (State.relRef_kept r bad hk)
    exact ih (by split <;> simp [ht])
  | case5 n r bad ws s t h ih => exact ih (by simp [fst_kept h (State.relRef_kept r bad hk)])
  | case6 n r bad ws s t o h id ih => exact ih (by simp [fst_kept h (State.relRef_kept r bad hk)])
  | case7 n cid code cause byCmd ws s t rs h ih => exact ih (fst_kept h (by simp [hk]))

@[simp] theorem State.release_kept {κ : Core} {s : State} (rs : List Ref) (hk : κ.Kept s.core) :
    κ.Kept (s.release rs).core := by simp [hk, State.release]

@[simp] theorem State.releaseBad_kept {κ : Core} {s : State} (rs : List Ref) (bad : Option Nat) (hk : κ.Kept s.core) :
    κ.Kept (s.releaseBad rs bad).core := by simp [hk, State.releaseBad]

@[simp] theorem State.lose_kept {κ : Core} {s : State} (cid code : Nat) (cause : Option Nat) (hk : κ.Kept s.core) :
    κ.Kept (s.lose cid code cause).core := by simp [hk, State.lose]

@[simp] theorem State.loseX_kept {κ : Core} {s : State} (unit src cid : Nat) (qid : Option Nat) (e : XErr)
    (hk : κ.Kept s.core) : κ.Kept (s.loseX unit src cid qid e).core := by simp [hk, State.loseX]

@[simp] theorem State.fence_kept {κ : Core} {s : State} (cid va : Nat) (qid : Option Nat) (u : FenceUp)
    (hk : κ.Kept s.core) : κ.Kept (s.fence cid va qid u).core := by
  unfold State.fence
  repeat' split
  all_goals simp [hk]

@[simp] theorem State.startDrain_kept {κ : Core} {s : State} (cid : Nat) (st : CtxSt) (hk : κ.Kept s.core) :
    κ.Kept (s.startDrain cid st).core := by
  unfold State.startDrain
  dsimp only
  refine State.release_kept _ ?_
  rw [State.dropStaged_core, State.endClaims_core]
  refine foldl_kept (by simp [hk]) fun t q ht => ?_
  rw [State.endSuspended_core, State.endWaiting_core]
  refine foldl_kept ht fun t p ht => ?_
  split
  · refine foldl_kept ht fun t r ht => ?_
    split <;> simp [ht]
  · exact ht

@[simp] theorem execCtxClose_kept {κ : Core} {s : State} (cid : BitVec 16) (hk : κ.Kept s.core) :
    (execCtxClose cid s).Kept κ := by
  unfold execCtxClose
  refine whenLive_kept hk fun t hk => ?_
  dsimp only
  repeat' split
  all_goals simp [hk]

@[simp] theorem execCtxReset_kept {κ : Core} {s : State} (cid : BitVec 16) (hk : κ.Kept s.core) :
    (execCtxReset cid s).Kept κ := by
  unfold execCtxReset
  refine objCommand_kept hk fun t hk => ?_
  dsimp only
  repeat' split
  all_goals simp [hk]

@[simp] theorem execCtxLose_kept {κ : Core} {s : State} (cid : BitVec 16) (hk : κ.Kept s.core) :
    (execCtxLose cid s).Kept κ := by
  unfold execCtxLose
  refine whenLive_kept hk fun t hk => ?_
  dsimp only
  repeat' split
  all_goals simp [hk]

@[simp] theorem State.writeBack_kept {κ : Core} {s : State} (q : Nat) (hk : κ.Kept s.core) :
    κ.Kept (s.writeBack q).core := by
  have hfail (cid pa : Nat) : State.Keeps κ (s.refusedRec cid none pa) := hk.of (State.refusedRec_core ..)
  have hcount {t : State} (cid pa : Nat) (bs : List Byte) (ht : κ.Kept t.core) : State.Keeps κ ((t.ownWrite cid pa bs).getD t) :=
    State.ownWrite_getD_kept _ _ _ _ ht ht
  change State.Keeps κ _
  rw [show State.writeBack = _ from by delta State.writeBack; rfl]
  dsimp only
  split
  · exact hfail _ _
  · next h => exact hcount _ _ _ (State.ownWrite_kept h hk)

@[simp] theorem State.disableQueue_kept {κ : Core} {s : State} (q : Nat) (hk : κ.Kept s.core) :
    κ.Kept (s.disableQueue q).core := by
  unfold State.disableQueue
  dsimp only
  split
  · exact hk
  · refine State.release_kept _ (State.writeBack_kept _ ?_)
    rw [State.endClaims_core]
    have hrest : ∀ (r : State) (d : Disp), ({ r with disp := d } : State).core = r.core := fun _ _ => rfl
    rw [hrest, State.updQueue_core]
    split <;> simp [hk]

@[simp] theorem execQueueDisable_kept {κ : Core} {s : State} (qid : BitVec 16) (hk : κ.Kept s.core) :
    (execQueueDisable qid s).Kept κ := by
  unfold execQueueDisable
  refine objCommand_kept hk fun t hk => ?_
  simp [hk]

@[simp] theorem State.readWaiter_kept {κ : Core} {s : State} (i : Nat) (e : XErr) (hk : κ.Kept s.core) :
    κ.Kept (s.readWaiter i e).core := by
  unfold State.readWaiter
  split <;> simp [hk]

@[simp] theorem State.enterWaiter_kept {κ : Core} {s : State} (i : Nat) (w : Waiter) (hk : κ.Kept s.core) :
    κ.Kept (s.enterWaiter i w).core := by
  unfold State.enterWaiter
  dsimp only
  repeat' split
  all_goals simp [hk]

@[simp] theorem execWaitHost_kept {κ : Core} {s : State} (cid vector : BitVec 16) (hk : κ.Kept s.core) :
    (execWaitHost cid vector s).Kept κ := by
  unfold execWaitHost
  refine whenLive_kept hk fun t hk => ?_
  dsimp only
  repeat' split
  all_goals simp [hk]

@[simp] theorem execWaitPoke_kept {κ : Core} {s : State} (cid : BitVec 16) (hk : κ.Kept s.core) :
    (execWaitPoke cid s).Kept κ := by
  unfold execWaitPoke
  refine whenLive_kept hk fun t hk => ?_
  dsimp only
  repeat' split
  all_goals simp [hk]

@[simp] theorem execDrainEnd_kept {κ : Core} {s : State} (cid : BitVec 16) (hk : κ.Kept s.core) :
    (execDrainEnd cid s).Kept κ := by
  unfold execDrainEnd
  refine whenLive_kept hk fun t ht => ?_
  dsimp only
  have hclose {r : State} (qs : List Nat) (hr : κ.Kept r.core) : κ.Kept (qs.foldl (fun s q => s.disableQueue q) r).core :=
    foldl_kept hr fun r q hr => State.disableQueue_kept q hr
  repeat' split
  all_goals simp [ht, hclose]

@[simp] theorem State.fqWrite_kept {κ : Core} {s : State} (x : Susp) (seq : Nat) (hk : κ.Kept s.core) :
    κ.Kept (s.fqWrite x seq).core := by
  unfold State.fqWrite
  dsimp only
  split
  · simp [hk]
  · next h => simp [hk, State.ownWrite_kept h]

@[simp] theorem State.fqPump_kept {κ : Core} {s : State} (l : List Susp) (hk : κ.Kept s.core) :
    κ.Kept (s.fqPump l).core := by
  induction l generalizing s with
  | nil => exact hk
  | cons x r ih =>
    unfold State.fqPump
    repeat' split
    all_goals simp [hk, ih]

@[simp] theorem State.fqServe_kept {κ : Core} {s : State} (hk : κ.Kept s.core) : κ.Kept (s.fqServe).core := by
  simp [hk, State.fqServe]

@[simp] theorem State.suspend_kept {κ : Core} {s : State} (unit src cid qid index inst va : Nat) (acc : Access)
    (fqUnit : Nat) (e : XErr) (hk : κ.Kept s.core) :
    κ.Kept (s.suspend unit src cid qid index inst va acc fqUnit e).1.core := by simp [hk, State.suspend]

@[simp] theorem State.takeRefs_kept {κ : Core} {s : State} (cid raw : Nat) (bad : Option Nat)
    (hs : List (Nat × Nat × Nat)) (got : List Ref) (hk : κ.Kept s.core) : κ.Kept (s.takeRefs cid raw bad hs got).1.core := by
  induction hs generalizing s got with
  | nil => exact hk
  | cons x hs ih =>
    have href := fun b => State.takeRef_kept cid x.2.1 x.1 (pfld raw x.1 4) b hk
    unfold State.takeRefs
    split
    · next h => exact ih _ (fst_kept h (href _))
    · next h => exact State.release_kept _ (fst_kept h (href _))

@[simp] theorem State.takeFence_kept {κ : Core} {s : State} (cid raw : Nat) (bad : Option Nat) (hk : κ.Kept s.core) :
    κ.Kept (s.takeFence cid raw bad).1.core := by
  unfold State.takeFence
  split
  · split <;> next h => simp [hk, fst_kept h]
  · exact hk

@[simp] theorem State.admitEntry_kept {κ : Core} {s : State} (q cid index raw : Nat) (bad : Option Nat)
    (hk : κ.Kept s.core) : κ.Kept (s.admitEntry q cid index raw bad).1.core := by
  unfold State.admitEntry
  have hrefs := State.takeRefs_kept cid raw bad (packetHandles raw) [] hk
  dsimp only
  split
  · have hfence := fun d => State.takeFence_kept cid raw bad
      (show κ.Kept (s.faultC 0x0B uDSP dspStop d (some cid) (some q) none).core by simp [hk])
    split
    · next h => simp [fst_kept h (hfence _)]
    · next h => split <;> simp [fst_kept h (hfence _)]
  · split
    · next h => split <;> simp [fst_kept h hrefs]
    · next h =>
      split
      · simp [fst_kept h hrefs]
      · split <;> simp [fst_kept h hrefs]

@[simp] theorem State.admitCancelled_kept {κ : Core} {s : State} (cid index raw : Nat) (bad : Option Nat)
    (hk : κ.Kept s.core) : κ.Kept (s.admitCancelled cid index raw bad).1.core := by
  unfold State.admitCancelled
  have hrefs := State.takeRefs_kept cid raw bad (packetHandles raw) [] hk
  dsimp only
  split <;> next h => simp [fst_kept h hrefs]

@[simp] theorem State.stage_kept {κ : Core} {s : State} (q cid : Nat) (hk : κ.Kept s.core) :
    κ.Kept (s.stage q cid).core := by simp [hk, State.stage]

@[simp] theorem State.takeDoorbell_kept {κ : Core} {s : State} (q value : Nat) (hk : κ.Kept s.core) :
    κ.Kept (s.takeDoorbell q value).core := by
  unfold State.takeDoorbell
  split <;> simp [hk]

@[simp] theorem State.ringFailed_kept {κ : Core} {s : State} (q cid : Nat) (e : XErr) (hk : κ.Kept s.core) :
    κ.Kept (s.ringFailed q cid e).core := by simp [hk, State.ringFailed]

theorem State.writeVaBy_kept {κ : Core} {s : State} {t : State} {who cid va : Nat} {bs : List Byte}
    (h : s.writeVaBy who cid va bs = .ok t) (hk : κ.Kept s.core) : κ.Kept t.core := by
  induction bs generalizing va t with
  | nil =>
    cases h
    exact hk
  | cons b bs ih =>
    unfold State.writeVaBy at h
    split at h
    · cases h
    · split at h
      · cases h
      · next hw =>
        cases h
        simp [ih hw]

@[simp] theorem execStageReadComplete_kept {κ : Core} {s : State} (qid : BitVec 16) (bad : Option (BitVec 3))
    (hk : κ.Kept s.core) : (execStageReadComplete qid bad s).Kept κ := by
  unfold execStageReadComplete
  refine whenLive_kept hk fun t ht => Out.kept_next.2 ?_
  dsimp only
  split
  · split
    · simp [ht]
    · split
      · simp [ht]
      · have hrefs {r : State} (cid raw : Nat) (hr : κ.Kept r.core) :=
          State.takeRefs_kept cid raw (bad.map (·.toNat)) (packetHandles raw) [] hr
        split
        · next h => simp [fst_kept h (hrefs _ _ (by simp [ht]))]
        · next h =>
          have hr := fst_kept h (hrefs _ _ (by simp [ht]))
          split <;> simp [hr]
  · exact ht

@[simp] theorem execPacketFetch_kept {κ : Core} {s : State} (qid : BitVec 16) (bad : Option (BitVec 3))
    (hk : κ.Kept s.core) : (execPacketFetch qid bad s).Kept κ := by
  unfold execPacketFetch
  refine whenLive_kept hk fun t hk => ?_
  dsimp only
  repeat' split
  all_goals simp [hk]

@[simp] theorem execFenceWait_kept {κ : Core} {s : State} (qid : BitVec 16) (index : BitVec 32) (hk : κ.Kept s.core) :
    (execFenceWait qid index s).Kept κ := by
  unfold execFenceWait
  refine whenLive_kept hk fun t hk => ?_
  dsimp only
  repeat' split
  all_goals simp [hk]

@[simp] theorem execTimestamp_kept {κ : Core} {s : State} (qid : BitVec 16) (index : BitVec 32) (hk : κ.Kept s.core) :
    (execTimestamp qid index s).Kept κ := by
  unfold execTimestamp
  refine whenLive_kept hk fun t ht => Out.kept_next.2 ?_
  dsimp only
  split
  · exact ht
  · split
    · next h => simp [State.writeVaBy_kept h ht]
    · split <;> simp [ht]

theorem State.dmaBlock_kept {κ : Core} {s : State} {t : State} {en cid raw done n : Nat}
    (h : s.dmaBlock en cid raw done = .ok (t, n)) (hk : κ.Kept s.core) : κ.Kept t.core := by
  unfold State.dmaBlock at h
  dsimp only at h
  split at h
  · split at h
    · next hw =>
      cases h
      exact State.writeVaBy_kept hw hk
    · cases h
  · split at h
    · cases h
    · split at h
      · split at h <;> cases h
        simp [hk]
      · split at h
        · next hw =>
          cases h
          exact State.writeVaBy_kept hw hk
        · cases h

@[simp] theorem State.dmaBlocks_kept {κ : Core} {s : State} (en cid raw done k : Nat) (hk : κ.Kept s.core) :
    κ.Kept (s.dmaBlocks en cid raw done k).1.core := by
  induction k generalizing s done with
  | zero => exact hk
  | succ k ih =>
    unfold State.dmaBlocks
    extract_lets len
    split
    · exact hk
    · split
      · exact hk
      · next h => simp [hk, ih, State.dmaBlock_kept h]

@[simp] theorem State.dmaRun_kept {κ : Core} {s : State} (n : Nat) (hk : κ.Kept s.core) : κ.Kept (s.dmaRun n).core := by
  unfold State.dmaRun
  split
  · exact hk
  · split
    · exact hk
    · split
      · exact hk
      · have hblocks := fun cid raw done => State.dmaBlocks_kept n cid raw done (2 ^ 31) hk
        split
        · simp [hk]
        · split
          · next h => simp [fst_kept h (hblocks _ _ _)]
          · next h =>
            have ht := fst_kept h (hblocks _ _ _)
            dsimp only
            split
            · simp [ht]
            · split <;> simp [ht]

@[simp] theorem execDmaTransferComplete_kept {κ : Core} {s : State} (engine : BitVec 1) (hk : κ.Kept s.core) :
    (execDmaTransferComplete engine s).Kept κ := by
  unfold execDmaTransferComplete
  refine whenLive_kept hk fun t hk => ?_
  simp [hk]

@[simp] theorem State.cancelPkt_kept {κ : Core} {s : State} (q blocks : Nat) (p : Pkt) (hk : κ.Kept s.core) :
    κ.Kept (s.cancelPkt q blocks p).1.core := by
  unfold State.cancelPkt
  dsimp only
  repeat' split
  all_goals simp [hk]

@[simp] theorem State.takeCancel_kept {κ : Core} {s : State} (q value blocks : Nat) (hk : κ.Kept s.core) :
    κ.Kept (s.takeCancel q value blocks).core := by
  change State.Keeps κ s at hk
  change State.Keeps κ _
  rw [show State.takeCancel = _ from by delta State.takeCancel; rfl]
  have hsat {r : State} (hr : State.Keeps κ r) : State.Keeps κ (r.sat Reg.DSP_SUBMIT_COUNTS_CANCEL_DROP 1) :=
    hr.of (State.sat_core ..)
  have hdisp {r : State} (d : Disp) (hr : State.Keeps κ r) : State.Keeps κ { r with disp := d } := hr
  have hupd {r : State} (f : Queue → Queue) (hr : State.Keeps κ r) : State.Keeps κ (r.updQueue q f) :=
    hr.of (State.updQueue_core ..)
  extract_lets +onlyGivenNames index range miss x
  have hmiss {r : State} (hr : State.Keeps κ r) : State.Keeps κ (miss r) := hr.of (State.sat_core ..)
  clear_value miss
  split
  · exact hmiss hk
  · split
    · exact hmiss hk
    · extract_lets +onlyGivenNames lo named
      split
      next t hit hfold =>
      have ht : State.Keeps κ t := fst_kept hfold (foldl_fst_kept hk fun p a hp => by
        dsimp only
        split
        · exact State.cancelPkt_kept _ _ _ (hp.of (State.withdraw_core ..))
        · exact hp)
      clear hfold
      extract_lets +onlyGivenNames reading t1 hit1
      have ht1 : State.Keeps κ t1 := by
        simp only [t1]
        split
        · exact ht.of (State.updQueue_core ..)
        · exact ht
      clear_value t1
      split
      next r last hstaged =>
      have hr : State.Keeps κ r := by
        refine fst_kept hstaged ?_
        split
        · exact ht1
        · split
          · exact State.release_kept _ (ht1.of (State.dropStaged_core ..))
          · exact ht1
      clear hstaged
      have hlast : State.Keeps κ (if last = true then r else miss r) := by
        split
        · exact hr
        · exact hmiss hr
      extract_lets +onlyGivenNames unfetched rel
      split
      · exact hlast
      · split
        · split
          · split
            · exact hr
            · split
              · exact hsat hr
              · exact hdisp _ hr
          · exact hlast
        · split
          · exact hupd _ hr
          · exact hlast

@[simp] theorem State.takeWrite_kept {κ : Core} {s : State} (w : DbWrite) (hk : κ.Kept s.core) :
    κ.Kept (s.takeWrite w).core := by simp [hk, State.takeWrite]

@[simp] theorem State.takeWrites_kept {κ : Core} {s : State} (hk : κ.Kept s.core) : κ.Kept (s.takeWrites).core :=
  foldl_kept (s := { s with host := { s.host with places := [], withheld := [] } }) hk fun t w ht => State.takeWrite_kept w ht

@[simp] theorem State.hostDoorbell_kept {κ : Core} {s : State} (w : DbWrite) (hk : κ.Kept s.core) :
    κ.Kept (s.hostDoorbell w).core := by simp [hk, State.hostDoorbell]

@[simp] theorem execDoorbell_kept {κ : Core} {s : State} (qid : BitVec 16) (value : BitVec 64) (hk : κ.Kept s.core) :
    (execDoorbell qid value s).Kept κ := by
  unfold execDoorbell
  refine whenLive_kept hk fun t hk => ?_
  repeat' split
  all_goals simp [hk]

@[simp] theorem execCancel_kept {κ : Core} {s : State} (qid : BitVec 16) (value : BitVec 64) (blocks : BitVec 32)
    (hk : κ.Kept s.core) : (execCancel qid value blocks s).Kept κ := by
  unfold execCancel
  refine whenLive_kept hk fun t hk => ?_
  repeat' split
  all_goals simp [hk]

@[simp] theorem State.writeRecord_kept {κ : Core} {s : State} (q cid : Nat) (p : Pkt) (e : PktEnd) (seq : Nat)
    (hk : κ.Kept s.core) : κ.Kept (s.writeRecord q cid p e seq).core := by
  unfold State.writeRecord
  dsimp only
  split
  · split
    · next h => simp [hk, State.writeVaBy_kept h]
    · simp [hk]
  · exact hk

@[simp] theorem execPacketRetire_kept {κ : Core} {s : State} (qid : BitVec 16) (index : BitVec 32)
    (bad : Option (BitVec 3)) (hk : κ.Kept s.core) : (execPacketRetire qid index bad s).Kept κ := by
  have hfence {r : State} (k : UseKind) (q cid va : Nat) (x : Option Nat) (f : FenceUp) (hr : κ.Kept r.core) :
      κ.Kept ((r.useFor k q).fence cid va x f).core := State.fence_kept _ _ _ _ (hr.of (State.useFor_core ..))
  unfold execPacketRetire
  refine whenLive_kept hk fun t ht => Out.kept_next.2 ?_
  extract_lets +onlyGivenNames q
  split
  · exact ht
  · split
    · exact ht
    · split
      · exact ht
      · extract_lets +onlyGivenNames s1 s2 s3 s4
        have h1 : κ.Kept s1.core := State.writeRecord_kept _ _ _ _ _ ht
        have h2 : κ.Kept s2.core := by
          simp only [s2]
          split
          · exact h1
          · exact hfence _ _ _ _ _ _ h1
        have h4 : κ.Kept s4.core := by
          simp only [s4, s3]
          split <;> simp [h2]
        rw [State.settleLoss_core, State.serveBarrier_core]
        exact State.releaseBad_kept _ _ h4

@[simp] theorem State.startMissOf_kept {κ : Core} {s : State} (q i inst : Nat) (hk : κ.Kept s.core) :
    κ.Kept (s.startMissOf q i inst).core := by
  unfold State.startMissOf
  split <;> simp [hk]

@[simp] theorem State.finishMissOf_kept {κ : Core} {s : State} (q i : Nat) (hk : κ.Kept s.core) :
    κ.Kept (s.finishMissOf q i).core := by
  unfold State.finishMissOf
  split <;> simp [hk]

@[simp] theorem State.budgetOf_kept {κ : Core} {s : State} (q i inst : Nat) (hk : κ.Kept s.core) :
    κ.Kept (s.budgetOf q i inst).core := by
  unfold State.budgetOf
  repeat' split
  all_goals simp [hk]

@[simp] theorem State.timeOf_kept {κ : Core} {s : State} (q : Nat) (p : Pkt) (hk : κ.Kept s.core) :
    κ.Kept (s.timeOf q p).core := by
  unfold State.timeOf
  extract_lets +onlyGivenNames insts s1 s2
  have h1 : κ.Kept s1.core := by
    simp only [s1]
    split
    · exact foldl_kept hk fun t k ht => State.startMissOf_kept _ _ _ ht
    · exact hk
  have h2 : κ.Kept s2.core := State.finishMissOf_kept _ _ h1
  split
  · exact h2
  · exact foldl_kept h2 fun t r ht => (State.budgetOf_kept _ _ _ ht).of (State.budgetHardOf_core ..)

@[simp] theorem State.timePhase_kept {κ : Core} {s : State} (hk : κ.Kept s.core) : κ.Kept (s.timePhase).core := by
  unfold State.timePhase
  split
  · exact foldl_kept hk fun t e ht => foldl_kept ht fun t p ht => State.timeOf_kept _ _ ht
  · exact hk

@[simp] theorem execDispatcherCycle_kept {κ : Core} {s : State} (hk : κ.Kept s.core) : (execDispatcherCycle s).Kept κ
    := by
  unfold execDispatcherCycle
  refine whenLive_kept hk fun t hk => ?_
  dsimp only
  repeat' split
  all_goals simp [hk]

@[simp] theorem execStartMiss_kept {κ : Core} {s : State} (qid inst : BitVec 16) (index : BitVec 32)
    (hk : κ.Kept s.core) : (execStartMiss qid inst index s).Kept κ := by
  unfold execStartMiss
  refine whenLive_kept hk fun t hk => ?_
  simp [hk]

@[simp] theorem execFinishMiss_kept {κ : Core} {s : State} (qid : BitVec 16) (index : BitVec 32) (hk : κ.Kept s.core)
    : (execFinishMiss qid index s).Kept κ := by
  unfold execFinishMiss
  refine whenLive_kept hk fun t hk => ?_
  simp [hk]

@[simp] theorem execBudgetOverrun_kept {κ : Core} {s : State} (qid inst : BitVec 16) (index : BitVec 32)
    (hk : κ.Kept s.core) : (execBudgetOverrun qid inst index s).Kept κ := by
  unfold execBudgetOverrun
  refine whenLive_kept hk fun t hk => ?_
  simp [hk]

theorem State.slotWrite_kept {κ : Core} {s t : State} {cid : Nat} {l : List (Nat × List Byte)}
    (h : s.slotWrite cid l = some t) (hk : κ.Kept s.core) : κ.Kept t.core := by
  refine List.foldlRecOn (motive := fun o => ∀ r, o = some r → κ.Kept r.core) l _ ?_ ?_ t h
  · rintro _ ⟨⟩
    exact hk
  · intro o ho e _ r hr
    cases o with
    | none => cases hr
    | some u => exact State.ownWrite_kept hr (ho u rfl)

@[simp] theorem State.saveDone_kept {κ : Core} {s : State} (t p k q i : Nat) (r : Run) (hk : κ.Kept s.core) :
    κ.Kept (s.saveDone t p k q i r).core := by
  unfold State.saveDone
  extract_lets x raw faulted b banks parts
  split
  · simp [hk]
  · next h =>
    dsimp only
    split <;> simp [hk, State.slotWrite_kept h]

@[simp] theorem State.loadDone_kept {κ : Core} {s : State} (t p k q i : Nat) (r : Run) (hk : κ.Kept s.core) :
    κ.Kept (s.loadDone t p k q i r).core := by
  have hfailed (st : RunStats) (cid : Nat) : κ.Kept (s.swapFailed t p k q i r st cid true).core :=
    hk.of (State.swapFailed_core ..)
  have hload (x : Tile) (hx : Memory.wf x.store = true) (d : State → DTile) (f : Pkt → Pkt) :
      κ.Kept ((((((s.setTile t x).freeSlot p k).phaseZero t).setDtile t
        (d (((s.setTile t x).freeSlot p k).phaseZero t))).updPkt q i f).core) := by
    simp only [State.updPkt_core, State.setDtile_core, State.phaseZero_core, State.freeSlot_core]
    exact State.setTile_kept t x hk fun _ => hx
  unfold State.loadDone
  obtain ⟨read, hread⟩ : ∃ f, f = State.ownRead := ⟨_, rfl⟩
  rw [← hread]
  split
  · extract_lets +onlyGivenNames b scid
    split
    · extract_lets +onlyGivenNames banks rd x s1 d s2 s3
      have h3 : κ.Kept s3.core := hload _ (Tile.wf_loadBanks ..) (fun u => { u.dtile t with
        st := .running, lastCid := some _, lastProg := progOf _ }) _
      clear_value s3
      split
      · simp [h3]
      · exact h3
    · exact hfailed ..
  · exact hk

@[simp] theorem State.stateDone_kept {κ : Core} {s : State} (t q i : Nat) (hk : κ.Kept s.core) :
    κ.Kept (s.stateDone t q i).core := by
  have hload (regs : Bool) (banks : Nat) (img : List Byte) : κ.Kept (s.updTile t fun x => x.loadImage regs banks img).core :=
    State.updTile_kept t hk fun x _ => Tile.wf_loadImage x regs banks img
  unfold State.stateDone
  split
  · exact hk
  · dsimp only
    split
    · split
      · split <;> simp [hk]
      · next h => simp [State.writeVaBy_kept h hk]
    · split
      · split <;> simp [hk]
      · simp [hload]

@[simp] theorem State.tileError_kept {κ : Core} {s : State} (u cid : Nat) (h : TileHit) (hk : κ.Kept s.core) :
    κ.Kept (s.tileError u cid h).core := by simp [hk, State.tileError]

@[simp] theorem State.readEcc_kept {κ : Core} {s : State} (u cid : Nat) (rs : List (Nat × Nat)) (hits : List TileHit)
    (hk : κ.Kept s.core) : κ.Kept (s.readEcc u cid rs hits).1.core := by
  unfold State.readEcc
  split
  · exact hk
  · exact foldl_kept hk fun t h ht => State.tileError_kept u cid h ht

@[simp] theorem State.saveEcc_kept {κ : Core} {s : State} (t : Nat) (hits : List TileHit) (hk : κ.Kept s.core) :
    κ.Kept (s.saveEcc t hits).core := by simp [hk, State.saveEcc]

@[simp] theorem execSwapComplete_kept {κ : Core} {s : State} (tile : BitVec 6) (hits : List TileHit)
    (hk : κ.Kept s.core) : (execSwapComplete tile hits s).Kept κ := by
  unfold execSwapComplete
  refine whenLive_kept hk fun t hk => ?_
  dsimp only
  repeat' split
  all_goals simp [hk]

@[simp] theorem execFenceAck_kept {κ : Core} {s : State} (cluster : BitVec 4) (hk : κ.Kept s.core) :
    (execFenceAck cluster s).Kept κ := by
  unfold execFenceAck
  refine whenLive_kept hk fun t ht => Out.kept_next.2 ?_
  split
  · have hzero := foldl_kept (l := List.range 4) ht fun (r : State) k hr =>
      State.updTile_kept (f := fun x => { x with store := [], written := [] }) (4 * cluster.toNat + k) hr fun _ _ => rfl
    exact hzero
  · exact ht

@[simp] theorem State.walkFailed_kept {κ : Core} {s : State} (w : Walk) (ea : Nat) (hk : κ.Kept s.core) :
    κ.Kept (s.walkFailed w ea).core := by simp [hk, State.walkFailed]

@[simp] theorem State.walkRead_kept {κ : Core} {s : State} (w : Walk) (ecc : EccEnd) (hk : κ.Kept s.core) :
    κ.Kept (s.walkRead w ecc).core := by
  unfold State.walkRead
  split <;> simp [hk]

@[simp] theorem execWalkRead_kept {κ : Core} {s : State} (cid : BitVec 10) (va : BitVec 64) (ecc : EccEnd)
    (hk : κ.Kept s.core) : (execWalkRead cid va ecc s).Kept κ := by
  unfold execWalkRead
  refine whenLive_kept hk fun t hk => ?_
  repeat' split
  all_goals simp [hk]

@[simp] theorem State.freeSusp_kept {κ : Core} {s : State} (tok : Nat) (hk : κ.Kept s.core) :
    κ.Kept (s.freeSusp tok).core := by simp [hk, State.freeSusp]

@[simp] theorem execResume_kept {κ : Core} {s : State} (token : BitVec 16) (hk : κ.Kept s.core) :
    (execResume token s).Kept κ := by
  unfold execResume
  refine whenLive_kept hk fun t hk => ?_
  repeat' split
  all_goals simp [hk]

@[simp] theorem execKill_kept {κ : Core} {s : State} (token : BitVec 16) (hk : κ.Kept s.core) :
    (execKill token s).Kept κ := by
  unfold execKill
  refine whenLive_kept hk fun t hk => ?_
  repeat' split
  all_goals simp [hk]

@[simp] theorem execFqBaseWrite_kept {κ : Core} {s : State} (value : BitVec 64) (hk : κ.Kept s.core) :
    (execFqBaseWrite value s).Kept κ := by
  unfold execFqBaseWrite
  refine whenLive_kept hk fun t hk => ?_
  dsimp only
  simp [hk]

@[simp] theorem execFqHeadWrite_kept {κ : Core} {s : State} (value : BitVec 32) (hk : κ.Kept s.core) :
    (execFqHeadWrite value s).Kept κ := by
  unfold execFqHeadWrite
  refine whenLive_kept hk fun t hk => ?_
  simp [hk]

@[simp] theorem State.clearCluster_kept {κ : Core} {s : State} (c : Nat) (hk : κ.Kept s.core) :
    κ.Kept (s.clearCluster c).core :=
  foldl_kept hk fun t k ht => by
    have hreset := State.setTile_kept (4 * c + k) Tile.reset ht fun _ => rfl
    have hrest : ∀ (r : State) (x : Xlt), ({ r with xlt := x } : State).core = r.core := fun _ _ => rfl
    simp only [hrest, State.setDtile_core, hreset]

@[simp] theorem State.clearHalf_kept {κ : Core} {s : State} (h : Nat) (hk : κ.Kept s.core) :
    κ.Kept (s.clearHalf h).core :=
  hk.trans ⟨rfl, rfl, rfl, id, id, Memory.wf_wipe _ _ _, id, id⟩

@[simp] theorem State.closeFx_kept {κ : Core} {s : State} (standby : Bool) (d : Nat) (hk : κ.Kept s.core) :
    κ.Kept (s.closeFx standby d).core := by
  unfold State.closeFx
  repeat' split
  all_goals simp [hk, Conc.closed]

@[simp] theorem State.switchOff_kept {κ : Core} {s : State} (standby : Bool) (d : Nat) (st : DomSt)
    (hk : κ.Kept s.core) : κ.Kept (s.switchOff standby d st).core := by simp [hk, State.switchOff]

@[simp] theorem State.switchOffAll_kept {κ : Core} {s : State} (standby : Bool) (ds : List Nat) (hk : κ.Kept s.core) :
    κ.Kept (s.switchOffAll standby ds).core := by
  unfold State.switchOffAll
  refine foldl_kept hk fun t a hk => ?_
  dsimp only
  repeat' split
  all_goals simp [hk]

@[simp] theorem State.flightFailed_kept {κ : Core} {s : State} (hk : κ.Kept s.core) : κ.Kept (s.flightFailed).core := by
  simp [hk, State.flightFailed]

@[simp] theorem State.stopByFailure_kept {κ : Core} {s : State} (d step : Nat) (hk : κ.Kept s.core) :
    κ.Kept (s.stopByFailure d step).core := by
  unfold State.stopByFailure
  dsimp only
  repeat' split
  all_goals simp [hk]

@[simp] theorem State.failStep_kept {κ : Core} {s : State} (d step : Nat) (hk : κ.Kept s.core) :
    κ.Kept (s.failStep d step).core := by simp [hk, State.failStep]

@[simp] theorem State.windDown_kept {κ : Core} {s : State} (p : Nat → Bool) (hk : κ.Kept s.core) :
    κ.Kept (s.windDown p).core := by simp [hk, State.windDown]

@[simp] theorem State.alarmA3_kept {κ : Core} {s : State} (src : Nat) (hk : κ.Kept s.core) :
    κ.Kept (s.alarmA3 src).core := by simp [hk, State.alarmA3]

@[simp] theorem State.alarm_kept {κ : Core} {s : State} (src code detail parts : Nat) (hk : κ.Kept s.core) :
    κ.Kept (s.alarm src code detail parts).core := by simp [hk, State.alarm]

@[simp] theorem State.alarmWide_kept {κ : Core} {s : State} (src code detail : Nat) (hk : κ.Kept s.core) :
    κ.Kept (s.alarmWide src code detail).core := by simp [hk, State.alarmWide]

@[simp] theorem execVglitch_kept {κ : Core} {s : State} (place : GlitchAt) (hk : κ.Kept s.core) :
    (execVglitch place s).Kept κ := by
  unfold execVglitch
  split <;> simp [hk]

@[simp] theorem execCglitch_kept {κ : Core} {s : State} (source : BitVec 2) (hk : κ.Kept s.core) :
    (execCglitch source s).Kept κ := by
  unfold execCglitch
  refine whenLive_kept hk fun t hk => ?_
  repeat' split
  all_goals simp [hk]

@[simp] theorem State.kintegrity_kept {κ : Core} {s : State} (f : KeeperFault) (hk : κ.Kept s.core) :
    κ.Kept (s.kintegrity f).core := by simp [hk, State.kintegrity]

@[simp] theorem execKintegrity_kept {κ : Core} {s : State} (fail : KeeperFault) (hk : κ.Kept s.core) :
    (execKintegrity fail s).Kept κ := by
  unfold execKintegrity
  refine whenLive_kept hk fun t hk => ?_
  simp [hk]

@[simp] theorem execKfwCheck_kept {κ : Core} {s : State} (ok : Bool) (hk : κ.Kept s.core) : (execKfwCheck ok s).Kept κ
    := by
  unfold execKfwCheck
  refine whenLive_kept hk fun t hk => ?_
  dsimp only
  repeat' split
  all_goals simp [hk]

@[simp] theorem State.jtagLocked_kept {κ : Core} {s : State} (code : Nat) (hk : κ.Kept s.core) :
    κ.Kept (s.jtagLocked code).core := by simp [hk, State.jtagLocked]

@[simp] theorem execJtagLockedInstruction_kept {κ : Core} {s : State} (code : BitVec 8) (hk : κ.Kept s.core) :
    (execJtagLockedInstruction code s).Kept κ := by simp [hk, execJtagLockedInstruction]

@[simp] theorem State.savePut_kept {κ : Core} {s : State} (o : Nat) (bs : List Byte) (hk : κ.Kept s.core) :
    κ.Kept (s.savePut o bs).core := by simp [hk, State.savePut]

@[simp] theorem State.saveState_kept {κ : Core} {s : State} (hk : κ.Kept s.core) : κ.Kept (s.saveState).core := by
  have hput {t : State} (o : Nat) (bs : List Byte) (ht : κ.Kept t.core) : κ.Kept (t.savePut o bs).core :=
    State.savePut_kept _ _ ht
  unfold State.saveState
  dsimp only
  exact hput _ _ (hput _ _ (hput _ _ (foldl_kept (hput _ _ (hput _ _ (hput _ _ hk))) fun t n ht => hput _ _ ht)))

@[simp] theorem State.restoreErr_kept {κ : Core} {s : State} (hk : κ.Kept s.core) : κ.Kept (s.restoreErr).core := by
  have hlog (bs : List Byte) (n : Nat) :
      κ.Kept ({ s with conc := { s.conc with log := Cells.putList [] 0 bs, unread := n } } : State).core :=
    hk.trans ⟨rfl, rfl, rfl, id, fun _ => Memory.wf_putList bs _ _ rfl, id, id, id⟩
  unfold State.restoreErr
  refine foldl_kept ?_ fun t v ht => ?_
  · simp [hlog]
  · dsimp only
    split <;> simp [ht]

@[simp] theorem State.restoreState_kept {κ : Core} {s : State} (hk : κ.Kept s.core) : κ.Kept (s.restoreState).core := by
  simp [hk, State.restoreState]

@[simp] theorem State.warmReset_kept {κ : Core} {s : State} (source : Nat) (hk : κ.Kept s.core) :
    κ.Kept (s.warmReset source).core := by
  have hput {t : State} (f : Fld) (v : Nat) (ht : κ.Kept t.core) : κ.Kept (t.put f v).core := ht
  have hdoms {t : State} (d : Tab Dom) (ht : κ.Kept t.core) : κ.Kept ({ t with doms := d } : State).core := ht
  unfold State.warmReset
  extract_lets +onlyGivenNames s1 s2 s3 s4 s5 s6 s7
  have h1 : κ.Kept s1.core := hk.of ((State.haltFlight_core ..).trans (State.endStop_core ..))
  have h3 : κ.Kept s3.core := (hput _ _ (hput _ _ (hput _ _ h1))).of (State.setEng_core ..)
  have h4 : κ.Kept s4.core := foldl_kept h3 fun t d ht => by
    split
    · exact State.gateAct_kept ht fun r hr => hr
    · exact ht
  have h5 : κ.Kept s5.core := State.switchOffAll_kept _ _ h4
  have h7 : κ.Kept s7.core :=
    (State.closeFx_kept _ _ (State.closeFx_kept _ _ (hdoms _ h5))).of
      ((State.unwrapKeys_core ..).trans (State.resetRails_core ..))
  simp [h7]

@[simp] theorem execResetNAssert_kept {κ : Core} {s : State} (hk : κ.Kept s.core) : (execResetNAssert s).Kept κ := by
  simp [hk, execResetNAssert]

@[simp] theorem execWarm_kept {κ : Core} {s : State} (src : Source) (value : BitVec 32) (hk : κ.Kept s.core) :
    (execWarm src value s).Kept κ := by simp [hk, execWarm]

@[simp] theorem execVddSocRemoval_kept {κ : Core} {s : State} (hk : κ.Kept s.core) : (execVddSocRemoval s).Kept κ := by
  have hlost {t : State} (f : FlightSeq) (c : Conc) (d : Disp) (k : Keeper) (h : c.log = []) (ht : κ.Kept t.core) :
      κ.Kept (State.core { t with
        flight := f, conc := c, ctxs := [], groups := [], queues := [], waiters := [], disp := d, sealKeys := [],
        modelKeys := [], keeper := k }) :=
    ht.trans ⟨rfl, rfl, rfl, id, fun _ => congrArg Memory.wf h, id, id, id⟩
  unfold execVddSocRemoval
  refine Out.kept_next.2 ?_
  split
  · exact hk
  · split
    · exact hk
    · exact hlost _ _ _ _ rfl (hk.of (State.resetRegs_core ..))

@[simp] theorem execReferencePllLock_kept {κ : Core} {s : State} (fin : LockEnd) (hk : κ.Kept s.core) :
    (execReferencePllLock fin s).Kept κ := by
  unfold execReferencePllLock
  repeat' split
  all_goals simp [hk]

@[simp] theorem execRefLost_kept {κ : Core} {s : State} (hk : κ.Kept s.core) : (execRefLost s).Kept κ := by
  simp [hk, execRefLost]

@[simp] theorem State.stopped_kept {κ : Core} {s : State} (x : StopCmd) (d : Nat) (hk : κ.Kept s.core) :
    κ.Kept (s.stopped x d).core := by simp [hk, State.stopped]

@[simp] theorem State.gateClose_kept {κ : Core} {s : State} (d : Nat) (hk : κ.Kept s.core) :
    κ.Kept (s.gateClose d).core := by
  unfold State.gateClose
  dsimp only
  repeat' split
  all_goals simp [hk]

@[simp] theorem execRamping_kept {κ : Core} {s : State} (dom : BitVec 5) (good : Bool) (hk : κ.Kept s.core) :
    (execRamping dom good s).Kept κ := by simp [hk, execRamping]

@[simp] theorem execScrub_kept {κ : Core} {s : State} (dom : BitVec 5) (fin : ScrubEnd) (hk : κ.Kept s.core) :
    (execScrub dom fin s).Kept κ := by
  have hcl (c : Nat) : κ.Kept ((List.range 4).foldl (fun s k =>
      s.updTile (4 * c + k) fun x => { x with store := [], written := [] }) s).core :=
    foldl_kept hk fun t k ht => State.updTile_kept _ ht fun _ _ => rfl
  have hcorr {t : State} (l : List (BitVec 2)) (c : Nat) (ht : κ.Kept t.core) : κ.Kept (l.foldl (fun s k =>
      s.tileCorrected (4 * c + k.toNat % 4) (s.freeVal 20)) t).core :=
    foldl_kept ht fun t k ht => by simp [ht]
  unfold execScrub
  dsimp only
  split
  · exact Out.kept_next.2 hk
  · split
    · simp [hk, hcl]
    · simp [hk]

@[simp] theorem execStepTimeout_kept {κ : Core} {s : State} (dom : BitVec 5) (hk : κ.Kept s.core) :
    (execStepTimeout dom s).Kept κ := by
  unfold execStepTimeout
  dsimp only
  repeat' split
  all_goals simp [hk]

@[simp] theorem execKeeperSelfTest_kept {κ : Core} {s : State} (fail : Option KeeperFault) (hk : κ.Kept s.core) :
    (execKeeperSelfTest fail s).Kept κ := by
  unfold execKeeperSelfTest
  refine whenLive_kept hk fun t hk => ?_
  dsimp only
  repeat' split
  all_goals simp [hk]

@[simp] theorem State.imageFailed_kept {κ : Core} {s : State} (code : Nat) (hk : κ.Kept s.core) :
    κ.Kept (s.imageFailed code).core := by simp [hk, State.imageFailed]

@[simp] theorem execBundleTimeout_kept {κ : Core} {s : State} (hk : κ.Kept s.core) : (execBundleTimeout s).Kept κ := by
  simp [hk, execBundleTimeout]

@[simp] theorem execBundleFetch_kept {κ : Core} {s : State} (hk : κ.Kept s.core) : (execBundleFetch s).Kept κ := by
  unfold execBundleFetch
  refine whenLive_kept hk fun t hk => ?_
  dsimp only
  repeat' split
  all_goals simp [hk]

@[simp] theorem State.loadWatch_kept {κ : Core} {s : State} (img : List Byte) (hk : κ.Kept s.core) :
    κ.Kept (s.loadWatch img).core := by
  unfold State.loadWatch
  split
  · exact hk
  · have hsram := State.setSram_kept hk (Memory.wf_putList img s.island.sram 0)
    have htile := State.setTile_kept 64 { Tile.reset with core := .running } hsram fun _ => rfl
    exact htile

@[simp] theorem execImageAuthenticate_kept {κ : Core} {s : State} (img : Image) (sigOk : Bool) (hk : κ.Kept s.core) :
    (execImageAuthenticate img sigOk s).Kept κ := by
  unfold execImageAuthenticate
  refine whenLive_kept hk fun t hk => ?_
  dsimp only
  repeat' split
  all_goals simp [hk]

@[simp] theorem execDomainClose_kept {κ : Core} {s : State} (dom : BitVec 5) (hk : κ.Kept s.core) :
    (execDomainClose dom s).Kept κ := by simp [hk, execDomainClose]

@[simp] theorem State.closeCluster_kept {κ : Core} {s : State} (c : Nat) (hk : κ.Kept s.core) :
    κ.Kept (s.closeCluster c).core := by
  unfold State.closeCluster
  dsimp only
  repeat' split
  all_goals simp [hk]

@[simp] theorem execCluster_kept {κ : Core} {s : State} (src : Source) (value : BitVec 32) (hk : κ.Kept s.core) :
    (execCluster src value s).Kept κ := by
  unfold execCluster
  dsimp only
  repeat' split
  all_goals simp [hk]

@[simp] theorem execClusterDrainTimeout_kept {κ : Core} {s : State} (cluster : BitVec 4) (hk : κ.Kept s.core) :
    (execClusterDrainTimeout cluster s).Kept κ := by simp [hk, execClusterDrainTimeout]

@[simp] theorem execStandbyClustersClosed_kept {κ : Core} {s : State} (hk : κ.Kept s.core) :
    (execStandbyClustersClosed s).Kept κ := by simp [hk, execStandbyClustersClosed]

@[simp] theorem execStandbySaveDone_kept {κ : Core} {s : State} (hk : κ.Kept s.core) :
    (execStandbySaveDone s).Kept κ := by simp [hk, execStandbySaveDone]

@[simp] theorem execKeyStoreWrap_kept {κ : Core} {s : State} (hk : κ.Kept s.core) : (execKeyStoreWrap s).Kept κ := by
  simp [hk, execKeyStoreWrap]

@[simp] theorem execKeyStoreUnwrap_kept {κ : Core} {s : State} (tagOk : Bool) (hk : κ.Kept s.core) :
    (execKeyStoreUnwrap tagOk s).Kept κ := by
  unfold execKeyStoreUnwrap
  refine whenLive_kept hk fun t hk => ?_
  dsimp only
  repeat' split
  all_goals simp [hk]

@[simp] theorem execDspmDigestCheck_kept {κ : Core} {s : State} (hk : κ.Kept s.core) : (execDspmDigestCheck s).Kept κ
    := by
  unfold execDspmDigestCheck
  refine whenLive_kept hk fun t hk => ?_
  dsimp only
  repeat' split
  all_goals simp [hk]

@[simp] theorem execStateRestore_kept {κ : Core} {s : State} (hk : κ.Kept s.core) : (execStateRestore s).Kept κ := by
  have hflight {r : State} (f : FlightSeq) (hr : κ.Kept r.core) : κ.Kept ({ r with flight := f } : State).core := hr
  have hask {r : State} (i : Option HandoffReq) (q : HandoffReq) (hr : κ.Kept r.core) :
      κ.Kept (({ r with island := { r.island with resumeReq := i } } : State).askHandoff q).core :=
    hr.of (State.askHandoff_core ..)
  refine whenTow_kept hk fun t ht => Out.kept_next.2 ?_
  split
  · exact ht
  · exact hask _ _ ((hflight _ (State.restoreState_kept ht)).of (State.ready_core ..))

@[simp] theorem State.moverFault_kept {κ : Core} {s : State} (u va : Nat) (acc : Access) (e : XErr)
    (hk : κ.Kept s.core) : κ.Kept (s.moverFault u va acc e).core := by
  unfold State.moverFault
  dsimp only
  repeat' split
  all_goals simp [hk]

@[simp] theorem execIstoreLineFill_kept {κ : Core} {s : State} (tile : BitVec 6) (pc : BitVec 32) (ecc : EccEnd)
    (hk : κ.Kept s.core) : (execIstoreLineFill tile pc ecc s).Kept κ := by
  unfold execIstoreLineFill
  dsimp only
  repeat' split
  all_goals simp [hk]

@[simp] theorem State.loadMoves_kept {κ : Core} {s : State} (u : Nat) (seen : List Nat) (ms : List (Nat × Nat × Nat))
    (hk : κ.Kept s.core) : κ.Kept (s.loadMoves u seen ms).1.core := by
  induction ms generalizing s seen with
  | nil => exact hk
  | cons m ms ih =>
    have hlater : κ.Kept s.chooseLater.1.core := by simp [hk]
    unfold State.loadMoves
    dsimp only
    split
    · exact hk
    · refine ih _ ?_
      split
      · split
        · exact State.updTile_kept u hlater fun _ => Tile.wf_wr _ _
        · exact hlater
      · exact State.updTile_kept u hk fun _ => Tile.wf_wr _ _

@[simp] theorem State.storeMoves_kept {κ : Core} {s : State} (u : Nat) (seen : List Nat) (ms : List (Nat × Nat × Nat))
    (hk : κ.Kept s.core) : κ.Kept (s.storeMoves u seen ms).1.core := by
  induction ms generalizing s seen with
  | nil => exact hk
  | cons m ms ih =>
    have hlater : κ.Kept s.chooseLater.1.core := by simp [hk]
    unfold State.storeMoves
    dsimp only
    split
    · exact hk
    · refine ih _ ?_
      split
      · split
        · exact State.physPut_kept _ _ hlater
        · exact hlater
      · exact State.physPut_kept _ _ hk

@[simp] theorem State.sealedLoad_kept {κ : Core} {s : State} (u : Nat) (b : Barge) (d : Desc) (tagOk : Bool)
    (hk : κ.Kept s.core) : κ.Kept (s.sealedLoad u b d tagOk).core := by
  have hload {t : State} (es : List ((Nat × Nat × Nat) × Byte)) (ht : κ.Kept t.core) : κ.Kept (t.updTile u fun x =>
      (es.foldl (fun x e => x.wr e.1.2.1 e.2) x).dropBarge b.id).core :=
    State.updTile_kept u ht fun x hx => Tile.wf_foldl hx fun y e => Tile.wf_wr _ _
  have hbad (ls : List Nat) : κ.Kept (s.updTile u fun x =>
      { (ls.foldl (fun t l => { t with store := t.store.wipe (l * 64) 64, written := t.written.set l false }) x) with
        barges := x.barges.filter fun c => c.id != b.id }).core :=
    State.updTile_kept u hk fun x hx => Tile.wf_foldl hx fun y e hy => Memory.wf_wipe _ _ _ hy
  unfold State.sealedLoad
  dsimp only
  split
  · simp [hk]
  · split
    · simp [hk]
    · split
      · simp [hk]
      · split
        · exact hload _ (by simp [hk])
        · exact (hbad _).of (State.failTask_core ..)

@[simp] theorem State.runBarge_kept {κ : Core} {s : State} (u id : Nat) (tagOk : Bool) (hk : κ.Kept s.core) :
    κ.Kept (s.runBarge u id tagOk).core := by
  unfold State.runBarge
  dsimp only
  repeat' split
  all_goals simp [hk]

@[simp] theorem execBargeComplete_kept {κ : Core} {s : State} (tile : BitVec 6) (id : BitVec 4) (tagOk : Bool)
    (hits : List TileHit) (hk : κ.Kept s.core) : (execBargeComplete tile id tagOk hits s).Kept κ := by
  have hecc := fun u c l => State.readEcc_kept u c l hits hk
  unfold execBargeComplete
  dsimp only
  split <;> next h => simp [fst_kept h (hecc _ _ _)]

@[simp] theorem execMoverFault_kept {κ : Core} {s : State} (tile : BitVec 6) (id : BitVec 4) (code : BitVec 8)
    (hk : κ.Kept s.core) : (execMoverFault tile id code s).Kept κ := by
  unfold execMoverFault
  dsimp only
  repeat' split
  all_goals simp [hk]

@[simp] theorem State.coreWrite_kept {κ : Core} {s : State} (c a n v : Nat) (hk : κ.Kept s.core) :
    κ.Kept (s.coreWrite c a n v).core := by
  unfold State.coreWrite
  split
  · exact State.setSram_kept hk (Memory.wf_putLe _ _ _ _)
  · exact State.updTile_kept _ hk fun _ => Tile.wf_wrLe _ _ _

theorem State.withEcc_kept {κ : Core} {s : State} {c : Nat} {rs : List (Nat × Nat)} {hits : List TileHit}
    {fx : State → Fx} (hk : κ.Kept s.core) (hfx : ∀ t, κ.Kept t.core → κ.Kept (fx t).state.core) :
    κ.Kept (s.withEcc c rs hits fx).state.core := by
  have hecc := State.readEcc_kept c (s.tile c).cid rs hits hk
  unfold State.withEcc
  split
  · next he => exact fst_kept he hecc
  · next he => exact hfx _ (fst_kept he hecc)

@[simp] theorem State.loadS_kept {κ : Core} {s : State} (u : BitVec 7) (rd rs1 : BitVec 5) (off : BitVec 14)
    (ext : Option (BitVec 26)) (hits : List TileHit) (n : Nat) (hk : κ.Kept s.core) :
    (s.loadS u rd rs1 off ext hits n).Kept κ :=
  next_issue_kept hk fun t ht => State.checked_kept ht (by
    split
    · exact ht
    · next h => exact State.withEcc_kept (ht.of (State.coreRead_core h)) fun r hr => by simp [hr])

@[simp] theorem State.storeS_kept {κ : Core} {s : State} (u : BitVec 7) (rd rs1 : BitVec 5) (off : BitVec 14)
    (ext : Option (BitVec 26)) (hits : List TileHit) (n : Nat) (hk : κ.Kept s.core) :
    (s.storeS u rd rs1 off ext hits n).Kept κ :=
  next_issue_kept hk fun t ht => State.checked_kept ht (State.withEcc_kept ht fun r hr => by simp [hr])

@[simp] theorem execTld_kept {κ : Core} {s : State} (u : BitVec 7) (rd rs1 : BitVec 5) (imm : BitVec 15)
    (ext : Option (BitVec 26)) (hits : List TileHit) (hk : κ.Kept s.core) :
    (execTld u rd rs1 imm ext hits s).Kept κ :=
  next_issue_kept hk fun t ht => State.checked_kept ht (by
    split
    · exact ht
    · next h => exact State.withEcc_kept (ht.of (State.coreRead_core h)) fun r hr => by simp [hr])

@[simp] theorem execTst_kept {κ : Core} {s : State} (u : BitVec 7) (rd rs1 : BitVec 5) (imm : BitVec 15)
    (ext : Option (BitVec 26)) (hk : κ.Kept s.core) : (execTst u rd rs1 imm ext s).Kept κ :=
  next_issue_kept hk fun t ht => State.checked_kept ht (State.coreWrite_kept _ _ _ _ ht)

@[simp] theorem State.giveMsg_kept {κ : Core} {s : State} (t sreg lines addr : Nat) (m : Msg) (hk : κ.Kept s.core) :
    κ.Kept (s.giveMsg t sreg lines addr m).core := by
  unfold State.giveMsg
  dsimp only
  rw [State.complete_core]
  refine State.updTile_kept t hk fun x hx => ?_
  rw [Tile.setS_store]
  exact Tile.wf_foldl hx fun x k => Tile.wf_wrLe _ _ _

@[simp] theorem State.serveRecv_kept {κ : Core} {s : State} (m n : Nat) (hk : κ.Kept s.core) :
    κ.Kept (s.serveRecv m n).core := by
  induction n generalizing s with
  | zero => exact hk
  | succ n ih =>
    unfold State.serveRecv
    split
    · dsimp only
      split
      · split
        · exact ih (State.giveMsg_kept _ _ _ _ _ hk)
        · exact ih hk
      · exact ih hk
    · exact hk

@[simp] theorem State.mboxSend_kept {κ : Core} {s : State} (m src : Nat) (lines : List Nat) (hk : κ.Kept s.core) :
    κ.Kept (s.mboxSend m src lines).1.core := by
  unfold State.mboxSend
  dsimp only
  repeat' split
  all_goals simp [hk]

@[simp] theorem State.setWharfBit_kept {κ : Core} {s : State} (a : Arena) (chunk half n : Nat) (b : Bool)
    (hk : κ.Kept s.core) : κ.Kept (s.setWharfBit a chunk half n b).core := by simp [hk, State.setWharfBit]

@[simp] theorem State.wharfSplit_kept {κ : Core} {s : State} (a : Arena) (chunk d0 i k : Nat) (hk : κ.Kept s.core) :
    κ.Kept (s.wharfSplit a chunk d0 i k).core := by
  induction k generalizing s d0 i with
  | zero => exact hk
  | succ k ih => exact ih _ _ (State.setWharfBit_kept _ _ _ _ _ hk)

@[simp] theorem State.zeroVa_kept {κ : Core} {s : State} (cid va n : Nat) (hk : κ.Kept s.core) :
    κ.Kept (s.zeroVa cid va n).core := by
  induction n generalizing s va with
  | zero => exact hk
  | succ n ih =>
    unfold State.zeroVa
    split <;> simp [hk, ih]

@[simp] theorem State.wharfMerge_kept {κ : Core} {s : State} (a : Arena) (chunk n k : Nat) (hk : κ.Kept s.core) :
    κ.Kept (s.wharfMerge a chunk n k).core := by
  induction k generalizing s n with
  | zero => exact hk
  | succ k ih =>
    unfold State.wharfMerge
    dsimp only
    split <;> simp [hk, ih]

theorem State.wharfDrop_kept {κ : Core} {s : State} {t : State} {cid va : Nat} (h : s.wharfDrop cid va = some t)
    (hk : κ.Kept s.core) : κ.Kept t.core := by
  unfold State.wharfDrop at h
  dsimp only at h
  repeat' split at h
  all_goals cases h
  simp [hk]

@[simp] theorem State.atom_kept {κ : Core} {s : State} (u : BitVec 7) (op : AtomOp) (w64 : Bool) (a t : BitVec 4)
    (sf : BitVec 5) (rsv : BitVec 8) (hk : κ.Kept s.core) : (s.atom u op w64 a t sf rsv).Kept κ :=
  next_issue_kept hk fun t ht => State.checked_kept ht (by
    dsimp only
    split
    · simp [ht]
    · split <;> simp [ht])

@[simp] theorem execRsend_kept {κ : Core} {s : State} (u : BitVec 7) (a t : BitVec 4) (sf : BitVec 5)
    (lines : BitVec 2) (nb : Bool) (rsv : BitVec 9) (hits : List TileHit) (hk : κ.Kept s.core) :
    (execRsend u a t sf lines nb rsv hits s).Kept κ :=
  next_issue_kept hk fun t ht => State.checked_kept ht (by
    dsimp only
    split
    · exact ht
    · next h =>
      refine State.withEcc_kept (ht.of (State.readRanges_core h)) fun r hr => ?_
      split
      · exact (State.mboxSend_kept _ _ _ hr).of (State.sendAnswer_core ..)
      · split <;> simp [hr])

@[simp] theorem execRsendRetry_kept {κ : Core} {s : State} (tile : BitVec 6) (hk : κ.Kept s.core) :
    (execRsendRetry tile s).Kept κ := by
  unfold execRsendRetry
  dsimp only
  repeat' split
  all_goals simp [hk]

@[simp] theorem execRrecv_kept {κ : Core} {s : State} (u : BitVec 7) (a t : BitVec 4) (sf : BitVec 5)
    (lines : BitVec 2) (nb : Bool) (rsv : BitVec 9) (hk : κ.Kept s.core) :
    (execRrecv u a t sf lines nb rsv s).Kept κ :=
  next_issue_kept hk fun t ht => State.checked_kept ht (by
    have hmail {r : State} (m : Mail) (hr : κ.Kept r.core) : κ.Kept ({ r with mail := m } : State).core := hr
    dsimp only
    split
    · simp [ht]
    · split
      · simp [ht]
      · split
        · simp [ht]
        · exact hmail _ (by simp [ht]))

theorem State.wharfAlloc_kept {κ : Core} {s t : State} {cid size va : Nat} {zero : Bool}
    (h : s.wharfAlloc cid size zero = some (t, va)) (hk : κ.Kept s.core) : κ.Kept t.core := by
  have hsplit (a : Arena) (c d0 i k n : Nat) : κ.Kept ((s.wharfSplit a c d0 i k).setWharfBit a c 1 n true).core :=
    State.setWharfBit_kept _ _ _ _ _ (State.wharfSplit_kept _ _ _ _ _ hk)
  unfold State.wharfAlloc at h
  dsimp only at h
  repeat' split at h
  all_goals cases h
  · exact State.zeroVa_kept _ _ _ (hsplit ..)
  · exact hsplit ..

@[simp] theorem execAlloc_kept {κ : Core} {s : State} (u : BitVec 7) (a t : BitVec 4) (sf : BitVec 5) (zero try_ : Bool)
    (rsv : BitVec 10) (hk : κ.Kept s.core) : (execAlloc u a t sf zero try_ rsv s).Kept κ :=
  next_issue_kept hk fun t ht => State.checked_kept ht (by
    split
    · next h => simp [State.wharfAlloc_kept h ht]
    · split <;> simp [ht])

@[simp] theorem execFree_kept {κ : Core} {s : State} (u : BitVec 7) (a t : BitVec 4) (sf : BitVec 5) (bits : BitVec 2)
    (rsv : BitVec 10) (hk : κ.Kept s.core) : (execFree u a t sf bits rsv s).Kept κ :=
  next_issue_kept hk fun t ht => State.checked_kept ht (by
    split
    · next h => exact State.wharfDrop_kept h ht
    · exact ht)

@[simp] theorem execSignalFence_kept {κ : Core} {s : State} (u : BitVec 7) (imm : BitVec 16) (hk : κ.Kept s.core) :
    (execSignalFence u imm s).Kept κ :=
  next_issue_kept hk fun t ht => State.checked_kept ht (by
    split
    · exact ht
    · split <;> simp [ht])

@[simp] theorem State.tagEngine_kept {κ : Core} {s : State} (h : Header) (hk : κ.Kept s.core) :
    κ.Kept (s.tagEngine h).core := by simp [hk, State.tagEngine]

@[simp] theorem State.refuse_kept {κ : Core} {s : State} (h : Header) (unit pa : Nat) (hk : κ.Kept s.core) :
    κ.Kept (s.refuse h unit pa).core := by simp [hk, State.refuse]

@[simp] theorem State.physMasked_kept {κ : Core} {s : State} (pa mask data : Nat) (hk : κ.Kept s.core) :
    κ.Kept (s.physMasked pa mask data).core :=
  foldl_kept hk fun t k ht => by
    split
    · exact State.physPut_kept _ _ ht
    · exact ht

@[simp] theorem State.serveMem_kept {κ : Core} {s : State} (h : Header) (hk : κ.Kept s.core) :
    κ.Kept (s.serveMem h).core := by
  unfold State.serveMem
  dsimp only
  split
  · simp [hk]
  · split
    · exact (foldl_kept hk fun t e ht => State.physPutLe_kept _ _ _ ht).of (State.answerBare_core ..)
    · split
      · simp [hk]
      · split <;> simp [hk]

@[simp] theorem execMemoryRequest_kept {κ : Core} {s : State} (h : Header) (ecc : EccEnd) (hk : κ.Kept s.core) :
    (execMemoryRequest h ecc s).Kept κ := by
  unfold execMemoryRequest
  refine whenLive_kept hk fun t hk => ?_
  dsimp only
  repeat' split
  all_goals simp [hk]

@[simp] theorem State.cacheRead_kept {κ : Core} {s : State} (h : Header) (ecc : EccEnd) (hk : κ.Kept s.core) : κ.Kept
    (s.cacheRead h ecc).core := by
  unfold State.cacheRead
  dsimp only
  repeat' split
  all_goals simp [hk]

@[simp] theorem State.carveEcc_kept {κ : Core} {s : State} (h : Header) (ecc : EccEnd) (hk : κ.Kept s.core) :
    κ.Kept (s.carveEcc h ecc).core := by
  unfold State.carveEcc
  split <;> simp [hk]

@[simp] theorem execBasinRequest_kept {κ : Core} {s : State} (h : Header) (ecc : EccEnd) (hk : κ.Kept s.core) :
    (execBasinRequest h ecc s).Kept κ := by
  unfold execBasinRequest
  refine whenLive_kept hk fun t hk => ?_
  dsimp only
  repeat' split
  all_goals simp [hk]

@[simp] theorem State.enter_kept {κ : Core} {s : State} (r : FaultRec) (hk : κ.Kept s.core) : κ.Kept (s.enter r).core := by
  have hlog {t : State} (a : Nat) (bs : List Byte) (n : Nat) (sq : Tab (Option Nat)) (ht : κ.Kept t.core) :
      κ.Kept ({ t with conc := { t.conc with log := t.conc.log.putList a bs, unread := n, seqOf := sq } } : State).core :=
    ht.trans ⟨rfl, rfl, rfl, id, Memory.wf_putList bs _ a, id, id, id⟩
  unfold State.enter
  extract_lets +onlyGivenNames q s1 conc s2 s3 s4 s5
  have h1 : κ.Kept s1.core := by simp [s1, hk]
  have h2 : κ.Kept s2.core := hlog _ _ _ _ h1
  have h4 : κ.Kept s4.core := by
    simp only [s4, s3]
    split <;> simp [h2]
  have h5 : κ.Kept s5.core := by simp [s5, h4]
  exact State.fqServe_kept (h5.of (State.trace_core ..))

@[simp] theorem State.concPass_kept {κ : Core} {s : State} (faulted : Bool) (n : Nat) (hk : κ.Kept s.core) :
    κ.Kept (s.concPass faulted n).core := by
  induction n generalizing s faulted with
  | zero => exact hk
  | succ n ih =>
    unfold State.concPass
    split
    · exact hk
    · split
      · exact hk
      · exact ih _ (State.enter_kept _ (by simp [hk]))
    · exact ih _ (by simp [hk])

@[simp] theorem execConcentratorPass_kept {κ : Core} {s : State} (hk : κ.Kept s.core) : (execConcentratorPass s).Kept
    κ := by
  unfold execConcentratorPass
  refine whenTow_kept hk fun t hk => ?_
  repeat' split
  all_goals simp [hk]

@[simp] theorem State.capture_kept {κ : Core} {s : State} (k at_ : Nat) (hk : κ.Kept s.core) :
    κ.Kept (s.capture k at_).core := by
  unfold State.capture
  dsimp only
  split
  · exact hk
  · split
    · simp [hk]
    · split
      · next h => simp [hk, State.ownWrite_kept h]
      · simp [hk]

@[simp] theorem execMonitorWindowCapture_kept {κ : Core} {s : State} (slot : BitVec 8) (hk : κ.Kept s.core) :
    (execMonitorWindowCapture slot s).Kept κ := by
  unfold execMonitorWindowCapture
  refine whenTow_kept hk fun t hk => ?_
  dsimp only
  repeat' split
  all_goals simp [hk]

@[simp] theorem execTraceWrite_kept {κ : Core} {s : State} (hk : κ.Kept s.core) : (execTraceWrite s).Kept κ := by
  have hrest {r : State} (l : List TraceRec) (hr : κ.Kept r.core) :
      κ.Kept ({ r with conc := { r.conc with trace := l } } : State).core := hr
  unfold execTraceWrite
  refine whenTow_kept hk fun t ht => Out.kept_next.2 ?_
  dsimp only
  split
  · exact ht
  · split
    · simp [ht]
    · split
      · simp [ht]
      · split
        · next h => simp [State.ownWrite_kept h (hrest _ ht)]
        · simp [ht]

@[simp] theorem State.storeRow_kept {κ : Core} {s : State} (c : Capture) (o : Order) (row : List Nat)
    (hk : κ.Kept s.core) : κ.Kept (s.storeRow c o row).core := by
  have hrow (a : Nat) (bs : List Byte) (x : Option Capture) : κ.Kept ({ s with island := { s.island with
      sram := s.island.sram.putList a bs, capture := x } } : State).core :=
    hk.trans ⟨rfl, rfl, rfl, id, id, id, Memory.wf_putList bs _ a, id⟩
  unfold State.storeRow
  dsimp only
  split
  · simp [hk]
  · split <;> exact hrow _ _ _

@[simp] theorem State.takeRow_kept {κ : Core} {s : State} (c : Capture) (o : Order) (row : List Nat)
    (hk : κ.Kept s.core) : κ.Kept (s.takeRow c o row).core := by simp [hk, State.takeRow]

@[simp] theorem execCsi2Packet_kept {κ : Core} {s : State} (swapped fixed : Bool) (p : CsiPacket)
    (hk : κ.Kept s.core) : (execCsi2Packet swapped fixed p s).Kept κ := by
  unfold execCsi2Packet
  refine whenN7_kept hk fun t hk => ?_
  repeat' split
  all_goals simp [hk]

@[simp] theorem execFrameEnd_kept {κ : Core} {s : State} (vc : BitVec 2) (hk : κ.Kept s.core) :
    (execFrameEnd vc s).Kept κ := by
  unfold execFrameEnd
  refine whenN7_kept hk fun t ht => ?_
  split
  · exact ht
  · split
    · exact ht
    · extract_lets +onlyGivenNames w h short sram s1 f s2 isl s3
      have hsram {r : State} (fs : Tab (Option Frame)) (l : List Nat) (hr : κ.Kept r.core) (e : r.island.sram = t.island.sram) :
          κ.Kept ({ r with island := { r.island with sram := sram, frames := fs, ready := l } } : State).core :=
        hr.trans ⟨rfl, rfl, rfl, id, id, id, fun h => Memory.wf_wipe _ _ _ (e ▸ h), id⟩
      have h2 : κ.Kept s2.core := by simp [s2, s1, ht]
      have e2 : s2.island.sram = t.island.sram := by
        simp only [s2]
        split <;> rfl
      have h3 : κ.Kept s3.core := (hsram _ _ h2 e2).of (State.endCapture_core ..)
      clear_value s3
      split <;> simp [h3]

@[simp] theorem execPd11Close_kept {κ : Core} {s : State} (hk : κ.Kept s.core) : (execPd11Close s).Kept κ := by
  unfold execPd11Close
  refine whenN7_kept hk fun t hk => ?_
  dsimp only
  repeat' split
  all_goals simp [hk]

@[simp] theorem execHandoff_kept {κ : Core} {s : State} (hk : κ.Kept s.core) : (execHandoff s).Kept κ := by
  have hseq {r : State} (i : Nat) (hr : κ.Kept r.core) :
      κ.Kept ({ r with island := { r.island with seq := i } } : State).core := hr
  unfold execHandoff
  refine whenN7_kept hk fun t ht => ?_
  dsimp only
  split
  · exact ht
  · split
    · exact ht
    · split
      · simp [ht]
      · split
        · simp [ht]
        · next h =>
          have hr := State.ownWrite_kept h (hseq _ ht)
          split
          · simp [hr]
          · next h' => simp [State.ownWrite_kept h' hr]

@[simp] theorem State.returnAnswer_kept {κ : Core} {s : State} (n : Nat) (req rsp : Header) (hk : κ.Kept s.core) :
    κ.Kept (s.returnAnswer n req rsp).core := by
  unfold State.returnAnswer
  dsimp only
  split
  · split
    · next h =>
      split at h
      · simp [hk, State.ownWrite_kept h]
      · cases h
    · simp [hk]
  · simp [hk]

@[simp] theorem State.dspFailed_kept {κ : Core} {s : State} (code : Nat) (h : Header) (hk : κ.Kept s.core) :
    κ.Kept (s.dspFailed code h).core := by simp [hk, State.dspFailed]

@[simp] theorem State.walkLost_kept {κ : Core} {s : State} (h : Header) (hk : κ.Kept s.core) :
    κ.Kept (s.walkLost h).core := by
  unfold State.walkLost
  split <;> simp [hk]

@[simp] theorem State.meshFailed_kept {κ : Core} {s : State} (h : Header) (code : Nat) (hk : κ.Kept s.core) :
    κ.Kept (s.meshFailed h code).core := by simp [hk, State.meshFailed]

@[simp] theorem State.linkFaulted_kept {κ : Core} {s : State} (h : Header) (code : Nat) (hk : κ.Kept s.core) :
    κ.Kept (s.linkFaulted h code).core := by
  unfold State.linkFaulted
  dsimp only
  repeat' split
  all_goals simp [hk]

@[simp] theorem State.inject_kept {κ : Core} {s : State} (h : Header) (hk : κ.Kept s.core) :
    κ.Kept (s.inject h).core := by
  unfold State.inject
  dsimp only
  repeat' split
  all_goals simp [hk]

@[simp] theorem execPacketInject_kept {κ : Core} {s : State} (offer : Option Header) (stop : BitVec 6)
    (unit vn : BitVec 2) (prompt : Bool) (hk : κ.Kept s.core) :
    (execPacketInject offer stop unit vn prompt s).Kept κ := by
  unfold execPacketInject
  refine whenLive_kept hk fun t hk => ?_
  dsimp only
  repeat' split
  all_goals simp [hk]

@[simp] theorem State.callAnswered_kept {κ : Core} {s : State} (req rsp : Header) (hk : κ.Kept s.core) :
    κ.Kept (s.callAnswered req rsp).core := by
  unfold State.callAnswered
  dsimp only
  repeat' split
  all_goals simp [hk]

@[simp] theorem execMeshResponse_kept {κ : Core} {s : State} (h : Header) (hk : κ.Kept s.core) :
    (execMeshResponse h s).Kept κ := by
  unfold execMeshResponse
  refine whenLive_kept hk fun t hk => ?_
  dsimp only
  split <;> simp [hk]

@[simp] theorem execReqTimeout_kept {κ : Core} {s : State} (stop : BitVec 6) (unit : BitVec 2) (tag : BitVec 6)
    (hk : κ.Kept s.core) : (execReqTimeout stop unit tag s).Kept κ := by
  unfold execReqTimeout
  refine whenLive_kept hk fun t hk => ?_
  dsimp only
  split <;> simp [hk]

@[simp] theorem State.endSwitch_kept {κ : Core} {s : State} (hk : κ.Kept s.core) : κ.Kept (s.endSwitch).core := by
  simp [hk, State.endSwitch]

@[simp] theorem State.afterFlip_kept {κ : Core} {s : State} (hk : κ.Kept s.core) : κ.Kept (s.afterFlip).core := by
  unfold State.afterFlip
  split <;> simp [hk]

@[simp] theorem State.switchFailed_kept {κ : Core} {s : State} (hk : κ.Kept s.core) : κ.Kept (s.switchFailed).core := by
  unfold State.switchFailed
  split <;> simp [hk]

@[simp] theorem execEpochFlip_kept {κ : Core} {s : State} (hk : κ.Kept s.core) : (execEpochFlip s).Kept κ := by
  unfold execEpochFlip
  refine whenLive_kept hk fun t hk => ?_
  dsimp only
  repeat' split
  all_goals simp [hk]

@[simp] theorem execEpochAbandon_kept {κ : Core} {s : State} (hk : κ.Kept s.core) : (execEpochAbandon s).Kept κ := by
  unfold execEpochAbandon
  refine whenLive_kept hk fun t hk => ?_
  dsimp only
  split <;> simp [hk]

@[simp] theorem State.routeStep_kept {κ : Core} {s : State} (hk : κ.Kept s.core) : κ.Kept (s.routeStep).core := by
  simp [hk, State.routeStep]

@[simp] theorem State.trained_kept {κ : Core} {s : State} (n : Nat) (secure : Bool) (hk : κ.Kept s.core) :
    κ.Kept (s.trained n secure).core := by simp [hk, State.trained]

@[simp] theorem State.identified_kept {κ : Core} {s : State} (n die port : Nat) (enc : Bool) (hk : κ.Kept s.core) :
    κ.Kept (s.identified n die port enc).core := by
  unfold State.identified
  dsimp only
  repeat' split
  all_goals simp [hk]

@[simp] theorem execTrainingStep_kept {κ : Core} {s : State} (port : BitVec 3) (fin : TrainEnd) (hk : κ.Kept s.core) :
    (execTrainingStep port fin s).Kept κ := by
  unfold execTrainingStep
  refine whenLink_kept hk fun t hk => ?_
  dsimp only
  repeat' split
  all_goals simp [hk]

@[simp] theorem State.rootWrite_kept {κ : Core} {s : State} (e : Combine) (partial_ : Bool) (hk : κ.Kept s.core) :
    κ.Kept (s.rootWrite e partial_).core := by
  have hred (c : Bool) {t : State} (n g off : Nat) (ht : κ.Kept t.core) :
      κ.Kept (if c then t.redFault n g off else t).core := by split <;> simp [ht]
  have hdrop (l : Link) : κ.Kept ({ s.dropCombine e with link := l } : State).core := hk
  unfold State.rootWrite
  refine hred _ _ _ _ ?_
  dsimp only
  split
  · exact (hdrop _).of (State.refusedRec_core ..)
  · next h =>
    have ht := State.ownWrite_kept h (hdrop _)
    split
    · simp [ht]
    · exact State.physPutLe_kept _ _ _ ht

@[simp] theorem State.closeCombine_kept {κ : Core} {s : State} (e : Combine) (partial_ : Bool) (hk : κ.Kept s.core) :
    κ.Kept (s.closeCombine e partial_).core := by simp [hk, State.closeCombine]

theorem State.joinCombine_kept {κ : Core} {s : State} {t : State} {n : Nat} {ing : Option Nat} {h : Header}
    (hs : s.joinCombine n ing h = some t) (hk : κ.Kept s.core) : κ.Kept t.core := by
  unfold State.joinCombine at hs
  dsimp only at hs
  split at hs <;> cases hs
  simp [hk]

theorem State.reduceAt_kept {κ : Core} {s t : State} {n : Nat} {ing : Option Nat} {h : Header}
    (hs : s.reduceAt n ing h = some t) (hk : κ.Kept s.core) : κ.Kept t.core := by
  unfold State.reduceAt at hs
  extract_lets g drop pass at hs
  have hdrop (hd : drop = some t) : κ.Kept t.core := by
    obtain rfl := Option.some.inj hd
    simp [hk]
  have hpass (p : Nat) (hp : pass p = some t) : κ.Kept t.core := by
    obtain rfl := Option.some.inj hp
    simp [hk]
  split at hs
  · exact hdrop hs
  · split at hs
    · split at hs
      · exact hdrop hs
      · split at hs
        · exact hpass _ hs
        · split at hs
          · exact hdrop hs
          · exact State.joinCombine_kept hs hk
    · split at hs
      · cases hs
        simp [hk]
      · split at hs
        · exact State.joinCombine_kept hs hk
        · exact hpass _ hs

@[simp] theorem execLReduce_kept {κ : Core} {s : State} (stop : BitVec 3) (h : Header) (hk : κ.Kept s.core) :
    (execLReduce stop h s).Kept κ := by
  unfold execLReduce
  refine whenLink_kept hk fun t ht => Out.kept_next.2 ?_
  split
  · exact ht
  · exact getD_kept (fun r hr => State.reduceAt_kept hr (by simp [ht])) ht

@[simp] theorem execReduceWaitExpire_kept {κ : Core} {s : State} (stop : BitVec 3) (die : BitVec 9) (group : BitVec 8)
    (offset : BitVec 17) (hk : κ.Kept s.core) : (execReduceWaitExpire stop die group offset s).Kept κ := by
  unfold execReduceWaitExpire
  refine whenLink_kept hk fun t hk => ?_
  repeat' split
  all_goals simp [hk]

theorem State.originate_kept {κ : Core} {s t : State} {n : Nat} {h : Header}
    (hs : s.originate n h = some t) (hk : κ.Kept s.core) : κ.Kept t.core := by
  unfold State.originate at hs
  dsimp only at hs
  split at hs
  · exact State.reduceAt_kept hs (hk.of (State.answerBare_core ..))
  · split at hs
    · cases hs
    · cases hs
      refine hk.of ((State.forward_core ..).trans ?_)
      split <;> rfl

@[simp] theorem execZlRoute_kept {κ : Core} {s : State} (stop : BitVec 3) (h : Header) (hk : κ.Kept s.core) :
    (execZlRoute stop h s).Kept κ := by
  unfold execZlRoute
  refine whenLink_kept hk fun t ht => Out.kept_next.2 ?_
  split
  · exact ht
  · split
    · exact getD_kept (fun r hr => State.originate_kept hr (by simp [ht])) ht
    · split
      · exact getD_kept (fun r hr => State.reduceAt_kept hr (by simp [ht])) ht
      · split
        · split <;> simp [ht]
        · simp [ht]

@[simp] theorem State.linkAnswer_kept {κ : Core} {s : State} (h : Header) (hk : κ.Kept s.core) :
    κ.Kept (s.linkAnswer h).core := by
  unfold State.linkAnswer
  dsimp only
  repeat' split
  all_goals simp [hk]

@[simp] theorem execLRspData_kept {κ : Core} {s : State} (h : Header) (hk : κ.Kept s.core) : (execLRspData h s).Kept κ
    := by
  unfold execLRspData
  refine whenLink_kept hk fun t hk => ?_
  repeat' split
  all_goals simp [hk]

@[simp] theorem execLRspAck_kept {κ : Core} {s : State} (h : Header) (hk : κ.Kept s.core) : (execLRspAck h s).Kept κ
    := by
  unfold execLRspAck
  refine whenLink_kept hk fun t hk => ?_
  repeat' split
  all_goals simp [hk]

@[simp] theorem execMailbox_kept {κ : Core} {s : State} (h : Header) (hk : κ.Kept s.core) : (execMailbox h s).Kept κ
    := by
  unfold execMailbox
  refine whenLive_kept hk fun t hk => ?_
  dsimp only
  repeat' split
  all_goals simp [hk]

@[simp] theorem execPllLockLoss_kept {κ : Core} {s : State} (src : BitVec 4) (fin : LockEnd) (hk : κ.Kept s.core) :
    (execPllLockLoss src fin s).Kept κ := by
  unfold execPllLockLoss
  repeat' split
  all_goals simp [hk]

@[simp] theorem State.crackCluster_kept {κ : Core} {s : State} (c mean : Nat) (hk : κ.Kept s.core) :
    κ.Kept (s.crackCluster c mean).core := by simp [hk, State.crackCluster]

@[simp] theorem State.suspicion_kept {κ : Core} {s : State} (r mean : Nat) (hk : κ.Kept s.core) :
    κ.Kept (s.suspicion r mean).core := by
  unfold State.suspicion
  dsimp only
  repeat' split
  all_goals simp [hk]

@[simp] theorem State.crackSample_kept {κ : Core} {s : State} (r : Nat) (hk : κ.Kept s.core) :
    κ.Kept (s.crackSample r).core := by simp [hk, State.crackSample]

@[simp] theorem State.railSample_kept {κ : Core} {s : State} (r v est : Nat) (hk : κ.Kept s.core) :
    κ.Kept (s.railSample r v est).core := by simp [hk, State.railSample]

@[simp] theorem execTelemetrySample_kept {κ : Core} {s : State} (volts : List (BitVec 16)) (ests : List (BitVec 32))
    (hk : κ.Kept s.core) : (execTelemetrySample volts ests s).Kept κ := by
  have hstamp {r : State} (p : Power) (hr : κ.Kept r.core) : κ.Kept ({ r with power := p } : State).core := hr
  unfold execTelemetrySample
  refine whenTow_kept hk fun t ht => Out.kept_next.2 ?_
  split
  · exact ht
  · exact foldl_kept (hstamp _ ht) fun r k hr => State.railSample_kept _ _ _ hr

@[simp] theorem execClusterIdleClose_kept {κ : Core} {s : State} (cluster : BitVec 4) (hk : κ.Kept s.core) :
    (execClusterIdleClose cluster s).Kept κ := by
  unfold execClusterIdleClose
  refine whenTow_kept hk fun t hk => ?_
  dsimp only
  repeat' split
  all_goals simp [hk]

@[simp] theorem execUnmetStep_kept {κ : Core} {s : State} (hk : κ.Kept s.core) : (execUnmetStep s).Kept κ := by
  unfold execUnmetStep
  refine whenLive_kept hk fun t ht => ?_
  extract_lets +onlyGivenNames due
  refine Out.kept_next.2 ?_
  split
  · exact ht
  · extract_lets +onlyGivenNames power s1 free
    have h1 : κ.Kept s1.core := ht
    clear_value s1
    split
    · exact foldl_kept h1 fun r c hr => State.closeCluster_kept _ hr
    · split
      · exact State.closeCluster_kept _ h1
      · exact h1

@[simp] theorem State.commitFailure_kept {κ : Core} {s : State} (hk : κ.Kept s.core) :
    κ.Kept (s.commitFailure).core := by simp [hk, State.commitFailure]

@[simp] theorem State.authFailure_kept {κ : Core} {s : State} (m cls result : Nat) (hk : κ.Kept s.core) :
    κ.Kept (s.authFailure m cls result).core := by simp [hk, State.authFailure]

@[simp] theorem State.lockFx_kept {κ : Core} {s : State} (cls : Nat) (l : List (Nat × Nat × Nat × Nat)) (old : State)
    (hk : κ.Kept s.core) : κ.Kept (s.lockFx cls l old).core := by
  have hscratch (moved : List Nat) : κ.Kept ({ s with basin := { s.basin with
      scratch := moved.foldl (fun (m : Cells) k => m.wipe (k * 2 ^ 19) (2 ^ 19)) s.basin.scratch } } : State).core :=
    hk.trans ⟨rfl, rfl, rfl, id, id, fun h => List.foldlRecOn (motive := fun m => Memory.wf m = true) moved _ h
      fun m hm k _ => Memory.wf_wipe _ _ _ hm, id, id⟩
  unfold State.lockFx
  split
  · refine foldl_kept ((hscratch _).of ((State.swapsOn_core ..).trans (State.partKeys_core ..)))
      fun t c ht => foldl_kept ht fun t i ht => ?_
    dsimp only
    split <;> simp [ht]
  · split
    · simp [hk]
    · split
      · exact foldl_kept hk fun t p ht => by simp [ht]
      · repeat' split
        all_goals simp [hk]

@[simp] theorem State.lockCycle_kept {κ : Core} {s : State} (cls : Nat) (l : List (Nat × Nat × Nat × Nat))
    (hk : κ.Kept s.core) : κ.Kept (s.lockCycle cls l).core := by simp [hk, State.lockCycle]

@[simp] theorem State.applyCommit_kept {κ : Core} {s : State} (m : Nat) (p : Proposal) (hk : κ.Kept s.core) : κ.Kept
    (s.applyCommit m p).core := by
  unfold State.applyCommit
  dsimp only
  repeat' split
  all_goals simp [hk]

@[simp] theorem State.kPropose_kept {κ : Core} {s : State} (m at_ : Nat) (sigOk : Bool) (hk : κ.Kept s.core) :
    κ.Kept (s.kPropose m at_ sigOk).core := by
  have hdone {t : State} (c : Nat) (ht : κ.Kept t.core) : κ.Kept (t.mbDone m c).core := ht.of (State.mbDone_core ..)
  have hauth {t : State} (c d : Nat) (ht : κ.Kept t.core) : κ.Kept (t.authFailure m c d).core :=
    State.authFailure_kept _ _ _ ht
  have hkeeper {t : State} (k : Keeper) (ht : κ.Kept t.core) : κ.Kept ({ t with keeper := k } : State).core := ht
  have hput {t : State} (f : Fld) (v : Nat) (ht : κ.Kept t.core) : κ.Kept (t.put f v).core := ht
  have hmb {t : State} (o n v : Nat) (ht : κ.Kept t.core) : κ.Kept (t.mbPut m o n v).core :=
    ht.of (State.mbPut_core ..)
  have hevent {t : State} (en vec : Fld) (ht : κ.Kept t.core) : κ.Kept (t.eventIf en vec).core :=
    ht.of (State.eventIf_core ..)
  unfold State.kPropose
  obtain ⟨fetch, hfetch⟩ : ∃ f, f = State.fetchBlob := ⟨_, rfl⟩
  rw [← hfetch]
  split
  · exact hdone _ hk
  · split
    · exact hdone _ hk
    · extract_lets +onlyGivenNames nonce
      clear_value nonce
      split
      · exact hauth _ _ hk
      · extract_lets +onlyGivenNames k1 k s1 pa cid
        have h1 : κ.Kept s1.core := hkeeper _ hk
        clear_value s1 pa cid
        split
        · exact hdone _ (h1.of (State.refusedRec_core ..))
        · split
          · exact hdone _ h1
          · extract_lets +onlyGivenNames dig
            split
            · exact hauth _ _ h1
            · split
              · exact hauth _ _ h1
              · extract_lets +onlyGivenNames id till p k3 k2 s2 s3 s4
                have h2 : κ.Kept s2.core := hkeeper _ h1
                exact hevent _ _ (hdone _ (hmb _ _ _ (hmb _ _ _ (hput _ _ (hput _ _ h2)))))

@[simp] theorem State.kCountersign_kept {κ : Core} {s : State} (m at_ : Nat) (sigOk : Bool) (hk : κ.Kept s.core) :
    κ.Kept (s.kCountersign m at_ sigOk).core := by
  unfold State.kCountersign
  dsimp only
  repeat' split
  all_goals simp [hk]

@[simp] theorem State.serve_kept {κ : Core} {s : State} (m op at_ : Nat) (sigOk tagOk : Bool) (hk : κ.Kept s.core) :
    κ.Kept (s.serve m op at_ sigOk tagOk).core := by simp [hk, State.serve]

@[simp] theorem State.serveWaiting_kept {κ : Core} {s : State} (hk : κ.Kept s.core) : κ.Kept (s.serveWaiting).core := by
  unfold State.serveWaiting
  refine foldl_kept hk fun t a hk => ?_
  dsimp only
  repeat' split
  all_goals simp [hk]

@[simp] theorem State.mailboxCmd_kept {κ : Core} {s : State} (m op : Nat) (sigOk tagOk : Bool) (hk : κ.Kept s.core) :
    κ.Kept (s.mailboxCmd m op sigOk tagOk).core := by simp [hk, State.mailboxCmd]

@[simp] theorem execNonce_kept {κ : Core} {s : State} (mbox : BitVec 1) (hk : κ.Kept s.core) : (execNonce mbox s).Kept
    κ := by
  unfold execNonce
  refine whenLive_kept hk fun t hk => ?_
  simp [hk]

@[simp] theorem execPropose_kept {κ : Core} {s : State} (mbox : BitVec 1) (sigOk : Bool) (hk : κ.Kept s.core) :
    (execPropose mbox sigOk s).Kept κ := by
  unfold execPropose
  refine whenLive_kept hk fun t hk => ?_
  simp [hk]

@[simp] theorem execCountersign_kept {κ : Core} {s : State} (mbox : BitVec 1) (sigOk : Bool) (hk : κ.Kept s.core) :
    (execCountersign mbox sigOk s).Kept κ := by
  unfold execCountersign
  refine whenLive_kept hk fun t hk => ?_
  simp [hk]

@[simp] theorem execWithdraw_kept {κ : Core} {s : State} (mbox : BitVec 1) (hk : κ.Kept s.core) :
    (execWithdraw mbox s).Kept κ := by
  unfold execWithdraw
  refine whenLive_kept hk fun t hk => ?_
  simp [hk]

@[simp] theorem execQuery_kept {κ : Core} {s : State} (mbox : BitVec 1) (hk : κ.Kept s.core) : (execQuery mbox s).Kept
    κ := by
  unfold execQuery
  refine whenLive_kept hk fun t hk => ?_
  simp [hk]

@[simp] theorem execBundle_kept {κ : Core} {s : State} (mbox : BitVec 1) (hk : κ.Kept s.core) :
    (execBundle mbox s).Kept κ := by
  unfold execBundle
  refine whenLive_kept hk fun t hk => ?_
  simp [hk]

@[simp] theorem execKeyLoad_kept {κ : Core} {s : State} (mbox : BitVec 1) (sigOk tagOk : Bool) (hk : κ.Kept s.core) :
    (execKeyLoad mbox sigOk tagOk s).Kept κ := by
  unfold execKeyLoad
  refine whenLive_kept hk fun t hk => ?_
  simp [hk]

@[simp] theorem execKeyDrop_kept {κ : Core} {s : State} (mbox : BitVec 1) (hk : κ.Kept s.core) :
    (execKeyDrop mbox s).Kept κ := by
  unfold execKeyDrop
  refine whenLive_kept hk fun t hk => ?_
  simp [hk]

@[simp] theorem execQuiesceAck_kept {κ : Core} {s : State} (hk : κ.Kept s.core) : (execQuiesceAck s).Kept κ := by
  unfold execQuiesceAck
  refine whenLive_kept hk fun t hk => ?_
  repeat' split
  all_goals simp [hk]

@[simp] theorem execQuiesceTimeout_kept {κ : Core} {s : State} (hk : κ.Kept s.core) : (execQuiesceTimeout s).Kept κ := by
  unfold execQuiesceTimeout
  refine whenLive_kept hk fun t hk => ?_
  repeat' split
  all_goals simp [hk]

@[simp] theorem execProposalExpire_kept {κ : Core} {s : State} (mbox : BitVec 1) (hk : κ.Kept s.core) :
    (execProposalExpire mbox s).Kept κ := by
  unfold execProposalExpire
  refine whenLive_kept hk fun t hk => ?_
  dsimp only
  split <;> simp [hk]

@[simp] theorem execDebugRelock_kept {κ : Core} {s : State} (hk : κ.Kept s.core) : (execDebugRelock s).Kept κ := by
  unfold execDebugRelock
  refine whenLive_kept hk fun t hk => ?_
  dsimp only
  repeat' split
  all_goals simp [hk]

@[simp] theorem State.dbgWrite_kept {κ : Core} {s : State} (t : Nat) (hk : κ.Kept s.core) : κ.Kept (s.dbgWrite t).core := by
  unfold State.dbgWrite
  split
  · simp [State.updTile_kept t hk fun x => Tile.wf_dbgWrite s.dbgAddr.1 s.dbgAddr.2 _]
  · simp [hk]

@[simp] theorem State.dbgCmd_kept {κ : Core} {s : State} (t cmd : Nat) (hk : κ.Kept s.core) :
    κ.Kept (s.dbgCmd t cmd).core := by simp [hk, State.dbgCmd]

@[simp] theorem execHalt_kept {κ : Core} {s : State} (tile : BitVec 6) (hk : κ.Kept s.core) : (execHalt tile s).Kept κ
    := by
  unfold execHalt
  refine whenTow_kept hk fun t hk => ?_
  simp [hk]

@[simp] theorem execDbgResume_kept {κ : Core} {s : State} (tile : BitVec 6) (hk : κ.Kept s.core) :
    (execDbgResume tile s).Kept κ := by
  unfold execDbgResume
  refine whenTow_kept hk fun t hk => ?_
  simp [hk]

@[simp] theorem execStep_kept {κ : Core} {s : State} (tile : BitVec 6) (hk : κ.Kept s.core) : (execStep tile s).Kept κ
    := by
  unfold execStep
  refine whenTow_kept hk fun t hk => ?_
  simp [hk]

@[simp] theorem execRead_kept {κ : Core} {s : State} (tile : BitVec 6) (hk : κ.Kept s.core) : (execRead tile s).Kept κ
    := by
  unfold execRead
  refine whenTow_kept hk fun t hk => ?_
  simp [hk]

@[simp] theorem execWrite_kept {κ : Core} {s : State} (tile : BitVec 6) (hk : κ.Kept s.core) : (execWrite tile s).Kept
    κ := by
  unfold execWrite
  refine whenTow_kept hk fun t hk => ?_
  simp [hk]

@[simp] theorem State.sensorStopped_kept {κ : Core} {s : State} (hk : κ.Kept s.core) :
    κ.Kept (s.sensorStopped).core := by simp [hk, State.sensorStopped]

@[simp] theorem State.stopUnit_kept {κ : Core} {s : State} (kind i : Nat) (hk : κ.Kept s.core) :
    κ.Kept (s.stopUnit kind i).core := by
  unfold State.stopUnit
  dsimp only
  repeat' split
  all_goals simp [hk]

@[simp] theorem State.stopCmd_kept {κ : Core} {s : State} (v : Nat) (hk : κ.Kept s.core) :
    κ.Kept (s.stopCmd v).core := by
  unfold State.stopCmd
  dsimp only
  repeat' split
  all_goals simp [hk]

@[simp] theorem execStop_kept {κ : Core} {s : State} (src : Source) (value : BitVec 32) (hk : κ.Kept s.core) :
    (execStop src value s).Kept κ := by simp [hk, execStop]

@[simp] theorem execReopen_kept {κ : Core} {s : State} (src : Source) (value : BitVec 32) (hk : κ.Kept s.core) :
    (execReopen src value s).Kept κ := by simp [hk, execReopen]

@[simp] theorem execSensorStopCaptureEnd_kept {κ : Core} {s : State} (hk : κ.Kept s.core) :
    (execSensorStopCaptureEnd s).Kept κ := by
  unfold execSensorStopCaptureEnd
  split <;> simp [hk]

@[simp] theorem execSelftest_kept {κ : Core} {s : State} (pass : Bool) (hk : κ.Kept s.core) :
    (execSelftest pass s).Kept κ := by
  have hcl (c : Nat) : κ.Kept ((List.range 4).foldl (fun s k =>
      s.updTile (4 * c + k) fun x => { x with store := [], written := [] }) s).core :=
    foldl_kept hk fun t k ht => State.updTile_kept _ ht fun _ _ => rfl
  unfold execSelftest
  repeat' split
  all_goals simp [hk, hcl]

@[simp] theorem State.trip_kept {κ : Core} {s : State} (hk : κ.Kept s.core) : κ.Kept (s.trip).core := by
  simp [hk, State.trip]

@[simp] theorem execThermalReading_kept {κ : Core} {s : State} (readings : List (BitVec 10)) (hk : κ.Kept s.core) :
    (execThermalReading readings s).Kept κ := by
  have hpins {r : State} (p : Pins) (hr : κ.Kept r.core) : κ.Kept ({ r with pins := p } : State).core := hr
  refine Out.kept_next.2 ?_
  split
  · exact hk
  · extract_lets +onlyGivenNames pins s1 s2
    have h2 : κ.Kept s2.core := foldl_kept (hpins _ hk) fun t k ht => by
      dsimp only
      split
      · exact (hpins _ ht).of (State.sampleTemp_core ..)
      · exact ht
    clear_value s2
    extract_lets +onlyGivenNames hot s3 cool s4
    have h4 : κ.Kept s4.core := by simp [s4, s3, h2]
    clear_value s4
    split
    · simp [h4]
    · split
      · exact h4
      · extract_lets before s5
        split <;> simp [s5, h4]

@[simp] theorem execThermalTrip_kept {κ : Core} {s : State} (sensor : BitVec 5) (hk : κ.Kept s.core) :
    (execThermalTrip sensor s).Kept κ := by simp [hk, execThermalTrip]

@[simp] theorem execDiodeMeasure_kept {κ : Core} {s : State} (v10 v100 : BitVec 16) (reading : BitVec 10)
    (hk : κ.Kept s.core) : (execDiodeMeasure v10 v100 reading s).Kept κ := by simp [hk, execDiodeMeasure]

@[simp] theorem State.objCmd_kept {κ : Core} {s : State} (v : Nat) (hk : κ.Kept s.core) : κ.Kept (s.objCmd v).core := by
  have hcore {o : Out} (h : o.core? = some s.core) : κ.Kept (o.after s).core := Out.after_kept (Out.kept_of_core? hk h)
  unfold State.objCmd
  split
  · exact hcore (execCtxOpen_core? ..)
  · exact Out.after_kept (execCtxClose_kept _ hk)
  · exact hcore (execCtxRelease_core? ..)
  · exact Out.after_kept (execCtxReset_kept _ hk)
  · exact Out.after_kept (execCtxLose_kept _ hk)
  · exact hcore (execGroupBind_core? ..)
  · exact hcore (execGroupUnbind_core? ..)
  · exact hcore (execQueueEnable_core? ..)
  · exact Out.after_kept (execQueueDisable_kept _ hk)
  · exact hcore (execQueueResume_core? ..)
  · exact Out.after_kept (execWaitHost_kept _ _ hk)
  · exact Out.after_kept (execWaitPoke_kept _ hk)
  · exact hcore (execWaitCancel_core? ..)
  · exact Out.after_kept (objCommand_kept hk fun t ht => by simp [ht])

@[simp] theorem State.faultCmd_kept {κ : Core} {s : State} (v : Nat) (hk : κ.Kept s.core) : κ.Kept (s.faultCmd v).core := by
  unfold State.faultCmd
  split
  · exact Out.after_kept (execResume_kept _ hk)
  · exact Out.after_kept (execKill_kept _ hk)
  · simp [hk]

@[simp] theorem State.mbCmd_kept {κ : Core} {s : State} (m v : Nat) (hk : κ.Kept s.core) :
    κ.Kept (s.mbCmd m v).core := by simp [hk, State.mbCmd]

theorem kept_of_ite_some {κ : Core} {c : Prop} [Decidable c] {a t : State} {o : Option State} (ha : κ.Kept a.core)
    (ho : o = some t → κ.Kept t.core) (h : (if c then some a else o) = some t) : κ.Kept t.core := by
  split at h
  · cases h
    exact ha
  · exact ho h

theorem State.writeOwn_kept {κ : Core} {s t : State} {src : Source} {d : RegDesc} {o : Nat} {p : Part} {raw : Nat}
    (h : s.writeOwn src d o p raw = some t) (hk : κ.Kept s.core) : κ.Kept t.core := by
  have hwarm (v : BitVec 32) : κ.Kept ((execWarm src v s).core?.getD s.core) := Out.getD_kept (execWarm_kept src v hk)
  unfold State.writeOwn at h
  dsimp only at h
  revert h
  repeat refine kept_of_ite_some (by simp [hk, hwarm]) ?_
  exact nofun

@[simp] theorem State.regWrite_kept {κ : Core} {s : State} (src : Source) (d : RegDesc) (o : Nat) (p : Part) (v : Nat)
    (hk : κ.Kept s.core) : κ.Kept (s.regWrite src d o p v).core := by
  unfold State.regWrite
  split
  · next h => exact hk.of (State.clearOnWrite_core h)
  · split
    · next h => exact State.writeOwn_kept h hk
    · simp [hk]

@[simp] theorem State.write32_kept {κ : Core} {s : State} (src : Source) (o v : Nat) (hk : κ.Kept s.core) :
    κ.Kept (s.write32 src o v).core := by
  unfold State.write32
  repeat' split
  all_goals simp [hk]

@[simp] theorem State.reachedWrite_kept {κ : Core} {s : State} (src : Source) (o v : Nat) (hk : κ.Kept s.core) :
    κ.Kept (s.reachedWrite src o v).core := by simp [hk, State.reachedWrite]

@[simp] theorem State.writeAt_kept {κ : Core} {s : State} (src : Source) (o size v : Nat) (hk : κ.Kept s.core) :
    κ.Kept (s.writeAt src o size v).core := by
  unfold State.writeAt
  repeat' split
  all_goals simp [hk]

@[simp] theorem execRegisterWrite_kept {κ : Core} {s : State} (offset : BitVec 26) (size : BitVec 4)
    (value : BitVec 64) (hk : κ.Kept s.core) : (execRegisterWrite offset size value s).Kept κ := by
  simp [hk, execRegisterWrite]

@[simp] theorem execClearOnWrite_kept {κ : Core} {s : State} (offset : BitVec 26) (size : BitVec 4)
    (value : BitVec 64) (hk : κ.Kept s.core) : (execClearOnWrite offset size value s).Kept κ := by
  simp [hk, execClearOnWrite]

@[simp] theorem State.mgmtWrite_kept {κ : Core} {s : State} (o n len v : Nat) (hk : κ.Kept s.core) :
    κ.Kept (s.mgmtWrite o n len v).core := by simp [hk, State.mgmtWrite]

@[simp] theorem execWrite32_kept {κ : Core} {s : State} (offset : BitVec 32) (len : BitVec 8) (value : BitVec 32)
    (hk : κ.Kept s.core) : (execWrite32 offset len value s).Kept κ := by simp [hk, execWrite32]

@[simp] theorem execWrite64_kept {κ : Core} {s : State} (offset : BitVec 32) (len : BitVec 8) (value : BitVec 64)
    (hk : κ.Kept s.core) : (execWrite64 offset len value s).Kept κ := by simp [hk, execWrite64]

@[simp] theorem execJtagTowpathAccess_kept {κ : Core} {s : State} (write : Bool) (offset : BitVec 26)
    (size : BitVec 4) (value : BitVec 64) (code : BitVec 8) (hk : κ.Kept s.core) :
    (execJtagTowpathAccess write offset size value code s).Kept κ := by simp [hk, execJtagTowpathAccess]

theorem State.unitEcc_kept {κ : Core} {s : State} {c : Nat} {rs : List (Nat × Nat)} {hits : List TileHit}
    {fx : State → State × Option Exc} (hk : κ.Kept s.core) (hfx : ∀ t, κ.Kept t.core → κ.Kept (fx t).1.core) :
    κ.Kept (s.unitEcc c rs hits fx).1.core := by
  have hecc := State.readEcc_kept c (s.tile c).cid rs hits hk
  unfold State.unitEcc
  split
  · next he => exact fst_kept he hecc
  · next he => exact hfx _ (fst_kept he hecc)

@[simp] theorem State.storeLe_kept {κ : Core} {s : State} (c a n v : Nat) (hk : κ.Kept s.core) :
    κ.Kept (s.storeLe c a n v).core := by simp [hk, State.storeLe]

@[simp] theorem execMma_kept {κ : Core} {s : State} (u : BitVec 7) (acc : BitVec 3) (ta tb aux : BitVec 4)
    (zero neg : Bool) (rsv : BitVec 9) (hits : List TileHit) (hk : κ.Kept s.core) :
    (execMma u acc ta tb aux zero neg rsv hits s).Kept κ := by
  refine next_issue_kept hk fun t ht => ?_
  extract_lets +onlyGivenNames tile va vb enc
  split
  · extract_lets +onlyGivenNames fp last chain es go f
    have hgo : κ.Kept (go t).1.core := State.unitEcc_kept ht fun r hr => by
      dsimp only
      split <;> next h => exact (fst_kept h (by
        rw [State.mmaSteps_core]
        split <;> simp [hr])).of (State.countRead_core ..)
    split
    · split
      · exact ht.of (State.unitFx_core ..)
      · exact hgo.of (State.unitFx_core ..)
    · exact State.unitOp_kept ht hgo
  · exact State.unitOp_kept ht ht

@[simp] theorem State.putElem_kept {κ : Core} {s : State} (c : Nat) (d : Desc) (i0 i1 i2 i3 code : Nat)
    (hk : κ.Kept s.core) : κ.Kept (s.putElem c d i0 i1 i2 i3 code).core := by simp [hk, State.putElem]

@[simp] theorem State.cvtElems_kept {κ : Core} {src s : State} (c : Nat) (v : Cvt) (tmode : Word)
    (es : List (Nat × Nat × Nat × Nat × Nat)) (hk : κ.Kept s.core) :
    κ.Kept (State.cvtElems src s c v tmode es).1.core := by
  induction es generalizing s with
  | nil => exact hk
  | cons e es ih =>
    unfold State.cvtElems
    dsimp only
    split
    · exact hk
    · exact ih (by simp [hk])

@[simp] theorem State.cvtBlock_kept {κ : Core} {src s : State} (c : Nat) (v : Cvt) (tmode : Word)
    (es : List (Nat × Nat × Nat × Nat × Nat)) (hk : κ.Kept s.core) :
    κ.Kept (State.cvtBlock src s c v tmode es).1.core := by
  unfold State.cvtBlock
  dsimp only
  split
  · exact hk
  · split
    · exact hk
    · exact foldl_kept (State.storeLe_kept _ _ _ _ hk) fun t e ht => by simp [ht]

@[simp] theorem State.cvtBlocks_kept {κ : Core} {src s : State} (c : Nat) (v : Cvt) (tmode : Word) (n : Nat)
    (es : List (Nat × Nat × Nat × Nat × Nat)) (hk : κ.Kept s.core) :
    κ.Kept (State.cvtBlocks src s c v tmode n es).1.core := by
  induction n generalizing s es with
  | zero => exact hk
  | succ n ih =>
    unfold State.cvtBlocks
    have hblock := State.cvtBlock_kept (src := src) c v tmode (es.take 32) hk
    split
    · exact hk
    · split
      · next h => exact fst_kept h hblock
      · next h => exact ih _ (fst_kept h hblock)

@[simp] theorem execCvt_kept {κ : Core} {s : State} (u : BitVec 7) (acc : BitVec 3) (ta tb aux : BitVec 4)
    (rm : BitVec 3) (ieee rescale srcT : Bool) (rsv : BitVec 5) (hits : List TileHit) (hk : κ.Kept s.core) :
    (execCvt u acc ta tb aux rm ieee rescale srcT rsv hits s).Kept κ := by
  refine next_issue_kept hk fun t ht => ?_
  extract_lets +onlyGivenNames tile enc srcs
  split
  · next d e _ _ =>
    extract_lets +onlyGivenNames v shape isleBad srcR
    refine State.unitOp_kept ht ?_
    extract_lets +onlyGivenNames unw
    split
    · exact ht
    · refine State.unitEcc_kept ht fun r hr => ?_
      have hblocks := fun v tm n es => State.cvtBlocks_kept (src := r) (coreOf u) v tm n es hr
      have helems := fun v tm es => State.cvtElems_kept (src := r) (coreOf u) v tm es hr
      extract_lets +onlyGivenNames kindBad els
      split
      · exact hr.of (State.countRead_core ..)
      · split
        · dsimp only
          split <;> next h => exact (fst_kept h (hblocks _ _ _ _)).of (State.countRead_core ..)
        · dsimp only
          split <;> next h => exact (fst_kept h (helems _ _ _)).of (State.countRead_core ..)
  · exact State.unitOp_kept ht ht

@[simp] theorem State.vload_kept {κ : Core} {s : State} (u : BitVec 7) (vd vs1 vs2 : BitVec 5) (pd : BitVec 3)
    (hits : List TileHit) (strided : Bool) (bytes : Nat) (widen : Nat → Word) (hk : κ.Kept s.core) :
    (s.vload u vd vs1 vs2 pd hits strided bytes widen).Kept κ :=
  next_issue_kept hk fun t ht => State.vec_kept ht (by
    split
    · exact ht
    · next h => exact State.unitEcc_kept (ht.of (State.readRanges_core h)) fun r hr => by simp [hr])

@[simp] theorem State.vstore_kept {κ : Core} {s : State} (u : BitVec 7) (vd vs1 vs2 : BitVec 5) (pd : BitVec 3)
    (hits : List TileHit) (strided : Bool) (bytes : Nat) (hk : κ.Kept s.core) :
    (s.vstore u vd vs1 vs2 pd hits strided bytes).Kept κ :=
  next_issue_kept hk fun t ht => State.vec_kept ht (State.unitEcc_kept ht fun r hr =>
    State.updTile_kept _ hr fun x hx => Tile.wf_foldl hx fun y i => Tile.wf_wrLe _ _ _)

@[simp] theorem execRtld_kept {κ : Core} {s : State} (u : BitVec 7) (vd vs1 vs2 : BitVec 5) (pd : BitVec 3)
    (hits : List TileHit) (hk : κ.Kept s.core) : (execRtld u vd vs1 vs2 pd hits s).Kept κ :=
  next_issue_kept hk fun t ht => State.vec_kept ht (by
    split
    · exact ht
    · next h => exact State.unitEcc_kept (ht.of (State.readRanges_core h)) fun r hr => by simp [hr])

@[simp] theorem execRtst_kept {κ : Core} {s : State} (u : BitVec 7) (vd vs1 vs2 : BitVec 5) (pd : BitVec 3)
    (hk : κ.Kept s.core) : (execRtst u vd vs1 vs2 pd s).Kept κ := by
  have hrow (t : State) (c a g : Nat) (ht : κ.Kept t.core) : κ.Kept (t.updTile c fun x => (List.range 64).foldl
      (fun (x : Tile) j => x.wrLe (a + 8 * j) 8 (Tab.get 0 x.rescale (64 * g + j)).toNat) x).core :=
    State.updTile_kept _ ht fun x hx => Tile.wf_foldl hx fun y i => Tile.wf_wrLe _ _ _
  unfold execRtst
  exact next_issue_kept hk fun t ht => State.vec_kept ht (hrow _ _ _ _ ht)

/-! ## The commands that do more than keep the core, and those that blow fuses -/

@[simp] theorem State.commitSvns_core (s : State) : s.commitSvns.core = s.core := by
  unfold State.commitSvns
  split <;> rfl

@[simp] theorem execFlightReady_core? (s : State) : (execFlightReady s).core? = some s.core := by
  unfold execFlightReady
  refine congrArg some ?_
  split
  · rfl
  · dsimp only
    split <;> simp

@[simp] theorem State.derate_core (s : State) (c : Nat) : (s.derate c).core = s.core := by
  unfold State.derate
  dsimp only
  split
  · simp
  · split <;> simp

@[simp] theorem execAgeingCheck_core? (cluster : BitVec 4) (ran : BitVec 40) (mean : BitVec 10) (s : State) :
    (execAgeingCheck cluster ran mean s).core? = some s.core := by
  unfold execAgeingCheck
  refine whenLive_core? _ _ _ fun t => ?_
  dsimp only
  repeat' split
  all_goals simp

/-- The core with the count and the waiting step given. -/
def Core.at (κ : Core) (gtc stepBy : Nat) : Core := { κ with gtc, stepBy }

theorem State.coldReset_kept (s : State) : (s.core.at 0 0).Kept s.coldReset.core :=
  ⟨rfl, rfl, rfl, id, fun _ => rfl, fun _ => rfl, fun _ => rfl, fun _ _ => rfl⟩

theorem whenLink_of {P : Out → Prop} {s : State} {f : State → Out} (hs : P (.next s)) (hf : P (f s)) :
    P (whenLink s f) := by
  unfold whenLink whenLive
  split
  · split <;> assumption
  · exact hs

theorem State.timeOffset_kept {κ : Core} {s : State} (offset : Int) (hk : κ.Kept s.core) :
    ∃ k, (κ.at κ.gtc k).Kept (s.timeOffset offset).core := by
  have hstep (k : Nat) (l : Link) : (κ.at κ.gtc k).Kept ({ s with
      copies := { s.copies with stepBy := k }, link := l } : State).core :=
    ⟨hk.gtc, hk.pending, rfl, hk.mem, hk.log, hk.scratch, hk.sram, hk.stores⟩
  have hstay (l : Link) : κ.Kept (({ s with link := l } : State).steer offset).core := hk.of (State.steer_core ..)
  unfold State.timeOffset
  split
  · exact ⟨_, (hstep (offset / 64).toNat _).of (State.put_core ..)⟩
  · exact ⟨κ.stepBy, (hstay _).of (State.put_core ..)⟩

theorem execTimeSyncExchange_kept {κ : Core} {s : State} (t1 t2 t3 t4 : BitVec 64) (hk : κ.Kept s.core) :
    ∃ k, (execTimeSyncExchange t1 t2 t3 t4 s).Kept (κ.at κ.gtc k) := by
  have hstay : ∃ k, Out.Kept (κ.at κ.gtc k) (.next s) := ⟨κ.stepBy, s, rfl, hk⟩
  have hnext {t : State} (x : Int) (ht : κ.Kept t.core) : ∃ k, Out.Kept (κ.at κ.gtc k) (.next (t.timeOffset x)) := by
    obtain ⟨k, h⟩ := State.timeOffset_kept x ht
    exact ⟨k, Out.kept_next.2 h⟩
  have hat {r : State} (l : Link) (hr : κ.Kept r.core) : κ.Kept ({ r with link := l } : State).core := hr
  have hput {r : State} (f : Fld) (v : Nat) (hr : κ.Kept r.core) : κ.Kept (r.put f v).core := hr
  refine whenLink_of (P := fun o => ∃ k, o.Kept (κ.at κ.gtc k)) hstay ?_
  dsimp only
  split
  · exact hstay
  · exact hnext _ ((hput _ _ (hput _ _ (hat _ hk))).of ((State.send_core ..).trans (State.sample_core ..)))

/-! ## Every command -/

/-- Each command but power-on and the time exchange keeps the core. -/
theorem exec_kept {κ : Core} {c : Instr} {s : State} (hcold : c ≠ .coldReset)
    (htime : ∀ t1 t2 t3 t4, c ≠ .timeSyncExchange t1 t2 t3 t4) (hk : κ.Kept s.core) : Out.Kept κ (exec c s) := by
  have hcore {o : Out} (h : o.core? = some s.core) : o.Kept κ := Out.kept_of_core? hk h
  cases c
  case coldReset => exact absurd rfl hcold
  case timeSyncExchange => exact absurd rfl (htime _ _ _ _)
  case add | sub | and | or | xor | sll | srl | sra | slt | sltu | mul | mulh | mulhu | div | divu | rem | remu | min
      | max | minu | maxu =>
    simp only [exec, execAdd, execSub, execAnd, execOr, execXor, execSll, execSrl, execSra, execSlt, execSltu,
      execMul, execMulh, execMulhu, execDiv, execDivu, execRem, execRemu, execMin, execMax, execMinu, execMaxu]
    exact hcore (State.sss_core? ..)
  case clz | popc =>
    simp only [exec, execClz, execPopc]
    exact hcore (State.ss0_core? ..)
  case aadd | aaddu =>
    simp only [exec, execAadd, execAaddu]
    exact hcore (State.aas_core? ..)
  case alo | ahi =>
    simp only [exec, execAlo, execAhi]
    exact hcore (State.sa0_core? ..)
  case addi | andi | ori | xori | lui | slti =>
    simp only [exec, execAddi, execAndi, execOri, execXori, execLui, execSlti]
    exact hcore (State.ssi_core? ..)
  case lw | lbu =>
    simp only [exec, execLw, execLbu]
    exact State.loadS_kept _ _ _ _ _ _ _ hk
  case sw | sb =>
    simp only [exec, execSw, execSb]
    exact State.storeS_kept _ _ _ _ _ _ _ hk
  case beq | bne | blt | bge | bltu | bgeu =>
    simp only [exec, execBeq, execBne, execBlt, execBge, execBltu, execBgeu]
    exact hcore (State.branch_core? ..)
  case jal | jalr =>
    simp only [exec, execJal, execJalr]
    exact hcore (State.jumpLink_core? ..)
  case loop | lbrk =>
    simp only [exec, execLoop, execLbrk]
    exact hcore (State.loopOp_core? ..)
  case atomAdd | atomAnd | atomOr | atomXor | atomSmin | atomSmax | atomUmin | atomUmax | atomSwap | atomCas |
      atomFadd | atomLoad =>
    simp only [exec, execAtomAdd, execAtomAnd, execAtomOr, execAtomXor, execAtomSmin, execAtomSmax, execAtomUmin,
      execAtomUmax, execAtomSwap, execAtomCas, execAtomFadd, execAtomLoad]
    exact State.atom_kept _ _ _ _ _ _ _ hk
  case reduceSum | reduceMax | reduceMin | reduceAbsmax =>
    simp only [exec, execReduceSum, execReduceMax, execReduceMin, execReduceAbsmax]
    exact hcore (State.reduce_core? ..)
  case vadd | vsub | vmul | vmulh | vmulhu | vmin | vmax | vminu | vmaxu | vand | vor | vxor | vsll | vsrl | vsra |
      vabs | vmadd | vsrar | vfabs | vfneg | vf2i =>
    simp only [exec, execVadd, execVsub, execVmul, execVmulh, execVmulhu, execVmin, execVmax, execVminu, execVmaxu,
      execVand, execVor, execVxor, execVsll, execVsrl, execVsra, execVabs, execVmadd, execVsrar, execVfabs, execVfneg,
      execVf2i]
    exact hcore (State.vecInt_core? ..)
  case vfadd | vfsub | vfmul | vfma | vfmin | vfmax | vfrcp | vfrsqrt | vfsqrt | vfexp2 | vflog2 | vfdiv | vi2f |
      vu2f =>
    simp only [exec, execVfadd, execVfsub, execVfmul, execVfma, execVfmin, execVfmax, execVfrcp, execVfrsqrt,
      execVfsqrt, execVfexp2, execVflog2, execVfdiv, execVi2f, execVu2f]
    exact hcore (State.vecFp_core? ..)
  case vcmpeq | vcmpne | vcmplt | vcmple | vcmpltu | vcmpleu | vfcmpeq | vfcmplt | vfcmple | vfcmpun =>
    simp only [exec, execVcmpeq, execVcmpne, execVcmplt, execVcmple, execVcmpltu, execVcmpleu, execVfcmpeq,
      execVfcmplt, execVfcmple, execVfcmpun]
    exact hcore (State.vecCmp_core? ..)
  case pand | por | pxor | pandn =>
    simp only [exec, execPand, execPor, execPxor, execPandn]
    exact hcore (State.predOp_core? ..)
  case vld | vlds | vld8 | vldu8 | vld16 | vldh | vldbf =>
    simp only [exec, execVld, execVlds, execVld8, execVldu8, execVld16, execVldh, execVldbf]
    exact State.vload_kept _ _ _ _ _ _ _ _ _ hk
  case vst | vsts | vst8 | vst16 =>
    simp only [exec, execVst, execVsts, execVst8, execVst16]
    exact State.vstore_kept _ _ _ _ _ _ _ _ hk
  case registerWrite | clearOnWrite | resetNAssert | referencePllLock | ramping | scrub | stepTimeout | refLost |
      keeperSelfTest | bundleTimeout | bundleFetch | imageAuthenticate | warm | cluster | clusterDrainTimeout |
      domainClose | standbyClustersClosed | standbySaveDone | keyStoreWrap | keyStoreUnwrap | dspmDigestCheck |
      stateRestore | concentratorPass | csi2Packet | frameEnd | pd11Close | handoff | ctxClose | ctxReset | ctxLose
      | queueDisable | waitHost | waitPoke | drainEnd | doorbell | stageReadComplete | cancel | packetFetch |
      fenceWait | timestamp | dmaTransferComplete | packetRetire | dispatcherCycle | startMiss | finishMiss |
      budgetOverrun | istoreLineFill | bargeComplete | moverFault | swapComplete | fenceAck | tld | tst | rsend |
      rrecv | alloc | free | signalFence | mma | cvt | rtld | rtst | walkRead | resume | kill | fqBaseWrite |
      fqHeadWrite | memoryRequest | basinRequest | packetInject | meshResponse | reqTimeout | epochFlip |
      epochAbandon | trainingStep | zlRoute | lReduce | lRspData | lRspAck | reduceWaitExpire | mailbox | rsendRetry
      | pllLockLoss | telemetrySample | clusterIdleClose | unmetStep | nonce | propose | countersign | withdraw |
      query | bundle | keyLoad | keyDrop | quiesceAck | quiesceTimeout | proposalExpire | debugRelock | halt |
      dbgResume | step | read | write | jtagLockedInstruction | vglitch | cglitch | kintegrity | kfwCheck |
      monitorWindowCapture | traceWrite | stop | reopen | sensorStopCaptureEnd | selftest | diodeMeasure |
      thermalReading | thermalTrip | write32 | write64 | jtagTowpathAccess | vddSocRemoval =>
    simp [exec, hk]
  all_goals exact hcore (by simp [exec])

/-- Every command completes.  Power-on clears the count, the time exchange may set the step that waits; for the rest the
core is kept. -/
theorem exec_completes (c : Instr) (s : State) : ∃ t g k, exec c s = .next t ∧ (s.core.at g k).Kept t.core ∧
    (c = .coldReset ∧ g = 0 ∨ c ≠ .coldReset ∧ g = s.gtc) := by
  by_cases hcold : c = .coldReset
  · subst hcold
    exact ⟨s.coldReset, 0, 0, rfl, s.coldReset_kept, .inl ⟨rfl, rfl⟩⟩
  by_cases htime : ∃ t1 t2 t3 t4, c = .timeSyncExchange t1 t2 t3 t4
  · obtain ⟨t1, t2, t3, t4, rfl⟩ := htime
    obtain ⟨k, t, ht, hk⟩ := execTimeSyncExchange_kept t1 t2 t3 t4 (Core.Kept.refl s.core)
    exact ⟨t, s.gtc, k, ht, hk, .inr ⟨hcold, rfl⟩⟩
  · obtain ⟨t, ht, hk⟩ := exec_kept hcold (fun a b d e h => htime ⟨a, b, d, e, h⟩) (Core.Kept.refl s.core)
    exact ⟨t, s.gtc, s.copies.stepBy, ht, hk, .inr ⟨hcold, rfl⟩⟩

/-- Settles O54. -/
theorem everyCommandCompletes : Obligations.EveryCommandCompletes := fun c s => by
  obtain ⟨t, g, k, ht, hk, -⟩ := exec_completes c s
  exact ⟨t, ht, hk.pending⟩

/-! ## The tick (R531, R556) -/

theorem State.rcTick_core (s : State) : s.rcTick.core = s.core.at (s.gtc + 3125) s.copies.stepBy :=
  State.leaveCopies_core ..

/-- The ticks that one advance on the PLL adds. -/
def State.pllTicks (s : State) : Nat := (s.copies.frac + 2 * s.gtcInc) / 2 ^ 32

/-- A forward step waits, and the advance on the PLL passes a multiple of 1,024 (R531). -/
def State.stepDue (s : State) : Bool := s.copies.stepBy != 0 && s.gtc / 1024 != (s.gtc + s.pllTicks) / 1024

theorem State.pllTick_core (s : State) : s.pllTick.core =
    s.core.at (s.gtc + s.pllTicks + if s.stepDue then s.copies.stepBy else 0) (if s.stepDue then 0 else s.copies.stepBy) := by
  have hadv (c : Copies) (hc : c.stepBy = s.copies.stepBy) (n : Nat) :
      (({ s with gtc := s.gtc + s.pllTicks, copies := c } : State).holdCopies n).core =
        s.core.at (s.gtc + s.pllTicks) s.copies.stepBy :=
    (State.holdCopies_core ..).trans (by rw [← hc]; rfl)
  have hstep {t : State} (k : Nat) (f : Fld) (ht : t.core = s.core.at (s.gtc + s.pllTicks) s.copies.stepBy)
      (hk : k = t.copies.stepBy) : ((({ t with gtc := t.gtc + k, copies := { t.copies with stepBy := 0 } } : State).leaveCopies
        k fun _ => true).put f 1).core = s.core.at (s.gtc + s.pllTicks + s.copies.stepBy) 0 := by
    have hg : t.gtc = s.gtc + s.pllTicks := congrArg Core.gtc ht
    have hb : t.copies.stepBy = s.copies.stepBy := congrArg Core.stepBy ht
    rw [State.put_core, State.leaveCopies_core]
    rw [hk, hb, hg]
    exact congrArg (Core.at · _ 0) ht
  unfold State.pllTick
  extract_lets +onlyGivenNames f n due adv s1 s2 k left s3 s4
  have h2 : s2.core = s.core.at (s.gtc + s.pllTicks) s.copies.stepBy := hadv { s.copies with frac := f % 2 ^ 32 } rfl _
  have h3 : s3.core =
      s.core.at (s.gtc + s.pllTicks + if s.stepDue then s.copies.stepBy else 0) (if s.stepDue then 0 else s.copies.stepBy) := by
    have hdue : due = s.stepDue := rfl
    simp only [s3, hdue]
    split
    · exact hstep _ _ h2 rfl
    · exact h2
  simp only [s4]
  split <;> split <;> simp [h3]

/-- What follows the advance of the count keeps the core. -/
theorem State.tick_kept {κ : Core} {s : State} (h : κ.Kept (if s.onRc then s.rcTick else s.pllTick).core) : κ.Kept s.tick.core := by
  unfold State.tick
  extract_lets +onlyGivenNames old s1 s2 s3 s4 s5
  have h1 : κ.Kept s1.core := h
  have h4 : κ.Kept s4.core := by simp [s4, s3, s2, h1]
  have h5 : κ.Kept s5.core := by
    simp only [s5]
    split
    · exact State.serveWaiting_kept h4
    · exact h4
  simp [h5]

theorem State.tick_kept_rc {s : State} (h : s.onRc = true) :
    (s.core.at (s.gtc + 3125) s.copies.stepBy).Kept s.tick.core :=
  State.tick_kept (by rw [if_pos h, State.rcTick_core]; exact .refl _)

theorem State.tick_kept_pll {s : State} (h : s.onRc = false) :
    (s.core.at (s.gtc + s.pllTicks + if s.stepDue then s.copies.stepBy else 0)
      (if s.stepDue then 0 else s.copies.stepBy)).Kept s.tick.core :=
  State.tick_kept (by simp only [h, Bool.false_eq_true, if_false, State.pllTick_core]; exact .refl _)

/-- Every step completes and keeps the core but for the count and the step that waits. -/
theorem step_kept {s t : State} (ht : step s = .next t) :
    ∃ g k p, ({ s.core with gtc := g, stepBy := k, pending := p } : Core).Kept t.core := by
  unfold step at ht
  split at ht
  · obtain rfl : s.tick = t := Host.Outcome.next.inj ht
    cases h : s.onRc with
    | true => exact ⟨_, _, _, State.tick_kept_rc h⟩
    | false => exact ⟨_, _, _, State.tick_kept_pll h⟩
  · next c rest _ =>
    obtain ⟨u, g, k, hu, hk, -⟩ := exec_completes c { s with pending := rest }
    obtain rfl : u = t := Host.Outcome.next.inj (hu.symm.trans ht)
    exact ⟨g, k, rest, hk⟩

/-- Settles O56. -/
theorem systemMemoryStaysCanonical : Obligations.SystemMemoryStaysCanonical := fun s t hs ht => by
  obtain ⟨g, k, p, hk⟩ := step_kept ht
  exact hk.mem hs

/-- Settles O57. -/
theorem blockMemoriesStayCanonical : Obligations.BlockMemoriesStayCanonical := fun s t hs ht => by
  obtain ⟨g, k, p, hk⟩ := step_kept ht
  obtain ⟨hlog, hscratch, hsram, hstores⟩ := hs
  exact ⟨hk.log hlog, hk.scratch hscratch, hk.sram hsram, hk.stores hstores⟩

/-- With STEER 0 the rate is one tick of the reference. -/
theorem State.pllTicks_of_steer_zero {s : State} (h : s.get Reg.CLK_GTC_STATUS_STEER = 0) (hf : s.copies.frac < 2 ^ 32) :
    s.pllTicks = 1 := by
  have hinc : s.gtcInc = 2 ^ 31 := by
    unfold State.gtcInc
    rw [h]
    decide
  unfold State.pllTicks
  omega

/-- Settles O52. -/
theorem countNeverGoesBack : Obligations.CountNeverGoesBack := by
  refine ⟨rfl, fun s => ⟨_, rfl, rfl⟩, fun c s t hc ht => ?_, fun s t hp ht => ?_⟩
  · obtain ⟨u, g, k, hu, hk, hg⟩ := exec_completes c s
    obtain rfl : u = t := Host.Outcome.next.inj (hu.symm.trans ht)
    obtain ⟨hcold, -⟩ | ⟨-, rfl⟩ := hg
    · exact absurd hcold hc
    · exact hk.gtc
  · unfold step at ht
    rw [hp] at ht
    obtain rfl : s.tick = t := Host.Outcome.next.inj ht
    cases h : s.onRc with
    | true =>
      have hgtc : s.tick.gtc = s.gtc + 3125 := (State.tick_kept_rc h).gtc
      exact ⟨by omega, fun _ => hgtc, nofun⟩
    | false =>
      have hgtc : s.tick.gtc = _ := (State.tick_kept_pll h).gtc
      have hstep : s.tick.copies.stepBy = _ := (State.tick_kept_pll h).stepBy
      simp only [Core.at, State.stepDue, Bool.and_eq_true, bne_iff_ne] at hgtc hstep
      refine ⟨by omega, nofun, fun _ => ⟨fun hno => ?_, fun hne hpass => ?_, State.pllTicks_of_steer_zero⟩⟩
      · have hnot : ¬ (s.copies.stepBy ≠ 0 ∧ s.gtc / 1024 ≠ (s.gtc + s.pllTicks) / 1024) := by
          rintro ⟨h0, h1⟩
          exact hno.elim h0 h1
        rw [if_neg hnot] at hgtc hstep
        exact ⟨hgtc, hstep⟩
      · have hdue : s.copies.stepBy ≠ 0 ∧ s.gtc / 1024 ≠ (s.gtc + s.pllTicks) / 1024 := ⟨hne, hpass⟩
        rw [if_pos hdue] at hgtc hstep
        exact ⟨hgtc, hstep⟩

end Sys2Proof.Machine

namespace Sys2Proof.Machine

/-! ## The queue of commands and the state after power-on -/

/-- Settles O51. -/
theorem stepRunsTheFrontCommand : Obligations.StepRunsTheFrontCommand :=
  ⟨fun _ _ _ => rfl, fun s h => by
    unfold step
    rw [h]⟩

/-- Settles O58. -/
theorem resetHoldsInvariants : Obligations.ResetHoldsInvariants :=
  ⟨rfl, ⟨rfl, rfl, rfl, fun _ => rfl⟩, fun _ => ⟨Nat.zero_le _, Nat.zero_le _⟩, by decide⟩

theorem State.reset_dom {d : Nat} (h : d ≠ 0) : (State.reset.dom d).st = .closed := by
  simp [State.reset, State.dom, Tab.get, Dom.reset, Ne.symm h]

/-- Settles O53. -/
theorem stateAfterPowerOn : Obligations.StateAfterPowerOn :=
  ⟨rfl, rfl, rfl, rfl, rfl, fun _ => rfl, rfl, rfl, rfl, rfl, rfl, rfl, rfl, fun _ => rfl, fun _ _ => rfl, rfl,
    fun _ => State.reset_dom, rfl, rfl, rfl, fun _ _ => rfl, rfl⟩

/-! ## One instruction and the record of its core -/

theorem Gives.mono {i : Instr} {s : State} {P Q : State → Prop} (h : Gives i s P) (hpq : ∀ t, P t → Q t) : Gives i s Q := by
  obtain ⟨t, ht, hp⟩ := h
  exact ⟨t, ht, hpq t hp⟩

@[simp] theorem Tile.issued_areg (x : Tile) (c : Nat) (ext : Bool) (k : Nat) : (x.issued c ext).areg k = x.areg k := by
  rw [issued_only_fetch]
  rfl

@[simp] theorem Tile.issued_treg (x : Tile) (c : Nat) (ext : Bool) (k : Nat) : (x.issued c ext).treg k = x.treg k := by
  rw [issued_only_fetch]
  rfl

/-- With no unit instruction outstanding and no exception met, an instruction has its effect. -/
theorem State.checked_pass {s : State} {c : Nat} {regs : List Nat} {ranges : List (Nat × Nat)} {es : List (Option Exc)}
    {fx : State → Fx} (hu : (s.tile c).units = []) (hes : firstExc es = none) : s.checked c regs ranges es fx = fx s := by
  rw [State.checked_of_no_units hu, hes]
  rfl

section
variable {i : Instr} {s : State} {c : Nat} {ext : Bool} {fx : State → Fx} {g : Tile → Tile}

/-- An instruction that completes with a change of its core's record makes that change, and control goes on at Next. -/
theorem gives_of_upd (hexec : exec i s = .next (s.issue c ext fx)) (hi : s.canIssue c ext = true)
    (hfx : fx (s.issued c ext) = .done ((s.issued c ext).updTile c g))
    (hst : ∀ x : Tile, (g x).stepping = x.stepping) :
    Gives i s fun t => OnlyCore s t c ∧ t.tile c = (g ((s.tile c).issued c ext)).closeLoops
      (((g ((s.tile c).issued c ext)).pc + wordsLen ext) % 2 ^ 32) 4 := by
  have hstep : (((s.issued c ext).updTile c g).tile c).stepping = false := by
    rw [State.tile_updTile_self, hst]
    exact State.stepping_issued s c ext hi
  simpa using gives_of_done hexec hi hfx (OnlyCore.upd _ _ _) hstep

/-- The same, without what control flow changes. -/
theorem gives_bare_of_upd (hexec : exec i s = .next (s.issue c ext fx)) (hi : s.canIssue c ext = true)
    (hfx : fx (s.issued c ext) = .done ((s.issued c ext).updTile c g))
    (hst : ∀ x : Tile, (g x).stepping = x.stepping) :
    Gives i s fun t => OnlyCore s t c ∧ (t.tile c).bare = (g ((s.tile c).issued c ext)).bare :=
  (gives_of_upd hexec hi hfx hst).mono fun t ⟨hcore, ht⟩ => ⟨hcore, by rw [ht, Tile.closeLoops_bare]⟩

end

theorem Tile.setS_stepping (x : Tile) (k : Nat) (v : Word) : (x.setS k v).stepping = x.stepping := by
  unfold Tile.setS
  split <;> rfl

section
variable {x x' y : Tile} {k : Nat}

/-- What an instruction changes may be read off the tile as issue leaves it, and off the tile before control flow. -/
theorem OnlyS.of_bare {z : Tile} (h : OnlyS x' z k) (hx : x'.bare = x.bare) (hy : y.bare = z.bare) : OnlyS x y k := by
  have hs : x'.bare.s = x.bare.s := congrArg Tile.s hx
  refine ⟨?_, fun j hj => by rw [Tile.sreg_of_bare hy, h.2 j hj, Tile.sreg_of_bare hx]⟩
  rw [hy, ← hx]
  exact hs ▸ h.1

theorem Tile.areg_of_bare (h : x.bare = y.bare) (j : Nat) : x.areg j = y.areg j := by
  rw [← Tile.areg_bare, h, Tile.areg_bare]

theorem Tile.treg_of_bare (h : x.bare = y.bare) (j : Nat) : x.treg j = y.treg j := by
  rw [← Tile.treg_bare, h, Tile.treg_bare]

theorem OnlyA.of_bare {z : Tile} (h : OnlyA x' z k) (hx : x'.bare = x.bare) (hy : y.bare = z.bare) : OnlyA x y k := by
  have ha : x'.bare.a = x.bare.a := congrArg Tile.a hx
  refine ⟨?_, fun j hj => by rw [Tile.areg_of_bare hy, h.2 j hj, Tile.areg_of_bare hx]⟩
  rw [hy, ← hx]
  exact ha ▸ h.1

theorem OnlyT.of_bare {z : Tile} (h : OnlyT x' z k) (hx : x'.bare = x.bare) (hy : y.bare = z.bare) : OnlyT x y k := by
  have ht : x'.bare.t = x.bare.t := congrArg Tile.t hx
  refine ⟨?_, fun j hj => by rw [Tile.treg_of_bare hy, h.2 j hj, Tile.treg_of_bare hx]⟩
  rw [hy, ← hx]
  exact ht ▸ h.1

end

section
variable {i : Instr} {s : State} {c : Nat} {ext : Bool} {fx : State → Fx} {k : Nat}
  (hexec : exec i s = .next (s.issue c ext fx)) (hi : s.canIssue c ext = true)
include hexec hi

/-- An instruction that completes with a write of a scalar register. -/
theorem gives_setS {g : Tile → Word} {v : Word}
    (hfx : fx (s.issued c ext) = .done ((s.issued c ext).updTile c fun x => x.setS k (g x)))
    (hv : g ((s.tile c).issued c ext) = v) :
    Gives i s fun t => OnlyCore s t c ∧ OnlyS (s.tile c) (t.tile c) k ∧ (t.tile c).sreg k = if k = 0 then 0 else v :=
  (gives_bare_of_upd hexec hi hfx fun x => x.setS_stepping _ _).mono fun t ⟨hcore, ht⟩ =>
    ⟨hcore, (OnlyS.set _ _ _).of_bare (Tile.issued_bare _ _ _) ht, by
      rw [Tile.sreg_of_bare ht, Tile.sreg_setS, hv]
      split <;> simp⟩

/-- An instruction that completes with a write of an address register. -/
theorem gives_setA {g : Tile → DWord} {v : DWord}
    (hfx : fx (s.issued c ext) = .done ((s.issued c ext).updTile c fun x => x.setA k (g x)))
    (hv : g ((s.tile c).issued c ext) = v) :
    Gives i s fun t => OnlyCore s t c ∧ OnlyA (s.tile c) (t.tile c) k ∧ (t.tile c).areg k = v :=
  (gives_bare_of_upd hexec hi hfx fun _ => rfl).mono fun t ⟨hcore, ht⟩ =>
    ⟨hcore, (OnlyA.set _ _ _).of_bare (Tile.issued_bare _ _ _) ht, by
      rw [Tile.areg_of_bare ht, Tile.areg_setA, if_pos rfl, hv]⟩

/-- An instruction that completes with a write of a descriptor register. -/
theorem gives_setT {g : Tile → BitVec 256} {v : BitVec 256}
    (hfx : fx (s.issued c ext) = .done ((s.issued c ext).updTile c fun x => x.setT k (g x)))
    (hv : g ((s.tile c).issued c ext) = v) :
    Gives i s fun t => OnlyCore s t c ∧ OnlyT (s.tile c) (t.tile c) k ∧ (t.tile c).treg k = v :=
  (gives_bare_of_upd hexec hi hfx fun _ => rfl).mono fun t ⟨hcore, ht⟩ =>
    ⟨hcore, (OnlyT.set _ _ _).of_bare (Tile.issued_bare _ _ _) ht, by
      rw [Tile.treg_of_bare ht, Tile.treg_setT, if_pos rfl, hv]⟩

end

/-- A register field is 0 where its number is. -/
theorem ite_toNat_eq_zero {n : Nat} (rd : BitVec n) (v : Word) : (if rd.toNat = 0 then 0 else v) = if rd = 0 then 0 else v := by
  simp [← BitVec.toNat_inj]

theorem firstExc_one {p : Bool} {e : Exc} (h : p = false) : firstExc [excIf p e] = none := by
  rw [h]
  rfl

/-! ## Address and descriptor registers, immediates (R318, R320, R321) -/

/-- Settles O2: each form passes its one check and writes its register. -/
theorem addressAndDescriptorForms : Obligations.AddressAndDescriptorForms := by
  intro s u rd rs1 rs2 f hi hu c x toA toS toT
  have hunits : ((s.issued c false).tile c).units = [] := by simpa using hu
  have a {i : Instr} {fx : State → Fx} {g : Tile → DWord} {v : DWord} (hexec : exec i s = .next (s.issue c false fx))
      (hfx : fx (s.issued c false) = .done ((s.issued c false).updTile c fun x => x.setA rd.toNat (g x)))
      (hv : g (x.issued c false) = v) : toA i v := gives_setA hexec hi hfx hv
  have b {i : Instr} {fx : State → Fx} (g : Tile → Word) {v : Word} (hexec : exec i s = .next (s.issue c false fx))
      (hfx : fx (s.issued c false) = .done ((s.issued c false).updTile c fun x => x.setS rd.toNat (g x)))
      (hv : g (x.issued c false) = v) : toS i v := by
    simpa only [ite_toNat_eq_zero] using gives_setS hexec hi hfx hv
  have d {i : Instr} {fx : State → Fx} (g : Tile → BitVec 256) {v : BitVec 256}
      (hexec : exec i s = .next (s.issue c false fx))
      (hfx : fx (s.issued c false) = .done ((s.issued c false).updTile c fun x => x.setT rd.toNat (g x)))
      (hv : g (x.issued c false) = v) : toT i v := gives_setT hexec hi hfx hv
  have hlo (k : DWord) : k.extractLsb' 0 32 = k.setWidth 32 := by ext; simp
  have hhi (k : DWord) : k.extractLsb' 32 32 = (k >>> 32).setWidth 32 := by ext; simp
  have pass {regs : List Nat} {p : Bool} {fx : State → Fx} (h : p = false) :
      (s.issued c false).checked c regs [] [excIf p excEncoding] fx = fx (s.issued c false) :=
    State.checked_pass hunits (firstExc_one h)
  refine ⟨fun (hrd : aOk (coreOf u) _ = _) (h1 : aOk (coreOf u) _ = _) => ⟨a rfl (pass (by simp [hrd, h1])) (by simp [x]),
      a rfl (pass (by simp [hrd, h1])) (by simp [x]), a rfl (pass (by simp [hrd, h1])) (by simp [x])⟩,
    fun (hrd : aOk (coreOf u) _ = _) => a rfl (pass (by simp [hrd])) (by simp [x]),
    fun (h1 : aOk (coreOf u) _ = _) =>
      ⟨b (fun y => (y.areg rs1.toNat).extractLsb' 0 32) rfl (pass (by simp [h1])) (by simp [x, hlo]),
        b (fun y => (y.areg rs1.toNat).extractLsb' 32 32) rfl (pass (by simp [h1])) (by simp [x, hhi])⟩,
    fun (hrd : tOk (coreOf u) _ = _) => ⟨d (fun _ => 0) rfl (pass (by simp [hrd])) rfl,
      fun (h1 : tOk (coreOf u) _ = _) => d (·.treg rs1.toNat) rfl (pass (by simp [hrd, h1])) (by simp [x]),
      fun lo w hf => d (fun y => setField (y.treg rd.toNat) lo w (y.sreg rs1.toNat)) rfl
        ((pass (by simp [hrd, hf])).trans (by simp only [hf]; rfl)) (by simp [x])⟩,
    fun (h1 : tOk (coreOf u) _ = _) lo w hf =>
      b (fun y => BitVec.ofNat 32 ((y.treg rs1.toNat).toNat / 2 ^ lo % 2 ^ w)) rfl
        ((pass (by simp [h1, hf])).trans (by simp only [hf]; rfl)) (by simp [x])⟩

theorem asSigned_toNat {n : Nat} (x : BitVec (n + 1)) : asSigned (n + 1) x.toNat = x.toInt := by
  simp only [asSigned, Nat.mod_eq_of_lt x.isLt, BitVec.toInt_eq_toNat_cond, Nat.add_sub_cancel]
  have h : x.toNat < 2 ^ n ↔ 2 * x.toNat < 2 ^ (n + 1) := by
    rw [Nat.pow_succ]
    omega
  simp only [h]

theorem toNat_append_eq {n m : Nat} (x : BitVec n) (y : BitVec m) : (x ++ y).toNat = x.toNat * 2 ^ m + y.toNat := by
  rw [BitVec.toNat_append, ← Nat.shiftLeft_add_eq_or_of_lt y.isLt, Nat.shiftLeft_eq]

/-- The immediate of an instruction is its field, of 16 bits or behind an EXT word of 42, sign-extended (R300). -/
theorem immOf_eq (imm : BitVec 16) (ext : Option (BitVec 26)) : immOf imm ext = match ext with
    | none => imm.toInt
    | some e => (e ++ imm).toInt := by
  cases ext with
  | none => exact asSigned_toNat imm
  | some e =>
    rw [immOf, ← toNat_append_eq]
    exact asSigned_toNat (n := 41) (e ++ imm)

/-- Settles O3. -/
theorem immediateForms : Obligations.ImmediateForms := by
  intro s u rd rs1 imm ext hi hu c x a i toS
  have hunits : ((s.issued c ext.isSome).tile c).units = [] := by simpa using hu
  have himm : immOf imm ext = i := (immOf_eq imm ext).trans (by cases ext <;> rfl)
  have lands {k : Instr} {v : Word} (zero : Bool) (f : Word → Int → Word) (hexec : exec k s = s.ssi u rd rs1 imm ext zero f)
      (hz : (zero && rs1 != 0) = false) (hv : f a i = v) : toS k v := by
    simpa only [ite_toNat_eq_zero] using gives_setS (g := fun y => f (y.sreg rs1.toNat) (immOf imm ext)) hexec hi
      (State.checked_pass hunits (firstExc_one hz)) (by rw [Tile.issued_sreg, himm]; exact hv)
  refine ⟨lands false (fun a i => a + BitVec.ofInt 32 i) rfl rfl ?_, lands false (fun a i => a &&& BitVec.ofInt 32 i) rfl rfl rfl,
    lands false (fun a i => a ||| BitVec.ofInt 32 i) rfl rfl rfl, lands false (fun a i => a ^^^ BitVec.ofInt 32 i) rfl rfl rfl,
    lands false (fun a i => flagWord (decide (a.toInt < i))) rfl rfl ?_, ?_,
    fun (hrd : aOk (coreOf u) _ = _) (h1 : aOk (coreOf u) _ = _) =>
      gives_setA (g := fun y => y.areg rs1.toNat + BitVec.ofInt 64 (immOf imm ext)) rfl hi
        (State.checked_pass hunits (firstExc_one (by simp [hrd, h1]))) (by rw [Tile.issued_areg, himm])⟩
  · rw [BitVec.ofInt_add, BitVec.ofInt_toInt]
  · simp [flagWord]
  · have hshift : BitVec.ofInt 32 (i * 2 ^ 16) = BitVec.ofInt 32 i <<< 16 := by
      rw [BitVec.ofInt_mul, BitVec.shiftLeft_eq_mul_twoPow]
      rfl
    simpa only [ite_toNat_eq_zero] using gives_setS (i := .lui u rd 0 imm ext)
      (g := fun _ => BitVec.ofInt 32 (immOf imm ext * 2 ^ 16)) rfl hi (State.checked_pass hunits rfl) (by rw [himm, hshift])

/-! ## Branches and jumps (R323, R324) -/

section
variable {i : Instr} {s : State} {c : Nat} {ext : Bool} {fx : State → Fx} {g : Tile → Tile} {pc : Nat}

/-- An instruction that transfers control with a change of its core's record. -/
theorem gives_of_updJump (hexec : exec i s = .next (s.issue c ext fx)) (hi : s.canIssue c ext = true)
    (hfx : fx (s.issued c ext) = .jump ((s.issued c ext).updTile c g) pc)
    (hst : ∀ x : Tile, (g x).stepping = x.stepping) :
    Gives i s fun t => OnlyCore s t c ∧ t.tile c = { g ((s.tile c).issued c ext) with pc := pc % 2 ^ 32 } := by
  have hstep : (((s.issued c ext).updTile c g).tile c).stepping = false := by
    rw [State.tile_updTile_self, hst]
    exact State.stepping_issued s c ext hi
  simpa using gives_of_jump hexec hi hfx (OnlyCore.upd _ _ _) hstep

end

/-- The destination of a branch from `base` (R323). -/
def destOf (base : Int) (imm : BitVec 16) (ext : Option (BitVec 26)) : Nat := ((base + 4 * immOf imm ext).emod (2 ^ 32)).toNat

theorem destOf_lt (base : Int) (imm : BitVec 16) (ext : Option (BitVec 26)) : destOf base imm ext < 2 ^ 32 := by
  have h0 := Int.emod_nonneg (base + 4 * immOf imm ext) (b := 2 ^ 32) (by decide)
  have h1 := Int.emod_lt_of_pos (base + 4 * immOf imm ext) (b := 2 ^ 32) (by decide)
  have he : (destOf base imm ext : Int) = (base + 4 * immOf imm ext) % 2 ^ 32 := Int.toNat_of_nonneg h0
  omega

theorem destOf_mod (base : Int) (imm : BitVec 16) (ext : Option (BitVec 26)) :
    destOf base imm ext % 2 ^ 32 = destOf base imm ext := Nat.mod_eq_of_lt (destOf_lt _ _ _)

section
variable {i : Instr} {s : State} {u : BitVec 7} {rs1 rs2 : BitVec 5} {imm : BitVec 16} {ext : Option (BitVec 26)}
  (hi : s.canIssue (coreOf u) ext.isSome = true) (hu : (s.tile (coreOf u)).units = [])
include hi hu

/-- A branch whose condition holds goes to its destination and leaves the loops (R323, R329). -/
theorem branch_taken {cond : Word → Word → Bool} (hexec : exec i s = s.branch u rs1 rs2 imm ext cond)
    (hcond : cond ((s.tile (coreOf u)).sreg rs1.toNat) ((s.tile (coreOf u)).sreg rs2.toNat) = true) :
    Gives i s fun t => OnlyCore s t (coreOf u) ∧ t.tile (coreOf u) =
      { (s.tile (coreOf u)).issued (coreOf u) ext.isSome with pc := destOf (s.tile (coreOf u)).pc imm ext } := by
  have hjump := gives_of_jump (pc := destOf (s.tile (coreOf u)).pc imm ext) hexec hi
    ((State.checked_pass (by simpa using hu) rfl).trans ?_) (OnlyCore.refl _ _) (State.stepping_issued s _ _ hi)
  · rw [destOf_mod] at hjump
    simpa using hjump
  · simp [hcond, destOf]

/-- A branch whose condition fails goes on at Next (R327). -/
theorem branch_falls {cond : Word → Word → Bool} (hexec : exec i s = s.branch u rs1 rs2 imm ext cond)
    (hcond : cond ((s.tile (coreOf u)).sreg rs1.toNat) ((s.tile (coreOf u)).sreg rs2.toNat) = false) :
    Gives i s fun t => OnlyCore s t (coreOf u) ∧ t.tile (coreOf u) =
      ((s.tile (coreOf u)).issued (coreOf u) ext.isSome).closeLoops
        (((s.tile (coreOf u)).pc + wordsLen ext.isSome) % 2 ^ 32) 4 := by
  have hdone := gives_of_done hexec hi ((State.checked_pass (by simpa using hu) rfl).trans ?_) (OnlyCore.refl _ _)
    (State.stepping_issued s _ _ hi)
  · simpa using hdone
  · simp [hcond]

/-- A jump writes Next to its register and goes to its destination (R324). -/
theorem jumpLink_gives {base : Nat} (hexec : exec i s = s.jumpLink u rs1 rs2 imm ext)
    (hbase : (if rs2 = 0 then (s.tile (coreOf u)).pc else ((s.tile (coreOf u)).sreg rs2.toNat).toNat) = base)
    (halign : rs2 ≠ 0 → destOf base imm ext % 4 = 0) :
    Gives i s fun t => OnlyCore s t (coreOf u) ∧ t.tile (coreOf u) =
      { ((s.tile (coreOf u)).issued (coreOf u) ext.isSome).setS rs1.toNat
          (BitVec.ofNat 32 ((s.tile (coreOf u)).pc + wordsLen ext.isSome)) with pc := destOf base imm ext } := by
  have htarget : (((if rs2 = 0 then ((s.tile (coreOf u)).pc : Int) else ((s.tile (coreOf u)).sreg rs2.toNat).toNat) +
      4 * immOf imm ext).emod (2 ^ 32)).toNat = destOf base imm ext := by
    rw [← hbase, destOf]
    split <;> rfl
  have hjump := gives_of_updJump (pc := destOf base imm ext)
    (g := fun y => y.setS rs1.toNat (BitVec.ofNat 32 (y.pc + wordsLen ext.isSome))) hexec hi
    ((State.checked_pass (by simpa using hu) (firstExc_one ?_)).trans ?_) (fun y => y.setS_stepping _ _)
  · rw [destOf_mod] at hjump
    simpa using hjump
  · simp only [State.tile_issued, Tile.issued_pc, Tile.issued_sreg, htarget]
    by_cases h2 : rs2 = 0
    · simp [h2]
    · simp [halign h2]
  · simp only [State.tile_issued, Tile.issued_pc, Tile.issued_sreg, htarget]

end

/-- Settles O6. -/
theorem branchesAndJumps : Obligations.BranchesAndJumps := by
  intro s u rs1 rs2 imm ext hi hu c x a b dest branch link
  have hlen : wordsLen ext.isSome = if ext.isSome then 8 else 4 := rfl
  have goes {i : Instr} {taken : Prop} (cond : Word → Word → Bool) (hexec : exec i s = s.branch u rs1 rs2 imm ext cond)
      (hcond : cond a b = true ↔ taken) : branch i taken := by
    cases h : cond a b with
    | true =>
      refine (branch_taken hi hu hexec h).mono fun t ⟨hcore, ht⟩ => ⟨hcore, ?_, fun _ => ?_, fun hn => absurd (hcond.1 h) hn⟩
      · rw [ht]
        exact Tile.issued_bare _ _ _
      · rw [ht, Tile.issued_only_fetch]
        exact ⟨rfl, rfl, rfl⟩
    | false =>
      refine (branch_falls hi hu hexec h).mono fun t ⟨hcore, ht⟩ =>
        ⟨hcore, ?_, fun htaken => absurd (hcond.2 htaken) (by simp [h]), fun _ hd => ?_⟩
      · rw [ht, Tile.closeLoops_bare, Tile.issued_bare]
      · rw [ht, Tile.closeLoops_depth0 _ _ _ (by simpa using hd), hlen]
  have links {i : Instr} {rs2 : BitVec 5} {base : Nat} (hexec : exec i s = s.jumpLink u rs1 rs2 imm ext)
      (hbase : (if rs2 = 0 then x.pc else (x.sreg rs2.toNat).toNat) = base)
      (halign : rs2 ≠ 0 → destOf base imm ext % 4 = 0) : link i (destOf base imm ext) := by
    refine (jumpLink_gives hi hu hexec hbase halign).mono fun t ⟨hcore, ht⟩ => ?_
    have hbare : (t.tile c).bare = ((x.issued c ext.isSome).setS rs1.toNat (BitVec.ofNat 32 (x.pc + wordsLen ext.isSome))).bare := by
      rw [ht]
      rfl
    refine ⟨hcore, (OnlyS.set _ _ _).of_bare (Tile.issued_bare _ _ _) hbare, ?_, by rw [ht]⟩
    rw [Tile.sreg_of_bare hbare, Tile.sreg_setS, ← hlen, ← ite_toNat_eq_zero]
    split <;> simp
  refine ⟨goes (· == ·) rfl (by simp), goes (· != ·) rfl (by simp), goes BitVec.slt rfl (by simp [BitVec.slt]),
    goes (fun a b => !(a.slt b)) rfl (by simp [BitVec.slt]), goes BitVec.ult rfl (by simp [BitVec.ult]),
    goes (fun a b => !(a.ult b)) rfl (by simp [BitVec.ult]), links rfl (if_pos rfl) (by simp),
    fun h2 h4 => links rfl (if_neg h2) fun _ => h4⟩

end Sys2Proof.Machine

namespace Sys2Proof.Machine

/-! ## Exceptions of control-core instructions (R302-R305) -/

theorem State.checked_raises {s : State} {c : Nat} {regs : List Nat} {ranges : List (Nat × Nat)} {es : List (Option Exc)}
    {fx : State → Fx} {e : Exc} (hu : (s.tile c).units = []) (hes : firstExc es = some e) :
    s.checked c regs ranges es fx = .exc s e := by
  rw [State.checked_of_no_units hu, hes]
  rfl

theorem firstExc_one_raised {p : Bool} {e : Exc} (h : p = true) : firstExc [excIf p e] = some e := by
  rw [h]
  rfl

/-- On a tile, the checks of an access: misalignment comes before the range (R303). -/
theorem firstExc_access {c : Nat} (hc : c ≠ isleCore) (a : Int) (n : Nat) (write : Bool) (mis : Exc) (hm : mis.code = 0x11) :
    firstExc (accessExcs c a n write mis) = if a.emod n ≠ 0 then some mis
      else if a < 0 ∨ 0x100000 - (n : Int) < a then some (excRange a) else none := by
  have hr : ¬ (excRange a).rank < mis.rank := by simp [Exc.rank, excRange, hm]
  have htop : ((storeTop : Int) + 1 - n) = 0x100000 - n := rfl
  simp only [accessExcs, hc, if_false, htop, beq_iff_eq, Bool.false_and, beq_eq_false_iff_ne.2 hc]
  by_cases h1 : a.emod n = 0
  · by_cases h2 : a < 0 ∨ 0x100000 - (n : Int) < a
    · simp [firstExc, excIf, h1, h2]
    · simp [firstExc, excIf, h1, h2]
  · by_cases h2 : a < 0 ∨ 0x100000 - (n : Int) < a
    · simp [firstExc, excIf, h1, h2, hr]
    · simp [firstExc, excIf, h1, h2]

section
variable {i : Instr} {s : State} {c : Nat} {ext : Bool} {fx : State → Fx} {e : Exc}

/-- A fetch at or beyond SIZE raises fetch range whatever the instruction (R295). -/
theorem raises_fetchRange (hexec : exec i s = .next (s.issue c ext fx)) (hc : c ≠ isleCore) (hx : (s.tile c).exc = none)
    (htask : (s.tile c).task.isSome = true) (hcore : (s.tile c).core = .running) (hhalt : (s.tile c).halted = false)
    (hyield : (s.tile c).yielding = false) (hstep : (s.tile c).stepping = false)
    (hstall : s.stalled (4 * clStop (c / 4) + c % 4) = false) (hbreak : s.breaks c = false)
    (hsize : (s.tile c).progSize ≤ (s.tile c).pc + 4 * b2n ext) : Raises i s c ⟨0x17, 0⟩ := by
  have hraise : s.issue c ext fx = (s.updTile c fun t => { t with bpSkip := false }).updTile c (·.raise ⟨0x17, 0⟩) := by
    have hsome : (s.tile c).task.isNone = false := by simpa using htask
    unfold State.issue
    simp only [hc, if_false, hsome, hcore, hhalt, hyield, hstep, hstall, hbreak, hsize, if_true]
    simp [State.raise, hc]
  refine ⟨_, hexec.trans (congrArg _ hraise), (OnlyCore.upd _ _ _).trans (OnlyCore.upd _ _ _), ?_⟩
  rw [State.tile_updTile_self, State.tile_updTile_self, Tile.raise_eq (x := { s.tile c with bpSkip := false }) _ hx]
  exact ⟨rfl, rfl, rfl, rfl⟩

end

/-- Settles O60. -/
theorem tileExceptions : Obligations.TileExceptions := by
  intro s u rd rs1 rs2 imm off ext hits hu hx hc c x
  have raised {i : Instr} {e : Exc} {x : Bool} {regs : State → List Nat} {ranges : State → List (Nat × Nat)}
      {es : State → List (Option Exc)} {fx : State → State → Fx}
      (hexec : exec i s = .next (s.issue c x fun s => s.checked c (regs s) (ranges s) (es s) (fx s)))
      (hi : s.canIssue c x = true) (hes : firstExc (es (s.issued c x)) = some e) : Raises i s c e :=
    raises_of_exc hexec hi hc hx (State.checked_raises (by simpa using hu) hes)
  have fetched {i : Instr} {fx : State → Fx} (hexec : exec i s = .next (s.issue c false fx)) :=
    raises_fetchRange hexec hc hx
  have hne {k : BitVec 5} (h : k ≠ 0) : ¬k = 0#5 := h
  have abad {k : Nat} (h : 16 ≤ k) : aOk (coreOf u) k = false := by
    have hc' : coreOf u ≠ isleCore := hc
    simp [aOk, fileSize, hc', h]
  have htile : tileOnly (coreOf u) = none := by
    have hc' : coreOf u ≠ isleCore := hc
    simp [tileOnly, excIf, hc']
  have access (n : Nat) (write : Bool) {e : Exc}
      (h : (if (scalarAddr x rs1.toNat off ext).emod n ≠ 0 then some (excAddress rs1.toNat)
        else if scalarAddr x rs1.toNat off ext < 0 ∨ 0x100000 - (n : Int) < scalarAddr x rs1.toNat off ext then
          some (excRange (scalarAddr x rs1.toNat off ext)) else none) = some e) :
      firstExc (accessExcs (coreOf u) (scalarAddr ((s.issued c ext.isSome).tile (coreOf u)) rs1.toNat off ext) n write
        (excAddress rs1.toNat)) = some e := by
    have haddr : scalarAddr ((s.issued c ext.isSome).tile (coreOf u)) rs1.toNat off ext = scalarAddr x rs1.toNat off ext := by
      simp [scalarAddr, c, x]
    rw [haddr]
    exact (firstExc_access hc _ _ _ _ rfl).trans h
  have misaligned {a : Nat} (write : Bool) (ha : scalarAddr x rs1.toNat off ext = a) (h : a % 4 ≠ 0) :=
    access 4 write (e := excAddress rs1.toNat) (by rw [ha, if_pos (by change ((a : Int) % (4 : Nat)) ≠ 0; omega)])
  have beyond {a : Nat} (n : Nat) (write : Bool) (ha : scalarAddr x rs1.toNat off ext = a) (h4 : a % n = 0) (hn : 0 < n)
      (h : 2 ^ 20 ≤ a) := access n write (e := ⟨0x12, min a 0x1FFFFF⟩) (by
    have hmod : (a : Int).emod n = 0 := by
      change (a : Int) % n = 0
      exact_mod_cast h4
    rw [ha, if_neg (by simp [hmod]), if_pos (.inr (by omega))]
    simp only [excRange, Int.toNat_natCast, Option.some.injEq, Exc.mk.injEq, true_and]
    split <;> omega)
  refine ⟨fun hi => ⟨fun h => ⟨raised rfl hi (firstExc_one_raised (by simp [hne h])),
        raised rfl hi (firstExc_one_raised (by simp [hne h]))⟩,
      fun h => raised rfl hi (firstExc_one_raised ?_), fun h => raised rfl hi (firstExc_one_raised ?_),
      fun h => raised rfl hi (firstExc_one_raised ?_), fun h => raised rfl hi ?_,
      fun h => raised rfl hi (firstExc_one_raised ?_), fun hlt h => raised rfl hi ?_⟩,
    fun hi => ⟨fun h h4 => raised rfl hi (firstExc_one_raised ?_), fun a ha =>
        ⟨fun h => ⟨raised rfl hi (misaligned false ha h), raised rfl hi (misaligned true ha h)⟩,
          fun h4 h => ⟨raised rfl hi (beyond 4 false ha h4 (by decide) h), raised rfl hi (beyond 4 true ha h4 (by decide) h)⟩,
          fun h => ⟨raised rfl hi (beyond 1 false ha (Nat.mod_one a) (by decide) h),
            raised rfl hi (beyond 1 true ha (Nat.mod_one a) (by decide) h)⟩⟩,
      fun h => raised rfl hi (access 1 false ?_)⟩,
    fun htask hcore hhalt hyield hstep hstall hbreak hsize => ⟨fetched rfl htask hcore hhalt hyield hstep hstall hbreak hsize,
      fetched rfl htask hcore hhalt hyield hstep hstall hbreak hsize,
      fetched rfl htask hcore hhalt hyield hstep hstall hbreak hsize⟩⟩
  · obtain h | h | h := h
    · simp [abad h]
    · simp [abad h]
    · simp [hne h]
  · obtain h | h := h <;> simp [abad h]
  · have tbad (h : 16 ≤ rd.toNat) : tOk (coreOf u) rd.toNat = false := abad h
    obtain h | h | h := h
    · simp [tbad h]
    · simp [hne h]
    · simp [hne h]
  · rw [htile]
    exact firstExc_one_raised (by simp; omega)
  · have hdiv : imm.toNat / 16 ≠ 0 := by omega
    simp [hdiv]
  · have hdiv : imm.toNat / 32 = 0 := by omega
    have hmod : imm.toNat % 32 = imm.toNat := Nat.mod_eq_of_lt hlt
    have hbits : (x.sreg imm.toNat &&& 0xFFFFFF70 != 0) = true := by simpa using h
    rw [htile, hdiv, hmod, State.tile_issued, Tile.issued_sreg]
    exact firstExc_one_raised hbits
  · have hbase : (((x.sreg rs2.toNat).toNat : Int) + 4 * immOf imm ext) % 4 ≠ 0 := h4
    have htarget : ((((x.sreg rs2.toNat).toNat : Int) + 4 * immOf imm ext) % 2 ^ 32).toNat % 4 ≠ 0 := by omega
    have hreg : ((s.issued c ext.isSome).tile (coreOf u)).sreg rs2.toNat = x.sreg rs2.toNat := by simp [c, x]
    rw [if_neg h, hreg]
    exact Bool.and_eq_true_iff.2 ⟨bne_iff_ne.2 h, bne_iff_ne.2 htarget⟩
  · have hmod : (scalarAddr x rs1.toNat off ext).emod 1 = 0 := Int.emod_one _
    rw [if_neg (by simpa using hmod), if_pos (.inl h)]
    simp [excRange, h]

end Sys2Proof.Machine

namespace Sys2Proof.Machine

/-! ## Waits, the mover queue and time (R331-R337, R350) -/

section
variable {i : Instr} {s : State} {c : Nat} {ext : Bool} {fx : State → Fx}

/-- An instruction that holds its core leaves the state of its effect (R337). -/
theorem gives_of_hold {t : State} {P : State → Prop} (hexec : exec i s = .next (s.issue c ext fx))
    (hi : s.canIssue c ext = true) (hfx : fx (s.issued c ext) = .hold t) (hp : P t) : Gives i s P :=
  ⟨t, hexec.trans (congrArg _ ((State.issue_eq s c ext fx hi).trans (by rw [hfx]; rfl))), hp⟩

/-- An instruction without an effect of its own goes on at Next. -/
theorem gives_goesOn (hexec : exec i s = .next (s.issue c ext fx)) (hi : s.canIssue c ext = true)
    (hfx : fx (s.issued c ext) = .done (s.issued c ext)) :
    Gives i s fun t => OnlyCore s t c ∧ (t.tile c).bare = (s.tile c).bare ∧
      ((s.tile c).depth = 0 → (t.tile c).pc = ((s.tile c).pc + wordsLen ext) % 2 ^ 32) := by
  refine (gives_of_done hexec hi hfx (OnlyCore.refl _ _) (State.stepping_issued s c ext hi)).mono
    fun t ⟨hcore, ht⟩ => ⟨hcore, ?_, fun hd => ?_⟩
  · rw [ht, Tile.closeLoops_bare, State.issued_tile]
  · rw [ht, Tile.closeLoops_depth0 _ _ _ (by simpa using hd)]
    simp

end

/-- What issue leaves of a core's record is the record with other lines used and the breakpoint passed. -/
theorem Tile.exists_issued (x : Tile) (c : Nat) (ext : Bool) : ∃ l b, x.issued c ext = { x with istore := l, bpSkip := b } :=
  ⟨_, _, x.issued_only_fetch c ext⟩

@[simp] theorem Tile.issued_barges (x : Tile) (c : Nat) (ext : Bool) : (x.issued c ext).barges = x.barges := by
  rw [issued_only_fetch]

@[simp] theorem Tile.issued_cid (x : Tile) (c : Nat) (ext : Bool) : (x.issued c ext).cid = x.cid := by
  rw [issued_only_fetch]

@[simp] theorem State.issued_time (s : State) (c : Nat) (ext : Bool) (k : Nat) : (s.issued c ext).time k = s.time k := by
  unfold State.issued
  split <;> rfl

@[simp] theorem firstExc_nil : firstExc [] = none := rfl

@[simp] theorem firstExc_none_cons (es : List (Option Exc)) : firstExc (none :: es) = firstExc es := rfl

@[simp] theorem excIf_false (e : Exc) : excIf false e = none := rfl

theorem tileOnly_of_ne {c : Nat} (h : c ≠ isleCore) : tileOnly c = none := by
  simp [tileOnly, excIf, h]

/-- The core of a tile waits with nothing else changed. -/
theorem State.await_tile {s : State} {c : Nat} (hc : c ≠ isleCore) (w : WaitFor) :
    s.await c w = s.updTile c fun t => { t with core := .wait, wait := some w } := if_neg hc

section
variable {i : Instr} {s : State} {c : Nat} {ext : Bool} {fx : State → Fx} {w : WaitFor}

/-- An instruction of a tile that waits stays where it is (R337). -/
theorem gives_waits (hexec : exec i s = .next (s.issue c ext fx)) (hc : c ≠ isleCore) (hi : s.canIssue c ext = true)
    (hfx : fx (s.issued c ext) = .hold ((s.issued c ext).await c w)) :
    Gives i s fun t => OnlyCore s t c ∧ (t.tile c).bare = { (s.tile c).bare with core := .wait, wait := some w } ∧
      (t.tile c).pc = (s.tile c).pc := by
  rw [State.await_tile hc] at hfx
  refine gives_of_hold hexec hi hfx ⟨(s.issued_only c ext).trans (OnlyCore.upd _ _ _), ?_⟩
  obtain ⟨l, b, hx⟩ := (s.tile c).exists_issued c ext
  rw [State.tile_updTile_self, State.tile_issued, hx]
  exact ⟨rfl, rfl⟩

end

/-- An instruction that completes with a change of its core's record that what issue changes does not touch. -/
theorem gives_upd {i : Instr} {s : State} {c : Nat} {ext : Bool} {fx : State → Fx} {g : Tile → Tile}
    (hexec : exec i s = .next (s.issue c ext fx)) (hi : s.canIssue c ext = true)
    (hfx : fx (s.issued c ext) = .done ((s.issued c ext).updTile c g)) (hst : ∀ x : Tile, (g x).stepping = x.stepping)
    (hg : ∀ (x : Tile) l b, (g { x with istore := l, bpSkip := b }).bare = (g x).bare) :
    Gives i s fun t => OnlyCore s t c ∧ (t.tile c).bare = (g (s.tile c)).bare :=
  (gives_bare_of_upd hexec hi hfx hst).mono fun t ⟨hcore, ht⟩ => ⟨hcore, by
    obtain ⟨l, b, hx⟩ := (s.tile c).exists_issued c ext
    rw [ht, hx, hg]⟩

/-- The barge that XFER issues (R331): the registers' values, the strides where it is strided. -/
def xferBarge (x : Tile) (a t k : Nat) (func : BitVec 13) : Barge :=
  let b : Barge := ⟨(x.areg a).toNat, x.treg t, x.sreg k, x.sreg (k + 1), x.sreg (k + 2), 0, func, false⟩
  if func.getLsbD 1 then b else { b with m1 := 0, m2 := 0, m3 := 0 }

theorem xferBarge_spec (x : Tile) (a t k : Nat) (func : BitVec 13) : ∃ m1 m2 m3,
    xferBarge x a t k func = ⟨(x.areg a).toNat, x.treg t, m1, m2, m3, 0, func, false⟩ ∧
      (func.getLsbD 1 = true → m1 = x.sreg k ∧ m2 = x.sreg (k + 1) ∧ m3 = x.sreg (k + 2)) := by
  unfold xferBarge
  split <;> rename_i h
  · exact ⟨_, _, _, rfl, fun _ => ⟨rfl, rfl, rfl⟩⟩
  · exact ⟨_, _, _, rfl, fun h1 => absurd h1 h⟩

theorem xferBarge_id (x : Tile) (a t k : Nat) (func : BitVec 13) : (xferBarge x a t k func).id = func.toNat / 16 % 16 := by
  obtain ⟨_, _, _, hb, _⟩ := xferBarge_spec x a t k func
  rw [hb]
  rfl

theorem xferBarge_issued (x : Tile) (c : Nat) (ext : Bool) (a t k : Nat) (func : BitVec 13) :
    xferBarge (x.issued c ext) a t k func = xferBarge x a t k func := by
  simp [xferBarge]

/-- XFER with legal operands and a free place (R331-R334) puts its barge at the end of the mover queue. -/
theorem xfer_gives {s : State} {u : BitVec 7} {a td : BitVec 4} {sf : BitVec 5} {func : BitVec 13} (hc : coreOf u ≠ isleCore)
    (hi : s.canIssue (coreOf u) false = true) (hu : (s.tile (coreOf u)).units = []) (hf : func.toNat < 256)
    (hbad : xferBad func sf.toNat (descFields ((s.tile (coreOf u)).treg td.toNat)) = false)
    (hd : firstExc (descExcsOf ((s.tile (coreOf u)).treg td.toNat) td.toNat) = none)
    (hlen : (s.tile (coreOf u)).barges.length < 16)
    (hid : ∀ b ∈ (s.tile (coreOf u)).barges, b.id ≠ func.toNat / 16 % 16) :
    Gives (.xfer u a td sf func) s fun t => OnlyCore s t (coreOf u) ∧
      (t.tile (coreOf u)).bare = { (s.tile (coreOf u)).bare with
        barges := (s.tile (coreOf u)).barges ++ [xferBarge (s.tile (coreOf u)) a.toNat td.toNat sf.toNat func] } := by
  have hpass : firstExc ([tileOnly (coreOf u), excIf (func.toNat / 256 != 0) excEncoding,
      excIf (xferBad func sf.toNat (descFields (((s.issued (coreOf u) false).tile (coreOf u)).treg td.toNat))) excOperand] ++
        descExcsOf (((s.issued (coreOf u) false).tile (coreOf u)).treg td.toNat) td.toNat) = none := by
    have h256 : func.toNat / 256 = 0 := Nat.div_eq_of_lt hf
    simpa [tileOnly_of_ne hc, h256, hbad] using hd
  have hroom : ¬(((s.tile (coreOf u)).barges.any fun y : Barge => y.id == func.toNat / 16 % 16) = true ∨
      16 ≤ (s.tile (coreOf u)).barges.length) := by
    simpa [hlen] using hid
  refine gives_upd (g := fun y => { y with
    barges := y.barges ++ [xferBarge (s.tile (coreOf u)) a.toNat td.toNat sf.toNat func] }) rfl hi
    ((State.checked_pass (by simpa using hu) hpass).trans ?_) (fun _ => rfl) fun _ _ _ => rfl
  rw [← xferBarge_issued (s.tile (coreOf u)) (coreOf u) false, ← State.tile_issued]
  refine if_neg ?_
  change ¬((((s.issued (coreOf u) false).tile (coreOf u)).barges.any fun y : Barge => y.id == (xferBarge
    ((s.issued (coreOf u) false).tile (coreOf u)) a.toNat td.toNat sf.toNat func).id) = true ∨ _)
  rw [xferBarge_id]
  simpa using hroom

/-- Settles O8. -/
theorem bargesAndWaits : Obligations.BargesAndWaits := by
  intro s u a td sf func imm hc hi c x next goesOn waits
  have on {i : Instr} {fx : State → Fx} (hexec : exec i s = .next (s.issue c false fx))
      (hfx : fx (s.issued c false) = .done (s.issued c false)) : goesOn i := gives_goesOn hexec hi hfx
  have stays {i : Instr} {w : WaitFor} {fx : State → Fx} (hexec : exec i s = .next (s.issue c false fx))
      (hfx : fx (s.issued c false) = .hold ((s.issued c false).await c w)) : waits i w := gives_waits hexec hc hi hfx
  have hunblocked : ((s.issued c false).tile c).blocked [] [] = false := by simp [Tile.blocked]
  have hbarge {fx : State → Fx} : (s.issued c false).checked c [] [] [tileOnly c] fx = fx (s.issued c false) := by
    unfold State.checked
    rw [hunblocked, tileOnly_of_ne hc]
    rfl
  refine ⟨fun hu hf hbad hd hlen hid => ?_, fun h => on rfl (hbarge.trans ?_), fun h => stays rfl (hbarge.trans ?_),
    fun h => on rfl ?_, fun h => stays rfl ?_⟩
  · obtain ⟨m1, m2, m3, hb, hm⟩ := xferBarge_spec x a.toNat td.toNat sf.toNat func
    refine (xfer_gives hc hi hu hf hbad hd hlen hid).mono fun t ⟨hcore, ht⟩ => ⟨hcore, ?_, _, congrArg Tile.barges ht, ?_⟩
    · rw [ht]
      rfl
    · change (xferBarge x a.toNat td.toNat sf.toNat func).va = _ ∧ _
      rw [hb]
      exact ⟨rfl, rfl, rfl, rfl, rfl, hm⟩
  · have hnone : (s.tile c).barges.any (fun b : Barge => imm.getLsbD b.id) = false := by simpa using h
    simp [c, hnone]
  · have hsome : (s.tile c).barges.any (fun b : Barge => imm.getLsbD b.id) = true := by simpa using h
    simp [hsome, c]
  · have hempty : (s.tile (coreOf u)).units.isEmpty = true := by simpa using h
    simp [c, tileOnly_of_ne hc, hempty, firstExc, excIf]
  · have hne : (s.tile (coreOf u)).units.isEmpty = false := by simpa using h
    simp [c, tileOnly_of_ne hc, hne, firstExc, excIf]

/-- A core that is not stepped goes on at Next. -/
theorem State.complete_eq {s : State} {c : Nat} (ext : Bool) (h : (s.tile c).stepping = false) :
    s.complete c ext = s.updTile c fun x => x.closeLoops ((x.pc + wordsLen ext) % 2 ^ 32) 4 := settle_done s c ext h

/-- What a wait released on a tile leaves (R337). -/
theorem State.waitDone_tile {s : State} {c : Nat} (hc : c ≠ 64) (hst : (s.tile c).stepping = false) :
    s.waitDone c = (s.updTile c fun t => { t with wait := none, core := if t.core = .wait then .running else t.core }).updTile c
      fun x => x.closeLoops ((x.pc + 4) % 2 ^ 32) 4 := by
  unfold State.waitDone
  simp only [hc, if_false]
  exact State.complete_eq false (by simpa using hst)

theorem Tile.closeLoops_wait (next n : Nat) (x : Tile) : (Tile.closeLoops next n x).wait = x.wait := by
  change (Tile.closeLoops next n x).bare.wait = x.bare.wait
  rw [Tile.closeLoops_bare]

theorem Tile.closeLoops_core (next n : Nat) (x : Tile) : (Tile.closeLoops next n x).core = x.core := by
  change (Tile.closeLoops next n x).bare.core = x.bare.core
  rw [Tile.closeLoops_bare]

theorem State.issued_coreTime (s : State) (c : Nat) (ext : Bool) : (s.issued c ext).coreTime c = s.coreTime c :=
  s.issued_time c ext _

theorem State.tile_await_wait (s : State) (c : Nat) (w : WaitFor) : ((s.await c w).tile c).wait = some w := by
  unfold State.await
  split <;> simp

theorem State.tile_await_pc (s : State) (c : Nat) (w : WaitFor) : ((s.await c w).tile c).pc = (s.tile c).pc := by
  unfold State.await
  split <;> simp

/-- Settles O9. -/
theorem tickWaitsAndTime : Obligations.TickWaitsAndTime := by
  intro s u hu c x now
  have hunits : ((s.issued c false).tile c).units = [] := by simpa using hu
  have htime : (s.issued c false).coreTime c = now := s.issued_coreTime c false
  have ha2 : ((s.issued c false).tile c).areg 2 = x.areg 2 := by simp [x]
  refine ⟨fun hi => ⟨fun hle => ?_, fun hlt => ?_, fun k hk hak => ?_⟩, fun n hw hn hst hc hcore => ?_⟩
  · refine gives_goesOn rfl hi ((State.checked_pass hunits rfl).trans (if_pos ?_))
    rw [htime, ha2]
    exact hle
  · have hfx : (s.issued c false).checked c [rA 2] [] [excIf ((0 : BitVec 16) != 0) excEncoding] (fun s =>
        if ((s.tile c).areg 2).toNat ≤ s.coreTime c then .done s else .hold (s.await c (.tick ((s.tile c).areg 2).toNat))) =
        .hold ((s.issued c false).await c (.tick (x.areg 2).toNat)) := by
      refine (State.checked_pass hunits rfl).trans ((if_neg ?_).trans (by rw [ha2]))
      rw [htime, ha2]
      exact Nat.not_le.2 hlt
    refine gives_of_hold rfl hi hfx ⟨State.tile_await_wait _ _ _, ?_, fun hc => ?_, fun hc => ?_⟩
    · rw [State.tile_await_pc]
      simp [x]
    · rw [State.await, if_pos hc]
      simp
      rfl
    · rw [State.await_tile hc]
      exact ⟨(s.issued_only c false).trans (OnlyCore.upd _ _ _), by simp⟩
  · have h16 : k.toNat % 16 = k.toNat := Nat.mod_eq_of_lt hk
    have h0 : k.toNat / 16 = 0 := Nat.div_eq_of_lt hk
    have hpass : firstExc [excIf (k.toNat / 16 != 0 || !(aOk c (k.toNat % 16))) excEncoding] = none :=
      firstExc_one (by simp [h16, h0, hak])
    simpa [h16] using gives_setA (i := .time u k) (k := k.toNat % 16) (g := fun _ => BitVec.ofNat 64 now) rfl hi
      ((State.checked_pass hunits hpass).trans (by rw [htime])) rfl
  · have hrel : exec (.waitTickRelease u) s = .next (s.waitDone c) := by
      change Host.Outcome.next (match x.wait with
        | some (.tick n) => if n ≤ s.coreTime c then s.waitDone c else s
        | _ => s) = _
      rw [hw]
      exact congrArg _ (if_pos hn)
    rw [State.waitDone_tile hc hst] at hrel
    refine ⟨_, hrel, (OnlyCore.upd _ _ _).trans (OnlyCore.upd _ _ _), ?_, ?_, fun hd => ?_⟩
    · simp [Tile.closeLoops_wait]
    · rw [State.tile_updTile_self, State.tile_updTile_self, Tile.closeLoops_core]
      exact if_pos hcore
    · rw [State.tile_updTile_self, State.tile_updTile_self]
      exact Tile.closeLoops_depth0 _ _ _ hd

end Sys2Proof.Machine

namespace Sys2Proof.Machine

/-! ## The wharf (R345, R346, R448) -/

/-- A state without the bytes that a physical address reaches. -/
def State.sansBytes (s : State) : State :=
  { s with mem := [], sealTag := [], linkOut := [], basin := { s.basin with scratch := [] } }

@[simp] theorem State.physPut_sansBytes (s : State) (pa : Nat) (b : Byte) : (s.physPut pa b).sansBytes = s.sansBytes := by
  obtain ⟨m, t, x, l, e⟩ := s.physPut_shape pa b
  rw [e]
  rfl

@[simp] theorem State.physPutList_sansBytes (bs : List Byte) : ∀ (s : State) (pa : Nat),
    (s.physPutList pa bs).sansBytes = s.sansBytes := by
  induction bs with
  | nil => exact fun _ _ => rfl
  | cons b bs ih => exact fun s pa => (ih _ _).trans (s.physPut_sansBytes pa b)

@[simp] theorem State.physPutLe_sansBytes (s : State) (pa n v : Nat) : (s.physPutLe pa n v).sansBytes = s.sansBytes :=
  State.physPutList_sansBytes _ _ _

@[simp] theorem State.setWharfBit_sansBytes (s : State) (a : Arena) (chunk half n : Nat) (b : Bool) :
    (s.setWharfBit a chunk half n b).sansBytes = s.sansBytes := State.physPut_sansBytes _ _ _

@[simp] theorem State.wharfSplit_sansBytes (a : Arena) (chunk : Nat) : ∀ (k : Nat) (s : State) (d0 i : Nat),
    (s.wharfSplit a chunk d0 i k).sansBytes = s.sansBytes := by
  intro k
  induction k with
  | zero => exact fun _ _ _ => rfl
  | succ k ih => exact fun s d0 i => (ih _ _ _).trans (s.setWharfBit_sansBytes _ _ _ _ _)

@[simp] theorem State.zeroVa_sansBytes (cid : Nat) : ∀ (n : Nat) (s : State) (va : Nat),
    (s.zeroVa cid va n).sansBytes = s.sansBytes := by
  intro n
  induction n with
  | zero => exact fun _ _ => rfl
  | succ n ih =>
    intro s va
    refine (ih _ _).trans ?_
    cases s.reach cid va .write with
    | ok pa => exact s.physPut_sansBytes pa 0
    | err e => rfl

@[simp] theorem State.wharfMerge_sansBytes (a : Arena) (chunk : Nat) : ∀ (k : Nat) (s : State) (n : Nat),
    (s.wharfMerge a chunk n k).sansBytes = s.sansBytes := by
  intro k
  induction k with
  | zero => exact fun _ _ => rfl
  | succ k ih =>
    intro s n
    unfold State.wharfMerge
    dsimp only
    generalize (if n % 2 = 1 then n + 1 else n - 1) = buddy
    split
    · rfl
    · rw [ih, State.setWharfBit_sansBytes]

theorem State.wharfAlloc_sansBytes {s w : State} {cid size va : Nat} {zero : Bool}
    (h : s.wharfAlloc cid size zero = some (w, va)) : w.sansBytes = s.sansBytes := by
  unfold State.wharfAlloc at h
  dsimp only at h
  split at h
  · cases h
  · split at h
    · cases h
    · split at h
      · cases h
      · cases zero <;> (obtain ⟨rfl, -⟩ := Prod.mk.inj (Option.some.inj h); simp)

theorem State.wharfDrop_sansBytes {s w : State} {cid va : Nat} (h : s.wharfDrop cid va = some w) :
    w.sansBytes = s.sansBytes := by
  unfold State.wharfDrop at h
  dsimp only at h
  split at h
  · cases h
  · split at h
    · cases h
    · split at h
      · cases h
      · obtain rfl := Option.some.inj h
        simp

theorem State.tile_of_sansBytes {s t : State} (h : t.sansBytes = s.sansBytes) (c : Nat) : t.tile c = s.tile c := by
  have ht : t.sansBytes.tiles = s.sansBytes.tiles := congrArg State.tiles h
  exact congrArg (fun x => Tab.get _ x c) ht

theorem State.regs_of_sansBytes {s t : State} (h : t.sansBytes = s.sansBytes) : t.regs = s.regs := by
  have ht : t.sansBytes.regs = s.sansBytes.regs := congrArg State.regs h
  exact ht

/-- An instruction that completes leaves the state of its effect, with control moved on. -/
theorem gives_done {i : Instr} {s t : State} {c : Nat} {ext : Bool} {fx : State → Fx} {P : State → Prop}
    (hexec : exec i s = .next (s.issue c ext fx)) (hi : s.canIssue c ext = true)
    (hfx : fx (s.issued c ext) = .done t) (hst : (t.tile c).stepping = false)
    (hp : P (t.updTile c fun x => x.closeLoops ((x.pc + wordsLen ext) % 2 ^ 32) 4)) : Gives i s P :=
  ⟨_, hexec.trans (congrArg _ ((State.issue_eq s c ext fx hi).trans ((congrArg _ hfx).trans (settle_done t c ext hst)))), hp⟩

theorem Tile.closeLoops_areg (next n : Nat) (x : Tile) (k : Nat) : (Tile.closeLoops next n x).areg k = x.areg k :=
  Tile.areg_of_bare (Tile.closeLoops_bare next n x) k

theorem Tile.closeLoops_sreg (next n : Nat) (x : Tile) (k : Nat) : (Tile.closeLoops next n x).sreg k = x.sreg k :=
  Tile.sreg_of_bare (Tile.closeLoops_bare next n x) k

/-- Settles O12. -/
theorem wharfInstructions : Obligations.WharfInstructions := by
  intro s u a sf zero try_ hc hi hu c r x size
  have hunits : (r.tile c).units = [] := by simpa [r] using hu
  have htile : r.tile c = x.issued c false := s.tile_issued c false
  have hpass : firstExc [tileOnly c, excIf (((0 : BitVec 4) != 0) || ((0 : BitVec 10) != 0)) excEncoding] = none := by
    simp [c, tileOnly_of_ne hc]
  have alloc (try_ : Bool) {f : Fx} (hf : (match r.wharfAlloc x.cid size zero with
      | some (s, va) => Fx.done (s.updTile c fun t => t.setA a.toNat (BitVec.ofNat 64 va))
      | none => if try_ then .done (r.updTile c fun t => t.setA a.toNat 0) else .exc r ⟨0x14, allocUnits size⟩) = f) :
      (fun s : State => s.checked c [rA a.toNat, rS sf.toNat] [] [tileOnly c, excIf (((0 : BitVec 4) != 0) || ((0 : BitVec 10) != 0)) excEncoding]
        fun s' => match s'.wharfAlloc (s.tile c).cid ((s.tile c).sreg sf.toNat).toNat zero with
          | some (s, va) => .done (s.updTile c fun t => t.setA a.toNat (BitVec.ofNat 64 va))
          | none => if try_ then .done (s'.updTile c fun t => t.setA a.toNat 0)
            else .exc s' ⟨0x14, allocUnits ((s.tile c).sreg sf.toNat).toNat⟩) r = f := by
    refine (State.checked_pass hunits hpass).trans ?_
    rw [htile, Tile.issued_cid, Tile.issued_sreg]
    exact hf
  refine ⟨fun w va hw => ?_, fun hnone => ⟨?_, fun hexc => ?_⟩, fun w hw => ?_⟩
  · have hwt : w.tile c = r.tile c := State.tile_of_sansBytes (State.wharfAlloc_sansBytes hw) c
    refine gives_done (t := w.updTile c fun t => t.setA a.toNat (BitVec.ofNat 64 va)) rfl hi (alloc try_ (by rw [hw])) ?_ ⟨rfl, rfl, ?_⟩
    · rw [State.tile_updTile_self, hwt]
      exact s.stepping_issued c false hi
    · rw [State.tile_updTile_self, State.tile_updTile_self, Tile.closeLoops_areg, Tile.areg_setA, if_pos rfl]
  · exact gives_setA (g := fun _ => 0) rfl hi (alloc true (by rw [hnone]; rfl)) rfl
  · refine (raises_of_exc (e := ⟨0x14, allocUnits size⟩) rfl hi hc hexc (alloc false (by rw [hnone]; rfl))).mono fun t ⟨hcore, hend, _, he, _⟩ => ⟨hcore, hend, ?_⟩
    rw [he]
    rfl
  · have hwt : w.tile c = r.tile c := State.tile_of_sansBytes (State.wharfDrop_sansBytes hw) c
    refine gives_done (fx := fun s => s.checked c [rA a.toNat] [] _ fun s =>
      match s.wharfDrop (s.tile c).cid ((s.tile c).areg a.toNat).toNat with
        | some s => .done s
        | none => .exc s excOperand) (t := w) rfl hi ((State.checked_pass hunits (by simp [tileOnly_of_ne hc])).trans ?_) ?_ ⟨rfl, rfl, rfl⟩
    · change (match r.wharfDrop (r.tile c).cid ((r.tile c).areg a.toNat).toNat with
        | some s => Fx.done s
        | none => .exc r excOperand) = _
      rw [htile, Tile.issued_cid, Tile.issued_areg, hw]
    · rw [hwt]
      exact s.stepping_issued c false hi

end Sys2Proof.Machine

namespace Sys2Proof.Machine

/-! ## Signals, phases and modes (R347-R351, R384, R112) -/

theorem imm_fence (rv ra : BitVec 4) : ((0 : BitVec 8) ++ rv ++ ra).toNat = 16 * rv.toNat + ra.toNat := by
  rw [toNat_append_eq, toNat_append_eq]
  simp
  omega

theorem imm_clip (sel : BitVec 3) (rd : BitVec 5) : ((0 : BitVec 8) ++ sel ++ rd).toNat = 32 * sel.toNat + rd.toNat := by
  rw [toNat_append_eq, toNat_append_eq]
  simp
  omega

theorem Tile.clipStat_issued (x : Tile) (c : Nat) (ext : Bool) (k : Nat) : (x.issued c ext).clipStat k = x.clipStat k := by
  rw [Tile.issued_only_fetch]
  rfl

theorem Tile.clipStat_lt {x : Tile} {k v : Nat} (h : x.clipStat k = some v) : k ≤ 5 := by
  unfold Tile.clipStat at h
  split at h <;> simp_all

theorem State.phaseReport_tile (s : State) (t n k : Nat) : (s.phaseReport t n).tile k = s.tile k := by
  unfold State.phaseReport
  dsimp only
  split <;> rfl

theorem State.phaseReport_regs (s : State) (t n : Nat) : (s.phaseReport t n).regs = s.regs := by
  unfold State.phaseReport
  dsimp only
  split <;> rfl

theorem State.phaseReport_mem (s : State) (t n : Nat) : (s.phaseReport t n).mem = s.mem := by
  unfold State.phaseReport
  dsimp only
  split <;> rfl

/-- The phase report of a tile stands among the reports sent, in place of an older one or after the others (R349). -/
theorem State.phase_mem_phaseReport (s : State) (t n : Nat) : Report.phase t n ∈ (s.phaseReport t n).conc.sent := by
  unfold State.phaseReport
  dsimp only
  split
  · next h =>
    obtain ⟨r, hr, hmine⟩ := List.any_eq_true.1 h
    exact List.mem_map.2 ⟨r, hr, if_pos hmine⟩
  · exact List.mem_append_right _ (List.mem_singleton.2 rfl)

theorem State.keepHeld_tile (s : State) (k : Nat) : s.keepHeld.tile k = s.tile k := by
  unfold State.keepHeld
  split <;> rfl

theorem State.keepHeld_island (s : State) : s.keepHeld.island = s.island := by
  unfold State.keepHeld
  split <;> rfl

theorem State.keepHeld_domLive (s : State) (d : Nat) : s.keepHeld.domLive d = s.domLive d := by
  unfold State.keepHeld
  split <;> rfl

theorem State.keepHeld_keeps {s : State} {b : Nat} (h : s.island.held = some b) :
    s.keepHeld = s.put (if b = 0 then Reg.WAT_STATUS_KEEP_A else Reg.WAT_STATUS_KEEP_B) 1 := by
  unfold State.keepHeld
  rw [h]

theorem State.keepHeld_none {s : State} (h : s.island.held = none) : s.keepHeld = s := by
  unfold State.keepHeld
  rw [h]

theorem State.get_keepHeld_a {s : State} (h : s.island.held = some 0) : s.keepHeld.get Reg.WAT_STATUS_KEEP_A = 1 := by
  rw [State.keepHeld_keeps h, if_pos rfl, State.get_put_self]
  rfl

theorem State.get_keepHeld_b {s : State} (h : s.island.held = some 1) : s.keepHeld.get Reg.WAT_STATUS_KEEP_B = 1 := by
  rw [State.keepHeld_keeps h, if_neg (by decide), State.get_put_self]
  rfl

theorem State.wakeReport_tile (s : State) (a b k : Nat) : (s.wakeReport a b).tile k = s.tile k := by
  unfold State.wakeReport
  split <;> rfl

theorem State.wakeReport_regs (s : State) (a b : Nat) : (s.wakeReport a b).regs = s.regs := by
  unfold State.wakeReport
  split <;> rfl

theorem State.wakeReport_island (s : State) (a b : Nat) : (s.wakeReport a b).island = s.island := by
  unfold State.wakeReport
  split <;> rfl

theorem State.wakeReport_live {s : State} {a b : Nat} (h : s.domLive 1 = true) : s.wakeReport a b = s.send (.wake a b) :=
  if_pos h

theorem State.wakeReport_dark {s : State} {a b : Nat} (h : s.domLive 1 = false) :
    s.wakeReport a b = { s with conc := { s.conc with inbox := s.conc.inbox ++ [.wake a b] } } :=
  if_neg (by simp [h])

section
variable {i : Instr} {s : State} {c : Nat} {ext : Bool} {fx : State → Fx}

/-- An instruction leaves what its effect settles to. -/
theorem gives_settled {P : State → Prop} (hexec : exec i s = .next (s.issue c ext fx)) (hi : s.canIssue c ext = true)
    (hp : P (settleFx c ext (fx (s.issued c ext)))) : Gives i s P :=
  ⟨_, hexec.trans (congrArg _ (State.issue_eq s c ext fx hi)), hp⟩

end

theorem OnlyCore.mem {s t : State} {c : Nat} (h : OnlyCore s t c) : t.mem = s.mem := by
  have hm := congrArg State.mem h.1
  exact hm

theorem OnlyCore.regs {s t : State} {c : Nat} (h : OnlyCore s t c) : t.regs = s.regs := by
  have hm := congrArg State.regs h.1
  exact hm

theorem OnlyCore.host {s t : State} {c : Nat} (h : OnlyCore s t c) : t.host = s.host := by
  have hm := congrArg State.host h.1
  exact hm

theorem OnlyCore.island {s t : State} {c : Nat} (h : OnlyCore s t c) : t.island = s.island := by
  have hm := congrArg State.island h.1
  exact hm

theorem OnlyCore.domLive {s t : State} {c : Nat} (h : OnlyCore s t c) (d : Nat) : t.domLive d = s.domLive d := by
  have hm := congrArg (·.domLive d) h.1
  exact hm

@[simp] theorem settleFx_done (c : Nat) (ext : Bool) (t : State) : settleFx c ext (.done t) = t.complete c ext := rfl

@[simp] theorem State.issued_hasVec (s : State) (c : Nat) (ext : Bool) (k v : Nat) :
    ((s.issued c ext).ctx k).hasVec v = (s.ctx k).hasVec v := by
  unfold State.issued
  split <;> rfl

theorem Tile.closeLoops_phase (next n : Nat) (x : Tile) : (Tile.closeLoops next n x).phase = x.phase := by
  change (Tile.closeLoops next n x).bare.phase = x.bare.phase
  rw [Tile.closeLoops_bare]

theorem isle_issued (s : State) (ext : Bool) : s.issued isleCore ext = s := if_pos rfl

theorem isleOnly_isle : isleOnly isleCore = none := rfl

theorem State.mem_of_core {s t : State} (h : s.core = t.core) : s.mem = t.mem := congrArg Core.mem h

@[simp] theorem Tile.issued_task (x : Tile) (c : Nat) (ext : Bool) : (x.issued c ext).task = x.task := by
  rw [issued_only_fetch]

@[simp] theorem Tile.issued_tmode (x : Tile) (c : Nat) (ext : Bool) : (x.issued c ext).tmode = x.tmode := by
  rw [issued_only_fetch]

theorem setWidth_toNat {m n : Nat} (h : m ≤ n) (k : BitVec m) : (k.setWidth n).toNat = k.toNat := by
  rw [BitVec.toNat_setWidth, Nat.mod_eq_of_lt (Nat.lt_of_lt_of_le k.isLt (Nat.pow_le_pow_right (by decide) h))]

section
variable {s : State} {u : BitVec 7} (hi : s.canIssue (coreOf u) false = true) (hu : (s.tile (coreOf u)).units = [])
include hi hu

/-- SIGNAL FENCE with nothing unfinished does the fence operation of its registers (R347, R348). -/
theorem signalFence_gives (hc : coreOf u ≠ isleCore) {ra rv : BitVec 4} {q i inst : Nat}
    (hb : (s.tile (coreOf u)).barges = []) (ht : (s.tile (coreOf u)).task = some (q, i, inst))
    (hva : ((s.tile (coreOf u)).areg ra.toNat).toNat % 16 = 0) (hv : ((s.tile (coreOf u)).areg rv.toNat).toNat < 2 ^ 62) :
    Gives (.signalFence u ((0 : BitVec 8) ++ rv ++ ra)) s fun t =>
      t.mem = ((s.issued (coreOf u) false).fence (s.tile (coreOf u)).cid ((s.tile (coreOf u)).areg ra.toNat).toNat (some q)
        (.signal ((s.tile (coreOf u)).areg rv.toNat).toNat)).mem := by
  have hra : (16 * rv.toNat + ra.toNat) % 16 = ra.toNat := by omega
  have hrv : (16 * rv.toNat + ra.toNat) / 16 % 16 = rv.toNat := by omega
  have h9 : (16 * rv.toNat + ra.toNat) / 2 ^ 9 = 0 := by omega
  have h62 : ((s.tile (coreOf u)).areg rv.toNat).toNat / 2 ^ 62 = 0 := Nat.div_eq_of_lt hv
  have h8 : ((0 : BitVec 8) ++ rv ++ ra : BitVec 16).getLsbD 8 = false := by
    rw [BitVec.getLsbD, imm_fence, Nat.testBit_eq_decide_div_mod_eq, decide_eq_false_iff_not]
    omega
  refine gives_settled rfl hi ?_
  rw [h8, imm_fence, hra, hrv, h9]
  beta_reduce
  rw [State.checked_pass (by simpa using hu) (by
    rw [State.tile_issued, Tile.issued_areg, Tile.issued_areg, tileOnly_of_ne hc, h62, hva]
    rfl)]
  simpa [Tile.busy, hu, hb, ht] using State.mem_of_core (State.complete_core _ _ _)

end

/-- Settles O13. -/
theorem signalsPhasesAndModes : Obligations.SignalsPhasesAndModes := by
  intro s u hi hu c r x
  have hunits : (r.tile c).units = [] := by simpa [r] using hu
  have htile : r.tile c = x.issued c false := s.tile_issued c false
  have hst : (r.tile c).stepping = false := s.stepping_issued c false hi
  refine ⟨fun hc => ⟨fun hb => ⟨fun ra rv q i inst ht hva hv => ?_, fun v hv => ?_⟩, fun k => ?_, fun rd sel v hv => ?_,
    fun rd => ?_, fun rs hrs => ?_⟩, fun hc => ⟨fun k => ?_, ?_⟩⟩
  · exact signalFence_gives hi hu hc hb ht hva hv
  · have hv12 : v.toNat % 4096 = v.toNat := Nat.mod_eq_of_lt v.isLt
    have hv0 : v.toNat / 4096 = 0 := Nat.div_eq_of_lt v.isLt
    have hvec : (s.ctx (s.tile (coreOf u)).cid).hasVec v.toNat = true := by simpa [r, x] using hv
    refine gives_done (c := c) (t := r.event v.toNat) rfl hi ?_ hst ⟨?_, ?_, ?_, ?_⟩
    · rw [setWidth_toNat (by decide), hv12, hv0]
      refine (State.checked_pass hunits ?_).trans (if_neg ?_)
      · simp [c, tileOnly_of_ne hc, hvec]
      · have hb' : (s.tile (coreOf u)).barges = [] := hb
        simp [c, r, Tile.busy, hb', hu]
    · exact congrArg (·.events ++ [v.toNat]) (s.issued_only c false).host
    · exact (s.issued_only c false).mem
    · exact (s.issued_only c false).regs
    · rw [State.tile_updTile_self, Tile.closeLoops_bare]
      exact s.issued_tile c false
  · have hk : k.toNat % 256 = k.toNat := Nat.mod_eq_of_lt k.isLt
    have hk0 : k.toNat / 256 = 0 := Nat.div_eq_of_lt k.isLt
    refine gives_done (c := c) (t := (r.updTile c fun t => { t with phase := k.toNat }).phaseReport c k.toNat) rfl hi ?_ ?_
      ⟨?_, State.phase_mem_phaseReport _ _ _, ?_, ?_⟩
    · rw [setWidth_toNat (by decide), hk, hk0]
      exact State.checked_pass hunits (by simp [c, tileOnly_of_ne hc])
    · rw [State.phaseReport_tile, State.tile_updTile_self]
      exact hst
    · rw [State.tile_updTile_self, Tile.closeLoops_phase, State.phaseReport_tile, State.tile_updTile_self]
    · exact (State.phaseReport_regs _ _ _).trans (s.issued_only c false).regs
    · exact (State.phaseReport_mem _ _ _).trans (s.issued_only c false).mem
  · have hsel : (32 * sel.toNat + rd.toNat) / 32 % 8 = sel.toNat := by omega
    have hrd : (32 * sel.toNat + rd.toNat) % 32 = rd.toNat := by omega
    have h256 : (32 * sel.toNat + rd.toNat) / 256 = 0 := by omega
    have h5 : ¬5 < sel.toNat := Nat.not_lt.2 (Tile.clipStat_lt hv)
    have hv' : (s.tile (coreOf u)).clipStat sel.toNat = some v := hv
    simpa only [ite_toNat_eq_zero] using gives_setS (g := fun _ => BitVec.ofNat 32 v) (k := rd.toNat) rfl hi (by
      rw [imm_clip, hsel, hrd, h256]
      refine (State.checked_pass hunits ?_).trans ?_
      · simp [c, tileOnly_of_ne hc, h5]
      · simp [r, c, hu, Tile.clipStat_issued, hv']) rfl
  · have hrd : rd.toNat % 32 = rd.toNat := Nat.mod_eq_of_lt rd.isLt
    have hrd0 : rd.toNat / 32 = 0 := Nat.div_eq_of_lt rd.isLt
    simpa only [ite_toNat_eq_zero] using gives_setS (g := Tile.tmode) (k := rd.toNat) rfl hi (by
      rw [setWidth_toNat (by decide), hrd, hrd0]
      exact State.checked_pass hunits (by simp [c, tileOnly_of_ne hc])) (Tile.issued_tmode x c false)
  · have hrd : rs.toNat % 32 = rs.toNat := Nat.mod_eq_of_lt rs.isLt
    have hrd0 : rs.toNat / 32 = 0 := Nat.div_eq_of_lt rs.isLt
    exact gives_upd (g := fun y => { y with tmode := x.sreg rs.toNat }) rfl hi (by
      rw [setWidth_toNat (by decide), hrd, hrd0]
      refine (State.checked_pass hunits ?_).trans ?_
      · rw [htile, Tile.issued_sreg]
        change firstExc [tileOnly c, none, excIf (x.sreg rs.toNat &&& 0xFFFFFF70 != 0) excOperand] = none
        rw [hrs, tileOnly_of_ne hc]
        rfl
      · simp [r, x, c]) (fun _ => rfl) fun _ _ _ => rfl
  · have hk : k.toNat % 256 = k.toNat := Nat.mod_eq_of_lt k.isLt
    have hk0 : k.toNat / 256 = 0 := Nat.div_eq_of_lt k.isLt
    have hisle : r.island = s.island := (s.issued_only c false).island
    refine gives_done (c := c) (t := ({ r.keepHeld with island := { r.keepHeld.island with kept := r.keepHeld.island.held } }).wakeReport
      1 k.toNat) rfl hi ?_ ?_ ⟨fun h0 => ?_, ?_, fun hlive => ?_, fun hdark => ?_⟩
    · rw [setWidth_toNat (by decide), hk, hk0]
      exact State.checked_pass hunits (by simp only [c] at hc; rw [hc]; rfl)
    · rw [State.wakeReport_tile]
      exact (congrArg Tile.stepping (r.keepHeld_tile c)).trans hst
    · rw [← hisle] at h0
      exact (congrArg (fun m => Tab.get _ m _) (State.wakeReport_regs _ _ _)).trans (State.get_keepHeld_a h0)
    · refine (congrArg Island.kept (State.wakeReport_island _ _ _)).trans ?_
      exact congrArg Island.held ((State.keepHeld_island r).trans hisle)
    · have hl : r.keepHeld.domLive 1 = true := by
        rw [State.keepHeld_domLive, ← hlive]
        exact (s.issued_only c false).domLive 1
      change _ ∈ (State.wakeReport _ 1 k.toNat).conc.sent
      rw [State.wakeReport_live]
      · exact List.mem_append_right _ (List.mem_singleton.2 rfl)
      · exact hl
    · have hl : r.keepHeld.domLive 1 = false := by
        rw [State.keepHeld_domLive, ← hdark]
        exact (s.issued_only c false).domLive 1
      change _ ∈ (State.wakeReport _ 1 k.toNat).conc.inbox
      rw [State.wakeReport_dark]
      · exact List.mem_append_right _ (List.mem_singleton.2 rfl)
      · exact hl
  · have hisle : r.island = s.island := (s.issued_only c false).island
    refine gives_done (c := c) (t := r.keepHeld) rfl hi ?_ ?_ ⟨fun h0 => ?_, fun h1 => ?_, fun hn => ?_⟩
    · exact State.checked_pass hunits (by simp only [c] at hc; rw [hc]; rfl)
    · exact (congrArg Tile.stepping (r.keepHeld_tile c)).trans hst
    · exact State.get_keepHeld_a (hisle ▸ h0)
    · exact State.get_keepHeld_b (hisle ▸ h1)
    · exact (congrArg State.regs (State.keepHeld_none (hisle ▸ hn))).trans (s.issued_only c false).regs

end Sys2Proof.Machine

namespace Sys2Proof.Machine

/-! ## WAIT FRAME while a capture overwrites the one ready buffer (R111, R114) -/

/-- The island's core runs; buffer A holds the only ready frame, and a capture in progress has chosen that buffer. -/
def captureOverReady : State :=
  let s := (State.reset.put Reg.WAT_STATUS_PROG_STATE 1).put Reg.WAT_CTRL_RUN 1
  { s with island := { s.island with
      capture := some ⟨0, true, none, 0, none, false, false, false, false, []⟩
      frames := [(0, some ⟨7, 0, 0, 0, 0⟩)], ready := [0] } }

theorem captureOverReady_canIssue : captureOverReady.canIssue (coreOf 64) false = true := rfl

theorem captureOverReady_waitFrame {t : State} (h : exec (.waitFrame 64 0) captureOverReady = .next t) :
    t.island.held = none := by
  obtain rfl := Host.Outcome.next.inj h
  rfl

/-- Refutes O14: WAIT FRAME passes over a ready frame whose buffer a capture in progress has chosen, so no frame is taken. -/
theorem not_endYieldTrapAndFrames : ¬ Obligations.EndYieldTrapAndFrames := by
  intro h
  obtain ⟨-, hisle⟩ := h captureOverReady 64 captureOverReady_canIssue rfl
  obtain ⟨-, -, -, htake⟩ := hisle rfl
  obtain ⟨t, ht, hheld, -⟩ := htake 0 [] ⟨7, 0, 0, 0, 0⟩ rfl rfl rfl
  rw [captureOverReady_waitFrame ht] at hheld
  cases hheld

end Sys2Proof.Machine

namespace Sys2Proof.Machine

/-! ## Reads of the tile store (R286, R288, R291, R322, R330) -/

/-- Records were made and counters moved; nothing else of the state changed, and no register before WAT_STATUS. -/
def Recorded (s t : State) : Prop :=
  (∃ c v k, t = { s with conc := c, regs := v, freeCtr := k }) ∧ ∀ f : Fld, f.key < Reg.WAT_STATUS_HELD.key → t.get f = s.get f

theorem Recorded.refl (s : State) : Recorded s s := ⟨⟨_, _, _, rfl⟩, fun _ _ => rfl⟩

theorem Recorded.trans {s t r : State} (h : Recorded s t) (g : Recorded t r) : Recorded s r := by
  obtain ⟨⟨c, v, k, rfl⟩, hreg⟩ := h
  obtain ⟨⟨c', v', k', rfl⟩, greg⟩ := g
  exact ⟨⟨_, _, _, rfl⟩, fun f hf => (greg f hf).trans (hreg f hf)⟩

theorem Recorded.tile {s t : State} (h : Recorded s t) (c : Nat) : t.tile c = s.tile c := by
  obtain ⟨⟨_, _, _, rfl⟩, -⟩ := h
  rfl

theorem recorded_put (s : State) {f : Fld} (v : Nat) (h : Reg.WAT_STATUS_HELD.key ≤ f.key) : Recorded s (s.put f v) :=
  ⟨⟨_, _, _, rfl⟩, fun _ hg => State.get_put_ne _ _ _ _ (Nat.ne_of_lt (Nat.lt_of_lt_of_le hg h))⟩

theorem recorded_hold (s : State) (r : FaultRec) : Recorded s (s.hold r) := by
  have hovf : Reg.WAT_STATUS_HELD.key ≤ Reg.WAT_STATUS_HOLD_OVF.key := by decide
  unfold State.hold
  split
  · split
    · exact ⟨⟨_, _, _, rfl⟩, fun _ _ => rfl⟩
    · exact recorded_put s 1 hovf
  · split
    · refine Recorded.trans (t := { s with conc := { s.conc with aonOther := s.conc.aonOther ++ [r] } })
        ⟨⟨_, _, _, rfl⟩, fun _ _ => rfl⟩ (recorded_put _ _ (Nat.le_refl _))
    · exact recorded_put s 1 hovf

theorem recorded_tookFree (s : State) : Recorded s s.tookFree := ⟨⟨_, _, _, rfl⟩, fun _ _ => rfl⟩

theorem recorded_faultC (s : State) (code unit src detail : Nat) (cid qid cause : Option Nat) :
    Recorded s (s.faultC code unit src detail cid qid cause) := by
  have numbered (s : State) : Recorded s { s with conc := { s.conc with nextId := s.conc.nextId + 1 } } :=
    ⟨⟨_, _, _, rfl⟩, fun _ _ => rfl⟩
  unfold State.faultC
  dsimp only
  split
  · split
    · exact ((recorded_tookFree s).trans (numbered _)).trans ⟨⟨_, _, _, rfl⟩, fun _ _ => rfl⟩
    · exact ((recorded_tookFree s).trans (numbered _)).trans (recorded_hold _ _)
  · split
    · exact (numbered s).trans ⟨⟨_, _, _, rfl⟩, fun _ _ => rfl⟩
    · exact (numbered s).trans (recorded_hold _ _)

theorem recorded_eccFault (s : State) (code unit src mem loc : Nat) (recovered : Bool) (cid : Option Nat) :
    Recorded s (s.eccFault code unit src mem loc recovered cid) :=
  (recorded_faultC _ _ _ _ _ _ _ _).trans (recorded_tookFree _)

theorem recorded_tileCorrected (s : State) (t a : Nat) : Recorded s (s.tileCorrected t a) := by
  refine Recorded.trans (recorded_put s _ ?_) (recorded_eccFault _ _ _ _ _ _ _ _)
  simp only [Fld.key, Reg.CLS_TILE_COUNTS, Reg.WAT_STATUS]
  omega

/-- Corrected errors are recorded and counted, and nothing else happens (R288). -/
theorem recorded_tileErrors (u cid : Nat) : ∀ (l : List TileHit) (s : State), l.any (·.bad) = false →
    Recorded s (l.foldl (fun s h => s.tileError u cid h) s) := by
  intro l
  induction l with
  | nil => exact fun s _ => Recorded.refl s
  | cons h l ih =>
    intro s hl
    obtain ⟨hbad, hrest⟩ := Bool.or_eq_false_iff.1 hl
    have hfirst : s.tileError u cid h = s.tileCorrected u h.addr.toNat := if_neg (by simp [hbad])
    exact (hfirst ▸ recorded_tileCorrected s u h.addr.toNat).trans (ih _ hrest)

/-- The errors that a read of ranges meets. -/
def State.met (s : State) (u : Nat) (rs : List (Nat × Nat)) (hits : List TileHit) : List TileHit :=
  hits.filter fun (h : TileHit) => (rs.any fun r => meets r (h.addr.toNat / 8 * 8, 8)) && (s.tile u).isWritten (h.addr.toNat / 64)

theorem State.readEcc_eq {s : State} {u : Nat} (hu : u < 64) (cid : Nat) (rs : List (Nat × Nat)) (hits : List TileHit) :
    s.readEcc u cid rs hits = ((s.met u rs hits).foldl (fun s h => s.tileError u cid h) s, (s.met u rs hits).any (·.bad)) :=
  if_neg (Nat.not_le.2 hu)

theorem State.met_mild {s : State} {u : Nat} {rs : List (Nat × Nat)} {hits : List TileHit} (h : eccMild rs hits = true) :
    (s.met u rs hits).any (·.bad) = false := by
  simp only [eccMild, List.all_eq_true, Bool.or_eq_true] at h
  rw [List.any_eq_false]
  intro e he hbad
  obtain ⟨hmem, hmet⟩ := List.mem_filter.1 he
  obtain ⟨r, hr, hm⟩ := List.any_eq_true.1 (Bool.and_eq_true_iff.1 hmet).1
  rcases h e hmem with hb | hnone
  · simp [hbad] at hb
  · have := hnone r hr
    simp [hm] at this

theorem State.met_free {s : State} {u : Nat} {rs : List (Nat × Nat)} {hits : List TileHit} (h : eccFree rs hits = true) :
    s.met u rs hits = [] := by
  simp only [eccFree, List.all_eq_true] at h
  refine List.filter_eq_nil_iff.2 fun e hmem he => ?_
  obtain ⟨r, hr, hm⟩ := List.any_eq_true.1 (Bool.and_eq_true_iff.1 he).1
  have := h e hmem r hr
  simp [hm] at this

/-- An access over errors that the store corrects goes on (R288). -/
theorem State.exists_withEcc {s : State} {c : Nat} {rs : List (Nat × Nat)} {hits : List TileHit} (hc : c < 64)
    (h : eccMild rs hits = true) :
    ∃ t, (∀ fx, s.withEcc c rs hits fx = fx t) ∧ Recorded s t ∧ (eccFree rs hits = true → t = s) := by
  refine ⟨(s.met c rs hits).foldl (fun t e => t.tileError c (s.tile c).cid e) s, fun fx => ?_,
    recorded_tileErrors _ _ _ _ (met_mild h), fun hf => ?_⟩
  · unfold State.withEcc
    rw [State.readEcc_eq hc, met_mild h]
  · rw [met_free hf]
    rfl

theorem State.withEcc_mild {s : State} {c : Nat} {rs : List (Nat × Nat)} {hits : List TileHit} (fx : State → Fx)
    (hc : c < 64) (h : eccMild rs hits = true) :
    ∃ t, s.withEcc c rs hits fx = fx t ∧ Recorded s t ∧ (eccFree rs hits = true → t = s) := by
  obtain ⟨t, hfx, hrest⟩ := State.exists_withEcc (s := s) hc h
  exact ⟨t, hfx fx, hrest⟩

theorem Tile.rdLe_congr {x y : Tile} (h : ∀ b, x.rd b = y.rd b) (a n : Nat) : x.rdLe a n = y.rdLe a n := by
  have hlist : ∀ (n a : Nat), x.rdList a n = y.rdList a n := by
    intro n
    induction n with
    | zero => exact fun _ => rfl
    | succ n ih =>
      intro a
      rw [Tile.rdList, Tile.rdList, h a, ih (a + 1)]
  exact congrArg leNat (hlist n a)

theorem State.countUnwritten_tile (s : State) (u n : Nat) :
    (s.countUnwritten u n).tile u = { s.tile u with unwritten := (s.tile u).unwritten + n } := by
  unfold State.countUnwritten
  split
  · next h =>
    subst h
    rfl
  · have hself := State.tile_updTile_self s u fun t => { t with unwritten := t.unwritten + n }
    dsimp only
    split
    · exact hself
    · exact hself

/-- A read of which no unwritten line traps answers the bytes, and counts the unwritten lines (R291). -/
theorem State.coreRead_ok {s : State} {c a n : Nat} (hc : c ≠ isleCore)
    (h : (s.tile c).unwrittenIn [(a, n)] = [] ∨ (s.tile c).trapUnwritten = false) :
    ∃ t k, s.coreRead c a n = .ok (t, (s.tile c).rdLe a n) ∧ t.tile c = { s.tile c with unwritten := k } ∧
      ((s.tile c).unwrittenIn [(a, n)] = [] → t = s) := by
  have hrd (x : Tile) (k m : Nat) : Tile.rdLe { x with unwritten := k } a m = x.rdLe a m :=
    Tile.rdLe_congr (x := { x with unwritten := k }) (y := x) (fun _ => rfl) a m
  unfold State.coreRead State.readRanges
  simp only [hc, if_false]
  cases hl : (s.tile c).unwrittenIn [(a, n)] with
  | nil => exact ⟨s, (s.tile c).unwritten, by simp only [hl], rfl, fun _ => rfl⟩
  | cons l ls =>
    have htrap : (s.tile c).trapUnwritten = false := h.resolve_left (by simp [hl])
    have ht : (s.countUnwritten c (l :: ls).length).tile c =
        { s.tile c with unwritten := (s.tile c).unwritten + (l :: ls).length } := s.countUnwritten_tile c _
    refine ⟨s.countUnwritten c (l :: ls).length, _, ?_, ht, nofun⟩
    simp only [htrap, Bool.false_eq_true, if_false, hl]
    rw [ht, hrd]

theorem coreOf_lt {u : BitVec 7} (h : coreOf u ≠ isleCore) : coreOf u < 64 := by
  unfold coreOf isleCore at *
  omega

theorem Tile.unwrittenIn_issued (x : Tile) (c : Nat) (ext : Bool) (rs : List (Nat × Nat)) :
    (x.issued c ext).unwrittenIn rs = x.unwrittenIn rs := by
  rw [Tile.issued_only_fetch]
  rfl

theorem Tile.rdLe_issued (x : Tile) (c : Nat) (ext : Bool) (a n : Nat) : (x.issued c ext).rdLe a n = x.rdLe a n :=
  Tile.rdLe_congr (fun b => by rw [Tile.issued_only_fetch]; rfl) a n

theorem scalarAddr_issued (x : Tile) (c : Nat) (e : Bool) (rs1 : Nat) (off : BitVec 14) (ext : Option (BitVec 26)) :
    scalarAddr (x.issued c e) rs1 off ext = scalarAddr x rs1 off ext := by
  simp [scalarAddr]

theorem descAddr_issued (x : Tile) (c : Nat) (e : Bool) (rs1 : Nat) (imm : BitVec 15) (ext : Option (BitVec 26)) :
    descAddr (x.issued c e) rs1 imm ext = descAddr x rs1 imm ext := by
  simp [descAddr]

/-- An aligned access that lies in the tile store meets no exception. -/
theorem firstExc_access_none {c : Nat} (hc : c ≠ isleCore) {a n : Nat} (write : Bool) {mis : Exc} (hm : mis.code = 0x11)
    (ha : a % n = 0) (htop : a + n ≤ 2 ^ 20) : firstExc (accessExcs c a n write mis) = none := by
  have hmod : ¬(a : Int).emod n ≠ 0 := by
    change ¬(a : Int) % n ≠ 0
    rw [← Int.natCast_mod, ha]
    decide
  have hin : ¬((a : Int) < 0 ∨ 0x100000 - (n : Int) < a) := by omega
  rw [firstExc_access hc a n write mis hm, if_neg hmod, if_neg hin]

section
variable {i : Instr} {s : State} {c : Nat} {ext : Bool} {fx : State → Fx} {a n : Nat} {hits : List TileHit}
  {put : Tile → Nat → Tile}

/-- A load writes what it read, over the lines that it counted and the errors that the store corrected. -/
theorem gives_load (hexec : exec i s = .next (s.issue c ext fx)) (hi : s.canIssue c ext = true) (hc : c < 64)
    (hclean : (s.tile c).unwrittenIn [(a, n)] = [] ∨ (s.tile c).trapUnwritten = false)
    (hmild : eccMild [(a, n)] hits = true)
    (hfx : ∀ t v, (s.issued c ext).coreRead c a n = .ok (t, v) → fx (s.issued c ext) =
      t.withEcc c [(a, n)] hits fun s => .done (s.updTile c fun x => put x v))
    (hst : ∀ x v, (put x v).stepping = x.stepping) :
    Gives i s fun t => ∃ k, (t.tile c).bare = (put { (s.tile c).issued c ext with unwritten := k } ((s.tile c).rdLe a n)).bare ∧
      ((s.tile c).unwrittenIn [(a, n)] = [] → eccFree [(a, n)] hits = true → OnlyCore s t c ∧
        (t.tile c).bare = (put ((s.tile c).issued c ext) ((s.tile c).rdLe a n)).bare) := by
  have hne : c ≠ isleCore := Nat.ne_of_lt hc
  have htile := s.tile_issued c ext
  obtain ⟨t1, k, hread, ht1, hsame1⟩ := State.coreRead_ok (s := s.issued c ext) (a := a) (n := n) hne (by
    rw [htile, Tile.unwrittenIn_issued]
    refine hclean.imp_right fun h => ?_
    rw [Tile.issued_only_fetch]
    exact h)
  rw [htile, Tile.rdLe_issued] at hread
  rw [htile] at ht1
  rw [htile, Tile.unwrittenIn_issued] at hsame1
  obtain ⟨t2, hecc, hrec, hsame2⟩ := State.withEcc_mild (s := t1)
    (fun t => .done (t.updTile c fun x => put x ((s.tile c).rdLe a n))) hc hmild
  have htile2 : t2.tile c = { (s.tile c).issued c ext with unwritten := k } := (hrec.tile c).trans ht1
  refine gives_done (t := t2.updTile c fun x => put x ((s.tile c).rdLe a n)) hexec hi ((hfx _ _ hread).trans hecc) ?_
    ⟨k, ?_, fun hcl hfree => ?_⟩
  · rw [State.tile_updTile_self, hst, htile2]
    exact (congrArg Tile.stepping htile.symm).trans (s.stepping_issued c ext hi)
  · rw [State.tile_updTile_self, Tile.closeLoops_bare, State.tile_updTile_self, htile2]
  · rw [hsame2 hfree, hsame1 hcl]
    refine ⟨(s.issued_only c ext).trans ((OnlyCore.upd _ c _).trans (OnlyCore.upd _ c _)), ?_⟩
    rw [State.tile_updTile_self, Tile.closeLoops_bare, State.tile_updTile_self, htile]

end

/-- Settles O4. -/
theorem tileStoreLoads : Obligations.TileStoreLoads := by
  intro s u rd rs1 off imm ext a hits hc hi hu c x clean loads toS
  have hlt : c < 64 := coreOf_lt hc
  have hunits : ((s.issued c ext.isSome).tile c).units = [] := by simpa using hu
  have htile : (s.issued c ext.isSome).tile c = x.issued c ext.isSome := s.tile_issued c _
  have scalar {i : Instr} {n : Nat} (hexec : exec i s = s.loadS u rd rs1 off ext hits n) (ha : scalarAddr x rs1.toNat off ext = a)
      (hal : a % n = 0) (htop : a + n ≤ 2 ^ 20) : toS i n := by
    intro hclean hmild
    have haddr : scalarAddr ((s.issued c ext.isSome).tile c) rs1.toNat off ext = a := by rw [htile, scalarAddr_issued, ha]
    refine (gives_load (put := fun x v => x.setS rd.toNat (BitVec.ofNat 32 v)) hexec hi hlt hclean hmild (fun t v hread => ?_)
      fun x v => x.setS_stepping _ _).mono fun t ⟨k, ht, hsame⟩ => ⟨?_, fun hcl hfree => ?_⟩
    · beta_reduce
      rw [haddr, State.checked_pass hunits (firstExc_access_none hc false rfl hal htop)]
      rw [Int.toNat_natCast, show (s.issued (coreOf u) _).coreRead (coreOf u) a n = _ from hread]
    · change (t.tile c).sreg rd.toNat = _
      rw [Tile.sreg_of_bare ht, Tile.sreg_setS]
      simp only [if_true, ite_toNat_eq_zero, x, c]
    · obtain ⟨hcore, hb⟩ := hsame hcl hfree
      exact ⟨hcore, (OnlyS.set _ _ _).of_bare (Tile.issued_bare _ _ _) hb⟩
  refine ⟨fun ha => ⟨fun hal htop => scalar rfl ha hal htop, fun htop => scalar rfl ha (Nat.mod_one a) htop⟩,
    fun ha h4 hrd hal htop hclean hmild => ?_⟩
  refine (gives_load (i := .tld u rd rs1 imm ext hits) (put := fun x v => x.setT rd.toNat (BitVec.ofNat 256 v)) rfl hi hlt hclean
    hmild (fun t v hread => ?_) fun x v => rfl).mono fun t ⟨k, ht, hsame⟩ => ⟨?_, fun hcl hfree => ?_⟩
  · have haddr : descAddr ((s.issued c ext.isSome).tile c) rs1.toNat imm ext = a := by rw [htile, descAddr_issued, ha]
    have hpass : firstExc (descExcs c a rd.toNat imm false) = none := by
      have hbits : (!(tOk c rd.toNat) || imm.extractLsb' 0 4 != 0) = false := by simp [hrd, h4]
      rw [descExcs, hbits]
      exact firstExc_access_none hc false rfl hal htop
    beta_reduce
    rw [haddr, State.checked_pass hunits hpass, Int.toNat_natCast,
      show (s.issued (coreOf u) _).coreRead (coreOf u) a 32 = _ from hread]
  · change (t.tile c).treg rd.toNat = _
    rw [Tile.treg_of_bare ht, Tile.treg_setT, if_pos rfl]
  · obtain ⟨hcore, hb⟩ := hsame hcl hfree
    exact ⟨hcore, (OnlyT.set _ _ _).of_bare (Tile.issued_bare _ _ _) hb⟩

end Sys2Proof.Machine

namespace Sys2Proof.Machine

/-! ## What the loss of a context leaves alone (R182, R183)

The contexts, and of every core the scalar registers and the bytes of its store. -/

/-- The contexts, and the scalar registers and store bytes of every core. -/
def State.spared (s : State) : Tab Ctx × (Nat → Cells × Tab Word) := (s.ctxs, fun k => ((s.tile k).store, (s.tile k).s))

theorem State.setTile_spared (s : State) (n : Nat) (x : Tile) (h : x.store = (s.tile n).store ∧ x.s = (s.tile n).s) :
    (s.setTile n x).spared = s.spared := by
  refine congrArg (Prod.mk s.ctxs) (funext fun k => ?_)
  rw [State.tile_setTile]
  split
  · next hk => rw [hk, h.1, h.2]
  · rfl

@[simp] theorem State.updTile_spared (s : State) (n : Nat) (f : Tile → Tile) (h : ∀ x, (f x).store = x.store ∧ (f x).s = x.s) :
    (s.updTile n f).spared = s.spared := s.setTile_spared n _ (h _)

@[simp] theorem State.spared_ite (p : Prop) [Decidable p] (s t : State) :
    (if p then s else t).spared = if p then s.spared else t.spared := apply_ite _ _ _ _

/-- Contexts and tiles decide what is spared. -/
@[simp] theorem State.spared_update (s : State) {gtc : Nat} {regs : Tab Nat} {mem : Cells} {sealTag : Tab Nat} {fuses : Fuses}
    {doms : Tab Dom} {gates : Tab Gate} {flight : FlightSeq} {conc : Conc} {mon : Mon} {host : HostOut}
    {groups : Tab (Option Nat)} {queues : Tab Queue} {waiters : Tab (Option Waiter)} {disp : Disp} {xlt : Xlt}
    {basin : Basin} {island : Island} {mail : Mail} {mesh : Mesh} {link : Link} {power : Power} {keeper : Keeper}
    {stop : Option StopCmd} {pins : Pins} {onRc : Bool} {sealKeys : Tab Nat} {modelKeys : List (Nat × Nat × Nat)}
    {linkOut : List (Nat × Byte)} {copies : Copies} {freeCtr : Nat} {pending : List Instr} :
    State.spared ⟨gtc, regs, mem, sealTag, fuses, doms, gates, flight, conc, mon, host, s.ctxs, groups, queues, waiters, disp,
      s.tiles, xlt, basin, island, mail, mesh, link, power, keeper, stop, pins, onRc, sealKeys, modelKeys, linkOut, copies,
      freeCtr, pending⟩ = s.spared := rfl

@[simp] theorem Tile.abortOrder_s (x : Tile) : x.abortOrder.s = x.s := rfl

@[simp] theorem foldl_spared {α : Type} (f : State → α → State) (l : List α) (s : State)
    (h : ∀ a t, (f t a).spared = t.spared) : (l.foldl f s).spared = s.spared := by
  induction l generalizing s with
  | nil => rfl
  | cons a l ih => exact (ih (f s a)).trans (h a s)

theorem foldl_fst_spared {α β : Type} (f : State × β → α → State × β) (h : ∀ p a, (f p a).1.spared = p.1.spared)
    (l : List α) (p : State × β) : (l.foldl f p).1.spared = p.1.spared := by
  induction l generalizing p with
  | nil => rfl
  | cons a l ih => exact (ih (f p a)).trans (h p a)

@[simp] theorem State.put_spared (s : State) (f : Fld) (v : Nat) : (s.put f v).spared = s.spared := (rfl)

@[simp] theorem State.tookFree_spared (s : State) : (s.tookFree).spared = s.spared := (rfl)

@[simp] theorem State.send_spared (s : State) (r : Report) : (s.send r).spared = s.spared := (rfl)

@[simp] theorem State.event_spared (s : State) (v : Nat) : (s.event v).spared = s.spared := (rfl)

@[simp] theorem State.setQueue_spared (s : State) (q : Nat) (x : Queue) : (s.setQueue q x).spared = s.spared := (rfl)

@[simp] theorem State.updQueue_spared (s : State) (q : Nat) (f : Queue → Queue) : (s.updQueue q f).spared = s.spared := (rfl)

@[simp] theorem State.setWaiter_spared (s : State) (i : Nat) (w : Option Waiter) : (s.setWaiter i w).spared = s.spared := (rfl)

@[simp] theorem State.updPkt_spared (s : State) (q i : Nat) (f : Pkt → Pkt) : (s.updPkt q i f).spared = s.spared := (rfl)

@[simp] theorem State.countFor_spared (s : State) (cid : Nat) (f : CtxPart → CtxPart) :
    (s.countFor cid f).spared = s.spared := (rfl)

@[simp] theorem State.dropSusp_spared (s : State) (q i : Nat) (inst : Option Nat) :
    (s.dropSusp q i inst).spared = s.spared := (rfl)

@[simp] theorem State.endHead_spared (s : State) (q : Nat) (e : PktEnd) : (s.endHead q e).spared = s.spared := (rfl)

@[simp] theorem State.endWaiting_spared (s : State) (q cid : Nat) (e : PktEnd) :
    (s.endWaiting q cid e).spared = s.spared := (rfl)

@[simp] theorem State.freeSlot_spared (s : State) (p k : Nat) : (s.freeSlot p k).spared = s.spared := (rfl)

@[simp] theorem State.hold_spared (s : State) (r : FaultRec) : (s.hold r).spared = s.spared := by simp [State.hold]

@[simp] theorem State.faultC_spared (s : State) (code unit src detail : Nat) (cid qid cause : Option Nat) :
    (s.faultC code unit src detail cid qid cause).spared = s.spared := by simp [State.faultC]

@[simp] theorem State.fault_spared (s : State) (code unit src detail : Nat) : (s.fault code unit src detail).spared = s.spared := by
  obtain ⟨c, v, e, -, hl, -⟩ := s.faultC_shape code unit src detail none none none
  rw [State.fault, e]
  simp [hl]

/-! ## Outcomes, choices and repetitions -/

@[simp] theorem State.recordX_spared (s : State) (unit src cid : Nat) (qid : Option Nat) (e : XErr) :
    (s.recordX unit src cid qid e).spared = s.spared := by simp [State.recordX]

@[simp] theorem State.refusedRec_spared (s : State) (cid : Nat) (qid : Option Nat) (pa : Nat) :
    (s.refusedRec cid qid pa).spared = s.spared := by simp [State.refusedRec]

@[simp] theorem State.badDataRec_spared (s : State) (cid pa : Nat) :
    (s.badDataRec cid pa).spared = s.spared := by simp [State.badDataRec]

/-! ## Contexts, groups, queues and waiters -/

@[simp] theorem State.endSuspended_spared (s : State) (q cid : Nat) (e : PktEnd) :
    (s.endSuspended q cid e).spared = s.spared := by
  refine foldl_spared _ _ _ fun a t => ?_
  split <;> simp

@[simp] theorem State.countRun_spared (s : State) (q i n : Nat) : (s.countRun q i n).spared = s.spared := by
  unfold State.countRun
  split <;> simp

@[simp] theorem State.abortRun_spared (s : State) (q i : Nat) (r : Run) (e : PktEnd) :
    (s.abortRun q i r e).spared = s.spared := by
  unfold State.abortRun
  split <;> simp

@[simp] theorem State.abortPkt_spared (s : State) (q i : Nat) (e : PktEnd) : (s.abortPkt q i e).spared = s.spared := by
  unfold State.abortPkt
  split <;> simp

@[simp] theorem State.abortCtx_spared (s : State) (cid : Nat) (e : PktEnd) :
    (s.abortCtx cid e).spared = s.spared := by simp [State.abortCtx]

@[simp] theorem State.breakAll_spared (s : State) (cid : Nat) (e : PktEnd) : (s.breakAll cid e).spared = s.spared := by
  unfold State.breakAll
  refine foldl_spared _ _ _ fun t a => ?_
  dsimp only
  repeat' split
  all_goals simp

@[simp] theorem State.endClaims_spared (s : State) (p : Nat → Nat → Bool) : (s.endClaims p).spared = s.spared := by
  unfold State.endClaims
  refine foldl_spared _ _ _ fun t a => ?_
  dsimp only
  repeat' split
  all_goals simp

@[simp] theorem State.dropStaged_spared (s : State) (qs : List Nat) : (s.dropStaged qs).1.spared = s.spared := by
  refine foldl_fst_spared _ (fun p q => ?_) _ _
  dsimp only
  split <;> rfl

@[simp] theorem State.physPut_spared (s : State) (pa : Nat) (b : Byte) : (s.physPut pa b).spared = s.spared := by
  obtain ⟨m, t, x, l, e⟩ := s.physPut_shape pa b
  rw [e]
  rfl

@[simp] theorem State.physPutList_spared (bs : List Byte) : ∀ (s : State) (pa : Nat),
    (s.physPutList pa bs).spared = s.spared := by
  induction bs with
  | nil => exact fun _ _ => rfl
  | cons b bs ih => exact fun s pa => (ih _ _).trans (s.physPut_spared pa b)

theorem State.ownWrite_spared {s t : State} {cid pa : Nat} {bs : List Byte} (h : s.ownWrite cid pa bs = some t) :
    t.spared = s.spared := by
  unfold State.ownWrite at h
  split at h
  · cases h
    simp
  · cases h

@[simp] theorem State.relRef_spared (s : State) (r : Ref) (bad : Bool) : (s.relRef r bad).1.spared = s.spared := by
  unfold State.relRef
  dsimp only
  split
  · simp
  · split
    · simp
    · split
      · rfl
      · split
        · next hw => exact State.ownWrite_spared hw
        · rfl

/-- Scalar registers and stores stay, and what is lost stays lost. -/
structure Bereaves (s t : State) : Prop where
  cores : t.spared.2 = s.spared.2
  lost : ∀ cid, (s.ctx cid).st = .lost → (t.ctx cid).st = .lost

theorem State.ctx_of_spared {s t : State} (h : t.spared = s.spared) (cid : Nat) : t.ctx cid = s.ctx cid := by
  have hc : t.ctxs = s.ctxs := congrArg Prod.fst h
  exact congrArg (fun m => Tab.get (Ctx.reset) m cid) hc

theorem Bereaves.of_spared {s t : State} (h : t.spared = s.spared) : Bereaves s t :=
  ⟨congrArg Prod.snd h, fun cid hl => by rw [State.ctx_of_spared h, hl]⟩

theorem Bereaves.trans {s t r : State} (h : Bereaves s t) (g : Bereaves t r) : Bereaves s r :=
  ⟨g.cores.trans h.cores, fun cid hl => g.lost cid (h.lost cid hl)⟩

/-- A change of a context that is lost afterwards if it was before. -/
theorem Bereaves.setCtx {s : State} {cid : Nat} {x : Ctx} (h : (s.ctx cid).st = .lost → x.st = .lost) :
    Bereaves s (s.setCtx cid x) :=
  ⟨rfl, fun k hl => by
    rw [State.ctx_setCtx]
    split
    · next hk => exact h (hk ▸ hl)
    · exact hl⟩

theorem bereaves_settleLoss (s : State) (cid : Nat) : Bereaves s (s.settleLoss cid) := by
  unfold State.settleLoss
  dsimp only
  split
  · exact (Bereaves.setCtx (x := { s.ctx cid with lossDue := false }) (fun h => h)).trans (.of_spared rfl)
  · exact .of_spared rfl

theorem bereaves_loseMark (s : State) (cid code : Nat) (cause : Option Nat) (byCmd : Bool) :
    Bereaves s (s.loseMark cid code cause byCmd).1 ∧
      ((s.ctx cid).st = .opened → ((s.loseMark cid code cause byCmd).1.ctx cid).st = .lost) := by
  have marked (x : Ctx) (hx : x.st = .lost) (v : Option Nat) : Bereaves s
      ((s.setCtx cid x).setCtx cid { (s.setCtx cid x).ctx cid with lossRec := v }) ∧
      (((s.setCtx cid x).setCtx cid { (s.setCtx cid x).ctx cid with lossRec := v }).ctx cid).st = .lost := by
    have h1 : Bereaves s (s.setCtx cid x) := .setCtx fun _ => hx
    have h2 : ((s.setCtx cid x).ctx cid).st = .lost := by rw [State.ctx_setCtx, if_pos rfl, hx]
    exact ⟨h1.trans (.setCtx fun _ => h2), by rw [State.ctx_setCtx, if_pos rfl]; exact h2⟩
  have after {m t : State} (hm : Bereaves s m) (hl : (m.ctx cid).st = .lost) (ht : t.spared = m.spared)
      {P : Prop} : Bereaves s (t.settleLoss cid) ∧ (P → ((t.settleLoss cid).ctx cid).st = .lost) :=
    ⟨hm.trans ((Bereaves.of_spared ht).trans (bereaves_settleLoss t cid)), fun _ =>
      (bereaves_settleLoss t cid).lost cid ((Bereaves.of_spared ht).lost cid hl)⟩
  unfold State.loseMark
  dsimp only
  split
  · obtain ⟨hm, hl⟩ := marked { s.ctx cid with st := .lost, lossDue := true } rfl
      (some (s.setCtx cid { s.ctx cid with st := .lost, lossDue := true }).recId)
    simp only [Bool.false_eq_true, if_false]
    refine after hm hl ?_
    simp
  · next hst =>
    obtain ⟨hm, hl⟩ := marked { s.ctx cid with st := .lost, lossDue := true } rfl
      (some (s.setCtx cid { s.ctx cid with st := .lost, lossDue := true }).recId)
    simp only [Bool.false_eq_true, if_false]
    refine after hm hl ?_
    simp
  · next hst =>
    refine ⟨(Bereaves.setCtx (x := { s.ctx cid with lossRec := some s.recId }) (fun h => h)).trans (.of_spared (by simp)), ?_⟩
    simp [hst]
  all_goals
    next hst => exact ⟨.of_spared rfl, by simp [hst]⟩

theorem State.settle_bereaves (n : Nat) (ws : List ObjWork) (s : State) : Bereaves s (State.settle n ws s) := by
  fun_induction State.settle n ws s with
  | case1 => exact .of_spared rfl
  | case2 => exact .of_spared rfl
  | case3 n r bad ws s t h ih => exact (Bereaves.of_spared (by rw [← State.relRef_spared s r bad, h])).trans ih
  | case4 n r bad ws s t event h ih =>
    refine (Bereaves.of_spared ?_).trans ih
    rw [← State.relRef_spared s r bad, h]
    split <;> simp
  | case5 n r bad ws s t h ih => exact (Bereaves.of_spared (by rw [← State.relRef_spared s r bad, h]; simp)).trans ih
  | case6 n r bad ws s t o h id ih => exact (Bereaves.of_spared (by rw [← State.relRef_spared s r bad, h]; simp)).trans ih
  | case7 n cid code cause byCmd ws s t rs h ih =>
    have hm := (bereaves_loseMark s cid code cause byCmd).1
    rw [h] at hm
    exact hm.trans ih

/-- The loss of an open context (R182, R183): it ends LOST, with the registers and the stores of every core as they were. -/
theorem State.lose_opened {s : State} {cid : Nat} (code : Nat) (cause : Option Nat) (h : (s.ctx cid).st = .opened) :
    ((s.lose cid code cause).ctx cid).st = .lost := by
  have hm := (bereaves_loseMark s cid code cause false).2 h
  have hs : s.lose cid code cause = State.settle 4095 ((s.loseMark cid code cause false).2.map (.release · false) ++ [])
      (s.loseMark cid code cause false).1 := rfl
  rw [hs]
  exact (State.settle_bereaves _ _ _).lost cid hm

theorem State.lose_bereaves (s : State) (cid code : Nat) (cause : Option Nat) : Bereaves s (s.lose cid code cause) :=
  State.settle_bereaves _ _ _

theorem Bereaves.tile {s t : State} (h : Bereaves s t) (k : Nat) : (t.tile k).store = (s.tile k).store ∧ (t.tile k).s = (s.tile k).s :=
  Prod.mk.inj (congrFun h.cores k)

end Sys2Proof.Machine

namespace Sys2Proof.Machine

/-! ## Writes of the tile store (R13, R288, R289, R322, R330) -/

theorem Tile.isWritten_wr (x : Tile) (a : Nat) (b : Byte) (l : Nat) :
    (x.wr a b).isWritten l = if l = a / 64 then true else x.isWritten l := by
  unfold Tile.wr
  split
  · next h =>
    split
    · next hl => rw [hl]; exact h
    · rfl
  · exact Tab.get_set _ _ _ _ _

theorem Tile.byte_wr {x : Tile} (h : Memory.wf x.store = true) (a : Nat) (b : Byte) (k : Nat) :
    (x.wr a b).store.byte k = if k = a then b
      else if x.isWritten (a / 64) = false ∧ k / 64 = a / 64 then 0 else x.store.byte k := by
  unfold Tile.wr
  by_cases hw : x.isWritten (a / 64) = true
  · rw [if_pos hw, Cells.byte_put _ _ _ _ h]
    simp [hw]
  · have hline : (a / 64 * 64 ≤ k ∧ k < a / 64 * 64 + 64) ↔ k / 64 = a / 64 := by omega
    rw [if_neg hw, Cells.byte_put _ _ _ _ (Memory.wf_wipe _ _ _ h), Cells.byte_wipe]
    simp [hw, hline, Cells.blank]

theorem Tile.rd_wr {x : Tile} (h : Memory.wf x.store = true) (a : Nat) (b : Byte) (k : Nat) :
    (x.wr a b).rd k = if k = a then b else x.rd k := by
  unfold Tile.rd
  rw [Tile.isWritten_wr, Tile.byte_wr h]
  by_cases hk : k = a
  · simp [hk]
  · by_cases hl : k / 64 = a / 64
    · by_cases hw : x.isWritten (a / 64) = true <;> simp [hk, hl, hw]
    · simp [hk, hl]

theorem Tile.wr_only (x : Tile) (a : Nat) (b : Byte) : ∃ m w, x.wr a b = { x with store := m, written := w } := by
  unfold Tile.wr
  split <;> exact ⟨_, _, rfl⟩

theorem Tile.wrList_only (bs : List Byte) : ∀ (x : Tile) (a : Nat), ∃ m w, x.wrList a bs = { x with store := m, written := w } := by
  induction bs with
  | nil => exact fun x _ => ⟨x.store, x.written, rfl⟩
  | cons b bs ih =>
    intro x a
    obtain ⟨m, w, h⟩ := x.wr_only a b
    obtain ⟨m', w', h'⟩ := ih (x.wr a b) (a + 1)
    exact ⟨m', w', h'.trans (by rw [h])⟩

theorem Tile.rd_wrList_out (bs : List Byte) : ∀ {x : Tile} (_ : Memory.wf x.store = true) (a : Nat) {k : Nat},
    ¬(a ≤ k ∧ k < a + bs.length) → (x.wrList a bs).rd k = x.rd k := by
  induction bs with
  | nil => exact fun _ _ _ _ => rfl
  | cons b bs ih =>
    intro x h a k hk
    rw [List.length_cons] at hk
    refine (ih (Tile.wf_wr a b h) (a + 1) (by omega)).trans ((Tile.rd_wr h a b k).trans (if_neg (by omega)))

theorem Tile.rd_wrList_in (bs : List Byte) : ∀ {x : Tile} (_ : Memory.wf x.store = true) (a : Nat) {j : Nat} {b : Byte},
    bs[j]? = some b → (x.wrList a bs).rd (a + j) = b := by
  induction bs with
  | nil => exact fun _ _ _ _ h => nomatch h
  | cons c bs ih =>
    intro x h a j b hj
    cases j with
    | zero =>
      obtain rfl := Option.some.inj hj
      exact (Tile.rd_wrList_out bs (Tile.wf_wr a c h) (a + 1) (by omega)).trans ((Tile.rd_wr h a c _).trans (if_pos rfl))
    | succ j =>
      have hin := ih (Tile.wf_wr a c h) (a + 1) (j := j) hj
      rwa [Nat.add_assoc, Nat.add_comm 1] at hin

theorem leBytes_length (n : Nat) : ∀ v, (leBytes n v).length = n := by
  induction n with
  | zero => exact fun _ => rfl
  | succ n ih => exact fun v => congrArg (· + 1) (ih _)

theorem leBytes_get (n : Nat) : ∀ (v : Nat) {j : Nat}, j < n → (leBytes n v)[j]? = some (BitVec.ofNat 8 (v / 256 ^ j)) := by
  induction n with
  | zero => exact fun _ _ h => nomatch h
  | succ n ih =>
    intro v j hj
    cases j with
    | zero => simp [leBytes]
    | succ j =>
      refine (ih (v / 256) (Nat.lt_of_succ_lt_succ hj)).trans ?_
      rw [Nat.div_div_eq_div_mul, Nat.pow_succ, Nat.mul_comm]

theorem Tile.wrLe_only (x : Tile) (a n v : Nat) : ∃ m w, x.wrLe a n v = { x with store := m, written := w } :=
  Tile.wrList_only _ _ _

theorem Tile.rd_wrLe_out {x : Tile} (h : Memory.wf x.store = true) {a n k : Nat} (v : Nat) (hk : ¬(a ≤ k ∧ k < a + n)) :
    (x.wrLe a n v).rd k = x.rd k := Tile.rd_wrList_out _ h a (by rwa [leBytes_length])

theorem Tile.rd_wrLe_in {x : Tile} (h : Memory.wf x.store = true) (a v : Nat) {n j : Nat} (hj : j < n) :
    (x.wrLe a n v).rd (a + j) = BitVec.ofNat 8 (v / 256 ^ j) := Tile.rd_wrList_in _ h a (leBytes_get n v hj)

theorem Tile.rd_of_bare {x y : Tile} (h : x.bare = y.bare) (k : Nat) : x.rd k = y.rd k := by
  change x.bare.rd k = y.bare.rd k
  rw [h]

section
variable {i : Instr} {s : State} {c : Nat} {ext : Bool} {fx : State → Fx} {a n v : Nat} {free : Prop}

/-- A store writes its bytes, over the errors that the store corrected. -/
theorem gives_store (hexec : exec i s = .next (s.issue c ext fx)) (hi : s.canIssue c ext = true)
    (hwf : Memory.wf (s.tile c).store = true)
    (hfx : ∃ t, fx (s.issued c ext) = .done (t.updTile c fun x => x.wrLe a n v) ∧ Recorded (s.issued c ext) t ∧
      (free → t = s.issued c ext)) :
    Gives i s fun t => (free → OnlyCore s t c ∧ OnlyStore (s.tile c) (t.tile c) a n) ∧
      (∀ b, ¬(a ≤ b ∧ b < a + n) → (t.tile c).rd b = (s.tile c).rd b) ∧
      ∀ j, j < n → (t.tile c).rd (a + j) = BitVec.ofNat 8 (v / 256 ^ j) := by
  obtain ⟨t1, hdone, hrec, hsame⟩ := hfx
  have ht1 : t1.tile c = (s.tile c).issued c ext := (hrec.tile c).trans (s.tile_issued c ext)
  have hb1 : (t1.tile c).bare = (s.tile c).bare := (congrArg Tile.bare ht1).trans (Tile.issued_bare _ _ _)
  have hstore : (t1.tile c).store = (s.tile c).store := by
    change (t1.tile c).bare.store = (s.tile c).bare.store
    rw [hb1]
  have hwf1 : Memory.wf (t1.tile c).store = true := hstore ▸ hwf
  obtain ⟨m, w, hw⟩ := (t1.tile c).wrLe_only a n v
  have hst : (t1.tile c).stepping = false := by
    rw [ht1, ← s.tile_issued]
    exact s.stepping_issued c ext hi
  have hbare : ((((t1.updTile c fun x => x.wrLe a n v).updTile c fun x => x.closeLoops ((x.pc + wordsLen ext) % 2 ^ 32) 4)).tile c).bare
      = ((t1.tile c).wrLe a n v).bare := by
    rw [State.tile_updTile_self, Tile.closeLoops_bare, State.tile_updTile_self]
  have hout (b : Nat) (hb : ¬(a ≤ b ∧ b < a + n)) : ((((t1.updTile c fun x => x.wrLe a n v).updTile c fun x =>
      x.closeLoops ((x.pc + wordsLen ext) % 2 ^ 32) 4)).tile c).rd b = (s.tile c).rd b := by
    rw [Tile.rd_of_bare hbare, Tile.rd_wrLe_out hwf1 v hb, Tile.rd_of_bare hb1]
  refine gives_done hexec hi hdone ?_ ⟨fun hf => ⟨?_, ?_, hout⟩, hout, fun j hj => ?_⟩
  · rw [State.tile_updTile_self, hw]
    exact hst
  · rw [hsame hf]
    exact (s.issued_only c ext).trans ((OnlyCore.upd _ c _).trans (OnlyCore.upd _ c _))
  · rw [hbare, hw, ← hb1]
    change { (t1.tile c).bare with store := (s.tile c).store, written := (s.tile c).written } = (t1.tile c).bare
    have hwr : (t1.tile c).written = (s.tile c).written := by
      change (t1.tile c).bare.written = (s.tile c).bare.written
      rw [hb1]
    rw [← hstore, ← hwr]
    rfl
  · rw [Tile.rd_of_bare hbare, Tile.rd_wrLe_in hwf1 a v hj]

end

theorem Recorded.spared {s t : State} (h : Recorded s t) : t.spared = s.spared := by
  obtain ⟨⟨_, _, _, rfl⟩, -⟩ := h
  rfl

theorem Tile.isWritten_issued (x : Tile) (c : Nat) (ext : Bool) (l : Nat) : (x.issued c ext).isWritten l = x.isWritten l := by
  rw [Tile.issued_only_fetch]
  rfl

theorem State.issued_ctx (s : State) (c : Nat) (ext : Bool) (k : Nat) : (s.issued c ext).ctx k = s.ctx k := by
  unfold State.issued
  split <;> rfl

/-- An access over an uncorrectable error at its first byte costs the context and has no other effect (R182, R288). -/
theorem State.withEcc_bad {s : State} {c a n : Nat} (fx : State → Fx) (hc : c < 64) (ha : a < 2 ^ 20) (hn : 0 < n)
    (hw : (s.tile c).isWritten (a / 64) = true) (hst : (s.ctx (s.tile c).cid).st = .opened) :
    ∃ t, s.withEcc c [(a, n)] [⟨BitVec.ofNat 20 a, true⟩] fx = .hold t ∧ Bereaves s t ∧ (t.ctx (s.tile c).cid).st = .lost := by
  have haddr : (BitVec.ofNat 20 a).toNat = a := by
    rw [BitVec.toNat_ofNat, Nat.mod_eq_of_lt ha]
  have hmeets : meets (a, n) (a / 8 * 8, 8) = true := by
    simp only [meets, Bool.and_eq_true, decide_eq_true_eq]
    omega
  have hmet : s.met c [(a, n)] [⟨BitVec.ofNat 20 a, true⟩] = [⟨BitVec.ofNat 20 a, true⟩] := by
    simp [State.met, haddr, hmeets, hw]
  have hrec : (s.eccFault 0x80 (uCLS (c / 4)) (srcTile c) 1 ((BitVec.ofNat 20 a).toNat / 64 * 64) false
      (some (s.tile c).cid)).spared = s.spared := (recorded_eccFault _ _ _ _ _ _ _ _).spared
  refine ⟨s.tileError c (s.tile c).cid ⟨BitVec.ofNat 20 a, true⟩, ?_, ?_, ?_⟩
  · unfold State.withEcc
    rw [State.readEcc_eq hc, hmet]
    rfl
  · exact (Bereaves.of_spared hrec).trans (State.lose_bereaves _ _ _ _)
  · refine State.lose_opened _ _ ?_
    rw [State.ctx_of_spared hrec, hst]

/-- Settles O5. -/
theorem tileStoreStores : Obligations.TileStoreStores := by
  intro s u rd rs1 off imm ext a hits hc hi hu hwf c x stores narrow
  have hlt : c < 64 := coreOf_lt hc
  have hunits : ((s.issued c ext.isSome).tile c).units = [] := by simpa using hu
  have htile : (s.issued c ext.isSome).tile c = x.issued c ext.isSome := s.tile_issued c _
  have scalar {i : List TileHit → Instr} {n : Nat} (hexec : ∀ hits, exec (i hits) s = s.storeS u rd rs1 off ext hits n)
      (ha : scalarAddr x rs1.toNat off ext = a) (hal : a % n = 0) (hn : 0 < n) (htop : a + n ≤ 2 ^ 20) : narrow i n := by
    have haddr : scalarAddr ((s.issued c ext.isSome).tile c) rs1.toNat off ext = a := by rw [htile, scalarAddr_issued, ha]
    have hpass := firstExc_access_none hc true (mis := excAddress rs1.toNat) rfl hal htop
    refine ⟨fun hmild => gives_store (hexec hits) hi hwf ?_, fun hop hwr => ?_⟩
    · obtain ⟨t, hecc, hrec, hfree⟩ := State.withEcc_mild (s := s.issued c ext.isSome)
        (fun t => .done (t.coreWrite c a n ((t.tile c).sreg rd.toNat).toNat)) hlt hmild
      refine ⟨t, ?_, hrec, hfree⟩
      beta_reduce
      rw [haddr, State.checked_pass hunits hpass, Int.toNat_natCast]
      refine hecc.trans (congrArg Fx.done ?_)
      rw [State.coreWrite, if_neg hc, hrec.tile c, htile, Tile.issued_sreg]
    · obtain ⟨t, hecc, hber, hlost⟩ := State.withEcc_bad (s := s.issued c ext.isSome) (n := n) (a := a)
        (fun t => .done (t.coreWrite c a n ((t.tile c).sreg rd.toNat).toNat)) hlt (by omega) hn
        (by rw [htile, Tile.isWritten_issued]; exact hwr) (by rw [htile, Tile.issued_cid, State.issued_ctx]; exact hop)
      refine gives_of_hold (hexec _) hi (t := t) ?_ ⟨?_, ?_, ?_⟩
      · beta_reduce
        rw [haddr, State.checked_pass hunits hpass, Int.toNat_natCast]
        exact hecc
      · rw [(hber.tile c).1, htile, Tile.issued_only_fetch]
      · rw [(hber.tile c).2, htile, Tile.issued_only_fetch]
      · rwa [htile, Tile.issued_cid] at hlost
  refine ⟨fun ha => ⟨fun hal htop => scalar (fun _ => rfl) ha hal (by decide) htop, fun htop =>
    scalar (fun _ => rfl) ha (Nat.mod_one a) (by decide) htop⟩, fun ha h4 hrd hal htop _ => gives_store rfl hi hwf ?_⟩
  have haddr : descAddr ((s.issued c ext.isSome).tile c) rs1.toNat imm ext = a := by rw [htile, descAddr_issued, ha]
  have hpass : firstExc (descExcs c a rd.toNat imm true) = none := by
    have hbits : (!(tOk c rd.toNat) || imm.extractLsb' 0 4 != 0) = false := by simp [hrd, h4]
    rw [descExcs, hbits]
    exact firstExc_access_none hc true rfl hal htop
  refine ⟨s.issued c ext.isSome, ?_, Recorded.refl _, fun _ => rfl⟩
  beta_reduce
  rw [haddr, State.checked_pass hunits hpass, Int.toNat_natCast, State.coreWrite, if_neg hc, htile, Tile.issued_treg]

end Sys2Proof.Machine

namespace Sys2Proof.Machine

/-! ## Atomics on the own die's memory (R339-R341) -/

theorem Tile.takeOld_stepping (x : Tile) (k : Nat) (w64 : Bool) (old : Nat) : (x.takeOld k w64 old).stepping = x.stepping := by
  cases w64
  · exact x.setS_stepping _ _
  · change ((x.setS k _).setS (k + 1) _).stepping = x.stepping
    rw [Tile.setS_stepping, Tile.setS_stepping]

theorem Tile.sreg_takeOld {x : Tile} {k : Nat} (w64 : Bool) (old : Nat) (hk : k ≠ 0) :
    (x.takeOld k w64 old).sreg k = BitVec.ofNat 32 old := by
  cases w64
  · simp [Tile.takeOld, Tile.sreg_setS, hk]
  · simp [Tile.takeOld, Tile.sreg_setS, hk]

theorem Tile.sreg_takeOld_high (x : Tile) (k old : Nat) : (x.takeOld k true old).sreg (k + 1) = BitVec.ofNat 32 (old / 2 ^ 32) := by
  simp [Tile.takeOld, Tile.sreg_setS]

/-- The operand of an atomic: a scalar register or a pair of them (R340). -/
def atomWord (x : Tile) (w64 : Bool) (j : Nat) : Nat :=
  if w64 then (x.sreg j).toNat + (x.sreg (j + 1)).toNat * 2 ^ 32 else (x.sreg j).toNat

theorem atomWord_issued (x : Tile) (c : Nat) (ext w64 : Bool) (j : Nat) : atomWord (x.issued c ext) w64 j = atomWord x w64 j := by
  simp [atomWord]

/-- The operands of an atomic are legal: no 64-bit FADD, pairs at even registers and a CAS's at its own, within the file. -/
theorem atom_operands {op : AtomOp} {w64 : Bool} {k : Nat} (heven : w64 = true → k % 2 = 0) (hfadd : op = .fadd → w64 = false)
    (hcas : op = .cas → k + (if w64 then 8 else 4) / 2 ≤ 32 ∧ (w64 = true → k % 4 = 0)) (hk : k < 32) :
    ((op == .fadd && w64) || (w64 && k % 2 != 0) || (w64 && op == .cas && k % 4 != 0) ||
      decide (32 < k + if w64 then (if op == .cas then 4 else 2) else (if op == .cas then 2 else 1))) = false := by
  by_cases hc : op = .cas
  · obtain ⟨hroom, h4⟩ := hcas hc
    subst hc
    cases w64
    · simp at hroom ⊢
      omega
    · simp at heven hroom h4 ⊢
      simp [heven, h4]
      omega
  · have hf : (op == .fadd && w64) = false := by
      by_cases hf : op = .fadd
      · simp [hfadd hf]
      · simp [hf]
    cases w64
    · simp [hc]
      omega
    · simp at heven hf
      simp [hc, heven, hf]
      omega

/-- An atomic with legal operands on a word that the context may reach replaces the word and returns the old one. -/
theorem atom_gives {i : Instr} {s : State} {u : BitVec 7} {a : BitVec 4} {sf : BitVec 5} {w64 : Bool} {pa : Nat} (op : AtomOp)
    (hexec : exec i s = s.atom u op w64 a 0 sf 0) (hc : coreOf u ≠ isleCore) (hi : s.canIssue (coreOf u) false = true)
    (hu : (s.tile (coreOf u)).units = []) (hal : ((s.tile (coreOf u)).areg a.toNat).toNat % (if w64 then 8 else 4) = 0)
    (hreach : (s.issued (coreOf u) false).reachBy u.toNat (s.tile (coreOf u)).cid ((s.tile (coreOf u)).areg a.toNat).toNat .atomic = .ok pa)
    (hdie : paDie pa = (s.issued (coreOf u) false).ownDie) (heven : w64 = true → sf.toNat % 2 = 0)
    (hfadd : op = .fadd → w64 = false)
    (hcas : op = .cas → sf.toNat + (if w64 then 8 else 4) / 2 ≤ 32 ∧ (w64 = true → sf.toNat % 4 = 0)) {w : Nat}
    (hw : atomNew op (8 * if w64 then 8 else 4) ((s.issued (coreOf u) false).physLe pa (if w64 then 8 else 4))
      (atomWord (s.tile (coreOf u)) w64 sf.toNat) (atomWord (s.tile (coreOf u)) w64 (sf.toNat + if w64 then 2 else 1)) = w) :
    Gives i s fun t =>
      t.mem = ((s.issued (coreOf u) false).physPutLe pa (if w64 then 8 else 4) w).mem ∧
      t.basin = ((s.issued (coreOf u) false).physPutLe pa (if w64 then 8 else 4) w).basin ∧ t.regs = s.regs ∧
      (sf.toNat ≠ 0 → (t.tile (coreOf u)).sreg sf.toNat =
        BitVec.ofNat 32 ((s.issued (coreOf u) false).physLe pa (if w64 then 8 else 4))) ∧
      (w64 = true → (t.tile (coreOf u)).sreg (sf.toNat + 1) =
        BitVec.ofNat 32 ((s.issued (coreOf u) false).physLe pa (if w64 then 8 else 4) / 2 ^ 32)) := by
  have hp := State.physPutLe_sansBytes (s.issued (coreOf u) false) pa (if w64 then 8 else 4) w
  have htile := State.tile_of_sansBytes hp (coreOf u)
  refine gives_done (t := ((s.issued (coreOf u) false).physPutLe pa (if w64 then 8 else 4) w).updTile (coreOf u) fun t =>
    t.takeOld sf.toNat w64 ((s.issued (coreOf u) false).physLe pa (if w64 then 8 else 4))) hexec hi ?_ ?_ ⟨rfl, rfl, ?_, ?_, ?_⟩
  · have hx := s.tile_issued (coreOf u) false
    have hpass : firstExc [tileOnly (coreOf u), excIf ((0 : BitVec 4) != 0 || (0 : BitVec 8) != 0) excEncoding,
        excIf ((op == .fadd && w64) || (w64 && sf.toNat % 2 != 0) || (w64 && op == .cas && sf.toNat % 4 != 0) ||
          decide (32 < sf.toNat + if w64 then (if op == .cas then 4 else 2) else (if op == .cas then 2 else 1))) excOperand,
        excIf ((((s.issued (coreOf u) false).tile (coreOf u)).areg a.toNat).toNat % (if w64 then 8 else 4) != 0)
          (excAddress a.toNat)] = none := by
      rw [hx, Tile.issued_areg, hal, atom_operands heven hfadd hcas sf.isLt, tileOnly_of_ne hc]
      rfl
    refine (State.checked_pass (by simpa using hu) hpass).trans ?_
    rw [hx, Tile.issued_cid, Tile.issued_areg, hreach]
    refine (if_neg (not_not.2 hdie)).trans ?_
    have hword := atomWord_issued (s.tile (coreOf u)) (coreOf u) false w64
    simp only [atomWord] at hword hw
    simp only [hword, hw]
  · rw [State.tile_updTile_self, Tile.takeOld_stepping, htile]
    exact s.stepping_issued _ false hi
  · exact (State.regs_of_sansBytes hp).trans (s.issued_only _ _).regs
  · intro hk
    rw [State.tile_updTile_self, Tile.closeLoops_sreg, State.tile_updTile_self, Tile.sreg_takeOld _ _ hk]
  · rintro rfl
    rw [State.tile_updTile_self, Tile.closeLoops_sreg, State.tile_updTile_self, Tile.sreg_takeOld_high]

/-- Settles O10. -/
theorem atomicOperations : Obligations.AtomicOperations := by
  intro s u a sf w64 pa hc hi hu c r x n k reg hal hreach hdie heven old v lands i
  have plain {i : Instr} (op : AtomOp) (hexec : exec i s = s.atom u op w64 a 0 sf 0) (hf : op ≠ .fadd) (hcas : op ≠ .cas) {w : Nat}
      (hw : atomNew op (8 * n) old v (reg (k + if w64 then 2 else 1)) = w) : lands i w :=
    atom_gives op hexec hc hi hu hal hreach hdie heven (fun h => absurd h hf) (fun h => absurd h hcas) hw
  refine ⟨plain .add rfl nofun nofun ?_, plain .and_ rfl nofun nofun rfl, plain .or_ rfl nofun nofun rfl,
    plain .xor_ rfl nofun nofun rfl, plain .umin rfl nofun nofun rfl, plain .umax rfl nofun nofun rfl,
    plain .smin rfl nofun nofun rfl, plain .smax rfl nofun nofun rfl, plain .swap rfl nofun nofun rfl,
    plain .load rfl nofun nofun rfl, fun h32 => ?_, fun hroom h4 => ?_⟩
  · rw [show (256 : Nat) = 2 ^ 8 from rfl, ← Nat.pow_mul]
    rfl
  · subst h32
    exact atom_gives .fadd rfl hc hi hu hal hreach hdie heven (fun _ => rfl) nofun rfl
  · refine atom_gives .cas rfl hc hi hu hal hreach hdie heven nofun (fun _ => ⟨hroom, h4⟩) ?_
    have hn : (if w64 then 2 else 1) = n / 4 := by cases w64 <;> simp [n]
    rw [hn]
    rfl

end Sys2Proof.Machine

namespace Sys2Proof.Machine

/-! ## The mailbox store of the own die (R342-R344, R523, R524) -/

theorem State.issued_get (s : State) (c : Nat) (ext : Bool) (f : Fld) : (s.issued c ext).get f = s.get f := by
  unfold State.issued
  split <;> rfl

theorem State.issued_mbox (s : State) (c : Nat) (ext : Bool) (m : Nat) : (s.issued c ext).mbox m = s.mbox m := by
  unfold State.issued
  split <;> rfl

theorem State.issued_recvs (s : State) (c : Nat) (ext : Bool) : (s.issued c ext).mail.recvs = s.mail.recvs := by
  unfold State.issued
  split <;> rfl

theorem State.issued_ownDie (s : State) (c : Nat) (ext : Bool) : (s.issued c ext).ownDie = s.ownDie := by
  unfold State.issued
  split <;> rfl

theorem State.issued_mboxBind (s : State) (c : Nat) (ext : Bool) (m : Nat) : (s.issued c ext).mboxBind m = s.mboxBind m := by
  unfold State.issued
  split <;> rfl

theorem Recorded.mboxBind {s t : State} (h : Recorded s t) {m : Nat} (hm : m < 4096) : t.mboxBind m = s.mboxBind m := by
  obtain ⟨-, hget⟩ := h
  unfold State.mboxBind State.on
  split
  · rw [hget _ (by decide), hget _ (by decide), hget _ (by decide), hget _ (by decide), hget _ (by decide)]
  · have low {hi lo r : Nat} (hlo : lo < 64) : t.get ⟨Reg.KPR_MBOX_BIND m, hi, lo, r⟩ = s.get ⟨Reg.KPR_MBOX_BIND m, hi, lo, r⟩ :=
      hget _ (by simp only [Fld.key, Reg.KPR_MBOX_BIND, Reg.WAT_STATUS]; omega)
    rw [low (by decide), low (by decide), low (by decide), low (by decide), low (by decide)]

theorem Recorded.mbox {s t : State} (h : Recorded s t) (m : Nat) : t.mbox m = s.mbox m := by
  obtain ⟨⟨_, _, _, rfl⟩, -⟩ := h
  rfl

theorem Recorded.recvs {s t : State} (h : Recorded s t) : t.mail.recvs = s.mail.recvs := by
  obtain ⟨⟨_, _, _, rfl⟩, -⟩ := h
  rfl

theorem Recorded.ownDie {s t : State} (h : Recorded s t) : t.ownDie = s.ownDie := by
  have hdie := h.2 Reg.LNK_DIE_DIE (by decide)
  have hyard : t.yard = s.yard := by
    obtain ⟨⟨_, _, _, rfl⟩, -⟩ := h
    rfl
  unfold State.ownDie
  rw [hyard, hdie]

@[simp] theorem State.mbox_setMbox (s : State) (m : Nat) (l : List Msg) : (s.setMbox m l).mbox m = l := by
  simp [State.setMbox, State.mbox, State.put]

@[simp] theorem State.setMbox_recvs (s : State) (m : Nat) (l : List Msg) : (s.setMbox m l).mail.recvs = s.mail.recvs := rfl

@[simp] theorem State.setMbox_tile (s : State) (m : Nat) (l : List Msg) (k : Nat) : (s.setMbox m l).tile k = s.tile k := rfl

/-- Ranges of written lines are read without a count or a trap (R291). -/
theorem State.readRanges_clean {s : State} {c : Nat} {rs : List (Nat × Nat)} (h : (s.tile c).unwrittenIn rs = []) :
    s.readRanges c rs = .ok s := by
  unfold State.readRanges
  simp only [h]

/-- Without a receive that waits for the box, none is served (R524). -/
theorem State.serveRecv_none {s : State} {m : Nat} (h : ∀ r ∈ s.mail.recvs, r.2 ≠ m) (n : Nat) : s.serveRecv m n = s := by
  have hfind : (s.mail.recvs.find? fun r => r.2 == m) = none := by
    rw [List.find?_eq_none]
    intro r hr
    simpa using h r hr
  cases n with
  | zero => rfl
  | succ n =>
    unfold State.serveRecv
    rw [hfind]

/-- A bound box takes a message of `n` lines from the own die. -/
structure State.Takes (s : State) (m n : Nat) : Prop where
  valid : (s.mboxBind m).valid = true
  open_ : (s.mboxBind m).mode = 0
  lower : m ≠ 4095
  unserved : ∀ r ∈ s.mail.recvs, r.2 ≠ m
  room : msgLines (s.mbox m) + n ≤ (s.mboxBind m).depth
  lines : s.get Reg.KPR_MBOX_USE_LINES + n ≤ 2048

theorem State.mboxSend_accepted {s : State} {m : Nat} {l : List Nat} (src : Nat) (h : s.Takes m l.length) :
    s.mboxSend m src l = (s.setMbox m (s.mbox m ++ [⟨src, l⟩]), mAccepted) := by
  have hadmit : ¬((!(s.mboxBind m).valid) = true ∨
      (!(if (s.mboxBind m).mode = 0 then true else if (s.mboxBind m).mode = 1 then src == (s.mboxBind m).die else src == s.ownDie)) = true ∨
      m = 4095) := by simp [h.valid, h.open_, h.lower]
  have hroom : ¬((s.mboxBind m).depth < msgLines (s.mbox m) + l.length ∨ 2048 < s.get Reg.KPR_MBOX_USE_LINES + l.length) := by
    have := h.room
    have := h.lines
    omega
  refine (if_neg hadmit).trans ((if_neg hroom).trans ?_)
  rw [State.serveRecv_none (by simpa using h.unserved)]

theorem State.Takes.recorded {s t : State} {m n : Nat} (h : s.Takes m n) (hr : Recorded s t) (hm : m < 4096) : t.Takes m n := by
  have hb := hr.mboxBind hm
  have hl := hr.2 Reg.KPR_MBOX_USE_LINES (by decide)
  exact ⟨hb ▸ h.valid, hb ▸ h.open_, h.lower, hr.recvs ▸ h.unserved, by rw [hb, hr.mbox]; exact h.room, hl ▸ h.lines⟩

theorem State.Takes.issued {s : State} {m n : Nat} (h : s.Takes m n) (c : Nat) (ext : Bool) : (s.issued c ext).Takes m n :=
  ⟨by rw [State.issued_mboxBind]; exact h.valid, by rw [State.issued_mboxBind]; exact h.open_, h.lower,
    by rw [State.issued_recvs]; exact h.unserved, by rw [State.issued_mboxBind, State.issued_mbox]; exact h.room,
    by rw [State.issued_get]; exact h.lines⟩

/-- A mailbox instruction that was answered completes with its status (R343, R344). -/
theorem State.endCall_eq {s : State} {c : Nat} (k r : Nat) (hst : (s.tile c).stepping = false) :
    s.endCall c k r = (s.updTile c fun x => { x.setS k (sentWord r) with call := none }).updTile c
      fun x => x.closeLoops ((x.pc + 4) % 2 ^ 32) 4 :=
  State.complete_eq false (by
    rw [State.tile_updTile_self]
    exact ((s.tile c).setS_stepping k _).trans hst)

/-- A send that the store accepted (R343, R523): the message is the box's last, and the status reads ACCEPTED. -/
theorem State.sendAnswer_accepted {s : State} {c k m : Nat} {l : List Nat} (src : Nat) (nb : Bool) (die : Nat)
    (hst : (s.tile c).stepping = false) (hk : k ≠ 0) :
    let t := ((s.setMbox m (s.mbox m ++ [⟨src, l⟩])).sendAnswer c k nb die m l mAccepted)
    t.mbox m = s.mbox m ++ [⟨src, l⟩] ∧ (t.tile c).sreg k = 0 ∧ (t.tile c).call = none := by
  intro t
  have ht : t = _ := (if_neg (by simp [mAccepted, mFull])).trans (State.endCall_eq k mAccepted hst)
  rw [ht]
  refine ⟨State.mbox_setMbox s m _, ?_, ?_⟩
  · rw [State.tile_updTile_self, Tile.closeLoops_sreg, State.tile_updTile_self]
    refine (Tile.sreg_setS _ _ _ _).trans ?_
    rw [if_neg hk, if_pos rfl]
    rfl
  · rw [State.tile_updTile_self, State.tile_updTile_self]
    exact congrArg Tile.call (Tile.closeLoops_bare _ _ _)

theorem Tile.foldl_wrLe_only {α : Type} (addr val : α → Nat) (n : Nat) (l : List α) : ∀ x : Tile,
    ∃ m w, l.foldl (fun (x : Tile) k => x.wrLe (addr k) n (val k)) x = { x with store := m, written := w } := by
  induction l with
  | nil => exact fun x => ⟨x.store, x.written, rfl⟩
  | cons k l ih =>
    intro x
    obtain ⟨m, w, h⟩ := x.wrLe_only (addr k) n (val k)
    obtain ⟨m', w', h'⟩ := ih (x.wrLe (addr k) n (val k))
    exact ⟨m', w', h'.trans (by rw [h])⟩

/-- A receive that the store answers (R344): lines at their place, and the status word, which names the source and the lines given. -/
theorem State.giveMsg_eq {s : State} {c : Nat} (k n addr : Nat) (g : Msg) (hst : (s.tile c).stepping = false) :
    ∃ m w, s.giveMsg c k n addr g = (s.setTile c (({ s.tile c with store := m, written := w, call := none } : Tile).setS k
      (BitVec.ofNat 32 ((if n < g.lines.length then 2 ^ 27 else 0) + (min n g.lines.length - 1) * 2 ^ 24 + g.src % 512)))).updTile c
      fun x => x.closeLoops ((x.pc + 4) % 2 ^ 32) 4 := by
  obtain ⟨m, w, h⟩ := Tile.foldl_wrLe_only (fun k => addr + 64 * k) (fun k => g.lines.getD k 0) 64
    (List.range (min n g.lines.length)) (s.tile c)
  have hb : b2n (decide (n < g.lines.length)) * 2 ^ 27 = if n < g.lines.length then 2 ^ 27 else 0 := by
    by_cases hlt : n < g.lines.length <;> simp [b2n, hlt]
  refine ⟨m, w, ?_⟩
  unfold State.giveMsg
  dsimp only
  rw [State.complete_eq]
  · refine congrArg (fun q : State => q.updTile c _) ?_
    rw [State.updTile, h, hb]
    unfold Tile.setS
    split <;> rfl
  · rw [State.tile_updTile_self, h]
    exact (Tile.setS_stepping _ _ _).trans hst

/-- The operands of a mailbox instruction of the own die are legal. -/
theorem firstExc_mail {c : Nat} {x : Tile} {a : BitVec 4} {sf : BitVec 5} {n die m : Nat} (hc : c ≠ isleCore) (hdie : die < 512)
    (hm : m < 4096) (hmb : (x.areg a.toNat).toNat = die * 2 ^ 32 + m) (hal : (x.sreg sf.toNat).toNat % 64 = 0)
    (htop : (x.sreg sf.toNat).toNat + 64 * n ≤ 2 ^ 20) : firstExc (mailExcs c x a 0 sf n 0) = none := by
  have hop : (x.areg a.toNat).toNat = (x.areg a.toNat).toNat / 2 ^ 32 % 512 * 2 ^ 32 + (x.areg a.toNat).toNat % 4096 := by
    rw [hmb]
    omega
  have hrange : ¬storeTop < (x.sreg sf.toNat).toNat + 64 * n - 1 := by
    simp only [storeTop]
    omega
  unfold mailExcs
  dsimp only
  rw [← hop, hal, tileOnly_of_ne hc, decide_eq_false hrange]
  simp

section
variable {s : State} {u : BitVec 7} {a : BitVec 4} {sf : BitVec 5} {lines : BitVec 2} {nb : Bool} {hits : List TileHit} {m : Nat}
  (hc : coreOf u ≠ isleCore) (hdie : s.ownDie < 512) (hm : m < 4096) (hi : s.canIssue (coreOf u) false = true)
  (hu : (s.tile (coreOf u)).units = []) (hal : ((s.tile (coreOf u)).sreg sf.toNat).toNat % 64 = 0)
  (htop : ((s.tile (coreOf u)).sreg sf.toNat).toNat + 64 * (lines.toNat + 1) ≤ 2 ^ 20) (hsf : sf ≠ 0)
  (hmb : ((s.tile (coreOf u)).areg a.toNat).toNat = s.ownDie * 2 ^ 32 + m)
include hc hdie hm hi hu hal htop hsf hmb

/-- RSEND to a box of the own die that takes the message (R343, R523). -/
theorem rsend_gives
    (hclean : (s.tile (coreOf u)).unwrittenIn [(((s.tile (coreOf u)).sreg sf.toNat).toNat, 64 * (lines.toNat + 1))] = [])
    (htakes : s.Takes m (lines.toNat + 1))
    (hmild : eccMild [(((s.tile (coreOf u)).sreg sf.toNat).toNat, 64 * (lines.toNat + 1))] hits = true) :
    Gives (.rsend u a 0 sf lines nb 0 hits) s fun t => t.mbox m = s.mbox m ++ [⟨s.ownDie, (List.range (lines.toNat + 1)).map fun k =>
      (s.tile (coreOf u)).rdLe (((s.tile (coreOf u)).sreg sf.toNat).toNat + 64 * k) 64⟩] ∧ (t.tile (coreOf u)).sreg sf.toNat = 0 := by
  have hlt : coreOf u < 64 := coreOf_lt hc
  have hx := s.tile_issued (coreOf u) false
  have hk : sf.toNat ≠ 0 := fun h => hsf (BitVec.eq_of_toNat_eq h)
  generalize hl : ((List.range (lines.toNat + 1)).map fun k =>
      (s.tile (coreOf u)).rdLe (((s.tile (coreOf u)).sreg sf.toNat).toNat + 64 * k) 64) = l
  have hlen : l.length = lines.toNat + 1 := by simp [← hl]
  obtain ⟨t1, hecc, hrec, -⟩ := State.exists_withEcc (s := s.issued (coreOf u) false) hlt hmild
  have hst1 : (t1.tile (coreOf u)).stepping = false := by
    rw [hrec.tile]
    exact s.stepping_issued _ false hi
  have hbox : t1.mbox m = s.mbox m := (hrec.mbox m).trans (s.issued_mbox _ false m)
  have hown : t1.ownDie = s.ownDie := hrec.ownDie.trans (s.issued_ownDie _ false)
  have hsend := State.mboxSend_accepted (l := l) s.ownDie (hlen ▸ (htakes.issued (coreOf u) false).recorded hrec hm)
  obtain ⟨hmsg, hstatus, -⟩ := State.sendAnswer_accepted (s := t1) (m := m) (l := l) s.ownDie nb s.ownDie hst1 hk
  refine gives_of_hold (c := coreOf u) rfl hi ?_ ⟨hmsg.trans (by rw [hbox]), hstatus⟩
  have hdiv : (s.ownDie * 2 ^ 32 + m) / 2 ^ 32 % 512 = s.ownDie := by omega
  have hmod : (s.ownDie * 2 ^ 32 + m) % 4096 = m := by omega
  have hrd (k : Nat) := Tile.rdLe_issued (s.tile (coreOf u)) (coreOf u) false (((s.tile (coreOf u)).sreg sf.toNat).toNat + 64 * k) 64
  have hpass : firstExc (mailExcs (coreOf u) ((s.tile (coreOf u)).issued (coreOf u) false) a 0 sf (lines.toNat + 1) 0) = none :=
    firstExc_mail hc hdie hm (by rwa [Tile.issued_areg]) (by rwa [Tile.issued_sreg]) (by rwa [Tile.issued_sreg])
  dsimp only
  rw [hx, Tile.issued_areg, Tile.issued_sreg, hmb, hdiv, hmod, State.checked_pass (by simpa using hu) hpass,
    State.readRanges_clean (by rw [hx, Tile.unwrittenIn_issued]; exact hclean)]
  refine (hecc _).trans ?_
  simp only [hrd, hl]
  rw [hown, if_pos rfl, hsend]

/-- RRECV of a box with a message (R344, R524). -/
theorem rrecv_gives {g : Msg} {rest : List Msg} (hv : (s.mboxBind m).valid = true) (hcid : (s.mboxBind m).cid = (s.tile (coreOf u)).cid)
    (hbox : s.mbox m = g :: rest) :
    Gives (.rrecv u a 0 sf lines nb 0) s fun t => t.mbox m = rest ∧ (t.tile (coreOf u)).sreg sf.toNat =
      BitVec.ofNat 32 ((if lines.toNat + 1 < g.lines.length then 2 ^ 27 else 0) +
        (min (lines.toNat + 1) g.lines.length - 1) * 2 ^ 24 + g.src % 512) := by
  have hx := s.tile_issued (coreOf u) false
  have hk : sf.toNat ≠ 0 := fun h => hsf (BitVec.eq_of_toNat_eq h)
  have hst : (((s.issued (coreOf u) false).setMbox m rest).tile (coreOf u)).stepping = false := s.stepping_issued _ false hi
  obtain ⟨st, wr, hgive⟩ := State.giveMsg_eq (s := (s.issued (coreOf u) false).setMbox m rest) sf.toNat (lines.toNat + 1)
    ((s.tile (coreOf u)).sreg sf.toNat).toNat g hst
  refine gives_of_hold (c := coreOf u) (t := ((s.issued (coreOf u) false).setMbox m rest).giveMsg (coreOf u) sf.toNat
    (lines.toNat + 1) ((s.tile (coreOf u)).sreg sf.toNat).toNat g) rfl hi ?_ ⟨?_, ?_⟩
  · have hdiv : (s.ownDie * 2 ^ 32 + m) / 2 ^ 32 % 512 = s.ownDie := by omega
    have hmod : (s.ownDie * 2 ^ 32 + m) % 4096 = m := by omega
    have hpass : firstExc (mailExcs (coreOf u) ((s.tile (coreOf u)).issued (coreOf u) false) a 0 sf (lines.toNat + 1) 0) = none :=
      firstExc_mail hc hdie hm (by rwa [Tile.issued_areg]) (by rwa [Tile.issued_sreg]) (by rwa [Tile.issued_sreg])
    dsimp only
    rw [hx, Tile.issued_areg, Tile.issued_sreg, hmb, hdiv, hmod, State.checked_pass (by simpa using hu) hpass,
      State.issued_mboxBind, State.issued_ownDie, State.issued_mbox, Tile.issued_cid, hbox]
    exact if_neg (by simp [hv, hcid])
  · rw [hgive]
    exact State.mbox_setMbox _ _ _
  · rw [hgive, State.tile_updTile_self, Tile.closeLoops_sreg, State.tile_setTile, if_pos rfl, Tile.sreg_setS, if_neg hk, if_pos rfl]

/-- RRECV of an empty box, without blocking (R344). -/
theorem rrecv_empty_gives (hv : (s.mboxBind m).valid = true) (hcid : (s.mboxBind m).cid = (s.tile (coreOf u)).cid)
    (hbox : s.mbox m = []) :
    Gives (.rrecv u a 0 sf lines true 0) s fun t => OnlyCore s t (coreOf u) ∧ (t.tile (coreOf u)).sreg sf.toNat = 0x10000000 := by
  have hx := s.tile_issued (coreOf u) false
  have hk : sf.toNat ≠ 0 := fun h => hsf (BitVec.eq_of_toNat_eq h)
  refine (gives_setS (k := sf.toNat) (g := fun _ => sentWord 1) rfl hi ?_ rfl).mono fun t ⟨hcore, _, hs⟩ =>
    ⟨hcore, hs.trans (if_neg hk)⟩
  have hdiv : (s.ownDie * 2 ^ 32 + m) / 2 ^ 32 % 512 = s.ownDie := by omega
  have hmod : (s.ownDie * 2 ^ 32 + m) % 4096 = m := by omega
  have hpass : firstExc (mailExcs (coreOf u) ((s.tile (coreOf u)).issued (coreOf u) false) a 0 sf (lines.toNat + 1) 0) = none :=
    firstExc_mail hc hdie hm (by rwa [Tile.issued_areg]) (by rwa [Tile.issued_sreg]) (by rwa [Tile.issued_sreg])
  dsimp only
  rw [hx, Tile.issued_areg, Tile.issued_sreg, hmb, hdiv, hmod, State.checked_pass (by simpa using hu) hpass,
    State.issued_mboxBind, State.issued_ownDie, State.issued_mbox, Tile.issued_cid, hbox]
  exact if_neg (by simp [hv, hcid])

end

section
variable {s : State} {t : BitVec 6} {c m sreg due : Nat} {l : List Nat} {nb : Bool} (hc : t.toNat = c)
  (hcall : (s.tile c).call = some (.send s.ownDie m sreg l nb (some due)))
include hc hcall

/-- A send answered FULL waits for its 50 t (R523). -/
theorem rsendRetry_early (h : s.time c < due) : exec (.rsendRetry t) s = .next s := by
  change execRsendRetry t s = _
  unfold execRsendRetry
  dsimp only
  rw [hc, hcall]
  exact congrArg _ (if_pos h)

/-- A send answered FULL goes to the store again (R523). -/
theorem rsendRetry_due (h : due ≤ s.time c) (htakes : s.Takes m l.length) :
    exec (.rsendRetry t) s =
      .next ((s.setMbox m (s.mbox m ++ [⟨s.ownDie, l⟩])).sendAnswer c sreg nb s.ownDie m l mAccepted) := by
  change execRsendRetry t s = _
  unfold execRsendRetry
  dsimp only
  rw [hc, hcall]
  refine congrArg _ ((if_neg (Nat.not_lt.2 h)).trans ?_)
  rw [if_pos rfl, State.mboxSend_accepted _ htakes]

end

/-- Settles O11. -/
theorem mailboxInstructions : Obligations.MailboxInstructions := by
  intro s u a sf lines nb hits hc hdie c x n m addr b line msg status takes
  have hm : m < 4096 := Nat.mod_lt _ (by decide)
  have ready {k : Nat} (h : b.valid = true ∧ b.mode = 0 ∧ m ≠ 4095 ∧ (∀ r ∈ s.mail.recvs, r.2 ≠ m) ∧
      msgLines (s.mbox m) + k ≤ b.depth ∧ s.get Reg.KPR_MBOX_USE_LINES + k ≤ 2048) : s.Takes m k := by
    obtain ⟨hv, hmode, hlow, hun, hroom, hl⟩ := h
    exact ⟨hv, hmode, hlow, hun, hroom, hl⟩
  have hcore : u.toNat < 64 → coreOf u = u.toNat := fun h => Nat.min_eq_left (Nat.le_of_lt h)
  refine ⟨fun hi hu hal htop hsf hmb => ⟨fun hclean htakes hmild => ?_, fun hv hcid hempty => ?_,
    fun g rest hv hcid hbox hg => ?_⟩, fun sreg l due hlt6 hcall => ⟨fun hearly => ?_, fun hdue hsreg hst htakes hlen => ?_⟩⟩
  · exact rsend_gives hc hdie hm hi hu hal htop hsf hmb hclean (ready htakes) hmild
  · exact rrecv_empty_gives hc hdie hm hi hu hal htop hsf hmb hv hcid hempty
  · exact rrecv_gives hc hdie hm hi hu hal htop hsf hmb hv hcid hbox
  · have hcu : (u.setWidth 6).toNat = c := by
      rw [BitVec.toNat_setWidth, Nat.mod_eq_of_lt hlt6]
      exact (hcore hlt6).symm
    exact ⟨s, rsendRetry_early hcu hcall hearly, rfl⟩
  · have hcu : (u.setWidth 6).toNat = c := by
      rw [BitVec.toNat_setWidth, Nat.mod_eq_of_lt hlt6]
      exact (hcore hlt6).symm
    obtain ⟨hmsg, hstatus, hnone⟩ := State.sendAnswer_accepted (s := s) (c := c) (m := m) (l := l) s.ownDie nb s.ownDie hst hsreg
    exact ⟨_, rsendRetry_due hcu hcall hdue (hlen ▸ ready htakes), hmsg, hstatus, hnone⟩

end Sys2Proof.Machine

namespace Sys2Proof.Machine

/-! ## The vector unit (R280, R282, R368) -/

/-- The instruction's operation enters its unit's queue. -/
def Tile.queued (x : Tile) (op : UnitOp) : Tile := { x with issueNo := x.issueNo + 1, units := x.units ++ [op] }

theorem State.unitOp_pass {s t : State} {c unit : Nat} {reads writes : List (Nat × Nat)} {srcs dsts : List Nat}
    {es : List (Option Exc)} {fx : State → State × Option Exc} (hu : (s.tile c).units = [])
    (hes : firstExc es = none) (hfx : fx s = (t, none)) :
    s.unitOp c unit reads writes srcs dsts es fx = .done (t.updTile c fun x => x.queued ⟨unit, reads, writes, dsts, none⟩) := by
  have hblocked : (s.tile c).blocked (reads ++ writes) (srcs ++ dsts) = false := by simp [Tile.blocked, hu]
  unfold State.unitOp
  rw [hblocked, hes, hfx]
  rfl

theorem State.vec_pass {s t : State} {u : BitVec 7} {reads writes : List (Nat × Nat)} {srcs dsts : List Nat}
    {es : List (Option Exc)} {fx : State → State × Option Exc} (hc : coreOf u ≠ isleCore) (hu : (s.tile (coreOf u)).units = [])
    (hes : firstExc es = none) (hfx : fx s = (t, none)) :
    s.vec u reads writes srcs dsts es fx =
      .done (t.updTile (coreOf u) fun x => x.queued ⟨unitV, reads, writes, dsts, none⟩) :=
  State.unitOp_pass hu (by rw [tileOnly_of_ne hc, firstExc_none_cons, hes]) hfx

section
variable {i : Instr} {s : State} {u : BitVec 7} {fx : State → Fx} {g : Tile → Tile} {op : UnitOp}

/-- A unit instruction that completes changes its core's record, and its operation enters the unit's queue. -/
theorem gives_queued (hexec : exec i s = .next (s.issue (coreOf u) false fx)) (hi : s.canIssue (coreOf u) false = true)
    (hfx : fx (s.issued (coreOf u) false) =
      .done (((s.issued (coreOf u) false).updTile (coreOf u) g).updTile (coreOf u) fun x => x.queued op))
    (hst : ∀ x : Tile, (g x).stepping = x.stepping) :
    Gives i s fun t => OnlyCore s t (coreOf u) ∧
      (t.tile (coreOf u)).bare = ((g ((s.tile (coreOf u)).issued (coreOf u) false)).queued op).bare := by
  have htile : (((s.issued (coreOf u) false).updTile (coreOf u) g).updTile (coreOf u) fun x => x.queued op).tile (coreOf u) =
      (g ((s.tile (coreOf u)).issued (coreOf u) false)).queued op := by
    rw [State.tile_updTile_self, State.tile_updTile_self, State.tile_issued]
  refine (gives_of_done hexec hi hfx ((OnlyCore.upd _ _ _).trans (OnlyCore.upd _ _ _)) ?_).mono fun t ⟨hcore, ht⟩ => ⟨hcore, ?_⟩
  · rw [htile, ← s.tile_issued]
    exact (hst _).trans (s.stepping_issued _ false hi)
  · rw [ht, Tile.closeLoops_bare, htile]

end

theorem Tile.foldl_setLane (vd : Nat) (f : Nat → Word) (l : List Nat) (hl : ∀ i ∈ l, i < 64) : ∀ x : Tile,
    (∃ v, l.foldl (fun x i => x.setLane vd i (f i)) x = { x with v := v }) ∧
    ∀ k i, i < 64 → (l.foldl (fun x i => x.setLane vd i (f i)) x).vlane k i = if k = vd ∧ i ∈ l then f i else x.vlane k i := by
  induction l with
  | nil => exact fun x => ⟨⟨x.v, rfl⟩, by simp⟩
  | cons j l ih =>
    intro x
    obtain ⟨⟨v, hv⟩, hlane⟩ := ih (fun i hi => hl i (List.mem_cons_of_mem _ hi)) (x.setLane vd j (f j))
    refine ⟨⟨v, hv.trans rfl⟩, fun k i hi => (hlane k i hi).trans ?_⟩
    have hj : j < 64 := hl j List.mem_cons_self
    have hset : (x.setLane vd j (f j)).vlane k i = if k = vd ∧ i = j then f j else x.vlane k i := by
      have hkey : 64 * k + i = 64 * vd + j ↔ k = vd ∧ i = j := by omega
      simp only [Tile.vlane, Tile.setLane, Tab.get_set, hkey]
    rw [hset]
    by_cases hk : k = vd
    · by_cases hij : i = j
      · subst hij
        by_cases hm : i ∈ l <;> simp [hk, hm]
      · simp [hk, hij]
    · simp [hk]

theorem Tile.mem_lanes (x : Tile) (pd i : Nat) : i ∈ x.lanes pd ↔ i < 64 ∧ (x.preg pd).getLsbD i = true := by
  simp [Tile.lanes]

theorem Tile.setLanes_only (x : Tile) (vd pd : Nat) (f : Nat → Word) : ∃ v, x.setLanes vd pd f = { x with v := v } :=
  (Tile.foldl_setLane vd f (x.lanes pd) (fun i hi => ((x.mem_lanes pd i).1 hi).1) x).1

theorem Tile.setLanes_stepping (x : Tile) (vd pd : Nat) (f : Nat → Word) : (x.setLanes vd pd f).stepping = x.stepping := by
  obtain ⟨v, hv⟩ := x.setLanes_only vd pd f
  rw [hv]

theorem Tile.vlane_setLanes (x : Tile) (vd pd : Nat) (f : Nat → Word) (k : Nat) {i : Nat} (hi : i < 64) :
    (x.setLanes vd pd f).vlane k i = if k = vd ∧ (x.preg pd).getLsbD i = true then f i else x.vlane k i := by
  refine ((Tile.foldl_setLane vd f (x.lanes pd) (fun i hi => ((x.mem_lanes pd i).1 hi).1) x).2 k i hi).trans ?_
  simp [Tile.mem_lanes, hi]

@[simp] theorem Tile.issued_vlane (x : Tile) (c : Nat) (ext : Bool) (k i : Nat) : (x.issued c ext).vlane k i = x.vlane k i := by
  rw [issued_only_fetch]
  rfl

@[simp] theorem Tile.issued_preg (x : Tile) (c : Nat) (ext : Bool) (k : Nat) : (x.issued c ext).preg k = x.preg k := by
  rw [issued_only_fetch]
  rfl

@[simp] theorem Tile.issued_accEl (x : Tile) (c : Nat) (ext : Bool) (k i j : Nat) :
    (x.issued c ext).accEl k i j = x.accEl k i j := by
  rw [issued_only_fetch]
  rfl

theorem Tile.vlane_of_bare {x y : Tile} (h : x.bare = y.bare) (k i : Nat) : x.vlane k i = y.vlane k i := by
  change x.bare.vlane k i = y.bare.vlane k i
  rw [h]

theorem Tile.preg_of_bare {x y : Tile} (h : x.bare = y.bare) (k : Nat) : x.preg k = y.preg k := by
  change x.bare.preg k = y.bare.preg k
  rw [h]

theorem Tile.accEl_of_bare {x y : Tile} (h : x.bare = y.bare) (k i j : Nat) : x.accEl k i j = y.accEl k i j := by
  change x.bare.accEl k i j = y.bare.accEl k i j
  rw [h]

/-- A tile that differs in its lanes and has one more operation queued. -/
theorem OnlyLanes.of_bare {x x' y z : Tile} {vd : Nat} {op : UnitOp} (hx : x'.bare = x.bare) (hy : y.bare = (z.queued op).bare)
    (hz : ∃ v, z = { x' with v := v }) (hlane : ∀ k i, k ≠ vd → i < 64 → z.vlane k i = x'.vlane k i) :
    OnlyLanes x y vd op := by
  obtain ⟨v, rfl⟩ := hz
  have hv : x'.v = x.v := by
    change x'.bare.v = x.bare.v
    rw [hx]
  have hu : x'.units = x.units := by
    change x'.bare.units = x.bare.units
    rw [hx]
  have hn : x'.issueNo = x.issueNo := by
    change x'.bare.issueNo = x.bare.issueNo
    rw [hx]
  refine ⟨?_, ?_, fun k i hk hi => ?_⟩
  · rw [hy, ← hx, ← hv, ← hu, ← hn]
    rfl
  · change y.bare.units = _
    rw [hy, ← hu]
    rfl
  · rw [Tile.vlane_of_bare hy]
    exact (hlane k i hk hi).trans (Tile.vlane_of_bare hx k i)

section
variable {i : Instr} {s : State} {u : BitVec 7} (hc : coreOf u ≠ isleCore) (hi : s.canIssue (coreOf u) false = true)
  (hu : (s.tile (coreOf u)).units = [])
include hc hi hu

/-- A vector instruction that writes selected lanes of `vd`, in any way. -/
theorem gives_lanes_of {vd pd : Nat} {reads : List (Nat × Nat)} {srcs : List Nat} {es : State → List (Option Exc)}
    {fv : State → State → State × Option Exc} {g : Tile → Tile} {F : Nat → Word}
    (hexec : exec i s = .next (s.issue (coreOf u) false fun s => s.vec u reads [] srcs [rV vd] (es s) (fv s)))
    (hes : firstExc (es (s.issued (coreOf u) false)) = none)
    (hfv : fv (s.issued (coreOf u) false) (s.issued (coreOf u) false) = ((s.issued (coreOf u) false).updTile (coreOf u) g, none))
    (hst : ∀ x, (g x).stepping = x.stepping)
    (hv : ∃ v, g ((s.tile (coreOf u)).issued (coreOf u) false) = { (s.tile (coreOf u)).issued (coreOf u) false with v := v })
    (hl : ∀ k j, j < 64 → (g ((s.tile (coreOf u)).issued (coreOf u) false)).vlane k j =
      if k = vd ∧ ((s.tile (coreOf u)).preg pd).getLsbD j = true then F j else (s.tile (coreOf u)).vlane k j) :
    Gives i s fun t => OnlyCore s t (coreOf u) ∧
      OnlyLanes (s.tile (coreOf u)) (t.tile (coreOf u)) vd ⟨unitV, reads, [], [rV vd], none⟩ ∧
      ∀ k, k < 64 → (t.tile (coreOf u)).vlane vd k =
        if ((s.tile (coreOf u)).preg pd).getLsbD k then F k else (s.tile (coreOf u)).vlane vd k := by
  refine (gives_queued hexec hi (State.vec_pass hc (by simpa using hu) hes hfv) hst).mono fun t ⟨hcore, ht⟩ => ?_
  refine ⟨hcore, OnlyLanes.of_bare (Tile.issued_bare _ _ _) ht hv fun k j hk hj => ?_, fun k hk => ?_⟩
  · rw [hl k j hj, if_neg (fun h => hk h.1), Tile.issued_vlane]
  · rw [Tile.vlane_of_bare ht]
    refine (hl vd k hk).trans ?_
    simp

/-- A vector instruction that writes selected lanes of `vd` as `setLanes` does. -/
theorem gives_lanes {vd pd : Nat} {srcs : List Nat} {es : State → List (Option Exc)} {fv : State → State → State × Option Exc}
    {g : Tile → Tile} {F : Nat → Word}
    (hexec : exec i s = .next (s.issue (coreOf u) false fun s => s.vec u [] [] srcs [rV vd] (es s) (fv s)))
    (hes : firstExc (es (s.issued (coreOf u) false)) = none)
    (hfv : fv (s.issued (coreOf u) false) (s.issued (coreOf u) false) = ((s.issued (coreOf u) false).updTile (coreOf u) g, none))
    (hst : ∀ x, (g x).stepping = x.stepping)
    (hg : g ((s.tile (coreOf u)).issued (coreOf u) false) = ((s.tile (coreOf u)).issued (coreOf u) false).setLanes vd pd F) :
    Gives i s fun t => OnlyCore s t (coreOf u) ∧
      OnlyLanes (s.tile (coreOf u)) (t.tile (coreOf u)) vd ⟨unitV, [], [], [rV vd], none⟩ ∧
      ∀ k, k < 64 → (t.tile (coreOf u)).vlane vd k =
        if ((s.tile (coreOf u)).preg pd).getLsbD k then F k else (s.tile (coreOf u)).vlane vd k := by
  refine gives_lanes_of hc hi hu hexec hes hfv hst (hg ▸ Tile.setLanes_only _ _ _ _) fun k j hj => ?_
  rw [hg, Tile.vlane_setLanes _ _ _ _ _ hj]
  simp

end

theorem roundShift_eq (a : Word) (n : Nat) :
    roundShift a n = BitVec.ofInt 32 ((a.toInt + (if n = 0 then 0 else 2 ^ (n - 1))) / 2 ^ n) := by
  unfold roundShift
  split
  · next h => simp [h]
  · next h => simp [h]

/-- Settles O18. -/
theorem integerLaneOperations : Obligations.IntegerLaneOperations := by
  intro s u vd vs1 vs2 pd sc hc hi hu c x lands
  have lane {i : Instr} (es : List (Option Exc)) (g : Word → Word → Word → Word) {f : Word → Word → Word → Word}
      (hexec : exec i s = s.vecInt u vd vs1 vs2 pd sc es g) (hes : firstExc es = none) (hg : ∀ d a b, g d a b = f d a b) :
      lands i f := by
    refine (gives_lanes (pd := pd.toNat) (F := fun i => g (x.vlane vd.toNat i) (x.vlane vs1.toNat i) (x.second vs2.toNat sc i)) hc hi hu
      hexec hes rfl (fun x => x.setLanes_stepping _ _ _) ?_).mono fun t ⟨hcore, honly, hl⟩ => ⟨hcore, honly, fun k hk => ?_⟩
    · simp [Tile.second, x, c]
    · rw [hl k hk, hg]
      rfl
  have unary (h2 : vs2 = 0) (hsc : sc = false) : firstExc (unaryExc vs2 sc) = none := by
    rw [h2, hsc]
    rfl
  have same {i : Instr} (es : List (Option Exc)) {f : Word → Word → Word → Word}
      (hexec : exec i s = s.vecInt u vd vs1 vs2 pd sc es f) (hes : firstExc es = none) : lands i f :=
    lane es f hexec hes fun _ _ _ => rfl
  clear_value lands
  refine ⟨?_, ?_, ?_, ?_, ?_, ?_, ?_, ?_, ?_, ?_, ?_, ?_, ?_, ?_, ?_, ?_, ?_, fun h2 hsc => ⟨?_, ?_, ?_, ?_⟩⟩
  case refine_3 => exact lane [] (fun _ a b => a * b) rfl rfl fun _ a b => by simp [BitVec.ofNat_mul]
  case refine_6 => exact lane [] (fun _ a b => if b.slt a then b else a) rfl rfl fun _ a b => ite_slt_swap b a b a
  case refine_7 => exact lane [] (fun _ a b => if a.slt b then b else a) rfl rfl fun _ a b => ite_slt_swap a b b a
  case refine_8 => exact lane [] (fun _ a b => if b.ult a then b else a) rfl rfl fun _ a b => ite_ult_swap b a b a
  case refine_9 => exact lane [] (fun _ a b => if a.ult b then b else a) rfl rfl fun _ a b => ite_ult_swap a b b a
  case refine_16 => exact lane [] (fun _ a b => roundShift a (shamt b)) rfl rfl fun _ a b => roundShift_eq a (b.toNat % 32)
  case refine_18 =>
    exact lane _ (fun _ a _ => if a.slt 0 then -a else a) rfl (unary h2 hsc) fun _ a _ => by simp [BitVec.slt_eq_decide]
  case refine_19 | refine_20 | refine_21 => exact same _ rfl (unary h2 hsc)
  all_goals exact same [] rfl rfl

/-! ## FP32 lane operations (R357, R358, R370) -/

/-- No condition traps while no trap is enabled (R358). -/
theorem trapOf_none {tmode : Word} (h : ∀ n, n < 4 → tmode.getLsbD n = false) (l : List Nat) : trapOf tmode l = none := by
  have hfind : ([cNan, cClip, cFlush, cOverflow].find? fun n => tmode.getLsbD n && l.contains n) = none := by
    rw [List.find?_eq_none]
    intro n hn
    have hlt : n < 4 := by
      simp only [cNan, cClip, cFlush, cOverflow, List.mem_cons, List.not_mem_nil, or_false] at hn
      omega
    simp [h n hlt]
  rw [trapOf, hfind]
  rfl

theorem fpLane_word (ftz nanIn : Bool) (w : Word) : (fpLane ftz nanIn w).1 = if ftz && isSubnormal w then w &&& 0x80000000 else w := by
  unfold fpLane
  split <;> rfl

/-- The record of a tile after the lanes' results are stored one by one. -/
def Tile.storeLanes (x : Tile) (vd : Nat) (r : List (Nat × Word × List Nat)) : Tile := r.foldl (fun x e => x.setLane vd e.1 e.2.1) x

theorem Tile.storeLanes_stepping (vd : Nat) (r : List (Nat × Word × List Nat)) :
    ∀ x : Tile, (x.storeLanes vd r).stepping = x.stepping := by
  induction r with
  | nil => exact fun _ => rfl
  | cons e r ih => exact fun x => (ih _).trans rfl

theorem Tile.storeLanes_map (x : Tile) (vd pd : Nat) (r : Nat → Word × List Nat) :
    x.storeLanes vd ((x.lanes pd).map fun i => (i, r i)) = x.setLanes vd pd fun i => (r i).1 := by
  simp only [Tile.storeLanes, Tile.setLanes, List.foldl_map]

/-- Settles O19. -/
theorem floatLaneOperations : Obligations.FloatLaneOperations := by
  intro s u vd vs1 vs2 pd sc hc hi hu c x ftz lands converts htrap
  have lane {i : Instr} (es : List (Option Exc)) (nan : Word → Word → Word → Bool) (g : Word → Word → Word → Word)
      (hexec : exec i s = s.vecFp u vd vs1 vs2 pd sc es nan g) (hes : firstExc es = none) :
      Gives i s fun t => OnlyCore s t c ∧ OnlyLanes x (t.tile c) vd.toNat ⟨unitV, [], [], [rV vd.toNat], none⟩ ∧
        ∀ k, k < 64 → (t.tile c).vlane vd.toNat k = if (x.preg pd.toNat).getLsbD k then
          ftz (g (x.vlane vd.toNat k) (x.vlane vs1.toNat k) (x.second vs2.toNat sc k)) else x.vlane vd.toNat k := by
    let y := (s.issued (coreOf u) false).tile (coreOf u)
    let res := fun i => fpLane (y.tmode.getLsbD 7) (nan (y.vlane vd.toNat i) (y.vlane vs1.toNat i) (y.second vs2.toNat sc i))
      (g (y.vlane vd.toNat i) (y.vlane vs1.toNat i) (y.second vs2.toNat sc i))
    have hy : y = x.issued c false := by simp [y, x, c]
    have htm : y.tmode = x.tmode := by rw [hy, Tile.issued_tmode]
    refine (gives_lanes (pd := pd.toNat) (F := fun i => (res i).1)
      (g := fun x => x.storeLanes vd.toNat ((y.lanes pd.toNat).map fun i => (i, res i))) hc hi hu hexec hes ?_
      (fun x => x.storeLanes_stepping _ _) ?_).mono fun t ⟨hcore, honly, hl⟩ => ⟨hcore, honly, fun k hk => ?_⟩
    · dsimp only
      rw [trapOf_none (htm ▸ htrap)]
      rfl
    · rw [hy]
      exact (x.issued c false).storeLanes_map _ _ _
    · rw [hl k hk]
      simp only [res, fpLane_word, htm, hy]
      simp [Tile.second, ftz]
      rfl
  clear_value ftz
  have unary (h2 : vs2 = 0) (hsc : sc = false) : firstExc (unaryExc vs2 sc) = none := by
    rw [h2, hsc]
    rfl
  have bin {i : Instr} (f : Machine.Num → Machine.Num → Machine.Num)
      (hexec : exec i s = s.vecFp u vd vs1 vs2 pd sc [] nan2 fun _ a b => toF32 (f (f32 a) (f32 b))) :=
    lane [] nan2 (fun _ a b => toF32 (f (f32 a) (f32 b))) hexec rfl
  refine ⟨bin (fun a b => a.add b) rfl, bin (fun a b => a.add b.neg) rfl, bin (fun a b => a.mul b) rfl,
    bin (fun a b => a.div b) rfl, lane [] nan3 (fun d a b => toF32 ((f32 d).add ((f32 a).mul (f32 b)))) rfl rfl,
    bin (fun a b => a.minOf b) rfl, bin (fun a b => a.maxOf b) rfl, fun h2 hsc => ?_⟩
  have un {i : Instr} (nan : Word → Word → Word → Bool) (f : Word → Word)
      (hexec : exec i s = s.vecFp u vd vs1 vs2 pd sc (unaryExc vs2 sc) nan fun _ a _ => f a) :=
    lane _ nan (fun _ a _ => f a) hexec (unary h2 hsc)
  exact ⟨un nan1 (fun w => toF32 ((Machine.Num.fin false 1 0).div (f32 w))) rfl, un nan1 (fun w => toF32 (f32 w).rsqrt) rfl,
    un nan1 (fun w => toF32 (f32 w).sqrt) rfl, un nan1 (fun w => toF32 (f32 w).exp2) rfl, un nan1 (fun w => toF32 (f32 w).log2) rfl,
    un nan0 (fun w => toF32 (Machine.Num.ofInt w.toInt)) rfl, un nan0 (fun w => toF32 (Machine.Num.ofInt w.toNat)) rfl⟩

end Sys2Proof.Machine

namespace Sys2Proof.Machine

/-! ## Predicate registers (R283, R371) -/

/-- A number built of bits holds those bits. -/
theorem bits_sum (f : Nat → Bool) : ∀ n, (List.range n).foldl (fun m i => m + b2n (f i) * 2 ^ i) 0 < 2 ^ n ∧
    ∀ k, k < n → ((List.range n).foldl (fun m i => m + b2n (f i) * 2 ^ i) 0).testBit k = f k
  | 0 => by simp
  | n + 1 => by
    obtain ⟨hlt, hbit⟩ := bits_sum f n
    have hb : b2n (f n) ≤ 1 ∧ (b2n (f n)).testBit 0 = f n := by cases f n <;> decide
    rw [List.range_succ, List.foldl_append, List.foldl_cons, List.foldl_nil, Nat.add_comm, Nat.mul_comm]
    refine ⟨?_, fun k hk => ?_⟩
    · have := Nat.mul_le_mul_left (2 ^ n) hb.1
      rw [Nat.pow_succ]
      omega
    · rw [Nat.testBit_two_pow_mul_add _ hlt]
      split
      · next h => exact hbit k h
      · next h =>
        rw [show k = n by omega, Nat.sub_self]
        exact hb.2

theorem Tile.setP_only (x : Tile) (k : Nat) (v : DWord) : ∃ p, x.setP k v = { x with p := p } := by
  unfold Tile.setP
  split
  · exact ⟨x.p, rfl⟩
  · exact ⟨_, rfl⟩

theorem Tile.preg_setPBits (x : Tile) (k pd : Nat) (f : Nat → Bool) (j i : Nat) (hi : i < 64) :
    ((x.setPBits k pd f).preg j).getLsbD i =
      if j = k ∧ k ≠ 0 then (if (x.preg pd).getLsbD i then f i else (x.preg k).getLsbD i) else (x.preg j).getLsbD i := by
  rw [Tile.setPBits, Tile.preg_setP]
  by_cases hj : j = k
  · subst hj
    by_cases h0 : j = 0
    · simp [h0, Tile.preg]
    · rw [if_neg h0, if_pos rfl, if_pos ⟨rfl, h0⟩, BitVec.getLsbD_ofNat, (bits_sum _ 64).2 i hi, decide_eq_true hi, Bool.true_and]
  · simp only [if_neg hj, hj, false_and, if_false]
    by_cases h0 : j = 0 <;> simp [h0, Tile.preg]

theorem Tile.preg_zero (x : Tile) (i : Nat) (hi : i < 64) : (x.preg 0).getLsbD i = true := by
  rw [Tile.preg, if_pos rfl, BitVec.getLsbD_allOnes, decide_eq_true hi]

/-- A tile that differs in predicate register `pd` and has one more operation queued. -/
theorem OnlyPred.of_bare {x x' y z : Tile} {pd : Nat} {op : UnitOp} (hx : x'.bare = x.bare) (hy : y.bare = (z.queued op).bare)
    (hz : ∃ p, z = { x' with p := p }) (hreg : ∀ k, k ≠ pd → z.preg k = x'.preg k) : OnlyPred x y pd op := by
  obtain ⟨p, rfl⟩ := hz
  have hp : x'.bare.p = x.bare.p := congrArg Tile.p hx
  change x'.p = x.p at hp
  have hu : x'.bare.units = x.bare.units := congrArg Tile.units hx
  change x'.units = x.units at hu
  have hn : x'.bare.issueNo = x.bare.issueNo := congrArg Tile.issueNo hx
  change x'.issueNo = x.issueNo at hn
  refine ⟨?_, ?_, fun k hk => ?_⟩
  · rw [hy, ← hx, ← hp, ← hu, ← hn]
    rfl
  · change y.bare.units = _
    rw [hy, ← hu]
    rfl
  · rw [Tile.preg_of_bare hy]
    exact (hreg k hk).trans (Tile.preg_of_bare hx k)

/-- A tile that differs in scalar register `rd` and has one more operation queued. -/
theorem OnlyScalar.of_bare {x x' y : Tile} {rd : Nat} {w : Word} {op : UnitOp} (hx : x'.bare = x.bare)
    (hy : y.bare = ((x'.setS rd w).queued op).bare) : OnlyScalar x y rd op := by
  obtain ⟨hbare, hreg⟩ := OnlyS.set x' rd w
  have hs : x'.bare.s = x.bare.s := congrArg Tile.s hx
  change x'.s = x.s at hs
  have hu : x'.bare.units = x.bare.units := congrArg Tile.units hx
  change x'.units = x.units at hu
  have hn : x'.bare.issueNo = x.bare.issueNo := congrArg Tile.issueNo hx
  change x'.issueNo = x.issueNo at hn
  refine ⟨?_, ?_, fun k hk => ?_⟩
  · have hz : { ((x'.setS rd w).queued op).bare with s := x'.s, units := x'.units, issueNo := x'.issueNo } =
        { { (x'.setS rd w).bare with s := x'.s } with units := x'.units, issueNo := x'.issueNo } := rfl
    rw [hy, ← hs, ← hu, ← hn, hz, hbare, ← hx]
    rfl
  · have hz : (x'.setS rd w).units = x'.units := by
      unfold Tile.setS
      split <;> rfl
    change y.bare.units = _
    rw [hy, ← hu, ← hz]
    rfl
  · rw [Tile.sreg_of_bare hy]
    exact (hreg k hk).trans (Tile.sreg_of_bare hx k)

section
variable {i : Instr} {s : State} {u : BitVec 7} (hc : coreOf u ≠ isleCore) (hi : s.canIssue (coreOf u) false = true)
  (hu : (s.tile (coreOf u)).units = [])
include hc hi hu

/-- A vector instruction that writes the bits of p[`k`] that p[`pd`] selects. -/
theorem gives_pred {k pd : Nat} {srcs : List Nat} {es : List (Option Exc)} {f : Tile → Nat → Bool}
    (hexec : exec i s = .next (s.issue (coreOf u) false fun s => s.vec u [] [] srcs [rP k] es fun s =>
      (s.updTile (coreOf u) fun x => x.setPBits k pd (f x), none)))
    (hes : firstExc es = none) :
    Gives i s fun t => OnlyCore s t (coreOf u) ∧
      OnlyPred (s.tile (coreOf u)) (t.tile (coreOf u)) k ⟨unitV, [], [], [rP k], none⟩ ∧
      ∀ j, j < 64 → ((t.tile (coreOf u)).preg k).getLsbD j =
        if k = 0 then true else if ((s.tile (coreOf u)).preg pd).getLsbD j then f ((s.tile (coreOf u)).issued (coreOf u) false) j
          else ((s.tile (coreOf u)).preg k).getLsbD j := by
  have hst : ∀ x : Tile, (x.setPBits k pd (f x)).stepping = x.stepping := fun x => by
    obtain ⟨p, hp⟩ := x.setP_only k _
    exact (congrArg Tile.stepping hp).trans rfl
  refine (gives_queued hexec hi (State.vec_pass hc (by simpa using hu) hes rfl) hst).mono fun t ⟨hcore, ht⟩ => ?_
  refine ⟨hcore, OnlyPred.of_bare (Tile.issued_bare _ _ _) ht (Tile.setP_only _ _ _) fun j hj => ?_, fun j hj => ?_⟩
  · refine (Tile.preg_setP _ _ _ _).trans ?_
    rw [if_neg hj]
    split
    · next h => simp [h, Tile.preg]
    · rfl
  · rw [Tile.preg_of_bare ht]
    refine (Tile.preg_setPBits _ _ _ _ _ _ hj).trans ?_
    by_cases hk : k = 0
    · simp [hk, Tile.preg_zero _ _ hj]
    · simp [hk]

/-- A unit instruction that writes scalar register `rd`. -/
theorem gives_unitS {rd : Nat} {srcs : List Nat} {es : List (Option Exc)} {fv : State → State → State × Option Exc} {g : Tile → Word} {w : Word}
    (hexec : exec i s = .next (s.issue (coreOf u) false fun s => s.vec u [] [] srcs [rS rd] es (fv s)))
    (hes : firstExc es = none)
    (hfv : fv (s.issued (coreOf u) false) (s.issued (coreOf u) false) =
      ((s.issued (coreOf u) false).updTile (coreOf u) fun x => x.setS rd (g x), none))
    (hw : g ((s.tile (coreOf u)).issued (coreOf u) false) = w) :
    Gives i s fun t => OnlyCore s t (coreOf u) ∧
      OnlyScalar (s.tile (coreOf u)) (t.tile (coreOf u)) rd ⟨unitV, [], [], [rS rd], none⟩ ∧
      (t.tile (coreOf u)).sreg rd = if rd = 0 then 0 else w :=
  (gives_queued hexec hi (State.vec_pass hc (by simpa using hu) hes hfv) fun x => x.setS_stepping _ _).mono fun t ⟨hcore, ht⟩ =>
    ⟨hcore, OnlyScalar.of_bare (Tile.issued_bare _ _ _) ht, by
      rw [Tile.sreg_of_bare ht]
      refine (Tile.sreg_setS _ _ _ _).trans ?_
      rw [hw]
      split <;> simp⟩

end

theorem pOk_of_lt {k : BitVec 5} (h : k.toNat < 8) : pOk k = true := decide_eq_true h

/-- Settles O20. -/
theorem comparisonsAndPredicates : Obligations.ComparisonsAndPredicates := by
  intro s u vd vs1 vs2 pd sc hc hi hu hvd c x lands a b
  have land {i : Instr} {srcs : List Nat} {es : List (Option Exc)} (g : Tile → Nat → Bool) {f : Nat → Bool}
      (hexec : exec i s = .next (s.issue (coreOf u) false fun s => s.vec u [] [] srcs [rP vd.toNat] es fun s =>
        (s.updTile (coreOf u) fun x => x.setPBits vd.toNat pd.toNat (g x), none)))
      (hes : firstExc es = none) (hg : ∀ k, k < 64 → g (x.issued c false) k = f k) : lands i f := by
    refine (gives_pred hc hi hu hexec hes).mono fun t ⟨hcore, honly, hbit⟩ => ⟨hcore, honly, fun k hk => ?_⟩
    rw [hbit k hk, hg k hk]
    have hvd0 : vd.toNat = 0 ↔ vd = 0 := by simp [← BitVec.toNat_inj]
    simp only [hvd0, x, c]
  have hpv : firstExc [excIf (!(pOk vd)) excEncoding] = none := by rw [pOk_of_lt hvd]; rfl
  have cmp {i : Instr} (g : Word → Word → Bool) {f : Nat → Bool} (hexec : exec i s = s.vecCmp u vd vs1 vs2 pd sc g)
      (hg : ∀ k, g (a k) (b k) = f k) : lands i f :=
    land (fun y k => g (y.vlane vs1.toNat k) (y.second vs2.toNat sc k)) hexec hpv fun k _ => by
      rw [← hg k]
      simp [Tile.second, a, b]
  have pop {i : Instr} (h1 : vs1.toNat < 8) (h2 : vs2.toNat < 8) (g : Bool → Bool → Bool)
      (hexec : exec i s = s.predOp u vd vs1 vs2 pd g) :
      lands i fun k => g ((x.preg vs1.toNat).getLsbD k) ((x.preg vs2.toNat).getLsbD k) :=
    land (fun y k => g ((y.preg vs1.toNat).getLsbD k) ((y.preg vs2.toNat).getLsbD k)) hexec
      (by rw [pOk_of_lt hvd, pOk_of_lt h1, pOk_of_lt h2]; rfl) fun k _ => by simp
  have pset : lands (.pset u vd vs1 vs2 pd) fun k =>
      if k < 32 then (x.sreg vs1.toNat).getLsbD k else (x.sreg vs2.toNat).getLsbD (k - 32) :=
    land (fun y k => (y.sreg vs2.toNat ++ y.sreg vs1.toNat).getLsbD k) rfl hpv fun k _ => by
      simp only [BitVec.getLsbD_append, Tile.issued_sreg]
  clear_value lands
  refine ⟨cmp (fun p q => p == q) rfl fun k => ?_, cmp (fun p q => p != q) rfl fun k => ?_, cmp (fun p q => p.slt q) rfl fun k => ?_,
    cmp (fun p q => !(q.slt p)) rfl fun k => ?_, cmp (fun p q => p.ult q) rfl fun k => ?_,
    cmp (fun p q => !(q.ult p)) rfl fun k => ?_, cmp (fun p q => (f32 p).eqv (f32 q)) rfl fun k => rfl,
    cmp (fun p q => (f32 p).below (f32 q)) rfl fun k => rfl,
    cmp (fun p q => (f32 p).below (f32 q) || (f32 p).eqv (f32 q)) rfl fun k => rfl,
    cmp (fun p q => (f32 p).isNan || (f32 q).isNan) rfl fun k => rfl, pset, fun h1 h2 =>
    ⟨pop h1 h2 (fun p q => p && q) rfl, pop h1 h2 (fun p q => p || q) rfl, pop h1 h2 (fun p q => p != q) rfl,
      pop h1 h2 (fun p q => p && !q) rfl⟩⟩
  · exact beq_eq_decide _ _
  · simp [bne, beq_eq_decide]
  · exact BitVec.slt_eq_decide
  · simp only [BitVec.slt_eq_decide, ← decide_not, Int.not_lt]
  · exact BitVec.ult_eq_decide
  · simp only [BitVec.ult_eq_decide, ← decide_not, Nat.not_lt]

theorem Tile.accFp_of_bare {x y : Tile} (h : x.bare = y.bare) : x.accFp = y.accFp := by
  change x.bare.accFp = y.bare.accFp
  rw [h]

theorem Tile.v_of_bare {x y : Tile} (h : x.bare = y.bare) : x.v = y.v := by
  change x.bare.v = y.bare.v
  rw [h]

/-! ## Lane moves and extracts (R371-R373) -/

theorem Tile.setLane_only (x : Tile) (k i : Nat) (w : Word) : ∃ v, x.setLane k i w = { x with v := v } := ⟨_, rfl⟩

/-- Inserting one selected lane stores a lane value of every selected lane, the others' their own. -/
theorem Tile.vlane_insert (x : Tile) (vd pd i : Nat) (w : Word) (k : Nat) {j : Nat} (hi : i < 64) (hj : j < 64) :
    (if (x.preg pd).getLsbD i then x.setLane vd i w else x).vlane k j =
      if k = vd ∧ j = i ∧ (x.preg pd).getLsbD i = true then w else x.vlane k j := by
  have hkey : 64 * k + j = 64 * vd + i ↔ k = vd ∧ j = i := by omega
  by_cases hp : (x.preg pd).getLsbD i = true
  · simp only [hp, if_true, Tile.vlane, Tile.setLane, Tab.get_set, hkey, and_true]
  · simp [hp]

theorem Tile.foldl_setAcc (k r : Nat) (f : Nat → Word) (hr : r < 64) (l : List Nat) (hl : ∀ i ∈ l, i < 64) : ∀ x : Tile,
    (∃ a, l.foldl (fun x i => x.setAcc k r i (f i)) x = { x with acc := a }) ∧
    ∀ j q i, q < 64 → i < 64 → (l.foldl (fun x i => x.setAcc k r i (f i)) x).accEl j q i =
      if j = k ∧ q = r ∧ i ∈ l then f i else x.accEl j q i := by
  induction l with
  | nil => exact fun x => ⟨⟨x.acc, rfl⟩, by simp⟩
  | cons p l ih =>
    intro x
    obtain ⟨⟨a, ha⟩, hel⟩ := ih (fun i hi => hl i (List.mem_cons_of_mem _ hi)) (x.setAcc k r p (f p))
    refine ⟨⟨a, ha.trans rfl⟩, fun j q i hq hi => (hel j q i hq hi).trans ?_⟩
    have hp : p < 64 := hl p List.mem_cons_self
    have hset : (x.setAcc k r p (f p)).accEl j q i = if j = k ∧ q = r ∧ i = p then f p else x.accEl j q i := by
      have hkey : 4096 * j + 64 * q + i = 4096 * k + 64 * r + p ↔ j = k ∧ q = r ∧ i = p := by omega
      simp only [Tile.accEl, Tile.setAcc, Tab.get_set, hkey]
    rw [hset]
    by_cases hjq : j = k ∧ q = r
    · obtain ⟨rfl, rfl⟩ := hjq
      by_cases hip : i = p
      · subst hip
        by_cases hm : i ∈ l <;> simp [hm]
      · simp [hip]
    · simp [← and_assoc, hjq]

theorem trapOf_nil (tmode : Word) : trapOf tmode [] = none := by
  rw [trapOf, List.find?_eq_none.2 (by simp)]
  rfl

/-- The integer sum meets no condition (R372). -/
theorem fpLane_sum (b : Bool) (w : Word) : fpLane (b && decide (3 ≤ 0)) true w = (w, []) := by
  simp [fpLane]

/-- Settles O21. -/
theorem laneMovesAndExtracts : Obligations.LaneMovesAndExtracts := by
  intro s u vd vs1 vs2 pd hc hi hu c x on picked lanes scalar
  have lane {i : Instr} {srcs : List Nat} {es : List (Option Exc)} (g : Tile → Nat → Word) {f : Nat → Word}
      (hexec : exec i s = .next (s.issue (coreOf u) false fun s => s.vec u [] [] srcs [rV vd.toNat] es fun s =>
        (s.updTile (coreOf u) fun x => x.setLanes vd.toNat pd.toNat (g x), none)))
      (hes : firstExc es = none) (hg : ∀ k, g (x.issued c false) k = f k) : lanes i f := by
    refine (gives_lanes (pd := pd.toNat) (F := f) (g := fun x => x.setLanes vd.toNat pd.toNat (g x)) hc hi hu hexec hes rfl
      (fun x => x.setLanes_stepping _ _ _) ?_).mono fun t ⟨hcore, honly, hl⟩ => ⟨hcore, honly, hl⟩
    exact congrArg _ (funext hg)
  have scal {i : Instr} {srcs : List Nat} {es : List (Option Exc)} {fv : State → State → State × Option Exc} (g : Tile → Word) {w : Word}
      (hexec : exec i s = .next (s.issue (coreOf u) false fun s => s.vec u [] [] srcs [rS vd.toNat] es (fv s)))
      (hes : firstExc es = none)
      (hfv : fv (s.issued (coreOf u) false) (s.issued (coreOf u) false) =
        ((s.issued (coreOf u) false).updTile (coreOf u) fun x => x.setS vd.toNat (g x), none))
      (hw : g (x.issued c false) = w) : scalar i w := by
    refine (gives_unitS hc hi hu hexec hes hfv hw).mono fun t ⟨hcore, honly, hs⟩ => ⟨hcore, honly, ?_⟩
    rw [hs, ite_toNat_eq_zero]
  have vins : lanes (.vins u vd vs1 vs2 pd) fun k =>
      if k = (x.sreg vs2.toNat).toNat % 64 then x.sreg vs1.toNat else x.vlane vd.toNat k := by
    have hmod : (x.sreg vs2.toNat).toNat % 64 < 64 := Nat.mod_lt _ (by decide)
    refine (gives_lanes_of (pd := pd.toNat) (es := fun _ => []) (F := fun k =>
      if k = (x.sreg vs2.toNat).toNat % 64 then x.sreg vs1.toNat else x.vlane vd.toNat k) (g := fun x =>
        if (x.preg pd.toNat).getLsbD ((x.sreg vs2.toNat).toNat % 64) then
          x.setLane vd.toNat ((x.sreg vs2.toNat).toNat % 64) (x.sreg vs1.toNat) else x) hc hi hu rfl rfl rfl (fun y => ?_) ?_ ?_).mono
        fun t ⟨hcore, honly, hl⟩ => ⟨hcore, honly, hl⟩
    · split <;> rfl
    · split
      · exact ⟨_, rfl⟩
      · exact ⟨_, rfl⟩
    · intro k j hj
      rw [Tile.vlane_insert _ _ _ _ _ _ (Nat.mod_lt _ (by decide)) hj]
      simp only [Tile.issued_sreg, Tile.issued_preg, Tile.issued_vlane]
      by_cases hkv : k = vd.toNat
      · by_cases hjv : j = (x.sreg vs2.toNat).toNat % 64
        · simp [hkv, hjv, x, c]
        · simp [hkv, hjv, x, c]
      · simp [hkv]
  have acc (h2 : vs2.toNat < 8) : lanes (.accrd u vd vs1 vs2 pd) (fun k => x.accEl vs2.toNat ((x.sreg vs1.toNat).toNat % 64) k) ∧
      Gives (.accwr u vd vs1 vs2 pd) s fun t => OnlyCore s t c ∧ (t.tile c).accFp = x.accFp ∧ (t.tile c).v = x.v ∧
        ∀ j r k, r < 64 → k < 64 → (t.tile c).accEl j r k =
          if j = vs2.toNat ∧ r = (x.sreg vs1.toNat).toNat % 64 ∧ on k = true then x.vlane vd.toNat k else x.accEl j r k := by
    have hes : firstExc [excIf (decide (7 < vs2.toNat)) excEncoding] = none := by
      rw [decide_eq_false (by omega)]
      rfl
    have hk : vs2.toNat % 8 = vs2.toNat := Nat.mod_eq_of_lt h2
    refine ⟨lane (fun x k => x.accEl (vs2.toNat % 8) ((x.sreg vs1.toNat).toNat % 64) k) rfl hes fun k => by simp [hk], ?_⟩
    have hfold (y : Tile) := Tile.foldl_setAcc (vs2.toNat % 8) ((y.sreg vs1.toNat).toNat % 64) (y.vlane vd.toNat)
      (Nat.mod_lt _ (by decide)) (y.lanes pd.toNat) (fun i hi => ((y.mem_lanes _ i).1 hi).1) y
    refine (gives_queued (g := fun x => (x.lanes pd.toNat).foldl (fun y i =>
      y.setAcc (vs2.toNat % 8) ((x.sreg vs1.toNat).toNat % 64) i (x.vlane vd.toNat i)) x) rfl hi
      (State.vec_pass hc (by simpa using hu) hes rfl) fun y => ?_).mono fun t ⟨hcore, ht⟩ => ⟨hcore, ?_, ?_, fun j r k hr hk' => ?_⟩
    · obtain ⟨⟨a, ha⟩, -⟩ := hfold y
      exact (congrArg Tile.stepping ha).trans rfl
    · rw [Tile.accFp_of_bare ht]
      obtain ⟨⟨a, ha⟩, -⟩ := hfold (x.issued c false)
      exact (congrArg Tile.accFp ha).trans (show (x.issued c false).accFp = x.accFp from Tile.accFp_of_bare (Tile.issued_bare x c false))
    · rw [Tile.v_of_bare ht]
      obtain ⟨⟨a, ha⟩, -⟩ := hfold (x.issued c false)
      exact (congrArg Tile.v ha).trans (show (x.issued c false).v = x.v from Tile.v_of_bare (Tile.issued_bare x c false))
    · rw [Tile.accEl_of_bare ht]
      refine ((hfold (x.issued c false)).2 j r k hr hk').trans ?_
      simp [hk, hk', Tile.mem_lanes, on]
  have vred : scalar (.vred u vd vs1 0 pd) ((picked.map fun k => x.vlane vs1.toNat k).foldl (· + ·) 0) := by
    refine scal (fun _ => (picked.map fun k => x.vlane vs1.toNat k).foldl (· + ·) 0) rfl rfl ?_ rfl
    have hpick : (((s.issued c false).tile c).lanes pd.toNat).map (((s.issued c false).tile c).vlane vs1.toNat) =
        picked.map fun k => x.vlane vs1.toNat k := by
      simp [Tile.lanes, picked, on, x, funext (fun k => Tile.issued_vlane (s.tile c) c false vs1.toNat k)]
    dsimp only
    rw [hpick]
    rw [show (0 : BitVec 5).toNat = 0 from rfl]
    simp only [vredOf, Bool.not_false, fpLane_sum, trapOf_nil, c]
  have vext : scalar (.vext u vd vs1 vs2 0) (x.vlane vs1.toNat ((x.sreg vs2.toNat).toNat % 64)) :=
    scal (fun x => x.vlane vs1.toNat ((x.sreg vs2.toNat).toNat % 64)) rfl rfl rfl (by simp)
  have pget (h1 : vs1.toNat < 8) : scalar (.pget u vd vs1 0 0) ((x.preg vs1.toNat).extractLsb' 0 32) ∧
      scalar (.pget u vd vs1 1 0) ((x.preg vs1.toNat).extractLsb' 32 32) := by
    have hp : pOk vs1 = true := pOk_of_lt h1
    exact ⟨scal (fun x => (x.preg vs1.toNat).extractLsb' 0 32) rfl (by rw [hp]; rfl) rfl (by simp),
      scal (fun x => (x.preg vs1.toNat).extractLsb' 32 32) rfl (by rw [hp]; rfl) rfl (by simp)⟩
  clear_value lanes scalar
  exact ⟨lane (fun x k => x.vlane vs1.toNat ((x.vlane vs2.toNat k).toNat % 64)) rfl rfl fun k => by simp,
    lane (fun x k => x.vlane vs1.toNat ((k + (x.sreg vs2.toNat).toNat) % 64)) rfl rfl fun k => by simp,
    lane (fun x _ => x.sreg vs1.toNat) rfl rfl fun k => by simp, lane (fun x k => x.vlane vs1.toNat k) rfl rfl fun k => by simp,
    vins, acc, vext, pget, vred⟩

end Sys2Proof.Machine

namespace Sys2Proof.Machine

/-! ## Unit instructions over ECC errors (R282, R288) -/

section
variable {i : Instr} {s t1 : State} {u : BitVec 7} {fx : State → Fx} {g : Tile → Tile} {op : UnitOp}

/-- A unit instruction whose reads changed the state first: its core's record changes, and its operation enters the unit's queue. -/
theorem gives_queued_after (hexec : exec i s = .next (s.issue (coreOf u) false fx)) (hi : s.canIssue (coreOf u) false = true)
    (hfx : fx (s.issued (coreOf u) false) = .done ((t1.updTile (coreOf u) g).updTile (coreOf u) fun x => x.queued op))
    (hst : (g (t1.tile (coreOf u))).stepping = false) :
    Gives i s fun t => (t1 = s.issued (coreOf u) false → OnlyCore s t (coreOf u)) ∧
      (t.tile (coreOf u)).bare = ((g (t1.tile (coreOf u))).queued op).bare := by
  have htile : ((t1.updTile (coreOf u) g).updTile (coreOf u) fun x => x.queued op).tile (coreOf u) =
      (g (t1.tile (coreOf u))).queued op := by
    rw [State.tile_updTile_self, State.tile_updTile_self]
  refine gives_done hexec hi hfx (by rw [htile]; exact hst) ⟨fun h => ?_, ?_⟩
  · subst h
    exact (s.issued_only _ false).trans ((OnlyCore.upd _ _ _).trans ((OnlyCore.upd _ _ _).trans (OnlyCore.upd _ _ _)))
  · rw [State.tile_updTile_self, Tile.closeLoops_bare, htile]

end

/-- A unit's access over errors that the store corrects goes on (R288). -/
theorem State.exists_unitEcc {s : State} {c : Nat} {rs : List (Nat × Nat)} {hits : List TileHit} (hc : c < 64)
    (h : eccMild rs hits = true) :
    ∃ t, (∀ fx, s.unitEcc c rs hits fx = fx t) ∧ Recorded s t ∧ (eccFree rs hits = true → t = s) := by
  refine ⟨(s.met c rs hits).foldl (fun t e => t.tileError c (s.tile c).cid e) s, fun fx => ?_,
    recorded_tileErrors _ _ _ _ (met_mild h), fun hf => ?_⟩
  · unfold State.unitEcc
    rw [State.readEcc_eq hc, met_mild h]
  · rw [met_free hf]
    rfl

theorem eccMild_map {α : Type} {l : List α} {r : α → Nat × Nat} {hits : List TileHit}
    (h : ∀ k ∈ l, eccMild [r k] hits = true) : eccMild (l.map r) hits = true := by
  simp only [eccMild, List.all_eq_true, Bool.or_eq_true, List.mem_map, forall_exists_index, and_imp] at h ⊢
  intro e he
  by_cases hb : (!e.bad) = true
  · exact .inl hb
  · refine .inr fun p k hk hp => ?_
    subst hp
    exact ((h k hk e he).resolve_left hb) _ (by simp)

theorem eraseDups_eq_nil {α : Type} [BEq α] {l : List α} : l.eraseDups = [] ↔ l = [] := by
  cases l with
  | nil => simp
  | cons a l => simp [List.eraseDups_cons]

theorem Tile.unwrittenIn_eq_nil (x : Tile) (rs : List (Nat × Nat)) :
    x.unwrittenIn rs = [] ↔ ∀ r ∈ rs, ∀ l ∈ linesAt r.1 r.2, x.isWritten l = true := by
  simp only [Tile.unwrittenIn, eraseDups_eq_nil, List.filter_eq_nil_iff, List.mem_flatten, List.mem_map]
  constructor
  · intro h r hr l hl
    simpa using h l ⟨_, ⟨r, hr, rfl⟩, hl⟩
  · rintro h l ⟨_, ⟨r, hr, rfl⟩, hl⟩
    simp [h r hr l hl]

theorem Tile.unwrittenIn_map {α : Type} (x : Tile) {l : List α} {r : α → Nat × Nat} (h : ∀ k ∈ l, x.unwrittenIn [r k] = []) :
    x.unwrittenIn (l.map r) = [] := by
  simp only [Tile.unwrittenIn_eq_nil, List.mem_map, forall_exists_index, and_imp] at h ⊢
  rintro p k hk rfl
  exact h k hk _ (by simp)

theorem Tile.wf_foldl_wrLe {α : Type} (addr val : α → Nat) (n : Nat) (l : List α) : ∀ {x : Tile} (_ : Memory.wf x.store = true),
    Memory.wf (l.foldl (fun (x : Tile) k => x.wrLe (addr k) n (val k)) x).store = true := by
  induction l with
  | nil => exact fun h => h
  | cons k l ih => exact fun h => ih (Tile.wf_wrLe _ _ _ h)

theorem Tile.rd_foldl_wrLe_out {α : Type} (addr val : α → Nat) (n b : Nat) (l : List α) : ∀ {x : Tile} (_ : Memory.wf x.store = true),
    (∀ k ∈ l, ¬(addr k ≤ b ∧ b < addr k + n)) → (l.foldl (fun (x : Tile) k => x.wrLe (addr k) n (val k)) x).rd b = x.rd b := by
  induction l with
  | nil => exact fun _ _ => rfl
  | cons k l ih =>
    intro x h hb
    exact (ih (Tile.wf_wrLe _ _ _ h) fun j hj => hb j (List.mem_cons_of_mem _ hj)).trans
      (Tile.rd_wrLe_out h _ (hb k List.mem_cons_self))

theorem Tile.rd_foldl_wrLe_in {α : Type} (addr val : α → Nat) (n : Nat) {l : List α} (hd : l.Pairwise fun p q =>
      addr p + n ≤ addr q ∨ addr q + n ≤ addr p) : ∀ {x : Tile} (_ : Memory.wf x.store = true) {k : α} {j : Nat},
    k ∈ l → j < n → (l.foldl (fun (x : Tile) k => x.wrLe (addr k) n (val k)) x).rd (addr k + j) =
      BitVec.ofNat 8 (val k / 256 ^ j) := by
  induction hd with
  | nil => exact fun _ _ _ h => nomatch h
  | @cons p l hp _ ih =>
    intro x h k j hk hj
    rcases List.mem_cons.1 hk with rfl | hk
    · refine (Tile.rd_foldl_wrLe_out addr val n _ l (Tile.wf_wrLe _ _ _ h) fun q hq => ?_).trans (Tile.rd_wrLe_in h _ _ hj)
      have := hp q hq
      omega
    · exact ih (Tile.wf_wrLe _ _ _ h) hk hj

/-! ## Vector loads and stores (R373, R374) -/

/-- The lanes of a vector access. -/
def Tile.laneAccess (x : Tile) (vs1 vs2 : Nat) (strided : Bool) (n : Nat) : Lanes :=
  ⟨(x.sreg vs1).toNat, if strided then (x.sreg vs2).toInt else n, n⟩

/-- No selected lane of an aligned access inside the store meets an exception. -/
theorem Lanes.exc_none {l : Lanes} {field i : Nat} (hb : l.base % (l.bytes : Int) = 0) (hs : l.step % (l.bytes : Int) = 0)
    (h0 : 0 ≤ l.addr i) (ht : l.addr i + l.bytes ≤ 2 ^ 20) : l.exc field i = none := by
  have ha : ¬(l.base.emod l.bytes ≠ 0 ∨ l.step.emod l.bytes ≠ 0) := by
    rintro (h | h)
    · exact h hb
    · exact h hs
  have hr : ¬(l.addr i < 0 ∨ (storeTop : Int) + 1 - l.bytes < l.addr i) := by
    unfold storeTop
    omega
  rw [Lanes.exc, if_neg ha, if_neg hr]

theorem Lanes.excs_none {l : Lanes} {field : Nat} {is : List Nat} (h : ∀ i ∈ is, l.exc field i = none) :
    is.findSome? (l.exc field) = none := List.findSome?_eq_none_iff.2 h

theorem State.laneAccess_issued (s : State) (c vs1 vs2 : Nat) (strided : Bool) (n : Nat) :
    (⟨(((s.issued c false).tile c).sreg vs1).toNat,
      if strided then (((s.issued c false).tile c).sreg vs2).toInt else n, n⟩ : Lanes) = (s.tile c).laneAccess vs1 vs2 strided n := by
  rw [s.tile_issued]
  simp [Tile.laneAccess]

theorem State.lanes_issued (s : State) (c pd : Nat) : ((s.issued c false).tile c).lanes pd = (s.tile c).lanes pd := by
  rw [s.tile_issued]
  simp [Tile.lanes]

/-- A word read by a unit: the errors that the store corrects are recorded before (R288). -/
theorem Recorded.issued_tile {s t : State} {c : Nat} {ext : Bool} (h : Recorded (s.issued c ext) t) :
    t.tile c = (s.tile c).issued c ext := (h.tile c).trans (s.tile_issued c ext)

theorem Tile.store_of_bare {x y : Tile} (h : x.bare = y.bare) : x.store = y.store := by
  change x.bare.store = y.bare.store
  rw [h]

theorem Tile.s_of_bare {x y : Tile} (h : x.bare = y.bare) : x.s = y.s := by
  change x.bare.s = y.bare.s
  rw [h]

theorem takeWhile_all {α : Type} {p : α → Bool} {l : List α} (h : ∀ a ∈ l, p a = true) : l.takeWhile p = l :=
  List.takeWhile_eq_self_iff.2 h

section
variable {s : State} {u : BitVec 7} {vd vs1 vs2 : BitVec 5} {pd : BitVec 3} {hits : List TileHit} {strided : Bool} {n : Nat}
  (hc : coreOf u ≠ isleCore) (hi : s.canIssue (coreOf u) false = true) (hu : (s.tile (coreOf u)).units = [])
  (hexc : ∀ k ∈ (s.tile (coreOf u)).lanes pd.toNat, ((s.tile (coreOf u)).laneAccess vs1.toNat vs2.toNat strided n).exc vs1.toNat k = none)
  (hmild : eccMild (((s.tile (coreOf u)).laneAccess vs1.toNat vs2.toNat strided n).ranges ((s.tile (coreOf u)).lanes pd.toNat)) hits = true)
include hc hi hu hexc hmild

theorem gives_vload {i : Instr} {widen : Nat → Word} (hexec : exec i s = s.vload u vd vs1 vs2 pd hits strided n widen)
    (hw : (s.tile (coreOf u)).unwrittenIn
      (((s.tile (coreOf u)).laneAccess vs1.toNat vs2.toNat strided n).ranges ((s.tile (coreOf u)).lanes pd.toNat)) = []) :
    Gives i s fun t => (hits = [] → OnlyCore s t (coreOf u)) ∧ (t.tile (coreOf u)).store = (s.tile (coreOf u)).store ∧
      (t.tile (coreOf u)).s = (s.tile (coreOf u)).s ∧ ∀ k, k < 64 → (t.tile (coreOf u)).vlane vd.toNat k =
        if ((s.tile (coreOf u)).preg pd.toNat).getLsbD k then widen ((s.tile (coreOf u)).rdLe
          (((s.tile (coreOf u)).laneAccess vs1.toNat vs2.toNat strided n).addr k).toNat n) else (s.tile (coreOf u)).vlane vd.toNat k := by
  have hlt := coreOf_lt hc
  have htile := s.tile_issued (coreOf u) false
  have hacc := s.laneAccess_issued (coreOf u) vs1.toNat vs2.toNat strided n
  have hlanes := s.lanes_issued (coreOf u) pd.toNat
  generalize hl : (s.tile (coreOf u)).laneAccess vs1.toNat vs2.toNat strided n = l at *
  obtain ⟨t1, hecc, hrec, hfree⟩ := State.exists_unitEcc (s := s.issued (coreOf u) false) hlt hmild
  have ht1 := hrec.issued_tile
  have hb1 : (t1.tile (coreOf u)).bare = (s.tile (coreOf u)).bare := (congrArg Tile.bare ht1).trans (Tile.issued_bare _ _ _)
  let g := fun y : Tile => ((s.tile (coreOf u)).lanes pd.toNat).foldl (fun x i =>
    x.setLane vd.toNat i (widen (y.rdLe (l.addr i).toNat n))) y
  have hread : (s.issued (coreOf u) false).readRanges (coreOf u) (l.ranges ((s.tile (coreOf u)).lanes pd.toNat)) =
      .ok (s.issued (coreOf u) false) := State.readRanges_clean (by rw [htile, Tile.unwrittenIn_issued, hw])
  have hg (y : Tile) := Tile.foldl_setLane vd.toNat (fun i => widen (y.rdLe (l.addr i).toNat n))
    ((s.tile (coreOf u)).lanes pd.toNat) (fun i hi => (((s.tile (coreOf u)).mem_lanes _ i).1 hi).1) y
  have hst : (g (t1.tile (coreOf u))).stepping = false := by
    obtain ⟨⟨v, hv⟩, -⟩ := hg (t1.tile (coreOf u))
    rw [show g (t1.tile (coreOf u)) = _ from hv, ht1, ← htile]
    exact s.stepping_issued (coreOf u) false hi
  refine (gives_queued_after (t1 := t1) (g := g)
    (op := ⟨unitV, l.ranges ((s.tile (coreOf u)).lanes pd.toNat), [], [rV vd.toNat], none⟩) hexec hi ?_ hst).mono
    fun t ⟨hcore, ht⟩ => ⟨fun h => ?_, ?_, ?_, fun k hk => ?_⟩
  · simp only [hacc, hlanes]
    refine State.vec_pass hc (by simpa using hu) (by rw [Lanes.excs_none hexc]; rfl) ?_
    rw [hread]
    exact hecc _
  · subst h
    exact hcore (hfree rfl)
  · rw [Tile.store_of_bare ht]
    obtain ⟨⟨v, hv⟩, -⟩ := hg (t1.tile (coreOf u))
    rw [show g (t1.tile (coreOf u)) = _ from hv]
    exact show (t1.tile (coreOf u)).store = _ from Tile.store_of_bare hb1
  · rw [Tile.s_of_bare ht]
    obtain ⟨⟨v, hv⟩, -⟩ := hg (t1.tile (coreOf u))
    rw [show g (t1.tile (coreOf u)) = _ from hv]
    exact show (t1.tile (coreOf u)).s = _ from Tile.s_of_bare hb1
  · rw [Tile.vlane_of_bare ht]
    refine ((hg (t1.tile (coreOf u))).2 vd.toNat k hk).trans ?_
    rw [ht1, Tile.rdLe_issued, Tile.issued_vlane]
    simp [Tile.mem_lanes, hk]

theorem gives_vstore {i : Instr} (hexec : exec i s = s.vstore u vd vs1 vs2 pd hits strided n) :
    Gives i s fun t => (hits = [] → OnlyCore s t (coreOf u)) ∧
      (t.tile (coreOf u)).bare = ((((s.tile (coreOf u)).lanes pd.toNat).foldl (fun (x : Tile) k =>
        x.wrLe (((s.tile (coreOf u)).laneAccess vs1.toNat vs2.toNat strided n).addr k).toNat n
          ((s.tile (coreOf u)).vlane vd.toNat k).toNat) ((s.tile (coreOf u)).issued (coreOf u) false)).queued
        ⟨unitV, [], ((s.tile (coreOf u)).laneAccess vs1.toNat vs2.toNat strided n).ranges ((s.tile (coreOf u)).lanes pd.toNat), [],
          none⟩).bare := by
  have hlt := coreOf_lt hc
  have htile := s.tile_issued (coreOf u) false
  have hacc := s.laneAccess_issued (coreOf u) vs1.toNat vs2.toNat strided n
  have hlanes := s.lanes_issued (coreOf u) pd.toNat
  generalize hl : (s.tile (coreOf u)).laneAccess vs1.toNat vs2.toNat strided n = l at *
  obtain ⟨t1, hecc, hrec, hfree⟩ := State.exists_unitEcc (s := s.issued (coreOf u) false) hlt hmild
  have ht1 := hrec.issued_tile
  let g := fun y : Tile => ((s.tile (coreOf u)).lanes pd.toNat).foldl (fun x k =>
    x.wrLe (l.addr k).toNat n (y.vlane vd.toNat k).toNat) y
  have hst : (g (t1.tile (coreOf u))).stepping = false := by
    obtain ⟨m, w, hw⟩ := Tile.foldl_wrLe_only (fun k => (l.addr k).toNat) (fun k => ((t1.tile (coreOf u)).vlane vd.toNat k).toNat) n
      ((s.tile (coreOf u)).lanes pd.toNat) (t1.tile (coreOf u))
    rw [show g (t1.tile (coreOf u)) = _ from hw, ht1, ← htile]
    exact s.stepping_issued (coreOf u) false hi
  refine (gives_queued_after (t1 := t1) (g := g)
    (op := ⟨unitV, [], l.ranges ((s.tile (coreOf u)).lanes pd.toNat), [], none⟩) hexec hi ?_ hst).mono
    fun t ⟨hcore, ht⟩ => ⟨fun h => ?_, ?_⟩
  · simp only [hacc, hlanes]
    rw [takeWhile_all fun k hk => by rw [hexc k hk]; rfl, Lanes.excs_none hexc]
    exact State.vec_pass hc (by simpa using hu) rfl (hecc _)
  · subst h
    exact hcore (hfree rfl)
  · rw [ht, ht1]
    simp only [g, Tile.issued_vlane]

end

theorem sext_eq (n v : Nat) : sext (n + 1) 32 v = (BitVec.ofNat (n + 1) v).signExtend 32 := by
  have h : asSigned (n + 1) v = (BitVec.ofNat (n + 1) v).toInt := by
    have hp : 2 ^ (n + 1) = 2 * 2 ^ n := by rw [Nat.pow_succ, Nat.mul_comm]
    rw [BitVec.toInt_eq_toNat_cond, BitVec.toNat_ofNat]
    unfold asSigned
    simp only [Nat.add_sub_cancel]
    split <;> split <;> omega
  rw [sext, h]
  rfl

/-- Settles O22. -/
theorem vectorLoadsAndStores : Obligations.VectorLoadsAndStores := by
  intro s u vd vs1 vs2 pd hits hc hi hu c x on at_ fits written mild loads stores
  have hin {k : Nat} (hk : k ∈ x.lanes pd.toNat) : k < 64 ∧ on k = true := (x.mem_lanes _ _).1 hk
  have haddr (strided : Bool) (n k : Nat) : (x.laneAccess vs1.toNat vs2.toNat strided n).addr k = at_ strided n k := rfl
  have exc {strided : Bool} {n : Nat} (h : fits strided n) : ∀ k ∈ x.lanes pd.toNat,
      (x.laneAccess vs1.toNat vs2.toNat strided n).exc vs1.toNat k = none := fun k hk => by
    obtain ⟨hb, hs, hr⟩ := h
    obtain ⟨h0, ht⟩ := hr k (hin hk).1 (hin hk).2
    refine Lanes.exc_none ?_ ?_ h0 ht
    · change ((x.sreg vs1.toNat).toNat : Int) % (n : Int) = 0
      rw [← Int.natCast_mod, hb]
      rfl
    · change (if strided then (x.sreg vs2.toNat).toInt else (n : Int)) % (n : Int) = 0
      split
      · next h => exact hs h
      · exact Int.emod_self
  have ecc {strided : Bool} {n : Nat} (h : mild strided n) :
      eccMild ((x.laneAccess vs1.toNat vs2.toNat strided n).ranges (x.lanes pd.toNat)) hits = true :=
    eccMild_map fun k hk => h k (hin hk).1 (hin hk).2
  have load {i : Instr} {strided : Bool} {n : Nat} (w : Nat → Word) {widen : Nat → Word}
      (hexec : exec i s = s.vload u vd vs1 vs2 pd hits strided n w) (hwid : w = widen) : loads i strided n widen := fun hf hw hm =>
    hwid ▸ gives_vload hc hi hu (exc hf) (ecc hm) hexec (x.unwrittenIn_map fun k hk => hw k (hin hk).1 (hin hk).2)
  have store {i : Instr} {strided : Bool} {n : Nat} (hexec : exec i s = s.vstore u vd vs1 vs2 pd hits strided n) :
      stores i strided n := fun hf hwf hm => by
    refine (gives_vstore hc hi hu (exc hf) (ecc hm) hexec).mono fun t ⟨hcore, ht⟩ => ?_
    have hwf' : Memory.wf (x.issued c false).store = true := by rw [Tile.store_of_bare (x.issued_bare c false)]; exact hwf
    obtain ⟨m, w, hfold⟩ := Tile.foldl_wrLe_only (fun k => (at_ strided n k).toNat) (fun k => (x.vlane vd.toNat k).toNat) n
      (x.lanes pd.toNat) (x.issued c false)
    refine ⟨hcore, ?_, ?_, fun b hb => ?_, fun hstr k j hk hon hj => ?_⟩
    · refine (Tile.v_of_bare ht).trans ((congrArg Tile.v hfold).trans ?_)
      exact show (x.issued c false).v = x.v from Tile.v_of_bare (x.issued_bare c false)
    · refine (Tile.s_of_bare ht).trans ((congrArg Tile.s hfold).trans ?_)
      exact show (x.issued c false).s = x.s from Tile.s_of_bare (x.issued_bare c false)
    · refine (Tile.rd_of_bare ht b).trans ((Tile.rd_foldl_wrLe_out _ _ n b _ hwf' fun k hk hb' => ?_).trans
        (Tile.rd_of_bare (x.issued_bare c false) b))
      have hpos := (hf.2.2 k (hin hk).1 (hin hk).2).1
      have := hb k (hin hk).1 (hin hk).2
      change (at_ strided n k).toNat ≤ b ∧ b < (at_ strided n k).toNat + n at hb'
      omega
    · refine (Tile.rd_of_bare ht _).trans (Tile.rd_foldl_wrLe_in (fun k => (at_ strided n k).toNat)
        (fun k => (x.vlane vd.toNat k).toNat) n ?_ hwf' ((x.mem_lanes _ _).2 ⟨hk, hon⟩) hj)
      subst hstr
      refine (List.pairwise_lt_range.filter _).imp fun {p q} hpq => .inl ?_
      have hmul : (p + 1) * n ≤ q * n := Nat.mul_le_mul_right n hpq
      rw [Nat.succ_mul] at hmul
      simp only [at_, Bool.false_eq_true, if_false, ← Int.natCast_mul, ← Int.natCast_add, Int.toNat_natCast]
      omega
  clear_value loads stores
  refine ⟨load (fun v => BitVec.ofNat 32 v) rfl rfl, load (fun v => BitVec.ofNat 32 v) rfl rfl,
    load (fun v => sext 8 32 v) rfl (funext fun v => sext_eq _ _), load (fun v => BitVec.ofNat 32 v) rfl rfl,
    load (fun v => sext 16 32 v) rfl (funext fun v => sext_eq _ _), load (fun v => toF32 (Fmt.fp16.val v)) rfl rfl,
    load (fun v => toF32 (Fmt.bf16.val v)) rfl rfl, ?_, ?_, ?_, ?_⟩
  · exact store rfl
  · exact store rfl
  · exact store rfl
  · exact store rfl

end Sys2Proof.Machine

namespace Sys2Proof.Machine

/-! ## The rescale table (R373-R375) -/

theorem Tile.foldl_setEntry (g : Nat) (f : Nat → DWord) (l : List Nat) : ∀ x : Tile,
    (∃ r, l.foldl (fun (x : Tile) j => { x with rescale := x.rescale.set (g + j) (f j) }) x = { x with rescale := r }) ∧
    ∀ k, Tab.get (0 : DWord) (l.foldl (fun (x : Tile) j => { x with rescale := x.rescale.set (g + j) (f j) }) x).rescale k =
      if g ≤ k ∧ k - g ∈ l then f (k - g) else Tab.get 0 x.rescale k := by
  induction l with
  | nil => exact fun x => ⟨⟨x.rescale, rfl⟩, by simp⟩
  | cons j l ih =>
    intro x
    obtain ⟨⟨r, hr⟩, hget⟩ := ih { x with rescale := x.rescale.set (g + j) (f j) }
    refine ⟨⟨r, hr⟩, fun k => (hget k).trans ?_⟩
    simp only [Tab.get_set]
    by_cases hk : k = g + j
    · subst hk
      simp
    · have hne : g ≤ k → k - g ≠ j := fun h => by omega
      by_cases hg : g ≤ k
      · simp [hk, hg, hne hg]
      · simp [hk, hg]

/-- Storing entries of the table leaves the table as it is. -/
theorem Tile.foldl_storeEntries (a g : Nat) (r : Tab DWord) (l : List Nat) : ∀ x : Tile, x.rescale = r →
    l.foldl (fun (x : Tile) j => x.wrLe (a + 8 * j) 8 (Tab.get 0 x.rescale (64 * g + j)).toNat) x =
      l.foldl (fun (x : Tile) j => x.wrLe (a + 8 * j) 8 (Tab.get 0 r (64 * g + j)).toNat) x := by
  induction l with
  | nil =>
    intro x _
    rw [List.foldl_nil, List.foldl_nil]
  | cons j l ih =>
    intro x hx
    rw [List.foldl_cons, List.foldl_cons, hx]
    refine ih _ ?_
    obtain ⟨m, w, h⟩ := x.wrLe_only (a + 8 * j) 8 (Tab.get 0 r (64 * g + j)).toNat
    rw [h]
    exact hx

theorem Tile.queued_rescale (x : Tile) (op : UnitOp) : (x.queued op).rescale = x.rescale := rfl

theorem Tile.queued_store (x : Tile) (op : UnitOp) : (x.queued op).store = x.store := rfl

theorem Tile.queued_rd (x : Tile) (op : UnitOp) (b : Nat) : (x.queued op).rd b = x.rd b := rfl

theorem tableExcs_none {a : Nat} (field : Nat) (ha : a % 64 = 0) (ht : a + 512 ≤ 2 ^ 20) : firstExc (tableExcs a field) = none := by
  have h1 : (a % 64 != 0) = false := by simp [ha]
  have h2 : decide (storeTop < a + 511) = false := decide_eq_false (by unfold storeTop; omega)
  rw [tableExcs, h1, h2]
  rfl

theorem Tile.rescale_of_bare {x y : Tile} (h : x.bare = y.bare) : x.rescale = y.rescale := by
  change x.bare.rescale = y.bare.rescale
  rw [h]

/-- 64 entries of the table loaded from the store. -/
def Tile.loadEntries (a g : Nat) (t : Tile) : Tile := (List.range 64).foldl (fun (x : Tile) j =>
  { x with rescale := x.rescale.set (64 * g + j) (BitVec.ofNat 64 (t.rdLe (a + 8 * j) 8)) }) t

/-- 64 entries of the table stored. -/
def Tile.storeEntries (a g : Nat) (t : Tile) : Tile :=
  (List.range 64).foldl (fun (x : Tile) j => x.wrLe (a + 8 * j) 8 (Tab.get 0 x.rescale (64 * g + j)).toNat) t

/-- Settles O23. -/
theorem rescaleTableMoves : Obligations.RescaleTableMoves := by
  intro s u vs1 vs2 hits hc hi hu c x a g entry ha ht
  have hlt : c < 64 := coreOf_lt hc
  have htile : (s.issued c false).tile c = x.issued c false := s.tile_issued c false
  have hs1 : (((s.issued c false).tile c).sreg vs1.toNat).toNat = a := by rw [htile, Tile.issued_sreg]
  have hs2 : (((s.issued c false).tile c).sreg vs2.toNat).toNat % 16 = g := by rw [htile, Tile.issued_sreg]
  have hstep : ((s.issued c false).tile c).stepping = false := s.stepping_issued c false hi
  have hexc := tableExcs_none vs1.toNat ha ht
  refine ⟨fun hw hmild => ?_, fun hwf => ?_⟩
  · obtain ⟨t1, hecc, hrec, hfree⟩ := State.exists_unitEcc (s := s.issued c false) hlt hmild
    have ht1 : t1.tile c = x.issued c false := hrec.issued_tile
    have hread : (s.issued c false).readRanges c [(a, 512)] = .ok (s.issued c false) :=
      State.readRanges_clean (by rw [htile, Tile.unwrittenIn_issued, hw])
    have hfx : State.vec (s.issued c false) u [(a, 512)] [] [rS vs1.toNat, rS vs2.toNat] [rTable]
        (excIf ((0 : BitVec 3) != 0) excEncoding :: tableExcs a vs1.toNat) (fun s => match s.readRanges c [(a, 512)] with
          | .error e => (s, some e)
          | .ok s => s.unitEcc c [(a, 512)] hits fun s => (s.updTile c (Tile.loadEntries a g), none)) =
        .done ((t1.updTile c (Tile.loadEntries a g)).updTile c fun x => x.queued ⟨unitV, [(a, 512)], [], [rTable], none⟩) := by
      refine State.vec_pass hc (by rw [htile, Tile.issued_units, hu]) hexc ?_
      rw [hread]
      exact hecc _
    have hload (z : Tile) : ∃ r, Tile.loadEntries a g z = { z with rescale := r } := (Tile.foldl_setEntry _ _ _ z).1
    obtain ⟨r, hr⟩ := hload (t1.tile c)
    refine (gives_queued_after (i := .rtld u 0 vs1 vs2 0 hits) (t1 := t1)
      (g := Tile.loadEntries a g) (op := ⟨unitV, [(a, 512)], [], [rTable], none⟩) rfl hi ?_ ?_).mono fun t ⟨hcore, ht⟩ => ?_
    · simp only [show coreOf u = c from rfl, hs1, hs2]
      exact hfx
    · exact (congrArg Tile.stepping hr).trans ((congrArg Tile.stepping (ht1.trans htile.symm)).trans hstep)
    · have hres : (t.tile c).rescale = (Tile.loadEntries a g (t1.tile c)).rescale :=
        (Tile.rescale_of_bare ht).trans (Tile.queued_rescale _ _)
      have hget (k : Nat) : entry (t.tile c) k = if 64 * g ≤ k ∧ k - 64 * g ∈ List.range 64 then
          BitVec.ofNat 64 (x.rdLe (a + 8 * (k - 64 * g)) 8) else entry x k := by
        change Tab.get (0 : DWord) (t.tile c).rescale k = _
        rw [hres, Tile.loadEntries, (Tile.foldl_setEntry (64 * g) _ _ _).2 k, ht1, Tile.rdLe_issued]
        exact congrArg (ite _ _) (congrArg (fun r => Tab.get (0 : DWord) r k) (Tile.rescale_of_bare (x.issued_bare c false)))
      refine ⟨fun h => ?_, ?_, fun j hj => ?_, fun j hj => ?_⟩
      · subst h
        exact hcore (hfree rfl)
      · refine (Tile.store_of_bare ht).trans ((Tile.queued_store _ _).trans ((congrArg Tile.store hr).trans ?_))
        exact (congrArg Tile.store ht1).trans (Tile.store_of_bare (x.issued_bare c false))
      · rw [hget, if_pos (by simp [hj]), Nat.add_sub_cancel_left]
      · rw [hget, if_neg (by simp only [List.mem_range]; omega)]
  · have hfold := Tile.foldl_storeEntries a g x.rescale (List.range 64) (x.issued c false) (Tile.rescale_of_bare (x.issued_bare c false))
    obtain ⟨m, w, hm⟩ := Tile.foldl_wrLe_only (fun j => a + 8 * j) (fun j => (Tab.get 0 x.rescale (64 * g + j)).toNat) 8
      (List.range 64) (x.issued c false)
    have hwf' : Memory.wf (x.issued c false).store = true := by rw [Tile.store_of_bare (x.issued_bare c false)]; exact hwf
    refine (gives_queued (i := .rtst u 0 vs1 vs2 0) (g := Tile.storeEntries a g)
      (op := ⟨unitV, [], [(a, 512)], [], none⟩) rfl hi ?_ fun z => ?_).mono
      fun t ⟨hcore, ht⟩ => ?_
    · simp only [show coreOf u = c from rfl, hs1, hs2]
      exact State.vec_pass hc (by rw [htile, Tile.issued_units, hu]) hexc rfl
    · rw [Tile.storeEntries, Tile.foldl_storeEntries a g z.rescale _ z rfl]
      obtain ⟨m, w, hm⟩ := Tile.foldl_wrLe_only (fun j => a + 8 * j) (fun j => (Tab.get 0 z.rescale (64 * g + j)).toNat) 8
        (List.range 64) z
      rw [hm]
    · have hz : (t.tile c).bare = (Tile.queued ((List.range 64).foldl (fun (y : Tile) j =>
          y.wrLe (a + 8 * j) 8 (Tab.get 0 x.rescale (64 * g + j)).toNat) (x.issued c false)) ⟨unitV, [], [(a, 512)], [], none⟩).bare :=
        hfold ▸ ht
      refine ⟨hcore, ?_, fun b hb => ?_, fun j k hj hk => ?_⟩
      · refine (Tile.rescale_of_bare hz).trans ((Tile.queued_rescale _ _).trans ((congrArg Tile.rescale hm).trans ?_))
        exact show (x.issued c false).rescale = x.rescale from Tile.rescale_of_bare (x.issued_bare c false)
      · refine (Tile.rd_of_bare hz b).trans ((Tile.queued_rd _ _ b).trans ((Tile.rd_foldl_wrLe_out _ _ 8 b _ hwf' fun j hj h => hb ?_).trans
          (Tile.rd_of_bare (x.issued_bare c false) b)))
        have := List.mem_range.1 hj
        omega
      · refine (Tile.rd_of_bare hz _).trans ((Tile.queued_rd _ _ _).trans (Tile.rd_foldl_wrLe_in (fun j => a + 8 * j)
          (fun j => (Tab.get 0 x.rescale (64 * g + j)).toNat) 8 ?_ hwf' (List.mem_range.2 hj) hk))
        exact List.pairwise_lt_range.imp fun {p q} hpq => .inl (by omega)

end Sys2Proof.Machine

namespace Sys2Proof.Machine

/-! ## Reductions of an accumulator (R376, R377) -/

theorem accOk_of_tile {c : Nat} (hc : c ≠ isleCore) (acc : BitVec 3) : accOk c acc.toNat = true := by
  rw [accOk, fileSize, if_neg hc]
  exact decide_eq_true acc.isLt

theorem tOk_zero (c : Nat) : tOk c 0 = true := by
  unfold tOk fileSize
  split <;> rfl

theorem Tile.issued_accIsFp (x : Tile) (c : Nat) (ext : Bool) (k : Nat) : (x.issued c ext).accIsFp k = x.accIsFp k := by
  rw [Tile.issued_only_fetch]
  rfl

theorem Tile.foldl_setLane_stepping (vd : Nat) (f : Nat → Word) (l : List Nat) : ∀ x : Tile,
    (l.foldl (fun x i => x.setLane vd i (f i)) x).stepping = x.stepping := by
  induction l with
  | nil =>
    intro x
    rw [List.foldl_nil]
  | cons j l ih => exact fun x => (ih _).trans rfl

theorem Tile.queued_vlane (x : Tile) (op : UnitOp) (k i : Nat) : (x.queued op).vlane k i = x.vlane k i := rfl

/-- Words of an accumulator. -/
def Tile.accWords (x : Tile) (k : Nat) (l : List (Nat × Nat)) : List Word := l.map fun e => x.accEl k e.1 e.2

/-- The places of a whole accumulator, and of a row. -/
def accAll : List (Nat × Nat) := ((List.range 64).map fun i => (List.range 64).map fun j => (i, j)).flatten
def accRow (i : Nat) : List (Nat × Nat) := (List.range 64).map fun j => (i, j)

section
variable {i : Instr} {s : State} {u : BitVec 7} {op : RedOp} {acc : BitVec 3} {dst : BitVec 5}
  (hc : coreOf u ≠ isleCore) (hi : s.canIssue (coreOf u) false = true) (hu : (s.tile (coreOf u)).units = [])
  (hfp : (s.tile (coreOf u)).accIsFp acc.toNat = false) (htm : (s.tile (coreOf u)).tmode = 0)
include hc hi hu hfp htm

theorem gives_reduce_all (hexec : exec i s = s.reduce u op acc 0 0 0 0 dst) :
    Gives i s fun t => OnlyCore s t (coreOf u) ∧
      OnlyScalar (s.tile (coreOf u)) (t.tile (coreOf u)) dst.toNat ⟨unitV, [], [], [rS dst.toNat], none⟩ ∧
      (t.tile (coreOf u)).sreg dst.toNat =
        if dst.toNat = 0 then 0 else (redInt op ((s.tile (coreOf u)).accWords acc.toNat accAll)).1 := by
  have htile := s.tile_issued (coreOf u) false
  have hfp' : ((s.issued (coreOf u) false).tile (coreOf u)).accIsFp acc.toNat = false := by rw [htile, Tile.issued_accIsFp, hfp]
  have htm' : ((s.issued (coreOf u) false).tile (coreOf u)).tmode = 0 := by rw [htile, Tile.issued_tmode, htm]
  have hwords (l : List (Nat × Nat)) : (l.map fun e => ((s.issued (coreOf u) false).tile (coreOf u)).accEl acc.toNat e.1 e.2) =
      (s.tile (coreOf u)).accWords acc.toNat l := by
    rw [htile]
    simp only [Tile.issued_accEl, Tile.accWords]
  have hisle : (coreOf u == isleCore) = false := beq_false_of_ne hc
  refine (gives_queued (g := fun x => x.setS dst.toNat (redInt op ((s.tile (coreOf u)).accWords acc.toNat accAll)).1)
    (op := ⟨unitV, [], [], [rS dst.toNat], none⟩) hexec hi ?_ fun x => x.setS_stepping _ _).mono fun t ⟨hcore, ht⟩ =>
      ⟨hcore, OnlyScalar.of_bare (Tile.issued_bare _ _ _) ht, ?_⟩
  · dsimp only
    refine State.unitOp_pass (by simpa using hu) ?_ ?_
    · simp [hisle, tOk_zero, accOk_of_tile hc, firstExc_none_cons]
    · have hshape : (0 : BitVec 4).getLsbD 0 = false := rfl
      simp only [hisle, hfp', htm', hshape, hwords, Bool.false_eq_true, if_false, if_true]
      rw [if_neg]
      · rfl
      · cases (redInt op _).2 <;> simp
  · rw [Tile.sreg_of_bare ht]
    refine (Tile.sreg_setS _ _ _ _).trans ?_
    split <;> simp

theorem gives_reduce_rows (hexec : exec i s = s.reduce u op acc 0 0 0 1 dst) :
    Gives i s fun t => OnlyCore s t (coreOf u) ∧
      OnlyLanes (s.tile (coreOf u)) (t.tile (coreOf u)) dst.toNat ⟨unitV, [], [], [rV dst.toNat], none⟩ ∧
      ∀ k, k < 64 → (t.tile (coreOf u)).vlane dst.toNat k = (redInt op ((s.tile (coreOf u)).accWords acc.toNat (accRow k))).1 := by
  have htile := s.tile_issued (coreOf u) false
  have hfp' : ((s.issued (coreOf u) false).tile (coreOf u)).accIsFp acc.toNat = false := by rw [htile, Tile.issued_accIsFp, hfp]
  have htm' : ((s.issued (coreOf u) false).tile (coreOf u)).tmode = 0 := by rw [htile, Tile.issued_tmode, htm]
  have hwords (l : List (Nat × Nat)) : (l.map fun e => ((s.issued (coreOf u) false).tile (coreOf u)).accEl acc.toNat e.1 e.2) =
      (s.tile (coreOf u)).accWords acc.toNat l := by
    rw [htile]
    simp only [Tile.issued_accEl, Tile.accWords]
  have hisle : (coreOf u == isleCore) = false := beq_false_of_ne hc
  let res := fun k => redInt op ((s.tile (coreOf u)).accWords acc.toNat (accRow k))
  have hlanes (x : Tile) := Tile.foldl_setLane dst.toNat (fun k => (res k).1) (List.range 64) (fun _ => List.mem_range.1) x
  refine (gives_queued (g := fun x => (List.range 64).foldl (fun x k => x.setLane dst.toNat k (res k).1) x)
    (op := ⟨unitV, [], [], [rV dst.toNat], none⟩) hexec hi ?_ fun x => ?_).mono fun t ⟨hcore, ht⟩ =>
      ⟨hcore, OnlyLanes.of_bare (Tile.issued_bare _ _ _) ht (hlanes ((s.tile (coreOf u)).issued (coreOf u) false)).1 fun k j hk hj => ?_, fun k hk => ?_⟩
  · dsimp only
    refine State.unitOp_pass (by simpa using hu) ?_ ?_
    · simp [hisle, tOk_zero, accOk_of_tile hc, firstExc_none_cons]
    · have hshape : (0 : BitVec 4).getLsbD 0 = false := rfl
      have haxis : ((1 : BitVec 2) = 0) = False := by simp
      simp only [hisle, hfp', htm', hshape, haxis, hwords, Bool.false_eq_true, if_false, if_true]
      rw [takeWhile_all]
      · simp only [List.drop_length, List.foldl_map]
        rfl
      · intro r _
        cases r.2.2 <;> simp
  · exact Tile.foldl_setLane_stepping _ _ _ x
  · exact ((hlanes ((s.tile (coreOf u)).issued (coreOf u) false)).2 k j hj).trans (if_neg fun h => hk h.1)
  · rw [Tile.vlane_of_bare ht, Tile.queued_vlane]
    exact ((hlanes ((s.tile (coreOf u)).issued (coreOf u) false)).2 dst.toNat k hk).trans (if_pos ⟨rfl, List.mem_range.2 hk⟩)

end

/-- A fold that picks one of two by a preorder picks one that all are related to. -/
theorem foldl_pick {α : Type} {r : α → α → Prop} {f : α → α → α} (hrefl : ∀ a, r a a) (htrans : ∀ a b c, r a b → r b c → r a c)
    (hf : ∀ a b, (f a b = a ∨ f a b = b) ∧ r a (f a b) ∧ r b (f a b)) (l : List α) : ∀ m,
    l.foldl f m ∈ m :: l ∧ ∀ v ∈ m :: l, r v (l.foldl f m) := by
  induction l with
  | nil => exact fun m => ⟨List.mem_singleton.2 rfl, fun v hv => List.mem_singleton.1 hv ▸ hrefl _⟩
  | cons w l ih =>
    intro m
    obtain ⟨hpick, hm, hw⟩ := hf m w
    obtain ⟨hmem, hle⟩ := ih (f m w)
    have hfirst := hle (f m w) List.mem_cons_self
    refine ⟨?_, fun v hv => ?_⟩
    · rcases List.mem_cons.1 hmem with h | h
      · rcases hpick with hp | hp
        · exact List.mem_cons.2 (.inl (h.trans hp))
        · exact List.mem_cons_of_mem _ (List.mem_cons.2 (.inl (h.trans hp)))
      · exact List.mem_cons_of_mem _ (List.mem_cons_of_mem _ h)
    · rcases List.mem_cons.1 hv with rfl | hv
      · exact htrans _ _ _ hm hfirst
      · rcases List.mem_cons.1 hv with rfl | hv
        · exact htrans _ _ _ hw hfirst
        · exact hle v (List.mem_cons_of_mem _ hv)

theorem redInt_sum (l : List Word) : (redInt .sum l).1 = BitVec.ofInt 32 (l.map BitVec.toInt).sum := by
  simp only [redInt, List.sum_eq_foldl, List.foldl_map]

theorem redInt_max (l : List Word) (h : l ≠ []) :
    (redInt .max l).1.toInt ∈ l.map BitVec.toInt ∧ ∀ v ∈ l.map BitVec.toInt, v ≤ (redInt .max l).1.toInt := by
  obtain ⟨m, l, rfl⟩ := List.exists_cons_of_ne_nil h
  obtain ⟨hmem, hle⟩ := foldl_pick (r := fun a b : Word => a.toInt ≤ b.toInt) (f := fun m w => if m.slt w then w else m)
    (fun _ => le_refl _) (fun _ _ _ => le_trans) (fun a b => by
      rw [BitVec.slt_eq_decide]
      by_cases hab : a.toInt < b.toInt
      · simp [hab, hab.le]
      · simp [hab, not_lt.1 hab]) l m
  exact ⟨List.mem_map_of_mem hmem, List.forall_mem_map.2 hle⟩

theorem redInt_min (l : List Word) (h : l ≠ []) :
    (redInt .min l).1.toInt ∈ l.map BitVec.toInt ∧ ∀ v ∈ l.map BitVec.toInt, (redInt .min l).1.toInt ≤ v := by
  obtain ⟨m, l, rfl⟩ := List.exists_cons_of_ne_nil h
  obtain ⟨hmem, hle⟩ := foldl_pick (r := fun a b : Word => b.toInt ≤ a.toInt) (f := fun m w => if w.slt m then w else m)
    (fun _ => le_refl _) (fun _ _ _ h g => le_trans g h) (fun a b => by
      rw [BitVec.slt_eq_decide]
      by_cases hab : b.toInt < a.toInt
      · simp [hab, hab.le]
      · simp [hab, not_lt.1 hab]) l m
  exact ⟨List.mem_map_of_mem hmem, List.forall_mem_map.2 hle⟩

theorem redInt_absmax (l : List Word) (h : l ≠ []) :
    ∃ v ∈ l.map BitVec.toInt, (∀ z ∈ l.map BitVec.toInt, z.natAbs ≤ v.natAbs) ∧
      (redInt .absmax l).1.toNat = min (2 ^ 31 - 1) v.natAbs := by
  obtain ⟨hmem, hle⟩ := foldl_pick (r := fun a b : Nat => a ≤ b) (f := max) le_refl (fun _ _ _ => le_trans)
    (fun a b => ⟨max_choice a b, le_max_left a b, le_max_right a b⟩) (l.map fun w => w.toInt.natAbs) 0
  rw [List.foldl_map] at hmem hle
  have hval : (redInt .absmax l).1.toNat = min (2 ^ 31 - 1) (l.foldl (fun n w => max n w.toInt.natAbs) 0) := by
    rw [redInt, BitVec.toNat_ofNat]
    exact Nat.mod_eq_of_lt (by omega)
  have hall (z : Word) (hz : z ∈ l) : z.toInt.natAbs ≤ l.foldl (fun n w => max n w.toInt.natAbs) 0 :=
    hle _ (List.mem_cons_of_mem _ (List.mem_map_of_mem hz))
  suffices hw : ∃ w ∈ l, w.toInt.natAbs = l.foldl (fun n w => max n w.toInt.natAbs) 0 by
    obtain ⟨w, hw, heq⟩ := hw
    refine ⟨w.toInt, List.mem_map_of_mem hw, List.forall_mem_map.2 fun z hz => ?_, by rw [hval, heq]⟩
    rw [heq]
    exact hall z hz
  rcases List.mem_cons.1 hmem with h0 | hmem
  · obtain ⟨w, l, rfl⟩ := List.exists_cons_of_ne_nil h
    have := hall w List.mem_cons_self
    exact ⟨w, List.mem_cons_self, by omega⟩
  · obtain ⟨w, hw, heq⟩ := List.mem_map.1 hmem
    exact ⟨w, hw, heq⟩

/-- Settles O17. -/
theorem accumulatorReductions : Obligations.AccumulatorReductions := by
  intro s u acc dst hc hi hu c x k el row all top low mag sum op whole hfp htm
  have hrow (i : Nat) : row i = (x.accWords k (accRow i)).map BitVec.toInt := by
    simp only [row, el, Tile.accWords, accRow, List.map_map]
    rfl
  have hall : all = (x.accWords k accAll).map BitVec.toInt := by
    simp only [all, hrow, Tile.accWords, accAll, accRow, List.map_flatten, List.map_map]
    rfl
  have holds {m : BitVec 7 → BitVec 3 → BitVec 4 → BitVec 4 → BitVec 4 → BitVec 2 → BitVec 5 → Instr} (rop : RedOp)
      {p : List Int → Word → Prop} (hexec : ∀ axis, exec (m u acc 0 0 0 axis dst) s = s.reduce u rop acc 0 0 0 axis dst)
      (hp : ∀ l ≠ [], p (l.map BitVec.toInt) (redInt rop l).1) : whole m p := by
    refine ⟨fun hd => (gives_reduce_all hc hi hu hfp htm (hexec 0)).mono fun t ⟨hcore, honly, hv⟩ => ⟨hcore, honly, ?_⟩,
      (gives_reduce_rows hc hi hu hfp htm (hexec 1)).mono fun t ⟨hcore, honly, hv⟩ => ⟨hcore, honly, fun i hi => ?_⟩⟩
    · rw [show (t.tile c).sreg dst.toNat = _ from hv, if_neg (by simpa [← BitVec.toNat_inj] using hd), hall]
      exact hp _ (by simpa [Tile.accWords, accAll] using ⟨0, by decide⟩)
    · rw [show (t.tile c).vlane dst.toNat i = _ from hv i hi, hrow]
      exact hp _ (by simp [Tile.accWords, accRow])
  exact ⟨holds .sum (fun _ => rfl) fun l _ => redInt_sum l, holds .max (fun _ => rfl) redInt_max,
    holds .min (fun _ => rfl) redInt_min, holds .absmax (fun _ => rfl) redInt_absmax⟩

end Sys2Proof.Machine

namespace Sys2Proof.Machine

/-! ## The matrix unit (R359-R367) -/

section
variable {i : Instr} {s t1 : State} {u : BitVec 7} {fx : State → Fx} {op : UnitOp}

/-- A unit instruction that leaves state `t1`: its operation enters the unit's queue. -/
theorem gives_unit (hexec : exec i s = .next (s.issue (coreOf u) false fx)) (hi : s.canIssue (coreOf u) false = true)
    (hfx : fx (s.issued (coreOf u) false) = .done (t1.updTile (coreOf u) fun x => x.queued op))
    (hst : (t1.tile (coreOf u)).stepping = false) :
    Gives i s fun t => (t.tile (coreOf u)).bare = ((t1.tile (coreOf u)).queued op).bare := by
  refine gives_done hexec hi hfx (by rw [State.tile_updTile_self]; exact hst) ?_
  rw [State.tile_updTile_self, Tile.closeLoops_bare, State.tile_updTile_self]

end

/-- A unit's access over errors that the store corrects goes on, the island's over any (R288). -/
theorem State.exists_unitEcc_any {s : State} {u : BitVec 7} {rs : List (Nat × Nat)} {hits : List TileHit}
    (h : eccMild rs hits = true) : ∃ t, (∀ fx, s.unitEcc (coreOf u) rs hits fx = fx t) ∧ Recorded s t := by
  by_cases hc : coreOf u = isleCore
  · refine ⟨s, fun fx => ?_, Recorded.refl s⟩
    unfold State.unitEcc State.readEcc
    rw [hc]
    rfl
  · obtain ⟨t, hfx, hrec, -⟩ := State.exists_unitEcc (s := s) (coreOf_lt hc) h
    exact ⟨t, hfx, hrec⟩

theorem State.elemNum_congr {s t : State} {c : Nat} (h : ∀ a, t.storeByte c a = s.storeByte c a) (d : Desc) (i0 i1 i2 i3 : Nat) :
    t.elemNum c d i0 i1 i2 i3 = s.elemNum c d i0 i1 i2 i3 := by
  simp only [State.elemNum, State.elemCode, State.scaleCode, h]

theorem State.storeByte_updTile (s : State) (c : Nat) (f : Tile → Tile) (h : ∀ a, (f (s.tile c)).rd a = (s.tile c).rd a) (a : Nat) :
    (s.updTile c f).storeByte c a = s.storeByte c a := by
  unfold State.storeByte
  split
  · rfl
  · rw [State.tile_updTile_self]
    exact h a

theorem State.storeByte_issued (s : State) (c : Nat) (ext : Bool) (a : Nat) :
    (s.issued c ext).storeByte c a = s.storeByte c a := by
  unfold State.issued
  split
  · rfl
  · exact s.storeByte_updTile c _ (fun a => Tile.rd_of_bare ((s.tile c).issued_bare c ext) a) a

theorem Recorded.storeByte {s t : State} (h : Recorded s t) (c a : Nat) : t.storeByte c a = s.storeByte c a := by
  obtain ⟨⟨_, _, _, rfl⟩, -⟩ := h
  rfl

theorem Tile.foldl_setAccs (k : Nat) (f : Nat → Nat → Word) (l : List (Nat × Nat)) (hl : ∀ e ∈ l, e.1 < 64 ∧ e.2 < 64) : ∀ x : Tile,
    (∃ a, l.foldl (fun x e => x.setAcc k e.1 e.2 (f e.1 e.2)) x = { x with acc := a }) ∧
    ∀ j r i, r < 64 → i < 64 → (l.foldl (fun x e => x.setAcc k e.1 e.2 (f e.1 e.2)) x).accEl j r i =
      if j = k ∧ (r, i) ∈ l then f r i else x.accEl j r i := by
  induction l with
  | nil => exact fun x => ⟨⟨x.acc, rfl⟩, by simp⟩
  | cons p l ih =>
    intro x
    obtain ⟨⟨a, ha⟩, hel⟩ := ih (fun i hi => hl i (List.mem_cons_of_mem _ hi)) (x.setAcc k p.1 p.2 (f p.1 p.2))
    refine ⟨⟨a, ha.trans rfl⟩, fun j r i hr hi => (hel j r i hr hi).trans ?_⟩
    obtain ⟨hp1, hp2⟩ := hl p List.mem_cons_self
    have hset : (x.setAcc k p.1 p.2 (f p.1 p.2)).accEl j r i = if j = k ∧ (r, i) = p then f r i else x.accEl j r i := by
      have hkey : 4096 * j + 64 * r + i = 4096 * k + 64 * p.1 + p.2 ↔ j = k ∧ r = p.1 ∧ i = p.2 := by omega
      simp only [Tile.accEl, Tile.setAcc, Tab.get_set, hkey, Prod.ext_iff]
      split
      · next h => rw [h.2.1, h.2.2]
      · rfl
    rw [hset]
    simp only [List.mem_cons]
    by_cases hj : j = k
    · by_cases hm : (r, i) ∈ l <;> by_cases hp : (r, i) = p <;> simp [hj, hm, hp]
    · simp [hj]

/-- The places of a region of an accumulator. -/
def accRegion (m n : Nat) : List (Nat × Nat) := ((List.range m).map fun r => (List.range n).map fun q => (r, q)).flatten

theorem mem_accRegion {m n : Nat} {e : Nat × Nat} : e ∈ accRegion m n ↔ e.1 < m ∧ e.2 < n := by
  obtain ⟨r, q⟩ := e
  simp [accRegion]

theorem accMap_eq {α : Type} (f : Nat → Nat → α) (m n : Nat) :
    ((List.range m).map fun r => (List.range n).map fun q => (r, q, f r q)).flatten =
      (accRegion m n).map fun e => (e.1, e.2, f e.1 e.2) := by
  simp only [accRegion, List.map_flatten, List.map_map, Function.comp_def]

/-- The conditions under which an integer MMA meets no exception. -/
structure MmaClean (s : State) (c : Nat) (a b : Desc) : Prop where
  scaleA : a.bscale = false
  scaleB : b.bscale = false
  rowsA : a.d1 ≤ 64
  rowsB : b.d1 ≤ 64
  depth : a.d0 ≤ 64
  trap : (s.tile c).trapUnwritten = false
  mode : (s.tile c).tmode = 0

/-- An element of the product of two operands. -/
def State.dot (s : State) (c : Nat) (a b : Desc) (m n : Nat) : Int :=
  ((List.range a.d0).map fun i => (s.elemNum c a i m 0 0).at_ 0 * (s.elemNum c b i n 0 0).at_ 0).sum

/-- A native step of an integer MMA on the whole depth. -/
theorem State.mmaSteps_int {s : State} {c : Nat} {a b : Desc} (k : Nat) (neg : Bool) (h : MmaClean s c a b) :
    ∃ t, s.mmaSteps c k a b false neg 0 ((a.d0 + 63) / 64) = (t, none) ∧
      (∃ acc, t.tile c = { s.tile c with acc := acc }) ∧
      ∀ j r q, r < 64 → q < 64 → (t.tile c).accEl j r q = if j = k ∧ r < a.d1 ∧ q < b.d1 then
        BitVec.ofInt 32 (((s.tile c).accEl k r q).toInt + if neg then -(s.dot c a b r q) else s.dot c a b r q)
        else (s.tile c).accEl j r q := by
  by_cases hd : a.d0 = 0
  · refine ⟨s, by rw [hd]; rfl, ⟨_, rfl⟩, fun j r q _ _ => ?_⟩
    have hdot : s.dot c a b r q = 0 := by simp [State.dot, hd]
    split
    · next h => simp [hdot, h.1]
    · rfl
  have hn : (a.d0 + 63) / 64 = 1 := by have := h.depth; omega
  have hmin : min 64 (a.d0 - 64 * 0) = a.d0 := by have := h.depth; omega
  let f := fun r q => (mmaElem false neg (fun i => s.elemNum c a i r 0 0) (fun i => s.elemNum c b i q 0 0) (64 * 0) a.d0
    ((s.tile c).accEl k r q)).1
  obtain ⟨hacc, hel⟩ := Tile.foldl_setAccs k f (accRegion a.d1 b.d1) (fun e he => by
    have := mem_accRegion.1 he
    have := h.rowsA
    have := h.rowsB
    omega) (s.tile c)
  refine ⟨s.updTile c fun x => (accRegion a.d1 b.d1).foldl (fun x e => x.setAcc k e.1 e.2 (f e.1 e.2)) x, ?_, ?_, ?_⟩
  · rw [hn]
    have hA : s.badScale c a 0 = false := by rw [State.badScale, h.scaleA]; rfl
    have hB : s.badScale c b 0 = false := by rw [State.badScale, h.scaleB]; rfl
    have hmode (n : Nat) : (s.tile c).tmode.getLsbD n = false := by rw [h.mode]; simp
    unfold State.mmaSteps
    simp only [hA, hB, hmode, h.trap, hmin, Bool.or_false, Bool.not_false, or_true, if_true, Bool.false_and, excIf_false,
      List.head?_nil, Option.map_none, List.find?_eq_none.2 fun _ _ => Bool.false_ne_true, firstExc_none_cons]
    rw [firstExc_nil]
    simp only [State.mmaSteps]
    rw [accMap_eq (fun r q => mmaElem false neg (fun i => s.elemNum c a i r 0 0) (fun i => s.elemNum c b i q 0 0) (64 * 0) a.d0
      ((s.tile c).accEl k r q))]
    simp only [List.foldl_map]
    rfl
  · rw [State.tile_updTile_self]
    exact hacc
  · intro j r q hr hq
    rw [State.tile_updTile_self]
    refine (hel j r q hr hq).trans ?_
    simp only [mem_accRegion]
    have hf : f r q = BitVec.ofInt 32 (((s.tile c).accEl k r q).toInt + if neg then -(s.dot c a b r q) else s.dot c a b r q) := by
      simp only [f, mmaElem, State.dot, Bool.false_eq_true, if_false, Nat.mul_zero, Nat.zero_add, List.sum_eq_foldl, List.foldl_map]
    rw [hf]

theorem State.mmaSteps_zero {s : State} {c : Nat} {a b : Desc} (k : Nat) (zero neg : Bool) (h : MmaClean s c a b)
    (hfp : zero = false → (s.tile c).accIsFp k = false) :
    ∃ t, (if zero then s.updTile c fun t => { t.zeroAcc k a.d1 b.d1 with accFp := t.accFp.set k false } else s).mmaSteps c k a b
        false neg 0 ((a.d0 + 63) / 64) = (t, none) ∧
      (∃ acc fps, t.tile c = { s.tile c with acc := acc, accFp := fps }) ∧ (t.tile c).accIsFp k = false ∧
      ∀ j r q, r < 64 → q < 64 → (t.tile c).accEl j r q = if j = k ∧ r < a.d1 ∧ q < b.d1 then
        BitVec.ofInt 32 ((if zero then 0 else ((s.tile c).accEl k r q).toInt) +
          if neg then -(s.dot c a b r q) else s.dot c a b r q)
        else (s.tile c).accEl j r q := by
  cases zero with
  | false =>
    obtain ⟨t, hrun, ⟨acc, hacc⟩, hel⟩ := State.mmaSteps_int k neg h
    refine ⟨t, hrun, ⟨acc, _, hacc⟩, ?_, hel⟩
    rw [hacc]
    exact hfp rfl
  | true =>
    let s0 := s.updTile c fun t => { t.zeroAcc k a.d1 b.d1 with accFp := t.accFp.set k false }
    have htile : s0.tile c = { (s.tile c).zeroAcc k a.d1 b.d1 with accFp := (s.tile c).accFp.set k false } := s.tile_updTile_self c _
    obtain ⟨⟨acc0, hz⟩, hzel⟩ := Tile.foldl_setAccs k (fun _ _ => 0) (accRegion a.d1 b.d1) (fun e he => by
      have := mem_accRegion.1 he
      have := h.rowsA
      have := h.rowsB
      omega) (s.tile c)
    have htile0 : s0.tile c = { s.tile c with acc := acc0, accFp := (s.tile c).accFp.set k false } := htile.trans (by
      rw [show (s.tile c).zeroAcc k a.d1 b.d1 = _ from hz])
    have hel0 (j r q : Nat) (hr : r < 64) (hq : q < 64) : (s0.tile c).accEl j r q =
        if j = k ∧ r < a.d1 ∧ q < b.d1 then 0 else (s.tile c).accEl j r q := by
      rw [htile]
      refine (hzel j r q hr hq).trans ?_
      simp only [mem_accRegion]
    have hdot (r q : Nat) : s0.dot c a b r q = s.dot c a b r q := by
      have hbyte (a' : Nat) : s0.storeByte c a' = s.storeByte c a' := s.storeByte_updTile c _ (fun b' => by
        rw [show (s.tile c).zeroAcc k a.d1 b.d1 = _ from hz]
        rfl) a'
      simp only [State.dot, State.elemNum_congr hbyte]
    obtain ⟨t, hrun, ⟨acc, hacc⟩, hel⟩ := State.mmaSteps_int (s := s0) k neg
      ⟨h.scaleA, h.scaleB, h.rowsA, h.rowsB, h.depth, by rw [htile0]; exact h.trap, by rw [htile0]; exact h.mode⟩
    refine ⟨t, hrun, ⟨acc, _, hacc.trans (by rw [htile0])⟩, ?_, fun j r q hr hq => ?_⟩
    · rw [hacc, htile0]
      simp [Tile.accIsFp, Tab.get_set]
    · rw [hel j r q hr hq, hel0 j r q hr hq, hel0 k r q hr hq, hdot]
      split
      · next hin => simp [hin]
      · rfl

theorem Tile.issued_trapUnwritten (x : Tile) (c : Nat) (ext : Bool) : (x.issued c ext).trapUnwritten = x.trapUnwritten := by
  rw [Tile.issued_only_fetch]

theorem mmaShape_rows {c : Nat} {a b : Desc} (h : mmaShapeBad c a b = false) : a.d1 ≤ 64 ∧ b.d1 ≤ 64 := by
  simp only [mmaShapeBad, Bool.or_eq_false_iff, decide_eq_false_iff_not] at h
  omega

theorem State.countRead_none (s : State) (c : Nat) (ls : List Nat) :
    ∃ t k, s.countRead c ls none = (t, none) ∧ t.tile c = { s.tile c with unwritten := k } := by
  unfold State.countRead
  split
  · exact ⟨s, _, rfl, rfl⟩
  · exact ⟨_, _, rfl, s.countUnwritten_tile c _⟩

/-- Settles O15. -/
theorem integerMatrixMultiply : Obligations.IntegerMatrixMultiply := by
  intro s u acc ta tb zero neg a b hits hi hu c x k ha hb hta htb hk hshape hpair hzero hsa hsb hd hpa hpb hia hib htrap htm hmild dot old
  have htile : (s.issued c false).tile c = x.issued c false := s.tile_issued c false
  have hva : ((s.issued c false).tile c).treg ta.toNat = x.treg ta.toNat := by rw [htile, Tile.issued_treg]
  have hvb : ((s.issued c false).tile c).treg tb.toNat = x.treg tb.toNat := by rw [htile, Tile.issued_treg]
  have hfpi : ((s.issued c false).tile c).accIsFp k = x.accIsFp k := by rw [htile, Tile.issued_accIsFp]
  have hun : ((s.issued c false).tile c).units = [] := by rw [htile, Tile.issued_units, hu]
  obtain ⟨hra, hrb⟩ := mmaShape_rows hshape
  obtain ⟨t1, hecc, hrec⟩ := State.exists_unitEcc_any (u := u) (s := s.issued c false) hmild
  have ht1 : t1.tile c = x.issued c false := hrec.issued_tile
  obtain ⟨t2, hrun, ⟨accs, fps, hacc⟩, hfp, hel⟩ := State.mmaSteps_zero (s := t1) (c := c) acc.toNat zero neg ⟨hsa, hsb, hra, hrb, hd,
    by rw [ht1, Tile.issued_trapUnwritten]; exact htrap, by rw [ht1, Tile.issued_tmode]; exact htm⟩ (fun h => by
      rw [ht1, Tile.issued_accIsFp]
      exact hzero h)
  obtain ⟨t3, n, hcount, ht3⟩ := t2.countRead_none c ((t2.tile c).unwrittenIn (a.ranges ++ b.ranges))
  refine (gives_unit (i := .mma u acc ta tb 0 zero neg 0 hits) (t1 := t3) (op := ⟨unitM, a.ranges ++ b.ranges, [], [rAcc k], none⟩)
    rfl hi ?_ ?_).mono fun t ht => ⟨?_, ?_, ?_, ?_⟩
  · have hes (zero : Bool) (h : zero = false → x.accIsFp k = false) : firstExc [excIf ((0 : BitVec 4) != 0 || (0 : BitVec 9) != 0 ||
        !(tOk c ta.toNat) || !(tOk c tb.toNat) || !(accOk c k)) excEncoding, excIf (mmaShapeBad c a b) excOperand,
        excIf (!zero && x.accIsFp k != false) excAccType, a.place ta.toNat, b.place tb.toNat, isleRange c a false,
        isleRange c b false] = none := by
      rw [hta, htb, hk, hshape, hpa, hpb, hia, hib]
      cases zero with
      | false => rw [h rfl]; rfl
      | true => rfl
    have hlast : (([] : List UnitOp).filter fun (o : UnitOp) => o.unit == unitM).getLast? = none := rfl
    simp only [show coreOf u = c from rfl, hva, hvb, ha, hb, hun, hlast, Option.map_none, Option.getD_none, Bool.false_and,
      Bool.false_eq_true, if_false, hpair, Option.getD_some]
    refine State.unitOp_pass hun ?_ ((hecc _).trans ?_)
    · rw [show ((s.issued c false).tile c).accIsFp acc.toNat = x.accIsFp acc.toNat from hfpi]
      exact hes zero hzero
    · rw [hrun]
      exact hcount
  · rw [show coreOf u = c from rfl, ht3, hacc, ht1, ← htile]
    exact s.stepping_issued c false hi
  · have hunits : (t.tile c).bare.units = ((t3.tile c).queued _).bare.units := congrArg Tile.units ht
    refine hunits.trans ?_
    change (t3.tile c).units ++ _ = _
    rw [ht3, hacc, ht1, ← htile, hun]
    rfl
  · have hfps : (t.tile c).bare.accFp = ((t3.tile c).queued _).bare.accFp := congrArg Tile.accFp ht
    refine (congrArg (fun m => Tab.get false m k) hfps).trans ?_
    change (t3.tile c).accIsFp k = false
    rw [ht3]
    exact hfp
  · intro m n hm hn
    have hm64 : m < 64 := by omega
    rw [Tile.accEl_of_bare ht]
    refine (show ((t3.tile c).queued _).accEl k m n = (t2.tile c).accEl k m n by rw [ht3]; rfl).trans ?_
    rw [hel _ _ _ hm64 (by omega), if_pos ⟨rfl, hm, hn⟩, ht1, Tile.issued_accEl]
    have hdot : t1.dot c a b m n = dot m n := by
      have hbyte (p : Nat) : t1.storeByte c p = s.storeByte c p := (hrec.storeByte c p).trans (s.storeByte_issued c false p)
      simp only [State.dot, State.elemNum_congr hbyte, dot]
    rw [hdot]
    congr 1
    cases neg with
    | false => rfl
    | true => exact Int.sub_eq_add_neg.symm
  · intro j m n hj hm hn
    rw [Tile.accEl_of_bare ht]
    refine (show ((t3.tile c).queued _).accEl j m n = (t2.tile c).accEl j m n by rw [ht3]; rfl).trans ?_
    rw [hel _ _ _ hm hn, if_neg fun h => hj h.1, ht1, Tile.issued_accEl]

end Sys2Proof.Machine

namespace Sys2Proof.Machine

/-! ## Conversions (R378-R383, R397-R407) -/

theorem rangesOf_partialWords {rs : List (Nat × Nat)} {p : Nat × Nat} (hp : p ∈ partialWords rs) :
    p.2 = 8 ∧ p.1 % 8 = 0 ∧ ∃ r ∈ rs, meets r p = true := by
  simp only [partialWords, List.mem_filterMap, List.mem_flatMap] at hp
  obtain ⟨⟨w, r⟩, ⟨q, hq, hmem⟩, hsome⟩ := hp
  have hw : w % 8 = 0 ∧ r = q := by
    simp only [List.mem_cons, Prod.mk.injEq, List.not_mem_nil, or_false] at hmem
    rcases hmem with ⟨rfl, rfl⟩ | ⟨rfl, rfl⟩
    · exact ⟨by omega, rfl⟩
    · exact ⟨by omega, rfl⟩
  obtain ⟨hw, rfl⟩ := hw
  dsimp only at hsome
  split at hsome
  · exact nomatch hsome
  · split at hsome
    · next h =>
      obtain rfl := Option.some.inj hsome
      exact ⟨rfl, hw, r, hq, h⟩
    · exact nomatch hsome

/-- Words that a write of ranges reads first meet no error that the ranges do not meet. -/
theorem eccMild_partialWords {rs : List (Nat × Nat)} {hits : List TileHit} (h : eccMild rs hits = true) :
    eccMild (partialWords rs) hits = true := by
  simp only [eccMild, List.all_eq_true, Bool.or_eq_true] at h ⊢
  intro e he
  refine (h e he).imp_right fun hall p hp => ?_
  obtain ⟨h8, hal, r, hr, hm⟩ := rangesOf_partialWords hp
  have hno := hall r hr
  simp only [meets, Bool.not_eq_true', Bool.and_eq_false_iff, decide_eq_false_iff_not, Bool.and_eq_true, decide_eq_true_eq] at hno hm ⊢
  omega

theorem eccMild_append {p q : List (Nat × Nat)} {hits : List TileHit} :
    eccMild (p ++ q) hits = true ↔ eccMild p hits = true ∧ eccMild q hits = true := by
  simp only [eccMild, List.all_eq_true, List.mem_append, Bool.or_eq_true]
  constructor
  · intro h
    exact ⟨fun e he => (h e he).imp_right fun g r hr => g r (.inl hr), fun e he => (h e he).imp_right fun g r hr => g r (.inr hr)⟩
  · rintro ⟨h1, h2⟩ e he
    rcases h1 e he with hb | g1
    · exact .inl hb
    · rcases h2 e he with hb | g2
      · exact .inl hb
      · exact .inr fun r hr => hr.elim (g1 r) (g2 r)

/-- What a conversion's elements change in the record of a tile. -/
def Converts (x y : Tile) : Prop := ∃ store written stoch converted clipped flushed nan, y =
  { x with store := store, written := written, stoch := stoch, converted := converted, clipped := clipped, flushed := flushed, nan := nan }

theorem Converts.refl (x : Tile) : Converts x x := ⟨_, _, _, _, _, _, _, rfl⟩

theorem Converts.trans {x y z : Tile} (h : Converts x y) (g : Converts y z) : Converts x z := by
  obtain ⟨_, _, _, _, _, _, _, rfl⟩ := h
  obtain ⟨_, _, _, _, _, _, _, rfl⟩ := g
  exact ⟨_, _, _, _, _, _, _, rfl⟩

theorem State.putElem_tile {s : State} {c : Nat} (hc : c ≠ isleCore) (d : Desc) (i0 i1 i2 i3 code : Nat) :
    ∃ n v, (s.putElem c d i0 i1 i2 i3 code).tile c = (s.tile c).wrLe (d.addr i0 i1 i2 i3) n v ∧
      (d.fmt.bits = 8 → n = 1 ∧ v = code) := by
  have hput (n v : Nat) : (s.storeLe c (d.addr i0 i1 i2 i3) n v).tile c = (s.tile c).wrLe (d.addr i0 i1 i2 i3) n v := by
    rw [State.storeLe, State.coreWrite, if_neg hc, State.tile_updTile_self]
  unfold State.putElem
  dsimp only
  split
  · next h4 =>
    refine ⟨_, _, hput _ _, fun h8 => ?_⟩
    rw [Fmt.is4, h8] at h4
    exact nomatch h4
  · exact ⟨_, _, hput _ _, fun h8 => ⟨by rw [h8], rfl⟩⟩

theorem Tile.countElem_advance (x : Tile) (e : Elem) (rm : RMode) (n : Nat) :
    Converts x ((x.countElem e).advance rm n) ∧ ((x.countElem e).advance rm n).converted = (x.converted + 1) % 2 ^ 64 ∧
      ((x.countElem e).advance rm n).store = x.store ∧ ((x.countElem e).advance rm n).written = x.written := by
  unfold Tile.advance Tile.countElem
  split
  · exact ⟨⟨_, _, _, _, _, _, _, rfl⟩, rfl, rfl, rfl⟩
  · exact ⟨⟨_, _, _, _, _, _, _, rfl⟩, rfl, rfl, rfl⟩

/-- An element that is not rescaled meets no exception while no trap is enabled. -/
theorem elemExc_none {src : State} {c : Nat} {v : Cvt} (hv : v.rescale = false) (i0 i1 i2 i3 : Nat) (x : Elem) :
    elemExc (src.cvtIn c v i0 i1 i2 i3) x 0 = none := by
  have hbad : (src.cvtIn c v i0 i1 i2 i3).bad = false := by
    unfold State.cvtIn
    split
    · rfl
    · simp only [hv, Bool.false_eq_true, if_false]
  have htrap : x.trap 0 = none := by simp [Elem.trap]
  rw [elemExc, hbad, htrap]
  rfl

/-- One element converted. -/
theorem State.cvtElem_step {src s : State} {c : Nat} {v : Cvt} (hc : c ≠ isleCore) (hv : v.rescale = false)
    (e i0 i1 i2 i3 : Nat) (r : List (Nat × Nat × Nat × Nat × Nat)) :
    ∃ t, src.cvtElems s c v 0 ((e, i0, i1, i2, i3) :: r) = src.cvtElems t c v 0 r ∧ Converts (s.tile c) (t.tile c) ∧
      (t.tile c).converted = ((s.tile c).converted + 1) % 2 ^ 64 ∧
      (v.dst.fmt.bits = 8 → Memory.wf (s.tile c).store = true → (t.tile c).rd (v.dst.addr i0 i1 i2 i3) =
        BitVec.ofNat 8 (toElem v.dst.fmt v.rm ((s.tile c).laneR e) v.ieee (src.cvtIn c v i0 i1 i2 i3).nanIn
          (src.cvtIn c v i0 i1 i2 i3).post (src.cvtIn c v i0 i1 i2 i3).x).code) := by
  let x := toElem v.dst.fmt v.rm ((s.tile c).laneR e) v.ieee (src.cvtIn c v i0 i1 i2 i3).nanIn
    (src.cvtIn c v i0 i1 i2 i3).post (src.cvtIn c v i0 i1 i2 i3).x
  obtain ⟨n, w, hput, h8⟩ := State.putElem_tile (s := s) hc v.dst i0 i1 i2 i3 x.code
  obtain ⟨m, wr, hw⟩ := (s.tile c).wrLe_only (v.dst.addr i0 i1 i2 i3) n w
  let t := (s.putElem c v.dst i0 i1 i2 i3 x.code).updTile c fun t => (t.countElem x).advance v.rm e
  have htile : t.tile c = (((s.tile c).wrLe (v.dst.addr i0 i1 i2 i3) n w).countElem x).advance v.rm e :=
    (State.tile_updTile_self _ _ _).trans (by rw [hput])
  obtain ⟨hconv, hcnt, hstore, hwritten⟩ := Tile.countElem_advance ((s.tile c).wrLe (v.dst.addr i0 i1 i2 i3) n w) x v.rm e
  refine ⟨t, ?_, ?_, ?_, fun hbits hwf => ?_⟩
  · rw [State.cvtElems]
    dsimp only
    rw [elemExc_none hv]
  · rw [htile]
    exact Converts.trans (hw ▸ ⟨_, _, _, _, _, _, _, rfl⟩) hconv
  · rw [htile, hcnt, hw]
  · obtain ⟨rfl, rfl⟩ := h8 hbits
    have hrd := Tile.rd_wrLe_in hwf (v.dst.addr i0 i1 i2 i3) x.code (n := 1) (j := 0) (by decide)
    rw [Nat.add_zero, Nat.pow_zero, Nat.div_one] at hrd
    rw [← hrd, htile, Tile.rd, Tile.rd, hstore, Tile.isWritten, Tile.isWritten, hwritten]

/-- Elements that are not rescaled convert one after another while no trap is enabled. -/
theorem State.cvtElems_plain {src : State} {c : Nat} {v : Cvt} (hc : c ≠ isleCore) (hv : v.rescale = false)
    (l : List (Nat × Nat × Nat × Nat × Nat)) : ∀ s : State, ∃ t, src.cvtElems s c v 0 l = (t, none) ∧ Converts (s.tile c) (t.tile c) ∧
      (t.tile c).converted % 2 ^ 64 = ((s.tile c).converted + l.length) % 2 ^ 64 ∧
      (l ≠ [] → (t.tile c).converted < 2 ^ 64) := by
  induction l with
  | nil => exact fun s => ⟨s, rfl, Converts.refl _, by simp, fun h => absurd rfl h⟩
  | cons p l ih =>
    intro s
    obtain ⟨e, i0, i1, i2, i3⟩ := p
    obtain ⟨t, hstep, hconv, hcnt, -⟩ := State.cvtElem_step (src := src) (s := s) hc hv e i0 i1 i2 i3 l
    obtain ⟨r, hrun, hconv', hcnt', hlt⟩ := ih t
    refine ⟨r, hstep.trans hrun, hconv.trans hconv', ?_, fun _ => ?_⟩
    · rw [hcnt', hcnt, List.length_cons]
      omega
    · cases l with
      | nil =>
        obtain rfl : t = r := congrArg Prod.fst hrun
        rw [hcnt]
        exact Nat.mod_lt _ (by decide)
      | cons q l => exact hlt (by simp)

theorem Desc.length_elems (d : Desc) : d.elems.length = d.count := by
  simp [Desc.elems, Desc.rows, Desc.count, Function.comp_def]
  ring

theorem descFields_pos {v : BitVec 256} {d : Desc} (h : descFields v = some d) : 0 < d.count := by
  unfold descFields at h
  dsimp only at h
  repeat' split at h
  · exact nomatch h
  · exact nomatch h
  · obtain rfl := Option.some.inj h
    simp [Desc.count]

theorem Desc.elems_one {d : Desc} (h : d.count = 1) : d.elems = [(0, 0, 0, 0, 0)] := by
  unfold Desc.count at h
  obtain ⟨h012, h3⟩ := mul_eq_one.1 h
  obtain ⟨h01, h2⟩ := mul_eq_one.1 h012
  obtain ⟨h0, h1⟩ := mul_eq_one.1 h01
  rw [Desc.elems, Desc.rows, h0, h1, h2, h3]
  rfl

theorem Desc.addr_zero (d : Desc) : d.addr 0 0 0 0 = d.base := by
  simp [Desc.addr, Desc.off0]

theorem State.cvtIn_congr {s t : State} {c : Nat} (hb : ∀ a, t.storeByte c a = s.storeByte c a)
    (hacc : ∀ k i j, (t.tile c).accEl k i j = (s.tile c).accEl k i j) {v : Cvt} (hv : v.rescale = false) (i0 i1 i2 i3 : Nat) :
    t.cvtIn c v i0 i1 i2 i3 = s.cvtIn c v i0 i1 i2 i3 := by
  simp only [State.cvtIn, State.elemNum_congr hb, hacc, hv, Bool.false_eq_true, if_false]

theorem Tile.issued_converted (x : Tile) (c : Nat) (ext : Bool) : (x.issued c ext).converted = x.converted := by
  rw [Tile.issued_only_fetch]

/-- Settles O16. -/
theorem conversionCountsAndStores : Obligations.ConversionCountsAndStores := by
  intro s u acc ta tb rm ieee srcT d e m hits hc hi hu c x hd he hm hs hpd htm htrap hform hmild v i
  have htile : (s.issued c false).tile c = x.issued c false := s.tile_issued c false
  have hva : ((s.issued c false).tile c).treg ta.toNat = x.treg ta.toNat := by rw [htile, Tile.issued_treg]
  have hvb : ((s.issued c false).tile c).treg tb.toNat = x.treg tb.toNat := by rw [htile, Tile.issued_treg]
  have hfpi : ((s.issued c false).tile c).accIsFp acc.toNat = x.accIsFp acc.toNat := by rw [htile, Tile.issued_accIsFp]
  have hun : ((s.issued c false).tile c).units = [] := by rw [htile, Tile.issued_units, hu]
  have htm' : ((s.issued c false).tile c).tmode = 0 := by rw [htile, Tile.issued_tmode, htm]
  have htrap' : ((s.issued c false).tile c).trapUnwritten = false := by rw [htile, Tile.issued_trapUnwritten, htrap]
  have hisle : (c == isleCore) = false := beq_false_of_ne hc
  obtain ⟨hmd, hme⟩ := eccMild_append.1 hmild
  have hreads : eccMild ((if srcT then e.ranges else []) ++ partialWords d.ranges) hits = true := by
    refine eccMild_append.2 ⟨?_, eccMild_partialWords hmd⟩
    split
    · exact hme
    · simp [eccMild]
  obtain ⟨t1, hecc, hrec, -⟩ := State.exists_unitEcc (s := s.issued c false) (coreOf_lt hc) hreads
  have ht1 : t1.tile c = x.issued c false := hrec.issued_tile
  obtain ⟨t2, hrun, hconv, hcnt, hlt⟩ := State.cvtElems_plain (src := t1) (v := v) hc rfl d.elems t1
  obtain ⟨t3, n, hcount, ht3⟩ := t2.countRead_none c (((s.issued c false).tile c).unwrittenIn (if srcT then e.ranges else []))
  refine (gives_unit (i := .cvt u acc ta tb 0 rm ieee false srcT 0 hits) (t1 := t3)
    (op := ⟨unitC, if srcT then e.ranges else [], d.ranges, [], none⟩) rfl hi ?_ ?_).mono fun t ht => ⟨?_, ?_, ?_⟩
  · simp only [show coreOf u = c from rfl, hva, hvb, hd, he]
    refine State.unitOp_pass hun ?_ ?_
    · have hta : tOk c ta.toNat = true := by
        rw [tOk, fileSize, if_neg hc]
        exact decide_eq_true ta.isLt
      have htb : tOk c tb.toNat = true := by
        rw [tOk, fileSize, if_neg hc]
        exact decide_eq_true tb.isLt
      have hir : isleRange c d true = none := by rw [isleRange, hisle]; rfl
      rw [hta, htb, accOk_of_tile hc, hisle, hpd, hir, hm]
      cases srcT with
      | true =>
        obtain ⟨rfl, hpe, h0, h1, h2, h3⟩ := hform
        simp [hpe, h0, h1, h2, h3]
      | false =>
        obtain ⟨rfl, h0, h1, h2, h3⟩ := hform
        simp [Nat.not_lt.2 h0, Nat.not_lt.2 h1, h2, h3]
    · simp only [hisle, htrap', Bool.false_eq_true, if_false, Bool.false_and, hs, hfpi, hm, Option.getD_some, htm']
      refine (hecc _).trans ?_
      rw [show (⟨d, if srcT then some e else none, acc.toNat, x.accIsFp acc.toNat, false, (0 : BitVec 4).toNat, m, ieee⟩ : Cvt) = v
        from rfl, hrun]
      exact hcount
  · rw [show coreOf u = c from rfl, ht3]
    obtain ⟨_, _, _, _, _, _, _, hcv⟩ := hconv
    rw [hcv, ht1, ← htile]
    exact s.stepping_issued c false hi
  · have hunits : (t.tile c).bare.units = ((t3.tile c).queued _).bare.units := congrArg Tile.units ht
    refine hunits.trans ?_
    change (t3.tile c).units ++ _ = _
    obtain ⟨_, _, _, _, _, _, _, hcv⟩ := hconv
    rw [ht3, hcv, ht1, ← htile, hun]
    rfl
  · have hcvt : (t.tile c).bare.converted = ((t3.tile c).queued _).bare.converted := congrArg Tile.converted ht
    refine hcvt.trans ?_
    change (t3.tile c).converted = _
    have hne : d.elems ≠ [] := fun h => by
      have := descFields_pos hd
      rw [← Desc.length_elems, h] at this
      exact nomatch this
    rw [ht3]
    change (t2.tile c).converted = _
    rw [← Nat.mod_eq_of_lt (hlt hne), hcnt, Desc.length_elems, ht1, Tile.issued_converted]
  · intro h1 h8 hwf
    have hwf1 : Memory.wf (t1.tile c).store = true := by
      rw [ht1, Tile.store_of_bare (x.issued_bare c false)]
      exact hwf
    obtain ⟨t4, hstep, -, -, hrd⟩ := State.cvtElem_step (src := t1) (s := t1) (v := v) hc rfl 0 0 0 0 0 []
    have h42 : t4 = t2 := by
      rw [Desc.elems_one h1, hstep] at hrun
      exact congrArg Prod.fst hrun
    have hin : t1.cvtIn c v 0 0 0 0 = i := State.cvtIn_congr
      (fun p => (hrec.storeByte c p).trans (s.storeByte_issued c false p)) (fun k p q => by rw [ht1, Tile.issued_accEl]) rfl 0 0 0 0
    have hlane : (t1.tile c).laneR 0 = x.laneR 0 := by
      rw [ht1, Tile.issued_only_fetch]
      rfl
    rw [Tile.rd_of_bare ht, Tile.queued_rd, ht3]
    refine (show Tile.rd { t2.tile c with unwritten := n } d.base = (t2.tile c).rd d.base from rfl).trans ?_
    rw [← h42, ← Desc.addr_zero d, hrd h8 hwf1, hin, hlane]

end Sys2Proof.Machine

namespace Sys2Proof.Machine

/-! ## The steps of PD10 while a memory part is reopened (R66, R709) -/

/-- PD10 ramps and is late; a memory part's reopening, which has just begun its step 1, waits for PD10's training. -/
def rampWhileReopening : State :=
  let s := State.reset.put Reg.PWR_STOP_STATUS_STEP 1
  { s with gtc := 1000, doms := s.doms.set 10 ⟨.ramping, 0, .active, false, false, 0⟩
           stop := some ⟨3, 0, true, false, false, 1000, false⟩ }

theorem rampWhileReopening_stepTimeout {t : State} (h : exec (.stepTimeout 10) rampWhileReopening = .next t) :
    (t.dom 10).st = .ramping := by
  obtain rfl := Host.Outcome.next.inj h
  rfl

/-- Refutes O24: while a memory part waits for its training, STEP_TIMEOUT of PD10 judges that wait and not the late ramp. -/
theorem not_domainSteps : ¬ Obligations.DomainSteps := by
  intro h
  obtain ⟨-, -, -, -, hlate, -⟩ := h rampWhileReopening 10
  obtain ⟨-, t, ht, hst, -⟩ := hlate rfl rfl rfl (by decide)
  have hramp : (t.dom 10).st = .ramping := rampWhileReopening_stepTimeout ht
  exact absurd (hst.symm.trans hramp) (by decide)

end Sys2Proof.Machine

namespace Sys2Proof.Machine

/-! ## A flight that ends at LEVEL 3 (R79, R632) -/

/-- A flight with every domain settled and both images loaded, at LEVEL 3, before the engine's state follows. -/
def flightAtLevel3 : State :=
  let s := State.reset.put Reg.KPR_STATE_LEVEL 3
  { s with doms := s.doms.set 2 ⟨.opened, 0, .none, false, false, 0⟩
           flight := { s.flight with running := true, kfwLoaded := true, dspmLoaded := true } }

theorem flightAtLevel3_flightReady {t : State} (h : exec .flightReady flightAtLevel3 = .next t) : t.flight.running = true := by
  obtain rfl := Host.Outcome.next.inj h
  rfl

/-- Refutes O26: FLIGHT_READY asks for LEVEL below 3, which an engine state other than ALARMED does not give. -/
theorem not_keeperFlight : ¬ Obligations.KeeperFlight := by
  intro h
  obtain ⟨-, -, -, -, -, hready⟩ := h flightAtLevel3 rfl rfl
  obtain ⟨t, ht, -, hrun, -⟩ := hready (by decide) (by decide) rfl rfl rfl rfl
  rw [flightAtLevel3_flightReady ht] at hrun
  cases hrun

end Sys2Proof.Machine

namespace Sys2Proof.Machine

/-! ## A wake that finds no domain to open (R79, R86) -/

/-- Watch standby at LEVEL 3 with every domain that a resume flight opens in stoppage. -/
def standbyAllStopped : State :=
  let s := (State.reset.put Reg.KPR_STATE_LEVEL 3).put Reg.ENG_STATE_STATE engStandby
  { s with doms := [1, 2, 3, 4, 5, 6, 7, 10].foldl (fun t d => t.set d { Dom.reset with st := .stoppage }) s.doms }

theorem standbyAllStopped_wake {t : State} (h : exec (.wake .mgmt 1) standbyAllStopped = .next t) : t.flight.running = false := by
  obtain rfl := Host.Outcome.next.inj h
  rfl

/-- Refutes O27: the resume flight of an engine at LEVEL 3 that has no domain to open ends in the step that starts it. -/
theorem not_watchStandby : ¬ Obligations.WatchStandby := by
  intro h
  obtain ⟨-, -, -, -, -, -, -, hwake, -⟩ := h standbyAllStopped .mgmt 1
  obtain ⟨t, ht, hrun, -⟩ := hwake rfl (by decide) (by decide)
  rw [standbyAllStopped_wake ht] at hrun
  cases hrun

end Sys2Proof.Machine

namespace Sys2Proof.Machine

/-! ## WAKE_IN in watch standby with no domain to open (R79, R131) -/

/-- WAKE_IN has held its level for the debounce time, in watch standby at LEVEL 3 with every domain in stoppage. -/
def wakeInAllStopped : State :=
  let s := standbyAllStopped.put Reg.WAT_WAKE_CTRL_WAKE_IN_EN 1
  { s with gtc := 10000000, pins := { s.pins with wakeIn := true, wakeEdge := some 0, wakeMade := false } }

theorem wakeInAllStopped_wake {t : State} (h : exec (.wakeInWake true) wakeInAllStopped = .next t) : t.flight.running = false := by
  obtain rfl := Host.Outcome.next.inj h
  rfl

/-- Refutes O31: WAKE_IN starts a resume flight, which ends at once where LEVEL is 3 and no domain is left to open. -/
theorem not_islandWakesAndHandoff : ¬ Obligations.IslandWakesAndHandoff := by
  intro h
  obtain ⟨-, -, -, hwake, -⟩ := h wakeInAllStopped 0 rfl
  obtain ⟨-, -, -, hheld⟩ := hwake (by decide) (by decide)
  obtain ⟨⟨t, ht, -, -, -, hrun⟩, -⟩ := hheld 0 rfl rfl rfl (by decide)
  have hflies := (hrun (by decide)).1
  rw [wakeInAllStopped_wake ht] at hflies
  cases hflies

end Sys2Proof.Machine

namespace Sys2Proof.Machine

/-! ## The end of a drain while a loss is still to be reported (R183, R187) -/

/-- Context 0 drains for a reset, nothing of it is left in a queue, and its LOSS_VEC is still due. -/
def resetWithLossDue : State :=
  let s := State.reset
  { s with doms := s.doms.set 3 ⟨.opened, 0, .none, false, false, 0⟩
           ctxs := [(0, { Ctx.reset with st := .drainReset, lossDue := true, lossVec := 7, closeVec := 8 })] }

theorem resetWithLossDue_drainEnd {t : State} (h : exec (.drainEnd 0) resetWithLossDue = .next t) : t.host.events = [7, 8] := by
  obtain rfl := Host.Outcome.next.inj h
  rfl

/-- Refutes O32: where a loss is still to be reported, the end of a reset's drain sends LOSS_VEC before CLOSE_VEC. -/
theorem not_contextCommands : ¬ Obligations.ContextCommands := by
  intro h
  obtain ⟨-, -, -, -, hreset⟩ := h resetWithLossDue 0 0 0 rfl
  obtain ⟨t, ht, -, hevents, -⟩ := hreset rfl rfl
  rw [resetWithLossDue_drainEnd ht] at hevents
  exact absurd hevents (by decide)

end Sys2Proof.Machine

namespace Sys2Proof.Machine

/-! ## Addresses that name one byte of the basin scratch (R432, R470) -/

/-- A write of one line at the first address of the basin's window, to the stop of its slice. -/
def windowWrite : Header :=
  { blankHeader with
    op := 2, dst := 11, src := 30, cid := 0, cpar := false, count := 1, stride := false, poison := false
    addr := BitVec.ofNat 52 basinBase, data := 1 }

theorem windowWrite_data : BitVec.ofNat 8 windowWrite.data.toNat = 1 := by simp [windowWrite]

/-- PD6 is open and partition 0, with context 0, holds the first half mebibyte of the basin scratch. -/
def scratchOfContext0 : State :=
  let s := (State.reset.put (Reg.OBJ_PART_CFG_VALID 0) 1).put (Reg.OBJ_PART_CFG_BASIN_SCRATCH 0) 1
  { s with doms := s.doms.set 6 ⟨.opened, 0, .none, false, false, 0⟩
           ctxs := [(0, { Ctx.reset with st := .opened, pid := 0 })] }

/-- On a part that is not a Yard, the byte 2⁵² addresses beyond the window's start is the window's first byte: both addresses
have the same die and the same offset. -/
theorem State.physByte_basinBase_wrap (s : State) (h : s.yard = false) :
    s.physByte (basinBase + 2 ^ 52) = s.physByte basinBase := by
  have hdie : ∀ a, paDie a = 0 → paDie a = s.ownDie := fun a ha => by rw [ha, State.ownDie, h]; rfl
  have hoffset : paLocal (basinBase + 2 ^ 52) = paLocal basinBase := by decide
  simp only [State.physByte, hdie basinBase (by decide), hdie (basinBase + 2 ^ 52) (by decide), hoffset,
    ne_eq, not_true_eq_false, if_false, le_of_eq (show basinBase = paLocal basinBase by decide), if_true]

theorem execBasinRequest_yard {s t : State} {h : Header} {ecc : EccEnd} (ht : exec (.basinRequest h ecc) s = .next t) :
    t.yard = s.yard := by
  have hfuses := execBasinRequest_fuses? h ecc s
  rw [show execBasinRequest h ecc s = .next t from ht] at hfuses
  rw [State.yard, State.yard, Option.some.inj hfuses]

/-- Refutes O34: a basin stop's write shows 2⁵² addresses further on too, where the window's first byte is named again. -/
theorem not_memoryAndBasinStops : ¬ Obligations.MemoryAndBasinStops := by
  intro h
  obtain ⟨-, hbasin⟩ := h scratchOfContext0 windowWrite
  obtain ⟨-, hserved⟩ := hbasin rfl .clean
  obtain ⟨-, hwrite⟩ := hserved rfl (by decide) rfl rfl (by decide) rfl
  obtain ⟨t, ht, -, hline, hother⟩ := hwrite rfl rfl rfl
  have hout := hother (basinBase + 2 ^ 52) rfl (by decide)
  have hin : t.physByte basinBase = 1 := by
    rw [State.physBytes, leBytes] at hline
    exact (List.cons.inj hline).1.trans windowWrite_data
  rw [t.physByte_basinBase_wrap (execBasinRequest_yard ht), hin] at hout
  exact absurd hout (by decide)

end Sys2Proof.Machine

namespace Sys2Proof.Machine

/-! ## A count of stalls beyond its field (R491) -/

/-- A packet that leaves stop 0 by output 2. -/
def southFlit : Flit := ⟨0, 4, 0, { blankHeader with route := 2, hops := 1, vn := 1 }⟩

/-- The mesh is open, one packet waits at stop 0, and the stalls counted there exceed the field by one. -/
def stallsBeyondField : State :=
  let s := State.reset
  { s with doms := s.doms.set 5 ⟨.opened, 0, .none, false, false, 0⟩
           mesh := { s.mesh with flying := [southFlit] }
           regs := [((Reg.MSH_PROBE_STALLS 0 2).key, 2 ^ 32)] }

theorem stallsBeyondField_routerHeader {t : State}
    (h : exec (.routerHeader 0 2 .clean .clean 0) stallsBeyondField = .next t) :
    t.get (Reg.MSH_PROBE_STALLS 0 2) = 2 ^ 32 := by
  obtain rfl := Host.Outcome.next.inj h
  rfl

/-- Refutes O40: a grant without stalls leaves the count of stalls as it is, also where it exceeds its field. -/
theorem not_meshTransport : ¬ Obligations.MeshTransport := by
  intro h
  obtain ⟨-, hrouter, -⟩ := h stallsBeyondField rfl
  obtain ⟨-, hgrant, -⟩ := hrouter 0 2 0 .clean
  obtain ⟨t, ht, hstalls⟩ := hgrant southFlit rfl rfl
  exact absurd ((stallsBeyondField_routerHeader ht).symm.trans hstalls) (by decide)

end Sys2Proof.Machine

namespace Sys2Proof.Machine

/-! ## A value of MGMT_STUCK beyond its field (R752) -/

/-- MGMT_STUCK holds 2, which is not set, and two bus clears of the last second have been counted. -/
def mgmtStuckBeyondField : State :=
  let s := State.reset
  { s with regs := [(Reg.PWR_PIN_STATUS_MGMT_STUCK.key, 2)], pins := { s.pins with clears := [0, 0] } }

theorem mgmtStuckBeyondField_mgmtBusClear {t : State}
    (h : exec (.mgmtBusClear false true) mgmtStuckBeyondField = .next t) :
    t.get Reg.PWR_PIN_STATUS_MGMT_STUCK = 2 := by
  obtain rfl := Host.Outcome.next.inj h
  rfl

/-- Refutes O49: a bus clear that frees the bus leaves MGMT_STUCK as it is, also where its value is neither 0 nor 1. -/
theorem not_stoppagesPinsHeat : ¬ Obligations.StoppagesPinsHeat := by
  intro h
  obtain ⟨-, -, -, hbus, -⟩ := h mgmtStuckBeyondField
  obtain ⟨-, -, hthird⟩ := hbus true rfl
  obtain ⟨-, t, ht, hfree, -⟩ := hthird rfl (by decide)
  exact absurd ((mgmtStuckBeyondField_mgmtBusClear ht).symm.trans hfree) (by decide)

end Sys2Proof.Machine

namespace Sys2Proof.Machine

/-! ## How a fetched packet starts (R152, R163, R180, R218, R221, R222, R238, R264, R428) -/

theorem exec_live {I : Instr} {s t : State} {d : Nat} {f : State → Out} (hI : exec I s = whenLive d s f) (h : s.domLive d = true)
    (hf : f s = .next t) : exec I s = .next t := hI.trans ((whenLive_open f h).trans hf)

theorem Queue.index_of_pkt {x : Queue} {i : Nat} {p : Pkt} (h : x.pkt i = some p) : p.index = i :=
  by simpa using List.find?_some h

/-- A packet that `updPkt` writes keeps its index, so the queue finds it, or another packet, as before. -/
theorem Queue.pkt_updPkt (x : Queue) (i k : Nat) {f : Pkt → Pkt} (hf : ∀ p, (f p).index = p.index) :
    (x.updPkt i f).pkt k = if k = i then (x.pkt k).map f else x.pkt k := by
  unfold Queue.pkt Queue.updPkt
  induction x.pkts with
  | nil => simp
  | cons p ps ih =>
    simp only [List.map_cons, List.find?_cons]
    by_cases hp : p.index = i
    · by_cases hk : k = i
      · simp [hp, hk, hf]
      · have : (i == k) = false := by simpa using fun h => hk h.symm
        simp [hp, hf, this, ih, hk]
    · by_cases hk : p.index = k
      · simp [hk, hk ▸ hp]
      · have : (p.index == k) = false := by simpa using hk
        simp [hp, this, ih]

theorem State.queue_updPkt (s : State) (q i k : Nat) (f : Pkt → Pkt) :
    (s.updPkt q i f).queue k = if k = q then (s.queue q).updPkt i f else s.queue k := s.queue_setQueue q k _

theorem State.queue_updPkt_ne {s : State} {q k : Nat} (i : Nat) (f : Pkt → Pkt) (h : k ≠ q) :
    (s.updPkt q i f).queue k = s.queue k := (s.queue_updPkt q i k f).trans (if_neg h)

theorem State.pkt_updPkt {s : State} {q i : Nat} {p : Pkt} {f : Pkt → Pkt} (hp : (s.queue q).pkt i = some p)
    (hf : ∀ p, (f p).index = p.index) : ((s.updPkt q i f).queue q).pkt i = some (f p) := by
  rw [s.queue_updPkt, if_pos rfl, Queue.pkt_updPkt _ _ _ hf, if_pos rfl, hp]
  rfl

theorem State.pkt_updPkt_ne {s : State} {q i k j : Nat} {f : Pkt → Pkt} (h : (k, j) ≠ (q, i))
    (hf : ∀ p, (f p).index = p.index) : ((s.updPkt q i f).queue k).pkt j = (s.queue k).pkt j := by
  rw [s.queue_updPkt]
  split
  · next hk =>
    subst hk
    rw [Queue.pkt_updPkt _ _ _ hf, if_neg fun e => h (by rw [e])]
  · rfl

@[simp] theorem Pkt.finish_index (e : PktEnd) (p : Pkt) : (Pkt.finish e p).index = p.index := by
  unfold Pkt.finish
  split <;> rfl

/-- The packet `p`, fetched at index `i` of the queue `q`, may start (R222). -/
structure State.Fetched (s : State) (q i : Nat) (p : Pkt) : Prop where
  pkt : (s.queue q).pkt i = some p
  st : p.st = .fetched
  ended : p.ended = none
  serial : isSerial p.raw = true → (s.queue q).oldest i = true

variable {s : State} {q i : Nat} {p : Pkt}

theorem State.Fetched.startable (h : s.Fetched q i p) {op : Nat → Bool} (hop : op (opOf p.raw) = true) :
    s.startable q i op = some (p.cid, p) := by
  have hheld : s.heldPkt q i = some (p.cid, p) := by rw [State.heldPkt, h.pkt]; rfl
  rw [State.startable, hheld]
  exact if_pos ⟨h.st, by rw [h.ended]; rfl, hop, h.serial⟩

/-- A packet that ends as it starts leaves the rest of the state as it is. -/
theorem State.Fetched.finished (h : s.Fetched q i p) :
    ((s.started q i (Pkt.finish .ok)).queue q).pkt i = some (Pkt.finish .ok { p with st := .started, startT := s.dspTime }) ∧
      { s.started q i (Pkt.finish .ok) with queues := s.queues } = s ∧
      ∀ k, k ≠ q → (s.started q i (Pkt.finish .ok)).queue k = s.queue k :=
  ⟨State.pkt_updPkt h.pkt fun _ => by rw [Pkt.finish_index], rfl, fun _ hk => State.queue_updPkt_ne _ _ hk⟩

theorem State.Fetched.updated (h : s.Fetched q i p) {f : Pkt → Pkt} (hf : ∀ p, (f p).index = p.index) :
    ((s.updPkt q i f).queue q).pkt i = some (f p) ∧ { s.updPkt q i f with queues := s.queues } = s ∧
      ∀ k, k ≠ q → (s.updPkt q i f).queue k = s.queue k :=
  ⟨State.pkt_updPkt h.pkt hf, rfl, fun _ hk => State.queue_updPkt_ne _ _ hk⟩

/-! ### Data movements -/

/-- A packet stands in the engine `n`'s queue while it is unended and names the engine. -/
def onDma (n : Nat) : Option Pkt → Bool
  | some p => p.ended.isNone && p.dma == some n
  | none => false

/-- A packet moves data while it is started and holds no token. -/
def dmaMoves : Option Pkt → Bool
  | some p => p.st == .started && p.token.isNone
  | none => false

theorem State.dmaQueue_eq (s : State) (n : Nat) :
    s.dmaQueue n = (Tab.get [] s.disp.dma n).filter fun e => onDma n ((s.queue e.1).pkt e.2) := rfl

theorem State.dmaRunning_eq (s : State) (n : Nat) :
    s.dmaRunning n = (s.dmaQueue n).filter fun e => dmaMoves ((s.queue e.1).pkt e.2) := rfl

/-- The state in which a packet has been entered for the engine `n`, before the engine looks at its queue. -/
def State.dmaEntered (s : State) (q i n : Nat) : State :=
  (s.updPkt q i fun p => { p with st := .offered, dma := some n }).setDma n (s.dmaQueue n ++ [(q, i)])

theorem State.toDma_eq (s : State) (q i raw : Nat) :
    s.toDma q i raw = (s.dmaEntered q i (s.dmaFor raw)).dmaStart (s.dmaFor raw) := rfl

theorem State.Fetched.pkt_entered (h : s.Fetched q i p) (n : Nat) :
    ((s.dmaEntered q i n).queue q).pkt i = some { p with st := .offered, dma := some n } :=
  State.pkt_updPkt (f := fun p => { p with st := .offered, dma := some n }) h.pkt fun _ => rfl

theorem State.pkt_entered_ne {e : Nat × Nat} (n : Nat) (he : e ≠ (q, i)) :
    ((s.dmaEntered q i n).queue e.1).pkt e.2 = (s.queue e.1).pkt e.2 :=
  State.pkt_updPkt_ne (s := s) (f := fun p => { p with st := .offered, dma := some n }) he fun _ => rfl

/-- A packet entered for an engine stands behind those that stood there. -/
theorem State.Fetched.dmaQueue_entered (h : s.Fetched q i p) (n : Nat) :
    (s.dmaEntered q i n).dmaQueue n = s.dmaQueue n ++ [(q, i)] := by
  refine (congrArg (List.filter _) (Tab.get_set_self ..)).trans ?_
  refine List.filter_eq_self.mpr fun e he => ?_
  show onDma n (((s.dmaEntered q i n).queue e.1).pkt e.2) = true
  by_cases hq : e = (q, i)
  · rw [hq, h.pkt_entered]
    simp [onDma, h.ended]
  · rw [State.pkt_entered_ne n hq]
    have hmem : e ∈ s.dmaQueue n := (List.mem_append.mp he).resolve_right (by simpa using hq)
    rw [State.dmaQueue_eq] at hmem
    exact (List.mem_filter.mp hmem).2

/-- An engine that moves a packet's data leaves a further one to wait its turn. -/
theorem State.Fetched.toDma_waits (h : s.Fetched q i p) (raw : Nat) (hr : s.dmaRunning (s.dmaFor raw) ≠ []) :
    s.toDma q i raw = s.dmaEntered q i (s.dmaFor raw) := by
  rw [State.toDma_eq]
  generalize s.dmaFor raw = n at hr
  obtain ⟨e, he⟩ := List.exists_mem_of_ne_nil _ hr
  obtain ⟨hmem, hmoves⟩ := List.mem_filter.mp (s.dmaRunning_eq n ▸ he)
  have hq : e ≠ (q, i) := by
    rintro rfl
    simp [h.pkt, dmaMoves, h.st] at hmoves
  have hrun : e ∈ (s.dmaEntered q i n).dmaRunning n := by
    rw [State.dmaRunning_eq, h.dmaQueue_entered]
    refine List.mem_filter.mpr ⟨List.mem_append_left _ hmem, ?_⟩
    rw [State.pkt_entered_ne n hq]
    exact hmoves
  refine if_pos (.inr ?_)
  cases hl : (s.dmaEntered q i n).dmaRunning n with
  | nil => rw [hl] at hrun; cases hrun
  | cons a l => rfl

/-- A free engine with nothing queued starts the packet at once. -/
theorem State.Fetched.toDma_starts (h : s.Fetched q i p) (raw : Nat) (hq : s.dmaQueue (s.dmaFor raw) = [])
    (hs : s.dmaStalled (s.dmaFor raw) = false) :
    s.toDma q i raw = (s.dmaEntered q i (s.dmaFor raw)).started q i id := by
  rw [State.toDma_eq]
  generalize s.dmaFor raw = n at hq hs
  have hone : (s.dmaEntered q i n).dmaQueue n = [(q, i)] := by rw [h.dmaQueue_entered, hq]; rfl
  have hrun : (s.dmaEntered q i n).dmaRunning n = [] := by
    simp [State.dmaRunning_eq, hone, h.pkt_entered, dmaMoves]
  have hst : (s.dmaEntered q i n).dmaStalled n = false := hs
  rw [State.dmaStart, hst, hrun, hone]
  simp [h.pkt_entered]

theorem State.Fetched.gives_toDma (h : s.Fetched q i p) {n : Nat} (hn : s.dmaFor p.raw = n) {I : Instr}
    (hI : exec I s = .next (s.toDma q i p.raw)) :
    (s.dmaQueue n = [] → s.dmaStalled n = false → Gives I s fun t =>
      (t.queue q).pkt i = some { p with st := .started, startT := s.dspTime, dma := some n } ∧ t.dmaQueue n = [(q, i)] ∧
      { t with queues := s.queues, disp := { t.disp with dma := s.disp.dma } } = s) ∧
    (s.dmaRunning n ≠ [] → Gives I s fun t => (t.queue q).pkt i = some { p with st := .offered, dma := some n } ∧
      t.dmaQueue n = s.dmaQueue n ++ [(q, i)] ∧ { t with queues := s.queues, disp := { t.disp with dma := s.disp.dma } } = s) := by
  subst hn
  constructor
  · intro hq hs
    refine ⟨_, hI.trans (congrArg _ (h.toDma_starts _ hq hs)), ?_, ?_, rfl⟩
    · exact State.pkt_updPkt (h.pkt_entered _) fun _ => rfl
    · generalize s.dmaFor p.raw = n at hq
      have htab : Tab.get [] ((s.dmaEntered q i n).started q i id).disp.dma n = [(q, i)] :=
        (Tab.get_set_self ..).trans (by rw [hq]; rfl)
      rw [State.dmaQueue_eq, htab]
      have hpkt : ((((s.dmaEntered q i n).started q i id)).queue q).pkt i = _ :=
        State.pkt_updPkt (h.pkt_entered n) fun _ => rfl
      simp [hpkt, onDma, h.ended]
  · intro hr
    exact ⟨_, hI.trans (congrArg _ (h.toDma_waits _ hr)), h.pkt_entered _, h.dmaQueue_entered _, rfl⟩

/-! ### Waits at the head of a queue -/

theorem qWaits_eq (x : QueueSt) : qWaits x = if x = .active then .waiting else x := by cases x <;> rfl

/-- A packet that waits at the head of its queue: an active queue waits with it, a disabled or halted one stays as it is. -/
def State.waitsAtHead (s : State) (q i : Nat) (w : Waiter) : State :=
  let s := s.updPkt q i fun p => { p with st := .atHead, startT := s.dspTime }
  (s.updQueue q fun x => { x with st := qWaits x.st }).setWaiter q (some w)

theorem State.Fetched.waitsAtHead (h : s.Fetched q i p) (w : Waiter) :
    let t := s.waitsAtHead q i w
    (t.queue q).st = (if (s.queue q).st = .active then .waiting else (s.queue q).st) ∧
    t.waiter q = some w ∧ (t.queue q).pkt i = some { p with st := .atHead, startT := s.dspTime } ∧
    t.mem = s.mem ∧ ∀ k, k ≠ q → t.queue k = s.queue k := by
  have hself : (s.waitsAtHead q i w).queue q = { (s.queue q).updPkt i fun p => { p with st := .atHead, startT := s.dspTime } with
      st := qWaits (s.queue q).st } := by
    refine (State.queue_setQueue _ q q _).trans ?_
    rw [if_pos rfl, State.queue_updPkt, if_pos rfl]
    rfl
  refine ⟨?_, Tab.get_set_self .., ?_, rfl, fun k hk => ?_⟩
  · rw [hself, ← qWaits_eq]
  · rw [hself]
    refine (Queue.pkt_updPkt (s.queue q) i i (f := fun p => { p with st := .atHead, startT := s.dspTime }) fun _ => rfl).trans ?_
    rw [if_pos rfl, h.pkt]
    rfl
  · exact (State.queue_setQueue _ q k _).trans ((if_neg hk).trans (State.queue_updPkt_ne _ _ hk))

/-- A fence word whose state is "not signalled" leaves a waiter as it is. -/
theorem State.evalWaiter_open {t : State} {k word : Nat} (h : word / 2 ^ 62 = 0) : t.evalWaiter k word = t := by
  unfold State.evalWaiter
  rw [h]
  cases t.waiter k <;> rfl

/-- A state without its queues and waiters, on which no translation depends. -/
def State.sansQueues (s : State) : State := { s with queues := [], waiters := [] }

theorem State.physBytes_sansQueues (s : State) (n : Nat) : ∀ pa, s.sansQueues.physBytes pa n = s.physBytes pa n := by
  induction n with
  | zero => exact fun _ => rfl
  | succ n ih => exact fun pa => congrArg (s.physByte pa :: ·) (ih (pa + 1))

theorem State.physLe_sansQueues (s : State) (pa n : Nat) : s.sansQueues.physLe pa n = s.physLe pa n :=
  congrArg leNat (s.physBytes_sansQueues n pa)

@[simp] theorem State.get_sansQueues (s : State) (f : Fld) : s.sansQueues.get f = s.get f := (rfl)

@[simp] theorem State.on_sansQueues (s : State) (f : Fld) : s.sansQueues.on f = s.on f := (rfl)

@[simp] theorem State.ownDie_sansQueues (s : State) : s.sansQueues.ownDie = s.ownDie := (rfl)

@[simp] theorem State.cidPart_sansQueues (s : State) (c : Nat) : s.sansQueues.cidPart c = s.cidPart c := (rfl)

@[simp] theorem State.tagOf_sansQueues (s : State) (pa : Nat) : s.sansQueues.tagOf pa = s.tagOf pa := (rfl)

@[simp] theorem State.carveOwner_sansQueues (s : State) (o : Nat) : s.sansQueues.carveOwner o = s.carveOwner o := (rfl)

@[simp] theorem State.keyAbsent_sansQueues (s : State) (pa : Nat) : s.sansQueues.keyAbsent pa = s.keyAbsent pa := (rfl)

@[simp] theorem State.sealedPart_sansQueues (s : State) (pa : Nat) : s.sansQueues.sealedPart pa = s.sealedPart pa := (rfl)

@[simp] theorem State.ownerOk_sansQueues (s : State) (cid pa : Nat) (r : Bool) : s.sansQueues.ownerOk cid pa r = s.ownerOk cid pa r := by
  simp only [State.ownerOk, State.get_sansQueues, State.on_sansQueues, State.ownDie_sansQueues, State.cidPart_sansQueues,
    State.tagOf_sansQueues, State.carveOwner_sansQueues]

@[simp] theorem State.paCheck_sansQueues (s : State) (cid pa va : Nat) (acc : Access) :
    s.sansQueues.paCheck cid pa va acc = s.paCheck cid pa va acc := by
  have hport : s.sansQueues.diePort = s.diePort := rfl
  have hopen : s.sansQueues.domOpen = s.domOpen := rfl
  have hstop : s.sansQueues.bsStopOf = s.bsStopOf := rfl
  simp only [State.paCheck, State.ownDie_sansQueues, hport, hopen, hstop, State.carveOwner_sansQueues, State.cidPart_sansQueues,
    State.ownerOk_sansQueues, State.keyAbsent_sansQueues, State.sealedPart_sansQueues]

theorem State.walkFrom_sansQueues (s : State) (cid va : Nat) (acc : Access) (levels : List Nat) : ∀ (table : Nat) (hw ua : Bool),
    s.sansQueues.walkFrom cid va acc levels table hw ua = s.walkFrom cid va acc levels table hw ua := by
  induction levels with
  | nil => exact fun _ _ _ => rfl
  | cons lvl rest ih =>
    intro table hw ua
    unfold State.walkFrom
    simp only [ih, State.physLe_sansQueues, State.ownerOk_sansQueues, State.keyAbsent_sansQueues]

theorem State.freshXlat_sansQueues (s : State) (cid va : Nat) (acc : Access) :
    s.sansQueues.freshXlat cid va acc = s.freshXlat cid va acc := by
  have hctx : s.sansQueues.ctx = s.ctx := rfl
  have hseg : s.sansQueues.segOf = s.segOf := rfl
  simp only [State.freshXlat, hctx, hseg, State.walkFrom_sansQueues]
  rfl

theorem State.reach_sansQueues (s : State) (cid va : Nat) (acc : Access) : s.sansQueues.reach cid va acc = s.reach cid va acc := by
  have hctx : s.sansQueues.ctx = s.ctx := rfl
  have hxlt : s.sansQueues.xlt = s.xlt := rfl
  have hyard : s.sansQueues.yard = s.yard := rfl
  simp only [State.reach, State.reachBy, State.xlat, hctx, hxlt, hyard, State.freshXlat_sansQueues, State.paCheck_sansQueues]

theorem State.reach_of_sansQueues {t : State} (h : t.sansQueues = s.sansQueues) (cid va : Nat) (acc : Access) :
    t.reach cid va acc = s.reach cid va acc := by
  rw [← t.reach_sansQueues, h, s.reach_sansQueues]

theorem State.physLe_of_sansQueues {t : State} (h : t.sansQueues = s.sansQueues) (pa n : Nat) : t.physLe pa n = s.physLe pa n := by
  rw [← t.physLe_sansQueues, h, s.physLe_sansQueues]


theorem State.writeVaBy_sansBytes {who cid : Nat} (bs : List Byte) : ∀ {s u : State} {va : Nat},
    s.writeVaBy who cid va bs = .ok u → u.sansBytes = s.sansBytes := by
  induction bs with
  | nil =>
    rintro s u va ⟨⟩
    rfl
  | cons b bs ih =>
    intro s u va h
    unfold State.writeVaBy at h
    cases hr : s.reachBy who cid va .write with
    | err e => rw [hr] at h; cases h
    | ok pa =>
      rw [hr] at h
      cases hw : s.writeVaBy who cid (va + 1) bs with
      | err e => simp [hw] at h
      | ok w =>
        simp only [hw, Xres.ok.injEq] at h
        rw [← h, State.physPut_sansBytes, ih hw]

/-! ### The packets, by operation -/

theorem State.Fetched.gives_started (h : s.Fetched q i p) {I : Instr}
    (hI : exec I s = .next (s.started q i (Pkt.finish .ok))) : Gives I s fun t =>
      (t.queue q).pkt i = some (Pkt.finish .ok { p with st := .started, startT := s.dspTime }) ∧
      { t with queues := s.queues } = s ∧ ∀ k, k ≠ q → t.queue k = s.queue k := ⟨_, hI, h.finished⟩

theorem State.Fetched.gives_offered (h : s.Fetched q i p) {I : Instr} (st : PktSt)
    (hI : exec I s = .next (s.updPkt q i fun p => { p with st := st })) : Gives I s fun t =>
      (t.queue q).pkt i = some { p with st := st } ∧
      { t with queues := s.queues } = s ∧ ∀ k, k ≠ q → t.queue k = s.queue k :=
  ⟨_, hI, h.updated (f := fun p => { p with st := st }) fun _ => rfl⟩

theorem State.fenceWait_open {pa : Nat} (w : Waiter)
    (hpa : s.reach w.cid w.fence .read = .ok pa) (hopen : s.physLe pa 8 / 2 ^ 62 = 0) :
    ((s.updPkt q i fun p => { p with st := .atHead, startT := s.dspTime }).updQueue q fun x =>
      { x with st := qWaits x.st }).enterWaiter q w = s.waitsAtHead q i w := by
  have hsans : (s.waitsAtHead q i w).sansQueues = s.sansQueues := rfl
  have hreach : (s.waitsAtHead q i w).reach w.cid w.fence .read = .ok pa := (State.reach_of_sansQueues hsans _ _ _).trans hpa
  have hword : (s.waitsAtHead q i w).physLe pa 8 / 2 ^ 62 = 0 := by rw [State.physLe_of_sansQueues hsans, hopen]
  have heval := State.evalWaiter_open (t := s.waitsAtHead q i w) (k := q) hword
  show (match (s.waitsAtHead q i w).reach w.cid w.fence .read with
    | .ok pa => (s.waitsAtHead q i w).evalWaiter q ((s.waitsAtHead q i w).physLe pa 8)
    | .err e => (s.waitsAtHead q i w).readWaiter q e) = s.waitsAtHead q i w
  rw [hreach]
  exact heval

/-- A state packet whose tile is idle, open, unclaimed and its context's reserves the tile. -/
def State.reserved (s : State) (q i n cid : Nat) : State :=
  let d := s.dtile n
  let s := s.started q i id
  let s := if d.lastCid = some cid then s else s.updTile n Tile.fresh
  s.setDtile n { d with st := .reserved, cur := some (q, i, 0), lastCid := some cid }

theorem State.Fetched.startState_reserves (h : s.Fetched q i p) {op : Nat} (hop : opOf p.raw = op) (n : Nat) (hn : n = pfld p.raw 0x28 1)
    (hst : (s.dtile n).st = .idle) (hcur : (s.dtile n).cur = none) (hhalt : (s.tile n).halted = false)
    (hopen : s.domOpen (clDom (n / 4)) = true) (hserves : s.clusterServes (s.ctx p.cid).pid 0 (n / 4) = true)
    (hclaim : (s.dtile n).claim = none ∨ (s.dtile n).claim = some q) (hon : s.disp.on = true) :
    s.startState q i op = s.reserved q i n p.cid := by
  have hheld : s.heldPkt q i = some (p.cid, p) := by rw [State.heldPkt, h.pkt]; rfl
  subst hn hop
  have hser : ¬(isSerial p.raw = true ∧ (!(s.queue q).oldest i) = true) := fun e => by simp [h.serial e.1] at e
  rw [State.startState, hheld]
  simp only [h.st, h.ended]
  rw [if_neg (by simpa using hser), if_pos ⟨hst, by rw [hcur]; rfl, by rw [hhalt]; rfl, hopen, hserves, hclaim, hon⟩]
  rfl

theorem State.Fetched.startState_pools (h : s.Fetched q i p) {op : Nat} (hop : opOf p.raw = op) (n : Nat) (hn : n = pfld p.raw 0x28 1)
    (hno : (s.dtile n).st ≠ .idle ∨ s.clusterServes (s.ctx p.cid).pid 0 (n / 4) = false) :
    s.startState q i op = s.updPkt q i fun p => { p with st := .pooled } := by
  have hheld : s.heldPkt q i = some (p.cid, p) := by rw [State.heldPkt, h.pkt]; rfl
  subst hn hop
  have hser : ¬(isSerial p.raw = true ∧ (!(s.queue q).oldest i) = true) := fun e => by simp [h.serial e.1] at e
  have hnot : ¬((s.dtile (pfld p.raw 0x28 1)).st = .idle ∧
      s.clusterServes (s.ctx p.cid).pid 0 (pfld p.raw 0x28 1 / 4) = true) := by
    rintro ⟨h1, h2⟩
    exact hno.elim (· h1) fun h => by simp [h] at h2
  rw [State.startState, hheld]
  simp only [h.st, h.ended]
  rw [if_neg (by simpa using hser), if_neg (fun e => hnot ⟨e.1, e.2.2.2.2.1⟩)]

theorem State.Fetched.reserved_post (h : s.Fetched q i p) (n : Nat) :
    let t := s.reserved q i n p.cid
    let d := s.dtile n
    t.dtile n = { d with st := .reserved, cur := some (q, i, 0), lastCid := some p.cid } ∧
      (t.queue q).pkt i = some { p with st := .started, startT := s.dspTime } ∧
      t.tile n = if d.lastCid = some p.cid then s.tile n else (s.tile n).fresh := by
  have hpkt : ((s.started q i id).queue q).pkt i = some { p with st := .started, startT := s.dspTime } :=
    State.pkt_updPkt h.pkt fun _ => rfl
  refine ⟨(State.dtile_setDtile ..).trans (if_pos rfl), ?_, ?_⟩
  · unfold State.reserved
    dsimp only
    split
    · exact hpkt
    · exact hpkt
  · unfold State.reserved
    dsimp only
    split
    · rfl
    · exact State.tile_updTile_self _ _ _

theorem State.Fetched.gives_stamped (h : s.Fetched q i p) {u : State} {I : Instr}
    (hu : s.writeVa p.cid (pfld p.raw 0x18 8) (leBytes 8 s.dspTime) = .ok u)
    (hI : exec I s = .next (u.started q i (Pkt.finish .ok))) : Gives I s fun t =>
      (t.queue q).pkt i = some (Pkt.finish .ok { p with st := .started, startT := s.dspTime }) ∧ t.mem = u.mem := by
  have hsans : u.sansBytes = s.sansBytes := State.writeVaBy_sansBytes _ hu
  have hpkt : (u.queue q).pkt i = some p := by
    rw [show u.queue q = u.sansBytes.queue q from rfl, hsans]
    exact h.pkt
  have htime : u.dspTime = s.dspTime := by
    rw [show u.dspTime = u.sansBytes.dspTime from rfl, hsans]
    rfl
  refine ⟨_, hI, ?_, rfl⟩
  rw [← htime]
  exact State.pkt_updPkt hpkt fun _ => by rw [Pkt.finish_index]

/-- Settles O36: each operation's command is its own start of a packet that may start, and a waiting, moving or state packet leaves
what its queue, its engine or its tile then holds. -/
theorem packetStarts : Obligations.PacketStarts := by
  intro s qid index p hlive q i x hpkt hst hended hserial
  have h : s.Fetched q i p := ⟨hpkt, hst, hended, hserial⟩
  have hstart : ∀ {o : Nat}, opOf p.raw = o →
      s.startable (qid.toNat % 32768) index.toNat (· == o) = some (p.cid, p) := fun ho => h.startable (by simp [ho])
  intro op run only ends offers n moves waits
  refine ⟨fun ho => ?_, fun ho => ?_, fun ho => ?_, fun ho hold => ?_, fun ho hold => ?_, fun r pa ho hr hpa hopen => ?_,
    fun ho hold => ?_, fun ho hold => ?_, fun ho hz => ?_, fun ho hz => ?_, fun ho hz => ?_, fun ho hz => ?_, fun ho => ?_,
    fun ho => ?_, fun ho => ?_, ⟨fun hidle hcur hhalt hdom hserves hclaim hon => ?_, fun hno => ?_⟩, fun u ho hu => ?_⟩
  · exact h.gives_started (exec_live (execNop.eq_1 ..) hlive (by dsimp only; rw [hstart ho]))
  · exact h.gives_offered .offered (exec_live (execTask.eq_1 ..) hlive (by dsimp only; rw [hstart ho]))
  · exact h.gives_offered .offered (exec_live (execTaskGroup.eq_1 ..) hlive (by dsimp only; rw [hstart ho]))
  · exact h.gives_started (exec_live (execFenceSignal.eq_1 ..) hlive (by dsimp only; rw [hstart ho]; dsimp only; rw [if_pos hold]))
  · refine ⟨s, exec_live (execFenceSignal.eq_1 ..) hlive (by dsimp only; rw [hstart ho]; dsimp only; rw [if_neg]; rw [hold]; decide), rfl⟩
  · exact ⟨s.waitsAtHead q i ⟨p.cid, r.owner, r.addr, pfld p.raw 0x20 8 % 2 ^ 62, 0, false⟩,
      exec_live (execFenceWait.eq_1 ..) hlive (by
        dsimp only
        rw [hstart ho]
        dsimp only
        rw [hr]
        exact congrArg _ (State.fenceWait_open _ hpa hopen)), h.waitsAtHead _⟩
  · exact h.gives_started (exec_live (execBarrier.eq_1 ..) hlive (by dsimp only; rw [hstart ho]; dsimp only; rw [if_pos hold]))
  · exact ⟨s.waitsAtHead q i ⟨p.cid, p.cid, 0, 0, 0, true⟩, exec_live (execBarrier.eq_1 ..) hlive (by
      dsimp only
      rw [hstart ho]
      exact congrArg _ (if_neg (by rw [hold]; decide))), h.waitsAtHead _⟩
  · exact h.gives_started (exec_live (execCopy.eq_1 ..) hlive (by dsimp only; rw [hstart ho]; dsimp only; rw [if_pos hz]))
  · exact h.gives_toDma rfl (exec_live (execCopy.eq_1 ..) hlive (by dsimp only; rw [hstart ho]; dsimp only; rw [if_neg hz]))
  · exact h.gives_started (exec_live (execFill.eq_1 ..) hlive (by dsimp only; rw [hstart ho]; dsimp only; rw [if_pos hz]))
  · exact h.gives_toDma rfl (exec_live (execFill.eq_1 ..) hlive (by dsimp only; rw [hstart ho]; dsimp only; rw [if_neg hz]))
  · exact h.gives_toDma rfl (exec_live (execPrefetch.eq_1 ..) hlive (by dsimp only; rw [hstart ho]))
  · exact h.gives_toDma rfl (exec_live (execAdvise.eq_1 ..) hlive (by dsimp only; rw [hstart ho]))
  · exact h.gives_toDma rfl (exec_live (execMigrate.eq_1 ..) hlive (by dsimp only; rw [hstart ho]))
  · have hstate := fun {o : Nat} (ho : opOf p.raw = o) =>
      h.startState_reserves ho _ rfl hidle hcur hhalt hdom hserves hclaim hon
    exact ⟨fun ho => ⟨_, exec_live (execStateSave.eq_1 ..) hlive (congrArg _ (hstate ho)), h.reserved_post _⟩,
      fun ho => ⟨_, exec_live (execStateLoad.eq_1 ..) hlive (congrArg _ (hstate ho)), h.reserved_post _⟩⟩
  · have hstate := fun {o : Nat} (ho : opOf p.raw = o) => h.startState_pools ho _ rfl hno
    exact ⟨fun ho => h.gives_offered .pooled (exec_live (execStateSave.eq_1 ..) hlive (congrArg _ (hstate ho))),
      fun ho => h.gives_offered .pooled (exec_live (execStateLoad.eq_1 ..) hlive (congrArg _ (hstate ho)))⟩
  · exact h.gives_stamped hu (exec_live (execTimestamp.eq_1 ..) hlive (by dsimp only; rw [hstart ho]; dsimp only; rw [hu]))

end Sys2Proof.Machine

namespace Sys2Proof.Machine

/-! ## Counters and register fields -/

theorem Fld.size_pos (f : Fld) : 0 < f.size := Nat.two_pow_pos _

@[simp] theorem State.get_sat_self (s : State) (f : Fld) (n : Nat) : (s.sat f n).get f = min (s.get f + n) (f.size - 1) := by
  have := f.size_pos
  rw [State.sat, State.get_put_self, Nat.mod_eq_of_lt (by omega)]

@[simp] theorem State.get_sat_ne (s : State) (f g : Fld) (n : Nat) (h : g.key ≠ f.key) : (s.sat f n).get g = s.get g :=
  s.get_put_ne f g _ h

@[simp] theorem State.get_wrap_self (s : State) (f : Fld) (n : Nat) : (s.wrap f n).get f = (s.get f + n) % f.size :=
  s.get_put_self f _

/-! ## What XLT does (R415, R420-R425, R429, R431, R454-R456) -/

/-- A fault record leaves everything but the reports, WAT_STATUS and the free values as it was. -/
theorem State.recordX_shape (s : State) (unit src cid : Nat) (qid : Option Nat) (e : XErr) :
    ∃ c v n, s.recordX unit src cid qid e = { s with conc := c, regs := v, freeCtr := n } ∧ c.nextId = s.conc.nextId + 1 := by
  have key : ∀ code unit src detail, ∃ c v n, s.faultC code unit src detail (some cid) qid none =
      { s with conc := c, regs := v, freeCtr := n } ∧ c.nextId = s.conc.nextId + 1 := by
    intro code unit src detail
    obtain ⟨c, v, e, h, -⟩ := s.faultC_shape code unit src detail (some cid) qid none
    exact ⟨c, v, _, e, h⟩
  unfold State.recordX
  dsimp only
  split
  · exact key ..
  split
  · obtain ⟨c, v, n, e, h⟩ := key 0x31 uMSH (src % 64)
      (s.freeVal 6 + src % 64 * 2 ^ 8 + min 2 (src / 64) * 2 ^ 14 + e.detail)
    rw [e]
    exact ⟨c, v, n + 1, rfl, h⟩
  split
  · exact key ..
  split
  · exact key ..
  · exact key ..

/-! ### Lookups -/

theorem State.lookup_hit {s : State} {w c v : Nat} {acc : Access} {e : TlbEntry} (hv : canonical v = true)
    (hc : ctxTranslates (s.ctx c).st = true) (he : (Tab.get [] s.xlt.tlb1 w).find? (·.hits c v) = some e)
    (hg : e.grants acc = true) : s.lookup w c v acc = { s with xlt := { s.xlt with
      tlb1 := s.xlt.tlb1.set w (e :: (Tab.get [] s.xlt.tlb1 w).filter (· != e)) } } := by
  rw [State.lookup, if_neg (by rw [hv]; decide), if_neg (by rw [hc]; decide)]
  dsimp only
  rw [he]
  exact if_pos hg

theorem State.lookup_miss {s : State} {w c v : Nat} {acc : Access} (hv : canonical v = true)
    (hc : ctxTranslates (s.ctx c).st = true) (h1 : (Tab.get [] s.xlt.tlb1 w).find? (·.hits c v) = none)
    (h2 : s.xlt.tlb2.find? (·.hits c v) = none) (hs : (s.ctx c).segments = false) :
    s.lookup w c v acc = s.queueWalk w c v := by
  rw [State.lookup, if_neg (by rw [hv]; decide), if_neg (by rw [hc]; decide)]
  dsimp only
  rw [h1]
  dsimp only
  rw [State.secondLookup, h2]
  dsimp only
  rw [State.missLookup, if_neg (by rw [hs]; decide)]

/-- A walk of the page, started or joined, names the requester and ranks no lower than its band. -/
theorem State.queueWalk_post (s : State) (w c v : Nat) :
    { s.queueWalk w c v with xlt := { (s.queueWalk w c v).xlt with walks := s.xlt.walks, order := s.xlt.order } } = s ∧
      ∃ x ∈ (s.queueWalk w c v).xlt.walks, x.cid = c ∧ x.page = v / 2 ^ 21 ∧ w ∈ x.who ∧ x.band ≤ s.whoBand w := by
  unfold State.queueWalk
  dsimp only
  split
  · next h =>
    obtain ⟨x, hx, hp⟩ := List.any_eq_true.mp h
    obtain ⟨hcid, hpage⟩ : x.cid = c ∧ x.page = v / 2 ^ 21 := by simpa using hp
    refine ⟨rfl, _, List.mem_map_of_mem hx, ?_⟩
    rw [if_pos ⟨hcid, hpage⟩]
    refine ⟨hcid, hpage, ?_, Nat.min_le_right _ _⟩
    dsimp only
    split
    · next hw => exact List.contains_iff_mem.mp hw
    · exact List.mem_append_right _ (List.mem_singleton_self w)
  · exact ⟨rfl, _, List.mem_append_right _ (List.mem_singleton_self _), rfl, rfl, List.mem_singleton_self w, le_refl _⟩

theorem State.lookup_untranslated {s : State} {w c v : Nat} {acc : Access} (hv : canonical v = true)
    (hc : ctxTranslates (s.ctx c).st = false) : (s.lookup w c v acc).xlt = s.xlt ∧ (s.lookup w c v acc).ctxs = s.ctxs ∧
      (s.lookup w c v acc).conc.nextId = s.conc.nextId + 1 := by
  rw [State.lookup, if_neg (by rw [hv]; decide), if_pos (by rw [hc]; decide)]
  obtain ⟨f, g, n, e, h⟩ := s.recordX_shape (if w < 64 then uCLS (w / 4) else uXLT) xltStop c (s.whoQueue w) ⟨0x06, 0, 0, 0, 0⟩
  rw [e]
  exact ⟨rfl, rfl, h⟩

/-! ### Walks -/

/-- The walks that R423 ranks: out of debt first, then by band, then by age. -/
theorem State.walkBefore_iff (s : State) (a b : Walk) : s.walkBefore a b = true ↔
    (s.walkDebt a.cid = false ∧ s.walkDebt b.cid = true) ∨
    (s.walkDebt a.cid = s.walkDebt b.cid ∧ (a.band < b.band ∨ a.band = b.band ∧ a.order < b.order)) := by
  unfold State.walkBefore
  cases s.walkDebt a.cid <;> cases s.walkDebt b.cid <;> by_cases h : a.band = b.band <;> simp [h]

theorem State.walkBefore_trans {s : State} {a b c : Walk} (h : s.walkBefore a b = true) (h' : s.walkBefore b c = true) :
    s.walkBefore a c = true := by
  rw [State.walkBefore_iff] at h h' ⊢
  obtain ⟨ha, hb⟩ | ⟨hab, hlt⟩ := h
  · obtain ⟨hb', -⟩ | ⟨hbc, -⟩ := h'
    · rw [hb] at hb'
      cases hb'
    · exact .inl ⟨ha, hbc ▸ hb⟩
  · obtain ⟨hb, hc⟩ | ⟨hbc, hlt'⟩ := h'
    · exact .inl ⟨hab.trans hb, hc⟩
    · exact .inr ⟨hab.trans hbc, by omega⟩

theorem State.walkBefore_total {s : State} {a b : Walk} (h : a.order ≠ b.order) :
    s.walkBefore a b = true ∨ s.walkBefore b a = true := by
  rw [State.walkBefore_iff, State.walkBefore_iff]
  cases s.walkDebt a.cid <;> cases s.walkDebt b.cid <;> simp <;> omega

/-- One step of the choice of the next walk. -/
def State.firstWalk (s : State) (m : Option Walk) (w : Walk) : Option Walk :=
  if w.started then m else match m with
    | none => some w
    | some v => if s.walkBefore w v then some w else m

theorem State.nextWalk_eq (s : State) : s.nextWalk = s.xlt.walks.foldl s.firstWalk none := rfl

theorem State.foldl_firstWalk (s : State) (l : List Walk) : ∀ v : Walk, v.started = false →
    (v :: l).Pairwise (fun a b => a.order ≠ b.order) → ∃ x ∈ v :: l, l.foldl s.firstWalk (some v) = some x ∧ x.started = false ∧
      ∀ y ∈ v :: l, y.started = false → y ≠ x → s.walkBefore x y = true := by
  induction l with
  | nil =>
    intro v hv _
    exact ⟨v, by simp, rfl, hv, fun y hy _ hne => absurd (List.mem_singleton.mp hy) hne⟩
  | cons w l ih =>
    intro v hv hpw
    obtain ⟨hvl, hwl⟩ := List.pairwise_cons.mp hpw
    have hvw := hvl w List.mem_cons_self
    by_cases hw : w.started = true
    · have hskip : s.firstWalk (some v) w = some v := if_pos hw
      obtain ⟨x, hx, hfold, hst, hmin⟩ := ih v hv
        (List.pairwise_cons.mpr ⟨fun y hy => hvl y (List.mem_cons_of_mem _ hy), (List.pairwise_cons.mp hwl).2⟩)
      refine ⟨x, ?_, by rw [List.foldl_cons, hskip, hfold], hst, fun y hy hys hne => hmin y ?_ hys hne⟩
      · simp only [List.mem_cons] at hx ⊢
        exact hx.imp_right .inr
      · simp only [List.mem_cons] at hy ⊢
        rcases hy with h | rfl | h
        · exact .inl h
        · rw [hw] at hys; cases hys
        · exact .inr h
    · have hw' : w.started = false := by simpa using hw
      by_cases hb : s.walkBefore w v = true
      · have hpick : s.firstWalk (some v) w = some w := by simp [State.firstWalk, hw', hb]
        obtain ⟨x, hx, hfold, hst, hmin⟩ := ih w hw' hwl
        refine ⟨x, List.mem_cons_of_mem _ hx, by rw [List.foldl_cons, hpick, hfold], hst, fun y hy hys hne => ?_⟩
        rcases List.mem_cons.mp hy with rfl | hy
        · by_cases hwx : w = x
          · exact hwx ▸ hb
          · exact State.walkBefore_trans (hmin w List.mem_cons_self hw' hwx) hb
        · exact hmin y hy hys hne
      · have hkeep : s.firstWalk (some v) w = some v := by simp [State.firstWalk, hw', hb]
        obtain ⟨x, hx, hfold, hst, hmin⟩ := ih v hv
          (List.pairwise_cons.mpr ⟨fun y hy => hvl y (List.mem_cons_of_mem _ hy), (List.pairwise_cons.mp hwl).2⟩)
        have hvw' : s.walkBefore v w = true := (State.walkBefore_total hvw).resolve_right hb
        refine ⟨x, ?_, by rw [List.foldl_cons, hkeep, hfold], hst, fun y hy hys hne => ?_⟩
        · simp only [List.mem_cons] at hx ⊢
          exact hx.imp_right .inr
        · simp only [List.mem_cons] at hy
          rcases hy with rfl | rfl | hy
          · exact hmin _ List.mem_cons_self hys hne
          · by_cases hvx : v = x
            · exact hvx ▸ hvw'
            · exact State.walkBefore_trans (hmin v List.mem_cons_self hv hvx) hvw'
          · exact hmin y (List.mem_cons_of_mem _ hy) hys hne

/-- The next walk is the pending one that R423 ranks first. -/
theorem State.nextWalk_first {s : State} (hpw : s.xlt.walks.Pairwise (fun a b => a.order ≠ b.order))
    (hex : ∃ x ∈ s.xlt.walks, x.started = false) : ∃ x ∈ s.xlt.walks, s.nextWalk = some x ∧ x.started = false ∧
      ∀ y ∈ s.xlt.walks, y.started = false → y ≠ x → s.walkBefore x y = true := by
  rw [State.nextWalk_eq]
  generalize s.xlt.walks = l at hpw hex
  induction l with
  | nil => obtain ⟨x, hx, -⟩ := hex; cases hx
  | cons w l ih =>
    by_cases hw : w.started = true
    · have hskip : s.firstWalk none w = none := if_pos hw
      have hex' : ∃ x ∈ l, x.started = false := by
        obtain ⟨x, hx, hs⟩ := hex
        rcases List.mem_cons.mp hx with rfl | hx
        · rw [hw] at hs; cases hs
        · exact ⟨x, hx, hs⟩
      obtain ⟨x, hx, hfold, hst, hmin⟩ := ih (List.pairwise_cons.mp hpw).2 hex'
      refine ⟨x, List.mem_cons_of_mem _ hx, by rw [List.foldl_cons, hskip, hfold], hst, fun y hy hys hne => ?_⟩
      rcases List.mem_cons.mp hy with rfl | hy
      · rw [hw] at hys; cases hys
      · exact hmin y hy hys hne
    · have hw' : w.started = false := by simpa using hw
      have hpick : s.firstWalk none w = some w := by simp [State.firstWalk, hw']
      rw [List.foldl_cons, hpick]
      exact s.foldl_firstWalk l w hw' hpw

/-- A walk that starts is the first pending one; it counts, and takes one from its context's weir. -/
theorem State.startWalk_post {s : State} (hfree : (s.xlt.walks.filter (·.started)).length < 16)
    (hpw : s.xlt.walks.Pairwise (fun a b => a.order ≠ b.order)) (hex : ∃ x ∈ s.xlt.walks, x.started = false) :
    ∃ x ∈ s.xlt.walks, x.started = false ∧ (∀ y ∈ s.xlt.walks, y.started = false → y ≠ x → s.walkBefore x y = true) ∧
      s.startWalk.xlt.walks = s.xlt.walks.map (fun y => if y = x then { y with started := true } else y) ∧
      s.startWalk.get Reg.XLT_COUNTS_WALKS = min (s.get Reg.XLT_COUNTS_WALKS + 1) (2 ^ 32 - 1) ∧
      (s.startWalk.ctx x.cid).walks = (s.ctx x.cid).walks - 1 := by
  obtain ⟨x, hx, hnext, hst, hmin⟩ := State.nextWalk_first hpw hex
  refine ⟨x, hx, hst, hmin, ?_⟩
  have hinj : ∀ y ∈ s.xlt.walks, y.order = x.order → y = x := by
    intro y hy he
    by_contra hne
    have : Std.Symm fun a b : Walk => a.order ≠ b.order := ⟨fun _ _ h => h.symm⟩
    exact hpw.forall hy hx hne he
  rw [State.startWalk, if_neg (by omega), hnext]
  dsimp only
  generalize hs' : (if s.walkDebt x.cid = true then s.sat Reg.XLT_COUNTS_THROTTLED 1 else s) = s'
  have hwalks : s'.xlt.walks = s.xlt.walks := by
    rw [← hs']
    split <;> rfl
  have hctx : s'.ctx x.cid = s.ctx x.cid := by
    rw [← hs']
    split <;> rfl
  have hget : s'.get Reg.XLT_COUNTS_WALKS = s.get Reg.XLT_COUNTS_WALKS := by
    rw [← hs']
    split
    · exact State.get_sat_ne _ _ _ _ (by decide)
    · rfl
  refine ⟨?_, ?_, ?_⟩
  · show s'.xlt.walks.map _ = _
    rw [hwalks]
    refine List.map_congr_left fun y hy => ?_
    by_cases hyx : y = x
    · rw [if_pos (by rw [hyx]), if_pos hyx]
    · rw [if_neg (fun he => hyx (hinj y hy he)), if_neg hyx]
  · exact (State.get_sat_self _ _ _).trans (by
      show min (s'.get _ + 1) _ = _
      rw [hget]
      rfl)
  · refine (congrArg Ctx.walks (State.ctx_setCtx ..)).trans ?_
    rw [if_pos rfl, hctx]

/-! ### Table reads -/

theorem State.walkEntry_pointer {s : State} {x : Walk} {e : Nat} (hw : s.xlt.walks = [x]) (hv : bitAt e 0 = true)
    (hty : bits e 2 1 = 1) (hl : 2 < x.level) : ∃ y, (s.walkEntry x e).xlt.walks = [y] ∧ y.level = x.level - 1 ∧
      y.table = bits e 51 12 * 2 ^ 12 ∧ y.hw = (x.hw && bitAt e 3) ∧ y.ua = (x.ua && bitAt e 4) ∧ y.va = x.va ∧ y.who = x.who := by
  unfold State.walkEntry
  dsimp only
  rw [if_neg (by simp [hv, hty]), if_pos (by rw [hty]; rfl), if_neg (by omega)]
  refine ⟨{ x with level := x.level - 1, table := bits e 51 12 * 2 ^ 12, hw := x.hw && bitAt e 3, ua := x.ua && bitAt e 4,
                   path := x.path ++ [⟨x.cid, x.level - 1, walkPrefix x.va (x.level - 1), bits e 51 12 * 2 ^ 12,
                     x.hw && bitAt e 3, x.ua && bitAt e 4⟩] }, ?_, rfl, rfl, rfl, rfl, rfl, rfl⟩
  show s.xlt.walks.map _ = _
  rw [hw, List.map_singleton, if_pos rfl]

theorem State.endWalk_only {s : State} {x : Walk} (hw : s.xlt.walks = [x]) :
    s.endWalk x = { s with xlt := { s.xlt with walks := [] } } := by
  unfold State.endWalk
  rw [hw]
  simp

theorem State.walkEntry_invalid {s : State} {x : Walk} {e : Nat} (hw : s.xlt.walks = [x]) (hv : bitAt e 0 = false) :
    s.walkEntry x e = { s with xlt := { s.xlt with walks := [] } } := by
  unfold State.walkEntry
  dsimp only
  rw [if_pos (by simp [hv]), State.endWalk_only hw]

theorem State.fillTlb2_mem (s : State) (cid : Nat) (x : Xlat) : s.entryOf cid x ∈ (s.fillTlb2 cid x).xlt.tlb2 := by
  unfold State.fillTlb2
  dsimp only
  split <;> exact List.mem_cons_self

theorem State.fillTlb2_walks (s : State) (cid : Nat) (x : Xlat) : (s.fillTlb2 cid x).xlt.walks = s.xlt.walks := by
  unfold State.fillTlb2
  dsimp only
  split <;> rfl

/-- What a translation enters beside the second-level TLB leaves that TLB and the walks alone. -/
def State.walksAndTlb2 (s : State) : List Walk × List TlbEntry := (s.xlt.walks, s.xlt.tlb2)

theorem State.fillCache_walksAndTlb2 (s : State) (e : WalkEntry) : (s.fillCache e).walksAndTlb2 = s.walksAndTlb2 := by
  unfold State.fillCache
  dsimp only
  split <;> rfl

theorem State.fillTlb1_walksAndTlb2 (s : State) (who cid : Nat) (x : Xlat) :
    (s.fillTlb1 who cid x).walksAndTlb2 = s.walksAndTlb2 := by
  unfold State.fillTlb1
  dsimp only
  split <;> rfl

theorem State.walkOk_walksAndTlb2 (s : State) (w : Walk) (x : Xlat) :
    (s.walkOk w x).walksAndTlb2 = ((s.endWalk w).fillTlb2 w.cid x).walksAndTlb2 := by
  have hcache : ∀ (l : List WalkEntry) (t : State), (l.foldl (fun s e => s.fillCache e) t).walksAndTlb2 = t.walksAndTlb2 := by
    intro l
    induction l with
    | nil => exact fun _ => rfl
    | cons e l ih => exact fun t => (ih _).trans (t.fillCache_walksAndTlb2 e)
  have htlb : ∀ (l : List Nat) (t : State), (l.foldl (fun s who => s.fillTlb1 who w.cid x) t).walksAndTlb2 = t.walksAndTlb2 := by
    intro l
    induction l with
    | nil => exact fun _ => rfl
    | cons e l ih => exact fun t => (ih _).trans (t.fillTlb1_walksAndTlb2 e w.cid x)
  exact (htlb _ _).trans (hcache _ _)

theorem State.walkOk_post {s : State} {w : Walk} (hw : s.xlt.walks = [w]) (x : Xlat) :
    (s.walkOk w x).xlt.walks = [] ∧ (s.endWalk w).entryOf w.cid x ∈ (s.walkOk w x).xlt.tlb2 := by
  have hboth := s.walkOk_walksAndTlb2 w x
  have hwalks : (s.walkOk w x).xlt.walks = ((s.endWalk w).fillTlb2 w.cid x).xlt.walks := congrArg Prod.fst hboth
  have htlb : (s.walkOk w x).xlt.tlb2 = ((s.endWalk w).fillTlb2 w.cid x).xlt.tlb2 := congrArg Prod.snd hboth
  rw [hwalks, htlb, State.fillTlb2_walks, State.endWalk_only hw]
  exact ⟨rfl, State.fillTlb2_mem _ _ _⟩

theorem State.walkEntry_leaf {s : State} {x : Walk} {e : Nat} (hw : s.xlt.walks = [x]) (hv : bitAt e 0 = true)
    (hty : bits e 2 1 = 2) (hl : x.level ≠ 4) (hua : x.ua = true) (h4 : bitAt e 4 = true) (h53 : bitAt e 53 = true) :
    (s.walkEntry x e).xlt.walks = [] ∧ ∃ y ∈ (s.walkEntry x e).xlt.tlb2, y.cid = x.cid ∧
      y.bits = 12 + 9 * (x.level - 1) ∧ y.va = x.va / 2 ^ (12 + 9 * (x.level - 1)) * 2 ^ (12 + 9 * (x.level - 1)) ∧
      y.pa = bits e 51 (12 + 9 * (x.level - 1)) * 2 ^ (12 + 9 * (x.level - 1)) ∧ y.r = true ∧ y.w = (x.hw && bitAt e 3) := by
  unfold State.walkEntry
  dsimp only
  rw [if_neg (by simp [hv, hty, hl]), if_neg (by rw [hty]; decide), if_neg (by simp [hua, h4, h53])]
  obtain ⟨hwalks, hmem⟩ := State.walkOk_post hw ⟨x.va / 2 ^ (12 + 9 * (x.level - 1)) * 2 ^ (12 + 9 * (x.level - 1)),
    bits e 51 (12 + 9 * (x.level - 1)) * 2 ^ (12 + 9 * (x.level - 1)), 12 + 9 * (x.level - 1), true, x.hw && bitAt e 3,
    (x.hw && bitAt e 3) && bitAt e 54, x.level, e⟩
  exact ⟨hwalks, _, hmem, rfl, rfl, rfl, rfl, rfl, rfl⟩

/-! ### The walk weir and invalidations -/

theorem atLeast1_eq (n : Nat) : atLeast1 n = max 1 n := by
  unfold atLeast1
  split <;> omega

theorem Tab.get_map {α : Type} (d : α) (f : Nat × α → Nat × α) (hf : ∀ e, (f e).1 = e.1) (m : Tab α) (k : Nat) :
    Tab.get d (m.map f) k = d ∧ Tab.get d m k = d ∨ ∃ v, Tab.get d m k = v ∧ Tab.get d (m.map f) k = (f (k, v)).2 := by
  induction m with
  | nil => exact .inl ⟨rfl, rfl⟩
  | cons e m ih =>
    obtain ⟨j, v⟩ := e
    by_cases hj : j = k
    · subst hj
      exact .inr ⟨v, if_pos rfl, by simpa [Tab.get] using fun h => absurd (hf (j, v)) h⟩
    · have hne : (f (j, v)).1 ≠ k := by rw [hf]; exact hj
      simpa [Tab.get, hj, hne] using ih

/-- The weir's refill of one context. -/
def weirRefill (rate burst : Nat) (e : Nat × Ctx) : Nat × Ctx :=
  if e.2.st = .free then e else (e.1, { e.2 with walks := min burst (e.2.walks + rate) })

theorem weirRefill_fst (rate burst : Nat) (e : Nat × Ctx) : (weirRefill rate burst e).1 = e.1 := by
  unfold weirRefill
  split <;> rfl

theorem Ctx.refilled (cs : Tab Ctx) (rate burst k : Nat) :
    Tab.get Ctx.reset (cs.map (weirRefill rate burst)) k =
      if (Tab.get Ctx.reset cs k).st = .free then Tab.get Ctx.reset cs k
      else { Tab.get Ctx.reset cs k with walks := min burst ((Tab.get Ctx.reset cs k).walks + rate) } := by
  obtain ⟨h, h'⟩ | ⟨v, h, h'⟩ := Tab.get_map Ctx.reset (weirRefill rate burst) (weirRefill_fst rate burst) cs k
  · rw [h, h']
    exact (if_pos rfl).symm
  · rw [h, h', weirRefill, apply_ite Prod.snd]

theorem Tab.get_map_snd {α : Type} (d : α) (f : α → α) (hd : f d = d) (m : Tab α) (k : Nat) :
    Tab.get d (m.map fun e => (e.1, f e.2)) k = f (Tab.get d m k) := by
  obtain ⟨h, h'⟩ | ⟨v, h, h'⟩ := Tab.get_map d (fun e => (e.1, f e.2)) (fun _ => rfl) m k
  · rw [h, h', hd]
  · rw [h, h']

/-- No entry of the CID is left, its walks begin again at the root, and the invalidation is numbered and queued. -/
theorem State.invalidate_post {s : State} (k : Nat) (h : s.xlt.invals.length < 16) :
    let t := s.invalidate k
    t.get Reg.XLT_INVAL_SEQ_SEQ = (s.get Reg.XLT_INVAL_SEQ_SEQ + 1) % 2 ^ 32 ∧
    t.xlt.invals = s.xlt.invals ++ [(t.get Reg.XLT_INVAL_SEQ_SEQ, k)] ∧
    (∀ e ∈ t.xlt.tlb2, e.cid ≠ k) ∧ (∀ j, ∀ e ∈ Tab.get [] t.xlt.tlb1 j, e.cid ≠ k) ∧ (∀ e ∈ t.xlt.cache, e.cid ≠ k) ∧
    (∀ x ∈ t.xlt.walks, x.cid = k → x.level = 4 ∧ x.path = []) ∧ t.mem = s.mem := by
  have hmem : ∀ {α : Type} (p : α → Nat) (l : List α), ∀ e ∈ l.filter (p · != k), p e ≠ k := fun p l e he => by
    simpa using (List.mem_filter.mp he).2
  rw [State.invalidate, if_neg (by omega)]
  dsimp only
  refine ⟨State.get_wrap_self s _ 1, rfl, hmem TlbEntry.cid _, fun j e he => ?_, hmem WalkEntry.cid _, fun x hx hc => ?_, rfl⟩
  · have hj := Tab.get_map_snd [] (fun l : List TlbEntry => l.filter (·.cid != k)) rfl s.xlt.tlb1 j
    exact hmem TlbEntry.cid _ e (hj ▸ he)
  · obtain ⟨y, -, rfl⟩ := List.mem_map.mp hx
    by_cases hy : y.cid = k
    · rw [if_pos hy]
      exact ⟨rfl, rfl⟩
    · rw [if_neg hy] at hc
      exact absurd hc hy

/-! ### The driver's answers -/

/-- With every entry written, the fault queue has nothing to serve. -/
theorem State.fqPump_written (s : State) (l : List Susp) (h : ∀ y ∈ l, y.written = true) : s.fqPump l = s := by
  induction l with
  | nil => rfl
  | cons x l ih =>
    rw [State.fqPump, if_pos (h x List.mem_cons_self)]
    exact ih fun y hy => h y (List.mem_cons_of_mem _ hy)

theorem State.freeSusp_written {s : State} (tok : Nat) (h : ∀ y ∈ s.xlt.susp, y.written = true) :
    s.freeSusp tok = { s with xlt := { s.xlt with susp := s.xlt.susp.filter fun x => x.token != tok } } :=
  State.fqPump_written _ _ fun y hy => h y (List.mem_filter.mp hy).1

theorem suspOf_filtered (l : List Susp) (tok : Nat) :
    (l.filter fun x => x.token != tok).find? (fun x : Susp => x.token == tok) = none := by
  refine List.find?_eq_none.mpr fun x hx => ?_
  simpa using (List.mem_filter.mp hx).2

/-- An engine that starts its next packet leaves one that it does not hold as it is. -/
theorem State.dmaStart_pkt {s : State} {n q i : Nat} (h : (q, i) ∉ s.dmaQueue n) :
    ((s.dmaStart n).queue q).pkt i = (s.queue q).pkt i := by
  unfold State.dmaStart
  split
  · rfl
  split
  · rfl
  · next q' i' hf =>
    have hne : (q, i) ≠ (q', i') := fun he => h (he ▸ List.mem_of_find?_eq_some hf)
    exact State.pkt_updPkt_ne hne fun _ => rfl

theorem State.dmaStart_xlt (s : State) (n : Nat) : (s.dmaStart n).xlt = s.xlt := by
  unfold State.dmaStart
  split
  · rfl
  split <;> rfl

theorem Pkt.finish_ended (e : PktEnd) (p : Pkt) : (Pkt.finish e p).ended.isNone = false := by
  unfold Pkt.finish
  split
  · next h => simpa using h
  · rfl

/-- A packet that ends as it leaves its engine is not started again. -/
theorem State.dmaLeave_pkt {s : State} {n q i : Nat} {p : Pkt} {f : Pkt → Pkt} (hp : (s.queue q).pkt i = some p)
    (hf : ∀ p, (f p).index = p.index) (he : (f p).ended.isNone = false) :
    ((s.dmaLeave n q i f).queue q).pkt i = some (f p) := by
  unfold State.dmaLeave
  rw [State.dmaStart_pkt]
  · exact State.pkt_updPkt hp hf
  · rw [State.dmaQueue_eq]
    intro hmem
    have hon := (List.mem_filter.mp hmem).2
    dsimp only at hon
    rw [show (((s.updPkt q i f).setDma n _).queue q).pkt i = some (f p) from State.pkt_updPkt hp hf] at hon
    simp [onDma, he] at hon

theorem State.walkRead_clean {s : State} {x : Walk}
    (hown : s.ownerOk x.cid (x.table + 8 * bits x.va (12 + 9 * x.level - 1) (12 + 9 * (x.level - 1))) false = true)
    (hkey : s.keyAbsent (x.table + 8 * bits x.va (12 + 9 * x.level - 1) (12 + 9 * (x.level - 1))) = false) :
    s.walkRead x .clean =
      s.walkEntry x (s.physLe (x.table + 8 * bits x.va (12 + 9 * x.level - 1) (12 + 9 * (x.level - 1))) 8) := by
  rw [State.walkRead]
  exact if_neg (by rw [hown, hkey]; decide)

theorem exec_walkRead {s : State} {cid : BitVec 10} {va : BitVec 64} {x : Walk} (hlive : s.domLive 4 = true)
    (hw : s.xlt.walks = [x]) (hst : x.started = true) (hcid : x.cid = cid.toNat) (hpage : x.page = va.toNat / 2 ^ 21) :
    exec (.walkRead cid va .clean) s = .next (s.walkRead x .clean) := by
  refine exec_live (execWalkRead.eq_1 ..) hlive ?_
  rw [hw]
  simp only [List.find?_cons, hst, hcid, hpage, BEq.rfl, Bool.and_self]

theorem State.faultResult_get (s : State) {r : Nat} (h : r < 2) : (s.faultResult r).get Reg.XLT_FAULT_RESULT_RESULT = r :=
  (State.get_put_self _ _ _).trans (Nat.mod_eq_of_lt (h.trans_le (by decide)))

theorem exec_resume {s : State} {tok : BitVec 16} {x : Susp} (hlive : s.domLive 4 = true) (hx : s.suspOf tok.toNat = some x)
    (hu : 64 ≤ x.unit) : exec (.resume tok) s = .next (((s.freeSusp tok.toNat).updPkt x.qid x.index fun p =>
      { p with token := none }).faultResult frDone) := by
  refine exec_live (execResume.eq_1 ..) hlive ?_
  rw [hx]
  dsimp only
  rw [State.resumeSusp, if_pos hu]

theorem exec_kill {s : State} {tok : BitVec 16} {x : Susp} (hlive : s.domLive 4 = true) (hx : s.suspOf tok.toNat = some x)
    (hu : 64 ≤ x.unit) : exec (.kill tok) s = .next (((s.freeSusp tok.toNat).dmaLeave (x.unit - 64) x.qid x.index fun p =>
      Pkt.finish (.error x.code (uDMA (x.unit - 64)) (some x.fault)) { p with token := none }).faultResult frDone) := by
  refine exec_live (execKill.eq_1 ..) hlive ?_
  rw [hx]
  dsimp only
  rw [State.killSusp, if_pos hu, if_pos hu]

/-- A new fault queue: its base and size as written, empty, and sound. -/
def State.fqBased (s : State) (base size : Nat) : State :=
  let s := (s.put Reg.XLT_FQ_BASE_BASE base).put Reg.XLT_FQ_BASE_SIZE_LOG2 size
  let s := ((s.put Reg.XLT_FQ_HEAD_INDEX 0).put Reg.XLT_FQ_TAIL_INDEX 0).put Reg.XLT_STATUS_FQ_BROKEN 0
  { s with xlt := { s.xlt with failed := none } }

theorem State.fqBased_get (s : State) (b z : Nat) : let t := s.fqBased (bits b 51 12) (bits z 3 0)
    t.get Reg.XLT_FQ_BASE_BASE = bits b 51 12 ∧ t.get Reg.XLT_FQ_BASE_SIZE_LOG2 = z % 16 ∧
      t.get Reg.XLT_FQ_HEAD_INDEX = 0 ∧ t.get Reg.XLT_FQ_TAIL_INDEX = 0 ∧ t.get Reg.XLT_STATUS_FQ_BROKEN = 0 := by
  have hget : ∀ f, (s.fqBased (bits b 51 12) (bits z 3 0)).get f = (((((s.put Reg.XLT_FQ_BASE_BASE (bits b 51 12)).put
      Reg.XLT_FQ_BASE_SIZE_LOG2 (bits z 3 0)).put Reg.XLT_FQ_HEAD_INDEX 0).put Reg.XLT_FQ_TAIL_INDEX 0).put
      Reg.XLT_STATUS_FQ_BROKEN 0).get f := fun _ => rfl
  simp (disch := decide) only [hget, State.get_put_ne, State.get_put_self]
  refine ⟨Nat.mod_eq_of_lt (Nat.mod_lt _ (Nat.two_pow_pos _)), ?_, rfl, rfl, rfl⟩
  show z / 2 ^ 0 % 2 ^ 4 % 2 ^ 4 = z % 16
  omega

theorem exec_fqBaseWrite {s : State} (hlive : s.domLive 4 = true) (value : BitVec 64)
    (hwr : ∀ y ∈ s.xlt.susp, y.written = true) :
    exec (.fqBaseWrite value) s = .next (s.fqBased (bits value.toNat 51 12) (bits value.toNat 3 0)) := by
  refine exec_live (execFqBaseWrite.eq_1 ..) hlive (congrArg _ ?_)
  exact State.fqPump_written (s.fqBased (bits value.toNat 51 12) (bits value.toNat 3 0)) s.xlt.susp hwr

theorem exec_fqHeadWrite {s : State} (hlive : s.domLive 4 = true) (value : BitVec 32)
    (hwr : ∀ y ∈ s.xlt.susp, y.written = true) :
    exec (.fqHeadWrite value) s = .next (s.put Reg.XLT_FQ_HEAD_INDEX value.toNat) := by
  refine exec_live (execFqHeadWrite.eq_1 ..) hlive (congrArg _ ?_)
  exact State.fqPump_written (s.put Reg.XLT_FQ_HEAD_INDEX value.toNat) s.xlt.susp hwr

/-- Settles O39, command by command. -/
theorem translationUnit : Obligations.TranslationUnit := by
  intro s who cid va acc hlive c v w l1
  refine ⟨fun e hv hc he hg => ?_, fun hv hc h1 h2 hs => ?_, fun hv hc => ?_, fun hfree hpw hex => ?_,
    fun x hw hst hcid hpage hown hkey => ?_, ⟨fun hnow => ?_, fun hnow => ?_⟩, fun value => ⟨fun hroom => ?_, fun hfull => ?_⟩,
    fun n k r hinv hn => ?_, fun tok x => ⟨fun hnone => ?_, fun hx hu hwr => ?_⟩, fun value hwr => ?_, fun value hwr => ?_⟩
  · refine ⟨_, exec_live (execXltLookup.eq_1 ..) hlive (congrArg _ (State.lookup_hit hv hc he hg)), ?_, fun k hk => ?_, rfl⟩
    · exact Tab.get_set_self ..
    · exact Tab.get_set_ne _ _ _ hk
  · exact ⟨_, exec_live (execXltLookup.eq_1 ..) hlive (congrArg _ (State.lookup_miss hv hc h1 h2 hs)), s.queueWalk_post w c v⟩
  · exact ⟨_, exec_live (execXltLookup.eq_1 ..) hlive rfl, State.lookup_untranslated hv hc⟩
  · exact ⟨_, exec_live (execWalkStart.eq_1 ..) hlive rfl, State.startWalk_post hfree hpw hex⟩
  · have hread := (exec_walkRead hlive hw hst hcid hpage).trans (congrArg _ (State.walkRead_clean hown hkey))
    exact ⟨fun h0 hty hl => ⟨_, hread, State.walkEntry_pointer hw h0 hty hl⟩,
      fun h0 hty hl hua h4 h53 => ⟨_, hread, State.walkEntry_leaf hw h0 hty hl hua h4 h53⟩,
      fun h0 => ⟨_, hread, State.walkEntry_invalid hw h0⟩⟩
  · exact ⟨s, exec_live (execWalkWeirRefill.eq_1 ..) hlive (congrArg _ (if_pos hnow)), rfl⟩
  · refine ⟨_, exec_live (execWalkWeirRefill.eq_1 ..) hlive (congrArg _ (if_neg hnow)), rfl, rfl, atLeast1_eq _, rfl,
      fun k hk => ?_, fun k hk => ?_⟩
    · refine (congrArg Ctx.walks (Ctx.refilled s.ctxs _ _ k)).trans ?_
      rw [← atLeast1_eq]
      exact congrArg Ctx.walks (if_neg hk)
    · exact (Ctx.refilled s.ctxs _ _ k).trans (if_pos hk)
  · exact ⟨_, exec_live (execXltInval.eq_1 ..) hlive rfl, State.invalidate_post _ hroom⟩
  · refine ⟨_, exec_live (execXltInval.eq_1 ..) hlive (congrArg _ (if_pos hfull)), ?_, rfl⟩
    exact State.get_put_self _ _ _
  · refine ⟨({ s with xlt := { s.xlt with invals := r } }).put Reg.XLT_INVAL_DONE_SEQ n,
      exec_live (execInvalidateComplete.eq_1 ..) hlive (by rw [hinv]), ?_, rfl, rfl⟩
    exact (State.get_put_self _ _ _).trans (Nat.mod_eq_of_lt hn)
  · constructor
    · refine ⟨s.faultResult frStale, exec_live (execResume.eq_1 ..) hlive (by rw [hnone]), s.faultResult_get (by decide), rfl⟩
    · refine ⟨s.faultResult frStale, exec_live (execKill.eq_1 ..) hlive (by rw [hnone]), s.faultResult_get (by decide), rfl⟩
  · have hfree := State.freeSusp_written tok.toNat hwr
    constructor
    · refine ⟨_, exec_resume hlive hx hu, State.faultResult_get _ (by decide), ?_, fun p hp => ?_⟩
      · rw [hfree]
        exact suspOf_filtered _ _
      · rw [hfree]
        exact State.pkt_updPkt hp fun _ => rfl
    · refine ⟨_, exec_kill hlive hx hu, State.faultResult_get _ (by decide), ?_, fun p hp => ?_⟩
      · rw [hfree]
        refine (congrArg (fun x : Xlt => x.susp.find? _) (State.dmaStart_xlt _ _)).trans (suspOf_filtered _ _)
      · rw [hfree]
        exact State.dmaLeave_pkt hp (fun _ => Pkt.finish_index _ _) (Pkt.finish_ended _ _)
  · refine ⟨_, exec_fqBaseWrite hlive value hwr, s.fqBased_get _ _⟩
  · refine ⟨_, exec_fqHeadWrite hlive value hwr, ?_, ?_⟩
    · exact (State.get_put_self _ _ _).trans (Nat.mod_eq_of_lt value.isLt)
    · exact State.get_put_ne _ _ _ _ (by decide)

end Sys2Proof.Machine

namespace Sys2Proof.Machine

/-! ## Fault records as steps (R671) -/

/-- `t` is `s` after `k` more fault records: only the reports, WAT_STATUS and the free values differ. -/
structure State.Filed (s t : State) (k : Nat) : Prop where
  rest : t = { s with conc := t.conc, regs := t.regs, freeCtr := t.freeCtr }
  nextId : t.conc.nextId = s.conc.nextId + k
  log : t.conc.log = s.conc.log
  inbox : t.conc.inbox = s.conc.inbox
  get : ∀ g : Fld, g.key ≠ Reg.WAT_STATUS_HELD.key → g.key ≠ Reg.WAT_STATUS_HOLD_OVF.key → t.get g = s.get g

theorem State.Filed.refl (s : State) : s.Filed s 0 := ⟨rfl, rfl, rfl, rfl, fun _ _ _ => rfl⟩

theorem State.hold_get (s : State) (r : FaultRec) (g : Fld) (h1 : g.key ≠ Reg.WAT_STATUS_HELD.key)
    (h2 : g.key ≠ Reg.WAT_STATUS_HOLD_OVF.key) : (s.hold r).get g = s.get g := by
  unfold State.hold
  split
  · split
    · rfl
    · exact State.get_put_ne _ _ _ _ h2
  split
  · exact State.get_put_ne _ _ _ _ h1
  · exact State.get_put_ne _ _ _ _ h2

theorem State.faultC_filed (s : State) (code unit src detail : Nat) (cid qid cause : Option Nat) :
    s.Filed (s.faultC code unit src detail cid qid cause) 1 := by
  obtain ⟨c, v, e, hid, hlog, hin⟩ := s.faultC_shape code unit src detail cid qid cause
  refine ⟨by rw [e], by rw [e]; exact hid, by rw [e]; exact hlog, by rw [e]; exact hin, fun g h1 h2 => ?_⟩
  have key : ∀ (u : State) (r : FaultRec), (let v := { u with conc := { u.conc with nextId := u.conc.nextId + 1 } }
      if v.domLive 1 then v.send (.fault r) else v.hold r).get g = u.get g := by
    intro u r
    dsimp only
    split
    · rfl
    · exact State.hold_get _ _ _ h1 h2
  unfold State.faultC
  cases detailOpen code
  · exact key s _
  · exact key s.tookFree _

theorem State.fault_filed (s : State) (code unit src detail : Nat) : s.Filed (s.fault code unit src detail) 1 :=
  s.faultC_filed ..

theorem State.Filed.trans {s t u : State} {j k : Nat} (h : s.Filed t j) (h' : t.Filed u k) : s.Filed u (j + k) where
  rest := h'.rest.trans (by rw [h.rest])
  nextId := by rw [h'.nextId, h.nextId, Nat.add_assoc]
  log := h'.log.trans h.log
  inbox := h'.inbox.trans h.inbox
  get g h1 h2 := (h'.get g h1 h2).trans (h.get g h1 h2)

/-! ## A link port trains (R507-R509, R535, R537, R705) -/

theorem exec_link {I : Instr} {s t : State} {f : State → Out} (hI : exec I s = whenLink s f) (hy : s.yard = true)
    (h : s.domLive 8 = true) (hf : f s = .next t) : exec I s = .next t :=
  hI.trans ((if_pos hy).trans ((whenLive_open f h).trans hf))

/-- The state of port `n` and its data with the time at which it took the state; other ports are as in `s`. -/
structure PortGoes (s t : State) (n v : Nat) (x : Port) : Prop where
  state : t.portState n = v
  port : t.port n = { x with since := s.time (copyLink n), heard := s.time (copyLink n), ackAt := s.time (copyLink n) }
  others : ∀ k, k ≠ n → t.port k = s.port k

theorem PortGoes.claim {s t : State} {n v : Nat} {x : Port} (h : PortGoes s t n v x) : t.portState n = v ∧
    t.port n = { x with since := s.time (copyLink n), heard := s.time (copyLink n), ackAt := s.time (copyLink n) } ∧
    ∀ k, k ≠ n → t.port k = s.port k := ⟨h.state, h.port, h.others⟩

/-- What follows a port's new state without touching ports keeps it. -/
theorem PortGoes.keep {s t u : State} {n v : Nat} {x : Port} (h : PortGoes s t n v x)
    (hp : ∀ k, u.port k = t.port k) (hs : u.portState n = t.portState n) : PortGoes s u n v x :=
  ⟨hs.trans h.state, (hp n).trans h.port, fun k hk => (hp k).trans (h.others k hk)⟩

theorem PortGoes.put {s t : State} {n v : Nat} {x : Port} (h : PortGoes s t n v x) (f : Fld) (w : Nat)
    (hf : (Reg.LNK_PORT_STATUS_STATE n).key ≠ f.key) : PortGoes s (t.put f w) n v x :=
  h.keep (fun _ => rfl) (State.get_put_ne _ _ _ _ hf)

theorem status_ne_wat {n : Nat} (hn : n < 6) : (Reg.LNK_PORT_STATUS_STATE n).key ≠ Reg.WAT_STATUS_HELD.key ∧
    (Reg.LNK_PORT_STATUS_STATE n).key ≠ Reg.WAT_STATUS_HOLD_OVF.key := by
  simp only [Fld.key, Reg.LNK_PORT_STATUS, Reg.WAT_STATUS]
  omega

/-- A port takes a new state, with the time as it is, from a state that differs in port `n` alone. -/
theorem PortGoes.set {s u : State} {n v : Nat} (hv : v < 16) (ht : u.time (copyLink n) = s.time (copyLink n))
    (ho : ∀ k, k ≠ n → u.port k = s.port k) : PortGoes s (u.setPortState n v) n v (u.port n) where
  state := (State.get_put_self _ _ _).trans (Nat.mod_eq_of_lt hv)
  port := by
    rw [← ht]
    exact (State.port_setPort ..).trans (if_pos rfl)
  others k hk := (State.port_setPort ..).trans ((if_neg hk).trans (ho k hk))

theorem PortGoes.setPort (s : State) (n : Nat) {v : Nat} (hv : v < 16) (x : Port) :
    PortGoes s ((s.setPort n x).setPortState n v) n v x := by
  have h := PortGoes.set (s := s) (u := s.setPort n x) (n := n) hv rfl fun k hk => (s.port_setPort n k x).trans (if_neg hk)
  rwa [s.port_setPort, if_pos rfl] at h

theorem PortGoes.setPortState (s : State) (n : Nat) {v : Nat} (hv : v < 16) : PortGoes s (s.setPortState n v) n v (s.port n) :=
  PortGoes.set hv rfl fun _ _ => rfl

theorem State.setPortState_get (s : State) (n v : Nat) {g : Fld} (h : g.key ≠ (Reg.LNK_PORT_STATUS_STATE n).key) :
    (s.setPortState n v).get g = s.get g := State.get_put_ne _ _ _ _ h

theorem State.Filed.port {s t : State} {j : Nat} (h : s.Filed t j) (k : Nat) : t.port k = s.port k := by
  rw [h.rest]
  rfl

theorem State.Filed.time {s t : State} {j : Nat} (h : s.Filed t j) (k : Nat) : t.time k = s.time k := by
  rw [h.rest]
  rfl

theorem State.Filed.stop {s t : State} {j : Nat} (h : s.Filed t j) : t.stop = s.stop := by
  rw [h.rest]

theorem State.Filed.portState {s t : State} {j n : Nat} (h : s.Filed t j) (hn : n < 6) : t.portState n = s.portState n :=
  h.get _ (status_ne_wat hn).1 (status_ne_wat hn).2

theorem PortGoes.filed {s t u : State} {n v j : Nat} {x : Port} (h : PortGoes s t n v x) (hf : t.Filed u j) (hn : n < 6) :
    PortGoes s u n v x := h.keep hf.port (hf.portState hn)

/-- After a fault record, the port of the recorded state goes where it goes from the state before. -/
theorem PortGoes.after {s t u : State} {n v j : Nat} {x : Port} (h : PortGoes t u n v x) (hf : s.Filed t j) :
    PortGoes s u n v x := ⟨h.state, by rw [h.port, hf.time], fun k hk => (h.others k hk).trans (hf.port k)⟩

theorem State.useLanes_port (s : State) (n k : Nat) (g : Nat × Nat) : (s.useLanes n g).port k = s.port k := rfl

theorem widest_mem {l : Nat} {g : Nat × Nat} (h : widest l = some g) : g ∈ laneGroups := List.mem_of_find?_eq_some h

theorem widest_fits {l : Nat} {g : Nat × Nat} (h : widest l = some g) : g.1 < 256 ∧ g.2 < 4 := by
  have hg := widest_mem h
  simp only [laneGroups, List.mem_cons, List.not_mem_nil, or_false] at hg
  rcases hg with rfl | rfl | rfl | rfl | rfl | rfl | rfl <;> decide

theorem State.useLanes_width (s : State) (n : Nat) {g : Nat × Nat} (h : g.2 < 4) :
    (s.useLanes n g).get (Reg.LNK_PORT_STATUS_WIDTH n) = g.2 := (State.get_put_self _ _ _).trans (Nat.mod_eq_of_lt h)

theorem State.useLanes_laneOk (s : State) (n : Nat) {g : Nat × Nat} (h : g.1 < 256) :
    (s.useLanes n g).get (Reg.LNK_PORT_STATUS_LANE_OK n) = g.1 := by
  refine (State.get_put_ne _ _ _ _ ?_).trans ((State.get_put_self _ _ _).trans (Nat.mod_eq_of_lt h))
  simp only [Fld.key]
  omega

/-- An earlier failure leads to the wait for the next attempt. -/
theorem State.trainFail_again (s : State) (n step : Nat) (h : (s.port n).attempts < 2) :
    PortGoes s (s.trainFail n step) n pRetryWait { s.port n with attempts := (s.port n).attempts + 1, failStep := step } := by
  rw [State.trainFail]
  dsimp only
  rw [if_pos h]
  exact PortGoes.setPort s n (by decide) _

theorem State.trainFail_conc (s : State) (n step : Nat) (h : (s.port n).attempts < 2) :
    (s.trainFail n step).conc = s.conc := by
  rw [State.trainFail]
  dsimp only
  rw [if_pos h]
  rfl

/-- A port with nothing to send that is not the follower's upstream goes to DOWN and loses its link layer only. -/
theorem State.portDown_post (s : State) (n : Nat) (hn : n < 6) (htx : (s.port n).tx = [])
    (hup : s.get Reg.LNK_TIME_CTRL_UPSTREAM ≠ n) :
    PortGoes s (s.portDown n) n pDown { Port.reset with attempts := (s.port n).attempts, failStep := (s.port n).failStep } ∧
      (s.portDown n).conc = s.conc ∧ (s.portDown n).stop = s.stop ∧ (s.portDown n).get (Reg.LNK_PORT_STATUS_WIDTH n) = 0 := by
  have hwait : (s.port n).waiting = [] := by
    rw [Port.waiting, htx]
    rfl
  rw [State.portDown]
  dsimp only
  rw [hwait, List.foldl_nil, if_neg]
  · refine ⟨?_, rfl, rfl, ?_⟩
    · refine PortGoes.keep (PortGoes.setPort s n (v := pDown) (by decide)
        { Port.reset with attempts := (s.port n).attempts, failStep := (s.port n).failStep }) (fun _ => rfl) ?_
      exact (State.get_put_self _ _ _).trans (State.get_put_self _ _ _).symm
    · refine (State.setPortState_get _ _ _ (by simp only [Fld.key]; omega)).trans ?_
      refine (State.get_put_ne _ _ _ _ (by simp only [Fld.key, Reg.LNK_PORT_STATUS, Reg.LNK_PORT_CTRL]; omega)).trans ?_
      refine (State.get_put_ne _ _ _ _ (by simp only [Fld.key]; omega)).trans ?_
      refine (State.get_put_ne _ _ _ _ (by simp only [Fld.key]; omega)).trans ?_
      exact State.get_put_self _ _ _
  · have hkeys : ∀ f : Fld, f.off < Reg.LNK_TIME_CTRL → f.lo < 64 → Reg.LNK_TIME_CTRL_UPSTREAM.key ≠ f.key := by
      intro f h h'
      simp only [Fld.key, Reg.LNK_TIME_CTRL] at *
      omega
    refine fun h => hup (Eq.trans (Eq.symm ?_) h)
    refine (State.setPortState_get _ _ _ (hkeys _ (by simp only [Reg.LNK_PORT_STATUS, Reg.LNK_TIME_CTRL]; omega) (by simp))).trans ?_
    iterate 4
      refine (State.get_put_ne _ _ _ _ (hkeys _ (by simp only [Reg.LNK_PORT_STATUS, Reg.LNK_PORT_CTRL, Reg.LNK_TIME_CTRL]; omega) (by simp))).trans ?_
    rfl

theorem State.portReopening_none {s : State} (n : Nat) (h : s.stop = none) : s.portReopening n = false := by
  rw [State.portReopening, h]

/-- The third failure in a row leads to DOWN, with a record. -/
theorem State.trainFail_third (s : State) (n step : Nat) (hn : n < 6) (h : (s.port n).attempts = 2) (htx : (s.port n).tx = [])
    (hstop : s.stop = none) (hup : s.get Reg.LNK_TIME_CTRL_UPSTREAM ≠ n) : let t := s.trainFail n step
    t.portState n = pDown ∧ t.conc.nextId = s.conc.nextId + 1 ∧ t.get (Reg.LNK_PORT_STATUS_WIDTH n) = 0 ∧
      (t.port n).attempts = 3 ∧ ∀ k, k ≠ n → t.port k = s.port k := by
  rw [State.trainFail]
  dsimp only
  rw [if_neg (by omega), if_pos h]
  generalize hu : s.setPort n { s.port n with attempts := (s.port n).attempts + 1, failStep := step } = u
  have hport : u.port n = { s.port n with attempts := (s.port n).attempts + 1, failStep := step } := by
    rw [← hu]
    exact (s.port_setPort ..).trans (if_pos rfl)
  have hothers : ∀ k, k ≠ n → u.port k = s.port k := fun k hk => by
    rw [← hu]
    exact (s.port_setPort ..).trans (if_neg hk)
  have hconc : u.conc = s.conc := by rw [← hu]; rfl
  have hustop : u.stop = none := by rw [← hu]; exact hstop
  have huup : u.get Reg.LNK_TIME_CTRL_UPSTREAM ≠ n := by rw [← hu]; exact hup
  generalize hf : u.linkFault 0x40 n _ = f
  have hfiled : u.Filed f 1 := hf ▸ u.fault_filed ..
  have hfport := (hfiled.port n).trans hport
  obtain ⟨hgoes, hdc, hds, hw⟩ := f.portDown_post n hn (by rw [hfport]; exact htx)
    (by rw [hfiled.get _ (by decide) (by decide)]; exact huup)
  rw [if_neg (by rw [State.portReopening_none n (hds.trans (hfiled.stop.trans hustop))]; decide)]
  refine ⟨hgoes.state, ?_, hw, ?_, fun k hk => ?_⟩
  · rw [hdc, hfiled.nextId, hconc]
  · rw [hgoes.port, hfport]
    show (s.port n).attempts + 1 = 3
    omega
  · rw [hgoes.others k hk, hfiled.port, hothers k hk]

theorem State.narrow_filed (s : State) (n : Nat) : ∃ k, s.Filed (s.narrow n) k := by
  unfold State.narrow
  dsimp only
  split
  · exact ⟨0, .refl s⟩
  · exact ⟨1, s.fault_filed ..⟩

/-- A field of a port's or a peer's registers is none of WAT_STATUS. -/
theorem key_ne_wat {g : Fld} (h : g.off < Reg.LNK_TIME_CTRL) (hl : g.lo < 64) : g.key ≠ Reg.WAT_STATUS_HELD.key ∧
    g.key ≠ Reg.WAT_STATUS_HOLD_OVF.key := by
  simp only [Fld.key, Reg.WAT_STATUS, Reg.LNK_TIME_CTRL] at *
  omega

/-- Trained, a port is ACTIVE with no failed attempt; of the registers of other offsets nothing changes. -/
theorem State.trained_post (s : State) (n : Nat) (secure : Bool) (hn : n < 6) (hstop : s.stop = none) :
    PortGoes s (s.trained n secure) n pActive { s.port n with attempts := 0 } ∧
      (s.trained n secure).get (Reg.LNK_PORT_STATUS_SECURE n) = b2n secure ∧
      ∀ g : Fld, g.off < Reg.LNK_TIME_CTRL → g.lo < 64 → g.off ≠ Reg.LNK_PORT_STATUS n → (s.trained n secure).get g = s.get g := by
  rw [State.trained]
  dsimp only
  generalize hu : (((((s.setPort n { s.port n with attempts := 0 }).setPortState n pActive).put (Reg.LNK_PORT_STATUS_INV n)
    (s.port n).inverted).put (Reg.LNK_PORT_STATUS_REVERSED n) (b2n (s.port n).reversed)).put (Reg.LNK_PORT_STATUS_SECURE n)
    (b2n secure)) = u
  have hgoes : PortGoes s u n pActive { s.port n with attempts := 0 } := by
    rw [← hu]
    exact (((PortGoes.setPort s n (by decide) _).put _ _ (by simp only [Fld.key]; omega)).put _ _
      (by simp only [Fld.key]; omega)).put _ _ (by simp only [Fld.key]; omega)
  have hsec : u.get (Reg.LNK_PORT_STATUS_SECURE n) = b2n secure := by
    rw [← hu]
    exact (State.get_put_self _ _ _).trans (Nat.mod_eq_of_lt (show b2n secure < 2 ^ 1 by cases secure <;> decide))
  have hget : ∀ g : Fld, g.lo < 64 → g.off ≠ Reg.LNK_PORT_STATUS n → u.get g = s.get g := by
    intro g hl ho
    have hkey : ∀ f : Fld, f.off = Reg.LNK_PORT_STATUS n → f.lo < 64 → g.key ≠ f.key := by
      intro f hf hfl
      simp only [Fld.key]
      omega
    rw [← hu, State.get_put_ne _ _ _ _ (hkey _ rfl (by simp)), State.get_put_ne _ _ _ _ (hkey _ rfl (by simp)),
      State.get_put_ne _ _ _ _ (hkey _ rfl (by simp)), State.setPortState_get _ _ _ (hkey _ rfl (by simp))]
    rfl
  have hustop : u.stop = none := by
    rw [← hu]
    exact hstop
  have hfile : ∃ k, u.Filed ((if (s.port n).inverted ≠ 0 ∨ (s.port n).reversed = true then
      u.linkFault 0x42 n ((s.port n).inverted * 2 ^ 8 + b2n (s.port n).reversed * 2 ^ 16) else u).narrow n) k := by
    split
    · obtain ⟨k, hk⟩ := State.narrow_filed
        (u.linkFault 0x42 n ((s.port n).inverted * 2 ^ 8 + b2n (s.port n).reversed * 2 ^ 16)) n
      exact ⟨_, (u.fault_filed ..).trans hk⟩
    · exact u.narrow_filed n
  obtain ⟨k, hk⟩ := hfile
  rw [if_neg (by rw [State.portReopening_none n (hk.stop.trans hustop)]; decide)]
  have hoff : (Reg.LNK_PORT_STATUS_SECURE n).off < Reg.LNK_TIME_CTRL := by
    simp only [Reg.LNK_PORT_STATUS, Reg.LNK_TIME_CTRL]
    omega
  refine ⟨hgoes.filed hk hn, ?_, fun g ho hl hne => ?_⟩
  · rw [hk.get _ (key_ne_wat hoff (by simp)).1 (key_ne_wat hoff (by simp)).2, hsec]
  · rw [hk.get _ (key_ne_wat ho hl).1 (key_ne_wat ho hl).2, hget g hl hne]

/-- The peer that IDENT names, entered in the port's registers. -/
def State.peered (s : State) (n die port : Nat) (enc : Bool) : State :=
  let s := ((s.put (Reg.LNK_PEER_VALID n) 1).put (Reg.LNK_PEER_PEER_DIE n) die).put (Reg.LNK_PEER_PEER_PORT n) port
  s.setPort n { s.port n with peerEnc := enc }

theorem State.peered_get (s : State) (n : Nat) {die port : Nat} (enc : Bool) (hd : die < 512) (hp : port < 8) :
    let t := s.peered n die port enc
    t.get (Reg.LNK_PEER_VALID n) = 1 ∧ t.get (Reg.LNK_PEER_PEER_DIE n) = die ∧ t.get (Reg.LNK_PEER_PEER_PORT n) = port := by
  have hget : ∀ f, (s.peered n die port enc).get f = (((s.put (Reg.LNK_PEER_VALID n) 1).put (Reg.LNK_PEER_PEER_DIE n) die).put
    (Reg.LNK_PEER_PEER_PORT n) port).get f := fun _ => rfl
  have k1 : (Reg.LNK_PEER_VALID n).key ≠ (Reg.LNK_PEER_PEER_DIE n).key := by simp only [Fld.key]; omega
  have k2 : (Reg.LNK_PEER_VALID n).key ≠ (Reg.LNK_PEER_PEER_PORT n).key := by simp only [Fld.key]; omega
  have k3 : (Reg.LNK_PEER_PEER_DIE n).key ≠ (Reg.LNK_PEER_PEER_PORT n).key := by simp only [Fld.key]; omega
  refine ⟨?_, ?_, ?_⟩ <;> rw [hget]
  · rw [State.get_put_ne _ _ _ _ k2, State.get_put_ne _ _ _ _ k1, State.get_put_self]
    rfl
  · rw [State.get_put_ne _ _ _ _ k3, State.get_put_self]
    exact Nat.mod_eq_of_lt hd
  · rw [State.get_put_self]
    exact Nat.mod_eq_of_lt hp

theorem State.peered_port (s : State) (n die port : Nat) (enc : Bool) :
    (s.peered n die port enc).port n = { s.port n with peerEnc := enc } := (State.port_setPort ..).trans (if_pos rfl)

theorem State.peered_others (s : State) (n die port : Nat) (enc : Bool) {k : Nat} (hk : k ≠ n) :
    (s.peered n die port enc).port k = s.port k := (State.port_setPort ..).trans (if_neg hk)

theorem State.peered_admit (s : State) {n : Nat} (hn : n < 6) (die port : Nat) (enc : Bool) :
    (s.peered n die port enc).on Reg.LNK_ADMIT_REQUIRE_ENC = s.on Reg.LNK_ADMIT_REQUIRE_ENC := by
  have hkey : ∀ f : Fld, f.off = Reg.LNK_PEER n → f.lo < 64 → Reg.LNK_ADMIT_REQUIRE_ENC.key ≠ f.key := by
    intro f hf hfl
    simp only [Fld.key, hf, Reg.LNK_PEER, Reg.LNK_ADMIT]
    omega
  refine congrArg (· == 1) (?_ : State.get _ _ = State.get _ _)
  show ((((s.put (Reg.LNK_PEER_VALID n) 1).put (Reg.LNK_PEER_PEER_DIE n) die).put (Reg.LNK_PEER_PEER_PORT n) port).get _) = _
  rw [State.get_put_ne _ _ _ _ (hkey _ rfl (by simp)), State.get_put_ne _ _ _ _ (hkey _ rfl (by simp)),
    State.get_put_ne _ _ _ _ (hkey _ rfl (by simp))]

theorem State.identified_secure (s : State) {n : Nat} (die port : Nat)
    (hcheck : s.on (Reg.LNK_PORT_CTRL_CHECK_PEER n) = false) :
    s.identified n die port true = (s.peered n die port true).setPortState n pSecure := by
  rw [State.identified, if_neg (by simp [hcheck])]
  exact if_pos (.inl rfl)

theorem State.identified_active (s : State) {n : Nat} (hn : n < 6) (die port : Nat)
    (hcheck : s.on (Reg.LNK_PORT_CTRL_CHECK_PEER n) = false) (henc : s.on Reg.LNK_ADMIT_REQUIRE_ENC = false) :
    s.identified n die port false = (s.peered n die port false).trained n false := by
  rw [State.identified, if_neg (by simp [hcheck])]
  refine if_neg (fun h => ?_)
  rcases h with h | h
  · cases h
  · have hadmit := s.peered_admit hn die port false
    rw [henc] at hadmit
    exact absurd (hadmit.symm.trans h) (by decide)

theorem State.train_goes (s : State) (n : Nat) : PortGoes s (s.train n) n pDetect
    { s.port n with lanes := 0, inverted := 0, reversed := false, excluded := 0, keyed := false } :=
  PortGoes.setPort s n (by decide) _

theorem State.retrain_active (s : State) (n mask : Nat) (h : s.portState n = pActive) : PortGoes s (s.retrain n mask) n pRetrain
    { s.port n with excluded := (s.port n).excluded ||| mask } := by
  rw [State.retrain, if_pos h]
  exact PortGoes.setPort s n (by decide) _

theorem State.retrain_other (s : State) (n mask : Nat) (h : s.portState n ≠ pActive) : s.retrain n mask = s := if_neg h

/-- A port that ends its retrain in time carries on with the lanes it found, and sends its replay buffer again. -/
def State.retrained (s : State) (n l : Nat) (g : Nat × Nat) : State :=
  let p := s.port n
  let s := s.setPort n { p with lanes := l, again := p.replay }
  let s := if p.replay.isEmpty then s else s.sat (Reg.LNK_LL_COUNTS_REPLAYS n) 1
  ((s.useLanes n g).narrow n).put (Reg.LNK_PORT_CTRL_RETRAIN n) 0 |>.setPortState n pActive

theorem State.retrained_post (s : State) {n l : Nat} {g : Nat × Nat} (hn : n < 6) (hg : g.1 < 256 ∧ g.2 < 4) :
    PortGoes s (s.retrained n l g) n pActive { s.port n with lanes := l, again := (s.port n).replay } ∧
      (s.retrained n l g).get (Reg.LNK_PORT_STATUS_WIDTH n) = g.2 ∧
      (s.retrained n l g).get (Reg.LNK_PORT_STATUS_LANE_OK n) = g.1 ∧
      (s.retrained n l g).get (Reg.LNK_PORT_CTRL_RETRAIN n) = 0 := by
  rw [State.retrained]
  dsimp only
  generalize hu : (if (s.port n).replay.isEmpty = true then s.setPort n { s.port n with lanes := l, again := (s.port n).replay }
    else (s.setPort n { s.port n with lanes := l, again := (s.port n).replay }).sat (Reg.LNK_LL_COUNTS_REPLAYS n) 1) = u
  have hport : ∀ k, u.port k = (s.setPort n { s.port n with lanes := l, again := (s.port n).replay }).port k := by
    intro k
    rw [← hu]
    split <;> rfl
  have htime : u.time (copyLink n) = s.time (copyLink n) := by
    rw [← hu]
    split <;> rfl
  obtain ⟨k, hk⟩ := (u.useLanes n g).narrow_filed n
  have hself : ((u.useLanes n g).narrow n).port n = { s.port n with lanes := l, again := (s.port n).replay } :=
    (hk.port n).trans ((hport n).trans ((s.port_setPort ..).trans (if_pos rfl)))
  have hothers : ∀ j, j ≠ n → ((u.useLanes n g).narrow n).port j = s.port j := fun j hj =>
    (hk.port j).trans ((hport j).trans ((s.port_setPort ..).trans (if_neg hj)))
  have hoff : ∀ f : Fld, f.off = Reg.LNK_PORT_STATUS n → f.off < Reg.LNK_TIME_CTRL := by
    intro f hf
    simp only [hf, Reg.LNK_PORT_STATUS, Reg.LNK_TIME_CTRL]
    omega
  have hnarrow : ∀ f : Fld, f.off = Reg.LNK_PORT_STATUS n → f.lo < 64 → f.lo ≠ 0 →
      ((((u.useLanes n g).narrow n).put (Reg.LNK_PORT_CTRL_RETRAIN n) 0).setPortState n pActive).get f =
        (u.useLanes n g).get f := by
    intro f hf hl h0
    rw [State.setPortState_get _ _ _ (by simp only [Fld.key, hf]; omega), State.get_put_ne _ _ _ _
      (by simp only [Fld.key, hf, Reg.LNK_PORT_STATUS, Reg.LNK_PORT_CTRL]; omega),
      hk.get f (key_ne_wat (hoff f hf) hl).1 (key_ne_wat (hoff f hf) hl).2]
  refine ⟨?_, ?_, ?_, ?_⟩
  · have hgoes := PortGoes.set (s := s) (u := ((u.useLanes n g).narrow n).put (Reg.LNK_PORT_CTRL_RETRAIN n) 0) (n := n) (v := pActive)
      (by decide) ((hk.time _).trans htime) hothers
    rwa [show (((u.useLanes n g).narrow n).put (Reg.LNK_PORT_CTRL_RETRAIN n) 0).port n = _ from hself] at hgoes
  · exact (hnarrow _ rfl (by simp) (by simp)).trans (u.useLanes_width n hg.2)
  · exact (hnarrow _ rfl (by simp) (by simp)).trans (u.useLanes_laneOk n hg.1)
  · exact (State.setPortState_get _ _ _ (by simp only [Fld.key, Reg.LNK_PORT_STATUS, Reg.LNK_PORT_CTRL]; omega)).trans
      (State.get_put_self _ _ _)

/-- A port whose peer is lost goes to DOWN, with a record. -/
theorem State.peerLost_post (s : State) {n : Nat} (hn : n < 6) (htx : (s.port n).tx = [])
    (hup : s.get Reg.LNK_TIME_CTRL_UPSTREAM ≠ n) : (s.peerLost n).portState n = pDown ∧ ((s.peerLost n).port n).replay = [] ∧
      (s.peerLost n).conc.nextId = s.conc.nextId + 1 ∧ ∀ k, k ≠ n → (s.peerLost n).port k = s.port k := by
  rw [State.peerLost]
  generalize hf : s.linkFault 0x43 n _ = f
  have hfiled : s.Filed f 1 := hf ▸ s.fault_filed ..
  obtain ⟨hgoes, hdc, -, -⟩ := f.portDown_post n hn (by rw [hfiled.port]; exact htx)
    (by rw [hfiled.get _ (by decide) (by decide)]; exact hup)
  refine ⟨hgoes.state, by rw [hgoes.port]; rfl, by rw [hdc, hfiled.nextId], fun k hk => ?_⟩
  rw [hgoes.others k hk, hfiled.port]

/-! ### LNK_PORT_CTRL -/

/-- The fields that a write to LNK_PORT_CTRL always reaches. -/
def State.portCfg (s : State) (n v : Nat) : State :=
  (((s.put (Reg.LNK_PORT_CTRL_DIM n) (bits v 7 6)).put (Reg.LNK_PORT_CTRL_MIN_WIDTH n) (bits v 5 4)).put
    (Reg.LNK_PORT_CTRL_DATELINE n) (bits v 3 3)).put (Reg.LNK_PORT_CTRL_CHECK_PEER n) (bits v 2 2)

theorem State.writePortCtrl_eq (s : State) (n v : Nat) (h : bitAt v 1 = false) : s.writePortCtrl n v =
    if (s.portCfg n v).inStoppage 4 n then s.portCfg n v
    else if bitAt v 0 ∧ !((s.portCfg n v).on (Reg.LNK_PORT_CTRL_EN n)) then
      (((s.portCfg n v).put (Reg.LNK_PORT_CTRL_EN n) 1).setPort n Port.reset).train n
    else if !(bitAt v 0) ∧ (s.portCfg n v).on (Reg.LNK_PORT_CTRL_EN n) then (s.portCfg n v).disablePort n
    else s.portCfg n v := by
  rw [State.writePortCtrl]
  exact if_neg (by rw [h]; decide)

theorem State.portCfg_get (s : State) (n v : Nat) {g : Fld} (h : g.key / 64 ≠ Reg.LNK_PORT_CTRL n ∨ g.key % 64 < 2) :
    (s.portCfg n v).get g = s.get g := by
  have hkey : ∀ f : Fld, f.off = Reg.LNK_PORT_CTRL n → 2 ≤ f.lo → f.lo < 64 → g.key ≠ f.key := by
    intro f hf h2 h64 he
    have : f.key = f.off * 64 + f.lo := rfl
    omega
  rw [State.portCfg, State.get_put_ne _ _ _ _ (hkey _ rfl (by simp) (by simp)), State.get_put_ne _ _ _ _ (hkey _ rfl (by simp)
    (by simp)), State.get_put_ne _ _ _ _ (hkey _ rfl (by simp) (by simp)), State.get_put_ne _ _ _ _ (hkey _ rfl (by simp) (by simp))]

theorem State.portCfg_inStoppage (s : State) {n : Nat} (hn : n < 6) (v : Nat) :
    (s.portCfg n v).inStoppage 4 n = s.inStoppage 4 n := by
  rw [State.inStoppage, State.portCfg_get _ _ _ (.inl ?_)]
  · rfl
  · simp only [Fld.key, Reg.LNK_PORT_CTRL, Reg.PWR_SERVICE]
    omega

theorem State.portCfg_en (s : State) (n v : Nat) :
    (s.portCfg n v).get (Reg.LNK_PORT_CTRL_EN n) = s.get (Reg.LNK_PORT_CTRL_EN n) :=
  State.portCfg_get _ _ _ (.inr (by simp only [Fld.key]; omega))

theorem State.portCfg_dim (s : State) (n v : Nat) : (s.portCfg n v).get (Reg.LNK_PORT_CTRL_DIM n) = bits v 7 6 := by
  rw [State.portCfg, State.get_put_ne _ _ _ _ (by simp only [Fld.key]; omega), State.get_put_ne _ _ _ _
    (by simp only [Fld.key]; omega), State.get_put_ne _ _ _ _ (by simp only [Fld.key]; omega), State.get_put_self]
  exact Nat.mod_eq_of_lt (Nat.mod_lt _ (Nat.two_pow_pos _))

theorem State.portCfg_minWidth (s : State) (n v : Nat) : (s.portCfg n v).get (Reg.LNK_PORT_CTRL_MIN_WIDTH n) = bits v 5 4 := by
  rw [State.portCfg, State.get_put_ne _ _ _ _ (by simp only [Fld.key]; omega), State.get_put_ne _ _ _ _
    (by simp only [Fld.key]; omega), State.get_put_self]
  exact Nat.mod_eq_of_lt (Nat.mod_lt _ (Nat.two_pow_pos _))

/-- A port switched on begins to train from its reset state. -/
theorem State.enabled_post (s : State) (n : Nat) : let t := ((s.put (Reg.LNK_PORT_CTRL_EN n) 1).setPort n Port.reset).train n
    PortGoes s t n pDetect Port.reset ∧ t.get (Reg.LNK_PORT_CTRL_EN n) = 1 ∧
      t.get (Reg.LNK_PORT_CTRL_DIM n) = s.get (Reg.LNK_PORT_CTRL_DIM n) ∧
      t.get (Reg.LNK_PORT_CTRL_MIN_WIDTH n) = s.get (Reg.LNK_PORT_CTRL_MIN_WIDTH n) := by
  have hself : ((s.put (Reg.LNK_PORT_CTRL_EN n) 1).setPort n Port.reset).port n = Port.reset :=
    (State.port_setPort ..).trans (if_pos rfl)
  have htrain := State.train_goes ((s.put (Reg.LNK_PORT_CTRL_EN n) 1).setPort n Port.reset) n
  rw [hself] at htrain
  have hget : ∀ g : Fld, g.off = Reg.LNK_PORT_CTRL n → g.lo < 64 →
      (((s.put (Reg.LNK_PORT_CTRL_EN n) 1).setPort n Port.reset).train n).get g = (s.put (Reg.LNK_PORT_CTRL_EN n) 1).get g := by
    intro g hg hl
    exact State.setPortState_get _ _ _ (by simp only [Fld.key, hg, Reg.LNK_PORT_CTRL, Reg.LNK_PORT_STATUS]; omega)
  refine ⟨⟨htrain.state, htrain.port, fun k hk => ?_⟩, ?_, ?_, ?_⟩
  · exact (htrain.others k hk).trans ((State.port_setPort ..).trans (if_neg hk))
  · exact (hget _ rfl (by simp)).trans (State.get_put_self _ _ _)
  · exact (hget _ rfl (by simp)).trans (State.get_put_ne _ _ _ _ (by simp only [Fld.key]; omega))
  · exact (hget _ rfl (by simp)).trans (State.get_put_ne _ _ _ _ (by simp only [Fld.key]; omega))

theorem State.disablePort_post (s : State) (n : Nat) : (s.disablePort n).portState n = pDisabled ∧
    (s.disablePort n).port n = Port.reset ∧ (s.disablePort n).get (Reg.LNK_PORT_CTRL_EN n) = 0 ∧
    ∀ k, k ≠ n → (s.disablePort n).port k = s.port k := by
  refine ⟨?_, ?_, ?_, fun k hk => ?_⟩
  · refine (State.get_put_ne _ _ _ _ (by simp only [Fld.key, Reg.LNK_PORT_STATUS, Reg.LNK_PORT_CTRL]; omega)).trans ?_
    refine (State.get_put_ne _ _ _ _ (by simp only [Fld.key, Reg.LNK_PORT_STATUS, Reg.LNK_PORT_CTRL]; omega)).trans ?_
    refine (Tab.get_drop ..).trans (if_pos ?_)
    have hkey : (Reg.LNK_PORT_STATUS_STATE n).key / 64 = Reg.LNK_PORT_STATUS n := by simp only [Fld.key]; omega
    rw [hkey]
    simp
  · exact (Tab.get_drop ..).trans (if_pos (by simp))
  · exact (State.get_put_ne _ _ _ _ (by simp only [Fld.key]; omega)).trans (State.get_put_self _ _ _)
  · exact (Tab.get_drop ..).trans (if_neg (by simpa using hk))

theorem bitAt_toNat {w : Nat} (v : BitVec w) (i : Nat) : bitAt v.toNat i = v.getLsbD i := by
  rw [BitVec.getLsbD, Nat.testBit_eq_decide_div_mod_eq]
  rfl

theorem exec_linkPortEnable {s : State} {port : BitVec 3} (hy : s.yard = true) (hl : s.domLive 8 = true) (hn : port.toNat < 6)
    (v : BitVec 32) : exec (.linkPortEnable port v) s = .next (s.writePortCtrl port.toNat v.toNat) :=
  exec_link (execLinkPortEnable.eq_1 ..) hy hl (congrArg _ (if_pos hn))

/-- What a training step that ends in time does, by what it finds. -/
def State.stepFinds (s : State) (n : Nat) : TrainEnd → State
  | .detect lanes => if s.portState n = pDetect then
      (s.setPort n { s.port n with lanes := lanes.toNat }).setPortState n pEq else s
  | .eq => if s.portState n = pEq then s.setPortState n pAlign else s
  | .align inv rev mis => if s.portState n = pAlign then
      (s.setPort n { s.port n with lanes := logical rev ((s.port n).lanes &&& (255 - mis.toNat)),
                                   inverted := inv.toNat &&& (s.port n).lanes, reversed := rev }).setPortState n pWidth else s
  | .width good => if s.portState n = pWidth then
      let l := (s.port n).lanes &&& good.toNat
      let u := s.setPort n { s.port n with lanes := l }
      match widest l with
      | none => u.trainFail n pWidth
      | some g => if g.2 < u.minWidth n then u.trainFail n pWidth else (u.useLanes n g).setPortState n pFecLock
    else s
  | .fecLock => if s.portState n = pFecLock then s.setPortState n pIdent else s
  | .ident die peer enc => if s.portState n = pIdent then s.identified n die.toNat peer.toNat enc else s
  | .secure => if s.portState n = pSecure ∧ (s.port n).keyed then s.trained n true else s

theorem exec_trainingStep {s t : State} {port : BitVec 3} {fin : TrainEnd} (hy : s.yard = true) (hl : s.domLive 8 = true)
    (hin : s.portAge port.toNat ≤ stepLimit (s.portState port.toNat)) (h : s.stepFinds port.toNat fin = t) :
    exec (.trainingStep port fin) s = .next t :=
  exec_link (execTrainingStep.eq_1 ..) hy hl (congrArg _ ((if_neg (by omega)).trans h))

/-- Settles O41, step by step of a port's training. -/
theorem linkTraining : Obligations.LinkTraining := by
  intro s port hy hl hn n p st now from_ inTime others goes
  refine ⟨fun v h1 => ⟨fun hstop h0 hen => ?_, fun hstop h0 hen => ?_, fun hstop => ?_⟩, fun fin hlate => ?_,
    fun lanes hin hst => ?_, fun hin hst => ?_, fun inv mis rev hin hst => ?_,
    fun good hin hst => ⟨fun g hg hmin => ?_, fun hno hatt => ?_⟩, fun hin hst => ?_,
    fun die peer hin hst hcheck hstop => ⟨?_, fun henc => ?_⟩, fun die peer enc hin hst hcheck hdie hatt => ?_,
    fun hin hst hkey hstop => ?_, fun hlo hhi => ⟨fun hin => ?_, fun hlate hst hatt => ?_, fun hlate hst hatt => ?_,
      fun hlate hst hatt htx hstop hup => ?_⟩,
    fun hen => ⟨fun hst hage => ?_, fun hst hage => ?_, fun hst hage => ?_, fun hst hage => ?_⟩,
    fun l => ⟨fun hst => ?_, fun hst => ?_⟩, fun hst => ?_, ⟨fun hnow => ?_, fun hnow hst => ?_⟩,
    fun good g hin hst hg hmin => ?_, fun fin hst hfin htx hup => ?_⟩
  · have hcfg := s.writePortCtrl_eq n v.toNat ((bitAt_toNat v 1).trans h1)
    rw [s.portCfg_inStoppage hn, hstop, if_neg (by decide), if_pos ⟨(bitAt_toNat v 0).trans h0, by
      rw [State.on, s.portCfg_en, hen]; decide⟩] at hcfg
    obtain ⟨hgoes, hen', hdim, hmin⟩ := (s.portCfg n v.toNat).enabled_post n
    exact ⟨_, (exec_linkPortEnable hy hl hn v).trans (congrArg _ hcfg), ⟨hgoes.state, hgoes.port, hgoes.others⟩, hen',
      hdim.trans (s.portCfg_dim ..), hmin.trans (s.portCfg_minWidth ..)⟩
  · have hcfg := s.writePortCtrl_eq n v.toNat ((bitAt_toNat v 1).trans h1)
    have h0' : bitAt v.toNat 0 = false := (bitAt_toNat v 0).trans h0
    rw [s.portCfg_inStoppage hn, hstop, if_neg (by decide), if_neg (by simp [h0']), if_pos ⟨by simp [h0'], by
      rw [State.on, s.portCfg_en]; exact hen⟩] at hcfg
    exact ⟨_, (exec_linkPortEnable hy hl hn v).trans (congrArg _ hcfg), (s.portCfg n v.toNat).disablePort_post n⟩
  · have hcfg := s.writePortCtrl_eq n v.toNat ((bitAt_toNat v 1).trans h1)
    rw [s.portCfg_inStoppage hn, hstop, if_pos rfl] at hcfg
    exact ⟨_, (exec_linkPortEnable hy hl hn v).trans (congrArg _ hcfg),
      s.portCfg_get _ _ (.inl (by simp only [Fld.key, Reg.LNK_PORT_STATUS, Reg.LNK_PORT_CTRL]; omega)), rfl, s.portCfg_en _ _⟩
  · exact ⟨s, exec_link (execTrainingStep.eq_1 ..) hy hl (congrArg _ (if_pos hlate)), rfl⟩
  · exact ⟨_, exec_trainingStep hy hl hin (if_pos hst), (PortGoes.setPort s n (by decide) _).claim⟩
  · exact ⟨_, exec_trainingStep hy hl hin (if_pos hst), (PortGoes.setPortState s n (by decide)).claim⟩
  · exact ⟨_, exec_trainingStep hy hl hin (if_pos hst), (PortGoes.setPort s n (by decide) _).claim⟩
  · have hw := widest_fits hg
    have hgoes := PortGoes.set (s := s) (u := (s.setPort n { p with lanes := p.lanes &&& good.toNat }).useLanes n g) (n := n)
      (v := pFecLock) (by decide) rfl fun k hk => (s.port_setPort ..).trans (if_neg hk)
    refine ⟨_, exec_trainingStep hy hl hin ((if_pos hst).trans ?_), hgoes.state, ?_, ?_, hgoes.others⟩
    · dsimp only
      rw [hg]
      exact if_neg (Nat.not_lt.mpr hmin)
    · exact (State.setPortState_get _ _ _ (by simp only [Fld.key]; omega)).trans (State.useLanes_width _ _ hw.2)
    · exact (State.setPortState_get _ _ _ (by simp only [Fld.key]; omega)).trans (State.useLanes_laneOk _ _ hw.1)
  · have hfail := (s.setPort n { p with lanes := p.lanes &&& good.toNat }).trainFail_again n pWidth
    rw [s.port_setPort, if_pos rfl] at hfail
    have hgoes := hfail hatt
    refine ⟨(s.setPort n { p with lanes := p.lanes &&& good.toNat }).trainFail n pWidth, exec_trainingStep hy hl hin ((if_pos hst).trans ?_), hgoes.state, by rw [hgoes.port], by rw [hgoes.port],
      fun k hk => (hgoes.others k hk).trans ((s.port_setPort ..).trans (if_neg hk))⟩
    dsimp only
    cases hg : widest (p.lanes &&& good.toNat) with
    | none => rfl
    | some g => exact if_pos (hno g hg)
  · exact ⟨_, exec_trainingStep hy hl hin (if_pos hst),
      (PortGoes.setPortState s n (by decide)).claim⟩
  · have hset := PortGoes.set (s := s) (u := s.peered n die.toNat peer.toNat true) (n := n) (v := pSecure) (by decide) rfl
      fun k hk => s.peered_others n _ _ _ hk
    rw [s.peered_port] at hset
    obtain ⟨hvalid, hd, hp⟩ := s.peered_get n true die.isLt peer.isLt
    have hkeep : ∀ f : Fld, f.off = Reg.LNK_PEER n → f.lo < 64 →
        ((s.peered n die.toNat peer.toNat true).setPortState n pSecure).get f = (s.peered n die.toNat peer.toNat true).get f :=
      fun f hf hlo => State.setPortState_get _ _ _ (by simp only [Fld.key, hf, Reg.LNK_PEER, Reg.LNK_PORT_STATUS]; omega)
    exact ⟨_, exec_trainingStep hy hl hin ((if_pos hst).trans (s.identified_secure die.toNat peer.toNat hcheck)), hset.claim, (hkeep _ rfl (by simp)).trans hvalid,
      (hkeep _ rfl (by simp)).trans hd, (hkeep _ rfl (by simp)).trans hp⟩
  · obtain ⟨hgoes, hsec, hget⟩ := (s.peered n die.toNat peer.toNat false).trained_post n false hn hstop
    rw [s.peered_port] at hgoes
    have hoff : (Reg.LNK_PEER_PEER_DIE n).off < Reg.LNK_TIME_CTRL := by
      simp only [Reg.LNK_PEER, Reg.LNK_TIME_CTRL]
      omega
    have hne : (Reg.LNK_PEER_PEER_DIE n).off ≠ Reg.LNK_PORT_STATUS n := by simp only [Reg.LNK_PEER, Reg.LNK_PORT_STATUS]; omega
    exact ⟨_, exec_trainingStep hy hl hin ((if_pos hst).trans (s.identified_active hn die.toNat peer.toNat hcheck henc)),
      ⟨hgoes.state, hgoes.port, fun k hk => (hgoes.others k hk).trans (s.peered_others n _ _ _ hk)⟩, hsec,
      (hget _ hoff (by simp) hne).trans (s.peered_get n false die.isLt peer.isLt).2.1⟩
  · have hfiled : s.Filed (s.linkFault 0x4D n (die.toNat * 2 ^ 16)) 1 := s.fault_filed ..
    have hgoes := (s.linkFault 0x4D n (die.toNat * 2 ^ 16)).trainFail_again n pIdent (by rw [hfiled.port]; exact hatt)
    rw [hfiled.port] at hgoes
    refine ⟨_, exec_trainingStep hy hl hin ((if_pos hst).trans (if_pos ⟨hcheck, .inl hdie⟩)), (hgoes.after hfiled).claim, ?_⟩
    rw [State.trainFail_conc _ _ _ (by rw [hfiled.port]; exact hatt)]
    exact hfiled.nextId
  · obtain ⟨hgoes, hsec, -⟩ := s.trained_post n true hn hstop
    exact ⟨_, exec_trainingStep hy hl hin (if_pos ⟨hst, hkey⟩), hgoes.claim, hsec⟩
  · exact ⟨s, exec_link (execTrainingStepTimeout.eq_1 ..) hy hl (congrArg _ (if_pos (.inr (.inr hin)))), rfl⟩
  · have hnot : ¬(st = 0 ∨ 7 < st ∨ s.portAge n ≤ stepLimit st) := by
      simp only [pSecure] at hhi
      omega
    exact ⟨_, exec_link (execTrainingStepTimeout.eq_1 ..) hy hl (congrArg _ ((if_neg hnot).trans
      (congrArg (fun u : State => u.trainFail n st) (if_neg hst)))), (s.trainFail_again n st hatt).claim⟩
  · have hnot : ¬(st = 0 ∨ 7 < st ∨ s.portAge n ≤ stepLimit st) := by
      simp only [pSecure] at hhi
      omega
    have hfiled : s.Filed (s.linkFault 0x46 n 0) 1 := s.fault_filed ..
    have hgoes := (s.linkFault 0x46 n 0).trainFail_again n st (by rw [hfiled.port]; exact hatt)
    rw [hfiled.port] at hgoes
    refine ⟨_, exec_link (execTrainingStepTimeout.eq_1 ..) hy hl (congrArg _ ((if_neg hnot).trans
      (congrArg (fun u : State => u.trainFail n st) (if_pos hst)))), (hgoes.after hfiled).claim, ?_⟩
    rw [State.trainFail_conc _ _ _ (by rw [hfiled.port]; exact hatt)]
    exact hfiled.nextId
  · have hnot : ¬(st = 0 ∨ 7 < st ∨ s.portAge n ≤ stepLimit st) := by
      simp only [pSecure] at hhi
      omega
    exact ⟨_, exec_link (execTrainingStepTimeout.eq_1 ..) hy hl (congrArg _ ((if_neg hnot).trans
      (congrArg (fun u : State => u.trainFail n st) (if_neg hst)))), s.trainFail_third n st hn hatt htx hstop hup⟩
  · exact ⟨s, exec_link (execTrainingRetry.eq_1 ..) hy hl (congrArg _ ((if_neg (by rw [hen]; decide)).trans
      ((if_pos hst).trans (if_pos hage)))), rfl⟩
  · exact ⟨_, exec_link (execTrainingRetry.eq_1 ..) hy hl (congrArg _ ((if_neg (by rw [hen]; decide)).trans
      ((if_pos hst).trans (if_neg (Nat.not_lt.mpr hage))))), (s.train_goes n).claim⟩
  · exact ⟨s, exec_link (execTrainingRetry.eq_1 ..) hy hl (congrArg _ ((if_neg (by rw [hen]; decide)).trans
      ((if_neg (show st ≠ pRetryWait by rw [hst]; decide)).trans (if_neg fun h => absurd h.2 (Nat.not_le.mpr hage))))), rfl⟩
  · have hgoes := (s.setPort n { p with attempts := 3 }).train_goes n
    rw [s.port_setPort, if_pos rfl] at hgoes
    exact ⟨_, exec_link (execTrainingRetry.eq_1 ..) hy hl (congrArg _ ((if_neg (by rw [hen]; decide)).trans
      ((if_neg (show st ≠ pRetryWait by rw [hst]; decide)).trans (if_pos ⟨hst, hage⟩)))), hgoes.state, hgoes.port,
      fun k hk => (hgoes.others k hk).trans ((s.port_setPort ..).trans (if_neg hk))⟩
  · exact ⟨_, exec_link (execRetrain.eq_1 port (.lane l) s) hy hl rfl, (s.retrain_active n _ hst).claim⟩
  · exact ⟨_, exec_link (execRetrain.eq_1 port (.lane l) s) hy hl rfl, s.retrain_other n _ hst⟩
  · have hst' : (s.put (Reg.LNK_PORT_CTRL_RETRAIN n) 1).portState n = pActive :=
      (State.get_put_ne _ _ _ _ (by simp only [Fld.key, Reg.LNK_PORT_STATUS, Reg.LNK_PORT_CTRL]; omega)).trans hst
    have hgoes := (s.put (Reg.LNK_PORT_CTRL_RETRAIN n) 1).retrain_active n 0 hst'
    rw [Nat.or_zero] at hgoes
    refine ⟨_, exec_link (execRetrain.eq_1 port .driver s) hy hl (congrArg _ (if_pos hn)), ⟨hgoes.state, hgoes.port, hgoes.others⟩, ?_⟩
    rw [State.retrain, if_pos hst']
    exact (State.setPortState_get _ _ _ (by simp only [Fld.key, Reg.LNK_PORT_STATUS, Reg.LNK_PORT_CTRL]; omega)).trans
      (State.get_put_self _ _ _)
  · exact ⟨s, exec_link (execPeerSilent.eq_1 ..) hy hl (congrArg _ (if_pos (by rw [atLeast1_eq]; exact hnow))), rfl⟩
  · have hgoes := s.retrain_active n 0 hst
    rw [Nat.or_zero] at hgoes
    exact ⟨_, exec_link (execPeerSilent.eq_1 ..) hy hl (congrArg _ (if_neg (by rw [atLeast1_eq]; exact Nat.not_lt.mpr hnow))),
      hgoes.claim⟩
  · obtain ⟨hgoes, hw, hlane, hre⟩ := s.retrained_post (l := good.toNat &&& (255 - p.excluded)) hn (widest_fits hg)
    refine ⟨s.retrained n (good.toNat &&& (255 - p.excluded)) g, exec_link (execRetrainEnd.eq_1 port (.lanes good) s) hy hl
      (congrArg _ ((if_neg (not_not.mpr hst)).trans ?_)), hgoes.claim, hw, hlane, hre⟩
    refine (if_neg (hst ▸ Nat.not_lt.mpr hin : ¬stepLimit pRetrain < s.portAge n)).trans ?_
    dsimp only
    rw [hg]
    exact if_neg (Nat.not_lt.mpr hmin)
  · refine ⟨s.peerLost n, exec_link (execRetrainEnd.eq_1 ..) hy hl (congrArg _ ((if_neg (not_not.mpr hst)).trans ?_)),
      s.peerLost_post hn htx hup⟩
    cases fin with
    | failed => rfl
    | lanes good => exact if_pos (hst ▸ hfin.resolve_left (by simp))

end Sys2Proof.Machine

namespace Sys2Proof.Machine

/-! ## Frames (R510-R512, R534) -/

/-- No virtual channel holds more of the peer's slots than it has. -/
def Port.inRoom (p : Port) : Prop := ∀ vc, Tab.get 0 p.used vc ≤ 512

theorem Port.pick_canSend {p : Port} {b : Bool} {vc : Nat} (h : p.pick b = some vc) : p.canSend vc = true := by
  unfold Port.pick at h
  dsimp only at h
  split at h
  · next v r hold =>
    have hall : ∀ x ∈ v :: r, p.canSend x = true := by
      intro x hx
      rw [← hold] at hx
      have := (List.mem_filter.mp hx).2
      simp only [Bool.and_eq_true] at this
      exact this.1
    have hmem : ∀ (l : List Nat) (a : Nat),
        l.foldl (fun a vc => if Tab.get 0 p.waits a < Tab.get 0 p.waits vc then vc else a) a ∈ a :: l := by
      intro l
      induction l with
      | nil => exact fun a => List.mem_singleton_self a
      | cons x l ih =>
        intro a
        rw [List.foldl_cons]
        split
        · exact List.mem_cons_of_mem _ (ih x)
        · rcases List.mem_cons.mp (ih a) with h | h
          · rw [h]
            exact List.mem_cons_self
          · exact List.mem_cons_of_mem _ (List.mem_cons_of_mem _ h)
    cases h
    exact hall _ (hmem r v)
  · obtain ⟨x, -, hx⟩ := List.exists_of_findSome?_eq_some h
    exact List.find?_some hx

/-- Slots filled take places of channels that have them, and change only what waits and what is used. -/
theorem Port.fill_shape (f : Nat) : ∀ (k : Nat) (p : Port), ∃ tx used waits,
    (p.fill f k).1 = { p with tx := tx, used := used, waits := waits } ∧ (p.inRoom → ∀ vc, Tab.get 0 used vc ≤ 512) := by
  intro k
  induction k with
  | zero => exact fun p => ⟨p.tx, p.used, p.waits, rfl, id⟩
  | succ k ih =>
    intro p
    unfold Port.fill
    cases hpick : p.pick (bitAt f k) with
    | none => exact ⟨p.tx, p.used, p.waits, rfl, id⟩
    | some vc =>
      dsimp only
      cases htx : Tab.get [] p.tx vc with
      | nil => exact ⟨p.tx, p.used, p.waits, rfl, id⟩
      | cons x r =>
        dsimp only
        obtain ⟨tx, used, waits, e, hroom⟩ := ih { p with
          tx := p.tx.set vc r, used := p.used.set vc (Tab.get 0 p.used vc + 1), waits := p.waits.set vc 0 }
        refine ⟨tx, used, waits, e, fun hp => hroom fun k => ?_⟩
        have hsend := Port.pick_canSend hpick
        simp only [Port.canSend, Bool.and_eq_true, decide_eq_true_eq] at hsend
        show Tab.get 0 (p.used.set vc _) k ≤ 512
        rw [Tab.get_set]
        split
        · exact hsend.2
        · exact hp k

theorem Port.aged_shape (p b : Port) : ∃ waits, p.aged b = { p with waits := waits } := by
  have key : ∀ (l : List Nat) (q : Port), (∃ w, q = { p with waits := w }) → ∃ w, l.foldl (fun p vc =>
      if (Tab.get [] p.tx vc).isEmpty then { p with waits := p.waits.set vc 0 }
      else if Tab.get 0 p.used vc = Tab.get 0 b.used vc then { p with waits := p.waits.set vc (Tab.get 0 p.waits vc + 1) }
      else p) q = { p with waits := w } := by
    intro l
    induction l with
    | nil => exact fun q hq => hq
    | cons vc l ih =>
      rintro q ⟨w, rfl⟩
      refine ih _ ?_
      dsimp only
      split
      · exact ⟨_, rfl⟩
      split
      · exact ⟨_, rfl⟩
      · exact ⟨w, rfl⟩
  exact key _ p ⟨p.waits, rfl⟩

theorem Port.creditOut_shape (p : Port) : ∃ owed c, p.creditOut = ({ p with owed := owed }, c) := by
  unfold Port.creditOut
  split
  · exact ⟨p.owed, none, rfl⟩
  · exact ⟨_, _, rfl⟩

/-- A sequenced frame takes the next number, enters the replay buffer and leaves. -/
theorem Port.sequence_shape (p : Port) (ty : FrameTy) (slots : List Slot) : ∃ owed c,
    p.sequence ty slots = { p with
      owed := owed, txSeq := (p.txSeq + 1) % 4096,
      replay := p.replay ++ [⟨ty, BitVec.ofNat 12 p.txSeq, 0, false, false, p.kepoch, slots, c⟩],
      sent := p.sent ++ [p.stampFrame ⟨ty, BitVec.ofNat 12 p.txSeq, 0, false, false, p.kepoch, slots, c⟩],
      nakSent := p.nakSent || p.nakDue, nakDue := false } := by
  obtain ⟨owed, c, e⟩ := p.creditOut_shape
  refine ⟨owed, c, ?_⟩
  unfold Port.sequence
  rw [e]
  rfl

/-- `q` is `p` after one frame more, which carries what `p` acknowledges. -/
structure Port.Sends (p q : Port) : Prop where
  sent : ∃ f : LFrame, q.sent = p.sent ++ [f] ∧ f.ack.toNat = p.ackNow % 4096 ∧ f.ackv = p.rxAny ∧ f.nak = p.nakDue
  room : p.inRoom → q.inRoom

theorem Port.stampFrame_acks (p : Port) (f : LFrame) : (p.stampFrame f).ack.toNat = p.ackNow % 4096 ∧
    (p.stampFrame f).ackv = p.rxAny ∧ (p.stampFrame f).nak = p.nakDue := ⟨BitVec.toNat_ofNat _ _, rfl, rfl⟩

theorem Port.emit_sends (p : Port) (f : LFrame) : p.Sends (p.emit f) := ⟨⟨_, rfl, p.stampFrame_acks f⟩, id⟩

theorem Port.nextFrame_sends (p : Port) (secure : Bool) (f : Nat) : p.Sends (p.nextFrame secure f).1 := by
  unfold Port.nextFrame
  dsimp only
  split
  · next x r _ =>
    have h := Port.emit_sends { p with again := r } x
    exact ⟨h.sent, h.room⟩
  split
  · exact p.emit_sends _
  split
  · obtain ⟨owed, c, e⟩ := Port.sequence_shape { p with groupLen := 0, groups := p.groups + 1 } .tag []
    rw [e]
    exact ⟨⟨_, rfl, Port.stampFrame_acks { p with groupLen := 0, groups := p.groups + 1 } _⟩, id⟩
  split
  · exact p.emit_sends _
  · obtain ⟨tx, used, waits, hq, hroom⟩ := p.fill_shape f 4
    obtain ⟨w, hw⟩ := (p.fill f 4).1.aged_shape p
    obtain ⟨owed, c, e⟩ := Port.sequence_shape { (p.fill f 4).1.aged p with groupLen := if secure then p.groupLen + 1 else 0 }
      .data (p.fill f 4).2
    rw [e, hw, hq]
    exact ⟨⟨_, rfl, Port.stampFrame_acks { p with tx := tx, used := used, waits := w, groupLen := _ } _⟩, hroom⟩

/-- A replayed frame goes first, stamped anew. -/
theorem Port.nextFrame_again {p : Port} {x : LFrame} {r : List LFrame} (h : p.again = x :: r) (secure : Bool) (f : Nat) :
    (p.nextFrame secure f).1 = { p with again := r }.emit x := by
  unfold Port.nextFrame
  rw [h]

/-- With one packet of one slot waiting, its channel is the only one that can send. -/
theorem Port.canSend_lone {p : Port} {vc : Nat} {x : Slot} (htx : p.tx = [(vc, [x])]) (hu : Tab.get 0 p.used vc < 512) (k : Nat) :
    p.canSend k = decide (k = vc) := by
  unfold Port.canSend
  rw [htx]
  by_cases hk : k = vc
  · subst hk
    simp [Tab.get, hu]
  · have hk' : ¬vc = k := fun h => hk h.symm
    simp [Tab.get, hk, hk']

theorem filter_range_single (v : Nat) (b : Bool) : ∀ n, v < n →
    (List.range n).filter (fun k => decide (k = v) && b) = if b then [v] else [] := by
  intro n hv
  cases b with
  | false => simp
  | true =>
    simp only [Bool.and_true, if_true]
    induction n with
    | zero => cases hv
    | succ n ih =>
      rw [List.range_succ, List.filter_append]
      by_cases h : v = n
      · subst h
        have : (List.range v).filter (fun k => decide (k = v)) = [] := by
          refine List.filter_eq_nil_iff.mpr fun k hk => ?_
          have := List.mem_range.mp hk
          simp only [decide_eq_true_eq]
          omega
        simp [this]
      · rw [ih (by omega)]
        have h' : ¬n = v := fun e => h e.symm
        simp [h']

theorem Port.pick_lone {p : Port} {vc : Nat} {x : Slot} (hv : vc < 6) (htx : p.tx = [(vc, [x])])
    (hu : Tab.get 0 p.used vc < 512) (b : Bool) : p.pick b = some vc := by
  have hold : (List.range 6).filter (fun k => p.canSend k && decide (64 ≤ Tab.get 0 p.waits k)) =
      if decide (64 ≤ Tab.get 0 p.waits vc) then [vc] else [] := by
    rw [← filter_range_single vc _ 6 hv]
    refine List.filter_congr fun k _ => ?_
    rw [Port.canSend_lone htx hu]
    by_cases hk : k = vc
    · rw [hk]
    · simp [hk]
  unfold Port.pick
  dsimp only
  rw [hold]
  split
  · next v r h =>
    split at h
    · cases h
      rfl
    · cases h
  · have hsend := funext (Port.canSend_lone htx hu)
    rw [hsend]
    cases b <;> interval_cases vc <;> rfl

theorem Port.pick_empty {p : Port} {vc : Nat} (htx : p.tx = [(vc, [])]) (b : Bool) : p.pick b = none := by
  have hnone : ∀ k, p.canSend k = false := by
    intro k
    unfold Port.canSend
    rw [htx]
    by_cases hk : vc = k <;> simp [Tab.get, hk]
  unfold Port.pick
  dsimp only
  have hold : (List.range 6).filter (fun k => p.canSend k && decide (64 ≤ Tab.get 0 p.waits k)) = [] := by
    refine List.filter_eq_nil_iff.mpr fun k _ => ?_
    rw [hnone]
    simp
  rw [hold, funext hnone]
  cases b <;> rfl

theorem Port.fill_lone {p : Port} {vc : Nat} {x : Slot} (hv : vc < 6) (htx : p.tx = [(vc, [x])])
    (hu : Tab.get 0 p.used vc < 512) (f k : Nat) : (p.fill f (k + 1)).2 = [x] := by
  have hget : Tab.get [] p.tx vc = [x] := by
    rw [htx]
    exact if_pos rfl
  have hset : p.tx.set vc [] = [(vc, [])] := by
    rw [htx]
    exact if_pos rfl
  have hrest : ∀ q : Port, q.tx = [(vc, [])] → q.fill f k = (q, []) := by
    intro q hq
    cases k with
    | zero => rfl
    | succ k =>
      unfold Port.fill
      rw [Port.pick_empty hq]
  unfold Port.fill
  rw [Port.pick_lone hv htx hu]
  dsimp only
  rw [hget]
  dsimp only
  rw [hrest _ hset]

/-- A lone packet goes in the next DATA frame, which is kept until it is acknowledged. -/
theorem Port.nextFrame_lone {p : Port} {vc : Nat} {x : Slot} (hv : vc < 6) (hagain : p.again = []) (hrep : p.replay.length < 512)
    (htx : p.tx = [(vc, [x])]) (hu : Tab.get 0 p.used vc < 512) (f : Nat) : (p.nextFrame false f).2 = 64 ∧
      ∃ g : LFrame, g.ty = .data ∧ g.seq = BitVec.ofNat 12 p.txSeq ∧ g.slots = [x] ∧
        (p.nextFrame false f).1.replay = p.replay ++ [g] ∧ (p.nextFrame false f).1.sent = p.sent ++ [p.stampFrame g] ∧
        (p.nextFrame false f).1.txSeq = (p.txSeq + 1) % 4096 := by
  have hxs := Port.fill_lone hv htx hu f 3
  obtain ⟨tx, used, waits, hq, -⟩ := p.fill_shape f 4
  obtain ⟨w, hw⟩ := (p.fill f 4).1.aged_shape p
  obtain ⟨owed, c, e⟩ := Port.sequence_shape { (p.fill f 4).1.aged p with groupLen := 0 } .data [x]
  unfold Port.nextFrame
  rw [hagain]
  dsimp only
  rw [if_neg (by omega), hxs, if_neg (by simp), if_neg (by simp)]
  refine ⟨rfl, ⟨.data, BitVec.ofNat 12 p.txSeq, 0, false, false, p.kepoch, [x], c⟩, rfl, rfl, rfl, ?_⟩
  rw [if_neg (by decide), e, hw, hq]
  exact ⟨rfl, rfl, rfl⟩

/-! ### A port that sends -/

/-- The state after port `n`'s next link-layer frame. -/
def State.frameSent (s : State) (n : Nat) : State :=
  let p := s.port n
  let (q, b) := p.nextFrame (s.on (Reg.LNK_PORT_STATUS_SECURE n)) (s.freeVal 4)
  let q := if p.replay.isEmpty then { q with ackAt := s.time (copyLink n) } else q
  ((s.setPort n q).wrap (Reg.LNK_TX_BYTES_BYTES n) b).tookFree

theorem State.frameSent_port (s : State) (n : Nat) : ∃ a, (s.frameSent n).port n =
    { ((s.port n).nextFrame (s.on (Reg.LNK_PORT_STATUS_SECURE n)) (s.freeVal 4)).1 with ackAt := a } := by
  have hself : (s.frameSent n).port n = (if (s.port n).replay.isEmpty then
      { ((s.port n).nextFrame (s.on (Reg.LNK_PORT_STATUS_SECURE n)) (s.freeVal 4)).1 with ackAt := s.time (copyLink n) }
      else ((s.port n).nextFrame (s.on (Reg.LNK_PORT_STATUS_SECURE n)) (s.freeVal 4)).1) :=
    (s.port_setPort n n _).trans (if_pos rfl)
  rw [hself]
  split
  · exact ⟨_, rfl⟩
  · exact ⟨_, rfl⟩

theorem State.frameSent_bytes (s : State) (n : Nat) : (s.frameSent n).get (Reg.LNK_TX_BYTES_BYTES n) =
    (s.get (Reg.LNK_TX_BYTES_BYTES n) +
      ((s.port n).nextFrame (s.on (Reg.LNK_PORT_STATUS_SECURE n)) (s.freeVal 4)).2) % 2 ^ 48 := State.get_wrap_self _ _ _

theorem State.frameSent_others (s : State) {n k : Nat} (h : k ≠ n) : (s.frameSent n).port k = s.port k :=
  (s.port_setPort n k _).trans (if_neg h)

theorem Port.Sends.stamped {p q : Port} (h : p.Sends q) (a : Nat) : p.Sends { q with ackAt := a } := ⟨h.sent, h.room⟩

theorem State.frameSent_sends (s : State) (n : Nat) : (s.port n).Sends ((s.frameSent n).port n) := by
  obtain ⟨a, h⟩ := s.frameSent_port n
  rw [h]
  exact ((s.port n).nextFrame_sends _ _).stamped a

theorem exec_linkFrameSend {s : State} {port : BitVec 3} (hy : s.yard = true) (hl : s.domLive 8 = true)
    (hst : s.portState port.toNat = pActive) :
    exec (.linkFrameSend port .data) s = .next (s.frameSent port.toNat) :=
  exec_link (execLinkFrameSend.eq_1 port .data s) hy hl (congrArg _ (if_pos hst))

/-- Whatever its type, a frame of an ACTIVE port carries what the port acknowledges and takes no place beyond the peer's room. -/
theorem gives_linkFrameSend {s : State} {port : BitVec 3} (hy : s.yard = true) (hl : s.domLive 8 = true)
    (hst : s.portState port.toNat = pActive) (ty : FrameTy) : Gives (.linkFrameSend port ty) s fun t =>
      (ty ≠ .ident → ∃ f : LFrame, (t.port port.toNat).sent = (s.port port.toNat).sent ++ [f] ∧
        f.ack.toNat = (s.port port.toNat).ackNow % 4096 ∧ f.ackv = (s.port port.toNat).rxAny ∧
        f.nak = (s.port port.toNat).nakDue) ∧
      ((s.port port.toNat).inRoom → (t.port port.toNat).inRoom) ∧ ∀ k, k ≠ port.toNat → t.port k = s.port k := by
  generalize hn : port.toNat = n at hst
  have hplain : ∀ g : LFrame, (s.setPort n ((s.port n).emit g)).port n = (s.port n).emit g := fun g =>
    (s.port_setPort ..).trans (if_pos rfl)
  have hothers : ∀ (g : LFrame) (k : Nat), k ≠ n → (s.setPort n ((s.port n).emit g)).port k = s.port k := fun g k hk =>
    (s.port_setPort ..).trans (if_neg hk)
  have hsent : (s.port n).Sends ((s.frameSent n).port n) := s.frameSent_sends n
  subst hn
  cases ty with
  | ident => exact ⟨s, exec_link (execLinkFrameSend.eq_1 port .ident s) hy hl
      (congrArg _ (if_neg (by rw [hst]; decide))), fun h => absurd rfl h, id, fun _ _ => rfl⟩
  | time =>
    refine ⟨_, exec_link (execLinkFrameSend.eq_1 port .time s) hy hl (congrArg _ (if_pos hst)), ?_⟩
    dsimp only
    rw [hplain]
    exact ⟨fun _ => (Port.emit_sends _ _).sent, (Port.emit_sends _ _).room, hothers _⟩
  | pace =>
    refine ⟨_, exec_link (execLinkFrameSend.eq_1 port .pace s) hy hl (congrArg _ (if_pos hst)), ?_⟩
    dsimp only
    rw [hplain]
    exact ⟨fun _ => (Port.emit_sends _ _).sent, (Port.emit_sends _ _).room, hothers _⟩
  | idle => exact ⟨_, exec_link (execLinkFrameSend.eq_1 port .idle s) hy hl (congrArg _ (if_pos hst)), fun _ => hsent.sent, hsent.room,
      fun _ hk => s.frameSent_others hk⟩
  | data => exact ⟨_, exec_linkFrameSend hy hl hst, fun _ => hsent.sent, hsent.room, fun _ hk => s.frameSent_others hk⟩
  | tag => exact ⟨_, exec_link (execLinkFrameSend.eq_1 port .tag s) hy hl (congrArg _ (if_pos hst)), fun _ => hsent.sent, hsent.room,
      fun _ hk => s.frameSent_others hk⟩

/-! ### A port that receives -/

/-- The counts of the codewords that end with a frame, and the time at which the port heard it. -/
def State.heard (s : State) (n c : Nat) (u : Bool) : State :=
  let s := (s.wrap (Reg.LNK_FEC_COUNTS_CORRECTED n) c).sat (Reg.LNK_FEC_COUNTS_UNCORR n) (b2n u)
  s.setPort n { s.port n with heard := s.time (copyLink n) }

theorem State.heard_port (s : State) (n c : Nat) (u : Bool) :
    (s.heard n c u).port n = { s.port n with heard := s.time (copyLink n) } := (State.port_setPort ..).trans (if_pos rfl)

theorem State.heard_others (s : State) {n k : Nat} (c : Nat) (u : Bool) (h : k ≠ n) : (s.heard n c u).port k = s.port k :=
  (State.port_setPort ..).trans (if_neg h)

theorem State.heard_get (s : State) {n : Nat} (c : Nat) (u : Bool) {g : Fld} (h1 : g.key ≠ (Reg.LNK_FEC_COUNTS_CORRECTED n).key)
    (h2 : g.key ≠ (Reg.LNK_FEC_COUNTS_UNCORR n).key) : (s.heard n c u).get g = s.get g :=
  (State.get_sat_ne _ _ _ _ h2).trans (State.get_put_ne _ _ _ _ h1)

theorem State.heard_corrected (s : State) (n c : Nat) (u : Bool) : (s.heard n c u).get (Reg.LNK_FEC_COUNTS_CORRECTED n) =
    (s.get (Reg.LNK_FEC_COUNTS_CORRECTED n) + c) % 2 ^ 48 :=
  (State.get_sat_ne _ _ _ _ (by simp only [Fld.key]; omega)).trans (State.get_wrap_self _ _ _)

/-- The state in which a port of an ACTIVE state decides on a frame that acknowledges nothing. -/
def State.weighed (s : State) (n c : Nat) (u : Bool) : State := (s.heard n c u).setPort n ((s.heard n c u).port n)

theorem State.weighed_port (s : State) (n c : Nat) (u : Bool) :
    (s.weighed n c u).port n = { s.port n with heard := s.time (copyLink n) } :=
  (State.port_setPort ..).trans ((if_pos rfl).trans (s.heard_port n c u))

theorem State.weighed_others (s : State) {n k : Nat} (c : Nat) (u : Bool) (h : k ≠ n) : (s.weighed n c u).port k = s.port k :=
  (State.port_setPort ..).trans ((if_neg h).trans (s.heard_others c u h))

theorem State.heard_active {s : State} {n : Nat} (c : Nat) (u : Bool) (h : s.portState n = pActive) :
    (s.heard n c u).portState n = pActive :=
  (s.heard_get c u (by simp only [Fld.key, Reg.LNK_PORT_STATUS, Reg.LNK_FEC_COUNTS]; omega)
    (by simp only [Fld.key, Reg.LNK_PORT_STATUS, Reg.LNK_FEC_COUNTS]; omega)).trans h

/-- What an ACTIVE port does with a frame that it has heard. -/
def State.judgeFrame (s : State) (n : Nat) (frame : LFrame) (check : FrameCheck) : State :=
  let bad := fun (s : State) => s.setPort n (s.port n).wantNak
  if check = .crcBad then (bad s).sat (Reg.LNK_LL_COUNTS_CRC_ERR n) 1
  else
    let p := (s.port n).takeAck frame
    let s := s.setPort n (if p.acked = (s.port n).acked then p else { p with ackAt := s.time (copyLink n) })
    let s := if frame.nak then s.replayAll n else s
    if frame.ty ≠ .data ∧ frame.ty ≠ .tag then s
    else
      let want := (s.port n).rxSeq
      if frame.seq.toNat = want then s.acceptFrame n frame (check == .tagBad)
      else if newer frame.seq.toNat ((want + 4095) % 4096) 12 then bad s
      else s.sat (Reg.LNK_LL_COUNTS_DUP_FRAMES n) 1

theorem exec_linkFrameReceive {s : State} {port : BitVec 3} (hy : s.yard = true) (hl : s.domLive 8 = true)
    (hst : s.portState port.toNat = pActive) (f : LFrame) (check : FrameCheck) (c : BitVec 16) (u : Bool) :
    exec (.linkFrameReceive port f check c u) s = .next ((s.heard port.toNat c.toNat u).judgeFrame port.toNat f check) := by
  refine exec_link (execLinkFrameReceive.eq_1 port f check c u s) hy hl (congrArg _ ?_)
  rw [if_neg (not_not.mpr hst)]
  exact if_neg (not_not.mpr (s.heard_active c.toNat u hst))

/-- A data frame that acknowledges nothing: accepted where it is the next expected, else NAKed or counted as a duplicate. -/
theorem State.judgeFrame_data (s : State) (n : Nat) {f : LFrame} (hty : f.ty = .data) (hnak : f.nak = false)
    (hackv : f.ackv = false) : s.judgeFrame n f .good =
      let w := s.setPort n (s.port n)
      if f.seq.toNat = (w.port n).rxSeq then w.acceptFrame n f false
      else if newer f.seq.toNat (((w.port n).rxSeq + 4095) % 4096) 12 then w.setPort n (w.port n).wantNak
      else w.sat (Reg.LNK_LL_COUNTS_DUP_FRAMES n) 1 := by
  have htake : (s.port n).takeAck f = s.port n := by
    rw [Port.takeAck, hackv]
    rfl
  simp only [State.judgeFrame, htake, hnak, hty, reduceCtorEq, if_false, if_true, Bool.false_eq_true, ne_eq, not_true_eq_false,
    false_and]
  rfl

theorem Port.wantNak_eq (p : Port) : p.wantNak = { p with nakDue := !p.nakSent || p.nakDue } := by
  unfold Port.wantNak
  by_cases h : p.nakSent = true
  · have hdue : (!p.nakSent || p.nakDue) = p.nakDue := by simp [h]
    rw [if_pos h, hdue]
  · have hdue : (!p.nakSent || p.nakDue) = true := by simp [h]
    rw [if_neg h, hdue]

/-- A lone packet's frame that is accepted outside a session delivers the packet. -/
theorem State.acceptFrame_lone (w : State) (n : Nat) {f : LFrame} {vc : BitVec 3} {h : Header} (hslots : f.slots = [.head vc h])
    (hlen : h.len = 0) (hsec : w.on (Reg.LNK_PORT_STATUS_SECURE n) = false) :
    let t := w.acceptFrame n f false
    t.link.arrived = w.link.arrived ++ [(n, h)] ∧ (t.port n).rxSeq = ((w.port n).rxSeq + 1) % 4096 ∧
      (∀ k, k ≠ n → t.port k = w.port k) ∧ t.regs = (w.wrap (Reg.LNK_RX_BYTES_BYTES n) 64).regs := by
  have hframe : ∀ u : State, ∃ p, u.deliverFrames n [f] = { u.setPort n p with
      link := { (u.setPort n p).link with arrived := u.link.arrived ++ [(n, h)] } } ∧ p = u.port n := by
    intro u
    refine ⟨u.port n, ?_, rfl⟩
    unfold State.deliverFrames
    simp [hslots, takeSlot, hlen]
    rfl
  rw [State.acceptFrame, hslots]
  dsimp only
  generalize hu : ((w.setPort n _).wrap (Reg.LNK_RX_BYTES_BYTES n) (64 * [Slot.head vc h].length)) = u
  have hon : u.on (Reg.LNK_PORT_STATUS_SECURE n) = false := by
    rw [← hu, ← hsec]
    exact congrArg (· == 1) (State.get_put_ne _ _ _ _ (by simp only [Fld.key, Reg.LNK_PORT_STATUS, Reg.LNK_RX_BYTES]; omega))
  have hself : (u.port n).rxSeq = ((w.port n).rxSeq + 1) % 4096 := by
    rw [← hu]
    exact congrArg Port.rxSeq ((w.port_setPort ..).trans (if_pos rfl))
  have hothers : ∀ k, k ≠ n → u.port k = w.port k := fun k hk => by
    rw [← hu]
    exact (w.port_setPort ..).trans (if_neg hk)
  have harr : u.link.arrived = w.link.arrived := by
    rw [← hu]
    rfl
  have hregs : u.regs = (w.wrap (Reg.LNK_RX_BYTES_BYTES n) 64).regs := by
    rw [← hu]
    rfl
  rw [if_pos (by rw [hon]; rfl)]
  obtain ⟨p, e, hp⟩ := hframe u
  rw [e]
  refine ⟨by rw [← harr], ?_, fun k hk => ?_, hregs⟩
  · refine (congrArg Port.rxSeq ((u.port_setPort n n p).trans (if_pos rfl))).trans ?_
    rw [hp, hself]
  · exact (u.port_setPort n k p).trans ((if_neg hk).trans (hothers k hk))

/-- A port that sends its replay buffer again. -/
def State.replayed (s : State) (n : Nat) : Port :=
  { s.port n with
    again := (s.port n).replay
    stalls := (s.port n).stalls + 1
    ackAt := s.time (copyLink n) }

theorem State.replayAll_eq (s : State) (n : Nat) (hrep : (s.port n).replay ≠ []) : s.replayAll n =
    let u := (s.setPort n (s.replayed n)).sat (Reg.LNK_LL_COUNTS_REPLAYS n) 1
    if (s.port n).stalls + 1 < 8 then u
    else ((u.setPort n { u.port n with stalls := 0 }).linkFault 0x44 n ((s.port n).acked * 2 ^ 16)).retrain n 0 :=
  if_neg (by simpa using hrep)

theorem State.replayAll_again (s : State) (n : Nat) (hrep : (s.port n).replay ≠ []) (hst : (s.port n).stalls + 1 < 8) :
    s.replayAll n = (s.setPort n (s.replayed n)).sat (Reg.LNK_LL_COUNTS_REPLAYS n) 1 := by
  rw [s.replayAll_eq n hrep]
  exact if_pos hst

/-- The eighth replay in a row without progress retrains the port, with a record. -/
theorem State.replayAll_retrains (s : State) {n : Nat} (hn : n < 6) (hrep : (s.port n).replay ≠ [])
    (hst : 8 ≤ (s.port n).stalls + 1) (hact : s.portState n = pActive) : (s.replayAll n).portState n = pRetrain ∧
      ((s.replayAll n).port n).again = (s.port n).replay ∧ (s.replayAll n).conc.nextId = s.conc.nextId + 1 ∧
      ∀ k, k ≠ n → (s.replayAll n).port k = s.port k := by
  rw [s.replayAll_eq n hrep]
  dsimp only
  rw [if_neg (by omega)]
  generalize hu : (s.setPort n (s.replayed n)).sat (Reg.LNK_LL_COUNTS_REPLAYS n) 1 = u
  have hport : (u.port n).again = (s.port n).replay := by
    rw [← hu]
    exact congrArg Port.again ((s.port_setPort ..).trans (if_pos rfl))
  have hothers : ∀ k, k ≠ n → u.port k = s.port k := fun k hk => by
    rw [← hu]
    exact (s.port_setPort ..).trans (if_neg hk)
  have hstate : u.portState n = pActive := by
    rw [← hu]
    exact (State.get_sat_ne _ _ _ _ (by simp only [Fld.key, Reg.LNK_PORT_STATUS, Reg.LNK_LL_COUNTS]; omega)).trans hact
  have hid : u.conc = s.conc := by
    rw [← hu]
    rfl
  generalize hv : (u.setPort n { u.port n with stalls := 0 }) = v
  generalize hf : v.linkFault 0x44 n _ = f
  have hfiled : v.Filed f 1 := hf ▸ v.fault_filed ..
  have hvport : (v.port n).again = (s.port n).replay := by
    rw [← hv]
    exact (congrArg Port.again ((u.port_setPort ..).trans (if_pos rfl))).trans hport
  have hvothers : ∀ k, k ≠ n → v.port k = s.port k := fun k hk => by
    rw [← hv]
    exact ((u.port_setPort ..).trans (if_neg hk)).trans (hothers k hk)
  have hfstate : f.portState n = pActive := (hfiled.portState hn).trans (by rw [← hv]; exact hstate)
  have hgoes := f.retrain_active n 0 hfstate
  refine ⟨hgoes.state, ?_, ?_, fun k hk => ?_⟩
  · rw [hgoes.port, hfiled.port]
    exact hvport
  · rw [State.retrain, if_pos hfstate]
    exact hfiled.nextId.trans (by rw [← hv]; exact congrArg (·.nextId + 1) hid)
  · rw [hgoes.others k hk, hfiled.port, hvothers k hk]

/-- Settles O42, command by command. -/
theorem linkFrames : Obligations.LinkFrames := by
  intro s port hy hl hn n p sat room now others
  refine ⟨fun hst => ⟨fun ty => gives_linkFrameSend hy hl hst ty, fun f r hagain => ?_,
    fun h vc hvc hlen hagain hrep htx hused hsec => ?_, fun f vc h c hty hnak hackv hslots hlen hsec =>
      ⟨fun hseq => ?_, fun hseq hold => ?_, fun hseq hnew => ?_⟩, fun f c u => ?_,
    ⟨fun hnow => ?_, fun hnow hrep hstalls => ?_, fun hnow hrep hstalls => ?_⟩, fun hk hsec hgroups hlen => ?_⟩,
    fun hk hst die hash => ⟨fun hadm => ?_, fun hadm hatt => ?_⟩⟩
  · obtain ⟨a, hport⟩ := s.frameSent_port n
    rw [Port.nextFrame_again hagain] at hport
    exact ⟨_, exec_linkFrameSend hy hl hst, congrArg Port.again hport, congrArg Port.sent hport, (congrArg Port.replay hport).trans rfl,
      (congrArg Port.tx hport).trans rfl⟩
  · obtain ⟨a, hport⟩ := s.frameSent_port n
    obtain ⟨hbytes, g, hg, hseq, hslots, hr, hsent, htxs⟩ := Port.nextFrame_lone hvc hagain hrep htx hused (s.freeVal 4)
    rw [hsec] at hport
    refine ⟨_, exec_linkFrameSend hy hl hst, g, hg, hseq, hslots, ?_, ?_, ?_, ?_⟩
    · exact (congrArg Port.replay hport).trans hr
    · exact (congrArg Port.sent hport).trans hsent
    · exact (congrArg Port.txSeq hport).trans htxs
    · refine (s.frameSent_bytes n).trans ?_
      rw [hsec]
      exact congrArg (fun b => (s.get (Reg.LNK_TX_BYTES_BYTES n) + b) % 2 ^ 48) hbytes
  · have hport := s.weighed_port n c.toNat false
    have hjudge := (s.heard n c.toNat false).judgeFrame_data n hty hnak hackv
    rw [show ((s.heard n c.toNat false).setPort n ((s.heard n c.toNat false).port n)) = s.weighed n c.toNat false from rfl] at hjudge
    dsimp only at hjudge
    rw [hport, if_pos hseq] at hjudge
    have hkeys : ∀ g : Fld, g.off ≠ Reg.LNK_FEC_COUNTS n → g.lo < 64 → (s.weighed n c.toNat false).get g = s.get g :=
      fun g ho hlo => s.heard_get _ _ (by simp only [Fld.key]; omega) (by simp only [Fld.key]; omega)
    have hsec' : (s.weighed n c.toNat false).on (Reg.LNK_PORT_STATUS_SECURE n) = false :=
      (congrArg (· == 1) (hkeys _ (by simp only [Reg.LNK_PORT_STATUS, Reg.LNK_FEC_COUNTS]; omega) (by simp))).trans hsec
    obtain ⟨harr, hrx, hoth, hregs⟩ := (s.weighed n c.toNat false).acceptFrame_lone n hslots hlen hsec'
    have hget : ∀ g : Fld, ((s.weighed n c.toNat false).acceptFrame n f false).get g =
        ((s.weighed n c.toNat false).wrap (Reg.LNK_RX_BYTES_BYTES n) 64).get g := fun g => congrArg (Tab.get g.reset · g.key) hregs
    refine ⟨_, (exec_linkFrameReceive hy hl hst f .good c false).trans (congrArg _ hjudge), harr, ?_, ?_, ?_, fun k hk => ?_⟩
    · rw [hrx, hport]
    · refine (hget _).trans ((State.get_wrap_self _ _ _).trans ?_)
      rw [hkeys _ (by simp only [Reg.LNK_RX_BYTES, Reg.LNK_FEC_COUNTS]; omega) (by simp)]
      rfl
    · refine (hget _).trans ((State.get_put_ne _ _ _ _ ?_).trans (s.heard_corrected n c.toNat false))
      simp only [Fld.key, Reg.LNK_RX_BYTES, Reg.LNK_FEC_COUNTS]
      omega
    · exact (hoth k hk).trans (s.weighed_others _ _ hk)
  · have hport := s.weighed_port n c.toNat false
    have hjudge := (s.heard n c.toNat false).judgeFrame_data n hty hnak hackv
    rw [show ((s.heard n c.toNat false).setPort n ((s.heard n c.toNat false).port n)) = s.weighed n c.toNat false from rfl] at hjudge
    dsimp only at hjudge
    rw [hport, if_neg hseq, if_neg (by rw [hold]; decide)] at hjudge
    refine ⟨_, (exec_linkFrameReceive hy hl hst f .good c false).trans (congrArg _ hjudge), ?_, rfl, hport,
      fun k hk => s.weighed_others _ _ hk⟩
    refine (State.get_sat_self _ _ _).trans ?_
    rw [show (s.weighed n c.toNat false).get (Reg.LNK_LL_COUNTS_DUP_FRAMES n) = s.get (Reg.LNK_LL_COUNTS_DUP_FRAMES n) from
      s.heard_get _ _ (by simp only [Fld.key, Reg.LNK_LL_COUNTS, Reg.LNK_FEC_COUNTS]; omega)
        (by simp only [Fld.key, Reg.LNK_LL_COUNTS, Reg.LNK_FEC_COUNTS]; omega)]
  · have hport := s.weighed_port n c.toNat false
    have hjudge := (s.heard n c.toNat false).judgeFrame_data n hty hnak hackv
    rw [show ((s.heard n c.toNat false).setPort n ((s.heard n c.toNat false).port n)) = s.weighed n c.toNat false from rfl] at hjudge
    dsimp only at hjudge
    rw [hport, if_neg hseq, if_pos hnew] at hjudge
    refine ⟨_, (exec_linkFrameReceive hy hl hst f .good c false).trans (congrArg _ hjudge), rfl, ?_, fun k hk => ?_⟩
    · exact (State.port_setPort ..).trans ((if_pos rfl).trans (Port.wantNak_eq _))
    · exact (State.port_setPort ..).trans ((if_neg hk).trans (s.weighed_others _ _ hk))
  · refine ⟨_, exec_linkFrameReceive hy hl hst f .crcBad c u, ?_, ?_, rfl, fun k hk => ?_⟩
    · refine (State.get_sat_self _ _ _).trans ?_
      refine congrArg (fun v => min (v + 1) ((Reg.LNK_LL_COUNTS_CRC_ERR n).size - 1)) ?_
      exact (s.heard_get c.toNat u (by simp only [Fld.key, Reg.LNK_LL_COUNTS, Reg.LNK_FEC_COUNTS]; omega)
          (by simp only [Fld.key, Reg.LNK_LL_COUNTS, Reg.LNK_FEC_COUNTS]; omega))
    · refine (State.port_setPort ..).trans ((if_pos rfl).trans ((Port.wantNak_eq _).trans ?_))
      rw [s.heard_port]
    · exact (State.port_setPort ..).trans ((if_neg hk).trans (s.heard_others _ _ hk))
  · exact ⟨s, exec_link (execAckTimeout.eq_1 ..) hy hl (congrArg _ (if_pos (.inr (by rw [atLeast1_eq]; exact hnow)))), rfl⟩
  · have hnot : ¬(s.portState n ≠ pActive ∨
        s.time (copyLink n) < p.ackAt + atLeast1 (s.get Reg.LNK_ACK_TIMEOUT_TICKS)) := by
      rw [atLeast1_eq, not_or]
      exact ⟨not_not.mpr hst, Nat.not_lt.mpr hnow⟩
    refine ⟨_, exec_link (execAckTimeout.eq_1 ..) hy hl (congrArg _ ((if_neg hnot).trans (s.replayAll_again n hrep hstalls))),
      (s.port_setPort n n (s.replayed n)).trans (if_pos rfl), State.get_sat_self _ _ _,
      fun k hk => (s.port_setPort n k (s.replayed n)).trans (if_neg hk)⟩
  · have hnot : ¬(s.portState n ≠ pActive ∨
        s.time (copyLink n) < p.ackAt + atLeast1 (s.get Reg.LNK_ACK_TIMEOUT_TICKS)) := by
      rw [atLeast1_eq, not_or]
      exact ⟨not_not.mpr hst, Nat.not_lt.mpr hnow⟩
    exact ⟨_, exec_link (execAckTimeout.eq_1 ..) hy hl (congrArg _ (if_neg hnot)), s.replayAll_retrains hn hrep hstalls hst⟩
  · refine ⟨_, exec_link (execSessionRekey.eq_1 ..) hy hl (congrArg _ (if_neg ?_)), ?_, fun k hk => ?_⟩
    · rw [hsec, hk]
      simp only [not_or]
      exact ⟨not_not.mpr hst, by decide, Nat.not_lt.mpr hgroups, not_not.mpr hlen, by decide⟩
    · exact (State.port_setPort ..).trans (if_pos rfl)
    · exact (State.port_setPort ..).trans (if_neg hk)
  · have hlive : ¬((!s.domLive 2) = true ∨ s.portState n ≠ pSecure ∧ s.portState n ≠ pActive) := by
      rw [hk]
      exact fun h => h.elim (by decide) fun h => h.1 hst
    refine ⟨s.loadSession n, exec_link (execSessionHandshake.eq_1 port (.peer die hash true) s) hy hl
      (congrArg _ ((if_neg hlive).trans ?_)), (State.port_setPort ..).trans (if_pos rfl),
      fun k hk => (State.port_setPort ..).trans (if_neg hk)⟩
    exact (if_neg (by decide)).trans ((if_neg (by rw [hadm]; decide)).trans (if_pos hst))
  · have hlive : ¬((!s.domLive 2) = true ∨ s.portState n ≠ pSecure ∧ s.portState n ≠ pActive) := by
      rw [hk]
      exact fun h => h.elim (by decide) fun h => h.1 hst
    have hfiled : s.Filed (s.linkFault 0x45 n (die.toNat * 2 ^ 16)) 1 := s.fault_filed ..
    have hatt' : ((s.linkFault 0x45 n (die.toNat * 2 ^ 16)).port n).attempts < 2 := by
      rw [hfiled.port]
      exact hatt
    have hgoes := (s.linkFault 0x45 n (die.toNat * 2 ^ 16)).trainFail_again n pSecure hatt'
    refine ⟨(s.linkFault 0x45 n (die.toNat * 2 ^ 16)).trainFail n pSecure, exec_link (execSessionHandshake.eq_1 port
      (.peer die hash true) s) hy hl (congrArg _ ((if_neg hlive).trans ?_)), hgoes.state, ?_, ?_, fun k hk => ?_⟩
    · exact (if_neg (by decide)).trans ((if_pos (by rw [hadm]; decide)).trans (if_pos ((hfiled.portState hn).trans hst)))
    · rw [hgoes.port, hfiled.port]
    · rw [State.trainFail_conc _ _ _ hatt']
      exact hfiled.nextId
    · exact (hgoes.others k hk).trans (hfiled.port k)

end Sys2Proof.Machine

namespace Sys2Proof.Machine

/-! ## A word that is no instruction, on a tile whose record holds an older exception (R299, R304) -/

/-- Tile 0 runs a program whose first line is resident, and its record holds an exception of instruction 0. -/
def runningWithException : State :=
  State.reset.setTile 0 { Tile.reset with
    core := .running, task := some (0, 0, 0), progSize := 256, istore := [⟨0, 0, 0, 0⟩], exc := some ⟨99, 0, 0, 0⟩ }

theorem runningWithException_canIssue : runningWithException.canIssue 0 false = true := rfl

theorem runningWithException_tileException {t : State}
    (h : exec (.tileException 0 3 0 0) runningWithException = .next t) : (t.tile 0).exc = some ⟨99, 0, 0, 0⟩ := by
  obtain rfl := Host.Outcome.next.inj h
  rfl

/-- Refutes O38: an illegal word raises nothing over an exception of the same instruction that the record already holds. -/
theorem not_fencesAndTileEvents : ¬ Obligations.FencesAndTileEvents := by
  intro h
  obtain ⟨-, -, -, -, hword, -⟩ := h runningWithException 0 0
  obtain ⟨-, hraises⟩ := hword 0 0
  obtain ⟨t, ht, -, -, -, hexc, -⟩ := hraises rfl runningWithException_canIssue
  exact absurd ((runningWithException_tileException ht).symm.trans hexc) (by decide)

end Sys2Proof.Machine

namespace Sys2Proof.Machine

/-! ## What ends or moves packets leaves alone (R165, R182, R183): the state of every queue and its stage slot -/

/-- Of every queue its state and whether it holds a stage slot. -/
def State.qflags (s : State) : Nat → QueueSt × Bool := fun k => ((s.queue k).st, (s.queue k).stageSlot)

theorem State.setQueue_qflags (s : State) (q : Nat) (x : Queue) (h : x.st = (s.queue q).st ∧ x.stageSlot = (s.queue q).stageSlot) :
    (s.setQueue q x).qflags = s.qflags := by
  funext k
  unfold State.qflags
  rw [State.queue_setQueue]
  split
  · next hk => rw [hk, h.1, h.2]
  · rfl

@[simp] theorem State.updQueue_qflags (s : State) (q : Nat) (f : Queue → Queue)
    (h : ∀ x, (f x).st = x.st ∧ (f x).stageSlot = x.stageSlot) : (s.updQueue q f).qflags = s.qflags :=
  s.setQueue_qflags q _ (h _)

@[simp] theorem State.updTile_qflags (s : State) (n : Nat) (f : Tile → Tile) : (s.updTile n f).qflags = s.qflags := (rfl)

@[simp] theorem State.setCtx_qflags (s : State) (c : Nat) (x : Ctx) : (s.setCtx c x).qflags = s.qflags := (rfl)

@[simp] theorem State.qflags_ite (p : Prop) [Decidable p] (s t : State) :
    (if p then s else t).qflags = if p then s.qflags else t.qflags := apply_ite _ _ _ _

/-- The queues decide their flags. -/
@[simp] theorem State.qflags_update (s : State) {gtc : Nat} {regs : Tab Nat} {mem : Cells} {sealTag : Tab Nat} {fuses : Fuses}
    {doms : Tab Dom} {gates : Tab Gate} {flight : FlightSeq} {conc : Conc} {mon : Mon} {host : HostOut}
    {ctxs : Tab Ctx} {groups : Tab (Option Nat)} {tiles : Tab Tile} {waiters : Tab (Option Waiter)} {disp : Disp} {xlt : Xlt}
    {basin : Basin} {island : Island} {mail : Mail} {mesh : Mesh} {link : Link} {power : Power} {keeper : Keeper}
    {stop : Option StopCmd} {pins : Pins} {onRc : Bool} {sealKeys : Tab Nat} {modelKeys : List (Nat × Nat × Nat)}
    {linkOut : List (Nat × Byte)} {copies : Copies} {freeCtr : Nat} {pending : List Instr} :
    State.qflags ⟨gtc, regs, mem, sealTag, fuses, doms, gates, flight, conc, mon, host, ctxs, groups, s.queues, waiters, disp,
      tiles, xlt, basin, island, mail, mesh, link, power, keeper, stop, pins, onRc, sealKeys, modelKeys, linkOut, copies,
      freeCtr, pending⟩ = s.qflags := rfl

@[simp] theorem foldl_qflags {α : Type} (f : State → α → State) (l : List α) (s : State)
    (h : ∀ a t, (f t a).qflags = t.qflags) : (l.foldl f s).qflags = s.qflags := by
  induction l generalizing s with
  | nil => rfl
  | cons a l ih => exact (ih (f s a)).trans (h a s)

theorem foldl_fst_qflags {α β : Type} (f : State × β → α → State × β) (h : ∀ p a, (f p a).1.qflags = p.1.qflags)
    (l : List α) (p : State × β) : (l.foldl f p).1.qflags = p.1.qflags := by
  induction l generalizing p with
  | nil => rfl
  | cons a l ih => exact (ih (f p a)).trans (h p a)

@[simp] theorem State.put_qflags (s : State) (f : Fld) (v : Nat) : (s.put f v).qflags = s.qflags := (rfl)

@[simp] theorem State.tookFree_qflags (s : State) : (s.tookFree).qflags = s.qflags := (rfl)

@[simp] theorem State.send_qflags (s : State) (r : Report) : (s.send r).qflags = s.qflags := (rfl)

@[simp] theorem State.event_qflags (s : State) (v : Nat) : (s.event v).qflags = s.qflags := (rfl)

@[simp] theorem State.setWaiter_qflags (s : State) (i : Nat) (w : Option Waiter) : (s.setWaiter i w).qflags = s.qflags := (rfl)

@[simp] theorem State.updPkt_qflags (s : State) (q i : Nat) (f : Pkt → Pkt) : (s.updPkt q i f).qflags = s.qflags := State.updQueue_qflags _ _ _ fun _ => ⟨rfl, rfl⟩

@[simp] theorem State.countFor_qflags (s : State) (cid : Nat) (f : CtxPart → CtxPart) :
    (s.countFor cid f).qflags = s.qflags := (rfl)

@[simp] theorem State.dropSusp_qflags (s : State) (q i : Nat) (inst : Option Nat) :
    (s.dropSusp q i inst).qflags = s.qflags := (rfl)

@[simp] theorem State.endHead_qflags (s : State) (q : Nat) (e : PktEnd) : (s.endHead q e).qflags = s.qflags := State.updQueue_qflags _ _ _ fun _ => ⟨rfl, rfl⟩

@[simp] theorem State.endWaiting_qflags (s : State) (q cid : Nat) (e : PktEnd) :
    (s.endWaiting q cid e).qflags = s.qflags := State.updQueue_qflags _ _ _ fun _ => ⟨rfl, rfl⟩

@[simp] theorem State.freeSlot_qflags (s : State) (p k : Nat) : (s.freeSlot p k).qflags = s.qflags := (rfl)

@[simp] theorem State.hold_qflags (s : State) (r : FaultRec) : (s.hold r).qflags = s.qflags := by simp [State.hold]

@[simp] theorem State.faultC_qflags (s : State) (code unit src detail : Nat) (cid qid cause : Option Nat) :
    (s.faultC code unit src detail cid qid cause).qflags = s.qflags := by simp [State.faultC]

@[simp] theorem State.fault_qflags (s : State) (code unit src detail : Nat) : (s.fault code unit src detail).qflags = s.qflags := by
  obtain ⟨c, v, e, -, hl, -⟩ := s.faultC_shape code unit src detail none none none
  rw [State.fault, e]
  simp [hl]

/-! ## Outcomes, choices and repetitions -/

@[simp] theorem State.recordX_qflags (s : State) (unit src cid : Nat) (qid : Option Nat) (e : XErr) :
    (s.recordX unit src cid qid e).qflags = s.qflags := by simp [State.recordX]

@[simp] theorem State.refusedRec_qflags (s : State) (cid : Nat) (qid : Option Nat) (pa : Nat) :
    (s.refusedRec cid qid pa).qflags = s.qflags := by simp [State.refusedRec]

@[simp] theorem State.badDataRec_qflags (s : State) (cid pa : Nat) :
    (s.badDataRec cid pa).qflags = s.qflags := by simp [State.badDataRec]

/-! ## Contexts, groups, queues and waiters -/

@[simp] theorem State.endSuspended_qflags (s : State) (q cid : Nat) (e : PktEnd) :
    (s.endSuspended q cid e).qflags = s.qflags := by
  refine foldl_qflags _ _ _ fun a t => ?_
  split <;> simp

@[simp] theorem State.countRun_qflags (s : State) (q i n : Nat) : (s.countRun q i n).qflags = s.qflags := by
  unfold State.countRun
  split <;> simp

@[simp] theorem State.abortRun_qflags (s : State) (q i : Nat) (r : Run) (e : PktEnd) :
    (s.abortRun q i r e).qflags = s.qflags := by
  unfold State.abortRun
  split <;> simp

@[simp] theorem State.abortPkt_qflags (s : State) (q i : Nat) (e : PktEnd) : (s.abortPkt q i e).qflags = s.qflags := by
  unfold State.abortPkt
  split <;> simp

@[simp] theorem State.abortCtx_qflags (s : State) (cid : Nat) (e : PktEnd) :
    (s.abortCtx cid e).qflags = s.qflags := by simp [State.abortCtx]

@[simp] theorem State.breakAll_qflags (s : State) (cid : Nat) (e : PktEnd) : (s.breakAll cid e).qflags = s.qflags := by
  unfold State.breakAll
  refine foldl_qflags _ _ _ fun t a => ?_
  dsimp only
  repeat' split
  all_goals simp

@[simp] theorem State.endClaims_qflags (s : State) (p : Nat → Nat → Bool) : (s.endClaims p).qflags = s.qflags := by
  unfold State.endClaims
  refine foldl_qflags _ _ _ fun t a => ?_
  dsimp only
  repeat' split
  all_goals simp

@[simp] theorem State.dropStaged_qflags (s : State) (qs : List Nat) : (s.dropStaged qs).1.qflags = s.qflags := by
  refine foldl_fst_qflags _ (fun p q => ?_) _ _
  dsimp only
  split <;> exact State.updQueue_qflags _ _ _ fun _ => ⟨rfl, rfl⟩

@[simp] theorem State.physPut_qflags (s : State) (pa : Nat) (b : Byte) : (s.physPut pa b).qflags = s.qflags := by
  obtain ⟨m, t, x, l, e⟩ := s.physPut_shape pa b
  rw [e]
  rfl

@[simp] theorem State.physPutList_qflags (bs : List Byte) : ∀ (s : State) (pa : Nat),
    (s.physPutList pa bs).qflags = s.qflags := by
  induction bs with
  | nil => exact fun _ _ => rfl
  | cons b bs ih => exact fun s pa => (ih _ _).trans (s.physPut_qflags pa b)

theorem State.ownWrite_qflags {s t : State} {cid pa : Nat} {bs : List Byte} (h : s.ownWrite cid pa bs = some t) :
    t.qflags = s.qflags := by
  unfold State.ownWrite at h
  split at h
  · cases h
    simp
  · cases h

@[simp] theorem State.relRef_qflags (s : State) (r : Ref) (bad : Bool) : (s.relRef r bad).1.qflags = s.qflags := by
  unfold State.relRef
  dsimp only
  split
  · simp
  · split
    · simp
    · split
      · rfl
      · split
        · next hw => exact State.ownWrite_qflags hw
        · rfl

@[simp] theorem State.settleLoss_qflags (s : State) (cid : Nat) : (s.settleLoss cid).qflags = s.qflags := by
  unfold State.settleLoss
  dsimp only
  split <;> rfl

@[simp] theorem State.event_qflags_ite (s : State) (p : Prop) [Decidable p] (v : Nat) :
    (if p then s.event v else s).qflags = s.qflags := by split <;> rfl

@[simp] theorem State.loseMark_qflags (s : State) (cid code : Nat) (cause : Option Nat) (byCmd : Bool) :
    (s.loseMark cid code cause byCmd).1.qflags = s.qflags := by
  unfold State.loseMark
  dsimp only
  split <;> simp

theorem State.settle_qflags (n : Nat) (ws : List ObjWork) (s : State) : (State.settle n ws s).qflags = s.qflags := by
  fun_induction State.settle n ws s with
  | case1 => rfl
  | case2 => rfl
  | case3 n r bad ws s t h ih => rw [ih, ← State.relRef_qflags s r bad, h]
  | case4 n r bad ws s t event h ih => rw [ih, State.event_qflags_ite, ← State.relRef_qflags s r bad, h]
  | case5 n r bad ws s t h ih => rw [ih, State.fault_qflags, ← State.relRef_qflags s r bad, h]
  | case6 n r bad ws s t o h id ih => rw [ih, State.faultC_qflags, ← State.relRef_qflags s r bad, h]
  | case7 n cid code cause byCmd ws s t rs h ih => rw [ih, ← State.loseMark_qflags s cid code cause byCmd, h]

@[simp] theorem State.release_qflags (s : State) (rs : List Ref) : (s.release rs).qflags = s.qflags := State.settle_qflags _ _ _

theorem State.ownWrite_getD_qflags (s : State) (cid pa : Nat) (bs : List Byte) :
    ((s.ownWrite cid pa bs).getD s).qflags = s.qflags := by
  cases h : s.ownWrite cid pa bs with
  | none => rfl
  | some t => exact State.ownWrite_qflags h

@[simp] theorem State.writeBack_qflags (s : State) (q : Nat) : (s.writeBack q).qflags = s.qflags := by
  have hfail (cid pa : Nat) : (s.refusedRec cid none pa).qflags = s.qflags := State.refusedRec_qflags ..
  have hcount (t : State) (cid pa : Nat) (bs : List Byte) (ht : t.qflags = s.qflags) :
      ((t.ownWrite cid pa bs).getD t).qflags = s.qflags := (State.ownWrite_getD_qflags ..).trans ht
  rw [show State.writeBack = _ from by delta State.writeBack; rfl]
  dsimp only
  split
  · exact hfail _ _
  · next hw => exact hcount _ _ _ _ (State.ownWrite_qflags hw)

theorem State.qflags_st {s t : State} (h : t.qflags = s.qflags) (q : Nat) :
    (t.queue q).st = (s.queue q).st ∧ (t.queue q).stageSlot = (s.queue q).stageSlot := Prod.mk.inj (congrFun h q)

/-- Whatever its disabling moves and releases, the queue ends DISABLED without its stage slot. -/
theorem State.disableQueue_post (s : State) (q : Nat) (h : (s.queue q).st ≠ .disabled) :
    ((s.disableQueue q).queue q).st = .disabled ∧ ((s.disableQueue q).queue q).stageSlot = false := by
  have key : ∀ (u : State) (f : Queue → Queue), (f (u.queue q)).st = .disabled → (f (u.queue q)).stageSlot = false →
      ∀ t : State, t.qflags = (u.updQueue q f).qflags → (t.queue q).st = .disabled ∧ (t.queue q).stageSlot = false := by
    intro u f h1 h2 t ht
    obtain ⟨hst, hslot⟩ := State.qflags_st ht q
    have hself : (u.updQueue q f).queue q = f (u.queue q) := (State.queue_setQueue ..).trans (if_pos rfl)
    rw [hst, hslot, hself]
    exact ⟨h1, h2⟩
  rw [State.disableQueue]
  dsimp only
  rw [if_neg h]
  refine key _ _ ?_ ?_ _ ((State.release_qflags _ _).trans ((State.writeBack_qflags _ _).trans ((State.endClaims_qflags _ _).trans
    (State.qflags_update _)))) <;> rfl

/-! ## Queues and waits (R163-R165, R179-R181, R187, R211) -/

theorem exec_objCommand {I : Instr} {s u : State} {f : State → State} (hI : exec I s = objCommand s f) (hl : s.domLive 3 = true)
    (hb : s.get Reg.OBJ_CMD_STATUS_BUSY = 0) (hf : f s = u) : exec I s = .next (u.put Reg.OBJ_CMD_STATUS_BUSY 1) := by
  subst hf
  exact hI.trans ((whenLive_open _ hl).trans (congrArg _ (if_neg (by rw [State.on, hb]; decide))))

/-- A command while another is busy only sets OVERRUN. -/
theorem gives_overrun {I : Instr} {s : State} {f : State → State} (hI : exec I s = objCommand s f) (hl : s.domLive 3 = true)
    (hb : s.get Reg.OBJ_CMD_STATUS_BUSY = 1) :
    Gives I s fun t => t.get Reg.OBJ_CMD_STATUS_OVERRUN = 1 ∧ { t with regs := s.regs } = s :=
  ⟨_, hI.trans ((whenLive_open _ hl).trans (congrArg _ (if_pos (by rw [State.on, hb]; decide)))), State.get_put_self _ _ _, rfl⟩

/-- A command's answer in OBJ_CMD_STATUS, with BUSY. -/
def State.answered (s : State) (r d : Nat) : State := (s.result r d).put Reg.OBJ_CMD_STATUS_BUSY 1

theorem State.answered_get (s : State) {r : Nat} (d : Nat) (hr : r < 16) : (s.answered r d).get Reg.OBJ_CMD_STATUS_RESULT = r ∧
    (s.answered r d).get Reg.OBJ_CMD_STATUS_BUSY = 1 := by
  simp (disch := decide) only [State.answered, State.result, State.get_put_ne, State.get_put_self]
  exact ⟨Nat.mod_eq_of_lt (hr.trans_le (by decide)), rfl⟩

theorem State.answered_data (s : State) (r : Nat) {d : Nat} (hd : d < 2 ^ 16) :
    (s.answered r d).get Reg.OBJ_CMD_STATUS_RESULT_DATA = d := by
  simp (disch := decide) only [State.answered, State.result, State.get_put_ne, State.get_put_self]
  exact Nat.mod_eq_of_lt (hd.trans_le (by decide))

theorem exec_answered {I : Instr} {s u : State} {f : State → State} {r d : Nat} (hI : exec I s = objCommand s f)
    (hl : s.domLive 3 = true) (hb : s.get Reg.OBJ_CMD_STATUS_BUSY = 0) (hf : f s = u.result r d) :
    exec I s = .next (u.answered r d) := exec_objCommand hI hl hb hf

theorem State.queue_answered (s : State) (r d k : Nat) : (s.answered r d).queue k = s.queue k := rfl

theorem State.waiter_answered (s : State) (r d k : Nat) : (s.answered r d).waiter k = s.waiter k := rfl

/-- A command that answers and does nothing else. -/
theorem gives_refusal {I : Instr} {s : State} {f : State → State} {r : Nat} (hI : exec I s = objCommand s f)
    (hl : s.domLive 3 = true) (hb : s.get Reg.OBJ_CMD_STATUS_BUSY = 0) (hr : r < 16) (hf : f s = s.result r 0) :
    Gives I s fun t => (t.get Reg.OBJ_CMD_STATUS_RESULT = r ∧ t.get Reg.OBJ_CMD_STATUS_BUSY = 1) ∧ { t with regs := s.regs } = s :=
  ⟨s.answered r 0, exec_answered hI hl hb hf, s.answered_get 0 hr, rfl⟩

theorem State.waiter_setWaiter (s : State) (i k : Nat) (w : Option Waiter) :
    (s.setWaiter i w).waiter k = if k = i then w else s.waiter k := Tab.get_set none s.waiters i k w

/-- A signalled fence satisfies the waiter of the host: it leaves the table and its vector is raised. -/
theorem State.evalWaiter_satisfied {t : State} {i word : Nat} {w : Waiter} (hw : t.waiter i = some w) (hi : 32768 ≤ i)
    (h1 : word / 2 ^ 62 = 1) (hle : w.target ≤ word % 2 ^ 62) : t.evalWaiter i word = (t.setWaiter i none).event w.vector := by
  rw [State.evalWaiter, hw]
  dsimp only
  rw [h1, if_pos ⟨by decide, hle⟩, State.satisfy, hw]
  exact if_neg (by omega)

/-- The state with a waiter entered, and not yet evaluated. -/
theorem State.enterWaiter_reach {s : State} {i pa : Nat} {w : Waiter} (h : s.reach w.cid w.fence .read = .ok pa) :
    s.enterWaiter i w = (s.setWaiter i (some w)).evalWaiter i (s.physLe pa 8) := by
  have hsans : (s.setWaiter i (some w)).sansQueues = s.sansQueues := rfl
  have hreach := (State.reach_of_sansQueues hsans w.cid w.fence .read).trans h
  rw [← State.physLe_of_sansQueues hsans pa 8]
  show (match (s.setWaiter i (some w)).reach w.cid w.fence .read with
    | .ok pa => (s.setWaiter i (some w)).evalWaiter i ((s.setWaiter i (some w)).physLe pa 8)
    | .err e => (s.setWaiter i (some w)).readWaiter i e) = _
  rw [hreach]

theorem State.freeHostWait_range {s : State} {i : Nat} (h : s.freeHostWait = some i) : 32768 ≤ i ∧ i < 2 ^ 16 := by
  obtain ⟨k, hk, rfl⟩ := List.mem_map.mp (List.mem_of_find?_eq_some h)
  have := List.mem_range.mp hk
  omega

theorem State.parseQueue_active {s : State} {d n : Nat} {x : Queue} (hx : s.parseQueue d n = some x) : x.st = .active := by
  rw [show State.parseQueue = _ from by delta State.parseQueue; rfl] at hx
  dsimp only at hx
  split at hx
  · cases hx
  · cases hx
    rfl

/-- The queue that a descriptor describes, installed with the packets that queue `q` holds. -/
def State.enabled (s : State) (q : Nat) (x : Queue) : State :=
  s.setQueue q { x with
    stageSlot := x.stage && decide (s.stageUsed < 256), pkts := (s.queue q).pkts,
    credit := (atLeast1 (s.get Reg.DSP_SHARE_BURST_TT) * 4096 : Nat) }

theorem State.enabled_queue (s : State) (q : Nat) (x : Queue) : (s.enabled q x).queue q = { x with
    stageSlot := x.stage && decide (s.stageUsed < 256), pkts := (s.queue q).pkts,
    credit := (atLeast1 (s.get Reg.DSP_SHARE_BURST_TT) * 4096 : Nat) } := (s.queue_setQueue q q _).trans (if_pos rfl)

theorem exec_queueEnable {s : State} {qid : BitVec 16} {q d : Nat} {bs : List Byte} {x : Queue} (hl : s.domLive 3 = true)
    (hb : s.get Reg.OBJ_CMD_STATUS_BUSY = 0) (hqid : qid.toNat % 32768 = q) (hd : s.queueCid q = some d)
    (hc : (s.ctx d).st = .opened) (hq : (s.queue q).st = .disabled)
    (hbs : s.ownRead s.driverCid (s.qdesc q) 64 = some bs) (hx : s.parseQueue d (leNat bs) = some x) :
    exec (.queueEnable qid false) s = .next ((s.enabled q x).answered rDone 0) := by
  refine exec_answered (by show execQueueEnable qid false s = _; delta execQueueEnable; rfl) hl hb ?_
  show (match s.queueCid (qid.toNat % 32768) with | none => _ | some c => _ ) = _
  rw [hqid, hd]
  refine (if_neg (by rw [hc, hq]; decide)).trans ((if_neg (by decide)).trans ?_)
  rw [hbs]
  show (match s.parseQueue d (leNat bs) with | none => _ | some y => _) = _
  rw [hx]
  rfl

/-- QUEUE_ENABLE of a sound descriptor installs it, with the packets the queue holds. -/
theorem gives_queueEnable {s : State} {qid : BitVec 16} {q d : Nat} {bs : List Byte} {x : Queue} (hl : s.domLive 3 = true)
    (hb : s.get Reg.OBJ_CMD_STATUS_BUSY = 0) (hqid : qid.toNat % 32768 = q) (hd : s.queueCid q = some d)
    (hc : (s.ctx d).st = .opened) (hq : (s.queue q).st = .disabled)
    (hbs : s.ownRead s.driverCid (s.qdesc q) 64 = some bs) (hx : s.parseQueue d (leNat bs) = some x) :
    Gives (.queueEnable qid false) s fun t =>
      (t.get Reg.OBJ_CMD_STATUS_RESULT = rDone ∧ t.get Reg.OBJ_CMD_STATUS_BUSY = 1) ∧
      { t with regs := s.regs, queues := s.queues } = s ∧
      (t.queue q).st = .active ∧ (t.queue q).head = x.head ∧ (t.queue q).tail = x.tail ∧ (t.queue q).seq = x.seq ∧
      (t.queue q).pkts = (s.queue q).pkts ∧ (t.queue q).stageSlot = (x.stage && decide (s.stageUsed < 256)) ∧
      ∀ k, k ≠ q → t.queue k = s.queue k := by
  refine ⟨_, exec_queueEnable hl hb hqid hd hc hq hbs hx, State.answered_get _ 0 (by decide), rfl, ?_⟩
  simp only [State.queue_answered, State.enabled_queue, State.parseQueue_active hx, true_and]
  exact fun k hk => (s.queue_setQueue q k _).trans (if_neg hk)

section
variable {s : State} (hl : s.domLive 3 = true) (hb : s.get Reg.OBJ_CMD_STATUS_BUSY = 0)
include hl hb

theorem gives_queueResume {qid : BitVec 16} (hq : (s.queue (qid.toNat % 32768)).st = .halted) :
    Gives (.queueResume qid) s fun t => (t.get Reg.OBJ_CMD_STATUS_RESULT = rDone ∧ t.get Reg.OBJ_CMD_STATUS_BUSY = 1) ∧
      t.queue (qid.toNat % 32768) = { s.queue (qid.toNat % 32768) with st := .active } ∧
      ∀ k, k ≠ qid.toNat % 32768 → t.queue k = s.queue k := by
  refine ⟨(s.updQueue (qid.toNat % 32768) fun x => { x with st := .active }).answered rDone 0,
    exec_answered (execQueueResume.eq_1 ..) hl hb ?_, State.answered_get _ 0 (by decide), ?_, fun k hk => ?_⟩
  · dsimp only
    rw [if_pos hq]
  · exact (State.queue_setQueue ..).trans (if_pos rfl)
  · exact (State.queue_setQueue ..).trans (if_neg hk)

section
variable {cid vec : BitVec 16} {i pa : Nat} (hc : (s.ctx (cid.toNat % 1024)).st = .opened)
  (hal : s.get (Reg.OBJ_CMD_ARG_ARG 0) % 16 = 0) (hvec : (s.ctx (cid.toNat % 1024)).hasVec (vec.toNat % 4096) = true)
  (hi : s.freeHostWait = some i) (hpa : s.reach (cid.toNat % 1024) (s.get (Reg.OBJ_CMD_ARG_ARG 0)) .read = .ok pa)
include hc hal hvec hi

/-- The waiter that WAIT_HOST describes. -/
def State.hostWaiter (s : State) (cid vec : BitVec 16) : Waiter :=
  ⟨cid.toNat % 1024, cid.toNat % 1024, s.get (Reg.OBJ_CMD_ARG_ARG 0), s.get (Reg.OBJ_CMD_ARG_ARG 1) % 2 ^ 62, vec.toNat % 4096, false⟩

theorem exec_waitHost {u : State} (hu : s.enterWaiter i (s.hostWaiter cid vec) = u) :
    exec (.waitHost cid vec) s = .next (u.answered rDone i) := by
  refine exec_answered (by show execWaitHost cid vec s = _; delta execWaitHost; rfl) hl hb ?_
  dsimp only
  rw [if_neg (not_not.mpr hc), if_neg (not_not.mpr hal), if_neg (by rw [hvec]; decide), hi, ← hu]
  rfl

include hpa

theorem gives_waitHost_waits (h0 : s.physLe pa 8 / 2 ^ 62 = 0) : Gives (.waitHost cid vec) s fun t =>
    (t.get Reg.OBJ_CMD_STATUS_RESULT = rDone ∧ t.get Reg.OBJ_CMD_STATUS_BUSY = 1) ∧ t.get Reg.OBJ_CMD_STATUS_RESULT_DATA = i ∧
      t.waiter i = some (s.hostWaiter cid vec) ∧ t.host = s.host ∧ ∀ k, k ≠ i → t.waiter k = s.waiter k := by
  have heval := (State.enterWaiter_reach (i := i) (w := s.hostWaiter cid vec) hpa).trans (State.evalWaiter_open h0)
  exact ⟨_, exec_waitHost hl hb hc hal hvec hi heval, State.answered_get _ i (by decide),
    State.answered_data _ _ (State.freeHostWait_range hi).2, (s.waiter_setWaiter i i _).trans (if_pos rfl), rfl,
    fun k hk => (s.waiter_setWaiter i k _).trans (if_neg hk)⟩

theorem gives_waitHost_signalled (h1 : s.physLe pa 8 / 2 ^ 62 = 1)
    (hle : s.get (Reg.OBJ_CMD_ARG_ARG 1) % 2 ^ 62 ≤ s.physLe pa 8 % 2 ^ 62) : Gives (.waitHost cid vec) s fun t =>
    (t.get Reg.OBJ_CMD_STATUS_RESULT = rDone ∧ t.get Reg.OBJ_CMD_STATUS_BUSY = 1) ∧ t.waiter i = none ∧
      t.host.events = s.host.events ++ [vec.toNat % 4096] := by
  have hself := (s.waiter_setWaiter i i (some (s.hostWaiter cid vec))).trans (if_pos rfl)
  have heval := (State.enterWaiter_reach (i := i) (w := s.hostWaiter cid vec) hpa).trans
    (State.evalWaiter_satisfied hself (State.freeHostWait_range hi).1 h1 hle)
  exact ⟨_, exec_waitHost hl hb hc hal hvec hi heval, State.answered_get _ i (by decide),
    (State.waiter_setWaiter _ i i none).trans (if_pos rfl), rfl⟩

end

theorem gives_waitPoke {cid : BitVec 16} {i pa : Nat} {w : Waiter} (hal : s.get (Reg.OBJ_CMD_ARG_ARG 0) % 16 = 0)
    (hone : s.waitersWhere (fun w => w.cid == cid.toNat % 1024 && w.fence == s.get (Reg.OBJ_CMD_ARG_ARG 0) && !w.barrier) = [i])
    (hw : s.waiter i = some w) (hi : 32768 ≤ i)
    (hpa : s.reach (cid.toNat % 1024) (s.get (Reg.OBJ_CMD_ARG_ARG 0)) .read = .ok pa) (h1 : s.physLe pa 8 / 2 ^ 62 = 1)
    (hle : w.target ≤ s.physLe pa 8 % 2 ^ 62) : Gives (.waitPoke cid) s fun t =>
      (t.get Reg.OBJ_CMD_STATUS_RESULT = rDone ∧ t.get Reg.OBJ_CMD_STATUS_BUSY = 1) ∧ t.waiter i = none ∧
        t.host.events = s.host.events ++ [w.vector] := by
  have heval : s.evalFence (cid.toNat % 1024) (s.get (Reg.OBJ_CMD_ARG_ARG 0)) (s.physLe pa 8) =
      (s.setWaiter i none).event w.vector := by
    rw [State.evalFence, hone]
    exact State.evalWaiter_satisfied hw hi h1 hle
  refine ⟨((s.setWaiter i none).event w.vector).answered rDone 0, exec_answered (execWaitPoke.eq_1 ..) hl hb ?_,
    State.answered_get _ 0 (by decide), (s.waiter_setWaiter i i none).trans (if_pos rfl), rfl⟩
  dsimp only
  rw [if_neg (not_not.mpr hal), hone, if_neg (by simp), hpa]
  dsimp only
  rw [heval]

theorem gives_waitCancel {index : BitVec 16} (hi : 32768 ≤ index.toNat) : Gives (.waitCancel index) s fun t =>
    (t.get Reg.OBJ_CMD_STATUS_RESULT = rDone ∧ t.get Reg.OBJ_CMD_STATUS_BUSY = 1) ∧ t.waiter index.toNat = none ∧
      (∀ k, k ≠ index.toNat → t.waiter k = s.waiter k) ∧ t.host = s.host := by
  refine ⟨(s.setWaiter index.toNat none).answered rDone 0, exec_answered (execWaitCancel.eq_1 ..) hl hb ?_,
    State.answered_get _ 0 (by decide), (s.waiter_setWaiter ..).trans (if_pos rfl),
    fun k hk => (s.waiter_setWaiter ..).trans (if_neg hk), rfl⟩
  dsimp only
  rw [if_neg (Nat.not_lt.mpr hi)]

end

theorem gives_queueEnable_unbound {s : State} {qid : BitVec 16} (hl : s.domLive 3 = true)
    (hb : s.get Reg.OBJ_CMD_STATUS_BUSY = 0) (hd : s.queueCid (qid.toNat % 32768) = none) :
    Gives (.queueEnable qid false) s fun t =>
      (t.get Reg.OBJ_CMD_STATUS_RESULT = rBadState ∧ t.get Reg.OBJ_CMD_STATUS_BUSY = 1) ∧ { t with regs := s.regs } = s := by
  refine gives_refusal (by show execQueueEnable qid false s = _; delta execQueueEnable; rfl) hl hb (by decide) ?_
  show (match s.queueCid (qid.toNat % 32768) with | none => _ | some c => _ ) = _
  rw [hd]

section
variable {s : State} {cid vec : BitVec 16} (hl : s.domLive 3 = true) (hb : s.get Reg.OBJ_CMD_STATUS_BUSY = 0)
include hl hb

theorem gives_waitHost_shut (hc : (s.ctx (cid.toNat % 1024)).st ≠ .opened) : Gives (.waitHost cid vec) s fun t =>
    (t.get Reg.OBJ_CMD_STATUS_RESULT = rBadState ∧ t.get Reg.OBJ_CMD_STATUS_BUSY = 1) ∧ { t with regs := s.regs } = s := by
  refine gives_refusal (by show execWaitHost cid vec s = _; delta execWaitHost; rfl) hl hb (by decide) ?_
  exact if_pos hc

theorem gives_waitHost_misaligned (hc : (s.ctx (cid.toNat % 1024)).st = .opened)
    (hal : s.get (Reg.OBJ_CMD_ARG_ARG 0) % 16 ≠ 0) : Gives (.waitHost cid vec) s fun t =>
    (t.get Reg.OBJ_CMD_STATUS_RESULT = rBadAddr ∧ t.get Reg.OBJ_CMD_STATUS_BUSY = 1) ∧ { t with regs := s.regs } = s := by
  refine gives_refusal (by show execWaitHost cid vec s = _; delta execWaitHost; rfl) hl hb (by decide) ?_
  exact (if_neg (not_not.mpr hc)).trans (if_pos hal)

end

/-- Settles O33, command by command. -/
theorem queueAndWaitCommands : Obligations.QueueAndWaitCommands := by
  intro s qid cid vec hl q c v fence target answers overrun refusal
  have hover : ∀ {I : Instr} {f : State → State}, exec I s = objCommand s f → s.get Reg.OBJ_CMD_STATUS_BUSY = 1 → overrun I :=
    fun hI hb => gives_overrun hI hl hb
  refine ⟨fun hb => ⟨?_, ?_, ?_, ?_, ?_, ?_⟩, fun hb => ⟨fun d bs x hd hc hq hbs hx => ?_, fun hnone => ?_, fun hq => ?_,
    fun hq => ?_, fun hq => ?_, fun hq => ?_, fun hc hal hvec i pa hi hpa => ⟨fun h0 => ?_, fun h1 hle => ?_⟩, fun hc => ?_,
    fun hc hal => ?_, fun hal => ⟨fun hnone => ?_, fun i w pa hone hw hi hpa h1 hle => ?_⟩, fun hi => ?_, fun hi => ?_⟩⟩
  · exact hover (by show execQueueEnable qid false s = _; delta execQueueEnable; rfl) hb
  · exact hover (execQueueDisable.eq_1 ..) hb
  · exact hover (execQueueResume.eq_1 ..) hb
  · exact hover (by show execWaitHost cid vec s = _; delta execWaitHost; rfl) hb
  · exact hover (execWaitPoke.eq_1 ..) hb
  · exact hover (execWaitCancel.eq_1 ..) hb
  · exact gives_queueEnable (qid := qid) (d := d) (bs := bs) (x := x) hl hb rfl hd hc hq hbs hx
  · exact gives_queueEnable_unbound hl hb hnone
  · exact gives_refusal (execQueueDisable.eq_1 ..) hl hb (by decide) (by rw [State.disableQueue, if_pos hq])
  · exact ⟨_, exec_answered (execQueueDisable.eq_1 ..) hl hb rfl, State.answered_get _ 0 (by decide), s.disableQueue_post q hq⟩
  · exact gives_queueResume hl hb hq
  · exact gives_refusal (execQueueResume.eq_1 ..) hl hb (by decide) (by dsimp only; rw [if_neg hq])
  · exact gives_waitHost_waits hl hb hc hal hvec hi hpa h0
  · exact gives_waitHost_signalled hl hb hc hal hvec hi hpa h1 hle
  · exact gives_waitHost_shut hl hb hc
  · exact gives_waitHost_misaligned hl hb hc hal
  · exact gives_refusal (execWaitPoke.eq_1 ..) hl hb (by decide)
      (by dsimp only; rw [if_neg (not_not.mpr hal), if_pos (List.isEmpty_iff.mpr hnone)])
  · exact gives_waitPoke hl hb hal hone hw hi hpa h1 hle
  · exact gives_waitCancel hl hb hi
  · exact gives_refusal (execWaitCancel.eq_1 ..) hl hb (by decide) (by dsimp only; rw [if_pos hi])

end Sys2Proof.Machine

namespace Sys2Proof.Machine

/-! ## A write to the PWR block while PD0 is not open (R46, R49) -/

/-- PD1 and PD5 are open and PD0 is not, and PWR_STOP_STATUS shows OVERRUN. -/
def pd0Shut : State :=
  { State.reset with doms := [(1, { Dom.reset with st := .opened }), (5, { Dom.reset with st := .opened })] }.put
    Reg.PWR_STOP_STATUS_OVERRUN 1

theorem pd0Shut_registerWrite {t : State}
    (h : exec (.registerWrite (BitVec.ofNat 26 Reg.PWR_STOP_STATUS) 4 0x40000000) pd0Shut = .next t) :
    t.get Reg.PWR_STOP_STATUS_OVERRUN = 1 := by
  obtain rfl := Host.Outcome.next.inj h
  rfl

/-- Refutes O50: the statement asks for PD1 and PD5, but a write of OVERRUN reaches PWR_STOP_STATUS only while PD0 is open too. -/
theorem not_registersManagementJtag : ¬ Obligations.RegistersManagementJtag := by
  intro h
  obtain ⟨hregs, -⟩ := h pd0Shut
  obtain ⟨-, -, -, -, -, hoverrun, -⟩ := hregs 0x40000000 0 rfl rfl
  obtain ⟨t, ht, hclear, -⟩ := hoverrun rfl
  exact absurd ((pd0Shut_registerWrite ht).symm.trans hclear) (by decide)

end Sys2Proof.Machine

namespace Sys2Proof.Machine

/-! ## A stale proposal of a class that names no generation, while PD1 is closed (R639, R671) -/

/-- PD2 alone is open, and mailbox 1 has a pending proposal whose class is so large that the word of its generation counter
is WAT_STATUS, where a closed PD1 counts the records it holds. -/
def strayClassPending : State :=
  { State.reset with
    doms := [(2, { Dom.reset with st := .opened })]
    keeper := { State.reset.keeper with props := [(1, some ⟨0, 14337, 0, 0, 5, 0, 0, 0, []⟩)] } }

theorem strayClassPending_gen : strayClassPending.get (Reg.KPR_GEN_GEN 14336) = 0 := rfl

theorem strayClassPending_countersign {t : State} (h : exec (.countersign 0 true) strayClassPending = .next t) :
    t.get (Reg.KPR_GEN_GEN 14336) = 1 := by
  obtain rfl := Host.Outcome.next.inj h
  rfl

/-- Refutes O47: a proposal may name any class, and ending one of class 14337 as stale while PD1 is closed moves the word that
the statement reads as its generation. -/
theorem not_keeperCommands : ¬ Obligations.KeeperCommands := by
  intro h
  obtain ⟨-, -, -, hidle, -⟩ := h strayClassPending 0 true true rfl rfl
  obtain ⟨-, hunlocked, -⟩ := hidle rfl rfl (by decide)
  obtain ⟨-, -, -, -, hcountersign⟩ := hunlocked rfl
  obtain ⟨-, hstale, -⟩ := hcountersign _ rfl rfl rfl (Nat.le_refl 0) rfl
  obtain ⟨t, ht, -, -, -, hgen⟩ := hstale (by decide)
  exact absurd ((strayClassPending_countersign ht).symm.trans (hgen.trans strayClassPending_gen)) (by decide)

end Sys2Proof.Machine

namespace Sys2Proof.Machine

/-! ## A time exchange whose sample fills a bin of a monitor slot (R538, R682) -/

/-- Port 0 of a follower on Yard is active and its exchange is due, and slot 0 watches the round trip of port 0 with a bin at
its last count. -/
def rttBinFull : State :=
  (((({ State.reset with
    gtc := 10000
    fuses := { State.reset.fuses with package := 2 }
    doms := [(8, { Dom.reset with st := .opened }), (9, { Dom.reset with st := .opened })]
    mon := { State.reset.mon with part := [(0, ⟨0, 0, 0, 0, [0xFFFF], 63, false⟩)] } }.put
    Reg.LNK_TIME_CTRL_ROLE 2).put (Reg.LNK_PORT_STATUS_STATE 0) pActive).put (Reg.MON_SLOT_CFG_KIND 0) 5).put
    (Reg.MON_SLOT_CFG_EN 0) 1)

theorem rttBinFull_timeSyncExchange {t : State} (h : exec (.timeSyncExchange 0 0 0 0) rttBinFull = .next t) :
    t.conc.sent.length = 2 := by
  obtain rfl := Host.Outcome.next.inj h
  rfl

/-- Refutes O44: the exchange's sample fills the bin, so that the slot's partial is sent too, before the link's sample. -/
theorem not_mailboxesAndDieTime : ¬ Obligations.MailboxesAndDieTime := by
  intro h
  obtain ⟨-, hlink⟩ := h rttBinFull
  obtain ⟨hsync, -⟩ := hlink rfl rfl
  obtain ⟨-, hdue⟩ := hsync rfl rfl 0 0 0 0
  obtain ⟨t, ht, -, -, -, hsent, -⟩ := hdue (Nat.le_refl 10000)
  exact absurd ((rttBinFull_timeSyncExchange ht).symm.trans (congrArg List.length hsent)) (by decide)

end Sys2Proof.Machine

namespace Sys2Proof.Machine

/-! ## What monitor slots are made of -/

theorem exec_tow {I : Instr} {s t : State} {f : State → Out} (hI : exec I s = whenTow s f) (h : s.domLive 1 = true)
    (hf : f s = .next t) : exec I s = .next t := exec_live hI h hf

/-- Registers that `p` names return to their reset values, and no other register changes. -/
theorem State.get_resetRegs (s : State) (p : Nat → Bool) (g : Fld) :
    (s.resetRegs p).get g = if p (g.key / 64) = true then g.reset else s.get g := Tab.get_drop g.reset _ s.regs g.key

theorem Fld.key_div (g : Fld) (h : g.lo < 64) : g.key / 64 = g.off := by
  rw [Fld.key]
  omega

theorem State.get_clearSlot_data (s : State) (k : Nat) {g : Fld} (hlo : g.lo < 64) (h1 : 0x010B2000 + 0x60 * k ≤ g.off)
    (h2 : g.off < 0x010B2060 + 0x60 * k) : (s.clearSlot k).get g = g.reset :=
  (s.get_resetRegs _ g).trans (if_pos (by rw [g.key_div hlo, slotData, decide_eq_true h1, decide_eq_true h2]; rfl))

theorem State.get_clearSlot_below (s : State) (k : Nat) {g : Fld} (hlo : g.lo < 64) (h : g.off < 0x010B2000) :
    (s.clearSlot k).get g = s.get g :=
  (s.get_resetRegs _ g).trans (if_neg (by
    rw [g.key_div hlo, slotData, decide_eq_false (p := 0x010B2000 + 0x60 * k ≤ g.off) (by omega), Bool.false_and]
    exact Bool.false_ne_true))

/-! ### A partial merges into its slot (R683) -/

/-- One bin of a partial joins the slot's bin, which stays at its last count. -/
def State.mergeBin (b : List Nat) (k : Nat) (s : State) (j : Nat) : State :=
  let n := s.get (Reg.MON_SLOT_BIN_N k j) + b.getD j 0
  if n < 2 ^ 32 then s.put (Reg.MON_SLOT_BIN_N k j) n
  else (s.put (Reg.MON_SLOT_BIN_N k j) (2 ^ 32 - 1)).put (Reg.MON_SLOT_FLAGS_STICKY k) 1

section
variable (b : List Nat) (k : Nat)

theorem State.mergeBin_conc (s : State) (j : Nat) : (s.mergeBin b k j).conc = s.conc := by
  rw [State.mergeBin]
  split <;> rfl

theorem State.mergeBin_self (s : State) (j : Nat) : (s.mergeBin b k j).get (Reg.MON_SLOT_BIN_N k j) =
    min (s.get (Reg.MON_SLOT_BIN_N k j) + b.getD j 0) (2 ^ 32 - 1) := by
  rw [State.mergeBin]
  have hsize : (Reg.MON_SLOT_BIN_N k j).size = 2 ^ 32 := rfl
  split
  next hn =>
    rw [State.get_put_self, hsize, Nat.mod_eq_of_lt hn]
    omega
  next hn =>
    refine (State.get_put_ne _ _ _ _ (by simp only [Fld.key, Reg.MON_SLOT_BIN, Reg.MON_SLOT_FLAGS]; omega)).trans ?_
    rw [State.get_put_self, hsize]
    omega

theorem State.mergeBin_other (s : State) (j : Nat) {g : Fld} (h1 : g.key ≠ (Reg.MON_SLOT_BIN_N k j).key)
    (h2 : g.key ≠ (Reg.MON_SLOT_FLAGS_STICKY k).key) : (s.mergeBin b k j).get g = s.get g := by
  rw [State.mergeBin]
  split
  · exact State.get_put_ne _ _ _ _ h1
  · exact (State.get_put_ne _ _ _ _ h2).trans (State.get_put_ne _ _ _ _ h1)

/-- The bins below `n` of a partial join their slot, one by one, and nothing but bins and STICKY changes. -/
theorem State.mergeBins_post (s : State) : ∀ n, n ≤ 16 →
    let t := (List.range n).foldl (State.mergeBin b k) s
    t.conc = s.conc ∧
      (∀ g : Fld, (∀ j, j < 16 → g.key ≠ (Reg.MON_SLOT_BIN_N k j).key) → g.key ≠ (Reg.MON_SLOT_FLAGS_STICKY k).key →
        t.get g = s.get g) ∧
      ∀ j, j < 16 → t.get (Reg.MON_SLOT_BIN_N k j) = if j < n then
        min (s.get (Reg.MON_SLOT_BIN_N k j) + b.getD j 0) (2 ^ 32 - 1) else s.get (Reg.MON_SLOT_BIN_N k j) := by
  intro n
  induction n with
  | zero => exact fun _ => ⟨rfl, fun _ _ _ => rfl, fun _ _ => rfl⟩
  | succ n ih =>
    intro hn
    obtain ⟨hconc, hget, hbin⟩ := ih (by omega)
    rw [List.range_succ, List.foldl_append, List.foldl_cons, List.foldl_nil]
    refine ⟨(State.mergeBin_conc ..).trans hconc, fun g h1 h2 =>
      (State.mergeBin_other b k _ n (h1 n (by omega)) h2).trans (hget g h1 h2), fun j hj => ?_⟩
    by_cases hjn : j = n
    · subst hjn
      rw [State.mergeBin_self, hbin j hj, if_neg (Nat.lt_irrefl j), if_pos (Nat.lt_succ_self j)]
    · refine (State.mergeBin_other b k _ n ?_ ?_).trans ((hbin j hj).trans ?_)
      · simp only [Fld.key, Reg.MON_SLOT_BIN]
        omega
      · simp only [Fld.key, Reg.MON_SLOT_BIN, Reg.MON_SLOT_FLAGS]
        omega
      · simp only [show (j < n + 1) = (j < n) from propext (by omega)]

end

/-- The slot of a partial with its extremes, its samples and its flags, before the bins join it. -/
def State.mergeHead (s : State) (p : Partial) : State :=
  let k := p.slot
  let empty := s.get (Reg.MON_SLOT_SAMPLES_N k) == 0
  let lo := if empty then p.min else min p.min (s.get (Reg.MON_SLOT_MIN_MIN k))
  let hi := if empty then p.max else max p.max (s.get (Reg.MON_SLOT_MIN_MAX k))
  let code := min p.minCode (if empty then 63 else s.get (Reg.MON_SLOT_FLAGS_MIN_CODE k))
  let s := (((s.put (Reg.MON_SLOT_MIN_MIN k) (min lo (2 ^ 32 - 1))).put (Reg.MON_SLOT_MIN_MAX k) (min hi (2 ^ 32 - 1))).wrap
    (Reg.MON_SLOT_SAMPLES_N k) p.count).put (Reg.MON_SLOT_FLAGS_MIN_CODE k) code
  if p.isOver then s.put (Reg.MON_SLOT_FLAGS_OVER k) 1 else s

theorem State.mergePart_eq (s : State) {p : Partial} (hf : s.get Reg.MON_CTRL_FREEZE = 0)
    (hen : s.get (Reg.MON_SLOT_CFG_EN p.slot) = 1) (hc : 0 < p.count) :
    s.mergePart p = (List.range 16).foldl (State.mergeBin p.bins p.slot) (s.mergeHead p) := by
  rw [State.mergePart]
  refine (if_neg ?_).trans (if_neg ?_)
  · simp [State.on, hf]
  · simp [State.on, hen]
    omega

theorem State.mergeHead_conc (s : State) (p : Partial) : (s.mergeHead p).conc = s.conc := by
  rw [State.mergeHead]
  split <;> rfl

/-- The head of a merge writes the words of the slot below its bins only. -/
theorem State.mergeHead_get (s : State) (p : Partial) {g : Fld} (hlo : g.lo < 64)
    (h : g.off < Reg.MON_SLOT_MIN p.slot ∨ Reg.MON_SLOT_BIN p.slot 0 ≤ g.off) : (s.mergeHead p).get g = s.get g := by
  have hkey : ∀ (f : Fld) (c : Nat), f.off = 0x010B2000 + c + 0x60 * p.slot → c < 0x20 → f.lo < 64 → g.key ≠ f.key := by
    intro f c h1 h2 h3
    simp only [Fld.key, h1, Reg.MON_SLOT_MIN, Reg.MON_SLOT_BIN] at *
    omega
  have hmin := hkey (Reg.MON_SLOT_MIN_MIN p.slot) 0 rfl (by decide) (by simp)
  have hmax := hkey (Reg.MON_SLOT_MIN_MAX p.slot) 0 rfl (by decide) (by simp)
  have hsam := hkey (Reg.MON_SLOT_SAMPLES_N p.slot) 8 rfl (by decide) (by simp)
  have hcode := hkey (Reg.MON_SLOT_FLAGS_MIN_CODE p.slot) 0x10 rfl (by decide) (by simp)
  have hover := hkey (Reg.MON_SLOT_FLAGS_OVER p.slot) 0x10 rfl (by decide) (by simp)
  rw [State.mergeHead]
  split <;> simp only [State.wrap, State.get_put_ne _ _ _ _ hmin, State.get_put_ne _ _ _ _ hmax, State.get_put_ne _ _ _ _ hsam,
    State.get_put_ne _ _ _ _ hcode, State.get_put_ne _ _ _ _ hover]

theorem State.mergeHead_samples (s : State) (p : Partial) : (s.mergeHead p).get (Reg.MON_SLOT_SAMPLES_N p.slot) =
    (s.get (Reg.MON_SLOT_SAMPLES_N p.slot) + p.count) % 2 ^ 64 := by
  have hsize : (Reg.MON_SLOT_SAMPLES_N p.slot).size = 2 ^ 64 := rfl
  have hcode : (Reg.MON_SLOT_SAMPLES_N p.slot).key ≠ (Reg.MON_SLOT_FLAGS_MIN_CODE p.slot).key := by
    simp only [Fld.key, Reg.MON_SLOT_SAMPLES, Reg.MON_SLOT_FLAGS]
    omega
  have hover : (Reg.MON_SLOT_SAMPLES_N p.slot).key ≠ (Reg.MON_SLOT_FLAGS_OVER p.slot).key := by
    simp only [Fld.key, Reg.MON_SLOT_SAMPLES, Reg.MON_SLOT_FLAGS]
    omega
  have hmin : (Reg.MON_SLOT_SAMPLES_N p.slot).key ≠ (Reg.MON_SLOT_MIN_MIN p.slot).key := by
    simp only [Fld.key, Reg.MON_SLOT_SAMPLES, Reg.MON_SLOT_MIN]
    omega
  have hmax : (Reg.MON_SLOT_SAMPLES_N p.slot).key ≠ (Reg.MON_SLOT_MIN_MAX p.slot).key := by
    simp only [Fld.key, Reg.MON_SLOT_SAMPLES, Reg.MON_SLOT_MIN]
    omega
  rw [State.mergeHead]
  split <;> simp only [State.get_put_ne _ _ _ _ hover, State.get_put_ne _ _ _ _ hcode, State.get_wrap_self,
    State.get_put_ne _ _ _ _ hmin, State.get_put_ne _ _ _ _ hmax, hsize]

theorem State.mergeHead_min (s : State) (p : Partial) (hs : 0 < s.get (Reg.MON_SLOT_SAMPLES_N p.slot)) :
    (s.mergeHead p).get (Reg.MON_SLOT_MIN_MIN p.slot) = min (min p.min (s.get (Reg.MON_SLOT_MIN_MIN p.slot))) (2 ^ 32 - 1) := by
  have hsize : (Reg.MON_SLOT_MIN_MIN p.slot).size = 2 ^ 32 := rfl
  have hcode : (Reg.MON_SLOT_MIN_MIN p.slot).key ≠ (Reg.MON_SLOT_FLAGS_MIN_CODE p.slot).key := by
    simp only [Fld.key, Reg.MON_SLOT_MIN, Reg.MON_SLOT_FLAGS]
    omega
  have hover : (Reg.MON_SLOT_MIN_MIN p.slot).key ≠ (Reg.MON_SLOT_FLAGS_OVER p.slot).key := by
    simp only [Fld.key, Reg.MON_SLOT_MIN, Reg.MON_SLOT_FLAGS]
    omega
  have hsam : (Reg.MON_SLOT_MIN_MIN p.slot).key ≠ (Reg.MON_SLOT_SAMPLES_N p.slot).key := by
    simp only [Fld.key, Reg.MON_SLOT_SAMPLES, Reg.MON_SLOT_MIN]
    omega
  have hmax : (Reg.MON_SLOT_MIN_MIN p.slot).key ≠ (Reg.MON_SLOT_MIN_MAX p.slot).key := by
    simp only [Fld.key]
    omega
  have hempty : (s.get (Reg.MON_SLOT_SAMPLES_N p.slot) == 0) = false := beq_eq_false_iff_ne.mpr (Nat.ne_of_gt hs)
  rw [State.mergeHead]
  split <;> simp only [State.wrap, State.get_put_ne _ _ _ _ hover, State.get_put_ne _ _ _ _ hcode, State.get_put_ne _ _ _ _ hsam,
    State.get_put_ne _ _ _ _ hmax, State.get_put_self, hempty, Bool.false_eq_true, if_false, hsize] <;> omega

/-- The oldest report at the monitor, a partial of an enabled slot, merges into the slot. -/
theorem gives_monitorPartialMerge {s : State} (hl : s.domLive 1 = true) {p : Partial} {rest : List Report}
    (hin : s.conc.inbox = .samplePart p :: rest) (hf : s.get Reg.MON_CTRL_FREEZE = 0)
    (hen : s.get (Reg.MON_SLOT_CFG_EN p.slot) = 1) (hc : 0 < p.count) : Gives .monitorPartialMerge s fun t =>
      t.conc = { s.conc with inbox := rest } ∧
      t.get (Reg.MON_SLOT_SAMPLES_N p.slot) = (s.get (Reg.MON_SLOT_SAMPLES_N p.slot) + p.count) % 2 ^ 64 ∧
      (0 < s.get (Reg.MON_SLOT_SAMPLES_N p.slot) → t.get (Reg.MON_SLOT_MIN_MIN p.slot) =
        min (min p.min (s.get (Reg.MON_SLOT_MIN_MIN p.slot))) (2 ^ 32 - 1)) ∧
      ∀ j, j < 16 → t.get (Reg.MON_SLOT_BIN_N p.slot j) =
        min (s.get (Reg.MON_SLOT_BIN_N p.slot j) + p.bins.getD j 0) (2 ^ 32 - 1) := by
  have hfind : s.conc.inbox.find? Report.isSample = some (.samplePart p) := by
    rw [hin]
    rfl
  have herase : s.conc.inbox.erase (.samplePart p) = rest := by
    rw [hin, List.erase_cons_head]
  let u : State := { s with conc := { s.conc with inbox := rest } }
  obtain ⟨hconc, hget, hbin⟩ := (u.mergeHead p).mergeBins_post p.bins p.slot 16 (Nat.le_refl 16)
  have hother : ∀ g : Fld, g.off < Reg.MON_SLOT_FLAGS p.slot → g.lo < 64 → (u.mergePart p).get g = (u.mergeHead p).get g := by
    intro g hg hlo
    rw [u.mergePart_eq hf hen hc]
    refine hget g (fun j _ => ?_) ?_ <;> simp only [Fld.key, Reg.MON_SLOT_BIN, Reg.MON_SLOT_FLAGS] at * <;> omega
  refine ⟨u.mergePart p, exec_tow (execMonitorPartialMerge.eq_1 s) hl ?_, ?_, ?_, fun hs => ?_, fun j hj => ?_⟩
  · rw [hfind]
    show Host.Outcome.next (State.mergePart { s with conc := { s.conc with inbox := s.conc.inbox.erase (.samplePart p) } } p) = _
    rw [herase]
  · rw [u.mergePart_eq hf hen hc, hconc, State.mergeHead_conc]
  · exact (hother _ (by simp only [Reg.MON_SLOT_FLAGS, Reg.MON_SLOT_SAMPLES]; omega) (by simp)).trans (u.mergeHead_samples p)
  · exact (hother _ (by simp only [Reg.MON_SLOT_FLAGS, Reg.MON_SLOT_MIN]; omega) (by simp)).trans (u.mergeHead_min p hs)
  · rw [u.mergePart_eq hf hen hc, hbin j hj, if_pos hj,
      u.mergeHead_get p (g := Reg.MON_SLOT_BIN_N p.slot j) (by simp) (.inr (by simp only [Reg.MON_SLOT_BIN]; omega))]
    rfl

/-! ### What units send (R42, R683) -/

section
variable {s : State} (hl : s.domLive 1 = true)
include hl

theorem exec_monitorPartialSend_slot (k : BitVec 8) :
    exec (.monitorPartialSend (.slot k)) s = .next (if s.on (Reg.MON_SLOT_CFG_EN k.toNat) ∧ s.subjectOk k.toNat ∧
      s.domLive (s.slotDom k.toNat) ∧ Tab.get 0 s.mon.partAt k.toNat + s.reportPeriod ≤ s.gtc then s.sendPart k.toNat else s) :=
  exec_tow (execMonitorPartialSend.eq_1 (.slot k) s) hl rfl

theorem gives_monitorPartialSend_slot {k : BitVec 8} (hen : s.get (Reg.MON_SLOT_CFG_EN k.toNat) = 1)
    (hok : s.subjectOk k.toNat = true) (hd : s.domLive (s.slotDom k.toNat) = true) :
    (Tab.get 0 s.mon.partAt k.toNat + s.reportPeriod ≤ s.gtc → Gives (.monitorPartialSend (.slot k)) s fun t =>
      t.conc = { s.conc with sent := s.conc.sent ++ [.samplePart (s.partOf k.toNat)] } ∧ t.partOf k.toNat = partFresh k.toNat ∧
        t.regs = s.regs) ∧
    (s.gtc < Tab.get 0 s.mon.partAt k.toNat + s.reportPeriod → Gives (.monitorPartialSend (.slot k)) s (· = s)) := by
  have hon : s.on (Reg.MON_SLOT_CFG_EN k.toNat) = true := beq_iff_eq.mpr hen
  refine ⟨fun hdue => ⟨_, (exec_monitorPartialSend_slot hl k).trans (congrArg _ (if_pos ⟨hon, hok, hd, hdue⟩)), rfl,
    Tab.get_set_self .., rfl⟩, fun hearly => ⟨s, (exec_monitorPartialSend_slot hl k).trans (congrArg _ (if_neg ?_)), rfl⟩⟩
  exact fun h => absurd h.2.2.2 (Nat.not_le.mpr hearly)

theorem gives_monitorPartialSend_ctx {n : BitVec 10} (h3 : s.domLive 3 = true)
    (hdue : Tab.get 0 s.mon.ctxAt n.toNat + s.reportPeriod ≤ s.gtc) : Gives (.monitorPartialSend (.ctx n)) s fun t =>
      t.conc = { s.conc with sent := s.conc.sent ++ [.sampleCtx (s.ctxPart n.toNat)] } ∧ t.ctxPart n.toNat = ctxFresh n.toNat := by
  refine ⟨({ s with mon := { s.mon with
      ctx := s.mon.ctx.set n.toNat (ctxFresh n.toNat), ctxAt := s.mon.ctxAt.set n.toNat s.gtc } } : State).send
    (.sampleCtx (s.ctxPart n.toNat)), exec_tow (execMonitorPartialSend.eq_1 (.ctx n) s) hl ?_, rfl, Tab.get_set_self ..⟩
  exact congrArg Host.Outcome.next (if_pos ⟨h3, hdue⟩)

theorem gives_monitorPartialSend_activity {n : BitVec 4} (v : BitVec 32) (hd : s.domLive (clDom n.toNat) = true) :
    Gives (.monitorPartialSend (.activity n v)) s fun t =>
      t = { s with conc := { s.conc with sent := s.conc.sent ++ [.sampleActivity n.toNat v.toNat] } } :=
  ⟨_, exec_tow (execMonitorPartialSend.eq_1 (.activity n v) s) hl (congrArg Host.Outcome.next (if_pos hd)), rfl⟩

/-! ### Window captures, slots and rings (R684-R686) -/

theorem gives_monitorWindowCapture {k : BitVec 8} (hw : 0 < s.get (Reg.MON_SLOT_CFG_WINDOW_MS k.toNat))
    (hen : s.get (Reg.MON_SLOT_CFG_EN k.toNat) = 1)
    (hend : s.time copyTow / (s.get (Reg.MON_SLOT_CFG_WINDOW_MS k.toNat) * 100000) ≠ Tab.get 0 s.mon.window k.toNat)
    (hgo : s.conc.capStop = false) (hsize : 0 < s.capSize)
    (hroom : (s.get Reg.MON_CAP_TAIL_INDEX + 2 ^ 32 - s.get Reg.MON_CAP_HEAD_INDEX) % 2 ^ 32 ≠ s.capSize)
    (hown : s.ownerOk s.driverCid
      (s.get Reg.MON_CAP_BASE_BASE * 2 ^ 12 + s.get Reg.MON_CAP_TAIL_INDEX % s.capSize * 128) false = true)
    (hkey : s.keyAbsent
      (s.get Reg.MON_CAP_BASE_BASE * 2 ^ 12 + s.get Reg.MON_CAP_TAIL_INDEX % s.capSize * 128) = false) :
    Gives (.monitorWindowCapture k) s fun t =>
      t.get Reg.MON_CAP_TAIL_INDEX = (s.get Reg.MON_CAP_TAIL_INDEX + 1) % 2 ^ 32 ∧
        t.get (Reg.MON_SLOT_SAMPLES_N k.toNat) = 0 ∧
        Tab.get 0 t.mon.window k.toNat = s.time copyTow / (s.get (Reg.MON_SLOT_CFG_WINDOW_MS k.toNat) * 100000) ∧
        ∀ j, j < 16 → t.get (Reg.MON_SLOT_BIN_N k.toNat j) = 0 := by
  obtain ⟨bs, hcap⟩ : ∃ bs, s.capture k.toNat (s.time copyTow / s.windowT k.toNat * s.windowT k.toNat) = (s.physPutList
      (s.get Reg.MON_CAP_BASE_BASE * 2 ^ 12 + s.get Reg.MON_CAP_TAIL_INDEX % s.capSize * 128) bs).wrap
        Reg.MON_CAP_TAIL_INDEX 1 := by
    rw [State.capture]
    rw [if_neg (by rw [hgo]; decide), if_neg fun h => h.elim hroom (Nat.ne_of_gt hsize)]
    dsimp only
    rw [State.ownWrite, hown, hkey]
    exact ⟨_, rfl⟩
  have hregs : ∀ a bs, (s.physPutList a bs).regs = s.regs := fun a bs =>
    (congrArg State.regs (State.physPutList_sansBytes bs s a) :)
  refine ⟨_, exec_tow (execMonitorWindowCapture.eq_1 k s) hl (congrArg _ (if_neg ?_)), ?_, ?_, ?_, fun j hj => ?_⟩
  · rintro (h | h | h)
    · exact absurd h (Nat.ne_of_gt (Nat.mul_pos hw (by decide)))
    · rw [show s.on (Reg.MON_SLOT_CFG_EN k.toNat) = true from beq_iff_eq.mpr hen] at h
      cases h
    · exact hend h
  · refine (State.get_clearSlot_below _ k.toNat (g := Reg.MON_CAP_TAIL_INDEX) (by decide) (by decide)).trans ?_
    rw [hcap, State.get_wrap_self, State.get, hregs]
    rfl
  · exact State.get_clearSlot_data _ k.toNat (by simp) (by simp only [Reg.MON_SLOT_SAMPLES]; omega)
      (by simp only [Reg.MON_SLOT_SAMPLES]; omega)
  · show Tab.get 0 (Tab.set _ _ _) _ = _
    exact Tab.get_set_self ..
  · exact State.get_clearSlot_data _ k.toNat (by simp) (by simp only [Reg.MON_SLOT_BIN]; omega)
      (by simp only [Reg.MON_SLOT_BIN]; omega)

end

/-! ### A slot is configured; a ring is based anew (R684-R686) -/

/-- The fields of slot `k` that a write to its CFG word reaches, EN aside, with the slot's data cleared. -/
def State.slotCfg (s : State) (k v : Nat) : State :=
  ((((s.put (Reg.MON_SLOT_CFG_KIND k) (bits v 62 60)).put (Reg.MON_SLOT_CFG_SHIFT k) (bits v 52 48)).put
    (Reg.MON_SLOT_CFG_WINDOW_MS k) (bits v 47 32)).put (Reg.MON_SLOT_CFG_SUBJECT k) (bits v 15 0)).clearSlot k

theorem bits_lt (v hi lo : Nat) : bits v hi lo < 2 ^ (hi + 1 - lo) := Nat.mod_lt _ (Nat.two_pow_pos _)

section
variable (s : State) {k : Nat} (hk : k < 256) (v : Nat)
include hk

theorem State.slotCfg_kind : (s.slotCfg k v).get (Reg.MON_SLOT_CFG_KIND k) = bits v 62 60 := by
  refine (State.get_clearSlot_below _ k (by simp) (by simp only [Reg.MON_SLOT_CFG]; omega)).trans ?_
  iterate 3
    refine (State.get_put_ne _ _ _ _ (by simp only [Fld.key]; omega)).trans ?_
  exact (State.get_put_self _ _ _).trans (Nat.mod_eq_of_lt (bits_lt v 62 60))

theorem State.slotCfg_subject : (s.slotCfg k v).get (Reg.MON_SLOT_CFG_SUBJECT k) = bits v 15 0 := by
  refine (State.get_clearSlot_below _ k (by simp) (by simp only [Reg.MON_SLOT_CFG]; omega)).trans ?_
  exact (State.get_put_self _ _ _).trans (Nat.mod_eq_of_lt (bits_lt v 15 0))

omit hk in
theorem State.slotCfg_samples : (s.slotCfg k v).get (Reg.MON_SLOT_SAMPLES_N k) = 0 :=
  State.get_clearSlot_data _ k (by simp) (by simp only [Reg.MON_SLOT_SAMPLES]; omega)
    (by simp only [Reg.MON_SLOT_SAMPLES]; omega)

end

/-- The enabled slots other than `k` that watch a kind. -/
def State.slotsBeside (s : State) (k kind : Nat) : List Nat := (List.range 256).filter fun j =>
  j != k && s.on (Reg.MON_SLOT_CFG_EN j) && s.get (Reg.MON_SLOT_CFG_KIND j) == kind

/-- The slot enabled as a write to its CFG word asks, where its kind's limit allows it. -/
def State.slotEnabled (s : State) (k v : Nat) : State :=
  let ok := decide ((s.slotsBeside k (bits v 62 60)).length < slotLimit (bits v 62 60))
  let u := (s.slotCfg k v).put (Reg.MON_SLOT_CFG_EN k) (if ok then bits v 63 63 else 0)
  let t : State := { u with mon := { u.mon with
    part := u.mon.part.set k (partFresh k), partAt := u.mon.partAt.set k u.gtc,
    window := u.mon.window.set k (u.time copyTow / u.windowT k) } }
  if ok ∨ !(bitAt v 63) then t else t.put Reg.MON_STATUS_REFUSED 1

section
variable (s : State) {k : Nat} (hk : k < 256) (v : Nat)
include hk

theorem State.slotEnabled_get {g : Fld} (h1 : g.key ≠ Reg.MON_STATUS_REFUSED.key) (h2 : g.key ≠ (Reg.MON_SLOT_CFG_EN k).key) :
    (s.slotEnabled k v).get g = (s.slotCfg k v).get g := by
  rw [State.slotEnabled]
  split
  · exact State.get_put_ne _ _ _ _ h2
  · exact (State.get_put_ne _ _ _ _ h1).trans (State.get_put_ne _ _ _ _ h2)

theorem State.slotEnabled_en : (s.slotEnabled k v).get (Reg.MON_SLOT_CFG_EN k) =
    if (s.slotsBeside k (bits v 62 60)).length < slotLimit (bits v 62 60) then bits v 63 63 else 0 := by
  have hself : ∀ (u : State) (b : Bool), (u.put (Reg.MON_SLOT_CFG_EN k) (if b = true then bits v 63 63 else 0)).get
      (Reg.MON_SLOT_CFG_EN k) = if b = true then bits v 63 63 else 0 := by
    intro u b
    refine (State.get_put_self _ _ _).trans (Nat.mod_eq_of_lt ?_)
    have hlt := bits_lt v 63 63
    split
    · exact hlt
    · exact Nat.two_pow_pos _
  have hkey : (Reg.MON_SLOT_CFG_EN k).key ≠ Reg.MON_STATUS_REFUSED.key := by
    simp only [Fld.key, Reg.MON_SLOT_CFG, Reg.MON_STATUS]
    omega
  rw [State.slotEnabled]
  split
  · exact (hself ..).trans (by simp only [decide_eq_true_eq])
  · exact (State.get_put_ne _ _ _ _ hkey).trans ((hself ..).trans (by simp only [decide_eq_true_eq]))

theorem State.slotEnabled_refused (hfull : slotLimit (bits v 62 60) ≤ (s.slotsBeside k (bits v 62 60)).length)
    (hbit : bitAt v 63 = true) : (s.slotEnabled k v).get Reg.MON_STATUS_REFUSED = 1 := by
  rw [State.slotEnabled]
  rw [decide_eq_false (Nat.not_lt.mpr hfull), hbit]
  exact State.get_put_self _ _ _

end

theorem gives_slotCfgWrite {s : State} (hl : s.domLive 1 = true) (k : BitVec 8) (v : BitVec 64) :
    let kind := bits v.toNat 62 60
    let n := (s.slotsBeside k.toNat kind).length
    Gives (.slotCfgWrite k v) s fun t => t.get (Reg.MON_SLOT_CFG_KIND k.toNat) = kind ∧
      t.get (Reg.MON_SLOT_CFG_SUBJECT k.toNat) = bits v.toNat 15 0 ∧ t.get (Reg.MON_SLOT_SAMPLES_N k.toNat) = 0 ∧
      (n < slotLimit kind → t.get (Reg.MON_SLOT_CFG_EN k.toNat) = bits v.toNat 63 63) ∧
      (slotLimit kind ≤ n → t.get (Reg.MON_SLOT_CFG_EN k.toNat) = 0 ∧
        (v.getLsbD 63 = true → t.get Reg.MON_STATUS_REFUSED = 1)) := by
  intro kind n
  have hk : k.toNat < 256 := k.isLt
  have hen := s.slotEnabled_en hk v.toNat
  refine ⟨s.slotEnabled k.toNat v.toNat, exec_tow (execSlotCfgWrite.eq_1 k v s) hl rfl, ?_, ?_, ?_, fun hn => ?_,
    fun hn => ⟨?_, fun hbit => ?_⟩⟩
  · refine (s.slotEnabled_get hk _ ?_ ?_).trans (s.slotCfg_kind hk _) <;>
      simp only [Fld.key, Reg.MON_SLOT_CFG, Reg.MON_STATUS] <;> omega
  · refine (s.slotEnabled_get hk _ ?_ ?_).trans (s.slotCfg_subject hk _) <;>
      simp only [Fld.key, Reg.MON_SLOT_CFG, Reg.MON_STATUS] <;> omega
  · refine (s.slotEnabled_get hk _ ?_ ?_).trans (s.slotCfg_samples _) <;>
      simp only [Fld.key, Reg.MON_SLOT_CFG, Reg.MON_STATUS, Reg.MON_SLOT_SAMPLES] <;> omega
  · exact hen.trans (if_pos hn)
  · exact hen.trans (if_neg (Nat.not_lt.mpr hn))
  · exact s.slotEnabled_refused hk _ hn ((bitAt_toNat v 63).trans hbit)

theorem gives_capBaseWrite {s : State} (hl : s.domLive 1 = true) (v : BitVec 64) : Gives (.capBaseWrite v) s fun t =>
    t.get Reg.MON_CAP_BASE_BASE = bits v.toNat 51 12 ∧ t.get Reg.MON_CAP_BASE_SIZE_LOG2 = bits v.toNat 4 0 ∧
      t.get Reg.MON_CAP_HEAD_INDEX = 0 ∧ t.get Reg.MON_CAP_TAIL_INDEX = 0 ∧ t.conc = { s.conc with capStop := false } := by
  let u := (((s.put Reg.MON_CAP_BASE_BASE (bits v.toNat 51 12)).put Reg.MON_CAP_BASE_SIZE_LOG2 (bits v.toNat 4 0)).put
    Reg.MON_CAP_HEAD_INDEX 0).put Reg.MON_CAP_TAIL_INDEX 0
  refine ⟨{ u with conc := { u.conc with capStop := false } }, exec_tow (execCapBaseWrite.eq_1 v s) hl rfl, ?_⟩
  show u.get _ = _ ∧ u.get _ = _ ∧ u.get _ = _ ∧ u.get _ = _ ∧ _
  simp (disch := decide) only [u, State.get_put_self, State.get_put_ne, Nat.zero_mod, true_and]
  exact ⟨Nat.mod_eq_of_lt (bits_lt v.toNat 51 12), Nat.mod_eq_of_lt (bits_lt v.toNat 4 0), rfl⟩

theorem gives_traceBaseWrite {s : State} (hl : s.domLive 1 = true) (v : BitVec 64) : Gives (.traceBaseWrite v) s fun t =>
    t.get Reg.MON_TRACE_BASE_BASE = bits v.toNat 51 12 ∧ t.get Reg.MON_TRACE_BASE_SIZE_LOG2 = bits v.toNat 4 0 ∧
      t.get Reg.MON_TRACE_HEAD_INDEX = 0 ∧ t.get Reg.MON_TRACE_TAIL_INDEX = 0 ∧ t.get Reg.MON_STATUS_TRACE_FULL = 0 ∧
      t.conc = { s.conc with traceStop := false } := by
  let u := ((((s.put Reg.MON_TRACE_BASE_BASE (bits v.toNat 51 12)).put Reg.MON_TRACE_BASE_SIZE_LOG2 (bits v.toNat 4 0)).put
    Reg.MON_TRACE_HEAD_INDEX 0).put Reg.MON_TRACE_TAIL_INDEX 0).put Reg.MON_STATUS_TRACE_FULL 0
  refine ⟨{ u with conc := { u.conc with traceStop := false } }, exec_tow (execTraceBaseWrite.eq_1 v s) hl rfl, ?_⟩
  show u.get _ = _ ∧ u.get _ = _ ∧ u.get _ = _ ∧ u.get _ = _ ∧ u.get _ = _ ∧ _
  simp (disch := decide) only [u, State.get_put_self, State.get_put_ne, Nat.zero_mod, true_and]
  exact ⟨Nat.mod_eq_of_lt (bits_lt v.toNat 51 12), Nat.mod_eq_of_lt (bits_lt v.toNat 4 0), rfl⟩

/-! ### The copies of the GTC (R555-R559) -/

theorem gives_gtcSyncWord {s : State} (hl : s.domLive 1 = true) :
    Gives .gtcSyncWord s fun t => t = { s with copies := { s.copies with
      word := some (if s.onRc = true then s.gtc else ((s.gtc + 63) / 1024 + 1) * 1024) } } :=
  ⟨_, exec_tow (execGtcSyncWord.eq_1 s) hl rfl, rfl⟩

/-- A copy's fault is recorded at most once a second: the copies and the registers stay, WAT_STATUS aside. -/
theorem State.copyFault_post (s : State) (k detail : Nat) : (s.copyFault k detail).copies.off = s.copies.off ∧
    (s.copyFault k detail).copies.hold = s.copies.hold ∧ (s.copyFault k detail).copies.stale = s.copies.stale ∧
    ∀ g : Fld, g.key ≠ Reg.WAT_STATUS_HELD.key → g.key ≠ Reg.WAT_STATUS_HOLD_OVF.key →
      (s.copyFault k detail).get g = s.get g := by
  have hrec : ∀ u : State, u = { s.fault 0x5B uCLK srcNone (detail + copyPlace k) with
      copies := { s.copies with recAt := s.copies.recAt.set k s.gtc } } → u.copies.off = s.copies.off ∧
      u.copies.hold = s.copies.hold ∧ u.copies.stale = s.copies.stale ∧
      ∀ g : Fld, g.key ≠ Reg.WAT_STATUS_HELD.key → g.key ≠ Reg.WAT_STATUS_HOLD_OVF.key → u.get g = s.get g := by
    rintro u rfl
    exact ⟨rfl, rfl, rfl, (s.fault_filed 0x5B uCLK srcNone (detail + copyPlace k)).get⟩
  rw [State.copyFault]
  split
  · split
    · exact ⟨rfl, rfl, rfl, fun _ _ _ => rfl⟩
    · exact hrec _ rfl
  · exact hrec _ rfl

theorem copyClass_ne_wat (k : Nat) : (copyClass k).key ≠ Reg.WAT_STATUS_HELD.key ∧
    (copyClass k).key ≠ Reg.WAT_STATUS_HOLD_OVF.key := by
  rw [copyClass]
  split
  · decide
  · split <;> decide

theorem mem_filter_ne {l : List Nat} {k : Nat} : k ∉ l.filter (· != k) := by
  simp

section
variable {s : State} (hl : s.domLive 1 = true) {k : BitVec 8} {n : BitVec 64}
  (hd : s.domLive (copyDom k.toNat) = true) (hk : k.toNat ≠ copyMaster)
include hl hd hk

section
variable {w : Nat} (hw : s.copies.word = some w) (hle : w ≤ s.gtc)
include hw hle

/-- A copy takes a word that the master has reached: it is stale no more, and loads the count or stops where it is off by more
than one. -/
theorem exec_gtcCopySync {t : State} (ht : (let u : State := { s with copies := { s.copies with
      stale := s.copies.stale.filter (· != k.toNat), syncAt := s.copies.syncAt.set k.toNat s.gtc } }
    if n.toNat + 1 < s.gtc then
      (State.copyFault { u with copies := { u.copies with
          off := u.copies.off.set k.toNat 0, hold := u.copies.hold.filter (· != k.toNat) } } k.toNat
        (min (s.gtc - n.toNat) (2 ^ 32 - 1) * 2 ^ 32)).sat (copyClass k.toNat) 1
    else if s.gtc + 1 < n.toNat then
      (State.copyFault { u with copies := { u.copies with
          off := u.copies.off.set k.toNat ((n.toNat : Int) - s.gtc),
          hold := k.toNat :: u.copies.hold.filter (· != k.toNat) } } k.toNat
        (256 + min (n.toNat - s.gtc) (2 ^ 32 - 1) * 2 ^ 32)).sat (copyClass k.toNat) 1
    else { u with copies := { u.copies with off := u.copies.off.set k.toNat ((n.toNat : Int) - s.gtc) } }) = t) :
    exec (.gtcCopySync k n) s = .next t := by
  refine exec_tow (execGtcCopySync.eq_1 k n s) hl (congrArg _ ?_)
  rw [hw]
  refine (if_neg ?_).trans ht
  rintro (h | h | h)
  · rw [hd] at h
    cases h
  · exact hk h
  · exact absurd h (Nat.not_lt.mpr hle)

theorem gives_gtcCopySync_behind (hn : n.toNat + 1 < s.gtc) : Gives (.gtcCopySync k n) s fun t =>
    Tab.get (0 : Int) t.copies.off k.toNat = 0 ∧ k.toNat ∉ t.copies.hold ∧ k.toNat ∉ t.copies.stale ∧
      t.get (copyClass k.toNat) = min (s.get (copyClass k.toNat) + 1) ((copyClass k.toNat).size - 1) := by
  refine ⟨_, exec_gtcCopySync hl hd hk hw hle (if_pos hn), ?_⟩
  generalize hu : ({ s with copies := _ } : State) = u
  obtain ⟨hoff, hhold, hstale, hget⟩ := u.copyFault_post k.toNat (min (s.gtc - n.toNat) (2 ^ 32 - 1) * 2 ^ 32)
  obtain ⟨h1, h2⟩ := copyClass_ne_wat k.toNat
  refine ⟨(congrArg (Tab.get (0 : Int) · k.toNat) hoff).trans (by rw [← hu]; exact Tab.get_set_self ..),
    hhold.symm ▸ ?_, hstale.symm ▸ ?_, (State.get_sat_self ..).trans (by rw [hget _ h1 h2, ← hu]; rfl)⟩
  · rw [← hu]
    exact mem_filter_ne
  · rw [← hu]
    exact mem_filter_ne

theorem gives_gtcCopySync_ahead (hn : s.gtc + 1 < n.toNat) : Gives (.gtcCopySync k n) s fun t =>
    Tab.get (0 : Int) t.copies.off k.toNat = n.toNat - s.gtc ∧ k.toNat ∈ t.copies.hold ∧ k.toNat ∉ t.copies.stale ∧
      t.get (copyClass k.toNat) = min (s.get (copyClass k.toNat) + 1) ((copyClass k.toNat).size - 1) := by
  refine ⟨_, exec_gtcCopySync hl hd hk hw hle ((if_neg (by omega)).trans (if_pos hn)), ?_⟩
  generalize hu : ({ s with copies := _ } : State) = u
  obtain ⟨hoff, hhold, hstale, hget⟩ := u.copyFault_post k.toNat (256 + min (n.toNat - s.gtc) (2 ^ 32 - 1) * 2 ^ 32)
  obtain ⟨h1, h2⟩ := copyClass_ne_wat k.toNat
  refine ⟨(congrArg (Tab.get (0 : Int) · k.toNat) hoff).trans (by rw [← hu]; exact Tab.get_set_self ..),
    hhold.symm ▸ ?_, hstale.symm ▸ ?_, (State.get_sat_self ..).trans (by rw [hget _ h1 h2, ← hu]; rfl)⟩
  · rw [← hu]
    exact List.mem_cons_self
  · rw [← hu]
    exact mem_filter_ne

theorem gives_gtcCopySync_near (h1 : n.toNat ≤ s.gtc + 1) (h2 : s.gtc ≤ n.toNat + 1) : Gives (.gtcCopySync k n) s fun t =>
    Tab.get (0 : Int) t.copies.off k.toNat = n.toNat - s.gtc ∧ t.copies.hold = s.copies.hold ∧ k.toNat ∉ t.copies.stale ∧
      t.conc = s.conc :=
  ⟨_, exec_gtcCopySync hl hd hk hw hle ((if_neg (by omega)).trans (if_neg (by omega))), Tab.get_set_self .., rfl, mem_filter_ne,
    rfl⟩

end

theorem gives_gtcCopyStale (hfresh : k.toNat ∉ s.copies.stale) (hsync : Tab.get 0 s.copies.syncAt k.toNat + 4096 ≤ s.gtc)
    (hsince : (s.dom (copyDom k.toNat)).since + 4096 ≤ s.gtc) : Gives (.gtcCopyStale k) s fun t =>
    k.toNat ∈ t.copies.stale ∧ t.conc.nextId = s.conc.nextId + 1 ∧
      t.get Reg.CLK_COPY_COUNTS_STALE = min (s.get Reg.CLK_COPY_COUNTS_STALE + 1) (Reg.CLK_COPY_COUNTS_STALE.size - 1) := by
  let u : State := { s with copies := { s.copies with stale := k.toNat :: s.copies.stale } }
  have hfiled := u.fault_filed 0x5B uCLK srcNone (512 + copyPlace k.toNat)
  have hcopies : ((u.fault 0x5B uCLK srcNone (512 + copyPlace k.toNat)).sat Reg.CLK_COPY_COUNTS_STALE 1).copies.stale =
      k.toNat :: s.copies.stale := (congrArg (fun t : State => t.copies.stale) hfiled.rest :)
  refine ⟨(u.fault 0x5B uCLK srcNone (512 + copyPlace k.toNat)).sat Reg.CLK_COPY_COUNTS_STALE 1,
    exec_tow (execGtcCopyStale.eq_1 k s) hl (congrArg _ (if_neg ?_)),
    hcopies.symm ▸ List.mem_cons_self, hfiled.nextId, ?_⟩
  · rintro (h | h | h | h)
    · rw [hd] at h
      cases h
    · exact hk h
    · exact hfresh (List.contains_iff_mem.mp h)
    · omega
  · rw [State.get_sat_self, hfiled.get _ (by decide) (by decide)]
    rfl

end

/-- Settles O29, command by command. -/
theorem monitorsAndCopies : Obligations.MonitorsAndCopies := by
  intro s hl c sat
  refine ⟨fun k hen hok hd => gives_monitorPartialSend_slot hl hen hok hd, fun n h3 hdue => gives_monitorPartialSend_ctx hl h3 hdue,
    fun n v hd => gives_monitorPartialSend_activity hl v hd,
    fun p rest hin hf hen hc => gives_monitorPartialMerge hl hin hf hen hc,
    fun k => ?_, fun k v => ?_, fun v => ⟨gives_capBaseWrite hl v, gives_traceBaseWrite hl v⟩, fun hrc => ?_, fun hrc => ?_,
    fun k n hd hk => ?_⟩
  · intro w tail a hw hen hend hgo hsize hroom hown hkey
    exact gives_monitorWindowCapture hl hw hen hend hgo hsize hroom hown hkey
  · exact gives_slotCfgWrite hl k v
  · simpa only [hrc, Bool.false_eq_true, if_false] using gives_gtcSyncWord hl
  · simpa only [hrc, if_true] using gives_gtcSyncWord hl
  · intro off now
    exact ⟨fun w hw hle => ⟨gives_gtcCopySync_behind hl hd hk hw hle, gives_gtcCopySync_ahead hl hd hk hw hle,
      gives_gtcCopySync_near hl hd hk hw hle⟩, gives_gtcCopyStale hl hd hk⟩

end Sys2Proof.Machine

namespace Sys2Proof.Machine

/-! ## A byte read after a byte is written, on the own die (R403, R412, R446) -/

theorem Cells.byte_putList (bs : List Byte) : ∀ (m : Cells) (a x : Nat), Memory.wf m = true →
    (m.putList a bs).byte x = if h : a ≤ x ∧ x < a + bs.length then bs[x - a]'(by omega) else m.byte x := by
  induction bs with
  | nil =>
    intro m a x _
    rw [dif_neg (by simp)]
    rfl
  | cons b bs ih =>
    intro m a x hwf
    refine (ih (m.put a b) (a + 1) x (Memory.wf_put m a b hwf)).trans ?_
    rw [Cells.byte_put m a b x hwf]
    by_cases hx : x = a
    · subst hx
      rw [dif_neg (by omega), if_pos rfl, dif_pos ⟨Nat.le_refl x, by simp⟩]
      simp
    · by_cases hin : a + 1 ≤ x ∧ x < a + 1 + bs.length
      · rw [dif_pos hin, dif_pos ⟨by omega, by simp only [List.length_cons]; omega⟩]
        simp only [show x - a = x - (a + 1) + 1 from by omega, List.getElem_cons_succ]
      · rw [dif_neg hin, if_neg hx, dif_neg (by simp only [List.length_cons]; omega)]

theorem leNat_leBytes (n : Nat) : ∀ v, leNat (leBytes n v) = v % 256 ^ n := by
  induction n with
  | zero => exact fun v => (Nat.mod_one v).symm
  | succ n ih =>
    intro v
    rw [leBytes, leNat, ih, BitVec.toNat_ofNat]
    exact (Nat.mod_mul (x := v) (a := 256) (b := 256 ^ n)).symm.trans (by rw [Nat.pow_succ' (m := 256)])

/-- Every address of a 64-byte line has the line's key. -/
theorem State.lineKey_line (s : State) {a pa : Nat} (h : a / 64 = pa / 64) : s.lineKey a = s.lineKey pa := by
  have hdie : paDie a = paDie pa := by
    simp only [paDie]
    omega
  have hpage : paLocal a / 2 ^ 21 = paLocal pa / 2 ^ 21 := by
    simp only [paLocal]
    omega
  rw [State.lineKey, State.lineKey, State.sealedPart, State.sealedPart, State.tagOf, State.tagOf, hdie, hpage]

theorem State.lineKey_of_sansBytes {s t : State} (h : t.sansBytes = s.sansBytes) (a : Nat) : t.lineKey a = s.lineKey a :=
  (congrArg (fun u : State => u.lineKey a) h :)

theorem State.ownDie_of_sansBytes {s t : State} (h : t.sansBytes = s.sansBytes) : t.ownDie = s.ownDie :=
  (congrArg (fun u : State => u.ownDie) h :)

theorem Cells.byte_putLe_line (m : Cells) (v a : Nat) (hwf : Memory.wf m = true) :
    (m.putLe (a / 64 * 64) 64 v).byte a = BitVec.ofNat 8 (v / 256 ^ (a % 64)) := by
  have hget := leBytes_get 64 v (j := a - a / 64 * 64) (by omega)
  rw [List.getElem?_eq_getElem (by rw [leBytes_length]; omega), Option.some_inj] at hget
  refine (Cells.byte_putList _ _ _ _ hwf).trans ((dif_pos (by rw [leBytes_length]; omega)).trans (hget.trans ?_))
  rw [show a - a / 64 * 64 = a % 64 from by omega]

/-- A line that carries another key is enciphered anew before a byte of it changes: each of its bytes reads as before, now from
the memory itself. -/
theorem State.rekeyLine_line (s : State) {pa a : Nat} (hwf : Memory.wf s.mem = true) (hline : a / 64 = pa / 64) :
    Tab.get 0 (s.rekeyLine pa).sealTag (a / 64) = s.lineKey a ∧ (s.rekeyLine pa).mem.byte a = s.memByte a ∧
      Memory.wf (s.rekeyLine pa).mem = true := by
  have hk := s.lineKey_line hline
  rw [State.rekeyLine, State.memByte, hline, hk]
  by_cases hkey : Tab.get 0 s.sealTag (pa / 64) = s.lineKey pa
  · rw [if_pos hkey, if_pos hkey]
    exact ⟨hkey, rfl, hwf⟩
  · rw [if_neg hkey, if_neg hkey, ← hline]
    generalize Config.recipher _ _ _ _ = v
    dsimp only
    exact ⟨Tab.get_set_self .., Cells.byte_putLe_line s.mem v a hwf, Memory.wf_putLe s.mem (a / 64 * 64) 64 v hwf⟩

/-- A byte of the line of `pa` on the own die, after the byte at `pa` is written. -/
theorem State.physByte_physPut (s : State) {pa a : Nat} (b : Byte) (hdie : paDie pa = s.ownDie) (hmem : Memory.wf s.mem = true)
    (hscratch : Memory.wf s.basin.scratch = true) (hline : a / 64 = pa / 64) :
    (s.physPut pa b).physByte a = if a = pa then b else s.physByte a := by
  have ha : paDie a = s.ownDie := by
    rw [← hdie]
    simp only [paDie]
    omega
  have hbase : basinBase ≤ paLocal a ↔ basinBase ≤ paLocal pa := by
    simp only [basinBase, paLocal]
    omega
  have hown : (s.physPut pa b).ownDie = s.ownDie := State.ownDie_of_sansBytes (State.physPut_sansBytes s pa b)
  rw [State.physByte, State.physByte, hown, if_neg (not_not.mpr ha), if_neg (not_not.mpr ha)]
  by_cases hb : basinBase ≤ paLocal pa
  · rw [if_pos (hbase.mpr hb), if_pos (hbase.mpr hb), State.physPut, if_neg (not_not.mpr hdie), if_pos hb]
    show Cells.byte (s.basin.scratch.put _ _) _ = _
    rw [Cells.byte_put _ _ _ _ hscratch]
    refine if_congr ?_ rfl rfl
    simp only [paLocal, basinBase] at *
    omega
  · have hput : s.physPut pa b = { s.rekeyLine pa with mem := (s.rekeyLine pa).mem.put pa b } := by
      rw [State.physPut, if_neg (not_not.mpr hdie), if_neg hb]
    have hkey : (s.physPut pa b).lineKey a = s.lineKey a := State.lineKey_of_sansBytes (State.physPut_sansBytes s pa b) a
    obtain ⟨htag, hbyte, hwf⟩ := s.rekeyLine_line hmem hline
    rw [if_neg (mt hbase.mp hb), if_neg (mt hbase.mp hb), State.memByte, hkey]
    rw [hput, if_pos htag, Cells.byte_put _ _ _ _ hwf, hbyte]

theorem State.physPut_wf (s : State) (pa : Nat) (b : Byte) (hmem : Memory.wf s.mem = true)
    (hscratch : Memory.wf s.basin.scratch = true) :
    Memory.wf (s.physPut pa b).mem = true ∧ Memory.wf (s.physPut pa b).basin.scratch = true :=
  ⟨s.physPutList_mem_wf [b] pa hmem, s.physPutList_scratch_wf [b] pa hscratch⟩

/-- A byte of a line on the own die, after bytes of that line are written. -/
theorem State.physByte_physPutList (bs : List Byte) : ∀ (s : State) (pa a : Nat), paDie pa = s.ownDie →
    Memory.wf s.mem = true → Memory.wf s.basin.scratch = true → a / 64 = pa / 64 → pa % 64 + bs.length ≤ 64 →
    (s.physPutList pa bs).physByte a = if h : pa ≤ a ∧ a < pa + bs.length then bs[a - pa]'(by omega) else s.physByte a := by
  induction bs with
  | nil =>
    intro s pa a _ _ _ _ _
    rw [dif_neg (by simp)]
    rfl
  | cons b bs ih =>
    intro s pa a hdie hmem hscratch hline hlen
    rw [List.length_cons] at hlen
    obtain ⟨hmem', hscratch'⟩ := s.physPut_wf pa b hmem hscratch
    have hown : (s.physPut pa b).ownDie = s.ownDie := State.ownDie_of_sansBytes (State.physPut_sansBytes s pa b)
    rw [State.physPutList]
    by_cases hnil : bs = []
    · subst hnil
      refine (s.physByte_physPut b hdie hmem hscratch hline).trans ?_
      by_cases hx : a = pa
      · subst hx
        rw [if_pos rfl, dif_pos ⟨Nat.le_refl a, by simp⟩]
        simp
      · rw [if_neg hx, dif_neg (by simp only [List.length_cons, List.length_nil]; omega)]
    · have hpos : 0 < bs.length := List.length_pos_iff.mpr hnil
      refine (ih (s.physPut pa b) (pa + 1) a ?_ hmem' hscratch' (by omega) (by omega)).trans ?_
      · rw [hown, ← hdie]
        simp only [paDie]
        omega
      · rw [s.physByte_physPut b hdie hmem hscratch hline]
        by_cases hx : a = pa
        · subst hx
          rw [dif_neg (by omega), if_pos rfl, dif_pos ⟨Nat.le_refl a, by simp⟩]
          simp
        · by_cases hin : pa + 1 ≤ a ∧ a < pa + 1 + bs.length
          · rw [dif_pos hin, dif_pos ⟨by omega, by simp only [List.length_cons]; omega⟩]
            simp only [show a - pa = a - (pa + 1) + 1 from by omega, List.getElem_cons_succ]
          · rw [dif_neg hin, if_neg hx, dif_neg (by simp only [List.length_cons]; omega)]

theorem State.physBytes_congr {s t : State} : ∀ (n pa : Nat), (∀ k, k < n → t.physByte (pa + k) = s.physByte (pa + k)) →
    t.physBytes pa n = s.physBytes pa n := by
  intro n
  induction n with
  | zero => exact fun _ _ => rfl
  | succ n ih =>
    intro pa h
    rw [State.physBytes, State.physBytes, ih (pa + 1) fun k hk => by
      rw [show pa + 1 + k = pa + (k + 1) from by omega]
      exact h (k + 1) (by omega)]
    exact congrArg (· :: _) (h 0 (by omega))

theorem State.physBytes_eq (s : State) (l : List Byte) : ∀ pa, (∀ k (hk : k < l.length), s.physByte (pa + k) = l[k]) →
    s.physBytes pa l.length = l := by
  induction l with
  | nil => exact fun _ _ => rfl
  | cons b l ih =>
    intro pa h
    rw [List.length_cons, State.physBytes, ih (pa + 1) fun k hk => by
      rw [show pa + 1 + k = pa + (k + 1) from by omega]
      exact h (k + 1) (by simp only [List.length_cons]; omega)]
    exact congrArg (· :: l) (h 0 (by simp))

/-- The two words of a fence, written at an aligned address of the own die: the first reads as it was written. -/
theorem State.physLe_fence (s : State) {pa : Nat} (w c : Nat) (hdie : paDie pa = s.ownDie) (hal : pa % 16 = 0)
    (hmem : Memory.wf s.mem = true) (hscratch : Memory.wf s.basin.scratch = true) :
    ((s.physPutLe pa 8 w).physPutLe (pa + 8) 8 c).physLe pa 8 = w % 2 ^ 64 := by
  have hlen : ∀ v, (leBytes 8 v).length = 8 := leBytes_length 8
  have hown : (s.physPutLe pa 8 w).ownDie = s.ownDie := State.ownDie_of_sansBytes (State.physPutLe_sansBytes s pa 8 w)
  have hbytes := State.physBytes_eq ((s.physPutLe pa 8 w).physPutLe (pa + 8) 8 c) (leBytes 8 w) pa fun k hk => by
    rw [hlen] at hk
    refine (State.physByte_physPutList (leBytes 8 c) _ (pa + 8) (pa + k) ?_ (s.physPutList_mem_wf _ pa hmem)
      (s.physPutList_scratch_wf _ pa hscratch) (by omega) (by rw [hlen]; omega)).trans ?_
    · refine Eq.trans ?_ (hdie.trans hown.symm)
      simp only [paDie]
      omega
    · rw [dif_neg (by omega)]
      refine (State.physByte_physPutList (leBytes 8 w) s pa (pa + k) hdie hmem hscratch (by omega)
        (by rw [hlen]; omega)).trans ?_
      rw [dif_pos ⟨by omega, by rw [hlen]; omega⟩]
      simp only [Nat.add_sub_cancel_left]
  rw [hlen] at hbytes
  rw [State.physLe, hbytes]
  exact leNat_leBytes 8 w

end Sys2Proof.Machine

namespace Sys2Proof.Machine

/-! ## Submission and retirement (spec chapters 4 and 5) -/

theorem State.queue_updQueue (s : State) (q : Nat) (f : Queue → Queue) : (s.updQueue q f).queue q = f (s.queue q) :=
  (State.queue_setQueue s q q _).trans (if_pos rfl)

theorem State.queue_updQueue_ne {s : State} {q k : Nat} (f : Queue → Queue) (h : k ≠ q) : (s.updQueue q f).queue k = s.queue k :=
  (State.queue_setQueue s q k _).trans (if_neg h)

theorem State.sat_regs (s : State) (f : Fld) (n : Nat) : { s.sat f n with regs := s.regs } = s := rfl

section Doorbells

variable {s : State} {q : Nat} {value : Nat}

/-- A doorbell of a queue that takes none only counts. -/
theorem State.takeDoorbell_stray (h : s.doorbellCid q = none) : s.takeDoorbell q value = s.sat Reg.OBJ_COUNTS_STRAY_DB 1 := by
  rw [State.takeDoorbell, h]

theorem State.takeDoorbell_dup {c : Nat} (h : s.doorbellCid q = some c) (hn : newer (value / 2 ^ 32) (s.queue q).seq 32 = false) :
    s.takeDoorbell q value = s.updQueue q fun x => { x with dups := min 0xFFFF (x.dups + 1) } := by
  rw [State.takeDoorbell, h]
  dsimp only
  rw [hn]
  rfl

theorem State.takeDoorbell_moves {c : Nat} (h : s.doorbellCid q = some c)
    (hn : newer (value / 2 ^ 32) (s.queue q).seq 32 = true)
    (h0 : 0 < (value % 2 ^ 32 + 2 ^ 32 - (s.queue q).tail) % 2 ^ 32)
    (h1 : (value % 2 ^ 32 + 2 ^ 32 - (s.queue q).tail) % 2 ^ 32 < 2 ^ 31)
    (h2 : (value % 2 ^ 32 + 2 ^ 32 - (s.queue q).head) % 2 ^ 32 ≤ 2 ^ (s.queue q).ringLog2) :
    s.takeDoorbell q value = (s.updQueue q fun x => { x with seq := value / 2 ^ 32 }).updQueue q
      fun x => { x with tail := value % 2 ^ 32 } := by
  rw [State.takeDoorbell, h]
  dsimp only
  rw [hn, if_neg (by decide), if_neg (by omega), if_neg (by omega)]

theorem State.takeDoorbell_tailErr {c : Nat} (h : s.doorbellCid q = some c)
    (hn : newer (value / 2 ^ 32) (s.queue q).seq 32 = true)
    (h1 : 2 ^ 31 ≤ (value % 2 ^ 32 + 2 ^ 32 - (s.queue q).tail) % 2 ^ 32) :
    ∃ d, s.takeDoorbell q value = ((s.updQueue q fun x => { x with seq := value / 2 ^ 32 }).updQueue q
      fun x => { x with tailErrs := min 0xFF (x.tailErrs + 1) }).faultC 0x0A uDSP dspStop d (some c) (some q) none := by
  rw [State.takeDoorbell, h]
  dsimp only
  rw [hn, if_neg (by decide), if_pos (Or.inl h1)]
  exact ⟨_, rfl⟩

end Doorbells

section Cancels

variable {s : State} {q value blocks : Nat}

/-- A cancel names one index where bit 32 of its value is 0. -/
theorem State.takeCancel_index (hv : value < 2 ^ 32) : bitAt value 32 = false ∧ value % 2 ^ 32 = value :=
  ⟨by rw [bitAt, Nat.div_eq_of_lt hv]; rfl, Nat.mod_eq_of_lt hv⟩

theorem State.takeCancel_miss (hc : s.queueCid q = none) (hp : (s.queue q).pkts = []) :
    s.takeCancel q value blocks = s.sat Reg.DSP_SUBMIT_COUNTS_CANCEL_MISS 1 := by
  rw [State.takeCancel, if_pos ⟨by rw [hc]; rfl, by rw [hp]; rfl⟩]

/-- A cancel of the one index `value` of an enabled queue, without a packet held or an entry staged. -/
theorem State.takeCancel_unfetched (hc : s.queueCid q ≠ none) (hv : value < 2 ^ 32) (hst : (s.queue q).st ≠ .disabled)
    (hstaged : (s.queue q).staged = none) (hp : (s.queue q).pkts = [])
    (hrel : (value + 2 ^ 32 - (s.queue q).head) % 2 ^ 32 < ((s.queue q).tail + 2 ^ 32 - (s.queue q).head) % 2 ^ 32)
    {u : State} (hu : u = if (s.queue q).staging = some value then s.updQueue q fun x => { x with staging := none } else s)
    (hnew : (q, value) ∉ u.disp.cancels) (hlen : u.disp.cancels.length < 4096) :
    s.takeCancel q value blocks = { u with disp := { u.disp with cancels := u.disp.cancels ++ [(q, value)] } } := by
  obtain ⟨hbit, hmod⟩ := State.takeCancel_index hv
  have hsome : ¬ (s.queueCid q).isNone = true := by simpa using hc
  have hnew' : u.disp.cancels.contains (q, value) = false := by simpa using hnew
  rw [State.takeCancel]
  dsimp only
  rw [if_neg (fun h => hsome h.1), if_neg (fun h => hst h.1), hp, hstaged, hbit, hmod]
  simp only [List.foldl_nil, Bool.false_or, hst, hrel, if_true, if_false, Bool.false_eq_true, Bool.not_false]
  cases hs : (s.queue q).staging with
  | none =>
    rw [hs, if_neg (by simp)] at hu
    subst hu
    dsimp only
    simp only [Bool.false_eq_true, if_false]
    rw [hnew', if_neg (by decide), if_neg (by omega)]
  | some i =>
    rw [hs] at hu
    have hcond : (if (i == value) = true then s.updQueue q fun x => { x with staging := none } else s) = u := by
      rw [hu]
      simp only [beq_iff_eq, Option.some_inj]
    dsimp only
    rw [hcond, hnew', if_neg (by decide), if_neg (by omega)]

/-- A cancel ends the one packet that its queue holds while the packet waits for its start. -/
theorem State.takeCancel_held {p : Pkt} (hc : s.queueCid q ≠ none) (hv : value < 2 ^ 32) (hst : (s.queue q).st ≠ .disabled)
    (htail : (s.queue q).tail = (s.queue q).head) (hstaged : (s.queue q).staged = none) (hstaging : (s.queue q).staging = none)
    (hp : (s.queue q).pkts = [p]) (hi : p.index = value) (he : p.ended = none) (hr : p.runs = []) (hf : p.st = .fetched) :
    ((s.takeCancel q value blocks).queue q).pkts = [Pkt.finish .cancelled p] := by
  obtain ⟨hbit, hmod⟩ := State.takeCancel_index hv
  have hsome : ¬ (s.queueCid q).isNone = true := by simpa using hc
  have hwait : p.waiting = true := by rw [Pkt.waiting, he, hr, hf]; rfl
  have hcancel : (s.withdraw q p.index).cancelPkt q blocks p =
      ((s.withdraw q p.index).updPkt q p.index (Pkt.finish .cancelled), true) := by
    rw [State.cancelPkt, he, hr, hf]
    dsimp only
    rw [if_neg (by decide), if_neg (by decide), if_pos (Or.inr hwait), if_pos (by rfl)]
  have hqueue : (s.withdraw q p.index).queue q = s.queue q := by
    unfold State.withdraw
    split
    · split <;> rfl
    · rfl
  rw [State.takeCancel]
  dsimp only
  rw [if_neg (fun h => hsome h.1), if_neg (fun h => hst h.1), hp, hstaged, hstaging, hbit, hmod, htail, Nat.add_sub_cancel_left,
    Nat.mod_self, List.foldl_cons, List.foldl_nil]
  dsimp only
  subst hi
  simp only [beq_self_eq_true, if_true, hcancel, hst, if_false, Bool.false_eq_true, Nat.not_lt_zero, Bool.not_false,
    Bool.or_true, Bool.or_false]
  rw [State.queue_updPkt, hqueue, Queue.updPkt, hp]
  simp

end Cancels

/-! ### The fetch of an entry at HEAD -/

section Fetch

variable {s : State} {q c raw : Nat}

/-- The state in which an entry read from the ring is past HEAD, before it is admitted. -/
def State.fetchedPast (s : State) (q : Nat) : State :=
  let s1 := s.useFor .ringRead q
  let s2 := { s1 with disp := { s1.disp with cancels := s1.disp.cancels.filter (· != (q, (s.queue q).head)) } }
  s2.updQueue q fun x => { x with head := ((s.queue q).head + 1) % 2 ^ 32, staged := x.staged,
                                  horizon := if x.horizon = some (s.queue q).head then none else x.horizon }

theorem State.queue_fetchedPast (s : State) (q : Nat) : (s.fetchedPast q).queue q =
    { s.queue q with head := ((s.queue q).head + 1) % 2 ^ 32, staged := (s.queue q).staged,
                     horizon := if (s.queue q).horizon = some (s.queue q).head then none else (s.queue q).horizon } :=
  State.queue_updQueue _ q _

/-- A fetch of an entry that the ring read gave, in the usual mode: the entry enters the queue as it was admitted. -/
theorem execPacketFetch_normal {qid : BitVec 16} (hq : q = qid.toNat % 32768) (hlive : s.domLive 3 = true)
    (hc : s.queueCid q = some c) (hmay : s.mayFetch q c = true) (hnext : s.nextEntry q c = .ok (raw, [], false))
    (hmode : s.fetchMode q c = .normal) {u : State} {p : Pkt}
    (hadmit : (s.fetchedPast q).admitEntry q c (s.queue q).head raw none = (u, p)) :
    exec (.packetFetch qid none) s = .next (u.updQueue q fun x => { x with pkts := x.pkts ++ [p] }) := by
  have hmode' : (s.useFor .ringRead q).fetchMode q c = .normal := hmode
  refine exec_live (execPacketFetch.eq_1 ..) hlive ?_
  refine congrArg Host.Outcome.next ?_
  rw [← hq, hc]
  dsimp only
  rw [hmay, if_neg (by decide), hnext]
  dsimp only
  rw [if_neg (by decide), hmode']
  exact congrArg (fun r : State × Pkt => r.1.updQueue q fun x => { x with pkts := x.pkts ++ [r.2] }) hadmit

theorem State.packetBad_fetchedPast (s : State) (q raw n : Nat) :
    packetBad raw ((s.fetchedPast q).queue q) n = packetBad raw (s.queue q) n := by
  rw [State.queue_fetchedPast]
  rfl

theorem sizeBad_nil (raw : Nat) : sizeBad raw [] = none := by
  unfold sizeBad
  split
  · rfl
  split <;> rfl

theorem State.admitEntry_valid {u : State} {i : Nat} (hbad : packetBad raw (u.queue q) (u.partClusters (u.ctx c).pid) = none)
    (hh : packetHandles raw = []) (he : hasEvent raw = false) :
    u.admitEntry q c i raw none = (u, Pkt.fresh c i raw) := by
  rw [State.admitEntry]
  dsimp only
  rw [hbad, hh]
  dsimp only [State.takeRefs]
  rw [sizeBad_nil, he]
  rfl

theorem State.admitEntry_bad {u : State} {i o : Nat}
    (hbad : packetBad raw (u.queue q) (u.partClusters (u.ctx c).pid) = some o) (hf : hasFence raw = false) :
    ∃ d, u.admitEntry q c i raw none = (u.faultC 0x0B uDSP dspStop d (some c) (some q) none,
      Pkt.finish (.error 0x0B uDSP (some u.conc.nextId)) (Pkt.fresh c i raw)) := by
  rw [State.admitEntry]
  dsimp only
  rw [hbad]
  dsimp only [State.takeFence]
  rw [hf]
  exact ⟨_, rfl⟩

end Fetch

/-! ### The engine that ends a transfer -/

theorem State.physPutList_queues (bs : List Byte) (s : State) (pa : Nat) : (s.physPutList pa bs).queues = s.queues :=
  (congrArg State.queues (State.physPutList_sansBytes bs s pa) :)

theorem State.physPutList_disp (bs : List Byte) (s : State) (pa : Nat) : (s.physPutList pa bs).disp = s.disp :=
  (congrArg State.disp (State.physPutList_sansBytes bs s pa) :)

theorem State.dmaBlock_queues {s u : State} {en cid raw done n : Nat} (h : s.dmaBlock en cid raw done = .ok (u, n)) :
    u.queues = s.queues ∧ u.disp = s.disp := by
  have hput : ∀ (v w : State), w.sansBytes = v.sansBytes → w.queues = v.queues ∧ w.disp = v.disp := fun _ _ hw =>
    ⟨(congrArg State.queues hw :), (congrArg State.disp hw :)⟩
  unfold State.dmaBlock at h
  dsimp only at h
  split at h
  · split at h
    · next hw =>
      cases h
      exact hput s u (State.writeVaBy_sansBytes _ hw)
    · cases h
  · split at h
    · cases h
    · split at h
      · split at h
        · cases h
        · cases h
          exact ⟨State.physPutList_queues .., State.physPutList_disp ..⟩
      · split at h
        · next hw =>
          cases h
          exact hput s u (State.writeVaBy_sansBytes _ hw)
        · cases h

/-- Moving blocks leaves every packet and every engine's queue as they are. -/
theorem State.dmaBlocks_queues {en cid raw : Nat} (k : Nat) : ∀ (s : State) (done : Nat),
    (s.dmaBlocks en cid raw done k).1.queues = s.queues ∧ (s.dmaBlocks en cid raw done k).1.disp = s.disp := by
  induction k with
  | zero => exact fun _ _ => ⟨rfl, rfl⟩
  | succ k ih =>
    intro s done
    rw [State.dmaBlocks]
    generalize (if opOf raw = 0x31 then pfld raw 0x20 8 else pfld raw 0x28 8) = len
    split
    · exact ⟨rfl, rfl⟩
    · split
      · exact ⟨rfl, rfl⟩
      · next u n h =>
        obtain ⟨hq, hd⟩ := State.dmaBlock_queues h
        obtain ⟨hq', hd'⟩ := ih (u.countFor cid fun c => { c with bytes := c.bytes + n }) (done + n)
        exact ⟨hq'.trans hq, hd'.trans hd⟩

theorem State.dmaStart_idle {s : State} {n : Nat} (h : s.dmaQueue n = []) : s.dmaStart n = s := by
  rw [State.dmaStart, h]
  split <;> rfl

/-- The engine whose one transfer is through holds no packet, and the packet is ended. -/
theorem execDmaTransferComplete_done {s u : State} {n : BitVec 1} {q i d : Nat} {p : Pkt} (hlive : s.domLive 4 = true)
    (hdq : s.dmaQueue n.toNat = [(q, i)]) (hp : (s.queue q).pkt i = some p) (hst : p.st = .started) (htok : p.token = none)
    (h2 : opOf p.raw ≠ 0x32) (h3 : opOf p.raw ≠ 0x33) (hstall : s.dmaStalled n.toNat = false)
    (hb : s.dmaBlocks n.toNat p.cid p.raw p.done (2 ^ 31) = (u, d, none)) :
    exec (.dmaTransferComplete n) s = .next (u.dmaLeave n.toNat q i fun p => Pkt.finish .ok { p with done := d }) := by
  have hrun : s.dmaRunning n.toNat = [(q, i)] := by
    rw [State.dmaRunning_eq, hdq]
    simp [hp, dmaMoves, hst, htok]
  have hheld : s.heldPkt q i = some (p.cid, p) := by rw [State.heldPkt, hp]; rfl
  refine exec_live (execDmaTransferComplete.eq_1 ..) hlive (congrArg _ ?_)
  rw [State.dmaRun, hrun, List.head?_cons]
  dsimp only
  rw [hheld]
  dsimp only
  rw [hstall, if_neg (by decide), if_neg (by omega), hb]

theorem State.dmaLeave_last {u : State} {n q i : Nat} (f : Pkt → Pkt) (h : u.dmaQueue n = [(q, i)]) :
    u.dmaLeave n q i f = (u.updPkt q i f).setDma n [] := by
  have hnil : ((u.updPkt q i f).setDma n []).dmaQueue n = [] := by
    rw [State.dmaQueue_eq]
    simp [State.setDma]
  rw [State.dmaLeave, h]
  simp only [List.filter_cons, bne_self_eq_false, Bool.false_eq_true, if_false, List.filter_nil]
  exact State.dmaStart_idle hnil

/-! ### Retirement -/

/-- What waking and breaking waiters, serving a barrier and settling a loss leave of a state: its memories and keys, its mesh,
and every register field but the two in which a closed PD1 counts records. -/
structure State.KeepsStore (s t : State) : Prop where
  rest : t = { s with queues := t.queues, waiters := t.waiters, conc := t.conc, regs := t.regs, freeCtr := t.freeCtr,
                      host := t.host, ctxs := t.ctxs }
  get : ∀ g : Fld, g.key ≠ Reg.WAT_STATUS_HELD.key → g.key ≠ Reg.WAT_STATUS_HOLD_OVF.key → t.get g = s.get g

theorem State.KeepsStore.refl (s : State) : s.KeepsStore s := ⟨rfl, fun _ _ _ => rfl⟩

theorem State.KeepsStore.trans {s t u : State} (h : s.KeepsStore t) (h' : t.KeepsStore u) : s.KeepsStore u where
  rest := h'.rest.trans (by rw [h.rest])
  get g h1 h2 := (h'.get g h1 h2).trans (h.get g h1 h2)

theorem State.Filed.keepsStore {s t : State} {k : Nat} (h : s.Filed t k) : s.KeepsStore t where
  rest := h.rest.trans (by rw [h.rest])
  get := h.get

theorem State.updQueue_keepsStore (s : State) (q : Nat) (f : Queue → Queue) : s.KeepsStore (s.updQueue q f) :=
  ⟨rfl, fun _ _ _ => rfl⟩

theorem State.setWaiter_keepsStore (s : State) (i : Nat) (w : Option Waiter) : s.KeepsStore (s.setWaiter i w) :=
  ⟨rfl, fun _ _ _ => rfl⟩

theorem State.event_keepsStore (s : State) (v : Nat) : s.KeepsStore (s.event v) := ⟨rfl, fun _ _ _ => rfl⟩

theorem State.setCtx_keepsStore (s : State) (c : Nat) (x : Ctx) : s.KeepsStore (s.setCtx c x) := ⟨rfl, fun _ _ _ => rfl⟩

theorem State.satisfy_keepsStore (s : State) (i : Nat) : s.KeepsStore (s.satisfy i) := by
  unfold State.satisfy
  split
  · exact State.KeepsStore.refl s
  · refine (s.setWaiter_keepsStore i none).trans ?_
    dsimp only
    split
    · exact (State.updQueue_keepsStore _ i _).trans (State.updQueue_keepsStore _ i _)
    · exact State.event_keepsStore _ _

theorem State.breakWaiter_keepsStore (s : State) (i code : Nat) (r : Option Nat) (st : Nat) :
    s.KeepsStore (s.breakWaiter i code r st) := by
  unfold State.breakWaiter
  split
  · exact State.KeepsStore.refl s
  · refine (s.setWaiter_keepsStore i none).trans ?_
    dsimp only
    split
    · refine State.KeepsStore.trans ?_ ((State.updQueue_keepsStore _ i _).trans (State.updQueue_keepsStore _ i _))
      split
      · exact State.KeepsStore.refl _
      · exact (State.faultC_filed ..).keepsStore
    · exact State.event_keepsStore _ _

theorem State.evalWaiter_keepsStore (s : State) (i word : Nat) : s.KeepsStore (s.evalWaiter i word) := by
  unfold State.evalWaiter
  split
  · exact State.KeepsStore.refl s
  · dsimp only
    split
    · exact s.satisfy_keepsStore i
    · split
      · exact s.breakWaiter_keepsStore ..
      · exact State.KeepsStore.refl s

theorem State.foldl_evalWaiter_keepsStore (word : Nat) (l : List Nat) : ∀ s : State,
    s.KeepsStore (l.foldl (fun s i => s.evalWaiter i word) s) := by
  induction l with
  | nil => exact State.KeepsStore.refl
  | cons i l ih => exact fun s => (s.evalWaiter_keepsStore i word).trans (ih _)

theorem State.evalFence_keepsStore (s : State) (cid va word : Nat) : s.KeepsStore (s.evalFence cid va word) :=
  State.foldl_evalWaiter_keepsStore word _ s

theorem State.serveBarrier_keepsStore (s : State) (q : Nat) : s.KeepsStore (s.serveBarrier q) := by
  unfold State.serveBarrier
  split
  · exact State.KeepsStore.refl s
  · split
    · exact ((s.setWaiter_keepsStore q none).trans (State.updQueue_keepsStore _ q _)).trans (State.updQueue_keepsStore _ q _)
    · exact State.KeepsStore.refl s

theorem State.settleLoss_keepsStore (s : State) (c : Nat) : s.KeepsStore (s.settleLoss c) := by
  unfold State.settleLoss
  dsimp only
  split
  · exact (s.setCtx_keepsStore c _).trans (State.event_keepsStore _ _)
  · exact State.KeepsStore.refl s

theorem State.Filed.queue {s t : State} {k : Nat} (h : s.Filed t k) (q : Nat) : t.queue q = s.queue q := by
  rw [h.rest]
  rfl

section Kept

variable {s t : State}

theorem State.KeepsStore.mesh (h : s.KeepsStore t) : t.mesh = s.mesh := by rw [h.rest]

theorem State.KeepsStore.on (h : s.KeepsStore t) {g : Fld} (h1 : g.key ≠ Reg.WAT_STATUS_HELD.key)
    (h2 : g.key ≠ Reg.WAT_STATUS_HOLD_OVF.key) : t.on g = s.on g := congrArg (· == 1) (h.get g h1 h2)

theorem State.KeepsStore.ownDie (h : s.KeepsStore t) : t.ownDie = s.ownDie := by
  have hy : t.yard = s.yard := by
    rw [h.rest]
    rfl
  rw [State.ownDie, State.ownDie, hy, h.get Reg.LNK_DIE_DIE (by decide) (by decide)]

theorem State.KeepsStore.tagOf (h : s.KeepsStore t) (pa : Nat) : t.tagOf pa = s.tagOf pa := by
  refine List.find?_congr fun k hk => ?_
  have hk := List.mem_range.mp hk
  rw [State.tagCovers, State.tagCovers,
    h.on (g := Reg.XLT_TAG_LO_VALID k) (by simp only [Fld.key, Reg.XLT_TAG_LO, Reg.WAT_STATUS]; omega)
      (by simp only [Fld.key, Reg.XLT_TAG_LO, Reg.WAT_STATUS]; omega),
    h.get (Reg.XLT_TAG_LO_BASE k) (by simp only [Fld.key, Reg.XLT_TAG_LO, Reg.WAT_STATUS]; omega)
      (by simp only [Fld.key, Reg.XLT_TAG_LO, Reg.WAT_STATUS]; omega),
    h.get (Reg.XLT_TAG_HI_LAST k) (by simp only [Fld.key, Reg.XLT_TAG_HI, Reg.WAT_STATUS]; omega)
      (by simp only [Fld.key, Reg.XLT_TAG_HI, Reg.WAT_STATUS]; omega)]

theorem State.KeepsStore.sealedPart (h : s.KeepsStore t) (pa : Nat) : t.sealedPart pa = s.sealedPart pa := by
  rw [State.sealedPart, State.sealedPart, h.ownDie, h.tagOf]
  split
  · rfl
  · cases s.tagOf pa with
    | none => rfl
    | some k =>
      dsimp only
      rw [h.get (Reg.XLT_TAG_LO_PID k) (by simp only [Fld.key]; omega) (by simp only [Fld.key]; omega),
        h.get (Reg.XLT_TAG_LO_KIND k) (by simp only [Fld.key]; omega) (by simp only [Fld.key]; omega),
        h.on (g := Reg.OBJ_PART_CFG_SEALED _) (by simp only [Fld.key]; omega) (by simp only [Fld.key]; omega)]

theorem State.KeepsStore.physByte (h : s.KeepsStore t) {pa : Nat} (hdie : paDie pa = s.ownDie) : t.physByte pa = s.physByte pa := by
  have hstore : t.mem = s.mem ∧ t.basin = s.basin ∧ t.sealTag = s.sealTag ∧ t.sealKeys = s.sealKeys := by
    rw [h.rest]
    exact ⟨rfl, rfl, rfl, rfl⟩
  obtain ⟨hmem, hbasin, htag, hkeys⟩ := hstore
  rw [State.physByte, State.physByte, h.ownDie, if_neg (not_not.mpr hdie), if_neg (not_not.mpr hdie), hbasin, State.memByte,
    State.memByte, State.lineKey, State.lineKey, h.sealedPart, hmem, htag, hkeys]

theorem State.KeepsStore.physLe (h : s.KeepsStore t) {pa n : Nat} (hdie : ∀ k, k < n → paDie (pa + k) = s.ownDie) :
    t.physLe pa n = s.physLe pa n :=
  congrArg leNat (State.physBytes_congr n pa fun k hk => h.physByte (hdie k hk))

end Kept

theorem State.releaseBad_nil (s : State) (b : Option Nat) : s.releaseBad [] b = s := rfl

theorem State.settleLoss_queue (s : State) (c q : Nat) : (s.settleLoss c).queue q = s.queue q := by
  unfold State.settleLoss
  dsimp only
  split <;> rfl

theorem State.settleLoss_none {s : State} {c : Nat} (h : (s.ctx c).lossDue = false) : s.settleLoss c = s := by
  rw [State.settleLoss]
  exact if_neg fun hc => absurd (h.symm.trans hc.1) (by decide)

/-- A packet that left its queue stays away while a barrier behind it is served. -/
theorem State.serveBarrier_absent {s : State} {q i : Nat} (h : (s.queue q).pkt i = none) : ((s.serveBarrier q).queue q).pkt i = none := by
  unfold State.serveBarrier
  split
  · exact h
  · next p ps hp =>
    split
    · rw [State.queue_updQueue, State.queue_updPkt, if_pos rfl]
      refine (Queue.pkt_updPkt _ _ _ (f := Pkt.finish .ok) fun _ => Pkt.finish_index ..).trans ?_
      rw [show ((s.setWaiter q none).queue q).pkt i = none from h]
      split <;> rfl
    · exact h

theorem State.serveBarrier_events (s : State) (q : Nat) : (s.serveBarrier q).host = s.host ∧ (s.serveBarrier q).ctxs = s.ctxs := by
  unfold State.serveBarrier
  split
  · exact ⟨rfl, rfl⟩
  · split <;> exact ⟨rfl, rfl⟩

/-- The state in which the packet `i` of a queue has left it. -/
def State.sansPkt (s : State) (q i : Nat) : State := s.updQueue q fun x => { x with pkts := x.pkts.filter (·.index != i) }

theorem State.sansPkt_pkt (s : State) (q i : Nat) : ((s.sansPkt q i).queue q).pkt i = none := by
  rw [State.sansPkt, State.queue_updQueue]
  refine List.find?_eq_none.mpr fun p hp => ?_
  simpa using (List.mem_filter.mp hp).2

/-- The retirement of an ended packet without a completion record or references. -/
theorem execPacketRetire_ended {s : State} {qid : BitVec 16} {i : BitVec 32} {q n : Nat} {p : Pkt} {e : PktEnd}
    (hq : q = qid.toNat % 32768) (hlive : s.domLive 3 = true) (hp : (s.queue q).pkt i.toNat = some p) (he : p.ended = some e)
    (hseq : s.endSeq e = some n) (hrec : hasRecord p.raw = false) (hrefs : p.refs = []) {u v : State}
    (hu : u = match p.fenceVa with
      | none => s
      | some va => (s.useFor .fence q).fence p.fenceCid va (some q) (fenceUpOf p e n p.cid q))
    (hv : v = if hasEvent p.raw ∧ (u.ctx p.cid).hasVec (pfld p.raw 2 2) then u.event (pfld p.raw 2 2) else u) :
    exec (.packetRetire qid i none) s = .next (((v.sansPkt q i.toNat).serveBarrier q).settleLoss p.cid) := by
  have hheld : s.heldPkt q i.toNat = some (p.cid, p) := by rw [State.heldPkt, hp]; rfl
  have hwrite : s.writeRecord q p.cid p e n = s := by
    rw [State.writeRecord, hrec]
    exact if_neg fun h => absurd h.1 (by decide)
  refine exec_live (execPacketRetire.eq_1 ..) hlive (congrArg _ ?_)
  rw [← hq, hheld]
  dsimp only
  rw [he]
  dsimp only
  rw [hseq]
  dsimp only
  rw [hwrite, hrefs, Queue.index_of_pkt hp, State.releaseBad_nil, State.sansPkt, hv, hu]
    <;> cases p.fenceVa <;> rfl

theorem paDie_aligned {pa k : Nat} (hal : pa % 16 = 0) (hk : k < 8) : paDie (pa + k) = paDie pa := by
  simp only [paDie]
  omega

section MeshNeutral

variable (s : State) (m : Mesh)

theorem State.physLe_setMesh (pa n : Nat) : { s with mesh := m }.physLe pa n = s.physLe pa n :=
  congrArg leNat (State.physBytes_congr n pa fun _ _ => rfl)

theorem State.ownerOk_setMesh (cid pa : Nat) (r : Bool) : { s with mesh := m }.ownerOk cid pa r = s.ownerOk cid pa r := by
  have hown : { s with mesh := m }.ownDie = s.ownDie := rfl
  have htag : { s with mesh := m }.tagOf = s.tagOf := rfl
  have hcarve : { s with mesh := m }.carveOwner = s.carveOwner := rfl
  have hcid : { s with mesh := m }.cidPart = s.cidPart := rfl
  have hget : { s with mesh := m }.get = s.get := rfl
  have hon : { s with mesh := m }.on = s.on := rfl
  simp only [State.ownerOk, hown, htag, hcarve, hcid, hget, hon]

theorem State.paCheck_setMesh (cid pa va : Nat) (acc : Access) :
    { s with mesh := m }.paCheck cid pa va acc = s.paCheck cid pa va acc := by
  have hown : { s with mesh := m }.ownDie = s.ownDie := rfl
  have hcarve : { s with mesh := m }.carveOwner = s.carveOwner := rfl
  have hcid : { s with mesh := m }.cidPart = s.cidPart := rfl
  have hport : { s with mesh := m }.diePort = s.diePort := rfl
  have hopen : { s with mesh := m }.domOpen = s.domOpen := rfl
  have hstop : { s with mesh := m }.bsStopOf = s.bsStopOf := rfl
  have habsent : { s with mesh := m }.keyAbsent = s.keyAbsent := rfl
  have hsealed : { s with mesh := m }.sealedPart = s.sealedPart := rfl
  simp only [State.paCheck, hown, hcarve, hcid, hport, hopen, hstop, habsent, hsealed, State.ownerOk_setMesh]

theorem State.walkFrom_setMesh (cid va : Nat) (acc : Access) (levels : List Nat) : ∀ (table : Nat) (hw ua : Bool),
    { s with mesh := m }.walkFrom cid va acc levels table hw ua = s.walkFrom cid va acc levels table hw ua := by
  have habsent : { s with mesh := m }.keyAbsent = s.keyAbsent := rfl
  induction levels with
  | nil => exact fun _ _ _ => rfl
  | cons lvl rest ih =>
    intro table hw ua
    unfold State.walkFrom
    simp only [ih, State.physLe_setMesh, State.ownerOk_setMesh, habsent]

/-- No translation depends on the mesh. -/
theorem State.reach_setMesh (cid va : Nat) (acc : Access) : { s with mesh := m }.reach cid va acc = s.reach cid va acc := by
  have hctx : { s with mesh := m }.ctx = s.ctx := rfl
  have hseg : { s with mesh := m }.segOf = s.segOf := rfl
  have hyard : { s with mesh := m }.yard = s.yard := rfl
  have hfresh : { s with mesh := m }.freshXlat cid va acc = s.freshXlat cid va acc := by
    simp only [State.freshXlat, hctx, hseg, State.walkFrom_setMesh]
    rfl
  simp only [State.reach, State.reachBy, State.xlat, hctx, hyard, hfresh, State.paCheck_setMesh]

end MeshNeutral

section Retire

variable {s u v : State} {q i : Nat}

/-- What a retirement leaves of the state in which the packet's event is raised. -/
theorem State.retired_keepsStore (v : State) (q i c : Nat) :
    v.KeepsStore (((v.sansPkt q i).serveBarrier q).settleLoss c) :=
  ((v.updQueue_keepsStore q _).trans (State.serveBarrier_keepsStore _ q)).trans (State.settleLoss_keepsStore _ c)

theorem State.retired_pkt (v : State) (q i c : Nat) :
    ((((v.sansPkt q i).serveBarrier q).settleLoss c).queue q).pkt i = none := by
  rw [State.settleLoss_queue]
  exact State.serveBarrier_absent (v.sansPkt_pkt q i)

theorem State.retired_events {c : Nat} (h : (v.ctx c).lossDue = false) :
    (((v.sansPkt q i).serveBarrier q).settleLoss c).host.events = v.host.events := by
  obtain ⟨hhost, hctxs⟩ := State.serveBarrier_events (v.sansPkt q i) q
  rw [State.settleLoss_none, hhost]
  · rfl
  · rw [State.ctx, hctxs]
    exact h

end Retire

/-- A fence whose update applies: its two words are written and its waiters evaluated. -/
theorem State.fence_written {s : State} {c va pa w k : Nat} {qid : Option Nat} {up : FenceUp} (hr : s.reach c va .write = .ok pa)
    (hstep : fenceStep (s.physLe pa 8) (s.physLe (pa + 8) 8) up = some (w, k)) :
    s.fence c va qid up = ((s.physPutLe pa 8 w).physPutLe (pa + 8) 8 k).evalFence c va w := by
  rw [State.fence, hr]
  dsimp only
  rw [hstep]

/-- After a fence on the own die is written its word reads as written, whatever its waiters do, and nothing travels. -/
theorem State.fence_written_post {s : State} {c va pa w k : Nat} (hdie : paDie pa = s.ownDie) (hal : pa % 16 = 0)
    (hmem : Memory.wf s.mem = true) (hscratch : Memory.wf s.basin.scratch = true) {t : State}
    (ht : (((s.physPutLe pa 8 w).physPutLe (pa + 8) 8 k).evalFence c va w).KeepsStore t) :
    t.physLe pa 8 = w % 2 ^ 64 ∧ t.mesh = s.mesh := by
  have hbytes : ((s.physPutLe pa 8 w).physPutLe (pa + 8) 8 k).sansBytes = s.sansBytes :=
    (State.physPutLe_sansBytes _ _ _ _).trans (State.physPutLe_sansBytes _ _ _ _)
  have hkeeps := (State.evalFence_keepsStore ((s.physPutLe pa 8 w).physPutLe (pa + 8) 8 k) c va w).trans ht
  refine ⟨(hkeeps.physLe fun j hj => ?_).trans (s.physLe_fence w k hdie hal hmem hscratch), ?_⟩
  · rw [State.ownDie_of_sansBytes hbytes, ← hdie, paDie_aligned hal hj]
  · exact hkeeps.mesh.trans (congrArg State.mesh hbytes :)

/-- Settles O35: doorbells and cancels by their cases, then the stage read, the fetch, the transfer's end and the retirement. -/
theorem submissionAndRetirement : Obligations.SubmissionAndRetirement := by
  unfold Obligations.SubmissionAndRetirement
  intro s qid value blocks hlive q x seq low adv sat sent write cancel
  have hdoor : exec (.doorbell qid value) s = .next (if 4 ≤ s.flight.entryStep then s else s.hostDoorbell write) :=
    exec_live (execDoorbell.eq_1 ..) hlive rfl
  have hcancel : exec (.cancel qid value blocks) s = .next (if 4 ≤ s.flight.entryStep then s else s.hostDoorbell cancel) :=
    exec_live (execCancel.eq_1 ..) hlive rfl
  refine ⟨fun h => ⟨⟨s, hdoor.trans (by rw [if_pos h]), rfl⟩, ⟨s, hcancel.trans (by rw [if_pos h]), rfl⟩⟩, fun hstep => ?_, ?_, ?_, ?_, ?_⟩
  · rw [if_neg (by omega)] at hdoor hcancel
    refine ⟨fun hhold => ⟨fun hlen => ?_, fun hlen => ?_⟩, fun hfree => ?_⟩
    · have hnone : ¬ s.mesh.holdSince.isNone = true := by simpa using hhold
      exact ⟨⟨_, hdoor, (if_neg hnone).trans (if_pos hlen)⟩, ⟨_, hcancel, (if_neg hnone).trans (if_pos hlen)⟩⟩
    · have hnone : ¬ s.mesh.holdSince.isNone = true := by simpa using hhold
      exact ⟨⟨_, hdoor, (if_neg hnone).trans (if_neg (Nat.not_lt.mpr hlen))⟩,
        ⟨_, hcancel, (if_neg hnone).trans (if_neg (Nat.not_lt.mpr hlen))⟩⟩
    · have hnone : s.mesh.holdSince.isNone = true := by rw [hfree]; rfl
      have hd : exec (.doorbell qid value) s = .next ({ s with mesh := sent .doorbell }.takeDoorbell q value.toNat) :=
        hdoor.trans (congrArg _ ((if_pos hnone).trans (if_neg Bool.false_ne_true)))
      have hx : exec (.cancel qid value blocks) s =
          .next ({ s with mesh := sent .cancel }.takeCancel q value.toNat blocks.toNat) :=
        hcancel.trans (congrArg _ ((if_pos hnone).trans (if_pos rfl)))
      refine ⟨fun hc => ?_, fun c hc => ⟨fun hn => ?_, fun hn h0 h1 h2 => ?_, fun hn h1 => ?_⟩, fun hc hp => ?_,
        fun p hc hv hst htail hstaged hstaging hp hi he hr hf => ?_, fun i hc hv hst hstaged hp hrel hnew hlen hi hiv => ?_,
        fun hc hv hst hstaged hstaging hp hrel hnew hlen => ?_⟩
      · exact ⟨_, hd.trans (congrArg _ (State.takeDoorbell_stray hc)), State.get_sat_self .., rfl⟩
      · exact ⟨_, hd.trans (congrArg _ (State.takeDoorbell_dup hc hn)), State.queue_updQueue ..⟩
      · refine ⟨_, hd.trans (congrArg _ (State.takeDoorbell_moves hc hn h0 h1 h2)), ?_, rfl, rfl, fun k hk => ?_⟩
        · rw [State.queue_updQueue, State.queue_updQueue]
          rfl
        · rw [State.queue_updQueue_ne _ hk, State.queue_updQueue_ne _ hk]
          rfl
      · obtain ⟨d, hdd⟩ := State.takeDoorbell_tailErr (s := { s with mesh := sent .doorbell }) hc hn h1
        refine ⟨_, hd.trans (congrArg _ hdd), ?_, (State.faultC_filed ..).nextId⟩
        rw [(State.faultC_filed ..).queue, State.queue_updQueue, State.queue_updQueue]
        rfl
      · exact ⟨_, hx.trans (congrArg _ (State.takeCancel_miss hc hp)), State.get_sat_self .., rfl⟩
      · exact ⟨_, hx, State.takeCancel_held (s := { s with mesh := sent .cancel }) hc hv hst htail hstaged hstaging hp hi he hr hf⟩
      · have hs : x.staging = some value.toNat := hi.trans (congrArg some hiv)
        have htake := State.takeCancel_unfetched (s := { s with mesh := sent .cancel }) (q := q) (value := value.toNat)
          (blocks := blocks.toNat) hc hv hst hstaged hp hrel (if_pos hs).symm hnew hlen
        rw [htake] at hx
        exact ⟨_, hx, State.queue_updQueue { s with mesh := sent .cancel } q fun x => { x with staging := none }, rfl⟩
      · have hs : ¬ x.staging = some value.toNat := by
          rw [hstaging]
          exact nofun
        have htake := State.takeCancel_unfetched (s := { s with mesh := sent .cancel }) (q := q) (value := value.toNat)
          (blocks := blocks.toNat) hc hv hst hstaged hp hrel (if_neg hs).symm hnew hlen
        rw [htake] at hx
        exact ⟨_, hx, rfl⟩
  · intro i c bs u rs hi hc s1 raw hread hbad hrefs hsize hev
    refine ⟨_, exec_live (execStageReadComplete.eq_1 ..) hlive ?_, rfl⟩
    refine congrArg Host.Outcome.next ?_
    rw [hi, hc]
    dsimp only
    rw [hread]
    refine (if_neg ?_).trans ?_
    · intro h
      exact absurd ((congrArg Option.isSome hbad).symm.trans h) (by decide)
    · have hrefs' : (s.updQueue (qid.toNat % 32768) fun x => { x with staging := none }).takeRefs c (leNat bs)
          ((none : Option (BitVec 3)).map (·.toNat)) (packetHandles (leNat bs)) [] = (u, .ok rs) := hrefs
      rw [hrefs']
      exact if_neg fun h => h.elim (fun h => absurd ((congrArg Option.isSome hsize).symm.trans h) (by decide))
        fun h => absurd (hev.symm.trans h.1) (by decide)
  · intro c raw hc hmay hnext hmode hev hf
    have hbadEq := s.packetBad_fetchedPast q raw (s.partClusters (s.ctx c).pid)
    refine ⟨fun hbad hh => ?_, fun o hbad => ?_⟩
    · refine ⟨_, execPacketFetch_normal rfl hlive hc hmay hnext hmode (State.admitEntry_valid (hbadEq.trans hbad) hh hev),
        ?_, ?_, rfl, rfl⟩
      · rw [State.queue_updQueue, State.queue_fetchedPast]
      · rw [State.queue_updQueue, State.queue_fetchedPast]
    · obtain ⟨d, hadmit⟩ := State.admitEntry_bad (i := (s.queue q).head) (hbadEq.trans hbad) hf
      have hfiled := (s.fetchedPast q).faultC_filed 0x0B uDSP dspStop d (some c) (some q) none
      refine ⟨_, execPacketFetch_normal rfl hlive hc hmay hnext hmode hadmit, ?_, hfiled.nextId, ?_⟩
      · rw [State.queue_updQueue, hfiled.queue, State.queue_fetchedPast]
      · rw [State.queue_updQueue, hfiled.queue, State.queue_fetchedPast]
        rfl
  · intro n i p u d hlive4 hdq hp hst htok he h2 h3 hstall hdma hb
    obtain ⟨hqueues, hdisp⟩ := State.dmaBlocks_queues (en := n.toNat) (cid := p.cid) (raw := p.raw) (2 ^ 31) s p.done
    rw [hb] at hqueues hdisp
    change u.queues = s.queues at hqueues
    have hpkt : (u.queue q).pkt i = some p := by
      rw [State.queue, hqueues]
      exact hp
    have hdq' : u.dmaQueue n.toNat = [(q, i)] := by
      rw [← hdq, State.dmaQueue, State.dmaQueue, hdisp]
      simp only [State.queue, hqueues]
    refine ⟨_, execDmaTransferComplete_done hlive4 hdq hp hst htok h2 h3 hstall hb, ?_⟩
    rw [State.dmaLeave_last _ hdq']
    refine ⟨?_, State.pkt_updPkt (f := fun p => Pkt.finish .ok { p with done := d }) hpkt fun _ => Pkt.finish_index .., rfl⟩
    rw [State.dmaQueue_eq]
    simp [State.setDma]
  · intro i p e n hp he hseq hrec hrefs
    refine ⟨fun hf hloss => ?_, fun va pa w k hf hreach hdie hal hmem hscratch hstep => ?_⟩
    · refine ⟨_, execPacketRetire_ended rfl hlive hp he hseq hrec hrefs (u := s) (by rw [hf]) rfl, State.retired_pkt .., ?_⟩
      rw [State.retired_events]
      · split <;> rfl
      · split <;> exact hloss
    · have hstep' : fenceStep ((s.useFor .fence q).physLe pa 8) ((s.useFor .fence q).physLe (pa + 8) 8)
          (fenceUpOf p e n p.cid q) = some (w, k) := by
        rw [State.useFor, State.physLe_setMesh, State.physLe_setMesh]
        exact hstep
      have hfence := State.fence_written (qid := some q) ((State.reach_setMesh s _ _ _ _).trans hreach) hstep'
      obtain ⟨hword, hmesh⟩ := State.fence_written_post (s := s.useFor .fence q) (k := k) (w := w) (c := p.fenceCid) (va := va)
        hdie hal hmem hscratch (State.KeepsStore.trans (t := if hasEvent p.raw ∧ (State.ctx _ p.cid).hasVec (pfld p.raw 2 2) then
          State.event _ (pfld p.raw 2 2) else _) (by
            split
            · exact State.event_keepsStore _ _
            · exact State.KeepsStore.refl _) (State.retired_keepsStore _ q i.toNat p.cid))
      refine ⟨_, execPacketRetire_ended rfl hlive hp he hseq hrec hrefs (by rw [hf]; exact hfence.symm) rfl, State.retired_pkt ..,
        hword, ?_⟩
      rw [hmesh]
      rfl

end Sys2Proof.Machine

namespace Sys2Proof.Machine

/-! ## Clocks, margin and rails (spec chapters 14 and 15) -/

/-! ### What the operations leave unchanged -/

theorem State.get_setClus (s : State) (c : Nat) (x : Clus) (f : Fld) : (s.setClus c x).get f = s.get f := rfl

theorem State.setClus_clus (s : State) (c : Nat) (x : Clus) : (s.setClus c x).clus c = x :=
  (s.clus_setClus c c x).trans (if_pos rfl)

theorem State.setRail_rail (s : State) (r : Nat) (x : Rail) : (s.setRail r x).rail r = x :=
  (s.rail_setRail r r x).trans (if_pos rfl)

theorem State.setFt_clus (s : State) (c f : Nat) : (s.setFt c f).clus c = { s.clus c with ft := f } :=
  s.setClus_clus c _

theorem State.setFt_get (s : State) (c f : Nat) {g : Fld} (h : g.key ≠ (Reg.CLS_DFO_STATUS_F_T c).key) :
    (s.setFt c f).get g = s.get g := State.get_put_ne _ _ _ _ h

/-- The fixed-frequency mode and the lockstep rest on two fields. -/
theorem State.fixedMode_congr {s t : State} {c : Nat} (hf : t.fuses = s.fuses)
    (h1 : t.get (Reg.PWR_CL_OP_FIXED c) = s.get (Reg.PWR_CL_OP_FIXED c)) (h2 : t.get Reg.PWR_CTRL_MODE = s.get Reg.PWR_CTRL_MODE) :
    t.fixedMode c = s.fixedMode c := by
  rw [State.fixedMode, State.fixedMode, State.on, State.on, State.lockstep, State.lockstep, State.yard, State.yard, h1, h2, hf]

theorem State.dfoClamp_congr {s t : State} {c : Nat} (hf : t.fuses = s.fuses) (hc : t.clus c = s.clus c)
    (h1 : t.get (Reg.PWR_CL_OP_FIXED c) = s.get (Reg.PWR_CL_OP_FIXED c)) (h2 : t.get Reg.PWR_CTRL_MODE = s.get Reg.PWR_CTRL_MODE) :
    t.dfoClamp c = s.dfoClamp c := by
  rw [State.dfoClamp, State.dfoClamp, State.fmaxEff, State.fmaxEff, State.fixedMode_congr hf h1 h2, hc, hf]

theorem State.dfoClamp_put (s : State) {c : Nat} {f : Fld} (v : Nat) (h1 : (Reg.PWR_CL_OP_FIXED c).key ≠ f.key)
    (h2 : Reg.PWR_CTRL_MODE.key ≠ f.key) : (s.put f v).dfoClamp c = s.dfoClamp c :=
  State.dfoClamp_congr rfl rfl (State.get_put_ne _ _ _ _ h1) (State.get_put_ne _ _ _ _ h2)

theorem State.trace_rest (s : State) (kind unit : Nat) (cid : Option Nat) (data stamp : Nat) :
    let t := s.trace kind unit cid data stamp
    t = { s with conc := t.conc, regs := t.regs } ∧
      ∀ g : Fld, g.key ≠ Reg.MON_DROPS_TRACE_DROP.key → t.get g = s.get g := by
  unfold State.trace
  dsimp only
  generalize (_ || !bitAt (s.get Reg.MON_TRACE_CTRL_KINDS) (kind - 1)) = still
  split
  · exact ⟨rfl, fun _ _ => rfl⟩
  · split
    · exact ⟨rfl, fun _ _ => rfl⟩
    · exact ⟨rfl, fun g h => State.get_sat_ne _ _ _ _ h⟩

/-- A new operating point stands, and the frequency target with it; of the other fields only LIMIT and the count of lost trace
records may move. -/
theorem State.setOp_post (s : State) {c k : Nat} (f : Nat) (hk : k < 8) :
    let t := s.setOp c k f
    t = { s with conc := t.conc, regs := t.regs, power := t.power } ∧ t.op c = k ∧ (t.clus c).raiseTo = none ∧
      t.power.rails = s.power.rails ∧
      ∀ g : Fld, g.key ≠ (Reg.PWR_CL_OP_OP c).key → g.key ≠ (Reg.PWR_CL_OP_LIMIT c).key →
        g.key ≠ Reg.MON_DROPS_TRACE_DROP.key → t.get g = s.get g := by
  unfold State.setOp
  dsimp only
  split
  · next h =>
    subst h
    exact ⟨rfl, rfl, by rw [State.setClus_clus], rfl, fun _ _ _ _ => rfl⟩
  · generalize hu : ((s.setClus c _).put (Reg.PWR_CL_OP_OP c) k) = u
    have hop : u.get (Reg.PWR_CL_OP_OP c) = k := by
      rw [← hu, State.get_put_self]
      exact Nat.mod_eq_of_lt hk
    have hrest : u = { s with regs := u.regs, power := u.power } ∧ (u.clus c).raiseTo = none ∧ u.power.rails = s.power.rails := by
      rw [← hu]
      exact ⟨rfl, congrArg Clus.raiseTo (s.setClus_clus c _), rfl⟩
    obtain ⟨hrest, hraise, hrails⟩ := hrest
    have hget : ∀ g : Fld, g.key ≠ (Reg.PWR_CL_OP_OP c).key → u.get g = s.get g := fun g h => by
      rw [← hu, State.get_put_ne _ _ _ _ h]
      rfl
    generalize hv : (if 0 < k then u.put (Reg.PWR_CL_OP_LIMIT c) 15 else u) = v
    have hv' : v = { u with regs := v.regs } ∧ ∀ g : Fld, g.key ≠ (Reg.PWR_CL_OP_LIMIT c).key → v.get g = u.get g := by
      rw [← hv]
      split
      · exact ⟨rfl, fun g h => State.get_put_ne _ _ _ _ h⟩
      · exact ⟨rfl, fun _ _ => rfl⟩
    obtain ⟨hvrest, hvget⟩ := hv'
    obtain ⟨ht, htget⟩ := v.trace_rest 5 uPWR none (c + v.op c * 16 + v.get (Reg.PWR_CL_OP_LIMIT c) * 256) (v.time copyTow)
    have hpower : (v.traceOp c).power = u.power := by
      rw [State.traceOp, ht, hvrest]
    refine ⟨?_, ?_, ?_, ?_, fun g h1 h2 h3 => ?_⟩
    · have hv : v = { s with regs := v.regs, power := u.power } :=
        hvrest.trans (congrArg (fun w : State => { w with regs := v.regs }) hrest)
      rw [hpower]
      exact ht.trans (congrArg (fun w : State => { w with conc := (v.traceOp c).conc, regs := (v.traceOp c).regs }) hv)
    · refine (htget _ ?_).trans ((hvget _ ?_).trans hop)
      · simp only [Fld.key]
        omega
      · simp only [Fld.key]
        omega
    · rw [State.clus, hpower]
      exact hraise
    · rw [hpower]
      exact hrails
    · exact (htget g h3).trans ((hvget g h2).trans (hget g h1))

theorem State.marginEvent_fixed {s : State} {c : Nat} (h : s.fixedMode c = true) :
    s.marginEvent c = (s.sat (Reg.CLS_DFO_COUNTS_STEP_DOWN c) 1).setClus c { s.clus c with goodAt := s.gtc } := by
  have hmode : (s.sat (Reg.CLS_DFO_COUNTS_STEP_DOWN c) 1).fixedMode c = s.fixedMode c :=
    State.fixedMode_congr rfl (State.get_sat_ne _ _ _ _ (by simp only [Fld.key]; omega))
      (State.get_sat_ne _ _ _ _ (by simp only [Fld.key]; omega))
  rw [State.marginEvent]
  exact if_pos (Or.inl (hmode.trans h))

theorem State.marginEvent_steps {s : State} {c : Nat} (h : s.fixedMode c = false) (hcut : (s.clus c).cutAt = none) :
    s.marginEvent c = ((s.sat (Reg.CLS_DFO_COUNTS_STEP_DOWN c) 1).setClus c
      { s.clus c with goodAt := s.gtc, held := some (max 400 ((s.clus c).ft - 25)), cutAt := some s.gtc }).setFt c
        (max 400 ((s.clus c).ft - 25)) := by
  have hmode : (s.sat (Reg.CLS_DFO_COUNTS_STEP_DOWN c) 1).fixedMode c = s.fixedMode c :=
    State.fixedMode_congr rfl (State.get_sat_ne _ _ _ _ (by simp only [Fld.key]; omega))
      (State.get_sat_ne _ _ _ _ (by simp only [Fld.key]; omega))
  rw [State.marginEvent]
  refine if_neg fun hc => ?_
  dsimp only at hc
  rw [hmode, h, show (s.sat (Reg.CLS_DFO_COUNTS_STEP_DOWN c) 1).clus c = s.clus c from rfl, hcut] at hc
  simp at hc

/-- A margin event counts one step down, and leaves the times of the cluster's other checks. -/
theorem State.marginEvent_counts (s : State) (c : Nat) :
    (s.marginEvent c).get (Reg.CLS_DFO_COUNTS_STEP_DOWN c) =
      min (s.get (Reg.CLS_DFO_COUNTS_STEP_DOWN c) + 1) ((Reg.CLS_DFO_COUNTS_STEP_DOWN c).size - 1) ∧
      ((s.marginEvent c).clus c).skewAt = (s.clus c).skewAt := by
  unfold State.marginEvent
  dsimp only
  split_ifs
  · exact ⟨State.get_sat_self .., by rw [State.setClus_clus]; rfl⟩
  · refine ⟨?_, by rw [State.setFt_clus, State.setClus_clus]; rfl⟩
    rw [State.setFt_get _ _ _ (by simp only [Fld.key]; omega)]
    exact State.get_sat_self ..

/-! ### Rails -/

theorem railVdie_key (r : Nat) : (railVdie r).key = (0x01070500 + 8 * r) * 64 + 48 := by
  unfold railVdie
  split <;> simp only [Fld.key, Reg.PWR_RAIL_STATUS, Reg.PWR_RAIL_STATUS16] <;> omega

theorem railNoTel_key (r : Nat) : (railNoTel r).key = (0x01070500 + 8 * r) * 64 + 8 := by
  unfold railNoTel
  split <;> simp only [Fld.key, Reg.PWR_RAIL_STATUS, Reg.PWR_RAIL_STATUS16] <;> omega

theorem railVdie_size (r : Nat) : (railVdie r).size = 65536 := by
  unfold railVdie
  split <;> rfl

theorem railNoTel_size (r : Nat) : (railNoTel r).size = 2 := by
  unfold railNoTel
  split <;> rfl

/-- What a rail shows after a sample that came with no new telemetry word. -/
structure State.Sampled (s t : State) (r v : Nat) : Prop where
  vdie : t.get (railVdie r) = v
  rail : t.rail r = { s.rail r with missing := (s.rail r).missing + 1 }
  noTel : 9 ≤ (s.rail r).missing → t.get (railNoTel r) = 1

/-- One rail's sample, where its telemetry word is the one of the sample before: it writes V_DIE and NO_TEL of this rail only. -/
theorem State.railSample_post (s : State) {r v : Nat} (est : Nat) (hv : v < 65536)
    (hq : r < 17 → s.get (Reg.PWR_TEL_SEQ r) = (s.rail r).seq) :
    let t := s.railSample r v est
    (r < 17 → s.Sampled t r v) ∧ (∀ k, k ≠ r → t.rail k = s.rail k) ∧ t.power.telAt = s.power.telAt ∧
      ∀ g : Fld, g.key ≠ (railVdie r).key → g.key ≠ (railNoTel r).key → t.get g = s.get g := by
  have hput : (s.put (railVdie r) v).get (railVdie r) = v := by
    rw [State.get_put_self, railVdie_size, Nat.mod_eq_of_lt hv]
  have hne : ∀ u w, (State.put u (railNoTel r) w).get (railVdie r) = u.get (railVdie r) := fun u w =>
    State.get_put_ne _ _ _ _ (by rw [railVdie_key, railNoTel_key]; omega)
  unfold State.railSample
  dsimp only
  by_cases h17 : 17 ≤ r
  · rw [if_pos h17]
    exact ⟨fun h => absurd h (by omega), fun _ _ => rfl, rfl, fun g h _ => State.get_put_ne _ _ _ _ h⟩
  · have hseq : (s.put (railVdie r) v).get (Reg.PWR_TEL_SEQ r) = ((s.put (railVdie r) v).rail r).seq :=
      (State.get_put_ne _ _ _ _ (by rw [railVdie_key]; simp only [Fld.key]; omega)).trans (hq (by omega))
    rw [if_neg h17, if_pos hseq]
    by_cases h10 : 10 ≤ ((s.put (railVdie r) v).rail r).missing + 1
    · rw [if_pos h10]
      refine ⟨fun _ => ⟨(hne _ _).trans hput, State.setRail_rail .., fun _ => ?_⟩, fun k hk => ?_, rfl, fun g h1 h2 => ?_⟩
      · rw [State.get_put_self, railNoTel_size]
      · exact (State.rail_setRail _ r k _).trans (if_neg hk)
      · exact (State.get_put_ne _ _ _ _ h2).trans (State.get_put_ne _ _ _ _ h1)
    · rw [if_neg h10]
      refine ⟨fun _ => ⟨hput, State.setRail_rail .., fun h => absurd h ?_⟩, fun k hk => ?_, rfl,
        fun g h1 _ => State.get_put_ne _ _ _ _ h1⟩
      · change ¬ 10 ≤ (s.rail r).missing + 1 at h10
        omega
      · exact (State.rail_setRail _ r k _).trans (if_neg hk)

/-- The samples of the first `n` rails. -/
def State.sampleVolts (s : State) (volts : List (BitVec 16)) (ests : List (BitVec 32)) (n : Nat) : State :=
  (List.range n).foldl (fun s r => s.railSample r (volts.getD r 0).toNat (ests.getD r 0).toNat) s

theorem State.sampleVolts_post (s : State) (volts : List (BitVec 16)) (ests : List (BitVec 32))
    (hq : ∀ r, r < 17 → s.get (Reg.PWR_TEL_SEQ r) = (s.rail r).seq) : ∀ n, n ≤ 20 →
    let t := s.sampleVolts volts ests n
    (∀ r, r < 17 → r < n → s.Sampled t r (volts.getD r 0).toNat) ∧ (∀ r, n ≤ r → t.rail r = s.rail r) ∧
      t.power.telAt = s.power.telAt ∧ ∀ r, r < 17 → t.get (Reg.PWR_TEL_SEQ r) = s.get (Reg.PWR_TEL_SEQ r) := by
  intro n
  induction n with
  | zero => exact fun _ => ⟨fun _ _ h => absurd h (by omega), fun _ _ => rfl, rfl, fun _ _ => rfl⟩
  | succ n ih =>
    intro hn
    obtain ⟨hdone, hrest, htel, hseq⟩ := ih (by omega)
    have hstep : s.sampleVolts volts ests (n + 1) =
        (s.sampleVolts volts ests n).railSample n (volts.getD n 0).toNat (ests.getD n 0).toNat := by
      rw [State.sampleVolts, List.range_succ, List.foldl_append]
      rfl
    obtain ⟨hself, hother, htel', hget⟩ := (s.sampleVolts volts ests n).railSample_post (r := n) (v := (volts.getD n 0).toNat)
      (ests.getD n 0).toNat (BitVec.isLt _) fun h => by rw [hseq n h, hrest n (Nat.le_refl n), hq n h]
    rw [hstep]
    refine ⟨fun r h17 hr => ?_, fun r hr => (hother r (by omega)).trans (hrest r (by omega)), htel'.trans htel,
      fun r h17 => (hget _ ?_ ?_).trans (hseq r h17)⟩
    · by_cases hrn : r = n
      · subst hrn
        obtain ⟨hv, hrail, hno⟩ := hself h17
        rw [hrest r (Nat.le_refl r)] at hrail hno
        exact ⟨hv, hrail, hno⟩
      · obtain ⟨hv, hrail, hno⟩ := hdone r h17 (by omega)
        refine ⟨(hget _ ?_ ?_).trans hv, (hother r hrn).trans hrail, fun h => (hget _ ?_ ?_).trans (hno h)⟩
        all_goals
          simp only [railVdie_key, railNoTel_key]
          omega
    · rw [railVdie_key]
      simp only [Fld.key]
      omega
    · rw [railNoTel_key]
      simp only [Fld.key]
      omega

/-- A posted voltage leaves the clusters and every field outside the request registers. -/
theorem State.postVolt_post (s : State) {c : Nat} (mv : Nat) (hc : c < 16) :
    let t := s.postVolt c mv
    t = { s with regs := t.regs, power := t.power, host := t.host } ∧ t.power.clus = s.power.clus ∧ t.op c = s.op c := by
  unfold State.postVolt
  dsimp only
  have hop : ∀ u : State, (((u.put (Reg.PWR_VREQ_MV c) mv).wrap (Reg.PWR_VREQ_SEQ c) 1).put Reg.PWR_VREQ_PEND_RAILS
      (setBit (((u.put (Reg.PWR_VREQ_MV c) mv).wrap (Reg.PWR_VREQ_SEQ c) 1).get Reg.PWR_VREQ_PEND_RAILS) c true)).op c = u.op c :=
    fun u => (State.get_put_ne _ _ _ _ (by simp only [Fld.key]; omega)).trans
      ((State.get_put_ne _ _ _ _ (by simp only [Fld.key]; omega)).trans (State.get_put_ne _ _ _ _ (by simp only [Fld.key]; omega)))
  split_ifs
  · exact ⟨rfl, rfl, rfl⟩
  · exact ⟨rfl, rfl, hop _⟩
  · exact ⟨rfl, rfl, hop _⟩
  · exact ⟨rfl, rfl, hop _⟩

theorem State.gateAct_now {s : State} {d rank : Nat} (act : State → State) (h : (s.gateOf d).at_ ≠ some s.gtc) :
    ∃ g, s.gateAct d rank act = act { s with gates := s.gates.set d g } := by
  rw [State.gateAct]
  exact ⟨_, if_neg fun hc => absurd hc.1 (by simpa using h)⟩

theorem State.gateAct_later {s : State} {d rank : Nat} (act : State → State) (h : (s.gateOf d).at_ = some s.gtc)
    (hr : (s.gateOf d).rank < rank) : ∃ g : Gate, (rank, false) ∈ g.acks ∧
      s.gateAct d rank act = { s with gates := s.gates.set d g } := by
  rw [State.gateAct, h]
  exact ⟨_, by simp, if_pos ⟨by simp, hr⟩⟩

theorem bitAt_eq_testBit (v i : Nat) : bitAt v i = v.testBit i := by
  rw [Nat.testBit_eq_decide_div_mod_eq]
  rfl

/-- A bit that is cleared in a field wide enough for it reads 0. -/
theorem bitAt_setBit_false (v i w : Nat) (hi : i < w) : bitAt (setBit v i false % 2 ^ w) i = false := by
  rw [bitAt_eq_testBit, Nat.testBit_mod_two_pow, ← bitAt_eq_testBit, setBit]
  simp only [hi, decide_true, Bool.true_and, beq_iff_eq, Bool.false_eq_true, if_false]
  split
  · assumption
  · next h =>
    have hodd : v / 2 ^ i % 2 = 1 := by simpa [bitAt] using h
    have hle : 2 ^ i ≤ v := by
      by_contra hlt
      rw [Nat.div_eq_of_lt (by omega)] at hodd
      omega
    have hsub : (v - 2 ^ i) / 2 ^ i = v / 2 ^ i - 1 := by simpa using Nat.sub_mul_div_of_le v (2 ^ i) 1 (by simpa using hle)
    rw [bitAt, hsub]
    simp only [beq_eq_false_iff_ne, ne_eq]
    omega

theorem State.ceiling_congr {s t : State} {c : Nat} (hf : t.fuses = s.fuses) (hs : t.power.stuckCap = s.power.stuckCap)
    (h1 : t.get (Reg.PWR_RAIL_STATUS_CEILING c) = s.get (Reg.PWR_RAIL_STATUS_CEILING c))
    (h2 : t.get (Reg.PWR_CL_OP_FIXED c) = s.get (Reg.PWR_CL_OP_FIXED c)) (h3 : t.get Reg.PWR_CTRL_MODE = s.get Reg.PWR_CTRL_MODE)
    (h4 : t.get (Reg.PWR_CL_OP_FIX_OP c) = s.get (Reg.PWR_CL_OP_FIX_OP c))
    (h5 : t.get Reg.PWR_PIN_STATUS_SPILL_STUCK = s.get Reg.PWR_PIN_STATUS_SPILL_STUCK) : t.ceiling c = s.ceiling c := by
  simp only [State.ceiling, State.on, State.lockstep, State.yard, hf, hs, h1, h2, h3, h4, h5]
  rfl

section Voltage

variable {s : State} {c k : Nat}

/-- The state in which a voltage within 10 mV of the one asked for has been noted. -/
def State.voltageNoted (s : State) (c mv : Nat) : State :=
  let u := s.put (Reg.PWR_RAIL_STATUS_V_DIE c) mv
  (u.put Reg.PWR_VREQ_PEND_RAILS (setBit (u.get Reg.PWR_VREQ_PEND_RAILS) c false)).setRail c { s.rail c with noRaise := false }

theorem State.voltageNoted_get (s : State) (c mv : Nat) {g : Fld} (h1 : g.key ≠ (Reg.PWR_RAIL_STATUS_V_DIE c).key)
    (h2 : g.key ≠ Reg.PWR_VREQ_PEND_RAILS.key) : (s.voltageNoted c mv).get g = s.get g :=
  (State.get_put_ne _ _ _ _ h2).trans (State.get_put_ne _ _ _ _ h1)

theorem State.voltageNoted_post (s : State) {mv : Nat} (hc : c < 16) (hmv : mv < 65536) :
    bitAt ((s.voltageNoted c mv).get Reg.PWR_VREQ_PEND_RAILS) c = false ∧ ((s.voltageNoted c mv).rail c).noRaise = false ∧
      (s.voltageNoted c mv).get (Reg.PWR_RAIL_STATUS_V_DIE c) = mv := by
  refine ⟨?_, congrArg Rail.noRaise (State.setRail_rail ..), ?_⟩
  · refine (congrArg (bitAt · c) (State.get_put_self ..)).trans ?_
    exact bitAt_setBit_false _ c 16 hc
  · refine (State.get_put_ne _ _ _ _ (by simp only [Fld.key]; omega)).trans ((State.get_put_self ..).trans ?_)
    exact Nat.mod_eq_of_lt hmv

theorem State.voltageNoted_ceiling (s : State) (c mv : Nat) (hc : c < 16) : (s.voltageNoted c mv).ceiling c = s.ceiling c := by
  apply State.ceiling_congr (s := s) (t := s.voltageNoted c mv) rfl rfl
  all_goals exact s.voltageNoted_get c mv (by simp only [Fld.key]; omega) (by simp only [Fld.key]; omega)

/-- A voltage that lets a raise proceed sends the raised operating point. -/
theorem execVoltageReached_raises {cl : BitVec 4} {mv : BitVec 16} (hl : s.domLive 1 = true) (hc : c = cl.toNat)
    (hpend : bitAt (s.get Reg.PWR_VREQ_PEND_RAILS) c = true) (h1 : mv.toNat ≤ (s.rail c).mv + 10)
    (h2 : (s.rail c).mv ≤ mv.toNat + 10) (hraise : (s.clus c).raiseTo = some k) (hclamp : s.power.clamp = false)
    (hopen : s.domOpen (clDom c) = true) (hceil : k ≤ s.ceiling c) :
    ∃ f, exec (.voltageReached cl mv) s = .next ((s.voltageNoted c mv.toNat).gateAct (clDom c) 4 fun s => s.setOp c k f) := by
  have hlt : c < 16 := hc ▸ cl.isLt
  have hnc : (s.voltageNoted c mv.toNat).ceiling c = s.ceiling c := s.voltageNoted_ceiling c _ hlt
  have hp : bitAt ((s.put (Reg.PWR_RAIL_STATUS_V_DIE c) mv.toNat).get Reg.PWR_VREQ_PEND_RAILS) c = true := by
    rw [State.get_put_ne _ _ _ _ (by simp only [Fld.key]; omega)]
    exact hpend
  refine ⟨(s.voltageNoted c mv.toNat).raiseFreq c k, exec_tow (execVoltageReached.eq_1 ..) hl ?_⟩
  rw [← hc]
  refine congrArg Host.Outcome.next ((if_neg ?_).trans ?_)
  · rintro (h | h | h)
    · have h : (s.rail c).mv + 10 < mv.toNat := h
      omega
    · have h : mv.toNat + 10 < (s.rail c).mv := h
      omega
    · rw [hp] at h
      exact absurd h (by decide)
  · change (match ((s.voltageNoted c mv.toNat).clus c).raiseTo with | some k => _ | none => _) = _
    rw [show ((s.voltageNoted c mv.toNat).clus c).raiseTo = some k from hraise]
    refine (if_neg ?_).trans ?_
    · rintro (h | h | h)
      · exact absurd (hclamp.symm.trans h) (by decide)
      · have h : (!s.domOpen (clDom c)) = true := h
        rw [hopen] at h
        exact absurd h (by decide)
      · change State.ceiling (s.voltageNoted c mv.toNat) c < k at h
        omega
    · rw [State.sendOp]
      refine if_neg fun h => ?_
      obtain ⟨-, -, hnone, -⟩ := h
      have hnone : (s.clus c).raiseTo.isNone = true := hnone
      rw [hraise] at hnone
      exact Bool.false_ne_true hnone

end Voltage

/-! ### The commands -/

section Commands

variable {s : State} {cl : BitVec 4} {c : Nat}

theorem execDfoTrim_due (hc : c = cl.toNat) (hl : s.domLive (clDom c) = true) {fm : BitVec 12} {low : BitVec 6}
    {codes : BitVec 48} (hdue : (s.clus c).trimAt + 100 ≤ s.gtc) (hlow : (s.clus c).lowerDue = false) :
    let x := s.clus c
    let goal := max 400 (min x.target (x.held.getD x.target))
    let f := if x.ft < goal then min goal (x.ft + 25) else max goal (x.ft - 25)
    let u := (s.setClus c { x with trimAt := s.gtc }).setFt c f
    exec (.dfoTrim cl fm low codes) s = .next (((u.put (Reg.CLS_DFO_STATUS_F_MEAS c) (min fm.toNat (u.dfoClamp c))).put
      (Reg.CLS_MARGIN_CODES c) codes.toNat).put (Reg.CLS_DFO_STATUS_MIN_CODE c) low.toNat) := by
  intro x goal f u
  have hlow' : ¬ ((u.clus c).lowerDue = true ∧ (u.clus c).ft ≤ (u.clus c).target) := by
    rw [State.setFt_clus, State.setClus_clus]
    rintro ⟨h, -⟩
    exact absurd (hlow.symm.trans h) (by decide)
  refine exec_live (execDfoTrim.eq_1 ..) (hc ▸ hl) ?_
  rw [← hc]
  refine (if_neg (by omega)).trans (congrArg Host.Outcome.next (if_neg hlow'))

/-- The step of a recovered margin: the held frequency rises by at most 25 MHz, and f_T with it at most as far. -/
theorem execMarginRecover_due {low : BitVec 6} {h : Nat} (hl : s.domLive (clDom cl.toNat) = true)
    (hheld : (s.clus cl.toNat).held = some h) (hlow : s.marginLo cl.toNat + 4 ≤ low.toNat)
    (ht : (s.clus cl.toNat).goodAt + max 1 (s.get (Reg.CLS_MARGIN_CFG_RECOVER_T cl.toNat)) ≤ s.gtc) :
    Gives (.marginRecover cl low) s fun t =>
      (t.clus cl.toNat).held = (if (s.clus cl.toNat).target ≤ h + 25 then none else some (h + 25)) ∧
      (t.clus cl.toNat).goodAt = s.gtc ∧ (t.clus cl.toNat).ft ≤ max (s.clus cl.toNat).ft (s.clus cl.toNat).target ∧
      (s.clus cl.toNat).ft ≤ (t.clus cl.toNat).ft ∧ (t.clus cl.toNat).ft ≤ (s.clus cl.toNat).ft + 25 := by
  let x := s.clus cl.toNat
  let f := min x.target (h + 25)
  let u := s.setClus cl.toNat { x with goodAt := s.gtc, held := if x.target ≤ h + 25 then none else some f }
  have hx : s.clus cl.toNat = x := rfl
  have heq : exec (.marginRecover cl low) s = .next (if x.ft < f then u.setFt cl.toNat (min f (x.ft + 25)) else u) := by
    refine exec_live (execMarginRecover.eq_1 ..) hl (congrArg Host.Outcome.next ?_)
    rw [hheld]
    exact (if_neg (Nat.not_lt.mpr hlow)).trans (if_neg (by rw [atLeast1_eq]; exact Nat.not_lt.mpr ht))
  have hheld' : (if x.target ≤ h + 25 then none else some f) = if x.target ≤ h + 25 then none else some (h + 25) := by
    split
    · rfl
    · exact congrArg some (Nat.min_eq_right (by omega))
  have hu : u.clus cl.toNat = { x with goodAt := s.gtc, held := if x.target ≤ h + 25 then none else some f } :=
    State.setClus_clus ..
  have hf : f ≤ x.target := Nat.min_le_left ..
  refine ⟨_, heq, ?_⟩
  dsimp only
  rw [hx]
  split
  · rw [State.setFt_clus, hu]
    refine ⟨hheld', rfl, ?_, ?_, ?_⟩ <;> dsimp only <;> omega
  · rw [hu]
    refine ⟨hheld', rfl, ?_, ?_, ?_⟩ <;> dsimp only <;> omega

theorem execVsetTimeout_due (hc : c = cl.toNat) (hl : s.domLive 1 = true)
    (hpend : bitAt (s.get Reg.PWR_VREQ_PEND_RAILS) c = true) (hr : (s.rail c).noRaise = false)
    (hdue : (s.rail c).setAt + max 1 (s.get Reg.PWR_VSET_LIMIT_TICKS) ≤ s.gtc) :
    ∃ d, let u := s.fault 0x5F uPWR srcNone d
      let v := if (s.clus c).raiseTo.isSome then
        (u.setClus c { s.clus c with raiseTo := none, paceTo := none }).postVolt c (opVolt (u.op c)) else u
      exec (.vsetTimeout cl) s = .next (v.setRail c { v.rail c with noRaise := true }) := by
  refine ⟨1 + c * 2 ^ 4, exec_tow (execVsetTimeout.eq_1 ..) hl ?_⟩
  have hclus : (s.fault 0x5F uPWR srcNone (1 + c * 2 ^ 4)).clus c = s.clus c := by
    rw [(s.fault_filed 0x5F uPWR srcNone (1 + c * 2 ^ 4)).rest]
    rfl
  rw [← hc, ← hclus]
  refine congrArg Host.Outcome.next (if_neg ?_)
  rw [hpend, hr, atLeast1_eq]
  rintro (h | h | h)
  · exact absurd h (by decide)
  · exact absurd h (by decide)
  · omega

theorem State.derate_post {n : Nat} (hn : n = Tab.get 0 s.fuses.ageSteps c) (h : n < 8) :
    Tab.get 0 (s.derate c).fuses.ageSteps c = n + 1 ∧ ((s.derate c).clus c).shortfalls = 0 ∧
      (s.derate c).fmaxEff c ≤ s.fmaxEff c ∧ (s.derate c).conc.nextId = s.conc.nextId + 1 := by
  rw [State.derate, ← hn]
  dsimp only
  rw [if_pos h]
  generalize hu : ({ s.setClus c _ with fuses := _ } : State) = u
  generalize (uCLS c) = unit, (clStop c) = src, (c + (n + 1) * 2 ^ 4) = d
  have hfiled := u.fault_filed 0x5A unit src d
  have hfuses : (u.fault 0x5A unit src d).fuses = u.fuses := by rw [hfiled.rest]
  have hclus : (u.fault 0x5A unit src d).clus c = u.clus c := by
    rw [hfiled.rest]
    rfl
  rw [hfuses, hclus, State.fmaxEff, State.fmaxEff, hfuses, hfiled.nextId]
  subst hu
  refine ⟨Tab.get_set_self .., congrArg Clus.shortfalls (s.setClus_clus c _), ?_, rfl⟩
  change max 1600 (1600 + 25 * Tab.get 0 s.fuses.fmax c - 25 * Tab.get 0 (s.fuses.ageSteps.set c (n + 1)) c) ≤ _
  rw [Tab.get_set_self]
  omega

/-- A telemetry sample of a new 100,000 t in which no rail's telemetry word is new. -/
theorem execTelemetrySample_stale (hl : s.domLive 1 = true) {volts : List (BitVec 16)} {ests : List (BitVec 32)}
    (h : s.gtc / 100000 ≠ s.power.telAt / 100000) (hq : ∀ r, r < 17 → s.get (Reg.PWR_TEL_SEQ r) = (s.rail r).seq) :
    Gives (.telemetrySample volts ests) s fun t => t.power.telAt = s.gtc ∧ ∀ r, r < 17 →
      s.Sampled t r (volts.getD r 0).toNat := by
  have heq : exec (.telemetrySample volts ests) s =
      .next ({ s with power := { s.power with telAt := s.gtc } }.sampleVolts volts ests 20) := by
    refine exec_tow (execTelemetrySample.eq_1 ..) hl ?_
    rw [if_neg h, State.sampleVolts]
  obtain ⟨hdone, -, htel, -⟩ := State.sampleVolts_post { s with power := { s.power with telAt := s.gtc } } volts ests hq 20
    (Nat.le_refl 20)
  refine ⟨_, heq, htel, fun r h17 => ?_⟩
  obtain ⟨hv, hrail, hno⟩ := hdone r h17 (by omega)
  exact ⟨hv, hrail, hno⟩

/-- SENSE_RETRY of a rail in use whose sense line is taken as open. -/
theorem execSenseRetry_used (hl : s.domLive 1 = true) {rail : BitVec 5} {v : BitVec 64} {r : Nat} (hr : r = rail.toNat)
    (hlt : r < 16) (h10 : v.getLsbD 10 = true) (h9 : v.getLsbD 9 = false) (hsense : s.get (railSense r) = 1)
    (huse : s.railInUse r = true) :
    Gives (.senseRetry rail v) s fun t => t.get (railSense r) = 0 ∧ t.rail r = { s.rail r with sensed := true, openRun := 0 } := by
  have hb10 : bitAt v.toNat 10 = true := (bitAt_toNat ..).trans h10
  have hb9 : bitAt v.toNat 9 = false := (bitAt_toNat ..).trans h9
  have hwrite : s.writeRailStatus r v.toNat =
      (s.put (railSense r) 0).setRail r { s.rail r with sensed := true, openRun := 0 } := by
    rw [State.writeRailStatus, hb9, if_neg Bool.false_ne_true, if_pos ⟨hb10, by omega, Or.inl hsense⟩, huse, if_pos rfl]
  refine ⟨_, exec_tow (execSenseRetry.eq_1 ..) hl (congrArg Host.Outcome.next (if_pos ⟨by omega, hb10⟩)), ?_⟩
  rw [← hr, hwrite]
  refine ⟨(State.get_put_self ..).trans (Nat.zero_mod _), State.setRail_rail ..⟩

/-- CEIL_CLEAR of a rail of the first 16. -/
theorem execCeilClear_first (hl : s.domLive 1 = true) {rail : BitVec 5} {v : BitVec 64} {r : Nat} (hr : r = rail.toNat)
    (hlt : r < 16) (h9 : v.getLsbD 9 = true) (h10 : v.getLsbD 10 = false) :
    Gives (.ceilClear rail v) s fun t => t.get (Reg.PWR_RAIL_STATUS_CEILING r) = 7 ∧ t.get (railCrack r) = 0 ∧
      { t with regs := s.regs } = s := by
  have hb10 : bitAt v.toNat 10 = false := (bitAt_toNat ..).trans h10
  have hb9 : bitAt v.toNat 9 = true := (bitAt_toNat ..).trans h9
  have hwrite : s.writeRailStatus r v.toNat = (s.put (Reg.PWR_RAIL_STATUS_CEILING r) 7).put (railCrack r) 0 := by
    rw [State.writeRailStatus, hb10, hb9, if_neg (c := false = true ∧ _) (fun h => Bool.false_ne_true h.1), if_pos rfl, if_pos hlt]
  have hcrack : railCrack r = Reg.PWR_RAIL_STATUS_CRACK r := if_pos hlt
  refine ⟨_, exec_tow (execCeilClear.eq_1 ..) hl (congrArg Host.Outcome.next (if_pos ⟨by omega, hb9⟩)), ?_⟩
  rw [← hr, hwrite]
  refine ⟨?_, (State.get_put_self ..).trans (Nat.zero_mod _), rfl⟩
  refine (State.get_put_ne _ _ _ _ ?_).trans ((State.get_put_self ..).trans rfl)
  rw [hcrack]
  simp only [Fld.key]
  omega

/-- A voltage that is reached in a gate cycle of its own raises the operating point. -/
theorem voltageReached_at_once {mv : BitVec 16} {k : Nat} (hl : s.domLive 1 = true) (hc : c = cl.toNat)
    (hpend : bitAt (s.get Reg.PWR_VREQ_PEND_RAILS) c = true) (h1 : mv.toNat ≤ (s.rail c).mv + 10)
    (h2 : (s.rail c).mv ≤ mv.toNat + 10) (hraise : (s.clus c).raiseTo = some k) (hclamp : s.power.clamp = false)
    (hopen : s.domOpen (clDom c) = true) (hceil : k ≤ s.ceiling c) (hk8 : k < 8) (hat : (s.gateOf (clDom c)).at_ ≠ some s.gtc) :
    Gives (.voltageReached cl mv) s fun t => (bitAt (t.get Reg.PWR_VREQ_PEND_RAILS) c = false ∧ (t.rail c).noRaise = false ∧
      t.get (Reg.PWR_RAIL_STATUS_V_DIE c) = mv.toNat) ∧ t.op c = k ∧ (t.clus c).raiseTo = none := by
  have hlt : c < 16 := hc ▸ cl.isLt
  obtain ⟨f, heq⟩ := execVoltageReached_raises (mv := mv) hl hc hpend h1 h2 hraise hclamp hopen hceil
  obtain ⟨hbit, hrail, hvdie⟩ := s.voltageNoted_post (c := c) hlt mv.isLt
  obtain ⟨g, hact⟩ := State.gateAct_now (s := s.voltageNoted c mv.toNat) (rank := 4) (fun s => s.setOp c k f) hat
  obtain ⟨-, hop, hnone, hrails, hget⟩ :=
    State.setOp_post { s.voltageNoted c mv.toNat with gates := (s.voltageNoted c mv.toNat).gates.set (clDom c) g } (c := c) f hk8
  refine ⟨_, heq, ?_⟩
  rw [hact]
  refine ⟨⟨?_, ?_, ?_⟩, hop, hnone⟩
  · rw [hget _ (by simp only [Fld.key]; omega) (by simp only [Fld.key]; omega) (by decide)]
    exact hbit
  · rw [State.rail, hrails]
    exact hrail
  · exact (hget _ (by simp only [Fld.key]; omega) (by simp only [Fld.key]; omega) (by simp only [Fld.key]; omega)).trans hvdie

/-- A raise whose gate another write has taken in this cycle is noted there. -/
theorem voltageReached_waits {mv : BitVec 16} {k : Nat} (hl : s.domLive 1 = true) (hc : c = cl.toNat)
    (hpend : bitAt (s.get Reg.PWR_VREQ_PEND_RAILS) c = true) (h1 : mv.toNat ≤ (s.rail c).mv + 10)
    (h2 : (s.rail c).mv ≤ mv.toNat + 10) (hraise : (s.clus c).raiseTo = some k) (hclamp : s.power.clamp = false)
    (hopen : s.domOpen (clDom c) = true) (hceil : k ≤ s.ceiling c) (hat : (s.gateOf (clDom c)).at_ = some s.gtc)
    (hrank : (s.gateOf (clDom c)).rank < 4) :
    Gives (.voltageReached cl mv) s fun t => (bitAt (t.get Reg.PWR_VREQ_PEND_RAILS) c = false ∧ (t.rail c).noRaise = false ∧
      t.get (Reg.PWR_RAIL_STATUS_V_DIE c) = mv.toNat) ∧ t.op c = s.op c ∧ (4, false) ∈ (t.gateOf (clDom c)).acks := by
  have hlt : c < 16 := hc ▸ cl.isLt
  obtain ⟨f, heq⟩ := execVoltageReached_raises (mv := mv) hl hc hpend h1 h2 hraise hclamp hopen hceil
  obtain ⟨g, hmem, hact⟩ := State.gateAct_later (s := s.voltageNoted c mv.toNat) (rank := 4) (fun s => s.setOp c k f) hat hrank
  refine ⟨_, heq, ?_⟩
  rw [hact]
  refine ⟨s.voltageNoted_post hlt mv.isLt, s.voltageNoted_get c _ (by simp only [Fld.key]; omega) (by simp only [Fld.key]; omega), ?_⟩
  rw [State.gateOf]
  exact (congrArg (fun g : Gate => (4, false) ∈ g.acks) (Tab.get_set_self ..)).mpr hmem

/-- A voltage that was not reached in time abandons the raise and reports it. -/
theorem vsetTimeout_abandons (hl : s.domLive 1 = true) (hc : c = cl.toNat)
    (hpend : bitAt (s.get Reg.PWR_VREQ_PEND_RAILS) c = true) (hr : (s.rail c).noRaise = false)
    (hdue : (s.rail c).setAt + max 1 (s.get Reg.PWR_VSET_LIMIT_TICKS) ≤ s.gtc) :
    Gives (.vsetTimeout cl) s fun t => (t.rail c).noRaise = true ∧ (t.clus c).raiseTo = none ∧
      t.conc.nextId = s.conc.nextId + 1 ∧ t.op c = s.op c := by
  have hlt : c < 16 := hc ▸ cl.isLt
  obtain ⟨d, heq⟩ := execVsetTimeout_due hc hl hpend hr hdue
  have hfiled := s.fault_filed 0x5F uPWR srcNone d
  have hop : (s.fault 0x5F uPWR srcNone d).op c = s.op c :=
    hfiled.get _ (by simp only [Fld.key]; omega) (by simp only [Fld.key]; omega)
  have hclus : (s.fault 0x5F uPWR srcNone d).clus c = s.clus c := by
    rw [hfiled.rest]
    rfl
  refine ⟨_, heq, congrArg Rail.noRaise (State.setRail_rail ..), ?_⟩
  split
  · generalize hu : (s.fault 0x5F uPWR srcNone d).setClus c { s.clus c with raiseTo := none, paceTo := none } = u
    obtain ⟨hrest, hcl, hopv⟩ := u.postVolt_post (c := c) (opVolt ((s.fault 0x5F uPWR srcNone d).op c)) hlt
    refine ⟨?_, ?_, hopv.trans ?_⟩
    · change (Tab.get Clus.reset (u.postVolt c _).power.clus c).raiseTo = none
      rw [hcl, ← hu]
      exact congrArg Clus.raiseTo (State.setClus_clus ..)
    · change (u.postVolt c _).conc.nextId = _
      rw [hrest, ← hu]
      exact hfiled.nextId
    · rw [← hu]
      exact hop
  · next hsome =>
    refine ⟨?_, hfiled.nextId, hop⟩
    exact (congrArg Clus.raiseTo hclus).trans (by simpa using hsome)

end Commands

/-- Settles O45. -/
theorem clocksMarginRails : Obligations.ClocksMarginRails := by
  unfold Obligations.ClocksMarginRails
  intro s cl c x sat
  have hlt : c < 16 := cl.isLt
  refine ⟨fun src d hd hopen => ⟨fun h0 he fin => ?_, fun hw => ⟨?_, fun ha => ?_⟩⟩, fun hl => ⟨fun fm low codes => ⟨fun h => ?_,
    fun hdue hlow => ?_⟩, fun f => ⟨fun h => ?_, fun h => ?_⟩, fun codes => ⟨fun h => ?_, fun h hcrits => ?_⟩,
    fun code skew hcode => ⟨fun hfix hcut => ?_, fun hfix => ?_⟩, fun low h hheld => ⟨fun hlow => ?_, fun hlow ht => ?_,
    fun hlow ht => ?_⟩, fun skew => ⟨fun h => ?_, fun h hk => ?_, fun h hk => ?_⟩, fun ran mean => ⟨fun h => ?_, fun h => ⟨fun hr => ?_,
    fun hr hs => ?_, fun hr hs hn => ?_, fun hr hs hn h8 => ?_⟩⟩⟩, fun hl => ⟨fun volts ests => ⟨fun h => ?_, fun h hq => ?_⟩,
    fun rail v hr => ⟨fun h10 h9 hsense huse => ?_, fun h9 h10 => ?_⟩, fun hpend => ⟨fun mv k h1 h2 hraise hclamp hopen hceil hk8 =>
    ⟨fun hat => ?_, fun hat hrank => ?_⟩, fun h => ?_, fun hr hdue => ?_⟩⟩⟩
  · refine ⟨s, congrArg Host.Outcome.next ?_, rfl⟩
    rw [hd]
    exact if_pos (Or.inr ⟨h0, he⟩)
  · refine ⟨_, (congrArg Host.Outcome.next ?_ :
      exec (.pllLockLoss src .locked) s = .next ((s.seqFault 0x57 (s.stepDetail d 3)).setDom d { s.dom d with attempt := 0 })), ?_⟩
    · rw [hd]
      refine if_neg ?_
      rw [hopen]
      rintro (h | h)
      · exact absurd h (by decide)
      · omega
    · dsimp only
      rw [State.dom_setDom, if_pos rfl]
      exact ⟨rfl, by simpa [State.domOpen] using hopen, (s.fault_filed ..).nextId⟩
  · refine ⟨_, (congrArg Host.Outcome.next ?_ :
      exec (.pllLockLoss src .failed) s = .next ((s.seqFault 0x57 (s.stepDetail d 3)).setDom d
        { s.dom d with attempt := (s.dom d).attempt + 1, since := s.gtc })), ?_⟩
    · rw [hd]
      refine (if_neg ?_).trans (if_pos ha)
      rw [hopen]
      rintro (h | h)
      · exact absurd h (by decide)
      · omega
    · dsimp only
      rw [State.dom_setDom, if_pos rfl]
      exact ⟨rfl, by simpa [State.domOpen] using hopen, (s.fault_filed ..).nextId⟩
  · exact ⟨s, exec_live (execDfoTrim.eq_1 ..) hl (if_pos h), rfl⟩
  · have hft := State.setFt_clus (s.setClus c { x with trimAt := s.gtc }) c
    refine ⟨_, execDfoTrim_due rfl hl hdue hlow, ?_, ?_, ?_, ?_, ?_, ?_⟩
    · exact congrArg Clus.ft (hft _)
    · refine (congrArg (fun y : Clus => { y with ft := x.ft, trimAt := x.trimAt }) (hft _)).trans ?_
      rw [State.setClus_clus]
    · refine (congrArg Clus.trimAt (hft _)).trans ?_
      rw [State.setClus_clus]
    · refine (State.get_put_ne _ _ _ _ (by simp only [Fld.key]; omega)).trans ((State.get_put_ne _ _ _ _
        (by simp only [Fld.key]; omega)).trans ((State.get_put_self ..).trans ?_))
      refine (Nat.mod_eq_of_lt (Nat.lt_of_le_of_lt (Nat.min_le_left ..) fm.isLt)).trans ?_
      refine congrArg (min fm.toNat) (Eq.symm ?_)
      refine (State.dfoClamp_put _ _ ?_ ?_).trans ((State.dfoClamp_put _ _ ?_ ?_).trans (State.dfoClamp_put _ _ ?_ ?_))
      all_goals
        simp only [Fld.key, Reg.CLS_DFO_STATUS, Reg.CLS_MARGIN]
        omega
    · refine (State.get_put_ne _ _ _ _ (by simp only [Fld.key]; omega)).trans ((State.get_put_self ..).trans ?_)
      exact Nat.mod_eq_of_lt codes.isLt
    · exact (State.get_put_self ..).trans (Nat.mod_eq_of_lt low.isLt)
  · refine ⟨_, exec_live (execDroop.eq_1 ..) hl (congrArg Host.Outcome.next (if_pos h)), State.get_wrap_self .., rfl⟩
  · exact ⟨s, exec_live (execDroop.eq_1 ..) hl (congrArg Host.Outcome.next (if_neg (Nat.not_lt.mpr h))), rfl⟩
  · exact ⟨s, exec_live (execMarginCritical.eq_1 ..) hl (congrArg Host.Outcome.next (if_pos h)), rfl⟩
  · have hone : ((s.sat (Reg.CLS_DFO_COUNTS_CRIT c) 1).put (Reg.CLS_MARGIN_CODES c) codes.toNat).clus c = x := rfl
    refine ⟨((s.sat (Reg.CLS_DFO_COUNTS_CRIT c) 1).put (Reg.CLS_MARGIN_CODES c) codes.toNat).setClus c
      { x with halved := true, crits := [s.gtc], goodAt := s.gtc }, exec_live (execMarginCritical.eq_1 ..) hl
        (congrArg Host.Outcome.next ((if_neg (Nat.not_lt.mpr h)).trans ?_)), ?_, State.setClus_clus .., rfl⟩
    · dsimp only
      rw [hone, hcrits]
      rfl
    · exact (State.get_put_ne _ _ _ _ (by simp only [Fld.key, Reg.CLS_MARGIN, Reg.CLS_DFO_COUNTS]; omega)).trans (State.get_sat_self ..)
  · refine ⟨_, exec_live (execMarginLow.eq_1 ..) hl (congrArg Host.Outcome.next ((if_pos hcode).trans
      (State.marginEvent_steps hfix hcut))), ?_, ?_⟩
    · refine (State.setFt_get _ _ _ (by simp only [Fld.key]; omega)).trans (State.get_sat_self ..)
    · dsimp only
      rw [State.setFt_clus, State.setClus_clus]
      exact ⟨rfl, rfl, rfl, rfl⟩
  · exact ⟨_, exec_live (execMarginLow.eq_1 ..) hl (congrArg Host.Outcome.next ((if_pos hcode).trans
      (State.marginEvent_fixed hfix))), State.get_sat_self .., State.setClus_clus ..⟩
  · refine ⟨s.setClus c { x with goodAt := s.gtc }, exec_live (execMarginRecover.eq_1 ..) hl ?_, State.setClus_clus .., rfl⟩
    refine congrArg Host.Outcome.next ?_
    rw [hheld]
    exact if_pos hlow
  · refine ⟨s, exec_live (execMarginRecover.eq_1 ..) hl ?_, rfl⟩
    refine congrArg Host.Outcome.next ?_
    rw [hheld]
    exact (if_neg (Nat.not_lt.mpr hlow)).trans (if_pos (by rw [atLeast1_eq]; exact ht))
  · exact execMarginRecover_due hl hheld hlow ht
  · exact ⟨s, exec_live (execSkewCorrect.eq_1 ..) hl (congrArg Host.Outcome.next (if_pos h)), rfl⟩
  · exact ⟨_, exec_live (execSkewCorrect.eq_1 ..) hl (congrArg Host.Outcome.next ((if_neg (Nat.not_lt.mpr h)).trans (if_neg (Nat.not_lt.mpr hk)))),
      State.setClus_clus .., rfl⟩
  · obtain ⟨hsat, hskew⟩ := State.marginEvent_counts (s.setClus c { x with skewAt := s.gtc }) c
    refine ⟨_, exec_live (execSkewCorrect.eq_1 ..) hl (congrArg Host.Outcome.next ((if_neg (Nat.not_lt.mpr h)).trans (if_pos hk))), hsat,
      hskew.trans ?_⟩
    rw [State.setClus_clus]
  · exact ⟨s, exec_live (execAgeingCheck.eq_1 ..) hl (if_pos h), rfl⟩
  · exact ⟨_, exec_live (execAgeingCheck.eq_1 ..) hl ((if_neg (Nat.not_lt.mpr h)).trans (congrArg Host.Outcome.next (if_pos hr))),
      State.setClus_clus .., rfl⟩
  · refine ⟨_, exec_live (execAgeingCheck.eq_1 ..) hl ((if_neg (Nat.not_lt.mpr h)).trans (congrArg Host.Outcome.next
      ((if_neg (Nat.not_lt.mpr hr)).trans (if_pos hs)))), (State.setClus_clus ..).trans ?_, rfl⟩
    rw [State.setClus_clus]
  · refine ⟨_, exec_live (execAgeingCheck.eq_1 ..) hl ((if_neg (Nat.not_lt.mpr h)).trans (congrArg Host.Outcome.next
      ((if_neg (Nat.not_lt.mpr hr)).trans ((if_neg (Int.not_lt.mpr hs)).trans (if_pos ?_))))), (State.setClus_clus ..).trans ?_, rfl⟩
    · rw [State.setClus_clus]
      exact hn
    · rw [State.setClus_clus]
  · obtain ⟨hn8, hshort, hfmax, hid⟩ := State.derate_post (s := s.setClus c { x with ageAt := s.gtc }) (c := c) rfl h8
    refine ⟨_, exec_live (execAgeingCheck.eq_1 ..) hl ((if_neg (Nat.not_lt.mpr h)).trans (congrArg Host.Outcome.next
      ((if_neg (Nat.not_lt.mpr hr)).trans ((if_neg (Int.not_lt.mpr hs)).trans (if_neg ?_))))), hn8, hshort, hfmax, hid⟩
    rw [State.setClus_clus]
    change ¬ x.shortfalls < 15
    omega
  · exact ⟨s, exec_tow (execTelemetrySample.eq_1 ..) hl (congrArg Host.Outcome.next (if_pos h)), rfl⟩
  · exact (execTelemetrySample_stale hl h hq).mono fun t ⟨htel, hr⟩ => ⟨htel, fun r h17 =>
      ⟨(hr r h17).vdie, (hr r h17).rail, (hr r h17).noTel⟩⟩
  · exact execSenseRetry_used hl rfl hr h10 h9 hsense huse
  · exact execCeilClear_first hl rfl hr h9 h10
  · exact voltageReached_at_once hl rfl hpend h1 h2 hraise hclamp hopen hceil hk8 hat
  · exact voltageReached_waits hl rfl hpend h1 h2 hraise hclamp hopen hceil hat hrank
  · refine ⟨s, exec_tow (execVsetTimeout.eq_1 ..) hl (congrArg Host.Outcome.next (if_pos (Or.inr (Or.inr ?_)))), rfl⟩
    rw [atLeast1_eq]
    exact h
  · exact vsetTimeout_abandons hl rfl hpend hr hdue

end Sys2Proof.Machine

namespace Sys2Proof.Machine

/-! ## Reports, the fault log, event vectors and the trace (spec chapter 17) -/

/-- What a report that is filed, traced or queued for the driver leaves of the concentrator: the FIFO, the log and its count. -/
structure State.KeepsLog (s t : State) : Prop where
  fifo : t.conc.fifo = s.conc.fifo
  log : t.conc.log = s.conc.log
  unread : t.conc.unread = s.conc.unread
  seqNext : t.get Reg.ERR_LOG_SEQ_NEXT = s.get Reg.ERR_LOG_SEQ_NEXT

theorem State.KeepsLog.refl (s : State) : s.KeepsLog s := ⟨rfl, rfl, rfl, rfl⟩

theorem State.KeepsLog.trans {s t u : State} (h : s.KeepsLog t) (h' : t.KeepsLog u) : s.KeepsLog u :=
  ⟨h'.fifo.trans h.fifo, h'.log.trans h.log, h'.unread.trans h.unread, h'.seqNext.trans h.seqNext⟩

theorem State.put_keepsLog (s : State) {f : Fld} (v : Nat) (h : Reg.ERR_LOG_SEQ_NEXT.key ≠ f.key) : s.KeepsLog (s.put f v) :=
  ⟨rfl, rfl, rfl, State.get_put_ne _ _ _ _ h⟩

theorem State.send_keepsLog (s : State) (r : Report) : s.KeepsLog (s.send r) := ⟨rfl, rfl, rfl, rfl⟩

theorem State.hold_keepsLog (s : State) (r : FaultRec) : s.KeepsLog (s.hold r) := by
  unfold State.hold
  split
  · split
    · exact ⟨rfl, rfl, rfl, rfl⟩
    · exact s.put_keepsLog 1 (by decide)
  · split
    · exact ⟨rfl, rfl, rfl, State.get_put_ne _ _ _ _ (by decide)⟩
    · exact s.put_keepsLog 1 (by decide)

theorem State.faultC_keepsLog (s : State) (code unit src detail : Nat) (cid qid cause : Option Nat) :
    s.KeepsLog (s.faultC code unit src detail cid qid cause) := by
  unfold State.faultC
  dsimp only
  generalize hu : (if detailOpen code then s.tookFree else s) = u
  have hsu : s.KeepsLog u := by
    rw [← hu]
    split
    · exact ⟨rfl, rfl, rfl, rfl⟩
    · exact State.KeepsLog.refl s
  refine hsu.trans ?_
  split
  · exact ⟨rfl, rfl, rfl, rfl⟩
  · refine State.KeepsLog.trans ?_ (State.hold_keepsLog _ _)
    exact ⟨rfl, rfl, rfl, rfl⟩

theorem State.recordX_keepsLog (s : State) (unit src cid : Nat) (qid : Option Nat) (e : XErr) :
    s.KeepsLog (s.recordX unit src cid qid e) := by
  unfold State.recordX
  dsimp only
  split_ifs
  · exact s.faultC_keepsLog ..
  · exact (s.faultC_keepsLog ..).trans ⟨rfl, rfl, rfl, rfl⟩
  · exact s.faultC_keepsLog ..
  · exact s.faultC_keepsLog ..
  · exact s.faultC_keepsLog ..

theorem State.refusedRec_keepsLog (s : State) (cid : Nat) (qid : Option Nat) (pa : Nat) : s.KeepsLog (s.refusedRec cid qid pa) := by
  unfold State.refusedRec
  split <;> exact s.recordX_keepsLog ..

theorem State.keepsLog_of_sansBytes {s t : State} (h : t.sansBytes = s.sansBytes) : s.KeepsLog t where
  fifo := (congrArg (fun u : State => u.conc.fifo) h :)
  log := (congrArg (fun u : State => u.conc.log) h :)
  unread := (congrArg (fun u : State => u.conc.unread) h :)
  seqNext := (congrArg (fun u : State => u.get Reg.ERR_LOG_SEQ_NEXT) h :)

theorem State.eventIf_keepsLog (s : State) (en vec : Fld) : s.KeepsLog (s.eventIf en vec) := by
  unfold State.eventIf
  split <;> exact ⟨rfl, rfl, rfl, rfl⟩

theorem State.ownWrite_sansBytes {s t : State} {cid pa : Nat} {bs : List Byte} (h : s.ownWrite cid pa bs = some t) :
    t.sansBytes = s.sansBytes := by
  unfold State.ownWrite at h
  split at h
  · cases h
    exact State.physPutList_sansBytes ..
  · cases h

theorem State.fqWrite_keepsLog (s : State) (x : Susp) (seq : Nat) : s.KeepsLog (s.fqWrite x seq) := by
  unfold State.fqWrite
  dsimp only
  split
  · exact ((s.refusedRec_keepsLog ..).trans (State.put_keepsLog _ 1 (by decide))).trans ⟨rfl, rfl, rfl, rfl⟩
  · next t h =>
    refine State.KeepsLog.trans ?_ (State.eventIf_keepsLog _ _ _)
    exact ((State.keepsLog_of_sansBytes (State.ownWrite_sansBytes h)).trans
      (t.put_keepsLog (f := Reg.XLT_FQ_TAIL_INDEX) _ (by decide))).trans ⟨rfl, rfl, rfl, rfl⟩

theorem State.fqPump_keepsLog (l : List Susp) : ∀ s : State, s.KeepsLog (s.fqPump l) := by
  induction l with
  | nil => exact State.KeepsLog.refl
  | cons x l ih =>
    intro s
    unfold State.fqPump
    split
    · exact ih s
    · split
      · exact State.KeepsLog.refl s
      · split
        · exact State.KeepsLog.refl s
        · exact (s.fqWrite_keepsLog ..).trans (ih _)

theorem State.trace_keepsLog (s : State) (kind unit : Nat) (cid : Option Nat) (data stamp : Nat) :
    s.KeepsLog (s.trace kind unit cid data stamp) := by
  unfold State.trace
  dsimp only
  generalize (_ || !bitAt (s.get Reg.MON_TRACE_CTRL_KINDS) (kind - 1)) = still
  split
  · exact State.KeepsLog.refl s
  · split
    · exact ⟨rfl, rfl, rfl, rfl⟩
    · exact s.put_keepsLog _ (by decide)

/-- The state in which a record has entered the log, before anything is told of it. -/
def State.logged (s : State) (r : FaultRec) : State :=
  let q := s.get Reg.ERR_LOG_SEQ_NEXT
  let u := if 512 ≤ s.conc.unread then s.sat Reg.ERR_LOG_OVF_OVF 1 else s
  { u with conc := { u.conc with
      log := u.conc.log.putList (32 * (q % 512)) (FaultRec.bytes r (u.logDetail r) q),
      unread := min (u.conc.unread + 1) (2 ^ 32 - 1), seqOf := u.conc.seqOf.set r.id (some q) } }.wrap Reg.ERR_LOG_SEQ_NEXT 1

/-- The record stands at its place, and the next sequence number and the count of unread records move on. -/
theorem State.logged_post (s : State) (r : FaultRec) :
    let q := s.get Reg.ERR_LOG_SEQ_NEXT
    (s.logged r).conc = { s.conc with
        log := s.conc.log.putList (32 * (q % 512)) (FaultRec.bytes r (s.logDetail r) q)
        unread := min (s.conc.unread + 1) (2 ^ 32 - 1), seqOf := s.conc.seqOf.set r.id (some q) } ∧
      (s.logged r).get Reg.ERR_LOG_SEQ_NEXT = (q + 1) % 2 ^ 16 := by
  unfold State.logged
  dsimp only
  split
  · refine ⟨rfl, (State.get_wrap_self ..).trans ?_⟩
    exact congrArg (fun n => (n + 1) % 2 ^ 16) (State.get_sat_ne s Reg.ERR_LOG_OVF_OVF Reg.ERR_LOG_SEQ_NEXT 1 (by decide))
  · exact ⟨rfl, State.get_wrap_self ..⟩

theorem State.enter_keepsLog (s : State) (r : FaultRec) : (s.logged r).KeepsLog (s.enter r) := by
  unfold State.enter
  rw [State.fqServe]
  refine State.KeepsLog.trans (State.KeepsLog.trans ?_ (State.trace_keepsLog _ 1 r.unit r.cid _ r.stamp)) (State.fqPump_keepsLog _ _)
  change (s.logged r).KeepsLog (let w := match r.cid with
    | some c => (s.logged r).sat (Reg.MON_CTX_EVENTS c 1) 1
    | none => s.logged r
    if w.on Reg.ERR_LOG_CTRL_EN ∧ w.on Reg.ERR_LOG_CTRL_ARMED then
      (w.event (w.get Reg.ERR_LOG_CTRL_VEC)).put Reg.ERR_LOG_CTRL_ARMED 0 else w)
  generalize s.logged r = v
  have hcount : ∀ w, v.KeepsLog w → v.KeepsLog (if w.on Reg.ERR_LOG_CTRL_EN ∧ w.on Reg.ERR_LOG_CTRL_ARMED then
      (w.event (w.get Reg.ERR_LOG_CTRL_VEC)).put Reg.ERR_LOG_CTRL_ARMED 0 else w) := by
    intro w hw
    split
    · refine State.KeepsLog.trans ?_ (State.put_keepsLog _ 0 (by decide))
      exact hw.trans ⟨rfl, rfl, rfl, rfl⟩
    · exact hw
  refine hcount _ ?_
  split
  · exact v.put_keepsLog _ (by simp only [Fld.key]; omega)
  · exact State.KeepsLog.refl v

theorem State.enter_fifo (s : State) (r : FaultRec) : (s.enter r).conc.fifo = s.conc.fifo := by
  rw [(s.enter_keepsLog r).fifo, (s.logged_post r).1]

theorem State.enter_seqNext (s : State) (r : FaultRec) :
    (s.enter r).get Reg.ERR_LOG_SEQ_NEXT = (s.get Reg.ERR_LOG_SEQ_NEXT + 1) % 2 ^ 16 :=
  (s.enter_keepsLog r).seqNext.trans (s.logged_post r).2

theorem State.enter_unread (s : State) (r : FaultRec) : (s.enter r).conc.unread = min (s.conc.unread + 1) (2 ^ 32 - 1) := by
  rw [(s.enter_keepsLog r).unread, (s.logged_post r).1]

theorem State.enter_log (s : State) (r : FaultRec) : (s.enter r).conc.log =
    s.conc.log.putList (32 * (s.get Reg.ERR_LOG_SEQ_NEXT % 512))
      (FaultRec.bytes r (s.logDetail r) (s.get Reg.ERR_LOG_SEQ_NEXT)) := by
  rw [(s.enter_keepsLog r).log, (s.logged_post r).1]

theorem Cells.bytes_eq (m : Cells) (l : List Byte) : ∀ a, (∀ k (hk : k < l.length), m.byte (a + k) = l[k]) →
    m.bytes a l.length = l := by
  induction l with
  | nil => exact fun _ _ => rfl
  | cons b l ih =>
    intro a h
    rw [List.length_cons, Cells.bytes, ih (a + 1) fun k hk => by
      rw [show a + 1 + k = a + (k + 1) from by omega]
      exact h (k + 1) (by simp only [List.length_cons]; omega)]
    exact congrArg (· :: l) (h 0 (by simp))

/-- Bytes read back after they are written. -/
theorem Cells.bytes_putList {m : Cells} (a : Nat) (l : List Byte) (hwf : Memory.wf m = true) :
    (m.putList a l).bytes a l.length = l :=
  Cells.bytes_eq _ l a fun k hk => by
    rw [Cells.byte_putList l m a (a + k) hwf, dif_pos ⟨by omega, by omega⟩]
    simp only [Nat.add_sub_cancel_left]

theorem FaultRec.bytes_length (r : FaultRec) (detail seq : Nat) : (FaultRec.bytes r detail seq).length = 32 := by
  simp only [FaultRec.bytes, List.length_append, leBytes_length]

/-! ### The concentrator -/

theorem State.enterFifo_post (s : State) (r : Report) :
    let c := s.conc
    let t := s.enterFifo r
    t = { s with conc := t.conc } ∧ t.conc.sent = c.sent ∧ t.conc.held = c.held ∧
      (c.enteredAt ≠ s.gtc → t.conc.fifo = c.fifo ++ [r]) ∧
      ∀ key x pre, c.enteredAt = s.gtc → c.enteredKeys = [key] → c.fifo = pre ++ [x] →
        t.conc.fifo = if reportKey r < key then pre ++ [r, x] else pre ++ [x, r] := by
  refine ⟨rfl, rfl, rfl, fun h => ?_, fun key x pre h hk hf => ?_⟩
  · rw [State.enterFifo]
    dsimp only
    rw [if_neg h]
    simp
  · rw [State.enterFifo]
    dsimp only
    rw [if_pos h, hk, hf]
    by_cases hlt : reportKey r < key
    · simp [hlt]
    · simp [hlt, List.take_of_length_le]

theorem State.concPass_fault {s : State} {r r2 : FaultRec} {rest : List Report} (n : Nat)
    (h : s.conc.fifo = .fault r :: .fault r2 :: rest) :
    s.concPass false (n + 2) = ({ s with conc := { s.conc with fifo := .fault r2 :: rest } }).enter r := by
  generalize hu : ({ s with conc := { s.conc with fifo := .fault r2 :: rest } } : State) = u
  have hfifo : (u.enter r).conc.fifo = .fault r2 :: rest := by
    rw [(u.enter_keepsLog r).fifo, (u.logged_post r).1, ← hu]
  rw [State.concPass, h]
  dsimp only
  rw [if_neg Bool.false_ne_true, hu, State.concPass, hfifo]
  exact if_pos rfl

theorem State.concPass_demand {s : State} {c : Nat} (n : Nat) (h : s.conc.fifo = [.demand c]) :
    s.concPass false (n + 2) = ({ s with conc := { s.conc with fifo := [] } }).passOn (.demand c) := by
  generalize hu : ({ s with conc := { s.conc with fifo := [] } } : State) = u
  have hfifo : (u.passOn (.demand c)).conc.fifo = [] := by
    rw [State.passOn]
    refine ((State.trace_keepsLog _ _ _ _ _ _).fifo).trans ?_
    rw [← hu]
  rw [State.concPass, h]
  dsimp only
  rw [hu, State.concPass, hfifo]

theorem State.trace_inbox (s : State) (kind unit : Nat) (cid : Option Nat) (data stamp : Nat) :
    (s.trace kind unit cid data stamp).conc.inbox = s.conc.inbox := by
  unfold State.trace
  dsimp only
  generalize (_ || !bitAt (s.get Reg.MON_TRACE_CTRL_KINDS) (kind - 1)) = still
  split
  · rfl
  · split <;> rfl

section Passes

variable {s : State} (hl : s.domLive 1 = true)
include hl

theorem execConcentratorPass_runs (h : s.flight.running = false ∨ s.get Reg.PWR_FLIGHT_STATUS_KIND ≠ 2) :
    exec .concentratorPass s = .next (s.concPass false 8) := by
  refine exec_tow (execConcentratorPass.eq_1 ..) hl (congrArg Host.Outcome.next (if_neg ?_))
  rintro ⟨hr, hk, -⟩
  rcases h with h | h
  · exact absurd (h.symm.trans hr) Bool.false_ne_true
  · exact h hk

theorem concentratorPass_fault (h : s.flight.running = false ∨ s.get Reg.PWR_FLIGHT_STATUS_KIND ≠ 2) {r r2 : FaultRec}
    {rest : List Report} (hf : s.conc.fifo = .fault r :: .fault r2 :: rest) (hwf : Memory.wf s.conc.log = true) :
    Gives .concentratorPass s fun t =>
      let q := s.get Reg.ERR_LOG_SEQ_NEXT
      t.conc.fifo = .fault r2 :: rest ∧ t.get Reg.ERR_LOG_SEQ_NEXT = (q + 1) % 2 ^ 16 ∧
      t.conc.unread = min (s.conc.unread + 1) (2 ^ 32 - 1) ∧
      t.conc.log.bytes (32 * (q % 512)) 32 = FaultRec.bytes r (s.logDetail r) q ∧
      ∀ a, ¬(32 * (q % 512) ≤ a ∧ a < 32 * (q % 512) + 32) → t.conc.log.byte a = s.conc.log.byte a := by
  have hlen := FaultRec.bytes_length r (s.logDetail r) (s.get Reg.ERR_LOG_SEQ_NEXT)
  have hlog := State.enter_log { s with conc := { s.conc with fifo := .fault r2 :: rest } } r
  refine ⟨_, (execConcentratorPass_runs hl h).trans (congrArg _ (State.concPass_fault 6 hf)), State.enter_fifo ..,
    State.enter_seqNext .., State.enter_unread .., ?_, fun a ha => ?_⟩
  · have hback := Cells.bytes_putList (m := s.conc.log) (32 * (s.get Reg.ERR_LOG_SEQ_NEXT % 512))
      (FaultRec.bytes r (s.logDetail r) (s.get Reg.ERR_LOG_SEQ_NEXT)) hwf
    rw [hlen] at hback
    rw [hlog]
    exact hback
  · rw [hlog, Cells.byte_putList _ s.conc.log _ a hwf, dif_neg]
    rw [FaultRec.bytes_length]
    exact ha

theorem concentratorPass_demand (h : s.flight.running = false ∨ s.get Reg.PWR_FLIGHT_STATUS_KIND ≠ 2) {n : Nat}
    (hf : s.conc.fifo = [.demand n]) :
    Gives .concentratorPass s fun t => t.conc.fifo = [] ∧ t.conc.inbox = s.conc.inbox ++ [.demand n] :=
  ⟨_, (execConcentratorPass_runs hl h).trans (congrArg _ (State.concPass_demand 6 hf)),
    (State.trace_keepsLog _ _ _ _ _ _).fifo, State.trace_inbox ..⟩

end Passes

/-- A sample that is dropped marks its slot or its context's monitor, and nothing at the concentrator. -/
theorem State.sampleLost_post (s : State) (r : Report) : (s.sampleLost r).conc = s.conc ∧
    (s.sampleLost r).get Reg.ERR_CONC_SAMPLE_DROP = s.get Reg.ERR_CONC_SAMPLE_DROP := by
  cases r with
  | samplePart p => exact ⟨rfl, State.get_put_ne _ _ _ _ (by simp only [Fld.key]; omega)⟩
  | sampleCtx _ => exact ⟨rfl, State.get_put_ne _ _ _ _ (by decide)⟩
  | _ => exact ⟨rfl, rfl⟩

/-! ### Event vectors -/

section Vectors

variable {s : State} {v : Nat}

theorem State.on_of_one {f : Fld} (h : s.get f = 1) : s.on f = true := by rw [State.on, h]; rfl

theorem State.on_of_zero {f : Fld} (h : s.get f = 0) : s.on f = false := by rw [State.on, h]; rfl

theorem State.deliver_null (h : s.get (Reg.ERR_VEC_ADDR v) = 0) : s.deliver v = s.sat Reg.ERR_VEC_COUNTS_VEC_NULL 1 := if_pos h

theorem State.deliver_masked (h : s.get (Reg.ERR_VEC_ADDR v) ≠ 0) (hm : s.get (Reg.ERR_VEC_MASK v) = 1) :
    s.deliver v = s.put (Reg.ERR_VEC_PENDING v) 1 := (if_neg h).trans (if_pos (State.on_of_one hm))

theorem State.deliver_writes (h : s.get (Reg.ERR_VEC_ADDR v) ≠ 0) (hm : s.get (Reg.ERR_VEC_MASK v) = 0) :
    s.deliver v = { s with host := { s.host with writes := s.host.writes ++
      [(4 * s.get (Reg.ERR_VEC_ADDR v), s.get Reg.ERR_VEC_DATA_DATA_HI * 4096 + v)] } } :=
  (if_neg h).trans (if_neg (by rw [State.on_of_zero hm]; exact Bool.false_ne_true))

theorem State.deliver_get {g : Fld} (h1 : g.key ≠ Reg.ERR_VEC_COUNTS_VEC_NULL.key) (h2 : g.key ≠ (Reg.ERR_VEC_PENDING v).key) :
    (s.deliver v).get g = s.get g := by
  unfold State.deliver
  split
  · exact State.get_sat_ne _ _ _ _ h1
  · split
    · exact State.get_put_ne _ _ _ _ h2
    · rfl

/-- The address and the mask that a written vector takes. -/
def State.vecSet (s : State) (v value : Nat) : State :=
  (s.put (Reg.ERR_VEC_ADDR v) (bits value 51 2)).put (Reg.ERR_VEC_MASK v) (bits value 63 63)

theorem State.vecSet_post (s : State) (v value : Nat) : (s.vecSet v value).get (Reg.ERR_VEC_ADDR v) = bits value 51 2 ∧
    (s.vecSet v value).get (Reg.ERR_VEC_MASK v) = bits value 63 63 := by
  refine ⟨(State.get_put_ne _ _ _ _ (by simp only [Fld.key]; omega)).trans ((State.get_put_self ..).trans ?_),
    (State.get_put_self ..).trans ?_⟩
  · exact Nat.mod_eq_of_lt (bits_lt value 51 2)
  · exact Nat.mod_eq_of_lt (bits_lt value 63 63)

theorem State.writeVec_eq (s : State) (v value : Nat) : s.writeVec v value =
    if (!(bitAt value 63)) = true ∧ (s.vecSet v value).on (Reg.ERR_VEC_PENDING v) = true then
      ((s.vecSet v value).put (Reg.ERR_VEC_PENDING v) 0).deliver v else s.vecSet v value := rfl

/-- Unmasking a vector that is pending writes it. -/
theorem vecUnmask_post (hl : s.domLive 1 = true) (v : BitVec 12) (w : BitVec 64) :
    Gives (.vecUnmask v w) s fun t =>
      t.get (Reg.ERR_VEC_ADDR v.toNat) = bits w.toNat 51 2 ∧ t.get (Reg.ERR_VEC_MASK v.toNat) = bits w.toNat 63 63 ∧
        (w.getLsbD 63 = false → s.get (Reg.ERR_VEC_PENDING v.toNat) = 1 → bits w.toNat 51 2 ≠ 0 →
          t.get (Reg.ERR_VEC_PENDING v.toNat) = 0 ∧
          t.host.writes = s.host.writes ++ [(4 * bits w.toNat 51 2, s.get Reg.ERR_VEC_DATA_DATA_HI * 4096 + v.toNat)]) := by
  have hv : v.toNat < 4096 := v.isLt
  obtain ⟨haddr, hmask⟩ := s.vecSet_post v.toNat w.toNat
  let u := (s.vecSet v.toNat w.toNat).put (Reg.ERR_VEC_PENDING v.toNat) 0
  have hu : ∀ g : Fld, g.key ≠ (Reg.ERR_VEC_PENDING v.toNat).key → u.get g = (s.vecSet v.toNat w.toNat).get g :=
    fun g h => State.get_put_ne _ _ _ _ h
  have huaddr : u.get (Reg.ERR_VEC_ADDR v.toNat) = bits w.toNat 51 2 := (hu _ (by simp only [Fld.key]; omega)).trans haddr
  have humask : u.get (Reg.ERR_VEC_MASK v.toNat) = bits w.toNat 63 63 := (hu _ (by simp only [Fld.key]; omega)).trans hmask
  refine ⟨_, exec_tow (execVecUnmask.eq_1 ..) hl rfl, ?_⟩
  rw [State.writeVec_eq]
  split
  · refine ⟨?_, ?_, fun h63 hp ha => ?_⟩
    · exact (State.deliver_get (by simp only [Fld.key]; omega) (by simp only [Fld.key]; omega)).trans huaddr
    · exact (State.deliver_get (by simp only [Fld.key]; omega) (by simp only [Fld.key]; omega)).trans humask
    · have hzero : bits w.toNat 63 63 = 0 := by
        have hbit := (bitAt_toNat w 63).trans h63
        simp only [bitAt, beq_eq_false_iff_ne, ne_eq] at hbit
        rw [bits]
        omega
      have hdata : u.get Reg.ERR_VEC_DATA_DATA_HI = s.get Reg.ERR_VEC_DATA_DATA_HI :=
        (hu _ (by simp only [Fld.key]; omega)).trans ((State.get_put_ne _ _ _ _ (by simp only [Fld.key]; omega)).trans
          (State.get_put_ne _ _ _ _ (by simp only [Fld.key]; omega)))
      rw [State.deliver_writes (s := u) (by rw [huaddr]; exact ha) (humask.trans hzero), huaddr, hdata]
      exact ⟨(State.get_put_self ..).trans (Nat.zero_mod _), rfl⟩
  · next hno =>
    refine ⟨haddr, hmask, fun h63 hp _ => absurd ⟨?_, ?_⟩ hno⟩
    · rw [bitAt_toNat, h63]
      rfl
    · refine State.on_of_one (Eq.trans ?_ hp)
      exact (State.get_put_ne _ _ _ _ (by simp only [Fld.key]; omega)).trans
        (State.get_put_ne _ _ _ _ (by simp only [Fld.key]; omega))

end Vectors

/-! ### The trace ring -/

theorem State.ownWrite_setConc {s t : State} {c : Conc} {cid pa : Nat} {bs : List Byte} (hown : s.ownerOk cid pa false = true)
    (hkey : s.keyAbsent pa = false) (ht : t = { s with conc := c }) : t.ownWrite cid pa bs = some (t.physPutList pa bs) := by
  subst ht
  have hownDie : { s with conc := c }.ownDie = s.ownDie := rfl
  have htag : { s with conc := c }.tagOf = s.tagOf := rfl
  have hcarve : { s with conc := c }.carveOwner = s.carveOwner := rfl
  have hcid : { s with conc := c }.cidPart = s.cidPart := rfl
  have hget : { s with conc := c }.get = s.get := rfl
  have hon : { s with conc := c }.on = s.on := rfl
  have hok : { s with conc := c }.ownerOk cid pa false = s.ownerOk cid pa false := by
    simp only [State.ownerOk, hownDie, htag, hcarve, hcid, hget, hon]
  have hk : { s with conc := c }.keyAbsent pa = s.keyAbsent pa := rfl
  rw [State.ownWrite, hok, hown, hk, hkey]
  rfl

theorem traceWrite_post {s : State} (hl : s.domLive 1 = true) {r : TraceRec} {rest : List TraceRec} (ht : s.conc.trace = r :: rest)
    (hstop : s.conc.traceStop = false) (hmode : s.get Reg.MON_TRACE_CTRL_MODE = 0)
    (hown : s.ownerOk s.driverCid (s.get Reg.MON_TRACE_BASE_BASE * 2 ^ 12 + s.get Reg.MON_TRACE_TAIL_INDEX % s.traceSize * 16)
      false = true)
    (hkey : s.keyAbsent (s.get Reg.MON_TRACE_BASE_BASE * 2 ^ 12 + s.get Reg.MON_TRACE_TAIL_INDEX % s.traceSize * 16) = false) :
    Gives .traceWrite s fun t => t.conc = { s.conc with trace := rest } ∧
      t.get Reg.MON_TRACE_TAIL_INDEX = (s.get Reg.MON_TRACE_TAIL_INDEX + 1) % 2 ^ 32 := by
  generalize ha : s.get Reg.MON_TRACE_BASE_BASE * 2 ^ 12 + s.get Reg.MON_TRACE_TAIL_INDEX % s.traceSize * 16 = a at hown hkey
  generalize hu : ({ s with conc := { s.conc with trace := rest } } : State) = u
  have hwrite := State.ownWrite_setConc (bs := TraceRec.bytes r) hown hkey hu.symm
  have hbytes := State.physPutList_sansBytes (TraceRec.bytes r) u a
  have hsansBytes : (u.physPutList a (TraceRec.bytes r)).conc = u.conc := (congrArg State.conc hbytes :)
  have htail : (u.physPutList a (TraceRec.bytes r)).get Reg.MON_TRACE_TAIL_INDEX = u.get Reg.MON_TRACE_TAIL_INDEX :=
    (congrArg (fun w : State => w.get Reg.MON_TRACE_TAIL_INDEX) hbytes :)
  have hmode' : u.on Reg.MON_TRACE_CTRL_MODE = false := by
    rw [← hu]
    exact State.on_of_zero hmode
  have hstop' : u.conc.traceStop = false := by
    rw [← hu]
    exact hstop
  refine ⟨(u.physPutList a (TraceRec.bytes r)).wrap Reg.MON_TRACE_TAIL_INDEX 1, exec_tow (execTraceWrite.eq_1 ..) hl ?_, ?_, ?_⟩
  · subst hu ha
    refine congrArg Host.Outcome.next ?_
    rw [ht]
    refine (if_neg (by rw [hstop]; exact Bool.false_ne_true)).trans
      ((if_neg fun h => Bool.false_ne_true (hmode'.symm.trans h.1)).trans ?_)
    dsimp only
    split
    · next w hw =>
      obtain rfl := Option.some.inj (hwrite.symm.trans hw)
      rfl
    · next hw => exact absurd (hwrite.symm.trans hw) (by simp)
  · refine hsansBytes.trans ?_
    rw [← hu]
  · refine (State.get_wrap_self ..).trans ?_
    rw [htail, ← hu]
    rfl

/-- Settles O28: what arrives at the concentrator, what a towpath cycle takes from it, the log's read index, the event vectors and
the trace. -/
theorem faultReports : Obligations.FaultReports := by
  unfold Obligations.FaultReports
  intro s hl c sat vecWrite enters
  have harrive : ∀ (k : BitVec 16) r, c.sent[k.toNat]? = some r → (∀ x ∈ c.sent.take k.toNat, reportKey x ≠ reportKey r) →
      (∀ x ∈ c.held, reportKey x ≠ reportKey r) → s.awaitsCause r = false →
      exec (.reportArrive k) s = .next (({ s with conc := { c with sent := c.sent.eraseIdx k.toNat } }).arrive r) := by
    intro k r hr hsent hheld hcause
    refine exec_tow (execReportArrive.eq_1 ..) hl (congrArg Host.Outcome.next ?_)
    rw [show s.conc.sent[k.toNat]? = some r from hr]
    refine if_neg ?_
    rintro (h | ⟨-, h⟩ | h)
    · obtain ⟨x, hx, he⟩ := List.any_eq_true.mp h
      exact hsent x hx (by simpa using he)
    · obtain ⟨x, hx, he⟩ := List.any_eq_true.mp h
      exact hheld x hx (by simpa using he)
    · exact Bool.false_ne_true (hcause.symm.trans h)
  have hvec : ∀ v rest, s.domLive 5 = true → s.host.events = v :: rest →
      exec .eventVector s = .next ({ s with host := { s.host with events := rest } }.deliver v) := by
    intro v rest hl5 hev
    refine exec_live (execEventVector.eq_1 ..) hl5 (congrArg Host.Outcome.next ?_)
    rw [hev]
  refine ⟨fun k r hr hsent hheld hcause => ⟨fun hlen => ?_, fun hlen hs => ?_, fun hlen hs => ?_⟩, fun r rest hh hlen => ?_,
    fun h r r2 rest hf hwf => concentratorPass_fault hl h hf hwf, fun h n hf => concentratorPass_demand hl h hf, fun v => ?_,
    fun v rest hl5 hev => ⟨fun ha => ?_, fun ha hm => ?_, fun ha hm => ?_⟩, fun v w => vecUnmask_post hl v w, ?_⟩
  · let u := { s with conc := { c with sent := c.sent.eraseIdx k.toNat } }
    obtain ⟨hrest, hs, hh, hnew, hsame⟩ := u.enterFifo_post r
    refine ⟨u.enterFifo r, (harrive k r hr hsent hheld hcause).trans (congrArg _ (if_pos hlen)),
      ⟨⟨rfl, rfl, rfl⟩, hnew, hsame⟩, hs, hh⟩
  · refine ⟨_, (harrive k r hr hsent hheld hcause).trans (congrArg _ ((if_neg (Nat.not_lt.mpr hlen)).trans (if_neg ?_))), rfl⟩
    rw [hs]
    exact Bool.false_ne_true
  · refine ⟨_, (harrive k r hr hsent hheld hcause).trans (congrArg _ ((if_neg (Nat.not_lt.mpr hlen)).trans (if_pos hs))), ?_⟩
    obtain ⟨hconc, hget⟩ := State.sampleLost_post ({ s with conc := { c with sent := c.sent.eraseIdx k.toNat } }.sat
      Reg.ERR_CONC_SAMPLE_DROP 1) r
    exact ⟨hconc, hget.trans (State.get_sat_self ..)⟩
  · let u := { s with conc := { c with held := rest } }
    obtain ⟨hrest, hs, hh', hnew, hsame⟩ := u.enterFifo_post r
    refine ⟨u.enterFifo r, exec_tow (execHeldReportAccept.eq_1 ..) hl ?_, ⟨⟨rfl, rfl, rfl⟩, hnew, hsame⟩, hh', hs⟩
    refine congrArg Host.Outcome.next ?_
    rw [show s.conc.held = r :: rest from hh]
    exact if_pos hlen
  · refine ⟨_, exec_tow (execLogReadWrite.eq_1 ..) hl rfl, ?_, ?_, rfl⟩
    · exact (State.get_put_ne _ _ _ _ (by decide)).trans ((State.get_put_self ..).trans
        (Nat.mod_eq_of_lt (Nat.mod_lt _ (by decide))))
    · exact State.get_put_self ..
  · exact ⟨_, (hvec v rest hl5 hev).trans (congrArg _ (State.deliver_null ha)), rfl, State.get_sat_self ..⟩
  · exact ⟨_, (hvec v rest hl5 hev).trans (congrArg _ (State.deliver_masked ha hm)), rfl, State.get_put_self ..⟩
  · exact ⟨_, (hvec v rest hl5 hev).trans (congrArg _ (State.deliver_writes ha hm)), rfl⟩
  · intro r rest ht hstop hmode a hown hkey
    exact traceWrite_post hl ht hstop hmode hown hkey

end Sys2Proof.Machine

namespace Sys2Proof.Machine

/-! ## Packets between dies (spec chapter 13, R519-R530) -/

section Sending

variable {s : State} {n : Nat} {h : Header}

theorem mem_joinSlots (q : List Slot) (h : Header) : .head (BitVec.ofNat 3 (linkVc h)) h ∈ joinSlots q h := by
  have hmem : Slot.head (BitVec.ofNat 3 (linkVc h)) h ∈ linkSlots h := List.mem_cons_self
  unfold joinSlots
  split
  · exact List.mem_append_left _ (List.mem_append_right _ hmem)
  · exact List.mem_append_right _ hmem

/-- A packet that a port's channels hold. -/
def State.offers (t : State) (n : Nat) (q : Header) : Prop :=
  .head (BitVec.ofNat 3 (linkVc q)) q ∈ Tab.get [] (t.port n).tx (linkVc q)

theorem State.offerTx_offers (s : State) (n : Nat) (h : Header) : (s.offerTx n h).offers n h := by
  unfold State.offers State.offerTx
  dsimp only
  rw [State.port_setPort, if_pos rfl, Tab.get_set_self]
  exact mem_joinSlots ..

theorem State.offers_waiting {t : State} {q : Header} (ho : t.offers n q) (hvc : linkVc q < 6) : q ∈ (t.port n).waiting :=
  List.mem_flatMap.mpr ⟨linkVc q, List.mem_range.mpr hvc, List.mem_filterMap.mpr ⟨_, ho, rfl⟩⟩

theorem linkVc_lt (h : Header) : linkVc h < 6 := by
  have hb : b2n h.lclass ≤ 1 := by cases h.lclass <;> decide
  unfold linkVc
  split
  · omega
  · split <;> omega

theorem State.sendOn_here {ing : Option Nat} (hd : s.destPort h.dstDie.toNat = some n) (ht : s.sendTtl h ≠ 0) :
    s.sendOn n ing h =
      some (s.offerTx n { h with lclass := s.linkClass n ing h, ttl := BitVec.ofNat 5 (s.sendTtl h) }) := by
  rw [State.sendOn, hd]
  dsimp only
  rw [if_neg ht, if_pos rfl]

theorem State.forward_here {ing : Option Nat} (hd : s.destPort h.dstDie.toNat = some n) (ht : s.sendTtl h ≠ 0) :
    s.forward n ing h = s.offerTx n { h with lclass := s.linkClass n ing h, ttl := BitVec.ofNat 5 (s.sendTtl h) } := by
  rw [State.forward, State.sendOn_here hd ht]

theorem State.sendTtl_own {s : State} {h : Header} (hs : h.srcDie = BitVec.ofNat 9 s.ownDie) (hd : s.ownDie < 512) :
    s.sendTtl h = h.ttl.toNat :=
  if_pos (by rw [hs, BitVec.toNat_ofNat, Nat.mod_eq_of_lt hd])

/-- A packet of the own die that a port takes keeps its header but for the class. -/
theorem State.forward_own {ing : Option Nat} (hd : s.destPort h.dstDie.toNat = some n) (hs : h.srcDie = BitVec.ofNat 9 s.ownDie)
    (hown : s.ownDie < 512) (ht : h.ttl ≠ 0) :
    s.forward n ing h = s.offerTx n { h with lclass := s.linkClass n ing h } := by
  have httl : s.sendTtl h = h.ttl.toNat := State.sendTtl_own hs hown
  have hne : h.ttl.toNat ≠ 0 := fun h0 => ht (BitVec.eq_of_toNat_eq h0)
  rw [State.forward_here hd (by rw [httl]; exact hne), httl, BitVec.ofNat_toNat, BitVec.setWidth_eq]

/-- The packet stands in the port's channels, in the class it came with or the other. -/
theorem State.offerTx_either (s : State) (n : Nat) (h : Header) (b : Bool) :
    (s.offerTx n { h with lclass := b }).offers n h ∨ (s.offerTx n { h with lclass := b }).offers n { h with lclass := !h.lclass } := by
  have hoff := s.offerTx_offers n { h with lclass := b }
  by_cases hb : b = h.lclass
  · subst hb
    exact Or.inl hoff
  · have hb : b = !h.lclass := Bool.eq_not_of_ne hb
    subst hb
    exact Or.inr hoff

end Sending

/-! ### What sending leaves -/

/-- What sending a packet, answering one and recording a fault leave of the state. -/
structure State.KeepsOps (s t : State) : Prop where
  out : t.link.out = s.link.out
  combine : t.link.combine = s.link.combine
  written : t.link.written = s.link.written
  nextId : t.conc.nextId = s.conc.nextId
  get : ∀ g, t.get g = s.get g
  mem : t.mem = s.mem

theorem State.takeLink_keepsOps (s : State) (h : Header) : s.KeepsOps (s.takeLink h) ∧
    (s.takeLink h).mesh.waiting = s.mesh.waiting ∧ (s.takeLink h).mesh.out = s.mesh.out ∧
    (s.takeLink h).fuses = s.fuses ∧ (s.takeLink h).doms = s.doms ∧ (s.takeLink h).stop = s.stop ∧
    (s.takeLink h).gtc = s.gtc ∧ (s.takeLink h).copies = s.copies := by
  unfold State.takeLink
  split <;> exact ⟨⟨rfl, rfl, rfl, rfl, fun _ => rfl, rfl⟩, rfl, rfl, rfl, rfl, rfl, rfl, rfl⟩

theorem State.sendOn_keepsOps {s t : State} {n : Nat} {ing : Option Nat} {h : Header} (hs : s.sendOn n ing h = some t) :
    s.KeepsOps t := by
  unfold State.sendOn at hs
  split at hs
  · cases hs
  · split at hs
    · cases hs
    · split at hs <;> cases hs <;> exact ⟨rfl, rfl, rfl, rfl, fun _ => rfl, rfl⟩

theorem State.destPort_congr {s t : State} (hd : t.doms = s.doms)
    (hget : ∀ g : Fld, g.lo % 64 = 0 ∨ g.lo % 64 = 4 ∨ g.lo % 64 = 8 → t.get g = s.get g) (d : Nat) : t.destPort d = s.destPort d := by
  have hport : t.portActive = s.portActive := by
    funext n
    have hlive : t.domLive 9 = s.domLive 9 := by rw [State.domLive, State.domLive, State.dom, State.dom, hd]
    rw [State.portActive, State.portActive, State.portState, State.portState, hget _ (Or.inl rfl), hlive]
  rw [State.destPort, State.destPort, hport, hget _ (Or.inl rfl), hget _ (Or.inr (Or.inl rfl)), hget _ (Or.inr (Or.inr rfl))]

theorem State.KeepsOps.destPort {s t : State} (h : s.KeepsOps t) (hd : t.doms = s.doms) (d : Nat) : t.destPort d = s.destPort d :=
  State.destPort_congr hd (fun g _ => h.get g) d

theorem State.KeepsOps.ownDie {s t : State} (h : s.KeepsOps t) (hf : t.fuses = s.fuses) : t.ownDie = s.ownDie := by
  rw [State.ownDie, State.ownDie, State.yard, State.yard, hf, h.get]

/-- The count and the record of a packet that is discarded (R520). -/
def State.discarded (s : State) (n : Nat) (h : Header) : State :=
  (s.sat Reg.LNK_COUNTS_TTL_DROP 1).faultC 0x47 (uLNK n) n (n + h.dstDie.toNat * 2 ^ 16) (some h.cid.toNat) (some h.qid.toNat) none

theorem State.discarded_filed (s : State) (n : Nat) (h : Header) : (s.sat Reg.LNK_COUNTS_TTL_DROP 1).Filed (s.discarded n h) 1 :=
  State.faultC_filed ..

theorem State.ownDie_countDrop (s : State) : (s.sat Reg.LNK_COUNTS_TTL_DROP 1).ownDie = s.ownDie := by
  rw [State.ownDie, State.ownDie, State.get_sat_ne _ _ _ _ (by decide)]
  rfl

theorem State.discarded_count (s : State) (n : Nat) (h : Header) : (s.discarded n h).get Reg.LNK_COUNTS_TTL_DROP =
    min (s.get Reg.LNK_COUNTS_TTL_DROP + 1) (Reg.LNK_COUNTS_TTL_DROP.size - 1) :=
  ((s.discarded_filed n h).get _ (by decide) (by decide)).trans (State.get_sat_self ..)

theorem State.forward_discards {s : State} {n : Nat} {ing : Option Nat} {h : Header} (hs : s.sendOn n ing h = none) :
    s.forward n ing h = if !(isLReq h.op.toNat) then s.discarded n h
      else if h.srcDie.toNat = (s.discarded n h).ownDie then
        (((s.discarded n h).entryFor h).map fun r => ((s.discarded n h).dropOut r).faultOrig h 0x47).getD (s.discarded n h)
      else ((s.discarded n h).sendOn n none ((s.discarded n h).linkRsp h stUnreachable 0x47 0 0 0)).getD (s.discarded n h) := by
  rw [State.forward, hs]
  dsimp only
  change (if _ then s.discarded n h else if _ then (match (s.discarded n h).entryFor h with
    | none => s.discarded n h
    | some r => ((s.discarded n h).dropOut r).faultOrig h 0x47) else _) = _
  cases (s.discarded n h).entryFor h <;> rfl

/-- A packet that a port forwards or discards leaves the reduction table, the memory, and every field but the count of discards and
the two in which a closed PD1 counts records. -/
theorem State.forward_frame (s : State) (n : Nat) (ing : Option Nat) (h : Header) :
    (s.forward n ing h).link.combine = s.link.combine ∧ (s.forward n ing h).mem = s.mem ∧
    (s.forward n ing h).link.written = s.link.written ∧
    ∀ g : Fld, g.key ≠ Reg.LNK_COUNTS_TTL_DROP.key → g.key ≠ Reg.WAT_STATUS_HELD.key → g.key ≠ Reg.WAT_STATUS_HOLD_OVF.key →
      (s.forward n ing h).get g = s.get g := by
  cases hs : s.sendOn n ing h with
  | some t =>
    have hk := State.sendOn_keepsOps hs
    rw [State.forward, hs]
    exact ⟨hk.combine, hk.mem, hk.written, fun g _ _ _ => hk.get g⟩
  | none =>
    have hfiled := s.discarded_filed n h
    have hu : (s.discarded n h).link.combine = s.link.combine ∧ (s.discarded n h).mem = s.mem ∧
        (s.discarded n h).link.written = s.link.written ∧ ∀ g : Fld, g.key ≠ Reg.LNK_COUNTS_TTL_DROP.key →
        g.key ≠ Reg.WAT_STATUS_HELD.key → g.key ≠ Reg.WAT_STATUS_HOLD_OVF.key → (s.discarded n h).get g = s.get g := by
      refine ⟨?_, ?_, ?_, fun g h1 h2 h3 => (hfiled.get g h2 h3).trans (State.get_sat_ne _ _ _ _ h1)⟩ <;> rw [hfiled.rest] <;> rfl
    rw [State.forward_discards hs]
    generalize s.discarded n h = u at hu
    split
    · exact hu
    · split
      · cases u.entryFor h <;> exact hu
      · cases hsend : u.sendOn n none (u.linkRsp h stUnreachable 0x47 0 0 0) with
        | none => exact hu
        | some t =>
          have hk := State.sendOn_keepsOps hsend
          obtain ⟨h1, h2, h3, h4⟩ := hu
          exact ⟨hk.combine.trans h1, hk.mem.trans h2, hk.written.trans h3, fun g a b c => (hk.get g).trans (h4 g a b c)⟩

/-! ### A request of the own die -/

/-- The link operation that the port `n` forms from a request of the own die that is neither atomic nor a mailbox send. -/
def State.linkFormed (s : State) (n : Nat) (h : Header) : Header :=
  { h with
    op := BitVec.ofNat 8 (linkOp h.op.toNat), dstDie := BitVec.ofNat 9 (paDie h.addr.toNat), srcDie := BitVec.ofNat 9 s.ownDie,
    ttl := BitVec.ofNat 5 s.ttlInit, lclass := false, origStop := h.src, origUnit := h.unit, origTag := h.tag, lfault := 0,
    reqId := BitVec.ofNat 20 (s.freeVal 20), group := 0, contrib := 0, hold := BitVec.ofNat 3 n }

/-- The state in which the port holds that operation's entry. -/
def State.linkEntered (s : State) (n : Nat) (h : Header) : State :=
  { s.tookFree with link := { s.link with
      out := s.link.out ++ [⟨s.linkFormed n h, s.time (copyLink n), s.time (copyLink n), 0⟩] } }

theorem State.originate_plain {s : State} {n : Nat} {h : Header} (hop : h.op.toNat = opRead ∨ h.op.toNat = opWrite ∨ h.op.toNat = opMasked)
    (hred : inReduce h.addr.toNat = false) (hlen : (s.link.out.filter fun r => r.h.hold.toNat == n).length < 1024) :
    s.originate n h = some ((s.linkEntered n h).forward n none (s.linkFormed n h)) := by
  have hlop : linkOp h.op.toNat ≠ opLAtomic := by rcases hop with h | h | h <;> rw [h] <;> decide
  have hmail : h.op.toNat ≠ opMailbox := by rcases hop with h | h | h <;> rw [h] <;> decide
  have hclash : (linkOp h.op.toNat == opLAtomic) = false := by simpa using hlop
  rw [State.originate]
  dsimp only
  rw [hred, if_neg (fun h => Bool.false_ne_true h.2), hclash, Bool.false_and, if_neg (by simp; omega), if_neg hlop, if_neg hlop,
    if_neg hmail]
  rfl

section Routes

variable {s : State} {stop : BitVec 3} {h : Header} (hy : s.yard = true) (hl : s.domLive 8 = true) (hn : stop.toNat < 6)
  (hown : s.ownDie < 512)
include hy hl hn hown

theorem zlRoute_originates (hop : h.op.toNat = opRead ∨ h.op.toNat = opWrite ∨ h.op.toNat = opMasked)
    (hred : inReduce h.addr.toNat = false)
    (hlen : (s.link.out.filter fun r => r.h.hold.toNat == stop.toNat).length < 1024)
    (hd : s.destPort (paDie h.addr.toNat) = some stop.toNat) (h0 : 0 < s.get Reg.LNK_CTRL_TTL_INIT)
    (h32 : s.get Reg.LNK_CTRL_TTL_INIT < 32) :
    Gives (.zlRoute stop h) s fun t =>
      let r : LinkReq := ⟨s.linkFormed stop.toNat h, s.time (copyLink stop.toNat), s.time (copyLink stop.toNat), 0⟩
      t.link.out = s.link.out ++ [r] ∧ (t.offers stop.toNat r.h ∨ t.offers stop.toNat { r.h with lclass := !r.h.lclass }) := by
  have hdie : paDie h.addr.toNat < 512 := Nat.mod_lt _ (by decide)
  have httl : (s.linkFormed stop.toNat h).ttl ≠ 0 := by
    have hval : s.ttlInit = s.get Reg.LNK_CTRL_TTL_INIT := (atLeast1_eq _).trans (Nat.max_eq_right h0)
    intro he
    have := congrArg BitVec.toNat he
    rw [State.linkFormed, BitVec.toNat_ofNat, hval, Nat.mod_eq_of_lt h32] at this
    exact absurd this (by simp; omega)
  have hroute : s.destPort (s.linkFormed stop.toNat h).dstDie.toNat = some stop.toNat := by
    rw [State.linkFormed, BitVec.toNat_ofNat, Nat.mod_eq_of_lt hdie, hd]
  have hlop : linkOp h.op.toNat ≠ 0 := by rcases hop with h | h | h <;> rw [h] <;> decide
  have heq : exec (.zlRoute stop h) s = .next (((s.takeArrived h).linkEntered stop.toNat h).forward stop.toNat none
      (s.linkFormed stop.toNat h)) := by
    refine exec_link (execZlRoute.eq_1 ..) hy hl (congrArg Host.Outcome.next ((if_neg (by omega)).trans ((if_pos hlop).trans ?_)))
    rw [State.originate_plain (s := s.takeArrived h) hop hred hlen]
    rfl
  refine ⟨_, heq, ?_⟩
  rw [State.forward_own (s := (s.takeArrived h).linkEntered stop.toNat h) hroute rfl hown httl]
  exact ⟨rfl, State.offerTx_either ..⟩

/-- A request for which no port is left is counted and recorded, and no entry is made. -/
theorem zlRoute_discards (hop : isLReq h.op.toNat = true) (hdst : h.dstDie ≠ BitVec.ofNat 9 s.ownDie)
    (hsrc : h.srcDie ≠ BitVec.ofNat 9 s.ownDie) (hd : s.destPort h.dstDie.toNat = none) :
    Gives (.zlRoute stop h) s fun t => t.get Reg.LNK_COUNTS_TTL_DROP =
        min (s.get Reg.LNK_COUNTS_TTL_DROP + 1) (Reg.LNK_COUNTS_TTL_DROP.size - 1) ∧ t.conc.nextId = s.conc.nextId + 1 ∧
      t.link.out = s.link.out := by
  obtain ⟨hk, -, -, hfuses, hdoms, -⟩ := s.takeLink_keepsOps h
  have hne : ∀ d : BitVec 9, d ≠ BitVec.ofNat 9 s.ownDie → d.toNat ≠ s.ownDie := fun d hne he =>
    hne (by rw [← he, BitVec.ofNat_toNat, BitVec.setWidth_eq])
  have hrange : 0x50 ≤ h.op.toNat ∧ h.op.toNat ≤ 0x54 := by
    simpa [isLReq] using hop
  have hlop : ¬ linkOp h.op.toNat ≠ 0 := by
    have hlow : ∀ k, k < 0x50 → h.op.toNat ≠ k := fun k hk => by omega
    rw [linkOp, if_neg (hlow opRead (by decide)), if_neg (hlow opWrite (by decide)), if_neg (hlow opMasked (by decide)),
      if_neg (hlow opAtomic (by decide)), if_neg (hlow opMailbox (by decide))]
    exact not_not.mpr rfl
  have hred : h.op.toNat ≠ opLReduce := by
    simp only [opLReduce]
    omega
  have heq : exec (.zlRoute stop h) s = .next ((s.takeLink h).forward stop.toNat (s.ingress h) h) :=
    exec_link (execZlRoute.eq_1 ..) hy hl (congrArg Host.Outcome.next ((if_neg (by omega)).trans ((if_neg hlop).trans
      ((if_neg hred).trans ((if_pos (Or.inl hop)).trans (if_neg (hne _ hdst)))))))
  have hsend : (s.takeLink h).sendOn stop.toNat (s.ingress h) h = none := by
    rw [State.sendOn, hk.destPort hdoms, hd]
  have hfiled := (s.takeLink h).discarded_filed stop.toNat h
  have hown' : ((s.takeLink h).discarded stop.toNat h).ownDie = s.ownDie :=
    hfiled.keepsStore.ownDie.trans ((State.ownDie_countDrop _).trans (hk.ownDie hfuses))
  have hcount := ((s.takeLink h).discarded_count stop.toNat h).trans (by rw [hk.get])
  have hid := hfiled.nextId.trans (congrArg (· + 1) hk.nextId)
  have hout : ((s.takeLink h).discarded stop.toNat h).link.out = s.link.out := by
    rw [hfiled.rest]
    exact hk.out
  refine ⟨_, heq, ?_⟩
  rw [State.forward_discards hsend, hop, if_neg (by decide), hown', if_neg (hne _ hsrc)]
  generalize (s.takeLink h).discarded stop.toNat h = u at hcount hid hout
  cases hs : u.sendOn stop.toNat none (u.linkRsp h stUnreachable 0x47 0 0 0) with
  | none => exact ⟨hcount, hid, hout⟩
  | some t =>
    have ht := State.sendOn_keepsOps hs
    exact ⟨(ht.get _).trans hcount, ht.nextId.trans hid, ht.out.trans hout⟩

end Routes

/-! ### A link operation at its destination -/

theorem State.reissue_waiting (s : State) (n : Nat) (h : Header) : (s.reissue n h).mesh.waiting = s.mesh.waiting ++ [{ h with
    op := BitVec.ofNat 8 (formedFrom h.op.toNat), src := BitVec.ofNat 6 n, unit := 0, tag := BitVec.ofNat 6 (s.freeTag n 0), vn := 0,
    dst := BitVec.ofNat 6 (if formedFrom h.op.toNat = opMailbox then kprStop else s.mpStopOf h.addr.toNat) }] := by
  obtain ⟨hk, hwait, hout, -⟩ := s.takeLink_keepsOps h
  have htag : (s.takeLink h).freeTag n 0 = s.freeTag n 0 := by rw [State.freeTag, State.freeTag, hwait, hout]
  have hmp : (s.takeLink h).mpStopOf h.addr.toNat = s.mpStopOf h.addr.toNat := by
    have hget : (s.takeLink h).get = s.get := funext hk.get
    rw [State.mpStopOf, State.mpStopOf, hget]
  rw [State.reissue, htag, hmp]
  exact congrArg (· ++ _) hwait

section Arrivals

variable {s : State} {stop : BitVec 3} {h : Header} (hy : s.yard = true) (hl : s.domLive 8 = true) (hn : stop.toNat < 6)
  (hown : s.ownDie < 512) (hdst : h.dstDie = BitVec.ofNat 9 s.ownDie)
include hy hl hown hdst

omit hy hl in
theorem dstDie_own : h.dstDie.toNat = s.ownDie := by
  rw [hdst, BitVec.toNat_ofNat, Nat.mod_eq_of_lt hown]

omit hy hl in
include hn in
theorem State.arrives_own {op : Nat} (hop : h.op.toNat = op) : s.arrives stop h op = true := by
  rw [State.arrives, hop, dstDie_own hown hdst]
  simp [hn]

include hn in
/-- An atomic that the retained answers show as new is issued. -/
theorem lAtomic_new (hop : h.op.toNat = opLAtomic) (hbusy : s.amoBusy h = false) {e : Nat}
    (he : s.amoRead h.srcDie.toNat h.reqId.toNat = some e) (h31 : bitAt e 31 = false) :
    exec (.lAtomic stop h) s = .next (s.reissue stop.toNat h) := by
  refine exec_link (execLAtomic.eq_1 ..) hy hl (congrArg Host.Outcome.next ((if_pos ⟨State.arrives_own hn hown hdst hop,
    by rw [hbusy]; rfl⟩).trans ?_))
  · rw [State.remoteAtomic, he]
    dsimp only
    rw [h31, if_neg (fun h => Bool.false_ne_true h.1), if_pos (c := (!false) = true ∨ _) (Or.inl rfl)]

include hn in
/-- An atomic whose answer is retained is answered from it and not done again. -/
theorem lAtomic_again (hop : h.op.toNat = opLAtomic) (hbusy : s.amoBusy h = false) {e : Nat}
    (he : s.amoRead h.srcDie.toNat h.reqId.toNat = some e) (h31 : bitAt e 31 = true) (hid : e % 2 ^ 20 = h.reqId.toNat) :
    Gives (.lAtomic stop h) s fun t => t.get Reg.LNK_COUNTS_DUP_ATOMIC =
      min (s.get Reg.LNK_COUNTS_DUP_ATOMIC + 1) (Reg.LNK_COUNTS_DUP_ATOMIC.size - 1) ∧ t.mem = s.mem := by
  obtain ⟨hk, -⟩ := s.takeLink_keepsOps h
  let u := (s.takeLink h).sat Reg.LNK_COUNTS_DUP_ATOMIC 1
  obtain ⟨-, hmem, -, hget⟩ := u.forward_frame stop.toNat none
    (u.linkRsp h (bits e 39 32) 0 (if bits e 39 32 = stOk then 1 else 0) (e / 2 ^ 64) 0)
  refine ⟨_, exec_link (execLAtomic.eq_1 ..) hy hl (congrArg Host.Outcome.next
    ((if_pos ⟨State.arrives_own hn hown hdst hop, by rw [hbusy]; rfl⟩).trans ?_)), ?_, hmem.trans hk.mem⟩
  · rw [State.remoteAtomic, he]
    dsimp only
    rw [if_pos ⟨h31, hid⟩]
  · rw [hget _ (by decide) (by decide) (by decide), State.get_sat_self, hk.get]

end Arrivals

/-! ### Answers to the initiator -/

/-- An answer to the initiator of `q` is queued, with a status and, unless `lf` is 0, the link fault. -/
def State.tellsOrigin (s t : State) (q : Header) (status lf : Nat) : Prop :=
  ∃ p : Header, t.mesh.waiting = s.mesh.waiting ++ [p] ∧ p.dst = q.origStop ∧ p.unit = q.origUnit ∧ p.tag = q.origTag ∧ p.vn = 1 ∧
    p.status.toNat = status ∧ (lf ≠ 0 → p.operand.toNat = lf + 256)

theorem State.answerOrig_answers {s u : State} (hw : u.mesh.waiting = s.mesh.waiting) (q : Header) {status : Nat} (lines data operand : Nat)
    (hs : status < 256) : s.tellsOrigin (u.answerOrig q status lines data operand) q status 0 :=
  ⟨_, congrArg (· ++ _) hw, rfl, rfl, rfl, rfl, (BitVec.toNat_ofNat ..).trans (Nat.mod_eq_of_lt hs), fun h => absurd rfl h⟩

theorem State.faultOrig_answers {s u : State} (hw : u.mesh.waiting = s.mesh.waiting) (q : Header) {code : Nat} (hc : code < 256) :
    s.tellsOrigin (u.faultOrig q code) q stUnreachable code :=
  ⟨_, congrArg (· ++ _) hw, rfl, rfl, rfl, rfl, rfl, fun _ => (BitVec.toNat_ofNat ..).trans (Nat.mod_eq_of_lt (by omega))⟩

theorem State.portStopped_none {s : State} (h : s.stop = none) : s.portStopped = s := by
  rw [State.portStopped, h]

section Answers

variable {s : State} {h : Header} {r : LinkReq}

theorem State.entryFor_takeLink (hr : s.entryFor h = some r) : (s.takeLink h).entryFor h = some r := by
  rw [State.entryFor, (s.takeLink_keepsOps h).1.out]
  exact hr

theorem State.linkAnswer_ok (hr : s.entryFor h = some r) (hlf : h.lfault = 0) (hst : h.status.toNat = stOk) (hstop : s.stop = none) :
    (s.linkAnswer h).link.out = s.link.out.erase r ∧ s.tellsOrigin (s.linkAnswer h) r.h stOk 0 := by
  obtain ⟨hk, hwait, -, -, -, hstop', -⟩ := s.takeLink_keepsOps h
  have heq : s.linkAnswer h = ((s.takeLink h).dropOut r).answerOrig r.h stOk h.len.toNat h.data.toNat h.operand.toNat := by
    rw [State.linkAnswer]
    dsimp only
    rw [State.entryFor_takeLink hr]
    dsimp only
    rw [hlf, if_neg (not_not.mpr rfl), hst, if_pos (by decide)]
    exact State.portStopped_none (s := ((s.takeLink h).dropOut r).answerOrig ..) (hstop'.trans hstop)
  rw [heq]
  exact ⟨congrArg (List.erase · r) hk.out, State.answerOrig_answers (u := (s.takeLink h).dropOut r) hwait r.h _ _ _ (by decide)⟩

theorem State.linkAnswer_fault (hr : s.entryFor h = some r) (hlf : h.lfault ≠ 0) (hstop : s.stop = none) :
    (s.linkAnswer h).link.out = s.link.out.erase r ∧ s.tellsOrigin (s.linkAnswer h) r.h stUnreachable h.lfault.toNat := by
  obtain ⟨hk, hwait, -, -, -, hstop', -⟩ := s.takeLink_keepsOps h
  have heq : s.linkAnswer h = ((s.takeLink h).dropOut r).faultOrig r.h h.lfault.toNat := by
    rw [State.linkAnswer]
    dsimp only
    rw [State.entryFor_takeLink hr]
    dsimp only
    rw [if_pos hlf]
    exact State.portStopped_none (s := ((s.takeLink h).dropOut r).faultOrig ..) (hstop'.trans hstop)
  rw [heq]
  exact ⟨congrArg (List.erase · r) hk.out, State.faultOrig_answers (u := (s.takeLink h).dropOut r) hwait r.h h.lfault.isLt⟩

/-- An entry that is given up is removed, recorded and answered with its link fault. -/
theorem State.giveUp_post {code : Nat} (hcode : (if resends r.h.op.toNat then 0x48 else 0x49) = code) (hstop : s.stop = none) :
    (s.giveUp r).link.out = s.link.out.erase r ∧ (s.giveUp r).conc.nextId = s.conc.nextId + 1 ∧
      s.tellsOrigin (s.giveUp r) r.h stUnreachable code := by
  have hlt : code < 256 := by
    rw [← hcode]
    split <;> decide
  rw [State.giveUp, hcode]
  generalize hu : State.faultC s code _ _ _ _ _ none = u
  have hfiled : s.Filed u 1 := hu ▸ State.faultC_filed ..
  have hlink : u.link = s.link ∧ u.mesh = s.mesh ∧ u.stop = s.stop := by
    rw [hfiled.rest]
    exact ⟨rfl, rfl, rfl⟩
  obtain ⟨hlink, hmesh, hstop'⟩ := hlink
  rw [State.portStopped_none (s := (u.dropOut r).faultOrig r.h code) (hstop'.trans hstop)]
  exact ⟨congrArg (fun l : Link => l.out.erase r) hlink, hfiled.nextId,
    State.faultOrig_answers (u := u.dropOut r) (congrArg Mesh.waiting hmesh) r.h hlt⟩

end Answers

/-! ### A request that is sent again -/

theorem find?_map_replace {p : LinkReq → Bool} {r r' : LinkReq} (hr' : p r' = true) : ∀ {l : List LinkReq}, l.find? p = some r →
    (l.map fun x => if x = r then r' else x).find? p = some r' := by
  intro l
  induction l with
  | nil => exact nofun
  | cons x l ih =>
    intro h
    rw [List.map_cons]
    by_cases hx : x = r
    · rw [if_pos hx, List.find?_cons_of_pos hr']
    · rw [if_neg hx]
      by_cases hp : p x = true
      · rw [List.find?_cons_of_pos hp, Option.some_inj] at h
        exact absurd h hx
      · rw [List.find?_cons_of_neg hp] at h ⊢
        exact ih h

section Resends

variable {s : State} {stop : BitVec 3} {os : BitVec 6} {ou : BitVec 2} {ot : BitVec 6} {r : LinkReq} (hy : s.yard = true)
  (hl : s.domLive 8 = true) (hown : s.ownDie < 512) (hr : s.heldReq stop.toNat os.toNat ou.toNat ot.toNat = some r)
include hy hl hr

theorem remoteResend_early (h : s.time (copyLink stop.toNat) < r.last + max 1 (s.get Reg.LNK_RESEND_T_TICKS)) :
    exec (.remoteResend stop os ou ot) s = .next s := by
  refine exec_link (execRemoteResend.eq_1 ..) hy hl (congrArg Host.Outcome.next ?_)
  rw [hr]
  exact if_pos (Or.inr (by rw [atLeast1_eq]; exact h))

theorem remoteWriteGiveup_early (h : s.time (copyLink stop.toNat) < r.first + 4 * max 1 (s.get Reg.LNK_RESEND_T_TICKS)) :
    exec (.remoteWriteGiveup stop os ou ot) s = .next s := by
  refine exec_link (execRemoteWriteGiveup.eq_1 ..) hy hl (congrArg Host.Outcome.next ?_)
  rw [hr]
  exact if_pos (Or.inr (by rw [atLeast1_eq]; exact h))

theorem remoteResend_givesUp (hop : resends r.h.op.toNat = true)
    (h : r.last + max 1 (s.get Reg.LNK_RESEND_T_TICKS) ≤ s.time (copyLink stop.toNat)) (h3 : 3 ≤ r.resends) :
    exec (.remoteResend stop os ou ot) s = .next (s.giveUp r) := by
  refine exec_link (execRemoteResend.eq_1 ..) hy hl (congrArg Host.Outcome.next ?_)
  rw [hr]
  refine (if_neg ?_).trans (if_pos h3)
  rw [hop, atLeast1_eq]
  rintro (h' | h')
  · exact absurd h' (by decide)
  · exact absurd h' (Nat.not_lt.mpr h)

theorem remoteWriteGiveup_givesUp (hop : resends r.h.op.toNat = false)
    (h : r.first + 4 * max 1 (s.get Reg.LNK_RESEND_T_TICKS) ≤ s.time (copyLink stop.toNat)) :
    exec (.remoteWriteGiveup stop os ou ot) s = .next (s.giveUp r) := by
  refine exec_link (execRemoteWriteGiveup.eq_1 ..) hy hl (congrArg Host.Outcome.next ?_)
  rw [hr]
  refine if_neg ?_
  rw [hop, atLeast1_eq]
  rintro (h' | h')
  · exact absurd h' (by decide)
  · exact absurd h' (Nat.not_lt.mpr h)

include hown in
theorem remoteResend_again (hop : resends r.h.op.toNat = true)
    (h : r.last + max 1 (s.get Reg.LNK_RESEND_T_TICKS) ≤ s.time (copyLink stop.toNat)) (h3 : r.resends < 3)
    (hd : s.destPort r.h.dstDie.toNat = some stop.toNat) (hs : r.h.srcDie = BitVec.ofNat 9 s.ownDie) (ht : r.h.ttl ≠ 0) :
    Gives (.remoteResend stop os ou ot) s fun t => t.get Reg.LNK_COUNTS_RESENDS =
        min (s.get Reg.LNK_COUNTS_RESENDS + 1) (Reg.LNK_COUNTS_RESENDS.size - 1) ∧
      t.heldReq stop.toNat os.toNat ou.toNat ot.toNat =
        some { r with last := s.time (copyLink stop.toNat), resends := r.resends + 1 } ∧
      (t.offers stop.toNat r.h ∨ t.offers stop.toNat { r.h with lclass := !r.h.lclass }) := by
  let r' : LinkReq := { r with last := s.time (copyLink stop.toNat), resends := r.resends + 1 }
  let u : State := { s with link := { s.link with out := s.link.out.map fun x => if x = r then r' else x } }.sat
    Reg.LNK_COUNTS_RESENDS 1
  have hu : u.ownDie = s.ownDie := by
    rw [State.ownDie, State.ownDie, State.get_sat_ne _ _ _ _ (by decide)]
    rfl
  have hroute : u.destPort r.h.dstDie.toNat = some stop.toNat := by
    rw [← hd]
    refine State.destPort_congr (s := s) (t := u) rfl (fun g hg => State.get_sat_ne _ _ _ _ ?_) _
    simp only [Fld.key]
    omega
  have heq : exec (.remoteResend stop os ou ot) s = .next (u.forward stop.toNat none r.h) := by
    refine exec_link (execRemoteResend.eq_1 ..) hy hl (congrArg Host.Outcome.next ?_)
    rw [hr]
    refine (if_neg ?_).trans (if_neg (by omega))
    rw [hop, atLeast1_eq]
    rintro (h' | h')
    · exact absurd h' (by decide)
    · exact absurd h' (Nat.not_lt.mpr h)
  refine ⟨_, heq, ?_⟩
  rw [State.forward_own (s := u) hroute (by rw [hu]; exact hs) (by rw [hu]; exact hown) ht]
  refine ⟨State.get_sat_self .., ?_, State.offerTx_either ..⟩
  exact find?_map_replace (List.find?_some hr :) hr

end Resends

/-! ### Reductions -/

/-- The entry of the reduction table that a first packet makes. -/
def State.newCombine (s : State) (n : Nat) (h : Header) (from_ : Nat) : Combine :=
  ⟨n, h.dstDie.toNat, h.group.toNat, h.addr.toNat, none, [(from_, h)], h.contrib.toNat, s.time (copyLink n)⟩

section Reduce

variable {s : State} {n : Nat} {h : Header} {ing : Option Nat}

theorem State.reduceAt_joins (hv : s.on (Reg.LNK_RED_CFG_VALID h.group.toNat) = true) (hdst : h.dstDie.toNat ≠ s.ownDie)
    (hd : s.destPort h.dstDie.toNat = some n) : s.reduceAt n ing h = s.joinCombine n ing h := by
  rw [State.reduceAt]
  dsimp only
  rw [hv, if_neg (by decide), if_neg hdst, hd]
  exact if_pos rfl

theorem State.combined_other {e : Combine} (hdie : e.die ≠ s.ownDie) (hloc : s.on (Reg.LNK_RED_CFG_LOCAL e.group) = false) :
    s.combined e = decide (s.get (Reg.LNK_RED_CFG_FANIN e.group) ≤ e.got.length) := by
  rw [State.combined]
  dsimp only
  rw [if_neg hdie, hloc]
  simp

/-- The entry for a packet's reduction, of which `old` is the one there is. -/
def State.joined (s : State) (n : Nat) (h : Header) (ing : Option Nat) (old : Option Combine) : Combine :=
  let e := old.getD ⟨n, h.dstDie.toNat, h.group.toNat, h.addr.toNat, none, [], 0, s.time (copyLink n)⟩
  { e with got := e.got ++ [(ing.getD 6, h)], contrib := e.contrib + h.contrib.toNat }

/-- A packet of another die joins its entry, which is closed once complete. -/
theorem State.joinCombine_other {old : Option Combine} (hsrc : h.srcDie.toNat ≠ s.ownDie)
    (hold : (s.link.combine.find? fun e => e.stop == n && e.die == h.dstDie.toNat && e.group == h.group.toNat &&
      e.offset == h.addr.toNat) = old)
    (hroom : ¬ (old.isNone = true ∧ 64 ≤ (s.link.combine.filter fun e => e.stop == n).length)) {u : State}
    (hu : u = { s with link := { s.link with combine := (s.link.combine.filter fun e => !(e.stop == n && e.die == h.dstDie.toNat &&
      e.group == h.group.toNat && e.offset == h.addr.toNat)) ++ [s.joined n h ing old] } }) :
    s.joinCombine n ing h =
      some (if u.combined (s.joined n h ing old) then u.closeCombine (s.joined n h ing old) false else u) := by
  have hown : (h.srcDie.toNat == s.ownDie) = false := by simpa using hsrc
  subst hu
  rw [State.joinCombine]
  dsimp only
  rw [hold, if_neg hroom]
  simp only [hown, Bool.and_false, Bool.false_and, Bool.false_eq_true, if_false]
  rfl

theorem State.joinCombine_first (hsrc : h.srcDie.toNat ≠ s.ownDie) (hdst : h.dstDie.toNat ≠ s.ownDie) (hc : s.link.combine = [])
    (hloc : s.on (Reg.LNK_RED_CFG_LOCAL h.group.toNat) = false) (hfan : 1 < s.get (Reg.LNK_RED_CFG_FANIN h.group.toNat)) :
    s.joinCombine n ing h =
      some { s with link := { s.link with combine := [s.newCombine n h (ing.getD 6)] } } := by
  have hjoined : s.joined n h ing none = s.newCombine n h (ing.getD 6) := by
    simp [State.joined, State.newCombine]
  have hjoin := State.joinCombine_other (s := s) (n := n) (h := h) (ing := ing) (old := none) hsrc (by rw [hc]; rfl)
    (by rw [hc]; exact fun h => absurd h.2 (by simp)) rfl
  rw [hjoined, hc] at hjoin
  refine hjoin.trans (congrArg some (if_neg ?_))
  rw [State.combined_other (by exact hdst) (by exact hloc)]
  have hfan : ¬ s.get (Reg.LNK_RED_CFG_FANIN h.group.toNat) ≤ 1 := by omega
  exact fun h => hfan (of_decide_eq_true h)

/-- The second packet of a reduction of two closes it. -/
theorem State.joinCombine_second {p : Nat} {g : Header} (hsrc : h.srcDie.toNat ≠ s.ownDie) (hdst : h.dstDie.toNat ≠ s.ownDie)
    (hc : s.link.combine = [⟨n, h.dstDie.toNat, h.group.toNat, h.addr.toNat, none, [(p, g)], g.contrib.toNat, s.time (copyLink n)⟩])
    (hloc : s.on (Reg.LNK_RED_CFG_LOCAL h.group.toNat) = false) (hfan : s.get (Reg.LNK_RED_CFG_FANIN h.group.toNat) = 2) :
    let e : Combine := ⟨n, h.dstDie.toNat, h.group.toNat, h.addr.toNat, none, [(p, g), (ing.getD 6, h)],
      g.contrib.toNat + h.contrib.toNat, s.time (copyLink n)⟩
    s.joinCombine n ing h = some ({ s with link := { s.link with combine := [] } }.forward n none (e.packet (s.redBf h.group.toNat))) := by
  intro e
  let e0 : Combine := ⟨n, h.dstDie.toNat, h.group.toNat, h.addr.toNat, none, [(p, g)], g.contrib.toNat, s.time (copyLink n)⟩
  have hjoined : s.joined n h ing (some e0) = e := rfl
  have hjoin := State.joinCombine_other (s := s) (n := n) (h := h) (ing := ing) (old := some e0) hsrc
    (by rw [hc]; exact List.find?_cons_of_pos (by simp)) (by simp) rfl
  rw [hjoined, hc] at hjoin
  have hnil : (List.filter (fun e : Combine => !(e.stop == n && e.die == h.dstDie.toNat && e.group == h.group.toNat &&
      e.offset == h.addr.toNat)) [e0]) ++ [e] = [e] := by simp [e0]
  rw [hnil] at hjoin
  refine hjoin.trans (congrArg some ((if_pos ?_).trans ?_))
  · rw [State.combined_other (by exact hdst) (by exact hloc)]
    exact decide_eq_true (by exact Nat.le_of_eq hfan)
  · rw [State.closeCombine]
    refine (if_neg (by exact hdst)).trans ?_
    rw [State.dropCombine]
    dsimp only
    rw [List.erase_cons_head]
    rfl

end Reduce

/-! ### The sum of a reduction -/

/-- A digit of a number that is written from its lowest one up. -/
theorem foldr_digit {w : Nat} (f : Nat → Nat) : ∀ (l : List Nat) (i : Nat) (hi : i < l.length), (∀ k ∈ l, f k < 2 ^ w) →
    l.foldr (fun k a => f k + 2 ^ w * a) 0 / 2 ^ (w * i) % 2 ^ w = f l[i] := by
  intro l
  induction l with
  | nil => exact fun i hi => absurd hi (by simp)
  | cons x l ih =>
    intro i hi h
    have hx : f x < 2 ^ w := h x List.mem_cons_self
    rw [List.foldr_cons]
    cases i with
    | zero => rw [Nat.mul_zero, Nat.pow_zero, Nat.div_one, Nat.add_mul_mod_self_left, Nat.mod_eq_of_lt hx, List.getElem_cons_zero]
    | succ i =>
      rw [Nat.mul_succ, Nat.add_comm (w * i) w, Nat.pow_add, ← Nat.div_div_eq_div_mul, Nat.add_mul_div_left _ _ (Nat.two_pow_pos w),
        Nat.div_eq_of_lt hx, Nat.zero_add, List.getElem_cons_succ]
      exact ih i (by simpa using hi) fun k hk => h k (List.mem_cons_of_mem x hk)

theorem foldr_digits_lt {w : Nat} (f : Nat → Nat) (l : List Nat) (h : ∀ k ∈ l, f k < 2 ^ w) :
    l.foldr (fun k a => f k + 2 ^ w * a) 0 < 2 ^ (w * l.length) := by
  induction l with
  | nil => exact Nat.two_pow_pos _
  | cons x l ih =>
    have hx : f x < 2 ^ w := h x List.mem_cons_self
    have hl := ih fun k hk => h k (List.mem_cons_of_mem x hk)
    rw [List.foldr_cons, List.length_cons, Nat.mul_succ, Nat.pow_add, Nat.mul_comm (2 ^ (w * l.length))]
    calc f x + 2 ^ w * l.foldr (fun k a => f k + 2 ^ w * a) 0 < 2 ^ w + 2 ^ w * l.foldr (fun k a => f k + 2 ^ w * a) 0 := by omega
      _ = 2 ^ w * (l.foldr (fun k a => f k + 2 ^ w * a) 0 + 1) := by rw [Nat.mul_succ, Nat.add_comm]
      _ ≤ 2 ^ w * 2 ^ (w * l.length) := Nat.mul_le_mul_left _ hl

theorem ordered_two {p f : Nat} (g h : Header) (hpf : p < f) (hf : f ≤ 6) :
    (List.range 7).flatMap (fun k => ([(p, g), (f, h)].filter fun x => x.1 == k).map (·.2)) = [g, h] := by
  interval_cases f <;> interval_cases p <;> rfl

theorem redSum_lt (hs : List Header) (i : Nat) : redSum false hs i < 2 ^ 32 := by
  unfold redSum
  cases hs with
  | nil => exact Nat.two_pow_pos 32
  | cons h r => exact BitVec.isLt _

section Packet

variable {e : Combine} {g h : Header} {p f : Nat} (hown : e.own = none) (hgot : e.got = [(p, g), (f, h)]) (hpf : p < f) (hf : f ≤ 6)
include hown hgot hpf hf

theorem Combine.ordered_pair : e.ordered = [g, h] := by
  rw [Combine.ordered, hown, hgot]
  exact ordered_two g h hpf hf

theorem Combine.sum_lines (bf : Bool) : (e.sum bf).1 = max g.len.toNat h.len.toNat := by
  rw [Combine.sum, Combine.ordered_pair hown hgot hpf hf]
  exact congrArg (max · _) (Nat.zero_max _)

/-- The packet of a reduction of two FP32 operands carries the sums of their elements. -/
theorem Combine.packet_data (hlen : max g.len.toNat h.len.toNat ≤ 8) {i : Nat} (hi : i < 16 * max g.len.toNat h.len.toNat) :
    (e.packet false).data.toNat / 2 ^ (32 * i) % 2 ^ 32 = redSum false [g, h] i := by
  have hlines := Combine.sum_lines hown hgot hpf hf false
  generalize max g.len.toNat h.len.toNat = m at hlines hlen hi
  have hcount : 512 * m / 32 = 16 * m := by omega
  have hsum : (e.sum false).2 = (List.range (16 * m)).foldr (fun i a => redSum false [g, h] i + 2 ^ 32 * a) 0 := by
    rw [← hcount, ← hlines]
    rw [Combine.sum, Combine.ordered_pair hown hgot hpf hf]
    rfl
  have hlt : (e.sum false).2 < 2 ^ 4096 := by
    rw [hsum]
    refine Nat.lt_of_lt_of_le (foldr_digits_lt _ _ fun k _ => redSum_lt _ k) (Nat.pow_le_pow_right (by decide) ?_)
    rw [List.length_range]
    omega
  rw [Combine.packet, BitVec.toNat_ofNat, Nat.mod_eq_of_lt hlt, hsum,
    foldr_digit _ _ i (by rw [List.length_range]; exact hi) fun k _ => redSum_lt _ k, List.getElem_range]

/-- The packet of two operands has the header of the one that came by the lower port. -/
theorem Combine.packet_pair (bf : Bool) : e.packet bf = { g with
    len := BitVec.ofNat 4 (max g.len.toNat h.len.toNat), count := BitVec.ofNat 4 (max g.len.toNat h.len.toNat),
    contrib := BitVec.ofNat 16 e.contrib, data := (e.packet bf).data } := by
  rw [Combine.packet, Combine.ordered_pair hown hgot hpf hf, Combine.sum_lines hown hgot hpf hf]
  rfl

/-- The sum of two operands leaves by the port that serves its destination. -/
theorem Combine.packet_sent {u : State} {n : Nat} (bf : Bool) (hc : e.contrib = g.contrib.toNat + h.contrib.toNat)
    (hd : u.destPort g.dstDie.toNat = some n) (hsrc : g.srcDie.toNat ≠ u.ownDie) (httl : 1 < g.ttl.toNat) :
    ∃ q ∈ ((u.forward n none (e.packet bf)).port n).waiting, q.dstDie = g.dstDie ∧ q.contrib = g.contrib + h.contrib ∧
      q.len = BitVec.ofNat 4 (max g.len.toNat h.len.toNat) ∧ q.data = (e.packet bf).data := by
  have hpair := Combine.packet_pair hown hgot hpf hf bf
  generalize e.packet bf = m at hpair
  have hdst : m.dstDie = g.dstDie := by rw [hpair]
  have hms : u.sendTtl m = g.ttl.toNat - 1 := by
    rw [hpair]
    exact if_neg hsrc
  rw [State.forward_here (by rw [hdst]; exact hd) (by rw [hms]; omega)]
  refine ⟨_, State.offers_waiting (State.offerTx_offers ..) (linkVc_lt _), hdst, ?_, ?_, rfl⟩
  · rw [hpair]
    change BitVec.ofNat 16 e.contrib = _
    rw [hc, BitVec.ofNat_add, BitVec.ofNat_toNat, BitVec.ofNat_toNat, BitVec.setWidth_eq, BitVec.setWidth_eq]
  · rw [hpair]

end Packet

/-! ### The reduction table's end of wait -/

theorem State.recordX_link (s : State) (unit src cid : Nat) (qid : Option Nat) (e : XErr) :
    (s.recordX unit src cid qid e).link = s.link ∧ (s.recordX unit src cid qid e).conc.nextId = s.conc.nextId + 1 := by
  obtain ⟨c, v, n, he, hid⟩ := s.recordX_shape unit src cid qid e
  rw [he]
  exact ⟨rfl, hid⟩

theorem State.refusedRec_link (s : State) (cid : Nat) (qid : Option Nat) (pa : Nat) :
    (s.refusedRec cid qid pa).link = s.link ∧ s.conc.nextId ≤ (s.refusedRec cid qid pa).conc.nextId := by
  unfold State.refusedRec
  split
  · exact ⟨(s.recordX_link ..).1, by rw [(s.recordX_link ..).2]; omega⟩
  · exact ⟨(s.recordX_link ..).1, by rw [(s.recordX_link ..).2]; omega⟩

/-- What a reduction's root writes when its wait is over. -/
theorem State.rootWrite_post (s : State) (e : Combine) :
    (s.rootWrite e true).link.combine = s.link.combine.erase e ∧
    (s.rootWrite e true).link.written = s.link.written ++ [(e.group, e.offset)] ∧
    s.conc.nextId + 1 ≤ (s.rootWrite e true).conc.nextId := by
  rw [State.rootWrite]
  dsimp only
  rw [if_pos rfl]
  generalize hu : ({ s.dropCombine e with link := _ } : State) = u
  have hpost : u.link.combine = s.link.combine.erase e ∧ u.link.written = s.link.written ++ [(e.group, e.offset)] ∧
      u.conc.nextId = s.conc.nextId := by
    rw [← hu]
    exact ⟨rfl, rfl, rfl⟩
  obtain ⟨hcombine, hwritten, hid⟩ := hpost
  have hend : ∀ v : State, v.link = u.link ∧ u.conc.nextId ≤ v.conc.nextId →
      (v.redFault e.stop e.group e.offset).link.combine = s.link.combine.erase e ∧
      (v.redFault e.stop e.group e.offset).link.written = s.link.written ++ [(e.group, e.offset)] ∧
      s.conc.nextId + 1 ≤ (v.redFault e.stop e.group e.offset).conc.nextId := by
    rintro v ⟨hlink, hle⟩
    have hfiled : v.Filed (v.redFault e.stop e.group e.offset) 1 := State.fault_filed ..
    have hl : (v.redFault e.stop e.group e.offset).link = v.link := by rw [hfiled.rest]
    rw [hl, hlink, hfiled.nextId]
    exact ⟨hcombine, hwritten, by omega⟩
  have hbytes : ∀ v w : State, w.sansBytes = v.sansBytes → w.link = v.link ∧ w.conc.nextId = v.conc.nextId := fun _ _ h =>
    ⟨(congrArg State.link h :), (congrArg (fun u : State => u.conc.nextId) h :)⟩
  refine hend _ ?_
  split
  · exact u.refusedRec_link ..
  · next w hw =>
    obtain ⟨hlink, hnext⟩ := hbytes u w (State.ownWrite_sansBytes hw)
    split
    · obtain ⟨hlink', hnext'⟩ := w.refusedRec_link (s.get (Reg.LNK_RED_CFG_CID e.group)) none
        (s.get (Reg.LNK_RED_DONE_DONE_PA e.group) * 8)
      exact ⟨hlink'.trans hlink, hnext ▸ hnext'⟩
    · have hput : ∀ a x, (w.physPutLe a 8 x).link = u.link ∧ u.conc.nextId ≤ (w.physPutLe a 8 x).conc.nextId := by
        intro a x
        obtain ⟨hlink', hnext'⟩ := hbytes w _ (State.physPutLe_sansBytes w a 8 x)
        exact ⟨hlink'.trans hlink, by rw [hnext', hnext]⟩
      exact hput _ _

section Tables

variable {s : State} {stop : BitVec 3} (hy : s.yard = true) (hl : s.domLive 8 = true)
include hy hl

theorem lReduce_joins {h : Header} (hn : stop.toNat < 6) (hop : h.op.toNat = opLReduce)
    (hv : s.on (Reg.LNK_RED_CFG_VALID h.group.toNat) = true) (hdst : h.dstDie.toNat ≠ s.ownDie)
    (hd : s.destPort h.dstDie.toNat = some stop.toNat) :
    exec (.lReduce stop h) s = .next (((s.takeLink h).joinCombine stop.toNat (s.ingress h) h).getD s) := by
  obtain ⟨hk, -, -, hfuses, hdoms, -⟩ := s.takeLink_keepsOps h
  refine exec_link (execLReduce.eq_1 ..) hy hl (congrArg Host.Outcome.next ((if_neg ?_).trans ?_))
  · rintro (h | h)
    · exact h hop
    · omega
  · rw [State.reduceAt_joins (by rw [State.on, hk.get]; exact hv) (by rw [hk.ownDie hfuses]; exact hdst)
      (by rw [hk.destPort hdoms]; exact hd)]

theorem reduceWaitExpire_early {die : BitVec 9} {group : BitVec 8} {offset : BitVec 17} {e : Combine}
    (he : (s.link.combine.find? fun e => e.stop == stop.toNat && e.die == die.toNat && e.group == group.toNat &&
      e.offset == offset.toNat) = some e)
    (h : s.time (copyLink stop.toNat) < e.since + max 1 (s.get Reg.LNK_RED_WAIT_TICKS)) :
    exec (.reduceWaitExpire stop die group offset) s = .next s := by
  refine exec_link (execReduceWaitExpire.eq_1 ..) hy hl (congrArg Host.Outcome.next ?_)
  rw [he]
  exact if_pos (by rw [atLeast1_eq]; exact h)

theorem reduceWaitExpire_closes {die : BitVec 9} {group : BitVec 8} {offset : BitVec 17} {e : Combine} (hown : s.ownDie < 512)
    (he : (s.link.combine.find? fun e => e.stop == stop.toNat && e.die == die.toNat && e.group == group.toNat &&
      e.offset == offset.toNat) = some e)
    (h : e.since + max 1 (s.get Reg.LNK_RED_WAIT_TICKS) ≤ s.time (copyLink stop.toNat)) :
    Gives (.reduceWaitExpire stop die group offset) s fun t =>
      t.link.combine = s.link.combine.erase e ∧ (die = BitVec.ofNat 9 s.ownDie →
        t.link.written = s.link.written ++ [(group.toNat, offset.toNat)] ∧ s.conc.nextId + 1 ≤ t.conc.nextId) := by
  have hkey := List.find?_some he
  simp only [Bool.and_eq_true, beq_iff_eq] at hkey
  obtain ⟨⟨⟨-, hdie⟩, hgroup⟩, hoff⟩ := hkey
  have heq : exec (.reduceWaitExpire stop die group offset) s = .next (s.closeCombine e true) := by
    refine exec_link (execReduceWaitExpire.eq_1 ..) hy hl (congrArg Host.Outcome.next ?_)
    rw [he]
    exact if_neg (by rw [atLeast1_eq]; exact Nat.not_lt.mpr h)
  refine ⟨_, heq, ?_⟩
  rw [State.closeCombine]
  split
  · obtain ⟨hcombine, hwritten, hid⟩ := s.rootWrite_post e
    exact ⟨hcombine, fun _ => ⟨by rw [hwritten, hgroup, hoff], hid⟩⟩
  · next hne =>
    refine ⟨(State.forward_frame ..).1, fun hd => absurd ?_ hne⟩
    rw [hdie, hd, BitVec.toNat_ofNat, Nat.mod_eq_of_lt hown]

end Tables

theorem getLast?_append_getD {α : Type} (l : List α) (x d : α) : (l ++ [x]).getLast?.getD d = x := by simp

/-- Settles O43: a request that becomes a link operation, an operation at its destination, the answers, what is sent again or given
up, and the reductions. -/
theorem linkPackets : Obligations.LinkPackets := by
  unfold Obligations.LinkPackets
  intro s stop h hy hl hn hown n op own l now sat offered issued either answered
  have hanswered : ∀ t q status lf, s.tellsOrigin t q status lf → answered t q status lf := by
    rintro t q status lf ⟨p, hw, hp⟩
    have hlast : t.mesh.waiting.getLast?.getD h = p := by rw [hw, getLast?_append_getD]
    change t.mesh.waiting = s.mesh.waiting ++ [t.mesh.waiting.getLast?.getD h] ∧ (t.mesh.waiting.getLast?.getD h).dst = _ ∧ _
    rw [hlast]
    exact ⟨hw, hp⟩
  have hissued : ∀ o dst, formedFrom h.op.toNat = o → (if o = opMailbox then kprStop else s.mpStopOf h.addr.toNat) = dst →
      issued (s.reissue n h) o dst := by
    rintro o dst rfl rfl
    exact s.reissue_waiting n h
  have hne : ∀ d : BitVec 9, d ≠ own → d.toNat ≠ s.ownDie := fun d hne he =>
    hne (by change d = BitVec.ofNat 9 s.ownDie; rw [← he, BitVec.ofNat_toNat, BitVec.setWidth_eq])
  refine ⟨fun hop hred hlen hd h0 h32 => ?_, fun hop hdst hsrc hd => zlRoute_discards hy hl hn hown hop hdst hsrc hd,
    fun hdst => ?_, fun os ou ot r hr hstop => ?_, fun hop hdst hsrc hv hloc hd => ?_, fun die group offset e he => ?_⟩
  · refine (zlRoute_originates hy hl hn hown hop hred hlen hd h0 h32).mono ?_
    rintro t ⟨hout, hoff⟩
    have hlast : t.link.out.getLast?.getD ⟨h, 0, 0, 0⟩ = ⟨s.linkFormed n h, now, now, 0⟩ := by rw [hout, getLast?_append_getD]
    dsimp only
    rw [hlast]
    refine ⟨hout, rfl, rfl, rfl, ?_, ?_, rfl, rfl, rfl, rfl, ?_, rfl, rfl, hoff⟩
    · have hlop : linkOp op < 256 := by rcases hop with h | h | h <;> rw [h] <;> decide
      exact (BitVec.toNat_ofNat ..).trans (Nat.mod_eq_of_lt hlop)
    · exact (BitVec.toNat_ofNat ..).trans (Nat.mod_eq_of_lt (Nat.mod_lt _ (by decide)))
    · exact (BitVec.ofNat_toNat ..).trans (BitVec.setWidth_eq ..)
  · have hat := fun (o : Nat) (ho : h.op.toNat = o) => State.arrives_own hn hown hdst ho
    have hdie : h.dstDie.toNat = s.ownDie := dstDie_own hown hdst
    refine ⟨fun ho => ?_, fun ho => ?_, fun ho => ?_, fun ho => ?_, fun ho hbusy e he => ⟨fun h31 => ?_, fun h31 hid => ?_⟩,
      fun r hr hlf hst hstop => ⟨fun ho => ?_, fun ho => ?_⟩, fun r hr hlf hstop ho => ?_⟩
    · exact ⟨_, exec_link (execLRead.eq_1 ..) hy hl (congrArg _ (if_pos (hat _ ho))), hissued _ _ (congrArg formedFrom ho) rfl⟩
    · exact ⟨_, exec_link (execLWrite.eq_1 ..) hy hl (congrArg _ (if_pos (hat _ ho))), hissued _ _ (congrArg formedFrom ho) rfl⟩
    · exact ⟨_, exec_link (execLWriteMasked.eq_1 ..) hy hl (congrArg _ (if_pos (hat _ ho))),
        hissued _ _ (congrArg formedFrom ho) rfl⟩
    · exact ⟨_, exec_link (execLMboxSend.eq_1 ..) hy hl (congrArg _ (if_pos (hat _ ho))), hissued _ _ (congrArg formedFrom ho) rfl⟩
    · exact ⟨_, lAtomic_new hy hl hn hown hdst ho hbusy he h31, hissued _ _ (congrArg formedFrom ho) rfl⟩
    · exact lAtomic_again hy hl hn hown hdst ho hbusy he h31 hid
    · obtain ⟨hout, htell⟩ := State.linkAnswer_ok hr hlf hst hstop
      exact ⟨_, exec_link (execLRspData.eq_1 ..) hy hl (congrArg _ (if_pos ⟨ho, hdie⟩)), hout, hanswered _ _ _ _ htell⟩
    · obtain ⟨hout, htell⟩ := State.linkAnswer_ok hr hlf hst hstop
      exact ⟨_, exec_link (execLRspAck.eq_1 ..) hy hl (congrArg _ (if_pos ⟨ho, hdie⟩)), hout, hanswered _ _ _ _ htell⟩
    · obtain ⟨hout, htell⟩ := State.linkAnswer_fault hr hlf hstop
      exact ⟨_, exec_link (execLRspAck.eq_1 ..) hy hl (congrArg _ (if_pos ⟨ho, hdie⟩)), hout, hanswered _ _ _ _ htell⟩
  · refine ⟨fun hres ht => ⟨s, remoteResend_early hy hl hr ht, rfl⟩, fun hres ht => ⟨s, remoteWriteGiveup_early hy hl hr ht, rfl⟩,
      fun hres ht => ⟨fun h3 hd hs httl => remoteResend_again hy hl hown hr hres ht h3 hd hs httl, fun h3 => ?_⟩, fun hres ht => ?_⟩
    · obtain ⟨hout, hid, htell⟩ := State.giveUp_post (r := r) (code := 0x48) (by rw [hres]; rfl) hstop
      exact ⟨_, remoteResend_givesUp hy hl hr hres ht h3, hout, hid, hanswered _ _ _ _ htell⟩
    · obtain ⟨hout, hid, htell⟩ := State.giveUp_post (r := r) (code := 0x49) (by rw [hres]; rfl) hstop
      exact ⟨_, remoteWriteGiveup_givesUp hy hl hr hres ht, hout, hid, hanswered _ _ _ _ htell⟩
  · obtain ⟨hk, -, -, hfuses, hdoms, -, htime, hcopies⟩ := s.takeLink_keepsOps h
    have heq := lReduce_joins hy hl hn hop hv (hne _ hdst) hd
    have hon : ∀ f, (s.takeLink h).on f = s.on f := fun f => by rw [State.on, State.on, hk.get]
    have hown' := hk.ownDie hfuses
    have hnow : (s.takeLink h).time (copyLink n) = now := by rw [State.time, htime, hcopies]; rfl
    refine ⟨fun hc hfan => ?_, fun g p hc hfan hpf hg hgs httl hf => ?_⟩
    · have hjoin := State.joinCombine_first (s := s.takeLink h) (n := n) (ing := s.ingress h) (by rw [hown']; exact hne _ hsrc)
        (by rw [hown']; exact hne _ hdst) (hk.combine.trans hc) ((hon _).trans hloc) (by rw [hk.get]; exact hfan)
      rw [hjoin] at heq
      refine ⟨_, heq, ?_⟩
      change [(s.takeLink h).newCombine n h _] = _
      rw [State.newCombine, hnow]
    · have hjoin := State.joinCombine_second (s := s.takeLink h) (n := n) (ing := s.ingress h) (by rw [hown']; exact hne _ hsrc)
        (by rw [hown']; exact hne _ hdst) (by rw [hnow]; exact hk.combine.trans hc) ((hon _).trans hloc)
        (by rw [hk.get]; exact hfan)
      dsimp only at hjoin
      rw [hjoin] at heq
      have hu : ∀ u : State, u = { s.takeLink h with link := { (s.takeLink h).link with combine := [] } } →
          u.destPort g.dstDie.toNat = some n ∧ u.ownDie = s.ownDie := by
        rintro u rfl
        refine ⟨?_, hown'⟩
        rw [hg, ← hd]
        exact hk.destPort hdoms _
      obtain ⟨hroute, hdie⟩ := hu _ rfl
      obtain ⟨q, hq, hqd, hqc, hql, hqdata⟩ := Combine.packet_sent
        (e := ⟨n, h.dstDie.toNat, h.group.toNat, h.addr.toNat, none, [(p, g), ((s.ingress h).getD 6, h)],
          g.contrib.toNat + h.contrib.toNat, (s.takeLink h).time (copyLink n)⟩) rfl rfl hpf hf
        ((s.takeLink h).redBf h.group.toNat) rfl hroute (by rw [hdie]; exact hne _ hgs) httl
      refine ⟨_, heq, (State.forward_frame ..).1, q, hq, hqd.trans hg, hqc, hql, fun hbf hlen i hi => ?_⟩
      rw [hqdata, State.redBf, hon, show s.on (Reg.LNK_RED_CFG_FORMAT h.group.toNat) = false from hbf]
      exact Combine.packet_data rfl rfl hpf hf hlen hi
  · exact ⟨fun ht => ⟨s, reduceWaitExpire_early hy hl he ht, rfl⟩, fun ht => reduceWaitExpire_closes hy hl hown he ht⟩

end Sys2Proof.Machine

namespace Sys2Proof.Machine

/-! ## The DBG block and the alarms (spec chapter 16, R647-R664) -/

/-! ### What a halt, a resume and a command do -/

section Tiles

variable (s : State) (n : Nat)

/-- One tile changes by `f`; the other tiles and the registers stay. -/
def State.TileGoes (t : State) (f : Tile → Tile) : Prop :=
  t.tile n = f (s.tile n) ∧ (∀ k, k ≠ n → t.tile k = s.tile k) ∧ t.regs = s.regs

variable {s n}

theorem State.updTile_goes {u : State} (f : Tile → Tile) (ht : u.tiles = s.tiles) (hr : u.regs = s.regs) :
    s.TileGoes n (u.updTile n f) f := by
  have htile : u.tile = s.tile := by
    funext k
    rw [State.tile, State.tile, ht]
  exact ⟨(State.tile_updTile_self ..).trans (by rw [htile]), fun k hk => (State.tile_updTile_ne _ _ _ _ hk).trans (by rw [htile]), hr⟩

theorem State.TileGoes.trans {t u : State} {f g : Tile → Tile} (h : s.TileGoes n t f) (h' : t.TileGoes n u g) :
    s.TileGoes n u (g ∘ f) :=
  ⟨h'.1.trans (congrArg g h.1), fun k hk => (h'.2.1 k hk).trans (h.2.1 k hk), h'.2.2.trans h.2.2⟩

variable (s n)

theorem State.haltTile_goes (cause : Nat) :
    s.TileGoes n (s.haltTile n cause) fun x => { x with halted := true, haltCause := cause, stepping := false } := by
  unfold State.haltTile
  dsimp only
  split <;> exact State.updTile_goes _ rfl rfl

theorem State.unhaltTile_goes :
    s.TileGoes n (s.unhaltTile n) fun x => { x with halted := false, bpSkip := x.haltCause == 3, haltCause := 0 } := by
  unfold State.unhaltTile
  dsimp only
  split <;> exact State.updTile_goes _ rfl rfl

theorem State.dbgResult_get {r : Nat} (h : r < 256) : (s.dbgResult r).get Reg.DBG_STATUS_RESULT = r :=
  (State.get_put_self ..).trans (Nat.mod_eq_of_lt h)

/-- The state in which a debug command is under way. -/
def State.dbgTaken : State := (s.put Reg.DBG_CMD_TILE n).put Reg.DBG_STATUS_BUSY 1

theorem State.dbgTaken_get {g : Fld} (h1 : g.key ≠ Reg.DBG_CMD_TILE.key) (h2 : g.key ≠ Reg.DBG_STATUS_BUSY.key) :
    (s.dbgTaken n).get g = s.get g := (State.get_put_ne _ _ _ _ h2).trans (State.get_put_ne _ _ _ _ h1)

theorem State.dbgTaken_inScope (k : Nat) : (s.dbgTaken n).inScope k = s.inScope k := by
  have hpart : ∀ p, (s.dbgTaken n).partClusters p = s.partClusters p := fun p => by
    rw [State.partClusters, State.partClusters, State.partValid, State.partValid, State.on, State.on,
      s.dbgTaken_get n (by simp only [Fld.key]; omega) (by simp only [Fld.key]; omega), s.dbgTaken_get n
        (by simp only [Fld.key, Reg.OBJ_PART_CFG, Reg.DBG_CMD]; omega) (by simp only [Fld.key, Reg.OBJ_PART_CFG, Reg.DBG_STATUS]; omega)]
    rfl
  rw [State.inScope, State.inScope, State.on, State.on, State.eng, State.eng, s.dbgTaken_get n (by decide) (by decide),
    s.dbgTaken_get n (by decide) (by decide), s.dbgTaken_get n (by decide) (by decide)]
  simp only [hpart]
  rfl

end Tiles

section Commands

variable {s : State} {n cmd : Nat}

theorem State.dbgCmd_ignored (h : s.dbgOn = false ∨ s.get Reg.DBG_STATUS_BUSY = 1) : s.dbgCmd n cmd = s := by
  rw [State.dbgCmd]
  refine if_pos ?_
  rcases h with h | h
  · exact Or.inl (by rw [h]; rfl)
  · exact Or.inr (State.on_of_one h)

variable (hon : s.dbgOn = true) (hbusy : s.get Reg.DBG_STATUS_BUSY = 0) (h1 : 1 ≤ cmd) (h5 : cmd ≤ 5)
include hon hbusy h1 h5

theorem State.dbgCmd_runs : s.dbgCmd n cmd =
    if (!(s.inScope n)) = true then (s.dbgTaken n).dbgResult dOutOfScope
    else if cmd = 1 then (s.dbgTaken n).dbgHalt n
    else if (!((s.tile n).halted)) = true then (s.dbgTaken n).dbgResult dNotHalted
    else if cmd = 2 then (s.dbgTaken n).dbgResume n
    else if cmd = 3 then (s.dbgTaken n).dbgStep n
    else if cmd = 4 then (s.dbgTaken n).dbgRead n
    else (s.dbgTaken n).dbgWrite n := by
  rw [State.dbgCmd]
  refine (if_neg ?_).trans ((if_neg (by omega)).trans ?_)
  · rw [hon, State.on_of_zero hbusy]
    decide
  · exact if_congr (by rw [← s.dbgTaken_inScope n n]; rfl) rfl rfl

theorem State.dbgCmd_outOfScope (hs : s.inScope n = false) : s.dbgCmd n cmd = (s.dbgTaken n).dbgResult dOutOfScope := by
  rw [State.dbgCmd_runs hon hbusy h1 h5, hs]
  exact if_pos rfl

theorem State.dbgCmd_notHalted (hs : s.inScope n = true) (h2 : cmd ≠ 1) (hh : (s.tile n).halted = false) :
    s.dbgCmd n cmd = (s.dbgTaken n).dbgResult dNotHalted := by
  rw [State.dbgCmd_runs hon hbusy h1 h5, hs, hh, if_neg (by decide), if_neg h2]
  exact if_pos rfl

theorem State.dbgCmd_halted (hs : s.inScope n = true) (h2 : cmd ≠ 1) (hh : (s.tile n).halted = true) :
    s.dbgCmd n cmd = if cmd = 2 then (s.dbgTaken n).dbgResume n else if cmd = 3 then (s.dbgTaken n).dbgStep n
      else if cmd = 4 then (s.dbgTaken n).dbgRead n else (s.dbgTaken n).dbgWrite n := by
  rw [State.dbgCmd_runs hon hbusy h1 h5, hs, hh, if_neg (by decide), if_neg h2]
  exact if_neg (by decide)

end Commands

section Results

variable {s : State} {n : Nat} {f : Tile → Tile}

/-- A command that is done shows it, and its tile has changed as it says. -/
theorem State.TileGoes.done {t : State} (h : (s.dbgTaken n).TileGoes n t f) :
    (t.dbgResult dDone).get Reg.DBG_STATUS_RESULT = dDone ∧ (t.dbgResult dDone).tile n = f (s.tile n) ∧
      ∀ k, k ≠ n → (t.dbgResult dDone).tile k = s.tile k :=
  ⟨State.dbgResult_get _ (by decide), h.1, h.2.1⟩

theorem State.dbgStep_taken (h : (s.tile n).task ≠ none) : (s.dbgTaken n).dbgStep n =
    (((s.dbgTaken n).unhaltTile n).updTile n fun x => { x with stepping := true }).dbgResult dDone := by
  rw [State.dbgStep]
  refine congrArg (State.dbgResult · dDone) (if_neg ?_)
  change ¬ (s.tile n).task.isNone = true
  simpa using h

theorem State.dbgTaken_addr (s : State) (n : Nat) : (s.dbgTaken n).dbgAddr = (s.on Reg.DBG_ADDR_SPACE, 8 * s.get Reg.DBG_ADDR_OFFSET) := by
  rw [State.dbgAddr, State.on, State.on, s.dbgTaken_get n (by decide) (by decide), s.dbgTaken_get n (by decide) (by decide)]

theorem State.dbgTaken_store (h : s.on Reg.DBG_ADDR_SPACE = true) : (s.dbgTaken n).dbgAddrOk = true := by
  rw [State.dbgAddrOk, State.dbgTaken_addr, h]
  rfl

theorem State.dbgTaken_badAddr (h : s.on Reg.DBG_ADDR_SPACE = false) (ho : 0x30000 ≤ 8 * s.get Reg.DBG_ADDR_OFFSET) :
    (s.dbgTaken n).dbgAddrOk = false := by
  rw [State.dbgAddrOk, State.dbgTaken_addr, h]
  simpa using ho

theorem State.dbgRead_store (h : s.on Reg.DBG_ADDR_SPACE = true) : (s.dbgTaken n).dbgRead n =
    ((s.dbgTaken n).put Reg.DBG_DATA_DATA ((s.tile n).rdLe (8 * s.get Reg.DBG_ADDR_OFFSET) 8)).dbgResult dDone := by
  rw [State.dbgRead, State.dbgTaken_store h, if_pos rfl, State.dbgTaken_addr, h]
  rfl

theorem State.dbgWrite_store (h : s.on Reg.DBG_ADDR_SPACE = true) : (s.dbgTaken n).dbgWrite n =
    ((s.dbgTaken n).updTile n fun x => x.wrLe (8 * s.get Reg.DBG_ADDR_OFFSET) 8 (s.get Reg.DBG_DATA_DATA)).dbgResult dDone := by
  rw [State.dbgWrite, State.dbgTaken_store h, if_pos rfl, State.dbgTaken_addr, h, s.dbgTaken_get n (by decide) (by decide)]
  simp only [Tile.dbgWrite, if_true]

theorem State.dbgRead_bad (h : s.on Reg.DBG_ADDR_SPACE = false) (ho : 0x30000 ≤ 8 * s.get Reg.DBG_ADDR_OFFSET) :
    (s.dbgTaken n).dbgRead n = (s.dbgTaken n).dbgResult dBadAddr := by
  rw [State.dbgRead, State.dbgTaken_badAddr h ho]
  exact if_neg Bool.false_ne_true

theorem State.dbgWrite_bad (h : s.on Reg.DBG_ADDR_SPACE = false) (ho : 0x30000 ≤ 8 * s.get Reg.DBG_ADDR_OFFSET) :
    (s.dbgTaken n).dbgWrite n = (s.dbgTaken n).dbgResult dBadAddr := by
  rw [State.dbgWrite, State.dbgTaken_badAddr h ho]
  exact if_neg Bool.false_ne_true

end Results

/-! ### Debug that closes by itself (R649) -/

/-- A field of which every bit is cleared. -/
def State.clearFld (s : State) (f : Fld) (m : Nat) : State := s.put f ((s.get f - (s.get f &&& m)) + (0 &&& m))

theorem State.clearFld_self (s : State) (f : Fld) {m : Nat} (hm : m = f.size - 1) : (s.clearFld f m).get f = 0 := by
  have hand : s.get f &&& (f.size - 1) = s.get f % f.size := Nat.and_two_pow_sub_one_eq_mod _ _
  rw [State.clearFld, State.get_put_self, hm, hand, Nat.zero_and, Nat.add_zero]
  exact Nat.mod_eq_zero_of_dvd (Nat.dvd_sub_mod _)

theorem State.clearFld_ne (s : State) (f : Fld) (m : Nat) {g : Fld} (h : g.key ≠ f.key) : (s.clearFld f m).get g = s.get g :=
  State.get_put_ne _ _ _ _ h

theorem State.applyEntry_debug (s : State) : s.applyEntry (Reg.KPR_DEBUG, 4, 0, 2 ^ 32 - 1) =
    ((s.clearFld Reg.KPR_DEBUG_SCOPE 65535).clearFld Reg.KPR_DEBUG_DBG_EN 1).clearFld Reg.KPR_DEBUG_JTAG_EN 1 := by
  rfl

theorem State.applyEntry_until (s : State) : s.applyEntry (Reg.KPR_DEBUG_UNTIL, 8, 0, 2 ^ 64 - 1) =
    s.clearFld Reg.KPR_DEBUG_UNTIL_GTC (2 ^ 64 - 1) := by
  rfl

/-- The state in which the debug permissions are cleared. -/
def State.debugCleared (s : State) : State :=
  s.applyEntries [(Reg.KPR_DEBUG, 4, 0, 2 ^ 32 - 1), (Reg.KPR_DEBUG_UNTIL, 8, 0, 2 ^ 64 - 1)]

theorem State.debugCleared_eq (s : State) : s.debugCleared =
    (((s.clearFld Reg.KPR_DEBUG_SCOPE 65535).clearFld Reg.KPR_DEBUG_DBG_EN 1).clearFld Reg.KPR_DEBUG_JTAG_EN 1).clearFld
      Reg.KPR_DEBUG_UNTIL_GTC (2 ^ 64 - 1) := by
  rw [State.debugCleared, State.applyEntries, List.foldl_cons, List.foldl_cons, List.foldl_nil, State.applyEntry_debug,
    State.applyEntry_until]

theorem State.debugCleared_post (s : State) : s.debugCleared = { s with regs := s.debugCleared.regs } ∧
    s.debugCleared.get Reg.KPR_DEBUG_SCOPE = 0 ∧ s.debugCleared.get Reg.KPR_DEBUG_DBG_EN = 0 ∧
    s.debugCleared.get Reg.KPR_DEBUG_JTAG_EN = 0 ∧ s.debugCleared.get Reg.KPR_DEBUG_UNTIL_GTC = 0 ∧
    s.debugCleared.get (Reg.KPR_GEN_GEN 6) = s.get (Reg.KPR_GEN_GEN 6) := by
  rw [State.debugCleared_eq]
  refine ⟨rfl, ?_, ?_, ?_, State.clearFld_self _ _ rfl, ?_⟩
  · rw [State.clearFld_ne _ _ _ (by decide), State.clearFld_ne _ _ _ (by decide), State.clearFld_ne _ _ _ (by decide)]
    exact State.clearFld_self _ _ rfl
  · rw [State.clearFld_ne _ _ _ (by decide), State.clearFld_ne _ _ _ (by decide)]
    exact State.clearFld_self _ _ rfl
  · rw [State.clearFld_ne _ _ _ (by decide)]
    exact State.clearFld_self _ _ rfl
  · rw [State.clearFld_ne _ _ _ (by decide), State.clearFld_ne _ _ _ (by decide), State.clearFld_ne _ _ _ (by decide),
      State.clearFld_ne _ _ _ (by decide)]

/-- Permissions that change while no tile is halted only file a record. -/
theorem State.debugChanged_running {u old : State} (h : ∀ k, k < 64 → (u.tile k).halted = false) :
    ∃ d, u.debugChanged old = if u.get Reg.KPR_DEBUG_DBG_EN ≠ old.get Reg.KPR_DEBUG_DBG_EN ∨
      u.get Reg.KPR_DEBUG_JTAG_EN ≠ old.get Reg.KPR_DEBUG_JTAG_EN then u.fault 0x7C uKPR kprStop d else u := by
  have hout : ((List.range 64).filter fun t => (u.tile t).halted && !(u.inScope t)) = [] :=
    List.filter_eq_nil_iff.mpr fun k hk => by rw [h k (List.mem_range.mp hk)]; simp
  rw [State.debugChanged, hout]
  exact ⟨_, rfl⟩

theorem State.trace_nextId (s : State) (kind unit : Nat) (cid : Option Nat) (data stamp : Nat) :
    (s.trace kind unit cid data stamp).conc.nextId = s.conc.nextId := by
  unfold State.trace
  dsimp only
  generalize (_ || !bitAt (s.get Reg.MON_TRACE_CTRL_KINDS) (kind - 1)) = still
  split
  · rfl
  · split <;> rfl

theorem debugRelock_closes {s : State} (hl : s.domLive 2 = true) (h0 : 0 < s.get Reg.KPR_DEBUG_UNTIL_GTC)
    (h : s.get Reg.KPR_DEBUG_UNTIL_GTC ≤ s.gtc) (hh : ∀ k, k < 64 → (s.tile k).halted = false) :
    Gives .debugRelock s fun t => t.get Reg.KPR_DEBUG_DBG_EN = 0 ∧ t.get Reg.KPR_DEBUG_JTAG_EN = 0 ∧
      t.get Reg.KPR_DEBUG_SCOPE = 0 ∧ t.get Reg.KPR_DEBUG_UNTIL_GTC = 0 ∧
      t.get (Reg.KPR_GEN_GEN 6) = (s.get (Reg.KPR_GEN_GEN 6) + 1) % 2 ^ 32 ∧
      (s.get Reg.KPR_DEBUG_DBG_EN = 1 → t.conc.nextId = s.conc.nextId + 1) := by
  obtain ⟨hrest, hscope, hdbg, hjtag, huntil, hgen⟩ := s.debugCleared_post
  have heq : exec .debugRelock s = .next (s.lockCycle 7
      [(Reg.KPR_DEBUG, 4, 0, 2 ^ 32 - 1), (Reg.KPR_DEBUG_UNTIL, 8, 0, 2 ^ 64 - 1)]) :=
    exec_live (execDebugRelock.eq_1 ..) hl (congrArg Host.Outcome.next (if_neg (by omega)))
  have htile : s.debugCleared.tile = s.tile := by
    rw [hrest]
    rfl
  obtain ⟨d, hchanged⟩ := State.debugChanged_running (u := s.debugCleared) (old := s) (by rw [htile]; exact hh)
  generalize hv : s.debugCleared.debugChanged s = v at hchanged
  have hvpost : (∀ g : Fld, g.key ≠ Reg.WAT_STATUS_HELD.key → g.key ≠ Reg.WAT_STATUS_HOLD_OVF.key →
      v.get g = s.debugCleared.get g) ∧ (s.get Reg.KPR_DEBUG_DBG_EN = 1 → v.conc.nextId = s.conc.nextId + 1) := by
    rw [hchanged]
    have hid : s.debugCleared.conc.nextId = s.conc.nextId := by rw [hrest]
    split
    · have hfiled := s.debugCleared.fault_filed 0x7C uKPR kprStop d
      exact ⟨hfiled.get, fun _ => by rw [hfiled.nextId, hid]⟩
    · next hsame =>
      refine ⟨fun _ _ _ => rfl, fun h1 => absurd (Or.inl ?_) hsame⟩
      rw [hdbg, h1]
      decide
  obtain ⟨hget, hid⟩ := hvpost
  have hlock : s.lockCycle 7 [(Reg.KPR_DEBUG, 4, 0, 2 ^ 32 - 1), (Reg.KPR_DEBUG_UNTIL, 8, 0, 2 ^ 64 - 1)] =
      (v.put (Reg.KPR_GEN_GEN 6) ((v.get (Reg.KPR_GEN_GEN 6) + 1) % 2 ^ 32)).trace 7 uKPR none
        (7 + (v.get (Reg.KPR_GEN_GEN 6) + 1) % 2 ^ 32 % 2 ^ 16 * 2 ^ 16) (s.time copyTow) := by
    rw [← hv]
    rfl
  obtain ⟨-, htrace⟩ := State.trace_rest (v.put (Reg.KPR_GEN_GEN 6) ((v.get (Reg.KPR_GEN_GEN 6) + 1) % 2 ^ 32)) 7 uKPR none
    (7 + (v.get (Reg.KPR_GEN_GEN 6) + 1) % 2 ^ 32 % 2 ^ 16 * 2 ^ 16) (s.time copyTow)
  refine ⟨_, heq, ?_⟩
  rw [hlock]
  refine ⟨?_, ?_, ?_, ?_, ?_, fun h1 => ?_⟩
  · exact (htrace _ (by decide)).trans ((State.get_put_ne _ _ _ _ (by decide)).trans ((hget _ (by decide) (by decide)).trans hdbg))
  · exact (htrace _ (by decide)).trans ((State.get_put_ne _ _ _ _ (by decide)).trans ((hget _ (by decide) (by decide)).trans hjtag))
  · exact (htrace _ (by decide)).trans ((State.get_put_ne _ _ _ _ (by decide)).trans ((hget _ (by decide) (by decide)).trans hscope))
  · exact (htrace _ (by decide)).trans ((State.get_put_ne _ _ _ _ (by decide)).trans ((hget _ (by decide) (by decide)).trans huntil))
  · refine (htrace _ (by decide)).trans ((State.get_put_self ..).trans ?_)
    rw [hget _ (by decide) (by decide), hgen]
    exact Nat.mod_eq_of_lt (Nat.mod_lt _ (by decide))
  · exact (State.trace_nextId ..).trans (hid h1)

/-! ### Alarms (R661-R664) -/

section Alarms

variable {s : State}

theorem State.abortAll_noQueues (h : s.queues = []) (code unit : Nat) (r : Option Nat) (p : Nat → Bool) :
    s.abortAll code unit r p = s := by
  rw [State.abortAll, h]
  rfl

/-- What an alarm's record, count and level leave: everything but the reports, registers and pins. -/
structure State.Alarmed (s t : State) (src : Nat) (ids : Nat) : Prop where
  rest : t = { s with conc := t.conc, regs := t.regs, freeCtr := t.freeCtr, pins := t.pins }
  level : t.get Reg.KPR_STATE_LEVEL = max (s.alarmLevel src) (s.get Reg.KPR_STATE_LEVEL) % 4
  nextId : t.conc.nextId = s.conc.nextId + ids
  get : ∀ g : Fld, g.key ≠ Reg.WAT_STATUS_HELD.key → g.key ≠ Reg.WAT_STATUS_HOLD_OVF.key →
    g.key ≠ Reg.KPR_ALARM_COUNTS_COUNTS.key → g.key ≠ Reg.KPR_STATE_LEVEL.key → t.get g = s.get g

/-- The state in which an alarm has been recorded and counted, before its level acts. -/
def State.alarmRaised (s : State) (src code detail : Nat) : State :=
  let u := s.fault code uKPR kprStop (detail + s.alarmLevel src * 2 ^ 60)
  let n := u.get Reg.KPR_ALARM_COUNTS_COUNTS
  let u := if n / 256 ^ src % 256 = 255 then u else u.put Reg.KPR_ALARM_COUNTS_COUNTS (n + 256 ^ src)
  (u.put Reg.KPR_STATE_LEVEL (max (s.alarmLevel src) (u.get Reg.KPR_STATE_LEVEL))).alarmPin

theorem State.alarm_eq (s : State) (src code detail parts : Nat) : s.alarm src code detail parts =
    if s.alarmLevel src = 2 then (s.alarmRaised src code detail).quarantine parts
    else if s.alarmLevel src = 3 then (s.alarmRaised src code detail).alarmA3 src else s.alarmRaised src code detail := rfl

theorem State.alarmRaised_post (s : State) (src code detail : Nat) : s.Alarmed (s.alarmRaised src code detail) src 1 := by
  unfold State.alarmRaised
  dsimp only
  generalize hu : s.fault code uKPR kprStop (detail + s.alarmLevel src * 2 ^ 60) = u
  have hfiled : s.Filed u 1 := hu ▸ s.fault_filed ..
  generalize hv : (if u.get Reg.KPR_ALARM_COUNTS_COUNTS / 256 ^ src % 256 = 255 then u
    else u.put Reg.KPR_ALARM_COUNTS_COUNTS (u.get Reg.KPR_ALARM_COUNTS_COUNTS + 256 ^ src)) = v
  have hvpost : v = { u with regs := v.regs } ∧ ∀ g : Fld, g.key ≠ Reg.KPR_ALARM_COUNTS_COUNTS.key → v.get g = u.get g := by
    rw [← hv]
    split
    · exact ⟨rfl, fun _ _ => rfl⟩
    · exact ⟨rfl, fun g h => State.get_put_ne _ _ _ _ h⟩
  obtain ⟨hvrest, hvget⟩ := hvpost
  have hlevel : v.get Reg.KPR_STATE_LEVEL = s.get Reg.KPR_STATE_LEVEL :=
    (hvget _ (by decide)).trans (hfiled.get _ (by decide) (by decide))
  refine ⟨?_, ?_, ?_, fun g h1 h2 h3 h4 => ?_⟩
  · have hrest : v = { s with conc := u.conc, regs := v.regs, freeCtr := u.freeCtr } :=
      hvrest.trans (congrArg (fun w : State => { w with regs := v.regs }) hfiled.rest)
    have hconc : v.conc = u.conc := by rw [hvrest]
    have hfree : v.freeCtr = u.freeCtr := by rw [hvrest]
    have hv : v = { s with conc := v.conc, regs := v.regs, freeCtr := v.freeCtr } := by
      rw [hconc, hfree]
      exact hrest
    exact congrArg (fun w : State => { w with
      regs := (v.put Reg.KPR_STATE_LEVEL (max (s.alarmLevel src) (v.get Reg.KPR_STATE_LEVEL))).regs,
      pins := (v.put Reg.KPR_STATE_LEVEL (max (s.alarmLevel src) (v.get Reg.KPR_STATE_LEVEL))).alarmPin.pins }) hv
  · refine (State.get_put_self ..).trans ?_
    rw [hlevel]
    rfl
  · change v.conc.nextId = _
    rw [hvrest]
    exact hfiled.nextId
  · exact (State.get_put_ne _ _ _ _ h4).trans ((hvget g h3).trans (hfiled.get g h1 h2))

theorem State.endProps_idle (h : s.keeper.applying = none) : s.endProps = (s.endProp 0).endProp 1 := by
  rw [State.endProps, h]

/-- The state in which a quarantine of `parts` has been recorded. -/
def State.quarantineSet (s : State) (parts : Nat) : State :=
  (s.fault 0x79 uKPR kprStop ((s.get Reg.KPR_STATE_QUARANTINE ||| parts) - s.get Reg.KPR_STATE_QUARANTINE)).put
    Reg.KPR_STATE_QUARANTINE (s.get Reg.KPR_STATE_QUARANTINE ||| parts)

theorem State.quarantine_eq (s : State) (parts : Nat) : s.quarantine parts =
    ((s.quarantineSet parts).abortAll 0x79 uKPR (some s.recId) fun c => bitAt parts ((s.quarantineSet parts).ctx c).pid).endProps.alarmPin :=
  rfl

theorem State.quarantineSet_post (s : State) (parts : Nat) :
    (s.quarantineSet parts).queues = s.queues ∧ (s.quarantineSet parts).keeper = s.keeper ∧
      (s.quarantineSet parts).conc.nextId = s.conc.nextId + 1 ∧
      (s.quarantineSet parts).get Reg.KPR_STATE_LEVEL = s.get Reg.KPR_STATE_LEVEL ∧
      (s.quarantineSet parts).get Reg.KPR_STATE_QUARANTINE = (s.get Reg.KPR_STATE_QUARANTINE ||| parts) % 2 ^ 16 := by
  unfold State.quarantineSet
  generalize hu : s.fault 0x79 uKPR kprStop ((s.get Reg.KPR_STATE_QUARANTINE ||| parts) - s.get Reg.KPR_STATE_QUARANTINE) = u
  have hfiled : s.Filed u 1 := hu ▸ s.fault_filed ..
  refine ⟨?_, ?_, hfiled.nextId, ?_, State.get_put_self ..⟩
  · exact (congrArg State.queues hfiled.rest :)
  · exact (congrArg State.keeper hfiled.rest :)
  · exact (State.get_put_ne _ _ _ _ (by decide)).trans (hfiled.get _ (by decide) (by decide))

theorem State.endProp_get (s : State) (m : Nat) {g : Fld} (h1 : g.key ≠ (Reg.KPR_MB_STATUS_PENDING_OWN m).key)
    (h2 : g.key ≠ (Reg.KPR_MB_STATUS_PENDING_PEER (1 - m)).key) : (s.endProp m).get g = s.get g :=
  (State.get_put_ne _ _ _ _ h2).trans (State.get_put_ne _ _ _ _ h1)

theorem State.endProp_both (s : State) : ((s.endProp 0).endProp 1).prop 0 = none ∧ ((s.endProp 0).endProp 1).prop 1 = none :=
  ⟨(Tab.get_set_ne _ _ _ (by decide)).trans (Tab.get_set_self ..), Tab.get_set_self ..⟩

/-- A quarantine with nothing held and no proposal being applied: it is recorded, and both proposals end. -/
theorem State.quarantine_post (parts : Nat) (hq : s.queues = []) (ha : s.keeper.applying = none) :
    (s.quarantine parts).get Reg.KPR_STATE_QUARANTINE = (s.get Reg.KPR_STATE_QUARANTINE ||| parts) % 2 ^ 16 ∧
      (s.quarantine parts).conc.nextId = s.conc.nextId + 1 ∧
      (s.quarantine parts).get Reg.KPR_STATE_LEVEL = s.get Reg.KPR_STATE_LEVEL ∧
      (s.quarantine parts).prop 0 = none ∧ (s.quarantine parts).prop 1 = none := by
  obtain ⟨hqueues, hkeeper, hid, hlevel, hquar⟩ := s.quarantineSet_post parts
  rw [State.quarantine_eq]
  generalize s.quarantineSet parts = u at *
  rw [State.abortAll_noQueues (hqueues.trans hq), State.endProps_idle (by rw [hkeeper]; exact ha)]
  refine ⟨?_, hid, ?_, u.endProp_both⟩
  · exact (State.endProp_get _ _ (by decide) (by decide)).trans ((State.endProp_get _ _ (by decide) (by decide)).trans hquar)
  · exact (State.endProp_get _ _ (by decide) (by decide)).trans ((State.endProp_get _ _ (by decide) (by decide)).trans hlevel)

theorem State.Alarmed.queues {t : State} {src ids : Nat} (h : s.Alarmed t src ids) : t.queues = s.queues := by rw [h.rest]

theorem State.Alarmed.keeper {t : State} {src ids : Nat} (h : s.Alarmed t src ids) : t.keeper = s.keeper := by rw [h.rest]

/-- An alarm of level A2. -/
theorem State.alarm_quarantines {src : Nat} (code detail parts : Nat) (hlvl : s.alarmLevel src = 2) (hq : s.queues = [])
    (ha : s.keeper.applying = none) :
    let t := s.alarm src code detail parts
    t.get Reg.KPR_STATE_LEVEL = max 2 (s.get Reg.KPR_STATE_LEVEL) % 4 ∧ t.conc.nextId = s.conc.nextId + 2 ∧
      t.get Reg.KPR_STATE_QUARANTINE = (s.get Reg.KPR_STATE_QUARANTINE ||| parts) % 2 ^ 16 ∧ t.prop 0 = none ∧ t.prop 1 = none := by
  have hraised := s.alarmRaised_post src code detail
  obtain ⟨hquar, hid, hlevel, hp0, hp1⟩ := State.quarantine_post (s := s.alarmRaised src code detail) parts
    (hraised.queues.trans hq) (by rw [hraised.keeper]; exact ha)
  have hl := hraised.level
  rw [hlvl] at hl
  have hold : (s.alarmRaised src code detail).get Reg.KPR_STATE_QUARANTINE = s.get Reg.KPR_STATE_QUARANTINE :=
    hraised.get _ (by decide) (by decide) (by decide) (by decide)
  dsimp only
  rw [State.alarm_eq, hlvl, if_pos rfl]
  exact ⟨hlevel.trans hl, by rw [hid, hraised.nextId], by rw [hquar, hold], hp0, hp1⟩

/-! ### The erasure of level A3 (R663) -/

/-- What an A3 alarm leaves: no key and no proposal, and the engine ALARMED. -/
structure State.Erased (t : State) : Prop where
  eng : t.eng = engAlarmed
  level : t.get Reg.KPR_STATE_LEVEL = 3
  keys : t.keeper.keys = false
  wrapped : t.keeper.wrapped = false
  sealKeys : t.sealKeys = []
  modelKeys : t.modelKeys = []
  prop0 : t.prop 0 = none
  prop1 : t.prop 1 = none

/-- A change that leaves what an erasure is about: the keeper, the keys, the state of the engine and the level. -/
structure State.KeepsErasure (s t : State) : Prop where
  keeper : t.keeper = s.keeper
  sealKeys : t.sealKeys = s.sealKeys
  modelKeys : t.modelKeys = s.modelKeys
  eng : t.get Reg.ENG_STATE_STATE = s.get Reg.ENG_STATE_STATE
  level : t.get Reg.KPR_STATE_LEVEL = s.get Reg.KPR_STATE_LEVEL

theorem State.KeepsErasure.refl (s : State) : s.KeepsErasure s := ⟨rfl, rfl, rfl, rfl, rfl⟩

theorem State.KeepsErasure.trans {t u : State} (h : s.KeepsErasure t) (h' : t.KeepsErasure u) : s.KeepsErasure u :=
  ⟨h'.keeper.trans h.keeper, h'.sealKeys.trans h.sealKeys, h'.modelKeys.trans h.modelKeys, h'.eng.trans h.eng,
    h'.level.trans h.level⟩

theorem State.KeepsErasure.foldl {α : Type} (f : State → α → State) (h : ∀ (s : State) (x : α), s.KeepsErasure (f s x)) (l : List α) (s : State) :
    s.KeepsErasure (l.foldl f s) := by
  induction l generalizing s with
  | nil => exact .refl s
  | cons x xs ih => exact (h s x).trans (ih (f s x))

theorem State.KeepsErasure.erased {t : State} (h : s.KeepsErasure t) (he : s.Erased) : t.Erased := by
  obtain ⟨heng, hlevel, hk, hw, hs, hm, h0, h1⟩ := he
  refine ⟨h.eng.trans heng, h.level.trans hlevel, ?_, ?_, h.sealKeys.trans hs, h.modelKeys.trans hm, ?_, ?_⟩
  · rw [h.keeper, hk]
  · rw [h.keeper, hw]
  · rw [State.prop, h.keeper]
    exact h0
  · rw [State.prop, h.keeper]
    exact h1

theorem State.endClaims_keepsErasure (s : State) (p : Nat → Nat → Bool) : s.KeepsErasure (s.endClaims p) := by
  refine State.KeepsErasure.foldl _ (fun u k => ?_) _ s
  dsimp only
  split
  · exact .refl u
  · split_ifs
    · exact ⟨rfl, rfl, rfl, rfl, rfl⟩
    · exact .refl u

theorem State.trace_keepsErasure (s : State) (kind unit : Nat) (cid : Option Nat) (data stamp : Nat) :
    s.KeepsErasure (s.trace kind unit cid data stamp) := by
  obtain ⟨hrest, hget⟩ := s.trace_rest kind unit cid data stamp
  exact ⟨by rw [hrest], by rw [hrest], by rw [hrest], hget _ (by decide), hget _ (by decide)⟩

theorem State.setSt_keepsErasure (s : State) (d : Nat) (st : DomSt) : s.KeepsErasure (s.setSt d st) := by
  have hturns : s.KeepsErasure (s.clusterTurns d st) := by
    unfold State.clusterTurns
    split_ifs
    · exact .refl s
    · exact ⟨rfl, rfl, rfl, rfl, rfl⟩
    · exact s.endClaims_keepsErasure _
    · exact .refl s
  unfold State.setSt
  split_ifs
  · exact .refl s
  · refine hturns.trans ?_
    have hset : (s.clusterTurns d st).KeepsErasure ((s.clusterTurns d st).setDom d
        { (s.clusterTurns d st).dom d with st := st, since := (s.clusterTurns d st).gtc }) := ⟨rfl, rfl, rfl, rfl, rfl⟩
    exact hset.trans (State.trace_keepsErasure _ _ _ _ _ _)

theorem State.gateAct_keepsErasure (s : State) (d rank : Nat) {act : State → State} (h : ∀ u : State, u.KeepsErasure (act u)) :
    s.KeepsErasure (s.gateAct d rank act) := by
  have hgates : ∀ g, s.KeepsErasure { s with gates := g } := fun _ => ⟨rfl, rfl, rfl, rfl, rfl⟩
  unfold State.gateAct
  extract_lets g same acks
  by_cases hlater : same = true ∧ g.rank < rank
  · rw [if_pos hlater]
    exact hgates _
  · rw [if_neg hlater]
    exact (hgates _).trans (h _)

theorem State.beginClose_keepsErasure (s : State) (p : Nat → Bool) : s.KeepsErasure (s.beginClose p) := by
  refine State.KeepsErasure.foldl _ (fun u d => ?_) _ s
  by_cases h : p d = true ∧ u.domOpen d = true
  · rw [if_pos h]
    exact u.gateAct_keepsErasure d 2 fun u => u.setSt_keepsErasure d .closing
  · rw [if_neg h]
    exact .refl u

theorem reverseOrder_lt {d : Nat} (h : d ∈ reverseOrder) : d < 28 := by
  have hall : ∀ d ∈ reverseOrder, d < 28 := by decide
  exact hall d h

theorem State.switchOffAll_closed (ds : List Nat) (h : ∀ d ∈ ds, (s.dom d).st = .closed) : s.switchOffAll false ds = s := by
  induction ds with
  | nil => rfl
  | cons d ds ih =>
    have hd : (s.dom d).st = .closed := h d List.mem_cons_self
    have hstep : s.switchOffAll false (d :: ds) = s.switchOffAll false ds := by
      rw [State.switchOffAll, State.switchOffAll, List.foldl_cons]
      refine congrArg (List.foldl _ · ds) ?_
      simp [hd]
    rw [hstep, ih fun d hd => h d (List.mem_cons_of_mem _ hd)]

theorem State.windDown_keepsErasure (p : Nat → Bool) (h : ∀ d, d < 28 → s.domLive d = true ∨ (s.dom d).st = .closed) :
    s.KeepsErasure (s.windDown p) := by
  rw [State.windDown, State.switchOffAll_closed]
  · exact s.beginClose_keepsErasure p
  · intro d hd
    rw [List.mem_filter, Bool.and_eq_true, Bool.not_eq_true'] at hd
    obtain ⟨hmem, -, hlive⟩ := hd
    exact (h d (reverseOrder_lt hmem)).resolve_left (by rw [hlive]; decide)

/-- The keys are gone and the proposals ended; what the rest of an A3 alarm reads stands as before. -/
structure State.KeysGone (s t : State) : Prop where
  keys : t.keeper.keys = false
  wrapped : t.keeper.wrapped = false
  sealKeys : t.sealKeys = []
  modelKeys : t.modelKeys = []
  prop0 : t.prop 0 = none
  prop1 : t.prop 1 = none
  queues : t.queues = s.queues
  stop : t.stop = s.stop
  doms : t.doms = s.doms
  level : t.get Reg.KPR_STATE_LEVEL = s.get Reg.KPR_STATE_LEVEL

/-- The proposals end; the dispatcher's fences, the host and the free values may change with them. -/
theorem State.endProps_post (s : State) :
    s.endProps.keeper.keys = s.keeper.keys ∧ s.endProps.keeper.wrapped = s.keeper.wrapped ∧
      s.endProps.sealKeys = s.sealKeys ∧ s.endProps.modelKeys = s.modelKeys ∧ s.endProps.prop 0 = none ∧
      s.endProps.prop 1 = none ∧ s.endProps.queues = s.queues ∧ s.endProps.stop = s.stop ∧ s.endProps.doms = s.doms ∧
      s.endProps.get Reg.KPR_STATE_LEVEL = s.get Reg.KPR_STATE_LEVEL := by
  have hends : ∀ u : State, ((u.endProp 0).endProp 1).get Reg.KPR_STATE_LEVEL = u.get Reg.KPR_STATE_LEVEL := fun u =>
    (State.endProp_get _ _ (by decide) (by decide)).trans (State.endProp_get _ _ (by decide) (by decide))
  cases ha : s.keeper.applying with
  | none =>
    rw [State.endProps_idle ha]
    exact ⟨rfl, rfl, rfl, rfl, s.endProp_both.1, s.endProp_both.2, rfl, rfl, rfl, hends s⟩
  | some m =>
    have heq : s.endProps = (((((({ s with keeper := { s.keeper with applying := none } } : State).mbDone m
        (s.freeVal 8)).tookFree).liftAll).endProp 0).endProp 1) := by
      rw [State.endProps, ha]
      rfl
    rw [heq]
    generalize hu : ({ s with keeper := { s.keeper with applying := none } } : State) = u
    have hdone : ∀ r, u.mbDone m r = { u with regs := (u.mbDone m r).regs, host := (u.mbDone m r).host } ∧
        (u.mbDone m r).get Reg.KPR_STATE_LEVEL = u.get Reg.KPR_STATE_LEVEL := fun r => by
      have hput : (((u.put (Reg.KPR_MB_STATUS_RESULT m) r).put (Reg.KPR_MB_STATUS_BUSY m) 0).get Reg.KPR_STATE_LEVEL) =
          u.get Reg.KPR_STATE_LEVEL :=
        (State.get_put_ne _ _ _ _ (by simp only [Fld.key, Reg.KPR_MB_STATUS_BUSY, Reg.KPR_STATE_LEVEL]; omega)).trans
          (State.get_put_ne _ _ _ _ (by simp only [Fld.key, Reg.KPR_MB_STATUS_RESULT, Reg.KPR_STATE_LEVEL]; omega))
      unfold State.mbDone State.eventIf
      dsimp only
      split_ifs
      · exact ⟨rfl, hput⟩
      · exact ⟨rfl, hput⟩
    obtain ⟨hrest, hlevel⟩ := hdone (s.freeVal 8)
    generalize u.mbDone m (s.freeVal 8) = w at *
    refine ⟨?_, ?_, ?_, ?_, (State.endProp_both _).1, (State.endProp_both _).2, ?_, ?_, ?_, (hends _).trans (hlevel.trans ?_)⟩
    · exact (congrArg (fun x : State => x.keeper.keys) hrest).trans (by rw [← hu])
    · exact (congrArg (fun x : State => x.keeper.wrapped) hrest).trans (by rw [← hu])
    · exact (congrArg State.sealKeys hrest).trans (by rw [← hu])
    · exact (congrArg State.modelKeys hrest).trans (by rw [← hu])
    · exact (congrArg State.queues hrest).trans (by rw [← hu])
    · exact (congrArg State.stop hrest).trans (by rw [← hu])
    · exact (congrArg State.doms hrest).trans (by rw [← hu])
    · rw [← hu]
      rfl

theorem State.eraseKeys_post (s : State) : s.eraseKeys = { s with
      regs := s.eraseKeys.regs, sealKeys := [], modelKeys := [],
      keeper := { s.keeper with keys := false, wrapped := false, wrappedSeal := [], wrappedModel := [], slots := [] } } ∧
    s.eraseKeys.get Reg.KPR_STATE_LEVEL = s.get Reg.KPR_STATE_LEVEL := by
  have hports : ∀ (l : List Nat) (u : State), l.foldl (fun u p => u.put (Reg.LNK_PORT_STATUS_SECURE p) 0) u =
      { u with regs := (l.foldl (fun u p => u.put (Reg.LNK_PORT_STATUS_SECURE p) 0) u).regs } ∧
      (l.foldl (fun u p => u.put (Reg.LNK_PORT_STATUS_SECURE p) 0) u).get Reg.KPR_STATE_LEVEL = u.get Reg.KPR_STATE_LEVEL := by
    intro l
    induction l with
    | nil => exact fun _ => ⟨rfl, rfl⟩
    | cons p ps ih =>
      intro u
      obtain ⟨hrest, hget⟩ := ih (u.put (Reg.LNK_PORT_STATUS_SECURE p) 0)
      exact ⟨hrest, hget.trans (State.get_put_ne _ _ _ _
        (by simp only [Fld.key, Reg.LNK_PORT_STATUS_SECURE, Reg.KPR_STATE_LEVEL]; omega))⟩
  obtain ⟨hrest, hget⟩ := hports (List.range 6) (({ s with
    keeper := { s.keeper with keys := false, wrapped := false, wrappedSeal := [], wrappedModel := [], slots := [] },
    sealKeys := [], modelKeys := [] } : State).put Reg.KPR_KEY_USE_SLOTS 0)
  exact ⟨hrest, hget.trans (State.get_put_ne _ _ _ _ (by decide))⟩

theorem State.eraseKeys_keysGone (s : State) : s.KeysGone s.eraseKeys.endProps := by
  have herased := s.eraseKeys_post
  generalize s.eraseKeys = u at herased ⊢
  obtain ⟨hrest, hlevel⟩ := herased
  obtain ⟨hk, hw, hs, hm, h0, h1, hq, hst, hd, hl⟩ := u.endProps_post
  refine ⟨hk.trans ?_, hw.trans ?_, hs.trans ?_, hm.trans ?_, h0, h1, hq.trans ?_, hst.trans ?_, hd.trans ?_, hl.trans hlevel⟩
  all_goals rw [hrest]

/-- The state in which the keys are erased, the record is filed and the engine is ALARMED. -/
def State.alarmedA3 (s : State) (src : Nat) : State :=
  ((((((s.eraseKeys.endProps).fault 0x7A uKPR kprStop src).setEng engAlarmed).put Reg.KPR_STATE_STATE 2).endStop 0x0B).stopDispatch).haltFlight

theorem State.alarmA3_eq (s : State) (src : Nat) (h : s.eng ≠ engFlight) : s.alarmA3 src =
    ((s.alarmedA3 src).abortAll 0x7A uKPR (some s.eraseKeys.endProps.recId) fun _ => true).windDown
      fun d => !(d == 1 || d == 2 || d == 5) := by
  have hflight : (s.eng == engFlight) = false := beq_eq_false_iff_ne.mpr h
  rw [State.alarmA3, hflight]
  exact if_neg Bool.false_ne_true

theorem State.alarmedA3_post (s : State) (src : Nat) (hl : s.get Reg.KPR_STATE_LEVEL = 3) (hstop : s.stop = none) :
    (s.alarmedA3 src).Erased ∧ (s.alarmedA3 src).queues = s.queues ∧ (s.alarmedA3 src).doms = s.doms := by
  obtain ⟨hk, hw, hs, hm, h0, h1, hq, hst, hd, hlv⟩ := s.eraseKeys_keysGone
  unfold State.alarmedA3
  generalize s.eraseKeys.endProps = u at *
  have hfiled := u.fault_filed 0x7A uKPR kprStop src
  generalize u.fault 0x7A uKPR kprStop src = v at *
  have heng : v.setEng engAlarmed = v.put Reg.ENG_STATE_STATE engAlarmed := by
    rw [State.setEng]
    exact if_neg (by decide)
  have hend : ((v.setEng engAlarmed).put Reg.KPR_STATE_STATE 2).endStop 0x0B =
      (v.put Reg.ENG_STATE_STATE engAlarmed).put Reg.KPR_STATE_STATE 2 := by
    have hv : v.stop = none := (congrArg State.stop hfiled.rest).trans (hst.trans hstop)
    rw [heng, State.endStop]
    have : ((v.put Reg.ENG_STATE_STATE engAlarmed).put Reg.KPR_STATE_STATE 2).stop = none := hv
    rw [this]
  rw [hend]
  have hkeeper : v.keeper = u.keeper := (congrArg State.keeper hfiled.rest :)
  refine ⟨⟨?_, ?_, ?_, ?_, ?_, ?_, ?_, ?_⟩, ?_, ?_⟩
  · exact (State.get_put_ne _ _ _ _ (by decide)).trans ((State.get_put_ne _ _ _ _ (by decide)).trans (State.get_put_self ..))
  · exact (State.get_put_ne _ _ _ _ (by decide)).trans ((State.get_put_ne _ _ _ _ (by decide)).trans
      ((State.get_put_ne _ _ _ _ (by decide)).trans ((hfiled.get _ (by decide) (by decide)).trans (hlv.trans hl))))
  · exact (congrArg Keeper.keys hkeeper).trans hk
  · exact (congrArg Keeper.wrapped hkeeper).trans hw
  · exact (congrArg State.sealKeys hfiled.rest).trans hs
  · exact (congrArg State.modelKeys hfiled.rest).trans hm
  · exact (congrArg (fun k : Keeper => Tab.get none k.props 0) hkeeper).trans h0
  · exact (congrArg (fun k : Keeper => Tab.get none k.props 1) hkeeper).trans h1
  · exact (congrArg State.queues hfiled.rest).trans hq
  · exact (congrArg State.doms hfiled.rest).trans hd

/-- An A3 alarm outside a flight, with nothing held and no stop under way. -/
theorem State.alarm_erases {src : Nat} (code detail parts : Nat) (hlvl : s.alarmLevel src = 3)
    (hl : s.get Reg.KPR_STATE_LEVEL ≤ 3) (hq : s.queues = []) (hstop : s.stop = none) (heng : s.eng ≠ engFlight)
    (hdoms : ∀ d, d < 28 → s.domLive d = true ∨ (s.dom d).st = .closed) : (s.alarm src code detail parts).Erased := by
  have hraised := s.alarmRaised_post src code detail
  rw [State.alarm_eq, hlvl, if_neg (by decide), if_pos rfl]
  generalize s.alarmRaised src code detail = u at *
  have hlevel : u.get Reg.KPR_STATE_LEVEL = 3 := by
    rw [hraised.level, hlvl, max_eq_left hl]
  have hueng : u.eng = s.eng := hraised.get _ (by decide) (by decide) (by decide) (by decide)
  have hustop : u.stop = s.stop := (congrArg State.stop hraised.rest :)
  obtain ⟨herased, huq, hud⟩ := u.alarmedA3_post src hlevel (hustop.trans hstop)
  rw [State.alarmA3_eq _ _ (by rw [hueng]; exact heng), State.abortAll_noQueues (huq.trans (hraised.queues.trans hq))]
  have hd : (u.alarmedA3 src).doms = s.doms := hud.trans (congrArg State.doms hraised.rest :)
  refine (State.windDown_keepsErasure _ fun d hlt => ?_).erased herased
  rw [State.domLive, State.dom, hd]
  exact hdoms d hlt

end Alarms

/-! ### Glitches, integrity faults and locked JTAG instructions -/

/-- The KFW check that fails raises the alarm of the keeper's integrity. -/
theorem kfwCheck_due {s : State} (hl : s.domLive 2 = true) (h : max s.keeper.kfwAt (s.dom 2).since + 360000000000 ≤ s.gtc)
    (ok : Bool) : exec (.kfwCheck ok) s = .next (if ok = true then { s with keeper := { s.keeper with kfwAt := s.gtc } }
      else ({ s with keeper := { s.keeper with kfwAt := s.gtc } } : State).kintegrity .kfw) :=
  exec_live (execKfwCheck.eq_1 ..) hl (congrArg Host.Outcome.next (if_neg (Nat.not_lt.mpr h)))

theorem cglitch_raises {s : State} (hl : s.domLive 2 = true) {source : BitVec 2} (h : source ≠ 3) :
    exec (.cglitch source) s = .next (s.alarm aCglitch 0x75 source.toNat s.validMask) := by
  refine exec_live (execCglitch.eq_1 ..) hl (congrArg Host.Outcome.next (if_pos ?_))
  have hne : source.toNat ≠ 3 := fun h' => h (BitVec.eq_of_toNat_eq h')
  have hlt : source.toNat < 4 := source.isLt
  omega

/-- A glitch of an open cluster quarantines its partition. -/
theorem vglitch_cluster {s : State} (c : BitVec 4) (ho : s.domOpen (clDom c.toNat) = true) (hlvl : s.alarmLevel aVglitch = 2)
    (hq : s.queues = []) (ha : s.keeper.applying = none) :
    Gives (.vglitch (.cluster c)) s fun t => t.get Reg.KPR_STATE_LEVEL = max 2 (s.get Reg.KPR_STATE_LEVEL) % 4 ∧
      t.conc.nextId = s.conc.nextId + 2 ∧ ∀ p, s.clusterPart c.toNat = some p → p < 16 →
        bitAt (t.get Reg.KPR_STATE_QUARANTINE) p = true := by
  refine ⟨_, congrArg Host.Outcome.next (if_pos ho), ?_⟩
  obtain ⟨hlevel, hid, hquar, -, -⟩ := State.alarm_quarantines 0x74 c.toNat (match s.clusterPart c.toNat with
    | some p => 2 ^ p
    | none => 0) hlvl hq ha
  refine ⟨hlevel, hid, fun p hp hlt => ?_⟩
  rw [hp] at hquar
  have hbit : bitAt ((s.get Reg.KPR_STATE_QUARANTINE ||| 2 ^ p) % 2 ^ 16) p = true := by
    rw [bitAt_eq_testBit, Nat.testBit_mod_two_pow, Nat.testBit_or, Nat.testBit_two_pow_self]
    simp [hlt]
  rw [hp]
  exact (congrArg (bitAt · p) hquar).trans hbit

/-- The state in which a locked JTAG instruction has been shifted in, with the recent ones `l`. -/
def State.jtagShifted (s : State) (l : List Nat) : State :=
  { s with keeper := { s.keeper with jtag := l }, pins := { s.pins with ir := 0, scan := none } }

theorem State.jtagLocked_few (s : State) (code : Nat) (h : s.keeper.jtag.length < 3) : s.jtagLocked code =
    s.jtagShifted ((s.keeper.jtag.filter fun t => s.gtc < t + 100000000) ++ [s.gtc]) := by
  have hlen : ¬ 4 ≤ ((s.keeper.jtag.filter fun t => s.gtc < t + 100000000) ++ [s.gtc]).length := by
    have hfilter := List.length_filter_le (fun t => decide (s.gtc < t + 100000000)) s.keeper.jtag
    rw [List.length_append, List.length_singleton]
    omega
  rw [State.jtagLocked]
  dsimp only
  rw [if_neg hlen, if_neg hlen]
  rfl

theorem State.jtagLocked_fourth (s : State) (code : Nat) (h : 3 ≤ s.keeper.jtag.length)
    (hr : ∀ t ∈ s.keeper.jtag, s.gtc < t + 100000000) :
    s.jtagLocked code = (s.jtagShifted []).alarmWide aDebugAttack 0x77 code := by
  have hall : (s.keeper.jtag.filter fun t => s.gtc < t + 100000000) = s.keeper.jtag :=
    List.filter_eq_self.mpr fun t ht => decide_eq_true (hr t ht)
  have hlen : 4 ≤ (s.keeper.jtag ++ [s.gtc]).length := by
    rw [List.length_append, List.length_singleton]
    omega
  rw [State.jtagLocked, hall]
  dsimp only
  rw [if_pos hlen, if_pos hlen]
  rfl

/-- The fourth locked instruction within a second, with the attack's alarm at level A1. -/
theorem State.jtagLocked_attack {s : State} (code : Nat) (h : 3 ≤ s.keeper.jtag.length)
    (hr : ∀ t ∈ s.keeper.jtag, s.gtc < t + 100000000) (hlvl : s.alarmLevel aDebugAttack = 1) :
    (s.jtagLocked code).get Reg.KPR_STATE_LEVEL = max 1 (s.get Reg.KPR_STATE_LEVEL) % 4 ∧
      (s.jtagLocked code).keeper.jtag = [] ∧ (s.jtagLocked code).conc.nextId = s.conc.nextId + 1 := by
  have hlvl' : (s.jtagShifted []).alarmLevel aDebugAttack = 1 := hlvl
  have hraised := (s.jtagShifted []).alarmRaised_post aDebugAttack 0x77 code
  rw [State.jtagLocked_fourth s code h hr, State.alarmWide, State.alarm_eq, hlvl', if_neg (by decide), if_neg (by decide)]
  refine ⟨?_, ?_, hraised.nextId⟩
  · rw [hraised.level, hlvl']
    rfl
  · rw [hraised.keeper]
    rfl

/-! ### The whole of it -/

/-- The commands of the DBG block. -/
theorem dbgCommands {s : State} (tile : BitVec 6) (hl : s.domLive 1 = true) (hon : s.dbgOn = true)
    (hbusy : s.get Reg.DBG_STATUS_BUSY = 0) (hs : s.inScope tile.toNat = true) (hh : (s.tile tile.toNat).halted = true) :
    let n := tile.toNat
    let x := s.tile n
    let result := fun (t : State) => t.get Reg.DBG_STATUS_RESULT
    let offs := 8 * s.get Reg.DBG_ADDR_OFFSET
    (Gives (.dbgResume tile) s fun t => result t = dDone ∧
        t.tile n = { x with halted := false, bpSkip := x.haltCause == 3, haltCause := 0 } ∧ ∀ k, k ≠ n → t.tile k = s.tile k) ∧
      (x.task ≠ none → Gives (.step tile) s fun t => result t = dDone ∧ (t.tile n).stepping = true ∧
        (t.tile n).halted = false ∧ ∀ k, k ≠ n → t.tile k = s.tile k) ∧
      (s.on Reg.DBG_ADDR_SPACE = true →
        (Gives (.read tile) s fun t => result t = dDone ∧ t.get Reg.DBG_DATA_DATA = x.rdLe offs 8 % 2 ^ 64 ∧
          t.tiles = s.tiles) ∧
        (Gives (.write tile) s fun t => result t = dDone ∧ t.tile n = x.wrLe offs 8 (s.get Reg.DBG_DATA_DATA) ∧
          ∀ k, k ≠ n → t.tile k = s.tile k)) ∧
      (s.on Reg.DBG_ADDR_SPACE = false → 0x30000 ≤ offs →
        (Gives (.read tile) s fun t => result t = dBadAddr ∧ t.tiles = s.tiles) ∧
        (Gives (.write tile) s fun t => result t = dBadAddr ∧ t.tiles = s.tiles)) := by
  intro n x result offs
  have hcmd : ∀ {cmd : Nat}, 1 ≤ cmd → cmd ≤ 5 → cmd ≠ 1 → s.dbgCmd n cmd = if cmd = 2 then (s.dbgTaken n).dbgResume n
      else if cmd = 3 then (s.dbgTaken n).dbgStep n else if cmd = 4 then (s.dbgTaken n).dbgRead n
      else (s.dbgTaken n).dbgWrite n := fun h1 h5 h2 => State.dbgCmd_halted hon hbusy h1 h5 hs h2 hh
  have hread : exec (.read tile) s = .next ((s.dbgTaken n).dbgRead n) :=
    exec_tow (execRead.eq_1 ..) hl (congrArg Host.Outcome.next (hcmd (cmd := 4) (by decide) (by decide) (by decide)))
  have hwrite : exec (.write tile) s = .next ((s.dbgTaken n).dbgWrite n) :=
    exec_tow (execWrite.eq_1 ..) hl (congrArg Host.Outcome.next (hcmd (cmd := 5) (by decide) (by decide) (by decide)))
  refine ⟨?_, fun ht => ?_, fun hspace => ⟨?_, ?_⟩, fun hspace hoffs => ⟨?_, ?_⟩⟩
  · have heq : exec (.dbgResume tile) s = .next ((s.dbgTaken n).dbgResume n) :=
      exec_tow (execDbgResume.eq_1 ..) hl (congrArg Host.Outcome.next (hcmd (cmd := 2) (by decide) (by decide) (by decide)))
    exact ⟨_, heq, (State.unhaltTile_goes (s.dbgTaken n) n).done⟩
  · have heq : exec (.step tile) s = .next ((s.dbgTaken n).dbgStep n) :=
      exec_tow (execStep.eq_1 ..) hl (congrArg Host.Outcome.next (hcmd (cmd := 3) (by decide) (by decide) (by decide)))
    obtain ⟨hres, htile, hrest⟩ := ((State.unhaltTile_goes (s.dbgTaken n) n).trans
      (State.updTile_goes (fun x => { x with stepping := true }) rfl rfl)).done
    rw [State.dbgStep_taken ht] at heq
    exact ⟨_, heq, hres, by rw [htile]; rfl, by rw [htile]; rfl, hrest⟩
  · rw [State.dbgRead_store hspace] at hread
    exact ⟨_, hread, State.dbgResult_get _ (by decide), (State.get_put_ne _ _ _ _ (by decide)).trans (State.get_put_self ..), rfl⟩
  · rw [State.dbgWrite_store hspace] at hwrite
    exact ⟨_, hwrite, (State.updTile_goes (s := s.dbgTaken n) (n := n) _ rfl rfl).done⟩
  · rw [State.dbgRead_bad hspace hoffs] at hread
    exact ⟨_, hread, State.dbgResult_get _ (by decide), rfl⟩
  · rw [State.dbgWrite_bad hspace hoffs] at hwrite
    exact ⟨_, hwrite, State.dbgResult_get _ (by decide), rfl⟩

/-- Settles O48: the DBG block takes its commands one by one, and an alarm's level decides what it does. -/
theorem debugAndAlarms : Obligations.DebugAndAlarms := by
  unfold Obligations.DebugAndAlarms
  intro s tile n x result due level offs
  refine ⟨fun hl => ⟨fun hoff => ?_, fun hon hbusy => ⟨fun hs => ⟨?_, ?_⟩, fun hs => ⟨?_, fun hh => ?_, dbgCommands tile hl hon hbusy hs⟩⟩⟩,
    fun ht hrun hh hb => ?_, fun hb => ?_, fun hl => ⟨fun h => ?_, debugRelock_closes hl, fun ok h => ?_, fun h => ?_,
      fun source hsrc hlvl hq ha => ?_, fun hlev hq hstop heng hdoms => ?_⟩, fun c ho => ?_, vglitch_cluster, fun code =>
      ⟨fun hj => ?_, fun hj => ⟨fun hlen => ?_, fun hlen hr hlvl => ?_⟩⟩⟩
  · have hcmd : ∀ cmd, s.dbgCmd n cmd = s := fun cmd => State.dbgCmd_ignored hoff
    exact ⟨⟨_, exec_tow (execHalt.eq_1 ..) hl (congrArg Host.Outcome.next (hcmd 1)), rfl⟩,
      ⟨_, exec_tow (execDbgResume.eq_1 ..) hl (congrArg Host.Outcome.next (hcmd 2)), rfl⟩,
      ⟨_, exec_tow (execStep.eq_1 ..) hl (congrArg Host.Outcome.next (hcmd 3)), rfl⟩,
      ⟨_, exec_tow (execRead.eq_1 ..) hl (congrArg Host.Outcome.next (hcmd 4)), rfl⟩,
      ⟨_, exec_tow (execWrite.eq_1 ..) hl (congrArg Host.Outcome.next (hcmd 5)), rfl⟩⟩
  · exact ⟨_, exec_tow (execHalt.eq_1 ..) hl (congrArg Host.Outcome.next
      (State.dbgCmd_outOfScope hon hbusy (by decide) (by decide) hs)), State.dbgResult_get _ (by decide), rfl⟩
  · exact ⟨_, exec_tow (execWrite.eq_1 ..) hl (congrArg Host.Outcome.next
      (State.dbgCmd_outOfScope hon hbusy (by decide) (by decide) hs)), State.dbgResult_get _ (by decide), rfl⟩
  · have hcmd : s.dbgCmd n 1 = (s.dbgTaken n).dbgHalt n := by
      rw [State.dbgCmd_runs hon hbusy (by decide) (by decide), hs, if_neg (by decide), if_pos rfl]
    exact ⟨_, exec_tow (execHalt.eq_1 ..) hl (congrArg Host.Outcome.next hcmd), (State.haltTile_goes (s.dbgTaken n) n 1).done⟩
  · exact ⟨_, exec_tow (execStep.eq_1 ..) hl (congrArg Host.Outcome.next
      (State.dbgCmd_notHalted hon hbusy (by decide) (by decide) hs (by decide) hh)), State.dbgResult_get _ (by decide), rfl⟩
  · obtain ⟨htile, hrest, -⟩ := s.haltTile_goes n 3
    refine ⟨_, congrArg Host.Outcome.next (if_pos ⟨Option.isSome_iff_ne_none.mpr ht, hrun, ?_, hb⟩), htile, hrest⟩
    exact congrArg (!·) hh
  · refine ⟨_, congrArg Host.Outcome.next (if_neg ?_), rfl⟩
    rintro ⟨-, -, -, hbr⟩
    exact absurd (hbr.symm.trans hb) (by decide)
  · exact ⟨_, exec_live (execDebugRelock.eq_1 ..) hl (congrArg Host.Outcome.next (if_pos h)), rfl⟩
  · exact ⟨_, exec_live (execKfwCheck.eq_1 ..) hl (congrArg Host.Outcome.next (if_pos h)), rfl⟩
  · exact ⟨_, kfwCheck_due hl h true, rfl⟩
  · obtain ⟨hlevel, hid, hquar, h0, h1⟩ := State.alarm_quarantines 0x75 source.toNat s.validMask hlvl hq ha
    exact ⟨_, cglitch_raises hl hsrc, hlevel, hid, hquar, h0, h1⟩
  · have herased : ∀ t : State, t.Erased → t.eng = engAlarmed ∧ t.get Reg.KPR_STATE_LEVEL = 3 ∧ t.keeper.keys = false ∧
        t.keeper.wrapped = false ∧ t.sealKeys = [] ∧ t.modelKeys = [] ∧ t.prop 0 = none ∧ t.prop 1 = none :=
      fun t h => ⟨h.eng, h.level, h.keys, h.wrapped, h.sealKeys, h.modelKeys, h.prop0, h.prop1⟩
    have hpolicy : ∀ u : State, u.alarmLevel aKintegrity = 3 := fun _ => rfl
    refine ⟨fun f => ⟨_, exec_live (execKintegrity.eq_1 ..) hl rfl, herased _ ?_⟩, fun h => ⟨_, kfwCheck_due hl h false, herased _ ?_⟩⟩
    · exact State.alarm_erases 0x76 (keeperFaultCode f) s.validMask (hpolicy s) hlev hq hstop heng hdoms
    · exact State.alarm_erases (s := { s with keeper := { s.keeper with kfwAt := s.gtc } }) 0x76 (keeperFaultCode .kfw) s.validMask
        (hpolicy _) hlev hq hstop heng hdoms
  · exact ⟨_, congrArg Host.Outcome.next (if_neg (by rw [ho]; decide)), rfl⟩
  · exact ⟨_, congrArg Host.Outcome.next (if_pos hj), rfl⟩
  · have heq : exec (.jtagLockedInstruction code) s = .next (s.jtagLocked code.toNat) :=
      congrArg Host.Outcome.next (if_neg (by rw [hj]; decide))
    rw [State.jtagLocked_few s code.toNat hlen] at heq
    exact ⟨_, heq, rfl, List.mem_append_right _ (List.mem_singleton_self _), rfl, rfl⟩
  · exact ⟨_, congrArg Host.Outcome.next (if_neg (by rw [hj]; decide)), State.jtagLocked_attack code.toNat hlen hr hlvl⟩

end Sys2Proof.Machine

namespace Sys2Proof.Machine

/-! ## The dispatcher (spec chapter 06, R235-R267, R305-R308) -/

/-! ### A task leaves its tile (R308) -/

section Leave

variable {s t : State} {n : Nat}

/-- A change that leaves the tiles, the dispatcher's view of them, the reports and the registers. -/
structure State.KeepsTiles (s t : State) : Prop where
  tiles : t.tiles = s.tiles
  disp : t.disp = s.disp
  conc : t.conc = s.conc
  regs : t.regs = s.regs

theorem State.KeepsTiles.refl (s : State) : s.KeepsTiles s := ⟨rfl, rfl, rfl, rfl⟩

theorem State.KeepsTiles.trans {u : State} (h : s.KeepsTiles t) (h' : t.KeepsTiles u) : s.KeepsTiles u :=
  ⟨h'.tiles.trans h.tiles, h'.disp.trans h.disp, h'.conc.trans h.conc, h'.regs.trans h.regs⟩

theorem State.payWeir_keepsTiles (s : State) (q sentAt : Nat) : s.KeepsTiles (s.payWeir q sentAt) := by
  unfold State.payWeir
  split
  · exact .refl s
  · exact ⟨rfl, rfl, rfl, rfl⟩

theorem State.endRun_keepsTiles (s : State) (q i inst : Nat) (e : PktEnd) (st : RunStats) (k : Nat) :
    s.KeepsTiles (s.endRun q i inst e st k) := by
  have hcount : s.KeepsTiles (s.countRun q i k) := by
    unfold State.countRun
    split
    · exact ⟨rfl, rfl, rfl, rfl⟩
    · exact .refl s
  exact hcount.trans ⟨rfl, rfl, rfl, rfl⟩

theorem State.settleLoss_keepsTiles (s : State) (cid : Nat) : s.KeepsTiles (s.settleLoss cid) := by
  unfold State.settleLoss
  dsimp only
  split
  · exact ⟨rfl, rfl, rfl, rfl⟩
  · exact .refl s

/-- The tile is idle and keeps its registers and its store; the reports, and the registers but for the flush, stay. -/
structure State.Left (s : State) (n : Nat) (t : State) : Prop where
  core : (t.tile n).core = .idle
  task : (t.tile n).task = none
  st : (t.dtile n).st = .idle
  cur : (t.dtile n).cur = none
  sregs : (t.tile n).s = (s.tile n).s
  store : (t.tile n).store = (s.tile n).store
  conc : t.conc = s.conc
  get : ∀ g : Fld, g.key ≠ (Reg.CLS_TILE_CTRL_ISTORE_FLUSH n).key → t.get g = s.get g

theorem State.tile_updTile_put (s : State) (n : Nat) (f : Tile → Tile) (g : Fld) (v : Nat) :
    ((s.updTile n f).put g v).tile n = f (s.tile n) := State.tile_updTile_self ..

theorem State.freeTile_left (s : State) (n : Nat) : s.Left n (s.freeTile n) := by
  have htile : (s.freeTile n).tile n = { s.tile n with
      core := .idle, task := none, wait := none, call := none, fetch := none, exc := none, atEnd := false,
      barges := [], units := [], yielding := false, halted := false,
      istore := if s.on (Reg.CLS_TILE_CTRL_ISTORE_FLUSH n) = true then [] else (s.tile n).istore } :=
    State.tile_updTile_put ..
  have hview : (s.freeTile n).dtile n = { s.dtile n with st := .idle, cur := none, idleSince := s.dspTime, next := none } :=
    Tab.get_set_self ..
  exact ⟨by rw [htile], by rw [htile], by rw [hview], by rw [hview], by rw [htile], by rw [htile], rfl,
    fun g h => State.get_put_ne _ _ _ _ h⟩

theorem State.Left.after (h : s.KeepsTiles t) {u : State} (hu : t.Left n u) : s.Left n u := by
  have htile : t.tile n = s.tile n := by rw [State.tile, State.tile, h.tiles]
  obtain ⟨hcore, htask, hst, hcur, hs, hstore, hconc, hget⟩ := hu
  refine ⟨hcore, htask, hst, hcur, hs.trans (by rw [htile]), hstore.trans (by rw [htile]), hconc.trans h.conc, fun g hg => ?_⟩
  exact (hget g hg).trans (congrArg (fun r => Tab.get g.reset r g.key) h.regs)

theorem State.Left.before (h : s.Left n t) {u : State} (hu : t.KeepsTiles u) : s.Left n u := by
  have htile : u.tile n = t.tile n := by rw [State.tile, State.tile, hu.tiles]
  have hview : u.dtile n = t.dtile n := by rw [State.dtile, State.dtile, hu.disp]
  obtain ⟨hcore, htask, hst, hcur, hs, hstore, hconc, hget⟩ := h
  rw [← htile] at hcore htask hs hstore
  rw [← hview] at hst hcur
  refine ⟨hcore, htask, hst, hcur, hs, hstore, hu.conc.trans hconc, fun g hg => ?_⟩
  exact (congrArg (fun r => Tab.get g.reset r g.key) hu.regs : u.get g = t.get g).trans (hget g hg)

theorem State.leave_left (s : State) (n : Nat) (e : PktEnd) : s.Left n (s.leave n e) := by
  unfold State.leave
  split
  · exact s.freeTile_left n
  · next q i p r h =>
    have hfree := ((s.payWeir q r.sentAt).freeTile_left n).after (s.payWeir_keepsTiles q r.sentAt)
    refine hfree.before (State.KeepsTiles.trans ?_ ((State.endRun_keepsTiles ..).trans (State.settleLoss_keepsTiles ..)))
    exact ⟨rfl, rfl, rfl, rfl⟩

/-- What the obligation says of a tile whose task has left. -/
theorem State.Left.leaves (h : s.Left n t) : (t.tile n).core = .idle ∧ (t.tile n).task = none ∧ (t.dtile n).st = .idle ∧
    (t.dtile n).cur = none ∧ (t.tile n).s = (s.tile n).s ∧ (t.tile n).store = (s.tile n).store :=
  ⟨h.core, h.task, h.st, h.cur, h.sregs, h.store⟩

/-- A task that raised an exception leaves its tile, with the exception in the log and in CLS_TILE_EXC. -/
theorem taskException_leaves {tile : BitVec 6} (hl : s.domLive 3 = true) {q i : Nat} {p : Pkt} {r : Run} {e : TileExc}
    (hh : s.holder tile.toNat = some (q, i, p, r)) (he : (s.tile tile.toNat).exc = some e)
    (hc : (s.tile tile.toNat).core = .ending) (hb : (s.tile tile.toNat).barges = []) (hu : (s.tile tile.toNat).units = []) :
    Gives (.taskExceptionEnd tile) s fun t => ((t.tile tile.toNat).core = .idle ∧ (t.tile tile.toNat).task = none ∧
      (t.dtile tile.toNat).st = .idle ∧ (t.dtile tile.toNat).cur = none ∧ (t.tile tile.toNat).s = (s.tile tile.toNat).s ∧
      (t.tile tile.toNat).store = (s.tile tile.toNat).store) ∧ t.conc.nextId = s.conc.nextId + 1 ∧
      t.get (Reg.CLS_TILE_EXC_PC tile.toNat) = e.pc % (Reg.CLS_TILE_EXC_PC tile.toNat).size ∧
      t.get (Reg.CLS_TILE_EXC_CODE tile.toNat) = e.code % (Reg.CLS_TILE_EXC_CODE tile.toNat).size := by
  generalize hn : tile.toNat = n at *
  let out := if r.abort = some .cancelled then PktEnd.cancelled else .error e.code (uCLS (n / 4)) (some s.recId)
  have heq : exec (.taskExceptionEnd tile) s = .next ((((((s.tileFault n e.code (e.pc * 2 ^ 32 + n * 2 ^ 26 + e.detail)
      (s.tile n).cid (some q)).put (Reg.CLS_TILE_EXC_PC n) e.pc).put (Reg.CLS_TILE_EXC_CID n) (s.tile n).cid).put
      (Reg.CLS_TILE_EXC_CODE n) e.code).leave n out)) := by
    refine exec_live (execTaskExceptionEnd.eq_1 ..) hl (congrArg Host.Outcome.next ?_)
    simp [hn, hh, he, hc, hb, hu, out]
  refine ⟨_, heq, ?_⟩
  have hfiled : s.Filed (s.tileFault n e.code (e.pc * 2 ^ 32 + n * 2 ^ 26 + e.detail) (s.tile n).cid (some q)) 1 :=
    s.faultC_filed ..
  generalize s.tileFault n e.code (e.pc * 2 ^ 32 + n * 2 ^ 26 + e.detail) (s.tile n).cid (some q) = u at hfiled ⊢
  have htile : u.tile n = s.tile n := (congrArg (fun v : State => v.tile n) hfiled.rest :)
  have hleft := State.leave_left (((u.put (Reg.CLS_TILE_EXC_PC n) e.pc).put (Reg.CLS_TILE_EXC_CID n) (s.tile n).cid).put
    (Reg.CLS_TILE_EXC_CODE n) e.code) n out
  obtain ⟨hcore, htask, hst, hcur, hs, hstore⟩ := hleft.leaves
  refine ⟨⟨hcore, htask, hst, hcur, hs.trans (congrArg Tile.s htile), hstore.trans (congrArg Tile.store htile)⟩,
    (congrArg Conc.nextId hleft.conc).trans hfiled.nextId, ?_, ?_⟩
  · refine (hleft.get _ (by simp only [Fld.key, Reg.CLS_TILE_EXC_PC, Reg.CLS_TILE_CTRL_ISTORE_FLUSH]; omega)).trans ?_
    rw [State.get_put_ne _ _ _ _ (by simp only [Fld.key, Reg.CLS_TILE_EXC_PC, Reg.CLS_TILE_EXC_CODE]; omega),
      State.get_put_ne _ _ _ _ (by simp only [Fld.key, Reg.CLS_TILE_EXC_PC, Reg.CLS_TILE_EXC_CID]; omega)]
    exact State.get_put_self ..
  · refine (hleft.get _ (by simp only [Fld.key, Reg.CLS_TILE_EXC_CODE, Reg.CLS_TILE_EXC, Reg.CLS_TILE_CTRL_ISTORE_FLUSH, Reg.CLS_TILE_CTRL]; omega)).trans ?_
    exact State.get_put_self ..

end Leave

/-! ### Misses and budgets (R246-R253) -/

section Misses

variable {s : State} {q i : Nat} {p : Pkt}

theorem State.heldPkt_of_pkt (hp : (s.queue q).pkt i = some p) : s.heldPkt q i = some (p.cid, p) := by
  rw [State.heldPkt, hp]
  rfl

theorem Pkt.undecided_open (h : p.decided = false) : p.ended = none := by
  rw [Pkt.decided, Bool.or_eq_false_iff] at h
  simpa using h.1

/-- The state in which a miss or an overrun is recorded and counted, and noted in its packet. -/
def State.noted (s : State) (q i cid code detail : Nat) (f : Fld) (g : Pkt → Pkt) : State :=
  (((s.faultC code uDSP dspStop detail (some cid) (some q) none).sat f 1).missFor cid).updPkt q i g

theorem State.noted_post (hp : (s.queue q).pkt i = some p) (cid code detail : Nat) {f : Fld} {g : Pkt → Pkt}
    (hg : ∀ p, (g p).index = p.index) (h1 : f.key ≠ Reg.WAT_STATUS_HELD.key) (h2 : f.key ≠ Reg.WAT_STATUS_HOLD_OVF.key) :
    (s.noted q i cid code detail f g).conc.nextId = s.conc.nextId + 1 ∧
      (s.noted q i cid code detail f g).get f = min (s.get f + 1) (f.size - 1) ∧
      ((s.noted q i cid code detail f g).queue q).pkt i = some (g p) ∧
      (s.noted q i cid code detail f g).queue q = (s.queue q).updPkt i g := by
  have hfiled := s.faultC_filed code uDSP dspStop detail (some cid) (some q) none
  unfold State.noted
  generalize s.faultC code uDSP dspStop detail (some cid) (some q) none = u at *
  have hqueue : ((u.sat f 1).missFor cid).queue q = s.queue q := (congrArg (fun v : State => v.queue q) hfiled.rest :)
  refine ⟨hfiled.nextId, ?_, State.pkt_updPkt (by rw [hqueue]; exact hp) hg, ?_⟩
  · exact (State.get_sat_self ..).trans (by rw [hfiled.get f h1 h2])
  · rw [State.queue_updPkt, if_pos rfl, hqueue]

theorem State.withdraw_post (s : State) (q i : Nat) : (s.withdraw q i).queues = s.queues ∧ (s.withdraw q i).conc = s.conc ∧
    (s.withdraw q i).regs = s.regs := by
  unfold State.withdraw
  split
  · split <;> exact ⟨rfl, rfl, rfl⟩
  · exact ⟨rfl, rfl, rfl⟩

theorem Queue.policy_updPkt (x : Queue) (i : Nat) (f : Pkt → Pkt) : (x.updPkt i f).policy = x.policy := rfl

/-- An abort order for a run on a tile: its core stops issuing; the reports and the registers stay. -/
theorem State.abortRun_onTile (s : State) (q i : Nat) {r : Run} {n : Nat} (e : PktEnd) (hr : r.place = .onTile n) :
    ((s.abortRun q i r e).tile n).core = .ending ∧ (s.abortRun q i r e).conc = s.conc ∧ (s.abortRun q i r e).regs = s.regs := by
  have heq : s.abortRun q i r e = ((s.updPkt q i fun p => { p with runs := p.runs.map fun x =>
      if x.inst = r.inst then { x with abort := if x.abort.isSome then x.abort else some e } else x }).updTile n
        Tile.abortOrder).dropSusp q i (some r.inst) := by
    unfold State.abortRun
    rw [hr]
  rw [heq]
  exact ⟨congrArg Tile.core (State.tile_updTile_self ..), rfl, rfl⟩

theorem State.abortPkt_onTile {r : Run} {n : Nat} (e : PktEnd) (hp : (s.queue q).pkt i = some p) (hruns : p.runs = [r])
    (hr : r.place = .onTile n) : ((s.abortPkt q i e).tile n).core = .ending ∧ (s.abortPkt q i e).conc = s.conc ∧
      (s.abortPkt q i e).regs = s.regs := by
  rw [State.abortPkt, hp]
  dsimp only
  rw [hruns, List.foldl_cons, List.foldl_nil]
  exact State.abortRun_onTile (s.updPkt q i _) q i e hr

/-- A start-miss that is due (R246-R248). -/
theorem State.startMissOf_due {inst : Nat} (hp : (s.queue q).pkt i = some p) (hon : s.disp.on = true) (hd : p.decided = false)
    (htask : isTask p.raw = true) (hdl : noDeadline p.raw = false) (hst : p.st = .pooled) (hno : p.noMore = false)
    (hnext : p.nextInst ≤ inst) (hlt : inst < instCount p.raw) (hmiss : inst ∉ p.startMissed)
    (hpass : s.passed (latestStart p.raw) = true) :
    ∃ detail, s.startMissOf q i inst =
      let u := s.noted q i p.cid 0x20 detail Reg.DSP_MISS_COUNTS_START_MISS
        fun p => { p with startMiss := true, startMissed := inst :: p.startMissed }
      if (s.queue q).policy = 1 then u
      else if (s.queue q).policy = 2 then
        (u.withdraw q i).updPkt q i fun p =>
          let p := { p with noMore := true, firstEnd := if p.firstEnd.isSome then p.firstEnd else some (.error 0x20 uDSP (some s.recId)) }
          if p.runs.isEmpty then Pkt.finish (p.firstEnd.getD (.error 0x20 uDSP (some s.recId))) p else p
      else u.lose p.cid 0x20 (some s.recId) := by
  have hmiss' : p.startMissed.contains inst = false := by simpa using hmiss
  have hcond : s.disp.on = true ∧ isTask p.raw = true ∧ (!(noDeadline p.raw)) = true ∧ p.st = .pooled ∧ p.ended.isNone = true ∧
      (!p.noMore) = true ∧ p.nextInst ≤ inst ∧ inst < instCount p.raw ∧ (!(p.startMissed.contains inst)) = true ∧
      s.passed (latestStart p.raw) = true :=
    ⟨hon, htask, by rw [hdl]; rfl, hst, by rw [Pkt.undecided_open hd]; rfl, by rw [hno]; rfl, hnext, hlt, by rw [hmiss']; rfl, hpass⟩
  refine ⟨(s.queue q).policy * 2 ^ 60 + inst * 2 ^ 48 + latestStart p.raw, ?_⟩
  rw [State.startMissOf, State.heldPkt_of_pkt hp]
  dsimp only
  rw [if_pos hcond]
  rfl

/-- A finish-miss that is due (R246, R249). -/
theorem State.finishMissOf_due (hp : (s.queue q).pkt i = some p) (hon : s.disp.on = true) (hd : p.decided = false)
    (htask : isTask p.raw = true) (hdl : noDeadline p.raw = false) (hent : p.entered = true) (hmiss : p.finishMiss = false)
    (hpass : s.passed (pfld p.raw 0x28 6) = true) :
    ∃ detail, s.finishMissOf q i =
      let u := s.noted q i p.cid 0x21 detail Reg.DSP_MISS_COUNTS_FINISH_MISS fun p => { p with finishMiss := true }
      if (s.queue q).policy = 1 then u
      else if (s.queue q).policy = 2 then (u.withdraw q i).abortPkt q i (.error 0x21 uDSP (some s.recId))
      else u.lose p.cid 0x21 (some s.recId) := by
  have hcond : s.disp.on = true ∧ isTask p.raw = true ∧ (!(noDeadline p.raw)) = true ∧ p.entered = true ∧ (!p.decided) = true ∧
      (!p.finishMiss) = true ∧ s.passed (pfld p.raw 0x28 6) = true :=
    ⟨hon, htask, by rw [hdl]; rfl, hent, by rw [hd]; rfl, by rw [hmiss]; rfl, hpass⟩
  refine ⟨(s.queue q).policy * 2 ^ 60 + pfld p.raw 0x28 6, ?_⟩
  rw [State.finishMissOf, State.heldPkt_of_pkt hp]
  dsimp only
  rw [if_pos hcond]
  rfl

theorem Pkt.find_run {r : Run} {inst : Nat} (hruns : p.runs = [r]) (hinst : r.inst = inst) :
    p.runs.find? (·.inst == inst) = some r := by
  rw [hruns]
  simp [hinst]

/-- A budget overrun that is due under REPORT (R246, R253). -/
theorem State.budgetOf_due {r : Run} {inst : Nat} (hp : (s.queue q).pkt i = some p) (hon : s.disp.on = true)
    (hd : p.decided = false) (hpol : (s.queue q).policy = 1) (hruns : p.runs = [r]) (hinst : r.inst = inst)
    (habort : r.abort = none) (hover : r.overrun = false) (hrun : pfld p.raw 0x2E 2 * 100 ≤ s.runCount r) :
    ∃ detail, s.budgetOf q i inst = s.noted q i p.cid 0x22 detail Reg.DSP_BUDGET_COUNTS_OVERRUN
      fun p => { p with runs := p.runs.map fun x => if x.inst = inst then { x with overrun := true } else x } := by
  have hcond : s.disp.on = true ∧ (!p.decided) = true ∧ (!r.overrun) = true ∧ r.abort.isNone = true ∧
      pfld p.raw 0x2E 2 * 100 ≤ s.runCount r := ⟨hon, by rw [hd]; rfl, by rw [hover]; rfl, by rw [habort]; rfl, hrun⟩
  refine ⟨(s.queue q).policy * 2 ^ 60 + inst * 2 ^ 48 + s.dspTime % 2 ^ 48, ?_⟩
  rw [State.budgetOf, State.heldPkt_of_pkt hp]
  dsimp only
  rw [Pkt.find_run hruns hinst]
  dsimp only
  rw [if_pos hcond, if_pos hpol]
  rfl

/-- The hard limit of a REPORT task, reached (R253). -/
theorem State.budgetHardOf_due {r : Run} {inst : Nat} (hp : (s.queue q).pkt i = some p) (hon : s.disp.on = true)
    (hd : p.decided = false) (hpol : (s.queue q).policy = 1) (hruns : p.runs = [r]) (hinst : r.inst = inst)
    (habort : r.abort = none) (hover : r.overrun = true) (hrun : 4 * (pfld p.raw 0x2E 2 * 100) ≤ s.runCount r) :
    ∃ detail, s.budgetHardOf q i inst = (s.noted q i p.cid 0x23 detail Reg.DSP_BUDGET_COUNTS_HARD
      fun p => { p with noMore := true }).abortRun q i r (.error 0x23 uDSP (some s.recId)) := by
  have hcond : s.disp.on = true ∧ (!p.decided) = true ∧ r.overrun = true ∧ r.abort.isNone = true ∧ (s.queue q).policy = 1 ∧
      4 * (pfld p.raw 0x2E 2 * 100) ≤ s.runCount r := ⟨hon, by rw [hd]; rfl, hover, by rw [habort]; rfl, hpol, hrun⟩
  refine ⟨inst * 2 ^ 48 + s.dspTime % 2 ^ 48, ?_⟩
  rw [State.budgetHardOf, State.heldPkt_of_pkt hp]
  dsimp only
  rw [Pkt.find_run hruns hinst]
  dsimp only
  rw [if_pos hcond]
  rfl

/-- A run within its budget has neither an overrun nor reached the hard limit. -/
theorem State.budget_within {r : Run} {inst : Nat} (hp : (s.queue q).pkt i = some p) (hruns : p.runs = [r]) (hinst : r.inst = inst)
    (hrun : s.runCount r < pfld p.raw 0x2E 2 * 100) : s.budgetOf q i inst = s ∧ s.budgetHardOf q i inst = s := by
  rw [State.budgetOf, State.budgetHardOf, State.heldPkt_of_pkt hp]
  dsimp only
  rw [Pkt.find_run hruns hinst]
  dsimp only
  constructor
  · exact if_neg fun h => absurd h.2.2.2.2 (by omega)
  · exact if_neg fun h => absurd h.2.2.2.2.2 (by omega)

end Misses

/-- The clauses on misses and budgets. -/
theorem missesAndBudgets (s : State) (tile : BitVec 6) (hl : s.domLive 3 = true) (qid inst : BitVec 16) (index : BitVec 32) (p : Pkt) :
    let n := tile.toNat
    let sat := fun (t : State) (f : Fld) => t.get f = min (s.get f + 1) (f.size - 1)
    let q := qid.toNat % 32768
    (s.queue q).pkt index.toNat = some p → s.disp.on = true → p.decided = false →
    let id := s.conc.nextId
    let named := fun (t : State) => t.conc.nextId = id + 1
    let report := (s.queue q).policy = 1
    let abandon := (s.queue q).policy = 2
    (isTask p.raw = true → noDeadline p.raw = false →
      (p.st = .pooled → p.noMore = false → p.nextInst ≤ inst.toNat → inst.toNat < instCount p.raw →
        inst.toNat ∉ p.startMissed → s.passed (latestStart p.raw) = true →
        let miss := { p with startMiss := true, startMissed := inst.toNat :: p.startMissed }
        (report → Gives (.startMiss qid inst index) s fun t => named t ∧ sat t Reg.DSP_MISS_COUNTS_START_MISS ∧
          (t.queue q).pkt index.toNat = some miss) ∧
        (abandon → p.runs = [] → p.firstEnd = none → Gives (.startMiss qid inst index) s fun t => named t ∧
          sat t Reg.DSP_MISS_COUNTS_START_MISS ∧ (t.queue q).pkt index.toNat = some { miss with
            noMore := true, firstEnd := some (.error 0x20 uDSP (some id)), ended := some (.error 0x20 uDSP (some id)) })) ∧
      (p.entered = true → p.finishMiss = false → s.passed (pfld p.raw 0x28 6) = true →
        (report → Gives (.finishMiss qid index) s fun t => named t ∧ sat t Reg.DSP_MISS_COUNTS_FINISH_MISS ∧
          (t.queue q).pkt index.toNat = some { p with finishMiss := true }) ∧
        (∀ r, abandon → p.runs = [r] → r.abort = none → r.place = .onTile n → Gives (.finishMiss qid index) s fun t =>
          named t ∧ sat t Reg.DSP_MISS_COUNTS_FINISH_MISS ∧ (t.tile n).core = .ending))) ∧
    (∀ r, report → p.runs = [r] → r.inst = inst.toNat → r.abort = none →
      (r.overrun = false → pfld p.raw 0x2E 2 * 100 ≤ s.runCount r → Gives (.budgetOverrun qid inst index) s fun t =>
        named t ∧ sat t Reg.DSP_BUDGET_COUNTS_OVERRUN ∧
        (t.queue q).pkt index.toNat = some { p with runs := [{ r with overrun := true }] }) ∧
      (r.overrun = true → 4 * (pfld p.raw 0x2E 2 * 100) ≤ s.runCount r → r.place = .onTile n →
        Gives (.budgetHard qid inst index) s fun t => named t ∧ sat t Reg.DSP_BUDGET_COUNTS_HARD ∧
          (t.tile n).core = .ending) ∧
      (s.runCount r < pfld p.raw 0x2E 2 * 100 → Gives (.budgetOverrun qid inst index) s (· = s) ∧
        Gives (.budgetHard qid inst index) s (· = s))) := by
  intro n sat q hp hon hd id named report abandon
  have hstart : exec (.startMiss qid inst index) s = .next (s.startMissOf q index.toNat inst.toNat) :=
    exec_live (execStartMiss.eq_1 ..) hl rfl
  have hfinish : exec (.finishMiss qid index) s = .next (s.finishMissOf q index.toNat) := exec_live (execFinishMiss.eq_1 ..) hl rfl
  have hbudget : exec (.budgetOverrun qid inst index) s = .next (s.budgetOf q index.toNat inst.toNat) :=
    exec_live (execBudgetOverrun.eq_1 ..) hl rfl
  have hhard : exec (.budgetHard qid inst index) s = .next (s.budgetHardOf q index.toNat inst.toNat) :=
    exec_live (execBudgetHard.eq_1 ..) hl rfl
  refine ⟨fun htask hdl => ⟨fun hst hno hnext hlt hmissed hpass => ?_, fun hent hfm hpass => ?_⟩, fun r hpol hruns hinst habort =>
    ⟨fun hover hrun => ?_, fun hover hrun hplace => ?_, fun hrun => ?_⟩⟩
  · intro miss
    obtain ⟨detail, hmiss⟩ := State.startMissOf_due hp hon hd htask hdl hst hno hnext hlt hmissed hpass
    obtain ⟨hid, hget, hpkt, -⟩ := State.noted_post hp p.cid 0x20 detail (f := Reg.DSP_MISS_COUNTS_START_MISS)
      (g := fun p => { p with startMiss := true, startMissed := inst.toNat :: p.startMissed }) (fun _ => rfl) (by decide) (by decide)
    refine ⟨fun hpol => ?_, fun hpol hruns hfirst => ?_⟩
    · rw [hmiss, if_pos hpol] at hstart
      exact ⟨_, hstart, hid, hget, hpkt⟩
    · have hne : (s.queue q).policy ≠ 1 := by rw [hpol]; decide
      rw [hmiss, if_neg hne, if_pos hpol] at hstart
      refine ⟨_, hstart, ?_⟩
      generalize s.noted q index.toNat p.cid 0x20 detail Reg.DSP_MISS_COUNTS_START_MISS
        (fun p => { p with startMiss := true, startMissed := inst.toNat :: p.startMissed }) = u at *
      obtain ⟨hq, hc, hr⟩ := u.withdraw_post q index.toNat
      refine ⟨(congrArg Conc.nextId hc).trans hid,
        (congrArg (fun r => Tab.get Reg.DSP_MISS_COUNTS_START_MISS.reset r Reg.DSP_MISS_COUNTS_START_MISS.key) hr).trans hget, ?_⟩
      rw [State.pkt_updPkt (p := miss)]
      · simp [miss, hruns, hfirst, Pkt.finish, Pkt.undecided_open hd, State.recId, id]
      · rw [State.queue, hq]
        exact hpkt
      · intro p
        dsimp only
        split
        · exact Pkt.finish_index ..
        · rfl
  · obtain ⟨detail, hmiss⟩ := State.finishMissOf_due hp hon hd htask hdl hent hfm hpass
    obtain ⟨hid, hget, hpkt, -⟩ := State.noted_post hp p.cid 0x21 detail (f := Reg.DSP_MISS_COUNTS_FINISH_MISS)
      (g := fun p => { p with finishMiss := true }) (fun _ => rfl) (by decide) (by decide)
    refine ⟨fun hpol => ?_, fun r hpol hruns habort hplace => ?_⟩
    · rw [hmiss, if_pos hpol] at hfinish
      exact ⟨_, hfinish, hid, hget, hpkt⟩
    · have hne : (s.queue q).policy ≠ 1 := by rw [hpol]; decide
      rw [hmiss, if_neg hne, if_pos hpol] at hfinish
      refine ⟨_, hfinish, ?_⟩
      generalize s.noted q index.toNat p.cid 0x21 detail Reg.DSP_MISS_COUNTS_FINISH_MISS (fun p => { p with finishMiss := true }) = u at *
      obtain ⟨hq, hc, hr⟩ := u.withdraw_post q index.toNat
      obtain ⟨hcore, hconc, hregs⟩ := State.abortPkt_onTile (s := u.withdraw q index.toNat)
        (p := { p with finishMiss := true }) (.error 0x21 uDSP (some s.recId))
        (by rw [State.queue, hq]; exact hpkt) hruns hplace
      exact ⟨(congrArg Conc.nextId (hconc.trans hc)).trans hid, (congrArg (fun r =>
        Tab.get Reg.DSP_MISS_COUNTS_FINISH_MISS.reset r Reg.DSP_MISS_COUNTS_FINISH_MISS.key) (hregs.trans hr)).trans hget, hcore⟩
  · obtain ⟨detail, hmiss⟩ := State.budgetOf_due hp hon hd hpol hruns hinst habort hover hrun
    obtain ⟨hid, hget, hpkt, -⟩ := State.noted_post hp p.cid 0x22 detail (f := Reg.DSP_BUDGET_COUNTS_OVERRUN)
      (g := fun p => { p with runs := p.runs.map fun x => if x.inst = inst.toNat then { x with overrun := true } else x })
      (fun _ => rfl) (by decide) (by decide)
    rw [hmiss] at hbudget
    exact ⟨_, hbudget, hid, hget, hpkt.trans (by simp [hruns, hinst])⟩
  · obtain ⟨detail, hmiss⟩ := State.budgetHardOf_due hp hon hd hpol hruns hinst habort hover hrun
    obtain ⟨hid, hget, -, -⟩ := State.noted_post hp p.cid 0x23 detail (f := Reg.DSP_BUDGET_COUNTS_HARD)
      (g := fun p => { p with noMore := true }) (fun _ => rfl) (by decide) (by decide)
    rw [hmiss] at hhard
    refine ⟨_, hhard, ?_⟩
    generalize s.noted q index.toNat p.cid 0x23 detail Reg.DSP_BUDGET_COUNTS_HARD (fun p => { p with noMore := true }) = u at *
    obtain ⟨hcore, hconc, hregs⟩ := u.abortRun_onTile q index.toNat (.error 0x23 uDSP (some s.recId)) hplace
    exact ⟨(congrArg Conc.nextId hconc).trans hid, (congrArg (fun r =>
      Tab.get Reg.DSP_BUDGET_COUNTS_HARD.reset r Reg.DSP_BUDGET_COUNTS_HARD.key) hregs).trans hget, hcore⟩
  · obtain ⟨hover, hlimit⟩ := State.budget_within hp hruns hinst hrun
    rw [hover] at hbudget
    rw [hlimit] at hhard
    exact ⟨⟨_, hbudget, rfl⟩, ⟨_, hhard, rfl⟩⟩

end Sys2Proof.Machine

namespace Sys2Proof.Machine

/-! ## The dispatcher's cycle (R235-R241) and its hand-overs -/

section Cycle

variable {s : State} {q : Nat} {x : Queue} {p : Pkt}

/-- The one packet held is a task with no deadline of which nothing has started or ended. -/
structure State.Sole (s : State) (q : Nat) (x : Queue) (p : Pkt) : Prop where
  queues : s.queues = [(q, x)]
  pkts : x.pkts = [p]
  task : isTask p.raw = true
  noDeadline : noDeadline p.raw = true
  ended : p.ended = none
  runs : p.runs = []
  noMore : p.noMore = false
  nextInst : p.nextInst = 0

theorem State.Sole.queue (h : s.Sole q x p) : s.queue q = x := by
  rw [State.queue, h.queues, Tab.get]
  simp

theorem State.Sole.pkt (h : s.Sole q x p) : (s.queue q).pkt p.index = some p := by
  rw [h.queue, Queue.pkt, h.pkts]
  simp

theorem State.Sole.of_queues {u : State} (h : s.Sole q x p) (hu : u.queues = s.queues) : u.Sole q x p :=
  ⟨hu.trans h.queues, h.pkts, h.task, h.noDeadline, h.ended, h.runs, h.noMore, h.nextInst⟩

/-- The candidate that the one packet is for the pool. -/
def soleCand (q : Nat) (p : Pkt) : Cand := ⟨q, p.index, 0, none, p.entry, p.cid⟩

theorem State.Sole.candRaw (h : s.Sole q x p) : s.candRaw (soleCand q p) = p.raw := by
  rw [State.candRaw, soleCand, h.pkt]

theorem State.Sole.pool_pooled (h : s.Sole q x p) (hst : p.st = .pooled) (hop : opOf p.raw = 0x10) :
    s.pool = [soleCand q p] := by
  have hcount : instCount p.raw = 1 := by
    rw [instCount, hop]
    rfl
  rw [State.pool, h.queues, List.map_singleton, h.pkts, List.map_singleton, h.runs, if_pos]
  · rw [h.nextInst]
    rfl
  · exact ⟨h.task, hst, by rw [h.ended]; rfl, by rw [h.noMore]; rfl, by rw [h.nextInst, hcount]; decide⟩

theorem State.Sole.pool_offered (h : s.Sole q x p) (hst : p.st = .offered) : s.pool = [] := by
  rw [State.pool, h.queues, List.map_singleton, h.pkts, List.map_singleton, h.runs, if_neg]
  · rfl
  · rintro ⟨-, hpooled, -⟩
    exact absurd (hst.symm.trans hpooled) (by decide)

/-- No event of a TIME phase concerns a task with no deadline and no run. -/
theorem State.Sole.timePhase (h : s.Sole q x p) : s.timePhase = s := by
  have hheld := State.heldPkt_of_pkt h.pkt
  have hstart : ∀ k, s.startMissOf q p.index k = s := fun k => by
    rw [State.startMissOf, hheld]
    refine if_neg ?_
    rintro ⟨-, -, hdl, -⟩
    rw [h.noDeadline] at hdl
    exact absurd hdl (by decide)
  have hfinish : s.finishMissOf q p.index = s := by
    rw [State.finishMissOf, hheld]
    refine if_neg ?_
    rintro ⟨-, -, hdl, -⟩
    rw [h.noDeadline] at hdl
    exact absurd hdl (by decide)
  have hstarts : ∀ l : List Nat, l.foldl (fun s k => s.startMissOf q p.index k) s = s := List.foldl_fixed' hstart
  have htime : s.timeOf q p = s := by
    rw [State.timeOf, h.task, if_pos rfl, hstarts, hfinish, h.runs]
    exact ite_self s
  rw [State.timePhase, h.queues, List.foldl_cons, List.foldl_nil, h.pkts, List.foldl_cons, List.foldl_nil, htime]
  exact ite_self s

/-- The state in which a cycle has begun and its pick has been taken for sending. -/
def State.cycleBegun (s : State) : State := { s with disp := { s.disp with cycle := s.disp.cycle + 1, pick := none } }

theorem dispatcherCycle_eq (hl : s.domLive 3 = true) (hst : s.stalled (4 * dspStop) = false) (h : s.Sole q x p) :
    exec .dispatcherCycle s = .next ((s.cycleBegun.sendPhase s.disp.pick).pickPhase.demandPhase.enterPhase) := by
  have htime : ({ s with disp := { s.disp with cycle := s.disp.cycle + 1 } } : State).timePhase =
      { s with disp := { s.disp with cycle := s.disp.cycle + 1 } } :=
    State.Sole.timePhase (x := x) (h.of_queues rfl)
  refine exec_live (execDispatcherCycle.eq_1 ..) hl ?_
  rw [hst, if_neg Bool.false_ne_true]
  dsimp only
  rw [htime]
  rfl

/-! ### What the phases leave -/

theorem State.demandPhase_post (s : State) : s.demandPhase =
    { s with conc := s.demandPhase.conc, disp := { s.disp with demands := s.demandPhase.disp.demands } } := by
  have hfold : ∀ (l : List Nat) (u : State), l.foldl (fun s c => s.sendDemand c) u =
      { u with conc := (l.foldl (fun s c => s.sendDemand c) u).conc,
               disp := { u.disp with demands := (l.foldl (fun s c => s.sendDemand c) u).disp.demands } } := by
    intro l
    induction l with
    | nil => exact fun _ => rfl
    | cons c l ih =>
      intro u
      rw [List.foldl_cons]
      refine (ih _).trans ?_
      have hone : u.sendDemand c =
          { u with conc := (u.sendDemand c).conc, disp := { u.disp with demands := (u.sendDemand c).disp.demands } } := by
        unfold State.sendDemand
        extract_lets stands
        split <;> rfl
      generalize (l.foldl (fun s c => s.sendDemand c) (u.sendDemand c)) = v at *
      exact congrArg (fun w : State => { w with conc := v.conc, disp := { w.disp with demands := v.disp.demands } }) hone
  unfold State.demandPhase
  split
  · exact hfold _ s
  · rfl

theorem State.demandPhase_emptyPool (h : s.pool = []) : s.demandPhase = s := by
  rw [State.demandPhase, h]
  exact ite_self s

theorem State.enterPhase_post (s : State) : s.enterPhase = { s with queues := s.enterPhase.queues } := by
  have hpkts : ∀ (e : Nat × Queue) (l : List Pkt) (u : State), ∃ qs, l.foldl (fun s p =>
      if p.st = .offered ∧ isTask p.raw ∧ p.ended.isNone ∧ (isSerial p.raw → e.2.oldest p.index) then
        s.updPkt e.1 p.index fun p => { p with st := .pooled, entry := s.disp.cycle } else s) u = { u with queues := qs } := by
    intro e l
    induction l with
    | nil => exact fun u => ⟨u.queues, rfl⟩
    | cons p l ih =>
      intro u
      rw [List.foldl_cons]
      split
      · exact ih _
      · exact ih u
  have hqueues : ∀ (l : Tab Queue) (u : State), ∃ qs, l.foldl (fun s e => e.2.pkts.foldl (fun s p =>
      if p.st = .offered ∧ isTask p.raw ∧ p.ended.isNone ∧ (isSerial p.raw → e.2.oldest p.index) then
        s.updPkt e.1 p.index fun p => { p with st := .pooled, entry := s.disp.cycle } else s) s) u = { u with queues := qs } := by
    intro l
    induction l with
    | nil => exact fun u => ⟨u.queues, rfl⟩
    | cons e l ih =>
      intro u
      obtain ⟨qs, hone⟩ := hpkts e e.2.pkts u
      rw [List.foldl_cons, hone]
      exact ih _
  obtain ⟨qs, h⟩ := hqueues s.queues s
  have henter : s.enterPhase = { s with queues := qs } := h
  rw [henter]

theorem State.pickPhase_post (s : State) : s.pickPhase =
    { s with disp := { s.disp with lastPick := s.pickPhase.disp.lastPick, pick := s.pickPhase.disp.pick } } := by
  unfold State.pickPhase
  extract_lets spaced
  split
  · rfl
  · split <;> rfl

theorem State.pickPhase_emptyPool (h : s.pool = []) : s.pickPhase = s := by
  rw [State.pickPhase, h]
  exact ite_self s

/-- After SEND, a cycle changes neither the tiles nor the hand-overs nor a register. -/
theorem State.laterPhases_post (s : State) : (s.pickPhase.demandPhase.enterPhase).disp.tiles = s.disp.tiles ∧
    (s.pickPhase.demandPhase.enterPhase).disp.handovers = s.disp.handovers ∧
    (s.pickPhase.demandPhase.enterPhase).regs = s.regs := by
  rw [State.enterPhase_post, State.demandPhase_post, State.pickPhase_post]
  exact ⟨rfl, rfl, rfl⟩

/-! ### A cycle of one packet -/

/-- A task that is offered enters the pool. -/
theorem State.Sole.enters (h : s.Sole q x p) (hst : p.st = .offered) :
    s.enterPhase = { s with queues := [(q, { x with pkts := [{ p with st := .pooled, entry := s.disp.cycle }] })] } := by
  have hcond : p.st = .offered ∧ isTask p.raw = true ∧ p.ended.isNone = true ∧ (isSerial p.raw = true → x.oldest p.index = true) := by
    refine ⟨hst, h.task, by rw [h.ended]; rfl, fun _ => ?_⟩
    rw [Queue.oldest, h.pkts]
    exact beq_self_eq_true p.index
  rw [State.enterPhase, h.queues, List.foldl_cons, List.foldl_nil, h.pkts, List.foldl_cons, List.foldl_nil, if_pos hcond,
    State.updPkt, State.updQueue, h.queue, Queue.updPkt, h.pkts, List.map_singleton, if_pos rfl, State.setQueue, h.queues,
    Tab.set, if_pos rfl]

theorem State.chooseTiles_one (c : Cand) {l : List Nat} (h : l ≠ []) : ∃ m ∈ l, s.chooseTiles c 1 l = [m] := by
  have hchoose : ∃ m ∈ l, s.chooseTile c l = some m := by
    unfold State.chooseTile
    split
    · next t ht => exact ⟨t, List.mem_of_find?_eq_some ht, rfl⟩
    · split
      · next t ht => exact ⟨t, List.mem_of_find?_eq_some ht, rfl⟩
      · split
        · next t ht => exact ⟨t, List.mem_of_find?_eq_some ht, rfl⟩
        · obtain ⟨a, l, rfl⟩ := List.exists_cons_of_ne_nil h
          exact ⟨a, List.mem_cons_self, rfl⟩
  obtain ⟨m, hm, heq⟩ := hchoose
  refine ⟨m, hm, ?_⟩
  rw [State.chooseTiles, heq]
  rfl

/-- The one task in the pool is picked once the cycle is later than its entry. -/
theorem State.Sole.picks (h : s.Sole q x p) (hst : p.st = .pooled) (hop : opOf p.raw = 0x10) (hentry : p.entry < s.disp.cycle)
    (hon : s.disp.on = true) (hhold : s.on Reg.DSP_CTRL_HOLD = false) (hlast : s.disp.lastPick = none) (hpick : s.disp.pick = none)
    (htiles : s.tilesFor (soleCand q p) ≠ []) :
    s.pickPhase.disp.lastPick = some s.disp.cycle ∧
      ∃ m, s.pickPhase.disp.pick = some ⟨q, p.index, [(m, 0)], false⟩ ∧ m ∈ s.tilesFor (soleCand q p) := by
  obtain ⟨m, hm, hchosen⟩ := State.chooseTiles_one (s := s) (soleCand q p) htiles
  have hkeep : (decide ((soleCand q p).entry < s.disp.cycle) && !(s.tilesFor (soleCand q p)).isEmpty) = true := by
    rw [Bool.and_eq_true, decide_eq_true_iff]
    exact ⟨hentry, by simpa using htiles⟩
  have hbest : s.bestOf (s.pool.filter fun c => decide (c.entry < s.disp.cycle) && !(s.tilesFor c).isEmpty) = some (soleCand q p) := by
    rw [h.pool_pooled hst hop, List.filter_cons, if_pos hkeep]
    rfl
  have heq : s.pickPhase = { s with disp := { s.disp with
      lastPick := some s.disp.cycle, pick := some ⟨q, p.index, [(m, 0)], false⟩ } } := by
    rw [State.pickPhase, hlast, hon, hhold, hpick, if_neg (by simp), hbest]
    dsimp only
    rw [h.candRaw, hop, if_pos (Or.inr (by decide)), hchosen]
    rfl
  rw [heq]
  exact ⟨rfl, m, rfl, hm⟩

theorem State.sample_post (s : State) (kind raw code : Nat) (f : Nat → Bool) : s.sample kind raw code f =
    { s with conc := (s.sample kind raw code f).conc, mon := (s.sample kind raw code f).mon } := by
  have hone : ∀ (u : State) (k : Nat), u.sampleSlot raw code k =
      { u with conc := (u.sampleSlot raw code k).conc, mon := (u.sampleSlot raw code k).mon } := fun u k => by
    unfold State.sampleSlot
    extract_lets part v
    split <;> rfl
  have hfold : ∀ (l : List Nat) (u : State), ∃ c m, l.foldl (fun s k => s.sampleSlot raw code k) u = { u with conc := c, mon := m } := by
    intro l
    induction l with
    | nil => exact fun u => ⟨u.conc, u.mon, rfl⟩
    | cons k l ih =>
      intro u
      obtain ⟨c, m, h⟩ := ih (u.sampleSlot raw code k)
      refine ⟨c, m, h.trans ?_⟩
      rw [hone u k]
  obtain ⟨c, m, h⟩ := hfold (s.slotsOf kind f) s
  have hsample : s.sample kind raw code f = { s with conc := c, mon := m } := h
  rw [hsample]

/-- A task that is sent to a tile: the tile runs it, its hand-over is under way, and it counts. -/
theorem State.sendOne_post {i t inst : Nat} (hp : (s.queue q).pkt i = some p) :
    (s.sendOne q i t inst false).dtile t = { s.dtile t with st := .running, cur := some (q, i, inst) } ∧
      (s.sendOne q i t inst false).disp.handovers = s.disp.handovers ++ [(t, q, i, inst)] ∧
      (s.sendOne q i t inst false).get Reg.DSP_DISPATCHED_COUNT =
        (s.get Reg.DSP_DISPATCHED_COUNT + 1) % Reg.DSP_DISPATCHED_COUNT.size := by
  rw [State.sendOne, hp]
  dsimp only
  rw [if_neg Bool.false_ne_true, State.sample_post]
  exact ⟨Tab.get_set_self .., rfl, State.get_wrap_self ..⟩

/-- SEND hands the last pick over to the tile if it is still eligible. -/
theorem State.Sole.sends (h : s.Sole q x p) (hst : p.st = .pooled) (hop : opOf p.raw = 0x10) (hon : s.disp.on = true) (n : Nat) :
    s.sendPhase (some ⟨q, p.index, [(n, 0)], false⟩) =
      if (s.tilesFor (soleCand q p)).contains n = true then s.sendOne q p.index n 0 false else s := by
  have hfind : s.pool.find? (fun c => c.qid == q && c.index == p.index && c.slot.isSome == false && (!false || c.inst == 0)) =
      some (soleCand q p) := by
    rw [h.pool_pooled hst hop, List.find?_cons_of_pos]
    simp [soleCand]
  rw [State.sendPhase, hon, if_pos rfl, List.foldl_cons, List.foldl_nil, State.sendTo, hfind]
  rfl

end Cycle

/-- The clause on a cycle of one packet. -/
theorem dispatcherCycle_sole (s : State) (tile : BitVec 6) (hl : s.domLive 3 = true) (q : Nat) (x : Queue) (p : Pkt)
    (hst : s.stalled (4 * dspStop) = false) (hon : s.disp.on = true) (h : s.Sole q x p) :
    let n := tile.toNat
    let now := s.disp.cycle + 1
    let tiles := s.tilesFor ⟨q, p.index, 0, none, p.entry, p.cid⟩
    (p.st = .offered → s.disp.pick = none → Gives .dispatcherCycle s fun t => t.disp.cycle = now ∧ t.disp.pick = none ∧
      t.queues = [(q, { x with pkts := [{ p with st := .pooled, entry := now }] })]) ∧
    (p.st = .pooled → p.entry < now → opOf p.raw = 0x10 → s.disp.pick = none → s.get Reg.DSP_CTRL_HOLD = 0 →
      s.disp.lastPick = none → tiles ≠ [] → Gives .dispatcherCycle s fun t =>
        t.disp.lastPick = some now ∧ ∃ m, t.disp.pick = some ⟨q, p.index, [(m, 0)], false⟩ ∧ m ∈ tiles) ∧
    (p.st = .pooled → opOf p.raw = 0x10 → s.disp.pick = some ⟨q, p.index, [(n, 0)], false⟩ →
      (n ∈ tiles → Gives .dispatcherCycle s fun t => (t.dtile n).st = .running ∧ (t.dtile n).cur = some (q, p.index, 0) ∧
        t.disp.handovers = s.disp.handovers ++ [(n, q, p.index, 0)] ∧
        t.get Reg.DSP_DISPATCHED_COUNT = (s.get Reg.DSP_DISPATCHED_COUNT + 1) % Reg.DSP_DISPATCHED_COUNT.size) ∧
      (n ∉ tiles → Gives .dispatcherCycle s fun t => t.disp.handovers = s.disp.handovers ∧ t.dtile n = s.dtile n)) := by
  intro n now tiles
  have heq := dispatcherCycle_eq hl hst h
  have hu : s.cycleBegun.Sole q x p := h.of_queues rfl
  have htiles : s.cycleBegun.tilesFor (soleCand q p) = tiles := rfl
  refine ⟨fun hoff hpick => ?_, fun hpool hentry hop hpick hhold hlast hne => ?_, fun hpool hop hpick => ?_⟩
  · have hsend : s.cycleBegun.sendPhase s.disp.pick = s.cycleBegun := by
      rw [hpick]
      rfl
    have hempty := hu.pool_offered hoff
    rw [hsend, State.pickPhase_emptyPool hempty, State.demandPhase_emptyPool hempty, hu.enters hoff] at heq
    exact ⟨_, heq, rfl, rfl, rfl⟩
  · have hsend : s.cycleBegun.sendPhase s.disp.pick = s.cycleBegun := by
      rw [hpick]
      rfl
    obtain ⟨hlastPick, m, hm, hmem⟩ := hu.picks hpool hop hentry hon (State.on_of_zero hhold) hlast rfl (by rw [htiles]; exact hne)
    rw [hsend, State.enterPhase_post, State.demandPhase_post] at heq
    exact ⟨_, heq, hlastPick, m, hm, hmem⟩
  · rw [hpick, hu.sends hpool hop hon, htiles] at heq
    refine ⟨fun hin => ?_, fun hout => ?_⟩
    · rw [if_pos (by simpa using hin)] at heq
      refine ⟨_, heq, ?_⟩
      obtain ⟨hview, hover, hcount⟩ := State.sendOne_post (i := p.index) (t := n) (inst := 0) hu.pkt
      generalize s.cycleBegun.sendOne q p.index n 0 false = u at *
      obtain ⟨hdt, hho, hregs⟩ := u.laterPhases_post
      have hview' : (u.pickPhase.demandPhase.enterPhase).dtile n = u.dtile n := by rw [State.dtile, State.dtile, hdt]
      refine ⟨?_, ?_, hho.trans hover, ?_⟩
      · rw [hview', hview]
      · rw [hview', hview]
      · exact (congrArg (fun r => Tab.get Reg.DSP_DISPATCHED_COUNT.reset r Reg.DSP_DISPATCHED_COUNT.key) hregs).trans hcount
    · rw [if_neg (by simpa using hout)] at heq
      refine ⟨_, heq, ?_⟩
      obtain ⟨hdt, hho, -⟩ := s.cycleBegun.laterPhases_post
      exact ⟨hho, congrArg (fun l => Tab.get DTile.reset l n) hdt⟩

/-! ### A hand-over received (R38, R242, R307) -/

/-- The tile as the task begins on it. -/
def State.begun (s : State) (n q i k : Nat) (p : Pkt) : Tile :=
  (if (s.dtile n).lastCid = some p.cid then s.tile n else (s.tile n).fresh).begin n q i k p.cid p.raw p.refs (s.ctx p.cid).trapUnwritten

theorem Tile.begin_sreg (x : Tile) (tile q i k cid raw : Nat) (refs : List Ref) (trap : Bool) :
    (x.begin tile q i k cid raw refs trap).sreg 1 = BitVec.ofNat 32 k ∧
      (x.begin tile q i k cid raw refs trap).sreg 2 = BitVec.ofNat 32 (instCount raw) ∧
      (x.begin tile q i k cid raw refs trap).sreg 3 = BitVec.ofNat 32 tile ∧
      ∀ j, 3 < j → (x.begin tile q i k cid raw refs trap).sreg j = x.sreg j := by
  have hs : (x.begin tile q i k cid raw refs trap).s = ((x.s.set 1 (BitVec.ofNat 32 k)).set 2 (BitVec.ofNat 32 (instCount raw))).set 3
      (BitVec.ofNat 32 tile) := rfl
  refine ⟨?_, ?_, ?_, fun j hj => ?_⟩
  · rw [Tile.sreg, hs, if_neg (by decide), Tab.get_set_ne _ _ _ (by decide), Tab.get_set_ne _ _ _ (by decide), Tab.get_set_self]
  · rw [Tile.sreg, hs, if_neg (by decide), Tab.get_set_ne _ _ _ (by decide), Tab.get_set_self]
  · rw [Tile.sreg, hs, if_neg (by decide), Tab.get_set_self]
  · rw [Tile.sreg, Tile.sreg, hs, Tab.get_set_ne _ _ _ (by omega), Tab.get_set_ne _ _ _ (by omega), Tab.get_set_ne _ _ _ (by omega)]

theorem handover_begins {s : State} {tile : BitVec 6} (hl : s.domLive 3 = true) {q i k : Nat} {p : Pkt}
    (hfind : s.disp.handovers.find? (·.1 == tile.toNat) = some (tile.toNat, q, i, k))
    (hlive : s.domLive (clDom (tile.toNat / 4)) = true) (hidle : (s.tile tile.toNat).core = .idle)
    (hp : (s.queue q).pkt i = some p) (hab : ∀ r ∈ p.runs, r.abort = none) :
    Gives (.handover tile) s fun t => t.tile tile.toNat = s.begun tile.toNat q i k p ∧ (tile.toNat, q, i, k) ∉ t.disp.handovers := by
  generalize hn : tile.toNat = n at *
  let v : State := { s with disp := { s.disp with
    handovers := s.disp.handovers.filter fun (e : Nat × Nat × Nat × Nat) => e != (n, q, i, k) } }
  have hheld : v.heldPkt q i = some (p.cid, p) := State.heldPkt_of_pkt (s := v) hp
  have hrun : ∀ (u : State), (match p.runs.find? (·.inst == k) with
      | some r => if r.abort.isSome then u.updTile n Tile.abortOrder else u
      | none => u) = u := fun u => by
    split
    · next r hr =>
      rw [hab r (List.mem_of_find?_eq_some hr)]
      rfl
    · rfl
  have heq : exec (.handover tile) s = .next ((((v.setTile n (s.begun n q i k p)).phaseZero n).setDtile n
      { s.dtile n with lastCid := some p.cid, lastProg := progOf p.raw }).updPkt q i fun p =>
        { p with runs := p.runs.map fun r => if r.inst = k then { r with since := s.time n } else r }) := by
    refine exec_live (execHandover.eq_1 ..) hl (congrArg Host.Outcome.next ?_)
    dsimp only
    rw [hn, hfind]
    dsimp only
    rw [if_neg (by rw [hlive, hidle]; simp)]
    change (match v.heldPkt q i with
      | none => v
      | some (cid, p) => _) = _
    rw [hheld]
    exact hrun _
  refine ⟨_, heq, Tab.get_set_self .., ?_⟩
  change (n, q, i, k) ∉ s.disp.handovers.filter fun (e : Nat × Nat × Nat × Nat) => e != (n, q, i, k)
  simp

/-! ### State packets and claims (R264, R265) -/

theorem State.stateDone_load {s : State} {n q i : Nat} {p : Pkt} {img : List Byte} (hp : (s.queue q).pkt i = some p)
    (hop : opOf p.raw = 0x41) (himg : s.readVa p.cid (pfld p.raw 0x20 8) (imageSize p.raw) = .ok img) :
    s.stateDone n q i = ((s.updTile n fun x => x.loadImage (pfld p.raw 0x29 1 == 1) (pfld p.raw 0x2A 2) img).setDtile n
      { s.dtile n with claim := some q, st := .idle, cur := none, idleSince := s.dspTime }).updPkt q i (Pkt.finish .ok) := by
  rw [State.stateDone, State.heldPkt_of_pkt hp]
  dsimp only
  rw [hop, if_neg (by decide), himg]
  rfl

theorem State.stateDone_save {s u : State} {n q i : Nat} {p : Pkt} (hp : (s.queue q).pkt i = some p) (hop : opOf p.raw = 0x40)
    (hu : s.writeVa p.cid (pfld p.raw 0x20 8) ((s.tile n).image (pfld p.raw 0x29 1 == 1) (pfld p.raw 0x2A 2)) = .ok u) :
    s.stateDone n q i = (u.setDtile n { s.dtile n with
      claim := if (s.dtile n).claim = some q then none else (s.dtile n).claim, st := .idle, cur := none, idleSince := u.dspTime }).updPkt
        q i (Pkt.finish .ok) := by
  rw [State.stateDone, State.heldPkt_of_pkt hp]
  dsimp only
  rw [hop, if_pos rfl, hu]

theorem State.saveEcc_nil (s : State) {n : Nat} : s.saveEcc n [] = s := by
  rw [State.saveEcc, State.readEcc]
  split <;> rfl

/-- Settles O37: each event of the dispatcher changes its packet, its tile and its counts as the chapter says. -/
theorem dispatcherEvents : Obligations.DispatcherEvents := by
  unfold Obligations.DispatcherEvents
  intro s tile hl n d y now sat leaves
  refine ⟨fun hst => ?_, fun q x p hst hon hq hx htask hdl hended hruns hno hnext => ?_,
    fun qid inst index p => missesAndBudgets s tile hl qid inst index p, fun q i k p hfind hlive hidle hp hab => ?_,
    fun q i p r e hh hab hc he => ?_, fun hc hend he hb hu => ?_, fun q i p r e => taskException_leaves hl,
    fun q i k p hits hcur hst hp hended => ⟨fun img hop himg => ?_, fun u hop hu => ?_⟩, fun hcon hst => ?_⟩
  · exact ⟨_, exec_live (execDispatcherCycle.eq_1 ..) hl (if_pos hst), rfl⟩
  · exact dispatcherCycle_sole s tile hl q x p hst hon ⟨hq, hx, htask, hdl, hended, hruns, hno, hnext⟩
  · obtain ⟨t, heq, htile, hover⟩ := handover_begins hl hfind hlive hidle hp hab
    obtain ⟨h1, h2, h3, hrest⟩ := Tile.begin_sreg (if d.lastCid = some p.cid then y else y.fresh) n q i k p.cid p.raw p.refs
      (s.ctx p.cid).trapUnwritten
    have htile' : t.tile n = s.begun n q i k p := htile
    refine ⟨t, heq, ?_⟩
    simp only [htile']
    refine ⟨rfl, rfl, rfl, rfl, rfl, rfl, h1, h2, h3, hover, fun j hj => (hrest j hj).trans ?_⟩
    split
    · rfl
    · exact if_neg (by omega)
  · have heq : exec (.abortComplete tile) s = .next (s.leave n e) := by
      refine exec_live (execAbortComplete.eq_1 ..) hl (congrArg Host.Outcome.next ?_)
      rw [hh]
      dsimp only
      rw [hab]
      exact if_pos ⟨hc, congrArg Option.isNone he⟩
    exact ⟨_, heq, (s.leave_left n e).leaves⟩
  · have heq : exec (.taskEnd tile) s = .next (s.leave n .ok) :=
      exec_live (execTaskEnd.eq_1 ..) hl (congrArg Host.Outcome.next (if_pos
        ⟨hc, hend, congrArg Option.isNone he, congrArg List.isEmpty hb, congrArg List.isEmpty hu⟩))
    exact ⟨_, heq, (s.leave_left n .ok).leaves⟩
  · have heq : exec (.swapComplete tile hits) s = .next (s.stateDone n q i) := by
      refine exec_live (execSwapComplete.eq_1 ..) hl (congrArg Host.Outcome.next ?_)
      dsimp only
      rw [hcur]
      dsimp only
      rw [hp]
      dsimp only
      rw [if_pos hst, hop]
      exact if_neg (by decide)
    rw [State.stateDone_load hp hop himg] at heq
    have hview : ∀ u : State, ∀ d : DTile, ((u.setDtile n d).updPkt q i (Pkt.finish .ok)).dtile n = d := fun u d =>
      Tab.get_set_self ..
    refine ⟨_, heq, ?_, ?_, ?_, ?_, State.pkt_updPkt hp fun _ => Pkt.finish_index ..⟩
    · rw [hview]
    · rw [hview]
    · rw [hview]
    · exact State.tile_updTile_self s n fun x => x.loadImage (pfld p.raw 0x29 1 == 1) (pfld p.raw 0x2A 2) img
  · have heq : exec (.swapComplete tile []) s = .next (s.stateDone n q i) := by
      refine exec_live (execSwapComplete.eq_1 ..) hl (congrArg Host.Outcome.next ?_)
      dsimp only
      rw [hcur]
      dsimp only
      rw [hp]
      dsimp only
      rw [if_pos hst, hop, if_pos rfl, State.saveEcc_nil]
    rw [State.stateDone_save hp hop hu] at heq
    have hsans : u.sansBytes = s.sansBytes := State.writeVaBy_sansBytes _ hu
    have hview : ∀ u : State, ∀ d : DTile, ((u.setDtile n d).updPkt q i (Pkt.finish .ok)).dtile n = d := fun u d =>
      Tab.get_set_self ..
    have hpkt : (u.queue q).pkt i = some p := (congrArg (fun v : State => (v.queue q).pkt i) hsans : _).trans hp
    refine ⟨_, heq, ?_, ?_, ?_, ?_, rfl, State.pkt_updPkt (s := u.setDtile n _) hpkt fun _ => Pkt.finish_index ..⟩
    · rw [hview]
    · rw [hview]
    · rw [hview]
    · exact (congrArg (fun v : State => v.tile n) hsans :)
  · intro due
    refine ⟨fun hdue => ?_, fun hdue => ?_⟩
    · refine ⟨_, exec_live (execClaimLapse.eq_1 ..) hl (congrArg Host.Outcome.next (if_pos ⟨hcon, hst, hdue⟩)), ?_, ?_, ?_⟩
      · exact Tab.get_set_self ..
      · exact congrArg Tile.written (State.tile_updTile_self (s.setDtile n { d with claim := none }) n
          fun x => { x with written := [] })
      · exact State.get_sat_self ..
    · refine ⟨_, exec_live (execClaimLapse.eq_1 ..) hl (congrArg Host.Outcome.next (if_neg ?_)), rfl⟩
      rintro ⟨-, -, h⟩
      exact absurd h (Nat.not_le.mpr hdue)

end Sys2Proof.Machine

namespace Sys2Proof.Machine

/-! ## The frame sequencer and the sensor port (spec chapter 03, R117-R127) -/

theorem exec_n7 {I : Instr} {s t : State} {f : State → State} (hI : exec I s = whenN7 s f) (h : s.yard = false) (hf : f s = t) :
    exec I s = .next t := by
  rw [hI, whenN7, h, if_neg Bool.false_ne_true, hf]

section Captures

variable {s : State} {c : Capture} {o : Order}

/-! ### A capture starts and ends -/

theorem State.setSt_post (s : State) {d : Nat} (st : DomSt) (hd : d < 12) :
    s.setSt d st = { s with doms := (s.setSt d st).doms, conc := (s.setSt d st).conc, regs := (s.setSt d st).regs } ∧
      ((s.setSt d st).dom d).st = st ∧
      ∀ g : Fld, g.key ≠ Reg.MON_DROPS_TRACE_DROP.key → (s.setSt d st).get g = s.get g := by
  have hturns : s.clusterTurns d st = s := if_pos hd
  unfold State.setSt
  split
  · next h => exact ⟨rfl, h, fun _ _ => rfl⟩
  · rw [hturns]
    dsimp only
    obtain ⟨hrest, hget⟩ := (s.setDom d { s.dom d with st := st, since := s.gtc }).trace_rest 6 uSEQ none (d + domCode st * 256) s.gtc
    generalize (s.setDom d { s.dom d with st := st, since := s.gtc }).trace 6 uSEQ none (d + domCode st * 256) s.gtc = t at *
    refine ⟨by rw [hrest]; rfl, ?_, hget⟩
    rw [hrest]
    exact congrArg Dom.st (Tab.get_set_self ..)

/-- PD11 begins to open. -/
theorem State.startDomain_sensor (s : State) : (s.startDomain 11).island = s.island ∧ ((s.startDomain 11).dom 11).st = .railWait ∧
      (s.startDomain 11).get Reg.WAT_STATUS_SEQ_STATE = s.get Reg.WAT_STATUS_SEQ_STATE := by
  let u : State := { s with gates := s.gates.drop (· == 11) }
  let v := u.setDom 11 { u.dom 11 with ramp := if u.supplied 11 then .pending else .none, trainDue := false, ready := false }
  have heq : s.startDomain 11 = v.setSt 11 .railWait := if_neg fun h => h.2 rfl
  obtain ⟨hrest, hst, hget⟩ := v.setSt_post .railWait (d := 11) (by decide)
  rw [heq]
  exact ⟨(congrArg State.island hrest :), hst, hget _ (by decide)⟩

/-- PD11 switched off: it is closed, and the island's registers stay. -/
theorem State.switchOff_sensor (s : State) : ((s.switchOff false 11 .closed).dom 11).st = .closed ∧
    (s.switchOff false 11 .closed).get Reg.WAT_STATUS_SEQ_STATE = s.get Reg.WAT_STATUS_SEQ_STATE := by
  let u := s.setDom 11 { s.dom 11 with ramp := .none, trainDue := false, ready := false }
  have hclose : ∀ v : State, v.closeFx false 11 = (v.closeRegs false 11).dropCopies 11 := fun _ => rfl
  have heq : s.switchOff false 11 .closed = ((u.setSt 11 .closed).closeRegs false 11).dropCopies 11 := hclose _
  obtain ⟨-, hst, hget⟩ := u.setSt_post .closed (d := 11) (by decide)
  rw [heq]
  refine ⟨hst, ?_⟩
  refine (Tab.get_drop Reg.WAT_STATUS_SEQ_STATE.reset _ (u.setSt 11 .closed).regs Reg.WAT_STATUS_SEQ_STATE.key).trans ?_
  exact (if_neg (by decide)).trans (hget _ (by decide))

theorem State.endCapture_post (s : State) : s.endCapture.seqState = seqClosing ∧ s.endCapture.island.capture = none ∧
    s.endCapture.conc = s.conc ∧ s.endCapture.island.ready = s.island.ready ∧ s.endCapture.island.frames = s.island.frames ∧
    s.endCapture.tiles = s.tiles ∧ ∀ g : Fld, g.key ≠ Reg.WAT_STATUS_SEQ_STATE.key → s.endCapture.get g = s.get g := by
  unfold State.endCapture
  extract_lets i seen run j
  have hj : j.ready = s.island.ready ∧ j.frames = s.island.frames := by
    simp only [j]
    split <;> exact ⟨rfl, rfl⟩
  exact ⟨State.get_put_self .., rfl, rfl, hj.1, hj.2, rfl, fun g h => State.get_put_ne _ _ _ _ h⟩

/-- A capture that fails ends as an error with its record. -/
theorem State.captureError_post (s : State) (code detail : Nat) (u : State) (hu : u = s.watFault code detail ∨
    u = (s.watFault code detail).tookFree) :
    u.captureError.island.capture = none ∧ u.captureError.seqState = seqClosing ∧
      u.captureError.get Reg.WAT_COUNTS_ERRORS = min (s.get Reg.WAT_COUNTS_ERRORS + 1) (Reg.WAT_COUNTS_ERRORS.size - 1) ∧
      u.captureError.conc.nextId = s.conc.nextId + 1 := by
  have hfiled : s.Filed (s.watFault code detail) 1 := s.fault_filed ..
  have hget : u.get Reg.WAT_COUNTS_ERRORS = s.get Reg.WAT_COUNTS_ERRORS := by
    rcases hu with rfl | rfl <;> exact hfiled.get _ (by decide) (by decide)
  have hid : u.conc.nextId = s.conc.nextId + 1 := by
    rcases hu with rfl | rfl <;> exact hfiled.nextId
  obtain ⟨hseq, hcap, hconc, -, -, -, hends⟩ := (u.sat Reg.WAT_COUNTS_ERRORS 1).endCapture_post
  refine ⟨hcap, hseq, (hends _ (by decide)).trans ((State.get_sat_self ..).trans (by rw [hget])), ?_⟩
  exact (congrArg Conc.nextId hconc).trans hid

theorem captureStart_ready (hy : s.yard = false) (hrun : s.get Reg.WAT_CTRL_RUN = 1)
    (hprog : s.get Reg.WAT_STATUS_PROG_STATE = 1 ∨ s.get Reg.WAT_STATUS_PROG_STATE = 2) (hport : s.get Reg.WAT_STATUS_PORT_DOWN = 0)
    (hi3c : s.island.i3cStop = false) (hstop : s.inStoppage 5 0 = false) (hseq : s.seqState = seqIdle)
    (p0 n0 p1 n1 pc nc : LineSt) :
    (s.periodOver = false → Gives (.captureStart p0 n0 p1 n1 pc nc) s (· = s)) ∧
    (s.periodOver = true → s.capturesSuspended = true ∨ s.freeBuf = none →
      Gives (.captureStart p0 n0 p1 n1 pc nc) s fun t => t.island = { s.island with periodAt := some (s.time copyIsland) } ∧
        t.get Reg.WAT_COUNTS_SKIPPED = min (s.get Reg.WAT_COUNTS_SKIPPED + 1) (Reg.WAT_COUNTS_SKIPPED.size - 1)) ∧
    (∀ b, s.periodOver = true → s.capturesSuspended = false → s.freeBuf = some b → s.island.linkUp = false →
      Gives (.captureStart p0 n0 p1 n1 pc nc) s fun t => t.seqState = seqOpening ∧
        t.island = { s.island with periodAt := some (s.time copyIsland), capture := some ⟨b, false, none, 0, none, false, false, false, false, []⟩ } ∧
        ((s.dom 11).st = .closed → (t.dom 11).st = .railWait)) := by
  have hready : (s.on Reg.WAT_CTRL_RUN && (s.get Reg.WAT_STATUS_PROG_STATE == 1 || s.get Reg.WAT_STATUS_PROG_STATE == 2) &&
      !(s.on Reg.WAT_STATUS_PORT_DOWN) && !s.island.i3cStop && !(s.inStoppage 5 0) && s.seqState == seqIdle) = true := by
    have hp : (s.get Reg.WAT_STATUS_PROG_STATE == 1 || s.get Reg.WAT_STATUS_PROG_STATE == 2) = true := by
      rcases hprog with h | h <;> rw [h] <;> rfl
    rw [State.on_of_one hrun, hp, State.on_of_zero hport, hi3c, hstop, hseq]
    rfl
  let v : State := { s with island := { s.island with periodAt := some (s.time copyIsland) } }
  have hsus : v.capturesSuspended = s.capturesSuspended := rfl
  have hbuf : v.freeBuf = s.freeBuf := rfl
  refine ⟨fun hover => ?_, fun hover hskip => ?_, fun b hover hns hfree hup => ?_⟩
  · refine ⟨_, exec_n7 (execCaptureStart.eq_1 ..) hy ?_, rfl⟩
    dsimp only
    rw [hready, hover]
    rfl
  · have heq : exec (.captureStart p0 n0 p1 n1 pc nc) s = .next (v.sat Reg.WAT_COUNTS_SKIPPED 1) := by
      refine exec_n7 (execCaptureStart.eq_1 ..) hy ?_
      dsimp only
      rw [hready, hover, if_neg (by decide)]
      rcases hskip with hs | hs
      · exact if_pos (hsus.trans hs)
      · rw [hbuf.trans hs]
        exact ite_self _
    exact ⟨_, heq, rfl, State.get_sat_self ..⟩
  · let w : State := ({ v with island := { v.island with
      capture := some ⟨b, s.island.linkUp, none, 0, none, false, false, false, false, []⟩ } } : State).put Reg.WAT_STATUS_SEQ_STATE seqOpening
    have heq : exec (.captureStart p0 n0 p1 n1 pc nc) s = .next (if (s.dom 11).st = .closed then w.startDomain 11 else w) := by
      refine exec_n7 (execCaptureStart.eq_1 ..) hy ?_
      dsimp only
      rw [hready, hover, if_neg (by decide), if_neg (by rw [hsus, hns]; decide), hbuf.trans hfree]
      have hnot : ¬s.island.linkUp = true := by rw [hup]; decide
      dsimp only
      rw [if_neg fun h => hnot h.1, if_neg hnot]
      rfl
    have hw : w.island = { s.island with
        periodAt := some (s.time copyIsland),
        capture := some ⟨b, false, none, 0, none, false, false, false, false, []⟩ } :=
      congrArg (fun up => { s.island with
        periodAt := some (s.time copyIsland), capture := some ⟨b, up, none, 0, none, false, false, false, false, []⟩ }) hup
    refine ⟨_, heq, ?_⟩
    obtain ⟨hisl, hst, hget⟩ := w.startDomain_sensor
    split
    · exact ⟨hget.trans (State.get_put_self ..), hisl.trans hw, fun _ => hst⟩
    · next h => exact ⟨State.get_put_self .., hw, fun h' => absurd h' h⟩

/-! ### The order and its trigger writes -/

theorem captureOrder_sent (hy : s.yard = false) (hc : s.island.capture = some c) (hseq : s.seqState = seqOpening)
    (hopen : s.domOpen 11 = true) (hel : 10 ≤ s.elapsed 11) :
    (s.frameOk = true → (s.gateOf 11).at_ ≠ some s.gtc → Gives .captureOrder s fun t =>
      t.island.capture = some { c with order := some (s.orderNow c.buf) } ∧ t.frameIn c.buf = none ∧ c.buf ∉ t.island.ready ∧
      t.seqState = if (s.orderNow c.buf).triggers = [] then seqCapture else seqTrigger) ∧
    (s.frameOk = false → Gives .captureOrder s fun t => t.island.capture = none ∧ t.seqState = seqClosing ∧
      t.conc.nextId = s.conc.nextId + 1) := by
  have hgo : ¬(s.seqState ≠ seqOpening ∨ (!(s.domOpen 11)) = true ∨ s.elapsed 11 < 10) := by
    rw [hopen]
    rintro (h | h | h)
    · exact h hseq
    · exact absurd h (by decide)
    · omega
  have heq : exec .captureOrder s = .next (if (!s.frameOk) = true then (s.watFault 0x69 0).endCapture
      else s.gateAct 11 5 fun s => (({ s with island := { s.island with
        frames := s.island.frames.set c.buf none, ready := s.island.ready.filter (· != c.buf) } } : State).setCapture
          { c with order := some (s.orderNow c.buf) }).toTrigger (s.orderNow c.buf)) := by
    refine exec_n7 (execCaptureOrder.eq_1 ..) hy ?_
    rw [hc]
    exact if_neg hgo
  refine ⟨fun hok hgate => ?_, fun hbad => ?_⟩
  · obtain ⟨g, hact⟩ := State.gateAct_now (s := s) (d := 11) (rank := 5) (fun s => (({ s with island := { s.island with
        frames := s.island.frames.set c.buf none, ready := s.island.ready.filter (· != c.buf) } } : State).setCapture
          { c with order := some (s.orderNow c.buf) }).toTrigger (s.orderNow c.buf)) hgate
    rw [hok, if_neg (by decide), hact] at heq
    refine ⟨_, heq, rfl, Tab.get_set_self .., ?_, (State.get_put_self ..).trans ?_⟩
    · change c.buf ∉ s.island.ready.filter (· != c.buf)
      simp
    · rw [show State.orderNow { s with gates := s.gates.set 11 g } c.buf = s.orderNow c.buf from rfl]
      by_cases h : (s.orderNow c.buf).triggers = []
      · rw [h]
        rfl
      · rw [if_neg h, if_neg (by simpa using h)]
        rfl
  · rw [hbad, if_pos (by decide)] at heq
    obtain ⟨hclosing, hcap, hconc, -⟩ := (s.watFault 0x69 0).endCapture_post
    exact ⟨_, heq, hcap, hclosing, (congrArg Conc.nextId hconc).trans (s.fault_filed ..).nextId⟩

/-- The order of the capture under way. -/
theorem State.captureOrder_bind (hc : s.island.capture = some c) (ho : c.order = some o) :
    (s.island.capture.bind fun c => c.order.map fun o => (c, o)) = some (c, o) := by
  rw [hc, Option.bind_some, ho]
  rfl

theorem State.triggerDone_post (s : State) (c : Capture) {o : Order} {e : Nat × Nat × Nat} {rest : List (Nat × Nat × Nat)}
    (h : o.triggers = e :: rest) : (s.triggerDone c o).seqState = (if rest = [] then seqCapture else seqTrigger) ∧
      (s.triggerDone c o).island = { s.island with capture := some { c with order := some { o with triggers := rest } } } := by
  have hdrop : o.triggers.drop 1 = rest := by rw [h]; rfl
  rw [State.triggerDone, hdrop]
  refine ⟨(State.get_put_self ..).trans ?_, rfl⟩
  cases rest with
  | nil => rfl
  | cons e rest => rfl

theorem triggerWrites (hy : s.yard = false) (hc : s.island.capture = some c) (ho : c.order = some o)
    (hseq : s.seqState = seqTrigger) (hopen : s.domOpen 11 = true) :
    let i := s.island
    let failed := fun (t : State) => t.island.capture = none ∧ t.seqState = seqClosing ∧
      t.get Reg.WAT_COUNTS_ERRORS = min (s.get Reg.WAT_COUNTS_ERRORS + 1) (Reg.WAT_COUNTS_ERRORS.size - 1) ∧
      t.conc.nextId = s.conc.nextId + 1
    (∀ e rest, o.triggers = e :: rest →
      let goesOn := fun (l : List I3cBus) (t : State) => t.seqState = (if rest = [] then seqCapture else seqTrigger) ∧
        t.island = { i with i3cOut := i.i3cOut ++ .write e.1 e.2.1 e.2.2 :: l,
                            capture := some { c with order := some { o with triggers := rest } } }
      (Gives (.triggerWrite .done) s (goesOn [])) ∧ (Gives (.i3cBusRecovery true) s (goesOn [.busClear]))) ∧
    (Gives (.triggerWrite .failed) s failed) ∧
    (∀ a : BitVec 7, Gives (.triggerWrite (.entdaa a)) s fun t =>
      t.island = { i with i3cOut := i.i3cOut ++ [.entdaa a.toNat], targets := entdaa i.targets a.toNat }) ∧
    (∀ h, Gives (.triggerWrite (.request h)) s fun t => t.island = { i with i3cOut := i.i3cOut ++ [.nack h] }) ∧
    (Gives (.i3cBusRecovery false) s fun t => failed t ∧ t.island.i3cStop = true) := by
  intro i failed
  have hbind := State.captureOrder_bind hc ho
  refine ⟨fun e rest htr => ⟨?_, ?_⟩, ?_, fun a => ?_, fun h => ?_, ?_⟩
  · have heq : exec (.triggerWrite .done) s = .next ((s.i3cDrives (.write e.1 e.2.1 e.2.2)).triggerDone c o) := by
      refine exec_n7 (execTriggerWrite.eq_1 .done s) hy ?_
      rw [hbind]
      dsimp only
      rw [hopen, if_neg (by decide), hseq, htr]
      rfl
    obtain ⟨hst, hisl⟩ := State.triggerDone_post (s.i3cDrives (.write e.1 e.2.1 e.2.2)) c htr
    exact ⟨_, heq, hst, hisl⟩
  · have heq : exec (.i3cBusRecovery true) s = .next (((s.i3cDrives (.write e.1 e.2.1 e.2.2)).i3cDrives .busClear).triggerDone c o) := by
      refine exec_n7 (execI3cBusRecovery.eq_1 ..) hy ?_
      rw [hbind]
      dsimp only
      rw [if_neg (by simpa using hseq), if_pos rfl, htr]
    obtain ⟨hst, hisl⟩ := State.triggerDone_post ((s.i3cDrives (.write e.1 e.2.1 e.2.2)).i3cDrives .busClear) c htr
    refine ⟨_, heq, hst, hisl.trans ?_⟩
    simp [State.i3cDrives, i]
  · have heq : exec (.triggerWrite .failed) s = .next ((s.watFault 0x6A (s.freeVal 64)).tookFree).captureError := by
      refine exec_n7 (execTriggerWrite.eq_1 .failed s) hy ?_
      rw [hbind]
      dsimp only
      rw [hopen, if_neg (by decide)]
      exact if_pos hseq
    exact ⟨_, heq, s.captureError_post 0x6A (s.freeVal 64) _ (.inr rfl)⟩
  · have heq : exec (.triggerWrite (.entdaa a)) s = .next (({ s with island := { s.island with
        targets := entdaa s.island.targets a.toNat } } : State).i3cDrives (.entdaa a.toNat)) := by
      refine exec_n7 (execTriggerWrite.eq_1 (.entdaa a) s) hy ?_
      rw [hbind]
      dsimp only
      rw [hopen, if_neg (by decide)]
    exact ⟨_, heq, rfl⟩
  · have heq : exec (.triggerWrite (.request h)) s = .next (s.i3cDrives (.nack h)) := by
      refine exec_n7 (execTriggerWrite.eq_1 (.request h) s) hy ?_
      rw [hbind]
      dsimp only
      rw [hopen, if_neg (by decide)]
    exact ⟨_, heq, rfl⟩
  · let u := ((s.i3cDrives .busClear).i3cDrives .busClear).i3cDrives .busClear
    let t := ((u.watFault 0x6A (u.freeVal 64)).tookFree).captureError
    have heq : exec (.i3cBusRecovery false) s = .next { t with island := { t.island with i3cStop := true } } := by
      refine exec_n7 (execI3cBusRecovery.eq_1 ..) hy ?_
      rw [hbind]
      dsimp only
      rw [if_neg (by simpa using hseq), if_neg Bool.false_ne_true]
    obtain ⟨hcap, hst, hcount, hid⟩ := u.captureError_post 0x6A (u.freeVal 64) _ (.inr rfl)
    exact ⟨_, heq, ⟨hcap, hst, hcount, hid⟩, rfl⟩

/-! ### What the receiver takes -/

/-- Lines that are not binned are stored as they came. -/
theorem binRow_one (row : List Nat) : binRow 1 [row] = row := by
  unfold binRow
  dsimp only
  rw [List.foldl_cons, List.foldl_nil, List.headD_cons, min_self, Nat.div_one]
  refine List.ext_getElem (by simp) fun k h1 h2 => ?_
  rw [List.getElem_map, List.getElem_range, List.foldl_cons, List.foldl_nil, Nat.one_mul, List.drop_eq_getElem_cons h2, List.take_succ_cons,
    List.foldl_cons]
  simp

theorem storedBytes_eq (p : List (BitVec 8)) : (p.map (·.toNat)).map (BitVec.ofNat 8) = p := by
  rw [List.map_map]
  exact List.map_id'' (fun b => BitVec.ofNat_toNat ..) p

/-- A full line of a capture without binning. -/
theorem State.takeRow_full (s : State) (c : Capture) {o : Order} (p : List (BitVec 8)) (hrows : c.rows = []) (hbin : o.bin = 1)
    (hline : c.line < o.height) (hlen : p.length = o.width) :
    s.takeRow c o (p.map (·.toNat)) = { s with island := { s.island with
      sram := s.island.sram.putList (o.addr + c.line * o.width) p, capture := some { c with line := c.line + 1 } } } := by
  have hnat : (p.map (·.toNat)).length = o.width := by rw [List.length_map, hlen]
  have hbytes : ((p.map (·.toNat)).take o.width).map (BitVec.ofNat 8) = p := by
    rw [← hnat, List.take_length]
    exact storedBytes_eq p
  rw [State.takeRow, hrows, List.nil_append, hbin]
  dsimp only
  rw [List.length_singleton, if_neg (Nat.lt_irrefl 1), binRow_one, State.storeRow]
  dsimp only
  rw [if_neg (Nat.not_le.mpr hline), hnat, Nat.sub_self, if_pos rfl, List.range_zero, List.map_nil, List.append_nil, hbytes,
    decide_eq_false (Nat.lt_irrefl _), Bool.or_false, Nat.add_sub_cancel, ← hrows]

theorem csi2Packets (hy : s.yard = false) (hc : s.island.capture = some c) (ho : c.order = some o)
    (hseq : s.seqState = seqCapture) (hup : c.linkUp = false) :
    let i := s.island
    (∀ b fixed (vc : BitVec 2), vc.toNat = o.vc → Gives (.csi2Packet b fixed (.frameStart vc)) s fun t =>
      t.island = { i with capture := some { c with stamp := some (s.time copyIsland), line := 0, rows := [] },
                          fixedHeaders := i.fixedHeaders + if fixed then 1 else 0 } ∧ t.regs = s.regs) ∧
    (∀ b fixed, c.stamp = none → Gives (.csi2Packet b fixed .badHeader) s fun t =>
      t.island = { i with capture := some { c with header := true } } ∧ t.conc.nextId = s.conc.nextId + 1) ∧
    (∀ b (p : List (BitVec 8)) (vc : BitVec 2), c.stamp.isSome = true → c.rows = [] →
      vc.toNat = o.vc → o.dt = 0x2A → o.bin = 1 → c.line < o.height → p.length = o.width →
      Memory.wf i.sram = true → Gives (.csi2Packet b false (.line vc 0x2A true p)) s fun t =>
        t.island.capture = some { c with line := c.line + 1 } ∧
        t.island.sram.bytes (o.addr + c.line * o.width) o.width = p ∧
        ∀ a, ¬(o.addr + c.line * o.width ≤ a ∧ a < o.addr + (c.line + 1) * o.width) →
          t.island.sram.byte a = i.sram.byte a) := by
  intro i
  have hbind := State.captureOrder_bind hc ho
  refine ⟨fun b fixed vc hvc => ?_, fun b fixed hstamp => ?_, fun b p vc hstamp hrows hvc hdt hbin hline hlen hwf => ?_⟩
  · have heq : exec (.csi2Packet b fixed (.frameStart vc)) s = .next ((if fixed = true then
        { s with island := { s.island with fixedHeaders := s.island.fixedHeaders + 1 } } else s).setCapture
          { c with stamp := some (s.time copyIsland), line := 0, rows := [] }) := by
      refine exec_n7 (execCsi2Packet.eq_2 b fixed s vc) hy ?_
      rw [hbind]
      dsimp only
      rw [if_neg (by simpa using hseq), hup]
      simp only [Bool.false_and, Bool.false_eq_true, if_false, Bool.not_false, Bool.and_true, hvc, ne_eq, not_true_eq_false, hup]
      cases fixed with
      | false => rfl
      | true => rfl
    refine ⟨_, heq, ?_⟩
    cases fixed with
    | false => exact ⟨rfl, rfl⟩
    | true => exact ⟨rfl, rfl⟩
  · have heq : exec (.csi2Packet b fixed .badHeader) s = .next ((s.watFault 0x66 0).setCapture { c with header := true }) := by
      refine exec_n7 (execCsi2Packet.eq_1 b fixed s) hy ?_
      rw [hbind]
      dsimp only
      rw [if_neg (by simpa using hseq), hup]
      simp only [Bool.false_and, Bool.false_eq_true, if_false, Bool.not_true, Bool.and_false, if_true, hstamp, Option.isNone_none, hup]
    have hfiled : s.Filed (s.watFault 0x66 0) 1 := s.fault_filed ..
    refine ⟨_, heq, ?_, hfiled.nextId⟩
    exact congrArg (fun i : Island => { i with capture := some { c with header := true } }) (congrArg State.island hfiled.rest :)
  · have htake := s.takeRow_full c p hrows hbin hline hlen
    have heq : exec (.csi2Packet b false (.line vc 0x2A true p)) s = .next (s.takeRow c o (p.map (·.toNat))) := by
      refine exec_n7 (execCsi2Packet.eq_3 b false s vc 0x2A true p) hy ?_
      rw [hbind]
      dsimp only
      rw [if_neg (by simpa using hseq), hup, hvc, hdt]
      obtain ⟨n, hn⟩ := Option.isSome_iff_exists.mp hstamp
      simp [pixels, hn]
      rw [← hup, ← hn]
    rw [htake] at heq
    refine ⟨_, heq, rfl, ?_, fun a ha => ?_⟩
    · have hput := Cells.bytes_putList (o.addr + c.line * o.width) p hwf
      rw [hlen] at hput
      exact hput
    · refine (Cells.byte_putList p s.island.sram _ a hwf).trans (dif_neg fun h => ha ⟨h.1, ?_⟩)
      rw [Nat.succ_mul]
      omega

theorem hsPolarity_found (hy : s.yard = false) (hc : s.island.capture = some c) (l : BitVec 2) (nLine : Bool)
    (hseq : s.seqState = seqCapture) (hup : c.linkUp = true) (hl : l.toNat ≠ 3) (hfound : s.laneFound l.toNat % 8 = 0) :
    (Gives (.hsPolarity l .ok nLine) s fun t => t.laneFound l.toNat = if nLine then 16 else 0) ∧
    ((s.setLane l.toNat (4 + if nLine then 8 else 0)).lanesShort = false → Gives (.hsPolarity l .stuck nLine) s fun t =>
      t.laneFound l.toNat = (4 + if nLine then 8 else 0) ∧ t.island.lineFaults = s.island.lineFaults ++ [0x64] ∧
      l.toNat ∉ t.island.terminated) := by
  have hgo : ¬((!c.linkUp) = true ∨ s.seqState ≠ seqCapture ∨ l.toNat = 3 ∨ s.laneFound l.toNat % 8 ≠ 0) := by
    rw [hup]
    rintro (h | h | h | h)
    · exact absurd h (by decide)
    · exact h hseq
    · exact hl h
    · exact h hfound
  have hkind : 4 + 8 * b2n nLine = 4 + if nLine then 8 else 0 := by cases nLine <;> rfl
  refine ⟨?_, fun hlanes => ?_⟩
  · have heq : exec (.hsPolarity l .ok nLine) s = .next (s.setLane l.toNat (if nLine then 16 else 0)) := by
      refine exec_n7 (execHsPolarity.eq_1 l .ok nLine s) hy ?_
      rw [hc]
      exact if_neg hgo
    exact ⟨_, heq, Tab.get_set_self ..⟩
  · let u := (s.setLane l.toNat (4 + if nLine then 8 else 0)).lineFound 4
    have hshort : u.lanesShort = false := hlanes
    have heq : exec (.hsPolarity l .stuck nLine) s = .next u := by
      refine exec_n7 (execHsPolarity.eq_1 l .stuck nLine s) hy ?_
      rw [hc]
      refine (if_neg hgo).trans ?_
      dsimp only
      rw [hkind, if_neg (by rw [hshort]; decide)]
    refine ⟨_, heq, Tab.get_set_self .., rfl, ?_⟩
    have hterm : u.island.terminated = s.island.terminated.filter (· != l.toNat) := if_neg (by cases nLine <;> decide)
    rw [hterm]
    simp

/-- A frame that ends within its window is counted and posted. -/
theorem frameEnd_posts (hy : s.yard = false) (hc : s.island.capture = some c) (ho : c.order = some o) (vc : BitVec 2) {n : Nat}
    (hseq : s.seqState = seqCapture) (hst : c.stamp = some n) (hvc : vc.toNat = o.vc) (hwin : s.inWindow o = true)
    (hwait : (s.tile isleCore).wait = none) : Gives (.frameEnd vc) s fun t =>
      t.seqState = seqClosing ∧ t.island.capture = none ∧ t.island.ready = s.island.ready ++ [c.buf] ∧
      t.get Reg.WAT_COUNTS_FRAMES = (s.get Reg.WAT_COUNTS_FRAMES + 1) % 2 ^ 32 ∧
      ∃ f, t.frameIn c.buf = some f ∧ f.no = t.get Reg.WAT_COUNTS_FRAMES ∧ f.stamp = n ∧ f.width = o.width ∧
        f.height = o.height := by
  have hbind : (s.island.capture.bind fun c => c.order.bind fun o => c.stamp.map fun t => (c, o, t)) = some (c, o, n) := by
    rw [hc, Option.bind_some, ho, Option.bind_some, hst]
    rfl
  let counted := s.wrap Reg.WAT_COUNTS_FRAMES 1
  let marked := if c.crc = true ∨ c.header = true then counted.sat Reg.WAT_COUNTS_ERRORS 1 else counted
  have hmarked : marked.island = s.island ∧ marked.tiles = s.tiles ∧
      marked.get Reg.WAT_COUNTS_FRAMES = (s.get Reg.WAT_COUNTS_FRAMES + 1) % 2 ^ 32 := by
    simp only [marked]
    split
    · exact ⟨rfl, rfl, (State.get_sat_ne _ _ _ _ (by decide)).trans (State.get_wrap_self ..)⟩
    · exact ⟨rfl, rfl, State.get_wrap_self ..⟩
  let f : Frame := ⟨counted.get Reg.WAT_COUNTS_FRAMES, n, o.width, o.height,
    2 * b2n c.crc + 4 * b2n c.trunc + 8 * b2n (c.short || decide (c.line < o.height))⟩
  let posted : State := { marked with island := { marked.island with
    sram := s.island.sram.wipe (o.addr + c.line * o.width) ((o.height - c.line) * o.width),
    frames := marked.island.frames.set c.buf (some f), ready := marked.island.ready ++ [c.buf] } }
  obtain ⟨hclosing, hcap, -, hready, hframes, htiles, hget⟩ := posted.endCapture_post
  have hwait' : (posted.endCapture.tile isleCore).wait = none := by
    have htile : posted.endCapture.tile isleCore = s.tile isleCore := congrArg (fun l => Tab.get Tile.reset l isleCore)
      (htiles.trans hmarked.2.1)
    rw [htile, hwait]
  have heq : exec (.frameEnd vc) s = .next posted.endCapture := by
    refine exec_n7 (execFrameEnd.eq_1 vc s) hy ?_
    rw [hbind]
    dsimp only
    rw [if_neg (by rw [hwin]; simp [hseq, hvc])]
    change (match (posted.endCapture.tile isleCore).wait with
      | some .frame => posted.endCapture.takeFrame
      | some (.barges _) => posted.endCapture
      | some .units => posted.endCapture
      | some (.tick _) => posted.endCapture
      | none => posted.endCapture) = posted.endCapture
    rw [hwait']
  obtain ⟨hisl, -, hcount⟩ := hmarked
  have hframe : posted.endCapture.get Reg.WAT_COUNTS_FRAMES = (s.get Reg.WAT_COUNTS_FRAMES + 1) % 2 ^ 32 :=
    (hget _ (by decide)).trans hcount
  refine ⟨_, heq, hclosing, hcap, hready.trans (by rw [← hisl]), hframe, f, ?_, ?_, rfl, rfl, rfl⟩
  · rw [State.frameIn, hframes]
    exact Tab.get_set_self ..
  · rw [hframe]
    exact State.get_wrap_self ..

end Captures

/-- Settles O30: each command of the sensor port takes the capture to its next state, and an error ends it with a record. -/
theorem islandCaptures : Obligations.IslandCaptures := by
  unfold Obligations.IslandCaptures
  intro s hy i now sat failed
  refine ⟨fun p0 n0 p1 n1 pc nc hrun hprog hport hi3c hstop hseq => captureStart_ready hy hrun hprog hport hi3c hstop hseq p0 n0 p1 n1 pc nc,
    fun c hc => ⟨captureOrder_sent hy hc, fun o ho => ⟨triggerWrites hy hc ho, csi2Packets hy hc ho,
      fun vc n hseq hst => frameEnd_posts hy hc ho vc hseq hst, fun hdue => ?_⟩, fun l nLine => hsPolarity_found hy hc l nLine⟩,
    fun hseq hend hst => ?_⟩
  · have hbind : (s.island.capture.bind fun c => c.order) = some o := by rw [hc, Option.bind_some, ho]
    have heq : exec .frameWindowExpire s = .next (s.watFault 0x68 0).captureError := by
      refine exec_n7 (execFrameWindowExpire.eq_1 ..) hy ?_
      rw [hbind]
      exact if_pos hdue
    exact ⟨_, heq, s.captureError_post 0x68 0 _ (.inl rfl)⟩
  · have hgo : ¬(s.seqState ≠ seqClosing ∨ s.time copyIsland < s.island.endedAt + 10) := by
      rintro (h | h)
      · exact h hseq
      · exact absurd h (Nat.not_lt.mpr hend)
    have heq : exec .pd11Close s = .next ((s.put Reg.WAT_STATUS_SEQ_STATE seqIdle).switchOff false 11 .closed) :=
      exec_n7 (execPd11Close.eq_1 ..) hy ((if_neg hgo).trans (if_neg hst))
    obtain ⟨hclosed, hget⟩ := (s.put Reg.WAT_STATUS_SEQ_STATE seqIdle).switchOff_sensor
    exact ⟨_, heq, hget.trans (State.get_put_self ..), hclosed⟩

end Sys2Proof.Machine

namespace Sys2Proof.Machine

/-! ## Resets and lost supplies (spec chapter 02, R57-R76; chapter 20) -/

/-! ### What switching domains off leaves -/

/-- A field of a register in PD0 below the registers of stops: the engine's state, the flight's and the reset's status. -/
def Fld.Aon (g : Fld) : Prop := regDom (g.key / 64) = 0 ∧ g.key < 0x01070054 * 64

theorem Fld.Aon.ne_high {g : Fld} (h : g.Aon) {f : Fld} (hf : 0x01070054 ≤ f.off) : g.key ≠ f.key := by
  have hlt := h.2
  have hkey : f.key = f.off * 64 + f.lo := rfl
  omega

theorem Fld.Aon.ne_dom {g : Fld} (h : g.Aon) {f : Fld} (hlo : f.lo < 64) (hf : regDom f.off ≠ 0) : g.key ≠ f.key := fun he => by
  rw [← f.key_div hlo, ← he] at hf
  exact hf h.1

/-- A change that leaves what is always on: the count, memory, the flight, the pins, the gates and the registers of PD0 above. -/
structure State.KeepsAon (s t : State) : Prop where
  gtc : t.gtc = s.gtc
  mem : t.mem = s.mem
  flight : t.flight = s.flight
  stop : t.stop = s.stop
  pins : t.pins = s.pins
  onRc : t.onRc = s.onRc
  gates : t.gates = s.gates
  nextId : t.conc.nextId = s.conc.nextId
  get : ∀ g : Fld, g.Aon → t.get g = s.get g

section KeepsAon

variable {s t u : State}

theorem State.KeepsAon.refl (s : State) : s.KeepsAon s := ⟨rfl, rfl, rfl, rfl, rfl, rfl, rfl, rfl, fun _ _ => rfl⟩

theorem State.KeepsAon.trans (h : s.KeepsAon t) (h' : t.KeepsAon u) : s.KeepsAon u :=
  ⟨h'.gtc.trans h.gtc, h'.mem.trans h.mem, h'.flight.trans h.flight, h'.stop.trans h.stop, h'.pins.trans h.pins,
    h'.onRc.trans h.onRc, h'.gates.trans h.gates, h'.nextId.trans h.nextId, fun g hg => (h'.get g hg).trans (h.get g hg)⟩

theorem State.KeepsAon.foldl {α : Type} (f : State → α → State) (l : List α) (h : ∀ (s : State) (x : α), x ∈ l → s.KeepsAon (f s x))
    (s : State) : s.KeepsAon (l.foldl f s) := by
  induction l generalizing s with
  | nil => exact .refl s
  | cons x xs ih =>
    exact (h s x List.mem_cons_self).trans (ih (fun s y hy => h s y (List.mem_cons_of_mem _ hy)) _)

theorem State.put_keepsAon (s : State) (f : Fld) (v : Nat) (hf : 0x01070054 ≤ f.off) : s.KeepsAon (s.put f v) :=
  ⟨rfl, rfl, rfl, rfl, rfl, rfl, rfl, rfl, fun _ hg => State.get_put_ne _ _ _ _ (hg.ne_high hf)⟩

theorem State.put_keepsAon_dom (s : State) (f : Fld) (v : Nat) (hlo : f.lo < 64) (hf : regDom f.off ≠ 0) : s.KeepsAon (s.put f v) :=
  ⟨rfl, rfl, rfl, rfl, rfl, rfl, rfl, rfl, fun _ hg => State.get_put_ne _ _ _ _ (hg.ne_dom hlo hf)⟩

theorem State.trace_keepsAon (s : State) (kind unit : Nat) (cid : Option Nat) (data stamp : Nat) :
    s.KeepsAon (s.trace kind unit cid data stamp) := by
  have hid := s.trace_nextId kind unit cid data stamp
  obtain ⟨hrest, hget⟩ := s.trace_rest kind unit cid data stamp
  generalize s.trace kind unit cid data stamp = t at *
  exact ⟨by rw [hrest], by rw [hrest], by rw [hrest], by rw [hrest], by rw [hrest], by rw [hrest], by rw [hrest], hid,
    fun g hg => hget g (hg.ne_high (by decide))⟩

theorem State.endClaims_keepsAon (s : State) (p : Nat → Nat → Bool) : s.KeepsAon (s.endClaims p) := by
  refine State.KeepsAon.foldl _ _ (fun u k _ => ?_) s
  dsimp only
  split
  · exact .refl u
  · split_ifs
    · exact ⟨rfl, rfl, rfl, rfl, rfl, rfl, rfl, rfl, fun _ _ => rfl⟩
    · exact .refl u

theorem State.setSt_keepsAon (s : State) (d : Nat) (st : DomSt) : s.KeepsAon (s.setSt d st) := by
  have hturns : s.KeepsAon (s.clusterTurns d st) := by
    unfold State.clusterTurns
    split_ifs
    · exact .refl s
    · exact ⟨rfl, rfl, rfl, rfl, rfl, rfl, rfl, rfl, fun _ _ => rfl⟩
    · exact s.endClaims_keepsAon _
    · exact .refl s
  unfold State.setSt
  split_ifs
  · exact .refl s
  · refine hturns.trans ?_
    have hset : (s.clusterTurns d st).KeepsAon ((s.clusterTurns d st).setDom d
        { (s.clusterTurns d st).dom d with st := st, since := (s.clusterTurns d st).gtc }) :=
      ⟨rfl, rfl, rfl, rfl, rfl, rfl, rfl, rfl, fun _ _ => rfl⟩
    exact hset.trans (State.trace_keepsAon _ _ _ _ _ _)

theorem State.closeRegs_keepsAon (s : State) (standby : Bool) {d : Nat} (hd : d ≠ 0) : s.KeepsAon (s.closeRegs standby d) := by
  refine ⟨rfl, rfl, rfl, rfl, rfl, rfl, rfl, rfl, fun g hg => ?_⟩
  refine (Tab.get_drop g.reset _ s.regs g.key).trans (if_neg ?_)
  rw [hg.1]
  have h0 : (0 == d) = false := beq_eq_false_iff_ne.mpr (Ne.symm hd)
  rw [h0]
  exact Bool.false_ne_true

theorem State.clearCluster_keepsAon (s : State) (c : Nat) : s.KeepsAon (s.clearCluster c) := by
  refine State.KeepsAon.foldl _ _ (fun _ _ _ => ?_) s
  exact ⟨rfl, rfl, rfl, rfl, rfl, rfl, rfl, rfl, fun _ _ => rfl⟩

theorem State.setClus_keepsAon (s : State) (c : Nat) (x : Clus) : s.KeepsAon (s.setClus c x) :=
  ⟨rfl, rfl, rfl, rfl, rfl, rfl, rfl, rfl, fun _ _ => rfl⟩

theorem State.setRail_keepsAon (s : State) (r : Nat) (x : Rail) : s.KeepsAon (s.setRail r x) :=
  ⟨rfl, rfl, rfl, rfl, rfl, rfl, rfl, rfl, fun _ _ => rfl⟩

theorem State.setDom_keepsAon (s : State) (d : Nat) (x : Dom) : s.KeepsAon (s.setDom d x) :=
  ⟨rfl, rfl, rfl, rfl, rfl, rfl, rfl, rfl, fun _ _ => rfl⟩

theorem State.dropCopies_keepsAon (s : State) (d : Nat) : s.KeepsAon (s.dropCopies d) :=
  ⟨rfl, rfl, rfl, rfl, rfl, rfl, rfl, rfl, fun _ _ => rfl⟩

theorem State.postVolt_keepsAon (s : State) (c mv : Nat) : s.KeepsAon (s.postVolt c mv) := by
  let v := s.setRail c { s.rail c with mv := mv, prev := (s.rail c).mv, setAt := s.gtc }
  let w := (((v.put (Reg.PWR_VREQ_MV c) mv).wrap (Reg.PWR_VREQ_SEQ c) 1).put Reg.PWR_VREQ_PEND_RAILS
    (setBit (((v.put (Reg.PWR_VREQ_MV c) mv).wrap (Reg.PWR_VREQ_SEQ c) 1).get Reg.PWR_VREQ_PEND_RAILS) c true))
  have hv : s.KeepsAon v := ⟨rfl, rfl, rfl, rfl, rfl, rfl, rfl, rfl, fun _ _ => rfl⟩
  have hw : s.KeepsAon w := by
    refine hv.trans (((v.put_keepsAon _ mv ?_).trans (State.put_keepsAon _ (Reg.PWR_VREQ_SEQ c) _ ?_)).trans
      (State.put_keepsAon _ _ _ (by decide)))
    · change 0x01070054 ≤ 0x01070300 + 0x4 * c
      omega
    · change 0x01070054 ≤ 0x01070300 + 0x4 * c
      omega
  have heq : s.postVolt c mv = if (!(v.domLive 1)) = true then v
      else if w.on Reg.PWR_VREQ_CFG_NOTIFY = true then w.event (w.get Reg.PWR_VREQ_CFG_VEC)
      else if w.on Reg.PWR_PIN_STATUS_MGMT_STUCK = true then w
      else { w with host := { w.host with ibi := w.host.ibi ++ [w.get Reg.PWR_VREQ_PEND_RAILS] } } := rfl
  rw [heq]
  split_ifs
  · exact hv
  · exact hw.trans ⟨rfl, rfl, rfl, rfl, rfl, rfl, rfl, rfl, fun _ _ => rfl⟩
  · exact hw
  · exact hw.trans ⟨rfl, rfl, rfl, rfl, rfl, rfl, rfl, rfl, fun _ _ => rfl⟩

/-- What a domain held is gone once it is off. -/
def State.lostWith (s : State) (standby : Bool) (d : Nat) : State :=
  if 12 ≤ d then
    ((((s.clearCluster (d - 12)).setClus (d - 12) { Clus.reset with
      shortfalls := (s.clus (d - 12)).shortfalls, exhausted := (s.clus (d - 12)).exhausted, ageAt := (s.clus (d - 12)).ageAt }).put
      (Reg.PWR_CL_OP_OP (d - 12)) 0).put (Reg.PWR_CL_OP_LIMIT (d - 12)) 15).postVolt (d - 12) 0
  else match d with
  | 1 => { s with
      conc := s.conc.closed, mon := Mon.reset,
      power := { Power.reset with
        clus := s.power.clus, rails := s.power.rails, clamp := s.power.clamp, spillAt := s.power.spillAt,
        spillLen := s.power.spillLen, spillRec := s.power.spillRec, energyRem := s.power.energyRem,
        stuckCap := s.power.stuckCap, clampAt := s.power.clampAt } }
  | 2 => { s with keeper := s.keeper.closed, mail := Mail.reset }
  | 3 => if standby then { s with
      waiters := [],
      disp := { s.disp with on := false, pick := none, handovers := [], demands := [], cancels := [], slots := [], tiles := [] } }
    else { s with ctxs := [], groups := [], queues := [], waiters := [], disp := Disp.reset }
  | 4 => { s with xlt := Xlt.reset }
  | 5 => { s with mesh := Mesh.reset, host := { s.host with events := [], places := [], withheld := [] } }
  | 6 => s.clearHalf 0
  | 7 => s.clearHalf 1
  | 8 => { s with link := Link.reset }
  | 9 => { s with link := { s.link with ports := [] } }
  | _ => s

theorem State.lostWith_keepsAon (s : State) (standby : Bool) (d : Nat) : s.KeepsAon (s.lostWith standby d) := by
  unfold State.lostWith
  split
  · have hop : 0x01070054 ≤ (Reg.PWR_CL_OP_OP (d - 12)).off := by
      change 0x01070054 ≤ 0x01070180 + 0x4 * (d - 12)
      omega
    have hclear := s.clearCluster_keepsAon (d - 12)
    generalize s.clearCluster (d - 12) = u at *
    exact ((((hclear.trans (u.setClus_keepsAon (d - 12) _)).trans (State.put_keepsAon _ _ 0 hop)).trans
      (State.put_keepsAon _ (Reg.PWR_CL_OP_LIMIT (d - 12)) 15 hop))).trans (State.postVolt_keepsAon _ _ _)
  · split
    case h_3 => split <;> exact ⟨rfl, rfl, rfl, rfl, rfl, rfl, rfl, rfl, fun _ _ => rfl⟩
    case h_10 => exact .refl s
    all_goals exact ⟨rfl, rfl, rfl, rfl, rfl, rfl, rfl, rfl, fun _ _ => rfl⟩

theorem railSense_off (r : Nat) : 0x01070054 ≤ (railSense r).off := by
  unfold railSense
  split
  · change 0x01070054 ≤ 0x01070500 + 0x8 * r
    omega
  · change 0x01070054 ≤ 0x01070580 + 0x8 * (r - 16)
    omega

theorem State.closeFx_eq (s : State) (standby : Bool) (d : Nat) : s.closeFx standby d =
    let u := ((s.closeRegs standby d).dropCopies d).lostWith standby d
    if (railOf d < 17) && u.get (railSense (railOf d)) == 0 && !(u.supplied d) then
      (u.put (railSense (railOf d)) 3).setRail (railOf d) { u.rail (railOf d) with sensed := false }
    else u := rfl

theorem State.closeFx_keepsAon (s : State) (standby : Bool) {d : Nat} (hd : d ≠ 0) : s.KeepsAon (s.closeFx standby d) := by
  have hlost : s.KeepsAon (((s.closeRegs standby d).dropCopies d).lostWith standby d) :=
    ((s.closeRegs_keepsAon standby hd).trans (State.dropCopies_keepsAon _ d)).trans (State.lostWith_keepsAon _ standby d)
  rw [State.closeFx_eq]
  generalize ((s.closeRegs standby d).dropCopies d).lostWith standby d = u at *
  dsimp only
  split
  · exact hlost.trans ((State.put_keepsAon _ _ 3 (railSense_off _)).trans (State.setRail_keepsAon _ _ _))
  · exact hlost

theorem State.switchOff_keepsAon (s : State) (standby : Bool) {d : Nat} (st : DomSt) (hd : d ≠ 0) :
    s.KeepsAon (s.switchOff standby d st) :=
  ((s.setDom_keepsAon d _).trans (State.setSt_keepsAon _ d st)).trans (State.closeFx_keepsAon _ standby hd)

theorem State.switchOffAll_keepsAon (s : State) (standby : Bool) (ds : List Nat) (hds : ∀ d ∈ ds, d ≠ 0) :
    s.KeepsAon (s.switchOffAll standby ds) := by
  refine State.KeepsAon.foldl _ _ (fun u d hd => ?_) s
  have hoff : ∀ v : State, v.KeepsAon ((v.switchOff standby d .closed).setDom d Dom.reset) := fun v =>
    (v.switchOff_keepsAon standby .closed (hds d hd)).trans (State.setDom_keepsAon _ d _)
  have hdrop : u.KeepsAon (if d = 11 ∧ ((u.dom d).st != .closed) = true then u.dropCapture else u) := by
    split
    · have hcap : u.KeepsAon { u with island := { u.island with capture := none } } :=
        ⟨rfl, rfl, rfl, rfl, rfl, rfl, rfl, rfl, fun _ _ => rfl⟩
      exact hcap.trans (State.put_keepsAon _ Reg.WAT_STATUS_SEQ_STATE 0 (by decide))
    · exact .refl u
  dsimp only
  generalize (if d = 11 ∧ ((u.dom d).st != .closed) = true then u.dropCapture else u) = v at *
  split
  case h_1 => exact hdrop
  case h_2 => exact hdrop
  case h_3 => exact hdrop
  all_goals exact hdrop.trans (hoff v)

end KeepsAon

end Sys2Proof.Machine

namespace Sys2Proof.Machine

/-! ### A warm reset (R57, R58, R70) -/

section Warm

variable {s t u : State}

theorem State.markUnits_keepsAon (s : State) (kept : Nat) : s.KeepsAon (s.markUnits kept) := by
  have hstops : ∀ (v : State) (f : Fld) (x : Nat), f.lo < 64 → regDom f.off ≠ 0 → v.KeepsAon (v.put f x) := fun v f x =>
    v.put_keepsAon_dom f x
  have hhalf : ∀ (v : State) (h : Nat), v.KeepsAon (v.excludeHalf h) := fun v h => by
    have hone : ∀ (w : State) (e : Nat), e < 2 → w.KeepsAon (if h = 0 then (w.put (Reg.MSH_STOPMAP_BS0 e) 0x3F).put (Reg.MSH_STOPMAP_BS1 e) 0x3F
        else (w.put (Reg.MSH_STOPMAP_BS2 e) 0x3F).put (Reg.MSH_STOPMAP_BS3 e) 0x3F) := fun w e he => by
      interval_cases e
      all_goals
        split
        · exact (hstops _ _ _ (by decide) (by decide)).trans (hstops _ _ _ (by decide) (by decide))
        · exact (hstops _ _ _ (by decide) (by decide)).trans (hstops _ _ _ (by decide) (by decide))
    exact State.KeepsAon.foldl _ _ (fun w e he => hone w e (List.mem_range.mp he)) v
  have hbank : ∀ (v : State) (c : Bool) (f : Fld) (x : Nat), f.lo < 64 → regDom f.off ≠ 0 →
      v.KeepsAon (if c = true then v.put f x else v) := fun v c f x hlo hf => by
    split
    · exact hstops v f x hlo hf
    · exact .refl v
  have hharvest : ∀ v : State, v.KeepsAon (v.harvestBanks kept) := fun v => by
    have h0 : v.KeepsAon (if bitAt kept 16 = true then v.excludeHalf 0 else v) := by
      split
      · exact hhalf v 0
      · exact .refl v
    unfold State.harvestBanks
    generalize (if bitAt kept 16 = true then v.excludeHalf 0 else v) = v0 at *
    have h1 : v.KeepsAon (if bitAt kept 17 = true then v0.excludeHalf 1 else v0) := by
      split
      · exact h0.trans (hhalf v0 1)
      · exact h0
    refine h1.trans (State.KeepsAon.foldl _ _ (fun w e he => ?_) _)
    have he2 := List.mem_range.mp he
    dsimp only
    interval_cases e
    all_goals exact (((hbank _ _ _ _ (by decide) (by decide)).trans (hbank _ _ _ _ (by decide) (by decide))).trans
      (hbank _ _ _ _ (by decide) (by decide))).trans (hbank _ _ _ _ (by decide) (by decide))
  unfold State.markUnits
  exact ((((((s.put_keepsAon _ _ (by decide)).trans (State.put_keepsAon _ _ _ (by decide))).trans
    (State.KeepsAon.foldl _ _ (fun v c _ => v.setSt_keepsAon _ _) _)).trans (State.setSt_keepsAon _ _ _)).trans
    (State.setSt_keepsAon _ _ _)).trans (State.setSt_keepsAon _ _ _)).trans (hharvest _)

/-- A flight starts (R74): it runs, with its kind shown. -/
theorem State.startFlight_post (s : State) {kind : Nat} (hk : kind < 8) : (s.startFlight kind).flight.running = true ∧
    (s.startFlight kind).get Reg.PWR_FLIGHT_STATUS_KIND = kind ∧ (s.startFlight kind).pins = s.pins ∧
    (s.startFlight kind).get Reg.PWR_RESET_STATUS_LAST_SOURCE = s.get Reg.PWR_RESET_STATUS_LAST_SOURCE ∧
    (s.startFlight kind).get Reg.PWR_RESET_STATUS_LAST_KIND = s.get Reg.PWR_RESET_STATUS_LAST_KIND := by
  have hmark := s.markUnits_keepsAon s.keepUnits
  have hform : ∃ w : State, (w.flight.running = true ∧ w.pins = (s.markUnits s.keepUnits).pins ∧
      w.regs = (s.markUnits s.keepUnits).regs) ∧ s.startFlight kind = (((((w.put Reg.PWR_FLIGHT_STATUS_KIND kind).put
        Reg.PWR_FLIGHT_STATUS_DOMAIN 0).put Reg.PWR_FLIGHT_STATUS_STEP 0).put Reg.PWR_FLIGHT_STATUS_ATTEMPT 0).put
          Reg.PWR_FLIGHT_STATUS_STOPPED 0).put Reg.PWR_FLIGHT_STATUS_PHASE (if w.onRc then 0 else 1) := by
    refine ⟨_, ?_, rfl⟩
    split <;> exact ⟨rfl, rfl, rfl⟩
  obtain ⟨w, ⟨hrun, hpins, hregs⟩, heq⟩ := hform
  have hget : ∀ g : Fld, w.get g = (s.markUnits s.keepUnits).get g := fun g => congrArg (fun r => Tab.get g.reset r g.key) hregs
  rw [heq]
  refine ⟨hrun, ?_, hpins.trans hmark.pins, ?_, ?_⟩
  · rw [State.get_put_ne _ _ _ _ (by decide), State.get_put_ne _ _ _ _ (by decide), State.get_put_ne _ _ _ _ (by decide),
      State.get_put_ne _ _ _ _ (by decide), State.get_put_ne _ _ _ _ (by decide)]
    exact (State.get_put_self ..).trans (Nat.mod_eq_of_lt hk)
  · rw [State.get_put_ne _ _ _ _ (by decide), State.get_put_ne _ _ _ _ (by decide), State.get_put_ne _ _ _ _ (by decide),
      State.get_put_ne _ _ _ _ (by decide), State.get_put_ne _ _ _ _ (by decide), State.get_put_ne _ _ _ _ (by decide), hget]
    exact hmark.get _ ⟨by decide, by decide⟩
  · rw [State.get_put_ne _ _ _ _ (by decide), State.get_put_ne _ _ _ _ (by decide), State.get_put_ne _ _ _ _ (by decide),
      State.get_put_ne _ _ _ _ (by decide), State.get_put_ne _ _ _ _ (by decide), State.get_put_ne _ _ _ _ (by decide), hget]
    exact hmark.get _ ⟨by decide, by decide⟩

/-- A stop that ends leaves everything but its own status, and the status of a reset. -/
theorem State.endStop_post (s : State) (result : Nat) :
    s.endStop result = { s with stop := (s.endStop result).stop, regs := (s.endStop result).regs } := by
  unfold State.endStop
  split
  · rfl
  · dsimp only
    split <;> rfl

theorem State.haltFlight_post (s : State) : s.haltFlight.flight.running = false ∧
    s.haltFlight = { s with flight := s.haltFlight.flight, regs := s.haltFlight.regs } := ⟨rfl, rfl⟩

theorem State.setEng_post (s : State) (v : Nat) (hv : v < 16) : s.setEng v = { s with regs := (s.setEng v).regs } ∧
    (s.setEng v).eng = v ∧ ∀ g : Fld, g.key ≠ Reg.ENG_STATE_STATE.key → g.key ≠ Reg.PWR_READY_STAMP_READY_T.key →
      (s.setEng v).get g = s.get g := by
  have heng : (s.put Reg.ENG_STATE_STATE v).get Reg.ENG_STATE_STATE = v := (State.get_put_self ..).trans (Nat.mod_eq_of_lt hv)
  unfold State.setEng
  dsimp only
  split
  · exact ⟨rfl, (State.get_put_ne _ _ _ _ (by decide)).trans heng, fun g h1 h2 =>
      (State.get_put_ne _ _ _ _ h2).trans (State.get_put_ne _ _ _ _ h1)⟩
  · exact ⟨rfl, heng, fun g h1 _ => State.get_put_ne _ _ _ _ h1⟩

/-- The state in which a warm reset has stopped the flight and shown itself, before the domains are switched off. -/
def State.warmShown (s : State) (source : Nat) : State :=
  let s := (s.endStop 0x0B).haltFlight
  let s := (((s.put Reg.PWR_RESET_STATUS_LAST_SOURCE source).put Reg.PWR_RESET_STATUS_LAST_KIND 1).put
    Reg.PWR_RESET_STATUS_BUSY 1)
  s.setEng (if s.alarmed then engAlarmed else engFlight)

theorem State.warmShown_post (s : State) {source : Nat} (hsrc : source < 16) :
    (s.warmShown source).mem = s.mem ∧ (s.warmShown source).flight.running = false ∧ (s.warmShown source).pins = s.pins ∧
      (s.warmShown source).get Reg.PWR_RESET_STATUS_LAST_SOURCE = source ∧
      (s.warmShown source).get Reg.PWR_RESET_STATUS_LAST_KIND = 1 ∧ (s.warmShown source).get Reg.PWR_RESET_STATUS_BUSY = 1 := by
  have hstop := s.endStop_post 0x0B
  unfold State.warmShown
  generalize s.endStop 0x0B = u at *
  dsimp only
  generalize hw : ((u.haltFlight.put Reg.PWR_RESET_STATUS_LAST_SOURCE source).put Reg.PWR_RESET_STATUS_LAST_KIND 1).put
    Reg.PWR_RESET_STATUS_BUSY 1 = w
  have heng : (if w.alarmed = true then engAlarmed else engFlight) < 16 := by split <;> decide
  obtain ⟨hrest, -, hget⟩ := w.setEng_post _ heng
  generalize w.setEng (if w.alarmed = true then engAlarmed else engFlight) = v at *
  refine ⟨?_, ?_, ?_, (hget _ (by decide) (by decide)).trans ?_, (hget _ (by decide) (by decide)).trans ?_,
    (hget _ (by decide) (by decide)).trans ?_⟩
  · rw [hrest, ← hw]
    exact (congrArg State.mem hstop :)
  · rw [hrest, ← hw]
    rfl
  · rw [hrest, ← hw]
    exact (congrArg State.pins hstop :)
  · rw [← hw, State.get_put_ne _ _ _ _ (by decide), State.get_put_ne _ _ _ _ (by decide)]
    exact (State.get_put_self ..).trans (Nat.mod_eq_of_lt hsrc)
  · rw [← hw, State.get_put_ne _ _ _ _ (by decide)]
    exact State.get_put_self ..
  · rw [← hw]
    exact State.get_put_self ..

theorem State.gateAll_eq (l : List Nat) (s : State) : ∃ gs,
    l.foldl (fun s d => if s.domLive d then s.gateAct d 1 id else s) s = { s with gates := gs } := by
  induction l generalizing s with
  | nil => exact ⟨s.gates, rfl⟩
  | cons d l ih =>
    rw [List.foldl_cons]
    have hone : ∃ gs, (if s.domLive d = true then s.gateAct d 1 id else s) = { s with gates := gs } := by
      split
      · unfold State.gateAct
        extract_lets g same acks
        split
        · exact ⟨_, rfl⟩
        · exact ⟨_, rfl⟩
      · exact ⟨s.gates, rfl⟩
    obtain ⟨gs, hone⟩ := hone
    rw [hone]
    obtain ⟨gs', h⟩ := ih { s with gates := gs }
    exact ⟨gs', h⟩

/-- The domain's entry in the table as a warm reset leaves it. -/
def domReset (e : Nat × Dom) : Nat × Dom := if e.1 = 0 ∨ e.2.st = DomSt.disabled then e else (e.1, Dom.reset)

theorem domReset_fst (e : Nat × Dom) : (domReset e).1 = e.1 := by
  unfold domReset
  split <;> rfl

theorem doms_reset (l : Tab Dom) {d : Nat} (hd : 0 < d) :
    (Tab.get Dom.reset (l.map domReset) d).st = .closed ∨ (Tab.get Dom.reset (l.map domReset) d).st = .disabled := by
  induction l with
  | nil => exact .inl rfl
  | cons e l ih =>
    rw [List.map_cons]
    by_cases he : e.1 = d
    · have hget : Tab.get Dom.reset (domReset e :: l.map domReset) d = (domReset e).2 := by
        rw [Tab.get, if_pos ((domReset_fst e).trans he)]
      rw [hget, domReset]
      by_cases hdis : e.2.st = .disabled
      · rw [if_pos (.inr hdis)]
        exact .inr hdis
      · rw [if_neg (not_or.mpr ⟨by omega, hdis⟩)]
        exact .inl rfl
    · have hget : Tab.get Dom.reset (domReset e :: l.map domReset) d = Tab.get Dom.reset (l.map domReset) d := by
        rw [Tab.get, if_neg (fun h => he ((domReset_fst e).symm.trans h))]
      rw [hget]
      exact ih

theorem reverseOrder_ne_zero {d : Nat} (h : d ∈ reverseOrder) : d ≠ 0 := by
  have hall : ∀ d ∈ reverseOrder, d ≠ 0 := by decide
  exact hall d h

theorem State.foldl_doms {α : Type} {f : State → α → State} (h : ∀ (s : State) (x : α), (f s x).doms = s.doms) (l : List α) (s : State) :
    (l.foldl f s).doms = s.doms := by
  induction l generalizing s with
  | nil => rfl
  | cons x l ih => exact (ih _).trans (h s x)

theorem State.clearCluster_doms (s : State) (c : Nat) : (s.clearCluster c).doms = s.doms := by
  unfold State.clearCluster
  refine State.foldl_doms (fun _ _ => ?_) _ s
  rfl

theorem State.postVolt_doms (s : State) (c mv : Nat) : (s.postVolt c mv).doms = s.doms := by
  unfold State.postVolt
  dsimp only
  split
  · rfl
  · split
    · rfl
    · split <;> rfl

theorem State.lostWith_doms (s : State) (standby : Bool) (d : Nat) : (s.lostWith standby d).doms = s.doms := by
  unfold State.lostWith
  split
  · have hclear := s.clearCluster_doms (d - 12)
    generalize s.clearCluster (d - 12) = u at *
    rw [State.postVolt_doms]
    exact hclear
  · split
    case h_3 => split <;> rfl
    all_goals rfl

theorem State.closeFx_doms (s : State) (standby : Bool) (d : Nat) : (s.closeFx standby d).doms = s.doms := by
  have hlost : (((s.closeRegs standby d).dropCopies d).lostWith standby d).doms = s.doms := State.lostWith_doms _ _ _
  rw [State.closeFx_eq]
  generalize ((s.closeRegs standby d).dropCopies d).lostWith standby d = u at *
  dsimp only
  split
  · exact hlost
  · exact hlost

theorem State.resetRails_keepsAon (s : State) : s.KeepsAon s.resetRails := by
  refine ⟨rfl, rfl, rfl, rfl, rfl, rfl, rfl, rfl, fun g hg => ?_⟩
  have hlt := hg.2
  have hout : ¬(decide (0x01070500 ≤ g.key / 64) && decide (g.key / 64 < 0x010705A0)) = true := by
    simp only [Bool.and_eq_true, decide_eq_true_eq]
    omega
  exact (State.get_resetRegs s (fun o => decide (0x01070500 ≤ o) && decide (o < 0x010705A0)) g).trans (if_neg hout)

theorem State.unwrapKeys_keepsAon (s : State) : s.KeepsAon s.unwrapKeys := by
  unfold State.unwrapKeys
  split
  · exact ⟨rfl, rfl, rfl, rfl, rfl, rfl, rfl, rfl, fun _ _ => rfl⟩
  · exact .refl s

theorem State.unwrapKeys_doms (s : State) : s.unwrapKeys.doms = s.doms := by
  unfold State.unwrapKeys
  split <;> rfl

/-- Every domain but PD0 is closed, or disabled. -/
def State.AllOff (s : State) : Prop := ∀ d, 0 < d → d < 28 → (s.dom d).st = .closed ∨ (s.dom d).st = .disabled

/-- The domains switched off by a warm reset, with what PD3, PD5 and the rails held. -/
def State.warmOff (s : State) : State :=
  let v := s.switchOffAll false reverseOrder
  ((({ v with doms := v.doms.map domReset } : State).closeFx false 3).closeFx false 5).resetRails.unwrapKeys

theorem State.emptied_post (v : State) : v.KeepsAon ((v.closeFx false 3).closeFx false 5).resetRails.unwrapKeys ∧
    (((v.closeFx false 3).closeFx false 5).resetRails.unwrapKeys).doms = v.doms := by
  have h3 := v.closeFx_keepsAon false (d := 3) (by decide)
  have h3d := v.closeFx_doms false 3
  generalize v.closeFx false 3 = u at *
  have h5 := u.closeFx_keepsAon false (d := 5) (by decide)
  have h5d := u.closeFx_doms false 5
  generalize u.closeFx false 5 = w at *
  refine ⟨((h3.trans h5).trans w.resetRails_keepsAon).trans w.resetRails.unwrapKeys_keepsAon, ?_⟩
  rw [State.unwrapKeys_doms]
  exact h5d.trans h3d

theorem State.warmOff_post (s : State) : s.KeepsAon s.warmOff ∧ s.warmOff.AllOff := by
  have hv : s.KeepsAon (s.switchOffAll false reverseOrder) := s.switchOffAll_keepsAon false reverseOrder fun d hd =>
    reverseOrder_ne_zero hd
  unfold State.warmOff
  dsimp only
  generalize s.switchOffAll false reverseOrder = v at *
  have hmap : v.KeepsAon { v with doms := v.doms.map domReset } := ⟨rfl, rfl, rfl, rfl, rfl, rfl, rfl, rfl, fun _ _ => rfl⟩
  obtain ⟨hkeep, hdoms⟩ := State.emptied_post { v with doms := v.doms.map domReset }
  refine ⟨(hv.trans hmap).trans hkeep, fun d hd _ => ?_⟩
  rw [State.dom, hdoms]
  exact doms_reset v.doms hd

/-- The last of a warm reset: the wakes are forgotten and a flight's status shows its kind. -/
def State.warmEnded (s : State) : State :=
  let s := { s with pins := { s.pins with wakeOut := false },
                    flight := { s.flight with wakeDue := false },
                    island := { s.island with heldWakes := [], resumeReq := none } }
  (((s.put Reg.PWR_FLIGHT_STATUS_KIND 1).put Reg.PWR_FLIGHT_STATUS_PHASE 0).put Reg.PWR_FLIGHT_CTRL_STANDBY_REQ 0)

theorem State.warmReset_eq (s : State) (source : Nat) : s.warmReset source =
    ((reverseOrder.foldl (fun s d => if s.domLive d then s.gateAct d 1 id else s) (s.warmShown source)).warmOff).warmEnded := by
  unfold State.warmReset State.warmShown State.warmOff State.warmEnded domReset
  dsimp only

theorem State.warmReset_post (s : State) {source : Nat} (hsrc : source < 16) :
    (s.warmReset source).mem = s.mem ∧ (s.warmReset source).flight.running = false ∧
      (s.warmReset source).pins = { s.pins with wakeOut := false } ∧ (s.warmReset source).AllOff ∧
      (s.warmReset source).get Reg.PWR_RESET_STATUS_LAST_SOURCE = source ∧
      (s.warmReset source).get Reg.PWR_RESET_STATUS_LAST_KIND = 1 ∧ (s.warmReset source).get Reg.PWR_RESET_STATUS_BUSY = 1 := by
  obtain ⟨hmem, hrun, hpins, hlast, hkind, hbusy⟩ := s.warmShown_post hsrc
  obtain ⟨gs, hgates⟩ := State.gateAll_eq reverseOrder (s.warmShown source)
  rw [State.warmReset_eq, hgates]
  generalize s.warmShown source = u at *
  obtain ⟨hkeep, hoff⟩ := State.warmOff_post { u with gates := gs }
  generalize ({ u with gates := gs } : State).warmOff = w at *
  have hget : ∀ g : Fld, g.key ≠ Reg.PWR_FLIGHT_STATUS_KIND.key → g.key ≠ Reg.PWR_FLIGHT_STATUS_PHASE.key →
      g.key ≠ Reg.PWR_FLIGHT_CTRL_STANDBY_REQ.key → w.warmEnded.get g = w.get g := fun g h1 h2 h3 =>
    (State.get_put_ne _ _ _ _ h3).trans ((State.get_put_ne _ _ _ _ h2).trans (State.get_put_ne _ _ _ _ h1))
  refine ⟨hkeep.mem.trans hmem, ?_, ?_, hoff, ?_, ?_, ?_⟩
  · exact (congrArg FlightSeq.running hkeep.flight).trans hrun
  · exact congrArg (fun p : Pins => { p with wakeOut := false }) (hkeep.pins.trans hpins)
  · exact (hget _ (by decide) (by decide) (by decide)).trans ((hkeep.get _ ⟨by decide, by decide⟩).trans hlast)
  · exact (hget _ (by decide) (by decide) (by decide)).trans ((hkeep.get _ ⟨by decide, by decide⟩).trans hkind)
  · exact (hget _ (by decide) (by decide) (by decide)).trans ((hkeep.get _ ⟨by decide, by decide⟩).trans hbusy)

end Warm

end Sys2Proof.Machine

namespace Sys2Proof.Machine

/-! ### A lost reference (R62, R662) -/

section Lost

variable {s t u : State}

/-- A change that leaves the gates and the count. -/
structure State.KeepsGates (s t : State) : Prop where
  gates : t.gates = s.gates
  gtc : t.gtc = s.gtc

theorem State.KeepsGates.refl (s : State) : s.KeepsGates s := ⟨rfl, rfl⟩

theorem State.KeepsGates.trans (h : s.KeepsGates t) (h' : t.KeepsGates u) : s.KeepsGates u :=
  ⟨h'.gates.trans h.gates, h'.gtc.trans h.gtc⟩

theorem State.KeepsGates.foldl {α : Type} (f : State → α → State) (h : ∀ (s : State) (x : α), s.KeepsGates (f s x)) (l : List α)
    (s : State) : s.KeepsGates (l.foldl f s) := by
  induction l generalizing s with
  | nil => exact .refl s
  | cons x xs ih => exact (h s x).trans (ih (f s x))

theorem State.countRun_keepsGates (s : State) (q i n : Nat) : s.KeepsGates (s.countRun q i n) := by
  unfold State.countRun
  split
  · exact ⟨rfl, rfl⟩
  · exact .refl s

theorem State.abortRun_keepsGates (s : State) (q i : Nat) (r : Run) (e : PktEnd) : s.KeepsGates (s.abortRun q i r e) := by
  unfold State.abortRun
  dsimp only
  split
  case h_1 => exact ⟨rfl, rfl⟩
  case h_2 => exact ⟨rfl, rfl⟩
  case h_3 => exact ⟨rfl, rfl⟩
  all_goals
    have hcount := s.countRun_keepsGates q i r.runT
    generalize s.countRun q i r.runT = u at *
    exact hcount.trans ⟨rfl, rfl⟩

theorem State.abortPkt_keepsGates (s : State) (q i : Nat) (e : PktEnd) : s.KeepsGates (s.abortPkt q i e) := by
  unfold State.abortPkt
  split
  · exact .refl s
  · have hupd : ∀ (v : State) (f : Pkt → Pkt), v.KeepsGates (v.updPkt q i f) := fun _ _ => ⟨rfl, rfl⟩
    exact ((hupd s _).trans (State.KeepsGates.foldl _ (fun v r => v.abortRun_keepsGates q i r e) _ _)).trans (hupd _ _)

theorem State.abortAll_keepsGates (s : State) (code unit : Nat) (r : Option Nat) (p : Nat → Bool) :
    s.KeepsGates (s.abortAll code unit r p) := by
  refine State.KeepsGates.foldl _ (fun u e => State.KeepsGates.foldl _ (fun v k => ?_) _ u) _ s
  split
  · exact .refl v
  · exact v.abortPkt_keepsGates _ _ _

theorem State.setSt_dom (s : State) (d : Nat) (st : DomSt) : ((s.setSt d st).dom d).st = st ∧
    ∀ e, e ≠ d → (s.setSt d st).dom e = s.dom e := by
  have hturns : (s.clusterTurns d st).doms = s.doms := by
    unfold State.clusterTurns
    split_ifs
    · rfl
    · rfl
    · refine State.foldl_doms (fun u k => ?_) _ s
      dsimp only
      split
      · rfl
      · split_ifs <;> rfl
    · rfl
  unfold State.setSt
  split
  · next h => exact ⟨h, fun _ _ => rfl⟩
  · dsimp only
    generalize s.clusterTurns d st = u at *
    obtain ⟨hrest, -⟩ := (u.setDom d { u.dom d with st := st, since := u.gtc }).trace_rest 6 uSEQ none (d + domCode st * 256) u.gtc
    generalize (u.setDom d { u.dom d with st := st, since := u.gtc }).trace 6 uSEQ none (d + domCode st * 256) u.gtc = w at *
    have hdom : ∀ e, w.dom e = Tab.get Dom.reset (u.doms.set d { u.dom d with st := st, since := u.gtc }) e := fun e =>
      (congrArg (fun v : State => v.dom e) hrest :)
    refine ⟨?_, fun e he => ?_⟩
    · rw [hdom, Tab.get_set_self]
    · rw [hdom, Tab.get_set_ne _ _ _ he, hturns]
      rfl

/-- A domain is not open, or its gate is free, so that the next act on it counts. -/
def State.CloseFree (s : State) (d : Nat) : Prop := s.domOpen d = false ∨ (s.gateOf d).at_ ≠ some s.gtc

theorem State.gateAct_other (s : State) {e d rank : Nat} {act : State → State} (h : e ≠ d)
    (hact : ∀ u : State, (act u).gates = u.gates ∧ (act u).gtc = u.gtc ∧ (act u).dom d = u.dom d) :
    (s.gateAct e rank act).gateOf d = s.gateOf d ∧ (s.gateAct e rank act).gtc = s.gtc ∧ (s.gateAct e rank act).dom d = s.dom d := by
  have hset : ∀ g, Tab.get Gate.reset (s.gates.set e g) d = s.gateOf d := fun g => Tab.get_set_ne _ _ _ (Ne.symm h)
  unfold State.gateAct
  extract_lets g same acks
  split
  · exact ⟨hset _, rfl, rfl⟩
  · obtain ⟨hg, ht, hd⟩ := hact { s with gates := s.gates.set e ⟨some s.gtc, rank, acks ++ [(rank, true)]⟩ }
    refine ⟨?_, ht, hd⟩
    rw [State.gateOf, hg]
    exact hset _

/-- One domain of the pass that begins to close. -/
def State.closeOne (p : Nat → Bool) (s : State) (d : Nat) : State :=
  if p d ∧ s.domOpen d then s.gateAct d 2 fun s => s.setSt d .closing else s

theorem State.closeOne_other {p : Nat → Bool} {e d : Nat} (s : State) (h : e ≠ d) :
    (s.closeOne p e).gateOf d = s.gateOf d ∧ (s.closeOne p e).gtc = s.gtc ∧ (s.closeOne p e).dom d = s.dom d := by
  unfold State.closeOne
  split
  · refine s.gateAct_other h fun u => ?_
    have hkeep := u.setSt_keepsAon e .closing
    exact ⟨hkeep.gates, hkeep.gtc, (u.setSt_dom e .closing).2 d (Ne.symm h)⟩
  · exact ⟨rfl, rfl, rfl⟩

theorem State.closeOne_self {p : Nat → Bool} {d : Nat} (s : State) (hp : p d = true) (h : s.CloseFree d) :
    (s.closeOne p d).domOpen d = false := by
  unfold State.closeOne
  split
  · next hopen =>
    have hgate : (s.gateOf d).at_ ≠ some s.gtc := h.resolve_left (by rw [hopen.2]; decide)
    obtain ⟨g, hact⟩ := State.gateAct_now (rank := 2) (fun s => s.setSt d .closing) hgate
    rw [hact, State.domOpen, (State.setSt_dom _ d .closing).1]
    rfl
  · next hshut =>
    rw [not_and] at hshut
    exact Bool.eq_false_iff.mpr (hshut hp)

theorem State.closeOne_closeFree {p : Nat → Bool} {e d : Nat} (s : State) (hp : p d = true) (h : s.CloseFree d) :
    (s.closeOne p e).CloseFree d := by
  by_cases he : e = d
  · exact .inl (he ▸ State.closeOne_self s (he ▸ hp) (he ▸ h))
  · obtain ⟨hg, ht, hd⟩ := s.closeOne_other (p := p) he
    rw [State.CloseFree, hg, ht, State.domOpen, hd]
    exact h

theorem State.closeOne_shut {p : Nat → Bool} {e d : Nat} (s : State) (hp : p d = true) (h : s.domOpen d = false) :
    (s.closeOne p e).domOpen d = false := by
  by_cases he : e = d
  · exact he ▸ State.closeOne_self s (he ▸ hp) (he ▸ .inl h)
  · rw [State.domOpen, (s.closeOne_other (p := p) he).2.2]
    exact h

theorem State.closeAll_shut {p : Nat → Bool} {d : Nat} (hp : p d = true) (l : List Nat) (s : State)
    (h : s.domOpen d = false ∨ s.CloseFree d ∧ d ∈ l) : (l.foldl (State.closeOne p) s).domOpen d = false := by
  induction l generalizing s with
  | nil => exact h.resolve_right fun h => absurd h.2 List.not_mem_nil
  | cons e l ih =>
    refine ih _ ?_
    rcases h with h | ⟨hfree, hmem⟩
    · exact .inl (s.closeOne_shut hp h)
    · by_cases he : e = d
      · exact .inl (he ▸ State.closeOne_self s (he ▸ hp) (he ▸ hfree))
      · exact .inr ⟨s.closeOne_closeFree hp hfree, (List.mem_cons.mp hmem).resolve_left (Ne.symm he)⟩

theorem State.beginClose_eq (s : State) (p : Nat → Bool) : s.beginClose p = reverseOrder.foldl (State.closeOne p) s := rfl

theorem State.closeOne_aon (p : Nat → Bool) (s : State) (d : Nat) : (s.closeOne p d).flight = s.flight ∧
    ∀ g : Fld, g.Aon → (s.closeOne p d).get g = s.get g := by
  unfold State.closeOne
  split
  · unfold State.gateAct
    extract_lets g same acks
    split
    · exact ⟨rfl, fun _ _ => rfl⟩
    · have hkeep := State.setSt_keepsAon { s with gates := s.gates.set d ⟨some s.gtc, 2, acks ++ [(2, true)]⟩ } d .closing
      exact ⟨hkeep.flight, hkeep.get⟩
  · exact ⟨rfl, fun _ _ => rfl⟩

theorem State.closeAll_aon (p : Nat → Bool) (l : List Nat) (s : State) : (l.foldl (State.closeOne p) s).flight = s.flight ∧
    ∀ g : Fld, g.Aon → (l.foldl (State.closeOne p) s).get g = s.get g := by
  induction l generalizing s with
  | nil => exact ⟨rfl, fun _ _ => rfl⟩
  | cons d l ih =>
    obtain ⟨hf, hg⟩ := s.closeOne_aon p d
    obtain ⟨hf', hg'⟩ := ih (s.closeOne p d)
    exact ⟨hf'.trans hf, fun g h => (hg' g h).trans (hg g h)⟩

theorem mem_reverseOrder {d : Nat} (h0 : 0 < d) (h : d < 28) : d ∈ reverseOrder := by
  have hall : ∀ d, d < 28 → 0 < d → d ∈ reverseOrder := by decide
  exact hall d h h0

/-- A winding down with free gates leaves no domain of `p` open; what is always on stays. -/
theorem State.windDown_post (s : State) (p : Nat → Bool) (hgate : ∀ d, 0 < d → d < 28 → (s.gateOf d).at_ ≠ some s.gtc) :
    (s.windDown p).flight = s.flight ∧ (∀ g : Fld, g.Aon → (s.windDown p).get g = s.get g) ∧
      ∀ d, 0 < d → d < 28 → p d = true → ((s.windDown p).dom d).st ≠ .opened := by
  have hoff := s.switchOffAll_keepsAon false (reverseOrder.filter fun d => p d && !(s.domLive d)) fun d hd =>
    reverseOrder_ne_zero (List.mem_of_mem_filter hd)
  rw [State.windDown, State.beginClose_eq]
  generalize s.switchOffAll false (reverseOrder.filter fun d => p d && !(s.domLive d)) = u at *
  obtain ⟨hf, hg⟩ := u.closeAll_aon p reverseOrder
  refine ⟨hf.trans hoff.flight, fun g h => (hg g h).trans (hoff.get g h), fun d h0 h28 hp ho => ?_⟩
  have hfree : u.CloseFree d := .inr (by rw [State.gateOf, hoff.gates, hoff.gtc]; exact hgate d h0 h28)
  have hshut := State.closeAll_shut hp reverseOrder u (.inr ⟨hfree, mem_reverseOrder h0 h28⟩)
  rw [State.domOpen, ho] at hshut
  exact absurd hshut (by decide)

/-- The reference is lost outside watch standby, with every gate free. -/
theorem refLost_fails (hrc : s.onRc = false) (hst : s.eng ≠ engStandby)
    (hgate : ∀ d, 0 < d → d < 28 → (s.gateOf d).at_ ≠ some s.gtc) : Gives .refLost s fun t => t.eng = engFailed ∧
      t.get Reg.PWR_FLIGHT_STATUS_PHASE = 6 ∧ t.flight.running = false ∧
      ∀ d, 0 < d → d < 28 → d ≠ 1 → d ≠ 5 → (t.dom d).st ≠ .opened := by
  let v := (({ s with onRc := true } : State).put Reg.PWR_FLIGHT_STATUS_REF_RC 1)
  have hfiled : v.Filed (v.seqFault 0x54 0) 1 := v.fault_filed ..
  have heng : (v.seqFault 0x54 0).eng = s.eng :=
    (hfiled.get _ (by decide) (by decide)).trans (State.get_put_ne _ _ _ _ (by decide))
  have heq : exec .refLost s = .next (((((((((v.seqFault 0x54 0).put Reg.PWR_RESET_STATUS_LAST_SOURCE 4).stopDispatch).abortAll 0x54 uSEQ
      (some v.recId) fun _ => true).endStop 0x0B).haltFlight).setEng engFailed).put Reg.PWR_FLIGHT_STATUS_PHASE 6).windDown
        fun d => d != 1 && d != 5) := by
    refine congrArg Host.Outcome.next ((if_neg (by rw [hrc]; decide)).trans (if_neg ?_))
    rw [heng]
    exact hst
  have hgates0 : s.KeepsGates ((v.seqFault 0x54 0).put Reg.PWR_RESET_STATUS_LAST_SOURCE 4).stopDispatch :=
    ⟨(congrArg State.gates hfiled.rest :), (congrArg State.gtc hfiled.rest :)⟩
  generalize ((v.seqFault 0x54 0).put Reg.PWR_RESET_STATUS_LAST_SOURCE 4).stopDispatch = a at *
  have hgates1 := hgates0.trans (a.abortAll_keepsGates 0x54 uSEQ (some v.recId) fun _ => true)
  generalize a.abortAll 0x54 uSEQ (some v.recId) (fun _ => true) = b at *
  have hstop := b.endStop_post 0x0B
  have hgates2 : s.KeepsGates (b.endStop 0x0B) := hgates1.trans ⟨(congrArg State.gates hstop :), (congrArg State.gtc hstop :)⟩
  generalize b.endStop 0x0B = c at *
  obtain ⟨hrest, hfailed, -⟩ := c.haltFlight.setEng_post engFailed (by decide)
  have hrun : (c.haltFlight.setEng engFailed).flight.running = false := (congrArg (fun w : State => w.flight.running) hrest :)
  have hgates3 : s.KeepsGates (c.haltFlight.setEng engFailed) :=
    hgates2.trans ⟨(congrArg State.gates hrest :), (congrArg State.gtc hrest :)⟩
  generalize c.haltFlight.setEng engFailed = e at *
  obtain ⟨hflight, hget, hshut⟩ := State.windDown_post (e.put Reg.PWR_FLIGHT_STATUS_PHASE 6) (fun d => d != 1 && d != 5)
    fun d h0 h28 => by
      change (Tab.get Gate.reset e.gates d).at_ ≠ some e.gtc
      rw [hgates3.gates, hgates3.gtc]
      exact hgate d h0 h28
  refine ⟨_, heq, ?_, ?_, ?_, fun d h0 h28 h1 h5 => hshut d h0 h28 (by simp [h1, h5])⟩
  · exact (hget _ ⟨by decide, by decide⟩).trans ((State.get_put_ne _ _ _ _ (by decide)).trans hfailed)
  · exact (hget _ ⟨by decide, by decide⟩).trans (State.get_put_self ..)
  · exact (congrArg FlightSeq.running hflight).trans hrun

/-- The reference PLL fails to lock (R62). -/
theorem referencePllLock_fails (hrun : s.flight.running = true) (hph : s.get Reg.PWR_FLIGHT_STATUS_PHASE = 0)
    (hal : s.alarmed = false) : Gives (.referencePllLock .failed) s fun t => t.onRc = true ∧
      t.get Reg.PWR_FLIGHT_STATUS_REF_RC = 1 ∧ t.eng = engFailed ∧ t.flight.running = false ∧
      t.conc.nextId = s.conc.nextId + 3 := by
  have hgo : ¬((!s.flight.running) = true ∨ s.get Reg.PWR_FLIGHT_STATUS_PHASE ≠ 0) := by
    rw [hrun, hph]
    decide
  let v : State := { s with onRc := true }
  let w := ((v.seqFault 0x57 (3 * 2 ^ 8 + 0 * 2 ^ 16)).seqFault 0x57 (3 * 2 ^ 8 + 1 * 2 ^ 16)).seqFault 0x54 (3 * 2 ^ 8 + 2 * 2 ^ 16)
  have hfiled : v.Filed w 3 := ((v.fault_filed ..).trans (State.fault_filed ..)).trans (State.fault_filed ..)
  have heq : exec (.referencePllLock .failed) s = .next (((((w.put Reg.PWR_FLIGHT_STATUS_REF_RC 1).put
      Reg.PWR_FLIGHT_STATUS_DOMAIN 0).put Reg.PWR_FLIGHT_STATUS_STEP 3).put Reg.PWR_FLIGHT_STATUS_ATTEMPT 2).flightFailed) :=
    congrArg Host.Outcome.next (if_neg hgo)
  generalize w = u at *
  have hrc : u.onRc = true := (congrArg State.onRc hfiled.rest :)
  have hlevel : u.get Reg.KPR_STATE_LEVEL = s.get Reg.KPR_STATE_LEVEL := hfiled.get _ (by decide) (by decide)
  let x : State := { ((((u.put Reg.PWR_FLIGHT_STATUS_REF_RC 1).put Reg.PWR_FLIGHT_STATUS_DOMAIN 0).put Reg.PWR_FLIGHT_STATUS_STEP 3).put
    Reg.PWR_FLIGHT_STATUS_ATTEMPT 2) with flight := { u.flight with running := false, todo := [], lastDom := none, images := [] } }
  let y := x.put Reg.PWR_FLIGHT_STATUS_PHASE 6
  have hy : y.alarmed = false := by
    have hylevel : y.get Reg.KPR_STATE_LEVEL = s.get Reg.KPR_STATE_LEVEL := by
      refine (State.get_put_ne _ _ _ _ (by decide)).trans (Eq.trans ?_ hlevel)
      exact (State.get_put_ne _ _ _ _ (by decide)).trans ((State.get_put_ne _ _ _ _ (by decide)).trans
        ((State.get_put_ne _ _ _ _ (by decide)).trans (State.get_put_ne _ _ _ _ (by decide))))
    rw [State.alarmed, hylevel]
    exact hal
  have hfail : ((((u.put Reg.PWR_FLIGHT_STATUS_REF_RC 1).put Reg.PWR_FLIGHT_STATUS_DOMAIN 0).put Reg.PWR_FLIGHT_STATUS_STEP 3).put
      Reg.PWR_FLIGHT_STATUS_ATTEMPT 2).flightFailed =
      (y.setEng engFailed).switchOffAll false (reverseOrder.filter fun d => d != 1 && d != 5 && d != 11) := by
    change (if y.alarmed = true then y else y.setEng engFailed).switchOffAll false _ = _
    rw [hy, if_neg Bool.false_ne_true]
  rw [hfail] at heq
  have hyref : y.get Reg.PWR_FLIGHT_STATUS_REF_RC = 1 := by
    refine (State.get_put_ne _ _ _ _ (by decide)).trans ?_
    exact (State.get_put_ne _ _ _ _ (by decide)).trans ((State.get_put_ne _ _ _ _ (by decide)).trans
      ((State.get_put_ne _ _ _ _ (by decide)).trans (State.get_put_self ..)))
  obtain ⟨hrest, heng, hget⟩ := y.setEng_post engFailed (by decide)
  have hoff := (y.setEng engFailed).switchOffAll_keepsAon false (reverseOrder.filter fun d => d != 1 && d != 5 && d != 11)
    fun d hd => reverseOrder_ne_zero (List.mem_of_mem_filter hd)
  refine ⟨_, heq, hoff.onRc.trans ?_, ?_, ?_, ?_, hoff.nextId.trans ?_⟩
  · exact (congrArg State.onRc hrest).trans hrc
  · exact (hoff.get _ ⟨by decide, by decide⟩).trans ((hget _ (by decide) (by decide)).trans hyref)
  · exact (hoff.get _ ⟨by decide, by decide⟩).trans heng
  · exact (congrArg FlightSeq.running hoff.flight).trans (congrArg (fun z : State => z.flight.running) hrest :)
  · exact (congrArg (fun z : State => z.conc.nextId) hrest : _).trans hfiled.nextId

/-! ### A cluster's reset (R63, R64) -/

theorem State.switchOff_st (s : State) (standby : Bool) (d : Nat) (st : DomSt) : ((s.switchOff standby d st).dom d).st = st := by
  have heq : s.switchOff standby d st =
      ((s.setDom d { s.dom d with ramp := .none, trainDue := false, ready := false }).setSt d st).closeFx standby d := rfl
  rw [heq, State.dom, State.closeFx_doms]
  exact (State.setSt_dom _ d st).1

theorem State.startDomain_st (s : State) (d : Nat) : ((s.startDomain d).dom d).st = .railWait := by
  have hnote : ∀ u : State, (u.note d 1).doms = u.doms := fun u => by
    unfold State.note
    split <;> rfl
  unfold State.startDomain
  dsimp only
  rw [State.dom, hnote]
  exact (State.setSt_dom _ d .railWait).1

theorem State.enterStop_doms (s : State) (kind index : Nat) (failure : Bool) : (s.enterStop kind index failure).doms = s.doms := by
  have hfollow : ∀ u : State, u.followFailures.doms = u.doms := fun u => by
    unfold State.followFailures
    split
    · exact (congrArg State.doms (u.setEng_post engDegraded (by decide)).1 :)
    · split
      · exact (congrArg State.doms (u.setEng_post engReady (by decide)).1 :)
      · rfl
  unfold State.enterStop
  exact hfollow _

theorem State.endStop_doms (s : State) (result : Nat) : (s.endStop result).doms = s.doms := (congrArg State.doms (s.endStop_post result) :)

/-- A domain whose closing ends is not closing any more. -/
theorem State.gateClose_st (s : State) (d : Nat) : ((s.gateClose d).dom d).st ≠ .closing := by
  have hoff : ∀ (u : State) (k i : Nat) (f : Bool), (((u.switchOff false d .stoppage).enterStop k i f).dom d).st = .stoppage :=
    fun u k i f => by
      rw [State.dom, State.enterStop_doms]
      exact u.switchOff_st false d .stoppage
  have hshut : (((s.switchOff false d .closed).setDom d Dom.reset).dom d).st ≠ .closing := by
    rw [State.dom_setDom, if_pos rfl]
    decide
  have hended : ∀ (u : State) (r : Nat), (u.dom d).st = .stoppage → ((u.endStop r).dom d).st ≠ .closing := fun u r h => by
    rw [State.dom, State.endStop_doms]
    exact fun hc => absurd (h.symm.trans hc) (by decide)
  unfold State.gateClose
  split
  · dsimp only
    generalize hu : (({ s with power := _ } : State).switchOff false d .stoppage).enterStop 1 (d - 12) true = u
    have hst : (u.dom d).st = .stoppage := hu ▸ hoff _ 1 (d - 12) true
    have hkeep : (u.dom d).st ≠ .closing := fun hc => absurd (hst.symm.trans hc) (by decide)
    split
    · split
      · exact hended u 0x0A hst
      · exact hkeep
    · exact hkeep
  · split
    · next x _ =>
      split
      · have hst := hoff s x.kind x.index (x.reset && x.failed)
        unfold State.stopped
        dsimp only
        generalize (s.switchOff false d .stoppage).enterStop x.kind x.index (x.reset && x.failed) = u at *
        split
        · unfold State.beginReopen
          dsimp only
          rw [State.startDomain_st]
          decide
        · exact hended u 0 hst
      · exact hshut
    · exact hshut

theorem State.clusterMon_post (s : State) (c : Nat) : (s.clusterMon c).doms = s.doms ∧ s.KeepsAon (s.clusterMon c) := by
  have hslot : ∀ (u : State) (k : Nat), u.KeepsAon (u.resetRegs fun o => decide (0x010B2000 + 0x60 * k ≤ o) && decide (o < 0x010B2060 + 0x60 * k)) :=
    fun u k => by
      refine ⟨rfl, rfl, rfl, rfl, rfl, rfl, rfl, rfl, fun g hg => (State.get_resetRegs u _ g).trans (if_neg ?_)⟩
      have hlt := hg.2
      simp only [Bool.and_eq_true, decide_eq_true_eq]
      omega
  have hput : s.KeepsAon (s.put (Reg.MON_DEMAND_COUNT c) 0) := s.put_keepsAon _ 0 (by
    change 0x01070054 ≤ 0x010B0040 + 0x4 * c
    omega)
  unfold State.clusterMon
  dsimp only
  refine ⟨(State.foldl_doms (fun u k => ?_) _ _).trans rfl, hput.trans (State.KeepsAon.foldl _ _ (fun u k _ => ?_) _)⟩
  · split <;> rfl
  · split
    · exact hslot u k
    · exact .refl u

theorem State.endClaims_doms (s : State) (p : Nat → Nat → Bool) : (s.endClaims p).doms = s.doms := by
  unfold State.endClaims
  refine State.foldl_doms (fun u k => ?_) _ s
  dsimp only
  split
  · rfl
  · split_ifs <;> rfl

/-- A cluster reset begins to close its open cluster. -/
theorem clusterReset_closes {src : Source} {value : BitVec 32} {c : Nat} (hsrc : s.srcReaches src = true)
    (hcmd : resetCmdIs value 2 = true) (htarget : resetTarget value = c) (hbusy : s.get Reg.PWR_RESET_STATUS_BUSY = 0)
    (hstop : s.stop = none) (hrun : s.flight.running = false) (hready : s.isReady = true) (hen : s.clEnabled c = true)
    (hopen : s.domOpen (clDom c) = true) (hgate : (s.gateOf (clDom c)).at_ ≠ some s.gtc) :
    Gives (.cluster src value) s fun t => (t.dom (clDom c)).st = .closing ∧ t.get Reg.PWR_RESET_STATUS_BUSY = 1 ∧
      t.get Reg.PWR_RESET_STATUS_LAST_KIND = 2 ∧ t.stop = some ⟨1, c, false, true, s.byFailure 1 c, s.gtc, false⟩ := by
  let v := ((s.put Reg.PWR_RESET_STATUS_LAST_SOURCE (sourceCode src)).put Reg.PWR_RESET_STATUS_LAST_KIND 2).put
    Reg.PWR_RESET_STATUS_BUSY 1
  have hfailed : v.byFailure 1 c = s.byFailure 1 c := by
    rw [State.byFailure, State.byFailure, State.get_put_ne _ _ _ _ (by decide), State.get_put_ne _ _ _ _ (by decide),
      State.get_put_ne _ _ _ _ (by decide)]
  let w : State := { v with stop := some ⟨1, c, false, true, v.byFailure 1 c, v.gtc, false⟩ }
  obtain ⟨hmdoms, hmon⟩ := w.clusterMon_post c
  have hs : (s.dom (clDom c)).st = .opened := by simpa [State.domOpen] using hopen
  have hopened : ∀ x : State, x.doms = s.doms → ((x.put Reg.PWR_STOP_STATUS_BUSY 1).dom (clDom c)).st = .opened := fun x hx =>
    (congrArg (fun l => (Tab.get Dom.reset l (clDom c)).st) hx).trans hs
  have hst : (((w.clusterMon c).put Reg.PWR_STOP_STATUS_BUSY 1).dom (clDom c)).st = .opened := hopened _ hmdoms
  have hgo : ¬((!(s.srcReaches src)) = true ∨ (!(resetCmdIs value 2)) = true ∨ s.on Reg.PWR_RESET_STATUS_BUSY = true ∨ s.stop.isSome = true ∨
      s.flight.running = true ∨ (!s.isReady) = true ∨ (!(s.clEnabled (resetTarget value))) = true) := by
    rw [htarget, hsrc, hcmd, State.on_of_zero hbusy, hstop, hrun, hready, hen]
    decide
  have heq : exec (.cluster src value) s = .next (((w.clusterMon c).put Reg.PWR_STOP_STATUS_BUSY 1).closeCluster c) := by
    refine congrArg Host.Outcome.next ((if_neg hgo).trans ?_)
    rw [htarget]
    exact if_neg fun h => absurd (hst.symm.trans h) (by decide)
  refine ⟨_, heq, ?_⟩
  have hput := (w.clusterMon c).put_keepsAon Reg.PWR_STOP_STATUS_BUSY 1 (by decide)
  generalize (w.clusterMon c).put Reg.PWR_STOP_STATUS_BUSY 1 = x at *
  have hx := hmon.trans hput
  have hclaims := x.endClaims_keepsAon fun t _ => t / 4 == c
  have hcdoms := x.endClaims_doms fun t _ => t / 4 == c
  unfold State.closeCluster
  dsimp only
  generalize x.endClaims (fun t _ => t / 4 == c) = y at *
  have hy := hx.trans hclaims
  have hyst : (y.dom (clDom c)).st = .opened := by
    rw [State.dom, hcdoms]
    exact hst
  have hygate : (y.gateOf (clDom c)).at_ ≠ some y.gtc := by
    rw [State.gateOf, hy.gates, hy.gtc]
    exact hgate
  obtain ⟨g, hact⟩ := State.gateAct_now (rank := 2) (fun s => s.setSt (clDom c) .closing) hygate
  rw [hyst]
  dsimp only
  rw [hact]
  have hclose := State.setSt_keepsAon { y with gates := y.gates.set (clDom c) g } (clDom c) .closing
  refine ⟨(State.setSt_dom _ _ _).1, ?_, ?_, ?_⟩
  · exact (hclose.get _ ⟨by decide, by decide⟩).trans ((hy.get _ ⟨by decide, by decide⟩).trans (State.get_put_self ..))
  · refine (hclose.get _ ⟨by decide, by decide⟩).trans ((hy.get _ ⟨by decide, by decide⟩).trans ?_)
    exact (State.get_put_ne _ _ _ _ (by decide)).trans (State.get_put_self ..)
  · refine hclose.stop.trans (hy.stop.trans ?_)
    rw [← hfailed]
    rfl

end Lost

/-- Settles O25: each reset, and each lost supply, leaves the domains, the flight and the status that the chapter gives. -/
theorem resetCommands : Obligations.ResetCommands := by
  unfold Obligations.ResetCommands
  intro s src value cl c off flies
  have hflies : ∀ (u : State) (kind : Nat), kind < 8 → flies ((u.startFlight kind).put Reg.PWR_RESET_STATUS_BUSY 0) kind :=
    fun u kind hk => by
      obtain ⟨hrun, hkind, -⟩ := u.startFlight_post hk
      exact ⟨hrun, (State.get_put_ne _ _ _ _ (by decide)).trans hkind, State.get_put_self ..⟩
  refine ⟨?_, ?_, fun hn => ?_, fun hsrc hcmd hn => ?_, fun hrun hph => ⟨?_, referencePllLock_fails hrun hph⟩, fun hrc hst => ?_,
    refLost_fails, clusterReset_closes, fun hclosing hwaits hel => ?_, fun hdead heng => ?_⟩
  · refine ⟨_, rfl, rfl, rfl, rfl, rfl, rfl, fun d hd _ => .inl ?_, rfl, rfl, rfl, rfl⟩
    change (Tab.get Dom.reset [(0, { Dom.reset with st := .opened })] d).st = .closed
    rw [Tab.get, if_neg (by omega)]
    rfl
  · obtain ⟨hmem, hrun, hpins, hoff, hlast, hkind, hbusy⟩ := s.warmReset_post (source := 1) (by decide)
    have heq : exec .resetNAssert s = .next ({ s.warmReset 1 with pins := { (s.warmReset 1).pins with resetN := false } } : State).alarmPin :=
      congrArg Host.Outcome.next (by dsimp only)
    generalize s.warmReset 1 = u at *
    refine ⟨_, heq, rfl, ?_, hrun, hoff, hlast, hkind, hbusy, hmem⟩
    exact congrArg Pins.wakeOut hpins
  · let u : State := ({ s with pins := { s.pins with resetN := true } }).alarmPin
    have heq : exec .resetNRise s = .next ((u.startFlight (if s.flight.coldNext then 0 else 1)).put Reg.PWR_RESET_STATUS_BUSY 0) :=
      congrArg Host.Outcome.next (if_neg (by rw [hn]; decide))
    have hkind : (if s.flight.coldNext = true then 0 else 1) < 8 := by split <;> decide
    refine ⟨_, heq, ?_, hflies u _ hkind⟩
    exact congrArg Pins.resetN (u.startFlight_post hkind).2.2.1
  · obtain ⟨-, -, hpins, -, hlast, hkind, -⟩ := s.warmReset_post (source := sourceCode src) (by cases src <;> decide)
    have hgo : ¬((!(s.srcReaches src)) = true ∨ (!(resetCmdIs value 1)) = true) := by
      rw [hsrc, hcmd]
      decide
    have hup : (s.warmReset (sourceCode src)).pins.resetN = true := (congrArg Pins.resetN hpins).trans hn
    have heq : exec (.warm src value) s = .next (((s.warmReset (sourceCode src)).startFlight 1).put Reg.PWR_RESET_STATUS_BUSY 0) :=
      congrArg Host.Outcome.next ((if_neg hgo).trans (if_pos hup))
    refine ⟨_, heq, hflies _ 1 (by decide), ?_⟩
    generalize s.warmReset (sourceCode src) = u at *
    obtain ⟨-, -, -, hsource, hkinds⟩ := u.startFlight_post (kind := 1) (by decide)
    exact ⟨(State.get_put_ne _ _ _ _ (by decide)).trans (hsource.trans hlast),
      (State.get_put_ne _ _ _ _ (by decide)).trans (hkinds.trans hkind)⟩
  · have hgo : ¬((!s.flight.running) = true ∨ s.get Reg.PWR_FLIGHT_STATUS_PHASE ≠ 0) := by
      rw [hrun, hph]
      decide
    refine ⟨_, congrArg Host.Outcome.next (if_neg hgo), rfl, ?_, State.get_put_self .., rfl, rfl⟩
    exact (State.get_put_ne _ _ _ _ (by decide)).trans (State.get_put_self ..)
  · let v := (({ s with onRc := true } : State).put Reg.PWR_FLIGHT_STATUS_REF_RC 1)
    have hfiled : v.Filed (v.seqFault 0x54 0) 1 := v.fault_filed ..
    have heng : (v.seqFault 0x54 0).eng = engStandby :=
      (hfiled.get _ (by decide) (by decide)).trans ((State.get_put_ne _ _ _ _ (by decide)).trans hst)
    have heq : exec .refLost s = .next (v.seqFault 0x54 0) :=
      congrArg Host.Outcome.next ((if_neg (by rw [hrc]; decide)).trans (if_pos heng))
    exact ⟨_, heq, (congrArg State.onRc hfiled.rest :), heng, (congrArg State.doms hfiled.rest :), hfiled.nextId⟩
  · have hgo : ¬((s.dom (clDom c)).st ≠ .closing ∨ (!(s.stopWaits (clDom c))) = true ∨ s.elapsed (clDom c) < 100000) := by
      rw [hwaits]
      rintro (h | h | h)
      · exact h hclosing
      · exact absurd h (by decide)
      · omega
    exact ⟨_, congrArg Host.Outcome.next (if_neg hgo), State.gateClose_st _ _⟩
  · have hany : ¬(flightOrder.any fun d => d != 9 && s.domLive d) = true := by
      rw [List.any_eq_true]
      rintro ⟨d, hd, h⟩
      rw [Bool.and_eq_true] at h
      rw [hdead d hd (by simpa using h.1)] at h
      exact absurd h.2 (by decide)
    exact ⟨_, congrArg Host.Outcome.next ((if_neg hany).trans (if_neg heng)), rfl, rfl, rfl, rfl, rfl, rfl, rfl, fun _ => rfl⟩

end Sys2Proof.Machine

namespace Sys2Proof.Machine

/-! ## Power control (spec chapter 15, R598-R625) -/

section Power

variable {s : State}

/-! ### A pass over the clusters that moves nothing (R603) -/

/-- The allotment of a pass: the effective cap and each cluster's share are shown. -/
def State.allotted (s : State) : State :=
  (List.range 16).foldl (fun u c => u.put (Reg.PWR_CL_ALLOC_ALLOC c) (min 65535 (Tab.get 0 (s.showCap.shares none) c))) s.showCap

theorem State.putAll_post {α : Type} (f : α → Fld) (v : α → Nat) (l : List α) (s : State) :
    l.foldl (fun u c => u.put (f c) (v c)) s = { s with regs := (l.foldl (fun u c => u.put (f c) (v c)) s).regs } ∧
      ∀ g : Fld, (∀ c ∈ l, g.key ≠ (f c).key) → (l.foldl (fun u c => u.put (f c) (v c)) s).get g = s.get g := by
  induction l generalizing s with
  | nil => exact ⟨rfl, fun _ _ => rfl⟩
  | cons c l ih =>
    obtain ⟨hrest, hget⟩ := ih (s.put (f c) (v c))
    exact ⟨hrest, fun g h => (hget g fun d hd => h d (List.mem_cons_of_mem _ hd)).trans (State.get_put_ne _ _ _ _ (h c List.mem_cons_self))⟩

theorem State.allotted_post (s : State) : s.allotted = { s with regs := s.allotted.regs } ∧
    ∀ g : Fld, g.key ≠ Reg.PWR_EFF_CAP_C_EFF.key → g.key ≠ Reg.PWR_EFF_CAP_BOUND.key →
      g.key < 0x010701C0 * 64 ∨ 0x01070200 * 64 ≤ g.key → s.allotted.get g = s.get g := by
  obtain ⟨hrest, hget⟩ := State.putAll_post Reg.PWR_CL_ALLOC_ALLOC (fun c => min 65535 (Tab.get 0 (s.showCap.shares none) c)) (List.range 16)
    s.showCap
  refine ⟨hrest, fun g h1 h2 h3 => (hget g fun c hc => ?_).trans ?_⟩
  · have hlt := List.mem_range.mp hc
    simp only [Fld.key, Reg.PWR_CL_ALLOC] at h3 ⊢
    omega
  · exact (State.get_put_ne _ _ _ _ h2).trans (State.get_put_ne _ _ _ _ h1)

theorem State.openClusters_congr {t : State} (h : t.doms = s.doms) (extra : Option Nat) : t.openClusters extra = s.openClusters extra := by
  simp only [State.openClusters, State.domOpen, State.dom, h]

theorem State.lockstep_congr {t : State} (hf : t.fuses = s.fuses) (hm : t.get Reg.PWR_CTRL_MODE = s.get Reg.PWR_CTRL_MODE) :
    t.lockstep = s.lockstep := by
  rw [State.lockstep, State.lockstep, State.yard, State.yard, hf, hm]

theorem State.allotted_frame (s : State) : s.allotted.doms = s.doms ∧ s.allotted.fuses = s.fuses := by
  have hrest := s.allotted_post.1
  generalize s.allotted = u at *
  rw [hrest]
  exact ⟨rfl, rfl⟩

theorem State.allotted_still (s : State) : s.allotted.lockstep = s.lockstep ∧ s.allotted.openClusters none = s.openClusters none := by
  obtain ⟨hdoms, hfuses⟩ := s.allotted_frame
  exact ⟨State.lockstep_congr hfuses (s.allotted_post.2 _ (by decide) (by decide) (by decide)), State.openClusters_congr hdoms none⟩

/-- One cluster of a pass takes the operating point that it is to have. -/
def State.steerOne (s : State) (e : Nat × Nat) : State :=
  let s := s.changeOp e.1 e.2 (s.opFreq e.1 e.2)
  let x := s.clus e.1
  if x.broken ∧ s.on (Reg.PWR_CL_OP_FIXED e.1) ∧ s.op e.1 = s.ceiling e.1 then s.setClus e.1 { x with broken := false } else s

/-- The clusters of a pass take the operating points that they are to have, those that fall first. -/
def State.steered (s : State) (l : List (Nat × Nat)) : State :=
  let want := (s.openClusters none).map fun c => (c, (s.nextOp c (Tab.get 0 l c)).1)
  let lower := want.filter fun e => decide (e.2 < s.op e.1)
  let higher := want.filter fun e => !(decide (e.2 < s.op e.1))
  (lower ++ higher).foldl State.steerOne s

/-- The clusters of a pass at an interval correct their limits first (R604). -/
def State.corrected (s : State) (interval : Bool) (l : List (Nat × Nat)) : State :=
  if interval then (s.openClusters none).foldl (fun s c => s.feedback c (Tab.get 0 l c)) s else s

theorem State.apportion_eq (s : State) (interval : Bool) : s.apportion interval =
    if (s.allotted.corrected interval (s.showCap.shares none)).lockstep then s.allotted.corrected interval (s.showCap.shares none)
    else (s.allotted.corrected interval (s.showCap.shares none)).steered (s.showCap.shares none) := by
  unfold State.apportion State.steered State.corrected State.allotted State.steerOne
  dsimp only
  
/-- In lockstep, or with no cluster open, a pass does no more than show its allotment. -/
theorem State.apportion_still (h : s.lockstep = true ∨ s.openClusters none = []) : s.apportion false = s.allotted := by
  obtain ⟨hlock, hopen⟩ := s.allotted_still
  have hcorrected : s.allotted.corrected false (s.showCap.shares none) = s.allotted := if_neg Bool.false_ne_true
  rw [State.apportion_eq, hcorrected, hlock]
  rcases h with h | h
  · rw [h, if_pos rfl]
  · rw [h] at hopen
    generalize s.allotted = u at *
    unfold State.steered
    simp only [hopen, List.map_nil, List.filter_nil, List.append_nil, List.foldl_nil, ite_self]

/-! ### Reports and demands (R605, R612) -/

theorem phaseReport_taken (hl : s.domLive 1 = true) {t0 k : Nat} {rest : List Report} (hin : s.conc.inbox = .phase t0 k :: rest)
    (hstill : s.lockstep = true ∨ s.openClusters none = []) : Gives .phaseReport s fun t =>
      t.conc.inbox = rest ∧ Tab.get (none, 0) t.power.phase t0 = (some k, s.gtc) := by
  let u : State := { s with
    conc := { s.conc with inbox := rest }, power := { s.power with phase := s.power.phase.set t0 (some k, s.gtc) } }
  have htake : takeReport asPhase s.conc.inbox = some ((t0, k), rest) := by
    rw [hin]
    rfl
  have heq : exec .phaseReport s = .next u.allotted := by
    refine exec_tow (execPhaseReport.eq_1 ..) hl (congrArg Host.Outcome.next ?_)
    rw [htake]
    exact State.apportion_still (s := u) hstill
  have hrest := u.allotted_post.1
  refine ⟨_, heq, ?_, ?_⟩
  · rw [hrest]
  · rw [hrest]
    exact Tab.get_set_self ..

/-- A list in ascending order with one more element in its place. -/
theorem mem_insertDemand (l : List Nat) (c d : Nat) :
    d ∈ (if l.contains c then l else l.takeWhile (· < c) ++ c :: l.dropWhile (· < c)) ↔ d = c ∨ d ∈ l := by
  by_cases h : l.contains c = true
  · rw [if_pos h]
    refine ⟨.inr, fun hd => hd.elim (fun he => he ▸ ?_) id⟩
    simpa using h
  · rw [if_neg h, List.mem_append, List.mem_cons]
    have hmem : d ∈ l ↔ d ∈ l.takeWhile (· < c) ∨ d ∈ l.dropWhile (· < c) := by
      rw [← List.mem_append, List.takeWhile_append_dropWhile]
    rw [hmem]
    exact or_left_comm

theorem demandReport_taken (hl : s.domLive 1 = true) {c : Nat} {rest : List Report} (hin : s.conc.inbox = .demand c :: rest) :
    Gives .demandReport s fun t => t.conc.inbox = rest ∧ c ∈ t.power.demands ∧ (∀ d ∈ t.power.demands, d = c ∨ d ∈ s.power.demands) ∧
      t.get (Reg.MON_DEMAND_COUNT c) = (s.get (Reg.MON_DEMAND_COUNT c) + 1) % (Reg.MON_DEMAND_COUNT c).size := by
  have htake : takeReport asDemand s.conc.inbox = some (c, rest) := by
    rw [hin]
    rfl
  have heq : exec .demandReport s = .next ((({ s with
      conc := { s.conc with inbox := rest },
      power := { s.power with demands := if s.power.demands.contains c then s.power.demands
        else s.power.demands.takeWhile (· < c) ++ c :: s.power.demands.dropWhile (· < c) } } : State).wrap (Reg.MON_DEMAND_COUNT c) 1)) := by
    refine exec_tow (execDemandReport.eq_1 ..) hl (congrArg Host.Outcome.next ?_)
    rw [htake]
  exact ⟨_, heq, rfl, (mem_insertDemand _ c c).mpr (.inl rfl), fun d hd => (mem_insertDemand _ c d).mp hd, State.get_wrap_self ..⟩

/-- A voltage request: the rail is set, and a register below the requests' own stays. -/
theorem State.postVolt_rail (s : State) (c mv : Nat) :
    (s.postVolt c mv).power = { s.power with
        rails := s.power.rails.set c { s.rail c with mv := mv, prev := (s.rail c).mv, setAt := s.gtc } } ∧
      (s.postVolt c mv).fuses = s.fuses ∧ (s.postVolt c mv).gtc = s.gtc ∧
      ∀ g : Fld, g.key < 0x01070300 * 64 → (s.postVolt c mv).get g = s.get g := by
  have hget : ∀ (u : State) (a b : Nat), ∀ g : Fld, g.key < 0x01070300 * 64 →
      (((u.put (Reg.PWR_VREQ_MV c) mv).wrap (Reg.PWR_VREQ_SEQ c) a).put Reg.PWR_VREQ_PEND_RAILS b).get g = u.get g := fun u a b g hg =>
    (State.get_put_ne _ _ _ _ (by simp only [Fld.key, Reg.PWR_VREQ_PEND] at hg ⊢; omega)).trans
      ((State.get_put_ne _ _ _ _ (by simp only [Fld.key, Reg.PWR_VREQ] at hg ⊢; omega)).trans
        (State.get_put_ne _ _ _ _ (by simp only [Fld.key, Reg.PWR_VREQ] at hg ⊢; omega)))
  unfold State.postVolt
  dsimp only
  split_ifs
  · exact ⟨rfl, rfl, rfl, fun _ _ => rfl⟩
  · exact ⟨rfl, rfl, rfl, fun g hg => hget _ _ _ g hg⟩
  · exact ⟨rfl, rfl, rfl, fun g hg => hget _ _ _ g hg⟩
  · exact ⟨rfl, rfl, rfl, fun g hg => hget _ _ _ g hg⟩

theorem State.note_frame (s : State) (d step : Nat) : s.note d step = { s with regs := (s.note d step).regs } ∧
    ∀ g : Fld, 0x01070004 * 64 ≤ g.key → (s.note d step).get g = s.get g := by
  unfold State.note
  split
  · refine ⟨rfl, fun g hg => ?_⟩
    exact (State.get_put_ne _ _ _ _ (by simp only [Fld.key, Reg.PWR_FLIGHT_STATUS] at hg ⊢; omega)).trans ((State.get_put_ne _ _ _ _ (by
      simp only [Fld.key, Reg.PWR_FLIGHT_STATUS] at hg ⊢; omega)).trans (State.get_put_ne _ _ _ _ (by simp only [Fld.key, Reg.PWR_FLIGHT_STATUS] at hg ⊢; omega)))
  · exact ⟨rfl, fun _ _ => rfl⟩

/-- A cluster begins to open: its rail is set to 600 mV, and the other domains stay. -/
theorem State.startDomain_cluster (s : State) (c : Nat) :
    ((s.startDomain (clDom c)).dom (clDom c)).st = .railWait ∧ ((s.startDomain (clDom c)).rail c).mv = 600 ∧
      (∀ d, d ≠ clDom c → (s.startDomain (clDom c)).dom d = s.dom d) ∧
      (s.startDomain (clDom c)).power.demands = s.power.demands ∧ (s.startDomain (clDom c)).fuses = s.fuses ∧
      (s.startDomain (clDom c)).get Reg.PWR_CTRL_MODE = s.get Reg.PWR_CTRL_MODE := by
  refine ⟨s.startDomain_st _, ?_⟩
  have hc : 12 ≤ clDom c := Nat.le_add_right 12 c
  have hsub : clDom c - 12 = c := Nat.add_sub_cancel_left 12 c
  let u : State := { s with gates := s.gates.drop (· == clDom c) }
  let v := u.setDom (clDom c) { u.dom (clDom c) with
    ramp := if u.supplied (clDom c) then .pending else .none, trainDue := false, ready := false }
  have heq : s.startDomain (clDom c) = ((v.postVolt c 600).setSt (clDom c) .railWait).note (clDom c) 1 := by
    unfold State.startDomain
    dsimp only
    rw [if_pos hc, hsub]
  have hvdom : ∀ d, d ≠ clDom c → v.dom d = s.dom d := fun d hd => Tab.get_set_ne _ _ _ hd
  have hvrest : v.power = s.power ∧ v.fuses = s.fuses ∧ v.get Reg.PWR_CTRL_MODE = s.get Reg.PWR_CTRL_MODE := ⟨rfl, rfl, rfl⟩
  rw [heq]
  generalize v = v at *
  obtain ⟨hpower, hfuses, -, hget⟩ := v.postVolt_rail c 600
  have hdoms := v.postVolt_doms c 600
  generalize v.postVolt c 600 = w at *
  have hset : ∃ x, w.setSt (clDom c) .railWait = w ∨ w.setSt (clDom c) .railWait =
      (w.setDom (clDom c) x).trace 6 uSEQ none (clDom c + domCode .railWait * 256) w.gtc := by
    have hturns : w.clusterTurns (clDom c) .railWait = w := by
      unfold State.clusterTurns
      rw [if_neg (by omega), if_neg (by decide), if_neg (by decide)]
    refine ⟨{ w.dom (clDom c) with st := .railWait, since := w.gtc }, ?_⟩
    unfold State.setSt
    split
    · exact .inl rfl
    · exact .inr (by rw [hturns])
  have hother := (w.setSt_dom (clDom c) .railWait).2
  have hsetrest : (w.setSt (clDom c) .railWait).power = w.power ∧ (w.setSt (clDom c) .railWait).fuses = w.fuses ∧
      (w.setSt (clDom c) .railWait).get Reg.PWR_CTRL_MODE = w.get Reg.PWR_CTRL_MODE := by
    obtain ⟨x, h | h⟩ := hset
    · rw [h]
      exact ⟨rfl, rfl, rfl⟩
    · obtain ⟨hrest, htget⟩ := (w.setDom (clDom c) x).trace_rest 6 uSEQ none (clDom c + domCode .railWait * 256) w.gtc
      rw [h]
      exact ⟨(congrArg State.power hrest :), (congrArg State.fuses hrest :), htget _ (by decide)⟩
  generalize w.setSt (clDom c) .railWait = y at *
  obtain ⟨hnote, hnget⟩ := y.note_frame (clDom c) 1
  have hpow : (y.note (clDom c) 1).power = { v.power with
      rails := v.power.rails.set c { v.rail c with mv := 600, prev := (v.rail c).mv, setAt := v.gtc } } :=
    (congrArg State.power hnote).trans (hsetrest.1.trans hpower)
  refine ⟨?_, fun d hd => ?_, ?_, ?_, ?_⟩
  · rw [State.rail, hpow]
    exact congrArg Rail.mv (Tab.get_set_self ..)
  · refine (congrArg (fun z : State => z.dom d) hnote).trans ((hother d hd).trans ?_)
    rw [State.dom, hdoms]
    exact hvdom d hd
  · rw [hpow]
    exact (congrArg Power.demands hvrest.1 :)
  · exact (congrArg State.fuses hnote).trans (hsetrest.2.1.trans (hfuses.trans hvrest.2.1))
  · exact (hnget _ (by decide)).trans (hsetrest.2.2.trans ((hget _ (by decide)).trans hvrest.2.2))

theorem clusterOpens (hl : s.domLive 1 = true) {c : Nat} (hready : s.isReady = true) (hunmet : s.on Reg.PWR_EFF_CAP_UNMET = false)
    (hfind : s.power.demands.find? s.covers = some c) (hen : s.clEnabled c = true) (hst : (s.dom (clDom c)).st = .closed)
    (hstill : s.lockstep = true ∨ s.openClusters none = []) : Gives .clusterOpenOnDemand s fun t =>
      (t.dom (clDom c)).st = .railWait ∧ t.power.demands = s.power.demands.erase c ∧ (t.rail c).mv = 600 ∧
        ∀ d, d ≠ clDom c → t.dom d = s.dom d := by
  let u : State := { s with power := { s.power with demands := s.power.demands.erase c } }
  obtain ⟨hwait, hmv, hother, hdem, hfuses, hmode⟩ := (u.setDom (clDom c) Dom.reset).startDomain_cluster c
  have hdoms : ∀ d, d ≠ clDom c → ((u.setDom (clDom c) Dom.reset).startDomain (clDom c)).dom d = s.dom d := fun d hd =>
    (hother d hd).trans (Tab.get_set_ne _ _ _ hd)
  have hopen : ((u.setDom (clDom c) Dom.reset).startDomain (clDom c)).openClusters none = s.openClusters none := by
    refine List.filter_congr fun k _ => ?_
    by_cases hk : clDom k = clDom c
    · rw [State.domOpen, State.domOpen, hk, hwait, hst]
      rfl
    · rw [State.domOpen, State.domOpen, hdoms _ hk]
  have hlock : ((u.setDom (clDom c) Dom.reset).startDomain (clDom c)).lockstep = s.lockstep := State.lockstep_congr hfuses hmode
  have heq : exec .clusterOpenOnDemand s = .next (((u.setDom (clDom c) Dom.reset).startDomain (clDom c)).apportion false) := by
    refine exec_tow (execClusterOpenOnDemand.eq_1 ..) hl (congrArg Host.Outcome.next ?_)
    rw [hready, hunmet, if_neg (by decide), hfind]
    exact if_pos ⟨hen, hst⟩
  generalize (u.setDom (clDom c) Dom.reset).startDomain (clDom c) = v at *
  rw [State.apportion_still (by rw [hlock, hopen]; exact hstill)] at heq
  have hrest := v.allotted_post.1
  generalize v.allotted = w at *
  refine ⟨w, heq, ?_, ?_, ?_, fun d hd => ?_⟩
  · exact (congrArg (fun z : State => (z.dom (clDom c)).st) hrest).trans hwait
  · exact (congrArg (fun z : State => z.power.demands) hrest).trans hdem
  · exact (congrArg (fun z : State => (z.rail c).mv) hrest).trans hmv
  · exact (congrArg (fun z : State => z.dom d) hrest).trans (hdoms d hd)

/-! ### Clusters that close (R609, R610) -/

theorem State.closeCluster_open {c : Nat} (hopen : s.domOpen (clDom c) = true) (hgate : (s.gateOf (clDom c)).at_ ≠ some s.gtc) :
    ((s.closeCluster c).dom (clDom c)).st = .closing ∧ (∀ d, d ≠ clDom c → (s.closeCluster c).dom d = s.dom d) ∧
      (s.closeCluster c).power = s.power := by
  have hclaims := s.endClaims_keepsAon fun t _ => t / 4 == c
  have hcdoms := s.endClaims_doms fun t _ => t / 4 == c
  have hpow : ∀ (u : State) (p : Nat → Nat → Bool), (u.endClaims p).power = u.power := fun u p => by
    have hfold : ∀ (l : List Nat) (v : State), (l.foldl (fun s t =>
        let d := Tab.get DTile.reset s.disp.tiles t
        match d.claim with
        | none => s
        | some q => if p t q then
            ({ s with disp := { s.disp with tiles := s.disp.tiles.set t { d with claim := none } } }).updTile t
              fun x => { x with written := [] }
          else s) v).power = v.power := by
      intro l
      induction l with
      | nil => exact fun _ => rfl
      | cons k l ih =>
        intro v
        rw [List.foldl_cons]
        refine (ih _).trans ?_
        dsimp only
        split
        · rfl
        · split_ifs <;> rfl
    exact hfold _ u
  have hcpow := hpow s fun t _ => t / 4 == c
  unfold State.closeCluster
  dsimp only
  generalize s.endClaims (fun t _ => t / 4 == c) = y at *
  have hyst : (y.dom (clDom c)).st = .opened := by
    rw [State.dom, hcdoms]
    simpa [State.domOpen, State.dom] using hopen
  have hygate : (y.gateOf (clDom c)).at_ ≠ some y.gtc := by
    rw [State.gateOf, hclaims.gates, hclaims.gtc]
    exact hgate
  obtain ⟨g, hact⟩ := State.gateAct_now (rank := 2) (fun s => s.setSt (clDom c) .closing) hygate
  rw [hyst]
  dsimp only
  rw [hact]
  obtain ⟨hst, hother⟩ := State.setSt_dom { y with gates := y.gates.set (clDom c) g } (clDom c) .closing
  refine ⟨hst, fun d hd => (hother d hd).trans (congrArg (fun l => Tab.get Dom.reset l d) hcdoms), ?_⟩
  have hset : ∀ u : State, (u.setSt (clDom c) .closing).power = u.power := fun u => by
    have hturns : (u.clusterTurns (clDom c) .closing).power = u.power := by
      unfold State.clusterTurns
      split_ifs
      · rfl
      · rfl
      · exact hpow u _
      · rfl
    unfold State.setSt
    split
    · rfl
    · exact (congrArg State.power (State.trace_rest _ 6 uSEQ none _ _).1).trans hturns
  exact (hset _).trans hcpow

theorem clusterIdle_closes (hl : s.domLive 1 = true) (cl : BitVec 4) (hfree : s.clusterFree cl.toNat = true)
    (hkeep : bitAt (s.get Reg.PWR_KEEP_OPEN_CL) cl.toNat = false) :
    let due := fun (k : Nat) => (s.dtile (4 * cl.toNat + k)).idleSince + max 1 (s.get Reg.PWR_CLOSE_IDLE_TICKS)
    ((∃ k, k < 4 ∧ s.dspTime < due k) → Gives (.clusterIdleClose cl) s (· = s)) ∧
    ((∀ k, k < 4 → due k ≤ s.dspTime) → (s.gateOf (clDom cl.toNat)).at_ ≠ some s.gtc →
      Gives (.clusterIdleClose cl) s fun t => (t.dom (clDom cl.toNat)).st = .closing ∧
        ∀ d, d ≠ clDom cl.toNat → t.dom d = s.dom d) := by
  intro due
  have hone : ∀ v, atLeast1 v = max 1 v := fun v => by
    unfold atLeast1
    split <;> omega
  have heq : exec (.clusterIdleClose cl) s = .next (if (!(s.clusterFree cl.toNat)) = true ∨
      bitAt (s.get Reg.PWR_KEEP_OPEN_CL) cl.toNat = true ∨ (List.range 4).any (fun k =>
        decide (s.dspTime < (s.dtile (4 * cl.toNat + k)).idleSince + atLeast1 (s.get Reg.PWR_CLOSE_IDLE_TICKS))) = true then s
      else s.closeCluster cl.toNat) := exec_tow (execClusterIdleClose.eq_1 ..) hl rfl
  have hopen : s.domOpen (clDom cl.toNat) = true := by
    rw [State.clusterFree, Bool.and_eq_true, Bool.and_eq_true] at hfree
    exact hfree.1.1
  rw [hone] at heq
  refine ⟨fun ⟨k, hk, hdue⟩ => ?_, fun hdue hgate => ?_⟩
  · rw [if_pos (.inr (.inr (List.any_eq_true.mpr ⟨k, List.mem_range.mpr hk, decide_eq_true hdue⟩)))] at heq
    exact ⟨_, heq, rfl⟩
  · have hgo : ¬((!(s.clusterFree cl.toNat)) = true ∨ bitAt (s.get Reg.PWR_KEEP_OPEN_CL) cl.toNat = true ∨ (List.range 4).any (fun k =>
        decide (s.dspTime < (s.dtile (4 * cl.toNat + k)).idleSince + max 1 (s.get Reg.PWR_CLOSE_IDLE_TICKS))) = true) := by
      rw [hfree, hkeep]
      rintro (h | h | h)
      · exact absurd h (by decide)
      · exact absurd h (by decide)
      · obtain ⟨k, hk, h⟩ := List.any_eq_true.mp h
        exact absurd (of_decide_eq_true h) (Nat.not_lt.mpr (hdue k (List.mem_range.mp hk)))
    rw [if_neg hgo] at heq
    obtain ⟨hst, hother, -⟩ := State.closeCluster_open hopen hgate
    exact ⟨_, heq, hst, hother⟩

theorem unmet_parks (hl : s.domLive 1 = true) {c : Nat} (hunmet : s.on Reg.PWR_EFF_CAP_UNMET = true) (hat : s.power.unmetAt = none)
    (hover : s.clBudget < s.get Reg.PWR_ESTIMATE_CLUSTERS) (hbusy : ∀ k, k < 16 → s.clusterFree k = false) (hpark : s.toPark = some c)
    (hgate : (s.gateOf (clDom c)).at_ ≠ some s.gtc) : Gives .unmetStep s fun t =>
      (t.dom (clDom c)).st = .closing ∧ t.power.unmetAt = some s.gtc := by
  let u : State := { s with power := { s.power with unmetAt := some s.gtc } }
  have hnone : (List.range 16).filter u.clusterFree = [] :=
    List.filter_eq_nil_iff.mpr fun k hk h => absurd (h.symm.trans (hbusy k (List.mem_range.mp hk))) (by decide)
  have hupark : u.toPark = some c := hpark
  have hopen : u.domOpen (clDom c) = true := by
    unfold State.toPark at hpark
    dsimp only at hpark
    split at hpark
    · exact absurd hpark (by simp)
    · have hmem := List.mem_reverse.mp (List.mem_of_mem_head? hpark)
      have hopens := (List.mem_filter.mp (List.mem_filter.mp hmem).1).2
      have hs : s.domOpen (clDom c) = true := by simpa using hopens
      exact hs
  have hgo : ¬((!(s.on Reg.PWR_EFF_CAP_UNMET)) = true ∨ (!true) = true ∨ s.get Reg.PWR_ESTIMATE_CLUSTERS ≤ s.clBudget) := by
    rw [hunmet]
    rintro (h | h | h)
    · exact absurd h (by decide)
    · exact absurd h (by decide)
    · exact absurd h (Nat.not_le.mpr hover)
  have heq : exec .unmetStep s = .next (u.closeCluster c) := by
    refine exec_tow (execUnmetStep.eq_1 ..) hl (congrArg Host.Outcome.next ?_)
    rw [hat]
    refine (if_neg hgo).trans ?_
    dsimp only
    rw [hnone, hupark]
    exact if_neg (by decide)
  obtain ⟨hst, -, hpow⟩ := State.closeCluster_open (s := u) hopen hgate
  exact ⟨_, heq, hst, congrArg Power.unmetAt hpow⟩

end Power

end Sys2Proof.Machine

namespace Sys2Proof.Machine

section Power

variable {s : State}

/-! ### Leases and phase tables (R600, R601, R605) -/

theorem leaseWrite_taken (hl : s.domLive 1 = true) (src : Source) (v : BitVec 64) (hreach : s.srcReaches src = true)
    (hen : s.on Reg.PWR_CTRL_LEASE_EN = true) (hnew : ∀ q, s.power.leaseSeq = some q → newer (bits v.toNat 63 48) q 16 = true)
    (h0 : 0 < bits v.toNat 38 32) (h100 : bits v.toNat 38 32 ≤ 100) (hstill : s.lockstep = true ∨ s.openClusters none = []) :
    Gives (.leaseWrite src v) s fun t =>
      t.get Reg.PWR_LEASE_SEQ = bits v.toNat 63 48 ∧ t.get Reg.PWR_LEASE_TERM_MS = bits v.toNat 38 32 ∧
      t.get Reg.PWR_LEASE_BUDGET_MW = bits v.toNat 19 0 ∧ t.get Reg.PWR_LEASE_STATUS_STATE = 1 ∧
      t.get Reg.PWR_LEASE_STATUS_SOURCE = b2n (src != .mgmt) ∧ t.power.leaseSeq = some (bits v.toNat 63 48) ∧
      t.power.leaseEnd = some (s.gtc + bits v.toNat 38 32 * 100000) := by
  have hfresh : (match s.power.leaseSeq with
      | none => true
      | some old => newer (bits v.toNat 63 48) old 16) = true := by
    cases hq : s.power.leaseSeq with
    | none => rfl
    | some q => exact hnew q hq
  have hgo : ¬((!(s.on Reg.PWR_CTRL_LEASE_EN)) = true ∨ (!(match s.power.leaseSeq with
      | none => true
      | some old => newer (bits v.toNat 63 48) old 16)) = true ∨ bits v.toNat 38 32 = 0 ∨ 100 < bits v.toNat 38 32) := by
    rw [hen, hfresh]
    rintro (h | h | h | h)
    · exact absurd h (by decide)
    · exact absurd h (by decide)
    · omega
    · omega
  let u := ((s.put Reg.PWR_LEASE_SEQ (bits v.toNat 63 48)).put Reg.PWR_LEASE_TERM_MS (bits v.toNat 38 32)).put
    Reg.PWR_LEASE_BUDGET_MW (bits v.toNat 19 0)
  let w := (({ u with power := { u.power with
      leaseSeq := some (bits v.toNat 63 48), leaseEnd := some (s.gtc + bits v.toNat 38 32 * 100000) } } : State).put
    Reg.PWR_LEASE_STATUS_STATE 1).put Reg.PWR_LEASE_STATUS_SOURCE (b2n (src != .mgmt))
  have heq : exec (.leaseWrite src v) s = .next (w.traceLease.apportion false) := by
    refine exec_tow (execLeaseWrite.eq_1 ..) hl (congrArg Host.Outcome.next ((if_pos hreach).trans ?_))
    unfold State.writeLease
    exact if_neg hgo
  have hw : w.power.leaseSeq = some (bits v.toNat 63 48) ∧ w.power.leaseEnd = some (s.gtc + bits v.toNat 38 32 * 100000) ∧
      w.get Reg.PWR_LEASE_SEQ = bits v.toNat 63 48 ∧ w.get Reg.PWR_LEASE_TERM_MS = bits v.toNat 38 32 ∧
      w.get Reg.PWR_LEASE_BUDGET_MW = bits v.toNat 19 0 ∧ w.get Reg.PWR_LEASE_STATUS_STATE = 1 ∧
      w.get Reg.PWR_LEASE_STATUS_SOURCE = b2n (src != .mgmt) ∧ w.doms = s.doms ∧ w.fuses = s.fuses ∧
      w.get Reg.PWR_CTRL_MODE = s.get Reg.PWR_CTRL_MODE := by
    have hu : ∀ g : Fld, g.key ≠ Reg.PWR_LEASE_STATUS_STATE.key → g.key ≠ Reg.PWR_LEASE_STATUS_SOURCE.key → w.get g = u.get g :=
      fun g h1 h2 => (State.get_put_ne _ _ _ _ h2).trans (State.get_put_ne _ _ _ _ h1)
    refine ⟨rfl, rfl, (hu _ (by decide) (by decide)).trans ?_, (hu _ (by decide) (by decide)).trans ?_,
      (hu _ (by decide) (by decide)).trans ?_, ?_, ?_, rfl, rfl, (hu _ (by decide) (by decide)).trans ?_⟩
    · refine (State.get_put_ne _ _ _ _ (by decide)).trans ((State.get_put_ne _ _ _ _ (by decide)).trans ((State.get_put_self ..).trans ?_))
      exact Nat.mod_eq_of_lt (bits_lt _ _ _)
    · refine (State.get_put_ne _ _ _ _ (by decide)).trans ((State.get_put_self ..).trans ?_)
      exact Nat.mod_eq_of_lt (bits_lt _ _ _)
    · exact (State.get_put_self ..).trans (Nat.mod_eq_of_lt (bits_lt _ _ _))
    · exact (State.get_put_ne _ _ _ _ (by decide)).trans (State.get_put_self ..)
    · refine (State.get_put_self ..).trans ?_
      cases src <;> rfl
    · exact (State.get_put_ne _ _ _ _ (by decide)).trans ((State.get_put_ne _ _ _ _ (by decide)).trans
        (State.get_put_ne _ _ _ _ (by decide)))
  generalize w = w at *
  obtain ⟨hseqP, hendP, hseq, hterm, hbudget, hstate, hsource, hdoms, hfuses, hmode⟩ := hw
  obtain ⟨htrest, htget⟩ : w.traceLease = { w with conc := w.traceLease.conc, regs := w.traceLease.regs } ∧
      ∀ g : Fld, g.key ≠ Reg.MON_DROPS_TRACE_DROP.key → w.traceLease.get g = w.get g := State.trace_rest ..
  generalize w.traceLease = x at *
  have hxdoms : x.doms = s.doms := (congrArg State.doms htrest).trans hdoms
  have hxlock : x.lockstep = s.lockstep :=
    State.lockstep_congr ((congrArg State.fuses htrest).trans hfuses) ((htget _ (by decide)).trans hmode)
  rw [State.apportion_still (by rw [hxlock, State.openClusters_congr hxdoms]; exact hstill)] at heq
  obtain ⟨harest, haget⟩ := x.allotted_post
  generalize x.allotted = y at *
  have hxpow : x.power = w.power := (congrArg State.power htrest :)
  have hpow : y.power = w.power := (congrArg State.power harest : _).trans hxpow
  have hget : ∀ g : Fld, g.key ≠ Reg.PWR_EFF_CAP_C_EFF.key → g.key ≠ Reg.PWR_EFF_CAP_BOUND.key →
      g.key < 0x010701C0 * 64 → y.get g = w.get g := fun g h1 h2 h3 => by
    refine (haget g h1 h2 (.inl h3)).trans (htget g ?_)
    have hdrop : Reg.MON_DROPS_TRACE_DROP.key = 0x010B0008 * 64 := rfl
    omega
  refine ⟨y, heq, (hget _ (by decide) (by decide) (by decide)).trans hseq, (hget _ (by decide) (by decide) (by decide)).trans hterm,
    (hget _ (by decide) (by decide) (by decide)).trans hbudget, (hget _ (by decide) (by decide) (by decide)).trans hstate,
    (hget _ (by decide) (by decide) (by decide)).trans hsource, ?_, ?_⟩
  · rw [hpow, hseqP]
  · rw [hpow, hendP]

theorem leaseWrite_dropped (hl : s.domLive 1 = true) (src : Source) (v : BitVec 64) (hreach : s.srcReaches src = true)
    (h : s.on Reg.PWR_CTRL_LEASE_EN = false ∨ (∃ q, s.power.leaseSeq = some q ∧ newer (bits v.toNat 63 48) q 16 = false) ∨
      bits v.toNat 38 32 = 0 ∨ 100 < bits v.toNat 38 32) :
    Gives (.leaseWrite src v) s fun t =>
      t.get Reg.PWR_LEASE_STATUS_LEASE_DROP = min (s.get Reg.PWR_LEASE_STATUS_LEASE_DROP + 1) (Reg.PWR_LEASE_STATUS_LEASE_DROP.size - 1) ∧
      { t with regs := s.regs } = s ∧ t.get Reg.PWR_LEASE_SEQ = s.get Reg.PWR_LEASE_SEQ := by
  have hdrop : (!(s.on Reg.PWR_CTRL_LEASE_EN)) = true ∨ (!(match s.power.leaseSeq with
      | none => true
      | some old => newer (bits v.toNat 63 48) old 16)) = true ∨ bits v.toNat 38 32 = 0 ∨ 100 < bits v.toNat 38 32 := by
    rcases h with h | ⟨q, hq, hn⟩ | h | h
    · exact .inl (by rw [h]; rfl)
    · exact .inr (.inl (by rw [hq]; simp only [hn]; rfl))
    · exact .inr (.inr (.inl h))
    · exact .inr (.inr (.inr h))
  have heq : exec (.leaseWrite src v) s = .next (s.sat Reg.PWR_LEASE_STATUS_LEASE_DROP 1) := by
    refine exec_tow (execLeaseWrite.eq_1 ..) hl (congrArg Host.Outcome.next ((if_pos hreach).trans ?_))
    unfold State.writeLease
    exact if_pos hdrop
  exact ⟨_, heq, State.get_sat_self .., rfl, State.get_sat_ne _ _ _ _ (by decide)⟩

theorem leaseExpires (hl : s.domLive 1 = true) {t0 : Nat} (hend : s.power.leaseEnd = some t0)
    (hstate : s.get Reg.PWR_LEASE_STATUS_STATE = 1) :
    (s.gtc < t0 → Gives .leaseExpire s (· = s)) ∧
    (t0 ≤ s.gtc → s.lockstep = true ∨ s.openClusters none = [] → Gives .leaseExpire s fun t => t.get Reg.PWR_LEASE_STATUS_STATE = 2 ∧
      t.get Reg.PWR_GOV_COUNTS_LEASE_EXPIRED = min (s.get Reg.PWR_GOV_COUNTS_LEASE_EXPIRED + 1) (Reg.PWR_GOV_COUNTS_LEASE_EXPIRED.size - 1) ∧
      t.power.leaseEnd = none ∧ t.conc.nextId = s.conc.nextId + 1) := by
  let u := ({ s with power := { s.power with leaseEnd := none } } : State).put Reg.PWR_LEASE_STATUS_STATE 2
  have heq : exec .leaseExpire s = .next (if s.gtc < t0 ∨ s.get Reg.PWR_LEASE_STATUS_STATE ≠ 1 then s
      else ((u.sat Reg.PWR_GOV_COUNTS_LEASE_EXPIRED 1).fault 0x5D uPWR srcNone (1 + u.ownDie * 2 ^ 16 +
        u.fallbackMw * 2 ^ 32)).traceLease.apportion false) := by
    refine exec_tow (execLeaseExpire.eq_1 ..) hl (congrArg Host.Outcome.next ?_)
    rw [hend]
  refine ⟨fun hlt => ?_, fun hdue hstill => ?_⟩
  · rw [if_pos (.inl hlt)] at heq
    exact ⟨_, heq, rfl⟩
  · rw [if_neg (by rw [hstate]; omega)] at heq
    let c := u.sat Reg.PWR_GOV_COUNTS_LEASE_EXPIRED 1
    have hc : c.power.leaseEnd = none ∧ c.get Reg.PWR_LEASE_STATUS_STATE = 2 ∧ c.get Reg.PWR_GOV_COUNTS_LEASE_EXPIRED =
        min (s.get Reg.PWR_GOV_COUNTS_LEASE_EXPIRED + 1) (Reg.PWR_GOV_COUNTS_LEASE_EXPIRED.size - 1) ∧ c.conc.nextId = s.conc.nextId ∧
        c.doms = s.doms ∧ c.fuses = s.fuses ∧ c.get Reg.PWR_CTRL_MODE = s.get Reg.PWR_CTRL_MODE := by
      refine ⟨rfl, (State.get_sat_ne _ _ _ _ (by decide)).trans (State.get_put_self ..), (State.get_sat_self ..).trans ?_, rfl, rfl, rfl,
        (State.get_sat_ne _ _ _ _ (by decide)).trans (State.get_put_ne _ _ _ _ (by decide))⟩
      rw [State.get_put_ne _ _ _ _ (by decide)]
      rfl
    have hfiled : c.Filed (c.fault 0x5D uPWR srcNone (1 + u.ownDie * 2 ^ 16 + u.fallbackMw * 2 ^ 32)) 1 := c.fault_filed ..
    have heq' : exec .leaseExpire s = .next ((c.fault 0x5D uPWR srcNone (1 + u.ownDie * 2 ^ 16 + u.fallbackMw * 2 ^ 32)).traceLease.apportion false) := heq
    clear heq
    generalize c.fault 0x5D uPWR srcNone (1 + u.ownDie * 2 ^ 16 + u.fallbackMw * 2 ^ 32) = f at hfiled heq'
    generalize c = c at *
    obtain ⟨hendc, hstc, hcount, hidc, hdoms, hfuses, hmode⟩ := hc
    have hid : f.traceLease.conc.nextId = f.conc.nextId := State.trace_nextId ..
    obtain ⟨htrest, htget⟩ : f.traceLease = { f with conc := f.traceLease.conc, regs := f.traceLease.regs } ∧
        ∀ g : Fld, g.key ≠ Reg.MON_DROPS_TRACE_DROP.key → f.traceLease.get g = f.get g := State.trace_rest ..
    generalize f.traceLease = x at *
    have hxf : x.doms = f.doms ∧ x.fuses = f.fuses ∧ x.power = f.power :=
      ⟨(congrArg State.doms htrest :), (congrArg State.fuses htrest :), (congrArg State.power htrest :)⟩
    have hfc : f.doms = c.doms ∧ f.fuses = c.fuses ∧ f.power = c.power :=
      ⟨(congrArg State.doms hfiled.rest :), (congrArg State.fuses hfiled.rest :), (congrArg State.power hfiled.rest :)⟩
    have hxdoms : x.doms = s.doms := (hxf.1.trans hfc.1).trans hdoms
    have hxlock : x.lockstep = s.lockstep := State.lockstep_congr ((hxf.2.1.trans hfc.2.1).trans hfuses)
      ((htget _ (by decide)).trans ((hfiled.get _ (by decide) (by decide)).trans hmode))
    rw [State.apportion_still (by rw [hxlock, State.openClusters_congr hxdoms]; exact hstill)] at heq'
    obtain ⟨harest, haget⟩ := x.allotted_post
    generalize x.allotted = y at *
    refine ⟨y, heq', ?_, ?_, ?_, ?_⟩
    · exact (haget _ (by decide) (by decide) (by decide)).trans ((htget _ (by decide)).trans ((hfiled.get _ (by decide) (by decide)).trans hstc))
    · exact (haget _ (by decide) (by decide) (by decide)).trans ((htget _ (by decide)).trans ((hfiled.get _ (by decide) (by decide)).trans hcount))
    · have hypow : y.power = x.power := (congrArg State.power harest :)
      rw [hypow, hxf.2.2, hfc.2.2, hendc]
    · have hyid : y.conc.nextId = x.conc.nextId := (congrArg (fun z : State => z.conc.nextId) harest :)
      rw [hyid, hid, hfiled.nextId, hidc]

theorem phaseClear_clears (hl : s.domLive 1 = true) (v : BitVec 32) : Gives (.phaseClear v) s fun t => { t with regs := s.regs } = s ∧
    ∀ c k, c < 16 → k < 256 →
      (v.getLsbD c = true → t.get (Reg.PWR_PHASE_VALID c k) = 0 ∧ t.get (Reg.PWR_PHASE_SEEN c k) = 0 ∧
        t.get (Reg.PWR_PHASE_CEFF c k) = 0) ∧
      (v.getLsbD c = false → t.get (Reg.PWR_PHASE_VALID c k) = s.get (Reg.PWR_PHASE_VALID c k) ∧
        t.get (Reg.PWR_PHASE_CEFF c k) = s.get (Reg.PWR_PHASE_CEFF c k)) := by
  refine ⟨_, exec_tow (execPhaseClear.eq_1 ..) hl rfl, rfl, fun c k hc hk => ?_⟩
  have hget : ∀ g : Fld, g.off = 0x01078000 + 0x400 * c + 0x4 * k → g.lo < 64 →
      (s.clearPhases (v.toNat % 65536)).get g = if v.getLsbD c = true then g.reset else s.get g := fun g hoff hlo => by
    have hbit : bitAt (v.toNat % 65536) c = v.getLsbD c := by
      rw [bitAt_eq_testBit, show (65536 : Nat) = 2 ^ 16 from rfl, Nat.testBit_mod_two_pow]
      simp [hc, BitVec.testBit_toNat]
    have hidx : (g.key / 64 - 0x01078000) / 0x400 = c := by
      rw [g.key_div hlo, hoff]
      omega
    refine (State.get_resetRegs s _ g).trans (if_congr ?_ rfl rfl)
    rw [hidx, hbit, decide_eq_true (by rw [g.key_div hlo, hoff]; omega), decide_eq_true (by rw [g.key_div hlo, hoff]; omega)]
    simp
  refine ⟨fun hv => ⟨?_, ?_, ?_⟩, fun hv => ⟨?_, ?_⟩⟩
  · exact (hget _ rfl (show 31 < 64 by decide)).trans (if_pos hv)
  · exact (hget _ rfl (show 16 < 64 by decide)).trans (if_pos hv)
  · exact (hget _ rfl (show 0 < 64 by decide)).trans (if_pos hv)
  · exact (hget _ rfl (show 31 < 64 by decide)).trans (if_neg (by rw [hv]; decide))
  · exact (hget _ rfl (show 0 < 64 by decide)).trans (if_neg (by rw [hv]; decide))

end Power

end Sys2Proof.Machine

namespace Sys2Proof.Machine

section Power

variable {s t u : State}

/-! ### The estimate of an interval (R602, R604) -/

/-- A field of the registers of the estimate and the energy. -/
def Fld.Meter (g : Fld) : Prop := 0x01070120 * 64 ≤ g.key ∧ g.key < 0x01070130 * 64

theorem Fld.Meter.ne {g f : Fld} (h : g.Meter) (hf : f.key < 0x01070120 * 64 ∨ 0x01070130 * 64 ≤ f.key) : g.key ≠ f.key := by
  obtain ⟨hlo, hhi⟩ := h
  omega

/-- A change that leaves what was metered: the estimates, the energy and the time of the interval. -/
structure State.KeepsMeter (s t : State) : Prop where
  estAt : t.power.estAt = s.power.estAt
  energyRem : t.power.energyRem = s.power.energyRem
  get : ∀ g : Fld, g.Meter → t.get g = s.get g

theorem State.KeepsMeter.refl (s : State) : s.KeepsMeter s := ⟨rfl, rfl, fun _ _ => rfl⟩

theorem State.KeepsMeter.trans (h : s.KeepsMeter t) (h' : t.KeepsMeter u) : s.KeepsMeter u :=
  ⟨h'.estAt.trans h.estAt, h'.energyRem.trans h.energyRem, fun g hg => (h'.get g hg).trans (h.get g hg)⟩

theorem State.KeepsMeter.foldl {α : Type} (f : State → α → State) (h : ∀ (s : State) (x : α), s.KeepsMeter (f s x)) (l : List α)
    (s : State) : s.KeepsMeter (l.foldl f s) := by
  induction l generalizing s with
  | nil => exact .refl s
  | cons x xs ih => exact (h s x).trans (ih _)

theorem State.put_keepsMeter (s : State) (f : Fld) (v : Nat) (hf : f.key < 0x01070120 * 64 ∨ 0x01070130 * 64 ≤ f.key) :
    s.KeepsMeter (s.put f v) := ⟨rfl, rfl, fun _ hg => State.get_put_ne _ _ _ _ (hg.ne hf)⟩

theorem State.trace_keepsMeter (s : State) (kind unit : Nat) (cid : Option Nat) (data stamp : Nat) :
    s.KeepsMeter (s.trace kind unit cid data stamp) := by
  obtain ⟨hrest, hget⟩ := s.trace_rest kind unit cid data stamp
  have hpower : (s.trace kind unit cid data stamp).power = s.power := (congrArg State.power hrest :)
  exact ⟨congrArg Power.estAt hpower, congrArg Power.energyRem hpower, fun g hg => hget g (hg.ne (by decide))⟩

theorem State.fault_keepsMeter (s : State) (code unit src detail : Nat) : s.KeepsMeter (s.fault code unit src detail) := by
  have hfiled := s.fault_filed code unit src detail
  have hpower : (s.fault code unit src detail).power = s.power := (congrArg State.power hfiled.rest :)
  exact ⟨congrArg Power.estAt hpower, congrArg Power.energyRem hpower,
    fun g hg => hfiled.get g (hg.ne (by decide)) (hg.ne (by decide))⟩

theorem State.clOp_key (c : Nat) {f : Fld} (hoff : f.off = 0x01070180 + 0x4 * c) : f.key < 0x01070120 * 64 ∨ 0x01070130 * 64 ≤ f.key := by
  have hkey : f.key = f.off * 64 + f.lo := rfl
  omega

theorem State.limitTo_keepsMeter (s : State) (c n : Nat) : s.KeepsMeter (s.limitTo c n) := by
  unfold State.limitTo State.traceOp
  split
  · exact .refl s
  · exact (s.put_keepsMeter _ n (State.clOp_key c rfl)).trans (State.trace_keepsMeter _ _ _ _ _ _)

theorem State.setOp_keepsMeter (s : State) (c k f : Nat) : s.KeepsMeter (s.setOp c k f) := by
  unfold State.setOp State.traceOp
  dsimp only
  generalize hx : (s.setClus c _) = x
  have hsx : s.KeepsMeter x := hx ▸ ⟨rfl, rfl, fun _ _ => rfl⟩
  have hxy : x.KeepsMeter (x.put (Reg.PWR_CL_OP_OP c) k) := x.put_keepsMeter _ k (State.clOp_key c rfl)
  generalize x.put (Reg.PWR_CL_OP_OP c) k = y at *
  split_ifs
  · exact hsx
  · exact ((hsx.trans hxy).trans (y.put_keepsMeter _ 15 (State.clOp_key c rfl))).trans (State.trace_keepsMeter _ _ _ _ _ _)
  · exact (hsx.trans hxy).trans (State.trace_keepsMeter _ _ _ _ _ _)

theorem State.gateAct_keepsMeter (s : State) (d rank : Nat) {act : State → State} (h : ∀ u : State, u.KeepsMeter (act u)) :
    s.KeepsMeter (s.gateAct d rank act) := by
  unfold State.gateAct
  extract_lets g same acks
  split
  · exact ⟨rfl, rfl, fun _ _ => rfl⟩
  · have hgate : s.KeepsMeter { s with gates := s.gates.set d ⟨some s.gtc, rank, acks ++ [(rank, true)]⟩ } := ⟨rfl, rfl, fun _ _ => rfl⟩
    exact hgate.trans (h _)

theorem State.postVolt_keepsMeter (s : State) (c mv : Nat) : s.KeepsMeter (s.postVolt c mv) := by
  obtain ⟨hpower, -, -, hget⟩ := s.postVolt_rail c mv
  refine ⟨by rw [hpower], by rw [hpower], fun g hg => hget g ?_⟩
  have hhi := hg.2
  omega

theorem State.setClus_keepsMeter (s : State) (c : Nat) (x : Clus) : s.KeepsMeter (s.setClus c x) := ⟨rfl, rfl, fun _ _ => rfl⟩

theorem State.sendOp_keepsMeter (s : State) (c k f : Nat) : s.KeepsMeter (s.sendOp c k f) := by
  unfold State.sendOp
  dsimp only
  split
  · exact .refl s
  · exact s.gateAct_keepsMeter _ _ fun u => u.setOp_keepsMeter c k f

theorem State.changeOp_keepsMeter (s : State) (c k f : Nat) : s.KeepsMeter (s.changeOp c k f) := by
  unfold State.changeOp
  dsimp only
  have hsend := s.sendOp_keepsMeter c k f
  split
  · split
    · exact hsend.trans (State.postVolt_keepsMeter _ _ _)
    · exact hsend
  · split_ifs
    · exact ⟨rfl, rfl, fun _ _ => rfl⟩
    · exact hsend
    · exact .refl s
    · exact (s.postVolt_keepsMeter _ _).trans (State.setClus_keepsMeter _ _ _)

theorem State.adjustLimit_keepsMeter (s : State) (c alloc : Nat) : s.KeepsMeter (s.adjustLimit c alloc) := by
  have hset : ∀ n, s.KeepsMeter (s.setLimit c n) := fun n => by
    unfold State.setLimit
    split
    · exact .refl s
    · exact s.gateAct_keepsMeter _ _ fun u => u.limitTo_keepsMeter c n
  unfold State.adjustLimit
  dsimp only
  split_ifs
  · exact .refl s
  · exact hset _
  · exact hset _
  · exact .refl s

theorem State.fixedBreak_keepsMeter (s : State) (c alloc : Nat) : s.KeepsMeter (s.fixedBreak c alloc) := by
  unfold State.fixedBreak
  dsimp only
  split_ifs
  · exact s.setClus_keepsMeter _ _
  · generalize hx : (s.setClus c _) = x
    have hsx : s.KeepsMeter x := hx ▸ s.setClus_keepsMeter _ _
    have hxy : x.KeepsMeter (x.sat Reg.PWR_GOV_COUNTS_FIXED_BREAK 1) := x.put_keepsMeter _ _ (by decide)
    exact (hsx.trans hxy).trans (State.changeOp_keepsMeter _ _ _ _)
  · exact s.setClus_keepsMeter _ _

theorem State.feedback_keepsMeter (s : State) (c alloc : Nat) : s.KeepsMeter (s.feedback c alloc) := by
  unfold State.feedback
  split_ifs
  · exact (s.fixedBreak_keepsMeter c alloc).trans (State.adjustLimit_keepsMeter _ _ _)
  · exact s.adjustLimit_keepsMeter c alloc
  · exact .refl s

theorem State.steerOne_keepsMeter (s : State) (e : Nat × Nat) : s.KeepsMeter (s.steerOne e) := by
  have hchange := s.changeOp_keepsMeter e.1 e.2 (s.opFreq e.1 e.2)
  unfold State.steerOne
  dsimp only
  split
  · exact hchange.trans (State.setClus_keepsMeter _ _ _)
  · exact hchange

theorem State.apportion_keepsMeter (s : State) (interval : Bool) : s.KeepsMeter (s.apportion interval) := by
  have hallot : s.KeepsMeter s.allotted := by
    obtain ⟨hrest, hget⟩ := s.allotted_post
    have hpower : s.allotted.power = s.power := (congrArg State.power hrest :)
    refine ⟨congrArg Power.estAt hpower, congrArg Power.energyRem hpower, fun g hg => ?_⟩
    exact hget g (hg.ne (by decide)) (hg.ne (by decide)) (.inl (Nat.lt_trans hg.2 (by decide)))
  have hcorrect : s.allotted.KeepsMeter (s.allotted.corrected interval (s.showCap.shares none)) := by
    unfold State.corrected
    split
    · exact .foldl _ (fun u c => u.feedback_keepsMeter c _) _ _
    · exact .refl _
  rw [State.apportion_eq]
  split
  · exact hallot.trans hcorrect
  · exact (hallot.trans hcorrect).trans (.foldl _ State.steerOne_keepsMeter _ _)

theorem State.learn_keepsMeter (s : State) (n uw : Nat) : s.KeepsMeter (s.learn n uw) := by
  have hkey : ∀ (c k : Nat) (f : Fld), f.off = 0x01078000 + 0x400 * c + 0x4 * k → f.key < 0x01070120 * 64 ∨ 0x01070130 * 64 ≤ f.key := by
    intro c k f hoff
    have hkey : f.key = f.off * 64 + f.lo := rfl
    omega
  unfold State.learn
  dsimp only
  split
  case h_1 k _ since _ _ =>
    split
    · exact .refl s
    · generalize hx : s.put (Reg.PWR_PHASE_CEFF (n / 4) k) _ = x
      have hsx : s.KeepsMeter x := hx ▸ s.put_keepsMeter _ _ (hkey (n / 4) k _ rfl)
      have hxy : x.KeepsMeter (x.sat (Reg.PWR_PHASE_SEEN (n / 4) k) 1) := x.put_keepsMeter _ _ (hkey (n / 4) k _ rfl)
      split
      · exact (hsx.trans hxy).trans (State.put_keepsMeter _ _ _ (hkey (n / 4) k _ rfl))
      · exact hsx.trans hxy
  case h_2 => exact .refl s

theorem State.unmetCheck_keepsMeter (s : State) : s.KeepsMeter s.unmetCheck := by
  have hsat : ∀ u : State, u.KeepsMeter (u.sat Reg.PWR_GOV_COUNTS_UNMET_INT 1) := fun u => u.put_keepsMeter _ _ (by decide)
  have hpow : ∀ (u : State) (p : Power), p.estAt = u.power.estAt → p.energyRem = u.power.energyRem → u.KeepsMeter { u with power := p } :=
    fun u p h1 h2 => ⟨h1, h2, fun _ _ => rfl⟩
  unfold State.unmetCheck
  dsimp only
  split
  · have hs := hsat s
    generalize s.sat Reg.PWR_GOV_COUNTS_UNMET_INT 1 = x at *
    split_ifs
    · exact hs.trans (hpow _ _ rfl rfl)
    · refine .trans ?_ (State.put_keepsMeter _ Reg.PWR_EFF_CAP_UNMET _ (by decide))
      exact hs.trans (hpow _ _ rfl rfl)
    · exact hs.trans (hpow _ _ rfl rfl)
  · split
    · split
      · exact hpow _ _ rfl rfl
      · generalize hx : State.sat (State.put _ Reg.PWR_EFF_CAP_UNMET 1) Reg.PWR_GOV_COUNTS_UNMET_INT 1 = x
        have hsx : s.KeepsMeter x := by
          rw [← hx]
          refine .trans (.trans ?_ (State.put_keepsMeter _ Reg.PWR_EFF_CAP_UNMET _ (by decide))) (hsat _)
          exact hpow s _ rfl rfl
        split
        · exact hsx.trans ((hpow x { x.power with capAt := some x.gtc } rfl rfl).trans (State.fault_keepsMeter _ _ _ _ _))
        · exact hsx
    · exact hpow _ _ rfl rfl

/-- The registers and the fields of an interval, before tiles are learned from and the pass. -/
def State.metered (s : State) (un : Nat) : State :=
  let est := (List.range 16).map fun c => (c, if s.domOpen (clDom c) then s.calibrated c (s.rawEstimate c) else 0)
  let total := sumOf (est.map (·.2)) id
  let s := (s.put Reg.PWR_ESTIMATE_CLUSTERS (min (2 ^ 20 - 1) total)).put Reg.PWR_ESTIMATE_UNCORE un
  let s := est.foldl (fun s e => s.put (Reg.PWR_CL_ALLOC_ESTIMATE e.1) (min 65535 e.2)) s
  let e := total + un + s.power.energyRem
  { s.wrap Reg.PWR_ENERGY_UJ (e / 100) with power := { s.power with energyRem := e % 100, estAt := s.gtc } }

/-- What an interval does after its registers stand. -/
def State.learned (s : State) (tiles : List (BitVec 32)) : State :=
  let s := (List.range 64).foldl (fun s t => s.learn t (s.calibrated (t / 4) (tiles.getD t 0).toNat)) s
  let s := (List.range 16).foldl (fun s c => if (s.clus c).halved then s.setClus c { s.clus c with halved := false } else s) s
  let s := { s with power := { s.power with stuckCap := s.on Reg.PWR_PIN_STATUS_SPILL_STUCK } }
  (s.unmetCheck).apportion true

theorem State.learned_keepsMeter (s : State) (tiles : List (BitVec 32)) : s.KeepsMeter (s.learned tiles) := by
  have hstuck : ∀ u : State, u.KeepsMeter { u with power := { u.power with stuckCap := u.on Reg.PWR_PIN_STATUS_SPILL_STUCK } } :=
    fun _ => ⟨rfl, rfl, fun _ _ => rfl⟩
  unfold State.learned
  dsimp only
  refine State.KeepsMeter.trans ?_ (State.apportion_keepsMeter _ _)
  refine State.KeepsMeter.trans ?_ (State.unmetCheck_keepsMeter _)
  refine State.KeepsMeter.trans ?_ (hstuck _)
  refine State.KeepsMeter.trans (.foldl _ (fun u k => u.learn_keepsMeter k _) _ _) (.foldl _ (fun u c => ?_) _ _)
  split
  · exact u.setClus_keepsMeter _ _
  · exact .refl u

theorem estimateInterval_meters (hl : s.domLive 1 = true) (un : BitVec 20) (tiles : List (BitVec 32)) :
    (s.gtc / 1000 = s.power.estAt / 1000 → Gives (.estimateInterval un tiles) s (· = s)) ∧
    (s.gtc / 1000 ≠ s.power.estAt / 1000 → s.calibrated 16 un.toNat < 2 ^ 20 → Gives (.estimateInterval un tiles) s fun t =>
      let cls := sumOf (List.range 16) fun c => if s.domOpen (clDom c) then s.calibrated c (s.rawEstimate c) else 0
      let e := cls + s.calibrated 16 un.toNat + s.power.energyRem
      t.get Reg.PWR_ESTIMATE_CLUSTERS = min (2 ^ 20 - 1) cls ∧
      t.get Reg.PWR_ESTIMATE_UNCORE = s.calibrated 16 un.toNat ∧ t.power.estAt = s.gtc ∧
      t.get Reg.PWR_ENERGY_UJ = (s.get Reg.PWR_ENERGY_UJ + e / 100) % 2 ^ 64 ∧ t.power.energyRem = e % 100) := by
  refine ⟨fun hsame => ⟨_, exec_tow (execEstimateInterval.eq_1 un tiles s) hl (if_pos hsame), rfl⟩, fun hnext hun => ?_⟩
  have heq : exec (.estimateInterval un tiles) s = .next ((s.metered (s.calibrated 16 un.toNat)).learned tiles) := by
    refine exec_tow (execEstimateInterval.eq_1 un tiles s) hl ((if_neg hnext).trans ?_)
    unfold State.metered State.learned
    dsimp only
  refine ⟨_, heq, ?_⟩
  clear heq hl
  dsimp only
  let cls := sumOf (List.range 16) fun c => if s.domOpen (clDom c) then s.calibrated c (s.rawEstimate c) else 0
  let est := (List.range 16).map fun c => (c, if s.domOpen (clDom c) then s.calibrated c (s.rawEstimate c) else 0)
  have htotal : sumOf (est.map (·.2)) id = cls := by
    simp only [est, cls, sumOf, List.map_map, List.foldl_map, Function.comp_def, id_eq]
  have hm : (s.metered (s.calibrated 16 un.toNat)).power.estAt = s.gtc ∧ (s.metered (s.calibrated 16 un.toNat)).power.energyRem =
        (cls + s.calibrated 16 un.toNat + s.power.energyRem) % 100 ∧
      (s.metered (s.calibrated 16 un.toNat)).get Reg.PWR_ESTIMATE_CLUSTERS = min (2 ^ 20 - 1) cls ∧
      (s.metered (s.calibrated 16 un.toNat)).get Reg.PWR_ESTIMATE_UNCORE = s.calibrated 16 un.toNat ∧
      (s.metered (s.calibrated 16 un.toNat)).get Reg.PWR_ENERGY_UJ =
        (s.get Reg.PWR_ENERGY_UJ + (cls + s.calibrated 16 un.toNat + s.power.energyRem) / 100) % 2 ^ 64 := by
    unfold State.metered
    dsimp only
    rw [htotal]
    let a := s.put Reg.PWR_ESTIMATE_CLUSTERS (min (2 ^ 20 - 1) cls)
    let b := a.put Reg.PWR_ESTIMATE_UNCORE (s.calibrated 16 un.toNat)
    obtain ⟨hrest, hget⟩ := State.putAll_post (fun e : Nat × Nat => Reg.PWR_CL_ALLOC_ESTIMATE e.1) (fun e => min 65535 e.2) est b
    have hb : ∀ g : Fld, g.Meter → (est.foldl (fun u e => u.put (Reg.PWR_CL_ALLOC_ESTIMATE e.1) (min 65535 e.2)) b).get g = b.get g :=
      fun g hg => hget g fun e _ => by
        have hhi := hg.2
        simp only [Fld.key, Reg.PWR_CL_ALLOC] at hhi ⊢
        omega
    generalize est.foldl (fun u e => u.put (Reg.PWR_CL_ALLOC_ESTIMATE e.1) (min 65535 e.2)) b = x at *
    have hpower : x.power = s.power := (congrArg State.power hrest :)
    have hgtc : x.gtc = s.gtc := (congrArg State.gtc hrest :)
    rw [hpower]
    refine ⟨hgtc, rfl, ?_, ?_, ?_⟩
    · refine (State.get_put_ne _ _ _ _ (by decide)).trans ((hb _ ⟨by decide, by decide⟩).trans ((State.get_put_ne _ _ _ _ (by decide)).trans
        ((State.get_put_self ..).trans ?_)))
      exact Nat.mod_eq_of_lt (by simp only [Fld.size]; omega)
    · refine (State.get_put_ne _ _ _ _ (by decide)).trans ((hb _ ⟨by decide, by decide⟩).trans ((State.get_put_self ..).trans ?_))
      exact Nat.mod_eq_of_lt hun
    · refine (State.get_wrap_self ..).trans ?_
      rw [hb _ ⟨by decide, by decide⟩, State.get_put_ne _ _ _ _ (by decide), State.get_put_ne _ _ _ _ (by decide)]
      rfl
  have hkeep := (s.metered (s.calibrated 16 un.toNat)).learned_keepsMeter tiles
  obtain ⟨hest, hrem, hcl, hunc, henergy⟩ := hm
  generalize s.metered (s.calibrated 16 un.toNat) = m at *
  exact ⟨(hkeep.get _ ⟨by decide, by decide⟩).trans hcl, (hkeep.get _ ⟨by decide, by decide⟩).trans hunc, hkeep.estAt.trans hest,
    (hkeep.get _ ⟨by decide, by decide⟩).trans henergy, hkeep.energyRem.trans hrem⟩

end Power

end Sys2Proof.Machine

namespace Sys2Proof.Machine

section Power

variable {s t u : State}

/-! ### SPILL_N (R598, R625) -/

/-- A pass over a list without repetition does the work of one of its elements once. -/
theorem foldl_at {α σ : Type} {step : σ → α → σ} {pre post : σ → Prop} {l : List α} {c : α} (hnodup : l.Nodup) (hc : c ∈ l)
    (hbefore : ∀ x ∈ l, x ≠ c → ∀ u, pre u → pre (step u x)) (hone : ∀ u, pre u → post (step u c))
    (hafter : ∀ x ∈ l, x ≠ c → ∀ u, post u → post (step u x)) {s : σ} (hs : pre s) : post (l.foldl step s) := by
  have hrest : ∀ (m : List α) (q : σ → Prop), c ∉ m → (∀ x ∈ m, x ≠ c → ∀ u, q u → q (step u x)) → ∀ u, q u → q (m.foldl step u) := by
    intro m q
    induction m with
    | nil => exact fun _ _ _ h => h
    | cons y m ih =>
      intro hmem hstep u h
      obtain ⟨hy, hmem⟩ := not_or.mp (fun h' => hmem (List.mem_cons.mpr h'))
      exact ih hmem (fun x hx => hstep x (List.mem_cons_of_mem _ hx)) _ (hstep y List.mem_cons_self (Ne.symm hy) u h)
  obtain ⟨a, b, rfl⟩ := List.append_of_mem hc
  have hsplit := List.nodup_append.mp hnodup
  have ha : c ∉ a := fun h => hsplit.2.2 c h c List.mem_cons_self rfl
  have hb : c ∉ b := (List.nodup_cons.mp hsplit.2.1).1
  rw [List.foldl_append, List.foldl_cons]
  refine hrest b post hb (fun x hx => hafter x (by simp [hx])) _ (hone _ ?_)
  exact hrest a pre ha (fun x hx => hbefore x (by simp [hx])) _ hs

/-- A change that leaves the clamp, and which clusters are live, as they are. -/
structure State.KeepsClamp (s t : State) : Prop where
  gtc : t.gtc = s.gtc
  doms : t.doms = s.doms
  clamp : t.power.clamp = s.power.clamp
  spillAt : t.power.spillAt = s.power.spillAt

theorem State.KeepsClamp.refl (s : State) : s.KeepsClamp s := ⟨rfl, rfl, rfl, rfl⟩

theorem State.KeepsClamp.trans (h : s.KeepsClamp t) (h' : t.KeepsClamp u) : s.KeepsClamp u :=
  ⟨h'.gtc.trans h.gtc, h'.doms.trans h.doms, h'.clamp.trans h.clamp, h'.spillAt.trans h.spillAt⟩

theorem State.KeepsClamp.live (h : s.KeepsClamp t) (d : Nat) : t.domLive d = s.domLive d := by
  rw [State.domLive, State.domLive, State.dom, State.dom, h.doms]

/-- A field of PWR_CL_OP of cluster c. -/
def Fld.OfClOp (g : Fld) (c : Nat) : Prop := g.off = 0x01070180 + 0x4 * c ∧ g.lo < 64

theorem Reg.clOp_limit (c : Nat) : (Reg.PWR_CL_OP_LIMIT c).OfClOp c := ⟨rfl, show 4 < 64 by decide⟩

theorem Reg.clOp_spilled (c : Nat) : (Reg.PWR_CL_OP_SPILLED c).OfClOp c := ⟨rfl, show 0 < 64 by decide⟩

theorem Reg.clOp_op (c : Nat) : (Reg.PWR_CL_OP_OP c).OfClOp c := ⟨rfl, show 8 < 64 by decide⟩

theorem Fld.OfClOp.ne {c x : Nat} (h : x ≠ c) {f g : Fld} (hg : g.OfClOp c) (hf : f.OfClOp x) : g.key ≠ f.key := fun he => by
  have hg' := g.key_div hg.2
  have hf' := f.key_div hf.2
  obtain ⟨hgo, -⟩ := hg
  obtain ⟨hfo, -⟩ := hf
  rw [he, hf'] at hg'
  omega

theorem Fld.OfClOp.ne_drop {c : Nat} (hc : c < 16) {g : Fld} (hg : g.OfClOp c) : g.key ≠ Reg.MON_DROPS_TRACE_DROP.key := by
  have hkey : Reg.MON_DROPS_TRACE_DROP.key = 0x010B0008 * 64 := rfl
  have hg' := g.key_div hg.2
  obtain ⟨hgo, -⟩ := hg
  omega

theorem State.trace_keepsClamp (s : State) (kind unit : Nat) (cid : Option Nat) (data stamp : Nat) :
    s.KeepsClamp (s.trace kind unit cid data stamp) ∧ (s.trace kind unit cid data stamp).gates = s.gates := by
  have hrest := (s.trace_rest kind unit cid data stamp).1
  generalize s.trace kind unit cid data stamp = t at *
  rw [hrest]
  exact ⟨⟨rfl, rfl, rfl, rfl⟩, rfl⟩

theorem State.fault_keepsClamp (s : State) (code unit src detail : Nat) :
    s.KeepsClamp (s.fault code unit src detail) ∧ (s.fault code unit src detail).gates = s.gates := by
  have hrest := (s.fault_filed code unit src detail).rest
  generalize s.fault code unit src detail = t at *
  rw [hrest]
  exact ⟨⟨rfl, rfl, rfl, rfl⟩, rfl⟩

/-- What LIMIT at 0 leaves of PWR_CL_OP. -/
theorem State.limitTo_post (s : State) {c n : Nat} (hn : n < 16) (hc : c < 16) :
    s.KeepsClamp (s.limitTo c n) ∧ (s.limitTo c n).gates = s.gates ∧ (s.limitTo c n).get (Reg.PWR_CL_OP_LIMIT c) = n ∧
      ∀ g : Fld, g.key ≠ (Reg.PWR_CL_OP_LIMIT c).key → g.key ≠ Reg.MON_DROPS_TRACE_DROP.key → (s.limitTo c n).get g = s.get g := by
  unfold State.limitTo State.traceOp
  split
  · next h => exact ⟨.refl s, rfl, h, fun _ _ _ => rfl⟩
  · generalize hu : s.put (Reg.PWR_CL_OP_LIMIT c) n = u
    have hsu : s.KeepsClamp u ∧ u.gates = s.gates ∧ u.get (Reg.PWR_CL_OP_LIMIT c) = n := by
      rw [← hu]
      exact ⟨⟨rfl, rfl, rfl, rfl⟩, rfl, (State.get_put_self ..).trans (Nat.mod_eq_of_lt hn)⟩
    have hget : ∀ g : Fld, g.key ≠ (Reg.PWR_CL_OP_LIMIT c).key → u.get g = s.get g := fun g hg => by
      rw [← hu]
      exact State.get_put_ne _ _ _ _ hg
    obtain ⟨hkeep, hgates, hlim⟩ := hsu
    obtain ⟨hrest, htget⟩ := u.trace_rest 5 uPWR none (c + u.op c * 16 + u.get (Reg.PWR_CL_OP_LIMIT c) * 256) (u.time copyTow)
    generalize u.trace 5 uPWR none (c + u.op c * 16 + u.get (Reg.PWR_CL_OP_LIMIT c) * 256) (u.time copyTow) = x at *
    refine ⟨hkeep.trans ?_, ?_, (htget _ ((Reg.clOp_limit c).ne_drop hc)).trans hlim, fun g h1 h2 => (htget g h2).trans (hget g h1)⟩
    · rw [hrest]
      exact ⟨rfl, rfl, rfl, rfl⟩
    · have hx : x.gates = u.gates := (congrArg State.gates hrest :)
      exact hx.trans hgates

/-- One cluster that the clamp takes. -/
def State.clampOne (s : State) (c : Nat) : State :=
  if s.domLive (clDom c) then s.gateAct (clDom c) 3 fun s => (s.limitTo c 0).put (Reg.PWR_CL_OP_SPILLED c) 1
  else s

/-- One cluster that goes to OP0 under the clamp. -/
def State.zeroOne (s : State) (c : Nat) : State :=
  if s.domLive (clDom c) then
    (s.setOp c 0 400).setClus c { (s.setOp c 0 400).clus c with raiseTo := none, paceTo := none }
  else s

theorem State.limitSpill_post (s : State) {c : Nat} (hc : c < 16) :
    let t := (s.limitTo c 0).put (Reg.PWR_CL_OP_SPILLED c) 1
    s.KeepsClamp t ∧ t.gates = s.gates ∧ t.get (Reg.PWR_CL_OP_LIMIT c) = 0 ∧ t.get (Reg.PWR_CL_OP_SPILLED c) = 1 ∧
      ∀ g : Fld, g.key ≠ (Reg.PWR_CL_OP_LIMIT c).key → g.key ≠ (Reg.PWR_CL_OP_SPILLED c).key →
        g.key ≠ Reg.MON_DROPS_TRACE_DROP.key → t.get g = s.get g := by
  obtain ⟨hkeep, hgates, hlim, hget⟩ := s.limitTo_post (c := c) (n := 0) (by decide) hc
  dsimp only
  generalize s.limitTo c 0 = u at *
  refine ⟨hkeep.trans ⟨rfl, rfl, rfl, rfl⟩, hgates, (State.get_put_ne _ _ _ _ ?_).trans hlim, State.get_put_self .., fun g h1 h2 h3 => ?_⟩
  · simp only [Fld.key]
    omega
  · exact (State.get_put_ne _ _ _ _ h2).trans (hget g h1 h3)

theorem State.clampOne_post (s : State) {x : Nat} (hx : x < 16) :
    s.KeepsClamp (s.clampOne x) ∧
    ((s.gateOf (clDom x)).at_ ≠ some s.gtc → s.domLive (clDom x) = true →
      (s.clampOne x).get (Reg.PWR_CL_OP_LIMIT x) = 0 ∧ (s.clampOne x).get (Reg.PWR_CL_OP_SPILLED x) = 1) ∧
    ∀ c, c < 16 → x ≠ c → (s.clampOne x).gateOf (clDom c) = s.gateOf (clDom c) ∧
      (s.clampOne x).get (Reg.PWR_CL_OP_LIMIT c) = s.get (Reg.PWR_CL_OP_LIMIT c) ∧
      (s.clampOne x).get (Reg.PWR_CL_OP_SPILLED c) = s.get (Reg.PWR_CL_OP_SPILLED c) := by
  by_cases hlive : s.domLive (clDom x) = true
  · have heq : s.clampOne x = s.gateAct (clDom x) 3 fun s => (s.limitTo x 0).put (Reg.PWR_CL_OP_SPILLED x) 1 := if_pos hlive
    have hgate : ∀ (g : Gate) (c : Nat), x ≠ c → Tab.get Gate.reset (s.gates.set (clDom x) g) (clDom c) = s.gateOf (clDom c) :=
      fun g c h => Tab.get_set_ne _ _ _ (by unfold clDom; omega)
    rw [heq]
    refine ⟨?_, fun hfree _ => ?_, fun c hc hne => ?_⟩
    · unfold State.gateAct
      extract_lets g same acks
      split
      · exact ⟨rfl, rfl, rfl, rfl⟩
      · have hkeep := (State.limitSpill_post { s with gates := s.gates.set (clDom x) ⟨some s.gtc, 3, acks ++ [(3, true)]⟩ } hx).1
        exact ⟨hkeep.gtc, hkeep.doms, hkeep.clamp, hkeep.spillAt⟩
    · obtain ⟨g, hact⟩ := State.gateAct_now (rank := 3) (fun s => (s.limitTo x 0).put (Reg.PWR_CL_OP_SPILLED x) 1) hfree
      obtain ⟨-, -, hlim, hspill, -⟩ := State.limitSpill_post { s with gates := s.gates.set (clDom x) g } hx
      rw [hact]
      exact ⟨hlim, hspill⟩
    · unfold State.gateAct
      extract_lets g same acks
      split
      · exact ⟨hgate _ c hne, rfl, rfl⟩
      · obtain ⟨-, hgates, -, -, hget⟩ :=
          State.limitSpill_post { s with gates := s.gates.set (clDom x) ⟨some s.gtc, 3, acks ++ [(3, true)]⟩ } hx
        refine ⟨?_, hget _ ?_ ?_ ?_, hget _ ?_ ?_ ?_⟩
        · rw [State.gateOf, hgates]
          exact hgate _ c hne
        · exact (Reg.clOp_limit c).ne hne (Reg.clOp_limit x)
        · exact (Reg.clOp_limit c).ne hne (Reg.clOp_spilled x)
        · exact (Reg.clOp_limit c).ne_drop hc
        · exact (Reg.clOp_spilled c).ne hne (Reg.clOp_limit x)
        · exact (Reg.clOp_spilled c).ne hne (Reg.clOp_spilled x)
        · exact (Reg.clOp_spilled c).ne_drop hc
  · have heq : s.clampOne x = s := if_neg hlive
    rw [heq]
    exact ⟨.refl s, fun _ h => absurd h hlive, fun _ _ _ => ⟨rfl, rfl, rfl⟩⟩

/-- OP0 keeps LIMIT: only a point above OP0 sets it to 15. -/
theorem State.setOp_zero (s : State) {c : Nat} (f : Nat) (hc : c < 16) :
    s.KeepsClamp (s.setOp c 0 f) ∧ (s.setOp c 0 f).op c = 0 ∧
      ∀ g : Fld, g.key ≠ (Reg.PWR_CL_OP_OP c).key → g.key ≠ Reg.MON_DROPS_TRACE_DROP.key → (s.setOp c 0 f).get g = s.get g := by
  unfold State.setOp State.traceOp
  dsimp only
  generalize hx : (s.setClus c _) = x
  have hsx : s.KeepsClamp x ∧ ∀ g : Fld, x.get g = s.get g := by
    rw [← hx]
    exact ⟨⟨rfl, rfl, rfl, rfl⟩, fun _ => rfl⟩
  obtain ⟨hkeep, hxget⟩ := hsx
  split
  · next h => exact ⟨hkeep, (hxget _).trans h.symm, fun g _ _ => hxget g⟩
  · rw [if_neg (by decide)]
    have hop : (x.put (Reg.PWR_CL_OP_OP c) 0).get (Reg.PWR_CL_OP_OP c) = 0 := State.get_put_self ..
    have hyget : ∀ g : Fld, g.key ≠ (Reg.PWR_CL_OP_OP c).key → (x.put (Reg.PWR_CL_OP_OP c) 0).get g = x.get g :=
      fun g hg => State.get_put_ne _ _ _ _ hg
    have hxy : x.KeepsClamp (x.put (Reg.PWR_CL_OP_OP c) 0) := ⟨rfl, rfl, rfl, rfl⟩
    generalize x.put (Reg.PWR_CL_OP_OP c) 0 = y at *
    obtain ⟨hrest, htget⟩ := y.trace_rest 5 uPWR none (c + y.op c * 16 + y.get (Reg.PWR_CL_OP_LIMIT c) * 256) (y.time copyTow)
    generalize y.trace 5 uPWR none (c + y.op c * 16 + y.get (Reg.PWR_CL_OP_LIMIT c) * 256) (y.time copyTow) = z at *
    refine ⟨(hkeep.trans hxy).trans ?_, (htget _ ((Reg.clOp_op c).ne_drop hc)).trans hop,
      fun g h1 h2 => (htget g h2).trans ((hyget g h1).trans (hxget g))⟩
    rw [hrest]
    exact ⟨rfl, rfl, rfl, rfl⟩

theorem State.zeroOne_post (s : State) {x : Nat} (hx : x < 16) :
    s.KeepsClamp (s.zeroOne x) ∧ (s.domLive (clDom x) = true → (s.zeroOne x).op x = 0) ∧
    ∀ g : Fld, g.key ≠ (Reg.PWR_CL_OP_OP x).key → g.key ≠ Reg.MON_DROPS_TRACE_DROP.key → (s.zeroOne x).get g = s.get g := by
  unfold State.zeroOne
  split
  · obtain ⟨hkeep, hop, hget⟩ := s.setOp_zero 400 hx
    generalize s.setOp x 0 400 = u at *
    exact ⟨hkeep.trans ⟨rfl, rfl, rfl, rfl⟩, fun _ => hop, hget⟩
  · next h => exact ⟨.refl s, fun hlive => absurd hlive h, fun _ _ _ => rfl⟩

/-- A live cluster that the clamp may take at once. -/
def State.ToClamp (c : Nat) (s : State) : Prop := s.domLive (clDom c) = true ∧ (s.gateOf (clDom c)).at_ ≠ some s.gtc

/-- A live cluster that the clamp holds. -/
def State.Clamped (c : Nat) (s : State) : Prop :=
  s.domLive (clDom c) = true ∧ s.get (Reg.PWR_CL_OP_LIMIT c) = 0 ∧ s.get (Reg.PWR_CL_OP_SPILLED c) = 1

theorem State.clampAll_clamped {c : Nat} (hc : c < 16) (h : s.ToClamp c) : ((List.range 16).foldl State.clampOne s).Clamped c := by
  refine foldl_at List.nodup_range (List.mem_range.mpr hc) (pre := State.ToClamp c) (fun x hx hne u hu => ?_) (fun u hu => ?_)
    (fun x hx hne u hu => ?_) h
  · obtain ⟨hkeep, -, hother⟩ := u.clampOne_post (List.mem_range.mp hx)
    obtain ⟨hgate, -, -⟩ := hother c hc hne
    exact ⟨(hkeep.live _).trans hu.1, by rw [hgate, hkeep.gtc]; exact hu.2⟩
  · obtain ⟨hkeep, hone, -⟩ := u.clampOne_post hc
    exact ⟨(hkeep.live _).trans hu.1, hone hu.2 hu.1⟩
  · obtain ⟨hlive, hlim, hspill⟩ := hu
    obtain ⟨hkeep, -, hother⟩ := u.clampOne_post (List.mem_range.mp hx)
    obtain ⟨-, h1, h2⟩ := hother c hc hne
    exact ⟨(hkeep.live _).trans hlive, h1.trans hlim, h2.trans hspill⟩

theorem Fld.OfClOp.ne_op {c x : Nat} {g : Fld} (hg : g.OfClOp c) (hlo : g.lo ≠ 8) : g.key ≠ (Reg.PWR_CL_OP_OP x).key := fun he => by
  obtain ⟨hoff, hlt⟩ := hg
  have hx := (Reg.clOp_op x).1
  have hkey : (Reg.PWR_CL_OP_OP x).key = (Reg.PWR_CL_OP_OP x).off * 64 + 8 := rfl
  have hgkey : g.key = g.off * 64 + g.lo := rfl
  omega

theorem State.zeroOne_clamped {c x : Nat} (hc : c < 16) (hx : x < 16) (h : s.Clamped c) : (s.zeroOne x).Clamped c := by
  obtain ⟨hlive, hlim, hspill⟩ := h
  obtain ⟨hkeep, -, hget⟩ := s.zeroOne_post hx
  exact ⟨(hkeep.live _).trans hlive,
    (hget _ ((Reg.clOp_limit c).ne_op (show 4 ≠ 8 by decide)) ((Reg.clOp_limit c).ne_drop hc)).trans hlim,
    (hget _ ((Reg.clOp_spilled c).ne_op (show 0 ≠ 8 by decide)) ((Reg.clOp_spilled c).ne_drop hc)).trans hspill⟩

theorem State.zeroAll_zero {c : Nat} (hc : c < 16) (h : s.Clamped c) :
    ((List.range 16).foldl State.zeroOne s).Clamped c ∧ ((List.range 16).foldl State.zeroOne s).op c = 0 := by
  refine foldl_at List.nodup_range (List.mem_range.mpr hc) (pre := State.Clamped c)
    (post := fun u => u.Clamped c ∧ u.op c = 0) (fun x hx _ u hu => ?_) (fun u hu => ?_) (fun x hx hne u hu => ?_) h
  · exact State.zeroOne_clamped hc (List.mem_range.mp hx) hu
  · exact ⟨State.zeroOne_clamped hc hc hu, (u.zeroOne_post hc).2.1 hu.1⟩
  · obtain ⟨-, -, hget⟩ := u.zeroOne_post (List.mem_range.mp hx)
    exact ⟨State.zeroOne_clamped hc (List.mem_range.mp hx) hu.1,
      (hget _ ((Reg.clOp_op c).ne hne (Reg.clOp_op x)) ((Reg.clOp_op c).ne_drop hc)).trans hu.2⟩

theorem State.KeepsClamp.foldl (step : State → Nat → State) (h : ∀ (u : State) (x : Nat), x < 16 → u.KeepsClamp (step u x))
    (s : State) : s.KeepsClamp ((List.range 16).foldl step s) :=
  List.foldlRecOn (List.range 16) step (.refl s) fun u hu x hx => hu.trans (h u x (List.mem_range.mp hx))

/-- SPILL_N low (R598): every live cluster whose gate is free stands at OP0 with LIMIT 0. -/
theorem spillAssert_clamps (hstuck : s.on Reg.PWR_PIN_STATUS_SPILL_STUCK = false)
    (hfree : ∀ c, c < 16 → (s.gateOf (clDom c)).at_ ≠ some s.gtc) : Gives .spillAssert s fun t => t.power.clamp = true ∧
      t.power.spillAt = some s.gtc ∧ ∀ c, c < 16 → s.domLive (clDom c) = true →
        t.get (Reg.PWR_CL_OP_LIMIT c) = 0 ∧ t.get (Reg.PWR_CL_OP_SPILLED c) = 1 ∧ t.op c = 0 := by
  have hstart : ∃ u : State, (u.gtc = s.gtc ∧ u.doms = s.doms ∧ u.gates = s.gates ∧ u.power.clamp = true ∧ u.power.spillAt = some s.gtc) ∧
      exec .spillAssert s = .next ((List.range 16).foldl State.zeroOne ((List.range 16).foldl State.clampOne u)) := by
    let len := match s.power.spillAt with
      | some t => if s.power.clamp then s.gtc - t else s.power.spillLen
      | none => s.power.spillLen
    let fire := s.domLive 1 && s.secondOver s.power.spillRec
    let a : State := { s with power := { s.power with
      spillAt := some s.gtc, spillLen := len, spillRec := if fire then some s.gtc else s.power.spillRec } }
    let b := if a.domLive 1 then a.sat Reg.PWR_GOV_COUNTS_SPILLS 1 else a
    let d := if fire then b.fault 0x5C uPWR srcNone (min len (2 ^ 32 - 1) * 2 ^ 16) else b
    let e := if s.power.clamp then d else d.trace 10 uPWR none 1 (d.time copyTow)
    have heq : exec .spillAssert s = .next e.clampOn.allToOp0 := congrArg Host.Outcome.next (if_neg (by rw [hstuck]; decide))
    have ha : a.gtc = s.gtc ∧ a.doms = s.doms ∧ a.gates = s.gates ∧ a.power.spillAt = some s.gtc := ⟨rfl, rfl, rfl, rfl⟩
    have hab : a.KeepsClamp b ∧ b.gates = a.gates := by
      dsimp only [b]
      split
      · exact ⟨⟨rfl, rfl, rfl, rfl⟩, rfl⟩
      · exact ⟨.refl a, rfl⟩
    have hbd : b.KeepsClamp d ∧ d.gates = b.gates := by
      dsimp only [d]
      split
      · exact b.fault_keepsClamp _ _ _ _
      · exact ⟨.refl b, rfl⟩
    have hde : d.KeepsClamp e ∧ e.gates = d.gates := by
      dsimp only [e]
      split
      · exact ⟨.refl d, rfl⟩
      · exact d.trace_keepsClamp _ _ _ _ _
    clear_value e d b a
    obtain ⟨hgtc, hdoms, hgates, hspill⟩ := ha
    have hae := (hab.1.trans hbd.1).trans hde.1
    have hegates := (hde.2.trans (hbd.2.trans hab.2)).trans hgates
    exact ⟨{ e with power := { e.power with
      clamp := true, clampAt := if e.power.clamp then e.power.clampAt else e.gtc } },
      ⟨hae.gtc.trans hgtc, hae.doms.trans hdoms, hegates, rfl, hae.spillAt.trans hspill⟩, heq⟩
  obtain ⟨u, ⟨hgtc, hdoms, hgates, hclamp, hspill⟩, heq⟩ := hstart
  have hkeep1 := State.KeepsClamp.foldl State.clampOne (fun u x hx => (u.clampOne_post hx).1) u
  have hall : ∀ c, c < 16 → s.domLive (clDom c) = true → ((List.range 16).foldl State.clampOne u).Clamped c := fun c hc hlive => by
    refine State.clampAll_clamped hc ⟨?_, ?_⟩
    · rw [State.domLive, State.dom, hdoms]
      exact hlive
    · rw [State.gateOf, hgates, hgtc]
      exact hfree c hc
  generalize (List.range 16).foldl State.clampOne u = v at *
  have hkeep2 := State.KeepsClamp.foldl State.zeroOne (fun u x hx => (u.zeroOne_post hx).1) v
  refine ⟨_, heq, (hkeep2.clamp.trans hkeep1.clamp).trans hclamp, (hkeep2.spillAt.trans hkeep1.spillAt).trans hspill, fun c hc hlive => ?_⟩
  obtain ⟨⟨-, hlim, hspilled⟩, hop⟩ := State.zeroAll_zero hc (hall c hc hlive)
  exact ⟨hlim, hspilled, hop⟩

theorem State.putAll_self (f : Nat → Fld) (v : Nat) {n c : Nat} (hc : c < n) (hv : v < (f c).size)
    (hne : ∀ x, x ≠ c → (f c).key ≠ (f x).key) (s : State) : ((List.range n).foldl (fun u x => u.put (f x) v) s).get (f c) = v :=
  foldl_at (step := fun u x => u.put (f x) v) (pre := fun _ => True) (post := fun u : State => u.get (f c) = v) List.nodup_range (List.mem_range.mpr hc)
    (fun _ _ _ _ _ => trivial) (fun _ _ => (State.get_put_self ..).trans (Nat.mod_eq_of_lt hv))
    (fun x _ hx _ hu => (State.get_put_ne _ _ _ _ (hne x hx)).trans hu) trivial

/-- The clamp ends: SPILLED reads 0 in every cluster, and no other register moves. -/
theorem State.clampOff_post (s : State) : s.clampOff.power = { s.power with clamp := false } ∧ s.clampOff.conc = s.conc ∧
    (∀ c, c < 16 → s.clampOff.get (Reg.PWR_CL_OP_SPILLED c) = 0) ∧
    ∀ g : Fld, (∀ c, c < 16 → g.key ≠ (Reg.PWR_CL_OP_SPILLED c).key) → s.clampOff.get g = s.get g := by
  let u : State := { s.shiftSteps (s.gtc - s.power.clampAt) with
    power := { s.power with clamp := false },
    stop := s.stop.map fun (x : StopCmd) => { x with since := x.since + (s.gtc - s.power.clampAt) } }
  have heq : s.clampOff = (List.range 16).foldl (fun u c => u.put (Reg.PWR_CL_OP_SPILLED c) 0) u := rfl
  have hu : u.power = { s.power with clamp := false } ∧ u.conc = s.conc ∧ u.regs = s.regs := ⟨rfl, rfl, rfl⟩
  rw [heq]
  clear heq
  clear_value u
  obtain ⟨hpower, hconc, hregs⟩ := hu
  obtain ⟨hrest, hget⟩ := State.putAll_post Reg.PWR_CL_OP_SPILLED (fun _ => 0) (List.range 16) u
  have hself : ∀ c, c < 16 → ((List.range 16).foldl (fun u c => u.put (Reg.PWR_CL_OP_SPILLED c) 0) u).get (Reg.PWR_CL_OP_SPILLED c) = 0 :=
    fun c hc => State.putAll_self Reg.PWR_CL_OP_SPILLED 0 hc (show 0 < 2 by decide)
      (fun x hx => (Reg.clOp_spilled c).ne hx (Reg.clOp_spilled x)) u
  generalize (List.range 16).foldl (fun u c => u.put (Reg.PWR_CL_OP_SPILLED c) 0) u = t at *
  refine ⟨?_, ?_, hself, fun g hg => (hget g fun c hc => hg c (List.mem_range.mp hc)).trans ?_⟩
  · rw [hrest, hpower]
  · rw [hrest, hconc]
  · rw [State.get, State.get, hregs]

theorem spillRelease_early (hover : s.spillOver 10000 = false) : Gives .spillRelease s (· = s) :=
  ⟨_, congrArg Host.Outcome.next (if_pos (by rw [hover]; rfl)), rfl⟩

theorem spillRelease_ends (hstuck : s.on Reg.PWR_PIN_STATUS_SPILL_STUCK = false) (hover : s.spillOver 10000 = true)
    (hclamp : s.power.clamp = true) : Gives .spillRelease s fun t => t.power.clamp = false ∧
      t.power.spillAt = none ∧ ∀ c, c < 16 → t.get (Reg.PWR_CL_OP_SPILLED c) = 0 ∧ t.op c = s.op c ∧
        t.get (Reg.PWR_CL_OP_LIMIT c) = s.get (Reg.PWR_CL_OP_LIMIT c) := by
  let len := match s.power.spillAt with
    | some t => s.gtc - t - 10000
    | none => s.power.spillLen
  let u : State := { s with power := { s.power with spillLen := len, spillAt := none } }
  have heq : exec .spillRelease s = .next (u.clampOff.trace 10 uPWR none 0 (u.time copyTow)) := by
    refine congrArg Host.Outcome.next ((if_neg (by rw [hover]; decide)).trans ((if_neg (by rw [hstuck]; decide)).trans ?_))
    exact if_neg (by rw [hclamp]; decide)
  have hu : u.power.spillAt = none ∧ ∀ g, u.get g = s.get g := ⟨rfl, fun _ => rfl⟩
  clear_value u
  obtain ⟨hat, hugets⟩ := hu
  obtain ⟨hpower, -, hspilled, hget⟩ := u.clampOff_post
  generalize u.clampOff = v at *
  obtain ⟨hrest, htget⟩ := v.trace_rest 10 uPWR none 0 (u.time copyTow)
  generalize v.trace 10 uPWR none 0 (u.time copyTow) = w at *
  have hwpower : w.power = v.power := (congrArg State.power hrest :)
  refine ⟨w, heq, ?_, ?_, fun c hc => ⟨(htget _ ((Reg.clOp_spilled c).ne_drop hc)).trans (hspilled c hc), ?_, ?_⟩⟩
  · rw [hwpower, hpower]
  · rw [hwpower, hpower, hat]
  · refine (htget _ ((Reg.clOp_op c).ne_drop hc)).trans ((hget _ fun x _ => ?_).trans (hugets _))
    exact (Fld.OfClOp.ne_op (Reg.clOp_spilled x) (show 0 ≠ 8 by decide)).symm
  · refine (htget _ ((Reg.clOp_limit c).ne_drop hc)).trans ((hget _ fun x _ => ?_).trans (hugets _))
    simp only [Fld.key]
    omega

theorem spillStuck_early (hover : s.spillOver 1000000 = false) : Gives .spillStuck s (· = s) :=
  ⟨_, congrArg Host.Outcome.next (if_pos (.inr (.inr (by rw [hover]; rfl)))), rfl⟩

theorem State.pinEvent_post (s : State) : s.pinEvent.power = s.power ∧ s.pinEvent.conc = s.conc ∧ s.pinEvent.regs = s.regs := by
  unfold State.pinEvent State.eventIf
  split
  · exact ⟨rfl, rfl, rfl⟩
  · exact ⟨rfl, rfl, rfl⟩

theorem spillStuck_found (hstuck : s.on Reg.PWR_PIN_STATUS_SPILL_STUCK = false) (hover : s.spillOver 1000000 = true)
    (hclamp : s.power.clamp = true) : Gives .spillStuck s fun t => t.get Reg.PWR_PIN_STATUS_SPILL_STUCK = 1 ∧
      t.power.clamp = false ∧ t.power.stuckCap = true ∧ t.conc.nextId = s.conc.nextId + 1 := by
  let a := (s.put Reg.PWR_PIN_STATUS_SPILL_STUCK 1).pinEvent
  let b := a.fault 0x5C uPWR srcNone (1 + min a.power.spillLen (2 ^ 32 - 1) * 2 ^ 16)
  let u : State := { b with power := { b.power with stuckCap := true, spillAt := some b.gtc } }
  have heq : exec .spillStuck s = .next (u.clampOff.trace 10 uPWR none 0 (u.time copyTow)) := by
    refine congrArg Host.Outcome.next (if_neg ?_)
    rw [hstuck, hover, hclamp]
    decide
  have ha : a.get Reg.PWR_PIN_STATUS_SPILL_STUCK = 1 ∧ a.conc.nextId = s.conc.nextId := by
    obtain ⟨-, hconc, hregs⟩ := (s.put Reg.PWR_PIN_STATUS_SPILL_STUCK 1).pinEvent_post
    refine ⟨?_, congrArg Conc.nextId hconc⟩
    rw [State.get, hregs]
    exact State.get_put_self ..
  have hb : a.Filed b 1 := a.fault_filed ..
  have hu : u.power.stuckCap = true ∧ u.conc = b.conc ∧ ∀ g, u.get g = b.get g := ⟨rfl, rfl, fun _ => rfl⟩
  clear_value u b a
  obtain ⟨hastuck, haid⟩ := ha
  obtain ⟨hcap, hconc, hugets⟩ := hu
  obtain ⟨hpower, hoffconc, -, hget⟩ := u.clampOff_post
  generalize u.clampOff = v at *
  have hid := v.trace_nextId 10 uPWR none 0 (u.time copyTow)
  obtain ⟨hrest, htget⟩ := v.trace_rest 10 uPWR none 0 (u.time copyTow)
  generalize v.trace 10 uPWR none 0 (u.time copyTow) = w at *
  have hwpower : w.power = v.power := (congrArg State.power hrest :)
  refine ⟨w, heq, ?_, ?_, ?_, ?_⟩
  · refine (htget _ (by decide)).trans ((hget _ fun x _ => ?_).trans ((hugets _).trans ((hb.get _ (by decide) (by decide)).trans hastuck)))
    simp only [Fld.key]
    omega
  · rw [hwpower, hpower]
  · rw [hwpower, hpower, hcap]
  · rw [hid, hoffconc, hconc, hb.nextId, haid]

theorem spillRelease_unsticks (hstuck : s.on Reg.PWR_PIN_STATUS_SPILL_STUCK = true) (hover : s.spillOver 10000 = true) :
    Gives .spillRelease s fun t => t.get Reg.PWR_PIN_STATUS_SPILL_STUCK = 0 ∧ t.power = s.power := by
  have heq : exec .spillRelease s = .next (s.put Reg.PWR_PIN_STATUS_SPILL_STUCK 0).pinEvent :=
    congrArg Host.Outcome.next ((if_neg (by rw [hover]; decide)).trans (if_pos hstuck))
  obtain ⟨hpower, -, hregs⟩ := (s.put Reg.PWR_PIN_STATUS_SPILL_STUCK 0).pinEvent_post
  refine ⟨_, heq, ?_, hpower⟩
  rw [State.get, hregs]
  exact State.get_put_self ..

end Power

end Sys2Proof.Machine

namespace Sys2Proof.Machine

section Power

variable {s t u : State}

/-! ### The pace group (R615-R618) -/

theorem paceSend_still (hl : s.domLive 1 = true) (h : s.lockstep = false ∨ s.gtc % s.pacePeriod ≠ 0 ∨
    (s.paceWord s.ownDie (applyKey (s.gtc + 2 * s.pacePeriod))).isSome = true) : Gives .paceSend s (· = s) := by
  refine ⟨_, exec_tow (execPaceSend.eq_1 ..) hl (congrArg Host.Outcome.next (if_pos ?_)), rfl⟩
  exact h.imp (fun h => by rw [h]; rfl) id

/-- A port of the group: it is asked for, and it is not the one that is left out. -/
theorem State.paceSendOn_mem (s : State) (w : PaceWord) (out : Option Nat) {n : Nat} (hn : n < 6)
    (hport : bitAt (s.get Reg.PWR_PACE_CTRL_PORTS) n = true) (hout : out ≠ some n) : (n, w) ∈ (s.paceSendOn w out).power.paceOut := by
  refine List.mem_append_right _ (List.mem_map.mpr ⟨n, List.mem_filter.mpr ⟨List.mem_range.mpr hn, ?_⟩, rfl⟩)
  rw [hport, Bool.true_and]
  exact bne_iff_ne.mpr (Ne.symm hout)

theorem paceSend_sends (hl : s.domLive 1 = true) (hlock : s.lockstep = true) {f : Nat} (hdue : s.gtc % s.pacePeriod = 0)
    (hnone : s.paceWord s.ownDie (applyKey (s.gtc + 2 * s.pacePeriod)) = none) (hf : s.fSelf = some f) :
    Gives .paceSend s fun t =>
      let w : PaceWord := ⟨s.ownDie, applyKey (s.gtc + 2 * s.pacePeriod), f, s.power.lagNext, 16⟩
      t.power.paceIn = s.power.paceIn ++ [w] ∧ t.power.lagNext = false ∧
      ∀ n, n < 6 → bitAt (s.get Reg.PWR_PACE_CTRL_PORTS) n = true → (n, w) ∈ t.power.paceOut := by
  let w : PaceWord := ⟨s.ownDie, applyKey (s.gtc + 2 * s.pacePeriod), f, s.power.lagNext, 16⟩
  let u : State := { s.tookFree with power := { s.power with lagNext := false } }
  have heq : exec .paceSend s = .next ((u.keepPace w).paceSendOn w none) := by
    refine exec_tow (execPaceSend.eq_1 ..) hl (congrArg Host.Outcome.next ((if_neg ?_).trans ?_))
    · rw [hlock, hdue, hnone]
      decide
    · rw [hf]
      rfl
  have hu : u.power.paceIn = s.power.paceIn ∧ u.power.lagNext = false ∧
      u.get Reg.PWR_PACE_CTRL_PORTS = s.get Reg.PWR_PACE_CTRL_PORTS := ⟨rfl, rfl, rfl⟩
  clear_value u
  obtain ⟨hin, hlag, hports⟩ := hu
  refine ⟨_, heq, congrArg (· ++ [w]) hin, hlag, fun n hn hport => State.paceSendOn_mem _ w none hn ?_ (by simp)⟩
  exact (congrArg (fun v => bitAt v n) hports).trans hport

theorem State.pacePrepare_none (s : State) (f : Nat) (h : s.openClusters none = []) : s.pacePrepare f = s := by
  unfold State.pacePrepare
  rw [h]
  rfl

theorem paceWordReceive_known (hl : s.domLive 1 = true) (port : BitVec 3) (word : BitVec 128)
    (h : s.paceWord (bits word.toNat 24 16) (bits word.toNat 63 32) ≠ none) : Gives (.paceWordReceive port word) s (· = s) := by
  have hknown : (s.paceWord (bits word.toNat 24 16) (bits word.toNat 63 32)).isSome = true := Option.isSome_iff_ne_none.mpr h
  refine ⟨s, exec_tow (execPaceWordReceive.eq_1 port word s) hl ?_, rfl⟩
  dsimp only
  rw [if_pos (.inr (.inr hknown))]

/-- A word of a peer, as the port of the group takes it. -/
def paceOf (v : Nat) : PaceWord := ⟨bits v 24 16, bits v 63 32, bits v 79 64, bitAt v 8, bits v 87 80 - 1⟩

/-- A word that comes back early takes its sender in again. -/
def State.readmit (s : State) (early : Bool) (origin : Nat) : State :=
  if early ∧ s.power.excluded.contains origin then
    { s with power := { s.power with
        excluded := s.power.excluded.erase origin, absent := s.power.absent.set origin 0 } }.put
      Reg.PWR_PACE_STATUS_EXCLUDED (s.power.excluded.length - 1)
  else s

theorem State.readmit_post (s : State) (early : Bool) (origin : Nat) :
    (s.readmit early origin).power.paceIn = s.power.paceIn ∧ (s.readmit early origin).power.paceOut = s.power.paceOut ∧
      (s.readmit early origin).doms = s.doms ∧
      (s.readmit early origin).get Reg.PWR_PACE_CTRL_PORTS = s.get Reg.PWR_PACE_CTRL_PORTS := by
  unfold State.readmit
  split
  · exact ⟨rfl, rfl, rfl, State.get_put_ne _ _ _ _ (by decide)⟩
  · exact ⟨rfl, rfl, rfl, rfl⟩

theorem paceWordReceive_taken (hl : s.domLive 1 = true) (hlock : s.lockstep = true) (port : BitVec 3) (word : BitVec 128)
    (hgroup : bits word.toNat 7 0 = s.get Reg.PWR_PACE_CTRL_GROUP)
    (hnone : s.paceWord (bits word.toNat 24 16) (bits word.toNat 63 32) = none) (hopen : s.openClusters none = []) :
    Gives (.paceWordReceive port word) s fun t => t.power.paceIn = s.power.paceIn ++ [paceOf word.toNat] ∧
      (1 < bits word.toNat 87 80 → ∀ n, n < 6 → n ≠ port.toNat → bitAt (s.get Reg.PWR_PACE_CTRL_PORTS) n = true →
        (n, paceOf word.toNat) ∈ t.power.paceOut) ∧
      (bits word.toNat 87 80 ≤ 1 → t.power.paceOut = s.power.paceOut) := by
  let w := paceOf word.toNat
  let early := decide (applyKey (s.gtc + s.pacePeriod / 2) ≤ bits word.toNat 63 32)
  let r := (s.keepPace w).readmit early (bits word.toNat 24 16)
  let v := if 1 < bits word.toNat 87 80 then r.paceSendOn w (some port.toNat) else r
  obtain ⟨hrin, hrout, hrdoms, hrports⟩ := (s.keepPace w).readmit_post early (bits word.toNat 24 16)
  have hv : v.power.paceIn = s.power.paceIn ++ [w] ∧ v.doms = s.doms := by
    dsimp only [v]
    split
    · exact ⟨hrin, hrdoms⟩
    · exact ⟨hrin, hrdoms⟩
  have hvopen : v.openClusters none = [] := (State.openClusters_congr hv.2 none).trans hopen
  have heq : exec (.paceWordReceive port word) s = .next v := by
    have hgo : ¬((!s.lockstep) = true ∨ bits word.toNat 7 0 ≠ s.get Reg.PWR_PACE_CTRL_GROUP ∨
        (s.paceWord (bits word.toNat 24 16) (bits word.toNat 63 32)).isSome = true) := by
      rintro (h | h | h)
      · rw [hlock] at h
        exact absurd h (by decide)
      · exact h hgroup
      · rw [hnone] at h
        exact absurd h (by decide)
    refine exec_tow (execPaceWordReceive.eq_1 port word s) hl (congrArg Host.Outcome.next ((if_neg hgo).trans ?_))
    extract_lets
    split
    · exact State.pacePrepare_none _ _ hvopen
    · rfl
  refine ⟨v, heq, hv.1, fun hhops n hn hne hport => ?_, fun hhops => ?_⟩
  · have hvs : v = r.paceSendOn w (some port.toNat) := if_pos hhops
    rw [hvs]
    refine State.paceSendOn_mem _ w _ hn ?_ (by simpa using Ne.symm hne)
    rw [hrports]
    exact hport
  · have hvr : v = r := if_neg (by omega)
    rw [hvr, hrout]
    rfl

theorem paceApply_still (hl : s.domLive 1 = true) (h : s.lockstep = false ∨ s.gtc = s.power.paceAt) : Gives .paceApply s (· = s) := by
  refine ⟨_, exec_tow (execPaceApply.eq_1 ..) hl (congrArg Host.Outcome.next (if_pos ?_)), rfl⟩
  exact h.imp (fun h => by rw [h]; rfl) Or.inr

/-- Where every member has sent its word, a pass for absences only clears the counts of absences. -/
theorem State.paceAbsence_none {key : Nat} (l : List Nat) (hex : s.power.excluded = []) (hall : ∀ d ∈ l, s.paceWord d key ≠ none) :
    ∃ a, l.foldl (fun s d => s.paceAbsence key d) s = { s with power := { s.power with absent := a } } := by
  induction l generalizing s with
  | nil => exact ⟨s.power.absent, rfl⟩
  | cons d l ih =>
    have hone : s.paceAbsence key d = { s with power := { s.power with absent := s.power.absent.set d 0 } } := by
      unfold State.paceAbsence
      rw [hex, if_neg (by simp), if_pos (Option.isSome_iff_ne_none.mpr (hall d List.mem_cons_self))]
    rw [List.foldl_cons, hone]
    obtain ⟨a, ha⟩ := ih (s := { s with power := { s.power with absent := s.power.absent.set d 0 } }) hex
      (fun x hx => hall x (List.mem_cons_of_mem _ hx))
    exact ⟨a, ha⟩

theorem State.fGroup_congr (hregs : t.regs = s.regs) (hex : t.power.excluded = s.power.excluded)
    (hin : t.power.paceIn = s.power.paceIn) (hlast : t.power.lastF = s.power.lastF) (key : Nat) : t.fGroup key = s.fGroup key := by
  unfold State.fGroup State.paceMembers State.paceWord State.get
  rw [hregs, hex, hin, hlast]

theorem paceApply_applies (hl : s.domLive 1 = true) (hlock : s.lockstep = true) {f : Nat} (hdue : s.gtc % s.pacePeriod = 0)
    (hat : s.gtc ≠ s.power.paceAt) (hopen : s.openClusters none = []) (hf : f < 4096) (hex : s.power.excluded = [])
    (hall : ∀ d ∈ s.paceMembers, s.paceWord d (applyKey s.gtc) ≠ none) (hgroup : s.fGroup (applyKey s.gtc) = some f) :
    Gives .paceApply s fun t => t.get Reg.PWR_PACE_STATUS_F_GROUP = f ∧ t.get Reg.PWR_PACE_STATUS_LAG = 0 ∧
      t.power.paceAt = s.gtc ∧ ∀ w ∈ t.power.paceIn, w.at_ ≠ applyKey s.gtc := by
  obtain ⟨a, ha⟩ := State.paceAbsence_none (s := { s with power := { s.power with paceAt := s.gtc } }) s.paceMembers hex hall
  let u : State := { s with power := { s.power with paceAt := s.gtc, absent := a } }
  let x := (u.put Reg.PWR_PACE_STATUS_F_GROUP f).put Reg.PWR_PACE_STATUS_LAG 0
  have heq : exec .paceApply s = .next { x with power := { x.power with
      lagNext := x.power.lagNext || false, paceIn := x.power.paceIn.filter fun (w : PaceWord) => w.at_ != applyKey s.gtc } } := by
    refine exec_tow (execPaceApply.eq_1 ..) hl (congrArg Host.Outcome.next ((if_neg ?_).trans ?_))
    · rw [hlock, hdue]
      simpa using hat
    · extract_lets p s1 s2 p'
      have hs2 : s2 = u := ha
      have hfg : u.fGroup (applyKey s.gtc) = some f := (State.fGroup_congr (s := s) (t := u) rfl rfl rfl rfl _).trans hgroup
      have hno : u.openClusters none = [] := (State.openClusters_congr (s := s) (t := u) rfl none).trans hopen
      rw [hs2, hfg]
      dsimp only
      rw [hno]
      rfl
  refine ⟨_, heq, ?_, State.get_put_self .., rfl, fun w hw => ?_⟩
  · refine (State.get_put_ne _ _ _ _ (by decide)).trans ((State.get_put_self ..).trans ?_)
    exact Nat.mod_eq_of_lt hf
  · exact bne_iff_ne.mp (List.mem_filter.mp hw).2

end Power

end Sys2Proof.Machine

namespace Sys2Proof.Machine

section Power

variable {s : State}

theorem clusterOpen_unmet (hl : s.domLive 1 = true) (h : s.on Reg.PWR_EFF_CAP_UNMET = true) : Gives .clusterOpenOnDemand s (· = s) :=
  ⟨_, exec_tow (execClusterOpenOnDemand.eq_1 ..) hl (congrArg Host.Outcome.next (if_pos (.inr h))), rfl⟩

theorem unmetStep_met (hl : s.domLive 1 = true) (h : s.on Reg.PWR_EFF_CAP_UNMET = false) : Gives .unmetStep s (· = s) :=
  ⟨_, exec_tow (execUnmetStep.eq_1 ..) hl (congrArg Host.Outcome.next (if_pos (.inl (by rw [h]; rfl)))), rfl⟩

end Power

/-- Settles O46: a pass over the clusters that moves nothing only shows its allotment, and an interval keeps what it metered. -/
theorem powerControl : Obligations.PowerControl := by
  unfold Obligations.PowerControl
  intro s p sat still
  refine ⟨fun hl => ⟨fun un tiles => estimateInterval_meters hl un tiles, fun t0 k rest => phaseReport_taken hl,
    fun c rest => demandReport_taken hl, fun c hready hunmet => clusterOpens hl hready hunmet, clusterOpen_unmet hl,
    fun cl => clusterIdle_closes hl cl, unmetStep_met hl, fun c hunmet hat => unmet_parks hl hunmet hat,
    fun src v hreach => ⟨leaseWrite_taken hl src v hreach, leaseWrite_dropped hl src v hreach⟩,
    fun t0 hend hstate => leaseExpires hl hend hstate, phaseClear_clears hl, fun hlock => ⟨?_, ?_, ?_, ?_, ?_⟩,
    fun hlock => ⟨paceSend_still hl (.inl hlock), paceApply_still hl (.inl hlock)⟩⟩, fun hstuck => ⟨?_, ?_, ?_, ?_, ?_⟩,
    spillRelease_unsticks⟩
  · exact fun h => paceSend_still hl (.inr h)
  · exact fun f hdue hnone hf => paceSend_sends hl hlock hdue hnone hf
  · exact fun port word => ⟨paceWordReceive_known hl port word, paceWordReceive_taken hl hlock port word⟩
  · exact fun h => paceApply_still hl (.inr h)
  · exact fun f hdue hat hopen hf hex hall hgroup => paceApply_applies hl hlock hdue hat hopen hf hex hall hgroup
  · exact spillAssert_clamps hstuck
  · exact spillRelease_early
  · exact spillRelease_ends hstuck
  · exact spillStuck_early
  · exact spillStuck_found hstuck

end Sys2Proof.Machine
